-- ==== Sys2Proof/Word.lean ====
section
/-!
DEFINITION. Bytes and the plainest arithmetic on fields: bits, truncation, two's complement, little-endian bytes (R4, R5).
-/

namespace Sys2Proof

/-- One byte of memory or of a record. -/
abbrev Byte := BitVec 8

/-- The low `w` bits of `n`. -/
abbrev trunc (w n : Nat) : Nat := n % 2 ^ w

/-- Bit `i` of `n` (R4: bit 0 is the least significant). -/
def bitAt (n i : Nat) : Bool := n / 2 ^ i % 2 == 1

/-- `n` with bit `i` set. -/
def setBit (n i : Nat) : Nat := if bitAt n i then n else n + 2 ^ i

/-- `n` with bit `i` cleared. -/
def clrBit (n i : Nat) : Nat := if bitAt n i then n - 2 ^ i else n

/-- `n` with bit `i` made equal to `b`. -/
def putBit (n i : Nat) (b : Bool) : Nat := if b then setBit n i else clrBit n i

/-- The `w` bits of `n` from bit `lo`. -/
def slice (n lo w : Nat) : Nat := n / 2 ^ lo % 2 ^ w

/-- 1 for true, 0 for false. -/
abbrev b2n (b : Bool) : Nat := if b then 1 else 0

/-- The value of a `w`-bit two's complement field. -/
def sval (w n : Nat) : Int := if n % 2 ^ w < 2 ^ (w - 1) then (n % 2 ^ w : Nat) else (n % 2 ^ w : Nat) - (2 ^ w : Nat)

/-- The `w`-bit two's complement field of an integer. -/
def sfield (w : Nat) (z : Int) : Nat := (z % (2 ^ w : Nat)).toNat

/-- The `n` little-endian bytes of `v` (R5). -/
def le : Nat → Nat → List Byte
  | 0, _ => []
  | n + 1, v => BitVec.ofNat 8 v :: le n (v / 256)

/-- The value of little-endian bytes (R5). -/
def ofLe : List Byte → Nat
  | [] => 0
  | b :: bs => b.toNat + 256 * ofLe bs

/-- The number of set bits among the low `w` bits of `n`. -/
def popcount : Nat → Nat → Nat
  | 0, _ => 0
  | w + 1, n => n % 2 + popcount w (n / 2)

/-- Quotient rounded up. -/
def ceilDiv (a b : Nat) : Nat := (a + b - 1) / b

/-- Device time arithmetic modulo 2^64 (R16). -/
abbrev dtAdd (a b : Nat) : Nat := (a + b) % 2 ^ 64

/-- A DT interval: the unsigned difference modulo 2^64 (R16). -/
def dtSub (a b : Nat) : Nat := (a + 2 ^ 64 - b % 2 ^ 64) % 2 ^ 64

/-- `a` is at or after `b`, DT values less than half the counter's range apart. -/
def dtGe (a b : Nat) : Bool := dtSub a b < 2 ^ 63

/-- Round to nearest, ties away from zero (R125), of `z / 2^k`. -/
def roundShift (z : Int) (k : Nat) : Int :=
  if 0 ≤ z then (z + 2 ^ k / 2) / 2 ^ k else -((-z + 2 ^ k / 2) / 2 ^ k)

/-- Saturation to a `w`-bit two's complement range. -/
def satInt (w : Nat) (z : Int) : Int :=
  if z > 2 ^ (w - 1) - 1 then 2 ^ (w - 1) - 1 else if z < -(2 ^ (w - 1)) then -(2 ^ (w - 1)) else z

end Sys2Proof
end

