-- ==== Sys2Proof/Machine/Data.lean ====
section
/-!
DEFINITION. The data that commands carry, that queues inside the device hold and that the device puts out.
-/

namespace Sys2Proof.Machine

/-- The operating modes of R34. -/
inductive Mode where
  | hold | vigil | service | ready | quad | paired
  deriving DecidableEq, Repr

/-- The code of a mode in PWR_MODE and MODE_GET (R353, R386). -/
def Mode.code : Mode → Nat
  | .hold => 0 | .vigil => 1 | .service => 2 | .ready => 3 | .quad => 4 | .paired => 5

/-- The mode of a code; a code above 5 names none. -/
def Mode.ofCode : Nat → Option Mode
  | 0 => some .hold | 1 => some .vigil | 2 => some .service | 3 => some .ready | 4 => some .quad | 5 => some .paired
  | _ => none

/-- Channel pipelines handle sample blocks in QUAD and PAIRED (R34, R40). -/
def Mode.acquires : Mode → Bool
  | .quad => true | .paired => true | _ => false

/-- Where a mailbox command comes from: mailbox ring m, queue 7,936 + m (R308), or the urgent mailbox (R351). -/
inductive MbxSource where
  | ring (m : Nat)
  | urgent
  deriving DecidableEq, Repr

/-- The header of a mailbox command (R340): the die that takes it, its source, TAG and DIE. With `takeOnly` the engine takes the command
and firmware has not answered it yet (R345, R346); a later command of the same row answers it. -/
structure MbxHdr where
  die : Nat
  src : MbxSource
  tag : Nat
  dieField : Nat
  takeOnly : Bool
  deriving DecidableEq, Repr

/-- A command taken and not yet answered (R345): its response index and phase, the time it was taken, and whether its response
will be discarded because its ring was disabled or its endpoint reset (R312, R448). -/
structure Taken where
  die : Nat
  src : MbxSource
  tag : Nat
  opcode : Nat
  index : Nat
  phase : Nat
  takenAt : Nat
  dropped : Bool
  deriving DecidableEq, Repr

/-- An outstanding command (R348). `late` marks an ENGINE_LONG conversion (R346), `converted` one that is still to be carried out, `deferred` a
command that waits for Harvest or for a retirement, `done` holds the final status and results of work that is complete. -/
structure Outstanding where
  die : Nat
  src : MbxSource
  tag : Nat
  opcode : Nat
  late : Bool
  converted : Bool
  deferred : Bool
  unit : Nat
  done : Option (Nat × List Byte)
  deriving DecidableEq, Repr

/-- A finished outstanding command, kept for LONG_RESULT (R348). -/
structure Kept where
  die : Nat
  tag : Nat
  status : Nat
  results : List Byte
  deriving DecidableEq, Repr

/-- A record not yet released by its consumer: die, queue, entry index, event source where it has one, whether it counts (R329), and the core-cycle
time it was written. -/
structure RingRec where
  die : Nat
  q : Nat
  index : Nat
  source : Option Nat
  countable : Bool
  wrote : Nat
  deriving DecidableEq, Repr

/-- A counted protocol violation of a mailbox ring (R364). -/
structure Viol where
  die : Nat
  ring : Nat
  ticks : Nat
  deriving DecidableEq, Repr

/-- A request at a Distaff core (R329, R336). -/
structure CoreReq where
  core : Nat
  prio : Nat
  q : Nat
  deriving DecidableEq, Repr

/-- What a request that Harvest admits asks for (R377, R381). -/
inductive Request where
  | mode (m : Mode)
  | arm (d a : Nat)
  | accStart (d c : Nat)
  | timEnable (d u : Nat)
  | comb (d c : Nat) (allow store : Bool)
  | rethread (d unit : Nat)
  | storeWrite
  | refit
  | spliceRetrain (d lane : Nat)
  | test (n : Nat)
  deriving DecidableEq, Repr

/-- A request in a deferred queue (R381): its die, its queue, and the mailbox command it answers, with its opcode. -/
structure Deferred where
  die : Nat
  maint : Bool
  req : Request
  cmd : Option (MbxHdr × Nat)
  deriving DecidableEq, Repr

/-- A maintenance activity (R404). -/
inductive Activity where
  | rethreadSetup (d unit : Nat)
  | rethreadSwap (d unit : Nat)
  | pcCopy (d h p : Nat)
  | pcRemap (d h p : Nat)
  | cmpSwap (d u : Nat)
  | laneSwap (d l : Nat)
  | sramCopy (d b : Nat)
  | comb (d c : Nat)
  | spliceRetrain (d l : Nat)
  | storeWrite
  | scrub (d h : Nat)
  | refit
  | cardUpdate (d c : Nat)
  | test (n : Nat)
  deriving DecidableEq, Repr

/-- A claim of resource groups (R404, R405): the activity, its precedence, its die, the groups by their MNT_GROUP number. -/
structure Claim where
  act : Activity
  prec : Nat
  die : Nat
  groups : List Nat
  deriving DecidableEq, Repr

-- Instants, samples and triggers ------------------------------------------------------------------

/-- A DT with its fraction, in fraction units: ticks · 4,096 + fraction (R15). -/
abbrev Instant := Nat

/-- The sample of a global channel at one instant, with its neighbourhood: the stage 3 codes x[r − 82] to x[r + 19], r the recognised
sample, from which stage 5 gives the values x[r − 67] to x[r + 3] that R161 reads. -/
structure ChanSample where
  chan : Nat
  xs : List Int
  deriving DecidableEq, Repr

/-- A crossing of a source (R151, R157): source code, level, direction, its DT and the SLOW flag (R161). -/
structure Crossing where
  src : Nat
  level : Nat
  rising : Bool
  dt : Instant
  slow : Bool
  deriving DecidableEq, Repr

/-- A transition of a logic comparator as the time-to-digital converter stamps it (R269, R273): channel, instant, direction. -/
structure LogicEdge where
  chan : Nat
  dt : Instant
  rising : Bool
  deriving DecidableEq, Repr

/-- What stands at the pins of a die's logic inputs at one logic sample (R262), in µV: the P and the N ball of each channel, and the two
reference balls. -/
structure LogicPins where
  p : List Int
  n : List Int
  refA : Int
  refB : Int
  deriving DecidableEq, Repr

/-- The pins of a die from the P and N ball of each channel and the two reference balls. -/
def LogicPins.of (balls : List (Int × Int)) (refs : Int × Int) : LogicPins := ⟨balls.map (·.1), balls.map (·.2), refs.1, refs.2⟩

/-- What reaches the trigger engines in a core cycle (R168): a crossing, and the sample at which a die recognises it; the three-state value
of a global channel from a sample on; the states of a die's logic channels, and which of them are unresolved, from a sample on; a force of a
sequencer at a DT, by the Calendar or by a register. -/
inductive Arrival where
  | crossing (die : Nat) (sample : Instant) (x : Crossing)
  | view (chan value : Nat) (sample : Instant)
  | logic (die : Nat) (sample : Instant) (state unresolved : Nat)
  | force (die q : Nat) (at_ : Instant) (cue : Bool)
  deriving DecidableEq, Repr

/-- A fire of a term (R154): the term, the fire DT and the SLOW flag. -/
structure TermFire where
  term : Nat
  dt : Instant
  slow : Bool
  deriving DecidableEq, Repr

/-- A trigger descriptor (R173). -/
structure TrigDesc where
  dt : Instant
  term : Nat
  coinTaken : Nat
  coinOther : Nat
  forced : Bool
  coincident : Bool
  late : Bool
  slow : Bool
  discards : Nat
  deriving DecidableEq, Repr

/-- A gap that is open (R214): its cause, the first missing position, how many are missing so far and REF. -/
structure OpenGap where
  cause : Nat
  first : Nat
  len : Nat
  refNo : Nat
  deriving DecidableEq, Repr

/-- A gap record written since the arm: its sequence number, its cause and the positions it covers (R204, R210). -/
structure GapSpan where
  seq : Nat
  cause : Nat
  first : Nat
  len : Nat
  deriving DecidableEq, Repr

/-- A mark that waits (R210, R211): the position of the stored sample at or after its DT, and its fields. POSITION, MARK_SEQ and the
IN_GAP and SEGMENT flags are fixed when that sample commits; then the mark is `placed`. -/
structure WaitMark where
  pos : Nat
  kind : Nat
  dt : Instant
  flags : Nat
  terms : Nat
  payload : Nat
  placed : Bool
  position : Nat
  seq : Nat
  deriving DecidableEq, Repr

/-- A codeword as its cells give it when it is read (R186, R187): stack, codeword number, and the symbols in error, each with what the cells
add to it, modulo 2, bit by bit. What the cells give is not computable from the state. -/
structure ReadWord where
  stack : Nat
  word : Nat
  errs : List (Nat × Nat)
  deriving DecidableEq, Repr

/-- A data descriptor as the device reads it from host memory (R319). -/
structure DataDesc where
  addr : Nat
  length : Nat
  tag : Nat
  reserved : Nat
  deriving DecidableEq, Repr

/-- A completed segment in the record queue (R202): slot, SEQ, and the fields of R204 that are fixed at completion; for the library,
SEG_LEN, the DT of the first held sample and the grid period, the LC words held, whether the mode was PAIRED, and when the segment
opened (R358 to R361). -/
structure SegRec where
  slot : Nat
  seq : Nat
  desc : TrigDesc
  flags : Nat
  startOfs : Nat
  preCount : Nat
  postMem : Nat
  spillIndex : Nat
  nomFirst : Int
  nomLast : Int
  first : Nat
  format : Nat
  len : Nat
  firstAt : Instant
  period : Nat × Nat
  words : Nat
  paired : Bool
  began : Nat
  deriving DecidableEq, Repr

/-- A chunk (R207, R208): its header fields, how many stored samples it holds and the place of the first in the buffer, the positions it
spans, the tick its first sample was committed at, and the bytes that stand before its samples (R361). -/
structure Chunk where
  firstIndex : Nat
  firstDt : Instant
  flags : Nat
  gapSeq : Nat
  spillSeq : Nat
  count : Nat
  place : Nat
  firstPos : Nat
  lastPos : Nat
  opened : Nat
  head : List Byte
  deriving DecidableEq, Repr

/-- An entry of the segment library index (R359). -/
structure LibEntry where
  die : Nat
  set : Nat
  recd : SegRec
  skipped : Nat
  gapCount : Nat
  gapFirst : Nat
  deriving DecidableEq, Repr

/-- A chunk that a delivery is still to read (R361): its entry, the bytes before its samples, the first held sample and how many; for an
overview, the first of its points, how many, and how many the overview has. -/
structure LibPart where
  entry : LibEntry
  head : List Byte
  first : Nat
  count : Nat
  points : Option Nat
  flags : Nat
  deriving DecidableEq, Repr

/-- A delivery by the segment library (R358 to R361): its die and set, the die that took the command with its tag and opcode, the data
ring, whether it runs, the format of its payload, the chunks left to read, the chunks and payload bytes sent, and the segments it covers. -/
structure Delivery where
  die : Nat
  set : Nat
  cmdDie : Nat
  tag : Nat
  opcode : Nat
  queue : Nat
  running : Bool
  format : Nat
  chunks : List LibPart
  sent : Nat
  bytes : Nat
  segs : Nat
  deriving DecidableEq, Repr

/-- The open segment of a set (R198): whether one is open, its first position O, the first position that committed into its slot, slot and
SEQ, what it carries (R205), the accepted trigger with its stored sample T, the first position held (R200, R201), POST_MEM (R198), what is
spilled so far, and when it opened. -/
structure OpenSeg where
  isOpen : Bool
  o : Nat
  from_ : Nat
  slot : Nat
  seq : Nat
  overwritten : Bool
  rethreaded : Bool
  trig : Option (Nat × TrigDesc)
  firstHeld : Nat
  postMem : Nat
  spilled : Nat
  spillIndex : Nat
  began : Nat
  deriving DecidableEq, Repr

/-- The elastic or spill buffer of a set: bits held, samples put in since the arm, the chunk being filled, closed chunks, CHUNK_SEQ, whether the next chunk
carries FIRST, and the gap that precedes it (R207 to R209). -/
structure ElasticBuf where
  fill : Nat
  put : Nat
  cur : Option Chunk
  closed : List Chunk
  chunkSeq : Nat
  firstFlag : Bool
  gapBefore : Option Nat
  deriving DecidableEq, Repr

/-- The LC writer of a die (R217, R271): tick and state of the last record, the mask last written, LC words written into the slot,
the runs it holds as word offset and ANCHOR tick, and the tick from which it drops changes (R218). -/
structure LcWriter where
  lastTick : Nat
  lastState : Nat
  lastMask : Nat
  words : Nat
  runs : List (Nat × Nat)
  dropFrom : Option Nat
  deriving DecidableEq, Repr

/-- An acquisition set while it is armed, or with marks and gap records that still wait (R193 to R218).
Positions are those of the channel's output grid (R192); for a logic set they are DT ticks. -/
structure Acq where
  /-- First stored sample of the arm. -/
  first : Nat
  /-- The next position to commit. -/
  next : Nat
  /-- The stop DT (R196). -/
  stopAt : Option Instant
  seg : OpenSeg
  /-- SKIPPED of the next record (R199). -/
  skipped : Nat
  /-- Slots whose record of this arm is VALID (R205). -/
  validSlots : List Nat
  recQueue : List SegRec
  /-- When the record at the head of the queue reached it (R202). -/
  headSince : Nat
  /-- The segments opened since the arm, newest first: their first committed position and SEQ (R210). -/
  segs : List (Nat × Nat)
  gap : Option OpenGap
  gaps : List GapSpan
  /-- Gap records that wait for the gap ring, with their number in the gap log (R216). -/
  gapWait : List (Nat × List Byte)
  markWait : List WaitMark
  /-- Positions and sequence numbers of the placed marks that chunks not yet delivered may hold (R208). -/
  markPos : List (Nat × Nat)
  buf : ElasticBuf
  lc : LcWriter
  deriving DecidableEq, Repr

/-- No segment open. -/
def OpenSeg.none : OpenSeg := ⟨false, 0, 0, 0, 0, false, false, Option.none, 0, 0, 0, 0, 0⟩

/-- A set that has never been armed. -/
def Acq.idle : Acq where
  first := 0
  next := 0
  stopAt := none
  seg := OpenSeg.none
  skipped := 0
  validSlots := []
  recQueue := []
  headSince := 0
  segs := []
  gap := none
  gaps := []
  gapWait := []
  markWait := []
  markPos := []
  buf := ⟨0, 0, none, [], 0, false, none⟩
  lc := ⟨0, 0, 0, 0, [], none⟩

/-- An event that a time-interval unit holds (R274): die, unit, input (0 start, 1 stop), its instant, the source's step. -/
structure TimEvent where
  die : Nat
  u : Nat
  e : Nat
  dt : Instant
  step : Nat
  since : Nat
  deriving DecidableEq, Repr

/-- A result of a time-interval unit (R286). -/
structure TimResult where
  first : Instant
  flags : Nat
  value : Int
  count : Nat
  seq : Nat
  mode : Nat
  deriving DecidableEq, Repr

/-- The measurement and the FIFO of a time-interval unit (R278 to R286). -/
structure Tim where
  enabledAt : Nat
  lastStart : Option Instant
  lastStop : Option Instant
  opened : Option (Nat × Instant × Nat)
  firstEdge : Option Instant
  lastEdge : Option Instant
  edges : Nat
  gateStart : Nat
  step : Nat
  seq : Nat
  lost : Bool
  /-- The disable tick, and when the disable was recognised, while events before it may still come (R274, R276). -/
  stopping : Option (Nat × Nat)
  fifo : List TimResult
  deriving DecidableEq, Repr

/-- A unit right after it is disabled. -/
def Tim.idle : Tim := ⟨0, none, none, none, none, none, 0, 0, 0, 0, false, none, []⟩

/-- An entry of an accumulation queue (R222): slot, SEQ, the first position held, and the spans of positions that the gap records named in
its record cover. -/
structure AccEntry where
  slot : Nat
  seq : Nat
  first : Nat
  gaps : List (Nat × Nat)
  deriving DecidableEq, Repr

/-- What an acquisition commits (R223, R225): the points that join the average, whether the window is incomplete, and per histogram column its
lowest and highest row; and the core-cycle times at which its histogram part and its averaging part are complete, while they are not. -/
structure AccCommit where
  points : List Int
  incomplete : Bool
  columns : List (Nat × Int × Int)
  histAt : Option Nat
  avgAt : Option Nat
  deriving DecidableEq, Repr

/-- An acquisition being read (R223, R225): its entry, what it will commit, when its record is read again, what that reading said, and when
that is decided. -/
structure AccRead where
  entry : AccEntry
  commit : AccCommit
  againAt : Nat
  same : Option Bool
  decideAt : Nat
  deriving DecidableEq, Repr

/-- A pass over the histogram (R233, R234): a decay by a shift, or without one a clear; when it was asked for, begins and ends. -/
structure AccPass where
  shift : Option Nat
  asked : Nat
  begins : Nat
  ends : Nat
  deriving DecidableEq, Repr

/-- An accumulation engine (R221 to R237): its queue, the time of the last acquisition accepted, the time until which it is occupied, the
acquisition being read, the commit under way, the passes that are not over, and the cause of a STOP that lets the commit complete. -/
structure AccEngine where
  queue : List AccEntry
  accepted : Option Nat
  occupied : Nat
  reading : Option AccRead
  commit : Option AccCommit
  passes : List AccPass
  stopping : Option Nat
  deriving DecidableEq, Repr

/-- An engine right after reset. -/
def AccEngine.idle : AccEngine := ⟨[], none, 0, none, none, [], none⟩

/-- One block of converter codes (R75, R91): its number on the sample clock, the stage 3 code at each position, and the codes of spares
that shadow a slice: array, lane and code. -/
structure CodeBlock where
  n : Nat
  codes : List Int
  shadow : List (Nat × Nat × Int)
  deriving DecidableEq, Repr

/-- Error statistics of one slice (R98): offset, gain, skew and bandwidth, each in the unit of its tolerance, but skew before it is divided by
the slope statistic. -/
structure CardErr where
  die : Nat
  chan : Nat
  i : Nat
  errs : List Rat
  deriving DecidableEq, Repr

/-- The statistics of a slice with its skew over the channel's mean slope statistic (R98). -/
def CardErr.over (e : CardErr) (slope : Nat) : CardErr :=
  { e with errs := e.errs.zipIdx.map fun p => if p.2 = 2 then p.1 / slope else p.1 }

/-- A tap move that waits for cycle 128 (R103): die, array, slice, loop, and whether the tap moves up. -/
structure TapMove where
  die : Nat
  chan : Nat
  i : Nat
  loop : Nat
  up : Bool
  deriving DecidableEq, Repr

/-- What one slice gave in a phase of Combing (R109): the number of each block since the phase began, and its stage 3 code. -/
structure SliceCodes where
  chan : Nat
  i : Nat
  codes : List (Nat × Int)
  deriving DecidableEq, Repr

/-- What Combing has found of a slice (R110, R111): the mean code of a ladder level (0 to 15), or the time of the 50% crossing (16) and the
10–90% rise time (17) of its edge response, in ticks. -/
structure CombFit where
  die : Nat
  chan : Nat
  i : Nat
  what : Nat
  value : Rat
  deriving DecidableEq, Repr

/-- Taps that Combing computes for one slice (R110, R111): offset, gain for the present ATTEN, skew and bandwidth, before clamping. -/
structure CombTap where
  chan : Nat
  i : Nat
  taps : List Int
  deriving DecidableEq, Repr

/-- A record of the Bobbin pool (R406). -/
structure BobRec where
  unit : Nat
  state : Nat
  cause : Nat
  count : Nat
  ovenS : Nat
  deriving DecidableEq, Repr

/-- A term summary of one period (R419): P, FIRE bits, the offsets of the 16 global terms, the ports whose summary is merged, and the
ports whose summary is missing or tells of one missing below. -/
structure Summary where
  period : Nat
  fire : Nat
  offsets : List Nat
  taken : List Nat
  missing : List Nat
  deriving DecidableEq, Repr

/-- A base of an overlay layer (R252). -/
structure OvlBase where
  src : Nat
  addr : Nat
  stride : Nat
  tag : Nat
  deriving DecidableEq, Repr

/-- The bases of an overlay layer (R253): shown, pending, awaiting retirement, and pending bases that were replaced; `faulted`: a
fetch failed in this frame (R255). -/
structure Layer where
  shown : Option OvlBase
  pending : Option OvlBase
  retiring : Option OvlBase
  replaced : List OvlBase
  faulted : Bool
  deriving DecidableEq, Repr

/-- A layer with no base. -/
def Layer.none : Layer := ⟨Option.none, Option.none, Option.none, [], false⟩

/-- An allocation of the overlay pool (R252, R254): die, offset, size, and whether its release is deferred. -/
structure PoolBuf where
  die : Nat
  off : Nat
  size : Nat
  released : Bool
  deriving DecidableEq, Repr

/-- What a stored sample is made from (R127, R131 to R142): a run of stage 3 codes, the first of which is sample `first`; or, for a logic
set, the tick up to which its samples have passed. -/
inductive SampleSource where
  | codes (first : Int) (xs : List Int)
  | logicTick (t : Nat)
  deriving DecidableEq, Repr

/-- A fade of an FIR (R138): its first stage 7 output, its length, the bank it leaves and its target. -/
structure Fade where
  die : Nat
  chan : Nat
  first : Nat
  len : Nat
  source : Nat
  target : Nat
  deriving DecidableEq, Repr

/-- A block that has been counted (R82, R125): 0 as clipped, 1, 2 and 3 as saturated in stage 5, 7 and 8. -/
structure CountedBlock where
  die : Nat
  chan : Nat
  stage : Nat
  block : Nat
  deriving DecidableEq, Repr

/-- A record of the host route of an event (R321, R322): die, source, queue, TICKS, PAYLOAD, the code of its kind, the raise count and MASKED. -/
structure EventRec where
  die : Nat
  src : Nat
  q : Nat
  ticks : Nat
  payload : Nat
  kind : Nat
  count : Nat
  masked : Bool
  deriving DecidableEq, Repr

/-- What happens in the next core cycle: a level source whose record was consumed is re-sampled (R325); a raise held since boot is
delivered (R459); a mailbox ring is quarantined (R364). -/
inductive NextAct where
  | resample (die src : Nat)
  | heldRaise (die src : Nat)
  | quarantine (die q : Nat)
  deriving DecidableEq, Repr

/-- An instruction of a TAP (R473), by what it does in the specification. -/
inductive TapInstr where
  | bypass | idcode | sample | extest | other
  deriving DecidableEq, Repr

/-- What a span of device time is (R57, R81, R85, R94): a coast of SYN, SYN not locked, calibration blocks and test blocks of a channel, an
overload episode. -/
inductive SpanKind where
  | coast | unlocked | calibration | test | overload
  deriving DecidableEq, Repr

/-- A span of device time of a die, or of a channel of it: its first tick, and the tick after its last once it has ended. -/
structure Span where
  kind : SpanKind
  die : Nat
  chan : Nat
  from_ : Nat
  until_ : Option Nat
  deriving DecidableEq, Repr

/-- What the device puts out. Writes to host memory stand in the order of issue (R307). -/
inductive Output where
  /-- A posted write to host memory by the endpoint of a die. -/
  | mem (die addr : Nat) (bytes : List Byte)
  /-- An MSI-X message (R306, R329): die, vector, message address and data. -/
  | msix (die vector addr data : Nat)
  /-- Data of a completion that answers a host read. -/
  | readData (die : Nat) (bytes : List Byte)
  /-- A frame on a Skein port (R410). -/
  | skeinFrame (port : Nat) (bytes : List Byte)
  /-- An edge driven on the SYNC line of a Skein port at an instant (R418). -/
  | skeinSync (port : Nat) (at_ : Instant)
  /-- Bytes programmed into the boot flash, from a flash offset on (R450). -/
  | flash (offset : Nat) (bytes : List Byte)
  /-- A span of the boot flash erased (R450). -/
  | flashErase (offset len : Nat)
  /-- Bytes on the service port (R428). -/
  | uart (bytes : List Byte)
  /-- A pin of a die driven to a level. -/
  | pin (die pin : Nat) (level : Bool)
  deriving DecidableEq, Repr

end Sys2Proof.Machine
end

