-- ==== Sys2Proof/Syntax.lean ====
section
/-!
DEFINITION. The commands of the MV4-160, one constructor per row of the opcode table.
Commands of the host carry what they write; events of the device carry the measured quantities that decide them.
-/

namespace Sys2Proof

open Machine

/-- A command: something that reaches the package from outside, or a moment that its clock reaches (the rule in brackets). -/
inductive Instr where
  /-- A host write to a register without a row of its own acts by its access code, and a wrong-size access is a violation. Without a
  value the access is a read. (R7) -/
  | registerWrite (d off size : Nat) (v : Option Nat)
  /-- Power-on of VDD_AON or RESET_N driven low resets the whole package to HOLD, and the reset is held while the source stays asserted. (R446) -/
  | coldReset (resetN : Bool)
  /-- VDD_AON staying below 0.72 V for 10 µs starts a cold reset. (R446) -/
  | brownOutDetect
  /-- A BOOT_CTRL write with KEY 0x6A5C and WARM = 1 asserts a warm reset. (R446) -/
  | bootCtrlWarmReset (d v : Nat)
  /-- Tchidjako leaves its watchdog unserviced for 1 s and a warm reset is asserted. (R446) -/
  | watchdogExpiry
  /-- A sensor stays at 125 °C or above for 1 ms and the device asserts warm reset. (R384) -/
  | thermalReset (temp : Nat)
  /-- Every sensor reads below 95 °C and the held thermal warm reset is released. (R384) -/
  | thermalResetRelease (hottest : Nat)
  /-- Reset is released and boot starts with the always-on self-checks and OTP reads. (R456) -/
  | resetRelease (mbit : Nat) (fast : Bool) (rev : Nat) (programmed : List (Nat × List Byte))
  /-- A die's always-on self-check report arrives over the Splice and decides which die boots in the control role. (R455) -/
  | selfCheckReport (d : Nat) (pass : Bool)
  /-- No report from die 0 reaches die 1 within 10 ms, so die 0 is retired and die 1 boots in the control role. (R455) -/
  | selfCheckTimeout
  /-- Loading of a firmware image ends and its body digest is compared with the header. (R454) -/
  | imageLoadDone (k : Nat) (digest : Bool)
  /-- The P-384 signature check of an image ends, and the image is run or the other image is tried. (R454) -/
  | signatureCheckDone (ok : Bool)
  /-- Firmware starts on both dies, applies the recorded retirements and selects the calibration store. (R455) -/
  | firmwareStart
  /-- Training of the stacks and their pseudo-channels ends, and failed pseudo-channels are replaced by P31 or retired. (R457) -/
  | hbmTrainingDone (lost : List (Nat × Nat)) (pcs : List (Nat × Nat × Nat))
  /-- SYN locks and converter bias settles, READY is entered, DT starts from 0 and BOOT_TIME is written. (R456) -/
  | bootReady
  /-- PERST, Hot Reset or link-down resets one die's endpoint, queues, host routes and armed sets. (R448) -/
  | endpointReset (d : Nat) (hot : Bool)
  /-- A Function Level Reset acts as an endpoint reset while the link stays up. (R448) -/
  | functionLevelReset (d : Nat)
  /-- An admitted mode transition takes effect on both dies, raising PWR_MODE and MBX_DONE of MODE_SET. (R369) -/
  | modeTransitionDone
  /-- DT reaches PWR_WAKE_DT with TIMER_EN = 1 and the VIGIL to READY transition starts. (R374) -/
  | vigilWakeTimer
  /-- The oven has been within 0.05 K of its set point for 10 s and OVEN_READY is set. (R43) -/
  | ovenReadyTimer
  /-- 15 minutes after OVEN_READY is first set following a cold reset, WARM is set. (R43) -/
  | warmTimer
  /-- Once every second the pull DAC code is recomputed from the ageing model and loop correction. (R44) -/
  | pullDacUpdate (edge : Option Instant)
  /-- Each 24 h of oven-on time requests a calibration store write. (R44) -/
  | ovenTimeSave
  /-- The 1,000 s measurement gate of an ageing refit ends, the model is refitted and a store write is requested. (R45) -/
  | ageingRefitGateEnd (offset : Int)
  /-- The reference has been present for 100 ms within ±10 ppm, so the loop leaves OFF or WINTER and measures the phase error. (R46) -/
  | refQualified (edge : Instant)
  /-- Four missing edges or a frequency outside ±10 ppm make the reference lost, and the loop enters WINTER and cancels any pending step. (R46) -/
  | refLost
  /-- The phase error has stayed within ±20 ps for 1 s in THAW with no step pending, and the loop becomes LOCKED. (R48) -/
  | thawLockTimer
  /-- The slewed phase error reaches ±20 ps, SLEWING clears and XTO_SLEW_DONE is raised. (R50) -/
  | slewDone (edge : Instant)
  /-- At the first block boundary with no channel armed, both dies jump DT by the negated phase error and record the discontinuity. (R51) -/
  | dtStepApply
  /-- A write of ENABLE, REF_FREQ or POLICY starts or stops disciplining of the crystal. (R48) -/
  | xtoRefCtrlWrite (d v : Nat)
  /-- A RESUME write of 1 or 2 while HOLD_WAIT = 1 leaves WINTER by SLEW or STEP on the held measurement. (R48) -/
  | xtoRefResumeWrite (d v : Nat)
  /-- The phase detector error exceeds ±5 ps for 64 XTO cycles and SYN coasts with its control value frozen. (R56) -/
  | synLockLoss (d : Nat)
  /-- Every 10 µs during a coast the SYN drift against XTO is measured into SYN_DRIFT. (R56) -/
  | synDriftMeasure (d : Nat) (drift : Int)
  /-- At the die's next acquisition boundary, or at once after LOST, SYN starts to re-lock. (R58) -/
  | synRelock (d : Nat)
  /-- SYN completes its lock and PHASE_DET is set for an integer-mode lock. (R54) -/
  | synLocked (d : Nat)
  /-- A write changing SYN_CTRL.MODE re-locks SYN in the new mode, or is ignored with MODE_REJECT while a channel is armed. (R59) -/
  | synModeWrite (d v : Nat)
  /-- A write of RAMP_START starts the offset ramp profile, or is refused with RAMP_REJECT. (R60) -/
  | synRampStart (d v : Nat)
  /-- A write of RAMP_ABORT stops the ramp, holds the present offset and raises SYN_RAMP. (R61) -/
  | synRampAbort (d v : Nat)
  /-- A ramp segment's duration expires and the next segment begins, or the ramp ends or repeats. (R60) -/
  | rampSegmentEnd (d : Nat) (peaks : List (List (Nat × Nat)))
  /-- AUX loses lock, starts its 2 ms coast, and the service UART and flash move to the XTO fallback clock. (R65) -/
  | auxLossOfLock (d : Nat)
  /-- AUX has not re-locked by the end of the 2 ms coast, so both eDP outputs blank and in VIGIL the loss wakes the device. (R65) -/
  | auxCoastEnd (d : Nat)
  /-- AUX re-locks and the display resumes at the first frame after link retraining. (R65) -/
  | auxRelock (d : Nat)
  /-- A write of STATE = 1 arms a Calendar cue, reading the whole entry at that moment. (R66) -/
  | cueArm (d n v : Nat)
  /-- A write of STATE = 4 cancels a PENDING cue unless the cue executes in that cycle. (R66) -/
  | cueCancel (d n v : Nat)
  /-- A PENDING cue executes in the cycle whose block holds its DT and carries out its action. (R67) -/
  | cueExecute (d n : Nat)
  /-- At its sending time the device sends the merged summary, marking missing ports. (R419) -/
  | summarySend (period : Nat)
  /-- The manager evaluates a period's summary in the global sequencer. (R420) -/
  | gseqEvaluate (period : Nat)
  /-- The expected TRIGGER or IDLE frame is not taken by its deadline and BCAST_MISS is set. (R421) -/
  | broadcastDeadline (period : Nat)
  /-- The port wait timeout for an expected ECHO_RSP runs out with no reply. (R41) -/
  | skeinEchoWaitTimeout (p : Nat)
  /-- A test still running at 600 s ends FAIL with cause TIMEOUT. (R437) -/
  | testTimeLimit
  /-- A 0x03 character aborts the running test, which restores state and ends ABORTED. (R439) -/
  | testAbortChar
  /-- A write of SNAP captures the first tick of the block handled into CLD_DT_TICKS. (R40) -/
  | cldDtSnap (d v : Nat)
  /-- A write changing ATTEN on an unarmed channel changes the attenuation and trims and starts 2 µs of settling. (R76) -/
  | attenWrite (d c v : Nat)
  /-- 2,500 cycles after an ATTEN change SETTLING clears and CNV_ATTEN is raised. (R76) -/
  | attenSettled (d c : Nat)
  /-- An overload comparator trips and an overload episode begins, counting and raising CNV_OVLD. (R82) -/
  | overloadTrip (d c lo : Nat) (x : Instant × Int)
  /-- Both overload comparators have been clear for 64 cycles and the episode ends. (R81) -/
  | overloadEpisodeEnd (d c : Nat)
  /-- A Carding update interval closes and its statistics become final, with sufficiency decided 32 cycles later. (R103) -/
  | cardIntervalClose (d c : Nat) (blocks : List CodeBlock)
  /-- In cycle 64 the Carding update claims the trims, evaluates the loops, and moves taps at cycle 128 or discards the interval. (R104) -/
  | cardUpdateClaim (d c slope : Nat)
  /-- 10 s of DT pass without a sufficient interval and STARVED is set. (R102) -/
  | cardStarved (d c : Nat)
  /-- A write of CRD_COMB_CMD.START requests a Combing run, checked as the table gives. (R108) -/
  | crdCombStart (d c v : Nat)
  /-- A write of CRD_COMB_CMD.ABORT ends the run with 0x0211 and opens CAL_SW within 4 cycles. (R112) -/
  | crdCombAbort (d c v : Nat)
  /-- A Combing phase's span of cycles ends and the run moves to its next phase. (R109) -/
  | combPhaseEnd (d c : Nat) (codes : List SliceCodes)
  /-- The last calibration block of a Combing run passes, and COMB_DONE is raised with the result. (R112) -/
  | combDone (d c : Nat)
  /-- A write of CRD_STORE_CTRL.WRITE requests a calibration store write. (R117) -/
  | crdStoreWrite (d v : Nat)
  /-- A pending store write starts once the previous write has ended and 60 s have passed since its commit. (R117) -/
  | storeWriteStart
  /-- A store write commits with a new generation or fails, and CRD_STORE is raised. (R116) -/
  | storeWriteComplete (ok : Bool)
  /-- A write of EQ_CTRL changes the bank or bypass from the next block, or is ignored while armed. (R129) -/
  | eqCtrlWrite (d c v : Nat)
  /-- A write of an equaliser tap is accepted or rejected by bank and arming state. (R130) -/
  | eqCoefWrite (d c b k v : Nat)
  /-- A write of an FIR tap is accepted or rejected according to the banks in use. (R136) -/
  | firCoefWrite (d c b k v : Nat)
  /-- A write of FIR_CTRL with SWAP = 1 makes a swap request to the named bank. (R137) -/
  | firCtrlSwap (d c v : Nat)
  /-- A fade begins at its first output, reading FADE_LEN and raising FIR_FADE_START. (R138) -/
  | firFadeStart (d c : Nat)
  /-- A fade's last output is produced and the bank machine goes to STEADY or begins the pending fade. (R139) -/
  | firFadeEnd (d c : Nat)
  /-- A write changing DEC, FIR DECIM or RSM settings restarts stages 7 and 8, or is ignored while armed. (R144) -/
  | condConfigWrite (d c r v : Nat)
  /-- The settling span of full-rate samples has been processed, SETTLING clears and COND_SETTLED is raised. (R146) -/
  | condSettled (d c : Nat)
  /-- A sample value passes a level's far threshold and a crossing is recognised for the terms that use it. (R151) -/
  | levelCrossing (t : Instant) (xs : List ChanSample)
  /-- A write of TRG_LEVEL takes effect from the next block, keeping the level state. (R152) -/
  | trgLevelWrite (d c n v : Nat)
  /-- A write changing a term's configuration restarts the term as a pipeline start does. (R482) -/
  | termConfigWrite (d t w v : Nat)
  /-- A TIMEOUT term sees no crossing for T1 and fires once. (R154) -/
  | timeoutTermExpiry (d t : Nat)
  /-- A WITHIN deadline lands with the sequencer still in the state, returning it to RST_TO. (R167) -/
  | withinDeadline (d q : Nat)
  /-- The auto deadline lands in RUN with no trigger recognised and a forced trigger is issued. (R172) -/
  | autoTriggerDeadline (d q : Nat)
  /-- 16 cycles after the triggering cycle end, the sequencer returns to RUN or enters HOLDOFF. (R169) -/
  | deadTimeEnd (d q : Nat)
  /-- A TIME hold-off deadline lands and the sequencer returns to RUN. (R171) -/
  | holdoffTimeExpiry (d q : Nat)
  /-- A write of TRG_FORCE forces a trigger at the block's first tick, or is dropped in DEAD or IDLE. (R169) -/
  | trgForceWrite (d q v : Nat)
  /-- A write of ACQ_CMD.ARM checks and arms a set from the next block, arming its sequencer. (R193) -/
  | acqCmdArm (d a v : Nat)
  /-- A write of ACQ_CMD.STOP fixes the stop DT of a set. (R196) -/
  | acqCmdStop (d a v : Nat)
  /-- The last stored sample before the stop DT has committed, so open segments complete or are discarded and streams end. (R196) -/
  | acqStopCycle (d a : Nat)
  /-- A stored sample leaves the 64-cycle staging buffer and is committed to memory. (R191) -/
  | storedSampleCommit (d a : Nat) (x : SampleSource)
  /-- At a block boundary with fill at or below RESUME_PCT, storing resumes and the gap is closed. (R212) -/
  | backpressureResume (d a : Nat)
  /-- 25 cycles after a record reaches the queue head it is written with VALID = 1 and ACQ_SEG_COUNT increments. (R202) -/
  | segmentRecordWrite (d a : Nat)
  /-- FLUSH_US µs pass since a chunk's first sample and the chunk closes. (R209) -/
  | chunkFlushTimeout (d a : Nat)
  /-- A closed chunk is written into a posted host buffer and its completion is written to CQ. (R207) -/
  | chunkDelivery (d q : Nat) (desc : DataDesc) (words : List ReadWord)
  /-- A waiting mark record is written to its mark ring when room exists. (R210) -/
  | markWrite (d a : Nat)
  /-- A gap record is written to the gap log and, when room exists, to the gap ring. (R216) -/
  | gapRecordWrite (d a : Nat)
  /-- A 1 ms scrub grant reads codewords in ascending offset and writes corrected ones back. (R189) -/
  | scrubGrant (d h first n : Nat) (words : List ReadWord)
  /-- A pseudo-channel remap holds all writes to the stack for 1,024 cycles. (R190) -/
  | remapHoldStart (d h : Nat)
  /-- The remap hold ends and armed sets carry on after writing MEM_RETIRE gaps. (R190) -/
  | remapHoldEnd (d h : Nat)
  /-- A host read through the BAR2 window returns corrected data from the selected stack. (R219) -/
  | bar2Read (d off n : Nat) (words : List ReadWord)
  /-- A host write through BAR2 is merged into the overlay pool, or discarded as a violation elsewhere. (R219) -/
  | bar2Write (d off : Nat) (bytes : List Byte)
  /-- The engine takes a queue entry, reads its record and samples, rechecks the record and commits or discards. (R223) -/
  | accEntryTake (d c : Nat) (words : List ReadWord)
  /-- The averaging and histogram commits of an acquisition complete. (R225) -/
  | accCommitDone (d c : Nat)
  /-- A write of ACC_CMD.START checks and starts the engine in RUN. (R236) -/
  | accCmdStart (d c : Nat)
  /-- A write of ACC_CMD.STOP lets the commit finish, empties the queue and enters IDLE. (R237) -/
  | accCmdStop (d c : Nat)
  /-- A write of RELEASE in DONE clears and restarts the batch or enters IDLE. (R228) -/
  | accCmdRelease (d c : Nat)
  /-- A write of CLEAR_HIST runs a 128-cycle clear pass after any commit under way. (R234) -/
  | accCmdClearHist (d c : Nat)
  /-- Every DECAY_N frames the histogram counts are shifted right in a 128-cycle pass. (R233) -/
  | accDecayBoundary (d c : Nat)
  /-- A frame begins on both outputs, latching pending settings and bases and counting SCN_FRAME. (R241) -/
  | vblankStart (words : List (Nat × ReadWord) := [])
  /-- A write of APPLY checks the shadow timing and sets it pending for the next VBLANK_START. (R244) -/
  | scnTimApply (d v : Nat)
  /-- A write of SCN_OVL_FLIP with FLIP = 1 takes a new pending overlay base. (R252) -/
  | scnOvlFlip (d l v : Nat)
  /-- A line is scanned before its overlay data arrives and the missing pixels are shown as index 0. (R256) -/
  | lineUnderrun (d l : Nat)
  /-- eDP link training ends trained, after fallback, or FAILED. (R243) -/
  | linkTrainingDone (d : Nat) (attempt : Option Nat)
  /-- The hot-plug level of an output changes and SCN_LINK is raised. (R243) -/
  | hpdChange (d : Nat) (level : Bool)
  /-- An HPD IRQ pulse causes the link status to be read and retraining at the next frame if lock is lost. (R243) -/
  | hpdIrq (d : Nat) (lost : Bool)
  /-- A logic channel's sampled state changes and the LC writer records the new state vector. (R270) -/
  | logicInputChange (d t : Nat) (balls : List (Int × Int)) (refs : Int × Int) (edges : List LogicEdge)
  /-- A channel's ringing hold-off ends and its state takes the comparator output. (R268) -/
  | logicHoldoffEnd (d i t : Nat) (pins : LogicPins)
  /-- A write changing a logic channel's MODE restarts the channel, or is ignored while in use. (R265) -/
  | logicModeWrite (d i v : Nat)
  /-- A write of THRESH or HYST takes effect from the next block, or is ignored when out of range. (R263) -/
  | logicThreshWrite (d i v : Nat)
  /-- A write of TIM_CTRL.EN = 1 checks and enables a time-interval unit from the enable DT. (R276) -/
  | timCtrlEnable (d u v : Nat)
  /-- A write of EN = 0 disables a unit, writing a final TOTALIZE result. (R276) -/
  | timCtrlDisable (d u v : Nat)
  /-- 64 cycles after recognition a unit processes its held events in DT order and writes results. (R274) -/
  | timEventProcess (d u : Nat)
  /-- A FREQUENCY gate ends at its DT and the unit reports count and span. (R282) -/
  | timGateEnd (d u : Nat)
  /-- A write of TIM_CUE with ARM = 1 arms a unit's DT cue, or sets LATE when its DT has passed. (R275) -/
  | timCueWrite (d u e w v : Nat)
  /-- An armed unit cue produces its event at its DT and clears ARM. (R275) -/
  | timCueFire (d u e : Nat)
  /-- A read of word 7 of TIM_RES removes the head result from the FIFO. (R286) -/
  | timResRead (d u : Nat)
  /-- A comparator output changes and assertion, windows, wake and destinations are updated. (R290) -/
  | comparatorTransition (d u : Nat) (at_ : Instant) (v : Int)
  /-- A comparator's settling after a mode or threshold change ends and OUT takes the present value. (R293) -/
  | cmpSettlingEnd (d u : Nat)
  /-- A blanking timer pulses and opens or restarts the blanking windows of units that use it. (R297) -/
  | blankTimerPulse (d k t : Nat)
  /-- A blanking window closes and OUT takes the comparator's present value. (R298) -/
  | blankWindowClose (d u : Nat)
  /-- A comparator control write is accepted or ignored, and a SEL write restarts both units of the window. (R301) -/
  | cmpCtrlWrite (d u w v : Nat)
  /-- A shadowing comparator spare agrees with its unit and takes over at a peripheral-clock edge. (R300) -/
  | cmpSpareSwap (d u : Nat) (agrees : Bool)
  /-- A write of ENABLE = 1 checks the queue parameters and enables the ring. (R311) -/
  | queEnable (d q v : Nat)
  /-- A write of ENABLE = 0 disables a queue, or is refused with QUE_IN_USE. (R312) -/
  | queDisable (d q v : Nat)
  /-- A doorbell write moves a ring's TAIL or HEAD, or is ignored as a violation. (R314) -/
  | doorbell (d q v : Nat)
  /-- A completion for a device read of host memory arrives, and an error completion puts a ring into FAULT. (R313) -/
  | hostReadCompletion (d : Nat) (layer : Option Nat) (q outcome : Nat)
  /-- A write of EVC_RAISE raises EVC_SOFT with the written payload. (R326) -/
  | evcRaise (d v : Nat)
  /-- A queue's coalescing deadline lands with no record in that cycle and the interrupt is delivered. (R330) -/
  | coalesceDeadline (d q : Nat)
  /-- A write of QUE_IRQ retargets the queue's interrupt, delivering once at once if FIRED with records. (R332) -/
  | queIrqWrite (d q v : Nat)
  /-- Unmasking a vector with its PBA bit set sends the pending message. (R331) -/
  | msixUnmask (d : Nat) (vector : Option Nat)
  /-- A write of EVC_ROUTE sets a host route, and the first setting of EN delivers a held boot raise. (R459) -/
  | evcRouteWrite (d src v : Nat)
  /-- A Distaff core accepts an interrupt request and performs context save, vector fetch and handler start. (R337) -/
  | distaffEntry (k : Nat)
  /-- A handler's return instruction retires and the core restores context or abandons the exit for a pending request. (R338) -/
  | distaffExit (k : Nat)
  /-- A write of GO submits the urgent mailbox command. (R351) -/
  | mbxUrgGo (d v : Nat)
  /-- 2 ms after a command is taken without a response, the engine answers ACCEPTED with ENGINE_LONG. (R346) -/
  | answerDeadline (d : Nat) (src : MbxSource)
  /-- An outstanding command finishes and MBX_DONE carries its final status. (R348) -/
  | longCommandComplete (d tag : Nat) (ok : Bool) (bytes : List Byte)
  /-- A waiting library delivery starts once fewer than 4 deliveries run on the die. (R358) -/
  | libDeliveryStart (d : Nat)
  /-- A command with an unknown opcode or malformed layout is answered with a violation status and logged. (R363) -/
  | unknownOpcodeCommand (h : MbxHdr) (opcode : Nat) (malformed : Bool)
  /-- Command 0x0000 does nothing and answers OK. (R353) -/
  | nop (h : MbxHdr)
  /-- Command 0x0001 returns stepping, image and version fields. (R353) -/
  | version (h : MbxHdr)
  /-- Command 0x0002 requests a mode change, admitted by Harvest and answered ACCEPTED. (R370) -/
  | modeSet (h : MbxHdr) (mode : Nat)
  /-- Command 0x0003 returns the mode, available channels and retired dies. (R353) -/
  | modeGet (h : MbxHdr)
  /-- Command 0x0004 returns the state and final results of a long command by tag. (R348) -/
  | longResult (h : MbxHdr) (tag : Nat)
  /-- Command 0x0005 aborts a Combing run, library delivery or deferred command. (R353) -/
  | abort (h : MbxHdr) (tag : Nat)
  /-- Command 0x0006 returns a quarantined ring to DISABLED or clears a ring's violation history. (R365) -/
  | ringReset (h : MbxHdr) (q : Nat)
  /-- Command 0x0007 delivers violation log entries by DMA. (R362) -/
  | vlogRead (h : MbxHdr) (first count addr : Nat)
  /-- Command 0x0100 returns the present DT ticks. (R354) -/
  | dtGet (h : MbxHdr)
  /-- Command 0x0101 writes the XTO_REF_CTRL image. (R354) -/
  | refSet (h : MbxHdr) (v : Nat)
  /-- Command 0x0102 resumes a held reference by SLEW or STEP, or answers 0x0204. (R354) -/
  | refResume (h : MbxHdr) (resume : Nat)
  /-- Command 0x0103 returns reference status, phase error, pull and last step. (R354) -/
  | refStatus (h : MbxHdr)
  /-- Command 0x0104 writes the SYN_CTRL image. (R354) -/
  | synSet (h : MbxHdr) (v : Nat)
  /-- Command 0x0105 starts or aborts the SYN ramp. (R354) -/
  | ramp (h : MbxHdr) (action : Nat)
  /-- Command 0x0106 writes a Calendar cue and arms or cancels it. (R354) -/
  | cueSet (h : MbxHdr) (index action state target flags frac param ticks : Nat)
  /-- Command 0x0107 writes the AUX_CTRL image. (R354) -/
  | auxSet (h : MbxHdr) (v : Nat)
  /-- Command 0x0200 returns CNV_STATUS and CNV_DIE_STATUS. (R354) -/
  | chStatus (h : MbxHdr) (ch : Nat)
  /-- Command 0x0201 writes a channel's ATTEN. (R354) -/
  | attenSet (h : MbxHdr) (ch atten : Nat)
  /-- Command 0x0202 enables or disables overload events of a channel. (R354) -/
  | ovldEvt (h : MbxHdr) (ch enable : Nat)
  /-- Command 0x0203 returns a channel's eight CNV_SLICE_MAP words. (R354) -/
  | sliceMap (h : MbxHdr) (ch : Nat)
  /-- Command 0x0300 writes a channel's Carding control images. (R354) -/
  | cardSet (h : MbxHdr) (ch ctrl suff tol timeout : Nat)
  /-- Command 0x0301 returns CRD_STATUS. (R354) -/
  | cardStatus (h : MbxHdr) (ch : Nat)
  /-- Command 0x0302 starts a Combing run, answered ACCEPTED. (R108) -/
  | combStart (h : MbxHdr) (ch allow store : Nat)
  /-- Command 0x0303 requests a calibration store write, answered ACCEPTED. (R117) -/
  | storeWrite (h : MbxHdr)
  /-- Command 0x0304 returns store status and generation. (R354) -/
  | storeStatus (h : MbxHdr)
  /-- Command 0x0305 delivers a channel's trims and slice status by DMA. (R354) -/
  | trimRead (h : MbxHdr) (ch addr : Nat)
  /-- Command 0x0400 writes the EQ_CTRL image. (R355) -/
  | eqSet (h : MbxHdr) (ch v : Nat)
  /-- Command 0x0401 loads 32 equaliser taps by DMA. (R355) -/
  | eqLoad (h : MbxHdr) (ch bank : Nat) (words : List Nat)
  /-- Command 0x0402 writes the decimation and FIR control images. (R355) -/
  | decSet (h : MbxHdr) (ch ctrl ratio fir : Nat)
  /-- Command 0x0403 loads 256 FIR taps by DMA. (R355) -/
  | firLoad (h : MbxHdr) (ch bank : Nat) (words : List Nat)
  /-- Command 0x0404 makes an FIR swap request. (R137) -/
  | firSwap (h : MbxHdr) (ch bank : Nat)
  /-- Command 0x0405 writes the resampler control and ratio. (R355) -/
  | rsmSet (h : MbxHdr) (ch v ratio : Nat)
  /-- Command 0x0406 returns the conditioning status registers. (R355) -/
  | condStatus (h : MbxHdr) (ch : Nat)
  /-- Command 0x0500 writes a TRG_LEVEL image. (R355) -/
  | levelSet (h : MbxHdr) (ch n v : Nat)
  /-- Command 0x0501 writes a term's configuration, times and pattern. (R355) -/
  | termSet (h : MbxHdr) (t cfg t1 t2 ana log : Nat)
  /-- Command 0x0502 writes a sequencer's control, table, auto timeout and hold-off. (R355) -/
  | seqSet (h : MbxHdr) (q ctrl : Nat) (table : List Nat) (timeout holdoff : Nat)
  /-- Command 0x0503 loads a crossing curve by DMA. (R355) -/
  | curveLoad (h : MbxHdr) (ch e : Nat) (words : List Nat)
  /-- Command 0x0504 writes a TRG_CH_CFG image. (R355) -/
  | chRoute (h : MbxHdr) (ch v : Nat)
  /-- Command 0x0505 writes the TRG_CTRL image. (R355) -/
  | logicRoute (h : MbxHdr) (v : Nat)
  /-- Command 0x0506 forces a trigger through a TRG_FORCE write. (R355) -/
  | force (h : MbxHdr) (q : Nat)
  /-- Command 0x0507 returns sequencer status and the last trigger descriptor. (R355) -/
  | trigStatus (h : MbxHdr) (q : Nat)
  /-- Command 0x0600 writes a set's acquisition and ring registers in order. (R355) -/
  | acqSet (h : MbxHdr) (set disc wrap spill nseg segLen pre post spillMib dataQ markQ gapQ : Nat)
  /-- Command 0x0601 writes a set's STR_CTRL image. (R355) -/
  | strSet (h : MbxHdr) (set v : Nat)
  /-- Command 0x0602 arms a set, answering the first failing check or deferring. (R355) -/
  | arm (h : MbxHdr) (set : Nat)
  /-- Command 0x0603 stops a set. (R355) -/
  | stop (h : MbxHdr) (set : Nat)
  /-- Command 0x0604 returns a set's status, counts and stream index. (R355) -/
  | acqStatus (h : MbxHdr) (set : Nat)
  /-- Command 0x0605 returns a stack's status, depth and scrub progress. (R355) -/
  | memStatus (h : MbxHdr) (k : Nat)
  /-- Command 0x0700 matches indexed segments and writes entries by DMA. (R360) -/
  | libQuery (h : MbxHdr) (set term mask value most lo hi addr : Nat)
  /-- Command 0x0701 delivers a segment's record and held samples as chunks. (R361) -/
  | libSegment (h : MbxHdr) (set what dataQ seq : Nat)
  /-- Command 0x0702 delivers PK overview points of a segment. (R361) -/
  | libOverview (h : MbxHdr) (set dataQ points seq : Nat)
  /-- Command 0x0703 delivers every held sample of a set within a DT span. (R361) -/
  | libSpan (h : MbxHdr) (set dataQ lo hi : Nat)
  /-- Command 0x0704 returns the library index counts of a set. (R359) -/
  | libStatus (h : MbxHdr) (set : Nat)
  /-- Command 0x0800 writes the averaging settings of an engine. (R356) -/
  | accSetAvg (h : MbxHdr) (ch ctrl count len start : Nat)
  /-- Command 0x0801 writes the histogram settings of an engine. (R356) -/
  | accSetHist (h : MbxHdr) (ch y decay period origin step excl : Nat)
  /-- Command 0x0802 writes an ACC_CMD image and FREEZE. (R356) -/
  | accCmd (h : MbxHdr) (ch v freeze : Nat)
  /-- Command 0x0803 delivers the averaged means by DMA in DONE. (R229) -/
  | accReadAvg (h : MbxHdr) (ch size addr : Nat)
  /-- Command 0x0804 delivers the histogram by DMA. (R235) -/
  | accReadHist (h : MbxHdr) (ch addr : Nat)
  /-- Command 0x0805 allocates overlay pool space. (R356) -/
  | poolAlloc (h : MbxHdr) (size : Nat)
  /-- Command 0x0806 releases an overlay pool buffer by its state. (R254) -/
  | poolRelease (h : MbxHdr) (offset : Nat)
  /-- Command 0x0807 reads or writes DPCD over the AUX channel. (R356) -/
  | dpcd (h : MbxHdr) (write len addr : Nat) (sent : List Byte) (data : Option (List Byte))
  /-- Command 0x0808 reads an EDID block by DMA. (R356) -/
  | edidRead (h : MbxHdr) (block addr : Nat)
  /-- Command 0x0809 returns scan-out and Frost watch status. (R356) -/
  | dispStatus (h : MbxHdr)
  /-- Command 0x0900 writes a logic channel configuration. (R356) -/
  | lgcSet (h : MbxHdr) (i v : Nat)
  /-- Command 0x0901 writes the LGC_CTRL image. (R356) -/
  | lgcMask (h : MbxHdr) (v : Nat)
  /-- Command 0x0902 writes a time-interval unit's configuration. (R356) -/
  | timSet (h : MbxHdr) (u ctrl start stopSrc gate n : Nat)
  /-- Command 0x0903 enables or disables a time-interval unit. (R356) -/
  | timEn (h : MbxHdr) (u en : Nat)
  /-- Command 0x0904 returns and removes a unit's head result. (R356) -/
  | timRead (h : MbxHdr) (u : Nat)
  /-- Command 0x0905 writes a comparator unit's images. (R356) -/
  | cmpSet (h : MbxHdr) (u ctrl thresh blank : Nat)
  /-- Command 0x0906 returns comparator, spare and window status. (R356) -/
  | cmpStatus (h : MbxHdr) (u : Nat)
  /-- Command 0x0A00 declares policy, cap and budget, with Harvest acting before it answers. (R382) -/
  | allowanceSet (h : MbxHdr) (policy cap budget : Nat)
  /-- Command 0x0A01 returns the Harvest ledger values. (R357) -/
  | ledger (h : MbxHdr)
  /-- Command 0x0A02 delivers the cost table by DMA. (R357) -/
  | costRead (h : MbxHdr) (addr : Nat)
  /-- Command 0x0B00 delivers the Bobbin pool records by DMA. (R357) -/
  | wearRead (h : MbxHdr) (addr : Nat)
  /-- Command 0x0B01 requests rethreading of a unit, answered ACCEPTED. (R393) -/
  | rethread (h : MbxHdr) (unit : Nat)
  /-- Command 0x0B02 returns running and waiting maintenance activities. (R357) -/
  | maintStatus (h : MbxHdr)
  /-- Command 0x0C00 returns the Skein status images. (R357) -/
  | skeinStatus (h : MbxHdr)
  /-- Command 0x0C01 writes the Skein control images in order. (R357) -/
  | skeinSet (h : MbxHdr) (ctrl sel gseq holdoff : Nat)
  /-- Command 0x0C02 measures a port's latency by echo. (R357) -/
  | skeinMeasure (h : MbxHdr) (port ofs : Nat)
  /-- Command 0x0C03 clears a port's violation history and returns it to DOWN. (R424) -/
  | skeinUnfence (h : MbxHdr) (port : Nat)
  /-- Command 0x0D00 returns the temperature sensor readings. (R357) -/
  | diagSensors (h : MbxHdr)
  /-- Command 0x0D01 returns the service port state. (R357) -/
  | svcState (h : MbxHdr)
  /-- Command 0x0E00 returns the firmware image states and versions. (R357) -/
  | fwStatus (h : MbxHdr)
  /-- Command 0x0E01 writes image data into the image slot not running. (R357) -/
  | fwStage (h : MbxHdr) (offset length : Nat) (bytes : List Byte)
  /-- Command 0x0E02 verifies the staged image. (R357) -/
  | fwVerify (h : MbxHdr)
  /-- Command 0x0E03 writes the directory to name a valid image for the next boot. (R451) -/
  | fwSelect (h : MbxHdr) (image : Nat)
  /-- Command 0x0E04 returns the flash density and SFDP revision. (R357) -/
  | flashInfo (h : MbxHdr)
  /-- Every 1 ms Harvest updates the ledger and shares, tries deferred queues and adjusts derating. (R376) -/
  | harvestPeriod (draw : Nat) (rails : List (List Nat)) (temps : List (List Int)) (corrections : List (Nat × Nat))
  /-- The hottest sensor reaches 110 °C, derating goes to level 11 and new requests are refused. (R384) -/
  | thermalLimitEnter (temp : Nat)
  /-- The sensor has been below 100 °C for 1 s and the thermal limit clears. (R384) -/
  | thermalLimitClear (temp : Nat)
  /-- A unit crosses a wear threshold, is recorded and may be rethreaded automatically. (R391) -/
  | unitWorn (u cause : Nat)
  /-- A unit meets a loss condition and is rethreaded at once or retired. (R391) -/
  | unitLost (u cause : Nat)
  /-- A waiting maintenance claim finds all its groups free and is granted. (R405) -/
  | maintClaimGrant
  /-- The granted setup copies the slice's trims to the spare and puts it in SHADOW. (R394) -/
  | rethreadSetup (d : Nat)
  /-- At the swap block the spare takes over the phase, and the segment carries RETHREADED. (R395) -/
  | rethreadSwap (d : Nat)
  /-- The scrub engine finishes copying the worn pseudo-channel's chunks to the spare. (R397) -/
  | pcCopyDone (d h : Nat)
  /-- At the first allowed block the spare pseudo-channel is remapped in and the worn one retired. (R397) -/
  | pcRemap (d h : Nat)
  /-- Hourly, each active Splice lane is retrained on the spare and its margin measured. (R398) -/
  | spliceLaneCheck (d l : Nat)
  /-- A Splice lane fails and a spare is trained, with R26 deciding what the Splice carries. (R398) -/
  | spliceLaneLoss (d l : Nat)
  /-- Once every 24 h an IDLE spare shadows each comparator unit for 1 s to check it. (R389) -/
  | comparatorDailyCheck (d u steps : Nat) (switches : Bool)
  /-- At the next block boundary a retired unit's dependent sets, engines and runs are stopped and withdrawn. (R401) -/
  | retirement (u : Nat)
  /-- Die 1 takes the control role after die 0 retires and resumes package services. (R403) -/
  | failover
  /-- A Skein port's lanes train and the worker sends JOIN. (R415) -/
  | skeinPortTrained (p : Nat)
  /-- A JOIN frame arrives and the upstream device accepts or refuses the joiner. (R409) -/
  | joinReceive (p : Nat) (bytes : List Byte)
  /-- A JOIN_ACK arrives and the port becomes ACTIVE or REFUSED. (R415) -/
  | joinAckReceive (bytes : List Byte)
  /-- Every 1 ms the upstream device sends ECHO_REQ with its departure DT. (R412) -/
  | echoReqSend (p ofs : Nat)
  /-- An ECHO_REQ arrives and the downstream device replies with ECHO_RSP. (R412) -/
  | echoReqReceive (bytes : List Byte) (ofs turn : Nat)
  /-- An ECHO_RSP arrives and the port's mean latency is updated. (R412) -/
  | echoRspReceive (p : Nat) (bytes : List Byte) (ofs : Nat)
  /-- Every 10 µs an ALIGN frame is sent down each port with DT and latency. (R411) -/
  | alignSend (p ofs : Nat)
  /-- An ALIGN frame arrives and the worker updates its latency and phase error. (R414) -/
  | alignReceive (bytes : List Byte) (ofs : Nat)
  /-- No ALIGN frame arrives for 100 µs and the worker's reference is lost. (R414) -/
  | alignTimeout
  /-- A SUMMARY frame arrives from a downstream port and is merged. (R419) -/
  | summaryReceive (p : Nat) (bytes : List Byte)
  /-- The manager sends TRIGGER or IDLE for a period. (R420) -/
  | broadcastSend (period : Nat)
  /-- A TRIGGER frame arrives, is forwarded and triggers selected sets by DT. (R422) -/
  | triggerFrameReceive (bytes : List Byte)
  /-- An IDLE frame arrives and is forwarded downstream. (R421) -/
  | idleFrameReceive (bytes : List Byte)
  /-- A NAK frame arrives and NAK_SEEN is set. (R423) -/
  | nakReceive (p : Nat) (bytes : List Byte)
  /-- A SYNC edge on port 0 is time-stamped into SKN_SYNC_RX. (R418) -/
  | skeinSyncReceive (ofs : Nat)
  /-- A write of RUN = 1 checks and starts the global sequencer on the manager. (R420) -/
  | sknGseqRunWrite (d v : Nat)
  /-- A complete console line is received, and an over-long line is answered ERR 0x0100. (R428) -/
  | consoleLine (chars : List Byte)
  /-- Console HELP lists the commands. (R430) -/
  | consoleHelp
  /-- Console VERSION prints the version fields. (R430) -/
  | consoleVersion
  /-- Console STATUS prints mode, lock state, retired units and test results. (R430) -/
  | consoleStatus
  /-- Console SENSORS prints rail, temperature and oven readings. (R430) -/
  | consoleSensors
  /-- Console SERVICE ENTER moves the package to SERVICE, stopping channels with FORCE. (R35) -/
  | serviceEnter (force : Bool)
  /-- Console SERVICE EXIT returns the package to READY. (R35) -/
  | serviceExit
  /-- Console WAKE asserts the SERVICE wake source in VIGIL. (R374) -/
  | consoleWake
  /-- Console TEST n starts a service test of the allowed kind. (R436) -/
  | consoleTest (n : Nat)
  /-- Console TEST n v judges a kind P test from an entered reading. (R430) -/
  | consoleTestReading (n milliohm : Nat)
  /-- Console ATB routes a point to an analogue test bus output. (R441) -/
  | consoleAtb (a point index : Nat)
  /-- Console ATB OFF sets an output to high impedance. (R441) -/
  | consoleAtbOff (a : Nat)
  /-- Console REFIT starts an ageing refit, or refuses it without a reference. (R45) -/
  | refit
  /-- Console BAUD sets a new rate after the OK line. (R431) -/
  | consoleBaud (rate : Nat)
  /-- Console ECHO ON turns on character echo. (R430) -/
  | consoleEchoOn
  /-- Console ECHO OFF turns off character echo. (R430) -/
  | consoleEchoOff
  /-- Console UNLOCK issues a challenge or checks a response to unlock the port. (R434) -/
  | consoleUnlock (response : Option Nat)
  /-- Console LOCK locks the service port again. (R433) -/
  | consoleLock
  /-- An unknown console command is answered ERR 0x0400. (R430) -/
  | consoleUnknownCommand
  /-- No complete line arrives within 10 s of a new rate and the port returns to 115,200 baud. (R431) -/
  | baudFallback
  /-- The 60 s lockout after three wrong answers ends. (R434) -/
  | unlockLockoutEnd
  /-- A kind S test not admitted within 10 s ends SKIP with 0x0301. (R436) -/
  | testAdmissionTimeout
  /-- A service test completes, restores state and writes its result line. (R437) -/
  | testComplete (result locus unit : Nat) (taps : List (Nat × CombTap)) (subs : List (Nat × Nat × Nat × Nat))
  /-- A line holding a meter reading arrives and the waiting test judges it. (R440) -/
  | meterReading (reading : Option Int)
  /-- No reading arrives within 300 s of a MEASURE prompt. (R440) -/
  | meterWaitTimeout
  /-- A host write of SVC_ATB selects a test point, or is ignored in SERVICE. (R442) -/
  | svcAtbWrite (d v : Nat)
  /-- A device read of a ring entry or overlay line receives no completion before the PCIe completion timeout, and the queue enters FAULT or the overlay layer faults. (R313) -/
  | pcieCompletionTimeout (d : Nat) (layer : Option Nat) (q : Nat)
  /-- A lane of an ACTIVE Skein port is lost, so the port goes DOWN, a worker's loop enters WINTER, and the port retrains. (R415) -/
  | skeinLaneLost (p : Nat)
  /-- A Splice lane retrain or spare-lane training of up to 20 µs ends, and traffic moves back or the full lane count returns, restoring trigger-term state vectors under R26 and R160. (R398) -/
  | spliceLaneRetrainDone (d l margin : Nat)
  /-- A SYN lock attempt does not succeed, and the third successive failure retires the die. (R402) -/
  | synLockAttemptFail (d : Nat)
  /-- 2^47 ticks pass without a logic change record, so the LC writer places an ESCAPE control record. (R89) -/
  | lcEscape (d : Nat)
  /-- The PCIe link returns to L0 from L1 or L1.2 or D3cold, so WAKE# is released and VIGIL mailbox commands may be taken. (R374) -/
  | pcieLinkL0 (d : Nat)
  /-- The copy of a worn SRAM bank to its spare completes, the bank is remapped between two accesses, and the SRAM group is released. (R399) -/
  | sramCopyDone (d : Nat)
  /-- TRST_N is driven low and both TAPs reset, whatever the mode. (R473) -/
  | tapReset
  /-- An instruction is shifted into a die's TAP through TCK and TMS; in HOLD it acts, and outside HOLD any instruction other than BYPASS, IDCODE or SAMPLE acts as BYPASS. (R473) -/
  | tapInstructionLoad (d : Nat) (i : TapInstr)
  deriving DecidableEq, Repr

end Sys2Proof
end

