-- ==== Sys2Proof/Config.lean ====
section
/-!
DEFINITION. What an implementation fixes, and the free values: constants without a body, which no proof can see into.
-/

namespace Sys2Proof.Config

/-- The `n`th free value. A step that needs a value the spec leaves open takes the next one and keeps the bits it needs. -/
opaque freeValue : Nat → Nat

/-- The lock-enable bit of the OTP (R433). -/
opaque lockEnable : Nat

/-- The firmware route that the firmware image gives a source (R321): die, source to queue and enable. -/
opaque fwQueue : Nat → Nat → Nat
opaque fwEnable : Nat → Nat → Nat

/-- ln(1 + t / coef_tau) times 2^64 for coef_tau = 0, by which the formula of R44 divides. -/
opaque lnUnscaled : Nat → Int

/-- The time base of the OTP baseline (R115, R119): 0 coef_a, 1 coef_b, 2 coef_tau, 3 factory_trim. -/
opaque otpTimeBase : Nat → Nat

/-- A factory trim tap in the OTP (R119): die, channel, slice, trim (0 offset, 1 skew, 2 bandwidth, 3 + t gain for ATTEN t). -/
opaque factoryTap : Nat → Nat → Nat → Nat → Nat

/-- A bias baseline in the OTP, 0.1 µA (R390). -/
opaque factoryBias : Nat → Nat → Nat → Nat

/-- The power a comparator unit saves when it leaves a speed mode for the next slower one, mW (R380); the spec gives only M0's cost. -/
opaque cmpStepSaving : Nat → Nat

/-- Stored byte rate of the logic set of a die, bytes a second, by which Harvest scales its arm (R377); the spec gives no figure. -/
opaque logicByteRate : Nat → Nat

/-- Guard symbol 64 + k of a codeword with these data symbols (R186); the manual names neither the field's polynomial nor the generator. -/
opaque guardSymbol : List (BitVec 8) → Nat → BitVec 8

/-- What a decoder makes of three or more symbols in error (R187): none where it finds them uncorrectable; else the symbols it alters, with
what it adds to each. -/
opaque miscorrection : List (Nat × Nat) → Option (List (Nat × Nat))

/-- Tap k of the compensating FIR of HIRES, but for its centre tap, in units of 2^−18; the manual gives its length and its passband. -/
opaque compensator : Nat → Int

/-- Tap k of a phase of the resampler's prototype, in units of 2^−18 (R142); the manual gives its passband. -/
opaque rsmTap : Nat → Nat → Int

/-- The power of usable codes in one of the 16 bands of R96, code blocks to band; the manual gives no method of measuring it. -/
opaque bandPower : List (List Int) → Nat → Nat

/-- The version of the boot ROM (R353). -/
opaque romVersion : Nat

/-- The serial number of a die (R353, R434). -/
opaque serial : Nat → Nat

/-- A byte of the 256-bit maker key in the OTP of a die (R433). -/
opaque makerKey : Nat → Nat → BitVec 8

/-- Vendor ID, subsystem vendor ID and subsystem ID in the OTP of a die (R476). -/
opaque vendorId : Nat → Nat
opaque subsystemVendorId : Nat → Nat
opaque subsystemId : Nat → Nat

/-- An entry of the factory timing curve of a trigger level in the OTP (R162): die, channel, edge direction, index. -/
opaque factoryCurve : Nat → Nat → Nat → Nat → Nat

end Sys2Proof.Config
end

