-- ==== Sys2Proof/Machine/Sparse.lean ====
section
/-!
DEFINITION. Sparse data by key: a list of key and value pairs whose keys rise strictly, the one canonical form
of register contents and of memory.
-/

namespace Sys2Proof.Machine

/-- Lexicographic strict order on lists of numbers. -/
def lexLt : List Nat → List Nat → Bool
  | [], [] => false
  | [], _ :: _ => true
  | _ :: _, [] => false
  | a :: as, b :: bs => if a < b then true else if b < a then false else lexLt as bs

/-- The value listed for a key. -/
def sparseGet {κ ν : Type} [DecidableEq κ] (k : κ) : List (κ × ν) → Option ν
  | [] => none
  | (k', v) :: t => if k' = k then some v else sparseGet k t

/-- List `k` with the value given, or drop it; the order of the keys is kept. -/
def sparsePut {κ ν : Type} (lt : κ → κ → Bool) (k : κ) (ov : Option ν) : List (κ × ν) → List (κ × ν)
  | [] => match ov with
    | none => []
    | some v => [(k, v)]
  | (k', v') :: t =>
    if lt k k' then
      match ov with
      | none => (k', v') :: t
      | some v => (k, v) :: (k', v') :: t
    else if lt k' k then (k', v') :: sparsePut lt k ov t
    else match ov with
      | none => t
      | some v => (k, v) :: t

/-- The keys rise strictly. -/
def sparseOrdered {κ ν : Type} (lt : κ → κ → Bool) : List (κ × ν) → Bool
  | [] => true
  | [_] => true
  | (k, _) :: (k', v') :: t => lt k k' && sparseOrdered lt ((k', v') :: t)

/-- Strict order of memory addresses. -/
def natLt (a b : Nat) : Bool := a < b

end Sys2Proof.Machine
end

