-- ==== Sys2Proof/Machine/Registers.lean ====
section
/-!
DEFINITION. The registers, table memories and internal registers of the MV4-160, each by the spec's name.
The tables of `Reg.layout` and `Reg.fields` are the register descriptions of the chapters (R6, R7), and R478 and R479.
Internal registers (constructors that begin with a small i) hold state which a rule gives the device and which no register shows.
-/

namespace Sys2Proof.Machine

/-- The registers and table memories (spec names), then the internal registers. -/
inductive Reg where
  | XTO_STATUS
  | XTO_REF_CTRL
  | XTO_PHASE_ERR
  | XTO_PULL
  | XTO_STEP_TICKS
  | XTO_STEP_FRAC
  | XTO_STEP_AT
  | SYN_CTRL
  | SYN_STATUS
  | SYN_DRIFT
  | SYN_OFFSET
  | SYN_RAMP_END
  | SYN_RAMP_DUR
  | SYN_ALIAS
  | AUX_CTRL
  | AUX_STATUS
  | CLD_DT_SNAP
  | CLD_DT_TICKS
  | CLD_STATUS
  | CLD_LATE_COUNT
  | CNV_CTRL
  | CNV_STATUS
  | CNV_OVLD_COUNT
  | CNV_CLIP_COUNT
  | CNV_SLICE_MAP
  | CNV_BIAS
  | CNV_DIE_STATUS
  | CRD_CTRL
  | CRD_SUFF
  | CRD_TOL
  | CRD_TIMEOUT
  | CRD_STATUS
  | CRD_SUFF_COUNT
  | CRD_INSUFF_COUNT
  | CRD_COMB_CMD
  | CRD_COMB_STATUS
  | CRD_TRIM
  | CRD_SLICE_STAT
  | CRD_STORE_CTRL
  | CRD_STORE_STATUS
  | CRD_STORE_GEN
  | EQ_CTRL
  | EQ_STATUS
  | EQ_SAT_COUNT
  | EQ_COEF
  | DEC_CTRL
  | DEC_RATIO
  | DEC_STATUS
  | DEC_SAT_COUNT
  | FIR_CTRL
  | FIR_STATUS
  | FIR_COEF
  | RSM_CTRL
  | RSM_STATUS
  | RSM_RATIO
  | RSM_SAT_COUNT
  | TRG_CH_CFG
  | TRG_LEVEL
  | TRG_LEVEL_STAT
  | TRG_CTRL
  | TRG_STATUS
  | TRG_TERM_CFG
  | TRG_TERM_T1
  | TRG_TERM_T2
  | TRG_PAT_ANA
  | TRG_PAT_LOG
  | TRG_TERM_COUNT
  | TRG_TERM_SNAP
  | TRG_SEQ_CTRL
  | TRG_SEQ_STATUS
  | TRG_AUTO_TIMEOUT
  | TRG_HOLDOFF
  | TRG_FORCE
  | TRG_LAST
  | TRG_TRIG_COUNT
  | TRG_COINC_COUNT
  | TRG_DISCARD_COUNT
  | TRG_FORCE_DROP_COUNT
  | TRG_TRIG_SNAP
  | ACQ_CTRL
  | ACQ_CMD
  | ACQ_STATUS
  | ACQ_SEG_LEN
  | ACQ_NSEG
  | ACQ_PRE
  | ACQ_POST
  | ACQ_SPILL_BUF
  | ACQ_SEG_COUNT
  | ACQ_SKIP_COUNT
  | ACQ_OPEN_SLOT
  | MEM_STATUS
  | MEM_DEPTH
  | MEM_UE_COUNT
  | MEM_UE_ADDR
  | MEM_SCRUB_STATUS
  | MEM_SCRUB_CE
  | MEM_PC_MAP
  | MEM_PC_STAT
  | MEM_PC_CE
  | MEM_WIN
  | STR_CTRL
  | STR_DATA_RING
  | STR_AUX_RINGS
  | STR_STATUS
  | STR_INDEX
  | STR_FILL
  | STR_MARK_SEQ
  | STR_GAP_SEQ
  | STR_MARK_LOST_COUNT
  | ACC_CTRL
  | ACC_CMD
  | ACC_STATUS
  | ACC_AVG_COUNT
  | ACC_AVG_DONE
  | ACC_AVG_BATCH
  | ACC_AVG_START
  | ACC_AVG_LEN
  | ACC_HIST_X_ORIGIN
  | ACC_HIST_X_STEP
  | ACC_HIST_Y
  | ACC_DECAY
  | ACC_FRAME_PERIOD
  | ACC_EXCL
  | ACC_RATE_CAP
  | ACC_AVG_INCOMPLETE
  | ACC_HIST_ACQ
  | ACC_SKIP
  | SCN_CTRL
  | SCN_STATUS
  | SCN_FRAME
  | SCN_BG
  | SCN_LINK_CFG
  | SCN_UNDERRUN_COUNT
  | SCN_TIM_H
  | SCN_TIM_HS
  | SCN_TIM_V
  | SCN_TIM_VS
  | SCN_TIM_PCLK
  | SCN_TIM_CTRL
  | SCN_CUR_POS
  | SCN_CUR_CTRL
  | SCN_WF_CFG
  | SCN_WF_POS
  | SCN_WF_SIZE
  | SCN_OVL_CTRL
  | SCN_OVL_ADDR
  | SCN_OVL_STRIDE
  | SCN_OVL_FLIP
  | SCN_OVL_STAT
  | SCN_FAULT_FRAME
  | FRW_CTRL
  | FRW_STATUS
  | FRW_CRC
  | LGC_CH_CFG
  | LGC_SUPPRESS_COUNT
  | LGC_CTRL
  | LGC_STATE
  | LGC_STATUS
  | TIM_CTRL
  | TIM_START_SRC
  | TIM_STOP_SRC
  | TIM_GATE
  | TIM_N
  | TIM_CUE
  | TIM_STATUS
  | TIM_IGN_STOP
  | TIM_IGN_START
  | TIM_SUPPRESS
  | TIM_TOTAL
  | TIM_SNAP
  | TIM_RES
  | CMP_CTRL
  | CMP_THRESH
  | CMP_BLANK
  | CMP_STATUS
  | CMP_COUNT
  | CMP_BLANK_COUNT
  | CMP_SNAP
  | CMP_BLANK_TMR
  | CMP_WIN
  | CMP_SPARE_MAP
  | QUE_BASE
  | QUE_CFG
  | QUE_STATUS
  | QUE_PTR
  | QUE_IRQ
  | QUE_COAL
  | QUE_LOST
  | QUE_WB
  | QUE_AUX
  | DBL
  | EVC_PEND
  | EVC_MASK
  | EVC_RAISE
  | EVC_STATUS
  | EVC_DST_WAKE
  | EVC_ROUTE
  | MBX_URG_CMD
  | MBX_URG_RSP
  | MBX_URG_CTRL
  | MBX_URG_STATUS
  | MBX_STATUS
  | MBX_VLOG_NEXT
  | MBX_VLOG_TOTAL
  | MBX_RING_STAT
  | MBX_VLOG
  | PWR_MODE
  | PWR_DOMAIN
  | PWR_WAKE_CTRL
  | PWR_WAKE_DT
  | PWR_WAKE_CAUSE
  | PWR_STATUS
  | PWR_RAIL
  | PWR_TEMP
  | HVS_ALLOW
  | HVS_CAP
  | HVS_BUDGET
  | HVS_LEDGER
  | HVS_SHARE
  | HVS_STATUS
  | HVS_REFUSE_COUNT
  | HVS_DEFER_COUNT
  | BOB_CTRL
  | BOB_THRESH
  | BOB_STATUS
  | BOB_RETIRED
  | BOB_ACTIVE
  | BOB_SPL_LANES
  | BOB_SPL_MARGIN
  | BOB_SRAM
  | MNT_RUNNING
  | MNT_WAITING
  | MNT_GROUP
  | SKN_CTRL
  | SKN_TRIG_SEL
  | SKN_GSEQ_CTRL
  | SKN_GSEQ_HOLDOFF
  | SKN_STATUS
  | SKN_PORT_STATUS
  | SKN_GSEQ_STATUS
  | SKN_LOST
  | SKN_GTERM
  | SKN_PORT_LAT
  | SKN_PORT_VIOL
  | SKN_SYNC_RX
  | SVC_STATUS
  | SVC_ATB
  | SVC_RESULT
  | BOOT_STATUS
  | BOOT_RESET_CAUSE
  | BOOT_CTRL
  | BOOT_TIME
  | BOOT_EP_CAUSE
  | BOOT_IMG_VER
  | TOP_ID
  | CUE
  | SEQ_STATE
  | GSEQ_STATE
  | TRG_CURVE
  | SCN_CURVE
  | SCN_PALETTE
  | SCN_CURSOR
  | COST
  | MSIX
  | MSIX_PBA
  | HIST
  | ACCUM
  | i_raiseCount
  | i_lastPayload
  | i_levelHeld
  | i_levelHeldFw
  | i_ovfBefore
  | i_coalCount
  | i_coalDeadline
  | i_coalTimed
  | i_msixFuncMask
  | i_coreLevel
  | i_coreAsleep
  | i_cardSuspended
  | i_linkL0
  | i_settleBlk
  | i_settleTimed
  | i_fadeWait
  | i_fadeTo
  | i_fadeFromPending
  | i_fadeLen
  | i_fadeAt
  | i_fadeTouch
  | i_eqFrom
  | i_eqPrev
  | i_stopAsked
  | i_stopAt
  | i_gapLogIdx
  | i_remapHold
  | i_lgcHold
  | i_lgcComp
  | i_lgcMask
  | i_termA
  | i_termAOn
  | i_termARise
  | i_termB
  | i_termBOn
  | i_toutOrg
  | i_toutOn
  | i_patKnown
  | i_patTrue
  | i_patStart
  | i_seqEntry
  | i_seqCount
  | i_seqFrom
  | i_autoOrigin
  | i_deadBlk
  | i_seqEntryBlk
  | i_patView
  | i_patState
  | i_patUnres
  | i_termFrom
  | i_holdEnd
  | i_holdTimed
  | i_holdLeft
  | i_discards
  | i_runLate
  | i_runCoin
  | i_runTaken
  | i_runOther
  | i_trigTotal
  | i_accFrames
  | i_accWas
  | i_accWasAt
  | i_accDecayAt
  | i_loopCorr
  | i_ovenOn
  | i_ovenSaved
  | i_refitCount
  | i_refitAt
  | i_gainTap
  | i_loopUs
  | i_sliceTmo
  | i_biasBase
  | i_cardSuff
  | i_cardAt
  | i_cardInt
  | i_starveAt
  | i_starveLeft
  | i_testDom
  | i_combAt
  | i_calOpen
  | i_testDone
  | i_atbBy
  | i_combOpen
  | i_combEnding
  | i_combCode
  | i_combStore
  | i_storeSlot
  | i_storeCommitted
  | i_storeCommitAt
  | i_storeAdmitted
  | i_retireAt
  | i_swapBlk
  | i_swapSeg
  | i_swapDone
  | i_edgeSince
  | i_tmoAt
  | i_rtTraining
  | i_phaseOrg
  | i_refEdge
  | i_inOn
  | i_inSince
  | i_pullAt
  | i_ovenFirst
  | i_dtFrac
  | i_refitPt
  | i_synClk
  | i_rampStart
  | i_cueSince
  | i_coefA
  | i_coefB
  | i_coefTau
  | i_factoryTrim
  | i_rampFrom
  | i_rampBase
  | i_auxLoss
  | i_synFails
  | i_settleAt
  | i_ovldStart
  | i_ovldClear
  | i_ovldSeen
  | i_bobAt
  | i_scrubFixed
  | i_scrubPos
  | i_engRetired
  | i_bankRetired
  | i_cmpRetired
  | i_sramCopyAt
  | i_laneAt
  | i_laneSpare
  | i_heldOn
  | i_heldTicks
  | i_coreStack
  | i_coreDepth
  | i_coreAt
  | i_coreFetch
  | i_coreOut
  | i_coreWoke
  | i_coreReq
  | i_coreReqQ
  | i_modeMw
  | i_wakeOn
  | i_wakeAt
  | i_wakeHeld
  | i_wakeUnit
  | i_wakeDie
  | i_modeCause
  | i_wakePin
  | i_linkDeep
  | i_periodNo
  | i_cmpIn
  | i_cmpPower
  | i_cmpStart
  | i_cmpSettleDt
  | i_cmpBlankDt
  | i_lgcStart
  | i_lgcMaskAt
  | i_lgcOff
  | i_lgcOffAt
  | i_timAct
  | i_timPend
  | i_scnFirst
  | i_scnRetrain
  | i_ctlAct
  | i_bgAct
  | i_curAct
  | i_wfAct
  | i_curveAct
  | i_palAct
  | i_imageAct
  | i_ovlAct
  | i_firedAt
  | i_mbxTook
  | i_mbxTurn
  | i_farEven
  | i_farOdd
  | i_frwHold
  | i_frwHist
  | i_refAwait
  | i_joinDone
  | i_svcEcho
  | i_svcChalOn
  | i_svcChalAt
  | i_svcChal
  | i_svcWrongN
  | i_svcWrongAt
  | i_svcLockAt
  | i_svcBaudWait
  | i_svcBaudAt
  | i_svcTestWait
  | i_svcTestAt
  | i_svcMeterAt
  | i_svcAtbSave
  | i_svcForced
  | i_tapIr
  | i_bootStep
  | i_bootAt
  | i_bootSelf
  | i_bootImg
  | i_bootFault
  | i_thermHold
  | i_flashMbit
  | i_sfdpRev
  | i_fwJob
  | i_skEcho
  | i_skEchoN
  | i_skEchoPos
  | i_skEchoId
  | i_skEchoT1
  | i_skEchoWait
  | i_skPrev
  | i_skPrevOn
  | i_skViol
  | i_skViolN
  | i_skViolPos
  | i_skMiss
  | i_skBcast
  | i_skAck
  | i_skPath
  | i_skHop
  | i_skCause
  | i_skSeen
  | i_skAlign
  | i_skMeas
  | i_skBelow
  | i_skSent
  | i_skEchoGot
  | i_skEchoAt
  | i_skErrSum
  | i_skErrN
  | i_gsEntry
  | i_gsCount
  | i_gsDead
  | i_gsHold
  | i_gsCoin
  | i_gsLate
  | i_gsTaken
  | i_gsOther
  | i_gtSeq
  | i_gtOn
  | i_gtDt
  | i_gtInfo
  | i_imgVersion
  | i_imgBuild
  | i_svcMeterN
  | i_libArmed
  | i_libStepped
  | i_libStepAt
  deriving DecidableEq, Repr

/-- Access codes of R7. -/
inductive Access where
  | RW | RO | WO | RC | W1C | W1S | RWS
  deriving DecidableEq, Repr

/-- A field: its register, its lowest bit and its width (R4). -/
structure Fld where
  reg : Reg
  lo : Nat
  width : Nat
  deriving DecidableEq, Repr

/-- A row of a field table: the field, its access code and its reset value. -/
structure FldInfo where
  fld : Fld
  acc : Access
  reset : Nat
  deriving DecidableEq, Repr

/-- Where a register lies in BAR0 (R477 to R479): base offset, stride and count of each index after the die,
the number of 32-bit words, and whether one copy serves the package (R480). -/
structure Layout where
  base : Nat
  dims : List (Nat × Nat)
  words : Nat
  perPackage : Bool
  deriving DecidableEq, Repr

abbrev F.XTO_STATUS.REF_STATE : Fld := ⟨.XTO_STATUS, 0, 3⟩
abbrev F.XTO_STATUS.REF_PRESENT : Fld := ⟨.XTO_STATUS, 3, 1⟩
abbrev F.XTO_STATUS.HOLD_WAIT : Fld := ⟨.XTO_STATUS, 4, 1⟩
abbrev F.XTO_STATUS.SLEWING : Fld := ⟨.XTO_STATUS, 5, 1⟩
abbrev F.XTO_STATUS.STEP_PENDING : Fld := ⟨.XTO_STATUS, 6, 1⟩
abbrev F.XTO_STATUS.OVEN_READY : Fld := ⟨.XTO_STATUS, 7, 1⟩
abbrev F.XTO_STATUS.WARM : Fld := ⟨.XTO_STATUS, 8, 1⟩
abbrev F.XTO_REF_CTRL.ENABLE : Fld := ⟨.XTO_REF_CTRL, 0, 1⟩
abbrev F.XTO_REF_CTRL.REF_FREQ : Fld := ⟨.XTO_REF_CTRL, 1, 1⟩
abbrev F.XTO_REF_CTRL.POLICY : Fld := ⟨.XTO_REF_CTRL, 2, 2⟩
abbrev F.XTO_REF_CTRL.RESUME : Fld := ⟨.XTO_REF_CTRL, 4, 2⟩
abbrev F.XTO_PHASE_ERR.ERR : Fld := ⟨.XTO_PHASE_ERR, 0, 32⟩
abbrev F.XTO_PULL.PULL : Fld := ⟨.XTO_PULL, 0, 24⟩
abbrev F.XTO_STEP_TICKS.TICKS : Fld := ⟨.XTO_STEP_TICKS, 0, 64⟩
abbrev F.XTO_STEP_FRAC.FRAC : Fld := ⟨.XTO_STEP_FRAC, 0, 12⟩
abbrev F.XTO_STEP_AT.AT : Fld := ⟨.XTO_STEP_AT, 0, 64⟩
abbrev F.SYN_CTRL.MODE : Fld := ⟨.SYN_CTRL, 0, 1⟩
abbrev F.SYN_CTRL.RAMP_START : Fld := ⟨.SYN_CTRL, 1, 1⟩
abbrev F.SYN_CTRL.RAMP_ABORT : Fld := ⟨.SYN_CTRL, 2, 1⟩
abbrev F.SYN_CTRL.RAMP_REPEAT : Fld := ⟨.SYN_CTRL, 3, 1⟩
abbrev F.SYN_CTRL.RAMP_LAST : Fld := ⟨.SYN_CTRL, 4, 6⟩
abbrev F.SYN_CTRL.ALIAS_EN : Fld := ⟨.SYN_CTRL, 10, 2⟩
abbrev F.SYN_STATUS.LOCK : Fld := ⟨.SYN_STATUS, 0, 2⟩
abbrev F.SYN_STATUS.MODE_ACTIVE : Fld := ⟨.SYN_STATUS, 2, 1⟩
abbrev F.SYN_STATUS.PHASE_DET : Fld := ⟨.SYN_STATUS, 3, 1⟩
abbrev F.SYN_STATUS.RAMP_ACTIVE : Fld := ⟨.SYN_STATUS, 4, 1⟩
abbrev F.SYN_STATUS.RAMP_SEG : Fld := ⟨.SYN_STATUS, 5, 6⟩
abbrev F.SYN_STATUS.MODE_REJECT : Fld := ⟨.SYN_STATUS, 11, 1⟩
abbrev F.SYN_STATUS.RAMP_REJECT : Fld := ⟨.SYN_STATUS, 12, 1⟩
abbrev F.SYN_DRIFT.DRIFT : Fld := ⟨.SYN_DRIFT, 0, 16⟩
abbrev F.SYN_OFFSET.OFFSET : Fld := ⟨.SYN_OFFSET, 0, 24⟩
abbrev F.SYN_RAMP_END.END_OFFSET : Fld := ⟨.SYN_RAMP_END, 0, 24⟩
abbrev F.SYN_RAMP_DUR.DURATION : Fld := ⟨.SYN_RAMP_DUR, 0, 32⟩
abbrev F.SYN_ALIAS.SUSPECT : Fld := ⟨.SYN_ALIAS, 0, 1⟩
abbrev F.SYN_ALIAS.ZONE : Fld := ⟨.SYN_ALIAS, 1, 4⟩
abbrev F.SYN_ALIAS.SIGN : Fld := ⟨.SYN_ALIAS, 5, 1⟩
abbrev F.SYN_ALIAS.EST_MHZ : Fld := ⟨.SYN_ALIAS, 6, 20⟩
abbrev F.AUX_CTRL.SPREAD_MODE : Fld := ⟨.AUX_CTRL, 0, 2⟩
abbrev F.AUX_CTRL.SPREAD_DEPTH : Fld := ⟨.AUX_CTRL, 2, 6⟩
abbrev F.AUX_STATUS.LOCKED : Fld := ⟨.AUX_STATUS, 0, 1⟩
abbrev F.AUX_STATUS.COAST : Fld := ⟨.AUX_STATUS, 1, 1⟩
abbrev F.AUX_STATUS.BLANKED : Fld := ⟨.AUX_STATUS, 2, 1⟩
abbrev F.AUX_STATUS.FALLBACK : Fld := ⟨.AUX_STATUS, 3, 1⟩
abbrev F.CLD_DT_SNAP.SNAP : Fld := ⟨.CLD_DT_SNAP, 0, 1⟩
abbrev F.CLD_DT_TICKS.TICKS : Fld := ⟨.CLD_DT_TICKS, 0, 64⟩
abbrev F.CLD_STATUS.PENDING : Fld := ⟨.CLD_STATUS, 0, 9⟩
abbrev F.CLD_STATUS.WRITE_IGNORED : Fld := ⟨.CLD_STATUS, 9, 1⟩
abbrev F.CLD_LATE_COUNT.COUNT : Fld := ⟨.CLD_LATE_COUNT, 0, 32⟩
abbrev F.CNV_CTRL.ATTEN : Fld := ⟨.CNV_CTRL, 0, 3⟩
abbrev F.CNV_CTRL.CAL_SW : Fld := ⟨.CNV_CTRL, 3, 1⟩
abbrev F.CNV_CTRL.LADDER_SEL : Fld := ⟨.CNV_CTRL, 4, 4⟩
abbrev F.CNV_CTRL.OVLD_EVT_EN : Fld := ⟨.CNV_CTRL, 8, 1⟩
abbrev F.CNV_STATUS.OVLD_HI : Fld := ⟨.CNV_STATUS, 0, 1⟩
abbrev F.CNV_STATUS.OVLD_LO : Fld := ⟨.CNV_STATUS, 1, 1⟩
abbrev F.CNV_STATUS.OVLD_EPISODE : Fld := ⟨.CNV_STATUS, 2, 1⟩
abbrev F.CNV_STATUS.OVLD_STICKY : Fld := ⟨.CNV_STATUS, 3, 1⟩
abbrev F.CNV_STATUS.CLIP_STICKY : Fld := ⟨.CNV_STATUS, 4, 1⟩
abbrev F.CNV_STATUS.SETTLING : Fld := ⟨.CNV_STATUS, 5, 1⟩
abbrev F.CNV_STATUS.ATTEN_REJECT : Fld := ⟨.CNV_STATUS, 6, 1⟩
abbrev F.CNV_STATUS.CAL_ACTIVE : Fld := ⟨.CNV_STATUS, 7, 1⟩
abbrev F.CNV_STATUS.AVAILABLE : Fld := ⟨.CNV_STATUS, 8, 1⟩
abbrev F.CNV_STATUS.SPARES_LEFT : Fld := ⟨.CNV_STATUS, 9, 4⟩
abbrev F.CNV_STATUS.CAL_TEST : Fld := ⟨.CNV_STATUS, 13, 1⟩
abbrev F.CNV_OVLD_COUNT.COUNT : Fld := ⟨.CNV_OVLD_COUNT, 0, 32⟩
abbrev F.CNV_CLIP_COUNT.COUNT : Fld := ⟨.CNV_CLIP_COUNT, 0, 32⟩
abbrev F.CNV_SLICE_MAP.SPARE_PHASE : Fld := ⟨.CNV_SLICE_MAP, 0, 4⟩
abbrev F.CNV_SLICE_MAP.SPARE_STATE : Fld := ⟨.CNV_SLICE_MAP, 4, 2⟩
abbrev F.CNV_SLICE_MAP.LANE_LOST : Fld := ⟨.CNV_SLICE_MAP, 6, 1⟩
abbrev F.CNV_BIAS.BIAS : Fld := ⟨.CNV_BIAS, 0, 16⟩
abbrev F.CNV_DIE_STATUS.SPLIT : Fld := ⟨.CNV_DIE_STATUS, 0, 1⟩
abbrev F.CNV_DIE_STATUS.C1_TERM : Fld := ⟨.CNV_DIE_STATUS, 1, 1⟩
abbrev F.CNV_DIE_STATUS.C1_DELAY : Fld := ⟨.CNV_DIE_STATUS, 2, 1⟩
abbrev F.CRD_CTRL.ENABLE : Fld := ⟨.CRD_CTRL, 0, 1⟩
abbrev F.CRD_CTRL.LOOP_EN : Fld := ⟨.CRD_CTRL, 1, 4⟩
abbrev F.CRD_CTRL.INTERVAL : Fld := ⟨.CRD_CTRL, 5, 17⟩
abbrev F.CRD_SUFF.VAR_FLOOR : Fld := ⟨.CRD_SUFF, 0, 16⟩
abbrev F.CRD_SUFF.OCC_SHIFT : Fld := ⟨.CRD_SUFF, 16, 4⟩
abbrev F.CRD_SUFF.COH_RATIO : Fld := ⟨.CRD_SUFF, 20, 4⟩
abbrev F.CRD_TOL.OFS_TOL : Fld := ⟨.CRD_TOL, 0, 8⟩
abbrev F.CRD_TOL.GAIN_TOL : Fld := ⟨.CRD_TOL, 8, 8⟩
abbrev F.CRD_TOL.SKEW_TOL : Fld := ⟨.CRD_TOL, 16, 8⟩
abbrev F.CRD_TOL.BW_TOL : Fld := ⟨.CRD_TOL, 24, 8⟩
abbrev F.CRD_TIMEOUT.TIMEOUT : Fld := ⟨.CRD_TIMEOUT, 0, 16⟩
abbrev F.CRD_STATUS.STATE : Fld := ⟨.CRD_STATUS, 0, 3⟩
abbrev F.CRD_STATUS.STARVED : Fld := ⟨.CRD_STATUS, 3, 1⟩
abbrev F.CRD_STATUS.LAST_CAUSE : Fld := ⟨.CRD_STATUS, 4, 4⟩
abbrev F.CRD_STATUS.OCC_BANDS : Fld := ⟨.CRD_STATUS, 8, 5⟩
abbrev F.CRD_STATUS.TIMEOUT_ANY : Fld := ⟨.CRD_STATUS, 13, 1⟩
abbrev F.CRD_STATUS.SAT_ANY : Fld := ⟨.CRD_STATUS, 14, 1⟩
abbrev F.CRD_SUFF_COUNT.COUNT : Fld := ⟨.CRD_SUFF_COUNT, 0, 32⟩
abbrev F.CRD_INSUFF_COUNT.COUNT : Fld := ⟨.CRD_INSUFF_COUNT, 0, 32⟩
abbrev F.CRD_COMB_CMD.START : Fld := ⟨.CRD_COMB_CMD, 0, 1⟩
abbrev F.CRD_COMB_CMD.ABORT : Fld := ⟨.CRD_COMB_CMD, 1, 1⟩
abbrev F.CRD_COMB_CMD.ALLOW_ARMED : Fld := ⟨.CRD_COMB_CMD, 2, 1⟩
abbrev F.CRD_COMB_CMD.STORE : Fld := ⟨.CRD_COMB_CMD, 3, 1⟩
abbrev F.CRD_COMB_STATUS.STATE : Fld := ⟨.CRD_COMB_STATUS, 0, 3⟩
abbrev F.CRD_COMB_STATUS.LEVEL : Fld := ⟨.CRD_COMB_STATUS, 3, 4⟩
abbrev F.CRD_COMB_STATUS.RESULT : Fld := ⟨.CRD_COMB_STATUS, 16, 16⟩
abbrev F.CRD_TRIM.SKEW : Fld := ⟨.CRD_TRIM, 0, 6⟩
abbrev F.CRD_TRIM.OFFSET : Fld := ⟨.CRD_TRIM, 6, 7⟩
abbrev F.CRD_TRIM.GAIN : Fld := ⟨.CRD_TRIM, 13, 6⟩
abbrev F.CRD_TRIM.BW : Fld := ⟨.CRD_TRIM, 19, 4⟩
abbrev F.CRD_SLICE_STAT.CONV : Fld := ⟨.CRD_SLICE_STAT, 0, 4⟩
abbrev F.CRD_SLICE_STAT.TMO : Fld := ⟨.CRD_SLICE_STAT, 4, 4⟩
abbrev F.CRD_SLICE_STAT.EDGE : Fld := ⟨.CRD_SLICE_STAT, 8, 4⟩
abbrev F.CRD_SLICE_STAT.SAT : Fld := ⟨.CRD_SLICE_STAT, 12, 4⟩
abbrev F.CRD_SLICE_STAT.LATE_ARRIVAL : Fld := ⟨.CRD_SLICE_STAT, 16, 1⟩
abbrev F.CRD_SLICE_STAT.WEAR_CAND : Fld := ⟨.CRD_SLICE_STAT, 17, 1⟩
abbrev F.CRD_STORE_CTRL.WRITE : Fld := ⟨.CRD_STORE_CTRL, 0, 1⟩
abbrev F.CRD_STORE_STATUS.SOURCE : Fld := ⟨.CRD_STORE_STATUS, 0, 2⟩
abbrev F.CRD_STORE_STATUS.TORN : Fld := ⟨.CRD_STORE_STATUS, 2, 1⟩
abbrev F.CRD_STORE_STATUS.BUSY : Fld := ⟨.CRD_STORE_STATUS, 3, 1⟩
abbrev F.CRD_STORE_STATUS.PENDING : Fld := ⟨.CRD_STORE_STATUS, 4, 1⟩
abbrev F.CRD_STORE_STATUS.WRITE_FAIL : Fld := ⟨.CRD_STORE_STATUS, 5, 1⟩
abbrev F.CRD_STORE_STATUS.A_STATE : Fld := ⟨.CRD_STORE_STATUS, 6, 2⟩
abbrev F.CRD_STORE_STATUS.B_STATE : Fld := ⟨.CRD_STORE_STATUS, 8, 2⟩
abbrev F.CRD_STORE_GEN.GEN : Fld := ⟨.CRD_STORE_GEN, 0, 32⟩
abbrev F.EQ_CTRL.BANK : Fld := ⟨.EQ_CTRL, 0, 1⟩
abbrev F.EQ_CTRL.BYPASS : Fld := ⟨.EQ_CTRL, 1, 1⟩
abbrev F.EQ_STATUS.ACTIVE_BANK : Fld := ⟨.EQ_STATUS, 0, 1⟩
abbrev F.EQ_STATUS.BYPASSED : Fld := ⟨.EQ_STATUS, 1, 1⟩
abbrev F.EQ_STATUS.CFG_REJECT : Fld := ⟨.EQ_STATUS, 2, 1⟩
abbrev F.EQ_STATUS.WRITE_REJECT : Fld := ⟨.EQ_STATUS, 3, 1⟩
abbrev F.EQ_STATUS.SAT_STICKY : Fld := ⟨.EQ_STATUS, 4, 1⟩
abbrev F.EQ_SAT_COUNT.COUNT : Fld := ⟨.EQ_SAT_COUNT, 0, 32⟩
abbrev F.EQ_COEF.COEF : Fld := ⟨.EQ_COEF, 0, 20⟩
abbrev F.DEC_CTRL.MODE : Fld := ⟨.DEC_CTRL, 0, 2⟩
abbrev F.DEC_RATIO.RATIO : Fld := ⟨.DEC_RATIO, 0, 25⟩
abbrev F.DEC_STATUS.CFG_REJECT : Fld := ⟨.DEC_STATUS, 0, 1⟩
abbrev F.DEC_STATUS.SAT_STICKY : Fld := ⟨.DEC_STATUS, 1, 1⟩
abbrev F.DEC_STATUS.SETTLING : Fld := ⟨.DEC_STATUS, 2, 1⟩
abbrev F.DEC_STATUS.ARM_CHECK : Fld := ⟨.DEC_STATUS, 16, 16⟩
abbrev F.DEC_SAT_COUNT.COUNT : Fld := ⟨.DEC_SAT_COUNT, 0, 32⟩
abbrev F.FIR_CTRL.DECIM : Fld := ⟨.FIR_CTRL, 0, 5⟩
abbrev F.FIR_CTRL.SWAP : Fld := ⟨.FIR_CTRL, 5, 1⟩
abbrev F.FIR_CTRL.SWAP_BANK : Fld := ⟨.FIR_CTRL, 6, 1⟩
abbrev F.FIR_CTRL.FADE_LEN : Fld := ⟨.FIR_CTRL, 8, 16⟩
abbrev F.FIR_STATUS.ACTIVE : Fld := ⟨.FIR_STATUS, 0, 1⟩
abbrev F.FIR_STATUS.FADING : Fld := ⟨.FIR_STATUS, 1, 1⟩
abbrev F.FIR_STATUS.PENDING : Fld := ⟨.FIR_STATUS, 2, 1⟩
abbrev F.FIR_STATUS.PENDING_BANK : Fld := ⟨.FIR_STATUS, 3, 1⟩
abbrev F.FIR_STATUS.WRITE_REJECT : Fld := ⟨.FIR_STATUS, 4, 1⟩
abbrev F.FIR_STATUS.SWAP_REPLACED : Fld := ⟨.FIR_STATUS, 5, 1⟩
abbrev F.FIR_STATUS.CFG_REJECT : Fld := ⟨.FIR_STATUS, 6, 1⟩
abbrev F.FIR_STATUS.FADE_POS : Fld := ⟨.FIR_STATUS, 16, 16⟩
abbrev F.FIR_COEF.COEF : Fld := ⟨.FIR_COEF, 0, 20⟩
abbrev F.RSM_CTRL.ENABLE : Fld := ⟨.RSM_CTRL, 0, 1⟩
abbrev F.RSM_STATUS.ACTIVE : Fld := ⟨.RSM_STATUS, 0, 1⟩
abbrev F.RSM_STATUS.CFG_REJECT : Fld := ⟨.RSM_STATUS, 1, 1⟩
abbrev F.RSM_STATUS.SAT_STICKY : Fld := ⟨.RSM_STATUS, 2, 1⟩
abbrev F.RSM_RATIO.RATIO : Fld := ⟨.RSM_RATIO, 0, 48⟩
abbrev F.RSM_SAT_COUNT.COUNT : Fld := ⟨.RSM_SAT_COUNT, 0, 32⟩
abbrev F.TRG_CH_CFG.SEQ : Fld := ⟨.TRG_CH_CFG, 0, 1⟩
abbrev F.TRG_CH_CFG.PAT_UPPER : Fld := ⟨.TRG_CH_CFG, 2, 2⟩
abbrev F.TRG_CH_CFG.PAT_LOWER : Fld := ⟨.TRG_CH_CFG, 4, 2⟩
abbrev F.TRG_LEVEL.LEVEL : Fld := ⟨.TRG_LEVEL, 0, 16⟩
abbrev F.TRG_LEVEL.HYST : Fld := ⟨.TRG_LEVEL, 16, 8⟩
abbrev F.TRG_LEVEL_STAT.STATE : Fld := ⟨.TRG_LEVEL_STAT, 0, 2⟩
abbrev F.TRG_CTRL.LOGIC_SEQ : Fld := ⟨.TRG_CTRL, 0, 1⟩
abbrev F.TRG_STATUS.XDIE_ACTIVE : Fld := ⟨.TRG_STATUS, 0, 1⟩
abbrev F.TRG_STATUS.XDIE_WITHDRAWN : Fld := ⟨.TRG_STATUS, 1, 1⟩
abbrev F.TRG_STATUS.CMP_SLOW : Fld := ⟨.TRG_STATUS, 2, 1⟩
abbrev F.TRG_STATUS.CFG_REJECT : Fld := ⟨.TRG_STATUS, 3, 1⟩
abbrev F.TRG_STATUS.LATE_TERM : Fld := ⟨.TRG_STATUS, 12, 12⟩
abbrev F.TRG_TERM_CFG.TYPE : Fld := ⟨.TRG_TERM_CFG, 0, 3⟩
abbrev F.TRG_TERM_CFG.SRC : Fld := ⟨.TRG_TERM_CFG, 4, 6⟩
abbrev F.TRG_TERM_CFG.LEVEL_A : Fld := ⟨.TRG_TERM_CFG, 10, 2⟩
abbrev F.TRG_TERM_CFG.LEVEL_B : Fld := ⟨.TRG_TERM_CFG, 12, 2⟩
abbrev F.TRG_TERM_CFG.SLOPE : Fld := ⟨.TRG_TERM_CFG, 14, 2⟩
abbrev F.TRG_TERM_CFG.COND : Fld := ⟨.TRG_TERM_CFG, 16, 3⟩
abbrev F.TRG_TERM_T1.T1 : Fld := ⟨.TRG_TERM_T1, 0, 52⟩
abbrev F.TRG_TERM_T2.T2 : Fld := ⟨.TRG_TERM_T2, 0, 52⟩
abbrev F.TRG_PAT_ANA.ELEM : Fld := ⟨.TRG_PAT_ANA, 0, 8⟩
abbrev F.TRG_PAT_LOG.ELEM : Fld := ⟨.TRG_PAT_LOG, 0, 32⟩
abbrev F.TRG_TERM_COUNT.COUNT : Fld := ⟨.TRG_TERM_COUNT, 0, 32⟩
abbrev F.TRG_TERM_SNAP.COUNT : Fld := ⟨.TRG_TERM_SNAP, 0, 32⟩
abbrev F.TRG_SEQ_CTRL.LAST : Fld := ⟨.TRG_SEQ_CTRL, 0, 4⟩
abbrev F.TRG_SEQ_CTRL.AUTO_EN : Fld := ⟨.TRG_SEQ_CTRL, 4, 1⟩
abbrev F.TRG_SEQ_CTRL.HOLDOFF_MODE : Fld := ⟨.TRG_SEQ_CTRL, 5, 1⟩
abbrev F.TRG_SEQ_CTRL.TRIG_EVT_EN : Fld := ⟨.TRG_SEQ_CTRL, 6, 1⟩
abbrev F.TRG_SEQ_STATUS.STATE : Fld := ⟨.TRG_SEQ_STATUS, 0, 4⟩
abbrev F.TRG_SEQ_STATUS.PHASE : Fld := ⟨.TRG_SEQ_STATUS, 4, 2⟩
abbrev F.TRG_SEQ_STATUS.CFG_REJECT : Fld := ⟨.TRG_SEQ_STATUS, 6, 1⟩
abbrev F.TRG_SEQ_STATUS.COINC_STICKY : Fld := ⟨.TRG_SEQ_STATUS, 7, 1⟩
abbrev F.TRG_SEQ_STATUS.FORCE_DROP_STICKY : Fld := ⟨.TRG_SEQ_STATUS, 8, 1⟩
abbrev F.TRG_SEQ_STATUS.ARM_CHECK : Fld := ⟨.TRG_SEQ_STATUS, 16, 16⟩
abbrev F.TRG_AUTO_TIMEOUT.TICKS : Fld := ⟨.TRG_AUTO_TIMEOUT, 0, 41⟩
abbrev F.TRG_HOLDOFF.VALUE : Fld := ⟨.TRG_HOLDOFF, 0, 41⟩
abbrev F.TRG_FORCE.FORCE : Fld := ⟨.TRG_FORCE, 0, 1⟩
abbrev F.TRG_LAST.TICKS : Fld := ⟨.TRG_LAST, 0, 64⟩
abbrev F.TRG_LAST.FRAC : Fld := ⟨.TRG_LAST, 64, 12⟩
abbrev F.TRG_LAST.TERM : Fld := ⟨.TRG_LAST, 80, 5⟩
abbrev F.TRG_LAST.COIN_TAKEN : Fld := ⟨.TRG_LAST, 88, 5⟩
abbrev F.TRG_LAST.COIN_OTHER : Fld := ⟨.TRG_LAST, 96, 5⟩
abbrev F.TRG_LAST.FORCED : Fld := ⟨.TRG_LAST, 104, 1⟩
abbrev F.TRG_LAST.COINCIDENT : Fld := ⟨.TRG_LAST, 105, 1⟩
abbrev F.TRG_LAST.LATE_ARRIVAL : Fld := ⟨.TRG_LAST, 106, 1⟩
abbrev F.TRG_LAST.SLOW : Fld := ⟨.TRG_LAST, 107, 1⟩
abbrev F.TRG_LAST.HOLDOFF_DISCARDS : Fld := ⟨.TRG_LAST, 128, 32⟩
abbrev F.TRG_TRIG_COUNT.COUNT : Fld := ⟨.TRG_TRIG_COUNT, 0, 32⟩
abbrev F.TRG_COINC_COUNT.COUNT : Fld := ⟨.TRG_COINC_COUNT, 0, 32⟩
abbrev F.TRG_DISCARD_COUNT.COUNT : Fld := ⟨.TRG_DISCARD_COUNT, 0, 32⟩
abbrev F.TRG_FORCE_DROP_COUNT.COUNT : Fld := ⟨.TRG_FORCE_DROP_COUNT, 0, 32⟩
abbrev F.TRG_TRIG_SNAP.COUNT : Fld := ⟨.TRG_TRIG_SNAP, 0, 32⟩
abbrev F.ACQ_CTRL.DISC : Fld := ⟨.ACQ_CTRL, 0, 1⟩
abbrev F.ACQ_CTRL.WRAP : Fld := ⟨.ACQ_CTRL, 1, 1⟩
abbrev F.ACQ_CTRL.SPILL : Fld := ⟨.ACQ_CTRL, 2, 1⟩
abbrev F.ACQ_CTRL.SEG_EVT_EN : Fld := ⟨.ACQ_CTRL, 3, 1⟩
abbrev F.ACQ_CMD.ARM : Fld := ⟨.ACQ_CMD, 0, 1⟩
abbrev F.ACQ_CMD.STOP : Fld := ⟨.ACQ_CMD, 1, 1⟩
abbrev F.ACQ_STATUS.STATE : Fld := ⟨.ACQ_STATUS, 0, 3⟩
abbrev F.ACQ_STATUS.CFG_REJECT : Fld := ⟨.ACQ_STATUS, 3, 1⟩
abbrev F.ACQ_STATUS.CMD_REJECT : Fld := ⟨.ACQ_STATUS, 4, 1⟩
abbrev F.ACQ_STATUS.ARM_CHECK : Fld := ⟨.ACQ_STATUS, 16, 16⟩
abbrev F.ACQ_SEG_LEN.LEN : Fld := ⟨.ACQ_SEG_LEN, 0, 40⟩
abbrev F.ACQ_NSEG.NSEG : Fld := ⟨.ACQ_NSEG, 0, 23⟩
abbrev F.ACQ_PRE.PRE : Fld := ⟨.ACQ_PRE, 0, 40⟩
abbrev F.ACQ_POST.POST : Fld := ⟨.ACQ_POST, 0, 48⟩
abbrev F.ACQ_SPILL_BUF.MIB : Fld := ⟨.ACQ_SPILL_BUF, 0, 14⟩
abbrev F.ACQ_SEG_COUNT.COUNT : Fld := ⟨.ACQ_SEG_COUNT, 0, 64⟩
abbrev F.ACQ_SKIP_COUNT.COUNT : Fld := ⟨.ACQ_SKIP_COUNT, 0, 32⟩
abbrev F.ACQ_OPEN_SLOT.SLOT : Fld := ⟨.ACQ_OPEN_SLOT, 0, 22⟩
abbrev F.MEM_STATUS.W : Fld := ⟨.MEM_STATUS, 0, 5⟩
abbrev F.MEM_STATUS.SPARE_FREE : Fld := ⟨.MEM_STATUS, 5, 1⟩
abbrev F.MEM_STATUS.REMAP_ACTIVE : Fld := ⟨.MEM_STATUS, 6, 1⟩
abbrev F.MEM_STATUS.DEPTH_REDUCED : Fld := ⟨.MEM_STATUS, 7, 1⟩
abbrev F.MEM_STATUS.TRAINED : Fld := ⟨.MEM_STATUS, 8, 1⟩
abbrev F.MEM_DEPTH.MIB : Fld := ⟨.MEM_DEPTH, 0, 16⟩
abbrev F.MEM_UE_COUNT.COUNT : Fld := ⟨.MEM_UE_COUNT, 0, 32⟩
abbrev F.MEM_UE_ADDR.OFFSET : Fld := ⟨.MEM_UE_ADDR, 0, 40⟩
abbrev F.MEM_SCRUB_STATUS.PROGRESS : Fld := ⟨.MEM_SCRUB_STATUS, 0, 8⟩
abbrev F.MEM_SCRUB_STATUS.PASSES : Fld := ⟨.MEM_SCRUB_STATUS, 8, 24⟩
abbrev F.MEM_SCRUB_CE.COUNT : Fld := ⟨.MEM_SCRUB_CE, 0, 32⟩
abbrev F.MEM_PC_MAP.PHYS : Fld := ⟨.MEM_PC_MAP, 0, 5⟩
abbrev F.MEM_PC_STAT.STATE : Fld := ⟨.MEM_PC_STAT, 0, 2⟩
abbrev F.MEM_PC_CE.COUNT : Fld := ⟨.MEM_PC_CE, 0, 32⟩
abbrev F.MEM_WIN.STACK : Fld := ⟨.MEM_WIN, 0, 1⟩
abbrev F.MEM_WIN.BASE : Fld := ⟨.MEM_WIN, 16, 14⟩
abbrev F.STR_CTRL.CHUNK_LOG2 : Fld := ⟨.STR_CTRL, 0, 5⟩
abbrev F.STR_CTRL.RESUME_PCT : Fld := ⟨.STR_CTRL, 5, 7⟩
abbrev F.STR_CTRL.FLUSH_US : Fld := ⟨.STR_CTRL, 12, 20⟩
abbrev F.STR_DATA_RING.QUEUE : Fld := ⟨.STR_DATA_RING, 0, 13⟩
abbrev F.STR_AUX_RINGS.MARK_Q : Fld := ⟨.STR_AUX_RINGS, 0, 13⟩
abbrev F.STR_AUX_RINGS.GAP_Q : Fld := ⟨.STR_AUX_RINGS, 16, 13⟩
abbrev F.STR_STATUS.BACKPRESSURE : Fld := ⟨.STR_STATUS, 0, 1⟩
abbrev F.STR_STATUS.CFG_REJECT : Fld := ⟨.STR_STATUS, 1, 1⟩
abbrev F.STR_STATUS.GAP_LOG_WRAP : Fld := ⟨.STR_STATUS, 2, 1⟩
abbrev F.STR_STATUS.MARK_LOST : Fld := ⟨.STR_STATUS, 3, 1⟩
abbrev F.STR_STATUS.MARKS_HELD : Fld := ⟨.STR_STATUS, 4, 11⟩
abbrev F.STR_INDEX.INDEX : Fld := ⟨.STR_INDEX, 0, 64⟩
abbrev F.STR_FILL.MIB : Fld := ⟨.STR_FILL, 0, 16⟩
abbrev F.STR_MARK_SEQ.SEQ : Fld := ⟨.STR_MARK_SEQ, 0, 32⟩
abbrev F.STR_GAP_SEQ.SEQ : Fld := ⟨.STR_GAP_SEQ, 0, 32⟩
abbrev F.STR_MARK_LOST_COUNT.COUNT : Fld := ⟨.STR_MARK_LOST_COUNT, 0, 32⟩
abbrev F.ACC_CTRL.AVG_EN : Fld := ⟨.ACC_CTRL, 0, 1⟩
abbrev F.ACC_CTRL.HIST_EN : Fld := ⟨.ACC_CTRL, 1, 1⟩
abbrev F.ACC_CTRL.REPEAT : Fld := ⟨.ACC_CTRL, 2, 1⟩
abbrev F.ACC_CTRL.CLEAR_ON_START : Fld := ⟨.ACC_CTRL, 3, 1⟩
abbrev F.ACC_CTRL.FREEZE : Fld := ⟨.ACC_CTRL, 4, 1⟩
abbrev F.ACC_CMD.START : Fld := ⟨.ACC_CMD, 0, 1⟩
abbrev F.ACC_CMD.STOP : Fld := ⟨.ACC_CMD, 1, 1⟩
abbrev F.ACC_CMD.RELEASE : Fld := ⟨.ACC_CMD, 2, 1⟩
abbrev F.ACC_CMD.CLEAR_HIST : Fld := ⟨.ACC_CMD, 3, 1⟩
abbrev F.ACC_STATUS.STATE : Fld := ⟨.ACC_STATUS, 0, 2⟩
abbrev F.ACC_STATUS.FROZEN : Fld := ⟨.ACC_STATUS, 2, 1⟩
abbrev F.ACC_STATUS.CFG_REJECT : Fld := ⟨.ACC_STATUS, 3, 1⟩
abbrev F.ACC_STATUS.CMD_REJECT : Fld := ⟨.ACC_STATUS, 4, 1⟩
abbrev F.ACC_STATUS.HIST_SAT_STICKY : Fld := ⟨.ACC_STATUS, 5, 1⟩
abbrev F.ACC_STATUS.DECAY_DROP : Fld := ⟨.ACC_STATUS, 6, 1⟩
abbrev F.ACC_STATUS.START_CHECK : Fld := ⟨.ACC_STATUS, 16, 16⟩
abbrev F.ACC_AVG_COUNT.TARGET : Fld := ⟨.ACC_AVG_COUNT, 0, 17⟩
abbrev F.ACC_AVG_DONE.DONE : Fld := ⟨.ACC_AVG_DONE, 0, 17⟩
abbrev F.ACC_AVG_BATCH.COUNT : Fld := ⟨.ACC_AVG_BATCH, 0, 32⟩
abbrev F.ACC_AVG_START.START : Fld := ⟨.ACC_AVG_START, 0, 41⟩
abbrev F.ACC_AVG_LEN.LEN : Fld := ⟨.ACC_AVG_LEN, 0, 21⟩
abbrev F.ACC_HIST_X_ORIGIN.ORIGIN : Fld := ⟨.ACC_HIST_X_ORIGIN, 0, 52⟩
abbrev F.ACC_HIST_X_STEP.STEP : Fld := ⟨.ACC_HIST_X_STEP, 0, 40⟩
abbrev F.ACC_HIST_Y.Y_BASE : Fld := ⟨.ACC_HIST_Y, 0, 16⟩
abbrev F.ACC_HIST_Y.Y_STEP : Fld := ⟨.ACC_HIST_Y, 16, 7⟩
abbrev F.ACC_DECAY.DECAY_N : Fld := ⟨.ACC_DECAY, 0, 16⟩
abbrev F.ACC_DECAY.DECAY_SHIFT : Fld := ⟨.ACC_DECAY, 16, 4⟩
abbrev F.ACC_DECAY.DECAY_SRC : Fld := ⟨.ACC_DECAY, 20, 1⟩
abbrev F.ACC_FRAME_PERIOD.US : Fld := ⟨.ACC_FRAME_PERIOD, 0, 20⟩
abbrev F.ACC_EXCL.MASK : Fld := ⟨.ACC_EXCL, 0, 16⟩
abbrev F.ACC_RATE_CAP.MIN_CYCLES : Fld := ⟨.ACC_RATE_CAP, 0, 24⟩
abbrev F.ACC_AVG_INCOMPLETE.COUNT : Fld := ⟨.ACC_AVG_INCOMPLETE, 0, 32⟩
abbrev F.ACC_HIST_ACQ.COUNT : Fld := ⟨.ACC_HIST_ACQ, 0, 64⟩
abbrev F.ACC_SKIP.COUNT : Fld := ⟨.ACC_SKIP, 0, 32⟩
abbrev F.SCN_CTRL.ENABLE : Fld := ⟨.SCN_CTRL, 0, 1⟩
abbrev F.SCN_CTRL.FRAME_EVT_EN : Fld := ⟨.SCN_CTRL, 1, 1⟩
abbrev F.SCN_CTRL.LAYER_ORDER : Fld := ⟨.SCN_CTRL, 2, 8⟩
abbrev F.SCN_STATUS.RUNNING : Fld := ⟨.SCN_STATUS, 0, 1⟩
abbrev F.SCN_STATUS.BLACK : Fld := ⟨.SCN_STATUS, 1, 1⟩
abbrev F.SCN_STATUS.RETRAIN_SLOW : Fld := ⟨.SCN_STATUS, 2, 1⟩
abbrev F.SCN_STATUS.HPD : Fld := ⟨.SCN_STATUS, 3, 1⟩
abbrev F.SCN_STATUS.LINK : Fld := ⟨.SCN_STATUS, 4, 2⟩
abbrev F.SCN_STATUS.RATE_ACT : Fld := ⟨.SCN_STATUS, 6, 1⟩
abbrev F.SCN_STATUS.LANES_ACT : Fld := ⟨.SCN_STATUS, 7, 3⟩
abbrev F.SCN_STATUS.APPLY_PENDING : Fld := ⟨.SCN_STATUS, 10, 1⟩
abbrev F.SCN_STATUS.CFG_REJECT : Fld := ⟨.SCN_STATUS, 11, 1⟩
abbrev F.SCN_STATUS.WIN_REJECT : Fld := ⟨.SCN_STATUS, 12, 1⟩
abbrev F.SCN_STATUS.FLIP_REJECT : Fld := ⟨.SCN_STATUS, 13, 1⟩
abbrev F.SCN_STATUS.UNDERRUN_STICKY : Fld := ⟨.SCN_STATUS, 14, 1⟩
abbrev F.SCN_FRAME.FRAME : Fld := ⟨.SCN_FRAME, 0, 32⟩
abbrev F.SCN_BG.RGB : Fld := ⟨.SCN_BG, 0, 30⟩
abbrev F.SCN_LINK_CFG.RATE : Fld := ⟨.SCN_LINK_CFG, 0, 1⟩
abbrev F.SCN_LINK_CFG.LANES : Fld := ⟨.SCN_LINK_CFG, 1, 3⟩
abbrev F.SCN_LINK_CFG.FALLBACK_EN : Fld := ⟨.SCN_LINK_CFG, 4, 1⟩
abbrev F.SCN_UNDERRUN_COUNT.COUNT : Fld := ⟨.SCN_UNDERRUN_COUNT, 0, 32⟩
abbrev F.SCN_TIM_H.HACTIVE : Fld := ⟨.SCN_TIM_H, 0, 12⟩
abbrev F.SCN_TIM_H.HTOTAL : Fld := ⟨.SCN_TIM_H, 16, 13⟩
abbrev F.SCN_TIM_HS.HFP : Fld := ⟨.SCN_TIM_HS, 0, 12⟩
abbrev F.SCN_TIM_HS.HSW : Fld := ⟨.SCN_TIM_HS, 12, 12⟩
abbrev F.SCN_TIM_HS.HPOL : Fld := ⟨.SCN_TIM_HS, 31, 1⟩
abbrev F.SCN_TIM_V.VACTIVE : Fld := ⟨.SCN_TIM_V, 0, 12⟩
abbrev F.SCN_TIM_V.VTOTAL : Fld := ⟨.SCN_TIM_V, 16, 13⟩
abbrev F.SCN_TIM_VS.VFP : Fld := ⟨.SCN_TIM_VS, 0, 12⟩
abbrev F.SCN_TIM_VS.VSW : Fld := ⟨.SCN_TIM_VS, 12, 12⟩
abbrev F.SCN_TIM_VS.VPOL : Fld := ⟨.SCN_TIM_VS, 31, 1⟩
abbrev F.SCN_TIM_PCLK.KHZ : Fld := ⟨.SCN_TIM_PCLK, 0, 20⟩
abbrev F.SCN_TIM_CTRL.APPLY : Fld := ⟨.SCN_TIM_CTRL, 0, 1⟩
abbrev F.SCN_TIM_CTRL.RESULT : Fld := ⟨.SCN_TIM_CTRL, 16, 16⟩
abbrev F.SCN_CUR_POS.X : Fld := ⟨.SCN_CUR_POS, 0, 14⟩
abbrev F.SCN_CUR_POS.Y : Fld := ⟨.SCN_CUR_POS, 16, 14⟩
abbrev F.SCN_CUR_CTRL.EN : Fld := ⟨.SCN_CUR_CTRL, 0, 1⟩
abbrev F.SCN_CUR_CTRL.PAL : Fld := ⟨.SCN_CUR_CTRL, 1, 2⟩
abbrev F.SCN_WF_CFG.EN : Fld := ⟨.SCN_WF_CFG, 0, 1⟩
abbrev F.SCN_WF_CFG.PRIO : Fld := ⟨.SCN_WF_CFG, 1, 2⟩
abbrev F.SCN_WF_CFG.PAL : Fld := ⟨.SCN_WF_CFG, 3, 2⟩
abbrev F.SCN_WF_CFG.SHIFT : Fld := ⟨.SCN_WF_CFG, 5, 3⟩
abbrev F.SCN_WF_POS.X : Fld := ⟨.SCN_WF_POS, 0, 13⟩
abbrev F.SCN_WF_POS.Y : Fld := ⟨.SCN_WF_POS, 16, 12⟩
abbrev F.SCN_WF_SIZE.W : Fld := ⟨.SCN_WF_SIZE, 0, 13⟩
abbrev F.SCN_WF_SIZE.H : Fld := ⟨.SCN_WF_SIZE, 16, 12⟩
abbrev F.SCN_OVL_CTRL.EN : Fld := ⟨.SCN_OVL_CTRL, 0, 1⟩
abbrev F.SCN_OVL_CTRL.SRC : Fld := ⟨.SCN_OVL_CTRL, 1, 1⟩
abbrev F.SCN_OVL_CTRL.PAL : Fld := ⟨.SCN_OVL_CTRL, 2, 2⟩
abbrev F.SCN_OVL_CTRL.FAULT : Fld := ⟨.SCN_OVL_CTRL, 4, 1⟩
abbrev F.SCN_OVL_CTRL.PENDING : Fld := ⟨.SCN_OVL_CTRL, 5, 1⟩
abbrev F.SCN_OVL_ADDR.ADDR : Fld := ⟨.SCN_OVL_ADDR, 0, 64⟩
abbrev F.SCN_OVL_STRIDE.STRIDE : Fld := ⟨.SCN_OVL_STRIDE, 0, 16⟩
abbrev F.SCN_OVL_FLIP.TAG : Fld := ⟨.SCN_OVL_FLIP, 0, 16⟩
abbrev F.SCN_OVL_FLIP.FLIP : Fld := ⟨.SCN_OVL_FLIP, 16, 1⟩
abbrev F.SCN_OVL_STAT.SHOWN_TAG : Fld := ⟨.SCN_OVL_STAT, 0, 16⟩
abbrev F.SCN_OVL_STAT.PENDING_TAG : Fld := ⟨.SCN_OVL_STAT, 16, 16⟩
abbrev F.SCN_FAULT_FRAME.FRAME : Fld := ⟨.SCN_FAULT_FRAME, 0, 32⟩
abbrev F.FRW_CTRL.EN : Fld := ⟨.FRW_CTRL, 0, 1⟩
abbrev F.FRW_CTRL.N : Fld := ⟨.FRW_CTRL, 1, 8⟩
abbrev F.FRW_STATUS.FROST : Fld := ⟨.FRW_STATUS, 0, 1⟩
abbrev F.FRW_STATUS.RUN : Fld := ⟨.FRW_STATUS, 1, 8⟩
abbrev F.FRW_STATUS.SUSPENDED : Fld := ⟨.FRW_STATUS, 9, 1⟩
abbrev F.FRW_CRC.CRC : Fld := ⟨.FRW_CRC, 0, 32⟩
abbrev F.LGC_CH_CFG.MODE : Fld := ⟨.LGC_CH_CFG, 0, 1⟩
abbrev F.LGC_CH_CFG.THRESH : Fld := ⟨.LGC_CH_CFG, 1, 11⟩
abbrev F.LGC_CH_CFG.HYST : Fld := ⟨.LGC_CH_CFG, 12, 7⟩
abbrev F.LGC_CH_CFG.HOLDOFF : Fld := ⟨.LGC_CH_CFG, 19, 6⟩
abbrev F.LGC_SUPPRESS_COUNT.COUNT : Fld := ⟨.LGC_SUPPRESS_COUNT, 0, 32⟩
abbrev F.LGC_CTRL.REC_MASK : Fld := ⟨.LGC_CTRL, 0, 16⟩
abbrev F.LGC_STATE.STATE : Fld := ⟨.LGC_STATE, 0, 16⟩
abbrev F.LGC_STATE.UNRESOLVED : Fld := ⟨.LGC_STATE, 16, 16⟩
abbrev F.LGC_STATUS.RUNNING : Fld := ⟨.LGC_STATUS, 0, 1⟩
abbrev F.LGC_STATUS.CFG_REJECT : Fld := ⟨.LGC_STATUS, 1, 1⟩
abbrev F.TIM_CTRL.EN : Fld := ⟨.TIM_CTRL, 0, 1⟩
abbrev F.TIM_CTRL.MODE : Fld := ⟨.TIM_CTRL, 1, 2⟩
abbrev F.TIM_CTRL.SIGNED : Fld := ⟨.TIM_CTRL, 3, 1⟩
abbrev F.TIM_CTRL.RES_EVT_EN : Fld := ⟨.TIM_CTRL, 4, 1⟩
abbrev F.TIM_START_SRC.SRC : Fld := ⟨.TIM_START_SRC, 0, 8⟩
abbrev F.TIM_START_SRC.EDGE : Fld := ⟨.TIM_START_SRC, 8, 2⟩
abbrev F.TIM_START_SRC.HOLDOFF : Fld := ⟨.TIM_START_SRC, 16, 16⟩
abbrev F.TIM_STOP_SRC.SRC : Fld := ⟨.TIM_STOP_SRC, 0, 8⟩
abbrev F.TIM_STOP_SRC.EDGE : Fld := ⟨.TIM_STOP_SRC, 8, 2⟩
abbrev F.TIM_STOP_SRC.HOLDOFF : Fld := ⟨.TIM_STOP_SRC, 16, 16⟩
abbrev F.TIM_GATE.US : Fld := ⟨.TIM_GATE, 0, 27⟩
abbrev F.TIM_N.N : Fld := ⟨.TIM_N, 0, 16⟩
abbrev F.TIM_CUE.TICKS : Fld := ⟨.TIM_CUE, 0, 64⟩
abbrev F.TIM_CUE.FRAC : Fld := ⟨.TIM_CUE, 64, 12⟩
abbrev F.TIM_CUE.ARM : Fld := ⟨.TIM_CUE, 80, 1⟩
abbrev F.TIM_CUE.LATE : Fld := ⟨.TIM_CUE, 81, 1⟩
abbrev F.TIM_STATUS.OPEN : Fld := ⟨.TIM_STATUS, 0, 1⟩
abbrev F.TIM_STATUS.CFG_REJECT : Fld := ⟨.TIM_STATUS, 1, 1⟩
abbrev F.TIM_STATUS.FIFO_OVF : Fld := ⟨.TIM_STATUS, 2, 1⟩
abbrev F.TIM_STATUS.FIFO_LEVEL : Fld := ⟨.TIM_STATUS, 3, 6⟩
abbrev F.TIM_STATUS.EN_CHECK : Fld := ⟨.TIM_STATUS, 16, 16⟩
abbrev F.TIM_IGN_STOP.COUNT : Fld := ⟨.TIM_IGN_STOP, 0, 32⟩
abbrev F.TIM_IGN_START.COUNT : Fld := ⟨.TIM_IGN_START, 0, 32⟩
abbrev F.TIM_SUPPRESS.COUNT : Fld := ⟨.TIM_SUPPRESS, 0, 32⟩
abbrev F.TIM_TOTAL.COUNT : Fld := ⟨.TIM_TOTAL, 0, 64⟩
abbrev F.TIM_SNAP.COUNT : Fld := ⟨.TIM_SNAP, 0, 64⟩
abbrev F.TIM_RES.WORD : Fld := ⟨.TIM_RES, 0, 32⟩
abbrev F.CMP_CTRL.EN : Fld := ⟨.CMP_CTRL, 0, 1⟩
abbrev F.CMP_CTRL.MODE : Fld := ⟨.CMP_CTRL, 1, 2⟩
abbrev F.CMP_CTRL.VIGIL_MODE : Fld := ⟨.CMP_CTRL, 3, 2⟩
abbrev F.CMP_CTRL.POL : Fld := ⟨.CMP_CTRL, 5, 1⟩
abbrev F.CMP_CTRL.EVT_EN : Fld := ⟨.CMP_CTRL, 6, 1⟩
abbrev F.CMP_CTRL.WAKE_EN : Fld := ⟨.CMP_CTRL, 7, 1⟩
abbrev F.CMP_CTRL.BLANK_SRC : Fld := ⟨.CMP_CTRL, 8, 2⟩
abbrev F.CMP_CTRL.SEL : Fld := ⟨.CMP_CTRL, 10, 4⟩
abbrev F.CMP_THRESH.THRESH : Fld := ⟨.CMP_THRESH, 0, 12⟩
abbrev F.CMP_THRESH.HYST : Fld := ⟨.CMP_THRESH, 12, 6⟩
abbrev F.CMP_BLANK.LEN : Fld := ⟨.CMP_BLANK, 0, 16⟩
abbrev F.CMP_STATUS.OUT : Fld := ⟨.CMP_STATUS, 0, 1⟩
abbrev F.CMP_STATUS.ASSERTED : Fld := ⟨.CMP_STATUS, 1, 1⟩
abbrev F.CMP_STATUS.UNRESOLVED : Fld := ⟨.CMP_STATUS, 2, 1⟩
abbrev F.CMP_STATUS.MODE_ACT : Fld := ⟨.CMP_STATUS, 3, 2⟩
abbrev F.CMP_STATUS.SETTLING : Fld := ⟨.CMP_STATUS, 5, 1⟩
abbrev F.CMP_STATUS.BLANKING : Fld := ⟨.CMP_STATUS, 6, 1⟩
abbrev F.CMP_STATUS.DERATED : Fld := ⟨.CMP_STATUS, 7, 1⟩
abbrev F.CMP_STATUS.ASSERT_STICKY : Fld := ⟨.CMP_STATUS, 8, 1⟩
abbrev F.CMP_STATUS.CFG_REJECT : Fld := ⟨.CMP_STATUS, 9, 1⟩
abbrev F.CMP_COUNT.COUNT : Fld := ⟨.CMP_COUNT, 0, 32⟩
abbrev F.CMP_BLANK_COUNT.COUNT : Fld := ⟨.CMP_BLANK_COUNT, 0, 32⟩
abbrev F.CMP_SNAP.COUNT : Fld := ⟨.CMP_SNAP, 0, 32⟩
abbrev F.CMP_BLANK_TMR.PERIOD : Fld := ⟨.CMP_BLANK_TMR, 0, 16⟩
abbrev F.CMP_BLANK_TMR.OFFSET : Fld := ⟨.CMP_BLANK_TMR, 16, 16⟩
abbrev F.CMP_WIN.EVT_EN : Fld := ⟨.CMP_WIN, 0, 1⟩
abbrev F.CMP_WIN.STATE : Fld := ⟨.CMP_WIN, 2, 2⟩
abbrev F.CMP_WIN.CHANGED : Fld := ⟨.CMP_WIN, 4, 1⟩
abbrev F.CMP_SPARE_MAP.S0_UNIT : Fld := ⟨.CMP_SPARE_MAP, 0, 4⟩
abbrev F.CMP_SPARE_MAP.S0_STATE : Fld := ⟨.CMP_SPARE_MAP, 4, 2⟩
abbrev F.CMP_SPARE_MAP.S1_UNIT : Fld := ⟨.CMP_SPARE_MAP, 8, 4⟩
abbrev F.CMP_SPARE_MAP.S1_STATE : Fld := ⟨.CMP_SPARE_MAP, 12, 2⟩
abbrev F.QUE_BASE.BASE : Fld := ⟨.QUE_BASE, 0, 64⟩
abbrev F.QUE_CFG.KIND : Fld := ⟨.QUE_CFG, 0, 4⟩
abbrev F.QUE_CFG.ENABLE : Fld := ⟨.QUE_CFG, 4, 1⟩
abbrev F.QUE_CFG.LOG2_SIZE : Fld := ⟨.QUE_CFG, 5, 5⟩
abbrev F.QUE_CFG.CQ : Fld := ⟨.QUE_CFG, 13, 13⟩
abbrev F.QUE_STATUS.STATE : Fld := ⟨.QUE_STATUS, 0, 2⟩
abbrev F.QUE_STATUS.PHASE : Fld := ⟨.QUE_STATUS, 2, 1⟩
abbrev F.QUE_STATUS.IRQ_STATE : Fld := ⟨.QUE_STATUS, 3, 2⟩
abbrev F.QUE_STATUS.CFG_REJECT : Fld := ⟨.QUE_STATUS, 5, 1⟩
abbrev F.QUE_STATUS.OVERFLOW : Fld := ⟨.QUE_STATUS, 6, 1⟩
abbrev F.QUE_STATUS.DB_REJECT : Fld := ⟨.QUE_STATUS, 7, 1⟩
abbrev F.QUE_STATUS.EN_CHECK : Fld := ⟨.QUE_STATUS, 16, 16⟩
abbrev F.QUE_PTR.HEAD : Fld := ⟨.QUE_PTR, 0, 16⟩
abbrev F.QUE_PTR.TAIL : Fld := ⟨.QUE_PTR, 16, 16⟩
abbrev F.QUE_IRQ.VECTOR : Fld := ⟨.QUE_IRQ, 0, 10⟩
abbrev F.QUE_IRQ.TARGET : Fld := ⟨.QUE_IRQ, 10, 1⟩
abbrev F.QUE_IRQ.PRIO : Fld := ⟨.QUE_IRQ, 11, 4⟩
abbrev F.QUE_IRQ.COAL_COUNT : Fld := ⟨.QUE_IRQ, 16, 12⟩
abbrev F.QUE_COAL.COAL_TIME : Fld := ⟨.QUE_COAL, 0, 16⟩
abbrev F.QUE_LOST.COUNT : Fld := ⟨.QUE_LOST, 0, 32⟩
abbrev F.QUE_WB.ADDR : Fld := ⟨.QUE_WB, 0, 64⟩
abbrev F.QUE_AUX.ADDR : Fld := ⟨.QUE_AUX, 0, 64⟩
abbrev F.DBL.INDEX : Fld := ⟨.DBL, 0, 16⟩
abbrev F.EVC_PEND.PEND : Fld := ⟨.EVC_PEND, 0, 32⟩
abbrev F.EVC_MASK.MASK : Fld := ⟨.EVC_MASK, 0, 32⟩
abbrev F.EVC_RAISE.PAYLOAD : Fld := ⟨.EVC_RAISE, 0, 32⟩
abbrev F.EVC_STATUS.ROUTE_REJECT : Fld := ⟨.EVC_STATUS, 0, 1⟩
abbrev F.EVC_DST_WAKE.WAKE : Fld := ⟨.EVC_DST_WAKE, 0, 16⟩
abbrev F.EVC_ROUTE.QUEUE : Fld := ⟨.EVC_ROUTE, 0, 13⟩
abbrev F.EVC_ROUTE.EN : Fld := ⟨.EVC_ROUTE, 13, 1⟩
abbrev F.EVC_ROUTE.FW_QUEUE : Fld := ⟨.EVC_ROUTE, 16, 13⟩
abbrev F.EVC_ROUTE.FW_EN : Fld := ⟨.EVC_ROUTE, 29, 1⟩
abbrev F.EVC_ROUTE.LEVEL : Fld := ⟨.EVC_ROUTE, 30, 1⟩
abbrev F.MBX_URG_CMD.WORD : Fld := ⟨.MBX_URG_CMD, 0, 32⟩
abbrev F.MBX_URG_RSP.WORD : Fld := ⟨.MBX_URG_RSP, 0, 32⟩
abbrev F.MBX_URG_CTRL.GO : Fld := ⟨.MBX_URG_CTRL, 0, 1⟩
abbrev F.MBX_URG_STATUS.BUSY : Fld := ⟨.MBX_URG_STATUS, 0, 1⟩
abbrev F.MBX_URG_STATUS.DONE : Fld := ⟨.MBX_URG_STATUS, 1, 1⟩
abbrev F.MBX_URG_STATUS.REJECT : Fld := ⟨.MBX_URG_STATUS, 2, 1⟩
abbrev F.MBX_STATUS.IN_PROGRESS : Fld := ⟨.MBX_STATUS, 0, 7⟩
abbrev F.MBX_STATUS.OUTSTANDING : Fld := ⟨.MBX_STATUS, 7, 10⟩
abbrev F.MBX_VLOG_NEXT.NEXT : Fld := ⟨.MBX_VLOG_NEXT, 0, 8⟩
abbrev F.MBX_VLOG_TOTAL.COUNT : Fld := ⟨.MBX_VLOG_TOTAL, 0, 32⟩
abbrev F.MBX_RING_STAT.RECENT : Fld := ⟨.MBX_RING_STAT, 0, 7⟩
abbrev F.MBX_RING_STAT.TOTAL : Fld := ⟨.MBX_RING_STAT, 8, 24⟩
abbrev F.MBX_VLOG.WORD : Fld := ⟨.MBX_VLOG, 0, 32⟩
abbrev F.PWR_MODE.MODE : Fld := ⟨.PWR_MODE, 0, 3⟩
abbrev F.PWR_MODE.TRANSITION : Fld := ⟨.PWR_MODE, 3, 1⟩
abbrev F.PWR_MODE.TARGET : Fld := ⟨.PWR_MODE, 4, 3⟩
abbrev F.PWR_DOMAIN.ON : Fld := ⟨.PWR_DOMAIN, 0, 32⟩
abbrev F.PWR_WAKE_CTRL.TIMER_EN : Fld := ⟨.PWR_WAKE_CTRL, 0, 1⟩
abbrev F.PWR_WAKE_CTRL.WAKE_PIN_EN : Fld := ⟨.PWR_WAKE_CTRL, 1, 1⟩
abbrev F.PWR_WAKE_DT.TICKS : Fld := ⟨.PWR_WAKE_DT, 0, 64⟩
abbrev F.PWR_WAKE_CAUSE.CAUSE : Fld := ⟨.PWR_WAKE_CAUSE, 0, 4⟩
abbrev F.PWR_WAKE_CAUSE.UNIT : Fld := ⟨.PWR_WAKE_CAUSE, 4, 4⟩
abbrev F.PWR_WAKE_CAUSE.DIE : Fld := ⟨.PWR_WAKE_CAUSE, 8, 1⟩
abbrev F.PWR_WAKE_CAUSE.AUX_LOSS : Fld := ⟨.PWR_WAKE_CAUSE, 9, 1⟩
abbrev F.PWR_STATUS.THERMAL : Fld := ⟨.PWR_STATUS, 0, 1⟩
abbrev F.PWR_STATUS.THERMAL_SEEN : Fld := ⟨.PWR_STATUS, 1, 1⟩
abbrev F.PWR_RAIL.MW : Fld := ⟨.PWR_RAIL, 0, 24⟩
abbrev F.PWR_TEMP.TEMP : Fld := ⟨.PWR_TEMP, 0, 16⟩
abbrev F.HVS_ALLOW.POLICY : Fld := ⟨.HVS_ALLOW, 0, 2⟩
abbrev F.HVS_CAP.MW : Fld := ⟨.HVS_CAP, 0, 32⟩
abbrev F.HVS_BUDGET.MJ : Fld := ⟨.HVS_BUDGET, 0, 32⟩
abbrev F.HVS_LEDGER.VALUE : Fld := ⟨.HVS_LEDGER, 0, 32⟩
abbrev F.HVS_SHARE.VALUE : Fld := ⟨.HVS_SHARE, 0, 32⟩
abbrev F.HVS_STATUS.LEVEL : Fld := ⟨.HVS_STATUS, 0, 4⟩
abbrev F.HVS_STATUS.OVER : Fld := ⟨.HVS_STATUS, 4, 1⟩
abbrev F.HVS_STATUS.HOST_DEFERRED : Fld := ⟨.HVS_STATUS, 5, 9⟩
abbrev F.HVS_STATUS.MAINT_DEFERRED : Fld := ⟨.HVS_STATUS, 14, 5⟩
abbrev F.HVS_REFUSE_COUNT.COUNT : Fld := ⟨.HVS_REFUSE_COUNT, 0, 32⟩
abbrev F.HVS_DEFER_COUNT.COUNT : Fld := ⟨.HVS_DEFER_COUNT, 0, 32⟩
abbrev F.BOB_CTRL.AUTO_EN : Fld := ⟨.BOB_CTRL, 0, 1⟩
abbrev F.BOB_THRESH.TMO_LIMIT : Fld := ⟨.BOB_THRESH, 0, 4⟩
abbrev F.BOB_THRESH.BIAS_PCT : Fld := ⟨.BOB_THRESH, 4, 6⟩
abbrev F.BOB_THRESH.CE_LIMIT : Fld := ⟨.BOB_THRESH, 16, 16⟩
abbrev F.BOB_STATUS.SLICE_C0 : Fld := ⟨.BOB_STATUS, 0, 4⟩
abbrev F.BOB_STATUS.SLICE_C1 : Fld := ⟨.BOB_STATUS, 4, 4⟩
abbrev F.BOB_STATUS.PC_H0 : Fld := ⟨.BOB_STATUS, 8, 1⟩
abbrev F.BOB_STATUS.PC_H1 : Fld := ⟨.BOB_STATUS, 9, 1⟩
abbrev F.BOB_STATUS.CMP : Fld := ⟨.BOB_STATUS, 10, 2⟩
abbrev F.BOB_STATUS.SRAM : Fld := ⟨.BOB_STATUS, 12, 4⟩
abbrev F.BOB_RETIRED.C0 : Fld := ⟨.BOB_RETIRED, 0, 1⟩
abbrev F.BOB_RETIRED.C1 : Fld := ⟨.BOB_RETIRED, 1, 1⟩
abbrev F.BOB_RETIRED.H0 : Fld := ⟨.BOB_RETIRED, 2, 1⟩
abbrev F.BOB_RETIRED.H1 : Fld := ⟨.BOB_RETIRED, 3, 1⟩
abbrev F.BOB_RETIRED.LOGIC : Fld := ⟨.BOB_RETIRED, 4, 1⟩
abbrev F.BOB_RETIRED.POOL : Fld := ⟨.BOB_RETIRED, 5, 1⟩
abbrev F.BOB_RETIRED.XDIE : Fld := ⟨.BOB_RETIRED, 6, 1⟩
abbrev F.BOB_RETIRED.OTHER_DIE : Fld := ⟨.BOB_RETIRED, 7, 1⟩
abbrev F.BOB_RETIRED.CONTROL : Fld := ⟨.BOB_RETIRED, 8, 1⟩
abbrev F.BOB_ACTIVE.UNIT : Fld := ⟨.BOB_ACTIVE, 0, 15⟩
abbrev F.BOB_ACTIVE.PHASE : Fld := ⟨.BOB_ACTIVE, 15, 3⟩
abbrev F.BOB_ACTIVE.LOST : Fld := ⟨.BOB_ACTIVE, 18, 1⟩
abbrev F.BOB_ACTIVE.TRAIN_RUN : Fld := ⟨.BOB_ACTIVE, 24, 8⟩
abbrev F.BOB_SPL_LANES.TX_WORKING : Fld := ⟨.BOB_SPL_LANES, 0, 5⟩
abbrev F.BOB_SPL_LANES.RX_WORKING : Fld := ⟨.BOB_SPL_LANES, 5, 5⟩
abbrev F.BOB_SPL_LANES.TX_SPARE : Fld := ⟨.BOB_SPL_LANES, 10, 3⟩
abbrev F.BOB_SPL_LANES.RX_SPARE : Fld := ⟨.BOB_SPL_LANES, 13, 3⟩
abbrev F.BOB_SPL_MARGIN.MARGIN : Fld := ⟨.BOB_SPL_MARGIN, 0, 8⟩
abbrev F.BOB_SPL_MARGIN.STATE : Fld := ⟨.BOB_SPL_MARGIN, 8, 2⟩
abbrev F.BOB_SRAM.STATE : Fld := ⟨.BOB_SRAM, 0, 2⟩
abbrev F.BOB_SRAM.BANK : Fld := ⟨.BOB_SRAM, 2, 5⟩
abbrev F.BOB_SRAM.CE_DAY : Fld := ⟨.BOB_SRAM, 16, 16⟩
abbrev F.MNT_RUNNING.ACT : Fld := ⟨.MNT_RUNNING, 0, 7⟩
abbrev F.MNT_WAITING.ACT : Fld := ⟨.MNT_WAITING, 0, 7⟩
abbrev F.MNT_GROUP.OWNER : Fld := ⟨.MNT_GROUP, 0, 3⟩
abbrev F.MNT_GROUP.WAITERS : Fld := ⟨.MNT_GROUP, 8, 4⟩
abbrev F.SKN_CTRL.ROLE : Fld := ⟨.SKN_CTRL, 0, 2⟩
abbrev F.SKN_CTRL.PORT_EN : Fld := ⟨.SKN_CTRL, 2, 5⟩
abbrev F.SKN_CTRL.GTRIG_EVT_EN : Fld := ⟨.SKN_CTRL, 7, 1⟩
abbrev F.SKN_TRIG_SEL.DIE0 : Fld := ⟨.SKN_TRIG_SEL, 0, 3⟩
abbrev F.SKN_TRIG_SEL.DIE1 : Fld := ⟨.SKN_TRIG_SEL, 3, 3⟩
abbrev F.SKN_GSEQ_CTRL.LAST : Fld := ⟨.SKN_GSEQ_CTRL, 0, 4⟩
abbrev F.SKN_GSEQ_CTRL.RUN : Fld := ⟨.SKN_GSEQ_CTRL, 4, 1⟩
abbrev F.SKN_GSEQ_HOLDOFF.TICKS : Fld := ⟨.SKN_GSEQ_HOLDOFF, 0, 32⟩
abbrev F.SKN_STATUS.ROLE_ACT : Fld := ⟨.SKN_STATUS, 0, 2⟩
abbrev F.SKN_STATUS.ALIGNED : Fld := ⟨.SKN_STATUS, 2, 1⟩
abbrev F.SKN_STATUS.JOIN_STEP_PENDING : Fld := ⟨.SKN_STATUS, 3, 1⟩
abbrev F.SKN_STATUS.DEPTH : Fld := ⟨.SKN_STATUS, 4, 2⟩
abbrev F.SKN_STATUS.CFG_REJECT : Fld := ⟨.SKN_STATUS, 6, 1⟩
abbrev F.SKN_STATUS.WORKERS : Fld := ⟨.SKN_STATUS, 7, 7⟩
abbrev F.SKN_STATUS.PATH : Fld := ⟨.SKN_STATUS, 14, 9⟩
abbrev F.SKN_PORT_STATUS.STATE : Fld := ⟨.SKN_PORT_STATUS, 0, 3⟩
abbrev F.SKN_PORT_STATUS.LATE_ARRIVAL : Fld := ⟨.SKN_PORT_STATUS, 3, 1⟩
abbrev F.SKN_PORT_STATUS.NAK_SEEN : Fld := ⟨.SKN_PORT_STATUS, 4, 1⟩
abbrev F.SKN_PORT_STATUS.SUMMARY_MISS : Fld := ⟨.SKN_PORT_STATUS, 5, 1⟩
abbrev F.SKN_PORT_STATUS.BCAST_MISS : Fld := ⟨.SKN_PORT_STATUS, 6, 1⟩
abbrev F.SKN_PORT_STATUS.SUBTREE : Fld := ⟨.SKN_PORT_STATUS, 7, 7⟩
abbrev F.SKN_GSEQ_STATUS.STATE : Fld := ⟨.SKN_GSEQ_STATUS, 0, 4⟩
abbrev F.SKN_GSEQ_STATUS.COINC_STICKY : Fld := ⟨.SKN_GSEQ_STATUS, 4, 1⟩
abbrev F.SKN_GSEQ_STATUS.MISSING_STICKY : Fld := ⟨.SKN_GSEQ_STATUS, 5, 1⟩
abbrev F.SKN_GSEQ_STATUS.ARM_CHECK : Fld := ⟨.SKN_GSEQ_STATUS, 16, 16⟩
abbrev F.SKN_LOST.PATH : Fld := ⟨.SKN_LOST, 0, 9⟩
abbrev F.SKN_LOST.CAUSE : Fld := ⟨.SKN_LOST, 9, 3⟩
abbrev F.SKN_LOST.VALID : Fld := ⟨.SKN_LOST, 12, 1⟩
abbrev F.SKN_GTERM.GTERM : Fld := ⟨.SKN_GTERM, 0, 4⟩
abbrev F.SKN_GTERM.EN : Fld := ⟨.SKN_GTERM, 4, 1⟩
abbrev F.SKN_PORT_LAT.TICKS : Fld := ⟨.SKN_PORT_LAT, 0, 64⟩
abbrev F.SKN_PORT_LAT.FRAC : Fld := ⟨.SKN_PORT_LAT, 64, 12⟩
abbrev F.SKN_PORT_VIOL.RECENT : Fld := ⟨.SKN_PORT_VIOL, 0, 7⟩
abbrev F.SKN_PORT_VIOL.TOTAL : Fld := ⟨.SKN_PORT_VIOL, 8, 24⟩
abbrev F.SKN_SYNC_RX.TICKS : Fld := ⟨.SKN_SYNC_RX, 0, 64⟩
abbrev F.SKN_SYNC_RX.FRAC : Fld := ⟨.SKN_SYNC_RX, 64, 12⟩
abbrev F.SVC_STATUS.LOCKED : Fld := ⟨.SVC_STATUS, 0, 1⟩
abbrev F.SVC_STATUS.LOCKOUT : Fld := ⟨.SVC_STATUS, 1, 1⟩
abbrev F.SVC_STATUS.TEST_RUN : Fld := ⟨.SVC_STATUS, 2, 1⟩
abbrev F.SVC_STATUS.TEST_NUM : Fld := ⟨.SVC_STATUS, 3, 8⟩
abbrev F.SVC_STATUS.BAUD : Fld := ⟨.SVC_STATUS, 11, 3⟩
abbrev F.SVC_ATB.POINT : Fld := ⟨.SVC_ATB, 0, 8⟩
abbrev F.SVC_ATB.INDEX : Fld := ⟨.SVC_ATB, 8, 8⟩
abbrev F.SVC_ATB.REJECT : Fld := ⟨.SVC_ATB, 16, 1⟩
abbrev F.SVC_RESULT.RESULT : Fld := ⟨.SVC_RESULT, 0, 3⟩
abbrev F.SVC_RESULT.LOCUS : Fld := ⟨.SVC_RESULT, 3, 2⟩
abbrev F.SVC_RESULT.UNIT : Fld := ⟨.SVC_RESULT, 5, 15⟩
abbrev F.BOOT_STATUS.IMAGE : Fld := ⟨.BOOT_STATUS, 0, 1⟩
abbrev F.BOOT_STATUS.FALLBACK : Fld := ⟨.BOOT_STATUS, 1, 1⟩
abbrev F.BOOT_STATUS.A_STATE : Fld := ⟨.BOOT_STATUS, 2, 2⟩
abbrev F.BOOT_STATUS.B_STATE : Fld := ⟨.BOOT_STATUS, 4, 2⟩
abbrev F.BOOT_STATUS.NEXT : Fld := ⟨.BOOT_STATUS, 6, 1⟩
abbrev F.BOOT_STATUS.DIR_DEFAULT : Fld := ⟨.BOOT_STATUS, 7, 1⟩
abbrev F.BOOT_STATUS.SFDP_OK : Fld := ⟨.BOOT_STATUS, 8, 1⟩
abbrev F.BOOT_STATUS.BOOT_DIE : Fld := ⟨.BOOT_STATUS, 9, 1⟩
abbrev F.BOOT_RESET_CAUSE.CAUSE : Fld := ⟨.BOOT_RESET_CAUSE, 0, 6⟩
abbrev F.BOOT_RESET_CAUSE.COLD : Fld := ⟨.BOOT_RESET_CAUSE, 6, 1⟩
abbrev F.BOOT_CTRL.KEY : Fld := ⟨.BOOT_CTRL, 0, 16⟩
abbrev F.BOOT_CTRL.WARM : Fld := ⟨.BOOT_CTRL, 16, 1⟩
abbrev F.BOOT_TIME.MS : Fld := ⟨.BOOT_TIME, 0, 16⟩
abbrev F.BOOT_EP_CAUSE.PERST : Fld := ⟨.BOOT_EP_CAUSE, 0, 1⟩
abbrev F.BOOT_EP_CAUSE.HOT_RESET : Fld := ⟨.BOOT_EP_CAUSE, 1, 1⟩
abbrev F.BOOT_EP_CAUSE.FLR : Fld := ⟨.BOOT_EP_CAUSE, 2, 1⟩
abbrev F.BOOT_IMG_VER.VERSION : Fld := ⟨.BOOT_IMG_VER, 0, 32⟩
abbrev F.TOP_ID.STEPPING : Fld := ⟨.TOP_ID, 0, 8⟩
abbrev F.TOP_ID.DIE : Fld := ⟨.TOP_ID, 8, 1⟩
abbrev F.TOP_ID.CONTROL : Fld := ⟨.TOP_ID, 9, 1⟩
abbrev F.TOP_ID.PART : Fld := ⟨.TOP_ID, 16, 16⟩
abbrev F.CUE.DT_TICKS : Fld := ⟨.CUE, 0, 64⟩
abbrev F.CUE.DT_FRAC : Fld := ⟨.CUE, 64, 12⟩
abbrev F.CUE.ACTION : Fld := ⟨.CUE, 80, 8⟩
abbrev F.CUE.STATE : Fld := ⟨.CUE, 88, 8⟩
abbrev F.CUE.TARGET : Fld := ⟨.CUE, 96, 16⟩
abbrev F.CUE.LATE : Fld := ⟨.CUE, 112, 1⟩
abbrev F.CUE.STEPPED : Fld := ⟨.CUE, 113, 1⟩
abbrev F.CUE.NOTIFY : Fld := ⟨.CUE, 120, 1⟩
abbrev F.CUE.PARAM : Fld := ⟨.CUE, 128, 32⟩
abbrev F.CUE.STATUS : Fld := ⟨.CUE, 160, 32⟩
abbrev F.CUE.EXEC_TICK : Fld := ⟨.CUE, 192, 64⟩
abbrev F.SEQ_STATE.ADV_MASK : Fld := ⟨.SEQ_STATE, 0, 12⟩
abbrev F.SEQ_STATE.RST_MASK : Fld := ⟨.SEQ_STATE, 16, 12⟩
abbrev F.SEQ_STATE.NEXT : Fld := ⟨.SEQ_STATE, 32, 4⟩
abbrev F.SEQ_STATE.RST_TO : Fld := ⟨.SEQ_STATE, 40, 4⟩
abbrev F.SEQ_STATE.QUAL : Fld := ⟨.SEQ_STATE, 48, 2⟩
abbrev F.SEQ_STATE.ENTRY : Fld := ⟨.SEQ_STATE, 56, 2⟩
abbrev F.SEQ_STATE.QUAL_VALUE : Fld := ⟨.SEQ_STATE, 64, 41⟩
abbrev F.SEQ_STATE.CUE_IDX : Fld := ⟨.SEQ_STATE, 128, 8⟩
abbrev F.SEQ_STATE.TAG : Fld := ⟨.SEQ_STATE, 144, 16⟩
abbrev F.SEQ_STATE.CUE_DELAY : Fld := ⟨.SEQ_STATE, 160, 41⟩
abbrev F.GSEQ_STATE.ADV_MASK : Fld := ⟨.GSEQ_STATE, 0, 16⟩
abbrev F.GSEQ_STATE.RST_MASK : Fld := ⟨.GSEQ_STATE, 16, 16⟩
abbrev F.GSEQ_STATE.NEXT : Fld := ⟨.GSEQ_STATE, 32, 4⟩
abbrev F.GSEQ_STATE.RST_TO : Fld := ⟨.GSEQ_STATE, 40, 4⟩
abbrev F.GSEQ_STATE.QUAL : Fld := ⟨.GSEQ_STATE, 48, 2⟩
abbrev F.GSEQ_STATE.ENTRY : Fld := ⟨.GSEQ_STATE, 56, 2⟩
abbrev F.GSEQ_STATE.QUAL_VALUE : Fld := ⟨.GSEQ_STATE, 64, 41⟩
abbrev F.TRG_CURVE.FRAC : Fld := ⟨.TRG_CURVE, 0, 10⟩
abbrev F.SCN_CURVE.INDEX : Fld := ⟨.SCN_CURVE, 0, 8⟩
abbrev F.SCN_PALETTE.RGB : Fld := ⟨.SCN_PALETTE, 0, 30⟩
abbrev F.SCN_CURSOR.WORD : Fld := ⟨.SCN_CURSOR, 0, 32⟩
abbrev F.COST.FACTORY : Fld := ⟨.COST, 0, 32⟩
abbrev F.COST.VALUE : Fld := ⟨.COST, 32, 32⟩
abbrev F.COST.UPDATES : Fld := ⟨.COST, 64, 32⟩
abbrev F.COST.UNIT : Fld := ⟨.COST, 96, 8⟩
abbrev F.MSIX.ADDR : Fld := ⟨.MSIX, 2, 62⟩
abbrev F.MSIX.DATA : Fld := ⟨.MSIX, 64, 32⟩
abbrev F.MSIX.MASKED : Fld := ⟨.MSIX, 96, 1⟩
abbrev F.MSIX_PBA.PEND : Fld := ⟨.MSIX_PBA, 0, 32⟩
abbrev F.HIST.ROW_EVEN : Fld := ⟨.HIST, 0, 16⟩
abbrev F.HIST.ROW_ODD : Fld := ⟨.HIST, 16, 16⟩
abbrev F.ACCUM.SUM : Fld := ⟨.ACCUM, 0, 32⟩
/-- raises of a source since reset, modulo 4,096 (R322); indices d s. -/
abbrev I.raiseCount : Fld := ⟨.i_raiseCount, 0, 12⟩
/-- PAYLOAD of the latest raise of a source (R325); indices d s. -/
abbrev I.lastPayload : Fld := ⟨.i_lastPayload, 0, 32⟩
/-- the host route of a level source holds an unconsumed record (R325); indices d s. -/
abbrev I.levelHeld : Fld := ⟨.i_levelHeld, 0, 1⟩
/-- the firmware route of a level source holds an unconsumed record (R325); indices d s. -/
abbrev I.levelHeldFw : Fld := ⟨.i_levelHeldFw, 0, 1⟩
/-- the next record of the queue carries OVERFLOW_BEFORE (R327); indices d q. -/
abbrev I.ovfBefore : Fld := ⟨.i_ovfBefore, 0, 1⟩
/-- countable records counted in COALESCING (R329); indices d q. -/
abbrev I.coalCount : Fld := ⟨.i_coalCount, 0, 16⟩
/-- DT deadline of the coalescing time (R329); indices d q. -/
abbrev I.coalDeadline : Fld := ⟨.i_coalDeadline, 0, 64⟩
/-- the coalescing deadline runs (R329); indices d q. -/
abbrev I.coalTimed : Fld := ⟨.i_coalTimed, 0, 1⟩
/-- function mask of the MSI-X capability (R331); indices d. -/
abbrev I.msixFuncMask : Fld := ⟨.i_msixFuncMask, 0, 1⟩
/-- priority the Distaff core runs, plus 1; 0 for the interrupted code (R336); indices k. -/
abbrev I.coreLevel : Fld := ⟨.i_coreLevel, 0, 5⟩
/-- the Distaff core sleeps (R333); indices k. -/
abbrev I.coreAsleep : Fld := ⟨.i_coreAsleep, 0, 1⟩
/-- Harvest derating suspends Carding of the channel (R380); indices d c. -/
abbrev I.cardSuspended : Fld := ⟨.i_cardSuspended, 0, 1⟩
/-- the PCIe link of the die is in L0 (R347); indices d. -/
abbrev I.linkL0 : Fld := ⟨.i_linkL0, 0, 1⟩
/-- block in whose core cycle the settling span ends (R146); indices d c. -/
abbrev I.settleBlk : Fld := ⟨.i_settleBlk, 0, 96⟩
/-- the settling span is counted (R146); indices d c. -/
abbrev I.settleTimed : Fld := ⟨.i_settleTimed, 0, 1⟩
/-- a fade waits for its first output (R137); indices d c. -/
abbrev I.fadeWait : Fld := ⟨.i_fadeWait, 0, 1⟩
/-- target bank of the fade that waits or runs (R139); indices d c. -/
abbrev I.fadeTo : Fld := ⟨.i_fadeTo, 0, 1⟩
/-- the fade was started from pending (R148); indices d c. -/
abbrev I.fadeFromPending : Fld := ⟨.i_fadeFromPending, 0, 1⟩
/-- L of the running fade (R138); indices d c. -/
abbrev I.fadeLen : Fld := ⟨.i_fadeLen, 0, 16⟩
/-- first stage 7 output of the fade that waits or runs (R137); indices d c. -/
abbrev I.fadeAt : Fld := ⟨.i_fadeAt, 0, 96⟩
/-- 1 past the core-cycle time at which a fade started or ended (R136); indices d c. -/
abbrev I.fadeTouch : Fld := ⟨.i_fadeTouch, 0, 128⟩
/-- first sample under the equaliser settings in force (R129); indices d c. -/
abbrev I.eqFrom : Fld := ⟨.i_eqFrom, 0, 128⟩
/-- settings before them: bank in bit 0, bypass in bit 1 (R129); indices d c. -/
abbrev I.eqPrev : Fld := ⟨.i_eqPrev, 0, 2⟩
/-- 1 past the core-cycle time of the latest stop recognised while the set was IDLE (R193); indices d a. -/
abbrev I.stopAsked : Fld := ⟨.i_stopAsked, 0, 128⟩
/-- its stop DT (R193); indices d a. -/
abbrev I.stopAt : Fld := ⟨.i_stopAt, 0, 76⟩
/-- records written to a gap log (0 of C0 or the PAIRED input, 1 of C1 or, in PAIRED, of the logic channels) (R216); indices d l. -/
abbrev I.gapLogIdx : Fld := ⟨.i_gapLogIdx, 0, 64⟩
/-- core-cycle time at which a remap hold began (R190); indices d h. -/
abbrev I.remapHold : Fld := ⟨.i_remapHold, 0, 128⟩
/-- instant until which the state of a logic channel cannot change (R268); indices d i. -/
abbrev I.lgcHold : Fld := ⟨.i_lgcHold, 0, 76⟩
/-- present comparator outputs of the logic channels (R268); indices d. -/
abbrev I.lgcComp : Fld := ⟨.i_lgcComp, 0, 16⟩
/-- REC_MASK in force (R272); indices d. -/
abbrev I.lgcMask : Fld := ⟨.i_lgcMask, 0, 16⟩
/-- WIDTH: instant of the last crossing; RUNT and SLEW: first crossing of a positive runt or rising slew (R154); indices d t. -/
abbrev I.termA : Fld := ⟨.i_termA, 0, 76⟩
/-- termA holds a crossing (R154); indices d t. -/
abbrev I.termAOn : Fld := ⟨.i_termAOn, 0, 1⟩
/-- WIDTH: that crossing was rising (R154); indices d t. -/
abbrev I.termARise : Fld := ⟨.i_termARise, 0, 1⟩
/-- RUNT and SLEW: first crossing of a negative runt or falling slew (R154); indices d t. -/
abbrev I.termB : Fld := ⟨.i_termB, 0, 76⟩
/-- termB holds a crossing (R154); indices d t. -/
abbrev I.termBOn : Fld := ⟨.i_termBOn, 0, 1⟩
/-- TIMEOUT: instant from which T1 is counted (R154); indices d t. -/
abbrev I.toutOrg : Fld := ⟨.i_toutOrg, 0, 76⟩
/-- TIMEOUT: the count runs (R154); indices d t. -/
abbrev I.toutOn : Fld := ⟨.i_toutOn, 0, 1⟩
/-- PATTERN: a sample has been evaluated since the start (R482); indices d t. -/
abbrev I.patKnown : Fld := ⟨.i_patKnown, 0, 1⟩
/-- PATTERN: the pattern is true (R154); indices d t. -/
abbrev I.patTrue : Fld := ⟨.i_patTrue, 0, 1⟩
/-- PATTERN: instant of entry (R154); indices d t. -/
abbrev I.patStart : Fld := ⟨.i_patStart, 0, 76⟩
/-- entry DT of the present state (R163); indices d q. -/
abbrev I.seqEntry : Fld := ⟨.i_seqEntry, 0, 76⟩
/-- COUNT qualifier: fires counted since the entry (R163); indices d q. -/
abbrev I.seqCount : Fld := ⟨.i_seqCount, 0, 32⟩
/-- instant before which no fire reaches the sequencer (R169); indices d q. -/
abbrev I.seqFrom : Fld := ⟨.i_seqFrom, 0, 76⟩
/-- auto origin tick (R169); indices d q. -/
abbrev I.autoOrigin : Fld := ⟨.i_autoOrigin, 0, 64⟩
/-- first block after the dead time (R170); indices d q. -/
abbrev I.deadBlk : Fld := ⟨.i_deadBlk, 0, 96⟩
/-- block handled when the present state was entered (R168); indices d q. -/
abbrev I.seqEntryBlk : Fld := ⟨.i_seqEntryBlk, 0, 96⟩
/-- three-state value of a global channel that the patterns of the die see (R153); indices d g. -/
abbrev I.patView : Fld := ⟨.i_patView, 0, 2⟩
/-- logic states that the patterns of the die see (R159); indices d. -/
abbrev I.patState : Fld := ⟨.i_patState, 0, 16⟩
/-- logic channels unresolved that the patterns of the die see (R159); indices d. -/
abbrev I.patUnres : Fld := ⟨.i_patUnres, 0, 16⟩
/-- first sample of the term since its restart (R482); indices d t. -/
abbrev I.termFrom : Fld := ⟨.i_termFrom, 0, 76⟩
/-- tick of the hold-off deadline (R171); indices d q. -/
abbrev I.holdEnd : Fld := ⟨.i_holdEnd, 0, 64⟩
/-- the hold-off deadline is set (R171); indices d q. -/
abbrev I.holdTimed : Fld := ⟨.i_holdTimed, 0, 1⟩
/-- candidates still to discard in EVENTS mode (R171); indices d q. -/
abbrev I.holdLeft : Fld := ⟨.i_holdLeft, 0, 33⟩
/-- candidates discarded since the last issued trigger (R171); indices d q. -/
abbrev I.discards : Fld := ⟨.i_discards, 0, 32⟩
/-- run flag LATE_ARRIVAL (R173); indices d q. -/
abbrev I.runLate : Fld := ⟨.i_runLate, 0, 1⟩
/-- run flag COINCIDENT (R173); indices d q. -/
abbrev I.runCoin : Fld := ⟨.i_runCoin, 0, 1⟩
/-- COIN_TAKEN of the run (R165); indices d q. -/
abbrev I.runTaken : Fld := ⟨.i_runTaken, 0, 5⟩
/-- COIN_OTHER of the run (R165); indices d q. -/
abbrev I.runOther : Fld := ⟨.i_runOther, 0, 5⟩
/-- triggers issued since the sequencer left IDLE (R68); indices d q. -/
abbrev I.trigTotal : Fld := ⟨.i_trigTotal, 0, 32⟩
/-- frames since the last decay boundary (R233); indices d c. -/
abbrev I.accFrames : Fld := ⟨.i_accFrames, 0, 16⟩
/-- STATE in bits 1:0 and FREEZE in bit 2, before the changes of the latest core cycle that changed them (R222); indices d c. -/
abbrev I.accWas : Fld := ⟨.i_accWas, 0, 3⟩
/-- 1 past the time of that core cycle (R222); indices d c. -/
abbrev I.accWasAt : Fld := ⟨.i_accWasAt, 0, 128⟩
/-- DT tick of the last boundary of internal frames (R233); indices d c. -/
abbrev I.accDecayAt : Fld := ⟨.i_accDecayAt, 0, 64⟩
/-- loop_correction, signed, in pull DAC steps (R44); indices none. -/
abbrev I.loopCorr : Fld := ⟨.i_loopCorr, 0, 25⟩
/-- oven-on time, s (R44); indices none. -/
abbrev I.ovenOn : Fld := ⟨.i_ovenOn, 0, 64⟩
/-- oven-on time at which the latest daily store write was requested, s (R44); indices none. -/
abbrev I.ovenSaved : Fld := ⟨.i_ovenSaved, 0, 64⟩
/-- refit points kept, 0 to 15 (R115); indices none. -/
abbrev I.refitCount : Fld := ⟨.i_refitCount, 0, 4⟩
/-- core-cycle time at which the measurement gate of a refit began (R45); indices none. -/
abbrev I.refitAt : Fld := ⟨.i_refitAt, 0, 128⟩
/-- GAIN tap of a slice for ATTEN setting t (R92); indices d c i t. -/
abbrev I.gainTap : Fld := ⟨.i_gainTap, 0, 6⟩
/-- sufficient data that a SEEKING loop has used, microseconds (R100); indices d c i l. -/
abbrev I.loopUs : Fld := ⟨.i_loopUs, 0, 27⟩
/-- CARD_TIMEOUTs of a slice, saturating (R389); indices d c i. -/
abbrev I.sliceTmo : Fld := ⟨.i_sliceTmo, 0, 32⟩
/-- bias baseline of a slice, 0.1 µA (R390); indices d c i. -/
abbrev I.biasBase : Fld := ⟨.i_biasBase, 0, 16⟩
/-- the interval that closed was sufficient (1) or not (2) and its update is to come, or its update runs (3) (R103); indices d c. -/
abbrev I.cardSuff : Fld := ⟨.i_cardSuff, 0, 2⟩
/-- core-cycle time of the first cycle of the interval under way (R103); indices d c. -/
abbrev I.cardAt : Fld := ⟨.i_cardAt, 0, 128⟩
/-- INTERVAL of the interval under way, microseconds (R103); indices d c. -/
abbrev I.cardInt : Fld := ⟨.i_cardInt, 0, 17⟩
/-- DT tick at which the channel starves (R102); indices d c. -/
abbrev I.starveAt : Fld := ⟨.i_starveAt, 0, 64⟩
/-- ticks left of the 10 s while the timer holds (R102); indices d c. -/
abbrev I.starveLeft : Fld := ⟨.i_starveLeft, 0, 64⟩
/-- power domains that a service test keeps on (R367); indices d. -/
abbrev I.testDom : Fld := ⟨.i_testDom, 0, 48⟩
/-- core-cycle time of cycle 0 of the Combing run (R109); indices d c. -/
abbrev I.combAt : Fld := ⟨.i_combAt, 0, 128⟩
/-- 1 past the core-cycle time at which the ladder of a service test opened (R85); indices d c. -/
abbrev I.calOpen : Fld := ⟨.i_calOpen, 0, 128⟩
/-- 1 past the core-cycle time at which the latest test ended (R439); indices none. -/
abbrev I.testDone : Fld := ⟨.i_testDone, 0, 128⟩
/-- 1 past the core-cycle time of the latest console selection (R442); indices d. -/
abbrev I.atbBy : Fld := ⟨.i_atbBy, 0, 128⟩
/-- core-cycle time at which CAL_SW opened (R109); indices d c. -/
abbrev I.combOpen : Fld := ⟨.i_combOpen, 0, 128⟩
/-- the run has ended and its last calibration block is to come (R112); indices d c. -/
abbrev I.combEnding : Fld := ⟨.i_combEnding, 0, 1⟩
/-- result of the run that ends (R112); indices d c. -/
abbrev I.combCode : Fld := ⟨.i_combCode, 0, 16⟩
/-- the run requests a store write after success (R113); indices d c. -/
abbrev I.combStore : Fld := ⟨.i_combStore, 0, 1⟩
/-- slot of the active image: 0 A, 1 B, 2 OTP (R116); indices none. -/
abbrev I.storeSlot : Fld := ⟨.i_storeSlot, 0, 2⟩
/-- a store write has committed since reset (R117); indices none. -/
abbrev I.storeCommitted : Fld := ⟨.i_storeCommitted, 0, 1⟩
/-- core-cycle time of the last commit (R117); indices none. -/
abbrev I.storeCommitAt : Fld := ⟨.i_storeCommitAt, 0, 128⟩
/-- a waiting store request has been admitted (R117); indices none. -/
abbrev I.storeAdmitted : Fld := ⟨.i_storeAdmitted, 0, 1⟩
/-- core-cycle time at which the retirement of a unit was decided (R401); indices u. -/
abbrev I.retireAt : Fld := ⟨.i_retireAt, 0, 128⟩
/-- number plus 1 of the swap block that is fixed (R395); indices d. -/
abbrev I.swapBlk : Fld := ⟨.i_swapBlk, 0, 128⟩
/-- first stored sample plus 1 of the segment whose opening boundary was fixed last (R395); indices d a. -/
abbrev I.swapSeg : Fld := ⟨.i_swapSeg, 0, 128⟩
/-- that segment is to carry RETHREADED as it opens (R395); indices d a. -/
abbrev I.swapDone : Fld := ⟨.i_swapDone, 0, 1⟩
/-- oven-on time at which an EDGE bit was set (R389); indices d c i n. -/
abbrev I.edgeSince : Fld := ⟨.i_edgeSince, 0, 64⟩
/-- oven-on times of the latest 16 timeouts of a slice (R389); indices d c i k. -/
abbrev I.tmoAt : Fld := ⟨.i_tmoAt, 0, 64⟩
/-- the spare that shadows is trained by Carding (R394); indices d. -/
abbrev I.rtTraining : Fld := ⟨.i_rtTraining, 0, 1⟩
/-- phase origin: instant of a reference edge (R47); indices none. -/
abbrev I.phaseOrg : Fld := ⟨.i_phaseOrg, 0, 76⟩
/-- DT of the latest reference edge measured (R47); indices none. -/
abbrev I.refEdge : Fld := ⟨.i_refEdge, 0, 76⟩
/-- the measured phase error is within 20 ps (R48); indices none. -/
abbrev I.inOn : Fld := ⟨.i_inOn, 0, 1⟩
/-- core-cycle time since which it is (R48); indices none. -/
abbrev I.inSince : Fld := ⟨.i_inSince, 0, 128⟩
/-- core-cycle time of the latest pull DAC update (R44); indices none. -/
abbrev I.pullAt : Fld := ⟨.i_pullAt, 0, 128⟩
/-- core-cycle time at which OVEN_READY was first set (R43); indices none. -/
abbrev I.ovenFirst : Fld := ⟨.i_ovenFirst, 0, 128⟩
/-- fraction of DT left by DT steps (R51); indices none. -/
abbrev I.dtFrac : Fld := ⟨.i_dtFrac, 0, 12⟩
/-- refit point k: measured offset in bits 95 to 64, oven-on time below (R115); indices k. -/
abbrev I.refitPt : Fld := ⟨.i_refitPt, 0, 96⟩
/-- sample clock of the die at the present DT: samples times 2^32 times 4,096 (R62); indices d. -/
abbrev I.synClk : Fld := ⟨.i_synClk, 0, 144⟩
/-- sample clock at which the present ramp segment began (R60); indices d. -/
abbrev I.rampStart : Fld := ⟨.i_rampStart, 0, 144⟩
/-- core-cycle time at which the cue was armed, or moved by a step (R67); indices d n. -/
abbrev I.cueSince : Fld := ⟨.i_cueSince, 0, 128⟩
/-- coef_a, signed, 0.001 ppb (R44); indices none. -/
abbrev I.coefA : Fld := ⟨.i_coefA, 0, 32⟩
/-- coef_b, signed, 10^-6 ppb per day (R44); indices none. -/
abbrev I.coefB : Fld := ⟨.i_coefB, 0, 32⟩
/-- coef_tau, 0.01 day (R44); indices none. -/
abbrev I.coefTau : Fld := ⟨.i_coefTau, 0, 32⟩
/-- factory_trim, signed, pull DAC steps (R44); indices none. -/
abbrev I.factoryTrim : Fld := ⟨.i_factoryTrim, 0, 32⟩
/-- offset from which the present ramp segment began (R60); indices d. -/
abbrev I.rampFrom : Fld := ⟨.i_rampFrom, 0, 24⟩
/-- offset at RAMP_START (R63); indices d. -/
abbrev I.rampBase : Fld := ⟨.i_rampBase, 0, 24⟩
/-- core-cycle time at which AUX lost lock (R65); indices d. -/
abbrev I.auxLoss : Fld := ⟨.i_auxLoss, 0, 128⟩
/-- successive SYN lock attempts that failed (R402); indices d. -/
abbrev I.synFails : Fld := ⟨.i_synFails, 0, 2⟩
/-- core-cycle time at which attenuator settling began (R76); indices d c. -/
abbrev I.settleAt : Fld := ⟨.i_settleAt, 0, 128⟩
/-- core-cycle time at which the overload episode began (R81); indices d c. -/
abbrev I.ovldStart : Fld := ⟨.i_ovldStart, 0, 128⟩
/-- core-cycle time since which both overload comparators are clear (R81); indices d c. -/
abbrev I.ovldClear : Fld := ⟨.i_ovldClear, 0, 128⟩
/-- overload comparators that tripped in the episode: bit 0 high, 1 low (R82); indices d c. -/
abbrev I.ovldSeen : Fld := ⟨.i_ovldSeen, 0, 2⟩
/-- core-cycle time at which the present step of the rethreading began (R394); indices d. -/
abbrev I.bobAt : Fld := ⟨.i_bobAt, 0, 128⟩
/-- codewords corrected in the present scrub pass (R189); indices d h. -/
abbrev I.scrubFixed : Fld := ⟨.i_scrubFixed, 0, 16⟩
/-- data offset that the scrub reads next (R189); indices d h. -/
abbrev I.scrubPos : Fld := ⟨.i_scrubPos, 0, 64⟩
/-- the accumulation engine is retired (R400); indices d c. -/
abbrev I.engRetired : Fld := ⟨.i_engRetired, 0, 1⟩
/-- the queue bank is retired (R400); indices d b. -/
abbrev I.bankRetired : Fld := ⟨.i_bankRetired, 0, 1⟩
/-- the comparator unit is retired (R400); indices d u. -/
abbrev I.cmpRetired : Fld := ⟨.i_cmpRetired, 0, 1⟩
/-- core-cycle time at which the copy of an SRAM bank began (R399); indices d. -/
abbrev I.sramCopyAt : Fld := ⟨.i_sramCopyAt, 0, 128⟩
/-- core-cycle time at which a Splice lane retrain or training began (R398); indices d. -/
abbrev I.laneAt : Fld := ⟨.i_laneAt, 0, 128⟩
/-- spare lane that trains in place of the lane, plus 1 (R398); indices d l. -/
abbrev I.laneSpare : Fld := ⟨.i_laneSpare, 0, 5⟩
/-- the source holds a raise (R459); indices d s. -/
abbrev I.heldOn : Fld := ⟨.i_heldOn, 0, 1⟩
/-- TICKS of the held raise (R459); indices d s. -/
abbrev I.heldTicks : Fld := ⟨.i_heldTicks, 0, 64⟩
/-- priority plus 1 of the code at nesting depth n, 0 for the interrupted code (R337); indices k n. -/
abbrev I.coreStack : Fld := ⟨.i_coreStack, 0, 5⟩
/-- contexts saved on the stack of the core (R337); indices k. -/
abbrev I.coreDepth : Fld := ⟨.i_coreDepth, 0, 8⟩
/-- core-cycle time at which the core accepted its latest request (R337); indices k. -/
abbrev I.coreAt : Fld := ⟨.i_coreAt, 0, 128⟩
/-- core-cycle time of the first instruction after the latest entry or exit (R338); indices k. -/
abbrev I.coreFetch : Fld := ⟨.i_coreFetch, 0, 128⟩
/-- core-cycle time of the latest handler return (R338); indices k. -/
abbrev I.coreOut : Fld := ⟨.i_coreOut, 0, 128⟩
/-- core-cycle time of the latest wake (R333); indices k. -/
abbrev I.coreWoke : Fld := ⟨.i_coreWoke, 0, 128⟩
/-- priority plus 1 of the request whose entry began last (R337); indices k. -/
abbrev I.coreReq : Fld := ⟨.i_coreReq, 0, 5⟩
/-- its queue (R337); indices k. -/
abbrev I.coreReqQ : Fld := ⟨.i_coreReqQ, 0, 13⟩
/-- power that the transition under way was charged, mW (R376); indices none. -/
abbrev I.modeMw : Fld := ⟨.i_modeMw, 0, 32⟩
/-- a wake from VIGIL is under way (R374); indices none. -/
abbrev I.wakeOn : Fld := ⟨.i_wakeOn, 0, 1⟩
/-- core-cycle time at which it began (R374); indices none. -/
abbrev I.wakeAt : Fld := ⟨.i_wakeAt, 0, 128⟩
/-- wake sources asserted while READY to VIGIL is under way, bits as PWR_WAKE_CAUSE (R374); indices none. -/
abbrev I.wakeHeld : Fld := ⟨.i_wakeHeld, 0, 10⟩
/-- comparator unit of a held wake (R374); indices none. -/
abbrev I.wakeUnit : Fld := ⟨.i_wakeUnit, 0, 4⟩
/-- die of that unit (R374); indices none. -/
abbrev I.wakeDie : Fld := ⟨.i_wakeDie, 0, 1⟩
/-- cause of the transition under way: 0 host, 1 wake, 2 service port (R387); indices none. -/
abbrev I.modeCause : Fld := ⟨.i_modeCause, 0, 2⟩
/-- WAKE# of the die is asserted (R374); indices d. -/
abbrev I.wakePin : Fld := ⟨.i_wakePin, 0, 1⟩
/-- the link of the die is in L1.2, or its endpoint in D3cold (R374); indices d. -/
abbrev I.linkDeep : Fld := ⟨.i_linkDeep, 0, 1⟩
/-- number of the latest Harvest period (R376); indices none. -/
abbrev I.periodNo : Fld := ⟨.i_periodNo, 0, 64⟩
/-- present output of the comparator itself (R290); indices d u. -/
abbrev I.cmpIn : Fld := ⟨.i_cmpIn, 0, 1⟩
/-- the unit is powered (R290); indices d u. -/
abbrev I.cmpPower : Fld := ⟨.i_cmpPower, 0, 1⟩
/-- the unit starts at its next observed level (R290); indices d u. -/
abbrev I.cmpStart : Fld := ⟨.i_cmpStart, 0, 1⟩
/-- DT tick at which settling ends (R293); indices d u. -/
abbrev I.cmpSettleDt : Fld := ⟨.i_cmpSettleDt, 0, 64⟩
/-- DT tick at which the blanking window closes (R297); indices d u. -/
abbrev I.cmpBlankDt : Fld := ⟨.i_cmpBlankDt, 0, 64⟩
/-- channels that start at the next logic sample (R266); indices d. -/
abbrev I.lgcStart : Fld := ⟨.i_lgcStart, 0, 16⟩
/-- tick from which REC_MASK acts (R272); indices d. -/
abbrev I.lgcMaskAt : Fld := ⟨.i_lgcMaskAt, 0, 64⟩
/-- HOLDOFF that acts before lgcOffAt (R268); indices d i. -/
abbrev I.lgcOff : Fld := ⟨.i_lgcOff, 0, 6⟩
/-- tick from which HOLDOFF acts (R268); indices d i. -/
abbrev I.lgcOffAt : Fld := ⟨.i_lgcOffAt, 0, 64⟩
/-- display timing in force, words SCN_TIM_H, HS, V, VS, PCLK for k = 0 to 4 (R244); indices k. -/
abbrev I.timAct : Fld := ⟨.i_timAct, 0, 32⟩
/-- display timing that waits for its VBLANK_START (R244); indices k. -/
abbrev I.timPend : Fld := ⟨.i_timPend, 0, 32⟩
/-- the generator has started and no frame has begun (R241); indices none. -/
abbrev I.scnFirst : Fld := ⟨.i_scnFirst, 0, 1⟩
/-- the link is retrained at the start of the next frame (R243); indices d. -/
abbrev I.scnRetrain : Fld := ⟨.i_scnRetrain, 0, 1⟩
/-- SCN_CTRL as latched at the last VBLANK_START (R246); indices none. -/
abbrev I.ctlAct : Fld := ⟨.i_ctlAct, 0, 32⟩
/-- SCN_BG as latched (R246); indices none. -/
abbrev I.bgAct : Fld := ⟨.i_bgAct, 0, 30⟩
/-- SCN_CUR_POS (0) and SCN_CUR_CTRL (1) as latched (R246); indices k. -/
abbrev I.curAct : Fld := ⟨.i_curAct, 0, 32⟩
/-- trace window in force: CFG, POS, SIZE for k = 0 to 2 (R248); indices g k. -/
abbrev I.wfAct : Fld := ⟨.i_wfAct, 0, 32⟩
/-- intensity curve as latched (R246); indices g i. -/
abbrev I.curveAct : Fld := ⟨.i_curveAct, 0, 8⟩
/-- palette as latched (R246); indices p e. -/
abbrev I.palAct : Fld := ⟨.i_palAct, 0, 30⟩
/-- cursor image as latched (R246); indices y w. -/
abbrev I.imageAct : Fld := ⟨.i_imageAct, 0, 32⟩
/-- EN of an overlay as latched (R246); indices d l. -/
abbrev I.ovlAct : Fld := ⟨.i_ovlAct, 0, 1⟩
/-- 1 past the core-cycle time of the latest delivery of the queue (R316); indices d q. -/
abbrev I.firedAt : Fld := ⟨.i_firedAt, 0, 128⟩
/-- 1 past the core-cycle time of the latest command taken (R345); indices d. -/
abbrev I.mbxTook : Fld := ⟨.i_mbxTook, 0, 128⟩
/-- the mailbox ring after the one served last (R345); indices d. -/
abbrev I.mbxTurn : Fld := ⟨.i_mbxTurn, 0, 8⟩
/-- count of row 2w of a histogram column as read before the frame shown, for the other output (R250); indices d c x w. -/
abbrev I.farEven : Fld := ⟨.i_farEven, 0, 16⟩
/-- count of row 2w + 1 (R250); indices d c x w. -/
abbrev I.farOdd : Fld := ⟨.i_farOdd, 0, 16⟩
/-- frames for which a timing change still suspends Frost watch (R259); indices d. -/
abbrev I.frwHold : Fld := ⟨.i_frwHold, 0, 2⟩
/-- ACC_HIST_ACQ of global channel g sampled at the last VBLANK_START (R258); indices d g. -/
abbrev I.frwHist : Fld := ⟨.i_frwHist, 0, 64⟩
/-- the measurement that follows the join of port 0 is to come (R414); indices none. -/
abbrev I.refAwait : Fld := ⟨.i_refAwait, 0, 1⟩
/-- a join step has applied since the last SKN_ALIGN (R416); indices none. -/
abbrev I.joinDone : Fld := ⟨.i_joinDone, 0, 1⟩
/-- received characters are echoed (R428); indices none. -/
abbrev I.svcEcho : Fld := ⟨.i_svcEcho, 0, 1⟩
/-- a challenge awaits its answer (R434); indices none. -/
abbrev I.svcChalOn : Fld := ⟨.i_svcChalOn, 0, 1⟩
/-- core-cycle time of the challenge (R434); indices none. -/
abbrev I.svcChalAt : Fld := ⟨.i_svcChalAt, 0, 128⟩
/-- the challenge (R434); indices none. -/
abbrev I.svcChal : Fld := ⟨.i_svcChal, 0, 32⟩
/-- wrong answers held in svcWrongAt (R434); indices none. -/
abbrev I.svcWrongN : Fld := ⟨.i_svcWrongN, 0, 2⟩
/-- core-cycle time of a wrong answer, oldest first (R434); indices k. -/
abbrev I.svcWrongAt : Fld := ⟨.i_svcWrongAt, 0, 128⟩
/-- core-cycle time at which the lockout began (R434); indices none. -/
abbrev I.svcLockAt : Fld := ⟨.i_svcLockAt, 0, 128⟩
/-- a new rate awaits its first complete line (R431); indices none. -/
abbrev I.svcBaudWait : Fld := ⟨.i_svcBaudWait, 0, 1⟩
/-- core-cycle time of the stop bit after which the rate changed (R431); indices none. -/
abbrev I.svcBaudAt : Fld := ⟨.i_svcBaudAt, 0, 128⟩
/-- the running test: 0 runs, 1 awaits its admission, 2 awaits a meter reading, 3 awaits its resource groups (R436); indices none. -/
abbrev I.svcTestWait : Fld := ⟨.i_svcTestWait, 0, 2⟩
/-- core-cycle time at which the test began (R437); indices none. -/
abbrev I.svcTestAt : Fld := ⟨.i_svcTestAt, 0, 128⟩
/-- core-cycle time of its MEASURE prompt (R440); indices none. -/
abbrev I.svcMeterAt : Fld := ⟨.i_svcMeterAt, 0, 128⟩
/-- POINT and INDEX before the running test: POINT + 256 INDEX (R438); indices d. -/
abbrev I.svcAtbSave : Fld := ⟨.i_svcAtbSave, 0, 16⟩
/-- SERVICE is entered with FORCE (R444); indices none. -/
abbrev I.svcForced : Fld := ⟨.i_svcForced, 0, 1⟩
/-- instruction loaded in the TAP: 0 BYPASS, 1 IDCODE, 2 SAMPLE, 3 EXTEST, 4 any other (R473); indices d. -/
abbrev I.tapIr : Fld := ⟨.i_tapIr, 0, 3⟩
/-- step of the boot: 0 reset held, 1 self-checks, 2 first image, 3 its signature, 4 second image, 5 its signature, 6 firmware, 7 HBM training, 8 last step, 9 booted, 10 no valid image (R456); indices none. -/
abbrev I.bootStep : Fld := ⟨.i_bootStep, 0, 4⟩
/-- core-cycle time of the release of reset (R456); indices none. -/
abbrev I.bootAt : Fld := ⟨.i_bootAt, 0, 128⟩
/-- self-check report of a die: 0 none, 1 passed, 2 failed (R455); indices d. -/
abbrev I.bootSelf : Fld := ⟨.i_bootSelf, 0, 2⟩
/-- image being tried (R454); indices none. -/
abbrev I.bootImg : Fld := ⟨.i_bootImg, 0, 1⟩
/-- the store or the self-check passed the control role to die 1 during this boot (R455); indices none. -/
abbrev I.bootFault : Fld := ⟨.i_bootFault, 0, 1⟩
/-- the thermal reset is held (R384); indices none. -/
abbrev I.thermHold : Fld := ⟨.i_thermHold, 0, 1⟩
/-- density that the flash reports (R452); indices none. -/
abbrev I.flashMbit : Fld := ⟨.i_flashMbit, 0, 32⟩
/-- SFDP revision that the flash reports (R452); indices none. -/
abbrev I.sfdpRev : Fld := ⟨.i_sfdpRev, 0, 16⟩
/-- an FW_STAGE or an FW_VERIFY is in progress (R357); indices none. -/
abbrev I.fwJob : Fld := ⟨.i_fwJob, 0, 1⟩
/-- latency of an echo, doubled, signed, fraction units (R412); indices p k. -/
abbrev I.skEcho : Fld := ⟨.i_skEcho, 0, 80⟩
/-- echoes averaged, at most 64 (R412); indices p. -/
abbrev I.skEchoN : Fld := ⟨.i_skEchoN, 0, 7⟩
/-- place of the next echo among the 64 (R412); indices p. -/
abbrev I.skEchoPos : Fld := ⟨.i_skEchoPos, 0, 6⟩
/-- ECHO_ID of the latest ECHO_REQ (R412); indices p. -/
abbrev I.skEchoId : Fld := ⟨.i_skEchoId, 0, 32⟩
/-- its departure DT (R412); indices p. -/
abbrev I.skEchoT1 : Fld := ⟨.i_skEchoT1, 0, 76⟩
/-- its ECHO_RSP is awaited (R412); indices p. -/
abbrev I.skEchoWait : Fld := ⟨.i_skEchoWait, 0, 1⟩
/-- PERIOD_TICKS of the previous frame of a type (R423); indices p t. -/
abbrev I.skPrev : Fld := ⟨.i_skPrev, 0, 64⟩
/-- such a frame has arrived (R423); indices p t. -/
abbrev I.skPrevOn : Fld := ⟨.i_skPrevOn, 0, 1⟩
/-- DT tick of a violation, in a ring of 64 (R424); indices p k. -/
abbrev I.skViol : Fld := ⟨.i_skViol, 0, 64⟩
/-- violations held, at most 64 (R424); indices p. -/
abbrev I.skViolN : Fld := ⟨.i_skViolN, 0, 7⟩
/-- place of the next violation (R424); indices p. -/
abbrev I.skViolPos : Fld := ⟨.i_skViolPos, 0, 6⟩
/-- consecutive broadcasts missed (R415); indices none. -/
abbrev I.skMiss : Fld := ⟨.i_skMiss, 0, 11⟩
/-- PERIOD_TICKS plus 1,024 of the latest broadcast taken (R421); indices none. -/
abbrev I.skBcast : Fld := ⟨.i_skBcast, 0, 65⟩
/-- port 0 has its JOIN_ACK without REFUSED (R415); indices none. -/
abbrev I.skAck : Fld := ⟨.i_skAck, 0, 1⟩
/-- path carried by the JOIN_ACK of port 0 (R415); indices none. -/
abbrev I.skPath : Fld := ⟨.i_skPath, 0, 9⟩
/-- depth carried by it (R415); indices none. -/
abbrev I.skHop : Fld := ⟨.i_skHop, 0, 2⟩
/-- why a downstream port is lost: 1 fenced, 2 timeout, 3 refused; 0 not lost (R424); indices p. -/
abbrev I.skCause : Fld := ⟨.i_skCause, 0, 2⟩
/-- port 0 has been ACTIVE since the reset or the latest change of ROLE (R416); indices none. -/
abbrev I.skSeen : Fld := ⟨.i_skSeen, 0, 1⟩
/-- core-cycle time of the latest ALIGN frame taken (R414); indices none. -/
abbrev I.skAlign : Fld := ⟨.i_skAlign, 0, 128⟩
/-- a SKEIN_MEASURE awaits its echo (R357); indices p. -/
abbrev I.skMeas : Fld := ⟨.i_skMeas, 0, 1⟩
/-- last LOST reported by the summaries of a downstream port: path, cause, valid (R424); indices p. -/
abbrev I.skBelow : Fld := ⟨.i_skBelow, 0, 13⟩
/-- first period whose summary has been neither sent nor evaluated (R419); indices none. -/
abbrev I.skSent : Fld := ⟨.i_skSent, 0, 65⟩
/-- core-cycle time plus 1 of the latest ECHO_RSP taken (R41); indices p. -/
abbrev I.skEchoGot : Fld := ⟨.i_skEchoGot, 0, 129⟩
/-- core-cycle time of the latest ECHO_REQ (R412); indices p. -/
abbrev I.skEchoAt : Fld := ⟨.i_skEchoAt, 0, 128⟩
/-- sum of the errors of the ALIGN frames taken within the present 10 ms, signed, fraction units (R414); indices none. -/
abbrev I.skErrSum : Fld := ⟨.i_skErrSum, 0, 128⟩
/-- ALIGN frames in that sum (R414); indices none. -/
abbrev I.skErrN : Fld := ⟨.i_skErrN, 0, 10⟩
/-- entry DT of the present state of the global sequencer (R420); indices none. -/
abbrev I.gsEntry : Fld := ⟨.i_gsEntry, 0, 76⟩
/-- COUNT qualifier: fires counted since the entry (R420); indices none. -/
abbrev I.gsCount : Fld := ⟨.i_gsCount, 0, 32⟩
/-- periods still not evaluated (R420); indices none. -/
abbrev I.gsDead : Fld := ⟨.i_gsDead, 0, 2⟩
/-- instant before which hold-off discards candidates (R420); indices none. -/
abbrev I.gsHold : Fld := ⟨.i_gsHold, 0, 76⟩
/-- run flag COINCIDENT (R420); indices none. -/
abbrev I.gsCoin : Fld := ⟨.i_gsCoin, 0, 1⟩
/-- run flag LATE_ARRIVAL (R420); indices none. -/
abbrev I.gsLate : Fld := ⟨.i_gsLate, 0, 1⟩
/-- COIN_TAKEN of the run (R420); indices none. -/
abbrev I.gsTaken : Fld := ⟨.i_gsTaken, 0, 5⟩
/-- COIN_OTHER of the run (R420); indices none. -/
abbrev I.gsOther : Fld := ⟨.i_gsOther, 0, 5⟩
/-- GTRIG_SEQ of the latest broadcast (R411); indices none. -/
abbrev I.gtSeq : Fld := ⟨.i_gtSeq, 0, 32⟩
/-- a trigger decided for period number k modulo 32 waits to be sent (R420); indices k. -/
abbrev I.gtOn : Fld := ⟨.i_gtOn, 0, 1⟩
/-- its DT (R420); indices k. -/
abbrev I.gtDt : Fld := ⟨.i_gtDt, 0, 76⟩
/-- its GTERM_TAKEN, GTERM_OTHER and flags: bits 4:0, 9:5, 10 COINCIDENT, 11 LATE_ARRIVAL, 12 MISSING (R411); indices k. -/
abbrev I.gtInfo : Fld := ⟨.i_gtInfo, 0, 13⟩
/-- version of image k, as its header gave it at the last check (R453); indices k. -/
abbrev I.imgVersion : Fld := ⟨.i_imgVersion, 0, 32⟩
/-- build of image k, as its header gave it at the last check (R453); indices k. -/
abbrev I.imgBuild : Fld := ⟨.i_imgBuild, 0, 32⟩
/-- meter readings that the running test has taken (R440); indices none. -/
abbrev I.svcMeterN : Fld := ⟨.i_svcMeterN, 0, 3⟩
/-- the set has been armed SEGMENTED since its last reset (R358); indices d a. -/
abbrev I.libArmed : Fld := ⟨.i_libArmed, 0, 1⟩
/-- a DT step has applied since the arm that began the index of the set (R360); indices d a. -/
abbrev I.libStepped : Fld := ⟨.i_libStepped, 0, 1⟩
/-- core-cycle time of the first such step (R360); indices d a. -/
abbrev I.libStepAt : Fld := ⟨.i_libStepAt, 0, 128⟩

/-- The fields of each register with access code and reset value (the chapters' field tables, R7, R9). -/
def Reg.fields : Reg → List FldInfo
  | .XTO_STATUS => [⟨F.XTO_STATUS.REF_STATE, .RO, 0⟩, ⟨F.XTO_STATUS.REF_PRESENT, .RO, 0⟩, ⟨F.XTO_STATUS.HOLD_WAIT, .RO, 0⟩, ⟨F.XTO_STATUS.SLEWING, .RO, 0⟩, ⟨F.XTO_STATUS.STEP_PENDING, .RO, 0⟩, ⟨F.XTO_STATUS.OVEN_READY, .RO, 0⟩, ⟨F.XTO_STATUS.WARM, .RO, 0⟩]
  | .XTO_REF_CTRL => [⟨F.XTO_REF_CTRL.ENABLE, .RWS, 0⟩, ⟨F.XTO_REF_CTRL.REF_FREQ, .RWS, 0⟩, ⟨F.XTO_REF_CTRL.POLICY, .RWS, 0⟩, ⟨F.XTO_REF_CTRL.RESUME, .WO, 0⟩]
  | .XTO_PHASE_ERR => [⟨F.XTO_PHASE_ERR.ERR, .RO, 0⟩]
  | .XTO_PULL => [⟨F.XTO_PULL.PULL, .RO, 8388608⟩]
  | .XTO_STEP_TICKS => [⟨F.XTO_STEP_TICKS.TICKS, .RO, 0⟩]
  | .XTO_STEP_FRAC => [⟨F.XTO_STEP_FRAC.FRAC, .RO, 0⟩]
  | .XTO_STEP_AT => [⟨F.XTO_STEP_AT.AT, .RO, 0⟩]
  | .SYN_CTRL => [⟨F.SYN_CTRL.MODE, .RW, 0⟩, ⟨F.SYN_CTRL.RAMP_START, .WO, 0⟩, ⟨F.SYN_CTRL.RAMP_ABORT, .WO, 0⟩, ⟨F.SYN_CTRL.RAMP_REPEAT, .RW, 0⟩, ⟨F.SYN_CTRL.RAMP_LAST, .RW, 0⟩, ⟨F.SYN_CTRL.ALIAS_EN, .RW, 0⟩]
  | .SYN_STATUS => [⟨F.SYN_STATUS.LOCK, .RO, 0⟩, ⟨F.SYN_STATUS.MODE_ACTIVE, .RO, 0⟩, ⟨F.SYN_STATUS.PHASE_DET, .RO, 0⟩, ⟨F.SYN_STATUS.RAMP_ACTIVE, .RO, 0⟩, ⟨F.SYN_STATUS.RAMP_SEG, .RO, 0⟩, ⟨F.SYN_STATUS.MODE_REJECT, .W1C, 0⟩, ⟨F.SYN_STATUS.RAMP_REJECT, .W1C, 0⟩]
  | .SYN_DRIFT => [⟨F.SYN_DRIFT.DRIFT, .RO, 0⟩]
  | .SYN_OFFSET => [⟨F.SYN_OFFSET.OFFSET, .RO, 0⟩]
  | .SYN_RAMP_END => [⟨F.SYN_RAMP_END.END_OFFSET, .RW, 0⟩]
  | .SYN_RAMP_DUR => [⟨F.SYN_RAMP_DUR.DURATION, .RW, 0⟩]
  | .SYN_ALIAS => [⟨F.SYN_ALIAS.SUSPECT, .RO, 0⟩, ⟨F.SYN_ALIAS.ZONE, .RO, 0⟩, ⟨F.SYN_ALIAS.SIGN, .RO, 0⟩, ⟨F.SYN_ALIAS.EST_MHZ, .RO, 0⟩]
  | .AUX_CTRL => [⟨F.AUX_CTRL.SPREAD_MODE, .RW, 0⟩, ⟨F.AUX_CTRL.SPREAD_DEPTH, .RW, 0⟩]
  | .AUX_STATUS => [⟨F.AUX_STATUS.LOCKED, .RO, 0⟩, ⟨F.AUX_STATUS.COAST, .RO, 0⟩, ⟨F.AUX_STATUS.BLANKED, .RO, 0⟩, ⟨F.AUX_STATUS.FALLBACK, .RO, 0⟩]
  | .CLD_DT_SNAP => [⟨F.CLD_DT_SNAP.SNAP, .WO, 0⟩]
  | .CLD_DT_TICKS => [⟨F.CLD_DT_TICKS.TICKS, .RO, 0⟩]
  | .CLD_STATUS => [⟨F.CLD_STATUS.PENDING, .RO, 0⟩, ⟨F.CLD_STATUS.WRITE_IGNORED, .W1C, 0⟩]
  | .CLD_LATE_COUNT => [⟨F.CLD_LATE_COUNT.COUNT, .RC, 0⟩]
  | .CNV_CTRL => [⟨F.CNV_CTRL.ATTEN, .RW, 0⟩, ⟨F.CNV_CTRL.CAL_SW, .RO, 0⟩, ⟨F.CNV_CTRL.LADDER_SEL, .RO, 0⟩, ⟨F.CNV_CTRL.OVLD_EVT_EN, .RW, 1⟩]
  | .CNV_STATUS => [⟨F.CNV_STATUS.OVLD_HI, .RO, 0⟩, ⟨F.CNV_STATUS.OVLD_LO, .RO, 0⟩, ⟨F.CNV_STATUS.OVLD_EPISODE, .RO, 0⟩, ⟨F.CNV_STATUS.OVLD_STICKY, .W1C, 0⟩, ⟨F.CNV_STATUS.CLIP_STICKY, .W1C, 0⟩, ⟨F.CNV_STATUS.SETTLING, .RO, 0⟩, ⟨F.CNV_STATUS.ATTEN_REJECT, .W1C, 0⟩, ⟨F.CNV_STATUS.CAL_ACTIVE, .RO, 0⟩, ⟨F.CNV_STATUS.AVAILABLE, .RO, 0⟩, ⟨F.CNV_STATUS.SPARES_LEFT, .RO, 8⟩, ⟨F.CNV_STATUS.CAL_TEST, .RO, 0⟩]
  | .CNV_OVLD_COUNT => [⟨F.CNV_OVLD_COUNT.COUNT, .RC, 0⟩]
  | .CNV_CLIP_COUNT => [⟨F.CNV_CLIP_COUNT.COUNT, .RC, 0⟩]
  | .CNV_SLICE_MAP => [⟨F.CNV_SLICE_MAP.SPARE_PHASE, .RO, 0⟩, ⟨F.CNV_SLICE_MAP.SPARE_STATE, .RO, 0⟩, ⟨F.CNV_SLICE_MAP.LANE_LOST, .RO, 0⟩]
  | .CNV_BIAS => [⟨F.CNV_BIAS.BIAS, .RO, 0⟩]
  | .CNV_DIE_STATUS => [⟨F.CNV_DIE_STATUS.SPLIT, .RO, 0⟩, ⟨F.CNV_DIE_STATUS.C1_TERM, .RO, 0⟩, ⟨F.CNV_DIE_STATUS.C1_DELAY, .RO, 0⟩]
  | .CRD_CTRL => [⟨F.CRD_CTRL.ENABLE, .RW, 1⟩, ⟨F.CRD_CTRL.LOOP_EN, .RW, 15⟩, ⟨F.CRD_CTRL.INTERVAL, .RW, 1000⟩]
  | .CRD_SUFF => [⟨F.CRD_SUFF.VAR_FLOOR, .RW, 64⟩, ⟨F.CRD_SUFF.OCC_SHIFT, .RW, 6⟩, ⟨F.CRD_SUFF.COH_RATIO, .RW, 4⟩]
  | .CRD_TOL => [⟨F.CRD_TOL.OFS_TOL, .RW, 4⟩, ⟨F.CRD_TOL.GAIN_TOL, .RW, 5⟩, ⟨F.CRD_TOL.SKEW_TOL, .RW, 20⟩, ⟨F.CRD_TOL.BW_TOL, .RW, 25⟩]
  | .CRD_TIMEOUT => [⟨F.CRD_TIMEOUT.TIMEOUT, .RW, 2000⟩]
  | .CRD_STATUS => [⟨F.CRD_STATUS.STATE, .RO, 0⟩, ⟨F.CRD_STATUS.STARVED, .RO, 0⟩, ⟨F.CRD_STATUS.LAST_CAUSE, .RO, 0⟩, ⟨F.CRD_STATUS.OCC_BANDS, .RO, 0⟩, ⟨F.CRD_STATUS.TIMEOUT_ANY, .RO, 0⟩, ⟨F.CRD_STATUS.SAT_ANY, .RO, 0⟩]
  | .CRD_SUFF_COUNT => [⟨F.CRD_SUFF_COUNT.COUNT, .RC, 0⟩]
  | .CRD_INSUFF_COUNT => [⟨F.CRD_INSUFF_COUNT.COUNT, .RC, 0⟩]
  | .CRD_COMB_CMD => [⟨F.CRD_COMB_CMD.START, .WO, 0⟩, ⟨F.CRD_COMB_CMD.ABORT, .WO, 0⟩, ⟨F.CRD_COMB_CMD.ALLOW_ARMED, .RW, 0⟩, ⟨F.CRD_COMB_CMD.STORE, .RW, 0⟩]
  | .CRD_COMB_STATUS => [⟨F.CRD_COMB_STATUS.STATE, .RO, 0⟩, ⟨F.CRD_COMB_STATUS.LEVEL, .RO, 0⟩, ⟨F.CRD_COMB_STATUS.RESULT, .RO, 0⟩]
  | .CRD_TRIM => [⟨F.CRD_TRIM.SKEW, .RO, 32⟩, ⟨F.CRD_TRIM.OFFSET, .RO, 64⟩, ⟨F.CRD_TRIM.GAIN, .RO, 32⟩, ⟨F.CRD_TRIM.BW, .RO, 8⟩]
  | .CRD_SLICE_STAT => [⟨F.CRD_SLICE_STAT.CONV, .RO, 0⟩, ⟨F.CRD_SLICE_STAT.TMO, .RO, 0⟩, ⟨F.CRD_SLICE_STAT.EDGE, .RO, 0⟩, ⟨F.CRD_SLICE_STAT.SAT, .RO, 0⟩, ⟨F.CRD_SLICE_STAT.LATE_ARRIVAL, .W1C, 0⟩, ⟨F.CRD_SLICE_STAT.WEAR_CAND, .W1C, 0⟩]
  | .CRD_STORE_CTRL => [⟨F.CRD_STORE_CTRL.WRITE, .WO, 0⟩]
  | .CRD_STORE_STATUS => [⟨F.CRD_STORE_STATUS.SOURCE, .RO, 0⟩, ⟨F.CRD_STORE_STATUS.TORN, .W1C, 0⟩, ⟨F.CRD_STORE_STATUS.BUSY, .RO, 0⟩, ⟨F.CRD_STORE_STATUS.PENDING, .RO, 0⟩, ⟨F.CRD_STORE_STATUS.WRITE_FAIL, .W1C, 0⟩, ⟨F.CRD_STORE_STATUS.A_STATE, .RO, 0⟩, ⟨F.CRD_STORE_STATUS.B_STATE, .RO, 0⟩]
  | .CRD_STORE_GEN => [⟨F.CRD_STORE_GEN.GEN, .RO, 0⟩]
  | .EQ_CTRL => [⟨F.EQ_CTRL.BANK, .RW, 0⟩, ⟨F.EQ_CTRL.BYPASS, .RW, 0⟩]
  | .EQ_STATUS => [⟨F.EQ_STATUS.ACTIVE_BANK, .RO, 0⟩, ⟨F.EQ_STATUS.BYPASSED, .RO, 0⟩, ⟨F.EQ_STATUS.CFG_REJECT, .W1C, 0⟩, ⟨F.EQ_STATUS.WRITE_REJECT, .W1C, 0⟩, ⟨F.EQ_STATUS.SAT_STICKY, .W1C, 0⟩]
  | .EQ_SAT_COUNT => [⟨F.EQ_SAT_COUNT.COUNT, .RC, 0⟩]
  | .EQ_COEF => [⟨F.EQ_COEF.COEF, .RW, 0⟩]
  | .DEC_CTRL => [⟨F.DEC_CTRL.MODE, .RW, 0⟩]
  | .DEC_RATIO => [⟨F.DEC_RATIO.RATIO, .RW, 1⟩]
  | .DEC_STATUS => [⟨F.DEC_STATUS.CFG_REJECT, .W1C, 0⟩, ⟨F.DEC_STATUS.SAT_STICKY, .W1C, 0⟩, ⟨F.DEC_STATUS.SETTLING, .RO, 0⟩, ⟨F.DEC_STATUS.ARM_CHECK, .RO, 0⟩]
  | .DEC_SAT_COUNT => [⟨F.DEC_SAT_COUNT.COUNT, .RC, 0⟩]
  | .FIR_CTRL => [⟨F.FIR_CTRL.DECIM, .RW, 1⟩, ⟨F.FIR_CTRL.SWAP, .WO, 0⟩, ⟨F.FIR_CTRL.SWAP_BANK, .WO, 0⟩, ⟨F.FIR_CTRL.FADE_LEN, .RW, 0⟩]
  | .FIR_STATUS => [⟨F.FIR_STATUS.ACTIVE, .RO, 0⟩, ⟨F.FIR_STATUS.FADING, .RO, 0⟩, ⟨F.FIR_STATUS.PENDING, .RO, 0⟩, ⟨F.FIR_STATUS.PENDING_BANK, .RO, 0⟩, ⟨F.FIR_STATUS.WRITE_REJECT, .W1C, 0⟩, ⟨F.FIR_STATUS.SWAP_REPLACED, .W1C, 0⟩, ⟨F.FIR_STATUS.CFG_REJECT, .W1C, 0⟩, ⟨F.FIR_STATUS.FADE_POS, .RO, 0⟩]
  | .FIR_COEF => [⟨F.FIR_COEF.COEF, .RW, 0⟩]
  | .RSM_CTRL => [⟨F.RSM_CTRL.ENABLE, .RW, 0⟩]
  | .RSM_STATUS => [⟨F.RSM_STATUS.ACTIVE, .RO, 0⟩, ⟨F.RSM_STATUS.CFG_REJECT, .W1C, 0⟩, ⟨F.RSM_STATUS.SAT_STICKY, .W1C, 0⟩]
  | .RSM_RATIO => [⟨F.RSM_RATIO.RATIO, .RW, 0⟩]
  | .RSM_SAT_COUNT => [⟨F.RSM_SAT_COUNT.COUNT, .RC, 0⟩]
  | .TRG_CH_CFG => [⟨F.TRG_CH_CFG.SEQ, .RW, 0⟩, ⟨F.TRG_CH_CFG.PAT_UPPER, .RW, 1⟩, ⟨F.TRG_CH_CFG.PAT_LOWER, .RW, 0⟩]
  | .TRG_LEVEL => [⟨F.TRG_LEVEL.LEVEL, .RW, 0⟩, ⟨F.TRG_LEVEL.HYST, .RW, 2⟩]
  | .TRG_LEVEL_STAT => [⟨F.TRG_LEVEL_STAT.STATE, .RO, 0⟩]
  | .TRG_CTRL => [⟨F.TRG_CTRL.LOGIC_SEQ, .RW, 0⟩]
  | .TRG_STATUS => [⟨F.TRG_STATUS.XDIE_ACTIVE, .RO, 0⟩, ⟨F.TRG_STATUS.XDIE_WITHDRAWN, .RO, 0⟩, ⟨F.TRG_STATUS.CMP_SLOW, .W1C, 0⟩, ⟨F.TRG_STATUS.CFG_REJECT, .W1C, 0⟩, ⟨F.TRG_STATUS.LATE_TERM, .W1C, 0⟩]
  | .TRG_TERM_CFG => [⟨F.TRG_TERM_CFG.TYPE, .RW, 0⟩, ⟨F.TRG_TERM_CFG.SRC, .RW, 0⟩, ⟨F.TRG_TERM_CFG.LEVEL_A, .RW, 0⟩, ⟨F.TRG_TERM_CFG.LEVEL_B, .RW, 0⟩, ⟨F.TRG_TERM_CFG.SLOPE, .RW, 0⟩, ⟨F.TRG_TERM_CFG.COND, .RW, 0⟩]
  | .TRG_TERM_T1 => [⟨F.TRG_TERM_T1.T1, .RW, 0⟩]
  | .TRG_TERM_T2 => [⟨F.TRG_TERM_T2.T2, .RW, 0⟩]
  | .TRG_PAT_ANA => [⟨F.TRG_PAT_ANA.ELEM, .RW, 0⟩]
  | .TRG_PAT_LOG => [⟨F.TRG_PAT_LOG.ELEM, .RW, 0⟩]
  | .TRG_TERM_COUNT => [⟨F.TRG_TERM_COUNT.COUNT, .RO, 0⟩]
  | .TRG_TERM_SNAP => [⟨F.TRG_TERM_SNAP.COUNT, .RO, 0⟩]
  | .TRG_SEQ_CTRL => [⟨F.TRG_SEQ_CTRL.LAST, .RW, 1⟩, ⟨F.TRG_SEQ_CTRL.AUTO_EN, .RW, 0⟩, ⟨F.TRG_SEQ_CTRL.HOLDOFF_MODE, .RW, 0⟩, ⟨F.TRG_SEQ_CTRL.TRIG_EVT_EN, .RW, 0⟩]
  | .TRG_SEQ_STATUS => [⟨F.TRG_SEQ_STATUS.STATE, .RO, 0⟩, ⟨F.TRG_SEQ_STATUS.PHASE, .RO, 0⟩, ⟨F.TRG_SEQ_STATUS.CFG_REJECT, .W1C, 0⟩, ⟨F.TRG_SEQ_STATUS.COINC_STICKY, .W1C, 0⟩, ⟨F.TRG_SEQ_STATUS.FORCE_DROP_STICKY, .W1C, 0⟩, ⟨F.TRG_SEQ_STATUS.ARM_CHECK, .RO, 0⟩]
  | .TRG_AUTO_TIMEOUT => [⟨F.TRG_AUTO_TIMEOUT.TICKS, .RW, 16000000⟩]
  | .TRG_HOLDOFF => [⟨F.TRG_HOLDOFF.VALUE, .RW, 0⟩]
  | .TRG_FORCE => [⟨F.TRG_FORCE.FORCE, .WO, 0⟩]
  | .TRG_LAST => [⟨F.TRG_LAST.TICKS, .RO, 0⟩, ⟨F.TRG_LAST.FRAC, .RO, 0⟩, ⟨F.TRG_LAST.TERM, .RO, 0⟩, ⟨F.TRG_LAST.COIN_TAKEN, .RO, 0⟩, ⟨F.TRG_LAST.COIN_OTHER, .RO, 0⟩, ⟨F.TRG_LAST.FORCED, .RO, 0⟩, ⟨F.TRG_LAST.COINCIDENT, .RO, 0⟩, ⟨F.TRG_LAST.LATE_ARRIVAL, .RO, 0⟩, ⟨F.TRG_LAST.SLOW, .RO, 0⟩, ⟨F.TRG_LAST.HOLDOFF_DISCARDS, .RO, 0⟩]
  | .TRG_TRIG_COUNT => [⟨F.TRG_TRIG_COUNT.COUNT, .RC, 0⟩]
  | .TRG_COINC_COUNT => [⟨F.TRG_COINC_COUNT.COUNT, .RC, 0⟩]
  | .TRG_DISCARD_COUNT => [⟨F.TRG_DISCARD_COUNT.COUNT, .RC, 0⟩]
  | .TRG_FORCE_DROP_COUNT => [⟨F.TRG_FORCE_DROP_COUNT.COUNT, .RC, 0⟩]
  | .TRG_TRIG_SNAP => [⟨F.TRG_TRIG_SNAP.COUNT, .RO, 0⟩]
  | .ACQ_CTRL => [⟨F.ACQ_CTRL.DISC, .RW, 0⟩, ⟨F.ACQ_CTRL.WRAP, .RW, 1⟩, ⟨F.ACQ_CTRL.SPILL, .RW, 0⟩, ⟨F.ACQ_CTRL.SEG_EVT_EN, .RW, 0⟩]
  | .ACQ_CMD => [⟨F.ACQ_CMD.ARM, .WO, 0⟩, ⟨F.ACQ_CMD.STOP, .WO, 0⟩]
  | .ACQ_STATUS => [⟨F.ACQ_STATUS.STATE, .RO, 0⟩, ⟨F.ACQ_STATUS.CFG_REJECT, .W1C, 0⟩, ⟨F.ACQ_STATUS.CMD_REJECT, .W1C, 0⟩, ⟨F.ACQ_STATUS.ARM_CHECK, .RO, 0⟩]
  | .ACQ_SEG_LEN => [⟨F.ACQ_SEG_LEN.LEN, .RW, 1024⟩]
  | .ACQ_NSEG => [⟨F.ACQ_NSEG.NSEG, .RW, 1⟩]
  | .ACQ_PRE => [⟨F.ACQ_PRE.PRE, .RW, 0⟩]
  | .ACQ_POST => [⟨F.ACQ_POST.POST, .RW, 1024⟩]
  | .ACQ_SPILL_BUF => [⟨F.ACQ_SPILL_BUF.MIB, .RW, 64⟩]
  | .ACQ_SEG_COUNT => [⟨F.ACQ_SEG_COUNT.COUNT, .RO, 0⟩]
  | .ACQ_SKIP_COUNT => [⟨F.ACQ_SKIP_COUNT.COUNT, .RC, 0⟩]
  | .ACQ_OPEN_SLOT => [⟨F.ACQ_OPEN_SLOT.SLOT, .RO, 0⟩]
  | .MEM_STATUS => [⟨F.MEM_STATUS.W, .RO, 31⟩, ⟨F.MEM_STATUS.SPARE_FREE, .RO, 1⟩, ⟨F.MEM_STATUS.REMAP_ACTIVE, .RO, 0⟩, ⟨F.MEM_STATUS.DEPTH_REDUCED, .RO, 0⟩, ⟨F.MEM_STATUS.TRAINED, .RO, 0⟩]
  | .MEM_DEPTH => [⟨F.MEM_DEPTH.MIB, .RO, 14336⟩]
  | .MEM_UE_COUNT => [⟨F.MEM_UE_COUNT.COUNT, .RC, 0⟩]
  | .MEM_UE_ADDR => [⟨F.MEM_UE_ADDR.OFFSET, .RO, 0⟩]
  | .MEM_SCRUB_STATUS => [⟨F.MEM_SCRUB_STATUS.PROGRESS, .RO, 0⟩, ⟨F.MEM_SCRUB_STATUS.PASSES, .RO, 0⟩]
  | .MEM_SCRUB_CE => [⟨F.MEM_SCRUB_CE.COUNT, .RC, 0⟩]
  | .MEM_PC_MAP => [⟨F.MEM_PC_MAP.PHYS, .RO, 0⟩]
  | .MEM_PC_STAT => [⟨F.MEM_PC_STAT.STATE, .RO, 0⟩]
  | .MEM_PC_CE => [⟨F.MEM_PC_CE.COUNT, .RO, 0⟩]
  | .MEM_WIN => [⟨F.MEM_WIN.STACK, .RW, 0⟩, ⟨F.MEM_WIN.BASE, .RW, 0⟩]
  | .STR_CTRL => [⟨F.STR_CTRL.CHUNK_LOG2, .RW, 16⟩, ⟨F.STR_CTRL.RESUME_PCT, .RW, 50⟩, ⟨F.STR_CTRL.FLUSH_US, .RW, 1000⟩]
  | .STR_DATA_RING => [⟨F.STR_DATA_RING.QUEUE, .RW, 0⟩]
  | .STR_AUX_RINGS => [⟨F.STR_AUX_RINGS.MARK_Q, .RW, 0⟩, ⟨F.STR_AUX_RINGS.GAP_Q, .RW, 0⟩]
  | .STR_STATUS => [⟨F.STR_STATUS.BACKPRESSURE, .RO, 0⟩, ⟨F.STR_STATUS.CFG_REJECT, .W1C, 0⟩, ⟨F.STR_STATUS.GAP_LOG_WRAP, .W1C, 0⟩, ⟨F.STR_STATUS.MARK_LOST, .W1C, 0⟩, ⟨F.STR_STATUS.MARKS_HELD, .RO, 0⟩]
  | .STR_INDEX => [⟨F.STR_INDEX.INDEX, .RO, 0⟩]
  | .STR_FILL => [⟨F.STR_FILL.MIB, .RO, 0⟩]
  | .STR_MARK_SEQ => [⟨F.STR_MARK_SEQ.SEQ, .RO, 0⟩]
  | .STR_GAP_SEQ => [⟨F.STR_GAP_SEQ.SEQ, .RO, 0⟩]
  | .STR_MARK_LOST_COUNT => [⟨F.STR_MARK_LOST_COUNT.COUNT, .RC, 0⟩]
  | .ACC_CTRL => [⟨F.ACC_CTRL.AVG_EN, .RW, 0⟩, ⟨F.ACC_CTRL.HIST_EN, .RW, 1⟩, ⟨F.ACC_CTRL.REPEAT, .RW, 0⟩, ⟨F.ACC_CTRL.CLEAR_ON_START, .RW, 1⟩, ⟨F.ACC_CTRL.FREEZE, .RW, 0⟩]
  | .ACC_CMD => [⟨F.ACC_CMD.START, .WO, 0⟩, ⟨F.ACC_CMD.STOP, .WO, 0⟩, ⟨F.ACC_CMD.RELEASE, .WO, 0⟩, ⟨F.ACC_CMD.CLEAR_HIST, .WO, 0⟩]
  | .ACC_STATUS => [⟨F.ACC_STATUS.STATE, .RO, 0⟩, ⟨F.ACC_STATUS.FROZEN, .RO, 0⟩, ⟨F.ACC_STATUS.CFG_REJECT, .W1C, 0⟩, ⟨F.ACC_STATUS.CMD_REJECT, .W1C, 0⟩, ⟨F.ACC_STATUS.HIST_SAT_STICKY, .W1C, 0⟩, ⟨F.ACC_STATUS.DECAY_DROP, .W1C, 0⟩, ⟨F.ACC_STATUS.START_CHECK, .RO, 0⟩]
  | .ACC_AVG_COUNT => [⟨F.ACC_AVG_COUNT.TARGET, .RW, 16⟩]
  | .ACC_AVG_DONE => [⟨F.ACC_AVG_DONE.DONE, .RO, 0⟩]
  | .ACC_AVG_BATCH => [⟨F.ACC_AVG_BATCH.COUNT, .RO, 0⟩]
  | .ACC_AVG_START => [⟨F.ACC_AVG_START.START, .RW, 0⟩]
  | .ACC_AVG_LEN => [⟨F.ACC_AVG_LEN.LEN, .RW, 1024⟩]
  | .ACC_HIST_X_ORIGIN => [⟨F.ACC_HIST_X_ORIGIN.ORIGIN, .RW, 0⟩]
  | .ACC_HIST_X_STEP => [⟨F.ACC_HIST_X_STEP.STEP, .RW, 4096⟩]
  | .ACC_HIST_Y => [⟨F.ACC_HIST_Y.Y_BASE, .RW, 32768⟩, ⟨F.ACC_HIST_Y.Y_STEP, .RW, 64⟩]
  | .ACC_DECAY => [⟨F.ACC_DECAY.DECAY_N, .RW, 0⟩, ⟨F.ACC_DECAY.DECAY_SHIFT, .RW, 1⟩, ⟨F.ACC_DECAY.DECAY_SRC, .RW, 0⟩]
  | .ACC_FRAME_PERIOD => [⟨F.ACC_FRAME_PERIOD.US, .RW, 16667⟩]
  | .ACC_EXCL => [⟨F.ACC_EXCL.MASK, .RW, 0⟩]
  | .ACC_RATE_CAP => [⟨F.ACC_RATE_CAP.MIN_CYCLES, .RO, 0⟩]
  | .ACC_AVG_INCOMPLETE => [⟨F.ACC_AVG_INCOMPLETE.COUNT, .RC, 0⟩]
  | .ACC_HIST_ACQ => [⟨F.ACC_HIST_ACQ.COUNT, .RO, 0⟩]
  | .ACC_SKIP => [⟨F.ACC_SKIP.COUNT, .RC, 0⟩]
  | .SCN_CTRL => [⟨F.SCN_CTRL.ENABLE, .RW, 0⟩, ⟨F.SCN_CTRL.FRAME_EVT_EN, .RW, 0⟩, ⟨F.SCN_CTRL.LAYER_ORDER, .RW, 228⟩]
  | .SCN_STATUS => [⟨F.SCN_STATUS.RUNNING, .RO, 0⟩, ⟨F.SCN_STATUS.BLACK, .RO, 0⟩, ⟨F.SCN_STATUS.RETRAIN_SLOW, .W1C, 0⟩, ⟨F.SCN_STATUS.HPD, .RO, 0⟩, ⟨F.SCN_STATUS.LINK, .RO, 0⟩, ⟨F.SCN_STATUS.RATE_ACT, .RO, 0⟩, ⟨F.SCN_STATUS.LANES_ACT, .RO, 0⟩, ⟨F.SCN_STATUS.APPLY_PENDING, .RO, 0⟩, ⟨F.SCN_STATUS.CFG_REJECT, .W1C, 0⟩, ⟨F.SCN_STATUS.WIN_REJECT, .W1C, 0⟩, ⟨F.SCN_STATUS.FLIP_REJECT, .W1C, 0⟩, ⟨F.SCN_STATUS.UNDERRUN_STICKY, .W1C, 0⟩]
  | .SCN_FRAME => [⟨F.SCN_FRAME.FRAME, .RO, 0⟩]
  | .SCN_BG => [⟨F.SCN_BG.RGB, .RW, 0⟩]
  | .SCN_LINK_CFG => [⟨F.SCN_LINK_CFG.RATE, .RW, 1⟩, ⟨F.SCN_LINK_CFG.LANES, .RW, 4⟩, ⟨F.SCN_LINK_CFG.FALLBACK_EN, .RW, 1⟩]
  | .SCN_UNDERRUN_COUNT => [⟨F.SCN_UNDERRUN_COUNT.COUNT, .RC, 0⟩]
  | .SCN_TIM_H => [⟨F.SCN_TIM_H.HACTIVE, .RW, 3840⟩, ⟨F.SCN_TIM_H.HTOTAL, .RW, 3920⟩]
  | .SCN_TIM_HS => [⟨F.SCN_TIM_HS.HFP, .RW, 8⟩, ⟨F.SCN_TIM_HS.HSW, .RW, 32⟩, ⟨F.SCN_TIM_HS.HPOL, .RW, 1⟩]
  | .SCN_TIM_V => [⟨F.SCN_TIM_V.VACTIVE, .RW, 2160⟩, ⟨F.SCN_TIM_V.VTOTAL, .RW, 2222⟩]
  | .SCN_TIM_VS => [⟨F.SCN_TIM_VS.VFP, .RW, 48⟩, ⟨F.SCN_TIM_VS.VSW, .RW, 8⟩, ⟨F.SCN_TIM_VS.VPOL, .RW, 0⟩]
  | .SCN_TIM_PCLK => [⟨F.SCN_TIM_PCLK.KHZ, .RW, 522614⟩]
  | .SCN_TIM_CTRL => [⟨F.SCN_TIM_CTRL.APPLY, .WO, 0⟩, ⟨F.SCN_TIM_CTRL.RESULT, .RO, 0⟩]
  | .SCN_CUR_POS => [⟨F.SCN_CUR_POS.X, .RW, 0⟩, ⟨F.SCN_CUR_POS.Y, .RW, 0⟩]
  | .SCN_CUR_CTRL => [⟨F.SCN_CUR_CTRL.EN, .RW, 0⟩, ⟨F.SCN_CUR_CTRL.PAL, .RW, 0⟩]
  | .SCN_WF_CFG => [⟨F.SCN_WF_CFG.EN, .RW, 0⟩, ⟨F.SCN_WF_CFG.PRIO, .RW, 0⟩, ⟨F.SCN_WF_CFG.PAL, .RW, 0⟩, ⟨F.SCN_WF_CFG.SHIFT, .RW, 0⟩]
  | .SCN_WF_POS => [⟨F.SCN_WF_POS.X, .RW, 0⟩, ⟨F.SCN_WF_POS.Y, .RW, 0⟩]
  | .SCN_WF_SIZE => [⟨F.SCN_WF_SIZE.W, .RW, 2048⟩, ⟨F.SCN_WF_SIZE.H, .RW, 1024⟩]
  | .SCN_OVL_CTRL => [⟨F.SCN_OVL_CTRL.EN, .RW, 0⟩, ⟨F.SCN_OVL_CTRL.SRC, .RW, 0⟩, ⟨F.SCN_OVL_CTRL.PAL, .RW, 0⟩, ⟨F.SCN_OVL_CTRL.FAULT, .W1C, 0⟩, ⟨F.SCN_OVL_CTRL.PENDING, .RO, 0⟩]
  | .SCN_OVL_ADDR => [⟨F.SCN_OVL_ADDR.ADDR, .RW, 0⟩]
  | .SCN_OVL_STRIDE => [⟨F.SCN_OVL_STRIDE.STRIDE, .RW, 3840⟩]
  | .SCN_OVL_FLIP => [⟨F.SCN_OVL_FLIP.TAG, .WO, 0⟩, ⟨F.SCN_OVL_FLIP.FLIP, .WO, 0⟩]
  | .SCN_OVL_STAT => [⟨F.SCN_OVL_STAT.SHOWN_TAG, .RO, 0⟩, ⟨F.SCN_OVL_STAT.PENDING_TAG, .RO, 0⟩]
  | .SCN_FAULT_FRAME => [⟨F.SCN_FAULT_FRAME.FRAME, .RO, 0⟩]
  | .FRW_CTRL => [⟨F.FRW_CTRL.EN, .RW, 1⟩, ⟨F.FRW_CTRL.N, .RW, 8⟩]
  | .FRW_STATUS => [⟨F.FRW_STATUS.FROST, .W1C, 0⟩, ⟨F.FRW_STATUS.RUN, .RO, 0⟩, ⟨F.FRW_STATUS.SUSPENDED, .RO, 0⟩]
  | .FRW_CRC => [⟨F.FRW_CRC.CRC, .RO, 0⟩]
  | .LGC_CH_CFG => [⟨F.LGC_CH_CFG.MODE, .RW, 0⟩, ⟨F.LGC_CH_CFG.THRESH, .RW, 0⟩, ⟨F.LGC_CH_CFG.HYST, .RW, 20⟩, ⟨F.LGC_CH_CFG.HOLDOFF, .RW, 0⟩]
  | .LGC_SUPPRESS_COUNT => [⟨F.LGC_SUPPRESS_COUNT.COUNT, .RC, 0⟩]
  | .LGC_CTRL => [⟨F.LGC_CTRL.REC_MASK, .RW, 65535⟩]
  | .LGC_STATE => [⟨F.LGC_STATE.STATE, .RO, 0⟩, ⟨F.LGC_STATE.UNRESOLVED, .RO, 0⟩]
  | .LGC_STATUS => [⟨F.LGC_STATUS.RUNNING, .RO, 0⟩, ⟨F.LGC_STATUS.CFG_REJECT, .W1C, 0⟩]
  | .TIM_CTRL => [⟨F.TIM_CTRL.EN, .RW, 0⟩, ⟨F.TIM_CTRL.MODE, .RW, 0⟩, ⟨F.TIM_CTRL.SIGNED, .RW, 0⟩, ⟨F.TIM_CTRL.RES_EVT_EN, .RW, 0⟩]
  | .TIM_START_SRC => [⟨F.TIM_START_SRC.SRC, .RW, 16⟩, ⟨F.TIM_START_SRC.EDGE, .RW, 0⟩, ⟨F.TIM_START_SRC.HOLDOFF, .RW, 0⟩]
  | .TIM_STOP_SRC => [⟨F.TIM_STOP_SRC.SRC, .RW, 255⟩, ⟨F.TIM_STOP_SRC.EDGE, .RW, 0⟩, ⟨F.TIM_STOP_SRC.HOLDOFF, .RW, 0⟩]
  | .TIM_GATE => [⟨F.TIM_GATE.US, .RW, 1000⟩]
  | .TIM_N => [⟨F.TIM_N.N, .RW, 1⟩]
  | .TIM_CUE => [⟨F.TIM_CUE.TICKS, .RW, 0⟩, ⟨F.TIM_CUE.FRAC, .RW, 0⟩, ⟨F.TIM_CUE.ARM, .RW, 0⟩, ⟨F.TIM_CUE.LATE, .W1C, 0⟩]
  | .TIM_STATUS => [⟨F.TIM_STATUS.OPEN, .RO, 0⟩, ⟨F.TIM_STATUS.CFG_REJECT, .W1C, 0⟩, ⟨F.TIM_STATUS.FIFO_OVF, .W1C, 0⟩, ⟨F.TIM_STATUS.FIFO_LEVEL, .RO, 0⟩, ⟨F.TIM_STATUS.EN_CHECK, .RO, 0⟩]
  | .TIM_IGN_STOP => [⟨F.TIM_IGN_STOP.COUNT, .RC, 0⟩]
  | .TIM_IGN_START => [⟨F.TIM_IGN_START.COUNT, .RC, 0⟩]
  | .TIM_SUPPRESS => [⟨F.TIM_SUPPRESS.COUNT, .RC, 0⟩]
  | .TIM_TOTAL => [⟨F.TIM_TOTAL.COUNT, .RO, 0⟩]
  | .TIM_SNAP => [⟨F.TIM_SNAP.COUNT, .RO, 0⟩]
  | .TIM_RES => [⟨F.TIM_RES.WORD, .RO, 0⟩]
  | .CMP_CTRL => [⟨F.CMP_CTRL.EN, .RW, 0⟩, ⟨F.CMP_CTRL.MODE, .RW, 0⟩, ⟨F.CMP_CTRL.VIGIL_MODE, .RW, 0⟩, ⟨F.CMP_CTRL.POL, .RO, 0⟩, ⟨F.CMP_CTRL.EVT_EN, .RW, 0⟩, ⟨F.CMP_CTRL.WAKE_EN, .RW, 0⟩, ⟨F.CMP_CTRL.BLANK_SRC, .RW, 0⟩, ⟨F.CMP_CTRL.SEL, .RW, 0⟩]
  | .CMP_THRESH => [⟨F.CMP_THRESH.THRESH, .RW, 0⟩, ⟨F.CMP_THRESH.HYST, .RW, 4⟩]
  | .CMP_BLANK => [⟨F.CMP_BLANK.LEN, .RW, 0⟩]
  | .CMP_STATUS => [⟨F.CMP_STATUS.OUT, .RO, 0⟩, ⟨F.CMP_STATUS.ASSERTED, .RO, 0⟩, ⟨F.CMP_STATUS.UNRESOLVED, .RO, 0⟩, ⟨F.CMP_STATUS.MODE_ACT, .RO, 0⟩, ⟨F.CMP_STATUS.SETTLING, .RO, 0⟩, ⟨F.CMP_STATUS.BLANKING, .RO, 0⟩, ⟨F.CMP_STATUS.DERATED, .RO, 0⟩, ⟨F.CMP_STATUS.ASSERT_STICKY, .W1C, 0⟩, ⟨F.CMP_STATUS.CFG_REJECT, .W1C, 0⟩]
  | .CMP_COUNT => [⟨F.CMP_COUNT.COUNT, .RC, 0⟩]
  | .CMP_BLANK_COUNT => [⟨F.CMP_BLANK_COUNT.COUNT, .RC, 0⟩]
  | .CMP_SNAP => [⟨F.CMP_SNAP.COUNT, .RO, 0⟩]
  | .CMP_BLANK_TMR => [⟨F.CMP_BLANK_TMR.PERIOD, .RW, 0⟩, ⟨F.CMP_BLANK_TMR.OFFSET, .RW, 0⟩]
  | .CMP_WIN => [⟨F.CMP_WIN.EVT_EN, .RW, 0⟩, ⟨F.CMP_WIN.STATE, .RO, 0⟩, ⟨F.CMP_WIN.CHANGED, .W1C, 0⟩]
  | .CMP_SPARE_MAP => [⟨F.CMP_SPARE_MAP.S0_UNIT, .RO, 0⟩, ⟨F.CMP_SPARE_MAP.S0_STATE, .RO, 0⟩, ⟨F.CMP_SPARE_MAP.S1_UNIT, .RO, 0⟩, ⟨F.CMP_SPARE_MAP.S1_STATE, .RO, 0⟩]
  | .QUE_BASE => [⟨F.QUE_BASE.BASE, .RW, 0⟩]
  | .QUE_CFG => [⟨F.QUE_CFG.KIND, .RO, 0⟩, ⟨F.QUE_CFG.ENABLE, .RW, 0⟩, ⟨F.QUE_CFG.LOG2_SIZE, .RW, 4⟩, ⟨F.QUE_CFG.CQ, .RW, 0⟩]
  | .QUE_STATUS => [⟨F.QUE_STATUS.STATE, .RO, 0⟩, ⟨F.QUE_STATUS.PHASE, .RO, 1⟩, ⟨F.QUE_STATUS.IRQ_STATE, .RO, 0⟩, ⟨F.QUE_STATUS.CFG_REJECT, .W1C, 0⟩, ⟨F.QUE_STATUS.OVERFLOW, .W1C, 0⟩, ⟨F.QUE_STATUS.DB_REJECT, .W1C, 0⟩, ⟨F.QUE_STATUS.EN_CHECK, .RO, 0⟩]
  | .QUE_PTR => [⟨F.QUE_PTR.HEAD, .RO, 0⟩, ⟨F.QUE_PTR.TAIL, .RO, 0⟩]
  | .QUE_IRQ => [⟨F.QUE_IRQ.VECTOR, .RW, 0⟩, ⟨F.QUE_IRQ.TARGET, .RW, 0⟩, ⟨F.QUE_IRQ.PRIO, .RW, 0⟩, ⟨F.QUE_IRQ.COAL_COUNT, .RW, 1⟩]
  | .QUE_COAL => [⟨F.QUE_COAL.COAL_TIME, .RW, 0⟩]
  | .QUE_LOST => [⟨F.QUE_LOST.COUNT, .RC, 0⟩]
  | .QUE_WB => [⟨F.QUE_WB.ADDR, .RW, 0⟩]
  | .QUE_AUX => [⟨F.QUE_AUX.ADDR, .RW, 0⟩]
  | .DBL => [⟨F.DBL.INDEX, .WO, 0⟩]
  | .EVC_PEND => [⟨F.EVC_PEND.PEND, .RW, 0⟩]
  | .EVC_MASK => [⟨F.EVC_MASK.MASK, .RW, 0⟩]
  | .EVC_RAISE => [⟨F.EVC_RAISE.PAYLOAD, .WO, 0⟩]
  | .EVC_STATUS => [⟨F.EVC_STATUS.ROUTE_REJECT, .W1C, 0⟩]
  | .EVC_DST_WAKE => [⟨F.EVC_DST_WAKE.WAKE, .RO, 65535⟩]
  | .EVC_ROUTE => [⟨F.EVC_ROUTE.QUEUE, .RW, 6144⟩, ⟨F.EVC_ROUTE.EN, .RW, 0⟩, ⟨F.EVC_ROUTE.FW_QUEUE, .RO, 0⟩, ⟨F.EVC_ROUTE.FW_EN, .RO, 0⟩, ⟨F.EVC_ROUTE.LEVEL, .RO, 0⟩]
  | .MBX_URG_CMD => [⟨F.MBX_URG_CMD.WORD, .RW, 0⟩]
  | .MBX_URG_RSP => [⟨F.MBX_URG_RSP.WORD, .RO, 0⟩]
  | .MBX_URG_CTRL => [⟨F.MBX_URG_CTRL.GO, .WO, 0⟩]
  | .MBX_URG_STATUS => [⟨F.MBX_URG_STATUS.BUSY, .RO, 0⟩, ⟨F.MBX_URG_STATUS.DONE, .W1C, 0⟩, ⟨F.MBX_URG_STATUS.REJECT, .W1C, 0⟩]
  | .MBX_STATUS => [⟨F.MBX_STATUS.IN_PROGRESS, .RO, 0⟩, ⟨F.MBX_STATUS.OUTSTANDING, .RO, 0⟩]
  | .MBX_VLOG_NEXT => [⟨F.MBX_VLOG_NEXT.NEXT, .RO, 0⟩]
  | .MBX_VLOG_TOTAL => [⟨F.MBX_VLOG_TOTAL.COUNT, .RO, 0⟩]
  | .MBX_RING_STAT => [⟨F.MBX_RING_STAT.RECENT, .RO, 0⟩, ⟨F.MBX_RING_STAT.TOTAL, .RO, 0⟩]
  | .MBX_VLOG => [⟨F.MBX_VLOG.WORD, .RO, 0⟩]
  | .PWR_MODE => [⟨F.PWR_MODE.MODE, .RO, 3⟩, ⟨F.PWR_MODE.TRANSITION, .RO, 0⟩, ⟨F.PWR_MODE.TARGET, .RO, 0⟩]
  | .PWR_DOMAIN => [⟨F.PWR_DOMAIN.ON, .RO, 0⟩]
  | .PWR_WAKE_CTRL => [⟨F.PWR_WAKE_CTRL.TIMER_EN, .RWS, 0⟩, ⟨F.PWR_WAKE_CTRL.WAKE_PIN_EN, .RWS, 1⟩]
  | .PWR_WAKE_DT => [⟨F.PWR_WAKE_DT.TICKS, .RWS, 0⟩]
  | .PWR_WAKE_CAUSE => [⟨F.PWR_WAKE_CAUSE.CAUSE, .RO, 0⟩, ⟨F.PWR_WAKE_CAUSE.UNIT, .RO, 0⟩, ⟨F.PWR_WAKE_CAUSE.DIE, .RO, 0⟩, ⟨F.PWR_WAKE_CAUSE.AUX_LOSS, .RO, 0⟩]
  | .PWR_STATUS => [⟨F.PWR_STATUS.THERMAL, .RO, 0⟩, ⟨F.PWR_STATUS.THERMAL_SEEN, .W1C, 0⟩]
  | .PWR_RAIL => [⟨F.PWR_RAIL.MW, .RO, 0⟩]
  | .PWR_TEMP => [⟨F.PWR_TEMP.TEMP, .RO, 0⟩]
  | .HVS_ALLOW => [⟨F.HVS_ALLOW.POLICY, .RWS, 0⟩]
  | .HVS_CAP => [⟨F.HVS_CAP.MW, .RWS, 165000⟩]
  | .HVS_BUDGET => [⟨F.HVS_BUDGET.MJ, .RWS, 165000⟩]
  | .HVS_LEDGER => [⟨F.HVS_LEDGER.VALUE, .RO, 0⟩]
  | .HVS_SHARE => [⟨F.HVS_SHARE.VALUE, .RO, 0⟩]
  | .HVS_STATUS => [⟨F.HVS_STATUS.LEVEL, .RO, 0⟩, ⟨F.HVS_STATUS.OVER, .RO, 0⟩, ⟨F.HVS_STATUS.HOST_DEFERRED, .RO, 0⟩, ⟨F.HVS_STATUS.MAINT_DEFERRED, .RO, 0⟩]
  | .HVS_REFUSE_COUNT => [⟨F.HVS_REFUSE_COUNT.COUNT, .RC, 0⟩]
  | .HVS_DEFER_COUNT => [⟨F.HVS_DEFER_COUNT.COUNT, .RC, 0⟩]
  | .BOB_CTRL => [⟨F.BOB_CTRL.AUTO_EN, .RWS, 1⟩]
  | .BOB_THRESH => [⟨F.BOB_THRESH.TMO_LIMIT, .RWS, 3⟩, ⟨F.BOB_THRESH.BIAS_PCT, .RWS, 15⟩, ⟨F.BOB_THRESH.CE_LIMIT, .RWS, 4096⟩]
  | .BOB_STATUS => [⟨F.BOB_STATUS.SLICE_C0, .RO, 8⟩, ⟨F.BOB_STATUS.SLICE_C1, .RO, 8⟩, ⟨F.BOB_STATUS.PC_H0, .RO, 1⟩, ⟨F.BOB_STATUS.PC_H1, .RO, 1⟩, ⟨F.BOB_STATUS.CMP, .RO, 2⟩, ⟨F.BOB_STATUS.SRAM, .RO, 15⟩]
  | .BOB_RETIRED => [⟨F.BOB_RETIRED.C0, .RO, 0⟩, ⟨F.BOB_RETIRED.C1, .RO, 0⟩, ⟨F.BOB_RETIRED.H0, .RO, 0⟩, ⟨F.BOB_RETIRED.H1, .RO, 0⟩, ⟨F.BOB_RETIRED.LOGIC, .RO, 0⟩, ⟨F.BOB_RETIRED.POOL, .RO, 0⟩, ⟨F.BOB_RETIRED.XDIE, .RO, 0⟩, ⟨F.BOB_RETIRED.OTHER_DIE, .RO, 0⟩, ⟨F.BOB_RETIRED.CONTROL, .RO, 0⟩]
  | .BOB_ACTIVE => [⟨F.BOB_ACTIVE.UNIT, .RO, 0⟩, ⟨F.BOB_ACTIVE.PHASE, .RO, 0⟩, ⟨F.BOB_ACTIVE.LOST, .RO, 0⟩, ⟨F.BOB_ACTIVE.TRAIN_RUN, .RO, 0⟩]
  | .BOB_SPL_LANES => [⟨F.BOB_SPL_LANES.TX_WORKING, .RO, 24⟩, ⟨F.BOB_SPL_LANES.RX_WORKING, .RO, 24⟩, ⟨F.BOB_SPL_LANES.TX_SPARE, .RO, 4⟩, ⟨F.BOB_SPL_LANES.RX_SPARE, .RO, 4⟩]
  | .BOB_SPL_MARGIN => [⟨F.BOB_SPL_MARGIN.MARGIN, .RO, 0⟩, ⟨F.BOB_SPL_MARGIN.STATE, .RO, 0⟩]
  | .BOB_SRAM => [⟨F.BOB_SRAM.STATE, .RO, 0⟩, ⟨F.BOB_SRAM.BANK, .RO, 0⟩, ⟨F.BOB_SRAM.CE_DAY, .RO, 0⟩]
  | .MNT_RUNNING => [⟨F.MNT_RUNNING.ACT, .RO, 0⟩]
  | .MNT_WAITING => [⟨F.MNT_WAITING.ACT, .RO, 0⟩]
  | .MNT_GROUP => [⟨F.MNT_GROUP.OWNER, .RO, 7⟩, ⟨F.MNT_GROUP.WAITERS, .RO, 0⟩]
  | .SKN_CTRL => [⟨F.SKN_CTRL.ROLE, .RWS, 0⟩, ⟨F.SKN_CTRL.PORT_EN, .RWS, 0⟩, ⟨F.SKN_CTRL.GTRIG_EVT_EN, .RW, 0⟩]
  | .SKN_TRIG_SEL => [⟨F.SKN_TRIG_SEL.DIE0, .RW, 0⟩, ⟨F.SKN_TRIG_SEL.DIE1, .RW, 0⟩]
  | .SKN_GSEQ_CTRL => [⟨F.SKN_GSEQ_CTRL.LAST, .RW, 1⟩, ⟨F.SKN_GSEQ_CTRL.RUN, .RW, 0⟩]
  | .SKN_GSEQ_HOLDOFF => [⟨F.SKN_GSEQ_HOLDOFF.TICKS, .RW, 0⟩]
  | .SKN_STATUS => [⟨F.SKN_STATUS.ROLE_ACT, .RO, 0⟩, ⟨F.SKN_STATUS.ALIGNED, .RO, 0⟩, ⟨F.SKN_STATUS.JOIN_STEP_PENDING, .RO, 0⟩, ⟨F.SKN_STATUS.DEPTH, .RO, 0⟩, ⟨F.SKN_STATUS.CFG_REJECT, .W1C, 0⟩, ⟨F.SKN_STATUS.WORKERS, .RO, 0⟩, ⟨F.SKN_STATUS.PATH, .RO, 0⟩]
  | .SKN_PORT_STATUS => [⟨F.SKN_PORT_STATUS.STATE, .RO, 0⟩, ⟨F.SKN_PORT_STATUS.LATE_ARRIVAL, .W1C, 0⟩, ⟨F.SKN_PORT_STATUS.NAK_SEEN, .W1C, 0⟩, ⟨F.SKN_PORT_STATUS.SUMMARY_MISS, .W1C, 0⟩, ⟨F.SKN_PORT_STATUS.BCAST_MISS, .W1C, 0⟩, ⟨F.SKN_PORT_STATUS.SUBTREE, .RO, 0⟩]
  | .SKN_GSEQ_STATUS => [⟨F.SKN_GSEQ_STATUS.STATE, .RO, 0⟩, ⟨F.SKN_GSEQ_STATUS.COINC_STICKY, .W1C, 0⟩, ⟨F.SKN_GSEQ_STATUS.MISSING_STICKY, .W1C, 0⟩, ⟨F.SKN_GSEQ_STATUS.ARM_CHECK, .RO, 0⟩]
  | .SKN_LOST => [⟨F.SKN_LOST.PATH, .RO, 0⟩, ⟨F.SKN_LOST.CAUSE, .RO, 0⟩, ⟨F.SKN_LOST.VALID, .W1C, 0⟩]
  | .SKN_GTERM => [⟨F.SKN_GTERM.GTERM, .RW, 0⟩, ⟨F.SKN_GTERM.EN, .RW, 0⟩]
  | .SKN_PORT_LAT => [⟨F.SKN_PORT_LAT.TICKS, .RO, 0⟩, ⟨F.SKN_PORT_LAT.FRAC, .RO, 0⟩]
  | .SKN_PORT_VIOL => [⟨F.SKN_PORT_VIOL.RECENT, .RO, 0⟩, ⟨F.SKN_PORT_VIOL.TOTAL, .RO, 0⟩]
  | .SKN_SYNC_RX => [⟨F.SKN_SYNC_RX.TICKS, .RO, 0⟩, ⟨F.SKN_SYNC_RX.FRAC, .RO, 0⟩]
  | .SVC_STATUS => [⟨F.SVC_STATUS.LOCKED, .RO, 0⟩, ⟨F.SVC_STATUS.LOCKOUT, .RO, 0⟩, ⟨F.SVC_STATUS.TEST_RUN, .RO, 0⟩, ⟨F.SVC_STATUS.TEST_NUM, .RO, 0⟩, ⟨F.SVC_STATUS.BAUD, .RO, 0⟩]
  | .SVC_ATB => [⟨F.SVC_ATB.POINT, .RW, 255⟩, ⟨F.SVC_ATB.INDEX, .RW, 0⟩, ⟨F.SVC_ATB.REJECT, .W1C, 0⟩]
  | .SVC_RESULT => [⟨F.SVC_RESULT.RESULT, .RO, 0⟩, ⟨F.SVC_RESULT.LOCUS, .RO, 0⟩, ⟨F.SVC_RESULT.UNIT, .RO, 0⟩]
  | .BOOT_STATUS => [⟨F.BOOT_STATUS.IMAGE, .RO, 0⟩, ⟨F.BOOT_STATUS.FALLBACK, .RO, 0⟩, ⟨F.BOOT_STATUS.A_STATE, .RO, 0⟩, ⟨F.BOOT_STATUS.B_STATE, .RO, 0⟩, ⟨F.BOOT_STATUS.NEXT, .RO, 0⟩, ⟨F.BOOT_STATUS.DIR_DEFAULT, .RO, 0⟩, ⟨F.BOOT_STATUS.SFDP_OK, .RO, 0⟩, ⟨F.BOOT_STATUS.BOOT_DIE, .RO, 0⟩]
  | .BOOT_RESET_CAUSE => [⟨F.BOOT_RESET_CAUSE.CAUSE, .RO, 0⟩, ⟨F.BOOT_RESET_CAUSE.COLD, .RO, 0⟩]
  | .BOOT_CTRL => [⟨F.BOOT_CTRL.KEY, .WO, 0⟩, ⟨F.BOOT_CTRL.WARM, .WO, 0⟩]
  | .BOOT_TIME => [⟨F.BOOT_TIME.MS, .RO, 0⟩]
  | .BOOT_EP_CAUSE => [⟨F.BOOT_EP_CAUSE.PERST, .W1C, 0⟩, ⟨F.BOOT_EP_CAUSE.HOT_RESET, .W1C, 0⟩, ⟨F.BOOT_EP_CAUSE.FLR, .W1C, 0⟩]
  | .BOOT_IMG_VER => [⟨F.BOOT_IMG_VER.VERSION, .RO, 0⟩]
  | .TOP_ID => [⟨F.TOP_ID.STEPPING, .RO, 176⟩, ⟨F.TOP_ID.DIE, .RO, 0⟩, ⟨F.TOP_ID.CONTROL, .RO, 0⟩, ⟨F.TOP_ID.PART, .RO, 19040⟩]
  | .CUE => [⟨F.CUE.DT_TICKS, .RW, 0⟩, ⟨F.CUE.DT_FRAC, .RW, 0⟩, ⟨F.CUE.ACTION, .RW, 0⟩, ⟨F.CUE.STATE, .RW, 0⟩, ⟨F.CUE.TARGET, .RW, 0⟩, ⟨F.CUE.LATE, .RO, 0⟩, ⟨F.CUE.STEPPED, .RO, 0⟩, ⟨F.CUE.NOTIFY, .RW, 0⟩, ⟨F.CUE.PARAM, .RW, 0⟩, ⟨F.CUE.STATUS, .RO, 0⟩, ⟨F.CUE.EXEC_TICK, .RO, 0⟩]
  | .SEQ_STATE => [⟨F.SEQ_STATE.ADV_MASK, .RW, 0⟩, ⟨F.SEQ_STATE.RST_MASK, .RW, 0⟩, ⟨F.SEQ_STATE.NEXT, .RW, 0⟩, ⟨F.SEQ_STATE.RST_TO, .RW, 0⟩, ⟨F.SEQ_STATE.QUAL, .RW, 0⟩, ⟨F.SEQ_STATE.ENTRY, .RW, 0⟩, ⟨F.SEQ_STATE.QUAL_VALUE, .RW, 0⟩, ⟨F.SEQ_STATE.CUE_IDX, .RW, 0⟩, ⟨F.SEQ_STATE.TAG, .RW, 0⟩, ⟨F.SEQ_STATE.CUE_DELAY, .RW, 0⟩]
  | .GSEQ_STATE => [⟨F.GSEQ_STATE.ADV_MASK, .RW, 0⟩, ⟨F.GSEQ_STATE.RST_MASK, .RW, 0⟩, ⟨F.GSEQ_STATE.NEXT, .RW, 0⟩, ⟨F.GSEQ_STATE.RST_TO, .RW, 0⟩, ⟨F.GSEQ_STATE.QUAL, .RW, 0⟩, ⟨F.GSEQ_STATE.ENTRY, .RW, 0⟩, ⟨F.GSEQ_STATE.QUAL_VALUE, .RW, 0⟩]
  | .TRG_CURVE => [⟨F.TRG_CURVE.FRAC, .RW, 0⟩]
  | .SCN_CURVE => [⟨F.SCN_CURVE.INDEX, .RW, 0⟩]
  | .SCN_PALETTE => [⟨F.SCN_PALETTE.RGB, .RW, 0⟩]
  | .SCN_CURSOR => [⟨F.SCN_CURSOR.WORD, .RW, 0⟩]
  | .COST => [⟨F.COST.FACTORY, .RO, 0⟩, ⟨F.COST.VALUE, .RO, 0⟩, ⟨F.COST.UPDATES, .RO, 0⟩, ⟨F.COST.UNIT, .RO, 0⟩]
  | .MSIX => [⟨F.MSIX.ADDR, .RW, 0⟩, ⟨F.MSIX.DATA, .RW, 0⟩, ⟨F.MSIX.MASKED, .RW, 1⟩]
  | .MSIX_PBA => [⟨F.MSIX_PBA.PEND, .RO, 0⟩]
  | .HIST => [⟨F.HIST.ROW_EVEN, .RO, 0⟩, ⟨F.HIST.ROW_ODD, .RO, 0⟩]
  | .ACCUM => [⟨F.ACCUM.SUM, .RO, 0⟩]
  | .i_raiseCount => [⟨I.raiseCount, .RO, 0⟩]
  | .i_lastPayload => [⟨I.lastPayload, .RO, 0⟩]
  | .i_levelHeld => [⟨I.levelHeld, .RO, 0⟩]
  | .i_levelHeldFw => [⟨I.levelHeldFw, .RO, 0⟩]
  | .i_ovfBefore => [⟨I.ovfBefore, .RO, 0⟩]
  | .i_coalCount => [⟨I.coalCount, .RO, 0⟩]
  | .i_coalDeadline => [⟨I.coalDeadline, .RO, 0⟩]
  | .i_coalTimed => [⟨I.coalTimed, .RO, 0⟩]
  | .i_msixFuncMask => [⟨I.msixFuncMask, .RO, 0⟩]
  | .i_coreLevel => [⟨I.coreLevel, .RO, 0⟩]
  | .i_coreAsleep => [⟨I.coreAsleep, .RO, 0⟩]
  | .i_cardSuspended => [⟨I.cardSuspended, .RO, 0⟩]
  | .i_linkL0 => [⟨I.linkL0, .RO, 0⟩]
  | .i_settleBlk => [⟨I.settleBlk, .RO, 0⟩]
  | .i_settleTimed => [⟨I.settleTimed, .RO, 0⟩]
  | .i_fadeWait => [⟨I.fadeWait, .RO, 0⟩]
  | .i_fadeTo => [⟨I.fadeTo, .RO, 0⟩]
  | .i_fadeFromPending => [⟨I.fadeFromPending, .RO, 0⟩]
  | .i_fadeLen => [⟨I.fadeLen, .RO, 0⟩]
  | .i_fadeAt => [⟨I.fadeAt, .RO, 0⟩]
  | .i_fadeTouch => [⟨I.fadeTouch, .RO, 0⟩]
  | .i_eqFrom => [⟨I.eqFrom, .RO, 0⟩]
  | .i_eqPrev => [⟨I.eqPrev, .RO, 0⟩]
  | .i_stopAsked => [⟨I.stopAsked, .RO, 0⟩]
  | .i_stopAt => [⟨I.stopAt, .RO, 0⟩]
  | .i_gapLogIdx => [⟨I.gapLogIdx, .RO, 0⟩]
  | .i_remapHold => [⟨I.remapHold, .RO, 0⟩]
  | .i_lgcHold => [⟨I.lgcHold, .RO, 0⟩]
  | .i_lgcComp => [⟨I.lgcComp, .RO, 0⟩]
  | .i_lgcMask => [⟨I.lgcMask, .RO, 0⟩]
  | .i_termA => [⟨I.termA, .RO, 0⟩]
  | .i_termAOn => [⟨I.termAOn, .RO, 0⟩]
  | .i_termARise => [⟨I.termARise, .RO, 0⟩]
  | .i_termB => [⟨I.termB, .RO, 0⟩]
  | .i_termBOn => [⟨I.termBOn, .RO, 0⟩]
  | .i_toutOrg => [⟨I.toutOrg, .RO, 0⟩]
  | .i_toutOn => [⟨I.toutOn, .RO, 0⟩]
  | .i_patKnown => [⟨I.patKnown, .RO, 0⟩]
  | .i_patTrue => [⟨I.patTrue, .RO, 0⟩]
  | .i_patStart => [⟨I.patStart, .RO, 0⟩]
  | .i_seqEntry => [⟨I.seqEntry, .RO, 0⟩]
  | .i_seqCount => [⟨I.seqCount, .RO, 0⟩]
  | .i_seqFrom => [⟨I.seqFrom, .RO, 0⟩]
  | .i_autoOrigin => [⟨I.autoOrigin, .RO, 0⟩]
  | .i_deadBlk => [⟨I.deadBlk, .RO, 0⟩]
  | .i_seqEntryBlk => [⟨I.seqEntryBlk, .RO, 0⟩]
  | .i_patView => [⟨I.patView, .RO, 0⟩]
  | .i_patState => [⟨I.patState, .RO, 0⟩]
  | .i_patUnres => [⟨I.patUnres, .RO, 0⟩]
  | .i_termFrom => [⟨I.termFrom, .RO, 0⟩]
  | .i_holdEnd => [⟨I.holdEnd, .RO, 0⟩]
  | .i_holdTimed => [⟨I.holdTimed, .RO, 0⟩]
  | .i_holdLeft => [⟨I.holdLeft, .RO, 0⟩]
  | .i_discards => [⟨I.discards, .RO, 0⟩]
  | .i_runLate => [⟨I.runLate, .RO, 0⟩]
  | .i_runCoin => [⟨I.runCoin, .RO, 0⟩]
  | .i_runTaken => [⟨I.runTaken, .RO, 0⟩]
  | .i_runOther => [⟨I.runOther, .RO, 0⟩]
  | .i_trigTotal => [⟨I.trigTotal, .RO, 0⟩]
  | .i_accFrames => [⟨I.accFrames, .RO, 0⟩]
  | .i_accWas => [⟨I.accWas, .RO, 0⟩]
  | .i_accWasAt => [⟨I.accWasAt, .RO, 0⟩]
  | .i_accDecayAt => [⟨I.accDecayAt, .RO, 0⟩]
  | .i_loopCorr => [⟨I.loopCorr, .RO, 0⟩]
  | .i_ovenOn => [⟨I.ovenOn, .RO, 0⟩]
  | .i_ovenSaved => [⟨I.ovenSaved, .RO, 0⟩]
  | .i_refitCount => [⟨I.refitCount, .RO, 0⟩]
  | .i_refitAt => [⟨I.refitAt, .RO, 0⟩]
  | .i_gainTap => [⟨I.gainTap, .RO, 32⟩]
  | .i_loopUs => [⟨I.loopUs, .RO, 0⟩]
  | .i_sliceTmo => [⟨I.sliceTmo, .RO, 0⟩]
  | .i_biasBase => [⟨I.biasBase, .RO, 0⟩]
  | .i_cardSuff => [⟨I.cardSuff, .RO, 0⟩]
  | .i_cardAt => [⟨I.cardAt, .RO, 0⟩]
  | .i_cardInt => [⟨I.cardInt, .RO, 1000⟩]
  | .i_starveAt => [⟨I.starveAt, .RO, 0⟩]
  | .i_starveLeft => [⟨I.starveLeft, .RO, 1600000000000⟩]
  | .i_testDom => [⟨I.testDom, .RO, 0⟩]
  | .i_combAt => [⟨I.combAt, .RO, 0⟩]
  | .i_calOpen => [⟨I.calOpen, .RO, 0⟩]
  | .i_testDone => [⟨I.testDone, .RO, 0⟩]
  | .i_atbBy => [⟨I.atbBy, .RO, 0⟩]
  | .i_combOpen => [⟨I.combOpen, .RO, 0⟩]
  | .i_combEnding => [⟨I.combEnding, .RO, 0⟩]
  | .i_combCode => [⟨I.combCode, .RO, 0⟩]
  | .i_combStore => [⟨I.combStore, .RO, 0⟩]
  | .i_storeSlot => [⟨I.storeSlot, .RO, 2⟩]
  | .i_storeCommitted => [⟨I.storeCommitted, .RO, 0⟩]
  | .i_storeCommitAt => [⟨I.storeCommitAt, .RO, 0⟩]
  | .i_storeAdmitted => [⟨I.storeAdmitted, .RO, 0⟩]
  | .i_retireAt => [⟨I.retireAt, .RO, 0⟩]
  | .i_swapBlk => [⟨I.swapBlk, .RO, 0⟩]
  | .i_swapSeg => [⟨I.swapSeg, .RO, 0⟩]
  | .i_swapDone => [⟨I.swapDone, .RO, 0⟩]
  | .i_edgeSince => [⟨I.edgeSince, .RO, 0⟩]
  | .i_tmoAt => [⟨I.tmoAt, .RO, 0⟩]
  | .i_rtTraining => [⟨I.rtTraining, .RO, 0⟩]
  | .i_phaseOrg => [⟨I.phaseOrg, .RO, 0⟩]
  | .i_refEdge => [⟨I.refEdge, .RO, 0⟩]
  | .i_inOn => [⟨I.inOn, .RO, 0⟩]
  | .i_inSince => [⟨I.inSince, .RO, 0⟩]
  | .i_pullAt => [⟨I.pullAt, .RO, 0⟩]
  | .i_ovenFirst => [⟨I.ovenFirst, .RO, 0⟩]
  | .i_dtFrac => [⟨I.dtFrac, .RO, 0⟩]
  | .i_refitPt => [⟨I.refitPt, .RO, 0⟩]
  | .i_synClk => [⟨I.synClk, .RO, 0⟩]
  | .i_rampStart => [⟨I.rampStart, .RO, 0⟩]
  | .i_cueSince => [⟨I.cueSince, .RO, 0⟩]
  | .i_coefA => [⟨I.coefA, .RO, 0⟩]
  | .i_coefB => [⟨I.coefB, .RO, 0⟩]
  | .i_coefTau => [⟨I.coefTau, .RO, 0⟩]
  | .i_factoryTrim => [⟨I.factoryTrim, .RO, 0⟩]
  | .i_rampFrom => [⟨I.rampFrom, .RO, 0⟩]
  | .i_rampBase => [⟨I.rampBase, .RO, 0⟩]
  | .i_auxLoss => [⟨I.auxLoss, .RO, 0⟩]
  | .i_synFails => [⟨I.synFails, .RO, 0⟩]
  | .i_settleAt => [⟨I.settleAt, .RO, 0⟩]
  | .i_ovldStart => [⟨I.ovldStart, .RO, 0⟩]
  | .i_ovldClear => [⟨I.ovldClear, .RO, 0⟩]
  | .i_ovldSeen => [⟨I.ovldSeen, .RO, 0⟩]
  | .i_bobAt => [⟨I.bobAt, .RO, 0⟩]
  | .i_scrubFixed => [⟨I.scrubFixed, .RO, 0⟩]
  | .i_scrubPos => [⟨I.scrubPos, .RO, 0⟩]
  | .i_engRetired => [⟨I.engRetired, .RO, 0⟩]
  | .i_bankRetired => [⟨I.bankRetired, .RO, 0⟩]
  | .i_cmpRetired => [⟨I.cmpRetired, .RO, 0⟩]
  | .i_sramCopyAt => [⟨I.sramCopyAt, .RO, 0⟩]
  | .i_laneAt => [⟨I.laneAt, .RO, 0⟩]
  | .i_laneSpare => [⟨I.laneSpare, .RO, 0⟩]
  | .i_heldOn => [⟨I.heldOn, .RO, 0⟩]
  | .i_heldTicks => [⟨I.heldTicks, .RO, 0⟩]
  | .i_coreStack => [⟨I.coreStack, .RO, 0⟩]
  | .i_coreDepth => [⟨I.coreDepth, .RO, 0⟩]
  | .i_coreAt => [⟨I.coreAt, .RO, 0⟩]
  | .i_coreFetch => [⟨I.coreFetch, .RO, 0⟩]
  | .i_coreOut => [⟨I.coreOut, .RO, 0⟩]
  | .i_coreWoke => [⟨I.coreWoke, .RO, 0⟩]
  | .i_coreReq => [⟨I.coreReq, .RO, 0⟩]
  | .i_coreReqQ => [⟨I.coreReqQ, .RO, 0⟩]
  | .i_modeMw => [⟨I.modeMw, .RO, 0⟩]
  | .i_wakeOn => [⟨I.wakeOn, .RO, 0⟩]
  | .i_wakeAt => [⟨I.wakeAt, .RO, 0⟩]
  | .i_wakeHeld => [⟨I.wakeHeld, .RO, 0⟩]
  | .i_wakeUnit => [⟨I.wakeUnit, .RO, 0⟩]
  | .i_wakeDie => [⟨I.wakeDie, .RO, 0⟩]
  | .i_modeCause => [⟨I.modeCause, .RO, 0⟩]
  | .i_wakePin => [⟨I.wakePin, .RO, 0⟩]
  | .i_linkDeep => [⟨I.linkDeep, .RO, 0⟩]
  | .i_periodNo => [⟨I.periodNo, .RO, 0⟩]
  | .i_cmpIn => [⟨I.cmpIn, .RO, 0⟩]
  | .i_cmpPower => [⟨I.cmpPower, .RO, 0⟩]
  | .i_cmpStart => [⟨I.cmpStart, .RO, 0⟩]
  | .i_cmpSettleDt => [⟨I.cmpSettleDt, .RO, 0⟩]
  | .i_cmpBlankDt => [⟨I.cmpBlankDt, .RO, 0⟩]
  | .i_lgcStart => [⟨I.lgcStart, .RO, 0⟩]
  | .i_lgcMaskAt => [⟨I.lgcMaskAt, .RO, 0⟩]
  | .i_lgcOff => [⟨I.lgcOff, .RO, 0⟩]
  | .i_lgcOffAt => [⟨I.lgcOffAt, .RO, 0⟩]
  | .i_timAct => [⟨I.timAct, .RO, 0⟩]
  | .i_timPend => [⟨I.timPend, .RO, 0⟩]
  | .i_scnFirst => [⟨I.scnFirst, .RO, 0⟩]
  | .i_scnRetrain => [⟨I.scnRetrain, .RO, 0⟩]
  | .i_ctlAct => [⟨I.ctlAct, .RO, 912⟩]
  | .i_bgAct => [⟨I.bgAct, .RO, 0⟩]
  | .i_curAct => [⟨I.curAct, .RO, 0⟩]
  | .i_wfAct => [⟨I.wfAct, .RO, 0⟩]
  | .i_curveAct => [⟨I.curveAct, .RO, 0⟩]
  | .i_palAct => [⟨I.palAct, .RO, 0⟩]
  | .i_imageAct => [⟨I.imageAct, .RO, 0⟩]
  | .i_ovlAct => [⟨I.ovlAct, .RO, 0⟩]
  | .i_firedAt => [⟨I.firedAt, .RO, 0⟩]
  | .i_mbxTook => [⟨I.mbxTook, .RO, 0⟩]
  | .i_mbxTurn => [⟨I.mbxTurn, .RO, 0⟩]
  | .i_farEven => [⟨I.farEven, .RO, 0⟩]
  | .i_farOdd => [⟨I.farOdd, .RO, 0⟩]
  | .i_frwHold => [⟨I.frwHold, .RO, 0⟩]
  | .i_frwHist => [⟨I.frwHist, .RO, 0⟩]
  | .i_refAwait => [⟨I.refAwait, .RO, 0⟩]
  | .i_joinDone => [⟨I.joinDone, .RO, 0⟩]
  | .i_svcEcho => [⟨I.svcEcho, .RO, 1⟩]
  | .i_svcChalOn => [⟨I.svcChalOn, .RO, 0⟩]
  | .i_svcChalAt => [⟨I.svcChalAt, .RO, 0⟩]
  | .i_svcChal => [⟨I.svcChal, .RO, 0⟩]
  | .i_svcWrongN => [⟨I.svcWrongN, .RO, 0⟩]
  | .i_svcWrongAt => [⟨I.svcWrongAt, .RO, 0⟩]
  | .i_svcLockAt => [⟨I.svcLockAt, .RO, 0⟩]
  | .i_svcBaudWait => [⟨I.svcBaudWait, .RO, 0⟩]
  | .i_svcBaudAt => [⟨I.svcBaudAt, .RO, 0⟩]
  | .i_svcTestWait => [⟨I.svcTestWait, .RO, 0⟩]
  | .i_svcTestAt => [⟨I.svcTestAt, .RO, 0⟩]
  | .i_svcMeterAt => [⟨I.svcMeterAt, .RO, 0⟩]
  | .i_svcAtbSave => [⟨I.svcAtbSave, .RO, 0⟩]
  | .i_svcForced => [⟨I.svcForced, .RO, 0⟩]
  | .i_tapIr => [⟨I.tapIr, .RO, 1⟩]
  | .i_bootStep => [⟨I.bootStep, .RO, 0⟩]
  | .i_bootAt => [⟨I.bootAt, .RO, 0⟩]
  | .i_bootSelf => [⟨I.bootSelf, .RO, 0⟩]
  | .i_bootImg => [⟨I.bootImg, .RO, 0⟩]
  | .i_bootFault => [⟨I.bootFault, .RO, 0⟩]
  | .i_thermHold => [⟨I.thermHold, .RO, 0⟩]
  | .i_flashMbit => [⟨I.flashMbit, .RO, 0⟩]
  | .i_sfdpRev => [⟨I.sfdpRev, .RO, 0⟩]
  | .i_fwJob => [⟨I.fwJob, .RO, 0⟩]
  | .i_skEcho => [⟨I.skEcho, .RO, 0⟩]
  | .i_skEchoN => [⟨I.skEchoN, .RO, 0⟩]
  | .i_skEchoPos => [⟨I.skEchoPos, .RO, 0⟩]
  | .i_skEchoId => [⟨I.skEchoId, .RO, 0⟩]
  | .i_skEchoT1 => [⟨I.skEchoT1, .RO, 0⟩]
  | .i_skEchoWait => [⟨I.skEchoWait, .RO, 0⟩]
  | .i_skPrev => [⟨I.skPrev, .RO, 0⟩]
  | .i_skPrevOn => [⟨I.skPrevOn, .RO, 0⟩]
  | .i_skViol => [⟨I.skViol, .RO, 0⟩]
  | .i_skViolN => [⟨I.skViolN, .RO, 0⟩]
  | .i_skViolPos => [⟨I.skViolPos, .RO, 0⟩]
  | .i_skMiss => [⟨I.skMiss, .RO, 0⟩]
  | .i_skBcast => [⟨I.skBcast, .RO, 0⟩]
  | .i_skAck => [⟨I.skAck, .RO, 0⟩]
  | .i_skPath => [⟨I.skPath, .RO, 0⟩]
  | .i_skHop => [⟨I.skHop, .RO, 0⟩]
  | .i_skCause => [⟨I.skCause, .RO, 0⟩]
  | .i_skSeen => [⟨I.skSeen, .RO, 0⟩]
  | .i_skAlign => [⟨I.skAlign, .RO, 0⟩]
  | .i_skMeas => [⟨I.skMeas, .RO, 0⟩]
  | .i_skBelow => [⟨I.skBelow, .RO, 0⟩]
  | .i_skSent => [⟨I.skSent, .RO, 0⟩]
  | .i_skEchoGot => [⟨I.skEchoGot, .RO, 0⟩]
  | .i_skEchoAt => [⟨I.skEchoAt, .RO, 0⟩]
  | .i_skErrSum => [⟨I.skErrSum, .RO, 0⟩]
  | .i_skErrN => [⟨I.skErrN, .RO, 0⟩]
  | .i_gsEntry => [⟨I.gsEntry, .RO, 0⟩]
  | .i_gsCount => [⟨I.gsCount, .RO, 0⟩]
  | .i_gsDead => [⟨I.gsDead, .RO, 0⟩]
  | .i_gsHold => [⟨I.gsHold, .RO, 0⟩]
  | .i_gsCoin => [⟨I.gsCoin, .RO, 0⟩]
  | .i_gsLate => [⟨I.gsLate, .RO, 0⟩]
  | .i_gsTaken => [⟨I.gsTaken, .RO, 0⟩]
  | .i_gsOther => [⟨I.gsOther, .RO, 0⟩]
  | .i_gtSeq => [⟨I.gtSeq, .RO, 0⟩]
  | .i_gtOn => [⟨I.gtOn, .RO, 0⟩]
  | .i_gtDt => [⟨I.gtDt, .RO, 0⟩]
  | .i_gtInfo => [⟨I.gtInfo, .RO, 0⟩]
  | .i_imgVersion => [⟨I.imgVersion, .RO, 0⟩]
  | .i_imgBuild => [⟨I.imgBuild, .RO, 0⟩]
  | .i_svcMeterN => [⟨I.svcMeterN, .RO, 0⟩]
  | .i_libArmed => [⟨I.libArmed, .RO, 0⟩]
  | .i_libStepped => [⟨I.libStepped, .RO, 0⟩]
  | .i_libStepAt => [⟨I.libStepAt, .RO, 0⟩]

/-- The place of each register in BAR0; an internal register has none. -/
def Reg.layout : Reg → Option Layout
  | .XTO_STATUS => some ⟨0x30000, [], 1, true⟩
  | .XTO_REF_CTRL => some ⟨0x30004, [], 1, true⟩
  | .XTO_PHASE_ERR => some ⟨0x30008, [], 1, true⟩
  | .XTO_PULL => some ⟨0x3000C, [], 1, true⟩
  | .XTO_STEP_TICKS => some ⟨0x30010, [], 2, true⟩
  | .XTO_STEP_FRAC => some ⟨0x30018, [], 1, true⟩
  | .XTO_STEP_AT => some ⟨0x30020, [], 2, true⟩
  | .SYN_CTRL => some ⟨0x40000, [], 1, false⟩
  | .SYN_STATUS => some ⟨0x40004, [], 1, false⟩
  | .SYN_DRIFT => some ⟨0x40008, [], 1, false⟩
  | .SYN_OFFSET => some ⟨0x4000C, [], 1, false⟩
  | .SYN_RAMP_END => some ⟨0x40100, [(8, 64)], 1, false⟩
  | .SYN_RAMP_DUR => some ⟨0x40104, [(8, 64)], 1, false⟩
  | .SYN_ALIAS => some ⟨0x40400, [(4, 2)], 1, false⟩
  | .AUX_CTRL => some ⟨0x50000, [], 1, false⟩
  | .AUX_STATUS => some ⟨0x50004, [], 1, false⟩
  | .CLD_DT_SNAP => some ⟨0x60000, [], 1, false⟩
  | .CLD_DT_TICKS => some ⟨0x60008, [], 2, false⟩
  | .CLD_STATUS => some ⟨0x60014, [], 1, false⟩
  | .CLD_LATE_COUNT => some ⟨0x60018, [], 1, false⟩
  | .CNV_CTRL => some ⟨0x80000, [(4096, 2)], 1, false⟩
  | .CNV_STATUS => some ⟨0x80004, [(4096, 2)], 1, false⟩
  | .CNV_OVLD_COUNT => some ⟨0x80008, [(4096, 2)], 1, false⟩
  | .CNV_CLIP_COUNT => some ⟨0x8000C, [(4096, 2)], 1, false⟩
  | .CNV_SLICE_MAP => some ⟨0x80100, [(4096, 2), (4, 8)], 1, false⟩
  | .CNV_BIAS => some ⟨0x80400, [(4096, 2), (4, 136)], 1, false⟩
  | .CNV_DIE_STATUS => some ⟨0x82000, [], 1, false⟩
  | .CRD_CTRL => some ⟨0xA0000, [(4096, 2)], 1, false⟩
  | .CRD_SUFF => some ⟨0xA0004, [(4096, 2)], 1, false⟩
  | .CRD_TOL => some ⟨0xA0008, [(4096, 2)], 1, false⟩
  | .CRD_TIMEOUT => some ⟨0xA000C, [(4096, 2)], 1, false⟩
  | .CRD_STATUS => some ⟨0xA0010, [(4096, 2)], 1, false⟩
  | .CRD_SUFF_COUNT => some ⟨0xA0014, [(4096, 2)], 1, false⟩
  | .CRD_INSUFF_COUNT => some ⟨0xA0018, [(4096, 2)], 1, false⟩
  | .CRD_COMB_CMD => some ⟨0xA0020, [(4096, 2)], 1, false⟩
  | .CRD_COMB_STATUS => some ⟨0xA0024, [(4096, 2)], 1, false⟩
  | .CRD_TRIM => some ⟨0xA0400, [(4096, 2), (4, 136)], 1, false⟩
  | .CRD_SLICE_STAT => some ⟨0xA0800, [(4096, 2), (4, 136)], 1, false⟩
  | .CRD_STORE_CTRL => some ⟨0xA2000, [], 1, true⟩
  | .CRD_STORE_STATUS => some ⟨0xA2004, [], 1, true⟩
  | .CRD_STORE_GEN => some ⟨0xA2008, [], 1, true⟩
  | .EQ_CTRL => some ⟨0xC0000, [(4096, 2)], 1, false⟩
  | .EQ_STATUS => some ⟨0xC0004, [(4096, 2)], 1, false⟩
  | .EQ_SAT_COUNT => some ⟨0xC0008, [(4096, 2)], 1, false⟩
  | .EQ_COEF => some ⟨0x1400000, [(4096, 2), (128, 2), (4, 32)], 1, false⟩
  | .DEC_CTRL => some ⟨0xD0000, [(4096, 2)], 1, false⟩
  | .DEC_RATIO => some ⟨0xD0004, [(4096, 2)], 1, false⟩
  | .DEC_STATUS => some ⟨0xD0008, [(4096, 2)], 1, false⟩
  | .DEC_SAT_COUNT => some ⟨0xD000C, [(4096, 2)], 1, false⟩
  | .FIR_CTRL => some ⟨0xE0000, [(4096, 2)], 1, false⟩
  | .FIR_STATUS => some ⟨0xE0004, [(4096, 2)], 1, false⟩
  | .FIR_COEF => some ⟨0x1420000, [(4096, 2), (1024, 2), (4, 256)], 1, false⟩
  | .RSM_CTRL => some ⟨0xF0000, [(4096, 2)], 1, false⟩
  | .RSM_STATUS => some ⟨0xF0004, [(4096, 2)], 1, false⟩
  | .RSM_RATIO => some ⟨0xF0008, [(4096, 2)], 2, false⟩
  | .RSM_SAT_COUNT => some ⟨0xF0010, [(4096, 2)], 1, false⟩
  | .TRG_CH_CFG => some ⟨0x100000, [(4096, 2)], 1, false⟩
  | .TRG_LEVEL => some ⟨0x100400, [(4096, 2), (16, 4)], 1, false⟩
  | .TRG_LEVEL_STAT => some ⟨0x100404, [(4096, 2), (16, 4)], 1, false⟩
  | .TRG_CTRL => some ⟨0x102000, [], 1, false⟩
  | .TRG_STATUS => some ⟨0x102004, [], 1, false⟩
  | .TRG_TERM_CFG => some ⟨0x103000, [(32, 12)], 1, false⟩
  | .TRG_TERM_T1 => some ⟨0x103008, [(32, 12)], 2, false⟩
  | .TRG_TERM_T2 => some ⟨0x103010, [(32, 12)], 2, false⟩
  | .TRG_PAT_ANA => some ⟨0x103018, [(32, 12)], 1, false⟩
  | .TRG_PAT_LOG => some ⟨0x10301C, [(32, 12)], 1, false⟩
  | .TRG_TERM_COUNT => some ⟨0x103400, [(4, 12)], 1, false⟩
  | .TRG_TERM_SNAP => some ⟨0x103440, [(4, 12)], 1, false⟩
  | .TRG_SEQ_CTRL => some ⟨0x104000, [(256, 2)], 1, false⟩
  | .TRG_SEQ_STATUS => some ⟨0x104004, [(256, 2)], 1, false⟩
  | .TRG_AUTO_TIMEOUT => some ⟨0x104008, [(256, 2)], 2, false⟩
  | .TRG_HOLDOFF => some ⟨0x104010, [(256, 2)], 2, false⟩
  | .TRG_FORCE => some ⟨0x104018, [(256, 2)], 1, false⟩
  | .TRG_LAST => some ⟨0x104020, [(256, 2)], 5, false⟩
  | .TRG_TRIG_COUNT => some ⟨0x104038, [(256, 2)], 1, false⟩
  | .TRG_COINC_COUNT => some ⟨0x10403C, [(256, 2)], 1, false⟩
  | .TRG_DISCARD_COUNT => some ⟨0x104040, [(256, 2)], 1, false⟩
  | .TRG_FORCE_DROP_COUNT => some ⟨0x104044, [(256, 2)], 1, false⟩
  | .TRG_TRIG_SNAP => some ⟨0x104048, [(256, 2)], 1, false⟩
  | .ACQ_CTRL => some ⟨0x120000, [(4096, 3)], 1, false⟩
  | .ACQ_CMD => some ⟨0x120004, [(4096, 3)], 1, false⟩
  | .ACQ_STATUS => some ⟨0x120008, [(4096, 3)], 1, false⟩
  | .ACQ_SEG_LEN => some ⟨0x120010, [(4096, 3)], 2, false⟩
  | .ACQ_NSEG => some ⟨0x120018, [(4096, 3)], 1, false⟩
  | .ACQ_PRE => some ⟨0x120020, [(4096, 3)], 2, false⟩
  | .ACQ_POST => some ⟨0x120028, [(4096, 3)], 2, false⟩
  | .ACQ_SPILL_BUF => some ⟨0x120030, [(4096, 3)], 1, false⟩
  | .ACQ_SEG_COUNT => some ⟨0x120038, [(4096, 3)], 2, false⟩
  | .ACQ_SKIP_COUNT => some ⟨0x120040, [(4096, 3)], 1, false⟩
  | .ACQ_OPEN_SLOT => some ⟨0x120044, [(4096, 3)], 1, false⟩
  | .MEM_STATUS => some ⟨0x140000, [(4096, 2)], 1, false⟩
  | .MEM_DEPTH => some ⟨0x140004, [(4096, 2)], 1, false⟩
  | .MEM_UE_COUNT => some ⟨0x140008, [(4096, 2)], 1, false⟩
  | .MEM_UE_ADDR => some ⟨0x140010, [(4096, 2)], 2, false⟩
  | .MEM_SCRUB_STATUS => some ⟨0x140018, [(4096, 2)], 1, false⟩
  | .MEM_SCRUB_CE => some ⟨0x14001C, [(4096, 2)], 1, false⟩
  | .MEM_PC_MAP => some ⟨0x140100, [(4096, 2), (4, 31)], 1, false⟩
  | .MEM_PC_STAT => some ⟨0x140200, [(4096, 2), (4, 32)], 1, false⟩
  | .MEM_PC_CE => some ⟨0x140300, [(4096, 2), (4, 32)], 1, false⟩
  | .MEM_WIN => some ⟨0x142000, [], 1, false⟩
  | .STR_CTRL => some ⟨0x150000, [(4096, 3)], 1, false⟩
  | .STR_DATA_RING => some ⟨0x150004, [(4096, 3)], 1, false⟩
  | .STR_AUX_RINGS => some ⟨0x150008, [(4096, 3)], 1, false⟩
  | .STR_STATUS => some ⟨0x15000C, [(4096, 3)], 1, false⟩
  | .STR_INDEX => some ⟨0x150010, [(4096, 3)], 2, false⟩
  | .STR_FILL => some ⟨0x150018, [(4096, 3)], 1, false⟩
  | .STR_MARK_SEQ => some ⟨0x15001C, [(4096, 3)], 1, false⟩
  | .STR_GAP_SEQ => some ⟨0x150020, [(4096, 3)], 1, false⟩
  | .STR_MARK_LOST_COUNT => some ⟨0x150024, [(4096, 3)], 1, false⟩
  | .ACC_CTRL => some ⟨0x160000, [(4096, 2)], 1, false⟩
  | .ACC_CMD => some ⟨0x160004, [(4096, 2)], 1, false⟩
  | .ACC_STATUS => some ⟨0x160008, [(4096, 2)], 1, false⟩
  | .ACC_AVG_COUNT => some ⟨0x16000C, [(4096, 2)], 1, false⟩
  | .ACC_AVG_DONE => some ⟨0x160010, [(4096, 2)], 1, false⟩
  | .ACC_AVG_BATCH => some ⟨0x160014, [(4096, 2)], 1, false⟩
  | .ACC_AVG_START => some ⟨0x160018, [(4096, 2)], 2, false⟩
  | .ACC_AVG_LEN => some ⟨0x160020, [(4096, 2)], 1, false⟩
  | .ACC_HIST_X_ORIGIN => some ⟨0x160028, [(4096, 2)], 2, false⟩
  | .ACC_HIST_X_STEP => some ⟨0x160030, [(4096, 2)], 2, false⟩
  | .ACC_HIST_Y => some ⟨0x160038, [(4096, 2)], 1, false⟩
  | .ACC_DECAY => some ⟨0x16003C, [(4096, 2)], 1, false⟩
  | .ACC_FRAME_PERIOD => some ⟨0x160040, [(4096, 2)], 1, false⟩
  | .ACC_EXCL => some ⟨0x160044, [(4096, 2)], 1, false⟩
  | .ACC_RATE_CAP => some ⟨0x160048, [(4096, 2)], 1, false⟩
  | .ACC_AVG_INCOMPLETE => some ⟨0x16004C, [(4096, 2)], 1, false⟩
  | .ACC_HIST_ACQ => some ⟨0x160050, [(4096, 2)], 2, false⟩
  | .ACC_SKIP => some ⟨0x160060, [(4096, 2), (4, 5)], 1, false⟩
  | .SCN_CTRL => some ⟨0x180000, [], 1, true⟩
  | .SCN_STATUS => some ⟨0x180004, [], 1, false⟩
  | .SCN_FRAME => some ⟨0x180008, [], 1, false⟩
  | .SCN_BG => some ⟨0x18000C, [], 1, true⟩
  | .SCN_LINK_CFG => some ⟨0x180010, [], 1, false⟩
  | .SCN_UNDERRUN_COUNT => some ⟨0x180014, [], 1, false⟩
  | .SCN_TIM_H => some ⟨0x180020, [], 1, true⟩
  | .SCN_TIM_HS => some ⟨0x180024, [], 1, true⟩
  | .SCN_TIM_V => some ⟨0x180028, [], 1, true⟩
  | .SCN_TIM_VS => some ⟨0x18002C, [], 1, true⟩
  | .SCN_TIM_PCLK => some ⟨0x180030, [], 1, true⟩
  | .SCN_TIM_CTRL => some ⟨0x180034, [], 1, true⟩
  | .SCN_CUR_POS => some ⟨0x180040, [], 1, true⟩
  | .SCN_CUR_CTRL => some ⟨0x180044, [], 1, true⟩
  | .SCN_WF_CFG => some ⟨0x180100, [(16, 4)], 1, true⟩
  | .SCN_WF_POS => some ⟨0x180104, [(16, 4)], 1, true⟩
  | .SCN_WF_SIZE => some ⟨0x180108, [(16, 4)], 1, true⟩
  | .SCN_OVL_CTRL => some ⟨0x180200, [(32, 3)], 1, false⟩
  | .SCN_OVL_ADDR => some ⟨0x180204, [(32, 3)], 2, false⟩
  | .SCN_OVL_STRIDE => some ⟨0x18020C, [(32, 3)], 1, false⟩
  | .SCN_OVL_FLIP => some ⟨0x180210, [(32, 3)], 1, false⟩
  | .SCN_OVL_STAT => some ⟨0x180214, [(32, 3)], 1, false⟩
  | .SCN_FAULT_FRAME => some ⟨0x180218, [(32, 3)], 1, false⟩
  | .FRW_CTRL => some ⟨0x190000, [], 1, false⟩
  | .FRW_STATUS => some ⟨0x190004, [], 1, false⟩
  | .FRW_CRC => some ⟨0x190008, [], 1, false⟩
  | .LGC_CH_CFG => some ⟨0x1A0000, [(16, 16)], 1, false⟩
  | .LGC_SUPPRESS_COUNT => some ⟨0x1A0004, [(16, 16)], 1, false⟩
  | .LGC_CTRL => some ⟨0x1A0100, [], 1, false⟩
  | .LGC_STATE => some ⟨0x1A0104, [], 1, false⟩
  | .LGC_STATUS => some ⟨0x1A0108, [], 1, false⟩
  | .TIM_CTRL => some ⟨0x1B0000, [(256, 8)], 1, false⟩
  | .TIM_START_SRC => some ⟨0x1B0004, [(256, 8)], 1, false⟩
  | .TIM_STOP_SRC => some ⟨0x1B0008, [(256, 8)], 1, false⟩
  | .TIM_GATE => some ⟨0x1B000C, [(256, 8)], 1, false⟩
  | .TIM_N => some ⟨0x1B0010, [(256, 8)], 1, false⟩
  | .TIM_CUE => some ⟨0x1B0020, [(256, 8), (16, 2)], 3, false⟩
  | .TIM_STATUS => some ⟨0x1B0040, [(256, 8)], 1, false⟩
  | .TIM_IGN_STOP => some ⟨0x1B0044, [(256, 8)], 1, false⟩
  | .TIM_IGN_START => some ⟨0x1B0048, [(256, 8)], 1, false⟩
  | .TIM_SUPPRESS => some ⟨0x1B004C, [(256, 8)], 1, false⟩
  | .TIM_TOTAL => some ⟨0x1B0050, [(256, 8)], 2, false⟩
  | .TIM_SNAP => some ⟨0x1B0058, [(256, 8)], 2, false⟩
  | .TIM_RES => some ⟨0x1B0080, [(256, 8), (4, 8)], 1, false⟩
  | .CMP_CTRL => some ⟨0x1C0000, [(32, 12)], 1, false⟩
  | .CMP_THRESH => some ⟨0x1C0004, [(32, 12)], 1, false⟩
  | .CMP_BLANK => some ⟨0x1C0008, [(32, 12)], 1, false⟩
  | .CMP_STATUS => some ⟨0x1C000C, [(32, 12)], 1, false⟩
  | .CMP_COUNT => some ⟨0x1C0010, [(32, 12)], 1, false⟩
  | .CMP_BLANK_COUNT => some ⟨0x1C0014, [(32, 12)], 1, false⟩
  | .CMP_SNAP => some ⟨0x1C0018, [(32, 12)], 1, false⟩
  | .CMP_BLANK_TMR => some ⟨0x1C0400, [(4, 2)], 1, false⟩
  | .CMP_WIN => some ⟨0x1C0500, [(4, 4)], 1, false⟩
  | .CMP_SPARE_MAP => some ⟨0x1C0600, [], 1, false⟩
  | .QUE_BASE => some ⟨0x200000, [(64, 8192)], 2, false⟩
  | .QUE_CFG => some ⟨0x200008, [(64, 8192)], 1, false⟩
  | .QUE_STATUS => some ⟨0x20000C, [(64, 8192)], 1, false⟩
  | .QUE_PTR => some ⟨0x200010, [(64, 8192)], 1, false⟩
  | .QUE_IRQ => some ⟨0x200014, [(64, 8192)], 1, false⟩
  | .QUE_COAL => some ⟨0x200018, [(64, 8192)], 1, false⟩
  | .QUE_LOST => some ⟨0x20001C, [(64, 8192)], 1, false⟩
  | .QUE_WB => some ⟨0x200020, [(64, 8192)], 2, false⟩
  | .QUE_AUX => some ⟨0x200028, [(64, 8192)], 2, false⟩
  | .DBL => some ⟨0x300000, [(64, 8192)], 1, false⟩
  | .EVC_PEND => some ⟨0x1D0000, [(4, 8)], 1, false⟩
  | .EVC_MASK => some ⟨0x1D0020, [(4, 8)], 1, false⟩
  | .EVC_RAISE => some ⟨0x1D0040, [], 1, false⟩
  | .EVC_STATUS => some ⟨0x1D0044, [], 1, false⟩
  | .EVC_DST_WAKE => some ⟨0x1D0050, [(4, 2)], 1, false⟩
  | .EVC_ROUTE => some ⟨0x1D0100, [(4, 256)], 1, false⟩
  | .MBX_URG_CMD => some ⟨0x400000, [(4, 16)], 1, false⟩
  | .MBX_URG_RSP => some ⟨0x400040, [(4, 16)], 1, false⟩
  | .MBX_URG_CTRL => some ⟨0x400080, [], 1, false⟩
  | .MBX_URG_STATUS => some ⟨0x400084, [], 1, false⟩
  | .MBX_STATUS => some ⟨0x400088, [], 1, false⟩
  | .MBX_VLOG_NEXT => some ⟨0x400090, [], 1, false⟩
  | .MBX_VLOG_TOTAL => some ⟨0x400094, [], 1, false⟩
  | .MBX_RING_STAT => some ⟨0x400200, [(4, 128)], 1, false⟩
  | .MBX_VLOG => some ⟨0x401000, [(16, 256), (4, 4)], 1, false⟩
  | .PWR_MODE => some ⟨0x10000, [], 1, false⟩
  | .PWR_DOMAIN => some ⟨0x10010, [(4, 2)], 1, false⟩
  | .PWR_WAKE_CTRL => some ⟨0x10020, [], 1, true⟩
  | .PWR_WAKE_DT => some ⟨0x10028, [], 2, true⟩
  | .PWR_WAKE_CAUSE => some ⟨0x10030, [], 1, true⟩
  | .PWR_STATUS => some ⟨0x10034, [], 1, false⟩
  | .PWR_RAIL => some ⟨0x10100, [(4, 12)], 1, false⟩
  | .PWR_TEMP => some ⟨0x10200, [(4, 9)], 1, false⟩
  | .HVS_ALLOW => some ⟨0x20000, [], 1, true⟩
  | .HVS_CAP => some ⟨0x20004, [], 1, true⟩
  | .HVS_BUDGET => some ⟨0x20008, [], 1, true⟩
  | .HVS_LEDGER => some ⟨0x20010, [(4, 3)], 1, true⟩
  | .HVS_SHARE => some ⟨0x20020, [(8, 2), (4, 2)], 1, true⟩
  | .HVS_STATUS => some ⟨0x20030, [], 1, true⟩
  | .HVS_REFUSE_COUNT => some ⟨0x20034, [], 1, true⟩
  | .HVS_DEFER_COUNT => some ⟨0x20038, [], 1, true⟩
  | .BOB_CTRL => some ⟨0x410000, [], 1, true⟩
  | .BOB_THRESH => some ⟨0x410004, [], 1, true⟩
  | .BOB_STATUS => some ⟨0x410010, [], 1, false⟩
  | .BOB_RETIRED => some ⟨0x410014, [], 1, false⟩
  | .BOB_ACTIVE => some ⟨0x410018, [], 1, false⟩
  | .BOB_SPL_LANES => some ⟨0x410020, [], 1, false⟩
  | .BOB_SPL_MARGIN => some ⟨0x410100, [(4, 28)], 1, false⟩
  | .BOB_SRAM => some ⟨0x410200, [(4, 4)], 1, false⟩
  | .MNT_RUNNING => some ⟨0x420000, [], 1, false⟩
  | .MNT_WAITING => some ⟨0x420004, [], 1, false⟩
  | .MNT_GROUP => some ⟨0x420100, [(4, 11)], 1, false⟩
  | .SKN_CTRL => some ⟨0x430000, [], 1, true⟩
  | .SKN_TRIG_SEL => some ⟨0x430004, [], 1, true⟩
  | .SKN_GSEQ_CTRL => some ⟨0x430008, [], 1, true⟩
  | .SKN_GSEQ_HOLDOFF => some ⟨0x43000C, [], 1, true⟩
  | .SKN_STATUS => some ⟨0x430010, [], 1, true⟩
  | .SKN_PORT_STATUS => some ⟨0x430014, [(4, 5)], 1, true⟩
  | .SKN_GSEQ_STATUS => some ⟨0x430030, [], 1, true⟩
  | .SKN_LOST => some ⟨0x430034, [], 1, true⟩
  | .SKN_GTERM => some ⟨0x430040, [(4, 24)], 1, true⟩
  | .SKN_PORT_LAT => some ⟨0x430100, [(16, 5)], 3, true⟩
  | .SKN_PORT_VIOL => some ⟨0x430200, [(4, 5)], 1, true⟩
  | .SKN_SYNC_RX => some ⟨0x430300, [], 3, true⟩
  | .SVC_STATUS => some ⟨0x450000, [], 1, true⟩
  | .SVC_ATB => some ⟨0x450010, [], 1, false⟩
  | .SVC_RESULT => some ⟨0x450100, [(4, 240)], 1, true⟩
  | .BOOT_STATUS => some ⟨0x460000, [], 1, true⟩
  | .BOOT_RESET_CAUSE => some ⟨0x460004, [], 1, true⟩
  | .BOOT_CTRL => some ⟨0x460008, [], 1, true⟩
  | .BOOT_TIME => some ⟨0x46000C, [], 1, true⟩
  | .BOOT_EP_CAUSE => some ⟨0x460010, [], 1, false⟩
  | .BOOT_IMG_VER => some ⟨0x460020, [(4, 2)], 1, true⟩
  | .TOP_ID => some ⟨0x0, [], 1, false⟩
  | .CUE => some ⟨0x1E00000, [(32, 256)], 8, false⟩
  | .SEQ_STATE => some ⟨0x1000000, [(1024, 2), (32, 16)], 8, false⟩
  | .GSEQ_STATE => some ⟨0x1000800, [(32, 16)], 8, true⟩
  | .TRG_CURVE => some ⟨0x1010000, [(8192, 2), (4096, 2), (4, 1024)], 1, false⟩
  | .SCN_CURVE => some ⟨0x1040000, [(4096, 4), (4, 1024)], 1, true⟩
  | .SCN_PALETTE => some ⟨0x1060000, [(1024, 4), (4, 256)], 1, true⟩
  | .SCN_CURSOR => some ⟨0x1070000, [(64, 64), (4, 16)], 1, true⟩
  | .COST => some ⟨0x1C00000, [(16, 64)], 4, true⟩
  | .MSIX => some ⟨0x3800000, [(16, 1024)], 4, false⟩
  | .MSIX_PBA => some ⟨0x3804000, [(4, 32)], 1, false⟩
  | .HIST => some ⟨0x2000000, [(4194304, 2), (2048, 2048), (4, 512)], 1, false⟩
  | .ACCUM => some ⟨0x2800000, [(4194304, 2), (4, 1048576)], 1, false⟩
  | .i_raiseCount => none
  | .i_lastPayload => none
  | .i_levelHeld => none
  | .i_levelHeldFw => none
  | .i_ovfBefore => none
  | .i_coalCount => none
  | .i_coalDeadline => none
  | .i_coalTimed => none
  | .i_msixFuncMask => none
  | .i_coreLevel => none
  | .i_coreAsleep => none
  | .i_cardSuspended => none
  | .i_linkL0 => none
  | .i_settleBlk => none
  | .i_settleTimed => none
  | .i_fadeWait => none
  | .i_fadeTo => none
  | .i_fadeFromPending => none
  | .i_fadeLen => none
  | .i_fadeAt => none
  | .i_fadeTouch => none
  | .i_eqFrom => none
  | .i_eqPrev => none
  | .i_stopAsked => none
  | .i_stopAt => none
  | .i_gapLogIdx => none
  | .i_remapHold => none
  | .i_lgcHold => none
  | .i_lgcComp => none
  | .i_lgcMask => none
  | .i_termA => none
  | .i_termAOn => none
  | .i_termARise => none
  | .i_termB => none
  | .i_termBOn => none
  | .i_toutOrg => none
  | .i_toutOn => none
  | .i_patKnown => none
  | .i_patTrue => none
  | .i_patStart => none
  | .i_seqEntry => none
  | .i_seqCount => none
  | .i_seqFrom => none
  | .i_autoOrigin => none
  | .i_deadBlk => none
  | .i_seqEntryBlk => none
  | .i_patView => none
  | .i_patState => none
  | .i_patUnres => none
  | .i_termFrom => none
  | .i_holdEnd => none
  | .i_holdTimed => none
  | .i_holdLeft => none
  | .i_discards => none
  | .i_runLate => none
  | .i_runCoin => none
  | .i_runTaken => none
  | .i_runOther => none
  | .i_trigTotal => none
  | .i_accFrames => none
  | .i_accWas => none
  | .i_accWasAt => none
  | .i_accDecayAt => none
  | .i_loopCorr => none
  | .i_ovenOn => none
  | .i_ovenSaved => none
  | .i_refitCount => none
  | .i_refitAt => none
  | .i_gainTap => none
  | .i_loopUs => none
  | .i_sliceTmo => none
  | .i_biasBase => none
  | .i_cardSuff => none
  | .i_cardAt => none
  | .i_cardInt => none
  | .i_starveAt => none
  | .i_starveLeft => none
  | .i_testDom => none
  | .i_combAt => none
  | .i_calOpen => none
  | .i_testDone => none
  | .i_atbBy => none
  | .i_combOpen => none
  | .i_combEnding => none
  | .i_combCode => none
  | .i_combStore => none
  | .i_storeSlot => none
  | .i_storeCommitted => none
  | .i_storeCommitAt => none
  | .i_storeAdmitted => none
  | .i_retireAt => none
  | .i_swapBlk => none
  | .i_swapSeg => none
  | .i_swapDone => none
  | .i_edgeSince => none
  | .i_tmoAt => none
  | .i_rtTraining => none
  | .i_phaseOrg => none
  | .i_refEdge => none
  | .i_inOn => none
  | .i_inSince => none
  | .i_pullAt => none
  | .i_ovenFirst => none
  | .i_dtFrac => none
  | .i_refitPt => none
  | .i_synClk => none
  | .i_rampStart => none
  | .i_cueSince => none
  | .i_coefA => none
  | .i_coefB => none
  | .i_coefTau => none
  | .i_factoryTrim => none
  | .i_rampFrom => none
  | .i_rampBase => none
  | .i_auxLoss => none
  | .i_synFails => none
  | .i_settleAt => none
  | .i_ovldStart => none
  | .i_ovldClear => none
  | .i_ovldSeen => none
  | .i_bobAt => none
  | .i_scrubFixed => none
  | .i_scrubPos => none
  | .i_engRetired => none
  | .i_bankRetired => none
  | .i_cmpRetired => none
  | .i_sramCopyAt => none
  | .i_laneAt => none
  | .i_laneSpare => none
  | .i_heldOn => none
  | .i_heldTicks => none
  | .i_coreStack => none
  | .i_coreDepth => none
  | .i_coreAt => none
  | .i_coreFetch => none
  | .i_coreOut => none
  | .i_coreWoke => none
  | .i_coreReq => none
  | .i_coreReqQ => none
  | .i_modeMw => none
  | .i_wakeOn => none
  | .i_wakeAt => none
  | .i_wakeHeld => none
  | .i_wakeUnit => none
  | .i_wakeDie => none
  | .i_modeCause => none
  | .i_wakePin => none
  | .i_linkDeep => none
  | .i_periodNo => none
  | .i_cmpIn => none
  | .i_cmpPower => none
  | .i_cmpStart => none
  | .i_cmpSettleDt => none
  | .i_cmpBlankDt => none
  | .i_lgcStart => none
  | .i_lgcMaskAt => none
  | .i_lgcOff => none
  | .i_lgcOffAt => none
  | .i_timAct => none
  | .i_timPend => none
  | .i_scnFirst => none
  | .i_scnRetrain => none
  | .i_ctlAct => none
  | .i_bgAct => none
  | .i_curAct => none
  | .i_wfAct => none
  | .i_curveAct => none
  | .i_palAct => none
  | .i_imageAct => none
  | .i_ovlAct => none
  | .i_firedAt => none
  | .i_mbxTook => none
  | .i_mbxTurn => none
  | .i_farEven => none
  | .i_farOdd => none
  | .i_frwHold => none
  | .i_frwHist => none
  | .i_refAwait => none
  | .i_joinDone => none
  | .i_svcEcho => none
  | .i_svcChalOn => none
  | .i_svcChalAt => none
  | .i_svcChal => none
  | .i_svcWrongN => none
  | .i_svcWrongAt => none
  | .i_svcLockAt => none
  | .i_svcBaudWait => none
  | .i_svcBaudAt => none
  | .i_svcTestWait => none
  | .i_svcTestAt => none
  | .i_svcMeterAt => none
  | .i_svcAtbSave => none
  | .i_svcForced => none
  | .i_tapIr => none
  | .i_bootStep => none
  | .i_bootAt => none
  | .i_bootSelf => none
  | .i_bootImg => none
  | .i_bootFault => none
  | .i_thermHold => none
  | .i_flashMbit => none
  | .i_sfdpRev => none
  | .i_fwJob => none
  | .i_skEcho => none
  | .i_skEchoN => none
  | .i_skEchoPos => none
  | .i_skEchoId => none
  | .i_skEchoT1 => none
  | .i_skEchoWait => none
  | .i_skPrev => none
  | .i_skPrevOn => none
  | .i_skViol => none
  | .i_skViolN => none
  | .i_skViolPos => none
  | .i_skMiss => none
  | .i_skBcast => none
  | .i_skAck => none
  | .i_skPath => none
  | .i_skHop => none
  | .i_skCause => none
  | .i_skSeen => none
  | .i_skAlign => none
  | .i_skMeas => none
  | .i_skBelow => none
  | .i_skSent => none
  | .i_skEchoGot => none
  | .i_skEchoAt => none
  | .i_skErrSum => none
  | .i_skErrN => none
  | .i_gsEntry => none
  | .i_gsCount => none
  | .i_gsDead => none
  | .i_gsHold => none
  | .i_gsCoin => none
  | .i_gsLate => none
  | .i_gsTaken => none
  | .i_gsOther => none
  | .i_gtSeq => none
  | .i_gtOn => none
  | .i_gtDt => none
  | .i_gtInfo => none
  | .i_imgVersion => none
  | .i_imgBuild => none
  | .i_svcMeterN => none
  | .i_libArmed => none
  | .i_libStepped => none
  | .i_libStepAt => none

/-- Every register and table memory of BAR0. -/
def Reg.bar0Part0 : List Reg := [.XTO_STATUS, .XTO_REF_CTRL, .XTO_PHASE_ERR, .XTO_PULL, .XTO_STEP_TICKS, .XTO_STEP_FRAC, .XTO_STEP_AT, .SYN_CTRL, .SYN_STATUS, .SYN_DRIFT, .SYN_OFFSET, .SYN_RAMP_END, .SYN_RAMP_DUR, .SYN_ALIAS, .AUX_CTRL, .AUX_STATUS, .CLD_DT_SNAP, .CLD_DT_TICKS, .CLD_STATUS, .CLD_LATE_COUNT, .CNV_CTRL, .CNV_STATUS, .CNV_OVLD_COUNT, .CNV_CLIP_COUNT, .CNV_SLICE_MAP, .CNV_BIAS, .CNV_DIE_STATUS, .CRD_CTRL, .CRD_SUFF, .CRD_TOL, .CRD_TIMEOUT, .CRD_STATUS, .CRD_SUFF_COUNT, .CRD_INSUFF_COUNT, .CRD_COMB_CMD, .CRD_COMB_STATUS, .CRD_TRIM, .CRD_SLICE_STAT, .CRD_STORE_CTRL, .CRD_STORE_STATUS, .CRD_STORE_GEN, .EQ_CTRL, .EQ_STATUS, .EQ_SAT_COUNT, .EQ_COEF, .DEC_CTRL, .DEC_RATIO, .DEC_STATUS, .DEC_SAT_COUNT, .FIR_CTRL, .FIR_STATUS, .FIR_COEF, .RSM_CTRL, .RSM_STATUS, .RSM_RATIO, .RSM_SAT_COUNT, .TRG_CH_CFG, .TRG_LEVEL, .TRG_LEVEL_STAT, .TRG_CTRL]
def Reg.bar0Part1 : List Reg := [.TRG_STATUS, .TRG_TERM_CFG, .TRG_TERM_T1, .TRG_TERM_T2, .TRG_PAT_ANA, .TRG_PAT_LOG, .TRG_TERM_COUNT, .TRG_TERM_SNAP, .TRG_SEQ_CTRL, .TRG_SEQ_STATUS, .TRG_AUTO_TIMEOUT, .TRG_HOLDOFF, .TRG_FORCE, .TRG_LAST, .TRG_TRIG_COUNT, .TRG_COINC_COUNT, .TRG_DISCARD_COUNT, .TRG_FORCE_DROP_COUNT, .TRG_TRIG_SNAP, .ACQ_CTRL, .ACQ_CMD, .ACQ_STATUS, .ACQ_SEG_LEN, .ACQ_NSEG, .ACQ_PRE, .ACQ_POST, .ACQ_SPILL_BUF, .ACQ_SEG_COUNT, .ACQ_SKIP_COUNT, .ACQ_OPEN_SLOT, .MEM_STATUS, .MEM_DEPTH, .MEM_UE_COUNT, .MEM_UE_ADDR, .MEM_SCRUB_STATUS, .MEM_SCRUB_CE, .MEM_PC_MAP, .MEM_PC_STAT, .MEM_PC_CE, .MEM_WIN, .STR_CTRL, .STR_DATA_RING, .STR_AUX_RINGS, .STR_STATUS, .STR_INDEX, .STR_FILL, .STR_MARK_SEQ, .STR_GAP_SEQ, .STR_MARK_LOST_COUNT, .ACC_CTRL, .ACC_CMD, .ACC_STATUS, .ACC_AVG_COUNT, .ACC_AVG_DONE, .ACC_AVG_BATCH, .ACC_AVG_START, .ACC_AVG_LEN, .ACC_HIST_X_ORIGIN, .ACC_HIST_X_STEP, .ACC_HIST_Y]
def Reg.bar0Part2 : List Reg := [.ACC_DECAY, .ACC_FRAME_PERIOD, .ACC_EXCL, .ACC_RATE_CAP, .ACC_AVG_INCOMPLETE, .ACC_HIST_ACQ, .ACC_SKIP, .SCN_CTRL, .SCN_STATUS, .SCN_FRAME, .SCN_BG, .SCN_LINK_CFG, .SCN_UNDERRUN_COUNT, .SCN_TIM_H, .SCN_TIM_HS, .SCN_TIM_V, .SCN_TIM_VS, .SCN_TIM_PCLK, .SCN_TIM_CTRL, .SCN_CUR_POS, .SCN_CUR_CTRL, .SCN_WF_CFG, .SCN_WF_POS, .SCN_WF_SIZE, .SCN_OVL_CTRL, .SCN_OVL_ADDR, .SCN_OVL_STRIDE, .SCN_OVL_FLIP, .SCN_OVL_STAT, .SCN_FAULT_FRAME, .FRW_CTRL, .FRW_STATUS, .FRW_CRC, .LGC_CH_CFG, .LGC_SUPPRESS_COUNT, .LGC_CTRL, .LGC_STATE, .LGC_STATUS, .TIM_CTRL, .TIM_START_SRC, .TIM_STOP_SRC, .TIM_GATE, .TIM_N, .TIM_CUE, .TIM_STATUS, .TIM_IGN_STOP, .TIM_IGN_START, .TIM_SUPPRESS, .TIM_TOTAL, .TIM_SNAP, .TIM_RES, .CMP_CTRL, .CMP_THRESH, .CMP_BLANK, .CMP_STATUS, .CMP_COUNT, .CMP_BLANK_COUNT, .CMP_SNAP, .CMP_BLANK_TMR, .CMP_WIN]
def Reg.bar0Part3 : List Reg := [.CMP_SPARE_MAP, .QUE_BASE, .QUE_CFG, .QUE_STATUS, .QUE_PTR, .QUE_IRQ, .QUE_COAL, .QUE_LOST, .QUE_WB, .QUE_AUX, .DBL, .EVC_PEND, .EVC_MASK, .EVC_RAISE, .EVC_STATUS, .EVC_DST_WAKE, .EVC_ROUTE, .MBX_URG_CMD, .MBX_URG_RSP, .MBX_URG_CTRL, .MBX_URG_STATUS, .MBX_STATUS, .MBX_VLOG_NEXT, .MBX_VLOG_TOTAL, .MBX_RING_STAT, .MBX_VLOG, .PWR_MODE, .PWR_DOMAIN, .PWR_WAKE_CTRL, .PWR_WAKE_DT, .PWR_WAKE_CAUSE, .PWR_STATUS, .PWR_RAIL, .PWR_TEMP, .HVS_ALLOW, .HVS_CAP, .HVS_BUDGET, .HVS_LEDGER, .HVS_SHARE, .HVS_STATUS, .HVS_REFUSE_COUNT, .HVS_DEFER_COUNT, .BOB_CTRL, .BOB_THRESH, .BOB_STATUS, .BOB_RETIRED, .BOB_ACTIVE, .BOB_SPL_LANES, .BOB_SPL_MARGIN, .BOB_SRAM, .MNT_RUNNING, .MNT_WAITING, .MNT_GROUP, .SKN_CTRL, .SKN_TRIG_SEL, .SKN_GSEQ_CTRL, .SKN_GSEQ_HOLDOFF, .SKN_STATUS, .SKN_PORT_STATUS, .SKN_GSEQ_STATUS]
def Reg.bar0Part4 : List Reg := [.SKN_LOST, .SKN_GTERM, .SKN_PORT_LAT, .SKN_PORT_VIOL, .SKN_SYNC_RX, .SVC_STATUS, .SVC_ATB, .SVC_RESULT, .BOOT_STATUS, .BOOT_RESET_CAUSE, .BOOT_CTRL, .BOOT_TIME, .BOOT_EP_CAUSE, .BOOT_IMG_VER, .TOP_ID, .CUE, .SEQ_STATE, .GSEQ_STATE, .TRG_CURVE, .SCN_CURVE, .SCN_PALETTE, .SCN_CURSOR, .COST, .MSIX, .MSIX_PBA, .HIST, .ACCUM]
/-- Every register and table memory of BAR0. -/
def Reg.bar0 : List Reg := Reg.bar0Part0 ++ Reg.bar0Part1 ++ Reg.bar0Part2 ++ Reg.bar0Part3 ++ Reg.bar0Part4

/-- Factory values of the cost table (R385). -/
def costFactory : List Nat :=
  [34000, 1000, 14000, 28000, 6000, 4000, 6000, 3000, 1500, 50, 4, 2800, 30, 1500, 500, 20, 3000, 50, 100, 150]

/-- The unit of a cost table entry (R385): 0 mW, 1 mJ. Entries 12 to 18 are energies. -/
def costUnit (n : Nat) : Nat := if 12 ≤ n ∧ n ≤ 18 then 1 else 0

/-- The kind of a queue, fixed by its number (R308). -/
def queueKind (q : Nat) : Nat :=
  if q < 4096 then 0 else if q < 6144 then 1 else if q < 7168 then 2 else if q < 7680 then 3
  else if q < 7936 then 4 else if q < 8064 then 5 else 6

/-- The level sources of R324. -/
def levelSource (s : Nat) : Bool :=
  s == 50 || s == 76 || s == 77 || s == 89 || s == 90 || s == 91 || s == 124 || s == 125 || s == 154 || s == 156
  || s == 165 || s == 166 || s == 167 || s == 169 || s == 180 || s == 188 || (172 ≤ s && s ≤ 179)

/-- The reset value in a field table, found by register and lowest bit. -/
def Reg.tableReset (r : Reg) (lo : Nat) : Nat :=
  ((r.fields.find? (fun i => i.fld.lo == lo)).map (·.reset)).getD 0


/-- The reset value of a field at its indices (the field tables; R288 and R367 for the rows that refer to them).
The indices start with the die where the register is one per die. BOOT_RESET_CAUSE stands for a power-on reset. -/
def Reg.resetAt (r : Reg) (lo : Nat) (ix : List Nat) : Nat :=
  match r, lo, ix with
  | .BOB_SPL_MARGIN, 8, [_, l] => b2n (24 ≤ l)
  | .BOOT_RESET_CAUSE, 0, _ => 1
  | .BOOT_RESET_CAUSE, 6, _ => 1
  | .CMP_CTRL, 0, [_, u] => b2n (2 ≤ u)
  | .CMP_CTRL, 1, [_, u] => if u < 6 then 0 else if u < 10 then 2 else 3
  | .CMP_CTRL, 3, [_, u] => if u < 2 then 2 else if u < 10 then 0 else 3
  | .CMP_CTRL, 5, [_, u] => u % 2
  | .CMP_CTRL, 10, [_, u] => if u = 8 then 2 else 0
  | .COST, 0, [n] => costFactory.getD n 0
  | .COST, 32, [n] => costFactory.getD n 0
  | .COST, 96, [n] => costUnit n
  | .EQ_COEF, 0, [_, _, _, k] => if k = 16 then 0x40000 else 0
  | .FIR_COEF, 0, [_, _, _, k] => if k = 128 then 0x40000 else 0
  | .EVC_ROUTE, 30, [_, s] => b2n (levelSource s)
  | .MEM_PC_MAP, 0, [_, _, l] => l
  | .MEM_PC_STAT, 0, [_, _, p] => b2n (p == 31)
  | .PWR_DOMAIN, 0, [_, w] => if w = 0 then 3 else 0
  | .QUE_CFG, 0, [_, q] => queueKind q
  | .SCN_WF_CFG, 1, [g] => g
  | .SVC_STATUS, 0, _ => Config.lockEnable % 2
  | .TOP_ID, 8, [d] => d
  | .TOP_ID, 9, [d] => b2n (d == 0)
  | .TRG_CH_CFG, 0, [_, c] => c
  | .TRG_CURVE, 0, [_, _, _, i] => i
  | .i_timAct, 0, [k] => [256904960, 2147614728, 145623152, 32816, 522614].getD k 0
  | .i_wfAct, 0, [g, k] => if k = 0 then 2 * g else if k = 2 then 67110912 else 0
  | r, lo, _ => r.tableReset lo

/-- The key of a field at its indices. -/
structure RegKey where
  reg : Reg
  lo : Nat
  ix : List Nat
  deriving DecidableEq, Repr

/-- The order of register keys: by register, lowest bit and indices. -/
def RegKey.code (k : RegKey) : List Nat := k.reg.ctorIdx :: k.lo :: k.ix

/-- Strict order of register keys. -/
def RegKey.lt (a b : RegKey) : Bool := lexLt a.code b.code

/-- The reset value at a key. -/
abbrev RegKey.reset (k : RegKey) : Nat := k.reg.resetAt k.lo k.ix

/-- Register contents: only fields away from their reset value are listed. -/
abbrev RegFile := List (RegKey × Nat)

/-- The value at a key. -/
def RegFile.get (m : RegFile) (k : RegKey) : Nat := (sparseGet k m).getD k.reset

/-- The contents with a value at a key; the reset value unlists the key. -/
def RegFile.put (m : RegFile) (k : RegKey) (v : Nat) : RegFile :=
  sparsePut RegKey.lt k (if v = k.reset then none else some v) m

/-- The canonical form: keys rise and no reset value is listed. -/
def RegFile.wf (m : RegFile) : Bool := sparseOrdered RegKey.lt m && m.all (fun e => e.2 != e.1.reset)

end Sys2Proof.Machine
end

