-- ==== Sys2Proof/Machine/State.lean ====
section
/-!
DEFINITION. The state of the package, its reasons to stop, and the state right after a power-on reset.
-/

namespace Sys2Proof.Machine

/-- Reasons a command stops the model with a fault. -/
inductive Fault where
  deriving DecidableEq, Repr

/-- Reasons a command is refused. -/
inductive Refusal where
  /-- exec answers it for a command that has no meaning yet. Safe: no next state is given. -/
  | notModelled (mnemonic : String)
  deriving DecidableEq, Repr

/-- The package. -/
structure State where
  /-- The operating mode (R34). -/
  mode : Mode
  /-- The die that holds the control role (R21). -/
  control : Nat
  /-- Time since power-on in 6.25 ps ticks; core-cycle counts are measured on it. It is never stepped. -/
  now : Nat
  /-- Device time, ticks (R15). -/
  dt : Nat
  /-- Device time in the cycle before (R40). -/
  dtPrev : Nat
  /-- Registers, table memories and internal registers. -/
  regs : RegFile
  /-- The bytes of the HBM3E stacks and of the overlay pool (R180 to R186). -/
  mem : List Host.Cell
  /-- What the cells add to bytes in the read under way (R187, R188). -/
  misread : List Host.Cell
  /-- Writes that a remap hold keeps waiting, oldest first: address and bytes (R190). -/
  heldWrites : List (Nat × List Byte)
  /-- The acquisition sets, set a of die d at 3d + a (R193). -/
  acq : List Acq
  /-- The time-interval units, unit u of die d at 8d + u (R273). -/
  tims : List Tim
  /-- Events that time-interval units hold (R274). -/
  timHeld : List TimEvent
  /-- The accumulation engines, engine c of die d at 2d + c (R221). -/
  acc : List AccEngine
  /-- Overlay layers, layer l of die d at 3d + l (R252, R253). -/
  layers : List Layer
  /-- Allocations of the overlay pools (R254). -/
  pool : List PoolBuf
  /-- Term summaries being formed (R419). -/
  summaries : List Summary
  /-- The segment library index (R358). -/
  library : List LibEntry
  /-- Library deliveries, in take order (R358). -/
  deliveries : List Delivery
  /-- What the device has put out, oldest first. -/
  out : List Output
  /-- Records written and not yet released (R325, R329). -/
  ringRecs : List RingRec
  /-- Mailbox commands taken and not answered (R345). -/
  taken : List Taken
  /-- Outstanding mailbox commands (R348). -/
  outstanding : List Outstanding
  /-- The last 256 outstanding commands to finish on each die (R348). -/
  kept : List Kept
  /-- Counted violations of the mailbox rings (R364), oldest first. -/
  violations : List Viol
  /-- Requests waiting at the Distaff cores (R336). -/
  coreReqs : List CoreReq
  /-- Records on the firmware routes: die, firmware queue, record (R321). -/
  fwRecords : List (Nat × Nat × List Byte)
  /-- Power admitted within the last 10 ms: mW, and the time it ends (R376). -/
  committed : List (Nat × Nat)
  /-- Draw of the last 1,000 Harvest periods, mW, newest first (R376). -/
  periodDraws : List Nat
  /-- The time of the last raised derating step (R380). -/
  deratedAt : Nat
  /-- Requests in the deferred queues, oldest first (R381). -/
  deferred : List Deferred
  /-- Maintenance activities that hold their groups (R405). -/
  running : List Claim
  /-- Maintenance claims that wait (R405). -/
  waiting : List Claim
  /-- Bobbin pool records (R406). -/
  bobbin : List BobRec
  /-- Units whose retirement takes effect at the next block boundary (R401). -/
  retiring : List Nat
  /-- The bytes of the boot flash that do not read 0xFF (R114). -/
  flash : List Host.Cell
  /-- Header and payload of the store write in progress (R116). -/
  snapshot : List Byte
  /-- Error statistics of the intervals that closed and are not yet evaluated (R98, R103). -/
  cardErrs : List CardErr
  /-- Tap moves that wait for cycle 128 (R103). -/
  tapMoves : List TapMove
  /-- What the Combing runs under way have measured (R110, R111). -/
  combFits : List CombFit
  /-- The fades of the FIRs (R138), oldest first. -/
  fades : List Fade
  /-- Blocks already counted as clipped or saturated (R82, R125). -/
  counted : List CountedBlock
  /-- What reaches the trigger engines in this core cycle (R168). -/
  arrivals : List Arrival
  /-- Coasts, calibration and test blocks, and overload episodes, by their ticks (R57, R81, R85). -/
  spans : List Span
  /-- What the hardware did in this core cycle to fields that software clears or writes: the bits set, or the count added (R10). -/
  fresh : List (RegKey × Nat)
  /-- Event records that found their queue full in this core cycle and wait for a doorbell of it (R316), oldest first. -/
  heldRecs : List EventRec
  /-- What the next core cycle does (R325, R459). -/
  nextActs : List NextAct
  /-- Moments that land in this core cycle and writes that act from the next block: they act as the cycle ends (R38 to R41). -/
  booked : List Instr
  /-- MODEL: the core cycle ends. -/
  closing : Bool
  /-- MODEL: the number of free values taken. -/
  freeCtr : Nat
  /-- MODEL: the commands that wait, first in, first out. -/
  pending : List Instr
  deriving DecidableEq, Repr

/-- The package right after a power-on reset: HOLD (R35, R446), every register at its reset value, nothing queued. -/
def State.reset : State where
  mode := .hold
  control := 0
  now := 0
  dt := 0
  dtPrev := 0
  regs := []
  mem := []
  misread := []
  heldWrites := []
  acq := List.replicate 6 Acq.idle
  tims := List.replicate 16 Tim.idle
  timHeld := []
  acc := List.replicate 4 AccEngine.idle
  layers := List.replicate 6 Layer.none
  pool := []
  summaries := []
  library := []
  deliveries := []
  out := []
  ringRecs := []
  taken := []
  outstanding := []
  kept := []
  violations := []
  coreReqs := []
  fwRecords := []
  committed := []
  periodDraws := []
  deratedAt := 0
  deferred := []
  running := []
  waiting := []
  bobbin := []
  retiring := []
  flash := []
  snapshot := []
  cardErrs := []
  tapMoves := []
  combFits := []
  fades := []
  counted := []
  arrivals := []
  spans := []
  fresh := []
  heldRecs := []
  nextActs := []
  booked := []
  closing := false
  freeCtr := 0
  pending := []

end Sys2Proof.Machine
end

