-- ==== Sys2Proof/Machine/Ops.lean ====
section
/-!
DEFINITION. The named operations over the state: register fields, free values, device time, output, ring entries,
interrupts, events, protocol violations.
-/

namespace Sys2Proof.Machine

/-- The interval from instant b to instant a, modulo the range of DT (R16). -/
def instSub (a b : Nat) : Nat := (a + 2 ^ 76 - b % 2 ^ 76) % 2 ^ 76

/-- The signed interval from instant b to instant a: the one of least size (R16). -/
def instDiff (a b : Nat) : Int := if instSub a b < 2 ^ 75 then instSub a b else -(instSub b a : Int)

/-- Instant a is at or after b, less than half the range of DT apart (R16). -/
def instGe (a b : Nat) : Bool := instSub a b < 2 ^ 75

/-- A mark that says which DT tick comes next in a sequence: 0 for none (R16). -/
def markAt (t : Nat) : Nat := t % 2 ^ 64 + 2 ^ 64

/-- A tick lies at or after a mark. -/
def afterMark (mark t : Nat) : Bool := mark == 0 || dtGe t (mark % 2 ^ 64)

namespace State

/-- The value of a field. -/
def rd (s : State) (f : Fld) (ix : List Nat) : Nat := s.regs.get ⟨f.reg, f.lo, ix⟩

/-- The state with a field written; the value is cut to the field's width. -/
def wr (s : State) (f : Fld) (ix : List Nat) (v : Nat) : State :=
  { s with regs := s.regs.put ⟨f.reg, f.lo, ix⟩ (trunc f.width v) }

/-- A field is not 0. -/
def isSet (s : State) (f : Fld) (ix : List Nat) : Bool := s.rd f ix != 0

/-- What the hardware did to a field in this core cycle: the bits it set, or the count it added (R10). -/
def freshOf (s : State) (f : Fld) (ix : List Nat) : Nat := (sparseGet ⟨f.reg, f.lo, ix⟩ s.fresh).getD 0

/-- A hardware update of a field that software clears (R10). -/
def noteFresh (s : State) (f : Fld) (ix : List Nat) (v : Nat) : State := { s with fresh := (⟨f.reg, f.lo, ix⟩, v) :: s.fresh }

/-- The hardware sets a bit that software clears (R10). -/
def flag (s : State) (f : Fld) (ix : List Nat) : State := (s.wr f ix 1).noteFresh f ix 1

/-- Such a bit is set where the condition holds. -/
def flagIf (s : State) (f : Fld) (ix : List Nat) (b : Bool) : State := if b then s.flag f ix else s

/-- Bit i of a field that software writes is set by the hardware (R10). -/
def flagBit (s : State) (f : Fld) (ix : List Nat) (i : Nat) : State :=
  (s.wr f ix (setBit (s.rd f ix) i)).noteFresh f ix (setBit (s.freshOf f ix) i)

/-- The hardware adds `n` to a counter that a read clears, which stays at its greatest value (R7, R10). -/
def count (s : State) (f : Fld) (ix : List Nat) (n : Nat) : State :=
  (s.wr f ix (min (s.rd f ix + n) (2 ^ f.width - 1))).noteFresh f ix (s.freshOf f ix + n)

/-- A one-bit field made equal to `b`. -/
def wrBool (s : State) (f : Fld) (ix : List Nat) (b : Bool) : State := s.wr f ix (b2n b)

/-- A counting field one higher, staying at its greatest value. -/
def incSat (s : State) (f : Fld) (ix : List Nat) : State :=
  if s.rd f ix + 1 < 2 ^ f.width then s.wr f ix (s.rd f ix + 1) else s

/-- A counting field one higher, wrapping to 0. -/
def inc (s : State) (f : Fld) (ix : List Nat) : State := s.wr f ix (s.rd f ix + 1)

/-- A field with `n` added, staying at its greatest value. -/
def addSat (s : State) (f : Fld) (ix : List Nat) (n : Nat) : State := s.wr f ix (min (s.rd f ix + n) (2 ^ f.width - 1))

/-- The operation where the condition holds, else no change. -/
def on (s : State) (b : Bool) (f : State → State) : State := if b then f s else s

/-- The operation for each element in turn. -/
def each {α : Type} (s : State) (l : List α) (f : State → α → State) : State := l.foldl f s

/-- The next free value (Config.freeValue). -/
def freeVal (s : State) : Nat := Config.freeValue s.freeCtr

/-- One free value is used. -/
def useFree (s : State) : State := { s with freeCtr := s.freeCtr + 1 }

/-- A field takes a free value: the spec leaves it open. -/
def wrFree (s : State) (f : Fld) (ix : List Nat) : State := (s.wr f ix s.freeVal).useFree

/-- The device puts something out. -/
def emit (s : State) (o : Output) : State := { s with out := s.out ++ [o] }

/-- The first tick of the block handled where SYN runs at ten thousand times the crystal's period (R30, R40). -/
def blk (s : State) : Nat := s.dt / 128 * 128

/-- DT with its fraction. -/
def dtInst (s : State) : Instant := 4096 * s.dt + s.rd I.dtFrac []

-- The sample clock of a die (R56, R59 to R62) ----------------------------------------------------------

/-- SYN of the die runs in fractional mode (R59). -/
def fractional (s : State) (d : Nat) : Bool := s.isSet F.SYN_STATUS.MODE_ACTIVE [d]

/-- The samples of the die do not fall on whole DT ticks: SYN runs in fractional mode, or has lost its lock (R56, R62). -/
def offGrid (s : State) (d : Nat) : Bool := s.fractional d || s.rd F.SYN_STATUS.LOCK [d] == 2 || s.rd F.SYN_STATUS.LOCK [d] == 3

/-- One block of the sample clock, which counts fraction units of a sample period times 2^32. -/
def clkBlock : Nat := 128 * 4096 * 2 ^ 32

/-- Core cycles of the die since the present ramp segment began (R60). -/
def rampCycles (s : State) (d : Nat) : Nat := (s.rd I.synClk [d] - s.rd I.rampStart [d]) / clkBlock

/-- The present offset as a quotient, in 1/32,768 ppm: linear within a ramp segment (R60, R61). -/
def offsetNow (s : State) (d : Nat) : Int × Nat :=
  if s.isSet F.SYN_STATUS.RAMP_ACTIVE [d] then
    let k := s.rd F.SYN_STATUS.RAMP_SEG [d]
    let dur := max 1 (s.rd F.SYN_RAMP_DUR.DURATION [d, k])
    let from_ := sval 24 (s.rd I.rampFrom [d])
    (from_ * dur + (sval 24 (s.rd F.SYN_RAMP_END.END_OFFSET [d, k]) - from_) * (min dur (s.rampCycles d) : Nat), dur)
  else (sval 24 (s.rd F.SYN_OFFSET.OFFSET [d]), 1)

/-- The rate of the sample clock against DT, as a quotient: 1 + ε, and the measured drift while SYN coasts (R56, R59). -/
def clkRate (s : State) (d : Nat) : Nat × Nat :=
  let o := s.offsetNow d
  let drift : Int := if s.rd F.SYN_STATUS.LOCK [d] == 1 then 0 else 32 * sval 16 (s.rd F.SYN_DRIFT.DRIFT [d])
  (((32768000000 + drift) * o.2 + (if s.fractional d then o.1 else 0)).toNat, 32768000000 * o.2)

/-- The sample clock of the die at an instant near the present (R62). -/
def clkAt (s : State) (d : Nat) (t : Instant) : Nat :=
  if s.offGrid d then
    let r := s.clkRate d
    ((s.rd I.synClk [d] : Int) + ((t : Int) - s.dtInst) * 2 ^ 32 * r.1 / (max 1 r.2 : Nat)).toNat
  else t * 2 ^ 32

/-- The instant of a value of the sample clock (R56, R62). -/
def instOf (s : State) (d : Nat) (clk : Nat) : Instant :=
  if s.offGrid d then
    let r := s.clkRate d
    ((s.dtInst : Int) + ((clk : Int) - s.rd I.synClk [d]) * r.2 / (2 ^ 32 * max 1 r.1 : Nat)).toNat
  else clk / 2 ^ 32

/-- The number of the block whose aperture begins in this core cycle (R30, R62). -/
def blkNo (s : State) (d : Nat) : Nat := if s.mode.acquires && s.offGrid d then s.rd I.synClk [d] / clkBlock else s.dt / 128

/-- The number of the block that holds an instant. -/
def blkAt (s : State) (d : Nat) (t : Instant) : Nat := if s.mode.acquires && s.offGrid d then s.clkAt d t / clkBlock else t / 4096 / 128

/-- The instant at which a block begins. -/
def blkStart (s : State) (d n : Nat) : Instant := if s.mode.acquires && s.offGrid d then s.instOf d (n * clkBlock) else 4096 * 128 * n

/-- The instant at which the block that die d handles begins, and the next one (R30, R40, R62). -/
def blkSpan (s : State) (d : Nat) : Instant × Instant :=
  if s.mode.acquires && s.offGrid d then
    let b := s.rd I.synClk [d] / clkBlock * clkBlock
    (s.instOf d b, s.instOf d (b + clkBlock))
  else (4096 * s.blk, 4096 * s.blk + 4096 * 128)

/-- The first tick of the block that die d handles (R30, R40, R62). -/
def blkOf (s : State) (d : Nat) : Nat := (s.blkSpan d).1 / 4096

/-- First tick of the next block of a die. -/
def nextBlk (s : State) (d : Nat) : Nat := (s.blkSpan d).2 / 4096 % 2 ^ 64

/-- A DT deadline of die d lands in this core cycle (R39, R40, R62). -/
def landsOn (s : State) (d deadline : Nat) : Bool :=
  if s.mode.acquires then
    dtSub deadline (s.blkOf d) < dtSub (s.nextBlk d) (s.blkOf d)
  else dtGe s.dt deadline && !dtGe s.dtPrev deadline

/-- A DT deadline of a package service lands in this core cycle. -/
def lands (s : State) (deadline : Nat) : Bool := s.landsOn s.control deadline

/-- A DT deadline of die d lands in this core cycle or landed before it. -/
def dueOn (s : State) (d deadline : Nat) : Bool := s.landsOn d deadline || dtGe s.dt deadline

/-- A DT deadline of a package service lands in this core cycle or landed before it. -/
def due (s : State) (deadline : Nat) : Bool := s.dueOn s.control deadline

/-- The command acts at the end of the core cycle, after every arrival of the cycle (R38, R41). -/
def book (s : State) (c : Instr) : State := { s with booked := s.booked ++ [c] }

/-- A moment of this very cycle waits for the cycle's end, so that an arrival of the cycle comes first; one of an earlier cycle acts
at once (R38, R39). -/
def atEnd (s : State) (landing : Bool) (c : Instr) (f : State → State) : State := if landing && !s.closing then s.book c else f s

/-- A register write that takes effect from the next block: what refuses it acts at once, and what it changes waits for the end of the
cycle, where an arm of the same cycle counts as earlier (R129, R144, R152, R176, R195). -/
def nextBlockWrite (s : State) (c : Instr) (f : State → State × Nat) : State :=
  let r := f s
  if s.closing || r.2 != 0 then r.1 else s.book c

/-- A wait of `cycles` core cycles that began at `start` has ended. -/
def elapsed (s : State) (start cycles : Nat) : Bool := start + 128 * cycles ≤ s.now

/-- The wait ends in this very core cycle. -/
def elapsesNow (s : State) (start cycles : Nat) : Bool := s.elapsed start cycles && s.now < start + 128 * cycles + 128

/-- The die that does not hold the control role. -/
def otherDie (d : Nat) : Nat := 1 - d

/-- Die d is retired (R402), as its neighbour reports it. -/
def dieRetired (s : State) (d : Nat) : Bool := s.isSet F.BOB_RETIRED.OTHER_DIE [otherDie d]

/-- The sample clock of a die moves on by one core cycle, and SYN_OFFSET shows the offset reached (R59 to R62). -/
def clkTick (s : State) (d : Nat) : State :=
  if !s.offGrid d || s.mode == .hold || s.mode == .vigil then s
  else
    let r := s.clkRate d
    let s := s.wr I.synClk [d] (s.rd I.synClk [d] + clkBlock * r.1 / max 1 r.2)
    s.on (s.isSet F.SYN_STATUS.RAMP_ACTIVE [d]) fun s =>
      let o := s.offsetNow d
      s.wr F.SYN_OFFSET.OFFSET [d] (sfield 24 (o.1 / (max 1 o.2 : Nat)))

/-- The sample clock of a die is set to DT, as SYN starts to run away from it (R56, R59). -/
def clkFrom (s : State) (d : Nat) : State := s.wr I.synClk [d] (s.dtInst * 2 ^ 32)

/-- The time of one core cycle passes: 128 ticks of DT, which stands still in HOLD; in VIGIL one XTO cycle of 1,600 ticks (R15, R41). -/
def tick (s : State) : State :=
  let n := if s.mode = .vigil then 1600 else 128
  let s := (s.clkTick 0).clkTick 1
  { s with now := s.now + n, dtPrev := s.dt, dt := if s.mode = .hold then s.dt else dtAdd s.dt n, fresh := [] }

-- Cues, and spans of time -----------------------------------------------------------------------------

/-- Cue n of die d is armed as it stands; it is LATE if its DT lies before the block handled (R66, R67). -/
def armCue (s : State) (d n : Nat) : State :=
  let s := ((s.wr F.CUE.STATE [d, n] 1).wr F.CUE.STEPPED [d, n] 0).wrBool F.CUE.LATE [d, n] (!dtGe (s.rd F.CUE.DT_TICKS [d, n]) (s.blkOf d))
  (s.wr I.cueSince [d, n] s.now).inc F.CLD_STATUS.PENDING [d]

/-- A cue leaves PENDING for another state (R66, R70). -/
def endCue (s : State) (d n state : Nat) : State :=
  (s.wr F.CUE.STATE [d, n] state).wr F.CLD_STATUS.PENDING [d] (s.rd F.CLD_STATUS.PENDING [d] - 1)

/-- A span of a kind begins at a tick, unless one is open. -/
def openSpan (s : State) (kind : SpanKind) (d c tick : Nat) : State :=
  if s.spans.any fun x => x.kind == kind && x.die == d && x.chan == c && x.until_.isNone then s
  else { s with spans := s.spans ++ [⟨kind, d, c, tick, none⟩] }

/-- The open span of a kind ends at a tick: its last tick is the one before. -/
def closeSpan (s : State) (kind : SpanKind) (d c tick : Nat) : State :=
  { s with spans := s.spans.map fun x => if x.kind = kind ∧ x.die = d ∧ x.chan = c ∧ x.until_.isNone then { x with until_ := some tick } else x }

/-- A span of a kind meets the ticks from `a` to `b`. -/
def spanMeets (s : State) (kind : SpanKind) (d c a b : Nat) : Bool :=
  s.spans.any fun x => x.kind == kind && x.die == d && x.chan == c && dtGe b x.from_ && (x.until_.map fun t => !dtGe a t).getD true

/-- The block handled is a calibration block of a channel (R85). -/
def calNow (s : State) (d c : Nat) : Bool := s.spanMeets .calibration d c (s.blkOf d) (s.nextBlk d - 1)

/-- A SYN coast of the die meets the span between two ticks (R57, R285). -/
def coastMeets (s : State) (d a b : Nat) : Bool := s.spanMeets .coast d 0 a b

/-- A DT step was applied between two ticks (R51, R285). -/
def stepMeets (s : State) (a b : Nat) : Bool :=
  s.isSet F.XTO_STEP_AT.AT [] && !dtGe a (s.rd F.XTO_STEP_AT.AT []) && dtGe b (s.rd F.XTO_STEP_AT.AT [])

-- Ring entries ------------------------------------------------------------------------------------

/-- Entries of a ring (R310). -/
def ringSize (s : State) (d q : Nat) : Nat := 2 ^ s.rd F.QUE_CFG.LOG2_SIZE [d, q]

/-- Entry size by kind (R308). -/
def entryBytes (q : Nat) : Nat :=
  match queueKind q with
  | 0 => 16 | 1 => 16 | 2 => 16 | 3 => 32 | 4 => 32 | _ => 64

/-- The queue is ENABLED (R311). -/
def queEnabled (s : State) (d q : Nat) : Bool := s.rd F.QUE_STATUS.STATE [d, q] == 1

/-- The ring is full (R310). -/
def ringFull (s : State) (d q : Nat) : Bool :=
  (s.rd F.QUE_PTR.TAIL [d, q] + 1) % s.ringSize d q == s.rd F.QUE_PTR.HEAD [d, q]

/-- The ring is empty (R310). -/
def ringEmpty (s : State) (d q : Nat) : Bool := s.rd F.QUE_PTR.TAIL [d, q] == s.rd F.QUE_PTR.HEAD [d, q]

/-- The write-back of the device's own index (R318). -/
def writeBack (s : State) (d q index : Nat) : State :=
  s.on (s.isSet F.QUE_WB.ADDR [d, q]) fun s =>
    s.emit (.mem d (s.rd F.QUE_WB.ADDR [d, q]) (le 2 index ++ le 1 (s.rd F.QUE_STATUS.PHASE [d, q]) ++ le 5 0))

/-- The device moves its own index on by one; PHASE inverts when it wraps (R317), and the write-back follows (R318). -/
def advanceOwn (s : State) (d q : Nat) : State :=
  let f := if queueKind q = 0 ∨ queueKind q = 5 then F.QUE_PTR.HEAD else F.QUE_PTR.TAIL
  let next := (s.rd f [d, q] + 1) % s.ringSize d q
  let s := s.wr f [d, q] next
  let s := s.on (next == 0) fun s => s.wrBool F.QUE_STATUS.PHASE [d, q] (!s.isSet F.QUE_STATUS.PHASE [d, q])
  s.writeBack d q next

-- Interrupts (R329 to R333) -----------------------------------------------------------------------

/-- An MSI-X message, or the PBA bit where the vector is masked (R331). -/
def sendMsix (s : State) (d v : Nat) : State :=
  if s.isSet F.MSIX.MASKED [d, v] || s.isSet I.msixFuncMask [d] then
    s.wr F.MSIX_PBA.PEND [d, v / 32] (setBit (s.rd F.MSIX_PBA.PEND [d, v / 32]) (v % 32))
  else s.emit (.msix d v (4 * s.rd F.MSIX.ADDR [d, v]) (s.rd F.MSIX.DATA [d, v]))

/-- A request at a Distaff core; a sleeping core wakes if bit PRIO of its wake mask is 1 (R333). -/
def sendCore (s : State) (core prio q : Nat) : State :=
  let s := { s with coreReqs := s.coreReqs ++ [CoreReq.mk core prio q] }
  s.on (s.isSet I.coreAsleep [core] && bitAt (s.rd F.EVC_DST_WAKE.WAKE [core / 2, core % 2]) prio) fun s =>
    (s.wr I.coreAsleep [core] 0).wr I.coreWoke [core] s.now

/-- Deliver the interrupt of a queue to its target (R329, R332). -/
def deliver (s : State) (d q : Nat) : State :=
  if s.isSet F.QUE_IRQ.TARGET [d, q] then
    s.sendCore (s.rd F.QUE_IRQ.VECTOR [d, q] % 4) (s.rd F.QUE_IRQ.PRIO [d, q]) q
  else s.sendMsix d (s.rd F.QUE_IRQ.VECTOR [d, q])

/-- Deliver and go to FIRED. -/
def fire (s : State) (d q : Nat) : State :=
  (((s.deliver d q).wr F.QUE_STATUS.IRQ_STATE [d, q] 2).wr I.coalTimed [d, q] 0).wr I.firedAt [d, q] (s.now + 1)

/-- Start the coalescing deadline from a tick; COAL_TIME = 0 gives none (R329). -/
def startCoal (s : State) (d q ticks : Nat) : State :=
  (s.wr I.coalDeadline [d, q] (dtAdd ticks (s.rd F.QUE_COAL.COAL_TIME [d, q] * 160000))).wrBool I.coalTimed [d, q]
    (s.isSet F.QUE_COAL.COAL_TIME [d, q])

/-- Go to COALESCING with a count, and deliver at once if it reaches COAL_COUNT. -/
def coalesce (s : State) (d q n : Nat) : State :=
  let s := (s.wr F.QUE_STATUS.IRQ_STATE [d, q] 1).wr I.coalCount [d, q] n
  s.on (s.rd F.QUE_IRQ.COAL_COUNT [d, q] ≤ n) fun s => s.fire d q

/-- The coalescing deadline of the queue lands in this cycle. -/
def coalLands (s : State) (d q : Nat) : Bool :=
  s.rd F.QUE_STATUS.IRQ_STATE [d, q] == 1 && s.isSet I.coalTimed [d, q] && s.landsOn d (s.rd I.coalDeadline [d, q])

/-- The coalescing deadline of the queue lands in this cycle, or landed before it. -/
def coalDue (s : State) (d q : Nat) : Bool :=
  s.rd F.QUE_STATUS.IRQ_STATE [d, q] == 1 && s.isSet I.coalTimed [d, q] && s.dueOn d (s.rd I.coalDeadline [d, q])

/-- The interrupt state machine takes a countable record with its TICKS, the present block's where it has none (R329, R330). -/
def countRecord (s : State) (d q ticks : Nat) : State :=
  match s.rd F.QUE_STATUS.IRQ_STATE [d, q] with
  | 0 => (s.startCoal d q ticks).coalesce d q 1
  | 1 =>
    let late := s.coalLands d q
    let s := s.coalesce d q (s.rd I.coalCount [d, q] + 1)
    s.on (late && s.rd F.QUE_STATUS.IRQ_STATE [d, q] == 1) fun s => s.startCoal d q (s.blkOf d)
  | _ => s

/-- The HEAD doorbell part of R329: n countable records are left unconsumed. A delivery of the same core cycle comes after the doorbell (R316). -/
def irqDoorbell (s : State) (d q n : Nat) : State :=
  s.on (s.rd F.QUE_STATUS.IRQ_STATE [d, q] == 2 && s.rd I.firedAt [d, q] != s.now + 1) fun s =>
    if n = 0 then s.wr F.QUE_STATUS.IRQ_STATE [d, q] 0
    else (s.startCoal d q (s.blkOf d)).coalesce d q n

/-- Countable records of a queue left unconsumed. -/
def unconsumed (s : State) (d q : Nat) : Nat :=
  (s.ringRecs.filter fun r => r.die == d && r.q == q && r.countable).length

/-- Write a record into a device-produced ring that has room: entry, index, write-back, interrupt (R307). -/
def pushRecord (s : State) (d q : Nat) (bytes : List Byte) (source : Option Nat) (countable : Bool) (ticks : Nat) : State :=
  let i := s.rd F.QUE_PTR.TAIL [d, q]
  let s := s.emit (.mem d (s.rd F.QUE_BASE.BASE [d, q] + entryBytes q * i) bytes)
  let s := { s with ringRecs := s.ringRecs ++ [RingRec.mk d q i source countable s.now] }
  let s := s.advanceOwn d q
  s.on countable fun s => s.countRecord d q ticks

-- Events (R321 to R328) ---------------------------------------------------------------------------

/-- The kinds of CODE bits [3:0] (R322). -/
inductive EventKind where
  | edge | level | resample | software
  deriving DecidableEq, Repr

/-- The code of a kind (R322). -/
def EventKind.code : EventKind → Nat
  | .edge => 1 | .level => 2 | .resample => 3 | .software => 4

/-- The 16 bytes of an event record (R322). -/
def eventBytes (ticks source : Nat) (masked late ovf : Bool) (phase kind count payload : Nat) : List Byte :=
  le 8 ticks ++ le 2 (source + 2 ^ 10 * b2n masked + 2 ^ 11 * b2n late + 2 ^ 12 * b2n ovf + 2 ^ 15 * phase)
    ++ le 2 (kind + 16 * count) ++ le 4 payload

/-- Source s of die d is masked on the host route (R328). -/
def masked (s : State) (d src : Nat) : Bool := bitAt (s.rd F.EVC_MASK.MASK [d, src / 32]) (src % 32)

/-- A record that finds its queue full or disabled is dropped (R327). -/
def dropRecord (s : State) (d q : Nat) : State :=
  ((s.count F.QUE_LOST.COUNT [d, q] 1).flag F.QUE_STATUS.OVERFLOW [d, q]).wr I.ovfBefore [d, q] 1

/-- The record of the host route of a raise, where it gets one (R321, R325, R328). -/
def hostRec (s : State) (d src ticks payload : Nat) (kind : EventKind) : Option EventRec :=
  if !s.isSet F.EVC_ROUTE.EN [d, src] || s.isSet I.levelHeld [d, src] then none
  else some ⟨d, src, s.rd F.EVC_ROUTE.QUEUE [d, src], ticks, payload, kind.code, s.rd I.raiseCount [d, src], s.masked d src⟩

/-- A record is written; one that finds its queue full or disabled is dropped, and the answer says so (R322, R327, R330). -/
def putRecord (s : State) (r : EventRec) : State × Bool :=
  if !s.queEnabled r.die r.q || s.ringFull r.die r.q then ((s.wr I.levelHeld [r.die, r.src] 0).dropRecord r.die r.q, true)
  else
    let late := !r.masked && s.coalLands r.die r.q
    let bytes := eventBytes r.ticks (r.src + 256 * r.die) r.masked late (s.isSet I.ovfBefore [r.die, r.q])
      (s.rd F.QUE_STATUS.PHASE [r.die, r.q]) r.kind r.count r.payload
    let s := (s.wr I.ovfBefore [r.die, r.q] 0).wrBool I.levelHeld [r.die, r.src] (levelSource r.src)
    (s.pushRecord r.die r.q bytes (some r.src) (!r.masked) r.ticks, false)

/-- The firmware route of a raise: the record goes to a queue private to the firmware (R321). -/
def fwRoute (s : State) (d src payload : Nat) (kind : EventKind) : State :=
  s.on (s.isSet F.EVC_ROUTE.FW_EN [d, src] && !s.isSet I.levelHeldFw [d, src]) fun s =>
    let s := { s with fwRecords := s.fwRecords ++ [(d, s.rd F.EVC_ROUTE.FW_QUEUE [d, src], eventBytes (s.blkOf d) (src + 256 * d)
      false false false 0 kind.code (s.rd I.raiseCount [d, src]) payload)] }
    s.wrBool I.levelHeldFw [d, src] (levelSource src)

/-- Sources that hold their raise until their route is enabled (R459). -/
def heldSource (src : Nat) : Bool := src == 53 || src == 54 || src == 252 || src == 253 || src == 254

/-- A raise but for its records: pending bit, count, latest payload, and the raise that waits for its route (R321, R322, R459). -/
def noteRaise (s : State) (d src payload : Nat) : State :=
  let s := s.flagBit F.EVC_PEND.PEND [d, src / 32] (src % 32)
  let s := (s.inc I.raiseCount [d, src]).wr I.lastPayload [d, src] payload
  s.on (heldSource src && !s.isSet F.EVC_ROUTE.EN [d, src]) fun s => (s.wr I.heldOn [d, src] 1).wr I.heldTicks [d, src] (s.blkOf d)

/-- QUE_OVERFLOW is raised (R327); its own record is dropped without another. -/
def overflowRaise (s : State) (d q : Nat) (full : Bool) : State :=
  let payload := q + 2 ^ 13 * b2n (!full) + 2 ^ 16 * (s.rd F.QUE_LOST.COUNT [d, q] % 2 ^ 16)
  let s := s.noteRaise d 200 payload
  let s := match s.hostRec d 200 (s.blkOf d) payload .edge with
    | some r => (s.putRecord r).1
    | none => s
  s.fwRoute d 200 payload .edge

/-- A record is written, or dropped with QUE_OVERFLOW, unless it is one (R327). -/
def placeRecord (s : State) (r : EventRec) : State :=
  let full := s.queEnabled r.die r.q
  let p := s.putRecord r
  p.1.on (p.2 && r.src != 200) fun s => s.overflowRaise r.die r.q full

/-- The host route of a raise whose TICKS is given. A record that finds its queue full waits for the end of the core cycle: a doorbell of the
cycle comes first (R316). -/
def hostRoute (s : State) (d src ticks payload : Nat) (kind : EventKind) : State :=
  match s.hostRec d src ticks payload kind with
  | none => s
  | some r =>
    if !s.closing && ((s.queEnabled d r.q && s.ringFull d r.q) || s.heldRecs.any fun x => x.die == d && x.q == r.q) then
      { s.wrBool I.levelHeld [d, src] (levelSource src) with heldRecs := s.heldRecs ++ [r] }
    else s.placeRecord r

/-- The records that waited for a doorbell are written or dropped. -/
def flushHeld (s : State) : State := { s with heldRecs := [] }.each s.heldRecs placeRecord

/-- Source `src` of die `d` raises an event of a kind (R321, R327). -/
def raiseKind (s : State) (d src payload : Nat) (kind : EventKind) : State :=
  ((s.noteRaise d src payload).hostRoute d src (s.blkOf d) payload kind).fwRoute d src payload kind

/-- Source `src` of die `d` raises an event; its kind follows from R324. -/
def raise (s : State) (d src payload : Nat) : State :=
  s.raiseKind d src (trunc 32 payload) (if levelSource src then .level else .edge)

/-- A package service raises an event: only the die with the control role does (R72, R121, R387, R425, R444, R460). -/
def raisePkg (s : State) (src payload : Nat) : State := s.raise s.control src payload

/-- A sticky bit is set, and its level source raised when it goes from 0 to 1. -/
def stick (s : State) (f : Fld) (ix : List Nat) (d src payload : Nat) : State :=
  if s.isSet f ix then s.noteFresh f ix 1 else (s.flag f ix).raise d src payload

/-- Some index below n satisfies the test. -/
def anyBelow (n : Nat) (p : Nat → Bool) : Bool := (List.range n).any p

/-- The condition of a level source (R324). -/
def levelCond (s : State) (d src : Nat) : Bool :=
  match src with
  | 50 => anyBelow 2 fun c => anyBelow 136 fun i => s.isSet F.CRD_SLICE_STAT.WEAR_CAND [d, c, i]
  | 76 => anyBelow 2 fun c => s.isSet F.EQ_STATUS.WRITE_REJECT [d, c] || s.isSet F.FIR_STATUS.WRITE_REJECT [d, c]
  | 77 => anyBelow 2 fun c => s.isSet F.EQ_STATUS.SAT_STICKY [d, c] || s.isSet F.DEC_STATUS.SAT_STICKY [d, c]
      || s.isSet F.RSM_STATUS.SAT_STICKY [d, c]
  | 89 => anyBelow 2 fun q => s.isSet F.TRG_SEQ_STATUS.COINC_STICKY [d, q]
  | 90 => anyBelow 2 fun q => s.isSet F.TRG_SEQ_STATUS.FORCE_DROP_STICKY [d, q]
  | 91 => s.isSet F.TRG_STATUS.CFG_REJECT [d] || anyBelow 2 fun q => s.isSet F.TRG_SEQ_STATUS.CFG_REJECT [d, q]
  | 124 => anyBelow 3 fun a => s.isSet F.STR_STATUS.MARK_LOST [d, a]
  | 125 => anyBelow 3 fun a => s.isSet F.STR_STATUS.GAP_LOG_WRAP [d, a]
  | 154 => anyBelow 2 fun c => s.isSet F.ACC_STATUS.HIST_SAT_STICKY [d, c]
  | 156 => anyBelow 2 fun c => s.isSet F.ACC_STATUS.CFG_REJECT [d, c] || s.isSet F.ACC_STATUS.CMD_REJECT [d, c]
  | 165 => s.isSet F.FRW_STATUS.FROST [d]
  | 166 => s.isSet F.SCN_STATUS.UNDERRUN_STICKY [d]
  | 167 => s.isSet F.SCN_STATUS.CFG_REJECT [d] || s.isSet F.SCN_STATUS.WIN_REJECT [d] || s.isSet F.SCN_STATUS.FLIP_REJECT [d]
  | 169 => s.isSet F.LGC_STATUS.CFG_REJECT [d]
  | 180 => anyBelow 8 fun u => s.isSet F.TIM_STATUS.FIFO_OVF [d, u]
  | 188 => anyBelow 12 fun u => s.isSet F.CMP_STATUS.CFG_REJECT [d, u]
  | src =>
    if 172 ≤ src ∧ src ≤ 179 then
      s.isSet F.TIM_STATUS.FIFO_LEVEL [d, src - 172] && s.isSet F.TIM_CTRL.RES_EVT_EN [d, src - 172]
    else false

/-- The device re-samples a level source whose record was consumed (R325). -/
def resample (s : State) (d src : Nat) : State :=
  let s := s.wr I.levelHeld [d, src] 0
  s.on (s.levelCond d src) fun s => s.raiseKind d src (s.rd I.lastPayload [d, src]) .resample

-- Protocol violations (R362 to R364) --------------------------------------------------------------

/-- QUEUE of a log entry: the urgent mailbox, and none (R362). -/
def vlogUrgent : Nat := 0xFFFE
def vlogNone : Nat := 0xFFFF

/-- One second of DT. -/
def oneSecond : Nat := 160000000000

/-- The violation codes counted against a mailbox ring (R364). -/
def countedCode (code : Nat) : Bool :=
  code == 0x0400 || (0x0402 ≤ code && code ≤ 0x0404) || code == 0x0406 || code == 0x0407

/-- The counted violations of a ring within the last second of DT, at most 64 (R364, MBX_RING_STAT.RECENT). -/
def recentViolations (s : State) (d q : Nat) : Nat :=
  min 64 (s.violations.filter fun v => v.die == d && v.ring == q && dtSub (s.blkOf d) v.ticks < oneSecond).length

/-- Count a violation against a mailbox ring; the 64th within a second quarantines the ring in the next core cycle (R364). -/
def countViolation (s : State) (d q : Nat) : State :=
  let s := { s with violations := s.violations ++ [Viol.mk d q (s.blkOf d)] }
  let s := (s.incSat F.MBX_RING_STAT.TOTAL [d, q - 7936]).wr F.MBX_RING_STAT.RECENT [d, q - 7936] (s.recentViolations d q)
  s.on (s.recentViolations d q == 64) fun s => { s with nextActs := s.nextActs ++ [.quarantine d q] }

/-- Log a protocol violation and raise MBX_VIOLATION (R362), and count it where R364 says. -/
def violation (s : State) (d code queue detail : Nat) : State :=
  let n := s.rd F.MBX_VLOG_NEXT.NEXT [d]
  let s := s.wr F.MBX_VLOG.WORD [d, n, 0] (s.blkOf d)
  let s := s.wr F.MBX_VLOG.WORD [d, n, 1] (s.blkOf d / 2 ^ 32)
  let s := s.wr F.MBX_VLOG.WORD [d, n, 2] (code + 2 ^ 16 * queue)
  let s := s.wr F.MBX_VLOG.WORD [d, n, 3] detail
  let s := (s.inc F.MBX_VLOG_NEXT.NEXT [d]).incSat F.MBX_VLOG_TOTAL.COUNT [d]
  let s := s.raise d 219 (n + 2 ^ 16 * code)
  s.on (countedCode code && queueKind queue == 5) fun s => s.countViolation d queue

end State

end Sys2Proof.Machine
end

