-- ==== Sys2Proof/Machine/CondOps.lean ====
section
/-!
DEFINITION. The conditioning chain (R122 to R148): values of stages 5 and 7, the output grid, settling, the FIR bank machine.
-/

namespace Sys2Proof.Machine

/-- Stage 5: y = 64 · Σ h[k] · x[n + 16 − k], taps in units of 2^−18, rounded and saturated (R125, R127). The window holds x[n − 15]
to x[n + 16] in ascending order, so tap k meets the entry 31 − k. Answers the value and whether it saturated. -/
def equalise (taps : List Int) (window : List Int) : Int × Bool :=
  let sum := (List.zipWith (· * ·) taps window.reverse).sum
  let y := roundShift (64 * sum) 18
  (satInt 16 y, satInt 16 y != y)

/-- Rounding to nearest of `z / n`, ties away from zero. -/
def roundDiv (z : Int) (n : Nat) : Int := if 0 ≤ z then (2 * z + n) / (2 * n) else -((-2 * z + n) / (2 * n))

/-- The FIR: Σ g[k] · u[D·m + 128 − k], u with 8 extra bits (R134), before rounding; entry k of the list meets tap k. -/
def firSum (taps : List Int) (u : List Int) : Int := (List.zipWith (· * ·) taps u).sum

/-- Coefficient j of (1 + z + … + z^(n − 1))^4, the fourth-order CIC by n (R133). -/
def cicWeight (n j : Nat) : Int :=
  ((List.range 5).map fun i => if i * n ≤ j then (-1 : Int) ^ i * (Nat.choose 4 i * Nat.choose (j - i * n + 3) 3 : Nat) else 0).sum

/-- The CIC sum around a sample (R133): 4n − 3 samples, of which it is the middle one. -/
def cicSum (n : Nat) (y : Int → Int) (centre : Int) : Int :=
  ((List.range (4 * n - 3)).map fun j => cicWeight n j * y (centre + j - 2 * (n - 1))).sum

/-- Tap k of the compensator in units of 2^−18 (R133): the centre tap makes a constant input come out unchanged. -/
def compTap (k : Nat) : Int :=
  if k = 16 then 2 ^ 18 - (((List.range 33).filter (· != 16)).map Config.compensator).sum else Config.compensator k

/-- HIRES output m by n, with `e` extra bits, rounded (R125, R133, R134). -/
def hires (n e : Nat) (y : Int → Int) (m : Int) : Int :=
  let sum := ((List.range 33).map fun k => compTap k * cicSum n y ((m + k - 16) * n)).sum
  roundDiv (2 ^ e * sum) (2 ^ 18 * n ^ 4)

/-- A code of a run that begins at sample `first`. -/
def runAt (first : Int) (xs : List Int) (n : Int) : Int := xs.getD (n - first).toNat 0

/-- The run holds the samples from a to b. -/
def runHolds (first : Int) (xs : List Int) (a b : Int) : Bool := decide (first ≤ a) && decide (b < first + xs.length)

/-- A P10 code of a stage 5 value (R86). -/
def p10Code (v : Int) : Int := satInt 10 (roundShift v 6)

namespace State

/-- The mode is PAIRED. -/
abbrev paired (s : State) : Bool := s.mode == .paired

/-- Acquisition set a of die d. -/
def acqOf (s : State) (d a : Nat) : Acq := s.acq.getD (3 * d + a) Acq.idle

/-- The state with set a of die d replaced. -/
def setAcq (s : State) (d a : Nat) (x : Acq) : State := { s with acq := s.acq.set (3 * d + a) x }

/-- The set is armed: its machine is not IDLE (R198). -/
def armed (s : State) (d a : Nat) : Bool := s.isSet F.ACQ_STATUS.STATE [d, a]

/-- Any set of the die is armed. -/
def dieArmed (s : State) (d : Nat) : Bool := anyBelow 3 (s.armed d)

/-- An analogue channel of the package is armed. -/
def anyArmed (s : State) : Bool := s.dieArmed 0 || s.dieArmed 1

/-- Stage 7 decimates by N (R131): the ratio, times D in FIR mode. -/
def decimation (s : State) (d c : Nat) : Nat :=
  if s.rd F.DEC_CTRL.MODE [d, c] = 3 then s.rd F.DEC_RATIO.RATIO [d, c] * s.rd F.FIR_CTRL.DECIM [d, c]
  else s.rd F.DEC_RATIO.RATIO [d, c]

/-- The stored format (R29): 0 P10, 1 S16, 2 PK, 3 LC. -/
def format (s : State) (d a : Nat) : Nat :=
  if a = 2 then 3
  else if s.isSet F.RSM_CTRL.ENABLE [d, a] then 1
  else match s.rd F.DEC_CTRL.MODE [d, a] with
    | 0 => 0 | 1 => 2 | _ => 1

/-- Bits of one stored sample (R185, R89). -/
def formatBits (f : Nat) : Nat := match f with | 0 => 10 | 1 => 16 | 2 => 32 | _ => 64

/-- Checks 1 to 4 of R145; 0 where the configuration is valid (R146). -/
def condConfig (s : State) (d c : Nat) : Nat :=
  let m := s.rd F.DEC_CTRL.MODE [d, c]
  let r := s.rd F.DEC_RATIO.RATIO [d, c]
  let dec := s.rd F.FIR_CTRL.DECIM [d, c]
  let lo := if m < 2 then 1 else if m = 2 then (if s.paired then 8 else 4) else (if s.paired then 16 else 8)
  let rate := if s.paired then 320000000000 else 160000000000
  if r = 0 ∨ (m ≠ 3 ∧ ¬(lo ≤ r ∧ r ≤ 2 ^ 24)) then 0x0150
  else if m = 3 ∧ ¬(lo ≤ r ∧ r ≤ 2 ^ 24 ∧ 1 ≤ dec ∧ dec ≤ 16 ∧ r * dec ≤ 2 ^ 24) then 0x0151
  else if s.isSet F.RSM_CTRL.ENABLE [d, c] ∧ m = 1 then 0x0153
  else if s.isSet F.RSM_CTRL.ENABLE [d, c] ∧
      (s.rd F.RSM_RATIO.RATIO [d, c] = 0 ∨ rate > 20000000000 * s.decimation d c
        ∨ rate * s.rd F.RSM_RATIO.RATIO [d, c] < 1000 * s.decimation d c * 2 ^ 48
        ∨ rate * s.rd F.RSM_RATIO.RATIO [d, c] > 20000000000 * s.decimation d c * 2 ^ 48) then 0x0152
  else 0

-- The output grid (R132, R142, R192) ----------------------------------------------------------------

/-- Fraction units from one stage 7 output to the next. -/
def gridStep (s : State) (d c : Nat) : Nat := s.decimation d c * (if s.paired then 2048 else 4096)

/-- Numerator and denominator of the output period, in fraction units of the sample clock (R131, R142); a logic set counts DT ticks. -/
def clkStep (s : State) (d a : Nat) : Nat × Nat :=
  if a = 2 then (4096, 1)
  else if s.isSet F.RSM_CTRL.ENABLE [d, a] then (s.gridStep d a * 2 ^ 48, max 1 (s.rd F.RSM_RATIO.RATIO [d, a])) else (s.gridStep d a, 1)

/-- Numerator and denominator of the output period in fraction units of DT, at the present rate of the sample clock (R59, R62, R142). -/
def gridPeriod (s : State) (d a : Nat) : Nat × Nat :=
  let p := s.clkStep d a
  if s.offGrid d && a != 2 then (p.1 * (s.clkRate d).2, p.2 * (s.clkRate d).1) else p

/-- Fraction units of the sample clock from one full-rate sample to the next (R124). -/
def samplePeriod (s : State) : Nat := if s.paired then 2048 else 4096

/-- The position of the first stored sample at or after an instant; in PK format, of the record whose interval holds the first full-rate
sample at or after it (R192). -/
def gridAtOrAfter (s : State) (d a : Nat) (t : Instant) : Nat :=
  let p := s.clkStep d a
  let clk := if a = 2 then t * 2 ^ 32 else s.clkAt d t
  if s.format d a = 2 then ceilDiv clk (s.samplePeriod * 2 ^ 32) / max 1 (s.decimation d a)
  else ceilDiv (clk * p.2) (max 1 p.1 * 2 ^ 32)

/-- The instant of a position (R62, R78, R124, R132, R142). -/
def gridDtOf (s : State) (d a pos : Nat) : Instant :=
  let p := s.clkStep d a
  let clk := pos * p.1 * 2 ^ 32 / max 1 p.2
  if a = 2 then clk / 2 ^ 32 else s.instOf d clk

-- Blocks on the sample clock (R30, R62, R124) -------------------------------------------------------

/-- Samples of a block (R27, R80). -/
def blockLen (s : State) : Nat := if s.paired then 256 else 128

/-- The number of the sample of a die at an instant, on its sample clock (R62, R124). -/
def sampleAt (s : State) (d : Nat) (t : Instant) : Nat := s.clkAt d t / (s.samplePeriod * 2 ^ 32)

/-- The last full-rate sample of a die at or before an instant (R167). -/
def sampleFloor (s : State) (d : Nat) (t : Instant) : Instant :=
  if s.offGrid d then s.instOf d (s.sampleAt d t * (s.samplePeriod * 2 ^ 32)) else t / s.samplePeriod * s.samplePeriod

/-- The first full-rate sample of a die at or after an instant. -/
def sampleCeil (s : State) (d : Nat) (t : Instant) : Instant :=
  if s.offGrid d then s.instOf d (ceilDiv (s.clkAt d t) (s.samplePeriod * 2 ^ 32) * (s.samplePeriod * 2 ^ 32)) else ceilDiv t s.samplePeriod * s.samplePeriod

/-- In PAIRED the registers and tables of C1 have no effect (R123). -/
abbrev inert (s : State) (c : Nat) : Bool := s.paired && c == 1

-- Saturation and clips (R82, R125) --------------------------------------------------------------------

/-- A block counts once for a stage: 0 clips, 1, 2 and 3 saturations of stages 5, 7 and 8; the sticky bit of a saturation raises COND_SAT
(R82, R125, R148). -/
def countBlock (s : State) (d c stage block : Nat) : State :=
  let b : CountedBlock := ⟨d, c, stage, block⟩
  if s.counted.contains b then s
  else
    let s := { s with counted := b :: s.counted }
    let go (counter sticky : Fld) := ((s.count counter [d, c] 1).stick sticky [d, c] d 77 (c + 2 * stage))
    match stage with
    | 0 => (s.count F.CNV_CLIP_COUNT.COUNT [d, c] 1).flag F.CNV_STATUS.CLIP_STICKY [d, c]
    | 1 => go F.EQ_SAT_COUNT.COUNT F.EQ_STATUS.SAT_STICKY
    | 2 => go F.DEC_SAT_COUNT.COUNT F.DEC_STATUS.SAT_STICKY
    | _ => go F.RSM_SAT_COUNT.COUNT F.RSM_STATUS.SAT_STICKY

/-- The blocks of the samples listed count for a stage. -/
def countSamples (s : State) (d c stage : Nat) (ns : List Int) : State :=
  s.each (ns.map fun n => n.toNat / s.blockLen) fun s b => s.countBlock d c stage b

-- The FIR bank machine (R135 to R140) -----------------------------------------------------------------

/-- The FIR is running (R135). -/
def firRunning (s : State) (d c : Nat) : Bool :=
  s.mode.acquires && s.rd F.DEC_CTRL.MODE [d, c] == 3 && s.condConfig d c == 0 && !s.inert c

/-- The bank machine is in FADING: a fade runs or waits for its first output. -/
def fadeBusy (s : State) (d c : Nat) : Bool := s.isSet I.fadeWait [d, c] || s.isSet F.FIR_STATUS.FADING [d, c]

/-- The number of the first stage 7 output that comes after this core cycle: output m needs sample m·N + 146P − 2, and leaves the FIR in
cycle 38 of the block that holds it (R147). -/
def firNext (s : State) (d c : Nat) : Nat :=
  let n : Int := ((s.blkNo d : Int) - 37) * s.blockLen + 2 - 146 * s.rd F.DEC_RATIO.RATIO [d, c]
  ceilDiv n.toNat (max 1 (s.decimation d c))

/-- The number of the first stage 7 output at or after an instant. -/
def stage7At (s : State) (d c : Nat) (t : Instant) : Nat := ceilDiv (s.clkAt d t) (max 1 (s.gridStep d c) * 2 ^ 32)

/-- The first output of the waiting fade comes in this core cycle or came before. -/
def fadeDue (s : State) (d c : Nat) : Bool := s.isSet I.fadeWait [d, c] && s.rd I.fadeAt [d, c] < s.firNext d c

/-- The last output of the running fade comes in this core cycle or came before. -/
def fadeOver (s : State) (d c : Nat) : Bool :=
  s.isSet F.FIR_STATUS.FADING [d, c] && s.rd I.fadeAt [d, c] + s.rd I.fadeLen [d, c] ≤ s.firNext d c

/-- A fade starts or ends in this core cycle (R136). -/
def touchFade (s : State) (d c : Nat) : State := s.wr I.fadeTouch [d, c] (s.now + 1)

/-- FADE_POS: the number within the fade of the last output produced (R138). -/
def fadePos (s : State) (d c : Nat) : State :=
  s.on (s.isSet F.FIR_STATUS.FADING [d, c]) fun s =>
    s.wr F.FIR_STATUS.FADE_POS [d, c] (min (s.firNext d c - 1 - s.rd I.fadeAt [d, c]) (s.rd I.fadeLen [d, c] - 1))

/-- A fade ends, or ends at once: the target is in force (R139). -/
def endFade (s : State) (d c bank len : Nat) (discarded : Bool) : State :=
  let s := ((s.wr F.FIR_STATUS.ACTIVE [d, c] bank).wr F.FIR_STATUS.FADING [d, c] 0).wr F.FIR_STATUS.FADE_POS [d, c] 0
  let s := (s.wr I.fadeWait [d, c] 0).wr F.FIR_STATUS.PENDING [d, c] 0
  (s.touchFade d c).raise d 74 (c + 2 * bank + 4 * b2n discarded + 2 ^ 16 * len)

/-- The fades of a channel, oldest first, whose banks outputs not yet committed may still need. -/
def fadesOf (s : State) (d c : Nat) : List Fade := s.fades.filter fun x => x.die == d && x.chan == c

/-- The fades of a channel are forgotten: no output of theirs will commit. -/
def dropFades (s : State) (d c : Nat) : State := { s with fades := s.fades.filter fun x => !(x.die == d && x.chan == c) }

/-- A swap request for a bank (R137, R139): by a register or the mailbox, or by a cue with its DT. -/
def firRequest (s : State) (d c bank : Nat) (t : Option Instant) : State :=
  if s.inert c then s
  else if s.fadeBusy d c then
    let replaced := s.isSet F.FIR_STATUS.PENDING [d, c]
    let s := (s.wr F.FIR_STATUS.PENDING [d, c] 1).wr F.FIR_STATUS.PENDING_BANK [d, c] bank
    let s := s.on replaced fun s => s.flag F.FIR_STATUS.SWAP_REPLACED [d, c]
    s.raise d 75 (c + 2 * (bank % 2) + 4 * b2n replaced)
  else if bank % 2 = s.rd F.FIR_STATUS.ACTIVE [d, c] then s
  else if !s.firRunning d c then s.endFade d c (bank % 2) 0 false
  else
    let first := max (s.firNext d c) ((t.map (s.stage7At d c)).getD 0)
    ((s.wr I.fadeWait [d, c] 1).wr I.fadeTo [d, c] bank).wr I.fadeAt [d, c] first |>.wr I.fadeFromPending [d, c] 0

/-- The FIR stops running: a fade and a pending request complete at once (R139). DESIGN CHOICE (log entry 155): where the fade still waits for
its first output, the event carries the length of the fade before. -/
def firStops (s : State) (d c : Nat) : State :=
  (s.on (s.fadeBusy d c) fun s =>
    let bank := if s.isSet F.FIR_STATUS.PENDING [d, c] then s.rd F.FIR_STATUS.PENDING_BANK [d, c] else s.rd I.fadeTo [d, c]
    s.endFade d c bank (s.rd I.fadeLen [d, c]) false).dropFades d c

/-- A fade begins at its first output (R138); with L = 0 it ends in the same cycle. `pend` tells a fade started from pending. -/
def fadeStarts (s : State) (d c bank : Nat) (pend : Bool) : State :=
  let l := s.rd F.FIR_CTRL.FADE_LEN [d, c]
  let fade : Fade := ⟨d, c, s.rd I.fadeAt [d, c], l, s.rd F.FIR_STATUS.ACTIVE [d, c], bank⟩
  let s := (({ s with fades := s.fades ++ [fade] }.wr F.FIR_STATUS.FADING [d, c] 1).wr I.fadeWait [d, c] 0).touchFade d c
  let s := ((s.wr I.fadeTo [d, c] bank).wr I.fadeLen [d, c] l).wrBool I.fadeFromPending [d, c] pend
  let s := (s.fadePos d c).raise d 73 (c + 2 * bank + 4 * b2n pend + 2 ^ 16 * l)
  s.on (l == 0) fun s => s.endFade d c bank 0 false

/-- A fade's last output is produced (R139). A fade that waited as pending follows it: it reads FADE_LEN, and FIR_FADE_START comes, now,
as in the section's example. -/
def fadeEnds (s : State) (d c : Nat) : State :=
  let y := s.rd I.fadeTo [d, c]
  let l := s.rd I.fadeLen [d, c]
  let pend := s.isSet F.FIR_STATUS.PENDING [d, c]
  if pend ∧ s.rd F.FIR_STATUS.PENDING_BANK [d, c] ≠ y then
    let x := s.rd F.FIR_STATUS.PENDING_BANK [d, c]
    let s := (s.wr F.FIR_STATUS.ACTIVE [d, c] y).wr F.FIR_STATUS.PENDING [d, c] 0
    let s := s.wr I.fadeAt [d, c] (s.rd I.fadeAt [d, c] + l)
    (s.raise d 74 (c + 2 * y + 2 ^ 16 * l)).fadeStarts d c x true
  else s.endFade d c y l pend

/-- A waiting fade reaches its first output (R137, R138). -/
def fadeFirst (s : State) (d c : Nat) : State :=
  let pend := s.isSet F.FIR_STATUS.PENDING [d, c]
  let y := s.rd I.fadeTo [d, c]
  if s.rd F.FIR_CTRL.FADE_LEN [d, c] = 0 ∧ pend then
    ((s.wr I.fadeWait [d, c] 0).wr I.fadeLen [d, c] 0 |>.raise d 73 (c + 2 * y)).fadeEnds d c
  else s.fadeStarts d c y (s.isSet I.fadeFromPending [d, c])

/-- The banks and the weight of a stage 7 output, as (from, to, j + 1, L): outside every fade the bank in force then (R138). -/
def fadeAtOutput (s : State) (d c m : Nat) : Nat × Nat × Nat × Nat :=
  let start := ((s.fadesOf d c).head?.map (·.source)).getD (s.rd F.FIR_STATUS.ACTIVE [d, c])
  (s.fadesOf d c).foldl (fun p f =>
    if m < f.first then p else if m < f.first + f.len then (f.source, f.target, m - f.first + 1, f.len) else (f.target, f.target, 1, 1))
    (start, start, 1, 1)

-- Outputs (R127, R131, R134, R138) -----------------------------------------------------------------------

/-- Taps of a bank as integers, in units of 2^−18 (R128). -/
def eqTaps (s : State) (d c b : Nat) : List Int := (List.range 32).map fun k => sval 20 (s.rd F.EQ_COEF.COEF [d, c, b, k])
def firTaps (s : State) (d c b : Nat) : List Int := (List.range 256).map fun k => sval 20 (s.rd F.FIR_COEF.COEF [d, c, b, k])

/-- The array and the slice that serve a position of a channel's block (R77, R79, R80). -/
def sliceAt (s : State) (d c p : Nat) : Nat × Nat :=
  let x := if s.paired then p % 2 else c
  let q := if s.paired then p / 2 else p
  let g := 4 * (q % 2) + q / 2 % 4
  let k := q / 8
  (x, 17 * g + (if s.rd F.CNV_SLICE_MAP.SPARE_STATE [d, x, g] = 2 ∧ s.rd F.CNV_SLICE_MAP.SPARE_PHASE [d, x, g] = k then 16 else k))

/-- The stage 4 code of a slice (R91): its stage 3 code under its OFFSET and GAIN taps, 0.25 LSB and 0.05% a tap from the mid tap. -/
def trimmed (s : State) (d x i : Nat) (v : Int) : Int :=
  satInt 10 (roundDiv (v * (1968 + s.rd F.CRD_TRIM.GAIN [d, x, i]) + 500 * ((s.rd F.CRD_TRIM.OFFSET [d, x, i] : Int) - 64)) 2000)

/-- Stage 4 of a run of stage 3 codes, the first of which is sample `first`. -/
def stage4 (s : State) (d c : Nat) (first : Int) (codes : List Int) : List Int :=
  codes.zipIdx.map fun e =>
    let x := s.sliceAt d c ((first + e.2) % (s.blockLen : Nat)).toNat
    s.trimmed d x.1 x.2 e.1

/-- Bank and bypass of stage 5 at a sample: those in force before the latest switch, for a sample before it (R129). -/
def eqAt (s : State) (d c : Nat) (n : Int) : Nat × Bool :=
  if n < s.rd I.eqFrom [d, c] then (s.rd I.eqPrev [d, c] % 2, bitAt (s.rd I.eqPrev [d, c]) 1)
  else (s.rd F.EQ_STATUS.ACTIVE_BANK [d, c], s.isSet F.EQ_STATUS.BYPASSED [d, c])

/-- Stage 5 of sample n of a run of stage 3 codes, and whether it saturated (R27, R127). -/
def stage5 (s : State) (d c : Nat) (first : Int) (xs : List Int) (n : Int) : Int × Bool :=
  let w := s.stage4 d c (n - 15) ((xs.drop (n - 15 - first).toNat).take 32)
  let b := s.eqAt d c n
  if b.2 then (64 * w.getD 15 0, false) else equalise (s.eqTaps d c b.1) w

/-- The FIR output m before saturation (R134, R138). -/
def firOutput (s : State) (d c m : Nat) (u : List Int) : Int :=
  let f := s.fadeAtOutput d c m
  let zx := firSum (s.firTaps d c f.1) u
  let zy := firSum (s.firTaps d c f.2.1) u
  roundDiv ((f.2.2.2 - f.2.2.1 : Int) * zx + f.2.2.1 * zy) (max 1 f.2.2.2 * 2 ^ 26)

/-- Full-rate samples before and after the centre of a stage 7 output that it needs, stage 5's own window left out (R147). -/
def stage7Span (s : State) (d c : Nat) : Nat × Nat :=
  let r := s.rd F.DEC_RATIO.RATIO [d, c]
  match s.rd F.DEC_CTRL.MODE [d, c] with
  | 0 => (0, 0) | 1 => (0, r - 1) | 2 => (18 * r - 2, 18 * r - 2) | _ => (145 * r - 2, 146 * r - 2)

/-- The FIR inputs of output m: u[D·m + 128 − k] for k from 0 to 255, with 8 bits of extra precision (R134). -/
def firInputs (s : State) (d c m : Nat) (y : Int → Int) : List Int :=
  (List.range 256).map fun k => hires (s.rd F.DEC_RATIO.RATIO [d, c]) 8 y (s.rd F.FIR_CTRL.DECIM [d, c] * m + 128 - k)

/-- Stage 7 output m before saturation, in the modes with one value an output (R131 to R134). -/
def stage7 (s : State) (d c m : Nat) (y : Int → Int) : Int :=
  match s.rd F.DEC_CTRL.MODE [d, c] with
  | 2 => hires (s.rd F.DEC_RATIO.RATIO [d, c]) 0 y m
  | 3 => s.firOutput d c m (s.firInputs d c m y)
  | _ => y (m * s.decimation d c : Nat)

/-- Stage 7 outputs that a stored position needs, as first and last: itself, or x[i − 15] to x[i + 16] of the resampler (R142). -/
def outputsOf (s : State) (d c pos : Nat) : Int × Int :=
  if s.isSet F.RSM_CTRL.ENABLE [d, c] then
    let i : Int := (pos * 2 ^ 48 / max 1 (s.rd F.RSM_RATIO.RATIO [d, c]) : Nat)
    (i - 15, i + 16)
  else (pos, pos)

/-- The full-rate samples that a stored position needs, stage 5's own window left out. -/
def samplesOf (s : State) (d c pos : Nat) : Int × Int :=
  let o := s.outputsOf d c pos
  let n := s.decimation d c
  (o.1 * n - (s.stage7Span d c).1, o.2 * n + (s.stage7Span d c).2)

/-- Resampled value at a position, before saturation (R142): ten bits of the place between two inputs name a phase, the next eight weigh it
against the next one. -/
def resampled (s : State) (d c pos : Nat) (x : Int → Int) : Int :=
  let r := max 1 (s.rd F.RSM_RATIO.RATIO [d, c])
  let i : Int := (pos * 2 ^ 48 / r : Nat)
  let place := pos * 2 ^ 48 % r * 2 ^ 18 / r
  let p := place / 256
  let w : Int := (place % 256 : Nat)
  roundDiv ((List.range 32).map fun k => ((256 - w) * Config.rsmTap p k + w * Config.rsmTap (p + 1) k) * x (i - 15 + k)).sum (2 ^ 26)

/-- What a run of stage 3 codes shows of its blocks: clipped codes (R75, R82), and stage 5 values that saturated (R125). -/
def runSeen (s : State) (d c : Nat) (first : Int) (xs : List Int) : State :=
  let ns := (List.range xs.length).map fun i => first + i
  let clip := ns.filter fun n => runAt first xs n = -512 ∨ runAt first xs n = 511
  let sat := ns.filter fun n => runHolds first xs (n - 15) (n + 16) && (s.stage5 d c first xs n).2
  (s.countSamples d c 0 clip).countSamples d c 1 sat

/-- The word that a stored position holds, from a run of stage 3 codes (R131 to R142); none where the run does not hold what it needs. -/
def sampleWord (s : State) (d c pos : Nat) (first : Int) (xs : List Int) : State × Option Nat :=
  let n := s.decimation d c
  let need := s.samplesOf d c pos
  if !runHolds first xs (need.1 - 15) (need.2 + 16) then (s, none)
  else
    let y := fun i => (s.stage5 d c first xs i).1
    if s.format d c = 2 then
      let ys := (List.range n).map fun j => y (pos * n + j : Nat)
      (s, some (sfield 16 (ys.foldl min (y (pos * n : Nat))) + 2 ^ 16 * sfield 16 (ys.foldl max (y (pos * n : Nat)))))
    else
      let o := s.outputsOf d c pos
      let ms := (List.range (o.2 - o.1 + 1).toNat).map fun (k : Nat) => (o.1 + k).toNat
      let sat := (ms.filter fun m => satInt 16 (s.stage7 d c m y) != s.stage7 d c m y).map fun m => (m * n : Int)
      let s := s.countSamples d c 2 sat
      if s.isSet F.RSM_CTRL.ENABLE [d, c] then
        let z := s.resampled d c pos fun m => satInt 16 (s.stage7 d c m.toNat y)
        let at_ : Int := (pos * n * 2 ^ 48 / max 1 (s.rd F.RSM_RATIO.RATIO [d, c]) : Nat)
        (s.countSamples d c 3 (if satInt 16 z = z then [] else [at_]), some (sfield 16 (satInt 16 z)))
      else
        let v := satInt 16 (s.stage7 d c pos y)
        (s, some (if s.format d c = 0 then sfield 10 (p10Code v) else sfield 16 v))

/-- The position that a run of codes is for: the next one of an armed set, else the first one whose samples the run holds; it is discarded
after stage 8 (R122). -/
def runPos (s : State) (d c : Nat) (first : Int) : Nat :=
  if s.armed d c then (s.acqOf d c).next
  else
    let m := ceilDiv (first + 15 + (s.stage7Span d c).1).toNat (max 1 (s.decimation d c))
    if s.isSet F.RSM_CTRL.ENABLE [d, c] then ceilDiv ((m + 15) * s.rd F.RSM_RATIO.RATIO [d, c]) (2 ^ 48) else m

/-- The block in whose core cycle a stored position commits: its output is presented by the table of R147, and held for 64 cycles (R191). -/
def commitBlk (s : State) (d c pos : Nat) : Int :=
  let stage := match s.rd F.DEC_CTRL.MODE [d, c] with | 0 => 2 | 1 => 2 | 2 => 6 | _ => 14
  (s.samplesOf d c pos).2 / (s.blockLen : Nat) + 24 + stage + (if s.isSet F.RSM_CTRL.ENABLE [d, c] then 4 else 0) + 64

-- Restart and settling (R144, R146) ---------------------------------------------------------------------

/-- Settling span in full-rate samples (R146). -/
def settleSpan (s : State) (d c : Nat) : Nat :=
  let r := s.rd F.DEC_RATIO.RATIO [d, c]
  (match s.rd F.DEC_CTRL.MODE [d, c] with
    | 0 => 0 | 1 => r | 2 => 36 * r - 3 | _ => 291 * r - 3)
    + (if s.isSet F.RSM_CTRL.ENABLE [d, c] then 32 * s.decimation d c else 0)

/-- SETTLING clears, with COND_SETTLED (R146). -/
def settled (s : State) (d c : Nat) : State :=
  ((s.wr F.DEC_STATUS.SETTLING [d, c] 0).wr I.settleTimed [d, c] 0).raise d 78 c

/-- The settling span has been processed: cycle 24 of the block of its last sample has come (R146). -/
def settleDue (s : State) (d c : Nat) : Bool := s.isSet I.settleTimed [d, c] && s.rd I.settleBlk [d, c] ≤ s.blkNo d

/-- The conditioning checks of an arm (R145, R146). -/
def condCheck (s : State) (d c : Nat) : Nat :=
  let k := s.condConfig d c
  if k ≠ 0 then k else if s.isSet F.DEC_STATUS.SETTLING [d, c] && !s.settleDue d c then 0x0215 else 0

/-- The sample index took a new origin, or N a new value, since the state `old` (R124): fades keep their place among the outputs, and a
settling span goes on from the block it had reached. -/
def rebase (s old : State) (d c : Nat) : State :=
  let move (n : Nat) : Nat := n + s.firNext d c - old.firNext d c
  let s := { s with fades := s.fades.map fun (f : Fade) => if f.die = d ∧ f.chan = c then { f with first := move f.first } else f }
  let s := s.wr I.fadeAt [d, c] (move (s.rd I.fadeAt [d, c]))
  let s := s.wr I.settleBlk [d, c] (s.rd I.settleBlk [d, c] + s.blkNo d - old.blkNo d)
  s.on (s.blkNo d != old.blkNo d) fun s => s.wr I.eqFrom [d, c] 0

/-- Stages 7 and 8 restart, or start, at the next block boundary (R144, R146). -/
def restartCond (s : State) (d c : Nat) : State :=
  if !s.mode.acquires || s.inert c then s
  else
    let s := s.on (!s.firRunning d c) fun s => s.firStops d c
    let s := s.wr F.RSM_STATUS.ACTIVE [d, c] (s.rd F.RSM_CTRL.ENABLE [d, c])
    if s.condConfig d c ≠ 0 then (s.wr F.DEC_STATUS.SETTLING [d, c] 1).wr I.settleTimed [d, c] 0
    else if s.settleSpan d c = 0 then
      ((s.wr F.DEC_STATUS.SETTLING [d, c] 0).wr I.settleTimed [d, c] 1).wr I.settleBlk [d, c] (s.blkNo d + 1)
    else
      ((s.wr F.DEC_STATUS.SETTLING [d, c] 1).wr I.settleTimed [d, c] 1).wr I.settleBlk [d, c]
        (s.blkNo d + 1 + (s.settleSpan d c - 1) / s.blockLen + 24)

/-- A field of the conditioning configuration changes, and stages 7 and 8 restart (R144). -/
def changeCond (s : State) (d c : Nat) (f : Fld) (v : Nat) : State := ((s.wr f [d, c] v).rebase s d c).restartCond d c

-- Each core cycle (R122, R129, R138) -----------------------------------------------------------------------

/-- A change of EQ_CTRL takes effect, from the first sample of the block that begins now (R129). -/
def eqTick (s : State) (d c : Nat) : State :=
  let bank := s.rd F.EQ_CTRL.BANK [d, c]
  let byp := s.rd F.EQ_CTRL.BYPASS [d, c]
  let was := s.rd F.EQ_STATUS.ACTIVE_BANK [d, c] + 2 * s.rd F.EQ_STATUS.BYPASSED [d, c]
  if s.inert c || was == bank + 2 * byp then s
  else
    let s := (s.wr I.eqPrev [d, c] was).wr I.eqFrom [d, c] (s.blkNo d * s.blockLen)
    let s := (s.wr F.EQ_STATUS.ACTIVE_BANK [d, c] bank).wr F.EQ_STATUS.BYPASSED [d, c] byp
    s.raise d 72 (c + 2 * bank + 4 * byp)

/-- What a core cycle does to the conditioning chains. -/
def condTick (s : State) : State :=
  s.each [(0, 0), (0, 1), (1, 0), (1, 1)] fun s p => (s.eqTick p.1 p.2).fadePos p.1 p.2

/-- The status of a write that an armed channel ignores (R350). -/
abbrev armedCode : Nat := 0x0212

/-- EQ_CTRL (R129): what it changes is in force from the next block. -/
def writeEqCtrl (d c v : Nat) (s : State) : State × Nat :=
  let bank := slice v 0 1
  let byp := slice v 1 1
  if s.rd F.EQ_CTRL.BANK [d, c] = bank ∧ s.rd F.EQ_CTRL.BYPASS [d, c] = byp then (s, 0)
  else if s.armed d c then (s.flag F.EQ_STATUS.CFG_REJECT [d, c], armedCode)
  else ((s.wr F.EQ_CTRL.BANK [d, c] bank).wr F.EQ_CTRL.BYPASS [d, c] byp, 0)

/-- A coefficient write is ignored (R130, R136, R148); kind 0 equaliser, 1 FIR. -/
def coefReject (s : State) (d c kind bank k : Nat) : State :=
  s.stick (if kind = 0 then F.EQ_STATUS.WRITE_REJECT else F.FIR_STATUS.WRITE_REJECT) [d, c] d 76
    (c + 2 * kind + 4 * bank + 2 ^ 8 * k)

/-- EQ_COEF (R130). -/
def writeEqCoef (d c b k v : Nat) (s : State) : State × Nat :=
  if s.rd F.EQ_STATUS.ACTIVE_BANK [d, c] = b ∧ s.armed d c then (s.coefReject d c 0 b k, 0x0222)
  else (s.wr F.EQ_COEF.COEF [d, c, b, k] v, 0)

/-- FIR_COEF (R136). -/
def writeFirCoef (d c b k v : Nat) (s : State) : State × Nat :=
  let fading := s.isSet F.FIR_STATUS.FADING [d, c] || s.fadeDue d c || s.rd I.fadeTouch [d, c] == s.now + 1
  let inUse := s.firRunning d c && (fading || s.rd F.FIR_STATUS.ACTIVE [d, c] == b)
  if inUse && (fading || s.armed d c) then (s.coefReject d c 1 b k, 0x0222)
  else (s.wr F.FIR_COEF.COEF [d, c, b, k] v, 0)

/-- FIR_CTRL, field by field (R137, R144). -/
def writeFirCtrl (d c v : Nat) (s : State) : State × Nat :=
  let dec := slice v 0 5
  let s := s.wr F.FIR_CTRL.FADE_LEN [d, c] (slice v 8 16)
  let change := dec != s.rd F.FIR_CTRL.DECIM [d, c]
  let rejected := change && s.armed d c
  let s := if rejected then s.flag F.FIR_STATUS.CFG_REJECT [d, c] else s.on change fun s => s.changeCond d c F.FIR_CTRL.DECIM dec
  let s := s.on (bitAt v 5) fun s => s.firRequest d c (slice v 6 1) none
  (s, if rejected then armedCode else 0)

/-- A register of the conditioning configuration (R144): no change, ignored with CFG_REJECT while armed, or a restart. -/
def writeCondField (d c : Nat) (f reject : Fld) (v : Nat) (s : State) : State × Nat :=
  if v = s.rd f [d, c] then (s, 0)
  else if s.armed d c then (s.flag reject [d, c], armedCode)
  else (s.changeCond d c f v, 0)

/-- DEC_CTRL (R144). -/
def writeDecCtrl (d c v : Nat) (s : State) : State × Nat := writeCondField d c F.DEC_CTRL.MODE F.DEC_STATUS.CFG_REJECT (slice v 0 2) s

/-- DEC_RATIO (R144). -/
def writeDecRatio (d c v : Nat) (s : State) : State × Nat := writeCondField d c F.DEC_RATIO.RATIO F.DEC_STATUS.CFG_REJECT (slice v 0 25) s

/-- RSM_CTRL (R144). -/
def writeRsmCtrl (d c v : Nat) (s : State) : State × Nat := writeCondField d c F.RSM_CTRL.ENABLE F.RSM_STATUS.CFG_REJECT (slice v 0 1) s

/-- RSM_RATIO, as one 48-bit write (R144). -/
def writeRsmRatio (d c v : Nat) (s : State) : State × Nat := writeCondField d c F.RSM_RATIO.RATIO F.RSM_STATUS.CFG_REJECT (slice v 0 48) s

end State

end Sys2Proof.Machine
end

