-- ==== Sys2Proof/Machine/GuardOps.lean ====
section
/-!
DEFINITION. The stacks: bytes, record space and reserved region, guard symbols and where the cells hold them, and what a decoder gives
(R180 to R190).
-/

namespace Sys2Proof.Machine

-- Where symbols lie (R186) --------------------------------------------------------------------------------

/-- Bits of one pseudo-channel's place of symbols: 512 MiB, a symbol position a byte (R181). -/
def pcSymbols : Nat := 2 ^ 29

/-- Codewords of a stack with W working pseudo-channels: each LPC holds whole chunks of 17 symbols, and four chunks make a codeword
(R181, R186). -/
def codewords (w : Nat) : Nat := w * (pcSymbols / 17) / 4

/-- Bytes of guarded data space: record space, reserved region and what is left unallocated (R181). -/
def guardedBytes (w : Nat) : Nat := 64 * codewords w

/-- The place of a symbol: LPC, chunk number q in it, stream position σ, burst, and DQ pin. -/
structure SymbolPlace where
  lpc : Nat
  q : Nat
  pos : Nat
  burst : Nat
  pin : Nat
  deriving DecidableEq, Repr

/-- The place of symbol k of codeword n in a stack of W pseudo-channels (R186). -/
def symbolPlace (w n k : Nat) : SymbolPlace :=
  let x := 4 * n + k / 17
  let q := x / w
  let pos := 17 * q + k % 17
  ⟨x % w, q, pos, pos / 32, pos % 32⟩

/-- The codeword and the symbol number that stand at stream position σ of an LPC (R186). -/
def symbolAt (w lpc pos : Nat) : Nat × Nat :=
  let x := pos / 17 * w + lpc
  (x / 4, 17 * (x % 4) + pos % 17)

-- The decoder (R187) -----------------------------------------------------------------------------------------

/-- What a decoder gives of a codeword: the symbols it corrects, whether it finds the word uncorrectable, and what stays wrong in the symbols
it hands on. -/
structure Decoded where
  corrected : List Nat
  bad : Bool
  left : List (Nat × Nat)
  deriving DecidableEq, Repr

/-- The errors of a codeword: one entry for each symbol that differs. -/
def symbolErrors (errs : List (Nat × Nat)) : List (Nat × Nat) :=
  (List.range 68).filterMap fun k =>
    let e := (errs.filter (·.1 == k)).foldl (fun v x => Nat.xor v (x.2 % 256)) 0
    if e = 0 then none else some (k, e)

/-- The decoder corrects up to two symbols in error; of more it may make anything (R187). -/
def decodeWord (errs : List (Nat × Nat)) : Decoded :=
  let es := symbolErrors errs
  if es.length ≤ 2 then ⟨es.map (·.1), false, []⟩
  else match Config.miscorrection es with
    | none => ⟨[], true, es⟩
    | some fix => ⟨(symbolErrors fix).map (·.1), false, symbolErrors (es ++ fix)⟩

/-- The value met most often; the first of those met equally often. -/
def mostFrequent (l : List Nat) : Nat :=
  (l.foldl (fun (best : Nat × Nat) p => if best.2 < l.count p then (p, l.count p) else best) (0, 0)).1

/-- Consecutive numbers as runs of first and length. -/
def runsOf : List Nat → List (Nat × Nat)
  | [] => []
  | p :: ps => match runsOf ps with
    | [] => [(p, 1)]
    | (q, n) :: rest => if q = p + 1 then (p, n + 1) :: rest else (p, 1) :: (q, n) :: rest

namespace State

-- Bytes ---------------------------------------------------------------------------------------------------------

/-- The address in `mem` of a data offset of stack h of die d (R180). -/
def memAddr (d h off : Nat) : Nat := (2 * d + h) * 2 ^ 36 + off

/-- A byte of a stack as it was written; a byte that nothing has written reads 0. -/
def memGet (s : State) (a : Nat) : Byte := (sparseGet a s.mem).getD 0

/-- A byte as the read under way gives it: as written, but for what uncorrected cells add (R187, R188). -/
def memSeen (s : State) (a : Nat) : Byte := s.memGet a ^^^ (sparseGet a s.misread).getD 0

/-- The state with one byte of a stack written. -/
def memPut (s : State) (a : Nat) (b : Byte) : State :=
  { s with mem := sparsePut natLt a (if b = 0 then none else some b) s.mem }

/-- Bytes written from an address on. -/
def memPutBytes (s : State) (a : Nat) : List Byte → State
  | [] => s
  | b :: bs => memPutBytes (s.memPut a b) (a + 1) bs

/-- `n` bytes from an address on, as a read gives them. -/
def memBytes (s : State) (a n : Nat) : List Byte := (List.range n).map fun i => s.memSeen (a + i)

/-- A remap hold keeps the writes to a stack waiting (R190). -/
def stackHeld (s : State) (d h : Nat) : Bool := s.isSet F.MEM_STATUS.REMAP_ACTIVE [d, h]

/-- Bytes written to a stack, at once or when its remap hold ends (R190). -/
def memWrite (s : State) (a : Nat) (bs : List Byte) : State :=
  if s.stackHeld (a / 2 ^ 37) (a / 2 ^ 36 % 2) then { s with heldWrites := s.heldWrites ++ [(a, bs)] } else s.memPutBytes a bs

/-- The writes that a remap hold of a stack kept waiting are done, in order (R190). -/
def memRelease (s : State) (d h : Nat) : State :=
  let mine (w : Nat × List Byte) : Bool := w.1 / 2 ^ 36 == 2 * d + h
  ({ s with heldWrites := s.heldWrites.filter fun w => !mine w }).each (s.heldWrites.filter mine) fun s w => s.memPutBytes w.1 w.2

-- The layout of a stack (R180 to R184) ------------------------------------------------------------------------------

/-- Usable depth of a stack in bytes (R182). -/
def depth (s : State) (d h : Nat) : Nat := s.rd F.MEM_DEPTH.MIB [d, h] * 2 ^ 20

/-- Record space of a set in bytes (R183, R184). -/
def recordSpace (s : State) (d a : Nat) : Nat :=
  if a = 2 then 222 * 2 ^ 20
  else if s.paired then 2 * min (s.depth d 0) (s.depth d 1)
  else s.depth d a

/-- The address of a record offset of a set (R183, R184). -/
def recordAddr (s : State) (d a off : Nat) : Nat :=
  if a = 2 then memAddr d 0 (s.depth d 0 + 290 * 2 ^ 20 + off)
  else if s.paired then memAddr d (off / 4096 % 2) (off / 8192 * 4096 + off % 4096)
  else memAddr d a off

/-- The set whose record space holds a data offset of stack h, and the record offset (R183, R184). -/
def recordOffset (s : State) (d h off : Nat) : Option (Nat × Nat) :=
  let logic := s.depth d 0 + 290 * 2 ^ 20
  if h = 0 ∧ logic ≤ off ∧ off < logic + 222 * 2 ^ 20 then some (2, off - logic)
  else
    let a := if s.paired then 0 else h
    let o := if s.paired then (off / 4096 * 2 + h) * 4096 + off % 4096 else off
    if o < s.recordSpace d a then some (a, o) else none

/-- The address of a segment record (R183, R204). -/
def segRecAddr (s : State) (d a slot : Nat) : Nat :=
  match a with
  | 2 => memAddr d 0 (s.depth d 0 + 288 * 2 ^ 20 + 64 * slot)
  | 1 => memAddr d 1 (s.depth d 1 + 64 * slot)
  | _ => memAddr d 0 (s.depth d 0 + 64 * slot)

/-- The gap log of a set (R183). -/
def gapLog (s : State) (a : Nat) : Nat := if a = 1 ∨ (a = 2 ∧ s.paired) then 1 else 0

/-- The address of entry n of gap log l. -/
def gapLogAddr (s : State) (d l n : Nat) : Nat := memAddr d l (s.depth d l + 256 * 2 ^ 20 + 32 * (n % 1048576))

/-- Write stored sample number n of a set's record space, counted from a byte offset: the samples lie side by side (R86 to R89). -/
def writeSample (s : State) (d a base n bits v : Nat) : State :=
  let b0 := n * bits / 8
  let lo := n * bits % 8
  let len := (lo + bits + 7) / 8
  let addrs := (List.range len).map fun j => s.recordAddr d a (base + b0 + j)
  let old := ofLe (addrs.map s.memGet)
  let new := old - slice old lo bits * 2 ^ lo + v % 2 ^ bits * 2 ^ lo
  (addrs.zip (le len new)).foldl (fun s p => s.memPut p.1 p.2) s

/-- Stored sample number n of a set's record space, counted from a byte offset, as a read gives it. -/
def readSample (s : State) (d a base n bits : Nat) : Nat :=
  let b0 := n * bits / 8
  let lo := n * bits % 8
  slice (ofLe ((List.range ((lo + bits + 7) / 8)).map fun j => s.memSeen (s.recordAddr d a (base + b0 + j)))) lo bits

-- What the cells hold (R186, R189) ------------------------------------------------------------------------------------

/-- Working pseudo-channels of a stack (R180). -/
def workingPcs (s : State) (d h : Nat) : Nat := s.rd F.MEM_STATUS.W [d, h]

/-- Symbol k of codeword n of a stack, as it was written: a data byte, or a guard symbol over the data (R186). -/
def symbol (s : State) (d h n k : Nat) : Byte :=
  if k < 64 then s.memGet (memAddr d h (64 * n + k))
  else Config.guardSymbol ((List.range 64).map fun j => s.memGet (memAddr d h (64 * n + j))) (k - 64)

/-- What burst i of an LPC carries in a beat: bit `beat` of the symbol on each of the 32 DQ pins; a position beyond the last codeword holds
no symbol (R181, R186). -/
def burstBeat (s : State) (d h lpc i beat : Nat) : List (Option Bool) :=
  (List.range 32).map fun pin =>
    let x := symbolAt (s.workingPcs d h) lpc (32 * i + pin)
    if (32 * i + pin) / 17 < pcSymbols / 17 ∧ x.1 < codewords (s.workingPcs d h) then some (bitAt (s.symbol d h x.1 x.2).toNat beat) else none

/-- The physical pseudo-channel that holds symbol k of codeword n (R180, R186). -/
def symbolPc (s : State) (d h n k : Nat) : Nat := s.rd F.MEM_PC_MAP.PHYS [d, h, (symbolPlace (max 1 (s.workingPcs d h)) n k).lpc]

/-- A codeword was corrected: MEM_PC_CE of every pseudo-channel that held a corrected symbol (R189). -/
def noteCorrected (s : State) (d h n : Nat) (ks : List Nat) : State :=
  s.each ((ks.map (s.symbolPc d h n)).eraseDups) fun s p => s.incSat F.MEM_PC_CE.COUNT [d, h, p]

/-- The bytes of a codeword's data that a read gives otherwise than they were written. -/
def misreadOf (d : Nat) (w : ReadWord) (left : List (Nat × Nat)) : List Host.Cell :=
  (left.filter fun e => e.1 < 64).map fun e => (memAddr d w.stack (64 * w.word + e.1), BitVec.ofNat 8 e.2)

/-- A read with the codewords that its cells give in error (R187 to R189): corrected ones are counted, what stays wrong is read as it is. -/
def reading (s : State) (d : Nat) (ws : List ReadWord) (f : State → State) : State :=
  let s := s.each ws fun s w =>
    let r := decodeWord w.errs
    { s.noteCorrected d w.stack w.word r.corrected with misread := misreadOf d w r.left ++ s.misread }
  { f s with misread := [] }

end State

end Sys2Proof.Machine
end

