-- ==== Sys2Proof/Machine/AcqOps.lean ====
section
/-!
DEFINITION. Acquisition memory, segments, marks, gaps and the elastic buffer (R180 to R218).
-/

namespace Sys2Proof.Machine

namespace State

-- Descriptions --------------------------------------------------------------------------------------

/-- SOURCE of marks, gaps and chunks (R204, R208). -/
def sourceBits (d a : Nat) : Nat := if a = 2 then 4 else 2 * d + a

/-- The set streams (R198, R207). -/
def streaming (s : State) (d a : Nat) : Bool := s.isSet F.ACQ_CTRL.DISC [d, a]

/-- The STATE field of a set. -/
def acqState (s : State) (d a : Nat) : Nat := s.rd F.ACQ_STATUS.STATE [d, a]

/-- ACQ_STATE is raised (R220). -/
def raiseAcqState (s : State) (d a cause : Nat) : State := s.raise d 121 (a + 4 * s.acqState d a + 2 ^ 8 * cause)

-- Marks and gap records ------------------------------------------------------------------------------

/-- The 32 bytes of a placed mark (R210). -/
def markBytes (d a : Nat) (m : WaitMark) : List Byte :=
  le 8 (m.dt / 4096) ++ le 2 (m.dt % 4096) ++ le 1 m.kind ++ le 1 (sourceBits d a) ++ le 2 m.flags ++ le 2 m.terms
    ++ le 8 m.position ++ le 4 m.payload ++ le 4 m.seq

/-- A record can be written to ring q of the die now. -/
def ringRoom (s : State) (d q : Nat) : Bool := s.queEnabled d q && !s.ringFull d q

/-- MARKS_HELD follows the marks that wait (R211). -/
def syncMarks (s : State) (d a : Nat) : State :=
  s.wr F.STR_STATUS.MARKS_HELD [d, a] (min 1024 ((s.acqOf d a).markWait.filter (·.placed)).length)

/-- Write waiting marks to the mark ring while it has room, at most `fuel` (R211). -/
def drainMarks (d a : Nat) : Nat → State → State
  | 0, s => s
  | n + 1, s =>
    let x := s.acqOf d a
    match x.markWait with
    | m :: rest =>
      if m.placed && s.ringRoom d (s.rd F.STR_AUX_RINGS.MARK_Q [d, a]) then
        let s := (s.setAcq d a { x with markWait := rest }).syncMarks d a
        drainMarks d a n (s.pushRecord d (s.rd F.STR_AUX_RINGS.MARK_Q [d, a]) (markBytes d a m) none true (s.blkOf d))
      else s
    | [] => s

/-- A mark is lost: it takes its MARK_SEQ all the same (R211). -/
def loseMark (s : State) (d a : Nat) : State :=
  ((s.inc F.STR_MARK_SEQ.SEQ [d, a]).count F.STR_MARK_LOST_COUNT.COUNT [d, a] 1).stick F.STR_STATUS.MARK_LOST [d, a] d 124 a

/-- A mark with its position, its flags and its number fixed joins the marks that wait, or is lost (R210, R211). -/
def placeMark (s : State) (d a : Nat) (m : WaitMark) (inGap : Bool) (position : Nat) (segment : Bool) : State :=
  let x := s.acqOf d a
  if 1024 ≤ (x.markWait.filter (·.placed)).length then s.loseMark d a
  else
    let m := { m with
      placed := true, position, seq := s.rd F.STR_MARK_SEQ.SEQ [d, a]
      flags := m.flags + 2 ^ 5 * b2n segment + 2 ^ 6 * b2n inGap }
    let s := s.inc F.STR_MARK_SEQ.SEQ [d, a]
    let s := s.setAcq d a { x with
      markWait := x.markWait.filter (·.placed) ++ [m] ++ x.markWait.filter fun w => !w.placed
      markPos := if s.streaming d a || s.acqState d a == 3 then x.markPos ++ [(m.pos, m.seq)] else x.markPos }
    drainMarks d a 1 (s.syncMarks d a)

/-- Fix the marks whose stored sample is the position that commits (R210). -/
def settleMarks (s : State) (d a pos : Nat) (inGap : Bool) (index : Nat) : State :=
  let x := s.acqOf d a
  let mine := x.markWait.filter fun m => !m.placed && m.pos ≤ pos
  let s := s.setAcq d a { x with markWait := x.markWait.filter fun m => m.placed || pos < m.pos }
  s.each mine fun s m =>
    if s.streaming d a then s.placeMark d a m inGap index false
    else if x.seg.isOpen then s.placeMark d a m inGap x.seg.seq true
    else s.placeMark d a m true (2 ^ 64 - 1) false

/-- The stop position of a set: positions from it on are not stored (R196). -/
def beforeStop (s : State) (d a pos : Nat) : Bool :=
  match (s.acqOf d a).stopAt with
  | none => true
  | some t => s.gridDtOf d a pos < t

/-- A position that has passed holds no stored sample (R210): it lies in the open gap, or in a gap record of a cause that keeps samples from
being stored. -/
def inGap (s : State) (d a pos : Nat) : Bool :=
  let x := s.acqOf d a
  (x.gap.map fun g => decide (g.first ≤ pos)).getD false
    || x.gaps.any fun g => decide (g.first ≤ pos ∧ pos < g.first + g.len) && g.cause != 2 && g.cause != 6 && g.cause != 8

/-- SEQ of the segment that was open as a position committed; none while the record queue was full (R210). -/
def segAt (s : State) (d a pos : Nat) : Option Nat :=
  let x := s.acqOf d a
  if (x.gap.map fun g => g.cause == 9 && decide (g.first ≤ pos)).getD false
      || x.gaps.any (fun g => g.cause == 9 && decide (g.first ≤ pos ∧ pos < g.first + g.len)) then none
  else (x.segs.find? fun e => decide (e.1 ≤ pos)).map (·.2)

/-- A mark for a set, written only for an armed set and within its stream (R210). -/
def mark (s : State) (d a kind : Nat) (dt : Instant) (flags terms payload : Nat) : State :=
  let x := s.acqOf d a
  let pos := s.gridAtOrAfter d a dt
  if !s.armed d a || pos < x.first || !s.beforeStop d a pos then s
  else
    let m : WaitMark := ⟨pos, kind, dt, flags + 16 * b2n (s.coastMeets d (dt / 4096) (dt / 4096)), terms, payload, false, 0, 0⟩
    if pos < x.next then
      if s.streaming d a then s.placeMark d a m (s.inGap d a pos) (if a = 2 then pos else pos - x.first) false
      else match s.segAt d a pos with
        | some seq => s.placeMark d a m (s.inGap d a pos) seq true
        | none => s.placeMark d a m true (2 ^ 64 - 1) false
    else s.setAcq d a { x with markWait := x.markWait ++ [m] }

/-- The 32 bytes of a gap record (R214). -/
def gapBytes (dt : Instant) (cause source len flags seq refNo : Nat) : List Byte :=
  le 8 (dt / 4096) ++ le 2 (dt % 4096) ++ le 1 cause ++ le 1 source ++ le 5 len ++ le 1 flags ++ le 2 0 ++ le 4 seq ++ le 8 refNo

/-- GAP_SEQ of the next record. -/
def gapSeq (s : State) (d a : Nat) : Nat := s.rd F.STR_GAP_SEQ.SEQ [d, a]

/-- Write waiting gap records to the gap ring while it has room, at most `fuel` (R216). -/
def drainGaps (d a : Nat) : Nat → State → State
  | 0, s => s
  | n + 1, s =>
    let x := s.acqOf d a
    match x.gapWait with
    | g :: rest =>
      if s.ringRoom d (s.rd F.STR_AUX_RINGS.GAP_Q [d, a]) then
        drainGaps d a n ((s.setAcq d a { x with gapWait := rest }).pushRecord d (s.rd F.STR_AUX_RINGS.GAP_Q [d, a]) g.2 none true (s.blkOf d))
      else s
    | [] => s

/-- One gap record: to the gap log, and to the gap ring or the records that wait for it (R216). -/
def logGap (s : State) (d a cause first len : Nat) (bytes : List Byte) : State :=
  let l := s.gapLog a
  let n := s.rd I.gapLogIdx [d, l]
  let x := s.acqOf d a
  let seq := s.gapSeq d a
  let s := (s.memWrite (s.gapLogAddr d l n) bytes).inc I.gapLogIdx [d, l]
  let s := s.inc F.STR_GAP_SEQ.SEQ [d, a]
  let s := s.setAcq d a { x with gaps := x.gaps ++ [⟨seq, cause, first, len⟩], gapWait := x.gapWait ++ [(n, bytes)] }
  let s := s.each [0, 1, 2] fun s b =>
    s.on (s.gapLog b == l && (s.acqOf d b).gapWait.any fun g => decide (g.1 + 1048576 ≤ n)) fun s =>
      s.stick F.STR_STATUS.GAP_LOG_WRAP [d, b] d 125 b
  drainGaps d a 1 s

/-- Greatest LENGTH of a gap record (R214). -/
def gapMax : Nat := 2 ^ 40 - 1

/-- Length in the unit of gap records: stored samples, or logic sample periods of 8 ticks (R214). -/
def gapUnits (a len : Nat) : Nat := if a = 2 then ceilDiv len 8 else len

/-- A SYN coast meets the span between two positions of a set (R57). -/
def coastIn (s : State) (d a p q : Nat) : Bool := s.coastMeets d (s.gridDtOf d a p / 4096) (s.gridDtOf d a q / 4096)

/-- The records of a gap; a gap longer than 2^40 − 1 takes several, all but the last CONTINUED (R214). -/
def gapRecord (s : State) (d a cause first len refNo flags : Nat) : State :=
  let units := gapUnits a len
  let per := if a = 2 then 8 else 1
  let n := max 1 (ceilDiv units gapMax)
  s.each (List.range n) fun s k =>
    let l := min gapMax (units - k * gapMax)
    let p := first + k * gapMax * per
    s.logGap d a cause p (l * per) (gapBytes (s.gridDtOf d a p) cause (sourceBits d a) l
      (flags + 2 * b2n (k + 1 < n) + 8 * b2n (s.coastIn d a p (p + l * per - 1))) (s.gapSeq d a) (refNo + k * gapMax * per))

-- The elastic buffer -----------------------------------------------------------------------------------

/-- Bytes of the elastic or spill buffer of a set (R206, R207). -/
def bufBytes (s : State) (d a : Nat) : Nat :=
  if s.streaming d a then s.recordSpace d a else s.rd F.ACQ_SPILL_BUF.MIB [d, a] * 2 ^ 20

/-- Where the buffer begins in the record space: a spill buffer lies at its top (R206, R207). -/
def bufBase (s : State) (d a : Nat) : Nat := if s.streaming d a then 0 else s.recordSpace d a - s.rd F.ACQ_SPILL_BUF.MIB [d, a] * 2 ^ 20

/-- Stored samples of a format that fit a number of bytes: P10 in whole groups (R185, R207). -/
def samplesIn (format bytes : Nat) : Nat := if format = 0 then bytes / 80 * 64 else bytes / (formatBits format / 8)

/-- Stored samples that the buffer holds (R185, R212). -/
def bufSlots (s : State) (d a : Nat) : Nat := samplesIn (s.format d a) (s.bufBytes d a)

/-- Payload samples of a full chunk: whole P10 groups, or whole samples (R207). -/
def chunkRoom (s : State) (d a : Nat) : Nat := samplesIn (s.format d a) (2 ^ s.rd F.STR_CTRL.CHUNK_LOG2 [d, a] - 64)

/-- The fill of the buffer shows in STR_FILL. -/
def syncFill (s : State) (d a : Nat) : State := s.wr F.STR_FILL.MIB [d, a] ((s.acqOf d a).buf.fill / 2 ^ 23)

/-- The buffer of a set replaced. -/
def setBuf (s : State) (d a : Nat) (b : ElasticBuf) : State := (s.setAcq d a { s.acqOf d a with buf := b }).syncFill d a

/-- A chunk as it closes: LOCK_COAST where its span meets a coast (R57, R208). -/
def chunkDone (s : State) (d a : Nat) (c : Chunk) : Chunk :=
  { c with flags := c.flags + 8 * b2n (0 < c.count && s.coastIn d a c.firstPos c.lastPos) }

/-- The chunk being filled closes (R209). -/
def closeChunk (s : State) (d a : Nat) : State :=
  let b := (s.acqOf d a).buf
  match b.cur with
  | none => s
  | some c => s.setBuf d a { b with cur := none, closed := b.closed ++ [s.chunkDone d a c] }

/-- FLAGS of a chunk that opens now (R208): FIRST, GAP, SPILL. -/
def chunkFlags (s : State) (d a : Nat) (b : ElasticBuf) : Nat := b2n b.firstFlag + 4 * b2n b.gapBefore.isSome + 16 * b2n (!s.streaming d a)

/-- A chunk that begins with a stored sample. -/
def openChunk (s : State) (d a pos index : Nat) (b : ElasticBuf) : Chunk :=
  { firstIndex := index, firstDt := s.gridDtOf d a pos, flags := s.chunkFlags d a b, gapSeq := b.gapBefore.getD (2 ^ 32 - 1),
    spillSeq := if s.streaming d a then 2 ^ 64 - 1 else (s.acqOf d a).seg.seq, count := 0, place := b.put, firstPos := pos, lastPos := pos,
    opened := s.blkOf d, head := [] }

/-- A stored sample enters the buffer, which the samples fill in a circle (R207, R209). -/
def bufAppend (s : State) (d a pos index bits v : Nat) : State :=
  let b := (s.acqOf d a).buf
  let c := b.cur.getD (s.openChunk d a pos index b)
  let s := s.writeSample d a (s.bufBase d a) (b.put % max 1 (s.bufSlots d a)) bits v
  let c := { c with count := c.count + 1, lastPos := pos }
  let s := s.setBuf d a { b with fill := b.fill + bits, put := b.put + 1, cur := some c, firstFlag := false, gapBefore := none }
  s.on (s.chunkRoom d a ≤ c.count) fun s => s.closeChunk d a

/-- The stored samples of a chunk, as a read gives them. -/
def chunkSamples (s : State) (d a : Nat) (c : Chunk) : List Nat :=
  (List.range c.count).map fun k =>
    s.readSample d a (s.bufBase d a) ((c.place + k) % max 1 (s.bufSlots d a)) (formatBits (s.format d a))

/-- BACKPRESSURE changes, with its event (R212, R220). -/
def setBackpressure (s : State) (d a v : Nat) : State := (s.wr F.STR_STATUS.BACKPRESSURE [d, a] v).raise d 123 (a + 4 * v)

/-- The set's buffer has no room for `n` more stored samples (R185, R212). -/
def bufFull (s : State) (d a n : Nat) : Bool := s.bufSlots d a < (s.acqOf d a).buf.fill / formatBits (s.format d a) + n

-- Gaps that are open --------------------------------------------------------------------------------------

/-- The open gap ends: its records are written, and the next chunk names it (R209, R214). -/
def closeGap (s : State) (d a : Nat) : State :=
  let x := s.acqOf d a
  match x.gap with
  | none => s
  | some g =>
    let seq := s.gapSeq d a
    let len := if a = 2 then x.next - g.first else g.len
    let s := (s.setAcq d a { x with gap := none }).gapRecord d a g.cause g.first len g.refNo 0
    let b := (s.acqOf d a).buf
    s.setBuf d a { b with gapBefore := some (b.gapBefore.getD seq) }

/-- A position is not stored: it joins the open gap of its cause, or opens one (R85, R190, R202, R212). -/
def dropPos (s : State) (d a pos cause refNo : Nat) : State :=
  let x := s.acqOf d a
  let same := match x.gap with | some g => g.cause == cause && g.first + g.len == pos | none => false
  if same then s.setAcq d a { x with gap := x.gap.map fun g => { g with len := g.len + 1 } }
  else
    let s := (s.closeGap d a).closeChunk d a
    s.setAcq d a { s.acqOf d a with gap := some ⟨cause, pos, 1, refNo⟩ }

-- Logic records (R89, R217, R218, R271) ------------------------------------------------------------------

/-- A control word of kind k. -/
def lcControl (k : Nat) : Nat := k * 2 ^ 60

/-- The three words of an ANCHOR. -/
def anchorWords (w : LcWriter) : List Nat := [lcControl 1, w.lastTick, w.lastState + 2 ^ 16 * w.lastMask]

/-- The words of a change: an UNRES record first where the mask differs from the one last written. -/
def changeWords (w : LcWriter) (tick state mask : Nat) : List Nat :=
  (if mask = w.lastMask then [] else [lcControl 2, mask]) ++ [dtSub tick w.lastTick % 2 ^ 48 + state * 2 ^ 48]

/-- Words into the open slot, circularly. -/
def lcSlotWords (s : State) (d : Nat) (ws : List Nat) : State :=
  let len := max 1 (s.rd F.ACQ_SEG_LEN.LEN [d, 2])
  s.each ws fun s v =>
    let x := s.acqOf d 2
    let s := s.writeSample d 2 (x.seg.slot * len * 8) (x.lc.words % len) 64 v
    s.setAcq d 2 { x with lc := { x.lc with words := x.lc.words + 1 } }

/-- A run of 512 words begins with an ANCHOR; the run it overwrites is no longer held. -/
def lcOpenRun (s : State) (d : Nat) : State :=
  let x := s.acqOf d 2
  let len := s.rd F.ACQ_SEG_LEN.LEN [d, 2]
  let w := ceilDiv x.lc.words 512 * 512
  let lc := { x.lc with words := w, runs := (x.lc.runs.filter fun r => w < r.1 + len) ++ [(w, x.lc.lastTick)] }
  (s.setAcq d 2 { x with lc }).lcSlotWords d (anchorWords lc)

/-- The next run would overwrite the run that holds the trigger tick. -/
def lcBlocked (s : State) (d : Nat) : Bool :=
  let x := s.acqOf d 2
  let w := ceilDiv x.lc.words 512 * 512
  match x.seg.trig with
  | none => false
  | some (t, _) => match (x.lc.runs.filter fun r => r.2 ≤ t).getLast? with
    | some r => decide (r.1 + s.rd F.ACQ_SEG_LEN.LEN [d, 2] ≤ w)
    | none => false

/-- The words of one record reach the open slot, in a run that has room for them all (R217), or are dropped from a tick on (R218). -/
def lcSlotRecord (s : State) (d tick : Nat) (ws : List Nat) : State :=
  let x := s.acqOf d 2
  if x.lc.dropFrom.isSome then s
  else if x.lc.words % 512 ≠ 0 ∧ x.lc.words % 512 + ws.length ≤ 512 then s.lcSlotWords d ws
  else if s.lcBlocked d then s.setAcq d 2 { x with lc := { x.lc with dropFrom := some tick } }
  else (s.lcOpenRun d).lcSlotWords d ws

/-- A gap of the logic set opens after the last record (R209). -/
def lcOpenGap (s : State) (d cause : Nat) : State :=
  let x := s.acqOf d 2
  if x.gap.isSome then s
  else
    let s := s.closeChunk d 2
    let first := x.lc.lastTick + 8
    let refNo := if s.streaming d 2 then first else x.seg.seq
    s.setAcq d 2 { s.acqOf d 2 with gap := some ⟨cause, first, 0, refNo⟩ }

/-- A chunk of the logic stream opens with an ANCHOR at a tick (R208, R217). -/
def lcOpenChunk (s : State) (d : Nat) : State :=
  let x := s.acqOf d 2
  if x.buf.cur.isSome then s
  else s.each (anchorWords x.lc) fun s v => s.bufAppend d 2 x.lc.lastTick x.lc.lastTick 64 v

/-- The words of one record reach the elastic buffer (R207, R212). -/
def lcStreamRecord (s : State) (d tick : Nat) (ws : List Nat) : State :=
  if s.isSet F.STR_STATUS.BACKPRESSURE [d, 2] then s
  else if s.bufFull d 2 (ws.length + 3) then (s.setBackpressure d 2 1).lcOpenGap d 1
  else
    let s := s.on (decide (s.chunkRoom d 2 < ((((s.acqOf d 2).buf.cur.map fun c => c.count).getD 0) + ws.length))) fun s => s.closeChunk d 2
    (s.lcOpenChunk d).each ws fun s v => s.bufAppend d 2 tick tick 64 v

/-- A gap of the logic set ends at a tick: an ANCHOR opens what follows (R209, R217). -/
def lcResume (s : State) (d tick state mask : Nat) : State :=
  let x := s.acqOf d 2
  if x.gap.isNone then s
  else
    let s := (s.setAcq d 2 { x with next := max x.next tick }).closeGap d 2
    let x := s.acqOf d 2
    let s := s.setAcq d 2 { x with lc := { x.lc with lastTick := tick, lastState := state, lastMask := mask } }
    if s.streaming d 2 then s.lcOpenChunk d else s.lcOpenRun d

/-- The held range of a logic segment is cut to the oldest ANCHOR still held (R218). -/
def lcTrim (s : State) (d : Nat) : State :=
  let x := s.acqOf d 2
  match x.seg.trig, x.lc.runs.head? with
  | some (t, _), some r =>
    let first := x.seg.firstHeld
    let held := min t r.2
    if first < held then
      let s := s.gapRecord d 2 7 first (held - first) x.seg.seq 0
      s.setAcq d 2 { s.acqOf d 2 with seg := { x.seg with firstHeld := held } }
    else s
  | _, _ => s

/-- The word, counted from the opening of the segment, at which the run starts that holds the first tick of a logic segment. -/
def lcStartWord (s : State) (d : Nat) : Nat :=
  let x := s.acqOf d 2
  ((x.lc.runs.filter fun r => r.2 ≤ x.seg.firstHeld).getLast?.map (·.1)).getD ((x.lc.runs.head?.map (·.1)).getD 0)

/-- Slot offset of that run. -/
def lcStart (s : State) (d : Nat) : Nat := s.lcStartWord d % max 1 (s.rd F.ACQ_SEG_LEN.LEN [d, 2])

-- Segments (R198 to R206) -----------------------------------------------------------------------------------

/-- Byte 15 of the record of a slot without VALID (R202). -/
def clearValid (s : State) (d a slot : Nat) : State :=
  let p := s.segRecAddr d a slot + 15
  s.memWrite p [BitVec.ofNat 8 ((s.memGet p).toNat % 128)]

/-- A segment opens in a slot from a position on (R198, R202, R205). -/
def openSeg (s : State) (d a slot seq o : Nat) : State :=
  let x := s.acqOf d a
  let seg := { OpenSeg.none with isOpen := true, o, from_ := x.next, slot, seq, began := s.now, overwritten := x.validSlots.contains slot }
  let s := s.setAcq d a { x with seg, segs := (x.next, seq) :: x.segs, validSlots := x.validSlots.filter (· != slot), lc := { x.lc with words := 0, runs := [], dropFrom := none } }
  let s := s.on (a == 2) fun s => s.lcOpenRun d
  let s := s.on (s.isSet I.swapDone [d, a] && s.rd I.swapSeg [d, a] == o + 1) fun s =>
    (s.setAcq d a { s.acqOf d a with seg := { (s.acqOf d a).seg with rethreaded := true } }).wr I.swapDone [d, a] 0
  let s := { s with library := s.library.filter fun e => !(e.die == d && e.set == a && e.recd.slot == slot) }
  ((s.clearValid d a slot).wr F.ACQ_OPEN_SLOT.SLOT [d, a] slot).wr F.ACQ_STATUS.STATE [d, a] 1

/-- Flags of a trigger descriptor in records and marks (R205, R210). -/
def descFlags (t : TrigDesc) : Nat := b2n t.forced + 2 * b2n t.coincident + 4 * b2n t.late + 8 * b2n t.slow

/-- PHASE: 0 IDLE, 1 RUN, 2 DEAD, 3 HOLDOFF (R169). -/
def seqPhase (s : State) (d q : Nat) : Nat := s.rd F.TRG_SEQ_STATUS.PHASE [d, q]

/-- Set a of die d takes its triggers from Skein frames (R422). -/
def skeinSelected (s : State) (d a : Nat) : Bool :=
  bitAt (s.rd (if d = 0 then F.SKN_TRIG_SEL.DIE0 else F.SKN_TRIG_SEL.DIE1) []) a

/-- The sequencer that a set is assigned to (R149). -/
def seqOf (s : State) (d a : Nat) : Nat := if a = 2 then s.rd F.TRG_CTRL.LOGIC_SEQ [d] else s.rd F.TRG_CH_CFG.SEQ [d, a]

/-- The armed sets that take the triggers of a sequencer (R149, R422). -/
def seqSets (s : State) (d q : Nat) : List Nat :=
  (List.range 3).filter fun a => s.armed d a && s.seqOf d a == q && !s.skeinSelected d a

/-- A sequencer is armed while a channel assigned to it is (R149). -/
def seqArmed (s : State) (d q : Nat) : Bool := !(s.seqSets d q).isEmpty

/-- Sequencers of the die with no armed channel go to IDLE (R169). -/
def seqDisarm (s : State) (d : Nat) : State :=
  [0, 1].foldl (fun s q => s.on (!s.seqArmed d q) fun s => s.wr F.TRG_SEQ_STATUS.PHASE [d, q] 0) s

/-- An armed set ends: IDLE, its open gap closed, ACQ_STATE raised with a cause, its sequencer idle where it has no other armed set (R169,
R196, R203, R213, R401). -/
def idleSet (s : State) (d a cause : Nat) : State :=
  let s := s.closeGap d a
  let s := if s.streaming d a ∨ s.acqState d a = 3 then
      let b := (s.acqOf d a).buf
      let x := s.acqOf d a
      let idx := s.rd F.STR_INDEX.INDEX [d, a]
      let c := b.cur.getD (s.openChunk d a x.next (if a = 2 then x.next else idx) b)
      (s.setBuf d a { b with cur := none, closed := b.closed ++ [s.chunkDone d a { c with flags := c.flags + 2 }], firstFlag := true, gapBefore := none })
    else s
  let x := s.acqOf d a
  let s := s.setAcq d a { x with seg := { x.seg with isOpen := false, trig := none }, stopAt := none, markWait := x.markWait.filter (·.placed) }
  ((s.wr F.ACQ_STATUS.STATE [d, a] 0).raiseAcqState d a cause).seqDisarm d

/-- What a completed segment holds in memory: pre-trigger samples or ticks, and post-trigger samples (R201, R204, R218). -/
def heldCounts (s : State) (d a t : Nat) : Nat × Nat :=
  let x := s.acqOf d a
  let end_ := min (t + x.seg.postMem) x.next
  let end_ := if a = 2 then min end_ (x.lc.dropFrom.getD end_) else end_
  (min t end_ - x.seg.firstHeld, end_ - max t x.seg.firstHeld)

/-- The record of the segment that completes (R204, R205). `extra` holds flags that only this completion sets. -/
def segRecord (s : State) (d a t : Nat) (desc : TrigDesc) (extra : Nat) : SegRec :=
  let x := s.acqOf d a
  let g := x.seg
  let post := s.rd F.ACQ_POST.POST [d, a]
  let pre := s.rd F.ACQ_PRE.PRE [d, a]
  let len := s.rd F.ACQ_SEG_LEN.LEN [d, a]
  let first := s.gridDtOf d a (t - pre) / 4096
  let last := s.gridDtOf d a (min (t + post) x.next - 1) / 4096
  let held := s.heldCounts d a t
  let flags := descFlags desc + 16 * b2n (s.coastMeets d first last) + 2 ^ 6 * b2n (0 < g.spilled) + 2 ^ 7 * b2n (t < g.o + pre)
    + 2 ^ 10 * b2n (a < 2 && s.spanMeets .overload d a first last) + 2 ^ 11 * b2n g.rethreaded + 2 ^ 14 * b2n g.overwritten + extra
  { slot := g.slot, seq := g.seq, desc, flags := Nat.lor flags (2 ^ 8 * b2n (a == 2 && x.lc.dropFrom.isSome)),
    startOfs := if a = 2 then s.lcStart d else (g.firstHeld - g.o) % max 1 len,
    preCount := held.1, postMem := held.2,
    spillIndex := if g.spilled = 0 then 2 ^ 64 - 1 else g.spillIndex,
    nomFirst := (t : Int) - pre, nomLast := (t : Int) + post - 1, first := g.firstHeld, format := s.format d a, len,
    firstAt := s.gridDtOf d a g.firstHeld, period := s.gridPeriod d a, words := if a = 2 then x.lc.words - s.lcStartWord d else 0,
    paired := s.paired, began := g.began }

/-- The segment completes: its record is queued, and the next one opens, waits, or the set enters IDLE (R198, R202, R203).
`extra` holds flags that only this completion sets; `last` that no other segment follows. -/
def completeSeg (s : State) (d a : Nat) (extra : Nat) (last : Bool) : State :=
  let s := s.on (a == 2) fun s => s.lcTrim d
  let x := s.acqOf d a
  match x.seg.trig with
  | none => s
  | some (t, desc) =>
    let g := x.seg
    let post := s.rd F.ACQ_POST.POST [d, a]
    let s := match (if a = 2 then x.lc.dropFrom else none) with
      | some p => s.gapRecord d a 7 p (t + post - p) g.seq 0
      | none => s
    let r := s.segRecord d a t desc extra
    let s := s.on (s.acqState d a == 3) fun s => (s.closeChunk d a).raise d 122 (a + 4)
    let x := s.acqOf d a
    let s := s.setAcq d a { x with
      recQueue := x.recQueue ++ [r], headSince := if x.recQueue = [] then s.now else x.headSince,
      seg := { x.seg with isOpen := false, trig := none } }
    if last then s
    else if !s.isSet F.ACQ_CTRL.WRAP [d, a] && g.slot + 1 == s.rd F.ACQ_NSEG.NSEG [d, a] then s.idleSet d a 2
    else
      let next := (g.slot + 1) % max 1 (s.rd F.ACQ_NSEG.NSEG [d, a])
      if 16 ≤ (s.acqOf d a).recQueue.length then
        let x := s.acqOf d a
        let gap := if a = 2 then some ⟨9, t + post, 0, g.seq⟩ else x.gap
        (s.setAcq d a { x with gap, seg := { x.seg with slot := next, seq := g.seq + 1 } }).wr F.ACQ_STATUS.STATE [d, a] 5
      else s.openSeg d a next (g.seq + 1) (t + (if g.spilled = 0 then g.postMem else post))

/-- A spill begins (R206). -/
def beginSpill (s : State) (d a : Nat) : State :=
  let x := s.acqOf d a
  let idx := s.rd F.STR_INDEX.INDEX [d, a]
  let s := s.setAcq d a { x with seg := { x.seg with spillIndex := idx }, buf := { x.buf with firstFlag := true } }
  let s := (s.wr F.ACQ_STATUS.STATE [d, a] 3).raise d 122 a
  s.placeMark d a ⟨x.next, 5, s.gridDtOf d a x.next, 16 * b2n (s.coastIn d a x.next x.next), 0, trunc 32 x.seg.seq, false, 0, 0⟩ false idx false

/-- The segment machine looks at what has committed: POST may end in a spill or in completion, SPILL in completion (R198). -/
def advanceSeg (s : State) (d a : Nat) : State :=
  let x := s.acqOf d a
  match x.seg.trig with
  | none => s
  | some (t, _) =>
    let post := s.rd F.ACQ_POST.POST [d, a]
    if s.acqState d a = 2 ∧ t + x.seg.postMem ≤ x.next then
      if x.seg.postMem < post ∧ s.isSet F.ACQ_CTRL.SPILL [d, a] then
        -- positions that went by before a trigger from outside came (R201)
        let from_ := t + x.seg.postMem
        let gone := min x.next (t + post) - from_
        let s := s.on (0 < gone) fun s => s.gapRecord d a 6 from_ gone x.seg.seq 0
        if x.next < t + post then s.beginSpill d a else s.completeSeg d a 0 false
      else s.completeSeg d a 0 false
    else if s.acqState d a = 3 ∧ t + post ≤ x.next then s.completeSeg d a 0 false
    else s

/-- The oldest position that the open slot still holds (R201): a logic slot's oldest ANCHOR, where the trigger comes by DT from outside. -/
def oldestHeld (s : State) (d a : Nat) : Nat :=
  let x := s.acqOf d a
  if a = 2 then (if s.skeinSelected d a then (x.lc.runs.head?.map (·.2)).getD 0 else 0)
  else max x.seg.from_ (x.next - s.rd F.ACQ_SEG_LEN.LEN [d, a])

/-- A trigger is accepted at stored sample t (R198, R200, R201). -/
def acceptTrigger (s : State) (d a t : Nat) (desc : TrigDesc) : State :=
  let x := s.acqOf d a
  let pre := s.rd F.ACQ_PRE.PRE [d, a]
  let post := s.rd F.ACQ_POST.POST [d, a]
  let pre' := min pre (t - x.seg.o)
  let postMem := if a = 2 then post else min post (s.rd F.ACQ_SEG_LEN.LEN [d, a] - pre)
  let s := s.on (pre' < pre) fun s => s.gapRecord d a 2 (x.seg.o - (pre - pre')) (pre - pre') x.seg.seq 0
  let lost := min (pre' + postMem) (s.oldestHeld d a - (t - pre'))
  let s := s.on (0 < lost) fun s => s.gapRecord d a 6 (t - pre') lost x.seg.seq 0
  let s := s.setAcq d a { s.acqOf d a with seg := { x.seg with trig := some (t, desc), firstHeld := t - pre' + lost, postMem } }
  (s.wr F.ACQ_STATUS.STATE [d, a] 2).advanceSeg d a

/-- A trigger of the assigned sequencer, or by DT from outside, reaches the set (R199 to R201, R210). -/
def setTrigger (s : State) (d a : Nat) (desc : TrigDesc) : State :=
  if !s.armed d a then s
  else if s.streaming d a then
    s.mark d a 1 desc.dt (descFlags desc) (desc.term + 2 ^ 5 * desc.coinTaken + 2 ^ 10 * desc.coinOther) (trunc 32 desc.discards)
  else
    let x := s.acqOf d a
    let t := if a = 2 then desc.dt / 4096 else s.gridAtOrAfter d a desc.dt
    if s.acqState d a ≠ 1 ∨ t < x.seg.o then
      (s.setAcq d a { x with skipped := x.skipped + 1 }).count F.ACQ_SKIP_COUNT.COUNT [d, a] 1
    else s.acceptTrigger d a t desc

/-- REF of a gap at a position (R214). -/
def gapRef (s : State) (d a : Nat) : Nat :=
  if s.streaming d a then (if a = 2 then (s.acqOf d a).next else s.rd F.STR_INDEX.INDEX [d, a])
  else if s.acqState d a = 3 then s.rd F.STR_INDEX.INDEX [d, a]
  else if s.acqState d a = 5 then (s.acqOf d a).seg.seq - 1
  else (s.acqOf d a).seg.seq

/-- A position whose sample is lost for a cause still counts in the stream and in the segment. -/
def dropCommit (s : State) (d a cause : Nat) : State :=
  let x := s.acqOf d a
  let pos := x.next
  let idx := s.rd F.STR_INDEX.INDEX [d, a]
  let s := s.dropPos d a pos cause (s.gapRef d a)
  let s := s.settleMarks d a pos true idx
  let s := s.on (s.streaming d a || s.acqState d a == 3) fun s => s.inc F.STR_INDEX.INDEX [d, a]
  let x := s.acqOf d a
  let spilled := if s.acqState d a = 3 then x.seg.spilled + 1 else x.seg.spilled
  (s.setAcq d a { x with next := pos + 1, seg := { x.seg with spilled } }).advanceSeg d a

/-- A stored sample commits to the elastic or spill buffer, or is dropped for want of room (R206, R212). -/
def commitStream (s : State) (d a v : Nat) : State :=
  let bits := formatBits (s.format d a)
  if s.isSet F.STR_STATUS.BACKPRESSURE [d, a] then s.dropCommit d a 1
  else if s.bufFull d a 1 then (s.setBackpressure d a 1).dropCommit d a 1
  else
    let s := s.closeGap d a
    let x := s.acqOf d a
    let pos := x.next
    let idx := s.rd F.STR_INDEX.INDEX [d, a]
    let s := s.bufAppend d a pos idx bits v
    let s := (s.settleMarks d a pos false idx).inc F.STR_INDEX.INDEX [d, a]
    let x := s.acqOf d a
    let spilled := if s.acqState d a = 3 then x.seg.spilled + 1 else x.seg.spilled
    (s.setAcq d a { x with next := pos + 1, seg := { x.seg with spilled } }).advanceSeg d a

/-- A stored sample commits into the open slot (R198). -/
def commitSlot (s : State) (d a v : Nat) : State :=
  let s := s.closeGap d a
  let x := s.acqOf d a
  let pos := x.next
  let len := max 1 (s.rd F.ACQ_SEG_LEN.LEN [d, a])
  let bits := formatBits (s.format d a)
  let s := s.writeSample d a (x.seg.slot * len * bits / 8) ((pos - x.seg.o) % len) bits v
  let s := s.settleMarks d a pos false 0
  (s.setAcq d a { s.acqOf d a with next := pos + 1 }).advanceSeg d a

/-- The samples of the logic set have passed a tick: marks are fixed, and POST may end (R198, R210). -/
def lcPass (s : State) (d tick : Nat) : State :=
  let x := s.acqOf d 2
  if !s.armed d 2 || tick < x.next || !s.beforeStop d 2 tick then s
  else
    let s := s.settleMarks d 2 tick x.gap.isSome tick
    (((s.setAcq d 2 { s.acqOf d 2 with next := tick + 1 }).wr F.STR_INDEX.INDEX [d, 2] (tick + 1))).advanceSeg d 2

/-- A remap hold stops the writes of a set (R190). -/
def remapHolds (s : State) (d a : Nat) : Bool :=
  if a = 2 then s.stackHeld d 0 else if s.paired then s.stackHeld d 0 || s.stackHeld d 1 else s.stackHeld d a

/-- A change record of the logic set (R89, R270, R271). -/
def lcRecord (s : State) (d tick state mask : Nat) : State :=
  let s := s.lcPass d (tick - 1)
  let s := s.on (s.armed d 2 && s.remapHolds d 2) fun s => s.lcOpenGap d 3
  let x := s.acqOf d 2
  if !s.armed d 2 || tick < x.first || !s.beforeStop d 2 tick || x.gap.isSome then s
  else
    let ws := changeWords x.lc tick state mask
    let s := if s.streaming d 2 then s.lcStreamRecord d tick ws else s.lcSlotRecord d tick ws
    let x := s.acqOf d 2
    if x.gap.isSome then s
    else s.setAcq d 2 { x with lc := { x.lc with lastTick := tick, lastState := state, lastMask := mask } }

/-- An ESCAPE once 2^47 ticks pass without a record (R89). -/
def lcEscape (s : State) (d : Nat) : State :=
  let x := s.acqOf d 2
  let tick := dtAdd x.lc.lastTick (2 ^ 47)
  if !s.armed d 2 || x.gap.isSome || s.remapHolds d 2 then s
  else
    let s := if s.streaming d 2 then s.lcStreamRecord d tick [lcControl 3] else s.lcSlotRecord d tick [lcControl 3]
    let x := s.acqOf d 2
    if x.gap.isSome then s else s.setAcq d 2 { x with lc := { x.lc with lastTick := tick } }

/-- A position of an analogue set lies in a calibration block (R85). -/
def calAt (s : State) (d a pos : Nat) : Bool :=
  let t := s.gridDtOf d a pos / 4096
  s.spanMeets .calibration d a t t

/-- The next stored sample of an analogue set commits (R85, R190, R191, R198, R202, R212). -/
def commitSample (s : State) (d a v : Nat) : State :=
  if !s.armed d a || !s.beforeStop d a (s.acqOf d a).next then s
  else if s.calAt d a (s.acqOf d a).next then s.dropCommit d a 5
  else if s.remapHolds d a then s.dropCommit d a 3
  else match s.acqState d a with
    | 5 => s.dropCommit d a 9
    | 4 => s.commitStream d a v
    | 3 => s.commitStream d a v
    | _ => s.commitSlot d a v

/-- The set ends before its time: by a stop, SYN loss of lock or retirement (R196, R213, R401). -/
def endSet (s : State) (d a cause : Nat) : State :=
  if !s.armed d a then s
  else
    let lost := cause == 3
    let s := s.closeGap d a
    let x := s.acqOf d a
    let post := s.rd F.ACQ_POST.POST [d, a]
    let s := match x.seg.trig with
      | some (t, _) =>
        let held := min post (x.next - t)
        let s := s.on lost fun s => s.gapRecord d a 4 x.next (post - held) x.seg.seq 1
        s.completeSeg d a (2 ^ 8 * b2n (held < post) + 2 ^ 5 * b2n lost) true
      | none => s.on lost fun s => s.gapRecord d a 4 x.next 0 (s.gapRef d a) 1
    s.idleSet d a cause

/-- Write the record at the head of the record queue (R199, R202, R204). -/
def writeRecord (s : State) (d a : Nat) (r : SegRec) : State :=
  let x := s.acqOf d a
  let met := x.gaps.filter fun g => (g.first : Int) ≤ r.nomLast ∧ r.nomFirst < (g.first : Int) + g.len
  let skipped := min 65535 x.skipped
  let count := min 65535 met.length
  let first := (met.map (·.seq)).headD (2 ^ 32 - 1)
  let flags := r.flags + 2 ^ 9 * b2n (0 < count) + 2 ^ 15
  let bytes := le 8 (r.desc.dt / 4096) ++ le 2 (r.desc.dt % 4096) ++ le 1 r.desc.term ++ le 1 r.desc.coinTaken ++ le 1 r.desc.coinOther
    ++ le 1 (sourceBits d a + 8 * r.format) ++ le 2 flags ++ le 4 r.desc.discards ++ le 2 skipped ++ le 2 count ++ le 8 r.seq
    ++ le 4 r.slot ++ le 4 r.startOfs ++ le 4 r.preCount ++ le 4 r.postMem ++ le 8 r.spillIndex ++ le 4 first ++ le 4 0
  let s := s.memWrite (s.segRecAddr d a r.slot) bytes
  let s := s.setAcq d a { x with
    skipped := 0, recQueue := x.recQueue.drop 1, headSince := s.now, validSlots := r.slot :: x.validSlots.filter (· != r.slot) }
  let s := { s with library := s.library ++ [LibEntry.mk d a { r with flags := flags } skipped count first] }
  let s := s.inc F.ACQ_SEG_COUNT.COUNT [d, a]
  s.on (s.isSet F.ACQ_CTRL.SEG_EVT_EN [d, a]) fun s => s.raise d 120 (a + 2 ^ 10 * r.slot)

/-- A place in the record queue frees while the set waits for one: the next segment opens (R198, R202). -/
def resumeQueue (s : State) (d a : Nat) : State :=
  s.on (s.acqState d a == 5) fun s =>
    let s := s.closeGap d a
    let x := s.acqOf d a
    let s := s.on (a == 2) fun s =>
      s.setAcq d a { x with lc := { x.lc with
        lastTick := x.next, lastState := s.rd F.LGC_STATE.STATE [d], lastMask := s.rd F.LGC_STATE.UNRESOLVED [d] } }
    s.openSeg d a x.seg.slot x.seg.seq x.next

end State

end Sys2Proof.Machine
end

