-- ==== Sys2Proof/Machine/AccOps.lean ====
section
/-!
DEFINITION. The accumulation engines: offers, reads of segments, averages and the persistence histogram (R221 to R237).
-/

namespace Sys2Proof.Machine

-- The polyline of R231 ---------------------------------------------------------------------------------

/-- A vertex: its offset from the left edge of column 0 in fraction units, and its value on the S16 scale. -/
abbrev Vertex := Int × Int

/-- Rows that the line from `a` to `b` reaches in column x: a's side closed, b's side open. Rows are floor((v − base) / step). -/
def lineRows (step base ystep : Int) (a b : Vertex) (x : Int) : Int × Int :=
  let t0 := max a.1 (x * step)
  let t1 := min b.1 ((x + 1) * step)
  -- values at t, times b.1 − a.1
  let w := b.1 - a.1
  let v (t : Int) : Int := a.2 * w + (b.2 - a.2) * (t - a.1) - base * w
  let r0 := v t0 / (ystep * w)
  let r1 := v t1 / (ystep * w)
  if a.2 < b.2 then (r0, max r0 (-((-(v t1)) / (ystep * w)) - 1)) else (min r0 r1, r0)

/-- What one line adds: for each column it meets its rows. -/
def lineColumns (step base ystep : Int) (a b : Vertex) : List (Int × Int × Int) :=
  let row (v : Int) : Int := (v - base) / ystep
  if b.1 ≤ a.1 then [(a.1 / step, min (row a.2) (row b.2), max (row a.2) (row b.2))]
  else
    let first := max (-1) (a.1 / step)
    let last := min 2048 ((b.1 - 1) / step)
    (List.range (last - first + 1).toNat).map fun k =>
      let r := lineRows step base ystep a b (first + k)
      (first + (k : Int), r.1, r.2)

/-- The columns of a run of vertices with no missing sample between them: each vertex by itself, and each line. -/
def runColumns (step base ystep : Int) : List Vertex → List (Int × Int × Int)
  | [] => []
  | [a] => lineColumns step base ystep a a
  | a :: b :: rest => lineColumns step base ystep a a ++ lineColumns step base ystep a b ++ runColumns step base ystep (b :: rest)

/-- Lowest and highest row per column, cut to rows 0 to 1,023 and columns 0 to 2,047. -/
def mergeColumns (l : List (Int × Int × Int)) : List (Nat × Int × Int) :=
  let add (acc : List (Nat × Int × Int)) (e : Int × Int × Int) : List (Nat × Int × Int) :=
    if e.1 < 0 ∨ 2047 < e.1 then acc
    else
      match acc.find? (·.1 == e.1.toNat) with
      | none => (e.1.toNat, e.2.1, e.2.2) :: acc
      | some o => (o.1, min o.2.1 e.2.1, max o.2.2 e.2.2) :: acc.filter (·.1 != o.1)
  (l.foldl add []).reverse

namespace State

/-- Accumulation engine c of die d. -/
def accOf (s : State) (d c : Nat) : AccEngine := s.acc.getD (2 * d + c) AccEngine.idle

/-- The state with an engine replaced. -/
def setAcc (s : State) (d c : Nat) (e : AccEngine) : State := { s with acc := s.acc.set (2 * d + c) e }

/-- STATE of an engine: 0 IDLE, 1 RUN, 2 DONE. -/
def accState (s : State) (d c : Nat) : Nat := s.rd F.ACC_STATUS.STATE [d, c]

/-- FREEZE and STATE as they stand are noted as those before the changes of this core cycle (R222). -/
def accNote (s : State) (d c : Nat) : State :=
  if s.rd I.accWasAt [d, c] = s.now + 1 then s
  else (s.wr I.accWas [d, c] (s.accState d c + 4 * s.rd F.ACC_CTRL.FREEZE [d, c])).wr I.accWasAt [d, c] (s.now + 1)

/-- STATE and FREEZE before the changes of this core cycle, by which an arrival is judged (R222). -/
def accBefore (s : State) (d c : Nat) : Nat × Bool :=
  let v := if s.rd I.accWasAt [d, c] = s.now + 1 then s.rd I.accWas [d, c] else s.accState d c + 4 * s.rd F.ACC_CTRL.FREEZE [d, c]
  (v % 4, 4 ≤ v)

/-- The engine takes a new state, with its event (R239). -/
def accEnter (s : State) (d c st cause : Nat) : State :=
  if s.accState d c = st then s else ((s.accNote d c).wr F.ACC_STATUS.STATE [d, c] st).raise d 153 (c + 2 * st + 2 ^ 8 * cause)

/-- FROZEN shows FREEZE with no commit under way (R235). -/
def syncFrozen (s : State) (d c : Nat) : State :=
  s.wrBool F.ACC_STATUS.FROZEN [d, c] (s.isSet F.ACC_CTRL.FREEZE [d, c] && (s.accOf d c).commit.isNone)

/-- FREEZE is written (R222, R235). -/
def setFreeze (s : State) (d c v : Nat) : State := ((s.accNote d c).wr F.ACC_CTRL.FREEZE [d, c] v).syncFrozen d c

/-- Registers of one name and one engine lose what they hold. -/
def dropRegs (s : State) (r : Reg) (d c : Nat) : State :=
  { s with regs := s.regs.filter fun e => !(e.1.reg == r && e.1.ix.take 2 == [d, c]) }

/-- The histogram with every count 0 (R234). -/
def clearHist (s : State) (d c : Nat) : State := (s.dropRegs .HIST d c).wr F.ACC_HIST_ACQ.COUNT [d, c] 0

/-- Every accumulator 0. -/
def clearSums (s : State) (d c : Nat) : State := (s.dropRegs .ACCUM d c).wr F.ACC_AVG_DONE.DONE [d, c] 0

/-- The field of a histogram cell (R238). -/
def cellField (r : Nat) : Fld := if r % 2 = 0 then F.HIST.ROW_EVEN else F.HIST.ROW_ODD

/-- One cell one higher; a count at 65,535 stays (R231). -/
def bumpCell (s : State) (d c x r : Nat) : State :=
  let f := cellField r
  if s.rd f [d, c, x, r / 2] = 65535 then s.stick F.ACC_STATUS.HIST_SAT_STICKY [d, c] d 154 c
  else s.wr f [d, c, x, r / 2] (s.rd f [d, c, x, r / 2] + 1)

/-- The rows of one column one higher, clipped to 0 to 1,023 (R231). -/
def bumpColumn (s : State) (d c : Nat) (e : Nat × Int × Int) : State :=
  let lo := max 0 e.2.1
  let hi := min 1023 e.2.2
  if hi < lo then s else s.each (List.range (hi - lo + 1).toNat) fun s k => s.bumpCell d c e.1 (lo.toNat + k)

/-- The points of an acquisition join the sums (R227). -/
def addPoints (s : State) (d c : Nat) (points : List Int) : State :=
  s.each points.zipIdx fun s p =>
    s.wr F.ACCUM.SUM [d, c, p.2] (sfield 32 (sval 32 (s.rd F.ACCUM.SUM [d, c, p.2]) + p.1))

/-- The histogram part of the commit under way completes (R231, R232). -/
def accHistDone (s : State) (d c : Nat) : State :=
  let e := s.accOf d c
  match e.commit with
  | none => s
  | some k => s.on k.histAt.isSome fun s =>
      ((s.setAcc d c { e with commit := some { k with histAt := none } }).each k.columns fun s x => s.bumpColumn d c x).inc
        F.ACC_HIST_ACQ.COUNT [d, c]

/-- The averaging part of the commit under way completes (R226 to R228). -/
def accAvgDone (s : State) (d c : Nat) : State :=
  let e := s.accOf d c
  match e.commit with
  | none => s
  | some k => s.on k.avgAt.isSome fun s =>
      let s := s.setAcc d c { e with commit := some { k with avgAt := none } }
      if k.incomplete then s.count F.ACC_AVG_INCOMPLETE.COUNT [d, c] 1
      else
        let s := (s.addPoints d c k.points).inc F.ACC_AVG_DONE.DONE [d, c]
        s.on (s.rd F.ACC_AVG_COUNT.TARGET [d, c] ≤ s.rd F.ACC_AVG_DONE.DONE [d, c]) fun s =>
          let s := (s.inc F.ACC_AVG_BATCH.COUNT [d, c]).accEnter d c 2 1
          s.raise d 152 (c + 2 ^ 16 * (s.rd F.ACC_AVG_BATCH.COUNT [d, c] % 2 ^ 16))

/-- The engine falls idle: what it read and has not begun to commit is dropped, and its queue emptied, with no skip counted (R228, R237). -/
def accIdle (s : State) (d c cause : Nat) : State :=
  let e := s.accOf d c
  ((s.setAcc d c { e with queue := [], reading := none, commit := none, stopping := none, occupied := s.now }).accEnter d c 0 cause).syncFrozen d c

/-- Nothing of the commit is left to do: it is over, and a STOP that waited for it takes effect (R237). -/
def accOver (s : State) (d c : Nat) : State :=
  let e := s.accOf d c
  match e.commit with
  | none => s
  | some k =>
    if k.histAt.isSome || k.avgAt.isSome then s
    else
      let s := (s.setAcc d c { e with commit := none }).syncFrozen d c
      match e.stopping with
      | some cause => s.accIdle d c cause
      | none => s

/-- The parts of the commit under way whose time has come complete (R225). -/
def accFinish (s : State) (d c : Nat) : State :=
  match (s.accOf d c).commit with
  | none => s
  | some k =>
    let s := s.on ((k.histAt.map fun t => decide (t ≤ s.now)).getD false) fun s => s.accHistDone d c
    let s := s.on ((k.avgAt.map fun t => decide (t ≤ s.now)).getD false) fun s => s.accAvgDone d c
    s.accOver d c

/-- STOP of a command (R237): the commit under way completes first. -/
def accStop (s : State) (d c : Nat) : State :=
  if s.accState d c = 0 then s
  else if (s.accOf d c).commit.isNone then s.accIdle d c 0
  else s.setAcc d c { s.accOf d c with stopping := some 0 }

/-- The engine's domain switches off: its contents are lost (R237, R368). -/
def accDomainOff (s : State) (d c : Nat) : State :=
  ((s.setAcc d c AccEngine.idle).clearHist d c).dropRegs .ACCUM d c

/-- A mode change or a retirement acts as STOP, and the domain switches off (R237). -/
def accHalt (s : State) (d c cause : Nat) : State :=
  let s := ((s.accHistDone d c).accAvgDone d c).accOver d c
  (s.on (s.accState d c != 0) fun s => s.accIdle d c cause).accDomainOff d c

/-- Case of R222 that skips an acquisition, for STATE and FREEZE as they were; none where it is accepted. -/
def accSkip (s : State) (d c flags : Nat) (was : Nat × Bool) : Option Nat :=
  let e := s.accOf d c
  if 16 ≤ e.queue.length then some 0
  else if was.1 = 2 || was.2 then some 1
  else if (e.accepted.map fun t => decide (s.now < t + 128 * s.rd F.ACC_RATE_CAP.MIN_CYCLES [d, c])).getD false then some 2
  else if Nat.land (flags % 2 ^ 15) (s.rd F.ACC_EXCL.MASK [d, c]) ≠ 0 then some 4
  else none

/-- A record written with VALID offers one acquisition (R222); an engine that was in IDLE takes none. One that stopped in this core cycle has
emptied its queue. -/
def accOffer (s : State) (d c : Nat) (entry : AccEntry) (flags : Nat) : State :=
  let was := s.accBefore d c
  if was.1 = 0 ∨ (s.paired ∧ c = 1) then s
  else match s.accSkip d c flags was with
    | some k => s.count F.ACC_SKIP.COUNT [d, c, k] 1
    | none =>
      let e := s.accOf d c
      s.setAcc d c { e with queue := if s.accState d c = 0 then e.queue else e.queue ++ [entry], accepted := some s.now }

/-- The values of a stored sample on the S16 scale (R224): one, or for PK its minimum and its maximum. -/
def s16Values (format v : Nat) : List Int :=
  match format with
  | 0 => [64 * sval 10 v]
  | 2 => [sval 16 v, sval 16 (v / 2 ^ 16)]
  | _ => [sval 16 v]

/-- The bytes of the record in a slot. -/
def recordBytes (s : State) (d a slot : Nat) : List Byte := s.memBytes (s.segRecAddr d a slot) 64

/-- A little-endian field of a record. -/
def recField (bytes : List Byte) (first n : Nat) : Nat := ofLe ((bytes.drop first).take n)

/-- What a record says of the samples it holds: trigger instant and position, first held position and count, format, ring offset. -/
structure HeldRange where
  trigDt : Instant
  trigPos : Nat
  first : Nat
  count : Nat
  format : Nat
  startOfs : Nat
  slot : Nat

/-- The held range of a record whose first held position is known (R204): the trigger sample is held sample PRE_COUNT (R226). -/
def heldRange (s : State) (d a : Nat) (e : AccEntry) : HeldRange :=
  let b := s.recordBytes d a e.slot
  ⟨4096 * recField b 0 8 + recField b 8 2 % 4096, e.first + recField b 40 4, e.first, recField b 40 4 + recField b 44 4, recField b 13 1 / 8,
    recField b 36 4, e.slot⟩

/-- The values at a position, none where the sample is missing (R224). -/
def heldValues (s : State) (d a : Nat) (r : HeldRange) (gaps : List (Nat × Nat)) (pos : Int) : List Int :=
  if pos < r.first ∨ (r.first : Int) + r.count ≤ pos ∨ gaps.any (fun g => (g.1 : Int) ≤ pos ∧ pos < (g.1 : Int) + g.2) then []
  else
    let len := max 1 (s.rd F.ACQ_SEG_LEN.LEN [d, a])
    let bits := formatBits r.format
    s16Values r.format (s.readSample d a (r.slot * len * bits / 8) ((r.startOfs + (pos - r.first).toNat) % len) bits)

/-- Positions from a to b, ends included. -/
def posRange (a b : Int) : List Int := (List.range (b - a + 1).toNat).map fun k => a + (k : Int)

/-- First and last position that the histogram reads (R231): one before column 0 to one after column 2,047. -/
def histWindow (s : State) (d a : Nat) (r : HeldRange) : Int × Int :=
  let left : Int := r.trigDt + sval 52 (s.rd F.ACC_HIST_X_ORIGIN.ORIGIN [d, a])
  let right : Int := left + 2048 * s.rd F.ACC_HIST_X_STEP.STEP [d, a]
  let p := s.gridAtOrAfter d a left.toNat
  let q := s.gridAtOrAfter d a right.toNat
  ((p : Int) - 1, (q : Int) + (if (s.gridDtOf d a q : Int) = right then 1 else 0))

/-- The polyline of an acquisition, cut into runs where a sample is missing (R231). -/
def histRuns (s : State) (d a : Nat) (r : HeldRange) (gaps : List (Nat × Nat)) (left : Int) : List Int → List Vertex → List (List Vertex)
  | [], run => [run]
  | p :: ps, run =>
    match s.heldValues d a r gaps p with
    | [] => run :: histRuns s d a r gaps left ps []
    | vs => histRuns s d a r gaps left ps (run ++ vs.map fun v => ((s.gridDtOf d a p.toNat : Int) - left, v))

/-- What an acquisition commits (R223 to R226, R230, R231). -/
def accRead (s : State) (d c : Nat) (e : AccEntry) : AccCommit × Nat :=
  let r := s.heldRange d c e
  let t0 : Int := (r.trigPos : Int) + sval 41 (s.rd F.ACC_AVG_START.START [d, c])
  let len := s.rd F.ACC_AVG_LEN.LEN [d, c]
  let avgPos := if s.isSet F.ACC_CTRL.AVG_EN [d, c] then posRange t0 (t0 + len - 1) else []
  let avg := avgPos.map (s.heldValues d c r e.gaps)
  let w := s.histWindow d c r
  let histPos := if s.isSet F.ACC_CTRL.HIST_EN [d, c] then posRange (max w.1 r.first) (min w.2 ((r.first : Int) + r.count - 1)) else []
  let left : Int := r.trigDt + sval 52 (s.rd F.ACC_HIST_X_ORIGIN.ORIGIN [d, c])
  let runs := s.histRuns d c r e.gaps left histPos []
  let columns := mergeColumns (runs.flatMap (runColumns (s.rd F.ACC_HIST_X_STEP.STEP [d, c]) (sval 16 (s.rd F.ACC_HIST_Y.Y_BASE [d, c]))
    (max 1 (s.rd F.ACC_HIST_Y.Y_STEP [d, c]))))
  let reads := histPos ++ avgPos.filter fun p => !(w.1 ≤ p && p ≤ w.2 && s.isSet F.ACC_CTRL.HIST_EN [d, c])
  let count := (reads.map fun p => (s.heldValues d c r e.gaps p).length).sum
  (⟨avg.map fun vs => vs.headD 0, avg.any (·.isEmpty), columns, none, none⟩, count)

/-- The record in the slot of an entry still tells of its segment (R223). -/
def accSame (s : State) (d c : Nat) (x : AccEntry) : Bool :=
  let b := s.recordBytes d c x.slot
  bitAt (recField b 14 2) 15 && recField b 24 8 == x.seq

/-- The engine may take the next entry: in RUN, not frozen, and free (R223, R225, R235). -/
def accMayTake (s : State) (d c : Nat) : Bool :=
  let e := s.accOf d c
  !e.queue.isEmpty && s.accState d c == 1 && !s.isSet F.ACC_CTRL.FREEZE [d, c] && e.reading.isNone && e.stopping.isNone
    && decide (e.occupied ≤ s.now)

/-- The engine takes the head of its queue and reads it (R223, R225). -/
def accTake (s : State) (d c : Nat) : State :=
  let e := s.accOf d c
  match e.queue with
  | [] => s
  | x :: rest =>
    let k := s.accRead d c x
    let n := ceilDiv k.2 32
    let r : AccRead := ⟨x, k.1, s.now + 128 * (8 + n), none, s.now + 128 * (16 + n)⟩
    s.setAcc d c { e with queue := rest, occupied := s.now + 128 * max 250 (16 + n), reading := some r }

/-- The record is read again (R223). -/
def accAgain (s : State) (d c : Nat) : State :=
  let e := s.accOf d c
  match e.reading with
  | some r => if r.same.isNone ∧ r.againAt ≤ s.now then s.setAcc d c { e with reading := some { r with same := some (s.accSame d c r.entry) } } else s
  | none => s

/-- A commit begins (R225): its averaging part takes 32 points a cycle, its histogram part 128 cycles, after every pass (R233, R234). -/
def accBegin (s : State) (d c : Nat) (k : AccCommit) : State :=
  let e := s.accOf d c
  let free := (e.passes.map (·.ends)).foldl max s.now
  let h := if s.isSet F.ACC_CTRL.HIST_EN [d, c] then some (free + 128 * 128) else none
  let a := if s.isSet F.ACC_CTRL.AVG_EN [d, c] then some (s.now + 128 * ceilDiv (s.rd F.ACC_AVG_LEN.LEN [d, c]) 32) else none
  (s.setAcc d c { e with reading := none, commit := some { k with histAt := h, avgAt := a } }).syncFrozen d c

/-- The check is decided (R223): a slot that was reused discards the acquisition; else its commit begins, once the one before is complete, in RUN
and not frozen (R228, R235). -/
def accDecide (s : State) (d c : Nat) : State :=
  let e := s.accOf d c
  match e.reading with
  | none => s
  | some r =>
    if s.now < r.decideAt then s
    else match r.same with
      | none => s
      | some false =>
        ((s.setAcc d c { e with reading := none }).count F.ACC_SKIP.COUNT [d, c, 3] 1).raise d 155 (c + 2 ^ 10 * r.entry.slot)
      | some true =>
        if s.accState d c ≠ 1 ∨ s.isSet F.ACC_CTRL.FREEZE [d, c] ∨ e.commit.isSome ∨ e.stopping.isSome then s else s.accBegin d c r.commit

/-- The start checks but for the admission (R236). -/
def accCheck (s : State) (d c : Nat) : Nat :=
  let shift := s.rd F.ACC_DECAY.DECAY_SHIFT [d, c]
  let target := s.rd F.ACC_AVG_COUNT.TARGET [d, c]
  let len := s.rd F.ACC_AVG_LEN.LEN [d, c]
  let y := s.rd F.ACC_HIST_Y.Y_STEP [d, c]
  let us := s.rd F.ACC_FRAME_PERIOD.US [d, c]
  if !s.mode.acquires then 0x021A
  else if !s.isSet F.CNV_STATUS.AVAILABLE [d, c] || (s.paired && c == 1) || s.isSet I.engRetired [d, c] then 0x0213
  else if s.accState d c ≠ 0 then 0x021C
  else if (!s.isSet F.ACC_CTRL.AVG_EN [d, c] && !s.isSet F.ACC_CTRL.HIST_EN [d, c]) || !(1 ≤ target && target ≤ 65536)
      || !(1 ≤ len && len ≤ 1048576) || !s.isSet F.ACC_HIST_X_STEP.STEP [d, c] || !(1 ≤ y && y ≤ 64)
      || (s.isSet F.ACC_DECAY.DECAY_N [d, c] && !(1 ≤ shift && shift ≤ 8))
      || (s.isSet F.ACC_DECAY.DECAY_SRC [d, c] && !(1000 ≤ us && us ≤ 1000000)) then 0x0180
  else 0

/-- An accepted start (R236). -/
def accStart (s : State) (d c : Nat) : State :=
  let s := (s.setAcc d c { s.accOf d c with queue := [], reading := none, commit := none, stopping := none, occupied := s.now }).clearSums d c
  let s := s.on (s.isSet F.ACC_CTRL.CLEAR_ON_START [d, c]) fun s => s.clearHist d c
  let s := ((s.wr F.ACC_AVG_BATCH.COUNT [d, c] 0).wr I.accFrames [d, c] 0).wr I.accDecayAt [d, c] (s.blkOf d)
  ((s.wr F.ACC_STATUS.START_CHECK [d, c] 0).accEnter d c 1 0).syncFrozen d c

/-- RELEASE (R228). -/
def accRelease (s : State) (d c : Nat) : State :=
  if s.accState d c ≠ 2 then s.stick F.ACC_STATUS.CMD_REJECT [d, c] d 156 (c + 2)
  else if s.isSet F.ACC_CTRL.REPEAT [d, c] then (s.clearSums d c).accEnter d c 1 0
  else s.accIdle d c 0

/-- A pass over the histogram is asked for (R233, R234): it waits for the histogram commit under way and for the passes before it. A clear and a
decay of one core cycle are one clear pass. -/
def accPass (s : State) (d c : Nat) (shift : Option Nat) : State :=
  let e := s.accOf d c
  match e.passes.getLast? with
  | some p =>
    if p.asked = s.now then
      s.setAcc d c { e with passes := e.passes.dropLast ++ [{ p with shift := if shift.isNone then none else p.shift }] }
    else s.setAcc d c { e with passes := e.passes ++ [⟨shift, s.now, max s.now p.ends, max s.now p.ends + 128 * 128⟩] }
  | none =>
    let b := max s.now ((e.commit.bind (·.histAt)).getD 0)
    s.setAcc d c { e with passes := [⟨shift, s.now, b, b + 128 * 128⟩] }

/-- CLEAR_HIST (R234). Engine 1 has no effect in PAIRED (R221), and a frozen histogram does not change (R235). -/
def accClear (s : State) (d c : Nat) : State :=
  s.on (s.mode.acquires && s.isSet F.CNV_STATUS.AVAILABLE [d, c] && !(s.paired && c == 1) && !s.isSet I.engRetired [d, c]
    && !s.isSet F.ACC_CTRL.FREEZE [d, c]) fun s => s.accPass d c none

/-- What one decay pass leaves: every count shifted right (R233). -/
def decayHist (s : State) (d c n : Nat) : State :=
  s.each (s.regs.filter fun e => e.1.reg == .HIST && e.1.ix.take 2 == [d, c]) fun s e =>
    { s with regs := s.regs.put e.1 (e.2 / 2 ^ n) }

/-- The first pass ends, if its time has come; the commit before it is complete (R233, R234). -/
def accPassDone (s : State) (d c : Nat) : State :=
  match (s.accOf d c).passes with
  | [] => s
  | p :: rest =>
    if s.now < p.ends then s
    else
      let s := s.on ((((s.accOf d c).commit.bind (·.histAt)).map fun t => decide (t ≤ p.begins)).getD false) fun s => s.accHistDone d c
      let s := (s.setAcc d c { s.accOf d c with passes := rest }).accOver d c
      match p.shift with
      | none => s.clearHist d c
      | some n => s.decayHist d c n

/-- What a core cycle brings an engine (R223, R225, R233, R234). -/
def accTick (s : State) (d c : Nat) : State := ((s.accAgain d c).accPassDone d c).accDecide d c

/-- A decay boundary falls due (R233): DECAY_N display frames, or DECAY_N internal frames of DT. -/
def decayDue (s : State) (d c : Nat) : Bool :=
  let n := s.rd F.ACC_DECAY.DECAY_N [d, c]
  s.accState d c != 0 && n != 0
    && (if s.isSet F.ACC_DECAY.DECAY_SRC [d, c] then s.dueOn d (dtAdd (s.rd I.accDecayAt [d, c]) (n * s.rd F.ACC_FRAME_PERIOD.US [d, c] * 160000))
      else n ≤ s.rd I.accFrames [d, c])

/-- A decay boundary (R233): FREEZE drops the decay. -/
def decayBoundary (s : State) (d c : Nat) : State :=
  let s := (s.wr I.accFrames [d, c] 0).wr I.accDecayAt [d, c]
    (dtAdd (s.rd I.accDecayAt [d, c]) (s.rd F.ACC_DECAY.DECAY_N [d, c] * s.rd F.ACC_FRAME_PERIOD.US [d, c] * 160000))
  if s.isSet F.ACC_CTRL.FREEZE [d, c] then s.flag F.ACC_STATUS.DECAY_DROP [d, c]
  else s.accPass d c (some (s.rd F.ACC_DECAY.DECAY_SHIFT [d, c]))

/-- ACC_CTRL (R235, R236): FREEZE in every state, the rest only in IDLE. -/
def writeAccCtrl (d c v : Nat) (s : State) : State × Nat :=
  let same := s.rd F.ACC_CTRL.AVG_EN [d, c] == slice v 0 1 && s.rd F.ACC_CTRL.HIST_EN [d, c] == slice v 1 1
    && s.rd F.ACC_CTRL.REPEAT [d, c] == slice v 2 1 && s.rd F.ACC_CTRL.CLEAR_ON_START [d, c] == slice v 3 1
  let s := s.setFreeze d c (slice v 4 1)
  if s.accState d c ≠ 0 then (if same then (s, 0) else (s.stick F.ACC_STATUS.CFG_REJECT [d, c] d 156 c, 0x021C))
  else
    ((((s.wr F.ACC_CTRL.AVG_EN [d, c] (slice v 0 1)).wr F.ACC_CTRL.HIST_EN [d, c] (slice v 1 1)).wr F.ACC_CTRL.REPEAT [d, c]
      (slice v 2 1)).wr F.ACC_CTRL.CLEAR_ON_START [d, c] (slice v 3 1), 0)

/-- The registers that RUN and DONE keep as they are (R236). -/
def writeAccCfg (d c : Nat) (fs : List (Fld × Nat)) (s : State) : State × Nat :=
  if s.accState d c ≠ 0 then (s.stick F.ACC_STATUS.CFG_REJECT [d, c] d 156 c, 0x021C)
  else (s.each fs fun s f => s.wr f.1 [d, c] f.2, 0)

end State

end Sys2Proof.Machine
end

