-- ==== Sys2Proof/Machine/HarvestOps.lean ====
section
/-!
DEFINITION. The Harvest planner's decision on a request (R376 to R381) and the maintenance arbiter's claims (R404, R405).
-/

namespace Sys2Proof.Machine

namespace State

-- Display scan-out (R241)

/-- The generator runs. -/
def scanRuns (s : State) : Bool := s.isSet F.SCN_STATUS.RUNNING [0] || s.isSet F.SCN_STATUS.RUNNING [1]

/-- The generator runs while ENABLE = 1 in READY, QUAD, PAIRED and SERVICE (R241). ENABLE is a mirrored setting: while the generator runs, the
latched value counts (R246). -/
def scanWanted (s : State) : Bool :=
  (if s.scanRuns then bitAt (s.rd I.ctlAct []) 0 else s.isSet F.SCN_CTRL.ENABLE []) && s.mode != .hold && s.mode != .vigil

-- Power domains (R367) ----------------------------------------------------------------------------------

/-- A retired unit keeps its domains off in every mode (R367). -/
def domainRetired (s : State) (d n : Nat) : Bool :=
  (s.dieRetired d && n != 0)
    || (s.isSet F.BOB_RETIRED.C0 [d] && ((8 ≤ n && n ≤ 15) || n == 24 || n == 26 || n == 31))
    || (s.isSet F.BOB_RETIRED.C1 [d] && ((16 ≤ n && n ≤ 23) || n == 25 || n == 27 || n == 32))
    || (s.isSet F.BOB_RETIRED.H0 [d] && n == 29) || (s.isSet F.BOB_RETIRED.H1 [d] && n == 30)
    || (s.isSet I.engRetired [d, 0] && n == 31) || (s.isSet I.engRetired [d, 1] && n == 32)

/-- Domain n of die d but for retirement and the spare SRAM banks (R367). -/
def domainBase (s : State) (d n : Nat) : Bool :=
  let on := s.mode != .hold
  let full := on && s.mode != .vigil
  let test := s.mode == .service && bitAt (s.rd I.testDom [d]) n
  match n with
  | 0 => true | 1 => true
  | 3 => on | 4 => on | 6 => on | 7 => on | 37 => on | 40 => on
  | 2 => full | 5 => full | 29 => full | 30 => full | 34 => full | 38 => full | 39 => full
  | 33 => s.scanWanted
  | 35 => (full && s.mode != .service) || test
  | 36 => full || (s.mode == .vigil && anyBelow 12 fun u => s.isSet F.CMP_CTRL.VIGIL_MODE [d, u])
  | 26 => s.mode.acquires || test | 27 => s.mode.acquires || test | 28 => s.mode.acquires || test | 31 => s.mode.acquires || test
  | 32 => s.mode == .quad || test
  | n => (8 ≤ n && n ≤ 25) && ((full && s.mode != .service) || test)

/-- Domain n of die d is on (R367); a spare SRAM bank follows the bank it replaces. -/
def domainOn (s : State) (d n : Nat) : Bool :=
  if 41 ≤ n ∧ n ≤ 44 then
    let k := n - 41
    (s.rd F.BOB_SRAM.STATE [d, k] == 1 || s.rd F.BOB_SRAM.STATE [d, k] == 2)
      && s.domainBase d (if k = 0 then 31 else if k = 1 then 32 else 6) && !s.dieRetired d
  else s.domainBase d n && !s.domainRetired d n

/-- PWR_DOMAIN shows the domains. -/
def syncDomains (s : State) : State :=
  s.each [0, 1] fun s d => s.each [0, 1] fun s w =>
    s.wr F.PWR_DOMAIN.ON [d, w] ((List.range 32).foldl (fun acc b => if s.domainOn d (32 * w + b) then setBit acc b else acc) 0)

-- Costs (R377, R385)

/-- VALUE of a cost table entry (R385). -/
def cost (s : State) (n : Nat) : Nat := s.rd F.COST.VALUE [n]

/-- The power state entry of a mode: base, Carding and pipelines (R377, R385). -/
def modeCost (s : State) (m : Mode) : Nat :=
  match m with
  | .hold => 0
  | .vigil => s.cost 11
  | .service => s.cost 0
  | .ready => s.cost 0 + 4 * s.cost 1
  | .quad => s.cost 0 + 4 * s.cost 1 + 4 * s.cost 2
  | .paired => s.cost 0 + 4 * s.cost 1 + 2 * s.cost 3

/-- Charge of a running accumulation engine at a derating level (R380). -/
def accCost (s : State) (level : Nat) : Nat := s.cost 6 / 2 ^ min level 4

/-- Engines of a die in RUN or DONE hold their charge. -/
def runningEngines (s : State) (d : Nat) : Nat :=
  ((List.range 2).filter fun c => s.isSet F.ACC_STATUS.STATE [d, c]).length

-- The maintenance arbiter (R404, R405) -------------------------------------------------------------

/-- Groups 8 to 10 are package groups: FLASH, SPLICE and REF (R404). -/
def groupKey (d g : Nat) : Nat × Nat := if 8 ≤ g then (0, g) else (d, g)

/-- Claim c holds group g of die d. -/
def claimHolds (c : Claim) (d g : Nat) : Bool := c.groups.any fun x => groupKey c.die x == groupKey d g

/-- A group is free (R405). -/
def groupFree (s : State) (d g : Nat) : Bool := s.running.all fun c => !claimHolds c d g

/-- Every group that a claim names is free. -/
def claimFree (s : State) (c : Claim) : Bool := c.groups.all fun g => s.groupFree c.die g

/-- Bit n of MNT_RUNNING and MNT_WAITING on a die (R406). -/
def mntBits (l : List Claim) (d : Nat) : Nat :=
  (List.range 7).foldl (fun acc n => if l.any fun c => c.prec == n + 1 && (c.die == d || c.groups.any (8 ≤ ·)) then setBit acc n else acc) 0

/-- The arbiter's registers show its claims (R406). -/
def syncMnt (s : State) : State :=
  s.each [0, 1] fun s d =>
    let s := (s.wr F.MNT_RUNNING.ACT [d] (mntBits s.running d)).wr F.MNT_WAITING.ACT [d] (mntBits s.waiting d)
    s.each (List.range 11) fun s g =>
      (s.wr F.MNT_GROUP.OWNER [d, g] (((s.running.find? fun c => claimHolds c d g).map fun c => c.prec - 1).getD 7)).wr
        F.MNT_GROUP.WAITERS [d, g] (min 15 (s.waiting.filter fun c => claimHolds c d g).length)

/-- Two claims share a group. -/
def claimsMeet (a b : Claim) : Bool := a.groups.any fun g => claimHolds b a.die g

/-- Claim a goes before claim b, both waiting, a the earlier request (R405). -/
def claimBefore (a b : Claim) : Bool := a.prec ≤ b.prec

/-- A claim made now is granted at once: its groups are free, and no waiting claim goes before it (R405). -/
def claimGoes (s : State) (c : Claim) : Bool := s.claimFree c && !(s.waiting.any fun b => claimsMeet c b && claimBefore b c)

/-- A claim is granted at once, or waits, and MNT_WAIT is raised (R405, R407). -/
def claim (s : State) (c : Claim) : State :=
  if s.claimGoes c then { s with running := s.running ++ [c] }.syncMnt
  else
    let g := ((c.groups.find? fun g => !s.groupFree c.die g)).getD 0
    ({ s with waiting := s.waiting ++ [c] }.syncMnt).raise c.die 229 (c.prec - 1 + 2 ^ 3 * g)

/-- The activity runs. -/
def runs (s : State) (a : Activity) : Bool := s.running.any (·.act == a)

/-- The activity waits. -/
def waits (s : State) (a : Activity) : Bool := s.waiting.any (·.act == a)

/-- An activity releases its groups, or withdraws its claim. -/
def release (s : State) (a : Activity) : State :=
  { s with running := s.running.filter (·.act != a), waiting := s.waiting.filter (·.act != a) }.syncMnt

/-- The arrays that Carding or Combing of a channel works on: both of the die in PAIRED mode (R80, R108). -/
def arraysOf (s : State) (c : Nat) : List Nat := if s.mode = .paired then [0, 1] else [c]

/-- The next interval begins with this block: INTERVAL takes effect (R103). -/
def beginInterval (s : State) (d c : Nat) : State :=
  ((s.wr I.cardInt [d, c] (s.rd F.CRD_CTRL.INTERVAL [d, c])).wr I.cardSuff [d, c] 0).wr I.cardAt [d, c] s.now

/-- The present interval is discarded: its statistics, its tap moves and its claim, held or waiting (R104, R107). -/
def cardDrop (s : State) (d c : Nat) : State :=
  ({ s with
    cardErrs := s.cardErrs.filter fun (e : CardErr) => !(e.die == d && (s.arraysOf c).contains e.chan)
    tapMoves := s.tapMoves.filter fun (m : TapMove) => !(m.die == d && (s.arraysOf c).contains m.chan) }.wr I.cardSuff [d, c] 0).release (.cardUpdate d c)

/-- Harvest suspends Carding of a channel: the starvation timer holds (R102, R107). -/
def suspendCard (s : State) (d c : Nat) : State :=
  let st := s.rd F.CRD_STATUS.STATE [d, c]
  (s.wr I.cardSuspended [d, c] 1).on (st == 1 || st == 2) fun s =>
    ((s.wr F.CRD_STATUS.STATE [d, c] 3).wr I.starveLeft [d, c] (dtSub (s.rd I.starveAt [d, c]) (s.blkOf d))).cardDrop d c

/-- Harvest lifts the suspension (R102, R107). -/
def resumeCard (s : State) (d c : Nat) : State :=
  (s.wr I.cardSuspended [d, c] 0).on (s.rd F.CRD_STATUS.STATE [d, c] == 3) fun s =>
    ((s.wr F.CRD_STATUS.STATE [d, c] 1).wr I.starveAt [d, c] (dtAdd (s.blkOf d) (s.rd I.starveLeft [d, c]))).beginInterval d c

/-- Terms of the die whose source is a comparator unit (R157): a PATTERN has none. -/
def cmpTerms (s : State) (d u : Nat) : List Nat :=
  (List.range 12).filter fun t =>
    s.isSet F.TRG_TERM_CFG.TYPE [d, t] && s.rd F.TRG_TERM_CFG.TYPE [d, t] != 7 && s.rd F.TRG_TERM_CFG.SRC [d, t] == 32 + u

/-- Those of them that an armed sequencer uses (R158). -/
def cmpUsed (s : State) (d u : Nat) : List Nat :=
  (s.cmpTerms d u).filter fun t => anyBelow 2 fun q =>
    s.isSet F.TRG_SEQ_STATUS.PHASE [d, q] && anyBelow 16 fun e =>
      e ≤ s.rd F.TRG_SEQ_CTRL.LAST [d, q]
        && (bitAt (s.rd F.SEQ_STATE.ADV_MASK [d, q, e]) t || bitAt (s.rd F.SEQ_STATE.RST_MASK [d, q, e]) t)

/-- A comparator unit is the source of a term that an armed sequencer uses (R158, R296). -/
def cmpInUse (s : State) (d u : Nat) : Bool := !(s.cmpUsed d u).isEmpty

/-- A unit settles after a change of its mode or thresholds: 2 µs, or 20 µs where M3 is entered or left (R293). -/
def cmpSettle (s : State) (d u old new : Nat) : State :=
  let long := old != new && (old == 3 || new == 3)
  (s.wr F.CMP_STATUS.SETTLING [d, u] 1).wr I.cmpSettleDt [d, u] (dtAdd (s.blkOf d) (if long then 3200000 else 320000))

/-- The action of derating level k on die d, and the power it saves there (R380). -/
def derateStep (s : State) (k d : Nat) : State × Nat :=
  if k ≤ 4 then
    let s' := s.each [0, 1] fun s c => s.wr F.ACC_RATE_CAP.MIN_CYCLES [d, c] (250 * 2 ^ k)
    (s', s.runningEngines d * (s.accCost (k - 1) - s.accCost k))
  else if k ≤ 8 then
    let g := 8 - k
    if g / 2 = d ∧ s.isSet F.CNV_STATUS.AVAILABLE [d, g % 2] then
      let running := s.rd F.CRD_STATUS.STATE [d, g % 2]
      (s.suspendCard d (g % 2), if running = 1 ∨ running = 2 then s.cost 1 else 0)
    else (s, 0)
  else
    (List.range 12).foldl (fun (p : State × Nat) u =>
      let m := p.1.rd F.CMP_STATUS.MODE_ACT [d, u]
      if p.1.isSet I.cmpPower [d, u] && !p.1.cmpInUse d u && m < 3 then
        ((((p.1.cmpSettle d u m (m + 1)).wr F.CMP_STATUS.MODE_ACT [d, u] (m + 1)).wr F.CMP_STATUS.DERATED [d, u] 1).raise d 187
          (u + 2 ^ 4 * (m + 1) + 2 ^ 6), p.2 + Config.cmpStepSaving m)
      else p) (s, 0)

/-- Raise derating by one level (R380). The saving of the deciding die reaches its share at once. -/
def derateUp (s : State) (d : Nat) : State :=
  let k := s.rd F.HVS_STATUS.LEVEL [] + 1
  let (s, save0) := s.derateStep k 0
  let (s, save1) := s.derateStep k 1
  let save := if d = 0 then save0 else save1
  let s := (s.wr F.HVS_STATUS.LEVEL [] k).addSat F.HVS_SHARE.VALUE [d, 0] save
  let s := { s.addSat F.HVS_SHARE.VALUE [d, 1] save with deratedAt := s.now }
  s.raisePkg 12 k

/-- Undo the top derating level (R380, R296, R107). -/
def derateDown (s : State) : State :=
  let k := s.rd F.HVS_STATUS.LEVEL []
  let s := s.each [0, 1] fun s d =>
    if k ≤ 4 then s.each [0, 1] fun s c => s.wr F.ACC_RATE_CAP.MIN_CYCLES [d, c] (if k ≤ 1 then 0 else 250 * 2 ^ (k - 1))
    else if k ≤ 8 then
      let g := 8 - k
      s.on (g / 2 == d) fun s => s.resumeCard d (g % 2)
    else s.each (List.range 12) fun s u =>
      s.on (s.isSet F.CMP_STATUS.DERATED [d, u]) fun s =>
        let m := s.rd F.CMP_STATUS.MODE_ACT [d, u] - 1
        let back := m ≤ s.rd F.CMP_CTRL.MODE [d, u]
        (((s.cmpSettle d u (m + 1) m).wr F.CMP_STATUS.MODE_ACT [d, u] m).wrBool F.CMP_STATUS.DERATED [d, u] (!back)).raise d 187
          (u + 2 ^ 4 * m + 2 ^ 6 * b2n (!back))
  (s.wr F.HVS_STATUS.LEVEL [] (k - 1)).raisePkg 12 (k - 1)

/-- The shares that decide a request: one die's, or both dies' for a package service (R378). -/
def shareMw (s : State) (dies : List Nat) : Nat := (dies.map fun d => s.rd F.HVS_SHARE.VALUE [d, 0]).sum
def shareMj (s : State) (dies : List Nat) : Nat := (dies.map fun d => s.rd F.HVS_SHARE.VALUE [d, 1]).sum

/-- The request fits the shares (R377); one that raises nothing is always admitted. -/
def fits (s : State) (dies : List Nat) (dp : Int) (e : Nat) : Bool :=
  (dp ≤ 0 && e == 0) || (dp ≤ s.shareMw dies && dp + e ≤ s.shareMj dies)

/-- 10 ms in 6.25 ps ticks (R376). -/
def committedTime : Nat := 1600000000

/-- Charge an admitted request to the shares, the first die's share first, and to the committed power (R376, R377). -/
def charge (s : State) (dies : List Nat) (dp : Int) (e : Nat) : State :=
  let mw := dp.toNat
  let mj := mw + e
  let take := fun (p : State × Nat × Nat) (d : Nat) =>
    let a := min p.2.1 (p.1.rd F.HVS_SHARE.VALUE [d, 0])
    let b := min p.2.2 (p.1.rd F.HVS_SHARE.VALUE [d, 1])
    ((p.1.wr F.HVS_SHARE.VALUE [d, 0] (p.1.rd F.HVS_SHARE.VALUE [d, 0] - a)).wr F.HVS_SHARE.VALUE [d, 1]
      (p.1.rd F.HVS_SHARE.VALUE [d, 1] - b), p.2.1 - a, p.2.2 - b)
  let s := (dies.foldl take (s, mw, mj)).1
  { s with committed := s.committed ++ [(mw, s.now + committedTime)] }

/-- An admitted request of `mw` has taken effect only now: its 10 ms begin (R376). -/
def commitAgain (s : State) (mw : Nat) : State :=
  { s with committed := s.committed.eraseP (fun x => x.1 == mw) ++ [(mw, s.now + committedTime)] }

/-- The outcome of a decision. -/
inductive Decision where
  | granted
  | derated
  | deferred
  | refused (code : Nat)
  deriving DecidableEq, Repr

/-- The kind of a request in HVS_ADMIT and HVS_REFUSE (R387). -/
def requestKind : Request → Bool → Nat
  | _, true => 5
  | .mode _, _ => 0
  | .arm .., _ => 1
  | .accStart .., _ => 2
  | .timEnable .., _ => 3
  | _, _ => 4

/-- The request is refused by Harvest (R379, R384). -/
def harvestRefuse (s : State) (d : Nat) (r : Request) (maint thermal : Bool) : State :=
  (s.count F.HVS_REFUSE_COUNT.COUNT [] 1).raisePkg 15 (requestKind r maint + 2 ^ 8 * d + 2 ^ 9 * b2n thermal)

/-- HOST_DEFERRED and MAINT_DEFERRED show the queues (R386). -/
def syncDeferred (s : State) : State :=
  (s.wr F.HVS_STATUS.HOST_DEFERRED [] (s.deferred.filter (!·.maint)).length).wr F.HVS_STATUS.MAINT_DEFERRED []
    (s.deferred.filter (·.maint)).length

/-- Join the deferred queue (R379, R381). -/
def defer (s : State) (d : Nat) (r : Request) (maint : Bool) (cmd : Option (MbxHdr × Nat)) : State :=
  { s.count F.HVS_DEFER_COUNT.COUNT [] 1 with deferred := s.deferred ++ [Deferred.mk d maint r cmd] }.syncDeferred

/-- Raise derating one level at a time until the request fits, at most `fuel` times (R379). -/
def derateUntil (d : Nat) (dies : List Nat) (dp : State → Int) (e : Nat) : Nat → State → Option State
  | 0, s => if s.fits dies (dp s) e then some s else none
  | n + 1, s =>
    if s.fits dies (dp s) e then some s
    else if s.rd F.HVS_STATUS.LEVEL [] < 11 then derateUntil d dies dp e n (s.derateUp d)
    else none

/-- Levels raised to 11 and undone again, each change with its HVS_DERATE (R379, R380). -/
def derateUndone (s : State) : State :=
  let k := s.rd F.HVS_STATUS.LEVEL []
  let s := s.each (List.range (11 - k)) fun s i => s.raisePkg 12 (k + i + 1)
  s.each (List.range (11 - k)) fun s i => s.raisePkg 12 (10 - i)

/-- Harvest decides a request of die `d` (R377 to R379, R384): `dies` are those whose shares decide, `dp` the power
increment at a level, `e` the energy. A maintenance request is always under DEFER; the thermal limit refuses it too. -/
def harvest (s : State) (d : Nat) (dies : List Nat) (dp : State → Int) (e : Nat) (r : Request) (maint : Bool)
    (cmd : Option (MbxHdr × Nat)) : State × Decision :=
  if s.isSet F.PWR_STATUS.THERMAL [d] then (s.harvestRefuse d r maint true, .refused 0x0304)
  else if s.fits dies (dp s) e then (s.charge dies (dp s) e, .granted)
  else if maint || s.rd F.HVS_ALLOW.POLICY [] == 2 then (s.defer d r maint cmd, .deferred)
  else if s.rd F.HVS_ALLOW.POLICY [] == 1 then
    match derateUntil d dies dp e 11 s with
    | some s' => (s'.charge dies (dp s') e, .derated)
    | none => (s.derateUndone.harvestRefuse d r maint false, .refused 0x0301)
  else (s.harvestRefuse d r maint false, .refused 0x0301)

/-- Drop deferred requests (R381). -/
def withdraw (s : State) (p : Deferred → Bool) : State :=
  { s with deferred := s.deferred.filter fun x => !p x }.syncDeferred

end State

end Sys2Proof.Machine
end

