-- ==== Sys2Proof/Machine/MailboxOps.lean ====
section
/-!
DEFINITION. Taking, answering and finishing mailbox commands (R340 to R351).
-/

namespace Sys2Proof.Machine

/-- How a command is handled in SERVICE and in VIGIL (R347, R372). -/
structure CmdKind where
  /-- Kind C: refused in SERVICE. -/
  conf : Bool
  /-- Carried out in VIGIL. -/
  inVigil : Bool
  deriving DecidableEq, Repr

/-- Kind Q, carried out in every mode in which commands are taken. -/
abbrev kindQ : CmdKind := ⟨false, true⟩
/-- Kind Q whose work needs a domain that is off in VIGIL (R372). -/
abbrev kindQOff : CmdKind := ⟨false, false⟩
/-- Kind C (R347), not carried out in VIGIL (R372). -/
abbrev kindC : CmdKind := ⟨true, false⟩

/-- The die a command concerns (R344): by the DIE field, by a global channel or set named, or a package service. -/
inductive Concern where
  | byField
  | channel (g : Nat)
  | package
  deriving DecidableEq, Repr

/-- What carrying out a command yields: STATUS, the bytes from 16 on, DERATED, the unit a long command works on, and the final status
and results of a long command whose work is complete. -/
structure Reply where
  status : Nat
  results : List Byte
  derated : Bool
  unit : Nat
  done : Option (Nat × List Byte)
  deriving DecidableEq, Repr

/-- OK with results (R352). -/
def Reply.ok (results : List Byte) : Reply := ⟨0x0000, results, false, 0, none⟩
/-- A status without results. -/
def Reply.code (status : Nat) : Reply := ⟨status, [], false, 0, none⟩
/-- ACCEPTED: the command works on. -/
def Reply.accepted (unit : Nat) (derated : Bool) : Reply := ⟨0x0001, [], derated, unit, none⟩
/-- DEFERRED: the command waits for Harvest. -/
def Reply.deferred (unit : Nat) : Reply := ⟨0x0002, [], false, unit, none⟩
/-- ACCEPTED, with the work already complete: MBX_DONE follows. -/
def Reply.complete (status : Nat) (results : List Byte) : Reply := ⟨0x0001, [], false, 0, some (status, results)⟩

/-- Bytes of a list cut or filled with zeros to a length. -/
def padTo (n : Nat) (l : List Byte) : List Byte := (l ++ List.replicate n 0).take n

/-- The 64 bytes of a response (R342). -/
def responseBytes (opcode tag status flags ticks phase : Nat) (results : List Byte) : List Byte :=
  le 2 opcode ++ le 2 tag ++ le 2 status ++ le 1 flags ++ le 1 0 ++ le 8 ticks ++ padTo 47 results ++ le 1 (128 * phase)

/-- The four little-endian bytes of each word. -/
def wordBytes (ws : List Nat) : List Byte := ws.flatMap (le 4)

namespace State

/-- The queue number of a source in the violation log (R362). -/
def sourceQueue : MbxSource → Nat
  | .ring m => 7936 + m
  | .urgent => vlogUrgent

/-- MBX_STATUS shows the commands in progress and outstanding (R345, R348). -/
def syncMbx (s : State) (d : Nat) : State :=
  (s.wr F.MBX_STATUS.IN_PROGRESS [d] (s.taken.filter (·.die == d)).length).wr F.MBX_STATUS.OUTSTANDING [d]
    (s.outstanding.filter (·.die == d)).length

/-- Mailbox ring m of die d holds a command that could be taken: ENABLED, not empty, the command before it answered (R345, R313, R364). -/
def ringWaits (s : State) (d m : Nat) : Bool :=
  s.queEnabled d (7936 + m) && !s.ringEmpty d (7936 + m) && !s.taken.any fun t => t.die == d && t.src == .ring m

/-- The command in the urgent mailbox of die d could be taken (R345, R351). -/
def urgentWaits (s : State) (d : Nat) : Bool :=
  s.isSet F.MBX_URG_STATUS.BUSY [d] && !s.taken.any fun t => t.die == d && t.src == .urgent

/-- The ring whose turn it is: the next in ascending q after the one served last (R345). -/
def ringTurn (s : State) (d : Nat) : Option Nat :=
  let ms := (List.range 128).map fun k => (s.rd I.mbxTurn [d] + k) % 128
  ms.find? fun m => s.ringWaits d m

/-- The engine can take a command of the source now (R345, R347): one command a core cycle, fewer than 64 in progress, the urgent mailbox first,
then the rings in turn. -/
def canTake (s : State) (h : MbxHdr) : Bool :=
  s.mode != .hold && !s.dieRetired h.die
    && (s.mode != .vigil || s.isSet I.linkL0 [h.die])
    && s.rd I.mbxTook [h.die] != s.now + 1
    && (s.taken.filter (·.die == h.die)).length < 64
    && match h.src with
      | .urgent => s.urgentWaits h.die
      | .ring m => !s.urgentWaits h.die && s.ringTurn h.die == some m

/-- Take a command: HEAD passes it (R345). -/
def take (s : State) (h : MbxHdr) (opcode : Nat) : State × Taken :=
  let s := s.wr I.mbxTook [h.die] (s.now + 1)
  match h.src with
  | .urgent =>
    let t := Taken.mk h.die h.src h.tag opcode 0 0 s.now false
    ({ s with taken := s.taken ++ [t] }.syncMbx h.die, t)
  | .ring m =>
    let q := 7936 + m
    let t := Taken.mk h.die h.src h.tag opcode (s.rd F.QUE_PTR.HEAD [h.die, q]) (s.rd F.QUE_STATUS.PHASE [h.die, q]) s.now false
    (({ s.wr I.mbxTurn [h.die] (m + 1) with taken := s.taken ++ [t] }.syncMbx h.die).advanceOwn h.die q, t)

/-- The tag is outstanding on the die (R349). -/
def tagOutstanding (s : State) (d tag : Nat) : Bool :=
  (s.taken.any fun t => t.die == d && t.tag == tag) || s.outstanding.any fun o => o.die == d && o.tag == tag

/-- The bits of MBX_URG_RSP are written word by word (R351). -/
def writeUrgent (s : State) (d : Nat) (bytes : List Byte) : State :=
  s.each (List.range 16) fun s k => s.wr F.MBX_URG_RSP.WORD [d, k] (ofLe ((bytes.drop (4 * k)).take 4))

/-- Issue the response of a taken command (R342, R343, R351). A disabled ring gets none (R312). -/
def respondWith (s : State) (t : Taken) (status flags : Nat) (results : List Byte) : State :=
  let s := { s with taken := s.taken.filter fun x => !(x.die == t.die && x.src == t.src && x.tag == t.tag) }.syncMbx t.die
  if t.dropped then s else
  match t.src with
  | .urgent =>
    let s := s.writeUrgent t.die (responseBytes t.opcode t.tag status flags (s.blkOf t.die) 0 results)
    let s := (s.wr F.MBX_URG_STATUS.BUSY [t.die] 0).flag F.MBX_URG_STATUS.DONE [t.die]
    s.raise t.die 218 (t.tag + 2 ^ 16 * status)
  | .ring m =>
    let q := 7936 + m
    s.on (s.isSet F.QUE_STATUS.STATE [t.die, q]) fun s =>
      let s := s.emit (.mem t.die (s.rd F.QUE_AUX.ADDR [t.die, q] + 64 * t.index)
        (responseBytes t.opcode t.tag status flags (s.blkOf t.die) t.phase results))
      let s := { s with ringRecs := s.ringRecs ++ [RingRec.mk t.die q t.index none true s.now] }
      s.countRecord t.die q (s.blkOf t.die)

/-- Firmware issues the response; in the deadline cycle it carries LATE_ARRIVAL (R346). -/
def respond (s : State) (t : Taken) (status flags : Nat) (results : List Byte) : State :=
  s.respondWith t status (flags + b2n (s.elapsesNow t.takenAt 2500000)) results

/-- The answer deadline of a command in progress has landed (R346): the engine converts it to an outstanding command. -/
def convert (s : State) (t : Taken) : State :=
  s.on (s.elapsed t.takenAt 2500000) fun s =>
    let s := s.respondWith t 0x0001 4 []
    s.on (!t.dropped) fun s =>
      { s with outstanding := s.outstanding ++ [Outstanding.mk t.die t.src t.tag t.opcode true true false 0 none] }.syncMbx t.die

/-- Keep the final status and results of the last 256 outstanding commands of a die (R348). -/
def keep (s : State) (k : Kept) : State :=
  let mine := s.kept.filter (·.die == k.die)
  let rest := s.kept.filter (·.die != k.die)
  { s with kept := rest ++ (mine ++ [k]).drop (mine.length + 1 - 256) }

/-- An outstanding command finishes: MBX_DONE carries its final status (R348, R366). -/
def finish (s : State) (o : Outstanding) (status : Nat) (results : List Byte) : State :=
  let s := { s with outstanding := s.outstanding.filter fun x => !(x.die == o.die && x.tag == o.tag) }.syncMbx o.die
  (s.keep ⟨o.die, o.tag, status, results⟩).raise o.die 216 (o.tag + 2 ^ 16 * status)

/-- Every outstanding command of an opcode that works on a unit finishes. -/
def finishUnit (s : State) (opcode unit status : Nat) (results : List Byte) : State :=
  s.each (s.outstanding.filter fun o => o.opcode == opcode && o.unit == unit && !o.deferred) fun s o => s.finish o status results

/-- Deferred requests are dropped (R381); a mailbox command among them finishes with a status. -/
def withdrawWith (s : State) (code : Nat) (p : Deferred → Bool) : State :=
  (s.withdraw p).each (s.deferred.filter p) fun s x =>
    match x.cmd with
    | none => s
    | some (h, _) =>
      match s.outstanding.find? fun o => o.deferred && o.die == h.die && o.tag == h.tag with
      | some o => s.finish o code []
      | none => s

/-- The die a command concerns; an error is the status to answer (R344, R340). -/
def concernDie (s : State) (h : MbxHdr) (c : Concern) : Except Nat Nat :=
  let named := if h.dieField = 0 then h.die else h.dieField - 1
  match c with
  | .byField => if s.dieRetired named then .error 0x020A else .ok named
  | .channel g =>
    if h.dieField ≠ 0 ∧ h.dieField - 1 ≠ g / 2 then .error 0x0101
    else if s.dieRetired (g / 2) then .error 0x020A else .ok (g / 2)
  | .package => .ok s.control

/-- Answer a taken command with a reply: a response, and an outstanding entry for ACCEPTED and DEFERRED (R342, R346, R348). -/
def answer (s : State) (t : Taken) (forwarded : Bool) (r : Reply) : State :=
  let s := s.respond t r.status (2 * b2n forwarded + 8 * b2n r.derated) r.results
  s.on (r.status == 1 || r.status == 2) fun s =>
    { s with outstanding := s.outstanding ++ [Outstanding.mk t.die t.src t.tag t.opcode false false (r.status == 2) r.unit r.done] }.syncMbx t.die

/-- What carrying out the command at die `target` yields, after the checks of R347, R348 and R372; a conversion is not held to the limit. -/
def carryOut (s : State) (d : Nat) (limit : Bool) (k : CmdKind) (target : Nat) (body : State → Nat → State × Reply) : State × Reply :=
  if k.conf ∧ s.mode = .service then (s, .code 0x0201)
  else if ¬k.inVigil ∧ s.mode = .vigil then (s, .code 0x0226)
  else
    let r := body s target
    if limit ∧ (r.2.status = 1 ∨ r.2.status = 2) ∧ 256 ≤ (s.outstanding.filter fun o => o.die == d && !o.late).length then
      (s, .code 0x0302)
    else r

/-- The matching converted command of a header (R346). -/
def convertedOf (s : State) (h : MbxHdr) (opcode : Nat) : Option Outstanding :=
  s.outstanding.find? fun o => o.converted && o.die == h.die && o.src == h.src && o.tag == h.tag && o.opcode == opcode

/-- The matching command in progress of a header (R345). -/
def takenOf (s : State) (h : MbxHdr) (opcode : Nat) : Option Taken :=
  s.taken.find? fun t => t.die == h.die && t.src == h.src && t.tag == h.tag && t.opcode == opcode

/-- Carry out a taken command and answer it. -/
def mbxCarry (s : State) (h : MbxHdr) (k : CmdKind) (c : Concern) (body : State → Nat → State × Reply) (t : Taken) : State :=
  match s.concernDie h c with
  | .error e => s.answer t false (.code e)
  | .ok target =>
    let r := s.carryOut h.die true k target body
    r.1.answer t (target != h.die) r.2

/-- A command that is not carried out (R363): an unknown opcode, or a malformed layout. -/
def mbxUnknown (s : State) (h : MbxHdr) (opcode code : Nat) : State :=
  if s.canTake h then
    let code := if s.tagOutstanding h.die h.tag then 0x0407 else code
    let st := s.take h opcode
    (st.1.violation h.die code (sourceQueue h.src) (h.tag + 2 ^ 16 * opcode)).respond st.2 code 0 []
  else s

/-- A mailbox command: one already converted by the engine is carried out and finishes by MBX_DONE, one in progress is
carried out and answered, and one that waits is taken first; a reused tag is answered 0x0407 (R345 to R349). A command that
cannot be taken stays where it is; DIE = 3 makes it malformed (R352). -/
def mbx (s : State) (h : MbxHdr) (opcode : Nat) (k : CmdKind) (c : Concern) (body : State → Nat → State × Reply) : State :=
  if 2 < h.dieField then s.mbxUnknown h opcode 0x0406 else
  match s.convertedOf h opcode with
  | some o =>
    match s.concernDie h c with
    | .error e => s.finish o e []
    | .ok target =>
      let r := s.carryOut h.die false k target body
      if r.2.status = 1 ∨ r.2.status = 2 then
        { r.1 with outstanding := r.1.outstanding.map fun x => if x = o then Outstanding.mk o.die o.src o.tag o.opcode true false (r.2.status == 2) r.2.unit r.2.done else x }
      else r.1.finish o r.2.status r.2.results
  | none =>
    match s.takenOf h opcode with
    | some t => if h.takeOnly then s else s.mbxCarry h k c body t
    | none =>
      if s.canTake h then
        let reused := s.tagOutstanding h.die h.tag
        let st := s.take h opcode
        if reused then
          (st.1.violation h.die 0x0407 (sourceQueue h.src) (h.tag + 2 ^ 16 * opcode)).respond st.2 0x0407 0 []
        else if h.takeOnly then st.1 else st.1.mbxCarry h k c body st.2
      else s

/-- A command whose writes act from the next block: it is taken at once, and carried out as the core cycle ends, where an arm of the same cycle counts
as earlier (R129, R144, R152, R176, R195, R236, R350). -/
def mbxAtEnd (s : State) (h : MbxHdr) (opcode : Nat) (c : Instr) (k : CmdKind) (d : Concern) (body : State → Nat → State × Reply) : State :=
  if s.closing then s.mbx h opcode k d body
  else
    let s := s.on (s.convertedOf h opcode).isNone fun s => s.mbx { h with takeOnly := true } opcode k d body
    s.on (!h.takeOnly && ((s.takenOf h opcode).isSome || (s.convertedOf h opcode).isSome)) fun s => s.book c

/-- The bits of a register that its field table names (R8). -/
def regMask (r : Reg) : Nat := (r.fields.map fun i => 2 ^ i.fld.lo * (2 ^ i.fld.width - 1)).sum

/-- A register image has no non-zero reserved field (R350). -/
def imageOk (r : Reg) (v : Nat) : Bool := Nat.land v (regMask r) == v

/-- Writes of a configuration command in order; the first that is not accepted ends it with its status (R350).
The number of writes accepted comes back too. -/
def cfgSeq : List (State → State × Nat) → State → Nat → State × Nat × Nat
  | [], s, n => (s, n, 0)
  | w :: ws, s, n =>
    let r := w s
    if r.2 = 0 then cfgSeq ws r.1 (n + 1) else (r.1, n, r.2)

/-- The reply of a configuration command: byte 16 holds the number of writes accepted (R350). -/
def cfgReply (images : List (Reg × Nat)) (ws : List (State → State × Nat)) (s : State) : State × Reply :=
  if images.all fun i => imageOk i.1 i.2 then
    let r := cfgSeq ws s 0
    (r.1, ⟨r.2.2, le 1 r.2.1, false, 0, none⟩)
  else (s, .code 0x0100)

end State

end Sys2Proof.Machine
end

