-- ==== Sys2Proof/Machine/Interp.lean ====
section
/-!
DEFINITION. The crossing interpolator of R161: the Lanczos prototype in units of 2^−18 and the raw fraction.
-/

namespace Sys2Proof.Machine

/-- π in units of 2^−80. -/
def piFix : Nat := 3797952473636338580787993

/-- Terms of the sine series: from the term x^(2n+1)/(2n+1)! on, `fuel` of them, signs alternating; all in units of 2^−80. -/
def sinSeries : Nat → Nat → Nat → Int → Int → Int
  | 0, _, _, _, acc => acc
  | fuel + 1, n, x, term, acc =>
    let next := term * x * x / (2 ^ 160 : Nat) / ((2 * n + 2) * (2 * n + 3) : Nat)
    sinSeries fuel (n + 1) x next (if n % 2 = 0 then acc + term else acc - term)

/-- sin(π · num / den) in units of 2^−80, for 0 ≤ num: reduced to an angle of at most a quarter turn. -/
def sinPi (num den : Nat) : Int :=
  let k := num / den
  let f := num % den
  let f := if 2 * f ≤ den then f else den - f
  let x := piFix * f / den
  let v := sinSeries 16 0 x x 0
  if k % 2 = 0 then v else -v

/-- h(n / 1,024) in units of 2^−18, rounded to nearest: 4 · sin(πt) · sin(πt/4) / (πt)², and 1 at 0, 0 from 4 on (R161). -/
def lanczos (n : Int) : Int :=
  let a := n.natAbs
  if a = 0 then 2 ^ 18
  else if 4096 ≤ a then 0
  else
    -- numerator in 2^−160; (π·a/1,024)² in 2^−160
    let num := 4 * sinPi a 1024 * sinPi a 4096
    let den : Int := ((piFix * a) * (piFix * a) / 2 ^ 20 : Nat)
    let z := num * 2 ^ 19 / den
    (z + 1) / 2

/-- v(i / 1,024) in units of 2^−18, from the eight samples x[m − 3] to x[m + 4] (R161). -/
def interpAt (xs : List Int) (i : Nat) : Int :=
  (xs.zipIdx.map fun p => p.1 * lanczos ((i : Int) - 1024 * ((p.2 : Int) - 3))).sum

/-- The largest i below n with v(i / 1,024) on the near side of a level: below it for a rising crossing, above for a falling one. -/
def rawFraction (xs : List Int) (level : Int) (rising : Bool) : Nat → Nat
  | 0 => 0
  | n + 1 =>
    let v := interpAt xs n
    let l := level * 2 ^ 18
    if (if rising then v < l else l < v) then n else rawFraction xs level rising n

/-- A pair of samples straddles a level (R161). -/
def straddles (a b level : Int) (rising : Bool) : Bool :=
  if rising then a < level && level ≤ b else a > level && level ≥ b

/-- How many samples back from the recognised sample, less one, the straddling pair begins: the first q below 64 for which
(x[r − 1 − q], x[r − q]) straddles. The window starts at x[r − 67]. -/
def straddleBack (xs : List Int) (level : Int) (rising : Bool) : Option Nat :=
  (List.range 64).find? fun q => straddles (xs.getD (66 - q) 0) (xs.getD (67 - q) 0) level rising

/-- The samples back to x[m], the raw fraction, and the SLOW flag of a crossing (R161); `far` is U or D. -/
def placeCrossing (xs : List Int) (level far : Int) (rising : Bool) : Nat × Nat × Bool :=
  match straddleBack xs level rising with
  | some q => (q + 1, rawFraction ((xs.drop (63 - q)).take 8) level rising 1024, false)
  | none => (1, rawFraction ((xs.drop 63).take 8) far rising 1024, true)

end Sys2Proof.Machine
end

