-- ==== Sys2Proof/Machine/HostOps.lean ====
section
/-!
DEFINITION. Host access to the registers: when it reaches a die, and how a 32-bit write meets a wider field.
-/

namespace Sys2Proof.Machine

/-- A field of more than 32 bits with word k written (R6). -/
def putWord (old k v : Nat) : Nat := old - slice old (32 * k) 32 * 2 ^ (32 * k) + v % 2 ^ 32 * 2 ^ (32 * k)

namespace State

/-- Host accesses reach the registers of a die: out of HOLD, the die not retired, its link in L0 (R34, R368, R402). -/
def hostReach (s : State) (d : Nat) : Bool := s.mode != .hold && !s.dieRetired d && s.isSet I.linkL0 [d]

/-- A host write takes effect where it reaches the die. -/
def hostWrite (s : State) (d : Nat) (f : State → State) : State := s.on (s.hostReach d) f

/-- A host write that answers a status in its mailbox form; the register form drops the status. -/
def hostStatus (s : State) (d : Nat) (f : State → State × Nat) : State := s.hostWrite d fun s => (f s).1

/-- A package service is reached through die `d` while the die with the control role works (R480). -/
def packageWrite (s : State) (d : Nat) (f : State → State) : State := s.hostWrite d fun s => s.on (!s.dieRetired s.control) f

/-- The bits of a write-one-to-clear field that a write of `v` leaves: those it does not clear, and those that the hardware sets in this
very cycle (R7, R10). -/
def w1cLeft (s : State) (f : Fld) (ix : List Nat) (v : Nat) : Nat :=
  Nat.lor (s.rd f ix - Nat.land (s.rd f ix) v) (Nat.land (s.rd f ix) (s.freshOf f ix))

/-- A one-bit write-one-to-clear field. -/
def clear1 (s : State) (f : Fld) (ix : List Nat) (bit : Bool) : State := s.on bit fun s => s.wr f ix (s.w1cLeft f ix 1)

end State

end Sys2Proof.Machine
end

