-- ==== Sys2Proof/Machine/TimOps.lean ====
section
/-!
DEFINITION. Time-interval units: the events they hold, their measurements and their FIFOs (R273 to R286).
-/

namespace Sys2Proof.Machine

/-- Flag bits of a result, from bit 16 of word 2 (R286). -/
def timFlagBits (under neg ovr none coast step lost : Bool) : Nat :=
  b2n under + 2 * b2n neg + 4 * b2n ovr + 8 * b2n none + 16 * b2n coast + 32 * b2n step + 64 * b2n lost

/-- The eight words of a result (R286). -/
def TimResult.words (r : TimResult) : List Nat :=
  let v := sfield 64 r.value
  [trunc 32 (r.first / 4096), trunc 32 (r.first / 4096 / 2 ^ 32), r.first % 4096 + 2 ^ 16 * r.flags,
    trunc 32 v, v / 2 ^ 32, trunc 32 r.count, trunc 32 (r.count / 2 ^ 32), trunc 16 r.seq + 2 ^ 16 * r.mode]

namespace State

/-- Time-interval unit u of die d. -/
def timOf (s : State) (d u : Nat) : Tim := s.tims.getD (8 * d + u) Tim.idle

/-- The state with a unit replaced. -/
def setTim (s : State) (d u : Nat) (t : Tim) : State := { s with tims := s.tims.set (8 * d + u) t }

/-- TIM_RES, FIFO_LEVEL and OPEN show the unit (R284, R286). -/
def syncTim (s : State) (d u : Nat) : State :=
  let t := s.timOf d u
  let words := (t.fifo.head?.map TimResult.words).getD (List.replicate 8 0)
  let s := s.each (words.zipIdx) fun s w => s.wr F.TIM_RES.WORD [d, u, w.2] w.1
  (s.wr F.TIM_STATUS.FIFO_LEVEL [d, u] t.fifo.length).wrBool F.TIM_STATUS.OPEN [d, u]
    (t.opened.isSome || (t.firstEdge.isSome && s.rd F.TIM_CTRL.MODE [d, u] != 3))

/-- A result enters the FIFO, or is lost (R286). -/
def timResult (s : State) (d u : Nat) (first last : Instant) (value : Int) (count step : Nat) (neg none : Bool) : State :=
  let t := s.timOf d u
  let under := !none && value.natAbs < step
  let ovr := 2 ^ 63 ≤ value.natAbs
  let v : Int := if under then 0 else satInt 64 value
  let a := (if neg then last else first) / 4096
  let b := (if neg then first else last) / 4096
  if 32 ≤ t.fifo.length then
    (s.setTim d u { t with lost := true, seq := t.seq + 1 }).stick F.TIM_STATUS.FIFO_OVF [d, u] d 180 u
  else
    let r : TimResult :=
      ⟨first, timFlagBits under neg ovr none (s.coastMeets d a b) (s.stepMeets a b) t.lost, v, count, trunc 16 t.seq, s.rd F.TIM_CTRL.MODE [d, u]⟩
    let s := (s.setTim d u { t with fifo := t.fifo ++ [r], lost := false, seq := t.seq + 1 }).syncTim d u
    s.on (t.fifo.isEmpty && s.isSet F.TIM_CTRL.RES_EVT_EN [d, u]) fun s => s.raise d (172 + u) r.seq

/-- INTERVAL mode (R278, R279). -/
def timInterval (s : State) (d u e : Nat) (dt : Instant) (step : Nat) : State :=
  let t := s.timOf d u
  let signed := s.isSet F.TIM_CTRL.SIGNED [d, u]
  let ignored := s.count (if e = 0 then F.TIM_IGN_START.COUNT else F.TIM_IGN_STOP.COUNT) [d, u] 1
  match t.opened with
  | none => if e = 1 ∧ !signed then ignored else (s.setTim d u { t with opened := some (e, dt, step) }).syncTim d u
  | some (e0, dt0, step0) =>
    if e = e0 then ignored
    else
      let s := s.setTim d u { t with opened := none }
      let start := if e0 = 0 then dt0 else dt
      let stop := if e0 = 0 then dt else dt0
      (s.timResult d u start stop (instDiff stop start) 0 (max step step0) (e0 == 1) false).syncTim d u

/-- PERIOD mode (R281). -/
def timPeriod (s : State) (d u : Nat) (dt : Instant) (step : Nat) : State :=
  let t := s.timOf d u
  match t.firstEdge with
  | none => (s.setTim d u { t with firstEdge := some dt, edges := 0, step }).syncTim d u
  | some f =>
    if t.edges + 1 < s.rd F.TIM_N.N [d, u] then s.setTim d u { t with edges := t.edges + 1, step := max step t.step }
    else
      let s := s.setTim d u { t with firstEdge := none, edges := 0 }
      (s.timResult d u f dt (instSub dt f) (s.rd F.TIM_N.N [d, u]) (max step t.step) false false).syncTim d u

/-- FREQUENCY mode: an edge of the present gate (R282). -/
def timGateEdge (s : State) (d u : Nat) (dt : Instant) (step : Nat) : State :=
  let t := s.timOf d u
  (s.setTim d u { t with firstEdge := some (t.firstEdge.getD dt), lastEdge := some dt, edges := t.edges + 1, step := max step t.step }).syncTim d u

/-- TOTALIZE mode: a start counts, a stop writes a result and restarts the count (R283). -/
def timTotal (s : State) (d u e : Nat) (dt : Instant) : State :=
  if e = 0 then s.inc F.TIM_TOTAL.COUNT [d, u]
  else
    let t := s.timOf d u
    let first := t.firstEdge.getD (4096 * t.enabledAt)
    let s := s.setTim d u { t with firstEdge := some dt }
    ((s.timResult d u first dt (instSub dt first) (s.rd F.TIM_TOTAL.COUNT [d, u]) 0 false false).wr F.TIM_TOTAL.COUNT [d, u] 0).syncTim d u

/-- One event of an input, after its hold-off (R277). -/
def timEvent (s : State) (v : TimEvent) : State :=
  let d := v.die
  let u := v.u
  let t := s.timOf d u
  let h := max 128 (s.rd (if v.e = 0 then F.TIM_START_SRC.HOLDOFF else F.TIM_STOP_SRC.HOLDOFF) [d, u])
  let last := if v.e = 0 then t.lastStart else t.lastStop
  if (last.map fun l => decide (instSub v.dt l < 4096 * h)).getD false then s.count F.TIM_SUPPRESS.COUNT [d, u] 1
  else
    let s := s.setTim d u (if v.e = 0 then { t with lastStart := some v.dt } else { t with lastStop := some v.dt })
    match s.rd F.TIM_CTRL.MODE [d, u] with
    | 0 => s.timInterval d u v.e v.dt v.step
    | 1 => s.timPeriod d u v.dt v.step
    | 2 => s.timGateEdge d u v.dt v.step
    | _ => s.timTotal d u v.e v.dt

/-- Sort of held events: ascending DT, a start before a stop (R274). -/
def timOrder (a b : TimEvent) : Bool := if a.dt = b.dt then a.e ≤ b.e else instGe b.dt a.dt

/-- End of the present gate, a tick (R282). -/
def gateEnd (s : State) (d u : Nat) : Nat := dtAdd (s.timOf d u).gateStart (s.rd F.TIM_GATE.US [d, u] * 160000)

/-- A held event may be processed: 64 core cycles have passed, and in FREQUENCY mode its gate is the present one (R274, R282). -/
def timReady (s : State) (v : TimEvent) : Bool :=
  s.elapsed v.since 64 && (s.rd F.TIM_CTRL.MODE [v.die, v.u] != 2 || !instGe v.dt (4096 * s.gateEnd v.die v.u))

/-- Process the held events of a unit that satisfy a test, in their order (R274). -/
def timTake (s : State) (d u : Nat) (p : TimEvent → Bool) : State :=
  let mine (v : TimEvent) : Bool := v.die == d && v.u == u && p v
  ({ s with timHeld := s.timHeld.filter fun v => !mine v }).each ((s.timHeld.filter mine).mergeSort timOrder) timEvent

/-- A disabled unit ends: the events before the disable tick are processed, a TOTALIZE unit writes its final result, an open measurement
writes none, and OPEN shows that there was one (R276, R283, R284). -/
def timFinish (s : State) (d u : Nat) : State :=
  match (s.timOf d u).stopping with
  | none => s
  | some (tick, _) =>
    let s := s.timTake d u fun _ => true
    let open_ := s.rd F.TIM_STATUS.OPEN [d, u]
    let s := s.on (s.rd F.TIM_CTRL.MODE [d, u] == 3) fun s => s.timTotal d u 1 (4096 * tick)
    let t := s.timOf d u
    ((s.setTim d u { Tim.idle with fifo := t.fifo, seq := t.seq, lost := t.lost }).syncTim d u).wr F.TIM_STATUS.OPEN [d, u] open_

/-- A unit that was disabled has every event before the disable tick: a source takes 43 cycles at most, and the unit holds an event for 64
(R274). -/
def timDrained (s : State) (d u : Nat) : Bool := ((s.timOf d u).stopping.map fun p => s.elapsed p.2 107).getD false

/-- Process the held events of a unit that are ready (R274). -/
def timProcess (s : State) (d u : Nat) : State :=
  let s := s.timTake d u s.timReady
  s.on (s.timDrained d u) fun s => s.timFinish d u

/-- Whether an edge counts for an EDGE selection (R273); events without a direction always do. -/
def edgeMatches (sel : Nat) : Option Bool → Bool
  | none => true
  | some rising => sel == 2 || (sel == 0 && rising) || (sel == 1 && !rising)

/-- The input of a unit is used by its mode (R273): a stop input by INTERVAL, and by TOTALIZE where it names a source. -/
def inputUsed (s : State) (d u e : Nat) : Bool :=
  e == 0 || s.rd F.TIM_CTRL.MODE [d, u] == 0
    || (s.rd F.TIM_CTRL.MODE [d, u] == 3 && s.rd F.TIM_STOP_SRC.SRC [d, u] != 0xFF)

/-- A unit takes an event for an input, at most 4 in a core cycle (R274, R276). -/
def timHold (s : State) (d u e : Nat) (dt : Instant) (step : Nat) : State :=
  if !instGe dt (4096 * (s.timOf d u).enabledAt) then s
  else if 4 ≤ (s.timHeld.filter fun v => v.die == d && v.u == u && v.since == s.now).length then
    s.count F.TIM_SUPPRESS.COUNT [d, u] 1
  else { s with timHeld := s.timHeld ++ [⟨d, u, e, dt, step, s.now⟩] }

/-- A unit takes events of an instant: it is enabled, or was disabled from a later tick (R276). -/
def timTakes (s : State) (d u : Nat) (dt : Instant) : Bool :=
  s.isSet F.TIM_CTRL.EN [d, u] || ((s.timOf d u).stopping.map fun p => !instGe dt (4096 * p.1)).getD false

/-- An event source offers an event to the die's units (R273). -/
def timOffer (s : State) (d src : Nat) (dt : Instant) (step : Nat) (edge : Option Bool) : State :=
  s.each (List.range 16) fun s k =>
    let u := k / 2
    let e := k % 2
    let reg := if e = 0 then (F.TIM_START_SRC.SRC, F.TIM_START_SRC.EDGE) else (F.TIM_STOP_SRC.SRC, F.TIM_STOP_SRC.EDGE)
    s.on (s.timTakes d u dt && s.inputUsed d u e && s.rd reg.1 [d, u] == src && edgeMatches (s.rd reg.2 [d, u]) edge)
      fun s => s.timHold d u e dt step

/-- An SRC code is reserved (R273); `stop` admits 0xFF. -/
def timSrcReserved (src : Nat) (stop : Bool) : Bool :=
  !((0x10 ≤ src && src ≤ 0x1F) || (0x20 ≤ src && src ≤ 0x2B) || (0x40 ≤ src && src ≤ 0x4B) || src == 0x50 || (stop && src == 0xFF))

/-- The enable checks but for the admission (R276). -/
def timCheck (s : State) (d u : Nat) : Nat :=
  let m := s.rd F.TIM_CTRL.MODE [d, u]
  let gate := s.rd F.TIM_GATE.US [d, u]
  let stop := s.rd F.TIM_STOP_SRC.SRC [d, u]
  let retired (src : Nat) : Bool := (src == 0x20 || src == 0x21) && s.isSet I.cmpRetired [d, src - 0x20]
  if !(s.mode == .ready || s.mode.acquires) then 0x0220
  else if retired (s.rd F.TIM_START_SRC.SRC [d, u]) || (retired stop && (m == 0 || m == 3)) || timSrcReserved (s.rd F.TIM_START_SRC.SRC [d, u]) false || (m == 0 && timSrcReserved stop false)
      || (m == 3 && timSrcReserved stop true) then 0x01A0
  else if (m == 1 && !s.isSet F.TIM_N.N [d, u]) || (m == 2 && !(1 ≤ gate && gate ≤ 100000000)) then 0x01A1
  else 0

/-- The unit is enabled from a tick (R276). -/
def timStart (s : State) (d u tick : Nat) : State :=
  let s := s.timFinish d u
  let t := s.timOf d u
  let s := s.setTim d u { Tim.idle with enabledAt := tick, gateStart := tick, fifo := t.fifo }
  (((s.wr F.TIM_CTRL.EN [d, u] 1).wr F.TIM_TOTAL.COUNT [d, u] 0).wr F.TIM_STATUS.EN_CHECK [d, u] 0).syncTim d u

/-- The unit is disabled from a tick (R276): it still takes the events before it. -/
def timStop (s : State) (d u tick : Nat) : State :=
  if !s.isSet F.TIM_CTRL.EN [d, u] then s
  else
    let s := { s with timHeld := s.timHeld.filter fun v => !(v.die == d && v.u == u && instGe v.dt (4096 * tick)) }
    (s.setTim d u { s.timOf d u with stopping := some (tick, s.now) }).wr F.TIM_CTRL.EN [d, u] 0

/-- Every unit of the die is disabled by a mode change, with TIM_STOPPED (R276). -/
def timStopAll (s : State) (d : Nat) : State :=
  let on := (List.range 8).foldl (fun n u => if s.isSet F.TIM_CTRL.EN [d, u] then setBit n u else n) 0
  let s := s.each (List.range 8) fun s u => (s.timStop d u (s.blkOf d)).timFinish d u
  s.on (on != 0) fun s => s.raise d 182 on

/-- A FREQUENCY gate ends (R282): the events of the gate are processed, the result is written, the next gate follows. -/
def timGateEnd (s : State) (d u : Nat) : State :=
  let e := s.gateEnd d u
  if !s.isSet F.TIM_CTRL.EN [d, u] || s.rd F.TIM_CTRL.MODE [d, u] != 2 || !s.dueOn d e then s
  else
    let s := s.timTake d u fun v => !instGe v.dt (4096 * e)
    let t := s.timOf d u
    let s := s.setTim d u { t with firstEdge := none, lastEdge := none, edges := 0, step := 0, gateStart := e }
    let few := t.edges < 2
    let first := t.firstEdge.getD (4096 * t.gateStart)
    let last := t.lastEdge.getD first
    (s.timResult d u first last (if few then 0 else (instSub last first : Nat)) (if few then 0 else t.edges - 1) t.step false few).syncTim d u

/-- A TIM_CUE entry is armed, or LATE (R275). -/
def timCueArm (s : State) (d u e : Nat) : State :=
  if dtGe (s.rd F.TIM_CUE.TICKS [d, u, e]) (s.blkOf d) then s.wr F.TIM_CUE.ARM [d, u, e] 1
  else (s.flag F.TIM_CUE.LATE [d, u, e]).raise d 181 (u + 2 ^ 3 * e)

/-- One word of TIM_CUE (R275): words 0 and 1 the ticks, word 2 the fraction, ARM and LATE. The unit reads an armed cue at the
moment of its arming, so the words of an armed cue do not change. -/
def writeTimCue (d u e w v : Nat) (s : State) : State :=
  let armed := s.isSet F.TIM_CUE.ARM [d, u, e]
  if w < 2 then
    s.on (!armed) fun s =>
      s.wr F.TIM_CUE.TICKS [d, u, e] (s.rd F.TIM_CUE.TICKS [d, u, e] - slice (s.rd F.TIM_CUE.TICKS [d, u, e]) (32 * w) 32 * 2 ^ (32 * w)
        + v % 2 ^ 32 * 2 ^ (32 * w))
  else
    let s := s.on (!armed) fun s => s.wr F.TIM_CUE.FRAC [d, u, e] (slice v 0 12)
    let s := s.clear1 F.TIM_CUE.LATE [d, u, e] (bitAt v 17)
    if armed then s.on (!bitAt v 16) fun s => s.wr F.TIM_CUE.ARM [d, u, e] 0
    else s.on (bitAt v 16) fun s => s.timCueArm d u e

/-- An armed cue produces its event at its DT (R273, R275). -/
def timCueFire (s : State) (d u e : Nat) : State :=
  let t := s.rd F.TIM_CUE.TICKS [d, u, e]
  if !s.isSet F.TIM_CUE.ARM [d, u, e] || !s.dueOn d t then s
  else
    let s := s.wr F.TIM_CUE.ARM [d, u, e] 0
    let src := s.rd (if e = 0 then F.TIM_START_SRC.SRC else F.TIM_STOP_SRC.SRC) [d, u]
    s.on (src == 0x50 && s.isSet F.TIM_CTRL.EN [d, u] && s.inputUsed d u e) fun s =>
      s.timHold d u e (4096 * t + s.rd F.TIM_CUE.FRAC [d, u, e]) 1

/-- The FIFO of a unit is full: a result of this core cycle comes after a read of the cycle (R286). -/
def timFull (s : State) (d u : Nat) : Bool := decide (32 ≤ (s.timOf d u).fifo.length)

/-- The head of the FIFO is removed (R286). -/
def timPop (s : State) (d u : Nat) : State :=
  let t := s.timOf d u
  (s.setTim d u { t with fifo := t.fifo.drop 1 }).syncTim d u

/-- The status of a write that an enabled unit ignores (R276, R350). -/
def timBusy (s : State) (d u : Nat) : State × Nat := (s.flag F.TIM_STATUS.CFG_REJECT [d, u], 0x0223)

/-- TIM_START_SRC, TIM_STOP_SRC, TIM_GATE and TIM_N (R276). -/
def writeTimCfg (f : List (Fld × Nat)) (d u : Nat) (s : State) : State × Nat :=
  let s := s.timFinish d u
  if s.isSet F.TIM_CTRL.EN [d, u] then s.timBusy d u
  else (s.each f fun s x => s.wr x.1 [d, u] x.2, 0)

/-- The fields of TIM_CTRL but EN (R276): while the unit is enabled only RES_EVT_EN is written. -/
def writeTimCtrl (d u v : Nat) (s : State) : State × Nat :=
  let s := (s.timFinish d u).wr F.TIM_CTRL.RES_EVT_EN [d, u] (slice v 4 1)
  if s.isSet F.TIM_CTRL.EN [d, u] then
    if s.rd F.TIM_CTRL.MODE [d, u] = slice v 1 2 ∧ s.rd F.TIM_CTRL.SIGNED [d, u] = slice v 3 1 then (s, 0) else s.timBusy d u
  else ((s.wr F.TIM_CTRL.MODE [d, u] (slice v 1 2)).wr F.TIM_CTRL.SIGNED [d, u] (slice v 3 1), 0)

end State

end Sys2Proof.Machine
end

