-- ==== Sys2Proof/Machine/TrigOps.lean ====
section
/-!
DEFINITION. The trigger engine: levels, terms, fires, sequencers and triggers (R149 to R178, R482), and the arm and stop of sets.
-/

namespace Sys2Proof.Machine

/-- The summary that a period begins with (R419). -/
def Summary.empty (p : Nat) : Summary := ⟨p, 0, List.replicate 16 0, [], []⟩

/-- FIRE bit and OFFSET of a global term in a summary (R419). -/
def Summary.note (m : Summary) (g off : Nat) : Summary :=
  { m with fire := setBit m.fire g, offsets := m.offsets.set g (if bitAt m.fire g then min off (m.offsets.getD g 0) else off) }

namespace State

-- Levels (R151, R153) ---------------------------------------------------------------------------------

/-- LEVEL of a level, S16 units. -/
def levelOf (s : State) (d c n : Nat) : Int := sval 16 (s.rd F.TRG_LEVEL.LEVEL [d, c, n])

/-- Upper and lower thresholds of a level (R151). -/
def levelUpper (s : State) (d c n : Nat) : Int := s.levelOf d c n + 32 * s.rd F.TRG_LEVEL.HYST [d, c, n]
def levelLower (s : State) (d c n : Nat) : Int := s.levelOf d c n - 32 * s.rd F.TRG_LEVEL.HYST [d, c, n]

/-- The state of a level: 0 UNRESOLVED, 1 LOW, 2 HIGH. -/
def levelState (s : State) (d c n : Nat) : Nat := s.rd F.TRG_LEVEL_STAT.STATE [d, c, n]

/-- The crossing that a level makes at the recognised sample (R161). -/
def crossingOf (s : State) (d c n : Nat) (t : Instant) (xs : List Int) (rising : Bool) : Crossing :=
  let p := placeCrossing xs (s.levelOf d c n) (if rising then s.levelUpper d c n else s.levelLower d c n) rising
  let f := s.rd F.TRG_CURVE.FRAC [d, c, b2n (!rising), p.2.1]
  ⟨c, n, rising, t - p.1 * s.samplePeriod + f * (s.samplePeriod / 1024), p.2.2⟩

/-- One level sees a sample (R151): the state, and the crossing if one is recognised. -/
def levelSees (s : State) (d c n : Nat) (t : Instant) (xs : List Int) : State × List Crossing :=
  let v := xs.getD 67 0
  let up := decide (s.levelUpper d c n ≤ v)
  let down := decide (v < s.levelLower d c n)
  match s.levelState d c n with
  | 0 => (if up then s.wr F.TRG_LEVEL_STAT.STATE [d, c, n] 2 else if down then s.wr F.TRG_LEVEL_STAT.STATE [d, c, n] 1 else s, [])
  | 1 => if up then (s.wr F.TRG_LEVEL_STAT.STATE [d, c, n] 2, [s.crossingOf d c n t xs true]) else (s, [])
  | _ => if down then (s.wr F.TRG_LEVEL_STAT.STATE [d, c, n] 1, [s.crossingOf d c n t xs false]) else (s, [])

/-- A channel's three-state value outside calibration blocks: 0 UNKNOWN, 1 ABOVE, 2 BELOW, 3 BETWEEN (R153). -/
def threeState (s : State) (d c : Nat) : Nat :=
  let up := s.levelState d c (s.rd F.TRG_CH_CFG.PAT_UPPER [d, c])
  let lo := s.levelState d c (s.rd F.TRG_CH_CFG.PAT_LOWER [d, c])
  if up = 0 ∨ lo = 0 then 0
  else if up = 2 then 1 else if lo = 1 then 2 else 3

-- Terms (R154 to R160) ------------------------------------------------------------------------------------

/-- The fields of a term. -/
def termType (s : State) (d t : Nat) : Nat := s.rd F.TRG_TERM_CFG.TYPE [d, t]
def termSrc (s : State) (d t : Nat) : Nat := s.rd F.TRG_TERM_CFG.SRC [d, t]
def termSlope (s : State) (d t : Nat) : Nat := s.rd F.TRG_TERM_CFG.SLOPE [d, t]

/-- SLOPE takes a direction: 0 the first, 1 the other, 2 both; 3 none (R154, R155). -/
def slopeTakes (slope : Nat) (first : Bool) : Bool := slope == 2 || (slope == 0 && first) || (slope == 1 && !first)

/-- COND on a measured interval (R156). -/
def condMet (s : State) (d t : Nat) (x : Nat) : Bool :=
  let t1 := s.rd F.TRG_TERM_T1.T1 [d, t]
  let t2 := s.rd F.TRG_TERM_T2.T2 [d, t]
  match s.rd F.TRG_TERM_CFG.COND [d, t] with
  | 0 => true
  | 1 => x < t1
  | 2 => t1 < x
  | 3 => t1 ≤ x && x ≤ t2
  | 4 => x < t1 || t2 < x
  | _ => false

/-- The Splice carries no trigger-term state vectors (R26). -/
def vectorsWithheld (s : State) : Bool :=
  decide (min (s.rd F.BOB_SPL_LANES.TX_WORKING [0]) (s.rd F.BOB_SPL_LANES.RX_WORKING [0]) < 22)

/-- A pattern element of a term for global channel g (R159). -/
def patAna (s : State) (d t g : Nat) : Nat := slice (s.rd F.TRG_PAT_ANA.ELEM [d, t]) (2 * g) 2
/-- A pattern element of a term for logic channel i (R159). -/
def patLog (s : State) (d t i : Nat) : Nat := slice (s.rd F.TRG_PAT_LOG.ELEM [d, t]) (2 * i) 2

/-- A pattern term names a channel of the other die (R160). -/
def crossDie (s : State) (d t : Nat) : Bool :=
  s.termType d t == 7 && (s.patAna d t (2 * otherDie d) != 0 || s.patAna d t (2 * otherDie d + 1) != 0)

/-- Every element is X (R155). -/
def patEmpty (s : State) (d t : Nat) : Bool := !s.isSet F.TRG_PAT_ANA.ELEM [d, t] && !s.isSet F.TRG_PAT_LOG.ELEM [d, t]

/-- The three-state value of global channel g that die d's engine sees: UNKNOWN in a calibration block (R153). -/
def viewOf (s : State) (d g : Nat) : Nat := if s.calNow (g / 2) (g % 2) then 0 else s.rd I.patView [d, g]

/-- The pattern of a term is true at the sample that the engine evaluates (R159). -/
def patternHolds (s : State) (d t : Nat) : Bool :=
  (List.range 4).all (fun g => s.patAna d t g == 0 || s.viewOf d g == 0 || s.viewOf d g == s.patAna d t g)
    && (List.range 16).all fun i =>
      s.patLog d t i == 0 || bitAt (s.rd I.patUnres [d]) i || b2n (bitAt (s.rd I.patState [d]) i) + 1 == s.patLog d t i

/-- The resolution step of a term's fires for time-interval units (R273). -/
def termStep (s : State) (d t : Nat) : Nat :=
  if s.termType d t = 7 then s.samplePeriod
  else if s.termSrc d t < 2 then s.samplePeriod / 1024
  else if s.termSrc d t < 0x20 then 32768 else 256

/-- The summary of a period is changed; it begins empty (R419). -/
def summarize (s : State) (p : Nat) (f : Summary → Summary) : State :=
  match s.summaries.find? (·.period == p) with
  | none => { s with summaries := s.summaries ++ [f (Summary.empty p)] }
  | some _ => { s with summaries := s.summaries.map fun (x : Summary) => if x.period = p then f x else x }

/-- A mapped term's fire enters the summary of its period, unless that has been sent (R419). -/
def noteFire (s : State) (d t : Nat) (dt : Instant) : State :=
  let k := 12 * d + t
  let p := dt / 4096 / 1024 * 1024
  s.on (s.isSet F.SKN_GTERM.EN [k] && s.isSet F.SKN_STATUS.ROLE_ACT [] && afterMark (s.rd I.skSent []) p) fun s =>
    s.summarize p fun m => m.note (s.rd F.SKN_GTERM.GTERM [k]) (dt - 4096 * p)

/-- A term fires: it counts, and it is offered to time-interval units and summaries (R158, R273, R419). -/
def fireTerm (s : State) (d : Nat) (f : TermFire) : State :=
  ((s.inc F.TRG_TERM_COUNT.COUNT [d, f.term]).timOffer d (0x40 + f.term) f.dt (s.termStep d f.term) none).noteFire d f.term f.dt

/-- A comparator source works for terms only in M0 (R158). -/
def sourceLive (s : State) (d src : Nat) : Bool :=
  !(0x20 ≤ src && src ≤ 0x2B) || (s.rd F.CMP_STATUS.MODE_ACT [d, src - 0x20] == 0 && !s.isSet I.cmpRetired [d, src - 0x20])

/-- A TIMEOUT crossing restarts the count; in the core cycle in which the deadline lands it is in time and LATE (R154, R167). -/
def timeoutSees (s : State) (d t : Nat) (x : Crossing) : State :=
  let late := s.isSet I.toutOn [d, t] && s.isSet F.TRG_TERM_T1.T1 [d, t]
    && s.landsOn d ((s.rd I.toutOrg [d, t] + s.rd F.TRG_TERM_T1.T1 [d, t]) / 4096 % 2 ^ 64)
  let s := s.on late fun s => s.wr F.TRG_STATUS.LATE_TERM [d] (setBit (s.rd F.TRG_STATUS.LATE_TERM [d]) t)
  let org := if s.isSet I.toutOn [d, t] && instGe (s.rd I.toutOrg [d, t]) x.dt then s.rd I.toutOrg [d, t] else x.dt
  (s.wr I.toutOn [d, t] 1).wr I.toutOrg [d, t] org

/-- The end of a runt or a slew: its interval must meet COND (R154). `f` tells the fraction register, `on` its flag. -/
def pairEnd (s : State) (d t : Nat) (first : Bool) (org : Fld) (flag : Fld) (x : Crossing) : State × List TermFire :=
  let ok := s.isSet flag [d, t] && slopeTakes (s.termSlope d t) first && s.condMet d t (instSub x.dt (s.rd org [d, t]))
  (s.wr flag [d, t] 0, if ok then [⟨t, x.dt, x.slow⟩] else [])

/-- One crossing of a term's source (R154); WINDOW is in `windowSees`. -/
def termSees (s : State) (d t : Nat) (x : Crossing) : State × List TermFire :=
  let la := s.rd F.TRG_TERM_CFG.LEVEL_A [d, t]
  let lb := s.rd F.TRG_TERM_CFG.LEVEL_B [d, t]
  let slope := s.termSlope d t
  let onA := x.src ≥ 2 || x.level == la
  if slope = 3 ∨ x.src ≠ s.termSrc d t ∨ !s.sourceLive d x.src then (s, [])
  else match s.termType d t with
  | 1 => (s, if onA ∧ slopeTakes slope x.rising then [⟨t, x.dt, x.slow⟩] else [])
  | 3 =>
    if !onA then (s, [])
    else
      let ok := s.isSet I.termAOn [d, t] && s.isSet I.termARise [d, t] != x.rising && slopeTakes slope (!x.rising)
        && s.condMet d t (instSub x.dt (s.rd I.termA [d, t]))
      (((s.wr I.termAOn [d, t] 1).wr I.termA [d, t] x.dt).wrBool I.termARise [d, t] x.rising, if ok then [⟨t, x.dt, x.slow⟩] else [])
  | 6 => if onA ∧ slopeTakes slope x.rising then (s.timeoutSees d t x, []) else (s, [])
  | 4 =>
    if 2 ≤ x.src then (s, [])
    else if x.level = lb ∧ x.rising then ((s.wr I.termAOn [d, t] 1).wr I.termA [d, t] x.dt, [])
    else if x.level = la ∧ !x.rising then ((s.wr I.termBOn [d, t] 1).wr I.termB [d, t] x.dt, [])
    else if x.level = la then
      let r := s.pairEnd d t false I.termB I.termBOn x
      (r.1.wr I.termAOn [d, t] 0, r.2)
    else if x.level = lb then
      let r := s.pairEnd d t true I.termA I.termAOn x
      (r.1.wr I.termBOn [d, t] 0, r.2)
    else (s, [])
  | 5 =>
    if 2 ≤ x.src then (s, [])
    else if x.level = lb ∧ x.rising then ((s.wr I.termAOn [d, t] 1).wr I.termA [d, t] x.dt, [])
    else if x.level = la ∧ !x.rising then ((s.wr I.termBOn [d, t] 1).wr I.termB [d, t] x.dt, [])
    else if x.level = la then
      let r := s.pairEnd d t true I.termA I.termAOn x
      (r.1.wr I.termBOn [d, t] 0, r.2)
    else if x.level = lb then
      let r := s.pairEnd d t false I.termB I.termBOn x
      (r.1.wr I.termAOn [d, t] 0, r.2)
    else (s, [])
  | _ => (s, [])

/-- WINDOW (R154): the crossings of both levels in DT order, from the states before them; each that changes the inside state in a
direction of SLOPE fires. -/
def windowFires (slope t la lb : Nat) : Bool → Bool → List Crossing → List TermFire
  | _, _, [] => []
  | aLow, bHigh, x :: xs =>
    let aLow' := if x.level = la then !x.rising else aLow
    let bHigh' := if x.level = lb then x.rising else bHigh
    let before := aLow && bHigh
    let after := aLow' && bHigh'
    (if before ≠ after ∧ slopeTakes slope after then [⟨t, x.dt, x.slow⟩] else []) ++ windowFires slope t la lb aLow' bHigh' xs

/-- The fires of a WINDOW term at one sample; `xs` are the crossings of its channel, the levels already hold their new states. -/
def windowSees (s : State) (d t : Nat) (xs : List Crossing) : List TermFire :=
  let la := s.rd F.TRG_TERM_CFG.LEVEL_A [d, t]
  let lb := s.rd F.TRG_TERM_CFG.LEVEL_B [d, t]
  let c := s.termSrc d t
  let mine := (xs.filter fun x => x.src == c && (x.level == la || x.level == lb)).mergeSort fun a b => a.dt ≤ b.dt
  let was (n : Nat) (now : Nat) : Nat := match mine.find? (·.level == n) with
    | some x => if x.rising then 1 else 2
    | none => now
  if s.termType d t ≠ 2 ∨ 2 ≤ c ∨ s.termSlope d t = 3 then []
  else windowFires (s.termSlope d t) t la lb (was la (s.levelState d c la) == 1) (was lb (s.levelState d c lb) == 2) mine

/-- A PATTERN term looks at a sample (R154, R159, R482). -/
def patternSees (s : State) (d t : Nat) (dt : Instant) : State × List TermFire :=
  if s.termType d t ≠ 7 then (s, [])
  else
    let now := s.patternHolds d t
    let was := s.isSet I.patTrue [d, t]
    if !s.isSet I.patKnown [d, t] then
      (((s.wr I.patKnown [d, t] 1).wrBool I.patTrue [d, t] now).wr I.patStart [d, t] dt, [])
    else if now = was then (s, [])
    else
      let slope := s.termSlope d t
      let any := s.rd F.TRG_TERM_CFG.COND [d, t] == 0
      let ok := slope != 3 && !s.patEmpty d t && !(s.crossDie d t && s.vectorsWithheld)
        && (if any then slopeTakes slope now else !now && s.condMet d t (instSub dt (s.rd I.patStart [d, t])))
      let s := s.wrBool I.patTrue [d, t] now
      (s.on now fun s => s.wr I.patStart [d, t] dt, if ok then [⟨t, dt, false⟩] else [])

/-- A term begins anew with the block that begins at a tick (R154, R482). -/
def restartTerm (s : State) (d t tick : Nat) : State :=
  let s := (((s.wr I.termAOn [d, t] 0).wr I.termBOn [d, t] 0).wr I.patKnown [d, t] 0).wr I.termFrom [d, t] (4096 * tick)
  (s.wr I.toutOn [d, t] 1).wr I.toutOrg [d, t] (4096 * tick)

/-- One term of die d meets the crossings of one sample, in DT order (R154); samples before its restart are not its own (R482). -/
def termMeets (s : State) (d t : Nat) (dt : Instant) (xs : List Crossing) : State × List TermFire :=
  if !instGe dt (s.rd I.termFrom [d, t]) then (s, [])
  else
    let a := xs.foldl (fun (b : State × List TermFire) x => let q := b.1.termSees d t x; (q.1, b.2 ++ q.2)) (s, [])
    let p := a.1.patternSees d t dt
    (p.1, a.2 ++ a.1.windowSees d t xs ++ p.2)

/-- Every term of the die meets the crossings of one sample in turn (R154). -/
def termsMeet (s : State) (d : Nat) (dt : Instant) (xs : List Crossing) : State × List TermFire :=
  (List.range 12).foldl (fun (acc : State × List TermFire) t => let q := acc.1.termMeets d t dt xs; (q.1, acc.2 ++ q.2)) (s, [])

/-- The terms of die d meet the crossings of one sample; the fires come in term order (R154, R158). -/
def termsSee (s : State) (d : Nat) (dt : Instant) (xs : List Crossing) : State × List TermFire :=
  let r := s.termsMeet d dt (xs.mergeSort fun a b => instGe b.dt a.dt)
  (r.2.foldl (fun s f => s.fireTerm d f) r.1, r.2)

/-- A TIMEOUT term's deadline, where it counts (R154, R155, R158); no term of a channel fires on its calibration blocks (R85). -/
def timeoutDeadline (s : State) (d t : Nat) : Option Instant :=
  if s.mode.acquires && s.termType d t == 6 && s.termSlope d t != 3 && s.isSet F.TRG_TERM_T1.T1 [d, t] && s.isSet I.toutOn [d, t]
      && s.sourceLive d (s.termSrc d t) && !(decide (s.termSrc d t < 2) && s.calNow d (s.termSrc d t)) then
    some ((s.rd I.toutOrg [d, t] + s.rd F.TRG_TERM_T1.T1 [d, t]) % 2 ^ 76)
  else none

/-- A TIMEOUT term whose deadline has come fires at the deadline's sample, or at the first sample of the block handled where the deadline
lies in an earlier one (R154, R168). -/
def timeoutFires (s : State) (d t : Nat) : State × List (Instant × TermFire) :=
  match s.timeoutDeadline d t with
  | none => (s, [])
  | some x =>
    if !s.dueOn d (x / 4096) then (s, [])
    else
      let sample := if s.landsOn d (x / 4096) then s.sampleFloor d x else (s.blkSpan d).1
      let f : TermFire := ⟨t, x, false⟩
      ((s.wr I.toutOn [d, t] 0).fireTerm d f, [(sample, f)])

-- Sequencers (R163 to R173) ---------------------------------------------------------------------------------

/-- The present table state. -/
def seqState (s : State) (d q : Nat) : Nat := s.rd F.TRG_SEQ_STATUS.STATE [d, q]

/-- The terms named in a mask of any state 0 to LAST (R164, R175), as a bit set. -/
def seqUsed (s : State) (d q : Nat) : Nat :=
  (List.range (s.rd F.TRG_SEQ_CTRL.LAST [d, q] + 1)).foldl (fun m i =>
    Nat.lor m (Nat.lor (s.rd F.SEQ_STATE.ADV_MASK [d, q, i]) (s.rd F.SEQ_STATE.RST_MASK [d, q, i]))) 0

/-- The sequencer enters a state with an entry DT (R163). -/
def seqEnter (s : State) (d q st : Nat) (dt : Instant) : State :=
  (((s.wr F.TRG_SEQ_STATUS.STATE [d, q] st).wr I.seqEntry [d, q] dt).wr I.seqEntryBlk [d, q] (s.blkNo d)).wr I.seqCount [d, q] 0

/-- The sequencer enters RUN with an auto origin (R169). -/
def seqRun (s : State) (d q origin : Nat) : State := (s.wr F.TRG_SEQ_STATUS.PHASE [d, q] 1).wr I.autoOrigin [d, q] origin

/-- Run flags cleared (R169, R173). -/
def seqClearRun (s : State) (d q : Nat) : State :=
  (((s.wr I.runLate [d, q] 0).wr I.runCoin [d, q] 0).wr I.runTaken [d, q] 0).wr I.runOther [d, q] 0

/-- Write TRG_LAST (R173). -/
def writeLast (s : State) (d q : Nat) (x : TrigDesc) : State :=
  let s := ((s.wr F.TRG_LAST.TICKS [d, q] (x.dt / 4096)).wr F.TRG_LAST.FRAC [d, q] x.dt).wr F.TRG_LAST.TERM [d, q] x.term
  let s := (s.wr F.TRG_LAST.COIN_TAKEN [d, q] x.coinTaken).wr F.TRG_LAST.COIN_OTHER [d, q] x.coinOther
  let s := (s.wrBool F.TRG_LAST.FORCED [d, q] x.forced).wrBool F.TRG_LAST.COINCIDENT [d, q] x.coincident
  ((s.wrBool F.TRG_LAST.LATE_ARRIVAL [d, q] x.late).wrBool F.TRG_LAST.SLOW [d, q] x.slow).wr F.TRG_LAST.HOLDOFF_DISCARDS [d, q] x.discards

/-- A trigger is issued in block `n` (R169 to R173): descriptor, counts, event, dead time and hold-off; the sets take it. -/
def issueTrigger (s : State) (d q n : Nat) (dt : Instant) (term : Nat) (slow forced late : Bool) : State :=
  let x : TrigDesc := ⟨dt, term, s.rd I.runTaken [d, q], s.rd I.runOther [d, q], forced, s.isSet I.runCoin [d, q],
    late || s.isSet I.runLate [d, q], slow, s.rd I.discards [d, q]⟩
  let sets := s.seqSets d q
  let s := ((s.writeLast d q x).count F.TRG_TRIG_COUNT.COUNT [d, q] 1).inc I.trigTotal [d, q]
  let s := s.on (s.isSet F.TRG_SEQ_CTRL.TRIG_EVT_EN [d, q]) fun s =>
    s.raise d 88 (q + 2 * b2n forced + 4 * b2n x.coincident + 8 * b2n x.late + 2 ^ 8 * term)
  let s := ((s.seqClearRun d q).wr I.discards [d, q] 0).wr F.TRG_SEQ_STATUS.PHASE [d, q] 2
  let s := (s.seqEnter d q 0 (s.blkStart d (n + 17))).wr I.deadBlk [d, q] (n + 17)
  let v := s.rd F.TRG_HOLDOFF.VALUE [d, q]
  let events := s.isSet F.TRG_SEQ_CTRL.HOLDOFF_MODE [d, q]
  let s := ((s.wrBool I.holdTimed [d, q] (!events && v != 0)).wr I.holdEnd [d, q] (dt / 4096 + v)).wr I.holdLeft [d, q] (if events then v else 0)
  sets.foldl (fun s a => s.setTrigger d a x) s

/-- A force is dropped (R169); `cue` tells a Calendar cue from the register. -/
def dropForce (s : State) (d q : Nat) (cue : Bool) : State :=
  (s.count F.TRG_FORCE_DROP_COUNT.COUNT [d, q] 1).stick F.TRG_SEQ_STATUS.FORCE_DROP_STICKY [d, q] d 90 (q + 2 * b2n cue)

/-- The dead time ends as its 17 blocks are over (R169, R170). -/
def endDead (s : State) (d q : Nat) : State :=
  let n := s.rd I.deadBlk [d, q]
  if s.seqPhase d q ≠ 2 ∨ s.blkNo d < n then s
  else
    let e := s.blkStart d n
    let s := (s.seqEnter d q 0 e).wr I.seqFrom [d, q] e
    if (s.isSet I.holdTimed [d, q] ∧ dtGe (s.rd I.holdEnd [d, q]) (e / 4096)) ∨ s.isSet I.holdLeft [d, q] then s.wr F.TRG_SEQ_STATUS.PHASE [d, q] 3
    else s.seqRun d q (e / 4096)

/-- The block in whose core cycle the hold-off deadline lands, while it runs (R171). -/
def holdLands (s : State) (d q : Nat) : Option Nat :=
  if s.seqPhase d q = 3 ∧ s.isSet I.holdTimed [d, q] then some (s.blkAt d (4096 * s.rd I.holdEnd [d, q])) else none

/-- The hold-off expires with its deadline, which landed in block n: RUN, the state kept (R169, R171). -/
def endHoldoff (s : State) (d q n : Nat) : State := (s.seqRun d q (s.blkStart d (n + 1) / 4096)).wr I.holdTimed [d, q] 0

/-- The WITHIN deadline of the present state, if it has one (R167). -/
def withinDeadline (s : State) (d q : Nat) : Option Instant :=
  let st := s.seqState d q
  if (s.seqPhase d q = 1 ∨ s.seqPhase d q = 3) ∧ s.rd F.SEQ_STATE.QUAL [d, q, st] = 2 then
    some ((s.rd I.seqEntry [d, q] + 4096 * s.rd F.SEQ_STATE.QUAL_VALUE [d, q, st]) % 2 ^ 76)
  else none

/-- The block in whose core cycle the WITHIN deadline lands: that of its tick, or the next one the engine handles where the state was
entered after it (R167, R168). -/
def withinLands (s : State) (d q : Nat) : Option Nat :=
  (s.withinDeadline d q).map fun w =>
    let e := s.rd I.seqEntryBlk [d, q]
    if e ≤ s.blkAt d w then s.blkAt d w else e + 1

/-- The WITHIN deadline acts: RST_TO, with the DT of the deadline's sample as the entry DT (R163, R167). -/
def withinActs (s : State) (d q : Nat) : State :=
  match s.withinDeadline d q with
  | some w => s.seqEnter d q (s.rd F.SEQ_STATE.RST_TO [d, q, s.seqState d q]) (s.sampleFloor d w)
  | none => s

/-- The auto deadline tick (R172), in RUN with AUTO_EN. -/
def autoDeadline (s : State) (d q : Nat) : Option Nat :=
  if s.seqPhase d q = 1 ∧ s.isSet F.TRG_SEQ_CTRL.AUTO_EN [d, q] then
    some (dtAdd (s.rd I.autoOrigin [d, q]) (s.rd F.TRG_AUTO_TIMEOUT.TICKS [d, q]))
  else none

/-- The auto deadline acts: a forced trigger at its tick (R169). -/
def autoActs (s : State) (d q deadline : Nat) : State :=
  s.issueTrigger d q (s.blkAt d (4096 * deadline)) (4096 * deadline) 0x1F false true false

/-- What landed in blocks before the one handled acts before its fires: WITHIN, hold-off, auto, and the dead time. -/
def seqCatchUp (s : State) (d q : Nat) : State :=
  let n := s.blkNo d
  let s := s.endDead d q
  let s := match s.withinLands d q with
    | some b => s.on (b < n) fun s => s.withinActs d q
    | none => s
  let s := match s.holdLands d q with
    | some b => s.on (b < n) fun s => s.endHoldoff d q b
    | none => s
  let s := match s.autoDeadline d q with
    | some t => s.on (s.blkAt d (4096 * t) < n) fun s => s.autoActs d q t
    | none => s
  s.endDead d q

/-- Walk the fires of one sample against the present state: the one that causes a transition, if any, and the count (R164). -/
def seqPick (adv rst qual value : Nat) (entry : Instant) : List TermFire → Nat → Bool → Option TermFire × Nat
  | [], n, _ => (none, n)
  | f :: fs, n, counted =>
    if bitAt rst f.term then (some f, n)
    else if !bitAt adv f.term then seqPick adv rst qual value entry fs n counted
    else if qual = 1 ∧ !instGe f.dt (entry + 4096 * value) then seqPick adv rst qual value entry fs n counted
    else if qual = 3 then
      if counted then seqPick adv rst qual value entry fs n counted
      else if n + 1 < value % 2 ^ 32 then seqPick adv rst qual value entry fs (n + 1) true
      else (some f, n + 1)
    else (some f, n)

/-- The transition of a sample is coincident: another fire was taken and not consumed (R165). -/
def seqCoincide (s : State) (d q taken other : Nat) : State :=
  let s := s.count F.TRG_COINC_COUNT.COUNT [d, q] 1
  let s := s.on (!s.isSet I.runCoin [d, q]) fun s =>
    ((s.wr I.runCoin [d, q] 1).wr I.runTaken [d, q] (12 * d + taken)).wr I.runOther [d, q] (12 * d + other)
  s.stick F.TRG_SEQ_STATUS.COINC_STICKY [d, q] d 89 (q + 2 ^ 8 * (12 * d + taken) + 2 ^ 16 * (12 * d + other))

/-- The entry action MARK: a mark in every armed channel assigned to the sequencer (R166). -/
def seqMark (s : State) (d q st : Nat) (dt : Instant) : State :=
  (s.seqSets d q).foldl (fun s a => s.mark d a 2 dt 0 0 (s.rd F.SEQ_STATE.TAG [d, q, st])) s

/-- The entry action CUE (R166). -/
def seqCue (s : State) (d q st : Nat) (dt : Instant) : State :=
  let n := s.rd F.SEQ_STATE.CUE_IDX [d, q, st]
  if s.rd F.CUE.STATE [d, n] = 1 then s.raise d 93 (q + 2 ^ 8 * n + 2 ^ 16 * st)
  else
    let t := dt + 4096 * s.rd F.SEQ_STATE.CUE_DELAY [d, q, st]
    ((s.wr F.CUE.DT_TICKS [d, n] (t / 4096)).wr F.CUE.DT_FRAC [d, n] t).armCue d n

/-- A candidate is discarded in HOLDOFF (R169, R171). -/
def seqDiscard (s : State) (d q : Nat) (t : Instant) : State :=
  let s := (s.count F.TRG_DISCARD_COUNT.COUNT [d, q] 1).incSat I.discards [d, q]
  let s := (s.seqEnter d q 0 (t + s.samplePeriod)).wr I.seqFrom [d, q] (t + s.samplePeriod)
  let left := s.rd I.holdLeft [d, q]
  let s := s.wr I.holdLeft [d, q] (left - 1)
  s.on (left == 1) fun s => (s.wr I.holdTimed [d, q] 1).wr I.holdEnd [d, q] (t / 4096)

/-- A fire advances the sequencer (R164 to R169, R41). `t` is the sample at which it is recognised. -/
def seqAdvance (s : State) (d q : Nat) (t : Instant) (f : TermFire) : State :=
  let n := s.blkNo d
  let s := s.on (s.withinLands d q == some n) fun s => s.wr I.runLate [d, q] 1
  let st := s.rd F.SEQ_STATE.NEXT [d, q, s.seqState d q]
  match s.rd F.SEQ_STATE.ENTRY [d, q, st] with
  | 1 =>
    let atAuto := (s.autoDeadline d q).map (fun a => s.blkAt d (4096 * a)) == some n
    let atHold := s.holdLands d q == some n
    if s.seqPhase d q = 1 ∨ atHold then s.issueTrigger d q n f.dt (12 * d + f.term) f.slow false (atAuto || atHold)
    else s.seqDiscard d q t
  | 2 => (s.seqEnter d q st f.dt).seqMark d q st f.dt
  | 3 => (s.seqEnter d q st f.dt).seqCue d q st f.dt
  | _ => s.seqEnter d q st f.dt

/-- The fires of one sample reach a sequencer (R164, R165). -/
def seqTakes (s : State) (d q : Nat) (t : Instant) (fires : List TermFire) : State :=
  let fs := (fires.filter fun f => bitAt (s.seqUsed d q) f.term).mergeSort fun a b => instGe b.dt a.dt && (a.dt != b.dt || decide (a.term ≤ b.term))
  if (s.seqPhase d q ≠ 1 ∧ s.seqPhase d q ≠ 3) ∨ !instGe t (s.rd I.seqFrom [d, q]) ∨ fs = [] then s
  else
    let st := s.seqState d q
    let rst := s.rd F.SEQ_STATE.RST_MASK [d, q, st]
    let p := seqPick (s.rd F.SEQ_STATE.ADV_MASK [d, q, st]) rst (s.rd F.SEQ_STATE.QUAL [d, q, st])
      (s.rd F.SEQ_STATE.QUAL_VALUE [d, q, st]) (s.rd I.seqEntry [d, q]) fs (s.rd I.seqCount [d, q]) false
    let s := s.wr I.seqCount [d, q] p.2
    match p.1 with
    | none => s
    | some f =>
      let s := match (fs.erase f).head? with
        | some o => s.seqCoincide d q f.term o.term
        | none => s
      if bitAt rst f.term then s.seqEnter d q (s.rd F.SEQ_STATE.RST_TO [d, q, st]) t else s.seqAdvance d q t f

/-- A force meets the phase in force (R169). -/
def forceNow (s : State) (d q : Nat) (dt : Instant) (cue : Bool) : State :=
  if s.seqPhase d q = 1 ∨ s.seqPhase d q = 3 then s.issueTrigger d q (s.blkNo d) dt 0x1F false true false else s.dropForce d q cue

/-- A force at a DT: the engine takes it among the fires of its block, in DT order (R169). -/
def forceTrigger (s : State) (d q : Nat) (dt : Instant) (cue : Bool) : State :=
  if s.closing || !s.mode.acquires then s.forceNow d q dt cue else { s with arrivals := s.arrivals ++ [.force d q dt cue] }

-- A core cycle of the engine (R159, R164, R167 to R169) -----------------------------------------------------------

/-- Something reaches the engines in this cycle. -/
def arrive (s : State) (xs : List Arrival) : State := { s with arrivals := s.arrivals ++ xs }

/-- The samples of the cycle that the engine of a die evaluates: the first one of the block, and those at which something arrives. -/
def engineSamples (s : State) (d : Nat) : List Instant :=
  let ts := s.arrivals.filterMap fun x => match x with
    | .crossing e t _ => if e = d then some t else none
    | .view _ _ t => some t
    | .logic e t _ _ => if e = d then some t else none
    | .force _ _ _ _ => none
  ((s.blkSpan d).1 :: ts).eraseDups.mergeSort fun a b => instGe b a

/-- What the patterns of a die see from a sample on (R153, R159). -/
def takeViews (s : State) (d : Nat) (t : Instant) : State :=
  s.each s.arrivals fun s x => match x with
    | .view g v at_ => s.on (at_ == t) fun s => s.wr I.patView [d, g] v
    | .logic e at_ st un => s.on (e == d && at_ == t) fun s => (s.wr I.patState [d] st).wr I.patUnres [d] un
    | .crossing _ _ _ => s
    | .force _ _ _ _ => s

/-- The crossings that a die recognises at a sample. -/
def crossingsAt (s : State) (d : Nat) (t : Instant) : List Crossing :=
  s.arrivals.filterMap fun x => match x with
    | .crossing e at_ x => if e = d ∧ at_ = t then some x else none
    | .view _ _ _ => none
    | .logic _ _ _ _ => none
    | .force _ _ _ _ => none

/-- The forces of a die, in DT order (R169). -/
def forcesOf (s : State) (d : Nat) : List (Instant × Nat × Bool) :=
  (s.arrivals.filterMap fun x => match x with
    | .force e q t cue => if e = d then some (t, q, cue) else none
    | .crossing _ _ _ => none
    | .view _ _ _ => none
    | .logic _ _ _ _ => none).mergeSort fun a b => instGe b.1 a.1

/-- The terms of a die over the block: every sample's fires, then the TIMEOUT deadlines that wait for the end of the cycle (R154, R167). -/
def engineFires (s : State) (d : Nat) : State × List (Instant × TermFire) :=
  let r := (s.engineSamples d).foldl (fun (a : State × List (Instant × TermFire)) t =>
    let q := (a.1.takeViews d t).termsSee d t (a.1.crossingsAt d t)
    (q.1, a.2 ++ q.2.map fun f => (t, f))) (s, [])
  (List.range 12).foldl (fun (a : State × List (Instant × TermFire)) t =>
    if s.booked.contains (.timeoutTermExpiry d t) then let q := a.1.timeoutFires d t; (q.1, a.2 ++ q.2) else a) r

/-- The forces up to an instant reach their sequencers. -/
def takeForces (s : State) (d : Nat) (fs : List (Instant × Nat × Bool)) : State := s.each fs fun s f => s.forceNow d f.2.1 f.1 f.2.2

/-- The sequencers of a die take the fires of a block by sample, and each force after the samples before its DT (R164, R169). -/
def engineTakes (s : State) (d : Nat) : List Instant → List (Instant × TermFire) → List (Instant × Nat × Bool) → State
  | [], _, forces => s.takeForces d forces
  | t :: ts, fires, forces =>
    let s := s.takeForces d (forces.filter fun f => instGe t f.1)
    let mine := (fires.filter fun f => f.1 == t).map (·.2)
    engineTakes ((s.seqTakes d 0 t mine).seqTakes d 1 t mine) d ts fires (forces.filter fun f => !instGe t f.1)

/-- The trigger engine of a die handles its block (R168). -/
def engineBlock (s : State) (d : Nat) : State :=
  if !s.mode.acquires then s
  else
    let r := s.engineFires d
    let samples := ((r.2.map (·.1)).eraseDups).mergeSort fun a b => instGe b a
    engineTakes ((r.1.seqCatchUp d 0).seqCatchUp d 1) d samples r.2 (s.forcesOf d)

/-- The engines of both dies handle the block of this core cycle. -/
def engineCycle (s : State) : State := { (s.engineBlock 0).engineBlock 1 with arrivals := [] }

/-- With the next block the patterns see each channel by the levels then selected (R153), and the logic states as they stand. -/
def engineTick (s : State) : State :=
  if !s.mode.acquires then s
  else s.each [0, 1] fun s d =>
    let s := s.each [0, 1, 2, 3] fun s g => s.wr I.patView [d, g] (s.threeState (g / 2) (g % 2))
    (s.wr I.patState [d] (s.rd F.LGC_STATE.STATE [d])).wr I.patUnres [d] (s.rd F.LGC_STATE.UNRESOLVED [d])

/-- A sequencer leaves IDLE for RUN with the arm of an assigned channel (R169, R193); TIMEOUT terms it uses count from there (R154). -/
def seqArm (s : State) (d q : Nat) (dt : Instant) : State :=
  if s.seqPhase d q ≠ 0 then s
  else
    let s := (((s.seqEnter d q 0 dt).seqRun d q (dt / 4096)).seqClearRun d q).wr I.trigTotal [d, q] 0
    let s := ((s.wr I.holdTimed [d, q] 0).wr I.holdLeft [d, q] 0).wr I.seqFrom [d, q] dt
    (List.range 12).foldl (fun s t =>
      s.on (bitAt (s.seqUsed d q) t && s.termType d t == 6) fun s =>
        let org := if s.isSet I.toutOn [d, t] && instGe (s.rd I.toutOrg [d, t]) dt then s.rd I.toutOrg [d, t] else dt
        (s.wr I.toutOn [d, t] 1).wr I.toutOrg [d, t] org) s

-- Arm checks (R175, R194) --------------------------------------------------------------------------------------

/-- A used term. -/
def usedTerms (s : State) (d q : Nat) : List Nat := (List.range 12).filter (bitAt (s.seqUsed d q))

/-- First row of R175. -/
def termInvalid (s : State) (d t : Nat) : Bool :=
  let ty := s.termType d t
  let src := s.termSrc d t
  let reserved := !(src < 2 || (0x10 ≤ src && src ≤ 0x1F) || (0x20 ≤ src && src ≤ 0x2B))
  s.termSlope d t == 3 || reserved || ((src == 0x20 || src == 0x21) && s.isSet I.cmpRetired [d, src - 0x20]) || ((ty == 2 || ty == 4 || ty == 5) && 2 ≤ src)
    || (s.paired && ty != 0 && ty != 7 && src == 1)
    || (ty == 7 && (s.patEmpty d t || (List.range 16).any (fun i => s.patLog d t i == 3)
      || (s.paired && (s.patAna d t 1 != 0 || s.patAna d t 3 != 0))))

/-- Second row of R175. -/
def termTimeInvalid (s : State) (d t : Nat) : Bool :=
  let c := s.rd F.TRG_TERM_CFG.COND [d, t]
  5 ≤ c || ((c == 3 || c == 4) && s.rd F.TRG_TERM_T2.T2 [d, t] < s.rd F.TRG_TERM_T1.T1 [d, t])
    || (s.termType d t == 6 && !s.isSet F.TRG_TERM_T1.T1 [d, t])

/-- Third row of R175: R153 for pattern elements, R155 for WINDOW, RUNT and SLEW. -/
def termLevelsInvalid (s : State) (d t : Nat) : Bool :=
  let ty := s.termType d t
  let c := s.termSrc d t
  let pair (d c a b : Nat) : Bool := decide (s.levelOf d c a ≤ s.levelOf d c b)
  ((ty == 2 || ty == 4 || ty == 5) && pair d c (s.rd F.TRG_TERM_CFG.LEVEL_A [d, t]) (s.rd F.TRG_TERM_CFG.LEVEL_B [d, t]))
    || (ty == 7 && (List.range 4).any fun g => s.patAna d t g != 0
      && pair (g / 2) (g % 2) (s.rd F.TRG_CH_CFG.PAT_UPPER [g / 2, g % 2]) (s.rd F.TRG_CH_CFG.PAT_LOWER [g / 2, g % 2]))

/-- Fourth row of R175, for one state. -/
def seqStateInvalid (s : State) (d q i : Nat) : Bool :=
  let last := s.rd F.TRG_SEQ_CTRL.LAST [d, q]
  let adv := s.rd F.SEQ_STATE.ADV_MASK [d, q, i]
  let rst := s.rd F.SEQ_STATE.RST_MASK [d, q, i]
  let entry := s.rd F.SEQ_STATE.ENTRY [d, q, i]
  let qual := s.rd F.SEQ_STATE.QUAL [d, q, i]
  let v := s.rd F.SEQ_STATE.QUAL_VALUE [d, q, i]
  (entry != 1 && last < s.rd F.SEQ_STATE.NEXT [d, q, i]) || last < s.rd F.SEQ_STATE.RST_TO [d, q, i] || Nat.land adv rst != 0
    || (i == 0 && (entry == 1 || entry == 3)) || (entry != 1 && adv == 0) || (qual == 3 && v % 2 ^ 32 == 0)
    || ((qual == 1 || qual == 2) && v == 0)

/-- Fourth row of R175. -/
def seqInvalid (s : State) (d q : Nat) : Bool :=
  let last := s.rd F.TRG_SEQ_CTRL.LAST [d, q]
  last == 0 || (List.range (last + 1)).any (s.seqStateInvalid d q)
    || !(List.range (last + 1)).any fun i => s.rd F.SEQ_STATE.ENTRY [d, q, i] == 1

/-- A curve decreases somewhere (R162). The reset contents rise, so a place where it decreases touches a listed entry. -/
def curveDecreases (s : State) (d c e : Nat) : Bool :=
  let v (i : Nat) : Nat := s.rd F.TRG_CURVE.FRAC [d, c, e, i]
  s.regs.any fun x => match x.1.reg, x.1.ix with
    | .TRG_CURVE, [d', c', e', i] =>
      d' == d && c' == c && e' == e && ((0 < i && v i < v (i - 1)) || (i < 1023 && v (i + 1) < v i))
    | _, _ => false

/-- Fifth row of R175. -/
def curveInvalid (s : State) (d q : Nat) : Bool :=
  (s.usedTerms d q).any fun t => s.termType d t != 0 && s.termType d t != 7 && s.termSrc d t < 2
    && (s.curveDecreases d (s.termSrc d t) 0 || s.curveDecreases d (s.termSrc d t) 1)

/-- Sixth row of R175. -/
def holdoffInvalid (s : State) (d q : Nat) : Bool :=
  let a := s.rd F.TRG_AUTO_TIMEOUT.TICKS [d, q]
  let v := s.rd F.TRG_HOLDOFF.VALUE [d, q]
  (s.isSet F.TRG_SEQ_CTRL.AUTO_EN [d, q] && !(1024 ≤ a && a ≤ 2 ^ 40))
    || (if s.isSet F.TRG_SEQ_CTRL.HOLDOFF_MODE [d, q] then decide (2 ^ 32 < v) else decide (2 ^ 40 < v))

/-- The arm check of a sequencer (R175). -/
def seqCheck (s : State) (d q : Nat) : Nat :=
  let used := s.usedTerms d q
  if used.any (s.termInvalid d) then 0x0160
  else if used.any (s.termTimeInvalid d) then 0x0161
  else if used.any (s.termLevelsInvalid d) then 0x0162
  else if s.seqInvalid d q then 0x0163
  else if s.curveInvalid d q then 0x0164
  else if s.holdoffInvalid d q then 0x0165
  else if used.any (s.crossDie d) && s.vectorsWithheld then 0x0216
  else if used.any fun t => s.termType d t != 0 && s.termType d t != 7 && !s.sourceLive d (s.termSrc d t) then 0x0217
  else 0

/-- Bytes of NSEG segments, spill buffer included (R194). -/
def geometryInvalid (s : State) (d a : Nat) : Bool :=
  let len := s.rd F.ACQ_SEG_LEN.LEN [d, a]
  let n := s.rd F.ACQ_NSEG.NSEG [d, a]
  let pre := s.rd F.ACQ_PRE.PRE [d, a]
  if s.streaming d a then false
  else if a = 2 then
    len < 1024 || len % 512 != 0 || n == 0 || s.recordSpace d a < n * len * 8 || 2 ^ 40 < pre || 2 ^ 40 < s.rd F.ACQ_POST.POST [d, a]
  else
    len < 1024 || len % 256 != 0 || n == 0 || 4194304 < n || len < pre
      || 8 * s.recordSpace d a < n * len * formatBits (s.format d a)
        + (if s.isSet F.ACQ_CTRL.SPILL [d, a] then 8 * s.rd F.ACQ_SPILL_BUF.MIB [d, a] * 2 ^ 20 else 0)

/-- Rings of a set are not of the kinds they serve (R194). -/
def ringsInvalid (s : State) (d a : Nat) : Bool :=
  queueKind (s.rd F.STR_AUX_RINGS.MARK_Q [d, a]) != 3 || queueKind (s.rd F.STR_AUX_RINGS.GAP_Q [d, a]) != 4
    || ((s.streaming d a || s.isSet F.ACQ_CTRL.SPILL [d, a]) && queueKind (s.rd F.STR_DATA_RING.QUEUE [d, a]) != 0)

/-- The channel, or the logic set, is offered (R79, R37, R400). -/
def setAvailable (s : State) (d a : Nat) : Bool :=
  if a = 2 then !s.isSet F.BOB_RETIRED.LOGIC [d]
  else s.isSet F.CNV_STATUS.AVAILABLE [d, a] && !(s.paired && (a == 1 || !s.isSet F.CNV_STATUS.AVAILABLE [d, 1]))

/-- Stored samples of 256,000 ticks (R422). -/
def skeinSpan (s : State) (d a : Nat) : Nat := let p := s.gridPeriod d a; ceilDiv (256000 * 4096 * p.2) (max 1 p.1)

/-- The checks of R194 but for the admission, with those of R145, R175 and R422 in their places. -/
def armCheck (s : State) (d a : Nat) : Nat :=
  let cond := if a = 2 then 0 else s.condCheck d a
  let q := s.seqOf d a
  let seq := if s.skeinSelected d a || s.seqArmed d q then 0 else s.seqCheck d q
  let spill := s.isSet F.ACQ_CTRL.SPILL [d, a]
  let mib := s.rd F.ACQ_SPILL_BUF.MIB [d, a]
  if !s.mode.acquires then 0x021A
  else if !s.setAvailable d a then 0x0213
  else if s.armed d a then 0x0219
  else if a < 2 && s.isSet F.CRD_COMB_STATUS.STATE [d, a] then 0x0214
  else if s.rd F.SYN_STATUS.LOCK [d] == 0 || s.rd F.SYN_STATUS.LOCK [d] == 3 then 0x0218
  else if a < 2 && s.isSet F.CNV_STATUS.SETTLING [d, a] then 0x021B
  else if cond ≠ 0 then cond
  else if seq ≠ 0 then seq
  else if s.geometryInvalid d a then 0x0171
  else if a < 2 && !s.streaming d a && !spill && s.rd F.ACQ_SEG_LEN.LEN [d, a] < s.rd F.ACQ_PRE.PRE [d, a] + s.rd F.ACQ_POST.POST [d, a] then 0x0170
  else if spill && (s.streaming d a || a == 2 || mib < 64 || 8192 < mib) then 0x0173
  else if s.ringsInvalid d a then 0x0172
  else if s.skeinSelected d a && !s.isSet F.SKN_STATUS.ALIGNED [] then 0x0230
  else if s.skeinSelected d a && a < 2 && !s.streaming d a
      && s.rd F.ACQ_SEG_LEN.LEN [d, a] < s.rd F.ACQ_PRE.PRE [d, a] + s.skeinSpan d a then 0x0174
  else 0

/-- A set with its buffers as an arm leaves them: what waits for the rings and for the record writer stays, and so does SKIPPED (R197, R199). -/
def armedAcq (s : State) (d a first : Nat) : Acq :=
  let x := s.acqOf d a
  { Acq.idle with
    first, next := first, gapWait := x.gapWait, markWait := x.markWait, recQueue := x.recQueue, headSince := x.headSince,
    skipped := x.skipped, buf := { Acq.idle.buf with firstFlag := true },
    lc := ⟨first, s.rd F.LGC_STATE.STATE [d], s.rd F.LGC_STATE.UNRESOLVED [d], 0, [], none⟩ }

/-- A stop of a set at an instant (R196). -/
def stopAt (s : State) (d a : Nat) (dt : Instant) : State :=
  let x := s.acqOf d a
  if s.armed d a ∧ x.stopAt = none then s.setAcq d a { x with stopAt := some dt } else s

/-- The arm takes effect from an instant (R193, R197, R198, R212); `cause` is that of ACQ_STATE. A stop recognised in the same core cycle
acts after it. -/
def armEffect (s : State) (d a : Nat) (dt : Instant) (cause : Nat) : State :=
  let first := s.gridAtOrAfter d a dt
  let s := s.setAcq d a (s.armedAcq d a first)
  let s := { s with library := s.library.filter fun e => !(e.die == d && e.set == a) }
  let s := (s.on (!s.streaming d a) fun s => s.wr I.libArmed [d, a] 1).wr I.libStepped [d, a] 0
  let s := (((s.wr F.ACQ_SEG_COUNT.COUNT [d, a] 0).wr F.STR_INDEX.INDEX [d, a] 0).wr F.STR_MARK_SEQ.SEQ [d, a] 0).wr F.STR_GAP_SEQ.SEQ [d, a] 0
  let s := s.syncFill d a
  let s := s.on (s.isSet F.STR_STATUS.BACKPRESSURE [d, a]) fun s => s.setBackpressure d a 0
  let s := if s.streaming d a then (s.wr F.ACQ_STATUS.STATE [d, a] 4).on (a == 2) fun s => s.lcOpenChunk d else s.openSeg d a 0 0 first
  let s := s.raiseAcqState d a cause
  let s := s.on (!s.skeinSelected d a) fun s => s.seqArm d (s.seqOf d a) dt
  s.on (s.rd I.stopAsked [d, a] == s.now + 1) fun s => s.stopAt d a (s.rd I.stopAt [d, a])

/-- A set ends and its sequencer may fall idle (R169, R196). -/
def endArm (s : State) (d a cause : Nat) : State := s.endSet d a cause

/-- Every sample before the stop instant has committed (R196). -/
def stopReached (s : State) (d a : Nat) : Bool :=
  match (s.acqOf d a).stopAt with
  | none => false
  | some t => s.gridAtOrAfter d a t ≤ (s.acqOf d a).next

/-- The pipelines of a die start in QUAD or PAIRED at a tick (R122, R151, R482). -/
def startPipelines (s : State) (d tick : Nat) : State :=
  let s := [0, 1].foldl (fun s c =>
    let s := [0, 1, 2, 3].foldl (fun s n => s.wr F.TRG_LEVEL_STAT.STATE [d, c, n] 0) s
    s.restartCond d c) s
  (List.range 12).foldl (fun s t => (s.restartTerm d t tick).wr F.TRG_TERM_COUNT.COUNT [d, t] 0) s

/-- The pipelines of a die stop (R122, R139). -/
def stopPipelines (s : State) (d : Nat) : State :=
  [0, 1].foldl (fun s c => (s.firStops d c).wr F.RSM_STATUS.ACTIVE [d, c] 0) s

/-- XDIE_ACTIVE and XDIE_WITHDRAWN follow the terms and the Splice (R160); cross-die terms restart when the vectors return. -/
def syncXdie (s : State) (d : Nat) : State :=
  let active := (List.range 12).any (s.crossDie d)
  let withheld := active && s.vectorsWithheld
  let was := s.isSet F.TRG_STATUS.XDIE_WITHDRAWN [d]
  let s := (s.wrBool F.TRG_STATUS.XDIE_ACTIVE [d] active).wrBool F.TRG_STATUS.XDIE_WITHDRAWN [d] withheld
  let s := s.on (was && !withheld) fun s =>
    (List.range 12).foldl (fun s t => s.on (s.crossDie d t) fun s => s.restartTerm d t (s.nextBlk d)) s
  s.on (was != withheld) fun s => s.raise d 92 (b2n withheld)

-- Writes (R152, R176, R482) -----------------------------------------------------------------------------------

/-- A write that an armed sequencer keeps out (R176): q 0 or 1. -/
def seqReject (s : State) (d q : Nat) : State := s.stick F.TRG_SEQ_STATUS.CFG_REJECT [d, q] d 91 q

/-- The write of sequencer registers or table entries (R176). -/
def writeSeq (d q : Nat) (fs : List (Fld × List Nat × Nat)) (s : State) : State × Nat :=
  if s.seqArmed d q then (s.seqReject d q, armedCode)
  else (fs.foldl (fun s f => s.wr f.1 f.2.1 f.2.2) s, 0)

/-- The write of a term's registers (R176, R482). -/
def writeTerm (d t : Nat) (fs : List (Fld × Nat)) (s : State) : State × Nat :=
  let users := [0, 1].filter fun q => s.seqArmed d q && bitAt (s.seqUsed d q) t
  if users ≠ [] then (users.foldl (fun s q => s.seqReject d q) s, armedCode)
  else if fs.all fun f => s.rd f.1 [d, t] == trunc f.1.width f.2 then (s, 0)
  else
    let s := fs.foldl (fun s f => s.wr f.1 [d, t] f.2) s
    ((s.restartTerm d t (s.nextBlk d)).syncXdie d, 0)

/-- The write of a curve entry (R176, R178). -/
def writeCurve (d c e i v : Nat) (s : State) : State × Nat :=
  let q := s.seqOf d c
  if s.seqArmed d q then (s.seqReject d q, armedCode) else (s.wr F.TRG_CURVE.FRAC [d, c, e, i] v, 0)

/-- Any sequencer of the package is armed (R176). -/
def anySeqArmed (s : State) : Bool := s.seqArmed 0 0 || s.seqArmed 0 1 || s.seqArmed 1 0 || s.seqArmed 1 1

/-- The write of TRG_CH_CFG or TRG_CTRL (R153, R176). -/
def writeTrgDie (d : Nat) (fs : List (Fld × List Nat × Nat)) (s : State) : State × Nat :=
  if s.anySeqArmed then (s.stick F.TRG_STATUS.CFG_REJECT [d] d 91 2, armedCode)
  else (fs.foldl (fun s f => s.wr f.1 f.2.1 f.2.2) s, 0)

/-- The write of a set's registers (R195); `str` tells STR_STATUS from ACQ_STATUS. -/
def writeSet (d a : Nat) (str : Bool) (fs : List (Fld × Nat)) (s : State) : State × Nat :=
  if s.armed d a then (s.flag (if str then F.STR_STATUS.CFG_REJECT else F.ACQ_STATUS.CFG_REJECT) [d, a], armedCode)
  else (fs.foldl (fun s f => s.wr f.1 [d, a] f.2) s, 0)

end State

end Sys2Proof.Machine
end

