-- ==== Sys2Proof/Machine/AdmitOps.lean ====
section
/-!
DEFINITION. Requests that their block checks and Harvest then admits (R193, R194, R236, R276, R377 to R381).
-/

namespace Sys2Proof.Machine

/-- What became of a request: its status (0 in effect, 0x0002 deferred, else the refusal), and whether derating was raised. -/
structure Verdict where
  status : Nat
  derated : Bool
  deriving DecidableEq, Repr

namespace State

/-- Power of an arm, mW (R377): entry 4 by the stored byte rate against 200 GB/s, and entry 5 by the stream byte rate against 50 GB/s. -/
def armPower (s : State) (d a : Nat) : Nat :=
  let p := s.gridPeriod d a
  let bits := formatBits (s.format d a)
  let flows := s.streaming d a || s.isSet F.ACQ_CTRL.SPILL [d, a]
  if a = 2 then
    ceilDiv (s.cost 4 * Config.logicByteRate d) 200000000000 + (if flows then ceilDiv (s.cost 5 * Config.logicByteRate d) 50000000000 else 0)
  else
    ceilDiv (s.cost 4 * 160 * 4096 * p.2 * bits) (1600 * max 1 p.1)
      + (if flows then ceilDiv (s.cost 5 * 160 * 4096 * p.2 * bits) (400 * max 1 p.1) else 0)

/-- The checks of R194 up to the conditioning checks refused the arm. -/
def beforeTrigger (code : Nat) : Bool :=
  code == 0x021A || code == 0x0213 || code == 0x0219 || code == 0x0214 || code == 0x0218 || code == 0x021B
    || (0x0150 ≤ code && code ≤ 0x0153) || code == 0x0215

/-- The results of the conditioning and trigger checks show in DEC_STATUS and TRG_SEQ_STATUS (R145, R175). -/
def recordSeqCheck (s : State) (d a code : Nat) : State :=
  let q := s.seqOf d a
  let early := code == 0x021A || code == 0x0213 || code == 0x0219 || code == 0x0214 || code == 0x0218 || code == 0x021B
  let s := s.on (!early && a < 2) fun s => s.wr F.DEC_STATUS.ARM_CHECK [d, a] (s.condCheck d a)
  s.on (!beforeTrigger code && !s.skeinSelected d a && !s.seqArmed d q) fun s => s.wr F.TRG_SEQ_STATUS.ARM_CHECK [d, q] (s.seqCheck d q)

/-- A Calendar arm that does not fit under DEFER is refused (R69). -/
def harvestArm (s : State) (d a : Nat) (cue : Bool) (cmd : Option (MbxHdr × Nat)) : State × Decision :=
  let dp := fun s : State => (s.armPower d a : Int)
  if cue ∧ s.rd F.HVS_ALLOW.POLICY [] = 2 ∧ !s.isSet F.PWR_STATUS.THERMAL [d] ∧ !s.fits [d] (dp s) 0 then
    (s.harvestRefuse d (.arm d a) false false, .refused 0x0301)
  else s.harvest d [d] dp 0 (.arm d a) false cmd

/-- An arm: its checks, its admission, its effect from an instant (R193, R194). -/
def requestArm (s : State) (d a : Nat) (dt : Instant) (cue : Bool) (cmd : Option (MbxHdr × Nat)) : State × Verdict :=
  let k := s.armCheck d a
  let s := s.recordSeqCheck d a k
  if k ≠ 0 then (s.wr F.ACQ_STATUS.ARM_CHECK [d, a] k, ⟨k, false⟩)
  else
    let r := s.harvestArm d a cue cmd
    match r.2 with
    | .granted => ((r.1.wr F.ACQ_STATUS.ARM_CHECK [d, a] 0).armEffect d a dt 0, ⟨0, false⟩)
    | .derated => ((r.1.wr F.ACQ_STATUS.ARM_CHECK [d, a] 0).armEffect d a dt 0, ⟨0, true⟩)
    | .deferred => (r.1.wr F.ACQ_STATUS.ARM_CHECK [d, a] 2, ⟨2, false⟩)
    | .refused c => (r.1.wr F.ACQ_STATUS.ARM_CHECK [d, a] c, ⟨c, false⟩)

/-- A stop of a set from outside: its stop instant, and a deferred arm withdrawn (R196, R381). An IDLE set notes it, for an arm of the same
core cycle (R193). -/
def requestStop (s : State) (d a : Nat) (dt : Instant) : State :=
  let s := if s.armed d a then s.stopAt d a dt else (s.wr I.stopAsked [d, a] (s.now + 1)).wr I.stopAt [d, a] dt
  s.withdrawWith 0x0203 fun x => x.req == .arm d a

/-- An accumulation start (R236). -/
def requestAcc (s : State) (d c : Nat) (cmd : Option (MbxHdr × Nat)) : State × Verdict :=
  let k := s.accCheck d c
  let note (s : State) (k : Nat) : State := s.wr F.ACC_STATUS.START_CHECK [d, c] k
  if k ≠ 0 then (note s k, ⟨k, false⟩)
  else
    let r := s.harvest d [d] (fun s => (s.accCost (s.rd F.HVS_STATUS.LEVEL []) : Int)) 0 (.accStart d c) false cmd
    match r.2 with
    | .granted => (r.1.accStart d c, ⟨0, false⟩)
    | .derated => (r.1.accStart d c, ⟨0, true⟩)
    | .deferred => (note r.1 2, ⟨2, false⟩)
    | .refused x => (note r.1 x, ⟨x, false⟩)

/-- STOP of an engine: a deferred start is withdrawn (R237, R381). -/
def requestAccStop (s : State) (d c : Nat) : State := (s.accStop d c).withdrawWith 0x0203 fun x => x.req == .accStart d c

/-- The enable of a time-interval unit (R276); an enabled unit stays as it is. -/
def requestTim (s : State) (d u : Nat) (cmd : Option (MbxHdr × Nat)) : State × Verdict :=
  if s.isSet F.TIM_CTRL.EN [d, u] then (s, ⟨0, false⟩)
  else
    let k := s.timCheck d u
    let note (s : State) (k : Nat) : State := s.wr F.TIM_STATUS.EN_CHECK [d, u] k
    if k ≠ 0 then (note s k, ⟨k, false⟩)
    else
      let r := s.harvest d [d] (fun s => (s.cost 9 : Int)) 0 (.timEnable d u) false cmd
      match r.2 with
      | .granted => (r.1.timStart d u (r.1.nextBlk d), ⟨0, false⟩)
      | .derated => (r.1.timStart d u (r.1.nextBlk d), ⟨0, true⟩)
      | .deferred => (note r.1 2, ⟨2, false⟩)
      | .refused x => (note r.1 x, ⟨x, false⟩)

/-- The disable of a unit: a deferred enable is withdrawn (R276, R381). -/
def requestTimStop (s : State) (d u : Nat) : State := (s.timStop d u (s.nextBlk d)).withdrawWith 0x0203 fun x => x.req == .timEnable d u

/-- A verdict as a mailbox reply of a command that is not long (R352, R379). -/
def verdictReply (v : Verdict) (unit : Nat) : Reply :=
  if v.status = 2 then .deferred unit else ⟨v.status, [], v.derated, unit, none⟩

/-- A verdict as a mailbox reply of a long command. -/
def verdictLong (v : Verdict) (unit : Nat) : Reply :=
  if v.status = 0 then .accepted unit v.derated else if v.status = 2 then .deferred unit else .code v.status

end State

end Sys2Proof.Machine
end

