-- ==== Sys2Proof/Machine/ChunkOps.lean ====
section
/-!
DEFINITION. Chunks as bytes, data descriptors and completions, delivery (R207 to R212, R319, R320), and uncorrectable codewords (R188).
-/

namespace Sys2Proof.Machine

/-- A P10 group of at most 64 codes as 80 bytes (R86, R207). -/
def p10Group (codes : List Nat) : List Byte := le 80 ((codes.zipIdx.map fun p => p.1 % 1024 * 2 ^ (10 * p.2)).sum)

/-- P10 samples as whole groups of 64. -/
def p10Bytes : Nat → List Nat → List Byte
  | 0, _ => []
  | n + 1, l => if l = [] then [] else p10Group (l.take 64) ++ p10Bytes n (l.drop 64)

/-- Stored samples of a format as bytes. -/
def payloadBytes (format : Nat) (l : List Nat) : List Byte :=
  if format = 0 then p10Bytes l.length l else l.flatMap (le (State.formatBits format / 8))

/-- A chunk as bytes (R208), with its stored samples; `marks` are the positions and sequence numbers of the marks it holds. -/
def chunkBytes (source format seq : Nat) (c : Chunk) (samples : List Nat) (marks : List (Nat × Nat)) : List Byte :=
  let payload := c.head ++ payloadBytes format samples
  le 4 0x4D565354 ++ le 1 source ++ le 1 format ++ le 2 (c.flags + 32 * b2n (!marks.isEmpty)) ++ le 8 seq ++ le 8 c.firstIndex
    ++ le 8 (c.firstDt / 4096) ++ le 2 (c.firstDt % 4096) ++ le 2 (min 65535 marks.length) ++ le 4 payload.length
    ++ le 8 samples.length ++ le 4 ((marks.map (·.2)).headD (2 ^ 32 - 1)) ++ le 4 c.gapSeq ++ le 8 c.spillSeq ++ payload

namespace State

/-- Completion ring of a data ring (R320). -/
def cqOf (s : State) (d q : Nat) : Nat := s.rd F.QUE_CFG.CQ [d, q]

/-- A descriptor of data ring q waits, and its completion can be written (R320). -/
def canFill (s : State) (d q : Nat) : Bool :=
  queueKind q == 0 && s.queEnabled d q && !s.ringEmpty d q && s.ringRoom d (s.cqOf d q)

/-- The completion of the descriptor at HEAD, which the ring then leaves behind (R318, R320). -/
def complete (s : State) (d q bytes tag status : Nat) (last : Bool) : State :=
  let cq := s.cqOf d q
  let rec_ := le 4 bytes ++ le 2 tag ++ le 2 (s.rd F.QUE_PTR.HEAD [d, q]) ++ le 2 (q + 2 ^ 15 * s.rd F.QUE_STATUS.PHASE [d, cq])
    ++ le 2 status ++ le 2 (b2n last) ++ le 2 0
  (s.pushRecord d cq rec_ none true (s.blkOf d)).advanceOwn d q

/-- A descriptor is malformed (R319): `least` is the smallest LENGTH the ring takes. -/
def descMalformed (x : DataDesc) (least : Nat) : Bool :=
  x.addr % 64 != 0 || x.length == 0 || x.reserved != 0 || decide (x.length < least)

/-- A malformed descriptor is completed with 0x0401 and logged (R319). -/
def rejectDesc (s : State) (d q : Nat) (x : DataDesc) : State :=
  let i := s.rd F.QUE_PTR.HEAD [d, q]
  (s.complete d q 0 x.tag 0x0401 false).violation d 0x0401 q i

/-- A mark that a chunk holds still waits for its ring (R211). -/
def chunkBlocked (s : State) (d a : Nat) (c : Chunk) : Bool :=
  (s.acqOf d a).markWait.any fun m => c.firstPos ≤ m.pos && m.pos ≤ c.lastPos && 0 < c.count

/-- Sets whose data ring is q and that hold a closed chunk. -/
def chunkSet (s : State) (d q : Nat) : Option Nat :=
  [0, 1, 2].find? fun a => s.rd F.STR_DATA_RING.QUEUE [d, a] == q && !(s.acqOf d a).buf.closed.isEmpty

/-- Deliver the first closed chunk of a set into the buffer of a descriptor (R207, R320). -/
def deliverChunk (s : State) (d a q : Nat) (x : DataDesc) : State :=
  let y := s.acqOf d a
  match y.buf.closed with
  | [] => s
  | c :: rest =>
    if s.chunkBlocked d a c then s
    else if descMalformed x (2 ^ s.rd F.STR_CTRL.CHUNK_LOG2 [d, a]) then s.rejectDesc d q x
    else
      let fmt := s.format d a
      let marks := y.markPos.filter fun m => c.firstPos ≤ m.1 && m.1 ≤ c.lastPos && 0 < c.count
      let bytes := chunkBytes (sourceBits d a) fmt y.buf.chunkSeq c (s.chunkSamples d a c) marks
      let s := s.setAcq d a { y with markPos := y.markPos.filter fun m => c.lastPos < m.1 }
      let s := s.setBuf d a { y.buf with
        closed := rest, fill := y.buf.fill - formatBits fmt * c.count, chunkSeq := y.buf.chunkSeq + 1 }
      (s.emit (.mem d x.addr bytes)).complete d q bytes.length x.tag 0 (bitAt c.flags 1)

-- Uncorrectable codewords (R188) ---------------------------------------------------------------------------

/-- The ticks of LC words that begin with a record, one for each word: a word belongs to the record it is part of (R89). -/
def lcTicks : Nat → List Nat → List Nat
  | _, [] => []
  | t, w :: rest =>
    if w % 2 ^ 48 ≠ 0 then dtAdd t (w % 2 ^ 48) :: lcTicks (dtAdd t (w % 2 ^ 48)) rest
    else match w / 2 ^ 60, rest with
      | 1, a :: b :: rest => a :: a :: (fun _ => a) b :: lcTicks a rest
      | 2, m :: rest => t :: (fun _ => t) m :: lcTicks t rest
      | 3, rest => dtAdd t (2 ^ 47) :: lcTicks (dtAdd t (2 ^ 47)) rest
      | _, rest => t :: lcTicks t rest

/-- Numbers of the stored samples, counted from a byte offset, that the 64 bytes at an offset hold in whole or in part. -/
def samplesAt (bits base off : Nat) : List Nat :=
  if off + 64 ≤ base then []
  else
    let lo := (off - base) * 8 / bits
    let hi := ((off + 64 - base) * 8 - 1) / bits
    (List.range (hi + 1 - lo)).map (lo + ·)

/-- The positions that a codeword holds of a segment in a slot: `first` stands at slot offset `startOfs`, and `n` are held. -/
def slotPositions (bits slot len startOfs first n off : Nat) : List Nat :=
  let base := slot * len * bits / 8
  if off < base ∨ base + len * bits / 8 ≤ off then []
  else (samplesAt bits base off).filterMap fun j =>
    let k := (j + len - startOfs % max 1 len) % max 1 len
    if j < len ∧ k < n then some (first + k) else none

/-- The ticks that a codeword's words span, where any of them is held: first and length. -/
def tickSpan (ts : List Nat) : List (Nat × Nat) :=
  match ts with
  | [] => []
  | t :: _ => [(t, ts.getLastD t + 8 - t)]

/-- What a codeword holds of one segment: runs of positions, with the segment's SEQ. -/
def segSpans (s : State) (d a : Nat) (r : SegRec) (off : Nat) : List (Nat × Nat × Nat) :=
  let bits := formatBits r.format
  let runs :=
    if a = 2 then
      let read (k : Nat) : Nat := s.readSample d a (r.slot * r.len * 8) ((r.startOfs + k) % max 1 r.len) 64
      tickSpan ((slotPositions 64 r.slot r.len r.startOfs 0 r.words off).map fun k => (lcTicks 0 ((List.range r.words).map read)).getD k 0)
    else runsOf (slotPositions bits r.slot r.len r.startOfs r.first (r.preCount + r.postMem) off)
  runs.map fun p => (p.1, p.2, r.seq)

/-- What a codeword holds of the open segment. -/
def openSpans (s : State) (d a off : Nat) : List (Nat × Nat × Nat) :=
  let x := s.acqOf d a
  let len := s.rd F.ACQ_SEG_LEN.LEN [d, a]
  if !x.seg.isOpen then []
  else if a = 2 then
    let w := (x.lc.runs.head?.map (·.1)).getD 0
    let n := x.lc.words - w
    let read (k : Nat) : Nat := s.readSample d a (x.seg.slot * len * 8) ((w + k) % max 1 len) 64
    (tickSpan ((slotPositions 64 x.seg.slot len w 0 n off).map fun k => (lcTicks 0 ((List.range n).map read)).getD k 0)).map fun p =>
      (p.1, p.2, x.seg.seq)
  else
    let end_ := match x.seg.trig with | some (t, _) => min (t + x.seg.postMem) x.next | none => x.next
    let lo := max x.seg.from_ (end_ - len)
    (runsOf (slotPositions (formatBits (s.format d a)) x.seg.slot len (lo - x.seg.o) lo (end_ - lo) off)).map fun p => (p.1, p.2, x.seg.seq)

/-- What a codeword holds of the chunks that wait in the elastic or spill buffer: runs of positions, with their stream index. -/
def bufSpans (s : State) (d a off : Nat) : List (Nat × Nat × Nat) :=
  let b := (s.acqOf d a).buf
  let slots := max 1 (s.bufSlots d a)
  let places := (samplesAt (formatBits (s.format d a)) (s.bufBase d a) off).filter (· < slots)
  (b.closed ++ b.cur.toList).flatMap fun c =>
    let ks := places.filterMap fun j =>
      let k := (j + slots - c.place % slots) % slots
      if s.bufBase d a < off + 64 ∧ k < c.count then some k else none
    if a = 2 then (tickSpan (ks.map fun k => (lcTicks 0 (s.chunkSamples d a c)).getD k 0)).map fun p => (p.1, p.2, p.1)
    else (runsOf ks).map fun p => (c.firstPos + p.1, p.2, c.firstIndex + p.1)

/-- The stored samples wholly or partly in a codeword, as spans with what REF names of each (R188, R214). -/
def wordSpans (s : State) (d a off : Nat) : List (Nat × Nat × Nat) :=
  s.bufSpans d a off ++ s.openSpans d a off ++ (s.acqOf d a).recQueue.flatMap (fun r => s.segSpans d a r off)
    ++ (s.library.filter fun e => e.die == d && e.set == a).flatMap fun e => s.segSpans d a e.recd off

/-- An uncorrectable codeword is found (R188, R220); read for a delivery it gives READOUT gap records of the samples it holds. -/
def foundBad (s : State) (d : Nat) (deliver : Bool) (w : ReadWord) : State :=
  let s := (s.count F.MEM_UE_COUNT.COUNT [d, w.stack] 1).wr F.MEM_UE_ADDR.OFFSET [d, w.stack] (64 * w.word)
  let s := match (if deliver then s.recordOffset d w.stack (64 * w.word) else none) with
    | some (a, off) => s.each (s.wordSpans d a off) fun s p => s.gapRecord d a 8 p.1 p.2.1 p.2.2 4
    | none => s
  let worst := mostFrequent ((symbolErrors w.errs).map fun e => s.symbolPc d w.stack w.word e.1)
  s.raise d 126 (w.stack + 2 * b2n (!deliver) + 2 ^ 8 * worst)

/-- The codewords among those read that are uncorrectable (R187). -/
def badWords (ws : List ReadWord) : List ReadWord := ws.filter fun w => (decodeWord w.errs).bad

/-- A read for delivery with the codewords whose cells give symbols in error (R187 to R189). -/
def deliverRead (s : State) (d : Nat) (ws : List ReadWord) (f : State → State) : State :=
  (s.each (badWords ws) fun s w => s.foundBad d true w).reading d ws f

/-- The flush deadline of the chunk being filled (R209). -/
def flushDeadline (s : State) (d a : Nat) : Option Nat :=
  let us := s.rd F.STR_CTRL.FLUSH_US [d, a]
  if us = 0 then none else (s.acqOf d a).buf.cur.map fun c => c.opened + us * 160000

/-- The fill allows storing to resume (R212). -/
def mayResume (s : State) (d a : Nat) : Bool :=
  s.armed d a && s.isSet F.STR_STATUS.BACKPRESSURE [d, a]
    && decide (100 * (s.acqOf d a).buf.fill ≤ s.rd F.STR_CTRL.RESUME_PCT [d, a] * (8 * s.bufBytes d a))

/-- Storing resumes at a block boundary (R212). -/
def resumeStoring (s : State) (d a : Nat) : State :=
  let s := s.setBackpressure d a 0
  if a = 2 then s.lcResume d (s.blkOf d) (s.rd F.LGC_STATE.STATE [d]) (s.rd F.LGC_STATE.UNRESOLVED [d]) else s.closeGap d a

/-- The record at the queue head is written, offered to the engine, and a waiting segment opens (R198, R202, R222). -/
def recordDone (s : State) (d a : Nat) : State :=
  match (s.acqOf d a).recQueue with
  | [] => s
  | r :: _ =>
    if !s.elapsed (s.acqOf d a).headSince 25 || s.stackHeld d (a % 2) then s
    else
      let met := (s.acqOf d a).gaps.filter fun g => (g.first : Int) ≤ r.nomLast ∧ r.nomFirst < (g.first : Int) + g.len
      let s := (s.writeRecord d a r).resumeQueue d a
      if a = 2 then s
      else s.accOffer d a ⟨r.slot, r.seq, r.first, met.map fun g => (g.first, g.len)⟩ (recField (s.recordBytes d a r.slot) 14 2)

-- The BAR2 window (R219) --------------------------------------------------------------------------------

/-- Data offset of a window location. -/
def winOffset (s : State) (d off : Nat) : Nat := s.rd F.MEM_WIN.BASE [d] * 2 ^ 20 + off

/-- The location lies beyond the stack's data (R219). -/
def beyondStack (s : State) (d h off : Nat) : Bool := decide (s.depth d h + 512 * 2 ^ 20 ≤ off)

/-- One byte read through the window. -/
def winByte (s : State) (d off : Nat) : Byte :=
  let h := s.rd F.MEM_WIN.STACK [d]
  if s.beyondStack d h (s.winOffset d off) then 255 else s.memSeen (memAddr d h (s.winOffset d off))

/-- The location lies in the overlay pool (R183). -/
def inPool (s : State) (d off : Nat) : Bool :=
  s.rd F.MEM_WIN.STACK [d] == 1 && decide (s.depth d 1 + 288 * 2 ^ 20 ≤ off ∧ off < s.depth d 1 + 416 * 2 ^ 20)

end State

end Sys2Proof.Machine
end

