-- ==== Sys2Proof/Machine/Accumulate.lean ====
section
/-!
DEFINITION. The meanings of the accumulation commands (R221 to R239).
-/

namespace Sys2Proof.Machine

namespace State

/-- Codewords that the engine's read finds uncorrectable (R188, R223): their samples are missing from the acquisition. -/
def accBad (s : State) (d c : Nat) (words : List ReadWord) : State :=
  let e := s.accOf d c
  let spans := (badWords words).flatMap fun w => match s.recordOffset d w.stack (64 * w.word) with
    | some (a, off) => if a = c then s.wordSpans d a off else []
    | none => []
  match e.queue with
  | [] => s
  | x :: rest => s.setAcc d c { e with queue := { x with gaps := x.gaps ++ spans.map fun p => (p.1, p.2.1) } :: rest }

end State

/-- ACC_ENTRY_TAKE (R223 to R225). -/
def execAccEntryTake (d c : Nat) (words : List ReadWord) (s : State) : Host.Outcome State Fault Refusal :=
  .next (s.on (s.accMayTake d c) fun s => (s.accBad d c words).deliverRead d words fun s => s.accTake d c)

/-- ACC_COMMIT_DONE (R225 to R228, R231). -/
def execAccCommitDone (d c : Nat) (s : State) : Host.Outcome State Fault Refusal := .next (s.accFinish d c)

/-- ACC_CMD_START (R236). -/
def execAccCmdStart (d c : Nat) (s : State) : Host.Outcome State Fault Refusal := .next (s.hostWrite d fun s => (s.requestAcc d c none).1)

/-- ACC_CMD_STOP (R237). -/
def execAccCmdStop (d c : Nat) (s : State) : Host.Outcome State Fault Refusal := .next (s.hostWrite d fun s => s.requestAccStop d c)

/-- ACC_CMD_RELEASE (R228). -/
def execAccCmdRelease (d c : Nat) (s : State) : Host.Outcome State Fault Refusal := .next (s.hostWrite d fun s => s.accRelease d c)

/-- ACC_CMD_CLEAR_HIST (R234). -/
def execAccCmdClearHist (d c : Nat) (s : State) : Host.Outcome State Fault Refusal :=
  .next (s.hostWrite d fun s => s.accClear d c)

/-- ACC_DECAY_BOUNDARY (R233). -/
def execAccDecayBoundary (d c : Nat) (s : State) : Host.Outcome State Fault Refusal :=
  .next (s.on (s.decayDue d c) fun s => s.decayBoundary d c)

end Sys2Proof.Machine
end

