-- ==== Sys2Proof/Machine/Acquire.lean ====
section
/-!
DEFINITION. The meanings of the acquisition and memory commands (R180 to R219).
-/

namespace Sys2Proof.Machine

namespace State

/-- ACQ_CMD with both bits set is ignored (R193). -/
def acqCmd (s : State) (d a v : Nat) (f : State → State) : State :=
  s.hostWrite d fun s => if bitAt v 0 && bitAt v 1 then s.flag F.ACQ_STATUS.CMD_REJECT [d, a] else f s

/-- A commit waits for the end of its core cycle: it finds no room, and room that a delivery frees in the cycle counts before it; or an
earlier commit of the set waits (R212). -/
def commitWaits (s : State) (d a : Nat) : Bool :=
  !s.closing && s.armed d a
    && (((s.acqState d a == 4 || s.acqState d a == 3) && !s.isSet F.STR_STATUS.BACKPRESSURE [d, a] && s.bufFull d a 1)
      || s.booked.any fun c => match c with | .storedSampleCommit e b _ => e == d && b == a | _ => false)

end State

/-- ACQ_CMD_ARM: a write of ACQ_CMD (R193, R194). -/
def execAcqCmdArm (d a v : Nat) (s : State) : Host.Outcome State Fault Refusal :=
  .next (s.acqCmd d a v fun s => s.on (bitAt v 0) fun s => (s.requestArm d a (4096 * s.nextBlk d) false none).1)

/-- ACQ_CMD_STOP: a write of ACQ_CMD (R196). -/
def execAcqCmdStop (d a v : Nat) (s : State) : Host.Outcome State Fault Refusal :=
  .next (s.acqCmd d a v fun s => s.on (bitAt v 1) fun s => s.requestStop d a (4096 * s.nextBlk d))

/-- ACQ_STOP_CYCLE (R196). -/
def execAcqStopCycle (d a : Nat) (s : State) : Host.Outcome State Fault Refusal :=
  .next (s.on (s.stopReached d a) fun s => s.endArm d a 1)

/-- STORED_SAMPLE_COMMIT (R127 to R141, R191, R198, R212). -/
def execStoredSampleCommit (d a : Nat) (x : SampleSource) (s : State) : Host.Outcome State Fault Refusal :=
  match x with
  | .logicTick t => .next (s.on (a == 2) fun s => s.lcPass d t)
  | .codes first xs =>
    if 2 ≤ a ∨ !s.mode.acquires ∨ s.inert a ∨ s.condConfig d a ≠ 0 then .next s
    else
      let pos := s.runPos d a first
      if (s.blkNo d : Int) < s.commitBlk d a pos then .next s
      else if s.commitWaits d a then .next (s.book (.storedSampleCommit d a x))
      else
        let r := (s.runSeen d a first xs).sampleWord d a pos first xs
        match r.2 with
        | some v => .next (r.1.commitSample d a v)
        | none => .next r.1

/-- BACKPRESSURE_RESUME (R212). -/
def execBackpressureResume (d a : Nat) (s : State) : Host.Outcome State Fault Refusal :=
  .next (s.on (s.mayResume d a) fun s => s.resumeStoring d a)

/-- SEGMENT_RECORD_WRITE (R202, R204, R222). -/
def execSegmentRecordWrite (d a : Nat) (s : State) : Host.Outcome State Fault Refusal := .next (s.recordDone d a)

/-- CHUNK_FLUSH_TIMEOUT (R209). -/
def execChunkFlushTimeout (d a : Nat) (s : State) : Host.Outcome State Fault Refusal :=
  match s.flushDeadline d a with
  | some t => .next (s.on (s.dueOn d t) fun s => s.closeChunk d a)
  | none => .next s

/-- MARK_WRITE (R211). -/
def execMarkWrite (d a : Nat) (s : State) : Host.Outcome State Fault Refusal := .next (State.drainMarks d a 1 s)

/-- GAP_RECORD_WRITE (R216). -/
def execGapRecordWrite (d a : Nat) (s : State) : Host.Outcome State Fault Refusal := .next (State.drainGaps d a 1 s)

/-- BAR2_READ (R219): `off` counts from the start of the window; `words` are the codewords that the cells give in error. -/
def execBar2Read (d off n : Nat) (words : List ReadWord) (s : State) : Host.Outcome State Fault Refusal :=
  .next (s.hostWrite d fun s => s.deliverRead d words fun s => s.emit (.readData d ((List.range n).map fun i => s.winByte d (off + i))))

/-- BAR2_WRITE (R219). -/
def execBar2Write (d off : Nat) (bytes : List Byte) (s : State) : Host.Outcome State Fault Refusal :=
  .next (s.hostWrite d fun s =>
    let a := s.winOffset d off
    if s.inPool d a && s.inPool d (a + bytes.length - 1) then s.memWrite (State.memAddr d 1 a) bytes
    else s.violation d 0x0409 State.vlogNone off)

end Sys2Proof.Machine
end

