-- ==== Sys2Proof/Machine/Hmac.lean ====
section
/-!
DEFINITION. HMAC-SHA-256, by which the service port is unlocked (R434). PRESUMED: the hash of FIPS 180-4 and the construction of RFC 2104, which
the manual names and does not repeat.
-/

namespace Sys2Proof.Machine

/-- A word of SHA-256. -/
abbrev ShaWord := BitVec 32

/-- The 64 round constants. -/
def shaRound : List ShaWord :=
  [0x428a2f98, 0x71374491, 0xb5c0fbcf, 0xe9b5dba5, 0x3956c25b, 0x59f111f1, 0x923f82a4, 0xab1c5ed5,
   0xd807aa98, 0x12835b01, 0x243185be, 0x550c7dc3, 0x72be5d74, 0x80deb1fe, 0x9bdc06a7, 0xc19bf174,
   0xe49b69c1, 0xefbe4786, 0x0fc19dc6, 0x240ca1cc, 0x2de92c6f, 0x4a7484aa, 0x5cb0a9dc, 0x76f988da,
   0x983e5152, 0xa831c66d, 0xb00327c8, 0xbf597fc7, 0xc6e00bf3, 0xd5a79147, 0x06ca6351, 0x14292967] ++
  [0x27b70a85, 0x2e1b2138, 0x4d2c6dfc, 0x53380d13, 0x650a7354, 0x766a0abb, 0x81c2c92e, 0x92722c85,
   0xa2bfe8a1, 0xa81a664b, 0xc24b8b70, 0xc76c51a3, 0xd192e819, 0xd6990624, 0xf40e3585, 0x106aa070,
   0x19a4c116, 0x1e376c08, 0x2748774c, 0x34b0bcb5, 0x391c0cb3, 0x4ed8aa4a, 0x5b9cca4f, 0x682e6ff3,
   0x748f82ee, 0x78a5636f, 0x84c87814, 0x8cc70208, 0x90befffa, 0xa4506ceb, 0xbef9a3f7, 0xc67178f2]

/-- The state of the hash: the eight working words. -/
structure ShaState where
  a : ShaWord
  b : ShaWord
  c : ShaWord
  d : ShaWord
  e : ShaWord
  f : ShaWord
  g : ShaWord
  h : ShaWord
  deriving DecidableEq, Repr

/-- The words that a message begins with. -/
def shaStart : ShaState :=
  ⟨0x6a09e667, 0xbb67ae85, 0x3c6ef372, 0xa54ff53a, 0x510e527f, 0x9b05688c, 0x1f83d9ab, 0x5be0cd19⟩

/-- Big-endian bytes as a number. -/
def ofBe (l : List Byte) : Nat := ofLe l.reverse

/-- The `n` big-endian bytes of a number. -/
def be (n v : Nat) : List Byte := (le n v).reverse

/-- The message schedule, newest word first: `n` more words. -/
def shaSchedule : Nat → List ShaWord → List ShaWord
  | 0, w => w
  | n + 1, w =>
    let x := w.getD 14 0
    let y := w.getD 1 0
    let s0 := x.rotateRight 7 ^^^ x.rotateRight 18 ^^^ (x >>> 3)
    let s1 := y.rotateRight 17 ^^^ y.rotateRight 19 ^^^ (y >>> 10)
    shaSchedule n ((w.getD 15 0 + s0 + w.getD 6 0 + s1) :: w)

/-- One round: `k` is the sum of its constant and its schedule word. -/
def shaStep (s : ShaState) (k : ShaWord) : ShaState :=
  let s1 := s.e.rotateRight 6 ^^^ s.e.rotateRight 11 ^^^ s.e.rotateRight 25
  let t1 := s.h + s1 + ((s.e &&& s.f) ^^^ (~~~s.e &&& s.g)) + k
  let s0 := s.a.rotateRight 2 ^^^ s.a.rotateRight 13 ^^^ s.a.rotateRight 22
  let t2 := s0 + ((s.a &&& s.b) ^^^ (s.a &&& s.c) ^^^ (s.b &&& s.c))
  ⟨t1 + t2, s.a, s.b, s.c, s.d + t1, s.e, s.f, s.g⟩

/-- A block of 64 bytes. -/
def shaBlock (s : ShaState) (block : List Byte) : ShaState :=
  let w := (List.range 16).map fun k => BitVec.ofNat 32 (ofBe ((block.drop (4 * k)).take 4))
  let t := ((shaSchedule 48 w.reverse).reverse.zip shaRound).foldl (fun t x => shaStep t (x.1 + x.2)) s
  ⟨s.a + t.a, s.b + t.b, s.c + t.c, s.d + t.d, s.e + t.e, s.f + t.f, s.g + t.g, s.h + t.h⟩

/-- A message with its padding: a one bit, zeros, and its length in bits. -/
def shaPadded (m : List Byte) : List Byte :=
  m ++ [0x80] ++ List.replicate ((119 - m.length % 64) % 64) 0 ++ be 8 (8 * m.length)

/-- SHA-256. -/
def sha256 (m : List Byte) : List Byte :=
  let p := shaPadded m
  let s := (List.range (p.length / 64)).foldl (fun s k => shaBlock s ((p.drop (64 * k)).take 64)) shaStart
  [s.a, s.b, s.c, s.d, s.e, s.f, s.g, s.h].flatMap fun w => be 4 w.toNat

/-- HMAC-SHA-256 with a key of at most 64 bytes. -/
def hmacSha256 (key m : List Byte) : List Byte :=
  let k := key ++ List.replicate (64 - key.length) 0
  sha256 (k.map (· ^^^ 0x5c) ++ sha256 (k.map (· ^^^ 0x36) ++ m))

end Sys2Proof.Machine
end

