-- ==== Sys2Proof/Machine/LgcOps.lean ====
section
/-!
DEFINITION. The logic front end: start, resolution, ringing hold-off, change records (R262 to R272).
-/

namespace Sys2Proof.Machine

namespace State

/-- The front end samples (R264). -/
def lgcRuns (s : State) (d : Nat) : Bool := s.isSet F.LGC_STATUS.RUNNING [d]

/-- The front end starts: every channel starts at its first sample (R264, R266). -/
def lgcStart (s : State) (d : Nat) : State :=
  let s := ((s.wr F.LGC_STATUS.RUNNING [d] 1).wr I.lgcStart [d] 0xFFFF).wr I.lgcComp [d] 0
  (s.wr F.LGC_STATE.STATE [d] 0).wr F.LGC_STATE.UNRESOLVED [d] 0xFFFF |>.each (List.range 16) fun s i => s.wr I.lgcHold [d, i] 0

/-- The front end stops (R264). -/
def lgcStop (s : State) (d : Nat) : State := s.wr F.LGC_STATUS.RUNNING [d] 0

/-- REC_MASK in force at a tick (R272). -/
def recMask (s : State) (d t : Nat) : Nat := if dtGe t (s.rd I.lgcMaskAt [d]) then s.rd F.LGC_CTRL.REC_MASK [d] else s.rd I.lgcMask [d]

/-- HOLDOFF of a channel in force at a tick (R268). -/
def lgcHoldoff (s : State) (d i t : Nat) : Nat :=
  if dtGe t (s.rd I.lgcOffAt [d, i]) then s.rd F.LGC_CH_CFG.HOLDOFF [d, i] else s.rd I.lgcOff [d, i]

/-- The sampled state of a channel cannot change at a tick (R268). -/
def lgcHeld (s : State) (d i t : Nat) : Bool := s.isSet I.lgcHold [d, i] && !instGe (4096 * t) (s.rd I.lgcHold [d, i])

/-- The channel is UNRESOLVED. -/
def lgcUnresolved (s : State) (d i : Nat) : Bool := bitAt (s.rd F.LGC_STATE.UNRESOLVED [d]) i

/-- A channel's sampled state, and whether it is unresolved. -/
def lgcPut (s : State) (d i : Nat) (high unresolved : Bool) : State :=
  (s.wr F.LGC_STATE.STATE [d] (putBit (s.rd F.LGC_STATE.STATE [d]) i high)).wr F.LGC_STATE.UNRESOLVED [d]
    (putBit (s.rd F.LGC_STATE.UNRESOLVED [d]) i unresolved)

/-- A change of the sampled state at tick t starts the hold-off: the next HOLDOFF samples, 8 ticks apart (R264, R268). -/
def lgcChanged (s : State) (d i t : Nat) : State :=
  let h := s.lgcHoldoff d i t
  s.wr I.lgcHold [d, i] (if h = 0 then 0 else 4096 * (t + 8 * h + 4))

/-- One comparator transition (R267 to R269, R273): counted during a hold-off, offered to the time-interval units. -/
def lgcEdge (s : State) (d : Nat) (x : LogicEdge) : State :=
  if 16 ≤ x.chan || s.lgcUnresolved d x.chan then s
  else
    let s := s.on (s.isSet I.lgcHold [d, x.chan] && !instGe x.dt (s.rd I.lgcHold [d, x.chan])) fun s =>
      s.count F.LGC_SUPPRESS_COUNT.COUNT [d, x.chan] 1
    s.timOffer d (0x10 + x.chan) (x.dt / 256 * 256) 256 (some x.rising)

/-- One channel meets the logic sample at tick t (R266 to R268): the state, and the crossing it makes. -/
def lgcChannel (s : State) (d t : Nat) (high low : Bool) (i : Nat) : State × List Crossing :=
  if bitAt (s.rd I.lgcStart [d]) i then
    ((s.wr I.lgcStart [d] (clrBit (s.rd I.lgcStart [d]) i)).lgcPut d i high (!high && !low), [])
  else if s.lgcUnresolved d i then
    if high then
      let s := (s.lgcPut d i true false).lgcChanged d i t
      (s.raise d 168 (i + 2 ^ 16 * s.rd F.LGC_STATE.UNRESOLVED [d]), [])
    else (s, [])
  else if s.lgcHeld d i t || bitAt (s.rd F.LGC_STATE.STATE [d]) i == high then (s, [])
  else ((s.lgcPut d i high false).lgcChanged d i t, [⟨0x10 + i, 0, high, 4096 * t, false⟩])

/-- The level that a channel compares, µV (R262): P less N, or P less the reference ball of its group. -/
def lgcLevel (s : State) (d i : Nat) (pins : LogicPins) : Int :=
  pins.p.getD i 0 - (if s.rd F.LGC_CH_CFG.MODE [d, i] = 0 then pins.n.getD i 0 else if i < 8 then pins.refA else pins.refB)

/-- Upper and lower threshold of a channel, µV (R263). -/
def lgcUpper (s : State) (d i : Nat) : Int := 1000 * sval 11 (s.rd F.LGC_CH_CFG.THRESH [d, i]) + 500 * s.rd F.LGC_CH_CFG.HYST [d, i]
def lgcLower (s : State) (d i : Nat) : Int := 1000 * sval 11 (s.rd F.LGC_CH_CFG.THRESH [d, i]) - 500 * s.rd F.LGC_CH_CFG.HYST [d, i]

/-- Comparator output of a channel at a sample (R263, R264): by the level there; between the thresholds, by its last transition. -/
def lgcOutput (s : State) (d : Nat) (pins : LogicPins) (edges : List LogicEdge) (i : Nat) : Bool :=
  let v := s.lgcLevel d i pins
  let last := ((edges.filter (·.chan == i)).getLast?.map (·.rising)).getD (bitAt (s.rd I.lgcComp [d]) i)
  decide (s.lgcUpper d i ≤ v) || (!decide (v < s.lgcLower d i) && last)

/-- One bit a channel. -/
def lgcBits (f : Nat → Bool) : Nat := (List.range 16).foldl (fun n i => putBit n i (f i)) 0

/-- The logic sample at tick t: what stands at the pins, and the transitions of the comparators since the sample before (R262 to R271). -/
def logicSample (s : State) (d t : Nat) (pins : LogicPins) (edges : List LogicEdge) : State :=
  if !s.lgcRuns d then s
  else
    let high := lgcBits (s.lgcOutput d pins edges)
    let low := lgcBits fun i => decide (s.lgcLevel d i pins < s.lgcLower d i)
    let s := (s.each edges fun s x => s.lgcEdge d x).wr I.lgcComp [d] high
    let before := s.rd F.LGC_STATE.STATE [d]
    let r := (List.range 16).foldl (fun (a : State × List Crossing) i =>
      let c := a.1.lgcChannel d t (bitAt high i) (bitAt low i) i
      (c.1, a.2 ++ c.2)) (s, [])
    let s := r.1
    let after := s.rd F.LGC_STATE.STATE [d]
    let mask := s.recMask d t
    let changed := (List.range 16).any fun i => bitAt mask i && bitAt before i != bitAt after i
    let s := s.on changed fun s => s.lcRecord d t after (s.rd F.LGC_STATE.UNRESOLVED [d])
    s.on s.mode.acquires fun s =>
      s.arrive ((r.2.map fun x => .crossing d (4096 * t) x) ++ [.logic d (4096 * t) after (s.rd F.LGC_STATE.UNRESOLVED [d])])

-- Register writes (R263, R265, R268, R272) ------------------------------------------------------------------

/-- An armed sequencer uses a term whose source is the channel (R265). -/
def lgcInUse (s : State) (d i : Nat) : Bool :=
  s.armed d 2 || anyBelow 2 fun q => s.seqArmed d q && (s.usedTerms d q).any fun t =>
    s.isSet F.TRG_TERM_CFG.TYPE [d, t] && s.termType d t != 7 && s.termSrc d t == 0x10 + i

/-- A rejected write. -/
def lgcReject (s : State) (d i : Nat) : State := s.stick F.LGC_STATUS.CFG_REJECT [d] d 169 i

/-- LGC_CH_CFG (R263, R265, R268): each field that is not accepted is ignored. -/
def writeLgcCfg (d i v : Nat) (s : State) : State × Nat :=
  let mode := slice v 0 1
  let th := sval 11 (slice v 1 11)
  let hyst := slice v 12 7
  let off := slice v 19 6
  let newMode := mode != s.rd F.LGC_CH_CFG.MODE [d, i]
  let used := newMode && s.lgcInUse d i
  let range := th < -600 || 600 < th || 100 < hyst
  let s := s.on (used || range) fun s => s.lgcReject d i
  let s := s.on (newMode && !used) fun s =>
    (s.wr F.LGC_CH_CFG.MODE [d, i] mode).wr I.lgcStart [d] (setBit (s.rd I.lgcStart [d]) i) |>.lgcPut d i false true |>.wr I.lgcHold [d, i] 0
  let s := s.on (!range) fun s => (s.wr F.LGC_CH_CFG.THRESH [d, i] (slice v 1 11)).wr F.LGC_CH_CFG.HYST [d, i] hyst
  let s := s.on (off ≤ 50) fun s =>
    ((s.wr I.lgcOff [d, i] (s.lgcHoldoff d i (s.blkOf d))).wr I.lgcOffAt [d, i] (s.nextBlk d)).wr F.LGC_CH_CFG.HOLDOFF [d, i] off
  (s, if used then 0x0212 else if range || 50 < off then 0x0100 else 0)

/-- LGC_CTRL (R272). -/
def writeLgcCtrl (d v : Nat) (s : State) : State × Nat :=
  (((s.wr I.lgcMask [d] (s.recMask d (s.blkOf d))).wr I.lgcMaskAt [d] (s.nextBlk d)).wr F.LGC_CTRL.REC_MASK [d] (slice v 0 16), 0)

end State

end Sys2Proof.Machine
end

