-- ==== Sys2Proof/Machine/StoreOps.lean ====
section
/-!
DEFINITION. The boot flash: its bytes, the layout of a calibration store slot and what its bytes say at boot, the directory, and the image
headers (R114 to R119, R406, R450 to R454).
-/

namespace Sys2Proof.Machine

/-- One bit of the reflected CRC-32. -/
def crcBit (c : Nat) : Nat := if c % 2 = 1 then Nat.xor (c / 2) 0xEDB88320 else c / 2

/-- One byte of the reflected CRC-32. -/
def crcByte (c b : Nat) : Nat := crcBit (crcBit (crcBit (crcBit (crcBit (crcBit (crcBit (crcBit (Nat.xor c b))))))))

/-- CRC-32: polynomial 0x04C11DB7, reflected, initial value and final XOR 0xFFFFFFFF (R114). -/
def crc32 (bytes : List Nat) : Nat := Nat.xor (bytes.foldl crcByte 0xFFFFFFFF) 0xFFFFFFFF

/-- The same of bytes. -/
def crcBytes (l : List Byte) : Nat := crc32 (l.map (·.toNat))

/-- Flash offset of slot k of the calibration store: 0 A, 1 B (R114). -/
def slotBase (k : Nat) : Nat := 0x2000000 + 0x100000 * k

/-- Reserved bytes. -/
def zeros (n : Nat) : List Byte := List.replicate n 0

namespace State

/-- A register as one number: each field in its place. -/
def image (s : State) (r : Reg) (ix : List Nat) : Nat := (r.fields.map fun i => s.rd i.fld ix * 2 ^ i.fld.lo).sum

-- Flash ---------------------------------------------------------------------------------------------------

/-- A byte of the flash; an erased byte reads 0xFF. -/
def flashGet (s : State) (a : Nat) : Byte := (sparseGet a s.flash).getD 255

/-- `n` bytes of the flash. -/
def flashBytes (s : State) (a n : Nat) : List Byte := (List.range n).map fun i => s.flashGet (a + i)

/-- One byte of the flash takes a value. -/
def flashPut (s : State) (a : Nat) (b : Byte) : State :=
  { s with flash := sparsePut natLt a (if b = 255 then none else some b) s.flash }

/-- The flash takes bytes from an offset on. -/
def flashStore (s : State) (a : Nat) (l : List Byte) : State := l.zipIdx.foldl (fun s p => s.flashPut (a + p.2) p.1) s

/-- Bytes are programmed from an offset on. -/
def flashProgram (s : State) (a : Nat) (l : List Byte) : State :=
  (s.flashStore a l).emit (.flash a l)

/-- A span of the flash is erased. -/
def flashErase (s : State) (a n : Nat) : State :=
  { s with flash := s.flash.filter fun e => e.1 < a || a + n ≤ e.1 }.emit (.flashErase a n)

-- What a slot holds (R114, R115, R406) -------------------------------------------------------------------------

/-- A trim record of 16 bytes (R115). -/
def trimRecord (s : State) (d c i : Nat) : List Byte :=
  le 1 (s.rd F.CRD_TRIM.SKEW [d, c, i]) ++ le 1 (s.rd F.CRD_TRIM.OFFSET [d, c, i]) ++ le 1 (s.rd F.CRD_TRIM.BW [d, c, i]) ++ zeros 1
    ++ ((List.range 8).flatMap fun t => le 1 (s.rd I.gainTap [d, c, i, t])) ++ zeros 4

/-- The time-base section of 320 bytes (R115). -/
def timeBaseBytes (s : State) : List Byte :=
  le 4 (s.rd I.coefA []) ++ le 4 (s.rd I.coefB []) ++ le 4 (s.rd I.coefTau []) ++ le 4 (s.rd I.factoryTrim [])
    ++ le 4 (sfield 32 (sval 25 (s.rd I.loopCorr []))) ++ le 4 (s.rd I.refitCount []) ++ le 8 (s.rd I.ovenOn [])
    ++ ((List.range 15).flatMap fun k => le 8 (s.rd I.refitPt [k] % 2 ^ 64) ++ le 4 (s.rd I.refitPt [k] / 2 ^ 64) ++ zeros 4) ++ zeros 48

/-- The Bobbin pool section (R406). -/
def bobbinBytes (s : State) : List Byte :=
  le 4 s.bobbin.length ++ zeros 4
    ++ (List.range 4).flatMap (fun g => (List.range 136).flatMap fun i => le 2 (s.rd I.biasBase [g / 2, g % 2, i]))
    ++ s.bobbin.flatMap fun r => le 4 r.unit ++ le 1 r.state ++ le 1 r.cause ++ le 2 r.count ++ le 8 r.ovenS

/-- The payload (R115). -/
def storePayload (s : State) : List Byte :=
  (List.range 4).flatMap (fun g => (List.range 136).flatMap fun i => s.trimRecord (g / 2) (g % 2) i)
    ++ (List.range 4).flatMap (fun g => (List.range 8).flatMap fun l => le 4 (s.image .CNV_SLICE_MAP [g / 2, g % 2, l]))
    ++ s.timeBaseBytes ++ s.bobbinBytes

/-- Header and payload (R114). -/
def storeBody (s : State) : List Byte :=
  let p := s.storePayload
  le 4 0x4D564353 ++ le 2 1 ++ zeros 2 ++ le 4 p.length ++ zeros 52 ++ p

end State

/-- The commit word of a generation (R114). -/
def commitWord (g : Nat) : List Byte := le 4 0x5A5AA5A5 ++ le 4 g ++ le 4 (2 ^ 32 - 1 - g) ++ le 4 (2 ^ 32 - 1)

namespace State

-- What a slot says at boot (R118) ---------------------------------------------------------------------------

/-- `n` bytes of slot k from a slot offset on, as a number. -/
def slotField (s : State) (k off n : Nat) : Nat := ofLe (s.flashBytes (slotBase k + off) n)

/-- The payload length of a slot. -/
def slotLen (s : State) (k : Nat) : Nat := s.slotField k 8 4

/-- The generation of a slot. -/
def slotGen (s : State) (k : Nat) : Nat := s.slotField k 0xFFFF4 4

/-- A slot is VALID (R118). -/
def slotValid (s : State) (k : Nat) : Bool :=
  let l := s.slotLen k
  let g := s.slotGen k
  s.slotField k 0xFFFF0 4 == 0x5A5AA5A5 && s.slotField k 0xFFFF8 4 == 2 ^ 32 - 1 - g && g != 2 ^ 32 - 1 && decide (0x40 + l + 4 ≤ 0xFFFF0)
    && s.slotField k (0x40 + l) 4 == crcBytes (s.flashBytes (slotBase k) (0x40 + l))

/-- The class of a slot (R118): 0 BLANK, 1 VALID, 2 TORN. -/
def slotState (s : State) (k : Nat) : Nat :=
  if s.slotValid k then 1
  else if (s.flashBytes (slotBase k) 64 ++ s.flashBytes (slotBase k + 0xFFFF0) 16).all (· == 255) then 0 else 2

/-- The slot to load: 0 A, 1 B, 2 the OTP baseline (R118). -/
def storeSource (s : State) : Nat :=
  match s.slotValid 0, s.slotValid 1 with
  | true, true => if s.slotGen 0 < s.slotGen 1 then 1 else 0
  | true, false => 0
  | false, true => 1
  | false, false => 2

/-- `n` bytes of the payload of slot k from a payload offset on. -/
def payloadField (s : State) (k off n : Nat) : Nat := s.slotField k (0x40 + off) n

/-- The trims of a slice are taken from a slot (R115, R120). -/
def loadTrims (s : State) (k d c i : Nat) : State :=
  let o := (136 * (2 * d + c) + i) * 16
  let s := ((s.wr F.CRD_TRIM.SKEW [d, c, i] (s.payloadField k o 1)).wr F.CRD_TRIM.OFFSET [d, c, i] (s.payloadField k (o + 1) 1)).wr
    F.CRD_TRIM.BW [d, c, i] (s.payloadField k (o + 2) 1)
  s.each (List.range 8) fun s t => s.wr I.gainTap [d, c, i, t] (s.payloadField k (o + 4 + t) 1)

/-- A slice map is taken from a slot (R115, R120). -/
def loadMap (s : State) (k d c g : Nat) : State :=
  let v := s.payloadField k (0x2200 + 32 * (2 * d + c) + 4 * g) 4
  s.each Reg.CNV_SLICE_MAP.fields fun s i => s.wr i.fld [d, c, g] (slice v i.fld.lo i.fld.width)

/-- The time-base data is taken from a slot (R115, R120). -/
def loadTimeBase (s : State) (k : Nat) : State :=
  let f := fun off n => s.payloadField k (0x2280 + off) n
  let s := (((s.wr I.coefA [] (f 0 4)).wr I.coefB [] (f 4 4)).wr I.coefTau [] (f 8 4)).wr I.factoryTrim [] (f 12 4)
  let s := ((s.wr I.loopCorr [] (f 16 4)).wr I.refitCount [] (min 15 (f 20 4))).wr I.ovenOn [] (f 24 8)
  s.each (List.range 15) fun s j => s.wr I.refitPt [j] (f (32 + 16 * j) 8 + 2 ^ 64 * f (40 + 16 * j) 4)

/-- The Bobbin pool section is taken from a slot (R120, R406). -/
def loadBobbin (s : State) (k : Nat) : State :=
  let f := fun off n => s.payloadField k (0x23C0 + off) n
  let recs := (List.range (f 0 4)).map fun n =>
    let o := 1096 + 16 * n
    BobRec.mk (f o 4) (f (o + 4) 1) (f (o + 5) 1) (f (o + 6) 2) (f (o + 8) 8)
  { s with bobbin := recs }.each (List.range 4) fun s g => s.each (List.range 136) fun s i =>
    s.wr I.biasBase [g / 2, g % 2, i] (s.payloadField k (0x23C0 + 8 + 2 * (136 * g + i)) 2)

/-- An image replaces what the store keeps (R115, R120). -/
def loadImage (s : State) (k : Nat) : State :=
  let s := s.each (List.range 4) fun s g => s.each (List.range 136) fun s i => s.loadTrims k (g / 2) (g % 2) i
  let s := s.each (List.range 4) fun s g => s.each (List.range 8) fun s l => s.loadMap k (g / 2) (g % 2) l
  (s.loadTimeBase k).loadBobbin k

/-- The factory baseline of the OTP (R119): trims, slice maps with every spare IDLE, and the factory time base. -/
def loadFactory (s : State) : State :=
  let s := s.each [0, 1] fun s d => s.each [0, 1] fun s c => s.each (List.range 136) fun s i =>
    let tap := Config.factoryTap d (2 * d + c) i
    let s := ((s.wr F.CRD_TRIM.OFFSET [d, c, i] (tap 0)).wr F.CRD_TRIM.SKEW [d, c, i] (tap 1)).wr F.CRD_TRIM.BW [d, c, i] (tap 2)
    let s := s.each (List.range 8) fun s t => s.wr I.gainTap [d, c, i, t] (tap (3 + t))
    s.wr I.biasBase [d, c, i] (Config.factoryBias d (2 * d + c) i)
  let s := ((s.wr I.coefA [] (Config.otpTimeBase 0)).wr I.coefB [] (Config.otpTimeBase 1)).wr I.coefTau [] (Config.otpTimeBase 2)
  let s := (((s.wr I.factoryTrim [] (Config.otpTimeBase 3)).wr I.loopCorr [] 0).wr I.refitCount [] 0).wr I.ovenOn [] 0
  { s with bobbin := [] }

-- The directory and the firmware images (R450 to R454) --------------------------------------------------------

/-- Directory copy k is valid (R451): its marker, and the CRC-32 of its first 12 bytes. -/
def dirValid (s : State) (k : Nat) : Bool :=
  ofLe (s.flashBytes (4096 * k) 4) == 0x4D564449 && ofLe (s.flashBytes (4096 * k + 12) 4) == crcBytes (s.flashBytes (4096 * k) 12)

/-- NEXT of directory copy k (R451). -/
def dirNext (s : State) (k : Nat) : Nat := (s.flashGet (4096 * k + 4)).toNat % 2

/-- G of directory copy k (R451). -/
def dirGen (s : State) (k : Nat) : Nat := ofLe (s.flashBytes (4096 * k + 8) 4)

/-- The directory copy in force (R451). -/
def dirInForce (s : State) : Option Nat :=
  match s.dirValid 0, s.dirValid 1 with
  | true, true => some (if s.dirGen 0 < s.dirGen 1 then 1 else 0)
  | true, false => some 0
  | false, true => some 1
  | false, false => none

end State

/-- Where an image slot lies in the flash (R450). -/
def imageBase (k : Nat) : Nat := 0x100000 + 0x800000 * k

/-- A span of a header as a number. -/
def headerField (header : List Byte) (first n : Nat) : Nat := ofLe ((header.drop first).take n)

/-- The header of a blank image (R454). -/
def headerBlank (header : List Byte) : Bool := headerField header 0 8 == 2 ^ 64 - 1

/-- A header that R453 and R454 allow. -/
def headerOk (header : List Byte) : Bool :=
  let len := headerField header 8 4
  headerField header 0 4 == 0x4D564657 && headerField header 4 2 == 1 && headerField header 6 1 == 0xB0 && headerField header 7 1 == 0
    && 1 ≤ len && len ≤ 8388096 && headerField header 168 344 == 0

namespace State

/-- The 512-byte header of an image (R453). -/
def imageHeader (s : State) (k : Nat) : List Byte := s.flashBytes (imageBase k) 512

end State

end Sys2Proof.Machine
end

