-- ==== Sys2Proof/Machine/ScanOps.lean ====
section
/-!
DEFINITION. Display scan-out: timing, links, layers, composition, overlay bases and Frost watch (R240 to R261).
-/

namespace Sys2Proof.Machine

namespace State

-- Display timing (R244) ------------------------------------------------------------------------------------------

/-- A display timing: the words of SCN_TIM_H, HS, V, VS and PCLK. -/
structure Timing where
  h : Nat
  hs : Nat
  v : Nat
  vs : Nat
  khz : Nat
  deriving DecidableEq, Repr

def Timing.hactive (t : Timing) : Nat := slice t.h 0 12
def Timing.htotal (t : Timing) : Nat := slice t.h 16 13
def Timing.vactive (t : Timing) : Nat := slice t.v 0 12
def Timing.vtotal (t : Timing) : Nat := slice t.v 16 13

/-- The timing in force. -/
def timing (s : State) : Timing :=
  ⟨s.rd I.timAct [0], s.rd I.timAct [1], s.rd I.timAct [2], s.rd I.timAct [3], s.rd I.timAct [4]⟩

/-- The shadow copy (R244). -/
def shadowTiming (s : State) : Timing :=
  ⟨s.rd F.SCN_TIM_H.HACTIVE [] + 2 ^ 16 * s.rd F.SCN_TIM_H.HTOTAL [],
    s.rd F.SCN_TIM_HS.HFP [] + 2 ^ 12 * s.rd F.SCN_TIM_HS.HSW [] + 2 ^ 31 * s.rd F.SCN_TIM_HS.HPOL [],
    s.rd F.SCN_TIM_V.VACTIVE [] + 2 ^ 16 * s.rd F.SCN_TIM_V.VTOTAL [],
    s.rd F.SCN_TIM_VS.VFP [] + 2 ^ 12 * s.rd F.SCN_TIM_VS.VSW [] + 2 ^ 31 * s.rd F.SCN_TIM_VS.VPOL [],
    s.rd F.SCN_TIM_PCLK.KHZ []⟩

/-- The first check of R244 fails. -/
def Timing.invalid (t : Timing) : Bool :=
  let frame := t.htotal * t.vtotal
  t.hactive < 640 || 3840 < t.hactive || t.hactive % 8 != 0 || t.vactive < 480 || 2160 < t.vactive
    || t.htotal < t.hactive + slice t.hs 0 12 + slice t.hs 12 12 + 32
    || t.vtotal < t.vactive + slice t.vs 0 12 + slice t.vs 12 12 + 3
    || t.khz < 25000 || 600000 < t.khz || t.khz * 1000 < 24 * frame || 120 * frame < t.khz * 1000

-- Trace windows (R248, R250) -----------------------------------------------------------------------------------------

/-- A trace window: the words of SCN_WF_CFG, POS and SIZE. -/
structure Window where
  cfg : Nat
  pos : Nat
  size : Nat
  deriving DecidableEq, Repr

def Window.en (w : Window) : Bool := bitAt w.cfg 0
def Window.prio (w : Window) : Nat := slice w.cfg 1 2
def Window.pal (w : Window) : Nat := slice w.cfg 3 2
def Window.shift (w : Window) : Nat := slice w.cfg 5 3
def Window.x (w : Window) : Nat := slice w.pos 0 13
def Window.y (w : Window) : Nat := slice w.pos 16 12
def Window.w (w : Window) : Nat := slice w.size 0 13
def Window.h (w : Window) : Nat := slice w.size 16 12

/-- The window of global channel g in force. -/
def window (s : State) (g : Nat) : Window := ⟨s.rd I.wfAct [g, 0], s.rd I.wfAct [g, 1], s.rd I.wfAct [g, 2]⟩

/-- The window as last written. -/
def newWindow (s : State) (g : Nat) : Window :=
  ⟨s.rd F.SCN_WF_CFG.EN [g] + 2 * s.rd F.SCN_WF_CFG.PRIO [g] + 2 ^ 3 * s.rd F.SCN_WF_CFG.PAL [g] + 2 ^ 5 * s.rd F.SCN_WF_CFG.SHIFT [g],
    s.rd F.SCN_WF_POS.X [g] + 2 ^ 16 * s.rd F.SCN_WF_POS.Y [g], s.rd F.SCN_WF_SIZE.W [g] + 2 ^ 16 * s.rd F.SCN_WF_SIZE.H [g]⟩

/-- An enabled window fits the panel (R248). -/
def Window.fits (w : Window) (t : Timing) : Bool :=
  !w.en || (256 ≤ w.w && w.w ≤ 7680 && 128 ≤ w.h && w.h ≤ 2160 && w.x + w.w ≤ 2 * t.hactive && w.y + w.h ≤ t.vactive)

/-- The lowest and highest histogram column of the pixel column px of a window (R248). -/
def Window.columns (w : Window) (px : Nat) : Nat × Nat :=
  let lo := (px - w.x) * 2048 / w.w
  (lo, max lo (ceilDiv ((px - w.x + 1) * 2048) w.w - 1))

/-- The lowest and highest histogram row of the pixel row py (R248). -/
def Window.rows (w : Window) (py : Nat) : Nat × Nat :=
  (1023 - (ceilDiv ((py - w.y + 1) * 1024) w.h - 1), 1023 - (py - w.y) * 1024 / w.h)

/-- Histogram columns of channel g that map to pixels of the output that is not its die's (R250). -/
def Window.crossing (w : Window) (d : Nat) (t : Timing) : Nat :=
  let a := if d = 0 then max w.x t.hactive else w.x
  let b := if d = 0 then w.x + w.w else min (w.x + w.w) t.hactive
  if !w.en || b ≤ a then 0 else (w.columns (b - 1)).2 + 1 - (w.columns a).1

/-- The columns that each die sends fit the Splice at a timing (R250). -/
def spliceFits (win : Nat → Window) (t : Timing) : Bool :=
  [0, 1].all fun d =>
    ((win (2 * d)).crossing d t + (win (2 * d + 1)).crossing d t) * 1024 * 16 * t.khz * 1000 ≤ 4000000000 * t.htotal * t.vtotal

-- Links (R243) ---------------------------------------------------------------------------------------------------------

/-- LINK of an output takes a value; SCN_LINK is raised where it changes. -/
def setLink (s : State) (d v : Nat) (fallback : Bool) : State :=
  if s.rd F.SCN_STATUS.LINK [d] = v then s
  else (s.wr F.SCN_STATUS.LINK [d] v).raise d 164 (v + 4 * s.rd F.SCN_STATUS.HPD [d] + 8 * b2n fallback)

/-- Payload rate of a link in kbit/s (R243): 0.8 × link rate × lanes. -/
def linkPayload (rate lanes : Nat) : Nat := (if rate = 0 then 4320000 else 6480000) * lanes

/-- The settings at which training is tried, in order (R243). -/
def trainSettings (s : State) (d : Nat) : List (Nat × Nat) :=
  let rate := s.rd F.SCN_LINK_CFG.RATE [d]
  let lanes := s.rd F.SCN_LINK_CFG.LANES [d]
  if !s.isSet F.SCN_LINK_CFG.FALLBACK_EN [d] then [(rate, lanes)]
  else
    let rates := if rate = 1 then [1, 0] else [0]
    let fits (p : Nat × Nat) : Bool := 24 * s.timing.khz ≤ linkPayload p.1 p.2
    (rate, lanes) :: ((rates.map fun r => (r, lanes)).drop 1
      ++ ((if lanes = 4 then [2, 1] else if lanes = 2 then [1] else []).flatMap fun l => rates.map fun r => (r, l)).filter fits)

/-- Training ends: at the setting of an attempt, or with none (R243). -/
def linkTrained (s : State) (d : Nat) (attempt : Option Nat) : State :=
  if s.rd F.SCN_STATUS.LINK [d] ≠ 1 then s
  else match attempt.bind fun k => (s.trainSettings d)[k]? with
    | some p => ((s.wr F.SCN_STATUS.RATE_ACT [d] p.1).wr F.SCN_STATUS.LANES_ACT [d] p.2).setLink d 2 (attempt != some 0)
    | none => s.setLink d 3 (decide (1 < (s.trainSettings d).length))

/-- The generator follows its condition (R241): it starts with a black frame, the links training; it stops with the links down. -/
def syncScan (s : State) : State :=
  let run := s.scanRuns
  if s.scanWanted == run then s
  else if run then (s.each [0, 1] fun s d => (s.wr F.SCN_STATUS.RUNNING [d] 0).setLink d 0 false).syncDomains
  else
    let s := (s.wr I.scnFirst [] 1).wr I.ctlAct [] (setBit (s.rd I.ctlAct []) 0)
    (s.each [0, 1] fun s d => ((s.wr F.SCN_STATUS.RUNNING [d] 1).wr F.SCN_STATUS.BLACK [d] 1).setLink d 1 false).syncDomains

-- Composition (R247 to R251) ---------------------------------------------------------------------------------------------

/-- Count of a histogram cell. -/
def histCell (s : State) (d c x r : Nat) : Nat := s.rd (cellField r) [d, c, x, r / 2]

/-- The count that output d draws of a cell of global channel g: its own die's as it stands, the other die's as read before the frame (R250). -/
def drawnCount (s : State) (d g x r : Nat) : Nat :=
  if g / 2 = d then s.histCell (g / 2) (g % 2) x r
  else s.rd (if r % 2 = 0 then I.farEven else I.farOdd) [g / 2, g % 2, x, r / 2]

/-- The counts that cross the Splice for the frame that begins are read (R250). -/
def readFar (s : State) : State :=
  let s : State := { s with regs := s.regs.filter fun e => e.1.reg != I.farEven.reg && e.1.reg != I.farOdd.reg }
  s.each (s.regs.filter fun e => e.1.reg == F.HIST.ROW_EVEN.reg) fun s e => s.wr (if e.1.lo = 0 then I.farEven else I.farOdd) e.1.ix e.2

/-- The channel is drawn: offered, and not C1 of a PAIRED die (R248). -/
def drawn (s : State) (g : Nat) : Bool := s.isSet F.CNV_STATUS.AVAILABLE [g / 2, g % 2] && !(s.paired && g % 2 == 1)

/-- The index that output d shows of channel g's window at panel pixel (px, py); 0 outside it (R248 to R250). -/
def traceIndex (s : State) (d g px py : Nat) : Nat :=
  let w := s.window g
  if !w.en || px < w.x || w.x + w.w ≤ px || py < w.y || w.y + w.h ≤ py || !s.drawn g then 0
  else
    let cs := w.columns px
    let rs := w.rows py
    let n := (List.range (cs.2 + 1 - cs.1)).foldl (fun m i =>
      (List.range (rs.2 + 1 - rs.1)).foldl (fun m j => max m (s.drawnCount d g (cs.1 + i) (rs.1 + j))) m) 0
    if n = 0 then 0 else s.rd I.curveAct [g, min (1 + (n - 1) / 2 ^ w.shift) 1023]

/-- The waveform layer of output d at a panel pixel: index and palette (R248): the lowest PRIO among the non-zero indices, then the lowest g. -/
def waveform (s : State) (d px py : Nat) : Nat × Nat :=
  [0, 1, 2, 3].foldl (fun (best : Nat × Nat × Nat) g =>
    let i := s.traceIndex d g px py
    if i ≠ 0 ∧ (best.1 = 0 ∨ (s.window g).prio < best.2.2) then (i, (s.window g).pal, (s.window g).prio) else best) (0, 0, 0)
    |> fun b => (b.1, b.2.1)

/-- The cursor's index at a panel pixel (R257). -/
def cursorIndex (s : State) (px py : Nat) : Nat :=
  let x : Int := (px : Int) - sval 14 (slice (s.rd I.curAct [0]) 0 14)
  let y : Int := (py : Int) - sval 14 (slice (s.rd I.curAct [0]) 16 14)
  if bitAt (s.rd I.curAct [1]) 0 ∧ 0 ≤ x ∧ x < 64 ∧ 0 ≤ y ∧ y < 64 then
    slice (s.rd I.imageAct [y.toNat, x.toNat / 4]) (8 * (x.toNat % 4)) 8
  else 0

/-- A colour component of an output (R251). -/
def component (v : Nat) : Nat := min 255 ((v + 2) / 4)

/-- The 24-bit colour of a 30-bit entry, R in the high byte (R251, SCN_BG). -/
def colour (rgb : Nat) : Nat := component (slice rgb 0 10) + 2 ^ 8 * component (slice rgb 10 10) + 2 ^ 16 * component (slice rgb 20 10)

/-- The signature of an output's waveform layer (R258). -/
def signature (s : State) (d : Nat) : Nat :=
  let t := s.timing
  crc32 ((List.range t.vactive).flatMap fun y => (List.range t.hactive).map fun x => (s.waveform d (x + d * t.hactive) y).1)

-- Overlay bases (R252 to R255) --------------------------------------------------------------------------------------------

/-- Layer l of die d. -/
def layerOf (s : State) (d l : Nat) : Layer := s.layers.getD (3 * d + l) Layer.none

/-- The state with a layer replaced; PENDING and the tags follow. -/
def setLayer (s : State) (d l : Nat) (x : Layer) : State :=
  let s := { s with layers := s.layers.set (3 * d + l) x }
  let s := s.wrBool F.SCN_OVL_CTRL.PENDING [d, l] x.pending.isSome
  (s.wr F.SCN_OVL_STAT.SHOWN_TAG [d, l] ((x.shown.map (·.tag)).getD 0)).wr F.SCN_OVL_STAT.PENDING_TAG [d, l] ((x.pending.map (·.tag)).getD 0)

/-- The index of overlay l of output d at output pixel (x, y) (R247, R252, R255): 0 while the layer is disabled, has no base, or has met a fetch fault
in this frame; a pool buffer's byte; or `host`, what the buffer in host memory gives. -/
def ovlIndex (s : State) (d l x y host : Nat) : Nat :=
  let lay := s.layerOf d l
  match lay.shown with
  | none => 0
  | some b =>
    if !s.isSet I.ovlAct [d, l] then 0
    else if b.src = 1 then (s.memSeen (memAddr d 1 (s.depth d 1 + 288 * 2 ^ 20 + b.addr + b.stride * y + x))).toNat
    else if lay.faulted then 0 else host

/-- The colour of output pixel (x, y) of die d, with the indices that overlay buffers in host memory give there (R240, R247). -/
def pixel (s : State) (d x y : Nat) (host : List Nat) : Nat :=
  let px := x + d * s.timing.hactive
  let layer (k : Nat) : Nat × Nat :=
    if k = 0 then s.waveform d px y else (s.ovlIndex d (k - 1) x y (host.getD (k - 1) 0), s.rd F.SCN_OVL_CTRL.PAL [d, k - 1])
  let order := (List.range 4).map fun i => slice (s.rd I.ctlAct []) (2 + 2 * i) 2
  let stack := order.map layer ++ [(s.cursorIndex px y, slice (s.rd I.curAct [1]) 1 2)]
  match stack.reverse.find? fun p => p.1 != 0 with
  | some p => colour (s.rd I.palAct [p.2, p.1])
  | none => colour (s.rd I.bgAct [])

/-- A base lies in an allocation of the pool. -/
def baseIn (b : OvlBase) (p : PoolBuf) : Bool := b.src == 1 && p.off ≤ b.addr && b.addr < p.off + p.size

/-- Bytes from the first to the last index of a buffer (R252). -/
def ovlBytes (s : State) (stride : Nat) : Nat := stride * (s.timing.vactive - 1) + s.timing.hactive

/-- A flip passes the alignment, stride and pool-bounds tests (R252). -/
def flipOk (s : State) (d : Nat) (b : OvlBase) : Bool :=
  b.addr % 256 == 0 && b.stride % 256 == 0 && s.timing.hactive ≤ b.stride
    && (b.src == 0 || s.pool.any fun p => p.die == d && p.off ≤ b.addr && b.addr + s.ovlBytes b.stride ≤ p.off + p.size)

/-- SCN_OVL_FLIP (R252). -/
def writeFlip (d l v : Nat) (s : State) : State :=
  if !bitAt v 16 then s
  else
    let b : OvlBase := ⟨s.rd F.SCN_OVL_CTRL.SRC [d, l], s.rd F.SCN_OVL_ADDR.ADDR [d, l], s.rd F.SCN_OVL_STRIDE.STRIDE [d, l], slice v 0 16⟩
    if !s.flipOk d b then s.stick F.SCN_STATUS.FLIP_REJECT [d] d 167 (2 + 4 * l)
    else
      let x := s.layerOf d l
      s.setLayer d l { x with pending := some b, replaced := x.replaced ++ x.pending.toList }

/-- How the layers of a die hold an allocation (R254): shown or pending, or on its way to retirement. -/
def poolShown (s : State) (p : PoolBuf) : Bool :=
  anyBelow 3 fun l => let x := s.layerOf p.die l
    (x.shown.toList ++ x.pending.toList).any fun b => baseIn b p
def poolLeaving (s : State) (p : PoolBuf) : Bool :=
  anyBelow 3 fun l => let x := s.layerOf p.die l
    (x.retiring.toList ++ x.replaced).any fun b => baseIn b p

/-- The unit by which an outstanding POOL_RELEASE is known. -/
def poolUnit (p : PoolBuf) : Nat := 2 * p.off + p.die

/-- Buffers whose deferred release comes due return to the pool (R254). -/
def poolSweep (s : State) : State :=
  let gone (p : PoolBuf) : Bool := p.released && !s.poolShown p && !s.poolLeaving p
  let back := s.pool.filter gone
  let s := { s with pool := s.pool.filter fun p => !gone p }
  s.each back fun s p => s.each (s.outstanding.filter fun o => o.opcode == 0x0806 && o.unit == poolUnit p) fun s o => s.finish o 0 []

/-- A base is retired (R253, R254): LAYER_RETIRED. The layer no longer holds it. -/
def retireBase (s : State) (d l : Nat) (b : OvlBase) (notShown : Bool) : State :=
  let back := s.pool.any fun p => p.die == d && p.released && baseIn b p && !s.poolShown p && !s.poolLeaving p
  s.poolSweep.raise d 161 (l + 4 * b.src + 8 * b2n notShown + 16 * b2n back + 2 ^ 16 * b.tag)

/-- One layer at a VBLANK_START (R253, R255): retirement, latching, the fetch fault of the frame before. -/
def latchLayer (s : State) (d l : Nat) : State :=
  let x := s.layerOf d l
  let s := s.on x.faulted fun s => (s.wr F.SCN_OVL_CTRL.EN [d, l] 0).flag F.SCN_OVL_CTRL.FAULT [d, l]
  let s := s.wr I.ovlAct [d, l] (s.rd F.SCN_OVL_CTRL.EN [d, l])
  let latches := x.pending.isSome
  let dropped := if latches then x.replaced else []
  let y : Layer := if latches then ⟨x.pending, none, x.shown, [], false⟩ else { x with retiring := none, faulted := false }
  let s := s.setLayer d l y
  let s := match x.retiring with
    | some b => s.retireBase d l b false
    | none => s
  s.each dropped fun s b => s.retireBase d l b true

/-- A fetch of a host-memory overlay fails (R255). -/
def fetchFault (s : State) (d l : Nat) (timeout : Bool) : State :=
  if !s.isSet F.SCN_STATUS.RUNNING [d] || !s.isSet I.ovlAct [d, l] || (s.layerOf d l).faulted
      || !((s.layerOf d l).shown.map fun b => b.src == 0).getD false then s
  else
    let frame := s.rd F.SCN_FRAME.FRAME [d]
    ((s.setLayer d l { s.layerOf d l with faulted := true }).wr F.SCN_FAULT_FRAME.FRAME [d, l] frame).raise d 162
      (l + 4 * b2n timeout + 2 ^ 8 * (frame % 2 ^ 24))

/-- A line is scanned before its overlay data arrives (R256). -/
def underrun (s : State) (d l : Nat) : State :=
  if !s.isSet F.SCN_STATUS.RUNNING [d] || !s.isSet I.ovlAct [d, l] then s
  else (s.count F.SCN_UNDERRUN_COUNT.COUNT [d] 1).stick F.SCN_STATUS.UNDERRUN_STICKY [d] d 166 l

-- The frame (R241, R244 to R246, R258, R259) -----------------------------------------------------------------------------------

/-- SCN_TIM_CTRL.APPLY (R244). -/
def applyTiming (s : State) : State :=
  let t := s.shadowTiming
  let ovl (d l : Nat) : Bool := !s.isSet F.SCN_OVL_CTRL.EN [d, l]
    || ((s.layerOf d l).shown.toList ++ (s.layerOf d l).pending.toList).all fun b => decide (t.hactive ≤ b.stride)
  let link (d : Nat) : Bool := 24 * t.khz ≤ linkPayload (s.rd F.SCN_LINK_CFG.RATE [d]) (s.rd F.SCN_LINK_CFG.LANES [d])
  let k := if t.invalid then 0x0190
    else if !([0, 1, 2, 3].all fun g => (s.window g).fits t) || !([0, 1].all fun d => [0, 1, 2].all (ovl d)) || !spliceFits s.window t then 0x0191
    else if !(link 0 && link 1) then 0x0192 else 0
  let s := s.wr F.SCN_TIM_CTRL.RESULT [] k
  if k ≠ 0 then s
  else
    let s := (([t.h, t.hs, t.v, t.vs, t.khz].zipIdx).foldl (fun s p => s.wr I.timPend [p.2] p.1) s)
    s.each [0, 1] fun s d => s.wr F.SCN_STATUS.APPLY_PENDING [d] 1

/-- A pending timing takes effect (R244, R245). -/
def latchTiming (s : State) : State :=
  if !s.isSet F.SCN_STATUS.APPLY_PENDING [s.control] then s
  else
    let clock := s.rd I.timPend [4] != s.rd I.timAct [4]
    let s := s.each [0, 1, 2, 3, 4] fun s k => s.wr I.timAct [k] (s.rd I.timPend [k])
    s.each [0, 1] fun s d =>
      let s := ((s.wr F.SCN_STATUS.APPLY_PENDING [d] 0).wr I.frwHold [d] 2).raise d 163 0
      s.on clock fun s => s.wr I.scnRetrain [d] 1

/-- An output's black state at a VBLANK_START (R241, R243, R245). -/
def latchBlack (s : State) (d : Nat) : State :=
  if s.isSet I.scnRetrain [d] then ((s.wr I.scnRetrain [d] 0).wr F.SCN_STATUS.BLACK [d] 1).setLink d 1 false
  else if s.isSet I.scnFirst [] || !s.isSet F.SCN_STATUS.BLACK [d] then s
  else if s.rd F.SCN_STATUS.LINK [d] = 2 then
    (s.wr F.SCN_STATUS.BLACK [d] 0).raise d 163 (1 + 2 * s.rd F.SCN_STATUS.RETRAIN_SLOW [d])
  else s.flag F.SCN_STATUS.RETRAIN_SLOW [d]

/-- Outputs blanked by AUX resume at the first frame after re-lock and link training (R65). -/
def latchBlanked (s : State) (d : Nat) : State :=
  s.on (s.isSet F.AUX_STATUS.BLANKED [d] && s.isSet F.AUX_STATUS.LOCKED [d] && s.rd F.SCN_STATUS.LINK [d] == 2) fun s =>
    (s.wr F.AUX_STATUS.BLANKED [d] 0).raise d 33 0

/-- A table takes the values of another. -/
def latchTable (s : State) (from_ into : Fld) : State :=
  let s := { s with regs := s.regs.filter fun e => e.1.reg != into.reg }
  s.each (s.regs.filter fun e => e.1.reg == from_.reg) fun s e => s.wr into e.1.ix e.2

/-- One trace window latches, if it fits (R248). -/
def latchWindow (s : State) (g : Nat) : State :=
  let w := s.newWindow g
  if w = s.window g then s
  else if w.fits s.timing && spliceFits (fun k => if k = g then w else s.window k) s.timing then
    ((s.wr I.wfAct [g, 0] w.cfg).wr I.wfAct [g, 1] w.pos).wr I.wfAct [g, 2] w.size
  else s.each [0, 1] fun s d => s.stick F.SCN_STATUS.WIN_REJECT [d] d 167 (1 + 2 ^ 4 * g)

/-- The mirrored settings latch (R246). -/
def latchMirrored (s : State) : State :=
  let s := s.each [0, 1, 2, 3] latchWindow
  let s := s.wr I.ctlAct [] (s.rd F.SCN_CTRL.ENABLE [] + 2 * s.rd F.SCN_CTRL.FRAME_EVT_EN [] + 4 * s.rd F.SCN_CTRL.LAYER_ORDER [])
  let s := s.wr I.bgAct [] (s.rd F.SCN_BG.RGB [])
  let s := (s.wr I.curAct [0] (s.rd F.SCN_CUR_POS.X [] + 2 ^ 16 * s.rd F.SCN_CUR_POS.Y [])).wr I.curAct [1]
    (s.rd F.SCN_CUR_CTRL.EN [] + 2 * s.rd F.SCN_CUR_CTRL.PAL [])
  ((s.latchTable F.SCN_CURVE.INDEX I.curveAct).latchTable F.SCN_PALETTE.RGB I.palAct).latchTable F.SCN_CURSOR.WORD I.imageAct

/-- The frame that begins suspends Frost watch (R259). -/
def frwSuspends (s : State) (d : Nat) : Bool :=
  s.isSet I.frwHold [d] || s.isSet F.SCN_STATUS.BLACK [d] || s.isSet F.AUX_STATUS.BLANKED [d] || s.rd F.SCN_STATUS.LINK [d] != 2

/-- A window of channel g reaches output d. -/
def reaches (s : State) (d g : Nat) : Bool :=
  let w := s.window g
  let t := s.timing
  w.en && (if d = 0 then w.x < t.hactive else t.hactive < w.x + w.w)

/-- Frost watch of an output at a VBLANK_START (R258, R259); `sig` is the signature of the frame that ended. -/
def frostWatch (s : State) (d sig : Nat) : State :=
  let frame := (s.rd F.SCN_FRAME.FRAME [d] + 2 ^ 32 - 1) % 2 ^ 32
  let gs := [0, 1, 2, 3].filter (s.reaches d)
  let advanced := gs.any fun g => s.rd F.ACC_HIST_ACQ.COUNT [g / 2, g % 2] != s.rd I.frwHist [d, g]
  let same := sig == s.rd F.FRW_CRC.CRC [d]
  let suspended := s.isSet F.FRW_STATUS.SUSPENDED [d] || s.frwSuspends d
  let run := if suspended then 0 else if !same then 0 else if advanced then s.rd F.FRW_STATUS.RUN [d] + 1 else s.rd F.FRW_STATUS.RUN [d]
  let frost := run != 0 && s.rd F.FRW_CTRL.N [d] ≤ run
  let s := s.each [0, 1, 2, 3] fun s g => s.wr I.frwHist [d, g] (s.rd F.ACC_HIST_ACQ.COUNT [g / 2, g % 2])
  let s := ((s.wr F.FRW_CRC.CRC [d] sig).wr F.FRW_STATUS.RUN [d] (if frost then 0 else run)).wrBool F.FRW_STATUS.SUSPENDED [d] (s.frwSuspends d)
  s.on frost fun s => s.stick F.FRW_STATUS.FROST [d] d 165 (2 ^ 8 * (frame % 2 ^ 24))

/-- A frame begins on both outputs (R241, R245, R246, R253, R258). -/
def vblankStart (s : State) : State :=
  if !s.isSet F.SCN_STATUS.RUNNING [s.control] then s
  else
    let sig (d : Nat) : Nat := if s.isSet F.FRW_CTRL.EN [d] && !s.isSet I.scnFirst [] then s.signature d else s.rd F.FRW_CRC.CRC [d]
    let sigs := [sig 0, sig 1]
    let s := s.each [0, 1] fun s d => s.inc F.SCN_FRAME.FRAME [d]
    let s := s.latchTiming
    let s := s.each [0, 1] fun s d => (s.latchBlack d).latchBlanked d
    let s := (s.wr I.scnFirst [] 0).latchMirrored
    let s := s.each [0, 1] fun s d => s.each [0, 1, 2] fun s l => s.latchLayer d l
    let s := s.each [0, 1] fun s d => s.on (bitAt (s.rd I.ctlAct []) 1) fun s => s.raise d 160 (s.rd F.SCN_FRAME.FRAME [d])
    let s := s.each [0, 1] fun s d => s.each [0, 1] fun s c =>
      s.on (s.accState d c != 0 && !s.isSet F.ACC_DECAY.DECAY_SRC [d, c]) fun s => s.incSat I.accFrames [d, c]
    let s := s.each [0, 1] fun s d =>
      (s.on (s.isSet F.FRW_CTRL.EN [d]) fun s => s.frostWatch d (sigs.getD d 0)).wr I.frwHold [d] (s.rd I.frwHold [d] - 1)
    s.readFar.syncScan

-- Register writes --------------------------------------------------------------------------------------------------------------

/-- SCN_CTRL (R241, R247): a LAYER_ORDER that is not a permutation is ignored. -/
def writeScnCtrl (v : Nat) (s : State) : State :=
  let order := slice v 2 8
  let codes := (List.range 4).map fun i => slice order (2 * i) 2
  let perm := [0, 1, 2, 3].all fun k => codes.contains k
  let s := (s.wr F.SCN_CTRL.ENABLE [] (slice v 0 1)).wr F.SCN_CTRL.FRAME_EVT_EN [] (slice v 1 1)
  let s := if perm then s.wr F.SCN_CTRL.LAYER_ORDER [] order else s.each [0, 1] fun s d => s.stick F.SCN_STATUS.CFG_REJECT [d] d 167 0
  s.syncScan

/-- The hot-plug level of an output changes (R243). -/
def hpdChange (s : State) (d : Nat) (level : Bool) : State :=
  if s.isSet F.SCN_STATUS.HPD [d] = level then s
  else (s.wrBool F.SCN_STATUS.HPD [d] level).raise d 164 (s.rd F.SCN_STATUS.LINK [d] + 4 * b2n level)

/-- An HPD IRQ pulse (R243): the link is retrained at the next frame if it has lost lock. -/
def hpdIrq (s : State) (d : Nat) (lost : Bool) : State :=
  let s := s.raise d 164 (s.rd F.SCN_STATUS.LINK [d] + 4 * s.rd F.SCN_STATUS.HPD [d] + 16)
  s.on (lost && s.isSet F.SCN_STATUS.RUNNING [d]) fun s => s.wr I.scnRetrain [d] 1

end State

end Sys2Proof.Machine
end

