-- ==== Sys2Proof/Machine/CardOps.lean ====
section
/-!
DEFINITION. What Carding and Combing compute from codes: usable blocks, the four tests of an interval, the error statistics of each slice,
straight-line fits and edge responses (R94 to R98, R106, R110, R111).
-/

namespace Sys2Proof.Machine

/-- A sample of the usable stream with its neighbours: its position, the sample before it where that is usable too, its own code and the
sample after it. -/
structure Triple where
  pos : Nat
  left : Option Int
  mid : Int
  right : Option Int
  deriving DecidableEq, Repr

/-- The samples of a run of blocks in order; the first and the last sample of a block have a neighbour in an adjoining block only. -/
def triplesFrom : Option (Nat × Int) → List CodeBlock → List Triple
  | _, [] => []
  | prev, b :: rest =>
    let before := prev.bind fun e => if e.1 + 1 = b.n then some e.2 else none
    let after := match rest with
      | r :: _ => if r.n = b.n + 1 then r.codes.head? else none
      | [] => none
    (List.range b.codes.length).map (fun p =>
      ⟨p, if p = 0 then before else b.codes[p - 1]?, b.codes.getD p 0, if p + 1 < b.codes.length then b.codes[p + 1]? else after⟩)
      ++ triplesFrom (b.codes.getLast?.map fun v => (b.n, v)) rest

/-- The samples of a list of blocks. -/
def triples (bs : List CodeBlock) : List Triple := triplesFrom none bs

/-- The mean of a list; 0 of an empty one. -/
def mean (l : List Rat) : Rat := l.sum / l.length

/-- The population variance of a list. -/
def variance (l : List Rat) : Rat := mean (l.map fun x => (x - mean l) * (x - mean l))

/-- The 64 bins of the coherence test (R97): every crossing of the mean, by the position of the first sample after it. -/
def crossingBins (len : Nat) (ts : List Triple) : List Nat :=
  let m := mean (ts.map fun t => (t.mid : Rat))
  let bins := ts.filterMap fun t => t.right.bind fun r =>
    if decide ((t.mid : Rat) < m) = decide ((r : Rat) < m) then none else some ((t.pos + 1) % len / (len / 64))
  (List.range 64).map fun k => (bins.filter (· == k)).length

/-- What one slice gives: its codes, each with its neighbours. -/
def sliceCodes (ts : List Triple) : List Rat := ts.map fun t => (t.mid : Rat)

/-- Mean product of deviations from a mean of two neighbours. -/
def corr (m : Rat) (l : List (Option Int × Option Int)) : Rat :=
  mean (l.filterMap fun e => match e with
    | (some a, some b) => some (((a : Rat) - m) * ((b : Rat) - m))
    | _ => none)

/-- Power of the high-band component, the sample minus the mean of its two neighbours, over the variance of the samples (R98). -/
def highRatio (ts : List Triple) : Rat :=
  mean (ts.filterMap fun t => match t.left, t.right with
    | some a, some b => some (((t.mid : Rat) - ((a : Rat) + b) / 2) * ((t.mid : Rat) - ((a : Rat) + b) / 2))
    | _, _ => none) / variance (sliceCodes ts)

/-- The error statistics of a slice (R98) from its samples: `all` are the channel's samples by phase. Units: 1/16 LSB, 0.01%, fs, 0.01%; skew is
still to be divided by the channel's mean slope statistic, which the manual does not define. -/
def sliceErrs (all : List (List Triple)) (ts : List Triple) : List Rat :=
  let m := mean (all.flatten.map fun t => (t.mid : Rat))
  let v := mean (all.map fun l => variance (sliceCodes l))
  [16 * (mean (sliceCodes ts) - m), 5000 * (variance (sliceCodes ts) / v - 1),
    corr m (ts.map fun t => (some t.mid, t.right)) - corr m (ts.map fun t => (t.left, some t.mid)),
    10000 * (highRatio ts - mean (all.map highRatio))]

namespace State

/-- The ticks of a block of die d on the sample clock. -/
def blockTicks (s : State) (d n : Nat) : Nat × Nat := (s.instOf d (n * clkBlock) / 4096, s.instOf d ((n + 1) * clkBlock) / 4096 - 1)

/-- A block of codes is usable by Carding (R94). -/
def usable (s : State) (d c : Nat) (b : CodeBlock) : Bool :=
  let t := s.blockTicks d b.n
  !s.spanMeets .overload d c t.1 t.2 && !s.spanMeets .calibration d c t.1 t.2 && !s.spanMeets .test d c t.1 t.2 && !s.spanMeets .unlocked d 0 t.1 t.2
    && b.codes.all fun v => v != -512 && v != 511

/-- A block with the stage 4 codes in place of those of stage 3 (R91). -/
def trimBlock (s : State) (d c : Nat) (b : CodeBlock) : CodeBlock :=
  { b with
    codes := s.stage4 d c 0 b.codes
    shadow := b.shadow.map fun e => (e.1, e.2.1, s.trimmed d e.1 (17 * e.2.1 + 16) e.2.2) }

/-- The usable blocks of an interval, at stage 4. -/
def usableBlocks (s : State) (d c : Nat) (bs : List CodeBlock) : List CodeBlock := (bs.filter (s.usable d c)).map (s.trimBlock d c)

/-- The position that a lane's shadowed phase has in a channel's block (R77, R80). -/
def shadowPos (s : State) (d x g : Nat) : Nat :=
  let p := g / 4 + 2 * (g % 4) + 8 * s.rd F.CNV_SLICE_MAP.SPARE_PHASE [d, x, g]
  if s.paired then 2 * p + x else p

/-- The samples of a shadowing spare: its codes, with the neighbours of the phase it shadows (R106). -/
def shadowTriples (s : State) (d x g : Nat) (bs : List CodeBlock) : List Triple :=
  let p := s.shadowPos d x g
  let mine := bs.filterMap fun b => (b.shadow.find? fun e => e.1 == x && e.2.1 == g).map fun e => e.2.2
  (((triples bs).filter fun t => t.pos == p).zip mine).map fun e => { e.1 with mid := e.2 }

/-- The error statistics of every slice that serves a phase of the channel, and of every spare that shadows one (R98, R106). -/
def cardStats (s : State) (d c : Nat) (bs : List CodeBlock) : List CardErr :=
  let ts := triples bs
  let all := (List.range s.blockLen).map fun p => ts.filter fun t => t.pos == p
  (all.zipIdx.map fun e => let x := s.sliceAt d c e.2; ⟨d, x.1, x.2, sliceErrs all e.1⟩)
    ++ (if s.paired then [0, 1] else [c]).flatMap fun x =>
      ((List.range 8).filter fun g => s.rd F.CNV_SLICE_MAP.SPARE_STATE [d, x, g] == 1).map fun g =>
        ⟨d, x, 17 * g + 16, sliceErrs all (s.shadowTriples d x g bs)⟩

/-- The bands that are occupied (R96); how the power of the codes in a band is measured is left open. -/
def occupiedBands (s : State) (d c : Nat) (bs : List CodeBlock) : Nat :=
  let power := (List.range 16).map (Config.bandPower (bs.map (·.codes)))
  (power.filter fun p => power.sum ≤ p * 16 * 2 ^ s.rd F.CRD_SUFF.OCC_SHIFT [d, c]).length

/-- The coherence test passes (R97). -/
def coherent (s : State) (d c : Nat) (bs : List CodeBlock) : Bool :=
  let bins := crossingBins s.blockLen (triples bs)
  let r := s.rd F.CRD_SUFF.COH_RATIO [d, c]
  decide (4096 ≤ bins.sum) && bins.all fun b => decide (bins.sum ≤ 64 * b * r ∧ 64 * b ≤ bins.sum * r)

/-- The causes for which an interval of usable blocks is insufficient, LAST_CAUSE form (R95 to R97). -/
def cardCauses (s : State) (d c : Nat) (bs : List CodeBlock) : Nat :=
  b2n (decide (bs.length < 65536))
    + 2 * b2n (decide (variance ((bs.flatMap (·.codes)).map fun v => (v : Rat)) < (s.rd F.CRD_SUFF.VAR_FLOOR [d, c] : Nat)))
    + 4 * b2n (decide (s.occupiedBands d c bs < 8)) + 8 * b2n (!s.coherent d c bs)

end State

-- Combing (R84, R110, R111) -------------------------------------------------------------------------------------

/-- The level of a ladder setting, in units of 0.01 mV (R84). -/
def ladderLevel (sel : Nat) : Int := 3750 * sel - 28125

/-- The ideal code of a ladder setting at ATTEN 0 (R84): 64 code steps a level. -/
def ladderCode (sel : Nat) : Int := 64 * sel - 480

/-- The least-squares straight line through points: intercept and slope (R110); none where they do not determine it. -/
def lineFit (pts : List (Rat × Rat)) : Option (Rat × Rat) :=
  let mx := mean (pts.map (·.1))
  let my := mean (pts.map (·.2))
  let sxx := (pts.map fun p => (p.1 - mx) * (p.1 - mx)).sum
  let sxy := (pts.map fun p => (p.1 - mx) * (p.2 - my)).sum
  if sxx = 0 then none else some (my - sxy / sxx * mx, sxy / sxx)

/-- The launch of edge k of the EDGE phase, in 1/16 ticks from its start (R111): 2,177 ticks apart, 1/16 tick later after every 128 edges,
within one tick. -/
def edgeAt (k : Nat) : Nat := 16 * 2177 * k + k / 128 % 16

/-- Edges of the EDGE phase (R109). -/
def edgeCount : Nat := 262144

/-- The edge that lies nearest a time in 1/16 ticks. -/
def edgeNear (t : Nat) : Nat := min (edgeCount - 1) ((t + 16 * 2177 / 2) / (16 * 2177))

/-- The ladder setting after the edges launched by a tick of the EDGE phase: the ladder steps between 3 and 12 (R109). -/
def edgeLadder (tick : Nat) : Nat := if tick / 2177 % 2 = 0 then 12 else 3

/-- The equivalent-time samples of a slice that samples `p` sixteenths of a tick after the start of a block (R111): the time from the nearest
edge in 1/16 ticks, and the code, turned round for a falling edge. -/
def edgeSamples (p : Nat) (codes : List (Nat × Int)) : List (Int × Int) :=
  codes.map fun e =>
    let t := 16 * 128 * e.1 + p
    let k := edgeNear t
    ((t : Int) - edgeAt k, if k % 2 = 0 then e.2 else -e.2)

/-- The edge response: the mean code at each time that has samples, in ascending time. -/
def edgeResponse (l : List (Int × Int)) : List (Rat × Rat) :=
  ((l.map (·.1)).eraseDups.mergeSort fun a b => decide (a ≤ b)).map fun t =>
    ((t : Rat) / 16, mean ((l.filter fun e => e.1 == t).map fun e => (e.2 : Rat)))

/-- The first time at which a response crosses a level upwards, between samples by a straight line. -/
def crossAt (level : Rat) : List (Rat × Rat) → Option Rat
  | a :: b :: rest =>
    if a.2 < level ∧ level ≤ b.2 then some (a.1 + (b.1 - a.1) * (level - a.2) / (b.2 - a.2)) else crossAt level (b :: rest)
  | _ => none

/-- The 50% crossing and the 10–90% rise time of a response, in ticks (R111), between the ideal codes of settings 3 and 12. -/
def edgeTimes (r : List (Rat × Rat)) : Option (Rat × Rat) :=
  let swing : Rat := (ladderCode 12 - ladderCode 3 : Int)
  let at_ (x : Rat) : Option Rat := crossAt ((ladderCode 3 : Int) + x * swing) r
  match at_ (1 / 2), at_ (1 / 10), at_ (9 / 10) with
  | some m, some a, some b => some (m, b - a)
  | _, _, _ => none

/-- Rounding of a quotient to nearest, ties away from zero. -/
def roundRat (x : Rat) : Int := roundDiv x.num x.den

end Sys2Proof.Machine
end

