-- ==== Sys2Proof/Machine/MaintOps.lean ====
section
/-!
DEFINITION. Trims, Carding, Combing and the calibration store (R91 to R121, R404).
-/

namespace Sys2Proof.Machine

-- Unit codes (R392) -----------------------------------------------------------------------------------

/-- A unit code: kind, die, bit 9, lane or group, index. -/
def unitCode (kind d b9 lane index : Nat) : Nat := index + 32 * lane + 512 * b9 + 1024 * d + 2048 * kind

/-- Slice i = 17·g + s of channel c. -/
def sliceUnit (d c i : Nat) : Nat := unitCode 1 d c (i / 17) (i % 17)

/-- Kind of a unit code. -/
def unitKind (u : Nat) : Nat := slice u 11 4
/-- Die of a unit code. -/
def unitDie (u : Nat) : Nat := slice u 10 1
/-- Bit 9 of a unit code: channel, stack or direction. -/
def unitSide (u : Nat) : Nat := slice u 9 1
/-- Lane or group of a unit code. -/
def unitLane (u : Nat) : Nat := slice u 5 4
/-- Index of a unit code. -/
def unitIndex (u : Nat) : Nat := slice u 0 5

/-- Lane spare S16 of lane g: its slice index. -/
def spareOf (g : Nat) : Nat := 17 * g + 16

namespace State

-- Trims (R91 to R93) ----------------------------------------------------------------------------------

/-- The trim of a loop: 0 offset, 1 gain, 2 skew, 3 bandwidth (R98). -/
def trimField : Nat → Fld
  | 0 => F.CRD_TRIM.OFFSET | 1 => F.CRD_TRIM.GAIN | 2 => F.CRD_TRIM.SKEW | _ => F.CRD_TRIM.BW

/-- The greatest tap of a trim (R91). -/
def trimMax : Nat → Nat
  | 0 => 127 | 1 => 63 | 2 => 63 | _ => 15

/-- The channel whose ATTEN acts on an array: C0 for both in PAIRED mode (R76). -/
def attenChan (s : State) (c : Nat) : Nat := if s.paired then 0 else c

/-- The present ATTEN of an array. -/
def attenOf (s : State) (d c : Nat) : Nat := s.rd F.CNV_CTRL.ATTEN [d, s.attenChan c]

/-- A slice becomes a wear candidate (R93): why is 1 TIMEOUT, 2 EDGE, 4 SAT. -/
def wearCand (s : State) (d c i loop why : Nat) : State :=
  s.stick F.CRD_SLICE_STAT.WEAR_CAND [d, c, i] d 50 (c + 2 * i + 2 ^ 9 * loop + 2 ^ 16 * why)

/-- EDGE of a tap follows it: within 4 taps of either end of its range; a slice at an edge is a wear candidate (R93). -/
def syncEdge (s : State) (d c i loop : Nat) : State :=
  let t := s.rd (trimField loop) [d, c, i]
  let edge := decide (t ≤ 4) || decide (trimMax loop ≤ t + 4)
  let was := bitAt (s.rd F.CRD_SLICE_STAT.EDGE [d, c, i]) loop
  let s := s.wr F.CRD_SLICE_STAT.EDGE [d, c, i] (putBit (s.rd F.CRD_SLICE_STAT.EDGE [d, c, i]) loop edge)
  s.on (edge && !was) fun s => (s.wr I.edgeSince [d, c, i, loop] (s.rd I.ovenOn [])).wearCand d c i loop 2

/-- A trim stays at the end of its range: SAT, and the slice is a wear candidate (R93). -/
def tapSat (s : State) (d c i loop : Nat) : State :=
  (s.wr F.CRD_SLICE_STAT.SAT [d, c, i] (setBit (s.rd F.CRD_SLICE_STAT.SAT [d, c, i]) loop)).wearCand d c i loop 4

/-- A value clamped to the range of a trim. -/
def clampTap (loop : Nat) (v : Int) : Nat := (max 0 (min (trimMax loop : Int) v)).toNat

/-- A value lies outside the range of a trim. -/
def outOfRange (loop : Nat) (v : Int) : Bool := decide (v < 0) || decide ((trimMax loop : Int) < v)

/-- A tap takes a value, clamped to its range with SAT (R93); EDGE follows the tap. -/
def setTap (s : State) (d c i loop : Nat) (v : Int) : State :=
  let s := s.wr (trimField loop) [d, c, i] (clampTap loop v)
  let s := s.on (loop == 1) fun s => s.wr I.gainTap [d, c, i, s.attenOf d c] (clampTap loop v)
  (s.syncEdge d c i loop).on (outOfRange loop v) fun s => s.tapSat d c i loop

/-- The GAIN taps shown and their EDGE bits are those of the present ATTEN (R92, R93). -/
def showGain (s : State) (d c : Nat) : State :=
  s.each (List.range 136) fun s i => (s.wr F.CRD_TRIM.GAIN [d, c, i] (s.rd I.gainTap [d, c, i, s.attenOf d c])).syncEdge d c i 1

/-- The trims of a channel have been loaded: what CRD_TRIM and CRD_SLICE_STAT show follows (R92, R93). -/
def showTrims (s : State) (d c : Nat) : State :=
  (s.showGain d c).each (List.range 136) fun s i => s.each [0, 2, 3] fun s n => s.syncEdge d c i n

/-- TIMEOUT_ANY and SAT_ANY follow the slices (CRD_STATUS). -/
def syncCardAny (s : State) (d c : Nat) : State :=
  (s.wrBool F.CRD_STATUS.TIMEOUT_ANY [d, c] (anyBelow 136 fun i => s.isSet F.CRD_SLICE_STAT.TMO [d, c, i])).wrBool
    F.CRD_STATUS.SAT_ANY [d, c] (anyBelow 136 fun i => s.isSet F.CRD_SLICE_STAT.SAT [d, c, i])

-- Carding (R94 to R107) -------------------------------------------------------------------------------

/-- STATE of Carding. -/
def cardState (s : State) (d c : Nat) : Nat := s.rd F.CRD_STATUS.STATE [d, c]

/-- Carding of the channel may run (R107). -/
def cardAllowed (s : State) (d c : Nat) : Bool :=
  s.isSet F.CRD_CTRL.ENABLE [d, c] && s.isSet F.CNV_STATUS.AVAILABLE [d, c] && !(s.paired && c == 1)
    && match s.mode with
      | .ready => true | .quad => true | .paired => true
      | .service => slice (s.rd I.testDom [d]) (8 + 8 * c) 8 == 255 && bitAt (s.rd I.testDom [d]) (24 + c)
      | _ => false

/-- A field of every slice of a channel loses what it holds. -/
def dropSlices (s : State) (f : Fld) (d c : Nat) : State :=
  { s with regs := s.regs.filter fun e => !(e.1.reg == f.reg && e.1.lo == f.lo && e.1.ix.take 2 == [d, c]) }

/-- Every loop of the channel restarts SEEKING with count 0 (R100, R107, R112). -/
def restartLoops (s : State) (d c : Nat) : State :=
  s.each (s.arraysOf c) fun s x => (s.dropSlices F.CRD_SLICE_STAT.CONV d x).dropSlices I.loopUs d x

/-- STARVED clears, with its event (R102). -/
def clearStarved (s : State) (d c : Nat) : State :=
  s.on (s.isSet F.CRD_STATUS.STARVED [d, c]) fun s => (s.wr F.CRD_STATUS.STARVED [d, c] 0).raise d 49 c

/-- Carding starts (R102, R107). -/
def cardStart (s : State) (d c : Nat) : State :=
  let s := ((s.restartLoops d c).wr I.starveAt [d, c] (dtAdd (s.blkOf d) (s.rd I.starveLeft [d, c]))).beginInterval d c
  let s := s.wr F.CRD_STATUS.STATE [d, c] 1
  s.on (s.isSet I.cardSuspended [d, c]) fun s => s.suspendCard d c

/-- Carding enters OFF (R107). DESIGN CHOICE (log entry 152): a clearing of STARVED raises CARD_STARVED here too (R102). -/
def cardOff (s : State) (d c : Nat) : State :=
  let run := s.cardState d c != 3
  let s := s.on run fun s => s.wr I.starveLeft [d, c] (dtSub (s.rd I.starveAt [d, c]) (s.blkOf d))
  ((s.wr F.CRD_STATUS.STATE [d, c] 0).clearStarved d c).cardDrop d c

/-- Carding of every channel follows its condition (R107). -/
def syncCard (s : State) : State :=
  s.each [0, 1] fun s d => s.each [0, 1] fun s c =>
    if s.cardAllowed d c then s.on (s.cardState d c == 0) fun s => s.cardStart d c
    else s.on (s.cardState d c != 0) fun s => s.cardOff d c

/-- Core cycle `k` after the end of the interval under way has come (R103). -/
def cardCycle (s : State) (d c k : Nat) : Bool := s.elapsed (s.rd I.cardAt [d, c]) (1250 * s.rd I.cardInt [d, c] + k)

/-- Cycle 32 after an interval, with the codes of its blocks (R95, R103): sufficiency, LAST_CAUSE, OCC_BANDS and the counts. -/
def closeInterval (s : State) (d c : Nat) (blocks : List CodeBlock) : State :=
  if s.cardState d c ≠ 1 ∨ s.isSet I.cardSuff [d, c] ∨ !s.cardCycle d c 32 then s
  else
    let bs := s.usableBlocks d c blocks
    let causes := s.cardCauses d c bs
    let errs := if causes = 0 then s.cardStats d c bs else []
    let s := s.wr F.CRD_STATUS.OCC_BANDS [d, c] (s.occupiedBands d c bs)
    let s := { s with cardErrs := (s.cardErrs.filter fun (e : CardErr) => !(e.die == d && (s.arraysOf c).contains e.chan)) ++ errs }
    if causes = 0 then (s.wr I.cardSuff [d, c] 1).count F.CRD_SUFF_COUNT.COUNT [d, c] 1
    else ((s.wr I.cardSuff [d, c] 2).wr F.CRD_STATUS.LAST_CAUSE [d, c] causes).count F.CRD_INSUFF_COUNT.COUNT [d, c] 1

/-- SPARE_STATE of a lane's spare: 0 IDLE, 1 SHADOW, 2 SUBSTITUTED, 3 FAILED. -/
def spareState (s : State) (d c g : Nat) : Nat := s.rd F.CNV_SLICE_MAP.SPARE_STATE [d, c, g]

/-- Carding trains the slice (R106): an active slice in service, or a spare in SHADOW or SUBSTITUTED. -/
def trained (s : State) (d c i : Nat) : Bool :=
  let g := i / 17
  if i % 17 = 16 then s.spareState d c g == 1 || s.spareState d c g == 2
  else !(s.spareState d c g == 2 && s.rd F.CNV_SLICE_MAP.SPARE_PHASE [d, c, g] == i % 17)

/-- Tolerance of a loop (CRD_TOL). -/
def tolerance (s : State) (d c loop : Nat) : Nat :=
  s.rd (match loop with | 0 => F.CRD_TOL.OFS_TOL | 1 => F.CRD_TOL.GAIN_TOL | 2 => F.CRD_TOL.SKEW_TOL | _ => F.CRD_TOL.BW_TOL) [d, c]

/-- A loop does not converge: its count, its timeout, and its tap is to move (R99, R100, R103). `fresh`: it was CONVERGED until now. -/
def loopSeeks (s : State) (d c x i loop : Nat) (fresh : Bool) (up : Bool) : State :=
  let n := if fresh then 0 else s.rd I.loopUs [d, x, i, loop] + s.rd I.cardInt [d, c]
  let out := s.rd F.CRD_TIMEOUT.TIMEOUT [d, c] * 1000 ≤ n
  let s := s.wr F.CRD_SLICE_STAT.CONV [d, x, i] (clrBit (s.rd F.CRD_SLICE_STAT.CONV [d, x, i]) loop)
  let s := s.wr I.loopUs [d, x, i, loop] (if out then 0 else n)
  let s := s.on out fun s =>
    let s := s.wr F.CRD_SLICE_STAT.TMO [d, x, i] (setBit (s.rd F.CRD_SLICE_STAT.TMO [d, x, i]) loop)
    let s := s.wr I.tmoAt [d, x, i, s.rd I.sliceTmo [d, x, i] % 16] (s.rd I.ovenOn [])
    ((s.incSat I.sliceTmo [d, x, i]).raise d 48 (x + 2 * i + 2 ^ 9 * loop)).wearCand d x i loop 1
  { s with tapMoves := s.tapMoves ++ [⟨d, x, i, loop, up⟩] }

/-- A loop converges (R99 to R101). -/
def loopConverges (s : State) (d c x i loop : Nat) : State :=
  let was := bitAt (s.rd F.CRD_SLICE_STAT.CONV [d, x, i]) loop
  let late := !was && s.rd F.CRD_TIMEOUT.TIMEOUT [d, c] * 1000 ≤ s.rd I.loopUs [d, x, i, loop] + s.rd I.cardInt [d, c]
  let s := s.wr F.CRD_SLICE_STAT.CONV [d, x, i] (setBit (s.rd F.CRD_SLICE_STAT.CONV [d, x, i]) loop)
  let s := s.wr F.CRD_SLICE_STAT.TMO [d, x, i] (clrBit (s.rd F.CRD_SLICE_STAT.TMO [d, x, i]) loop)
  s.on late fun s => s.flag F.CRD_SLICE_STAT.LATE_ARRIVAL [d, x, i]

/-- One loop of a slice at the end of a sufficient interval (R98, R99): a positive statistic moves the tap down. -/
def loopStep (s : State) (d c x i loop : Nat) (e : Rat) : State :=
  if !bitAt (s.rd F.CRD_CTRL.LOOP_EN [d, c]) loop then s
  else if -(s.tolerance d c loop : Nat) ≤ e ∧ e ≤ (s.tolerance d c loop : Nat) then s.loopConverges d c x i loop
  else s.loopSeeks d c x i loop (bitAt (s.rd F.CRD_SLICE_STAT.CONV [d, x, i]) loop) (decide (e < 0))

/-- The four loops of a slice, in order. -/
def sliceStep (s : State) (d c : Nat) (e : CardErr) : State :=
  if !s.trained d e.chan e.i || !(s.arraysOf c).contains e.chan then s
  else s.each e.errs.zipIdx fun s p => s.on (p.2 < 4) fun s => s.loopStep d c e.chan e.i p.2 p.1

/-- The claim of a Carding update (R104, R404); in PAIRED mode both arrays' trims are moved. -/
def cardClaim (s : State) (d c : Nat) : Claim := ⟨.cardUpdate d c, 7, d, s.arraysOf c⟩

/-- The interval is discarded after its counts were updated: they are taken back (R104). DESIGN CHOICE (log entry 42): LAST_CAUSE
and OCC_BANDS stay. -/
def discardInterval (s : State) (d c : Nat) : State :=
  let f := if s.rd I.cardSuff [d, c] = 1 then F.CRD_SUFF_COUNT.COUNT else F.CRD_INSUFF_COUNT.COUNT
  (s.wr f [d, c] (s.rd f [d, c] - 1)).cardDrop d c

/-- Ticks since the end of the interval under way. -/
def sinceInterval (s : State) (d c : Nat) : Nat := s.now - (s.rd I.cardAt [d, c] + 160000 * s.rd I.cardInt [d, c])

/-- What a sufficient interval does in cycle 64 (R99 to R103): the loops, and the end of starvation, whose 10 s count from the interval's
end. -/
def cardUpdate (s : State) (d c slope : Nat) : State :=
  let s := s.each (s.cardErrs.filter fun e => e.die == d) fun s e => s.sliceStep d c (e.over slope)
  let s := s.each (s.arraysOf c) fun s x => s.syncCardAny d x
  (s.clearStarved d c).wr I.starveAt [d, c] (dtAdd (dtSub (s.blkOf d) (s.sinceInterval d c)) (10 * oneSecond))

/-- Cycle 128 (R103): the taps move, the claim ends, and the next interval begins. -/
def cardMoves (s : State) (d c : Nat) : State :=
  if s.rd I.cardSuff [d, c] ≠ 3 ∨ s.cardState d c ≠ 1 ∨ !s.cardCycle d c 128 then s
  else
    let s := s.each (s.tapMoves.filter fun m => m.die == d && (s.arraysOf c).contains m.chan) fun s m =>
      s.setTap d m.chan m.i m.loop ((s.rd (trimField m.loop) [d, m.chan, m.i] : Int) + (if m.up then 1 else -1))
    let s := s.each (s.arraysOf c) fun s x => s.syncCardAny d x
    (s.cardDrop d c).beginInterval d c

-- The calibration store (R114 to R120) ------------------------------------------------------------------

/-- A new write must wait (R117, R371). -/
def storeHeld (s : State) : Bool :=
  s.isSet F.CRD_STORE_STATUS.BUSY []
    || (s.isSet I.storeCommitted [] && !s.elapsed (s.rd I.storeCommitAt []) (60 * 1250000000))
    || s.mode == .vigil || (s.isSet F.PWR_MODE.TRANSITION [s.control] && s.rd F.PWR_MODE.TARGET [s.control] == 1)

/-- The slot that the next write takes: the one that does not hold the active image (R116). -/
def storeTarget (s : State) : Nat := if s.rd I.storeSlot [] = 0 then 1 else 0

/-- A write starts (R116): the snapshot, the slot erased, header and payload programmed. -/
def storeStart (s : State) : State :=
  let base := slotBase s.storeTarget
  let body := s.storeBody
  let s := { s with
    snapshot := body
    outstanding := s.outstanding.map fun (o : Outstanding) => if o.opcode = 0x0303 ∧ !o.deferred then { o with unit := 1 } else o }
  let s := (s.flashErase base 0x100000).flashProgram base body
  (s.wr F.CRD_STORE_STATUS.BUSY [] 1).wr F.CRD_STORE_STATUS.PENDING [] 0

/-- An admitted request: a write starts, or waits (R117). -/
def storeGo (s : State) : State :=
  if s.storeHeld || s.waits .storeWrite then s.wr F.CRD_STORE_STATUS.PENDING [] 1
  else
    let s := s.claim ⟨.storeWrite, 4, s.control, [8]⟩
    s.on (s.runs .storeWrite) fun s => s.storeStart

/-- A store write request (R117): a pending write serves it; else Harvest decides. -/
def storeRequest (s : State) (fw : Bool) (cmd : Option (MbxHdr × Nat)) : State × Verdict :=
  if s.isSet F.CRD_STORE_STATUS.PENDING [] then (s, ⟨0, false⟩)
  else
    let r := s.harvest s.control [0, 1] (fun _ => 0) (s.cost 13) .storeWrite fw cmd
    match r.2 with
    | .granted => (r.1.storeGo, ⟨0, false⟩)
    | .derated => (r.1.storeGo, ⟨0, true⟩)
    | .deferred => (r.1, ⟨2, false⟩)
    | .refused k => (r.1, ⟨k, false⟩)

/-- A firmware request (R117). -/
def storeAsk (s : State) : State := (s.storeRequest true none).1

/-- The write goes on and ends (R116): the CRC-32 is programmed, the slot read back, and the commit word programmed; `ok` if nothing
failed and the slot read back equal. -/
def storeEnd (s : State) (ok : Bool) : State :=
  let slot := s.storeTarget
  let gen := if s.rd I.storeSlot [] = 2 then 1 else s.rd F.CRD_STORE_GEN.GEN [] + 1
  let s := (s.wr F.CRD_STORE_STATUS.BUSY [] 0).release .storeWrite
  let s := s.flashProgram (slotBase slot + s.snapshot.length) (le 4 (crcBytes s.snapshot))
  let s := if ok then
      let s := s.flashProgram (slotBase slot + 0xFFFF0) (commitWord gen)
      (((s.wr I.storeSlot [] slot).wr F.CRD_STORE_GEN.GEN [] gen).wr I.storeCommitted [] 1).wr I.storeCommitAt [] s.now
    else s.flag F.CRD_STORE_STATUS.WRITE_FAIL []
  let s := s.raisePkg 52 (slot + 2 * b2n (!ok) + 2 ^ 16 * (s.rd F.CRD_STORE_GEN.GEN [] % 2 ^ 16))
  s.finishUnit 0x0303 1 (if ok then 0 else 0x0206) (if ok then le 4 gen else [])

-- Combing (R108 to R113) --------------------------------------------------------------------------------

/-- STATE of Combing. -/
def combState (s : State) (d c : Nat) : Nat := s.rd F.CRD_COMB_STATUS.STATE [d, c]

/-- Result of a start command, but for the admission (R108). -/
def combCheck (s : State) (d c : Nat) (test allow : Bool) : Nat :=
  if !(s.mode == .ready || s.mode == .quad || s.mode == .paired || s.mode == .service) then 0x0213
  else if s.mode == .service && !test then 0x0201
  else if !s.isSet F.CNV_STATUS.AVAILABLE [d, c] || (s.paired && c == 1) then 0x0213
  else if s.combState d c ≠ 0 then 0x0214
  else if s.armed d c && !allow then 0x0212
  else if s.isSet F.CNV_STATUS.OVLD_EPISODE [d, c] then 0x0210
  else 0

/-- The claim of a Combing run (R404). -/
def combClaim (s : State) (d c : Nat) : Claim := ⟨.comb d c, 2, d, s.arraysOf c ++ (s.arraysOf c).map (· + 2)⟩

/-- CAL_SW changes, with its event (R83, R85). -/
def setCalSw (s : State) (d c v : Nat) : State :=
  if s.rd F.CNV_CTRL.CAL_SW [d, c] = v then s else (s.wr F.CNV_CTRL.CAL_SW [d, c] v).raise d 43 (c + 2 * v)

/-- Calibration blocks (CAL_ACTIVE), or test blocks (CAL_TEST), of an array begin with this block (R85). -/
def calBegins (s : State) (d c : Nat) (f : Fld) : State :=
  (s.wr f [d, c] 1).openSpan (if f = F.CNV_STATUS.CAL_TEST then .test else .calibration) d c (s.blkOf d)

/-- They end with this block (R85). -/
def calEnds (s : State) (d c : Nat) : State :=
  (((s.wr F.CNV_STATUS.CAL_ACTIVE [d, c] 0).wr F.CNV_STATUS.CAL_TEST [d, c] 0).closeSpan .calibration d c (s.nextBlk d)).closeSpan .test d c
    (s.nextBlk d)

/-- The last of the blocks of a service test, 32 cycles after its ladder opened (R85). -/
def calTail (s : State) (d c : Nat) : State :=
  s.on (s.isSet I.calOpen [d, c] && s.elapsed (s.rd I.calOpen [d, c] - 1) 32) fun s => (s.calEnds d c).wr I.calOpen [d, c] 0

/-- LADDER_SEL, shown in LEVEL. -/
def setLadder (s : State) (d c v : Nat) : State :=
  (s.each (s.arraysOf c) fun s x => s.wr F.CNV_CTRL.LADDER_SEL [d, x] v).wr F.CRD_COMB_STATUS.LEVEL [d, c] v

/-- What a run has measured is dropped. -/
def combDrop (s : State) (d c : Nat) : State :=
  { s with combFits := s.combFits.filter fun (f : CombFit) => !(f.die == d && (s.arraysOf c).contains f.chan) }

/-- The run ends with a result: CAL_SW opens, and the last calibration block is 32 cycles away (R112). -/
def combStop (s : State) (d c code : Nat) : State :=
  let s := s.each (s.arraysOf c) fun s x => s.setCalSw d x 0
  ((s.wr I.combEnding [d, c] 1).wr I.combCode [d, c] code).wr I.combOpen [d, c] s.now

/-- The claim is granted: cycle 0 of the run (R109, R112). -/
def combZero (s : State) (d c : Nat) : State :=
  let s := s.each (s.arraysOf c) fun s x => (s.calBegins d x F.CNV_STATUS.CAL_ACTIVE).setCalSw d x 1
  let s := (((s.wr F.CRD_COMB_STATUS.STATE [d, c] 2).setLadder d c 0).wr I.combAt [d, c] s.now).wr I.combEnding [d, c] 0
  s.on (s.isSet F.CNV_STATUS.OVLD_EPISODE [d, c]) fun s => s.combStop d c 0x0210

/-- A run is admitted: WAITING, until the arbiter grants it (R109). -/
def combGo (s : State) (d c : Nat) (store : Bool) : State :=
  let s := ((s.wr F.CRD_COMB_STATUS.STATE [d, c] 1).wrBool I.combStore [d, c] store).claim (s.combClaim d c)
  s.on (s.runs (.comb d c)) fun s => s.combZero d c

/-- A Combing start (R108). -/
def requestComb (s : State) (d c : Nat) (test allow store : Bool) (cmd : Option (MbxHdr × Nat)) : State × Verdict :=
  let k := s.combCheck d c test allow
  if k ≠ 0 then (s, ⟨k, false⟩)
  else
    let r := s.harvest d [d] (fun _ => 0) (s.cost 12) (.comb d c allow store) false cmd
    match r.2 with
    | .granted => (r.1.combGo d c store, ⟨0, false⟩)
    | .derated => (r.1.combGo d c store, ⟨0, true⟩)
    | .deferred => (r.1, ⟨2, false⟩)
    | .refused x => (r.1, ⟨x, false⟩)

/-- COMB_DONE: RESULT, the event, the groups released, the command finished (R112, R113). DESIGN CHOICE (log entry 44): LADDER_SEL and LEVEL
return to 0. -/
def combDone (s : State) (d c code : Nat) : State :=
  let s := (s.each (s.arraysOf c) fun s x => s.calEnds d x).combDrop d c
  let s := ((s.wr F.CRD_COMB_STATUS.STATE [d, c] 0).wr F.CRD_COMB_STATUS.RESULT [d, c] code).wr I.combEnding [d, c] 0
  let s := (s.setLadder d c 0).release (.comb d c)
  let s := (s.raise d 51 (c + 2 ^ 16 * code)).finishUnit 0x0302 (2 * d + c) code []
  s.on (code == 0 && s.isSet I.combStore [d, c]) fun s => s.storeAsk

/-- The run is abandoned (R112): while WAITING at once, with its COMB_DONE (DESIGN CHOICE, log entry 153), else by opening CAL_SW. -/
def combAbort (s : State) (d c code : Nat) : State :=
  if s.combState d c = 0 ∨ s.isSet I.combEnding [d, c] then s
  else if s.combState d c = 1 then s.combDone d c code
  else s.combStop d c code

/-- An overload episode meets a run from cycle 0 to the last APPLY cycle (R82, R112). -/
def combOverload (s : State) (d c : Nat) : State :=
  s.on (2 ≤ s.combState d c && !s.isSet I.combEnding [d, c]) fun s => s.combStop d c 0x0210

/-- The trims that Combing computes for one slice (R93, R110, R112): the seven other GAIN taps move by as many taps as that of the
present ATTEN, each within its range. -/
def combTrim (s : State) (d : Nat) (x : CombTap) : State :=
  let old : Int := s.rd F.CRD_TRIM.GAIN [d, x.chan, x.i]
  let s := s.each x.taps.zipIdx fun s p => s.on (p.2 < 4) fun s => s.setTap d x.chan x.i p.2 p.1
  let delta : Int := s.rd F.CRD_TRIM.GAIN [d, x.chan, x.i] - old
  s.each (List.range 8) fun s t =>
    s.on (t != s.attenOf d x.chan) fun s =>
      let v := (s.rd I.gainTap [d, x.chan, x.i, t] : Int) + delta
      (s.wr I.gainTap [d, x.chan, x.i, t] (clampTap 1 v)).on (outOfRange 1 v) fun s => s.tapSat d x.chan x.i 1

/-- The position in its array's block that a slice serves, an IDLE spare that in its SPARE_PHASE (R77, R112). -/
def slicePos (s : State) (d c i : Nat) : Nat :=
  let g := i / 17
  g / 4 + 2 * (g % 4) + 8 * (if i % 17 = 16 then s.rd F.CNV_SLICE_MAP.SPARE_PHASE [d, c, g] else i % 17)

/-- A finding of a run about a slice. -/
def fitOf (s : State) (d c i what : Nat) : Option Rat :=
  (s.combFits.find? fun f => f.die == d && f.chan == c && f.i == i && f.what == what).map (·.value)

/-- What a run has found about slices of its arrays. -/
def fitsOf (s : State) (d c what : Nat) : List Rat :=
  (s.combFits.filter fun f => f.die == d && (s.arraysOf c).contains f.chan && f.what == what).map (·.value)

/-- A level of DC, or the EDGE phase, has been measured (R109 to R111): the mean stage 4 code of each slice, or the times of its edge
response. The sampling instants of C1 lie half a tick later in PAIRED mode (R80). -/
def combMeasure (s : State) (d c : Nat) (codes : List SliceCodes) : State :=
  let level := s.rd F.CRD_COMB_STATUS.LEVEL [d, c]
  let fits := (codes.filter fun x => (s.arraysOf c).contains x.chan).flatMap fun x =>
    let v := x.codes.map fun e => (e.1, s.trimmed d x.chan x.i e.2)
    if s.combState d c = 3 then [CombFit.mk d x.chan x.i level (mean (v.map fun e => (e.2 : Rat)))]
    else match edgeTimes (edgeResponse (edgeSamples (16 * s.slicePos d x.chan x.i + (if s.paired ∧ x.chan = 1 then 8 else 0)) v)) with
      | some t => [⟨d, x.chan, x.i, 16, t.1⟩, ⟨d, x.chan, x.i, 17, t.2⟩]
      | none => []
  { s with combFits := s.combFits ++ fits }

/-- The tap that a finding gives, or a free value where the measurement does not determine it. -/
def orFree (s : State) (loop : Nat) (v : Option Int) : State × Int :=
  match v with
  | some z => (s, z)
  | none => (s.useFree, (s.freeVal % (trimMax loop + 1) : Nat))

/-- APPLY for one slice (R110 to R112): the intercept of its DC line against 0 sets OFFSET, the slope against 64 codes a level GAIN, its
crossing against the channel mean SKEW, its rise time against the channel mean BW; a tap is 0.25 LSB, 0.05%, 20 fs or 0.25% (R91). -/
def combApply (s : State) (d c x i : Nat) : State :=
  let tap (loop : Nat) : Int := s.rd (trimField loop) [d, x, i]
  let line := lineFit ((List.range 16).filterMap fun l => (s.fitOf d x i l).map fun v => ((ladderCode l : Rat), v))
  let ofs := line.map fun f => tap 0 - roundRat (4 * f.1)
  let gain := line.map fun f => tap 1 - roundRat (2000 * (f.2 - 1))
  let skew := (s.fitOf d x i 16).map fun v => tap 2 + roundRat ((v - mean (s.fitsOf d c 16)) * 6250 / 20)
  let bw := (s.fitOf d x i 17).map fun v => tap 3 + roundRat ((v / mean (s.fitsOf d c 17) - 1) * 400)
  let a := s.orFree 0 ofs
  let b := a.1.orFree 1 gain
  let e := b.1.orFree 2 skew
  let f := e.1.orFree 3 bw
  f.1.combTrim d ⟨x, i, [a.2, b.2, e.2, f.2]⟩

/-- The core cycle of the run at which the phase under way, or the level of DC, ends (R109). -/
def combNext (s : State) (d c : Nat) : Nat :=
  match s.combState d c with
  | 2 => 2500
  | 3 => 2500 + 4346 * (s.rd F.CRD_COMB_STATUS.LEVEL [d, c] + 1)
  | 4 => 4530532
  | _ => 4530660

/-- The phase under way, or the level of DC, ends (R109 to R112), with the codes that the slices gave in it. -/
def combPhase (s : State) (d c : Nat) (codes : List SliceCodes) : State :=
  match s.combState d c with
  | 2 => (s.wr F.CRD_COMB_STATUS.STATE [d, c] 3).setLadder d c 0
  | 3 =>
    let l := s.rd F.CRD_COMB_STATUS.LEVEL [d, c]
    let s := s.combMeasure d c codes
    if l < 15 then s.setLadder d c (l + 1) else (s.wr F.CRD_COMB_STATUS.STATE [d, c] 4).setLadder d c (edgeLadder 0)
  | 4 => (s.combMeasure d c codes).wr F.CRD_COMB_STATUS.STATE [d, c] 5
  | _ =>
    let s := s.each (s.arraysOf c) fun s x => s.each (List.range 136) fun s i => s.combApply d c x i
    let s := (s.each (s.arraysOf c) fun s x => s.syncCardAny d x).restartLoops d c
    let u := s.rd F.BOB_ACTIVE.UNIT [d]
    let s := s.on (unitKind u == 1 && (s.arraysOf c).contains (unitSide u)) fun s => s.wr F.BOB_ACTIVE.TRAIN_RUN [d] 0
    s.combStop d c 0

/-- The ladder steps between settings 3 and 12 in the EDGE phase (R109, R111). -/
def combEdges (s : State) (d c : Nat) : State :=
  s.on (s.combState d c == 4 && !s.isSet I.combEnding [d, c]) fun s => s.setLadder d c (edgeLadder (s.now - s.rd I.combAt [d, c] - 128 * 72036))

/-- A mode-change command, or an arm, meets a run (R113). -/
def combAnywhere (s : State) : Bool := anyBelow 2 fun d => anyBelow 2 fun c => s.combState d c != 0

end State

end Sys2Proof.Machine
end

