-- ==== Sys2Proof/Machine/WakeOps.lean ====
section
/-!
DEFINITION. The start of a mode transition, and the wake sources of VIGIL (R369, R374).
-/

namespace Sys2Proof.Machine

namespace State

/-- A transition is under way (R369). -/
def inTransition (s : State) : Bool := s.isSet F.PWR_MODE.TRANSITION [s.control]

/-- The mode being entered. -/
def modeTarget (s : State) : Nat := s.rd F.PWR_MODE.TARGET [s.control]

/-- An admitted transition begins on both dies (R34, R369); the cause is 0 host, 1 wake, 2 service port. -/
def startMode (s : State) (target cause : Nat) : State :=
  let mw := match Mode.ofCode target with
    | some m => ((s.modeCost m : Int) - s.modeCost s.mode).toNat
    | none => 0
  let s := (s.wr I.modeMw [] mw).wr I.modeCause [] cause
  s.each [0, 1] fun s d => (s.wr F.PWR_MODE.TRANSITION [d] 1).wr F.PWR_MODE.TARGET [d] target

/-- PWR_WAKE_CAUSE records the sources of a mask; bits 0 to 3 and 9 of R374. -/
def wakeCause (s : State) (mask unit die : Nat) : State :=
  let s := (s.wr F.PWR_WAKE_CAUSE.CAUSE [] (mask % 16)).wr F.PWR_WAKE_CAUSE.AUX_LOSS [] (slice mask 9 1)
  s.on (bitAt mask 0) fun s => (s.wr F.PWR_WAKE_CAUSE.UNIT [] unit).wr F.PWR_WAKE_CAUSE.DIE [] die

/-- WAKE# is pin 0 of a die in the model's numbering of output pins. -/
def pinWake : Nat := 0

/-- The wake begins (R374): Harvest admits it whatever its ledger allows, and WAKE# is asserted where the link is down. -/
def wakeBegin (s : State) (mask unit die : Nat) : State :=
  let dp : Int := (s.modeCost .ready : Int) - s.modeCost .vigil
  let fits := s.fits [0, 1] dp (s.cost 18)
  let cap := decide ((s.shareMw [0, 1] : Int) < dp)
  let budget := decide ((s.shareMj [0, 1] : Int) < dp + s.cost 18)
  let s := s.charge [0, 1] dp (s.cost 18)
  let s := if fits then s else (s.wr F.HVS_STATUS.OVER [] 1).raisePkg 13 (s.rd F.HVS_STATUS.LEVEL [] + 2 ^ 4 * b2n cap + 2 ^ 5 * b2n budget)
  let s := ((s.wakeCause mask unit die).wr I.wakeOn [] 1).wr I.wakeAt [] s.now
  let s := s.each [0, 1] fun s d =>
    s.on (s.isSet F.PWR_WAKE_CTRL.WAKE_PIN_EN [] && s.isSet I.linkDeep [d] && !s.isSet I.linkL0 [d]) fun s => (s.emit (.pin d pinWake false)).wr I.wakePin [d] 1
  s.startMode 3 1

/-- A wake source asserts (R374): in VIGIL the wake begins; in the cycle in which it began the source is recorded too; while READY to
VIGIL is under way it is held. -/
def wake (s : State) (bit unit die : Nat) : State :=
  if s.mode = .vigil then
    if !s.inTransition then s.wakeBegin (2 ^ bit) unit die
    else s.on (s.isSet I.wakeOn [] && s.rd I.wakeAt [] == s.now) fun s =>
      s.wakeCause (setBit (s.rd F.PWR_WAKE_CAUSE.CAUSE [] + 512 * s.rd F.PWR_WAKE_CAUSE.AUX_LOSS []) bit) unit die
  else s.on (s.inTransition && s.modeTarget == 1) fun s =>
    let s := s.wr I.wakeHeld [] (setBit (s.rd I.wakeHeld []) bit)
    s.on (bit == 0) fun s => (s.wr I.wakeUnit [] unit).wr I.wakeDie [] die

end State

end Sys2Proof.Machine
end

