-- ==== Sys2Proof/Machine/CmpOps.lean ====
section
/-!
DEFINITION. Comparator units, windows, blanking and overload episodes (R81, R82, R288 to R302).
-/

namespace Sys2Proof.Machine

/-- Units 1, 7, 9 and 11 follow their upper unit in SEL, VIGIL_MODE and WAKE_EN (R301). -/
def cmpLead (u : Nat) : Nat := if u = 1 ∨ u = 7 ∨ u = 9 ∨ u = 11 then u - 1 else u

/-- The window that a unit belongs to (R288). -/
def cmpWindow (u : Nat) : Option Nat := if u < 2 then some 0 else if 6 ≤ u ∧ u < 12 then some ((u - 6) / 2 + 1) else none

/-- The upper unit of a window. -/
def winUpper (w : Nat) : Nat := if w = 0 then 0 else 2 * w + 4

/-- Nominal response of a speed mode, ticks (R293): 0.8, 10, 200 and 5,000 ns. -/
def cmpResponse (m : Nat) : Nat := match m with | 0 => 128 | 1 => 1600 | 2 => 32000 | _ => 800000

/-- Overload threshold for an ATTEN setting, in steps of 0.5 mV: ±330 mV × 10^(ATTEN/20), to the nearest step (R81, R289). -/
def ovldThresh (atten : Nat) : Nat :=
  match atten with | 0 => 660 | 1 => 741 | 2 => 831 | 3 => 932 | 4 => 1046 | 5 => 1174 | 6 => 1317 | _ => 1478

namespace State

-- Overload episodes (R81, R82) ------------------------------------------------------------------------------

/-- The payload of CNV_OVLD (R90). -/
def ovldSeen (s : State) (d c : Nat) : Nat := s.rd I.ovldSeen [d, c]

/-- Comparator `lo` of a channel's pair trips (R81, R82). -/
def ovldTrip (s : State) (d c lo : Nat) : State :=
  let s := s.wr (if lo = 0 then F.CNV_STATUS.OVLD_HI else F.CNV_STATUS.OVLD_LO) [d, c] 1
  if s.isSet F.CNV_STATUS.OVLD_EPISODE [d, c] then s.wr I.ovldSeen [d, c] (setBit (s.ovldSeen d c) lo)
  else
    let s := ((s.wr F.CNV_STATUS.OVLD_EPISODE [d, c] 1).flag F.CNV_STATUS.OVLD_STICKY [d, c]).count F.CNV_OVLD_COUNT.COUNT [d, c] 1
    let s := ((s.wr I.ovldStart [d, c] s.now).wr I.ovldSeen [d, c] (2 ^ lo)).openSpan .overload d c (s.blkOf d)
    let s := s.on (s.isSet F.CNV_CTRL.OVLD_EVT_EN [d, c]) fun s => s.raise d (40 + c) (2 ^ lo)
    s.combOverload d c

/-- Comparator `lo` of a channel's pair is clear again. -/
def ovldClear (s : State) (d c lo : Nat) : State :=
  (s.wr (if lo = 0 then F.CNV_STATUS.OVLD_HI else F.CNV_STATUS.OVLD_LO) [d, c] 0).wr I.ovldClear [d, c] s.now

/-- The episode may end: both comparators have been clear for 64 core cycles (R81). -/
def ovldOver (s : State) (d c : Nat) : Bool :=
  s.isSet F.CNV_STATUS.OVLD_EPISODE [d, c] && !s.isSet F.CNV_STATUS.OVLD_HI [d, c] && !s.isSet F.CNV_STATUS.OVLD_LO [d, c]
    && s.elapsed (s.rd I.ovldClear [d, c]) 64

/-- The episode ends (R82). DESIGN CHOICE (log entry 151): its length in µs is rounded down. -/
def ovldEnd (s : State) (d c : Nat) : State :=
  let us := min 65535 ((s.now - s.rd I.ovldStart [d, c]) / 160000)
  ((s.wr F.CNV_STATUS.OVLD_EPISODE [d, c] 0).closeSpan .overload d c (s.blkOf d)).on (s.isSet F.CNV_CTRL.OVLD_EVT_EN [d, c]) fun s =>
    s.raise d (40 + c) (s.ovldSeen d c + 2 ^ 8 + 2 ^ 16 * us)

-- Windows (R292) ----------------------------------------------------------------------------------------------

/-- A unit's threshold on its scale (R289): units 0 to 5 are signed. -/
def cmpThresh (s : State) (d u : Nat) : Int :=
  if u < 6 then sval 12 (s.rd F.CMP_THRESH.THRESH [d, u]) else s.rd F.CMP_THRESH.THRESH [d, u]

/-- A unit is disabled, off or unresolved. -/
def cmpUnknown (s : State) (d u : Nat) : Bool :=
  !s.isSet F.CMP_CTRL.EN [d, u] || !s.isSet I.cmpPower [d, u] || s.isSet F.CMP_STATUS.UNRESOLVED [d, u] || s.isSet I.cmpRetired [d, u]

/-- State of a window: 0 UNKNOWN, 1 INSIDE, 2 ABOVE, 3 BELOW (R292). -/
def winState (s : State) (d w : Nat) : Nat :=
  let a := winUpper w
  if s.cmpUnknown d a || s.cmpUnknown d (a + 1) || s.cmpThresh d a ≤ s.cmpThresh d (a + 1) then 0
  else if s.isSet F.CMP_STATUS.ASSERTED [d, a] then 2 else if s.isSet F.CMP_STATUS.ASSERTED [d, a + 1] then 3 else 1

/-- CMP_WIN follows the units of a window; a change is marked and raised (R292). -/
def syncWin (s : State) (d w : Nat) : State :=
  let n := s.winState d w
  if n = s.rd F.CMP_WIN.STATE [d, w] then s
  else
    let s := (s.wr F.CMP_WIN.STATE [d, w] n).flag F.CMP_WIN.CHANGED [d, w]
    s.on (s.isSet F.CMP_WIN.EVT_EN [d, w]) fun s => s.raise d 185 (w + 4 * n)

/-- The window of a unit, where it has one. -/
def syncUnitWin (s : State) (d u : Nat) : State :=
  match cmpWindow u with
  | some w => s.syncWin d w
  | none => s

-- Output and assertion (R290, R291, R299) -----------------------------------------------------------------------

/-- A unit is a wake source now: VIGIL, WAKE_EN, and not off (R295). -/
def cmpWakes (s : State) (d u : Nat) : Bool :=
  s.mode == .vigil && s.isSet F.CMP_CTRL.WAKE_EN [d, cmpLead u] && s.isSet F.CMP_CTRL.VIGIL_MODE [d, cmpLead u]
    && s.isSet F.CMP_STATUS.ASSERTED [d, u]

/-- ASSERTED follows OUT of a resolved unit (R291): counts, events, the overload pair, the window and the wake. -/
def cmpAssert (s : State) (d u : Nat) (released : Bool) : State :=
  let a := !s.isSet F.CMP_STATUS.UNRESOLVED [d, u] && s.rd F.CMP_STATUS.OUT [d, u] != s.rd F.CMP_CTRL.POL [d, u]
  let was := s.isSet F.CMP_STATUS.ASSERTED [d, u]
  let s := s.wrBool F.CMP_STATUS.ASSERTED [d, u] a
  let s := s.on (a && !was) fun s => (s.count F.CMP_COUNT.COUNT [d, u] 1).flag F.CMP_STATUS.ASSERT_STICKY [d, u]
  let s := s.on (a != was && s.isSet F.CMP_CTRL.EVT_EN [d, u]) fun s => s.raise d 184 (u + 2 ^ 4 * b2n a + 2 ^ 5 * b2n released)
  let s := s.on (a != was && 2 ≤ u && u ≤ 5) fun s =>
    if a then s.ovldTrip d ((u - 2) / 2) (u % 2) else s.ovldClear d ((u - 2) / 2) (u % 2)
  let s := s.syncUnitWin d u
  s.on (!was && s.cmpWakes d u && !s.isSet F.CMP_STATUS.SETTLING [d, u]) fun s => s.wake 0 u d

/-- An edge of OUT with its DT, recognised at the first sample of the block handled that is not before it, reaches the time-interval units and the terms of the die (R157, R273, R294, R299). -/
def cmpEdge (s : State) (d u : Nat) (dt : Instant) (rising : Bool) : State :=
  let s := s.timOffer d (0x20 + u) dt 256 (some rising)
  s.on s.mode.acquires fun s =>
    let first := (s.blkSpan d).1
    let sample := s.sampleCeil d dt
    s.arrive [.crossing d (if instGe sample first then sample else first) ⟨0x20 + u, 0, rising, dt, false⟩]

/-- OUT of a resolved unit changes at an instant (R290, R294); an edge that passes opens the window of BLANK_SRC = 1 (R297). -/
def cmpOut (s : State) (d u : Nat) (dt : Instant) (high released : Bool) : State :=
  let s := (s.wrBool F.CMP_STATUS.OUT [d, u] high).cmpAssert d u released
  let s := s.on (s.rd F.CMP_CTRL.BLANK_SRC [d, u] == 1 && s.isSet F.CMP_BLANK.LEN [d, u]) fun s =>
    (s.wr F.CMP_STATUS.BLANKING [d, u] 1).wr I.cmpBlankDt [d, u] (dtAdd (dt / 4096) (1024 * s.rd F.CMP_BLANK.LEN [d, u]))
  s.cmpEdge d u dt high

/-- An unresolved unit resolves (R267, R290): it produces no edge. -/
def cmpResolve (s : State) (d u : Nat) (released : Bool) : State :=
  (((s.wr F.CMP_STATUS.OUT [d, u] 1).wr F.CMP_STATUS.UNRESOLVED [d, u] 0).raise d 186 u).cmpAssert d u released

/-- OUT takes the comparator's present value at an instant (R293, R298). -/
def cmpRelease (s : State) (d u : Nat) (dt : Instant) : State :=
  let high := s.isSet I.cmpIn [d, u]
  if s.isSet F.CMP_STATUS.UNRESOLVED [d, u] then (if high && !s.isSet I.cmpStart [d, u] then s.cmpResolve d u true else s)
  else if high = s.isSet F.CMP_STATUS.OUT [d, u] then s
  else s.cmpOut d u dt high true

/-- A unit starts (R266, R290): its first observed level decides; until then it is unresolved. -/
def cmpStart (s : State) (d u : Nat) : State :=
  if !s.isSet F.CMP_CTRL.EN [d, u] || s.isSet I.cmpRetired [d, u] then s
  else
    let s := ((s.wr I.cmpPower [d, u] 1).wr I.cmpStart [d, u] 1).wr I.cmpIn [d, u] 0
    let s := (((s.wr F.CMP_STATUS.OUT [d, u] 0).wr F.CMP_STATUS.UNRESOLVED [d, u] 1).wr F.CMP_STATUS.SETTLING [d, u] 0).wr F.CMP_STATUS.BLANKING [d, u] 0
    (s.wr F.CMP_STATUS.MODE_ACT [d, u] (s.rd F.CMP_CTRL.MODE [d, u])).cmpAssert d u false

/-- A unit is powered down. -/
def cmpPowerOff (s : State) (d u : Nat) : State :=
  let s := ((s.wr I.cmpPower [d, u] 0).wr I.cmpStart [d, u] 0).wr I.cmpIn [d, u] 0
  let s := ((s.wr F.CMP_STATUS.OUT [d, u] 0).wr F.CMP_STATUS.UNRESOLVED [d, u] 0).wr F.CMP_STATUS.SETTLING [d, u] 0
  let s := ((s.wr F.CMP_STATUS.BLANKING [d, u] 0).wr F.CMP_STATUS.ASSERTED [d, u] 0).syncUnitWin d u
  s.on (2 ≤ u && u ≤ 5) fun s => s.ovldClear d ((u - 2) / 2) (u % 2)

/-- The scale of a unit's class (R289), in µV or in millionths of a °C: the quantity at code 0, and one step. -/
def cmpScale (u : Nat) : Int × Int := if u < 2 then (0, 1000) else if u < 6 then (0, 500) else if u < 10 then (0, 1000) else (-64000000, 62500)

/-- Where a quantity lies (R289): 0 below D, 1 at or above U, 2 between them. -/
def cmpLevel (s : State) (d u : Nat) (v : Int) : Nat :=
  let scale := cmpScale u
  let x := 2 * (v - scale.1)
  let h : Int := s.rd F.CMP_THRESH.HYST [d, u]
  if (2 * s.cmpThresh d u + h) * scale.2 ≤ x then 1 else if x < (2 * s.cmpThresh d u - h) * scale.2 then 0 else 2

/-- What the comparator itself does, at the converter's time, as its input takes a value. A transition while OUT is held is counted
(R290 to R294, R298). -/
def cmpSees (s : State) (d u : Nat) (at_ : Instant) (v : Int) : State :=
  let level := s.cmpLevel d u v
  if !s.isSet I.cmpPower [d, u] then s
  else if s.isSet I.cmpStart [d, u] then
    let s := (s.wr I.cmpStart [d, u] 0).wrBool I.cmpIn [d, u] (level == 1)
    if level = 2 then s
    else (((s.wrBool F.CMP_STATUS.OUT [d, u] (level == 1)).wr F.CMP_STATUS.UNRESOLVED [d, u] 0).cmpAssert d u false)
  else if level = 2 ∨ (level == 1) = s.isSet I.cmpIn [d, u] then s
  else
    let s := s.wrBool I.cmpIn [d, u] (level == 1)
    if s.isSet F.CMP_STATUS.SETTLING [d, u] || s.isSet F.CMP_STATUS.BLANKING [d, u] then s.count F.CMP_BLANK_COUNT.COUNT [d, u] 1
    else if s.isSet F.CMP_STATUS.UNRESOLVED [d, u] then (if level = 1 then s.cmpResolve d u false else s)
    else s.cmpOut d u (instSub (at_ / 256 * 256) (4096 * cmpResponse (s.rd F.CMP_STATUS.MODE_ACT [d, u]))) (level == 1) false

-- Modes of a unit (R158, R293, R295) ------------------------------------------------------------------------------

/-- A unit leaves M0 while an armed sequencer uses a term of it, or returns to it (R158). -/
def cmpSlow (s : State) (d u : Nat) (back : Bool) : State :=
  if back then
    let s := s.each (s.cmpTerms d u) fun s t => s.restartTerm d t (s.blkOf d)
    s.each [0, 1] fun s q =>
      let st := s.seqState d q
      s.on (s.isSet F.TRG_SEQ_STATUS.PHASE [d, q] && (s.cmpTerms d u).any fun t => bitAt (s.rd F.SEQ_STATE.ADV_MASK [d, q, st]) t) fun s =>
        s.wr I.seqCount [d, q] 0
  else match (s.cmpUsed d u).head? with
    | some t => s.stick F.TRG_STATUS.CMP_SLOW [d] d 94 (t + 2 ^ 8 * u)
    | none => s

/-- MODE_ACT changes (R293). -/
def cmpMode (s : State) (d u m : Nat) (vigil : Bool) : State :=
  let old := s.rd F.CMP_STATUS.MODE_ACT [d, u]
  if m = old then s
  else
    let s := (s.wr F.CMP_STATUS.MODE_ACT [d, u] m).cmpSettle d u old m
    let s := s.raise d 187 (u + 2 ^ 4 * m + 2 ^ 6 * s.rd F.CMP_STATUS.DERATED [d, u] + 2 ^ 7 * b2n vigil)
    if old = 0 then s.cmpSlow d u false else s.on (m == 0) fun s => s.cmpSlow d u true

/-- VIGIL is entered (R295): each unit takes its VIGIL_MODE, and one that is asserted already wakes the device at once. -/
def cmpVigil (s : State) (d : Nat) : State :=
  s.each (List.range 12) fun s u =>
    if !s.isSet I.cmpPower [d, u] then s
    else if s.rd F.CMP_CTRL.VIGIL_MODE [d, cmpLead u] = 0 then s.cmpPowerOff d u
    else
      let s := s.cmpMode d u (s.rd F.CMP_CTRL.VIGIL_MODE [d, cmpLead u]) true
      s.on (s.cmpWakes d u && !s.isSet F.CMP_STATUS.SETTLING [d, u]) fun s => s.wake 0 u d

/-- VIGIL or HOLD is left (R290, R295): units that were off start, the others return to MODE, or to their derated mode. -/
def cmpWakeUp (s : State) (d : Nat) : State :=
  s.each (List.range 12) fun s u =>
    if !s.isSet I.cmpPower [d, u] then s.cmpStart d u
    else s.cmpMode d u (if s.isSet F.CMP_STATUS.DERATED [d, u] then min 3 (s.rd F.CMP_CTRL.MODE [d, u] + (s.rd F.HVS_STATUS.LEVEL [] - 8))
      else s.rd F.CMP_CTRL.MODE [d, u]) false

/-- Settling ends (R293, R295). -/
def cmpSettled (s : State) (d u : Nat) : State :=
  if !s.isSet F.CMP_STATUS.SETTLING [d, u] || !s.dueOn d (s.rd I.cmpSettleDt [d, u]) then s
  else
    let s := s.wr F.CMP_STATUS.SETTLING [d, u] 0
    let s := s.on (!s.isSet F.CMP_STATUS.BLANKING [d, u]) fun s => s.cmpRelease d u (4096 * s.rd I.cmpSettleDt [d, u])
    s.on (s.cmpWakes d u) fun s => s.wake 0 u d

-- Blanking (R297, R298) -------------------------------------------------------------------------------------------

/-- A blanking timer pulses at a tick (R297): the windows of the units that use it open or restart. -/
def blankPulse (s : State) (d k t : Nat) : State :=
  let p := 1024 * s.rd F.CMP_BLANK_TMR.PERIOD [d, k]
  if p = 0 ∨ !s.dueOn d t ∨ (t + 2 ^ 64 - 1024 * s.rd F.CMP_BLANK_TMR.OFFSET [d, k]) % 2 ^ 64 % p ≠ 0 then s
  else s.each (List.range 12) fun s u =>
    s.on (s.isSet I.cmpPower [d, u] && s.rd F.CMP_CTRL.BLANK_SRC [d, u] == 2 + k && s.isSet F.CMP_BLANK.LEN [d, u]) fun s =>
      (s.wr F.CMP_STATUS.BLANKING [d, u] 1).wr I.cmpBlankDt [d, u] (dtAdd t (1024 * s.rd F.CMP_BLANK.LEN [d, u]))

/-- A blanking window closes (R298). -/
def blankClose (s : State) (d u : Nat) : State :=
  if !s.isSet F.CMP_STATUS.BLANKING [d, u] || !s.dueOn d (s.rd I.cmpBlankDt [d, u]) then s
  else
    let s := s.wr F.CMP_STATUS.BLANKING [d, u] 0
    s.on (!s.isSet F.CMP_STATUS.SETTLING [d, u]) fun s => s.cmpRelease d u (4096 * s.rd I.cmpBlankDt [d, u])

-- Register writes (R301) ------------------------------------------------------------------------------------------

/-- A rejected comparator write. -/
def cmpReject (s : State) (d u : Nat) : State := s.stick F.CMP_STATUS.CFG_REJECT [d, u] d 188 u

/-- THRESH and HYST (R293, R301). -/
def writeCmpThresh (d u v : Nat) (s : State) : State × Nat :=
  let s := (s.wr F.CMP_THRESH.THRESH [d, u] (slice v 0 12)).wr F.CMP_THRESH.HYST [d, u] (slice v 12 6)
  let m := s.rd F.CMP_STATUS.MODE_ACT [d, u]
  ((s.on (s.isSet I.cmpPower [d, u]) fun s => s.cmpSettle d u m m).syncUnitWin d u, 0)

/-- CMP_BLANK. -/
def writeCmpBlank (d u v : Nat) (s : State) : State × Nat :=
  let s := s.wr F.CMP_BLANK.LEN [d, u] (slice v 0 16)
  (s.on (slice v 0 16 == 0 && s.isSet F.CMP_STATUS.BLANKING [d, u]) fun s => s.wr I.cmpBlankDt [d, u] (s.blkOf d), 0)

/-- SEL of a unit takes a value, and both units of its window start anew (R301); answers whether the write is rejected. -/
def cmpSelRejected (s : State) (d u sel : Nat) : Bool :=
  if u = 6 ∨ u = 8 then decide (11 < sel) else if u = 10 then decide (8 < sel) else sel != s.rd F.CMP_CTRL.SEL [d, u]

/-- CMP_CTRL (R301): each field that is not accepted is ignored. -/
def writeCmpCtrl (d u v : Nat) (s : State) : State × Nat :=
  let lower := cmpLead u != u
  let en := bitAt v 0
  let mode := slice v 1 2
  let vm := slice v 3 2
  let sel := slice v 10 4
  let badSel := s.cmpSelRejected d u sel
  let badV := lower && vm != 0
  let badW := lower && bitAt v 7
  let badEn := 2 ≤ u && u ≤ 5 && !en
  let bad := badSel || badV || badW || badEn
  let s := s.on bad fun s => s.cmpReject d u
  let s := s.on (!badV) fun s => s.wr F.CMP_CTRL.VIGIL_MODE [d, u] vm
  let s := s.on (!badW) fun s => s.wr F.CMP_CTRL.WAKE_EN [d, u] (slice v 7 1)
  let s := (s.wr F.CMP_CTRL.EVT_EN [d, u] (slice v 6 1)).wr F.CMP_CTRL.BLANK_SRC [d, u] (slice v 8 2)
  let newMode := mode != s.rd F.CMP_CTRL.MODE [d, u]
  let s := s.wr F.CMP_CTRL.MODE [d, u] mode
  let s := s.on (newMode && s.isSet I.cmpPower [d, u] && s.mode != .vigil) fun s =>
    if s.isSet F.CMP_STATUS.DERATED [d, u] && mode < s.rd F.CMP_STATUS.MODE_ACT [d, u] then s
    else (s.wr F.CMP_STATUS.DERATED [d, u] 0).cmpMode d u mode false
  let s := s.on (!badEn && en != s.isSet F.CMP_CTRL.EN [d, u]) fun s =>
    let s := s.wrBool F.CMP_CTRL.EN [d, u] en
    if en then s.on (s.mode != .hold && s.mode != .vigil) fun s => s.cmpStart d u else s.cmpPowerOff d u
  let s := s.on (!badSel && sel != s.rd F.CMP_CTRL.SEL [d, u]) fun s =>
    let s := s.wr F.CMP_CTRL.SEL [d, u] sel
    s.each [u, u + 1] fun s x => s.on (s.isSet I.cmpPower [d, x]) fun s => s.cmpStart d x
  (s, if bad then 0x0100 else 0)

/-- Firmware sets the thresholds of an overload pair for the present ATTEN (R81, R289). -/
def ovldThresholds (s : State) (d c : Nat) : State :=
  let t := ovldThresh (s.rd F.CNV_CTRL.ATTEN [d, c])
  let s := (setPair s d (2 + 2 * c) t)
  setPair s d (3 + 2 * c) (4096 - t)
where
  /-- THRESH with HYST = 4. -/
  setPair (s : State) (d u t : Nat) : State := (writeCmpThresh d u (t + 2 ^ 12 * 4) s).1

-- The attenuator (R76) --------------------------------------------------------------------------------------------

/-- ATTEN of CNV_CTRL (R76). DESIGN CHOICE (log entry 150): a second change while SETTLING is 1 starts the count anew, and one event follows. -/
def writeAtten (d c v : Nat) (s : State) : State × Nat :=
  if v = s.rd F.CNV_CTRL.ATTEN [d, c] then (s, 0)
  else if s.paired ∧ c = 1 then (s.wr F.CNV_CTRL.ATTEN [d, c] v, 0)
  else if s.armed d c then (s.flag F.CNV_STATUS.ATTEN_REJECT [d, c], 0x0212)
  else
    let s := ((s.wr F.CNV_CTRL.ATTEN [d, c] v).wr F.CNV_STATUS.SETTLING [d, c] 1).wr I.settleAt [d, c] s.now
    ((s.each (s.arraysOf c) fun s x => s.showGain d x).ovldThresholds d c, 0)

/-- CNV_CTRL (R76, R82). -/
def writeCnvCtrl (d c v : Nat) (s : State) : State × Nat :=
  writeAtten d c (slice v 0 3) (s.wr F.CNV_CTRL.OVLD_EVT_EN [d, c] (slice v 8 1))

end State

end Sys2Proof.Machine
end

