-- ==== Sys2Proof/Machine/QueueOps.lean ====
section
/-!
DEFINITION. Enabling and disabling queues, doorbells, faults, interrupt targets, the urgent mailbox and the Distaff cores (R308 to R338, R351).
-/

namespace Sys2Proof.Machine

namespace State

/-- The offset of a queue's context and of its doorbell in BAR0. -/
def ctxOffset (q : Nat) : Nat := 0x200000 + 64 * q
def dblOffset (q : Nat) : Nat := 0x300000 + 64 * q

/-- A write to a FIRMWARE queue is discarded and logged (R309). -/
def privateWrite (s : State) (d off : Nat) : State := s.violation d 0x0405 vlogNone off

/-- Code that refuses an enable; 0 if none (R311, R400). -/
def enableCheck (s : State) (d q : Nat) : Nat :=
  let n := s.rd F.QUE_CFG.LOG2_SIZE [d, q]
  let k := queueKind q
  let cq := s.rd F.QUE_CFG.CQ [d, q]
  let aux := s.rd F.QUE_AUX.ADDR [d, q]
  let wb := s.rd F.QUE_WB.ADDR [d, q]
  if s.isSet I.bankRetired [d, q / 1024] then 0x0229
  else if s.rd F.QUE_BASE.BASE [d, q] % 4096 ≠ 0 ∨ n < 4 ∨ 16 < n ∨ wb % 8 ≠ 0 ∨ ((k = 3 ∨ k = 4) ∧ wb = 0)
      ∨ (k = 5 ∧ (aux = 0 ∨ aux % 4096 ≠ 0)) then 0x01B0
  else if k = 0 ∧ !(queueKind cq == 1 && s.queEnabled d cq) then 0x01B1
  else if s.isSet F.QUE_IRQ.TARGET [d, q] && s.rd F.QUE_IRQ.VECTOR [d, q] % 4 / 2 != d then 0x01B2
  else 0

/-- An enable (R311): refused with its code, or the ring starts empty. -/
def queEnable (s : State) (d q : Nat) : State :=
  if s.rd F.QUE_STATUS.STATE [d, q] ≠ 0 then s
  else
    let k := s.enableCheck d q
    let s := s.wr F.QUE_STATUS.EN_CHECK [d, q] k
    if k ≠ 0 then s
    else
      let s := ((s.wr F.QUE_CFG.ENABLE [d, q] 1).wr F.QUE_STATUS.STATE [d, q] 1).wr F.QUE_STATUS.PHASE [d, q] 1
      (s.wr F.QUE_PTR.HEAD [d, q] 0).wr F.QUE_PTR.TAIL [d, q] 0

/-- An armed set of the die names the queue (R194, R312). -/
def setUses (s : State) (d q : Nat) : Bool :=
  anyBelow 3 fun a => s.armed d a
    && (((s.streaming d a || s.isSet F.ACQ_CTRL.SPILL [d, a]) && s.rd F.STR_DATA_RING.QUEUE [d, a] == q)
      || s.rd F.STR_AUX_RINGS.MARK_Q [d, a] == q || s.rd F.STR_AUX_RINGS.GAP_Q [d, a] == q)

/-- A library delivery in progress names the queue. -/
def libUses (s : State) (d q : Nat) : Bool := s.deliveries.any fun x => x.die == d && x.queue == q && x.running

/-- An enabled data ring names the queue as its CQ. The reset value of ENABLE is 0, so such a ring is listed. -/
def cqUsed (s : State) (d q : Nat) : Bool :=
  queueKind q == 1 && s.regs.any fun e => match e.1.ix with
    | [x, r] => e.1.reg == .QUE_STATUS && x == d && queueKind r == 0 && s.isSet F.QUE_CFG.ENABLE [d, r] && s.rd F.QUE_CFG.CQ [d, r] == q
    | _ => false

/-- Waiting marks of a mark ring that goes are lost; gap records that wait for a gap ring are dropped (R211, R216, R312). -/
def dropWaiting (s : State) (d q : Nat) : State :=
  s.each [0, 1, 2] fun s a =>
    let x := s.acqOf d a
    let s := s.on (queueKind q == 3 && s.rd F.STR_AUX_RINGS.MARK_Q [d, a] == q) fun s =>
      let lost := x.markWait.filter (·.placed)
      let s := (s.setAcq d a { x with markWait := x.markWait.filter fun m => !m.placed }).syncMarks d a
      s.each lost fun s _ => (s.count F.STR_MARK_LOST_COUNT.COUNT [d, a] 1).stick F.STR_STATUS.MARK_LOST [d, a] d 124 a
    s.on (queueKind q == 4 && s.rd F.STR_AUX_RINGS.GAP_Q [d, a] == q) fun s => s.setAcq d a { s.acqOf d a with gapWait := [] }

/-- A queue becomes DISABLED: what it holds is abandoned (R312, R329, R448). -/
def queDrop (s : State) (d q : Nat) : State :=
  let s := ((s.wr F.QUE_CFG.ENABLE [d, q] 0).wr F.QUE_STATUS.STATE [d, q] 0).wr F.QUE_STATUS.IRQ_STATE [d, q] 0
  let s := ((s.wr I.coalTimed [d, q] 0).wr I.coalCount [d, q] 0).wr I.ovfBefore [d, q] 0
  let gone := s.ringRecs.filter fun r => r.die == d && r.q == q
  let s := { s with
    ringRecs := s.ringRecs.filter fun r => !(r.die == d && r.q == q)
    taken := s.taken.map fun (t : Taken) => if t.die = d ∧ t.src = MbxSource.ring (q - 7936) ∧ 7936 ≤ q then { t with dropped := true } else t }
  let s := s.each gone fun s r => match r.source with
    | some src => s.wr I.levelHeld [d, src] 0
    | none => s
  s.dropWaiting d q

/-- A disable (R312). -/
def queDisable (s : State) (d q : Nat) : State :=
  if !s.isSet F.QUE_CFG.ENABLE [d, q] then s
  else if s.rd F.QUE_STATUS.STATE [d, q] = 3 then s.flag F.QUE_STATUS.CFG_REJECT [d, q]
  else if s.setUses d q || s.libUses d q || s.cqUsed d q then s.wr F.QUE_STATUS.EN_CHECK [d, q] 0x0221
  else (s.queDrop d q).wr F.QUE_STATUS.EN_CHECK [d, q] 0

/-- QUE_CFG (R311, R312): CQ is a field of DATA rings only. -/
def writeQueCfg (d q v : Nat) (s : State) : State :=
  if queueKind q = 6 then s.privateWrite d (ctxOffset q + 8)
  else
    let on := s.isSet F.QUE_CFG.ENABLE [d, q]
    let cq := if queueKind q = 0 then slice v 13 13 else 0
    let differs := s.rd F.QUE_CFG.LOG2_SIZE [d, q] != slice v 5 5 || s.rd F.QUE_CFG.CQ [d, q] != cq
    let s := if on then s.on differs fun s => s.flag F.QUE_STATUS.CFG_REJECT [d, q]
      else (s.wr F.QUE_CFG.LOG2_SIZE [d, q] (slice v 5 5)).wr F.QUE_CFG.CQ [d, q] cq
    if bitAt v 4 then (if s.rd F.QUE_STATUS.STATE [d, q] = 3 then s.flag F.QUE_STATUS.CFG_REJECT [d, q] else s.queEnable d q)
    else s.queDisable d q

/-- One word of QUE_BASE, QUE_WB or QUE_AUX (R311); QUE_AUX is a field of MAILBOX rings only. -/
def writeQueAddr (d q : Nat) (f : Fld) (k v : Nat) (s : State) : State :=
  if queueKind q = 6 then s.privateWrite d (ctxOffset q)
  else if f.reg = .QUE_AUX ∧ queueKind q ≠ 5 then s
  else if s.isSet F.QUE_CFG.ENABLE [d, q] then s.flag F.QUE_STATUS.CFG_REJECT [d, q]
  else s.wr f [d, q] (s.rd f [d, q] - slice (s.rd f [d, q]) (32 * k) 32 * 2 ^ (32 * k) + v % 2 ^ 32 * 2 ^ (32 * k))

/-- QUE_IRQ as it takes effect after the cycle of the write: one delivery to the new target if FIRED with records (R332). -/
def writeQueIrq (d q v : Nat) (s : State) : State × Nat :=
  if queueKind q = 6 then (s.privateWrite d (ctxOffset q + 0x14), 0x0405)
  else
    let s := ((s.wr F.QUE_IRQ.VECTOR [d, q] (slice v 0 10)).wr F.QUE_IRQ.TARGET [d, q] (slice v 10 1)).wr F.QUE_IRQ.PRIO [d, q] (slice v 11 4)
    let s := s.on (slice v 16 12 != 0) fun s => s.wr F.QUE_IRQ.COAL_COUNT [d, q] (slice v 16 12)
    (s.on (s.rd F.QUE_STATUS.IRQ_STATE [d, q] == 2 && s.unconsumed d q != 0) fun s => s.deliver d q, 0)

/-- A doorbell that is ignored (R315). -/
def rejectDoorbell (s : State) (d q code index : Nat) : State := (s.flag F.QUE_STATUS.DB_REJECT [d, q]).violation d code q index

/-- The HEAD of a device-produced ring moves: records are consumed, level sources re-sample in the next cycle (R314, R325, R329). -/
def consume (s : State) (d q index : Nat) : State :=
  let size := s.ringSize d q
  let head := s.rd F.QUE_PTR.HEAD [d, q]
  let freed (i : Nat) : Bool := (i + size - head) % size < (index + size - head) % size
  let mine (r : RingRec) : Bool := r.die == d && r.q == q && freed r.index
  let levels := (s.ringRecs.filter mine).filterMap fun r => match r.source with
    | some src => if levelSource src then some src else none
    | none => none
  let s := { s.wr F.QUE_PTR.HEAD [d, q] index with ringRecs := s.ringRecs.filter fun r => !mine r }
  let s := s.irqDoorbell d q (s.unconsumed d q)
  { s with nextActs := s.nextActs ++ levels.map fun src => .resample d src }

/-- A doorbell (R314, R315, R364); on a MAILBOX ring it consumes the responses issued before this core cycle (R343). -/
def doorbell (d q v : Nat) (s : State) : State :=
  let index := slice v 0 16
  let size := s.ringSize d q
  let st := s.rd F.QUE_STATUS.STATE [d, q]
  let head := s.rd F.QUE_PTR.HEAD [d, q]
  let held := (s.rd F.QUE_PTR.TAIL [d, q] + size - head) % size
  let moved := (index + size - head) % size
  let host := queueKind q == 0 || queueKind q == 5
  if queueKind q = 6 then s.privateWrite d (dblOffset q)
  else if st = 3 then s.violation d 0x040C q index
  else if size ≤ index then s.rejectDoorbell d q 0x0402 index
  else if st ≠ 1 then s.rejectDoorbell d q 0x0403 index
  else if (if host then decide (moved < held) else decide (held < moved)) then s.rejectDoorbell d q 0x0404 index
  else if queueKind q = 0 then s.wr F.QUE_PTR.TAIL [d, q] index
  else if queueKind q = 5 then
    let s := { s.wr F.QUE_PTR.TAIL [d, q] index with ringRecs := s.ringRecs.filter fun r => !(r.die == d && r.q == q && r.wrote < s.now) }
    s.irqDoorbell d q (s.unconsumed d q)
  else s.consume d q index

/-- The queue enters FAULT (R313): DATA and MAILBOX rings only; `why` is 0 error completion, 1 poisoned, 2 timeout. -/
def queFault (s : State) (d q why : Nat) : State :=
  if (queueKind q = 0 ∨ queueKind q = 5) ∧ s.queEnabled d q then
    (s.wr F.QUE_STATUS.STATE [d, q] 2).raise d 201 (q + 2 ^ 13 * why)
  else s

/-- A vector is unmasked: its pending message is sent (R331). -/
def msixSync (s : State) (d v : Nat) : State :=
  let w := s.rd F.MSIX_PBA.PEND [d, v / 32]
  s.on (bitAt w (v % 32) && !s.isSet F.MSIX.MASKED [d, v] && !s.isSet I.msixFuncMask [d]) fun s =>
    (s.wr F.MSIX_PBA.PEND [d, v / 32] (clrBit w (v % 32))).emit (.msix d v (4 * s.rd F.MSIX.ADDR [d, v]) (s.rd F.MSIX.DATA [d, v]))

/-- EVC_ROUTE (R321, R459): a first setting of EN delivers the held raise in the next cycle. -/
def writeRoute (d src v : Nat) (s : State) : State :=
  let q := slice v 0 13
  if queueKind q ≠ 2 then s.flag F.EVC_STATUS.ROUTE_REJECT [d]
  else
    let was := s.isSet F.EVC_ROUTE.EN [d, src]
    let s := (s.wr F.EVC_ROUTE.QUEUE [d, src] q).wr F.EVC_ROUTE.EN [d, src] (slice v 13 1)
    s.on (!was && bitAt v 13 && s.isSet I.heldOn [d, src]) fun s =>
      let s := s.wr I.heldOn [d, src] 0
      { s with nextActs := s.nextActs ++ [.heldRaise d src] }

/-- The ring is put into QUARANTINED, unless it is disabled or already there, and QUE_STATE raised (R364). -/
def quarantine (s : State) (d q : Nat) : State :=
  s.on (s.rd F.QUE_STATUS.STATE [d, q] == 1 || s.rd F.QUE_STATUS.STATE [d, q] == 2) fun s =>
    (s.wr F.QUE_STATUS.STATE [d, q] 3).raise d 203 (q + 2 ^ 13 * 3)

/-- What waited for the next core cycle happens (R325, R364, R459). -/
def runNext (s : State) (a : NextAct) : State :=
  match a with
  | .resample d src => s.resample d src
  | .heldRaise d src => s.hostRoute d src (s.rd I.heldTicks [d, src]) (s.rd I.lastPayload [d, src]) .edge
  | .quarantine d q => s.quarantine d q

/-- All that waited for this core cycle happens. -/
def runNextActs (s : State) : State := { s with nextActs := [] }.each s.nextActs runNext

-- Urgent mailbox (R351) ----------------------------------------------------------------------------------

/-- A write to the urgent mailbox while it is BUSY (R351). -/
def urgentBusy (s : State) (d off : Nat) : State := (s.flag F.MBX_URG_STATUS.REJECT [d]).violation d 0x040B vlogUrgent off

/-- GO: the command waits to be taken (R351). -/
def urgentGo (d v : Nat) (s : State) : State :=
  if s.isSet F.MBX_URG_STATUS.BUSY [d] then s.urgentBusy d 0x400080
  else s.on (bitAt v 0) fun s => (s.wr F.MBX_URG_STATUS.BUSY [d] 1).wr F.MBX_URG_STATUS.DONE [d] 0

-- Distaff cores (R336 to R338) ---------------------------------------------------------------------------

/-- The request that a core takes next: highest priority, then lowest queue (R336). -/
def coreNext (s : State) (k : Nat) : Option CoreReq :=
  (s.coreReqs.filter (·.core == k)).foldl (fun (best : Option CoreReq) r => match best with
    | none => some r
    | some b => if b.prio < r.prio ∨ (b.prio = r.prio ∧ r.q < b.q) then some r else some b) none

/-- Remove the first such request. -/
def coreTake (s : State) (r : CoreReq) : State := { s with coreReqs := s.coreReqs.erase r }

/-- The entry under way can still be taken over: cycles 0 to 10 (R337). -/
def coreEntering (s : State) (k : Nat) : Bool := s.rd I.coreReq [k] != 0 && s.now < s.rd I.coreAt [k] + 128 * 11

/-- Entry (R336, R337): the core takes its next request, if its priority is above the level that runs. A takeover leaves the earlier
request pending and saves nothing again. A request that comes after the takeover cycles of an entry waits for that entry's handler to begin. An
exit in its cycles 0 to 9 is abandoned, and the context stays saved (R338). -/
def coreEnter (s : State) (k : Nat) : State :=
  match s.coreNext k with
  | none => s
  | some r =>
    if s.isSet I.coreAsleep [k] || r.prio + 1 ≤ s.rd I.coreLevel [k] || (s.isSet I.coreWoke [k] && !s.elapsed (s.rd I.coreWoke [k]) 64) then s
    else
      let s := s.coreTake r
      let over_ := s.coreEntering k
      let inExit := s.isSet I.coreOut [k] && s.now < s.rd I.coreOut [k] + 128 * 10
      let began := if inExit then s.now else max s.now (s.rd I.coreFetch [k])
      let s := if over_ then { s with coreReqs := CoreReq.mk k (s.rd I.coreReq [k] - 1) (s.rd I.coreReqQ [k]) :: s.coreReqs }
        else ((s.wr I.coreStack [k, s.rd I.coreDepth [k]] (s.rd I.coreLevel [k])).inc I.coreDepth [k]).wr I.coreAt [k] began
      let start := if over_ then max (s.rd I.coreAt [k] + 128 * 12) (s.now + 128 * 5)
        else if inExit then s.now + 128 * 5 else began + 128 * 12
      (((s.wr I.coreLevel [k] (r.prio + 1)).wr I.coreFetch [k] start).wr I.coreReq [k] (if inExit then 0 else r.prio + 1)).wr I.coreReqQ [k] r.q

/-- Exit (R338): back to the level saved, or, where a request of higher priority is pending, into its handler on the context that
stays saved. -/
def coreExit (s : State) (k : Nat) : State :=
  if s.rd I.coreDepth [k] = 0 then s
  else
    let back := s.rd I.coreStack [k, s.rd I.coreDepth [k] - 1]
    match s.coreNext k with
    | some r =>
      if back < r.prio + 1 then
        (((s.coreTake r).wr I.coreLevel [k] (r.prio + 1)).wr I.coreFetch [k] (s.now + 128 * 5)).wr I.coreReq [k] 0
      else (((s.wr I.coreDepth [k] (s.rd I.coreDepth [k] - 1)).wr I.coreLevel [k] back).wr I.coreFetch [k] (s.now + 128 * 10)).wr
        I.coreOut [k] s.now |>.wr I.coreReq [k] 0
    | none => (((s.wr I.coreDepth [k] (s.rd I.coreDepth [k] - 1)).wr I.coreLevel [k] back).wr I.coreFetch [k] (s.now + 128 * 10)).wr
        I.coreOut [k] s.now |>.wr I.coreReq [k] 0

end State

end Sys2Proof.Machine
end

