-- ==== Sys2Proof/Machine/BobOps.lean ====
section
/-!
DEFINITION. The Bobbin pool: wear and loss, rethreading, retirement, power domains, grants of the maintenance arbiter (R367, R388 to R407).
-/

namespace Sys2Proof.Machine

namespace State

-- Pool records (R406) -------------------------------------------------------------------------------------

/-- The record of a unit takes a state and a cause; COUNT counts occurrences of the cause. -/
def bobPut (s : State) (unit state cause : Nat) : State :=
  let oven := s.rd I.ovenOn []
  match s.bobbin.find? (·.unit == unit) with
  | some r =>
    let n : BobRec := ⟨unit, state, cause, if r.cause = cause then min 65535 (r.count + 1) else 1, oven⟩
    { s with bobbin := s.bobbin.map fun x => if x.unit = unit then n else x }
  | none => { s with bobbin := s.bobbin ++ [⟨unit, state, cause, 1, oven⟩] }

/-- The recorded state of a unit takes a new value; its cause and count stay. -/
def bobState (s : State) (unit state : Nat) : State :=
  match s.bobbin.find? (·.unit == unit) with
  | some r =>
    let n : BobRec := ⟨unit, state, r.cause, r.count, s.rd I.ovenOn []⟩
    { s with bobbin := s.bobbin.map fun x => if x.unit = unit then n else x }
  | none => { s with bobbin := s.bobbin ++ [⟨unit, state, 0, 0, s.rd I.ovenOn []⟩] }

/-- The unit is recorded RETIRED. -/
def bobRetired (s : State) (unit : Nat) : Bool := s.bobbin.any fun r => r.unit == unit && r.state == 4

-- Spares ----------------------------------------------------------------------------------------------------

/-- SPARES_LEFT of a channel in the number of lanes whose spare is IDLE or SHADOW (CNV_STATUS, BOB_STATUS). -/
def syncSpares (s : State) (d : Nat) : State :=
  let left (c : Nat) : Nat := ((List.range 8).filter fun g => s.spareState d c g < 2).length
  let idle := (if s.rd F.CMP_SPARE_MAP.S0_STATE [d] = 0 then 1 else 0) + (if s.rd F.CMP_SPARE_MAP.S1_STATE [d] = 0 then 1 else 0)
  let s := ((s.wr F.CNV_STATUS.SPARES_LEFT [d, 0] (left 0)).wr F.CNV_STATUS.SPARES_LEFT [d, 1] (left 1)).wr F.BOB_STATUS.SLICE_C0 [d] (left 0)
  let s := ((s.wr F.BOB_STATUS.SLICE_C1 [d] (left 1)).wr F.BOB_STATUS.PC_H0 [d] (s.rd F.MEM_STATUS.SPARE_FREE [d, 0])).wr
    F.BOB_STATUS.PC_H1 [d] (s.rd F.MEM_STATUS.SPARE_FREE [d, 1])
  let s := s.wr F.BOB_STATUS.CMP [d] idle
  s.wr F.BOB_STATUS.SRAM [d] ((List.range 4).foldl (fun acc k => if s.rd F.BOB_SRAM.STATE [d, k] = 0 then setBit acc k else acc) 0)

/-- Free spares of a kind on a die. -/
def freeSpares (s : State) (d kind : Nat) : Nat :=
  match kind with
  | 1 => s.rd F.BOB_STATUS.SLICE_C0 [d] + s.rd F.BOB_STATUS.SLICE_C1 [d]
  | 2 => s.rd F.BOB_STATUS.PC_H0 [d] + s.rd F.BOB_STATUS.PC_H1 [d]
  | 3 => s.rd F.BOB_SPL_LANES.RX_SPARE [d]
  | 4 => s.rd F.BOB_STATUS.CMP [d]
  | _ => popcount 4 (s.rd F.BOB_STATUS.SRAM [d])

/-- A spare is used or lost: the counts follow, and BOB_SPARE_OUT tells of the last of its kind (R407). -/
def spareUsed (s : State) (d kind spare : Nat) : State :=
  let s := s.syncSpares d
  s.on (s.freeSpares d kind == 0) fun s => s.raise d 227 spare

/-- First pseudo-channel of a stack in a state (MEM_PC_STAT). -/
def pcIn (s : State) (d h st : Nat) : Option Nat := (List.range 32).find? fun p => s.rd F.MEM_PC_STAT.STATE [d, h, p] == st

/-- STATE and unit of comparator spare n. -/
def cmpSpareState (s : State) (d n : Nat) : Nat := s.rd (if n = 0 then F.CMP_SPARE_MAP.S0_STATE else F.CMP_SPARE_MAP.S1_STATE) [d]
def cmpSpareUnit (s : State) (d n : Nat) : Nat := s.rd (if n = 0 then F.CMP_SPARE_MAP.S0_UNIT else F.CMP_SPARE_MAP.S1_UNIT) [d]
/-- Comparator spare n takes a state and a unit. -/
def setCmpSpare (s : State) (d n st u : Nat) : State :=
  (s.wr (if n = 0 then F.CMP_SPARE_MAP.S0_STATE else F.CMP_SPARE_MAP.S1_STATE) [d] st).wr
    (if n = 0 then F.CMP_SPARE_MAP.S0_UNIT else F.CMP_SPARE_MAP.S1_UNIT) [d] u
/-- The first IDLE comparator spare. -/
def cmpIdle (s : State) (d : Nat) : Option Nat := [0, 1].find? fun n => s.cmpSpareState d n == 0
/-- The comparator spare that shadows unit u. -/
def cmpShadow (s : State) (d u : Nat) : Option Nat := [0, 1].find? fun n => s.cmpSpareState d n == 1 && s.cmpSpareUnit d n == u

/-- A free spare lane of the direction that die d receives: the lowest lane in SPARE. -/
def spareLane (s : State) (d : Nat) : Option Nat := (List.range 28).find? fun l => s.rd F.BOB_SPL_MARGIN.STATE [d, l] == 1

/-- A retirement will take effect at the next block boundary (R401). -/
def retireSoon (s : State) (u : Nat) : State :=
  if s.retiring.contains u then s else { s with retiring := s.retiring ++ [u] }.wr I.retireAt [u] s.now

/-- No lane of the direction works: the die that does not hold the control role is retired (R26, R402). -/
def laneCheckDie (s : State) (d : Nat) : State :=
  s.on (s.rd F.BOB_SPL_LANES.RX_WORKING [d] == 0 && !s.dieRetired (otherDie s.control)) fun s => s.retireSoon (unitCode 8 (otherDie s.control) 0 0 0)

/-- BOB_SPL_LANES follow the lanes of the direction that die d receives: `short` lanes carry nothing for want of training.
The rules of R26 follow the weaker direction. -/
def syncLanes (s : State) (d : Nat) : State :=
  let count (st : Nat) : Nat := ((List.range 28).filter fun l => s.rd F.BOB_SPL_MARGIN.STATE [d, l] == st).length
  let s := (s.wr F.BOB_SPL_LANES.RX_WORKING [d] (min 24 (count 0))).wr F.BOB_SPL_LANES.RX_SPARE [d] (count 1)
  let s := (s.wr F.BOB_SPL_LANES.TX_WORKING [otherDie d] (min 24 (count 0))).wr F.BOB_SPL_LANES.TX_SPARE [otherDie d] (count 1)
  let s := s.each [0, 1] fun s x => s.wrBool F.BOB_RETIRED.XDIE [x] s.vectorsWithheld
  (s.each [0, 1] fun s x => s.syncXdie x).laneCheckDie d

-- Rethreading (R391 to R399) -----------------------------------------------------------------------------

/-- The unit code names nothing that can be rethreaded (R392, R393): reserved bits or values, or a spare. -/
def unitInvalid (s : State) (u : Nat) : Bool :=
  let d := unitDie u
  decide (2 ^ 15 ≤ u) || match unitKind u with
    | 1 => 16 ≤ unitIndex u || 8 ≤ unitLane u
    | 2 => unitLane u != 0 || s.rd F.MEM_PC_STAT.STATE [d, unitSide u, unitIndex u] == 1 || s.rd F.MEM_PC_STAT.STATE [d, unitSide u, unitIndex u] == 2
    | 3 => unitLane u != 0 || 28 ≤ unitIndex u || d != otherDie (unitSide u) || s.rd F.BOB_SPL_MARGIN.STATE [otherDie (unitSide u), unitIndex u] == 1
    | 4 => unitLane u != 0 || unitSide u != 0 || 12 ≤ unitIndex u
    | 5 => unitSide u != 0 || 4 ≤ unitLane u
    | _ => true

/-- The unit, or what it belongs to, is retired (R393). -/
def unitGone (s : State) (u : Nat) : Bool :=
  let d := unitDie u
  s.bobRetired u || s.dieRetired d || match unitKind u with
    | 1 => s.isSet (if unitSide u = 0 then F.BOB_RETIRED.C0 else F.BOB_RETIRED.C1) [d]
    | 2 => s.rd F.MEM_PC_STAT.STATE [d, unitSide u, unitIndex u] == 3 || s.isSet (if unitSide u = 0 then F.BOB_RETIRED.H0 else F.BOB_RETIRED.H1) [d]
    | 4 => s.isSet I.cmpRetired [d, unitIndex u]
    | _ => false

/-- The unit has a usable spare that serves no other unit (R388). -/
def unitSpare (s : State) (u : Nat) : Bool :=
  let d := unitDie u
  match unitKind u with
  | 1 => s.spareState d (unitSide u) (unitLane u) < 2
  | 2 => (s.pcIn d (unitSide u) 1).isSome || (s.pcIn d (unitSide u) 2).isSome
  | 3 => (s.spareLane (otherDie (unitSide u))).isSome
  | 4 => (s.cmpIdle d).isSome || s.cmpSpareState d 0 == 1 || s.cmpSpareState d 1 == 1
  | 5 => s.rd F.BOB_SRAM.STATE [d, unitLane u] < 2
  | _ => false

/-- A rethreading runs on the die (R391). -/
def rtBusy (s : State) (d : Nat) : Bool := s.isSet F.BOB_ACTIVE.UNIT [d]

/-- The checks of R393 but for the admission. -/
def rtCheck (s : State) (u : Nat) : Nat :=
  if s.unitInvalid u then 0x0100
  else if s.unitGone u then 0x0229
  else if s.rtBusy (unitDie u) || (unitKind u == 1 && s.spareState (unitDie u) (unitSide u) (unitLane u) == 1) then 0x0228
  else if !s.unitSpare u then 0x0227
  else 0

/-- Energy of a rethreading (R377, R385). -/
def rtEnergy (s : State) (u : Nat) : Nat :=
  match unitKind u with
  | 1 => s.cost 15 | 2 => s.cost 16 | 3 => s.cost 17 | _ => 0

/-- BOB_ACTIVE shows a rethreading. -/
def rtShow (s : State) (d unit phase lost : Nat) : State :=
  (((s.wr F.BOB_ACTIVE.UNIT [d] unit).wr F.BOB_ACTIVE.PHASE [d] phase).wr F.BOB_ACTIVE.LOST [d] lost).wr F.BOB_ACTIVE.TRAIN_RUN [d] 0

/-- PHASE of the rethreading on the die. -/
def rtPhase (s : State) (d : Nat) : Nat := s.rd F.BOB_ACTIVE.PHASE [d]

/-- The rethreading on the die is over: its claims go, its command finishes (R393, R407). -/
def rtOver (s : State) (d outcome status : Nat) : State :=
  let u := s.rd F.BOB_ACTIVE.UNIT [d]
  let s := ((s.rtShow d 0 0 0).wr I.rtTraining [d] 0).wr I.swapBlk [d] 0
  let mine (a : Activity) : Bool := match a with
    | .rethreadSetup x y => x == d && y == u | .rethreadSwap x y => x == d && y == u
    | .pcCopy x _ _ => x == d | .pcRemap x _ _ => x == d | .cmpSwap x _ => x == d | .laneSwap x _ => x == d | .sramCopy x _ => x == d
    | _ => false
  let s := { s with running := s.running.filter fun c => !mine c.act, waiting := s.waiting.filter fun c => !mine c.act }.syncMnt
  (s.raise d 225 (u + 2 ^ 16 * outcome)).finishUnit 0x0B01 u status []

/-- A unit is replaced: recorded, a store write requested (R395, R397, R399, R117). -/
def rtReplaced (s : State) (d kind spare : Nat) : State :=
  let u := s.rd F.BOB_ACTIVE.UNIT [d]
  (((s.bobState u 2).spareUsed d kind spare).rtOver d 2 0).storeAsk

/-- The spare of a unit in rethreading fails (R394, R300, R398): recorded, and the unit stays in service. -/
def rtFails (s : State) (d kind spare : Nat) : State :=
  let u := s.rd F.BOB_ACTIVE.UNIT [d]
  (((s.bobState u 0).bobState spare 5).spareUsed d kind spare).rtOver d 3 0x0227

/-- A rethreading under way is abandoned for a lost unit (R391): a shadowing or copying spare is free again. -/
def rtAbandon (s : State) (d : Nat) : State :=
  if !s.rtBusy d then s
  else
    let u := s.rd F.BOB_ACTIVE.UNIT [d]
    let s := match unitKind u with
      | 1 => s.on (s.spareState d (unitSide u) (unitLane u) == 1) fun s => s.wr F.CNV_SLICE_MAP.SPARE_STATE [d, unitSide u, unitLane u] 0
      | 2 => match s.pcIn d (unitSide u) 2 with
        | some p => s.wr F.MEM_PC_STAT.STATE [d, unitSide u, p] 1
        | none => s
      | 4 => match s.cmpShadow d (unitIndex u) with
        | some n => s.setCmpSpare d n 0 0
        | none => s
      | 5 => s.on (s.rd F.BOB_SRAM.STATE [d, unitLane u] == 1) fun s => s.wr F.BOB_SRAM.STATE [d, unitLane u] 0
      | _ => s
    ((s.withdrawWith 0x0227 fun x => match x.req with | .rethread _ y => y == u | _ => false).bobState u 0).rtOver d 4 0x0227

/-- The activity that a rethreading claims first, and its groups (R394 to R399, R404). -/
def rtClaim (u : Nat) (lost : Bool) : Claim :=
  let d := unitDie u
  match unitKind u with
  | 1 => ⟨.rethreadSetup d u, 1, d, [unitSide u]⟩
  | 2 => if lost then ⟨.pcRemap d (unitSide u) (unitIndex u), 1, d, [4 + unitSide u]⟩ else ⟨.pcCopy d (unitSide u) (unitIndex u), 1, d, [4 + unitSide u]⟩
  | 3 => ⟨.laneSwap d (unitIndex u), 1, d, [9]⟩
  | 4 => ⟨.cmpSwap d (unitIndex u), 1, d, [6]⟩
  | _ => ⟨.sramCopy d (unitIndex u), 1, d, [7]⟩

/-- What a grant begins, for the activities of a rethreading. -/
def rtGranted (s : State) (d : Nat) : State :=
  let u := s.rd F.BOB_ACTIVE.UNIT [d]
  let s := s.wr I.bobAt [d] s.now
  match unitKind u with
  | 2 => if s.isSet F.BOB_ACTIVE.LOST [d] then s
    else match s.pcIn d (unitSide u) 1 with
      | some p => s.wr F.MEM_PC_STAT.STATE [d, unitSide u, p] 2
      | none => s
  | 4 => match s.cmpIdle d with
    | some n => (s.setCmpSpare d n 1 (unitIndex u)).syncSpares d
    | none => s
  | 5 => ((s.wr F.BOB_SRAM.STATE [d, unitLane u] 1).wr F.BOB_SRAM.BANK [d, unitLane u] (unitIndex u)).syncSpares d |>.syncDomains
  | _ => s

/-- An admitted rethreading starts: its first claim (R394 to R399). -/
def rtGo (s : State) (u : Nat) (lost : Bool) : State :=
  let d := unitDie u
  let phase := match unitKind u with
    | 1 => 2 | 2 => if lost then 5 else 3 | _ => 3
  let c := rtClaim u lost
  let s := ((s.rtShow d u phase (b2n lost)).bobState u 1).raise d 225 u
  let s := s.on (unitKind u == 3) fun s => match s.spareLane d with
    | some p => s.wr I.laneSpare [d, unitIndex u] (p + 1)
    | none => s
  let s := s.claim c
  s.on (s.runs c.act) fun s => s.rtGranted d

/-- A request for a rethreading that its checks passed (R391, R393). -/
def rtRequest (s : State) (u : Nat) (lost auto : Bool) (cmd : Option (MbxHdr × Nat)) : State × Verdict :=
  let d := unitDie u
  let r := s.harvest d [d] (fun _ => 0) (s.rtEnergy u) (.rethread d u) auto cmd
  match r.2 with
  | .granted => (r.1.rtGo u lost, ⟨0, false⟩)
  | .derated => (r.1.rtGo u lost, ⟨0, true⟩)
  | .deferred => (r.1.rtShow d u 1 (b2n lost), ⟨2, false⟩)
  | .refused k => (r.1, ⟨k, false⟩)

/-- RETHREAD (R393). -/
def rethread (s : State) (u : Nat) (cmd : Option (MbxHdr × Nat)) : State × Verdict :=
  let k := s.rtCheck u
  if k ≠ 0 then (s, ⟨k, false⟩) else (s.bobPut u 0 (2 ^ 6)).rtRequest u false false cmd

/-- What the registers tell of a reported wear (R389): a slice whose cause is its trims has a SAT bit, or an EDGE bit that has stood for 24 h; one whose
cause is its timeouts had its TMO_LIMIT-th within 7 days; a pseudo-channel has more corrected codewords than CE_LIMIT. The other causes are measurements. -/
def wearHolds (s : State) (u cause : Nat) : Bool :=
  let d := unitDie u
  let c := unitSide u
  let i := 17 * unitLane u + unitIndex u
  let oven := s.rd I.ovenOn []
  let trims := s.isSet F.CRD_SLICE_STAT.SAT [d, c, i] || anyBelow 4 fun n =>
    bitAt (s.rd F.CRD_SLICE_STAT.EDGE [d, c, i]) n && decide (s.rd I.edgeSince [d, c, i, n] + 86400 ≤ oven)
  let limit := s.rd F.BOB_THRESH.TMO_LIMIT []
  let n := s.rd I.sliceTmo [d, c, i]
  let timeouts := decide (limit ≤ n) && decide (oven ≤ s.rd I.tmoAt [d, c, i, (n - limit) % 16] + 604800)
  match unitKind u with
  | 1 => bitAt cause 2 || (bitAt cause 0 && trims) || (bitAt cause 1 && timeouts)
  | 2 => bitAt cause 3 && decide (s.rd F.BOB_THRESH.CE_LIMIT [] < s.rd F.MEM_PC_CE.COUNT [d, c, unitIndex u])
  | _ => true

/-- A unit becomes worn (R391). -/
def becomesWorn (s : State) (u cause : Nat) : State :=
  let d := unitDie u
  let s := (s.bobPut u 0 cause).raise d 224 (u % 2 ^ 15 + 2 ^ 16 * (cause % 256))
  s.on (s.isSet F.BOB_CTRL.AUTO_EN [] && s.rtCheck u == 0) fun s => (s.rtRequest u false true none).1

/-- A spare that serves nothing is lost: it becomes FAILED (R106, R388). -/
def spareLost (s : State) (u : Nat) : State :=
  let d := unitDie u
  match unitKind u with
  | 1 =>
    ((s.on (s.rtBusy d && s.spareState d (unitSide u) (unitLane u) == 1) fun s => s.rtAbandon d).wr
      F.CNV_SLICE_MAP.SPARE_STATE [d, unitSide u, unitLane u] 3).bobState u 5 |>.spareUsed d 1 u
  | 4 => (s.setCmpSpare d (unitIndex u - 12) 3 0).bobState u 5 |>.spareUsed d 4 u
  | _ => (s.bobState u 5).spareUsed d (unitKind u) u

/-- The unit is a spare: the idle or shadowing S16 of a lane, or comparator spare S0 or S1. -/
def isSpare (s : State) (u : Nat) : Bool :=
  (unitKind u == 1 && unitIndex u == 16 && s.spareState (unitDie u) (unitSide u) (unitLane u) < 2)
    || (unitKind u == 4 && 12 ≤ unitIndex u && s.cmpSpareState (unitDie u) (unitIndex u - 12) < 2)

/-- A unit becomes lost (R391, R400). -/
def becomesLost (s : State) (u cause : Nat) : State :=
  let d := unitDie u
  let s := (s.bobPut u 3 cause).raise d 224 (u % 2 ^ 15 + 2 ^ 15 + 2 ^ 16 * (cause % 256))
  let s := s.on (unitKind u == 3 && unitIndex u < 28) fun s => (s.wr F.BOB_SPL_MARGIN.STATE [d, unitIndex u] 3).syncLanes d
  if s.isSpare u then s.spareLost u
  else if s.unitGone u then s
  else if !s.unitInvalid u && s.unitSpare u then ((s.rtAbandon d).rtRequest u true true none).1
  else s.retireSoon u

-- Steps of a slice rethreading (R394 to R396) ----------------------------------------------------------------

/-- The trims of slice x, all GAIN sets included, go to the lane's spare (R394). -/
def copyTrims (s : State) (d c x spare : Nat) : State :=
  let s := s.each [0, 1, 2, 3] fun s n => s.wr (trimField n) [d, c, spare] (s.rd (trimField n) [d, c, x])
  let s := s.each (List.range 8) fun s t => s.wr I.gainTap [d, c, spare, t] (s.rd I.gainTap [d, c, x, t])
  let s := (s.wr F.CRD_SLICE_STAT.SAT [d, c, spare] 0).wr F.CRD_SLICE_STAT.TMO [d, c, spare] 0
  s.each [0, 1, 2, 3] fun s n => s.syncEdge d c spare n

/-- The setup step ends, 128 cycles after its grant: the spare shadows; a lost unit's spare waits for the swap (R394, R396). -/
def rtSetup (s : State) (d : Nat) : State :=
  let u := s.rd F.BOB_ACTIVE.UNIT [d]
  let c := unitSide u
  let g := unitLane u
  let lost := s.isSet F.BOB_ACTIVE.LOST [d]
  let i := spareOf g
  let s := (s.wr F.CNV_SLICE_MAP.SPARE_PHASE [d, c, g] (unitIndex u)).wr F.CNV_SLICE_MAP.SPARE_STATE [d, c, g] 1
  let s := s.on (!lost) fun s =>
    let s := s.copyTrims d c (17 * g + unitIndex u) i
    let s := (s.wr F.CRD_SLICE_STAT.CONV [d, c, i] 0).wr I.sliceTmo [d, c, i] 0
    (s.each [0, 1, 2, 3] fun s n => s.wr I.loopUs [d, c, i, n] 0).wr I.rtTraining [d] 1
  ((s.wr F.BOB_ACTIVE.PHASE [d] (if lost then 5 else 3)).release (.rethreadSetup d u)).syncSpares d

/-- After a sufficient interval the spare that trains is TRAINED, or FAILED, or goes on (R394). -/
def rtTrain (s : State) (d c : Nat) : State :=
  let u := s.rd F.BOB_ACTIVE.UNIT [d]
  let x := unitSide u
  let i := spareOf (unitLane u)
  if !s.isSet I.rtTraining [d] || !(s.arraysOf c).contains x then s
  else if s.isSet F.CRD_SLICE_STAT.SAT [d, x, i] || s.rd F.BOB_THRESH.TMO_LIMIT [] ≤ s.rd I.sliceTmo [d, x, i] then
    (s.wr F.CNV_SLICE_MAP.SPARE_STATE [d, x, unitLane u] 3).rtFails d 1 (sliceUnit d x i)
  else if s.rd F.CRD_SLICE_STAT.CONV [d, x, i] ≠ 15 then s.wr F.BOB_ACTIVE.TRAIN_RUN [d] 0
  else
    let s := s.inc F.BOB_ACTIVE.TRAIN_RUN [d]
    s.on (8 ≤ s.rd F.BOB_ACTIVE.TRAIN_RUN [d]) fun s =>
      ((s.wr F.BOB_ACTIVE.PHASE [d] 4).wr I.rtTraining [d] 0).raise d 225 (u + 2 ^ 16)

/-- The set that a swap on the channel must suit (R395). -/
def swapSet (s : State) (c : Nat) : Nat := if s.paired then 0 else c

/-- The claim of a swap (R395, R404). -/
def swapClaim (s : State) (d : Nat) : Claim :=
  let u := s.rd F.BOB_ACTIVE.UNIT [d]
  ⟨.rethreadSwap d u, 1, d, [unitSide u]⟩

/-- The claim of a swap on a set that is IDLE or streams is granted: the swap block is the first whose aperture is at least 16 cycles later (R395). -/
def swapGranted (s : State) (d : Nat) : State :=
  s.on (!s.isSet I.swapBlk [d]) fun s => s.wr I.swapBlk [d] (s.blkNo d + 17)

/-- First stored sample of the segment after the open one, once its trigger is accepted (R198, R395). -/
def nextOpening (s : State) (d a : Nat) : Option Nat :=
  let g := (s.acqOf d a).seg
  if !g.isOpen then none
  else g.trig.map fun t => t.1 + (if g.postMem < s.rd F.ACQ_POST.POST [d, a] ∧ s.isSet F.ACQ_CTRL.SPILL [d, a] then s.rd F.ACQ_POST.POST [d, a] else g.postMem)

/-- The swap step fixes its block (R395): for a set that is IDLE or streams it claims the trims first; for one that writes segments it takes the
opening boundary of the next segment, where that lies at least 16 cycles ahead. -/
def swapFix (s : State) (d a : Nat) : State :=
  let c := s.swapClaim d
  if !s.armed d a || s.streaming d a then
    if s.waits c.act then s
    else
      let s := s.claim c
      s.on (s.runs c.act) fun s => s.swapGranted d
  else match s.nextOpening d a with
    | none => s
    | some o =>
      let t := s.gridDtOf d a o
      let b := s.blkAt d t
      let b := if s.blkStart d b = t then b else b + 1
      if s.blkNo d + 16 ≤ b ∧ s.rd I.swapSeg [d, a] ≠ o + 1 then ((s.wr I.swapBlk [d] (b + 1)).wr I.swapSeg [d, a] (o + 1)).claim c else s

/-- A core cycle of a rethreading that awaits its swap (R395): the block is fixed; a block whose claim is not granted 8 cycles before it is
abandoned, and the next opportunity is taken. -/
def swapTick (s : State) (d : Nat) : State :=
  let u := s.rd F.BOB_ACTIVE.UNIT [d]
  if unitKind u ≠ 1 ∨ (s.rtPhase d ≠ 4 ∧ s.rtPhase d ≠ 5) then s
  else
    let s := s.wr F.BOB_ACTIVE.PHASE [d] 5
    if !s.isSet I.swapBlk [d] then s.swapFix d (s.swapSet (unitSide u))
    else s.on (!s.runs (.rethreadSwap d u) && decide (s.rd I.swapBlk [d] ≤ s.blkNo d + 9)) fun s =>
      ((s.release (.rethreadSwap d u)).wr I.swapBlk [d] 0)

/-- The swap, at its block (R395): the segment that opens there carries RETHREADED. -/
def rtSwap (s : State) (d : Nat) : State :=
  let u := s.rd F.BOB_ACTIVE.UNIT [d]
  let c := unitSide u
  let a := s.swapSet c
  if unitKind u ≠ 1 ∨ !s.isSet I.swapBlk [d] ∨ !s.runs (.rethreadSwap d u) ∨ s.blkNo d + 1 < s.rd I.swapBlk [d] then s
  else
    let s := s.wr F.CNV_SLICE_MAP.SPARE_STATE [d, c, unitLane u] 2
    let x := s.acqOf d a
    let s := s.on (s.isSet I.swapSeg [d, a]) fun s =>
      if x.seg.isOpen ∧ x.seg.o + 1 = s.rd I.swapSeg [d, a] then s.setAcq d a { x with seg := { x.seg with rethreaded := true } } else s.wr I.swapDone [d, a] 1
    s.rtReplaced d 1 (sliceUnit d c (spareOf (unitLane u)))

-- Pseudo-channels (R190, R397) ---------------------------------------------------------------------------------

/-- Sets that store into a stack. -/
def stackSets (s : State) (h : Nat) : List Nat := if s.paired then (if h = 0 then [0, 2] else [0]) else if h = 0 then [0, 2] else [1]

/-- The remap may take place at this block (R397). -/
def remapHere (s : State) (d h : Nat) : Bool :=
  let armedSets := (s.stackSets h).filter (s.armed d)
  s.isSet F.BOB_ACTIVE.LOST [d] || armedSets.isEmpty
    || (s.elapsed (s.rd I.bobAt [d]) (86400 * 1250000000) && armedSets.all fun a => s.streaming d a || s.acqState d a == 1)

/-- The remap hold begins, once the scrub group is granted (R190, R397). -/
def remapHold (s : State) (d h : Nat) : State :=
  let u := s.rd F.BOB_ACTIVE.UNIT [d]
  let p := unitIndex u
  if unitKind u ≠ 2 ∨ unitSide u ≠ h ∨ s.rtPhase d ≠ 5 ∨ s.isSet F.MEM_STATUS.REMAP_ACTIVE [d, h] ∨ !s.remapHere d h then s
  else
    let act := Activity.pcRemap d h p
    let s := if s.runs act || s.waits act then s else s.claim ⟨act, 1, d, [4 + h]⟩
    s.on (s.runs act) fun s =>
      let s := ((s.wr F.MEM_STATUS.REMAP_ACTIVE [d, h] 1).wr I.remapHold [d, h] s.now).raise d 128 (h + 2 * p)
      s.on (h == 0 && s.armed d 2 && s.acqState d 2 != 5) fun s => s.lcOpenGap d 3

/-- The mapping changes (R397): the spare serves the worn pseudo-channel's LPC. -/
def remapMap (s : State) (d h : Nat) : State :=
  let u := s.rd F.BOB_ACTIVE.UNIT [d]
  let p := unitIndex u
  let spare := ((s.pcIn d h 2).orElse fun _ => s.pcIn d h 1)
  if !s.isSet F.MEM_STATUS.REMAP_ACTIVE [d, h] ∨ s.rd F.MEM_PC_STAT.STATE [d, h, p] = 3 then s
  else match spare with
    | none => s
    | some q =>
      let s := s.each (List.range 31) fun s l => s.on (s.rd F.MEM_PC_MAP.PHYS [d, h, l] == p) fun s => s.wr F.MEM_PC_MAP.PHYS [d, h, l] q
      ((s.wr F.MEM_PC_STAT.STATE [d, h, q] 0).wr F.MEM_PC_STAT.STATE [d, h, p] 3).wr F.MEM_STATUS.SPARE_FREE [d, h] 0

/-- The remap hold ends (R190, R397): sets that lost samples carry on. -/
def remapEnd (s : State) (d h : Nat) : State :=
  if !s.isSet F.MEM_STATUS.REMAP_ACTIVE [d, h] ∨ !s.elapsed (s.rd I.remapHold [d, h]) 1024 then s
  else
    let s := s.remapMap d h
    let p := unitIndex (s.rd F.BOB_ACTIVE.UNIT [d])
    let s := ((s.wr F.MEM_STATUS.REMAP_ACTIVE [d, h] 0).memRelease d h).raise d 128 (h + 2 * p + 2 ^ 6)
    let s := s.each (s.stackSets h) fun s a =>
      s.on (((s.acqOf d a).gap.map fun g => g.cause == 3).getD false) fun s =>
        if a = 2 then s.lcResume d (s.blkOf d) (s.rd F.LGC_STATE.STATE [d]) (s.rd F.LGC_STATE.UNRESOLVED [d]) else s.closeGap d a
    s.rtReplaced d 2 (unitCode 2 d h 0 31)

-- The arbiter's grants (R405) ---------------------------------------------------------------------------------

/-- What the grant of a waiting claim begins (R104, R109, R394 to R399). -/
def granted (s : State) (a : Activity) : State :=
  match a with
  | .cardUpdate d c => ((s.wr F.CRD_STATUS.STATE [d, c] 1).beginInterval d c).release a
  | .comb d c => s.combZero d c
  | .storeWrite => s.storeStart
  | .rethreadSetup d _ => s.rtGranted d
  | .pcCopy d _ _ => s.rtGranted d
  | .pcRemap d h _ => s.remapHold d h
  | .cmpSwap d _ => s.rtGranted d
  | .laneSwap d _ => s.rtGranted d
  | .sramCopy d _ => s.rtGranted d
  | .spliceRetrain d _ => s.wr I.laneAt [d] s.now
  | .refit => s.wr I.refitAt [] s.now
  | .rethreadSwap d _ => s.swapGranted d
  | .scrub _ _ => s
  | .test _ => s

/-- The waiting claim that is granted now: every group free, and no claim that goes before it waits on one of them (R405). -/
def nextGrant : List Claim → List Claim → State → Option Claim
  | _, [], _ => none
  | before, c :: rest, s =>
    if s.claimFree c && !(before.any fun b => claimsMeet c b && claimBefore b c) && !(rest.any fun b => claimsMeet c b && decide (b.prec < c.prec)) then some c
    else nextGrant (before ++ [c]) rest s

/-- One grant of a waiting claim. -/
def grantNext (s : State) : State :=
  match nextGrant [] s.waiting s with
  | none => s
  | some c => ({ s with waiting := s.waiting.erase c, running := s.running ++ [c] }.syncMnt).granted c.act

-- Retirement (R400 to R402) -------------------------------------------------------------------------------------

/-- The sets of a die stop for a retirement (R401). -/
def endSets (s : State) (d : Nat) (l : List Nat) : State := s.each l fun s a => s.on (s.armed d a) fun s => s.endArm d a 5

/-- A channel is withdrawn (R37, R400, R401). -/
def withdrawChannel (s : State) (d c : Nat) : State :=
  let a := if s.paired then 0 else c
  let s := (s.wr F.CNV_STATUS.AVAILABLE [d, c] 0).wr (if c = 0 then F.BOB_RETIRED.C0 else F.BOB_RETIRED.C1) [d] 1
  let s := ((s.endSets d [a]).accHalt d a 3).accHalt d c 3
  let s := (s.syncCard).combAbort d a 0x0213
  let u := s.rd F.BOB_ACTIVE.UNIT [d]
  let s := s.on (unitKind u == 1 && unitSide u == c) fun s => s.rtAbandon d
  s.withdrawWith 0x0213 fun x => match x.req with | .comb y z _ _ => y == d && z == c | _ => false

/-- The contents of a stack from an offset on become undefined; the model's memory then lists nothing there (R197, R401). -/
def loseStack (s : State) (d h : Nat) : State :=
  let lo := memAddr d h 0
  { s with
    mem := s.mem.filter fun e => e.1 < lo || lo + 2 ^ 36 ≤ e.1
    library := s.library.filter fun e => !(e.die == d && (s.stackSets h).contains e.set) }

/-- A stack is withdrawn (R400). -/
def withdrawStack (s : State) (d h : Nat) : State :=
  let s := s.wr (if h = 0 then F.BOB_RETIRED.H0 else F.BOB_RETIRED.H1) [d] 1
  let s := s.wr (if h = 0 then F.BOB_RETIRED.LOGIC else F.BOB_RETIRED.POOL) [d] 1
  let s := s.on (h == 0) fun s => s.endSets d [2]
  let s := s.on (h == 1) fun s => { s with pool := s.pool.filter fun p => p.die != d }
  (s.withdrawChannel d h).loseStack d h

/-- A pseudo-channel is withdrawn (R180, R182, R400, R401): W falls, the LPCs close up, the sets stop with a MEM_RETIRE record. -/
def withdrawPc (s : State) (d h p : Nat) : State :=
  let w := s.rd F.MEM_STATUS.W [d, h]
  if w ≤ 16 then (s.wr F.MEM_PC_STAT.STATE [d, h, p] 3).withdrawStack d h
  else
    let s := s.each ((s.stackSets h).filter (s.armed d)) fun s a =>
      (s.gapRecord d a 3 (s.acqOf d a).next 0 (s.gapRef d a) 1).endArm d a 5
    let maps := (List.range w).map fun l => s.rd F.MEM_PC_MAP.PHYS [d, h, l]
    let s := s.each (maps.filter (· != p)).zipIdx fun s e => s.wr F.MEM_PC_MAP.PHYS [d, h, e.2] e.1
    let s := ((s.wr F.MEM_PC_STAT.STATE [d, h, p] 3).wr F.MEM_STATUS.W [d, h] (w - 1)).wr F.MEM_STATUS.DEPTH_REDUCED [d, h] 1
    let s := (s.loseStack d h).wr F.MEM_DEPTH.MIB [d, h] (14336 - 512 * (31 - (w - 1)))
    s.raise d 129 (h + 2 * (w - 1))

/-- A die is retired (R402): its endpoint drops its link, and what it ran stops. -/
def withdrawDie (s : State) (d : Nat) : State :=
  let s := s.endSets d [0, 1, 2]
  let s := s.each [0, 1] fun s c => ((s.wr F.CNV_STATUS.AVAILABLE [d, c] 0).accHalt d c 3).combAbort d c 0x0213
  let s := ((s.wr F.BOB_RETIRED.OTHER_DIE [otherDie d] 1).wr I.linkL0 [d] 0).syncCard.wr F.SVC_ATB.POINT [d] 0xFF
  s.rtAbandon d

/-- An SRAM bank of a queue memory is withdrawn: its 1,024 queues are disabled (R400). -/
def withdrawQueues (s : State) (d b : Nat) : State :=
  let on := s.regs.filterMap fun e => match e.1.ix with
    | [x, q] => if e.1.reg = .QUE_STATUS ∧ e.1.lo = 0 ∧ x = d ∧ q / 1024 = b then some q else none
    | _ => none
  (s.each on fun s q => s.queDrop d q).wr I.bankRetired [d, b] 1

/-- What a retirement withdraws (R400). -/
def withdrawUnit (s : State) (u : Nat) : State :=
  let d := unitDie u
  let c := unitSide u
  match unitKind u with
  | 1 => (s.wr F.CNV_SLICE_MAP.LANE_LOST [d, c, unitLane u] 1).withdrawChannel d c
  | 2 => s.withdrawPc d c (unitIndex u)
  | 3 => s.syncLanes (otherDie c)
  | 4 =>
    let n := unitIndex u
    let s := s.wr I.cmpRetired [d, n] 1
    let s := s.on (2 ≤ n && n ≤ 5) fun s => s.withdrawChannel d ((n - 2) / 2)
    s.on (6 ≤ n) fun s => s.wr F.CMP_WIN.STATE [d, (n - 6) / 2 + 1] 0
  | 5 => if unitLane u < 2 then (s.accHalt d (unitLane u) 3).wr I.engRetired [d, unitLane u] 1 else s.withdrawQueues d (unitIndex u)
  | 6 => s.withdrawChannel d c
  | 7 => s.withdrawStack d c
  | 8 => s.withdrawDie d
  | _ => s

/-- A retirement takes effect (R401): recorded, raised, a store write requested. The control die raises that of the other die. -/
def retire (s : State) (u : Nat) : State :=
  let s := { s with retiring := s.retiring.filter (· != u) }
  let s := ((s.withdrawUnit u).bobState u 4).syncDomains
  let w := if unitKind u = 2 then 2 ^ 16 * s.rd F.MEM_STATUS.W [unitDie u, unitSide u] else 0
  (s.raise (if unitKind u = 8 then s.control else unitDie u) 226 (u % 2 ^ 15 + w)).storeAsk

-- Splice lanes (R26, R398) -----------------------------------------------------------------------------------------

/-- Unit code of lane l of the direction that die d receives. -/
def laneUnit (d l : Nat) : Nat := unitCode 3 d (otherDie d) 0 l

/-- A lane fails (R389, R398): the direction runs one lane short until a spare has trained; a spare that fails is only recorded. -/
def laneLoss (s : State) (d l : Nat) : State :=
  if 28 ≤ l ∨ s.rd F.BOB_SPL_MARGIN.STATE [d, l] = 3 then s
  else if s.rd F.BOB_SPL_MARGIN.STATE [d, l] = 1 then
    (((s.wr F.BOB_SPL_MARGIN.STATE [d, l] 3).syncLanes d).bobPut (laneUnit d l) 5 (2 ^ 4)).spareUsed d 3 (laneUnit d l)
  else s.becomesLost (laneUnit d l) (2 ^ 4)

/-- The hourly retrain of an active lane begins, while a spare lane of its direction is free (R398). -/
def laneCheck (s : State) (d l : Nat) : State :=
  if (s.spareLane d).isNone ∨ 28 ≤ l ∨ s.rd F.BOB_SPL_MARGIN.STATE [d, l] ≠ 0 ∨ s.runs (.spliceRetrain d l) ∨ s.waits (.spliceRetrain d l) then s
  else
    let r := s.harvest d [d] (fun _ => 0) (s.cost 17) (.spliceRetrain d l) true none
    if r.2 = .granted then
      let s := r.1.claim ⟨.spliceRetrain d l, 3, d, [9]⟩
      s.on (s.runs (.spliceRetrain d l)) fun s => s.wr I.laneAt [d] s.now
    else r.1

/-- A retrain ends (R389, R398): a lane below 20 % stays out of service, and the spare keeps its traffic; margin 0: training failed. -/
def retrainDone (s : State) (d l margin : Nat) : State :=
  let u := laneUnit d l
  let s := (s.wr F.BOB_SPL_MARGIN.MARGIN [d, l] margin).release (.spliceRetrain d l)
  if 20 ≤ margin then s
  else
    let s := (s.wr F.BOB_SPL_MARGIN.STATE [d, l] (if margin = 0 then 3 else 2)).bobPut u (if margin = 0 then 3 else 2) (2 ^ 4)
    let s := s.raise d 224 (u % 2 ^ 15 + 2 ^ 15 * b2n (margin == 0) + 2 ^ 20)
    match s.spareLane d with
    | some p => (((s.wr F.BOB_SPL_MARGIN.STATE [d, p] 0).syncLanes d).spareUsed d 3 (laneUnit d p)).storeAsk
    | none => s.syncLanes d

/-- The training of a spare lane ends (R398): it carries the lane's traffic; where it fails, the next spare is tried for a lost lane. -/
def laneTrained (s : State) (d l margin : Nat) : State :=
  let u := laneUnit d l
  let p := s.rd I.laneSpare [d, l] - 1
  let lost := s.isSet F.BOB_ACTIVE.LOST [d]
  let s := (s.wr F.BOB_SPL_MARGIN.MARGIN [d, p] margin).wr I.laneSpare [d, l] 0
  if margin = 0 then
    let s := (s.wr F.BOB_SPL_MARGIN.STATE [d, p] 3).syncLanes d
    let s := (s.bobState (laneUnit d p) 5).rtOver d 3 0x0227
    if !lost then s
    else if (s.spareLane d).isSome then (s.rtRequest u true true none).1 else s.retireSoon u
  else
    let s := s.on (s.rd F.BOB_SPL_MARGIN.STATE [d, l] == 0) fun s => s.wr F.BOB_SPL_MARGIN.STATE [d, l] 2
    ((s.wr F.BOB_SPL_MARGIN.STATE [d, p] 0).syncLanes d).rtReplaced d 3 (laneUnit d p)

/-- A retrain, or the training of a spare lane, ends with a margin (R398). -/
def laneDone (s : State) (d l margin : Nat) : State :=
  if s.runs (.spliceRetrain d l) then s.retrainDone d l margin
  else if s.runs (.laneSwap d l) ∧ s.isSet I.laneSpare [d, l] then s.laneTrained d l margin
  else s

-- Comparators and SRAM banks (R300, R389, R399) ---------------------------------------------------------------------------

/-- A comparator spare in shadow agrees with its unit and takes over, or fails (R300). -/
def cmpSwapDone (s : State) (d u : Nat) (agrees : Bool) : State :=
  match s.cmpShadow d u with
  | none => s
  | some n =>
    let spare := unitCode 4 d 0 0 (12 + n)
    if agrees then (s.setCmpSpare d n 2 u).rtReplaced d 4 spare else ((s.setCmpSpare d n 3 u).cmpStart d u).rtFails d 4 spare

/-- The daily check of a comparator unit by an IDLE spare (R389): `steps` is the difference of the thresholds. -/
def cmpDaily (s : State) (d u steps : Nat) (switches : Bool) : State :=
  if (s.cmpIdle d).isNone ∨ 12 ≤ u ∨ s.isSet I.cmpRetired [d, u] then s
  else if !switches then s.becomesLost (unitCode 4 d 0 0 u) (2 ^ 5)
  else if 8 < steps then s.becomesWorn (unitCode 4 d 0 0 u) (2 ^ 5)
  else s

/-- The copy of an SRAM bank is complete: the bank is remapped (R399). -/
def sramDone (s : State) (d : Nat) : State :=
  let u := s.rd F.BOB_ACTIVE.UNIT [d]
  let k := unitLane u
  if unitKind u = 5 ∧ s.rd F.BOB_SRAM.STATE [d, k] = 1 then (s.wr F.BOB_SRAM.STATE [d, k] 2).rtReplaced d 5 (unitCode 5 d 0 k (unitIndex u)) else s

/-- The copy of a worn pseudo-channel is complete (R397). -/
def pcCopied (s : State) (d h : Nat) : State :=
  let u := s.rd F.BOB_ACTIVE.UNIT [d]
  let act := Activity.pcCopy d h (unitIndex u)
  if unitKind u = 2 ∧ unitSide u = h ∧ s.runs act then
    (((s.release act).wr F.BOB_ACTIVE.PHASE [d] 5).wr I.bobAt [d] s.now).raise d 225 (u + 2 ^ 16)
  else s

-- The scrub (R189) ---------------------------------------------------------------------------------------------------

/-- A codeword that the scrub reads with symbols in error (R187 to R189). -/
def scrubWord (s : State) (d h : Nat) (w : ReadWord) : State :=
  let r := decodeWord w.errs
  if r.bad then s.foundBad d false w
  else
    let s := s.noteCorrected d h w.word r.corrected
    s.on (!r.corrected.isEmpty) fun s => (s.count F.MEM_SCRUB_CE.COUNT [d, h] 1).incSat I.scrubFixed [d, h]

/-- A scrub grant of 1 ms (R189, R404): `n` codewords read in ascending offset, `words` those with symbols in error. -/
def scrubGrant (s : State) (d h n : Nat) (words : List ReadWord) : State :=
  let act := Activity.scrub d h
  if !s.domainOn d (29 + h) then s
  else
    let s := if s.runs act || s.waits act then s else s.claim ⟨act, 5, d, [4 + h]⟩
    if !s.runs act then s
    else
      let from_ := s.rd I.scrubPos [d, h] / 64
      let s := s.each (words.filter fun w => w.stack == h && decide (from_ ≤ w.word ∧ w.word < from_ + n)) fun s w => s.scrubWord d h w
      let pos := s.rd I.scrubPos [d, h] + 64 * n
      let size := guardedBytes (s.workingPcs d h)
      let s := s.release act
      if pos < size then (s.wr I.scrubPos [d, h] pos).wr F.MEM_SCRUB_STATUS.PROGRESS [d, h] (pos * 256 / max 1 size)
      else
        let fixedN := s.rd I.scrubFixed [d, h]
        let s := ((s.wr I.scrubPos [d, h] 0).wr F.MEM_SCRUB_STATUS.PROGRESS [d, h] 0).incSat F.MEM_SCRUB_STATUS.PASSES [d, h]
        (s.wr I.scrubFixed [d, h] 0).raise d 127 (h + 2 ^ 16 * fixedN)

end State

end Sys2Proof.Machine
end

