-- ==== Sys2Proof/Machine/TimeOps.lean ====
section
/-!
DEFINITION. The crystal and its reference loop, SYN and its ramps, AUX and the Calendar (R43 to R71).
-/

namespace Sys2Proof.Machine

/-- Binary digits of the logarithm of a mantissa in [1, 2), held as 112 fraction bits: each squaring gives one. -/
def log2Digits : Nat → Nat → Nat → Nat
  | 0, _, acc => acc
  | n + 1, m, acc =>
    let q := m * m / 2 ^ 112
    if 2 ^ 113 ≤ q then log2Digits n (q / 2) (2 * acc + 1) else log2Digits n q (2 * acc)

/-- The natural logarithm of a quotient of at least 1, times 2^64: its binary logarithm times ln 2 (R44). -/
def ln64 (num den : Nat) : Nat :=
  let k := Nat.log2 (num / den)
  (k * 2 ^ 64 + log2Digits 64 (num * 2 ^ 112 / (den * 2 ^ k)) 0) * 12786308645202655660 / 2 ^ 64

namespace State

/-- Core cycles of one second. -/
abbrev secondCycles : Nat := 1250000000

-- Oven and pull (R43, R44) ----------------------------------------------------------------------------

/-- The oven has been within 0.05 K of its set point for 10 s (R43). -/
def ovenReady (s : State) : State :=
  if s.isSet F.XTO_STATUS.OVEN_READY [] then s
  else ((s.wr F.XTO_STATUS.OVEN_READY [] 1).wr I.ovenFirst [] s.now).raisePkg 24 0

/-- 15 minutes after OVEN_READY was first set (R43). -/
def warmUp (s : State) : State :=
  s.on (s.isSet F.XTO_STATUS.OVEN_READY [] && !s.isSet F.XTO_STATUS.WARM [] && s.elapsed (s.rd I.ovenFirst []) (900 * secondCycles)) fun s =>
    (s.wr F.XTO_STATUS.WARM [] 1).raisePkg 24 0

/-- ln(1 + t / coef_tau) at an oven-on time in seconds, times 2^64 (R44). The formula divides by coef_tau: at 0 the value is left open. -/
def lnAge (s : State) (secs : Nat) : Int :=
  let tau := s.rd I.coefTau []
  if tau = 0 then Config.lnUnscaled secs else (ln64 (864 * tau + secs) (864 * tau) : Nat)

/-- The ageing term in pull DAC steps (R44): round(age_ppb / 0.000477). -/
def ageSteps (s : State) : Int :=
  let t := s.rd I.ovenOn []
  roundDiv (86400000 * sval 32 (s.rd I.coefA []) * s.lnAge t + sval 32 (s.rd I.coefB []) * t * 2 ^ 64) (477 * 86400 * 2 ^ 64)

/-- The pull DAC code (R44). -/
def pullCode (s : State) : Nat :=
  (max 0 (min 0xFFFFFF (0x800000 + sval 32 (s.rd I.factoryTrim []) - s.ageSteps + sval 25 (s.rd I.loopCorr [])))).toNat

-- The reference loop (R46 to R53) -------------------------------------------------------------------------

/-- State of the loop: 0 OFF, 1 THAW, 2 LOCKED, 3 WINTER. -/
def refState (s : State) : Nat := s.rd F.XTO_STATUS.REF_STATE []

/-- The role in force is WORKER: port 0 takes the place of the reference input (R414). -/
def skWorker (s : State) : Bool := s.rd F.SKN_CTRL.ROLE [] == 2

/-- The loop is enabled; ROLE = WORKER acts as ENABLE = 1 (R414). -/
def refEnabled (s : State) : Bool := s.isSet F.XTO_REF_CTRL.ENABLE [] || s.skWorker

/-- ALIGNED follows the role, port 0 and the loop, with SKN_ALIGN (R415, R425). -/
def syncAligned (s : State) : State :=
  let on := s.rd F.SKN_CTRL.ROLE [] == 1 || (s.skWorker && s.rd F.SKN_PORT_STATUS.STATE [0] == 3 && s.refState == 2)
  if on = s.isSet F.SKN_STATUS.ALIGNED [] then s
  else ((s.wrBool F.SKN_STATUS.ALIGNED [] on).raisePkg 241 (b2n on + 2 * s.rd I.joinDone [])).wr I.joinDone [] 0

/-- REF_STATE changes, with XTO_REF_STATE (R48, R72). -/
def setRef (s : State) (st : Nat) : State :=
  if s.refState = st then s else ((s.wr F.XTO_STATUS.REF_STATE [] st).raisePkg 25 0).syncAligned

/-- A reference period in fraction units. -/
def refPeriod (s : State) : Nat := if s.isSet F.XTO_REF_CTRL.REF_FREQ [] then 6553600 else 65536000

/-- ±20 ps in fraction units: 3.2 ticks. -/
def ps20 : Int := 13107

/-- The phase error of a reference edge measured at a DT (R47): wrapped into half a period either side of zero. -/
def phaseErr (s : State) (edge : Instant) : Int :=
  let p : Int := s.refPeriod
  let m := ((edge : Int) - s.rd I.phaseOrg []) % p
  if p < 2 * m then m - p else m

/-- The last measured phase error. -/
def heldErr (s : State) : Int := sval 32 (s.rd F.XTO_PHASE_ERR.ERR [])

/-- A measurement of the phase error; the time within ±20 ps runs from the first measurement that finds it there, and a slew ends there
(R47, R48, R50). -/
def noteErr (s : State) (err : Int) : State :=
  let s := s.wr F.XTO_PHASE_ERR.ERR [] (sfield 32 err)
  if -ps20 ≤ err ∧ err ≤ ps20 then
    (s.on (!s.isSet I.inOn []) fun s => (s.wr I.inOn [] 1).wr I.inSince [] s.now).on (s.isSet F.XTO_STATUS.SLEWING []) fun s =>
      (s.wr F.XTO_STATUS.SLEWING [] 0).raisePkg 27 0
  else s.wr I.inOn [] 0

/-- SLEW on a measurement (R48, R50): the crystal is offset by 1 ppb (2,096 pull DAC steps) against the error, and the phase-jump marks
carry the measurement's DT and error. -/
def refSlew (s : State) : State :=
  let err := s.rd F.XTO_PHASE_ERR.ERR []
  let s := (s.wr F.XTO_STATUS.SLEWING [] 1).wr I.loopCorr [] (sfield 25 (sval 25 (s.rd I.loopCorr []) + (if s.heldErr < 0 then 2096 else -2096)))
  s.each [0, 1] fun s d => s.each [0, 1, 2] fun s a => s.mark d a 4 (s.rd I.refEdge []) 0 0 err

/-- The measurement that leaves WINTER is judged by POLICY (R48, R49). -/
def refJudge (s : State) (err : Int) : State :=
  let s := s.noteErr err
  if -ps20 ≤ s.heldErr ∧ s.heldErr ≤ ps20 then s
  else
    let s := s.raisePkg 26 0
    match s.rd F.XTO_REF_CTRL.POLICY [] with
    | 0 => s.refSlew
    | 1 => s.wr F.XTO_STATUS.STEP_PENDING [] 1
    | _ => (s.setRef 3).wr F.XTO_STATUS.HOLD_WAIT [] 1

/-- The loop leaves OFF with its phase origin, or measures the error on leaving WINTER (R47, R48). -/
def refEnter (s : State) (edge : Instant) : State :=
  match s.refState with
  | 0 => (((s.wr I.phaseOrg [] edge).wr I.inOn [] 0).noteErr 0).setRef 1
  | 3 => ((s.wr I.inOn [] 0).setRef 1).refJudge (s.phaseErr edge)
  | _ => s

/-- The reference input is qualified; `edge` is the DT of a reference edge (R46). -/
def refQualified (s : State) (edge : Instant) : State :=
  if s.isSet F.XTO_STATUS.REF_PRESENT [] || s.skWorker then s
  else
    let s := (s.wr F.XTO_STATUS.REF_PRESENT [] 1).wr I.refEdge [] edge
    s.on s.refEnabled fun s => s.refEnter edge

/-- A loop that runs enters WINTER, its corrections dropped (R48, R52). -/
def refWinter (s : State) : State :=
  if s.refState = 0 then s
  else ((((s.wr F.XTO_STATUS.SLEWING [] 0).wr F.XTO_STATUS.STEP_PENDING [] 0).wr F.XTO_STATUS.HOLD_WAIT [] 0).wr I.inOn [] 0).setRef 3

/-- The reference is lost (R46, R48, R52, R414). -/
def refLost (s : State) : State :=
  let s := s.wr I.refAwait [] 0
  if s.isSet F.XTO_STATUS.REF_PRESENT [] then (s.wr F.XTO_STATUS.REF_PRESENT [] 0).refWinter else s

/-- ENABLE falls (R48). -/
def refOff (s : State) : State :=
  (((((s.wr F.XTO_STATUS.SLEWING [] 0).wr F.XTO_STATUS.STEP_PENDING [] 0).wr F.XTO_STATUS.HOLD_WAIT [] 0).wr I.inOn [] 0).wr I.phaseOrg [] 0).setRef 0

/-- RESUME by SLEW (1) or STEP (2) on the held measurement (R48); it acts only in WINTER with HOLD_WAIT = 1. -/
def refResume (s : State) (how : Nat) : State × Nat :=
  if s.refState = 3 ∧ s.isSet F.XTO_STATUS.HOLD_WAIT [] then
    let go := ((s.wr F.XTO_STATUS.HOLD_WAIT [] 0).setRef 1).raisePkg 26 0
    if how = 1 then (go.refSlew, 0)
    else if how = 2 then (go.wr F.XTO_STATUS.STEP_PENDING [] 1, 0)
    else (s, 0x0100)
  else (s, 0x0204)

/-- XTO_REF_CTRL (R48): a write of POLICY 3 leaves POLICY as it is, and a command that makes it is answered 0x0100 (R350). -/
def writeRefCtrl (v : Nat) (s : State) : State × Nat :=
  let was := s.refEnabled
  let s := (s.wr F.XTO_REF_CTRL.ENABLE [] (slice v 0 1)).wr F.XTO_REF_CTRL.REF_FREQ [] (slice v 1 1)
  let s := s.on (slice v 2 2 != 3) fun s => s.wr F.XTO_REF_CTRL.POLICY [] (slice v 2 2)
  let s := s.on (slice v 4 2 == 1 || slice v 4 2 == 2) fun s => (s.refResume (slice v 4 2)).1
  let s := if was && !s.refEnabled then s.refOff
    else s.on (!was && s.refEnabled && s.isSet F.XTO_STATUS.REF_PRESENT []) fun s => s.refEnter (s.rd I.refEdge [])
  (s, if slice v 2 2 = 3 then 0x0100 else 0)

/-- The error at a reference edge is measured; a worker measures it at ALIGN frames instead (R47, R414). -/
def refMeasure (s : State) (edge : Instant) : State :=
  if s.skWorker then s else (s.wr I.refEdge [] edge).noteErr (s.phaseErr edge)

/-- The pull DAC is recomputed once a second (R44), with the error measured then; the loop filter's contribution is left open,
and stands still while a slew offsets the crystal (R50). -/
def pullUpdate (s : State) (edge : Option Instant) : State :=
  if !s.elapsed (s.rd I.pullAt []) secondCycles then s
  else
    let s := s.wr I.ovenOn [] (s.rd I.ovenOn [] + 1)
    let s := s.on (s.refState == 1 || s.refState == 2) fun s =>
      let s := match edge with
        | some e => s.refMeasure e
        | none => s
      s.on (!s.isSet F.XTO_STATUS.SLEWING []) fun s => s.wrFree I.loopCorr []
    (s.wr I.pullAt [] s.now).wr F.XTO_PULL.PULL [] s.pullCode

/-- Each 24 h of oven-on time asks for a store write (R44, R117). -/
def ovenSave (s : State) : State :=
  s.on (s.rd I.ovenSaved [] + 86400 ≤ s.rd I.ovenOn []) fun s => (s.wr I.ovenSaved [] (s.rd I.ovenOn [])).storeAsk

/-- THAW becomes LOCKED after 1 s within ±20 ps, no step pending (R48). -/
def thawLock (s : State) : State :=
  s.on (s.refState == 1 && s.isSet I.inOn [] && !s.isSet F.XTO_STATUS.STEP_PENDING [] && !s.isSet F.XTO_STATUS.SLEWING []
    && s.elapsed (s.rd I.inSince []) secondCycles) fun s => s.setRef 2

/-- The slewed error reaches ±20 ps (R50). -/
def slewDone (s : State) (edge : Instant) : State :=
  s.on (s.isSet F.XTO_STATUS.SLEWING []) fun s => s.refMeasure edge

-- Ageing refit (R45) --------------------------------------------------------------------------------------

/-- A refit starts once it is admitted: it claims REF, and its gate begins with the grant (R45, R404). -/
def refitGo (s : State) : State :=
  let s := s.claim ⟨.refit, 6, s.control, [10]⟩
  s.on (s.runs .refit) fun s => s.wr I.refitAt [] s.now

/-- A refit is requested (R45); refused without a qualified reference or with the loop enabled. -/
def refitRequest (s : State) : State × Bool :=
  if !s.isSet F.XTO_STATUS.REF_PRESENT [] || s.refEnabled then (s.raisePkg 29 0, false)
  else
    let r := s.harvest s.control [0, 1] (fun _ => 0) (s.cost 14) .refit true none
    (if r.2 = .granted then r.1.refitGo else r.1, true)

/-- A measured point joins the history of up to 15 earlier points (R45, R115). -/
def refitPoint (s : State) (offset : Int) : State :=
  let v := s.rd I.ovenOn [] + 2 ^ 64 * sfield 32 offset
  let n := s.rd I.refitCount []
  if n < 15 then (s.wr I.refitPt [n] v).wr I.refitCount [] (n + 1)
  else (s.each (List.range 14) fun s k => s.wr I.refitPt [k] (s.rd I.refitPt [k + 1])).wr I.refitPt [14] v

/-- The points of a fit (R45): oven-on time in seconds and offset in 0.01 ppb, the history's and the new one. -/
def refitPoints (s : State) (offset : Int) : List (Nat × Int) :=
  ((List.range (s.rd I.refitCount [])).map fun k => (s.rd I.refitPt [k] % 2 ^ 64, sval 32 (s.rd I.refitPt [k] / 2 ^ 64)))
    ++ [(s.rd I.ovenOn [], sval 32 (sfield 32 offset))]

/-- The least-squares fit of coef_a and coef_b to points, by its two normal equations (R44, R45), in 0.001 ppb and 10^−6 ppb per day; none
where the points do not determine them. -/
def ageFit (s : State) (pts : List (Nat × Int)) : Option (Int × Int) :=
  let sum (f : Int → Int → Int → Int) : Int := (pts.map fun p => f (s.lnAge p.1) p.1 p.2).sum
  let ll := sum fun l _ _ => l * l
  let ld := sum fun l t _ => l * t
  let dd := sum fun _ t _ => t * t
  let ly := sum fun l _ y => l * y
  let dy := sum fun _ t y => t * y
  let det := ll * dd - ld * ld
  if det ≤ 0 then none
  else some (roundDiv (10 * 2 ^ 64 * (ly * dd - dy * ld)) det.toNat, roundDiv (864000000 * (dy * ll - ly * ld)) det.toNat)

/-- The fitted coefficients are taken; where the points do not determine them they are left open. -/
def takeFit (s : State) (fit : Option (Int × Int)) : State :=
  match fit with
  | some f => (s.wr I.coefA [] (sfield 32 f.1)).wr I.coefB [] (sfield 32 f.2)
  | none => (s.wrFree I.coefA []).wrFree I.coefB []

/-- The 1,000 s gate ends with an offset in 0.01 ppb (R45). -/
def refitEnd (s : State) (offset : Int) : State :=
  if !s.runs .refit || !s.elapsed (s.rd I.refitAt []) (1000 * secondCycles) then s
  else (((s.takeFit (s.ageFit (s.refitPoints offset))).refitPoint offset).release .refit).storeAsk.raisePkg 29 0

-- SYN (R54 to R63) -----------------------------------------------------------------------------------------

/-- SYN_STATUS.LOCK changes, with SYN_LOCK (R56, R57, R72). -/
def setLock (s : State) (d v : Nat) : State :=
  if s.rd F.SYN_STATUS.LOCK [d] = v then s
  else
    let s := if v = 1 then s.closeSpan .unlocked d 0 (s.blkOf d) else s.openSpan .unlocked d 0 (s.blkOf d)
    (s.wr F.SYN_STATUS.LOCK [d] v).raise d 30 0

/-- A coast ends, by re-lock or at the drift limit. -/
def coastOver (s : State) (d : Nat) : State := s.closeSpan .coast d 0 (s.blkOf d)

/-- SYN loses lock and coasts (R54, R56): the sample clock of an integer-mode die runs away from DT from here on. -/
def synLoss (s : State) (d : Nat) : State :=
  s.on (s.rd F.SYN_STATUS.LOCK [d] == 1) fun s =>
    let s := (s.openSpan .coast d 0 (s.blkOf d)).on (!s.fractional d) fun s => s.clkFrom d
    (s.wr F.SYN_STATUS.PHASE_DET [d] 0).setLock d 2

/-- A drift measurement in a coast, in 1/1,024 ppm (R56); beyond ±2 ppm the sets of the die end (R57, R213). -/
def synDrift (s : State) (d : Nat) (drift : Int) : State :=
  let lock := s.rd F.SYN_STATUS.LOCK [d]
  if lock = 2 ∨ lock = 3 then
    let s := s.wr F.SYN_DRIFT.DRIFT [d] (sfield 16 (satInt 16 drift))
    s.on (lock == 2 && (decide (drift > 2048) || decide (drift < -2048))) fun s =>
      ((s.coastOver d).setLock d 3).each [0, 1, 2] fun s a => s.on (s.armed d a) fun s => s.endArm d a 3
  else s

/-- SYN starts to re-lock: at a boundary with no channel of the die armed, or at once after LOST (R58). -/
def synRelock (s : State) (d : Nat) : State :=
  let lock := s.rd F.SYN_STATUS.LOCK [d]
  s.on (lock == 3 || (lock == 2 && !s.dieArmed d)) fun s => (s.coastOver d).setLock d 0

/-- SYN has locked in the mode of SYN_CTRL (R54, R59): the sample clock goes on from DT, and in integer mode, where sample indices are
taken from DT again, stages 7 and 8 restart (R124). -/
def synLock (s : State) (d : Nat) : State :=
  let m := s.rd F.SYN_CTRL.MODE [d]
  let old := s
  let s := s.on (!s.fractional d) fun s => s.clkFrom d
  let s := ((s.wr F.SYN_STATUS.MODE_ACTIVE [d] m).wr F.SYN_STATUS.PHASE_DET [d] (1 - m)).wr F.SYN_DRIFT.DRIFT [d] 0
  let s := (s.wr I.synFails [d] 0).setLock d 1
  s.on (m == 0) fun s => s.each [0, 1] fun s c => (s.rebase old d c).restartCond d c

/-- SYN completes a lock in a mode that clocks it (R54, R367). -/
def synLocked (s : State) (d : Nat) : State := s.on (s.domainOn d 2 && s.rd F.SYN_STATUS.LOCK [d] == 0) fun s => s.synLock d

/-- A lock attempt fails; the third in a row retires the die (R402). -/
def synFail (s : State) (d : Nat) : State :=
  if s.rd F.SYN_STATUS.LOCK [d] ≠ 0 ∨ s.dieRetired d then s
  else
    let n := s.rd I.synFails [d] + 1
    if n < 3 then s.wr I.synFails [d] n else (s.wr I.synFails [d] 0).retireSoon (unitCode 8 d 0 0 0)

/-- The offset takes a new value (R59, R61). -/
def setOffset (s : State) (d : Nat) (off : Int) : State := s.wr F.SYN_OFFSET.OFFSET [d] (sfield 24 off)

/-- The present offset, 1/32,768 ppm. -/
def offsetOf (s : State) (d : Nat) : Int := sval 24 (s.rd F.SYN_OFFSET.OFFSET [d])

/-- END_OFFSET and DURATION of a segment. -/
def rampEnd (s : State) (d k : Nat) : Int := sval 24 (s.rd F.SYN_RAMP_END.END_OFFSET [d, k])
def rampDur (s : State) (d k : Nat) : Nat := s.rd F.SYN_RAMP_DUR.DURATION [d, k]

/-- A segment that R60 refuses: outside ±250 ppm, duration 0, or steeper than 50 ppm per ms (1,250,000 cycles). -/
def rampBad (s : State) (d k : Nat) : Bool :=
  let z := s.rampEnd d k
  let from_ := if k = 0 then s.offsetOf d else s.rampEnd d (k - 1)
  decide (8192000 < z.natAbs) || s.rampDur d k == 0 || decide (50 * 32768 * s.rampDur d k < (z - from_).natAbs * 1250000)

/-- A start of the ramp (R60, R63); 0x0205 where it is refused. -/
def rampStart (s : State) (d : Nat) : State × Nat :=
  if !s.fractional d || s.isSet F.SYN_STATUS.RAMP_ACTIVE [d] || (List.range (s.rd F.SYN_CTRL.RAMP_LAST [d] + 1)).any (s.rampBad d) then
    (s.flag F.SYN_STATUS.RAMP_REJECT [d], 0x0205)
  else
    let s := ((s.wr F.SYN_STATUS.RAMP_ACTIVE [d] 1).wr F.SYN_STATUS.RAMP_SEG [d] 0).wr I.rampStart [d] (s.rd I.synClk [d])
    let s := (s.wr I.rampFrom [d] (s.rd F.SYN_OFFSET.OFFSET [d])).wr I.rampBase [d] (s.rd F.SYN_OFFSET.OFFSET [d])
    (s.each [0, 1] fun s c => s.wr F.SYN_ALIAS.SUSPECT [d, c] 0, 0)

/-- RAMP_ABORT (R61): SYN_OFFSET holds the present offset. -/
def rampAbort (s : State) (d : Nat) : State :=
  s.on (s.isSet F.SYN_STATUS.RAMP_ACTIVE [d]) fun s =>
    let o := s.offsetNow d
    ((s.setOffset d (o.1 / (max 1 o.2 : Nat))).wr F.SYN_STATUS.RAMP_ACTIVE [d] 0).raise d 31 0

/-- The sample rate at zero offset, Hz. -/
def nominalRate (s : State) : Nat := if s.paired then 320000000000 else 160000000000

/-- k of R63 for a peak seen at `f0` Hz at the ramp start and at `f1` Hz now. DESIGN CHOICE (log entry 87): ε is the change of offset since
the ramp start. -/
def aliasZone (s : State) (d : Nat) (f0 f1 : Nat) : Int :=
  let den := (s.offsetOf d - sval 24 (s.rd I.rampBase [d])) * s.nominalRate
  let num := ((f1 : Int) - f0) * 32768000000 * (if den < 0 then -1 else 1)
  roundDiv num (max 1 den.natAbs)

/-- The rate shift is at least 4 MHz (R63), with ε as in `aliasZone` (DESIGN CHOICE, log entry 87). -/
def aliasProbes (s : State) (d : Nat) : Bool :=
  decide (4000000 * 32768000000 ≤ (s.offsetOf d - sval 24 (s.rd I.rampBase [d])).natAbs * s.nominalRate)

/-- The alias probe of a channel at a segment end (R63): `peaks`, the strongest first, each at the ramp start and now. -/
def aliasProbe (s : State) (d c : Nat) (peaks : List (Nat × Nat)) : State :=
  if !bitAt (s.rd F.SYN_CTRL.ALIAS_EN [d]) c || (s.paired && c == 1) || !s.aliasProbes d then s
  else match (peaks.take 8).find? fun p => s.aliasZone d p.1 p.2 != 0 with
    | none => s
    | some p =>
      let k := s.aliasZone d p.1 p.2
      let fs := ((s.nominalRate : Int) * (32768000000 + s.offsetOf d)) / 32768000000
      let f : Int := if 0 < k then k * fs - p.2 else -k * fs + p.2
      let was := s.isSet F.SYN_ALIAS.SUSPECT [d, c]
      let s := ((s.wr F.SYN_ALIAS.SUSPECT [d, c] 1).wr F.SYN_ALIAS.ZONE [d, c] k.natAbs).wrBool F.SYN_ALIAS.SIGN [d, c] (decide (0 < k))
      (s.wr F.SYN_ALIAS.EST_MHZ [d, c] ((f + 500000) / 1000000).toNat).on (!was) fun s => s.raise d 32 0

/-- A ramp segment ends (R60, R61, R63): `peaks` per channel. -/
def rampSegment (s : State) (d : Nat) (peaks : List (List (Nat × Nat))) : State :=
  let k := s.rd F.SYN_STATUS.RAMP_SEG [d]
  if !s.isSet F.SYN_STATUS.RAMP_ACTIVE [d] || decide (s.rampCycles d < s.rampDur d k) then s
  else
    let s := s.setOffset d (s.rampEnd d k)
    let s := s.each [0, 1] fun s c => s.aliasProbe d c (peaks.getD c [])
    let next := fun (s : State) (n : Nat) =>
      ((s.wr F.SYN_STATUS.RAMP_SEG [d] n).wr I.rampFrom [d] (s.rd F.SYN_OFFSET.OFFSET [d])).wr I.rampStart [d]
        (s.rd I.rampStart [d] + clkBlock * s.rampDur d k)
    if k < s.rd F.SYN_CTRL.RAMP_LAST [d] then next s (k + 1)
    else if s.isSet F.SYN_CTRL.RAMP_REPEAT [d] then next s 0
    else (s.wr F.SYN_STATUS.RAMP_ACTIVE [d] 0).raise d 31 0

/-- SYN_CTRL (R59, R60, R61): the whole write is ignored where it changes MODE while a channel is armed. -/
def writeSynCtrl (d v : Nat) (s : State) : State × Nat :=
  let change := slice v 0 1 != s.rd F.SYN_CTRL.MODE [d]
  if change && s.dieArmed d then (s.flag F.SYN_STATUS.MODE_REJECT [d], armedCode)
  else
    let s := ((s.wr F.SYN_CTRL.RAMP_REPEAT [d] (slice v 3 1)).wr F.SYN_CTRL.RAMP_LAST [d] (slice v 4 6)).wr F.SYN_CTRL.ALIAS_EN [d] (slice v 10 2)
    let s := s.on change fun s =>
      let s := ((s.setOffset d 0).wr F.SYN_CTRL.MODE [d] (slice v 0 1)).wr F.SYN_STATUS.RAMP_ACTIVE [d] 0
      ((s.coastOver d).wr F.SYN_STATUS.PHASE_DET [d] 0).setLock d 0
    let r := if bitAt v 1 then s.rampStart d else (s, 0)
    (r.1.on (bitAt v 2) fun s => s.rampAbort d, r.2)

/-- SYN_RAMP_END and SYN_RAMP_DUR (R61): ignored while a ramp is active. -/
def writeRamp (d : Nat) (f : Fld) (k v : Nat) (s : State) : State := s.on (!s.isSet F.SYN_STATUS.RAMP_ACTIVE [d]) fun s => s.wr f [d, k] v

-- AUX (R64, R65) ---------------------------------------------------------------------------------------------

/-- AUX_CTRL (R64): SPREAD_DEPTH above 50 makes the write ignored; SPREAD_MODE 3 leaves the mode as it is. -/
def writeAuxCtrl (d v : Nat) (s : State) : State × Nat :=
  if 50 < slice v 2 6 then (s, 0x0100)
  else
    let s := s.wr F.AUX_CTRL.SPREAD_DEPTH [d] (slice v 2 6)
    if slice v 0 2 = 3 then (s, 0x0100) else (s.wr F.AUX_CTRL.SPREAD_MODE [d] (slice v 0 2), 0)

/-- AUX loses lock (R65). -/
def auxLost (s : State) (d : Nat) : State :=
  s.on (s.isSet F.AUX_STATUS.LOCKED [d]) fun s =>
    ((((s.wr F.AUX_STATUS.LOCKED [d] 0).wr F.AUX_STATUS.COAST [d] 1).wr F.AUX_STATUS.FALLBACK [d] 1).wr I.auxLoss [d] s.now).raise d 33 0

/-- The 2 ms coast ends without a lock (R65, R374): both outputs blank. -/
def auxCoastEnd (s : State) (d : Nat) : State :=
  s.on (s.isSet F.AUX_STATUS.COAST [d] && s.elapsed (s.rd I.auxLoss [d]) 2500000) fun s =>
    let s := (s.wr F.AUX_STATUS.COAST [d] 0).each [0, 1] fun s e => s.on (!s.dieRetired e) fun s => (s.wr F.AUX_STATUS.BLANKED [e] 1).raise e 33 0
    s.wake 9 0 0

/-- AUX locks again (R65): blanked outputs retrain their links once neither die has lost its AUX. -/
def auxLock (s : State) (d : Nat) : State :=
  s.on (!s.isSet F.AUX_STATUS.LOCKED [d]) fun s =>
    let s := ((s.wr F.AUX_STATUS.LOCKED [d] 1).wr F.AUX_STATUS.COAST [d] 0).wr F.AUX_STATUS.FALLBACK [d] 0
    (s.raise d 33 0).each [0, 1] fun s e =>
      s.on (s.isSet F.AUX_STATUS.BLANKED [e] && (s.isSet F.AUX_STATUS.LOCKED [0] || s.dieRetired 0)
        && (s.isSet F.AUX_STATUS.LOCKED [1] || s.dieRetired 1)) fun s => s.wr I.scnRetrain [e] 1

-- The Calendar (R66 to R71) -----------------------------------------------------------------------------------

/-- The DT of a cue. -/
def cueDt (s : State) (d n : Nat) : Instant := 4096 * s.rd F.CUE.DT_TICKS [d, n] + s.rd F.CUE.DT_FRAC [d, n]

/-- A PENDING cue executes in this cycle (R53, R67): a late or stepped one in the cycle after it became so. -/
def cueDue (s : State) (d n : Nat) : Bool :=
  s.rd F.CUE.STATE [d, n] == 1
    && (if s.isSet F.CUE.LATE [d, n] || s.isSet F.CUE.STEPPED [d, n] then decide (s.rd I.cueSince [d, n] < s.now)
      else s.dueOn d (s.rd F.CUE.DT_TICKS [d, n]))

/-- A word of a cue's entry (R66, R71). -/
def writeCueWord (d n w v : Nat) (s : State) : State :=
  if s.rd F.CUE.STATE [d, n] = 1 then
    if w = 2 then s.on (slice v 24 8 == 4 && !s.cueDue d n) fun s => s.endCue d n 4
    else s.on (w < 6) fun s => s.flag F.CLD_STATUS.WRITE_IGNORED [d]
  else match w with
    | 0 => s.wr F.CUE.DT_TICKS [d, n] (putWord (s.rd F.CUE.DT_TICKS [d, n]) 0 v)
    | 1 => s.wr F.CUE.DT_TICKS [d, n] (putWord (s.rd F.CUE.DT_TICKS [d, n]) 1 v)
    | 2 => ((s.wr F.CUE.DT_FRAC [d, n] (slice v 0 12)).wr F.CUE.ACTION [d, n] (slice v 16 8)).on (slice v 24 8 == 1) fun s => s.armCue d n
    | 3 => (s.wr F.CUE.TARGET [d, n] (slice v 0 16)).wr F.CUE.NOTIFY [d, n] (slice v 24 1)
    | 4 => s.wr F.CUE.PARAM [d, n] v
    | _ => s

/-- The set that TARGET names on the die (R68): a global channel, or the logic channels. -/
def cueSet (d target : Nat) : Option Nat :=
  if target = 0x10 then some 2 else if target < 4 ∧ target / 2 = d then some (target % 2) else none

/-- SNAPSHOT (R68). -/
def cueSnapshot (s : State) (d param : Nat) : State :=
  let s := s.on (bitAt param 0) fun s => s.each (List.range 8) fun s u => s.wr F.TIM_SNAP.COUNT [d, u] (s.rd F.TIM_TOTAL.COUNT [d, u])
  let s := s.on (bitAt param 1) fun s =>
    let s := s.each (List.range 12) fun s t => s.wr F.TRG_TERM_SNAP.COUNT [d, t] (s.rd F.TRG_TERM_COUNT.COUNT [d, t])
    s.each [0, 1] fun s q => s.wr F.TRG_TRIG_SNAP.COUNT [d, q] (s.rd I.trigTotal [d, q])
  s.on (bitAt param 2) fun s => s.each (List.range 12) fun s u => s.wr F.CMP_SNAP.COUNT [d, u] (s.rd F.CMP_COUNT.COUNT [d, u])

/-- The action of a cue at an instant, with the code of a failure (R68, R69). -/
def cueAction (s : State) (d n : Nat) (t : Instant) : State × Nat :=
  let target := s.rd F.CUE.TARGET [d, n]
  let param := s.rd F.CUE.PARAM [d, n]
  let onSet (f : State → Nat → State × Nat) : State × Nat := match cueSet d target with
    | some a => f s a
    | none => (s, 0x0101)
  let onChan (f : State → Nat → State) : State × Nat := match cueSet d target with
    | some a => if a < 2 then (f s a, 0) else (s, 0x0101)
    | none => (s, 0x0101)
  match s.rd F.CUE.ACTION [d, n] with
  | 1 => onSet fun s a => let r := s.requestArm d a t true none; (r.1, r.2.status)
  | 2 => onSet fun s a => (s.requestStop d a t, 0)
  | 3 => onChan fun s c => s.forceTrigger d (s.seqOf d c) t true
  | 4 => onChan fun s c => s.firRequest d c (param % 2) (some t)
  | 5 => s.rampStart d
  | 6 => (s.cueSnapshot d param, 0)
  | 7 => onChan fun s c => s.mark d c 3 t 0 0 param
  | 8 =>
    if d ≠ s.control ∨ 5 ≤ target then (s, 0x0101)
    else if target = 0 ∧ s.skWorker then (s, 0x0232)
    else (s.emit (.skeinSync target t), 0)
  | _ => (s, 0x0100)

/-- A PENDING cue executes (R67 to R70); a late or stepped cue takes the first tick of the block. -/
def cueRun (s : State) (d n : Nat) : State :=
  if !s.cueDue d n then s
  else
    let late := s.isSet F.CUE.LATE [d, n]
    let moved := late || s.isSet F.CUE.STEPPED [d, n] || !s.landsOn d (s.rd F.CUE.DT_TICKS [d, n])
    let r := s.cueAction d n (if moved then 4096 * s.blkOf d else s.cueDt d n)
    let s := if r.2 = 0 then
        ((r.1.wr F.CUE.EXEC_TICK [d, n] (s.blkOf d)).endCue d n 2).on (s.isSet F.CUE.NOTIFY [d, n]) fun s => s.raise d 34 0
      else ((r.1.wr F.CUE.STATUS [d, n] r.2).endCue d n 3).raise d 36 0
    s.on late fun s => (s.count F.CLD_LATE_COUNT.COUNT [d] 1).raise d 35 0

/-- The cues of a die that wait for a DT in `[a, b)`, in ascending DT, ties by index (R53, R67). -/
def cuesBetween (s : State) (d a b : Nat) : List Nat :=
  let mine := (List.range 256).filter fun n =>
    s.rd F.CUE.STATE [d, n] == 1 && decide (a ≤ s.rd F.CUE.DT_TICKS [d, n]) && decide (s.rd F.CUE.DT_TICKS [d, n] < b)
  mine.mergeSort fun x y => decide (s.cueDt d x ≤ s.cueDt d y)

/-- The cues of a die that are due in this cycle and come before cue n: ascending DT, ties by index (R67). -/
def cuesBefore (s : State) (d n : Nat) : List Nat :=
  let mine := (List.range 256).filter fun m =>
    m != n && s.cueDue d m && (decide (s.cueDt d m < s.cueDt d n) || (s.cueDt d m == s.cueDt d n && decide (m < n)))
  mine.mergeSort fun x y => decide (s.cueDt d x ≤ s.cueDt d y)

/-- A cue executes, after the cues of its die that are due in the same cycle and come before it: ascending DT, ties by index (R67). -/
def cueExecute (s : State) (d n : Nat) : State :=
  if !s.cueDue d n then s
  else (s.each (s.cuesBefore d n) fun s m => s.cueRun d m).cueRun d n

/-- FIR_SWAP is among what a cue's execution brings: it waits for the end of the cycle, after a register's or the mailbox's request (R140). -/
def cueSwaps (s : State) (d n : Nat) : Bool := (n :: s.cuesBefore d n).any fun m => s.rd F.CUE.ACTION [d, m] == 4

/-- The pending step applies (R51 to R53): at a boundary with no channel of the package armed. Cues that a forward step skips are STEPPED,
and execute in the next cycle. DESIGN CHOICE (log entry 83): XTO_PHASE_ERR shows 0 from then on, and the second within ±20 ps begins, though nothing
is measured at that moment. -/
def stepApply (s : State) : State :=
  if !s.isSet F.XTO_STATUS.STEP_PENDING [] || !s.isSet F.XTO_STATUS.REF_PRESENT [] || s.anyArmed then s
  else
    let off := -s.heldErr
    let before := s
    let old := s.dt
    let new := ((4096 * s.dt + s.rd I.dtFrac [] : Nat) + off) % (2 ^ 76 : Nat)
    let s := ((s.wr F.XTO_STEP_AT.AT [] s.blk).wr F.XTO_STEP_TICKS.TICKS [] (sfield 64 (off / 4096))).wr F.XTO_STEP_FRAC.FRAC [] (off % 4096).toNat
    let s := { s with dt := (new / 4096).toNat, dtPrev := old }
    let s := (s.wr I.dtFrac [] (new % 4096).toNat).wr F.XTO_STATUS.STEP_PENDING [] 0
    let s := s.on (s.isSet F.SKN_STATUS.JOIN_STEP_PENDING []) fun s => (s.wr F.SKN_STATUS.JOIN_STEP_PENDING [] 0).wr I.joinDone [] 1
    let s := s.each [0, 1] fun s d => s.each [0, 1, 2] fun s a => s.on (!s.isSet I.libStepped [d, a]) fun s => (s.wr I.libStepped [d, a] 1).wr I.libStepAt [d, a] s.now
    let s := (s.noteErr 0).raisePkg 28 0
    let s := s.each [(0, 0), (0, 1), (1, 0), (1, 1)] fun s p => s.rebase before p.1 p.2
    s.each [0, 1] fun s d => s.each (if 0 < off then s.cuesBetween d (old / 128 * 128) s.dt else []) fun s n =>
      (s.wr F.CUE.STEPPED [d, n] 1).wr I.cueSince [d, n] s.now

end State

end Sys2Proof.Machine
end

