-- ==== Sys2Proof/Machine/SkeinOps.lean ====
section
/-!
DEFINITION. Skein: ports, frames, alignment, term summaries, the global sequencer and violations (R408 to R425).
-/

namespace Sys2Proof.Machine

-- Frames (R411) -------------------------------------------------------------------------------------------

/-- Frame TYPEs (R411). -/
abbrev fSummary : Nat := 1
abbrev fTrigger : Nat := 2
abbrev fIdle : Nat := 3
abbrev fAlign : Nat := 4
abbrev fEchoReq : Nat := 5
abbrev fEchoRsp : Nat := 6
abbrev fJoin : Nat := 7
abbrev fJoinAck : Nat := 8
abbrev fNak : Nat := 9

/-- The fields of a TYPE as lowest bit and width, after TYPE and before the CRC (R411). -/
def frameFields : Nat → List (Nat × Nat)
  | 1 => [(16, 9), (25, 3), (31, 1), (32, 16), (48, 8), (57, 4), (64, 64), (128, 352)]
  | 2 => [(32, 32), (64, 64), (128, 64), (192, 12), (208, 8), (216, 8), (224, 3)]
  | 3 => [(32, 32), (64, 64)]
  | 4 => [(64, 64), (128, 12), (160, 64), (224, 12), (240, 1)]
  | 5 => [(32, 32), (64, 64), (128, 12)]
  | 6 => [(32, 32), (64, 64), (128, 12), (192, 64), (256, 12)]
  | 7 => [(48, 8)]
  | 8 => [(16, 9), (32, 8), (40, 1)]
  | 9 => [(32, 8), (40, 8), (64, 64)]
  | _ => []

/-- The bits 8 to 479 of a frame that its TYPE names. -/
def frameMask (type : Nat) : Nat := ((frameFields type).map fun x => 2 ^ x.1 * (2 ^ x.2 - 1)).sum

/-- The CRC-32 of bytes 0 to 59 of a frame (R114, R411). -/
def frameCrc (bytes : List Byte) : Nat := crc32 ((bytes.take 60).map (·.toNat))

/-- A frame made from fields, each a lowest bit, a width and a value. -/
def frameOf (type : Nat) (fields : List (Nat × Nat × Nat)) : List Byte :=
  let body := le 60 (type + (fields.map fun x => 2 ^ x.1 * (x.2.2 % 2 ^ x.2.1)).sum)
  body ++ le 4 (frameCrc body)

/-- The bits of a frame as one number; a frame is 64 bytes. -/
def frameBits (bytes : List Byte) : Nat := ofLe (bytes.take 64)

/-- TYPE of a frame. -/
def frameType (bytes : List Byte) : Nat := slice (frameBits bytes) 0 8

/-- TYPEs that arrive at port 0 come down, those that arrive at ports 1 to 4 go up (R411). -/
def frameDirOk (p type : Nat) : Bool := if p = 0 then [2, 3, 4, 5, 8, 9].contains type else [1, 6, 7, 9].contains type

/-- Frames with PERIOD_TICKS: SUMMARY one stream, TRIGGER and IDLE the other (R411, R423). -/
def frameStream (type : Nat) : Option Nat := if type = 1 then some 1 else if type = 2 ∨ type = 3 then some 2 else none

namespace State

/-- SKN_CTRL.ROLE: 1 MANAGER. -/
def skManager (s : State) : Bool := s.rd F.SKN_CTRL.ROLE [] == 1

/-- Depth of this device (R409). -/
def skDepth (s : State) : Nat := s.rd F.SKN_STATUS.DEPTH []

/-- STATE of a port: 0 DOWN, 1 TRAINING, 2 MEASURING, 3 ACTIVE, 4 FENCED, 5 REFUSED, 6 LONG. -/
def portState (s : State) (p : Nat) : Nat := s.rd F.SKN_PORT_STATUS.STATE [p]

/-- Ports that are ACTIVE, among 1 to 4. -/
def portsBelow (s : State) : List Nat := [1, 2, 3, 4].filter fun p => s.portState p == 3

/-- The path of the device at a downstream port (R409). -/
def portPath (s : State) (p : Nat) : Nat := s.rd F.SKN_STATUS.PATH [] + p * 8 ^ (2 - s.skDepth)

/-- Workers below the device. -/
def workersBelow (s : State) : Nat := (s.portsBelow.map fun p => s.rd F.SKN_PORT_STATUS.SUBTREE [p]).sum

/-- WORKERS on a manager (R409). -/
def syncWorkers (s : State) : State := s.wr F.SKN_STATUS.WORKERS [] (if s.skManager then s.workersBelow else 0)

/-- A frame is sent on a port. -/
def sendFrame (s : State) (p type : Nat) (fields : List (Nat × Nat × Nat)) : State := s.emit (.skeinFrame p (frameOf type fields))

/-- What a port forgets when it leaves service. -/
def portForget (s : State) (p : Nat) : State :=
  let s := ((s.wr I.skPrevOn [p, 1] 0).wr I.skPrevOn [p, 2] 0).wr I.skBelow [p] 0
  let s := ((s.wr I.skEchoN [p] 0).wr I.skEchoPos [p] 0).wr I.skEchoWait [p] 0
  let s := s.wr F.SKN_PORT_STATUS.SUBTREE [p] 0
  s.on (p == 0) fun s => ((s.wr I.skAck [] 0).wr I.skErrSum [] 0).wr I.skErrN [] 0

/-- STATE of a port changes, with SKN_PORT (R415, R425); port 0 that leaves ACTIVE loses the reference (R414). -/
def setPort (s : State) (p st : Nat) : State :=
  let old := s.portState p
  if old = st then s
  else
    let s := s.wr F.SKN_PORT_STATUS.STATE [p] st
    let s := s.on (old == 2 || old == 3) fun s => s.on (st != 3) fun s => s.portForget p
    let s := s.on (old == 3 && 0 < p && st != 4) fun s => s.wr I.skCause [p] 2
    let s := s.on (st == 3) fun s => s.wr I.skCause [p] 0
    let s := (s.raisePkg 240 (p + 8 * st)).syncWorkers
    s.on (p == 0) fun s => (s.on (old == 3) fun s => s.refLost).syncAligned

/-- A port may be in service: enabled, its role, its depth, its domain (R409, R367). -/
def portMay (s : State) (p : Nat) : Bool :=
  bitAt (s.rd F.SKN_CTRL.PORT_EN []) p && s.mode != .hold && s.mode != .vigil
    && (if p = 0 then s.skWorker else s.skManager || (s.skWorker && s.skDepth < 3))

/-- Ports that may not be in service are DOWN; those that may leave DOWN and train (R409, R415). -/
def syncPorts (s : State) : State :=
  s.each (List.range 5) fun s p =>
    if !s.portMay p then s.setPort p 0 else s.on (s.portState p == 0) fun s => s.setPort p 1

/-- A port that was in service goes DOWN and trains again (R415). -/
def portLost (s : State) (p : Nat) : State := (s.setPort p 0).syncPorts

/-- An acquisition set named in SKN_TRIG_SEL is armed (R410). -/
def skSetsArmed (s : State) : Bool := anyBelow 2 fun d => anyBelow 3 fun a => s.skeinSelected d a && s.armed d a

/-- The role in force changes: the tree is left (R409, R414, R416). -/
def changeRole (s : State) (role : Nat) : State :=
  let s := s.each (List.range 5) fun s p => s.setPort p 0
  let s := (s.wr F.SKN_CTRL.ROLE [] role).wr F.SKN_STATUS.ROLE_ACT [] role
  let s := s.refOff.wr F.XTO_STATUS.REF_PRESENT [] 0
  let s := ((s.wr F.SKN_STATUS.JOIN_STEP_PENDING [] 0).wr I.refAwait [] 0).wr I.skSeen [] 0
  let s := (s.wr F.SKN_STATUS.DEPTH [] 0).wr F.SKN_STATUS.PATH [] 0
  let s := s.on (role != 1) fun s => s.wr F.SKN_GSEQ_CTRL.RUN [] 0
  let s := { s with summaries := [] }
  let s := ((s.wr I.skSent [] 0).wr I.skBcast [] 0).wr I.skMiss [] 0
  let s := s.each [1, 2, 3, 4] fun s p => s.wr I.skCause [p] 0
  s.syncAligned.syncWorkers

/-- A write that R410 ignores. -/
def skReject (s : State) : State := s.flag F.SKN_STATUS.CFG_REJECT []

/-- SKN_CTRL (R409, R410): ROLE 3 leaves the role as it is. -/
def writeSknCtrl (v : Nat) (s : State) : State × Nat :=
  if s.skSetsArmed then (s.skReject, 0x0212)
  else
    let s := (s.wr F.SKN_CTRL.PORT_EN [] (slice v 2 5)).wr F.SKN_CTRL.GTRIG_EVT_EN [] (slice v 7 1)
    let role := slice v 0 2
    let s := s.on (role != 3 && role != s.rd F.SKN_CTRL.ROLE []) fun s => s.changeRole role
    (s.syncPorts, if role = 3 then 0x0100 else 0)

/-- SKN_TRIG_SEL (R410). -/
def writeSknTrigSel (v : Nat) (s : State) : State × Nat :=
  if s.skSetsArmed then (s.skReject, 0x0212)
  else ((s.wr F.SKN_TRIG_SEL.DIE0 [] (slice v 0 3)).wr F.SKN_TRIG_SEL.DIE1 [] (slice v 3 3), 0)

/-- SKN_GTERM (R410). -/
def writeSknGterm (t v : Nat) (s : State) : State × Nat :=
  if s.skSetsArmed then (s.skReject, 0x0212)
  else ((s.wr F.SKN_GTERM.GTERM [t] (slice v 0 4)).wr F.SKN_GTERM.EN [t] (slice v 4 1), 0)

/-- SKN_GSEQ_HOLDOFF (R410). -/
def writeGseqHoldoff (v : Nat) (s : State) : State × Nat :=
  if s.isSet F.SKN_GSEQ_CTRL.RUN [] then (s.skReject, 0x0212) else (s.wr F.SKN_GSEQ_HOLDOFF.TICKS [] v, 0)

/-- A word of the global sequencer table, in the layout of R177 (R410, R420). -/
def writeGseqState (i w v : Nat) (s : State) : State × Nat :=
  if s.isSet F.SKN_GSEQ_CTRL.RUN [] then (s.skReject, 0x0212)
  else match w with
    | 0 => ((s.wr F.GSEQ_STATE.ADV_MASK [i] (slice v 0 16)).wr F.GSEQ_STATE.RST_MASK [i] (slice v 16 16), 0)
    | 1 =>
      let s := (s.wr F.GSEQ_STATE.NEXT [i] (slice v 0 4)).wr F.GSEQ_STATE.RST_TO [i] (slice v 8 4)
      ((s.wr F.GSEQ_STATE.QUAL [i] (slice v 16 2)).wr F.GSEQ_STATE.ENTRY [i] (slice v 24 2), 0)
    | 2 => (s.wr F.GSEQ_STATE.QUAL_VALUE [i] (putWord (s.rd F.GSEQ_STATE.QUAL_VALUE [i]) 0 v), 0)
    | 3 => (s.wr F.GSEQ_STATE.QUAL_VALUE [i] (putWord (s.rd F.GSEQ_STATE.QUAL_VALUE [i]) 1 v), 0)
    | _ => (s, 0)

-- The global sequencer's start (R175, R420) ---------------------------------------------------------------

/-- A state of the global table fails the row of R175 for the sequencer table, or has an ENTRY that R420 does not allow. -/
def gseqStateBad (s : State) (i : Nat) : Bool :=
  let last := s.rd F.SKN_GSEQ_CTRL.LAST []
  let adv := s.rd F.GSEQ_STATE.ADV_MASK [i]
  let entry := s.rd F.GSEQ_STATE.ENTRY [i]
  let qual := s.rd F.GSEQ_STATE.QUAL [i]
  let v := s.rd F.GSEQ_STATE.QUAL_VALUE [i]
  2 ≤ entry || (entry != 1 && last < s.rd F.GSEQ_STATE.NEXT [i]) || last < s.rd F.GSEQ_STATE.RST_TO [i]
    || Nat.land adv (s.rd F.GSEQ_STATE.RST_MASK [i]) != 0 || (i == 0 && entry == 1) || (entry != 1 && adv == 0)
    || (qual == 3 && v % 2 ^ 32 == 0) || ((qual == 1 || qual == 2) && v == 0)

/-- The check of RUN = 1 on the manager (R175, R420). -/
def gseqCheck (s : State) : Nat :=
  let last := s.rd F.SKN_GSEQ_CTRL.LAST []
  if last = 0 ∨ (List.range (last + 1)).any s.gseqStateBad ∨ !(List.range (last + 1)).any fun i => s.rd F.GSEQ_STATE.ENTRY [i] == 1
  then 0x0163 else 0

/-- The global sequencer enters a state with an entry DT. -/
def gseqEnter (s : State) (st : Nat) (dt : Instant) : State :=
  ((s.wr F.SKN_GSEQ_STATUS.STATE [] st).wr I.gsEntry [] dt).wr I.gsCount [] 0

/-- Run flags of the global sequencer cleared. -/
def gseqClear (s : State) : State := (((s.wr I.gsCoin [] 0).wr I.gsLate [] 0).wr I.gsTaken [] 0).wr I.gsOther [] 0

/-- RUN = 1 starts the global sequencer in state 0, or is refused (R420). -/
def gseqRun (s : State) : State × Nat :=
  let k := if s.skManager then s.gseqCheck else 0x0231
  let s := s.wr F.SKN_GSEQ_STATUS.ARM_CHECK [] k
  if k ≠ 0 then (s, k)
  else
    let s := ((s.wr F.SKN_GSEQ_CTRL.RUN [] 1).gseqEnter 0 (4096 * s.blk)).gseqClear
    ((s.wr I.gsDead [] 0).wr I.gsHold [] 0, 0)

/-- SKN_GSEQ_CTRL (R410, R420). -/
def writeGseqCtrl (v : Nat) (s : State) : State × Nat :=
  if s.isSet F.SKN_GSEQ_CTRL.RUN [] then
    let bad := slice v 0 4 != s.rd F.SKN_GSEQ_CTRL.LAST []
    ((s.on bad fun s => s.skReject).wr F.SKN_GSEQ_CTRL.RUN [] (slice v 4 1), if bad then 0x0212 else 0)
  else
    let s := s.wr F.SKN_GSEQ_CTRL.LAST [] (slice v 0 4)
    if bitAt v 4 then s.gseqRun else (s, 0)

-- Violations (R423, R424) ---------------------------------------------------------------------------------

/-- Violations of a port within the last second, the present one among them (SKN_PORT_VIOL.RECENT). -/
def skRecent (s : State) (p : Nat) : Nat :=
  ((List.range (s.rd I.skViolN [p])).filter fun k => dtSub s.blk (s.rd I.skViol [p, k]) < oneSecond).length

/-- Count a violation: NAK, event, and the fence at the 64th within a second (R423, R424). -/
def skViolate (s : State) (p reason type : Nat) : State :=
  let s := s.sendFrame p fNak [(32, 8, reason), (40, 8, type), (64, 64, s.blk)]
  let k := s.rd I.skViolPos [p]
  let before := s.rd I.skViol [p, (k + 1) % 64]
  let fences := 63 ≤ s.rd I.skViolN [p] && dtSub s.blk before < oneSecond
  let s := (s.wr I.skViol [p, k] s.blk).wr I.skViolPos [p] ((k + 1) % 64)
  let s := s.wr I.skViolN [p] (min 64 (s.rd I.skViolN [p] + 1))
  let s := (s.incSat F.SKN_PORT_VIOL.TOTAL [p]).wr F.SKN_PORT_VIOL.RECENT [p] (s.skRecent p)
  let s := s.raisePkg 243 (p + 16 * reason + 256 * type)
  s.on fences fun s => (s.on (p != 0) fun s => s.wr I.skCause [p] 1).setPort p 4

/-- The violation of a frame on a port, 0 if it has none (R423). -/
def frameReason (s : State) (p : Nat) (bytes : List Byte) : Nat :=
  let v := frameBits bytes
  let type := frameType bytes
  if slice v 480 32 ≠ frameCrc bytes then 1
  else if !frameDirOk p type then 2
  else if (match frameStream type with
      | some t => s.isSet I.skPrevOn [p, t] && slice v 64 64 != dtAdd (s.rd I.skPrev [p, t]) 1024
      | none => false) then 3
  else if Nat.land (slice v 8 472 * 256) (frameMask type) ≠ slice v 8 472 * 256 then 4
  else 0

/-- PERIOD_TICKS of a frame of a right TYPE is remembered (R423). -/
def notePeriod (s : State) (p : Nat) (bytes : List Byte) : State :=
  match frameStream (frameType bytes) with
  | some t => (s.wr I.skPrev [p, t] (slice (frameBits bytes) 64 64)).wr I.skPrevOn [p, t] 1
  | none => s

/-- A frame arrives on a port (R423, R424): a port out of service discards it, a violation discards it, else a frame of the
TYPE awaited is handed on. -/
def frameIn (s : State) (p : Nat) (bytes : List Byte) (type : Nat) (f : State → Nat → State) : State :=
  if 5 ≤ p ∨ (s.portState p ≠ 2 ∧ s.portState p ≠ 3) then s
  else
    let r := s.frameReason p bytes
    let s := s.on (r != 1 && r != 2) fun s => s.notePeriod p bytes
    if r ≠ 0 then s.skViolate p r (frameType bytes)
    else s.on (frameType bytes == type) fun s => f s (frameBits bytes)

/-- An instant within the block handled: `ofs` fraction units after its first tick. -/
def instantIn (s : State) (ofs : Nat) : Instant := 4096 * s.blk + ofs % (128 * 4096)

-- Joining and alignment (R409, R412 to R416) --------------------------------------------------------------

/-- The lanes of a port have trained: MEASURING, and a worker's port 0 sends JOIN (R415). -/
def portTrained (s : State) (p : Nat) : State :=
  s.on (p < 5 && s.portState p == 1) fun s =>
    let s := s.setPort p 2
    s.on (p == 0) fun s => s.sendFrame 0 fJoin [(48, 8, 1 + s.workersBelow)]

/-- Port 0 becomes ACTIVE: the reference is qualified, and the first time is a join step (R414 to R416). -/
def portJoined (s : State) : State :=
  let first := !s.isSet I.skSeen []
  let s := s.setPort 0 3
  let s := (s.wr F.SKN_STATUS.PATH [] (s.rd I.skPath [])).wr F.SKN_STATUS.DEPTH [] (s.rd I.skHop [])
  let s := ((s.wr F.XTO_STATUS.REF_PRESENT [] 1).wr I.refAwait [] 1).wr I.inOn [] 0
  let s := s.on first fun s => (s.wr F.SKN_STATUS.JOIN_STEP_PENDING [] 1).wr I.skSeen [] 1
  let s := ((s.wr I.skMiss [] 0).wr I.skAlign [] s.now).wr I.skBcast [] (markAt (ceilDiv s.blk 1024 * 1024))
  ((s.setRef 1).syncAligned).syncPorts

/-- Port 0 becomes ACTIVE once it has its JOIN_ACK and 64 echoes are done (R415). -/
def tryJoin (s : State) : State :=
  s.on (s.portState 0 == 2 && s.isSet I.skAck [] && 64 ≤ s.rd I.skEchoN [0]) fun s => s.portJoined

/-- JOIN_ACK arrives at port 0 (R409, R415). -/
def joinAck (s : State) (v : Nat) : State :=
  s.on (s.portState 0 == 2) fun s =>
    if bitAt v 40 then s.setPort 0 5
    else (((s.wr I.skAck [] 1).wr I.skPath [] (slice v 16 9)).wr I.skHop [] (slice v 32 8)).tryJoin

/-- The measuring end of a port takes it into service, or finds it too long (R412, R415). -/
def tryAdmit (s : State) (p : Nat) : State :=
  s.on (s.portState p == 2 && s.isSet F.SKN_PORT_STATUS.SUBTREE [p] && 64 ≤ s.rd I.skEchoN [p]) fun s =>
    let lat := 4096 * s.rd F.SKN_PORT_LAT.TICKS [p] + s.rd F.SKN_PORT_LAT.FRAC [p]
    if 4096 * 38400 < lat then s.setPort p 6
    else (s.sendFrame p fJoinAck [(16, 9, s.portPath p), (32, 8, s.skDepth + 1)]).setPort p 3

/-- JOIN arrives at a downstream port; the manager refuses a 65th worker (R409). -/
def joinIn (s : State) (p v : Nat) : State :=
  s.on (s.portState p == 2) fun s =>
    let n := slice v 48 8
    if s.skManager ∧ 64 < s.workersBelow + n then
      ((s.sendFrame p fJoinAck [(16, 9, s.portPath p), (32, 8, s.skDepth + 1), (40, 1, 1)]).wr I.skCause [p] 3).setPort p 5
    else (s.wr F.SKN_PORT_STATUS.SUBTREE [p] n).tryAdmit p

/-- ECHO_REQ leaves a downstream port (R412). -/
def echoSend (s : State) (p ofs : Nat) : State :=
  let id := (s.rd I.skEchoId [p] + 1) % 2 ^ 32
  let t := s.instantIn ofs
  let s := ((s.wr I.skEchoId [p] id).wr I.skEchoT1 [p] t).wr I.skEchoWait [p] 1
  (s.wr I.skEchoAt [p] s.now).sendFrame p fEchoReq [(32, 32, id), (64, 64, t / 4096), (128, 12, t % 4096)]

/-- The echo of each millisecond (R412). -/
def echoDue (s : State) (p ofs : Nat) : State :=
  s.on (0 < p && p < 5 && (s.portState p == 2 || s.portState p == 3)
    && (s.rd I.skEchoAt [p] == 0 || s.elapsed (s.rd I.skEchoAt [p]) 1250000)) fun s => s.echoSend p ofs

/-- ECHO_REQ arrives at port 0: ECHO_RSP carries arrival and departure (R412). -/
def echoReply (s : State) (v ofs turn : Nat) : State :=
  let t2 := s.instantIn ofs
  let t3 := (t2 + turn) % 2 ^ 76
  let s := s.sendFrame 0 fEchoRsp
    [(32, 32, slice v 32 32), (64, 64, t2 / 4096), (128, 12, t2 % 4096), (192, 64, t3 / 4096), (256, 12, t3 % 4096)]
  (s.wr I.skEchoN [0] (min 64 (s.rd I.skEchoN [0] + 1))).tryJoin

/-- SKN_PORT_LAT takes a latency in fraction units. -/
def setLatency (s : State) (p : Nat) (lat : Int) : State :=
  (s.wr F.SKN_PORT_LAT.TICKS [p] (sfield 64 (lat / 4096))).wr F.SKN_PORT_LAT.FRAC [p] (lat % 4096).toNat

/-- The mean of the echoes held, to 1 fraction unit (R412); the ring holds doubled latencies. -/
def echoMean (s : State) (p : Nat) : Int :=
  let n := s.rd I.skEchoN [p]
  roundDiv ((List.range n).map fun k => sval 80 (s.rd I.skEcho [p, k])).sum (max 1 (2 * n))

/-- ECHO_RSP arrives at a downstream port (R412); a SKEIN_MEASURE of the port finishes with it (R357). -/
def echoIn (s : State) (p v ofs : Nat) : State :=
  if !s.isSet I.skEchoWait [p] || slice v 32 32 != s.rd I.skEchoId [p] then s
  else
    let t2 := 4096 * slice v 64 64 + slice v 128 12
    let t3 := 4096 * slice v 192 64 + slice v 256 12
    let lat2 := instDiff (instSub (s.instantIn ofs) (s.rd I.skEchoT1 [p])) (instSub t3 t2)
    let k := s.rd I.skEchoPos [p]
    let s := (((s.wr I.skEchoWait [p] 0).wr I.skEchoGot [p] (s.now + 1)).wr I.skEcho [p, k] (sfield 80 lat2)).wr I.skEchoPos [p] ((k + 1) % 64)
    let s := s.wr I.skEchoN [p] (min 64 (s.rd I.skEchoN [p] + 1))
    let s := s.setLatency p (s.echoMean p)
    let s := s.finishUnit 0x0C02 p 0 (le 8 (s.rd F.SKN_PORT_LAT.TICKS [p]) ++ le 2 (s.rd F.SKN_PORT_LAT.FRAC [p]))
    s.tryAdmit p

/-- The wait for an echo runs out (R41): an echo of the same core cycle is in time, and late. -/
def echoTimeout (s : State) (p : Nat) : State :=
  if s.isSet I.skEchoWait [p] then s.wr I.skEchoWait [p] 0
  else s.on (s.rd I.skEchoGot [p] == s.now + 1) fun s => s.flag F.SKN_PORT_STATUS.LATE_ARRIVAL [p]

/-- ALIGN leaves an ACTIVE downstream port every 10 µs of DT (R411, R412). -/
def alignSend (s : State) (p ofs : Nat) : State :=
  s.on (0 < p && p < 5 && s.portState p == 3 && s.blk % 1600000 == 0) fun s =>
    let t := s.instantIn ofs
    s.sendFrame p fAlign [(64, 64, t / 4096), (128, 12, t % 4096), (160, 64, s.rd F.SKN_PORT_LAT.TICKS [p]),
      (224, 12, s.rd F.SKN_PORT_LAT.FRAC [p]), (240, 1, b2n (64 ≤ s.rd I.skEchoN [p]))]

/-- The mean error of 10 ms of ALIGN frames: the join step, the judgement after WINTER, or a measurement (R48, R414, R416). -/
def alignMean (s : State) (err : Int) : State :=
  if s.isSet I.refAwait [] then
    let s := s.wr I.refAwait [] 0
    if s.isSet F.SKN_STATUS.JOIN_STEP_PENDING [] then (s.noteErr err).wr F.XTO_STATUS.STEP_PENDING [] 1 else s.refJudge err
  else s.noteErr err

/-- An ALIGN frame joins the mean over 10 ms, 1,000 frames (R411, R414). -/
def alignError (s : State) (err : Int) : State :=
  let sum := sval 128 (s.rd I.skErrSum []) + err
  let n := s.rd I.skErrN [] + 1
  if n < 1000 then (s.wr I.skErrSum [] (sfield 128 sum)).wr I.skErrN [] n
  else ((s.wr I.skErrSum [] 0).wr I.skErrN [] 0).alignMean (roundDiv sum 1000)

/-- ALIGN arrives at port 0 (R412, R414). -/
def alignIn (s : State) (v ofs : Nat) : State :=
  let valid := bitAt v 240
  let lat : Int := 4096 * slice v 160 64 + slice v 224 12
  let s := s.on valid fun s => s.setLatency 0 lat
  if s.portState 0 ≠ 3 then s.on (valid && decide (4096 * 38400 < lat)) fun s => s.setPort 0 6
  else
    let s := s.wr I.skAlign [] s.now
    let s := s.on (!s.isSet F.XTO_STATUS.REF_PRESENT []) fun s =>
      (((s.wr F.XTO_STATUS.REF_PRESENT [] 1).wr I.refAwait [] 1).wr I.inOn [] 0).setRef 1
    s.on valid fun s => s.alignError (instDiff (s.instantIn ofs) (4096 * slice v 64 64 + slice v 128 12 + lat.toNat))

/-- No ALIGN frame for 100 µs (R414). -/
def alignTimeout (s : State) : State :=
  s.on (s.portState 0 == 3 && s.elapsed (s.rd I.skAlign []) 125000) fun s => ((s.wr I.skErrSum [] 0).wr I.skErrN [] 0).refLost

-- Term summaries (R419) -----------------------------------------------------------------------------------

/-- The time up to which summaries of a period are awaited: the sending time, on the manager the evaluation (R419, R420). -/
def summaryTime (s : State) (p : Nat) : Nat := dtAdd p (10240 + (3 - s.skDepth) * 38400)

/-- A summary frame merged into the period (R419): FIRE bits ORed, the smaller offsets kept. -/
def mergeSummary (v p : Nat) (m : Summary) : Summary :=
  let m := (List.range 16).foldl (fun m g => if bitAt v (32 + g) then m.note g (slice v (128 + 22 * g) 22) else m) m
  { m with taken := m.taken ++ [p], missing := if slice v 57 4 = 0 then m.missing else m.missing ++ [p] }

/-- SUMMARY arrives at an ACTIVE downstream port (R419, R424). -/
def summaryIn (s : State) (p v : Nat) : State :=
  if s.portState p ≠ 3 then s
  else
    let period := slice v 64 64
    let s := (s.wr F.SKN_PORT_STATUS.SUBTREE [p] (slice v 48 8)).syncWorkers
    let s := s.wr I.skBelow [p] (slice v 16 12 + 4096 * slice v 31 1)
    let t := s.summaryTime period
    if !afterMark (s.rd I.skSent []) period ∨ (s.due t ∧ !s.lands t) then s
    else (s.on (s.lands t) fun s => s.flag F.SKN_PORT_STATUS.LATE_ARRIVAL [p]).summarize period (mergeSummary v p)

/-- The lost branch to report: the lowest path among own lost ports and those reported from below (R424). -/
def lostBranch (s : State) : Option (Nat × Nat) :=
  let own := [1, 2, 3, 4].filterMap fun p => if s.isSet I.skCause [p] then some (s.portPath p, s.rd I.skCause [p]) else none
  let below := s.portsBelow.filterMap fun p =>
    if bitAt (s.rd I.skBelow [p]) 12 then some (slice (s.rd I.skBelow [p]) 0 9, slice (s.rd I.skBelow [p]) 9 3) else none
  (own ++ below).foldl (fun acc (x : Nat × Nat) => match acc with
    | none => some x
    | some y => if x.1 < y.1 then some x else some y) none

/-- The ACTIVE ports whose summary of the period has not come are marked missing (R419); the period's summary is taken out. -/
def closePeriod (s : State) (p : Nat) : State × Summary :=
  let m := (s.summaries.find? (·.period == p)).getD (Summary.empty p)
  let late := s.portsBelow.filter fun q => !m.taken.contains q
  let s := s.each late fun s q => s.flag F.SKN_PORT_STATUS.SUMMARY_MISS [q]
  let s := { s with summaries := s.summaries.filter fun (x : Summary) => !dtGe p x.period }
  (s.wr I.skSent [] (markAt (p + 1024)), { m with missing := m.missing ++ late })

/-- The bits of a list of ports. -/
def portBits (l : List Nat) : Nat := l.foldl setBit 0

/-- A worker sends the merged summary of a period at its sending time (R419). -/
def summarySend (s : State) (p : Nat) : State :=
  if !s.skWorker || p % 1024 != 0 || !afterMark (s.rd I.skSent []) p || !s.due (s.summaryTime p) then s
  else
    let r := s.closePeriod p
    let s := r.1
    let m := r.2
    let lost := s.lostBranch.getD (0, 0)
    s.on (s.portState 0 == 3) fun s =>
      s.sendFrame 0 fSummary ([(16, 9, lost.1), (25, 3, lost.2), (31, 1, b2n s.lostBranch.isSome), (32, 16, m.fire),
        (48, 8, 1 + s.workersBelow), (57, 4, portBits m.missing / 2), (64, 64, p)]
        ++ (List.range 16).map fun g => (128 + 22 * g, 22, m.offsets.getD g 0))

/-- The manager holds the lost branch reported last (R424). -/
def reportLost (s : State) : State :=
  match s.lostBranch with
  | none => s
  | some (path, cause) =>
    s.on (s.rd F.SKN_LOST.PATH [] != path || s.rd F.SKN_LOST.CAUSE [] != cause) fun s =>
      (((s.wr F.SKN_LOST.PATH [] path).wr F.SKN_LOST.CAUSE [] cause).flag F.SKN_LOST.VALID []).raisePkg 242 (path + 512 * cause)

-- The global sequencer (R420) -----------------------------------------------------------------------------

/-- The period of an instant. -/
def periodOf (t : Instant) : Nat := t / 4096 / 1024 * 1024

/-- Global terms named in a mask of any state 0 to LAST. -/
def gseqUsed (s : State) : Nat :=
  (List.range (s.rd F.SKN_GSEQ_CTRL.LAST [] + 1)).foldl (fun m i =>
    Nat.lor m (Nat.lor (s.rd F.GSEQ_STATE.ADV_MASK [i]) (s.rd F.GSEQ_STATE.RST_MASK [i]))) 0

/-- The fires of a period that the sequencer takes, in the order of R164. -/
def gseqFires (s : State) (m : Summary) : List TermFire :=
  (((List.range 16).filter fun g => bitAt m.fire g && bitAt s.gseqUsed g).map fun g =>
    TermFire.mk g (4096 * m.period + m.offsets.getD g 0) false).mergeSort fun a b => a.dt < b.dt || (a.dt == b.dt && a.term ≤ b.term)

/-- A coincident transition (R165, R420). -/
def gseqCoincide (s : State) (taken other : Nat) : State :=
  (s.flag F.SKN_GSEQ_STATUS.COINC_STICKY []).on (!s.isSet I.gsCoin []) fun s =>
    ((s.wr I.gsCoin [] 1).wr I.gsTaken [] taken).wr I.gsOther [] other

/-- A global trigger is decided for a period: it waits for its broadcast, dead time and hold-off begin (R420). -/
def gseqTrigger (s : State) (m : Summary) (dt : Instant) (late : Bool) : State :=
  let k := m.period / 1024 % 32
  let missing := !m.missing.isEmpty
  let info := s.rd I.gsTaken [] + 32 * s.rd I.gsOther [] + 1024 * s.rd I.gsCoin [] + 2048 * b2n (late || s.isSet I.gsLate []) + 4096 * b2n missing
  let s := ((s.wr I.gtOn [k] 1).wr I.gtDt [k] dt).wr I.gtInfo [k] info
  let s := s.on missing fun s => s.flag F.SKN_GSEQ_STATUS.MISSING_STICKY []
  let s := (s.gseqClear.gseqEnter 0 (4096 * dtAdd m.period (3 * 1024))).wr I.gsDead [] 2
  s.wr I.gsHold [] (if s.isSet F.SKN_GSEQ_HOLDOFF.TICKS [] then (dt + 4096 * s.rd F.SKN_GSEQ_HOLDOFF.TICKS []) % 2 ^ 76 else 0)

/-- A fire advances the sequencer; a candidate in the hold-off is discarded (R164, R171, R420). -/
def gseqAdvance (s : State) (m : Summary) (f : TermFire) (inTime : Bool) : State :=
  let s := s.on inTime fun s => s.wr I.gsLate [] 1
  let st := s.rd F.GSEQ_STATE.NEXT [s.rd F.SKN_GSEQ_STATUS.STATE []]
  if s.rd F.GSEQ_STATE.ENTRY [st] = 1 then
    if s.isSet I.gsHold [] ∧ !dtGe m.period (periodOf (s.rd I.gsHold [])) then s.gseqEnter 0 (4096 * dtAdd m.period 1024)
    else s.gseqTrigger (m) f.dt (s.isSet I.gsHold [] && m.period == periodOf (s.rd I.gsHold []))
  else s.gseqEnter st f.dt

/-- The WITHIN deadline of the present state has landed by a period. -/
def gseqDeadline (s : State) (p : Nat) : Option Instant :=
  let st := s.rd F.SKN_GSEQ_STATUS.STATE []
  let t := (s.rd I.gsEntry [] + 4096 * s.rd F.GSEQ_STATE.QUAL_VALUE [st]) % 2 ^ 76
  if s.rd F.GSEQ_STATE.QUAL [st] = 2 ∧ dtGe p (periodOf t) then some t else none

/-- The merged summary of a period reaches the sequencer (R163 to R167, R420). -/
def gseqTakes (s : State) (m : Summary) : State :=
  if s.isSet I.gsDead [] then s.wr I.gsDead [] (s.rd I.gsDead [] - 1)
  else
    let st := s.rd F.SKN_GSEQ_STATUS.STATE []
    let fs := s.gseqFires m
    let r := seqPick (s.rd F.GSEQ_STATE.ADV_MASK [st]) (s.rd F.GSEQ_STATE.RST_MASK [st]) (s.rd F.GSEQ_STATE.QUAL [st])
      (s.rd F.GSEQ_STATE.QUAL_VALUE [st]) (s.rd I.gsEntry []) fs (s.rd I.gsCount []) false
    let s := s.wr I.gsCount [] r.2
    let landed := s.gseqDeadline m.period
    match r.1 with
    | none =>
      match landed with
      | some t => s.gseqEnter (s.rd F.GSEQ_STATE.RST_TO [st]) (4096 * periodOf t)
      | none => s
    | some f =>
      let s := match (fs.filter (· != f)).head? with
        | some o => s.gseqCoincide f.term o.term
        | none => s
      if bitAt (s.rd F.GSEQ_STATE.RST_MASK [st]) f.term then s.gseqEnter (s.rd F.GSEQ_STATE.RST_TO [st]) (4096 * m.period)
      else s.gseqAdvance m f landed.isSome

/-- The manager evaluates a period at P + 125,440 (R420). -/
def gseqEvaluate (s : State) (p : Nat) : State :=
  if !s.skManager || p % 1024 != 0 || !afterMark (s.rd I.skSent []) p || !s.due (dtAdd p 125440) then s
  else
    let r := s.closePeriod p
    (r.1.reportLost).on (r.1.isSet F.SKN_GSEQ_CTRL.RUN []) fun s => s.gseqTakes r.2

-- Broadcasts (R421, R422) ---------------------------------------------------------------------------------

/-- A TRIGGER frame is taken: SKN_GTRIG, and every set named in SKN_TRIG_SEL takes the trigger by its DT (R422). -/
def takeTrigger (s : State) (v : Nat) : State :=
  let taken := slice v 208 8
  let other := slice v 216 8
  let s := s.on (s.isSet F.SKN_CTRL.GTRIG_EVT_EN []) fun s =>
    s.raisePkg 245 (slice taken 0 4 + 2 ^ 4 * slice v 224 3 + 2 ^ 16 * slice v 32 16)
  let x : TrigDesc := ⟨4096 * slice v 128 64 + slice v 192 12, 0x1E, slice taken 0 5, slice other 0 5, false, bitAt v 224, bitAt v 225, false, 0⟩
  s.each [0, 1] fun s d => s.each [0, 1, 2] fun s a => s.on (s.skeinSelected d a) fun s => s.setTrigger d a x

/-- The fields of a TRIGGER frame. -/
def triggerFields (s : State) (p k : Nat) : List (Nat × Nat × Nat) :=
  let info := s.rd I.gtInfo [k]
  [(32, 32, s.rd I.gtSeq []), (64, 64, p), (128, 64, s.rd I.gtDt [k] / 4096), (192, 12, s.rd I.gtDt [k] % 4096),
    (208, 8, slice info 0 5), (216, 8, slice info 5 5), (224, 3, slice info 10 3)]

/-- The manager sends TRIGGER or IDLE for a period at P + 140,800, and takes its own trigger (R420, R422). -/
def broadcast (s : State) (p : Nat) : State :=
  if !s.skManager || p % 1024 != 0 || !afterMark (s.rd I.skBcast []) p || !s.due (dtAdd p 140800) then s
  else
    let s := s.wr I.skBcast [] (markAt (p + 1024))
    let k := p / 1024 % 32
    if s.isSet I.gtOn [k] then
      let s := (s.wr I.gtOn [k] 0).inc I.gtSeq []
      let fields := s.triggerFields p k
      let s := s.each s.portsBelow fun s q => s.sendFrame q fTrigger fields
      s.takeTrigger (frameBits (frameOf fTrigger fields))
    else s.each s.portsBelow fun s q => s.sendFrame q fIdle [(32, 32, s.rd I.gtSeq []), (64, 64, p)]

/-- The time by which the broadcast of a period is expected (R421). -/
def broadcastTime (s : State) (p : Nat) : Nat := dtAdd p (140800 + s.skDepth * 38400)

/-- TRIGGER or IDLE arrives at an ACTIVE port 0: it is forwarded as it came, and taken if it is in time (R421). -/
def broadcastIn (s : State) (v : Nat) (bytes : List Byte) (f : State → State) : State :=
  if s.portState 0 ≠ 3 then s
  else
    let p := slice v 64 64
    let s := s.each s.portsBelow fun s q => s.emit (.skeinFrame q (bytes.take 64))
    let t := s.broadcastTime p
    if s.due t ∧ !s.lands t then s
    else
      let s := s.on (s.lands t) fun s => s.flag F.SKN_PORT_STATUS.LATE_ARRIVAL [0]
      f (((s.wr I.skBcast [] (markAt (p + 1024))).wr I.skMiss [] 0).wr I.gtSeq [] (slice v 32 32))

/-- The broadcast of a period is not taken by its deadline; the 1,024th in a row takes the port down (R415, R421). -/
def broadcastMissed (s : State) (p : Nat) : State :=
  if s.portState 0 ≠ 3 ∨ p % 1024 ≠ 0 ∨ !afterMark (s.rd I.skBcast []) p ∨ !s.due (s.broadcastTime p) then s
  else
    let s := (s.flag F.SKN_PORT_STATUS.BCAST_MISS [0]).wr I.skBcast [] (markAt (p + 1024))
    let n := s.rd I.skMiss [] + 1
    if n < 1024 then s.wr I.skMiss [] n else (s.wr I.skMiss [] 0).portLost 0

/-- A lane of a port is lost (R415). -/
def skLaneLost (s : State) (p : Nat) : State := s.on (p < 5 && (s.portState p == 2 || s.portState p == 3)) fun s => s.portLost p

/-- A SYNC edge on port 0 of a worker is stamped in steps of 256 fraction units (R418). -/
def syncIn (s : State) (ofs : Nat) : State :=
  s.on (s.skWorker && s.mode != .hold && s.mode != .vigil) fun s =>
    let t := s.instantIn ofs
    ((s.wr F.SKN_SYNC_RX.TICKS [] (t / 4096)).wr F.SKN_SYNC_RX.FRAC [] (t % 4096 / 256 * 256)).raisePkg 244 (t / 4096)

/-- SKEIN_UNFENCE on a port (R415, R424): its history is cleared and it returns to DOWN. -/
def unfence (s : State) (p : Nat) : State :=
  let s := ((s.wr I.skViolN [p] 0).wr I.skViolPos [p] 0).wr F.SKN_PORT_VIOL.RECENT [p] 0
  ((s.wr F.SKN_PORT_VIOL.TOTAL [p] 0).setPort p 0).syncPorts

end State

end Sys2Proof.Machine
end

