-- ==== Sys2Proof/Machine/ModeOps.lean ====
section
/-!
DEFINITION. Mode changes: their checks, their request, and what takes effect with them (R34, R35, R367 to R374).
-/

namespace Sys2Proof.Machine

namespace State

/-- Flash work is in progress: a store write, FW_STAGE or FW_VERIFY (R371). -/
def flashBusy (s : State) : Bool := s.isSet F.CRD_STORE_STATUS.BUSY [] || s.isSet I.fwJob []

/-- The checks of a host mode command (R35, R113, R370, R371); 0 where it may go to Harvest. DEDUCED: their order. -/
def modeCheck (s : State) (m : Mode) : Nat :=
  if s.inTransition then 0x0225
  else if s.mode = .service then 0x0201
  else if s.combAnywhere then 0x0214
  else if s.mode.acquires && s.anyArmed then 0x0212
  else match s.mode, m with
    | .ready, .quad => 0
    | .ready, .paired => 0
    | .ready, .vigil => if s.flashBusy then 0x0225 else 0
    | .quad, .ready => 0
    | .paired, .ready => 0
    | .vigil, .ready => 0
    | _, _ => 0x0200

/-- Power that a mode change adds (R377). -/
def modePower (s : State) (m : Mode) : Int := (s.modeCost m : Int) - s.modeCost s.mode

/-- A host mode command (R36, R370); VIGIL to READY is the wake source HOST (R374). -/
def requestMode (s : State) (m : Mode) (cmd : Option (MbxHdr × Nat)) : State × Verdict :=
  let k := s.modeCheck m
  if k ≠ 0 then (s, ⟨k, false⟩)
  else if s.mode = .vigil then (s.wake 2 0 0, ⟨0, false⟩)
  else
    let r := s.harvest s.control [0, 1] (fun s => s.modePower m) 0 (.mode m) false cmd
    match r.2 with
    | .granted => (r.1.startMode m.code 0, ⟨0, false⟩)
    | .derated => (r.1.startMode m.code 0, ⟨0, true⟩)
    | .deferred => (r.1, ⟨2, false⟩)
    | .refused x => (r.1, ⟨x, false⟩)

/-- Pipelines stop, and the accumulation engines with them (R35, R369). -/
def leaveAcquiring (s : State) : State :=
  s.each [0, 1] fun s d =>
    let s := s.each [0, 1, 2] fun s a => s.on (s.armed d a) fun s => s.endArm d a 1
    let s := s.stopPipelines d
    s.each [0, 1] fun s c => s.accHalt d c 2

/-- The splitter and the terminations of a die follow PAIRED (R80). -/
def setSplit (s : State) (d : Nat) (on : Bool) : State :=
  ((s.wrBool F.CNV_DIE_STATUS.SPLIT [d] on).wrBool F.CNV_DIE_STATUS.C1_TERM [d] on).wrBool F.CNV_DIE_STATUS.C1_DELAY [d] on

/-- Pipelines start, unarmed, from the next block (R35, R369). -/
def enterAcquiring (s : State) : State :=
  s.each [0, 1] fun s d => (s.startPipelines d (s.nextBlk d)).syncXdie d

/-- The library deliveries of a die end with a status: the segments are gone. -/
def endDeliveries (s : State) (p : Delivery → Bool) (code : Nat) : State :=
  let gone := s.deliveries.filter p
  let s := { s with deliveries := s.deliveries.filter fun x => !p x }
  s.each gone fun s x =>
    match s.outstanding.find? fun o => o.die == x.cmdDie && o.tag == x.tag && o.opcode == x.opcode with
    | some o => s.finish o code []
    | none => s

/-- VIGIL takes effect (R368, R371): what its switched-off domains held is gone, and the links leave L0. -/
def enterVigil (s : State) : State :=
  let s := s.endDeliveries (fun _ => true) 0x01C1
  let s := s.each [0, 1] fun s d =>
    let s := ((s.timStopAll d).cmpVigil d).lgcStop d
    let s := s.each [0, 1] fun s c => (s.loseStack d c).accDomainOff d c
    (s.wr F.SYN_STATUS.PHASE_DET [d] 0).setLock d 0
  let s := { s with pool := [] }
  s.each [0, 1] fun s d => (s.wr I.linkL0 [d] 0).wrFree I.linkDeep [d]

/-- VIGIL is left (R373, R374): SYN has locked, comparators and logic channels run again, and cues whose DT has passed are LATE. -/
def leaveVigil (s : State) : State :=
  s.each [0, 1] fun s d =>
    let s := ((s.cmpWakeUp d).lgcStart d).on (!s.dieRetired d) fun s => s.synLock d
    s.each (List.range 256) fun s n =>
      s.on (s.rd F.CUE.STATE [d, n] == 1 && !dtGe (s.rd F.CUE.DT_TICKS [d, n]) (s.blkOf d)) fun s => (s.wr F.CUE.LATE [d, n] 1).wr I.cueSince [d, n] s.now

/-- Wake sources held through READY to VIGIL act as VIGIL takes effect (R374). -/
def heldWakes (s : State) : State :=
  s.on (s.isSet I.wakeHeld []) fun s => (s.wr I.wakeHeld [] 0).wakeBegin (s.rd I.wakeHeld []) (s.rd I.wakeUnit []) (s.rd I.wakeDie [])

/-- The splitter of a die and its C1 follow the mode (R80); the GAIN taps of C1 are those of the ATTEN in force (R92). -/
def splitDie (s : State) (d : Nat) (on : Bool) : State := (s.setSplit d on).showGain d 1

/-- What a mode gains over the one before. PAIRED left for SERVICE under FORCE passes as through READY (R35, R80). -/
def enterMode (s : State) (old m : Mode) : State :=
  let s := s.on (old == .vigil) fun s => s.leaveVigil
  let s := s.on (old == .paired && m != .paired) fun s => s.each [0, 1] fun s d => s.splitDie d false
  match m with
  | .vigil => s.enterVigil
  | .service => s.each [0, 1] fun s d => s.timStopAll d
  | .quad => s.enterAcquiring
  | .paired => (s.each [0, 1] fun s d => s.splitDie d true).enterAcquiring
  | .ready => s
  | .hold => s

/-- PWR_MODE shows the mode; the transition is over. -/
def showMode (s : State) (m : Mode) : State :=
  s.each [0, 1] fun s d => (s.wr F.PWR_MODE.MODE [d] m.code).wr F.PWR_MODE.TRANSITION [d] 0

/-- The events of a transition (R370, R374, R387, R444), and MBX_DONE of MODE_SET. -/
def modeEvents (s : State) (old m : Mode) : State :=
  let s := s.raisePkg 8 (m.code + 2 ^ 3 * old.code + 2 ^ 8 * s.rd I.modeCause [])
  let s := s.on (m == .service) fun s => s.raisePkg 248 (1 + 2 * s.rd I.svcForced [])
  let s := s.on (old == .service) fun s => s.raisePkg 248 0
  let s := s.on (m == .ready && s.isSet I.wakeOn []) fun s =>
    (s.wr I.wakeOn [] 0).raisePkg 9 (s.rd F.PWR_WAKE_CAUSE.CAUSE [] + 2 ^ 4 * s.rd F.PWR_WAKE_CAUSE.UNIT []
      + 2 ^ 8 * s.rd F.PWR_WAKE_CAUSE.DIE [] + 2 ^ 9 * s.rd F.PWR_WAKE_CAUSE.AUX_LOSS [])
  s.finishUnit 0x0002 m.code 0 (le 1 m.code)

/-- The transition under way takes effect (R34, R35, R369 to R374). -/
def modeDone (s : State) : State :=
  match if s.inTransition then Mode.ofCode s.modeTarget else none with
  | none => s
  | some m =>
    let old := s.mode
    let s := s.on old.acquires fun s => s.leaveAcquiring
    let s := { s with mode := m }.showMode m
    let s := s.on (s.isSet I.modeMw []) fun s => s.commitAgain (s.rd I.modeMw [])
    let s := (s.enterMode old m).syncDomains.syncCard.syncScan.syncPorts.modeEvents old m
    s.on (m == .vigil) fun s => s.heldWakes

/-- DT reaches PWR_WAKE_DT (R374). -/
def wakeTimer (s : State) : State :=
  s.on (s.isSet F.PWR_WAKE_CTRL.TIMER_EN [] && s.due (s.rd F.PWR_WAKE_DT.TICKS [])) fun s => s.wake 1 0 0

/-- The link of a die returns to L0: WAKE# is released (R374). -/
def linkUp (s : State) (d : Nat) : State :=
  if s.mode = .hold ∨ s.dieRetired d then s
  else
    let s := s.on (s.isSet I.wakePin [d]) fun s => (s.emit (.pin d pinWake true)).wr I.wakePin [d] 0
    (s.wr I.linkL0 [d] 1).wr I.linkDeep [d] 0

end State

end Sys2Proof.Machine
end

