-- ==== Sys2Proof/Machine/ServiceOps.lean ====
section
/-!
DEFINITION. The service port: its console, its lock, the analogue test bus and the service tests (R426 to R444).
-/

namespace Sys2Proof.Machine

-- Text (R428, R429) -----------------------------------------------------------------------------------------

/-- The bytes of a text in ASCII. -/
def ascii (t : String) : List Byte := t.toList.map fun c => BitVec.ofNat 8 c.toNat

/-- One hexadecimal digit. -/
def hexDigit (n : Nat) : Byte := if n < 10 then BitVec.ofNat 8 (48 + n) else BitVec.ofNat 8 (55 + n)

/-- The last `k` hexadecimal digits of a number. -/
def hexPad : Nat → Nat → List Byte
  | 0, _ => []
  | k + 1, n => hexPad k (n / 16) ++ [hexDigit (n % 16)]

/-- The last `k` decimal digits of a number. -/
def decPad : Nat → Nat → List Byte
  | 0, _ => []
  | k + 1, n => decPad k (n / 10) ++ [BitVec.ofNat 8 (48 + n % 10)]

/-- A voltage in µV, written in volts. -/
def volts (v : Int) : List Byte :=
  (if v < 0 then ascii "-" else []) ++ decPad 1 (v.natAbs / 1000000) ++ ascii "." ++ decPad 6 v.natAbs ++ ascii "V"

/-- CR LF. -/
def crlf : List Byte := [0x0D, 0x0A]

/-- The names of the status codes that the console answers (R352, R429, and the chapters that define them). -/
def codeName : Nat → String
  | 0x0100 => "PARAM_RANGE"
  | 0x0200 => "MODE_TRANSITION"
  | 0x020A => "DIE_RETIRED"
  | 0x0214 => "COMB_BUSY"
  | 0x0225 => "MODE_BUSY"
  | 0x0240 => "SVC_TEST_BUSY"
  | 0x0241 => "SVC_LOCKED"
  | 0x0242 => "SVC_MODE_REQUIRED"
  | 0x0243 => "SVC_LOCKOUT"
  | 0x0301 => "ENERGY_REFUSED"
  | 0x0400 => "OPCODE_UNKNOWN"
  | _ => "ERROR"

-- The test table (R435, R440, R441, R443) --------------------------------------------------------------------

/-- Kinds of tests (R435). -/
inductive TestKind where
  | H | R | S | P
  deriving DecidableEq, Repr

/-- The number lies in a span of the catalogue. -/
abbrev inSpan (n a b : Nat) : Bool := a ≤ n && n ≤ b

/-- The kind of ST-n (R443). -/
def testKind (n : Nat) : TestKind :=
  if inSpan n 1 28 || n == 45 || n == 46 || inSpan n 230 233 || n == 238 then .H
  else if inSpan n 57 60 then .P
  else if inSpan n 29 44 || n == 48 || inSpan n 61 64 || inSpan n 69 72 || inSpan n 85 88 || inSpan n 111 114 || inSpan n 119 122
    || inSpan n 139 140 || n == 228 || n == 229 || n == 239 then .R
  else .S

/-- First numbers of the tests of one channel each: CH(n − first) (R443). -/
def channelTests : List Nat := [61, 65, 69, 73, 77, 81, 85, 91, 95, 99, 131, 135]

/-- The global channel that ST-n tests, if it tests one. -/
def testChan (n : Nat) : Option Nat := (channelTests.find? fun a => inSpan n a (a + 3)).map fun a => n - a

/-- The die that ST-n tests; tests of the package run on the die with the control role. -/
def testDie (control n : Nat) : Nat :=
  match testChan n with
  | some g => g / 2
  | none =>
    if n ≤ 24 then (n - 1) / 12
    else if n ≤ 28 then (n - 25) / 2
    else if n ≤ 44 then (n - 29) / 8
    else if inSpan n 49 52 || inSpan n 55 56 then (n + 1) % 2
    else if inSpan n 89 90 then n - 89
    else if inSpan n 103 106 then (n - 103) / 2
    else if inSpan n 107 110 then (n - 107) % 2
    else if inSpan n 111 126 then (n - 111) % 4 / 2
    else if inSpan n 127 130 || inSpan n 139 144 then (n + 1) % 2
    else if inSpan n 145 176 then (n - 145) / 16
    else if inSpan n 177 192 then (n - 177) / 8
    else if inSpan n 193 216 then (n - 193) / 12
    else if inSpan n 217 220 then (n - 217) / 2
    else if inSpan n 228 229 then n - 228
    else if inSpan n 234 237 then n % 2
    else control

/-- The stack h that ST-n tests. -/
def testStack (n : Nat) : Nat := (n - 111) % 2

/-- Nominal readings of the rails, µV (R441). -/
def railNominal : List Int :=
  [750000, 800000, 900000, 900000, 600000, 850000, 800000, 900000, 825000, 550000, 400000, 900000]

/-- A meter step: the point and its index on the ATB output of the die, and the limits of the reading, µV. POINT 0xFF: the meter is
not at an ATB output. -/
structure MeterStep where
  point : Nat
  index : Nat
  low : Int
  high : Int
  deriving DecidableEq, Repr

/-- A reading within a tolerance of a value. -/
def meterAt (point index : Nat) (v tol : Int) : MeterStep := ⟨point, index, v - tol, v + tol⟩

/-- The results of a test, as SVC_RESULT codes them. -/
abbrev testPass : Nat := 1
abbrev testFail : Nat := 2
abbrev testSkip : Nat := 3
abbrev testAborted : Nat := 4

/-- The text of a result. -/
def resultName : Nat → String
  | 1 => "PASS" | 2 => "FAIL" | 3 => "SKIP" | 4 => "ABORTED" | _ => "NONE"

/-- The hierarchy address of a unit (R12, R20, R392), or its code. -/
def unitName (u : Nat) : List Byte :=
  let die := ascii "D" ++ decPad 1 (unitDie u)
  match unitKind u with
  | 1 => die ++ ascii ".C" ++ decPad 1 (unitSide u) ++ ascii ".B" ++ decPad 1 (unitLane u / 4) ++ ascii ".L" ++ decPad 1 (unitLane u % 4)
      ++ ascii ".S" ++ decPad 2 (unitIndex u)
  | 2 => die ++ ascii ".H" ++ decPad 1 (unitSide u) ++ ascii ".P" ++ decPad 2 (unitIndex u)
  | 6 => die ++ ascii ".C" ++ decPad 1 (unitSide u)
  | 7 => die ++ ascii ".H" ++ decPad 1 (unitSide u)
  | 8 => die
  | _ => ascii "0x" ++ hexPad 4 u

/-- The text of a locus (R440). -/
def locusName (locus unit : Nat) : List Byte :=
  match locus with
  | 1 => ascii " BOARD" | 2 => ascii " PACKAGE" | 3 => ascii " UNIT " ++ unitName unit | _ => []

/-- The rates of R430. -/
def baudRates : List Nat := [115200, 230400, 460800, 921600, 1000000, 2000000, 3000000]

namespace State

-- Answers (R428 to R434) -------------------------------------------------------------------------------------

/-- Bytes on the service port. -/
def print (s : State) (bytes : List Byte) : State := s.emit (.uart bytes)

/-- An answer line, then CR LF and the prompt (R429). -/
def consoleLine (s : State) (bytes : List Byte) : State :=
  s.print (bytes ++ crlf ++ (if s.mode = .hold then ascii "MV4-ROM> " else ascii "MV4> "))

/-- `OK` and what follows it. -/
def consoleOk (s : State) (more : List Byte) : State := s.consoleLine (ascii "OK" ++ more)

/-- `ERR` with a code and its name. -/
def consoleErr (s : State) (code : Nat) : State :=
  s.consoleLine (ascii "ERR 0x" ++ hexPad 4 code ++ ascii " " ++ ascii (codeName code))

/-- The port is LOCKED (R433). -/
def svcLocked (s : State) : Bool := s.isSet F.SVC_STATUS.LOCKED []

/-- A command of the console: in HOLD the boot ROM accepts only some (R430), a locked port permits only some (R433). -/
def console (s : State) (inRom whenLocked : Bool) (f : State → State) : State :=
  let s := s.wr I.svcBaudWait [] 0
  if s.mode = .hold ∧ !inRom then s.consoleErr 0x0400
  else if s.svcLocked ∧ !whenLocked then s.consoleErr 0x0241
  else f s

/-- A line of characters arrives (R428, R430, R431): echoed; a line of more than 255 characters is discarded. -/
def lineIn (s : State) (chars : List Byte) : State :=
  let s := s.on (s.isSet I.svcEcho []) fun s => s.print chars
  let s := s.wr I.svcBaudWait [] 0
  let line := chars.foldl (fun (acc : Nat) c =>
    if c = 0x08 ∨ c = 0x7F then acc - 1 else if c = 0x0A ∨ c = 0x0D then acc else acc + 1) 0
  s.on (decide (255 < line)) fun s => s.consoleErr 0x0100

/-- Words of a text answer: a space and eight hexadecimal digits each. -/
def hexWords (l : List Nat) : List Byte := l.flatMap fun v => ascii " " ++ hexPad 8 v

/-- The commands that HELP lists (R430). -/
def helpText : List Byte := ascii " HELP VERSION STATUS SENSORS SERVICE WAKE TEST ATB REFIT BAUD ECHO UNLOCK LOCK"

/-- The results of VERSION (R341, R353, R453), as die `d` gives them. -/
def versionBytes (s : State) (d : Nat) : List Byte :=
  let image := s.rd F.BOOT_STATUS.IMAGE []
  let v := s.rd F.BOOT_IMG_VER.VERSION [image]
  le 1 0xB0 ++ le 1 image ++ le 2 Config.romVersion ++ le 1 (slice v 24 8) ++ le 1 (slice v 16 8) ++ le 2 (slice v 0 16)
    ++ le 4 (s.rd I.imgBuild [image]) ++ le 1 s.control ++ le 1 d ++ le 2 0 ++ le 8 (Config.serial d)

/-- STATUS: mode, lock state, retired units, and the last result of each test that has run (R430). -/
def statusText (s : State) : List Byte :=
  let ran := (List.range 240).filter fun k => s.isSet F.SVC_RESULT.RESULT [k + 1]
  ascii " MODE " ++ decPad 1 s.mode.code ++ ascii " LOCKED " ++ decPad 1 (s.rd F.SVC_STATUS.LOCKED []) ++ ascii " RETIRED"
    ++ (s.bobbin.filter (·.state == 4)).flatMap (fun r => ascii " " ++ unitName r.unit)
    ++ ran.flatMap fun k => ascii " ST-" ++ decPad 3 (k + 1) ++ ascii " " ++ ascii (resultName (s.rd F.SVC_RESULT.RESULT [k + 1]))

/-- SENSORS: every rail, temperature and oven reading (R430). -/
def sensorText (s : State) : List Byte :=
  hexWords ([0, 1].flatMap fun d =>
    (List.range 12).map (fun r => s.rd F.PWR_RAIL.MW [d, r]) ++ (List.range 9).map fun t => s.rd F.PWR_TEMP.TEMP [d, t])
    ++ hexWords [s.rd F.XTO_STATUS.OVEN_READY [], s.rd F.XTO_STATUS.WARM []]

-- The lock (R433, R434) ----------------------------------------------------------------------------------------

/-- SVC_LOCK is raised at every change of LOCKED or LOCKOUT (R434, R444). -/
def lockEvent (s : State) : State := s.raisePkg 250 (s.rd F.SVC_STATUS.LOCKED [] + 2 * s.rd F.SVC_STATUS.LOCKOUT [])

/-- LOCKED changes. -/
def setLocked (s : State) (v : Nat) : State :=
  if s.rd F.SVC_STATUS.LOCKED [] = v then s else (s.wr F.SVC_STATUS.LOCKED [] v).lockEvent

/-- A wrong answer is recorded: the third within 10 minutes suspends UNLOCK for 60 s (R434). -/
def wrongAnswer (s : State) : State :=
  let old := ((List.range (s.rd I.svcWrongN [])).map fun k => s.rd I.svcWrongAt [k]).filter fun t => !s.elapsed t (600 * secondCycles)
  let all := old ++ [s.now]
  if all.length < 3 then
    (s.each all.zipIdx fun s x => s.wr I.svcWrongAt [x.2] x.1).wr I.svcWrongN [] all.length
  else (((s.wr I.svcWrongN [] 0).wr I.svcLockAt [] s.now).wr F.SVC_STATUS.LOCKOUT [] 1).lockEvent

/-- The response that unlocks the port (R434): of the die with the control role, whose serial number VERSION gives. -/
def unlockAnswer (s : State) : Nat :=
  let key := (List.range 32).map (Config.makerKey s.control)
  ofBe ((hmacSha256 key (be 4 (s.rd I.svcChal []) ++ le 8 (Config.serial s.control))).take 4)

/-- UNLOCK without and with a response (R434). -/
def unlock (s : State) (response : Option Nat) : State :=
  if s.isSet F.SVC_STATUS.LOCKOUT [] then s.consoleErr 0x0243
  else match response with
    | none =>
      let s := ((s.wrFree I.svcChal []).wr I.svcChalOn [] 1).wr I.svcChalAt [] s.now
      s.consoleOk (ascii " CHALLENGE " ++ hexPad 8 (s.rd I.svcChal []))
    | some r =>
      let open_ := s.isSet I.svcChalOn []
      let late := s.elapsed (s.rd I.svcChalAt []) (120 * secondCycles)
      let right := r == s.unlockAnswer
      let s := s.wr I.svcChalOn [] 0
      if open_ && !late && right then (s.setLocked 0).consoleOk []
      else (s.on (open_ && !late) fun s => s.wrongAnswer).consoleErr 0x0241

/-- LOCK (R430, R433): a port that the maker never locks stays as it is. -/
def lockPort (s : State) : State := (s.on (Config.lockEnable % 2 == 1) fun s => s.setLocked 1).consoleOk []

/-- The 60 s lockout ends (R434). -/
def lockoutEnd (s : State) : State :=
  s.on (s.isSet F.SVC_STATUS.LOCKOUT [] && s.elapsed (s.rd I.svcLockAt []) (60 * secondCycles)) fun s =>
    (s.wr F.SVC_STATUS.LOCKOUT [] 0).lockEvent

/-- BAUD (R430, R431): the new rate holds after the OK line. -/
def setBaud (s : State) (rate : Nat) : State :=
  match baudRates.findIdx? (· == rate) with
  | none => s.consoleErr 0x0100
  | some k => (((s.consoleOk []).wr F.SVC_STATUS.BAUD [] k).wr I.svcBaudWait [] 1).wr I.svcBaudAt [] s.now

/-- No complete line within 10 s of a new rate (R431). -/
def baudFallback (s : State) : State :=
  s.on (s.isSet I.svcBaudWait [] && s.elapsed (s.rd I.svcBaudAt []) (10 * secondCycles)) fun s =>
    (s.wr F.SVC_STATUS.BAUD [] 0).wr I.svcBaudWait [] 0

-- The analogue test bus (R427, R441, R442) ----------------------------------------------------------------------

/-- A point and index that an output can carry: package points stand on the die with the control role (R427, R441). -/
def atbOk (s : State) (d point index : Nat) : Bool :=
  let plain := index == 0
  if point ≤ 0x0B then plain
  else if 0x10 ≤ point && point ≤ 0x17 then plain
  else if point == 0x18 || point == 0x19 then plain && d == s.control
  else if point == 0x20 || point == 0x23 then index < 2
  else if point == 0x21 || point == 0x22 then index < 136
  else if point == 0x30 then index < 14
  else (point == 0xF0 || point == 0xF1 || point == 0xFF) && plain

/-- A point that a locked port permits (R433). -/
def atbWhenLocked (point : Nat) : Bool := point ≤ 0x19 || point == 0xF0 || point == 0xF1

/-- The selection of an output. -/
def setAtb (s : State) (d point index : Nat) : State := (s.wr F.SVC_ATB.POINT [d] point).wr F.SVC_ATB.INDEX [d] index

/-- ATB a p [i] and ATB a OFF (R430, R441). -/
def consoleAtb (s : State) (a point index : Nat) : State :=
  if 2 ≤ a then s.consoleErr 0x0100
  else if s.dieRetired a then s.consoleErr 0x020A
  else if s.atbOk a point index then ((s.setAtb a point index).wr I.atbBy [a] (s.now + 1)).consoleOk []
  else s.consoleErr 0x0100

/-- A host write of SVC_ATB (R442): a console selection of the same core cycle stands. -/
def writeAtb (d v : Nat) (s : State) : State :=
  let s := s.clear1 F.SVC_ATB.REJECT [d] (bitAt v 16)
  if s.mode = .service ∨ !s.atbOk d (slice v 0 8) (slice v 8 8) then s.flag F.SVC_ATB.REJECT [d]
  else if s.rd I.atbBy [d] = s.now + 1 then s
  else s.setAtb d (slice v 0 8) (slice v 8 8)

-- Entering and leaving SERVICE (R34, R35, R370, R432) -------------------------------------------------------------

/-- SERVICE ENTER [FORCE] (R35, R113): with FORCE every channel stops as by a host stop command. -/
def serviceEnter (s : State) (force : Bool) : State :=
  if s.inTransition then s.consoleErr 0x0225
  else if s.combAnywhere then s.consoleErr 0x0214
  else if s.mode = .hold ∨ s.mode = .service ∨ (s.mode.acquires ∧ !force) then s.consoleErr 0x0200
  else
    let s := s.on s.mode.acquires fun s =>
      s.each [0, 1] fun s d => s.each [0, 1, 2] fun s a => s.requestStop d a (4096 * s.nextBlk d)
    ((s.wrBool I.svcForced [] force).startMode 2 2).consoleOk []

/-- A test runs (R436). -/
def testRuns (s : State) : Bool := s.isSet F.SVC_STATUS.TEST_RUN []

/-- SERVICE EXIT (R35, R113, R432). -/
def serviceExit (s : State) : State :=
  if s.combAnywhere then s.consoleErr 0x0214
  else if s.testRuns then s.consoleErr 0x0240
  else if s.inTransition then s.consoleErr 0x0225
  else if s.mode ≠ .service then s.consoleErr 0x0200
  else (s.startMode 3 2).consoleOk []

-- Tests (R435 to R443) ---------------------------------------------------------------------------------------------

/-- The number of the running or last test. -/
def testNum (s : State) : Nat := s.rd F.SVC_STATUS.TEST_NUM []

/-- A signed temperature in µV on the ATB (R441). -/
def tempMicrovolts (s : State) (d k : Nat) : Int := 500000 + 5000 * sval 16 (s.rd F.PWR_TEMP.TEMP [d, k]) / 16

/-- The meter steps of ST-n (R441, R443). -/
def meterSteps (s : State) (n : Nat) : List MeterStep :=
  let g := (testChan n).getD 0
  let d := testDie s.control n
  if inSpan n 1 24 then
    let r := (n - 1) % 12
    let v := railNominal.getD r 0
    [meterAt r 0 v (3 * v / 100)]
  else if inSpan n 25 28 then [if n % 2 = 1 then meterAt 0xF1 0 1000000 2000 else meterAt 0xF0 0 0 2000]
  else if inSpan n 29 44 then [meterAt (0x10 + (n - 29) % 8) 0 (s.tempMicrovolts d ((n - 29) % 8)) 2500]
  else if n = 46 then [meterAt 0x18 0 600000 150000]
  else if n = 47 then [meterAt 0x19 0 100000 3000, meterAt 0x19 0 600000 3000, meterAt 0x19 0 1100000 3000]
  else if inSpan n 61 64 then [meterAt 0x20 (g % 2) 600000 3000]
  else if inSpan n 65 68 then [meterAt 0x23 (g % 2) 881000 2000]
  else if inSpan n 145 176 then [⟨0xFF, 0, -600000, 600000⟩]
  else if inSpan n 193 216 then
    let u := (n - 193) % 12
    if u < 6 then [meterAt 0x30 u 856000 2000, meterAt 0x30 u 344000 2000] else [meterAt 0x30 u 256000 2000, meterAt 0x30 u 768000 2000]
  else if inSpan n 217 220 then
    let u := 12 + (n - 217) % 2
    let serves := s.rd (if u = 12 then F.CMP_SPARE_MAP.S0_UNIT else F.CMP_SPARE_MAP.S1_UNIT) [d]
    if serves < 6 then [meterAt 0x30 u 856000 2000, meterAt 0x30 u 344000 2000] else [meterAt 0x30 u 256000 2000, meterAt 0x30 u 768000 2000]
  else []

/-- After its readings are within their limits, ST-n still measures by itself. -/
def measuresItself (n : Nat) : Bool := inSpan n 65 68 || inSpan n 145 176

/-- What a reading outside its limits localises (R443). -/
def meterLocus (s : State) (n : Nat) : Nat × Nat :=
  let d := testDie s.control n
  let failed (k : Nat) : Bool := s.rd F.SVC_RESULT.RESULT [k] == testFail
  if inSpan n 1 24 then (if failed (if n ≤ 12 then n + 12 else n - 12) then 1 else 2, 0)
  else if inSpan n 25 28 then (if failed (if n % 2 = 1 then n + 1 else n - 1) then 1 else 2, 0)
  else if inSpan n 29 44 then (3, unitCode 8 d 0 0 0)
  else if inSpan n 61 68 then (3, unitCode 6 d ((testChan n).getD 0 % 2) 0 0)
  else if inSpan n 145 176 then (1, 0)
  else if inSpan n 193 216 then (3, unitCode 4 d 0 0 ((n - 193) % 12))
  else if inSpan n 217 220 then (3, unitCode 4 d 0 0 (12 + (n - 217) % 2))
  else (2, 0)

/-- Power and energy of ST-n by the cost table entries of what it does (R377, R385, R436). -/
def testCost (s : State) (n : Nat) : Nat × Nat :=
  if inSpan n 81 84 then (0, s.cost 12)
  else if inSpan n 95 108 then (s.cost 2, 0)
  else if inSpan n 127 128 then (s.cost 2 + s.cost 4, 0)
  else if inSpan n 131 138 then (s.cost 2 + s.cost 4 + s.cost 6, 0)
  else if inSpan n 141 144 then (s.cost 7, 0)
  else if inSpan n 177 192 then (s.cost 9, 0)
  else if inSpan n 109 110 || inSpan n 193 220 then (s.cost 10, 0)
  else if inSpan n 115 118 || inSpan n 123 126 then (s.cost 19, 0)
  else if inSpan n 221 222 then (0, s.cost 17)
  else if inSpan n 223 227 then (s.cost 8, 0)
  else (0, 0)

/-- The channels of its die whose ladder ST-n uses (R85, R443), and the die. -/
def ladderChans (n : Nat) : Nat × List Nat :=
  let d := testDie 0 n
  if inSpan n 107 108 then (otherDie d, [0])
  else if inSpan n 89 90 then (d, [0, 1])
  else if inSpan n 103 106 || inSpan n 127 128 then (d, [0])
  else match testChan n with
    | some g => if inSpan n 65 68 || inSpan n 73 76 || inSpan n 91 102 || inSpan n 131 138 then (d, [g % 2]) else (d, [])
    | none => (d, [])

/-- ST-n takes the ladder as a stimulus: its blocks are test blocks (R85, R443). -/
def stimulusTest (n : Nat) : Bool := inSpan n 95 108 || inSpan n 127 128 || inSpan n 131 138

/-- The claim of ST-n (R436): trims and track-and-hold with the precedence of Combing, the Splice, a stack. -/
def testClaim (n : Nat) : Option Claim :=
  let l := ladderChans n
  let trims := l.2 ++ l.2.map (· + 2)
  let splice := if inSpan n 107 108 || n == 53 || inSpan n 221 222 then [9] else []
  let stack := if inSpan n 115 118 || inSpan n 123 126 then [4 + testStack n] else if inSpan n 127 128 then [4]
    else if inSpan n 131 138 then [4 + (testChan n).getD 0 % 2] else []
  let prec := if trims ≠ [] then 2 else if splice ≠ [] then 3 else 5
  if trims ++ splice ++ stack = [] then none else some ⟨.test n, prec, l.1, trims ++ splice ++ stack⟩

/-- The power domains of die d that ST-n needs, of those that SERVICE keeps on only for a test (R367): converter lanes and track-and-hold of the
channels it uses, their pipelines, the trigger engine, accumulation engines and time-interval units. DEDUCED: which test needs which. -/
def testDomains (n d : Nat) : List Nat :=
  let chans := if (ladderChans n).1 = d then (ladderChans n).2 else []
  let chans := chans ++ match testChan n with
    | some g => if (inSpan n 61 64 || inSpan n 69 72 || inSpan n 77 84) && g / 2 == d then [g % 2] else []
    | none => []
  let own := testDie 0 n == d
  if n = 240 then List.range 48
  else
    chans.flatMap (fun c => (List.range 8).map (· + 8 + 8 * c) ++ [24 + c])
      ++ (if stimulusTest n then chans.map (· + 26) else [])
      ++ (if (inSpan n 99 106 && own) || inSpan n 107 108 || ((inSpan n 127 128 || inSpan n 131 138) && own) then [28] else [])
      ++ (if inSpan n 131 138 && own then chans.map (· + 31) else if inSpan n 236 237 && own then [31, 32] else [])
      ++ (if inSpan n 177 192 && own then [35] else [])

/-- Domains are on for a test, or no more (R367). -/
def setTestDomains (s : State) (f : Nat → List Nat) : State :=
  (s.each [0, 1] fun s d => s.wr I.testDom [d] ((f d).foldl setBit 0)).syncDomains.syncCard

/-- The ladder of a test closes onto its channels: test blocks, or calibration blocks (R85). -/
def ladderOn (s : State) (n : Nat) : State :=
  let l := ladderChans n
  s.each l.2 fun s c =>
    let s := (s.wr I.calOpen [l.1, c] 0).calBegins l.1 c (if stimulusTest n then F.CNV_STATUS.CAL_TEST else F.CNV_STATUS.CAL_ACTIVE)
    (s.setCalSw l.1 c 1).wr F.CNV_CTRL.LADDER_SEL [l.1, c] (if inSpan n 65 68 then 15 else 12)

/-- The ladder opens again, 32 cycles before the last of those blocks; the registers of the channels are as before (R85, R438). -/
def ladderOff (s : State) (n : Nat) : State :=
  let l := ladderChans n
  s.each l.2 fun s c => ((s.setCalSw l.1 c 0).wr F.CNV_CTRL.LADDER_SEL [l.1, c] 0).wr I.calOpen [l.1, c] (s.now + 1)

/-- A test ends (R437 to R440, R444): what it changed is restored but for the exceptions of R438, its groups are released, and its
result is recorded, raised and written. -/
def testEnd (s : State) (result locus unit : Nat) (reading : List Byte) : State :=
  let n := s.testNum
  let began := s.rd I.svcTestWait [] == 0 || s.rd I.svcTestWait [] == 2
  let s := s.on began fun s => (s.ladderOff n).setTestDomains fun _ => []
  let s := s.on (began && (inSpan n 115 118 || inSpan n 123 126)) fun s => s.loseStack (testDie s.control n) (testStack n)
  let s := s.on (began && inSpan n 131 138) fun s => s.clearHist (testDie s.control n) ((testChan n).getD 0 % 2)
  let s := (s.release (.test n)).withdraw fun x => x.req == .test n
  let s := s.each [0, 1] fun s d => s.setAtb d (slice (s.rd I.svcAtbSave [d]) 0 8) (slice (s.rd I.svcAtbSave [d]) 8 8)
  let s := (((s.wr F.SVC_STATUS.TEST_RUN [] 0).wr I.svcTestWait [] 0).wr I.testDone [] (s.now + 1)).wr F.SVC_RESULT.RESULT [n] result
  let s := (s.wr F.SVC_RESULT.LOCUS [n] locus).wr F.SVC_RESULT.UNIT [n] unit
  let s := s.consoleLine (ascii "ST-" ++ decPad 3 n ++ ascii " " ++ ascii (resultName result) ++ reading ++ locusName locus unit)
  s.raisePkg 249 (n + 2 ^ 8 * result + 2 ^ 11 * locus)

/-- The next reading is asked for (R440): the point is routed and the prompt written. -/
def meterAsk (s : State) (m : MeterStep) : State :=
  let n := s.testNum
  let d := testDie s.control n
  let s := s.on (m.point != 0xFF) fun s => s.setAtb d m.point m.index
  let s := (s.wr I.svcTestWait [] 2).wr I.svcMeterAt [] s.now
  s.print (ascii "ST-" ++ decPad 3 n ++ ascii " MEASURE ATB" ++ decPad 1 d ++ ascii " " ++ volts ((m.low + m.high) / 2) ++ ascii " ["
    ++ volts m.low ++ ascii " .. " ++ volts m.high ++ ascii "]" ++ crlf)

/-- A Combing run that a test starts (R108, R443): an open overload episode lies with the board, whatever else refuses it with the channel. -/
def testComb (s : State) (d c : Nat) : State :=
  match s.combCheck d c true false with
  | 0 => s.combGo d c false
  | 0x0210 => s.testEnd testFail 1 0 []
  | _ => s.testEnd testFail 3 (unitCode 6 d c 0 0) []

/-- The test has what it needs and begins its steps. -/
def testBegin (s : State) : State :=
  let n := s.testNum
  let s := ((s.wr I.svcTestWait [] 0).setTestDomains (testDomains n)).ladderOn n
  if inSpan n 81 84 then s.testComb (testDie 0 n) ((testChan n).getD 0 % 2)
  else match s.meterSteps n with
    | [] => s
    | m :: _ => s.meterAsk m

/-- An admitted test claims its groups, and begins with their grant (R405, R436). -/
def testAdmitted (s : State) : State :=
  match testClaim s.testNum with
  | none => s.testBegin
  | some c =>
    let s := (s.wr I.svcTestWait [] 3).claim c
    s.on (s.runs c.act) fun s => s.testBegin

/-- A test whose groups are now granted begins. -/
def testResume (s : State) : State :=
  s.on (s.testRuns && s.rd I.svcTestWait [] == 3 && s.runs (.test s.testNum)) fun s => s.testBegin

/-- A condition that ST-n needs is absent (R437, R443). -/
def testLacks (s : State) (n : Nat) : Bool :=
  let d := testDie s.control n
  s.dieRetired d
    || (match testChan n with | some g => !s.isSet F.CNV_STATUS.AVAILABLE [g / 2, g % 2] | none => false)
    || (n == 46 && !s.isSet F.XTO_STATUS.OVEN_READY [])
    || (n == 48 && !s.isSet F.XTO_STATUS.REF_PRESENT [])
    || (inSpan n 85 88 && s.rd F.CRD_STATUS.STATE [d, (n - 85) % 2] == 0)
    || (inSpan n 111 126 && s.isSet (if testStack n = 0 then F.BOB_RETIRED.H0 else F.BOB_RETIRED.H1) [d])
    || (inSpan n 119 122 && !s.isSet F.MEM_SCRUB_STATUS.PASSES [d, testStack n])
    || (inSpan n 123 126 && s.rd F.MEM_PC_STAT.STATE [d, testStack n, 31] != 1)
    || (inSpan n 139 140 && !s.isSet F.SCN_STATUS.HPD [d])
    || (inSpan n 217 220 && s.rd (if (n - 217) % 2 = 0 then F.CMP_SPARE_MAP.S0_STATE else F.CMP_SPARE_MAP.S1_STATE) [d] == 3)

/-- ST-n starts (R436). -/
def testStart (s : State) (n : Nat) : State :=
  let s := (((s.wr F.SVC_STATUS.TEST_RUN [] 1).wr F.SVC_STATUS.TEST_NUM [] n).wr I.svcTestAt [] s.now).wr I.svcMeterN [] 0
  let s := s.each [0, 1] fun s d => s.wr I.svcAtbSave [d] (s.rd F.SVC_ATB.POINT [d] + 2 ^ 8 * s.rd F.SVC_ATB.INDEX [d])
  let s := s.wr I.svcTestWait [] 1
  if s.testLacks n then s.testEnd testSkip 0 0 []
  else if testKind n = .S then
    let c := s.testCost n
    let r := s.harvest s.control [0, 1] (fun _ => (c.1 : Int)) c.2 (.test n) true none
    if r.2 = .granted then r.1.testAdmitted else r.1
  else s.testBegin

/-- The kind of ST-n may run in the mode (R430, R435). -/
def testAllowed (s : State) (n : Nat) : Bool :=
  match testKind n with
  | .H => true
  | .R => s.mode == .ready || s.mode.acquires || s.mode == .service
  | .S => s.mode == .service
  | .P => false

/-- TEST n (R430, R433, R435, R436). -/
def consoleTest (s : State) (n : Nat) : State :=
  if n = 0 ∨ 240 < n then s.consoleErr 0x0100
  else if s.svcLocked ∧ 44 < n then s.consoleErr 0x0241
  else if s.testRuns then s.consoleErr 0x0240
  else if testKind n = .P then s.consoleErr 0x0100
  else if !s.testAllowed n then s.consoleErr 0x0242
  else s.testStart n

/-- TEST n v for kind P (R430, R443): a resistance in mΩ, 100 ±3 Ω. -/
def consoleReading (s : State) (n milliohm : Nat) : State :=
  if n = 0 ∨ 240 < n ∨ testKind n ≠ .P then s.consoleErr 0x0100
  else if s.svcLocked then s.consoleErr 0x0241
  else if s.testRuns then s.consoleErr 0x0240
  else
    let pass := 97000 ≤ milliohm && milliohm ≤ 103000
    let s := (s.wr F.SVC_STATUS.TEST_NUM [] n).wr I.svcTestWait [] 1
    let s := s.each [0, 1] fun s d => s.wr I.svcAtbSave [d] (s.rd F.SVC_ATB.POINT [d] + 2 ^ 8 * s.rd F.SVC_ATB.INDEX [d])
    s.testEnd (if pass then testPass else testFail) (if pass then 0 else 2) 0
      (ascii " " ++ decPad 6 milliohm ++ ascii "mOhm [97000 .. 103000]")

/-- The pseudo-channel of a stack with the most corrected codewords. -/
def worstPc (s : State) (d h : Nat) : Nat :=
  (List.range 32).foldl (fun best p => if s.rd F.MEM_PC_CE.COUNT [d, h, best] < s.rd F.MEM_PC_CE.COUNT [d, h, p] then p else best) 0

/-- The first slice of a channel with a saturated or timed-out loop. -/
def worstLoop (s : State) (d c : Nat) : Nat :=
  ((List.range 136).find? fun i => s.isSet F.CRD_SLICE_STAT.SAT [d, c, i] || s.isSet F.CRD_SLICE_STAT.TMO [d, c, i]).getD 0

/-- The outcome of a test that reads only what registers show (R443): result, locus and unit. -/
def testJudged (s : State) (n : Nat) : Option (Nat × Nat × Nat) :=
  let d := testDie s.control n
  let verdict (pass : Bool) (locus unit : Nat) : Option (Nat × Nat × Nat) := some (if pass then (testPass, 0, 0) else (testFail, locus, unit))
  let again (l : Nat) : Nat := if s.rd F.SVC_RESULT.RESULT [n] == testFail then l else 1
  if inSpan n 81 84 then
    let code := s.rd F.CRD_COMB_STATUS.RESULT [d, (n - 81) % 2]
    verdict (code == 0 && !s.isSet F.CRD_STATUS.SAT_ANY [d, (n - 81) % 2]) (if code = 0x0210 then 1 else 3)
      (if code = 0x0210 then 0 else unitCode 6 d ((n - 81) % 2) 0 0)
  else if inSpan n 85 88 then
    let c := (n - 85) % 2
    verdict (!s.isSet F.CRD_STATUS.SAT_ANY [d, c] && !s.isSet F.CRD_STATUS.TIMEOUT_ANY [d, c]) 3 (sliceUnit d c (s.worstLoop d c))
  else if inSpan n 111 114 then verdict (s.isSet F.MEM_STATUS.TRAINED [d, testStack n]) 3 (unitCode 7 d (testStack n) 0 0)
  else if inSpan n 119 122 then
    let p := s.worstPc d (testStack n)
    verdict (s.rd F.MEM_PC_CE.COUNT [d, testStack n, p] ≤ s.rd F.BOB_THRESH.CE_LIMIT []) 3 (unitCode 2 d (testStack n) 0 p)
  else if inSpan n 139 140 then
    verdict (s.rd F.SCN_STATUS.LINK [d] == 2 && s.rd F.SCN_STATUS.RATE_ACT [d] == s.rd F.SCN_LINK_CFG.RATE [d]
      && s.rd F.SCN_STATUS.LANES_ACT [d] == s.rd F.SCN_LINK_CFG.LANES [d]) (again 2) 0
  else if n = 230 then verdict (s.rd I.flashMbit [] == 512 && s.isSet F.BOOT_STATUS.SFDP_OK []) 1 0
  else if n = 231 then verdict (s.slotValid 0 || s.slotValid 1) 1 0
  else if n = 239 then
    let draw := s.rd F.HVS_LEDGER.VALUE [0]
    let near (x pct : Nat) : Bool := decide ((100 - pct) * x ≤ 100 * draw) && decide (100 * draw ≤ (100 + pct) * x)
    verdict (near (([0, 1].flatMap fun d => (List.range 12).map fun r => s.rd F.PWR_RAIL.MW [d, r]).sum) 1 && near (s.modeCost s.mode) 20) 2 0
  else none

/-- A test runs its own steps: it awaits neither admission, nor groups, nor a reading, nor Combing. -/
def testSteps (s : State) : Bool :=
  s.testRuns && s.rd I.svcTestWait [] == 0
    && !(inSpan s.testNum 81 84 && s.combState (testDie 0 s.testNum) ((testChan s.testNum).getD 0 % 2) != 0)

/-- The running test completes (R437 to R440). `taps` and `subs` are what the tests within ST-240 computed and gave. -/
def testComplete (s : State) (result locus unit : Nat) (taps : List (Nat × CombTap)) (subs : List (Nat × Nat × Nat × Nat)) : State :=
  let n := s.testNum
  if !s.testSteps then s
  else
    let s := s.on (n == 240) fun s =>
      let s := s.each taps fun s x => s.combTrim x.1 x.2
      s.each subs fun s x =>
        let k := x.1
        let s := s.on (inSpan k 115 118 || inSpan k 123 126) fun s => s.loseStack (testDie s.control k) (testStack k)
        let s := s.on (inSpan k 131 138) fun s => s.clearHist (testDie s.control k) ((testChan k).getD 0 % 2)
        let s := ((s.wr F.SVC_RESULT.RESULT [k] x.2.1).wr F.SVC_RESULT.LOCUS [k] x.2.2.1).wr F.SVC_RESULT.UNIT [k] x.2.2.2
        s.raisePkg 249 (k + 2 ^ 8 * x.2.1 + 2 ^ 11 * x.2.2.1)
    match s.testJudged n with
    | some r => s.testEnd r.1 r.2.1 r.2.2 []
    | none =>
      if n = 240 then
        let count (r : Nat) : Nat := (subs.filter fun x => x.2.1 == r).length
        s.testEnd (if count testFail = 0 then testPass else testFail) locus unit
          (ascii " " ++ decPad 3 (count testPass) ++ ascii "/" ++ decPad 3 (count testFail) ++ ascii "/" ++ decPad 3 (count testSkip))
      else s.testEnd result locus unit []

/-- A meter reading in µV arrives, or an empty line (R440). -/
def meterReading (s : State) (reading : Option Int) : State :=
  if !s.testRuns || s.rd I.svcTestWait [] != 2 then s
  else
    let n := s.testNum
    let k := s.rd I.svcMeterN []
    match reading, (s.meterSteps n)[k]? with
    | some v, some m =>
      if v < m.low ∨ m.high < v then
        let l := s.meterLocus n
        s.testEnd testFail l.1 l.2 (ascii " " ++ volts v ++ ascii " [" ++ volts m.low ++ ascii " .. " ++ volts m.high ++ ascii "]")
      else
        let s := s.wr I.svcMeterN [] (k + 1)
        match (s.meterSteps n)[k + 1]? with
        | some next => s.meterAsk next
        | none =>
          if measuresItself n then s.wr I.svcTestWait [] 0
          else s.testEnd testPass 0 0 (ascii " " ++ volts v ++ ascii " [" ++ volts m.low ++ ascii " .. " ++ volts m.high ++ ascii "]")
    | _, _ => s.testEnd testSkip 0 0 []

/-- No reading within 300 s of the prompt (R440). -/
def meterTimeout (s : State) : State :=
  s.on (s.testRuns && s.rd I.svcTestWait [] == 2 && s.elapsed (s.rd I.svcMeterAt []) (300 * secondCycles)) fun s => s.testEnd testSkip 0 0 []

/-- A test of kind S is not admitted within 10 s (R436). -/
def testAdmitTimeout (s : State) : State :=
  s.on (s.testRuns && s.rd I.svcTestWait [] == 1 && s.elapsed (s.rd I.svcTestAt []) (10 * secondCycles)) fun s =>
    s.testEnd testSkip 0 0 (ascii " 0x0301")

/-- A test is stopped: a Combing run of its own is abandoned (R437, R439). -/
def testStop (s : State) (result : Nat) (why : List Byte) : State :=
  let n := s.testNum
  let s := s.on (inSpan n 81 84 && s.rd I.svcTestWait [] == 0) fun s => s.combAbort (testDie 0 n) ((testChan n).getD 0 % 2) 0x0211
  s.testEnd result 0 0 why

/-- The limit of 600 s has come (R437). -/
def testPastLimit (s : State) : Bool := s.testRuns && s.elapsed (s.rd I.svcTestAt []) (600 * secondCycles)

/-- A test still runs at its limit of 600 s (R437). -/
def testLimit (s : State) : State := s.on s.testPastLimit fun s => s.testStop testFail (ascii " TIMEOUT")

/-- A 0x03 character (R439): discarded in the core cycle in which a test completes. -/
def testAbort (s : State) : State := s.on (s.testRuns && s.rd I.testDone [] != s.now + 1) fun s => s.testStop testAborted []

end State

end Sys2Proof.Machine
end

