-- ==== Sys2Proof/Machine/PeriodOps.lean ====
section
/-!
DEFINITION. The Harvest period: ledger, corrections, derating and deferred queues; the allowance, the thermal limit, failover
(R375, R376, R380 to R386, R403).
-/

namespace Sys2Proof.Machine

namespace State

-- Deferred requests (R379, R381) -------------------------------------------------------------------------------

/-- The dies whose shares decide a request (R378). -/
def requestDies (x : Deferred) : List Nat :=
  match x.req with
  | .mode _ => [0, 1] | .storeWrite => [0, 1] | .refit => [0, 1] | .test _ => [0, 1]
  | _ => [x.die]

/-- Power and energy of a request (R377). -/
def requestCost (s : State) (r : Request) : Int × Nat :=
  match r with
  | .mode m => (s.modePower m, 0)
  | .arm d a => (s.armPower d a, 0)
  | .accStart _ _ => (s.accCost (s.rd F.HVS_STATUS.LEVEL []), 0)
  | .timEnable _ _ => (s.cost 9, 0)
  | .comb _ _ _ _ => (0, s.cost 12)
  | .rethread _ u => (0, s.rtEnergy u)
  | .storeWrite => (0, s.cost 13)
  | .refit => (0, s.cost 14)
  | .spliceRetrain _ _ => (0, s.cost 17)
  | .test n => ((s.testCost n).1, (s.testCost n).2)

/-- The block's own checks of a request, made again as it is admitted (R381). -/
def requestCheck (s : State) (r : Request) : Nat :=
  match r with
  | .mode m => s.modeCheck m
  | .arm d a => s.armCheck d a
  | .accStart d c => s.accCheck d c
  | .timEnable d u => if s.isSet F.TIM_CTRL.EN [d, u] then 0 else s.timCheck d u
  | .comb d c allow _ => s.combCheck d c false allow
  | .rethread _ u => if s.unitGone u then 0x0229 else if s.unitSpare u then 0 else 0x0227
  | _ => 0

/-- The check field of a request takes a code (R379). -/
def requestField (s : State) (r : Request) (code : Nat) : State :=
  match r with
  | .arm d a => s.wr F.ACQ_STATUS.ARM_CHECK [d, a] code
  | .accStart d c => s.wr F.ACC_STATUS.START_CHECK [d, c] code
  | .timEnable d u => s.wr F.TIM_STATUS.EN_CHECK [d, u] code
  | .rethread d u => s.on (code != 0 && s.rd F.BOB_ACTIVE.UNIT [d] == u) fun s => s.rtOver d 4 code
  | _ => s

/-- An admitted request takes effect (R381). -/
def requestGo (s : State) (r : Request) : State :=
  match r with
  | .mode m => s.startMode m.code 0
  | .arm d a => (s.wr F.ACQ_STATUS.ARM_CHECK [d, a] 0).armEffect d a (4096 * s.nextBlk d) 4
  | .accStart d c => s.accStart d c
  | .timEnable d u => if s.isSet F.TIM_CTRL.EN [d, u] then s else s.timStart d u (s.nextBlk d)
  | .comb d c _ store => s.combGo d c store
  | .rethread d u => s.rtGo u (s.isSet F.BOB_ACTIVE.LOST [d])
  | .storeWrite => s.storeGo
  | .refit => s.refitGo
  | .spliceRetrain d l =>
    let s := s.claim ⟨.spliceRetrain d l, 3, d, [9]⟩
    s.on (s.runs (.spliceRetrain d l)) fun s => s.wr I.laneAt [d] s.now
  | .test _ => s.testAdmitted

/-- The command of the request works on after its start (kind L). -/
def requestLong : Request → Bool
  | .mode _ => true | .comb .. => true | .rethread .. => true | .storeWrite => true
  | _ => false

/-- The outstanding entry of a deferred command. -/
def deferredEntry (s : State) (h : MbxHdr) : Option Outstanding :=
  s.outstanding.find? fun o => o.deferred && o.die == h.die && o.tag == h.tag

/-- The deferred command of a request finishes with a status. -/
def requestEnd (s : State) (x : Deferred) (code : Nat) : State :=
  match x.cmd.bind fun p => s.deferredEntry p.1 with
  | some o => s.finish o code []
  | none => s

/-- The deferred command of a request starts: MBX_STARTED (R348, R366). -/
def requestStarted (s : State) (x : Deferred) : State :=
  match x.cmd with
  | none => s
  | some p =>
    let s := s.raise p.1.die 217 (p.1.tag + 2 ^ 16 * p.2)
    match s.deferredEntry p.1 with
    | none => s
    | some o =>
      if requestLong x.req then
        { s with outstanding := s.outstanding.map fun (y : Outstanding) => if y = o then { y with deferred := false } else y }
      else s.finish o 0 []

/-- What HVS_ADMIT names of a request: the set, unit or TAG (R387). -/
def requestName (x : Deferred) : Nat :=
  match x.req with
  | .arm d a => 3 * d + a
  | .accStart d c => 2 * d + c
  | .timEnable d u => 8 * d + u
  | .rethread _ u => u
  | _ => (x.cmd.map fun p => p.1.tag).getD 0

/-- A deferred request leaves its queue. -/
def dropDeferred (s : State) (x : Deferred) : State := { s with deferred := s.deferred.erase x }.syncDeferred

/-- A head is tried (R381): it blocks where it does not fit, is refused where its block's checks fail, else takes effect. -/
def tryHead (s : State) (x : Deferred) : State × Bool :=
  let c := s.requestCost x.req
  let dies := requestDies x
  if !s.fits dies c.1 c.2 then (s, false)
  else
    let k := s.requestCheck x.req
    let s := s.dropDeferred x
    let s := match x.req with
      | .arm d a => s.recordSeqCheck d a k
      | _ => s
    if k ≠ 0 then ((s.requestField x.req k).requestEnd x k, true)
    else
      let s := (s.charge dies c.1 c.2).raisePkg 14 (requestKind x.req x.maint + 2 ^ 8 * x.die + 2 ^ 16 * requestName x)
      ((s.requestStarted x).requestGo x.req, true)

/-- Precedence of a maintenance request (R404, R436). -/
def requestPrec : Request → Nat
  | .rethread .. => 1 | .comb .. => 2 | .spliceRetrain .. => 3 | .storeWrite => 4 | .refit => 6
  | .test n => ((testClaim n).map (·.prec)).getD 2
  | _ => 7

/-- The head of a deferred queue: the host's by time, the maintenance queue's by precedence (R381). -/
def deferredHead (s : State) (d : Nat) (maint : Bool) : Option Deferred :=
  let q := s.deferred.filter fun x => x.die == d && x.maint == maint
  if maint then q.foldl (fun best x => match best with
    | none => some x
    | some b => if requestPrec x.req < requestPrec b.req then some x else best) none
  else q.head?

/-- The head of the host queue, then that of the maintenance queue, while heads are admitted (R381). -/
def tryQueues (d : Nat) : Nat → State → State
  | 0, s => s
  | n + 1, s =>
    let r := match s.deferredHead d false with
      | some x => s.tryHead x
      | none => (s, false)
    let q := match r.1.deferredHead d true with
      | some x => r.1.tryHead x
      | none => (r.1, false)
    if r.2 || q.2 then tryQueues d n q.1 else q.1

/-- Every deferred queue is tried (R381). -/
def tryDeferred (s : State) : State := s.each [0, 1] fun s d => tryQueues d (s.deferred.length) s

-- The ledger (R376, R386) ---------------------------------------------------------------------------------------

/-- The power committed: requests within their first 10 ms (R376). -/
def committedMw (s : State) : Nat := ((s.committed.filter fun x => s.now < x.2).map (·.1)).sum

/-- The shares of both dies from the ledger (R376). -/
def setShares (s : State) : State :=
  let used := s.rd F.HVS_LEDGER.VALUE [0] + s.rd F.HVS_LEDGER.VALUE [1]
  s.each [0, 1] fun s d =>
    (s.wr F.HVS_SHARE.VALUE [d, 0] ((s.rd F.HVS_CAP.MW [] - used) / 2)).wr F.HVS_SHARE.VALUE [d, 1] ((s.rd F.HVS_BUDGET.MJ [] - used) / 2)

/-- Requests that ended their 10 ms leave the ledger. -/
def setCommitted (s : State) : State :=
  let s := { s with committed := s.committed.filter fun x => s.now < x.2 }
  s.wr F.HVS_LEDGER.VALUE [1] s.committedMw

/-- A measured cost corrects its entry (R386). DESIGN CHOICE: an eighth that is no whole number is rounded down. -/
def correctCost (s : State) (n measured : Nat) : State :=
  let v : Int := s.cost n
  let f := s.rd F.COST.FACTORY [n]
  let new := v + ((measured : Int) - v) / 8
  s.on (n < 20) fun s => (s.wr F.COST.VALUE [n] (max ((f / 2 : Nat) : Int) (min ((2 * f : Nat) : Int) new)).toNat).inc F.COST.UPDATES [n]

/-- Power that undoing the top derating level adds (R380). -/
def undoneSaving (s : State) : Nat :=
  let k := s.rd F.HVS_STATUS.LEVEL []
  if k ≤ 4 then (s.runningEngines 0 + s.runningEngines 1) * (s.accCost (k - 1) - s.accCost k)
  else if k ≤ 8 then
    let g := 8 - k
    if s.rd F.CRD_STATUS.STATE [g / 2, g % 2] = 3 then s.cost 1 else 0
  else ([0, 1].flatMap fun d => (List.range 12).map fun u =>
    if s.isSet F.CMP_STATUS.DERATED [d, u] then Config.cmpStepSaving (s.rd F.CMP_STATUS.MODE_ACT [d, u] - 1) else 0).sum

/-- The tests of R383 hold: draw within the cap, window within the budget. -/
def overCap (s : State) : Bool := decide (s.rd F.HVS_CAP.MW [] < s.rd F.HVS_LEDGER.VALUE [0])
def overBudget (s : State) : Bool := decide (s.rd F.HVS_BUDGET.MJ [] < s.rd F.HVS_LEDGER.VALUE [2])

/-- Level 11 does not suffice: OVER is set, and HVS_OVER raised once (R382, R383). -/
def setOver (s : State) (cap budget : Bool) : State :=
  if s.isSet F.HVS_STATUS.OVER [] then s
  else (s.wr F.HVS_STATUS.OVER [] 1).raisePkg 13 (s.rd F.HVS_STATUS.LEVEL [] + 2 ^ 4 * b2n cap + 2 ^ 5 * b2n budget)

/-- The end of a period: derating raised or lowered by one (R380, R383). -/
def periodEnd (s : State) : State :=
  let level := s.rd F.HVS_STATUS.LEVEL []
  if s.overCap || s.overBudget then
    if level < 11 then s.derateUp s.control else s.setOver s.overCap s.overBudget
  else
    let s := s.wr F.HVS_STATUS.OVER [] 0
    let sum := s.rd F.HVS_LEDGER.VALUE [0] + s.rd F.HVS_LEDGER.VALUE [1] + s.undoneSaving
    s.on (level != 0 && !s.isSet F.PWR_STATUS.THERMAL [s.control] && s.elapsed s.deratedAt 12500000
      && 10 * sum ≤ 9 * s.rd F.HVS_CAP.MW [] && 10 * sum ≤ 9 * s.rd F.HVS_BUDGET.MJ []) fun s => s.derateDown

/-- What the monitors of both dies measured over the period: rails in mW, sensors in 0.0625 °C, the hottest shown as the ninth (R376). -/
def showMonitors (s : State) (rails : List (List Nat)) (temps : List (List Int)) : State :=
  s.each [0, 1] fun s d =>
    let t := temps.getD d []
    let s := s.each (List.range 12) fun s r => s.wr F.PWR_RAIL.MW [d, r] ((rails.getD d []).getD r 0)
    let s := s.each (List.range 8) fun s k => s.wr F.PWR_TEMP.TEMP [d, k] (sfield 16 (t.getD k 0))
    s.wr F.PWR_TEMP.TEMP [d, 8] (sfield 16 ((t.take 8).foldl max (t.getD 0 0)))

/-- A Harvest period ends and the next begins (R376, R380, R381, R383, R386, R403). No cost is corrected where a second admission took effect
within the same 10 ms (R386). -/
def harvestPeriod (s : State) (draw : Nat) (rails : List (List Nat)) (temps : List (List Int)) (corrections : List (Nat × Nat)) : State :=
  if s.mode = .hold ∨ s.dt / 160000000 = s.rd I.periodNo [] then s
  else
    let single := decide (s.committed.length ≤ 1)
    let s := (s.wr I.periodNo [] (s.dt / 160000000)).showMonitors rails temps
    let s := { s with periodDraws := (draw :: s.periodDraws).take 1000 }
    let s := ((s.wr F.HVS_LEDGER.VALUE [0] draw).wr F.HVS_LEDGER.VALUE [2] (s.periodDraws.sum / 1000)).setCommitted
    let s := s.on single fun s => s.each corrections fun s x => s.correctCost x.1 x.2
    (s.setShares.periodEnd).tryDeferred

-- The allowance (R375, R382) --------------------------------------------------------------------------------------

/-- The saving of both dies at the next derating level. -/
def nextSaving (s : State) : Nat :=
  let k := s.rd F.HVS_STATUS.LEVEL [] + 1
  (s.derateStep k 0).2 + (s.derateStep k 1).2

/-- Derating rises until what is used meets the allowance, or until level 11 (R382). -/
def derateToFit : Nat → Nat → State → State × Nat
  | 0, used, s => (s, used)
  | n + 1, used, s =>
    if (used ≤ s.rd F.HVS_CAP.MW [] && used ≤ s.rd F.HVS_BUDGET.MJ []) || 11 ≤ s.rd F.HVS_STATUS.LEVEL [] then (s, used)
    else derateToFit n (used - s.nextSaving) (s.derateUp s.control)

/-- Host requests in the queues are refused (R382). -/
def refuseDeferred (s : State) : State :=
  let gone := s.deferred.filter (!·.maint)
  let s := s.withdraw fun x => !x.maint
  s.each gone fun s x => ((s.harvestRefuse x.die x.req false false).requestField x.req 0x0301).requestEnd x 0x0301

/-- ALLOWANCE_SET (R375, R382): whether it raised derating comes back. -/
def setAllowance (s : State) (policy cap budget : Nat) : State × Bool :=
  let s := ((s.wr F.HVS_ALLOW.POLICY [] policy).wr F.HVS_CAP.MW [] cap).wr F.HVS_BUDGET.MJ [] budget
  let s := s.setCommitted.setShares
  let level := s.rd F.HVS_STATUS.LEVEL []
  let r := derateToFit 11 (s.rd F.HVS_LEDGER.VALUE [0] + s.rd F.HVS_LEDGER.VALUE [1]) s
  let raised := r.1.rd F.HVS_STATUS.LEVEL [] != level
  let s := r.1
  let s := s.on (decide (cap < r.2) || decide (budget < r.2)) fun s => s.setOver (decide (cap < r.2)) (decide (budget < r.2))
  let s := s.on (policy != 2) fun s => s.refuseDeferred
  (s.tryDeferred.raisePkg 11 (policy + 4 * b2n raised), raised)

-- The thermal limit (R384) -----------------------------------------------------------------------------------------

/-- The hottest sensor reaches 110 °C: `temp` in 0.0625 °C. -/
def thermalEnter (s : State) (temp : Nat) : State :=
  if temp < 1760 ∨ s.isSet F.PWR_STATUS.THERMAL [0] ∨ s.mode = .hold then s
  else
    let s := s.each [0, 1] fun s d =>
      ((s.wr F.PWR_STATUS.THERMAL [d] 1).flag F.PWR_STATUS.THERMAL_SEEN [d]).raise d 10 (1 + 2 ^ 16 * temp)
    s.each (List.range (11 - s.rd F.HVS_STATUS.LEVEL [])) fun s _ => s.derateUp s.control

/-- The sensor has been below 100 °C for 1 s. -/
def thermalClear (s : State) (temp : Nat) : State :=
  if 1600 ≤ temp ∨ !s.isSet F.PWR_STATUS.THERMAL [0] then s
  else s.each [0, 1] fun s d => (s.wr F.PWR_STATUS.THERMAL [d] 0).raise d 10 (2 ^ 16 * temp)

-- Failover (R403) --------------------------------------------------------------------------------------------------

/-- The display timing generator restarts: its first frame is black (R241, R403). -/
def restartScan (s : State) : State :=
  (s.each [0, 1] fun s d => (s.wr F.SCN_STATUS.RUNNING [d] 0).setLink d 0 false).syncScan

/-- Die 1 takes the control role once die 0 is retired (R21, R403). -/
def failover (s : State) : State :=
  if s.control ≠ 0 ∨ !s.dieRetired 0 then s
  else
    let s := { s with control := 1 }
    let s := (s.wr F.TOP_ID.CONTROL [0] 0).wr F.TOP_ID.CONTROL [1] 1
    let s := (s.wr F.BOB_RETIRED.CONTROL [0] 0).wr F.BOB_RETIRED.CONTROL [1] 1
    let s := s.raisePkg 228 1
    let s := s.withdrawWith 0x020A fun x => x.die == 0
    (s.refWinter).restartScan

end State

end Sys2Proof.Machine
end

