-- ==== Sys2Proof/Machine/BootOps.lean ====
section
/-!
DEFINITION. Resets and boot (R445 to R460), and the TAPs (R473).
-/

namespace Sys2Proof.Machine

-- What resets leave (R9, R446, R447) -----------------------------------------------------------------------------

/-- The field of a register entry is RWS: it keeps its value across a warm reset (R9, R447). -/
def keptWarm (k : RegKey) : Bool := k.reg.fields.any fun f => f.fld.lo == k.lo && f.acc == Access.RWS

/-- What a warm reset keeps beside RWS fields: the oven's state and the oven-on time (R447). -/
def keptOven (k : RegKey) : Bool :=
  (k.reg == .XTO_STATUS && (k.lo == F.XTO_STATUS.OVEN_READY.lo || k.lo == F.XTO_STATUS.WARM.lo))
    || k.reg == .i_ovenOn || k.reg == .i_ovenSaved || k.reg == .i_ovenFirst

/-- What no reset of the package changes: the TAPs (R473). -/
def keptAlways (k : RegKey) : Bool := k.reg == .i_tapIr

/-- Reset causes (BOOT_RESET_CAUSE). -/
abbrev causePowerOn : Nat := 0
abbrev causeResetN : Nat := 1
abbrev causeBrownOut : Nat := 2
abbrev causeBootCtrl : Nat := 3
abbrev causeThermal : Nat := 4
abbrev causeWatchdog : Nat := 5

namespace State

/-- A reset of the package is held, or boots (R449). -/
def booting (s : State) : Bool := s.rd I.bootStep [] < 9

/-- A cold or warm reset (R35, R446, R447, R449): the package goes to HOLD, every block at its reset value but for what survives. A
warm reset while a cold one is held or boots stays cold. DESIGN CHOICE (log entry 148): counts described as "since cold reset" whose fields are
not RWS are cleared by a warm reset too (R9, R458). -/
def packageReset (s : State) (cold : Bool) (cause : Nat) : State :=
  let seen := if s.booting then s.rd F.BOOT_RESET_CAUSE.CAUSE [] else 0
  let asCold := cold || (s.booting && s.isSet F.BOOT_RESET_CAUSE.COLD [])
  let keep (k : RegKey) : Bool := keptAlways k || (!cold && (keptWarm k || keptOven k))
  let n := { State.reset with
    now := s.now, out := s.out, pending := s.pending, freeCtr := s.freeCtr, flash := s.flash, regs := s.regs.filter fun e => keep e.1 }
  let n := (n.wr F.BOOT_RESET_CAUSE.CAUSE [] (setBit seen cause)).wrBool F.BOOT_RESET_CAUSE.COLD [] asCold
  n.wrBool I.thermHold [] (cause == causeThermal || (!cold && s.isSet I.thermHold []))

/-- The thermal reset (R384): a sensor at 125 °C or above; `temp` in 0.0625 °C. -/
def thermalReset (s : State) (temp : Nat) : State := s.on (2000 ≤ temp) fun s => s.packageReset false causeThermal

/-- Every sensor reads below 95 °C (R384). -/
def thermalRelease (s : State) (hottest : Nat) : State := s.on (hottest < 1520) fun s => s.wr I.thermHold [] 0

/-- A host write of BOOT_CTRL (R446). -/
def writeBootCtrl (v : Nat) (s : State) : State := s.on (slice v 0 16 == 0x6A5C && bitAt v 16) fun s => s.packageReset false causeBootCtrl

/-- The firmware watchdog fires: only while firmware runs (R446). -/
def watchdog (s : State) : State := s.on (s.mode != .hold || (6 ≤ s.rd I.bootStep [] && s.booting)) fun s => s.packageReset false causeWatchdog

-- Boot (R450 to R457) ------------------------------------------------------------------------------------------------

/-- Reset is released: boot starts (R451, R452, R456), with the density of the flash in Mbit, 0 where it does not answer, whether SFDP
offers opcode 0x6C, the SFDP revision, and what the board has programmed into the flash since the device last wrote it. -/
def resetRelease (s : State) (mbit : Nat) (fast : Bool) (rev : Nat) (programmed : List (Nat × List Byte)) : State :=
  if s.mode ≠ .hold ∨ s.rd I.bootStep [] ≠ 0 ∨ s.isSet I.thermHold [] then s
  else
    let s := ((s.wr I.bootStep [] 1).wr I.bootAt [] s.now).wr I.flashMbit [] mbit
    let s := (s.wr I.sfdpRev [] rev).wrBool F.BOOT_STATUS.SFDP_OK [] fast
    s.each programmed fun s x => s.flashStore x.1 x.2

/-- No image is left to try: the package stays in HOLD (R454). -/
def bootStops (s : State) : State := s.wr I.bootStep [] 10

/-- The directory is read; a flash of another density leaves both images invalid (R451, R452). -/
def bootDirectory (s : State) : State :=
  let next := match s.dirInForce with
    | some k => s.dirNext k
    | none => 0
  let s := (s.wr F.BOOT_STATUS.NEXT [] next).wrBool F.BOOT_STATUS.DIR_DEFAULT [] s.dirInForce.isNone
  if s.rd I.flashMbit [] ≠ 512 then ((s.wr F.BOOT_STATUS.A_STATE [] 2).wr F.BOOT_STATUS.B_STATE [] 2).bootStops
  else (s.wr I.bootImg [] next).wr I.bootStep [] 2

/-- A die that its self-check retires: it takes no part in the boot (R402, R455). -/
def bootRetire (s : State) (d : Nat) : State :=
  let s := ((s.wr I.bootSelf [d] 2).wr F.BOB_RETIRED.OTHER_DIE [otherDie d] 1).wr F.SVC_ATB.POINT [d] 0xFF
  s.on (d == 0) fun s =>
    let s := ({ s with control := 1 }.wr F.BOOT_STATUS.BOOT_DIE [] 1).wr I.bootFault [] 1
    s.wr F.EVC_PEND.PEND [1, 228 / 32] (setBit (s.rd F.EVC_PEND.PEND [1, 228 / 32]) (228 % 32))

/-- A self-check report (R455): the booting die goes on to the directory. -/
def selfCheck (s : State) (d : Nat) (pass : Bool) : State :=
  if 2 ≤ d ∨ s.rd I.bootStep [] = 0 ∨ 9 ≤ s.rd I.bootStep [] ∨ s.isSet I.bootSelf [d] ∨ s.dieRetired d then s
  else
    let s := if pass then s.wr I.bootSelf [d] 1 else s.bootRetire d
    if s.rd I.bootStep [] ≠ 1 then s
    else if s.rd I.bootSelf [0] = 1 then s.bootDirectory
    else if s.rd I.bootSelf [0] = 2 ∧ s.rd I.bootSelf [1] = 1 then s.bootDirectory
    else if s.rd I.bootSelf [0] = 2 ∧ s.rd I.bootSelf [1] = 2 then s.bootStops
    else s

/-- No report from die 0 within 10 ms (R455). -/
def selfCheckTimeout (s : State) : State :=
  if s.rd I.bootStep [] ≠ 1 ∨ s.isSet I.bootSelf [0] ∨ !s.elapsed (s.rd I.bootAt []) 12500000 then s
  else
    let s := s.bootRetire 0
    if s.rd I.bootSelf [1] = 1 then s.bootDirectory else if s.rd I.bootSelf [1] = 2 then s.bootStops else s

/-- The state of image k shows (BOOT_STATUS). -/
def setImageState (s : State) (k st : Nat) : State := s.wr (if k = 0 then F.BOOT_STATUS.A_STATE else F.BOOT_STATUS.B_STATE) [] st

/-- The image tried is not to be run: the other is tried, or none is left (R454, R456). -/
def imageFails (s : State) (blank : Bool) : State :=
  let k := s.rd I.bootImg []
  let s := s.setImageState k (if blank then 0 else 2)
  if s.rd I.bootStep [] < 4 then (s.wr I.bootImg [] (1 - k)).wr I.bootStep [] 4 else s.bootStops

/-- An image is loaded (R453, R454): its header is what the flash holds; `digest` tells whether the digest of its body matches. -/
def imageLoaded (s : State) (digest : Bool) : State :=
  if s.rd I.bootStep [] ≠ 2 ∧ s.rd I.bootStep [] ≠ 4 then s
  else
    let k := s.rd I.bootImg []
    let header := s.imageHeader k
    if headerBlank header || !headerOk header || !digest then s.imageFails (headerBlank header)
    else
      let s := (s.wr I.imgVersion [k] (headerField header 16 4)).wr I.imgBuild [k] (headerField header 20 4)
      s.wr I.bootStep [] (s.rd I.bootStep [] + 1)

/-- The signature of the image is checked (R454). -/
def signatureChecked (s : State) (ok : Bool) : State :=
  if s.rd I.bootStep [] ≠ 3 ∧ s.rd I.bootStep [] ≠ 5 then s
  else if !ok then s.imageFails false
  else
    let k := s.rd I.bootImg []
    let s := ((s.setImageState k 1).wr F.BOOT_IMG_VER.VERSION [k] (s.rd I.imgVersion [k])).wr F.BOOT_STATUS.IMAGE [] k
    (s.wrBool F.BOOT_STATUS.FALLBACK [] (k != s.rd F.BOOT_STATUS.NEXT [])).wr I.bootStep [] 6

-- The calibration store at boot (R118 to R120) -------------------------------------------------------------------------

/-- The store is selected and loaded (R118 to R120). A warm reset's oven-on time runs on (R447), but for the OTP baseline (R119). -/
def storeLoad (s : State) : State :=
  let src := s.storeSource
  let a := s.slotState 0
  let b := s.slotState 1
  let oven := s.rd I.ovenOn []
  let warm := !s.isSet F.BOOT_RESET_CAUSE.COLD [] && src != 2
  let s := if src = 2 then s.loadFactory.wr F.CRD_STORE_GEN.GEN [] 0 else (s.loadImage src).wr F.CRD_STORE_GEN.GEN [] (s.slotGen src)
  let s := if warm then s.wr I.ovenOn [] oven else s.wr I.ovenSaved [] (s.rd I.ovenOn [])
  let s := s.each [0, 1] fun s d => (s.each [0, 1] fun s c => s.showTrims d c).syncSpares d
  let s := ((s.wr I.storeSlot [] src).wr F.CRD_STORE_STATUS.SOURCE [] src).wr F.XTO_PULL.PULL [] s.pullCode
  let s := (s.wr F.CRD_STORE_STATUS.A_STATE [] a).wr F.CRD_STORE_STATUS.B_STATE [] b
  let torn := b2n (a == 2) + 2 * b2n (b == 2)
  let s := s.on (torn != 0) fun s => (s.flag F.CRD_STORE_STATUS.TORN []).raisePkg 53 torn
  s.raisePkg 54 src

/-- A comparator that the store records as replaced: the first spare that is IDLE takes its place (R406, R455). -/
def cmpRecord (s : State) (d k : Nat) : State :=
  match s.cmpIdle d with
  | some n => (s.setCmpSpare d n 2 k).syncSpares d
  | none => s

/-- What the store records of a unit takes effect (R455): retirements, and the substitutions that no other stored map shows. The records
do not say which comparator spare replaced a unit (R406): the first that is IDLE takes its place. -/
def applyRecord (s : State) (r : BobRec) : State :=
  let d := unitDie r.unit
  let h := unitSide r.unit
  let k := unitIndex r.unit
  match unitKind r.unit, r.state with
  | _, 4 => s.withdrawUnit r.unit
  | 2, 2 =>
    let s := s.each (List.range 31) fun s l => s.on (s.rd F.MEM_PC_MAP.PHYS [d, h, l] == k) fun s => s.wr F.MEM_PC_MAP.PHYS [d, h, l] 31
    (((s.wr F.MEM_PC_STAT.STATE [d, h, 31] 0).wr F.MEM_PC_STAT.STATE [d, h, k] 3).wr F.MEM_STATUS.SPARE_FREE [d, h] 0).syncSpares d
  | 2, 5 => ((s.wr F.MEM_PC_STAT.STATE [d, h, k] 3).wr F.MEM_STATUS.SPARE_FREE [d, h] 0).syncSpares d
  | 3, 2 =>
    let x := otherDie h
    let s := match s.spareLane x with
      | some p => s.wr F.BOB_SPL_MARGIN.STATE [x, p] 0
      | none => s
    ((s.wr F.BOB_SPL_MARGIN.STATE [x, k] 2).syncLanes x).laneCheckDie x
  | 3, 5 => ((s.wr F.BOB_SPL_MARGIN.STATE [otherDie h, k] 3).syncLanes (otherDie h)).laneCheckDie (otherDie h)
  | 4, 2 => s.cmpRecord d k
  | 4, 5 => (s.setCmpSpare d (k - 12) 3 0).syncSpares d
  | 5, 2 => ((s.wr F.BOB_SRAM.STATE [d, unitLane r.unit] 2).wr F.BOB_SRAM.BANK [d, unitLane r.unit] k).syncSpares d
  | 5, 5 => (s.wr F.BOB_SRAM.STATE [d, unitLane r.unit] 3).syncSpares d
  | _, _ => s

/-- Firmware starts on both dies (R455, R456): the store is loaded, its records take effect, and the control role passes on where the
store retires die 0. -/
def firmwareStart (s : State) : State :=
  if s.rd I.bootStep [] ≠ 6 then s
  else
    let s := s.storeLoad
    let s := s.on (s.isSet I.bootFault []) fun s => s.bobState (unitCode 8 0 0 0 0) 4
    let s := s.on (s.rd I.bootSelf [1] == 2) fun s => s.bobState (unitCode 8 1 0 0 0) 4
    let s := s.each (s.bobbin.filter (·.state == 5) ++ s.bobbin.filter (·.state != 5)) fun s r => s.applyRecord r
    let s := s.on (s.dieRetired 0 && s.control == 0) fun s => { s with control := 1 }.raisePkg 228 1
    s.wr I.bootStep [] 7

-- HBM training (R457) ----------------------------------------------------------------------------------------------------

/-- A pseudo-channel fails training (R457): P31, where it is SPARE, takes its place with no copy; else the rules of R400 apply. -/
def pcFails (s : State) (d h p : Nat) : State :=
  let s := s.raisePkg 254 (d + 2 * h + 4 * p)
  let u := unitCode 2 d h 0 p
  if s.rd F.MEM_PC_STAT.STATE [d, h, p] = 3 then s
  else if p = 31 ∧ s.rd F.MEM_PC_STAT.STATE [d, h, 31] = 1 then
    (((s.wr F.MEM_PC_STAT.STATE [d, h, 31] 3).wr F.MEM_STATUS.SPARE_FREE [d, h] 0).bobState u 5).syncSpares d
  else if s.rd F.MEM_PC_STAT.STATE [d, h, 31] = 1 then (s.bobState u 2).applyRecord ⟨u, 2, 0, 0, 0⟩
  else (s.withdrawPc d h p).bobState u 4

/-- A stack fails training as a whole (R457). -/
def stackFails (s : State) (d h : Nat) : State :=
  ((s.withdrawStack d h).bobState (unitCode 7 d h 0 0) 4).raisePkg 254 (d + 2 * h + 2 ^ 7)

/-- HBM training ends (R457): stacks and pseudo-channels that failed. -/
def hbmTrained (s : State) (lost : List (Nat × Nat)) (pcs : List (Nat × Nat × Nat)) : State :=
  if s.rd I.bootStep [] ≠ 7 then s
  else
    let s := s.each [(0, 0), (0, 1), (1, 0), (1, 1)] fun s x =>
      s.on (!s.dieRetired x.1) fun s =>
        if lost.contains x then s.stackFails x.1 x.2
        else
          let s := s.wr F.MEM_STATUS.TRAINED [x.1, x.2] 1
          s.each ((pcs.filter fun p => p.1 == x.1 && p.2.1 == x.2 && decide (p.2.2 < 32)).map (·.2.2)) fun s p => s.pcFails x.1 x.2 p
    s.wr I.bootStep [] 8

-- The TAPs (R473) ---------------------------------------------------------------------------------------------------------

/-- TRST_N resets both TAPs, whatever the mode: IDCODE, as IEEE 1149.1 gives it. -/
def tapReset (s : State) : State := (s.wr I.tapIr [0] 1).wr I.tapIr [1] 1

/-- The code of a TAP instruction. -/
def tapCode : TapInstr → Nat
  | .bypass => 0 | .idcode => 1 | .sample => 2 | .extest => 3 | .other => 4

/-- An instruction is loaded: outside HOLD any but BYPASS, IDCODE and SAMPLE acts as BYPASS. -/
def tapLoad (s : State) (d : Nat) (i : TapInstr) : State :=
  s.on (d < 2) fun s => s.wr I.tapIr [d] (if s.mode = .hold ∨ tapCode i < 3 then tapCode i else 0)

/-- Leaving HOLD turns EXTEST into BYPASS. -/
def tapLeaveHold (s : State) : State := s.each [0, 1] fun s d => s.on (s.rd I.tapIr [d] == 3) fun s => s.wr I.tapIr [d] 0

-- READY (R456, R458) -----------------------------------------------------------------------------------------------------

/-- Firmware sets the thresholds of the window monitors at boot (R289). -/
def bootThresholds (s : State) (d : Nat) : State :=
  let s := s.each [(6, 788), (7, 712), (8, 945), (9, 855), (10, 2704), (11, 1024)] fun s x => s.wr F.CMP_THRESH.THRESH [d, x.1] x.2
  s.each [0, 1] fun s c => s.ovldThresholds d c

/-- The timing curves of a channel take their factory values (R162). -/
def factoryCurves (s : State) (d c : Nat) : State :=
  s.each [0, 1] fun s e => s.each (List.range 1024) fun s i => s.wr F.TRG_CURVE.FRAC [d, c, e, i] (Config.factoryCurve d c e i)

/-- The blocks of a die that works start (R458). -/
def startDie (s : State) (d : Nat) : State :=
  let gone (c : Nat) : Bool := s.isSet (if c = 0 then F.BOB_RETIRED.C0 else F.BOB_RETIRED.C1) [d]
  let s := s.each [0, 1] fun s c => s.wrBool F.CNV_STATUS.AVAILABLE [d, c] (!gone c)
  let s := s.each [0, 1] fun s c => s.factoryCurves d c
  ((((s.bootThresholds d).cmpWakeUp d).lgcStart d).synLock d).wr F.AUX_STATUS.LOCKED [d] 1

/-- READY is entered from boot (R35, R55, R456, R458). -/
def bootReady (s : State) : State :=
  if s.rd I.bootStep [] ≠ 8 then s
  else
    let ms := (s.now - s.rd I.bootAt []) / 160000000
    let s := ({ s with mode := .ready, dt := 0, dtPrev := 0 }.wr I.bootStep [] 9).wr F.BOOT_TIME.MS [] ms
    let s := (s.showMode .ready).tapLeaveHold
    let s := s.each [0, 1] fun s d =>
      let s := (s.wrBool F.TOP_ID.CONTROL [d] (d == s.control)).wrBool F.BOB_RETIRED.CONTROL [d] (d == s.control)
      s.on (!s.dieRetired d) fun s => s.startDie d
    let s := (s.wr F.SKN_STATUS.ROLE_ACT [] (s.rd F.SKN_CTRL.ROLE [])).syncAligned
    let s := s.syncDomains.syncCard.syncScan.syncPorts.setShares
    let s := s.on (s.isSet I.bootFault []) fun s => s.storeAsk
    let s := (s.raisePkg 8 3).raisePkg 9 0
    s.raisePkg 252 (s.rd F.BOOT_STATUS.IMAGE [] + 2 * s.rd F.BOOT_STATUS.FALLBACK [] + 4 * s.rd F.BOOT_RESET_CAUSE.COLD []
      + 16 * s.rd F.BOOT_RESET_CAUSE.CAUSE [])

-- Endpoint resets (R448, R449) -------------------------------------------------------------------------------------------

/-- Entries of a register of a die return to their reset values. -/
def dropDieRegs (s : State) (d : Nat) (rs : List Reg) : State :=
  { s with regs := s.regs.filter fun e => !(rs.contains e.1.reg && e.1.ix.head? == some d) }

/-- Queues of a die that are not DISABLED. -/
def liveQueues (s : State) (d : Nat) : List Nat :=
  s.regs.filterMap fun e => match e.1.ix with
    | [x, q] => if e.1.reg = .QUE_STATUS ∧ e.1.lo = F.QUE_STATUS.STATE.lo ∧ x = d then some q else none
    | _ => none

/-- An endpoint reset of die d (R448); during a cold or warm reset it has no further effect (R449). -/
def endpointReset (s : State) (d : Nat) (cause : Fld) (linkStays : Bool) : State :=
  if s.mode = .hold ∨ s.dieRetired d ∨ 2 ≤ d then s
  else
    let s := s.each (s.liveQueues d) fun s q => s.queDrop d q
    let s := s.dropDieRegs d [.MSIX, .MSIX_PBA, .EVC_MASK, .EVC_PEND, .i_msixFuncMask, .i_levelHeld]
    let routes := s.regs.filter fun e => !(e.1.reg == .EVC_ROUTE && e.1.ix.head? == some d
      && (e.1.lo == F.EVC_ROUTE.QUEUE.lo || e.1.lo == F.EVC_ROUTE.EN.lo))
    let s := { s with regs := routes }
    let s := s.each [0, 1, 2] fun s a => s.on (s.armed d a) fun s => s.requestStop d a (4096 * s.nextBlk d)
    let s := { s with
      taken := s.taken.map fun (t : Taken) => if t.die = d then { t with dropped := true } else t
      outstanding := s.outstanding.filter fun o => o.die != d
      deferred := s.deferred.map fun (x : Deferred) => if (x.cmd.map fun (p : MbxHdr × Nat) => p.1.die) = some d then { x with cmd := none } else x }
    let s := (s.syncMbx d).wr F.MBX_URG_STATUS.BUSY [d] 0
    let s := s.wrBool I.fwJob [] (s.outstanding.any fun o => o.opcode == 0x0E01 || o.opcode == 0x0E02)
    let s := { s with deliveries := s.deliveries.filter fun x => x.cmdDie != d }
    let s := s.endDeliveries (fun x => x.die == d) 0x0203
    let s := s.on (!linkStays) fun s => s.wr I.linkL0 [d] 0
    let s := s.flag cause [d]
    s.raise d 253 (s.rd F.BOOT_EP_CAUSE.PERST [d] + 2 * s.rd F.BOOT_EP_CAUSE.HOT_RESET [d] + 4 * s.rd F.BOOT_EP_CAUSE.FLR [d])

end State

end Sys2Proof.Machine
end

