-- ==== Sys2Proof/Machine/Boot.lean ====
section
/-!
DEFINITION. The meanings of the commands of reset, boot and the test port (R35, R384, R445 to R458, R473).
-/

namespace Sys2Proof.Machine

/-- COLD_RESET (R446, R447): VDD_AON powers on, or RESET_N is driven low. -/
def execColdReset (resetN : Bool) (s : State) : Host.Outcome State Fault Refusal :=
  .next (s.packageReset true (if resetN then causeResetN else causePowerOn))

/-- BROWN_OUT_DETECT (R446). -/
def execBrownOutDetect (s : State) : Host.Outcome State Fault Refusal := .next (s.packageReset true causeBrownOut)

/-- BOOT_CTRL_WARM_RESET: a write of BOOT_CTRL through die `d` (R446). -/
def execBootCtrlWarmReset (d v : Nat) (s : State) : Host.Outcome State Fault Refusal := .next (s.packageWrite d (State.writeBootCtrl v))

/-- WATCHDOG_EXPIRY (R446). -/
def execWatchdogExpiry (s : State) : Host.Outcome State Fault Refusal := .next s.watchdog

/-- THERMAL_RESET (R384): the sensor, 0.0625 °C. -/
def execThermalReset (temp : Nat) (s : State) : Host.Outcome State Fault Refusal := .next (s.thermalReset temp)

/-- THERMAL_RESET_RELEASE (R384): the hottest sensor, 0.0625 °C. -/
def execThermalResetRelease (hottest : Nat) (s : State) : Host.Outcome State Fault Refusal := .next (s.thermalRelease hottest)

/-- RESET_RELEASE (R449 to R452, R456): density and SFDP revision of the flash, and what the board has programmed into it: offset and bytes. -/
def execResetRelease (mbit : Nat) (fast : Bool) (rev : Nat) (programmed : List (Nat × List Byte)) (s : State) :
    Host.Outcome State Fault Refusal := .next (s.resetRelease mbit fast rev programmed)

/-- SELF_CHECK_REPORT (R455, R456). -/
def execSelfCheckReport (d : Nat) (pass : Bool) (s : State) : Host.Outcome State Fault Refusal := .next (s.selfCheck d pass)

/-- SELF_CHECK_TIMEOUT (R455). -/
def execSelfCheckTimeout (s : State) : Host.Outcome State Fault Refusal := .next s.selfCheckTimeout

/-- IMAGE_LOAD_DONE (R453, R454): image `k`, and whether the digest of its body matches the header. It acts for the image being tried. -/
def execImageLoadDone (k : Nat) (digest : Bool) (s : State) : Host.Outcome State Fault Refusal :=
  .next (s.on (s.rd I.bootImg [] == k) fun s => s.imageLoaded digest)

/-- SIGNATURE_CHECK_DONE (R454). -/
def execSignatureCheckDone (ok : Bool) (s : State) : Host.Outcome State Fault Refusal := .next (s.signatureChecked ok)

/-- FIRMWARE_START (R118 to R120, R455). -/
def execFirmwareStart (s : State) : Host.Outcome State Fault Refusal := .next s.firmwareStart

/-- HBM_TRAINING_DONE (R457): stacks and pseudo-channels that fail. -/
def execHbmTrainingDone (lost : List (Nat × Nat)) (pcs : List (Nat × Nat × Nat)) (s : State) : Host.Outcome State Fault Refusal :=
  .next (s.hbmTrained lost pcs)

/-- BOOT_READY (R35, R456, R458). -/
def execBootReady (s : State) : Host.Outcome State Fault Refusal := .next s.bootReady

/-- ENDPOINT_RESET (R448): Hot Reset, or PERST or link-down. -/
def execEndpointReset (d : Nat) (hot : Bool) (s : State) : Host.Outcome State Fault Refusal :=
  .next (s.endpointReset d (if hot then F.BOOT_EP_CAUSE.HOT_RESET else F.BOOT_EP_CAUSE.PERST) false)

/-- FUNCTION_LEVEL_RESET (R448). -/
def execFunctionLevelReset (d : Nat) (s : State) : Host.Outcome State Fault Refusal :=
  .next (s.endpointReset d F.BOOT_EP_CAUSE.FLR true)

/-- TAP_RESET (R473). -/
def execTapReset (s : State) : Host.Outcome State Fault Refusal := .next s.tapReset

/-- TAP_INSTRUCTION_LOAD (R473). -/
def execTapInstructionLoad (d : Nat) (i : TapInstr) (s : State) : Host.Outcome State Fault Refusal := .next (s.tapLoad d i)

end Sys2Proof.Machine
end

