-- ==== Sys2Proof/Machine/Carding.lean ====
section
/-!
DEFINITION. The meanings of the commands of Carding, Combing and the calibration store (R94 to R120).
-/

namespace Sys2Proof.Machine

namespace State

/-- Cycle 64 of the schedule between intervals (R103, R104): granted its trims the update runs, and holds them until cycle 128; else the
interval is discarded. -/
def cardClaimed (s : State) (d c slope : Nat) : State :=
  let suff := s.rd I.cardSuff [d, c]
  if s.cardState d c ≠ 1 ∨ suff = 0 ∨ suff = 3 ∨ !s.cardCycle d c 64 then s
  else if s.claimGoes (s.cardClaim d c) then
    let s := (s.claim (s.cardClaim d c)).on (suff == 1) fun s => (s.cardUpdate d c slope).rtTrain d c
    s.wr I.cardSuff [d, c] 3
  else ((s.discardInterval d c).wr F.CRD_STATUS.STATE [d, c] 2).claim (s.cardClaim d c)

/-- The channel is starved (R102). -/
def cardStarves (s : State) (d c : Nat) : State :=
  let st := s.cardState d c
  s.on ((st == 1 || st == 2) && !s.isSet F.CRD_STATUS.STARVED [d, c] && s.dueOn d (s.rd I.starveAt [d, c])) fun s =>
    (s.wr F.CRD_STATUS.STARVED [d, c] 1).raise d 49 (c + 2 ^ 8)

/-- A write of CRD_COMB_CMD (R108, R112). -/
def writeCombCmd (d c v : Nat) (s : State) : State :=
  let s := (s.wr F.CRD_COMB_CMD.ALLOW_ARMED [d, c] (slice v 2 1)).wr F.CRD_COMB_CMD.STORE [d, c] (slice v 3 1)
  let s := s.on (bitAt v 0) fun s => (s.requestComb d c false (bitAt v 2) (bitAt v 3) none).1
  s.on (bitAt v 1) fun s => s.combAbort d c 0x0211

/-- The span of the phase under way, or of the level of DC, has passed (R109). -/
def combPhaseEnd (s : State) (d c : Nat) (codes : List SliceCodes) : State :=
  s.on (2 ≤ s.combState d c && !s.isSet I.combEnding [d, c] && s.elapsed (s.rd I.combAt [d, c]) (s.combNext d c)) fun s => s.combPhase d c codes

/-- The last calibration block has passed (R109, R112). -/
def combLast (s : State) (d c : Nat) : State :=
  s.on (s.isSet I.combEnding [d, c] && s.elapsed (s.rd I.combOpen [d, c]) 32) fun s => s.combDone d c (s.rd I.combCode [d, c])

end State

/-- CARD_INTERVAL_CLOSE (R94 to R98, R103): the codes of the interval's blocks. -/
def execCardIntervalClose (d c : Nat) (blocks : List CodeBlock) (s : State) : Host.Outcome State Fault Refusal :=
  .next (s.closeInterval d c blocks)

/-- CARD_UPDATE_CLAIM (R99 to R104), with the channel's mean slope statistic over the interval (R98). -/
def execCardUpdateClaim (d c slope : Nat) (s : State) : Host.Outcome State Fault Refusal := .next (s.cardClaimed d c slope)

/-- CARD_STARVED (R102). -/
def execCardStarved (d c : Nat) (s : State) : Host.Outcome State Fault Refusal := .next (s.cardStarves d c)

/-- CRD_COMB_START: a write of CRD_COMB_CMD (R108). -/
def execCrdCombStart (d c v : Nat) (s : State) : Host.Outcome State Fault Refusal := .next (s.hostWrite d (State.writeCombCmd d c v))

/-- CRD_COMB_ABORT: a write of CRD_COMB_CMD (R112). -/
def execCrdCombAbort (d c v : Nat) (s : State) : Host.Outcome State Fault Refusal := .next (s.hostWrite d (State.writeCombCmd d c v))

/-- COMB_PHASE_END (R109 to R112): the codes that the slices gave in the phase, or at the level of DC. -/
def execCombPhaseEnd (d c : Nat) (codes : List SliceCodes) (s : State) : Host.Outcome State Fault Refusal := .next (s.combPhaseEnd d c codes)

/-- COMB_DONE (R112, R113). -/
def execCombDone (d c : Nat) (s : State) : Host.Outcome State Fault Refusal := .next (s.combLast d c)

/-- CRD_STORE_WRITE: a write of CRD_STORE_CTRL through die `d` (R117). -/
def execCrdStoreWrite (d v : Nat) (s : State) : Host.Outcome State Fault Refusal :=
  .next (s.packageWrite d fun s => s.on (bitAt v 0) fun s => (s.storeRequest false none).1)

/-- STORE_WRITE_START (R116, R117): a pending write starts. -/
def execStoreWriteStart (s : State) : Host.Outcome State Fault Refusal :=
  .next (s.on (s.isSet F.CRD_STORE_STATUS.PENDING [] && !s.storeHeld && !s.runs .storeWrite && !s.waits .storeWrite) fun s => s.storeGo)

/-- STORE_WRITE_COMPLETE (R116): `ok` if no page failed and the slot read back equal. -/
def execStoreWriteComplete (ok : Bool) (s : State) : Host.Outcome State Fault Refusal :=
  .next (s.on (s.isSet F.CRD_STORE_STATUS.BUSY []) fun s => s.storeEnd ok)

end Sys2Proof.Machine
end

