-- ==== Sys2Proof/Machine/Comparator.lean ====
section
/-!
DEFINITION. The meanings of the converter and comparator commands (R73 to R90, R288 to R302).
-/

namespace Sys2Proof.Machine

/-- ATTEN_WRITE: a write of CNV_CTRL (R76). -/
def execAttenWrite (d c v : Nat) (s : State) : Host.Outcome State Fault Refusal := .next (s.hostStatus d (State.writeCnvCtrl d c v))

/-- ATTEN_SETTLED (R76). -/
def execAttenSettled (d c : Nat) (s : State) : Host.Outcome State Fault Refusal :=
  .next (s.on (s.isSet F.CNV_STATUS.SETTLING [d, c] && s.elapsed (s.rd I.settleAt [d, c]) 2500) fun s =>
    (s.wr F.CNV_STATUS.SETTLING [d, c] 0).raise d 42 c)

/-- OVERLOAD_TRIP: the input that the high (0) or low (1) comparator of a channel's pair watches takes a value, at the converter's time (R81,
R82, R289). A register write of the same core cycle comes first (R301). -/
def execOverloadTrip (d c lo : Nat) (x : Instant × Int) (s : State) : Host.Outcome State Fault Refusal :=
  .next (s.atEnd true (.overloadTrip d c lo x) fun s => s.on (c < 2 && lo < 2) fun s => s.cmpSees d (2 + 2 * c + lo) x.1 x.2)

/-- OVERLOAD_EPISODE_END (R81, R82). -/
def execOverloadEpisodeEnd (d c : Nat) (s : State) : Host.Outcome State Fault Refusal := .next (s.on (s.ovldOver d c) fun s => s.ovldEnd d c)

/-- COMPARATOR_TRANSITION: the quantity that a unit watches takes a value, at the converter's time (R289 to R299). A register write and the
opening or the close of a window in the same core cycle come first (R298, R301). -/
def execComparatorTransition (d u : Nat) (at_ : Instant) (v : Int) (s : State) : Host.Outcome State Fault Refusal :=
  .next (s.atEnd true (.comparatorTransition d u at_ v) fun s => s.on (u < 12) fun s => s.cmpSees d u at_ v)

/-- CMP_SETTLING_END (R293). -/
def execCmpSettlingEnd (d u : Nat) (s : State) : Host.Outcome State Fault Refusal := .next (s.cmpSettled d u)

/-- BLANK_TIMER_PULSE at a tick (R297). -/
def execBlankTimerPulse (d k t : Nat) (s : State) : Host.Outcome State Fault Refusal := .next (s.blankPulse d k t)

/-- BLANK_WINDOW_CLOSE (R298). -/
def execBlankWindowClose (d u : Nat) (s : State) : Host.Outcome State Fault Refusal := .next (s.blankClose d u)

/-- CMP_CTRL_WRITE: register w of a unit: 0 CMP_CTRL, 1 CMP_THRESH, 2 CMP_BLANK (R301). -/
def execCmpCtrlWrite (d u w v : Nat) (s : State) : Host.Outcome State Fault Refusal :=
  .next (s.hostStatus d fun s => match w with
    | 0 => State.writeCmpCtrl d u v s
    | 1 => State.writeCmpThresh d u v s
    | 2 => State.writeCmpBlank d u v s
    | _ => (s, 0))

/-- CMP_SPARE_SWAP: the outputs of the shadowing spare and of its unit agree, or the spare fails (R300). -/
def execCmpSpareSwap (d u : Nat) (agrees : Bool) (s : State) : Host.Outcome State Fault Refusal := .next (s.cmpSwapDone d u agrees)

end Sys2Proof.Machine
end

