-- ==== Sys2Proof/Machine/Condition.lean ====
section
/-!
DEFINITION. The meanings of the conditioning commands (R122 to R148).
-/

namespace Sys2Proof.Machine

namespace State

/-- The write of one conditioning register (R144): 0 DEC_CTRL, 1 DEC_RATIO, 2 FIR_CTRL, 3 RSM_CTRL, 4 and 5 the words of RSM_RATIO. -/
def writeCond (d c r v : Nat) (s : State) : State × Nat :=
  match r with
  | 0 => writeDecCtrl d c v s
  | 1 => writeDecRatio d c v s
  | 2 => writeFirCtrl d c v s
  | 3 => writeRsmCtrl d c v s
  | 4 => writeRsmRatio d c (putWord (s.rd F.RSM_RATIO.RATIO [d, c]) 0 v) s
  | 5 => writeRsmRatio d c (putWord (s.rd F.RSM_RATIO.RATIO [d, c]) 1 v) s
  | _ => (s, 0)

end State

/-- EQ_CTRL_WRITE (R129). -/
def execEqCtrlWrite (d c v : Nat) (s : State) : Host.Outcome State Fault Refusal :=
  .next (s.hostWrite d fun s => s.nextBlockWrite (.eqCtrlWrite d c v) (State.writeEqCtrl d c v))

/-- EQ_COEF_WRITE (R130). -/
def execEqCoefWrite (d c b k v : Nat) (s : State) : Host.Outcome State Fault Refusal := .next (s.hostStatus d (State.writeEqCoef d c b k v))

/-- FIR_COEF_WRITE (R136). -/
def execFirCoefWrite (d c b k v : Nat) (s : State) : Host.Outcome State Fault Refusal := .next (s.hostStatus d (State.writeFirCoef d c b k v))

/-- FIR_CTRL_SWAP (R137, R144). -/
def execFirCtrlSwap (d c v : Nat) (s : State) : Host.Outcome State Fault Refusal :=
  .next (s.hostWrite d fun s => s.nextBlockWrite (.firCtrlSwap d c v) (State.writeFirCtrl d c v))

/-- FIR_FADE_START (R137, R138). -/
def execFirFadeStart (d c : Nat) (s : State) : Host.Outcome State Fault Refusal :=
  .next (s.on (s.firRunning d c && s.fadeDue d c) fun s => s.fadeFirst d c)

/-- FIR_FADE_END (R139): as the cycle ends, so that a request of the cycle is one that waits (R140). -/
def execFirFadeEnd (d c : Nat) (s : State) : Host.Outcome State Fault Refusal :=
  .next (s.on (s.fadeOver d c) fun s => s.atEnd true (.firFadeEnd d c) fun s => s.fadeEnds d c)

/-- COND_CONFIG_WRITE (R144). -/
def execCondConfigWrite (d c r v : Nat) (s : State) : Host.Outcome State Fault Refusal := 
  .next (s.hostWrite d fun s => s.nextBlockWrite (.condConfigWrite d c r v) (State.writeCond d c r v))

/-- COND_SETTLED (R146). -/
def execCondSettled (d c : Nat) (s : State) : Host.Outcome State Fault Refusal :=
  .next (s.on (s.mode.acquires && s.settleDue d c && !s.inert c) fun s => s.settled d c)

end Sys2Proof.Machine
end

