-- ==== Sys2Proof/Machine/Display.lean ====
section
/-!
DEFINITION. The meanings of the display commands (R240 to R261).
-/

namespace Sys2Proof.Machine

/-- VBLANK_START: a frame begins (R241); a flip, an apply or a setting of the same core cycle counts (R244, R246, R253). `words` are the
codewords of the overlay pools that the display path found with symbols in error since the frame before, each with its die (R255); none where
nothing is said. -/
def execVblankStart (s : State) (words : List (Nat × ReadWord) := []) : Host.Outcome State Fault Refusal :=
  .next (s.atEnd true (.vblankStart words) fun s =>
    (s.each words fun s w => s.deliverRead w.1 [w.2] fun s => s).vblankStart)

/-- SCN_TIM_APPLY: a write of SCN_TIM_CTRL (R244). -/
def execScnTimApply (d v : Nat) (s : State) : Host.Outcome State Fault Refusal :=
  .next (s.hostWrite d fun s => s.on (bitAt v 0) State.applyTiming)

/-- SCN_OVL_FLIP (R252). -/
def execScnOvlFlip (d l v : Nat) (s : State) : Host.Outcome State Fault Refusal := .next (s.hostWrite d (State.writeFlip d l v))

/-- LINE_UNDERRUN (R256). -/
def execLineUnderrun (d l : Nat) (s : State) : Host.Outcome State Fault Refusal := .next (s.underrun d l)

/-- LINK_TRAINING_DONE: trained at attempt k of R243's order, or not at all (R243). -/
def execLinkTrainingDone (d : Nat) (attempt : Option Nat) (s : State) : Host.Outcome State Fault Refusal := .next (s.linkTrained d attempt)

/-- HPD_CHANGE (R243). -/
def execHpdChange (d : Nat) (level : Bool) (s : State) : Host.Outcome State Fault Refusal := .next (s.hpdChange d level)

/-- HPD_IRQ: whether the link has lost lock (R243). -/
def execHpdIrq (d : Nat) (lost : Bool) (s : State) : Host.Outcome State Fault Refusal := .next (s.hpdIrq d lost)

end Sys2Proof.Machine
end

