-- ==== Sys2Proof/Machine/Endurance.lean ====
section
/-!
DEFINITION. The meanings of the commands of endurance: wear, rethreading, lanes, the arbiter, retirement (R387 to R407).
-/

namespace Sys2Proof.Machine

/-- UNIT_WORN (R389 to R391): unit code and cause. A retired unit stays retired (R401). -/
def execUnitWorn (u cause : Nat) (s : State) : Host.Outcome State Fault Refusal :=
  .next (s.on (!s.bobRetired u && s.wearHolds u cause) fun s => s.becomesWorn u cause)

/-- UNIT_LOST (R389 to R391, R400): unit code and cause. A retired unit stays retired (R401). -/
def execUnitLost (u cause : Nat) (s : State) : Host.Outcome State Fault Refusal :=
  .next (s.on (!s.bobRetired u) fun s => s.becomesLost u cause)

/-- MAINT_CLAIM_GRANT (R405): the first waiting claim that may be granted now. -/
def execMaintClaimGrant (s : State) : Host.Outcome State Fault Refusal := .next s.grantNext.testResume

/-- RETHREAD_SETUP (R394, R396): the 128 cycles of the setup step have passed. -/
def execRethreadSetup (d : Nat) (s : State) : Host.Outcome State Fault Refusal :=
  .next (s.on (s.runs (.rethreadSetup d (s.rd F.BOB_ACTIVE.UNIT [d])) && s.elapsed (s.rd I.bobAt [d]) 128) fun s => s.rtSetup d)

/-- RETHREAD_SWAP (R395): at the boundary of the block handled. -/
def execRethreadSwap (d : Nat) (s : State) : Host.Outcome State Fault Refusal := .next (s.rtSwap d)

/-- PC_COPY_DONE (R397). -/
def execPcCopyDone (d h : Nat) (s : State) : Host.Outcome State Fault Refusal := .next (s.pcCopied d h)

/-- REMAP_HOLD_START (R190, R397). -/
def execRemapHoldStart (d h : Nat) (s : State) : Host.Outcome State Fault Refusal := .next (s.remapHold d h)

/-- PC_REMAP (R397): the hold begins where it has not, and the mapping changes. -/
def execPcRemap (d h : Nat) (s : State) : Host.Outcome State Fault Refusal := .next ((s.remapHold d h).remapMap d h)

/-- REMAP_HOLD_END (R190, R397). -/
def execRemapHoldEnd (d h : Nat) (s : State) : Host.Outcome State Fault Refusal := .next (s.remapEnd d h)

/-- SPLICE_LANE_CHECK (R398): lane `l` of the direction that die `d` receives. -/
def execSpliceLaneCheck (d l : Nat) (s : State) : Host.Outcome State Fault Refusal := .next (s.laneCheck d l)

/-- SPLICE_LANE_LOSS (R26, R398). -/
def execSpliceLaneLoss (d l : Nat) (s : State) : Host.Outcome State Fault Refusal := .next (s.laneLoss d l)

/-- SPLICE_LANE_RETRAIN_DONE (R26, R160, R398): the margin in percent; 0 where the training failed. -/
def execSpliceLaneRetrainDone (d l margin : Nat) (s : State) : Host.Outcome State Fault Refusal := .next (s.laneDone d l margin)

/-- COMPARATOR_DAILY_CHECK (R389): the difference of the thresholds in steps; whether both switched. -/
def execComparatorDailyCheck (d u steps : Nat) (switches : Bool) (s : State) : Host.Outcome State Fault Refusal :=
  .next (s.cmpDaily d u steps switches)

/-- SRAM_COPY_DONE (R399). -/
def execSramCopyDone (d : Nat) (s : State) : Host.Outcome State Fault Refusal := .next (s.sramDone d)

/-- SCRUB_GRANT (R187 to R189): the first codeword read and how many, and those with symbols in error. It acts where the pass goes on. -/
def execScrubGrant (d h first n : Nat) (words : List ReadWord) (s : State) : Host.Outcome State Fault Refusal :=
  .next (s.on (s.rd I.scrubPos [d, h] == 64 * first) fun s => s.scrubGrant d h n words)

/-- RETIREMENT (R400 to R402): unit code of a retirement, from the block boundary after the loss on. -/
def execRetirement (u : Nat) (s : State) : Host.Outcome State Fault Refusal :=
  .next (s.on (s.retiring.contains u && decide (s.rd I.retireAt [u] < s.now)) fun s => s.retire u)

end Sys2Proof.Machine
end

