-- ==== Sys2Proof/Machine/Logic.lean ====
section
/-!
DEFINITION. The meanings of the logic and time-interval commands (R262 to R287).
-/

namespace Sys2Proof.Machine

/-- LOGIC_INPUT_CHANGE: a logic sample at tick t (R262 to R271). -/
def execLogicInputChange (d t : Nat) (balls : List (Int × Int)) (refs : Int × Int) (edges : List LogicEdge) (s : State) :
    Host.Outcome State Fault Refusal :=
  .next (s.logicSample d t (LogicPins.of balls refs) edges)

/-- LOGIC_HOLDOFF_END: the logic sample at which a channel's hold-off has ended (R268). -/
def execLogicHoldoffEnd (d i t : Nat) (pins : LogicPins) (s : State) : Host.Outcome State Fault Refusal :=
  .next (s.on (s.isSet I.lgcHold [d, i] && !s.lgcHeld d i t) fun s => s.logicSample d t pins [])

/-- LOGIC_MODE_WRITE: a write of LGC_CH_CFG (R265). -/
def execLogicModeWrite (d i v : Nat) (s : State) : Host.Outcome State Fault Refusal :=
  .next (s.hostWrite d fun s => s.nextBlockWrite (.logicModeWrite d i v) (State.writeLgcCfg d i v))

/-- LOGIC_THRESH_WRITE: a write of LGC_CH_CFG (R263). -/
def execLogicThreshWrite (d i v : Nat) (s : State) : Host.Outcome State Fault Refusal :=
  .next (s.hostWrite d fun s => s.nextBlockWrite (.logicThreshWrite d i v) (State.writeLgcCfg d i v))

/-- LC_ESCAPE (R89). -/
def execLcEscape (d : Nat) (s : State) : Host.Outcome State Fault Refusal :=
  .next (s.on (dtGe s.dt (dtAdd (s.acqOf d 2).lc.lastTick (2 ^ 47))) fun s => s.lcEscape d)

/-- TIM_CTRL_ENABLE: a write of TIM_CTRL with EN = 1 (R276). -/
def execTimCtrlEnable (d u v : Nat) (s : State) : Host.Outcome State Fault Refusal :=
  .next (s.hostWrite d fun s =>
    let s := (State.writeTimCtrl d u v s).1
    s.on (bitAt v 0) fun s => (s.requestTim d u none).1)

/-- TIM_CTRL_DISABLE: a write of TIM_CTRL with EN = 0 (R276). -/
def execTimCtrlDisable (d u v : Nat) (s : State) : Host.Outcome State Fault Refusal :=
  .next (s.hostWrite d fun s =>
    let s := (State.writeTimCtrl d u v s).1
    s.on (!bitAt v 0) fun s => s.requestTimStop d u)

/-- TIM_EVENT_PROCESS (R274). -/
def execTimEventProcess (d u : Nat) (s : State) : Host.Outcome State Fault Refusal := 
  .next (s.atEnd (s.timFull d u) (.timEventProcess d u) fun s => s.timProcess d u)

/-- TIM_GATE_END (R282). -/
def execTimGateEnd (d u : Nat) (s : State) : Host.Outcome State Fault Refusal := 
  .next (s.atEnd (s.timFull d u) (.timGateEnd d u) fun s => s.timGateEnd d u)

/-- TIM_CUE_WRITE: one word of a unit's cue (R275). -/
def execTimCueWrite (d u e w v : Nat) (s : State) : Host.Outcome State Fault Refusal := .next (s.hostWrite d (State.writeTimCue d u e w v))

/-- TIM_CUE_FIRE (R275). -/
def execTimCueFire (d u e : Nat) (s : State) : Host.Outcome State Fault Refusal := .next (s.timCueFire d u e)

/-- TIM_RES_READ: a host read of word 7 (R286). -/
def execTimResRead (d u : Nat) (s : State) : Host.Outcome State Fault Refusal :=
  .next (s.hostWrite d fun s => (s.emit (.readData d (le 4 (s.rd F.TIM_RES.WORD [d, u, 7])))).timPop d u)

end Sys2Proof.Machine
end

