-- ==== Sys2Proof/Machine/LibOps.lean ====
section
/-!
DEFINITION. The segment library: the index, queries, and deliveries as chunks (R358 to R361).
-/

namespace Sys2Proof.Machine

/-- Pieces of the span [i, j): the first of at most `first` items, the others of at most `room`; `n` bounds their number. -/
def pieces (room : Nat) : Nat → Nat → Nat → Nat → List (Nat × Nat)
  | 0, _, _, _ => []
  | n + 1, first, i, j => if j ≤ i then [] else (i, min first (j - i)) :: pieces room n room (i + min first (j - i)) j

namespace State

/-- Sets of a mailbox command: a global channel, or 0x10 for the logic channels of the die concerned (R355). -/
def setIndex (set : Nat) : Option Nat := if set < 4 then some (set % 2) else if set = 0x10 then some 2 else none

/-- What decides the die of a command that names a set (R344, R355). -/
def setConcern (set : Nat) : Concern := if set < 4 then .channel set else .byField

/-- The entries of a set, oldest first. -/
def libOf (s : State) (d a : Nat) : List LibEntry := s.library.filter fun e => e.die == d && e.set == a

/-- Held samples of an entry; for a logic set, the LC words from START_OFS on (R204, R217). -/
def libHeld (e : LibEntry) : Nat := if e.set = 2 then e.recd.words else e.recd.preCount + e.recd.postMem

/-- Held sample i of an entry, as stored (R204). -/
def libSample (s : State) (e : LibEntry) (i : Nat) : Nat :=
  let r := e.recd
  let v := { s with mode := if r.paired then .paired else .quad }
  v.readSample e.die e.set (r.slot * r.len * formatBits r.format / 8) ((r.startOfs + i) % max 1 r.len) (formatBits r.format)

/-- The DT of held sample i of an entry. -/
def libAt (e : LibEntry) (i : Nat) : Instant := e.recd.firstAt + i * e.recd.period.1 / max 1 e.recd.period.2

/-- Payload samples that fit a chunk of a set behind `used` bytes (R207). -/
def libRoom (s : State) (d a format used : Nat) : Nat :=
  samplesIn format (2 ^ s.rd F.STR_CTRL.CHUNK_LOG2 [d, a] - 64 - used)

/-- The chunks that are to hold samples i to j − 1 of an entry, behind a head. -/
def libChunks (s : State) (e : LibEntry) (head : List Byte) (i j : Nat) : List LibPart :=
  let room := s.libRoom e.die e.set e.recd.format 0
  let first := s.libRoom e.die e.set e.recd.format head.length
  (pieces room (j - i + 1) first i j).zipIdx.map fun p => ⟨e, if p.2 = 0 then head else [], p.1.1, p.1.2, none, 0⟩

/-- Overview point k of an entry: a PK record of the samples it covers (R88, R361). -/
def libPoint (s : State) (e : LibEntry) (points k : Nat) : Nat :=
  let h := libHeld e
  let i := k * h / points
  let vs := (List.range ((k + 1) * h / points - i)).flatMap fun n => s16Values e.recd.format (s.libSample e (i + n))
  let lo := vs.foldl min (vs.headD 0)
  let hi := vs.foldl max (vs.headD 0)
  sfield 16 lo + 2 ^ 16 * sfield 16 hi

/-- FIRST on the first chunk of a delivery (R208). -/
def markFirst : List LibPart → List LibPart
  | [] => []
  | c :: rest => { c with flags := c.flags + 1 } :: rest

/-- The header of a chunk of a delivery (R361). Bit 3 of the FLAGS is that of the record. -/
def libChunk (c : LibPart) : Chunk :=
  let i := match c.points with | some n => c.first * libHeld c.entry / n | none => c.first
  { firstIndex := i, firstDt := libAt c.entry i, flags := c.flags + 2 ^ 6 + 8 * b2n (bitAt c.entry.recd.flags 4), gapSeq := 2 ^ 32 - 1,
    spillSeq := c.entry.recd.seq, count := c.count, place := 0, firstPos := 0, lastPos := 0, opened := 0, head := c.head }

/-- The stored samples of a chunk of a delivery, as the read gives them. -/
def libSamples (s : State) (c : LibPart) : List Nat :=
  (List.range c.count).map fun k => match c.points with
    | some n => s.libPoint c.entry n (c.first + k)
    | none => s.libSample c.entry (c.first + k)

/-- Deliveries that run on a die. -/
def libRunning (s : State) (d : Nat) : Nat := (s.deliveries.filter fun x => x.die == d && x.running).length

/-- The ring of a delivery is a data ring of the die that no armed set and no delivery uses; else the status (R361). -/
def libRing (s : State) (d q : Nat) : Nat :=
  if queueKind q ≠ 0 then 0x0172
  else if s.setUses d q || s.deliveries.any fun x => x.die == d && x.queue == q then 0x0221 else 0

/-- The results of a finished delivery, from byte 24 of LONG_RESULT (R359). -/
def libResults (x : Delivery) : List Byte :=
  if x.opcode = 0x0701 then le 4 x.sent ++ le 4 0 ++ le 8 x.bytes
  else if x.opcode = 0x0703 then le 4 x.sent ++ le 4 x.segs else le 4 x.sent

/-- A delivery is accepted: it runs, or waits while four run (R358). -/
def libAccept (s : State) (h : MbxHdr) (opcode d a q format segs : Nat) (chunks : List LibPart) : State × Reply :=
  let x : Delivery := ⟨d, a, h.die, h.tag, opcode, q, s.libRunning d < 4, format, markFirst chunks, 0, 0, segs⟩
  if chunks = [] then (s, .complete 0 (libResults x))
  else ({ s with deliveries := s.deliveries ++ [x] }, .accepted 0 false)

/-- A command that names a set: the set of the die concerned, once armed SEGMENTED (R358). -/
def libNamed (s : State) (set d : Nat) (f : Nat → State × Reply) : State × Reply :=
  match setIndex set with
  | none => (s, .code 0x0100)
  | some a => if !s.isSet I.libArmed [d, a] then (s, .code 0x01C2) else f a

/-- LIB_SEGMENT (R361). -/
def libSegment (s : State) (h : MbxHdr) (set what q seq d : Nat) : State × Reply :=
  s.libNamed set d fun a =>
    match (s.libOf d a).find? fun e => e.recd.seq == seq with
    | none => (s, .code 0x01C1)
    | some e =>
      let k := s.libRing d q
      if 1 < what then (s, .code 0x0100)
      else if k ≠ 0 then (s, .code k)
      else
        let head := s.recordBytes d a e.recd.slot
        let chunks := if what = 1 ∨ libHeld e = 0 then [⟨e, head, 0, 0, none, 0⟩] else s.libChunks e head 0 (libHeld e)
        s.libAccept h 0x0701 d a q e.recd.format 1 chunks

/-- LIB_OVERVIEW (R361): a logic set holds no values. -/
def libOverview (s : State) (h : MbxHdr) (set q points seq d : Nat) : State × Reply :=
  s.libNamed set d fun a =>
    match (s.libOf d a).find? fun e => e.recd.seq == seq with
    | none => (s, .code 0x01C1)
    | some e =>
      let k := s.libRing d q
      if points = 0 ∨ 65536 < points ∨ libHeld e < points ∨ a = 2 then (s, .code 0x0100)
      else if k ≠ 0 then (s, .code k)
      else
        let room := s.libRoom d a 2 0
        let chunks := (pieces room (points + 1) room 0 points).map fun p => ⟨e, [], p.1, p.2, some points, 0⟩
        s.libAccept h 0x0702 d a q 2 1 chunks

/-- Held samples of an entry whose tick lies in a span: first and count. A logic segment is delivered whole where it meets the span. -/
def libWithin (e : LibEntry) (lo hi : Nat) : Nat × Nat :=
  if e.set = 2 then
    let from_ := e.recd.firstAt / 4096
    if from_ < hi ∧ lo < from_ + e.recd.preCount + e.recd.postMem then (0, libHeld e) else (0, 0)
  else
    let l := (List.range (libHeld e)).filter fun i => decide (lo ≤ libAt e i / 4096 ∧ libAt e i / 4096 < hi)
    (l.headD 0, l.length)

/-- LIB_SPAN (R361). -/
def libSpan (s : State) (h : MbxHdr) (set q lo hi d : Nat) : State × Reply :=
  s.libNamed set d fun a =>
    let k := s.libRing d q
    if hi ≤ lo then (s, .code 0x01C0)
    else if k ≠ 0 then (s, .code k)
    else
      let met := ((s.libOf d a).map fun e => (e, libWithin e lo hi)).filter fun p => 0 < p.2.2
      s.libAccept h 0x0703 d a q ((met.map fun p => p.1.recd.format).headD 0) met.length
        (met.flatMap fun p => s.libChunks p.1 [] p.2.1 (p.2.1 + p.2.2))

/-- An entry of a query's result (R360). -/
def libEntryBytes (s : State) (e : LibEntry) : List Byte :=
  let r := e.recd
  let after := s.isSet I.libStepped [e.die, e.set] && decide (s.rd I.libStepAt [e.die, e.set] ≤ r.began)
  le 8 (r.desc.dt / 4096) ++ le 2 (r.desc.dt % 4096) ++ le 2 r.flags ++ le 1 r.desc.term ++ le 1 (b2n after) ++ le 2 0 ++ le 8 r.seq
    ++ le 4 r.slot ++ le 4 0

/-- LIB_QUERY (R360): the entries go through the endpoint of the die that took the command. -/
def libQuery (s : State) (h : MbxHdr) (set term mask value most lo hi addr d : Nat) : State × Reply :=
  s.libNamed set d fun a =>
    if hi ≤ lo ∨ most = 0 then (s, .code 0x01C0)
    else
      let met := (s.libOf d a).filter fun e =>
        let t := e.recd.desc.dt / 4096
        decide (lo ≤ t ∧ t < hi) && Nat.land e.recd.flags mask == value && (term == 0xFF || e.recd.desc.term == term)
      let sent := met.take most
      let s := s.on (!sent.isEmpty) fun s => s.emit (.mem h.die addr (sent.flatMap s.libEntryBytes))
      (s, .complete 0 (le 4 met.length ++ le 4 sent.length ++ le 1 (s.rd I.libStepped [d, a])))

/-- LIB_STATUS (R359). -/
def libStatus (s : State) (set d : Nat) : State × Reply :=
  s.libNamed set d fun a =>
    let l := (s.libOf d a).map fun e => e.recd.seq
    (s, .ok (le 4 l.length ++ le 4 0 ++ le 8 (l.headD 0) ++ le 8 (l.getLastD 0)))

/-- A delivery is over: its command finishes (R348, R361). -/
def libEnd (s : State) (x : Delivery) (code : Nat) : State :=
  let s := { s with deliveries := s.deliveries.filter fun y => !(y.die == x.die && y.queue == x.queue) }
  s.each (s.outstanding.filter fun o => o.die == x.cmdDie && o.tag == x.tag && o.opcode == x.opcode) fun s o => s.finish o code (libResults x)

/-- The next chunk of a delivery fills the buffer of a descriptor; a slot that was reused ends the delivery (R361). -/
def libDeliver (s : State) (x : Delivery) (desc : DataDesc) : State :=
  match x.chunks with
  | [] => s
  | c :: rest =>
    if descMalformed desc (2 ^ s.rd F.STR_CTRL.CHUNK_LOG2 [x.die, x.set]) then s.rejectDesc x.die x.queue desc
    else
      let gone := !(s.libOf x.die x.set).any fun e => e.recd.seq == c.entry.recd.seq
      let last := gone || rest.isEmpty
      let bytes := chunkBytes (sourceBits x.die x.set) x.format x.sent (libChunk { c with flags := c.flags + 2 * b2n last }) (s.libSamples c) []
      let y := { x with chunks := rest, sent := x.sent + 1, bytes := x.bytes + (bytes.length - 64) }
      let s := (s.emit (.mem x.die desc.addr bytes)).complete x.die x.queue bytes.length desc.tag 0 last
      if last then s.libEnd y (if gone then 0x0224 else 0)
      else { s with deliveries := s.deliveries.map fun z => if z = x then y else z }

/-- The delivery that runs on a data ring. -/
def libOn (s : State) (d q : Nat) : Option Delivery := s.deliveries.find? fun x => x.die == d && x.queue == q && x.running

/-- The next closed chunk that data ring q is to carry goes into the descriptor at its HEAD (R207, R319, R320, R361). -/
def ringDeliver (s : State) (d q : Nat) (desc : DataDesc) (words : List ReadWord) : State :=
  if !s.canFill d q then s
  else s.deliverRead d words fun s => match s.libOn d q with
    | some x => s.libDeliver x desc
    | none => match s.chunkSet d q with
      | some a => s.deliverChunk d a q desc
      | none => s

/-- The oldest waiting delivery of a die starts once fewer than four run (R358). -/
def libStart (s : State) (d : Nat) : State :=
  match s.deliveries.find? fun x => x.die == d && !x.running with
  | none => s
  | some x => s.on (s.libRunning d < 4) fun s => { s with deliveries := s.deliveries.map fun z => if z = x then { x with running := true } else z }

end State

end Sys2Proof.Machine
end

