-- ==== Sys2Proof/Machine/RegOps.lean ====
section
/-!
DEFINITION. A host write to any location of BAR0: the register it names, what each access code does, and the registers whose
writes act (R6 to R8, R238, R309, R351, R477 to R480).
-/

namespace Sys2Proof.Machine

-- Where an offset lies (R477 to R479) --------------------------------------------------------------------------

/-- The indices of an offset within a register array, outermost first, and what is left of the offset. -/
def locate : List (Nat × Nat) → Nat → Option (List Nat × Nat)
  | [], off => some ([], off)
  | dim :: dims, off =>
    if off / dim.1 < dim.2 then (locate dims (off % dim.1)).map fun p => (off / dim.1 :: p.1, p.2) else none

/-- The indices and the word by which a register holds an offset. -/
def Reg.holds (r : Reg) (off : Nat) : Option (List Nat × Nat) :=
  match r.layout with
  | none => none
  | some y =>
    if y.base ≤ off then
      (locate y.dims (off - y.base)).bind fun p => if p.2 / 4 < y.words then some (p.1, p.2 / 4) else none
    else none

/-- The register, indices and word at an offset; a reserved offset holds none (R8). -/
def regAt (off : Nat) : Option (Reg × List Nat × Nat) := Reg.bar0.findSome? fun r => (r.holds off).map fun p => (r, p.1, p.2)

/-- One copy serves the package. -/
def Reg.perPackage (r : Reg) : Bool := (r.layout.map (·.perPackage)).getD false

/-- Registers mirrored on both dies (R247, R480): a write through either endpoint acts on both. -/
def Reg.mirrored : Reg → Bool
  | .SCN_CTRL => true | .SCN_BG => true | .SCN_TIM_H => true | .SCN_TIM_HS => true | .SCN_TIM_V => true | .SCN_TIM_VS => true
  | .SCN_TIM_PCLK => true | .SCN_TIM_CTRL => true | .SCN_CUR_POS => true | .SCN_CUR_CTRL => true | .SCN_WF_CFG => true
  | .SCN_WF_POS => true | .SCN_WF_SIZE => true | .SCN_CURVE => true | .SCN_PALETTE => true | .SCN_CURSOR => true
  | _ => false

/-- The offset of word 0 of a register at its indices (R477 to R479). -/
def Reg.offset (r : Reg) (j : List Nat) : Nat :=
  match r.layout with
  | none => 0
  | some y => y.base + (y.dims.zip j).foldl (fun n p => n + p.1.1 * p.2) 0

/-- Registers whose writes act from the first sample of the next block, an arm or a start of the same cycle counting as earlier (R129, R144,
R152, R153, R176, R178, R195, R236, R263, R265, R410, R482); and those whose writes act from the next core cycle (R328, R332). -/
def Reg.fromNextBlock : Reg → Bool
  | .EQ_CTRL => true | .DEC_CTRL => true | .DEC_RATIO => true | .FIR_CTRL => true | .RSM_CTRL => true | .RSM_RATIO => true
  | .TRG_LEVEL => true | .TRG_CH_CFG => true | .TRG_CTRL => true | .TRG_TERM_CFG => true | .TRG_TERM_T1 => true | .TRG_TERM_T2 => true
  | .TRG_PAT_ANA => true | .TRG_PAT_LOG => true | .TRG_SEQ_CTRL => true | .TRG_AUTO_TIMEOUT => true | .TRG_HOLDOFF => true
  | .SEQ_STATE => true | .TRG_CURVE => true
  | .ACQ_CTRL => true | .ACQ_SEG_LEN => true | .ACQ_NSEG => true | .ACQ_PRE => true | .ACQ_POST => true | .ACQ_SPILL_BUF => true
  | .STR_CTRL => true | .STR_DATA_RING => true | .STR_AUX_RINGS => true | .LGC_CH_CFG => true
  | .ACC_CTRL => true | .ACC_AVG_COUNT => true | .ACC_AVG_START => true | .ACC_AVG_LEN => true | .ACC_HIST_X_ORIGIN => true
  | .ACC_HIST_X_STEP => true | .ACC_HIST_Y => true | .ACC_DECAY => true
  | .QUE_IRQ => true | .EVC_MASK => true
  | .SKN_CTRL => true | .SKN_TRIG_SEL => true | .SKN_GTERM => true
  | _ => false

/-- Registers of a queue's context and doorbell (R309). -/
def Reg.ofQueue : Reg → Bool
  | .QUE_BASE => true | .QUE_CFG => true | .QUE_STATUS => true | .QUE_PTR => true | .QUE_IRQ => true | .QUE_COAL => true
  | .QUE_LOST => true | .QUE_WB => true | .QUE_AUX => true | .DBL => true
  | _ => false

-- Fields of a word ----------------------------------------------------------------------------------------------

/-- A field has bits in word `w` of its register. -/
def inWord (f : Fld) (w : Nat) : Bool := f.lo < 32 * (w + 1) && 32 * w < f.lo + f.width

/-- A field's value after a write of word `w`: its bits in that word change. -/
def fieldWord (old : Nat) (f : Fld) (w v : Nat) : Nat :=
  let k := f.lo % 32
  slice (putWord (old * 2 ^ k) (w - f.lo / 32) v) k f.width

/-- Values that a field takes; the field's description says that a write of any other value is ignored. -/
def fieldOk (f : Fld) (v : Nat) : Bool :=
  match f.reg, f.lo with
  | .CRD_CTRL, 5 => 100 ≤ v && v ≤ 100000
  | .CRD_SUFF, 20 => 2 ≤ v && v ≤ 8
  | .CRD_TOL, 0 => 2 ≤ v
  | .CRD_TOL, 8 => 3 ≤ v
  | .CRD_TOL, 16 => 10 ≤ v
  | .CRD_TOL, 24 => 13 ≤ v
  | .CRD_TIMEOUT, 0 => 100 ≤ v && v ≤ 60000
  | .STR_CTRL, 0 => 12 ≤ v && v ≤ 22
  | .STR_CTRL, 5 => 10 ≤ v && v ≤ 90
  | .SCN_LINK_CFG, 1 => v == 1 || v == 2 || v == 4
  | .SCN_WF_CFG, 5 => v != 7
  | .FRW_CTRL, 1 => v != 0
  | .BOB_THRESH, 0 => v != 0
  | .BOB_THRESH, 4 => 5 ≤ v && v ≤ 39
  | _, _ => true

namespace State

/-- The fields that a write of a word sets, and their values (R7). -/
def setFields (s : State) (r : Reg) (ix : List Nat) (w v : Nat) : List (Fld × Nat) :=
  (r.fields.filter fun i => inWord i.fld w && (i.acc == .RW || i.acc == .RWS)).map fun i => (i.fld, fieldWord (s.rd i.fld ix) i.fld w v)

/-- Each 1 written to a W1C field clears the bit, unless the hardware sets it in this very cycle (R7, R10). -/
def clearFields (s : State) (r : Reg) (ix : List Nat) (w v : Nat) : State :=
  s.each (r.fields.filter fun i => inWord i.fld w && i.acc == .W1C) fun s i =>
    s.wr i.fld ix (s.w1cLeft i.fld ix (slice v (i.fld.lo % 32) i.fld.width))

/-- What a write leaves in a field: a bit that the hardware sets in this very cycle stays set (R10). Only EVC_PEND has such bits. -/
def afterWrite (s : State) (f : Fld) (ix : List Nat) (v : Nat) : Nat := if f.reg = .EVC_PEND then Nat.lor v (s.freshOf f ix) else v

/-- A write that acts by the access codes alone (R7): a field whose value is outside its range keeps its value. -/
def plainWrite (s : State) (r : Reg) (ix : List Nat) (w v : Nat) : State × Nat :=
  let fs := s.setFields r ix w v
  let s := (s.each fs fun s f => s.on (fieldOk f.1 f.2) fun s => s.wr f.1 ix (s.afterWrite f.1 ix f.2)).clearFields r ix w v
  (s, if fs.all fun f => fieldOk f.1 f.2 then 0 else 0x0100)

/-- An operation that gives no status. -/
def noStatus (s : State) : State × Nat := (s, 0)

-- Registers whose writes act --------------------------------------------------------------------------------------

/-- STR_CTRL (R195): an armed set keeps it; out-of-range fields keep their value. -/
def writeStrCtrl (d a v : Nat) (s : State) : State × Nat :=
  if s.armed d a then writeSet d a true [] s else s.plainWrite .STR_CTRL [d, a] 0 v

/-- ACC_CMD: START, STOP, RELEASE and CLEAR_HIST in the order of their bits (R228, R234, R236, R237). The first refusal comes back. -/
def accCmd (s : State) (d c v : Nat) (cmd : Option (MbxHdr × Nat)) : State × Verdict :=
  let r := if bitAt v 0 then s.requestAcc d c cmd else (s, ⟨0, false⟩)
  let s := r.1.on (bitAt v 1) fun s => s.requestAccStop d c
  let refused := bitAt v 2 && s.accState d c != 2
  let s := s.on (bitAt v 2) fun s => s.accRelease d c
  let s := s.on (bitAt v 3) fun s => s.accClear d c
  (s, if r.2.status = 0 ∧ refused then ⟨0x0212, r.2.derated⟩ else r.2)

/-- TIM_CTRL (R276): the settings, then EN. -/
def writeTimEn (d u v : Nat) (s : State) : State × Nat :=
  let r := writeTimCtrl d u v s
  (if bitAt v 0 then (r.1.requestTim d u none).1 else r.1.requestTimStop d u, r.2)

/-- The set registers of R195. -/
def setReg (s : State) (r : Reg) (d a w v : Nat) (str : Bool) : State × Nat := writeSet d a str (s.setFields r [d, a] w v) s

/-- The sequencer registers and table of R176. -/
def seqReg (s : State) (r : Reg) (d q : Nat) (ix : List Nat) (w v : Nat) : State × Nat :=
  writeSeq d q ((s.setFields r ix w v).map fun (f : Fld × Nat) => (f.1, ix, f.2)) s

/-- TRG_CH_CFG and TRG_CTRL (R153, R176). -/
def trgDieReg (s : State) (r : Reg) (d : Nat) (ix : List Nat) (v : Nat) : State × Nat :=
  writeTrgDie d ((s.setFields r ix 0 v).map fun (f : Fld × Nat) => (f.1, ix, f.2)) s

/-- The urgent command's words (R351). -/
def writeUrgCmd (d k v : Nat) (s : State) : State :=
  if s.isSet F.MBX_URG_STATUS.BUSY [d] then s.urgentBusy d (0x400000 + 4 * k) else s.wr F.MBX_URG_CMD.WORD [d, k] v

/-- The MSI-X table (R306, R331): an unmasked vector sends its pending message. -/
def writeMsix (d k w v : Nat) (s : State) : State := (s.plainWrite .MSIX [d, k] w v).1.msixSync d k

/-- Writes of the time base, the converters and Carding. -/
def writeTime (s : State) (d : Nat) (r : Reg) (j : List Nat) (w v : Nat) : Option (State × Nat) :=
  let a := j.getD 0 0
  match r with
  | .XTO_REF_CTRL => some (writeRefCtrl v s)
  | .SYN_CTRL => some (writeSynCtrl d v s)
  | .SYN_RAMP_END => some (writeRamp d F.SYN_RAMP_END.END_OFFSET a v s).noStatus
  | .SYN_RAMP_DUR => some (writeRamp d F.SYN_RAMP_DUR.DURATION a v s).noStatus
  | .AUX_CTRL => some (writeAuxCtrl d v s)
  | .CLD_DT_SNAP => some (s.on (bitAt v 0) fun s => s.wr F.CLD_DT_TICKS.TICKS [d] (s.blkOf d)).noStatus
  | .CUE => some (writeCueWord d a w v s).noStatus
  | .CNV_CTRL => some (writeCnvCtrl d a v s)
  | .CRD_CTRL => let p := s.plainWrite r [d, a] 0 v; some (p.1.syncCard, p.2)
  | .CRD_COMB_CMD => some (writeCombCmd d a v s).noStatus
  | .CRD_STORE_CTRL => some (s.on (bitAt v 0) fun s => (s.storeRequest false none).1).noStatus
  | _ => none

/-- Writes of the conditioning and trigger blocks. -/
def writeSignal (s : State) (d : Nat) (r : Reg) (j : List Nat) (w v : Nat) : Option (State × Nat) :=
  let a := j.getD 0 0
  match r with
  | .EQ_CTRL => some (writeEqCtrl d a v s)
  | .EQ_COEF => some (writeEqCoef d a (j.getD 1 0) (j.getD 2 0) v s)
  | .DEC_CTRL => some (writeCond d a 0 v s)
  | .DEC_RATIO => some (writeCond d a 1 v s)
  | .FIR_CTRL => some (writeCond d a 2 v s)
  | .FIR_COEF => some (writeFirCoef d a (j.getD 1 0) (j.getD 2 0) v s)
  | .RSM_CTRL => some (writeCond d a 3 v s)
  | .RSM_RATIO => some (writeCond d a (4 + w) v s)
  | .TRG_CH_CFG => some (s.trgDieReg r d [d, a] v)
  | .TRG_CTRL => some (s.trgDieReg r d [d] v)
  | .TRG_TERM_CFG => some (writeTerm d a (s.setFields r [d, a] w v) s)
  | .TRG_TERM_T1 => some (writeTerm d a (s.setFields r [d, a] w v) s)
  | .TRG_TERM_T2 => some (writeTerm d a (s.setFields r [d, a] w v) s)
  | .TRG_PAT_ANA => some (writeTerm d a (s.setFields r [d, a] w v) s)
  | .TRG_PAT_LOG => some (writeTerm d a (s.setFields r [d, a] w v) s)
  | .TRG_SEQ_CTRL => some (s.seqReg r d a [d, a] w v)
  | .TRG_AUTO_TIMEOUT => some (s.seqReg r d a [d, a] w v)
  | .TRG_HOLDOFF => some (s.seqReg r d a [d, a] w v)
  | .SEQ_STATE => some (s.seqReg r d a [d, a, j.getD 1 0] w v)
  | .TRG_CURVE => some (writeCurve d a (j.getD 1 0) (j.getD 2 0) v s)
  | .TRG_FORCE => some (s.on (bitAt v 0) fun s => s.forceTrigger d a (4096 * s.blkOf d) false).noStatus
  | _ => none

/-- Writes of the acquisition and accumulation blocks. -/
def writeStore (s : State) (d : Nat) (r : Reg) (j : List Nat) (w v : Nat) : Option (State × Nat) :=
  let a := j.getD 0 0
  match r with
  | .ACQ_CTRL => some (s.setReg r d a w v false)
  | .ACQ_SEG_LEN => some (s.setReg r d a w v false)
  | .ACQ_NSEG => some (s.setReg r d a w v false)
  | .ACQ_PRE => some (s.setReg r d a w v false)
  | .ACQ_POST => some (s.setReg r d a w v false)
  | .ACQ_SPILL_BUF => some (s.setReg r d a w v false)
  | .STR_CTRL => some (writeStrCtrl d a v s)
  | .STR_DATA_RING => some (s.setReg r d a w v true)
  | .STR_AUX_RINGS => some (s.setReg r d a w v true)
  | .ACQ_CMD =>
    some (if bitAt v 0 ∧ bitAt v 1 then (s.flag F.ACQ_STATUS.CMD_REJECT [d, a]).noStatus
      else ((s.on (bitAt v 0) fun s => (s.requestArm d a (4096 * s.nextBlk d) false none).1).on (bitAt v 1) fun s =>
        s.requestStop d a (4096 * s.nextBlk d)).noStatus)
  | .ACC_CTRL => some (writeAccCtrl d a v s)
  | .ACC_CMD => some (s.accCmd d a v none).1.noStatus
  | .ACC_AVG_COUNT => some (writeAccCfg d a (s.setFields r [d, a] w v) s)
  | .ACC_AVG_START => some (writeAccCfg d a (s.setFields r [d, a] w v) s)
  | .ACC_AVG_LEN => some (writeAccCfg d a (s.setFields r [d, a] w v) s)
  | .ACC_HIST_X_ORIGIN => some (writeAccCfg d a (s.setFields r [d, a] w v) s)
  | .ACC_HIST_X_STEP => some (writeAccCfg d a (s.setFields r [d, a] w v) s)
  | .ACC_HIST_Y => some (writeAccCfg d a (s.setFields r [d, a] w v) s)
  | .ACC_DECAY => some (writeAccCfg d a (s.setFields r [d, a] w v) s)
  | _ => none

/-- Writes of the display, logic, time-interval and comparator blocks. -/
def writeInput (s : State) (d : Nat) (r : Reg) (j : List Nat) (w v : Nat) : Option (State × Nat) :=
  let a := j.getD 0 0
  match r with
  | .SCN_CTRL => some (writeScnCtrl v s).noStatus
  | .SCN_TIM_CTRL => some (s.on (bitAt v 0) applyTiming).noStatus
  | .SCN_OVL_FLIP => some (writeFlip d a v s).noStatus
  | .LGC_CH_CFG => some (writeLgcCfg d a v s)
  | .LGC_CTRL => some (writeLgcCtrl d v s)
  | .TIM_CTRL => some (writeTimEn d a v s)
  | .TIM_START_SRC => some (writeTimCfg (s.setFields r [d, a] w v) d a s)
  | .TIM_STOP_SRC => some (writeTimCfg (s.setFields r [d, a] w v) d a s)
  | .TIM_GATE => some (writeTimCfg (s.setFields r [d, a] w v) d a s)
  | .TIM_N => some (writeTimCfg (s.setFields r [d, a] w v) d a s)
  | .TIM_CUE => some (writeTimCue d a (j.getD 1 0) w v s).noStatus
  | .CMP_CTRL => some (writeCmpCtrl d a v s)
  | .CMP_THRESH => some (writeCmpThresh d a v s)
  | .CMP_BLANK => some (writeCmpBlank d a v s)
  | _ => none

/-- Writes of queues, events, the mailbox, Harvest, Skein, service and boot. -/
def writeHost (s : State) (d : Nat) (r : Reg) (j : List Nat) (w v : Nat) : Option (State × Nat) :=
  let a := j.getD 0 0
  match r with
  | .QUE_CFG => some (writeQueCfg d a v s).noStatus
  | .QUE_BASE => some (writeQueAddr d a F.QUE_BASE.BASE w v s).noStatus
  | .QUE_WB => some (writeQueAddr d a F.QUE_WB.ADDR w v s).noStatus
  | .QUE_AUX => some (writeQueAddr d a F.QUE_AUX.ADDR w v s).noStatus
  | .QUE_IRQ => some (writeQueIrq d a v s)
  | .DBL => some (doorbell d a v s).noStatus
  | .EVC_RAISE => some (s.raiseKind d 202 (trunc 32 v) .software).noStatus
  | .EVC_ROUTE => some (writeRoute d a v s).noStatus
  | .MBX_URG_CMD => some (writeUrgCmd d a v s).noStatus
  | .MBX_URG_CTRL => some (urgentGo d v s).noStatus
  | .MSIX => some (writeMsix d a w v s).noStatus
  | .HVS_ALLOW => some s.noStatus
  | .HVS_CAP => some s.noStatus
  | .HVS_BUDGET => some s.noStatus
  | .SKN_CTRL => some (writeSknCtrl v s)
  | .SKN_TRIG_SEL => some (writeSknTrigSel v s)
  | .SKN_GTERM => some (writeSknGterm a v s)
  | .SKN_GSEQ_CTRL => some (writeGseqCtrl v s)
  | .SKN_GSEQ_HOLDOFF => some (writeGseqHoldoff v s)
  | .GSEQ_STATE => some (writeGseqState a w v s)
  | .SVC_ATB => some (writeAtb d v s).noStatus
  | .BOOT_CTRL => some (writeBootCtrl v s).noStatus
  | _ => none

/-- A write of word `w` of a register, at the indices that follow the die: by what its block's rules say, else by its access codes. -/
def writeReg (d : Nat) (r : Reg) (j : List Nat) (w v : Nat) (s : State) : State × Nat :=
  match s.writeTime d r j w v <|> s.writeSignal d r j w v <|> s.writeStore d r j w v <|> s.writeInput d r j w v <|> s.writeHost d r j w v with
  | some p => p
  | none => s.plainWrite r (if r.perPackage then j else d :: j) w v

/-- A write of a word by what its register's rules say: at once, or from the next block. -/
def writeWordOf (d : Nat) (r : Reg) (j : List Nat) (w v : Nat) (s : State) : State :=
  if r.fromNextBlock then s.nextBlockWrite (.registerWrite d (r.offset j + 4 * w) 4 (some v)) (writeReg d r j w v) else (writeReg d r j w v s).1

/-- One aligned 32-bit word is written at an offset (R238, R309, R477 to R480). -/
def writeWord (s : State) (d off v : Nat) : State :=
  match regAt off with
  | none => s
  | some (r, j, w) =>
    if r = .HIST ∨ r = .ACCUM then s.violation d 0x040A vlogNone off
    else if r.ofQueue ∧ queueKind (j.getD 0 0) = 6 then s.privateWrite d off
    else if r.perPackage ∧ !r.mirrored ∧ s.dieRetired s.control then s
    else writeWordOf d r j w v s

-- Reads ---------------------------------------------------------------------------------------------------------

/-- A field as a read shows it (R7): a WO field reads 0; of an RC field, what the hardware adds in this very cycle comes after (R10). -/
def fieldRead (s : State) (i : FldInfo) (ix : List Nat) : Nat :=
  match i.acc with
  | .WO => 0
  | .RC => s.rd i.fld ix - s.freshOf i.fld ix
  | _ => s.rd i.fld ix

/-- A word of a register as a read shows it: reserved bits read 0 (R8). -/
def wordRead (s : State) (r : Reg) (ix : List Nat) (w : Nat) : Nat :=
  slice (r.fields.map fun i => s.fieldRead i ix * 2 ^ i.fld.lo).sum (32 * w) 32

/-- What a read clears: RC fields, to what the hardware adds in this very cycle (R7, R10). -/
def clearRead (s : State) (r : Reg) (ix : List Nat) (w : Nat) : State :=
  s.each (r.fields.filter fun i => inWord i.fld w && i.acc == .RC) fun s i => s.wr i.fld ix (min (s.rd i.fld ix) (s.freshOf i.fld ix))

/-- Registers that show what the device counts at the moment of the read are brought up to date (R364, R424). -/
def beforeRead (s : State) (d : Nat) (r : Reg) (j : List Nat) : State :=
  let a := j.getD 0 0
  match r with
  | .MBX_RING_STAT => s.wr F.MBX_RING_STAT.RECENT [d, a] (s.recentViolations d (7936 + a))
  | .SKN_PORT_VIOL => s.wr F.SKN_PORT_VIOL.RECENT [a] (s.skRecent a)
  | _ => s

/-- What the read of a word does beside the clearing of counters: word 7 of TIM_RES removes the head result (R286). -/
def afterRead (s : State) (d : Nat) (r : Reg) (j : List Nat) (w : Nat) : State :=
  s.on (r == .TIM_RES && w == 7) fun s => s.timPop d (j.getD 0 0)

/-- The windows of an accumulation engine whose domain is off read 0 (R477). -/
def windowOff (s : State) (d : Nat) (r : Reg) (j : List Nat) : Bool := (r == .HIST || r == .ACCUM) && !s.domainOn d (31 + j.getD 0 0)

/-- The cost table is present on the die with the control role only (R479). -/
def tableAbsent (s : State) (d : Nat) (r : Reg) : Bool := r == .COST && d != s.control

/-- One aligned 32-bit word is read at an offset (R7, R8, R477 to R480): a reserved offset reads 0. -/
def readWord (s : State) (d off : Nat) : State × Nat :=
  match regAt off with
  | none => (s, 0)
  | some (r, j, w) =>
    if r.perPackage && !r.mirrored && s.dieRetired s.control then (s, 2 ^ 32 - 1)
    else if s.windowOff d r j || s.tableAbsent d r then (s, 0)
    else
      let ix := if r.perPackage then j else d :: j
      let s := s.beforeRead d r j
      ((s.clearRead r ix w).afterRead d r j w, s.wordRead r ix w)

/-- A read of BAR0 of `size` bytes (R6): the answer goes to the host. A wrong size answers all ones and is a violation. -/
def readBar0 (s : State) (d off size : Nat) : State :=
  let msix := 0x3800000 ≤ off && off < 0x3804080
  if size = 4 ∧ off % 4 = 0 then
    let r := s.readWord d off
    r.1.emit (.readData d (le 4 r.2))
  else if msix ∧ size = 8 ∧ off % 8 = 0 then
    let r := s.readWord d off
    let q := r.1.readWord d (off + 4)
    q.1.emit (.readData d (le 4 r.2 ++ le 4 q.2))
  else (s.emit (.readData d (List.replicate size 255))).violation d 0x0408 vlogNone off

/-- A write to BAR0 of `size` bytes (R6): the MSI-X table and PBA also take an aligned 64-bit write. -/
def writeBar0 (s : State) (d off size v : Nat) : State :=
  let msix := 0x3800000 ≤ off && off < 0x3804080
  if size = 4 ∧ off % 4 = 0 then s.writeWord d off v
  else if msix ∧ size = 8 ∧ off % 8 = 0 then (s.writeWord d off v).writeWord d (off + 4) (v / 2 ^ 32)
  else s.violation d 0x0408 vlogNone off

end State

/-- REGISTER_WRITE: an access of `size` bytes at an offset of a die's BAR0, a write of a value or, without one, a read (R6 to R8). -/
def execRegisterWrite (d off size : Nat) (v : Option Nat) (s : State) : Host.Outcome State Fault Refusal :=
  .next (match v with
    | some v => s.hostWrite d fun s => s.writeBar0 d off size v
    | none => s.hostWrite d fun s => s.readBar0 d off size)

end Sys2Proof.Machine
end

