-- ==== Sys2Proof/Machine/Trigger.lean ====
section
/-!
DEFINITION. The meanings of the trigger commands (R149 to R179, R482).
-/

namespace Sys2Proof.Machine

namespace State

/-- The levels of one channel meet a sample (R151); in PAIRED mode C1's have no effect (R150), and a calibration block freezes them. The
sample is given as stage 3 codes, and stage 5 comes before the levels (R27, R28). -/
def channelSees (s : State) (t : Instant) (x : ChanSample) : State :=
  let d := x.chan / 2
  let c := x.chan % 2
  if 4 ≤ x.chan || s.inert c || s.calNow d c then s
  else
    let n : Int := (s.sampleAt d t : Nat)
    let s := s.runSeen d c (n - 82) x.xs
    let ys := (List.range 71).map fun i => (s.stage5 d c (n - 82) x.xs (n - 67 + i)).1
    let was := s.threeState d c
    let r := (List.range 4).foldl (fun (a : State × List Crossing) k => let r := a.1.levelSees d c k t ys; (r.1, a.2 ++ r.2)) (s, [])
    let view := if r.1.threeState d c = was then [] else [.view x.chan (r.1.threeState d c) t]
    r.1.arrive ((r.2.map fun x => .crossing d t x) ++ view)

/-- The samples of one instant of the block handled, of any channels: their crossings and three-state values go to the engines (R151 to
R161). -/
def sampleSees (s : State) (t : Instant) (xs : List ChanSample) : State :=
  s.on s.mode.acquires fun s => s.each xs fun s x => s.on (s.landsOn (x.chan / 2) (t / 4096)) fun s => s.channelSees t x

/-- The fields of a term that a write of one word names (R6): word 0 TRG_TERM_CFG, 2 and 3 T1, 4 and 5 T2, 6 and 7 the patterns. -/
def termWord (s : State) (d t w v : Nat) : List (Fld × Nat) :=
  match w with
  | 0 => [(F.TRG_TERM_CFG.TYPE, slice v 0 3), (F.TRG_TERM_CFG.SRC, slice v 4 6), (F.TRG_TERM_CFG.LEVEL_A, slice v 10 2),
      (F.TRG_TERM_CFG.LEVEL_B, slice v 12 2), (F.TRG_TERM_CFG.SLOPE, slice v 14 2), (F.TRG_TERM_CFG.COND, slice v 16 3)]
  | 2 => [(F.TRG_TERM_T1.T1, putWord (s.rd F.TRG_TERM_T1.T1 [d, t]) 0 v)]
  | 3 => [(F.TRG_TERM_T1.T1, putWord (s.rd F.TRG_TERM_T1.T1 [d, t]) 1 v)]
  | 4 => [(F.TRG_TERM_T2.T2, putWord (s.rd F.TRG_TERM_T2.T2 [d, t]) 0 v)]
  | 5 => [(F.TRG_TERM_T2.T2, putWord (s.rd F.TRG_TERM_T2.T2 [d, t]) 1 v)]
  | 6 => [(F.TRG_PAT_ANA.ELEM, v)]
  | 7 => [(F.TRG_PAT_LOG.ELEM, v)]
  | _ => []

/-- TRG_LEVEL (R152). -/
def writeLevel (d c n v : Nat) (s : State) : State × Nat :=
  ((s.wr F.TRG_LEVEL.LEVEL [d, c, n] (slice v 0 16)).wr F.TRG_LEVEL.HYST [d, c, n] (slice v 16 8), 0)

end State

/-- LEVEL_CROSSING: the samples of one instant pass the levels (R151 to R165). -/
def execLevelCrossing (t : Instant) (xs : List ChanSample) (s : State) : Host.Outcome State Fault Refusal := .next (s.sampleSees t xs)

/-- TRG_LEVEL_WRITE (R152). -/
def execTrgLevelWrite (d c n v : Nat) (s : State) : Host.Outcome State Fault Refusal := 
  .next (s.hostWrite d fun s => s.nextBlockWrite (.trgLevelWrite d c n v) (State.writeLevel d c n v))

/-- TERM_CONFIG_WRITE (R176, R482). -/
def execTermConfigWrite (d t w v : Nat) (s : State) : Host.Outcome State Fault Refusal :=
  .next (s.hostWrite d fun s => s.nextBlockWrite (.termConfigWrite d t w v) (State.writeTerm d t (s.termWord d t w v)))

/-- TIMEOUT_TERM_EXPIRY (R154, R168): the engine takes the deadline after the crossings of the cycle (R167). -/
def execTimeoutTermExpiry (d t : Nat) (s : State) : Host.Outcome State Fault Refusal :=
  .next (s.on ((s.timeoutDeadline d t).any fun x => s.dueOn d (x / 4096)) fun s => s.atEnd true (.timeoutTermExpiry d t) id)

/-- WITHIN_DEADLINE (R167): it acts after every fire of the cycle in which it lands. -/
def execWithinDeadline (d q : Nat) (s : State) : Host.Outcome State Fault Refusal :=
  .next (s.on ((s.withinLands d q).any fun b => decide (b ≤ s.blkNo d)) fun s => s.atEnd true (.withinDeadline d q) fun s => s.withinActs d q)

/-- AUTO_TRIGGER_DEADLINE (R169, R172): a real trigger of the cycle comes first (R41). -/
def execAutoTriggerDeadline (d q : Nat) (s : State) : Host.Outcome State Fault Refusal :=
  match s.autoDeadline d q with
  | some x => .next (s.on (s.blkAt d (4096 * x) ≤ s.blkNo d) fun s => s.atEnd true (.autoTriggerDeadline d q) fun s => s.autoActs d q x)
  | none => .next s

/-- DEAD_TIME_END (R169, R170). -/
def execDeadTimeEnd (d q : Nat) (s : State) : Host.Outcome State Fault Refusal := .next (s.endDead d q)

/-- HOLDOFF_TIME_EXPIRY (R169, R171): a candidate of the cycle comes first (R41). -/
def execHoldoffTimeExpiry (d q : Nat) (s : State) : Host.Outcome State Fault Refusal :=
  match s.holdLands d q with
  | some b => .next (s.on (b ≤ s.blkNo d) fun s => s.atEnd true (.holdoffTimeExpiry d q) fun s => s.endHoldoff d q b)
  | none => .next s

/-- TRG_FORCE_WRITE (R169). -/
def execTrgForceWrite (d q v : Nat) (s : State) : Host.Outcome State Fault Refusal :=
  .next (s.hostWrite d fun s => s.on (bitAt v 0) fun s => s.forceTrigger d q (4096 * s.blkOf d) false)

end Sys2Proof.Machine
end

