-- ==== Sys2Proof/Machine/MbxOps.lean ====
section
/-!
DEFINITION. Work of mailbox commands that is theirs alone: register images in results, aborts, readouts, the overlay pool,
the firmware images (R341, R350, R353 to R357).
-/

namespace Sys2Proof.Machine

/-- The die that a command naming global channel `ch` concerns (R344); a number above 3 names none. -/
def chanConcern (ch : Nat) : Concern := if ch < 4 then .channel ch else .byField

/-- The work of a command on a global channel: its channel within the die, or 0x0100 where there is no such channel. -/
def onChan (ch : Nat) (f : State → Nat → Nat → State × Reply) (s : State) (d : Nat) : State × Reply :=
  if ch < 4 then f s d (ch % 2) else (s, .code 0x0100)

/-- The work of a command on a set (R355). -/
def onSet (set : Nat) (f : State → Nat → Nat → State × Reply) (s : State) (d : Nat) : State × Reply :=
  match State.setIndex set with
  | some a => f s d a
  | none => (s, .code 0x0100)

/-- The work of a command, or 0x0100 where a parameter is outside its range. -/
def onRange (ok : Bool) (f : State → Nat → State × Reply) (s : State) (d : Nat) : State × Reply :=
  if ok then f s d else (s, .code 0x0100)

namespace State

/-- A status command: OK with results. -/
def answerWith (s : State) (results : List Byte) : State × Reply := (s, .ok results)

/-- A command that answers with a status alone. -/
def answerCode (r : State × Nat) : State × Reply := (r.1, .code r.2)

/-- The four bytes of a register. -/
def regBytes (s : State) (r : Reg) (ix : List Nat) : List Byte := le 4 (s.image r ix)

/-- Values of u64 parameters fit the fields they are written to. -/
def fits64 (l : List (Fld × Nat)) : Bool := l.all fun x => decide (x.2 < 2 ^ x.1.width)

-- System ------------------------------------------------------------------------------------------------------

/-- MODE_SET (R353, R370). -/
def mbxMode (s : State) (h : MbxHdr) (mode : Nat) : State × Reply :=
  match mode with
  | 0 => go .ready | 1 => go .quad | 2 => go .paired | 3 => go .vigil
  | _ => (s, .code 0x0100)
where
  /-- The mode named is requested. -/
  go (m : Mode) : State × Reply :=
    let r := s.requestMode m (some (h, 0x0002))
    (r.1, verdictLong r.2 m.code)

/-- MODE_GET: mode, available channels, retired dies (R353). -/
def modeBytes (s : State) : List Byte :=
  let available := ((List.range 4).map fun g => 2 ^ g * s.rd F.CNV_STATUS.AVAILABLE [g / 2, g % 2]).sum
  le 1 s.mode.code ++ le 1 available ++ le 1 (b2n (s.dieRetired 0) + 2 * b2n (s.dieRetired 1))

/-- LONG_RESULT (R348, R353): state, final status, and from byte 24 the results of the tag's command. -/
def longResult (s : State) (d tag : Nat) : State × Reply :=
  if s.outstanding.any fun o => o.die == d && o.tag == tag then s.answerWith (le 1 0 ++ le 1 0 ++ le 2 0)
  else match (s.kept.filter fun k => k.die == d && k.tag == tag).getLast? with
    | some k => s.answerWith (le 1 1 ++ le 1 0 ++ le 2 k.status ++ le 4 0 ++ k.results)
    | none => (s, .code 0x0102)

/-- A deferred command that has not started is aborted (R353): its request, or its pool release. -/
def abortDeferred (s : State) (o : Outstanding) : State :=
  if o.opcode = 0x0806 then
    { s with pool := s.pool.map fun (p : PoolBuf) => if poolUnit p = o.unit then { p with released := false } else p }.finish o 0x0203 []
  else match s.deferred.find? fun x => (x.cmd.map fun p => p.1.die == o.die && p.1.tag == o.tag).getD false with
    | some x =>
      let s := s.dropDeferred x
      let s := match x.req with
        | .rethread _ _ => s.requestField x.req 0x0203
        | _ => s
      s.requestEnd x 0x0203
    | none => s.finish o 0x0203 []

/-- ABORT of the outstanding command of a tag (R353). -/
def mbxAbort (s : State) (d tag : Nat) : State × Reply :=
  match s.outstanding.find? fun o => o.die == d && o.tag == tag with
  | none => (s, .code 0x0102)
  | some o =>
    if o.deferred then (s.abortDeferred o, .code 0)
    else if o.opcode = 0x0302 ∧ !o.converted then (s.combAbort (o.unit / 2) (o.unit % 2) 0x0211, .code 0)
    else match s.deliveries.find? fun x => x.cmdDie == d && x.tag == tag && x.opcode == o.opcode with
      | some x => (s.libEnd x 0x0203, .code 0)
      | none => (s, .code 0x0202)

/-- RING_RESET (R365). A command of the ring itself does not return it from QUARANTINED. -/
def ringReset (s : State) (h : MbxHdr) (q d : Nat) : State × Reply :=
  if queueKind q ≠ 5 then (s, .code 0x0100)
  else if s.rd F.QUE_STATUS.STATE [d, q] = 3 ∧ h.die = d ∧ h.src = .ring (q - 7936) then (s, .code 0x0100)
  else
    let s := { s with violations := s.violations.filter fun v => !(v.die == d && v.ring == q) }
    let s := (s.wr F.MBX_RING_STAT.RECENT [d, q - 7936] 0).wr F.MBX_RING_STAT.TOTAL [d, q - 7936] 0
    (s.on (s.rd F.QUE_STATUS.STATE [d, q] == 3) fun s =>
      (s.queDrop d q).raise d 203 q, .code 0)

/-- VLOG_READ: entries from `first`, wrapping (R353, R362). -/
def vlogRead (s : State) (h : MbxHdr) (first count addr d : Nat) : State × Reply :=
  let bytes := (List.range count).flatMap fun i => wordBytes ((List.range 4).map fun w => s.rd F.MBX_VLOG.WORD [d, (first + i) % 256, w])
  (s.emit (.mem h.die addr bytes)).answerWith (le 1 (s.rd F.MBX_VLOG_NEXT.NEXT [d]) ++ le 3 0 ++ le 4 (s.rd F.MBX_VLOG_TOTAL.COUNT [d]))

-- Time, converters, calibration -----------------------------------------------------------------------------------

/-- REF_STATUS (R354). -/
def refStatus (s : State) : List Byte :=
  s.regBytes .XTO_STATUS [] ++ s.regBytes .XTO_PHASE_ERR [] ++ s.regBytes .XTO_PULL [] ++ le 2 (s.image .XTO_STEP_FRAC []) ++ le 2 0
    ++ le 8 (s.image .XTO_STEP_TICKS []) ++ le 8 (s.image .XTO_STEP_AT [])

/-- CUE_SET (R66, R354): a PENDING cue is only cancelled. -/
def cueSetAll (s : State) (n action state target flags frac param ticks d : Nat) : State × Reply :=
  let word2 := frac + 2 ^ 16 * action + 2 ^ 24 * state
  let shown (s : State) : State × Reply := s.answerWith (le 1 (s.rd F.CUE.STATE [d, n]))
  if s.rd F.CUE.STATE [d, n] = 1 then
    if state = 1 then (s, .code 0x022A)
    else if s.cueDue d n then shown (s.cueExecute d n) else shown (writeCueWord d n 2 word2 s)
  else
    let s := writeCueWord d n 1 (ticks / 2 ^ 32) (writeCueWord d n 0 ticks s)
    let s := writeCueWord d n 4 param (writeCueWord d n 3 (target + 2 ^ 16 * flags) s)
    shown (writeCueWord d n 2 word2 s)

/-- STORE_WRITE (R117, R354): its unit tells whether the write it asks for has started. -/
def mbxStore (s : State) (h : MbxHdr) : State × Reply :=
  let r := s.storeRequest false (some (h, 0x0303))
  (r.1, verdictLong r.2 (b2n (!r.1.isSet F.CRD_STORE_STATUS.PENDING [])))

/-- TRIM_READ (R354). -/
def trimRead (s : State) (h : MbxHdr) (addr d c : Nat) : State × Reply :=
  let words (r : Reg) : List Byte := (List.range 136).flatMap fun i => s.regBytes r [d, c, i]
  (s.emit (.mem h.die addr (words .CRD_TRIM ++ words .CRD_SLICE_STAT)), .code 0)

/-- The register writes of a configuration command on 32-bit registers, and its reply (R350). -/
def cfgRegs (s : State) (d : Nat) (l : List (Reg × List Nat × Nat)) : State × Reply :=
  cfgReply (l.map fun x => (x.1, x.2.2)) (l.map fun x => writeReg d x.1 x.2.1 0 x.2.2) s

-- Accumulation ------------------------------------------------------------------------------------------------

/-- ACC_CMD (R356): the image, then FREEZE. -/
def mbxAccCmd (s : State) (h : MbxHdr) (v freeze d c : Nat) : State × Reply :=
  let r := s.accCmd d c v (some (h, 0x0802))
  let s := r.1.on (freeze == 1 || freeze == 2) fun s => s.setFreeze d c (freeze - 1)
  (s, { verdictReply r.2 (2 * d + c) with results := if r.2.status = 0 then s.regBytes .ACC_STATUS [d, c] else [] })

/-- The readout of the means (R229). -/
def avgBytes (s : State) (d c : Nat) : List Byte :=
  let len := s.rd F.ACC_AVG_LEN.LEN [d, c]
  let n := s.rd F.ACC_AVG_DONE.DONE [d, c]
  let start := sval 41 (s.rd F.ACC_AVG_START.START [d, c])
  padTo 64 (le 4 0x4D564156 ++ le 1 (sourceBits d c) ++ le 3 0 ++ le 4 len ++ le 4 n ++ le 8 (sfield 64 start)
      ++ le 4 (s.rd F.ACC_AVG_BATCH.COUNT [d, c]))
    ++ (List.range len).flatMap fun i => le 2 (sfield 16 (roundDiv (sval 32 (s.rd F.ACCUM.SUM [d, c, i])) n))

/-- ACC_READ_AVG (R229, R356): what a channel gave goes out by its own die's endpoint (R22, R23). -/
def readAvg (s : State) (size addr d c : Nat) : State × Reply :=
  let need := 64 + 2 * s.rd F.ACC_AVG_LEN.LEN [d, c]
  if size < need then (s, .code 0x0100)
  else if s.accState d c ≠ 2 then (s, .code 0x021D)
  else (s.emit (.mem d addr (s.avgBytes d c)), .complete 0 (le 4 need))

/-- ACC_READ_HIST: column-major, each count 16-bit (R235), by the channel's own die (R22, R23). -/
def readHist (s : State) (addr d c : Nat) : State × Reply :=
  let bytes := (List.range 2048).flatMap fun x => (List.range 1024).flatMap fun r => le 2 (s.histCell d c x r)
  (s.emit (.mem d addr bytes), .complete 0 [])

-- The overlay pool (R252, R254) -----------------------------------------------------------------------------------

/-- Offsets at which a buffer of a size lies free in the 128 MiB pool of a die. -/
def poolFree (s : State) (d size : Nat) : List Nat :=
  ((List.range 2048).map (· * 65536)).filter fun off =>
    off + size ≤ 134217728 && s.pool.all fun p => p.die != d || off + size ≤ p.off || p.off + p.size ≤ off

/-- POOL_ALLOC (R356, R400): which of the free places it takes is open. -/
def poolAlloc (s : State) (size d : Nat) : State × Reply :=
  let size := ceilDiv size 65536 * 65536
  let l := s.poolFree d size
  if size = 0 then (s, .code 0x0100)
  else if s.isSet F.BOB_RETIRED.POOL [d] then (s, .code 0x0229)
  else match l[s.freeVal % max 1 l.length]? with
    | some off => ({ s with pool := s.pool ++ [PoolBuf.mk d off size false] }.useFree).answerWith (le 4 off)
    | none => (s, .code 0x0303)

/-- POOL_RELEASE (R254). -/
def poolRelease (s : State) (off d : Nat) : State × Reply :=
  match s.pool.find? fun p => p.die == d && p.off == off with
  | none => (s, .code 0x0100)
  | some p =>
    if s.poolShown p then (s, .code 0x021E)
    else if s.poolLeaving p then
      ({ s with pool := s.pool.map fun (x : PoolBuf) => if x = p then { x with released := true } else x }, .deferred (poolUnit p))
    else ({ s with pool := s.pool.filter fun x => x != p }, .code 0)

/-- The AUX channel of an output cannot carry a transaction (R352, R356). -/
def auxDown (s : State) (d : Nat) : Bool := !s.isSet F.SCN_STATUS.HPD [d] || s.rd F.SCN_STATUS.LINK [d] == 3

/-- DPCD (R356): `data` is what the panel answers, none where the transaction fails. -/
def mbxDpcd (s : State) (data : Option (List Byte)) (d : Nat) : State × Reply :=
  if s.auxDown d then (s, .code 0x0207)
  else match data with
    | some bytes => s.answerWith (padTo 16 bytes)
    | none => (s, .code 0x0208)

-- Logic, intervals, comparators -----------------------------------------------------------------------------------

/-- TIM_EN (R276, R356). -/
def mbxTimEn (s : State) (h : MbxHdr) (u en d : Nat) : State × Reply :=
  let r := if en = 1 then s.requestTim d u (some (h, 0x0903)) else (s.requestTimStop d u, (⟨0, false⟩ : Verdict))
  (r.1, { verdictReply r.2 (8 * d + u) with results := if r.2.status = 0 then le 2 (r.1.rd F.TIM_STATUS.EN_CHECK [d, u]) else [] })

/-- TIM_READ (R286, R356): the head leaves the FIFO. -/
def mbxTimRead (s : State) (u d : Nat) : State × Reply :=
  (s.timPop d u, .ok (s.regBytes .TIM_STATUS [d, u] ++ wordBytes ((List.range 8).map fun w => s.rd F.TIM_RES.WORD [d, u, w])))

-- Energy, Skein, firmware -------------------------------------------------------------------------------------------

/-- ALLOWANCE_SET (R375, R382). -/
def mbxAllow (s : State) (policy cap budget : Nat) : State × Reply :=
  let r := s.setAllowance policy cap budget
  (r.1, ⟨0, [], r.2, 0, none⟩)

/-- LEDGER (R357, R376). -/
def ledgerBytes (s : State) : List Byte :=
  le 1 (s.rd F.HVS_ALLOW.POLICY []) ++ le 3 0 ++ wordBytes [s.rd F.HVS_CAP.MW [], s.rd F.HVS_BUDGET.MJ [], s.rd F.HVS_LEDGER.VALUE [0],
    s.rd F.HVS_LEDGER.VALUE [1], s.rd F.HVS_LEDGER.VALUE [2]]

/-- SKEIN_STATUS: the device's and its ports' status images (R357). -/
def skeinBytes (s : State) : List Byte := s.regBytes .SKN_STATUS [] ++ (List.range 5).flatMap fun p => s.regBytes .SKN_PORT_STATUS [p]

/-- SKEIN_MEASURE (R357, R412): an echo leaves a port that measures. -/
def mbxMeasure (s : State) (port ofs : Nat) : State × Reply :=
  if 0 < port ∧ port < 5 ∧ (s.portState port = 2 ∨ s.portState port = 3) then (s.echoSend port ofs, .accepted port false)
  else (s, .code 0x0100)

/-- FW_STATUS (R357). -/
def fwBytes (s : State) : List Byte :=
  le 1 (s.rd F.BOOT_STATUS.A_STATE []) ++ le 1 (s.rd F.BOOT_STATUS.B_STATE []) ++ le 1 (s.rd F.BOOT_STATUS.IMAGE [])
    ++ le 1 (s.rd F.BOOT_STATUS.NEXT []) ++ wordBytes [s.rd F.BOOT_IMG_VER.VERSION [0], s.rd F.BOOT_IMG_VER.VERSION [1]]

/-- FW_STAGE (R357, R450): bytes into the slot not running; offset 0 erases the slot first. -/
def fwStage (s : State) (offset length : Nat) (bytes : List Byte) : State × Reply :=
  let k := 1 - s.rd F.BOOT_STATUS.IMAGE []
  if 0x800000 < offset + length then (s, .code 0x0100)
  else
    let s := s.on (offset == 0) fun s => s.flashErase (imageBase k) 0x800000
    ((s.flashProgram (imageBase k + offset) (padTo length bytes)).wr I.fwJob [] 1, .accepted length false)

/-- FW_VERIFY (R357). -/
def fwVerify (s : State) : State × Reply := (s.wr I.fwJob [] 1, .accepted 0 false)

/-- FW_SELECT (R357, R451): the copy of the directory that is not in force is erased and written. -/
def fwSelect (s : State) (image : Nat) : State × Reply :=
  if 1 < image ∨ image = s.rd F.BOOT_STATUS.IMAGE [] then (s, .code 0x0100)
  else if s.rd (if image = 0 then F.BOOT_STATUS.A_STATE else F.BOOT_STATUS.B_STATE) [] ≠ 1 then (s, .code 0x0209)
  else
    let k := match s.dirInForce with
      | some k => 1 - k
      | none => 0
    let gen := match s.dirInForce with
      | some k => (s.dirGen k + 1) % 2 ^ 32
      | none => 1
    let head := le 4 0x4D564449 ++ le 1 image ++ le 3 0 ++ le 4 gen
    let s := (s.flashErase (4096 * k) 4096).flashProgram (4096 * k) (head ++ le 4 (crc32 (head.map (·.toNat))))
    ((s.wr F.BOOT_STATUS.NEXT [] image).wr F.BOOT_STATUS.DIR_DEFAULT [] 0, .code 0)

end State

end Sys2Proof.Machine
end

