-- ==== Sys2Proof/Machine/MbxBlocks.lean ====
section
/-!
DEFINITION. The meanings of the mailbox commands of the accumulation, display, logic, interval, comparator, energy, endurance, Skein,
service and firmware groups (R356, R357).
-/

namespace Sys2Proof.Machine

/-- ACC_SET_AVG (R356): FREEZE is kept. -/
def execAccSetAvg (h : MbxHdr) (ch ctrl count len start : Nat) (s : State) : Host.Outcome State Fault Refusal :=
  .next (s.mbxAtEnd h 0x0800 (.accSetAvg h ch ctrl count len start) kindC (chanConcern ch) (onRange (start < 2 ^ 41) (onChan ch fun s d c =>
    State.cfgReply [(.ACC_CTRL, ctrl), (.ACC_AVG_COUNT, count), (.ACC_AVG_LEN, len)]
      [fun s => State.writeAccCtrl d c (putBit ctrl 4 (s.isSet F.ACC_CTRL.FREEZE [d, c])) s,
        State.writeAccCfg d c [(F.ACC_AVG_COUNT.TARGET, count)], State.writeAccCfg d c [(F.ACC_AVG_LEN.LEN, len)],
        State.writeAccCfg d c [(F.ACC_AVG_START.START, start)]] s)))

/-- ACC_SET_HIST (R356). -/
def execAccSetHist (h : MbxHdr) (ch y decay period origin step excl : Nat) (s : State) : Host.Outcome State Fault Refusal :=
  .next (s.mbxAtEnd h 0x0801 (.accSetHist h ch y decay period origin step excl) kindC (chanConcern ch)
    (onRange (State.fits64 [(F.ACC_HIST_X_ORIGIN.ORIGIN, origin), (F.ACC_HIST_X_STEP.STEP, step)]) (onChan ch fun s d c =>
      State.cfgReply [(.ACC_HIST_Y, y), (.ACC_DECAY, decay), (.ACC_FRAME_PERIOD, period), (.ACC_EXCL, excl)]
        [State.writeReg d .ACC_HIST_Y [c] 0 y, State.writeReg d .ACC_DECAY [c] 0 decay, State.writeReg d .ACC_FRAME_PERIOD [c] 0 period,
          State.writeAccCfg d c [(F.ACC_HIST_X_ORIGIN.ORIGIN, origin)], State.writeAccCfg d c [(F.ACC_HIST_X_STEP.STEP, step)],
          State.writeReg d .ACC_EXCL [c] 0 excl] s)))

/-- ACC_CMD (R356): in Harvest's order of the core cycle (R378). -/
def execAccCmd (h : MbxHdr) (ch v freeze : Nat) (s : State) : Host.Outcome State Fault Refusal :=
  .next (s.mbxAtEnd h 0x0802 (.accCmd h ch v freeze) kindC (chanConcern ch) (onRange (v < 16 && freeze ≤ 2) (onChan ch fun s d c => s.mbxAccCmd h v freeze d c)))

/-- ACC_READ_AVG (R229). -/
def execAccReadAvg (h : MbxHdr) (ch size addr : Nat) (s : State) : Host.Outcome State Fault Refusal :=
  .next (s.mbx h 0x0803 kindQOff (chanConcern ch) (onChan ch fun s d c => s.readAvg size addr d c))

/-- ACC_READ_HIST (R235). -/
def execAccReadHist (h : MbxHdr) (ch addr : Nat) (s : State) : Host.Outcome State Fault Refusal :=
  .next (s.mbx h 0x0804 kindQOff (chanConcern ch) (onChan ch fun s d c => s.readHist addr d c))

/-- POOL_ALLOC (R356). -/
def execPoolAlloc (h : MbxHdr) (size : Nat) (s : State) : Host.Outcome State Fault Refusal :=
  .next (s.mbx h 0x0805 kindC .byField fun s d => s.poolAlloc size d)

/-- POOL_RELEASE (R254): a buffer's retirement in the same core cycle comes first. -/
def execPoolRelease (h : MbxHdr) (offset : Nat) (s : State) : Host.Outcome State Fault Refusal :=
  .next (s.mbxAtEnd h 0x0806 (.poolRelease h offset) kindC .byField fun s d => s.poolRelease offset d)

/-- DPCD (R356): `data` is what the panel answers. -/
def execDpcd (h : MbxHdr) (write len addr : Nat) (sent : List Byte) (data : Option (List Byte)) (s : State) :
    Host.Outcome State Fault Refusal :=
  .next (s.mbx h 0x0807 kindC .byField (onRange (write ≤ 1 && 1 ≤ len && len ≤ 16 && addr < 2 ^ 20 && sent.length == 16) fun s d =>
    s.mbxDpcd (data.map fun b => b.take len) d))

/-- EDID_READ (R356). -/
def execEdidRead (h : MbxHdr) (block addr : Nat) (s : State) : Host.Outcome State Fault Refusal :=
  .next (s.mbx h 0x0808 kindQOff .byField (onRange (block < 256) fun s d =>
    if s.auxDown d then (s, .code 0x0207) else (s, .accepted addr false)))

/-- DISP_STATUS (R356). -/
def execDispStatus (h : MbxHdr) (s : State) : Host.Outcome State Fault Refusal :=
  .next (s.mbx h 0x0809 kindQ .byField fun s d => s.answerWith (s.regBytes .SCN_STATUS [d] ++ s.regBytes .SCN_FRAME [d]
    ++ s.regBytes .FRW_STATUS [d] ++ s.regBytes .FRW_CRC [d]))

/-- LGC_SET (R265, R356). DESIGN CHOICE (log entry 149): i is 0 to 15 within the die that DIE names. -/
def execLgcSet (h : MbxHdr) (i v : Nat) (s : State) : Host.Outcome State Fault Refusal :=
  .next (s.mbxAtEnd h 0x0900 (.lgcSet h i v) kindC .byField (onRange (i < 16) fun s d => s.cfgRegs d [(.LGC_CH_CFG, [i], v)]))

/-- LGC_MASK (R272, R356). -/
def execLgcMask (h : MbxHdr) (v : Nat) (s : State) : Host.Outcome State Fault Refusal :=
  .next (s.mbx h 0x0901 kindC .byField fun s d => s.cfgRegs d [(.LGC_CTRL, [], v)])

/-- TIM_SET (R276, R356): EN must be 0, and is not written. -/
def execTimSet (h : MbxHdr) (u ctrl start stopSrc gate n : Nat) (s : State) : Host.Outcome State Fault Refusal :=
  .next (s.mbx h 0x0902 kindC .byField (onRange (u < 8 && !bitAt ctrl 0) fun s d =>
    State.cfgReply [(.TIM_CTRL, ctrl), (.TIM_START_SRC, start), (.TIM_STOP_SRC, stopSrc), (.TIM_GATE, gate), (.TIM_N, n)]
      [State.writeTimCtrl d u ctrl, State.writeReg d .TIM_START_SRC [u] 0 start, State.writeReg d .TIM_STOP_SRC [u] 0 stopSrc,
        State.writeReg d .TIM_GATE [u] 0 gate, State.writeReg d .TIM_N [u] 0 n] s))

/-- TIM_EN (R276, R356, R378). -/
def execTimEn (h : MbxHdr) (u en : Nat) (s : State) : Host.Outcome State Fault Refusal :=
  .next (s.mbxAtEnd h 0x0903 (.timEn h u en) kindC .byField (onRange (u < 8 && en ≤ 1) fun s d => s.mbxTimEn h u en d))

/-- TIM_READ (R286, R356). -/
def execTimRead (h : MbxHdr) (u : Nat) (s : State) : Host.Outcome State Fault Refusal :=
  .next (s.mbx h 0x0904 kindQ .byField (onRange (u < 8) fun s d => s.mbxTimRead u d))

/-- CMP_SET (R301, R356). -/
def execCmpSet (h : MbxHdr) (u ctrl thresh blank : Nat) (s : State) : Host.Outcome State Fault Refusal :=
  .next (s.mbx h 0x0905 kindC .byField (onRange (u < 12) fun s d =>
    s.cfgRegs d [(.CMP_CTRL, [u], ctrl), (.CMP_THRESH, [u], thresh), (.CMP_BLANK, [u], blank)]))

/-- CMP_STATUS (R356). -/
def execCmpStatus (h : MbxHdr) (u : Nat) (s : State) : Host.Outcome State Fault Refusal :=
  .next (s.mbx h 0x0906 kindQ .byField (onRange (u < 12) fun s d => s.answerWith (s.regBytes .CMP_STATUS [d, u]
    ++ s.regBytes .CMP_SPARE_MAP [d] ++ (List.range 4).flatMap fun w => s.regBytes .CMP_WIN [d, w])))

/-- ALLOWANCE_SET (R375, R382). -/
def execAllowanceSet (h : MbxHdr) (policy cap budget : Nat) (s : State) : Host.Outcome State Fault Refusal :=
  .next (s.mbx h 0x0A00 kindQ .package
    (onRange (policy ≤ 2 && 3000 ≤ cap && cap ≤ 165000 && 3000 ≤ budget && budget ≤ 165000) fun s _ => s.mbxAllow policy cap budget))

/-- LEDGER (R357, R376). -/
def execLedger (h : MbxHdr) (s : State) : Host.Outcome State Fault Refusal :=
  .next (s.mbx h 0x0A01 kindQ .package fun s _ => s.answerWith s.ledgerBytes)

/-- COST_READ (R357, R385). -/
def execCostRead (h : MbxHdr) (addr : Nat) (s : State) : Host.Outcome State Fault Refusal :=
  .next (s.mbx h 0x0A02 kindQ .package fun s _ =>
    (s.emit (.mem h.die addr ((List.range 64).flatMap fun n => le 16 (s.image .COST [n]))), .code 0))

/-- WEAR_READ (R357, R406). -/
def execWearRead (h : MbxHdr) (addr : Nat) (s : State) : Host.Outcome State Fault Refusal :=
  .next (s.mbx h 0x0B00 kindQ .package fun s _ => (s.emit (.mem h.die addr s.bobbinBytes), .code 0))

/-- RETHREAD (R378, R393). -/
def execRethread (h : MbxHdr) (unit : Nat) (s : State) : Host.Outcome State Fault Refusal :=
  .next (s.mbxAtEnd h 0x0B01 (.rethread h unit) kindC .byField fun s _ =>
    let r := s.rethread unit (some (h, 0x0B01))
    (r.1, State.verdictLong r.2 unit))

/-- MAINT_STATUS (R357). -/
def execMaintStatus (h : MbxHdr) (s : State) : Host.Outcome State Fault Refusal :=
  .next (s.mbx h 0x0B02 kindQ .byField fun s d => s.answerWith (s.regBytes .MNT_RUNNING [d] ++ s.regBytes .MNT_WAITING [d]))

/-- SKEIN_STATUS (R357). -/
def execSkeinStatus (h : MbxHdr) (s : State) : Host.Outcome State Fault Refusal :=
  .next (s.mbx h 0x0C00 kindQ .package fun s _ => s.answerWith s.skeinBytes)

/-- SKEIN_SET: the control registers in the order of their offsets (R357), after an arm of the same core cycle (R410). -/
def execSkeinSet (h : MbxHdr) (ctrl sel gseq holdoff : Nat) (s : State) : Host.Outcome State Fault Refusal :=
  .next (s.mbxAtEnd h 0x0C01 (.skeinSet h ctrl sel gseq holdoff) kindC .package fun s d =>
    s.cfgRegs d [(.SKN_CTRL, [], ctrl), (.SKN_TRIG_SEL, [], sel), (.SKN_GSEQ_CTRL, [], gseq), (.SKN_GSEQ_HOLDOFF, [], holdoff)])

/-- SKEIN_MEASURE (R357, R412): the echo leaves `ofs` into the block handled. -/
def execSkeinMeasure (h : MbxHdr) (port ofs : Nat) (s : State) : Host.Outcome State Fault Refusal :=
  .next (s.mbx h 0x0C02 kindC .package fun s _ => s.mbxMeasure port ofs)

/-- SKEIN_UNFENCE (R424). -/
def execSkeinUnfence (h : MbxHdr) (port : Nat) (s : State) : Host.Outcome State Fault Refusal :=
  .next (s.mbx h 0x0C03 kindC .package (onRange (port < 5) fun s _ => (s.unfence port, .code 0)))

/-- DIAG_SENSORS (R357): the eight sensors, then the hottest. -/
def execDiagSensors (h : MbxHdr) (s : State) : Host.Outcome State Fault Refusal :=
  .next (s.mbx h 0x0D00 kindQ .byField fun s d => s.answerWith ((List.range 9).flatMap fun k => le 2 (s.rd F.PWR_TEMP.TEMP [d, k])))

/-- SVC_STATE (R357). -/
def execSvcState (h : MbxHdr) (s : State) : Host.Outcome State Fault Refusal :=
  .next (s.mbx h 0x0D01 kindQ .package fun s _ => s.answerWith (le 1 (s.rd F.SVC_STATUS.LOCKED []) ++ le 1 (b2n (s.mode == .service))
    ++ le 2 0 ++ le 4 (baudRates.getD (s.rd F.SVC_STATUS.BAUD []) 0)))

/-- FW_STATUS (R357). -/
def execFwStatus (h : MbxHdr) (s : State) : Host.Outcome State Fault Refusal :=
  .next (s.mbx h 0x0E00 kindQ .package fun s _ => s.answerWith s.fwBytes)

/-- FW_STAGE: `bytes` are what the device reads by DMA (R357, R450). -/
def execFwStage (h : MbxHdr) (offset length : Nat) (bytes : List Byte) (s : State) : Host.Outcome State Fault Refusal :=
  .next (s.mbx h 0x0E01 kindC .package fun s _ => s.fwStage offset length bytes)

/-- FW_VERIFY (R357). -/
def execFwVerify (h : MbxHdr) (s : State) : Host.Outcome State Fault Refusal :=
  .next (s.mbx h 0x0E02 kindC .package fun s _ => s.fwVerify)

/-- FW_SELECT (R357, R451). -/
def execFwSelect (h : MbxHdr) (image : Nat) (s : State) : Host.Outcome State Fault Refusal :=
  .next (s.mbx h 0x0E03 kindC .package fun s _ => s.fwSelect image)

/-- FLASH_INFO (R357, R452). -/
def execFlashInfo (h : MbxHdr) (s : State) : Host.Outcome State Fault Refusal :=
  .next (s.mbx h 0x0E04 kindQ .package fun s _ => s.answerWith (le 4 (s.rd I.flashMbit []) ++ le 2 (s.rd I.sfdpRev [])))

end Sys2Proof.Machine
end

