-- ==== Sys2Proof/Machine/MbxSignal.lean ====
section
/-!
DEFINITION. The meanings of the mailbox commands of the conditioning, trigger, acquisition and library groups (R355, R358 to R361).
-/

namespace Sys2Proof.Machine

/-- EQ_SET (R355). -/
def execEqSet (h : MbxHdr) (ch v : Nat) (s : State) : Host.Outcome State Fault Refusal :=
  .next (s.mbxAtEnd h 0x0400 (.eqSet h ch v) kindC (chanConcern ch) (onChan ch fun s d c => s.cfgRegs d [(.EQ_CTRL, [c], v)]))

/-- EQ_LOAD: the 32 words read by DMA are written in ascending taps (R130, R350, R355). -/
def execEqLoad (h : MbxHdr) (ch bank : Nat) (words : List Nat) (s : State) : Host.Outcome State Fault Refusal :=
  .next (s.mbx h 0x0401 kindC (chanConcern ch) (onRange (bank ≤ 1) (onChan ch fun s d c =>
    State.cfgReply [] ((List.range 32).map fun k => State.writeEqCoef d c bank k (words.getD k 0)) s)))

/-- DEC_SET (R355): SWAP must be 0. -/
def execDecSet (h : MbxHdr) (ch ctrl ratio fir : Nat) (s : State) : Host.Outcome State Fault Refusal :=
  .next (s.mbxAtEnd h 0x0402 (.decSet h ch ctrl ratio fir) kindC (chanConcern ch) (onRange (!bitAt fir 5) (onChan ch fun s d c =>
    s.cfgRegs d [(.DEC_CTRL, [c], ctrl), (.DEC_RATIO, [c], ratio), (.FIR_CTRL, [c], fir)])))

/-- FIR_LOAD: the 256 words read by DMA are written in ascending taps (R136, R350, R355). -/
def execFirLoad (h : MbxHdr) (ch bank : Nat) (words : List Nat) (s : State) : Host.Outcome State Fault Refusal :=
  .next (s.mbx h 0x0403 kindC (chanConcern ch) (onRange (bank ≤ 1) (onChan ch fun s d c =>
    State.cfgReply [] ((List.range 256).map fun k => State.writeFirCoef d c bank k (words.getD k 0)) s)))

/-- FIR_SWAP (R137, R355). -/
def execFirSwap (h : MbxHdr) (ch bank : Nat) (s : State) : Host.Outcome State Fault Refusal :=
  .next (s.mbx h 0x0404 kindC (chanConcern ch) (onRange (bank ≤ 1) (onChan ch fun s d c =>
    let s := s.firRequest d c bank none
    s.answerWith (s.regBytes .FIR_STATUS [d, c]))))

/-- RSM_SET (R355): the control image, then the ratio as one 64-bit write. -/
def execRsmSet (h : MbxHdr) (ch v ratio : Nat) (s : State) : Host.Outcome State Fault Refusal :=
  .next (s.mbxAtEnd h 0x0405 (.rsmSet h ch v ratio) kindC (chanConcern ch) (onRange (ratio < 2 ^ 48) (onChan ch fun s d c =>
    State.cfgReply [(.RSM_CTRL, v)] [State.writeRsmCtrl d c v, State.writeRsmRatio d c ratio] s)))

/-- COND_STATUS (R355). -/
def execCondStatus (h : MbxHdr) (ch : Nat) (s : State) : Host.Outcome State Fault Refusal :=
  .next (s.mbx h 0x0406 kindQ (chanConcern ch) (onChan ch fun s d c => s.answerWith (s.regBytes .EQ_STATUS [d, c]
    ++ s.regBytes .DEC_STATUS [d, c] ++ s.regBytes .FIR_STATUS [d, c] ++ s.regBytes .RSM_STATUS [d, c])))

/-- LEVEL_SET (R152, R355). -/
def execLevelSet (h : MbxHdr) (ch n v : Nat) (s : State) : Host.Outcome State Fault Refusal :=
  .next (s.mbxAtEnd h 0x0500 (.levelSet h ch n v) kindC (chanConcern ch) (onRange (n < 4) (onChan ch fun s d c => s.cfgRegs d [(.TRG_LEVEL, [c, n], v)])))

/-- TERM_SET (R355): the configuration, T1 and T2 as one write each, the two patterns. -/
def execTermSet (h : MbxHdr) (t cfg t1 t2 ana log : Nat) (s : State) : Host.Outcome State Fault Refusal :=
  .next (s.mbxAtEnd h 0x0501 (.termSet h t cfg t1 t2 ana log) kindC .byField
    (onRange (t < 12 && State.fits64 [(F.TRG_TERM_T1.T1, t1), (F.TRG_TERM_T2.T2, t2)]) fun s d =>
      State.cfgReply [(.TRG_TERM_CFG, cfg), (.TRG_PAT_ANA, ana), (.TRG_PAT_LOG, log)]
        [fun s => State.writeTerm d t (s.termWord d t 0 cfg) s, State.writeTerm d t [(F.TRG_TERM_T1.T1, t1)],
          State.writeTerm d t [(F.TRG_TERM_T2.T2, t2)], State.writeTerm d t [(F.TRG_PAT_ANA.ELEM, ana)],
          State.writeTerm d t [(F.TRG_PAT_LOG.ELEM, log)]] s))

/-- SEQ_SET (R177, R355): the control, the 128 words of the table as read by DMA, the auto timeout, the hold-off. -/
def execSeqSet (h : MbxHdr) (q ctrl : Nat) (table : List Nat) (timeout holdoff : Nat) (s : State) : Host.Outcome State Fault Refusal :=
  .next (s.mbxAtEnd h 0x0502 (.seqSet h q ctrl table timeout holdoff) kindC .byField
    (onRange (q < 2 && State.fits64 [(F.TRG_AUTO_TIMEOUT.TICKS, timeout), (F.TRG_HOLDOFF.VALUE, holdoff)]) fun s d =>
      State.cfgReply [(.TRG_SEQ_CTRL, ctrl)]
        ([State.writeReg d .TRG_SEQ_CTRL [q] 0 ctrl]
          ++ ((List.range 128).map fun k => State.writeReg d .SEQ_STATE [q, k / 8] (k % 8) (table.getD k 0))
          ++ [State.writeSeq d q [(F.TRG_AUTO_TIMEOUT.TICKS, [d, q], timeout)], State.writeSeq d q [(F.TRG_HOLDOFF.VALUE, [d, q], holdoff)]]) s))

/-- CURVE_LOAD: the 1,024 words read by DMA are written in ascending order (R178, R355). -/
def execCurveLoad (h : MbxHdr) (ch e : Nat) (words : List Nat) (s : State) : Host.Outcome State Fault Refusal :=
  .next (s.mbxAtEnd h 0x0503 (.curveLoad h ch e words) kindC (chanConcern ch) (onRange (e ≤ 1) (onChan ch fun s d c =>
    State.cfgReply [] ((List.range 1024).map fun i => State.writeCurve d c e i (words.getD i 0)) s)))

/-- CH_ROUTE (R355). -/
def execChRoute (h : MbxHdr) (ch v : Nat) (s : State) : Host.Outcome State Fault Refusal :=
  .next (s.mbxAtEnd h 0x0504 (.chRoute h ch v) kindC (chanConcern ch) (onChan ch fun s d c => s.cfgRegs d [(.TRG_CH_CFG, [c], v)]))

/-- LOGIC_ROUTE (R355). -/
def execLogicRoute (h : MbxHdr) (v : Nat) (s : State) : Host.Outcome State Fault Refusal :=
  .next (s.mbxAtEnd h 0x0505 (.logicRoute h v) kindC .byField fun s d => s.cfgRegs d [(.TRG_CTRL, [], v)])

/-- FORCE: a write of TRG_FORCE (R169, R355). -/
def execForce (h : MbxHdr) (q : Nat) (s : State) : Host.Outcome State Fault Refusal :=
  .next (s.mbx h 0x0506 kindC .byField (onRange (q < 2) fun s d => (s.forceTrigger d q (4096 * s.blkOf d) false, .code 0)))

/-- TRIG_STATUS (R355). -/
def execTrigStatus (h : MbxHdr) (q : Nat) (s : State) : Host.Outcome State Fault Refusal :=
  .next (s.mbx h 0x0507 kindQ .byField (onRange (q < 2) fun s d =>
    s.answerWith (s.regBytes .TRG_SEQ_STATUS [d, q] ++ le 20 (s.image .TRG_LAST [d, q]))))

/-- ACQ_SET (R195, R355): the registers in the order of the group's text; SEG_EVT_EN is kept. -/
def execAcqSet (h : MbxHdr) (set disc wrap spill nseg segLen pre post spillMib dataQ markQ gapQ : Nat) (s : State) :
    Host.Outcome State Fault Refusal :=
  .next (s.mbxAtEnd h 0x0600 (.acqSet h set disc wrap spill nseg segLen pre post spillMib dataQ markQ gapQ) kindC (State.setConcern set)
    (onRange (disc ≤ 1 && wrap ≤ 1 && spill ≤ 1 && State.fits64 [(F.ACQ_NSEG.NSEG, nseg), (F.ACQ_SEG_LEN.LEN, segLen),
        (F.ACQ_PRE.PRE, pre), (F.ACQ_POST.POST, post), (F.ACQ_SPILL_BUF.MIB, spillMib), (F.STR_DATA_RING.QUEUE, dataQ),
        (F.STR_AUX_RINGS.MARK_Q, markQ), (F.STR_AUX_RINGS.GAP_Q, gapQ)]) (onSet set fun s d a =>
      State.cfgReply []
        [State.writeSet d a false [(F.ACQ_CTRL.DISC, disc), (F.ACQ_CTRL.WRAP, wrap), (F.ACQ_CTRL.SPILL, spill)],
          State.writeSet d a false [(F.ACQ_SEG_LEN.LEN, segLen)], State.writeSet d a false [(F.ACQ_NSEG.NSEG, nseg)],
          State.writeSet d a false [(F.ACQ_PRE.PRE, pre)], State.writeSet d a false [(F.ACQ_POST.POST, post)],
          State.writeSet d a false [(F.ACQ_SPILL_BUF.MIB, spillMib)], State.writeSet d a true [(F.STR_DATA_RING.QUEUE, dataQ)],
          State.writeSet d a true [(F.STR_AUX_RINGS.MARK_Q, markQ), (F.STR_AUX_RINGS.GAP_Q, gapQ)]] s)))

/-- STR_SET (R195, R355). -/
def execStrSet (h : MbxHdr) (set v : Nat) (s : State) : Host.Outcome State Fault Refusal :=
  .next (s.mbxAtEnd h 0x0601 (.strSet h set v) kindC (State.setConcern set) (onSet set fun s d a => s.cfgRegs d [(.STR_CTRL, [a], v)]))

/-- ARM (R194, R355, R378). -/
def execArm (h : MbxHdr) (set : Nat) (s : State) : Host.Outcome State Fault Refusal :=
  .next (s.mbxAtEnd h 0x0602 (.arm h set) kindC (State.setConcern set) (onSet set fun s d a =>
    let r := s.requestArm d a (4096 * s.nextBlk d) false (some (h, 0x0602))
    (r.1, State.verdictReply r.2 (3 * d + a))))

/-- STOP (R196, R355). -/
def execStop (h : MbxHdr) (set : Nat) (s : State) : Host.Outcome State Fault Refusal :=
  .next (s.mbx h 0x0603 kindC (State.setConcern set) (onSet set fun s d a => (s.requestStop d a (4096 * s.nextBlk d), .code 0)))

/-- ACQ_STATUS (R355). -/
def execAcqStatus (h : MbxHdr) (set : Nat) (s : State) : Host.Outcome State Fault Refusal :=
  .next (s.mbx h 0x0604 kindQ (State.setConcern set) (onSet set fun s d a => s.answerWith (s.regBytes .ACQ_STATUS [d, a]
    ++ s.regBytes .STR_STATUS [d, a] ++ le 8 (s.image .ACQ_SEG_COUNT [d, a]) ++ le 8 (s.image .STR_INDEX [d, a]))))

/-- MEM_STATUS (R355): of stack k. -/
def execMemStatus (h : MbxHdr) (k : Nat) (s : State) : Host.Outcome State Fault Refusal :=
  .next (s.mbx h 0x0605 kindQ .byField (onRange (k < 2) fun s d => s.answerWith (s.regBytes .MEM_STATUS [d, k]
    ++ s.regBytes .MEM_DEPTH [d, k] ++ s.regBytes .MEM_SCRUB_STATUS [d, k])))

/-- LIB_QUERY (R360). -/
def execLibQuery (h : MbxHdr) (set term mask value most lo hi addr : Nat) (s : State) : Host.Outcome State Fault Refusal :=
  .next (s.mbx h 0x0700 kindQOff (State.setConcern set) fun s d => s.libQuery h set term mask value most lo hi addr d)

/-- LIB_SEGMENT (R361). -/
def execLibSegment (h : MbxHdr) (set what dataQ seq : Nat) (s : State) : Host.Outcome State Fault Refusal :=
  .next (s.mbx h 0x0701 kindQOff (State.setConcern set) fun s d => s.libSegment h set what dataQ seq d)

/-- LIB_OVERVIEW (R361). -/
def execLibOverview (h : MbxHdr) (set dataQ points seq : Nat) (s : State) : Host.Outcome State Fault Refusal :=
  .next (s.mbx h 0x0702 kindQOff (State.setConcern set) fun s d => s.libOverview h set dataQ points seq d)

/-- LIB_SPAN (R361). -/
def execLibSpan (h : MbxHdr) (set dataQ lo hi : Nat) (s : State) : Host.Outcome State Fault Refusal :=
  .next (s.mbx h 0x0703 kindQOff (State.setConcern set) fun s d => s.libSpan h set dataQ lo hi d)

/-- LIB_STATUS (R359). -/
def execLibStatus (h : MbxHdr) (set : Nat) (s : State) : Host.Outcome State Fault Refusal :=
  .next (s.mbx h 0x0704 kindQOff (State.setConcern set) fun s d => s.libStatus set d)

end Sys2Proof.Machine
end

