-- ==== Sys2Proof/Machine/MbxSystem.lean ====
section
/-!
DEFINITION. The meanings of the mailbox commands of the system, time, converter and calibration groups (R353, R354).
-/

namespace Sys2Proof.Machine

/-- NOP (R353). -/
def execNop (h : MbxHdr) (s : State) : Host.Outcome State Fault Refusal := .next (s.mbx h 0x0000 kindQ .byField fun s _ => (s, .code 0))

/-- VERSION (R353). -/
def execVersion (h : MbxHdr) (s : State) : Host.Outcome State Fault Refusal :=
  .next (s.mbx h 0x0001 kindQ .byField fun s d => s.answerWith (s.versionBytes d))

/-- MODE_SET (R353, R370, R372, R378): of its modes only READY is carried out in VIGIL. -/
def execModeSet (h : MbxHdr) (mode : Nat) (s : State) : Host.Outcome State Fault Refusal :=
  .next (s.mbxAtEnd h 0x0002 (.modeSet h mode) ⟨true, true⟩ .package fun s _ => s.mbxMode h mode)

/-- MODE_GET (R353). -/
def execModeGet (h : MbxHdr) (s : State) : Host.Outcome State Fault Refusal :=
  .next (s.mbx h 0x0003 kindQ .package fun s _ => s.answerWith s.modeBytes)

/-- LONG_RESULT (R348, R353). -/
def execLongResult (h : MbxHdr) (tag : Nat) (s : State) : Host.Outcome State Fault Refusal :=
  .next (s.mbx h 0x0004 kindQ .byField fun s d => s.longResult d tag)

/-- ABORT (R353). -/
def execAbort (h : MbxHdr) (tag : Nat) (s : State) : Host.Outcome State Fault Refusal :=
  .next (s.mbx h 0x0005 kindC .byField fun s d => s.mbxAbort d tag)

/-- RING_RESET (R365). -/
def execRingReset (h : MbxHdr) (q : Nat) (s : State) : Host.Outcome State Fault Refusal :=
  .next (s.mbx h 0x0006 kindQ .byField fun s d => s.ringReset h q d)

/-- VLOG_READ (R353, R362). -/
def execVlogRead (h : MbxHdr) (first count addr : Nat) (s : State) : Host.Outcome State Fault Refusal :=
  .next (s.mbx h 0x0007 kindQ .byField (onRange (1 ≤ count && count ≤ 256) fun s d => s.vlogRead h first count addr d))

/-- DT_GET (R354). -/
def execDtGet (h : MbxHdr) (s : State) : Host.Outcome State Fault Refusal :=
  .next (s.mbx h 0x0100 kindQ .package fun s _ => s.answerWith (le 8 s.blk))

/-- REF_SET (R354). -/
def execRefSet (h : MbxHdr) (v : Nat) (s : State) : Host.Outcome State Fault Refusal :=
  .next (s.mbx h 0x0101 kindC .package fun s d => s.cfgRegs d [(.XTO_REF_CTRL, [], v)])

/-- REF_RESUME (R48, R354). -/
def execRefResume (h : MbxHdr) (resume : Nat) (s : State) : Host.Outcome State Fault Refusal :=
  .next (s.mbx h 0x0102 kindC .package (onRange (resume == 1 || resume == 2) fun s _ => State.answerCode (s.refResume resume)))

/-- REF_STATUS (R354). -/
def execRefStatus (h : MbxHdr) (s : State) : Host.Outcome State Fault Refusal :=
  .next (s.mbx h 0x0103 kindQ .package fun s _ => s.answerWith s.refStatus)

/-- SYN_SET (R354): RAMP_START and RAMP_ABORT must be 0. -/
def execSynSet (h : MbxHdr) (v : Nat) (s : State) : Host.Outcome State Fault Refusal :=
  .next (s.mbx h 0x0104 kindC .byField (onRange (slice v 1 2 == 0) fun s d => s.cfgRegs d [(.SYN_CTRL, [], v)]))

/-- RAMP (R60, R354): 0 start, 1 abort. -/
def execRamp (h : MbxHdr) (action : Nat) (s : State) : Host.Outcome State Fault Refusal :=
  .next (s.mbx h 0x0105 kindC .byField (onRange (action ≤ 1) fun s d =>
    State.answerCode (if action = 0 then s.rampStart d else (s.rampAbort d, 0))))

/-- CUE_SET (R66, R354). -/
def execCueSet (h : MbxHdr) (index action state target flags frac param ticks : Nat) (s : State) : Host.Outcome State Fault Refusal :=
  .next (s.mbx h 0x0106 kindC .byField (onRange (index < 256 && (state == 1 || state == 4)) fun s d =>
    s.cueSetAll index action state target flags frac param ticks d))

/-- AUX_SET (R354). -/
def execAuxSet (h : MbxHdr) (v : Nat) (s : State) : Host.Outcome State Fault Refusal :=
  .next (s.mbx h 0x0107 kindC .byField fun s d => s.cfgRegs d [(.AUX_CTRL, [], v)])

/-- CH_STATUS (R354). -/
def execChStatus (h : MbxHdr) (ch : Nat) (s : State) : Host.Outcome State Fault Refusal :=
  .next (s.mbx h 0x0200 kindQ (chanConcern ch) (onChan ch fun s d c =>
    s.answerWith (s.regBytes .CNV_STATUS [d, c] ++ s.regBytes .CNV_DIE_STATUS [d])))

/-- ATTEN_SET (R76, R354). -/
def execAttenSet (h : MbxHdr) (ch atten : Nat) (s : State) : Host.Outcome State Fault Refusal :=
  .next (s.mbx h 0x0201 kindC (chanConcern ch) (onRange (atten < 8) (onChan ch fun s d c =>
    State.cfgReply [] [State.writeAtten d c atten] s)))

/-- OVLD_EVT (R82, R354). -/
def execOvldEvt (h : MbxHdr) (ch enable : Nat) (s : State) : Host.Outcome State Fault Refusal :=
  .next (s.mbx h 0x0202 kindC (chanConcern ch) (onRange (enable ≤ 1) (onChan ch fun s d c =>
    State.cfgReply [] [fun s => (s.wr F.CNV_CTRL.OVLD_EVT_EN [d, c] enable, 0)] s)))

/-- SLICE_MAP (R354). -/
def execSliceMap (h : MbxHdr) (ch : Nat) (s : State) : Host.Outcome State Fault Refusal :=
  .next (s.mbx h 0x0203 kindQ (chanConcern ch) (onChan ch fun s d c =>
    s.answerWith ((List.range 8).flatMap fun g => s.regBytes .CNV_SLICE_MAP [d, c, g])))

/-- CARD_SET (R354). -/
def execCardSet (h : MbxHdr) (ch ctrl suff tol timeout : Nat) (s : State) : Host.Outcome State Fault Refusal :=
  .next (s.mbx h 0x0300 kindC (chanConcern ch) (onChan ch fun s d c =>
    s.cfgRegs d [(.CRD_CTRL, [c], ctrl), (.CRD_SUFF, [c], suff), (.CRD_TOL, [c], tol), (.CRD_TIMEOUT, [c], timeout)]))

/-- CARD_STATUS (R354). -/
def execCardStatus (h : MbxHdr) (ch : Nat) (s : State) : Host.Outcome State Fault Refusal :=
  .next (s.mbx h 0x0301 kindQ (chanConcern ch) (onChan ch fun s d c => s.answerWith (s.regBytes .CRD_STATUS [d, c])))

/-- COMB_START (R108, R354, R378). -/
def execCombStart (h : MbxHdr) (ch allow store : Nat) (s : State) : Host.Outcome State Fault Refusal :=
  .next (s.mbxAtEnd h 0x0302 (.combStart h ch allow store) kindC (chanConcern ch) (onRange (allow ≤ 1 && store ≤ 1) (onChan ch fun s d c =>
    let r := s.requestComb d c false (allow == 1) (store == 1) (some (h, 0x0302))
    (r.1, State.verdictLong r.2 (2 * d + c)))))

/-- STORE_WRITE (R117, R354, R378). -/
def execStoreWrite (h : MbxHdr) (s : State) : Host.Outcome State Fault Refusal :=
  .next (s.mbxAtEnd h 0x0303 (.storeWrite h) kindC .package fun s _ => s.mbxStore h)

/-- STORE_STATUS (R354). -/
def execStoreStatus (h : MbxHdr) (s : State) : Host.Outcome State Fault Refusal :=
  .next (s.mbx h 0x0304 kindQ .package fun s _ => s.answerWith (s.regBytes .CRD_STORE_STATUS [] ++ s.regBytes .CRD_STORE_GEN []))

/-- TRIM_READ (R354). -/
def execTrimRead (h : MbxHdr) (ch addr : Nat) (s : State) : Host.Outcome State Fault Refusal :=
  .next (s.mbx h 0x0305 kindQ (chanConcern ch) (onChan ch fun s d c => s.trimRead h addr d c))

end Sys2Proof.Machine
end

