-- ==== Sys2Proof/Machine/Power.lean ====
section
/-!
DEFINITION. The meanings of the commands of the operating modes, of Harvest, and of failover (R369 to R386, R401 to R403).
-/

namespace Sys2Proof.Machine

/-- MODE_TRANSITION_DONE (R36 to R38, R369): the transition takes effect. -/
def execModeTransitionDone (s : State) : Host.Outcome State Fault Refusal := .next s.modeDone

/-- VIGIL_WAKE_TIMER (R374). -/
def execVigilWakeTimer (s : State) : Host.Outcome State Fault Refusal := .next s.wakeTimer

/-- PCIE_LINK_L0 (R368, R374): the link of die `d` is in L0. -/
def execPcieLinkL0 (d : Nat) (s : State) : Host.Outcome State Fault Refusal := .next (s.linkUp d)

/-- HARVEST_PERIOD (R376, R377, R381 to R383), at the end of its core cycle, so that a withdrawal recognised in it prevails (R381): the draw in mW, the rails in mW and the temperatures in 0.0625 °C of each die, and the
cost table entries measured. -/
def execHarvestPeriod (draw : Nat) (rails : List (List Nat)) (temps : List (List Int)) (corrections : List (Nat × Nat)) (s : State) :
    Host.Outcome State Fault Refusal :=
  .next (s.atEnd true (.harvestPeriod draw rails temps corrections) fun s => s.harvestPeriod draw rails temps corrections)

/-- THERMAL_LIMIT_ENTER (R384): the hottest sensor, 0.0625 °C. -/
def execThermalLimitEnter (temp : Nat) (s : State) : Host.Outcome State Fault Refusal := .next (s.thermalEnter temp)

/-- THERMAL_LIMIT_CLEAR (R384): the sensor, 0.0625 °C. -/
def execThermalLimitClear (temp : Nat) (s : State) : Host.Outcome State Fault Refusal := .next (s.thermalClear temp)

/-- FAILOVER (R403). -/
def execFailover (s : State) : Host.Outcome State Fault Refusal := .next s.failover

end Sys2Proof.Machine
end

