-- ==== Sys2Proof/Machine/Queue.lean ====
section
/-!
DEFINITION. The meanings of the commands of queues, events, interrupts, Distaff cores and the mailbox engine (R303 to R351, R358, R363).
-/

namespace Sys2Proof.Machine

namespace State

/-- A device read of a ring entry or of an overlay layer fails (R255, R313): `why` is 0 error completion, 1 poisoned, 2 timeout. -/
def readFails (s : State) (d : Nat) (layer : Option Nat) (q why : Nat) : State :=
  match layer with
  | some l => s.fetchFault d l (why == 2)
  | none => s.queFault d q why

/-- A long command's own work ends (R348, R357): what it worked on decides its final status and results. `ok` tells whether the flash,
or the AUX channel, did its part and, for FW_VERIFY, whether digest and signature match; `bytes` are the EDID block. -/
def longEnds (s : State) (o : Outstanding) (ok : Bool) (bytes : List Byte) : State :=
  match o.done with
  | some r => s.finish o r.1 r.2
  | none =>
    let k := 1 - s.rd F.BOOT_STATUS.IMAGE []
    let idle (s : State) : State := s.wrBool I.fwJob [] (s.outstanding.any fun o => o.opcode == 0x0E01 || o.opcode == 0x0E02)
    if o.opcode = 0x0808 then
      if ok then (s.emit (.mem o.die o.unit (padTo 128 bytes))).finish o 0 [] else s.finish o 0x0208 []
    else if o.opcode = 0x0E01 then
      idle ((s.setImageState k 2).finish o (if ok then 0 else 0x0206) (le 4 (if ok then o.unit else 0)))
    else if o.opcode = 0x0E02 then
      let header := s.imageHeader k
      let valid := ok && headerOk header
      let s := s.setImageState k (if headerBlank header then 0 else if valid then 1 else 2)
      let s := s.wr F.BOOT_IMG_VER.VERSION [k] (if valid then headerField header 16 4 else 0)
      let s := s.on valid fun s => (s.wr I.imgVersion [k] (headerField header 16 4)).wr I.imgBuild [k] (headerField header 20 4)
      idle (s.finish o (if valid then 0 else 0x0209) [])
    else s

/-- The outstanding command of a tag, where its end is its own work's (R348). -/
def longComplete (s : State) (d tag : Nat) (ok : Bool) (bytes : List Byte) : State :=
  match s.outstanding.find? fun o => o.die == d && o.tag == tag && !o.converted && !o.deferred with
  | some o => s.longEnds o ok bytes
  | none => s

end State

/-- QUE_ENABLE: a write of QUE_CFG (R311). -/
def execQueEnable (d q v : Nat) (s : State) : Host.Outcome State Fault Refusal := .next (s.hostWrite d (State.writeQueCfg d q v))

/-- QUE_DISABLE: a write of QUE_CFG (R312). -/
def execQueDisable (d q v : Nat) (s : State) : Host.Outcome State Fault Refusal := .next (s.hostWrite d (State.writeQueCfg d q v))

/-- DOORBELL (R314 to R316, R325, R329). -/
def execDoorbell (d q v : Nat) (s : State) : Host.Outcome State Fault Refusal := .next (s.hostWrite d (State.doorbell d q v))

/-- CHUNK_DELIVERY: the descriptor at HEAD of data ring `q` as read, and the codewords that the cells give in error (R187, R207 to R211, R319, R320, R361). -/
def execChunkDelivery (d q : Nat) (desc : DataDesc) (words : List ReadWord) (s : State) : Host.Outcome State Fault Refusal :=
  .next (s.ringDeliver d q desc words)

/-- HOST_READ_COMPLETION: of an entry of ring `q`, or of an overlay layer; outcome 0 success, 1 UR or CA status, 2 poisoned (R255, R313). -/
def execHostReadCompletion (d : Nat) (layer : Option Nat) (q outcome : Nat) (s : State) : Host.Outcome State Fault Refusal :=
  .next (s.on (outcome != 0) fun s => s.readFails d layer q (outcome - 1))

/-- PCIE_COMPLETION_TIMEOUT (R255, R313). -/
def execPcieCompletionTimeout (d : Nat) (layer : Option Nat) (q : Nat) (s : State) : Host.Outcome State Fault Refusal :=
  .next (s.readFails d layer q 2)

/-- EVC_RAISE (R326). -/
def execEvcRaise (d v : Nat) (s : State) : Host.Outcome State Fault Refusal :=
  .next (s.hostWrite d fun s => s.raiseKind d 202 (trunc 32 v) .software)

/-- COALESCE_DEADLINE (R329, R330): a record of the same core cycle comes first. -/
def execCoalesceDeadline (d q : Nat) (s : State) : Host.Outcome State Fault Refusal :=
  .next (s.on (s.coalDue d q) fun s => s.atEnd (s.coalLands d q) (.coalesceDeadline d q) fun s => s.fire d q)

/-- QUE_IRQ_WRITE (R332). -/
def execQueIrqWrite (d q v : Nat) (s : State) : Host.Outcome State Fault Refusal := .next (s.hostWrite d fun s => s.nextBlockWrite (.queIrqWrite d q v) (State.writeQueIrq d q v))

/-- MSIX_UNMASK (R331): the function mask falls, or the vector control word of a vector takes a value. -/
def execMsixUnmask (d : Nat) (vector : Option Nat) (s : State) : Host.Outcome State Fault Refusal :=
  .next (s.hostWrite d fun s => match vector with
    | some v => (s.wr F.MSIX.MASKED [d, v] 0).msixSync d v
    | none => (s.wr I.msixFuncMask [d] 0).each (List.range 1024) fun s v => s.msixSync d v)

/-- EVC_ROUTE_WRITE (R321, R459). -/
def execEvcRouteWrite (d src v : Nat) (s : State) : Host.Outcome State Fault Refusal := .next (s.hostWrite d (State.writeRoute d src v))

/-- DISTAFF_ENTRY (R336, R337). -/
def execDistaffEntry (k : Nat) (s : State) : Host.Outcome State Fault Refusal := .next (s.coreEnter k)

/-- DISTAFF_EXIT (R338). -/
def execDistaffExit (k : Nat) (s : State) : Host.Outcome State Fault Refusal := .next (s.coreExit k)

/-- MBX_URG_GO: a write of MBX_URG_CTRL (R351). -/
def execMbxUrgGo (d v : Nat) (s : State) : Host.Outcome State Fault Refusal := .next (s.hostWrite d (State.urgentGo d v))

/-- ANSWER_DEADLINE (R346): of the command in progress of a source; an answer of the same core cycle comes first. -/
def execAnswerDeadline (d : Nat) (src : MbxSource) (s : State) : Host.Outcome State Fault Refusal :=
  match s.taken.find? fun t => t.die == d && t.src == src with
  | some t => .next (s.atEnd (s.elapsesNow t.takenAt 2500000) (.answerDeadline d src) fun s => s.convert t)
  | none => .next s

/-- LONG_COMMAND_COMPLETE (R348, R357). -/
def execLongCommandComplete (d tag : Nat) (ok : Bool) (bytes : List Byte) (s : State) : Host.Outcome State Fault Refusal :=
  .next (s.longComplete d tag ok bytes)

/-- LIB_DELIVERY_START (R358). -/
def execLibDeliveryStart (d : Nat) (s : State) : Host.Outcome State Fault Refusal := .next (s.libStart d)

/-- UNKNOWN_OPCODE_COMMAND: an unknown opcode, or a malformed layout (R340, R363). -/
def execUnknownOpcodeCommand (h : MbxHdr) (opcode : Nat) (malformed : Bool) (s : State) : Host.Outcome State Fault Refusal :=
  .next (s.mbxUnknown h opcode (if malformed then 0x0406 else 0x0400))

end Sys2Proof.Machine
end

