-- ==== Sys2Proof/Machine/Service.lean ====
section
/-!
DEFINITION. The meanings of the commands of the service port (R426 to R444).
-/

namespace Sys2Proof.Machine

/-- CONSOLE_LINE (R428, R430, R431): the characters of a line as they arrive. A line's command is a row of its own. -/
def execConsoleLine (chars : List Byte) (s : State) : Host.Outcome State Fault Refusal := .next (s.lineIn chars)

/-- CONSOLE_HELP (R430). -/
def execConsoleHelp (s : State) : Host.Outcome State Fault Refusal := .next (s.console true true fun s => s.consoleOk State.helpText)

/-- CONSOLE_VERSION (R430): the fields of the VERSION command, in hexadecimal. -/
def execConsoleVersion (s : State) : Host.Outcome State Fault Refusal :=
  .next (s.console true true fun s => s.consoleOk (ascii " " ++ (s.versionBytes s.control).flatMap fun b => hexPad 2 b.toNat))

/-- CONSOLE_STATUS (R430). -/
def execConsoleStatus (s : State) : Host.Outcome State Fault Refusal := .next (s.console true true fun s => s.consoleOk s.statusText)

/-- CONSOLE_SENSORS (R430). -/
def execConsoleSensors (s : State) : Host.Outcome State Fault Refusal := .next (s.console false true fun s => s.consoleOk s.sensorText)

/-- SERVICE_ENTER (R35, R430). -/
def execServiceEnter (force : Bool) (s : State) : Host.Outcome State Fault Refusal := .next (s.console false false fun s => s.serviceEnter force)

/-- SERVICE_EXIT (R35, R430). -/
def execServiceExit (s : State) : Host.Outcome State Fault Refusal := .next (s.console false false fun s => s.serviceExit)

/-- CONSOLE_WAKE (R374, R430). -/
def execConsoleWake (s : State) : Host.Outcome State Fault Refusal := .next (s.console false false fun s => (s.wake 3 0 0).consoleOk [])

/-- CONSOLE_TEST (R430, R433, R435, R436). -/
def execConsoleTest (n : Nat) (s : State) : Host.Outcome State Fault Refusal := .next (s.console true true fun s => s.consoleTest n)

/-- CONSOLE_TEST_READING (R430): the reading in mΩ. -/
def execConsoleTestReading (n milliohm : Nat) (s : State) : Host.Outcome State Fault Refusal :=
  .next (s.console true true fun s => s.consoleReading n milliohm)

/-- CONSOLE_ATB (R430, R433, R441): output, point and index. -/
def execConsoleAtb (a point index : Nat) (s : State) : Host.Outcome State Fault Refusal :=
  .next (s.console true (State.atbWhenLocked point) fun s => s.consoleAtb a point index)

/-- CONSOLE_ATB_OFF (R430, R441). -/
def execConsoleAtbOff (a : Nat) (s : State) : Host.Outcome State Fault Refusal :=
  .next (s.console true (State.atbWhenLocked 0xFF) fun s => s.consoleAtb a 0xFF 0)

/-- REFIT (R45, R430). -/
def execRefit (s : State) : Host.Outcome State Fault Refusal :=
  .next (s.console false false fun s =>
    let r := s.refitRequest
    if r.2 then r.1.consoleOk [] else r.1.consoleErr 0x0100)

/-- CONSOLE_BAUD (R430, R431). -/
def execConsoleBaud (rate : Nat) (s : State) : Host.Outcome State Fault Refusal := .next (s.console true true fun s => s.setBaud rate)

/-- CONSOLE_ECHO_ON (R430). -/
def execConsoleEchoOn (s : State) : Host.Outcome State Fault Refusal := .next (s.console true true fun s => (s.wr I.svcEcho [] 1).consoleOk [])

/-- CONSOLE_ECHO_OFF (R430). -/
def execConsoleEchoOff (s : State) : Host.Outcome State Fault Refusal := .next (s.console true true fun s => (s.wr I.svcEcho [] 0).consoleOk [])

/-- CONSOLE_UNLOCK (R434): without a response, or with one. -/
def execConsoleUnlock (response : Option Nat) (s : State) : Host.Outcome State Fault Refusal :=
  .next (s.console true true fun s => s.unlock response)

/-- CONSOLE_LOCK (R430, R433). -/
def execConsoleLock (s : State) : Host.Outcome State Fault Refusal := .next (s.console false true fun s => s.lockPort)

/-- CONSOLE_UNKNOWN_COMMAND (R430). -/
def execConsoleUnknownCommand (s : State) : Host.Outcome State Fault Refusal := .next (s.console true true fun s => s.consoleErr 0x0400)

/-- BAUD_FALLBACK (R431). -/
def execBaudFallback (s : State) : Host.Outcome State Fault Refusal := .next s.baudFallback

/-- UNLOCK_LOCKOUT_END (R434). -/
def execUnlockLockoutEnd (s : State) : Host.Outcome State Fault Refusal := .next s.lockoutEnd

/-- TEST_ADMISSION_TIMEOUT (R436). -/
def execTestAdmissionTimeout (s : State) : Host.Outcome State Fault Refusal := .next s.testAdmitTimeout

/-- TEST_COMPLETE (R437 to R440, R443, R444): result, locus and unit of a test whose outcome no register shows; the trims and results of
the tests within ST-240. -/
def execTestComplete (result locus unit : Nat) (taps : List (Nat × CombTap)) (subs : List (Nat × Nat × Nat × Nat)) (s : State) :
    Host.Outcome State Fault Refusal := .next (s.testComplete result locus unit taps subs)

/-- TEST_TIME_LIMIT (R437): a completion of the same core cycle stands. -/
def execTestTimeLimit (s : State) : Host.Outcome State Fault Refusal :=
  .next (s.on s.testPastLimit fun s => s.atEnd true .testTimeLimit fun s => s.testLimit)

/-- TEST_ABORT_CHAR (R439): a completion of the same core cycle stands, and the character is discarded. -/
def execTestAbortChar (s : State) : Host.Outcome State Fault Refusal :=
  .next (s.on s.testRuns fun s => s.atEnd true .testAbortChar fun s => s.testAbort)

/-- METER_READING (R440): µV, or an empty line. -/
def execMeterReading (reading : Option Int) (s : State) : Host.Outcome State Fault Refusal := .next (s.meterReading reading)

/-- METER_WAIT_TIMEOUT (R440). -/
def execMeterWaitTimeout (s : State) : Host.Outcome State Fault Refusal := .next s.meterTimeout

/-- SVC_ATB_WRITE (R442). -/
def execSvcAtbWrite (d v : Nat) (s : State) : Host.Outcome State Fault Refusal := .next (s.hostWrite d (State.writeAtb d v))

end Sys2Proof.Machine
end

