-- ==== Sys2Proof/Machine/Skein.lean ====
section
/-!
DEFINITION. The meanings of the Skein commands (R408 to R425). A frame is its 64 bytes; `ofs` is an instant in fraction units after
the first tick of the block handled.
-/

namespace Sys2Proof.Machine

/-- SKEIN_PORT_TRAINED (R415). -/
def execSkeinPortTrained (p : Nat) (s : State) : Host.Outcome State Fault Refusal := .next (s.portTrained p)

/-- JOIN_RECEIVE (R409, R415). -/
def execJoinReceive (p : Nat) (bytes : List Byte) (s : State) : Host.Outcome State Fault Refusal :=
  .next (s.frameIn p bytes fJoin fun s v => s.joinIn p v)

/-- JOIN_ACK_RECEIVE (R415). -/
def execJoinAckReceive (bytes : List Byte) (s : State) : Host.Outcome State Fault Refusal :=
  .next (s.frameIn 0 bytes fJoinAck fun s v => s.joinAck v)

/-- ECHO_REQ_SEND (R412): the departure. -/
def execEchoReqSend (p ofs : Nat) (s : State) : Host.Outcome State Fault Refusal := .next (s.echoDue p ofs)

/-- ECHO_REQ_RECEIVE (R412): the arrival, and the time until the reply departs. -/
def execEchoReqReceive (bytes : List Byte) (ofs turn : Nat) (s : State) : Host.Outcome State Fault Refusal :=
  .next (s.frameIn 0 bytes fEchoReq fun s v => s.echoReply v ofs turn)

/-- ECHO_RSP_RECEIVE (R412): the arrival. -/
def execEchoRspReceive (p : Nat) (bytes : List Byte) (ofs : Nat) (s : State) : Host.Outcome State Fault Refusal :=
  .next (s.frameIn p bytes fEchoRsp fun s v => s.echoIn p v ofs)

/-- ALIGN_SEND (R411, R412): the departure. -/
def execAlignSend (p ofs : Nat) (s : State) : Host.Outcome State Fault Refusal := .next (s.alignSend p ofs)

/-- ALIGN_RECEIVE (R412, R414): the arrival. -/
def execAlignReceive (bytes : List Byte) (ofs : Nat) (s : State) : Host.Outcome State Fault Refusal :=
  .next (s.frameIn 0 bytes fAlign fun s v => s.alignIn v ofs)

/-- ALIGN_TIMEOUT (R414). -/
def execAlignTimeout (s : State) : Host.Outcome State Fault Refusal := .next s.alignTimeout

/-- SUMMARY_RECEIVE (R419, R424). -/
def execSummaryReceive (p : Nat) (bytes : List Byte) (s : State) : Host.Outcome State Fault Refusal :=
  .next (s.frameIn p bytes fSummary fun s v => s.summaryIn p v)

/-- SUMMARY_SEND (R419): period `period`; a summary recognised in the core cycle of the sending time is taken first (R38). -/
def execSummarySend (period : Nat) (s : State) : Host.Outcome State Fault Refusal :=
  .next (s.atEnd (s.lands (s.summaryTime period)) (.summarySend period) fun s => s.summarySend period)

/-- GSEQ_EVALUATE (R420): after the summaries recognised in its core cycle (R38). -/
def execGseqEvaluate (period : Nat) (s : State) : Host.Outcome State Fault Refusal :=
  .next (s.atEnd (s.lands (dtAdd period 125440)) (.gseqEvaluate period) fun s => s.gseqEvaluate period)

/-- BROADCAST_SEND (R420, R422). -/
def execBroadcastSend (period : Nat) (s : State) : Host.Outcome State Fault Refusal := .next (s.broadcast period)

/-- TRIGGER_FRAME_RECEIVE (R421, R422). -/
def execTriggerFrameReceive (bytes : List Byte) (s : State) : Host.Outcome State Fault Refusal :=
  .next (s.frameIn 0 bytes fTrigger fun s v => s.broadcastIn v bytes fun s => s.takeTrigger v)

/-- IDLE_FRAME_RECEIVE (R421). -/
def execIdleFrameReceive (bytes : List Byte) (s : State) : Host.Outcome State Fault Refusal :=
  .next (s.frameIn 0 bytes fIdle fun s v => s.broadcastIn v bytes fun s => s)

/-- BROADCAST_DEADLINE (R415, R421): a frame recognised in its core cycle is taken first (R38). -/
def execBroadcastDeadline (period : Nat) (s : State) : Host.Outcome State Fault Refusal :=
  .next (s.atEnd (s.lands (s.broadcastTime period)) (.broadcastDeadline period) fun s => s.broadcastMissed period)

/-- NAK_RECEIVE (R423). -/
def execNakReceive (p : Nat) (bytes : List Byte) (s : State) : Host.Outcome State Fault Refusal :=
  .next (s.frameIn p bytes fNak fun s _ => s.flag F.SKN_PORT_STATUS.NAK_SEEN [p])

/-- SKEIN_SYNC_RECEIVE (R418). -/
def execSkeinSyncReceive (ofs : Nat) (s : State) : Host.Outcome State Fault Refusal := .next (s.syncIn ofs)

/-- SKN_GSEQ_RUN_WRITE: a write of SKN_GSEQ_CTRL (R410, R420). -/
def execSknGseqRunWrite (d v : Nat) (s : State) : Host.Outcome State Fault Refusal :=
  .next (s.packageWrite d fun s => (State.writeGseqCtrl v s).1)

/-- SKEIN_LANE_LOST (R415). -/
def execSkeinLaneLost (p : Nat) (s : State) : Host.Outcome State Fault Refusal := .next (s.skLaneLost p)

/-- SKEIN_ECHO_WAIT_TIMEOUT (R41): the reply is no longer awaited, unless it comes in this very cycle. -/
def execSkeinEchoWaitTimeout (p : Nat) (s : State) : Host.Outcome State Fault Refusal :=
  .next (s.atEnd true (.skeinEchoWaitTimeout p) fun s => s.echoTimeout p)

end Sys2Proof.Machine
end

