-- ==== Sys2Proof/Machine/TimeBase.lean ====
section
/-!
DEFINITION. The meanings of the commands of the crystal, the reference loop, SYN, AUX and the Calendar (R40, R43 to R71).
-/

namespace Sys2Proof.Machine

/-- OVEN_READY_TIMER (R43). -/
def execOvenReadyTimer (s : State) : Host.Outcome State Fault Refusal := .next s.ovenReady

/-- WARM_TIMER (R43). -/
def execWarmTimer (s : State) : Host.Outcome State Fault Refusal := .next s.warmUp

/-- PULL_DAC_UPDATE (R44): `edge` is the DT of a reference edge, as the mean of the last 10 ms, where one is measured. -/
def execPullDacUpdate (edge : Option Instant) (s : State) : Host.Outcome State Fault Refusal := .next (s.pullUpdate edge)

/-- OVEN_TIME_SAVE (R44, R117). -/
def execOvenTimeSave (s : State) : Host.Outcome State Fault Refusal := .next s.ovenSave

/-- AGEING_REFIT_GATE_END (R45): the measured offset, 0.01 ppb. -/
def execAgeingRefitGateEnd (offset : Int) (s : State) : Host.Outcome State Fault Refusal := .next (s.refitEnd offset)

/-- REF_QUALIFIED (R46 to R49): `edge` is the DT of a reference edge, as the mean of 10 ms. -/
def execRefQualified (edge : Instant) (s : State) : Host.Outcome State Fault Refusal := .next (s.refQualified edge)

/-- REF_LOST (R46, R48, R52): on a worker the port takes the place of the reference input (R414). -/
def execRefLost (s : State) : Host.Outcome State Fault Refusal := .next (s.on (!s.skWorker) fun s => s.refLost)

/-- THAW_LOCK_TIMER (R48). -/
def execThawLockTimer (s : State) : Host.Outcome State Fault Refusal := .next s.thawLock

/-- SLEW_DONE (R50). -/
def execSlewDone (edge : Instant) (s : State) : Host.Outcome State Fault Refusal := .next (s.slewDone edge)

/-- DT_STEP_APPLY (R51 to R53). -/
def execDtStepApply (s : State) : Host.Outcome State Fault Refusal := .next s.stepApply

/-- XTO_REF_CTRL_WRITE (R48, R49): through the endpoint of die `d`. -/
def execXtoRefCtrlWrite (d v : Nat) (s : State) : Host.Outcome State Fault Refusal :=
  .next (s.packageWrite d fun s => (State.writeRefCtrl v s).1)

/-- XTO_REF_RESUME_WRITE: the same register, with RESUME 1 or 2 (R48). -/
def execXtoRefResumeWrite (d v : Nat) (s : State) : Host.Outcome State Fault Refusal :=
  .next (s.packageWrite d fun s => (State.writeRefCtrl v s).1)

/-- SYN_LOCK_LOSS (R54, R56, R57). -/
def execSynLockLoss (d : Nat) (s : State) : Host.Outcome State Fault Refusal := .next (s.synLoss d)

/-- SYN_DRIFT_MEASURE (R56, R57): the drift in 1/1,024 ppm. -/
def execSynDriftMeasure (d : Nat) (drift : Int) (s : State) : Host.Outcome State Fault Refusal := .next (s.synDrift d drift)

/-- SYN_RELOCK (R58). -/
def execSynRelock (d : Nat) (s : State) : Host.Outcome State Fault Refusal := .next (s.synRelock d)

/-- SYN_LOCKED (R54, R58, R59). -/
def execSynLocked (d : Nat) (s : State) : Host.Outcome State Fault Refusal := .next (s.synLocked d)

/-- SYN_LOCK_ATTEMPT_FAIL (R402). -/
def execSynLockAttemptFail (d : Nat) (s : State) : Host.Outcome State Fault Refusal := .next (s.synFail d)

/-- SYN_MODE_WRITE: a write of SYN_CTRL (R59). -/
def execSynModeWrite (d v : Nat) (s : State) : Host.Outcome State Fault Refusal := .next (s.hostStatus d (State.writeSynCtrl d v))

/-- SYN_RAMP_START: a write of SYN_CTRL (R60, R63). -/
def execSynRampStart (d v : Nat) (s : State) : Host.Outcome State Fault Refusal := .next (s.hostStatus d (State.writeSynCtrl d v))

/-- SYN_RAMP_ABORT: a write of SYN_CTRL (R61). -/
def execSynRampAbort (d v : Nat) (s : State) : Host.Outcome State Fault Refusal := .next (s.hostStatus d (State.writeSynCtrl d v))

/-- RAMP_SEGMENT_END (R60, R61, R63): per channel, the spectral peaks in Hz at the ramp start and now, the strongest first. -/
def execRampSegmentEnd (d : Nat) (peaks : List (List (Nat × Nat))) (s : State) : Host.Outcome State Fault Refusal :=
  .next (s.rampSegment d peaks)

/-- AUX_LOSS_OF_LOCK (R65). -/
def execAuxLossOfLock (d : Nat) (s : State) : Host.Outcome State Fault Refusal := .next (s.auxLost d)

/-- AUX_COAST_END (R65, R374). -/
def execAuxCoastEnd (d : Nat) (s : State) : Host.Outcome State Fault Refusal := .next (s.auxCoastEnd d)

/-- AUX_RELOCK (R65). -/
def execAuxRelock (d : Nat) (s : State) : Host.Outcome State Fault Refusal := .next (s.auxLock d)

/-- CUE_ARM: a write of the word that holds STATE (R66). -/
def execCueArm (d n v : Nat) (s : State) : Host.Outcome State Fault Refusal := .next (s.hostWrite d (State.writeCueWord d n 2 v))

/-- CUE_CANCEL: a write of the same word (R66). -/
def execCueCancel (d n v : Nat) (s : State) : Host.Outcome State Fault Refusal := .next (s.hostWrite d (State.writeCueWord d n 2 v))

/-- CUE_EXECUTE (R67 to R70): after the register writes and mailbox commands of its core cycle (R140, R378). -/
def execCueExecute (d n : Nat) (s : State) : Host.Outcome State Fault Refusal :=
  .next (s.on (s.cueDue d n) fun s => s.atEnd true (.cueExecute d n) fun s => s.cueExecute d n)

/-- CLD_DT_SNAP (R40). -/
def execCldDtSnap (d v : Nat) (s : State) : Host.Outcome State Fault Refusal :=
  .next (s.hostWrite d fun s => s.on (bitAt v 0) fun s => s.wr F.CLD_DT_TICKS.TICKS [d] (s.blkOf d))

end Sys2Proof.Machine
end

