-- ==== Sys2Proof/Machine/Dispatch.lean ====
section
/-!
DEFINITION. One arm per command.
-/

namespace Sys2Proof.Machine

def exec (i : Instr) (s : State) : Host.Outcome State Fault Refusal :=
  match i with
  | .coldReset resetN => Sys2Proof.Machine.execColdReset resetN s
  | .brownOutDetect => Sys2Proof.Machine.execBrownOutDetect s
  | .bootCtrlWarmReset d v => Sys2Proof.Machine.execBootCtrlWarmReset d v s
  | .watchdogExpiry => Sys2Proof.Machine.execWatchdogExpiry s
  | .thermalReset temp => Sys2Proof.Machine.execThermalReset temp s
  | .thermalResetRelease hottest => Sys2Proof.Machine.execThermalResetRelease hottest s
  | .resetRelease mbit fast rev programmed => Sys2Proof.Machine.execResetRelease mbit fast rev programmed s
  | .selfCheckReport d pass => Sys2Proof.Machine.execSelfCheckReport d pass s
  | .selfCheckTimeout => Sys2Proof.Machine.execSelfCheckTimeout s
  | .imageLoadDone k digest => Sys2Proof.Machine.execImageLoadDone k digest s
  | .signatureCheckDone ok => Sys2Proof.Machine.execSignatureCheckDone ok s
  | .firmwareStart => Sys2Proof.Machine.execFirmwareStart s
  | .hbmTrainingDone lost pcs => Sys2Proof.Machine.execHbmTrainingDone lost pcs s
  | .bootReady => Sys2Proof.Machine.execBootReady s
  | .endpointReset d hot => Sys2Proof.Machine.execEndpointReset d hot s
  | .functionLevelReset d => Sys2Proof.Machine.execFunctionLevelReset d s
  | .modeTransitionDone => Sys2Proof.Machine.execModeTransitionDone s
  | .vigilWakeTimer => Sys2Proof.Machine.execVigilWakeTimer s
  | .ovenReadyTimer => Sys2Proof.Machine.execOvenReadyTimer s
  | .warmTimer => Sys2Proof.Machine.execWarmTimer s
  | .pullDacUpdate edge => Sys2Proof.Machine.execPullDacUpdate edge s
  | .ovenTimeSave => Sys2Proof.Machine.execOvenTimeSave s
  | .ageingRefitGateEnd offset => Sys2Proof.Machine.execAgeingRefitGateEnd offset s
  | .refQualified edge => Sys2Proof.Machine.execRefQualified edge s
  | .refLost => Sys2Proof.Machine.execRefLost s
  | .thawLockTimer => Sys2Proof.Machine.execThawLockTimer s
  | .slewDone edge => Sys2Proof.Machine.execSlewDone edge s
  | .dtStepApply => Sys2Proof.Machine.execDtStepApply s
  | .xtoRefCtrlWrite d v => Sys2Proof.Machine.execXtoRefCtrlWrite d v s
  | .xtoRefResumeWrite d v => Sys2Proof.Machine.execXtoRefResumeWrite d v s
  | .synLockLoss d => Sys2Proof.Machine.execSynLockLoss d s
  | .synDriftMeasure d drift => Sys2Proof.Machine.execSynDriftMeasure d drift s
  | .synRelock d => Sys2Proof.Machine.execSynRelock d s
  | .synLocked d => Sys2Proof.Machine.execSynLocked d s
  | .synModeWrite d v => Sys2Proof.Machine.execSynModeWrite d v s
  | .synRampStart d v => Sys2Proof.Machine.execSynRampStart d v s
  | .synRampAbort d v => Sys2Proof.Machine.execSynRampAbort d v s
  | .rampSegmentEnd d peaks => Sys2Proof.Machine.execRampSegmentEnd d peaks s
  | .auxLossOfLock d => Sys2Proof.Machine.execAuxLossOfLock d s
  | .auxCoastEnd d => Sys2Proof.Machine.execAuxCoastEnd d s
  | .auxRelock d => Sys2Proof.Machine.execAuxRelock d s
  | .cueArm d n v => Sys2Proof.Machine.execCueArm d n v s
  | .cueCancel d n v => Sys2Proof.Machine.execCueCancel d n v s
  | .cueExecute d n => Sys2Proof.Machine.execCueExecute d n s
  | .cldDtSnap d v => Sys2Proof.Machine.execCldDtSnap d v s
  | .attenWrite d c v => Sys2Proof.Machine.execAttenWrite d c v s
  | .attenSettled d c => Sys2Proof.Machine.execAttenSettled d c s
  | .overloadTrip d c lo x => Sys2Proof.Machine.execOverloadTrip d c lo x s
  | .overloadEpisodeEnd d c => Sys2Proof.Machine.execOverloadEpisodeEnd d c s
  | .cardIntervalClose d c blocks => Sys2Proof.Machine.execCardIntervalClose d c blocks s
  | .cardUpdateClaim d c slope => Sys2Proof.Machine.execCardUpdateClaim d c slope s
  | .cardStarved d c => Sys2Proof.Machine.execCardStarved d c s
  | .crdCombStart d c v => Sys2Proof.Machine.execCrdCombStart d c v s
  | .crdCombAbort d c v => Sys2Proof.Machine.execCrdCombAbort d c v s
  | .combPhaseEnd d c codes => Sys2Proof.Machine.execCombPhaseEnd d c codes s
  | .combDone d c => Sys2Proof.Machine.execCombDone d c s
  | .crdStoreWrite d v => Sys2Proof.Machine.execCrdStoreWrite d v s
  | .storeWriteStart => Sys2Proof.Machine.execStoreWriteStart s
  | .storeWriteComplete ok => Sys2Proof.Machine.execStoreWriteComplete ok s
  | .eqCtrlWrite d c v => Sys2Proof.Machine.execEqCtrlWrite d c v s
  | .eqCoefWrite d c b k v => Sys2Proof.Machine.execEqCoefWrite d c b k v s
  | .firCoefWrite d c b k v => Sys2Proof.Machine.execFirCoefWrite d c b k v s
  | .firCtrlSwap d c v => Sys2Proof.Machine.execFirCtrlSwap d c v s
  | .firFadeStart d c => Sys2Proof.Machine.execFirFadeStart d c s
  | .firFadeEnd d c => Sys2Proof.Machine.execFirFadeEnd d c s
  | .condConfigWrite d c r v => Sys2Proof.Machine.execCondConfigWrite d c r v s
  | .condSettled d c => Sys2Proof.Machine.execCondSettled d c s
  | .levelCrossing t xs => Sys2Proof.Machine.execLevelCrossing t xs s
  | .trgLevelWrite d c n v => Sys2Proof.Machine.execTrgLevelWrite d c n v s
  | .termConfigWrite d t w v => Sys2Proof.Machine.execTermConfigWrite d t w v s
  | .timeoutTermExpiry d t => Sys2Proof.Machine.execTimeoutTermExpiry d t s
  | .withinDeadline d q => Sys2Proof.Machine.execWithinDeadline d q s
  | .autoTriggerDeadline d q => Sys2Proof.Machine.execAutoTriggerDeadline d q s
  | .deadTimeEnd d q => Sys2Proof.Machine.execDeadTimeEnd d q s
  | .holdoffTimeExpiry d q => Sys2Proof.Machine.execHoldoffTimeExpiry d q s
  | .trgForceWrite d q v => Sys2Proof.Machine.execTrgForceWrite d q v s
  | .acqCmdArm d a v => Sys2Proof.Machine.execAcqCmdArm d a v s
  | .acqCmdStop d a v => Sys2Proof.Machine.execAcqCmdStop d a v s
  | .acqStopCycle d a => Sys2Proof.Machine.execAcqStopCycle d a s
  | .storedSampleCommit d a x => Sys2Proof.Machine.execStoredSampleCommit d a x s
  | .backpressureResume d a => Sys2Proof.Machine.execBackpressureResume d a s
  | .segmentRecordWrite d a => Sys2Proof.Machine.execSegmentRecordWrite d a s
  | .chunkFlushTimeout d a => Sys2Proof.Machine.execChunkFlushTimeout d a s
  | .chunkDelivery d q desc words => Sys2Proof.Machine.execChunkDelivery d q desc words s
  | .markWrite d a => Sys2Proof.Machine.execMarkWrite d a s
  | .gapRecordWrite d a => Sys2Proof.Machine.execGapRecordWrite d a s
  | .scrubGrant d h first n words => Sys2Proof.Machine.execScrubGrant d h first n words s
  | .remapHoldStart d h => Sys2Proof.Machine.execRemapHoldStart d h s
  | .remapHoldEnd d h => Sys2Proof.Machine.execRemapHoldEnd d h s
  | .bar2Read d off n words => Sys2Proof.Machine.execBar2Read d off n words s
  | .bar2Write d off bytes => Sys2Proof.Machine.execBar2Write d off bytes s
  | .accEntryTake d c words => Sys2Proof.Machine.execAccEntryTake d c words s
  | .accCommitDone d c => Sys2Proof.Machine.execAccCommitDone d c s
  | .accCmdStart d c => Sys2Proof.Machine.execAccCmdStart d c s
  | .accCmdStop d c => Sys2Proof.Machine.execAccCmdStop d c s
  | .accCmdRelease d c => Sys2Proof.Machine.execAccCmdRelease d c s
  | .accCmdClearHist d c => Sys2Proof.Machine.execAccCmdClearHist d c s
  | .accDecayBoundary d c => Sys2Proof.Machine.execAccDecayBoundary d c s
  | .vblankStart words => Sys2Proof.Machine.execVblankStart s words
  | .scnTimApply d v => Sys2Proof.Machine.execScnTimApply d v s
  | .scnOvlFlip d l v => Sys2Proof.Machine.execScnOvlFlip d l v s
  | .lineUnderrun d l => Sys2Proof.Machine.execLineUnderrun d l s
  | .linkTrainingDone d attempt => Sys2Proof.Machine.execLinkTrainingDone d attempt s
  | .hpdChange d level => Sys2Proof.Machine.execHpdChange d level s
  | .hpdIrq d lost => Sys2Proof.Machine.execHpdIrq d lost s
  | .logicInputChange d t balls refs edges => Sys2Proof.Machine.execLogicInputChange d t balls refs edges s
  | .logicHoldoffEnd d ch t pins => Sys2Proof.Machine.execLogicHoldoffEnd d ch t pins s
  | .logicModeWrite d ch v => Sys2Proof.Machine.execLogicModeWrite d ch v s
  | .logicThreshWrite d ch v => Sys2Proof.Machine.execLogicThreshWrite d ch v s
  | .timCtrlEnable d u v => Sys2Proof.Machine.execTimCtrlEnable d u v s
  | .timCtrlDisable d u v => Sys2Proof.Machine.execTimCtrlDisable d u v s
  | .timEventProcess d u => Sys2Proof.Machine.execTimEventProcess d u s
  | .timGateEnd d u => Sys2Proof.Machine.execTimGateEnd d u s
  | .timCueWrite d u e w v => Sys2Proof.Machine.execTimCueWrite d u e w v s
  | .timCueFire d u e => Sys2Proof.Machine.execTimCueFire d u e s
  | .timResRead d u => Sys2Proof.Machine.execTimResRead d u s
  | .comparatorTransition d u at_ v => Sys2Proof.Machine.execComparatorTransition d u at_ v s
  | .cmpSettlingEnd d u => Sys2Proof.Machine.execCmpSettlingEnd d u s
  | .blankTimerPulse d k t => Sys2Proof.Machine.execBlankTimerPulse d k t s
  | .blankWindowClose d u => Sys2Proof.Machine.execBlankWindowClose d u s
  | .cmpCtrlWrite d u w v => Sys2Proof.Machine.execCmpCtrlWrite d u w v s
  | .cmpSpareSwap d u agrees => Sys2Proof.Machine.execCmpSpareSwap d u agrees s
  | .queEnable d q v => Sys2Proof.Machine.execQueEnable d q v s
  | .queDisable d q v => Sys2Proof.Machine.execQueDisable d q v s
  | .doorbell d q v => Sys2Proof.Machine.execDoorbell d q v s
  | .hostReadCompletion d layer q outcome => Sys2Proof.Machine.execHostReadCompletion d layer q outcome s
  | .evcRaise d v => Sys2Proof.Machine.execEvcRaise d v s
  | .coalesceDeadline d q => Sys2Proof.Machine.execCoalesceDeadline d q s
  | .queIrqWrite d q v => Sys2Proof.Machine.execQueIrqWrite d q v s
  | .msixUnmask d vector => Sys2Proof.Machine.execMsixUnmask d vector s
  | .evcRouteWrite d src v => Sys2Proof.Machine.execEvcRouteWrite d src v s
  | .distaffEntry k => Sys2Proof.Machine.execDistaffEntry k s
  | .distaffExit k => Sys2Proof.Machine.execDistaffExit k s
  | .mbxUrgGo d v => Sys2Proof.Machine.execMbxUrgGo d v s
  | .answerDeadline d src => Sys2Proof.Machine.execAnswerDeadline d src s
  | .longCommandComplete d tag ok bytes => Sys2Proof.Machine.execLongCommandComplete d tag ok bytes s
  | .libDeliveryStart d => Sys2Proof.Machine.execLibDeliveryStart d s
  | .unknownOpcodeCommand h opcode malformed => Sys2Proof.Machine.execUnknownOpcodeCommand h opcode malformed s
  | .nop h => Sys2Proof.Machine.execNop h s
  | .version h => Sys2Proof.Machine.execVersion h s
  | .modeSet h mode => Sys2Proof.Machine.execModeSet h mode s
  | .modeGet h => Sys2Proof.Machine.execModeGet h s
  | .longResult h tag => Sys2Proof.Machine.execLongResult h tag s
  | .abort h tag => Sys2Proof.Machine.execAbort h tag s
  | .ringReset h q => Sys2Proof.Machine.execRingReset h q s
  | .vlogRead h first count addr => Sys2Proof.Machine.execVlogRead h first count addr s
  | .dtGet h => Sys2Proof.Machine.execDtGet h s
  | .refSet h v => Sys2Proof.Machine.execRefSet h v s
  | .refResume h resume => Sys2Proof.Machine.execRefResume h resume s
  | .refStatus h => Sys2Proof.Machine.execRefStatus h s
  | .synSet h v => Sys2Proof.Machine.execSynSet h v s
  | .ramp h action => Sys2Proof.Machine.execRamp h action s
  | .cueSet h index action state target flags frac param ticks => Sys2Proof.Machine.execCueSet h index action state target flags frac param ticks s
  | .auxSet h v => Sys2Proof.Machine.execAuxSet h v s
  | .chStatus h ch => Sys2Proof.Machine.execChStatus h ch s
  | .attenSet h ch atten => Sys2Proof.Machine.execAttenSet h ch atten s
  | .ovldEvt h ch enable => Sys2Proof.Machine.execOvldEvt h ch enable s
  | .sliceMap h ch => Sys2Proof.Machine.execSliceMap h ch s
  | .cardSet h ch ctrl suff tol timeout => Sys2Proof.Machine.execCardSet h ch ctrl suff tol timeout s
  | .cardStatus h ch => Sys2Proof.Machine.execCardStatus h ch s
  | .combStart h ch allow store => Sys2Proof.Machine.execCombStart h ch allow store s
  | .storeWrite h => Sys2Proof.Machine.execStoreWrite h s
  | .storeStatus h => Sys2Proof.Machine.execStoreStatus h s
  | .trimRead h ch addr => Sys2Proof.Machine.execTrimRead h ch addr s
  | .eqSet h ch v => Sys2Proof.Machine.execEqSet h ch v s
  | .eqLoad h ch bank words => Sys2Proof.Machine.execEqLoad h ch bank words s
  | .decSet h ch ctrl ratio fir => Sys2Proof.Machine.execDecSet h ch ctrl ratio fir s
  | .firLoad h ch bank words => Sys2Proof.Machine.execFirLoad h ch bank words s
  | .firSwap h ch bank => Sys2Proof.Machine.execFirSwap h ch bank s
  | .rsmSet h ch v ratio => Sys2Proof.Machine.execRsmSet h ch v ratio s
  | .condStatus h ch => Sys2Proof.Machine.execCondStatus h ch s
  | .levelSet h ch n v => Sys2Proof.Machine.execLevelSet h ch n v s
  | .termSet h t cfg t1 t2 ana log => Sys2Proof.Machine.execTermSet h t cfg t1 t2 ana log s
  | .seqSet h q ctrl table timeout holdoff => Sys2Proof.Machine.execSeqSet h q ctrl table timeout holdoff s
  | .curveLoad h ch e words => Sys2Proof.Machine.execCurveLoad h ch e words s
  | .chRoute h ch v => Sys2Proof.Machine.execChRoute h ch v s
  | .logicRoute h v => Sys2Proof.Machine.execLogicRoute h v s
  | .force h q => Sys2Proof.Machine.execForce h q s
  | .trigStatus h q => Sys2Proof.Machine.execTrigStatus h q s
  | .acqSet h set disc wrap spill nseg segLen pre post spillMib dataQ markQ gapQ => Sys2Proof.Machine.execAcqSet h set disc wrap spill nseg segLen pre post spillMib dataQ markQ gapQ s
  | .strSet h set v => Sys2Proof.Machine.execStrSet h set v s
  | .arm h set => Sys2Proof.Machine.execArm h set s
  | .stop h set => Sys2Proof.Machine.execStop h set s
  | .acqStatus h set => Sys2Proof.Machine.execAcqStatus h set s
  | .memStatus h k => Sys2Proof.Machine.execMemStatus h k s
  | .libQuery h set term mask value most lo hi addr => Sys2Proof.Machine.execLibQuery h set term mask value most lo hi addr s
  | .libSegment h set what dataQ seq => Sys2Proof.Machine.execLibSegment h set what dataQ seq s
  | .libOverview h set dataQ points seq => Sys2Proof.Machine.execLibOverview h set dataQ points seq s
  | .libSpan h set dataQ lo hi => Sys2Proof.Machine.execLibSpan h set dataQ lo hi s
  | .libStatus h set => Sys2Proof.Machine.execLibStatus h set s
  | .accSetAvg h ch ctrl count len start => Sys2Proof.Machine.execAccSetAvg h ch ctrl count len start s
  | .accSetHist h ch y decay period origin step excl => Sys2Proof.Machine.execAccSetHist h ch y decay period origin step excl s
  | .accCmd h ch v freeze => Sys2Proof.Machine.execAccCmd h ch v freeze s
  | .accReadAvg h ch size addr => Sys2Proof.Machine.execAccReadAvg h ch size addr s
  | .accReadHist h ch addr => Sys2Proof.Machine.execAccReadHist h ch addr s
  | .poolAlloc h size => Sys2Proof.Machine.execPoolAlloc h size s
  | .poolRelease h offset => Sys2Proof.Machine.execPoolRelease h offset s
  | .dpcd h write len addr sent data => Sys2Proof.Machine.execDpcd h write len addr sent data s
  | .edidRead h block addr => Sys2Proof.Machine.execEdidRead h block addr s
  | .dispStatus h => Sys2Proof.Machine.execDispStatus h s
  | .lgcSet h ch v => Sys2Proof.Machine.execLgcSet h ch v s
  | .lgcMask h v => Sys2Proof.Machine.execLgcMask h v s
  | .timSet h u ctrl start stopSrc gate n => Sys2Proof.Machine.execTimSet h u ctrl start stopSrc gate n s
  | .timEn h u en => Sys2Proof.Machine.execTimEn h u en s
  | .timRead h u => Sys2Proof.Machine.execTimRead h u s
  | .cmpSet h u ctrl thresh blank => Sys2Proof.Machine.execCmpSet h u ctrl thresh blank s
  | .cmpStatus h u => Sys2Proof.Machine.execCmpStatus h u s
  | .allowanceSet h policy cap budget => Sys2Proof.Machine.execAllowanceSet h policy cap budget s
  | .ledger h => Sys2Proof.Machine.execLedger h s
  | .costRead h addr => Sys2Proof.Machine.execCostRead h addr s
  | .wearRead h addr => Sys2Proof.Machine.execWearRead h addr s
  | .rethread h unit => Sys2Proof.Machine.execRethread h unit s
  | .maintStatus h => Sys2Proof.Machine.execMaintStatus h s
  | .skeinStatus h => Sys2Proof.Machine.execSkeinStatus h s
  | .skeinSet h ctrl sel gseq holdoff => Sys2Proof.Machine.execSkeinSet h ctrl sel gseq holdoff s
  | .skeinMeasure h port ofs => Sys2Proof.Machine.execSkeinMeasure h port ofs s
  | .skeinUnfence h port => Sys2Proof.Machine.execSkeinUnfence h port s
  | .diagSensors h => Sys2Proof.Machine.execDiagSensors h s
  | .svcState h => Sys2Proof.Machine.execSvcState h s
  | .fwStatus h => Sys2Proof.Machine.execFwStatus h s
  | .fwStage h offset length bytes => Sys2Proof.Machine.execFwStage h offset length bytes s
  | .fwVerify h => Sys2Proof.Machine.execFwVerify h s
  | .fwSelect h image => Sys2Proof.Machine.execFwSelect h image s
  | .flashInfo h => Sys2Proof.Machine.execFlashInfo h s
  | .harvestPeriod draw rails temps corrections => Sys2Proof.Machine.execHarvestPeriod draw rails temps corrections s
  | .thermalLimitEnter temp => Sys2Proof.Machine.execThermalLimitEnter temp s
  | .thermalLimitClear temp => Sys2Proof.Machine.execThermalLimitClear temp s
  | .unitWorn u cause => Sys2Proof.Machine.execUnitWorn u cause s
  | .unitLost u cause => Sys2Proof.Machine.execUnitLost u cause s
  | .maintClaimGrant => Sys2Proof.Machine.execMaintClaimGrant s
  | .rethreadSetup d => Sys2Proof.Machine.execRethreadSetup d s
  | .rethreadSwap d => Sys2Proof.Machine.execRethreadSwap d s
  | .pcCopyDone d h => Sys2Proof.Machine.execPcCopyDone d h s
  | .pcRemap d h => Sys2Proof.Machine.execPcRemap d h s
  | .spliceLaneCheck d l => Sys2Proof.Machine.execSpliceLaneCheck d l s
  | .spliceLaneLoss d l => Sys2Proof.Machine.execSpliceLaneLoss d l s
  | .comparatorDailyCheck d u steps switches => Sys2Proof.Machine.execComparatorDailyCheck d u steps switches s
  | .retirement u => Sys2Proof.Machine.execRetirement u s
  | .failover => Sys2Proof.Machine.execFailover s
  | .skeinPortTrained p => Sys2Proof.Machine.execSkeinPortTrained p s
  | .joinReceive p bytes => Sys2Proof.Machine.execJoinReceive p bytes s
  | .joinAckReceive bytes => Sys2Proof.Machine.execJoinAckReceive bytes s
  | .echoReqSend p ofs => Sys2Proof.Machine.execEchoReqSend p ofs s
  | .echoReqReceive bytes ofs turn => Sys2Proof.Machine.execEchoReqReceive bytes ofs turn s
  | .echoRspReceive p bytes ofs => Sys2Proof.Machine.execEchoRspReceive p bytes ofs s
  | .alignSend p ofs => Sys2Proof.Machine.execAlignSend p ofs s
  | .alignReceive bytes ofs => Sys2Proof.Machine.execAlignReceive bytes ofs s
  | .alignTimeout => Sys2Proof.Machine.execAlignTimeout s
  | .summaryReceive p bytes => Sys2Proof.Machine.execSummaryReceive p bytes s
  | .summarySend period => Sys2Proof.Machine.execSummarySend period s
  | .gseqEvaluate period => Sys2Proof.Machine.execGseqEvaluate period s
  | .broadcastSend period => Sys2Proof.Machine.execBroadcastSend period s
  | .triggerFrameReceive bytes => Sys2Proof.Machine.execTriggerFrameReceive bytes s
  | .idleFrameReceive bytes => Sys2Proof.Machine.execIdleFrameReceive bytes s
  | .broadcastDeadline period => Sys2Proof.Machine.execBroadcastDeadline period s
  | .nakReceive p bytes => Sys2Proof.Machine.execNakReceive p bytes s
  | .skeinSyncReceive ofs => Sys2Proof.Machine.execSkeinSyncReceive ofs s
  | .sknGseqRunWrite d v => Sys2Proof.Machine.execSknGseqRunWrite d v s
  | .consoleLine chars => Sys2Proof.Machine.execConsoleLine chars s
  | .consoleHelp => Sys2Proof.Machine.execConsoleHelp s
  | .consoleVersion => Sys2Proof.Machine.execConsoleVersion s
  | .consoleStatus => Sys2Proof.Machine.execConsoleStatus s
  | .consoleSensors => Sys2Proof.Machine.execConsoleSensors s
  | .serviceEnter force => Sys2Proof.Machine.execServiceEnter force s
  | .serviceExit => Sys2Proof.Machine.execServiceExit s
  | .consoleWake => Sys2Proof.Machine.execConsoleWake s
  | .consoleTest n => Sys2Proof.Machine.execConsoleTest n s
  | .consoleTestReading n milliohm => Sys2Proof.Machine.execConsoleTestReading n milliohm s
  | .consoleAtb a point index => Sys2Proof.Machine.execConsoleAtb a point index s
  | .consoleAtbOff a => Sys2Proof.Machine.execConsoleAtbOff a s
  | .refit => Sys2Proof.Machine.execRefit s
  | .consoleBaud rate => Sys2Proof.Machine.execConsoleBaud rate s
  | .consoleEchoOn => Sys2Proof.Machine.execConsoleEchoOn s
  | .consoleEchoOff => Sys2Proof.Machine.execConsoleEchoOff s
  | .consoleUnlock response => Sys2Proof.Machine.execConsoleUnlock response s
  | .consoleLock => Sys2Proof.Machine.execConsoleLock s
  | .consoleUnknownCommand => Sys2Proof.Machine.execConsoleUnknownCommand s
  | .baudFallback => Sys2Proof.Machine.execBaudFallback s
  | .unlockLockoutEnd => Sys2Proof.Machine.execUnlockLockoutEnd s
  | .testAdmissionTimeout => Sys2Proof.Machine.execTestAdmissionTimeout s
  | .testComplete result locus unit taps subs => Sys2Proof.Machine.execTestComplete result locus unit taps subs s
  | .testTimeLimit => Sys2Proof.Machine.execTestTimeLimit s
  | .testAbortChar => Sys2Proof.Machine.execTestAbortChar s
  | .meterReading reading => Sys2Proof.Machine.execMeterReading reading s
  | .meterWaitTimeout => Sys2Proof.Machine.execMeterWaitTimeout s
  | .svcAtbWrite d v => Sys2Proof.Machine.execSvcAtbWrite d v s
  | .registerWrite d off size v => Sys2Proof.Machine.execRegisterWrite d off size v s
  | .pcieCompletionTimeout d layer q => Sys2Proof.Machine.execPcieCompletionTimeout d layer q s
  | .skeinLaneLost p => Sys2Proof.Machine.execSkeinLaneLost p s
  | .spliceLaneRetrainDone d l margin => Sys2Proof.Machine.execSpliceLaneRetrainDone d l margin s
  | .synLockAttemptFail d => Sys2Proof.Machine.execSynLockAttemptFail d s
  | .lcEscape d => Sys2Proof.Machine.execLcEscape d s
  | .pcieLinkL0 d => Sys2Proof.Machine.execPcieLinkL0 d s
  | .skeinEchoWaitTimeout p => Sys2Proof.Machine.execSkeinEchoWaitTimeout p s
  | .sramCopyDone d => Sys2Proof.Machine.execSramCopyDone d s
  | .tapReset => Sys2Proof.Machine.execTapReset s
  | .tapInstructionLoad d code => Sys2Proof.Machine.execTapInstructionLoad d code s

end Sys2Proof.Machine
end

