-- ==== Sys2Proof/Machine/CycleOps.lean ====
section
/-!
DEFINITION. One core cycle: the trigger engines handle their block, what waits for the end of the cycle acts, and time passes (R30, R38 to
R41, R140, R193).
-/

namespace Sys2Proof.Machine

/-- Where a moment stands among those that wait for the end of a cycle: the swap of a cue after that of a register, and the last output of a fade
after both (R140); a release of an overlay buffer after a frame that begins (R254); a new interrupt target or mask after every delivery of the cycle (R328, R332). -/
def lateRank : Instr → Nat
  | .cueExecute _ _ => 1
  | .firFadeEnd _ _ => 2
  | .vblankStart _ => 3
  | .queIrqWrite .. => 5
  | .registerWrite _ off _ _ => match regAt off with
    | some (r, _, _) => if r = .QUE_IRQ ∨ r = .EVC_MASK then 5 else 0
    | none => 0
  | .poolRelease _ _ => 4
  | _ => 0

namespace State

/-- A waiting moment acts. -/
def runBooked (s : State) (c : Instr) : State :=
  match exec c s with
  | .next t => t
  | .fault _ => s
  | .refused _ => s

/-- Requests that Harvest decides before the engines take their block: mailbox commands, then cues, then the deferred queues (R378, R381). A cue that
swaps an FIR bank comes later (R140). -/
def asksHarvest (s : State) : Instr → Bool
  | .cueExecute d n => !s.cueSwaps d n
  | .harvestPeriod .. => true
  | .modeSet .. => true
  | .combStart .. => true
  | .storeWrite .. => true
  | .arm .. => true
  | .accCmd .. => true
  | .timEn .. => true
  | .rethread .. => true
  | _ => false

/-- Where such a request stands among those of its core cycle (R378). -/
def askRank : Instr → Nat
  | .cueExecute .. => 1
  | .harvestPeriod .. => 2
  | _ => 0

/-- What the inputs do comes before the engines take their block, and after the register writes of the cycle (R298, R301). -/
def beforeEngines : Instr → Bool
  | .comparatorTransition .. => true
  | .overloadTrip .. => true
  | _ => false

/-- Moments that waited act. -/
def runAll (s : State) (l : List Instr) : State := { { s with closing := true }.each l runBooked with closing := false }

/-- The core cycle ends: comparators see their inputs, Harvest decides what waited for it, the engines take their block, then every other moment
that waited acts. -/
def endCycle (s : State) : State :=
  let s := { s with booked := s.booked.filter fun c => !beforeEngines c }.runAll (s.booked.filter beforeEngines)
  let asks := (s.booked.filter s.asksHarvest).mergeSort fun a b => decide (askRank a ≤ askRank b)
  let s := { s with booked := s.booked.filter fun c => !s.asksHarvest c }.runAll asks
  let s := s.engineCycle.flushHeld
  { s with booked := [] }.runAll (s.booked.mergeSort fun a b => decide (lateRank a ≤ lateRank b))

/-- What a core cycle brings the calibration of a channel: the tap moves of cycle 128, the ladder steps of EDGE, the last block of a
service test (R85, R103, R109). -/
def calTick (s : State) : State := s.each [(0, 0), (0, 1), (1, 0), (1, 1)] fun s p => ((s.cardMoves p.1 p.2).combEdges p.1 p.2).calTail p.1 p.2

/-- What a core cycle brings the accumulation engines (R225). -/
def accTicks (s : State) : State := s.each [(0, 0), (0, 1), (1, 0), (1, 1)] fun s p => s.accTick p.1 p.2

/-- What a core cycle brings the rethreadings (R395). -/
def swapTicks (s : State) : State := s.each [0, 1] swapTick

/-- One core cycle passes. -/
def cycle (s : State) : State := (s.endCycle.calTick.swapTicks.flushHeld.tick).runNextActs.condTick.engineTick.accTicks

end State

end Sys2Proof.Machine
end

