-- ==== Sys2Proof/Safety.lean ====
section
/-!
DEFINITION. What a sound state is, and what it means that a command leaves something alone.
-/

namespace Sys2Proof.Machine

/-- The bytes of memory stand in their one canonical form: addresses rise strictly and no byte that an unlisted address reads as is
listed. -/
def Memory.wf (m : List Host.Cell) : Bool := sparseOrdered natLt m && m.all (fun e => e.2 != 0)

/-- The bytes of the boot flash stand in their canonical form: offsets rise strictly and no erased byte is listed. -/
def Flash.wf (m : List Host.Cell) : Bool := sparseOrdered natLt m && m.all (fun e => e.2 != 255)

/-- The forms the state keeps: registers and memory canonical, the flash lists no byte that reads 0xFF, and as many sets, units, engines and
layers as the device has. -/
structure State.Sound (s : State) : Prop where
  regs : s.regs.wf = true
  mem : Memory.wf s.mem = true
  acq : s.acq.length = 6
  tims : s.tims.length = 16
  acc : s.acc.length = 4
  layers : s.layers.length = 6
  flash : Flash.wf s.flash = true

/-- The parts of the state beside the registers, the waiting commands and the count of free values. -/
inductive Part where
  | mode | control | now | dt | dtPrev | mem | misread | heldWrites | acq | tims | timHeld | acc | layers | pool | summaries
  | library | deliveries | out | ringRecs | taken | outstanding | kept | violations | coreReqs | fwRecords | committed | periodDraws
  | deratedAt | deferred | running | waiting | bobbin | retiring | flash | snapshot | cardErrs | tapMoves | combFits | fades
  | counted | arrivals | spans | fresh | heldRecs | nextActs | booked | closing
  deriving DecidableEq, Repr

/-- A part of the state is the same in two states; of memory, every byte reads the same. -/
def Part.same (p : Part) (s t : State) : Prop :=
  match p with
  | .mode => t.mode = s.mode
  | .control => t.control = s.control
  | .now => t.now = s.now
  | .dt => t.dt = s.dt
  | .dtPrev => t.dtPrev = s.dtPrev
  | .mem => ∀ a, t.memGet a = s.memGet a
  | .misread => t.misread = s.misread
  | .heldWrites => t.heldWrites = s.heldWrites
  | .acq => t.acq = s.acq
  | .tims => t.tims = s.tims
  | .timHeld => t.timHeld = s.timHeld
  | .acc => t.acc = s.acc
  | .layers => t.layers = s.layers
  | .pool => t.pool = s.pool
  | .summaries => t.summaries = s.summaries
  | .library => t.library = s.library
  | .deliveries => t.deliveries = s.deliveries
  | .out => t.out = s.out
  | .ringRecs => t.ringRecs = s.ringRecs
  | .taken => t.taken = s.taken
  | .outstanding => t.outstanding = s.outstanding
  | .kept => t.kept = s.kept
  | .violations => t.violations = s.violations
  | .coreReqs => t.coreReqs = s.coreReqs
  | .fwRecords => t.fwRecords = s.fwRecords
  | .committed => t.committed = s.committed
  | .periodDraws => t.periodDraws = s.periodDraws
  | .deratedAt => t.deratedAt = s.deratedAt
  | .deferred => t.deferred = s.deferred
  | .running => t.running = s.running
  | .waiting => t.waiting = s.waiting
  | .bobbin => t.bobbin = s.bobbin
  | .retiring => t.retiring = s.retiring
  | .flash => t.flash = s.flash
  | .snapshot => t.snapshot = s.snapshot
  | .cardErrs => t.cardErrs = s.cardErrs
  | .tapMoves => t.tapMoves = s.tapMoves
  | .combFits => t.combFits = s.combFits
  | .fades => t.fades = s.fades
  | .counted => t.counted = s.counted
  | .arrivals => t.arrivals = s.arrivals
  | .spans => t.spans = s.spans
  | .fresh => t.fresh = s.fresh
  | .heldRecs => t.heldRecs = s.heldRecs
  | .nextActs => t.nextActs = s.nextActs
  | .booked => t.booked = s.booked
  | .closing => t.closing = s.closing

/-- From `s` to `t` no register changes but those of the groups `rs`, no part of the state but those of the groups `ps`, and no
waiting command. -/
structure Frame (rs : List (List Reg)) (ps : List (List Part)) (s t : State) : Prop where
  regs : ∀ k : RegKey, k.reg ∉ rs.flatten → t.regs.get k = s.regs.get k
  parts : ∀ p : Part, p ∉ ps.flatten → p.same s t
  pending : t.pending = s.pending

/-- The pending bit of source `src` of die `d` is set (R321). -/
def State.pends (s : State) (d src : Nat) : Bool := bitAt (s.rd F.EVC_PEND.PEND [d, src / 32]) (src % 32)

/-- The command answers a next state, and `P` holds of it. -/
def Completes (c : Instr) (s : State) (P : State → Prop) : Prop := ∃ t, exec c s = .next t ∧ P t

/-- The command waits for the end of its core cycle (R38, R41); there it answers a next state, and `P` holds of it. What the cycle does with
the commands that wait is `State.cycle`. -/
def CompletesAtEnd (c : Instr) (s : State) (P : State → Prop) : Prop :=
  (s.closing = false → Completes c s fun t => t = s.book c) ∧ (s.closing = true → Completes c s P)

/-- The mailbox command is taken at once and carried out as its core cycle ends, after an arm of the cycle (R41, R176, R350): there it answers
a next state, and `P` holds of it. -/
def CommandAtEnd (c : Instr) (h : MbxHdr) (opcode : Nat) (s : State) (P : State → Prop) : Prop :=
  (s.closing = false → Completes c s fun t => t = (s.take h opcode).1.book c) ∧ (s.closing = true → Completes c s P)

/-- The mailbox commands that are carried out as their core cycle ends: header and opcode. -/
def lateCommand : Instr → Option (MbxHdr × Nat)
  | .modeSet h _ => some (h, 0x0002)
  | .combStart h _ _ _ => some (h, 0x0302)
  | .storeWrite h => some (h, 0x0303)
  | .eqSet h _ _ => some (h, 0x0400)
  | .decSet h _ _ _ _ => some (h, 0x0402)
  | .rsmSet h _ _ _ => some (h, 0x0405)
  | .levelSet h _ _ _ => some (h, 0x0500)
  | .termSet h _ _ _ _ _ _ => some (h, 0x0501)
  | .seqSet h _ _ _ _ _ => some (h, 0x0502)
  | .curveLoad h _ _ _ => some (h, 0x0503)
  | .chRoute h _ _ => some (h, 0x0504)
  | .logicRoute h _ => some (h, 0x0505)
  | .acqSet h _ _ _ _ _ _ _ _ _ _ _ _ => some (h, 0x0600)
  | .strSet h _ _ => some (h, 0x0601)
  | .arm h _ => some (h, 0x0602)
  | .accSetAvg h _ _ _ _ _ => some (h, 0x0800)
  | .accSetHist h _ _ _ _ _ _ _ => some (h, 0x0801)
  | .accCmd h _ _ _ => some (h, 0x0802)
  | .poolRelease h _ => some (h, 0x0806)
  | .lgcSet h _ _ => some (h, 0x0900)
  | .timEn h _ _ => some (h, 0x0903)
  | .rethread h _ => some (h, 0x0B01)
  | .skeinSet h _ _ _ _ => some (h, 0x0C01)
  | _ => none

/-- The hold-off of the input an event came in on, in fraction units (R277). -/
def State.timHoldoff (s : State) (v : TimEvent) : Nat :=
  4096 * max 128 (s.rd (if v.e = 0 then F.TIM_START_SRC.HOLDOFF else F.TIM_STOP_SRC.HOLDOFF) [v.die, v.u])

/-- `v` is the one event held, its unit may process it now and is not being disabled, and the hold-off of its input is over (R274, R277). -/
def State.takesOne (s : State) (v : TimEvent) : Prop :=
  v.die < 2 ∧ v.u < 8 ∧ v.e < 2 ∧ s.timHeld = [v] ∧ s.timReady v = true ∧ (s.timOf v.die v.u).stopping = none ∧
    ((s.timOf v.die v.u).fifo.length < 32 ∨ s.closing = true) ∧
    ∀ l, (if v.e = 0 then (s.timOf v.die v.u).lastStart else (s.timOf v.die v.u).lastStop) = some l → s.timHoldoff v ≤ instSub v.dt l

/-- An interval in fraction units as a result reports it (R280). -/
def spanValue (x : Int) (step : Nat) : Int := if x.natAbs < step then 0 else satInt 64 x

/-- A violation of a code is in the log of a die, against a queue, and MBX_VIOLATION is pending (R362). -/
def State.logged (s t : State) (d code queue : Nat) : Prop :=
  t.rd F.MBX_VLOG.WORD [d, s.rd F.MBX_VLOG_NEXT.NEXT [d], 2] = (code + 2 ^ 16 * queue) % 2 ^ 32 ∧ t.pends d 219 = true

/-- The engine can take the command now, and carries it out at once: its tag is free and it names no die (R345 to R349). -/
def State.takesFresh (s : State) (h : MbxHdr) : Prop :=
  s.canTake h = true ∧ s.tagOutstanding h.die h.tag = false ∧ h.takeOnly = false ∧ h.dieField = 0

/-- The command is no longer in progress, and one of the urgent mailbox has its response: opcode, tag, status and results (R342, R351). -/
def State.answered (t : State) (h : MbxHdr) (opcode status : Nat) (results : List Byte) : Prop :=
  (∀ x ∈ t.taken, x.die = h.die → x.src = h.src → x.tag ≠ h.tag) ∧
  (h.src = .urgent → t.rd F.MBX_URG_STATUS.BUSY [h.die] = 0 ∧ t.rd F.MBX_URG_STATUS.DONE [h.die] = 1 ∧
    t.rd F.MBX_URG_RSP.WORD [h.die, 0] = opcode % 2 ^ 16 + 2 ^ 16 * (h.tag % 2 ^ 16) ∧
    t.rd F.MBX_URG_RSP.WORD [h.die, 1] % 2 ^ 16 = status % 2 ^ 16 ∧
    (∀ j : Nat, j < 12 → t.rd F.MBX_URG_RSP.WORD [h.die, 4 + j] = ofLe (((padTo 48 (results.take 47)).drop (4 * j)).take 4)) ∧
    t.pends h.die 218 = true)

/-- The engine can take the command now, in a mode in which every kind of command is carried out (R347, R372). -/
def State.takesNow (s : State) (h : MbxHdr) : Prop := s.takesFresh h ∧ (s.mode = .ready ∨ s.mode.acquires = true)

/-- Another long command can be accepted on the die (R348). -/
def State.hasRoom (s : State) (d : Nat) : Prop := (s.outstanding.filter fun o => o.die == d && !o.late).length < 256

-- Groups of registers and parts ----------------------------------------------------------------------------------

/-- The registers that an arm of a set may change beside those of events, Harvest and the end of a set (R193 to R196, R176). -/
def Reg.ofArm : List Reg :=
  [.DEC_STATUS, .ACQ_SEG_COUNT, .STR_INDEX, .STR_MARK_SEQ, .i_toutOrg, .i_toutOn, .i_seqEntry, .i_seqCount, .i_seqFrom, .i_autoOrigin,
   .i_seqEntryBlk, .i_holdTimed, .i_holdLeft, .i_runLate, .i_runCoin, .i_runTaken, .i_runOther, .i_trigTotal, .i_libArmed, .i_libStepped]

/-- The registers that an admission decision of Harvest may change beside those of events (R376 to R381). -/
def Reg.ofHarvest : List Reg :=
  [.CRD_STATUS, .ACC_RATE_CAP, .CMP_STATUS, .HVS_SHARE, .HVS_STATUS, .HVS_REFUSE_COUNT, .HVS_DEFER_COUNT, .MNT_RUNNING, .MNT_WAITING,
   .MNT_GROUP, .i_cardSuspended, .i_cardSuff, .i_starveLeft, .i_cmpSettleDt]

/-- The parts of the state that an admission decision of Harvest may change beside those of events (R376 to R381). -/
def Part.ofHarvest : List Part :=
  [.committed, .deratedAt, .deferred, .running, .waiting, .cardErrs, .tapMoves]

/-- The registers that the end of an armed set may change beside those of events (R195, R198 to R212). -/
def Reg.ofSets : List Reg :=
  [.TRG_SEQ_STATUS, .ACQ_STATUS, .ACQ_OPEN_SLOT, .STR_STATUS, .STR_FILL, .STR_GAP_SEQ, .i_gapLogIdx, .i_swapDone]

/-- The parts of the state that the end of an armed set may change beside those of events (R195, R198 to R212). -/
def Part.ofSets : List Part :=
  [.mem, .heldWrites, .acq, .library]

/-- The registers that taking and answering a mailbox command may change beside those of events (R336 to R350, R362 to R364). -/
def Reg.ofMailbox : List Reg :=
  [.MBX_URG_RSP, .MBX_URG_STATUS, .MBX_STATUS, .MBX_VLOG_NEXT, .MBX_VLOG_TOTAL, .MBX_RING_STAT, .MBX_VLOG, .i_mbxTook, .i_mbxTurn]

/-- The parts of the state that taking and answering a mailbox command may change beside those of events (R336 to R350, R362 to R364). -/
def Part.ofMailbox : List Part :=
  [.taken, .outstanding, .kept, .violations, .nextActs]

/-- The registers that raising events and putting records into rings may change (R307, R321 to R330). -/
def Reg.ofEvents : List Reg :=
  [.QUE_STATUS, .QUE_PTR, .QUE_LOST, .EVC_PEND, .MSIX_PBA, .i_raiseCount, .i_lastPayload, .i_levelHeld, .i_levelHeldFw, .i_ovfBefore,
   .i_coalCount, .i_coalDeadline, .i_coalTimed, .i_coreAsleep, .i_heldOn, .i_heldTicks, .i_coreWoke, .i_firedAt]

/-- The parts of the state that raising events and putting records into rings may change (R307, R321 to R330). -/
def Part.ofEvents : List Part :=
  [.out, .ringRecs, .coreReqs, .fwRecords, .fresh, .heldRecs]

end Sys2Proof.Machine
end

