-- ==== Sys2Proof/Certificates/Slice0/Obligations.lean ====
section
/-!
DEFINITION. The statements for the provers.
-/

open Sys2Proof Sys2Proof.Machine

/-- A step runs the command in front of the queue on the rest. For every command and every state: a step of the state with that command put in
front of its waiting commands is exec of the command on the state itself, whose waiting commands are the rest. Rests on 01_architecture,
95_what_each_step_holds. -/
def Obligations.StepRunsFront : Prop :=
  ∀ (c : Instr) (s : State), step { s with pending := c :: s.pending } = exec c s

/-- With no command waiting, a step passes one core cycle: what waited for its end acts, and time goes on. In every state with no waiting
command a step answers the state after one core cycle. Where nothing of the machine's own is under way (no moment waits for the end of the
cycle, no acquiring mode, no sample clock that runs apart from DT, no rethreading before its swap, no interval before its tap moves, no
edge phase, no end of test blocks, no change of the equaliser, no fade, no acquisition being read and no histogram pass), the time since
power-on has grown by the 128 ticks of a core cycle (by 1,600 in VIGIL), device time by as much but not in HOLD, and the device time of
the step before is kept; every register, every byte of memory and every other part but the notes of the cycle itself is as before. One
moment that waits acts as the cycle ends, with every other note of the cycle taken. That an empty queue passes a cycle is the model's
choice (DESIGN CHOICE, assumption log entry 2). Rests on 02_time_base, 01_architecture, R15, R38, R41. -/
def Obligations.IdleStepPassesOneCycle : Prop :=
  (∀ s : State, s.pending = [] → step s = .next s.cycle) ∧
    (∀ s : State, s.pending = [] → s.mode.acquires = false → s.booked = [] → s.heldRecs = [] → s.nextActs = [] →
      (∀ d : Nat, d < 2 → (s.offGrid d = false ∨ s.mode = .hold ∨ s.mode = .vigil) ∧
        (unitKind (s.rd F.BOB_ACTIVE.UNIT [d]) ≠ 1 ∨ s.rtPhase d ≠ 4 ∧ s.rtPhase d ≠ 5) ∧
        ∀ c : Nat, c < 2 → s.rd I.cardSuff [d, c] ≠ 3 ∧ s.combState d c ≠ 4 ∧ s.rd I.calOpen [d, c] = 0 ∧
          s.rd F.EQ_STATUS.ACTIVE_BANK [d, c] = s.rd F.EQ_CTRL.BANK [d, c] ∧ s.rd F.EQ_STATUS.BYPASSED [d, c] = s.rd F.EQ_CTRL.BYPASS [d, c] ∧
          s.rd F.FIR_STATUS.FADING [d, c] = 0 ∧ (s.accOf d c).reading = none ∧ (s.accOf d c).passes = []) →
      ∃ t : State, step s = .next t ∧ Frame [] [[.now, .dt, .dtPrev, .fresh, .arrivals, .closing]] s t ∧ t.freeCtr = s.freeCtr ∧
        t.fresh = [] ∧ t.arrivals = [] ∧ t.closing = false ∧
        t.now = s.now + (if s.mode = .vigil then 1600 else 128) ∧ t.dtPrev = s.dt ∧
        t.dt = if s.mode = .hold then s.dt else (s.dt + if s.mode = .vigil then 1600 else 128) % 2 ^ 64) ∧
    (∀ (c : Instr) (s u : State), s.booked = [c] → s.heldRecs = [] → s.mode.acquires = false → State.beforeEngines c = false → s.asksHarvest c = false →
      exec c { s with booked := [], arrivals := [], closing := true } = .next u → s.endCycle = { u with closing := false })

/-- The state after reset has the forms that every step keeps. The state after a power-on reset is sound: its registers and its memory are in
their one canonical form, it has three acquisition sets, eight interval units, two accumulation engines and three overlay layers for each
of its two dies, and its boot flash lists no erased byte. Rests on R180, R193, R221, R252, R273, R114. -/
def Obligations.ResetIsSound : Prop :=
  State.reset.Sound

/-- After a cold reset the package holds HOLD and DT 0, nothing is queued, and the registers hold the field tables' reset values. State.reset
is in HOLD with die 0 in the control role, DT 0, no command waiting and nothing stored, written or in progress. The named fields of each
register block hold, for every index, the reset value that their field tables give. A field of a table without a value of its own is 0.
Rests on R9, R35, R55, R246, R311, R446, 20_address_map. -/
def Obligations.ResetValues : Prop :=
  State.reset.mode = .hold ∧ State.reset.control = 0 ∧ State.reset.dt = 0 ∧ State.reset.pending = [] ∧ State.reset.mem = [] ∧
    State.reset.out = [] ∧ State.reset.ringRecs = [] ∧ State.reset.taken = [] ∧ State.reset.outstanding = [] ∧ State.reset.library = [] ∧
    State.reset.pool = [] ∧ State.reset.deferred = [] ∧ State.reset.running = [] ∧
    (∀ ix : List Nat, ∀ x ∈ [(F.XTO_PULL.PULL, 0x800000), (F.XTO_STATUS.REF_STATE, 0), (F.XTO_STATUS.STEP_PENDING, 0), (F.SYN_STATUS.LOCK, 0),
        (F.SYN_OFFSET.OFFSET, 0), (F.CNV_CTRL.ATTEN, 0), (F.CRD_CTRL.INTERVAL, 1000), (F.CRD_SUFF.VAR_FLOOR, 64), (F.CRD_TIMEOUT.TIMEOUT, 2000),
        (F.DEC_CTRL.MODE, 0), (F.DEC_RATIO.RATIO, 1), (F.TRG_LEVEL.LEVEL, 0), (F.TRG_LEVEL.HYST, 2), (F.TRG_AUTO_TIMEOUT.TICKS, 16000000),
        (F.ACQ_SEG_LEN.LEN, 1024), (F.ACQ_NSEG.NSEG, 1), (F.ACQ_PRE.PRE, 0), (F.ACQ_POST.POST, 1024), (F.ACQ_STATUS.STATE, 0),
        (F.STR_CTRL.CHUNK_LOG2, 16), (F.ACC_AVG_COUNT.TARGET, 16), (F.ACC_AVG_LEN.LEN, 1024), (F.ACC_STATUS.STATE, 0),
        (F.SCN_TIM_H.HACTIVE, 3840), (F.SCN_TIM_V.VACTIVE, 2160), (F.SCN_STATUS.RUNNING, 0), (F.LGC_CH_CFG.HYST, 20), (F.TIM_N.N, 1),
        (F.TIM_CTRL.EN, 0), (F.CMP_CTRL.EN, 0), (F.QUE_CFG.ENABLE, 0), (F.QUE_CFG.LOG2_SIZE, 4), (F.QUE_STATUS.STATE, 0), (F.EVC_PEND.PEND, 0),
        (F.EVC_MASK.MASK, 0), (F.EVC_ROUTE.EN, 0), (F.MBX_VLOG_TOTAL.COUNT, 0), (F.MBX_URG_STATUS.BUSY, 0), (F.HVS_CAP.MW, 165000),
        (F.HVS_BUDGET.MJ, 165000), (F.BOB_THRESH.TMO_LIMIT, 3), (F.SKN_CTRL.ROLE, 0), (F.SKN_STATUS.ALIGNED, 0), (F.SVC_ATB.POINT, 0xFF),
        (F.SVC_STATUS.TEST_RUN, 0)],
      State.reset.rd x.1 ix = x.2) ∧
    (∀ c i : Nat, State.reset.rd F.TRG_CURVE.FRAC [0, c, 0, i] = i % 1024)

/-- Every step keeps registers, memory and flash canonical and the counts of sets, units, engines and layers. From every sound state, also one
that no run reaches, a step that answers a next state answers a sound one: the register file and the memory stay in their one canonical
form (keys and addresses strictly rising, nothing listed that reads as an unlisted one), and the machine keeps six acquisition sets,
sixteen interval units, four accumulation engines and six overlay layers; the boot flash lists no byte that reads as erased. Rests on
R180, R193, R221, R252, R273, R114. -/
def Obligations.StepKeepsSound : Prop :=
  ∀ s t : State, s.Sound → step s = .next t → t.Sound

/-- A step takes one waiting command, never puts one in, never takes back what was put out. From every state, a step that answers a next state
leaves exactly the waiting commands behind the front one, in order; everything the device had put out before is still there in the same
order, with what the step puts out after it; and the count of free values taken never falls. Rests on 01_architecture,
12_queues_and_events. -/
def Obligations.StepConsumesOneAndOnlyAddsOutput : Prop :=
  ∀ s t : State, step s = .next t → t.pending = s.pending.tail ∧ s.out <+: t.out ∧ s.freeCtr ≤ t.freeCtr

/-- Every command completes in every state. For every command with any operands and every state there is a next state: no command ends in a
fault or a refusal, since the spec gives each an effect, an answer or a refusal of its own that the device goes on from. Rests on
95_what_each_step_holds, R352. -/
def Obligations.EveryCommandCompletes : Prop :=
  ∀ (c : Instr) (s : State), Completes c s fun _ => True

/-- The five resets of the package put it into HOLD with every block at its reset value but for what survives. From every sound state each
reset of the package completes, and the bytes of the boot flash stay. Power-on, RESET_N and brown-out (cold): the package is in HOLD,
BOOT_RESET_CAUSE shows the source and COLD = 1, and every other register reads its reset value, but for what the boot flash and the TAPs
hold. BOOT_CTRL written with the key and WARM where host software reaches the package, the thermal reset from 125 °C on, and the firmware
watchdog while firmware runs (warm): the package is in HOLD, BOOT_RESET_CAUSE shows the source, every RWS field keeps its value, and so do
OVEN_READY, WARM and the oven-on time; every other register reads its reset value. Other writes of BOOT_CTRL, a reading below 125 °C, and
a release reading of 95 °C or more change nothing; a release below 95 °C ends the hold of the thermal reset. Rests on R9, R35, R384, R446,
R447, R449. -/
def Obligations.ResetCommandsTakeEffect : Prop :=
  (∀ (c : Instr) (src : Nat) (s : State), s.Sound →
      (c, src) ∈ [(.coldReset false, 0), (.coldReset true, 1), (.brownOutDetect, 2)] →
      Completes c s fun t => t.mode = .hold ∧ t.dt = 0 ∧ t.flash = s.flash ∧
        bitAt (t.rd F.BOOT_RESET_CAUSE.CAUSE []) src = true ∧ t.rd F.BOOT_RESET_CAUSE.COLD [] = 1 ∧
        ∀ k : RegKey, keptAlways k = false → k.reg ∉ [.BOOT_RESET_CAUSE, .i_thermHold] → t.regs.get k = k.reset) ∧
    (∀ (c : Instr) (src : Nat) (s : State), s.Sound →
      ((∃ d v, c = .bootCtrlWarmReset d v ∧ src = 3 ∧ s.hostReach d = true ∧ s.dieRetired s.control = false ∧
          slice v 0 16 = 0x6A5C ∧ bitAt v 16 = true) ∨
        (∃ temp, c = .thermalReset temp ∧ src = 4 ∧ 125 * 16 ≤ temp) ∨
        c = .watchdogExpiry ∧ src = 5 ∧ s.mode ≠ .hold) →
      Completes c s fun t => t.mode = .hold ∧ t.dt = 0 ∧ t.flash = s.flash ∧
        bitAt (t.rd F.BOOT_RESET_CAUSE.CAUSE []) src = true ∧ (t.rd I.thermHold [] = 1 ↔ src = 4 ∨ s.rd I.thermHold [] ≠ 0) ∧
        (∀ k : RegKey, keptWarm k = true ∨ keptOven k = true → t.regs.get k = s.regs.get k) ∧
        ∀ k : RegKey, keptWarm k = false → keptOven k = false → keptAlways k = false →
          k.reg ∉ [.BOOT_RESET_CAUSE, .i_thermHold] → t.regs.get k = k.reset) ∧
    (∀ (d v : Nat) (s : State), (slice v 0 16 ≠ 0x6A5C ∨ bitAt v 16 = false) →
      Completes (.bootCtrlWarmReset d v) s fun t => t = s) ∧
    (∀ (temp : Nat) (s : State), temp < 125 * 16 → Completes (.thermalReset temp) s fun t => t = s) ∧
    (∀ (hottest : Nat) (s : State), s.Sound → hottest < 95 * 16 →
      Completes (.thermalResetRelease hottest) s fun t => t.rd I.thermHold [] = 0) ∧
    (∀ (hottest : Nat) (s : State), 95 * 16 ≤ hottest → Completes (.thermalResetRelease hottest) s fun t => t = s)

/-- The commands of the boot sequence take the package from the release of reset to READY. In HOLD, each command of the boot sequence
completes and takes its step where that step is due: the release of reset starts the boot, and the flash then holds what the board
programmed into it; a self-check that passes on die 0 goes on to the directory, whose choice NEXT shows; one that fails, or no report of
die 0 in 10 ms, retires die 0, gives the control role to die 1 and sets the pending bit of BOB_FAILOVER; a blank image shows 0, an invalid
one 2, and the other image is tried once before the package stays in HOLD; a verified image shows 1, is the one that runs, gives
BOOT_IMG_VER its version, and FALLBACK tells whether it is not the one NEXT names; firmware selects the store slot with the higher
generation among those whose bytes in the flash are VALID, else the OTP; HBM training shows TRAINED for each stack of a working die that
trained with all its pseudo-channels; and READY is entered with DT 0, the duration of the boot in ms, and the pending bit of BOOT_DONE
set, the timing curves at their factory values. Rests on R21, R118, R162, R451, R452, R453, R454, R455, R456, R457, R458, R460. -/
def Obligations.BootGoesStepByStep : Prop :=
  (∀ (mbit rev off : Nat) (fast : Bool) (bytes : List Byte) (s : State), s.Sound → s.mode = .hold → s.rd I.bootStep [] = 0 →
      s.rd I.thermHold [] = 0 →
      Completes (.resetRelease mbit fast rev [(off, bytes)]) s fun t => t.rd I.bootStep [] = 1 ∧ t.rd F.BOOT_STATUS.SFDP_OK [] = b2n fast ∧
        t.flashBytes off bytes.length = bytes ∧ ∀ a, a < off ∨ off + bytes.length ≤ a → t.flashGet a = s.flashGet a) ∧
    (∀ s : State, s.Sound → s.rd I.bootStep [] = 1 → s.rd I.bootSelf [0] = 0 → s.dieRetired 0 = false →
      (s.rd I.flashMbit [] = 512 → Completes (.selfCheckReport 0 true) s fun t => t.rd I.bootStep [] = 2 ∧
        t.rd F.BOOT_STATUS.NEXT [] = (match s.dirInForce with | some k => s.dirNext k | none => 0) ∧
        t.rd F.BOOT_STATUS.DIR_DEFAULT [] = b2n s.dirInForce.isNone) ∧
      (s.rd I.flashMbit [] ≠ 512 → Completes (.selfCheckReport 0 true) s fun t => t.mode = s.mode ∧ t.rd I.bootStep [] = 10 ∧
        t.rd F.BOOT_STATUS.A_STATE [] = 2 ∧ t.rd F.BOOT_STATUS.B_STATE [] = 2)) ∧
    (∀ s : State, s.Sound → s.rd I.bootStep [] = 1 → s.rd I.bootSelf [0] = 0 → s.rd I.bootSelf [1] = 0 → s.dieRetired 0 = false →
      Completes (.selfCheckReport 0 false) s (fun t => t.dieRetired 0 = true ∧ t.control = 1 ∧ t.rd F.BOOT_STATUS.BOOT_DIE [] = 1 ∧
        t.pends 1 228 = true) ∧
      (s.elapsed (s.rd I.bootAt []) 12500000 = true → Completes .selfCheckTimeout s fun t => t.dieRetired 0 = true ∧ t.control = 1 ∧
        t.rd F.BOOT_STATUS.BOOT_DIE [] = 1 ∧ t.pends 1 228 = true)) ∧
    (∀ (k : Nat) (digest : Bool) (s : State), s.Sound → s.rd I.bootImg [] ≠ k → Completes (.imageLoadDone k digest) s fun t => t = s) ∧
    (∀ (digest : Bool) (s : State), s.Sound → (s.rd I.bootStep [] = 2 ∨ s.rd I.bootStep [] = 4) →
      let header := s.imageHeader (s.rd I.bootImg [])
      let image := if s.rd I.bootImg [] = 0 then F.BOOT_STATUS.A_STATE else F.BOOT_STATUS.B_STATE
      (headerOk header = true → headerBlank header = false → digest = true → Completes (.imageLoadDone (s.rd I.bootImg []) digest) s fun t =>
        t.rd I.bootStep [] = s.rd I.bootStep [] + 1 ∧ t.rd I.imgVersion [s.rd I.bootImg []] = headerField header 16 4 % 2 ^ 32) ∧
      ((headerBlank header = true ∨ headerOk header = false ∨ digest = false) → Completes (.imageLoadDone (s.rd I.bootImg []) digest) s fun t =>
        t.rd image [] = (if headerBlank header then 0 else 2) ∧ t.rd I.bootStep [] = if s.rd I.bootStep [] = 2 then 4 else 10)) ∧
    (∀ s : State, s.Sound → (s.rd I.bootStep [] = 3 ∨ s.rd I.bootStep [] = 5) → s.rd I.bootImg [] < 2 →
      let k := s.rd I.bootImg []
      let image := if k = 0 then F.BOOT_STATUS.A_STATE else F.BOOT_STATUS.B_STATE
      Completes (.signatureCheckDone true) s (fun t => t.rd I.bootStep [] = 6 ∧ t.rd image [] = 1 ∧ t.rd F.BOOT_STATUS.IMAGE [] = k ∧
        t.rd F.BOOT_IMG_VER.VERSION [k] = s.rd I.imgVersion [k] % 2 ^ 32 ∧
        t.rd F.BOOT_STATUS.FALLBACK [] = b2n (k != s.rd F.BOOT_STATUS.NEXT [])) ∧
      Completes (.signatureCheckDone false) s fun t => t.rd image [] = 2 ∧ t.rd I.bootStep [] = if s.rd I.bootStep [] = 3 then 4 else 10) ∧
    (∀ s : State, s.Sound → s.rd I.bootStep [] = 6 → Completes .firmwareStart s fun t => t.rd I.bootStep [] = 7 ∧
      t.rd I.storeSlot [] =
        if s.slotValid 0 = true ∧ (s.slotValid 1 = true → s.slotGen 1 ≤ s.slotGen 0) then 0 else if s.slotValid 1 = true then 1 else 2) ∧
    (∀ (lost : List (Nat × Nat)) (pcs : List (Nat × Nat × Nat)) (s : State), s.Sound → s.rd I.bootStep [] = 7 →
      Completes (.hbmTrainingDone lost pcs) s (fun t => t.rd I.bootStep [] = 8) ∧
      Completes (.hbmTrainingDone [] []) s fun t => t.rd I.bootStep [] = 8 ∧
        ∀ d h, d < 2 → h < 2 → s.dieRetired d = false → t.rd F.MEM_STATUS.TRAINED [d, h] = 1) ∧
    (∀ s : State, s.Sound → s.rd I.bootStep [] = 8 → s.control < 2 → Completes .bootReady s fun t => t.mode = .ready ∧ t.dt = 0 ∧
      t.rd I.bootStep [] = 9 ∧ t.rd F.BOOT_TIME.MS [] = (s.now - s.rd I.bootAt []) / 160000000 % 2 ^ 16 ∧ t.pends s.control 252 = true ∧
      ∀ d c e i : Nat, d < 2 → c < 2 → e < 2 → i < 1024 → s.dieRetired d = false → t.rd F.TRG_CURVE.FRAC [d, c, e, i] = Config.factoryCurve d c e i % 1024)

/-- Endpoint resets reach one die's host-facing state, and the test port takes its instructions. Outside HOLD an endpoint reset of a working
die completes: its cause bit is set and the pending bit of BOOT_EP_RESET; every mask word and MSI-X entry of the die and the host-route
fields of its EVC_ROUTE read their reset values, while FW_QUEUE and FW_EN keep theirs; every queue of the die that was not DISABLED loses
its ENABLE; the mode and device time stay; the link goes down unless it was a Function Level Reset. TRST_N gives both TAPs IDCODE (the
model's choice, PRESUMED, assumption log entry 14). A TAP takes the instruction loaded in HOLD; outside HOLD any but BYPASS, IDCODE and
SAMPLE acts as BYPASS. Rests on R448, R449, R460, R473. -/
def Obligations.EndpointAndTestPortCommands : Prop :=
  (∀ (d : Nat) (hot : Bool) (s : State), s.Sound → s.mode ≠ .hold → d < 2 → s.dieRetired d = false →
      let after (link : Bool) (cause : Fld) (t : State) : Prop :=
        t.mode = s.mode ∧ t.dt = s.dt ∧ t.rd cause [d] = 1 ∧ t.pends d 253 = true ∧
        (∀ k : RegKey, k.reg ∈ [.MSIX, .EVC_MASK] → k.ix.head? = some d → t.regs.get k = k.reset) ∧
        (∀ x, t.rd F.EVC_ROUTE.EN [d, x] = 0 ∧ t.rd F.EVC_ROUTE.QUEUE [d, x] = 6144 ∧
          t.rd F.EVC_ROUTE.FW_EN [d, x] = s.rd F.EVC_ROUTE.FW_EN [d, x] ∧
          t.rd F.EVC_ROUTE.FW_QUEUE [d, x] = s.rd F.EVC_ROUTE.FW_QUEUE [d, x]) ∧
        (∀ q, s.rd F.QUE_STATUS.STATE [d, q] ≠ 0 → t.rd F.QUE_CFG.ENABLE [d, q] = 0) ∧
        t.rd I.linkL0 [d] = if link then s.rd I.linkL0 [d] else 0
      Completes (.endpointReset d hot) s (after false (if hot then F.BOOT_EP_CAUSE.HOT_RESET else F.BOOT_EP_CAUSE.PERST)) ∧
      Completes (.functionLevelReset d) s (after true F.BOOT_EP_CAUSE.FLR)) ∧
    (∀ (d : Nat) (hot : Bool) (s : State), s.mode = .hold → Completes (.endpointReset d hot) s (fun t => t = s) ∧
      Completes (.functionLevelReset d) s fun t => t = s) ∧
    (∀ s : State, s.Sound → Completes .tapReset s fun t => t.rd I.tapIr [0] = 1 ∧ t.rd I.tapIr [1] = 1) ∧
    (∀ (d : Nat) (i : TapInstr) (s : State), s.Sound → d < 2 → Completes (.tapInstructionLoad d i) s fun t =>
      t.rd I.tapIr [d] = if s.mode = .hold ∨ i = .bypass ∨ i = .idcode ∨ i = .sample then State.tapCode i else 0)

/-- The oven, the pull DAC and the reference loop follow R43 to R52. For every sound state in which the command's moment has come: OVEN_READY
and WARM are set, WARM 15 minutes after OVEN_READY; the pull DAC shows the code of R44 once a second of oven-on time, with the loop's
contribution frozen while the loop does not run; each 24 h of oven-on time is saved; a refit gate that ends after 1,000 s takes coef_a and
coef_b from the least-squares fit and adds its point to at most 15; a qualified reference shows REF_PRESENT and takes the loop from OFF to
THAW with the edge as its phase origin, and from WINTER by the error measured: within 20 ps to THAW, beyond it by POLICY to SLEWING, to
STEP_PENDING or back to WINTER with HOLD_WAIT; a loss takes a running loop to WINTER and drops slew, step and hold; THAW becomes LOCKED
after 1 s within 20 ps with no step pending and no slew; a slew ends at 20 ps. A write of XTO_REF_CTRL sets its fields, leaves POLICY
where 3 is written, and takes the loop to OFF where ENABLE falls on a package that is no worker; RESUME acts only with HOLD_WAIT and
starts a slew or a step. Each change that has an event sets the event's pending bit. Rests on R43, R44, R45, R46, R47, R48, R49, R50, R52,
R72, R414. -/
def Obligations.OvenAndReferenceLoop : Prop :=
  (∀ s : State, s.Sound → s.rd F.XTO_STATUS.OVEN_READY [] = 0 →
      Completes .ovenReadyTimer s fun t => t.rd F.XTO_STATUS.OVEN_READY [] = 1 ∧ t.pends s.control 24 = true) ∧
    (∀ s : State, s.Sound → s.rd F.XTO_STATUS.OVEN_READY [] ≠ 0 → s.rd F.XTO_STATUS.WARM [] = 0 →
      s.elapsed (s.rd I.ovenFirst []) (900 * 1250000000) = true →
      Completes .warmTimer s fun t => t.rd F.XTO_STATUS.WARM [] = 1 ∧ t.pends s.control 24 = true) ∧
    (∀ (edge : Option Instant) (s : State), s.Sound → s.elapsed (s.rd I.pullAt []) 1250000000 = false →
      Completes (.pullDacUpdate edge) s fun t => t = s) ∧
    (∀ (edge : Option Instant) (s : State), s.Sound → s.elapsed (s.rd I.pullAt []) 1250000000 = true →
      Completes (.pullDacUpdate edge) s fun t => t.rd I.ovenOn [] = (s.rd I.ovenOn [] + 1) % 2 ^ 64 ∧ t.rd F.XTO_PULL.PULL [] = t.pullCode % 2 ^ 24 ∧
      (s.refState ≠ 1 → s.refState ≠ 2 → t.rd I.loopCorr [] = s.rd I.loopCorr [] ∧
        t.rd F.XTO_PHASE_ERR.ERR [] = s.rd F.XTO_PHASE_ERR.ERR [])) ∧
    (∀ s : State, s.Sound → s.rd I.ovenSaved [] + 86400 ≤ s.rd I.ovenOn [] →
      Completes .ovenTimeSave s fun t => t.rd I.ovenSaved [] = s.rd I.ovenOn [] % 2 ^ 64) ∧
    (∀ (offset : Int) (s : State), s.Sound → s.runs .refit = true → s.elapsed (s.rd I.refitAt []) (1000 * 1250000000) = true →
      Completes (.ageingRefitGateEnd offset) s fun t => t.pends t.control 29 = true ∧
        (∀ f : Int × Int, s.ageFit (s.refitPoints offset) = some f → t.rd I.coefA [] = sfield 32 f.1 ∧ t.rd I.coefB [] = sfield 32 f.2) ∧
        (s.rd I.refitCount [] < 15 → t.rd I.refitCount [] = s.rd I.refitCount [] + 1) ∧
        (s.rd I.refitCount [] = 15 → t.rd I.refitCount [] = 15)) ∧
    (∀ (edge : Instant) (s : State), s.Sound → s.rd F.XTO_STATUS.REF_PRESENT [] = 0 → s.skWorker = false → edge < 2 ^ 76 →
      Completes (.refQualified edge) s fun t => t.rd F.XTO_STATUS.REF_PRESENT [] = 1 ∧
        (s.refEnabled = false → t.refState = s.refState) ∧
        (s.refEnabled = true → s.refState = 0 → t.refState = 1 ∧ t.rd I.phaseOrg [] = edge) ∧
        (s.refEnabled = true → s.refState = 3 → (s.phaseErr edge).natAbs ≤ 13107 → t.refState = 1) ∧
        (s.refEnabled = true → s.refState = 3 → 13107 < (s.phaseErr edge).natAbs →
          (s.rd F.XTO_REF_CTRL.POLICY [] = 0 → t.refState = 1 ∧ t.rd F.XTO_STATUS.SLEWING [] = 1) ∧
          (s.rd F.XTO_REF_CTRL.POLICY [] = 1 → t.refState = 1 ∧ t.rd F.XTO_STATUS.STEP_PENDING [] = 1) ∧
          (s.rd F.XTO_REF_CTRL.POLICY [] = 2 → t.refState = 3 ∧ t.rd F.XTO_STATUS.HOLD_WAIT [] = 1))) ∧
    (∀ s : State, s.Sound → s.rd F.XTO_STATUS.REF_PRESENT [] = 1 → s.skWorker = false → s.refState ≠ 0 →
      Completes .refLost s fun t => t.rd F.XTO_STATUS.REF_PRESENT [] = 0 ∧ t.refState = 3 ∧ t.rd F.XTO_STATUS.SLEWING [] = 0 ∧
        t.rd F.XTO_STATUS.STEP_PENDING [] = 0 ∧ t.rd F.XTO_STATUS.HOLD_WAIT [] = 0) ∧
    (∀ s : State, s.Sound → s.refState = 1 → s.rd I.inOn [] ≠ 0 → s.rd F.XTO_STATUS.STEP_PENDING [] = 0 →
      s.rd F.XTO_STATUS.SLEWING [] = 0 →
      s.elapsed (s.rd I.inSince []) 1250000000 = true → Completes .thawLockTimer s fun t => t.refState = 2) ∧
    (∀ (edge : Instant) (s : State), s.Sound → s.rd F.XTO_STATUS.SLEWING [] = 1 → s.skWorker = false → (s.phaseErr edge).natAbs ≤ 13107 →
      Completes (.slewDone edge) s fun t => t.rd F.XTO_STATUS.SLEWING [] = 0 ∧ t.pends s.control 27 = true) ∧
    (∀ (d v : Nat) (s : State), s.Sound → s.hostReach d = true → s.dieRetired s.control = false →
      Completes (.xtoRefCtrlWrite d v) s (fun t =>
        t.rd F.XTO_REF_CTRL.ENABLE [] = v % 2 ∧ t.rd F.XTO_REF_CTRL.REF_FREQ [] = v / 2 % 2 ∧
        t.rd F.XTO_REF_CTRL.POLICY [] = (if v / 4 % 4 = 3 then s.rd F.XTO_REF_CTRL.POLICY [] else v / 4 % 4) ∧
        (s.skWorker = false → s.rd F.XTO_REF_CTRL.ENABLE [] ≠ 0 → v % 2 = 0 → t.refState = 0)) ∧
      (s.skWorker = false → s.rd F.XTO_REF_CTRL.ENABLE [] = 1 → v % 2 = 1 → s.refState = 3 → s.rd F.XTO_STATUS.HOLD_WAIT [] = 1 →
        (v / 16 % 4 = 1 → Completes (.xtoRefResumeWrite d v) s fun t =>
          t.refState = 1 ∧ t.rd F.XTO_STATUS.HOLD_WAIT [] = 0 ∧ t.rd F.XTO_STATUS.SLEWING [] = 1) ∧
        (v / 16 % 4 = 2 → Completes (.xtoRefResumeWrite d v) s fun t =>
          t.refState = 1 ∧ t.rd F.XTO_STATUS.HOLD_WAIT [] = 0 ∧ t.rd F.XTO_STATUS.STEP_PENDING [] = 1)))

/-- The synthesisers lock, coast, ramp and lose lock as R54 to R65 say. For every sound state in which the command's moment has come. SYN: a
loss of lock makes it COAST with PHASE_DET 0; a drift measurement of a coast shows, saturated to 16 bits, and one beyond 2 ppm makes it
LOST; it re-locks at once after LOST and at a boundary with no channel of the die armed after COAST; a lock shows LOCKED, the mode of
SYN_CTRL in force, PHASE_DET in integer mode only and no drift; failed attempts count, and the third in a row does not. A write of
SYN_CTRL that changes MODE while a channel of the die is armed changes no field of SYN_CTRL and sets MODE_REJECT; another sets the fields
and re-locks where it changes MODE; a ramp start that R60 refuses sets RAMP_REJECT and one that it allows starts segment 0; an abort stops
the ramp. A segment that ends holds its end offset and goes on to the next, or to segment 0 where the profile repeats, or ends the ramp.
AUX: a loss shows COAST and FALLBACK, the end of the coast BLANKED on both outputs, a re-lock LOCKED with no COAST and no FALLBACK. The
events of these changes set their pending bits. Rests on R54, R56, R57, R58, R59, R60, R61, R65, R72, R402. -/
def Obligations.SynAuxAndRamps : Prop :=
  (∀ (d : Nat) (s : State), s.Sound → s.rd F.SYN_STATUS.LOCK [d] = 1 → Completes (.synLockLoss d) s fun t =>
      t.rd F.SYN_STATUS.LOCK [d] = 2 ∧ t.rd F.SYN_STATUS.PHASE_DET [d] = 0 ∧ t.pends d 30 = true) ∧
    (∀ (d : Nat) (drift : Int) (s : State), s.Sound → s.rd F.SYN_STATUS.LOCK [d] = 2 → Completes (.synDriftMeasure d drift) s fun t =>
      t.rd F.SYN_DRIFT.DRIFT [d] = sfield 16 (max (-32768) (min 32767 drift)) ∧
      t.rd F.SYN_STATUS.LOCK [d] = if 2048 < drift.natAbs then 3 else 2) ∧
    (∀ (d : Nat) (s : State), s.Sound → s.rd F.SYN_STATUS.LOCK [d] = 3 ∨ s.rd F.SYN_STATUS.LOCK [d] = 2 ∧ s.dieArmed d = false →
      Completes (.synRelock d) s fun t => t.rd F.SYN_STATUS.LOCK [d] = 0 ∧ t.pends d 30 = true) ∧
    (∀ (d : Nat) (s : State), s.Sound → s.rd F.SYN_STATUS.LOCK [d] = 0 → s.domainOn d 2 = true → Completes (.synLocked d) s fun t =>
      t.rd F.SYN_STATUS.LOCK [d] = 1 ∧ t.rd F.SYN_STATUS.MODE_ACTIVE [d] = s.rd F.SYN_CTRL.MODE [d] % 2 ∧
      t.rd F.SYN_STATUS.PHASE_DET [d] = (1 - s.rd F.SYN_CTRL.MODE [d]) ∧ t.rd F.SYN_DRIFT.DRIFT [d] = 0 ∧ t.pends d 30 = true) ∧
    (∀ (d : Nat) (s : State), s.Sound → s.rd F.SYN_STATUS.LOCK [d] = 0 → s.dieRetired d = false → Completes (.synLockAttemptFail d) s fun t =>
      t.rd I.synFails [d] = if s.rd I.synFails [d] < 2 then s.rd I.synFails [d] + 1 else 0) ∧
    (∀ (d v : Nat) (s : State), s.Sound → s.hostReach d = true → v % 2 = 1 - s.rd F.SYN_CTRL.MODE [d] → s.rd F.SYN_CTRL.MODE [d] < 2 →
      bitAt v 1 = false → bitAt v 2 = false →
      (s.dieArmed d = true → Completes (.synModeWrite d v) s fun t => t.rd F.SYN_STATUS.MODE_REJECT [d] = 1 ∧
        ∀ k : RegKey, k.reg = .SYN_CTRL → t.regs.get k = s.regs.get k) ∧
      (s.dieArmed d = false → Completes (.synModeWrite d v) s fun t => t.rd F.SYN_CTRL.MODE [d] = v % 2 ∧
        t.rd F.SYN_CTRL.RAMP_REPEAT [d] = v / 8 % 2 ∧ t.rd F.SYN_CTRL.RAMP_LAST [d] = v / 16 % 64 ∧
        t.rd F.SYN_CTRL.ALIAS_EN [d] = v / 1024 % 4 ∧ t.rd F.SYN_STATUS.LOCK [d] = 0 ∧ t.rd F.SYN_STATUS.PHASE_DET [d] = 0 ∧
        t.rd F.SYN_OFFSET.OFFSET [d] = 0)) ∧
    (∀ (d v : Nat) (s : State), s.Sound → s.hostReach d = true → v % 2 = s.rd F.SYN_CTRL.MODE [d] → bitAt v 1 = true → bitAt v 2 = false →
      let refused := s.fractional d = false ∨ s.rd F.SYN_STATUS.RAMP_ACTIVE [d] ≠ 0 ∨ ∃ k ≤ v / 16 % 64, s.rampBad d k = true
      (refused → Completes (.synRampStart d v) s fun t => t.rd F.SYN_STATUS.RAMP_REJECT [d] = 1 ∧
        t.rd F.SYN_STATUS.RAMP_ACTIVE [d] = s.rd F.SYN_STATUS.RAMP_ACTIVE [d]) ∧
      (¬refused → Completes (.synRampStart d v) s fun t => t.rd F.SYN_STATUS.RAMP_ACTIVE [d] = 1 ∧ t.rd F.SYN_STATUS.RAMP_SEG [d] = 0 ∧
        t.rd F.SYN_ALIAS.SUSPECT [d, 0] = 0 ∧ t.rd F.SYN_ALIAS.SUSPECT [d, 1] = 0)) ∧
    (∀ (d v : Nat) (s : State), s.Sound → s.hostReach d = true → v % 2 = s.rd F.SYN_CTRL.MODE [d] → bitAt v 1 = false → bitAt v 2 = true →
      s.rd F.SYN_STATUS.RAMP_ACTIVE [d] = 1 → Completes (.synRampAbort d v) s fun t =>
        t.rd F.SYN_STATUS.RAMP_ACTIVE [d] = 0 ∧ t.pends d 31 = true) ∧
    (∀ (d : Nat) (peaks : List (List (Nat × Nat))) (s : State), s.Sound → s.rd F.SYN_STATUS.RAMP_ACTIVE [d] = 1 →
      s.rd F.SYN_STATUS.RAMP_SEG [d] < 64 → s.rd F.SYN_CTRL.RAMP_LAST [d] < 64 →
      s.rampDur d (s.rd F.SYN_STATUS.RAMP_SEG [d]) ≤ s.rampCycles d →
      let k := s.rd F.SYN_STATUS.RAMP_SEG [d]
      Completes (.rampSegmentEnd d peaks) s fun t => t.rd F.SYN_OFFSET.OFFSET [d] = sfield 24 (s.rampEnd d k) ∧
        (k < s.rd F.SYN_CTRL.RAMP_LAST [d] → t.rd F.SYN_STATUS.RAMP_ACTIVE [d] = 1 ∧ t.rd F.SYN_STATUS.RAMP_SEG [d] = k + 1) ∧
        (s.rd F.SYN_CTRL.RAMP_LAST [d] ≤ k → s.rd F.SYN_CTRL.RAMP_REPEAT [d] ≠ 0 →
          t.rd F.SYN_STATUS.RAMP_ACTIVE [d] = 1 ∧ t.rd F.SYN_STATUS.RAMP_SEG [d] = 0) ∧
        (s.rd F.SYN_CTRL.RAMP_LAST [d] ≤ k → s.rd F.SYN_CTRL.RAMP_REPEAT [d] = 0 →
          t.rd F.SYN_STATUS.RAMP_ACTIVE [d] = 0 ∧ t.pends d 31 = true)) ∧
    (∀ (d : Nat) (s : State), s.Sound → s.rd F.AUX_STATUS.LOCKED [d] ≠ 0 → Completes (.auxLossOfLock d) s fun t =>
      t.rd F.AUX_STATUS.LOCKED [d] = 0 ∧ t.rd F.AUX_STATUS.COAST [d] = 1 ∧ t.rd F.AUX_STATUS.FALLBACK [d] = 1 ∧ t.pends d 33 = true) ∧
    (∀ (d : Nat) (s : State), s.Sound → s.rd F.AUX_STATUS.COAST [d] ≠ 0 → s.elapsed (s.rd I.auxLoss [d]) 2500000 = true →
      Completes (.auxCoastEnd d) s fun t => t.rd F.AUX_STATUS.COAST [d] = 0 ∧
        ∀ e < 2, s.dieRetired e = false → t.rd F.AUX_STATUS.BLANKED [e] = 1 ∧ t.pends e 33 = true) ∧
    (∀ (d : Nat) (s : State), s.Sound → s.rd F.AUX_STATUS.LOCKED [d] = 0 → Completes (.auxRelock d) s fun t =>
      t.rd F.AUX_STATUS.LOCKED [d] = 1 ∧ t.rd F.AUX_STATUS.COAST [d] = 0 ∧ t.rd F.AUX_STATUS.FALLBACK [d] = 0 ∧ t.pends d 33 = true)

/-- Calendar cues are armed, cancelled and executed as R66 to R70 say, and a snapshot takes the block's first tick. For every sound state in
which host software reaches the die: writing STATE 1 to the word with bytes 8 to 11 of a cue that is not PENDING makes it PENDING, counted
in CLD_STATUS, with its fraction and action from the word and LATE where its DT lies before the block handled; writing STATE 4 to a
PENDING cue that does not execute in this core cycle cancels it, and one that executes in it stays PENDING. A PENDING cue whose cycle has
come, with no cue of the die before it, executes as the cycle ends: with a reserved action, or SKEIN_SYNC on the die without the control
role, it is FAILED with the status code and the pending bit of CLD_CUE_FAILED set; a SNAPSHOT puts the selected counters into their
snapshot registers, writes EXEC_TICK, and leaves it DONE. A cue that is not due is not touched. SNAP captures the first tick of the block
handled. Rests on R40, R66, R67, R68, R69, R70, R71. -/
def Obligations.CalendarCues : Prop :=
  (∀ (d n v : Nat) (s : State), s.Sound → s.hostReach d = true →
      (s.rd F.CUE.STATE [d, n] ≠ 1 → v / 2 ^ 24 % 256 = 1 → Completes (.cueArm d n v) s fun t =>
        t.rd F.CUE.STATE [d, n] = 1 ∧ t.rd F.CUE.DT_FRAC [d, n] = v % 4096 ∧ t.rd F.CUE.ACTION [d, n] = v / 2 ^ 16 % 256 ∧
        t.rd F.CUE.STEPPED [d, n] = 0 ∧ t.rd F.CUE.LATE [d, n] = b2n (!dtGe (s.rd F.CUE.DT_TICKS [d, n]) (s.blkOf d)) ∧
        t.rd F.CLD_STATUS.PENDING [d] = (s.rd F.CLD_STATUS.PENDING [d] + 1) % 512) ∧
      (s.rd F.CUE.STATE [d, n] = 1 → v / 2 ^ 24 % 256 = 4 → s.cueDue d n = false → Completes (.cueCancel d n v) s fun t =>
        t.rd F.CUE.STATE [d, n] = 4 ∧ t.rd F.CLD_STATUS.PENDING [d] = (s.rd F.CLD_STATUS.PENDING [d] - 1) % 512) ∧
      (s.rd F.CUE.STATE [d, n] = 1 → s.cueDue d n = true → Completes (.cueCancel d n v) s fun t => t = s) ∧
      (bitAt v 0 = true → Completes (.cldDtSnap d v) s fun t => t.rd F.CLD_DT_TICKS.TICKS [d] = s.blkOf d % 2 ^ 64)) ∧
    (∀ (d n : Nat) (s : State), s.Sound → s.cueDue d n = true → s.cuesBefore d n = [] →
      (s.rd F.CUE.ACTION [d, n] = 0 ∨ 8 < s.rd F.CUE.ACTION [d, n] → CompletesAtEnd (.cueExecute d n) s fun t =>
        t.rd F.CUE.STATE [d, n] = 3 ∧ t.rd F.CUE.STATUS [d, n] = 0x0100 ∧ t.pends d 36 = true) ∧
      (s.rd F.CUE.ACTION [d, n] = 8 → d ≠ s.control → CompletesAtEnd (.cueExecute d n) s fun t =>
        t.rd F.CUE.STATE [d, n] = 3 ∧ t.rd F.CUE.STATUS [d, n] = 0x0101 ∧ t.pends d 36 = true) ∧
      (s.rd F.CUE.ACTION [d, n] = 6 → CompletesAtEnd (.cueExecute d n) s fun t =>
        t.rd F.CUE.STATE [d, n] = 2 ∧ t.rd F.CUE.EXEC_TICK [d, n] = s.blkOf d % 2 ^ 64 ∧
        (∀ u < 8, t.rd F.TIM_SNAP.COUNT [d, u] =
          if bitAt (s.rd F.CUE.PARAM [d, n]) 0 then s.rd F.TIM_TOTAL.COUNT [d, u] % 2 ^ 64 else s.rd F.TIM_SNAP.COUNT [d, u]) ∧
        (∀ u < 12, t.rd F.CMP_SNAP.COUNT [d, u] =
          if bitAt (s.rd F.CUE.PARAM [d, n]) 2 then s.rd F.CMP_COUNT.COUNT [d, u] % 2 ^ 32 else s.rd F.CMP_SNAP.COUNT [d, u]))) ∧
    (∀ (d n : Nat) (s : State), s.cueDue d n = false → Completes (.cueExecute d n) s fun t => t = s)

/-- Carding, Combing and the calibration store follow R94 to R118. For every sound state in which the command's moment has come. An interval
that closes shows its occupied bands; with 65,536 usable blocks, enough variance of their codes, 8 occupied bands and a flat phase
histogram it counts as sufficient, and the statistics of its slices are kept; else as insufficient, with a LAST_CAUSE bit for each failed
test. In cycle 64 a granted claim moves no trim; after a sufficient interval a slice's enabled offset loop within its tolerance is
CONVERGED, one beyond it is not and its tap is to move against the error; a claim that is not granted leaves the loop WAITING and takes
the count back. In cycle 128 the tap moves by one within its range, with SAT beyond it, and the next interval begins. A channel is STARVED
at the end of its 10 s. A Combing start that R108 refuses changes nothing but the two kept bits of the command; one that is admitted is in
SETTLE with CAL_SW closed where its claim is granted, else WAITING. The phases follow one another, the ladder one level at a time, to
setting 12 as EDGE begins, and the last opens CAL_SW; an abort ends a WAITING run with 0x0211 and opens CAL_SW of a later one; the run's
result shows when it is over. A store write starts by erasing the slot that is not active and programming header and payload, leaving the
rest of the flash; it ends with the CRC-32, the commit word and a slot that R118 calls VALID, of the next generation, or with WRITE_FAIL,
no commit word and the generation as before; a request that must wait sets PENDING. Rests on R93, R94, R95, R99, R102, R103, R104, R108,
R109, R112, R116, R118. -/
def Obligations.CardingCombingAndTheStore : Prop :=
  (∀ (d c : Nat) (blocks : List CodeBlock) (s : State), s.Sound → s.rd F.CRD_STATUS.STATE [d, c] = 1 → s.rd I.cardSuff [d, c] = 0 →
      s.cardCycle d c 32 = true →
      let bs := s.usableBlocks d c blocks
      let power := (List.range 16).map (Config.bandPower (bs.map (·.codes)))
      let occupied := (power.filter fun p => power.sum ≤ p * 16 * 2 ^ s.rd F.CRD_SUFF.OCC_SHIFT [d, c]).length
      let vari := variance ((bs.flatMap (·.codes)).map fun v => (v : Rat))
      let bins := crossingBins s.blockLen (triples bs)
      let ratio := s.rd F.CRD_SUFF.COH_RATIO [d, c]
      let flat := 4096 ≤ bins.sum ∧ ∀ b ∈ bins, bins.sum ≤ 64 * b * ratio ∧ 64 * b ≤ bins.sum * ratio
      let suff := 65536 ≤ bs.length ∧ (s.rd F.CRD_SUFF.VAR_FLOOR [d, c] : Rat) ≤ vari ∧ 8 ≤ occupied ∧ flat
      Completes (.cardIntervalClose d c blocks) s fun t => t.rd F.CRD_STATUS.OCC_BANDS [d, c] = occupied ∧ t.tapMoves = s.tapMoves ∧
        (suff → t.rd I.cardSuff [d, c] = 1 ∧ (∀ e ∈ s.cardStats d c bs, e ∈ t.cardErrs) ∧ (s.rd F.CRD_SUFF_COUNT.COUNT [d, c] + 1 < 2 ^ 32 →
          t.rd F.CRD_SUFF_COUNT.COUNT [d, c] = s.rd F.CRD_SUFF_COUNT.COUNT [d, c] + 1)) ∧
        (¬suff → t.rd I.cardSuff [d, c] = 2 ∧ (s.rd F.CRD_INSUFF_COUNT.COUNT [d, c] + 1 < 2 ^ 32 →
            t.rd F.CRD_INSUFF_COUNT.COUNT [d, c] = s.rd F.CRD_INSUFF_COUNT.COUNT [d, c] + 1) ∧
          (bitAt (t.rd F.CRD_STATUS.LAST_CAUSE [d, c]) 0 = true ↔ bs.length < 65536) ∧
          (bitAt (t.rd F.CRD_STATUS.LAST_CAUSE [d, c]) 1 = true ↔ vari < (s.rd F.CRD_SUFF.VAR_FLOOR [d, c] : Rat)) ∧
          (bitAt (t.rd F.CRD_STATUS.LAST_CAUSE [d, c]) 2 = true ↔ occupied < 8) ∧
          (bitAt (t.rd F.CRD_STATUS.LAST_CAUSE [d, c]) 3 = true ↔ ¬flat))) ∧
    (∀ (d c i slope : Nat) (e : Rat) (s : State), s.Sound → s.rd F.CRD_STATUS.STATE [d, c] = 1 → c < 2 → i < 136 →
      s.cardErrs = [⟨d, c, i, [e]⟩] → s.cardCycle d c 64 = true →
      let goes := s.claimGoes (s.cardClaim d c) = true
      let inTol := -(s.rd F.CRD_TOL.OFS_TOL [d, c] : Rat) ≤ e ∧ e ≤ (s.rd F.CRD_TOL.OFS_TOL [d, c] : Rat)
      let suff := s.rd I.cardSuff [d, c]
      let f := if suff = 1 then F.CRD_SUFF_COUNT.COUNT else F.CRD_INSUFF_COUNT.COUNT
      (suff = 1 ∨ suff = 2 → Completes (.cardUpdateClaim d c slope) s fun t => ∀ k : RegKey, k.reg = .CRD_TRIM → t.regs.get k = s.regs.get k) ∧
      (suff = 1 ∨ suff = 2 → ¬goes → Completes (.cardUpdateClaim d c slope) s fun t =>
        t.rd F.CRD_STATUS.STATE [d, c] = 2 ∧ t.rd f [d, c] = s.rd f [d, c] - 1 ∧ t.cardErrs = []) ∧
      (suff = 2 → goes → Completes (.cardUpdateClaim d c slope) s fun t =>
        t.rd F.CRD_STATUS.STATE [d, c] = 1 ∧ t.rd I.cardSuff [d, c] = 3 ∧ t.runs (.cardUpdate d c) = true ∧ t.tapMoves = s.tapMoves) ∧
      (suff = 1 → goes → s.trained d c i = true → bitAt (s.rd F.CRD_CTRL.LOOP_EN [d, c]) 0 = true →
        Completes (.cardUpdateClaim d c slope) s fun t => t.rd F.CRD_STATUS.STARVED [d, c] = 0 ∧ t.rd I.cardSuff [d, c] = 3 ∧
          (inTol → bitAt (t.rd F.CRD_SLICE_STAT.CONV [d, c, i]) 0 = true ∧ t.tapMoves = s.tapMoves) ∧
          (¬inTol → bitAt (t.rd F.CRD_SLICE_STAT.CONV [d, c, i]) 0 = false ∧ t.tapMoves = s.tapMoves ++ [⟨d, c, i, 0, decide (e < 0)⟩]))) ∧
    (∀ (d c i loop : Nat) (up : Bool) (s : State), s.Sound → c < 2 → loop < 4 → s.rd F.CRD_STATUS.STATE [d, c] = 1 → s.rd I.cardSuff [d, c] = 3 →
      s.cardCycle d c 128 = true → s.tapMoves = [⟨d, c, i, loop, up⟩] →
      let v := (s.rd (State.trimField loop) [d, c, i] : Int) + (if up then 1 else -1)
      let t := s.cardMoves d c
      (t.rd (State.trimField loop) [d, c, i] : Int) = max 0 (min (State.trimMax loop : Int) v) ∧
      (∀ k : RegKey, k.reg = .CRD_TRIM → k ≠ ⟨.CRD_TRIM, (State.trimField loop).lo, [d, c, i]⟩ → t.regs.get k = s.regs.get k) ∧
      (v < 0 ∨ (State.trimMax loop : Int) < v → bitAt (t.rd F.CRD_SLICE_STAT.SAT [d, c, i]) loop = true) ∧
      t.tapMoves = [] ∧ t.rd I.cardSuff [d, c] = 0 ∧ t.runs (.cardUpdate d c) = false) ∧
    (∀ (d c : Nat) (s : State), s.Sound → (s.rd F.CRD_STATUS.STATE [d, c] = 1 ∨ s.rd F.CRD_STATUS.STATE [d, c] = 2) →
      s.rd F.CRD_STATUS.STARVED [d, c] = 0 → s.dueOn d (s.rd I.starveAt [d, c]) = true →
      Completes (.cardStarved d c) s fun t => t.rd F.CRD_STATUS.STARVED [d, c] = 1 ∧ t.pends d 49 = true) ∧
    (∀ (d c v : Nat) (s : State), s.Sound → s.hostReach d = true → bitAt v 0 = true → bitAt v 1 = false →
      (s.combCheck d c false (bitAt v 2) ≠ 0 → Completes (.crdCombStart d c v) s fun t =>
        t.rd F.CRD_COMB_STATUS.STATE [d, c] = s.rd F.CRD_COMB_STATUS.STATE [d, c] ∧
        ∀ k : RegKey, k.reg ≠ .CRD_COMB_CMD → t.regs.get k = s.regs.get k) ∧
      (s.combCheck d c false (bitAt v 2) = 0 → s.rd F.PWR_STATUS.THERMAL [d] = 0 → s.fits [d] 0 (s.cost 12) = true → c < 2 →
        (s.claimGoes (s.combClaim d c) = true → Completes (.crdCombStart d c v) s fun t => t.rd F.CRD_COMB_STATUS.STATE [d, c] = 2 ∧
          t.rd F.CNV_CTRL.CAL_SW [d, c] = 1 ∧ t.rd F.CNV_STATUS.CAL_ACTIVE [d, c] = 1) ∧
        (s.claimGoes (s.combClaim d c) = false → s.runs (.comb d c) = false → Completes (.crdCombStart d c v) s fun t =>
          t.rd F.CRD_COMB_STATUS.STATE [d, c] = 1))) ∧
    (∀ (d c v : Nat) (s : State), s.Sound → s.hostReach d = true → bitAt v 0 = false → bitAt v 1 = true → c < 2 → s.rd I.combEnding [d, c] = 0 →
      (s.rd F.CRD_COMB_STATUS.STATE [d, c] = 1 → Completes (.crdCombAbort d c v) s fun t =>
        t.rd F.CRD_COMB_STATUS.STATE [d, c] = 0 ∧ t.rd F.CRD_COMB_STATUS.RESULT [d, c] = 0x0211) ∧
      (2 ≤ s.rd F.CRD_COMB_STATUS.STATE [d, c] → Completes (.crdCombAbort d c v) s fun t =>
        t.rd F.CNV_CTRL.CAL_SW [d, c] = 0 ∧ t.rd I.combEnding [d, c] = 1 ∧ t.rd I.combCode [d, c] = 0x0211)) ∧
    (∀ (d c : Nat) (codes : List SliceCodes) (s : State), s.Sound → c < 2 → s.rd I.combEnding [d, c] = 0 →
      s.elapsed (s.rd I.combAt [d, c]) (s.combNext d c) = true →
      let level := s.rd F.CRD_COMB_STATUS.LEVEL [d, c]
      (s.rd F.CRD_COMB_STATUS.STATE [d, c] = 2 → Completes (.combPhaseEnd d c codes) s fun t =>
        t.rd F.CRD_COMB_STATUS.STATE [d, c] = 3 ∧ t.rd F.CRD_COMB_STATUS.LEVEL [d, c] = 0) ∧
      (s.rd F.CRD_COMB_STATUS.STATE [d, c] = 3 → level < 15 → Completes (.combPhaseEnd d c codes) s fun t =>
        t.rd F.CRD_COMB_STATUS.STATE [d, c] = 3 ∧ t.rd F.CRD_COMB_STATUS.LEVEL [d, c] = level + 1 ∧
        t.rd F.CNV_CTRL.LADDER_SEL [d, c] = level + 1) ∧
      (s.rd F.CRD_COMB_STATUS.STATE [d, c] = 3 → level = 15 → Completes (.combPhaseEnd d c codes) s fun t =>
        t.rd F.CRD_COMB_STATUS.STATE [d, c] = 4 ∧ t.rd F.CNV_CTRL.LADDER_SEL [d, c] = 12) ∧
      (s.rd F.CRD_COMB_STATUS.STATE [d, c] = 4 → Completes (.combPhaseEnd d c codes) s fun t => t.rd F.CRD_COMB_STATUS.STATE [d, c] = 5) ∧
      (s.rd F.CRD_COMB_STATUS.STATE [d, c] = 5 → Completes (.combPhaseEnd d c codes) s fun t =>
        t.rd F.CNV_CTRL.CAL_SW [d, c] = 0 ∧ t.rd I.combEnding [d, c] = 1 ∧ t.rd I.combCode [d, c] = 0)) ∧
    (∀ (d c : Nat) (s : State), s.Sound → c < 2 → s.rd I.combEnding [d, c] ≠ 0 → s.elapsed (s.rd I.combOpen [d, c]) 32 = true →
      Completes (.combDone d c) s fun t => t.rd F.CRD_COMB_STATUS.STATE [d, c] = 0 ∧
        t.rd F.CRD_COMB_STATUS.RESULT [d, c] = s.rd I.combCode [d, c] % 2 ^ 16 ∧ t.rd F.CNV_STATUS.CAL_ACTIVE [d, c] = 0) ∧
    (∀ (d v : Nat) (s : State), s.Sound → s.hostReach d = true → s.dieRetired s.control = false → bitAt v 0 = true →
      s.rd F.CRD_STORE_STATUS.BUSY [] ≠ 0 → s.rd F.PWR_STATUS.THERMAL [s.control] = 0 → s.fits [0, 1] 0 (s.cost 13) = true →
      Completes (.crdStoreWrite d v) s fun t => t.rd F.CRD_STORE_STATUS.PENDING [] ≠ 0 ∧ t.rd F.CRD_STORE_STATUS.BUSY [] ≠ 0) ∧
    (∀ s : State, s.Sound → s.rd F.CRD_STORE_STATUS.PENDING [] ≠ 0 → s.storeHeld = false → s.runs .storeWrite = false →
      s.waits .storeWrite = false → s.claimGoes ⟨.storeWrite, 4, s.control, [8]⟩ = true → s.bobbin.length ≤ 60000 →
      let base := slotBase s.storeTarget
      let body := s.storeBody
      Completes .storeWriteStart s fun t => t.rd F.CRD_STORE_STATUS.BUSY [] = 1 ∧ t.rd F.CRD_STORE_STATUS.PENDING [] = 0 ∧ t.snapshot = body ∧
        t.flashBytes base body.length = body ∧ (∀ a, base + body.length ≤ a → a < base + 0x100000 → t.flashGet a = 255) ∧
        ∀ a, a < base ∨ base + 0x100000 ≤ a → t.flashGet a = s.flashGet a) ∧
    (∀ s : State, s.Sound → s.rd F.CRD_STORE_STATUS.BUSY [] ≠ 0 → s.snapshot.length + 4 ≤ 0xFFFF0 →
      let k := s.storeTarget
      let gen := if s.rd I.storeSlot [] = 2 then 1 else s.rd F.CRD_STORE_GEN.GEN [] + 1
      (Completes (.storeWriteComplete true) s fun t => t.rd F.CRD_STORE_STATUS.BUSY [] = 0 ∧ t.rd F.CRD_STORE_GEN.GEN [] = gen % 2 ^ 32 ∧
        t.rd I.storeSlot [] = k ∧ t.flashBytes (slotBase k + s.snapshot.length) 4 = le 4 (crcBytes s.snapshot) ∧
        t.flashBytes (slotBase k + 0xFFFF0) 16 = commitWord gen ∧
        (s.flashBytes (slotBase k) s.snapshot.length = s.snapshot → s.slotLen k + 0x40 = s.snapshot.length → gen + 1 < 2 ^ 32 →
          t.slotValid k = true ∧ t.slotGen k = gen)) ∧
      Completes (.storeWriteComplete false) s fun t => t.rd F.CRD_STORE_STATUS.BUSY [] = 0 ∧ t.rd F.CRD_STORE_STATUS.WRITE_FAIL [] = 1 ∧
        t.rd F.CRD_STORE_GEN.GEN [] = s.rd F.CRD_STORE_GEN.GEN [] ∧
        t.flashBytes (slotBase k + 0xFFFF0) 16 = s.flashBytes (slotBase k + 0xFFFF0) 16)

/-- Conditioning registers obey R129, R130, R136, R144; the FIR bank machine and settling follow R137 to R140 and R146. For every sound state,
of a channel whose registers host software reaches. A write of EQ_CTRL that changes something sets CFG_REJECT on an armed channel; on an
idle one it waits for the end of its core cycle, and what runs follows with the next block, with the pending bit of EQ_SWAP. A coefficient
write to the bank in use of an armed channel (for the FIR, also in a cycle of a fade, its first or last included) leaves every tap and
sets WRITE_REJECT; another stores the tap. FIR_CTRL takes FADE_LEN always, DECIM only on an idle channel. A swap request that finds the
bank machine busy becomes PENDING; one for the other bank waits for its first output while the FIR runs, and completes at once otherwise.
The first output of a waiting fade starts it, or completes it where FADE_LEN is 0; the last output, after the requests of its cycle, makes
the target active, and starts the next fade where another bank is pending. A write of DEC_CTRL, DEC_RATIO, RSM_CTRL or RSM_RATIO that
changes the setting is ignored with CFG_REJECT on an armed channel; on an idle one of a running chain it restarts stages 7 and 8 at the
end of the cycle: SETTLING stays 1 while the configuration is invalid, is 0 with nothing to settle, else 1 until cycle 24 of the block of
the span's last sample, when COND_SETTLED is raised. Rests on R129, R130, R136, R137, R138, R139, R140, R144, R146, R148. -/
def Obligations.ConditioningRegistersAndFir : Prop :=
  (∀ (d c v : Nat) (s : State), s.Sound → s.hostReach d = true →
      (s.rd F.EQ_CTRL.BANK [d, c] ≠ v % 2 ∨ s.rd F.EQ_CTRL.BYPASS [d, c] ≠ v / 2 % 2 →
        (s.armed d c = true → Completes (.eqCtrlWrite d c v) s fun t => t.rd F.EQ_STATUS.CFG_REJECT [d, c] = 1 ∧
          ∀ k : RegKey, k.reg = .EQ_CTRL → t.regs.get k = s.regs.get k) ∧
        (s.armed d c = false → CompletesAtEnd (.eqCtrlWrite d c v) s fun t => t.rd F.EQ_CTRL.BANK [d, c] = v % 2 ∧
          t.rd F.EQ_CTRL.BYPASS [d, c] = v / 2 % 2 ∧ t.rd F.EQ_STATUS.ACTIVE_BANK [d, c] = s.rd F.EQ_STATUS.ACTIVE_BANK [d, c])) ∧
      (s.rd F.EQ_CTRL.BANK [d, c] = v % 2 → s.rd F.EQ_CTRL.BYPASS [d, c] = v / 2 % 2 →
        CompletesAtEnd (.eqCtrlWrite d c v) s fun t => t = s)) ∧
    (∀ (d c : Nat) (s : State), s.Sound → s.inert c = false →
      (s.rd F.EQ_STATUS.ACTIVE_BANK [d, c] ≠ s.rd F.EQ_CTRL.BANK [d, c] ∨ s.rd F.EQ_STATUS.BYPASSED [d, c] ≠ s.rd F.EQ_CTRL.BYPASS [d, c]) →
      (∀ f ∈ [F.EQ_STATUS.ACTIVE_BANK, F.EQ_STATUS.BYPASSED, F.EQ_CTRL.BANK, F.EQ_CTRL.BYPASS], s.rd f [d, c] < 2) →
      let t := s.eqTick d c
      t.rd F.EQ_STATUS.ACTIVE_BANK [d, c] = s.rd F.EQ_CTRL.BANK [d, c] ∧ t.rd F.EQ_STATUS.BYPASSED [d, c] = s.rd F.EQ_CTRL.BYPASS [d, c] ∧
        t.pends d 72 = true ∧ t.rd I.eqFrom [d, c] = s.blkNo d * s.blockLen % 2 ^ 128) ∧
    (∀ (d c b k v : Nat) (s : State), s.Sound → s.hostReach d = true →
      (s.rd F.EQ_STATUS.ACTIVE_BANK [d, c] = b ∧ s.armed d c = true → Completes (.eqCoefWrite d c b k v) s fun t =>
        t.rd F.EQ_STATUS.WRITE_REJECT [d, c] ≠ 0 ∧ ∀ j : RegKey, j.reg = .EQ_COEF → t.regs.get j = s.regs.get j) ∧
      (¬(s.rd F.EQ_STATUS.ACTIVE_BANK [d, c] = b ∧ s.armed d c = true) → Completes (.eqCoefWrite d c b k v) s fun t =>
        t.rd F.EQ_COEF.COEF [d, c, b, k] = v % 2 ^ 20) ∧
      let fading := s.rd F.FIR_STATUS.FADING [d, c] ≠ 0 ∨ s.fadeDue d c = true ∨ s.rd I.fadeTouch [d, c] = s.now + 1
      let inUse := s.firRunning d c = true ∧ (fading ∨ s.rd F.FIR_STATUS.ACTIVE [d, c] = b ∧ s.armed d c = true)
      (inUse → Completes (.firCoefWrite d c b k v) s fun t =>
        t.rd F.FIR_STATUS.WRITE_REJECT [d, c] ≠ 0 ∧ ∀ j : RegKey, j.reg = .FIR_COEF → t.regs.get j = s.regs.get j) ∧
      (¬inUse → Completes (.firCoefWrite d c b k v) s fun t => t.rd F.FIR_COEF.COEF [d, c, b, k] = v % 2 ^ 20)) ∧
    (∀ (d c v : Nat) (s : State), s.Sound → s.hostReach d = true →
      (s.armed d c = true → v % 32 ≠ s.rd F.FIR_CTRL.DECIM [d, c] → Completes (.firCtrlSwap d c v) s fun t =>
        t.rd F.FIR_STATUS.CFG_REJECT [d, c] = 1 ∧ t.rd F.FIR_CTRL.FADE_LEN [d, c] = v / 256 % 2 ^ 16 ∧
        t.rd F.FIR_CTRL.DECIM [d, c] = s.rd F.FIR_CTRL.DECIM [d, c]) ∧
      (s.armed d c = false ∨ v % 32 = s.rd F.FIR_CTRL.DECIM [d, c] → CompletesAtEnd (.firCtrlSwap d c v) s fun t =>
        t.rd F.FIR_CTRL.FADE_LEN [d, c] = v / 256 % 2 ^ 16 ∧ t.rd F.FIR_CTRL.DECIM [d, c] = v % 32) ∧
      (v % 32 = s.rd F.FIR_CTRL.DECIM [d, c] → bitAt v 5 = true → s.inert c = false →
        (s.fadeBusy d c = true → CompletesAtEnd (.firCtrlSwap d c v) s fun t => t.rd F.FIR_STATUS.PENDING [d, c] = 1 ∧
          t.rd F.FIR_STATUS.PENDING_BANK [d, c] = v / 64 % 2 ∧ t.pends d 75 = true ∧
          t.rd F.FIR_STATUS.ACTIVE [d, c] = s.rd F.FIR_STATUS.ACTIVE [d, c]) ∧
        (s.fadeBusy d c = false → v / 64 % 2 ≠ s.rd F.FIR_STATUS.ACTIVE [d, c] → s.firRunning d c = true →
          CompletesAtEnd (.firCtrlSwap d c v) s fun t => t.rd I.fadeWait [d, c] = 1 ∧ t.rd I.fadeTo [d, c] = v / 64 % 2 ∧
            t.rd I.fadeAt [d, c] = s.firNext d c % 2 ^ 96 ∧ t.rd F.FIR_STATUS.ACTIVE [d, c] = s.rd F.FIR_STATUS.ACTIVE [d, c]) ∧
        (s.fadeBusy d c = false → v / 64 % 2 ≠ s.rd F.FIR_STATUS.ACTIVE [d, c] → s.firRunning d c = false →
          CompletesAtEnd (.firCtrlSwap d c v) s fun t => t.rd F.FIR_STATUS.ACTIVE [d, c] = v / 64 % 2 ∧ t.pends d 74 = true))) ∧
    (∀ (d c : Nat) (s : State), s.Sound → s.firRunning d c = true → s.fadeDue d c = true → s.rd F.FIR_STATUS.PENDING [d, c] = 0 →
      let l := s.rd F.FIR_CTRL.FADE_LEN [d, c]
      (l ≠ 0 → l < 2 ^ 16 → Completes (.firFadeStart d c) s fun t => t.rd F.FIR_STATUS.FADING [d, c] = 1 ∧
        t.rd F.FIR_STATUS.FADE_POS [d, c] = min (s.firNext d c - 1 - s.rd I.fadeAt [d, c]) (l - 1) ∧ t.rd I.fadeLen [d, c] = l ∧
        t.rd F.FIR_STATUS.ACTIVE [d, c] = s.rd F.FIR_STATUS.ACTIVE [d, c] ∧ t.pends d 73 = true) ∧
      (l = 0 → Completes (.firFadeStart d c) s fun t => t.rd F.FIR_STATUS.FADING [d, c] = 0 ∧
        t.rd F.FIR_STATUS.ACTIVE [d, c] = s.rd I.fadeTo [d, c] % 2 ∧ t.pends d 73 = true ∧ t.pends d 74 = true)) ∧
    (∀ (d c : Nat) (s : State), s.Sound → s.fadeOver d c = true →
      (s.rd F.FIR_STATUS.PENDING [d, c] = 0 ∨ s.rd F.FIR_STATUS.PENDING_BANK [d, c] = s.rd I.fadeTo [d, c] →
        CompletesAtEnd (.firFadeEnd d c) s fun t => t.rd F.FIR_STATUS.ACTIVE [d, c] = s.rd I.fadeTo [d, c] % 2 ∧
          t.rd F.FIR_STATUS.FADING [d, c] = 0 ∧ t.rd F.FIR_STATUS.PENDING [d, c] = 0 ∧ t.pends d 74 = true) ∧
      (s.rd F.FIR_STATUS.PENDING [d, c] ≠ 0 → s.rd F.FIR_STATUS.PENDING_BANK [d, c] ≠ s.rd I.fadeTo [d, c] →
        s.rd F.FIR_CTRL.FADE_LEN [d, c] ≠ 0 →
        CompletesAtEnd (.firFadeEnd d c) s fun t => t.rd F.FIR_STATUS.ACTIVE [d, c] = s.rd I.fadeTo [d, c] % 2 ∧
          t.rd F.FIR_STATUS.FADING [d, c] = 1 ∧ t.rd F.FIR_STATUS.PENDING [d, c] = 0 ∧
          t.rd I.fadeAt [d, c] = (s.rd I.fadeAt [d, c] + s.rd I.fadeLen [d, c]) % 2 ^ 96 ∧ t.pends d 73 = true ∧ t.pends d 74 = true)) ∧
    (∀ (d c r v : Nat) (f reject : Fld) (s : State), s.Sound → s.hostReach d = true →
      (r, f, reject) ∈ [(0, F.DEC_CTRL.MODE, F.DEC_STATUS.CFG_REJECT), (1, F.DEC_RATIO.RATIO, F.DEC_STATUS.CFG_REJECT),
        (3, F.RSM_CTRL.ENABLE, F.RSM_STATUS.CFG_REJECT)] →
      v % 2 ^ f.width ≠ s.rd f [d, c] →
      (s.armed d c = true → Completes (.condConfigWrite d c r v) s fun t => t.rd reject [d, c] = 1 ∧
        ∀ k : RegKey, k.reg ∈ [.DEC_CTRL, .DEC_RATIO, .RSM_CTRL, .RSM_RATIO] → t.regs.get k = s.regs.get k) ∧
      (s.armed d c = false → s.mode.acquires = true → s.inert c = false →
        CompletesAtEnd (.condConfigWrite d c r v) s fun t => t.rd f [d, c] = v % 2 ^ f.width ∧
          t.rd F.RSM_STATUS.ACTIVE [d, c] = t.rd F.RSM_CTRL.ENABLE [d, c] % 2 ∧
          (t.condConfig d c ≠ 0 → t.rd F.DEC_STATUS.SETTLING [d, c] = 1 ∧ t.rd I.settleTimed [d, c] = 0) ∧
          (t.condConfig d c = 0 → t.settleSpan d c = 0 → t.rd F.DEC_STATUS.SETTLING [d, c] = 0) ∧
          (t.condConfig d c = 0 → t.settleSpan d c ≠ 0 → t.rd F.DEC_STATUS.SETTLING [d, c] = 1 ∧ t.rd I.settleTimed [d, c] = 1 ∧
            t.rd I.settleBlk [d, c] = (s.blkNo d + 1 + (t.settleSpan d c - 1) / s.blockLen + 24) % 2 ^ 96))) ∧
    (∀ (d c v : Nat) (s : State), s.Sound → s.hostReach d = true → v % 2 ^ 32 ≠ s.rd F.RSM_RATIO.RATIO [d, c] % 2 ^ 32 →
      s.rd F.RSM_RATIO.RATIO [d, c] < 2 ^ 48 →
      (s.armed d c = true → Completes (.condConfigWrite d c 4 v) s fun t => t.rd F.RSM_STATUS.CFG_REJECT [d, c] = 1 ∧
        t.rd F.RSM_RATIO.RATIO [d, c] = s.rd F.RSM_RATIO.RATIO [d, c]) ∧
      (s.armed d c = false → CompletesAtEnd (.condConfigWrite d c 4 v) s fun t => t.rd F.RSM_RATIO.RATIO [d, c] % 2 ^ 32 = v % 2 ^ 32 ∧
        t.rd F.RSM_RATIO.RATIO [d, c] / 2 ^ 32 = s.rd F.RSM_RATIO.RATIO [d, c] / 2 ^ 32)) ∧
    (∀ (d c : Nat) (s : State), s.Sound → s.mode.acquires = true → s.settleDue d c = true → s.inert c = false →
      Completes (.condSettled d c) s fun t => t.rd F.DEC_STATUS.SETTLING [d, c] = 0 ∧ t.pends d 78 = true)

/-- The attenuator, overload episodes and the comparators follow R76, R81, R82 and R289 to R301. For every sound state in which the command's
moment has come. A write of ATTEN that leaves it changes no register but CNV_CTRL; one that changes it on an armed channel is ignored with
ATTEN_REJECT; on an idle channel it acts, shows SETTLING and sets the overload thresholds, and for C1 in PAIRED mode it is stored alone;
settling ends after 2,500 core cycles with the pending bit of CNV_ATTEN. An input of a comparator acts at the end of its core cycle. One
that takes an overload pair that has been clear beyond U, or below D, opens an episode with its sticky bit and count, and its event where
enabled; an episode ends once both comparators have been clear for 64 cycles. An input at or above U, or below D, moves OUT of a unit that
is neither settling, blanking nor unresolved; one between them leaves it; during settling or blanking a transition is counted and OUT is
held; an unresolved unit resolves at the first rise to U, with the pending bit of CMP_RESOLVED. When settling or a blanking window ends,
OUT takes the comparator's present value. A timer pulse opens the window of each powered unit that uses the timer. Writes of CMP_CTRL,
CMP_THRESH and CMP_BLANK set their fields; EN = 0 on units 2 to 5 is ignored with CFG_REJECT. A spare in shadow becomes SUBSTITUTED where
it agrees with its unit, else FAILED. Rests on R76, R81, R82, R90, R289, R290, R293, R297, R298, R300, R301, R302. -/
def Obligations.AttenuatorOverloadComparators : Prop :=
  (∀ (d c v : Nat) (s : State), s.Sound → s.hostReach d = true →
      (v % 8 = s.rd F.CNV_CTRL.ATTEN [d, c] ∨ s.mode = .paired ∧ c = 1 → Completes (.attenWrite d c v) s fun t =>
        t.rd F.CNV_CTRL.ATTEN [d, c] = v % 8 ∧ t.rd F.CNV_CTRL.OVLD_EVT_EN [d, c] = v / 256 % 2 ∧
        ∀ k : RegKey, k.reg ≠ .CNV_CTRL → t.regs.get k = s.regs.get k) ∧
      (v % 8 ≠ s.rd F.CNV_CTRL.ATTEN [d, c] → ¬(s.mode = .paired ∧ c = 1) →
        (s.armed d c = true → Completes (.attenWrite d c v) s fun t => t.rd F.CNV_STATUS.ATTEN_REJECT [d, c] = 1 ∧
          t.rd F.CNV_CTRL.ATTEN [d, c] = s.rd F.CNV_CTRL.ATTEN [d, c] ∧
          t.rd F.CNV_STATUS.SETTLING [d, c] = s.rd F.CNV_STATUS.SETTLING [d, c]) ∧
        (s.armed d c = false → Completes (.attenWrite d c v) s fun t => t.rd F.CNV_CTRL.ATTEN [d, c] = v % 8 ∧
          t.rd F.CNV_STATUS.SETTLING [d, c] = 1 ∧ t.rd F.CMP_THRESH.THRESH [d, 2 + 2 * c] = ovldThresh (v % 8) ∧
          t.rd F.CMP_THRESH.THRESH [d, 3 + 2 * c] = 4096 - ovldThresh (v % 8) ∧ t.rd F.CMP_THRESH.HYST [d, 2 + 2 * c] = 4 ∧
          t.rd F.CMP_THRESH.HYST [d, 3 + 2 * c] = 4))) ∧
    (∀ (d c : Nat) (s : State), s.Sound → s.rd F.CNV_STATUS.SETTLING [d, c] ≠ 0 →
      (s.elapsed (s.rd I.settleAt [d, c]) 2500 = true → Completes (.attenSettled d c) s fun t =>
        t.rd F.CNV_STATUS.SETTLING [d, c] = 0 ∧ t.pends d 42 = true) ∧
      (s.elapsed (s.rd I.settleAt [d, c]) 2500 = false → Completes (.attenSettled d c) s fun t => t = s)) ∧
    (∀ (d c lo : Nat) (at_ : Instant) (v : Int) (s : State), s.Sound → c < 2 → lo < 2 →
      let u := 2 + 2 * c + lo
      s.rd I.cmpPower [d, u] ≠ 0 → s.rd I.cmpStart [d, u] = 0 → s.rd F.CMP_STATUS.SETTLING [d, u] = 0 → s.rd F.CMP_STATUS.BLANKING [d, u] = 0 →
      s.rd F.CMP_STATUS.UNRESOLVED [d, u] = 0 → s.rd I.cmpIn [d, u] = lo → s.rd F.CMP_CTRL.POL [d, u] = lo →
      s.rd F.CMP_STATUS.ASSERTED [d, u] = 0 → s.rd F.CNV_STATUS.OVLD_EPISODE [d, c] = 0 →
      (if lo = 0 then 500 * (2 * s.cmpThresh d u + s.rd F.CMP_THRESH.HYST [d, u]) ≤ 2 * v
        else 2 * v < 500 * (2 * s.cmpThresh d u - s.rd F.CMP_THRESH.HYST [d, u])) →
      CompletesAtEnd (.overloadTrip d c lo (at_, v)) s fun t => t.rd F.CNV_STATUS.OVLD_EPISODE [d, c] = 1 ∧ t.rd F.CNV_STATUS.OVLD_STICKY [d, c] = 1 ∧
        t.rd (if lo = 0 then F.CNV_STATUS.OVLD_HI else F.CNV_STATUS.OVLD_LO) [d, c] = 1 ∧
        (s.rd F.CNV_OVLD_COUNT.COUNT [d, c] + 1 < 2 ^ 32 → t.rd F.CNV_OVLD_COUNT.COUNT [d, c] = s.rd F.CNV_OVLD_COUNT.COUNT [d, c] + 1) ∧
        (s.rd F.CNV_CTRL.OVLD_EVT_EN [d, c] ≠ 0 → t.pends d (40 + c) = true)) ∧
    (∀ (d c : Nat) (s : State), s.Sound → s.rd F.CNV_STATUS.OVLD_EPISODE [d, c] = 1 → s.rd F.CNV_STATUS.OVLD_HI [d, c] = 0 →
      s.rd F.CNV_STATUS.OVLD_LO [d, c] = 0 →
      (s.elapsed (s.rd I.ovldClear [d, c]) 64 = true → Completes (.overloadEpisodeEnd d c) s fun t =>
        t.rd F.CNV_STATUS.OVLD_EPISODE [d, c] = 0 ∧ (s.rd F.CNV_CTRL.OVLD_EVT_EN [d, c] ≠ 0 → t.pends d (40 + c) = true)) ∧
      (s.elapsed (s.rd I.ovldClear [d, c]) 64 = false → Completes (.overloadEpisodeEnd d c) s fun t => t = s)) ∧
    (∀ (d u : Nat) (at_ : Instant) (v : Int) (s : State), s.Sound → u < 12 → s.rd I.cmpPower [d, u] ≠ 0 →
      let step := (State.cmpScale u).2
      let x := 2 * (v - (State.cmpScale u).1)
      let high := (2 * s.cmpThresh d u + s.rd F.CMP_THRESH.HYST [d, u]) * step ≤ x
      let low := x < (2 * s.cmpThresh d u - s.rd F.CMP_THRESH.HYST [d, u]) * step
      let level := if high then 1 else 0
      (¬high → ¬low → CompletesAtEnd (.comparatorTransition d u at_ v) s fun t => t.rd I.cmpStart [d, u] = 0 ∧
        t.rd F.CMP_STATUS.OUT [d, u] = s.rd F.CMP_STATUS.OUT [d, u] ∧
        t.rd F.CMP_STATUS.UNRESOLVED [d, u] = s.rd F.CMP_STATUS.UNRESOLVED [d, u]) ∧
      (high ∨ low → s.rd I.cmpStart [d, u] ≠ 0 → CompletesAtEnd (.comparatorTransition d u at_ v) s fun t => t.rd I.cmpStart [d, u] = 0 ∧
        t.rd F.CMP_STATUS.OUT [d, u] = level ∧ t.rd F.CMP_STATUS.UNRESOLVED [d, u] = 0) ∧
      (high ∨ low → s.rd I.cmpStart [d, u] = 0 → s.rd I.cmpIn [d, u] = 1 - level →
        (s.rd F.CMP_STATUS.SETTLING [d, u] ≠ 0 ∨ s.rd F.CMP_STATUS.BLANKING [d, u] ≠ 0 → s.rd F.CMP_BLANK_COUNT.COUNT [d, u] + 1 < 2 ^ 32 →
          CompletesAtEnd (.comparatorTransition d u at_ v) s fun t =>
            t.rd F.CMP_BLANK_COUNT.COUNT [d, u] = s.rd F.CMP_BLANK_COUNT.COUNT [d, u] + 1 ∧ t.rd I.cmpIn [d, u] = level ∧
            t.rd F.CMP_STATUS.OUT [d, u] = s.rd F.CMP_STATUS.OUT [d, u]) ∧
        (s.rd F.CMP_STATUS.SETTLING [d, u] = 0 → s.rd F.CMP_STATUS.BLANKING [d, u] = 0 →
          (s.rd F.CMP_STATUS.UNRESOLVED [d, u] = 0 → CompletesAtEnd (.comparatorTransition d u at_ v) s fun t =>
            t.rd F.CMP_STATUS.OUT [d, u] = level ∧ t.rd I.cmpIn [d, u] = level) ∧
          (s.rd F.CMP_STATUS.UNRESOLVED [d, u] ≠ 0 → high → CompletesAtEnd (.comparatorTransition d u at_ v) s fun t =>
            t.rd F.CMP_STATUS.OUT [d, u] = 1 ∧ t.rd F.CMP_STATUS.UNRESOLVED [d, u] = 0 ∧ t.pends d 186 = true)))) ∧
    (∀ (d u : Nat) (s : State), s.Sound → u < 12 →
      (s.rd F.CMP_STATUS.SETTLING [d, u] ≠ 0 → s.dueOn d (s.rd I.cmpSettleDt [d, u]) = true →
        Completes (.cmpSettlingEnd d u) s fun t => t.rd F.CMP_STATUS.SETTLING [d, u] = 0 ∧
          (s.rd F.CMP_STATUS.BLANKING [d, u] = 0 → s.rd F.CMP_STATUS.UNRESOLVED [d, u] = 0 → s.rd I.cmpIn [d, u] < 2 →
            s.rd F.CMP_STATUS.OUT [d, u] < 2 → t.rd F.CMP_STATUS.OUT [d, u] = s.rd I.cmpIn [d, u])) ∧
      (s.rd F.CMP_STATUS.BLANKING [d, u] ≠ 0 → s.dueOn d (s.rd I.cmpBlankDt [d, u]) = true →
        Completes (.blankWindowClose d u) s fun t => (s.rd F.CMP_CTRL.BLANK_SRC [d, u] ≠ 1 → t.rd F.CMP_STATUS.BLANKING [d, u] = 0) ∧
          (s.rd F.CMP_STATUS.SETTLING [d, u] = 0 → s.rd F.CMP_STATUS.UNRESOLVED [d, u] = 0 → s.rd I.cmpIn [d, u] < 2 →
            s.rd F.CMP_STATUS.OUT [d, u] < 2 → t.rd F.CMP_STATUS.OUT [d, u] = s.rd I.cmpIn [d, u]))) ∧
    (∀ (d k t₀ : Nat) (s : State), s.Sound → s.rd F.CMP_BLANK_TMR.PERIOD [d, k] ≠ 0 → s.dueOn d t₀ = true →
      (t₀ + 2 ^ 64 - 1024 * s.rd F.CMP_BLANK_TMR.OFFSET [d, k]) % 2 ^ 64 % (1024 * s.rd F.CMP_BLANK_TMR.PERIOD [d, k]) = 0 →
      Completes (.blankTimerPulse d k t₀) s fun t => ∀ u < 12, s.rd I.cmpPower [d, u] ≠ 0 → s.rd F.CMP_CTRL.BLANK_SRC [d, u] = 2 + k →
        s.rd F.CMP_BLANK.LEN [d, u] ≠ 0 → t.rd F.CMP_STATUS.BLANKING [d, u] = 1 ∧
          t.rd I.cmpBlankDt [d, u] = (t₀ + 1024 * s.rd F.CMP_BLANK.LEN [d, u]) % 2 ^ 64) ∧
    (∀ (d u v : Nat) (s : State), s.Sound → s.hostReach d = true → u < 12 →
      Completes (.cmpCtrlWrite d u 0 v) s (fun t => t.rd F.CMP_CTRL.MODE [d, u] = v / 2 % 4 ∧ t.rd F.CMP_CTRL.EVT_EN [d, u] = v / 64 % 2 ∧
        t.rd F.CMP_CTRL.BLANK_SRC [d, u] = v / 256 % 4 ∧ t.rd F.CMP_CTRL.POL [d, u] = s.rd F.CMP_CTRL.POL [d, u] ∧
        (2 ≤ u → u ≤ 5 → v % 2 = 0 → t.rd F.CMP_CTRL.EN [d, u] = s.rd F.CMP_CTRL.EN [d, u] ∧ t.rd F.CMP_STATUS.CFG_REJECT [d, u] ≠ 0) ∧
        ((u < 2 ∨ 5 < u) → s.rd F.CMP_CTRL.EN [d, u] < 2 → t.rd F.CMP_CTRL.EN [d, u] = v % 2)) ∧
      Completes (.cmpCtrlWrite d u 1 v) s (fun t => t.rd F.CMP_THRESH.THRESH [d, u] = v % 4096 ∧
        t.rd F.CMP_THRESH.HYST [d, u] = v / 4096 % 64 ∧ (s.rd I.cmpPower [d, u] ≠ 0 → t.rd F.CMP_STATUS.SETTLING [d, u] = 1)) ∧
      Completes (.cmpCtrlWrite d u 2 v) s fun t => t.rd F.CMP_BLANK.LEN [d, u] = v % 2 ^ 16) ∧
    (∀ (d u : Nat) (agrees : Bool) (s : State), s.Sound → u < 12 → s.rd F.CMP_SPARE_MAP.S0_STATE [d] = 1 →
      s.rd F.CMP_SPARE_MAP.S0_UNIT [d] = u → Completes (.cmpSpareSwap d u agrees) s fun t =>
        t.rd F.CMP_SPARE_MAP.S0_STATE [d] = (if agrees then 2 else 3) ∧ t.rd F.CMP_SPARE_MAP.S0_UNIT [d] = u)

/-- Levels, terms, sequencer deadlines and forces follow R151, R152, R154, R163, R164, R167, R169 to R172, R176 and R482. For every sound
state in which the command's moment has come. A sample of the block handled moves each level of its channel by R151, at its stage 5 value:
to HIGH at or above U, to LOW below D, else as it was; a rise from LOW reaches the engine as a crossing. A write of TRG_LEVEL sets its
fields at the end of the cycle and keeps every level's state. A write of a term is ignored with CFG_REJECT while an armed sequencer uses
the term; else it sets the fields at the end of the cycle, and one that changes TYPE forgets a pulse in progress, starts the TIMEOUT count
anew and keeps the fire count. A TIMEOUT term that reaches its deadline fires once, after the crossings of its cycle, and waits for the
next crossing. In RUN one fire of a term in ADV_MASK moves the sequencer to NEXT with its DT as the entry DT, or issues a trigger at its
DT where NEXT's entry action says so. A WITHIN deadline returns the state to RST_TO. An auto deadline issues a forced trigger at its tick
with TERM 0x1F and the pending bit of TRG_TRIG where enabled. A trigger leads to DEAD for 17 blocks, unless it ends the last armed set. At
the end of the dead time the sequencer is in state 0, in HOLDOFF while the hold-off runs, else in RUN; the hold-off deadline leads to RUN
with the state kept. A force waits for the engine's block; there it issues a trigger in RUN or HOLDOFF, and is dropped and counted in
another phase. The deadlines act after the arrivals of their cycle. Rests on R151, R152, R154, R163, R164, R167, R169, R170, R171, R172,
R176, R482. -/
def Obligations.LevelsTermsAndSequencers : Prop :=
  (∀ (t₀ : Instant) (chan : Nat) (xs : List Int) (n : Nat) (s : State), s.Sound → s.mode.acquires = true → chan < 4 → n < 4 →
      s.calNow (chan / 2) (chan % 2) = false → s.inert (chan % 2) = false → s.landsOn (chan / 2) (t₀ / 4096) = true →
      let at_ : Int := (s.sampleAt (chan / 2) t₀ : Nat)
      let x := (s.stage5 (chan / 2) (chan % 2) (at_ - 82) xs at_).1
      let old := s.rd F.TRG_LEVEL_STAT.STATE [chan / 2, chan % 2, n]
      let u := sval 16 (s.rd F.TRG_LEVEL.LEVEL [chan / 2, chan % 2, n]) + 32 * s.rd F.TRG_LEVEL.HYST [chan / 2, chan % 2, n]
      let l := sval 16 (s.rd F.TRG_LEVEL.LEVEL [chan / 2, chan % 2, n]) - 32 * s.rd F.TRG_LEVEL.HYST [chan / 2, chan % 2, n]
      old ≤ 2 → Completes (.levelCrossing t₀ [⟨chan, xs⟩]) s fun t =>
        t.rd F.TRG_LEVEL_STAT.STATE [chan / 2, chan % 2, n] = (if u ≤ x then 2 else if x < l then 1 else old) ∧
        (old = 1 → u ≤ x → ∃ e : Crossing, Arrival.crossing (chan / 2) t₀ e ∈ t.arrivals ∧ e.src = chan % 2 ∧ e.level = n ∧ e.rising = true)) ∧
    (∀ (d c n v : Nat) (s : State), s.Sound → s.hostReach d = true → CompletesAtEnd (.trgLevelWrite d c n v) s fun t =>
      t.rd F.TRG_LEVEL.LEVEL [d, c, n] = v % 2 ^ 16 ∧ t.rd F.TRG_LEVEL.HYST [d, c, n] = v / 2 ^ 16 % 256 ∧
      ∀ k : RegKey, k.reg = .TRG_LEVEL_STAT → t.regs.get k = s.regs.get k) ∧
    (∀ (d x v : Nat) (s : State), s.Sound → s.hostReach d = true →
      let user (q : Nat) := s.seqArmed d q = true ∧ bitAt (s.seqUsed d q) x = true
      (∀ w q, q < 2 → user q → Completes (.termConfigWrite d x w v) s fun t => t.rd F.TRG_SEQ_STATUS.CFG_REJECT [d, q] ≠ 0 ∧
        ∀ k : RegKey, k.reg ∈ [.TRG_TERM_CFG, .TRG_TERM_T1, .TRG_TERM_T2, .TRG_PAT_ANA, .TRG_PAT_LOG] → t.regs.get k = s.regs.get k) ∧
      (¬user 0 → ¬user 1 → v % 8 ≠ s.rd F.TRG_TERM_CFG.TYPE [d, x] → CompletesAtEnd (.termConfigWrite d x 0 v) s fun t =>
        t.rd F.TRG_TERM_CFG.TYPE [d, x] = v % 8 ∧ t.rd F.TRG_TERM_CFG.SRC [d, x] = v / 16 % 64 ∧
        t.rd F.TRG_TERM_CFG.LEVEL_A [d, x] = v / 1024 % 4 ∧ t.rd F.TRG_TERM_CFG.LEVEL_B [d, x] = v / 4096 % 4 ∧
        t.rd F.TRG_TERM_CFG.SLOPE [d, x] = v / 2 ^ 14 % 4 ∧ t.rd F.TRG_TERM_CFG.COND [d, x] = v / 2 ^ 16 % 8 ∧
        t.rd I.termAOn [d, x] = 0 ∧ t.rd I.termBOn [d, x] = 0 ∧ t.rd I.toutOn [d, x] = 1 ∧
        t.rd F.TRG_TERM_COUNT.COUNT [d, x] = s.rd F.TRG_TERM_COUNT.COUNT [d, x])) ∧
    (∀ (d x : Nat) (deadline : Instant) (s : State), s.Sound → s.timeoutDeadline d x = some deadline →
      (s.dueOn d (deadline / 4096) = true → CompletesAtEnd (.timeoutTermExpiry d x) s (fun t => t = s) ∧
        (s.timeoutFires d x).1.rd I.toutOn [d, x] = 0 ∧
        (s.timeoutFires d x).1.rd F.TRG_TERM_COUNT.COUNT [d, x] = (s.rd F.TRG_TERM_COUNT.COUNT [d, x] + 1) % 2 ^ 32 ∧
        (s.timeoutFires d x).2.map (·.2) = [⟨x, deadline, false⟩]) ∧
      (s.dueOn d (deadline / 4096) = false → Completes (.timeoutTermExpiry d x) s fun t => t = s)) ∧
    (∀ (d q : Nat) (t₀ : Instant) (f : TermFire) (s : State), s.Sound → s.rd F.TRG_SEQ_STATUS.PHASE [d, q] = 1 →
      instGe t₀ (s.rd I.seqFrom [d, q]) = true → bitAt (s.seqUsed d q) f.term = true →
      let st := s.rd F.TRG_SEQ_STATUS.STATE [d, q]
      let next := s.rd F.SEQ_STATE.NEXT [d, q, st]
      s.rd F.SEQ_STATE.QUAL [d, q, st] = 0 → bitAt (s.rd F.SEQ_STATE.ADV_MASK [d, q, st]) f.term = true →
      bitAt (s.rd F.SEQ_STATE.RST_MASK [d, q, st]) f.term = false →
      let t := s.seqTakes d q t₀ [f]
      (s.rd F.SEQ_STATE.ENTRY [d, q, next] = 0 → t.rd F.TRG_SEQ_STATUS.STATE [d, q] = next % 16 ∧
        t.rd I.seqEntry [d, q] = f.dt % 2 ^ 76 ∧ t.rd F.TRG_SEQ_STATUS.PHASE [d, q] = 1) ∧
      (s.rd F.SEQ_STATE.ENTRY [d, q, next] = 1 → t.rd F.TRG_LAST.TICKS [d, q] = f.dt / 4096 % 2 ^ 64 ∧
        t.rd F.TRG_LAST.FRAC [d, q] = f.dt % 4096 ∧ t.rd F.TRG_LAST.TERM [d, q] = (12 * d + f.term) % 32 ∧ t.rd F.TRG_LAST.FORCED [d, q] = 0 ∧
        (t.rd F.TRG_SEQ_STATUS.PHASE [d, q] = 2 ∨ t.rd F.TRG_SEQ_STATUS.PHASE [d, q] = 0 ∧ t.seqArmed d q = false))) ∧
    (∀ (d q : Nat) (s : State), s.Sound → (s.rd F.TRG_SEQ_STATUS.PHASE [d, q] = 1 ∨ s.rd F.TRG_SEQ_STATUS.PHASE [d, q] = 3) →
      let st := s.rd F.TRG_SEQ_STATUS.STATE [d, q]
      s.rd F.SEQ_STATE.QUAL [d, q, st] = 2 → s.rd F.SEQ_STATE.RST_TO [d, q, st] < 16 → (∃ b, s.withinLands d q = some b ∧ b ≤ s.blkNo d) →
      CompletesAtEnd (.withinDeadline d q) s fun t => t.rd F.TRG_SEQ_STATUS.STATE [d, q] = s.rd F.SEQ_STATE.RST_TO [d, q, st] ∧
        t.rd I.seqEntry [d, q] = s.sampleFloor d ((s.rd I.seqEntry [d, q] + 4096 * s.rd F.SEQ_STATE.QUAL_VALUE [d, q, st]) % 2 ^ 76) % 2 ^ 76 ∧
        t.rd I.seqCount [d, q] = 0 ∧ t.rd F.TRG_SEQ_STATUS.PHASE [d, q] = s.rd F.TRG_SEQ_STATUS.PHASE [d, q]) ∧
    (∀ (d q : Nat) (s : State), s.Sound → s.rd F.TRG_SEQ_STATUS.PHASE [d, q] = 1 → s.rd F.TRG_SEQ_CTRL.AUTO_EN [d, q] ≠ 0 →
      let x := (s.rd I.autoOrigin [d, q] + s.rd F.TRG_AUTO_TIMEOUT.TICKS [d, q]) % 2 ^ 64
      s.blkAt d (4096 * x) ≤ s.blkNo d → CompletesAtEnd (.autoTriggerDeadline d q) s fun t =>
        (t.rd F.TRG_SEQ_STATUS.PHASE [d, q] = 2 ∨ t.rd F.TRG_SEQ_STATUS.PHASE [d, q] = 0 ∧ t.seqArmed d q = false) ∧
        t.rd I.deadBlk [d, q] = (s.blkAt d (4096 * x) + 17) % 2 ^ 96 ∧
        t.rd F.TRG_LAST.TICKS [d, q] = x ∧ t.rd F.TRG_LAST.FRAC [d, q] = 0 ∧ t.rd F.TRG_LAST.TERM [d, q] = 0x1F ∧
        t.rd F.TRG_LAST.FORCED [d, q] = 1 ∧ (s.rd F.TRG_SEQ_CTRL.TRIG_EVT_EN [d, q] ≠ 0 → t.pends d 88 = true)) ∧
    (∀ (d q : Nat) (s : State), s.Sound → s.rd F.TRG_SEQ_STATUS.PHASE [d, q] = 2 → s.rd I.deadBlk [d, q] ≤ s.blkNo d →
      let e := s.blkStart d (s.rd I.deadBlk [d, q]) / 4096
      let holds := s.rd I.holdTimed [d, q] ≠ 0 ∧ dtGe (s.rd I.holdEnd [d, q]) e = true ∨ s.rd I.holdLeft [d, q] ≠ 0
      Completes (.deadTimeEnd d q) s fun t => t.rd F.TRG_SEQ_STATUS.STATE [d, q] = 0 ∧
        (holds → t.rd F.TRG_SEQ_STATUS.PHASE [d, q] = 3) ∧
        (¬holds → t.rd F.TRG_SEQ_STATUS.PHASE [d, q] = 1 ∧ t.rd I.autoOrigin [d, q] = e % 2 ^ 64)) ∧
    (∀ (d q b : Nat) (s : State), s.Sound → s.holdLands d q = some b → b ≤ s.blkNo d →
      CompletesAtEnd (.holdoffTimeExpiry d q) s fun t => t.rd F.TRG_SEQ_STATUS.PHASE [d, q] = 1 ∧
        t.rd F.TRG_SEQ_STATUS.STATE [d, q] = s.rd F.TRG_SEQ_STATUS.STATE [d, q] ∧
        t.rd I.autoOrigin [d, q] = s.blkStart d (b + 1) / 4096 % 2 ^ 64) ∧
    (∀ (d q v : Nat) (s : State), s.Sound → s.hostReach d = true → bitAt v 0 = true →
      (s.closing = false → s.mode.acquires = true → Completes (.trgForceWrite d q v) s fun t =>
        t = { s with arrivals := s.arrivals ++ [.force d q (4096 * s.blkOf d) false] }) ∧
      (s.closing = true ∨ s.mode.acquires = false → Completes (.trgForceWrite d q v) s fun t => t = s.forceNow d q (4096 * s.blkOf d) false)) ∧
    (∀ (d q : Nat) (dt : Instant) (cue : Bool) (s : State), s.Sound →
      let t := s.forceNow d q dt cue
      (s.rd F.TRG_SEQ_STATUS.PHASE [d, q] = 1 ∨ s.rd F.TRG_SEQ_STATUS.PHASE [d, q] = 3 →
        (t.rd F.TRG_SEQ_STATUS.PHASE [d, q] = 2 ∨ t.rd F.TRG_SEQ_STATUS.PHASE [d, q] = 0 ∧ t.seqArmed d q = false) ∧
        t.rd F.TRG_LAST.TICKS [d, q] = dt / 4096 % 2 ^ 64 ∧ t.rd F.TRG_LAST.TERM [d, q] = 0x1F ∧ t.rd F.TRG_LAST.FORCED [d, q] = 1) ∧
      (s.rd F.TRG_SEQ_STATUS.PHASE [d, q] = 0 ∨ s.rd F.TRG_SEQ_STATUS.PHASE [d, q] = 2 →
        t.rd F.TRG_SEQ_STATUS.PHASE [d, q] = s.rd F.TRG_SEQ_STATUS.PHASE [d, q] ∧
        t.rd F.TRG_SEQ_STATUS.FORCE_DROP_STICKY [d, q] ≠ 0 ∧ (s.rd F.TRG_FORCE_DROP_COUNT.COUNT [d, q] + 1 < 2 ^ 32 →
          t.rd F.TRG_FORCE_DROP_COUNT.COUNT [d, q] = s.rd F.TRG_FORCE_DROP_COUNT.COUNT [d, q] + 1)))

/-- Arms, stops and committed samples of a set follow R193 to R198; what a sample stores is exact to the bit. For every sound state, for each
set a of die d that host software reaches. ACQ_CMD with both bits sets CMD_REJECT and changes no other register; with neither it changes
nothing. An arm whose checks fail records the code in ARM_CHECK and leaves STATE; one that passes them and fits Harvest's shares restarts
the counts at 0 and enters PRE, or STREAM, with the pending bit of ACQ_STATE. A stop fixes the stop DT at the first tick of the next block
of an armed set; of an IDLE set it leaves every set and is noted for an arm of the same core cycle. At the stop cycle the set is IDLE with
the pending bit of ACQ_STATE. A stored sample of a set in PRE does nothing before the cycle in which it leaves the staging buffer; then
what stages 4 to 7 make of the codes goes to the slot: a P10 code changes exactly its ten bits of two bytes, an S16 value exactly two
bytes, every other byte of memory reads as before, and the next position follows. A logic tick moves the position of the logic set on.
Rests on R86, R87, R184, R191, R192, R193, R194, R195, R196, R197, R198, R220. -/
def Obligations.ArmsStopsAndStoredSamples : Prop :=
  (∀ (d a v : Nat) (s : State), s.Sound → s.hostReach d = true → d < 2 → a < 3 →
      (bitAt v 0 = true → bitAt v 1 = true →
        Completes (.acqCmdArm d a v) s (fun t => t.rd F.ACQ_STATUS.CMD_REJECT [d, a] = 1 ∧
          ∀ k : RegKey, k ≠ ⟨.ACQ_STATUS, F.ACQ_STATUS.CMD_REJECT.lo, [d, a]⟩ → t.regs.get k = s.regs.get k) ∧
        Completes (.acqCmdStop d a v) s fun t => t.rd F.ACQ_STATUS.CMD_REJECT [d, a] = 1 ∧
          ∀ k : RegKey, k ≠ ⟨.ACQ_STATUS, F.ACQ_STATUS.CMD_REJECT.lo, [d, a]⟩ → t.regs.get k = s.regs.get k) ∧
      (bitAt v 0 = false → bitAt v 1 = false →
        Completes (.acqCmdArm d a v) s (fun t => t = s) ∧ Completes (.acqCmdStop d a v) s fun t => t = s) ∧
      (bitAt v 0 = true → bitAt v 1 = false →
        (s.armCheck d a ≠ 0 → Completes (.acqCmdArm d a v) s fun t =>
          t.rd F.ACQ_STATUS.ARM_CHECK [d, a] = s.armCheck d a % 2 ^ 16 ∧ t.rd F.ACQ_STATUS.STATE [d, a] = s.rd F.ACQ_STATUS.STATE [d, a]) ∧
        (s.armCheck d a = 0 → s.rd F.PWR_STATUS.THERMAL [d] = 0 → s.fits [d] (s.armPower d a) 0 = true →
          Completes (.acqCmdArm d a v) s fun t => t.rd F.ACQ_STATUS.ARM_CHECK [d, a] = 0 ∧
            t.rd F.ACQ_STATUS.STATE [d, a] = (if s.rd F.ACQ_CTRL.DISC [d, a] = 0 then 1 else 4) ∧ t.rd F.ACQ_SEG_COUNT.COUNT [d, a] = 0 ∧
            t.rd F.STR_INDEX.INDEX [d, a] = 0 ∧ t.rd F.STR_MARK_SEQ.SEQ [d, a] = 0 ∧ t.rd F.STR_GAP_SEQ.SEQ [d, a] = 0 ∧
            t.pends d 121 = true)) ∧
      (bitAt v 0 = false → bitAt v 1 = true →
        (s.rd F.ACQ_STATUS.STATE [d, a] ≠ 0 → (s.acqOf d a).stopAt = none → Completes (.acqCmdStop d a v) s fun t =>
          (t.acqOf d a).stopAt = some (4096 * s.nextBlk d) ∧
          t.rd F.ACQ_STATUS.STATE [d, a] = s.rd F.ACQ_STATUS.STATE [d, a]) ∧
        (s.rd F.ACQ_STATUS.STATE [d, a] = 0 → Completes (.acqCmdStop d a v) s fun t => t.acq = s.acq ∧
          t.rd I.stopAsked [d, a] = (s.now + 1) % 2 ^ 128))) ∧
    (∀ (d a : Nat) (s : State), s.Sound →
      (s.rd F.ACQ_STATUS.STATE [d, a] ≠ 0 → s.stopReached d a = true → Completes (.acqStopCycle d a) s fun t =>
        t.rd F.ACQ_STATUS.STATE [d, a] = 0 ∧ t.pends d 121 = true) ∧
      (s.stopReached d a = false → Completes (.acqStopCycle d a) s fun t => t = s)) ∧
    (∀ (d a bits word : Nat) (first : Int) (xs : List Int) (s : State), s.Sound → d < 2 → a < 2 → s.mode.acquires = true →
      s.inert a = false → s.condConfig d a = 0 → s.rd F.ACQ_STATUS.STATE [d, a] = 1 → s.rd F.RSM_CTRL.ENABLE [d, a] = 0 →
      let y := s.acqOf d a
      let stage5 (i : Int) : Int := (s.stage5 d a first xs i).1
      s.commitBlk d a y.next ≤ (s.blkNo d : Int) → s.commitWaits d a = false → s.calAt d a y.next = false → s.remapHolds d a = false →
      y.gap = none → y.markWait = [] → y.seg.trig = none → y.stopAt = none →
      runHolds first xs ((s.samplesOf d a y.next).1 - 15) ((s.samplesOf d a y.next).2 + 16) = true →
      (s.rd F.DEC_CTRL.MODE [d, a] = 0 ∧ bits = 10 ∧ word = sfield 10 (p10Code (satInt 16 (stage5 (y.next * s.decimation d a : Nat)))) ∨
        s.rd F.DEC_CTRL.MODE [d, a] ∈ [2, 3] ∧ bits = 16 ∧ word = sfield 16 (satInt 16 (s.stage7 d a y.next stage5))) →
      let len := max 1 (s.rd F.ACQ_SEG_LEN.LEN [d, a])
      let n := (y.next - y.seg.o) % len * bits
      let lo := n % 8
      let p := s.recordAddr d a (y.seg.slot * len * bits / 8 + n / 8)
      let q := s.recordAddr d a (y.seg.slot * len * bits / 8 + n / 8 + 1)
      let two (s : State) : Nat := (s.memGet p).toNat + 256 * (s.memGet q).toNat
      Completes (.storedSampleCommit d a (.codes first xs)) s fun t => (t.acqOf d a).next = y.next + 1 ∧
        two t = two s % 2 ^ lo + word * 2 ^ lo + two s / 2 ^ (lo + bits) * 2 ^ (lo + bits) ∧
        ∀ z, z ≠ p → z ≠ q → t.memGet z = s.memGet z) ∧
    (∀ (d a : Nat) (first : Int) (xs : List Int) (s : State), s.Sound → a < 2 → s.mode.acquires = true → s.inert a = false → s.condConfig d a = 0 →
      (s.blkNo d : Int) < s.commitBlk d a (s.runPos d a first) → Completes (.storedSampleCommit d a (.codes first xs)) s fun t => t = s) ∧
    (∀ (d k : Nat) (s : State), s.Sound → d < 2 → s.rd F.ACQ_STATUS.STATE [d, 2] ≠ 0 → (s.acqOf d 2).next ≤ k →
      (s.acqOf d 2).stopAt = none → (s.acqOf d 2).seg.trig = none → (s.acqOf d 2).markWait = [] →
      Completes (.storedSampleCommit d 2 (.logicTick k)) s fun t => (t.acqOf d 2).next = k + 1 ∧
        t.rd F.STR_INDEX.INDEX [d, 2] = (k + 1) % 2 ^ 64 ∧ ∀ z, t.memGet z = s.memGet z)

/-- Segment records, chunks, marks, gap records, resumed storing and the BAR2 window act as R202 to R219 say. For every sound state. Storing
resumes where the fill allows, clearing BACKPRESSURE with its event, and nothing happens where it does not. A segment record that has been
at the queue head for 25 core cycles, its stack in no remap hold, is written: its 64 bytes hold the trigger DT, the sequence number and
the slot of R204 and the VALID flag, no other byte of memory changes, the record leaves the queue, the count goes up, and the event is
raised where enabled; before that, nothing happens. A chunk whose flush time has come closes. A placed mark at the head of the waiting
ones, and a waiting gap record, are written to their ring's next entry where it has room, and stay where it has none. A window read
answers the bytes of the stack in turn, all ones beyond it, and changes no memory; where the cells give a codeword with at most two
symbols in error it answers the same bytes, and the pseudo-channel of a corrected symbol counts it; an uncorrectable codeword counts,
shows its address and is raised. A write inside the overlay pool stores exactly its bytes; one outside stores nothing, counts as a
protocol violation and raises MBX_VIOLATION. Rests on R183, R187, R188, R189, R202, R204, R209, R211, R212, R216, R219, R362. -/
def Obligations.RecordsChunksAndTheWindow : Prop :=
  (∀ (d a : Nat) (s : State), s.Sound →
      (s.mayResume d a = true → Completes (.backpressureResume d a) s fun t =>
        t.rd F.STR_STATUS.BACKPRESSURE [d, a] = 0 ∧ t.pends d 123 = true) ∧
      (s.mayResume d a = false → Completes (.backpressureResume d a) s fun t => t = s)) ∧
    (∀ (d a : Nat) (s : State), s.Sound → d < 2 → a < 3 →
      ((s.acqOf d a).recQueue = [] ∨ s.elapsed (s.acqOf d a).headSince 25 = false ∨ s.stackHeld d (a % 2) = true →
        Completes (.segmentRecordWrite d a) s fun t => t = s) ∧
      ∀ (r : SegRec) (rest : List SegRec), (s.acqOf d a).recQueue = r :: rest → s.elapsed (s.acqOf d a).headSince 25 = true →
        s.rd F.ACQ_STATUS.STATE [d, a] ≠ 5 → r.flags < 2 ^ 15 - 2 ^ 9 → s.misread = [] → s.stackHeld d (a % 2) = false →
        let p := s.segRecAddr d a r.slot
        s.stackHeld (p / 2 ^ 37) (p / 2 ^ 36 % 2) = false →
        Completes (.segmentRecordWrite d a) s fun t => (t.acqOf d a).recQueue = rest ∧
          t.memBytes p 8 = le 8 (r.desc.dt / 4096) ∧ t.memBytes (p + 24) 8 = le 8 r.seq ∧ t.memBytes (p + 32) 4 = le 4 r.slot ∧
          t.memBytes (p + 40) 4 = le 4 r.preCount ∧ t.memBytes (p + 44) 4 = le 4 r.postMem ∧ 128 ≤ (t.memGet (p + 15)).toNat ∧
          (∀ z, z < p ∨ p + 64 ≤ z → t.memGet z = s.memGet z) ∧
          t.rd F.ACQ_SEG_COUNT.COUNT [d, a] = (s.rd F.ACQ_SEG_COUNT.COUNT [d, a] + 1) % 2 ^ 64 ∧
          (s.rd F.ACQ_CTRL.SEG_EVT_EN [d, a] ≠ 0 → t.pends d 120 = true)) ∧
    (∀ (d a : Nat) (s : State), s.Sound → d < 2 → a < 3 →
      (s.rd F.STR_CTRL.FLUSH_US [d, a] = 0 → Completes (.chunkFlushTimeout d a) s fun t => t = s) ∧
      ∀ c : Chunk, s.rd F.STR_CTRL.FLUSH_US [d, a] ≠ 0 → (s.acqOf d a).buf.cur = some c →
        s.dueOn d (c.opened + s.rd F.STR_CTRL.FLUSH_US [d, a] * 160000) = true → Completes (.chunkFlushTimeout d a) s fun t =>
          (t.acqOf d a).buf.cur = none ∧ (t.acqOf d a).buf.closed = (s.acqOf d a).buf.closed ++ [s.chunkDone d a c]) ∧
    (∀ (d a : Nat) (m : WaitMark) (rest : List WaitMark) (s : State), s.Sound → d < 2 → a < 3 → (s.acqOf d a).markWait = m :: rest →
      m.placed = true →
      let q := s.rd F.STR_AUX_RINGS.MARK_Q [d, a]
      (s.ringRoom d q = true → Completes (.markWrite d a) s fun t => (t.acqOf d a).markWait = rest ∧
        (s.out ++ [Output.mem d (s.rd F.QUE_BASE.BASE [d, q] + State.entryBytes q * s.rd F.QUE_PTR.TAIL [d, q]) (State.markBytes d a m)]) <+: t.out) ∧
      (s.ringRoom d q = false → Completes (.markWrite d a) s fun t => t = s)) ∧
    (∀ (d a n : Nat) (bytes : List Byte) (rest : List (Nat × List Byte)) (s : State), s.Sound → d < 2 → a < 3 →
      (s.acqOf d a).gapWait = (n, bytes) :: rest →
      let q := s.rd F.STR_AUX_RINGS.GAP_Q [d, a]
      (s.ringRoom d q = true → Completes (.gapRecordWrite d a) s fun t => (t.acqOf d a).gapWait = rest ∧
        (s.out ++ [Output.mem d (s.rd F.QUE_BASE.BASE [d, q] + State.entryBytes q * s.rd F.QUE_PTR.TAIL [d, q]) bytes]) <+: t.out) ∧
      (s.ringRoom d q = false → Completes (.gapRecordWrite d a) s fun t => t = s)) ∧
    (∀ (d off n : Nat) (s : State), s.Sound → s.hostReach d = true → s.misread = [] →
      let h := s.rd F.MEM_WIN.STACK [d]
      let read := Output.readData d ((List.range n).map fun i =>
          if s.rd F.MEM_DEPTH.MIB [d, h] * 2 ^ 20 + 512 * 2 ^ 20 ≤ s.rd F.MEM_WIN.BASE [d] * 2 ^ 20 + (off + i) then 255
          else s.memGet ((2 * d + h) * 2 ^ 36 + (s.rd F.MEM_WIN.BASE [d] * 2 ^ 20 + (off + i))))
      Completes (.bar2Read d off n []) s (fun t => t.mem = s.mem ∧ t.regs = s.regs ∧ t.out = s.out ++ [read]) ∧
      ∀ w : ReadWord, ((symbolErrors w.errs).length ≤ 2 → Completes (.bar2Read d off n [w]) s fun t =>
          t.mem = s.mem ∧ t.out = s.out ++ [read] ∧ ∀ k e, symbolErrors w.errs = [(k, e)] →
            let p := [d, w.stack, s.symbolPc d w.stack w.word k]
            s.rd F.MEM_PC_CE.COUNT p + 1 < 2 ^ F.MEM_PC_CE.COUNT.width → t.rd F.MEM_PC_CE.COUNT p = s.rd F.MEM_PC_CE.COUNT p + 1) ∧
        Completes (.bar2Read d off n [w]) s fun t => (decodeWord w.errs).bad = true →
          t.rd F.MEM_UE_ADDR.OFFSET [d, w.stack] = 64 * w.word % 2 ^ F.MEM_UE_ADDR.OFFSET.width ∧ t.pends d 126 = true ∧
          (s.rd F.MEM_UE_COUNT.COUNT [d, w.stack] + 1 < 2 ^ F.MEM_UE_COUNT.COUNT.width →
            t.rd F.MEM_UE_COUNT.COUNT [d, w.stack] = s.rd F.MEM_UE_COUNT.COUNT [d, w.stack] + 1)) ∧
    (∀ (d off : Nat) (bytes : List Byte) (s : State), s.Sound → s.hostReach d = true → bytes ≠ [] →
      let a := s.rd F.MEM_WIN.BASE [d] * 2 ^ 20 + off
      let first := s.rd F.MEM_DEPTH.MIB [d, 1] * 2 ^ 20 + 288 * 2 ^ 20
      let inPool := s.rd F.MEM_WIN.STACK [d] = 1 ∧ first ≤ a ∧ a + bytes.length ≤ first + 128 * 2 ^ 20
      let p := (2 * d + 1) * 2 ^ 36 + a
      (inPool → s.stackHeld (p / 2 ^ 37) (p / 2 ^ 36 % 2) = false →
        Completes (.bar2Write d off bytes) s fun t => (List.range bytes.length).map (fun i => t.memGet (p + i)) = bytes ∧
          (∀ z, z < p ∨ p + bytes.length ≤ z → t.memGet z = s.memGet z) ∧ t.regs = s.regs) ∧
      (¬inPool → Completes (.bar2Write d off bytes) s fun t => (∀ z, t.memGet z = s.memGet z) ∧ t.pends d 219 = true ∧
        (s.rd F.MBX_VLOG_TOTAL.COUNT [d] + 1 < 2 ^ 32 →
          t.rd F.MBX_VLOG_TOTAL.COUNT [d] = s.rd F.MBX_VLOG_TOTAL.COUNT [d] + 1)))

/-- The accumulation engines take, commit, start, stop, release, clear and decay as R222 to R237 say. For every sound state and engine c of
die d. An entry that a running engine is free to take leaves the queue and is read, and the engine is occupied for the time of R225. The
record is read again when its time comes; a slot that was reused is counted under OVERRUN with the pending bit of ACC_OVERRUN, else a
commit begins in RUN, not frozen, with no other under way. The averaging part of a commit adds each point to its sum and one to the count;
at TARGET the engine is DONE with one more batch and the pending bit of ACC_AVG_DONE; an incomplete window counts as incomplete and adds
nothing. A drawn column raises each cell from its lowest to its highest row by one, up to 65,535, and no other cell. A start that is
refused records its code and changes no state; one that is admitted has every sum 0, the histogram 0 only with CLEAR_ON_START, and the
state RUN. A stop of an engine with no commit under way leaves it IDLE with an empty queue; with one, it waits for it. A release in DONE
clears the sums and runs on with REPEAT, else ends in IDLE; in another state it sets CMD_REJECT. A clear, and a decay unless FREEZE drops
it with DECAY_DROP, begin a pass of 128 cycles after the histogram commit under way; as it ends every cell is 0, or shifted right by
DECAY_SHIFT. Rests on R222, R223, R225, R226, R227, R228, R231, R233, R234, R235, R236, R237. -/
def Obligations.AveragesAndHistograms : Prop :=
  (∀ (d c : Nat) (x : AccEntry) (rest : List AccEntry) (s : State), s.Sound → d < 2 → c < 2 → (s.accOf d c).queue = x :: rest →
      s.accMayTake d c = true →
      let k := s.accRead d c x
      let n := ceilDiv k.2 32
      Completes (.accEntryTake d c []) s fun t => (t.accOf d c).queue = rest ∧ (t.accOf d c).occupied = s.now + 128 * max 250 (16 + n) ∧
        (t.accOf d c).reading = some ⟨x, k.1, s.now + 128 * (8 + n), none, s.now + 128 * (16 + n)⟩) ∧
    (∀ (d c : Nat) (r : AccRead) (s : State), s.Sound → d < 2 → c < 2 → (s.accOf d c).reading = some r →
      (r.same = none → r.againAt ≤ s.now →
        let b := s.memBytes (s.segRecAddr d c r.entry.slot) 64
        ((s.accAgain d c).accOf d c).reading =
          some { r with same := some (bitAt (State.recField b 14 2) 15 && State.recField b 24 8 == r.entry.seq) }) ∧
      (r.decideAt ≤ s.now →
        let t := s.accDecide d c
        (r.same = some false → (t.accOf d c).reading = none ∧ (t.accOf d c).commit = (s.accOf d c).commit ∧ t.pends d 155 = true ∧
          (s.rd F.ACC_SKIP.COUNT [d, c, 3] + 1 < 2 ^ 32 → t.rd F.ACC_SKIP.COUNT [d, c, 3] = s.rd F.ACC_SKIP.COUNT [d, c, 3] + 1)) ∧
        (r.same = some true → s.rd F.ACC_STATUS.STATE [d, c] = 1 → s.rd F.ACC_CTRL.FREEZE [d, c] = 0 → (s.accOf d c).commit = none →
          (s.accOf d c).stopping = none → (t.accOf d c).reading = none ∧ ∃ k, (t.accOf d c).commit = some k ∧ k.points = r.commit.points ∧
            k.columns = r.commit.columns ∧ k.incomplete = r.commit.incomplete ∧
            (k.histAt.isSome = true ↔ s.rd F.ACC_CTRL.HIST_EN [d, c] ≠ 0) ∧
            k.avgAt = (if s.rd F.ACC_CTRL.AVG_EN [d, c] = 0 then none else some (s.now + 128 * ceilDiv (s.rd F.ACC_AVG_LEN.LEN [d, c]) 32))))) ∧
    (∀ (d c t₀ : Nat) (k : AccCommit) (s : State), s.Sound → d < 2 → c < 2 → (s.accOf d c).commit = some k → (s.accOf d c).stopping = none →
      s.rd F.ACC_AVG_DONE.DONE [d, c] < 65536 →
      (k.avgAt = some t₀ → k.histAt = none → (s.now < t₀ → Completes (.accCommitDone d c) s fun t => t = s) ∧
        (t₀ ≤ s.now → k.incomplete = true → s.rd F.ACC_AVG_INCOMPLETE.COUNT [d, c] + 1 < 2 ^ 32 → Completes (.accCommitDone d c) s fun t =>
          (t.accOf d c).commit = none ∧ t.rd F.ACC_AVG_INCOMPLETE.COUNT [d, c] = s.rd F.ACC_AVG_INCOMPLETE.COUNT [d, c] + 1 ∧
          ∀ k : RegKey, k.reg = .ACCUM ∨ k.reg = .ACC_AVG_DONE → t.regs.get k = s.regs.get k) ∧
        (t₀ ≤ s.now → k.incomplete = false → Completes (.accCommitDone d c) s fun t => (t.accOf d c).commit = none ∧
          t.rd F.ACC_AVG_DONE.DONE [d, c] = s.rd F.ACC_AVG_DONE.DONE [d, c] + 1 ∧
          (∀ i : Fin k.points.length, t.rd F.ACCUM.SUM [d, c, i] = sfield 32 (sval 32 (s.rd F.ACCUM.SUM [d, c, i]) + k.points[i])) ∧
          (s.rd F.ACC_AVG_COUNT.TARGET [d, c] ≤ s.rd F.ACC_AVG_DONE.DONE [d, c] + 1 → t.rd F.ACC_STATUS.STATE [d, c] = 2 ∧
            t.rd F.ACC_AVG_BATCH.COUNT [d, c] = (s.rd F.ACC_AVG_BATCH.COUNT [d, c] + 1) % 2 ^ 32 ∧ t.pends d 152 = true) ∧
          (s.rd F.ACC_AVG_DONE.DONE [d, c] + 1 < s.rd F.ACC_AVG_COUNT.TARGET [d, c] →
            t.rd F.ACC_STATUS.STATE [d, c] = s.rd F.ACC_STATUS.STATE [d, c]))) ∧
      (∀ (x lo hi : Nat), k.avgAt = none → k.histAt = some t₀ → t₀ ≤ s.now → k.columns = [(x, (lo : Int), (hi : Int))] →
        hi < 1024 → (∀ r < 1024, s.histCell d c x r ≤ 65535) → Completes (.accCommitDone d c) s fun t =>
          t.rd F.ACC_HIST_ACQ.COUNT [d, c] = (s.rd F.ACC_HIST_ACQ.COUNT [d, c] + 1) % 2 ^ 64 ∧ (t.accOf d c).commit = none ∧
          ∀ y r, r < 1024 → t.histCell d c y r =
            if y = x ∧ lo ≤ r ∧ r ≤ hi then min 65535 (s.histCell d c y r + 1) else s.histCell d c y r)) ∧
    (∀ (d c : Nat) (s : State), s.Sound → s.hostReach d = true → d < 2 → c < 2 →
      (s.accCheck d c ≠ 0 → Completes (.accCmdStart d c) s fun t => t.rd F.ACC_STATUS.START_CHECK [d, c] = s.accCheck d c % 2 ^ 16 ∧
        t.rd F.ACC_STATUS.STATE [d, c] = s.rd F.ACC_STATUS.STATE [d, c]) ∧
      (s.accCheck d c = 0 → s.rd F.PWR_STATUS.THERMAL [d] = 0 → s.fits [d] (s.accCost (s.rd F.HVS_STATUS.LEVEL [])) 0 = true →
        Completes (.accCmdStart d c) s fun t => t.rd F.ACC_STATUS.STATE [d, c] = 1 ∧ t.rd F.ACC_STATUS.START_CHECK [d, c] = 0 ∧
          t.rd F.ACC_AVG_DONE.DONE [d, c] = 0 ∧ (∀ i, t.rd F.ACCUM.SUM [d, c, i] = 0) ∧ (t.accOf d c).queue = [] ∧ t.pends d 153 = true ∧
          ∀ x r, t.histCell d c x r = if s.rd F.ACC_CTRL.CLEAR_ON_START [d, c] = 0 then s.histCell d c x r else 0) ∧
      (s.rd F.ACC_STATUS.STATE [d, c] ≠ 0 →
        ((s.accOf d c).commit = none → Completes (.accCmdStop d c) s fun t => t.rd F.ACC_STATUS.STATE [d, c] = 0 ∧
          (t.accOf d c).queue = [] ∧ (t.accOf d c).reading = none ∧ t.pends d 153 = true) ∧
        ((s.accOf d c).commit ≠ none → Completes (.accCmdStop d c) s fun t => (t.accOf d c).stopping = some 0 ∧
          (t.accOf d c).commit = (s.accOf d c).commit ∧ t.rd F.ACC_STATUS.STATE [d, c] = s.rd F.ACC_STATUS.STATE [d, c])) ∧
      (s.rd F.ACC_STATUS.STATE [d, c] = 0 → Completes (.accCmdStop d c) s fun t => t.acc = s.acc ∧
        t.rd F.ACC_STATUS.STATE [d, c] = 0) ∧
      (s.rd F.ACC_STATUS.STATE [d, c] ≠ 2 → Completes (.accCmdRelease d c) s fun t => t.rd F.ACC_STATUS.CMD_REJECT [d, c] ≠ 0 ∧
        t.rd F.ACC_STATUS.STATE [d, c] = s.rd F.ACC_STATUS.STATE [d, c]) ∧
      (s.rd F.ACC_STATUS.STATE [d, c] = 2 →
        (s.rd F.ACC_CTRL.REPEAT [d, c] ≠ 0 → Completes (.accCmdRelease d c) s fun t => t.rd F.ACC_STATUS.STATE [d, c] = 1 ∧
          t.rd F.ACC_AVG_DONE.DONE [d, c] = 0 ∧ (∀ i, t.rd F.ACCUM.SUM [d, c, i] = 0) ∧ t.pends d 153 = true) ∧
        (s.rd F.ACC_CTRL.REPEAT [d, c] = 0 → Completes (.accCmdRelease d c) s fun t => t.rd F.ACC_STATUS.STATE [d, c] = 0 ∧
          t.pends d 153 = true)) ∧
      let takes := s.mode.acquires = true ∧ s.rd F.CNV_STATUS.AVAILABLE [d, c] ≠ 0 ∧ s.inert c = false ∧ s.rd I.engRetired [d, c] = 0 ∧
        s.rd F.ACC_CTRL.FREEZE [d, c] = 0
      let begins := max s.now (((s.accOf d c).commit.bind (·.histAt)).getD 0)
      (takes → (s.accOf d c).passes = [] → Completes (.accCmdClearHist d c) s fun t =>
        (t.accOf d c).passes = [⟨none, s.now, begins, begins + 128 * 128⟩] ∧ t.regs = s.regs) ∧
      (¬takes → Completes (.accCmdClearHist d c) s fun t => t = s)) ∧
    (∀ (d c : Nat) (s : State), s.Sound → d < 2 → c < 2 → s.decayDue d c = true →
      let begins := max s.now (((s.accOf d c).commit.bind (·.histAt)).getD 0)
      (s.rd F.ACC_CTRL.FREEZE [d, c] ≠ 0 → Completes (.accDecayBoundary d c) s fun t => t.rd F.ACC_STATUS.DECAY_DROP [d, c] = 1 ∧ t.acc = s.acc ∧
        ∀ x r, t.histCell d c x r = s.histCell d c x r) ∧
      (s.rd F.ACC_CTRL.FREEZE [d, c] = 0 → (s.accOf d c).passes = [] → Completes (.accDecayBoundary d c) s fun t =>
        (t.accOf d c).passes = [⟨some (s.rd F.ACC_DECAY.DECAY_SHIFT [d, c]), s.now, begins, begins + 128 * 128⟩] ∧
        ∀ x r, t.histCell d c x r = s.histCell d c x r)) ∧
    (∀ (d c : Nat) (p : AccPass) (rest : List AccPass) (s : State), s.Sound → d < 2 → c < 2 → (s.accOf d c).passes = p :: rest →
      (s.accOf d c).commit = none →
      let t := s.accPassDone d c
      (s.now < p.ends → t = s) ∧
      (p.ends ≤ s.now → (t.accOf d c).passes = rest ∧
        (p.shift = none → (∀ x r, t.histCell d c x r = 0) ∧ t.rd F.ACC_HIST_ACQ.COUNT [d, c] = 0) ∧
        ∀ n, p.shift = some n → ∀ x r, t.histCell d c x r = s.histCell d c x r / 2 ^ n))

/-- Display frames, timing, overlay flips, underruns, link training and hot plug follow R241 to R256. For every sound state. A VBLANK_START
waits for the end of its core cycle; there, after the codewords that the display path read in error are dealt with, one of a running
generator counts a frame on both outputs, puts a pending timing in force, latches each pending overlay base with the shown one on its way
to retirement, disables a layer whose fetch failed, and raises SCN_FRAME where enabled; with the generator stopped it does nothing. APPLY
of a timing that fails R244's first check records 0x0190 and makes nothing pending; one that passes every check records 0 and captures the
shadow words for the next frame. A flip with its GO bit makes a base that passes R252's tests pending in its layer; another sets
FLIP_REJECT and changes no layer; without the bit nothing changes. An underrun of a shown layer is counted and sticky. Training that ends
at an attempt leaves the link UP at that setting, and with none FAILED, each with the pending bit of SCN_LINK. A hot-plug level that
changes shows with SCN_LINK; an IRQ pulse raises SCN_LINK and asks for retraining where a running link has lost lock. Rests on R241, R243,
R244, R245, R246, R252, R253, R255, R256, R261. -/
def Obligations.DisplayFramesLinksAndFlips : Prop :=
  (∀ (ws : List (Nat × ReadWord)) (s₀ : State), s₀.Sound → s₀.control < 2 →
      let s := s₀.each ws fun x w => x.deliverRead w.1 [w.2] fun y => y
      (s.rd F.SCN_STATUS.RUNNING [s.control] = 0 → CompletesAtEnd (.vblankStart ws) s₀ fun t => t = s) ∧
      (s.rd F.SCN_STATUS.RUNNING [s.control] ≠ 0 → CompletesAtEnd (.vblankStart ws) s₀ fun t => ∀ d < 2,
        t.rd F.SCN_FRAME.FRAME [d] = (s.rd F.SCN_FRAME.FRAME [d] + 1) % 2 ^ 32 ∧
        (s.rd F.SCN_STATUS.APPLY_PENDING [s.control] ≠ 0 → t.rd F.SCN_STATUS.APPLY_PENDING [d] = 0 ∧
          ∀ k < 5, t.rd I.timAct [k] = s.rd I.timPend [k] % 2 ^ 32) ∧
        (s.rd F.SCN_CTRL.ENABLE [] < 2 → s.rd F.SCN_CTRL.FRAME_EVT_EN [] = 1 → t.pends d 160 = true) ∧
        ∀ l < 3, ((s.layerOf d l).faulted = true → t.rd F.SCN_OVL_CTRL.EN [d, l] = 0 ∧ t.rd F.SCN_OVL_CTRL.FAULT [d, l] = 1) ∧
          ((s.layerOf d l).pending = none → (t.layerOf d l).shown = (s.layerOf d l).shown ∧ (t.layerOf d l).retiring = none) ∧
          ∀ b, (s.layerOf d l).pending = some b → (t.layerOf d l).shown = some b ∧ (t.layerOf d l).pending = none ∧
            (t.layerOf d l).retiring = (s.layerOf d l).shown)) ∧
    (∀ (d v : Nat) (s : State), s.Sound → s.hostReach d = true → bitAt v 0 = true →
      let h := s.shadowTiming
      (h.invalid = true → Completes (.scnTimApply d v) s fun t => t.rd F.SCN_TIM_CTRL.RESULT [] = 0x0190 ∧
        ∀ e, t.rd F.SCN_STATUS.APPLY_PENDING [e] = s.rd F.SCN_STATUS.APPLY_PENDING [e]) ∧
      (h.invalid = false → (∀ g < 4, (s.window g).fits h = true) → (∀ e < 2, ∀ l < 3, s.rd F.SCN_OVL_CTRL.EN [e, l] = 0) →
        State.spliceFits s.window h = true →
        (∀ e < 2, 24 * h.khz ≤ State.linkPayload (s.rd F.SCN_LINK_CFG.RATE [e]) (s.rd F.SCN_LINK_CFG.LANES [e])) →
        Completes (.scnTimApply d v) s fun t => t.rd F.SCN_TIM_CTRL.RESULT [] = 0 ∧
          (∀ e < 2, t.rd F.SCN_STATUS.APPLY_PENDING [e] = 1) ∧ t.rd I.timPend [0] = h.h % 2 ^ 32 ∧ t.rd I.timPend [1] = h.hs % 2 ^ 32 ∧
          t.rd I.timPend [2] = h.v % 2 ^ 32 ∧ t.rd I.timPend [3] = h.vs % 2 ^ 32 ∧ t.rd I.timPend [4] = h.khz % 2 ^ 32)) ∧
    (∀ (d l v : Nat) (s : State), s.Sound → s.hostReach d = true → d < 2 → l < 3 →
      let b : OvlBase := ⟨s.rd F.SCN_OVL_CTRL.SRC [d, l], s.rd F.SCN_OVL_ADDR.ADDR [d, l], s.rd F.SCN_OVL_STRIDE.STRIDE [d, l], v % 2 ^ 16⟩
      (bitAt v 16 = false → Completes (.scnOvlFlip d l v) s fun t => t = s) ∧
      (bitAt v 16 = true → s.flipOk d b = true → Completes (.scnOvlFlip d l v) s fun t =>
        (t.layerOf d l).pending = some b ∧ (t.layerOf d l).shown = (s.layerOf d l).shown ∧ t.rd F.SCN_OVL_CTRL.PENDING [d, l] = 1) ∧
      (bitAt v 16 = true → s.flipOk d b = false → Completes (.scnOvlFlip d l v) s fun t =>
        t.rd F.SCN_STATUS.FLIP_REJECT [d] ≠ 0 ∧ t.layers = s.layers)) ∧
    (∀ (d l : Nat) (s : State), s.Sound → s.rd F.SCN_STATUS.RUNNING [d] ≠ 0 → s.rd I.ovlAct [d, l] ≠ 0 →
      s.rd F.SCN_UNDERRUN_COUNT.COUNT [d] + 1 < 2 ^ 32 → Completes (.lineUnderrun d l) s fun t =>
        t.rd F.SCN_UNDERRUN_COUNT.COUNT [d] = s.rd F.SCN_UNDERRUN_COUNT.COUNT [d] + 1 ∧ t.rd F.SCN_STATUS.UNDERRUN_STICKY [d] ≠ 0) ∧
    (∀ (d : Nat) (s : State), s.Sound → s.rd F.SCN_STATUS.LINK [d] = 1 →
      Completes (.linkTrainingDone d none) s (fun t => t.rd F.SCN_STATUS.LINK [d] = 3 ∧ t.pends d 164 = true) ∧
      ∀ (k : Nat) (p : Nat × Nat), (s.trainSettings d)[k]? = some p → Completes (.linkTrainingDone d (some k)) s fun t =>
        t.rd F.SCN_STATUS.LINK [d] = 2 ∧ t.rd F.SCN_STATUS.RATE_ACT [d] = p.1 % 2 ∧ t.rd F.SCN_STATUS.LANES_ACT [d] = p.2 % 8 ∧
        t.pends d 164 = true) ∧
    (∀ (d : Nat) (level : Bool) (s : State), s.Sound → s.rd F.SCN_STATUS.HPD [d] < 2 →
      (s.rd F.SCN_STATUS.HPD [d] ≠ b2n level → Completes (.hpdChange d level) s fun t => t.rd F.SCN_STATUS.HPD [d] = b2n level ∧
        t.pends d 164 = true) ∧
      (s.rd F.SCN_STATUS.HPD [d] = b2n level → Completes (.hpdChange d level) s fun t => t = s)) ∧
    (∀ (d : Nat) (lost : Bool) (s : State), s.Sound → Completes (.hpdIrq d lost) s fun t => t.pends d 164 = true ∧
      t.rd I.scnRetrain [d] = (if lost = true ∧ s.rd F.SCN_STATUS.RUNNING [d] ≠ 0 then 1 else s.rd I.scnRetrain [d]))

/-- Logic samples, channel writes, time-interval events, gates, cues and results follow R89, R263 to R268 and R273 to R286. For every sound
state in which the command's moment has come. A logic sample moves each channel by R262 to R268: a starting channel takes its first level,
an unresolved one resolves HIGH only, with the pending bit of LGC_RESOLVED, one within its hold-off keeps its state, any other takes the
comparator output, HIGH at or above the upper threshold and LOW below the lower. A write of LGC_CH_CFG that changes MODE of a channel in
use is ignored with CFG_REJECT; else MODE changes and the channel starts again; THRESH, HYST and HOLDOFF are accepted within their ranges,
and a write that nothing refuses acts as its core cycle ends. An enable is refused by R276 in its order with EN_CHECK; an admitted one
starts at the next block. A disable ends the unit from the next block; once its last events are in it keeps the FIFO, writes the final
TOTALIZE result and keeps OPEN. Held events are processed in DT order, a start before a stop, by R277 to R283; a gate's end writes COUNT =
n - 1 and the interval; with a full FIFO both wait for the end of the cycle, and there the result is lost with FIFO_OVF. A cue is armed or
LATE; it fires once. A read of word 7 hands out the word and removes the head. An ESCAPE follows 2^47 ticks without a record. Rests on
R89, R263, R265, R266, R267, R268, R274, R275, R276, R278, R282, R286. -/
def Obligations.LogicChannelsAndIntervals : Prop :=
  (∀ (d t₀ : Nat) (balls : List (Int × Int)) (refs : Int × Int) (edges : List LogicEdge) (s : State), s.Sound →
      let pins := LogicPins.of balls refs
      (s.rd F.LGC_STATUS.RUNNING [d] = 0 → Completes (.logicInputChange d t₀ balls refs edges) s fun t => t = s) ∧
      (s.rd F.LGC_STATUS.RUNNING [d] ≠ 0 → Completes (.logicInputChange d t₀ balls refs edges) s fun t => ∀ i : Nat, i < 16 →
        let high := s.lgcOutput d pins edges i
        let low := decide (s.lgcLevel d i pins < s.lgcLower d i)
        (s.lgcUpper d i ≤ s.lgcLevel d i pins → high = true) ∧
        (s.lgcLevel d i pins < min (s.lgcLower d i) (s.lgcUpper d i) → high = false ∧ low = true) ∧
        let was := bitAt (s.rd F.LGC_STATE.STATE [d]) i
        let unres := bitAt (s.rd F.LGC_STATE.UNRESOLVED [d]) i
        let now := bitAt (t.rd F.LGC_STATE.STATE [d]) i
        let unresNow := bitAt (t.rd F.LGC_STATE.UNRESOLVED [d]) i
        (bitAt (s.rd I.lgcStart [d]) i = true → now = high ∧ unresNow = (!high && !low) ∧
          bitAt (t.rd I.lgcStart [d]) i = false) ∧
        (bitAt (s.rd I.lgcStart [d]) i = false → unres = true →
          (high = true → now = true ∧ unresNow = false ∧ t.pends d 168 = true) ∧
          (high = false → now = was ∧ unresNow = true)) ∧
        (bitAt (s.rd I.lgcStart [d]) i = false → unres = false →
          (s.rd I.lgcHold [d, i] ≠ 0 → instGe (4096 * t₀) (s.rd I.lgcHold [d, i]) = false → now = was ∧ unresNow = false) ∧
          (s.rd I.lgcHold [d, i] = 0 ∨ instGe (4096 * t₀) (s.rd I.lgcHold [d, i]) = true → now = high ∧ unresNow = false)))) ∧
    (∀ (d i t₀ : Nat) (pins : LogicPins) (s : State), s.Sound → i < 16 → s.rd F.LGC_STATUS.RUNNING [d] ≠ 0 → s.rd I.lgcHold [d, i] ≠ 0 →
      (instGe (4096 * t₀) (s.rd I.lgcHold [d, i]) = true → bitAt (s.rd I.lgcStart [d]) i = false → bitAt (s.rd F.LGC_STATE.UNRESOLVED [d]) i = false →
        Completes (.logicHoldoffEnd d i t₀ pins) s fun t => bitAt (t.rd F.LGC_STATE.STATE [d]) i = s.lgcOutput d pins [] i) ∧
      (instGe (4096 * t₀) (s.rd I.lgcHold [d, i]) = false → Completes (.logicHoldoffEnd d i t₀ pins) s fun t => t = s)) ∧
    (∀ (c : Instr) (d i v : Nat) (s : State), s.Sound → s.hostReach d = true → i < 16 →
      c = .logicModeWrite d i v ∨ c = .logicThreshWrite d i v →
      let th := sval 11 (v / 2 % 2 ^ 11)
      let inRange := -600 ≤ th ∧ th ≤ 600 ∧ v / 2 ^ 12 % 2 ^ 7 ≤ 100
      let refused := (v % 2 ≠ s.rd F.LGC_CH_CFG.MODE [d, i] ∧ s.lgcInUse d i = true) ∨ ¬inRange ∨ 50 < v / 2 ^ 19 % 2 ^ 6
      let after (t : State) :=
        (v % 2 = s.rd F.LGC_CH_CFG.MODE [d, i] → t.rd F.LGC_CH_CFG.MODE [d, i] = v % 2 ∧
          t.rd I.lgcStart [d] = s.rd I.lgcStart [d] ∧ t.rd F.LGC_STATE.STATE [d] = s.rd F.LGC_STATE.STATE [d]) ∧
        (v % 2 ≠ s.rd F.LGC_CH_CFG.MODE [d, i] → s.lgcInUse d i = true →
          t.rd F.LGC_CH_CFG.MODE [d, i] = s.rd F.LGC_CH_CFG.MODE [d, i] ∧ t.rd F.LGC_STATUS.CFG_REJECT [d] ≠ 0 ∧
          (s.rd F.LGC_STATUS.CFG_REJECT [d] = 0 → t.pends d 169 = true)) ∧
        (v % 2 ≠ s.rd F.LGC_CH_CFG.MODE [d, i] → s.lgcInUse d i = false → t.rd F.LGC_CH_CFG.MODE [d, i] = v % 2 ∧
          bitAt (t.rd I.lgcStart [d]) i = true ∧ bitAt (t.rd F.LGC_STATE.STATE [d]) i = false) ∧
        (inRange → t.rd F.LGC_CH_CFG.THRESH [d, i] = v / 2 % 2 ^ 11 ∧ t.rd F.LGC_CH_CFG.HYST [d, i] = v / 2 ^ 12 % 2 ^ 7) ∧
        (¬inRange → t.rd F.LGC_CH_CFG.THRESH [d, i] = s.rd F.LGC_CH_CFG.THRESH [d, i] ∧
          t.rd F.LGC_CH_CFG.HYST [d, i] = s.rd F.LGC_CH_CFG.HYST [d, i] ∧ t.rd F.LGC_STATUS.CFG_REJECT [d] ≠ 0) ∧
        t.rd F.LGC_CH_CFG.HOLDOFF [d, i] = if v / 2 ^ 19 % 2 ^ 6 ≤ 50 then v / 2 ^ 19 % 2 ^ 6 else s.rd F.LGC_CH_CFG.HOLDOFF [d, i]
      (refused → Completes c s after) ∧ (¬refused → CompletesAtEnd c s after)) ∧
    (∀ (d : Nat) (s : State), s.Sound → d < 2 → dtGe s.dt (dtAdd (s.acqOf d 2).lc.lastTick (2 ^ 47)) = true → s.armed d 2 = true →
      s.streaming d 2 = false → (s.acqOf d 2).gap = none → s.remapHolds d 2 = false → Completes (.lcEscape d) s fun t =>
        (t.acqOf d 2).lc.lastTick = dtAdd (s.acqOf d 2).lc.lastTick (2 ^ 47)) ∧
    (∀ (d u v : Nat) (s : State), s.Sound → d < 2 → u < 8 → s.hostReach d = true → v % 2 = 1 →
      let m := v / 2 % 4
      let src := s.rd F.TIM_START_SRC.SRC [d, u]
      let stop := s.rd F.TIM_STOP_SRC.SRC [d, u]
      let good (x : Nat) := 0x10 ≤ x ∧ x ≤ 0x1F ∨ 0x22 ≤ x ∧ x ≤ 0x2B ∨ 0x40 ≤ x ∧ x ≤ 0x4B ∨ x = 0x50
      let mayRun := s.mode = .ready ∨ s.mode.acquires = true
      let s' := (State.writeTimCtrl d u v s).1
      (s.rd F.TIM_CTRL.EN [d, u] ≠ 0 → Completes (.timCtrlEnable d u v) s fun t => t.rd F.TIM_CTRL.EN [d, u] = s.rd F.TIM_CTRL.EN [d, u] ∧
        t.rd F.TIM_CTRL.MODE [d, u] = s.rd F.TIM_CTRL.MODE [d, u] ∧ t.rd F.TIM_CTRL.RES_EVT_EN [d, u] = v / 16 % 2 ∧
        (m ≠ s.rd F.TIM_CTRL.MODE [d, u] → t.rd F.TIM_STATUS.CFG_REJECT [d, u] = 1)) ∧
      (s.rd F.TIM_CTRL.EN [d, u] = 0 → Completes (.timCtrlEnable d u v) s fun t => t.rd F.TIM_CTRL.MODE [d, u] = m ∧
        t.rd F.TIM_CTRL.SIGNED [d, u] = v / 8 % 2 ∧ t.rd F.TIM_CTRL.RES_EVT_EN [d, u] = v / 16 % 2 ∧
        (¬mayRun → t.rd F.TIM_CTRL.EN [d, u] = 0 ∧ t.rd F.TIM_STATUS.EN_CHECK [d, u] = 0x0220) ∧
        (mayRun → State.timSrcReserved src false = true → t.rd F.TIM_CTRL.EN [d, u] = 0 ∧ t.rd F.TIM_STATUS.EN_CHECK [d, u] = 0x01A0) ∧
        (mayRun → good src → m = 0 → stop = 0xFF → t.rd F.TIM_CTRL.EN [d, u] = 0 ∧ t.rd F.TIM_STATUS.EN_CHECK [d, u] = 0x01A0) ∧
        (mayRun → good src → m = 1 → s.rd F.TIM_N.N [d, u] = 0 → t.rd F.TIM_CTRL.EN [d, u] = 0 ∧
          t.rd F.TIM_STATUS.EN_CHECK [d, u] = 0x01A1) ∧
        (mayRun → good src → m = 2 → s.rd F.TIM_GATE.US [d, u] = 0 ∨ 100000000 < s.rd F.TIM_GATE.US [d, u] →
          t.rd F.TIM_CTRL.EN [d, u] = 0 ∧ t.rd F.TIM_STATUS.EN_CHECK [d, u] = 0x01A1) ∧
        (s'.timCheck d u = 0 → s.rd F.PWR_STATUS.THERMAL [d] = 0 → s'.fits [d] (s'.cost 9) 0 = true →
          t.rd F.TIM_CTRL.EN [d, u] = 1 ∧ t.rd F.TIM_STATUS.EN_CHECK [d, u] = 0 ∧ t.rd F.TIM_TOTAL.COUNT [d, u] = 0 ∧
          (t.timOf d u).enabledAt = s.nextBlk d ∧ (t.timOf d u).opened = none ∧
          (t.timOf d u).fifo = ((s.timFinish d u).timOf d u).fifo))) ∧
    (∀ (d u v : Nat) (s : State), s.Sound → d < 2 → u < 8 → s.hostReach d = true → v % 2 = 0 →
      (s.rd F.TIM_CTRL.EN [d, u] = 0 → Completes (.timCtrlDisable d u v) s fun t => t.rd F.TIM_CTRL.EN [d, u] = 0 ∧
        t.rd F.TIM_CTRL.MODE [d, u] = v / 2 % 4 ∧ t.rd F.TIM_CTRL.SIGNED [d, u] = v / 8 % 2) ∧
      (s.rd F.TIM_CTRL.EN [d, u] ≠ 0 → (s.timOf d u).stopping = none →
        Completes (.timCtrlDisable d u v) s fun t => t.rd F.TIM_CTRL.EN [d, u] = 0 ∧
          t.rd F.TIM_STATUS.OPEN [d, u] = s.rd F.TIM_STATUS.OPEN [d, u] ∧
          t.timOf d u = { s.timOf d u with stopping := some (s.nextBlk d, s.now) } ∧
          ∀ e : TimEvent, e ∈ t.timHeld ↔ e ∈ s.timHeld ∧ ¬(e.die = d ∧ e.u = u ∧ instGe e.dt (4096 * s.nextBlk d) = true))) ∧
    (∀ (d u tick start : Nat) (s : State), s.Sound → d < 2 → u < 8 → (s.timOf d u).stopping = some (tick, start) → start + 128 * 107 ≤ s.now →
      (∀ e ∈ s.timHeld, ¬(e.die = d ∧ e.u = u)) → (s.timOf d u).fifo.length < 32 →
      let z := s.timOf d u
      Completes (.timEventProcess d u) s fun t => (t.timOf d u).stopping = none ∧ (t.timOf d u).opened = none ∧
        t.rd F.TIM_STATUS.OPEN [d, u] = s.rd F.TIM_STATUS.OPEN [d, u] % 2 ∧
        (s.rd F.TIM_CTRL.MODE [d, u] ≠ 3 → (t.timOf d u).fifo = z.fifo) ∧
        (s.rd F.TIM_CTRL.MODE [d, u] = 3 → ∃ r : TimResult, (t.timOf d u).fifo = z.fifo ++ [r] ∧
          r.count = s.rd F.TIM_TOTAL.COUNT [d, u] ∧ r.first = z.firstEdge.getD (4096 * z.enabledAt) ∧
          r.value = spanValue (instSub (4096 * tick) r.first) 0)) ∧
    (∀ (c : Instr) (d u : Nat) (s : State), c = .timEventProcess d u ∨ c = .timGateEnd d u → 32 ≤ (s.timOf d u).fifo.length →
      s.closing = false → Completes c s fun t => t = s.book c) ∧
    (∀ (d u : Nat) (s : State), s.Sound → (∀ v ∈ s.timHeld, ¬(v.die = d ∧ v.u = u ∧ s.timReady v = true)) →
      (s.timOf d u).stopping = none → (s.timOf d u).fifo.length < 32 ∨ s.closing = true →
      Completes (.timEventProcess d u) s fun t => t = s) ∧
    (∀ (v : TimEvent) (l : Instant) (s : State), s.Sound → v.die < 2 → v.u < 8 → s.timHeld = [v] → s.timReady v = true →
      (if v.e = 0 then (s.timOf v.die v.u).lastStart else (s.timOf v.die v.u).lastStop) = some l → instSub v.dt l < s.timHoldoff v →
      (s.timOf v.die v.u).stopping = none → (s.timOf v.die v.u).fifo.length < 32 ∨ s.closing = true → s.rd F.TIM_SUPPRESS.COUNT [v.die, v.u] + 1 < 2 ^ 32 → Completes (.timEventProcess v.die v.u) s fun t =>
        t.timHeld = [] ∧ t.rd F.TIM_SUPPRESS.COUNT [v.die, v.u] = s.rd F.TIM_SUPPRESS.COUNT [v.die, v.u] + 1 ∧
        t.timOf v.die v.u = s.timOf v.die v.u) ∧
    (∀ (v : TimEvent) (s : State), s.Sound → s.takesOne v → s.rd F.TIM_CTRL.MODE [v.die, v.u] = 0 →
      let d := v.die
      let u := v.u
      let z := s.timOf d u
      Completes (.timEventProcess d u) s fun t => t.timHeld = [] ∧
        (z.opened = none → v.e = 0 ∨ s.rd F.TIM_CTRL.SIGNED [d, u] ≠ 0 → (t.timOf d u).opened = some (v.e, v.dt, v.step) ∧
          t.rd F.TIM_STATUS.OPEN [d, u] = 1 ∧ (t.timOf d u).fifo = z.fifo) ∧
        (z.opened = none → v.e = 1 → s.rd F.TIM_CTRL.SIGNED [d, u] = 0 → s.rd F.TIM_IGN_STOP.COUNT [d, u] + 1 < 2 ^ 32 →
          (t.timOf d u).opened = none ∧ t.rd F.TIM_IGN_STOP.COUNT [d, u] = s.rd F.TIM_IGN_STOP.COUNT [d, u] + 1) ∧
        (∀ (dt0 : Instant) (k0 : Nat), z.opened = some (0, dt0, k0) → v.e = 0 → s.rd F.TIM_IGN_START.COUNT [d, u] + 1 < 2 ^ 32 →
          (t.timOf d u).opened = some (0, dt0, k0) ∧ t.rd F.TIM_IGN_START.COUNT [d, u] = s.rd F.TIM_IGN_START.COUNT [d, u] + 1) ∧
        (∀ (dt0 : Instant) (k0 : Nat), z.opened = some (0, dt0, k0) → v.e = 1 → z.fifo.length < 32 → (t.timOf d u).opened = none ∧
          ∃ r : TimResult, (t.timOf d u).fifo = z.fifo ++ [r] ∧ r.count = 0 ∧ r.first = dt0 ∧ bitAt r.flags 1 = false ∧
            r.value = spanValue (instDiff v.dt dt0) (max v.step k0)) ∧
        (∀ (dt0 : Instant) (k0 : Nat), z.opened = some (1, dt0, k0) → v.e = 0 → z.fifo.length < 32 → (t.timOf d u).opened = none ∧
          ∃ r : TimResult, (t.timOf d u).fifo = z.fifo ++ [r] ∧ r.count = 0 ∧ r.first = v.dt ∧ bitAt r.flags 1 = true ∧
            r.value = spanValue (instDiff dt0 v.dt) (max v.step k0)) ∧
        (∀ (dt0 : Instant) (k0 : Nat), z.opened = some (1 - v.e, dt0, k0) → 32 ≤ z.fifo.length → (t.timOf d u).fifo = z.fifo ∧
          (t.timOf d u).lost = true ∧ t.rd F.TIM_STATUS.FIFO_OVF [d, u] ≠ 0 ∧
          (s.rd F.TIM_STATUS.FIFO_OVF [d, u] = 0 → t.pends d 180 = true))) ∧
    (∀ (v : TimEvent) (s : State), s.Sound → s.takesOne v → s.rd F.TIM_CTRL.MODE [v.die, v.u] = 1 →
      let d := v.die
      let u := v.u
      let z := s.timOf d u
      Completes (.timEventProcess d u) s fun t => t.timHeld = [] ∧
        (z.firstEdge = none → (t.timOf d u).firstEdge = some v.dt ∧ (t.timOf d u).edges = 0) ∧
        (∀ f : Instant, z.firstEdge = some f → z.edges + 1 < s.rd F.TIM_N.N [d, u] →
          (t.timOf d u).firstEdge = some f ∧ (t.timOf d u).edges = z.edges + 1 ∧ (t.timOf d u).fifo = z.fifo) ∧
        (∀ f : Instant, z.firstEdge = some f → s.rd F.TIM_N.N [d, u] ≤ z.edges + 1 → z.fifo.length < 32 →
          (t.timOf d u).firstEdge = none ∧ ∃ r : TimResult, (t.timOf d u).fifo = z.fifo ++ [r] ∧ r.first = f ∧
            r.count = s.rd F.TIM_N.N [d, u] ∧ r.value = spanValue (instSub v.dt f) (max v.step z.step))) ∧
    (∀ (v : TimEvent) (s : State), s.Sound → s.takesOne v →
      let d := v.die
      let u := v.u
      let z := s.timOf d u
      Completes (.timEventProcess d u) s fun t => t.timHeld = [] ∧
        (s.rd F.TIM_CTRL.MODE [d, u] = 2 → (t.timOf d u).edges = z.edges + 1 ∧
          (t.timOf d u).firstEdge = some (z.firstEdge.getD v.dt) ∧ (t.timOf d u).lastEdge = some v.dt) ∧
        (s.rd F.TIM_CTRL.MODE [d, u] = 3 → v.e = 0 → (t.timOf d u).fifo = z.fifo ∧
          t.rd F.TIM_TOTAL.COUNT [d, u] = (s.rd F.TIM_TOTAL.COUNT [d, u] + 1) % 2 ^ 64) ∧
        (s.rd F.TIM_CTRL.MODE [d, u] = 3 → v.e = 1 → z.fifo.length < 32 → t.rd F.TIM_TOTAL.COUNT [d, u] = 0 ∧
          (t.timOf d u).firstEdge = some v.dt ∧ ∃ r : TimResult, (t.timOf d u).fifo = z.fifo ++ [r] ∧
            r.count = s.rd F.TIM_TOTAL.COUNT [d, u] ∧ r.first = z.firstEdge.getD (4096 * z.enabledAt))) ∧
    (∀ (a b : TimEvent) (s : State), s.Sound → a.die < 2 → a.u < 8 → b.die = a.die → b.u = a.u → a.e = 0 → b.e = 1 → a.dt < 2 ^ 76 → b.dt < 2 ^ 76 →
      instGe b.dt a.dt = true →
      s.timHeld = [a, b] ∨ s.timHeld = [b, a] → s.timReady a = true → s.timReady b = true →
      s.rd F.TIM_CTRL.MODE [a.die, a.u] = 0 →
      let z := s.timOf a.die a.u
      z.opened = none → z.lastStart = none → z.lastStop = none → z.stopping = none → z.fifo.length < 32 →
      Completes (.timEventProcess a.die a.u) s fun t => t.timHeld = [] ∧ (t.timOf a.die a.u).opened = none ∧
        ∃ r : TimResult, (t.timOf a.die a.u).fifo = z.fifo ++ [r] ∧ r.first = a.dt ∧ r.value = spanValue (instDiff b.dt a.dt) (max b.step a.step)) ∧
    (∀ (d u : Nat) (s : State), s.Sound → d < 2 → u < 8 →
      let z := s.timOf d u
      let e := dtAdd z.gateStart (s.rd F.TIM_GATE.US [d, u] * 160000)
      let runs := s.rd F.TIM_CTRL.EN [d, u] ≠ 0 ∧ s.rd F.TIM_CTRL.MODE [d, u] = 2 ∧ s.dueOn d e = true
      (¬runs → z.fifo.length < 32 ∨ s.closing = true → Completes (.timGateEnd d u) s fun t => t = s) ∧
      (runs → (∀ v ∈ s.timHeld, v.die = d → v.u = u → instGe v.dt (4096 * e) = true) → z.fifo.length < 32 →
        Completes (.timGateEnd d u) s fun t => (t.timOf d u).gateStart = e ∧ (t.timOf d u).edges = 0 ∧ t.timHeld = s.timHeld ∧
          ∃ r : TimResult, (t.timOf d u).fifo = z.fifo ++ [r] ∧
            (z.edges < 2 → r.count = 0 ∧ r.value = 0 ∧ bitAt r.flags 3 = true) ∧
            (∀ x y : Instant, 2 ≤ z.edges → z.firstEdge = some x → z.lastEdge = some y → r.count = z.edges - 1 ∧ r.first = x ∧
              bitAt r.flags 3 = false ∧ r.value = spanValue (instSub y x) z.step))) ∧
    (∀ (d u e v : Nat) (s : State), s.Sound → s.hostReach d = true →
      let ticks := s.rd F.TIM_CUE.TICKS [d, u, e]
      (s.rd F.TIM_CUE.ARM [d, u, e] = 0 →
        (Completes (.timCueWrite d u e 0 v) s fun t => t.rd F.TIM_CUE.TICKS [d, u, e] % 2 ^ 32 = v % 2 ^ 32) ∧
        (Completes (.timCueWrite d u e 1 v) s fun t => t.rd F.TIM_CUE.TICKS [d, u, e] / 2 ^ 32 = v % 2 ^ 32) ∧
        Completes (.timCueWrite d u e 2 v) s fun t => t.rd F.TIM_CUE.FRAC [d, u, e] = v % 2 ^ 12 ∧
          (bitAt v 16 = true → dtGe ticks (s.blkOf d) = true → t.rd F.TIM_CUE.ARM [d, u, e] = 1) ∧
          (bitAt v 16 = true → dtGe ticks (s.blkOf d) = false → t.rd F.TIM_CUE.ARM [d, u, e] = 0 ∧
            t.rd F.TIM_CUE.LATE [d, u, e] = 1 ∧ t.pends d 181 = true) ∧
          (bitAt v 16 = false → t.rd F.TIM_CUE.ARM [d, u, e] = 0 ∧ (bitAt v 17 = true → s.freshOf F.TIM_CUE.LATE [d, u, e] = 0 → t.rd F.TIM_CUE.LATE [d, u, e] = 0))) ∧
      (s.rd F.TIM_CUE.ARM [d, u, e] ≠ 0 →
        (∀ w : Nat, w < 2 → Completes (.timCueWrite d u e w v) s fun t => t = s) ∧
        (bitAt v 16 = false → Completes (.timCueWrite d u e 2 v) s fun t => t.rd F.TIM_CUE.ARM [d, u, e] = 0 ∧
          t.rd F.TIM_CUE.FRAC [d, u, e] = s.rd F.TIM_CUE.FRAC [d, u, e]))) ∧
    (∀ (d u e : Nat) (s : State), s.Sound → d < 2 → u < 8 → e < 2 →
      let ticks := s.rd F.TIM_CUE.TICKS [d, u, e]
      let dt := 4096 * ticks + s.rd F.TIM_CUE.FRAC [d, u, e]
      let src := s.rd (if e = 0 then F.TIM_START_SRC.SRC else F.TIM_STOP_SRC.SRC) [d, u]
      (s.rd F.TIM_CUE.ARM [d, u, e] = 0 ∨ s.dueOn d ticks = false → Completes (.timCueFire d u e) s fun t => t = s) ∧
      (s.rd F.TIM_CUE.ARM [d, u, e] ≠ 0 → s.dueOn d ticks = true → Completes (.timCueFire d u e) s fun t => t.rd F.TIM_CUE.ARM [d, u, e] = 0 ∧
        (src = 0x50 → s.rd F.TIM_CTRL.EN [d, u] ≠ 0 → s.inputUsed d u e = true → instGe dt (4096 * (s.timOf d u).enabledAt) = true →
          (∀ v ∈ s.timHeld, v.since ≠ s.now) → t.timHeld = s.timHeld ++ [⟨d, u, e, dt, 1, s.now⟩]) ∧
        (src ≠ 0x50 → t.timHeld = s.timHeld))) ∧
    (∀ (d u : Nat) (s : State), s.Sound → d < 2 → u < 8 → s.hostReach d = true →
      let rest := (s.timOf d u).fifo.drop 1
      Completes (.timResRead d u) s fun t => t.out = s.out ++ [.readData d (le 4 (s.rd F.TIM_RES.WORD [d, u, 7]))] ∧
        (t.timOf d u).fifo = rest ∧ t.rd F.TIM_STATUS.FIFO_LEVEL [d, u] = rest.length % 64 ∧
        (rest = [] → ∀ w : Nat, w < 8 → t.rd F.TIM_RES.WORD [d, u, w] = 0) ∧
        ∀ (r : TimResult) (l : List TimResult), rest = r :: l → ∀ w : Nat, w < 8 → t.rd F.TIM_RES.WORD [d, u, w] = r.words.getD w 0 % 2 ^ 32)

/-- Queues, doorbells, deliveries, routes, vectors, cores and answers follow R309 to R348. For every sound state and each queue q of a die
that host software reaches. An enable is refused by R311 with EN_CHECK, or the ring starts empty with PHASE 1; a disable of a ring in use
is refused with 0x0221, else it abandons what the ring holds; a write to a FIRMWARE queue is logged with 0x0405. A doorbell is judged in
R315's order and logged, or moves the index. A chunk goes to the address of a well-formed descriptor as its bytes, also where the cells
give codewords with at most two symbols in error; a malformed descriptor is logged with 0x0401. A failed read puts a ring into FAULT or
marks the overlay layer. EVC_RAISE writes the software event's record; one that finds its ring full waits for the end of the core cycle. A
coalescing deadline delivers once and leads to FIRED, as its cycle ends where it lands in it. A new target acts as the cycle ends.
Unmasking sends the pending message. A core takes the request of highest priority; takeover, exit and entry keep R336 to R338. An
unanswered command is converted at its deadline, as the cycle of the deadline ends; a long command finishes with its status; an unknown or
malformed command is logged and answered. Rests on R255, R311, R312, R313, R315, R319, R326, R329, R331, R336, R346, R348. -/
def Obligations.QueuesEventsAndInterrupts : Prop :=
  (∀ (c : Instr) (d q v : Nat) (s : State), s.Sound → s.hostReach d = true → c = .queEnable d q v ∨ c = .queDisable d q v →
      (queueKind q = 6 → Completes c s fun t => s.logged t d 0x0405 0xFFFF ∧ ∀ k : RegKey, k.reg = .QUE_CFG → t.regs.get k = s.regs.get k)) ∧
    (∀ (c : Instr) (d q v : Nat) (s : State), s.Sound → s.hostReach d = true → c = .queEnable d q v ∨ c = .queDisable d q v →
      queueKind q ≠ 6 → bitAt v 4 = true → s.rd F.QUE_CFG.ENABLE [d, q] = 0 → s.rd F.QUE_STATUS.STATE [d, q] = 0 →
      let n := v / 32 % 32
      let cq := v / 2 ^ 13 % 2 ^ 13
      let wb := s.rd F.QUE_WB.ADDR [d, q]
      let aux := s.rd F.QUE_AUX.ADDR [d, q]
      let sound := s.rd F.QUE_BASE.BASE [d, q] % 4096 = 0 ∧ 4 ≤ n ∧ n ≤ 16 ∧ wb % 8 = 0 ∧
        (queueKind q = 3 ∨ queueKind q = 4 → wb ≠ 0) ∧ (queueKind q = 5 → aux ≠ 0 ∧ aux % 4096 = 0)
      let served := queueKind q = 0 → queueKind cq = 1 ∧ s.rd F.QUE_STATUS.STATE [d, cq] = 1
      let own := s.rd F.QUE_IRQ.TARGET [d, q] ≠ 0 → s.rd F.QUE_IRQ.VECTOR [d, q] / 2 = d
      let here := s.rd I.bankRetired [d, q / 1024] = 0
      Completes c s fun t => t.rd F.QUE_CFG.LOG2_SIZE [d, q] = n ∧ t.rd F.QUE_CFG.CQ [d, q] = cq ∧
        (¬here → t.rd F.QUE_STATUS.EN_CHECK [d, q] = 0x0229 ∧ t.rd F.QUE_STATUS.STATE [d, q] = 0) ∧
        (here → ¬sound → t.rd F.QUE_STATUS.EN_CHECK [d, q] = 0x01B0 ∧ t.rd F.QUE_STATUS.STATE [d, q] = 0) ∧
        (here → sound → ¬served → t.rd F.QUE_STATUS.EN_CHECK [d, q] = 0x01B1 ∧ t.rd F.QUE_STATUS.STATE [d, q] = 0) ∧
        (here → sound → served → ¬own → t.rd F.QUE_STATUS.EN_CHECK [d, q] = 0x01B2 ∧ t.rd F.QUE_STATUS.STATE [d, q] = 0) ∧
        (here → sound → served → own → t.rd F.QUE_STATUS.EN_CHECK [d, q] = 0 ∧ t.rd F.QUE_STATUS.STATE [d, q] = 1 ∧
          t.rd F.QUE_CFG.ENABLE [d, q] = 1 ∧ t.rd F.QUE_STATUS.PHASE [d, q] = 1 ∧ t.rd F.QUE_PTR.HEAD [d, q] = 0 ∧
          t.rd F.QUE_PTR.TAIL [d, q] = 0)) ∧
    (∀ (c : Instr) (d q v : Nat) (s : State), s.Sound → s.hostReach d = true → c = .queEnable d q v ∨ c = .queDisable d q v →
      queueKind q ≠ 6 → bitAt v 4 = false → s.rd F.QUE_CFG.ENABLE [d, q] ≠ 0 → s.rd F.QUE_STATUS.STATE [d, q] ≠ 3 →
      let used := s.setUses d q || s.libUses d q || s.cqUsed d q
      (used = true → Completes c s fun t => t.rd F.QUE_STATUS.EN_CHECK [d, q] = 0x0221 ∧
        t.rd F.QUE_CFG.ENABLE [d, q] = s.rd F.QUE_CFG.ENABLE [d, q] ∧ t.rd F.QUE_STATUS.STATE [d, q] = s.rd F.QUE_STATUS.STATE [d, q]) ∧
      (used = false → Completes c s fun t => t.rd F.QUE_STATUS.EN_CHECK [d, q] = 0 ∧ t.rd F.QUE_CFG.ENABLE [d, q] = 0 ∧
        (queueKind q ≠ 3 → t.rd F.QUE_STATUS.STATE [d, q] = 0 ∧ t.rd F.QUE_STATUS.IRQ_STATE [d, q] = 0 ∧
          ∀ r ∈ t.ringRecs, ¬(r.die = d ∧ r.q = q)))) ∧
    (∀ (d q v : Nat) (s : State), s.Sound → s.hostReach d = true →
      let index := v % 2 ^ 16
      let size := 2 ^ s.rd F.QUE_CFG.LOG2_SIZE [d, q]
      let st := s.rd F.QUE_STATUS.STATE [d, q]
      let head := s.rd F.QUE_PTR.HEAD [d, q]
      let held := (s.rd F.QUE_PTR.TAIL [d, q] + size - head) % size
      let moved := (index + size - head) % size
      let host := queueKind q = 0 ∨ queueKind q = 5
      Completes (.doorbell d q v) s fun t =>
        (queueKind q = 6 → s.logged t d 0x0405 0xFFFF) ∧
        (queueKind q ≠ 6 → st = 3 → s.logged t d 0x040C q) ∧
        (queueKind q ≠ 6 → st ≠ 3 → size ≤ index → s.logged t d 0x0402 q) ∧
        (queueKind q ≠ 6 → st ≠ 3 → index < size → st ≠ 1 → s.logged t d 0x0403 q) ∧
        (queueKind q ≠ 6 → st = 1 → index < size → (host → moved < held) → (¬host → held < moved) → s.logged t d 0x0404 q) ∧
        (st = 1 → index < size → host → held ≤ moved → t.rd F.QUE_PTR.TAIL [d, q] = index) ∧
        (queueKind q ≠ 6 → st = 1 → index < size → ¬host → moved ≤ held → t.rd F.QUE_PTR.HEAD [d, q] = index)) ∧
    (∀ (d q a : Nat) (x : DataDesc) (ws : List ReadWord) (c : Chunk) (rest : List Chunk) (s : State), s.Sound → d < 2 → a < 3 →
      s.canFill d q = true → s.misread = [] → (∀ w ∈ ws, (symbolErrors w.errs).length ≤ 2) →
      queueKind (s.cqOf d q) = 1 → s.libOn d q = none → s.chunkSet d q = some a → (s.acqOf d a).buf.closed = c :: rest →
      s.chunkBlocked d a c = false →
      let marks := (s.acqOf d a).markPos.filter fun m => c.firstPos ≤ m.1 && m.1 ≤ c.lastPos && 0 < c.count
      (State.descMalformed x (2 ^ s.rd F.STR_CTRL.CHUNK_LOG2 [d, a]) = false → Completes (.chunkDelivery d q x ws) s fun t =>
        Output.mem d x.addr (chunkBytes (State.sourceBits d a) (s.format d a) (s.acqOf d a).buf.chunkSeq c (s.chunkSamples d a c) marks) ∈ t.out ∧
        (t.acqOf d a).buf.closed = rest ∧ (t.acqOf d a).buf.chunkSeq = (s.acqOf d a).buf.chunkSeq + 1) ∧
      (State.descMalformed x (2 ^ s.rd F.STR_CTRL.CHUNK_LOG2 [d, a]) = true → Completes (.chunkDelivery d q x ws) s fun t =>
        (t.acqOf d a).buf.closed = c :: rest ∧ s.logged t d 0x0401 q)) ∧
    (∀ (d l q why : Nat) (s : State), s.Sound → d < 2 → l < 3 → why < 2 →
      (∀ layer : Option Nat, Completes (.hostReadCompletion d layer q 0) s fun t => t = s) ∧
      (queueKind q = 0 ∨ queueKind q = 5 → s.rd F.QUE_STATUS.STATE [d, q] = 1 →
        Completes (.hostReadCompletion d none q (why + 1)) s (fun t => t.pends d 201 = true) ∧
        Completes (.pcieCompletionTimeout d none q) s fun t => t.pends d 201 = true) ∧
      (s.rd F.SCN_STATUS.RUNNING [d] ≠ 0 → ∀ b : OvlBase, (s.layerOf d l).shown = some b → b.src = 0 →
        Completes (.hostReadCompletion d (some l) q (why + 1)) s (fun t => (t.layerOf d l).faulted = true ∧
          t.rd F.SCN_FAULT_FRAME.FRAME [d, l] = s.rd F.SCN_FRAME.FRAME [d] % 2 ^ 32 ∧ t.pends d 162 = true) ∧
        Completes (.pcieCompletionTimeout d (some l) q) s fun t => (t.layerOf d l).faulted = true ∧ t.pends d 162 = true)) ∧
    (∀ (d v : Nat) (s : State), s.Sound → s.hostReach d = true →
      let q := s.rd F.EVC_ROUTE.QUEUE [d, 202]
      Completes (.evcRaise d v) s fun t => t.pends d 202 = true ∧
        (queueKind q = 2 → s.rd F.EVC_ROUTE.EN [d, 202] ≠ 0 → s.rd I.levelHeld [d, 202] = 0 → s.rd F.QUE_STATUS.STATE [d, q] = 1 →
          (s.ringFull d q = false → (∀ x ∈ s.heldRecs, ¬(x.die = d ∧ x.q = q)) →
            Output.mem d (s.rd F.QUE_BASE.BASE [d, q] + 16 * s.rd F.QUE_PTR.TAIL [d, q])
              (State.eventBytes (s.blkOf d) (202 + 256 * d) (s.masked d 202) (!s.masked d 202 && s.coalLands d q) (s.isSet I.ovfBefore [d, q])
                (s.rd F.QUE_STATUS.PHASE [d, q]) 4 ((s.rd I.raiseCount [d, 202] + 1) % 2 ^ 12) (v % 2 ^ 32)) ∈ t.out) ∧
          (s.ringFull d q = true → s.closing = false → t.out = s.out ∧ t.heldRecs = s.heldRecs ++
            [⟨d, 202, q, s.blkOf d, v % 2 ^ 32, 4, (s.rd I.raiseCount [d, 202] + 1) % 2 ^ 12, s.masked d 202⟩]))) ∧
    (∀ (d q : Nat) (s : State), s.Sound → s.coalDue d q = false → Completes (.coalesceDeadline d q) s fun t => t = s) ∧
    (∀ (d q : Nat) (s : State), s.Sound → s.coalDue d q = true →
      let w := s.rd F.QUE_IRQ.VECTOR [d, q]
      let delivered (t : State) :=
        t.rd F.QUE_STATUS.IRQ_STATE [d, q] = 2 ∧ t.rd I.coalTimed [d, q] = 0 ∧
        (s.rd F.QUE_IRQ.TARGET [d, q] ≠ 0 → t.coreReqs = s.coreReqs ++ [⟨w % 4, s.rd F.QUE_IRQ.PRIO [d, q], q⟩]) ∧
        (s.rd F.QUE_IRQ.TARGET [d, q] = 0 → s.rd F.MSIX.MASKED [d, w] = 0 → s.rd I.msixFuncMask [d] = 0 →
          t.out = s.out ++ [.msix d w (4 * s.rd F.MSIX.ADDR [d, w]) (s.rd F.MSIX.DATA [d, w])]) ∧
        (s.rd F.QUE_IRQ.TARGET [d, q] = 0 → s.rd F.MSIX.MASKED [d, w] ≠ 0 ∨ s.rd I.msixFuncMask [d] ≠ 0 →
          t.out = s.out ∧ bitAt (t.rd F.MSIX_PBA.PEND [d, w / 32]) (w % 32) = true)
      (s.coalLands d q = true → CompletesAtEnd (.coalesceDeadline d q) s delivered) ∧
      (s.coalLands d q = false → Completes (.coalesceDeadline d q) s delivered)) ∧
    (∀ (d q v : Nat) (s : State), s.Sound → s.hostReach d = true → queueKind q ≠ 6 → CompletesAtEnd (.queIrqWrite d q v) s fun t =>
      t.rd F.QUE_IRQ.VECTOR [d, q] = v % 2 ^ 10 ∧ t.rd F.QUE_IRQ.TARGET [d, q] = v / 2 ^ 10 % 2 ∧
      t.rd F.QUE_IRQ.PRIO [d, q] = v / 2 ^ 11 % 16 ∧
      t.rd F.QUE_IRQ.COAL_COUNT [d, q] = (if v / 2 ^ 16 % 2 ^ 12 = 0 then s.rd F.QUE_IRQ.COAL_COUNT [d, q] else v / 2 ^ 16 % 2 ^ 12)) ∧
    (∀ (d q v : Nat) (s : State), s.Sound → s.hostReach d = true → queueKind q = 6 → Completes (.queIrqWrite d q v) s fun t =>
      s.logged t d 0x0405 0xFFFF) ∧
    (∀ (d v : Nat) (s : State), s.Sound → s.hostReach d = true →
      (Completes (.msixUnmask d (some v)) s fun t => t.rd F.MSIX.MASKED [d, v] = 0 ∧
        (s.rd I.msixFuncMask [d] = 0 → bitAt (s.rd F.MSIX_PBA.PEND [d, v / 32]) (v % 32) = true →
          bitAt (t.rd F.MSIX_PBA.PEND [d, v / 32]) (v % 32) = false ∧
          t.out = s.out ++ [.msix d v (4 * s.rd F.MSIX.ADDR [d, v]) (s.rd F.MSIX.DATA [d, v])])) ∧
      Completes (.msixUnmask d none) s fun t => t.rd I.msixFuncMask [d] = 0 ∧ (v < 1024 → s.rd F.MSIX.MASKED [d, v] = 0 →
        bitAt (t.rd F.MSIX_PBA.PEND [d, v / 32]) (v % 32) = false)) ∧
    (∀ (d src v : Nat) (s : State), s.Sound → s.hostReach d = true →
      (queueKind (v % 2 ^ 13) ≠ 2 → Completes (.evcRouteWrite d src v) s fun t => t.rd F.EVC_STATUS.ROUTE_REJECT [d] = 1 ∧
        ∀ k : RegKey, k.reg = .EVC_ROUTE → t.regs.get k = s.regs.get k) ∧
      (queueKind (v % 2 ^ 13) = 2 → Completes (.evcRouteWrite d src v) s fun t => t.rd F.EVC_ROUTE.QUEUE [d, src] = v % 2 ^ 13 ∧
        t.rd F.EVC_ROUTE.EN [d, src] = v / 2 ^ 13 % 2)) ∧
    (∀ (k : Nat) (a b : CoreReq) (s : State), s.Sound → a.core = k → b.core = k → a.prio < b.prio → b.prio < 16 →
      s.coreReqs = [a, b] ∨ s.coreReqs = [b, a] → s.rd I.coreAsleep [k] = 0 → s.rd I.coreWoke [k] = 0 → s.rd I.coreLevel [k] ≤ b.prio →
      (s.rd I.coreReq [k] = 0 → s.rd I.coreOut [k] = 0 → Completes (.distaffEntry k) s fun t => t.coreReqs = [a] ∧
        t.rd I.coreLevel [k] = b.prio + 1 ∧ t.rd I.coreDepth [k] = (s.rd I.coreDepth [k] + 1) % 2 ^ 8 ∧
        t.rd I.coreStack [k, s.rd I.coreDepth [k]] = s.rd I.coreLevel [k] % 2 ^ 5 ∧
        t.rd I.coreFetch [k] = (max s.now (s.rd I.coreFetch [k]) + 128 * 12) % 2 ^ 128) ∧
      (s.rd I.coreReq [k] ≠ 0 → s.now < s.rd I.coreAt [k] + 128 * 11 → Completes (.distaffEntry k) s fun t =>
        t.coreReqs = [⟨k, s.rd I.coreReq [k] - 1, s.rd I.coreReqQ [k]⟩, a] ∧ t.rd I.coreLevel [k] = b.prio + 1 ∧
        t.rd I.coreDepth [k] = s.rd I.coreDepth [k] ∧
        t.rd I.coreFetch [k] = max (s.rd I.coreAt [k] + 128 * 12) (s.now + 128 * 5) % 2 ^ 128)) ∧
    (∀ (k : Nat) (s : State), s.Sound → s.rd I.coreDepth [k] ≠ 0 → s.rd I.coreDepth [k] < 2 ^ 8 →
      let back := s.rd I.coreStack [k, s.rd I.coreDepth [k] - 1]
      (s.coreReqs = [] → Completes (.distaffExit k) s fun t => t.rd I.coreDepth [k] = s.rd I.coreDepth [k] - 1 ∧
        t.rd I.coreLevel [k] = back % 2 ^ 5 ∧ t.rd I.coreFetch [k] = (s.now + 128 * 10) % 2 ^ 128) ∧
      (∀ r : CoreReq, s.coreReqs = [r] → r.core = k → back ≤ r.prio → r.prio < 16 → Completes (.distaffExit k) s fun t =>
        t.coreReqs = [] ∧ t.rd I.coreDepth [k] = s.rd I.coreDepth [k] ∧ t.rd I.coreLevel [k] = r.prio + 1 ∧
        t.rd I.coreFetch [k] = (s.now + 128 * 5) % 2 ^ 128)) ∧
    (∀ (d v : Nat) (s : State), s.Sound → s.hostReach d = true →
      (s.rd F.MBX_URG_STATUS.BUSY [d] ≠ 0 → Completes (.mbxUrgGo d v) s fun t => t.rd F.MBX_URG_STATUS.REJECT [d] = 1 ∧
        s.logged t d 0x040B 0xFFFE) ∧
      (s.rd F.MBX_URG_STATUS.BUSY [d] = 0 → bitAt v 0 = true → Completes (.mbxUrgGo d v) s fun t =>
        t.rd F.MBX_URG_STATUS.BUSY [d] = 1 ∧ t.rd F.MBX_URG_STATUS.DONE [d] = 0)) ∧
    (∀ (d : Nat) (src : MbxSource) (x : Taken) (s : State), s.Sound → (s.taken.find? fun y => y.die == d && y.src == src) = some x →
      (s.elapsed x.takenAt 2500000 = false → Completes (.answerDeadline d src) s fun t => t = s) ∧
      (s.elapsed x.takenAt 2500000 = true → x.dropped = false →
        let converted (t : State) := (∀ y ∈ t.taken, ¬(y.die = d ∧ y.src = src ∧ y.tag = x.tag)) ∧
          ⟨x.die, x.src, x.tag, x.opcode, true, true, false, 0, none⟩ ∈ t.outstanding
        (s.elapsesNow x.takenAt 2500000 = true → CompletesAtEnd (.answerDeadline d src) s converted) ∧
        (s.elapsesNow x.takenAt 2500000 = false → Completes (.answerDeadline d src) s converted))) ∧
    (∀ (d tag : Nat) (ok : Bool) (bytes : List Byte) (o : Outstanding) (s : State), s.Sound →
      (s.outstanding.find? fun o => o.die == d && o.tag == tag && !o.converted && !o.deferred) = some o →
      let ends (t : State) (status : Nat) (results : List Byte) := ⟨d, tag, status, results⟩ ∈ t.kept ∧ t.pends d 216 = true ∧
        ∀ y ∈ t.outstanding, ¬(y.die = d ∧ y.tag = tag)
      (∀ (status : Nat) (results : List Byte), o.done = some (status, results) →
        Completes (.longCommandComplete d tag ok bytes) s fun t => ends t status results) ∧
      (o.done = none → o.opcode = 0x0808 → Completes (.longCommandComplete d tag ok bytes) s fun t => ends t (if ok then 0 else 0x0208) [] ∧
        (ok = true → Output.mem o.die o.unit (padTo 128 bytes) ∈ t.out)) ∧
      (o.done = none → o.opcode = 0x0E01 → Completes (.longCommandComplete d tag ok bytes) s fun t =>
        ends t (if ok then 0 else 0x0206) (le 4 (if ok then o.unit else 0))) ∧
      (o.done = none → o.opcode = 0x0E02 → Completes (.longCommandComplete d tag ok bytes) s fun t =>
        ends t (if ok && headerOk (s.imageHeader (1 - s.rd F.BOOT_STATUS.IMAGE [])) then 0 else 0x0209) [])) ∧
    (∀ (d : Nat) (x : Delivery) (s : State), s.Sound → (s.deliveries.find? fun x => x.die == d && !x.running) = some x →
      s.libRunning d < 4 → Completes (.libDeliveryStart d) s fun t =>
        t.deliveries = s.deliveries.map fun z => if z = x then { x with running := true } else z) ∧
    (∀ (h : MbxHdr) (opcode : Nat) (malformed : Bool) (s : State), s.Sound → s.canTake h = true →
      let code := if s.tagOutstanding h.die h.tag then 0x0407 else if malformed then 0x0406 else 0x0400
      Completes (.unknownOpcodeCommand h opcode malformed) s fun t => t.answered h opcode code [] ∧
        s.logged t h.die code (State.sourceQueue h.src))

/-- The mailbox commands of the accumulation, display, logic, interval and comparator groups do R356's work and answer. For every sound state
in which the engine takes the command now, for the die or channel it concerns; the settings that act from the next block, ACC_CMD,
POOL_RELEASE and TIM_EN are carried out as the core cycle ends. A configuration command whose images have no reserved bit set and whose
block accepts writes its fields and answers OK with the number of writes; a block that is not IDLE, or a unit that is enabled, answers its
status. ACC_CMD stops and freezes, and asks for a clear pass of a histogram that is not frozen. Readouts deliver the averages or the
histogram from the channel's own die and are long commands. POOL_ALLOC takes a free place at a multiple of 64 KiB or answers 0x0303, or
0x0229 with the pool retired; POOL_RELEASE frees a buffer that is not shown. DPCD answers the panel's bytes, 0x0207 with no panel, 0x0208
where the panel fails; EDID_READ is accepted. TIM_EN answers EN_CHECK, TIM_READ the head of the FIFO, which it removes. Status commands
answer the registers named. Rests on R229, R235, R236, R254, R265, R272, R276, R286, R301, R350, R352, R356. -/
def Obligations.MailboxAccumulateDisplayLogic : Prop :=
  (∀ (h : MbxHdr) (ch ctrl count len start : Nat) (s : State), s.Sound → s.takesNow h → ch < 4 → s.dieRetired (ch / 2) = false → start < 2 ^ 41 →
      let d := ch / 2
      let c := ch % 2
      let clean := State.imageOk .ACC_CTRL ctrl = true ∧ State.imageOk .ACC_AVG_COUNT count = true ∧ State.imageOk .ACC_AVG_LEN len = true
      (clean → s.rd F.ACC_STATUS.STATE [d, c] = 0 → CommandAtEnd (.accSetAvg h ch ctrl count len start) h 0x0800 s fun t =>
        t.answered h 0x0800 0 (le 1 4) ∧ t.rd F.ACC_CTRL.AVG_EN [d, c] = ctrl % 2 ∧ t.rd F.ACC_CTRL.HIST_EN [d, c] = ctrl / 2 % 2 ∧
        t.rd F.ACC_CTRL.REPEAT [d, c] = ctrl / 4 % 2 ∧ t.rd F.ACC_CTRL.CLEAR_ON_START [d, c] = ctrl / 8 % 2 ∧
        t.rd F.ACC_AVG_COUNT.TARGET [d, c] = count % 2 ^ F.ACC_AVG_COUNT.TARGET.width ∧
        t.rd F.ACC_AVG_LEN.LEN [d, c] = len % 2 ^ F.ACC_AVG_LEN.LEN.width ∧ t.rd F.ACC_AVG_START.START [d, c] = start) ∧
      (clean → s.rd F.ACC_STATUS.STATE [d, c] ≠ 0 → ctrl % 2 ≠ s.rd F.ACC_CTRL.AVG_EN [d, c] →
        CommandAtEnd (.accSetAvg h ch ctrl count len start) h 0x0800 s fun t => t.answered h 0x0800 0x021C (le 1 0) ∧
          t.rd F.ACC_CTRL.AVG_EN [d, c] = s.rd F.ACC_CTRL.AVG_EN [d, c] ∧
          t.rd F.ACC_AVG_COUNT.TARGET [d, c] = s.rd F.ACC_AVG_COUNT.TARGET [d, c]) ∧
      (¬clean → CommandAtEnd (.accSetAvg h ch ctrl count len start) h 0x0800 s fun t => t.answered h 0x0800 0x0100 [] ∧
        ∀ k : RegKey, k.reg = .ACC_CTRL ∨ k.reg = .ACC_AVG_COUNT ∨ k.reg = .ACC_AVG_LEN → t.regs.get k = s.regs.get k)) ∧
    (∀ (h : MbxHdr) (ch y decay period origin step excl : Nat) (s : State), s.Sound → s.takesNow h → ch < 4 → s.dieRetired (ch / 2) = false →
      State.imageOk .ACC_HIST_Y y = true → State.imageOk .ACC_DECAY decay = true → State.imageOk .ACC_FRAME_PERIOD period = true →
      State.imageOk .ACC_EXCL excl = true → origin < 2 ^ F.ACC_HIST_X_ORIGIN.ORIGIN.width → step < 2 ^ F.ACC_HIST_X_STEP.STEP.width →
      s.rd F.ACC_STATUS.STATE [ch / 2, ch % 2] = 0 → CommandAtEnd (.accSetHist h ch y decay period origin step excl) h 0x0801 s fun t =>
        t.answered h 0x0801 0 (le 1 6) ∧ t.rd F.ACC_HIST_X_ORIGIN.ORIGIN [ch / 2, ch % 2] = origin ∧
        t.rd F.ACC_HIST_X_STEP.STEP [ch / 2, ch % 2] = step ∧ t.image .ACC_HIST_Y [ch / 2, ch % 2] = y ∧
        t.image .ACC_DECAY [ch / 2, ch % 2] = decay ∧ t.image .ACC_FRAME_PERIOD [ch / 2, ch % 2] = period ∧
        t.image .ACC_EXCL [ch / 2, ch % 2] = excl) ∧
    (∀ (h : MbxHdr) (ch freeze : Nat) (s : State), s.Sound → s.takesNow h → ch < 4 → s.dieRetired (ch / 2) = false → freeze ≤ 2 →
      let d := ch / 2
      let c := ch % 2
      (freeze ≠ 0 → CommandAtEnd (.accCmd h ch 0 freeze) h 0x0802 s fun t => t.rd F.ACC_CTRL.FREEZE [d, c] = freeze - 1 ∧
        t.answered h 0x0802 0 (t.regBytes .ACC_STATUS [d, c])) ∧
      (s.rd F.ACC_STATUS.STATE [d, c] ≠ 0 → (s.accOf d c).commit = none → CommandAtEnd (.accCmd h ch 2 0) h 0x0802 s fun t => t.rd F.ACC_STATUS.STATE [d, c] = 0 ∧
        t.answered h 0x0802 0 (t.regBytes .ACC_STATUS [d, c])) ∧
      (s.accCheck d c ≠ 0 → s.accCheck d c ≠ 1 → s.accCheck d c ≠ 2 → CommandAtEnd (.accCmd h ch 1 0) h 0x0802 s fun t =>
        t.rd F.ACC_STATUS.STATE [d, c] = s.rd F.ACC_STATUS.STATE [d, c] ∧
        t.answered h 0x0802 (s.accCheck d c) []) ∧
      (s.mode.acquires = true → s.rd F.CNV_STATUS.AVAILABLE [d, c] ≠ 0 → ¬(s.paired = true ∧ c = 1) → s.rd I.engRetired [d, c] = 0 →
        s.rd F.ACC_CTRL.FREEZE [d, c] = 0 → CommandAtEnd (.accCmd h ch 8 0) h 0x0802 s fun t => t.answered h 0x0802 0 (t.regBytes .ACC_STATUS [d, c]) ∧
          (∃ k : AccPass, (t.accOf d c).passes.getLast? = some k ∧ k.shift = none ∧ k.asked = s.now)) ∧
      (s.rd F.ACC_CTRL.FREEZE [d, c] ≠ 0 → CommandAtEnd (.accCmd h ch 8 0) h 0x0802 s fun t => t.acc = s.acc ∧
        t.answered h 0x0802 0 (t.regBytes .ACC_STATUS [d, c]))) ∧
    (∀ (h : MbxHdr) (ch size addr : Nat) (s : State), s.Sound → s.takesNow h → ch < 4 → s.dieRetired (ch / 2) = false → s.hasRoom h.die →
      let d := ch / 2
      let c := ch % 2
      let need := 64 + 2 * s.rd F.ACC_AVG_LEN.LEN [d, c]
      (size < need → Completes (.accReadAvg h ch size addr) s fun t => t.answered h 0x0803 0x0100 []) ∧
      (need ≤ size → s.rd F.ACC_STATUS.STATE [d, c] ≠ 2 → Completes (.accReadAvg h ch size addr) s fun t => t.answered h 0x0803 0x021D []) ∧
      (need ≤ size → s.rd F.ACC_STATUS.STATE [d, c] = 2 → Completes (.accReadAvg h ch size addr) s fun t => t.answered h 0x0803 1 [] ∧
        Output.mem d addr (s.avgBytes d c) ∈ t.out ∧
        ⟨h.die, h.src, h.tag, 0x0803, false, false, false, 0, some (0, le 4 need)⟩ ∈ t.outstanding) ∧
      (Completes (.accReadHist h ch addr) s fun t => t.answered h 0x0804 1 [] ∧
        Output.mem d addr ((List.range 2048).flatMap fun x => (List.range 1024).flatMap fun r => le 2 (s.histCell d c x r)) ∈ t.out ∧
        ⟨h.die, h.src, h.tag, 0x0804, false, false, false, 0, some (0, [])⟩ ∈ t.outstanding)) ∧
    (∀ (h : MbxHdr) (size : Nat) (s : State), s.Sound → s.takesNow h →
      let z := ceilDiv size 65536 * 65536
      let free (off : Nat) := off + z ≤ 134217728 ∧ ∀ p ∈ s.pool, p.die ≠ h.die ∨ off + z ≤ p.off ∨ p.off + p.size ≤ off
      (size = 0 → Completes (.poolAlloc h size) s fun t => t.answered h 0x0805 0x0100 []) ∧
      (size ≠ 0 → s.rd F.BOB_RETIRED.POOL [h.die] ≠ 0 → Completes (.poolAlloc h size) s fun t => t.pool = s.pool ∧ t.answered h 0x0805 0x0229 []) ∧
      (size ≠ 0 → s.rd F.BOB_RETIRED.POOL [h.die] = 0 → (∃ k : Nat, k < 2048 ∧ free (65536 * k)) → Completes (.poolAlloc h size) s fun t =>
        ∃ k : Nat, k < 2048 ∧ free (65536 * k) ∧ t.pool = s.pool ++ [⟨h.die, 65536 * k, z, false⟩] ∧ t.answered h 0x0805 0 (le 4 (65536 * k))) ∧
      (size ≠ 0 → s.rd F.BOB_RETIRED.POOL [h.die] = 0 → (∀ k : Nat, k < 2048 → ¬free (65536 * k)) → Completes (.poolAlloc h size) s fun t =>
        t.pool = s.pool ∧ t.answered h 0x0805 0x0303 [])) ∧
    (∀ (h : MbxHdr) (off : Nat) (s : State), s.Sound → s.takesNow h →
      ((∀ p ∈ s.pool, ¬(p.die = h.die ∧ p.off = off)) → CommandAtEnd (.poolRelease h off) h 0x0806 s fun t => t.answered h 0x0806 0x0100 []) ∧
      (∀ p : PoolBuf, (s.pool.find? fun p => p.die == h.die && p.off == off) = some p →
        (s.poolShown p = true → CommandAtEnd (.poolRelease h off) h 0x0806 s fun t => t.pool = s.pool ∧ t.answered h 0x0806 0x021E []) ∧
        (s.poolShown p = false → s.poolLeaving p = false → CommandAtEnd (.poolRelease h off) h 0x0806 s fun t => p ∉ t.pool ∧
          t.answered h 0x0806 0 []) ∧
        (s.poolShown p = false → s.poolLeaving p = true → s.hasRoom h.die → CommandAtEnd (.poolRelease h off) h 0x0806 s fun t =>
          t.answered h 0x0806 2 []))) ∧
    (∀ (h : MbxHdr) (write len addr block : Nat) (sent : List Byte) (data : Option (List Byte)) (s : State), s.Sound → s.takesNow h →
      write ≤ 1 → 1 ≤ len → len ≤ 16 → addr < 2 ^ 20 → sent.length = 16 → block < 256 →
      let up := s.rd F.SCN_STATUS.HPD [h.die] ≠ 0 ∧ s.rd F.SCN_STATUS.LINK [h.die] ≠ 3
      (¬up → Completes (.dpcd h write len addr sent data) s (fun t => t.answered h 0x0807 0x0207 []) ∧
        Completes (.edidRead h block addr) s fun t => t.answered h 0x0808 0x0207 []) ∧
      (up → (data = none → Completes (.dpcd h write len addr sent data) s fun t => t.answered h 0x0807 0x0208 []) ∧
        (∀ b : List Byte, data = some b → Completes (.dpcd h write len addr sent data) s fun t =>
          t.answered h 0x0807 0 (padTo 16 (b.take len))) ∧
        (s.hasRoom h.die → Completes (.edidRead h block addr) s fun t => t.answered h 0x0808 1 [] ∧
          ⟨h.die, h.src, h.tag, 0x0808, false, false, false, addr, none⟩ ∈ t.outstanding))) ∧
    (∀ (h : MbxHdr) (s : State), s.Sound → s.takesNow h → Completes (.dispStatus h) s fun t => t.answered h 0x0809 0
      (s.regBytes .SCN_STATUS [h.die] ++ s.regBytes .SCN_FRAME [h.die] ++ s.regBytes .FRW_STATUS [h.die] ++ s.regBytes .FRW_CRC [h.die])) ∧
    (∀ (h : MbxHdr) (ch v : Nat) (s : State), s.Sound → s.takesNow h → ch < 16 → State.imageOk .LGC_CH_CFG v = true →
      let d := h.die
      let th := sval 11 (v / 2 % 2 ^ 11)
      (-600 ≤ th → th ≤ 600 → v / 2 ^ 12 % 2 ^ 7 ≤ 100 → v / 2 ^ 19 % 2 ^ 6 ≤ 50 →
          v % 2 = s.rd F.LGC_CH_CFG.MODE [d, ch] ∨ s.lgcInUse d ch = false → CommandAtEnd (.lgcSet h ch v) h 0x0900 s fun t =>
        t.answered h 0x0900 0 (le 1 1) ∧ t.rd F.LGC_CH_CFG.MODE [d, ch] = v % 2 ∧ t.rd F.LGC_CH_CFG.THRESH [d, ch] = v / 2 % 2 ^ 11 ∧
        t.rd F.LGC_CH_CFG.HYST [d, ch] = v / 2 ^ 12 % 2 ^ 7 ∧ t.rd F.LGC_CH_CFG.HOLDOFF [d, ch] = v / 2 ^ 19 % 2 ^ 6) ∧
      (v % 2 ≠ s.rd F.LGC_CH_CFG.MODE [d, ch] → s.lgcInUse d ch = true → CommandAtEnd (.lgcSet h ch v) h 0x0900 s fun t =>
        t.answered h 0x0900 0x0212 (le 1 0) ∧ t.rd F.LGC_CH_CFG.MODE [d, ch] = s.rd F.LGC_CH_CFG.MODE [d, ch])) ∧
    (∀ (h : MbxHdr) (v : Nat) (s : State), s.Sound → s.takesNow h → State.imageOk .LGC_CTRL v = true → Completes (.lgcMask h v) s fun t =>
      t.answered h 0x0901 0 (le 1 1) ∧ t.rd F.LGC_CTRL.REC_MASK [h.die] = v % 2 ^ 16) ∧
    (∀ (h : MbxHdr) (u ctrl start stopSrc gate n : Nat) (s : State), s.Sound → s.takesNow h → u < 8 → bitAt ctrl 0 = false →
      State.imageOk .TIM_CTRL ctrl = true → State.imageOk .TIM_START_SRC start = true → State.imageOk .TIM_STOP_SRC stopSrc = true →
      State.imageOk .TIM_GATE gate = true → State.imageOk .TIM_N n = true →
      let d := h.die
      (s.rd F.TIM_CTRL.EN [d, u] = 0 → Completes (.timSet h u ctrl start stopSrc gate n) s fun t => t.answered h 0x0902 0 (le 1 5) ∧
        t.rd F.TIM_CTRL.MODE [d, u] = ctrl / 2 % 4 ∧ t.rd F.TIM_CTRL.SIGNED [d, u] = ctrl / 8 % 2 ∧ t.rd F.TIM_CTRL.EN [d, u] = 0 ∧
        t.rd F.TIM_START_SRC.SRC [d, u] = start % 256 ∧ t.rd F.TIM_STOP_SRC.SRC [d, u] = stopSrc % 256 ∧
        t.rd F.TIM_GATE.US [d, u] = gate % 2 ^ 27 ∧ t.rd F.TIM_N.N [d, u] = n % 2 ^ 16) ∧
      (s.rd F.TIM_CTRL.EN [d, u] ≠ 0 → ctrl / 2 % 4 ≠ s.rd F.TIM_CTRL.MODE [d, u] →
        Completes (.timSet h u ctrl start stopSrc gate n) s fun t => t.answered h 0x0902 0x0223 (le 1 0) ∧
          t.rd F.TIM_CTRL.MODE [d, u] = s.rd F.TIM_CTRL.MODE [d, u])) ∧
    (∀ (h : MbxHdr) (u : Nat) (s : State), s.Sound → s.takesNow h → h.die < 2 → u < 8 →
      let d := h.die
      let k := s.timCheck d u
      (s.rd F.TIM_CTRL.EN [d, u] = 0 → k ≠ 0 → CommandAtEnd (.timEn h u 1) h 0x0903 s fun t => t.answered h 0x0903 k [] ∧
        t.rd F.TIM_CTRL.EN [d, u] = 0) ∧
      (s.rd F.TIM_CTRL.EN [d, u] = 0 → k = 0 → s.rd F.PWR_STATUS.THERMAL [d] = 0 → s.fits [d] (s.cost 9) 0 = true →
        CommandAtEnd (.timEn h u 1) h 0x0903 s fun t => t.answered h 0x0903 0 (le 2 0) ∧ t.rd F.TIM_CTRL.EN [d, u] = 1) ∧
      (s.rd F.TIM_CTRL.EN [d, u] ≠ 0 → CommandAtEnd (.timEn h u 0) h 0x0903 s fun t => t.rd F.TIM_CTRL.EN [d, u] = 0 ∧ ∃ b, t.answered h 0x0903 0 b) ∧
      Completes (.timRead h u) s fun t => (t.timOf d u).fifo = (s.timOf d u).fifo.drop 1 ∧
        t.answered h 0x0904 0 (s.regBytes .TIM_STATUS [d, u] ++ wordBytes ((List.range 8).map fun w => s.rd F.TIM_RES.WORD [d, u, w]))) ∧
    (∀ (h : MbxHdr) (u ctrl thresh blank : Nat) (s : State), s.Sound → s.takesNow h → u < 12 → State.imageOk .CMP_CTRL ctrl = true →
      State.imageOk .CMP_THRESH thresh = true → State.imageOk .CMP_BLANK blank = true →
      s.cmpSelRejected h.die u (ctrl / 2 ^ 10 % 16) = false → (cmpLead u ≠ u → ctrl / 8 % 4 = 0 ∧ bitAt ctrl 7 = false) →
      (2 ≤ u → u ≤ 5 → bitAt ctrl 0 = true) → Completes (.cmpSet h u ctrl thresh blank) s fun t => t.answered h 0x0905 0 (le 1 3) ∧
        t.rd F.CMP_CTRL.MODE [h.die, u] = ctrl / 2 % 4 ∧ t.rd F.CMP_THRESH.THRESH [h.die, u] = thresh % 2 ^ 12 ∧
        t.rd F.CMP_THRESH.HYST [h.die, u] = thresh / 2 ^ 12 % 2 ^ 6 ∧ t.rd F.CMP_BLANK.LEN [h.die, u] = blank % 2 ^ 16) ∧
    (∀ (h : MbxHdr) (u : Nat) (s : State), s.Sound → s.takesNow h → u < 12 → Completes (.cmpStatus h u) s fun t => t.answered h 0x0906 0
      (s.regBytes .CMP_STATUS [h.die, u] ++ s.regBytes .CMP_SPARE_MAP [h.die] ++
        (List.range 4).flatMap fun w => s.regBytes .CMP_WIN [h.die, w]))

/-- The mailbox commands of the energy, endurance, Skein, service and firmware groups do R357's work and answer. For every sound state in
which the engine takes the command now. ALLOWANCE_SET within R375's ranges stores policy, cap and budget and raises HVS_ALLOW, outside
them it answers 0x0100. LEDGER, MAINT_STATUS, SKEIN_STATUS, DIAG_SENSORS, SVC_STATE, FW_STATUS and FLASH_INFO answer the registers named;
COST_READ and WEAR_READ write their tables to host memory. RETHREAD and SKEIN_SET are carried out as their core cycle ends. RETHREAD
answers the code of the first check that fails, else it is accepted with the pending bit of BOB_START where the energy fits. SKEIN_SET
writes the four registers with no set armed and answers OK with four writes; SKEIN_MEASURE sends an echo request from a port that measures
or is ACTIVE, else it answers 0x0100; SKEIN_UNFENCE clears the counts of violations. FW_STAGE writes its bytes into the slot that does not
run, after an erase at offset 0, and is accepted; FW_VERIFY is accepted; FW_SELECT names a VALID image other than the running one in a
copy of the directory that it erases first, else it answers 0x0100 or 0x0209. Rests on R350, R352, R357, R375, R376, R385, R393, R406,
R410, R412, R424, R451. -/
def Obligations.MailboxEnergyEnduranceSkeinFirmware : Prop :=
  (∀ (h : MbxHdr) (policy cap budget : Nat) (s : State), s.Sound → s.takesNow h →
      let inRange := policy ≤ 2 ∧ 3000 ≤ cap ∧ cap ≤ 165000 ∧ 3000 ≤ budget ∧ budget ≤ 165000
      (inRange → Completes (.allowanceSet h policy cap budget) s fun t => t.answered h 0x0A00 0 [] ∧
        t.rd F.HVS_ALLOW.POLICY [] = policy ∧ t.rd F.HVS_CAP.MW [] = cap ∧ t.rd F.HVS_BUDGET.MJ [] = budget ∧ t.pends s.control 11 = true) ∧
      (¬inRange → Completes (.allowanceSet h policy cap budget) s fun t => t.answered h 0x0A00 0x0100 [] ∧
        ∀ k : RegKey, k.reg = .HVS_ALLOW ∨ k.reg = .HVS_CAP ∨ k.reg = .HVS_BUDGET → t.regs.get k = s.regs.get k)) ∧
    (∀ (h : MbxHdr) (addr : Nat) (s : State), s.Sound → s.takesNow h →
      (Completes (.ledger h) s fun t => t.answered h 0x0A01 0 (le 1 (s.rd F.HVS_ALLOW.POLICY []) ++ le 3 0 ++
        wordBytes [s.rd F.HVS_CAP.MW [], s.rd F.HVS_BUDGET.MJ [], s.rd F.HVS_LEDGER.VALUE [0], s.rd F.HVS_LEDGER.VALUE [1],
          s.rd F.HVS_LEDGER.VALUE [2]])) ∧
      (Completes (.costRead h addr) s fun t => t.answered h 0x0A02 0 [] ∧
        Output.mem h.die addr ((List.range 64).flatMap fun n => le 16 (s.image .COST [n])) ∈ t.out) ∧
      (Completes (.wearRead h addr) s fun t => t.answered h 0x0B00 0 [] ∧ Output.mem h.die addr s.bobbinBytes ∈ t.out) ∧
      (Completes (.maintStatus h) s fun t => t.answered h 0x0B02 0
        (s.regBytes .MNT_RUNNING [h.die] ++ s.regBytes .MNT_WAITING [h.die])) ∧
      (Completes (.skeinStatus h) s fun t => t.answered h 0x0C00 0 (s.regBytes .SKN_STATUS [] ++ s.regBytes .SKN_PORT_STATUS [0] ++
        s.regBytes .SKN_PORT_STATUS [1] ++ s.regBytes .SKN_PORT_STATUS [2] ++ s.regBytes .SKN_PORT_STATUS [3] ++
        s.regBytes .SKN_PORT_STATUS [4])) ∧
      (Completes (.diagSensors h) s fun t => t.answered h 0x0D00 0
        ((List.range 9).flatMap fun k => le 2 (s.rd F.PWR_TEMP.TEMP [h.die, k]))) ∧
      (Completes (.svcState h) s fun t => t.answered h 0x0D01 0 (le 1 (s.rd F.SVC_STATUS.LOCKED []) ++ le 1 0 ++ le 2 0 ++
        le 4 (baudRates.getD (s.rd F.SVC_STATUS.BAUD []) 0))) ∧
      (Completes (.fwStatus h) s fun t => t.answered h 0x0E00 0 (le 1 (s.rd F.BOOT_STATUS.A_STATE []) ++
        le 1 (s.rd F.BOOT_STATUS.B_STATE []) ++ le 1 (s.rd F.BOOT_STATUS.IMAGE []) ++ le 1 (s.rd F.BOOT_STATUS.NEXT []) ++
        wordBytes [s.rd F.BOOT_IMG_VER.VERSION [0], s.rd F.BOOT_IMG_VER.VERSION [1]])) ∧
      Completes (.flashInfo h) s fun t => t.answered h 0x0E04 0 (le 4 (s.rd I.flashMbit []) ++ le 2 (s.rd I.sfdpRev []))) ∧
    (∀ (h : MbxHdr) (unit : Nat) (s : State), s.Sound → s.takesNow h → s.hasRoom h.die →
      (s.rtCheck unit ≠ 0 → s.rtCheck unit ≠ 2 → CommandAtEnd (.rethread h unit) h 0x0B01 s fun t => t.answered h 0x0B01 (s.rtCheck unit) [] ∧
        t.bobbin = s.bobbin) ∧
      (s.rtCheck unit = 0 → s.rd F.PWR_STATUS.THERMAL [unitDie unit] = 0 → s.fits [unitDie unit] 0 (s.rtEnergy unit) = true →
        CommandAtEnd (.rethread h unit) h 0x0B01 s fun t => t.answered h 0x0B01 1 [] ∧ t.pends (unitDie unit) 225 = true ∧
          ⟨h.die, h.src, h.tag, 0x0B01, false, false, false, unit, none⟩ ∈ t.outstanding)) ∧
    (∀ (h : MbxHdr) (ctrl sel gseq holdoff : Nat) (s : State), s.Sound → s.takesNow h → State.imageOk .SKN_CTRL ctrl = true →
      State.imageOk .SKN_TRIG_SEL sel = true → State.imageOk .SKN_GSEQ_CTRL gseq = true → State.imageOk .SKN_GSEQ_HOLDOFF holdoff = true →
      (s.skSetsArmed = true → CommandAtEnd (.skeinSet h ctrl sel gseq holdoff) h 0x0C01 s fun t => t.answered h 0x0C01 0x0212 (le 1 0) ∧
        t.rd F.SKN_STATUS.CFG_REJECT [] = 1 ∧ ∀ k : RegKey, k.reg = .SKN_CTRL ∨ k.reg = .SKN_TRIG_SEL → t.regs.get k = s.regs.get k) ∧
      ((∀ d a, s.armed d a = false) → s.rd F.SKN_GSEQ_CTRL.RUN [] = 0 → ctrl % 4 ≠ 3 → bitAt gseq 4 = false →
        CommandAtEnd (.skeinSet h ctrl sel gseq holdoff) h 0x0C01 s fun t => t.answered h 0x0C01 0 (le 1 4) ∧ t.rd F.SKN_CTRL.ROLE [] = ctrl % 4 ∧
          t.rd F.SKN_CTRL.PORT_EN [] = ctrl / 4 % 32 ∧ t.rd F.SKN_TRIG_SEL.DIE0 [] = sel % 8 ∧
          t.rd F.SKN_TRIG_SEL.DIE1 [] = sel / 8 % 8 ∧ t.rd F.SKN_GSEQ_CTRL.LAST [] = gseq % 16 ∧
          t.rd F.SKN_GSEQ_HOLDOFF.TICKS [] = holdoff % 2 ^ 32)) ∧
    (∀ (h : MbxHdr) (port ofs : Nat) (s : State), s.Sound → s.takesNow h →
      let st := s.rd F.SKN_PORT_STATUS.STATE [port]
      let measures := 1 ≤ port ∧ port ≤ 4 ∧ (st = 2 ∨ st = 3)
      (¬measures → Completes (.skeinMeasure h port ofs) s fun t => t.answered h 0x0C02 0x0100 []) ∧
      (measures → s.hasRoom h.die → Completes (.skeinMeasure h port ofs) s fun t => t.answered h 0x0C02 1 [] ∧
        t.rd I.skEchoWait [port] = 1 ∧ ⟨h.die, h.src, h.tag, 0x0C02, false, false, false, port, none⟩ ∈ t.outstanding) ∧
      (port < 5 → Completes (.skeinUnfence h port) s fun t => t.answered h 0x0C03 0 [] ∧
        t.rd F.SKN_PORT_VIOL.TOTAL [port] = 0 ∧ t.rd F.SKN_PORT_VIOL.RECENT [port] = 0) ∧
      (5 ≤ port → Completes (.skeinUnfence h port) s fun t => t.answered h 0x0C03 0x0100 [])) ∧
    (∀ (h : MbxHdr) (offset length : Nat) (bytes : List Byte) (s : State), s.Sound → s.takesNow h →
      let base := 0x100000 + 0x800000 * (1 - s.rd F.BOOT_STATUS.IMAGE [])
      (0x800000 < offset + length → Completes (.fwStage h offset length bytes) s fun t => t.answered h 0x0E01 0x0100 [] ∧
        t.rd I.fwJob [] = s.rd I.fwJob []) ∧
      (offset + length ≤ 0x800000 → s.hasRoom h.die → Completes (.fwStage h offset length bytes) s fun t => t.answered h 0x0E01 1 [] ∧
        Output.flash (base + offset) (padTo length bytes) ∈ t.out ∧ (offset = 0 → Output.flashErase base 0x800000 ∈ t.out) ∧
        t.rd I.fwJob [] = 1 ∧ ⟨h.die, h.src, h.tag, 0x0E01, false, false, false, length, none⟩ ∈ t.outstanding) ∧
      (s.hasRoom h.die → Completes (.fwVerify h) s fun t => t.answered h 0x0E02 1 [] ∧ t.rd I.fwJob [] = 1 ∧
        ⟨h.die, h.src, h.tag, 0x0E02, false, false, false, 0, none⟩ ∈ t.outstanding)) ∧
    (∀ (h : MbxHdr) (image : Nat) (s : State), s.Sound → s.takesNow h →
      let valid := s.rd (if image = 0 then F.BOOT_STATUS.A_STATE else F.BOOT_STATUS.B_STATE) [] = 1
      (1 < image ∨ image = s.rd F.BOOT_STATUS.IMAGE [] → Completes (.fwSelect h image) s fun t => t.answered h 0x0E03 0x0100 [] ∧
        ∀ k : RegKey, k.reg = .BOOT_STATUS → t.regs.get k = s.regs.get k) ∧
      (image ≤ 1 → image ≠ s.rd F.BOOT_STATUS.IMAGE [] → ¬valid → Completes (.fwSelect h image) s fun t => t.answered h 0x0E03 0x0209 [] ∧
        ∀ k : RegKey, k.reg = .BOOT_STATUS → t.regs.get k = s.regs.get k) ∧
      (image ≤ 1 → image ≠ s.rd F.BOOT_STATUS.IMAGE [] → valid → Completes (.fwSelect h image) s fun t => t.answered h 0x0E03 0 [] ∧
        t.rd F.BOOT_STATUS.NEXT [] = image ∧ ∃ k < 2, Output.flashErase (4096 * k) 4096 ∈ t.out))

/-- The mailbox commands of the conditioning and trigger groups do R355's work and answer. For every sound state in which the engine takes the
command now, for the channel or die it concerns; every set command, CURVE_LOAD and the routes are carried out as the core cycle ends. A
configuration or load command of a channel, term or sequencer that nothing armed uses writes every field and word it carries, in order,
and answers OK with the number of writes (modulo 256); where an armed unit uses it, it answers 0x0212, or 0x0222 for a coefficient of a
bank in use, and the registers stay. FIR_SWAP requests a bank: pending during a fade, at once where the stage does not run. FORCE reaches
the trigger engine of an acquiring mode among the arrivals of its core cycle; after them, or in another mode, it issues a forced trigger
in RUN and HOLDOFF and is dropped and counted in IDLE. The status commands answer the registers named. Rests on R129, R130, R136, R137,
R144, R152, R169, R176, R177, R178, R350, R355. -/
def Obligations.MailboxConditioningAndTrigger : Prop :=
  (∀ (h : MbxHdr) (ch v : Nat) (s : State), s.Sound → s.takesNow h → ch < 4 → s.dieRetired (ch / 2) = false → State.imageOk .EQ_CTRL v = true →
      let d := ch / 2
      let c := ch % 2
      let differs := s.rd F.EQ_CTRL.BANK [d, c] ≠ v % 2 ∨ s.rd F.EQ_CTRL.BYPASS [d, c] ≠ v / 2 % 2
      (s.armed d c = false ∨ ¬differs → CommandAtEnd (.eqSet h ch v) h 0x0400 s fun t => t.answered h 0x0400 0 (le 1 1) ∧
        t.rd F.EQ_CTRL.BANK [d, c] = v % 2 ∧ t.rd F.EQ_CTRL.BYPASS [d, c] = v / 2 % 2) ∧
      (s.armed d c = true → differs → CommandAtEnd (.eqSet h ch v) h 0x0400 s fun t => t.answered h 0x0400 0x0212 (le 1 0) ∧
        t.rd F.EQ_STATUS.CFG_REJECT [d, c] = 1 ∧ ∀ k : RegKey, k.reg = .EQ_CTRL → t.regs.get k = s.regs.get k)) ∧
    (∀ (h : MbxHdr) (ch bank : Nat) (words : List Nat) (s : State), s.Sound → s.takesNow h → ch < 4 → s.dieRetired (ch / 2) = false → bank ≤ 1 →
      let d := ch / 2
      let c := ch % 2
      let eqUsed := s.rd F.EQ_STATUS.ACTIVE_BANK [d, c] = bank ∧ s.armed d c = true
      let firUsed := s.firRunning d c = true ∧
        (s.rd F.FIR_STATUS.FADING [d, c] ≠ 0 ∨ s.fadeDue d c = true ∨ s.rd I.fadeTouch [d, c] = s.now + 1 ∨ s.rd F.FIR_STATUS.ACTIVE [d, c] = bank ∧ s.armed d c = true)
      (¬eqUsed → Completes (.eqLoad h ch bank words) s fun t => t.answered h 0x0401 0 (le 1 32) ∧
        ∀ k : Nat, k < 32 → t.rd F.EQ_COEF.COEF [d, c, bank, k] = words.getD k 0 % 2 ^ 20) ∧
      (eqUsed → Completes (.eqLoad h ch bank words) s fun t => t.answered h 0x0401 0x0222 (le 1 0) ∧
        ∀ k : RegKey, k.reg = .EQ_COEF → t.regs.get k = s.regs.get k) ∧
      (¬firUsed → Completes (.firLoad h ch bank words) s fun t => t.answered h 0x0403 0 (le 1 256) ∧
        ∀ k : Nat, k < 256 → t.rd F.FIR_COEF.COEF [d, c, bank, k] = words.getD k 0 % 2 ^ 20) ∧
      (firUsed → Completes (.firLoad h ch bank words) s fun t => t.answered h 0x0403 0x0222 (le 1 0) ∧
        ∀ k : RegKey, k.reg = .FIR_COEF → t.regs.get k = s.regs.get k)) ∧
    (∀ (h : MbxHdr) (ch ctrl ratio fir bank v step : Nat) (s : State), s.Sound → s.takesNow h → ch < 4 → s.dieRetired (ch / 2) = false →
      let d := ch / 2
      let c := ch % 2
      (bitAt fir 5 = false → State.imageOk .DEC_CTRL ctrl = true → State.imageOk .DEC_RATIO ratio = true → State.imageOk .FIR_CTRL fir = true →
        (s.armed d c = false → CommandAtEnd (.decSet h ch ctrl ratio fir) h 0x0402 s fun t => t.answered h 0x0402 0 (le 1 3) ∧
          t.rd F.DEC_CTRL.MODE [d, c] = ctrl % 4 ∧ t.rd F.DEC_RATIO.RATIO [d, c] = ratio % 2 ^ 25 ∧
          t.rd F.FIR_CTRL.DECIM [d, c] = fir % 32 ∧ t.rd F.FIR_CTRL.FADE_LEN [d, c] = fir / 256 % 2 ^ 16) ∧
        (s.armed d c = true → ctrl % 4 ≠ s.rd F.DEC_CTRL.MODE [d, c] → CommandAtEnd (.decSet h ch ctrl ratio fir) h 0x0402 s fun t =>
          t.answered h 0x0402 0x0212 (le 1 0) ∧ t.rd F.DEC_CTRL.MODE [d, c] = s.rd F.DEC_CTRL.MODE [d, c])) ∧
      (bitAt fir 5 = true → CommandAtEnd (.decSet h ch ctrl ratio fir) h 0x0402 s fun t => t.answered h 0x0402 0x0100 [] ∧
        t.rd F.DEC_CTRL.MODE [d, c] = s.rd F.DEC_CTRL.MODE [d, c]) ∧
      (bank ≤ 1 → s.inert c = false →
        (s.fadeBusy d c = true → Completes (.firSwap h ch bank) s fun t => t.answered h 0x0404 0 (t.regBytes .FIR_STATUS [d, c]) ∧
          t.rd F.FIR_STATUS.PENDING [d, c] = 1 ∧ t.rd F.FIR_STATUS.PENDING_BANK [d, c] = bank) ∧
        (s.fadeBusy d c = false → bank ≠ s.rd F.FIR_STATUS.ACTIVE [d, c] → s.firRunning d c = false → Completes (.firSwap h ch bank) s fun t =>
          t.answered h 0x0404 0 (t.regBytes .FIR_STATUS [d, c]) ∧ t.rd F.FIR_STATUS.ACTIVE [d, c] = bank)) ∧
      (State.imageOk .RSM_CTRL v = true → step < 2 ^ 48 →
        (s.armed d c = false → CommandAtEnd (.rsmSet h ch v step) h 0x0405 s fun t => t.answered h 0x0405 0 (le 1 2) ∧
          t.rd F.RSM_CTRL.ENABLE [d, c] = v % 2 ∧ t.rd F.RSM_RATIO.RATIO [d, c] = step) ∧
        (s.armed d c = true → v % 2 ≠ s.rd F.RSM_CTRL.ENABLE [d, c] → CommandAtEnd (.rsmSet h ch v step) h 0x0405 s fun t =>
          t.answered h 0x0405 0x0212 (le 1 0) ∧ t.rd F.RSM_RATIO.RATIO [d, c] = s.rd F.RSM_RATIO.RATIO [d, c])) ∧
      Completes (.condStatus h ch) s fun t => t.answered h 0x0406 0 (s.regBytes .EQ_STATUS [d, c] ++ s.regBytes .DEC_STATUS [d, c] ++
        s.regBytes .FIR_STATUS [d, c] ++ s.regBytes .RSM_STATUS [d, c])) ∧
    (∀ (h : MbxHdr) (ch n v : Nat) (s : State), s.Sound → s.takesNow h → ch < 4 → s.dieRetired (ch / 2) = false → n < 4 →
      State.imageOk .TRG_LEVEL v = true → CommandAtEnd (.levelSet h ch n v) h 0x0500 s fun t => t.answered h 0x0500 0 (le 1 1) ∧
        t.rd F.TRG_LEVEL.LEVEL [ch / 2, ch % 2, n] = v % 2 ^ 16 ∧ t.rd F.TRG_LEVEL.HYST [ch / 2, ch % 2, n] = v / 2 ^ 16 % 256) ∧
    (∀ (h : MbxHdr) (x cfg t1 t2 ana log : Nat) (s : State), s.Sound → s.takesNow h → x < 12 → State.imageOk .TRG_TERM_CFG cfg = true →
      State.imageOk .TRG_PAT_ANA ana = true → State.imageOk .TRG_PAT_LOG log = true → t1 < 2 ^ F.TRG_TERM_T1.T1.width →
      t2 < 2 ^ F.TRG_TERM_T2.T2.width →
      let d := h.die
      let used := ∃ q : Nat, q < 2 ∧ s.seqArmed d q = true ∧ bitAt (s.seqUsed d q) x = true
      (used → CommandAtEnd (.termSet h x cfg t1 t2 ana log) h 0x0501 s fun t => t.answered h 0x0501 0x0212 (le 1 0) ∧
        ∀ k : RegKey, k.reg ∈ [.TRG_TERM_CFG, .TRG_TERM_T1, .TRG_TERM_T2, .TRG_PAT_ANA, .TRG_PAT_LOG] → t.regs.get k = s.regs.get k) ∧
      (¬used → CommandAtEnd (.termSet h x cfg t1 t2 ana log) h 0x0501 s fun t => t.answered h 0x0501 0 (le 1 5) ∧
        t.rd F.TRG_TERM_CFG.TYPE [d, x] = cfg % 8 ∧ t.rd F.TRG_TERM_CFG.SRC [d, x] = cfg / 16 % 64 ∧ t.rd F.TRG_TERM_T1.T1 [d, x] = t1 ∧
        t.rd F.TRG_TERM_T2.T2 [d, x] = t2 ∧ t.rd F.TRG_PAT_ANA.ELEM [d, x] = ana % 256 ∧ t.rd F.TRG_PAT_LOG.ELEM [d, x] = log % 2 ^ 32)) ∧
    (∀ (h : MbxHdr) (q ctrl : Nat) (table : List Nat) (timeout holdoff : Nat) (s : State), s.Sound → s.takesNow h → q < 2 →
      State.imageOk .TRG_SEQ_CTRL ctrl = true → timeout < 2 ^ 41 → holdoff < 2 ^ 41 →
      let d := h.die
      (s.seqArmed d q = true → CommandAtEnd (.seqSet h q ctrl table timeout holdoff) h 0x0502 s fun t => t.answered h 0x0502 0x0212 (le 1 0) ∧
        t.rd F.TRG_SEQ_STATUS.CFG_REJECT [d, q] ≠ 0 ∧ ∀ k : RegKey, k.reg ∈ [.TRG_SEQ_CTRL, .SEQ_STATE, .TRG_AUTO_TIMEOUT, .TRG_HOLDOFF] →
          t.regs.get k = s.regs.get k) ∧
      (s.seqArmed d q = false → CommandAtEnd (.seqSet h q ctrl table timeout holdoff) h 0x0502 s fun t => t.answered h 0x0502 0 (le 1 131) ∧
        t.rd F.TRG_SEQ_CTRL.LAST [d, q] = ctrl % 16 ∧ t.rd F.TRG_SEQ_CTRL.AUTO_EN [d, q] = ctrl / 16 % 2 ∧
        t.rd F.TRG_AUTO_TIMEOUT.TICKS [d, q] = timeout ∧ t.rd F.TRG_HOLDOFF.VALUE [d, q] = holdoff ∧
        ∀ k : Nat, k < 16 → t.rd F.SEQ_STATE.ADV_MASK [d, q, k] = table.getD (8 * k) 0 % 2 ^ 12 ∧
          t.rd F.SEQ_STATE.RST_MASK [d, q, k] = table.getD (8 * k) 0 / 2 ^ 16 % 2 ^ 12 ∧
          t.rd F.SEQ_STATE.NEXT [d, q, k] = table.getD (8 * k + 1) 0 % 16)) ∧
    (∀ (h : MbxHdr) (ch e v : Nat) (words : List Nat) (s : State), s.Sound → s.takesNow h → ch < 4 → s.dieRetired (ch / 2) = false → e ≤ 1 →
      let d := ch / 2
      let c := ch % 2
      (s.seqArmed d (s.seqOf d c) = false → CommandAtEnd (.curveLoad h ch e words) h 0x0503 s fun t => t.answered h 0x0503 0 (le 1 1024) ∧
        ∀ k : Nat, k < 1024 → t.rd F.TRG_CURVE.FRAC [d, c, e, k] = words.getD k 0 % 2 ^ 10) ∧
      (s.seqArmed d (s.seqOf d c) = true → CommandAtEnd (.curveLoad h ch e words) h 0x0503 s fun t => t.answered h 0x0503 0x0212 (le 1 0) ∧
        ∀ k : RegKey, k.reg = .TRG_CURVE → t.regs.get k = s.regs.get k) ∧
      (State.imageOk .TRG_CH_CFG v = true → s.anySeqArmed = false → CommandAtEnd (.chRoute h ch v) h 0x0504 s fun t => t.answered h 0x0504 0 (le 1 1) ∧
        t.image .TRG_CH_CFG [d, c] = v) ∧
      (State.imageOk .TRG_CH_CFG v = true → s.anySeqArmed = true → CommandAtEnd (.chRoute h ch v) h 0x0504 s fun t =>
        t.answered h 0x0504 0x0212 (le 1 0) ∧ t.rd F.TRG_STATUS.CFG_REJECT [d] ≠ 0 ∧ t.image .TRG_CH_CFG [d, c] = s.image .TRG_CH_CFG [d, c])) ∧
    (∀ (h : MbxHdr) (v : Nat) (s : State), s.Sound → s.takesNow h → State.imageOk .TRG_CTRL v = true →
      (s.anySeqArmed = false → CommandAtEnd (.logicRoute h v) h 0x0505 s fun t => t.answered h 0x0505 0 (le 1 1) ∧
        t.rd F.TRG_CTRL.LOGIC_SEQ [h.die] = v % 2) ∧
      (s.anySeqArmed = true → CommandAtEnd (.logicRoute h v) h 0x0505 s fun t => t.answered h 0x0505 0x0212 (le 1 0) ∧
        t.rd F.TRG_CTRL.LOGIC_SEQ [h.die] = s.rd F.TRG_CTRL.LOGIC_SEQ [h.die])) ∧
    (∀ (h : MbxHdr) (q : Nat) (s : State), s.Sound → s.takesNow h → q < 2 →
      let d := h.die
      (s.closing = false → s.mode.acquires = true → Completes (.force h q) s fun t => t.answered h 0x0506 0 [] ∧
        t.arrivals = s.arrivals ++ [.force d q (4096 * s.blkOf d) false]) ∧
      (s.closing = true ∨ s.mode.acquires = false →
        (s.rd F.TRG_SEQ_STATUS.PHASE [d, q] = 1 ∨ s.rd F.TRG_SEQ_STATUS.PHASE [d, q] = 3 → Completes (.force h q) s fun t =>
          t.answered h 0x0506 0 [] ∧ t.rd F.TRG_LAST.TERM [d, q] = 0x1F ∧ t.rd F.TRG_LAST.FORCED [d, q] = 1) ∧
        (s.rd F.TRG_SEQ_STATUS.PHASE [d, q] = 0 → Completes (.force h q) s fun t => t.answered h 0x0506 0 [] ∧
          t.rd F.TRG_SEQ_STATUS.PHASE [d, q] = 0 ∧ t.rd F.TRG_SEQ_STATUS.FORCE_DROP_STICKY [d, q] ≠ 0)) ∧
      Completes (.trigStatus h q) s fun t =>
        t.answered h 0x0507 0 (s.regBytes .TRG_SEQ_STATUS [d, q] ++ le 20 (s.image .TRG_LAST [d, q])))

/-- The mailbox commands of the acquisition and library groups do the work of R355 and R358 to R361 and answer. For every sound state in which
the engine takes the command now, for the set it names; ACQ_SET, STR_SET and ARM are carried out as the core cycle ends. ACQ_SET and
STR_SET of a set that is not armed write their registers and answer OK with the number of writes; of an armed set they answer 0x0212 and
the registers stay. ARM answers the code of the check that fails, or OK with the set in PRE or STREAM where it fits Harvest's shares; STOP
fixes the stop DT at the next block. A query of a set that was armed SEGMENTED writes the entries it finds and is a long command; one of a
set that never was answers 0x01C2, an empty span 0x01C0. LIB_SEGMENT, LIB_OVERVIEW and LIB_SPAN answer 0x01C1 for a sequence number the
index does not hold, the ring's code where it cannot carry the delivery, else they are accepted, with one delivery more that names the
ring, running while fewer than four run. Status commands answer the registers named. Rests on R194, R195, R196, R350, R352, R355, R358,
R359, R360, R361. -/
def Obligations.MailboxAcquisitionAndLibrary : Prop :=
  (∀ (h : MbxHdr) (set a disc wrap spill nseg segLen pre post spillMib dataQ markQ gapQ : Nat) (s : State), s.Sound → s.takesNow h →
      State.setIndex set = some a → (set < 4 → s.dieRetired (set / 2) = false) → disc ≤ 1 → wrap ≤ 1 → spill ≤ 1 →
      nseg < 2 ^ F.ACQ_NSEG.NSEG.width → segLen < 2 ^ F.ACQ_SEG_LEN.LEN.width → pre < 2 ^ F.ACQ_PRE.PRE.width →
      post < 2 ^ F.ACQ_POST.POST.width → spillMib < 2 ^ F.ACQ_SPILL_BUF.MIB.width → dataQ < 2 ^ F.STR_DATA_RING.QUEUE.width →
      markQ < 2 ^ F.STR_AUX_RINGS.MARK_Q.width → gapQ < 2 ^ F.STR_AUX_RINGS.GAP_Q.width →
      let d := if set < 4 then set / 2 else h.die
      (s.armed d a = false → CommandAtEnd (.acqSet h set disc wrap spill nseg segLen pre post spillMib dataQ markQ gapQ) h 0x0600 s fun t =>
        t.answered h 0x0600 0 (le 1 8) ∧ t.rd F.ACQ_CTRL.DISC [d, a] = disc ∧ t.rd F.ACQ_CTRL.WRAP [d, a] = wrap ∧
        t.rd F.ACQ_CTRL.SPILL [d, a] = spill ∧ t.rd F.ACQ_CTRL.SEG_EVT_EN [d, a] = s.rd F.ACQ_CTRL.SEG_EVT_EN [d, a] ∧
        t.rd F.ACQ_NSEG.NSEG [d, a] = nseg ∧ t.rd F.ACQ_SEG_LEN.LEN [d, a] = segLen ∧ t.rd F.ACQ_PRE.PRE [d, a] = pre ∧
        t.rd F.ACQ_POST.POST [d, a] = post ∧ t.rd F.ACQ_SPILL_BUF.MIB [d, a] = spillMib ∧ t.rd F.STR_DATA_RING.QUEUE [d, a] = dataQ ∧
        t.rd F.STR_AUX_RINGS.MARK_Q [d, a] = markQ ∧ t.rd F.STR_AUX_RINGS.GAP_Q [d, a] = gapQ) ∧
      (s.armed d a = true → CommandAtEnd (.acqSet h set disc wrap spill nseg segLen pre post spillMib dataQ markQ gapQ) h 0x0600 s fun t =>
        t.answered h 0x0600 0x0212 (le 1 0) ∧ t.rd F.ACQ_STATUS.CFG_REJECT [d, a] = 1 ∧
        ∀ k : RegKey, k.reg ∈ [.ACQ_CTRL, .ACQ_NSEG, .ACQ_SEG_LEN, .ACQ_PRE, .ACQ_POST] → t.regs.get k = s.regs.get k)) ∧
    (∀ (h : MbxHdr) (set a v : Nat) (s : State), s.Sound → s.takesNow h → State.setIndex set = some a →
      (set < 4 → s.dieRetired (set / 2) = false) → State.imageOk .STR_CTRL v = true →
      let d := if set < 4 then set / 2 else h.die
      let pct := v / 32 % 2 ^ F.STR_CTRL.RESUME_PCT.width
      (s.armed d a = false → 12 ≤ v % 32 → v % 32 ≤ 22 → 10 ≤ pct → pct ≤ 90 → CommandAtEnd (.strSet h set v) h 0x0601 s fun t =>
        t.answered h 0x0601 0 (le 1 1) ∧ t.image .STR_CTRL [d, a] = v) ∧
      (s.armed d a = false → v % 32 < 12 ∨ 22 < v % 32 → CommandAtEnd (.strSet h set v) h 0x0601 s fun t => t.answered h 0x0601 0x0100 (le 1 0) ∧
        t.rd F.STR_CTRL.CHUNK_LOG2 [d, a] = s.rd F.STR_CTRL.CHUNK_LOG2 [d, a]) ∧
      (s.armed d a = true → CommandAtEnd (.strSet h set v) h 0x0601 s fun t => t.answered h 0x0601 0x0212 (le 1 0) ∧
        t.rd F.STR_STATUS.CFG_REJECT [d, a] = 1 ∧ t.image .STR_CTRL [d, a] = s.image .STR_CTRL [d, a])) ∧
    (∀ (h : MbxHdr) (set a k : Nat) (s : State), s.Sound → s.takesNow h → h.die < 2 → State.setIndex set = some a →
      (set < 4 → s.dieRetired (set / 2) = false) →
      let d := if set < 4 then set / 2 else h.die
      (s.armCheck d a ≠ 0 → s.armCheck d a ≠ 2 → CommandAtEnd (.arm h set) h 0x0602 s fun t => t.answered h 0x0602 (s.armCheck d a) [] ∧
        t.rd F.ACQ_STATUS.ARM_CHECK [d, a] = s.armCheck d a % 2 ^ 16 ∧ t.rd F.ACQ_STATUS.STATE [d, a] = s.rd F.ACQ_STATUS.STATE [d, a]) ∧
      (s.armCheck d a = 0 → s.rd F.PWR_STATUS.THERMAL [d] = 0 → s.fits [d] (s.armPower d a) 0 = true → CommandAtEnd (.arm h set) h 0x0602 s fun t =>
        t.answered h 0x0602 0 [] ∧ t.rd F.ACQ_STATUS.STATE [d, a] = (if s.rd F.ACQ_CTRL.DISC [d, a] = 0 then 1 else 4) ∧
        t.pends d 121 = true) ∧
      (s.rd F.ACQ_STATUS.STATE [d, a] ≠ 0 → (s.acqOf d a).stopAt = none → Completes (.stop h set) s fun t => t.answered h 0x0603 0 [] ∧
        (t.acqOf d a).stopAt = some (4096 * s.nextBlk d)) ∧
      (Completes (.acqStatus h set) s fun t => t.answered h 0x0604 0 (s.regBytes .ACQ_STATUS [d, a] ++ s.regBytes .STR_STATUS [d, a] ++
        le 8 (s.image .ACQ_SEG_COUNT [d, a]) ++ le 8 (s.image .STR_INDEX [d, a]))) ∧
      (k < 2 → Completes (.memStatus h k) s fun t => t.answered h 0x0605 0 (s.regBytes .MEM_STATUS [h.die, k] ++
        s.regBytes .MEM_DEPTH [h.die, k] ++ s.regBytes .MEM_SCRUB_STATUS [h.die, k])) ∧
      Completes (.libStatus h set) s fun t =>
        let l := (s.libOf d a).map fun e => e.recd.seq
        t.answered h 0x0704 (if s.rd I.libArmed [d, a] = 0 then 0x01C2 else 0)
          (if s.rd I.libArmed [d, a] = 0 then [] else le 4 l.length ++ le 4 0 ++ le 8 (l.headD 0) ++ le 8 (l.getLastD 0))) ∧
    (∀ (h : MbxHdr) (set a term mask value most lo hi addr : Nat) (s : State), s.Sound → s.takesNow h → s.hasRoom h.die →
      State.setIndex set = some a → (set < 4 → s.dieRetired (set / 2) = false) →
      let d := if set < 4 then set / 2 else h.die
      let met := (s.libOf d a).filter fun e => decide (lo ≤ e.recd.desc.dt / 4096 ∧ e.recd.desc.dt / 4096 < hi) &&
        Nat.land e.recd.flags mask == value && (term == 0xFF || e.recd.desc.term == term)
      (s.rd I.libArmed [d, a] = 0 → Completes (.libQuery h set term mask value most lo hi addr) s fun t => t.answered h 0x0700 0x01C2 []) ∧
      (s.rd I.libArmed [d, a] ≠ 0 → hi ≤ lo ∨ most = 0 → Completes (.libQuery h set term mask value most lo hi addr) s fun t =>
        t.answered h 0x0700 0x01C0 []) ∧
      (s.rd I.libArmed [d, a] ≠ 0 → lo < hi → most ≠ 0 → Completes (.libQuery h set term mask value most lo hi addr) s fun t =>
        t.answered h 0x0700 1 [] ∧ (met ≠ [] → Output.mem h.die addr ((met.take most).flatMap s.libEntryBytes) ∈ t.out) ∧
        ⟨h.die, h.src, h.tag, 0x0700, false, false, false, 0, some (0, le 4 met.length ++ le 4 (met.take most).length ++
          le 1 (s.rd I.libStepped [d, a]))⟩ ∈ t.outstanding)) ∧
    (∀ (h : MbxHdr) (set a what q points seq : Nat) (s : State), s.Sound → s.takesNow h → s.hasRoom h.die →
      State.setIndex set = some a → (set < 4 → s.dieRetired (set / 2) = false) →
      let d := if set < 4 then set / 2 else h.die
      s.rd I.libArmed [d, a] ≠ 0 →
      (((s.libOf d a).find? fun e => e.recd.seq == seq) = none →
        Completes (.libSegment h set what q seq) s (fun t => t.answered h 0x0701 0x01C1 [] ∧ t.deliveries = s.deliveries) ∧
        Completes (.libOverview h set q points seq) s fun t => t.answered h 0x0702 0x01C1 [] ∧ t.deliveries = s.deliveries) ∧
      (∀ e : LibEntry, ((s.libOf d a).find? fun e => e.recd.seq == seq) = some e →
        (what ≤ 1 → s.libRing d q ≠ 0 → s.libRing d q ≠ 1 → s.libRing d q ≠ 2 → Completes (.libSegment h set what q seq) s fun t =>
          t.answered h 0x0701 (s.libRing d q) [] ∧ t.deliveries = s.deliveries) ∧
        (what ≤ 1 → s.libRing d q = 0 → Completes (.libSegment h set what q seq) s fun t => t.answered h 0x0701 1 [] ∧
          ∃ x : Delivery, t.deliveries = s.deliveries ++ [x] ∧ x.die = d ∧ x.set = a ∧ x.queue = q ∧ x.tag = h.tag ∧
            x.running = decide (s.libRunning d < 4) ∧ x.chunks ≠ []) ∧
        (1 ≤ points → points ≤ 65536 → points ≤ State.libHeld e → a ≠ 2 → s.libRing d q = 0 →
          Completes (.libOverview h set q points seq) s fun t => t.answered h 0x0702 1 [] ∧
            ∃ x : Delivery, t.deliveries = s.deliveries ++ [x] ∧ x.die = d ∧ x.set = a ∧ x.queue = q ∧ x.format = 2 ∧ x.chunks ≠ []))) ∧
    (∀ (h : MbxHdr) (set a q lo hi : Nat) (s : State), s.Sound → s.takesNow h → s.hasRoom h.die →
      State.setIndex set = some a → (set < 4 → s.dieRetired (set / 2) = false) →
      let d := if set < 4 then set / 2 else h.die
      let met := (s.libOf d a).filter fun e => decide (0 < (State.libWithin e lo hi).2)
      s.rd I.libArmed [d, a] ≠ 0 →
      (hi ≤ lo → Completes (.libSpan h set q lo hi) s fun t => t.answered h 0x0703 0x01C0 [] ∧ t.deliveries = s.deliveries) ∧
      (lo < hi → s.libRing d q = 0 → met = [] → Completes (.libSpan h set q lo hi) s fun t => t.answered h 0x0703 1 [] ∧
        t.deliveries = s.deliveries ∧ ⟨h.die, h.src, h.tag, 0x0703, false, false, false, 0, some (0, le 8 0)⟩ ∈ t.outstanding) ∧
      (lo < hi → s.libRing d q = 0 → met ≠ [] → Completes (.libSpan h set q lo hi) s fun t => t.answered h 0x0703 1 [] ∧
        ∃ x : Delivery, t.deliveries = s.deliveries ++ [x] ∧ x.die = d ∧ x.set = a ∧ x.queue = q ∧ x.segs = met.length ∧ x.chunks ≠ []))

/-- The mailbox commands of the system and time groups do the work of R353, R354 and R365 and answer. For every sound state in which the
engine takes the command now. The queries answer the registers they name. LONG_RESULT tells an outstanding tag from a finished one, whose
final status and results it gives, and answers 0x0102 for a tag it does not know. MODE_SET is carried out as its core cycle ends; it
answers the code of the check that fails; where its power fits it is accepted, the transition is under way on both dies and the command is
outstanding; in VIGIL the READY mode is the target. ABORT gives a waiting Combing run the result 0x0211, takes a delivery away, finishes a
deferred command with 0x0203, answers 0x0202 for any other command and 0x0102 for an unknown tag. RING_RESET returns a quarantined ring to
disabled, its violation counts zero. REF_SET, SYN_SET and AUX_SET write their register and count the write, and are refused with 0x0100
for a reserved value and with 0x0212 where an armed channel keeps SYN's mode. REF_RESUME, RAMP and CUE_SET answer 0x0204, 0x0205 and
0x022A where R354 says so, and act otherwise. A command that is carried out as its core cycle ends does the same whether it was taken
before or is taken there. Rests on R48, R60, R61, R64, R66, R348, R350, R353, R354, R362, R365, R370. -/
def Obligations.MailboxSystemAndTime : Prop :=
  (∀ (h : MbxHdr) (s : State), s.Sound → s.takesFresh h →
      Completes (.nop h) s (fun t => t.answered h 0x0000 0 []) ∧
      Completes (.version h) s (fun t => t.answered h 0x0001 0 (s.versionBytes h.die)) ∧
      Completes (.modeGet h) s (fun t => t.answered h 0x0003 0 (le 1 s.mode.code ++
        le 1 (s.rd F.CNV_STATUS.AVAILABLE [0, 0] + 2 * s.rd F.CNV_STATUS.AVAILABLE [0, 1] + 4 * s.rd F.CNV_STATUS.AVAILABLE [1, 0] +
          8 * s.rd F.CNV_STATUS.AVAILABLE [1, 1]) ++ le 1 (b2n (s.dieRetired 0) + 2 * b2n (s.dieRetired 1)))) ∧
      Completes (.dtGet h) s (fun t => t.answered h 0x0100 0 (le 8 (s.dt / 128 * 128))) ∧
      Completes (.refStatus h) s fun t => t.answered h 0x0103 0 (s.regBytes .XTO_STATUS [] ++ s.regBytes .XTO_PHASE_ERR [] ++
        s.regBytes .XTO_PULL [] ++ le 2 (s.image .XTO_STEP_FRAC []) ++ le 2 0 ++ le 8 (s.image .XTO_STEP_TICKS []) ++ le 8 (s.image .XTO_STEP_AT []))) ∧
    (∀ (h : MbxHdr) (tag : Nat) (s : State), s.Sound → s.takesFresh h →
      let out := s.outstanding.filter fun o => o.die == h.die && o.tag == tag
      let kept := (s.kept.filter fun k => k.die == h.die && k.tag == tag).getLast?
      (out ≠ [] → Completes (.longResult h tag) s fun t => t.answered h 0x0004 0 (le 4 0)) ∧
      (∀ k : Kept, out = [] → kept = some k → Completes (.longResult h tag) s fun t =>
        t.answered h 0x0004 0 (le 2 1 ++ le 2 k.status ++ le 4 0 ++ k.results)) ∧
      (out = [] → kept = none → Completes (.longResult h tag) s fun t => t.answered h 0x0004 0x0102 [])) ∧
    (∀ (h : MbxHdr) (first count addr q : Nat) (s : State), s.Sound → s.takesFresh h →
      (1 ≤ count → count ≤ 256 → Completes (.vlogRead h first count addr) s fun t =>
        t.answered h 0x0007 0 (le 4 (s.rd F.MBX_VLOG_NEXT.NEXT [h.die] % 256) ++ le 4 (s.rd F.MBX_VLOG_TOTAL.COUNT [h.die])) ∧
        Output.mem h.die addr ((List.range count).flatMap fun i => (List.range 4).flatMap fun w =>
          le 4 (s.rd F.MBX_VLOG.WORD [h.die, (first + i) % 256, w])) ∈ t.out) ∧
      (count = 0 ∨ 256 < count → Completes (.vlogRead h first count addr) s fun t => t.answered h 0x0007 0x0100 []) ∧
      (q < 7936 ∨ 8064 ≤ q → Completes (.ringReset h q) s fun t => t.answered h 0x0006 0x0100 []) ∧
      (7936 ≤ q → q < 8064 → s.rd F.QUE_STATUS.STATE [h.die, q] = 3 → h.src ≠ .ring (q - 7936) → Completes (.ringReset h q) s fun t =>
        t.answered h 0x0006 0 [] ∧ t.rd F.QUE_CFG.ENABLE [h.die, q] = 0 ∧ t.rd F.MBX_RING_STAT.RECENT [h.die, q - 7936] = 0 ∧
        t.rd F.MBX_RING_STAT.TOTAL [h.die, q - 7936] = 0 ∧ ∀ v ∈ t.violations, v.die = h.die → v.ring ≠ q)) ∧
    (∀ (h : MbxHdr) (mode : Nat) (m : Mode) (s : State), s.Sound → s.takesFresh h → s.mode ≠ .service →
      (3 < mode → CommandAtEnd (.modeSet h mode) h 0x0002 s fun t => t.answered h 0x0002 0x0100 []) ∧
      ((mode, m) ∈ [(0, Mode.ready), (1, Mode.quad), (2, Mode.paired), (3, Mode.vigil)] →
        (s.modeCheck m ≠ 0 → CommandAtEnd (.modeSet h mode) h 0x0002 s fun t => t.answered h 0x0002 (s.modeCheck m) [] ∧
          ∀ k : RegKey, k.reg = .PWR_MODE → t.regs.get k = s.regs.get k) ∧
        (s.modeCheck m = 0 → s.hasRoom h.die →
          (s.mode ≠ .vigil → s.rd F.PWR_STATUS.THERMAL [s.control] = 0 → s.fits [0, 1] (s.modePower m) 0 = true →
            CommandAtEnd (.modeSet h mode) h 0x0002 s fun t => t.answered h 0x0002 1 [] ∧
              (∀ d : Nat, d < 2 → t.rd F.PWR_MODE.TRANSITION [d] = 1 ∧ t.rd F.PWR_MODE.TARGET [d] = m.code) ∧
              ⟨h.die, h.src, h.tag, 0x0002, false, false, false, m.code, none⟩ ∈ t.outstanding) ∧
          (s.mode = .vigil → CommandAtEnd (.modeSet h mode) h 0x0002 s fun t => t.answered h 0x0002 1 [] ∧
            ∀ d : Nat, d < 2 → t.rd F.PWR_MODE.TRANSITION [d] = 1 ∧ t.rd F.PWR_MODE.TARGET [d] = 3)))) ∧
    (∀ (h : MbxHdr) (tag : Nat) (s : State), s.Sound → s.takesNow h →
      let found := s.outstanding.find? fun o => o.die == h.die && o.tag == tag
      (found = none → Completes (.abort h tag) s fun t => t.answered h 0x0005 0x0102 []) ∧
      (∀ o : Outstanding, found = some o → o.deferred = true → o.opcode = 0x0806 → Completes (.abort h tag) s fun t =>
        t.answered h 0x0005 0 [] ∧ ⟨h.die, tag, 0x0203, []⟩ ∈ t.kept ∧ ∀ x ∈ t.outstanding, x.die = h.die → x.tag ≠ tag) ∧
      (∀ o : Outstanding, found = some o → o.deferred = false → o.opcode = 0x0302 → o.converted = false → o.unit < 4 →
        s.rd F.CRD_COMB_STATUS.STATE [o.unit / 2, o.unit % 2] = 1 → s.rd I.combEnding [o.unit / 2, o.unit % 2] = 0 →
        Completes (.abort h tag) s fun t => t.answered h 0x0005 0 [] ∧ t.rd F.CRD_COMB_STATUS.STATE [o.unit / 2, o.unit % 2] = 0 ∧
          t.rd F.CRD_COMB_STATUS.RESULT [o.unit / 2, o.unit % 2] = 0x0211) ∧
      (∀ o : Outstanding, found = some o → o.deferred = false → o.opcode ≠ 0x0302 →
        let sent := s.deliveries.find? fun x => x.cmdDie == h.die && x.tag == tag && x.opcode == o.opcode
        (∀ x : Delivery, sent = some x → Completes (.abort h tag) s fun t => t.answered h 0x0005 0 [] ∧ x ∉ t.deliveries) ∧
        (sent = none → Completes (.abort h tag) s fun t => t.answered h 0x0005 0x0202 [] ∧ t.outstanding = s.outstanding))) ∧
    (∀ (h : MbxHdr) (v resume : Nat) (s : State), s.Sound → s.takesNow h →
      (64 ≤ v → Completes (.refSet h v) s fun t => t.answered h 0x0101 0x0100 [] ∧ t.image .XTO_REF_CTRL [] = s.image .XTO_REF_CTRL []) ∧
      (v < 64 → Completes (.refSet h v) s fun t =>
        t.answered h 0x0101 (if v / 4 % 4 = 3 then 0x0100 else 0) (le 1 (if v / 4 % 4 = 3 then 0 else 1)) ∧
        t.rd F.XTO_REF_CTRL.ENABLE [] = v % 2 ∧ t.rd F.XTO_REF_CTRL.REF_FREQ [] = v / 2 % 2 ∧
        t.rd F.XTO_REF_CTRL.POLICY [] = if v / 4 % 4 = 3 then s.rd F.XTO_REF_CTRL.POLICY [] else v / 4 % 4) ∧
      (resume = 1 ∨ resume = 2 → s.refState ≠ 3 ∨ s.rd F.XTO_STATUS.HOLD_WAIT [] = 0 → Completes (.refResume h resume) s fun t =>
        t.answered h 0x0102 0x0204 [] ∧ t.refState = s.refState) ∧
      (resume = 0 ∨ 2 < resume → Completes (.refResume h resume) s fun t => t.answered h 0x0102 0x0100 []) ∧
      (s.refState = 3 → s.rd F.XTO_STATUS.HOLD_WAIT [] = 1 →
        (resume = 1 → Completes (.refResume h resume) s fun t => t.answered h 0x0102 0 [] ∧ t.refState = 1 ∧ t.pends s.control 26 = true ∧
          t.rd F.XTO_STATUS.SLEWING [] = 1 ∧ t.rd F.XTO_STATUS.HOLD_WAIT [] = 0) ∧
        (resume = 2 → Completes (.refResume h resume) s fun t => t.answered h 0x0102 0 [] ∧ t.refState = 1 ∧ t.pends s.control 26 = true ∧
          t.rd F.XTO_STATUS.STEP_PENDING [] = 1 ∧ t.rd F.XTO_STATUS.HOLD_WAIT [] = 0))) ∧
    (∀ (h : MbxHdr) (v action : Nat) (s : State), s.Sound → s.takesNow h →
      let d := h.die
      (v % 8 / 2 ≠ 0 → Completes (.synSet h v) s fun t => t.answered h 0x0104 0x0100 [] ∧ t.image .SYN_CTRL [d] = s.image .SYN_CTRL [d]) ∧
      (v % 8 / 2 = 0 → State.imageOk .SYN_CTRL v = true →
        (v % 2 ≠ s.rd F.SYN_CTRL.MODE [d] → s.dieArmed d = true → Completes (.synSet h v) s fun t => t.answered h 0x0104 0x0212 (le 1 0) ∧
          t.rd F.SYN_STATUS.MODE_REJECT [d] = 1 ∧ t.image .SYN_CTRL [d] = s.image .SYN_CTRL [d]) ∧
        (v % 2 = s.rd F.SYN_CTRL.MODE [d] ∨ s.dieArmed d = false → Completes (.synSet h v) s fun t => t.answered h 0x0104 0 (le 1 1) ∧
          t.rd F.SYN_CTRL.MODE [d] = v % 2 ∧ t.rd F.SYN_CTRL.RAMP_REPEAT [d] = v / 8 % 2 ∧ t.rd F.SYN_CTRL.RAMP_LAST [d] = v / 16 % 64 ∧
          t.rd F.SYN_CTRL.ALIAS_EN [d] = v / 1024 % 4)) ∧
      (let refused := s.fractional d = false ∨ s.rd F.SYN_STATUS.RAMP_ACTIVE [d] ≠ 0 ∨ ∃ k : Nat, k ≤ s.rd F.SYN_CTRL.RAMP_LAST [d] ∧ s.rampBad d k = true
      (action = 0 → refused → Completes (.ramp h action) s fun t => t.answered h 0x0105 0x0205 [] ∧ t.rd F.SYN_STATUS.RAMP_REJECT [d] = 1 ∧
        t.rd F.SYN_STATUS.RAMP_ACTIVE [d] = s.rd F.SYN_STATUS.RAMP_ACTIVE [d]) ∧
      (action = 0 → ¬refused → Completes (.ramp h action) s fun t => t.answered h 0x0105 0 [] ∧ t.rd F.SYN_STATUS.RAMP_ACTIVE [d] = 1 ∧
        t.rd F.SYN_STATUS.RAMP_SEG [d] = 0)) ∧
      (action = 1 → Completes (.ramp h action) s fun t => t.answered h 0x0105 0 [] ∧ t.rd F.SYN_STATUS.RAMP_ACTIVE [d] = 0) ∧
      (1 < action → Completes (.ramp h action) s fun t => t.answered h 0x0105 0x0100 [])) ∧
    (∀ (h : MbxHdr) (n action state target flags frac param ticks : Nat) (s : State), s.Sound → s.takesNow h → action < 256 → target < 2 ^ 16 →
      flags < 2 ^ 16 → frac < 2 ^ 16 → param < 2 ^ 32 → ticks < 2 ^ 64 →
      let d := h.die
      let c : Instr := .cueSet h n action state target flags frac param ticks
      (256 ≤ n ∨ state ≠ 1 ∧ state ≠ 4 → Completes c s fun t => t.answered h 0x0106 0x0100 []) ∧
      (n < 256 → state = 1 → s.rd F.CUE.STATE [d, n] = 1 → Completes c s fun t => t.answered h 0x0106 0x022A [] ∧
        t.image .CUE [d, n] = s.image .CUE [d, n]) ∧
      (n < 256 → state = 4 → s.rd F.CUE.STATE [d, n] = 1 → s.cueDue d n = false → Completes c s fun t => t.answered h 0x0106 0 (le 1 4) ∧
        t.rd F.CUE.STATE [d, n] = 4 ∧ t.rd F.CUE.DT_TICKS [d, n] = s.rd F.CUE.DT_TICKS [d, n]) ∧
      (n < 256 → state = 1 → s.rd F.CUE.STATE [d, n] ≠ 1 → Completes c s fun t => t.answered h 0x0106 0 (le 1 1) ∧
        t.rd F.CUE.STATE [d, n] = 1 ∧ t.rd F.CUE.DT_TICKS [d, n] = ticks ∧ t.rd F.CUE.DT_FRAC [d, n] = frac % 4096 ∧
        t.rd F.CUE.ACTION [d, n] = action ∧ t.rd F.CUE.TARGET [d, n] = target ∧ t.rd F.CUE.NOTIFY [d, n] = flags / 256 % 2 ∧
        t.rd F.CUE.PARAM [d, n] = param ∧ t.rd F.CUE.LATE [d, n] = b2n (!dtGe ticks (s.blkOf d)))) ∧
    (∀ (h : MbxHdr) (v : Nat) (s : State), s.Sound → s.takesNow h → v < 256 →
      let d := h.die
      (50 < v / 4 → Completes (.auxSet h v) s fun t => t.answered h 0x0107 0x0100 (le 1 0) ∧ t.image .AUX_CTRL [d] = s.image .AUX_CTRL [d]) ∧
      (v / 4 ≤ 50 → Completes (.auxSet h v) s fun t => t.rd F.AUX_CTRL.SPREAD_DEPTH [d] = v / 4 ∧
        t.answered h 0x0107 (if v % 4 = 3 then 0x0100 else 0) (le 1 (if v % 4 = 3 then 0 else 1)) ∧
        t.rd F.AUX_CTRL.SPREAD_MODE [d] = if v % 4 = 3 then s.rd F.AUX_CTRL.SPREAD_MODE [d] else v % 4)) ∧
    (∀ (c : Instr) (h : MbxHdr) (opcode : Nat) (s : State), lateCommand c = some (h, opcode) → s.takesFresh h → s.closing = true →
      exec c (s.take h opcode).1 = exec c s)

/-- The mailbox commands of the converter and calibration groups do the work of R354 and answer. For every sound state in which the engine
takes the command now, for a global channel whose die is in service. CH_STATUS, SLICE_MAP, CARD_STATUS, STORE_STATUS answer the registers
named, and TRIM_READ writes the channel's trims and slice statistics to host memory. ATTEN_SET of a channel that is not armed sets ATTEN,
and a change starts settling; of an armed one it answers 0x0212 with ATTEN_REJECT set and ATTEN as before; a value above 7, a flag above 1
or a channel above 3 is answered 0x0100. OVLD_EVT sets the enable of overload events. CARD_SET with every field in its range writes its
four images and answers OK with four writes; an interval outside its range ends it at once with 0x0100 and no write counted. COMB_START
answers the code of R108 with the run as before, or is accepted with the run in SETTLE and CAL_SW closed where its groups are free.
COMB_START and STORE_WRITE are carried out as the core cycle ends; STORE_WRITE is accepted and joins a pending write, makes one pending
while the store is held, or starts one. Rests on R76, R82, R108, R116, R117, R348, R350, R352, R354. -/
def Obligations.MailboxConvertersAndCalibration : Prop :=
  (∀ (h : MbxHdr) (ch addr : Nat) (s : State), s.Sound → s.takesFresh h → ch < 4 → s.dieRetired (ch / 2) = false →
      let d := ch / 2
      let c := ch % 2
      Completes (.chStatus h ch) s (fun t => t.answered h 0x0200 0 (s.regBytes .CNV_STATUS [d, c] ++ s.regBytes .CNV_DIE_STATUS [d])) ∧
      Completes (.sliceMap h ch) s (fun t =>
        t.answered h 0x0203 0 ((List.range 8).flatMap fun g => s.regBytes .CNV_SLICE_MAP [d, c, g])) ∧
      Completes (.cardStatus h ch) s (fun t => t.answered h 0x0301 0 (s.regBytes .CRD_STATUS [d, c])) ∧
      Completes (.storeStatus h) s (fun t => t.answered h 0x0304 0 (s.regBytes .CRD_STORE_STATUS [] ++ s.regBytes .CRD_STORE_GEN [])) ∧
      Completes (.trimRead h ch addr) s fun t => t.answered h 0x0305 0 [] ∧
        Output.mem h.die addr (((List.range 136).flatMap fun i => s.regBytes .CRD_TRIM [d, c, i]) ++
          (List.range 136).flatMap fun i => s.regBytes .CRD_SLICE_STAT [d, c, i]) ∈ t.out) ∧
    (∀ (h : MbxHdr) (ch atten enable : Nat) (s : State), s.Sound → s.takesNow h →
      (7 < atten → ch < 4 → s.dieRetired (ch / 2) = false → Completes (.attenSet h ch atten) s fun t => t.answered h 0x0201 0x0100 []) ∧
      (4 ≤ ch → Completes (.attenSet h ch atten) s (fun t => t.answered h 0x0201 0x0100 []) ∧
        Completes (.ovldEvt h ch enable) s fun t => t.answered h 0x0202 0x0100 []) ∧
      (ch < 4 → s.dieRetired (ch / 2) = false →
        let d := ch / 2
        let c := ch % 2
        (atten ≤ 7 → s.armed d c = false → Completes (.attenSet h ch atten) s fun t => t.answered h 0x0201 0 (le 1 1) ∧
          t.rd F.CNV_CTRL.ATTEN [d, c] = atten ∧
          (atten ≠ s.rd F.CNV_CTRL.ATTEN [d, c] → s.mode ≠ .paired → t.rd F.CNV_STATUS.SETTLING [d, c] = 1)) ∧
        (atten ≤ 7 → s.armed d c = true → s.mode ≠ .paired → atten ≠ s.rd F.CNV_CTRL.ATTEN [d, c] →
          Completes (.attenSet h ch atten) s fun t => t.answered h 0x0201 0x0212 (le 1 0) ∧ t.rd F.CNV_STATUS.ATTEN_REJECT [d, c] = 1 ∧
            t.rd F.CNV_CTRL.ATTEN [d, c] = s.rd F.CNV_CTRL.ATTEN [d, c]) ∧
        (enable ≤ 1 → Completes (.ovldEvt h ch enable) s fun t => t.answered h 0x0202 0 (le 1 1) ∧
          t.rd F.CNV_CTRL.OVLD_EVT_EN [d, c] = enable) ∧
        (1 < enable → Completes (.ovldEvt h ch enable) s fun t => t.answered h 0x0202 0x0100 []))) ∧
    (∀ (h : MbxHdr) (ch ctrl suff tol timeout : Nat) (s : State), s.Sound → s.takesNow h → ch < 4 → s.dieRetired (ch / 2) = false →
      ctrl < 2 ^ 22 → suff < 2 ^ 24 → tol < 2 ^ 32 → timeout < 2 ^ 16 →
      let d := ch / 2
      let c := ch % 2
      let card : Instr := .cardSet h ch ctrl suff tol timeout
      let interval := ctrl / 32
      (100 ≤ interval → interval ≤ 100000 → 2 ≤ suff / 2 ^ 20 → suff / 2 ^ 20 ≤ 8 → 2 ≤ tol % 256 → 3 ≤ tol / 2 ^ 8 % 256 →
        10 ≤ tol / 2 ^ 16 % 256 → 13 ≤ tol / 2 ^ 24 → 100 ≤ timeout → timeout ≤ 60000 → Completes card s fun t =>
          t.answered h 0x0300 0 (le 1 4) ∧ t.image .CRD_CTRL [d, c] = ctrl ∧ t.image .CRD_SUFF [d, c] = suff ∧
          t.image .CRD_TOL [d, c] = tol ∧ t.image .CRD_TIMEOUT [d, c] = timeout) ∧
      (interval < 100 ∨ 100000 < interval → Completes card s fun t => t.answered h 0x0300 0x0100 (le 1 0) ∧
        t.rd F.CRD_CTRL.INTERVAL [d, c] = s.rd F.CRD_CTRL.INTERVAL [d, c] ∧ t.image .CRD_SUFF [d, c] = s.image .CRD_SUFF [d, c])) ∧
    (∀ (h : MbxHdr) (ch allow store : Nat) (s : State), s.Sound → s.takesNow h → ch < 4 → s.dieRetired (ch / 2) = false → allow ≤ 1 → store ≤ 1 →
      let d := ch / 2
      let c := ch % 2
      let check := s.combCheck d c false (allow == 1)
      (check ≠ 0 → CommandAtEnd (.combStart h ch allow store) h 0x0302 s fun t => t.answered h 0x0302 check [] ∧
        t.rd F.CRD_COMB_STATUS.STATE [d, c] = s.rd F.CRD_COMB_STATUS.STATE [d, c]) ∧
      (check = 0 → s.hasRoom h.die → s.rd F.PWR_STATUS.THERMAL [d] = 0 → s.fits [d] 0 (s.cost 12) = true → s.claimGoes (s.combClaim d c) = true →
        CommandAtEnd (.combStart h ch allow store) h 0x0302 s fun t => t.answered h 0x0302 1 [] ∧ t.rd F.CRD_COMB_STATUS.STATE [d, c] = 2 ∧
          t.rd F.CNV_CTRL.CAL_SW [d, c] = 1 ∧ ⟨h.die, h.src, h.tag, 0x0302, false, false, false, ch, none⟩ ∈ t.outstanding)) ∧
    (∀ (h : MbxHdr) (s : State), s.Sound → s.takesNow h → s.hasRoom h.die →
      (s.rd F.CRD_STORE_STATUS.PENDING [] ≠ 0 → CommandAtEnd (.storeWrite h) h 0x0303 s fun t => t.answered h 0x0303 1 [] ∧
        t.rd F.CRD_STORE_STATUS.BUSY [] = s.rd F.CRD_STORE_STATUS.BUSY [] ∧
        ⟨h.die, h.src, h.tag, 0x0303, false, false, false, 0, none⟩ ∈ t.outstanding) ∧
      (s.rd F.CRD_STORE_STATUS.PENDING [] = 0 → s.rd F.PWR_STATUS.THERMAL [s.control] = 0 → s.fits [0, 1] 0 (s.cost 13) = true →
        (s.storeHeld = true → CommandAtEnd (.storeWrite h) h 0x0303 s fun t => t.answered h 0x0303 1 [] ∧ t.rd F.CRD_STORE_STATUS.PENDING [] = 1) ∧
        (s.storeHeld = false → s.waits .storeWrite = false → s.claimGoes ⟨.storeWrite, 4, s.control, [8]⟩ = true →
          CommandAtEnd (.storeWrite h) h 0x0303 s fun t => t.answered h 0x0303 1 [] ∧ t.rd F.CRD_STORE_STATUS.BUSY [] = 1 ∧
            t.rd F.CRD_STORE_STATUS.PENDING [] = 0 ∧ ⟨h.die, h.src, h.tag, 0x0303, false, false, false, 1, none⟩ ∈ t.outstanding)))

/-- Mode transitions, wakes, Harvest periods, the thermal limit and failover follow R369 to R386 and R403. For every sound state in which the
command's moment has come. A transition that is done puts the target mode in force and into PWR_MODE of both dies, ends every set where
the old mode acquires, sets SPLIT for PAIRED, and raises PWR_MODE; TRANSITION is 0 but where VIGIL is entered, in which a held wake may
start the next one. The wake timer starts VIGIL to READY with CAUSE 1 of its bit. A link in L0 is shown, and the WAKE# that its die
asserted is released. A Harvest period, which waits for the end of its core cycle, shows the rails and temperatures measured, keeps the
draws of the last 1,000 periods with their mean, corrects a cost entry by one eighth of its error within half and twice its factory value
where no second admission took effect in the same 10 ms, and raises derating by one level where the draw exceeds the cap. The thermal
limit is entered at 110 °C with derating at level 11 and left below 100 °C. Die 1 takes the control role when die 0 is retired, with the
reference loop in WINTER and the requests deferred on die 0 withdrawn. A command out of its moment changes nothing. Rests on R34, R35,
R80, R368, R369, R374, R376, R380, R383, R384, R386, R403. -/
def Obligations.ModesHarvestAndFailover : Prop :=
  (∀ (m : Mode) (s : State), s.Sound → s.inTransition = true → Mode.ofCode s.modeTarget = some m →
      Completes .modeTransitionDone s fun t => t.mode = m ∧ t.pends s.control 8 = true ∧
        (∀ d : Nat, d < 2 → t.rd F.PWR_MODE.MODE [d] = m.code ∧ (m ≠ .vigil → t.rd F.PWR_MODE.TRANSITION [d] = 0) ∧
          (m = .paired → t.rd F.CNV_DIE_STATUS.SPLIT [d] = 1) ∧
          ∀ a : Nat, a < 3 → s.mode.acquires = true → t.rd F.ACQ_STATUS.STATE [d, a] = 0)) ∧
    (∀ s : State, s.Sound → s.inTransition = false → Completes .modeTransitionDone s fun t => t = s) ∧
    (∀ s : State, s.Sound →
      (s.mode = .vigil → s.inTransition = false → s.rd F.PWR_WAKE_CTRL.TIMER_EN [] ≠ 0 → s.due (s.rd F.PWR_WAKE_DT.TICKS []) = true →
        Completes .vigilWakeTimer s fun t => t.rd F.PWR_WAKE_CAUSE.CAUSE [] = 2 ∧
          ∀ d : Nat, d < 2 → t.rd F.PWR_MODE.TRANSITION [d] = 1 ∧ t.rd F.PWR_MODE.TARGET [d] = 3) ∧
      (s.rd F.PWR_WAKE_CTRL.TIMER_EN [] = 0 ∨ s.due (s.rd F.PWR_WAKE_DT.TICKS []) = false → Completes .vigilWakeTimer s fun t => t = s)) ∧
    (∀ (d : Nat) (s : State), s.Sound → s.mode ≠ .hold → s.dieRetired d = false → Completes (.pcieLinkL0 d) s fun t =>
      t.rd I.linkL0 [d] = 1 ∧ t.rd I.linkDeep [d] = 0 ∧
      (s.rd I.wakePin [d] ≠ 0 → t.rd I.wakePin [d] = 0 ∧ Output.pin d State.pinWake true ∈ t.out) ∧ (s.rd I.wakePin [d] = 0 → t.out = s.out)) ∧
    (∀ (draw : Nat) (rails : List (List Nat)) (temps : List (List Int)) (fixes : List (Nat × Nat)) (s : State), s.Sound → s.mode ≠ .hold →
      s.dt / 160000000 ≠ s.rd I.periodNo [] → draw < 2 ^ 32 →
      CompletesAtEnd (.harvestPeriod draw rails temps fixes) s fun t =>
        t.rd F.HVS_LEDGER.VALUE [0] = draw ∧ t.periodDraws = (draw :: s.periodDraws).take 1000 ∧
        t.rd F.HVS_LEDGER.VALUE [2] = ((draw :: s.periodDraws).take 1000).sum / 1000 % 2 ^ 32 ∧
        (∀ d r : Nat, d < 2 → r < 12 → t.rd F.PWR_RAIL.MW [d, r] = (rails.getD d []).getD r 0 % 2 ^ 24) ∧
        (∀ d k : Nat, d < 2 → k < 8 → t.rd F.PWR_TEMP.TEMP [d, k] = sfield 16 ((temps.getD d []).getD k 0)) ∧
        (∀ n new : Nat, fixes = [(n, new)] → n < 20 → s.committed.length ≤ 1 → (t.rd F.COST.VALUE [n] : Int) =
          max ((s.rd F.COST.FACTORY [n] / 2 : Nat) : Int) (min ((2 * s.rd F.COST.FACTORY [n] : Nat) : Int)
            ((s.rd F.COST.VALUE [n] : Int) + ((new : Int) - s.rd F.COST.VALUE [n]) / 8)) % 2 ^ 32) ∧
        (fixes = [] → s.rd F.HVS_CAP.MW [] < draw → s.rd F.HVS_STATUS.LEVEL [] < 11 →
          t.rd F.HVS_STATUS.LEVEL [] = s.rd F.HVS_STATUS.LEVEL [] + 1 ∧ t.pends s.control 12 = true)) ∧
    (∀ (draw : Nat) (rails : List (List Nat)) (temps : List (List Int)) (fixes : List (Nat × Nat)) (s : State), s.Sound →
      s.mode = .hold ∨ s.dt / 160000000 = s.rd I.periodNo [] → CompletesAtEnd (.harvestPeriod draw rails temps fixes) s fun t => t = s) ∧
    (∀ (temp : Nat) (s : State), s.Sound →
      (1760 ≤ temp → s.mode ≠ .hold → s.rd F.PWR_STATUS.THERMAL [0] = 0 → Completes (.thermalLimitEnter temp) s fun t =>
        (s.rd F.HVS_STATUS.LEVEL [] ≤ 11 → t.rd F.HVS_STATUS.LEVEL [] = 11) ∧
        ∀ d : Nat, d < 2 → t.rd F.PWR_STATUS.THERMAL [d] = 1 ∧ t.rd F.PWR_STATUS.THERMAL_SEEN [d] = 1 ∧ t.pends d 10 = true) ∧
      (temp < 1760 → Completes (.thermalLimitEnter temp) s fun t => t = s) ∧
      (temp < 1600 → s.rd F.PWR_STATUS.THERMAL [0] ≠ 0 → Completes (.thermalLimitClear temp) s fun t =>
        ∀ d : Nat, d < 2 → t.rd F.PWR_STATUS.THERMAL [d] = 0 ∧ t.pends d 10 = true) ∧
      (1600 ≤ temp → Completes (.thermalLimitClear temp) s fun t => t = s)) ∧
    (∀ s : State, s.Sound →
      (s.control = 0 → s.dieRetired 0 = true → Completes .failover s fun t => t.control = 1 ∧ t.rd F.TOP_ID.CONTROL [0] = 0 ∧
        t.rd F.TOP_ID.CONTROL [1] = 1 ∧ t.pends 1 228 = true ∧ (s.refState ≠ 0 → t.refState = 3) ∧ ∀ x ∈ t.deferred, x.die ≠ 0) ∧
      (s.control ≠ 0 ∨ s.dieRetired 0 = false → Completes .failover s fun t => t = s))

/-- Wear, rethreading, lanes, the scrub and retirement follow R388 to R407. For every sound state in which the command's moment has come, and
a unit not retired. A unit whose wear holds, or a lost one, is recorded with its cause and BOB_WEAR raised; a worn one is rethreaded where
AUTO_EN is set, R393 finds nothing against it and its energy fits, and deferred where it does not fit; a lost one is rethreaded as lost
where a spare serves it, and due to retire where none does. A grant starts a waiting store write. The setup step of a slice puts its spare
into SHADOW at its phase with its trims; a core cycle in which a swap on an IDLE or streaming set awaits its block claims the trims, and
fixes the swap block 16 cycles ahead where they are free; the swap at its block substitutes the spare. A pseudo-channel's copy, remap
hold, remap and hold end take its LPC to the spare. A spare lane carries a lane that fails or whose margin falls below 20 %. A comparator
is worn beyond 8 steps and lost where it does not switch. An SRAM bank is substituted at the end of its copy. A scrub grant advances the
pass, counts a codeword with one or two symbols in error, and reports one that the decoder finds uncorrectable. A retirement that is due
is recorded, raises BOB_RETIRE and withdraws the channel or the die. Rests on R187, R188, R189, R190, R391, R393, R394, R395, R397, R398,
R399, R401. -/
def Obligations.WearRethreadingAndRetirement : Prop :=
  (∀ (u cause : Nat) (s : State), s.Sound → s.bobRetired u = false → s.wearHolds u cause = true → s.rd F.PWR_STATUS.THERMAL [unitDie u] = 0 →
      let d := unitDie u
      (Completes (.unitWorn u cause) s fun t => t.pends d 224 = true ∧ ∃ r ∈ t.bobbin, r.unit = u ∧ r.cause = cause) ∧
      (s.rd F.BOB_CTRL.AUTO_EN [] = 0 ∨ s.rtCheck u ≠ 0 → Completes (.unitWorn u cause) s fun t =>
        ∀ k : RegKey, k.reg = .BOB_ACTIVE → t.regs.get k = s.regs.get k) ∧
      (s.rd F.BOB_CTRL.AUTO_EN [] = 1 → s.rtCheck u = 0 → Completes (.unitWorn u cause) s fun t => t.rd F.BOB_ACTIVE.UNIT [d] = u ∧
        (s.fits [d] 0 (s.rtEnergy u) = false → t.rd F.BOB_ACTIVE.PHASE [d] = 1) ∧
        (s.fits [d] 0 (s.rtEnergy u) = true → t.pends d 225 = true)) ∧
      (Completes (.unitLost u cause) s fun t => t.pends d 224 = true) ∧
      (unitKind u ≠ 3 → s.isSpare u = false → s.unitGone u = false →
        (s.unitInvalid u = true ∨ s.unitSpare u = false → Completes (.unitLost u cause) s fun t => u ∈ t.retiring) ∧
        (s.unitInvalid u = false → s.unitSpare u = true → s.fits [d] 0 (s.rtEnergy u) = true → Completes (.unitLost u cause) s fun t =>
          t.rd F.BOB_ACTIVE.UNIT [d] = u ∧ t.rd F.BOB_ACTIVE.LOST [d] = 1 ∧ t.pends d 225 = true))) ∧
    (∀ (u cause : Nat) (s : State), s.Sound → s.bobRetired u = true →
      Completes (.unitWorn u cause) s (fun t => t = s) ∧ Completes (.unitLost u cause) s fun t => t = s) ∧
    (∀ (u cause : Nat) (s : State), s.Sound → s.wearHolds u cause = false → Completes (.unitWorn u cause) s fun t => t = s) ∧
    (∀ (c : Claim) (s : State), s.Sound → State.nextGrant [] s.waiting s = some c → c.act = .storeWrite → s.rd I.svcTestWait [] ≠ 3 →
      Completes .maintClaimGrant s fun t => c ∈ t.running ∧ t.rd F.CRD_STORE_STATUS.BUSY [] = 1 ∧ t.rd F.CRD_STORE_STATUS.PENDING [] = 0) ∧
    (∀ (d : Nat) (s : State), s.Sound →
      let u := s.rd F.BOB_ACTIVE.UNIT [d]
      let c := unitSide u
      let g := unitLane u
      (s.runs (.rethreadSetup d u) = true → s.elapsed (s.rd I.bobAt [d]) 128 = true → unitIndex u < 16 → Completes (.rethreadSetup d) s fun t =>
        t.rd F.CNV_SLICE_MAP.SPARE_PHASE [d, c, g] = unitIndex u ∧ t.rd F.CNV_SLICE_MAP.SPARE_STATE [d, c, g] = 1 ∧
        t.runs (.rethreadSetup d u) = false ∧ t.rd F.BOB_ACTIVE.PHASE [d] = (if s.rd F.BOB_ACTIVE.LOST [d] = 0 then 3 else 5) ∧
        (s.rd F.BOB_ACTIVE.LOST [d] = 0 →
          t.rd F.CRD_TRIM.OFFSET [d, c, spareOf g] = s.rd F.CRD_TRIM.OFFSET [d, c, 17 * g + unitIndex u] % 2 ^ F.CRD_TRIM.OFFSET.width ∧
          t.rd F.CRD_TRIM.BW [d, c, spareOf g] = s.rd F.CRD_TRIM.BW [d, c, 17 * g + unitIndex u] % 2 ^ F.CRD_TRIM.BW.width)) ∧
      (s.runs (.rethreadSetup d u) = false → Completes (.rethreadSetup d) s fun t => t = s) ∧
      (unitKind u = 1 →
        let here := s.rd I.swapBlk [d] ≠ 0 ∧ s.rd I.swapBlk [d] ≤ s.blkNo d + 1 ∧ s.runs (.rethreadSwap d u) = true
        (here → Completes (.rethreadSwap d) s fun t => t.rd F.CNV_SLICE_MAP.SPARE_STATE [d, c, g] = 2 ∧ t.rd F.BOB_ACTIVE.UNIT [d] = 0 ∧
          t.pends d 225 = true) ∧
        (¬here → Completes (.rethreadSwap d) s fun t => t = s)) ∧
      (unitKind u = 1 → s.rtPhase d = 4 ∨ s.rtPhase d = 5 → s.rd I.swapBlk [d] = 0 → s.waits (.rethreadSwap d u) = false →
        s.armed d (s.swapSet c) = false ∨ s.streaming d (s.swapSet c) = true →
        (s.claimGoes (s.swapClaim d) = true → (s.swapTick d).rd I.swapBlk [d] = (s.blkNo d + 17) % 2 ^ I.swapBlk.width) ∧
        (s.claimGoes (s.swapClaim d) = false → s.runs (.rethreadSwap d u) = false → (s.swapTick d).waits (.rethreadSwap d u) = true)) ∧
      (unitKind u = 5 → s.rd F.BOB_SRAM.STATE [d, unitLane u] = 1 → Completes (.sramCopyDone d) s fun t =>
        t.rd F.BOB_SRAM.STATE [d, unitLane u] = 2 ∧ t.rd F.BOB_ACTIVE.UNIT [d] = 0 ∧ t.pends d 225 = true)) ∧
    (∀ (d h q : Nat) (s : State), s.Sound →
      let u := s.rd F.BOB_ACTIVE.UNIT [d]
      let p := unitIndex u
      unitKind u = 2 → unitSide u = h →
      (s.runs (.pcCopy d h p) = true → Completes (.pcCopyDone d h) s fun t => t.rd F.BOB_ACTIVE.PHASE [d] = 5 ∧
        t.runs (.pcCopy d h p) = false ∧ t.pends d 225 = true) ∧
      (s.rtPhase d = 5 → s.rd F.MEM_STATUS.REMAP_ACTIVE [d, h] = 0 → s.remapHere d h = true →
        s.runs (.pcRemap d h p) = true ∨ s.waits (.pcRemap d h p) = false ∧ s.claimGoes ⟨.pcRemap d h p, 1, d, [4 + h]⟩ = true →
        Completes (.remapHoldStart d h) s fun t => t.rd F.MEM_STATUS.REMAP_ACTIVE [d, h] = 1 ∧ t.pends d 128 = true) ∧
      (s.rd F.MEM_STATUS.REMAP_ACTIVE [d, h] = 1 → s.rd F.MEM_PC_STAT.STATE [d, h, p] ≠ 3 → s.pcIn d h 2 = some q → p ≠ q →
        Completes (.pcRemap d h) s fun t => t.rd F.MEM_PC_STAT.STATE [d, h, q] = 0 ∧ t.rd F.MEM_PC_STAT.STATE [d, h, p] = 3 ∧
          t.rd F.MEM_STATUS.SPARE_FREE [d, h] = 0 ∧ ∀ l : Nat, l < 31 → t.rd F.MEM_PC_MAP.PHYS [d, h, l] =
            if s.rd F.MEM_PC_MAP.PHYS [d, h, l] = p then q else s.rd F.MEM_PC_MAP.PHYS [d, h, l]) ∧
      (s.rd F.MEM_STATUS.REMAP_ACTIVE [d, h] = 1 → s.elapsed (s.rd I.remapHold [d, h]) 1024 = true → Completes (.remapHoldEnd d h) s fun t =>
        t.rd F.MEM_STATUS.REMAP_ACTIVE [d, h] = 0 ∧ t.rd F.BOB_ACTIVE.UNIT [d] = 0 ∧ t.pends d 128 = true)) ∧
    (∀ (d l margin : Nat) (s : State), s.Sound → d < 2 → l < 28 → margin < 256 →
      ((s.spareLane d).isSome = true → s.rd F.BOB_SPL_MARGIN.STATE [d, l] = 0 → s.waits (.spliceRetrain d l) = false →
        s.rd F.PWR_STATUS.THERMAL [d] = 0 → s.fits [d] 0 (s.cost 17) = true → s.claimGoes ⟨.spliceRetrain d l, 3, d, [9]⟩ = true → Completes (.spliceLaneCheck d l) s fun t =>
          t.runs (.spliceRetrain d l) = true) ∧
      ((s.spareLane d).isNone = true → Completes (.spliceLaneCheck d l) s fun t => t = s) ∧
      (s.rd F.BOB_SPL_MARGIN.STATE [d, l] = 0 → Completes (.spliceLaneLoss d l) s fun t => t.rd F.BOB_SPL_MARGIN.STATE [d, l] = 3 ∧
        t.pends d 224 = true) ∧
      (s.rd F.BOB_SPL_MARGIN.STATE [d, l] = 3 → Completes (.spliceLaneLoss d l) s fun t => t = s) ∧
      (s.runs (.spliceRetrain d l) = true → Completes (.spliceLaneRetrainDone d l margin) s fun t =>
        t.rd F.BOB_SPL_MARGIN.MARGIN [d, l] = margin ∧ t.runs (.spliceRetrain d l) = false ∧
        (20 ≤ margin → t.rd F.BOB_SPL_MARGIN.STATE [d, l] = s.rd F.BOB_SPL_MARGIN.STATE [d, l]) ∧
        (margin < 20 → t.pends d 224 = true ∧ t.rd F.BOB_SPL_MARGIN.STATE [d, l] = (if margin = 0 then 3 else 2)))) ∧
    (∀ (d u steps : Nat) (switches : Bool) (s : State), s.Sound → d < 2 → u < 12 → (s.cmpIdle d).isSome = true → s.rd I.cmpRetired [d, u] = 0 →
      (switches = false ∨ 8 < steps → Completes (.comparatorDailyCheck d u steps switches) s fun t => t.pends d 224 = true) ∧
      (switches = true → steps ≤ 8 → Completes (.comparatorDailyCheck d u steps switches) s fun t => t = s)) ∧
    (∀ (d h first n : Nat) (words : List ReadWord) (s : State), s.Sound → s.rd I.scrubPos [d, h] ≠ 64 * first →
      Completes (.scrubGrant d h first n words) s fun t => t = s) ∧
    (∀ (d h first n : Nat) (w : ReadWord) (s : State), s.Sound → s.rd I.scrubPos [d, h] = 64 * first → s.domainOn d (29 + h) = true → s.runs (.scrub d h) = false →
      s.waits (.scrub d h) = false → s.claimGoes ⟨.scrub d h, 5, d, [4 + h]⟩ = true →
      let at1 := 64 * (first + n)
      let size := guardedBytes (s.workingPcs d h)
      let wrong := (symbolErrors w.errs).length
      (at1 < size → at1 < 2 ^ 64 → Completes (.scrubGrant d h first n []) s fun t => t.rd I.scrubPos [d, h] = at1 ∧
        t.rd F.MEM_SCRUB_STATUS.PROGRESS [d, h] = at1 * 256 / size ∧ t.runs (.scrub d h) = false) ∧
      (size ≤ at1 → Completes (.scrubGrant d h first n []) s fun t => t.rd I.scrubPos [d, h] = 0 ∧ t.pends d 127 = true ∧
        (s.rd F.MEM_SCRUB_STATUS.PASSES [d, h] + 1 < 2 ^ 24 →
          t.rd F.MEM_SCRUB_STATUS.PASSES [d, h] = s.rd F.MEM_SCRUB_STATUS.PASSES [d, h] + 1)) ∧
      (w.stack = h → first ≤ w.word → w.word < first + n →
        (0 < wrong → wrong ≤ 2 → s.rd F.MEM_SCRUB_CE.COUNT [d, h] + 1 < 2 ^ 32 → Completes (.scrubGrant d h first n [w]) s fun t =>
          t.rd F.MEM_SCRUB_CE.COUNT [d, h] = s.rd F.MEM_SCRUB_CE.COUNT [d, h] + 1) ∧
        (2 < wrong → Completes (.scrubGrant d h first n [w]) s fun t => (decodeWord w.errs).bad = true →
          t.rd F.MEM_UE_ADDR.OFFSET [d, h] = 64 * w.word % 2 ^ 40 ∧ t.pends d 126 = true))) ∧
    (∀ (u : Nat) (s : State), s.Sound → u ∈ s.retiring → s.rd I.retireAt [u] < s.now → Completes (.retirement u) s fun t =>
      (∃ r ∈ t.bobbin, r.unit = u ∧ r.state = 4) ∧ t.pends (if unitKind u = 8 then s.control else unitDie u) 226 = true ∧
      (unitKind u = 6 → t.rd F.CNV_STATUS.AVAILABLE [unitDie u, unitSide u] = 0) ∧
      (unitKind u = 8 → t.dieRetired (unitDie u) = true ∧ t.rd I.linkL0 [unitDie u] = 0)) ∧
    (∀ (u : Nat) (s : State), s.Sound → u ∉ s.retiring ∨ s.now ≤ s.rd I.retireAt [u] → Completes (.retirement u) s fun t => t = s)

/-- Skein ports, frames, alignment, summaries and the global sequencer follow R408 to R425. For every sound state in which the command's
moment has come. A trained port is MEASURING, and port 0 sends JOIN. A frame with a violation is answered with NAK, counted and raised,
does no more, and fences the port at the 64th within a second. A good frame does its work: JOIN stores the subtree, or is refused where a
65th worker would join, and completes the join after 64 echoes; JOIN_ACK makes port 0 ACTIVE after its 64 echoes, REFUSED where it says
so; an echo request is answered with the arrival and the departure; the first reply gives half the round trip; ALIGN sets the latency,
qualifies the reference and joins the mean, and a latency beyond the limit makes a port that is not yet ACTIVE LONG (log 116 names this
reading); a summary in time is merged; TRIGGER and IDLE are forwarded and taken in time; NAK is seen. Echo requests, ALIGN, summaries and
broadcasts leave at their times; a summary, an evaluation, a missed broadcast and the end of an echo wait act at the end of the core cycle
of their moment, after what arrives in it. The global sequencer takes a pick to its next state or decides a trigger. A lost lane takes the
port down, and a lost broadcast is counted. A SYNC edge is stamped in steps of 256 units. Rests on R409, R410, R411, R412, R414, R415,
R418, R419, R420, R421, R423, R424. -/
def Obligations.SkeinPortsFramesAndGlobalTriggers : Prop :=
  (∀ (p : Nat) (s : State), s.Sound →
      (p < 5 → s.portState p = 1 → Completes (.skeinPortTrained p) s fun t => t.portState p = 2 ∧ t.pends s.control 240 = true ∧
        (p = 0 → Output.skeinFrame 0 (frameOf fJoin [(48, 8, 1 + s.workersBelow)]) ∈ t.out)) ∧
      (5 ≤ p ∨ s.portState p ≠ 1 → Completes (.skeinPortTrained p) s fun t => t = s) ∧
      (p < 5 → s.portState p = 2 ∨ s.portState p = 3 → Completes (.skeinLaneLost p) s fun t => t.portState p = b2n (s.portMay p)) ∧
      CompletesAtEnd (.skeinEchoWaitTimeout p) s fun t => t.rd I.skEchoWait [p] = 0) ∧
    (∀ (p ofs : Nat) (bytes : List Byte) (c : Instr) (s : State), s.Sound → p < 5 → s.portState p = 2 ∨ s.portState p = 3 →
      s.frameReason p bytes ≠ 0 → c ∈ [.joinReceive p bytes, .echoRspReceive p bytes ofs, .summaryReceive p bytes, .nakReceive p bytes] →
      Completes c s fun t => t.pends s.control 243 = true ∧ t.rd F.SKN_PORT_STATUS.NAK_SEEN [p] = s.rd F.SKN_PORT_STATUS.NAK_SEEN [p] ∧
        Output.skeinFrame p (frameOf fNak [(32, 8, s.frameReason p bytes), (40, 8, frameType bytes), (64, 64, s.dt / 128 * 128)]) ∈ t.out ∧
        (s.rd F.SKN_PORT_VIOL.TOTAL [p] + 1 < 2 ^ 24 → t.rd F.SKN_PORT_VIOL.TOTAL [p] = s.rd F.SKN_PORT_VIOL.TOTAL [p] + 1) ∧
        (63 ≤ s.rd I.skViolN [p] → dtSub s.blk (s.rd I.skViol [p, (s.rd I.skViolPos [p] + 1) % 64]) < State.oneSecond → t.portState p = 4)) ∧
    (∀ (p ofs turn : Nat) (bytes : List Byte) (s : State), s.Sound → p < 5 → s.portState p = 2 ∨ s.portState p = 3 →
      s.frameReason p bytes = 0 →
      let v := frameBits bytes
      let n := v / 2 ^ 48 % 256
      let now : Instant := 4096 * s.blk + ofs % 524288
      let ack := fun refused : Nat => frameOf fJoinAck ([(16, 9, s.portPath p), (32, 8, s.skDepth + 1)] ++ if refused = 1 then [(40, 1, 1)] else [])
      let trip : Int := instDiff (instSub now (s.rd I.skEchoT1 [p]))
        (instSub (4096 * (v / 2 ^ 192 % 2 ^ 64) + v / 2 ^ 256 % 4096) (4096 * (v / 2 ^ 64 % 2 ^ 64) + v / 2 ^ 128 % 4096))
      (frameType bytes = fJoin → 0 < p → s.portState p = 2 →
        (s.skManager = true → 64 < s.workersBelow + n → Completes (.joinReceive p bytes) s fun t => t.portState p = 5 ∧
          Output.skeinFrame p (ack 1) ∈ t.out) ∧
        (s.skManager = false ∨ s.workersBelow + n ≤ 64 →
          (s.rd I.skEchoN [p] < 64 → Completes (.joinReceive p bytes) s fun t => t.portState p = 2 ∧
            t.rd F.SKN_PORT_STATUS.SUBTREE [p] = n % 128) ∧
          (64 ≤ s.rd I.skEchoN [p] → n % 128 ≠ 0 → 4096 * s.rd F.SKN_PORT_LAT.TICKS [p] + s.rd F.SKN_PORT_LAT.FRAC [p] ≤ 4096 * 38400 →
            Completes (.joinReceive p bytes) s fun t => t.portState p = 3 ∧ Output.skeinFrame p (ack 0) ∈ t.out))) ∧
      (frameType bytes = fEchoRsp → 0 < p →
        (s.rd I.skEchoWait [p] = 1 → v / 2 ^ 32 % 2 ^ 32 = s.rd I.skEchoId [p] → Completes (.echoRspReceive p bytes ofs) s fun t =>
          t.rd I.skEchoWait [p] = 0 ∧ (s.rd I.skEchoN [p] = 0 → s.rd I.skEchoPos [p] = 0 → 0 ≤ trip → trip < 2 ^ 70 →
            ((4096 * t.rd F.SKN_PORT_LAT.TICKS [p] + t.rd F.SKN_PORT_LAT.FRAC [p] : Nat) : Int) = roundDiv trip 2)) ∧
        (s.rd I.skEchoWait [p] = 0 → Completes (.echoRspReceive p bytes ofs) s fun t => t = s)) ∧
      (frameType bytes = fNak → Completes (.nakReceive p bytes) s fun t => t.rd F.SKN_PORT_STATUS.NAK_SEEN [p] = 1) ∧
      (frameType bytes = fEchoReq → p = 0 → Completes (.echoReqReceive bytes ofs turn) s fun t =>
        Output.skeinFrame 0 (frameOf fEchoRsp [(32, 32, v / 2 ^ 32 % 2 ^ 32), (64, 64, now / 4096), (128, 12, now % 4096),
          (192, 64, (now + turn) % 2 ^ 76 / 4096), (256, 12, (now + turn) % 2 ^ 76 % 4096)]) ∈ t.out)) ∧
    (∀ (bytes : List Byte) (s : State), s.Sound → s.portState 0 = 2 → s.frameReason 0 bytes = 0 → frameType bytes = fJoinAck →
      let v := frameBits bytes
      (bitAt v 40 = true → Completes (.joinAckReceive bytes) s fun t => t.portState 0 = 5) ∧
      (bitAt v 40 = false → s.rd I.skEchoN [0] < 64 → Completes (.joinAckReceive bytes) s fun t => t.portState 0 = 2 ∧ t.rd I.skAck [] = 1) ∧
      (bitAt v 40 = false → 64 ≤ s.rd I.skEchoN [0] → s.portMay 0 = true → Completes (.joinAckReceive bytes) s fun t => t.portState 0 = 3 ∧
        t.rd F.SKN_STATUS.PATH [] = v / 2 ^ 16 % 512 ∧ t.rd F.SKN_STATUS.DEPTH [] = v / 2 ^ 32 % 4 ∧ t.refState = 1 ∧
        t.rd F.XTO_STATUS.REF_PRESENT [] = 1 ∧ (s.rd I.skSeen [] = 0 → t.rd F.SKN_STATUS.JOIN_STEP_PENDING [] = 1))) ∧
    (∀ (p ofs : Nat) (s : State), s.Sound → 0 < p → p < 5 →
      let now : Instant := 4096 * s.blk + ofs % 524288
      let id := (s.rd I.skEchoId [p] + 1) % 2 ^ 32
      (s.portState p = 2 ∨ s.portState p = 3 → s.rd I.skEchoAt [p] = 0 ∨ s.elapsed (s.rd I.skEchoAt [p]) 1250000 = true →
        Completes (.echoReqSend p ofs) s fun t => t.rd I.skEchoWait [p] = 1 ∧ t.rd I.skEchoId [p] = id ∧
          Output.skeinFrame p (frameOf fEchoReq [(32, 32, id), (64, 64, now / 4096), (128, 12, now % 4096)]) ∈ t.out) ∧
      (s.portState p = 3 → s.blk % 1600000 = 0 → Completes (.alignSend p ofs) s fun t =>
        Output.skeinFrame p (frameOf fAlign [(64, 64, now / 4096), (128, 12, now % 4096), (160, 64, s.rd F.SKN_PORT_LAT.TICKS [p]),
          (224, 12, s.rd F.SKN_PORT_LAT.FRAC [p]), (240, 1, b2n (64 ≤ s.rd I.skEchoN [p]))]) ∈ t.out) ∧
      (s.portState p ≠ 3 ∨ s.blk % 1600000 ≠ 0 → Completes (.alignSend p ofs) s fun t => t = s)) ∧
    (∀ (bytes : List Byte) (ofs : Nat) (s : State), s.Sound → s.portState 0 = 2 ∨ s.portState 0 = 3 → s.frameReason 0 bytes = 0 → frameType bytes = fAlign →
      let v := frameBits bytes
      let lat := 4096 * (v / 2 ^ 160 % 2 ^ 64) + v / 2 ^ 224 % 4096
      (s.portState 0 = 2 → bitAt v 240 = true → 4096 * 38400 < lat → Completes (.alignReceive bytes ofs) s fun t => t.portState 0 = 6) ∧
      (s.portState 0 = 3 → bitAt v 240 = false → Completes (.alignReceive bytes ofs) s fun t => t.rd I.skAlign [] = s.now % 2 ^ 128 ∧
        t.rd F.XTO_STATUS.REF_PRESENT [] = 1 ∧ t.rd I.skErrN [] = s.rd I.skErrN []) ∧
      (s.portState 0 = 3 → bitAt v 240 = true → s.rd I.skErrN [] + 1 < 1000 → Completes (.alignReceive bytes ofs) s fun t =>
        t.rd F.SKN_PORT_LAT.TICKS [0] = lat / 4096 ∧ t.rd F.SKN_PORT_LAT.FRAC [0] = lat % 4096 ∧ t.rd I.skErrN [] = s.rd I.skErrN [] + 1)) ∧
    (∀ s : State, s.Sound → s.portState 0 = 3 → s.elapsed (s.rd I.skAlign []) 125000 = true → s.rd F.XTO_STATUS.REF_PRESENT [] = 1 →
      Completes .alignTimeout s fun t => t.rd F.XTO_STATUS.REF_PRESENT [] = 0 ∧ (s.refState ≠ 0 → t.refState = 3)) ∧
    (∀ (p : Nat) (bytes : List Byte) (s : State), s.Sound → 0 < p → p < 5 → s.portState p = 3 → s.frameReason p bytes = 0 → frameType bytes = fSummary →
      let v := frameBits bytes
      let period := v / 2 ^ 64 % 2 ^ 64
      let late := afterMark (s.rd I.skSent []) period = false ∨ s.due (s.summaryTime period) = true ∧ s.lands (s.summaryTime period) = false
      Completes (.summaryReceive p bytes) s fun t => t.rd F.SKN_PORT_STATUS.SUBTREE [p] = v / 2 ^ 48 % 128 ∧
        (late → t.summaries = s.summaries) ∧ (¬late → ∃ x ∈ t.summaries, x.period = period ∧ p ∈ x.taken)) ∧
    (∀ (period : Nat) (s : State), s.Sound → s.closing = false →
      (s.lands (s.summaryTime period) = true → Completes (.summarySend period) s fun t => t = s.book (.summarySend period)) ∧
      (s.lands (dtAdd period 125440) = true → Completes (.gseqEvaluate period) s fun t => t = s.book (.gseqEvaluate period)) ∧
      (s.lands (s.broadcastTime period) = true → Completes (.broadcastDeadline period) s fun t => t = s.book (.broadcastDeadline period))) ∧
    (∀ (period : Nat) (s : State), s.Sound → s.skWorker = true → period % 1024 = 0 → afterMark (s.rd I.skSent []) period = true →
      s.due (s.summaryTime period) = true → s.closing = true ∨ s.lands (s.summaryTime period) = false → Completes (.summarySend period) s fun t => t.rd I.skSent [] = markAt (period + 1024) ∧
        (∀ x ∈ t.summaries, dtGe period x.period = false) ∧ (s.portState 0 = 3 → ∃ f : List (Nat × Nat × Nat),
          Output.skeinFrame 0 (frameOf fSummary f) ∈ t.out ∧ (64, 64, period) ∈ f ∧
          (32, 16, ((s.summaries.find? fun x => x.period == period).getD (Summary.empty period)).fire) ∈ f)) ∧
    (∀ (period : Nat) (s : State), s.Sound → s.skManager = true → period % 1024 = 0 → afterMark (s.rd I.skSent []) period = true →
      s.due (dtAdd period 125440) = true → s.closing = true ∨ s.lands (dtAdd period 125440) = false →
      let m := (s.summaries.find? fun x => x.period == period).getD (Summary.empty period)
      let st := s.rd F.SKN_GSEQ_STATUS.STATE []
      let pick := (State.seqPick (s.rd F.GSEQ_STATE.ADV_MASK [st]) (s.rd F.GSEQ_STATE.RST_MASK [st]) (s.rd F.GSEQ_STATE.QUAL [st])
        (s.rd F.GSEQ_STATE.QUAL_VALUE [st]) (s.rd I.gsEntry []) (s.gseqFires m) (s.rd I.gsCount []) false).1
      let next := s.rd F.GSEQ_STATE.NEXT [st]
      Completes (.gseqEvaluate period) s (fun t => t.rd I.skSent [] = markAt (period + 1024)) ∧
      (s.rd F.SKN_GSEQ_CTRL.RUN [] = 0 → Completes (.gseqEvaluate period) s fun t => t.rd F.SKN_GSEQ_STATUS.STATE [] = st) ∧
      (s.rd F.SKN_GSEQ_CTRL.RUN [] = 1 → s.rd I.gsDead [] ≠ 0 → Completes (.gseqEvaluate period) s fun t =>
        t.rd I.gsDead [] = (s.rd I.gsDead [] - 1) % 4 ∧ t.rd F.SKN_GSEQ_STATUS.STATE [] = st) ∧
      (s.rd F.SKN_GSEQ_CTRL.RUN [] = 1 → s.rd I.gsDead [] = 0 →
        (pick = none → s.gseqDeadline period = none → Completes (.gseqEvaluate period) s fun t => t.rd F.SKN_GSEQ_STATUS.STATE [] = st) ∧
        ∀ f : TermFire, pick = some f →
          (bitAt (s.rd F.GSEQ_STATE.RST_MASK [st]) f.term = true → Completes (.gseqEvaluate period) s fun t =>
            t.rd F.SKN_GSEQ_STATUS.STATE [] = s.rd F.GSEQ_STATE.RST_TO [st] % 16) ∧
          (bitAt (s.rd F.GSEQ_STATE.RST_MASK [st]) f.term = false → s.rd F.GSEQ_STATE.ENTRY [next] ≠ 1 → Completes (.gseqEvaluate period) s fun t =>
            t.rd F.SKN_GSEQ_STATUS.STATE [] = next % 16 ∧ t.rd I.gsEntry [] = f.dt % 2 ^ 76) ∧
          (bitAt (s.rd F.GSEQ_STATE.RST_MASK [st]) f.term = false → s.rd F.GSEQ_STATE.ENTRY [next] = 1 → s.rd I.gsHold [] = 0 →
            Completes (.gseqEvaluate period) s fun t => t.rd F.SKN_GSEQ_STATUS.STATE [] = 0 ∧ t.rd I.gtOn [period / 1024 % 32] = 1 ∧
              t.rd I.gtDt [period / 1024 % 32] = f.dt % 2 ^ 76 ∧ t.rd I.gsDead [] = 2))) ∧
    (∀ (period : Nat) (s : State), s.Sound → s.skManager = true → period % 1024 = 0 → afterMark (s.rd I.skBcast []) period = true →
      s.due (dtAdd period 140800) = true →
      let k := period / 1024 % 32
      Completes (.broadcastSend period) s fun t => t.rd I.skBcast [] = markAt (period + 1024) ∧ t.rd I.gtOn [k] = 0 ∧
        (s.rd I.gtOn [k] = 0 → ∀ q ∈ s.portsBelow, Output.skeinFrame q (frameOf fIdle [(32, 32, s.rd I.gtSeq []), (64, 64, period)]) ∈ t.out) ∧
        (s.rd I.gtOn [k] ≠ 0 → t.rd I.gtSeq [] = (s.rd I.gtSeq [] + 1) % 2 ^ 32 ∧ ∀ q ∈ s.portsBelow, ∃ f : List (Nat × Nat × Nat),
          Output.skeinFrame q (frameOf fTrigger f) ∈ t.out ∧ (64, 64, period) ∈ f ∧ (128, 64, s.rd I.gtDt [k] / 4096) ∈ f)) ∧
    (∀ (bytes : List Byte) (c : Instr) (s : State), s.Sound → s.portState 0 = 3 → s.frameReason 0 bytes = 0 →
      frameType bytes = fTrigger ∧ c = .triggerFrameReceive bytes ∨ frameType bytes = fIdle ∧ c = .idleFrameReceive bytes →
      let v := frameBits bytes
      let period := v / 2 ^ 64 % 2 ^ 64
      let late := s.due (s.broadcastTime period) = true ∧ s.lands (s.broadcastTime period) = false
      Completes c s fun t => (∀ q ∈ s.portsBelow, Output.skeinFrame q (bytes.take 64) ∈ t.out) ∧
        (late → t.rd I.skBcast [] = s.rd I.skBcast []) ∧
        (¬late → t.rd I.skBcast [] = markAt (period + 1024) ∧ t.rd I.gtSeq [] = v / 2 ^ 32 % 2 ^ 32 ∧ t.rd I.skMiss [] = 0 ∧
          (frameType bytes = fTrigger → s.rd F.SKN_CTRL.GTRIG_EVT_EN [] = 1 → t.pends s.control 245 = true))) ∧
    (∀ (period : Nat) (s : State), s.Sound → s.portState 0 = 3 → period % 1024 = 0 → afterMark (s.rd I.skBcast []) period = true →
      s.due (s.broadcastTime period) = true → s.closing = true ∨ s.lands (s.broadcastTime period) = false → s.rd I.skMiss [] + 1 < 1024 → Completes (.broadcastDeadline period) s fun t =>
        t.rd F.SKN_PORT_STATUS.BCAST_MISS [0] = 1 ∧ t.rd I.skMiss [] = s.rd I.skMiss [] + 1) ∧
    (∀ (ofs : Nat) (s : State), s.Sound → s.skWorker = true → s.mode ≠ .hold → s.mode ≠ .vigil → Completes (.skeinSyncReceive ofs) s fun t =>
      t.rd F.SKN_SYNC_RX.TICKS [] = (s.blk + ofs % 524288 / 4096) % 2 ^ 64 ∧ t.rd F.SKN_SYNC_RX.FRAC [] = ofs % 4096 / 256 * 256 ∧
      t.pends s.control 244 = true) ∧
    (∀ (d v : Nat) (s : State), s.Sound → s.hostReach d = true → s.dieRetired s.control = false →
      (s.rd F.SKN_GSEQ_CTRL.RUN [] = 1 → Completes (.sknGseqRunWrite d v) s fun t => t.rd F.SKN_GSEQ_CTRL.RUN [] = v / 16 % 2 ∧
        t.rd F.SKN_GSEQ_CTRL.LAST [] = s.rd F.SKN_GSEQ_CTRL.LAST [] ∧
        (v % 16 ≠ s.rd F.SKN_GSEQ_CTRL.LAST [] → t.rd F.SKN_STATUS.CFG_REJECT [] = 1)) ∧
      (s.rd F.SKN_GSEQ_CTRL.RUN [] = 0 → bitAt v 4 = false → Completes (.sknGseqRunWrite d v) s fun t => t.rd F.SKN_GSEQ_CTRL.LAST [] = v % 16) ∧
      (s.rd F.SKN_GSEQ_CTRL.RUN [] = 0 → bitAt v 4 = true → v % 16 = s.rd F.SKN_GSEQ_CTRL.LAST [] →
        let check := if s.skManager then s.gseqCheck else 0x0231
        Completes (.sknGseqRunWrite d v) s fun t => t.rd F.SKN_GSEQ_STATUS.ARM_CHECK [] = check ∧
          t.rd F.SKN_GSEQ_CTRL.RUN [] = (if check = 0 then 1 else 0) ∧ (check = 0 → t.rd F.SKN_GSEQ_STATUS.STATE [] = 0)))

/-- The console of the service port answers and acts as R426 to R434 and R441 say. For every sound state. In HOLD the boot ROM answers
SENSORS, SERVICE, WAKE, REFIT and LOCK with ERR 0x0400, and a locked port answers SERVICE, WAKE, REFIT and an ATB point outside R433 with
ERR 0x0241. Else HELP, VERSION, STATUS and SENSORS answer OK with what R430 lists; a line of more than 255 characters is answered ERR
0x0100; ECHO sets the echo; SERVICE ENTER and EXIT begin their transitions on both dies or answer the code of R35; WAKE begins VIGIL to
READY with its cause; REFIT needs a reference and an idle loop, and starts where it is admitted and free; BAUD sets one of seven rates,
which falls back after 10 s; UNLOCK gives a challenge, unlocks on the right answer in time, refuses a wrong one, and the third wrong one
within 10 minutes suspends it for 60 s; LOCK locks a port that its maker locks; ATB routes a point that R441 lists. Rests on R35, R45,
R370, R374, R428, R429, R430, R431, R433, R434, R441, R444. -/
def Obligations.ConsoleOfTheServicePort : Prop :=
  (∀ (f : Bool) (s : State), s.Sound →
      let prompt := crlf ++ (if s.mode = .hold then ascii "MV4-ROM> " else ascii "MV4> ")
      let ok := fun (text : List Byte) (t : State) => Output.uart (ascii "OK" ++ text ++ prompt) ∈ t.out
      let err := fun (code : Nat) (t : State) => Output.uart (ascii "ERR 0x" ++ hexPad 4 code ++ ascii " " ++ ascii (codeName code) ++ prompt) ∈ t.out
      (∀ c : Instr, s.mode = .hold → c ∈ [.consoleSensors, .serviceEnter f, .serviceExit, .consoleWake, .refit, .consoleLock] →
        Completes c s fun t => err 0x0400 t ∧ ∀ k : RegKey, k.reg ≠ .i_svcBaudWait → t.regs.get k = s.regs.get k) ∧
      (∀ c : Instr, s.mode ≠ .hold → s.rd F.SVC_STATUS.LOCKED [] = 1 → c ∈ [.serviceEnter f, .serviceExit, .consoleWake, .refit] →
        Completes c s fun t => err 0x0241 t ∧ ∀ k : RegKey, k.reg ≠ .i_svcBaudWait → t.regs.get k = s.regs.get k) ∧
      Completes .consoleHelp s (ok (ascii " HELP VERSION STATUS SENSORS SERVICE WAKE TEST ATB REFIT BAUD ECHO UNLOCK LOCK")) ∧
      Completes .consoleVersion s (ok (ascii " " ++ (s.versionBytes s.control).flatMap fun b => hexPad 2 b.toNat)) ∧
      Completes .consoleStatus s (ok s.statusText) ∧
      (s.mode ≠ .hold → Completes .consoleSensors s (ok s.sensorText)) ∧
      Completes .consoleUnknownCommand s (err 0x0400) ∧
      Completes .consoleEchoOn s (fun t => ok [] t ∧ t.rd I.svcEcho [] = 1) ∧
      Completes .consoleEchoOff s (fun t => ok [] t ∧ t.rd I.svcEcho [] = 0) ∧
      (∀ chars : List Byte, (∀ x ∈ chars, x ∉ [0x08, 0x7F, 0x0A, 0x0D]) → Completes (.consoleLine chars) s fun t =>
        (255 < chars.length → err 0x0100 t) ∧ (s.rd I.svcEcho [] ≠ 0 → Output.uart chars ∈ t.out) ∧ t.rd I.svcBaudWait [] = 0) ∧
      (∀ rate : Nat, rate ∉ [115200, 230400, 460800, 921600, 1000000, 2000000, 3000000] → Completes (.consoleBaud rate) s (err 0x0100)) ∧
      (∀ k rate : Nat, [115200, 230400, 460800, 921600, 1000000, 2000000, 3000000][k]? = some rate → Completes (.consoleBaud rate) s fun t =>
        ok [] t ∧ t.rd F.SVC_STATUS.BAUD [] = k ∧ t.rd I.svcBaudWait [] = 1) ∧
      (s.mode ≠ .hold → Completes .consoleLock s fun t => ok [] t ∧
        t.rd F.SVC_STATUS.LOCKED [] = if Config.lockEnable % 2 = 1 then 1 else s.rd F.SVC_STATUS.LOCKED []) ∧
      (∀ a point index : Nat,
        (s.rd F.SVC_STATUS.LOCKED [] = 1 → State.atbWhenLocked point = false → Completes (.consoleAtb a point index) s (err 0x0241)) ∧
        (s.rd F.SVC_STATUS.LOCKED [] = 0 ∨ State.atbWhenLocked point = true →
          (2 ≤ a → Completes (.consoleAtb a point index) s (err 0x0100)) ∧
          (a < 2 → s.dieRetired a = true → Completes (.consoleAtb a point index) s (err 0x020A)) ∧
          (a < 2 → s.dieRetired a = false → s.atbOk a point index = false → Completes (.consoleAtb a point index) s (err 0x0100)) ∧
          (a < 2 → s.dieRetired a = false → s.atbOk a point index = true → Completes (.consoleAtb a point index) s fun t => ok [] t ∧
            t.rd F.SVC_ATB.POINT [a] = point ∧ t.rd F.SVC_ATB.INDEX [a] = index)) ∧
        (s.rd F.SVC_STATUS.LOCKED [] = 0 → a < 2 → s.dieRetired a = false → Completes (.consoleAtbOff a) s fun t => ok [] t ∧
          t.rd F.SVC_ATB.POINT [a] = 0xFF ∧ t.rd F.SVC_ATB.INDEX [a] = 0)) ∧
      (s.mode ≠ .hold → s.rd F.SVC_STATUS.LOCKED [] = 0 →
        (s.inTransition = true → Completes (.serviceEnter f) s (err 0x0225)) ∧
        (s.inTransition = false → s.combAnywhere = true → Completes (.serviceEnter f) s (err 0x0214)) ∧
        (s.inTransition = false → s.combAnywhere = false → s.mode = .service ∨ s.mode.acquires = true ∧ f = false → Completes (.serviceEnter f) s (err 0x0200)) ∧
        (s.inTransition = false → s.combAnywhere = false → s.mode ≠ .service → s.mode.acquires = false ∨ f = true →
          Completes (.serviceEnter f) s fun t => ok [] t ∧ ∀ d : Nat, d < 2 → t.rd F.PWR_MODE.TRANSITION [d] = 1 ∧ t.rd F.PWR_MODE.TARGET [d] = 2) ∧
        (s.combAnywhere = true → Completes .serviceExit s (err 0x0214)) ∧
        (s.combAnywhere = false → s.testRuns = true → Completes .serviceExit s (err 0x0240)) ∧
        (s.combAnywhere = false → s.testRuns = false → s.inTransition = true → Completes .serviceExit s (err 0x0225)) ∧
        (s.combAnywhere = false → s.testRuns = false → s.inTransition = false → s.mode ≠ .service → Completes .serviceExit s (err 0x0200)) ∧
        (s.combAnywhere = false → s.testRuns = false → s.inTransition = false → s.mode = .service → Completes .serviceExit s fun t => ok [] t ∧
          ∀ d : Nat, d < 2 → t.rd F.PWR_MODE.TRANSITION [d] = 1 ∧ t.rd F.PWR_MODE.TARGET [d] = 3) ∧
        (Completes .consoleWake s fun t => ok [] t ∧ (s.mode = .vigil → s.inTransition = false → t.rd F.PWR_WAKE_CAUSE.CAUSE [] = 8 ∧
          ∀ d : Nat, d < 2 → t.rd F.PWR_MODE.TRANSITION [d] = 1 ∧ t.rd F.PWR_MODE.TARGET [d] = 3)) ∧
        (s.rd F.XTO_STATUS.REF_PRESENT [] = 0 ∨ s.refEnabled = true → Completes .refit s fun t => err 0x0100 t ∧ t.pends s.control 29 = true) ∧
        (s.rd F.XTO_STATUS.REF_PRESENT [] = 1 → s.refEnabled = false → Completes .refit s fun t => ok [] t ∧
          (s.rd F.PWR_STATUS.THERMAL [s.control] = 0 → s.fits [0, 1] 0 (s.cost 14) = true → s.claimGoes ⟨.refit, 6, s.control, [10]⟩ = true → t.runs .refit = true)))) ∧
    (∀ (r : Nat) (s : State), s.Sound →
      let inTime := s.rd I.svcChalOn [] = 1 ∧ s.elapsed (s.rd I.svcChalAt []) (120 * 1250000000) = false
      (s.rd F.SVC_STATUS.LOCKOUT [] = 0 → Completes (.consoleUnlock none) s fun t => t.rd I.svcChalOn [] = 1 ∧
        ∃ b : List Byte, Output.uart (ascii "OK" ++ (ascii " CHALLENGE " ++ hexPad 8 (t.rd I.svcChal [])) ++ b) ∈ t.out) ∧
      (s.rd F.SVC_STATUS.LOCKOUT [] = 0 → Completes (.consoleUnlock (some r)) s fun t => t.rd I.svcChalOn [] = 0 ∧
        t.rd F.SVC_STATUS.LOCKED [] =
          if s.rd I.svcChalOn [] ≠ 0 ∧ s.elapsed (s.rd I.svcChalAt []) (120 * 1250000000) = false ∧ r = s.unlockAnswer then 0
          else s.rd F.SVC_STATUS.LOCKED []) ∧
      (s.rd F.SVC_STATUS.LOCKOUT [] = 0 → inTime → r ≠ s.unlockAnswer →
        (s.rd I.svcWrongN [] = 0 → Completes (.consoleUnlock (some r)) s fun t => t.rd I.svcWrongN [] = 1 ∧ t.rd F.SVC_STATUS.LOCKOUT [] = 0) ∧
        (s.rd I.svcWrongN [] = 2 → (∀ k : Nat, k < 2 → s.elapsed (s.rd I.svcWrongAt [k]) (600 * 1250000000) = false) →
          Completes (.consoleUnlock (some r)) s fun t => t.rd F.SVC_STATUS.LOCKOUT [] = 1 ∧ t.pends s.control 250 = true)) ∧
      (s.rd F.SVC_STATUS.LOCKOUT [] = 1 → Completes (.consoleUnlock (some r)) s fun t =>
        t.rd F.SVC_STATUS.LOCKED [] = s.rd F.SVC_STATUS.LOCKED [] ∧ t.rd F.SVC_STATUS.LOCKOUT [] = 1)) ∧
    (∀ s : State, s.Sound →
      (s.rd I.svcBaudWait [] = 1 → s.elapsed (s.rd I.svcBaudAt []) (10 * 1250000000) = true → Completes .baudFallback s fun t =>
        t.rd F.SVC_STATUS.BAUD [] = 0 ∧ t.rd I.svcBaudWait [] = 0) ∧
      (s.rd I.svcBaudWait [] = 0 → Completes .baudFallback s fun t => t = s) ∧
      (s.rd F.SVC_STATUS.LOCKOUT [] = 1 → s.elapsed (s.rd I.svcLockAt []) (60 * 1250000000) = true → Completes .unlockLockoutEnd s fun t =>
        t.rd F.SVC_STATUS.LOCKOUT [] = 0 ∧ t.pends s.control 250 = true) ∧
      (s.rd F.SVC_STATUS.LOCKOUT [] = 0 → Completes .unlockLockoutEnd s fun t => t = s))

/-- Service tests start, ask, judge and end as R435 to R444 say. For every sound state. TEST n answers ERR 0x0100 outside 1 to 240 and for
kind P, 0x0241 above 44 while locked, 0x0240 while a test runs, 0x0242 in a mode its kind may not run in; else it ends SKIP where a
condition it needs is absent, waits for its admission or its first reading, or runs. TEST n v of kind P passes from 97 to 103 ohms and
fails else with locus BOARD or PACKAGE as R443 gives it. A reading outside the limits of its step fails the test, the last one within them
passes it, another asks for the next. A test whose outcome a register shows takes it from there, another takes the outcome that its steps
gave. Not admitted within 10 s, without a reading for 300 s or with an empty line a test ends SKIP; at 600 s it ends FAIL, and at 0x03
ABORTED, at the end of the core cycle, so that a completion of it stands. Every end shows the result in SVC_RESULT, clears TEST_RUN and
sets the pending bit of SVC_TEST. SVC_ATB takes a valid selection outside SERVICE, else it sets REJECT. Rests on R430, R433, R435, R436,
R437, R439, R440, R442, R443, R444. -/
def Obligations.ServiceTests : Prop :=
  (∀ (n v : Nat) (s : State), s.Sound →
      let prompt := crlf ++ (if s.mode = .hold then ascii "MV4-ROM> " else ascii "MV4> ")
      let err := fun (code : Nat) (t : State) => Output.uart (ascii "ERR 0x" ++ hexPad 4 code ++ ascii " " ++ ascii (codeName code) ++ prompt) ∈ t.out
      let inRange := 1 ≤ n ∧ n ≤ 240
      let unlocked := s.rd F.SVC_STATUS.LOCKED [] = 0
      (¬inRange → Completes (.consoleTest n) s (err 0x0100) ∧ Completes (.consoleTestReading n v) s (err 0x0100)) ∧
      (inRange → 44 < n → ¬unlocked → Completes (.consoleTest n) s (err 0x0241)) ∧
      (inRange → n ≤ 44 ∨ unlocked → s.testRuns = true → Completes (.consoleTest n) s (err 0x0240)) ∧
      (inRange → n ≤ 44 ∨ unlocked → s.testRuns = false →
        (testKind n = .P → Completes (.consoleTest n) s (err 0x0100)) ∧
        (testKind n ≠ .P → s.testAllowed n = false → Completes (.consoleTest n) s (err 0x0242)) ∧
        (s.testAllowed n = true → s.testLacks n = true → Completes (.consoleTest n) s fun t => t.rd F.SVC_RESULT.RESULT [n] = 3 ∧
          t.rd F.SVC_STATUS.TEST_RUN [] = 0 ∧ t.pends s.control 249 = true) ∧
        (s.testAllowed n = true → s.testLacks n = false → testKind n ≠ .S → Completes (.consoleTest n) s fun t =>
          t.rd F.SVC_STATUS.TEST_RUN [] = 1 ∧ t.rd F.SVC_STATUS.TEST_NUM [] = n ∧ (s.meterSteps n ≠ [] → t.rd I.svcTestWait [] = 2)) ∧
        (s.testAllowed n = true → s.testLacks n = false → testKind n = .S → s.fits [0, 1] (s.testCost n).1 (s.testCost n).2 = false →
          Completes (.consoleTest n) s fun t => t.rd F.SVC_STATUS.TEST_RUN [] = 1 ∧ t.rd F.SVC_STATUS.TEST_NUM [] = n ∧
            t.rd I.svcTestWait [] = 1)) ∧
      (inRange → testKind n ≠ .P → Completes (.consoleTestReading n v) s (err 0x0100)) ∧
      (testKind n = .P → ¬unlocked → Completes (.consoleTestReading n v) s (err 0x0241)) ∧
      (testKind n = .P → unlocked → s.testRuns = false → Completes (.consoleTestReading n v) s fun t =>
        t.rd F.SVC_RESULT.RESULT [n] = (if 97000 ≤ v ∧ v ≤ 103000 then 1 else 2) ∧
        t.rd F.SVC_RESULT.LOCUS [n] = (if 97000 ≤ v ∧ v ≤ 103000 then 0 else 2) ∧ t.pends s.control 249 = true)) ∧
    (∀ (result locus unit : Nat) (taps : List (Nat × CombTap)) (subs : List (Nat × Nat × Nat × Nat)) (s : State), s.Sound →
      let n := s.rd F.SVC_STATUS.TEST_NUM []
      let c : Instr := .testComplete result locus unit taps subs
      (s.testSteps = false → Completes c s fun t => t = s) ∧
      (s.testSteps = true → Completes c s (fun t => t.rd F.SVC_STATUS.TEST_RUN [] = 0 ∧ t.pends s.control 249 = true) ∧
        (∀ r : Nat × Nat × Nat, s.testJudged n = some r → Completes c s fun t => t.rd F.SVC_RESULT.RESULT [n] = r.1 % 8 ∧
          t.rd F.SVC_RESULT.LOCUS [n] = r.2.1 % 4 ∧ t.rd F.SVC_RESULT.UNIT [n] = r.2.2 % 2 ^ 15) ∧
        (n ≠ 240 → s.testJudged n = none → Completes c s fun t => t.rd F.SVC_RESULT.RESULT [n] = result % 8 ∧
          t.rd F.SVC_RESULT.LOCUS [n] = locus % 4 ∧ t.rd F.SVC_RESULT.UNIT [n] = unit % 2 ^ 15) ∧
        (n = 240 → Completes c s fun t => t.rd F.SVC_RESULT.RESULT [n] = if ∃ x ∈ subs, x.2.1 = 2 then 2 else 1))) ∧
    (∀ (reading : Option Int) (s : State), s.Sound → s.testRuns = true → s.rd I.svcTestWait [] = 2 →
      let n := s.rd F.SVC_STATUS.TEST_NUM []
      let k := s.rd I.svcMeterN []
      let ends := fun (result : Nat) (t : State) => t.rd F.SVC_RESULT.RESULT [n] = result ∧ t.rd F.SVC_STATUS.TEST_RUN [] = 0 ∧
        t.pends s.control 249 = true
      (reading = none → Completes (.meterReading reading) s (ends 3)) ∧
      (∀ (v : Int) (m : MeterStep), reading = some v → (s.meterSteps n)[k]? = some m →
        (v < m.low ∨ m.high < v → Completes (.meterReading reading) s (ends 2)) ∧
        (m.low ≤ v → v ≤ m.high → (s.meterSteps n)[k + 1]? = none → State.measuresItself n = false → Completes (.meterReading reading) s (ends 1)) ∧
        (m.low ≤ v → v ≤ m.high → (s.meterSteps n)[k + 1]? ≠ none → Completes (.meterReading reading) s fun t =>
          t.rd I.svcMeterN [] = (k + 1) % 8 ∧ t.rd F.SVC_STATUS.TEST_RUN [] = s.rd F.SVC_STATUS.TEST_RUN [])) ∧
      (s.elapsed (s.rd I.svcMeterAt []) (300 * 1250000000) = true → Completes .meterWaitTimeout s (ends 3))) ∧
    (∀ s : State, s.Sound →
      let n := s.rd F.SVC_STATUS.TEST_NUM []
      let ends := fun (result : Nat) (t : State) => t.rd F.SVC_RESULT.RESULT [n] = result ∧ t.rd F.SVC_STATUS.TEST_RUN [] = 0 ∧
        t.pends s.control 249 = true
      (s.testRuns = true →
        (s.rd I.svcTestWait [] = 1 → s.elapsed (s.rd I.svcTestAt []) (10 * 1250000000) = true → Completes .testAdmissionTimeout s (ends 3)) ∧
        (s.elapsed (s.rd I.svcTestAt []) (600 * 1250000000) = true → CompletesAtEnd .testTimeLimit s (ends 2)) ∧
        (s.rd I.testDone [] ≠ s.now + 1 → CompletesAtEnd .testAbortChar s (ends 4))) ∧
      (s.testRuns = false → Completes .testAdmissionTimeout s (fun t => t = s) ∧ Completes .testTimeLimit s (fun t => t = s) ∧
        Completes .testAbortChar s (fun t => t = s) ∧ Completes .meterWaitTimeout s fun t => t = s)) ∧
    (∀ (d v : Nat) (s : State), s.Sound → s.hostReach d = true →
      let point := v % 256
      let index := v / 256 % 256
      (s.mode = .service ∨ s.atbOk d point index = false → Completes (.svcAtbWrite d v) s fun t => t.rd F.SVC_ATB.REJECT [d] = 1 ∧
        t.rd F.SVC_ATB.POINT [d] = s.rd F.SVC_ATB.POINT [d]) ∧
      (s.mode ≠ .service → s.atbOk d point index = true → s.rd I.atbBy [d] ≠ s.now + 1 → Completes (.svcAtbWrite d v) s fun t => t.rd F.SVC_ATB.POINT [d] = point ∧
        t.rd F.SVC_ATB.INDEX [d] = index ∧ (bitAt v 16 = true → s.freshOf F.SVC_ATB.REJECT [d] = 0 → t.rd F.SVC_ATB.REJECT [d] = 0)))

/-- An access to BAR0 does what the access codes and the register's own command say, and the pending DT step applies as R51 to R53 say. For
every sound state. An access that does not reach the die changes nothing. A write or read of another size or alignment than an aligned
word is logged as violation 0x0408, the read answered with all ones; a written word of HIST or ACCUM as 0x040A, one of a private queue as
0x0405. A read of a reserved offset answers 0; another read answers the word its fields show, and clears each RC field to what the
hardware counts in that very cycle. A word at a reserved offset changes nothing. A register whose writes act from the next block waits for
the end of the core cycle. A word of a register without an effect of its own sets each RW or RWS field that has bits in it to the value
written, unless the value is outside the field's range, and clears each bit of a W1C field to which 1 is written, but for bits that the
hardware sets in that cycle. A word of a register that has a command of its own does what that command does. The pending step applies
where a step is pending, the reference is present and no channel is armed: DT with its fraction moves by the negated error, modulo 2^76,
XTO_STEP_AT, XTO_STEP_TICKS and XTO_STEP_FRAC report it, STEP_PENDING is 0 and source 28 is pending; else nothing changes. Rests on R6,
R7, R8, R10, R51, R53, R238, R309, R334, R480, 20_address_map, 95_what_each_step_holds. -/
def Obligations.RegisterWritesAndTheTimeStep : Prop :=
  (∀ (d off size : Nat) (v : Option Nat) (s : State), s.Sound → s.hostReach d = false → Completes (.registerWrite d off size v) s fun t => t = s) ∧
    (∀ (d off size v : Nat) (s : State), s.Sound → s.hostReach d = true →
      (size ≠ 4 ∨ off % 4 ≠ 0) → (off < 0x3800000 ∨ 0x3804080 ≤ off ∨ size ≠ 8 ∨ off % 8 ≠ 0) →
      Completes (.registerWrite d off size v) s (fun t => s.logged t d 0x0408 State.vlogNone) ∧
      Completes (.registerWrite d off size none) s fun t => s.logged t d 0x0408 State.vlogNone ∧
        Output.readData d (List.replicate size 255) ∈ t.out) ∧
    (∀ (d off : Nat) (s : State), s.Sound → s.hostReach d = true → off % 4 = 0 →
      let c : Instr := .registerWrite d off 4 none
      (regAt off = none → Completes c s fun t => t = s.emit (.readData d (le 4 0))) ∧
      (∀ (r : Reg) (j : List Nat) (w : Nat), regAt off = some (r, j, w) →
        (r.perPackage = true → r.mirrored = false → s.dieRetired s.control = true → Completes c s fun t =>
          t = s.emit (.readData d (le 4 (2 ^ 32 - 1)))) ∧
        (r.perPackage = false ∨ r.mirrored = true ∨ s.dieRetired s.control = false →
          r ∉ [Reg.HIST, .ACCUM, .COST, .TIM_RES, .MBX_RING_STAT, .SKN_PORT_VIOL] →
          let ix := if r.perPackage = true then j else d :: j
          Completes c s fun t => t.out = s.out ++ [.readData d (le 4 (s.wordRead r ix w))] ∧
            ∀ i ∈ r.fields, inWord i.fld w = true → t.rd i.fld ix = if i.acc = .RC then min (s.rd i.fld ix) (s.freshOf i.fld ix) else s.rd i.fld ix))) ∧
    (∀ (d off v : Nat) (s : State), s.Sound → s.hostReach d = true → off % 4 = 0 →
      let c : Instr := .registerWrite d off 4 v
      (regAt off = none → Completes c s fun t => t = s) ∧
      (∀ (r : Reg) (j : List Nat) (w : Nat), regAt off = some (r, j, w) →
        (r = .HIST ∨ r = .ACCUM → Completes c s fun t => s.logged t d 0x040A State.vlogNone) ∧
        (r.ofQueue = true → queueKind (j.getD 0 0) = 6 → Completes c s fun t => s.logged t d 0x0405 State.vlogNone) ∧
        (r.perPackage = true → r.mirrored = false → s.dieRetired s.control = true → Completes c s fun t => t = s) ∧
        (r.fromNextBlock = true → (r.ofQueue = false ∨ queueKind (j.getD 0 0) ≠ 6) → r.perPackage = false ∨ r.mirrored = true ∨ s.dieRetired s.control = false →
          s.closing = false → (State.writeReg d r j w v s).2 = 0 → Completes c s fun t => t = s.book c) ∧
        (s.closing = true ∨ r.fromNextBlock = false → r ∈ [Reg.SYN_STATUS, .CLD_STATUS, .CNV_STATUS, .CRD_SUFF, .CRD_TOL, .CRD_TIMEOUT, .CRD_SLICE_STAT, .EQ_STATUS, .DEC_STATUS, .FIR_STATUS,
            .RSM_STATUS, .TRG_LEVEL, .TRG_STATUS, .TRG_SEQ_STATUS, .ACQ_STATUS, .MEM_WIN, .STR_STATUS, .ACC_STATUS, .SCN_STATUS, .SCN_BG,
            .SCN_LINK_CFG, .SCN_TIM_H, .SCN_TIM_HS, .SCN_TIM_V, .SCN_TIM_VS, .SCN_TIM_PCLK, .SCN_CUR_POS, .SCN_CUR_CTRL, .SCN_WF_CFG, .SCN_WF_POS,
            .SCN_WF_SIZE, .SCN_OVL_CTRL, .SCN_OVL_ADDR, .SCN_OVL_STRIDE, .FRW_CTRL, .FRW_STATUS, .LGC_STATUS, .TIM_STATUS, .CMP_STATUS,
            .CMP_BLANK_TMR, .CMP_WIN, .EVC_PEND, .EVC_MASK] →
          let ix := if r.perPackage = true then j else d :: j
          ∀ i ∈ r.fields, inWord i.fld w = true →
            (i.acc = .RW ∨ i.acc = .RWS →
              let x := fieldWord (s.rd i.fld ix) i.fld w v
              (fieldOk i.fld x = true → Completes c s fun t =>
                t.rd i.fld ix = (if r = .EVC_PEND then Nat.lor x (s.freshOf i.fld ix) else x) % 2 ^ i.fld.width) ∧
              (fieldOk i.fld x = false → Completes c s fun t => t.rd i.fld ix = s.rd i.fld ix)) ∧
            (i.acc = .W1C → Completes c s fun t => t.rd i.fld ix =
              Nat.lor (s.rd i.fld ix - Nat.land (s.rd i.fld ix) (slice v (i.fld.lo % 32) i.fld.width))
                (Nat.land (s.rd i.fld ix) (s.freshOf i.fld ix)) % 2 ^ i.fld.width) ∧
            (i.acc = .RO → Completes c s fun t => t.rd i.fld ix = s.rd i.fld ix)) ∧
        ((r, j, w) = (.XTO_REF_CTRL, [], 0) → exec c s = exec (.xtoRefCtrlWrite d v) s) ∧
        ((r, j, w) = (.SYN_CTRL, [], 0) → exec c s = exec (.synModeWrite d v) s) ∧
        ((r, j, w) = (.SVC_ATB, [], 0) → exec c s = exec (.svcAtbWrite d v) s) ∧
        ((r, j, w) = (.EVC_RAISE, [], 0) → exec c s = exec (.evcRaise d v) s) ∧
        ((r, j, w) = (.CRD_STORE_CTRL, [], 0) → exec c s = exec (.crdStoreWrite d v) s) ∧
        ((r, j, w) = (.BOOT_CTRL, [], 0) → exec c s = exec (.bootCtrlWarmReset d v) s) ∧
        (∀ n : Nat, (r, j, w) = (.CUE, [n], 2) → exec c s = exec (.cueArm d n v) s) ∧
        (∀ n : Nat, (r, j, w) = (.CNV_CTRL, [n], 0) → exec c s = exec (.attenWrite d n v) s) ∧
        (∀ n : Nat, (r, j, w) = (.CRD_COMB_CMD, [n], 0) → exec c s = exec (.crdCombStart d n v) s) ∧
        (∀ n : Nat, (r, j, w) = (.EQ_CTRL, [n], 0) → s.closing = true → exec c s = exec (.eqCtrlWrite d n v) s) ∧
        (∀ n : Nat, (r, j, w) = (.FIR_CTRL, [n], 0) → s.closing = true → exec c s = exec (.firCtrlSwap d n v) s) ∧
        (∀ n : Nat, (r, j, w) = (.EVC_ROUTE, [n], 0) → exec c s = exec (.evcRouteWrite d n v) s) ∧
        (∀ n : Nat, (r, j, w) = (.QUE_CFG, [n], 0) → queueKind n ≠ 6 → exec c s = exec (.queEnable d n v) s) ∧
        (∀ n b k : Nat, (r, j, w) = (.EQ_COEF, [n, b, k], 0) → exec c s = exec (.eqCoefWrite d n b k v) s) ∧
        (∀ n b k : Nat, (r, j, w) = (.FIR_COEF, [n, b, k], 0) → exec c s = exec (.firCoefWrite d n b k v) s))) ∧
    (∀ s : State, s.Sound →
      let moved : Int := (((4096 * s.dt + s.rd I.dtFrac [] : Nat) : Int) - s.heldErr) % ((2 ^ 76 : Nat) : Int)
      (s.rd F.XTO_STATUS.STEP_PENDING [] ≠ 0 → s.rd F.XTO_STATUS.REF_PRESENT [] ≠ 0 → s.anyArmed = false → Completes .dtStepApply s fun t =>
        t.dt = (moved / 4096).toNat ∧ t.rd I.dtFrac [] = (moved % 4096).toNat ∧ t.dtPrev = s.dt ∧
        t.rd F.XTO_STEP_AT.AT [] = s.blk % 2 ^ 64 ∧ t.rd F.XTO_STEP_TICKS.TICKS [] = sfield 64 (-s.heldErr / 4096) ∧
        t.rd F.XTO_STEP_FRAC.FRAC [] = (-s.heldErr % 4096).toNat ∧ t.rd F.XTO_STATUS.STEP_PENDING [] = 0 ∧ t.pends s.control 28 = true) ∧
      (s.rd F.XTO_STATUS.STEP_PENDING [] = 0 ∨ s.rd F.XTO_STATUS.REF_PRESENT [] = 0 ∨ s.anyArmed = true → Completes .dtStepApply s fun t => t = s))

/-- EVC_PEND and EVC_MASK are plain RW registers, word w covering sources 32w to 32w + 31 with bit b for source 32w + b. The words of EVC_PEND
and EVC_MASK lie in eight words each of a die's BAR0. For every sound state that host software reaches, a write of word w of EVC_PEND sets
the word to the value written, where the hardware raises no event of the word in that very core cycle, so that source 32w + b of the die
is pending exactly if bit b was written 1; the bits of every other source keep. A write of word w of EVC_MASK does the same for the masks
as the core cycle ends. Nothing but the word written changes. Rests on R334. -/
def Obligations.PendingAndMaskRegisters : Prop :=
  ∀ (f : Fld) (d off w v : Nat) (s : State), f = F.EVC_PEND.PEND ∨ f = F.EVC_MASK.MASK → s.Sound → s.hostReach d = true → off % 4 = 0 →
      regAt off = some (f.reg, [w], 0) →
      w < 8 ∧
      (f = F.EVC_MASK.MASK → s.closing = false → Completes (.registerWrite d off 4 v) s fun t => t = s.book (.registerWrite d off 4 v)) ∧
      ((f = F.EVC_PEND.PEND ∧ s.freshOf f [d, w] = 0) ∨ (f = F.EVC_MASK.MASK ∧ s.closing = true) →
       Completes (.registerWrite d off 4 v) s fun t => t.rd f [d, w] = v % 2 ^ 32 ∧
        (∀ b : Nat, b < 32 → bitAt (t.rd f [d, (32 * w + b) / 32]) ((32 * w + b) % 32) = bitAt v b) ∧
        (f = F.EVC_PEND.PEND → ∀ b : Nat, b < 32 → t.pends d (32 * w + b) = bitAt v b) ∧
        (f = F.EVC_MASK.MASK → ∀ b : Nat, b < 32 → t.masked d (32 * w + b) = bitAt v b) ∧
        (∀ src : Nat, src / 32 ≠ w → t.pends d src = s.pends d src ∧ t.masked d src = s.masked d src) ∧
        (∀ k : RegKey, k ≠ ⟨f.reg, f.lo, [d, w]⟩ → t.regs.get k = s.regs.get k))

/-- Writes of SVC_ATB are ignored in SERVICE and set REJECT; outside it a console selection after a host write stands. For every sound state
that host software reaches. In SERVICE a write of SVC_ATB sets REJECT and changes no other field of any register. Outside SERVICE a write
selects the point and index written, where they are a point that the output can carry and no console selection of the same core cycle
stands; of a host write and a console selection of one core cycle the console's stands, whichever of the two commands comes first. Rests
on R442. -/
def Obligations.TestBusSelection : Prop :=
  (∀ (d v : Nat) (s : State), s.Sound → s.hostReach d = true → s.mode = .service → Completes (.svcAtbWrite d v) s fun t =>
      t.rd F.SVC_ATB.REJECT [d] = 1 ∧
      ∀ k : RegKey, k ≠ ⟨F.SVC_ATB.REJECT.reg, F.SVC_ATB.REJECT.lo, [d]⟩ → t.regs.get k = s.regs.get k) ∧
    (∀ (d v : Nat) (s : State), s.Sound → s.hostReach d = true → s.mode ≠ .service → s.atbOk d (v % 256) (v / 256 % 256) = true → s.rd I.atbBy [d] ≠ s.now + 1 →
      Completes (.svcAtbWrite d v) s fun t => t.rd F.SVC_ATB.POINT [d] = v % 256 ∧ t.rd F.SVC_ATB.INDEX [d] = v / 256 % 256) ∧
    (∀ (d v point index : Nat) (s : State), s.Sound → d < 2 → s.hostReach d = true → s.mode ≠ .service →
      s.rd F.SVC_STATUS.LOCKED [] = 0 ∨ State.atbWhenLocked point = true → s.atbOk d point index = true →
      Completes (.svcAtbWrite d v) s fun t => Completes (.consoleAtb d point index) t fun u =>
        u.rd F.SVC_ATB.POINT [d] = point ∧ u.rd F.SVC_ATB.INDEX [d] = index) ∧
    (∀ (d v point index : Nat) (s : State), s.Sound → d < 2 → s.hostReach d = true → s.mode ≠ .service →
      s.rd F.SVC_STATUS.LOCKED [] = 0 ∨ State.atbWhenLocked point = true → s.atbOk d point index = true → point < 256 → index < 256 →
      s.now + 1 < 2 ^ I.atbBy.width → Completes (.consoleAtb d point index) s fun t => Completes (.svcAtbWrite d v) t fun u =>
        u.rd F.SVC_ATB.POINT [d] = point ∧ u.rd F.SVC_ATB.INDEX [d] = index)

/-- RING_RESET returns a quarantined ring to DISABLED, clears the history only of any other mailbox ring, and refuses other queues. For every
sound state in which the engine takes the command now. Sent on another ring or through the urgent mailbox, RING_RESET of a quarantined
mailbox ring makes it DISABLED, its violations forgotten, and source 203 QUE_STATE pending; an enable that passes the checks of R311 then
makes it ENABLED. On a mailbox ring that is not quarantined only the history goes: the ring keeps its state. On any other queue number the
command answers 0x0100. Rests on R365. -/
def Obligations.RingReset : Prop :=
  ∀ (h : MbxHdr) (q : Nat) (s : State), s.Sound → s.takesFresh h →
      let d := h.die
      let mailbox := 7936 ≤ q ∧ q < 8064
      let cleared := fun t : State => t.rd F.MBX_RING_STAT.RECENT [d, q - 7936] = 0 ∧ t.rd F.MBX_RING_STAT.TOTAL [d, q - 7936] = 0 ∧
        ∀ v ∈ t.violations, v.die = d → v.ring ≠ q
      (mailbox → s.rd F.QUE_STATUS.STATE [d, q] = 3 → h.src ≠ .ring (q - 7936) → Completes (.ringReset h q) s fun t =>
        t.answered h 0x0006 0 [] ∧ cleared t ∧ t.rd F.QUE_STATUS.STATE [d, q] = 0 ∧ t.rd F.QUE_CFG.ENABLE [d, q] = 0 ∧ t.pends d 203 = true) ∧
      (∀ (v : Nat) (t : State), mailbox → s.rd F.QUE_STATUS.STATE [d, q] = 3 → h.src ≠ .ring (q - 7936) →
        exec (.ringReset h q) s = .next t → t.hostReach d = true → bitAt v 4 = true →
        (∀ u : State, (u = (t.wr F.QUE_CFG.LOG2_SIZE [d, q] (v / 32 % 32)).wr F.QUE_CFG.CQ [d, q] (v / 2 ^ 13 % 2 ^ 13)) → u.enableCheck d q = 0) →
        Completes (.queEnable d q v) t fun u => u.rd F.QUE_STATUS.STATE [d, q] = 1 ∧ u.rd F.QUE_CFG.ENABLE [d, q] = 1) ∧
      (mailbox → s.rd F.QUE_STATUS.STATE [d, q] ≠ 3 → Completes (.ringReset h q) s fun t => t.answered h 0x0006 0 [] ∧ cleared t ∧
        t.rd F.QUE_STATUS.STATE [d, q] = s.rd F.QUE_STATUS.STATE [d, q] ∧ t.rd F.QUE_CFG.ENABLE [d, q] = s.rd F.QUE_CFG.ENABLE [d, q]) ∧
      (¬mailbox → Completes (.ringReset h q) s fun t => t.answered h 0x0006 0x0100 [])

/-- A reference loss before a pending step applies cancels it: no offset is applied, and the loop enters WINTER. For every sound state whose
loop runs with a step pending and the reference present, in any role but WORKER's: after the loss of the reference no step is pending, the
loop is in WINTER, DT and its fraction are as before, and the application of the step that follows changes nothing. For a worker the same
holds when its port 0 has had no alignment frame for the time of R412 to R415. Rests on R52. -/
def Obligations.LossCancelsTheStep : Prop :=
  ∀ (c : Instr) (s : State), s.Sound → s.rd F.XTO_STATUS.STEP_PENDING [] ≠ 0 → s.rd F.XTO_STATUS.REF_PRESENT [] ≠ 0 →
      s.rd F.XTO_STATUS.REF_STATE [] ≠ 0 →
      (c = .refLost ∧ s.rd F.SKN_CTRL.ROLE [] ≠ 2) ∨
        (c = .alignTimeout ∧ s.rd F.SKN_PORT_STATUS.STATE [0] = 3 ∧ s.elapsed (s.rd I.skAlign []) 125000 = true) →
      Completes c s fun t => t.rd F.XTO_STATUS.STEP_PENDING [] = 0 ∧ t.rd F.XTO_STATUS.REF_STATE [] = 3 ∧
        t.dt = s.dt ∧ t.rd I.dtFrac [] = s.rd I.dtFrac [] ∧ Completes .dtStepApply t fun u => u = t

/-- A queue's kind is fixed by its number. For each of the queues 0 to 8,191 of a die the kind is the one that R308's table gives: DATA,
COMPLETION, EVENT, MARK, GAP, MAILBOX and FIRMWARE, numbered 0 to 6. No command changes it: it is a function of the number alone, and only
the queues of kinds DATA and MAILBOX are produced by the host. Rests on R308. -/
def Obligations.QueueKinds : Prop :=
  ∀ q : Nat, q < 8192 →
      (queueKind q = 0 ↔ q ≤ 4095) ∧ (queueKind q = 1 ↔ 4096 ≤ q ∧ q ≤ 6143) ∧ (queueKind q = 2 ↔ 6144 ≤ q ∧ q ≤ 7167) ∧
      (queueKind q = 3 ↔ 7168 ≤ q ∧ q ≤ 7679) ∧ (queueKind q = 4 ↔ 7680 ≤ q ∧ q ≤ 7935) ∧ (queueKind q = 5 ↔ 7936 ≤ q ∧ q ≤ 8063) ∧
      (queueKind q = 6 ↔ 8064 ≤ q)

/-- A ramp ends at its last segment with the final offset held, repeats with RAMP_REPEAT, or holds the present offset at an abort. For every
sound state with a ramp active. At the end of the last segment SYN holds that segment's end offset. With RAMP_REPEAT = 1 segment 0 starts
again from that offset, and the ramp stays active; with 0 the ramp ends and SYN_RAMP is pending. A write of RAMP_ABORT that does not start
a ramp holds the offset reached at that moment and ends the ramp, with SYN_RAMP pending. While RAMP_ACTIVE = 1 writes of SYN_RAMP_END and
SYN_RAMP_DUR change nothing. Rests on R61. -/
def Obligations.RampEndings : Prop :=
  (∀ (d : Nat) (peaks : List (List (Nat × Nat))) (s : State), s.Sound → s.rd F.SYN_STATUS.RAMP_ACTIVE [d] = 1 →
      let k := s.rd F.SYN_STATUS.RAMP_SEG [d]
      k = s.rd F.SYN_CTRL.RAMP_LAST [d] → s.rampDur d k ≤ s.rampCycles d →
      let final := sfield 24 (s.rampEnd d k)
      Completes (.rampSegmentEnd d peaks) s fun t => t.rd F.SYN_OFFSET.OFFSET [d] = final ∧
        (s.rd F.SYN_CTRL.RAMP_REPEAT [d] ≠ 0 → t.rd F.SYN_STATUS.RAMP_ACTIVE [d] = 1 ∧ t.rd F.SYN_STATUS.RAMP_SEG [d] = 0 ∧
          t.rd I.rampFrom [d] = final ∧ t.rd I.rampStart [d] = (s.rd I.rampStart [d] + State.clkBlock * s.rampDur d k) % 2 ^ I.rampStart.width) ∧
        (s.rd F.SYN_CTRL.RAMP_REPEAT [d] = 0 → t.rd F.SYN_STATUS.RAMP_ACTIVE [d] = 0 ∧ t.pends d 31 = true)) ∧
    (∀ (d v : Nat) (s : State), s.Sound → s.hostReach d = true → v % 2 = s.rd F.SYN_CTRL.MODE [d] → bitAt v 1 = false → bitAt v 2 = true →
      s.rd F.SYN_STATUS.RAMP_ACTIVE [d] = 1 →
      let k := s.rd F.SYN_STATUS.RAMP_SEG [d]
      let start := sval 24 (s.rd I.rampFrom [d])
      let n := min (max 1 (s.rampDur d k)) (s.rampCycles d)
      Completes (.synRampAbort d v) s fun t => t.rd F.SYN_STATUS.RAMP_ACTIVE [d] = 0 ∧ t.pends d 31 = true ∧
        t.rd F.SYN_OFFSET.OFFSET [d] = sfield 24 (start + (s.rampEnd d k - start) * (n : Nat) / (max 1 (s.rampDur d k) : Nat))) ∧
    (∀ (d off j w v : Nat) (s : State), s.Sound → s.hostReach d = true → s.rd F.SYN_STATUS.RAMP_ACTIVE [d] = 1 → off % 4 = 0 →
      regAt off = some (.SYN_RAMP_END, [j], w) ∨ regAt off = some (.SYN_RAMP_DUR, [j], w) →
      Completes (.registerWrite d off 4 v) s fun t => t = s)

/-- The frame of the commands of the accumulation engines. For each command of the accumulation engines, with every operand and from every
state: when exec answers a next state, every register but those listed reads as before at every index, every part of the state but those
listed is as before (of memory, every byte reads as before), and the waiting commands are as before. The lists named Reg.of… and Part.of…
are what raising events and the other shared effects that the rules give may change. Rests on R221, R229, R234, R235, R236, R242. -/
def Obligations.FrameAccumulation : Prop :=
  (∀ (d : Nat) (c : Nat) (words : List ReadWord) (s s' : State), exec (.accEntryTake d c words) s = .next s' →
      Frame [[.MEM_UE_COUNT, .MEM_UE_ADDR, .MEM_PC_CE, .STR_STATUS, .STR_GAP_SEQ, .i_gapLogIdx], Reg.ofEvents]
      [[.mem, .misread, .heldWrites, .acq, .acc], Part.ofEvents] s s') ∧
    (∀ (d : Nat) (c : Nat) (s s' : State), exec (.accCommitDone d c) s = .next s' →
      Frame [[.MEM_PC_CE, .ACC_STATUS, .ACC_AVG_DONE, .ACC_AVG_BATCH, .ACC_AVG_INCOMPLETE, .ACC_HIST_ACQ, .HIST, .ACCUM, .i_accWas, .i_accWasAt], Reg.ofEvents]
      [[.misread, .acc], Part.ofEvents] s s') ∧
    (∀ (d : Nat) (c : Nat) (s s' : State), exec (.accCmdStart d c) s = .next s' →
      Frame [[.MEM_PC_CE, .ACC_STATUS, .ACC_AVG_DONE, .ACC_AVG_BATCH, .ACC_HIST_ACQ, .HIST, .ACCUM, .i_accFrames, .i_accWas, .i_accWasAt,
        .i_accDecayAt], Reg.ofHarvest, Reg.ofEvents]
      [[.misread, .acc], Part.ofHarvest, Part.ofEvents] s s') ∧
    (∀ (d : Nat) (c : Nat) (s s' : State), exec (.accCmdStop d c) s = .next s' →
      Frame [[.MEM_PC_CE, .ACC_STATUS, .ACC_AVG_DONE, .ACC_AVG_BATCH, .ACC_HIST_ACQ, .MBX_STATUS, .HVS_STATUS, .HIST, .ACCUM, .i_accFrames,
        .i_accWas, .i_accWasAt, .i_accDecayAt], Reg.ofEvents]
      [[.misread, .acc, .outstanding, .kept, .deferred], Part.ofEvents] s s') ∧
    (∀ (d : Nat) (c : Nat) (s s' : State), exec (.accCmdRelease d c) s = .next s' →
      Frame [[.MEM_PC_CE, .ACC_STATUS, .ACC_AVG_DONE, .ACCUM, .i_accWas, .i_accWasAt], Reg.ofEvents]
      [[.misread, .acc], Part.ofEvents] s s') ∧
    (∀ (d : Nat) (c : Nat) (s s' : State), exec (.accCmdClearHist d c) s = .next s' →
      Frame [] [[.acc]] s s') ∧
    (∀ (d : Nat) (c : Nat) (s s' : State), exec (.accDecayBoundary d c) s = .next s' →
      Frame [[.ACC_STATUS, .i_accFrames, .i_accDecayAt]] [[.acc, .fresh]] s s')

/-- The frame of the commands of acquisition and memory. For each command of acquisition and memory, with every operand and from every state:
when exec answers a next state, every register but those listed reads as before at every index, every part of the state but those listed
is as before (of memory, every byte reads as before), and the waiting commands are as before. The lists named Reg.of… and Part.of… are
what raising events and the other shared effects that the rules give may change. Rests on R193, R195, R196, R198, R201, R205, R209, R216. -/
def Obligations.FrameAcquisition : Prop :=
  (∀ (d : Nat) (a : Nat) (v : Nat) (s s' : State), exec (.acqCmdArm d a v) s = .next s' →
      Frame [[.TRG_SEQ_STATUS, .ACQ_STATUS, .ACQ_OPEN_SLOT, .STR_STATUS, .STR_FILL, .STR_GAP_SEQ, .i_swapDone], Reg.ofArm, Reg.ofHarvest, Reg.ofEvents]
      [[.mem, .heldWrites, .acq, .library], Part.ofHarvest, Part.ofEvents] s s') ∧
    (∀ (d : Nat) (a : Nat) (v : Nat) (s s' : State), exec (.acqCmdStop d a v) s = .next s' →
      Frame [[.ACQ_STATUS, .MBX_STATUS, .HVS_STATUS, .i_stopAsked, .i_stopAt], Reg.ofEvents]
      [[.acq, .outstanding, .kept, .deferred], Part.ofEvents] s s') ∧
    (∀ (d : Nat) (a : Nat) (s s' : State), exec (.acqStopCycle d a) s = .next s' →
      Frame [Reg.ofSets, Reg.ofEvents] [Part.ofSets, Part.ofEvents] s s') ∧
    (∀ (d : Nat) (a : Nat) (x : SampleSource) (s s' : State), exec (.storedSampleCommit d a x) s = .next s' →
      Frame [[.CNV_STATUS, .CNV_CLIP_COUNT, .EQ_STATUS, .EQ_SAT_COUNT, .DEC_STATUS, .DEC_SAT_COUNT, .RSM_STATUS, .RSM_SAT_COUNT, .STR_INDEX,
        .STR_MARK_SEQ, .STR_MARK_LOST_COUNT], Reg.ofSets, Reg.ofEvents]
      [[.counted, .booked], Part.ofSets, Part.ofEvents] s s') ∧
    (∀ (d : Nat) (a : Nat) (s s' : State), exec (.backpressureResume d a) s = .next s' →
      Frame [[.STR_STATUS, .STR_FILL, .STR_GAP_SEQ, .i_gapLogIdx], Reg.ofEvents]
      [[.mem, .heldWrites, .acq], Part.ofEvents] s s') ∧
    (∀ (d : Nat) (a : Nat) (s s' : State), exec (.segmentRecordWrite d a) s = .next s' →
      Frame [[.ACQ_STATUS, .ACQ_SEG_COUNT, .ACQ_OPEN_SLOT, .STR_STATUS, .STR_FILL, .STR_GAP_SEQ, .ACC_SKIP, .i_gapLogIdx, .i_swapDone], Reg.ofEvents]
      [[.mem, .heldWrites, .acq, .acc, .library], Part.ofEvents] s s') ∧
    (∀ (d : Nat) (a : Nat) (s s' : State), exec (.chunkFlushTimeout d a) s = .next s' →
      Frame [[.STR_FILL]] [[.acq]] s s') ∧
    (∀ (d : Nat) (a : Nat) (s s' : State), exec (.markWrite d a) s = .next s' →
      Frame [[.STR_STATUS, .QUE_STATUS, .QUE_PTR, .MSIX_PBA, .i_coalCount, .i_coalDeadline, .i_coalTimed, .i_coreAsleep, .i_coreWoke, .i_firedAt]]
      [[.acq, .out, .ringRecs, .coreReqs]] s s') ∧
    (∀ (d : Nat) (a : Nat) (s s' : State), exec (.gapRecordWrite d a) s = .next s' →
      Frame [[.QUE_STATUS, .QUE_PTR, .MSIX_PBA, .i_coalCount, .i_coalDeadline, .i_coalTimed, .i_coreAsleep, .i_coreWoke, .i_firedAt]]
      [[.acq, .out, .ringRecs, .coreReqs]] s s') ∧
    (∀ (d : Nat) (off : Nat) (n : Nat) (words : List ReadWord) (s s' : State), exec (.bar2Read d off n words) s = .next s' →
      Frame [[.MEM_UE_COUNT, .MEM_UE_ADDR, .MEM_PC_CE, .STR_STATUS, .STR_GAP_SEQ, .i_gapLogIdx], Reg.ofEvents]
      [[.mem, .misread, .heldWrites, .acq], Part.ofEvents] s s') ∧
    (∀ (d : Nat) (off : Nat) (bytes : List Byte) (s s' : State), exec (.bar2Write d off bytes) s = .next s' →
      Frame [[.MBX_VLOG_NEXT, .MBX_VLOG_TOTAL, .MBX_RING_STAT, .MBX_VLOG], Reg.ofEvents]
      [[.mem, .heldWrites, .violations, .nextActs], Part.ofEvents] s s')

/-- The frame of the commands of reset, boot and the test port. For each command of reset, boot and the test port, with every operand and from
every state: when exec answers a next state, every register but those listed reads as before at every index, every part of the state but
those listed is as before (of memory, every byte reads as before), and the waiting commands are as before. The lists named Reg.of… and
Part.of… are what raising events and the other shared effects that the rules give may change. For the five commands that reset the whole
package the statement names what stays instead: the time since power-on, the calibration store, what was put out, the waiting commands,
and the instruction register of the test port. Rests on R384, R446, R448, R449, R454, R455, R457, R458, R473. -/
def Obligations.FrameBoot : Prop :=
  (∀ (resetN : Bool) (s s' : State), exec (.coldReset resetN) s = .next s' →
      s'.now = s.now ∧ s'.flash = s.flash ∧ s'.out = s.out ∧ s'.pending = s.pending ∧
      (∀ k : RegKey, k.reg = .i_tapIr → s'.regs.get k = s.regs.get k)) ∧
    (∀ (s s' : State), exec .brownOutDetect s = .next s' →
      s'.now = s.now ∧ s'.flash = s.flash ∧ s'.out = s.out ∧ s'.pending = s.pending ∧
      (∀ k : RegKey, k.reg = .i_tapIr → s'.regs.get k = s.regs.get k)) ∧
    (∀ (d : Nat) (v : Nat) (s s' : State), exec (.bootCtrlWarmReset d v) s = .next s' →
      s'.now = s.now ∧ s'.flash = s.flash ∧ s'.out = s.out ∧ s'.pending = s.pending ∧
      (∀ k : RegKey, k.reg = .i_tapIr → s'.regs.get k = s.regs.get k)) ∧
    (∀ (s s' : State), exec .watchdogExpiry s = .next s' →
      s'.now = s.now ∧ s'.flash = s.flash ∧ s'.out = s.out ∧ s'.pending = s.pending ∧
      (∀ k : RegKey, k.reg = .i_tapIr → s'.regs.get k = s.regs.get k)) ∧
    (∀ (temp : Nat) (s s' : State), exec (.thermalReset temp) s = .next s' →
      s'.now = s.now ∧ s'.flash = s.flash ∧ s'.out = s.out ∧ s'.pending = s.pending ∧
      (∀ k : RegKey, k.reg = .i_tapIr → s'.regs.get k = s.regs.get k)) ∧
    (∀ (hottest : Nat) (s s' : State), exec (.thermalResetRelease hottest) s = .next s' →
      Frame [[.i_thermHold]] [] s s') ∧
    (∀ (mbit : Nat) (fast : Bool) (rev : Nat) (programmed : List (Nat × List Byte)) (s s' : State), exec (.resetRelease mbit fast rev programmed) s = .next s' →
      Frame [[.BOOT_STATUS, .i_bootStep, .i_bootAt, .i_flashMbit, .i_sfdpRev]] [[.flash]] s s') ∧
    (∀ (d : Nat) (pass : Bool) (s s' : State), exec (.selfCheckReport d pass) s = .next s' →
      Frame [[.EVC_PEND, .BOB_RETIRED, .SVC_ATB, .BOOT_STATUS, .i_bootStep, .i_bootSelf, .i_bootImg, .i_bootFault]]
      [[.control]] s s') ∧
    (∀ (s s' : State), exec .selfCheckTimeout s = .next s' →
      Frame [[.EVC_PEND, .BOB_RETIRED, .SVC_ATB, .BOOT_STATUS, .i_bootStep, .i_bootSelf, .i_bootImg, .i_bootFault]]
      [[.control]] s s') ∧
    (∀ (k : Nat) (digest : Bool) (s s' : State), exec (.imageLoadDone k digest) s = .next s' →
      Frame [[.BOOT_STATUS, .i_bootStep, .i_bootImg, .i_imgVersion, .i_imgBuild]] [] s s') ∧
    (∀ (ok : Bool) (s s' : State), exec (.signatureCheckDone ok) s = .next s' →
      Frame [[.BOOT_STATUS, .BOOT_IMG_VER, .i_bootStep, .i_bootImg]] [] s s') ∧
    (∀ (s s' : State), exec .firmwareStart s = .next s' →
      Frame [[.XTO_PULL, .CNV_CTRL, .CNV_STATUS, .CNV_SLICE_MAP, .CRD_COMB_STATUS, .CRD_TRIM, .CRD_SLICE_STAT, .CRD_STORE_STATUS, .CRD_STORE_GEN,
        .TRG_STATUS, .MEM_STATUS, .MEM_DEPTH, .MEM_PC_MAP, .MEM_PC_STAT, .MEM_PC_CE, .STR_MARK_LOST_COUNT, .ACC_STATUS, .ACC_AVG_DONE,
        .ACC_AVG_BATCH, .ACC_AVG_INCOMPLETE, .ACC_HIST_ACQ, .CMP_WIN, .CMP_SPARE_MAP, .QUE_CFG, .MBX_STATUS, .BOB_STATUS, .BOB_RETIRED,
        .BOB_ACTIVE, .BOB_SPL_LANES, .BOB_SPL_MARGIN, .BOB_SRAM, .SVC_ATB, .HIST, .ACCUM, .i_linkL0, .i_termAOn, .i_termBOn, .i_toutOrg,
        .i_toutOn, .i_patKnown, .i_termFrom, .i_accWas, .i_accWasAt, .i_loopCorr, .i_ovenOn, .i_ovenSaved, .i_refitCount, .i_gainTap,
        .i_loopUs, .i_biasBase, .i_cardAt, .i_cardInt, .i_starveAt, .i_combOpen, .i_combEnding, .i_combCode, .i_storeSlot, .i_retireAt,
        .i_swapBlk, .i_edgeSince, .i_rtTraining, .i_refitPt, .i_coefA, .i_coefB, .i_coefTau, .i_factoryTrim, .i_engRetired, .i_bankRetired,
        .i_cmpRetired, .i_mbxTook, .i_mbxTurn, .i_bootStep], Reg.ofHarvest, Reg.ofSets, Reg.ofEvents]
      [[.control, .misread, .acc, .pool, .taken, .outstanding, .kept, .bobbin, .retiring, .flash, .snapshot, .combFits, .spans], Part.ofHarvest, Part.ofSets, Part.ofEvents] s s') ∧
    (∀ (lost : List (Nat × Nat)) (pcs : List (Nat × Nat × Nat)) (s s' : State), exec (.hbmTrainingDone lost pcs) s = .next s' →
      Frame [[.CNV_CTRL, .CNV_STATUS, .CNV_SLICE_MAP, .CRD_COMB_STATUS, .CRD_SLICE_STAT, .CRD_STORE_STATUS, .TRG_STATUS, .MEM_STATUS, .MEM_DEPTH,
        .MEM_PC_MAP, .MEM_PC_STAT, .MEM_PC_CE, .STR_MARK_LOST_COUNT, .ACC_STATUS, .ACC_AVG_DONE, .ACC_AVG_BATCH, .ACC_AVG_INCOMPLETE,
        .ACC_HIST_ACQ, .CMP_WIN, .CMP_SPARE_MAP, .QUE_CFG, .MBX_STATUS, .BOB_STATUS, .BOB_RETIRED, .BOB_ACTIVE, .BOB_SPL_LANES,
        .BOB_SPL_MARGIN, .BOB_SRAM, .SVC_ATB, .HIST, .ACCUM, .i_linkL0, .i_termAOn, .i_termBOn, .i_toutOrg, .i_toutOn, .i_patKnown,
        .i_termFrom, .i_accWas, .i_accWasAt, .i_loopUs, .i_cardAt, .i_cardInt, .i_starveAt, .i_combOpen, .i_combEnding, .i_combCode,
        .i_retireAt, .i_swapBlk, .i_rtTraining, .i_engRetired, .i_bankRetired, .i_cmpRetired, .i_mbxTook, .i_mbxTurn, .i_bootStep], Reg.ofHarvest, Reg.ofSets, Reg.ofEvents]
      [[.misread, .acc, .pool, .taken, .outstanding, .kept, .bobbin, .retiring, .flash, .snapshot, .combFits, .spans], Part.ofHarvest, Part.ofSets, Part.ofEvents] s s') ∧
    (∀ (s s' : State), exec .bootReady s = .next s' →
      Frame [[.XTO_STATUS, .SYN_STATUS, .SYN_DRIFT, .AUX_STATUS, .CNV_CTRL, .CNV_STATUS, .CNV_OVLD_COUNT, .CRD_SLICE_STAT, .CRD_STORE_STATUS,
        .DEC_STATUS, .FIR_STATUS, .RSM_STATUS, .TRG_STATUS, .SCN_STATUS, .LGC_STATE, .LGC_STATUS, .CMP_THRESH, .CMP_COUNT, .CMP_WIN,
        .MBX_STATUS, .PWR_MODE, .PWR_DOMAIN, .PWR_WAKE_CAUSE, .BOB_RETIRED, .SKN_STATUS, .SKN_PORT_STATUS, .BOOT_TIME, .TOP_ID, .TRG_CURVE,
        .i_settleBlk, .i_settleTimed, .i_fadeWait, .i_fadeAt, .i_fadeTouch, .i_eqFrom, .i_lgcHold, .i_lgcComp, .i_termAOn, .i_termBOn,
        .i_toutOrg, .i_toutOn, .i_patKnown, .i_seqCount, .i_termFrom, .i_loopUs, .i_cardAt, .i_cardInt, .i_starveAt, .i_combOpen,
        .i_combEnding, .i_combCode, .i_inOn, .i_synClk, .i_synFails, .i_ovldStart, .i_ovldClear, .i_ovldSeen, .i_modeMw, .i_wakeOn,
        .i_wakeAt, .i_wakeHeld, .i_wakeUnit, .i_wakeDie, .i_modeCause, .i_wakePin, .i_cmpIn, .i_cmpPower, .i_cmpStart, .i_lgcStart,
        .i_scnFirst, .i_ctlAct, .i_mbxTook, .i_mbxTurn, .i_refAwait, .i_joinDone, .i_tapIr, .i_bootStep, .i_skEchoN, .i_skEchoPos,
        .i_skEchoWait, .i_skPrevOn, .i_skAck, .i_skCause, .i_skBelow, .i_skErrSum, .i_skErrN], Reg.ofHarvest, Reg.ofEvents]
      [[.mode, .dt, .dtPrev, .taken, .outstanding, .flash, .snapshot, .fades, .spans], Part.ofHarvest, Part.ofEvents] s s') ∧
    (∀ (d : Nat) (hot : Bool) (s s' : State), exec (.endpointReset d hot) s = .next s' →
      Frame [[.STR_STATUS, .STR_MARK_LOST_COUNT, .QUE_CFG, .EVC_MASK, .EVC_ROUTE, .MBX_URG_STATUS, .MBX_STATUS, .HVS_STATUS, .BOOT_EP_CAUSE,
        .MSIX, .i_msixFuncMask, .i_linkL0, .i_stopAsked, .i_stopAt, .i_fwJob], Reg.ofEvents]
      [[.acq, .deliveries, .taken, .outstanding, .kept, .deferred], Part.ofEvents] s s') ∧
    (∀ (d : Nat) (s s' : State), exec (.functionLevelReset d) s = .next s' →
      Frame [[.STR_STATUS, .STR_MARK_LOST_COUNT, .QUE_CFG, .EVC_MASK, .EVC_ROUTE, .MBX_URG_STATUS, .MBX_STATUS, .HVS_STATUS, .BOOT_EP_CAUSE,
        .MSIX, .i_msixFuncMask, .i_linkL0, .i_stopAsked, .i_stopAt, .i_fwJob], Reg.ofEvents]
      [[.acq, .deliveries, .taken, .outstanding, .kept, .deferred], Part.ofEvents] s s') ∧
    (∀ (s s' : State), exec .tapReset s = .next s' →
      Frame [[.i_tapIr]] [] s s') ∧
    (∀ (d : Nat) (i : TapInstr) (s s' : State), exec (.tapInstructionLoad d i) s = .next s' →
      Frame [[.i_tapIr]] [] s s')

/-- The frame of the commands of carding and cancellation. For each command of carding and cancellation, with every operand and from every
state: when exec answers a next state, every register but those listed reads as before at every index, every part of the state but those
listed is as before (of memory, every byte reads as before), and the waiting commands are as before. The lists named Reg.of… and Part.of…
are what raising events and the other shared effects that the rules give may change. Rests on R92, R98, R101, R102, R116. -/
def Obligations.FrameCarding : Prop :=
  (∀ (d : Nat) (c : Nat) (blocks : List CodeBlock) (s s' : State), exec (.cardIntervalClose d c blocks) s = .next s' →
      Frame [[.CRD_STATUS, .CRD_SUFF_COUNT, .CRD_INSUFF_COUNT, .i_cardSuff]] [[.cardErrs, .fresh]] s s') ∧
    (∀ (d : Nat) (c : Nat) (slope : Nat) (s s' : State), exec (.cardUpdateClaim d c slope) s = .next s' →
      Frame [[.CNV_STATUS, .CNV_SLICE_MAP, .CRD_STATUS, .CRD_SUFF_COUNT, .CRD_INSUFF_COUNT, .CRD_SLICE_STAT, .MBX_STATUS, .BOB_STATUS,
        .BOB_ACTIVE, .MNT_RUNNING, .MNT_WAITING, .MNT_GROUP, .i_loopUs, .i_sliceTmo, .i_cardSuff, .i_starveAt, .i_swapBlk, .i_tmoAt,
        .i_rtTraining], Reg.ofEvents]
      [[.outstanding, .kept, .running, .waiting, .bobbin, .cardErrs, .tapMoves], Part.ofEvents] s s') ∧
    (∀ (d : Nat) (c : Nat) (s s' : State), exec (.cardStarved d c) s = .next s' →
      Frame [[.CRD_STATUS], Reg.ofEvents] [Part.ofEvents] s s') ∧
    (∀ (d : Nat) (c : Nat) (v : Nat) (s s' : State), exec (.crdCombStart d c v) s = .next s' →
      Frame [[.CNV_CTRL, .CNV_STATUS, .CRD_COMB_CMD, .CRD_COMB_STATUS, .CRD_STORE_STATUS, .MBX_STATUS, .i_combAt, .i_combOpen, .i_combEnding,
        .i_combCode, .i_combStore], Reg.ofHarvest, Reg.ofEvents]
      [[.outstanding, .kept, .flash, .snapshot, .combFits, .spans], Part.ofHarvest, Part.ofEvents] s s') ∧
    (∀ (d : Nat) (c : Nat) (v : Nat) (s s' : State), exec (.crdCombAbort d c v) s = .next s' →
      Frame [[.CNV_CTRL, .CNV_STATUS, .CRD_COMB_CMD, .CRD_COMB_STATUS, .CRD_STORE_STATUS, .MBX_STATUS, .i_combAt, .i_combOpen, .i_combEnding,
        .i_combCode, .i_combStore], Reg.ofHarvest, Reg.ofEvents]
      [[.outstanding, .kept, .flash, .snapshot, .combFits, .spans], Part.ofHarvest, Part.ofEvents] s s') ∧
    (∀ (d : Nat) (c : Nat) (codes : List SliceCodes) (s s' : State), exec (.combPhaseEnd d c codes) s = .next s' →
      Frame [[.CNV_CTRL, .CRD_STATUS, .CRD_COMB_STATUS, .CRD_TRIM, .CRD_SLICE_STAT, .MBX_STATUS, .BOB_ACTIVE, .i_gainTap, .i_loopUs, .i_combOpen,
        .i_combEnding, .i_combCode, .i_edgeSince, .i_mbxTook, .i_mbxTurn], Reg.ofEvents]
      [[.taken, .combFits], Part.ofEvents] s s') ∧
    (∀ (d : Nat) (c : Nat) (s s' : State), exec (.combDone d c) s = .next s' →
      Frame [[.CNV_CTRL, .CNV_STATUS, .CRD_COMB_STATUS, .CRD_STORE_STATUS, .MBX_STATUS, .i_combEnding], Reg.ofHarvest, Reg.ofEvents]
      [[.outstanding, .kept, .flash, .snapshot, .combFits, .spans], Part.ofHarvest, Part.ofEvents] s s') ∧
    (∀ (d : Nat) (v : Nat) (s s' : State), exec (.crdStoreWrite d v) s = .next s' →
      Frame [[.CRD_STORE_STATUS], Reg.ofHarvest, Reg.ofEvents]
      [[.outstanding, .flash, .snapshot], Part.ofHarvest, Part.ofEvents] s s') ∧
    (∀ (s s' : State), exec .storeWriteStart s = .next s' →
      Frame [[.CRD_STORE_STATUS, .MNT_RUNNING, .MNT_WAITING, .MNT_GROUP], Reg.ofEvents]
      [[.outstanding, .running, .waiting, .flash, .snapshot], Part.ofEvents] s s') ∧
    (∀ (ok : Bool) (s s' : State), exec (.storeWriteComplete ok) s = .next s' →
      Frame [[.CRD_STORE_STATUS, .CRD_STORE_GEN, .MBX_STATUS, .MNT_RUNNING, .MNT_WAITING, .MNT_GROUP, .i_storeSlot, .i_storeCommitted,
        .i_storeCommitAt], Reg.ofEvents]
      [[.outstanding, .kept, .running, .waiting, .flash], Part.ofEvents] s s')

/-- The frame of the commands of the comparators. For each command of the comparators, with every operand and from every state: when exec
answers a next state, every register but those listed reads as before at every index, every part of the state but those listed is as
before (of memory, every byte reads as before), and the waiting commands are as before. The lists named Reg.of… and Part.of… are what
raising events and the other shared effects that the rules give may change. Rests on R282, R285, R287, R293, R296. -/
def Obligations.FrameComparators : Prop :=
  (∀ (d : Nat) (c : Nat) (v : Nat) (s s' : State), exec (.attenWrite d c v) s = .next s' →
      Frame [[.CNV_CTRL, .CNV_STATUS, .CRD_TRIM, .CRD_SLICE_STAT, .CMP_THRESH, .CMP_STATUS, .CMP_WIN, .i_edgeSince, .i_settleAt, .i_cmpSettleDt], Reg.ofEvents]
      [Part.ofEvents] s s') ∧
    (∀ (d : Nat) (c : Nat) (s s' : State), exec (.attenSettled d c) s = .next s' →
      Frame [[.CNV_STATUS], Reg.ofEvents] [Part.ofEvents] s s') ∧
    (∀ (d : Nat) (c : Nat) (lo : Nat) (x : Instant × Int) (s s' : State), exec (.overloadTrip d c lo x) s = .next s' →
      Frame [[.CNV_CTRL, .CNV_STATUS, .CNV_OVLD_COUNT, .TIM_START_SRC, .TIM_STOP_SRC, .TIM_SUPPRESS, .CMP_STATUS, .CMP_COUNT, .CMP_BLANK_COUNT,
        .CMP_WIN, .PWR_MODE, .PWR_WAKE_CAUSE, .HVS_SHARE, .HVS_STATUS, .i_combOpen, .i_combEnding, .i_combCode, .i_ovldStart, .i_ovldClear,
        .i_ovldSeen, .i_modeMw, .i_wakeOn, .i_wakeAt, .i_wakeHeld, .i_wakeUnit, .i_wakeDie, .i_modeCause, .i_wakePin, .i_cmpIn,
        .i_cmpStart, .i_cmpBlankDt], Reg.ofEvents]
      [[.timHeld, .committed, .arrivals, .spans, .booked], Part.ofEvents] s s') ∧
    (∀ (d : Nat) (c : Nat) (s s' : State), exec (.overloadEpisodeEnd d c) s = .next s' →
      Frame [[.CNV_STATUS], Reg.ofEvents] [[.spans], Part.ofEvents] s s') ∧
    (∀ (d : Nat) (u : Nat) (at_ : Instant) (v : Int) (s s' : State), exec (.comparatorTransition d u at_ v) s = .next s' →
      Frame [[.CNV_CTRL, .CNV_STATUS, .CNV_OVLD_COUNT, .TIM_START_SRC, .TIM_STOP_SRC, .TIM_SUPPRESS, .CMP_STATUS, .CMP_COUNT, .CMP_BLANK_COUNT,
        .CMP_WIN, .PWR_MODE, .PWR_WAKE_CAUSE, .HVS_SHARE, .HVS_STATUS, .i_combOpen, .i_combEnding, .i_combCode, .i_ovldStart, .i_ovldClear,
        .i_ovldSeen, .i_modeMw, .i_wakeOn, .i_wakeAt, .i_wakeHeld, .i_wakeUnit, .i_wakeDie, .i_modeCause, .i_wakePin, .i_cmpIn,
        .i_cmpStart, .i_cmpBlankDt], Reg.ofEvents]
      [[.timHeld, .committed, .arrivals, .spans, .booked], Part.ofEvents] s s') ∧
    (∀ (d : Nat) (u : Nat) (s s' : State), exec (.cmpSettlingEnd d u) s = .next s' →
      Frame [[.CNV_CTRL, .CNV_STATUS, .CNV_OVLD_COUNT, .TIM_START_SRC, .TIM_STOP_SRC, .TIM_SUPPRESS, .CMP_STATUS, .CMP_COUNT, .CMP_WIN,
        .PWR_MODE, .PWR_WAKE_CAUSE, .HVS_SHARE, .HVS_STATUS, .i_combOpen, .i_combEnding, .i_combCode, .i_ovldStart, .i_ovldClear,
        .i_ovldSeen, .i_modeMw, .i_wakeOn, .i_wakeAt, .i_wakeHeld, .i_wakeUnit, .i_wakeDie, .i_modeCause, .i_wakePin, .i_cmpBlankDt], Reg.ofEvents]
      [[.timHeld, .committed, .arrivals, .spans], Part.ofEvents] s s') ∧
    (∀ (d : Nat) (k : Nat) (t : Nat) (s s' : State), exec (.blankTimerPulse d k t) s = .next s' →
      Frame [[.CMP_STATUS, .i_cmpBlankDt]] [] s s') ∧
    (∀ (d : Nat) (u : Nat) (s s' : State), exec (.blankWindowClose d u) s = .next s' →
      Frame [[.CNV_CTRL, .CNV_STATUS, .CNV_OVLD_COUNT, .TIM_START_SRC, .TIM_STOP_SRC, .TIM_SUPPRESS, .CMP_STATUS, .CMP_COUNT, .CMP_WIN,
        .PWR_MODE, .PWR_WAKE_CAUSE, .HVS_SHARE, .HVS_STATUS, .i_combOpen, .i_combEnding, .i_combCode, .i_ovldStart, .i_ovldClear,
        .i_ovldSeen, .i_modeMw, .i_wakeOn, .i_wakeAt, .i_wakeHeld, .i_wakeUnit, .i_wakeDie, .i_modeCause, .i_wakePin, .i_cmpBlankDt], Reg.ofEvents]
      [[.timHeld, .committed, .arrivals, .spans], Part.ofEvents] s s') ∧
    (∀ (d : Nat) (u : Nat) (w : Nat) (v : Nat) (s s' : State), exec (.cmpCtrlWrite d u w v) s = .next s' →
      Frame [[.CNV_CTRL, .CNV_STATUS, .CNV_OVLD_COUNT, .TRG_STATUS, .CMP_CTRL, .CMP_THRESH, .CMP_BLANK, .CMP_STATUS, .CMP_COUNT, .CMP_WIN,
        .PWR_MODE, .PWR_WAKE_CAUSE, .HVS_SHARE, .HVS_STATUS, .i_termAOn, .i_termBOn, .i_toutOrg, .i_toutOn, .i_patKnown, .i_seqCount,
        .i_termFrom, .i_combOpen, .i_combEnding, .i_combCode, .i_ovldStart, .i_ovldClear, .i_ovldSeen, .i_modeMw, .i_wakeOn, .i_wakeAt,
        .i_wakeHeld, .i_wakeUnit, .i_wakeDie, .i_modeCause, .i_wakePin, .i_cmpIn, .i_cmpPower, .i_cmpStart, .i_cmpSettleDt, .i_cmpBlankDt], Reg.ofEvents]
      [[.committed, .spans], Part.ofEvents] s s') ∧
    (∀ (d : Nat) (u : Nat) (agrees : Bool) (s s' : State), exec (.cmpSpareSwap d u agrees) s = .next s' →
      Frame [[.CNV_CTRL, .CNV_STATUS, .CNV_OVLD_COUNT, .CRD_STORE_STATUS, .CMP_COUNT, .CMP_WIN, .CMP_SPARE_MAP, .MBX_STATUS, .PWR_MODE,
        .PWR_WAKE_CAUSE, .BOB_STATUS, .BOB_ACTIVE, .i_combOpen, .i_combEnding, .i_combCode, .i_swapBlk, .i_rtTraining, .i_ovldStart,
        .i_ovldClear, .i_ovldSeen, .i_modeMw, .i_wakeOn, .i_wakeAt, .i_wakeHeld, .i_wakeUnit, .i_wakeDie, .i_modeCause, .i_wakePin,
        .i_cmpIn, .i_cmpPower, .i_cmpStart], Reg.ofHarvest, Reg.ofEvents]
      [[.outstanding, .kept, .bobbin, .flash, .snapshot, .spans], Part.ofHarvest, Part.ofEvents] s s')

/-- The frame of the commands of conditioning. For each command of conditioning, with every operand and from every state: when exec answers a
next state, every register but those listed reads as before at every index, every part of the state but those listed is as before (of
memory, every byte reads as before), and the waiting commands are as before. The lists named Reg.of… and Part.of… are what raising events
and the other shared effects that the rules give may change. Rests on R122, R128, R130, R131, R140. -/
def Obligations.FrameConditioning : Prop :=
  (∀ (d : Nat) (c : Nat) (v : Nat) (s s' : State), exec (.eqCtrlWrite d c v) s = .next s' →
      Frame [[.EQ_CTRL, .EQ_STATUS]] [[.fresh, .booked]] s s') ∧
    (∀ (d : Nat) (c : Nat) (b : Nat) (k : Nat) (v : Nat) (s s' : State), exec (.eqCoefWrite d c b k v) s = .next s' →
      Frame [[.EQ_STATUS, .EQ_COEF, .FIR_STATUS], Reg.ofEvents] [Part.ofEvents] s s') ∧
    (∀ (d : Nat) (c : Nat) (b : Nat) (k : Nat) (v : Nat) (s s' : State), exec (.firCoefWrite d c b k v) s = .next s' →
      Frame [[.EQ_STATUS, .FIR_STATUS, .FIR_COEF], Reg.ofEvents] [Part.ofEvents] s s') ∧
    (∀ (d : Nat) (c : Nat) (v : Nat) (s s' : State), exec (.firCtrlSwap d c v) s = .next s' →
      Frame [[.DEC_STATUS, .FIR_CTRL, .FIR_STATUS, .RSM_STATUS, .i_settleBlk, .i_settleTimed, .i_fadeWait, .i_fadeTo, .i_fadeFromPending,
        .i_fadeAt, .i_fadeTouch, .i_eqFrom], Reg.ofEvents]
      [[.fades, .booked], Part.ofEvents] s s') ∧
    (∀ (d : Nat) (c : Nat) (s s' : State), exec (.firFadeStart d c) s = .next s' →
      Frame [[.FIR_STATUS, .i_fadeWait, .i_fadeTo, .i_fadeFromPending, .i_fadeLen, .i_fadeAt, .i_fadeTouch], Reg.ofEvents]
      [[.fades], Part.ofEvents] s s') ∧
    (∀ (d : Nat) (c : Nat) (s s' : State), exec (.firFadeEnd d c) s = .next s' →
      Frame [[.FIR_STATUS, .i_fadeWait, .i_fadeTo, .i_fadeFromPending, .i_fadeLen, .i_fadeAt, .i_fadeTouch], Reg.ofEvents]
      [[.fades, .booked], Part.ofEvents] s s') ∧
    (∀ (d : Nat) (c : Nat) (r : Nat) (v : Nat) (s s' : State), exec (.condConfigWrite d c r v) s = .next s' →
      Frame [[.DEC_CTRL, .DEC_RATIO, .DEC_STATUS, .FIR_CTRL, .FIR_STATUS, .RSM_CTRL, .RSM_STATUS, .RSM_RATIO, .i_settleBlk, .i_settleTimed,
        .i_fadeWait, .i_fadeTo, .i_fadeFromPending, .i_fadeAt, .i_fadeTouch, .i_eqFrom], Reg.ofEvents]
      [[.fades, .booked], Part.ofEvents] s s') ∧
    (∀ (d : Nat) (c : Nat) (s s' : State), exec (.condSettled d c) s = .next s' →
      Frame [[.DEC_STATUS, .i_settleTimed], Reg.ofEvents] [Part.ofEvents] s s')

/-- The frame of the commands of display, overlays and scan-out. For each command of display, overlays and scan-out, with every operand and
from every state: when exec answers a next state, every register but those listed reads as before at every index, every part of the state
but those listed is as before (of memory, every byte reads as before), and the waiting commands are as before. The lists named Reg.of… and
Part.of… are what raising events and the other shared effects that the rules give may change. Rests on R252, R253, R254, R255, R256. -/
def Obligations.FrameDisplay : Prop :=
  (∀ (words : List (Nat × ReadWord) := []) (s s' : State), exec (.vblankStart words) s = .next s' →
      Frame [[.AUX_STATUS, .MEM_UE_COUNT, .MEM_UE_ADDR, .MEM_PC_CE, .STR_STATUS, .STR_GAP_SEQ, .SCN_STATUS, .SCN_FRAME, .SCN_OVL_CTRL,
        .SCN_OVL_STAT, .FRW_STATUS, .FRW_CRC, .MBX_STATUS, .PWR_DOMAIN, .SCN_CURVE, .SCN_PALETTE, .SCN_CURSOR, .HIST, .i_gapLogIdx,
        .i_accFrames, .i_timAct, .i_scnFirst, .i_scnRetrain, .i_ctlAct, .i_bgAct, .i_curAct, .i_wfAct, .i_curveAct, .i_palAct, .i_imageAct,
        .i_ovlAct, .i_farEven, .i_farOdd, .i_frwHold, .i_frwHist], Reg.ofEvents]
      [[.mem, .misread, .heldWrites, .acq, .layers, .pool, .outstanding, .kept, .booked], Part.ofEvents] s s') ∧
    (∀ (d : Nat) (v : Nat) (s s' : State), exec (.scnTimApply d v) s = .next s' →
      Frame [[.SCN_STATUS, .SCN_TIM_CTRL, .i_timPend]] [] s s') ∧
    (∀ (d : Nat) (l : Nat) (v : Nat) (s s' : State), exec (.scnOvlFlip d l v) s = .next s' →
      Frame [[.SCN_STATUS, .SCN_OVL_CTRL, .SCN_OVL_STAT], Reg.ofEvents] [[.layers], Part.ofEvents] s s') ∧
    (∀ (d : Nat) (l : Nat) (s s' : State), exec (.lineUnderrun d l) s = .next s' →
      Frame [[.SCN_STATUS, .SCN_UNDERRUN_COUNT], Reg.ofEvents] [Part.ofEvents] s s') ∧
    (∀ (d : Nat) (attempt : Option Nat) (s s' : State), exec (.linkTrainingDone d attempt) s = .next s' →
      Frame [[.SCN_STATUS], Reg.ofEvents] [Part.ofEvents] s s') ∧
    (∀ (d : Nat) (level : Bool) (s s' : State), exec (.hpdChange d level) s = .next s' →
      Frame [[.SCN_STATUS], Reg.ofEvents] [Part.ofEvents] s s') ∧
    (∀ (d : Nat) (lost : Bool) (s s' : State), exec (.hpdIrq d lost) s = .next s' →
      Frame [[.i_scnRetrain], Reg.ofEvents] [Part.ofEvents] s s')

/-- The frame of the commands of endurance and the bobbin pool. For each command of endurance and the bobbin pool, with every operand and from
every state: when exec answers a next state, every register but those listed reads as before at every index, every part of the state but
those listed is as before (of memory, every byte reads as before), and the waiting commands are as before. The lists named Reg.of… and
Part.of… are what raising events and the other shared effects that the rules give may change. Rests on R401, R405, R406, R410, R413, R418,
R419. -/
def Obligations.FrameEndurance : Prop :=
  (∀ (u : Nat) (cause : Nat) (s s' : State), exec (.unitWorn u cause) s = .next s' →
      Frame [[.CNV_STATUS, .MEM_PC_STAT, .CMP_SPARE_MAP, .PWR_DOMAIN, .BOB_STATUS, .BOB_ACTIVE, .BOB_SRAM, .i_bobAt, .i_laneSpare], Reg.ofHarvest, Reg.ofEvents]
      [[.bobbin], Part.ofHarvest, Part.ofEvents] s s') ∧
    (∀ (u : Nat) (cause : Nat) (s s' : State), exec (.unitLost u cause) s = .next s' →
      Frame [[.CNV_STATUS, .CNV_SLICE_MAP, .TRG_STATUS, .MEM_PC_STAT, .CMP_SPARE_MAP, .MBX_STATUS, .PWR_DOMAIN, .BOB_STATUS, .BOB_RETIRED,
        .BOB_ACTIVE, .BOB_SPL_LANES, .BOB_SPL_MARGIN, .BOB_SRAM, .i_termAOn, .i_termBOn, .i_toutOrg, .i_toutOn, .i_patKnown, .i_termFrom,
        .i_retireAt, .i_swapBlk, .i_rtTraining, .i_bobAt, .i_laneSpare], Reg.ofHarvest, Reg.ofEvents]
      [[.outstanding, .kept, .bobbin, .retiring], Part.ofHarvest, Part.ofEvents] s s') ∧
    (∀ (s s' : State), exec .maintClaimGrant s = .next s' →
      Frame [[.CNV_CTRL, .CNV_STATUS, .CRD_STATUS, .CRD_COMB_STATUS, .CRD_SLICE_STAT, .CRD_STORE_STATUS, .MEM_STATUS, .MEM_PC_STAT, .MEM_PC_CE,
        .STR_FILL, .ACC_HIST_ACQ, .CMP_SPARE_MAP, .MBX_STATUS, .PWR_DOMAIN, .HVS_STATUS, .BOB_STATUS, .BOB_SRAM, .MNT_RUNNING,
        .MNT_WAITING, .MNT_GROUP, .SVC_STATUS, .SVC_ATB, .SVC_RESULT, .HIST, .i_cardSuspended, .i_remapHold, .i_refitAt, .i_loopUs,
        .i_sliceTmo, .i_cardSuff, .i_cardAt, .i_cardInt, .i_starveAt, .i_starveLeft, .i_testDom, .i_combAt, .i_calOpen, .i_testDone,
        .i_combOpen, .i_combEnding, .i_combCode, .i_combStore, .i_swapBlk, .i_tmoAt, .i_bobAt, .i_laneAt, .i_mbxTook, .i_mbxTurn,
        .i_svcTestWait, .i_svcMeterAt], Reg.ofEvents]
      [[.mem, .misread, .acq, .library, .taken, .outstanding, .deferred, .running, .waiting, .flash, .snapshot, .cardErrs, .tapMoves, .spans], Part.ofEvents] s s') ∧
    (∀ (d : Nat) (s s' : State), exec (.rethreadSetup d) s = .next s' →
      Frame [[.CNV_STATUS, .CNV_SLICE_MAP, .CRD_TRIM, .CRD_SLICE_STAT, .BOB_STATUS, .BOB_ACTIVE, .MNT_RUNNING, .MNT_WAITING, .MNT_GROUP,
        .i_gainTap, .i_loopUs, .i_sliceTmo, .i_edgeSince, .i_rtTraining], Reg.ofEvents]
      [[.running, .waiting], Part.ofEvents] s s') ∧
    (∀ (d : Nat) (s s' : State), exec (.rethreadSwap d) s = .next s' →
      Frame [[.CNV_STATUS, .CNV_SLICE_MAP, .CRD_STORE_STATUS, .MBX_STATUS, .BOB_STATUS, .BOB_ACTIVE, .i_swapBlk, .i_swapDone, .i_rtTraining], Reg.ofHarvest, Reg.ofEvents]
      [[.acq, .outstanding, .kept, .bobbin, .flash, .snapshot], Part.ofHarvest, Part.ofEvents] s s') ∧
    (∀ (d : Nat) (h : Nat) (s s' : State), exec (.pcCopyDone d h) s = .next s' →
      Frame [[.BOB_ACTIVE, .MNT_RUNNING, .MNT_WAITING, .MNT_GROUP, .i_bobAt], Reg.ofEvents]
      [[.running, .waiting], Part.ofEvents] s s') ∧
    (∀ (d : Nat) (h : Nat) (s s' : State), exec (.remapHoldStart d h) s = .next s' →
      Frame [[.MEM_STATUS, .STR_FILL, .MNT_RUNNING, .MNT_WAITING, .MNT_GROUP, .i_remapHold], Reg.ofEvents]
      [[.acq, .running, .waiting], Part.ofEvents] s s') ∧
    (∀ (d : Nat) (h : Nat) (s s' : State), exec (.pcRemap d h) s = .next s' →
      Frame [[.MEM_STATUS, .MEM_PC_MAP, .MEM_PC_STAT, .STR_FILL, .MNT_RUNNING, .MNT_WAITING, .MNT_GROUP, .i_remapHold], Reg.ofEvents]
      [[.acq, .running, .waiting], Part.ofEvents] s s') ∧
    (∀ (d : Nat) (h : Nat) (s s' : State), exec (.remapHoldEnd d h) s = .next s' →
      Frame [[.CNV_STATUS, .CRD_STORE_STATUS, .MEM_STATUS, .MEM_PC_MAP, .MEM_PC_STAT, .STR_STATUS, .STR_FILL, .STR_GAP_SEQ, .MBX_STATUS,
        .BOB_STATUS, .BOB_ACTIVE, .i_gapLogIdx, .i_swapBlk, .i_rtTraining], Reg.ofHarvest, Reg.ofEvents]
      [[.mem, .heldWrites, .acq, .outstanding, .kept, .bobbin, .flash, .snapshot], Part.ofHarvest, Part.ofEvents] s s') ∧
    (∀ (d : Nat) (l : Nat) (s s' : State), exec (.spliceLaneCheck d l) s = .next s' →
      Frame [[.CNV_CTRL, .CNV_STATUS, .CRD_COMB_STATUS, .CRD_SLICE_STAT, .CRD_STORE_STATUS, .MEM_STATUS, .MEM_PC_STAT, .STR_FILL, .CMP_SPARE_MAP,
        .PWR_DOMAIN, .BOB_STATUS, .BOB_SRAM, .i_remapHold, .i_refitAt, .i_loopUs, .i_sliceTmo, .i_cardAt, .i_cardInt, .i_starveAt,
        .i_combAt, .i_combOpen, .i_combEnding, .i_combCode, .i_swapBlk, .i_tmoAt, .i_bobAt, .i_laneAt], Reg.ofHarvest, Reg.ofEvents]
      [[.acq, .outstanding, .flash, .snapshot, .spans], Part.ofHarvest, Part.ofEvents] s s') ∧
    (∀ (d : Nat) (l : Nat) (s s' : State), exec (.spliceLaneLoss d l) s = .next s' →
      Frame [[.CNV_STATUS, .CNV_SLICE_MAP, .TRG_STATUS, .MEM_PC_STAT, .CMP_SPARE_MAP, .MBX_STATUS, .PWR_DOMAIN, .BOB_STATUS, .BOB_RETIRED,
        .BOB_ACTIVE, .BOB_SPL_LANES, .BOB_SPL_MARGIN, .BOB_SRAM, .i_termAOn, .i_termBOn, .i_toutOrg, .i_toutOn, .i_patKnown, .i_termFrom,
        .i_retireAt, .i_swapBlk, .i_rtTraining, .i_bobAt, .i_laneSpare], Reg.ofHarvest, Reg.ofEvents]
      [[.outstanding, .kept, .bobbin, .retiring], Part.ofHarvest, Part.ofEvents] s s') ∧
    (∀ (d : Nat) (l : Nat) (margin : Nat) (s s' : State), exec (.spliceLaneRetrainDone d l margin) s = .next s' →
      Frame [[.CNV_STATUS, .CRD_STORE_STATUS, .TRG_STATUS, .MEM_PC_STAT, .CMP_SPARE_MAP, .MBX_STATUS, .PWR_DOMAIN, .BOB_STATUS, .BOB_RETIRED,
        .BOB_ACTIVE, .BOB_SPL_LANES, .BOB_SPL_MARGIN, .BOB_SRAM, .i_termAOn, .i_termBOn, .i_toutOrg, .i_toutOn, .i_patKnown, .i_termFrom,
        .i_retireAt, .i_swapBlk, .i_rtTraining, .i_bobAt, .i_laneSpare], Reg.ofHarvest, Reg.ofEvents]
      [[.outstanding, .kept, .bobbin, .retiring, .flash, .snapshot], Part.ofHarvest, Part.ofEvents] s s') ∧
    (∀ (d : Nat) (u : Nat) (steps : Nat) (switches : Bool) (s s' : State), exec (.comparatorDailyCheck d u steps switches) s = .next s' →
      Frame [[.CNV_STATUS, .CNV_SLICE_MAP, .TRG_STATUS, .MEM_PC_STAT, .CMP_SPARE_MAP, .MBX_STATUS, .PWR_DOMAIN, .BOB_STATUS, .BOB_RETIRED,
        .BOB_ACTIVE, .BOB_SPL_LANES, .BOB_SPL_MARGIN, .BOB_SRAM, .i_termAOn, .i_termBOn, .i_toutOrg, .i_toutOn, .i_patKnown, .i_termFrom,
        .i_retireAt, .i_swapBlk, .i_rtTraining, .i_bobAt, .i_laneSpare], Reg.ofHarvest, Reg.ofEvents]
      [[.outstanding, .kept, .bobbin, .retiring], Part.ofHarvest, Part.ofEvents] s s') ∧
    (∀ (d : Nat) (s s' : State), exec (.sramCopyDone d) s = .next s' →
      Frame [[.CNV_STATUS, .CRD_STORE_STATUS, .MBX_STATUS, .BOB_STATUS, .BOB_ACTIVE, .BOB_SRAM, .i_swapBlk, .i_rtTraining], Reg.ofHarvest, Reg.ofEvents]
      [[.outstanding, .kept, .bobbin, .flash, .snapshot], Part.ofHarvest, Part.ofEvents] s s') ∧
    (∀ (d : Nat) (h : Nat) (first : Nat) (n : Nat) (words : List ReadWord) (s s' : State), exec (.scrubGrant d h first n words) s = .next s' →
      Frame [[.MEM_UE_COUNT, .MEM_UE_ADDR, .MEM_SCRUB_STATUS, .MEM_SCRUB_CE, .MEM_PC_CE, .STR_STATUS, .STR_GAP_SEQ, .MNT_RUNNING, .MNT_WAITING,
        .MNT_GROUP, .i_gapLogIdx, .i_scrubFixed, .i_scrubPos], Reg.ofEvents]
      [[.mem, .heldWrites, .acq, .running, .waiting], Part.ofEvents] s s') ∧
    (∀ (u : Nat) (s s' : State), exec (.retirement u) s = .next s' →
      Frame [[.CNV_CTRL, .CNV_STATUS, .CNV_SLICE_MAP, .CRD_COMB_STATUS, .CRD_SLICE_STAT, .CRD_STORE_STATUS, .TRG_STATUS, .MEM_STATUS, .MEM_DEPTH,
        .MEM_PC_MAP, .MEM_PC_STAT, .MEM_PC_CE, .STR_MARK_LOST_COUNT, .ACC_STATUS, .ACC_AVG_DONE, .ACC_AVG_BATCH, .ACC_AVG_INCOMPLETE,
        .ACC_HIST_ACQ, .CMP_WIN, .CMP_SPARE_MAP, .QUE_CFG, .MBX_STATUS, .PWR_DOMAIN, .BOB_RETIRED, .BOB_ACTIVE, .BOB_SPL_LANES, .BOB_SRAM,
        .SVC_ATB, .HIST, .ACCUM, .i_linkL0, .i_termAOn, .i_termBOn, .i_toutOrg, .i_toutOn, .i_patKnown, .i_termFrom, .i_accWas,
        .i_accWasAt, .i_loopUs, .i_cardAt, .i_cardInt, .i_starveAt, .i_combOpen, .i_combEnding, .i_combCode, .i_retireAt, .i_swapBlk,
        .i_rtTraining, .i_engRetired, .i_bankRetired, .i_cmpRetired, .i_mbxTook, .i_mbxTurn], Reg.ofHarvest, Reg.ofSets, Reg.ofEvents]
      [[.misread, .acc, .pool, .taken, .outstanding, .kept, .bobbin, .retiring, .flash, .snapshot, .combFits, .spans], Part.ofHarvest, Part.ofSets, Part.ofEvents] s s')

/-- The frame of the commands of logic channels and interval units. For each command of logic channels and interval units, with every operand
and from every state: when exec answers a next state, every register but those listed reads as before at every index, every part of the
state but those listed is as before (of memory, every byte reads as before), and the waiting commands are as before. The lists named
Reg.of… and Part.of… are what raising events and the other shared effects that the rules give may change. Rests on R266, R267, R268, R273,
R274. -/
def Obligations.FrameLogic : Prop :=
  (∀ (d : Nat) (t : Nat) (balls : List (Int × Int)) (refs : Int × Int) (edges : List LogicEdge) (s s' : State), exec (.logicInputChange d t balls refs edges) s = .next s' →
      Frame [[.STR_INDEX, .STR_MARK_SEQ, .STR_MARK_LOST_COUNT, .LGC_SUPPRESS_COUNT, .LGC_STATE, .TIM_START_SRC, .TIM_STOP_SRC, .TIM_SUPPRESS,
        .i_lgcHold, .i_lgcComp, .i_lgcStart], Reg.ofSets, Reg.ofEvents]
      [[.timHeld, .arrivals], Part.ofSets, Part.ofEvents] s s') ∧
    (∀ (d : Nat) (i : Nat) (t : Nat) (pins : LogicPins) (s s' : State), exec (.logicHoldoffEnd d i t pins) s = .next s' →
      Frame [[.STR_INDEX, .STR_MARK_SEQ, .STR_MARK_LOST_COUNT, .LGC_SUPPRESS_COUNT, .LGC_STATE, .TIM_START_SRC, .TIM_STOP_SRC, .TIM_SUPPRESS,
        .i_lgcHold, .i_lgcComp, .i_lgcStart], Reg.ofSets, Reg.ofEvents]
      [[.timHeld, .arrivals], Part.ofSets, Part.ofEvents] s s') ∧
    (∀ (d : Nat) (i : Nat) (v : Nat) (s s' : State), exec (.logicModeWrite d i v) s = .next s' →
      Frame [[.LGC_CH_CFG, .LGC_STATE, .LGC_STATUS, .i_lgcHold, .i_lgcStart, .i_lgcOff, .i_lgcOffAt], Reg.ofEvents]
      [[.booked], Part.ofEvents] s s') ∧
    (∀ (d : Nat) (i : Nat) (v : Nat) (s s' : State), exec (.logicThreshWrite d i v) s = .next s' →
      Frame [[.LGC_CH_CFG, .LGC_STATE, .LGC_STATUS, .i_lgcHold, .i_lgcStart, .i_lgcOff, .i_lgcOffAt], Reg.ofEvents]
      [[.booked], Part.ofEvents] s s') ∧
    (∀ (d : Nat) (s s' : State), exec (.lcEscape d) s = .next s' →
      Frame [[.STR_STATUS, .STR_FILL], Reg.ofEvents] [[.mem, .acq], Part.ofEvents] s s') ∧
    (∀ (d : Nat) (u : Nat) (v : Nat) (s s' : State), exec (.timCtrlEnable d u v) s = .next s' →
      Frame [[.TIM_CTRL, .TIM_START_SRC, .TIM_STOP_SRC, .TIM_STATUS, .TIM_IGN_STOP, .TIM_IGN_START, .TIM_SUPPRESS, .TIM_TOTAL, .TIM_RES], Reg.ofHarvest, Reg.ofEvents]
      [[.tims, .timHeld], Part.ofHarvest, Part.ofEvents] s s') ∧
    (∀ (d : Nat) (u : Nat) (v : Nat) (s s' : State), exec (.timCtrlDisable d u v) s = .next s' →
      Frame [[.TIM_CTRL, .TIM_START_SRC, .TIM_STOP_SRC, .TIM_STATUS, .TIM_IGN_STOP, .TIM_IGN_START, .TIM_SUPPRESS, .TIM_TOTAL, .TIM_RES,
        .MBX_STATUS, .HVS_STATUS], Reg.ofEvents]
      [[.tims, .timHeld, .outstanding, .kept, .deferred], Part.ofEvents] s s') ∧
    (∀ (d : Nat) (u : Nat) (s s' : State), exec (.timEventProcess d u) s = .next s' →
      Frame [[.TIM_START_SRC, .TIM_STOP_SRC, .TIM_STATUS, .TIM_IGN_STOP, .TIM_IGN_START, .TIM_SUPPRESS, .TIM_TOTAL, .TIM_RES], Reg.ofEvents]
      [[.tims, .timHeld, .booked], Part.ofEvents] s s') ∧
    (∀ (d : Nat) (u : Nat) (s s' : State), exec (.timGateEnd d u) s = .next s' →
      Frame [[.TIM_START_SRC, .TIM_STOP_SRC, .TIM_STATUS, .TIM_IGN_STOP, .TIM_IGN_START, .TIM_SUPPRESS, .TIM_TOTAL, .TIM_RES], Reg.ofEvents]
      [[.tims, .timHeld, .booked], Part.ofEvents] s s') ∧
    (∀ (d : Nat) (u : Nat) (e : Nat) (w : Nat) (v : Nat) (s s' : State), exec (.timCueWrite d u e w v) s = .next s' →
      Frame [[.TIM_CUE], Reg.ofEvents] [Part.ofEvents] s s') ∧
    (∀ (d : Nat) (u : Nat) (e : Nat) (s s' : State), exec (.timCueFire d u e) s = .next s' →
      Frame [[.TIM_START_SRC, .TIM_STOP_SRC, .TIM_CUE, .TIM_SUPPRESS]] [[.timHeld, .fresh]] s s') ∧
    (∀ (d : Nat) (u : Nat) (s s' : State), exec (.timResRead d u) s = .next s' →
      Frame [[.TIM_STATUS, .TIM_RES]] [[.tims, .out]] s s')

/-- The frame of a register write. For a register write with every operand and from every state: when exec answers a next state, the waiting
commands and the instruction register of the test port are as before. A register write reaches every block, a warm reset among them, so it
has no shorter list; the writes of the other commands have frames of their own. Rests on R347, R446. -/
def Obligations.FrameRegisterWrite : Prop :=
  (∀ (d : Nat) (off : Nat) (size : Nat) (v : Option Nat) (s s' : State), exec (.registerWrite d off size v) s = .next s' →
      s'.pending = s.pending ∧
      (∀ k : RegKey, k.reg = .i_tapIr → s'.regs.get k = s.regs.get k))

/-- The frame of the commands of the trigger. For each command of the trigger, with every operand and from every state: when exec answers a
next state, every register but those listed reads as before at every index, every part of the state but those listed is as before (of
memory, every byte reads as before), and the waiting commands are as before. The lists named Reg.of… and Part.of… are what raising events
and the other shared effects that the rules give may change. Rests on R142, R150, R155, R167, R176, R178. -/
def Obligations.FrameTrigger : Prop :=
  (∀ (t : Instant) (xs : List ChanSample) (s s' : State), exec (.levelCrossing t xs) s = .next s' →
      Frame [[.CNV_STATUS, .CNV_CLIP_COUNT, .EQ_STATUS, .EQ_SAT_COUNT, .DEC_STATUS, .DEC_SAT_COUNT, .RSM_STATUS, .RSM_SAT_COUNT, .TRG_LEVEL_STAT], Reg.ofEvents]
      [[.counted, .arrivals], Part.ofEvents] s s') ∧
    (∀ (d : Nat) (c : Nat) (n : Nat) (v : Nat) (s s' : State), exec (.trgLevelWrite d c n v) s = .next s' →
      Frame [[.TRG_LEVEL]] [[.booked]] s s') ∧
    (∀ (d : Nat) (t : Nat) (w : Nat) (v : Nat) (s s' : State), exec (.termConfigWrite d t w v) s = .next s' →
      Frame [[.TRG_STATUS, .TRG_TERM_CFG, .TRG_TERM_T1, .TRG_TERM_T2, .TRG_PAT_ANA, .TRG_PAT_LOG, .TRG_SEQ_STATUS, .i_termAOn, .i_termBOn,
        .i_toutOrg, .i_toutOn, .i_patKnown, .i_termFrom], Reg.ofEvents]
      [[.booked], Part.ofEvents] s s') ∧
    (∀ (d : Nat) (t : Nat) (s s' : State), exec (.timeoutTermExpiry d t) s = .next s' →
      Frame [] [[.booked]] s s') ∧
    (∀ (d : Nat) (q : Nat) (s s' : State), exec (.withinDeadline d q) s = .next s' →
      Frame [[.TRG_SEQ_STATUS, .i_seqEntry, .i_seqCount, .i_seqEntryBlk]] [[.booked]] s s') ∧
    (∀ (d : Nat) (q : Nat) (s s' : State), exec (.autoTriggerDeadline d q) s = .next s' →
      Frame [[.TRG_LAST, .TRG_TRIG_COUNT, .ACQ_SKIP_COUNT, .STR_MARK_SEQ, .STR_MARK_LOST_COUNT, .i_seqEntry, .i_seqCount, .i_deadBlk,
        .i_seqEntryBlk, .i_holdEnd, .i_holdTimed, .i_holdLeft, .i_discards, .i_runLate, .i_runCoin, .i_runTaken, .i_runOther, .i_trigTotal], Reg.ofSets, Reg.ofEvents]
      [[.booked], Part.ofSets, Part.ofEvents] s s') ∧
    (∀ (d : Nat) (q : Nat) (s s' : State), exec (.deadTimeEnd d q) s = .next s' →
      Frame [[.TRG_SEQ_STATUS, .i_seqEntry, .i_seqCount, .i_seqFrom, .i_autoOrigin, .i_seqEntryBlk]] [] s s') ∧
    (∀ (d : Nat) (q : Nat) (s s' : State), exec (.holdoffTimeExpiry d q) s = .next s' →
      Frame [[.TRG_SEQ_STATUS, .i_autoOrigin, .i_holdTimed]] [[.booked]] s s') ∧
    (∀ (d : Nat) (q : Nat) (v : Nat) (s s' : State), exec (.trgForceWrite d q v) s = .next s' →
      Frame [[.TRG_LAST, .TRG_TRIG_COUNT, .TRG_FORCE_DROP_COUNT, .ACQ_SKIP_COUNT, .STR_MARK_SEQ, .STR_MARK_LOST_COUNT, .i_seqEntry, .i_seqCount,
        .i_deadBlk, .i_seqEntryBlk, .i_holdEnd, .i_holdTimed, .i_holdLeft, .i_discards, .i_runLate, .i_runCoin, .i_runTaken, .i_runOther,
        .i_trigTotal], Reg.ofSets, Reg.ofEvents]
      [[.arrivals], Part.ofSets, Part.ofEvents] s s')

/-- The frame of the commands of the mailbox commands of the blocks. For each command of the mailbox commands of the blocks, with every
operand and from every state: when exec answers a next state, every register but those listed reads as before at every index, every part
of the state but those listed is as before (of memory, every byte reads as before), and the waiting commands are as before. The lists
named Reg.of… and Part.of… are what raising events and the other shared effects that the rules give may change. Rests on R336, R345, R346,
R347. -/
def Obligations.FrameMailboxBlocks : Prop :=
  (∀ (h : MbxHdr) (ch : Nat) (ctrl : Nat) (count : Nat) (len : Nat) (start : Nat) (s s' : State), exec (.accSetAvg h ch ctrl count len start) s = .next s' →
      Frame [[.ACC_CTRL, .ACC_STATUS, .ACC_AVG_COUNT, .ACC_AVG_START, .ACC_AVG_LEN, .i_accWas, .i_accWasAt], Reg.ofMailbox, Reg.ofEvents]
      [[.booked], Part.ofMailbox, Part.ofEvents] s s') ∧
    (∀ (h : MbxHdr) (ch : Nat) (y : Nat) (decay : Nat) (period : Nat) (origin : Nat) (step : Nat) (excl : Nat) (s s' : State), exec (.accSetHist h ch y decay period origin step excl) s = .next s' →
      Frame [[.ACC_STATUS, .ACC_HIST_X_ORIGIN, .ACC_HIST_X_STEP, .ACC_HIST_Y, .ACC_DECAY, .ACC_FRAME_PERIOD, .ACC_EXCL], Reg.ofMailbox, Reg.ofEvents]
      [[.booked], Part.ofMailbox, Part.ofEvents] s s') ∧
    (∀ (h : MbxHdr) (ch : Nat) (v : Nat) (freeze : Nat) (s s' : State), exec (.accCmd h ch v freeze) s = .next s' →
      Frame [[.MEM_PC_CE, .ACC_CTRL, .ACC_STATUS, .ACC_AVG_DONE, .ACC_AVG_BATCH, .ACC_HIST_ACQ, .HIST, .ACCUM, .i_accFrames, .i_accWas,
        .i_accWasAt, .i_accDecayAt], Reg.ofHarvest, Reg.ofMailbox, Reg.ofEvents]
      [[.misread, .acc, .booked], Part.ofHarvest, Part.ofMailbox, Part.ofEvents] s s') ∧
    (∀ (h : MbxHdr) (ch : Nat) (size : Nat) (addr : Nat) (s s' : State), exec (.accReadAvg h ch size addr) s = .next s' →
      Frame [Reg.ofMailbox, Reg.ofEvents] [Part.ofMailbox, Part.ofEvents] s s') ∧
    (∀ (h : MbxHdr) (ch : Nat) (addr : Nat) (s s' : State), exec (.accReadHist h ch addr) s = .next s' →
      Frame [Reg.ofMailbox, Reg.ofEvents] [Part.ofMailbox, Part.ofEvents] s s') ∧
    (∀ (h : MbxHdr) (size : Nat) (s s' : State), exec (.poolAlloc h size) s = .next s' →
      Frame [Reg.ofMailbox, Reg.ofEvents] [[.pool], Part.ofMailbox, Part.ofEvents] s s') ∧
    (∀ (h : MbxHdr) (offset : Nat) (s s' : State), exec (.poolRelease h offset) s = .next s' →
      Frame [Reg.ofMailbox, Reg.ofEvents] [[.pool, .booked], Part.ofMailbox, Part.ofEvents] s s') ∧
    (∀ (h : MbxHdr) (write : Nat) (len : Nat) (addr : Nat) (sent : List Byte) (data : Option (List Byte)) (s s' : State), exec (.dpcd h write len addr sent data) s = .next s' →
      Frame [Reg.ofMailbox, Reg.ofEvents] [Part.ofMailbox, Part.ofEvents] s s') ∧
    (∀ (h : MbxHdr) (block : Nat) (addr : Nat) (s s' : State), exec (.edidRead h block addr) s = .next s' →
      Frame [Reg.ofMailbox, Reg.ofEvents] [Part.ofMailbox, Part.ofEvents] s s') ∧
    (∀ (h : MbxHdr) (s s' : State), exec (.dispStatus h) s = .next s' →
      Frame [[.SCN_STATUS, .SCN_FRAME, .FRW_STATUS, .FRW_CRC], Reg.ofMailbox, Reg.ofEvents]
      [Part.ofMailbox, Part.ofEvents] s s') ∧
    (∀ (h : MbxHdr) (i : Nat) (v : Nat) (s s' : State), exec (.lgcSet h i v) s = .next s' →
      Frame [[.LGC_CH_CFG, .LGC_STATE, .LGC_STATUS, .i_lgcHold, .i_lgcStart, .i_lgcOff, .i_lgcOffAt], Reg.ofMailbox, Reg.ofEvents]
      [[.booked], Part.ofMailbox, Part.ofEvents] s s') ∧
    (∀ (h : MbxHdr) (v : Nat) (s s' : State), exec (.lgcMask h v) s = .next s' →
      Frame [[.LGC_CTRL, .i_lgcMask, .i_lgcMaskAt], Reg.ofMailbox, Reg.ofEvents]
      [Part.ofMailbox, Part.ofEvents] s s') ∧
    (∀ (h : MbxHdr) (u : Nat) (ctrl : Nat) (start : Nat) (stopSrc : Nat) (gate : Nat) (n : Nat) (s s' : State), exec (.timSet h u ctrl start stopSrc gate n) s = .next s' →
      Frame [[.TIM_CTRL, .TIM_START_SRC, .TIM_STOP_SRC, .TIM_GATE, .TIM_N, .TIM_STATUS, .TIM_IGN_STOP, .TIM_IGN_START, .TIM_SUPPRESS, .TIM_TOTAL,
        .TIM_RES], Reg.ofMailbox, Reg.ofEvents]
      [[.tims, .timHeld], Part.ofMailbox, Part.ofEvents] s s') ∧
    (∀ (h : MbxHdr) (u : Nat) (en : Nat) (s s' : State), exec (.timEn h u en) s = .next s' →
      Frame [[.TIM_CTRL, .TIM_START_SRC, .TIM_STOP_SRC, .TIM_STATUS, .TIM_IGN_STOP, .TIM_IGN_START, .TIM_SUPPRESS, .TIM_TOTAL, .TIM_RES], Reg.ofHarvest, Reg.ofMailbox, Reg.ofEvents]
      [[.tims, .timHeld, .booked], Part.ofHarvest, Part.ofMailbox, Part.ofEvents] s s') ∧
    (∀ (h : MbxHdr) (u : Nat) (s s' : State), exec (.timRead h u) s = .next s' →
      Frame [[.TIM_STATUS, .TIM_RES], Reg.ofMailbox, Reg.ofEvents]
      [[.tims], Part.ofMailbox, Part.ofEvents] s s') ∧
    (∀ (h : MbxHdr) (u : Nat) (ctrl : Nat) (thresh : Nat) (blank : Nat) (s s' : State), exec (.cmpSet h u ctrl thresh blank) s = .next s' →
      Frame [[.CNV_CTRL, .CNV_STATUS, .CNV_OVLD_COUNT, .TRG_STATUS, .CMP_CTRL, .CMP_THRESH, .CMP_BLANK, .CMP_STATUS, .CMP_COUNT, .CMP_WIN,
        .PWR_MODE, .PWR_WAKE_CAUSE, .HVS_SHARE, .HVS_STATUS, .i_termAOn, .i_termBOn, .i_toutOrg, .i_toutOn, .i_patKnown, .i_seqCount,
        .i_termFrom, .i_combOpen, .i_combEnding, .i_combCode, .i_ovldStart, .i_ovldClear, .i_ovldSeen, .i_modeMw, .i_wakeOn, .i_wakeAt,
        .i_wakeHeld, .i_wakeUnit, .i_wakeDie, .i_modeCause, .i_wakePin, .i_cmpIn, .i_cmpPower, .i_cmpStart, .i_cmpSettleDt, .i_cmpBlankDt], Reg.ofMailbox, Reg.ofEvents]
      [[.committed, .spans], Part.ofMailbox, Part.ofEvents] s s') ∧
    (∀ (h : MbxHdr) (u : Nat) (s s' : State), exec (.cmpStatus h u) s = .next s' →
      Frame [[.CMP_STATUS, .CMP_WIN, .CMP_SPARE_MAP], Reg.ofMailbox, Reg.ofEvents]
      [Part.ofMailbox, Part.ofEvents] s s') ∧
    (∀ (h : MbxHdr) (policy : Nat) (cap : Nat) (budget : Nat) (s s' : State), exec (.allowanceSet h policy cap budget) s = .next s' →
      Frame [[.CNV_CTRL, .CNV_STATUS, .CRD_COMB_STATUS, .CRD_SLICE_STAT, .CRD_STORE_STATUS, .TRG_SEQ_STATUS, .ACQ_STATUS, .ACQ_OPEN_SLOT,
        .MEM_PC_STAT, .MEM_PC_CE, .STR_STATUS, .STR_FILL, .STR_GAP_SEQ, .ACC_STATUS, .ACC_AVG_DONE, .ACC_AVG_BATCH, .ACC_HIST_ACQ,
        .TIM_CTRL, .TIM_START_SRC, .TIM_STOP_SRC, .TIM_STATUS, .TIM_IGN_STOP, .TIM_IGN_START, .TIM_SUPPRESS, .TIM_TOTAL, .TIM_RES,
        .CMP_SPARE_MAP, .PWR_MODE, .PWR_DOMAIN, .HVS_ALLOW, .HVS_CAP, .HVS_BUDGET, .HVS_LEDGER, .BOB_STATUS, .BOB_ACTIVE, .BOB_SRAM,
        .SVC_STATUS, .SVC_ATB, .SVC_RESULT, .HIST, .ACCUM, .i_accFrames, .i_accWas, .i_accWasAt, .i_accDecayAt, .i_refitAt, .i_loopUs,
        .i_cardAt, .i_cardInt, .i_starveAt, .i_testDom, .i_combAt, .i_calOpen, .i_testDone, .i_combOpen, .i_combEnding, .i_combCode,
        .i_combStore, .i_swapBlk, .i_swapDone, .i_rtTraining, .i_bobAt, .i_laneAt, .i_laneSpare, .i_modeMw, .i_modeCause, .i_svcTestWait,
        .i_svcMeterAt], Reg.ofArm, Reg.ofHarvest, Reg.ofMailbox, Reg.ofEvents]
      [[.mem, .misread, .heldWrites, .acq, .tims, .timHeld, .acc, .library, .bobbin, .flash, .snapshot, .spans], Part.ofHarvest, Part.ofMailbox, Part.ofEvents] s s') ∧
    (∀ (h : MbxHdr) (s s' : State), exec (.ledger h) s = .next s' →
      Frame [Reg.ofMailbox, Reg.ofEvents] [Part.ofMailbox, Part.ofEvents] s s') ∧
    (∀ (h : MbxHdr) (addr : Nat) (s s' : State), exec (.costRead h addr) s = .next s' →
      Frame [[.COST], Reg.ofMailbox, Reg.ofEvents] [Part.ofMailbox, Part.ofEvents] s s') ∧
    (∀ (h : MbxHdr) (addr : Nat) (s s' : State), exec (.wearRead h addr) s = .next s' →
      Frame [Reg.ofMailbox, Reg.ofEvents] [Part.ofMailbox, Part.ofEvents] s s') ∧
    (∀ (h : MbxHdr) (unit : Nat) (s s' : State), exec (.rethread h unit) s = .next s' →
      Frame [[.CNV_STATUS, .MEM_PC_STAT, .CMP_SPARE_MAP, .PWR_DOMAIN, .BOB_STATUS, .BOB_ACTIVE, .BOB_SRAM, .i_bobAt, .i_laneSpare], Reg.ofHarvest, Reg.ofMailbox, Reg.ofEvents]
      [[.bobbin, .booked], Part.ofHarvest, Part.ofMailbox, Part.ofEvents] s s') ∧
    (∀ (h : MbxHdr) (s s' : State), exec (.maintStatus h) s = .next s' →
      Frame [[.MNT_RUNNING, .MNT_WAITING], Reg.ofMailbox, Reg.ofEvents] [Part.ofMailbox, Part.ofEvents] s s') ∧
    (∀ (h : MbxHdr) (s s' : State), exec (.skeinStatus h) s = .next s' →
      Frame [Reg.ofMailbox, Reg.ofEvents] [Part.ofMailbox, Part.ofEvents] s s') ∧
    (∀ (h : MbxHdr) (ctrl : Nat) (sel : Nat) (gseq : Nat) (holdoff : Nat) (s s' : State), exec (.skeinSet h ctrl sel gseq holdoff) s = .next s' →
      Frame [[.XTO_STATUS, .SKN_CTRL, .SKN_TRIG_SEL, .SKN_GSEQ_CTRL, .SKN_GSEQ_HOLDOFF, .SKN_STATUS, .SKN_PORT_STATUS, .SKN_GSEQ_STATUS,
        .i_phaseOrg, .i_inOn, .i_refAwait, .i_joinDone, .i_skEchoN, .i_skEchoPos, .i_skEchoWait, .i_skPrevOn, .i_skMiss, .i_skBcast,
        .i_skAck, .i_skCause, .i_skSeen, .i_skBelow, .i_skSent, .i_skErrSum, .i_skErrN, .i_gsEntry, .i_gsCount, .i_gsDead, .i_gsHold,
        .i_gsCoin, .i_gsLate, .i_gsTaken, .i_gsOther], Reg.ofMailbox, Reg.ofEvents]
      [[.summaries, .booked], Part.ofMailbox, Part.ofEvents] s s') ∧
    (∀ (h : MbxHdr) (port : Nat) (ofs : Nat) (s s' : State), exec (.skeinMeasure h port ofs) s = .next s' →
      Frame [[.i_skEchoId, .i_skEchoT1, .i_skEchoWait, .i_skEchoAt], Reg.ofMailbox, Reg.ofEvents]
      [Part.ofMailbox, Part.ofEvents] s s') ∧
    (∀ (h : MbxHdr) (port : Nat) (s s' : State), exec (.skeinUnfence h port) s = .next s' →
      Frame [[.XTO_STATUS, .SKN_STATUS, .SKN_PORT_STATUS, .SKN_PORT_VIOL, .i_inOn, .i_refAwait, .i_joinDone, .i_skEchoN, .i_skEchoPos,
        .i_skEchoWait, .i_skPrevOn, .i_skViolN, .i_skViolPos, .i_skAck, .i_skCause, .i_skBelow, .i_skErrSum, .i_skErrN], Reg.ofMailbox, Reg.ofEvents]
      [Part.ofMailbox, Part.ofEvents] s s') ∧
    (∀ (h : MbxHdr) (s s' : State), exec (.diagSensors h) s = .next s' →
      Frame [Reg.ofMailbox, Reg.ofEvents] [Part.ofMailbox, Part.ofEvents] s s') ∧
    (∀ (h : MbxHdr) (s s' : State), exec (.svcState h) s = .next s' →
      Frame [Reg.ofMailbox, Reg.ofEvents] [Part.ofMailbox, Part.ofEvents] s s') ∧
    (∀ (h : MbxHdr) (s s' : State), exec (.fwStatus h) s = .next s' →
      Frame [Reg.ofMailbox, Reg.ofEvents] [Part.ofMailbox, Part.ofEvents] s s') ∧
    (∀ (h : MbxHdr) (offset : Nat) (length : Nat) (bytes : List Byte) (s s' : State), exec (.fwStage h offset length bytes) s = .next s' →
      Frame [[.i_fwJob], Reg.ofMailbox, Reg.ofEvents] [[.flash], Part.ofMailbox, Part.ofEvents] s s') ∧
    (∀ (h : MbxHdr) (s s' : State), exec (.fwVerify h) s = .next s' →
      Frame [[.i_fwJob], Reg.ofMailbox, Reg.ofEvents] [Part.ofMailbox, Part.ofEvents] s s') ∧
    (∀ (h : MbxHdr) (image : Nat) (s s' : State), exec (.fwSelect h image) s = .next s' →
      Frame [[.BOOT_STATUS], Reg.ofMailbox, Reg.ofEvents] [[.flash], Part.ofMailbox, Part.ofEvents] s s') ∧
    (∀ (h : MbxHdr) (s s' : State), exec (.flashInfo h) s = .next s' →
      Frame [Reg.ofMailbox, Reg.ofEvents] [Part.ofMailbox, Part.ofEvents] s s')

/-- The frame of the commands of the mailbox commands of the signal path. For each command of the mailbox commands of the signal path, with
every operand and from every state: when exec answers a next state, every register but those listed reads as before at every index, every
part of the state but those listed is as before (of memory, every byte reads as before), and the waiting commands are as before. The lists
named Reg.of… and Part.of… are what raising events and the other shared effects that the rules give may change. Rests on R336, R345, R346,
R347. -/
def Obligations.FrameMailboxSignal : Prop :=
  (∀ (h : MbxHdr) (ch : Nat) (v : Nat) (s s' : State), exec (.eqSet h ch v) s = .next s' →
      Frame [[.EQ_CTRL, .EQ_STATUS], Reg.ofMailbox, Reg.ofEvents]
      [[.booked], Part.ofMailbox, Part.ofEvents] s s') ∧
    (∀ (h : MbxHdr) (ch : Nat) (bank : Nat) (words : List Nat) (s s' : State), exec (.eqLoad h ch bank words) s = .next s' →
      Frame [[.EQ_STATUS, .EQ_COEF, .FIR_STATUS], Reg.ofMailbox, Reg.ofEvents]
      [Part.ofMailbox, Part.ofEvents] s s') ∧
    (∀ (h : MbxHdr) (ch : Nat) (ctrl : Nat) (ratio : Nat) (fir : Nat) (s s' : State), exec (.decSet h ch ctrl ratio fir) s = .next s' →
      Frame [[.DEC_CTRL, .DEC_RATIO, .DEC_STATUS, .FIR_CTRL, .FIR_STATUS, .RSM_CTRL, .RSM_STATUS, .RSM_RATIO, .i_settleBlk, .i_settleTimed,
        .i_fadeWait, .i_fadeTo, .i_fadeFromPending, .i_fadeAt, .i_fadeTouch, .i_eqFrom], Reg.ofMailbox, Reg.ofEvents]
      [[.fades, .booked], Part.ofMailbox, Part.ofEvents] s s') ∧
    (∀ (h : MbxHdr) (ch : Nat) (bank : Nat) (words : List Nat) (s s' : State), exec (.firLoad h ch bank words) s = .next s' →
      Frame [[.EQ_STATUS, .FIR_STATUS, .FIR_COEF], Reg.ofMailbox, Reg.ofEvents]
      [Part.ofMailbox, Part.ofEvents] s s') ∧
    (∀ (h : MbxHdr) (ch : Nat) (bank : Nat) (s s' : State), exec (.firSwap h ch bank) s = .next s' →
      Frame [[.FIR_STATUS, .i_fadeWait, .i_fadeTo, .i_fadeFromPending, .i_fadeAt, .i_fadeTouch], Reg.ofMailbox, Reg.ofEvents]
      [Part.ofMailbox, Part.ofEvents] s s') ∧
    (∀ (h : MbxHdr) (ch : Nat) (v : Nat) (ratio : Nat) (s s' : State), exec (.rsmSet h ch v ratio) s = .next s' →
      Frame [[.DEC_STATUS, .FIR_STATUS, .RSM_CTRL, .RSM_STATUS, .RSM_RATIO, .i_settleBlk, .i_settleTimed, .i_fadeWait, .i_fadeAt, .i_fadeTouch,
        .i_eqFrom], Reg.ofMailbox, Reg.ofEvents]
      [[.fades, .booked], Part.ofMailbox, Part.ofEvents] s s') ∧
    (∀ (h : MbxHdr) (ch : Nat) (s s' : State), exec (.condStatus h ch) s = .next s' →
      Frame [[.EQ_STATUS, .DEC_STATUS, .FIR_STATUS, .RSM_STATUS], Reg.ofMailbox, Reg.ofEvents]
      [Part.ofMailbox, Part.ofEvents] s s') ∧
    (∀ (h : MbxHdr) (ch : Nat) (n : Nat) (v : Nat) (s s' : State), exec (.levelSet h ch n v) s = .next s' →
      Frame [[.TRG_LEVEL], Reg.ofMailbox, Reg.ofEvents] [[.booked], Part.ofMailbox, Part.ofEvents] s s') ∧
    (∀ (h : MbxHdr) (t : Nat) (cfg : Nat) (t1 : Nat) (t2 : Nat) (ana : Nat) (log : Nat) (s s' : State), exec (.termSet h t cfg t1 t2 ana log) s = .next s' →
      Frame [[.TRG_STATUS, .TRG_TERM_CFG, .TRG_TERM_T1, .TRG_TERM_T2, .TRG_PAT_ANA, .TRG_PAT_LOG, .TRG_SEQ_STATUS, .i_termAOn, .i_termBOn,
        .i_toutOrg, .i_toutOn, .i_patKnown, .i_termFrom], Reg.ofMailbox, Reg.ofEvents]
      [[.booked], Part.ofMailbox, Part.ofEvents] s s') ∧
    (∀ (h : MbxHdr) (q : Nat) (ctrl : Nat) (table : List Nat) (timeout : Nat) (holdoff : Nat) (s s' : State), exec (.seqSet h q ctrl table timeout holdoff) s = .next s' →
      Frame [[.TRG_SEQ_CTRL, .TRG_SEQ_STATUS, .TRG_AUTO_TIMEOUT, .TRG_HOLDOFF, .SEQ_STATE], Reg.ofMailbox, Reg.ofEvents]
      [[.booked], Part.ofMailbox, Part.ofEvents] s s') ∧
    (∀ (h : MbxHdr) (ch : Nat) (e : Nat) (words : List Nat) (s s' : State), exec (.curveLoad h ch e words) s = .next s' →
      Frame [[.TRG_SEQ_STATUS, .TRG_CURVE], Reg.ofMailbox, Reg.ofEvents]
      [[.booked], Part.ofMailbox, Part.ofEvents] s s') ∧
    (∀ (h : MbxHdr) (ch : Nat) (v : Nat) (s s' : State), exec (.chRoute h ch v) s = .next s' →
      Frame [[.TRG_CH_CFG, .TRG_STATUS], Reg.ofMailbox, Reg.ofEvents]
      [[.booked], Part.ofMailbox, Part.ofEvents] s s') ∧
    (∀ (h : MbxHdr) (v : Nat) (s s' : State), exec (.logicRoute h v) s = .next s' →
      Frame [[.TRG_CTRL, .TRG_STATUS], Reg.ofMailbox, Reg.ofEvents]
      [[.booked], Part.ofMailbox, Part.ofEvents] s s') ∧
    (∀ (h : MbxHdr) (q : Nat) (s s' : State), exec (.force h q) s = .next s' →
      Frame [[.TRG_LAST, .TRG_TRIG_COUNT, .TRG_FORCE_DROP_COUNT, .ACQ_SKIP_COUNT, .STR_MARK_SEQ, .STR_MARK_LOST_COUNT, .i_seqEntry, .i_seqCount,
        .i_deadBlk, .i_seqEntryBlk, .i_holdEnd, .i_holdTimed, .i_holdLeft, .i_discards, .i_runLate, .i_runCoin, .i_runTaken, .i_runOther,
        .i_trigTotal], Reg.ofSets, Reg.ofMailbox, Reg.ofEvents]
      [[.arrivals], Part.ofSets, Part.ofMailbox, Part.ofEvents] s s') ∧
    (∀ (h : MbxHdr) (q : Nat) (s s' : State), exec (.trigStatus h q) s = .next s' →
      Frame [[.TRG_SEQ_STATUS, .TRG_LAST], Reg.ofMailbox, Reg.ofEvents] [Part.ofMailbox, Part.ofEvents] s s') ∧
    (∀ (h : MbxHdr) (set : Nat) (disc : Nat) (wrap : Nat) (spill : Nat) (nseg : Nat) (segLen : Nat) (pre : Nat) (post : Nat) (spillMib : Nat) (dataQ : Nat) (markQ : Nat) (gapQ : Nat) (s s' : State), exec (.acqSet h set disc wrap spill nseg segLen pre post spillMib dataQ markQ gapQ) s = .next s' →
      Frame [[.ACQ_CTRL, .ACQ_STATUS, .ACQ_SEG_LEN, .ACQ_NSEG, .ACQ_PRE, .ACQ_POST, .ACQ_SPILL_BUF, .STR_DATA_RING, .STR_AUX_RINGS, .STR_STATUS], Reg.ofMailbox, Reg.ofEvents]
      [[.booked], Part.ofMailbox, Part.ofEvents] s s') ∧
    (∀ (h : MbxHdr) (set : Nat) (v : Nat) (s s' : State), exec (.strSet h set v) s = .next s' →
      Frame [[.ACQ_STATUS, .STR_CTRL, .STR_STATUS], Reg.ofMailbox, Reg.ofEvents]
      [[.booked], Part.ofMailbox, Part.ofEvents] s s') ∧
    (∀ (h : MbxHdr) (set : Nat) (s s' : State), exec (.arm h set) s = .next s' →
      Frame [[.TRG_SEQ_STATUS, .ACQ_STATUS, .ACQ_OPEN_SLOT, .STR_STATUS, .STR_FILL, .STR_GAP_SEQ, .i_swapDone], Reg.ofArm, Reg.ofHarvest, Reg.ofMailbox, Reg.ofEvents]
      [[.mem, .heldWrites, .acq, .library, .booked], Part.ofHarvest, Part.ofMailbox, Part.ofEvents] s s') ∧
    (∀ (h : MbxHdr) (set : Nat) (s s' : State), exec (.stop h set) s = .next s' →
      Frame [[.HVS_STATUS, .i_stopAsked, .i_stopAt], Reg.ofMailbox, Reg.ofEvents]
      [[.acq, .deferred], Part.ofMailbox, Part.ofEvents] s s') ∧
    (∀ (h : MbxHdr) (set : Nat) (s s' : State), exec (.acqStatus h set) s = .next s' →
      Frame [[.ACQ_STATUS, .ACQ_SEG_COUNT, .STR_STATUS, .STR_INDEX], Reg.ofMailbox, Reg.ofEvents]
      [Part.ofMailbox, Part.ofEvents] s s') ∧
    (∀ (h : MbxHdr) (k : Nat) (s s' : State), exec (.memStatus h k) s = .next s' →
      Frame [[.MEM_STATUS, .MEM_DEPTH, .MEM_SCRUB_STATUS], Reg.ofMailbox, Reg.ofEvents]
      [Part.ofMailbox, Part.ofEvents] s s') ∧
    (∀ (h : MbxHdr) (set : Nat) (term : Nat) (mask : Nat) (value : Nat) (most : Nat) (lo : Nat) (hi : Nat) (addr : Nat) (s s' : State), exec (.libQuery h set term mask value most lo hi addr) s = .next s' →
      Frame [Reg.ofMailbox, Reg.ofEvents] [Part.ofMailbox, Part.ofEvents] s s') ∧
    (∀ (h : MbxHdr) (set : Nat) (what : Nat) (dataQ : Nat) (seq : Nat) (s s' : State), exec (.libSegment h set what dataQ seq) s = .next s' →
      Frame [Reg.ofMailbox, Reg.ofEvents] [[.deliveries], Part.ofMailbox, Part.ofEvents] s s') ∧
    (∀ (h : MbxHdr) (set : Nat) (dataQ : Nat) (points : Nat) (seq : Nat) (s s' : State), exec (.libOverview h set dataQ points seq) s = .next s' →
      Frame [Reg.ofMailbox, Reg.ofEvents] [[.deliveries], Part.ofMailbox, Part.ofEvents] s s') ∧
    (∀ (h : MbxHdr) (set : Nat) (dataQ : Nat) (lo : Nat) (hi : Nat) (s s' : State), exec (.libSpan h set dataQ lo hi) s = .next s' →
      Frame [Reg.ofMailbox, Reg.ofEvents] [[.deliveries], Part.ofMailbox, Part.ofEvents] s s') ∧
    (∀ (h : MbxHdr) (set : Nat) (s s' : State), exec (.libStatus h set) s = .next s' →
      Frame [Reg.ofMailbox, Reg.ofEvents] [Part.ofMailbox, Part.ofEvents] s s')

/-- The frame of the commands of the mailbox commands of the system. For each command of the mailbox commands of the system, with every
operand and from every state: when exec answers a next state, every register but those listed reads as before at every index, every part
of the state but those listed is as before (of memory, every byte reads as before), and the waiting commands are as before. The lists
named Reg.of… and Part.of… are what raising events and the other shared effects that the rules give may change. Rests on R336, R345, R346,
R347. -/
def Obligations.FrameMailboxSystem : Prop :=
  (∀ (h : MbxHdr) (s s' : State), exec (.nop h) s = .next s' →
      Frame [Reg.ofMailbox, Reg.ofEvents] [Part.ofMailbox, Part.ofEvents] s s') ∧
    (∀ (h : MbxHdr) (s s' : State), exec (.version h) s = .next s' →
      Frame [Reg.ofMailbox, Reg.ofEvents] [Part.ofMailbox, Part.ofEvents] s s') ∧
    (∀ (h : MbxHdr) (mode : Nat) (s s' : State), exec (.modeSet h mode) s = .next s' →
      Frame [[.CNV_CTRL, .CNV_STATUS, .CRD_COMB_STATUS, .CRD_SLICE_STAT, .CRD_STORE_STATUS, .MEM_STATUS, .MEM_PC_STAT, .STR_FILL, .CMP_SPARE_MAP,
        .PWR_MODE, .PWR_DOMAIN, .PWR_WAKE_CAUSE, .BOB_STATUS, .BOB_SRAM, .i_remapHold, .i_refitAt, .i_loopUs, .i_sliceTmo, .i_cardAt,
        .i_cardInt, .i_starveAt, .i_combAt, .i_combOpen, .i_combEnding, .i_combCode, .i_swapBlk, .i_tmoAt, .i_bobAt, .i_laneAt, .i_modeMw,
        .i_wakeOn, .i_wakeAt, .i_wakeHeld, .i_wakeUnit, .i_wakeDie, .i_modeCause, .i_wakePin], Reg.ofHarvest, Reg.ofMailbox, Reg.ofEvents]
      [[.acq, .flash, .snapshot, .spans, .booked], Part.ofHarvest, Part.ofMailbox, Part.ofEvents] s s') ∧
    (∀ (h : MbxHdr) (s s' : State), exec (.modeGet h) s = .next s' →
      Frame [Reg.ofMailbox, Reg.ofEvents] [Part.ofMailbox, Part.ofEvents] s s') ∧
    (∀ (h : MbxHdr) (tag : Nat) (s s' : State), exec (.longResult h tag) s = .next s' →
      Frame [Reg.ofMailbox, Reg.ofEvents] [Part.ofMailbox, Part.ofEvents] s s') ∧
    (∀ (h : MbxHdr) (tag : Nat) (s s' : State), exec (.abort h tag) s = .next s' →
      Frame [[.CNV_CTRL, .CNV_STATUS, .CRD_COMB_STATUS, .CRD_STORE_STATUS, .ACQ_STATUS, .MEM_PC_STAT, .MEM_PC_CE, .ACC_STATUS, .ACC_AVG_DONE,
        .ACC_AVG_BATCH, .ACC_HIST_ACQ, .TIM_STATUS, .CMP_SPARE_MAP, .PWR_DOMAIN, .BOB_STATUS, .BOB_ACTIVE, .BOB_SRAM, .HIST, .ACCUM,
        .i_accFrames, .i_accWas, .i_accWasAt, .i_accDecayAt, .i_combOpen, .i_combEnding, .i_combCode, .i_swapBlk, .i_rtTraining, .i_bobAt,
        .i_laneSpare], Reg.ofHarvest, Reg.ofMailbox, Reg.ofEvents]
      [[.misread, .acc, .pool, .deliveries, .bobbin, .flash, .snapshot, .combFits, .spans], Part.ofHarvest, Part.ofMailbox, Part.ofEvents] s s') ∧
    (∀ (h : MbxHdr) (q : Nat) (s s' : State), exec (.ringReset h q) s = .next s' →
      Frame [[.STR_STATUS, .STR_MARK_LOST_COUNT, .QUE_CFG], Reg.ofMailbox, Reg.ofEvents]
      [[.acq], Part.ofMailbox, Part.ofEvents] s s') ∧
    (∀ (h : MbxHdr) (first : Nat) (count : Nat) (addr : Nat) (s s' : State), exec (.vlogRead h first count addr) s = .next s' →
      Frame [Reg.ofMailbox, Reg.ofEvents] [Part.ofMailbox, Part.ofEvents] s s') ∧
    (∀ (h : MbxHdr) (s s' : State), exec (.dtGet h) s = .next s' →
      Frame [Reg.ofMailbox, Reg.ofEvents] [Part.ofMailbox, Part.ofEvents] s s') ∧
    (∀ (h : MbxHdr) (v : Nat) (s s' : State), exec (.refSet h v) s = .next s' →
      Frame [[.XTO_STATUS, .XTO_REF_CTRL, .XTO_PHASE_ERR, .STR_STATUS, .STR_MARK_SEQ, .STR_MARK_LOST_COUNT, .SKN_STATUS, .i_loopCorr,
        .i_phaseOrg, .i_inOn, .i_inSince, .i_joinDone], Reg.ofMailbox, Reg.ofEvents]
      [[.acq], Part.ofMailbox, Part.ofEvents] s s') ∧
    (∀ (h : MbxHdr) (resume : Nat) (s s' : State), exec (.refResume h resume) s = .next s' →
      Frame [[.XTO_STATUS, .STR_STATUS, .STR_MARK_SEQ, .STR_MARK_LOST_COUNT, .SKN_STATUS, .i_loopCorr, .i_joinDone], Reg.ofMailbox, Reg.ofEvents]
      [[.acq], Part.ofMailbox, Part.ofEvents] s s') ∧
    (∀ (h : MbxHdr) (s s' : State), exec (.refStatus h) s = .next s' →
      Frame [Reg.ofMailbox, Reg.ofEvents] [Part.ofMailbox, Part.ofEvents] s s') ∧
    (∀ (h : MbxHdr) (v : Nat) (s s' : State), exec (.synSet h v) s = .next s' →
      Frame [[.SYN_CTRL, .SYN_STATUS, .SYN_OFFSET, .SYN_ALIAS, .i_rampStart, .i_rampFrom, .i_rampBase], Reg.ofMailbox, Reg.ofEvents]
      [[.spans], Part.ofMailbox, Part.ofEvents] s s') ∧
    (∀ (h : MbxHdr) (action : Nat) (s s' : State), exec (.ramp h action) s = .next s' →
      Frame [[.SYN_STATUS, .SYN_OFFSET, .SYN_ALIAS, .i_rampStart, .i_rampFrom, .i_rampBase], Reg.ofMailbox, Reg.ofEvents]
      [Part.ofMailbox, Part.ofEvents] s s') ∧
    (∀ (h : MbxHdr) (index : Nat) (action : Nat) (state : Nat) (target : Nat) (flags : Nat) (frac : Nat) (param : Nat) (ticks : Nat) (s s' : State), exec (.cueSet h index action state target flags frac param ticks) s = .next s' →
      Frame [[.SYN_STATUS, .SYN_ALIAS, .CLD_STATUS, .CLD_LATE_COUNT, .FIR_STATUS, .TRG_TERM_SNAP, .TRG_LAST, .TRG_TRIG_COUNT,
        .TRG_FORCE_DROP_COUNT, .TRG_TRIG_SNAP, .ACQ_SKIP_COUNT, .STR_MARK_LOST_COUNT, .TIM_SNAP, .CMP_SNAP, .CUE, .i_fadeWait, .i_fadeTo,
        .i_fadeFromPending, .i_fadeAt, .i_fadeTouch, .i_stopAsked, .i_stopAt, .i_deadBlk, .i_holdEnd, .i_discards, .i_rampStart,
        .i_cueSince, .i_rampFrom, .i_rampBase], Reg.ofArm, Reg.ofHarvest, Reg.ofSets, Reg.ofMailbox, Reg.ofEvents]
      [[.arrivals], Part.ofHarvest, Part.ofSets, Part.ofMailbox, Part.ofEvents] s s') ∧
    (∀ (h : MbxHdr) (v : Nat) (s s' : State), exec (.auxSet h v) s = .next s' →
      Frame [[.AUX_CTRL], Reg.ofMailbox, Reg.ofEvents] [Part.ofMailbox, Part.ofEvents] s s') ∧
    (∀ (h : MbxHdr) (ch : Nat) (s s' : State), exec (.chStatus h ch) s = .next s' →
      Frame [[.CNV_STATUS, .CNV_DIE_STATUS], Reg.ofMailbox, Reg.ofEvents]
      [Part.ofMailbox, Part.ofEvents] s s') ∧
    (∀ (h : MbxHdr) (ch : Nat) (atten : Nat) (s s' : State), exec (.attenSet h ch atten) s = .next s' →
      Frame [[.CNV_CTRL, .CNV_STATUS, .CRD_TRIM, .CRD_SLICE_STAT, .CMP_THRESH, .CMP_STATUS, .CMP_WIN, .i_edgeSince, .i_settleAt, .i_cmpSettleDt], Reg.ofMailbox, Reg.ofEvents]
      [Part.ofMailbox, Part.ofEvents] s s') ∧
    (∀ (h : MbxHdr) (ch : Nat) (enable : Nat) (s s' : State), exec (.ovldEvt h ch enable) s = .next s' →
      Frame [[.CNV_CTRL], Reg.ofMailbox, Reg.ofEvents] [Part.ofMailbox, Part.ofEvents] s s') ∧
    (∀ (h : MbxHdr) (ch : Nat) (s s' : State), exec (.sliceMap h ch) s = .next s' →
      Frame [[.CNV_SLICE_MAP], Reg.ofMailbox, Reg.ofEvents] [Part.ofMailbox, Part.ofEvents] s s') ∧
    (∀ (h : MbxHdr) (ch : Nat) (ctrl : Nat) (suff : Nat) (tol : Nat) (timeout : Nat) (s s' : State), exec (.cardSet h ch ctrl suff tol timeout) s = .next s' →
      Frame [[.CRD_CTRL, .CRD_SUFF, .CRD_TOL, .CRD_TIMEOUT, .CRD_STATUS, .CRD_SLICE_STAT, .MNT_RUNNING, .MNT_WAITING, .MNT_GROUP,
        .i_cardSuspended, .i_loopUs, .i_cardSuff, .i_cardAt, .i_cardInt, .i_starveAt, .i_starveLeft], Reg.ofMailbox, Reg.ofEvents]
      [[.running, .waiting, .cardErrs, .tapMoves], Part.ofMailbox, Part.ofEvents] s s') ∧
    (∀ (h : MbxHdr) (ch : Nat) (s s' : State), exec (.cardStatus h ch) s = .next s' →
      Frame [[.CRD_STATUS], Reg.ofMailbox, Reg.ofEvents] [Part.ofMailbox, Part.ofEvents] s s') ∧
    (∀ (h : MbxHdr) (ch : Nat) (allow : Nat) (store : Nat) (s s' : State), exec (.combStart h ch allow store) s = .next s' →
      Frame [[.CNV_CTRL, .CNV_STATUS, .CRD_COMB_STATUS, .i_combAt, .i_combOpen, .i_combEnding, .i_combCode, .i_combStore], Reg.ofHarvest, Reg.ofMailbox, Reg.ofEvents]
      [[.spans, .booked], Part.ofHarvest, Part.ofMailbox, Part.ofEvents] s s') ∧
    (∀ (h : MbxHdr) (s s' : State), exec (.storeWrite h) s = .next s' →
      Frame [[.CRD_STORE_STATUS], Reg.ofHarvest, Reg.ofMailbox, Reg.ofEvents]
      [[.flash, .snapshot, .booked], Part.ofHarvest, Part.ofMailbox, Part.ofEvents] s s') ∧
    (∀ (h : MbxHdr) (s s' : State), exec (.storeStatus h) s = .next s' →
      Frame [[.CRD_STORE_STATUS, .CRD_STORE_GEN], Reg.ofMailbox, Reg.ofEvents]
      [Part.ofMailbox, Part.ofEvents] s s') ∧
    (∀ (h : MbxHdr) (ch : Nat) (addr : Nat) (s s' : State), exec (.trimRead h ch addr) s = .next s' →
      Frame [[.CRD_TRIM, .CRD_SLICE_STAT], Reg.ofMailbox, Reg.ofEvents] [Part.ofMailbox, Part.ofEvents] s s')

/-- The frame of the commands of energy and modes. For each command of energy and modes, with every operand and from every state: when exec
answers a next state, every register but those listed reads as before at every index, every part of the state but those listed is as
before (of memory, every byte reads as before), and the waiting commands are as before. The lists named Reg.of… and Part.of… are what
raising events and the other shared effects that the rules give may change. Rests on R376, R382, R383, R384, R388. -/
def Obligations.FramePower : Prop :=
  (∀ (s s' : State), exec .modeTransitionDone s = .next s' →
      Frame [[.XTO_STATUS, .SYN_STATUS, .SYN_DRIFT, .CNV_CTRL, .CNV_STATUS, .CNV_OVLD_COUNT, .CNV_DIE_STATUS, .CRD_STATUS, .CRD_TRIM,
        .CRD_SLICE_STAT, .DEC_STATUS, .FIR_STATUS, .RSM_STATUS, .TRG_LEVEL_STAT, .TRG_STATUS, .TRG_TERM_COUNT, .MEM_PC_CE, .ACC_STATUS,
        .ACC_AVG_DONE, .ACC_AVG_BATCH, .ACC_AVG_INCOMPLETE, .ACC_HIST_ACQ, .SCN_STATUS, .LGC_STATE, .LGC_STATUS, .TIM_CTRL, .TIM_START_SRC,
        .TIM_STOP_SRC, .TIM_STATUS, .TIM_IGN_STOP, .TIM_IGN_START, .TIM_SUPPRESS, .TIM_TOTAL, .TIM_RES, .CMP_STATUS, .CMP_COUNT, .CMP_WIN,
        .MBX_STATUS, .PWR_MODE, .PWR_DOMAIN, .PWR_WAKE_CAUSE, .HVS_SHARE, .HVS_STATUS, .MNT_RUNNING, .MNT_WAITING, .MNT_GROUP, .SKN_STATUS,
        .SKN_PORT_STATUS, .CUE, .HIST, .ACCUM, .i_cardSuspended, .i_linkL0, .i_settleBlk, .i_settleTimed, .i_fadeWait, .i_fadeAt,
        .i_fadeTouch, .i_eqFrom, .i_lgcHold, .i_lgcComp, .i_termAOn, .i_termBOn, .i_toutOrg, .i_toutOn, .i_patKnown, .i_seqCount,
        .i_termFrom, .i_accWas, .i_accWasAt, .i_loopUs, .i_cardSuff, .i_cardAt, .i_cardInt, .i_starveAt, .i_starveLeft, .i_combOpen,
        .i_combEnding, .i_combCode, .i_edgeSince, .i_inOn, .i_synClk, .i_cueSince, .i_synFails, .i_ovldStart, .i_ovldClear, .i_ovldSeen,
        .i_modeMw, .i_wakeOn, .i_wakeAt, .i_wakeHeld, .i_wakeUnit, .i_wakeDie, .i_modeCause, .i_wakePin, .i_linkDeep, .i_cmpIn,
        .i_cmpPower, .i_cmpStart, .i_cmpSettleDt, .i_lgcStart, .i_scnFirst, .i_ctlAct, .i_mbxTook, .i_mbxTurn, .i_refAwait, .i_joinDone,
        .i_skEchoN, .i_skEchoPos, .i_skEchoWait, .i_skPrevOn, .i_skAck, .i_skCause, .i_skBelow, .i_skErrSum, .i_skErrN], Reg.ofSets, Reg.ofEvents]
      [[.mode, .misread, .tims, .timHeld, .acc, .pool, .deliveries, .taken, .outstanding, .kept, .committed, .running, .waiting, .cardErrs,
        .tapMoves, .fades, .spans], Part.ofSets, Part.ofEvents] s s') ∧
    (∀ (s s' : State), exec .vigilWakeTimer s = .next s' →
      Frame [[.PWR_MODE, .PWR_WAKE_CAUSE, .HVS_SHARE, .HVS_STATUS, .i_modeMw, .i_wakeOn, .i_wakeAt, .i_wakeHeld, .i_wakeUnit, .i_wakeDie,
        .i_modeCause, .i_wakePin], Reg.ofEvents]
      [[.committed], Part.ofEvents] s s') ∧
    (∀ (d : Nat) (s s' : State), exec (.pcieLinkL0 d) s = .next s' →
      Frame [[.i_linkL0, .i_wakePin, .i_linkDeep]] [[.out]] s s') ∧
    (∀ (draw : Nat) (rails : List (List Nat)) (temps : List (List Int)) (corrections : List (Nat × Nat)) (s s' : State), exec (.harvestPeriod draw rails temps corrections) s = .next s' →
      Frame [[.CNV_CTRL, .CNV_STATUS, .CRD_COMB_STATUS, .CRD_SLICE_STAT, .CRD_STORE_STATUS, .TRG_SEQ_STATUS, .ACQ_STATUS, .ACQ_OPEN_SLOT,
        .MEM_PC_STAT, .MEM_PC_CE, .STR_STATUS, .STR_FILL, .STR_GAP_SEQ, .ACC_STATUS, .ACC_AVG_DONE, .ACC_AVG_BATCH, .ACC_HIST_ACQ,
        .TIM_CTRL, .TIM_START_SRC, .TIM_STOP_SRC, .TIM_STATUS, .TIM_IGN_STOP, .TIM_IGN_START, .TIM_SUPPRESS, .TIM_TOTAL, .TIM_RES,
        .CMP_SPARE_MAP, .MBX_STATUS, .PWR_MODE, .PWR_DOMAIN, .PWR_RAIL, .PWR_TEMP, .HVS_LEDGER, .BOB_STATUS, .BOB_ACTIVE, .BOB_SRAM,
        .SVC_STATUS, .SVC_ATB, .SVC_RESULT, .COST, .HIST, .ACCUM, .i_accFrames, .i_accWas, .i_accWasAt, .i_accDecayAt, .i_refitAt,
        .i_loopUs, .i_cardAt, .i_cardInt, .i_starveAt, .i_testDom, .i_combAt, .i_calOpen, .i_testDone, .i_combOpen, .i_combEnding,
        .i_combCode, .i_combStore, .i_swapBlk, .i_swapDone, .i_rtTraining, .i_bobAt, .i_laneAt, .i_laneSpare, .i_modeMw, .i_modeCause,
        .i_periodNo, .i_mbxTook, .i_mbxTurn, .i_svcTestWait, .i_svcMeterAt], Reg.ofArm, Reg.ofHarvest, Reg.ofEvents]
      [[.mem, .misread, .heldWrites, .acq, .tims, .timHeld, .acc, .library, .taken, .outstanding, .kept, .periodDraws, .bobbin, .flash,
        .snapshot, .spans, .booked], Part.ofHarvest, Part.ofEvents] s s') ∧
    (∀ (temp : Nat) (s s' : State), exec (.thermalLimitEnter temp) s = .next s' →
      Frame [[.CRD_STATUS, .ACC_RATE_CAP, .CMP_STATUS, .PWR_STATUS, .HVS_SHARE, .HVS_STATUS, .MNT_RUNNING, .MNT_WAITING, .MNT_GROUP,
        .i_cardSuspended, .i_cardSuff, .i_starveLeft, .i_cmpSettleDt], Reg.ofEvents]
      [[.deratedAt, .running, .waiting, .cardErrs, .tapMoves], Part.ofEvents] s s') ∧
    (∀ (temp : Nat) (s s' : State), exec (.thermalLimitClear temp) s = .next s' →
      Frame [[.PWR_STATUS], Reg.ofEvents] [Part.ofEvents] s s') ∧
    (∀ (s s' : State), exec .failover s = .next s' →
      Frame [[.XTO_STATUS, .SCN_STATUS, .MBX_STATUS, .PWR_DOMAIN, .HVS_STATUS, .BOB_RETIRED, .SKN_STATUS, .TOP_ID, .i_inOn, .i_scnFirst,
        .i_ctlAct, .i_joinDone], Reg.ofEvents]
      [[.control, .outstanding, .kept, .deferred], Part.ofEvents] s s')

/-- The frame of the commands of queues and the mailbox. For each command of queues and the mailbox, with every operand and from every state:
when exec answers a next state, every register but those listed reads as before at every index, every part of the state but those listed
is as before (of memory, every byte reads as before), and the waiting commands are as before. The lists named Reg.of… and Part.of… are
what raising events and the other shared effects that the rules give may change. Rests on R307, R321, R325, R329, R336, R362. -/
def Obligations.FrameQueues : Prop :=
  (∀ (d : Nat) (q : Nat) (v : Nat) (s s' : State), exec (.queEnable d q v) s = .next s' →
      Frame [[.STR_STATUS, .STR_MARK_LOST_COUNT, .QUE_CFG, .MBX_VLOG_NEXT, .MBX_VLOG_TOTAL, .MBX_RING_STAT, .MBX_VLOG], Reg.ofEvents]
      [[.acq, .taken, .violations, .nextActs], Part.ofEvents] s s') ∧
    (∀ (d : Nat) (q : Nat) (v : Nat) (s s' : State), exec (.queDisable d q v) s = .next s' →
      Frame [[.STR_STATUS, .STR_MARK_LOST_COUNT, .QUE_CFG, .MBX_VLOG_NEXT, .MBX_VLOG_TOTAL, .MBX_RING_STAT, .MBX_VLOG], Reg.ofEvents]
      [[.acq, .taken, .violations, .nextActs], Part.ofEvents] s s') ∧
    (∀ (d : Nat) (q : Nat) (v : Nat) (s s' : State), exec (.doorbell d q v) s = .next s' →
      Frame [[.MBX_VLOG_NEXT, .MBX_VLOG_TOTAL, .MBX_RING_STAT, .MBX_VLOG], Reg.ofEvents]
      [[.violations, .nextActs], Part.ofEvents] s s') ∧
    (∀ (d : Nat) (q : Nat) (desc : DataDesc) (words : List ReadWord) (s s' : State), exec (.chunkDelivery d q desc words) s = .next s' →
      Frame [[.MEM_UE_COUNT, .MEM_UE_ADDR, .MEM_PC_CE, .STR_STATUS, .STR_FILL, .STR_GAP_SEQ, .MBX_STATUS, .MBX_VLOG_NEXT, .MBX_VLOG_TOTAL,
        .MBX_RING_STAT, .MBX_VLOG, .i_gapLogIdx], Reg.ofEvents]
      [[.mem, .misread, .heldWrites, .acq, .deliveries, .outstanding, .kept, .violations, .nextActs], Part.ofEvents] s s') ∧
    (∀ (d : Nat) (layer : Option Nat) (q : Nat) (outcome : Nat) (s s' : State), exec (.hostReadCompletion d layer q outcome) s = .next s' →
      Frame [[.SCN_OVL_CTRL, .SCN_OVL_STAT, .SCN_FAULT_FRAME], Reg.ofEvents] [[.layers], Part.ofEvents] s s') ∧
    (∀ (d : Nat) (layer : Option Nat) (q : Nat) (s s' : State), exec (.pcieCompletionTimeout d layer q) s = .next s' →
      Frame [[.SCN_OVL_CTRL, .SCN_OVL_STAT, .SCN_FAULT_FRAME], Reg.ofEvents] [[.layers], Part.ofEvents] s s') ∧
    (∀ (d : Nat) (v : Nat) (s s' : State), exec (.evcRaise d v) s = .next s' →
      Frame [Reg.ofEvents] [Part.ofEvents] s s') ∧
    (∀ (d : Nat) (q : Nat) (s s' : State), exec (.coalesceDeadline d q) s = .next s' →
      Frame [[.QUE_STATUS, .MSIX_PBA, .i_coalTimed, .i_coreAsleep, .i_coreWoke, .i_firedAt]]
      [[.out, .coreReqs, .booked]] s s') ∧
    (∀ (d : Nat) (q : Nat) (v : Nat) (s s' : State), exec (.queIrqWrite d q v) s = .next s' →
      Frame [[.QUE_IRQ, .MBX_VLOG_NEXT, .MBX_VLOG_TOTAL, .MBX_RING_STAT, .MBX_VLOG], Reg.ofEvents]
      [[.violations, .nextActs, .booked], Part.ofEvents] s s') ∧
    (∀ (d : Nat) (vector : Option Nat) (s s' : State), exec (.msixUnmask d vector) s = .next s' →
      Frame [[.MSIX, .MSIX_PBA, .i_msixFuncMask]] [[.out]] s s') ∧
    (∀ (d : Nat) (src : Nat) (v : Nat) (s s' : State), exec (.evcRouteWrite d src v) s = .next s' →
      Frame [[.EVC_STATUS, .EVC_ROUTE, .i_heldOn]] [[.fresh, .nextActs]] s s') ∧
    (∀ (k : Nat) (s s' : State), exec (.distaffEntry k) s = .next s' →
      Frame [[.i_coreLevel, .i_coreStack, .i_coreDepth, .i_coreAt, .i_coreFetch, .i_coreReq, .i_coreReqQ]]
      [[.coreReqs]] s s') ∧
    (∀ (k : Nat) (s s' : State), exec (.distaffExit k) s = .next s' →
      Frame [[.i_coreLevel, .i_coreDepth, .i_coreFetch, .i_coreOut, .i_coreReq]] [[.coreReqs]] s s') ∧
    (∀ (d : Nat) (v : Nat) (s s' : State), exec (.mbxUrgGo d v) s = .next s' →
      Frame [[.MBX_URG_STATUS, .MBX_VLOG_NEXT, .MBX_VLOG_TOTAL, .MBX_RING_STAT, .MBX_VLOG], Reg.ofEvents]
      [[.violations, .nextActs], Part.ofEvents] s s') ∧
    (∀ (d : Nat) (src : MbxSource) (s s' : State), exec (.answerDeadline d src) s = .next s' →
      Frame [[.MBX_URG_RSP, .MBX_URG_STATUS, .MBX_STATUS, .i_mbxTook, .i_mbxTurn], Reg.ofEvents]
      [[.taken, .outstanding, .booked], Part.ofEvents] s s') ∧
    (∀ (d : Nat) (tag : Nat) (ok : Bool) (bytes : List Byte) (s s' : State), exec (.longCommandComplete d tag ok bytes) s = .next s' →
      Frame [[.MBX_STATUS, .BOOT_STATUS, .BOOT_IMG_VER, .i_fwJob, .i_imgVersion, .i_imgBuild], Reg.ofEvents]
      [[.outstanding, .kept], Part.ofEvents] s s') ∧
    (∀ (d : Nat) (s s' : State), exec (.libDeliveryStart d) s = .next s' →
      Frame [] [[.deliveries]] s s') ∧
    (∀ (h : MbxHdr) (opcode : Nat) (malformed : Bool) (s s' : State), exec (.unknownOpcodeCommand h opcode malformed) s = .next s' →
      Frame [[.MBX_URG_RSP, .MBX_URG_STATUS, .MBX_STATUS, .MBX_VLOG_NEXT, .MBX_VLOG_TOTAL, .MBX_RING_STAT, .MBX_VLOG, .i_mbxTook, .i_mbxTurn], Reg.ofEvents]
      [[.taken, .violations, .nextActs], Part.ofEvents] s s')

/-- The frame of the commands of field service. For each command of field service, with every operand and from every state: when exec answers
a next state, every register but those listed reads as before at every index, every part of the state but those listed is as before (of
memory, every byte reads as before), and the waiting commands are as before. The lists named Reg.of… and Part.of… are what raising events
and the other shared effects that the rules give may change. Rests on R420, R425, R430, R435, R440. -/
def Obligations.FrameService : Prop :=
  (∀ (chars : List Byte) (s s' : State), exec (.consoleLine chars) s = .next s' →
      Frame [[.i_svcBaudWait]] [[.out]] s s') ∧
    (∀ (s s' : State), exec .consoleHelp s = .next s' →
      Frame [[.i_svcBaudWait]] [[.out]] s s') ∧
    (∀ (s s' : State), exec .consoleVersion s = .next s' →
      Frame [[.i_svcBaudWait]] [[.out]] s s') ∧
    (∀ (s s' : State), exec .consoleStatus s = .next s' →
      Frame [[.i_svcBaudWait]] [[.out]] s s') ∧
    (∀ (s s' : State), exec .consoleSensors s = .next s' →
      Frame [[.i_svcBaudWait]] [[.out]] s s') ∧
    (∀ (force : Bool) (s s' : State), exec (.serviceEnter force) s = .next s' →
      Frame [[.MBX_STATUS, .PWR_MODE, .HVS_STATUS, .i_stopAsked, .i_stopAt, .i_modeMw, .i_modeCause, .i_svcBaudWait, .i_svcForced], Reg.ofEvents]
      [[.acq, .outstanding, .kept, .deferred], Part.ofEvents] s s') ∧
    (∀ (s s' : State), exec .serviceExit s = .next s' →
      Frame [[.PWR_MODE, .i_modeMw, .i_modeCause, .i_svcBaudWait]] [[.out]] s s') ∧
    (∀ (s s' : State), exec .consoleWake s = .next s' →
      Frame [[.PWR_MODE, .PWR_WAKE_CAUSE, .HVS_SHARE, .HVS_STATUS, .i_modeMw, .i_wakeOn, .i_wakeAt, .i_wakeHeld, .i_wakeUnit, .i_wakeDie,
        .i_modeCause, .i_wakePin, .i_svcBaudWait], Reg.ofEvents]
      [[.committed], Part.ofEvents] s s') ∧
    (∀ (n : Nat) (s s' : State), exec (.consoleTest n) s = .next s' →
      Frame [[.CNV_CTRL, .CNV_STATUS, .CRD_COMB_STATUS, .CRD_SLICE_STAT, .CRD_STORE_STATUS, .MEM_STATUS, .MEM_PC_STAT, .MEM_PC_CE, .STR_FILL,
        .ACC_HIST_ACQ, .CMP_SPARE_MAP, .MBX_STATUS, .PWR_DOMAIN, .BOB_STATUS, .BOB_SRAM, .SVC_STATUS, .SVC_ATB, .SVC_RESULT, .HIST,
        .i_remapHold, .i_refitAt, .i_loopUs, .i_sliceTmo, .i_cardAt, .i_cardInt, .i_starveAt, .i_testDom, .i_combAt, .i_calOpen,
        .i_testDone, .i_combOpen, .i_combEnding, .i_combCode, .i_combStore, .i_swapBlk, .i_tmoAt, .i_bobAt, .i_laneAt, .i_mbxTook,
        .i_mbxTurn, .i_svcBaudWait, .i_svcTestWait, .i_svcTestAt, .i_svcMeterAt, .i_svcAtbSave, .i_svcMeterN], Reg.ofHarvest, Reg.ofEvents]
      [[.mem, .misread, .acq, .library, .taken, .outstanding, .flash, .snapshot, .spans], Part.ofHarvest, Part.ofEvents] s s') ∧
    (∀ (n : Nat) (milliohm : Nat) (s s' : State), exec (.consoleTestReading n milliohm) s = .next s' →
      Frame [[.CNV_CTRL, .CRD_STATUS, .CRD_SLICE_STAT, .MEM_PC_CE, .ACC_HIST_ACQ, .MBX_STATUS, .PWR_DOMAIN, .HVS_STATUS, .MNT_RUNNING,
        .MNT_WAITING, .MNT_GROUP, .SVC_STATUS, .SVC_ATB, .SVC_RESULT, .HIST, .i_cardSuspended, .i_loopUs, .i_cardSuff, .i_cardAt,
        .i_cardInt, .i_starveAt, .i_starveLeft, .i_testDom, .i_calOpen, .i_testDone, .i_mbxTook, .i_mbxTurn, .i_svcBaudWait,
        .i_svcTestWait, .i_svcAtbSave], Reg.ofEvents]
      [[.mem, .misread, .library, .taken, .deferred, .running, .waiting, .cardErrs, .tapMoves], Part.ofEvents] s s') ∧
    (∀ (a : Nat) (point : Nat) (index : Nat) (s s' : State), exec (.consoleAtb a point index) s = .next s' →
      Frame [[.SVC_ATB, .i_atbBy, .i_svcBaudWait]] [[.out]] s s') ∧
    (∀ (a : Nat) (s s' : State), exec (.consoleAtbOff a) s = .next s' →
      Frame [[.SVC_ATB, .i_atbBy, .i_svcBaudWait]] [[.out]] s s') ∧
    (∀ (s s' : State), exec .refit s = .next s' →
      Frame [[.CNV_CTRL, .CNV_STATUS, .CRD_COMB_STATUS, .CRD_SLICE_STAT, .CRD_STORE_STATUS, .MEM_STATUS, .MEM_PC_STAT, .STR_FILL, .CMP_SPARE_MAP,
        .PWR_DOMAIN, .BOB_STATUS, .BOB_SRAM, .i_remapHold, .i_refitAt, .i_loopUs, .i_sliceTmo, .i_cardAt, .i_cardInt, .i_starveAt,
        .i_combAt, .i_combOpen, .i_combEnding, .i_combCode, .i_swapBlk, .i_tmoAt, .i_bobAt, .i_laneAt, .i_svcBaudWait], Reg.ofHarvest, Reg.ofEvents]
      [[.acq, .outstanding, .flash, .snapshot, .spans], Part.ofHarvest, Part.ofEvents] s s') ∧
    (∀ (rate : Nat) (s s' : State), exec (.consoleBaud rate) s = .next s' →
      Frame [[.SVC_STATUS, .i_svcBaudWait, .i_svcBaudAt]] [[.out]] s s') ∧
    (∀ (s s' : State), exec .consoleEchoOn s = .next s' →
      Frame [[.i_svcEcho, .i_svcBaudWait]] [[.out]] s s') ∧
    (∀ (s s' : State), exec .consoleEchoOff s = .next s' →
      Frame [[.i_svcEcho, .i_svcBaudWait]] [[.out]] s s') ∧
    (∀ (response : Option Nat) (s s' : State), exec (.consoleUnlock response) s = .next s' →
      Frame [[.SVC_STATUS, .i_svcChalOn, .i_svcChalAt, .i_svcChal, .i_svcWrongN, .i_svcWrongAt, .i_svcLockAt, .i_svcBaudWait], Reg.ofEvents]
      [Part.ofEvents] s s') ∧
    (∀ (s s' : State), exec .consoleLock s = .next s' →
      Frame [[.SVC_STATUS, .i_svcBaudWait], Reg.ofEvents] [Part.ofEvents] s s') ∧
    (∀ (s s' : State), exec .consoleUnknownCommand s = .next s' →
      Frame [[.i_svcBaudWait]] [[.out]] s s') ∧
    (∀ (s s' : State), exec .baudFallback s = .next s' →
      Frame [[.SVC_STATUS, .i_svcBaudWait]] [] s s') ∧
    (∀ (s s' : State), exec .unlockLockoutEnd s = .next s' →
      Frame [[.SVC_STATUS], Reg.ofEvents] [Part.ofEvents] s s') ∧
    (∀ (s s' : State), exec .testAdmissionTimeout s = .next s' →
      Frame [[.CNV_CTRL, .CRD_STATUS, .CRD_SLICE_STAT, .MEM_PC_CE, .ACC_HIST_ACQ, .MBX_STATUS, .PWR_DOMAIN, .HVS_STATUS, .MNT_RUNNING,
        .MNT_WAITING, .MNT_GROUP, .SVC_STATUS, .SVC_ATB, .SVC_RESULT, .HIST, .i_cardSuspended, .i_loopUs, .i_cardSuff, .i_cardAt,
        .i_cardInt, .i_starveAt, .i_starveLeft, .i_testDom, .i_calOpen, .i_testDone, .i_mbxTook, .i_mbxTurn, .i_svcTestWait], Reg.ofEvents]
      [[.mem, .misread, .library, .taken, .deferred, .running, .waiting, .cardErrs, .tapMoves], Part.ofEvents] s s') ∧
    (∀ (result : Nat) (locus : Nat) (unit : Nat) (taps : List (Nat × CombTap)) (subs : List (Nat × Nat × Nat × Nat)) (s s' : State), exec (.testComplete result locus unit taps subs) s = .next s' →
      Frame [[.CNV_CTRL, .CRD_STATUS, .CRD_TRIM, .CRD_SLICE_STAT, .MEM_PC_CE, .ACC_HIST_ACQ, .MBX_STATUS, .PWR_DOMAIN, .HVS_STATUS, .MNT_RUNNING,
        .MNT_WAITING, .MNT_GROUP, .SVC_STATUS, .SVC_ATB, .SVC_RESULT, .HIST, .i_cardSuspended, .i_gainTap, .i_loopUs, .i_cardSuff,
        .i_cardAt, .i_cardInt, .i_starveAt, .i_starveLeft, .i_testDom, .i_calOpen, .i_testDone, .i_edgeSince, .i_mbxTook, .i_mbxTurn,
        .i_svcTestWait], Reg.ofEvents]
      [[.mem, .misread, .library, .taken, .deferred, .running, .waiting, .cardErrs, .tapMoves], Part.ofEvents] s s') ∧
    (∀ (s s' : State), exec .testTimeLimit s = .next s' →
      Frame [[.CNV_CTRL, .CNV_STATUS, .CRD_COMB_STATUS, .CRD_SLICE_STAT, .CRD_STORE_STATUS, .MEM_PC_CE, .ACC_HIST_ACQ, .MBX_STATUS, .PWR_DOMAIN,
        .SVC_STATUS, .SVC_ATB, .SVC_RESULT, .HIST, .i_loopUs, .i_cardAt, .i_cardInt, .i_starveAt, .i_testDom, .i_calOpen, .i_testDone,
        .i_combOpen, .i_combEnding, .i_combCode, .i_mbxTook, .i_mbxTurn, .i_svcTestWait], Reg.ofHarvest, Reg.ofEvents]
      [[.mem, .misread, .library, .taken, .outstanding, .kept, .flash, .snapshot, .combFits, .spans, .booked], Part.ofHarvest, Part.ofEvents] s s') ∧
    (∀ (s s' : State), exec .testAbortChar s = .next s' →
      Frame [[.CNV_CTRL, .CNV_STATUS, .CRD_COMB_STATUS, .CRD_SLICE_STAT, .CRD_STORE_STATUS, .MEM_PC_CE, .ACC_HIST_ACQ, .MBX_STATUS, .PWR_DOMAIN,
        .SVC_STATUS, .SVC_ATB, .SVC_RESULT, .HIST, .i_loopUs, .i_cardAt, .i_cardInt, .i_starveAt, .i_testDom, .i_calOpen, .i_testDone,
        .i_combOpen, .i_combEnding, .i_combCode, .i_mbxTook, .i_mbxTurn, .i_svcTestWait], Reg.ofHarvest, Reg.ofEvents]
      [[.mem, .misread, .library, .taken, .outstanding, .kept, .flash, .snapshot, .combFits, .spans, .booked], Part.ofHarvest, Part.ofEvents] s s') ∧
    (∀ (reading : Option Int) (s s' : State), exec (.meterReading reading) s = .next s' →
      Frame [[.CNV_CTRL, .CRD_STATUS, .CRD_SLICE_STAT, .MEM_PC_CE, .ACC_HIST_ACQ, .MBX_STATUS, .PWR_DOMAIN, .HVS_STATUS, .MNT_RUNNING,
        .MNT_WAITING, .MNT_GROUP, .SVC_STATUS, .SVC_ATB, .SVC_RESULT, .HIST, .i_cardSuspended, .i_loopUs, .i_cardSuff, .i_cardAt,
        .i_cardInt, .i_starveAt, .i_starveLeft, .i_testDom, .i_calOpen, .i_testDone, .i_mbxTook, .i_mbxTurn, .i_svcTestWait, .i_svcMeterAt,
        .i_svcMeterN], Reg.ofEvents]
      [[.mem, .misread, .library, .taken, .deferred, .running, .waiting, .cardErrs, .tapMoves], Part.ofEvents] s s') ∧
    (∀ (s s' : State), exec .meterWaitTimeout s = .next s' →
      Frame [[.CNV_CTRL, .CRD_STATUS, .CRD_SLICE_STAT, .MEM_PC_CE, .ACC_HIST_ACQ, .MBX_STATUS, .PWR_DOMAIN, .HVS_STATUS, .MNT_RUNNING,
        .MNT_WAITING, .MNT_GROUP, .SVC_STATUS, .SVC_ATB, .SVC_RESULT, .HIST, .i_cardSuspended, .i_loopUs, .i_cardSuff, .i_cardAt,
        .i_cardInt, .i_starveAt, .i_starveLeft, .i_testDom, .i_calOpen, .i_testDone, .i_mbxTook, .i_mbxTurn, .i_svcTestWait], Reg.ofEvents]
      [[.mem, .misread, .library, .taken, .deferred, .running, .waiting, .cardErrs, .tapMoves], Part.ofEvents] s s') ∧
    (∀ (d : Nat) (v : Nat) (s s' : State), exec (.svcAtbWrite d v) s = .next s' →
      Frame [[.SVC_ATB]] [[.fresh]] s s')

/-- The frame of the commands of skein and synchronisation. For each command of skein and synchronisation, with every operand and from every
state: when exec answers a next state, every register but those listed reads as before at every index, every part of the state but those
listed is as before (of memory, every byte reads as before), and the waiting commands are as before. The lists named Reg.of… and Part.of…
are what raising events and the other shared effects that the rules give may change. Rests on R59, R394, R395, R396. -/
def Obligations.FrameSkein : Prop :=
  (∀ (p : Nat) (s s' : State), exec (.skeinPortTrained p) s = .next s' →
      Frame [[.XTO_STATUS, .SKN_STATUS, .SKN_PORT_STATUS, .i_inOn, .i_refAwait, .i_joinDone, .i_skEchoN, .i_skEchoPos, .i_skEchoWait,
        .i_skPrevOn, .i_skAck, .i_skCause, .i_skBelow, .i_skErrSum, .i_skErrN], Reg.ofEvents]
      [Part.ofEvents] s s') ∧
    (∀ (p : Nat) (bytes : List Byte) (s s' : State), exec (.joinReceive p bytes) s = .next s' →
      Frame [[.XTO_STATUS, .SKN_STATUS, .SKN_PORT_STATUS, .SKN_PORT_VIOL, .i_inOn, .i_refAwait, .i_joinDone, .i_skEchoN, .i_skEchoPos,
        .i_skEchoWait, .i_skPrev, .i_skPrevOn, .i_skViol, .i_skViolN, .i_skViolPos, .i_skAck, .i_skCause, .i_skBelow, .i_skErrSum, .i_skErrN], Reg.ofEvents]
      [Part.ofEvents] s s') ∧
    (∀ (bytes : List Byte) (s s' : State), exec (.joinAckReceive bytes) s = .next s' →
      Frame [[.XTO_STATUS, .SKN_STATUS, .SKN_PORT_STATUS, .SKN_PORT_VIOL, .i_inOn, .i_refAwait, .i_joinDone, .i_skEchoN, .i_skEchoPos,
        .i_skEchoWait, .i_skPrev, .i_skPrevOn, .i_skViol, .i_skViolN, .i_skViolPos, .i_skMiss, .i_skBcast, .i_skAck, .i_skPath, .i_skHop,
        .i_skCause, .i_skSeen, .i_skAlign, .i_skBelow, .i_skErrSum, .i_skErrN], Reg.ofEvents]
      [Part.ofEvents] s s') ∧
    (∀ (p : Nat) (ofs : Nat) (s s' : State), exec (.echoReqSend p ofs) s = .next s' →
      Frame [[.i_skEchoId, .i_skEchoT1, .i_skEchoWait, .i_skEchoAt]] [[.out]] s s') ∧
    (∀ (bytes : List Byte) (ofs : Nat) (turn : Nat) (s s' : State), exec (.echoReqReceive bytes ofs turn) s = .next s' →
      Frame [[.XTO_STATUS, .SKN_STATUS, .SKN_PORT_STATUS, .SKN_PORT_VIOL, .i_inOn, .i_refAwait, .i_joinDone, .i_skEchoN, .i_skEchoPos,
        .i_skEchoWait, .i_skPrev, .i_skPrevOn, .i_skViol, .i_skViolN, .i_skViolPos, .i_skMiss, .i_skBcast, .i_skAck, .i_skCause, .i_skSeen,
        .i_skAlign, .i_skBelow, .i_skErrSum, .i_skErrN], Reg.ofEvents]
      [Part.ofEvents] s s') ∧
    (∀ (p : Nat) (bytes : List Byte) (ofs : Nat) (s s' : State), exec (.echoRspReceive p bytes ofs) s = .next s' →
      Frame [[.XTO_STATUS, .MBX_STATUS, .SKN_STATUS, .SKN_PORT_STATUS, .SKN_PORT_LAT, .SKN_PORT_VIOL, .i_inOn, .i_refAwait, .i_joinDone,
        .i_skEcho, .i_skEchoN, .i_skEchoPos, .i_skEchoWait, .i_skPrev, .i_skPrevOn, .i_skViol, .i_skViolN, .i_skViolPos, .i_skAck,
        .i_skCause, .i_skBelow, .i_skEchoGot, .i_skErrSum, .i_skErrN], Reg.ofEvents]
      [[.outstanding, .kept], Part.ofEvents] s s') ∧
    (∀ (p : Nat) (ofs : Nat) (s s' : State), exec (.alignSend p ofs) s = .next s' →
      Frame [] [[.out]] s s') ∧
    (∀ (bytes : List Byte) (ofs : Nat) (s s' : State), exec (.alignReceive bytes ofs) s = .next s' →
      Frame [[.XTO_STATUS, .XTO_PHASE_ERR, .STR_STATUS, .STR_MARK_SEQ, .STR_MARK_LOST_COUNT, .SKN_STATUS, .SKN_PORT_STATUS, .SKN_PORT_LAT,
        .SKN_PORT_VIOL, .i_loopCorr, .i_inOn, .i_inSince, .i_refAwait, .i_joinDone, .i_skEchoN, .i_skEchoPos, .i_skEchoWait, .i_skPrev,
        .i_skPrevOn, .i_skViol, .i_skViolN, .i_skViolPos, .i_skAck, .i_skCause, .i_skAlign, .i_skBelow, .i_skErrSum, .i_skErrN], Reg.ofEvents]
      [[.acq], Part.ofEvents] s s') ∧
    (∀ (s s' : State), exec .alignTimeout s = .next s' →
      Frame [[.XTO_STATUS, .SKN_STATUS, .i_inOn, .i_refAwait, .i_joinDone, .i_skErrSum, .i_skErrN], Reg.ofEvents]
      [Part.ofEvents] s s') ∧
    (∀ (p : Nat) (bytes : List Byte) (s s' : State), exec (.summaryReceive p bytes) s = .next s' →
      Frame [[.XTO_STATUS, .SKN_STATUS, .SKN_PORT_STATUS, .SKN_PORT_VIOL, .i_inOn, .i_refAwait, .i_joinDone, .i_skEchoN, .i_skEchoPos,
        .i_skEchoWait, .i_skPrev, .i_skPrevOn, .i_skViol, .i_skViolN, .i_skViolPos, .i_skAck, .i_skCause, .i_skBelow, .i_skErrSum, .i_skErrN], Reg.ofEvents]
      [[.summaries], Part.ofEvents] s s') ∧
    (∀ (period : Nat) (s s' : State), exec (.summarySend period) s = .next s' →
      Frame [[.QUE_STATUS, .SKN_PORT_STATUS, .MSIX_PBA, .i_coalTimed, .i_coreAsleep, .i_coreWoke, .i_firedAt, .i_skSent]]
      [[.summaries, .out, .coreReqs, .fresh, .booked]] s s') ∧
    (∀ (period : Nat) (s s' : State), exec (.gseqEvaluate period) s = .next s' →
      Frame [[.SKN_PORT_STATUS, .SKN_GSEQ_STATUS, .SKN_LOST, .i_skSent, .i_gsEntry, .i_gsCount, .i_gsDead, .i_gsHold, .i_gsCoin, .i_gsLate,
        .i_gsTaken, .i_gsOther, .i_gtOn, .i_gtDt, .i_gtInfo], Reg.ofEvents]
      [[.summaries, .booked], Part.ofEvents] s s') ∧
    (∀ (period : Nat) (s s' : State), exec (.broadcastSend period) s = .next s' →
      Frame [[.ACQ_SKIP_COUNT, .STR_MARK_SEQ, .STR_MARK_LOST_COUNT, .i_skBcast, .i_gtSeq, .i_gtOn], Reg.ofSets, Reg.ofEvents]
      [Part.ofSets, Part.ofEvents] s s') ∧
    (∀ (bytes : List Byte) (s s' : State), exec (.triggerFrameReceive bytes) s = .next s' →
      Frame [[.XTO_STATUS, .ACQ_SKIP_COUNT, .STR_MARK_SEQ, .STR_MARK_LOST_COUNT, .MBX_STATUS, .SKN_STATUS, .SKN_PORT_STATUS, .SKN_PORT_VIOL,
        .i_inOn, .i_mbxTook, .i_mbxTurn, .i_refAwait, .i_joinDone, .i_skEchoN, .i_skEchoPos, .i_skEchoWait, .i_skPrev, .i_skPrevOn,
        .i_skViol, .i_skViolN, .i_skViolPos, .i_skMiss, .i_skBcast, .i_skAck, .i_skCause, .i_skBelow, .i_skErrSum, .i_skErrN, .i_gtSeq], Reg.ofSets, Reg.ofEvents]
      [[.taken], Part.ofSets, Part.ofEvents] s s') ∧
    (∀ (bytes : List Byte) (s s' : State), exec (.idleFrameReceive bytes) s = .next s' →
      Frame [[.XTO_STATUS, .MBX_STATUS, .SKN_STATUS, .SKN_PORT_STATUS, .SKN_PORT_VIOL, .i_inOn, .i_mbxTook, .i_mbxTurn, .i_refAwait, .i_joinDone,
        .i_skEchoN, .i_skEchoPos, .i_skEchoWait, .i_skPrev, .i_skPrevOn, .i_skViol, .i_skViolN, .i_skViolPos, .i_skMiss, .i_skBcast,
        .i_skAck, .i_skCause, .i_skBelow, .i_skErrSum, .i_skErrN, .i_gtSeq], Reg.ofEvents]
      [[.taken], Part.ofEvents] s s') ∧
    (∀ (period : Nat) (s s' : State), exec (.broadcastDeadline period) s = .next s' →
      Frame [[.XTO_STATUS, .SKN_STATUS, .SKN_PORT_STATUS, .i_inOn, .i_refAwait, .i_joinDone, .i_skEchoN, .i_skEchoPos, .i_skEchoWait,
        .i_skPrevOn, .i_skMiss, .i_skBcast, .i_skAck, .i_skCause, .i_skBelow, .i_skErrSum, .i_skErrN], Reg.ofEvents]
      [[.booked], Part.ofEvents] s s') ∧
    (∀ (p : Nat) (bytes : List Byte) (s s' : State), exec (.nakReceive p bytes) s = .next s' →
      Frame [[.XTO_STATUS, .SKN_STATUS, .SKN_PORT_STATUS, .SKN_PORT_VIOL, .i_inOn, .i_refAwait, .i_joinDone, .i_skEchoN, .i_skEchoPos,
        .i_skEchoWait, .i_skPrev, .i_skPrevOn, .i_skViol, .i_skViolN, .i_skViolPos, .i_skAck, .i_skCause, .i_skBelow, .i_skErrSum, .i_skErrN], Reg.ofEvents]
      [Part.ofEvents] s s') ∧
    (∀ (ofs : Nat) (s s' : State), exec (.skeinSyncReceive ofs) s = .next s' →
      Frame [[.SKN_SYNC_RX], Reg.ofEvents] [Part.ofEvents] s s') ∧
    (∀ (d : Nat) (v : Nat) (s s' : State), exec (.sknGseqRunWrite d v) s = .next s' →
      Frame [[.SKN_GSEQ_CTRL, .SKN_STATUS, .SKN_GSEQ_STATUS, .i_gsEntry, .i_gsCount, .i_gsDead, .i_gsHold, .i_gsCoin, .i_gsLate, .i_gsTaken,
        .i_gsOther]]
      [[.fresh]] s s') ∧
    (∀ (p : Nat) (s s' : State), exec (.skeinLaneLost p) s = .next s' →
      Frame [[.XTO_STATUS, .SKN_STATUS, .SKN_PORT_STATUS, .i_inOn, .i_refAwait, .i_joinDone, .i_skEchoN, .i_skEchoPos, .i_skEchoWait,
        .i_skPrevOn, .i_skAck, .i_skCause, .i_skBelow, .i_skErrSum, .i_skErrN], Reg.ofEvents]
      [Part.ofEvents] s s') ∧
    (∀ (p : Nat) (s s' : State), exec (.skeinEchoWaitTimeout p) s = .next s' →
      Frame [[.SKN_PORT_STATUS, .i_skEchoWait]] [[.fresh, .booked]] s s')

/-- The frame of the commands of the time base. For each command of the time base, with every operand and from every state: when exec answers
a next state, every register but those listed reads as before at every index, every part of the state but those listed is as before (of
memory, every byte reads as before), and the waiting commands are as before. The lists named Reg.of… and Part.of… are what raising events
and the other shared effects that the rules give may change. Rests on R15, R22, R30, R40, R47, R53, R57. -/
def Obligations.FrameTimeBase : Prop :=
  (∀ (s s' : State), exec .ovenReadyTimer s = .next s' →
      Frame [[.XTO_STATUS, .i_ovenFirst], Reg.ofEvents] [Part.ofEvents] s s') ∧
    (∀ (s s' : State), exec .warmTimer s = .next s' →
      Frame [[.XTO_STATUS], Reg.ofEvents] [Part.ofEvents] s s') ∧
    (∀ (edge : Option Instant) (s s' : State), exec (.pullDacUpdate edge) s = .next s' →
      Frame [[.XTO_STATUS, .XTO_PHASE_ERR, .XTO_PULL, .i_loopCorr, .i_ovenOn, .i_refEdge, .i_inOn, .i_inSince, .i_pullAt], Reg.ofEvents]
      [Part.ofEvents] s s') ∧
    (∀ (s s' : State), exec .ovenTimeSave s = .next s' →
      Frame [[.CRD_STORE_STATUS, .i_ovenSaved], Reg.ofHarvest, Reg.ofEvents]
      [[.outstanding, .flash, .snapshot], Part.ofHarvest, Part.ofEvents] s s') ∧
    (∀ (offset : Int) (s s' : State), exec (.ageingRefitGateEnd offset) s = .next s' →
      Frame [[.CRD_STORE_STATUS, .i_refitCount, .i_refitPt, .i_coefA, .i_coefB], Reg.ofHarvest, Reg.ofEvents]
      [[.outstanding, .flash, .snapshot], Part.ofHarvest, Part.ofEvents] s s') ∧
    (∀ (edge : Instant) (s s' : State), exec (.refQualified edge) s = .next s' →
      Frame [[.XTO_STATUS, .XTO_PHASE_ERR, .STR_STATUS, .STR_MARK_SEQ, .STR_MARK_LOST_COUNT, .SKN_STATUS, .i_loopCorr, .i_phaseOrg, .i_refEdge,
        .i_inOn, .i_inSince, .i_joinDone], Reg.ofEvents]
      [[.acq], Part.ofEvents] s s') ∧
    (∀ (s s' : State), exec .refLost s = .next s' →
      Frame [[.XTO_STATUS, .SKN_STATUS, .i_inOn, .i_refAwait, .i_joinDone], Reg.ofEvents]
      [Part.ofEvents] s s') ∧
    (∀ (s s' : State), exec .thawLockTimer s = .next s' →
      Frame [[.XTO_STATUS, .SKN_STATUS, .i_joinDone], Reg.ofEvents] [Part.ofEvents] s s') ∧
    (∀ (edge : Instant) (s s' : State), exec (.slewDone edge) s = .next s' →
      Frame [[.XTO_STATUS, .XTO_PHASE_ERR, .i_refEdge, .i_inOn, .i_inSince], Reg.ofEvents]
      [Part.ofEvents] s s') ∧
    (∀ (s s' : State), exec .dtStepApply s = .next s' →
      Frame [[.XTO_STATUS, .XTO_PHASE_ERR, .XTO_STEP_TICKS, .XTO_STEP_FRAC, .XTO_STEP_AT, .SKN_STATUS, .CUE, .i_settleBlk, .i_fadeAt, .i_eqFrom,
        .i_inOn, .i_inSince, .i_dtFrac, .i_cueSince, .i_joinDone, .i_libStepped, .i_libStepAt], Reg.ofEvents]
      [[.dt, .dtPrev, .fades], Part.ofEvents] s s') ∧
    (∀ (d : Nat) (v : Nat) (s s' : State), exec (.xtoRefCtrlWrite d v) s = .next s' →
      Frame [[.XTO_STATUS, .XTO_REF_CTRL, .XTO_PHASE_ERR, .STR_STATUS, .STR_MARK_SEQ, .STR_MARK_LOST_COUNT, .SKN_STATUS, .i_loopCorr,
        .i_phaseOrg, .i_inOn, .i_inSince, .i_joinDone], Reg.ofEvents]
      [[.acq], Part.ofEvents] s s') ∧
    (∀ (d : Nat) (v : Nat) (s s' : State), exec (.xtoRefResumeWrite d v) s = .next s' →
      Frame [[.XTO_STATUS, .XTO_REF_CTRL, .XTO_PHASE_ERR, .STR_STATUS, .STR_MARK_SEQ, .STR_MARK_LOST_COUNT, .SKN_STATUS, .i_loopCorr,
        .i_phaseOrg, .i_inOn, .i_inSince, .i_joinDone], Reg.ofEvents]
      [[.acq], Part.ofEvents] s s') ∧
    (∀ (d : Nat) (s s' : State), exec (.synLockLoss d) s = .next s' →
      Frame [[.SYN_STATUS, .i_synClk], Reg.ofEvents] [[.spans], Part.ofEvents] s s') ∧
    (∀ (d : Nat) (drift : Int) (s s' : State), exec (.synDriftMeasure d drift) s = .next s' →
      Frame [[.SYN_STATUS, .SYN_DRIFT], Reg.ofSets, Reg.ofEvents]
      [[.spans], Part.ofSets, Part.ofEvents] s s') ∧
    (∀ (d : Nat) (s s' : State), exec (.synRelock d) s = .next s' →
      Frame [[.SYN_STATUS], Reg.ofEvents] [[.spans], Part.ofEvents] s s') ∧
    (∀ (d : Nat) (s s' : State), exec (.synLocked d) s = .next s' →
      Frame [[.SYN_STATUS, .SYN_DRIFT, .DEC_STATUS, .FIR_STATUS, .RSM_STATUS, .i_settleBlk, .i_settleTimed, .i_fadeWait, .i_fadeAt, .i_fadeTouch,
        .i_eqFrom, .i_synClk, .i_synFails], Reg.ofEvents]
      [[.fades, .spans], Part.ofEvents] s s') ∧
    (∀ (d : Nat) (s s' : State), exec (.synLockAttemptFail d) s = .next s' →
      Frame [[.i_retireAt, .i_synFails]] [[.retiring]] s s') ∧
    (∀ (d : Nat) (v : Nat) (s s' : State), exec (.synModeWrite d v) s = .next s' →
      Frame [[.SYN_CTRL, .SYN_STATUS, .SYN_OFFSET, .SYN_ALIAS, .i_rampStart, .i_rampFrom, .i_rampBase], Reg.ofEvents]
      [[.spans], Part.ofEvents] s s') ∧
    (∀ (d : Nat) (v : Nat) (s s' : State), exec (.synRampStart d v) s = .next s' →
      Frame [[.SYN_CTRL, .SYN_STATUS, .SYN_OFFSET, .SYN_ALIAS, .i_rampStart, .i_rampFrom, .i_rampBase], Reg.ofEvents]
      [[.spans], Part.ofEvents] s s') ∧
    (∀ (d : Nat) (v : Nat) (s s' : State), exec (.synRampAbort d v) s = .next s' →
      Frame [[.SYN_CTRL, .SYN_STATUS, .SYN_OFFSET, .SYN_ALIAS, .i_rampStart, .i_rampFrom, .i_rampBase], Reg.ofEvents]
      [[.spans], Part.ofEvents] s s') ∧
    (∀ (d : Nat) (peaks : List (List (Nat × Nat))) (s s' : State), exec (.rampSegmentEnd d peaks) s = .next s' →
      Frame [[.SYN_STATUS, .SYN_OFFSET, .SYN_ALIAS, .MBX_STATUS, .i_rampStart, .i_rampFrom, .i_mbxTook, .i_mbxTurn], Reg.ofEvents]
      [[.taken], Part.ofEvents] s s') ∧
    (∀ (d : Nat) (s s' : State), exec (.auxLossOfLock d) s = .next s' →
      Frame [[.AUX_STATUS, .i_auxLoss], Reg.ofEvents] [Part.ofEvents] s s') ∧
    (∀ (d : Nat) (s s' : State), exec (.auxCoastEnd d) s = .next s' →
      Frame [[.AUX_STATUS, .PWR_MODE, .PWR_WAKE_CAUSE, .HVS_SHARE, .HVS_STATUS, .i_modeMw, .i_wakeOn, .i_wakeAt, .i_wakeHeld, .i_wakeUnit,
        .i_wakeDie, .i_modeCause, .i_wakePin], Reg.ofEvents]
      [[.committed], Part.ofEvents] s s') ∧
    (∀ (d : Nat) (s s' : State), exec (.auxRelock d) s = .next s' →
      Frame [[.AUX_STATUS, .i_scnRetrain], Reg.ofEvents] [Part.ofEvents] s s') ∧
    (∀ (d : Nat) (n : Nat) (v : Nat) (s s' : State), exec (.cueArm d n v) s = .next s' →
      Frame [[.CLD_STATUS, .CUE, .i_cueSince]] [[.fresh]] s s') ∧
    (∀ (d : Nat) (n : Nat) (v : Nat) (s s' : State), exec (.cueCancel d n v) s = .next s' →
      Frame [[.CLD_STATUS, .CUE, .i_cueSince]] [[.fresh]] s s') ∧
    (∀ (d : Nat) (n : Nat) (s s' : State), exec (.cueExecute d n) s = .next s' →
      Frame [[.SYN_STATUS, .SYN_ALIAS, .CLD_STATUS, .CLD_LATE_COUNT, .FIR_STATUS, .TRG_TERM_SNAP, .TRG_LAST, .TRG_TRIG_COUNT,
        .TRG_FORCE_DROP_COUNT, .TRG_TRIG_SNAP, .ACQ_SKIP_COUNT, .STR_MARK_LOST_COUNT, .TIM_SNAP, .CMP_SNAP, .MBX_STATUS, .CUE, .i_fadeWait,
        .i_fadeTo, .i_fadeFromPending, .i_fadeAt, .i_fadeTouch, .i_stopAsked, .i_stopAt, .i_deadBlk, .i_holdEnd, .i_discards, .i_rampStart,
        .i_rampFrom, .i_rampBase], Reg.ofArm, Reg.ofHarvest, Reg.ofSets, Reg.ofEvents]
      [[.outstanding, .kept, .arrivals, .booked], Part.ofHarvest, Part.ofSets, Part.ofEvents] s s') ∧
    (∀ (d : Nat) (v : Nat) (s s' : State), exec (.cldDtSnap d v) s = .next s' →
      Frame [[.CLD_DT_TICKS]] [] s s')
end

