-- ==== Sys2Proof/Laws/Sparse.lean ====
section
/-!
SUPPORT. Laws of sparse data: a read after a write, and that a write keeps the canonical form; of registers.
-/

namespace Sys2Proof.Machine

theorem sparseGet_put_of_ne {κ ν : Type} [DecidableEq κ] (lt : κ → κ → Bool) (tri : ∀ a b, lt a b = false → lt b a = false → a = b)
    {k j : κ} (hkj : j ≠ k) (ov : Option ν) (m : List (κ × ν)) : sparseGet j (sparsePut lt k ov m) = sparseGet j m := by
  induction m with
  | nil => cases ov <;> simp [sparsePut, sparseGet, Ne.symm hkj]
  | cons e t ih =>
    obtain ⟨k', v'⟩ := e
    unfold sparsePut
    by_cases h1 : lt k k' = true
    · cases ov <;> simp [h1, sparseGet, Ne.symm hkj]
    · by_cases h2 : lt k' k = true
      · simp [h1, h2, sparseGet, ih]
      · have := tri k k' (by simpa using h1) (by simpa using h2)
        subst this
        cases ov <;> simp [h1, sparseGet, Ne.symm hkj]

theorem sparseGet_put_self {κ ν : Type} [DecidableEq κ] (lt : κ → κ → Bool) (irr : ∀ a, lt a a = false) (k : κ) (v : ν) (m : List (κ × ν)) : sparseGet k (sparsePut lt k (some v) m) = some v := by
  induction m with
  | nil => simp [sparsePut, sparseGet]
  | cons e t ih =>
    obtain ⟨k', v'⟩ := e
    unfold sparsePut
    by_cases h1 : lt k k' = true
    · simp [h1, sparseGet]
    · by_cases h2 : lt k' k = true
      · have : k' ≠ k := fun h => by simp [h, irr] at h2
        simp [h1, h2, sparseGet, ih, this]
      · simp [h1, h2, sparseGet]

/-- In rising keys, a key below the first is not listed. -/
theorem sparseGet_none_of_lt {κ ν : Type} [DecidableEq κ] (lt : κ → κ → Bool) (irr : ∀ a, lt a a = false)
    (tr : ∀ a b c, lt a b = true → lt b c = true → lt a c = true) {k : κ} :
    ∀ (m : List (κ × ν)), sparseOrdered lt m = true → (∀ e ∈ m.head?, lt k e.1 = true) → sparseGet k m = none
  | [], _, _ => rfl
  | [(k', v')], _, h => by
    have : k' ≠ k := fun e => by simp [e, irr] at h
    simp [sparseGet, this]
  | (k', v') :: (k'', v'') :: t, ho, h => by
    simp only [sparseOrdered, Bool.and_eq_true] at ho
    have hk : lt k k' = true := by simpa using h
    have : k' ≠ k := fun e => by simp [e, irr] at hk
    rw [sparseGet, if_neg this]
    exact sparseGet_none_of_lt lt irr tr _ ho.2 (by simpa using tr _ _ _ hk ho.1)

theorem sparseOrdered_tail {κ ν : Type} (lt : κ → κ → Bool) {e : κ × ν} {t : List (κ × ν)} (h : sparseOrdered lt (e :: t) = true) :
    sparseOrdered lt t = true := by
  cases t with
  | nil => rfl
  | cons f t => simp only [sparseOrdered, Bool.and_eq_true] at h; exact h.2

theorem sparseGet_put_none {κ ν : Type} [DecidableEq κ] (lt : κ → κ → Bool) (tri : ∀ a b, lt a b = false → lt b a = false → a = b)
    (irr : ∀ a, lt a a = false) (tr : ∀ a b c, lt a b = true → lt b c = true → lt a c = true) (k : κ) (m : List (κ × ν))
    (ho : sparseOrdered lt m = true) : sparseGet k (sparsePut lt k none m) = none := by
  induction m with
  | nil => rfl
  | cons e t ih =>
    obtain ⟨k', v'⟩ := e
    unfold sparsePut
    by_cases h1 : lt k k' = true
    · simp only [h1, ite_true]
      exact sparseGet_none_of_lt lt irr tr _ ho (by simpa using h1)
    · by_cases h2 : lt k' k = true
      · have : k' ≠ k := fun h => by simp [h, irr] at h2
        simp only [h1, h2, ite_true, sparseGet, this, ite_false, Bool.false_eq_true]
        exact ih (sparseOrdered_tail lt ho)
      · have := tri k k' (by simpa using h1) (by simpa using h2)
        subst this
        simp only [h1, Bool.false_eq_true, ite_false]
        refine sparseGet_none_of_lt lt irr tr _ (sparseOrdered_tail lt ho) fun e he => ?_
        cases t with
        | nil => simp at he
        | cons f t =>
          simp only [List.head?_cons, Option.mem_def, Option.some.injEq] at he
          subst he
          simp only [sparseOrdered, Bool.and_eq_true] at ho
          exact ho.1

theorem sparseOrdered_cons {κ ν : Type} (lt : κ → κ → Bool) (e : κ × ν) (t : List (κ × ν)) :
    sparseOrdered lt (e :: t) = true ↔ (∀ f ∈ t.head?, lt e.1 f.1 = true) ∧ sparseOrdered lt t = true := by
  cases t with
  | nil => simp [sparseOrdered]
  | cons f t => simp [sparseOrdered]

/-- A write keeps the keys rising. -/
theorem sparseOrdered_put {κ ν : Type} (lt : κ → κ → Bool) (tri : ∀ a b, lt a b = false → lt b a = false → a = b)
    (tr : ∀ a b c, lt a b = true → lt b c = true → lt a c = true) (k : κ) (ov : Option ν) :
    ∀ m : List (κ × ν), sparseOrdered lt m = true →
      sparseOrdered lt (sparsePut lt k ov m) = true ∧
        ∀ j, lt j k = true → (∀ f ∈ m.head?, lt j f.1 = true) → ∀ f ∈ (sparsePut lt k ov m).head?, lt j f.1 = true
  | [], _ => by cases ov <;> simp [sparsePut, sparseOrdered]
  | (k', v') :: t, ho => by
    have hoc := (sparseOrdered_cons lt _ _).1 ho
    unfold sparsePut
    by_cases h1 : lt k k' = true
    · cases ov with
      | none => simp [h1, ho]
      | some v => simpa [h1, sparseOrdered, ho] using fun j hj _ => hj
    · by_cases h2 : lt k' k = true
      · have ih := sparseOrdered_put lt tri tr k ov t hoc.2
        simp only [h1, h2, ite_true, Bool.false_eq_true, ite_false]
        exact ⟨(sparseOrdered_cons lt _ _).2 ⟨ih.2 k' h2 hoc.1, ih.1⟩, fun j _ hf f he => hf f (by simpa using he)⟩
      · have e := tri k k' (by simpa using h1) (by simpa using h2)
        subst e
        cases ov with
        | none =>
          simp only [h1, Bool.false_eq_true, ite_false]
          exact ⟨hoc.2, fun j hj _ f he => tr _ _ _ hj (hoc.1 f he)⟩
        | some v =>
          simp only [h1, Bool.false_eq_true, ite_false]
          exact ⟨(sparseOrdered_cons lt _ _).2 ⟨hoc.1, hoc.2⟩, fun j hj _ f he => by
            simp only [List.head?_cons, Option.mem_def, Option.some.injEq] at he
            subst he; exact hj⟩

/-- What is listed after a write was listed before or is what was written. -/
theorem mem_sparsePut {κ ν : Type} (lt : κ → κ → Bool) (k : κ) (ov : Option ν) (e : κ × ν) :
    ∀ m : List (κ × ν), e ∈ sparsePut lt k ov m → e ∈ m ∨ (e.1 = k ∧ ov = some e.2)
  | [], h => by cases ov <;> simp_all [sparsePut]
  | (k', v') :: t, h => by
    unfold sparsePut at h
    by_cases h1 : lt k k' = true
    · cases ov <;> simp_all; rcases h with rfl | h <;> simp_all
    · by_cases h2 : lt k' k = true
      · simp only [h1, h2, ite_true, Bool.false_eq_true, ite_false, List.mem_cons] at h
        rcases h with rfl | h
        · simp
        · rcases mem_sparsePut lt k ov e t h with h | h
          · simp [h]
          · exact .inr h
      · cases ov <;> simp_all; rcases h with rfl | h <;> simp_all

/-- A filter keeps the keys rising. -/
theorem sparseOrdered_filter {κ ν : Type} (lt : κ → κ → Bool) (tr : ∀ a b c, lt a b = true → lt b c = true → lt a c = true)
    (p : κ × ν → Bool) : ∀ m : List (κ × ν), sparseOrdered lt m = true →
      sparseOrdered lt (m.filter p) = true ∧
        ∀ j, (∀ f ∈ m.head?, lt j f.1 = true) → ∀ f ∈ (m.filter p).head?, lt j f.1 = true
  | [], _ => by simp [sparseOrdered]
  | e :: t, ho => by
    have hoc := (sparseOrdered_cons lt _ _).1 ho
    have ih := sparseOrdered_filter lt tr p t hoc.2
    by_cases hp : p e = true
    · rw [List.filter_cons_of_pos hp]
      exact ⟨(sparseOrdered_cons lt _ _).2 ⟨ih.2 _ hoc.1, ih.1⟩, fun j hj f hf => hj f (by simpa using hf)⟩
    · rw [List.filter_cons_of_neg hp]
      exact ⟨ih.1, fun j hj => ih.2 j fun f hf => tr _ _ _ (hj e (by simp)) (hoc.1 f hf)⟩

/-- A key that passes the filter reads as before. -/
theorem sparseGet_filter {κ ν : Type} [DecidableEq κ] (p : κ × ν → Bool) (k : κ) (hp : ∀ v, p (k, v) = true) :
    ∀ m : List (κ × ν), sparseGet k (m.filter p) = sparseGet k m
  | [] => rfl
  | (k', v') :: t => by
    have ih := sparseGet_filter p k hp t
    by_cases e : k' = k
    · subst e; simp [hp, sparseGet]
    · by_cases h : p (k', v') = true <;> simp [h, sparseGet, e, ih]

-- Orders ---------------------------------------------------------------------------------------------

theorem natLt_tri (a b : Nat) (h1 : natLt a b = false) (h2 : natLt b a = false) : a = b := by simp [natLt] at *; omega
theorem natLt_irr (a : Nat) : natLt a a = false := by simp [natLt]
theorem natLt_trans (a b c : Nat) (h1 : natLt a b = true) (h2 : natLt b c = true) : natLt a c = true := by simp [natLt] at *; omega

theorem lexLt_tri : ∀ a b, lexLt a b = false → lexLt b a = false → a = b
  | [], [], _, _ => rfl
  | [], _ :: _, h, _ => by simp [lexLt] at h
  | _ :: _, [], _, h => by simp [lexLt] at h
  | a :: as, b :: bs, h1, h2 => by
    unfold lexLt at h1 h2
    by_cases hab : a < b
    · simp [hab] at h1
    · by_cases hba : b < a
      · simp [hba] at h2
      · have : a = b := by omega
        subst this
        simp at h1 h2
        rw [lexLt_tri as bs h1 h2]

theorem lexLt_irr : ∀ a, lexLt a a = false
  | [] => rfl
  | a :: as => by unfold lexLt; simp [lexLt_irr as]

theorem lexLt_trans : ∀ a b c, lexLt a b = true → lexLt b c = true → lexLt a c = true
  | [], [], _, h, _ => by simp [lexLt] at h
  | [], _ :: _, [], _, h => by simp [lexLt] at h
  | [], _ :: _, _ :: _, _, _ => rfl
  | _ :: _, [], _, h, _ => by simp [lexLt] at h
  | _ :: _, _ :: _, [], _, h => by simp [lexLt] at h
  | a :: as, b :: bs, c :: cs, h1, h2 => by
    unfold lexLt at h1 h2 ⊢
    by_cases hab : a < b
    · by_cases hbc : b < c
      · simp [show a < c by omega]
      · by_cases hcb : c < b
        · simp [hbc, hcb] at h2
        · simp [show a < c by omega]
    · by_cases hba : b < a
      · simp [hab, hba] at h1
      · have : a = b := by omega
        subst this
        by_cases hbc : a < c
        · simp [hbc]
        · by_cases hcb : c < a
          · simp [hbc, hcb] at h2
          · simp [hbc, hcb] at h1 h2 ⊢
            exact lexLt_trans as bs cs h1 h2

theorem RegKey.code_inj (a b : RegKey) (h : a.code = b.code) : a = b := by
  obtain ⟨ra, la, ia⟩ := a
  obtain ⟨rb, lb, ib⟩ := b
  simp only [RegKey.code, List.cons.injEq] at h
  obtain ⟨h1, rfl, rfl⟩ := h
  have : ra = rb := by rw [← Reg.ofNat_ctorIdx ra, h1, Reg.ofNat_ctorIdx]
  rw [this]

theorem RegKey.lt_tri (a b : RegKey) (h1 : RegKey.lt a b = false) (h2 : RegKey.lt b a = false) : a = b :=
  RegKey.code_inj a b (lexLt_tri _ _ h1 h2)
theorem RegKey.lt_irr (a : RegKey) : RegKey.lt a a = false := lexLt_irr _
theorem RegKey.lt_trans (a b c : RegKey) (h1 : RegKey.lt a b = true) (h2 : RegKey.lt b c = true) : RegKey.lt a c = true :=
  lexLt_trans _ _ _ h1 h2

-- Registers ------------------------------------------------------------------------------------------

/-- Another key reads as before. -/
theorem RegFile.get_put_of_ne {k j : RegKey} (h : j ≠ k) (m : RegFile) (v : Nat) : RegFile.get (RegFile.put m k v) j = RegFile.get m j := by
  unfold RegFile.get RegFile.put
  rw [sparseGet_put_of_ne _ RegKey.lt_tri h]

/-- The key written reads what was written. -/
theorem RegFile.get_put_self {m : RegFile} (hm : RegFile.wf m = true) (k : RegKey) (v : Nat) : RegFile.get (RegFile.put m k v) k = v := by
  unfold RegFile.get RegFile.put
  simp only [RegFile.wf, Bool.and_eq_true] at hm
  by_cases hv : v = k.reset
  · rw [if_pos hv, sparseGet_put_none _ RegKey.lt_tri RegKey.lt_irr RegKey.lt_trans _ _ hm.1, hv]; rfl
  · rw [if_neg hv, sparseGet_put_self _ RegKey.lt_irr]; rfl

/-- A write keeps the canonical form. -/
theorem RegFile.wf_put {m : RegFile} (hm : RegFile.wf m = true) (k : RegKey) (v : Nat) : RegFile.wf (RegFile.put m k v) = true := by
  simp only [RegFile.wf, Bool.and_eq_true, List.all_eq_true] at hm ⊢
  refine ⟨(sparseOrdered_put _ RegKey.lt_tri RegKey.lt_trans _ _ m hm.1).1, fun e he => ?_⟩
  rcases mem_sparsePut _ _ _ _ _ he with h | ⟨h, h'⟩
  · exact hm.2 e h
  · by_cases hv : v = k.reset
    · simp [hv] at h'
    · simp only [hv, ite_false, Option.some.injEq] at h'
      simpa [h, ← h'] using hv

/-- A filter keeps the canonical form. -/
theorem RegFile.wf_filter {m : RegFile} (hm : RegFile.wf m = true) (p : RegKey × Nat → Bool) : RegFile.wf (m.filter p) = true := by
  simp only [RegFile.wf, Bool.and_eq_true, List.all_eq_true] at hm ⊢
  exact ⟨(sparseOrdered_filter _ RegKey.lt_trans _ m hm.1).1, fun e he => hm.2 e (List.mem_filter.1 he).1⟩

/-- A key that passes the filter reads as before. -/
theorem RegFile.get_filter (m : RegFile) (p : RegKey × Nat → Bool) (k : RegKey) (hp : ∀ v, p (k, v) = true) :
    RegFile.get (m.filter p) k = RegFile.get m k := by
  unfold RegFile.get; rw [sparseGet_filter p k hp]

/-- A key that no entry of passes the filter reads its reset value. -/
theorem RegFile.get_filter_drop (m : RegFile) (p : RegKey × Nat → Bool) (k : RegKey) (hp : ∀ v, p (k, v) = false) :
    RegFile.get (m.filter p) k = k.reset := by
  unfold RegFile.get
  suffices h : sparseGet k (m.filter p) = none by rw [h]; rfl
  induction m with
  | nil => rfl
  | cons e m ih =>
    obtain ⟨j, v⟩ := e
    rw [List.filter_cons]
    split
    · rename_i h
      have : j ≠ k := fun x => by subst x; rw [hp v] at h; cases h
      simp only [sparseGet, if_neg this]
      exact ih
    · exact ih

end Sys2Proof.Machine
end

