-- ==== Sys2Proof/Laws/State.lean ====
section
/-!
SUPPORT. What the plain updates of the state change and leave, field by field; a read after a write.
-/

namespace Sys2Proof.Machine

-- Registers ------------------------------------------------------------------------------------------

theorem State.rd_def (s : State) (f : Fld) (ix : List Nat) : s.rd f ix = s.regs.get ⟨f.reg, f.lo, ix⟩ := rfl

/-- A field reads what was written to it, cut to its width. -/
theorem State.rd_wr_self {s : State} (h : s.regs.wf = true) (f : Fld) (ix : List Nat) (v : Nat) :
    (s.wr f ix v).rd f ix = trunc f.width v := RegFile.get_put_self h _ _

/-- A field reads what a list of indices equal to its own was written. -/
theorem State.rd_wr_eq {s : State} (h : s.regs.wf = true) (f : Fld) {ix jx : List Nat} (e : jx = ix) (v : Nat) :
    (s.wr f ix v).rd f jx = trunc f.width v := by subst e; exact State.rd_wr_self h f jx v

/-- Another register reads as before. -/
theorem State.rd_wr_of_reg {f g : Fld} (h : g.reg ≠ f.reg) (s : State) (ix jx : List Nat) (v : Nat) :
    (s.wr f ix v).rd g jx = s.rd g jx := RegFile.get_put_of_ne (fun e => h (congrArg RegKey.reg e)) _ _

/-- Another field reads as before. -/
theorem State.rd_wr_of_lo {f g : Fld} (h : g.lo ≠ f.lo) (s : State) (ix jx : List Nat) (v : Nat) :
    (s.wr f ix v).rd g jx = s.rd g jx := RegFile.get_put_of_ne (fun e => h (congrArg RegKey.lo e)) _ _

/-- The same field at other indices reads as before. -/
theorem State.rd_wr_of_ix {ix jx : List Nat} (h : jx ≠ ix) (s : State) (f g : Fld) (v : Nat) :
    (s.wr f ix v).rd g jx = s.rd g jx := RegFile.get_put_of_ne (fun e => h (congrArg RegKey.ix e)) _ _

/-- A field after a write of a field. -/
theorem State.rd_wr {s : State} (h : s.regs.wf = true) (f g : Fld) (ix jx : List Nat) (v : Nat) :
    (s.wr f ix v).rd g jx = if g.reg = f.reg ∧ g.lo = f.lo ∧ jx = ix then trunc f.width v else s.rd g jx := by
  split
  · rename_i e
    obtain ⟨a, b, c⟩ := e
    subst c
    rw [State.rd_def, show (⟨g.reg, g.lo, jx⟩ : RegKey) = ⟨f.reg, f.lo, jx⟩ by rw [a, b]]
    exact State.rd_wr_self h f jx v
  · rename_i e
    refine RegFile.get_put_of_ne (fun x => e ?_) _ _
    injection x with a b c
    exact ⟨a, b, c⟩

/-- Every entry of another register keeps its value. -/
theorem State.get_wr_of_reg {k : RegKey} {f : Fld} (h : k.reg ≠ f.reg) (s : State) (ix : List Nat) (v : Nat) :
    (s.wr f ix v).regs.get k = s.regs.get k := RegFile.get_put_of_ne (fun e => h (by rw [e])) _ _

/-- A write of a register keeps the registers canonical. -/
theorem State.wr_regs_wf {s : State} (h : s.regs.wf = true) (f : Fld) (ix : List Nat) (v : Nat) : (s.wr f ix v).regs.wf = true :=
  RegFile.wf_put h _ _

-- Memory ---------------------------------------------------------------------------------------------

/-- The byte written reads back. -/
theorem State.memGet_memPut_self {s : State} (h : Memory.wf s.mem = true) (a : Nat) (b : Byte) : (s.memPut a b).memGet a = b := by
  simp only [Memory.wf, Bool.and_eq_true] at h
  unfold State.memPut State.memGet
  by_cases hb : b = 0
  · simp only [hb, ite_true]
    rw [sparseGet_put_none _ natLt_tri natLt_irr natLt_trans _ _ h.1]; rfl
  · simp only [hb, ite_false]
    rw [sparseGet_put_self _ natLt_irr]; rfl

/-- Every other byte reads as before. -/
theorem State.memGet_memPut_of_ne {a a' : Nat} (h : a' ≠ a) (s : State) (b : Byte) : (s.memPut a b).memGet a' = s.memGet a' := by
  unfold State.memPut State.memGet
  rw [sparseGet_put_of_ne _ natLt_tri h]

/-- A write of a byte keeps memory canonical. -/
theorem Memory.wf_put {m : List Host.Cell} (h : Memory.wf m = true) (a : Nat) (b : Byte) :
    Memory.wf (sparsePut natLt a (if b = 0 then none else some b) m) = true := by
  simp only [Memory.wf, Bool.and_eq_true, List.all_eq_true] at h ⊢
  refine ⟨(sparseOrdered_put _ natLt_tri natLt_trans _ _ m h.1).1, fun e he => ?_⟩
  rcases mem_sparsePut _ _ _ _ _ he with h' | ⟨_, h'⟩
  · exact h.2 e h'
  · by_cases hb : b = 0
    · simp [hb] at h'
    · simp only [hb, ite_false, Option.some.injEq] at h'
      simpa [← h'] using hb

/-- A filter keeps memory canonical. -/
theorem Memory.wf_filter {m : List Host.Cell} (h : Memory.wf m = true) (p : Host.Cell → Bool) : Memory.wf (m.filter p) = true := by
  simp only [Memory.wf, Bool.and_eq_true, List.all_eq_true] at h ⊢
  exact ⟨(sparseOrdered_filter _ natLt_trans _ m h.1).1, fun e he => h.2 e (List.mem_filter.1 he).1⟩

/-- A byte of the flash that takes a value keeps the flash canonical. -/
theorem Flash.wf_put {m : List Host.Cell} (h : Flash.wf m = true) (a : Nat) (b : Byte) :
    Flash.wf (sparsePut natLt a (if b = 255 then none else some b) m) = true := by
  simp only [Flash.wf, Bool.and_eq_true, List.all_eq_true] at h ⊢
  refine ⟨(sparseOrdered_put _ natLt_tri natLt_trans _ _ m h.1).1, fun e he => ?_⟩
  rcases mem_sparsePut _ _ _ _ _ he with h' | ⟨_, h'⟩
  · exact h.2 e h'
  · by_cases hb : b = 255
    · simp [hb] at h'
    · simp only [hb, ite_false, Option.some.injEq] at h'
      simpa [← h'] using hb

/-- A filter keeps the flash canonical. -/
theorem Flash.wf_filter {m : List Host.Cell} (h : Flash.wf m = true) (p : Host.Cell → Bool) : Flash.wf (m.filter p) = true := by
  simp only [Flash.wf, Bool.and_eq_true, List.all_eq_true] at h ⊢
  exact ⟨(sparseOrdered_filter _ natLt_trans _ m h.1).1, fun e he => h.2 e (List.mem_filter.1 he).1⟩

-- Field by field -------------------------------------------------------------------------------------
@[simp] theorem State.wr_mode (s : State) (f : Fld) (ix : List Nat) (v : Nat) : (s.wr f ix v).mode = s.mode := rfl
@[simp] theorem State.wr_control (s : State) (f : Fld) (ix : List Nat) (v : Nat) : (s.wr f ix v).control = s.control := rfl
@[simp] theorem State.wr_now (s : State) (f : Fld) (ix : List Nat) (v : Nat) : (s.wr f ix v).now = s.now := rfl
@[simp] theorem State.wr_dt (s : State) (f : Fld) (ix : List Nat) (v : Nat) : (s.wr f ix v).dt = s.dt := rfl
@[simp] theorem State.wr_dtPrev (s : State) (f : Fld) (ix : List Nat) (v : Nat) : (s.wr f ix v).dtPrev = s.dtPrev := rfl
@[simp] theorem State.wr_mem (s : State) (f : Fld) (ix : List Nat) (v : Nat) : (s.wr f ix v).mem = s.mem := rfl
@[simp] theorem State.wr_misread (s : State) (f : Fld) (ix : List Nat) (v : Nat) : (s.wr f ix v).misread = s.misread := rfl
@[simp] theorem State.wr_heldWrites (s : State) (f : Fld) (ix : List Nat) (v : Nat) : (s.wr f ix v).heldWrites = s.heldWrites := rfl
@[simp] theorem State.wr_acq (s : State) (f : Fld) (ix : List Nat) (v : Nat) : (s.wr f ix v).acq = s.acq := rfl
@[simp] theorem State.wr_tims (s : State) (f : Fld) (ix : List Nat) (v : Nat) : (s.wr f ix v).tims = s.tims := rfl
@[simp] theorem State.wr_timHeld (s : State) (f : Fld) (ix : List Nat) (v : Nat) : (s.wr f ix v).timHeld = s.timHeld := rfl
@[simp] theorem State.wr_acc (s : State) (f : Fld) (ix : List Nat) (v : Nat) : (s.wr f ix v).acc = s.acc := rfl
@[simp] theorem State.wr_layers (s : State) (f : Fld) (ix : List Nat) (v : Nat) : (s.wr f ix v).layers = s.layers := rfl
@[simp] theorem State.wr_pool (s : State) (f : Fld) (ix : List Nat) (v : Nat) : (s.wr f ix v).pool = s.pool := rfl
@[simp] theorem State.wr_summaries (s : State) (f : Fld) (ix : List Nat) (v : Nat) : (s.wr f ix v).summaries = s.summaries := rfl
@[simp] theorem State.wr_library (s : State) (f : Fld) (ix : List Nat) (v : Nat) : (s.wr f ix v).library = s.library := rfl
@[simp] theorem State.wr_deliveries (s : State) (f : Fld) (ix : List Nat) (v : Nat) : (s.wr f ix v).deliveries = s.deliveries := rfl
@[simp] theorem State.wr_out (s : State) (f : Fld) (ix : List Nat) (v : Nat) : (s.wr f ix v).out = s.out := rfl
@[simp] theorem State.wr_ringRecs (s : State) (f : Fld) (ix : List Nat) (v : Nat) : (s.wr f ix v).ringRecs = s.ringRecs := rfl
@[simp] theorem State.wr_taken (s : State) (f : Fld) (ix : List Nat) (v : Nat) : (s.wr f ix v).taken = s.taken := rfl
@[simp] theorem State.wr_outstanding (s : State) (f : Fld) (ix : List Nat) (v : Nat) : (s.wr f ix v).outstanding = s.outstanding := rfl
@[simp] theorem State.wr_kept (s : State) (f : Fld) (ix : List Nat) (v : Nat) : (s.wr f ix v).kept = s.kept := rfl
@[simp] theorem State.wr_violations (s : State) (f : Fld) (ix : List Nat) (v : Nat) : (s.wr f ix v).violations = s.violations := rfl
@[simp] theorem State.wr_coreReqs (s : State) (f : Fld) (ix : List Nat) (v : Nat) : (s.wr f ix v).coreReqs = s.coreReqs := rfl
@[simp] theorem State.wr_fwRecords (s : State) (f : Fld) (ix : List Nat) (v : Nat) : (s.wr f ix v).fwRecords = s.fwRecords := rfl
@[simp] theorem State.wr_committed (s : State) (f : Fld) (ix : List Nat) (v : Nat) : (s.wr f ix v).committed = s.committed := rfl
@[simp] theorem State.wr_periodDraws (s : State) (f : Fld) (ix : List Nat) (v : Nat) : (s.wr f ix v).periodDraws = s.periodDraws := rfl
@[simp] theorem State.wr_deratedAt (s : State) (f : Fld) (ix : List Nat) (v : Nat) : (s.wr f ix v).deratedAt = s.deratedAt := rfl
@[simp] theorem State.wr_deferred (s : State) (f : Fld) (ix : List Nat) (v : Nat) : (s.wr f ix v).deferred = s.deferred := rfl
@[simp] theorem State.wr_running (s : State) (f : Fld) (ix : List Nat) (v : Nat) : (s.wr f ix v).running = s.running := rfl
@[simp] theorem State.wr_waiting (s : State) (f : Fld) (ix : List Nat) (v : Nat) : (s.wr f ix v).waiting = s.waiting := rfl
@[simp] theorem State.wr_bobbin (s : State) (f : Fld) (ix : List Nat) (v : Nat) : (s.wr f ix v).bobbin = s.bobbin := rfl
@[simp] theorem State.wr_retiring (s : State) (f : Fld) (ix : List Nat) (v : Nat) : (s.wr f ix v).retiring = s.retiring := rfl
@[simp] theorem State.wr_flash (s : State) (f : Fld) (ix : List Nat) (v : Nat) : (s.wr f ix v).flash = s.flash := rfl
@[simp] theorem State.wr_snapshot (s : State) (f : Fld) (ix : List Nat) (v : Nat) : (s.wr f ix v).snapshot = s.snapshot := rfl
@[simp] theorem State.wr_cardErrs (s : State) (f : Fld) (ix : List Nat) (v : Nat) : (s.wr f ix v).cardErrs = s.cardErrs := rfl
@[simp] theorem State.wr_tapMoves (s : State) (f : Fld) (ix : List Nat) (v : Nat) : (s.wr f ix v).tapMoves = s.tapMoves := rfl
@[simp] theorem State.wr_combFits (s : State) (f : Fld) (ix : List Nat) (v : Nat) : (s.wr f ix v).combFits = s.combFits := rfl
@[simp] theorem State.wr_fades (s : State) (f : Fld) (ix : List Nat) (v : Nat) : (s.wr f ix v).fades = s.fades := rfl
@[simp] theorem State.wr_counted (s : State) (f : Fld) (ix : List Nat) (v : Nat) : (s.wr f ix v).counted = s.counted := rfl
@[simp] theorem State.wr_arrivals (s : State) (f : Fld) (ix : List Nat) (v : Nat) : (s.wr f ix v).arrivals = s.arrivals := rfl
@[simp] theorem State.wr_spans (s : State) (f : Fld) (ix : List Nat) (v : Nat) : (s.wr f ix v).spans = s.spans := rfl
@[simp] theorem State.wr_fresh (s : State) (f : Fld) (ix : List Nat) (v : Nat) : (s.wr f ix v).fresh = s.fresh := rfl
@[simp] theorem State.wr_heldRecs (s : State) (f : Fld) (ix : List Nat) (v : Nat) : (s.wr f ix v).heldRecs = s.heldRecs := rfl
@[simp] theorem State.wr_nextActs (s : State) (f : Fld) (ix : List Nat) (v : Nat) : (s.wr f ix v).nextActs = s.nextActs := rfl
@[simp] theorem State.wr_booked (s : State) (f : Fld) (ix : List Nat) (v : Nat) : (s.wr f ix v).booked = s.booked := rfl
@[simp] theorem State.wr_closing (s : State) (f : Fld) (ix : List Nat) (v : Nat) : (s.wr f ix v).closing = s.closing := rfl
@[simp] theorem State.wr_freeCtr (s : State) (f : Fld) (ix : List Nat) (v : Nat) : (s.wr f ix v).freeCtr = s.freeCtr := rfl
@[simp] theorem State.wr_pending (s : State) (f : Fld) (ix : List Nat) (v : Nat) : (s.wr f ix v).pending = s.pending := rfl
@[simp] theorem State.emit_mode (s : State) (o : Output) : (s.emit o).mode = s.mode := rfl
@[simp] theorem State.emit_control (s : State) (o : Output) : (s.emit o).control = s.control := rfl
@[simp] theorem State.emit_now (s : State) (o : Output) : (s.emit o).now = s.now := rfl
@[simp] theorem State.emit_dt (s : State) (o : Output) : (s.emit o).dt = s.dt := rfl
@[simp] theorem State.emit_dtPrev (s : State) (o : Output) : (s.emit o).dtPrev = s.dtPrev := rfl
@[simp] theorem State.emit_regs (s : State) (o : Output) : (s.emit o).regs = s.regs := rfl
@[simp] theorem State.emit_mem (s : State) (o : Output) : (s.emit o).mem = s.mem := rfl
@[simp] theorem State.emit_misread (s : State) (o : Output) : (s.emit o).misread = s.misread := rfl
@[simp] theorem State.emit_heldWrites (s : State) (o : Output) : (s.emit o).heldWrites = s.heldWrites := rfl
@[simp] theorem State.emit_acq (s : State) (o : Output) : (s.emit o).acq = s.acq := rfl
@[simp] theorem State.emit_tims (s : State) (o : Output) : (s.emit o).tims = s.tims := rfl
@[simp] theorem State.emit_timHeld (s : State) (o : Output) : (s.emit o).timHeld = s.timHeld := rfl
@[simp] theorem State.emit_acc (s : State) (o : Output) : (s.emit o).acc = s.acc := rfl
@[simp] theorem State.emit_layers (s : State) (o : Output) : (s.emit o).layers = s.layers := rfl
@[simp] theorem State.emit_pool (s : State) (o : Output) : (s.emit o).pool = s.pool := rfl
@[simp] theorem State.emit_summaries (s : State) (o : Output) : (s.emit o).summaries = s.summaries := rfl
@[simp] theorem State.emit_library (s : State) (o : Output) : (s.emit o).library = s.library := rfl
@[simp] theorem State.emit_deliveries (s : State) (o : Output) : (s.emit o).deliveries = s.deliveries := rfl
@[simp] theorem State.emit_ringRecs (s : State) (o : Output) : (s.emit o).ringRecs = s.ringRecs := rfl
@[simp] theorem State.emit_taken (s : State) (o : Output) : (s.emit o).taken = s.taken := rfl
@[simp] theorem State.emit_outstanding (s : State) (o : Output) : (s.emit o).outstanding = s.outstanding := rfl
@[simp] theorem State.emit_kept (s : State) (o : Output) : (s.emit o).kept = s.kept := rfl
@[simp] theorem State.emit_violations (s : State) (o : Output) : (s.emit o).violations = s.violations := rfl
@[simp] theorem State.emit_coreReqs (s : State) (o : Output) : (s.emit o).coreReqs = s.coreReqs := rfl
@[simp] theorem State.emit_fwRecords (s : State) (o : Output) : (s.emit o).fwRecords = s.fwRecords := rfl
@[simp] theorem State.emit_committed (s : State) (o : Output) : (s.emit o).committed = s.committed := rfl
@[simp] theorem State.emit_periodDraws (s : State) (o : Output) : (s.emit o).periodDraws = s.periodDraws := rfl
@[simp] theorem State.emit_deratedAt (s : State) (o : Output) : (s.emit o).deratedAt = s.deratedAt := rfl
@[simp] theorem State.emit_deferred (s : State) (o : Output) : (s.emit o).deferred = s.deferred := rfl
@[simp] theorem State.emit_running (s : State) (o : Output) : (s.emit o).running = s.running := rfl
@[simp] theorem State.emit_waiting (s : State) (o : Output) : (s.emit o).waiting = s.waiting := rfl
@[simp] theorem State.emit_bobbin (s : State) (o : Output) : (s.emit o).bobbin = s.bobbin := rfl
@[simp] theorem State.emit_retiring (s : State) (o : Output) : (s.emit o).retiring = s.retiring := rfl
@[simp] theorem State.emit_flash (s : State) (o : Output) : (s.emit o).flash = s.flash := rfl
@[simp] theorem State.emit_snapshot (s : State) (o : Output) : (s.emit o).snapshot = s.snapshot := rfl
@[simp] theorem State.emit_cardErrs (s : State) (o : Output) : (s.emit o).cardErrs = s.cardErrs := rfl
@[simp] theorem State.emit_tapMoves (s : State) (o : Output) : (s.emit o).tapMoves = s.tapMoves := rfl
@[simp] theorem State.emit_combFits (s : State) (o : Output) : (s.emit o).combFits = s.combFits := rfl
@[simp] theorem State.emit_fades (s : State) (o : Output) : (s.emit o).fades = s.fades := rfl
@[simp] theorem State.emit_counted (s : State) (o : Output) : (s.emit o).counted = s.counted := rfl
@[simp] theorem State.emit_arrivals (s : State) (o : Output) : (s.emit o).arrivals = s.arrivals := rfl
@[simp] theorem State.emit_spans (s : State) (o : Output) : (s.emit o).spans = s.spans := rfl
@[simp] theorem State.emit_fresh (s : State) (o : Output) : (s.emit o).fresh = s.fresh := rfl
@[simp] theorem State.emit_heldRecs (s : State) (o : Output) : (s.emit o).heldRecs = s.heldRecs := rfl
@[simp] theorem State.emit_nextActs (s : State) (o : Output) : (s.emit o).nextActs = s.nextActs := rfl
@[simp] theorem State.emit_booked (s : State) (o : Output) : (s.emit o).booked = s.booked := rfl
@[simp] theorem State.emit_closing (s : State) (o : Output) : (s.emit o).closing = s.closing := rfl
@[simp] theorem State.emit_freeCtr (s : State) (o : Output) : (s.emit o).freeCtr = s.freeCtr := rfl
@[simp] theorem State.emit_pending (s : State) (o : Output) : (s.emit o).pending = s.pending := rfl
@[simp] theorem State.useFree_mode (s : State) : (s.useFree).mode = s.mode := rfl
@[simp] theorem State.useFree_control (s : State) : (s.useFree).control = s.control := rfl
@[simp] theorem State.useFree_now (s : State) : (s.useFree).now = s.now := rfl
@[simp] theorem State.useFree_dt (s : State) : (s.useFree).dt = s.dt := rfl
@[simp] theorem State.useFree_dtPrev (s : State) : (s.useFree).dtPrev = s.dtPrev := rfl
@[simp] theorem State.useFree_regs (s : State) : (s.useFree).regs = s.regs := rfl
@[simp] theorem State.useFree_mem (s : State) : (s.useFree).mem = s.mem := rfl
@[simp] theorem State.useFree_misread (s : State) : (s.useFree).misread = s.misread := rfl
@[simp] theorem State.useFree_heldWrites (s : State) : (s.useFree).heldWrites = s.heldWrites := rfl
@[simp] theorem State.useFree_acq (s : State) : (s.useFree).acq = s.acq := rfl
@[simp] theorem State.useFree_tims (s : State) : (s.useFree).tims = s.tims := rfl
@[simp] theorem State.useFree_timHeld (s : State) : (s.useFree).timHeld = s.timHeld := rfl
@[simp] theorem State.useFree_acc (s : State) : (s.useFree).acc = s.acc := rfl
@[simp] theorem State.useFree_layers (s : State) : (s.useFree).layers = s.layers := rfl
@[simp] theorem State.useFree_pool (s : State) : (s.useFree).pool = s.pool := rfl
@[simp] theorem State.useFree_summaries (s : State) : (s.useFree).summaries = s.summaries := rfl
@[simp] theorem State.useFree_library (s : State) : (s.useFree).library = s.library := rfl
@[simp] theorem State.useFree_deliveries (s : State) : (s.useFree).deliveries = s.deliveries := rfl
@[simp] theorem State.useFree_out (s : State) : (s.useFree).out = s.out := rfl
@[simp] theorem State.useFree_ringRecs (s : State) : (s.useFree).ringRecs = s.ringRecs := rfl
@[simp] theorem State.useFree_taken (s : State) : (s.useFree).taken = s.taken := rfl
@[simp] theorem State.useFree_outstanding (s : State) : (s.useFree).outstanding = s.outstanding := rfl
@[simp] theorem State.useFree_kept (s : State) : (s.useFree).kept = s.kept := rfl
@[simp] theorem State.useFree_violations (s : State) : (s.useFree).violations = s.violations := rfl
@[simp] theorem State.useFree_coreReqs (s : State) : (s.useFree).coreReqs = s.coreReqs := rfl
@[simp] theorem State.useFree_fwRecords (s : State) : (s.useFree).fwRecords = s.fwRecords := rfl
@[simp] theorem State.useFree_committed (s : State) : (s.useFree).committed = s.committed := rfl
@[simp] theorem State.useFree_periodDraws (s : State) : (s.useFree).periodDraws = s.periodDraws := rfl
@[simp] theorem State.useFree_deratedAt (s : State) : (s.useFree).deratedAt = s.deratedAt := rfl
@[simp] theorem State.useFree_deferred (s : State) : (s.useFree).deferred = s.deferred := rfl
@[simp] theorem State.useFree_running (s : State) : (s.useFree).running = s.running := rfl
@[simp] theorem State.useFree_waiting (s : State) : (s.useFree).waiting = s.waiting := rfl
@[simp] theorem State.useFree_bobbin (s : State) : (s.useFree).bobbin = s.bobbin := rfl
@[simp] theorem State.useFree_retiring (s : State) : (s.useFree).retiring = s.retiring := rfl
@[simp] theorem State.useFree_flash (s : State) : (s.useFree).flash = s.flash := rfl
@[simp] theorem State.useFree_snapshot (s : State) : (s.useFree).snapshot = s.snapshot := rfl
@[simp] theorem State.useFree_cardErrs (s : State) : (s.useFree).cardErrs = s.cardErrs := rfl
@[simp] theorem State.useFree_tapMoves (s : State) : (s.useFree).tapMoves = s.tapMoves := rfl
@[simp] theorem State.useFree_combFits (s : State) : (s.useFree).combFits = s.combFits := rfl
@[simp] theorem State.useFree_fades (s : State) : (s.useFree).fades = s.fades := rfl
@[simp] theorem State.useFree_counted (s : State) : (s.useFree).counted = s.counted := rfl
@[simp] theorem State.useFree_arrivals (s : State) : (s.useFree).arrivals = s.arrivals := rfl
@[simp] theorem State.useFree_spans (s : State) : (s.useFree).spans = s.spans := rfl
@[simp] theorem State.useFree_fresh (s : State) : (s.useFree).fresh = s.fresh := rfl
@[simp] theorem State.useFree_heldRecs (s : State) : (s.useFree).heldRecs = s.heldRecs := rfl
@[simp] theorem State.useFree_nextActs (s : State) : (s.useFree).nextActs = s.nextActs := rfl
@[simp] theorem State.useFree_booked (s : State) : (s.useFree).booked = s.booked := rfl
@[simp] theorem State.useFree_closing (s : State) : (s.useFree).closing = s.closing := rfl
@[simp] theorem State.useFree_pending (s : State) : (s.useFree).pending = s.pending := rfl
@[simp] theorem State.memPut_mode (s : State) (a : Nat) (b : Byte) : (s.memPut a b).mode = s.mode := rfl
@[simp] theorem State.memPut_control (s : State) (a : Nat) (b : Byte) : (s.memPut a b).control = s.control := rfl
@[simp] theorem State.memPut_now (s : State) (a : Nat) (b : Byte) : (s.memPut a b).now = s.now := rfl
@[simp] theorem State.memPut_dt (s : State) (a : Nat) (b : Byte) : (s.memPut a b).dt = s.dt := rfl
@[simp] theorem State.memPut_dtPrev (s : State) (a : Nat) (b : Byte) : (s.memPut a b).dtPrev = s.dtPrev := rfl
@[simp] theorem State.memPut_regs (s : State) (a : Nat) (b : Byte) : (s.memPut a b).regs = s.regs := rfl
@[simp] theorem State.memPut_misread (s : State) (a : Nat) (b : Byte) : (s.memPut a b).misread = s.misread := rfl
@[simp] theorem State.memPut_heldWrites (s : State) (a : Nat) (b : Byte) : (s.memPut a b).heldWrites = s.heldWrites := rfl
@[simp] theorem State.memPut_acq (s : State) (a : Nat) (b : Byte) : (s.memPut a b).acq = s.acq := rfl
@[simp] theorem State.memPut_tims (s : State) (a : Nat) (b : Byte) : (s.memPut a b).tims = s.tims := rfl
@[simp] theorem State.memPut_timHeld (s : State) (a : Nat) (b : Byte) : (s.memPut a b).timHeld = s.timHeld := rfl
@[simp] theorem State.memPut_acc (s : State) (a : Nat) (b : Byte) : (s.memPut a b).acc = s.acc := rfl
@[simp] theorem State.memPut_layers (s : State) (a : Nat) (b : Byte) : (s.memPut a b).layers = s.layers := rfl
@[simp] theorem State.memPut_pool (s : State) (a : Nat) (b : Byte) : (s.memPut a b).pool = s.pool := rfl
@[simp] theorem State.memPut_summaries (s : State) (a : Nat) (b : Byte) : (s.memPut a b).summaries = s.summaries := rfl
@[simp] theorem State.memPut_library (s : State) (a : Nat) (b : Byte) : (s.memPut a b).library = s.library := rfl
@[simp] theorem State.memPut_deliveries (s : State) (a : Nat) (b : Byte) : (s.memPut a b).deliveries = s.deliveries := rfl
@[simp] theorem State.memPut_out (s : State) (a : Nat) (b : Byte) : (s.memPut a b).out = s.out := rfl
@[simp] theorem State.memPut_ringRecs (s : State) (a : Nat) (b : Byte) : (s.memPut a b).ringRecs = s.ringRecs := rfl
@[simp] theorem State.memPut_taken (s : State) (a : Nat) (b : Byte) : (s.memPut a b).taken = s.taken := rfl
@[simp] theorem State.memPut_outstanding (s : State) (a : Nat) (b : Byte) : (s.memPut a b).outstanding = s.outstanding := rfl
@[simp] theorem State.memPut_kept (s : State) (a : Nat) (b : Byte) : (s.memPut a b).kept = s.kept := rfl
@[simp] theorem State.memPut_violations (s : State) (a : Nat) (b : Byte) : (s.memPut a b).violations = s.violations := rfl
@[simp] theorem State.memPut_coreReqs (s : State) (a : Nat) (b : Byte) : (s.memPut a b).coreReqs = s.coreReqs := rfl
@[simp] theorem State.memPut_fwRecords (s : State) (a : Nat) (b : Byte) : (s.memPut a b).fwRecords = s.fwRecords := rfl
@[simp] theorem State.memPut_committed (s : State) (a : Nat) (b : Byte) : (s.memPut a b).committed = s.committed := rfl
@[simp] theorem State.memPut_periodDraws (s : State) (a : Nat) (b : Byte) : (s.memPut a b).periodDraws = s.periodDraws := rfl
@[simp] theorem State.memPut_deratedAt (s : State) (a : Nat) (b : Byte) : (s.memPut a b).deratedAt = s.deratedAt := rfl
@[simp] theorem State.memPut_deferred (s : State) (a : Nat) (b : Byte) : (s.memPut a b).deferred = s.deferred := rfl
@[simp] theorem State.memPut_running (s : State) (a : Nat) (b : Byte) : (s.memPut a b).running = s.running := rfl
@[simp] theorem State.memPut_waiting (s : State) (a : Nat) (b : Byte) : (s.memPut a b).waiting = s.waiting := rfl
@[simp] theorem State.memPut_bobbin (s : State) (a : Nat) (b : Byte) : (s.memPut a b).bobbin = s.bobbin := rfl
@[simp] theorem State.memPut_retiring (s : State) (a : Nat) (b : Byte) : (s.memPut a b).retiring = s.retiring := rfl
@[simp] theorem State.memPut_flash (s : State) (a : Nat) (b : Byte) : (s.memPut a b).flash = s.flash := rfl
@[simp] theorem State.memPut_snapshot (s : State) (a : Nat) (b : Byte) : (s.memPut a b).snapshot = s.snapshot := rfl
@[simp] theorem State.memPut_cardErrs (s : State) (a : Nat) (b : Byte) : (s.memPut a b).cardErrs = s.cardErrs := rfl
@[simp] theorem State.memPut_tapMoves (s : State) (a : Nat) (b : Byte) : (s.memPut a b).tapMoves = s.tapMoves := rfl
@[simp] theorem State.memPut_combFits (s : State) (a : Nat) (b : Byte) : (s.memPut a b).combFits = s.combFits := rfl
@[simp] theorem State.memPut_fades (s : State) (a : Nat) (b : Byte) : (s.memPut a b).fades = s.fades := rfl
@[simp] theorem State.memPut_counted (s : State) (a : Nat) (b : Byte) : (s.memPut a b).counted = s.counted := rfl
@[simp] theorem State.memPut_arrivals (s : State) (a : Nat) (b : Byte) : (s.memPut a b).arrivals = s.arrivals := rfl
@[simp] theorem State.memPut_spans (s : State) (a : Nat) (b : Byte) : (s.memPut a b).spans = s.spans := rfl
@[simp] theorem State.memPut_fresh (s : State) (a : Nat) (b : Byte) : (s.memPut a b).fresh = s.fresh := rfl
@[simp] theorem State.memPut_heldRecs (s : State) (a : Nat) (b : Byte) : (s.memPut a b).heldRecs = s.heldRecs := rfl
@[simp] theorem State.memPut_nextActs (s : State) (a : Nat) (b : Byte) : (s.memPut a b).nextActs = s.nextActs := rfl
@[simp] theorem State.memPut_booked (s : State) (a : Nat) (b : Byte) : (s.memPut a b).booked = s.booked := rfl
@[simp] theorem State.memPut_closing (s : State) (a : Nat) (b : Byte) : (s.memPut a b).closing = s.closing := rfl
@[simp] theorem State.memPut_freeCtr (s : State) (a : Nat) (b : Byte) : (s.memPut a b).freeCtr = s.freeCtr := rfl
@[simp] theorem State.memPut_pending (s : State) (a : Nat) (b : Byte) : (s.memPut a b).pending = s.pending := rfl
@[simp] theorem State.flashPut_mode (s : State) (a : Nat) (b : Byte) : (s.flashPut a b).mode = s.mode := rfl
@[simp] theorem State.flashPut_control (s : State) (a : Nat) (b : Byte) : (s.flashPut a b).control = s.control := rfl
@[simp] theorem State.flashPut_now (s : State) (a : Nat) (b : Byte) : (s.flashPut a b).now = s.now := rfl
@[simp] theorem State.flashPut_dt (s : State) (a : Nat) (b : Byte) : (s.flashPut a b).dt = s.dt := rfl
@[simp] theorem State.flashPut_dtPrev (s : State) (a : Nat) (b : Byte) : (s.flashPut a b).dtPrev = s.dtPrev := rfl
@[simp] theorem State.flashPut_regs (s : State) (a : Nat) (b : Byte) : (s.flashPut a b).regs = s.regs := rfl
@[simp] theorem State.flashPut_mem (s : State) (a : Nat) (b : Byte) : (s.flashPut a b).mem = s.mem := rfl
@[simp] theorem State.flashPut_misread (s : State) (a : Nat) (b : Byte) : (s.flashPut a b).misread = s.misread := rfl
@[simp] theorem State.flashPut_heldWrites (s : State) (a : Nat) (b : Byte) : (s.flashPut a b).heldWrites = s.heldWrites := rfl
@[simp] theorem State.flashPut_acq (s : State) (a : Nat) (b : Byte) : (s.flashPut a b).acq = s.acq := rfl
@[simp] theorem State.flashPut_tims (s : State) (a : Nat) (b : Byte) : (s.flashPut a b).tims = s.tims := rfl
@[simp] theorem State.flashPut_timHeld (s : State) (a : Nat) (b : Byte) : (s.flashPut a b).timHeld = s.timHeld := rfl
@[simp] theorem State.flashPut_acc (s : State) (a : Nat) (b : Byte) : (s.flashPut a b).acc = s.acc := rfl
@[simp] theorem State.flashPut_layers (s : State) (a : Nat) (b : Byte) : (s.flashPut a b).layers = s.layers := rfl
@[simp] theorem State.flashPut_pool (s : State) (a : Nat) (b : Byte) : (s.flashPut a b).pool = s.pool := rfl
@[simp] theorem State.flashPut_summaries (s : State) (a : Nat) (b : Byte) : (s.flashPut a b).summaries = s.summaries := rfl
@[simp] theorem State.flashPut_library (s : State) (a : Nat) (b : Byte) : (s.flashPut a b).library = s.library := rfl
@[simp] theorem State.flashPut_deliveries (s : State) (a : Nat) (b : Byte) : (s.flashPut a b).deliveries = s.deliveries := rfl
@[simp] theorem State.flashPut_out (s : State) (a : Nat) (b : Byte) : (s.flashPut a b).out = s.out := rfl
@[simp] theorem State.flashPut_ringRecs (s : State) (a : Nat) (b : Byte) : (s.flashPut a b).ringRecs = s.ringRecs := rfl
@[simp] theorem State.flashPut_taken (s : State) (a : Nat) (b : Byte) : (s.flashPut a b).taken = s.taken := rfl
@[simp] theorem State.flashPut_outstanding (s : State) (a : Nat) (b : Byte) : (s.flashPut a b).outstanding = s.outstanding := rfl
@[simp] theorem State.flashPut_kept (s : State) (a : Nat) (b : Byte) : (s.flashPut a b).kept = s.kept := rfl
@[simp] theorem State.flashPut_violations (s : State) (a : Nat) (b : Byte) : (s.flashPut a b).violations = s.violations := rfl
@[simp] theorem State.flashPut_coreReqs (s : State) (a : Nat) (b : Byte) : (s.flashPut a b).coreReqs = s.coreReqs := rfl
@[simp] theorem State.flashPut_fwRecords (s : State) (a : Nat) (b : Byte) : (s.flashPut a b).fwRecords = s.fwRecords := rfl
@[simp] theorem State.flashPut_committed (s : State) (a : Nat) (b : Byte) : (s.flashPut a b).committed = s.committed := rfl
@[simp] theorem State.flashPut_periodDraws (s : State) (a : Nat) (b : Byte) : (s.flashPut a b).periodDraws = s.periodDraws := rfl
@[simp] theorem State.flashPut_deratedAt (s : State) (a : Nat) (b : Byte) : (s.flashPut a b).deratedAt = s.deratedAt := rfl
@[simp] theorem State.flashPut_deferred (s : State) (a : Nat) (b : Byte) : (s.flashPut a b).deferred = s.deferred := rfl
@[simp] theorem State.flashPut_running (s : State) (a : Nat) (b : Byte) : (s.flashPut a b).running = s.running := rfl
@[simp] theorem State.flashPut_waiting (s : State) (a : Nat) (b : Byte) : (s.flashPut a b).waiting = s.waiting := rfl
@[simp] theorem State.flashPut_bobbin (s : State) (a : Nat) (b : Byte) : (s.flashPut a b).bobbin = s.bobbin := rfl
@[simp] theorem State.flashPut_retiring (s : State) (a : Nat) (b : Byte) : (s.flashPut a b).retiring = s.retiring := rfl
@[simp] theorem State.flashPut_snapshot (s : State) (a : Nat) (b : Byte) : (s.flashPut a b).snapshot = s.snapshot := rfl
@[simp] theorem State.flashPut_cardErrs (s : State) (a : Nat) (b : Byte) : (s.flashPut a b).cardErrs = s.cardErrs := rfl
@[simp] theorem State.flashPut_tapMoves (s : State) (a : Nat) (b : Byte) : (s.flashPut a b).tapMoves = s.tapMoves := rfl
@[simp] theorem State.flashPut_combFits (s : State) (a : Nat) (b : Byte) : (s.flashPut a b).combFits = s.combFits := rfl
@[simp] theorem State.flashPut_fades (s : State) (a : Nat) (b : Byte) : (s.flashPut a b).fades = s.fades := rfl
@[simp] theorem State.flashPut_counted (s : State) (a : Nat) (b : Byte) : (s.flashPut a b).counted = s.counted := rfl
@[simp] theorem State.flashPut_arrivals (s : State) (a : Nat) (b : Byte) : (s.flashPut a b).arrivals = s.arrivals := rfl
@[simp] theorem State.flashPut_spans (s : State) (a : Nat) (b : Byte) : (s.flashPut a b).spans = s.spans := rfl
@[simp] theorem State.flashPut_fresh (s : State) (a : Nat) (b : Byte) : (s.flashPut a b).fresh = s.fresh := rfl
@[simp] theorem State.flashPut_heldRecs (s : State) (a : Nat) (b : Byte) : (s.flashPut a b).heldRecs = s.heldRecs := rfl
@[simp] theorem State.flashPut_nextActs (s : State) (a : Nat) (b : Byte) : (s.flashPut a b).nextActs = s.nextActs := rfl
@[simp] theorem State.flashPut_booked (s : State) (a : Nat) (b : Byte) : (s.flashPut a b).booked = s.booked := rfl
@[simp] theorem State.flashPut_closing (s : State) (a : Nat) (b : Byte) : (s.flashPut a b).closing = s.closing := rfl
@[simp] theorem State.flashPut_freeCtr (s : State) (a : Nat) (b : Byte) : (s.flashPut a b).freeCtr = s.freeCtr := rfl
@[simp] theorem State.flashPut_pending (s : State) (a : Nat) (b : Byte) : (s.flashPut a b).pending = s.pending := rfl
@[simp] theorem State.noteFresh_mode (s : State) (f : Fld) (ix : List Nat) (v : Nat) : (s.noteFresh f ix v).mode = s.mode := rfl
@[simp] theorem State.noteFresh_control (s : State) (f : Fld) (ix : List Nat) (v : Nat) : (s.noteFresh f ix v).control = s.control := rfl
@[simp] theorem State.noteFresh_now (s : State) (f : Fld) (ix : List Nat) (v : Nat) : (s.noteFresh f ix v).now = s.now := rfl
@[simp] theorem State.noteFresh_dt (s : State) (f : Fld) (ix : List Nat) (v : Nat) : (s.noteFresh f ix v).dt = s.dt := rfl
@[simp] theorem State.noteFresh_dtPrev (s : State) (f : Fld) (ix : List Nat) (v : Nat) : (s.noteFresh f ix v).dtPrev = s.dtPrev := rfl
@[simp] theorem State.noteFresh_regs (s : State) (f : Fld) (ix : List Nat) (v : Nat) : (s.noteFresh f ix v).regs = s.regs := rfl
@[simp] theorem State.noteFresh_mem (s : State) (f : Fld) (ix : List Nat) (v : Nat) : (s.noteFresh f ix v).mem = s.mem := rfl
@[simp] theorem State.noteFresh_misread (s : State) (f : Fld) (ix : List Nat) (v : Nat) : (s.noteFresh f ix v).misread = s.misread := rfl
@[simp] theorem State.noteFresh_heldWrites (s : State) (f : Fld) (ix : List Nat) (v : Nat) : (s.noteFresh f ix v).heldWrites = s.heldWrites := rfl
@[simp] theorem State.noteFresh_acq (s : State) (f : Fld) (ix : List Nat) (v : Nat) : (s.noteFresh f ix v).acq = s.acq := rfl
@[simp] theorem State.noteFresh_tims (s : State) (f : Fld) (ix : List Nat) (v : Nat) : (s.noteFresh f ix v).tims = s.tims := rfl
@[simp] theorem State.noteFresh_timHeld (s : State) (f : Fld) (ix : List Nat) (v : Nat) : (s.noteFresh f ix v).timHeld = s.timHeld := rfl
@[simp] theorem State.noteFresh_acc (s : State) (f : Fld) (ix : List Nat) (v : Nat) : (s.noteFresh f ix v).acc = s.acc := rfl
@[simp] theorem State.noteFresh_layers (s : State) (f : Fld) (ix : List Nat) (v : Nat) : (s.noteFresh f ix v).layers = s.layers := rfl
@[simp] theorem State.noteFresh_pool (s : State) (f : Fld) (ix : List Nat) (v : Nat) : (s.noteFresh f ix v).pool = s.pool := rfl
@[simp] theorem State.noteFresh_summaries (s : State) (f : Fld) (ix : List Nat) (v : Nat) : (s.noteFresh f ix v).summaries = s.summaries := rfl
@[simp] theorem State.noteFresh_library (s : State) (f : Fld) (ix : List Nat) (v : Nat) : (s.noteFresh f ix v).library = s.library := rfl
@[simp] theorem State.noteFresh_deliveries (s : State) (f : Fld) (ix : List Nat) (v : Nat) : (s.noteFresh f ix v).deliveries = s.deliveries := rfl
@[simp] theorem State.noteFresh_out (s : State) (f : Fld) (ix : List Nat) (v : Nat) : (s.noteFresh f ix v).out = s.out := rfl
@[simp] theorem State.noteFresh_ringRecs (s : State) (f : Fld) (ix : List Nat) (v : Nat) : (s.noteFresh f ix v).ringRecs = s.ringRecs := rfl
@[simp] theorem State.noteFresh_taken (s : State) (f : Fld) (ix : List Nat) (v : Nat) : (s.noteFresh f ix v).taken = s.taken := rfl
@[simp] theorem State.noteFresh_outstanding (s : State) (f : Fld) (ix : List Nat) (v : Nat) : (s.noteFresh f ix v).outstanding = s.outstanding := rfl
@[simp] theorem State.noteFresh_kept (s : State) (f : Fld) (ix : List Nat) (v : Nat) : (s.noteFresh f ix v).kept = s.kept := rfl
@[simp] theorem State.noteFresh_violations (s : State) (f : Fld) (ix : List Nat) (v : Nat) : (s.noteFresh f ix v).violations = s.violations := rfl
@[simp] theorem State.noteFresh_coreReqs (s : State) (f : Fld) (ix : List Nat) (v : Nat) : (s.noteFresh f ix v).coreReqs = s.coreReqs := rfl
@[simp] theorem State.noteFresh_fwRecords (s : State) (f : Fld) (ix : List Nat) (v : Nat) : (s.noteFresh f ix v).fwRecords = s.fwRecords := rfl
@[simp] theorem State.noteFresh_committed (s : State) (f : Fld) (ix : List Nat) (v : Nat) : (s.noteFresh f ix v).committed = s.committed := rfl
@[simp] theorem State.noteFresh_periodDraws (s : State) (f : Fld) (ix : List Nat) (v : Nat) : (s.noteFresh f ix v).periodDraws = s.periodDraws := rfl
@[simp] theorem State.noteFresh_deratedAt (s : State) (f : Fld) (ix : List Nat) (v : Nat) : (s.noteFresh f ix v).deratedAt = s.deratedAt := rfl
@[simp] theorem State.noteFresh_deferred (s : State) (f : Fld) (ix : List Nat) (v : Nat) : (s.noteFresh f ix v).deferred = s.deferred := rfl
@[simp] theorem State.noteFresh_running (s : State) (f : Fld) (ix : List Nat) (v : Nat) : (s.noteFresh f ix v).running = s.running := rfl
@[simp] theorem State.noteFresh_waiting (s : State) (f : Fld) (ix : List Nat) (v : Nat) : (s.noteFresh f ix v).waiting = s.waiting := rfl
@[simp] theorem State.noteFresh_bobbin (s : State) (f : Fld) (ix : List Nat) (v : Nat) : (s.noteFresh f ix v).bobbin = s.bobbin := rfl
@[simp] theorem State.noteFresh_retiring (s : State) (f : Fld) (ix : List Nat) (v : Nat) : (s.noteFresh f ix v).retiring = s.retiring := rfl
@[simp] theorem State.noteFresh_flash (s : State) (f : Fld) (ix : List Nat) (v : Nat) : (s.noteFresh f ix v).flash = s.flash := rfl
@[simp] theorem State.noteFresh_snapshot (s : State) (f : Fld) (ix : List Nat) (v : Nat) : (s.noteFresh f ix v).snapshot = s.snapshot := rfl
@[simp] theorem State.noteFresh_cardErrs (s : State) (f : Fld) (ix : List Nat) (v : Nat) : (s.noteFresh f ix v).cardErrs = s.cardErrs := rfl
@[simp] theorem State.noteFresh_tapMoves (s : State) (f : Fld) (ix : List Nat) (v : Nat) : (s.noteFresh f ix v).tapMoves = s.tapMoves := rfl
@[simp] theorem State.noteFresh_combFits (s : State) (f : Fld) (ix : List Nat) (v : Nat) : (s.noteFresh f ix v).combFits = s.combFits := rfl
@[simp] theorem State.noteFresh_fades (s : State) (f : Fld) (ix : List Nat) (v : Nat) : (s.noteFresh f ix v).fades = s.fades := rfl
@[simp] theorem State.noteFresh_counted (s : State) (f : Fld) (ix : List Nat) (v : Nat) : (s.noteFresh f ix v).counted = s.counted := rfl
@[simp] theorem State.noteFresh_arrivals (s : State) (f : Fld) (ix : List Nat) (v : Nat) : (s.noteFresh f ix v).arrivals = s.arrivals := rfl
@[simp] theorem State.noteFresh_spans (s : State) (f : Fld) (ix : List Nat) (v : Nat) : (s.noteFresh f ix v).spans = s.spans := rfl
@[simp] theorem State.noteFresh_heldRecs (s : State) (f : Fld) (ix : List Nat) (v : Nat) : (s.noteFresh f ix v).heldRecs = s.heldRecs := rfl
@[simp] theorem State.noteFresh_nextActs (s : State) (f : Fld) (ix : List Nat) (v : Nat) : (s.noteFresh f ix v).nextActs = s.nextActs := rfl
@[simp] theorem State.noteFresh_booked (s : State) (f : Fld) (ix : List Nat) (v : Nat) : (s.noteFresh f ix v).booked = s.booked := rfl
@[simp] theorem State.noteFresh_closing (s : State) (f : Fld) (ix : List Nat) (v : Nat) : (s.noteFresh f ix v).closing = s.closing := rfl
@[simp] theorem State.noteFresh_freeCtr (s : State) (f : Fld) (ix : List Nat) (v : Nat) : (s.noteFresh f ix v).freeCtr = s.freeCtr := rfl
@[simp] theorem State.noteFresh_pending (s : State) (f : Fld) (ix : List Nat) (v : Nat) : (s.noteFresh f ix v).pending = s.pending := rfl
@[simp] theorem State.book_mode (s : State) (c : Instr) : (s.book c).mode = s.mode := rfl
@[simp] theorem State.book_control (s : State) (c : Instr) : (s.book c).control = s.control := rfl
@[simp] theorem State.book_now (s : State) (c : Instr) : (s.book c).now = s.now := rfl
@[simp] theorem State.book_dt (s : State) (c : Instr) : (s.book c).dt = s.dt := rfl
@[simp] theorem State.book_dtPrev (s : State) (c : Instr) : (s.book c).dtPrev = s.dtPrev := rfl
@[simp] theorem State.book_regs (s : State) (c : Instr) : (s.book c).regs = s.regs := rfl
@[simp] theorem State.book_mem (s : State) (c : Instr) : (s.book c).mem = s.mem := rfl
@[simp] theorem State.book_misread (s : State) (c : Instr) : (s.book c).misread = s.misread := rfl
@[simp] theorem State.book_heldWrites (s : State) (c : Instr) : (s.book c).heldWrites = s.heldWrites := rfl
@[simp] theorem State.book_acq (s : State) (c : Instr) : (s.book c).acq = s.acq := rfl
@[simp] theorem State.book_tims (s : State) (c : Instr) : (s.book c).tims = s.tims := rfl
@[simp] theorem State.book_timHeld (s : State) (c : Instr) : (s.book c).timHeld = s.timHeld := rfl
@[simp] theorem State.book_acc (s : State) (c : Instr) : (s.book c).acc = s.acc := rfl
@[simp] theorem State.book_layers (s : State) (c : Instr) : (s.book c).layers = s.layers := rfl
@[simp] theorem State.book_pool (s : State) (c : Instr) : (s.book c).pool = s.pool := rfl
@[simp] theorem State.book_summaries (s : State) (c : Instr) : (s.book c).summaries = s.summaries := rfl
@[simp] theorem State.book_library (s : State) (c : Instr) : (s.book c).library = s.library := rfl
@[simp] theorem State.book_deliveries (s : State) (c : Instr) : (s.book c).deliveries = s.deliveries := rfl
@[simp] theorem State.book_out (s : State) (c : Instr) : (s.book c).out = s.out := rfl
@[simp] theorem State.book_ringRecs (s : State) (c : Instr) : (s.book c).ringRecs = s.ringRecs := rfl
@[simp] theorem State.book_taken (s : State) (c : Instr) : (s.book c).taken = s.taken := rfl
@[simp] theorem State.book_outstanding (s : State) (c : Instr) : (s.book c).outstanding = s.outstanding := rfl
@[simp] theorem State.book_kept (s : State) (c : Instr) : (s.book c).kept = s.kept := rfl
@[simp] theorem State.book_violations (s : State) (c : Instr) : (s.book c).violations = s.violations := rfl
@[simp] theorem State.book_coreReqs (s : State) (c : Instr) : (s.book c).coreReqs = s.coreReqs := rfl
@[simp] theorem State.book_fwRecords (s : State) (c : Instr) : (s.book c).fwRecords = s.fwRecords := rfl
@[simp] theorem State.book_committed (s : State) (c : Instr) : (s.book c).committed = s.committed := rfl
@[simp] theorem State.book_periodDraws (s : State) (c : Instr) : (s.book c).periodDraws = s.periodDraws := rfl
@[simp] theorem State.book_deratedAt (s : State) (c : Instr) : (s.book c).deratedAt = s.deratedAt := rfl
@[simp] theorem State.book_deferred (s : State) (c : Instr) : (s.book c).deferred = s.deferred := rfl
@[simp] theorem State.book_running (s : State) (c : Instr) : (s.book c).running = s.running := rfl
@[simp] theorem State.book_waiting (s : State) (c : Instr) : (s.book c).waiting = s.waiting := rfl
@[simp] theorem State.book_bobbin (s : State) (c : Instr) : (s.book c).bobbin = s.bobbin := rfl
@[simp] theorem State.book_retiring (s : State) (c : Instr) : (s.book c).retiring = s.retiring := rfl
@[simp] theorem State.book_flash (s : State) (c : Instr) : (s.book c).flash = s.flash := rfl
@[simp] theorem State.book_snapshot (s : State) (c : Instr) : (s.book c).snapshot = s.snapshot := rfl
@[simp] theorem State.book_cardErrs (s : State) (c : Instr) : (s.book c).cardErrs = s.cardErrs := rfl
@[simp] theorem State.book_tapMoves (s : State) (c : Instr) : (s.book c).tapMoves = s.tapMoves := rfl
@[simp] theorem State.book_combFits (s : State) (c : Instr) : (s.book c).combFits = s.combFits := rfl
@[simp] theorem State.book_fades (s : State) (c : Instr) : (s.book c).fades = s.fades := rfl
@[simp] theorem State.book_counted (s : State) (c : Instr) : (s.book c).counted = s.counted := rfl
@[simp] theorem State.book_arrivals (s : State) (c : Instr) : (s.book c).arrivals = s.arrivals := rfl
@[simp] theorem State.book_spans (s : State) (c : Instr) : (s.book c).spans = s.spans := rfl
@[simp] theorem State.book_fresh (s : State) (c : Instr) : (s.book c).fresh = s.fresh := rfl
@[simp] theorem State.book_heldRecs (s : State) (c : Instr) : (s.book c).heldRecs = s.heldRecs := rfl
@[simp] theorem State.book_nextActs (s : State) (c : Instr) : (s.book c).nextActs = s.nextActs := rfl
@[simp] theorem State.book_closing (s : State) (c : Instr) : (s.book c).closing = s.closing := rfl
@[simp] theorem State.book_freeCtr (s : State) (c : Instr) : (s.book c).freeCtr = s.freeCtr := rfl
@[simp] theorem State.book_pending (s : State) (c : Instr) : (s.book c).pending = s.pending := rfl
@[simp] theorem State.setAcq_mode (s : State) (d a : Nat) (x : Acq) : (s.setAcq d a x).mode = s.mode := rfl
@[simp] theorem State.setAcq_control (s : State) (d a : Nat) (x : Acq) : (s.setAcq d a x).control = s.control := rfl
@[simp] theorem State.setAcq_now (s : State) (d a : Nat) (x : Acq) : (s.setAcq d a x).now = s.now := rfl
@[simp] theorem State.setAcq_dt (s : State) (d a : Nat) (x : Acq) : (s.setAcq d a x).dt = s.dt := rfl
@[simp] theorem State.setAcq_dtPrev (s : State) (d a : Nat) (x : Acq) : (s.setAcq d a x).dtPrev = s.dtPrev := rfl
@[simp] theorem State.setAcq_regs (s : State) (d a : Nat) (x : Acq) : (s.setAcq d a x).regs = s.regs := rfl
@[simp] theorem State.setAcq_mem (s : State) (d a : Nat) (x : Acq) : (s.setAcq d a x).mem = s.mem := rfl
@[simp] theorem State.setAcq_misread (s : State) (d a : Nat) (x : Acq) : (s.setAcq d a x).misread = s.misread := rfl
@[simp] theorem State.setAcq_heldWrites (s : State) (d a : Nat) (x : Acq) : (s.setAcq d a x).heldWrites = s.heldWrites := rfl
@[simp] theorem State.setAcq_tims (s : State) (d a : Nat) (x : Acq) : (s.setAcq d a x).tims = s.tims := rfl
@[simp] theorem State.setAcq_timHeld (s : State) (d a : Nat) (x : Acq) : (s.setAcq d a x).timHeld = s.timHeld := rfl
@[simp] theorem State.setAcq_acc (s : State) (d a : Nat) (x : Acq) : (s.setAcq d a x).acc = s.acc := rfl
@[simp] theorem State.setAcq_layers (s : State) (d a : Nat) (x : Acq) : (s.setAcq d a x).layers = s.layers := rfl
@[simp] theorem State.setAcq_pool (s : State) (d a : Nat) (x : Acq) : (s.setAcq d a x).pool = s.pool := rfl
@[simp] theorem State.setAcq_summaries (s : State) (d a : Nat) (x : Acq) : (s.setAcq d a x).summaries = s.summaries := rfl
@[simp] theorem State.setAcq_library (s : State) (d a : Nat) (x : Acq) : (s.setAcq d a x).library = s.library := rfl
@[simp] theorem State.setAcq_deliveries (s : State) (d a : Nat) (x : Acq) : (s.setAcq d a x).deliveries = s.deliveries := rfl
@[simp] theorem State.setAcq_out (s : State) (d a : Nat) (x : Acq) : (s.setAcq d a x).out = s.out := rfl
@[simp] theorem State.setAcq_ringRecs (s : State) (d a : Nat) (x : Acq) : (s.setAcq d a x).ringRecs = s.ringRecs := rfl
@[simp] theorem State.setAcq_taken (s : State) (d a : Nat) (x : Acq) : (s.setAcq d a x).taken = s.taken := rfl
@[simp] theorem State.setAcq_outstanding (s : State) (d a : Nat) (x : Acq) : (s.setAcq d a x).outstanding = s.outstanding := rfl
@[simp] theorem State.setAcq_kept (s : State) (d a : Nat) (x : Acq) : (s.setAcq d a x).kept = s.kept := rfl
@[simp] theorem State.setAcq_violations (s : State) (d a : Nat) (x : Acq) : (s.setAcq d a x).violations = s.violations := rfl
@[simp] theorem State.setAcq_coreReqs (s : State) (d a : Nat) (x : Acq) : (s.setAcq d a x).coreReqs = s.coreReqs := rfl
@[simp] theorem State.setAcq_fwRecords (s : State) (d a : Nat) (x : Acq) : (s.setAcq d a x).fwRecords = s.fwRecords := rfl
@[simp] theorem State.setAcq_committed (s : State) (d a : Nat) (x : Acq) : (s.setAcq d a x).committed = s.committed := rfl
@[simp] theorem State.setAcq_periodDraws (s : State) (d a : Nat) (x : Acq) : (s.setAcq d a x).periodDraws = s.periodDraws := rfl
@[simp] theorem State.setAcq_deratedAt (s : State) (d a : Nat) (x : Acq) : (s.setAcq d a x).deratedAt = s.deratedAt := rfl
@[simp] theorem State.setAcq_deferred (s : State) (d a : Nat) (x : Acq) : (s.setAcq d a x).deferred = s.deferred := rfl
@[simp] theorem State.setAcq_running (s : State) (d a : Nat) (x : Acq) : (s.setAcq d a x).running = s.running := rfl
@[simp] theorem State.setAcq_waiting (s : State) (d a : Nat) (x : Acq) : (s.setAcq d a x).waiting = s.waiting := rfl
@[simp] theorem State.setAcq_bobbin (s : State) (d a : Nat) (x : Acq) : (s.setAcq d a x).bobbin = s.bobbin := rfl
@[simp] theorem State.setAcq_retiring (s : State) (d a : Nat) (x : Acq) : (s.setAcq d a x).retiring = s.retiring := rfl
@[simp] theorem State.setAcq_flash (s : State) (d a : Nat) (x : Acq) : (s.setAcq d a x).flash = s.flash := rfl
@[simp] theorem State.setAcq_snapshot (s : State) (d a : Nat) (x : Acq) : (s.setAcq d a x).snapshot = s.snapshot := rfl
@[simp] theorem State.setAcq_cardErrs (s : State) (d a : Nat) (x : Acq) : (s.setAcq d a x).cardErrs = s.cardErrs := rfl
@[simp] theorem State.setAcq_tapMoves (s : State) (d a : Nat) (x : Acq) : (s.setAcq d a x).tapMoves = s.tapMoves := rfl
@[simp] theorem State.setAcq_combFits (s : State) (d a : Nat) (x : Acq) : (s.setAcq d a x).combFits = s.combFits := rfl
@[simp] theorem State.setAcq_fades (s : State) (d a : Nat) (x : Acq) : (s.setAcq d a x).fades = s.fades := rfl
@[simp] theorem State.setAcq_counted (s : State) (d a : Nat) (x : Acq) : (s.setAcq d a x).counted = s.counted := rfl
@[simp] theorem State.setAcq_arrivals (s : State) (d a : Nat) (x : Acq) : (s.setAcq d a x).arrivals = s.arrivals := rfl
@[simp] theorem State.setAcq_spans (s : State) (d a : Nat) (x : Acq) : (s.setAcq d a x).spans = s.spans := rfl
@[simp] theorem State.setAcq_fresh (s : State) (d a : Nat) (x : Acq) : (s.setAcq d a x).fresh = s.fresh := rfl
@[simp] theorem State.setAcq_heldRecs (s : State) (d a : Nat) (x : Acq) : (s.setAcq d a x).heldRecs = s.heldRecs := rfl
@[simp] theorem State.setAcq_nextActs (s : State) (d a : Nat) (x : Acq) : (s.setAcq d a x).nextActs = s.nextActs := rfl
@[simp] theorem State.setAcq_booked (s : State) (d a : Nat) (x : Acq) : (s.setAcq d a x).booked = s.booked := rfl
@[simp] theorem State.setAcq_closing (s : State) (d a : Nat) (x : Acq) : (s.setAcq d a x).closing = s.closing := rfl
@[simp] theorem State.setAcq_freeCtr (s : State) (d a : Nat) (x : Acq) : (s.setAcq d a x).freeCtr = s.freeCtr := rfl
@[simp] theorem State.setAcq_pending (s : State) (d a : Nat) (x : Acq) : (s.setAcq d a x).pending = s.pending := rfl

/-- The sample clock changes registers only. -/
theorem State.clkTick_eq (s : State) (d : Nat) : s.clkTick d = { s with regs := (s.clkTick d).regs } := by
  unfold State.clkTick State.on
  split
  · rfl
  · extract_lets r x
    split <;> rfl

/-- A tick moves the clocks and the sample clocks, and forgets what was set in the cycle. -/
theorem State.tick_eq (s : State) : s.tick = { s with
    regs := s.tick.regs, now := s.tick.now, dt := s.tick.dt, dtPrev := s.dt, fresh := [] } := by
  unfold State.tick
  rw [State.clkTick_eq ((s.clkTick 0)) 1, State.clkTick_eq s 0]

@[simp] theorem State.tick_mode (s : State) : s.tick.mode = s.mode := by rw [State.tick_eq]
@[simp] theorem State.tick_control (s : State) : s.tick.control = s.control := by rw [State.tick_eq]
@[simp] theorem State.tick_mem (s : State) : s.tick.mem = s.mem := by rw [State.tick_eq]
@[simp] theorem State.tick_misread (s : State) : s.tick.misread = s.misread := by rw [State.tick_eq]
@[simp] theorem State.tick_heldWrites (s : State) : s.tick.heldWrites = s.heldWrites := by rw [State.tick_eq]
@[simp] theorem State.tick_acq (s : State) : s.tick.acq = s.acq := by rw [State.tick_eq]
@[simp] theorem State.tick_tims (s : State) : s.tick.tims = s.tims := by rw [State.tick_eq]
@[simp] theorem State.tick_timHeld (s : State) : s.tick.timHeld = s.timHeld := by rw [State.tick_eq]
@[simp] theorem State.tick_acc (s : State) : s.tick.acc = s.acc := by rw [State.tick_eq]
@[simp] theorem State.tick_layers (s : State) : s.tick.layers = s.layers := by rw [State.tick_eq]
@[simp] theorem State.tick_pool (s : State) : s.tick.pool = s.pool := by rw [State.tick_eq]
@[simp] theorem State.tick_summaries (s : State) : s.tick.summaries = s.summaries := by rw [State.tick_eq]
@[simp] theorem State.tick_library (s : State) : s.tick.library = s.library := by rw [State.tick_eq]
@[simp] theorem State.tick_deliveries (s : State) : s.tick.deliveries = s.deliveries := by rw [State.tick_eq]
@[simp] theorem State.tick_out (s : State) : s.tick.out = s.out := by rw [State.tick_eq]
@[simp] theorem State.tick_ringRecs (s : State) : s.tick.ringRecs = s.ringRecs := by rw [State.tick_eq]
@[simp] theorem State.tick_taken (s : State) : s.tick.taken = s.taken := by rw [State.tick_eq]
@[simp] theorem State.tick_outstanding (s : State) : s.tick.outstanding = s.outstanding := by rw [State.tick_eq]
@[simp] theorem State.tick_kept (s : State) : s.tick.kept = s.kept := by rw [State.tick_eq]
@[simp] theorem State.tick_violations (s : State) : s.tick.violations = s.violations := by rw [State.tick_eq]
@[simp] theorem State.tick_coreReqs (s : State) : s.tick.coreReqs = s.coreReqs := by rw [State.tick_eq]
@[simp] theorem State.tick_fwRecords (s : State) : s.tick.fwRecords = s.fwRecords := by rw [State.tick_eq]
@[simp] theorem State.tick_committed (s : State) : s.tick.committed = s.committed := by rw [State.tick_eq]
@[simp] theorem State.tick_periodDraws (s : State) : s.tick.periodDraws = s.periodDraws := by rw [State.tick_eq]
@[simp] theorem State.tick_deratedAt (s : State) : s.tick.deratedAt = s.deratedAt := by rw [State.tick_eq]
@[simp] theorem State.tick_deferred (s : State) : s.tick.deferred = s.deferred := by rw [State.tick_eq]
@[simp] theorem State.tick_running (s : State) : s.tick.running = s.running := by rw [State.tick_eq]
@[simp] theorem State.tick_waiting (s : State) : s.tick.waiting = s.waiting := by rw [State.tick_eq]
@[simp] theorem State.tick_bobbin (s : State) : s.tick.bobbin = s.bobbin := by rw [State.tick_eq]
@[simp] theorem State.tick_retiring (s : State) : s.tick.retiring = s.retiring := by rw [State.tick_eq]
@[simp] theorem State.tick_flash (s : State) : s.tick.flash = s.flash := by rw [State.tick_eq]
@[simp] theorem State.tick_snapshot (s : State) : s.tick.snapshot = s.snapshot := by rw [State.tick_eq]
@[simp] theorem State.tick_cardErrs (s : State) : s.tick.cardErrs = s.cardErrs := by rw [State.tick_eq]
@[simp] theorem State.tick_tapMoves (s : State) : s.tick.tapMoves = s.tapMoves := by rw [State.tick_eq]
@[simp] theorem State.tick_combFits (s : State) : s.tick.combFits = s.combFits := by rw [State.tick_eq]
@[simp] theorem State.tick_fades (s : State) : s.tick.fades = s.fades := by rw [State.tick_eq]
@[simp] theorem State.tick_counted (s : State) : s.tick.counted = s.counted := by rw [State.tick_eq]
@[simp] theorem State.tick_arrivals (s : State) : s.tick.arrivals = s.arrivals := by rw [State.tick_eq]
@[simp] theorem State.tick_spans (s : State) : s.tick.spans = s.spans := by rw [State.tick_eq]
@[simp] theorem State.tick_heldRecs (s : State) : s.tick.heldRecs = s.heldRecs := by rw [State.tick_eq]
@[simp] theorem State.tick_nextActs (s : State) : s.tick.nextActs = s.nextActs := by rw [State.tick_eq]
@[simp] theorem State.tick_booked (s : State) : s.tick.booked = s.booked := by rw [State.tick_eq]
@[simp] theorem State.tick_closing (s : State) : s.tick.closing = s.closing := by rw [State.tick_eq]
@[simp] theorem State.tick_freeCtr (s : State) : s.tick.freeCtr = s.freeCtr := by rw [State.tick_eq]
@[simp] theorem State.tick_pending (s : State) : s.tick.pending = s.pending := by rw [State.tick_eq]
@[simp] theorem State.tick_dtPrev (s : State) : s.tick.dtPrev = s.dt := by rw [State.tick_eq]
@[simp] theorem State.tick_fresh (s : State) : s.tick.fresh = [] := by rw [State.tick_eq]

@[simp] theorem State.emit_out (s : State) (o : Output) : (s.emit o).out = s.out ++ [o] := rfl
@[simp] theorem State.useFree_freeCtr (s : State) : s.useFree.freeCtr = s.freeCtr + 1 := rfl

@[simp] theorem State.on_true (s : State) (f : State → State) : s.on true f = f s := rfl
@[simp] theorem State.on_false (s : State) (f : State → State) : s.on false f = s := rfl
@[simp] theorem State.each_nil {α : Type} (s : State) (f : State → α → State) : s.each [] f = s := rfl
@[simp] theorem State.each_cons {α : Type} (s : State) (x : α) (l : List α) (f : State → α → State) : s.each (x :: l) f = (f s x).each l f := rfl
@[simp] theorem State.emit_rd (s : State) (o : Output) (f : Fld) (ix : List Nat) : (s.emit o).rd f ix = s.rd f ix := rfl
@[simp] theorem State.useFree_rd (s : State) (f : Fld) (ix : List Nat) : s.useFree.rd f ix = s.rd f ix := rfl

end Sys2Proof.Machine
end

