-- ==== Sys2Proof/Laws/Within.lean ====
section
/-!
SUPPORT. What an operation may change, as a set of registers and parts of the state: `Within M s t`. One lemma per shared operation
(`<operation>_within`, in the files beside this one) says once everything it can do, and that it keeps the state sound.
-/

namespace Sys2Proof.Machine

set_option linter.all false

/-- A set of registers and parts: bit i stands for the register number i, bit 576 + i for the part number i. -/
abbrev Foot := Nat

/-- `a` lies within `b`. -/
abbrev Foot.Sub (a b : Foot) : Prop := a ||| b = b

/-- The footprint of registers and parts. -/
def Foot.of (rs : List Reg) (ps : List Part) : Foot :=
  (rs.map fun r => 2 ^ r.ctorIdx).foldr (· ||| ·) ((ps.map fun p => 2 ^ (576 + p.ctorIdx)).foldr (· ||| ·) 0)

theorem Foot.Sub.trans {a b c : Foot} (h : Foot.Sub a b) (h' : Foot.Sub b c) : Foot.Sub a c := by
  unfold Foot.Sub at *
  rw [← h', ← Nat.or_assoc, h]

theorem Foot.Sub.has {a b : Foot} (h : Foot.Sub a b) {i : Nat} (hi : a.testBit i = true) : b.testBit i = true := by
  rw [← show a ||| b = b from h, Nat.testBit_or, hi]; rfl

/-- From `s` to `t` only registers and parts within M may change; what is put out only grows, free values are only taken, waiting
commands stay, and a sound state stays sound. -/
structure Within (M : Foot) (s t : State) : Prop where
  regs : ∀ k : RegKey, M.testBit k.reg.ctorIdx = false → t.regs.get k = s.regs.get k
  parts : ∀ p : Part, M.testBit (576 + p.ctorIdx) = false → p.same s t
  pending : t.pending = s.pending
  out : s.out <+: t.out
  free : s.freeCtr ≤ t.freeCtr
  sound : s.Sound → t.Sound

theorem Part.same_refl (p : Part) (s : State) : p.same s s := by cases p <;> first | exact rfl | exact fun _ => rfl

theorem Part.same_trans {p : Part} {s t u : State} (h : p.same s t) (h' : p.same t u) : p.same s u := by
  cases p <;> first | exact Eq.trans h' h | exact fun a => (h' a).trans (h a)

namespace Within

theorem refl (M : Foot) (s : State) : Within M s s :=
  ⟨fun _ _ => rfl, fun p _ => p.same_refl s, rfl, List.prefix_refl _, Nat.le_refl _, id⟩

theorem trans {M : Foot} {s t u : State} (h : Within M s t) (h' : Within M t u) : Within M s u :=
  ⟨fun k hk => (h'.regs k hk).trans (h.regs k hk), fun p hp => Part.same_trans (h.parts p hp) (h'.parts p hp),
    h'.pending.trans h.pending, h.out.trans h'.out, Nat.le_trans h.free h'.free, fun x => h'.sound (h.sound x)⟩

theorem mono {M N : Foot} {s t : State} (hs : Foot.Sub M N) (h : Within M s t) : Within N s t := by
  have key : ∀ i, N.testBit i = false → M.testBit i = false := fun i hi => by
    by_contra c
    rw [Bool.not_eq_false] at c
    rw [hs.has c] at hi
    cases hi
  exact ⟨fun k hk => h.regs k (key _ hk), fun p hp => h.parts p (key _ hp), h.pending, h.out, h.free, h.sound⟩

/-- A field of a register outside the footprint reads as before. -/
theorem rd {M : Foot} {s t : State} (h : Within M s t) (f : Fld) (ix : List Nat) (hf : M.testBit f.reg.ctorIdx = false) :
    t.rd f ix = s.rd f ix := h.regs _ hf

/-- A footprint given by lists is a frame over these lists. -/
theorem frame {rs : List (List Reg)} {ps : List (List Part)} {s t : State} (h : Within (Foot.of rs.flatten ps.flatten) s t) :
    Frame rs ps s t := by
  generalize hr : rs.flatten = rs' at h
  generalize hp : ps.flatten = ps' at h
  suffices x : (∀ k : RegKey, k.reg ∉ rs' → t.regs.get k = s.regs.get k) ∧ ∀ p : Part, p ∉ ps' → p.same s t from
    ⟨hr ▸ x.1, hp ▸ x.2, h.pending⟩
  clear hr hp rs ps
  revert h
  generalize rs' = rs
  generalize ps' = ps
  intro h
  have base : ∀ (ps : List Part) (i : Nat), ((ps.map fun p : Part => 2 ^ (576 + p.ctorIdx)).foldr (· ||| ·) 0).testBit i = true →
      ∃ p ∈ ps, i = 576 + p.ctorIdx := by
    intro ps i
    induction ps with
    | nil => simp
    | cons p ps ih =>
      simp only [List.map_cons, List.foldr_cons, Nat.testBit_or, Bool.or_eq_true, Nat.testBit_two_pow, decide_eq_true_eq]
      rintro (h | h)
      · exact ⟨p, by simp, h.symm⟩
      · obtain ⟨q, hq, e⟩ := ih h; exact ⟨q, by simp [hq], e⟩
  have all : ∀ i, (Foot.of rs ps).testBit i = true → (∃ r ∈ rs, i = r.ctorIdx) ∨ ∃ p ∈ ps, i = 576 + p.ctorIdx := by
    intro i
    unfold Foot.of
    clear h
    induction rs with
    | nil => intro h; exact .inr (base ps i (by simpa using h))
    | cons r rs ih =>
      simp only [List.map_cons, List.foldr_cons, Nat.testBit_or, Bool.or_eq_true, Nat.testBit_two_pow, decide_eq_true_eq]
      rintro (h | h)
      · exact .inl ⟨r, by simp, h.symm⟩
      · rcases ih h with ⟨q, hq, e⟩ | h'
        · exact .inl ⟨q, by simp [hq], e⟩
        · exact .inr h'
  have regLt : ∀ r : Reg, r.ctorIdx < 576 := fun r => by cases r <;> decide
  refine ⟨fun k hk => h.regs k ?_, fun p hp => h.parts p ?_⟩
  · by_contra c
    rw [Bool.not_eq_false] at c
    rcases all _ c with ⟨r, hr, e⟩ | ⟨p, _, e⟩
    · exact hk ((show k.reg = r by rw [← Reg.ofNat_ctorIdx k.reg, e, Reg.ofNat_ctorIdx]) ▸ hr)
    · have := regLt k.reg; omega
  · by_contra c
    rw [Bool.not_eq_false] at c
    rcases all _ c with ⟨r, _, e⟩ | ⟨q, hq, e⟩
    · have := regLt r; omega
    · exact hp ((show p = q by rw [← Part.ofNat_ctorIdx p, show p.ctorIdx = q.ctorIdx by omega, Part.ofNat_ctorIdx]) ▸ hq)

-- Combinators ----------------------------------------------------------------------------------------

variable {M : Foot} {s₀ : State}

theorem ite {c : Prop} [Decidable c] {a b : State} (ha : Within M s₀ a) (hb : Within M s₀ b) : Within M s₀ (if c then a else b) := by
  split <;> assumption

theorem ite_fst {β : Type} {c : Prop} [Decidable c] {a b : State × β} (ha : Within M s₀ a.1) (hb : Within M s₀ b.1) :
    Within M s₀ (if c then a else b).1 := by split <;> assumption

theorem on {s : State} {b : Bool} {f : State → State} (h : Within M s₀ s) (hf : ∀ u, Within M s₀ u → Within M s₀ (f u)) :
    Within M s₀ (s.on b f) := by
  cases b
  · exact h
  · exact hf _ h

theorem each {α : Type} {s : State} {l : List α} {f : State → α → State} (h : Within M s₀ s)
    (hf : ∀ u x, Within M s₀ u → Within M s₀ (f u x)) : Within M s₀ (s.each l f) := by
  unfold State.each
  induction l generalizing s with
  | nil => exact h
  | cons x l ih => exact ih (hf _ _ h)

theorem foldl {α : Type} {s : State} {l : List α} {f : State → α → State} (h : Within M s₀ s)
    (hf : ∀ u x, Within M s₀ u → Within M s₀ (f u x)) : Within M s₀ (l.foldl f s) := each h hf

theorem each_mem {α : Type} {s : State} {l : List α} {f : State → α → State} (h : Within M s₀ s)
    (hf : ∀ u x, x ∈ l → Within M s₀ u → Within M s₀ (f u x)) : Within M s₀ (s.each l f) := by
  unfold State.each
  induction l generalizing s with
  | nil => exact h
  | cons x l ih => exact ih (hf _ _ (by simp) h) fun u y hy => hf u y (by simp [hy])

theorem foldl_mem {α : Type} {s : State} {l : List α} {f : State → α → State} (h : Within M s₀ s)
    (hf : ∀ u x, x ∈ l → Within M s₀ u → Within M s₀ (f u x)) : Within M s₀ (l.foldl f s) := each_mem h hf

theorem foldl_fst {α β : Type} {p : State × β} {l : List α} {f : State × β → α → State × β} (h : Within M s₀ p.1)
    (hf : ∀ q x, Within M s₀ q.1 → Within M s₀ (f q x).1) : Within M s₀ (l.foldl f p).1 := by
  induction l generalizing p with
  | nil => exact h
  | cons x l ih => exact ih (hf _ _ h)

/-- A fold that gathers what each step gives beside the state. -/
theorem foldl_gather {α β : Type} {g : State → α → State × List β} {l : List α} (a : State × List β) (h : Within M s₀ a.1)
    (hg : ∀ u x, Within M s₀ u → Within M s₀ (g u x).1) :
    Within M s₀ (l.foldl (fun (acc : State × List β) t => let q := g acc.1 t; (q.1, acc.2 ++ q.2)) a).1 :=
  foldl_fst h fun q x hq => hg q.1 x hq

/-- The first component of a pair that a computation answers. -/
theorem of_eq {β : Type} {p : State × β} {x : State} {y : β} (e : p = (x, y)) (h : Within M s₀ p.1) : Within M s₀ x := by
  rw [e] at h; exact h

/-- An intermediate state. -/
theorem cut {x t : State} (h : Within M s₀ x) (k : Within M s₀ x → Within M s₀ t) : Within M s₀ t := k h

-- Updates --------------------------------------------------------------------------------------------

theorem wr {s : State} (h : Within M s₀ s) (f : Fld) (ix : List Nat) (v : Nat) (hf : M.testBit f.reg.ctorIdx = true) :
    Within M s₀ (s.wr f ix v) := by
  refine h.trans ⟨fun k hk => RegFile.get_put_of_ne (fun e => ?_) _ _, fun p _ => ?_, rfl, List.prefix_refl _, Nat.le_refl _, fun x => ?_⟩
  · rw [e] at hk; exact absurd hf (by simpa using hk)
  · cases p <;> first | exact rfl | exact fun _ => rfl
  · exact ⟨RegFile.wf_put x.regs _ _, x.mem, x.acq, x.tims, x.acc, x.layers, x.flash⟩

theorem emit {s : State} (h : Within M s₀ s) (o : Output) (hf : M.testBit 593 = true) : Within M s₀ (s.emit o) := by
  refine h.trans ⟨fun _ _ => rfl, fun p hp => ?_, rfl, List.prefix_append _ _, Nat.le_refl _, fun x => ?_⟩
  · cases p <;> first | exact rfl | exact fun _ => rfl | (exfalso; revert hp; simp [Part.ctorIdx, hf])
  · exact ⟨x.regs, x.mem, x.acq, x.tims, x.acc, x.layers, x.flash⟩

theorem useFree {s : State} (h : Within M s₀ s) : Within M s₀ s.useFree := by
  refine h.trans ⟨fun _ _ => rfl, fun p hp => ?_, rfl, List.prefix_refl _, Nat.le_succ _, fun x => ?_⟩
  · cases p <;> first | exact rfl | exact fun _ => rfl
  · exact ⟨x.regs, x.mem, x.acq, x.tims, x.acc, x.layers, x.flash⟩

theorem memPut {s : State} (h : Within M s₀ s) (a : Nat) (b : Byte) (hf : M.testBit 581 = true) : Within M s₀ (s.memPut a b) := by
  refine h.trans ⟨fun _ _ => rfl, fun p hp => ?_, rfl, List.prefix_refl _, Nat.le_refl _, fun x => ?_⟩
  · cases p <;> first | exact rfl | exact fun _ => rfl | (exfalso; revert hp; simp [Part.ctorIdx, hf])
  · exact ⟨x.regs, Memory.wf_put x.mem _ _, x.acq, x.tims, x.acc, x.layers, x.flash⟩

/-- New register contents that agree outside the footprint and stay canonical. -/
theorem set_regs {s : State} (h : Within M s₀ s) (r : RegFile) (hg : ∀ k : RegKey, M.testBit k.reg.ctorIdx = false → r.get k = s.regs.get k)
    (hw : s.regs.wf = true → r.wf = true) : Within M s₀ { s with regs := r } := by
  refine h.trans ⟨hg, fun q _ => ?_, rfl, List.prefix_refl _, Nat.le_refl _, fun x => ?_⟩
  · cases q <;> first | exact rfl | exact fun _ => rfl
  · exact ⟨hw x.regs, x.mem, x.acq, x.tims, x.acc, x.layers, x.flash⟩

/-- A register written at a key. -/
theorem regsPut {s : State} (h : Within M s₀ s) (k : RegKey) (v : Nat) (hk : M.testBit k.reg.ctorIdx = true) :
    Within M s₀ { s with regs := s.regs.put k v } :=
  h.set_regs _ (fun _ hj => RegFile.get_put_of_ne (fun e => by rw [e, hk] at hj; cases hj) _ _) fun x => RegFile.wf_put x _ _

/-- A filter of the registers that passes every key outside the footprint. -/
theorem regsFilter {s : State} (h : Within M s₀ s) (p : RegKey × Nat → Bool)
    (hp : ∀ e, M.testBit e.1.reg.ctorIdx = false → p e = true) : Within M s₀ { s with regs := s.regs.filter p } :=
  h.set_regs _ (fun k hk => RegFile.get_filter _ _ _ fun _ => hp _ hk) fun x => RegFile.wf_filter x _

/-- Either computation's answer. -/
theorem orElse {β : Type} {a b : Option (State × β)} (ha : ∀ p ∈ a, Within M s₀ p.1) (hb : ∀ p ∈ b, Within M s₀ p.1) :
    ∀ p ∈ (a <|> b), Within M s₀ p.1 := by
  cases a
  · simpa using hb
  · simpa using ha

theorem set_mode {s : State} (h : Within M s₀ s) (x : Mode) (hf : M.testBit 576 = true) :
    Within M s₀ { s with mode := x } := by
  refine h.trans ⟨fun _ _ => rfl, fun p hp => ?_, rfl, List.prefix_refl _, Nat.le_refl _, fun z => ⟨z.regs, z.mem, z.acq, z.tims, z.acc, z.layers, z.flash⟩⟩
  cases p <;> first | exact rfl | exact fun _ => rfl | (exfalso; revert hp; simp [Part.ctorIdx, hf])

theorem set_control {s : State} (h : Within M s₀ s) (x : Nat) (hf : M.testBit 577 = true) :
    Within M s₀ { s with control := x } := by
  refine h.trans ⟨fun _ _ => rfl, fun p hp => ?_, rfl, List.prefix_refl _, Nat.le_refl _, fun z => ⟨z.regs, z.mem, z.acq, z.tims, z.acc, z.layers, z.flash⟩⟩
  cases p <;> first | exact rfl | exact fun _ => rfl | (exfalso; revert hp; simp [Part.ctorIdx, hf])

theorem set_now {s : State} (h : Within M s₀ s) (x : Nat) (hf : M.testBit 578 = true) :
    Within M s₀ { s with now := x } := by
  refine h.trans ⟨fun _ _ => rfl, fun p hp => ?_, rfl, List.prefix_refl _, Nat.le_refl _, fun z => ⟨z.regs, z.mem, z.acq, z.tims, z.acc, z.layers, z.flash⟩⟩
  cases p <;> first | exact rfl | exact fun _ => rfl | (exfalso; revert hp; simp [Part.ctorIdx, hf])

theorem set_dt {s : State} (h : Within M s₀ s) (x : Nat) (hf : M.testBit 579 = true) :
    Within M s₀ { s with dt := x } := by
  refine h.trans ⟨fun _ _ => rfl, fun p hp => ?_, rfl, List.prefix_refl _, Nat.le_refl _, fun z => ⟨z.regs, z.mem, z.acq, z.tims, z.acc, z.layers, z.flash⟩⟩
  cases p <;> first | exact rfl | exact fun _ => rfl | (exfalso; revert hp; simp [Part.ctorIdx, hf])

theorem set_dtPrev {s : State} (h : Within M s₀ s) (x : Nat) (hf : M.testBit 580 = true) :
    Within M s₀ { s with dtPrev := x } := by
  refine h.trans ⟨fun _ _ => rfl, fun p hp => ?_, rfl, List.prefix_refl _, Nat.le_refl _, fun z => ⟨z.regs, z.mem, z.acq, z.tims, z.acc, z.layers, z.flash⟩⟩
  cases p <;> first | exact rfl | exact fun _ => rfl | (exfalso; revert hp; simp [Part.ctorIdx, hf])

theorem set_misread {s : State} (h : Within M s₀ s) (x : List Host.Cell) (hf : M.testBit 582 = true) :
    Within M s₀ { s with misread := x } := by
  refine h.trans ⟨fun _ _ => rfl, fun p hp => ?_, rfl, List.prefix_refl _, Nat.le_refl _, fun z => ⟨z.regs, z.mem, z.acq, z.tims, z.acc, z.layers, z.flash⟩⟩
  cases p <;> first | exact rfl | exact fun _ => rfl | (exfalso; revert hp; simp [Part.ctorIdx, hf])

theorem set_heldWrites {s : State} (h : Within M s₀ s) (x : List (Nat × List Byte)) (hf : M.testBit 583 = true) :
    Within M s₀ { s with heldWrites := x } := by
  refine h.trans ⟨fun _ _ => rfl, fun p hp => ?_, rfl, List.prefix_refl _, Nat.le_refl _, fun z => ⟨z.regs, z.mem, z.acq, z.tims, z.acc, z.layers, z.flash⟩⟩
  cases p <;> first | exact rfl | exact fun _ => rfl | (exfalso; revert hp; simp [Part.ctorIdx, hf])

theorem set_acq {s : State} (h : Within M s₀ s) (x : List Acq) (hl : x.length = s.acq.length) (hf : M.testBit 584 = true) :
    Within M s₀ { s with acq := x } := by
  refine h.trans ⟨fun _ _ => rfl, fun p hp => ?_, rfl, List.prefix_refl _, Nat.le_refl _, fun z => ⟨z.regs, z.mem, hl.trans z.acq, z.tims, z.acc, z.layers, z.flash⟩⟩
  cases p <;> first | exact rfl | exact fun _ => rfl | (exfalso; revert hp; simp [Part.ctorIdx, hf])

theorem set_tims {s : State} (h : Within M s₀ s) (x : List Tim) (hl : x.length = s.tims.length) (hf : M.testBit 585 = true) :
    Within M s₀ { s with tims := x } := by
  refine h.trans ⟨fun _ _ => rfl, fun p hp => ?_, rfl, List.prefix_refl _, Nat.le_refl _, fun z => ⟨z.regs, z.mem, z.acq, hl.trans z.tims, z.acc, z.layers, z.flash⟩⟩
  cases p <;> first | exact rfl | exact fun _ => rfl | (exfalso; revert hp; simp [Part.ctorIdx, hf])

theorem set_timHeld {s : State} (h : Within M s₀ s) (x : List TimEvent) (hf : M.testBit 586 = true) :
    Within M s₀ { s with timHeld := x } := by
  refine h.trans ⟨fun _ _ => rfl, fun p hp => ?_, rfl, List.prefix_refl _, Nat.le_refl _, fun z => ⟨z.regs, z.mem, z.acq, z.tims, z.acc, z.layers, z.flash⟩⟩
  cases p <;> first | exact rfl | exact fun _ => rfl | (exfalso; revert hp; simp [Part.ctorIdx, hf])

theorem set_acc {s : State} (h : Within M s₀ s) (x : List AccEngine) (hl : x.length = s.acc.length) (hf : M.testBit 587 = true) :
    Within M s₀ { s with acc := x } := by
  refine h.trans ⟨fun _ _ => rfl, fun p hp => ?_, rfl, List.prefix_refl _, Nat.le_refl _, fun z => ⟨z.regs, z.mem, z.acq, z.tims, hl.trans z.acc, z.layers, z.flash⟩⟩
  cases p <;> first | exact rfl | exact fun _ => rfl | (exfalso; revert hp; simp [Part.ctorIdx, hf])

theorem set_layers {s : State} (h : Within M s₀ s) (x : List Layer) (hl : x.length = s.layers.length) (hf : M.testBit 588 = true) :
    Within M s₀ { s with layers := x } := by
  refine h.trans ⟨fun _ _ => rfl, fun p hp => ?_, rfl, List.prefix_refl _, Nat.le_refl _, fun z => ⟨z.regs, z.mem, z.acq, z.tims, z.acc, hl.trans z.layers, z.flash⟩⟩
  cases p <;> first | exact rfl | exact fun _ => rfl | (exfalso; revert hp; simp [Part.ctorIdx, hf])

theorem set_pool {s : State} (h : Within M s₀ s) (x : List PoolBuf) (hf : M.testBit 589 = true) :
    Within M s₀ { s with pool := x } := by
  refine h.trans ⟨fun _ _ => rfl, fun p hp => ?_, rfl, List.prefix_refl _, Nat.le_refl _, fun z => ⟨z.regs, z.mem, z.acq, z.tims, z.acc, z.layers, z.flash⟩⟩
  cases p <;> first | exact rfl | exact fun _ => rfl | (exfalso; revert hp; simp [Part.ctorIdx, hf])

theorem set_summaries {s : State} (h : Within M s₀ s) (x : List Summary) (hf : M.testBit 590 = true) :
    Within M s₀ { s with summaries := x } := by
  refine h.trans ⟨fun _ _ => rfl, fun p hp => ?_, rfl, List.prefix_refl _, Nat.le_refl _, fun z => ⟨z.regs, z.mem, z.acq, z.tims, z.acc, z.layers, z.flash⟩⟩
  cases p <;> first | exact rfl | exact fun _ => rfl | (exfalso; revert hp; simp [Part.ctorIdx, hf])

theorem set_library {s : State} (h : Within M s₀ s) (x : List LibEntry) (hf : M.testBit 591 = true) :
    Within M s₀ { s with library := x } := by
  refine h.trans ⟨fun _ _ => rfl, fun p hp => ?_, rfl, List.prefix_refl _, Nat.le_refl _, fun z => ⟨z.regs, z.mem, z.acq, z.tims, z.acc, z.layers, z.flash⟩⟩
  cases p <;> first | exact rfl | exact fun _ => rfl | (exfalso; revert hp; simp [Part.ctorIdx, hf])

theorem set_deliveries {s : State} (h : Within M s₀ s) (x : List Delivery) (hf : M.testBit 592 = true) :
    Within M s₀ { s with deliveries := x } := by
  refine h.trans ⟨fun _ _ => rfl, fun p hp => ?_, rfl, List.prefix_refl _, Nat.le_refl _, fun z => ⟨z.regs, z.mem, z.acq, z.tims, z.acc, z.layers, z.flash⟩⟩
  cases p <;> first | exact rfl | exact fun _ => rfl | (exfalso; revert hp; simp [Part.ctorIdx, hf])

theorem set_ringRecs {s : State} (h : Within M s₀ s) (x : List RingRec) (hf : M.testBit 594 = true) :
    Within M s₀ { s with ringRecs := x } := by
  refine h.trans ⟨fun _ _ => rfl, fun p hp => ?_, rfl, List.prefix_refl _, Nat.le_refl _, fun z => ⟨z.regs, z.mem, z.acq, z.tims, z.acc, z.layers, z.flash⟩⟩
  cases p <;> first | exact rfl | exact fun _ => rfl | (exfalso; revert hp; simp [Part.ctorIdx, hf])

theorem set_taken {s : State} (h : Within M s₀ s) (x : List Taken) (hf : M.testBit 595 = true) :
    Within M s₀ { s with taken := x } := by
  refine h.trans ⟨fun _ _ => rfl, fun p hp => ?_, rfl, List.prefix_refl _, Nat.le_refl _, fun z => ⟨z.regs, z.mem, z.acq, z.tims, z.acc, z.layers, z.flash⟩⟩
  cases p <;> first | exact rfl | exact fun _ => rfl | (exfalso; revert hp; simp [Part.ctorIdx, hf])

theorem set_outstanding {s : State} (h : Within M s₀ s) (x : List Outstanding) (hf : M.testBit 596 = true) :
    Within M s₀ { s with outstanding := x } := by
  refine h.trans ⟨fun _ _ => rfl, fun p hp => ?_, rfl, List.prefix_refl _, Nat.le_refl _, fun z => ⟨z.regs, z.mem, z.acq, z.tims, z.acc, z.layers, z.flash⟩⟩
  cases p <;> first | exact rfl | exact fun _ => rfl | (exfalso; revert hp; simp [Part.ctorIdx, hf])

theorem set_kept {s : State} (h : Within M s₀ s) (x : List Kept) (hf : M.testBit 597 = true) :
    Within M s₀ { s with kept := x } := by
  refine h.trans ⟨fun _ _ => rfl, fun p hp => ?_, rfl, List.prefix_refl _, Nat.le_refl _, fun z => ⟨z.regs, z.mem, z.acq, z.tims, z.acc, z.layers, z.flash⟩⟩
  cases p <;> first | exact rfl | exact fun _ => rfl | (exfalso; revert hp; simp [Part.ctorIdx, hf])

theorem set_violations {s : State} (h : Within M s₀ s) (x : List Viol) (hf : M.testBit 598 = true) :
    Within M s₀ { s with violations := x } := by
  refine h.trans ⟨fun _ _ => rfl, fun p hp => ?_, rfl, List.prefix_refl _, Nat.le_refl _, fun z => ⟨z.regs, z.mem, z.acq, z.tims, z.acc, z.layers, z.flash⟩⟩
  cases p <;> first | exact rfl | exact fun _ => rfl | (exfalso; revert hp; simp [Part.ctorIdx, hf])

theorem set_coreReqs {s : State} (h : Within M s₀ s) (x : List CoreReq) (hf : M.testBit 599 = true) :
    Within M s₀ { s with coreReqs := x } := by
  refine h.trans ⟨fun _ _ => rfl, fun p hp => ?_, rfl, List.prefix_refl _, Nat.le_refl _, fun z => ⟨z.regs, z.mem, z.acq, z.tims, z.acc, z.layers, z.flash⟩⟩
  cases p <;> first | exact rfl | exact fun _ => rfl | (exfalso; revert hp; simp [Part.ctorIdx, hf])

theorem set_fwRecords {s : State} (h : Within M s₀ s) (x : List (Nat × Nat × List Byte)) (hf : M.testBit 600 = true) :
    Within M s₀ { s with fwRecords := x } := by
  refine h.trans ⟨fun _ _ => rfl, fun p hp => ?_, rfl, List.prefix_refl _, Nat.le_refl _, fun z => ⟨z.regs, z.mem, z.acq, z.tims, z.acc, z.layers, z.flash⟩⟩
  cases p <;> first | exact rfl | exact fun _ => rfl | (exfalso; revert hp; simp [Part.ctorIdx, hf])

theorem set_committed {s : State} (h : Within M s₀ s) (x : List (Nat × Nat)) (hf : M.testBit 601 = true) :
    Within M s₀ { s with committed := x } := by
  refine h.trans ⟨fun _ _ => rfl, fun p hp => ?_, rfl, List.prefix_refl _, Nat.le_refl _, fun z => ⟨z.regs, z.mem, z.acq, z.tims, z.acc, z.layers, z.flash⟩⟩
  cases p <;> first | exact rfl | exact fun _ => rfl | (exfalso; revert hp; simp [Part.ctorIdx, hf])

theorem set_periodDraws {s : State} (h : Within M s₀ s) (x : List Nat) (hf : M.testBit 602 = true) :
    Within M s₀ { s with periodDraws := x } := by
  refine h.trans ⟨fun _ _ => rfl, fun p hp => ?_, rfl, List.prefix_refl _, Nat.le_refl _, fun z => ⟨z.regs, z.mem, z.acq, z.tims, z.acc, z.layers, z.flash⟩⟩
  cases p <;> first | exact rfl | exact fun _ => rfl | (exfalso; revert hp; simp [Part.ctorIdx, hf])

theorem set_deratedAt {s : State} (h : Within M s₀ s) (x : Nat) (hf : M.testBit 603 = true) :
    Within M s₀ { s with deratedAt := x } := by
  refine h.trans ⟨fun _ _ => rfl, fun p hp => ?_, rfl, List.prefix_refl _, Nat.le_refl _, fun z => ⟨z.regs, z.mem, z.acq, z.tims, z.acc, z.layers, z.flash⟩⟩
  cases p <;> first | exact rfl | exact fun _ => rfl | (exfalso; revert hp; simp [Part.ctorIdx, hf])

theorem set_deferred {s : State} (h : Within M s₀ s) (x : List Deferred) (hf : M.testBit 604 = true) :
    Within M s₀ { s with deferred := x } := by
  refine h.trans ⟨fun _ _ => rfl, fun p hp => ?_, rfl, List.prefix_refl _, Nat.le_refl _, fun z => ⟨z.regs, z.mem, z.acq, z.tims, z.acc, z.layers, z.flash⟩⟩
  cases p <;> first | exact rfl | exact fun _ => rfl | (exfalso; revert hp; simp [Part.ctorIdx, hf])

theorem set_running {s : State} (h : Within M s₀ s) (x : List Claim) (hf : M.testBit 605 = true) :
    Within M s₀ { s with running := x } := by
  refine h.trans ⟨fun _ _ => rfl, fun p hp => ?_, rfl, List.prefix_refl _, Nat.le_refl _, fun z => ⟨z.regs, z.mem, z.acq, z.tims, z.acc, z.layers, z.flash⟩⟩
  cases p <;> first | exact rfl | exact fun _ => rfl | (exfalso; revert hp; simp [Part.ctorIdx, hf])

theorem set_waiting {s : State} (h : Within M s₀ s) (x : List Claim) (hf : M.testBit 606 = true) :
    Within M s₀ { s with waiting := x } := by
  refine h.trans ⟨fun _ _ => rfl, fun p hp => ?_, rfl, List.prefix_refl _, Nat.le_refl _, fun z => ⟨z.regs, z.mem, z.acq, z.tims, z.acc, z.layers, z.flash⟩⟩
  cases p <;> first | exact rfl | exact fun _ => rfl | (exfalso; revert hp; simp [Part.ctorIdx, hf])

theorem set_bobbin {s : State} (h : Within M s₀ s) (x : List BobRec) (hf : M.testBit 607 = true) :
    Within M s₀ { s with bobbin := x } := by
  refine h.trans ⟨fun _ _ => rfl, fun p hp => ?_, rfl, List.prefix_refl _, Nat.le_refl _, fun z => ⟨z.regs, z.mem, z.acq, z.tims, z.acc, z.layers, z.flash⟩⟩
  cases p <;> first | exact rfl | exact fun _ => rfl | (exfalso; revert hp; simp [Part.ctorIdx, hf])

theorem set_retiring {s : State} (h : Within M s₀ s) (x : List Nat) (hf : M.testBit 608 = true) :
    Within M s₀ { s with retiring := x } := by
  refine h.trans ⟨fun _ _ => rfl, fun p hp => ?_, rfl, List.prefix_refl _, Nat.le_refl _, fun z => ⟨z.regs, z.mem, z.acq, z.tims, z.acc, z.layers, z.flash⟩⟩
  cases p <;> first | exact rfl | exact fun _ => rfl | (exfalso; revert hp; simp [Part.ctorIdx, hf])

theorem set_snapshot {s : State} (h : Within M s₀ s) (x : List Byte) (hf : M.testBit 610 = true) :
    Within M s₀ { s with snapshot := x } := by
  refine h.trans ⟨fun _ _ => rfl, fun p hp => ?_, rfl, List.prefix_refl _, Nat.le_refl _, fun z => ⟨z.regs, z.mem, z.acq, z.tims, z.acc, z.layers, z.flash⟩⟩
  cases p <;> first | exact rfl | exact fun _ => rfl | (exfalso; revert hp; simp [Part.ctorIdx, hf])

theorem set_cardErrs {s : State} (h : Within M s₀ s) (x : List CardErr) (hf : M.testBit 611 = true) :
    Within M s₀ { s with cardErrs := x } := by
  refine h.trans ⟨fun _ _ => rfl, fun p hp => ?_, rfl, List.prefix_refl _, Nat.le_refl _, fun z => ⟨z.regs, z.mem, z.acq, z.tims, z.acc, z.layers, z.flash⟩⟩
  cases p <;> first | exact rfl | exact fun _ => rfl | (exfalso; revert hp; simp [Part.ctorIdx, hf])

theorem set_tapMoves {s : State} (h : Within M s₀ s) (x : List TapMove) (hf : M.testBit 612 = true) :
    Within M s₀ { s with tapMoves := x } := by
  refine h.trans ⟨fun _ _ => rfl, fun p hp => ?_, rfl, List.prefix_refl _, Nat.le_refl _, fun z => ⟨z.regs, z.mem, z.acq, z.tims, z.acc, z.layers, z.flash⟩⟩
  cases p <;> first | exact rfl | exact fun _ => rfl | (exfalso; revert hp; simp [Part.ctorIdx, hf])

theorem set_combFits {s : State} (h : Within M s₀ s) (x : List CombFit) (hf : M.testBit 613 = true) :
    Within M s₀ { s with combFits := x } := by
  refine h.trans ⟨fun _ _ => rfl, fun p hp => ?_, rfl, List.prefix_refl _, Nat.le_refl _, fun z => ⟨z.regs, z.mem, z.acq, z.tims, z.acc, z.layers, z.flash⟩⟩
  cases p <;> first | exact rfl | exact fun _ => rfl | (exfalso; revert hp; simp [Part.ctorIdx, hf])

theorem set_fades {s : State} (h : Within M s₀ s) (x : List Fade) (hf : M.testBit 614 = true) :
    Within M s₀ { s with fades := x } := by
  refine h.trans ⟨fun _ _ => rfl, fun p hp => ?_, rfl, List.prefix_refl _, Nat.le_refl _, fun z => ⟨z.regs, z.mem, z.acq, z.tims, z.acc, z.layers, z.flash⟩⟩
  cases p <;> first | exact rfl | exact fun _ => rfl | (exfalso; revert hp; simp [Part.ctorIdx, hf])

theorem set_counted {s : State} (h : Within M s₀ s) (x : List CountedBlock) (hf : M.testBit 615 = true) :
    Within M s₀ { s with counted := x } := by
  refine h.trans ⟨fun _ _ => rfl, fun p hp => ?_, rfl, List.prefix_refl _, Nat.le_refl _, fun z => ⟨z.regs, z.mem, z.acq, z.tims, z.acc, z.layers, z.flash⟩⟩
  cases p <;> first | exact rfl | exact fun _ => rfl | (exfalso; revert hp; simp [Part.ctorIdx, hf])

theorem set_arrivals {s : State} (h : Within M s₀ s) (x : List Arrival) (hf : M.testBit 616 = true) :
    Within M s₀ { s with arrivals := x } := by
  refine h.trans ⟨fun _ _ => rfl, fun p hp => ?_, rfl, List.prefix_refl _, Nat.le_refl _, fun z => ⟨z.regs, z.mem, z.acq, z.tims, z.acc, z.layers, z.flash⟩⟩
  cases p <;> first | exact rfl | exact fun _ => rfl | (exfalso; revert hp; simp [Part.ctorIdx, hf])

theorem set_spans {s : State} (h : Within M s₀ s) (x : List Span) (hf : M.testBit 617 = true) :
    Within M s₀ { s with spans := x } := by
  refine h.trans ⟨fun _ _ => rfl, fun p hp => ?_, rfl, List.prefix_refl _, Nat.le_refl _, fun z => ⟨z.regs, z.mem, z.acq, z.tims, z.acc, z.layers, z.flash⟩⟩
  cases p <;> first | exact rfl | exact fun _ => rfl | (exfalso; revert hp; simp [Part.ctorIdx, hf])

theorem set_fresh {s : State} (h : Within M s₀ s) (x : List (RegKey × Nat)) (hf : M.testBit 618 = true) :
    Within M s₀ { s with fresh := x } := by
  refine h.trans ⟨fun _ _ => rfl, fun p hp => ?_, rfl, List.prefix_refl _, Nat.le_refl _, fun z => ⟨z.regs, z.mem, z.acq, z.tims, z.acc, z.layers, z.flash⟩⟩
  cases p <;> first | exact rfl | exact fun _ => rfl | (exfalso; revert hp; simp [Part.ctorIdx, hf])

theorem set_heldRecs {s : State} (h : Within M s₀ s) (x : List EventRec) (hf : M.testBit 619 = true) :
    Within M s₀ { s with heldRecs := x } := by
  refine h.trans ⟨fun _ _ => rfl, fun p hp => ?_, rfl, List.prefix_refl _, Nat.le_refl _, fun z => ⟨z.regs, z.mem, z.acq, z.tims, z.acc, z.layers, z.flash⟩⟩
  cases p <;> first | exact rfl | exact fun _ => rfl | (exfalso; revert hp; simp [Part.ctorIdx, hf])

theorem set_nextActs {s : State} (h : Within M s₀ s) (x : List NextAct) (hf : M.testBit 620 = true) :
    Within M s₀ { s with nextActs := x } := by
  refine h.trans ⟨fun _ _ => rfl, fun p hp => ?_, rfl, List.prefix_refl _, Nat.le_refl _, fun z => ⟨z.regs, z.mem, z.acq, z.tims, z.acc, z.layers, z.flash⟩⟩
  cases p <;> first | exact rfl | exact fun _ => rfl | (exfalso; revert hp; simp [Part.ctorIdx, hf])

theorem set_booked {s : State} (h : Within M s₀ s) (x : List Instr) (hf : M.testBit 621 = true) :
    Within M s₀ { s with booked := x } := by
  refine h.trans ⟨fun _ _ => rfl, fun p hp => ?_, rfl, List.prefix_refl _, Nat.le_refl _, fun z => ⟨z.regs, z.mem, z.acq, z.tims, z.acc, z.layers, z.flash⟩⟩
  cases p <;> first | exact rfl | exact fun _ => rfl | (exfalso; revert hp; simp [Part.ctorIdx, hf])

theorem set_closing {s : State} (h : Within M s₀ s) (x : Bool) (hf : M.testBit 622 = true) :
    Within M s₀ { s with closing := x } := by
  refine h.trans ⟨fun _ _ => rfl, fun p hp => ?_, rfl, List.prefix_refl _, Nat.le_refl _, fun z => ⟨z.regs, z.mem, z.acq, z.tims, z.acc, z.layers, z.flash⟩⟩
  cases p <;> first | exact rfl | exact fun _ => rfl | (exfalso; revert hp; simp [Part.ctorIdx, hf])

/-- A byte of the flash takes a value. -/
theorem flashPut {s : State} (h : Within M s₀ s) (a : Nat) (b : Byte) (hf : M.testBit 609 = true) : Within M s₀ (s.flashPut a b) := by
  refine h.trans ⟨fun _ _ => rfl, fun p hp => ?_, rfl, List.prefix_refl _, Nat.le_refl _, fun x => ?_⟩
  · cases p <;> first | exact rfl | exact fun _ => rfl | (exfalso; revert hp; simp [Part.ctorIdx, hf])
  · exact ⟨x.regs, x.mem, x.acq, x.tims, x.acc, x.layers, Flash.wf_put x.flash _ _⟩

/-- Flash bytes are erased. -/
theorem flashFilter {s : State} (h : Within M s₀ s) (p : Host.Cell → Bool) (hf : M.testBit 609 = true) :
    Within M s₀ { s with flash := s.flash.filter p } := by
  refine h.trans ⟨fun _ _ => rfl, fun p hp => ?_, rfl, List.prefix_refl _, Nat.le_refl _, fun x => ?_⟩
  · cases p <;> first | exact rfl | exact fun _ => rfl | (exfalso; revert hp; simp [Part.ctorIdx, hf])
  · exact ⟨x.regs, x.mem, x.acq, x.tims, x.acc, x.layers, Flash.wf_filter x.flash _⟩

theorem set_clock {s : State} (h : Within M s₀ s) (a b c : Nat) (f : List (RegKey × Nat)) (h1 : M.testBit 578 = true)
    (h2 : M.testBit 580 = true) (h3 : M.testBit 579 = true) (h4 : M.testBit 618 = true) :
    Within M s₀ { s with now := a, dtPrev := b, dt := c, fresh := f } :=
  set_fresh (set_dt (set_dtPrev (set_now h a h1) b h2) c h3) f h4

theorem set_cards {s : State} (h : Within M s₀ s) (a : List CardErr) (b : List TapMove) (h1 : M.testBit 611 = true)
    (h2 : M.testBit 612 = true) : Within M s₀ { s with cardErrs := a, tapMoves := b } := set_tapMoves (set_cardErrs h a h1) b h2

theorem set_snapOut {s : State} (h : Within M s₀ s) (a : List Byte) (b : List Outstanding) (h1 : M.testBit 610 = true)
    (h2 : M.testBit 596 = true) : Within M s₀ { s with snapshot := a, outstanding := b } :=
  set_outstanding (set_snapshot h a h1) b h2

theorem set_dts {s : State} (h : Within M s₀ s) (b c : Nat) (h2 : M.testBit 580 = true) (h3 : M.testBit 579 = true) :
    Within M s₀ { s with dtPrev := b, dt := c } := set_dt (set_dtPrev h b h2) c h3

theorem set_claims {s : State} (h : Within M s₀ s) (a b : List Claim) (h1 : M.testBit 605 = true) (h2 : M.testBit 606 = true) :
    Within M s₀ { s with running := a, waiting := b } := set_waiting (set_running h a h1) b h2

theorem set_ringTaken {s : State} (h : Within M s₀ s) (a : List RingRec) (b : List Taken) (h1 : M.testBit 594 = true)
    (h2 : M.testBit 595 = true) : Within M s₀ { s with ringRecs := a, taken := b } := set_taken (set_ringRecs h a h1) b h2

/-- Memory loses a range, and the library its entries there. -/
theorem set_memLibrary {s : State} (h : Within M s₀ s) (p : Host.Cell → Bool) (l : List LibEntry) (h1 : M.testBit 581 = true)
    (h2 : M.testBit 591 = true) : Within M s₀ { s with mem := s.mem.filter p, library := l } := by
  refine set_library (s := { s with mem := s.mem.filter p }) (h.trans ⟨fun _ _ => rfl, fun q hq => ?_, rfl, List.prefix_refl _,
    Nat.le_refl _, fun z => ⟨z.regs, Memory.wf_filter z.mem _, z.acq, z.tims, z.acc, z.layers, z.flash⟩⟩) l h2
  cases q <;> first | exact rfl | exact fun _ => rfl | (exfalso; revert hq; simp [Part.ctorIdx, h1])

theorem set_modeDts {s : State} (h : Within M s₀ s) (m : Mode) (b c : Nat) (h1 : M.testBit 576 = true) (h2 : M.testBit 580 = true)
    (h3 : M.testBit 579 = true) : Within M s₀ { s with mode := m, dtPrev := b, dt := c } :=
  set_dt (set_dtPrev (set_mode h m h1) b h2) c h3

end Within

end Sys2Proof.Machine
end

