-- ==== Sys2Proof/Laws/OpsWithin.lean ====
section
/-!
SUPPORT. What each operation of Machine/Ops.lean may change (`Within`), and that it keeps the state sound.
-/

namespace Sys2Proof.Machine

set_option linter.all false

theorem State.wr_within {M : Foot} {s₀ s : State} (h_s : Within M s₀ s) (f : Fld) (ix : List Nat) (v : Nat) (h_f : M.testBit f.reg.ctorIdx = true) :
    Within M s₀ (State.wr s f ix v) := Within.wr h_s f ix v h_f

theorem State.noteFresh_within {M : Foot} (hM : Foot.Sub 0x40000000000000000000000000000000000000000000000000000000000000000000000000000000000000000000000000000000000000000000000000000000000000000000000000000000000 M) {s₀ s : State} (h_s : Within M s₀ s) (f : Fld) (ix : List Nat) (v : Nat) (h_f : M.testBit f.reg.ctorIdx = true) :
    Within M s₀ (State.noteFresh s f ix v) := Within.set_fresh h_s _ (hM.has (by decide))

theorem State.flag_within {M : Foot} (hM : Foot.Sub 0x40000000000000000000000000000000000000000000000000000000000000000000000000000000000000000000000000000000000000000000000000000000000000000000000000000000000 M) {s₀ s : State} (h_s : Within M s₀ s) (f : Fld) (ix : List Nat) (h_f : M.testBit f.reg.ctorIdx = true) :
    Within M s₀ (State.flag s f ix) := by
  unfold State.flag
  repeat' (first
    | with_reducible assumption
    | (refine Foot.Sub.has hM ?_; decide)
    | (refine Foot.Sub.trans ?_ hM; decide)
    | with_reducible refine State.wr_within ?_ _ _ _ ?_
    | with_reducible refine State.noteFresh_within ?_ ?_ _ _ _ ?_
    | split
    | (with_reducible refine Within.of_eq (by with_reducible assumption) ?_))

theorem State.flagIf_within {M : Foot} (hM : Foot.Sub 0x40000000000000000000000000000000000000000000000000000000000000000000000000000000000000000000000000000000000000000000000000000000000000000000000000000000000 M) {s₀ s : State} (h_s : Within M s₀ s) (f : Fld) (ix : List Nat) (b : Bool) (h_f : M.testBit f.reg.ctorIdx = true) :
    Within M s₀ (State.flagIf s f ix b) := by
  unfold State.flagIf
  repeat' (first
    | with_reducible assumption
    | (refine Foot.Sub.has hM ?_; decide)
    | (refine Foot.Sub.trans ?_ hM; decide)
    | with_reducible refine State.flag_within ?_ ?_ _ _ ?_
    | with_reducible refine Within.ite ?_ ?_
    | with_reducible refine Within.ite_fst ?_ ?_
    | split
    | (with_reducible refine Within.of_eq (by with_reducible assumption) ?_))

theorem State.flagBit_within {M : Foot} (hM : Foot.Sub 0x40000000000000000000000000000000000000000000000000000000000000000000000000000000000000000000000000000000000000000000000000000000000000000000000000000000000 M) {s₀ s : State} (h_s : Within M s₀ s) (f : Fld) (ix : List Nat) (i : Nat) (h_f : M.testBit f.reg.ctorIdx = true) :
    Within M s₀ (State.flagBit s f ix i) := by
  unfold State.flagBit
  repeat' (first
    | with_reducible assumption
    | (refine Foot.Sub.has hM ?_; decide)
    | (refine Foot.Sub.trans ?_ hM; decide)
    | with_reducible refine State.wr_within ?_ _ _ _ ?_
    | with_reducible refine State.noteFresh_within ?_ ?_ _ _ _ ?_
    | split
    | (with_reducible refine Within.of_eq (by with_reducible assumption) ?_))

theorem State.count_within {M : Foot} (hM : Foot.Sub 0x40000000000000000000000000000000000000000000000000000000000000000000000000000000000000000000000000000000000000000000000000000000000000000000000000000000000 M) {s₀ s : State} (h_s : Within M s₀ s) (f : Fld) (ix : List Nat) (n : Nat) (h_f : M.testBit f.reg.ctorIdx = true) :
    Within M s₀ (State.count s f ix n) := by
  unfold State.count
  repeat' (first
    | with_reducible assumption
    | (refine Foot.Sub.has hM ?_; decide)
    | (refine Foot.Sub.trans ?_ hM; decide)
    | with_reducible refine State.wr_within ?_ _ _ _ ?_
    | with_reducible refine State.noteFresh_within ?_ ?_ _ _ _ ?_
    | split
    | (with_reducible refine Within.of_eq (by with_reducible assumption) ?_))

theorem State.wrBool_within {M : Foot} {s₀ s : State} (h_s : Within M s₀ s) (f : Fld) (ix : List Nat) (b : Bool) (h_f : M.testBit f.reg.ctorIdx = true) :
    Within M s₀ (State.wrBool s f ix b) := by
  unfold State.wrBool
  repeat' (first
    | with_reducible assumption
    | with_reducible refine State.wr_within ?_ _ _ _ ?_
    | split
    | (with_reducible refine Within.of_eq (by with_reducible assumption) ?_))

theorem State.incSat_within {M : Foot} {s₀ s : State} (h_s : Within M s₀ s) (f : Fld) (ix : List Nat) (h_f : M.testBit f.reg.ctorIdx = true) :
    Within M s₀ (State.incSat s f ix) := by
  unfold State.incSat
  repeat' (first
    | with_reducible assumption
    | with_reducible refine State.wr_within ?_ _ _ _ ?_
    | with_reducible refine Within.ite ?_ ?_
    | with_reducible refine Within.ite_fst ?_ ?_
    | split
    | (with_reducible refine Within.of_eq (by with_reducible assumption) ?_))

theorem State.inc_within {M : Foot} {s₀ s : State} (h_s : Within M s₀ s) (f : Fld) (ix : List Nat) (h_f : M.testBit f.reg.ctorIdx = true) :
    Within M s₀ (State.inc s f ix) := by
  unfold State.inc
  repeat' (first
    | with_reducible assumption
    | with_reducible refine State.wr_within ?_ _ _ _ ?_
    | split
    | (with_reducible refine Within.of_eq (by with_reducible assumption) ?_))

theorem State.addSat_within {M : Foot} {s₀ s : State} (h_s : Within M s₀ s) (f : Fld) (ix : List Nat) (n : Nat) (h_f : M.testBit f.reg.ctorIdx = true) :
    Within M s₀ (State.addSat s f ix n) := by
  unfold State.addSat
  repeat' (first
    | with_reducible assumption
    | with_reducible refine State.wr_within ?_ _ _ _ ?_
    | split
    | (with_reducible refine Within.of_eq (by with_reducible assumption) ?_))

theorem State.useFree_within {M : Foot} {s₀ s : State} (h_s : Within M s₀ s)   :
    Within M s₀ (State.useFree s) := Within.useFree h_s

theorem State.wrFree_within {M : Foot} {s₀ s : State} (h_s : Within M s₀ s) (f : Fld) (ix : List Nat) (h_f : M.testBit f.reg.ctorIdx = true) :
    Within M s₀ (State.wrFree s f ix) := by
  unfold State.wrFree
  repeat' (first
    | with_reducible assumption
    | with_reducible refine State.wr_within ?_ _ _ _ ?_
    | with_reducible refine State.useFree_within ?_
    | split
    | (with_reducible refine Within.of_eq (by with_reducible assumption) ?_))

theorem State.emit_within {M : Foot} (hM : Foot.Sub 0x20000000000000000000000000000000000000000000000000000000000000000000000000000000000000000000000000000000000000000000000000000000000000000000000000000 M) {s₀ s : State} (h_s : Within M s₀ s) (o : Output)  :
    Within M s₀ (State.emit s o) := Within.emit h_s o (hM.has (by decide))

theorem State.book_within {M : Foot} (hM : Foot.Sub 0x200000000000000000000000000000000000000000000000000000000000000000000000000000000000000000000000000000000000000000000000000000000000000000000000000000000000 M) {s₀ s : State} (h_s : Within M s₀ s) (c : Instr)  :
    Within M s₀ (State.book s c) := Within.set_booked h_s _ (hM.has (by decide))

theorem State.atEnd_within {M : Foot} (hM : Foot.Sub 0x200000000000000000000000000000000000000000000000000000000000000000000000000000000000000000000000000000000000000000000000000000000000000000000000000000000000 M) {s₀ s : State} (h_s : Within M s₀ s) (landing : Bool) (c : Instr) (f : State → State) (h_f : ∀ u, Within M s₀ u → Within M s₀ (f u)) :
    Within M s₀ (State.atEnd s landing c f) := by
  unfold State.atEnd
  repeat' (first
    | with_reducible assumption
    | (refine Foot.Sub.has hM ?_; decide)
    | (refine Foot.Sub.trans ?_ hM; decide)
    | with_reducible refine State.book_within ?_ ?_ _
    | with_reducible refine Within.ite ?_ ?_
    | with_reducible refine Within.ite_fst ?_ ?_
    | split
    | with_reducible apply h_f
    | (with_reducible refine Within.of_eq (by with_reducible assumption) ?_))

theorem State.nextBlockWrite_within {M : Foot} (hM : Foot.Sub 0x200000000000000000000000000000000000000000000000000000000000000000000000000000000000000000000000000000000000000000000000000000000000000000000000000000000000 M) {s₀ s : State} (h_s : Within M s₀ s) (c : Instr) (f : State → State × Nat) (h_f : ∀ u, Within M s₀ u → Within M s₀ (f u).1) :
    Within M s₀ (State.nextBlockWrite s c f) := by
  unfold State.nextBlockWrite
  repeat' (first
    | with_reducible assumption
    | (refine Foot.Sub.has hM ?_; decide)
    | (refine Foot.Sub.trans ?_ hM; decide)
    | (extract_lets +onlyGivenNames x; refine Within.cut (x := x) ?_ ?_; (on_goal 2 => (clear_value x; revert x; intro _ _)); (on_goal 1 => (unfold x; clear x)))
    | (extract_lets +onlyGivenNames x; refine Within.cut (x := x.1) ?_ ?_; (on_goal 2 => (clear_value x; revert x; intro _ _)); (on_goal 1 => (unfold x; clear x)))
    | (extract_lets +onlyGivenNames x; clear_value x; revert x; intro _)
    | with_reducible refine State.book_within ?_ ?_ _
    | with_reducible refine Within.ite ?_ ?_
    | with_reducible refine Within.ite_fst ?_ ?_
    | split
    | with_reducible apply h_f
    | (with_reducible refine Within.of_eq (by with_reducible assumption) ?_))

theorem State.clkTick_within {M : Foot} (hM : Foot.Sub 0x1000000000000000000000000000000000000000000000000000000000000000000000000000000000000000000400 M) {s₀ s : State} (h_s : Within M s₀ s) (d : Nat)  :
    Within M s₀ (State.clkTick s d) := by
  unfold State.clkTick
  repeat' (first
    | with_reducible assumption
    | (refine Foot.Sub.has hM ?_; decide)
    | (refine Foot.Sub.trans ?_ hM; decide)
    | (extract_lets +onlyGivenNames x; refine Within.cut (x := x) ?_ ?_; (on_goal 2 => (clear_value x; revert x; intro _ _)); (on_goal 1 => (unfold x; clear x)))
    | (extract_lets +onlyGivenNames x; refine Within.cut (x := x.1) ?_ ?_; (on_goal 2 => (clear_value x; revert x; intro _ _)); (on_goal 1 => (unfold x; clear x)))
    | (extract_lets +onlyGivenNames x; clear_value x; revert x; intro _)
    | with_reducible refine State.wr_within ?_ _ _ _ ?_
    | with_reducible refine Within.on ?_ fun _ _ => ?_
    | with_reducible refine Within.ite ?_ ?_
    | with_reducible refine Within.ite_fst ?_ ?_
    | split
    | (with_reducible refine Within.of_eq (by with_reducible assumption) ?_)
    | (intro _))

theorem State.clkFrom_within {M : Foot} (hM : Foot.Sub 0x1000000000000000000000000000000000000000000000000000000000000000000000000000000000000000000000 M) {s₀ s : State} (h_s : Within M s₀ s) (d : Nat)  :
    Within M s₀ (State.clkFrom s d) := by
  unfold State.clkFrom
  repeat' (first
    | with_reducible assumption
    | (refine Foot.Sub.has hM ?_; decide)
    | (refine Foot.Sub.trans ?_ hM; decide)
    | with_reducible refine State.wr_within ?_ _ _ _ ?_
    | split
    | (with_reducible refine Within.of_eq (by with_reducible assumption) ?_))

theorem State.tick_within {M : Foot} (hM : Foot.Sub 0x4000000001c000000000000000000000000000000000000000000000000001000000000000000000000000000000000000000000000000000000000000000000000000000000000000000000400 M) {s₀ s : State} (h_s : Within M s₀ s)   :
    Within M s₀ (State.tick s) := by
  unfold State.tick
  exact Within.set_clock (State.clkTick_within (Foot.Sub.trans (by decide) hM) (State.clkTick_within (Foot.Sub.trans (by decide) hM) h_s _) _)
    _ _ _ _ (hM.has (by decide)) (hM.has (by decide)) (hM.has (by decide)) (hM.has (by decide))

theorem State.armCue_within {M : Foot} (hM : Foot.Sub 0x4000000000000000000000000000008000000000000000000000000000000000000000000000000000000000040000 M) {s₀ s : State} (h_s : Within M s₀ s) (d : Nat) (n : Nat)  :
    Within M s₀ (State.armCue s d n) := by
  unfold State.armCue
  repeat' (first
    | with_reducible assumption
    | (refine Foot.Sub.has hM ?_; decide)
    | (refine Foot.Sub.trans ?_ hM; decide)
    | (extract_lets +onlyGivenNames x; refine Within.cut (x := x) ?_ ?_; (on_goal 2 => (clear_value x; revert x; intro _ _)); (on_goal 1 => (unfold x; clear x)))
    | (extract_lets +onlyGivenNames x; refine Within.cut (x := x.1) ?_ ?_; (on_goal 2 => (clear_value x; revert x; intro _ _)); (on_goal 1 => (unfold x; clear x)))
    | (extract_lets +onlyGivenNames x; clear_value x; revert x; intro _)
    | with_reducible refine State.wr_within ?_ _ _ _ ?_
    | with_reducible refine State.wrBool_within ?_ _ _ _ ?_
    | with_reducible refine State.inc_within ?_ _ _ ?_
    | split
    | (with_reducible refine Within.of_eq (by with_reducible assumption) ?_))

theorem State.endCue_within {M : Foot} (hM : Foot.Sub 0x8000000000000000000000000000000000000000000000000000000000040000 M) {s₀ s : State} (h_s : Within M s₀ s) (d : Nat) (n : Nat) (state : Nat)  :
    Within M s₀ (State.endCue s d n state) := by
  unfold State.endCue
  repeat' (first
    | with_reducible assumption
    | (refine Foot.Sub.has hM ?_; decide)
    | (refine Foot.Sub.trans ?_ hM; decide)
    | with_reducible refine State.wr_within ?_ _ _ _ ?_
    | split
    | (with_reducible refine Within.of_eq (by with_reducible assumption) ?_))

theorem State.openSpan_within {M : Foot} (hM : Foot.Sub 0x20000000000000000000000000000000000000000000000000000000000000000000000000000000000000000000000000000000000000000000000000000000000000000000000000000000000 M) {s₀ s : State} (h_s : Within M s₀ s) (kind : SpanKind) (d : Nat) (c : Nat) (tick : Nat)  :
    Within M s₀ (State.openSpan s kind d c tick) := by
  unfold State.openSpan
  repeat' (first
    | with_reducible assumption
    | (refine Foot.Sub.has hM ?_; decide)
    | (refine Foot.Sub.trans ?_ hM; decide)
    | (extract_lets +onlyGivenNames x; refine Within.cut (x := x) ?_ ?_; (on_goal 2 => (clear_value x; revert x; intro _ _)); (on_goal 1 => (unfold x; clear x)))
    | (extract_lets +onlyGivenNames x; refine Within.cut (x := x.1) ?_ ?_; (on_goal 2 => (clear_value x; revert x; intro _ _)); (on_goal 1 => (unfold x; clear x)))
    | (extract_lets +onlyGivenNames x; clear_value x; revert x; intro _)
    | with_reducible refine Within.ite ?_ ?_
    | with_reducible refine Within.ite_fst ?_ ?_
    | split
    | with_reducible refine Within.set_spans ?_ _ ?_
    | (with_reducible refine Within.of_eq (by with_reducible assumption) ?_))

theorem State.closeSpan_within {M : Foot} (hM : Foot.Sub 0x20000000000000000000000000000000000000000000000000000000000000000000000000000000000000000000000000000000000000000000000000000000000000000000000000000000000 M) {s₀ s : State} (h_s : Within M s₀ s) (kind : SpanKind) (d : Nat) (c : Nat) (tick : Nat)  :
    Within M s₀ (State.closeSpan s kind d c tick) := by
  unfold State.closeSpan
  repeat' (first
    | with_reducible assumption
    | (refine Foot.Sub.has hM ?_; decide)
    | (refine Foot.Sub.trans ?_ hM; decide)
    | (extract_lets +onlyGivenNames x; refine Within.cut (x := x) ?_ ?_; (on_goal 2 => (clear_value x; revert x; intro _ _)); (on_goal 1 => (unfold x; clear x)))
    | (extract_lets +onlyGivenNames x; refine Within.cut (x := x.1) ?_ ?_; (on_goal 2 => (clear_value x; revert x; intro _ _)); (on_goal 1 => (unfold x; clear x)))
    | (extract_lets +onlyGivenNames x; clear_value x; revert x; intro _)
    | with_reducible refine Within.ite ?_ ?_
    | with_reducible refine Within.ite_fst ?_ ?_
    | split
    | with_reducible refine Within.set_spans ?_ _ ?_
    | (with_reducible refine Within.of_eq (by with_reducible assumption) ?_))

theorem State.writeBack_within {M : Foot} (hM : Foot.Sub 0x20000000000000000000000000000000000000000000000000000000000000000000000000000000000000000000000000000000000000000000000000000000000000000000000000000 M) {s₀ s : State} (h_s : Within M s₀ s) (d : Nat) (q : Nat) (index : Nat)  :
    Within M s₀ (State.writeBack s d q index) := by
  unfold State.writeBack
  repeat' (first
    | with_reducible assumption
    | (refine Foot.Sub.has hM ?_; decide)
    | (refine Foot.Sub.trans ?_ hM; decide)
    | with_reducible refine State.emit_within ?_ ?_ _
    | with_reducible refine Within.on ?_ fun _ _ => ?_
    | split
    | (with_reducible refine Within.of_eq (by with_reducible assumption) ?_)
    | (intro _))

theorem State.advanceOwn_within {M : Foot} (hM : Foot.Sub 0x20000000000000000000000000000000000000000000000000000000000000000000000000000000000000000000000000000018000000000000000000000000000000000000000000000 M) {s₀ s : State} (h_s : Within M s₀ s) (d : Nat) (q : Nat)  :
    Within M s₀ (State.advanceOwn s d q) := by
  unfold State.advanceOwn
  repeat' (first
    | with_reducible assumption
    | (refine Foot.Sub.has hM ?_; decide)
    | (refine Foot.Sub.trans ?_ hM; decide)
    | (extract_lets +onlyGivenNames x; refine Within.cut (x := x) ?_ ?_; (on_goal 2 => (clear_value x; revert x; intro _ _)); (on_goal 1 => (unfold x; clear x)))
    | (extract_lets +onlyGivenNames x; refine Within.cut (x := x.1) ?_ ?_; (on_goal 2 => (clear_value x; revert x; intro _ _)); (on_goal 1 => (unfold x; clear x)))
    | with_reducible refine State.wr_within ?_ _ _ _ ?_
    | with_reducible refine State.wrBool_within ?_ _ _ _ ?_
    | with_reducible refine State.writeBack_within ?_ ?_ _ _ _
    | with_reducible refine Within.on ?_ fun _ _ => ?_
    | with_reducible refine Within.ite ?_ ?_
    | with_reducible refine Within.ite_fst ?_ ?_
    | split
    | (with_reducible refine Within.of_eq (by with_reducible assumption) ?_)
    | (intro _))

theorem State.sendMsix_within {M : Foot} (hM : Foot.Sub 0x20000000000000000000000000000000000000000000000000000000000000000000000000000000001000000000000000000000000000000000000000000000000000000000000000000 M) {s₀ s : State} (h_s : Within M s₀ s) (d : Nat) (v : Nat)  :
    Within M s₀ (State.sendMsix s d v) := by
  unfold State.sendMsix
  repeat' (first
    | with_reducible assumption
    | (refine Foot.Sub.has hM ?_; decide)
    | (refine Foot.Sub.trans ?_ hM; decide)
    | with_reducible refine State.wr_within ?_ _ _ _ ?_
    | with_reducible refine State.emit_within ?_ ?_ _
    | with_reducible refine Within.ite ?_ ?_
    | with_reducible refine Within.ite_fst ?_ ?_
    | split
    | (with_reducible refine Within.of_eq (by with_reducible assumption) ?_))

theorem State.sendCore_within {M : Foot} (hM : Foot.Sub 0x800000000000000000000000000000000000000000000000080000000000000000000000000000002000000000000000000000000000000000000000000000000000000000000000000000 M) {s₀ s : State} (h_s : Within M s₀ s) (core : Nat) (prio : Nat) (q : Nat)  :
    Within M s₀ (State.sendCore s core prio q) := by
  unfold State.sendCore
  repeat' (first
    | with_reducible assumption
    | (refine Foot.Sub.has hM ?_; decide)
    | (refine Foot.Sub.trans ?_ hM; decide)
    | (extract_lets +onlyGivenNames x; refine Within.cut (x := x) ?_ ?_; (on_goal 2 => (clear_value x; revert x; intro _ _)); (on_goal 1 => (unfold x; clear x)))
    | (extract_lets +onlyGivenNames x; refine Within.cut (x := x.1) ?_ ?_; (on_goal 2 => (clear_value x; revert x; intro _ _)); (on_goal 1 => (unfold x; clear x)))
    | (extract_lets +onlyGivenNames x; clear_value x; revert x; intro _)
    | with_reducible refine State.wr_within ?_ _ _ _ ?_
    | with_reducible refine Within.on ?_ fun _ _ => ?_
    | split
    | with_reducible refine Within.set_coreReqs ?_ _ ?_
    | (with_reducible refine Within.of_eq (by with_reducible assumption) ?_)
    | (intro _))

theorem State.deliver_within {M : Foot} (hM : Foot.Sub 0x820000000000000000000000000000000000000000000000080000000000000000000000000000002001000000000000000000000000000000000000000000000000000000000000000000 M) {s₀ s : State} (h_s : Within M s₀ s) (d : Nat) (q : Nat)  :
    Within M s₀ (State.deliver s d q) := by
  unfold State.deliver
  repeat' (first
    | with_reducible assumption
    | (refine Foot.Sub.has hM ?_; decide)
    | (refine Foot.Sub.trans ?_ hM; decide)
    | with_reducible refine State.sendCore_within ?_ ?_ _ _ _
    | with_reducible refine State.sendMsix_within ?_ ?_ _ _
    | with_reducible refine Within.ite ?_ ?_
    | with_reducible refine Within.ite_fst ?_ ?_
    | split
    | (with_reducible refine Within.of_eq (by with_reducible assumption) ?_))

theorem State.fire_within {M : Foot} (hM : Foot.Sub 0x820000000000000000000000000000000000000020000000080000000000000000000000000000002401000000000000000000008000000000000000000000000000000000000000000000 M) {s₀ s : State} (h_s : Within M s₀ s) (d : Nat) (q : Nat)  :
    Within M s₀ (State.fire s d q) := by
  unfold State.fire
  repeat' (first
    | with_reducible assumption
    | (refine Foot.Sub.has hM ?_; decide)
    | (refine Foot.Sub.trans ?_ hM; decide)
    | with_reducible refine State.deliver_within ?_ ?_ _ _
    | with_reducible refine State.wr_within ?_ _ _ _ ?_
    | split
    | (with_reducible refine Within.of_eq (by with_reducible assumption) ?_))

theorem State.startCoal_within {M : Foot} (hM : Foot.Sub 0x600000000000000000000000000000000000000000000000000000000000000000000 M) {s₀ s : State} (h_s : Within M s₀ s) (d : Nat) (q : Nat) (ticks : Nat)  :
    Within M s₀ (State.startCoal s d q ticks) := by
  unfold State.startCoal
  repeat' (first
    | with_reducible assumption
    | (refine Foot.Sub.has hM ?_; decide)
    | (refine Foot.Sub.trans ?_ hM; decide)
    | with_reducible refine State.wr_within ?_ _ _ _ ?_
    | with_reducible refine State.wrBool_within ?_ _ _ _ ?_
    | split
    | (with_reducible refine Within.of_eq (by with_reducible assumption) ?_))

theorem State.coalesce_within {M : Foot} (hM : Foot.Sub 0x820000000000000000000000000000000000000020000000080000000000000000000000000000002501000000000000000000008000000000000000000000000000000000000000000000 M) {s₀ s : State} (h_s : Within M s₀ s) (d : Nat) (q : Nat) (n : Nat)  :
    Within M s₀ (State.coalesce s d q n) := by
  unfold State.coalesce
  repeat' (first
    | with_reducible assumption
    | (refine Foot.Sub.has hM ?_; decide)
    | (refine Foot.Sub.trans ?_ hM; decide)
    | (extract_lets +onlyGivenNames x; refine Within.cut (x := x) ?_ ?_; (on_goal 2 => (clear_value x; revert x; intro _ _)); (on_goal 1 => (unfold x; clear x)))
    | (extract_lets +onlyGivenNames x; refine Within.cut (x := x.1) ?_ ?_; (on_goal 2 => (clear_value x; revert x; intro _ _)); (on_goal 1 => (unfold x; clear x)))
    | (extract_lets +onlyGivenNames x; clear_value x; revert x; intro _)
    | with_reducible refine State.wr_within ?_ _ _ _ ?_
    | with_reducible refine State.fire_within ?_ ?_ _ _
    | with_reducible refine Within.on ?_ fun _ _ => ?_
    | split
    | (with_reducible refine Within.of_eq (by with_reducible assumption) ?_)
    | (intro _))

theorem State.countRecord_within {M : Foot} (hM : Foot.Sub 0x820000000000000000000000000000000000000020000000080000000000000000000000000000002701000000000000000000008000000000000000000000000000000000000000000000 M) {s₀ s : State} (h_s : Within M s₀ s) (d : Nat) (q : Nat) (ticks : Nat)  :
    Within M s₀ (State.countRecord s d q ticks) := by
  unfold State.countRecord
  repeat' (first
    | with_reducible assumption
    | (refine Foot.Sub.has hM ?_; decide)
    | (refine Foot.Sub.trans ?_ hM; decide)
    | (extract_lets +onlyGivenNames x; refine Within.cut (x := x) ?_ ?_; (on_goal 2 => (clear_value x; revert x; intro _ _)); (on_goal 1 => (unfold x; clear x)))
    | (extract_lets +onlyGivenNames x; refine Within.cut (x := x.1) ?_ ?_; (on_goal 2 => (clear_value x; revert x; intro _ _)); (on_goal 1 => (unfold x; clear x)))
    | (extract_lets +onlyGivenNames x; clear_value x; revert x; intro _)
    | with_reducible refine State.startCoal_within ?_ ?_ _ _ _
    | with_reducible refine State.coalesce_within ?_ ?_ _ _ _
    | with_reducible refine Within.on ?_ fun _ _ => ?_
    | split
    | (with_reducible refine Within.of_eq (by with_reducible assumption) ?_)
    | (intro _))

theorem State.irqDoorbell_within {M : Foot} (hM : Foot.Sub 0x820000000000000000000000000000000000000020000000080000000000000000000000000000002701000000000000000000008000000000000000000000000000000000000000000000 M) {s₀ s : State} (h_s : Within M s₀ s) (d : Nat) (q : Nat) (n : Nat)  :
    Within M s₀ (State.irqDoorbell s d q n) := by
  unfold State.irqDoorbell
  repeat' (first
    | with_reducible assumption
    | (refine Foot.Sub.has hM ?_; decide)
    | (refine Foot.Sub.trans ?_ hM; decide)
    | with_reducible refine State.wr_within ?_ _ _ _ ?_
    | with_reducible refine State.startCoal_within ?_ ?_ _ _ _
    | with_reducible refine State.coalesce_within ?_ ?_ _ _ _
    | with_reducible refine Within.on ?_ fun _ _ => ?_
    | with_reducible refine Within.ite ?_ ?_
    | with_reducible refine Within.ite_fst ?_ ?_
    | split
    | (with_reducible refine Within.of_eq (by with_reducible assumption) ?_)
    | (intro _))

theorem State.pushRecord_within {M : Foot} (hM : Foot.Sub 0x860000000000000000000000000000000000000020000000080000000000000000000000000000002701000000000000000000018000000000000000000000000000000000000000000000 M) {s₀ s : State} (h_s : Within M s₀ s) (d : Nat) (q : Nat) (bytes : List Byte) (source : Option Nat) (countable : Bool) (ticks : Nat)  :
    Within M s₀ (State.pushRecord s d q bytes source countable ticks) := by
  unfold State.pushRecord
  repeat' (first
    | with_reducible assumption
    | (refine Foot.Sub.has hM ?_; decide)
    | (refine Foot.Sub.trans ?_ hM; decide)
    | (extract_lets +onlyGivenNames x; refine Within.cut (x := x) ?_ ?_; (on_goal 2 => (clear_value x; revert x; intro _ _)); (on_goal 1 => (unfold x; clear x)))
    | (extract_lets +onlyGivenNames x; refine Within.cut (x := x.1) ?_ ?_; (on_goal 2 => (clear_value x; revert x; intro _ _)); (on_goal 1 => (unfold x; clear x)))
    | (extract_lets +onlyGivenNames x; clear_value x; revert x; intro _)
    | with_reducible refine State.emit_within ?_ ?_ _
    | with_reducible refine State.advanceOwn_within ?_ ?_ _ _
    | with_reducible refine State.countRecord_within ?_ ?_ _ _ _
    | with_reducible refine Within.on ?_ fun _ _ => ?_
    | split
    | with_reducible refine Within.set_ringRecs ?_ _ ?_
    | (with_reducible refine Within.of_eq (by with_reducible assumption) ?_)
    | (intro _))

theorem State.dropRecord_within {M : Foot} (hM : Foot.Sub 0x40000000000000000000000000000000000000000000000000000000000000000000000000000000000000080000000000000000000088000000000000000000000000000000000000000000000 M) {s₀ s : State} (h_s : Within M s₀ s) (d : Nat) (q : Nat)  :
    Within M s₀ (State.dropRecord s d q) := by
  unfold State.dropRecord
  repeat' (first
    | with_reducible assumption
    | (refine Foot.Sub.has hM ?_; decide)
    | (refine Foot.Sub.trans ?_ hM; decide)
    | with_reducible refine State.count_within ?_ ?_ _ _ _ ?_
    | with_reducible refine State.flag_within ?_ ?_ _ _ ?_
    | with_reducible refine State.wr_within ?_ _ _ _ ?_
    | split
    | (with_reducible refine Within.of_eq (by with_reducible assumption) ?_))

theorem State.putRecord_within {M : Foot} (hM : Foot.Sub 0x400008600000000000000000000000000000000000000200000000800000000000000000000000000000027a1000000000000000000098000000000000000000000000000000000000000000000 M) {s₀ s : State} (h_s : Within M s₀ s) (r : EventRec)  :
    Within M s₀ (State.putRecord s r).1 := by
  unfold State.putRecord
  repeat' (first
    | with_reducible assumption
    | (refine Foot.Sub.has hM ?_; decide)
    | (refine Foot.Sub.trans ?_ hM; decide)
    | (extract_lets +onlyGivenNames x; refine Within.cut (x := x) ?_ ?_; (on_goal 2 => (clear_value x; revert x; intro _ _)); (on_goal 1 => (unfold x; clear x)))
    | (extract_lets +onlyGivenNames x; refine Within.cut (x := x.1) ?_ ?_; (on_goal 2 => (clear_value x; revert x; intro _ _)); (on_goal 1 => (unfold x; clear x)))
    | (extract_lets +onlyGivenNames x; clear_value x; revert x; intro _)
    | with_reducible refine State.wr_within ?_ _ _ _ ?_
    | with_reducible refine State.dropRecord_within ?_ ?_ _ _
    | with_reducible refine State.count_within ?_ ?_ _ _ _ ?_
    | with_reducible refine State.wrBool_within ?_ _ _ _ ?_
    | with_reducible refine State.pushRecord_within ?_ ?_ _ _ _ _ _ _
    | with_reducible refine Within.ite ?_ ?_
    | with_reducible refine Within.ite_fst ?_ ?_
    | split
    | (with_reducible refine Within.of_eq (by with_reducible assumption) ?_))

theorem State.fwRoute_within {M : Foot} (hM : Foot.Sub 0x1000000000000000000000000000000000000000000000000000000000000000000000000000000000040000000000000000000000000000000000000000000000000000000000000000000 M) {s₀ s : State} (h_s : Within M s₀ s) (d : Nat) (src : Nat) (payload : Nat) (kind : EventKind)  :
    Within M s₀ (State.fwRoute s d src payload kind) := by
  unfold State.fwRoute
  repeat' (first
    | with_reducible assumption
    | (refine Foot.Sub.has hM ?_; decide)
    | (refine Foot.Sub.trans ?_ hM; decide)
    | (extract_lets +onlyGivenNames x; refine Within.cut (x := x) ?_ ?_; (on_goal 2 => (clear_value x; revert x; intro _ _)); (on_goal 1 => (unfold x; clear x)))
    | (extract_lets +onlyGivenNames x; refine Within.cut (x := x.1) ?_ ?_; (on_goal 2 => (clear_value x; revert x; intro _ _)); (on_goal 1 => (unfold x; clear x)))
    | (extract_lets +onlyGivenNames x; clear_value x; revert x; intro _)
    | with_reducible refine State.wrBool_within ?_ _ _ _ ?_
    | with_reducible refine Within.on ?_ fun _ _ => ?_
    | split
    | with_reducible refine Within.set_fwRecords ?_ _ ?_
    | (with_reducible refine Within.of_eq (by with_reducible assumption) ?_)
    | (intro _))

theorem State.noteRaise_within {M : Foot} (hM : Foot.Sub 0x40000000000000000000000000000000000000000000000000000003000000000000000000000000000000018000000000000000000800000000000000000000000000000000000000000000000 M) {s₀ s : State} (h_s : Within M s₀ s) (d : Nat) (src : Nat) (payload : Nat)  :
    Within M s₀ (State.noteRaise s d src payload) := by
  unfold State.noteRaise
  repeat' (first
    | with_reducible assumption
    | (refine Foot.Sub.has hM ?_; decide)
    | (refine Foot.Sub.trans ?_ hM; decide)
    | (extract_lets +onlyGivenNames x; refine Within.cut (x := x) ?_ ?_; (on_goal 2 => (clear_value x; revert x; intro _ _)); (on_goal 1 => (unfold x; clear x)))
    | (extract_lets +onlyGivenNames x; refine Within.cut (x := x.1) ?_ ?_; (on_goal 2 => (clear_value x; revert x; intro _ _)); (on_goal 1 => (unfold x; clear x)))
    | (extract_lets +onlyGivenNames x; clear_value x; revert x; intro _)
    | with_reducible refine State.flagBit_within ?_ ?_ _ _ _ ?_
    | with_reducible refine State.inc_within ?_ _ _ ?_
    | with_reducible refine State.wr_within ?_ _ _ _ ?_
    | with_reducible refine Within.on ?_ fun _ _ => ?_
    | split
    | (with_reducible refine Within.of_eq (by with_reducible assumption) ?_)
    | (intro _))

theorem State.overflowRaise_within {M : Foot} (hM : Foot.Sub 0x400018600000000000000000000000000000000000000200000000830000000000000000000000000000027f9000000000000000000898000000000000000000000000000000000000000000000 M) {s₀ s : State} (h_s : Within M s₀ s) (d : Nat) (q : Nat) (full : Bool)  :
    Within M s₀ (State.overflowRaise s d q full) := by
  unfold State.overflowRaise
  repeat' (first
    | with_reducible assumption
    | (refine Foot.Sub.has hM ?_; decide)
    | (refine Foot.Sub.trans ?_ hM; decide)
    | (extract_lets +onlyGivenNames x; refine Within.cut (x := x) ?_ ?_; (on_goal 2 => (clear_value x; revert x; intro _ _)); (on_goal 1 => (unfold x; clear x)))
    | (extract_lets +onlyGivenNames x; refine Within.cut (x := x.1) ?_ ?_; (on_goal 2 => (clear_value x; revert x; intro _ _)); (on_goal 1 => (unfold x; clear x)))
    | (extract_lets +onlyGivenNames x; clear_value x; revert x; intro _)
    | with_reducible refine State.noteRaise_within ?_ ?_ _ _ _
    | with_reducible refine State.putRecord_within ?_ ?_ _
    | with_reducible refine State.fwRoute_within ?_ ?_ _ _ _ _
    | split
    | (with_reducible refine Within.of_eq (by with_reducible assumption) ?_))

theorem State.placeRecord_within {M : Foot} (hM : Foot.Sub 0x400018600000000000000000000000000000000000000200000000830000000000000000000000000000027f9000000000000000000898000000000000000000000000000000000000000000000 M) {s₀ s : State} (h_s : Within M s₀ s) (r : EventRec)  :
    Within M s₀ (State.placeRecord s r) := by
  unfold State.placeRecord
  repeat' (first
    | with_reducible assumption
    | (refine Foot.Sub.has hM ?_; decide)
    | (refine Foot.Sub.trans ?_ hM; decide)
    | (extract_lets +onlyGivenNames x; refine Within.cut (x := x) ?_ ?_; (on_goal 2 => (clear_value x; revert x; intro _ _)); (on_goal 1 => (unfold x; clear x)))
    | (extract_lets +onlyGivenNames x; refine Within.cut (x := x.1) ?_ ?_; (on_goal 2 => (clear_value x; revert x; intro _ _)); (on_goal 1 => (unfold x; clear x)))
    | (extract_lets +onlyGivenNames x; clear_value x; revert x; intro _)
    | with_reducible refine State.putRecord_within ?_ ?_ _
    | with_reducible refine State.overflowRaise_within ?_ ?_ _ _ _
    | with_reducible refine Within.on ?_ fun _ _ => ?_
    | split
    | (with_reducible refine Within.of_eq (by with_reducible assumption) ?_)
    | (intro _))

theorem State.hostRoute_within {M : Foot} (hM : Foot.Sub 0xc00018600000000000000000000000000000000000000200000000830000000000000000000000000000027f9000000000000000000898000000000000000000000000000000000000000000000 M) {s₀ s : State} (h_s : Within M s₀ s) (d : Nat) (src : Nat) (ticks : Nat) (payload : Nat) (kind : EventKind)  :
    Within M s₀ (State.hostRoute s d src ticks payload kind) := by
  unfold State.hostRoute
  repeat' (first
    | with_reducible assumption
    | (refine Foot.Sub.has hM ?_; decide)
    | (refine Foot.Sub.trans ?_ hM; decide)
    | (extract_lets +onlyGivenNames x; refine Within.cut (x := x) ?_ ?_; (on_goal 2 => (clear_value x; revert x; intro _ _)); (on_goal 1 => (unfold x; clear x)))
    | (extract_lets +onlyGivenNames x; refine Within.cut (x := x.1) ?_ ?_; (on_goal 2 => (clear_value x; revert x; intro _ _)); (on_goal 1 => (unfold x; clear x)))
    | (extract_lets +onlyGivenNames x; clear_value x; revert x; intro _)
    | with_reducible refine State.wrBool_within ?_ _ _ _ ?_
    | with_reducible refine State.placeRecord_within ?_ ?_ _
    | with_reducible refine Within.ite ?_ ?_
    | with_reducible refine Within.ite_fst ?_ ?_
    | split
    | with_reducible refine Within.set_heldRecs ?_ _ ?_
    | (with_reducible refine Within.of_eq (by with_reducible assumption) ?_))

theorem State.flushHeld_within {M : Foot} (hM : Foot.Sub 0xc00018600000000000000000000000000000000000000200000000830000000000000000000000000000027f9000000000000000000898000000000000000000000000000000000000000000000 M) {s₀ s : State} (h_s : Within M s₀ s)   :
    Within M s₀ (State.flushHeld s) := by
  unfold State.flushHeld
  repeat' (first
    | with_reducible assumption
    | (refine Foot.Sub.has hM ?_; decide)
    | (refine Foot.Sub.trans ?_ hM; decide)
    | (extract_lets +onlyGivenNames x; refine Within.cut (x := x) ?_ ?_; (on_goal 2 => (clear_value x; revert x; intro _ _)); (on_goal 1 => (unfold x; clear x)))
    | (extract_lets +onlyGivenNames x; refine Within.cut (x := x.1) ?_ ?_; (on_goal 2 => (clear_value x; revert x; intro _ _)); (on_goal 1 => (unfold x; clear x)))
    | (extract_lets +onlyGivenNames x; clear_value x; revert x; intro _)
    | with_reducible refine State.placeRecord_within ?_ ?_ _
    | with_reducible refine Within.each ?_ fun _ _ _ => ?_
    | split
    | with_reducible refine Within.set_heldRecs ?_ _ ?_
    | (with_reducible refine Within.of_eq (by with_reducible assumption) ?_))

theorem State.raiseKind_within {M : Foot} (hM : Foot.Sub 0xc00018600000000000000000000000000000000000000200000000830000000000000000000000000000027f9000000000000000000898000000000000000000000000000000000000000000000 M) {s₀ s : State} (h_s : Within M s₀ s) (d : Nat) (src : Nat) (payload : Nat) (kind : EventKind)  :
    Within M s₀ (State.raiseKind s d src payload kind) := by
  unfold State.raiseKind
  repeat' (first
    | with_reducible assumption
    | (refine Foot.Sub.has hM ?_; decide)
    | (refine Foot.Sub.trans ?_ hM; decide)
    | with_reducible refine State.noteRaise_within ?_ ?_ _ _ _
    | with_reducible refine State.hostRoute_within ?_ ?_ _ _ _ _ _
    | with_reducible refine State.fwRoute_within ?_ ?_ _ _ _ _
    | split
    | (with_reducible refine Within.of_eq (by with_reducible assumption) ?_))

theorem State.raise_within {M : Foot} (hM : Foot.Sub 0xc00018600000000000000000000000000000000000000200000000830000000000000000000000000000027f9000000000000000000898000000000000000000000000000000000000000000000 M) {s₀ s : State} (h_s : Within M s₀ s) (d : Nat) (src : Nat) (payload : Nat)  :
    Within M s₀ (State.raise s d src payload) := by
  unfold State.raise
  repeat' (first
    | with_reducible assumption
    | (refine Foot.Sub.has hM ?_; decide)
    | (refine Foot.Sub.trans ?_ hM; decide)
    | (split <;> (refine Foot.Sub.has hM ?_; decide))
    | with_reducible refine State.raiseKind_within ?_ ?_ _ _ _ _
    | with_reducible refine Within.ite ?_ ?_
    | with_reducible refine Within.ite_fst ?_ ?_
    | split
    | (with_reducible refine Within.of_eq (by with_reducible assumption) ?_))

theorem State.raisePkg_within {M : Foot} (hM : Foot.Sub 0xc00018600000000000000000000000000000000000000200000000830000000000000000000000000000027f9000000000000000000898000000000000000000000000000000000000000000000 M) {s₀ s : State} (h_s : Within M s₀ s) (src : Nat) (payload : Nat)  :
    Within M s₀ (State.raisePkg s src payload) := by
  unfold State.raisePkg
  repeat' (first
    | with_reducible assumption
    | (refine Foot.Sub.has hM ?_; decide)
    | (refine Foot.Sub.trans ?_ hM; decide)
    | with_reducible refine State.raise_within ?_ ?_ _ _ _
    | split
    | (with_reducible refine Within.of_eq (by with_reducible assumption) ?_))

theorem State.stick_within {M : Foot} (hM : Foot.Sub 0xc00018600000000000000000000000000000000000000200000000830000000000000000000000000000027f9000000000000000000898000000000000000000000000000000000000000000000 M) {s₀ s : State} (h_s : Within M s₀ s) (f : Fld) (ix : List Nat) (d : Nat) (src : Nat) (payload : Nat) (h_f : M.testBit f.reg.ctorIdx = true) :
    Within M s₀ (State.stick s f ix d src payload) := by
  unfold State.stick
  repeat' (first
    | with_reducible assumption
    | (refine Foot.Sub.has hM ?_; decide)
    | (refine Foot.Sub.trans ?_ hM; decide)
    | with_reducible refine State.noteFresh_within ?_ ?_ _ _ _ ?_
    | with_reducible refine State.flag_within ?_ ?_ _ _ ?_
    | with_reducible refine State.raise_within ?_ ?_ _ _ _
    | with_reducible refine Within.ite ?_ ?_
    | with_reducible refine Within.ite_fst ?_ ?_
    | split
    | (with_reducible refine Within.of_eq (by with_reducible assumption) ?_))

theorem State.resample_within {M : Foot} (hM : Foot.Sub 0xc00018600000000000000000000000000000000000000200000000830000000000000000000000000000027f9000000000000000000898000000000000000000000000000000000000000000000 M) {s₀ s : State} (h_s : Within M s₀ s) (d : Nat) (src : Nat)  :
    Within M s₀ (State.resample s d src) := by
  unfold State.resample
  repeat' (first
    | with_reducible assumption
    | (refine Foot.Sub.has hM ?_; decide)
    | (refine Foot.Sub.trans ?_ hM; decide)
    | (extract_lets +onlyGivenNames x; refine Within.cut (x := x) ?_ ?_; (on_goal 2 => (clear_value x; revert x; intro _ _)); (on_goal 1 => (unfold x; clear x)))
    | (extract_lets +onlyGivenNames x; refine Within.cut (x := x.1) ?_ ?_; (on_goal 2 => (clear_value x; revert x; intro _ _)); (on_goal 1 => (unfold x; clear x)))
    | (extract_lets +onlyGivenNames x; clear_value x; revert x; intro _)
    | with_reducible refine State.wr_within ?_ _ _ _ ?_
    | with_reducible refine State.raiseKind_within ?_ ?_ _ _ _ _
    | with_reducible refine State.resample_within ?_ ?_ _ _
    | with_reducible refine Within.on ?_ fun _ _ => ?_
    | split
    | (with_reducible refine Within.of_eq (by with_reducible assumption) ?_)
    | (intro _))

theorem State.countViolation_within {M : Foot} (hM : Foot.Sub 0x100000400000000000000000000000000000000000000000000000000000000000000000000000000000000000000000000000001000000000000000000000000000000000000000000000000000 M) {s₀ s : State} (h_s : Within M s₀ s) (d : Nat) (q : Nat)  :
    Within M s₀ (State.countViolation s d q) := by
  unfold State.countViolation
  repeat' (first
    | with_reducible assumption
    | (refine Foot.Sub.has hM ?_; decide)
    | (refine Foot.Sub.trans ?_ hM; decide)
    | (extract_lets +onlyGivenNames x; refine Within.cut (x := x) ?_ ?_; (on_goal 2 => (clear_value x; revert x; intro _ _)); (on_goal 1 => (unfold x; clear x)))
    | (extract_lets +onlyGivenNames x; refine Within.cut (x := x.1) ?_ ?_; (on_goal 2 => (clear_value x; revert x; intro _ _)); (on_goal 1 => (unfold x; clear x)))
    | (extract_lets +onlyGivenNames x; clear_value x; revert x; intro _)
    | with_reducible refine State.incSat_within ?_ _ _ ?_
    | with_reducible refine State.wr_within ?_ _ _ _ ?_
    | with_reducible refine Within.on ?_ fun _ _ => ?_
    | split
    | with_reducible refine Within.set_violations ?_ _ ?_
    | with_reducible refine Within.set_nextActs ?_ _ ?_
    | (with_reducible refine Within.of_eq (by with_reducible assumption) ?_)
    | (intro _))

theorem State.violation_within {M : Foot} (hM : Foot.Sub 0x1c0001c600000000000000000000000000000000000000200000000830000000000000000000000000000027f9000000000000003c00898000000000000000000000000000000000000000000000 M) {s₀ s : State} (h_s : Within M s₀ s) (d : Nat) (code : Nat) (queue : Nat) (detail : Nat)  :
    Within M s₀ (State.violation s d code queue detail) := by
  unfold State.violation
  repeat' (first
    | with_reducible assumption
    | (refine Foot.Sub.has hM ?_; decide)
    | (refine Foot.Sub.trans ?_ hM; decide)
    | (extract_lets +onlyGivenNames x; refine Within.cut (x := x) ?_ ?_; (on_goal 2 => (clear_value x; revert x; intro _ _)); (on_goal 1 => (unfold x; clear x)))
    | (extract_lets +onlyGivenNames x; refine Within.cut (x := x.1) ?_ ?_; (on_goal 2 => (clear_value x; revert x; intro _ _)); (on_goal 1 => (unfold x; clear x)))
    | (extract_lets +onlyGivenNames x; clear_value x; revert x; intro _)
    | with_reducible refine State.wr_within ?_ _ _ _ ?_
    | with_reducible refine State.inc_within ?_ _ _ ?_
    | with_reducible refine State.incSat_within ?_ _ _ ?_
    | with_reducible refine State.raise_within ?_ ?_ _ _ _
    | with_reducible refine State.countViolation_within ?_ ?_ _ _
    | with_reducible refine Within.on ?_ fun _ _ => ?_
    | split
    | (with_reducible refine Within.of_eq (by with_reducible assumption) ?_)
    | (intro _))

end Sys2Proof.Machine
end

