-- ==== Sys2Proof/Laws/GuardOpsWithin.lean ====
section
/-!
SUPPORT. What each operation of Machine/GuardOps.lean may change (`Within`), and that it keeps the state sound.
-/

namespace Sys2Proof.Machine

set_option linter.all false

theorem State.memPut_within {M : Foot} (hM : Foot.Sub 0x20000000000000000000000000000000000000000000000000000000000000000000000000000000000000000000000000000000000000000000000000000000000000000000000000 M) {s₀ s : State} (h_s : Within M s₀ s) (a : Nat) (b : Byte)  :
    Within M s₀ (State.memPut s a b) := Within.memPut h_s a b (hM.has (by decide))

theorem State.memPutBytes_within {M : Foot} (hM : Foot.Sub 0x20000000000000000000000000000000000000000000000000000000000000000000000000000000000000000000000000000000000000000000000000000000000000000000000000 M) {s₀ s : State} (h_s : Within M s₀ s) (a : Nat) (l : List Byte) :
    Within M s₀ (s.memPutBytes a l) := by
  induction l generalizing s a with
  | nil => exact h_s
  | cons b l ih => exact ih (State.memPut_within (Foot.Sub.trans (by decide) hM) h_s a b) (a + 1)

theorem State.memWrite_within {M : Foot} (hM : Foot.Sub 0xa0000000000000000000000000000000000000000000000000000000000000000000000000000000000000000000000000000000000000000000000000000000000000000000000000 M) {s₀ s : State} (h_s : Within M s₀ s) (a : Nat) (bs : List Byte)  :
    Within M s₀ (State.memWrite s a bs) := by
  unfold State.memWrite
  repeat' (first
    | with_reducible assumption
    | (refine Foot.Sub.has hM ?_; decide)
    | (refine Foot.Sub.trans ?_ hM; decide)
    | (extract_lets +onlyGivenNames x; refine Within.cut (x := x) ?_ ?_; (on_goal 2 => (clear_value x; revert x; intro _ _)); (on_goal 1 => (unfold x; clear x)))
    | (extract_lets +onlyGivenNames x; refine Within.cut (x := x.1) ?_ ?_; (on_goal 2 => (clear_value x; revert x; intro _ _)); (on_goal 1 => (unfold x; clear x)))
    | (extract_lets +onlyGivenNames x; clear_value x; revert x; intro _)
    | with_reducible refine State.memPutBytes_within ?_ ?_ _ _
    | with_reducible refine Within.ite ?_ ?_
    | with_reducible refine Within.ite_fst ?_ ?_
    | split
    | with_reducible refine Within.set_heldWrites ?_ _ ?_
    | (with_reducible refine Within.of_eq (by with_reducible assumption) ?_))

theorem State.memRelease_within {M : Foot} (hM : Foot.Sub 0xa0000000000000000000000000000000000000000000000000000000000000000000000000000000000000000000000000000000000000000000000000000000000000000000000000 M) {s₀ s : State} (h_s : Within M s₀ s) (d : Nat) (h : Nat)  :
    Within M s₀ (State.memRelease s d h) := by
  unfold State.memRelease
  repeat' (first
    | with_reducible assumption
    | (refine Foot.Sub.has hM ?_; decide)
    | (refine Foot.Sub.trans ?_ hM; decide)
    | (extract_lets +onlyGivenNames x; refine Within.cut (x := x) ?_ ?_; (on_goal 2 => (clear_value x; revert x; intro _ _)); (on_goal 1 => (unfold x; clear x)))
    | (extract_lets +onlyGivenNames x; refine Within.cut (x := x.1) ?_ ?_; (on_goal 2 => (clear_value x; revert x; intro _ _)); (on_goal 1 => (unfold x; clear x)))
    | (extract_lets +onlyGivenNames x; have _h : (_ : _) → _ := x; clear _h; subst x)
    | (extract_lets +onlyGivenNames x; clear_value x; revert x; intro _)
    | with_reducible refine State.memPutBytes_within ?_ ?_ _ _
    | with_reducible refine Within.each ?_ fun _ _ _ => ?_
    | split
    | with_reducible refine Within.set_heldWrites ?_ _ ?_
    | (with_reducible refine Within.of_eq (by with_reducible assumption) ?_))

theorem State.writeSample_within {M : Foot} (hM : Foot.Sub 0x20000000000000000000000000000000000000000000000000000000000000000000000000000000000000000000000000000000000000000000000000000000000000000000000000 M) {s₀ s : State} (h_s : Within M s₀ s) (d : Nat) (a : Nat) (base : Nat) (n : Nat) (bits : Nat) (v : Nat)  :
    Within M s₀ (State.writeSample s d a base n bits v) := by
  unfold State.writeSample
  repeat' (first
    | with_reducible assumption
    | (refine Foot.Sub.has hM ?_; decide)
    | (refine Foot.Sub.trans ?_ hM; decide)
    | (extract_lets +onlyGivenNames x; refine Within.cut (x := x) ?_ ?_; (on_goal 2 => (clear_value x; revert x; intro _ _)); (on_goal 1 => (unfold x; clear x)))
    | (extract_lets +onlyGivenNames x; refine Within.cut (x := x.1) ?_ ?_; (on_goal 2 => (clear_value x; revert x; intro _ _)); (on_goal 1 => (unfold x; clear x)))
    | (extract_lets +onlyGivenNames x; clear_value x; revert x; intro _)
    | with_reducible refine State.memPut_within ?_ ?_ _ _
    | with_reducible refine Within.foldl ?_ fun _ _ _ => ?_
    | with_reducible refine Within.foldl_fst ?_ fun _ _ _ => ?_
    | split
    | (with_reducible refine Within.of_eq (by with_reducible assumption) ?_))

theorem State.noteCorrected_within {M : Foot} (hM : Foot.Sub 0x4000000000000000000000000 M) {s₀ s : State} (h_s : Within M s₀ s) (d : Nat) (h : Nat) (n : Nat) (ks : List Nat)  :
    Within M s₀ (State.noteCorrected s d h n ks) := by
  unfold State.noteCorrected
  repeat' (first
    | with_reducible assumption
    | (refine Foot.Sub.has hM ?_; decide)
    | (refine Foot.Sub.trans ?_ hM; decide)
    | with_reducible refine State.incSat_within ?_ _ _ ?_
    | with_reducible refine Within.each ?_ fun _ _ _ => ?_
    | split
    | (with_reducible refine Within.of_eq (by with_reducible assumption) ?_))

theorem State.reading_within {M : Foot} (hM : Foot.Sub 0x40000000000000000000000000000000000000000000000000000000000000000000000000000000000000000000000000000000000000000000000004000000000000000000000000 M) {s₀ s : State} (h_s : Within M s₀ s) (d : Nat) (ws : List ReadWord) (f : State → State) (h_f : ∀ u, Within M s₀ u → Within M s₀ (f u)) :
    Within M s₀ (State.reading s d ws f) := by
  unfold State.reading
  exact Within.set_misread (h_f _ (Within.each h_s fun u w hu => Within.set_misread
    (State.noteCorrected_within (Foot.Sub.trans (by decide) hM) hu _ _ _ _) _ (hM.has (by decide)))) _ (hM.has (by decide))

end Sys2Proof.Machine
end

