-- ==== Sys2Proof/Laws/AccOpsWithin.lean ====
section
/-!
SUPPORT. What each operation of Machine/AccOps.lean may change (`Within`), and that it keeps the state sound.
-/

namespace Sys2Proof.Machine

set_option linter.all false

theorem State.setAcc_within {M : Foot} (hM : Foot.Sub 0x800000000000000000000000000000000000000000000000000000000000000000000000000000000000000000000000000000000000000000000000000000000000000000000000000 M) {s₀ s : State} (h_s : Within M s₀ s) (d : Nat) (c : Nat) (e : AccEngine)  :
    Within M s₀ (State.setAcc s d c e) := by
  unfold State.setAcc
  repeat' (first
    | with_reducible assumption
    | (refine Foot.Sub.has hM ?_; decide)
    | (refine Foot.Sub.trans ?_ hM; decide)
    | (extract_lets +onlyGivenNames x; refine Within.cut (x := x) ?_ ?_; (on_goal 2 => (clear_value x; revert x; intro _ _)); (on_goal 1 => (unfold x; clear x)))
    | (extract_lets +onlyGivenNames x; refine Within.cut (x := x.1) ?_ ?_; (on_goal 2 => (clear_value x; revert x; intro _ _)); (on_goal 1 => (unfold x; clear x)))
    | (extract_lets +onlyGivenNames x; clear_value x; revert x; intro _)
    | split
    | with_reducible refine Within.set_acc ?_ _ (by simp) ?_
    | (with_reducible refine Within.of_eq (by with_reducible assumption) ?_))

theorem State.accNote_within {M : Foot} (hM : Foot.Sub 0x18000000000000000000000000000000000000000000000000000000000000000000000000000000000 M) {s₀ s : State} (h_s : Within M s₀ s) (d : Nat) (c : Nat)  :
    Within M s₀ (State.accNote s d c) := by
  unfold State.accNote
  repeat' (first
    | with_reducible assumption
    | (refine Foot.Sub.has hM ?_; decide)
    | (refine Foot.Sub.trans ?_ hM; decide)
    | with_reducible refine State.wr_within ?_ _ _ _ ?_
    | with_reducible refine Within.ite ?_ ?_
    | with_reducible refine Within.ite_fst ?_ ?_
    | split
    | (with_reducible refine Within.of_eq (by with_reducible assumption) ?_))

theorem State.accEnter_within {M : Foot} (hM : Foot.Sub 0xc00018600000000000000000000000000000000000000200000000830000000000000000180000000000027f9000000000000000000898000000000000000008000000000000000000000000000 M) {s₀ s : State} (h_s : Within M s₀ s) (d : Nat) (c : Nat) (st : Nat) (cause : Nat)  :
    Within M s₀ (State.accEnter s d c st cause) := by
  unfold State.accEnter
  repeat' (first
    | with_reducible assumption
    | (refine Foot.Sub.has hM ?_; decide)
    | (refine Foot.Sub.trans ?_ hM; decide)
    | with_reducible refine State.accNote_within ?_ ?_ _ _
    | with_reducible refine State.wr_within ?_ _ _ _ ?_
    | with_reducible refine State.raise_within ?_ ?_ _ _ _
    | with_reducible refine Within.ite ?_ ?_
    | with_reducible refine Within.ite_fst ?_ ?_
    | split
    | (with_reducible refine Within.of_eq (by with_reducible assumption) ?_))

theorem State.syncFrozen_within {M : Foot} (hM : Foot.Sub 0x8000000000000000000000000000 M) {s₀ s : State} (h_s : Within M s₀ s) (d : Nat) (c : Nat)  :
    Within M s₀ (State.syncFrozen s d c) := by
  unfold State.syncFrozen
  repeat' (first
    | with_reducible assumption
    | (refine Foot.Sub.has hM ?_; decide)
    | (refine Foot.Sub.trans ?_ hM; decide)
    | with_reducible refine State.wrBool_within ?_ _ _ _ ?_
    | split
    | (with_reducible refine Within.of_eq (by with_reducible assumption) ?_))

theorem State.setFreeze_within {M : Foot} (hM : Foot.Sub 0x1800000000000000000000000000000000000000000000000000000a000000000000000000000000000 M) {s₀ s : State} (h_s : Within M s₀ s) (d : Nat) (c : Nat) (v : Nat)  :
    Within M s₀ (State.setFreeze s d c v) := by
  unfold State.setFreeze
  repeat' (first
    | with_reducible assumption
    | (refine Foot.Sub.has hM ?_; decide)
    | (refine Foot.Sub.trans ?_ hM; decide)
    | with_reducible refine State.accNote_within ?_ ?_ _ _
    | with_reducible refine State.wr_within ?_ _ _ _ ?_
    | with_reducible refine State.syncFrozen_within ?_ ?_ _ _
    | split
    | (with_reducible refine Within.of_eq (by with_reducible assumption) ?_))

theorem State.dropRegs_within {M : Foot} {s₀ s : State} (h_s : Within M s₀ s) (r : Reg) (d : Nat) (c : Nat) (h_r : M.testBit r.ctorIdx = true) :
    Within M s₀ (State.dropRegs s r d c) := by
  unfold State.dropRegs
  refine Within.regsFilter h_s _ fun e he => ?_
  have : e.1.reg ≠ r := fun c => by rw [c, h_r] at he; cases he
  simp [this]

theorem State.clearHist_within {M : Foot} (hM : Foot.Sub 0x2000000000000000000000000000000000020000000000000000000000000000000 M) {s₀ s : State} (h_s : Within M s₀ s) (d : Nat) (c : Nat)  :
    Within M s₀ (State.clearHist s d c) := by
  unfold State.clearHist
  repeat' (first
    | with_reducible assumption
    | (refine Foot.Sub.has hM ?_; decide)
    | (refine Foot.Sub.trans ?_ hM; decide)
    | with_reducible refine State.dropRegs_within ?_ _ _ _ ?_
    | with_reducible refine State.wr_within ?_ _ _ _ ?_
    | split
    | (with_reducible refine Within.of_eq (by with_reducible assumption) ?_))

theorem State.clearSums_within {M : Foot} (hM : Foot.Sub 0x4000000000000000000000000000000000000020000000000000000000000000000 M) {s₀ s : State} (h_s : Within M s₀ s) (d : Nat) (c : Nat)  :
    Within M s₀ (State.clearSums s d c) := by
  unfold State.clearSums
  repeat' (first
    | with_reducible assumption
    | (refine Foot.Sub.has hM ?_; decide)
    | (refine Foot.Sub.trans ?_ hM; decide)
    | with_reducible refine State.dropRegs_within ?_ _ _ _ ?_
    | with_reducible refine State.wr_within ?_ _ _ _ ?_
    | split
    | (with_reducible refine Within.of_eq (by with_reducible assumption) ?_))

theorem State.bumpCell_within {M : Foot} (hM : Foot.Sub 0xc00018600000000000000000000000000000000000000200000000830000000000000000000000000000027fb000000000000000000898000000000000000008000000000000000000000000000 M) {s₀ s : State} (h_s : Within M s₀ s) (d : Nat) (c : Nat) (x : Nat) (r : Nat)  :
    Within M s₀ (State.bumpCell s d c x r) := by
  unfold State.bumpCell
  repeat' (first
    | with_reducible assumption
    | (refine Foot.Sub.has hM ?_; decide)
    | (refine Foot.Sub.trans ?_ hM; decide)
    | (unfold State.cellField; split <;> (refine Foot.Sub.has hM ?_; decide))
    | (split <;> (refine Foot.Sub.has hM ?_; decide))
    | (extract_lets +onlyGivenNames x; refine Within.cut (x := x) ?_ ?_; (on_goal 2 => (clear_value x; revert x; intro _ _)); (on_goal 1 => (unfold x; clear x)))
    | (extract_lets +onlyGivenNames x; refine Within.cut (x := x.1) ?_ ?_; (on_goal 2 => (clear_value x; revert x; intro _ _)); (on_goal 1 => (unfold x; clear x)))
    | with_reducible refine State.stick_within ?_ ?_ _ _ _ _ _ ?_
    | with_reducible refine State.wr_within ?_ _ _ _ ?_
    | with_reducible refine Within.ite ?_ ?_
    | with_reducible refine Within.ite_fst ?_ ?_
    | split
    | (with_reducible refine Within.of_eq (by with_reducible assumption) ?_))

theorem State.bumpColumn_within {M : Foot} (hM : Foot.Sub 0xc00018600000000000000000000000000000000000000200000000830000000000000000000000000000027fb000000000000000000898000000000000000008000000000000000000000000000 M) {s₀ s : State} (h_s : Within M s₀ s) (d : Nat) (c : Nat) (e : Nat × Int × Int)  :
    Within M s₀ (State.bumpColumn s d c e) := by
  unfold State.bumpColumn
  repeat' (first
    | with_reducible assumption
    | (refine Foot.Sub.has hM ?_; decide)
    | (refine Foot.Sub.trans ?_ hM; decide)
    | (extract_lets +onlyGivenNames x; refine Within.cut (x := x) ?_ ?_; (on_goal 2 => (clear_value x; revert x; intro _ _)); (on_goal 1 => (unfold x; clear x)))
    | (extract_lets +onlyGivenNames x; refine Within.cut (x := x.1) ?_ ?_; (on_goal 2 => (clear_value x; revert x; intro _ _)); (on_goal 1 => (unfold x; clear x)))
    | (extract_lets +onlyGivenNames x; clear_value x; revert x; intro _)
    | with_reducible refine State.bumpCell_within ?_ ?_ _ _ _ _
    | with_reducible refine Within.each ?_ fun _ _ _ => ?_
    | with_reducible refine Within.ite ?_ ?_
    | with_reducible refine Within.ite_fst ?_ ?_
    | split
    | (with_reducible refine Within.of_eq (by with_reducible assumption) ?_))

theorem State.addPoints_within {M : Foot} (hM : Foot.Sub 0x4000000000000000000000000000000000000000000000000000000000000000000 M) {s₀ s : State} (h_s : Within M s₀ s) (d : Nat) (c : Nat) (points : List Int)  :
    Within M s₀ (State.addPoints s d c points) := by
  unfold State.addPoints
  repeat' (first
    | with_reducible assumption
    | (refine Foot.Sub.has hM ?_; decide)
    | (refine Foot.Sub.trans ?_ hM; decide)
    | with_reducible refine State.wr_within ?_ _ _ _ ?_
    | with_reducible refine Within.each ?_ fun _ _ _ => ?_
    | split
    | (with_reducible refine Within.of_eq (by with_reducible assumption) ?_))

theorem State.accHistDone_within {M : Foot} (hM : Foot.Sub 0xc00018608000000000000000000000000000000000000200000000830000000000000000000000000000027fb000000000000000000898000000000000020008000000000000000000000000000 M) {s₀ s : State} (h_s : Within M s₀ s) (d : Nat) (c : Nat)  :
    Within M s₀ (State.accHistDone s d c) := by
  unfold State.accHistDone
  repeat' (first
    | with_reducible assumption
    | (refine Foot.Sub.has hM ?_; decide)
    | (refine Foot.Sub.trans ?_ hM; decide)
    | (extract_lets +onlyGivenNames x; refine Within.cut (x := x) ?_ ?_; (on_goal 2 => (clear_value x; revert x; intro _ _)); (on_goal 1 => (unfold x; clear x)))
    | (extract_lets +onlyGivenNames x; refine Within.cut (x := x.1) ?_ ?_; (on_goal 2 => (clear_value x; revert x; intro _ _)); (on_goal 1 => (unfold x; clear x)))
    | (extract_lets +onlyGivenNames x; clear_value x; revert x; intro _)
    | with_reducible refine State.setAcc_within ?_ ?_ _ _ _
    | with_reducible refine State.bumpColumn_within ?_ ?_ _ _ _
    | with_reducible refine State.inc_within ?_ _ _ ?_
    | with_reducible refine Within.on ?_ fun _ _ => ?_
    | with_reducible refine Within.each ?_ fun _ _ _ => ?_
    | split
    | (with_reducible refine Within.of_eq (by with_reducible assumption) ?_)
    | (intro _))

theorem State.accAvgDone_within {M : Foot} (hM : Foot.Sub 0xc00018608000000000000000000000000000000000000200000000830000000000000000180000000000027fd000000000000000000898000000000000010068000000000000000000000000000 M) {s₀ s : State} (h_s : Within M s₀ s) (d : Nat) (c : Nat)  :
    Within M s₀ (State.accAvgDone s d c) := by
  unfold State.accAvgDone
  repeat' (first
    | with_reducible assumption
    | (refine Foot.Sub.has hM ?_; decide)
    | (refine Foot.Sub.trans ?_ hM; decide)
    | (extract_lets +onlyGivenNames x; refine Within.cut (x := x) ?_ ?_; (on_goal 2 => (clear_value x; revert x; intro _ _)); (on_goal 1 => (unfold x; clear x)))
    | (extract_lets +onlyGivenNames x; refine Within.cut (x := x.1) ?_ ?_; (on_goal 2 => (clear_value x; revert x; intro _ _)); (on_goal 1 => (unfold x; clear x)))
    | (extract_lets +onlyGivenNames x; clear_value x; revert x; intro _)
    | with_reducible refine State.setAcc_within ?_ ?_ _ _ _
    | with_reducible refine State.count_within ?_ ?_ _ _ _ ?_
    | with_reducible refine State.addPoints_within ?_ ?_ _ _ _
    | with_reducible refine State.inc_within ?_ _ _ ?_
    | with_reducible refine State.accEnter_within ?_ ?_ _ _ _ _
    | with_reducible refine State.raise_within ?_ ?_ _ _ _
    | with_reducible refine Within.on ?_ fun _ _ => ?_
    | with_reducible refine Within.ite ?_ ?_
    | with_reducible refine Within.ite_fst ?_ ?_
    | split
    | (with_reducible refine Within.of_eq (by with_reducible assumption) ?_)
    | (intro _))

theorem State.accIdle_within {M : Foot} (hM : Foot.Sub 0xc00018608400000000000000000000000000000000000200000000830000000000000000180000000000027f9000000000000000000898000000000000000008004000000000000000000000000 M) {s₀ s : State} (h_s : Within M s₀ s) (d : Nat) (c : Nat) (cause : Nat)  :
    Within M s₀ (State.accIdle s d c cause) := by
  unfold State.accIdle
  repeat' (first
    | with_reducible assumption
    | (refine Foot.Sub.has hM ?_; decide)
    | (refine Foot.Sub.trans ?_ hM; decide)
    | (extract_lets +onlyGivenNames x; refine Within.cut (x := x) ?_ ?_; (on_goal 2 => (clear_value x; revert x; intro _ _)); (on_goal 1 => (unfold x; clear x)))
    | (extract_lets +onlyGivenNames x; refine Within.cut (x := x.1) ?_ ?_; (on_goal 2 => (clear_value x; revert x; intro _ _)); (on_goal 1 => (unfold x; clear x)))
    | (extract_lets +onlyGivenNames x; clear_value x; revert x; intro _)
    | with_reducible refine State.setAcc_within ?_ ?_ _ _ _
    | with_reducible refine State.reading_within ?_ ?_ _ _ _ ?_
    | with_reducible refine State.accEnter_within ?_ ?_ _ _ _ _
    | with_reducible refine State.syncFrozen_within ?_ ?_ _ _
    | split
    | (with_reducible refine Within.of_eq (by with_reducible assumption) ?_)
    | (intro _))

theorem State.accOver_within {M : Foot} (hM : Foot.Sub 0xc00018608400000000000000000000000000000000000200000000830000000000000000180000000000027f9000000000000000000898000000000000000008004000000000000000000000000 M) {s₀ s : State} (h_s : Within M s₀ s) (d : Nat) (c : Nat)  :
    Within M s₀ (State.accOver s d c) := by
  unfold State.accOver
  repeat' (first
    | with_reducible assumption
    | (refine Foot.Sub.has hM ?_; decide)
    | (refine Foot.Sub.trans ?_ hM; decide)
    | (extract_lets +onlyGivenNames x; refine Within.cut (x := x) ?_ ?_; (on_goal 2 => (clear_value x; revert x; intro _ _)); (on_goal 1 => (unfold x; clear x)))
    | (extract_lets +onlyGivenNames x; refine Within.cut (x := x.1) ?_ ?_; (on_goal 2 => (clear_value x; revert x; intro _ _)); (on_goal 1 => (unfold x; clear x)))
    | (extract_lets +onlyGivenNames x; clear_value x; revert x; intro _)
    | with_reducible refine State.setAcc_within ?_ ?_ _ _ _
    | with_reducible refine State.syncFrozen_within ?_ ?_ _ _
    | with_reducible refine State.accIdle_within ?_ ?_ _ _ _
    | with_reducible refine Within.ite ?_ ?_
    | with_reducible refine Within.ite_fst ?_ ?_
    | split
    | (with_reducible refine Within.of_eq (by with_reducible assumption) ?_))

theorem State.accFinish_within {M : Foot} (hM : Foot.Sub 0xc00018608400000000000000000000000000000000000200000000830000000000000000180000000000027ff000000000000000000898000000000000030068004000000000000000000000000 M) {s₀ s : State} (h_s : Within M s₀ s) (d : Nat) (c : Nat)  :
    Within M s₀ (State.accFinish s d c) := by
  unfold State.accFinish
  repeat' (first
    | with_reducible assumption
    | (refine Foot.Sub.has hM ?_; decide)
    | (refine Foot.Sub.trans ?_ hM; decide)
    | (extract_lets +onlyGivenNames x; refine Within.cut (x := x) ?_ ?_; (on_goal 2 => (clear_value x; revert x; intro _ _)); (on_goal 1 => (unfold x; clear x)))
    | (extract_lets +onlyGivenNames x; refine Within.cut (x := x.1) ?_ ?_; (on_goal 2 => (clear_value x; revert x; intro _ _)); (on_goal 1 => (unfold x; clear x)))
    | (extract_lets +onlyGivenNames x; clear_value x; revert x; intro _)
    | with_reducible refine State.accHistDone_within ?_ ?_ _ _
    | with_reducible refine State.accAvgDone_within ?_ ?_ _ _
    | with_reducible refine State.accOver_within ?_ ?_ _ _
    | with_reducible refine Within.on ?_ fun _ _ => ?_
    | split
    | (with_reducible refine Within.of_eq (by with_reducible assumption) ?_)
    | (intro _))

theorem State.accStop_within {M : Foot} (hM : Foot.Sub 0xc00018608400000000000000000000000000000000000200000000830000000000000000180000000000027f9000000000000000000898000000000000000008004000000000000000000000000 M) {s₀ s : State} (h_s : Within M s₀ s) (d : Nat) (c : Nat)  :
    Within M s₀ (State.accStop s d c) := by
  unfold State.accStop
  repeat' (first
    | with_reducible assumption
    | (refine Foot.Sub.has hM ?_; decide)
    | (refine Foot.Sub.trans ?_ hM; decide)
    | (extract_lets +onlyGivenNames x; refine Within.cut (x := x) ?_ ?_; (on_goal 2 => (clear_value x; revert x; intro _ _)); (on_goal 1 => (unfold x; clear x)))
    | (extract_lets +onlyGivenNames x; refine Within.cut (x := x.1) ?_ ?_; (on_goal 2 => (clear_value x; revert x; intro _ _)); (on_goal 1 => (unfold x; clear x)))
    | (extract_lets +onlyGivenNames x; clear_value x; revert x; intro _)
    | with_reducible refine State.accIdle_within ?_ ?_ _ _ _
    | with_reducible refine State.setAcc_within ?_ ?_ _ _ _
    | with_reducible refine Within.ite ?_ ?_
    | with_reducible refine Within.ite_fst ?_ ?_
    | split
    | (with_reducible refine Within.of_eq (by with_reducible assumption) ?_))

theorem State.accDomainOff_within {M : Foot} (hM : Foot.Sub 0x800000000000000000000000000000000000000000000000000000000000000000000000000000006000000000000000000000000000000000020000000000000000000000000000000 M) {s₀ s : State} (h_s : Within M s₀ s) (d : Nat) (c : Nat)  :
    Within M s₀ (State.accDomainOff s d c) := by
  unfold State.accDomainOff
  repeat' (first
    | with_reducible assumption
    | (refine Foot.Sub.has hM ?_; decide)
    | (refine Foot.Sub.trans ?_ hM; decide)
    | with_reducible refine State.setAcc_within ?_ ?_ _ _ _
    | with_reducible refine State.clearHist_within ?_ ?_ _ _
    | with_reducible refine State.dropRegs_within ?_ _ _ _ ?_
    | split
    | (with_reducible refine Within.of_eq (by with_reducible assumption) ?_))

theorem State.accHalt_within {M : Foot} (hM : Foot.Sub 0xc00018608400000000000000000000000000000000000200000000830000000000000000180000000000027ff000000000000000000898000000000000030068004000000000000000000000000 M) {s₀ s : State} (h_s : Within M s₀ s) (d : Nat) (c : Nat) (cause : Nat)  :
    Within M s₀ (State.accHalt s d c cause) := by
  unfold State.accHalt
  repeat' (first
    | with_reducible assumption
    | (refine Foot.Sub.has hM ?_; decide)
    | (refine Foot.Sub.trans ?_ hM; decide)
    | (extract_lets +onlyGivenNames x; refine Within.cut (x := x) ?_ ?_; (on_goal 2 => (clear_value x; revert x; intro _ _)); (on_goal 1 => (unfold x; clear x)))
    | (extract_lets +onlyGivenNames x; refine Within.cut (x := x.1) ?_ ?_; (on_goal 2 => (clear_value x; revert x; intro _ _)); (on_goal 1 => (unfold x; clear x)))
    | (extract_lets +onlyGivenNames x; clear_value x; revert x; intro _)
    | with_reducible refine State.accHistDone_within ?_ ?_ _ _
    | with_reducible refine State.accAvgDone_within ?_ ?_ _ _
    | with_reducible refine State.accOver_within ?_ ?_ _ _
    | with_reducible refine State.accIdle_within ?_ ?_ _ _ _
    | with_reducible refine State.accDomainOff_within ?_ ?_ _ _
    | with_reducible refine Within.on ?_ fun _ _ => ?_
    | split
    | (with_reducible refine Within.of_eq (by with_reducible assumption) ?_)
    | (intro _))

theorem State.accOffer_within {M : Foot} (hM : Foot.Sub 0x40000000800000000000000000000000000000000000000000000000000000000000000000000000000000000000000000000000000000000000000000040000000000000000000000000000000 M) {s₀ s : State} (h_s : Within M s₀ s) (d : Nat) (c : Nat) (entry : AccEntry) (flags : Nat)  :
    Within M s₀ (State.accOffer s d c entry flags) := by
  unfold State.accOffer
  repeat' (first
    | with_reducible assumption
    | (refine Foot.Sub.has hM ?_; decide)
    | (refine Foot.Sub.trans ?_ hM; decide)
    | (extract_lets +onlyGivenNames x; refine Within.cut (x := x) ?_ ?_; (on_goal 2 => (clear_value x; revert x; intro _ _)); (on_goal 1 => (unfold x; clear x)))
    | (extract_lets +onlyGivenNames x; refine Within.cut (x := x.1) ?_ ?_; (on_goal 2 => (clear_value x; revert x; intro _ _)); (on_goal 1 => (unfold x; clear x)))
    | (extract_lets +onlyGivenNames x; clear_value x; revert x; intro _)
    | with_reducible refine State.count_within ?_ ?_ _ _ _ ?_
    | with_reducible refine State.setAcc_within ?_ ?_ _ _ _
    | with_reducible refine Within.ite ?_ ?_
    | with_reducible refine Within.ite_fst ?_ ?_
    | split
    | (with_reducible refine Within.of_eq (by with_reducible assumption) ?_))

theorem State.accTake_within {M : Foot} (hM : Foot.Sub 0x840000000000000000000000000000000000000000000000000000000000000000000000000000000000000000000000000000000000000000000000004000000000000000000000000 M) {s₀ s : State} (h_s : Within M s₀ s) (d : Nat) (c : Nat)  :
    Within M s₀ (State.accTake s d c) := by
  unfold State.accTake
  repeat' (first
    | with_reducible assumption
    | (refine Foot.Sub.has hM ?_; decide)
    | (refine Foot.Sub.trans ?_ hM; decide)
    | (extract_lets +onlyGivenNames x; refine Within.cut (x := x) ?_ ?_; (on_goal 2 => (clear_value x; revert x; intro _ _)); (on_goal 1 => (unfold x; clear x)))
    | (extract_lets +onlyGivenNames x; refine Within.cut (x := x.1) ?_ ?_; (on_goal 2 => (clear_value x; revert x; intro _ _)); (on_goal 1 => (unfold x; clear x)))
    | (extract_lets +onlyGivenNames x; clear_value x; revert x; intro _)
    | with_reducible refine State.setAcc_within ?_ ?_ _ _ _
    | with_reducible refine State.reading_within ?_ ?_ _ _ _ ?_
    | split
    | (with_reducible refine Within.of_eq (by with_reducible assumption) ?_)
    | (intro _))

theorem State.accAgain_within {M : Foot} (hM : Foot.Sub 0x840000000000000000000000000000000000000000000000000000000000000000000000000000000000000000000000000000000000000000000000004000000000000000000000000 M) {s₀ s : State} (h_s : Within M s₀ s) (d : Nat) (c : Nat)  :
    Within M s₀ (State.accAgain s d c) := by
  unfold State.accAgain
  repeat' (first
    | with_reducible assumption
    | (refine Foot.Sub.has hM ?_; decide)
    | (refine Foot.Sub.trans ?_ hM; decide)
    | (extract_lets +onlyGivenNames x; refine Within.cut (x := x) ?_ ?_; (on_goal 2 => (clear_value x; revert x; intro _ _)); (on_goal 1 => (unfold x; clear x)))
    | (extract_lets +onlyGivenNames x; refine Within.cut (x := x.1) ?_ ?_; (on_goal 2 => (clear_value x; revert x; intro _ _)); (on_goal 1 => (unfold x; clear x)))
    | (extract_lets +onlyGivenNames x; clear_value x; revert x; intro _)
    | with_reducible refine State.reading_within ?_ ?_ _ _ _ ?_
    | with_reducible refine State.setAcc_within ?_ ?_ _ _ _
    | with_reducible refine Within.ite ?_ ?_
    | with_reducible refine Within.ite_fst ?_ ?_
    | split
    | (with_reducible refine Within.of_eq (by with_reducible assumption) ?_)
    | (intro _))

theorem State.accBegin_within {M : Foot} (hM : Foot.Sub 0x840000000000000000000000000000000000000000000000000000000000000000000000000000000000000000000000000000000000000000000008004000000000000000000000000 M) {s₀ s : State} (h_s : Within M s₀ s) (d : Nat) (c : Nat) (k : AccCommit)  :
    Within M s₀ (State.accBegin s d c k) := by
  unfold State.accBegin
  repeat' (first
    | with_reducible assumption
    | (refine Foot.Sub.has hM ?_; decide)
    | (refine Foot.Sub.trans ?_ hM; decide)
    | (extract_lets +onlyGivenNames x; refine Within.cut (x := x) ?_ ?_; (on_goal 2 => (clear_value x; revert x; intro _ _)); (on_goal 1 => (unfold x; clear x)))
    | (extract_lets +onlyGivenNames x; refine Within.cut (x := x.1) ?_ ?_; (on_goal 2 => (clear_value x; revert x; intro _ _)); (on_goal 1 => (unfold x; clear x)))
    | (extract_lets +onlyGivenNames x; clear_value x; revert x; intro _)
    | with_reducible refine State.setAcc_within ?_ ?_ _ _ _
    | with_reducible refine State.reading_within ?_ ?_ _ _ _ ?_
    | with_reducible refine State.syncFrozen_within ?_ ?_ _ _
    | with_reducible refine Within.foldl ?_ fun _ _ _ => ?_
    | with_reducible refine Within.foldl_fst ?_ fun _ _ _ => ?_
    | with_reducible refine Within.ite ?_ ?_
    | with_reducible refine Within.ite_fst ?_ ?_
    | split
    | (with_reducible refine Within.of_eq (by with_reducible assumption) ?_)
    | (intro _))

theorem State.accDecide_within {M : Foot} (hM : Foot.Sub 0xc00018608400000000000000000000000000000000000200000000830000000000000000000000000000027f9000000000000000000898000000000000040008004000000000000000000000000 M) {s₀ s : State} (h_s : Within M s₀ s) (d : Nat) (c : Nat)  :
    Within M s₀ (State.accDecide s d c) := by
  unfold State.accDecide
  repeat' (first
    | with_reducible assumption
    | (refine Foot.Sub.has hM ?_; decide)
    | (refine Foot.Sub.trans ?_ hM; decide)
    | (extract_lets +onlyGivenNames x; refine Within.cut (x := x) ?_ ?_; (on_goal 2 => (clear_value x; revert x; intro _ _)); (on_goal 1 => (unfold x; clear x)))
    | (extract_lets +onlyGivenNames x; refine Within.cut (x := x.1) ?_ ?_; (on_goal 2 => (clear_value x; revert x; intro _ _)); (on_goal 1 => (unfold x; clear x)))
    | (extract_lets +onlyGivenNames x; clear_value x; revert x; intro _)
    | with_reducible refine State.reading_within ?_ ?_ _ _ _ ?_
    | with_reducible refine State.setAcc_within ?_ ?_ _ _ _
    | with_reducible refine State.count_within ?_ ?_ _ _ _ ?_
    | with_reducible refine State.raise_within ?_ ?_ _ _ _
    | with_reducible refine State.accBegin_within ?_ ?_ _ _ _
    | with_reducible refine Within.ite ?_ ?_
    | with_reducible refine Within.ite_fst ?_ ?_
    | split
    | (with_reducible refine Within.of_eq (by with_reducible assumption) ?_)
    | (intro _))

theorem State.accStart_within {M : Foot} (hM : Foot.Sub 0xc000186084000000000000000000000000000000000002000000008300000000000000003c0000000000027ff000000000000000000898000000000000020068004000000000000000000000000 M) {s₀ s : State} (h_s : Within M s₀ s) (d : Nat) (c : Nat)  :
    Within M s₀ (State.accStart s d c) := by
  unfold State.accStart
  repeat' (first
    | with_reducible assumption
    | (refine Foot.Sub.has hM ?_; decide)
    | (refine Foot.Sub.trans ?_ hM; decide)
    | (extract_lets +onlyGivenNames x; refine Within.cut (x := x) ?_ ?_; (on_goal 2 => (clear_value x; revert x; intro _ _)); (on_goal 1 => (unfold x; clear x)))
    | (extract_lets +onlyGivenNames x; refine Within.cut (x := x.1) ?_ ?_; (on_goal 2 => (clear_value x; revert x; intro _ _)); (on_goal 1 => (unfold x; clear x)))
    | (extract_lets +onlyGivenNames x; clear_value x; revert x; intro _)
    | with_reducible refine State.setAcc_within ?_ ?_ _ _ _
    | with_reducible refine State.reading_within ?_ ?_ _ _ _ ?_
    | with_reducible refine State.clearSums_within ?_ ?_ _ _
    | with_reducible refine State.clearHist_within ?_ ?_ _ _
    | with_reducible refine State.wr_within ?_ _ _ _ ?_
    | with_reducible refine State.accEnter_within ?_ ?_ _ _ _ _
    | with_reducible refine State.syncFrozen_within ?_ ?_ _ _
    | with_reducible refine Within.on ?_ fun _ _ => ?_
    | split
    | (with_reducible refine Within.of_eq (by with_reducible assumption) ?_)
    | (intro _))

theorem State.accRelease_within {M : Foot} (hM : Foot.Sub 0xc00018608400000000000000000000000000000000000200000000830000000000000000180000000000027fd000000000000000000898000000000000000028004000000000000000000000000 M) {s₀ s : State} (h_s : Within M s₀ s) (d : Nat) (c : Nat)  :
    Within M s₀ (State.accRelease s d c) := by
  unfold State.accRelease
  repeat' (first
    | with_reducible assumption
    | (refine Foot.Sub.has hM ?_; decide)
    | (refine Foot.Sub.trans ?_ hM; decide)
    | with_reducible refine State.stick_within ?_ ?_ _ _ _ _ _ ?_
    | with_reducible refine State.clearSums_within ?_ ?_ _ _
    | with_reducible refine State.accEnter_within ?_ ?_ _ _ _ _
    | with_reducible refine State.accIdle_within ?_ ?_ _ _ _
    | with_reducible refine Within.ite ?_ ?_
    | with_reducible refine Within.ite_fst ?_ ?_
    | split
    | (with_reducible refine Within.of_eq (by with_reducible assumption) ?_))

theorem State.accPass_within {M : Foot} (hM : Foot.Sub 0x800000000000000000000000000000000000000000000000000000000000000000000000000000000000000000000000000000000000000000000000000000000000000000000000000 M) {s₀ s : State} (h_s : Within M s₀ s) (d : Nat) (c : Nat) (shift : Option Nat)  :
    Within M s₀ (State.accPass s d c shift) := by
  unfold State.accPass
  repeat' (first
    | with_reducible assumption
    | (refine Foot.Sub.has hM ?_; decide)
    | (refine Foot.Sub.trans ?_ hM; decide)
    | (extract_lets +onlyGivenNames x; refine Within.cut (x := x) ?_ ?_; (on_goal 2 => (clear_value x; revert x; intro _ _)); (on_goal 1 => (unfold x; clear x)))
    | (extract_lets +onlyGivenNames x; refine Within.cut (x := x.1) ?_ ?_; (on_goal 2 => (clear_value x; revert x; intro _ _)); (on_goal 1 => (unfold x; clear x)))
    | (extract_lets +onlyGivenNames x; clear_value x; revert x; intro _)
    | with_reducible refine State.setAcc_within ?_ ?_ _ _ _
    | with_reducible refine Within.ite ?_ ?_
    | with_reducible refine Within.ite_fst ?_ ?_
    | split
    | (with_reducible refine Within.of_eq (by with_reducible assumption) ?_))

theorem State.accClear_within {M : Foot} (hM : Foot.Sub 0x800000000000000000000000000000000000000000000000000000000000000000000000000000000000000000000000000000000000000000000000000000000000000000000000000 M) {s₀ s : State} (h_s : Within M s₀ s) (d : Nat) (c : Nat)  :
    Within M s₀ (State.accClear s d c) := by
  unfold State.accClear
  repeat' (first
    | with_reducible assumption
    | (refine Foot.Sub.has hM ?_; decide)
    | (refine Foot.Sub.trans ?_ hM; decide)
    | with_reducible refine State.accPass_within ?_ ?_ _ _ _
    | with_reducible refine Within.on ?_ fun _ _ => ?_
    | split
    | (with_reducible refine Within.of_eq (by with_reducible assumption) ?_)
    | (intro _))

theorem State.decayHist_within {M : Foot} (hM : Foot.Sub 0x2000000000000000000000000000000000000000000000000000000000000000000 M) {s₀ s : State} (h_s : Within M s₀ s) (d c n : Nat) :
    Within M s₀ (State.decayHist s d c n) := by
  unfold State.decayHist
  refine Within.each_mem h_s fun u e he hu => Within.regsPut hu _ _ ?_
  have : e.1.reg = .HIST := by
    have := (List.mem_filter.1 he).2
    simp only [Bool.and_eq_true, beq_iff_eq] at this
    exact this.1
  rw [this]
  exact hM.has (by decide)

theorem State.accPassDone_within {M : Foot} (hM : Foot.Sub 0xc00018608400000000000000000000000000000000000200000000830000000000000000180000000000027fb000000000000000000898000000000000020008004000000000000000000000000 M) {s₀ s : State} (h_s : Within M s₀ s) (d : Nat) (c : Nat)  :
    Within M s₀ (State.accPassDone s d c) := by
  unfold State.accPassDone
  repeat' (first
    | with_reducible assumption
    | (refine Foot.Sub.has hM ?_; decide)
    | (refine Foot.Sub.trans ?_ hM; decide)
    | (extract_lets +onlyGivenNames x; refine Within.cut (x := x) ?_ ?_; (on_goal 2 => (clear_value x; revert x; intro _ _)); (on_goal 1 => (unfold x; clear x)))
    | (extract_lets +onlyGivenNames x; refine Within.cut (x := x.1) ?_ ?_; (on_goal 2 => (clear_value x; revert x; intro _ _)); (on_goal 1 => (unfold x; clear x)))
    | (extract_lets +onlyGivenNames x; clear_value x; revert x; intro _)
    | with_reducible refine State.accHistDone_within ?_ ?_ _ _
    | with_reducible refine State.setAcc_within ?_ ?_ _ _ _
    | with_reducible refine State.accOver_within ?_ ?_ _ _
    | with_reducible refine State.clearHist_within ?_ ?_ _ _
    | with_reducible refine State.decayHist_within ?_ ?_ _ _ _
    | with_reducible refine Within.on ?_ fun _ _ => ?_
    | with_reducible refine Within.ite ?_ ?_
    | with_reducible refine Within.ite_fst ?_ ?_
    | split
    | (with_reducible refine Within.of_eq (by with_reducible assumption) ?_)
    | (intro _))

theorem State.accTick_within {M : Foot} (hM : Foot.Sub 0xc00018608400000000000000000000000000000000000200000000830000000000000000180000000000027fb000000000000000000898000000000000060008004000000000000000000000000 M) {s₀ s : State} (h_s : Within M s₀ s) (d : Nat) (c : Nat)  :
    Within M s₀ (State.accTick s d c) := by
  unfold State.accTick
  repeat' (first
    | with_reducible assumption
    | (refine Foot.Sub.has hM ?_; decide)
    | (refine Foot.Sub.trans ?_ hM; decide)
    | with_reducible refine State.accAgain_within ?_ ?_ _ _
    | with_reducible refine State.accPassDone_within ?_ ?_ _ _
    | with_reducible refine State.accDecide_within ?_ ?_ _ _
    | split
    | (with_reducible refine Within.of_eq (by with_reducible assumption) ?_))

theorem State.decayBoundary_within {M : Foot} (hM : Foot.Sub 0x40000000800000000000000000000000000000000000000000000000000000000000000024000000000000000000000000000000000000000000000000000008000000000000000000000000000 M) {s₀ s : State} (h_s : Within M s₀ s) (d : Nat) (c : Nat)  :
    Within M s₀ (State.decayBoundary s d c) := by
  unfold State.decayBoundary
  repeat' (first
    | with_reducible assumption
    | (refine Foot.Sub.has hM ?_; decide)
    | (refine Foot.Sub.trans ?_ hM; decide)
    | (extract_lets +onlyGivenNames x; refine Within.cut (x := x) ?_ ?_; (on_goal 2 => (clear_value x; revert x; intro _ _)); (on_goal 1 => (unfold x; clear x)))
    | (extract_lets +onlyGivenNames x; refine Within.cut (x := x.1) ?_ ?_; (on_goal 2 => (clear_value x; revert x; intro _ _)); (on_goal 1 => (unfold x; clear x)))
    | (extract_lets +onlyGivenNames x; clear_value x; revert x; intro _)
    | with_reducible refine State.wr_within ?_ _ _ _ ?_
    | with_reducible refine State.flag_within ?_ ?_ _ _ ?_
    | with_reducible refine State.accPass_within ?_ ?_ _ _ _
    | with_reducible refine Within.ite ?_ ?_
    | with_reducible refine Within.ite_fst ?_ ?_
    | split
    | (with_reducible refine Within.of_eq (by with_reducible assumption) ?_))

theorem State.writeAccCtrl_within {M : Foot} (hM : Foot.Sub 0xc00018600000000000000000000000000000000000000200000000830000000000000000180000000000027f900000000000000000089800000000000000000a000000000000000000000000000 M) {s₀ s : State} (h_s : Within M s₀ s) (d : Nat) (c : Nat) (v : Nat)  :
    Within M s₀ (State.writeAccCtrl d c v s).1 := by
  unfold State.writeAccCtrl
  repeat' (first
    | with_reducible assumption
    | (refine Foot.Sub.has hM ?_; decide)
    | (refine Foot.Sub.trans ?_ hM; decide)
    | (split <;> (refine Foot.Sub.has hM ?_; decide))
    | (extract_lets +onlyGivenNames x; refine Within.cut (x := x) ?_ ?_; (on_goal 2 => (clear_value x; revert x; intro _ _)); (on_goal 1 => (unfold x; clear x)))
    | (extract_lets +onlyGivenNames x; refine Within.cut (x := x.1) ?_ ?_; (on_goal 2 => (clear_value x; revert x; intro _ _)); (on_goal 1 => (unfold x; clear x)))
    | (extract_lets +onlyGivenNames x; clear_value x; revert x; intro _)
    | with_reducible refine State.setFreeze_within ?_ ?_ _ _ _
    | with_reducible refine State.stick_within ?_ ?_ _ _ _ _ _ ?_
    | with_reducible refine State.wr_within ?_ _ _ _ ?_
    | with_reducible refine Within.ite ?_ ?_
    | with_reducible refine Within.ite_fst ?_ ?_
    | split
    | (with_reducible refine Within.of_eq (by with_reducible assumption) ?_))

theorem State.writeAccCfg_within {M : Foot} (hM : Foot.Sub 0xc00018600000000000000000000000000000000000000200000000830000000000000000000000000000027f9000000000000000000898000000000000000008000000000000000000000000000 M) {s₀ s : State} (h_s : Within M s₀ s) (d : Nat) (c : Nat) (fs : List (Fld × Nat)) (h_fs : ∀ e ∈ fs, M.testBit e.1.reg.ctorIdx = true) :
    Within M s₀ (State.writeAccCfg d c fs s).1 := by
  unfold State.writeAccCfg
  repeat' (first
    | with_reducible assumption
    | (refine h_fs _ ?_; assumption)
    | with_reducible refine Within.each_mem ?_ fun _ _ _ _ => ?_
    | with_reducible refine Within.foldl_mem ?_ fun _ _ _ _ => ?_
    | (refine Foot.Sub.has hM ?_; decide)
    | (refine Foot.Sub.trans ?_ hM; decide)
    | with_reducible refine State.stick_within ?_ ?_ _ _ _ _ _ ?_
    | with_reducible refine State.wr_within ?_ _ _ _ ?_
    | with_reducible refine Within.each ?_ fun _ _ _ => ?_
    | with_reducible refine Within.ite ?_ ?_
    | with_reducible refine Within.ite_fst ?_ ?_
    | split
    | (with_reducible refine Within.of_eq (by with_reducible assumption) ?_))

end Sys2Proof.Machine
end

