-- ==== Sys2Proof/Laws/AccumulateWithin.lean ====
section
/-!
SUPPORT. What each operation of Machine/Accumulate.lean may change (`Within`), and that it keeps the state sound.
-/

namespace Sys2Proof.Machine

set_option linter.all false

theorem State.accBad_within {M : Foot} (hM : Foot.Sub 0x800000000000000000000000000000000000000000000000000000000000000000000000000000000000000000000000000000000000000000000000000000000000000000000000000 M) {s₀ s : State} (h_s : Within M s₀ s) (d : Nat) (c : Nat) (words : List ReadWord)  :
    Within M s₀ (State.accBad s d c words) := by
  unfold State.accBad
  repeat' (first
    | with_reducible assumption
    | (refine Foot.Sub.has hM ?_; decide)
    | (refine Foot.Sub.trans ?_ hM; decide)
    | (extract_lets +onlyGivenNames x; refine Within.cut (x := x) ?_ ?_; (on_goal 2 => (clear_value x; revert x; intro _ _)); (on_goal 1 => (unfold x; clear x)))
    | (extract_lets +onlyGivenNames x; refine Within.cut (x := x.1) ?_ ?_; (on_goal 2 => (clear_value x; revert x; intro _ _)); (on_goal 1 => (unfold x; clear x)))
    | (extract_lets +onlyGivenNames x; clear_value x; revert x; intro _)
    | with_reducible refine State.setAcc_within ?_ ?_ _ _ _
    | with_reducible refine Within.ite ?_ ?_
    | with_reducible refine Within.ite_fst ?_ ?_
    | split
    | (with_reducible refine Within.of_eq (by with_reducible assumption) ?_))

end Sys2Proof.Machine
end

