-- ==== Sys2Proof/Laws/CondOpsWithin.lean ====
section
/-!
SUPPORT. What each operation of Machine/CondOps.lean may change (`Within`), and that it keeps the state sound.
-/

namespace Sys2Proof.Machine

set_option linter.all false

theorem State.setAcq_within {M : Foot} (hM : Foot.Sub 0x100000000000000000000000000000000000000000000000000000000000000000000000000000000000000000000000000000000000000000000000000000000000000000000000000 M) {s₀ s : State} (h_s : Within M s₀ s) (d : Nat) (a : Nat) (x : Acq)  :
    Within M s₀ (State.setAcq s d a x) := by
  unfold State.setAcq
  repeat' (first
    | with_reducible assumption
    | (refine Foot.Sub.has hM ?_; decide)
    | (refine Foot.Sub.trans ?_ hM; decide)
    | (extract_lets +onlyGivenNames x; refine Within.cut (x := x) ?_ ?_; (on_goal 2 => (clear_value x; revert x; intro _ _)); (on_goal 1 => (unfold x; clear x)))
    | (extract_lets +onlyGivenNames x; refine Within.cut (x := x.1) ?_ ?_; (on_goal 2 => (clear_value x; revert x; intro _ _)); (on_goal 1 => (unfold x; clear x)))
    | (extract_lets +onlyGivenNames x; clear_value x; revert x; intro _)
    | split
    | with_reducible refine Within.set_acq ?_ _ (by simp) ?_
    | (with_reducible refine Within.of_eq (by with_reducible assumption) ?_))

theorem State.countBlock_within {M : Foot} (hM : Foot.Sub 0xc80018600000000000000000000000000000000000000200000000830000000000000000000000000000027f90000000000000000008980000000000000000000000000000000a18c0000a00000 M) {s₀ s : State} (h_s : Within M s₀ s) (d : Nat) (c : Nat) (stage : Nat) (block : Nat)  :
    Within M s₀ (State.countBlock s d c stage block) := by
  unfold State.countBlock
  repeat' (first
    | with_reducible assumption
    | (refine Foot.Sub.has hM ?_; decide)
    | (refine Foot.Sub.trans ?_ hM; decide)
    | (extract_lets +onlyGivenNames x; refine Within.cut (x := x) ?_ ?_; (on_goal 2 => (clear_value x; revert x; intro _ _)); (on_goal 1 => (unfold x; clear x)))
    | (extract_lets +onlyGivenNames x; refine Within.cut (x := x.1) ?_ ?_; (on_goal 2 => (clear_value x; revert x; intro _ _)); (on_goal 1 => (unfold x; clear x)))
    | (extract_lets +onlyGivenNames x; have _h : (_ : _) → _ := x; clear _h; subst x)
    | (extract_lets +onlyGivenNames x; clear_value x; revert x; intro _)
    | with_reducible refine State.count_within ?_ ?_ _ _ _ ?_
    | with_reducible refine State.stick_within ?_ ?_ _ _ _ _ _ ?_
    | with_reducible refine State.flag_within ?_ ?_ _ _ ?_
    | with_reducible refine Within.ite ?_ ?_
    | with_reducible refine Within.ite_fst ?_ ?_
    | split
    | with_reducible refine Within.set_counted ?_ _ ?_
    | (with_reducible refine Within.of_eq (by with_reducible assumption) ?_))

theorem State.countSamples_within {M : Foot} (hM : Foot.Sub 0xc80018600000000000000000000000000000000000000200000000830000000000000000000000000000027f90000000000000000008980000000000000000000000000000000a18c0000a00000 M) {s₀ s : State} (h_s : Within M s₀ s) (d : Nat) (c : Nat) (stage : Nat) (ns : List Int)  :
    Within M s₀ (State.countSamples s d c stage ns) := by
  unfold State.countSamples
  repeat' (first
    | with_reducible assumption
    | (refine Foot.Sub.has hM ?_; decide)
    | (refine Foot.Sub.trans ?_ hM; decide)
    | with_reducible refine State.countBlock_within ?_ ?_ _ _ _ _
    | with_reducible refine Within.each ?_ fun _ _ _ => ?_
    | split
    | (with_reducible refine Within.of_eq (by with_reducible assumption) ?_))

theorem State.touchFade_within {M : Foot} (hM : Foot.Sub 0x800000000000000000000000000000000000000000000000000000000000000000000000 M) {s₀ s : State} (h_s : Within M s₀ s) (d : Nat) (c : Nat)  :
    Within M s₀ (State.touchFade s d c) := by
  unfold State.touchFade
  repeat' (first
    | with_reducible assumption
    | (refine Foot.Sub.has hM ?_; decide)
    | (refine Foot.Sub.trans ?_ hM; decide)
    | with_reducible refine State.wr_within ?_ _ _ _ ?_
    | split
    | (with_reducible refine Within.of_eq (by with_reducible assumption) ?_))

theorem State.fadePos_within {M : Foot} (hM : Foot.Sub 0x4000000000000 M) {s₀ s : State} (h_s : Within M s₀ s) (d : Nat) (c : Nat)  :
    Within M s₀ (State.fadePos s d c) := by
  unfold State.fadePos
  repeat' (first
    | with_reducible assumption
    | (refine Foot.Sub.has hM ?_; decide)
    | (refine Foot.Sub.trans ?_ hM; decide)
    | with_reducible refine State.wr_within ?_ _ _ _ ?_
    | with_reducible refine Within.on ?_ fun _ _ => ?_
    | split
    | (with_reducible refine Within.of_eq (by with_reducible assumption) ?_)
    | (intro _))

theorem State.endFade_within {M : Foot} (hM : Foot.Sub 0xc00018600000000000000000000000000000000000000200000000830000000000000000000000000008427f9000000000000000000898000000000000000000000000000000004000000000000 M) {s₀ s : State} (h_s : Within M s₀ s) (d : Nat) (c : Nat) (bank : Nat) (len : Nat) (discarded : Bool)  :
    Within M s₀ (State.endFade s d c bank len discarded) := by
  unfold State.endFade
  repeat' (first
    | with_reducible assumption
    | (refine Foot.Sub.has hM ?_; decide)
    | (refine Foot.Sub.trans ?_ hM; decide)
    | (extract_lets +onlyGivenNames x; refine Within.cut (x := x) ?_ ?_; (on_goal 2 => (clear_value x; revert x; intro _ _)); (on_goal 1 => (unfold x; clear x)))
    | (extract_lets +onlyGivenNames x; refine Within.cut (x := x.1) ?_ ?_; (on_goal 2 => (clear_value x; revert x; intro _ _)); (on_goal 1 => (unfold x; clear x)))
    | (extract_lets +onlyGivenNames x; clear_value x; revert x; intro _)
    | with_reducible refine State.wr_within ?_ _ _ _ ?_
    | with_reducible refine State.touchFade_within ?_ ?_ _ _
    | with_reducible refine State.raise_within ?_ ?_ _ _ _
    | split
    | (with_reducible refine Within.of_eq (by with_reducible assumption) ?_))

theorem State.dropFades_within {M : Foot} (hM : Foot.Sub 0x4000000000000000000000000000000000000000000000000000000000000000000000000000000000000000000000000000000000000000000000000000000000000000000000000000000000 M) {s₀ s : State} (h_s : Within M s₀ s) (d : Nat) (c : Nat)  :
    Within M s₀ (State.dropFades s d c) := by
  unfold State.dropFades
  repeat' (first
    | with_reducible assumption
    | (refine Foot.Sub.has hM ?_; decide)
    | (refine Foot.Sub.trans ?_ hM; decide)
    | (extract_lets +onlyGivenNames x; refine Within.cut (x := x) ?_ ?_; (on_goal 2 => (clear_value x; revert x; intro _ _)); (on_goal 1 => (unfold x; clear x)))
    | (extract_lets +onlyGivenNames x; refine Within.cut (x := x.1) ?_ ?_; (on_goal 2 => (clear_value x; revert x; intro _ _)); (on_goal 1 => (unfold x; clear x)))
    | (extract_lets +onlyGivenNames x; clear_value x; revert x; intro _)
    | split
    | with_reducible refine Within.set_fades ?_ _ ?_
    | (with_reducible refine Within.of_eq (by with_reducible assumption) ?_))

theorem State.firRequest_within {M : Foot} (hM : Foot.Sub 0xc0001860000000000000000000000000000000000000020000000083000000000000000000000000000dc27f9000000000000000000898000000000000000000000000000000004000000000000 M) {s₀ s : State} (h_s : Within M s₀ s) (d : Nat) (c : Nat) (bank : Nat) (t : Option Instant)  :
    Within M s₀ (State.firRequest s d c bank t) := by
  unfold State.firRequest
  repeat' (first
    | with_reducible assumption
    | (refine Foot.Sub.has hM ?_; decide)
    | (refine Foot.Sub.trans ?_ hM; decide)
    | (extract_lets +onlyGivenNames x; refine Within.cut (x := x) ?_ ?_; (on_goal 2 => (clear_value x; revert x; intro _ _)); (on_goal 1 => (unfold x; clear x)))
    | (extract_lets +onlyGivenNames x; refine Within.cut (x := x.1) ?_ ?_; (on_goal 2 => (clear_value x; revert x; intro _ _)); (on_goal 1 => (unfold x; clear x)))
    | (extract_lets +onlyGivenNames x; clear_value x; revert x; intro _)
    | with_reducible refine State.wr_within ?_ _ _ _ ?_
    | with_reducible refine State.flag_within ?_ ?_ _ _ ?_
    | with_reducible refine State.raise_within ?_ ?_ _ _ _
    | with_reducible refine State.endFade_within ?_ ?_ _ _ _ _ _
    | with_reducible refine Within.on ?_ fun _ _ => ?_
    | with_reducible refine Within.ite ?_ ?_
    | with_reducible refine Within.ite_fst ?_ ?_
    | split
    | (with_reducible refine Within.of_eq (by with_reducible assumption) ?_)
    | (intro _))

theorem State.firStops_within {M : Foot} (hM : Foot.Sub 0xc40018600000000000000000000000000000000000000200000000830000000000000000000000000008427f9000000000000000000898000000000000000000000000000000004000000000000 M) {s₀ s : State} (h_s : Within M s₀ s) (d : Nat) (c : Nat)  :
    Within M s₀ (State.firStops s d c) := by
  unfold State.firStops
  repeat' (first
    | with_reducible assumption
    | (refine Foot.Sub.has hM ?_; decide)
    | (refine Foot.Sub.trans ?_ hM; decide)
    | (extract_lets +onlyGivenNames x; refine Within.cut (x := x) ?_ ?_; (on_goal 2 => (clear_value x; revert x; intro _ _)); (on_goal 1 => (unfold x; clear x)))
    | (extract_lets +onlyGivenNames x; refine Within.cut (x := x.1) ?_ ?_; (on_goal 2 => (clear_value x; revert x; intro _ _)); (on_goal 1 => (unfold x; clear x)))
    | (extract_lets +onlyGivenNames x; clear_value x; revert x; intro _)
    | with_reducible refine State.endFade_within ?_ ?_ _ _ _ _ _
    | with_reducible refine State.dropFades_within ?_ ?_ _ _
    | with_reducible refine Within.on ?_ fun _ _ => ?_
    | with_reducible refine Within.ite ?_ ?_
    | with_reducible refine Within.ite_fst ?_ ?_
    | split
    | (with_reducible refine Within.of_eq (by with_reducible assumption) ?_)
    | (intro _))

theorem State.fadeStarts_within {M : Foot} (hM : Foot.Sub 0xc4001860000000000000000000000000000000000000020000000083000000000000000000000000000bc27f9000000000000000000898000000000000000000000000000000004000000000000 M) {s₀ s : State} (h_s : Within M s₀ s) (d : Nat) (c : Nat) (bank : Nat) (pend : Bool)  :
    Within M s₀ (State.fadeStarts s d c bank pend) := by
  unfold State.fadeStarts
  repeat' (first
    | with_reducible assumption
    | (refine Foot.Sub.has hM ?_; decide)
    | (refine Foot.Sub.trans ?_ hM; decide)
    | (extract_lets +onlyGivenNames x; refine Within.cut (x := x) ?_ ?_; (on_goal 2 => (clear_value x; revert x; intro _ _)); (on_goal 1 => (unfold x; clear x)))
    | (extract_lets +onlyGivenNames x; refine Within.cut (x := x.1) ?_ ?_; (on_goal 2 => (clear_value x; revert x; intro _ _)); (on_goal 1 => (unfold x; clear x)))
    | (extract_lets +onlyGivenNames x; clear_value x; revert x; intro _)
    | with_reducible refine State.wr_within ?_ _ _ _ ?_
    | with_reducible refine State.touchFade_within ?_ ?_ _ _
    | with_reducible refine State.wrBool_within ?_ _ _ _ ?_
    | with_reducible refine State.fadePos_within ?_ ?_ _ _
    | with_reducible refine State.raise_within ?_ ?_ _ _ _
    | with_reducible refine State.endFade_within ?_ ?_ _ _ _ _ _
    | with_reducible refine Within.on ?_ fun _ _ => ?_
    | split
    | with_reducible refine Within.set_fades ?_ _ ?_
    | (with_reducible refine Within.of_eq (by with_reducible assumption) ?_)
    | (intro _))

theorem State.fadeEnds_within {M : Foot} (hM : Foot.Sub 0xc4001860000000000000000000000000000000000000020000000083000000000000000000000000000fc27f9000000000000000000898000000000000000000000000000000004000000000000 M) {s₀ s : State} (h_s : Within M s₀ s) (d : Nat) (c : Nat)  :
    Within M s₀ (State.fadeEnds s d c) := by
  unfold State.fadeEnds
  repeat' (first
    | with_reducible assumption
    | (refine Foot.Sub.has hM ?_; decide)
    | (refine Foot.Sub.trans ?_ hM; decide)
    | (extract_lets +onlyGivenNames x; refine Within.cut (x := x) ?_ ?_; (on_goal 2 => (clear_value x; revert x; intro _ _)); (on_goal 1 => (unfold x; clear x)))
    | (extract_lets +onlyGivenNames x; refine Within.cut (x := x.1) ?_ ?_; (on_goal 2 => (clear_value x; revert x; intro _ _)); (on_goal 1 => (unfold x; clear x)))
    | (extract_lets +onlyGivenNames x; clear_value x; revert x; intro _)
    | with_reducible refine State.wr_within ?_ _ _ _ ?_
    | with_reducible refine State.raise_within ?_ ?_ _ _ _
    | with_reducible refine State.fadeStarts_within ?_ ?_ _ _ _ _
    | with_reducible refine State.endFade_within ?_ ?_ _ _ _ _ _
    | with_reducible refine Within.ite ?_ ?_
    | with_reducible refine Within.ite_fst ?_ ?_
    | split
    | (with_reducible refine Within.of_eq (by with_reducible assumption) ?_))

theorem State.fadeFirst_within {M : Foot} (hM : Foot.Sub 0xc4001860000000000000000000000000000000000000020000000083000000000000000000000000000fc27f9000000000000000000898000000000000000000000000000000004000000000000 M) {s₀ s : State} (h_s : Within M s₀ s) (d : Nat) (c : Nat)  :
    Within M s₀ (State.fadeFirst s d c) := by
  unfold State.fadeFirst
  repeat' (first
    | with_reducible assumption
    | (refine Foot.Sub.has hM ?_; decide)
    | (refine Foot.Sub.trans ?_ hM; decide)
    | (extract_lets +onlyGivenNames x; refine Within.cut (x := x) ?_ ?_; (on_goal 2 => (clear_value x; revert x; intro _ _)); (on_goal 1 => (unfold x; clear x)))
    | (extract_lets +onlyGivenNames x; refine Within.cut (x := x.1) ?_ ?_; (on_goal 2 => (clear_value x; revert x; intro _ _)); (on_goal 1 => (unfold x; clear x)))
    | (extract_lets +onlyGivenNames x; clear_value x; revert x; intro _)
    | with_reducible refine State.wr_within ?_ _ _ _ ?_
    | with_reducible refine State.raise_within ?_ ?_ _ _ _
    | with_reducible refine State.fadeEnds_within ?_ ?_ _ _
    | with_reducible refine State.fadeStarts_within ?_ ?_ _ _ _ _
    | with_reducible refine Within.ite ?_ ?_
    | with_reducible refine Within.ite_fst ?_ ?_
    | split
    | (with_reducible refine Within.of_eq (by with_reducible assumption) ?_))

theorem State.runSeen_within {M : Foot} (hM : Foot.Sub 0xc80018600000000000000000000000000000000000000200000000830000000000000000000000000000027f90000000000000000008980000000000000000000000000000000a18c0000a00000 M) {s₀ s : State} (h_s : Within M s₀ s) (d : Nat) (c : Nat) (first : Int) (xs : List Int)  :
    Within M s₀ (State.runSeen s d c first xs) := by
  unfold State.runSeen
  repeat' (first
    | with_reducible assumption
    | (refine Foot.Sub.has hM ?_; decide)
    | (refine Foot.Sub.trans ?_ hM; decide)
    | (extract_lets +onlyGivenNames x; refine Within.cut (x := x) ?_ ?_; (on_goal 2 => (clear_value x; revert x; intro _ _)); (on_goal 1 => (unfold x; clear x)))
    | (extract_lets +onlyGivenNames x; refine Within.cut (x := x.1) ?_ ?_; (on_goal 2 => (clear_value x; revert x; intro _ _)); (on_goal 1 => (unfold x; clear x)))
    | (extract_lets +onlyGivenNames x; clear_value x; revert x; intro _)
    | with_reducible refine State.countSamples_within ?_ ?_ _ _ _ _
    | split
    | (with_reducible refine Within.of_eq (by with_reducible assumption) ?_))

theorem State.sampleWord_within {M : Foot} (hM : Foot.Sub 0xc80018600000000000000000000000000000000000000200000000830000000000000000000000000000027f90000000000000000008980000000000000000000000000000000a18c0000a00000 M) {s₀ s : State} (h_s : Within M s₀ s) (d : Nat) (c : Nat) (pos : Nat) (first : Int) (xs : List Int)  :
    Within M s₀ (State.sampleWord s d c pos first xs).1 := by
  unfold State.sampleWord
  repeat' (first
    | with_reducible assumption
    | (refine Foot.Sub.has hM ?_; decide)
    | (refine Foot.Sub.trans ?_ hM; decide)
    | (split <;> (refine Foot.Sub.has hM ?_; decide))
    | (extract_lets +onlyGivenNames x; refine Within.cut (x := x) ?_ ?_; (on_goal 2 => (clear_value x; revert x; intro _ _)); (on_goal 1 => (unfold x; clear x)))
    | (extract_lets +onlyGivenNames x; refine Within.cut (x := x.1) ?_ ?_; (on_goal 2 => (clear_value x; revert x; intro _ _)); (on_goal 1 => (unfold x; clear x)))
    | (extract_lets +onlyGivenNames x; have _h : (_ : _) → _ := x; clear _h; subst x)
    | with_reducible refine State.countSamples_within ?_ ?_ _ _ _ _
    | with_reducible refine Within.foldl ?_ fun _ _ _ => ?_
    | with_reducible refine Within.foldl_fst ?_ fun _ _ _ => ?_
    | with_reducible refine Within.ite ?_ ?_
    | with_reducible refine Within.ite_fst ?_ ?_
    | split
    | (with_reducible refine Within.of_eq (by with_reducible assumption) ?_))

theorem State.settled_within {M : Foot} (hM : Foot.Sub 0xc00018600000000000000000000000000000000000000200000000830000000000000000000000000000227f9000000000000000000898000000000000000000000000000000000800000000000 M) {s₀ s : State} (h_s : Within M s₀ s) (d : Nat) (c : Nat)  :
    Within M s₀ (State.settled s d c) := by
  unfold State.settled
  repeat' (first
    | with_reducible assumption
    | (refine Foot.Sub.has hM ?_; decide)
    | (refine Foot.Sub.trans ?_ hM; decide)
    | with_reducible refine State.wr_within ?_ _ _ _ ?_
    | with_reducible refine State.raise_within ?_ ?_ _ _ _
    | split
    | (with_reducible refine Within.of_eq (by with_reducible assumption) ?_))

theorem State.rebase_within {M : Foot} (hM : Foot.Sub 0x4000000000000000000000000000000000000000000000000000000000000000000000000000000001410000000000000000000000000000000000000000000000000000000000000000000000 M) {s₀ s old : State} (h_s : Within M s₀ s) (h_old : Within M s₀ old) (d : Nat) (c : Nat)  :
    Within M s₀ (State.rebase s old d c) := by
  unfold State.rebase
  repeat' (first
    | with_reducible assumption
    | (refine Foot.Sub.has hM ?_; decide)
    | (refine Foot.Sub.trans ?_ hM; decide)
    | (extract_lets +onlyGivenNames x; refine Within.cut (x := x) ?_ ?_; (on_goal 2 => (clear_value x; revert x; intro _ _)); (on_goal 1 => (unfold x; clear x)))
    | (extract_lets +onlyGivenNames x; refine Within.cut (x := x.1) ?_ ?_; (on_goal 2 => (clear_value x; revert x; intro _ _)); (on_goal 1 => (unfold x; clear x)))
    | (extract_lets +onlyGivenNames x; have _h : (_ : _) → _ := x; clear _h; subst x)
    | (extract_lets +onlyGivenNames x; clear_value x; revert x; intro _)
    | with_reducible refine State.wr_within ?_ _ _ _ ?_
    | with_reducible refine Within.on ?_ fun _ _ => ?_
    | with_reducible refine Within.ite ?_ ?_
    | with_reducible refine Within.ite_fst ?_ ?_
    | split
    | with_reducible refine Within.set_fades ?_ _ ?_
    | (with_reducible refine Within.of_eq (by with_reducible assumption) ?_)
    | (intro _))

theorem State.restartCond_within {M : Foot} (hM : Foot.Sub 0xc40018600000000000000000000000000000000000000200000000830000000000000000000000000008727f9000000000000000000898000000000000000000000000000000024800000000000 M) {s₀ s : State} (h_s : Within M s₀ s) (d : Nat) (c : Nat)  :
    Within M s₀ (State.restartCond s d c) := by
  unfold State.restartCond
  repeat' (first
    | with_reducible assumption
    | (refine Foot.Sub.has hM ?_; decide)
    | (refine Foot.Sub.trans ?_ hM; decide)
    | (extract_lets +onlyGivenNames x; refine Within.cut (x := x) ?_ ?_; (on_goal 2 => (clear_value x; revert x; intro _ _)); (on_goal 1 => (unfold x; clear x)))
    | (extract_lets +onlyGivenNames x; refine Within.cut (x := x.1) ?_ ?_; (on_goal 2 => (clear_value x; revert x; intro _ _)); (on_goal 1 => (unfold x; clear x)))
    | (extract_lets +onlyGivenNames x; clear_value x; revert x; intro _)
    | with_reducible refine State.firStops_within ?_ ?_ _ _
    | with_reducible refine State.wr_within ?_ _ _ _ ?_
    | with_reducible refine Within.on ?_ fun _ _ => ?_
    | with_reducible refine Within.ite ?_ ?_
    | with_reducible refine Within.ite_fst ?_ ?_
    | split
    | (with_reducible refine Within.of_eq (by with_reducible assumption) ?_)
    | (intro _))

theorem State.changeCond_within {M : Foot} (hM : Foot.Sub 0xc4001860000000000000000000000000000000000000020000000083000000000000000000000000001c727f9000000000000000000898000000000000000000000000000000024800000000000 M) {s₀ s : State} (h_s : Within M s₀ s) (d : Nat) (c : Nat) (f : Fld) (v : Nat) (h_f : M.testBit f.reg.ctorIdx = true) :
    Within M s₀ (State.changeCond s d c f v) := by
  unfold State.changeCond
  repeat' (first
    | with_reducible assumption
    | (refine Foot.Sub.has hM ?_; decide)
    | (refine Foot.Sub.trans ?_ hM; decide)
    | with_reducible refine State.wr_within ?_ _ _ _ ?_
    | with_reducible refine State.rebase_within ?_ ?_ ?_ _ _
    | with_reducible refine State.restartCond_within ?_ ?_ _ _
    | split
    | (with_reducible refine Within.of_eq (by with_reducible assumption) ?_))

theorem State.eqTick_within {M : Foot} (hM : Foot.Sub 0xc00018600000000000000000000000000000000000000200000000830000000000000000000000000030027f9000000000000000000898000000000000000000000000000000000040000000000 M) {s₀ s : State} (h_s : Within M s₀ s) (d : Nat) (c : Nat)  :
    Within M s₀ (State.eqTick s d c) := by
  unfold State.eqTick
  repeat' (first
    | with_reducible assumption
    | (refine Foot.Sub.has hM ?_; decide)
    | (refine Foot.Sub.trans ?_ hM; decide)
    | (extract_lets +onlyGivenNames x; refine Within.cut (x := x) ?_ ?_; (on_goal 2 => (clear_value x; revert x; intro _ _)); (on_goal 1 => (unfold x; clear x)))
    | (extract_lets +onlyGivenNames x; refine Within.cut (x := x.1) ?_ ?_; (on_goal 2 => (clear_value x; revert x; intro _ _)); (on_goal 1 => (unfold x; clear x)))
    | (extract_lets +onlyGivenNames x; clear_value x; revert x; intro _)
    | with_reducible refine State.wr_within ?_ _ _ _ ?_
    | with_reducible refine State.raise_within ?_ ?_ _ _ _
    | with_reducible refine Within.ite ?_ ?_
    | with_reducible refine Within.ite_fst ?_ ?_
    | split
    | (with_reducible refine Within.of_eq (by with_reducible assumption) ?_))

theorem State.condTick_within {M : Foot} (hM : Foot.Sub 0xc00018600000000000000000000000000000000000000200000000830000000000000000000000000030027f9000000000000000000898000000000000000000000000000000004040000000000 M) {s₀ s : State} (h_s : Within M s₀ s)   :
    Within M s₀ (State.condTick s) := by
  unfold State.condTick
  repeat' (first
    | with_reducible assumption
    | (refine Foot.Sub.has hM ?_; decide)
    | (refine Foot.Sub.trans ?_ hM; decide)
    | with_reducible refine State.eqTick_within ?_ ?_ _ _
    | with_reducible refine State.fadePos_within ?_ ?_ _ _
    | with_reducible refine Within.each ?_ fun _ _ _ => ?_
    | split
    | (with_reducible refine Within.of_eq (by with_reducible assumption) ?_))

theorem State.writeEqCtrl_within {M : Foot} (hM : Foot.Sub 0x40000000000000000000000000000000000000000000000000000000000000000000000000000000000000000000000000000000000000000000000000000000000000000000000060000000000 M) {s₀ s : State} (h_s : Within M s₀ s) (d : Nat) (c : Nat) (v : Nat)  :
    Within M s₀ (State.writeEqCtrl d c v s).1 := by
  unfold State.writeEqCtrl
  repeat' (first
    | with_reducible assumption
    | (refine Foot.Sub.has hM ?_; decide)
    | (refine Foot.Sub.trans ?_ hM; decide)
    | (extract_lets +onlyGivenNames x; refine Within.cut (x := x) ?_ ?_; (on_goal 2 => (clear_value x; revert x; intro _ _)); (on_goal 1 => (unfold x; clear x)))
    | (extract_lets +onlyGivenNames x; refine Within.cut (x := x.1) ?_ ?_; (on_goal 2 => (clear_value x; revert x; intro _ _)); (on_goal 1 => (unfold x; clear x)))
    | (extract_lets +onlyGivenNames x; clear_value x; revert x; intro _)
    | with_reducible refine State.flag_within ?_ ?_ _ _ ?_
    | with_reducible refine State.wr_within ?_ _ _ _ ?_
    | with_reducible refine Within.ite ?_ ?_
    | with_reducible refine Within.ite_fst ?_ ?_
    | split
    | (with_reducible refine Within.of_eq (by with_reducible assumption) ?_))

theorem State.coefReject_within {M : Foot} (hM : Foot.Sub 0xc00018600000000000000000000000000000000000000200000000830000000000000000000000000000027f9000000000000000000898000000000000000000000000000000004040000000000 M) {s₀ s : State} (h_s : Within M s₀ s) (d : Nat) (c : Nat) (kind : Nat) (bank : Nat) (k : Nat)  :
    Within M s₀ (State.coefReject s d c kind bank k) := by
  unfold State.coefReject
  repeat' (first
    | with_reducible assumption
    | (refine Foot.Sub.has hM ?_; decide)
    | (refine Foot.Sub.trans ?_ hM; decide)
    | (split <;> (refine Foot.Sub.has hM ?_; decide))
    | with_reducible refine State.stick_within ?_ ?_ _ _ _ _ _ ?_
    | with_reducible refine Within.ite ?_ ?_
    | with_reducible refine Within.ite_fst ?_ ?_
    | split
    | (with_reducible refine Within.of_eq (by with_reducible assumption) ?_))

theorem State.writeEqCoef_within {M : Foot} (hM : Foot.Sub 0xc00018600000000000000000000000000000000000000200000000830000000000000000000000000000027f9000000000000000000898000000000000000000000000000000004140000000000 M) {s₀ s : State} (h_s : Within M s₀ s) (d : Nat) (c : Nat) (b : Nat) (k : Nat) (v : Nat)  :
    Within M s₀ (State.writeEqCoef d c b k v s).1 := by
  unfold State.writeEqCoef
  repeat' (first
    | with_reducible assumption
    | (refine Foot.Sub.has hM ?_; decide)
    | (refine Foot.Sub.trans ?_ hM; decide)
    | with_reducible refine State.coefReject_within ?_ ?_ _ _ _ _ _
    | with_reducible refine State.wr_within ?_ _ _ _ ?_
    | with_reducible refine Within.ite ?_ ?_
    | with_reducible refine Within.ite_fst ?_ ?_
    | split
    | (with_reducible refine Within.of_eq (by with_reducible assumption) ?_))

theorem State.writeFirCoef_within {M : Foot} (hM : Foot.Sub 0xc00018600000000000000000000000000000000000000200000000830000000000000000000000000000027f900000000000000000089800000000000000000000000000000000c040000000000 M) {s₀ s : State} (h_s : Within M s₀ s) (d : Nat) (c : Nat) (b : Nat) (k : Nat) (v : Nat)  :
    Within M s₀ (State.writeFirCoef d c b k v s).1 := by
  unfold State.writeFirCoef
  repeat' (first
    | with_reducible assumption
    | (refine Foot.Sub.has hM ?_; decide)
    | (refine Foot.Sub.trans ?_ hM; decide)
    | (extract_lets +onlyGivenNames x; refine Within.cut (x := x) ?_ ?_; (on_goal 2 => (clear_value x; revert x; intro _ _)); (on_goal 1 => (unfold x; clear x)))
    | (extract_lets +onlyGivenNames x; refine Within.cut (x := x.1) ?_ ?_; (on_goal 2 => (clear_value x; revert x; intro _ _)); (on_goal 1 => (unfold x; clear x)))
    | (extract_lets +onlyGivenNames x; clear_value x; revert x; intro _)
    | with_reducible refine State.coefReject_within ?_ ?_ _ _ _ _ _
    | with_reducible refine State.wr_within ?_ _ _ _ ?_
    | with_reducible refine Within.ite ?_ ?_
    | with_reducible refine Within.ite_fst ?_ ?_
    | split
    | (with_reducible refine Within.of_eq (by with_reducible assumption) ?_))

theorem State.writeFirCtrl_within {M : Foot} (hM : Foot.Sub 0xc4001860000000000000000000000000000000000000020000000083000000000000000000000000001df27f9000000000000000000898000000000000000000000000000000026800000000000 M) {s₀ s : State} (h_s : Within M s₀ s) (d : Nat) (c : Nat) (v : Nat)  :
    Within M s₀ (State.writeFirCtrl d c v s).1 := by
  unfold State.writeFirCtrl
  repeat' (first
    | with_reducible assumption
    | (refine Foot.Sub.has hM ?_; decide)
    | (refine Foot.Sub.trans ?_ hM; decide)
    | (extract_lets +onlyGivenNames x; refine Within.cut (x := x) ?_ ?_; (on_goal 2 => (clear_value x; revert x; intro _ _)); (on_goal 1 => (unfold x; clear x)))
    | (extract_lets +onlyGivenNames x; refine Within.cut (x := x.1) ?_ ?_; (on_goal 2 => (clear_value x; revert x; intro _ _)); (on_goal 1 => (unfold x; clear x)))
    | (extract_lets +onlyGivenNames x; clear_value x; revert x; intro _)
    | with_reducible refine State.wr_within ?_ _ _ _ ?_
    | with_reducible refine State.flag_within ?_ ?_ _ _ ?_
    | with_reducible refine State.changeCond_within ?_ ?_ _ _ _ _ ?_
    | with_reducible refine State.firRequest_within ?_ ?_ _ _ _ _
    | with_reducible refine Within.on ?_ fun _ _ => ?_
    | with_reducible refine Within.ite ?_ ?_
    | with_reducible refine Within.ite_fst ?_ ?_
    | split
    | (with_reducible refine Within.of_eq (by with_reducible assumption) ?_)
    | (intro _))

theorem State.writeCondField_within {M : Foot} (hM : Foot.Sub 0xc4001860000000000000000000000000000000000000020000000083000000000000000000000000001c727f9000000000000000000898000000000000000000000000000000024800000000000 M) {s₀ s : State} (h_s : Within M s₀ s) (d : Nat) (c : Nat) (f : Fld) (reject : Fld) (v : Nat) (h_f : M.testBit f.reg.ctorIdx = true) (h_reject : M.testBit reject.reg.ctorIdx = true) :
    Within M s₀ (State.writeCondField d c f reject v s).1 := by
  unfold State.writeCondField
  repeat' (first
    | with_reducible assumption
    | (refine Foot.Sub.has hM ?_; decide)
    | (refine Foot.Sub.trans ?_ hM; decide)
    | with_reducible refine State.flag_within ?_ ?_ _ _ ?_
    | with_reducible refine State.changeCond_within ?_ ?_ _ _ _ _ ?_
    | with_reducible refine Within.ite ?_ ?_
    | with_reducible refine Within.ite_fst ?_ ?_
    | split
    | (with_reducible refine Within.of_eq (by with_reducible assumption) ?_))

theorem State.writeDecCtrl_within {M : Foot} (hM : Foot.Sub 0xc4001860000000000000000000000000000000000000020000000083000000000000000000000000001c727f9000000000000000000898000000000000000000000000000000024a00000000000 M) {s₀ s : State} (h_s : Within M s₀ s) (d : Nat) (c : Nat) (v : Nat)  :
    Within M s₀ (State.writeDecCtrl d c v s).1 := by
  unfold State.writeDecCtrl
  repeat' (first
    | with_reducible assumption
    | (refine Foot.Sub.has hM ?_; decide)
    | (refine Foot.Sub.trans ?_ hM; decide)
    | with_reducible refine State.writeCondField_within ?_ ?_ _ _ _ _ _ ?_ ?_
    | split
    | (with_reducible refine Within.of_eq (by with_reducible assumption) ?_))

theorem State.writeDecRatio_within {M : Foot} (hM : Foot.Sub 0xc4001860000000000000000000000000000000000000020000000083000000000000000000000000001c727f9000000000000000000898000000000000000000000000000000024c00000000000 M) {s₀ s : State} (h_s : Within M s₀ s) (d : Nat) (c : Nat) (v : Nat)  :
    Within M s₀ (State.writeDecRatio d c v s).1 := by
  unfold State.writeDecRatio
  repeat' (first
    | with_reducible assumption
    | (refine Foot.Sub.has hM ?_; decide)
    | (refine Foot.Sub.trans ?_ hM; decide)
    | with_reducible refine State.writeCondField_within ?_ ?_ _ _ _ _ _ ?_ ?_
    | split
    | (with_reducible refine Within.of_eq (by with_reducible assumption) ?_))

theorem State.writeRsmCtrl_within {M : Foot} (hM : Foot.Sub 0xc4001860000000000000000000000000000000000000020000000083000000000000000000000000001c727f9000000000000000000898000000000000000000000000000000034800000000000 M) {s₀ s : State} (h_s : Within M s₀ s) (d : Nat) (c : Nat) (v : Nat)  :
    Within M s₀ (State.writeRsmCtrl d c v s).1 := by
  unfold State.writeRsmCtrl
  repeat' (first
    | with_reducible assumption
    | (refine Foot.Sub.has hM ?_; decide)
    | (refine Foot.Sub.trans ?_ hM; decide)
    | with_reducible refine State.writeCondField_within ?_ ?_ _ _ _ _ _ ?_ ?_
    | split
    | (with_reducible refine Within.of_eq (by with_reducible assumption) ?_))

theorem State.writeRsmRatio_within {M : Foot} (hM : Foot.Sub 0xc4001860000000000000000000000000000000000000020000000083000000000000000000000000001c727f9000000000000000000898000000000000000000000000000000064800000000000 M) {s₀ s : State} (h_s : Within M s₀ s) (d : Nat) (c : Nat) (v : Nat)  :
    Within M s₀ (State.writeRsmRatio d c v s).1 := by
  unfold State.writeRsmRatio
  repeat' (first
    | with_reducible assumption
    | (refine Foot.Sub.has hM ?_; decide)
    | (refine Foot.Sub.trans ?_ hM; decide)
    | with_reducible refine State.writeCondField_within ?_ ?_ _ _ _ _ _ ?_ ?_
    | split
    | (with_reducible refine Within.of_eq (by with_reducible assumption) ?_))

end Sys2Proof.Machine
end

