-- ==== Sys2Proof/Laws/AcqOpsWithin.lean ====
section
/-!
SUPPORT. What each operation of Machine/AcqOps.lean may change (`Within`), and that it keeps the state sound.
-/

namespace Sys2Proof.Machine

set_option linter.all false

theorem State.raiseAcqState_within {M : Foot} (hM : Foot.Sub 0xc00018600000000000000000000000000000000000000200000000830000000000000000000000000000027f9000000000000000000898000000000000000000000000000000000000000000000 M) {s₀ s : State} (h_s : Within M s₀ s) (d : Nat) (a : Nat) (cause : Nat)  :
    Within M s₀ (State.raiseAcqState s d a cause) := by
  unfold State.raiseAcqState
  repeat' (first
    | with_reducible assumption
    | (refine Foot.Sub.has hM ?_; decide)
    | (refine Foot.Sub.trans ?_ hM; decide)
    | with_reducible refine State.raise_within ?_ ?_ _ _ _
    | split
    | (with_reducible refine Within.of_eq (by with_reducible assumption) ?_))

theorem State.syncMarks_within {M : Foot} (hM : Foot.Sub 0x80000000000000000000000000 M) {s₀ s : State} (h_s : Within M s₀ s) (d : Nat) (a : Nat)  :
    Within M s₀ (State.syncMarks s d a) := by
  unfold State.syncMarks
  repeat' (first
    | with_reducible assumption
    | (refine Foot.Sub.has hM ?_; decide)
    | (refine Foot.Sub.trans ?_ hM; decide)
    | with_reducible refine State.wr_within ?_ _ _ _ ?_
    | split
    | (with_reducible refine Within.of_eq (by with_reducible assumption) ?_))

theorem State.drainMarks_within {M : Foot} (hM : Foot.Sub 0x860100000000000000000000000000000000000020000000080000000000000000000000000000002701000000000000000000018000000000000000000080000000000000000000000000 M) {s₀ s : State} (h_s : Within M s₀ s) (d a n : Nat) :
    Within M s₀ (State.drainMarks d a n s) := by
  induction n generalizing s with
  | zero => exact h_s
  | succ n ih =>
    unfold State.drainMarks
    extract_lets x
    split
    · split
      · exact ih (State.pushRecord_within (Foot.Sub.trans (by decide) hM) (State.syncMarks_within (Foot.Sub.trans (by decide) hM)
          (State.setAcq_within (Foot.Sub.trans (by decide) hM) h_s _ _ _) _ _) _ _ _ _ _ _)
      · exact h_s
    · exact h_s

theorem State.loseMark_within {M : Foot} (hM : Foot.Sub 0xc00018600000000000000000000000000000000000000200000000830000000000000000000000000000027f9000000000000000000898000000000000000001480000000000000000000000000 M) {s₀ s : State} (h_s : Within M s₀ s) (d : Nat) (a : Nat)  :
    Within M s₀ (State.loseMark s d a) := by
  unfold State.loseMark
  repeat' (first
    | with_reducible assumption
    | (refine Foot.Sub.has hM ?_; decide)
    | (refine Foot.Sub.trans ?_ hM; decide)
    | with_reducible refine State.inc_within ?_ _ _ ?_
    | with_reducible refine State.count_within ?_ ?_ _ _ _ ?_
    | with_reducible refine State.stick_within ?_ ?_ _ _ _ _ _ ?_
    | split
    | (with_reducible refine Within.of_eq (by with_reducible assumption) ?_))

theorem State.placeMark_within {M : Foot} (hM : Foot.Sub 0xc00018601000000000000000000000000000000000000200000000830000000000000000000000000000027f9000000000000000000898000000000000000001480000000000000000000000000 M) {s₀ s : State} (h_s : Within M s₀ s) (d : Nat) (a : Nat) (m : WaitMark) (inGap : Bool) (position : Nat) (segment : Bool)  :
    Within M s₀ (State.placeMark s d a m inGap position segment) := by
  unfold State.placeMark
  repeat' (first
    | with_reducible assumption
    | (refine Foot.Sub.has hM ?_; decide)
    | (refine Foot.Sub.trans ?_ hM; decide)
    | (extract_lets +onlyGivenNames x; refine Within.cut (x := x) ?_ ?_; (on_goal 2 => (clear_value x; revert x; intro _ _)); (on_goal 1 => (unfold x; clear x)))
    | (extract_lets +onlyGivenNames x; refine Within.cut (x := x.1) ?_ ?_; (on_goal 2 => (clear_value x; revert x; intro _ _)); (on_goal 1 => (unfold x; clear x)))
    | (extract_lets +onlyGivenNames x; clear_value x; revert x; intro _)
    | with_reducible refine State.loseMark_within ?_ ?_ _ _
    | with_reducible refine State.inc_within ?_ _ _ ?_
    | with_reducible refine State.setAcq_within ?_ ?_ _ _ _
    | with_reducible refine State.drainMarks_within ?_ ?_ _ _ _
    | with_reducible refine State.syncMarks_within ?_ ?_ _ _
    | with_reducible refine Within.ite ?_ ?_
    | with_reducible refine Within.ite_fst ?_ ?_
    | split
    | (with_reducible refine Within.of_eq (by with_reducible assumption) ?_))

theorem State.settleMarks_within {M : Foot} (hM : Foot.Sub 0xc00018601000000000000000000000000000000000000200000000830000000000000000000000000000027f9000000000000000000898000000000000000001480000000000000000000000000 M) {s₀ s : State} (h_s : Within M s₀ s) (d : Nat) (a : Nat) (pos : Nat) (inGap : Bool) (index : Nat)  :
    Within M s₀ (State.settleMarks s d a pos inGap index) := by
  unfold State.settleMarks
  repeat' (first
    | with_reducible assumption
    | (refine Foot.Sub.has hM ?_; decide)
    | (refine Foot.Sub.trans ?_ hM; decide)
    | (extract_lets +onlyGivenNames x; refine Within.cut (x := x) ?_ ?_; (on_goal 2 => (clear_value x; revert x; intro _ _)); (on_goal 1 => (unfold x; clear x)))
    | (extract_lets +onlyGivenNames x; refine Within.cut (x := x.1) ?_ ?_; (on_goal 2 => (clear_value x; revert x; intro _ _)); (on_goal 1 => (unfold x; clear x)))
    | (extract_lets +onlyGivenNames x; clear_value x; revert x; intro _)
    | with_reducible refine State.setAcq_within ?_ ?_ _ _ _
    | with_reducible refine State.placeMark_within ?_ ?_ _ _ _ _ _ _
    | with_reducible refine Within.each ?_ fun _ _ _ => ?_
    | with_reducible refine Within.ite ?_ ?_
    | with_reducible refine Within.ite_fst ?_ ?_
    | split
    | (with_reducible refine Within.of_eq (by with_reducible assumption) ?_))

theorem State.mark_within {M : Foot} (hM : Foot.Sub 0xc00018601000000000000000000000000000000000000200000000830000000000000000000000000000027f9000000000000000000898000000000000000001480000000000000000000000000 M) {s₀ s : State} (h_s : Within M s₀ s) (d : Nat) (a : Nat) (kind : Nat) (dt : Instant) (flags : Nat) (terms : Nat) (payload : Nat)  :
    Within M s₀ (State.mark s d a kind dt flags terms payload) := by
  unfold State.mark
  repeat' (first
    | with_reducible assumption
    | (refine Foot.Sub.has hM ?_; decide)
    | (refine Foot.Sub.trans ?_ hM; decide)
    | (split <;> (refine Foot.Sub.has hM ?_; decide))
    | (extract_lets +onlyGivenNames x; refine Within.cut (x := x) ?_ ?_; (on_goal 2 => (clear_value x; revert x; intro _ _)); (on_goal 1 => (unfold x; clear x)))
    | (extract_lets +onlyGivenNames x; refine Within.cut (x := x.1) ?_ ?_; (on_goal 2 => (clear_value x; revert x; intro _ _)); (on_goal 1 => (unfold x; clear x)))
    | (extract_lets +onlyGivenNames x; clear_value x; revert x; intro _)
    | with_reducible refine State.placeMark_within ?_ ?_ _ _ _ _ _ _
    | with_reducible refine State.setAcq_within ?_ ?_ _ _ _
    | with_reducible refine Within.ite ?_ ?_
    | with_reducible refine Within.ite_fst ?_ ?_
    | split
    | (with_reducible refine Within.of_eq (by with_reducible assumption) ?_))

theorem State.drainGaps_within {M : Foot} (hM : Foot.Sub 0x860100000000000000000000000000000000000020000000080000000000000000000000000000002701000000000000000000018000000000000000000000000000000000000000000000 M) {s₀ s : State} (h_s : Within M s₀ s) (d a n : Nat) :
    Within M s₀ (State.drainGaps d a n s) := by
  induction n generalizing s with
  | zero => exact h_s
  | succ n ih =>
    unfold State.drainGaps
    extract_lets x
    split
    · split
      · exact ih (State.pushRecord_within (Foot.Sub.trans (by decide) hM)
          (State.setAcq_within (Foot.Sub.trans (by decide) hM) h_s _ _ _) _ _ _ _ _ _)
      · exact h_s
    · exact h_s

theorem State.logGap_within {M : Foot} (hM : Foot.Sub 0xc00018601a00000000000000000000000000000000000200000000830000000000000000000000000100027f9000000000000000000898000000000000000000880000000000000000000000000 M) {s₀ s : State} (h_s : Within M s₀ s) (d : Nat) (a : Nat) (cause : Nat) (first : Nat) (len : Nat) (bytes : List Byte)  :
    Within M s₀ (State.logGap s d a cause first len bytes) := by
  unfold State.logGap
  repeat' (first
    | with_reducible assumption
    | (refine Foot.Sub.has hM ?_; decide)
    | (refine Foot.Sub.trans ?_ hM; decide)
    | (extract_lets +onlyGivenNames x; refine Within.cut (x := x) ?_ ?_; (on_goal 2 => (clear_value x; revert x; intro _ _)); (on_goal 1 => (unfold x; clear x)))
    | (extract_lets +onlyGivenNames x; refine Within.cut (x := x.1) ?_ ?_; (on_goal 2 => (clear_value x; revert x; intro _ _)); (on_goal 1 => (unfold x; clear x)))
    | (extract_lets +onlyGivenNames x; clear_value x; revert x; intro _)
    | with_reducible refine State.memWrite_within ?_ ?_ _ _
    | with_reducible refine State.inc_within ?_ _ _ ?_
    | with_reducible refine State.setAcq_within ?_ ?_ _ _ _
    | with_reducible refine State.stick_within ?_ ?_ _ _ _ _ _ ?_
    | with_reducible refine State.drainGaps_within ?_ ?_ _ _ _
    | with_reducible refine Within.on ?_ fun _ _ => ?_
    | with_reducible refine Within.each ?_ fun _ _ _ => ?_
    | split
    | (with_reducible refine Within.of_eq (by with_reducible assumption) ?_)
    | (intro _))

theorem State.gapRecord_within {M : Foot} (hM : Foot.Sub 0xc00018601a00000000000000000000000000000000000200000000830000000000000000000000000100027f9000000000000000000898000000000000000000880000000000000000000000000 M) {s₀ s : State} (h_s : Within M s₀ s) (d : Nat) (a : Nat) (cause : Nat) (first : Nat) (len : Nat) (refNo : Nat) (flags : Nat)  :
    Within M s₀ (State.gapRecord s d a cause first len refNo flags) := by
  unfold State.gapRecord
  repeat' (first
    | with_reducible assumption
    | (refine Foot.Sub.has hM ?_; decide)
    | (refine Foot.Sub.trans ?_ hM; decide)
    | (extract_lets +onlyGivenNames x; refine Within.cut (x := x) ?_ ?_; (on_goal 2 => (clear_value x; revert x; intro _ _)); (on_goal 1 => (unfold x; clear x)))
    | (extract_lets +onlyGivenNames x; refine Within.cut (x := x.1) ?_ ?_; (on_goal 2 => (clear_value x; revert x; intro _ _)); (on_goal 1 => (unfold x; clear x)))
    | (extract_lets +onlyGivenNames x; clear_value x; revert x; intro _)
    | with_reducible refine State.logGap_within ?_ ?_ _ _ _ _ _ _
    | with_reducible refine Within.each ?_ fun _ _ _ => ?_
    | with_reducible refine Within.ite ?_ ?_
    | with_reducible refine Within.ite_fst ?_ ?_
    | split
    | (with_reducible refine Within.of_eq (by with_reducible assumption) ?_))

theorem State.syncFill_within {M : Foot} (hM : Foot.Sub 0x200000000000000000000000000 M) {s₀ s : State} (h_s : Within M s₀ s) (d : Nat) (a : Nat)  :
    Within M s₀ (State.syncFill s d a) := by
  unfold State.syncFill
  repeat' (first
    | with_reducible assumption
    | (refine Foot.Sub.has hM ?_; decide)
    | (refine Foot.Sub.trans ?_ hM; decide)
    | with_reducible refine State.wr_within ?_ _ _ _ ?_
    | split
    | (with_reducible refine Within.of_eq (by with_reducible assumption) ?_))

theorem State.setBuf_within {M : Foot} (hM : Foot.Sub 0x100000000000000000000000000000000000000000000000000000000000000000000000000000000000000000000000000000000000000000000000200000000000000000000000000 M) {s₀ s : State} (h_s : Within M s₀ s) (d : Nat) (a : Nat) (b : ElasticBuf)  :
    Within M s₀ (State.setBuf s d a b) := by
  unfold State.setBuf
  repeat' (first
    | with_reducible assumption
    | (refine Foot.Sub.has hM ?_; decide)
    | (refine Foot.Sub.trans ?_ hM; decide)
    | (extract_lets +onlyGivenNames x; refine Within.cut (x := x) ?_ ?_; (on_goal 2 => (clear_value x; revert x; intro _ _)); (on_goal 1 => (unfold x; clear x)))
    | (extract_lets +onlyGivenNames x; refine Within.cut (x := x.1) ?_ ?_; (on_goal 2 => (clear_value x; revert x; intro _ _)); (on_goal 1 => (unfold x; clear x)))
    | (extract_lets +onlyGivenNames x; clear_value x; revert x; intro _)
    | with_reducible refine State.setAcq_within ?_ ?_ _ _ _
    | with_reducible refine State.syncFill_within ?_ ?_ _ _
    | split
    | (with_reducible refine Within.of_eq (by with_reducible assumption) ?_))

theorem State.closeChunk_within {M : Foot} (hM : Foot.Sub 0x100000000000000000000000000000000000000000000000000000000000000000000000000000000000000000000000000000000000000000000000200000000000000000000000000 M) {s₀ s : State} (h_s : Within M s₀ s) (d : Nat) (a : Nat)  :
    Within M s₀ (State.closeChunk s d a) := by
  unfold State.closeChunk
  repeat' (first
    | with_reducible assumption
    | (refine Foot.Sub.has hM ?_; decide)
    | (refine Foot.Sub.trans ?_ hM; decide)
    | (extract_lets +onlyGivenNames x; refine Within.cut (x := x) ?_ ?_; (on_goal 2 => (clear_value x; revert x; intro _ _)); (on_goal 1 => (unfold x; clear x)))
    | (extract_lets +onlyGivenNames x; refine Within.cut (x := x.1) ?_ ?_; (on_goal 2 => (clear_value x; revert x; intro _ _)); (on_goal 1 => (unfold x; clear x)))
    | (extract_lets +onlyGivenNames x; clear_value x; revert x; intro _)
    | with_reducible refine State.setBuf_within ?_ ?_ _ _ _
    | split
    | (with_reducible refine Within.of_eq (by with_reducible assumption) ?_))

theorem State.bufAppend_within {M : Foot} (hM : Foot.Sub 0x40000000120000000000000000000000000000000000000000000000000000000000000000000000000000000000000000000000000000000000000000000000200000000000000000000000000 M) {s₀ s : State} (h_s : Within M s₀ s) (d : Nat) (a : Nat) (pos : Nat) (index : Nat) (bits : Nat) (v : Nat)  :
    Within M s₀ (State.bufAppend s d a pos index bits v) := by
  unfold State.bufAppend
  repeat' (first
    | with_reducible assumption
    | (refine Foot.Sub.has hM ?_; decide)
    | (refine Foot.Sub.trans ?_ hM; decide)
    | (extract_lets +onlyGivenNames x; refine Within.cut (x := x) ?_ ?_; (on_goal 2 => (clear_value x; revert x; intro _ _)); (on_goal 1 => (unfold x; clear x)))
    | (extract_lets +onlyGivenNames x; refine Within.cut (x := x.1) ?_ ?_; (on_goal 2 => (clear_value x; revert x; intro _ _)); (on_goal 1 => (unfold x; clear x)))
    | (extract_lets +onlyGivenNames x; clear_value x; revert x; intro _)
    | with_reducible refine State.writeSample_within ?_ ?_ _ _ _ _ _ _
    | with_reducible refine State.count_within ?_ ?_ _ _ _ ?_
    | with_reducible refine State.setBuf_within ?_ ?_ _ _ _
    | with_reducible refine State.closeChunk_within ?_ ?_ _ _
    | with_reducible refine Within.on ?_ fun _ _ => ?_
    | split
    | (with_reducible refine Within.of_eq (by with_reducible assumption) ?_)
    | (intro _))

theorem State.setBackpressure_within {M : Foot} (hM : Foot.Sub 0xc00018600000000000000000000000000000000000000200000000830000000000000000000000000000027f9000000000000000000898000000000000000000080000000000000000000000000 M) {s₀ s : State} (h_s : Within M s₀ s) (d : Nat) (a : Nat) (v : Nat)  :
    Within M s₀ (State.setBackpressure s d a v) := by
  unfold State.setBackpressure
  repeat' (first
    | with_reducible assumption
    | (refine Foot.Sub.has hM ?_; decide)
    | (refine Foot.Sub.trans ?_ hM; decide)
    | with_reducible refine State.wr_within ?_ _ _ _ ?_
    | with_reducible refine State.raise_within ?_ ?_ _ _ _
    | split
    | (with_reducible refine Within.of_eq (by with_reducible assumption) ?_))

theorem State.closeGap_within {M : Foot} (hM : Foot.Sub 0xc00018601a00000000000000000000000000000000000200000000830000000000000000000000000100027f9000000000000000000898000000000000000000a80000000000000000000000000 M) {s₀ s : State} (h_s : Within M s₀ s) (d : Nat) (a : Nat)  :
    Within M s₀ (State.closeGap s d a) := by
  unfold State.closeGap
  repeat' (first
    | with_reducible assumption
    | (refine Foot.Sub.has hM ?_; decide)
    | (refine Foot.Sub.trans ?_ hM; decide)
    | (extract_lets +onlyGivenNames x; refine Within.cut (x := x) ?_ ?_; (on_goal 2 => (clear_value x; revert x; intro _ _)); (on_goal 1 => (unfold x; clear x)))
    | (extract_lets +onlyGivenNames x; refine Within.cut (x := x.1) ?_ ?_; (on_goal 2 => (clear_value x; revert x; intro _ _)); (on_goal 1 => (unfold x; clear x)))
    | (extract_lets +onlyGivenNames x; clear_value x; revert x; intro _)
    | with_reducible refine State.setAcq_within ?_ ?_ _ _ _
    | with_reducible refine State.gapRecord_within ?_ ?_ _ _ _ _ _ _ _
    | with_reducible refine State.setBuf_within ?_ ?_ _ _ _
    | with_reducible refine Within.ite ?_ ?_
    | with_reducible refine Within.ite_fst ?_ ?_
    | split
    | (with_reducible refine Within.of_eq (by with_reducible assumption) ?_))

theorem State.dropPos_within {M : Foot} (hM : Foot.Sub 0xc00018601a00000000000000000000000000000000000200000000830000000000000000000000000100027f9000000000000000000898000000000000000000a80000000000000000000000000 M) {s₀ s : State} (h_s : Within M s₀ s) (d : Nat) (a : Nat) (pos : Nat) (cause : Nat) (refNo : Nat)  :
    Within M s₀ (State.dropPos s d a pos cause refNo) := by
  unfold State.dropPos
  repeat' (first
    | with_reducible assumption
    | (refine Foot.Sub.has hM ?_; decide)
    | (refine Foot.Sub.trans ?_ hM; decide)
    | (extract_lets +onlyGivenNames x; refine Within.cut (x := x) ?_ ?_; (on_goal 2 => (clear_value x; revert x; intro _ _)); (on_goal 1 => (unfold x; clear x)))
    | (extract_lets +onlyGivenNames x; refine Within.cut (x := x.1) ?_ ?_; (on_goal 2 => (clear_value x; revert x; intro _ _)); (on_goal 1 => (unfold x; clear x)))
    | (extract_lets +onlyGivenNames x; clear_value x; revert x; intro _)
    | with_reducible refine State.setAcq_within ?_ ?_ _ _ _
    | with_reducible refine State.closeGap_within ?_ ?_ _ _
    | with_reducible refine State.closeChunk_within ?_ ?_ _ _
    | with_reducible refine Within.ite ?_ ?_
    | with_reducible refine Within.ite_fst ?_ ?_
    | split
    | (with_reducible refine Within.of_eq (by with_reducible assumption) ?_))

theorem State.lcSlotWords_within {M : Foot} (hM : Foot.Sub 0x120000000000000000000000000000000000000000000000000000000000000000000000000000000000000000000000000000000000000000000000000000000000000000000000000 M) {s₀ s : State} (h_s : Within M s₀ s) (d : Nat) (ws : List Nat)  :
    Within M s₀ (State.lcSlotWords s d ws) := by
  unfold State.lcSlotWords
  repeat' (first
    | with_reducible assumption
    | (refine Foot.Sub.has hM ?_; decide)
    | (refine Foot.Sub.trans ?_ hM; decide)
    | (extract_lets +onlyGivenNames x; refine Within.cut (x := x) ?_ ?_; (on_goal 2 => (clear_value x; revert x; intro _ _)); (on_goal 1 => (unfold x; clear x)))
    | (extract_lets +onlyGivenNames x; refine Within.cut (x := x.1) ?_ ?_; (on_goal 2 => (clear_value x; revert x; intro _ _)); (on_goal 1 => (unfold x; clear x)))
    | (extract_lets +onlyGivenNames x; clear_value x; revert x; intro _)
    | with_reducible refine State.writeSample_within ?_ ?_ _ _ _ _ _ _
    | with_reducible refine State.setAcq_within ?_ ?_ _ _ _
    | with_reducible refine Within.each ?_ fun _ _ _ => ?_
    | split
    | (with_reducible refine Within.of_eq (by with_reducible assumption) ?_))

theorem State.lcOpenRun_within {M : Foot} (hM : Foot.Sub 0x120000000000000000000000000000000000000000000000000000000000000000000000000000000000000000000000000000000000000000000000000000000000000000000000000 M) {s₀ s : State} (h_s : Within M s₀ s) (d : Nat)  :
    Within M s₀ (State.lcOpenRun s d) := by
  unfold State.lcOpenRun
  repeat' (first
    | with_reducible assumption
    | (refine Foot.Sub.has hM ?_; decide)
    | (refine Foot.Sub.trans ?_ hM; decide)
    | (extract_lets +onlyGivenNames x; refine Within.cut (x := x) ?_ ?_; (on_goal 2 => (clear_value x; revert x; intro _ _)); (on_goal 1 => (unfold x; clear x)))
    | (extract_lets +onlyGivenNames x; refine Within.cut (x := x.1) ?_ ?_; (on_goal 2 => (clear_value x; revert x; intro _ _)); (on_goal 1 => (unfold x; clear x)))
    | (extract_lets +onlyGivenNames x; clear_value x; revert x; intro _)
    | with_reducible refine State.setAcq_within ?_ ?_ _ _ _
    | with_reducible refine State.lcSlotWords_within ?_ ?_ _ _
    | split
    | (with_reducible refine Within.of_eq (by with_reducible assumption) ?_))

theorem State.lcSlotRecord_within {M : Foot} (hM : Foot.Sub 0x120000000000000000000000000000000000000000000000000000000000000000000000000000000000000000000000000000000000000000000000000000000000000000000000000 M) {s₀ s : State} (h_s : Within M s₀ s) (d : Nat) (tick : Nat) (ws : List Nat)  :
    Within M s₀ (State.lcSlotRecord s d tick ws) := by
  unfold State.lcSlotRecord
  repeat' (first
    | with_reducible assumption
    | (refine Foot.Sub.has hM ?_; decide)
    | (refine Foot.Sub.trans ?_ hM; decide)
    | (extract_lets +onlyGivenNames x; refine Within.cut (x := x) ?_ ?_; (on_goal 2 => (clear_value x; revert x; intro _ _)); (on_goal 1 => (unfold x; clear x)))
    | (extract_lets +onlyGivenNames x; refine Within.cut (x := x.1) ?_ ?_; (on_goal 2 => (clear_value x; revert x; intro _ _)); (on_goal 1 => (unfold x; clear x)))
    | (extract_lets +onlyGivenNames x; clear_value x; revert x; intro _)
    | with_reducible refine State.lcSlotWords_within ?_ ?_ _ _
    | with_reducible refine State.setAcq_within ?_ ?_ _ _ _
    | with_reducible refine State.lcOpenRun_within ?_ ?_ _
    | with_reducible refine Within.ite ?_ ?_
    | with_reducible refine Within.ite_fst ?_ ?_
    | split
    | (with_reducible refine Within.of_eq (by with_reducible assumption) ?_))

theorem State.lcOpenGap_within {M : Foot} (hM : Foot.Sub 0x100000000000000000000000000000000000000000000000000000000000000000000000000000000000000000000000000000000000000000000000200000000000000000000000000 M) {s₀ s : State} (h_s : Within M s₀ s) (d : Nat) (cause : Nat)  :
    Within M s₀ (State.lcOpenGap s d cause) := by
  unfold State.lcOpenGap
  repeat' (first
    | with_reducible assumption
    | (refine Foot.Sub.has hM ?_; decide)
    | (refine Foot.Sub.trans ?_ hM; decide)
    | (extract_lets +onlyGivenNames x; refine Within.cut (x := x) ?_ ?_; (on_goal 2 => (clear_value x; revert x; intro _ _)); (on_goal 1 => (unfold x; clear x)))
    | (extract_lets +onlyGivenNames x; refine Within.cut (x := x.1) ?_ ?_; (on_goal 2 => (clear_value x; revert x; intro _ _)); (on_goal 1 => (unfold x; clear x)))
    | (extract_lets +onlyGivenNames x; clear_value x; revert x; intro _)
    | with_reducible refine State.closeChunk_within ?_ ?_ _ _
    | with_reducible refine State.setAcq_within ?_ ?_ _ _ _
    | with_reducible refine Within.ite ?_ ?_
    | with_reducible refine Within.ite_fst ?_ ?_
    | split
    | (with_reducible refine Within.of_eq (by with_reducible assumption) ?_))

theorem State.lcOpenChunk_within {M : Foot} (hM : Foot.Sub 0x40000000120000000000000000000000000000000000000000000000000000000000000000000000000000000000000000000000000000000000000000000000200000000000000000000000000 M) {s₀ s : State} (h_s : Within M s₀ s) (d : Nat)  :
    Within M s₀ (State.lcOpenChunk s d) := by
  unfold State.lcOpenChunk
  repeat' (first
    | with_reducible assumption
    | (refine Foot.Sub.has hM ?_; decide)
    | (refine Foot.Sub.trans ?_ hM; decide)
    | (extract_lets +onlyGivenNames x; refine Within.cut (x := x) ?_ ?_; (on_goal 2 => (clear_value x; revert x; intro _ _)); (on_goal 1 => (unfold x; clear x)))
    | (extract_lets +onlyGivenNames x; refine Within.cut (x := x.1) ?_ ?_; (on_goal 2 => (clear_value x; revert x; intro _ _)); (on_goal 1 => (unfold x; clear x)))
    | (extract_lets +onlyGivenNames x; clear_value x; revert x; intro _)
    | with_reducible refine State.bufAppend_within ?_ ?_ _ _ _ _ _ _
    | with_reducible refine Within.each ?_ fun _ _ _ => ?_
    | with_reducible refine Within.ite ?_ ?_
    | with_reducible refine Within.ite_fst ?_ ?_
    | split
    | (with_reducible refine Within.of_eq (by with_reducible assumption) ?_))

theorem State.lcStreamRecord_within {M : Foot} (hM : Foot.Sub 0xc00018601200000000000000000000000000000000000200000000830000000000000000000000000000027f9000000000000000000898000000000000000000280000000000000000000000000 M) {s₀ s : State} (h_s : Within M s₀ s) (d : Nat) (tick : Nat) (ws : List Nat)  :
    Within M s₀ (State.lcStreamRecord s d tick ws) := by
  unfold State.lcStreamRecord
  repeat' (first
    | with_reducible assumption
    | (refine Foot.Sub.has hM ?_; decide)
    | (refine Foot.Sub.trans ?_ hM; decide)
    | (extract_lets +onlyGivenNames x; refine Within.cut (x := x) ?_ ?_; (on_goal 2 => (clear_value x; revert x; intro _ _)); (on_goal 1 => (unfold x; clear x)))
    | (extract_lets +onlyGivenNames x; refine Within.cut (x := x.1) ?_ ?_; (on_goal 2 => (clear_value x; revert x; intro _ _)); (on_goal 1 => (unfold x; clear x)))
    | (extract_lets +onlyGivenNames x; clear_value x; revert x; intro _)
    | with_reducible refine State.setBackpressure_within ?_ ?_ _ _ _
    | with_reducible refine State.lcOpenGap_within ?_ ?_ _ _
    | with_reducible refine State.count_within ?_ ?_ _ _ _ ?_
    | with_reducible refine State.closeChunk_within ?_ ?_ _ _
    | with_reducible refine State.lcOpenChunk_within ?_ ?_ _
    | with_reducible refine State.bufAppend_within ?_ ?_ _ _ _ _ _ _
    | with_reducible refine Within.on ?_ fun _ _ => ?_
    | with_reducible refine Within.each ?_ fun _ _ _ => ?_
    | with_reducible refine Within.ite ?_ ?_
    | with_reducible refine Within.ite_fst ?_ ?_
    | split
    | (with_reducible refine Within.of_eq (by with_reducible assumption) ?_)
    | (intro _))

theorem State.lcResume_within {M : Foot} (hM : Foot.Sub 0xc00018601a00000000000000000000000000000000000200000000830000000000000000000000000100027f9000000000000000000898000000000000000000a80000000000000000000000000 M) {s₀ s : State} (h_s : Within M s₀ s) (d : Nat) (tick : Nat) (state : Nat) (mask : Nat)  :
    Within M s₀ (State.lcResume s d tick state mask) := by
  unfold State.lcResume
  repeat' (first
    | with_reducible assumption
    | (refine Foot.Sub.has hM ?_; decide)
    | (refine Foot.Sub.trans ?_ hM; decide)
    | (extract_lets +onlyGivenNames x; refine Within.cut (x := x) ?_ ?_; (on_goal 2 => (clear_value x; revert x; intro _ _)); (on_goal 1 => (unfold x; clear x)))
    | (extract_lets +onlyGivenNames x; refine Within.cut (x := x.1) ?_ ?_; (on_goal 2 => (clear_value x; revert x; intro _ _)); (on_goal 1 => (unfold x; clear x)))
    | (extract_lets +onlyGivenNames x; clear_value x; revert x; intro _)
    | with_reducible refine State.setAcq_within ?_ ?_ _ _ _
    | with_reducible refine State.closeGap_within ?_ ?_ _ _
    | with_reducible refine State.lcOpenChunk_within ?_ ?_ _
    | with_reducible refine State.lcOpenRun_within ?_ ?_ _
    | with_reducible refine Within.ite ?_ ?_
    | with_reducible refine Within.ite_fst ?_ ?_
    | split
    | (with_reducible refine Within.of_eq (by with_reducible assumption) ?_))

theorem State.lcTrim_within {M : Foot} (hM : Foot.Sub 0xc00018601a00000000000000000000000000000000000200000000830000000000000000000000000100027f9000000000000000000898000000000000000000880000000000000000000000000 M) {s₀ s : State} (h_s : Within M s₀ s) (d : Nat)  :
    Within M s₀ (State.lcTrim s d) := by
  unfold State.lcTrim
  repeat' (first
    | with_reducible assumption
    | (refine Foot.Sub.has hM ?_; decide)
    | (refine Foot.Sub.trans ?_ hM; decide)
    | (extract_lets +onlyGivenNames x; refine Within.cut (x := x) ?_ ?_; (on_goal 2 => (clear_value x; revert x; intro _ _)); (on_goal 1 => (unfold x; clear x)))
    | (extract_lets +onlyGivenNames x; refine Within.cut (x := x.1) ?_ ?_; (on_goal 2 => (clear_value x; revert x; intro _ _)); (on_goal 1 => (unfold x; clear x)))
    | (extract_lets +onlyGivenNames x; clear_value x; revert x; intro _)
    | with_reducible refine State.gapRecord_within ?_ ?_ _ _ _ _ _ _ _
    | with_reducible refine State.setAcq_within ?_ ?_ _ _ _
    | with_reducible refine Within.ite ?_ ?_
    | with_reducible refine Within.ite_fst ?_ ?_
    | split
    | (with_reducible refine Within.of_eq (by with_reducible assumption) ?_))

theorem State.clearValid_within {M : Foot} (hM : Foot.Sub 0xa0000000000000000000000000000000000000000000000000000000000000000000000000000000000000000000000000000000000000000000000000000000000000000000000000 M) {s₀ s : State} (h_s : Within M s₀ s) (d : Nat) (a : Nat) (slot : Nat)  :
    Within M s₀ (State.clearValid s d a slot) := by
  unfold State.clearValid
  repeat' (first
    | with_reducible assumption
    | (refine Foot.Sub.has hM ?_; decide)
    | (refine Foot.Sub.trans ?_ hM; decide)
    | (extract_lets +onlyGivenNames x; refine Within.cut (x := x) ?_ ?_; (on_goal 2 => (clear_value x; revert x; intro _ _)); (on_goal 1 => (unfold x; clear x)))
    | (extract_lets +onlyGivenNames x; refine Within.cut (x := x.1) ?_ ?_; (on_goal 2 => (clear_value x; revert x; intro _ _)); (on_goal 1 => (unfold x; clear x)))
    | (extract_lets +onlyGivenNames x; clear_value x; revert x; intro _)
    | with_reducible refine State.memWrite_within ?_ ?_ _ _
    | split
    | (with_reducible refine Within.of_eq (by with_reducible assumption) ?_))

theorem State.openSeg_within {M : Foot} (hM : Foot.Sub 0x81a0000000000000000000000000000000000000000000000000000001000000000000000000000000000000000000000000000000000000000000000000020200000000000000000000 M) {s₀ s : State} (h_s : Within M s₀ s) (d : Nat) (a : Nat) (slot : Nat) (seq : Nat) (o : Nat)  :
    Within M s₀ (State.openSeg s d a slot seq o) := by
  unfold State.openSeg
  repeat' (first
    | with_reducible assumption
    | (refine Foot.Sub.has hM ?_; decide)
    | (refine Foot.Sub.trans ?_ hM; decide)
    | (extract_lets +onlyGivenNames x; refine Within.cut (x := x) ?_ ?_; (on_goal 2 => (clear_value x; revert x; intro _ _)); (on_goal 1 => (unfold x; clear x)))
    | (extract_lets +onlyGivenNames x; refine Within.cut (x := x.1) ?_ ?_; (on_goal 2 => (clear_value x; revert x; intro _ _)); (on_goal 1 => (unfold x; clear x)))
    | (extract_lets +onlyGivenNames x; clear_value x; revert x; intro _)
    | with_reducible refine State.setAcq_within ?_ ?_ _ _ _
    | with_reducible refine State.lcOpenRun_within ?_ ?_ _
    | with_reducible refine State.wr_within ?_ _ _ _ ?_
    | with_reducible refine State.clearValid_within ?_ ?_ _ _ _
    | with_reducible refine Within.on ?_ fun _ _ => ?_
    | split
    | with_reducible refine Within.set_library ?_ _ ?_
    | (with_reducible refine Within.of_eq (by with_reducible assumption) ?_)
    | (intro _))

theorem State.seqDisarm_within {M : Foot} (hM : Foot.Sub 0x200000000000000000 M) {s₀ s : State} (h_s : Within M s₀ s) (d : Nat)  :
    Within M s₀ (State.seqDisarm s d) := by
  unfold State.seqDisarm
  repeat' (first
    | with_reducible assumption
    | (refine Foot.Sub.has hM ?_; decide)
    | (refine Foot.Sub.trans ?_ hM; decide)
    | with_reducible refine State.wr_within ?_ _ _ _ ?_
    | with_reducible refine Within.on ?_ fun _ _ => ?_
    | with_reducible refine Within.foldl ?_ fun _ _ _ => ?_
    | with_reducible refine Within.foldl_fst ?_ fun _ _ _ => ?_
    | split
    | (with_reducible refine Within.of_eq (by with_reducible assumption) ?_)
    | (intro _))

theorem State.idleSet_within {M : Foot} (hM : Foot.Sub 0xc00018601a00000000000000000000000000000000000200000000830000000000000000000000000100027f9000000000000000000898000000000000000000a80000200200000000000000000 M) {s₀ s : State} (h_s : Within M s₀ s) (d : Nat) (a : Nat) (cause : Nat)  :
    Within M s₀ (State.idleSet s d a cause) := by
  unfold State.idleSet
  repeat' (first
    | with_reducible assumption
    | (refine Foot.Sub.has hM ?_; decide)
    | (refine Foot.Sub.trans ?_ hM; decide)
    | (split <;> (refine Foot.Sub.has hM ?_; decide))
    | (extract_lets +onlyGivenNames x; refine Within.cut (x := x) ?_ ?_; (on_goal 2 => (clear_value x; revert x; intro _ _)); (on_goal 1 => (unfold x; clear x)))
    | (extract_lets +onlyGivenNames x; refine Within.cut (x := x.1) ?_ ?_; (on_goal 2 => (clear_value x; revert x; intro _ _)); (on_goal 1 => (unfold x; clear x)))
    | (extract_lets +onlyGivenNames x; clear_value x; revert x; intro _)
    | with_reducible refine State.closeGap_within ?_ ?_ _ _
    | with_reducible refine State.setBuf_within ?_ ?_ _ _ _
    | with_reducible refine State.setAcq_within ?_ ?_ _ _ _
    | with_reducible refine State.wr_within ?_ _ _ _ ?_
    | with_reducible refine State.raiseAcqState_within ?_ ?_ _ _ _
    | with_reducible refine State.seqDisarm_within ?_ ?_ _
    | with_reducible refine Within.ite ?_ ?_
    | with_reducible refine Within.ite_fst ?_ ?_
    | split
    | (with_reducible refine Within.of_eq (by with_reducible assumption) ?_))

theorem State.completeSeg_within {M : Foot} (hM : Foot.Sub 0xc00018681a00000000000000000000000000000000000200000000830000000010000000000000000100027f9000000000000000000898000000000000000000a80020200200000000000000000 M) {s₀ s : State} (h_s : Within M s₀ s) (d : Nat) (a : Nat) (extra : Nat) (last : Bool)  :
    Within M s₀ (State.completeSeg s d a extra last) := by
  unfold State.completeSeg
  repeat' (first
    | with_reducible assumption
    | (refine Foot.Sub.has hM ?_; decide)
    | (refine Foot.Sub.trans ?_ hM; decide)
    | (split <;> (refine Foot.Sub.has hM ?_; decide))
    | (extract_lets +onlyGivenNames x; refine Within.cut (x := x) ?_ ?_; (on_goal 2 => (clear_value x; revert x; intro _ _)); (on_goal 1 => (unfold x; clear x)))
    | (extract_lets +onlyGivenNames x; refine Within.cut (x := x.1) ?_ ?_; (on_goal 2 => (clear_value x; revert x; intro _ _)); (on_goal 1 => (unfold x; clear x)))
    | (extract_lets +onlyGivenNames x; clear_value x; revert x; intro _)
    | with_reducible refine State.lcTrim_within ?_ ?_ _
    | with_reducible refine State.gapRecord_within ?_ ?_ _ _ _ _ _ _ _
    | with_reducible refine State.closeChunk_within ?_ ?_ _ _
    | with_reducible refine State.raise_within ?_ ?_ _ _ _
    | with_reducible refine State.setAcq_within ?_ ?_ _ _ _
    | with_reducible refine State.idleSet_within ?_ ?_ _ _ _
    | with_reducible refine State.wr_within ?_ _ _ _ ?_
    | with_reducible refine State.openSeg_within ?_ ?_ _ _ _ _ _
    | with_reducible refine Within.on ?_ fun _ _ => ?_
    | with_reducible refine Within.ite ?_ ?_
    | with_reducible refine Within.ite_fst ?_ ?_
    | split
    | (with_reducible refine Within.of_eq (by with_reducible assumption) ?_)
    | (intro _))

theorem State.beginSpill_within {M : Foot} (hM : Foot.Sub 0xc00018601000000000000000000000000000000000000200000000830000000000000000000000000000027f9000000000000000000898000000000000000001480000200000000000000000000 M) {s₀ s : State} (h_s : Within M s₀ s) (d : Nat) (a : Nat)  :
    Within M s₀ (State.beginSpill s d a) := by
  unfold State.beginSpill
  repeat' (first
    | with_reducible assumption
    | (refine Foot.Sub.has hM ?_; decide)
    | (refine Foot.Sub.trans ?_ hM; decide)
    | (extract_lets +onlyGivenNames x; refine Within.cut (x := x) ?_ ?_; (on_goal 2 => (clear_value x; revert x; intro _ _)); (on_goal 1 => (unfold x; clear x)))
    | (extract_lets +onlyGivenNames x; refine Within.cut (x := x.1) ?_ ?_; (on_goal 2 => (clear_value x; revert x; intro _ _)); (on_goal 1 => (unfold x; clear x)))
    | (extract_lets +onlyGivenNames x; clear_value x; revert x; intro _)
    | with_reducible refine State.setAcq_within ?_ ?_ _ _ _
    | with_reducible refine State.wr_within ?_ _ _ _ ?_
    | with_reducible refine State.raise_within ?_ ?_ _ _ _
    | with_reducible refine State.placeMark_within ?_ ?_ _ _ _ _ _ _
    | split
    | (with_reducible refine Within.of_eq (by with_reducible assumption) ?_))

theorem State.advanceSeg_within {M : Foot} (hM : Foot.Sub 0xc00018681a00000000000000000000000000000000000200000000830000000010000000000000000100027f9000000000000000000898000000000000000001e80020200200000000000000000 M) {s₀ s : State} (h_s : Within M s₀ s) (d : Nat) (a : Nat)  :
    Within M s₀ (State.advanceSeg s d a) := by
  unfold State.advanceSeg
  repeat' (first
    | with_reducible assumption
    | (refine Foot.Sub.has hM ?_; decide)
    | (refine Foot.Sub.trans ?_ hM; decide)
    | (extract_lets +onlyGivenNames x; refine Within.cut (x := x) ?_ ?_; (on_goal 2 => (clear_value x; revert x; intro _ _)); (on_goal 1 => (unfold x; clear x)))
    | (extract_lets +onlyGivenNames x; refine Within.cut (x := x.1) ?_ ?_; (on_goal 2 => (clear_value x; revert x; intro _ _)); (on_goal 1 => (unfold x; clear x)))
    | (extract_lets +onlyGivenNames x; clear_value x; revert x; intro _)
    | with_reducible refine State.gapRecord_within ?_ ?_ _ _ _ _ _ _ _
    | with_reducible refine State.beginSpill_within ?_ ?_ _ _
    | with_reducible refine State.completeSeg_within ?_ ?_ _ _ _ _
    | with_reducible refine Within.on ?_ fun _ _ => ?_
    | with_reducible refine Within.ite ?_ ?_
    | with_reducible refine Within.ite_fst ?_ ?_
    | split
    | (with_reducible refine Within.of_eq (by with_reducible assumption) ?_)
    | (intro _))

theorem State.acceptTrigger_within {M : Foot} (hM : Foot.Sub 0xc00018681a00000000000000000000000000000000000200000000830000000010000000000000000100027f9000000000000000000898000000000000000001e80020200200000000000000000 M) {s₀ s : State} (h_s : Within M s₀ s) (d : Nat) (a : Nat) (t : Nat) (desc : TrigDesc)  :
    Within M s₀ (State.acceptTrigger s d a t desc) := by
  unfold State.acceptTrigger
  repeat' (first
    | with_reducible assumption
    | (refine Foot.Sub.has hM ?_; decide)
    | (refine Foot.Sub.trans ?_ hM; decide)
    | (extract_lets +onlyGivenNames x; refine Within.cut (x := x) ?_ ?_; (on_goal 2 => (clear_value x; revert x; intro _ _)); (on_goal 1 => (unfold x; clear x)))
    | (extract_lets +onlyGivenNames x; refine Within.cut (x := x.1) ?_ ?_; (on_goal 2 => (clear_value x; revert x; intro _ _)); (on_goal 1 => (unfold x; clear x)))
    | (extract_lets +onlyGivenNames x; clear_value x; revert x; intro _)
    | with_reducible refine State.gapRecord_within ?_ ?_ _ _ _ _ _ _ _
    | with_reducible refine State.setAcq_within ?_ ?_ _ _ _
    | with_reducible refine State.wr_within ?_ _ _ _ ?_
    | with_reducible refine State.advanceSeg_within ?_ ?_ _ _
    | with_reducible refine Within.on ?_ fun _ _ => ?_
    | with_reducible refine Within.ite ?_ ?_
    | with_reducible refine Within.ite_fst ?_ ?_
    | split
    | (with_reducible refine Within.of_eq (by with_reducible assumption) ?_)
    | (intro _))

theorem State.setTrigger_within {M : Foot} (hM : Foot.Sub 0xc00018681a00000000000000000000000000000000000200000000830000000010000000000000000100027f9000000000000000000898000000000000000001e80030200200000000000000000 M) {s₀ s : State} (h_s : Within M s₀ s) (d : Nat) (a : Nat) (desc : TrigDesc)  :
    Within M s₀ (State.setTrigger s d a desc) := by
  unfold State.setTrigger
  repeat' (first
    | with_reducible assumption
    | (refine Foot.Sub.has hM ?_; decide)
    | (refine Foot.Sub.trans ?_ hM; decide)
    | (extract_lets +onlyGivenNames x; refine Within.cut (x := x) ?_ ?_; (on_goal 2 => (clear_value x; revert x; intro _ _)); (on_goal 1 => (unfold x; clear x)))
    | (extract_lets +onlyGivenNames x; refine Within.cut (x := x.1) ?_ ?_; (on_goal 2 => (clear_value x; revert x; intro _ _)); (on_goal 1 => (unfold x; clear x)))
    | (extract_lets +onlyGivenNames x; clear_value x; revert x; intro _)
    | with_reducible refine State.mark_within ?_ ?_ _ _ _ _ _ _ _
    | with_reducible refine State.setAcq_within ?_ ?_ _ _ _
    | with_reducible refine State.count_within ?_ ?_ _ _ _ ?_
    | with_reducible refine State.acceptTrigger_within ?_ ?_ _ _ _ _
    | with_reducible refine Within.ite ?_ ?_
    | with_reducible refine Within.ite_fst ?_ ?_
    | split
    | (with_reducible refine Within.of_eq (by with_reducible assumption) ?_))

theorem State.dropCommit_within {M : Foot} (hM : Foot.Sub 0xc00018681a00000000000000000000000000000000000200000000830000000010000000000000000100027f9000000000000000000898000000000000000001f80020200200000000000000000 M) {s₀ s : State} (h_s : Within M s₀ s) (d : Nat) (a : Nat) (cause : Nat)  :
    Within M s₀ (State.dropCommit s d a cause) := by
  unfold State.dropCommit
  repeat' (first
    | with_reducible assumption
    | (refine Foot.Sub.has hM ?_; decide)
    | (refine Foot.Sub.trans ?_ hM; decide)
    | (extract_lets +onlyGivenNames x; refine Within.cut (x := x) ?_ ?_; (on_goal 2 => (clear_value x; revert x; intro _ _)); (on_goal 1 => (unfold x; clear x)))
    | (extract_lets +onlyGivenNames x; refine Within.cut (x := x.1) ?_ ?_; (on_goal 2 => (clear_value x; revert x; intro _ _)); (on_goal 1 => (unfold x; clear x)))
    | (extract_lets +onlyGivenNames x; clear_value x; revert x; intro _)
    | with_reducible refine State.dropPos_within ?_ ?_ _ _ _ _ _
    | with_reducible refine State.settleMarks_within ?_ ?_ _ _ _ _ _
    | with_reducible refine State.inc_within ?_ _ _ ?_
    | with_reducible refine State.setAcq_within ?_ ?_ _ _ _
    | with_reducible refine State.advanceSeg_within ?_ ?_ _ _
    | with_reducible refine Within.on ?_ fun _ _ => ?_
    | with_reducible refine Within.ite ?_ ?_
    | with_reducible refine Within.ite_fst ?_ ?_
    | split
    | (with_reducible refine Within.of_eq (by with_reducible assumption) ?_)
    | (intro _))

theorem State.commitStream_within {M : Foot} (hM : Foot.Sub 0xc00018681a00000000000000000000000000000000000200000000830000000010000000000000000100027f9000000000000000000898000000000000000001f80020200200000000000000000 M) {s₀ s : State} (h_s : Within M s₀ s) (d : Nat) (a : Nat) (v : Nat)  :
    Within M s₀ (State.commitStream s d a v) := by
  unfold State.commitStream
  repeat' (first
    | with_reducible assumption
    | (refine Foot.Sub.has hM ?_; decide)
    | (refine Foot.Sub.trans ?_ hM; decide)
    | (extract_lets +onlyGivenNames x; refine Within.cut (x := x) ?_ ?_; (on_goal 2 => (clear_value x; revert x; intro _ _)); (on_goal 1 => (unfold x; clear x)))
    | (extract_lets +onlyGivenNames x; refine Within.cut (x := x.1) ?_ ?_; (on_goal 2 => (clear_value x; revert x; intro _ _)); (on_goal 1 => (unfold x; clear x)))
    | (extract_lets +onlyGivenNames x; clear_value x; revert x; intro _)
    | with_reducible refine State.dropCommit_within ?_ ?_ _ _ _
    | with_reducible refine State.setBackpressure_within ?_ ?_ _ _ _
    | with_reducible refine State.closeGap_within ?_ ?_ _ _
    | with_reducible refine State.bufAppend_within ?_ ?_ _ _ _ _ _ _
    | with_reducible refine State.settleMarks_within ?_ ?_ _ _ _ _ _
    | with_reducible refine State.inc_within ?_ _ _ ?_
    | with_reducible refine State.setAcq_within ?_ ?_ _ _ _
    | with_reducible refine State.advanceSeg_within ?_ ?_ _ _
    | with_reducible refine Within.ite ?_ ?_
    | with_reducible refine Within.ite_fst ?_ ?_
    | split
    | (with_reducible refine Within.of_eq (by with_reducible assumption) ?_))

theorem State.commitSlot_within {M : Foot} (hM : Foot.Sub 0xc00018681a00000000000000000000000000000000000200000000830000000010000000000000000100027f9000000000000000000898000000000000000001e80020200200000000000000000 M) {s₀ s : State} (h_s : Within M s₀ s) (d : Nat) (a : Nat) (v : Nat)  :
    Within M s₀ (State.commitSlot s d a v) := by
  unfold State.commitSlot
  repeat' (first
    | with_reducible assumption
    | (refine Foot.Sub.has hM ?_; decide)
    | (refine Foot.Sub.trans ?_ hM; decide)
    | (extract_lets +onlyGivenNames x; refine Within.cut (x := x) ?_ ?_; (on_goal 2 => (clear_value x; revert x; intro _ _)); (on_goal 1 => (unfold x; clear x)))
    | (extract_lets +onlyGivenNames x; refine Within.cut (x := x.1) ?_ ?_; (on_goal 2 => (clear_value x; revert x; intro _ _)); (on_goal 1 => (unfold x; clear x)))
    | (extract_lets +onlyGivenNames x; clear_value x; revert x; intro _)
    | with_reducible refine State.closeGap_within ?_ ?_ _ _
    | with_reducible refine State.writeSample_within ?_ ?_ _ _ _ _ _ _
    | with_reducible refine State.settleMarks_within ?_ ?_ _ _ _ _ _
    | with_reducible refine State.setAcq_within ?_ ?_ _ _ _
    | with_reducible refine State.advanceSeg_within ?_ ?_ _ _
    | split
    | (with_reducible refine Within.of_eq (by with_reducible assumption) ?_))

theorem State.lcPass_within {M : Foot} (hM : Foot.Sub 0xc00018681a00000000000000000000000000000000000200000000830000000010000000000000000100027f9000000000000000000898000000000000000001f80020200200000000000000000 M) {s₀ s : State} (h_s : Within M s₀ s) (d : Nat) (tick : Nat)  :
    Within M s₀ (State.lcPass s d tick) := by
  unfold State.lcPass
  repeat' (first
    | with_reducible assumption
    | (refine Foot.Sub.has hM ?_; decide)
    | (refine Foot.Sub.trans ?_ hM; decide)
    | (extract_lets +onlyGivenNames x; refine Within.cut (x := x) ?_ ?_; (on_goal 2 => (clear_value x; revert x; intro _ _)); (on_goal 1 => (unfold x; clear x)))
    | (extract_lets +onlyGivenNames x; refine Within.cut (x := x.1) ?_ ?_; (on_goal 2 => (clear_value x; revert x; intro _ _)); (on_goal 1 => (unfold x; clear x)))
    | (extract_lets +onlyGivenNames x; clear_value x; revert x; intro _)
    | with_reducible refine State.settleMarks_within ?_ ?_ _ _ _ _ _
    | with_reducible refine State.setAcq_within ?_ ?_ _ _ _
    | with_reducible refine State.wr_within ?_ _ _ _ ?_
    | with_reducible refine State.advanceSeg_within ?_ ?_ _ _
    | with_reducible refine Within.ite ?_ ?_
    | with_reducible refine Within.ite_fst ?_ ?_
    | split
    | (with_reducible refine Within.of_eq (by with_reducible assumption) ?_))

theorem State.lcRecord_within {M : Foot} (hM : Foot.Sub 0xc00018681a00000000000000000000000000000000000200000000830000000010000000000000000100027f9000000000000000000898000000000000000001f80020200200000000000000000 M) {s₀ s : State} (h_s : Within M s₀ s) (d : Nat) (tick : Nat) (state : Nat) (mask : Nat)  :
    Within M s₀ (State.lcRecord s d tick state mask) := by
  unfold State.lcRecord
  repeat' (first
    | with_reducible assumption
    | (refine Foot.Sub.has hM ?_; decide)
    | (refine Foot.Sub.trans ?_ hM; decide)
    | (extract_lets +onlyGivenNames x; refine Within.cut (x := x) ?_ ?_; (on_goal 2 => (clear_value x; revert x; intro _ _)); (on_goal 1 => (unfold x; clear x)))
    | (extract_lets +onlyGivenNames x; refine Within.cut (x := x.1) ?_ ?_; (on_goal 2 => (clear_value x; revert x; intro _ _)); (on_goal 1 => (unfold x; clear x)))
    | (extract_lets +onlyGivenNames x; clear_value x; revert x; intro _)
    | with_reducible refine State.lcPass_within ?_ ?_ _ _
    | with_reducible refine State.lcOpenGap_within ?_ ?_ _ _
    | with_reducible refine State.lcStreamRecord_within ?_ ?_ _ _ _
    | with_reducible refine State.lcSlotRecord_within ?_ ?_ _ _ _
    | with_reducible refine State.setAcq_within ?_ ?_ _ _ _
    | with_reducible refine Within.on ?_ fun _ _ => ?_
    | with_reducible refine Within.ite ?_ ?_
    | with_reducible refine Within.ite_fst ?_ ?_
    | split
    | (with_reducible refine Within.of_eq (by with_reducible assumption) ?_)
    | (intro _))

theorem State.lcEscape_within {M : Foot} (hM : Foot.Sub 0xc00018601200000000000000000000000000000000000200000000830000000000000000000000000000027f9000000000000000000898000000000000000000280000000000000000000000000 M) {s₀ s : State} (h_s : Within M s₀ s) (d : Nat)  :
    Within M s₀ (State.lcEscape s d) := by
  unfold State.lcEscape
  repeat' (first
    | with_reducible assumption
    | (refine Foot.Sub.has hM ?_; decide)
    | (refine Foot.Sub.trans ?_ hM; decide)
    | (extract_lets +onlyGivenNames x; refine Within.cut (x := x) ?_ ?_; (on_goal 2 => (clear_value x; revert x; intro _ _)); (on_goal 1 => (unfold x; clear x)))
    | (extract_lets +onlyGivenNames x; refine Within.cut (x := x.1) ?_ ?_; (on_goal 2 => (clear_value x; revert x; intro _ _)); (on_goal 1 => (unfold x; clear x)))
    | (extract_lets +onlyGivenNames x; clear_value x; revert x; intro _)
    | with_reducible refine State.lcStreamRecord_within ?_ ?_ _ _ _
    | with_reducible refine State.lcSlotRecord_within ?_ ?_ _ _ _
    | with_reducible refine State.setAcq_within ?_ ?_ _ _ _
    | with_reducible refine Within.ite ?_ ?_
    | with_reducible refine Within.ite_fst ?_ ?_
    | split
    | (with_reducible refine Within.of_eq (by with_reducible assumption) ?_))

theorem State.commitSample_within {M : Foot} (hM : Foot.Sub 0xc00018681a00000000000000000000000000000000000200000000830000000010000000000000000100027f9000000000000000000898000000000000000001f80020200200000000000000000 M) {s₀ s : State} (h_s : Within M s₀ s) (d : Nat) (a : Nat) (v : Nat)  :
    Within M s₀ (State.commitSample s d a v) := by
  unfold State.commitSample
  repeat' (first
    | with_reducible assumption
    | (refine Foot.Sub.has hM ?_; decide)
    | (refine Foot.Sub.trans ?_ hM; decide)
    | (extract_lets +onlyGivenNames x; refine Within.cut (x := x) ?_ ?_; (on_goal 2 => (clear_value x; revert x; intro _ _)); (on_goal 1 => (unfold x; clear x)))
    | (extract_lets +onlyGivenNames x; refine Within.cut (x := x.1) ?_ ?_; (on_goal 2 => (clear_value x; revert x; intro _ _)); (on_goal 1 => (unfold x; clear x)))
    | (extract_lets +onlyGivenNames x; clear_value x; revert x; intro _)
    | with_reducible refine State.dropCommit_within ?_ ?_ _ _ _
    | with_reducible refine State.commitStream_within ?_ ?_ _ _ _
    | with_reducible refine State.commitSlot_within ?_ ?_ _ _ _
    | with_reducible refine Within.ite ?_ ?_
    | with_reducible refine Within.ite_fst ?_ ?_
    | split
    | (with_reducible refine Within.of_eq (by with_reducible assumption) ?_))

theorem State.endSet_within {M : Foot} (hM : Foot.Sub 0xc00018681a00000000000000000000000000000000000200000000830000000010000000000000000100027f9000000000000000000898000000000000000000a80020200200000000000000000 M) {s₀ s : State} (h_s : Within M s₀ s) (d : Nat) (a : Nat) (cause : Nat)  :
    Within M s₀ (State.endSet s d a cause) := by
  unfold State.endSet
  repeat' (first
    | with_reducible assumption
    | (refine Foot.Sub.has hM ?_; decide)
    | (refine Foot.Sub.trans ?_ hM; decide)
    | (extract_lets +onlyGivenNames x; refine Within.cut (x := x) ?_ ?_; (on_goal 2 => (clear_value x; revert x; intro _ _)); (on_goal 1 => (unfold x; clear x)))
    | (extract_lets +onlyGivenNames x; refine Within.cut (x := x.1) ?_ ?_; (on_goal 2 => (clear_value x; revert x; intro _ _)); (on_goal 1 => (unfold x; clear x)))
    | (extract_lets +onlyGivenNames x; clear_value x; revert x; intro _)
    | with_reducible refine State.closeGap_within ?_ ?_ _ _
    | with_reducible refine State.gapRecord_within ?_ ?_ _ _ _ _ _ _ _
    | with_reducible refine State.completeSeg_within ?_ ?_ _ _ _ _
    | with_reducible refine State.idleSet_within ?_ ?_ _ _ _
    | with_reducible refine Within.on ?_ fun _ _ => ?_
    | with_reducible refine Within.ite ?_ ?_
    | with_reducible refine Within.ite_fst ?_ ?_
    | split
    | (with_reducible refine Within.of_eq (by with_reducible assumption) ?_)
    | (intro _))

theorem State.writeRecord_within {M : Foot} (hM : Foot.Sub 0xc00018681a00000000000000000000000000000000000200000000830000000000000000000000000000027f9000000000000000000898000000000000000000000008000000000000000000000 M) {s₀ s : State} (h_s : Within M s₀ s) (d : Nat) (a : Nat) (r : SegRec)  :
    Within M s₀ (State.writeRecord s d a r) := by
  unfold State.writeRecord
  repeat' (first
    | with_reducible assumption
    | (refine Foot.Sub.has hM ?_; decide)
    | (refine Foot.Sub.trans ?_ hM; decide)
    | (extract_lets +onlyGivenNames x; refine Within.cut (x := x) ?_ ?_; (on_goal 2 => (clear_value x; revert x; intro _ _)); (on_goal 1 => (unfold x; clear x)))
    | (extract_lets +onlyGivenNames x; refine Within.cut (x := x.1) ?_ ?_; (on_goal 2 => (clear_value x; revert x; intro _ _)); (on_goal 1 => (unfold x; clear x)))
    | (extract_lets +onlyGivenNames x; clear_value x; revert x; intro _)
    | with_reducible refine State.count_within ?_ ?_ _ _ _ ?_
    | with_reducible refine State.memWrite_within ?_ ?_ _ _
    | with_reducible refine State.setAcq_within ?_ ?_ _ _ _
    | with_reducible refine State.inc_within ?_ _ _ ?_
    | with_reducible refine State.raise_within ?_ ?_ _ _ _
    | with_reducible refine Within.on ?_ fun _ _ => ?_
    | split
    | with_reducible refine Within.set_library ?_ _ ?_
    | (with_reducible refine Within.of_eq (by with_reducible assumption) ?_)
    | (intro _))

theorem State.resumeQueue_within {M : Foot} (hM : Foot.Sub 0xc00018681a00000000000000000000000000000000000200000000830000000010000000000000000100027f9000000000000000000898000000000000000000a80020200000000000000000000 M) {s₀ s : State} (h_s : Within M s₀ s) (d : Nat) (a : Nat)  :
    Within M s₀ (State.resumeQueue s d a) := by
  unfold State.resumeQueue
  repeat' (first
    | with_reducible assumption
    | (refine Foot.Sub.has hM ?_; decide)
    | (refine Foot.Sub.trans ?_ hM; decide)
    | (extract_lets +onlyGivenNames x; refine Within.cut (x := x) ?_ ?_; (on_goal 2 => (clear_value x; revert x; intro _ _)); (on_goal 1 => (unfold x; clear x)))
    | (extract_lets +onlyGivenNames x; refine Within.cut (x := x.1) ?_ ?_; (on_goal 2 => (clear_value x; revert x; intro _ _)); (on_goal 1 => (unfold x; clear x)))
    | (extract_lets +onlyGivenNames x; clear_value x; revert x; intro _)
    | with_reducible refine State.closeGap_within ?_ ?_ _ _
    | with_reducible refine State.setAcq_within ?_ ?_ _ _ _
    | with_reducible refine State.openSeg_within ?_ ?_ _ _ _ _ _
    | with_reducible refine Within.on ?_ fun _ _ => ?_
    | split
    | (with_reducible refine Within.of_eq (by with_reducible assumption) ?_)
    | (intro _))

end Sys2Proof.Machine
end

