-- ==== Sys2Proof/Laws/HostOpsWithin.lean ====
section
/-!
SUPPORT. What each operation of Machine/HostOps.lean may change (`Within`), and that it keeps the state sound.
-/

namespace Sys2Proof.Machine

set_option linter.all false

theorem State.hostWrite_within {M : Foot} {s₀ s : State} (h_s : Within M s₀ s) (d : Nat) (f : State → State) (h_f : ∀ u, Within M s₀ u → Within M s₀ (f u)) :
    Within M s₀ (State.hostWrite s d f) := by
  unfold State.hostWrite
  repeat' (first
    | with_reducible assumption
    | with_reducible refine Within.on ?_ fun _ _ => ?_
    | split
    | with_reducible apply h_f
    | (with_reducible refine Within.of_eq (by with_reducible assumption) ?_)
    | (intro _))

theorem State.hostStatus_within {M : Foot} {s₀ s : State} (h_s : Within M s₀ s) (d : Nat) (f : State → State × Nat) (h_f : ∀ u, Within M s₀ u → Within M s₀ (f u).1) :
    Within M s₀ (State.hostStatus s d f) := by
  unfold State.hostStatus
  repeat' (first
    | with_reducible assumption
    | with_reducible refine State.hostWrite_within ?_ _ _ ?_
    | split
    | with_reducible apply h_f
    | (with_reducible refine Within.of_eq (by with_reducible assumption) ?_)
    | (intro _))

theorem State.packageWrite_within {M : Foot} {s₀ s : State} (h_s : Within M s₀ s) (d : Nat) (f : State → State) (h_f : ∀ u, Within M s₀ u → Within M s₀ (f u)) :
    Within M s₀ (State.packageWrite s d f) := by
  unfold State.packageWrite
  exact State.hostWrite_within h_s d _ fun u hu => Within.on hu h_f

theorem State.clear1_within {M : Foot} {s₀ s : State} (h_s : Within M s₀ s) (f : Fld) (ix : List Nat) (bit : Bool) (h_f : M.testBit f.reg.ctorIdx = true) :
    Within M s₀ (State.clear1 s f ix bit) := by
  unfold State.clear1
  repeat' (first
    | with_reducible assumption
    | with_reducible refine State.wr_within ?_ _ _ _ ?_
    | with_reducible refine Within.on ?_ fun _ _ => ?_
    | split
    | (with_reducible refine Within.of_eq (by with_reducible assumption) ?_)
    | (intro _))

end Sys2Proof.Machine
end

