-- ==== Sys2Proof/Laws/AcquireWithin.lean ====
section
/-!
SUPPORT. What each operation of Machine/Acquire.lean may change (`Within`), and that it keeps the state sound.
-/

namespace Sys2Proof.Machine

set_option linter.all false

theorem State.acqCmd_within {M : Foot} (hM : Foot.Sub 0x40000000000000000000000000000000000000000000000000000000000000000000000000000000000000000000000000000000000000000000000000000000000000200000000000000000000 M) {s₀ s : State} (h_s : Within M s₀ s) (d : Nat) (a : Nat) (v : Nat) (f : State → State) (h_f : ∀ u, Within M s₀ u → Within M s₀ (f u)) :
    Within M s₀ (State.acqCmd s d a v f) := by
  unfold State.acqCmd
  repeat' (first
    | with_reducible assumption
    | (refine Foot.Sub.has hM ?_; decide)
    | (refine Foot.Sub.trans ?_ hM; decide)
    | with_reducible refine State.hostWrite_within ?_ _ _ ?_
    | with_reducible refine State.flag_within ?_ ?_ _ _ ?_
    | with_reducible refine Within.ite ?_ ?_
    | with_reducible refine Within.ite_fst ?_ ?_
    | split
    | with_reducible apply h_f
    | (with_reducible refine Within.of_eq (by with_reducible assumption) ?_)
    | (intro _))

end Sys2Proof.Machine
end

