-- ==== Sys2Proof/Laws/HarvestOpsWithin.lean ====
section
/-!
SUPPORT. What each operation of Machine/HarvestOps.lean may change (`Within`), and that it keeps the state sound.
-/

namespace Sys2Proof.Machine

set_option linter.all false

theorem State.syncDomains_within {M : Foot} (hM : Foot.Sub 0x8000000000000000000000000000000000000000000000000000 M) {s₀ s : State} (h_s : Within M s₀ s)   :
    Within M s₀ (State.syncDomains s) := by
  unfold State.syncDomains
  repeat' (first
    | with_reducible assumption
    | (refine Foot.Sub.has hM ?_; decide)
    | (refine Foot.Sub.trans ?_ hM; decide)
    | with_reducible refine State.wr_within ?_ _ _ _ ?_
    | with_reducible refine Within.each ?_ fun _ _ _ => ?_
    | with_reducible refine Within.foldl ?_ fun _ _ _ => ?_
    | with_reducible refine Within.foldl_fst ?_ fun _ _ _ => ?_
    | with_reducible refine Within.ite ?_ ?_
    | with_reducible refine Within.ite_fst ?_ ?_
    | split
    | (with_reducible refine Within.of_eq (by with_reducible assumption) ?_))

theorem State.syncMnt_within {M : Foot} (hM : Foot.Sub 0x1c000000000000000000000000000000000000000000000000000000000 M) {s₀ s : State} (h_s : Within M s₀ s)   :
    Within M s₀ (State.syncMnt s) := by
  unfold State.syncMnt
  repeat' (first
    | with_reducible assumption
    | (refine Foot.Sub.has hM ?_; decide)
    | (refine Foot.Sub.trans ?_ hM; decide)
    | (extract_lets +onlyGivenNames x; refine Within.cut (x := x) ?_ ?_; (on_goal 2 => (clear_value x; revert x; intro _ _)); (on_goal 1 => (unfold x; clear x)))
    | (extract_lets +onlyGivenNames x; refine Within.cut (x := x.1) ?_ ?_; (on_goal 2 => (clear_value x; revert x; intro _ _)); (on_goal 1 => (unfold x; clear x)))
    | (extract_lets +onlyGivenNames x; clear_value x; revert x; intro _)
    | with_reducible refine State.wr_within ?_ _ _ _ ?_
    | with_reducible refine Within.each ?_ fun _ _ _ => ?_
    | split
    | (with_reducible refine Within.of_eq (by with_reducible assumption) ?_))

theorem State.claim_within {M : Foot} (hM : Foot.Sub 0xc00618600000000000000000000000000000000000000200000000830000000000000000000000000000027f900000001c000000000898000000000000000000000000000000000000000000000 M) {s₀ s : State} (h_s : Within M s₀ s) (c : Claim)  :
    Within M s₀ (State.claim s c) := by
  unfold State.claim
  repeat' (first
    | with_reducible assumption
    | (refine Foot.Sub.has hM ?_; decide)
    | (refine Foot.Sub.trans ?_ hM; decide)
    | (extract_lets +onlyGivenNames x; refine Within.cut (x := x) ?_ ?_; (on_goal 2 => (clear_value x; revert x; intro _ _)); (on_goal 1 => (unfold x; clear x)))
    | (extract_lets +onlyGivenNames x; refine Within.cut (x := x.1) ?_ ?_; (on_goal 2 => (clear_value x; revert x; intro _ _)); (on_goal 1 => (unfold x; clear x)))
    | (extract_lets +onlyGivenNames x; clear_value x; revert x; intro _)
    | with_reducible refine State.syncMnt_within ?_ ?_
    | with_reducible refine State.raise_within ?_ ?_ _ _ _
    | with_reducible refine Within.ite ?_ ?_
    | with_reducible refine Within.ite_fst ?_ ?_
    | split
    | with_reducible refine Within.set_running ?_ _ ?_
    | with_reducible refine Within.set_waiting ?_ _ ?_
    | with_reducible refine Within.set_claims ?_ _ _ ?_ ?_
    | (with_reducible refine Within.of_eq (by with_reducible assumption) ?_))

theorem State.release_within {M : Foot} (hM : Foot.Sub 0x6000000000000000000000000000000000000000000000000000000000000000000000000000000000000000000001c000000000000000000000000000000000000000000000000000000000 M) {s₀ s : State} (h_s : Within M s₀ s) (a : Activity)  :
    Within M s₀ (State.release s a) := by
  unfold State.release
  repeat' (first
    | with_reducible assumption
    | (refine Foot.Sub.has hM ?_; decide)
    | (refine Foot.Sub.trans ?_ hM; decide)
    | (extract_lets +onlyGivenNames x; refine Within.cut (x := x) ?_ ?_; (on_goal 2 => (clear_value x; revert x; intro _ _)); (on_goal 1 => (unfold x; clear x)))
    | (extract_lets +onlyGivenNames x; refine Within.cut (x := x.1) ?_ ?_; (on_goal 2 => (clear_value x; revert x; intro _ _)); (on_goal 1 => (unfold x; clear x)))
    | (extract_lets +onlyGivenNames x; clear_value x; revert x; intro _)
    | with_reducible refine State.syncMnt_within ?_ ?_
    | split
    | with_reducible refine Within.set_running ?_ _ ?_
    | with_reducible refine Within.set_waiting ?_ _ ?_
    | with_reducible refine Within.set_claims ?_ _ _ ?_ ?_
    | (with_reducible refine Within.of_eq (by with_reducible assumption) ?_))

theorem State.beginInterval_within {M : Foot} (hM : Foot.Sub 0x38000000000000000000000000000000000000000000000000000000000000000000000000000000000000 M) {s₀ s : State} (h_s : Within M s₀ s) (d : Nat) (c : Nat)  :
    Within M s₀ (State.beginInterval s d c) := by
  unfold State.beginInterval
  repeat' (first
    | with_reducible assumption
    | (refine Foot.Sub.has hM ?_; decide)
    | (refine Foot.Sub.trans ?_ hM; decide)
    | with_reducible refine State.wr_within ?_ _ _ _ ?_
    | split
    | (with_reducible refine Within.of_eq (by with_reducible assumption) ?_))

theorem State.cardDrop_within {M : Foot} (hM : Foot.Sub 0x186000000000000000000000000000000000000000000000000000000000000000000800000000000000000000000001c000000000000000000000000000000000000000000000000000000000 M) {s₀ s : State} (h_s : Within M s₀ s) (d : Nat) (c : Nat)  :
    Within M s₀ (State.cardDrop s d c) := by
  unfold State.cardDrop
  repeat' (first
    | with_reducible assumption
    | (refine Foot.Sub.has hM ?_; decide)
    | (refine Foot.Sub.trans ?_ hM; decide)
    | (extract_lets +onlyGivenNames x; refine Within.cut (x := x) ?_ ?_; (on_goal 2 => (clear_value x; revert x; intro _ _)); (on_goal 1 => (unfold x; clear x)))
    | (extract_lets +onlyGivenNames x; refine Within.cut (x := x.1) ?_ ?_; (on_goal 2 => (clear_value x; revert x; intro _ _)); (on_goal 1 => (unfold x; clear x)))
    | (extract_lets +onlyGivenNames x; clear_value x; revert x; intro _)
    | with_reducible refine State.wr_within ?_ _ _ _ ?_
    | with_reducible refine State.release_within ?_ ?_ _
    | split
    | with_reducible refine Within.set_cardErrs ?_ _ ?_
    | with_reducible refine Within.set_tapMoves ?_ _ ?_
    | with_reducible refine Within.set_cards ?_ _ _ ?_ ?_
    | (with_reducible refine Within.of_eq (by with_reducible assumption) ?_))

theorem State.suspendCard_within {M : Foot} (hM : Foot.Sub 0x186000000000000000000000000000000000000000000000000000000000000000008800000000000000400000000001c000000000000000000000000000000000000000000000000080000000 M) {s₀ s : State} (h_s : Within M s₀ s) (d : Nat) (c : Nat)  :
    Within M s₀ (State.suspendCard s d c) := by
  unfold State.suspendCard
  repeat' (first
    | with_reducible assumption
    | (refine Foot.Sub.has hM ?_; decide)
    | (refine Foot.Sub.trans ?_ hM; decide)
    | (extract_lets +onlyGivenNames x; refine Within.cut (x := x) ?_ ?_; (on_goal 2 => (clear_value x; revert x; intro _ _)); (on_goal 1 => (unfold x; clear x)))
    | (extract_lets +onlyGivenNames x; refine Within.cut (x := x.1) ?_ ?_; (on_goal 2 => (clear_value x; revert x; intro _ _)); (on_goal 1 => (unfold x; clear x)))
    | (extract_lets +onlyGivenNames x; clear_value x; revert x; intro _)
    | with_reducible refine State.wr_within ?_ _ _ _ ?_
    | with_reducible refine State.cardDrop_within ?_ ?_ _ _
    | with_reducible refine Within.on ?_ fun _ _ => ?_
    | split
    | (with_reducible refine Within.of_eq (by with_reducible assumption) ?_)
    | (intro _))

theorem State.resumeCard_within {M : Foot} (hM : Foot.Sub 0x78000000000000004000000000000000000000000000000000000000000000000000000000000080000000 M) {s₀ s : State} (h_s : Within M s₀ s) (d : Nat) (c : Nat)  :
    Within M s₀ (State.resumeCard s d c) := by
  unfold State.resumeCard
  repeat' (first
    | with_reducible assumption
    | (refine Foot.Sub.has hM ?_; decide)
    | (refine Foot.Sub.trans ?_ hM; decide)
    | with_reducible refine State.wr_within ?_ _ _ _ ?_
    | with_reducible refine State.beginInterval_within ?_ ?_ _ _
    | with_reducible refine Within.on ?_ fun _ _ => ?_
    | split
    | (with_reducible refine Within.of_eq (by with_reducible assumption) ?_)
    | (intro _))

theorem State.cmpSettle_within {M : Foot} (hM : Foot.Sub 0x800000000000000000000000000000000000000000000000000000000000040000000000000000000000000000000000000000000 M) {s₀ s : State} (h_s : Within M s₀ s) (d : Nat) (u : Nat) (old : Nat) (new : Nat)  :
    Within M s₀ (State.cmpSettle s d u old new) := by
  unfold State.cmpSettle
  repeat' (first
    | with_reducible assumption
    | (refine Foot.Sub.has hM ?_; decide)
    | (refine Foot.Sub.trans ?_ hM; decide)
    | (split <;> (refine Foot.Sub.has hM ?_; decide))
    | (extract_lets +onlyGivenNames x; refine Within.cut (x := x) ?_ ?_; (on_goal 2 => (clear_value x; revert x; intro _ _)); (on_goal 1 => (unfold x; clear x)))
    | (extract_lets +onlyGivenNames x; refine Within.cut (x := x.1) ?_ ?_; (on_goal 2 => (clear_value x; revert x; intro _ _)); (on_goal 1 => (unfold x; clear x)))
    | (extract_lets +onlyGivenNames x; clear_value x; revert x; intro _)
    | with_reducible refine State.wr_within ?_ _ _ _ ?_
    | with_reducible refine Within.ite ?_ ?_
    | with_reducible refine Within.ite_fst ?_ ?_
    | split
    | (with_reducible refine Within.of_eq (by with_reducible assumption) ?_))

theorem State.derateStep_within {M : Foot} (hM : Foot.Sub 0xc18618600000000000000000000000000000000000000200008000830000000000000880000000000000067f900000001c000000000898040000000000008000000000000000000000080000000 M) {s₀ s : State} (h_s : Within M s₀ s) (k : Nat) (d : Nat)  :
    Within M s₀ (State.derateStep s k d).1 := by
  unfold State.derateStep
  repeat' (first
    | with_reducible assumption
    | (refine Foot.Sub.has hM ?_; decide)
    | (refine Foot.Sub.trans ?_ hM; decide)
    | (extract_lets +onlyGivenNames x; refine Within.cut (x := x) ?_ ?_; (on_goal 2 => (clear_value x; revert x; intro _ _)); (on_goal 1 => (unfold x; clear x)))
    | (extract_lets +onlyGivenNames x; refine Within.cut (x := x.1) ?_ ?_; (on_goal 2 => (clear_value x; revert x; intro _ _)); (on_goal 1 => (unfold x; clear x)))
    | (extract_lets +onlyGivenNames x; clear_value x; revert x; intro _)
    | with_reducible refine State.wr_within ?_ _ _ _ ?_
    | with_reducible refine State.suspendCard_within ?_ ?_ _ _
    | with_reducible refine State.cmpSettle_within ?_ ?_ _ _ _ _
    | with_reducible refine State.raise_within ?_ ?_ _ _ _
    | with_reducible refine Within.each ?_ fun _ _ _ => ?_
    | with_reducible refine Within.foldl ?_ fun _ _ _ => ?_
    | with_reducible refine Within.foldl_fst ?_ fun _ _ _ => ?_
    | with_reducible refine Within.ite ?_ ?_
    | with_reducible refine Within.ite_fst ?_ ?_
    | split
    | (with_reducible refine Within.of_eq (by with_reducible assumption) ?_))

theorem State.derateUp_within {M : Foot} (hM : Foot.Sub 0xc18698600000000000000000000000000000000000000200008000830000000000000880000000000000067f900000001c00c000000898040000000000008000000000000000000000080000000 M) {s₀ s : State} (h_s : Within M s₀ s) (d : Nat)  :
    Within M s₀ (State.derateUp s d) := by
  unfold State.derateUp
  repeat' (first
    | with_reducible assumption
    | (refine Foot.Sub.has hM ?_; decide)
    | (refine Foot.Sub.trans ?_ hM; decide)
    | (extract_lets +onlyGivenNames x; refine Within.cut (x := x) ?_ ?_; (on_goal 2 => (clear_value x; revert x; intro _ _)); (on_goal 1 => (unfold x; clear x)))
    | (extract_lets +onlyGivenNames x; refine Within.cut (x := x.1) ?_ ?_; (on_goal 2 => (clear_value x; revert x; intro _ _)); (on_goal 1 => (unfold x; clear x)))
    | (extract_lets +onlyGivenNames x; clear_value x; revert x; intro _)
    | with_reducible refine State.derateStep_within ?_ ?_ _ _
    | with_reducible refine State.wr_within ?_ _ _ _ ?_
    | with_reducible refine State.addSat_within ?_ _ _ _ ?_
    | with_reducible refine State.raisePkg_within ?_ ?_ _ _
    | with_reducible refine Within.ite ?_ ?_
    | with_reducible refine Within.ite_fst ?_ ?_
    | split
    | with_reducible refine Within.set_deratedAt ?_ _ ?_
    | (with_reducible refine Within.of_eq (by with_reducible assumption) ?_))

theorem State.derateDown_within {M : Foot} (hM : Foot.Sub 0xc00018600000000000000000000000000000000000000200008000830000000000000780000000000000067f9000000000008000000898040000000000008000000000000000000000080000000 M) {s₀ s : State} (h_s : Within M s₀ s)   :
    Within M s₀ (State.derateDown s) := by
  unfold State.derateDown
  repeat' (first
    | with_reducible assumption
    | (refine Foot.Sub.has hM ?_; decide)
    | (refine Foot.Sub.trans ?_ hM; decide)
    | (split <;> (refine Foot.Sub.has hM ?_; decide))
    | (extract_lets +onlyGivenNames x; refine Within.cut (x := x) ?_ ?_; (on_goal 2 => (clear_value x; revert x; intro _ _)); (on_goal 1 => (unfold x; clear x)))
    | (extract_lets +onlyGivenNames x; refine Within.cut (x := x.1) ?_ ?_; (on_goal 2 => (clear_value x; revert x; intro _ _)); (on_goal 1 => (unfold x; clear x)))
    | (extract_lets +onlyGivenNames x; clear_value x; revert x; intro _)
    | with_reducible refine State.wr_within ?_ _ _ _ ?_
    | with_reducible refine State.resumeCard_within ?_ ?_ _ _
    | with_reducible refine State.cmpSettle_within ?_ ?_ _ _ _ _
    | with_reducible refine State.wrBool_within ?_ _ _ _ ?_
    | with_reducible refine State.raise_within ?_ ?_ _ _ _
    | with_reducible refine State.raisePkg_within ?_ ?_ _ _
    | with_reducible refine Within.on ?_ fun _ _ => ?_
    | with_reducible refine Within.each ?_ fun _ _ _ => ?_
    | with_reducible refine Within.ite ?_ ?_
    | with_reducible refine Within.ite_fst ?_ ?_
    | split
    | (with_reducible refine Within.of_eq (by with_reducible assumption) ?_)
    | (intro _))

theorem State.charge_within {M : Foot} (hM : Foot.Sub 0x2000000000000000000000000000000000000000000000000000000000000000000000000000000000000000000000004000000000000000000000000000000000000000000000000000000 M) {s₀ s : State} (h_s : Within M s₀ s) (dies : List Nat) (dp : Int) (e : Nat)  :
    Within M s₀ (State.charge s dies dp e) := by
  unfold State.charge
  extract_lets mw mj take
  have hx : Within M s₀ (List.foldl take (s, mw, mj) dies).1 := Within.foldl_fst h_s fun q x hq =>
    State.wr_within (State.wr_within hq _ _ _ (hM.has (i := Reg.ctorIdx .HVS_SHARE) (by decide))) _ _ _
      (hM.has (i := Reg.ctorIdx .HVS_SHARE) (by decide))
  exact Within.set_committed hx _ (hM.has (by decide))

theorem State.commitAgain_within {M : Foot} (hM : Foot.Sub 0x2000000000000000000000000000000000000000000000000000000000000000000000000000000000000000000000000000000000000000000000000000000000000000000000000000000 M) {s₀ s : State} (h_s : Within M s₀ s) (mw : Nat)  :
    Within M s₀ (State.commitAgain s mw) := by
  unfold State.commitAgain
  repeat' (first
    | with_reducible assumption
    | (refine Foot.Sub.has hM ?_; decide)
    | (refine Foot.Sub.trans ?_ hM; decide)
    | (extract_lets +onlyGivenNames x; refine Within.cut (x := x) ?_ ?_; (on_goal 2 => (clear_value x; revert x; intro _ _)); (on_goal 1 => (unfold x; clear x)))
    | (extract_lets +onlyGivenNames x; refine Within.cut (x := x.1) ?_ ?_; (on_goal 2 => (clear_value x; revert x; intro _ _)); (on_goal 1 => (unfold x; clear x)))
    | (extract_lets +onlyGivenNames x; clear_value x; revert x; intro _)
    | split
    | with_reducible refine Within.set_committed ?_ _ ?_
    | (with_reducible refine Within.of_eq (by with_reducible assumption) ?_))

theorem State.harvestRefuse_within {M : Foot} (hM : Foot.Sub 0xc00018600000000000000000000000000000000000000200000000830000000000000000000000000000027f9000000000010000000898000000000000000000000000000000000000000000000 M) {s₀ s : State} (h_s : Within M s₀ s) (d : Nat) (r : Request) (maint : Bool) (thermal : Bool)  :
    Within M s₀ (State.harvestRefuse s d r maint thermal) := by
  unfold State.harvestRefuse
  repeat' (first
    | with_reducible assumption
    | (refine Foot.Sub.has hM ?_; decide)
    | (refine Foot.Sub.trans ?_ hM; decide)
    | with_reducible refine State.count_within ?_ ?_ _ _ _ ?_
    | with_reducible refine State.raisePkg_within ?_ ?_ _ _
    | split
    | (with_reducible refine Within.of_eq (by with_reducible assumption) ?_))

theorem State.syncDeferred_within {M : Foot} (hM : Foot.Sub 0x8000000000000000000000000000000000000000000000000000000 M) {s₀ s : State} (h_s : Within M s₀ s)   :
    Within M s₀ (State.syncDeferred s) := by
  unfold State.syncDeferred
  repeat' (first
    | with_reducible assumption
    | (refine Foot.Sub.has hM ?_; decide)
    | (refine Foot.Sub.trans ?_ hM; decide)
    | with_reducible refine State.wr_within ?_ _ _ _ ?_
    | split
    | (with_reducible refine Within.of_eq (by with_reducible assumption) ?_))

theorem State.defer_within {M : Foot} (hM : Foot.Sub 0x40010000000000000000000000000000000000000000000000000000000000000000000000000000000000000000000000028000000000000000000000000000000000000000000000000000000 M) {s₀ s : State} (h_s : Within M s₀ s) (d : Nat) (r : Request) (maint : Bool) (cmd : Option (MbxHdr × Nat))  :
    Within M s₀ (State.defer s d r maint cmd) := by
  unfold State.defer
  repeat' (first
    | with_reducible assumption
    | (refine Foot.Sub.has hM ?_; decide)
    | (refine Foot.Sub.trans ?_ hM; decide)
    | (extract_lets +onlyGivenNames x; refine Within.cut (x := x) ?_ ?_; (on_goal 2 => (clear_value x; revert x; intro _ _)); (on_goal 1 => (unfold x; clear x)))
    | (extract_lets +onlyGivenNames x; refine Within.cut (x := x.1) ?_ ?_; (on_goal 2 => (clear_value x; revert x; intro _ _)); (on_goal 1 => (unfold x; clear x)))
    | (extract_lets +onlyGivenNames x; clear_value x; revert x; intro _)
    | with_reducible refine State.count_within ?_ ?_ _ _ _ ?_
    | with_reducible refine State.syncDeferred_within ?_ ?_
    | split
    | with_reducible refine Within.set_deferred ?_ _ ?_
    | (with_reducible refine Within.of_eq (by with_reducible assumption) ?_))

theorem State.derateUntil_within {M : Foot} (hM : Foot.Sub 0xc18698600000000000000000000000000000000000000200008000830000000000000880000000000000067f900000001c00c000000898040000000000008000000000000000000000080000000 M) {s₀ s : State} (h_s : Within M s₀ s) (d : Nat) (dies : List Nat) (dp : State → Int) (e n : Nat) :
    ∀ s' ∈ State.derateUntil d dies dp e n s, Within M s₀ s' := by
  induction n generalizing s with
  | zero =>
    intro s' h
    unfold State.derateUntil at h
    split at h
    · cases h; exact h_s
    · cases h
  | succ n ih =>
    intro s' h
    unfold State.derateUntil at h
    split at h
    · cases h; exact h_s
    · split at h
      · exact ih (State.derateUp_within (Foot.Sub.trans (by decide) hM) h_s d) s' h
      · cases h

theorem State.derateUndone_within {M : Foot} (hM : Foot.Sub 0xc00018600000000000000000000000000000000000000200000000830000000000000000000000000000027f9000000000000000000898000000000000000000000000000000000000000000000 M) {s₀ s : State} (h_s : Within M s₀ s)   :
    Within M s₀ (State.derateUndone s) := by
  unfold State.derateUndone
  repeat' (first
    | with_reducible assumption
    | (refine Foot.Sub.has hM ?_; decide)
    | (refine Foot.Sub.trans ?_ hM; decide)
    | (extract_lets +onlyGivenNames x; refine Within.cut (x := x) ?_ ?_; (on_goal 2 => (clear_value x; revert x; intro _ _)); (on_goal 1 => (unfold x; clear x)))
    | (extract_lets +onlyGivenNames x; refine Within.cut (x := x.1) ?_ ?_; (on_goal 2 => (clear_value x; revert x; intro _ _)); (on_goal 1 => (unfold x; clear x)))
    | (extract_lets +onlyGivenNames x; clear_value x; revert x; intro _)
    | with_reducible refine State.raisePkg_within ?_ ?_ _ _
    | with_reducible refine Within.each ?_ fun _ _ _ => ?_
    | split
    | (with_reducible refine Within.of_eq (by with_reducible assumption) ?_))

theorem State.harvest_within {M : Foot} (hM : Foot.Sub 0xc187b8600000000000000000000000000000000000000200008000830000000000000880000000000000067f900000001c03c000000898040000000000008000000000000000000000080000000 M) {s₀ s : State} (h_s : Within M s₀ s) (d : Nat) (dies : List Nat) (dp : State → Int) (e : Nat) (r : Request) (maint : Bool) (cmd : Option (MbxHdr × Nat))  :
    Within M s₀ (State.harvest s d dies dp e r maint cmd).1 := by
  unfold State.harvest
  split
  · exact State.harvestRefuse_within (Foot.Sub.trans (by decide) hM) h_s _ _ _ _
  split
  · exact State.charge_within (Foot.Sub.trans (by decide) hM) h_s _ _ _
  split
  · exact State.defer_within (Foot.Sub.trans (by decide) hM) h_s _ _ _ _
  split
  · split
    · rename_i s' hs'
      exact State.charge_within (Foot.Sub.trans (by decide) hM)
        (State.derateUntil_within (Foot.Sub.trans (by decide) hM) h_s _ _ _ _ _ s' hs') _ _ _
    · exact State.harvestRefuse_within (Foot.Sub.trans (by decide) hM)
        (State.derateUndone_within (Foot.Sub.trans (by decide) hM) h_s) _ _ _ _
  · exact State.harvestRefuse_within (Foot.Sub.trans (by decide) hM) h_s _ _ _ _

theorem State.withdraw_within {M : Foot} (hM : Foot.Sub 0x10000000000000000000000000000000000000000000000000000000000000000000000000000000000000000000000008000000000000000000000000000000000000000000000000000000 M) {s₀ s : State} (h_s : Within M s₀ s) (p : Deferred → Bool)  :
    Within M s₀ (State.withdraw s p) := by
  unfold State.withdraw
  repeat' (first
    | with_reducible assumption
    | (refine Foot.Sub.has hM ?_; decide)
    | (refine Foot.Sub.trans ?_ hM; decide)
    | (extract_lets +onlyGivenNames x; refine Within.cut (x := x) ?_ ?_; (on_goal 2 => (clear_value x; revert x; intro _ _)); (on_goal 1 => (unfold x; clear x)))
    | (extract_lets +onlyGivenNames x; refine Within.cut (x := x.1) ?_ ?_; (on_goal 2 => (clear_value x; revert x; intro _ _)); (on_goal 1 => (unfold x; clear x)))
    | (extract_lets +onlyGivenNames x; clear_value x; revert x; intro _)
    | with_reducible refine State.syncDeferred_within ?_ ?_
    | split
    | with_reducible refine Within.set_deferred ?_ _ ?_
    | (with_reducible refine Within.of_eq (by with_reducible assumption) ?_))

end Sys2Proof.Machine
end

