-- ==== Sys2Proof/Laws/MailboxOpsWithin.lean ====
section
/-!
SUPPORT. What each operation of Machine/MailboxOps.lean may change (`Within`), and that it keeps the state sound.
-/

namespace Sys2Proof.Machine

set_option linter.all false

theorem State.syncMbx_within {M : Foot} (hM : Foot.Sub 0x200000000000000000000000000000000000000000000000000 M) {s₀ s : State} (h_s : Within M s₀ s) (d : Nat)  :
    Within M s₀ (State.syncMbx s d) := by
  unfold State.syncMbx
  repeat' (first
    | with_reducible assumption
    | (refine Foot.Sub.has hM ?_; decide)
    | (refine Foot.Sub.trans ?_ hM; decide)
    | with_reducible refine State.wr_within ?_ _ _ _ ?_
    | split
    | (with_reducible refine Within.of_eq (by with_reducible assumption) ?_))

theorem State.take_within {M : Foot} (hM : Foot.Sub 0xa00000000000000000000000000000000000000c0000000000000000000000000000000000000000000000000000000000200018000000000000000000000000000000000000000000000 M) {s₀ s : State} (h_s : Within M s₀ s) (h : MbxHdr) (opcode : Nat)  :
    Within M s₀ (State.take s h opcode).1 := by
  unfold State.take
  repeat' (first
    | with_reducible assumption
    | (refine Foot.Sub.has hM ?_; decide)
    | (refine Foot.Sub.trans ?_ hM; decide)
    | (extract_lets +onlyGivenNames x; refine Within.cut (x := x) ?_ ?_; (on_goal 2 => (clear_value x; revert x; intro _ _)); (on_goal 1 => (unfold x; clear x)))
    | (extract_lets +onlyGivenNames x; refine Within.cut (x := x.1) ?_ ?_; (on_goal 2 => (clear_value x; revert x; intro _ _)); (on_goal 1 => (unfold x; clear x)))
    | (extract_lets +onlyGivenNames x; clear_value x; revert x; intro _)
    | with_reducible refine State.wr_within ?_ _ _ _ ?_
    | with_reducible refine State.syncMbx_within ?_ ?_ _
    | with_reducible refine State.advanceOwn_within ?_ ?_ _ _
    | split
    | with_reducible refine Within.set_taken ?_ _ ?_
    | (with_reducible refine Within.of_eq (by with_reducible assumption) ?_))

theorem State.writeUrgent_within {M : Foot} (hM : Foot.Sub 0xa00000000000000000000000000000000000000c0000000000000000000000000000000000000000000000000000000000240018000000000000000000000000000000000000000000000 M) {s₀ s : State} (h_s : Within M s₀ s) (d : Nat) (bytes : List Byte)  :
    Within M s₀ (State.writeUrgent s d bytes) := by
  unfold State.writeUrgent
  repeat' (first
    | with_reducible assumption
    | (refine Foot.Sub.has hM ?_; decide)
    | (refine Foot.Sub.trans ?_ hM; decide)
    | with_reducible refine State.wr_within ?_ _ _ _ ?_
    | with_reducible refine State.take_within ?_ ?_ _ _
    | with_reducible refine Within.each ?_ fun _ _ _ => ?_
    | split
    | (with_reducible refine Within.of_eq (by with_reducible assumption) ?_))

theorem State.respondWith_within {M : Foot} (hM : Foot.Sub 0xc00018e00000000000000000000000000000000000000e00000000830000000000000000000000000000027f9000000000000000340898000000000000000000000000000000000000000000000 M) {s₀ s : State} (h_s : Within M s₀ s) (t : Taken) (status : Nat) (flags : Nat) (results : List Byte)  :
    Within M s₀ (State.respondWith s t status flags results) := by
  unfold State.respondWith
  repeat' (first
    | with_reducible assumption
    | (refine Foot.Sub.has hM ?_; decide)
    | (refine Foot.Sub.trans ?_ hM; decide)
    | (extract_lets +onlyGivenNames x; refine Within.cut (x := x) ?_ ?_; (on_goal 2 => (clear_value x; revert x; intro _ _)); (on_goal 1 => (unfold x; clear x)))
    | (extract_lets +onlyGivenNames x; refine Within.cut (x := x.1) ?_ ?_; (on_goal 2 => (clear_value x; revert x; intro _ _)); (on_goal 1 => (unfold x; clear x)))
    | (extract_lets +onlyGivenNames x; clear_value x; revert x; intro _)
    | with_reducible refine State.syncMbx_within ?_ ?_ _
    | with_reducible refine State.writeUrgent_within ?_ ?_ _ _
    | with_reducible refine State.wr_within ?_ _ _ _ ?_
    | with_reducible refine State.flag_within ?_ ?_ _ _ ?_
    | with_reducible refine State.raise_within ?_ ?_ _ _ _
    | with_reducible refine State.emit_within ?_ ?_ _
    | with_reducible refine State.countRecord_within ?_ ?_ _ _ _
    | with_reducible refine Within.on ?_ fun _ _ => ?_
    | with_reducible refine Within.ite ?_ ?_
    | with_reducible refine Within.ite_fst ?_ ?_
    | split
    | with_reducible refine Within.set_ringRecs ?_ _ ?_
    | with_reducible refine Within.set_taken ?_ _ ?_
    | with_reducible refine Within.set_ringTaken ?_ _ _ ?_ ?_
    | (with_reducible refine Within.of_eq (by with_reducible assumption) ?_)
    | (intro _))

theorem State.respond_within {M : Foot} (hM : Foot.Sub 0xc00018e00000000000000000000000000000000000000e00000000830000000000000000000000000000027f9000000000000000340898000000000000000000000000000000000000000000000 M) {s₀ s : State} (h_s : Within M s₀ s) (t : Taken) (status : Nat) (flags : Nat) (results : List Byte)  :
    Within M s₀ (State.respond s t status flags results) := by
  unfold State.respond
  repeat' (first
    | with_reducible assumption
    | (refine Foot.Sub.has hM ?_; decide)
    | (refine Foot.Sub.trans ?_ hM; decide)
    | with_reducible refine State.respondWith_within ?_ ?_ _ _ _ _
    | split
    | (with_reducible refine Within.of_eq (by with_reducible assumption) ?_))

theorem State.convert_within {M : Foot} (hM : Foot.Sub 0xc00019e00000000000000000000000000000000000000e00000000830000000000000000000000000000027f9000000000000000340898000000000000000000000000000000000000000000000 M) {s₀ s : State} (h_s : Within M s₀ s) (t : Taken)  :
    Within M s₀ (State.convert s t) := by
  unfold State.convert
  repeat' (first
    | with_reducible assumption
    | (refine Foot.Sub.has hM ?_; decide)
    | (refine Foot.Sub.trans ?_ hM; decide)
    | (extract_lets +onlyGivenNames x; refine Within.cut (x := x) ?_ ?_; (on_goal 2 => (clear_value x; revert x; intro _ _)); (on_goal 1 => (unfold x; clear x)))
    | (extract_lets +onlyGivenNames x; refine Within.cut (x := x.1) ?_ ?_; (on_goal 2 => (clear_value x; revert x; intro _ _)); (on_goal 1 => (unfold x; clear x)))
    | (extract_lets +onlyGivenNames x; clear_value x; revert x; intro _)
    | with_reducible refine State.respondWith_within ?_ ?_ _ _ _ _
    | with_reducible refine State.syncMbx_within ?_ ?_ _
    | with_reducible refine Within.on ?_ fun _ _ => ?_
    | split
    | with_reducible refine Within.set_outstanding ?_ _ ?_
    | (with_reducible refine Within.of_eq (by with_reducible assumption) ?_)
    | (intro _))

theorem State.keep_within {M : Foot} (hM : Foot.Sub 0x200000000000000000000000000000000000000000000000000000000000000000000000000000000000000000000000000000000000000000000000000000000000000000000000000000 M) {s₀ s : State} (h_s : Within M s₀ s) (k : Kept)  :
    Within M s₀ (State.keep s k) := by
  unfold State.keep
  repeat' (first
    | with_reducible assumption
    | (refine Foot.Sub.has hM ?_; decide)
    | (refine Foot.Sub.trans ?_ hM; decide)
    | (extract_lets +onlyGivenNames x; refine Within.cut (x := x) ?_ ?_; (on_goal 2 => (clear_value x; revert x; intro _ _)); (on_goal 1 => (unfold x; clear x)))
    | (extract_lets +onlyGivenNames x; refine Within.cut (x := x.1) ?_ ?_; (on_goal 2 => (clear_value x; revert x; intro _ _)); (on_goal 1 => (unfold x; clear x)))
    | (extract_lets +onlyGivenNames x; clear_value x; revert x; intro _)
    | split
    | with_reducible refine Within.set_kept ?_ _ ?_
    | (with_reducible refine Within.of_eq (by with_reducible assumption) ?_))

theorem State.finish_within {M : Foot} (hM : Foot.Sub 0xc0001b600000000000000000000000000000000000000200000000830000000000000000000000000000027f9000000000000000200898000000000000000000000000000000000000000000000 M) {s₀ s : State} (h_s : Within M s₀ s) (o : Outstanding) (status : Nat) (results : List Byte)  :
    Within M s₀ (State.finish s o status results) := by
  unfold State.finish
  repeat' (first
    | with_reducible assumption
    | (refine Foot.Sub.has hM ?_; decide)
    | (refine Foot.Sub.trans ?_ hM; decide)
    | (extract_lets +onlyGivenNames x; refine Within.cut (x := x) ?_ ?_; (on_goal 2 => (clear_value x; revert x; intro _ _)); (on_goal 1 => (unfold x; clear x)))
    | (extract_lets +onlyGivenNames x; refine Within.cut (x := x.1) ?_ ?_; (on_goal 2 => (clear_value x; revert x; intro _ _)); (on_goal 1 => (unfold x; clear x)))
    | (extract_lets +onlyGivenNames x; clear_value x; revert x; intro _)
    | with_reducible refine State.syncMbx_within ?_ ?_ _
    | with_reducible refine State.keep_within ?_ ?_ _
    | with_reducible refine State.raise_within ?_ ?_ _ _ _
    | split
    | with_reducible refine Within.set_outstanding ?_ _ ?_
    | (with_reducible refine Within.of_eq (by with_reducible assumption) ?_))

theorem State.finishUnit_within {M : Foot} (hM : Foot.Sub 0xc0001b600000000000000000000000000000000000000200000000830000000000000000000000000000027f9000000000000000200898000000000000000000000000000000000000000000000 M) {s₀ s : State} (h_s : Within M s₀ s) (opcode : Nat) (unit : Nat) (status : Nat) (results : List Byte)  :
    Within M s₀ (State.finishUnit s opcode unit status results) := by
  unfold State.finishUnit
  repeat' (first
    | with_reducible assumption
    | (refine Foot.Sub.has hM ?_; decide)
    | (refine Foot.Sub.trans ?_ hM; decide)
    | with_reducible refine State.finish_within ?_ ?_ _ _ _
    | with_reducible refine Within.each ?_ fun _ _ _ => ?_
    | split
    | (with_reducible refine Within.of_eq (by with_reducible assumption) ?_))

theorem State.withdrawWith_within {M : Foot} (hM : Foot.Sub 0xc0011b600000000000000000000000000000000000000200000000830000000000000000000000000000027f9000000000008000200898000000000000000000000000000000000000000000000 M) {s₀ s : State} (h_s : Within M s₀ s) (code : Nat) (p : Deferred → Bool)  :
    Within M s₀ (State.withdrawWith s code p) := by
  unfold State.withdrawWith
  repeat' (first
    | with_reducible assumption
    | (refine Foot.Sub.has hM ?_; decide)
    | (refine Foot.Sub.trans ?_ hM; decide)
    | (extract_lets +onlyGivenNames x; refine Within.cut (x := x) ?_ ?_; (on_goal 2 => (clear_value x; revert x; intro _ _)); (on_goal 1 => (unfold x; clear x)))
    | (extract_lets +onlyGivenNames x; refine Within.cut (x := x.1) ?_ ?_; (on_goal 2 => (clear_value x; revert x; intro _ _)); (on_goal 1 => (unfold x; clear x)))
    | (extract_lets +onlyGivenNames x; clear_value x; revert x; intro _)
    | with_reducible refine State.withdraw_within ?_ ?_ _
    | with_reducible refine State.finish_within ?_ ?_ _ _ _
    | with_reducible refine Within.each ?_ fun _ _ _ => ?_
    | split
    | (with_reducible refine Within.of_eq (by with_reducible assumption) ?_))

theorem State.answer_within {M : Foot} (hM : Foot.Sub 0xc00019e00000000000000000000000000000000000000e00000000830000000000000000000000000000027f9000000000000000340898000000000000000000000000000000000000000000000 M) {s₀ s : State} (h_s : Within M s₀ s) (t : Taken) (forwarded : Bool) (r : Reply)  :
    Within M s₀ (State.answer s t forwarded r) := by
  unfold State.answer
  repeat' (first
    | with_reducible assumption
    | (refine Foot.Sub.has hM ?_; decide)
    | (refine Foot.Sub.trans ?_ hM; decide)
    | (extract_lets +onlyGivenNames x; refine Within.cut (x := x) ?_ ?_; (on_goal 2 => (clear_value x; revert x; intro _ _)); (on_goal 1 => (unfold x; clear x)))
    | (extract_lets +onlyGivenNames x; refine Within.cut (x := x.1) ?_ ?_; (on_goal 2 => (clear_value x; revert x; intro _ _)); (on_goal 1 => (unfold x; clear x)))
    | (extract_lets +onlyGivenNames x; clear_value x; revert x; intro _)
    | with_reducible refine State.respond_within ?_ ?_ _ _ _ _
    | with_reducible refine State.syncMbx_within ?_ ?_ _
    | with_reducible refine Within.on ?_ fun _ _ => ?_
    | split
    | with_reducible refine Within.set_outstanding ?_ _ ?_
    | (with_reducible refine Within.of_eq (by with_reducible assumption) ?_)
    | (intro _))

theorem State.carryOut_within {M : Foot} {s₀ s : State} (h_s : Within M s₀ s) (d : Nat) (limit : Bool) (k : CmdKind) (target : Nat) (body : State → Nat → State × Reply) (h_body : ∀ u n, Within M s₀ u → Within M s₀ (body u n).1) :
    Within M s₀ (State.carryOut s d limit k target body).1 := by
  unfold State.carryOut
  repeat' (first
    | with_reducible assumption
    | (extract_lets +onlyGivenNames x; refine Within.cut (x := x) ?_ ?_; (on_goal 2 => (clear_value x; revert x; intro _ _)); (on_goal 1 => (unfold x; clear x)))
    | (extract_lets +onlyGivenNames x; refine Within.cut (x := x.1) ?_ ?_; (on_goal 2 => (clear_value x; revert x; intro _ _)); (on_goal 1 => (unfold x; clear x)))
    | (extract_lets +onlyGivenNames x; clear_value x; revert x; intro _)
    | with_reducible refine Within.ite ?_ ?_
    | with_reducible refine Within.ite_fst ?_ ?_
    | split
    | with_reducible apply h_body
    | (with_reducible refine Within.of_eq (by with_reducible assumption) ?_))

theorem State.mbxCarry_within {M : Foot} (hM : Foot.Sub 0xc00019e00000000000000000000000000000000000000e00000000830000000000000000000000000000027f9000000000000000340898000000000000000000000000000000000000000000000 M) {s₀ s : State} (h_s : Within M s₀ s) (h : MbxHdr) (k : CmdKind) (c : Concern) (body : State → Nat → State × Reply) (t : Taken) (h_body : ∀ u n, Within M s₀ u → Within M s₀ (body u n).1) :
    Within M s₀ (State.mbxCarry s h k c body t) := by
  unfold State.mbxCarry
  repeat' (first
    | with_reducible assumption
    | (refine Foot.Sub.has hM ?_; decide)
    | (refine Foot.Sub.trans ?_ hM; decide)
    | (extract_lets +onlyGivenNames x; refine Within.cut (x := x) ?_ ?_; (on_goal 2 => (clear_value x; revert x; intro _ _)); (on_goal 1 => (unfold x; clear x)))
    | (extract_lets +onlyGivenNames x; refine Within.cut (x := x.1) ?_ ?_; (on_goal 2 => (clear_value x; revert x; intro _ _)); (on_goal 1 => (unfold x; clear x)))
    | (extract_lets +onlyGivenNames x; clear_value x; revert x; intro _)
    | with_reducible refine State.answer_within ?_ ?_ _ _ _
    | with_reducible refine State.carryOut_within ?_ _ _ _ _ _ ?_
    | split
    | with_reducible apply h_body
    | (with_reducible refine Within.of_eq (by with_reducible assumption) ?_)
    | (intro _))

theorem State.mbxUnknown_within {M : Foot} (hM : Foot.Sub 0x1c0001ce00000000000000000000000000000000000000e00000000830000000000000000000000000000027f9000000000000003f40898000000000000000000000000000000000000000000000 M) {s₀ s : State} (h_s : Within M s₀ s) (h : MbxHdr) (opcode : Nat) (code : Nat)  :
    Within M s₀ (State.mbxUnknown s h opcode code) := by
  unfold State.mbxUnknown
  repeat' (first
    | with_reducible assumption
    | (refine Foot.Sub.has hM ?_; decide)
    | (refine Foot.Sub.trans ?_ hM; decide)
    | (extract_lets +onlyGivenNames x; refine Within.cut (x := x) ?_ ?_; (on_goal 2 => (clear_value x; revert x; intro _ _)); (on_goal 1 => (unfold x; clear x)))
    | (extract_lets +onlyGivenNames x; refine Within.cut (x := x.1) ?_ ?_; (on_goal 2 => (clear_value x; revert x; intro _ _)); (on_goal 1 => (unfold x; clear x)))
    | (extract_lets +onlyGivenNames x; clear_value x; revert x; intro _)
    | with_reducible refine State.take_within ?_ ?_ _ _
    | with_reducible refine State.violation_within ?_ ?_ _ _ _ _
    | with_reducible refine State.respond_within ?_ ?_ _ _ _ _
    | with_reducible refine Within.ite ?_ ?_
    | with_reducible refine Within.ite_fst ?_ ?_
    | split
    | (with_reducible refine Within.of_eq (by with_reducible assumption) ?_))

theorem State.mbx_within {M : Foot} (hM : Foot.Sub 0x1c0001fe00000000000000000000000000000000000000e00000000830000000000000000000000000000027f9000000000000003f40898000000000000000000000000000000000000000000000 M) {s₀ s : State} (h_s : Within M s₀ s) (h : MbxHdr) (opcode : Nat) (k : CmdKind) (c : Concern) (body : State → Nat → State × Reply) (h_body : ∀ u n, Within M s₀ u → Within M s₀ (body u n).1) :
    Within M s₀ (State.mbx s h opcode k c body) := by
  unfold State.mbx
  repeat' (first
    | with_reducible assumption
    | (refine Foot.Sub.has hM ?_; decide)
    | (refine Foot.Sub.trans ?_ hM; decide)
    | (extract_lets +onlyGivenNames x; refine Within.cut (x := x) ?_ ?_; (on_goal 2 => (clear_value x; revert x; intro _ _)); (on_goal 1 => (unfold x; clear x)))
    | (extract_lets +onlyGivenNames x; refine Within.cut (x := x.1) ?_ ?_; (on_goal 2 => (clear_value x; revert x; intro _ _)); (on_goal 1 => (unfold x; clear x)))
    | (extract_lets +onlyGivenNames x; clear_value x; revert x; intro _)
    | with_reducible refine State.mbxUnknown_within ?_ ?_ _ _ _
    | with_reducible refine State.finish_within ?_ ?_ _ _ _
    | with_reducible refine State.carryOut_within ?_ _ _ _ _ _ ?_
    | with_reducible refine State.mbxCarry_within ?_ ?_ _ _ _ _ _ ?_
    | with_reducible refine State.take_within ?_ ?_ _ _
    | with_reducible refine State.violation_within ?_ ?_ _ _ _ _
    | with_reducible refine State.respond_within ?_ ?_ _ _ _ _
    | with_reducible refine Within.ite ?_ ?_
    | with_reducible refine Within.ite_fst ?_ ?_
    | split
    | with_reducible refine Within.set_outstanding ?_ _ ?_
    | with_reducible apply h_body
    | (with_reducible refine Within.of_eq (by with_reducible assumption) ?_)
    | (intro _))

theorem State.mbxAtEnd_within {M : Foot} (hM : Foot.Sub 0x3c0001fe00000000000000000000000000000000000000e00000000830000000000000000000000000000027f9000000000000003f40898000000000000000000000000000000000000000000000 M) {s₀ s : State} (h_s : Within M s₀ s) (h : MbxHdr) (opcode : Nat) (c : Instr) (k : CmdKind) (d : Concern) (body : State → Nat → State × Reply) (h_body : ∀ u n, Within M s₀ u → Within M s₀ (body u n).1) :
    Within M s₀ (State.mbxAtEnd s h opcode c k d body) := by
  unfold State.mbxAtEnd
  repeat' (first
    | with_reducible assumption
    | (refine Foot.Sub.has hM ?_; decide)
    | (refine Foot.Sub.trans ?_ hM; decide)
    | (extract_lets +onlyGivenNames x; refine Within.cut (x := x) ?_ ?_; (on_goal 2 => (clear_value x; revert x; intro _ _)); (on_goal 1 => (unfold x; clear x)))
    | (extract_lets +onlyGivenNames x; refine Within.cut (x := x.1) ?_ ?_; (on_goal 2 => (clear_value x; revert x; intro _ _)); (on_goal 1 => (unfold x; clear x)))
    | (extract_lets +onlyGivenNames x; clear_value x; revert x; intro _)
    | with_reducible refine State.mbx_within ?_ ?_ _ _ _ _ _ ?_
    | with_reducible refine State.book_within ?_ ?_ _
    | with_reducible refine Within.on ?_ fun _ _ => ?_
    | with_reducible refine Within.ite ?_ ?_
    | with_reducible refine Within.ite_fst ?_ ?_
    | split
    | with_reducible apply h_body
    | (with_reducible refine Within.of_eq (by with_reducible assumption) ?_)
    | (intro _))

theorem State.cfgSeq_within {M : Foot} {s₀ s : State} (h_s : Within M s₀ s) (ws : List (State → State × Nat)) (n : Nat)
    (h_ws : ∀ g ∈ ws, ∀ u, Within M s₀ u → Within M s₀ (g u).1) : Within M s₀ (State.cfgSeq ws s n).1 := by
  induction ws generalizing s n with
  | nil => exact h_s
  | cons w ws ih =>
    have hw := h_ws w (by simp) s h_s
    unfold State.cfgSeq
    extract_lets r
    split
    · exact ih hw _ fun g hg => h_ws g (by simp [hg])
    · exact hw

theorem State.cfgReply_within {M : Foot} {s₀ s : State} (h_s : Within M s₀ s) (images : List (Reg × Nat))
    (ws : List (State → State × Nat)) (h_ws : ∀ g ∈ ws, ∀ u, Within M s₀ u → Within M s₀ (g u).1) :
    Within M s₀ (State.cfgReply images ws s).1 := by
  unfold State.cfgReply
  split
  · exact State.cfgSeq_within h_s ws 0 h_ws
  · exact h_s

end Sys2Proof.Machine
end

