-- ==== Sys2Proof/Laws/TrigOpsWithin.lean ====
section
/-!
SUPPORT. What each operation of Machine/TrigOps.lean may change (`Within`), and that it keeps the state sound.
-/

namespace Sys2Proof.Machine

set_option linter.all false

theorem State.levelSees_within {M : Foot} (hM : Foot.Sub 0x400000000000000 M) {s₀ s : State} (h_s : Within M s₀ s) (d : Nat) (c : Nat) (n : Nat) (t : Instant) (xs : List Int)  :
    Within M s₀ (State.levelSees s d c n t xs).1 := by
  unfold State.levelSees
  repeat' (first
    | with_reducible assumption
    | (refine Foot.Sub.has hM ?_; decide)
    | (refine Foot.Sub.trans ?_ hM; decide)
    | (split <;> (refine Foot.Sub.has hM ?_; decide))
    | (extract_lets +onlyGivenNames x; refine Within.cut (x := x) ?_ ?_; (on_goal 2 => (clear_value x; revert x; intro _ _)); (on_goal 1 => (unfold x; clear x)))
    | (extract_lets +onlyGivenNames x; refine Within.cut (x := x.1) ?_ ?_; (on_goal 2 => (clear_value x; revert x; intro _ _)); (on_goal 1 => (unfold x; clear x)))
    | (extract_lets +onlyGivenNames x; clear_value x; revert x; intro _)
    | with_reducible refine State.wr_within ?_ _ _ _ ?_
    | with_reducible refine Within.ite ?_ ?_
    | with_reducible refine Within.ite_fst ?_ ?_
    | split
    | (with_reducible refine Within.of_eq (by with_reducible assumption) ?_))

theorem State.summarize_within {M : Foot} (hM : Foot.Sub 0x4000000000000000000000000000000000000000000000000000000000000000000000000000000000000000000000000000000000000000000000000000000000000000000000000000 M) {s₀ s : State} (h_s : Within M s₀ s) (p : Nat) (f : Summary → Summary)  :
    Within M s₀ (State.summarize s p f) := by
  unfold State.summarize
  repeat' (first
    | with_reducible assumption
    | (refine Foot.Sub.has hM ?_; decide)
    | (refine Foot.Sub.trans ?_ hM; decide)
    | (extract_lets +onlyGivenNames x; refine Within.cut (x := x) ?_ ?_; (on_goal 2 => (clear_value x; revert x; intro _ _)); (on_goal 1 => (unfold x; clear x)))
    | (extract_lets +onlyGivenNames x; refine Within.cut (x := x.1) ?_ ?_; (on_goal 2 => (clear_value x; revert x; intro _ _)); (on_goal 1 => (unfold x; clear x)))
    | (extract_lets +onlyGivenNames x; clear_value x; revert x; intro _)
    | with_reducible refine Within.ite ?_ ?_
    | with_reducible refine Within.ite_fst ?_ ?_
    | split
    | with_reducible refine Within.set_summaries ?_ _ ?_
    | (with_reducible refine Within.of_eq (by with_reducible assumption) ?_))

theorem State.noteFire_within {M : Foot} (hM : Foot.Sub 0x4000000000000000000000000000000000000000000000000000000000000000000000000000000000000000000000000000000000000000000000000000000000000000000000000000 M) {s₀ s : State} (h_s : Within M s₀ s) (d : Nat) (t : Nat) (dt : Instant)  :
    Within M s₀ (State.noteFire s d t dt) := by
  unfold State.noteFire
  repeat' (first
    | with_reducible assumption
    | (refine Foot.Sub.has hM ?_; decide)
    | (refine Foot.Sub.trans ?_ hM; decide)
    | (extract_lets +onlyGivenNames x; refine Within.cut (x := x) ?_ ?_; (on_goal 2 => (clear_value x; revert x; intro _ _)); (on_goal 1 => (unfold x; clear x)))
    | (extract_lets +onlyGivenNames x; refine Within.cut (x := x.1) ?_ ?_; (on_goal 2 => (clear_value x; revert x; intro _ _)); (on_goal 1 => (unfold x; clear x)))
    | (extract_lets +onlyGivenNames x; clear_value x; revert x; intro _)
    | with_reducible refine State.summarize_within ?_ ?_ _ _
    | with_reducible refine Within.on ?_ fun _ _ => ?_
    | split
    | (with_reducible refine Within.of_eq (by with_reducible assumption) ?_)
    | (intro _))

theorem State.fireTerm_within {M : Foot} (hM : Foot.Sub 0x40000004400000000000000000000000000000000000000000000000000000000000000000000000000000000000000000000000000000000818000000000000000000000040000000000000000 M) {s₀ s : State} (h_s : Within M s₀ s) (d : Nat) (f : TermFire)  :
    Within M s₀ (State.fireTerm s d f) := by
  unfold State.fireTerm
  repeat' (first
    | with_reducible assumption
    | (refine Foot.Sub.has hM ?_; decide)
    | (refine Foot.Sub.trans ?_ hM; decide)
    | with_reducible refine State.inc_within ?_ _ _ ?_
    | with_reducible refine State.timOffer_within ?_ ?_ _ _ _ _ _
    | with_reducible refine State.noteFire_within ?_ ?_ _ _ _
    | split
    | (with_reducible refine Within.of_eq (by with_reducible assumption) ?_))

theorem State.timeoutSees_within {M : Foot} (hM : Foot.Sub 0xc000000000000000000000000000000000000000000000000000000000001000000000000000 M) {s₀ s : State} (h_s : Within M s₀ s) (d : Nat) (t : Nat) (x : Crossing)  :
    Within M s₀ (State.timeoutSees s d t x) := by
  unfold State.timeoutSees
  repeat' (first
    | with_reducible assumption
    | (refine Foot.Sub.has hM ?_; decide)
    | (refine Foot.Sub.trans ?_ hM; decide)
    | (extract_lets +onlyGivenNames x; refine Within.cut (x := x) ?_ ?_; (on_goal 2 => (clear_value x; revert x; intro _ _)); (on_goal 1 => (unfold x; clear x)))
    | (extract_lets +onlyGivenNames x; refine Within.cut (x := x.1) ?_ ?_; (on_goal 2 => (clear_value x; revert x; intro _ _)); (on_goal 1 => (unfold x; clear x)))
    | (extract_lets +onlyGivenNames x; clear_value x; revert x; intro _)
    | with_reducible refine State.wr_within ?_ _ _ _ ?_
    | with_reducible refine Within.on ?_ fun _ _ => ?_
    | with_reducible refine Within.ite ?_ ?_
    | with_reducible refine Within.ite_fst ?_ ?_
    | split
    | (with_reducible refine Within.of_eq (by with_reducible assumption) ?_)
    | (intro _))

theorem State.pairEnd_within {M : Foot} (hM : Foot.Sub 0x40000000000000000000000000000000000000000000000000000000000000000000000000000000000000000000000000000000000000000000000000000000000000000000000000000000000 M) {s₀ s : State} (h_s : Within M s₀ s) (d : Nat) (t : Nat) (first : Bool) (org : Fld) (flag : Fld) (x : Crossing) (h_org : M.testBit org.reg.ctorIdx = true) (h_flag : M.testBit flag.reg.ctorIdx = true) :
    Within M s₀ (State.pairEnd s d t first org flag x).1 := by
  unfold State.pairEnd
  repeat' (first
    | with_reducible assumption
    | (refine Foot.Sub.has hM ?_; decide)
    | (refine Foot.Sub.trans ?_ hM; decide)
    | (extract_lets +onlyGivenNames x; refine Within.cut (x := x) ?_ ?_; (on_goal 2 => (clear_value x; revert x; intro _ _)); (on_goal 1 => (unfold x; clear x)))
    | (extract_lets +onlyGivenNames x; refine Within.cut (x := x.1) ?_ ?_; (on_goal 2 => (clear_value x; revert x; intro _ _)); (on_goal 1 => (unfold x; clear x)))
    | (extract_lets +onlyGivenNames x; clear_value x; revert x; intro _)
    | with_reducible refine State.flag_within ?_ ?_ _ _ ?_
    | with_reducible refine State.wr_within ?_ _ _ _ ?_
    | with_reducible refine Within.ite ?_ ?_
    | with_reducible refine Within.ite_fst ?_ ?_
    | split
    | (with_reducible refine Within.of_eq (by with_reducible assumption) ?_))

theorem State.termSees_within {M : Foot} (hM : Foot.Sub 0x4000000000000000000000000000000000000000000000000000000000000000000000000000000fe00000000000000000000000000000000000000000000000000000000001000000000000000 M) {s₀ s : State} (h_s : Within M s₀ s) (d : Nat) (t : Nat) (x : Crossing)  :
    Within M s₀ (State.termSees s d t x).1 := by
  unfold State.termSees
  repeat' (first
    | with_reducible assumption
    | (refine Foot.Sub.has hM ?_; decide)
    | (refine Foot.Sub.trans ?_ hM; decide)
    | (extract_lets +onlyGivenNames x; refine Within.cut (x := x) ?_ ?_; (on_goal 2 => (clear_value x; revert x; intro _ _)); (on_goal 1 => (unfold x; clear x)))
    | (extract_lets +onlyGivenNames x; refine Within.cut (x := x.1) ?_ ?_; (on_goal 2 => (clear_value x; revert x; intro _ _)); (on_goal 1 => (unfold x; clear x)))
    | (extract_lets +onlyGivenNames x; clear_value x; revert x; intro _)
    | with_reducible refine State.wr_within ?_ _ _ _ ?_
    | with_reducible refine State.wrBool_within ?_ _ _ _ ?_
    | with_reducible refine State.timeoutSees_within ?_ ?_ _ _ _
    | with_reducible refine State.pairEnd_within ?_ ?_ _ _ _ _ _ _ ?_ ?_
    | with_reducible refine Within.ite ?_ ?_
    | with_reducible refine Within.ite_fst ?_ ?_
    | split
    | (with_reducible refine Within.of_eq (by with_reducible assumption) ?_))

theorem State.patternSees_within {M : Foot} (hM : Foot.Sub 0x70000000000000000000000000000000000000000000000000000000000000000000000000000 M) {s₀ s : State} (h_s : Within M s₀ s) (d : Nat) (t : Nat) (dt : Instant)  :
    Within M s₀ (State.patternSees s d t dt).1 := by
  unfold State.patternSees
  repeat' (first
    | with_reducible assumption
    | (refine Foot.Sub.has hM ?_; decide)
    | (refine Foot.Sub.trans ?_ hM; decide)
    | (split <;> (refine Foot.Sub.has hM ?_; decide))
    | (extract_lets +onlyGivenNames x; refine Within.cut (x := x) ?_ ?_; (on_goal 2 => (clear_value x; revert x; intro _ _)); (on_goal 1 => (unfold x; clear x)))
    | (extract_lets +onlyGivenNames x; refine Within.cut (x := x.1) ?_ ?_; (on_goal 2 => (clear_value x; revert x; intro _ _)); (on_goal 1 => (unfold x; clear x)))
    | (extract_lets +onlyGivenNames x; clear_value x; revert x; intro _)
    | with_reducible refine State.wr_within ?_ _ _ _ ?_
    | with_reducible refine State.wrBool_within ?_ _ _ _ ?_
    | with_reducible refine Within.on ?_ fun _ _ => ?_
    | with_reducible refine Within.ite ?_ ?_
    | with_reducible refine Within.ite_fst ?_ ?_
    | split
    | (with_reducible refine Within.of_eq (by with_reducible assumption) ?_)
    | (intro _))

theorem State.restartTerm_within {M : Foot} (hM : Foot.Sub 0x1001e400000000000000000000000000000000000000000000000000000000000000000000000000 M) {s₀ s : State} (h_s : Within M s₀ s) (d : Nat) (t : Nat) (tick : Nat)  :
    Within M s₀ (State.restartTerm s d t tick) := by
  unfold State.restartTerm
  repeat' (first
    | with_reducible assumption
    | (refine Foot.Sub.has hM ?_; decide)
    | (refine Foot.Sub.trans ?_ hM; decide)
    | (extract_lets +onlyGivenNames x; refine Within.cut (x := x) ?_ ?_; (on_goal 2 => (clear_value x; revert x; intro _ _)); (on_goal 1 => (unfold x; clear x)))
    | (extract_lets +onlyGivenNames x; refine Within.cut (x := x.1) ?_ ?_; (on_goal 2 => (clear_value x; revert x; intro _ _)); (on_goal 1 => (unfold x; clear x)))
    | (extract_lets +onlyGivenNames x; clear_value x; revert x; intro _)
    | with_reducible refine State.wr_within ?_ _ _ _ ?_
    | split
    | (with_reducible refine Within.of_eq (by with_reducible assumption) ?_))

theorem State.termMeets_within {M : Foot} (hM : Foot.Sub 0x4000000000000000000000000000000000000000000000000000000000000000000000000000007fe00000000000000000000000000000000000000000000000000000000001000000000000000 M) {s₀ s : State} (h_s : Within M s₀ s) (d : Nat) (t : Nat) (dt : Instant) (xs : List Crossing)  :
    Within M s₀ (State.termMeets s d t dt xs).1 := by
  unfold State.termMeets
  repeat' (first
    | with_reducible assumption
    | (refine Foot.Sub.has hM ?_; decide)
    | (refine Foot.Sub.trans ?_ hM; decide)
    | (extract_lets +onlyGivenNames x; refine Within.cut (x := x) ?_ ?_; (on_goal 2 => (clear_value x; revert x; intro _ _)); (on_goal 1 => (unfold x; clear x)))
    | (extract_lets +onlyGivenNames x; refine Within.cut (x := x.1) ?_ ?_; (on_goal 2 => (clear_value x; revert x; intro _ _)); (on_goal 1 => (unfold x; clear x)))
    | (extract_lets +onlyGivenNames x; clear_value x; revert x; intro _)
    | with_reducible refine State.termSees_within ?_ ?_ _ _ _
    | with_reducible refine State.patternSees_within ?_ ?_ _ _ _
    | with_reducible refine Within.foldl ?_ fun _ _ _ => ?_
    | with_reducible refine Within.foldl_fst ?_ fun _ _ _ => ?_
    | with_reducible refine Within.ite ?_ ?_
    | with_reducible refine Within.ite_fst ?_ ?_
    | split
    | (with_reducible refine Within.of_eq (by with_reducible assumption) ?_))

theorem State.termsMeet_within {M : Foot} (hM : Foot.Sub 0x4000000000000000000000000000000000000000000000000000000000000000000000000000007fe00000000000000000000000000000000000000000000000000000000001000000000000000 M) {s₀ s : State} (h_s : Within M s₀ s) (d : Nat) (dt : Instant) (xs : List Crossing)  :
    Within M s₀ (State.termsMeet s d dt xs).1 := by
  have hg : ∀ u t, Within M s₀ u → Within M s₀ (State.termMeets u d t dt xs).1 :=
    fun u t hu => State.termMeets_within (Foot.Sub.trans (by decide) hM) hu _ _ _ _
  generalize e : (fun (u : State) t => State.termMeets u d t dt xs) = g
  have e' : ∀ u t, State.termMeets u d t dt xs = g u t := fun u t => by rw [← e]
  simp only [e'] at hg
  unfold State.termsMeet
  simp only [e']
  exact Within.foldl_gather (s, []) h_s hg

theorem State.termsSee_within {M : Foot} (hM : Foot.Sub 0x4000000440000000000000000000000000000000000000000000000000000000000000000000007fe00000000000000000000000000000000818000000000000000000000041000000000000000 M) {s₀ s : State} (h_s : Within M s₀ s) (d : Nat) (dt : Instant) (xs : List Crossing)  :
    Within M s₀ (State.termsSee s d dt xs).1 := by
  have h := State.termsMeet_within (Foot.Sub.trans (by decide) hM) h_s d dt (xs.mergeSort fun a b => instGe b.dt a.dt)
  unfold State.termsSee
  revert h
  generalize s.termsMeet d dt (xs.mergeSort fun a b => instGe b.dt a.dt) = r
  exact fun h => Within.foldl h fun u x hu => State.fireTerm_within (Foot.Sub.trans (by decide) hM) hu _ _

theorem State.timeoutFires_within {M : Foot} (hM : Foot.Sub 0x40000004400000000000000000000000000000000000000000000000000000000000000000000008000000000000000000000000000000000818000000000000000000000040000000000000000 M) {s₀ s : State} (h_s : Within M s₀ s) (d : Nat) (t : Nat)  :
    Within M s₀ (State.timeoutFires s d t).1 := by
  unfold State.timeoutFires
  repeat' (first
    | with_reducible assumption
    | (refine Foot.Sub.has hM ?_; decide)
    | (refine Foot.Sub.trans ?_ hM; decide)
    | (extract_lets +onlyGivenNames x; refine Within.cut (x := x) ?_ ?_; (on_goal 2 => (clear_value x; revert x; intro _ _)); (on_goal 1 => (unfold x; clear x)))
    | (extract_lets +onlyGivenNames x; refine Within.cut (x := x.1) ?_ ?_; (on_goal 2 => (clear_value x; revert x; intro _ _)); (on_goal 1 => (unfold x; clear x)))
    | (extract_lets +onlyGivenNames x; clear_value x; revert x; intro _)
    | with_reducible refine State.wr_within ?_ _ _ _ ?_
    | with_reducible refine State.fireTerm_within ?_ ?_ _ _
    | with_reducible refine Within.ite ?_ ?_
    | with_reducible refine Within.ite_fst ?_ ?_
    | split
    | (with_reducible refine Within.of_eq (by with_reducible assumption) ?_))

theorem State.seqEnter_within {M : Foot} (hM : Foot.Sub 0x1180000000000000000000000000000000000000000000000000000000000200000000000000000 M) {s₀ s : State} (h_s : Within M s₀ s) (d : Nat) (q : Nat) (st : Nat) (dt : Instant)  :
    Within M s₀ (State.seqEnter s d q st dt) := by
  unfold State.seqEnter
  repeat' (first
    | with_reducible assumption
    | (refine Foot.Sub.has hM ?_; decide)
    | (refine Foot.Sub.trans ?_ hM; decide)
    | with_reducible refine State.wr_within ?_ _ _ _ ?_
    | split
    | (with_reducible refine Within.of_eq (by with_reducible assumption) ?_))

theorem State.seqRun_within {M : Foot} (hM : Foot.Sub 0x400000000000000000000000000000000000000000000000000000000000200000000000000000 M) {s₀ s : State} (h_s : Within M s₀ s) (d : Nat) (q : Nat) (origin : Nat)  :
    Within M s₀ (State.seqRun s d q origin) := by
  unfold State.seqRun
  repeat' (first
    | with_reducible assumption
    | (refine Foot.Sub.has hM ?_; decide)
    | (refine Foot.Sub.trans ?_ hM; decide)
    | with_reducible refine State.wr_within ?_ _ _ _ ?_
    | split
    | (with_reducible refine Within.of_eq (by with_reducible assumption) ?_))

theorem State.seqClearRun_within {M : Foot} (hM : Foot.Sub 0x1e00000000000000000000000000000000000000000000000000000000000000000000000000000000 M) {s₀ s : State} (h_s : Within M s₀ s) (d : Nat) (q : Nat)  :
    Within M s₀ (State.seqClearRun s d q) := by
  unfold State.seqClearRun
  repeat' (first
    | with_reducible assumption
    | (refine Foot.Sub.has hM ?_; decide)
    | (refine Foot.Sub.trans ?_ hM; decide)
    | with_reducible refine State.wr_within ?_ _ _ _ ?_
    | split
    | (with_reducible refine Within.of_eq (by with_reducible assumption) ?_))

theorem State.writeLast_within {M : Foot} (hM : Foot.Sub 0x2000000000000000000 M) {s₀ s : State} (h_s : Within M s₀ s) (d : Nat) (q : Nat) (x : TrigDesc)  :
    Within M s₀ (State.writeLast s d q x) := by
  unfold State.writeLast
  repeat' (first
    | with_reducible assumption
    | (refine Foot.Sub.has hM ?_; decide)
    | (refine Foot.Sub.trans ?_ hM; decide)
    | (extract_lets +onlyGivenNames x; refine Within.cut (x := x) ?_ ?_; (on_goal 2 => (clear_value x; revert x; intro _ _)); (on_goal 1 => (unfold x; clear x)))
    | (extract_lets +onlyGivenNames x; refine Within.cut (x := x.1) ?_ ?_; (on_goal 2 => (clear_value x; revert x; intro _ _)); (on_goal 1 => (unfold x; clear x)))
    | (extract_lets +onlyGivenNames x; clear_value x; revert x; intro _)
    | with_reducible refine State.wr_within ?_ _ _ _ ?_
    | with_reducible refine State.wrBool_within ?_ _ _ _ ?_
    | split
    | (with_reducible refine Within.of_eq (by with_reducible assumption) ?_))

theorem State.issueTrigger_within {M : Foot} (hM : Foot.Sub 0xc00018681a0000000000000000000000000000000000020000000083000000001000000003fe19800100027f9000000000000000000898000000000000000001e80030206200000000000000000 M) {s₀ s : State} (h_s : Within M s₀ s) (d : Nat) (q : Nat) (n : Nat) (dt : Instant) (term : Nat) (slow : Bool) (forced : Bool) (late : Bool)  :
    Within M s₀ (State.issueTrigger s d q n dt term slow forced late) := by
  unfold State.issueTrigger
  repeat' (first
    | with_reducible assumption
    | (refine Foot.Sub.has hM ?_; decide)
    | (refine Foot.Sub.trans ?_ hM; decide)
    | (split <;> (refine Foot.Sub.has hM ?_; decide))
    | (extract_lets +onlyGivenNames x; refine Within.cut (x := x) ?_ ?_; (on_goal 2 => (clear_value x; revert x; intro _ _)); (on_goal 1 => (unfold x; clear x)))
    | (extract_lets +onlyGivenNames x; refine Within.cut (x := x.1) ?_ ?_; (on_goal 2 => (clear_value x; revert x; intro _ _)); (on_goal 1 => (unfold x; clear x)))
    | (extract_lets +onlyGivenNames x; clear_value x; revert x; intro _)
    | with_reducible refine State.writeLast_within ?_ ?_ _ _ _
    | with_reducible refine State.count_within ?_ ?_ _ _ _ ?_
    | with_reducible refine State.inc_within ?_ _ _ ?_
    | with_reducible refine State.raise_within ?_ ?_ _ _ _
    | with_reducible refine State.seqClearRun_within ?_ ?_ _ _
    | with_reducible refine State.wr_within ?_ _ _ _ ?_
    | with_reducible refine State.seqEnter_within ?_ ?_ _ _ _ _
    | with_reducible refine State.wrBool_within ?_ _ _ _ ?_
    | with_reducible refine State.setTrigger_within ?_ ?_ _ _ _
    | with_reducible refine Within.on ?_ fun _ _ => ?_
    | with_reducible refine Within.foldl ?_ fun _ _ _ => ?_
    | with_reducible refine Within.foldl_fst ?_ fun _ _ _ => ?_
    | with_reducible refine Within.ite ?_ ?_
    | with_reducible refine Within.ite_fst ?_ ?_
    | split
    | (with_reducible refine Within.of_eq (by with_reducible assumption) ?_)
    | (intro _))

theorem State.dropForce_within {M : Foot} (hM : Foot.Sub 0xc00018600000000000000000000000000000000000000200000000830000000000000000000000000000027f9000000000000000000898000000000000000000000000020200000000000000000 M) {s₀ s : State} (h_s : Within M s₀ s) (d : Nat) (q : Nat) (cue : Bool)  :
    Within M s₀ (State.dropForce s d q cue) := by
  unfold State.dropForce
  repeat' (first
    | with_reducible assumption
    | (refine Foot.Sub.has hM ?_; decide)
    | (refine Foot.Sub.trans ?_ hM; decide)
    | with_reducible refine State.count_within ?_ ?_ _ _ _ ?_
    | with_reducible refine State.stick_within ?_ ?_ _ _ _ _ _ ?_
    | split
    | (with_reducible refine Within.of_eq (by with_reducible assumption) ?_))

theorem State.endDead_within {M : Foot} (hM : Foot.Sub 0x1780000000000000000000000000000000000000000000000000000000000200000000000000000 M) {s₀ s : State} (h_s : Within M s₀ s) (d : Nat) (q : Nat)  :
    Within M s₀ (State.endDead s d q) := by
  unfold State.endDead
  repeat' (first
    | with_reducible assumption
    | (refine Foot.Sub.has hM ?_; decide)
    | (refine Foot.Sub.trans ?_ hM; decide)
    | (extract_lets +onlyGivenNames x; refine Within.cut (x := x) ?_ ?_; (on_goal 2 => (clear_value x; revert x; intro _ _)); (on_goal 1 => (unfold x; clear x)))
    | (extract_lets +onlyGivenNames x; refine Within.cut (x := x.1) ?_ ?_; (on_goal 2 => (clear_value x; revert x; intro _ _)); (on_goal 1 => (unfold x; clear x)))
    | (extract_lets +onlyGivenNames x; clear_value x; revert x; intro _)
    | with_reducible refine State.seqEnter_within ?_ ?_ _ _ _ _
    | with_reducible refine State.wr_within ?_ _ _ _ ?_
    | with_reducible refine State.seqRun_within ?_ ?_ _ _ _
    | with_reducible refine Within.ite ?_ ?_
    | with_reducible refine Within.ite_fst ?_ ?_
    | split
    | (with_reducible refine Within.of_eq (by with_reducible assumption) ?_))

theorem State.endHoldoff_within {M : Foot} (hM : Foot.Sub 0x40400000000000000000000000000000000000000000000000000000000000200000000000000000 M) {s₀ s : State} (h_s : Within M s₀ s) (d : Nat) (q : Nat) (n : Nat)  :
    Within M s₀ (State.endHoldoff s d q n) := by
  unfold State.endHoldoff
  repeat' (first
    | with_reducible assumption
    | (refine Foot.Sub.has hM ?_; decide)
    | (refine Foot.Sub.trans ?_ hM; decide)
    | with_reducible refine State.seqRun_within ?_ ?_ _ _ _
    | with_reducible refine State.wr_within ?_ _ _ _ ?_
    | split
    | (with_reducible refine Within.of_eq (by with_reducible assumption) ?_))

theorem State.withinActs_within {M : Foot} (hM : Foot.Sub 0x1180000000000000000000000000000000000000000000000000000000000200000000000000000 M) {s₀ s : State} (h_s : Within M s₀ s) (d : Nat) (q : Nat)  :
    Within M s₀ (State.withinActs s d q) := by
  unfold State.withinActs
  repeat' (first
    | with_reducible assumption
    | (refine Foot.Sub.has hM ?_; decide)
    | (refine Foot.Sub.trans ?_ hM; decide)
    | (extract_lets +onlyGivenNames x; refine Within.cut (x := x) ?_ ?_; (on_goal 2 => (clear_value x; revert x; intro _ _)); (on_goal 1 => (unfold x; clear x)))
    | (extract_lets +onlyGivenNames x; refine Within.cut (x := x.1) ?_ ?_; (on_goal 2 => (clear_value x; revert x; intro _ _)); (on_goal 1 => (unfold x; clear x)))
    | (extract_lets +onlyGivenNames x; clear_value x; revert x; intro _)
    | with_reducible refine State.seqEnter_within ?_ ?_ _ _ _ _
    | split
    | (with_reducible refine Within.of_eq (by with_reducible assumption) ?_))

theorem State.autoActs_within {M : Foot} (hM : Foot.Sub 0xc00018681a0000000000000000000000000000000000020000000083000000001000000003fe19800100027f9000000000000000000898000000000000000001e80030206200000000000000000 M) {s₀ s : State} (h_s : Within M s₀ s) (d : Nat) (q : Nat) (deadline : Nat)  :
    Within M s₀ (State.autoActs s d q deadline) := by
  unfold State.autoActs
  repeat' (first
    | with_reducible assumption
    | (refine Foot.Sub.has hM ?_; decide)
    | (refine Foot.Sub.trans ?_ hM; decide)
    | with_reducible refine State.issueTrigger_within ?_ ?_ _ _ _ _ _ _ _ _
    | split
    | (with_reducible refine Within.of_eq (by with_reducible assumption) ?_))

theorem State.seqCatchUp_within {M : Foot} (hM : Foot.Sub 0xc00018681a0000000000000000000000000000000000020000000083000000001000000003fe1f800100027f9000000000000000000898000000000000000001e80030206200000000000000000 M) {s₀ s : State} (h_s : Within M s₀ s) (d : Nat) (q : Nat)  :
    Within M s₀ (State.seqCatchUp s d q) := by
  unfold State.seqCatchUp
  repeat' (first
    | with_reducible assumption
    | (refine Foot.Sub.has hM ?_; decide)
    | (refine Foot.Sub.trans ?_ hM; decide)
    | (extract_lets +onlyGivenNames x; refine Within.cut (x := x) ?_ ?_; (on_goal 2 => (clear_value x; revert x; intro _ _)); (on_goal 1 => (unfold x; clear x)))
    | (extract_lets +onlyGivenNames x; refine Within.cut (x := x.1) ?_ ?_; (on_goal 2 => (clear_value x; revert x; intro _ _)); (on_goal 1 => (unfold x; clear x)))
    | (extract_lets +onlyGivenNames x; clear_value x; revert x; intro _)
    | with_reducible refine State.endDead_within ?_ ?_ _ _
    | with_reducible refine State.withinActs_within ?_ ?_ _ _
    | with_reducible refine State.endHoldoff_within ?_ ?_ _ _ _
    | with_reducible refine State.autoActs_within ?_ ?_ _ _ _
    | with_reducible refine Within.on ?_ fun _ _ => ?_
    | split
    | (with_reducible refine Within.of_eq (by with_reducible assumption) ?_)
    | (intro _))

theorem State.seqCoincide_within {M : Foot} (hM : Foot.Sub 0xc0001860000000000000000000000000000000000000020000000083000000000000000001c000000000027f9000000000000000000898000000000000000000000000008200000000000000000 M) {s₀ s : State} (h_s : Within M s₀ s) (d : Nat) (q : Nat) (taken : Nat) (other : Nat)  :
    Within M s₀ (State.seqCoincide s d q taken other) := by
  unfold State.seqCoincide
  repeat' (first
    | with_reducible assumption
    | (refine Foot.Sub.has hM ?_; decide)
    | (refine Foot.Sub.trans ?_ hM; decide)
    | (extract_lets +onlyGivenNames x; refine Within.cut (x := x) ?_ ?_; (on_goal 2 => (clear_value x; revert x; intro _ _)); (on_goal 1 => (unfold x; clear x)))
    | (extract_lets +onlyGivenNames x; refine Within.cut (x := x.1) ?_ ?_; (on_goal 2 => (clear_value x; revert x; intro _ _)); (on_goal 1 => (unfold x; clear x)))
    | (extract_lets +onlyGivenNames x; clear_value x; revert x; intro _)
    | with_reducible refine State.count_within ?_ ?_ _ _ _ ?_
    | with_reducible refine State.wr_within ?_ _ _ _ ?_
    | with_reducible refine State.stick_within ?_ ?_ _ _ _ _ _ ?_
    | with_reducible refine Within.on ?_ fun _ _ => ?_
    | split
    | (with_reducible refine Within.of_eq (by with_reducible assumption) ?_)
    | (intro _))

theorem State.seqMark_within {M : Foot} (hM : Foot.Sub 0xc00018601000000000000000000000000000000000000200000000830000000000000000000000000000027f9000000000000000000898000000000000000001480000000000000000000000000 M) {s₀ s : State} (h_s : Within M s₀ s) (d : Nat) (q : Nat) (st : Nat) (dt : Instant)  :
    Within M s₀ (State.seqMark s d q st dt) := by
  unfold State.seqMark
  repeat' (first
    | with_reducible assumption
    | (refine Foot.Sub.has hM ?_; decide)
    | (refine Foot.Sub.trans ?_ hM; decide)
    | with_reducible refine State.mark_within ?_ ?_ _ _ _ _ _ _ _
    | with_reducible refine Within.foldl ?_ fun _ _ _ => ?_
    | with_reducible refine Within.foldl_fst ?_ fun _ _ _ => ?_
    | split
    | (with_reducible refine Within.of_eq (by with_reducible assumption) ?_))

theorem State.seqCue_within {M : Foot} (hM : Foot.Sub 0xc00018600000000000000000000000000000000000000200000000830000040000000000000000000000027f9008000000000000000898000000000000000000000000000000000000000040000 M) {s₀ s : State} (h_s : Within M s₀ s) (d : Nat) (q : Nat) (st : Nat) (dt : Instant)  :
    Within M s₀ (State.seqCue s d q st dt) := by
  unfold State.seqCue
  repeat' (first
    | with_reducible assumption
    | (refine Foot.Sub.has hM ?_; decide)
    | (refine Foot.Sub.trans ?_ hM; decide)
    | (extract_lets +onlyGivenNames x; refine Within.cut (x := x) ?_ ?_; (on_goal 2 => (clear_value x; revert x; intro _ _)); (on_goal 1 => (unfold x; clear x)))
    | (extract_lets +onlyGivenNames x; refine Within.cut (x := x.1) ?_ ?_; (on_goal 2 => (clear_value x; revert x; intro _ _)); (on_goal 1 => (unfold x; clear x)))
    | (extract_lets +onlyGivenNames x; clear_value x; revert x; intro _)
    | with_reducible refine State.raise_within ?_ ?_ _ _ _
    | with_reducible refine State.wr_within ?_ _ _ _ ?_
    | with_reducible refine State.armCue_within ?_ ?_ _ _
    | with_reducible refine Within.ite ?_ ?_
    | with_reducible refine Within.ite_fst ?_ ?_
    | split
    | (with_reducible refine Within.of_eq (by with_reducible assumption) ?_))

theorem State.seqDiscard_within {M : Foot} (hM : Foot.Sub 0x400000000000000000000000000000000000000000000000000000000000000000000000001e1380000000000000000000000000000000000000000000000000000000010200000000000000000 M) {s₀ s : State} (h_s : Within M s₀ s) (d : Nat) (q : Nat) (t : Instant)  :
    Within M s₀ (State.seqDiscard s d q t) := by
  unfold State.seqDiscard
  repeat' (first
    | with_reducible assumption
    | (refine Foot.Sub.has hM ?_; decide)
    | (refine Foot.Sub.trans ?_ hM; decide)
    | (extract_lets +onlyGivenNames x; refine Within.cut (x := x) ?_ ?_; (on_goal 2 => (clear_value x; revert x; intro _ _)); (on_goal 1 => (unfold x; clear x)))
    | (extract_lets +onlyGivenNames x; refine Within.cut (x := x.1) ?_ ?_; (on_goal 2 => (clear_value x; revert x; intro _ _)); (on_goal 1 => (unfold x; clear x)))
    | (extract_lets +onlyGivenNames x; clear_value x; revert x; intro _)
    | with_reducible refine State.count_within ?_ ?_ _ _ _ ?_
    | with_reducible refine State.incSat_within ?_ _ _ ?_
    | with_reducible refine State.seqEnter_within ?_ ?_ _ _ _ _
    | with_reducible refine State.wr_within ?_ _ _ _ ?_
    | with_reducible refine Within.on ?_ fun _ _ => ?_
    | split
    | (with_reducible refine Within.of_eq (by with_reducible assumption) ?_)
    | (intro _))

theorem State.seqAdvance_within {M : Foot} (hM : Foot.Sub 0xc00018681a0000000000000000000000000000000000020000000083000004001000000003fe1b800100027f9008000000000000000898000000000000000001e80030216200000000000040000 M) {s₀ s : State} (h_s : Within M s₀ s) (d : Nat) (q : Nat) (t : Instant) (f : TermFire)  :
    Within M s₀ (State.seqAdvance s d q t f) := by
  unfold State.seqAdvance
  repeat' (first
    | with_reducible assumption
    | (refine Foot.Sub.has hM ?_; decide)
    | (refine Foot.Sub.trans ?_ hM; decide)
    | (extract_lets +onlyGivenNames x; refine Within.cut (x := x) ?_ ?_; (on_goal 2 => (clear_value x; revert x; intro _ _)); (on_goal 1 => (unfold x; clear x)))
    | (extract_lets +onlyGivenNames x; refine Within.cut (x := x.1) ?_ ?_; (on_goal 2 => (clear_value x; revert x; intro _ _)); (on_goal 1 => (unfold x; clear x)))
    | (extract_lets +onlyGivenNames x; clear_value x; revert x; intro _)
    | with_reducible refine State.wr_within ?_ _ _ _ ?_
    | with_reducible refine State.issueTrigger_within ?_ ?_ _ _ _ _ _ _ _ _
    | with_reducible refine State.seqDiscard_within ?_ ?_ _ _ _
    | with_reducible refine State.seqEnter_within ?_ ?_ _ _ _ _
    | with_reducible refine State.seqMark_within ?_ ?_ _ _ _ _
    | with_reducible refine State.seqCue_within ?_ ?_ _ _ _ _
    | with_reducible refine Within.on ?_ fun _ _ => ?_
    | with_reducible refine Within.ite ?_ ?_
    | with_reducible refine Within.ite_fst ?_ ?_
    | split
    | (with_reducible refine Within.of_eq (by with_reducible assumption) ?_)
    | (intro _))

theorem State.seqTakes_within {M : Foot} (hM : Foot.Sub 0xc00018681a0000000000000000000000000000000000020000000083000004001000000003fe1b800100027f9008000000000000000898000000000000000001e8003021e200000000000040000 M) {s₀ s : State} (h_s : Within M s₀ s) (d : Nat) (q : Nat) (t : Instant) (fires : List TermFire)  :
    Within M s₀ (State.seqTakes s d q t fires) := by
  unfold State.seqTakes
  repeat' (first
    | with_reducible assumption
    | (refine Foot.Sub.has hM ?_; decide)
    | (refine Foot.Sub.trans ?_ hM; decide)
    | (extract_lets +onlyGivenNames x; refine Within.cut (x := x) ?_ ?_; (on_goal 2 => (clear_value x; revert x; intro _ _)); (on_goal 1 => (unfold x; clear x)))
    | (extract_lets +onlyGivenNames x; refine Within.cut (x := x.1) ?_ ?_; (on_goal 2 => (clear_value x; revert x; intro _ _)); (on_goal 1 => (unfold x; clear x)))
    | (extract_lets +onlyGivenNames x; clear_value x; revert x; intro _)
    | with_reducible refine State.wr_within ?_ _ _ _ ?_
    | with_reducible refine State.seqCoincide_within ?_ ?_ _ _ _ _
    | with_reducible refine State.seqEnter_within ?_ ?_ _ _ _ _
    | with_reducible refine State.seqAdvance_within ?_ ?_ _ _ _ _
    | with_reducible refine Within.ite ?_ ?_
    | with_reducible refine Within.ite_fst ?_ ?_
    | split
    | (with_reducible refine Within.of_eq (by with_reducible assumption) ?_))

theorem State.forceNow_within {M : Foot} (hM : Foot.Sub 0xc00018681a0000000000000000000000000000000000020000000083000000001000000003fe19800100027f9000000000000000000898000000000000000001e80030226200000000000000000 M) {s₀ s : State} (h_s : Within M s₀ s) (d : Nat) (q : Nat) (dt : Instant) (cue : Bool)  :
    Within M s₀ (State.forceNow s d q dt cue) := by
  unfold State.forceNow
  repeat' (first
    | with_reducible assumption
    | (refine Foot.Sub.has hM ?_; decide)
    | (refine Foot.Sub.trans ?_ hM; decide)
    | with_reducible refine State.issueTrigger_within ?_ ?_ _ _ _ _ _ _ _ _
    | with_reducible refine State.dropForce_within ?_ ?_ _ _ _
    | with_reducible refine Within.ite ?_ ?_
    | with_reducible refine Within.ite_fst ?_ ?_
    | split
    | (with_reducible refine Within.of_eq (by with_reducible assumption) ?_))

theorem State.forceTrigger_within {M : Foot} (hM : Foot.Sub 0xd00018681a0000000000000000000000000000000000020000000083000000001000000003fe19800100027f9000000000000000000898000000000000000001e80030226200000000000000000 M) {s₀ s : State} (h_s : Within M s₀ s) (d : Nat) (q : Nat) (dt : Instant) (cue : Bool)  :
    Within M s₀ (State.forceTrigger s d q dt cue) := by
  unfold State.forceTrigger
  repeat' (first
    | with_reducible assumption
    | (refine Foot.Sub.has hM ?_; decide)
    | (refine Foot.Sub.trans ?_ hM; decide)
    | (extract_lets +onlyGivenNames x; refine Within.cut (x := x) ?_ ?_; (on_goal 2 => (clear_value x; revert x; intro _ _)); (on_goal 1 => (unfold x; clear x)))
    | (extract_lets +onlyGivenNames x; refine Within.cut (x := x.1) ?_ ?_; (on_goal 2 => (clear_value x; revert x; intro _ _)); (on_goal 1 => (unfold x; clear x)))
    | (extract_lets +onlyGivenNames x; clear_value x; revert x; intro _)
    | with_reducible refine State.forceNow_within ?_ ?_ _ _ _ _
    | with_reducible refine Within.ite ?_ ?_
    | with_reducible refine Within.ite_fst ?_ ?_
    | split
    | with_reducible refine Within.set_arrivals ?_ _ ?_
    | (with_reducible refine Within.of_eq (by with_reducible assumption) ?_))

theorem State.arrive_within {M : Foot} (hM : Foot.Sub 0x10000000000000000000000000000000000000000000000000000000000000000000000000000000000000000000000000000000000000000000000000000000000000000000000000000000000 M) {s₀ s : State} (h_s : Within M s₀ s) (xs : List Arrival)  :
    Within M s₀ (State.arrive s xs) := by
  unfold State.arrive
  repeat' (first
    | with_reducible assumption
    | (refine Foot.Sub.has hM ?_; decide)
    | (refine Foot.Sub.trans ?_ hM; decide)
    | (extract_lets +onlyGivenNames x; refine Within.cut (x := x) ?_ ?_; (on_goal 2 => (clear_value x; revert x; intro _ _)); (on_goal 1 => (unfold x; clear x)))
    | (extract_lets +onlyGivenNames x; refine Within.cut (x := x.1) ?_ ?_; (on_goal 2 => (clear_value x; revert x; intro _ _)); (on_goal 1 => (unfold x; clear x)))
    | (extract_lets +onlyGivenNames x; clear_value x; revert x; intro _)
    | split
    | with_reducible refine Within.set_arrivals ?_ _ ?_
    | (with_reducible refine Within.of_eq (by with_reducible assumption) ?_))

theorem State.takeViews_within {M : Foot} (hM : Foot.Sub 0xe000000000000000000000000000000000000000000000000000000000000000000000000000000 M) {s₀ s : State} (h_s : Within M s₀ s) (d : Nat) (t : Instant)  :
    Within M s₀ (State.takeViews s d t) := by
  unfold State.takeViews
  repeat' (first
    | with_reducible assumption
    | (refine Foot.Sub.has hM ?_; decide)
    | (refine Foot.Sub.trans ?_ hM; decide)
    | (extract_lets +onlyGivenNames x; refine Within.cut (x := x) ?_ ?_; (on_goal 2 => (clear_value x; revert x; intro _ _)); (on_goal 1 => (unfold x; clear x)))
    | (extract_lets +onlyGivenNames x; refine Within.cut (x := x.1) ?_ ?_; (on_goal 2 => (clear_value x; revert x; intro _ _)); (on_goal 1 => (unfold x; clear x)))
    | (extract_lets +onlyGivenNames x; clear_value x; revert x; intro _)
    | with_reducible refine State.wr_within ?_ _ _ _ ?_
    | with_reducible refine Within.on ?_ fun _ _ => ?_
    | with_reducible refine Within.each ?_ fun _ _ _ => ?_
    | split
    | (with_reducible refine Within.of_eq (by with_reducible assumption) ?_)
    | (intro _))

theorem State.engineFires_within {M : Foot} (hM : Foot.Sub 0x4000000440000000000000000000000000000000000000000000000000000000000000000000e07fe00000000000000000000000000000000818000000000000000000000041000000000000000 M) {s₀ s : State} (h_s : Within M s₀ s) (d : Nat)  :
    Within M s₀ (State.engineFires s d).1 := by
  unfold State.engineFires
  repeat' (first
    | with_reducible assumption
    | (refine Foot.Sub.has hM ?_; decide)
    | (refine Foot.Sub.trans ?_ hM; decide)
    | (extract_lets +onlyGivenNames x; refine Within.cut (x := x) ?_ ?_; (on_goal 2 => (clear_value x; revert x; intro _ _)); (on_goal 1 => (unfold x; clear x)))
    | (extract_lets +onlyGivenNames x; refine Within.cut (x := x.1) ?_ ?_; (on_goal 2 => (clear_value x; revert x; intro _ _)); (on_goal 1 => (unfold x; clear x)))
    | (extract_lets +onlyGivenNames x; clear_value x; revert x; intro _)
    | with_reducible refine State.takeViews_within ?_ ?_ _ _
    | with_reducible refine State.termsSee_within ?_ ?_ _ _ _
    | with_reducible refine State.timeoutFires_within ?_ ?_ _ _
    | with_reducible refine Within.foldl ?_ fun _ _ _ => ?_
    | with_reducible refine Within.foldl_fst ?_ fun _ _ _ => ?_
    | with_reducible refine Within.ite ?_ ?_
    | with_reducible refine Within.ite_fst ?_ ?_
    | split
    | (with_reducible refine Within.of_eq (by with_reducible assumption) ?_))

theorem State.takeForces_within {M : Foot} (hM : Foot.Sub 0xc00018681a0000000000000000000000000000000000020000000083000000001000000003fe19800100027f9000000000000000000898000000000000000001e80030226200000000000000000 M) {s₀ s : State} (h_s : Within M s₀ s) (d : Nat) (fs : List (Instant × Nat × Bool))  :
    Within M s₀ (State.takeForces s d fs) := by
  unfold State.takeForces
  repeat' (first
    | with_reducible assumption
    | (refine Foot.Sub.has hM ?_; decide)
    | (refine Foot.Sub.trans ?_ hM; decide)
    | with_reducible refine State.forceNow_within ?_ ?_ _ _ _ _
    | with_reducible refine Within.each ?_ fun _ _ _ => ?_
    | split
    | (with_reducible refine Within.of_eq (by with_reducible assumption) ?_))

theorem State.engineTakes_within {M : Foot} (hM : Foot.Sub 0xc00018681a0000000000000000000000000000000000020000000083000004001000000003fe1b800100027f9008000000000000000898000000000000000001e8003023e200000000000040000 M) {s₀ s : State} (h_s : Within M s₀ s) (d : Nat) (ts : List Instant) (fires : List (Instant × TermFire)) (forces : List (Instant × Nat × Bool)) :
    Within M s₀ (s.engineTakes d ts fires forces) := by
  induction ts generalizing s forces with
  | nil => exact State.takeForces_within (Foot.Sub.trans (by decide) hM) h_s _ _
  | cons t ts ih =>
    unfold State.engineTakes
    exact ih (State.seqTakes_within (Foot.Sub.trans (by decide) hM) (State.seqTakes_within (Foot.Sub.trans (by decide) hM)
      (State.takeForces_within (Foot.Sub.trans (by decide) hM) h_s _ _) _ _ _ _) _ _ _ _) _

theorem State.engineBlock_within {M : Foot} (hM : Foot.Sub 0xc000186c5a0000000000000000000000000000000000020000000083000004001000000003feffffe100027f9008000000000000000898000818000000000001e8003023e241000000000040000 M) {s₀ s : State} (h_s : Within M s₀ s) (d : Nat)  :
    Within M s₀ (State.engineBlock s d) := by
  unfold State.engineBlock
  repeat' (first
    | with_reducible assumption
    | (refine Foot.Sub.has hM ?_; decide)
    | (refine Foot.Sub.trans ?_ hM; decide)
    | (extract_lets +onlyGivenNames x; refine Within.cut (x := x) ?_ ?_; (on_goal 2 => (clear_value x; revert x; intro _ _)); (on_goal 1 => (unfold x; clear x)))
    | (extract_lets +onlyGivenNames x; refine Within.cut (x := x.1) ?_ ?_; (on_goal 2 => (clear_value x; revert x; intro _ _)); (on_goal 1 => (unfold x; clear x)))
    | (extract_lets +onlyGivenNames x; clear_value x; revert x; intro _)
    | with_reducible refine State.engineFires_within ?_ ?_ _
    | with_reducible refine State.engineTakes_within ?_ ?_ _ _ _ _
    | with_reducible refine State.seqCatchUp_within ?_ ?_ _ _
    | with_reducible refine Within.ite ?_ ?_
    | with_reducible refine Within.ite_fst ?_ ?_
    | split
    | (with_reducible refine Within.of_eq (by with_reducible assumption) ?_))

theorem State.engineCycle_within {M : Foot} (hM : Foot.Sub 0xd000186c5a0000000000000000000000000000000000020000000083000004001000000003feffffe100027f9008000000000000000898000818000000000001e8003023e241000000000040000 M) {s₀ s : State} (h_s : Within M s₀ s)   :
    Within M s₀ (State.engineCycle s) := by
  unfold State.engineCycle
  exact Within.set_arrivals (State.engineBlock_within (Foot.Sub.trans (by decide) hM)
    (State.engineBlock_within (Foot.Sub.trans (by decide) hM) h_s _) _) _ (hM.has (by decide))

theorem State.engineTick_within {M : Foot} (hM : Foot.Sub 0xe000000000000000000000000000000000000000000000000000000000000000000000000000000 M) {s₀ s : State} (h_s : Within M s₀ s)   :
    Within M s₀ (State.engineTick s) := by
  unfold State.engineTick
  repeat' (first
    | with_reducible assumption
    | (refine Foot.Sub.has hM ?_; decide)
    | (refine Foot.Sub.trans ?_ hM; decide)
    | (extract_lets +onlyGivenNames x; refine Within.cut (x := x) ?_ ?_; (on_goal 2 => (clear_value x; revert x; intro _ _)); (on_goal 1 => (unfold x; clear x)))
    | (extract_lets +onlyGivenNames x; refine Within.cut (x := x.1) ?_ ?_; (on_goal 2 => (clear_value x; revert x; intro _ _)); (on_goal 1 => (unfold x; clear x)))
    | (extract_lets +onlyGivenNames x; clear_value x; revert x; intro _)
    | with_reducible refine State.wr_within ?_ _ _ _ ?_
    | with_reducible refine Within.each ?_ fun _ _ _ => ?_
    | with_reducible refine Within.ite ?_ ?_
    | with_reducible refine Within.ite_fst ?_ ?_
    | split
    | (with_reducible refine Within.of_eq (by with_reducible assumption) ?_))

theorem State.seqArm_within {M : Foot} (hM : Foot.Sub 0x3ec178c000000000000000000000000000000000000000000000000000000000200000000000000000 M) {s₀ s : State} (h_s : Within M s₀ s) (d : Nat) (q : Nat) (dt : Instant)  :
    Within M s₀ (State.seqArm s d q dt) := by
  unfold State.seqArm
  repeat' (first
    | with_reducible assumption
    | (refine Foot.Sub.has hM ?_; decide)
    | (refine Foot.Sub.trans ?_ hM; decide)
    | (extract_lets +onlyGivenNames x; refine Within.cut (x := x) ?_ ?_; (on_goal 2 => (clear_value x; revert x; intro _ _)); (on_goal 1 => (unfold x; clear x)))
    | (extract_lets +onlyGivenNames x; refine Within.cut (x := x.1) ?_ ?_; (on_goal 2 => (clear_value x; revert x; intro _ _)); (on_goal 1 => (unfold x; clear x)))
    | (extract_lets +onlyGivenNames x; clear_value x; revert x; intro _)
    | with_reducible refine State.seqEnter_within ?_ ?_ _ _ _ _
    | with_reducible refine State.seqRun_within ?_ ?_ _ _ _
    | with_reducible refine State.seqClearRun_within ?_ ?_ _ _
    | with_reducible refine State.wr_within ?_ _ _ _ ?_
    | with_reducible refine Within.on ?_ fun _ _ => ?_
    | with_reducible refine Within.foldl ?_ fun _ _ _ => ?_
    | with_reducible refine Within.foldl_fst ?_ fun _ _ _ => ?_
    | with_reducible refine Within.ite ?_ ?_
    | with_reducible refine Within.ite_fst ?_ ?_
    | split
    | (with_reducible refine Within.of_eq (by with_reducible assumption) ?_)
    | (intro _))

theorem State.stopAt_within {M : Foot} (hM : Foot.Sub 0x100000000000000000000000000000000000000000000000000000000000000000000000000000000000000000000000000000000000000000000000000000000000000000000000000 M) {s₀ s : State} (h_s : Within M s₀ s) (d : Nat) (a : Nat) (dt : Instant)  :
    Within M s₀ (State.stopAt s d a dt) := by
  unfold State.stopAt
  repeat' (first
    | with_reducible assumption
    | (refine Foot.Sub.has hM ?_; decide)
    | (refine Foot.Sub.trans ?_ hM; decide)
    | (extract_lets +onlyGivenNames x; refine Within.cut (x := x) ?_ ?_; (on_goal 2 => (clear_value x; revert x; intro _ _)); (on_goal 1 => (unfold x; clear x)))
    | (extract_lets +onlyGivenNames x; refine Within.cut (x := x.1) ?_ ?_; (on_goal 2 => (clear_value x; revert x; intro _ _)); (on_goal 1 => (unfold x; clear x)))
    | (extract_lets +onlyGivenNames x; clear_value x; revert x; intro _)
    | with_reducible refine State.stopAt_within ?_ ?_ _ _ _
    | with_reducible refine State.setAcq_within ?_ ?_ _ _ _
    | with_reducible refine Within.ite ?_ ?_
    | with_reducible refine Within.ite_fst ?_ ?_
    | split
    | (with_reducible refine Within.of_eq (by with_reducible assumption) ?_))

theorem State.armEffect_within {M : Foot} (hM : Foot.Sub 0xc00018681a0000000000000000180000000000000000020000000083000000001000000003ec178c0000027f9000000000000000000898000000000000000000f80028200200000000000000000 M) {s₀ s : State} (h_s : Within M s₀ s) (d : Nat) (a : Nat) (dt : Instant) (cause : Nat)  :
    Within M s₀ (State.armEffect s d a dt cause) := by
  unfold State.armEffect
  repeat' (first
    | with_reducible assumption
    | (refine Foot.Sub.has hM ?_; decide)
    | (refine Foot.Sub.trans ?_ hM; decide)
    | (extract_lets +onlyGivenNames x; refine Within.cut (x := x) ?_ ?_; (on_goal 2 => (clear_value x; revert x; intro _ _)); (on_goal 1 => (unfold x; clear x)))
    | (extract_lets +onlyGivenNames x; refine Within.cut (x := x.1) ?_ ?_; (on_goal 2 => (clear_value x; revert x; intro _ _)); (on_goal 1 => (unfold x; clear x)))
    | (extract_lets +onlyGivenNames x; clear_value x; revert x; intro _)
    | with_reducible refine State.setAcq_within ?_ ?_ _ _ _
    | with_reducible refine State.wr_within ?_ _ _ _ ?_
    | with_reducible refine State.syncFill_within ?_ ?_ _ _
    | with_reducible refine State.setBackpressure_within ?_ ?_ _ _ _
    | with_reducible refine State.lcOpenChunk_within ?_ ?_ _
    | with_reducible refine State.openSeg_within ?_ ?_ _ _ _ _ _
    | with_reducible refine State.raiseAcqState_within ?_ ?_ _ _ _
    | with_reducible refine State.seqArm_within ?_ ?_ _ _ _
    | with_reducible refine State.stopAt_within ?_ ?_ _ _ _
    | with_reducible refine Within.on ?_ fun _ _ => ?_
    | with_reducible refine Within.ite ?_ ?_
    | with_reducible refine Within.ite_fst ?_ ?_
    | split
    | with_reducible refine Within.set_library ?_ _ ?_
    | (with_reducible refine Within.of_eq (by with_reducible assumption) ?_)
    | (intro _))

theorem State.endArm_within {M : Foot} (hM : Foot.Sub 0xc00018681a00000000000000000000000000000000000200000000830000000010000000000000000100027f9000000000000000000898000000000000000000a80020200200000000000000000 M) {s₀ s : State} (h_s : Within M s₀ s) (d : Nat) (a : Nat) (cause : Nat)  :
    Within M s₀ (State.endArm s d a cause) := by
  unfold State.endArm
  repeat' (first
    | with_reducible assumption
    | (refine Foot.Sub.has hM ?_; decide)
    | (refine Foot.Sub.trans ?_ hM; decide)
    | with_reducible refine State.endSet_within ?_ ?_ _ _ _
    | split
    | (with_reducible refine Within.of_eq (by with_reducible assumption) ?_))

theorem State.startPipelines_within {M : Foot} (hM : Foot.Sub 0xc400186000000000000000000000000000000000000002000000008300000000000000000001001e4008727f9000000000000000000898000000000000000000000000000040424800000000000 M) {s₀ s : State} (h_s : Within M s₀ s) (d : Nat) (tick : Nat)  :
    Within M s₀ (State.startPipelines s d tick) := by
  unfold State.startPipelines
  repeat' (first
    | with_reducible assumption
    | (refine Foot.Sub.has hM ?_; decide)
    | (refine Foot.Sub.trans ?_ hM; decide)
    | (extract_lets +onlyGivenNames x; refine Within.cut (x := x) ?_ ?_; (on_goal 2 => (clear_value x; revert x; intro _ _)); (on_goal 1 => (unfold x; clear x)))
    | (extract_lets +onlyGivenNames x; refine Within.cut (x := x.1) ?_ ?_; (on_goal 2 => (clear_value x; revert x; intro _ _)); (on_goal 1 => (unfold x; clear x)))
    | (extract_lets +onlyGivenNames x; clear_value x; revert x; intro _)
    | with_reducible refine State.wr_within ?_ _ _ _ ?_
    | with_reducible refine State.restartCond_within ?_ ?_ _ _
    | with_reducible refine State.restartTerm_within ?_ ?_ _ _ _
    | with_reducible refine Within.foldl ?_ fun _ _ _ => ?_
    | with_reducible refine Within.foldl_fst ?_ fun _ _ _ => ?_
    | split
    | (with_reducible refine Within.of_eq (by with_reducible assumption) ?_))

theorem State.stopPipelines_within {M : Foot} (hM : Foot.Sub 0xc40018600000000000000000000000000000000000000200000000830000000000000000000000000008427f9000000000000000000898000000000000000000000000000000024000000000000 M) {s₀ s : State} (h_s : Within M s₀ s) (d : Nat)  :
    Within M s₀ (State.stopPipelines s d) := by
  unfold State.stopPipelines
  repeat' (first
    | with_reducible assumption
    | (refine Foot.Sub.has hM ?_; decide)
    | (refine Foot.Sub.trans ?_ hM; decide)
    | with_reducible refine State.firStops_within ?_ ?_ _ _
    | with_reducible refine State.wr_within ?_ _ _ _ ?_
    | with_reducible refine Within.foldl ?_ fun _ _ _ => ?_
    | with_reducible refine Within.foldl_fst ?_ fun _ _ _ => ?_
    | split
    | (with_reducible refine Within.of_eq (by with_reducible assumption) ?_))

theorem State.syncXdie_within {M : Foot} (hM : Foot.Sub 0xc000186000000000000000000000000000000000000002000000008300000000000000000001001e4000027f9000000000000000000898000000000000000000000000000001000000000000000 M) {s₀ s : State} (h_s : Within M s₀ s) (d : Nat)  :
    Within M s₀ (State.syncXdie s d) := by
  unfold State.syncXdie
  repeat' (first
    | with_reducible assumption
    | (refine Foot.Sub.has hM ?_; decide)
    | (refine Foot.Sub.trans ?_ hM; decide)
    | (extract_lets +onlyGivenNames x; refine Within.cut (x := x) ?_ ?_; (on_goal 2 => (clear_value x; revert x; intro _ _)); (on_goal 1 => (unfold x; clear x)))
    | (extract_lets +onlyGivenNames x; refine Within.cut (x := x.1) ?_ ?_; (on_goal 2 => (clear_value x; revert x; intro _ _)); (on_goal 1 => (unfold x; clear x)))
    | (extract_lets +onlyGivenNames x; clear_value x; revert x; intro _)
    | with_reducible refine State.wrBool_within ?_ _ _ _ ?_
    | with_reducible refine State.restartTerm_within ?_ ?_ _ _ _
    | with_reducible refine State.raise_within ?_ ?_ _ _ _
    | with_reducible refine Within.on ?_ fun _ _ => ?_
    | with_reducible refine Within.foldl ?_ fun _ _ _ => ?_
    | with_reducible refine Within.foldl_fst ?_ fun _ _ _ => ?_
    | split
    | (with_reducible refine Within.of_eq (by with_reducible assumption) ?_)
    | (intro _))

theorem State.seqReject_within {M : Foot} (hM : Foot.Sub 0xc00018600000000000000000000000000000000000000200000000830000000000000000000000000000027f9000000000000000000898000000000000000000000000000200000000000000000 M) {s₀ s : State} (h_s : Within M s₀ s) (d : Nat) (q : Nat)  :
    Within M s₀ (State.seqReject s d q) := by
  unfold State.seqReject
  repeat' (first
    | with_reducible assumption
    | (refine Foot.Sub.has hM ?_; decide)
    | (refine Foot.Sub.trans ?_ hM; decide)
    | with_reducible refine State.stick_within ?_ ?_ _ _ _ _ _ ?_
    | split
    | (with_reducible refine Within.of_eq (by with_reducible assumption) ?_))

theorem State.writeSeq_within {M : Foot} (hM : Foot.Sub 0xc00018600000000000000000000000000000000000000200000000830000000000000000000000000000027f9000000000000000000898000000000000000000000000000200000000000000000 M) {s₀ s : State} (h_s : Within M s₀ s) (d : Nat) (q : Nat) (fs : List (Fld × List Nat × Nat)) (h_fs : ∀ e ∈ fs, M.testBit e.1.reg.ctorIdx = true) :
    Within M s₀ (State.writeSeq d q fs s).1 := by
  unfold State.writeSeq
  repeat' (first
    | with_reducible assumption
    | (refine h_fs _ ?_; assumption)
    | with_reducible refine Within.each_mem ?_ fun _ _ _ _ => ?_
    | with_reducible refine Within.foldl_mem ?_ fun _ _ _ _ => ?_
    | (refine Foot.Sub.has hM ?_; decide)
    | (refine Foot.Sub.trans ?_ hM; decide)
    | with_reducible refine State.seqReject_within ?_ ?_ _ _
    | with_reducible refine State.wr_within ?_ _ _ _ ?_
    | with_reducible refine Within.foldl ?_ fun _ _ _ => ?_
    | with_reducible refine Within.foldl_fst ?_ fun _ _ _ => ?_
    | with_reducible refine Within.ite ?_ ?_
    | with_reducible refine Within.ite_fst ?_ ?_
    | split
    | (with_reducible refine Within.of_eq (by with_reducible assumption) ?_))

theorem State.writeTerm_within {M : Foot} (hM : Foot.Sub 0xc000186000000000000000000000000000000000000002000000008300000000000000000001001e4000027f9000000000000000000898000000000000000000000000000201000000000000000 M) {s₀ s : State} (h_s : Within M s₀ s) (d : Nat) (t : Nat) (fs : List (Fld × Nat)) (h_fs : ∀ e ∈ fs, M.testBit e.1.reg.ctorIdx = true) :
    Within M s₀ (State.writeTerm d t fs s).1 := by
  unfold State.writeTerm
  repeat' (first
    | with_reducible assumption
    | (refine h_fs _ ?_; assumption)
    | with_reducible refine Within.each_mem ?_ fun _ _ _ _ => ?_
    | with_reducible refine Within.foldl_mem ?_ fun _ _ _ _ => ?_
    | (refine Foot.Sub.has hM ?_; decide)
    | (refine Foot.Sub.trans ?_ hM; decide)
    | (extract_lets +onlyGivenNames x; refine Within.cut (x := x) ?_ ?_; (on_goal 2 => (clear_value x; revert x; intro _ _)); (on_goal 1 => (unfold x; clear x)))
    | (extract_lets +onlyGivenNames x; refine Within.cut (x := x.1) ?_ ?_; (on_goal 2 => (clear_value x; revert x; intro _ _)); (on_goal 1 => (unfold x; clear x)))
    | (extract_lets +onlyGivenNames x; clear_value x; revert x; intro _)
    | with_reducible refine State.seqReject_within ?_ ?_ _ _
    | with_reducible refine State.wr_within ?_ _ _ _ ?_
    | with_reducible refine State.restartTerm_within ?_ ?_ _ _ _
    | with_reducible refine State.syncXdie_within ?_ ?_ _
    | with_reducible refine Within.foldl ?_ fun _ _ _ => ?_
    | with_reducible refine Within.foldl_fst ?_ fun _ _ _ => ?_
    | with_reducible refine Within.ite ?_ ?_
    | with_reducible refine Within.ite_fst ?_ ?_
    | split
    | (with_reducible refine Within.of_eq (by with_reducible assumption) ?_))

theorem State.writeCurve_within {M : Foot} (hM : Foot.Sub 0xc00018600000000000000000000000000000000000000200000000830000000000000000000000000000027f9040000000000000000898000000000000000000000000000200000000000000000 M) {s₀ s : State} (h_s : Within M s₀ s) (d : Nat) (c : Nat) (e : Nat) (i : Nat) (v : Nat)  :
    Within M s₀ (State.writeCurve d c e i v s).1 := by
  unfold State.writeCurve
  repeat' (first
    | with_reducible assumption
    | (refine Foot.Sub.has hM ?_; decide)
    | (refine Foot.Sub.trans ?_ hM; decide)
    | (extract_lets +onlyGivenNames x; refine Within.cut (x := x) ?_ ?_; (on_goal 2 => (clear_value x; revert x; intro _ _)); (on_goal 1 => (unfold x; clear x)))
    | (extract_lets +onlyGivenNames x; refine Within.cut (x := x.1) ?_ ?_; (on_goal 2 => (clear_value x; revert x; intro _ _)); (on_goal 1 => (unfold x; clear x)))
    | (extract_lets +onlyGivenNames x; clear_value x; revert x; intro _)
    | with_reducible refine State.seqReject_within ?_ ?_ _ _
    | with_reducible refine State.wr_within ?_ _ _ _ ?_
    | with_reducible refine Within.ite ?_ ?_
    | with_reducible refine Within.ite_fst ?_ ?_
    | split
    | (with_reducible refine Within.of_eq (by with_reducible assumption) ?_))

theorem State.writeTrgDie_within {M : Foot} (hM : Foot.Sub 0xc00018600000000000000000000000000000000000000200000000830000000000000000000000000000027f9000000000000000000898000000000000000000000000000001000000000000000 M) {s₀ s : State} (h_s : Within M s₀ s) (d : Nat) (fs : List (Fld × List Nat × Nat)) (h_fs : ∀ e ∈ fs, M.testBit e.1.reg.ctorIdx = true) :
    Within M s₀ (State.writeTrgDie d fs s).1 := by
  unfold State.writeTrgDie
  repeat' (first
    | with_reducible assumption
    | (refine h_fs _ ?_; assumption)
    | with_reducible refine Within.each_mem ?_ fun _ _ _ _ => ?_
    | with_reducible refine Within.foldl_mem ?_ fun _ _ _ _ => ?_
    | (refine Foot.Sub.has hM ?_; decide)
    | (refine Foot.Sub.trans ?_ hM; decide)
    | with_reducible refine State.stick_within ?_ ?_ _ _ _ _ _ ?_
    | with_reducible refine State.wr_within ?_ _ _ _ ?_
    | with_reducible refine Within.foldl ?_ fun _ _ _ => ?_
    | with_reducible refine Within.foldl_fst ?_ fun _ _ _ => ?_
    | with_reducible refine Within.ite ?_ ?_
    | with_reducible refine Within.ite_fst ?_ ?_
    | split
    | (with_reducible refine Within.of_eq (by with_reducible assumption) ?_))

theorem State.writeSet_within {M : Foot} (hM : Foot.Sub 0x40000000000000000000000000000000000000000000000000000000000000000000000000000000000000000000000000000000000000000000000000000000080000200000000000000000000 M) {s₀ s : State} (h_s : Within M s₀ s) (d : Nat) (a : Nat) (str : Bool) (fs : List (Fld × Nat)) (h_fs : ∀ e ∈ fs, M.testBit e.1.reg.ctorIdx = true) :
    Within M s₀ (State.writeSet d a str fs s).1 := by
  unfold State.writeSet
  repeat' (first
    | with_reducible assumption
    | (refine h_fs _ ?_; assumption)
    | with_reducible refine Within.each_mem ?_ fun _ _ _ _ => ?_
    | with_reducible refine Within.foldl_mem ?_ fun _ _ _ _ => ?_
    | (refine Foot.Sub.has hM ?_; decide)
    | (refine Foot.Sub.trans ?_ hM; decide)
    | (split <;> (refine Foot.Sub.has hM ?_; decide))
    | with_reducible refine State.flag_within ?_ ?_ _ _ ?_
    | with_reducible refine State.wr_within ?_ _ _ _ ?_
    | with_reducible refine Within.foldl ?_ fun _ _ _ => ?_
    | with_reducible refine Within.foldl_fst ?_ fun _ _ _ => ?_
    | with_reducible refine Within.ite ?_ ?_
    | with_reducible refine Within.ite_fst ?_ ?_
    | split
    | (with_reducible refine Within.of_eq (by with_reducible assumption) ?_))

end Sys2Proof.Machine
end

