-- ==== Sys2Proof/Laws/AdmitOpsWithin.lean ====
section
/-!
SUPPORT. What each operation of Machine/AdmitOps.lean may change (`Within`), and that it keeps the state sound.
-/

namespace Sys2Proof.Machine

set_option linter.all false

theorem State.recordSeqCheck_within {M : Foot} (hM : Foot.Sub 0x200000800000000000 M) {s₀ s : State} (h_s : Within M s₀ s) (d : Nat) (a : Nat) (code : Nat)  :
    Within M s₀ (State.recordSeqCheck s d a code) := by
  unfold State.recordSeqCheck
  repeat' (first
    | with_reducible assumption
    | (refine Foot.Sub.has hM ?_; decide)
    | (refine Foot.Sub.trans ?_ hM; decide)
    | (extract_lets +onlyGivenNames x; refine Within.cut (x := x) ?_ ?_; (on_goal 2 => (clear_value x; revert x; intro _ _)); (on_goal 1 => (unfold x; clear x)))
    | (extract_lets +onlyGivenNames x; refine Within.cut (x := x.1) ?_ ?_; (on_goal 2 => (clear_value x; revert x; intro _ _)); (on_goal 1 => (unfold x; clear x)))
    | (extract_lets +onlyGivenNames x; clear_value x; revert x; intro _)
    | with_reducible refine State.wr_within ?_ _ _ _ ?_
    | with_reducible refine Within.on ?_ fun _ _ => ?_
    | split
    | (with_reducible refine Within.of_eq (by with_reducible assumption) ?_)
    | (intro _))

theorem State.harvestArm_within {M : Foot} (hM : Foot.Sub 0xc187b8600000000000000000000000000000000000000200008000830000000000000880000000000000067f900000001c03c000000898040000000000008000000000000000000000080000000 M) {s₀ s : State} (h_s : Within M s₀ s) (d : Nat) (a : Nat) (cue : Bool) (cmd : Option (MbxHdr × Nat))  :
    Within M s₀ (State.harvestArm s d a cue cmd).1 := by
  unfold State.harvestArm
  repeat' (first
    | with_reducible assumption
    | (refine Foot.Sub.has hM ?_; decide)
    | (refine Foot.Sub.trans ?_ hM; decide)
    | (extract_lets +onlyGivenNames x; refine Within.cut (x := x) ?_ ?_; (on_goal 2 => (clear_value x; revert x; intro _ _)); (on_goal 1 => (unfold x; clear x)))
    | (extract_lets +onlyGivenNames x; refine Within.cut (x := x.1) ?_ ?_; (on_goal 2 => (clear_value x; revert x; intro _ _)); (on_goal 1 => (unfold x; clear x)))
    | (extract_lets +onlyGivenNames x; have _h : (_ : _) → _ := x; clear _h; subst x)
    | (extract_lets +onlyGivenNames x; clear_value x; revert x; intro _)
    | with_reducible refine State.harvestRefuse_within ?_ ?_ _ _ _ _
    | with_reducible refine State.harvest_within ?_ ?_ _ _ _ _ _ _ _
    | with_reducible refine Within.ite ?_ ?_
    | with_reducible refine Within.ite_fst ?_ ?_
    | split
    | (with_reducible refine Within.of_eq (by with_reducible assumption) ?_))

theorem State.requestArm_within {M : Foot} (hM : Foot.Sub 0xc187b8681a0000000000000000180000000000000000020000800083000000001000088003ec178c0000067f900000001c03c000000898040000000000008000f80028200200000800080000000 M) {s₀ s : State} (h_s : Within M s₀ s) (d : Nat) (a : Nat) (dt : Instant) (cue : Bool) (cmd : Option (MbxHdr × Nat))  :
    Within M s₀ (State.requestArm s d a dt cue cmd).1 := by
  unfold State.requestArm
  repeat' (first
    | with_reducible assumption
    | (refine Foot.Sub.has hM ?_; decide)
    | (refine Foot.Sub.trans ?_ hM; decide)
    | (extract_lets +onlyGivenNames x; refine Within.cut (x := x) ?_ ?_; (on_goal 2 => (clear_value x; revert x; intro _ _)); (on_goal 1 => (unfold x; clear x)))
    | (extract_lets +onlyGivenNames x; refine Within.cut (x := x.1) ?_ ?_; (on_goal 2 => (clear_value x; revert x; intro _ _)); (on_goal 1 => (unfold x; clear x)))
    | (extract_lets +onlyGivenNames x; clear_value x; revert x; intro _)
    | with_reducible refine State.recordSeqCheck_within ?_ ?_ _ _ _
    | with_reducible refine State.wr_within ?_ _ _ _ ?_
    | with_reducible refine State.harvestArm_within ?_ ?_ _ _ _ _
    | with_reducible refine State.armEffect_within ?_ ?_ _ _ _ _
    | with_reducible refine Within.ite ?_ ?_
    | with_reducible refine Within.ite_fst ?_ ?_
    | split
    | (with_reducible refine Within.of_eq (by with_reducible assumption) ?_))

theorem State.requestStop_within {M : Foot} (hM : Foot.Sub 0xc0011b6010000000000000000000000000000000000002000000008300000000000000000000000000c0027f9000000000008000200898000000000000000000000000000000000000000000000 M) {s₀ s : State} (h_s : Within M s₀ s) (d : Nat) (a : Nat) (dt : Instant)  :
    Within M s₀ (State.requestStop s d a dt) := by
  unfold State.requestStop
  repeat' (first
    | with_reducible assumption
    | (refine Foot.Sub.has hM ?_; decide)
    | (refine Foot.Sub.trans ?_ hM; decide)
    | (extract_lets +onlyGivenNames x; refine Within.cut (x := x) ?_ ?_; (on_goal 2 => (clear_value x; revert x; intro _ _)); (on_goal 1 => (unfold x; clear x)))
    | (extract_lets +onlyGivenNames x; refine Within.cut (x := x.1) ?_ ?_; (on_goal 2 => (clear_value x; revert x; intro _ _)); (on_goal 1 => (unfold x; clear x)))
    | (extract_lets +onlyGivenNames x; clear_value x; revert x; intro _)
    | with_reducible refine State.stopAt_within ?_ ?_ _ _ _
    | with_reducible refine State.wr_within ?_ _ _ _ ?_
    | with_reducible refine State.withdrawWith_within ?_ ?_ _ _
    | with_reducible refine Within.ite ?_ ?_
    | with_reducible refine Within.ite_fst ?_ ?_
    | split
    | (with_reducible refine Within.of_eq (by with_reducible assumption) ?_))

theorem State.requestAcc_within {M : Foot} (hM : Foot.Sub 0xc187b86084000000000000000000000000000000000002000080008300000000000008803c0000000000067ff00000001c03c000000898040000000000028068004000000000000000080000000 M) {s₀ s : State} (h_s : Within M s₀ s) (d : Nat) (c : Nat) (cmd : Option (MbxHdr × Nat))  :
    Within M s₀ (State.requestAcc s d c cmd).1 := by
  unfold State.requestAcc
  repeat' (first
    | with_reducible assumption
    | (refine Foot.Sub.has hM ?_; decide)
    | (refine Foot.Sub.trans ?_ hM; decide)
    | (extract_lets +onlyGivenNames x; refine Within.cut (x := x) ?_ ?_; (on_goal 2 => (clear_value x; revert x; intro _ _)); (on_goal 1 => (unfold x; clear x)))
    | (extract_lets +onlyGivenNames x; refine Within.cut (x := x.1) ?_ ?_; (on_goal 2 => (clear_value x; revert x; intro _ _)); (on_goal 1 => (unfold x; clear x)))
    | (extract_lets +onlyGivenNames x; have _h : (_ : _) → _ := x; clear _h; subst x)
    | with_reducible refine State.wr_within ?_ _ _ _ ?_
    | with_reducible refine State.harvest_within ?_ ?_ _ _ _ _ _ _ _
    | with_reducible refine State.accStart_within ?_ ?_ _ _
    | with_reducible refine Within.ite ?_ ?_
    | with_reducible refine Within.ite_fst ?_ ?_
    | split
    | (with_reducible refine Within.of_eq (by with_reducible assumption) ?_))

theorem State.requestAccStop_within {M : Foot} (hM : Foot.Sub 0xc0011b6084000000000000000000000000000000000002000000008300000000000000003c0000000000027ff000000000008000200898000000000000020068004000000000000000000000000 M) {s₀ s : State} (h_s : Within M s₀ s) (d : Nat) (c : Nat)  :
    Within M s₀ (State.requestAccStop s d c) := by
  unfold State.requestAccStop
  repeat' (first
    | with_reducible assumption
    | (refine Foot.Sub.has hM ?_; decide)
    | (refine Foot.Sub.trans ?_ hM; decide)
    | with_reducible refine State.accStop_within ?_ ?_ _ _
    | with_reducible refine State.withdrawWith_within ?_ ?_ _ _
    | with_reducible refine State.accStart_within ?_ ?_ _ _
    | split
    | (with_reducible refine Within.of_eq (by with_reducible assumption) ?_))

theorem State.requestTim_within {M : Foot} (hM : Foot.Sub 0xc187b8606000000000000000000000000000000000000200008000830000000000000880000000000000067f900000001c03c000000898045f1c000000008000000000000000000000080000000 M) {s₀ s : State} (h_s : Within M s₀ s) (d : Nat) (u : Nat) (cmd : Option (MbxHdr × Nat))  :
    Within M s₀ (State.requestTim s d u cmd).1 := by
  unfold State.requestTim
  repeat' (first
    | with_reducible assumption
    | (refine Foot.Sub.has hM ?_; decide)
    | (refine Foot.Sub.trans ?_ hM; decide)
    | (extract_lets +onlyGivenNames x; refine Within.cut (x := x) ?_ ?_; (on_goal 2 => (clear_value x; revert x; intro _ _)); (on_goal 1 => (unfold x; clear x)))
    | (extract_lets +onlyGivenNames x; refine Within.cut (x := x.1) ?_ ?_; (on_goal 2 => (clear_value x; revert x; intro _ _)); (on_goal 1 => (unfold x; clear x)))
    | (extract_lets +onlyGivenNames x; have _h : (_ : _) → _ := x; clear _h; subst x)
    | with_reducible refine State.wr_within ?_ _ _ _ ?_
    | with_reducible refine State.harvest_within ?_ ?_ _ _ _ _ _ _ _
    | with_reducible refine State.timStart_within ?_ ?_ _ _ _
    | with_reducible refine Within.ite ?_ ?_
    | with_reducible refine Within.ite_fst ?_ ?_
    | split
    | (with_reducible refine Within.of_eq (by with_reducible assumption) ?_))

theorem State.requestTimStop_within {M : Foot} (hM : Foot.Sub 0xc0011b606000000000000000000000000000000000000200000000830000000000000000000000000000027f9000000000008000200898000004000000000000000000000000000000000000000 M) {s₀ s : State} (h_s : Within M s₀ s) (d : Nat) (u : Nat)  :
    Within M s₀ (State.requestTimStop s d u) := by
  unfold State.requestTimStop
  repeat' (first
    | with_reducible assumption
    | (refine Foot.Sub.has hM ?_; decide)
    | (refine Foot.Sub.trans ?_ hM; decide)
    | with_reducible refine State.timStop_within ?_ ?_ _ _ _
    | with_reducible refine State.withdrawWith_within ?_ ?_ _ _
    | split
    | (with_reducible refine Within.of_eq (by with_reducible assumption) ?_))

end Sys2Proof.Machine
end

