-- ==== Sys2Proof/Laws/ChunkOpsWithin.lean ====
section
/-!
SUPPORT. What each operation of Machine/ChunkOps.lean may change (`Within`), and that it keeps the state sound.
-/

namespace Sys2Proof.Machine

set_option linter.all false

theorem State.complete_within {M : Foot} (hM : Foot.Sub 0x860000000000000000000000000000000000000020000000080000000000000000000000000000002701000000000000000000018000000000000000000000000000000000000000000000 M) {s₀ s : State} (h_s : Within M s₀ s) (d : Nat) (q : Nat) (bytes : Nat) (tag : Nat) (status : Nat) (last : Bool)  :
    Within M s₀ (State.complete s d q bytes tag status last) := by
  unfold State.complete
  repeat' (first
    | with_reducible assumption
    | (refine Foot.Sub.has hM ?_; decide)
    | (refine Foot.Sub.trans ?_ hM; decide)
    | (extract_lets +onlyGivenNames x; refine Within.cut (x := x) ?_ ?_; (on_goal 2 => (clear_value x; revert x; intro _ _)); (on_goal 1 => (unfold x; clear x)))
    | (extract_lets +onlyGivenNames x; refine Within.cut (x := x.1) ?_ ?_; (on_goal 2 => (clear_value x; revert x; intro _ _)); (on_goal 1 => (unfold x; clear x)))
    | (extract_lets +onlyGivenNames x; clear_value x; revert x; intro _)
    | with_reducible refine State.pushRecord_within ?_ ?_ _ _ _ _ _ _
    | with_reducible refine State.advanceOwn_within ?_ ?_ _ _
    | split
    | (with_reducible refine Within.of_eq (by with_reducible assumption) ?_))

theorem State.rejectDesc_within {M : Foot} (hM : Foot.Sub 0x1c0001c600000000000000000000000000000000000000200000000830000000000000000000000000000027f9000000000000003c00898000000000000000000000000000000000000000000000 M) {s₀ s : State} (h_s : Within M s₀ s) (d : Nat) (q : Nat) (x : DataDesc)  :
    Within M s₀ (State.rejectDesc s d q x) := by
  unfold State.rejectDesc
  repeat' (first
    | with_reducible assumption
    | (refine Foot.Sub.has hM ?_; decide)
    | (refine Foot.Sub.trans ?_ hM; decide)
    | (extract_lets +onlyGivenNames x; refine Within.cut (x := x) ?_ ?_; (on_goal 2 => (clear_value x; revert x; intro _ _)); (on_goal 1 => (unfold x; clear x)))
    | (extract_lets +onlyGivenNames x; refine Within.cut (x := x.1) ?_ ?_; (on_goal 2 => (clear_value x; revert x; intro _ _)); (on_goal 1 => (unfold x; clear x)))
    | (extract_lets +onlyGivenNames x; clear_value x; revert x; intro _)
    | with_reducible refine State.complete_within ?_ ?_ _ _ _ _ _ _
    | with_reducible refine State.violation_within ?_ ?_ _ _ _ _
    | split
    | (with_reducible refine Within.of_eq (by with_reducible assumption) ?_))

theorem State.deliverChunk_within {M : Foot} (hM : Foot.Sub 0x1c0001c601000000000000000000000000000000000000200000000830000000000000000000000000000027f9000000000000003c00898000000000000000000200000000000000000000000000 M) {s₀ s : State} (h_s : Within M s₀ s) (d : Nat) (a : Nat) (q : Nat) (x : DataDesc)  :
    Within M s₀ (State.deliverChunk s d a q x) := by
  unfold State.deliverChunk
  repeat' (first
    | with_reducible assumption
    | (refine Foot.Sub.has hM ?_; decide)
    | (refine Foot.Sub.trans ?_ hM; decide)
    | (extract_lets +onlyGivenNames x; refine Within.cut (x := x) ?_ ?_; (on_goal 2 => (clear_value x; revert x; intro _ _)); (on_goal 1 => (unfold x; clear x)))
    | (extract_lets +onlyGivenNames x; refine Within.cut (x := x.1) ?_ ?_; (on_goal 2 => (clear_value x; revert x; intro _ _)); (on_goal 1 => (unfold x; clear x)))
    | (extract_lets +onlyGivenNames x; clear_value x; revert x; intro _)
    | with_reducible refine State.rejectDesc_within ?_ ?_ _ _ _
    | with_reducible refine State.count_within ?_ ?_ _ _ _ ?_
    | with_reducible refine State.setAcq_within ?_ ?_ _ _ _
    | with_reducible refine State.setBuf_within ?_ ?_ _ _ _
    | with_reducible refine State.emit_within ?_ ?_ _
    | with_reducible refine State.complete_within ?_ ?_ _ _ _ _ _ _
    | with_reducible refine Within.ite ?_ ?_
    | with_reducible refine Within.ite_fst ?_ ?_
    | split
    | (with_reducible refine Within.of_eq (by with_reducible assumption) ?_))

theorem State.foundBad_within {M : Foot} (hM : Foot.Sub 0xc00018601a00000000000000000000000000000000000200000000830000000000000000000000000100027f9000000000000000000898000000000000000000880300000000000000000000000 M) {s₀ s : State} (h_s : Within M s₀ s) (d : Nat) (deliver : Bool) (w : ReadWord)  :
    Within M s₀ (State.foundBad s d deliver w) := by
  unfold State.foundBad
  repeat' (first
    | with_reducible assumption
    | (refine Foot.Sub.has hM ?_; decide)
    | (refine Foot.Sub.trans ?_ hM; decide)
    | (split <;> (refine Foot.Sub.has hM ?_; decide))
    | (extract_lets +onlyGivenNames x; refine Within.cut (x := x) ?_ ?_; (on_goal 2 => (clear_value x; revert x; intro _ _)); (on_goal 1 => (unfold x; clear x)))
    | (extract_lets +onlyGivenNames x; refine Within.cut (x := x.1) ?_ ?_; (on_goal 2 => (clear_value x; revert x; intro _ _)); (on_goal 1 => (unfold x; clear x)))
    | (extract_lets +onlyGivenNames x; clear_value x; revert x; intro _)
    | with_reducible refine State.count_within ?_ ?_ _ _ _ ?_
    | with_reducible refine State.wr_within ?_ _ _ _ ?_
    | with_reducible refine State.deliver_within ?_ ?_ _ _
    | with_reducible refine State.gapRecord_within ?_ ?_ _ _ _ _ _ _ _
    | with_reducible refine State.raise_within ?_ ?_ _ _ _
    | with_reducible refine Within.each ?_ fun _ _ _ => ?_
    | with_reducible refine Within.ite ?_ ?_
    | with_reducible refine Within.ite_fst ?_ ?_
    | split
    | (with_reducible refine Within.of_eq (by with_reducible assumption) ?_))

theorem State.deliverRead_within {M : Foot} (hM : Foot.Sub 0xc00018601e00000000000000000000000000000000000200000000830000000000000000000000000100027f9000000000000000000898000000000000000000884300000000000000000000000 M) {s₀ s : State} (h_s : Within M s₀ s) (d : Nat) (ws : List ReadWord) (f : State → State) (h_f : ∀ u, Within M s₀ u → Within M s₀ (f u)) :
    Within M s₀ (State.deliverRead s d ws f) := by
  unfold State.deliverRead
  repeat' (first
    | with_reducible assumption
    | (refine Foot.Sub.has hM ?_; decide)
    | (refine Foot.Sub.trans ?_ hM; decide)
    | with_reducible refine State.foundBad_within ?_ ?_ _ _ _
    | with_reducible refine State.reading_within ?_ ?_ _ _ _ ?_
    | with_reducible refine Within.each ?_ fun _ _ _ => ?_
    | split
    | with_reducible apply h_f
    | (with_reducible refine Within.of_eq (by with_reducible assumption) ?_)
    | (intro _))

theorem State.resumeStoring_within {M : Foot} (hM : Foot.Sub 0xc00018601a00000000000000000000000000000000000200000000830000000000000000000000000100027f9000000000000000000898000000000000000000a80000000000000000000000000 M) {s₀ s : State} (h_s : Within M s₀ s) (d : Nat) (a : Nat)  :
    Within M s₀ (State.resumeStoring s d a) := by
  unfold State.resumeStoring
  repeat' (first
    | with_reducible assumption
    | (refine Foot.Sub.has hM ?_; decide)
    | (refine Foot.Sub.trans ?_ hM; decide)
    | (extract_lets +onlyGivenNames x; refine Within.cut (x := x) ?_ ?_; (on_goal 2 => (clear_value x; revert x; intro _ _)); (on_goal 1 => (unfold x; clear x)))
    | (extract_lets +onlyGivenNames x; refine Within.cut (x := x.1) ?_ ?_; (on_goal 2 => (clear_value x; revert x; intro _ _)); (on_goal 1 => (unfold x; clear x)))
    | (extract_lets +onlyGivenNames x; clear_value x; revert x; intro _)
    | with_reducible refine State.setBackpressure_within ?_ ?_ _ _ _
    | with_reducible refine State.lcResume_within ?_ ?_ _ _ _ _
    | with_reducible refine State.closeGap_within ?_ ?_ _ _
    | with_reducible refine Within.ite ?_ ?_
    | with_reducible refine Within.ite_fst ?_ ?_
    | split
    | (with_reducible refine Within.of_eq (by with_reducible assumption) ?_))

theorem State.recordDone_within {M : Foot} (hM : Foot.Sub 0xc00018689a00000000000000000000000000000000000200000000830000000010000000000000000100027f9000000000000000000898000000000000040000a80028200000000000000000000 M) {s₀ s : State} (h_s : Within M s₀ s) (d : Nat) (a : Nat)  :
    Within M s₀ (State.recordDone s d a) := by
  unfold State.recordDone
  repeat' (first
    | with_reducible assumption
    | (refine Foot.Sub.has hM ?_; decide)
    | (refine Foot.Sub.trans ?_ hM; decide)
    | (extract_lets +onlyGivenNames x; refine Within.cut (x := x) ?_ ?_; (on_goal 2 => (clear_value x; revert x; intro _ _)); (on_goal 1 => (unfold x; clear x)))
    | (extract_lets +onlyGivenNames x; refine Within.cut (x := x.1) ?_ ?_; (on_goal 2 => (clear_value x; revert x; intro _ _)); (on_goal 1 => (unfold x; clear x)))
    | (extract_lets +onlyGivenNames x; clear_value x; revert x; intro _)
    | with_reducible refine State.writeRecord_within ?_ ?_ _ _ _
    | with_reducible refine State.resumeQueue_within ?_ ?_ _ _
    | with_reducible refine State.accOffer_within ?_ ?_ _ _ _ _
    | with_reducible refine Within.ite ?_ ?_
    | with_reducible refine Within.ite_fst ?_ ?_
    | split
    | (with_reducible refine Within.of_eq (by with_reducible assumption) ?_))

end Sys2Proof.Machine
end

