-- ==== Sys2Proof/Laws/StoreOpsWithin.lean ====
section
/-!
SUPPORT. What each operation of Machine/StoreOps.lean may change (`Within`), and that it keeps the state sound.
-/

namespace Sys2Proof.Machine

set_option linter.all false

theorem State.flashPut_within {M : Foot} (hM : Foot.Sub 0x200000000000000000000000000000000000000000000000000000000000000000000000000000000000000000000000000000000000000000000000000000000000000000000000000000000 M) {s₀ s : State} (h_s : Within M s₀ s) (a : Nat) (b : Byte)  :
    Within M s₀ (State.flashPut s a b) := Within.flashPut h_s a b (hM.has (by decide))

theorem State.flashStore_within {M : Foot} (hM : Foot.Sub 0x200000000000000000000000000000000000000000000000000000000000000000000000000000000000000000000000000000000000000000000000000000000000000000000000000000000 M) {s₀ s : State} (h_s : Within M s₀ s) (a : Nat) (l : List Byte)  :
    Within M s₀ (State.flashStore s a l) := by
  unfold State.flashStore
  repeat' (first
    | with_reducible assumption
    | (refine Foot.Sub.has hM ?_; decide)
    | (refine Foot.Sub.trans ?_ hM; decide)
    | with_reducible refine State.flashPut_within ?_ ?_ _ _
    | with_reducible refine Within.foldl ?_ fun _ _ _ => ?_
    | with_reducible refine Within.foldl_fst ?_ fun _ _ _ => ?_
    | split
    | (with_reducible refine Within.of_eq (by with_reducible assumption) ?_))

theorem State.flashProgram_within {M : Foot} (hM : Foot.Sub 0x200020000000000000000000000000000000000000000000000000000000000000000000000000000000000000000000000000000000000000000000000000000000000000000000000000000 M) {s₀ s : State} (h_s : Within M s₀ s) (a : Nat) (l : List Byte)  :
    Within M s₀ (State.flashProgram s a l) := by
  unfold State.flashProgram
  repeat' (first
    | with_reducible assumption
    | (refine Foot.Sub.has hM ?_; decide)
    | (refine Foot.Sub.trans ?_ hM; decide)
    | with_reducible refine State.flashStore_within ?_ ?_ _ _
    | with_reducible refine State.emit_within ?_ ?_ _
    | split
    | (with_reducible refine Within.of_eq (by with_reducible assumption) ?_))

theorem State.flashErase_within {M : Foot} (hM : Foot.Sub 0x200020000000000000000000000000000000000000000000000000000000000000000000000000000000000000000000000000000000000000000000000000000000000000000000000000000 M) {s₀ s : State} (h_s : Within M s₀ s) (a : Nat) (n : Nat)  :
    Within M s₀ (State.flashErase s a n) := State.emit_within (Foot.Sub.trans (by decide) hM) (Within.flashFilter h_s _ (hM.has (by decide))) _

theorem State.loadTrims_within {M : Foot} (hM : Foot.Sub 0x800000000000000000000000000000000000000000000000000000000000000000000000001000000000 M) {s₀ s : State} (h_s : Within M s₀ s) (k : Nat) (d : Nat) (c : Nat) (i : Nat)  :
    Within M s₀ (State.loadTrims s k d c i) := by
  unfold State.loadTrims
  repeat' (first
    | with_reducible assumption
    | (refine Foot.Sub.has hM ?_; decide)
    | (refine Foot.Sub.trans ?_ hM; decide)
    | (extract_lets +onlyGivenNames x; refine Within.cut (x := x) ?_ ?_; (on_goal 2 => (clear_value x; revert x; intro _ _)); (on_goal 1 => (unfold x; clear x)))
    | (extract_lets +onlyGivenNames x; refine Within.cut (x := x.1) ?_ ?_; (on_goal 2 => (clear_value x; revert x; intro _ _)); (on_goal 1 => (unfold x; clear x)))
    | (extract_lets +onlyGivenNames x; clear_value x; revert x; intro _)
    | with_reducible refine State.wr_within ?_ _ _ _ ?_
    | with_reducible refine Within.each ?_ fun _ _ _ => ?_
    | split
    | (with_reducible refine Within.of_eq (by with_reducible assumption) ?_))

theorem State.loadMap_within {M : Foot} (hM : Foot.Sub 0x1000000 M) {s₀ s : State} (h_s : Within M s₀ s) (k : Nat) (d : Nat) (c : Nat) (g : Nat)  :
    Within M s₀ (State.loadMap s k d c g) := by
  unfold State.loadMap
  refine Within.each_mem h_s fun u i hi hu => Within.wr hu _ _ _ ?_
  rw [show i.fld.reg = .CNV_SLICE_MAP from by revert i; decide]
  exact hM.has (by decide)

theorem State.loadTimeBase_within {M : Foot} (hM : Foot.Sub 0x788000000002c0000000000000000000000000000000000000000000000000000000000000000000000000000000000 M) {s₀ s : State} (h_s : Within M s₀ s) (k : Nat)  :
    Within M s₀ (State.loadTimeBase s k) := by
  unfold State.loadTimeBase
  repeat' (first
    | with_reducible assumption
    | (refine Foot.Sub.has hM ?_; decide)
    | (refine Foot.Sub.trans ?_ hM; decide)
    | (extract_lets +onlyGivenNames x; refine Within.cut (x := x) ?_ ?_; (on_goal 2 => (clear_value x; revert x; intro _ _)); (on_goal 1 => (unfold x; clear x)))
    | (extract_lets +onlyGivenNames x; refine Within.cut (x := x.1) ?_ ?_; (on_goal 2 => (clear_value x; revert x; intro _ _)); (on_goal 1 => (unfold x; clear x)))
    | (extract_lets +onlyGivenNames x; have _h : (_ : _) → _ := x; clear _h; subst x)
    | (extract_lets +onlyGivenNames x; clear_value x; revert x; intro _)
    | with_reducible refine State.wr_within ?_ _ _ _ ?_
    | with_reducible refine Within.each ?_ fun _ _ _ => ?_
    | split
    | (with_reducible refine Within.of_eq (by with_reducible assumption) ?_))

theorem State.loadBobbin_within {M : Foot} (hM : Foot.Sub 0x80000000000000000000000000000000000000000000000000000000000000000004000000000000000000000000000000000000000000000000000000000000000000000000000000000000 M) {s₀ s : State} (h_s : Within M s₀ s) (k : Nat)  :
    Within M s₀ (State.loadBobbin s k) := by
  unfold State.loadBobbin
  repeat' (first
    | with_reducible assumption
    | (refine Foot.Sub.has hM ?_; decide)
    | (refine Foot.Sub.trans ?_ hM; decide)
    | (extract_lets +onlyGivenNames x; refine Within.cut (x := x) ?_ ?_; (on_goal 2 => (clear_value x; revert x; intro _ _)); (on_goal 1 => (unfold x; clear x)))
    | (extract_lets +onlyGivenNames x; refine Within.cut (x := x.1) ?_ ?_; (on_goal 2 => (clear_value x; revert x; intro _ _)); (on_goal 1 => (unfold x; clear x)))
    | (extract_lets +onlyGivenNames x; have _h : (_ : _) → _ := x; clear _h; subst x)
    | (extract_lets +onlyGivenNames x; clear_value x; revert x; intro _)
    | with_reducible refine State.wr_within ?_ _ _ _ ?_
    | with_reducible refine Within.each ?_ fun _ _ _ => ?_
    | split
    | with_reducible refine Within.set_bobbin ?_ _ ?_
    | (with_reducible refine Within.of_eq (by with_reducible assumption) ?_))

theorem State.loadImage_within {M : Foot} (hM : Foot.Sub 0x80000000000000000000000000000000000000000000000000000000078800000004ac0000000000000000000000000000000000000000000000000000000000000000000000001001000000 M) {s₀ s : State} (h_s : Within M s₀ s) (k : Nat)  :
    Within M s₀ (State.loadImage s k) := by
  unfold State.loadImage
  repeat' (first
    | with_reducible assumption
    | (refine Foot.Sub.has hM ?_; decide)
    | (refine Foot.Sub.trans ?_ hM; decide)
    | (extract_lets +onlyGivenNames x; refine Within.cut (x := x) ?_ ?_; (on_goal 2 => (clear_value x; revert x; intro _ _)); (on_goal 1 => (unfold x; clear x)))
    | (extract_lets +onlyGivenNames x; refine Within.cut (x := x.1) ?_ ?_; (on_goal 2 => (clear_value x; revert x; intro _ _)); (on_goal 1 => (unfold x; clear x)))
    | (extract_lets +onlyGivenNames x; clear_value x; revert x; intro _)
    | with_reducible refine State.loadTrims_within ?_ ?_ _ _ _ _
    | with_reducible refine State.loadMap_within ?_ ?_ _ _ _ _
    | with_reducible refine State.loadTimeBase_within ?_ ?_ _
    | with_reducible refine State.loadBobbin_within ?_ ?_ _
    | with_reducible refine Within.each ?_ fun _ _ _ => ?_
    | split
    | (with_reducible refine Within.of_eq (by with_reducible assumption) ?_))

theorem State.loadFactory_within {M : Foot} (hM : Foot.Sub 0x80000000000000000000000000000000000000000000000000000000078000000004ac0000000000000000000000000000000000000000000000000000000000000000000000001000000000 M) {s₀ s : State} (h_s : Within M s₀ s)   :
    Within M s₀ (State.loadFactory s) := by
  unfold State.loadFactory
  repeat' (first
    | with_reducible assumption
    | (refine Foot.Sub.has hM ?_; decide)
    | (refine Foot.Sub.trans ?_ hM; decide)
    | (extract_lets +onlyGivenNames x; refine Within.cut (x := x) ?_ ?_; (on_goal 2 => (clear_value x; revert x; intro _ _)); (on_goal 1 => (unfold x; clear x)))
    | (extract_lets +onlyGivenNames x; refine Within.cut (x := x.1) ?_ ?_; (on_goal 2 => (clear_value x; revert x; intro _ _)); (on_goal 1 => (unfold x; clear x)))
    | (extract_lets +onlyGivenNames x; clear_value x; revert x; intro _)
    | with_reducible refine State.wr_within ?_ _ _ _ ?_
    | with_reducible refine Within.each ?_ fun _ _ _ => ?_
    | split
    | with_reducible refine Within.set_bobbin ?_ _ ?_
    | (with_reducible refine Within.of_eq (by with_reducible assumption) ?_))

end Sys2Proof.Machine
end

