-- ==== Sys2Proof/Laws/MaintOpsWithin.lean ====
section
/-!
SUPPORT. What each operation of Machine/MaintOps.lean may change (`Within`), and that it keeps the state sound.
-/

namespace Sys2Proof.Machine

set_option linter.all false

theorem State.wearCand_within {M : Foot} (hM : Foot.Sub 0xc00018600000000000000000000000000000000000000200000000830000000000000000000000000000027f9000000000000000000898000000000000000000000000000000000002000000000 M) {s₀ s : State} (h_s : Within M s₀ s) (d : Nat) (c : Nat) (i : Nat) (loop : Nat) (why : Nat)  :
    Within M s₀ (State.wearCand s d c i loop why) := by
  unfold State.wearCand
  repeat' (first
    | with_reducible assumption
    | (refine Foot.Sub.has hM ?_; decide)
    | (refine Foot.Sub.trans ?_ hM; decide)
    | with_reducible refine State.stick_within ?_ ?_ _ _ _ _ _ ?_
    | split
    | (with_reducible refine Within.of_eq (by with_reducible assumption) ?_))

theorem State.syncEdge_within {M : Foot} (hM : Foot.Sub 0xc00018600000000000000000000000000000000000000200000000830000000020000000000000000000027f9000000000000000000898000000000000000000000000000000000003000000000 M) {s₀ s : State} (h_s : Within M s₀ s) (d : Nat) (c : Nat) (i : Nat) (loop : Nat)  :
    Within M s₀ (State.syncEdge s d c i loop) := by
  unfold State.syncEdge
  repeat' (first
    | with_reducible assumption
    | (refine Foot.Sub.has hM ?_; decide)
    | (refine Foot.Sub.trans ?_ hM; decide)
    | (unfold State.trimField; split <;> (refine Foot.Sub.has hM ?_; decide))
    | (split <;> (refine Foot.Sub.has hM ?_; decide))
    | (extract_lets +onlyGivenNames x; refine Within.cut (x := x) ?_ ?_; (on_goal 2 => (clear_value x; revert x; intro _ _)); (on_goal 1 => (unfold x; clear x)))
    | (extract_lets +onlyGivenNames x; refine Within.cut (x := x.1) ?_ ?_; (on_goal 2 => (clear_value x; revert x; intro _ _)); (on_goal 1 => (unfold x; clear x)))
    | (extract_lets +onlyGivenNames x; clear_value x; revert x; intro _)
    | with_reducible refine State.wr_within ?_ _ _ _ ?_
    | with_reducible refine State.wearCand_within ?_ ?_ _ _ _ _ _
    | with_reducible refine Within.on ?_ fun _ _ => ?_
    | split
    | (with_reducible refine Within.of_eq (by with_reducible assumption) ?_)
    | (intro _))

theorem State.tapSat_within {M : Foot} (hM : Foot.Sub 0xc00018600000000000000000000000000000000000000200000000830000000000000000000000000000027f9000000000000000000898000000000000000000000000000000000002000000000 M) {s₀ s : State} (h_s : Within M s₀ s) (d : Nat) (c : Nat) (i : Nat) (loop : Nat)  :
    Within M s₀ (State.tapSat s d c i loop) := by
  unfold State.tapSat
  repeat' (first
    | with_reducible assumption
    | (refine Foot.Sub.has hM ?_; decide)
    | (refine Foot.Sub.trans ?_ hM; decide)
    | with_reducible refine State.wr_within ?_ _ _ _ ?_
    | with_reducible refine State.wearCand_within ?_ ?_ _ _ _ _ _
    | split
    | (with_reducible refine Within.of_eq (by with_reducible assumption) ?_))

theorem State.setTap_within {M : Foot} (hM : Foot.Sub 0xc00018600000000000000000000000000000000000000200000000830000000020000008000000000000027f9000000000000000000898000000000000000000000000000000000003000000000 M) {s₀ s : State} (h_s : Within M s₀ s) (d : Nat) (c : Nat) (i : Nat) (loop : Nat) (v : Int)  :
    Within M s₀ (State.setTap s d c i loop v) := by
  unfold State.setTap
  repeat' (first
    | with_reducible assumption
    | (refine Foot.Sub.has hM ?_; decide)
    | (refine Foot.Sub.trans ?_ hM; decide)
    | (unfold State.trimField; split <;> (refine Foot.Sub.has hM ?_; decide))
    | (split <;> (refine Foot.Sub.has hM ?_; decide))
    | (extract_lets +onlyGivenNames x; refine Within.cut (x := x) ?_ ?_; (on_goal 2 => (clear_value x; revert x; intro _ _)); (on_goal 1 => (unfold x; clear x)))
    | (extract_lets +onlyGivenNames x; refine Within.cut (x := x.1) ?_ ?_; (on_goal 2 => (clear_value x; revert x; intro _ _)); (on_goal 1 => (unfold x; clear x)))
    | (extract_lets +onlyGivenNames x; clear_value x; revert x; intro _)
    | with_reducible refine State.wr_within ?_ _ _ _ ?_
    | with_reducible refine State.syncEdge_within ?_ ?_ _ _ _ _
    | with_reducible refine State.tapSat_within ?_ ?_ _ _ _ _
    | with_reducible refine Within.on ?_ fun _ _ => ?_
    | split
    | (with_reducible refine Within.of_eq (by with_reducible assumption) ?_)
    | (intro _))

theorem State.showGain_within {M : Foot} (hM : Foot.Sub 0xc00018600000000000000000000000000000000000000200000000830000000020000000000000000000027f9000000000000000000898000000000000000000000000000000000003000000000 M) {s₀ s : State} (h_s : Within M s₀ s) (d : Nat) (c : Nat)  :
    Within M s₀ (State.showGain s d c) := by
  unfold State.showGain
  repeat' (first
    | with_reducible assumption
    | (refine Foot.Sub.has hM ?_; decide)
    | (refine Foot.Sub.trans ?_ hM; decide)
    | with_reducible refine State.wr_within ?_ _ _ _ ?_
    | with_reducible refine State.syncEdge_within ?_ ?_ _ _ _ _
    | with_reducible refine Within.each ?_ fun _ _ _ => ?_
    | split
    | (with_reducible refine Within.of_eq (by with_reducible assumption) ?_))

theorem State.showTrims_within {M : Foot} (hM : Foot.Sub 0xc00018600000000000000000000000000000000000000200000000830000000020000000000000000000027f9000000000000000000898000000000000000000000000000000000003000000000 M) {s₀ s : State} (h_s : Within M s₀ s) (d : Nat) (c : Nat)  :
    Within M s₀ (State.showTrims s d c) := by
  unfold State.showTrims
  repeat' (first
    | with_reducible assumption
    | (refine Foot.Sub.has hM ?_; decide)
    | (refine Foot.Sub.trans ?_ hM; decide)
    | with_reducible refine State.showGain_within ?_ ?_ _ _
    | with_reducible refine State.syncEdge_within ?_ ?_ _ _ _ _
    | with_reducible refine Within.each ?_ fun _ _ _ => ?_
    | split
    | (with_reducible refine Within.of_eq (by with_reducible assumption) ?_))

theorem State.syncCardAny_within {M : Foot} (hM : Foot.Sub 0x80000000 M) {s₀ s : State} (h_s : Within M s₀ s) (d : Nat) (c : Nat)  :
    Within M s₀ (State.syncCardAny s d c) := by
  unfold State.syncCardAny
  repeat' (first
    | with_reducible assumption
    | (refine Foot.Sub.has hM ?_; decide)
    | (refine Foot.Sub.trans ?_ hM; decide)
    | with_reducible refine State.wrBool_within ?_ _ _ _ ?_
    | split
    | (with_reducible refine Within.of_eq (by with_reducible assumption) ?_))

theorem State.dropSlices_within {M : Foot} (hM : Foot.Sub 0xa00000000000000000000000000000000000000c0000000000000000000000000000000000000000000000000000000000200018000000000000000000000000000000000000000000000 M) {s₀ s : State} (h_s : Within M s₀ s) (f : Fld) (d : Nat) (c : Nat) (h_f : M.testBit f.reg.ctorIdx = true) :
    Within M s₀ (State.dropSlices s f d c) := by
  unfold State.dropSlices
  refine Within.regsFilter h_s _ fun e he => ?_
  have : e.1.reg ≠ f.reg := fun c => by rw [c, h_f] at he; cases he
  simp [this]

theorem State.restartLoops_within {M : Foot} (hM : Foot.Sub 0xa00000000000000000000000000000000000000c0000000000000000000000001000000000000000000000000000000000200018000000000000000000000000000000000002000000000 M) {s₀ s : State} (h_s : Within M s₀ s) (d : Nat) (c : Nat)  :
    Within M s₀ (State.restartLoops s d c) := by
  unfold State.restartLoops
  repeat' (first
    | with_reducible assumption
    | (refine Foot.Sub.has hM ?_; decide)
    | (refine Foot.Sub.trans ?_ hM; decide)
    | with_reducible refine State.dropSlices_within ?_ ?_ _ _ _ ?_
    | with_reducible refine Within.each ?_ fun _ _ _ => ?_
    | split
    | (with_reducible refine Within.of_eq (by with_reducible assumption) ?_))

theorem State.clearStarved_within {M : Foot} (hM : Foot.Sub 0xc00018600000000000000000000000000000000000000200000000830000000000000000000000000000027f9000000000000000000898000000000000000000000000000000000000080000000 M) {s₀ s : State} (h_s : Within M s₀ s) (d : Nat) (c : Nat)  :
    Within M s₀ (State.clearStarved s d c) := by
  unfold State.clearStarved
  repeat' (first
    | with_reducible assumption
    | (refine Foot.Sub.has hM ?_; decide)
    | (refine Foot.Sub.trans ?_ hM; decide)
    | with_reducible refine State.wr_within ?_ _ _ _ ?_
    | with_reducible refine State.raise_within ?_ ?_ _ _ _
    | with_reducible refine Within.on ?_ fun _ _ => ?_
    | split
    | (with_reducible refine Within.of_eq (by with_reducible assumption) ?_)
    | (intro _))

theorem State.cardStart_within {M : Foot} (hM : Foot.Sub 0x18600a00000000000000000000000000000000000000c00000000000000000000000f900000000000000400000000001c000000200018000000000000000000000000000000000002080000000 M) {s₀ s : State} (h_s : Within M s₀ s) (d : Nat) (c : Nat)  :
    Within M s₀ (State.cardStart s d c) := by
  unfold State.cardStart
  repeat' (first
    | with_reducible assumption
    | (refine Foot.Sub.has hM ?_; decide)
    | (refine Foot.Sub.trans ?_ hM; decide)
    | (extract_lets +onlyGivenNames x; refine Within.cut (x := x) ?_ ?_; (on_goal 2 => (clear_value x; revert x; intro _ _)); (on_goal 1 => (unfold x; clear x)))
    | (extract_lets +onlyGivenNames x; refine Within.cut (x := x.1) ?_ ?_; (on_goal 2 => (clear_value x; revert x; intro _ _)); (on_goal 1 => (unfold x; clear x)))
    | (extract_lets +onlyGivenNames x; clear_value x; revert x; intro _)
    | with_reducible refine State.restartLoops_within ?_ ?_ _ _
    | with_reducible refine State.wr_within ?_ _ _ _ ?_
    | with_reducible refine State.beginInterval_within ?_ ?_ _ _
    | with_reducible refine State.suspendCard_within ?_ ?_ _ _
    | with_reducible refine Within.on ?_ fun _ _ => ?_
    | split
    | (with_reducible refine Within.of_eq (by with_reducible assumption) ?_)
    | (intro _))

theorem State.cardOff_within {M : Foot} (hM : Foot.Sub 0xc18618600000000000000000000000000000000000000200000000830000000000000880000000000000027f900000001c000000000898000000000000000000000000000000000000080000000 M) {s₀ s : State} (h_s : Within M s₀ s) (d : Nat) (c : Nat)  :
    Within M s₀ (State.cardOff s d c) := by
  unfold State.cardOff
  repeat' (first
    | with_reducible assumption
    | (refine Foot.Sub.has hM ?_; decide)
    | (refine Foot.Sub.trans ?_ hM; decide)
    | (extract_lets +onlyGivenNames x; refine Within.cut (x := x) ?_ ?_; (on_goal 2 => (clear_value x; revert x; intro _ _)); (on_goal 1 => (unfold x; clear x)))
    | (extract_lets +onlyGivenNames x; refine Within.cut (x := x.1) ?_ ?_; (on_goal 2 => (clear_value x; revert x; intro _ _)); (on_goal 1 => (unfold x; clear x)))
    | (extract_lets +onlyGivenNames x; clear_value x; revert x; intro _)
    | with_reducible refine State.wr_within ?_ _ _ _ ?_
    | with_reducible refine State.clearStarved_within ?_ ?_ _ _
    | with_reducible refine State.cardDrop_within ?_ ?_ _ _
    | with_reducible refine Within.on ?_ fun _ _ => ?_
    | split
    | (with_reducible refine Within.of_eq (by with_reducible assumption) ?_)
    | (intro _))

theorem State.syncCard_within {M : Foot} (hM : Foot.Sub 0xc18618e00000000000000000000000000000000000000e00000000830000000000000f90000000000000067f900000001c000000200898000000000000000000000000000000000002080000000 M) {s₀ s : State} (h_s : Within M s₀ s)   :
    Within M s₀ (State.syncCard s) := by
  unfold State.syncCard
  repeat' (first
    | with_reducible assumption
    | (refine Foot.Sub.has hM ?_; decide)
    | (refine Foot.Sub.trans ?_ hM; decide)
    | with_reducible refine State.cardStart_within ?_ ?_ _ _
    | with_reducible refine State.cardOff_within ?_ ?_ _ _
    | with_reducible refine Within.on ?_ fun _ _ => ?_
    | with_reducible refine Within.each ?_ fun _ _ _ => ?_
    | with_reducible refine Within.ite ?_ ?_
    | with_reducible refine Within.ite_fst ?_ ?_
    | split
    | (with_reducible refine Within.of_eq (by with_reducible assumption) ?_)
    | (intro _))

theorem State.closeInterval_within {M : Foot} (hM : Foot.Sub 0x40800000000000000000000000000000000000000000000000000000000000000000008000000000000000000000000000000000000000000000000000000000000000000000000000380000000 M) {s₀ s : State} (h_s : Within M s₀ s) (d : Nat) (c : Nat) (blocks : List CodeBlock)  :
    Within M s₀ (State.closeInterval s d c blocks) := by
  unfold State.closeInterval
  repeat' (first
    | with_reducible assumption
    | (refine Foot.Sub.has hM ?_; decide)
    | (refine Foot.Sub.trans ?_ hM; decide)
    | (extract_lets +onlyGivenNames x; refine Within.cut (x := x) ?_ ?_; (on_goal 2 => (clear_value x; revert x; intro _ _)); (on_goal 1 => (unfold x; clear x)))
    | (extract_lets +onlyGivenNames x; refine Within.cut (x := x.1) ?_ ?_; (on_goal 2 => (clear_value x; revert x; intro _ _)); (on_goal 1 => (unfold x; clear x)))
    | (extract_lets +onlyGivenNames x; clear_value x; revert x; intro _)
    | with_reducible refine State.wr_within ?_ _ _ _ ?_
    | with_reducible refine State.count_within ?_ ?_ _ _ _ ?_
    | with_reducible refine Within.ite ?_ ?_
    | with_reducible refine Within.ite_fst ?_ ?_
    | split
    | with_reducible refine Within.set_cardErrs ?_ _ ?_
    | (with_reducible refine Within.of_eq (by with_reducible assumption) ?_))

theorem State.loopSeeks_within {M : Foot} (hM : Foot.Sub 0xc10018600000000000000000000000000000000000000200000000830000000040000030000000000000027f9000000000000000000898000000000000000000000000000000000002000000000 M) {s₀ s : State} (h_s : Within M s₀ s) (d : Nat) (c : Nat) (x : Nat) (i : Nat) (loop : Nat) (fresh : Bool) (up : Bool)  :
    Within M s₀ (State.loopSeeks s d c x i loop fresh up) := by
  unfold State.loopSeeks
  repeat' (first
    | with_reducible assumption
    | (refine Foot.Sub.has hM ?_; decide)
    | (refine Foot.Sub.trans ?_ hM; decide)
    | (split <;> (refine Foot.Sub.has hM ?_; decide))
    | (extract_lets +onlyGivenNames x; refine Within.cut (x := x) ?_ ?_; (on_goal 2 => (clear_value x; revert x; intro _ _)); (on_goal 1 => (unfold x; clear x)))
    | (extract_lets +onlyGivenNames x; refine Within.cut (x := x.1) ?_ ?_; (on_goal 2 => (clear_value x; revert x; intro _ _)); (on_goal 1 => (unfold x; clear x)))
    | (extract_lets +onlyGivenNames x; clear_value x; revert x; intro _)
    | with_reducible refine State.wr_within ?_ _ _ _ ?_
    | with_reducible refine State.incSat_within ?_ _ _ ?_
    | with_reducible refine State.raise_within ?_ ?_ _ _ _
    | with_reducible refine State.wearCand_within ?_ ?_ _ _ _ _ _
    | with_reducible refine Within.on ?_ fun _ _ => ?_
    | with_reducible refine Within.ite ?_ ?_
    | with_reducible refine Within.ite_fst ?_ ?_
    | split
    | with_reducible refine Within.set_tapMoves ?_ _ ?_
    | (with_reducible refine Within.of_eq (by with_reducible assumption) ?_)
    | (intro _))

theorem State.loopConverges_within {M : Foot} (hM : Foot.Sub 0x40000000000000000000000000000000000000000000000000000000000000000000000000000000000000000000000000000000000000000000000000000000000000000000000002000000000 M) {s₀ s : State} (h_s : Within M s₀ s) (d : Nat) (c : Nat) (x : Nat) (i : Nat) (loop : Nat)  :
    Within M s₀ (State.loopConverges s d c x i loop) := by
  unfold State.loopConverges
  repeat' (first
    | with_reducible assumption
    | (refine Foot.Sub.has hM ?_; decide)
    | (refine Foot.Sub.trans ?_ hM; decide)
    | (extract_lets +onlyGivenNames x; refine Within.cut (x := x) ?_ ?_; (on_goal 2 => (clear_value x; revert x; intro _ _)); (on_goal 1 => (unfold x; clear x)))
    | (extract_lets +onlyGivenNames x; refine Within.cut (x := x.1) ?_ ?_; (on_goal 2 => (clear_value x; revert x; intro _ _)); (on_goal 1 => (unfold x; clear x)))
    | (extract_lets +onlyGivenNames x; clear_value x; revert x; intro _)
    | with_reducible refine State.wr_within ?_ _ _ _ ?_
    | with_reducible refine State.flag_within ?_ ?_ _ _ ?_
    | with_reducible refine Within.on ?_ fun _ _ => ?_
    | split
    | (with_reducible refine Within.of_eq (by with_reducible assumption) ?_)
    | (intro _))

theorem State.loopStep_within {M : Foot} (hM : Foot.Sub 0xc10018600000000000000000000000000000000000000200000000830000000040000030000000000000027f9000000000000000000898000000000000000000000000000000000002000000000 M) {s₀ s : State} (h_s : Within M s₀ s) (d : Nat) (c : Nat) (x : Nat) (i : Nat) (loop : Nat) (e : Rat)  :
    Within M s₀ (State.loopStep s d c x i loop e) := by
  unfold State.loopStep
  repeat' (first
    | with_reducible assumption
    | (refine Foot.Sub.has hM ?_; decide)
    | (refine Foot.Sub.trans ?_ hM; decide)
    | with_reducible refine State.loopConverges_within ?_ ?_ _ _ _ _ _
    | with_reducible refine State.loopSeeks_within ?_ ?_ _ _ _ _ _ _ _
    | with_reducible refine Within.ite ?_ ?_
    | with_reducible refine Within.ite_fst ?_ ?_
    | split
    | (with_reducible refine Within.of_eq (by with_reducible assumption) ?_))

theorem State.sliceStep_within {M : Foot} (hM : Foot.Sub 0xc10018600000000000000000000000000000000000000200000000830000000040000030000000000000027f9000000000000000000898000000000000000000000000000000000002000000000 M) {s₀ s : State} (h_s : Within M s₀ s) (d : Nat) (c : Nat) (e : CardErr)  :
    Within M s₀ (State.sliceStep s d c e) := by
  unfold State.sliceStep
  repeat' (first
    | with_reducible assumption
    | (refine Foot.Sub.has hM ?_; decide)
    | (refine Foot.Sub.trans ?_ hM; decide)
    | with_reducible refine State.loopStep_within ?_ ?_ _ _ _ _ _ _
    | with_reducible refine Within.on ?_ fun _ _ => ?_
    | with_reducible refine Within.each ?_ fun _ _ _ => ?_
    | with_reducible refine Within.ite ?_ ?_
    | with_reducible refine Within.ite_fst ?_ ?_
    | split
    | (with_reducible refine Within.of_eq (by with_reducible assumption) ?_)
    | (intro _))

theorem State.discardInterval_within {M : Foot} (hM : Foot.Sub 0x186000000000000000000000000000000000000000000000000000000000000000000800000000000000000000000001c000000000000000000000000000000000000000000000000300000000 M) {s₀ s : State} (h_s : Within M s₀ s) (d : Nat) (c : Nat)  :
    Within M s₀ (State.discardInterval s d c) := by
  unfold State.discardInterval
  repeat' (first
    | with_reducible assumption
    | (refine Foot.Sub.has hM ?_; decide)
    | (refine Foot.Sub.trans ?_ hM; decide)
    | (extract_lets +onlyGivenNames x; refine Within.cut (x := x) ?_ ?_; (on_goal 2 => (clear_value x; revert x; intro _ _)); (on_goal 1 => (unfold x; clear x)))
    | (extract_lets +onlyGivenNames x; refine Within.cut (x := x.1) ?_ ?_; (on_goal 2 => (clear_value x; revert x; intro _ _)); (on_goal 1 => (unfold x; clear x)))
    | with_reducible refine State.wr_within ?_ _ _ _ ?_
    | with_reducible refine State.cardDrop_within ?_ ?_ _ _
    | with_reducible refine Within.ite ?_ ?_
    | with_reducible refine Within.ite_fst ?_ ?_
    | split
    | (with_reducible refine Within.of_eq (by with_reducible assumption) ?_))

theorem State.cardUpdate_within {M : Foot} (hM : Foot.Sub 0xc10018600000000000000000000000000000000000000200000000830000000040000430000000000000027f9000000000000000000898000000000000000000000000000000000002080000000 M) {s₀ s : State} (h_s : Within M s₀ s) (d : Nat) (c : Nat) (slope : Nat)  :
    Within M s₀ (State.cardUpdate s d c slope) := by
  unfold State.cardUpdate
  repeat' (first
    | with_reducible assumption
    | (refine Foot.Sub.has hM ?_; decide)
    | (refine Foot.Sub.trans ?_ hM; decide)
    | (extract_lets +onlyGivenNames x; refine Within.cut (x := x) ?_ ?_; (on_goal 2 => (clear_value x; revert x; intro _ _)); (on_goal 1 => (unfold x; clear x)))
    | (extract_lets +onlyGivenNames x; refine Within.cut (x := x.1) ?_ ?_; (on_goal 2 => (clear_value x; revert x; intro _ _)); (on_goal 1 => (unfold x; clear x)))
    | (extract_lets +onlyGivenNames x; clear_value x; revert x; intro _)
    | with_reducible refine State.sliceStep_within ?_ ?_ _ _ _
    | with_reducible refine State.syncCardAny_within ?_ ?_ _ _
    | with_reducible refine State.clearStarved_within ?_ ?_ _ _
    | with_reducible refine State.wr_within ?_ _ _ _ ?_
    | with_reducible refine Within.each ?_ fun _ _ _ => ?_
    | split
    | (with_reducible refine Within.of_eq (by with_reducible assumption) ?_))

theorem State.cardMoves_within {M : Foot} (hM : Foot.Sub 0xc18618600000000000000000000000000000000000000200000000830000000020000388000000000000027f900000001c000000000898000000000000000000000000000000000003080000000 M) {s₀ s : State} (h_s : Within M s₀ s) (d : Nat) (c : Nat)  :
    Within M s₀ (State.cardMoves s d c) := by
  unfold State.cardMoves
  repeat' (first
    | with_reducible assumption
    | (refine Foot.Sub.has hM ?_; decide)
    | (refine Foot.Sub.trans ?_ hM; decide)
    | (unfold State.trimField; split <;> (refine Foot.Sub.has hM ?_; decide))
    | (split <;> (refine Foot.Sub.has hM ?_; decide))
    | (extract_lets +onlyGivenNames x; refine Within.cut (x := x) ?_ ?_; (on_goal 2 => (clear_value x; revert x; intro _ _)); (on_goal 1 => (unfold x; clear x)))
    | (extract_lets +onlyGivenNames x; refine Within.cut (x := x.1) ?_ ?_; (on_goal 2 => (clear_value x; revert x; intro _ _)); (on_goal 1 => (unfold x; clear x)))
    | (extract_lets +onlyGivenNames x; clear_value x; revert x; intro _)
    | with_reducible refine State.setTap_within ?_ ?_ _ _ _ _ _
    | with_reducible refine State.syncCardAny_within ?_ ?_ _ _
    | with_reducible refine State.cardDrop_within ?_ ?_ _ _
    | with_reducible refine State.beginInterval_within ?_ ?_ _ _
    | with_reducible refine Within.each ?_ fun _ _ _ => ?_
    | with_reducible refine Within.ite ?_ ?_
    | with_reducible refine Within.ite_fst ?_ ?_
    | split
    | (with_reducible refine Within.of_eq (by with_reducible assumption) ?_))

theorem State.storeStart_within {M : Foot} (hM : Foot.Sub 0x600120000000000000000000000000000000000000000000000000000000000000000000000000000000000000000000000000000000000000000000000000000000000000000008000000000 M) {s₀ s : State} (h_s : Within M s₀ s)   :
    Within M s₀ (State.storeStart s) := by
  unfold State.storeStart
  repeat' (first
    | with_reducible assumption
    | (refine Foot.Sub.has hM ?_; decide)
    | (refine Foot.Sub.trans ?_ hM; decide)
    | (extract_lets +onlyGivenNames x; refine Within.cut (x := x) ?_ ?_; (on_goal 2 => (clear_value x; revert x; intro _ _)); (on_goal 1 => (unfold x; clear x)))
    | (extract_lets +onlyGivenNames x; refine Within.cut (x := x.1) ?_ ?_; (on_goal 2 => (clear_value x; revert x; intro _ _)); (on_goal 1 => (unfold x; clear x)))
    | (extract_lets +onlyGivenNames x; clear_value x; revert x; intro _)
    | with_reducible refine State.flashErase_within ?_ ?_ _ _
    | with_reducible refine State.flashProgram_within ?_ ?_ _ _
    | with_reducible refine State.wr_within ?_ _ _ _ ?_
    | with_reducible refine Within.ite ?_ ?_
    | with_reducible refine Within.ite_fst ?_ ?_
    | split
    | with_reducible refine Within.set_outstanding ?_ _ ?_
    | with_reducible refine Within.set_snapshot ?_ _ ?_
    | with_reducible refine Within.set_snapOut ?_ _ _ ?_ ?_
    | (with_reducible refine Within.of_eq (by with_reducible assumption) ?_))

theorem State.storeGo_within {M : Foot} (hM : Foot.Sub 0xc06619600000000000000000000000000000000000000200000000830000000000000000000000000000027f900000001c000000000898000000000000000000000000000000000008000000000 M) {s₀ s : State} (h_s : Within M s₀ s)   :
    Within M s₀ (State.storeGo s) := by
  unfold State.storeGo
  repeat' (first
    | with_reducible assumption
    | (refine Foot.Sub.has hM ?_; decide)
    | (refine Foot.Sub.trans ?_ hM; decide)
    | (extract_lets +onlyGivenNames x; refine Within.cut (x := x) ?_ ?_; (on_goal 2 => (clear_value x; revert x; intro _ _)); (on_goal 1 => (unfold x; clear x)))
    | (extract_lets +onlyGivenNames x; refine Within.cut (x := x.1) ?_ ?_; (on_goal 2 => (clear_value x; revert x; intro _ _)); (on_goal 1 => (unfold x; clear x)))
    | (extract_lets +onlyGivenNames x; clear_value x; revert x; intro _)
    | with_reducible refine State.wr_within ?_ _ _ _ ?_
    | with_reducible refine State.claim_within ?_ ?_ _
    | with_reducible refine State.storeStart_within ?_ ?_
    | with_reducible refine Within.on ?_ fun _ _ => ?_
    | with_reducible refine Within.ite ?_ ?_
    | with_reducible refine Within.ite_fst ?_ ?_
    | split
    | (with_reducible refine Within.of_eq (by with_reducible assumption) ?_)
    | (intro _))

theorem State.storeRequest_within {M : Foot} (hM : Foot.Sub 0xc1e7b9600000000000000000000000000000000000000200008000830000000000000880000000000000067f900000001c03c000000898040000000000008000000000000000000008080000000 M) {s₀ s : State} (h_s : Within M s₀ s) (fw : Bool) (cmd : Option (MbxHdr × Nat))  :
    Within M s₀ (State.storeRequest s fw cmd).1 := by
  unfold State.storeRequest
  repeat' (first
    | with_reducible assumption
    | (refine Foot.Sub.has hM ?_; decide)
    | (refine Foot.Sub.trans ?_ hM; decide)
    | (extract_lets +onlyGivenNames x; refine Within.cut (x := x) ?_ ?_; (on_goal 2 => (clear_value x; revert x; intro _ _)); (on_goal 1 => (unfold x; clear x)))
    | (extract_lets +onlyGivenNames x; refine Within.cut (x := x.1) ?_ ?_; (on_goal 2 => (clear_value x; revert x; intro _ _)); (on_goal 1 => (unfold x; clear x)))
    | (extract_lets +onlyGivenNames x; clear_value x; revert x; intro _)
    | with_reducible refine State.harvest_within ?_ ?_ _ _ _ _ _ _ _
    | with_reducible refine State.storeGo_within ?_ ?_
    | with_reducible refine Within.ite ?_ ?_
    | with_reducible refine Within.ite_fst ?_ ?_
    | split
    | (with_reducible refine Within.of_eq (by with_reducible assumption) ?_))

theorem State.storeAsk_within {M : Foot} (hM : Foot.Sub 0xc1e7b9600000000000000000000000000000000000000200008000830000000000000880000000000000067f900000001c03c000000898040000000000008000000000000000000008080000000 M) {s₀ s : State} (h_s : Within M s₀ s)   :
    Within M s₀ (State.storeAsk s) := by
  unfold State.storeAsk
  repeat' (first
    | with_reducible assumption
    | (refine Foot.Sub.has hM ?_; decide)
    | (refine Foot.Sub.trans ?_ hM; decide)
    | with_reducible refine State.storeRequest_within ?_ ?_ _ _
    | split
    | (with_reducible refine Within.of_eq (by with_reducible assumption) ?_))

theorem State.storeEnd_within {M : Foot} (hM : Foot.Sub 0xc0261b600000000000000000000000000000000000000200000000830000000000e00000000000000000027f900000001c000000200898000000000000000000000000000000000018000000000 M) {s₀ s : State} (h_s : Within M s₀ s) (ok : Bool)  :
    Within M s₀ (State.storeEnd s ok) := by
  unfold State.storeEnd
  repeat' (first
    | with_reducible assumption
    | (refine Foot.Sub.has hM ?_; decide)
    | (refine Foot.Sub.trans ?_ hM; decide)
    | (split <;> (refine Foot.Sub.has hM ?_; decide))
    | (extract_lets +onlyGivenNames x; refine Within.cut (x := x) ?_ ?_; (on_goal 2 => (clear_value x; revert x; intro _ _)); (on_goal 1 => (unfold x; clear x)))
    | (extract_lets +onlyGivenNames x; refine Within.cut (x := x.1) ?_ ?_; (on_goal 2 => (clear_value x; revert x; intro _ _)); (on_goal 1 => (unfold x; clear x)))
    | (extract_lets +onlyGivenNames x; clear_value x; revert x; intro _)
    | with_reducible refine State.wr_within ?_ _ _ _ ?_
    | with_reducible refine State.release_within ?_ ?_ _
    | with_reducible refine State.flashProgram_within ?_ ?_ _ _
    | with_reducible refine State.flag_within ?_ ?_ _ _ ?_
    | with_reducible refine State.raisePkg_within ?_ ?_ _ _
    | with_reducible refine State.finishUnit_within ?_ ?_ _ _ _ _
    | with_reducible refine Within.ite ?_ ?_
    | with_reducible refine Within.ite_fst ?_ ?_
    | split
    | (with_reducible refine Within.of_eq (by with_reducible assumption) ?_))

theorem State.setCalSw_within {M : Foot} (hM : Foot.Sub 0xc00018600000000000000000000000000000000000000200000000830000000000000000000000000000027f9000000000000000000898000000000000000000000000000000000000000100000 M) {s₀ s : State} (h_s : Within M s₀ s) (d : Nat) (c : Nat) (v : Nat)  :
    Within M s₀ (State.setCalSw s d c v) := by
  unfold State.setCalSw
  repeat' (first
    | with_reducible assumption
    | (refine Foot.Sub.has hM ?_; decide)
    | (refine Foot.Sub.trans ?_ hM; decide)
    | with_reducible refine State.wr_within ?_ _ _ _ ?_
    | with_reducible refine State.raise_within ?_ ?_ _ _ _
    | with_reducible refine Within.ite ?_ ?_
    | with_reducible refine Within.ite_fst ?_ ?_
    | split
    | (with_reducible refine Within.of_eq (by with_reducible assumption) ?_))

theorem State.calBegins_within {M : Foot} (hM : Foot.Sub 0x20000000000000000000000000000000000000000000000000000000000000000000000000000000000000000000000000000000000000000000000000000000000000000000000000000200000 M) {s₀ s : State} (h_s : Within M s₀ s) (d : Nat) (c : Nat) (f : Fld) (h_f : M.testBit f.reg.ctorIdx = true) :
    Within M s₀ (State.calBegins s d c f) := by
  unfold State.calBegins
  repeat' (first
    | with_reducible assumption
    | (refine Foot.Sub.has hM ?_; decide)
    | (refine Foot.Sub.trans ?_ hM; decide)
    | (split <;> (refine Foot.Sub.has hM ?_; decide))
    | with_reducible refine State.wr_within ?_ _ _ _ ?_
    | with_reducible refine State.openSpan_within ?_ ?_ _ _ _ _
    | with_reducible refine Within.ite ?_ ?_
    | with_reducible refine Within.ite_fst ?_ ?_
    | split
    | (with_reducible refine Within.of_eq (by with_reducible assumption) ?_))

theorem State.calEnds_within {M : Foot} (hM : Foot.Sub 0x20000000000000000000000000000000000000000000000000000000000000000000000000000000000000000000000000000000000000000000000000000000000000000000000000000200000 M) {s₀ s : State} (h_s : Within M s₀ s) (d : Nat) (c : Nat)  :
    Within M s₀ (State.calEnds s d c) := by
  unfold State.calEnds
  repeat' (first
    | with_reducible assumption
    | (refine Foot.Sub.has hM ?_; decide)
    | (refine Foot.Sub.trans ?_ hM; decide)
    | with_reducible refine State.wr_within ?_ _ _ _ ?_
    | with_reducible refine State.closeSpan_within ?_ ?_ _ _ _ _
    | split
    | (with_reducible refine Within.of_eq (by with_reducible assumption) ?_))

theorem State.calTail_within {M : Foot} (hM : Foot.Sub 0x20000000000000000000000000000000000000000000000000000000000000000000400000000000000000000000000000000000000000000000000000000000000000000000000000000200000 M) {s₀ s : State} (h_s : Within M s₀ s) (d : Nat) (c : Nat)  :
    Within M s₀ (State.calTail s d c) := by
  unfold State.calTail
  repeat' (first
    | with_reducible assumption
    | (refine Foot.Sub.has hM ?_; decide)
    | (refine Foot.Sub.trans ?_ hM; decide)
    | with_reducible refine State.calEnds_within ?_ ?_ _ _
    | with_reducible refine State.wr_within ?_ _ _ _ ?_
    | with_reducible refine Within.on ?_ fun _ _ => ?_
    | split
    | (with_reducible refine Within.of_eq (by with_reducible assumption) ?_)
    | (intro _))

theorem State.setLadder_within {M : Foot} (hM : Foot.Sub 0x800100000 M) {s₀ s : State} (h_s : Within M s₀ s) (d : Nat) (c : Nat) (v : Nat)  :
    Within M s₀ (State.setLadder s d c v) := by
  unfold State.setLadder
  repeat' (first
    | with_reducible assumption
    | (refine Foot.Sub.has hM ?_; decide)
    | (refine Foot.Sub.trans ?_ hM; decide)
    | with_reducible refine State.wr_within ?_ _ _ _ ?_
    | with_reducible refine Within.each ?_ fun _ _ _ => ?_
    | split
    | (with_reducible refine Within.of_eq (by with_reducible assumption) ?_))

theorem State.combDrop_within {M : Foot} (hM : Foot.Sub 0x2000000000000000000000000000000000000000000000000000000000000000000000000000000000000000000000000000000000000000000000000000000000000000000000000000000000 M) {s₀ s : State} (h_s : Within M s₀ s) (d : Nat) (c : Nat)  :
    Within M s₀ (State.combDrop s d c) := by
  unfold State.combDrop
  repeat' (first
    | with_reducible assumption
    | (refine Foot.Sub.has hM ?_; decide)
    | (refine Foot.Sub.trans ?_ hM; decide)
    | (extract_lets +onlyGivenNames x; refine Within.cut (x := x) ?_ ?_; (on_goal 2 => (clear_value x; revert x; intro _ _)); (on_goal 1 => (unfold x; clear x)))
    | (extract_lets +onlyGivenNames x; refine Within.cut (x := x.1) ?_ ?_; (on_goal 2 => (clear_value x; revert x; intro _ _)); (on_goal 1 => (unfold x; clear x)))
    | (extract_lets +onlyGivenNames x; clear_value x; revert x; intro _)
    | split
    | with_reducible refine Within.set_combFits ?_ _ ?_
    | (with_reducible refine Within.of_eq (by with_reducible assumption) ?_))

theorem State.combStop_within {M : Foot} (hM : Foot.Sub 0xc000186000000000000000000000000000000000000002000000008300000000000e0000000000000000027f9000000000000000000898000000000000000000000000000000000000000100000 M) {s₀ s : State} (h_s : Within M s₀ s) (d : Nat) (c : Nat) (code : Nat)  :
    Within M s₀ (State.combStop s d c code) := by
  unfold State.combStop
  repeat' (first
    | with_reducible assumption
    | (refine Foot.Sub.has hM ?_; decide)
    | (refine Foot.Sub.trans ?_ hM; decide)
    | (extract_lets +onlyGivenNames x; refine Within.cut (x := x) ?_ ?_; (on_goal 2 => (clear_value x; revert x; intro _ _)); (on_goal 1 => (unfold x; clear x)))
    | (extract_lets +onlyGivenNames x; refine Within.cut (x := x.1) ?_ ?_; (on_goal 2 => (clear_value x; revert x; intro _ _)); (on_goal 1 => (unfold x; clear x)))
    | (extract_lets +onlyGivenNames x; clear_value x; revert x; intro _)
    | with_reducible refine State.setCalSw_within ?_ ?_ _ _ _
    | with_reducible refine State.wr_within ?_ _ _ _ ?_
    | with_reducible refine Within.each ?_ fun _ _ _ => ?_
    | split
    | (with_reducible refine Within.of_eq (by with_reducible assumption) ?_))

theorem State.combZero_within {M : Foot} (hM : Foot.Sub 0xe000186000000000000000000000000000000000000002000000008300000000000e2000000000000000027f9000000000000000000898000000000000000000000000000000000000800300000 M) {s₀ s : State} (h_s : Within M s₀ s) (d : Nat) (c : Nat)  :
    Within M s₀ (State.combZero s d c) := by
  unfold State.combZero
  repeat' (first
    | with_reducible assumption
    | (refine Foot.Sub.has hM ?_; decide)
    | (refine Foot.Sub.trans ?_ hM; decide)
    | (extract_lets +onlyGivenNames x; refine Within.cut (x := x) ?_ ?_; (on_goal 2 => (clear_value x; revert x; intro _ _)); (on_goal 1 => (unfold x; clear x)))
    | (extract_lets +onlyGivenNames x; refine Within.cut (x := x.1) ?_ ?_; (on_goal 2 => (clear_value x; revert x; intro _ _)); (on_goal 1 => (unfold x; clear x)))
    | (extract_lets +onlyGivenNames x; clear_value x; revert x; intro _)
    | with_reducible refine State.calBegins_within ?_ ?_ _ _ _ ?_
    | with_reducible refine State.setCalSw_within ?_ ?_ _ _ _
    | with_reducible refine State.wr_within ?_ _ _ _ ?_
    | with_reducible refine State.setLadder_within ?_ ?_ _ _ _
    | with_reducible refine State.combStop_within ?_ ?_ _ _ _
    | with_reducible refine Within.on ?_ fun _ _ => ?_
    | with_reducible refine Within.each ?_ fun _ _ _ => ?_
    | split
    | (with_reducible refine Within.of_eq (by with_reducible assumption) ?_)
    | (intro _))

theorem State.combGo_within {M : Foot} (hM : Foot.Sub 0xe006186000000000000000000000000000000000000002000000008300000000001e2000000000000000027f900000001c000000000898000000000000000000000000000000000000800300000 M) {s₀ s : State} (h_s : Within M s₀ s) (d : Nat) (c : Nat) (store : Bool)  :
    Within M s₀ (State.combGo s d c store) := by
  unfold State.combGo
  repeat' (first
    | with_reducible assumption
    | (refine Foot.Sub.has hM ?_; decide)
    | (refine Foot.Sub.trans ?_ hM; decide)
    | (extract_lets +onlyGivenNames x; refine Within.cut (x := x) ?_ ?_; (on_goal 2 => (clear_value x; revert x; intro _ _)); (on_goal 1 => (unfold x; clear x)))
    | (extract_lets +onlyGivenNames x; refine Within.cut (x := x.1) ?_ ?_; (on_goal 2 => (clear_value x; revert x; intro _ _)); (on_goal 1 => (unfold x; clear x)))
    | (extract_lets +onlyGivenNames x; clear_value x; revert x; intro _)
    | with_reducible refine State.wr_within ?_ _ _ _ ?_
    | with_reducible refine State.wrBool_within ?_ _ _ _ ?_
    | with_reducible refine State.claim_within ?_ ?_ _
    | with_reducible refine State.combZero_within ?_ ?_ _ _
    | with_reducible refine Within.on ?_ fun _ _ => ?_
    | split
    | (with_reducible refine Within.of_eq (by with_reducible assumption) ?_)
    | (intro _))

theorem State.requestComb_within {M : Foot} (hM : Foot.Sub 0xe187b86000000000000000000000000000000000000002000080008300000000001e2880000000000000067f900000001c03c000000898040000000000008000000000000000000000880300000 M) {s₀ s : State} (h_s : Within M s₀ s) (d : Nat) (c : Nat) (test : Bool) (allow : Bool) (store : Bool) (cmd : Option (MbxHdr × Nat))  :
    Within M s₀ (State.requestComb s d c test allow store cmd).1 := by
  unfold State.requestComb
  repeat' (first
    | with_reducible assumption
    | (refine Foot.Sub.has hM ?_; decide)
    | (refine Foot.Sub.trans ?_ hM; decide)
    | (extract_lets +onlyGivenNames x; refine Within.cut (x := x) ?_ ?_; (on_goal 2 => (clear_value x; revert x; intro _ _)); (on_goal 1 => (unfold x; clear x)))
    | (extract_lets +onlyGivenNames x; refine Within.cut (x := x.1) ?_ ?_; (on_goal 2 => (clear_value x; revert x; intro _ _)); (on_goal 1 => (unfold x; clear x)))
    | (extract_lets +onlyGivenNames x; clear_value x; revert x; intro _)
    | with_reducible refine State.harvest_within ?_ ?_ _ _ _ _ _ _ _
    | with_reducible refine State.combGo_within ?_ ?_ _ _ _
    | with_reducible refine Within.ite ?_ ?_
    | with_reducible refine Within.ite_fst ?_ ?_
    | split
    | (with_reducible refine Within.of_eq (by with_reducible assumption) ?_))

theorem State.combDone_within {M : Foot} (hM : Foot.Sub 0xe3e7bb600000000000000000000000000000000000000200008000830000000000040880000000000000067f900000001c03c000200898040000000000008000000000000000000008880300000 M) {s₀ s : State} (h_s : Within M s₀ s) (d : Nat) (c : Nat) (code : Nat)  :
    Within M s₀ (State.combDone s d c code) := by
  unfold State.combDone
  repeat' (first
    | with_reducible assumption
    | (refine Foot.Sub.has hM ?_; decide)
    | (refine Foot.Sub.trans ?_ hM; decide)
    | (extract_lets +onlyGivenNames x; refine Within.cut (x := x) ?_ ?_; (on_goal 2 => (clear_value x; revert x; intro _ _)); (on_goal 1 => (unfold x; clear x)))
    | (extract_lets +onlyGivenNames x; refine Within.cut (x := x.1) ?_ ?_; (on_goal 2 => (clear_value x; revert x; intro _ _)); (on_goal 1 => (unfold x; clear x)))
    | (extract_lets +onlyGivenNames x; clear_value x; revert x; intro _)
    | with_reducible refine State.calEnds_within ?_ ?_ _ _
    | with_reducible refine State.combDrop_within ?_ ?_ _ _
    | with_reducible refine State.wr_within ?_ _ _ _ ?_
    | with_reducible refine State.setLadder_within ?_ ?_ _ _ _
    | with_reducible refine State.release_within ?_ ?_ _
    | with_reducible refine State.raise_within ?_ ?_ _ _ _
    | with_reducible refine State.finishUnit_within ?_ ?_ _ _ _ _
    | with_reducible refine State.storeAsk_within ?_ ?_
    | with_reducible refine Within.on ?_ fun _ _ => ?_
    | with_reducible refine Within.each ?_ fun _ _ _ => ?_
    | split
    | (with_reducible refine Within.of_eq (by with_reducible assumption) ?_)
    | (intro _))

theorem State.combAbort_within {M : Foot} (hM : Foot.Sub 0xe3e7bb6000000000000000000000000000000000000002000080008300000000000e0880000000000000067f900000001c03c000200898040000000000008000000000000000000008880300000 M) {s₀ s : State} (h_s : Within M s₀ s) (d : Nat) (c : Nat) (code : Nat)  :
    Within M s₀ (State.combAbort s d c code) := by
  unfold State.combAbort
  repeat' (first
    | with_reducible assumption
    | (refine Foot.Sub.has hM ?_; decide)
    | (refine Foot.Sub.trans ?_ hM; decide)
    | with_reducible refine State.combDone_within ?_ ?_ _ _ _
    | with_reducible refine State.combStop_within ?_ ?_ _ _ _
    | with_reducible refine Within.ite ?_ ?_
    | with_reducible refine Within.ite_fst ?_ ?_
    | split
    | (with_reducible refine Within.of_eq (by with_reducible assumption) ?_))

theorem State.combOverload_within {M : Foot} (hM : Foot.Sub 0xc000186000000000000000000000000000000000000002000000008300000000000e0000000000000000027f9000000000000000000898000000000000000000000000000000000000000100000 M) {s₀ s : State} (h_s : Within M s₀ s) (d : Nat) (c : Nat)  :
    Within M s₀ (State.combOverload s d c) := by
  unfold State.combOverload
  repeat' (first
    | with_reducible assumption
    | (refine Foot.Sub.has hM ?_; decide)
    | (refine Foot.Sub.trans ?_ hM; decide)
    | with_reducible refine State.combStop_within ?_ ?_ _ _ _
    | with_reducible refine Within.on ?_ fun _ _ => ?_
    | split
    | (with_reducible refine Within.of_eq (by with_reducible assumption) ?_)
    | (intro _))

theorem State.combTrim_within {M : Foot} (hM : Foot.Sub 0xc00018600000000000000000000000000000000000000200000000830000000020000008000000000000027f9000000000000000000898000000000000000000000000000000000003000000000 M) {s₀ s : State} (h_s : Within M s₀ s) (d : Nat) (x : CombTap)  :
    Within M s₀ (State.combTrim s d x) := by
  unfold State.combTrim
  repeat' (first
    | with_reducible assumption
    | (refine Foot.Sub.has hM ?_; decide)
    | (refine Foot.Sub.trans ?_ hM; decide)
    | (extract_lets +onlyGivenNames x; refine Within.cut (x := x) ?_ ?_; (on_goal 2 => (clear_value x; revert x; intro _ _)); (on_goal 1 => (unfold x; clear x)))
    | (extract_lets +onlyGivenNames x; refine Within.cut (x := x.1) ?_ ?_; (on_goal 2 => (clear_value x; revert x; intro _ _)); (on_goal 1 => (unfold x; clear x)))
    | (extract_lets +onlyGivenNames x; clear_value x; revert x; intro _)
    | with_reducible refine State.setTap_within ?_ ?_ _ _ _ _ _
    | with_reducible refine State.wr_within ?_ _ _ _ ?_
    | with_reducible refine State.tapSat_within ?_ ?_ _ _ _ _
    | with_reducible refine Within.on ?_ fun _ _ => ?_
    | with_reducible refine Within.each ?_ fun _ _ _ => ?_
    | split
    | (with_reducible refine Within.of_eq (by with_reducible assumption) ?_)
    | (intro _))

theorem State.combMeasure_within {M : Foot} (hM : Foot.Sub 0x2000000000000000000000000000000000000000000000000000000000000000000000000000000000000000000000000000000000000000000000000000000000000000000000000000000000 M) {s₀ s : State} (h_s : Within M s₀ s) (d : Nat) (c : Nat) (codes : List SliceCodes)  :
    Within M s₀ (State.combMeasure s d c codes) := by
  unfold State.combMeasure
  repeat' (first
    | with_reducible assumption
    | (refine Foot.Sub.has hM ?_; decide)
    | (refine Foot.Sub.trans ?_ hM; decide)
    | (split <;> (refine Foot.Sub.has hM ?_; decide))
    | (extract_lets +onlyGivenNames x; refine Within.cut (x := x) ?_ ?_; (on_goal 2 => (clear_value x; revert x; intro _ _)); (on_goal 1 => (unfold x; clear x)))
    | (extract_lets +onlyGivenNames x; refine Within.cut (x := x.1) ?_ ?_; (on_goal 2 => (clear_value x; revert x; intro _ _)); (on_goal 1 => (unfold x; clear x)))
    | (extract_lets +onlyGivenNames x; clear_value x; revert x; intro _)
    | with_reducible refine Within.ite ?_ ?_
    | with_reducible refine Within.ite_fst ?_ ?_
    | split
    | with_reducible refine Within.set_combFits ?_ _ ?_
    | (with_reducible refine Within.of_eq (by with_reducible assumption) ?_))

theorem State.orFree_within {M : Foot} {s₀ s : State} (h_s : Within M s₀ s) (loop : Nat) (v : Option Int)  :
    Within M s₀ (State.orFree s loop v).1 := by
  unfold State.orFree
  repeat' (first
    | with_reducible assumption
    | (extract_lets +onlyGivenNames x; refine Within.cut (x := x) ?_ ?_; (on_goal 2 => (clear_value x; revert x; intro _ _)); (on_goal 1 => (unfold x; clear x)))
    | (extract_lets +onlyGivenNames x; refine Within.cut (x := x.1) ?_ ?_; (on_goal 2 => (clear_value x; revert x; intro _ _)); (on_goal 1 => (unfold x; clear x)))
    | (extract_lets +onlyGivenNames x; clear_value x; revert x; intro _)
    | with_reducible refine State.useFree_within ?_
    | split
    | (with_reducible refine Within.of_eq (by with_reducible assumption) ?_))

theorem State.combApply_within {M : Foot} (hM : Foot.Sub 0xc00018600000000000000000000000000000000000000200000000830000000020000008000000000000027f9000000000000000000898000000000000000000000000000000000003000000000 M) {s₀ s : State} (h_s : Within M s₀ s) (d : Nat) (c : Nat) (x : Nat) (i : Nat)  :
    Within M s₀ (State.combApply s d c x i) := by
  unfold State.combApply
  repeat' (first
    | with_reducible assumption
    | (refine Foot.Sub.has hM ?_; decide)
    | (refine Foot.Sub.trans ?_ hM; decide)
    | (unfold State.trimField; split <;> (refine Foot.Sub.has hM ?_; decide))
    | (split <;> (refine Foot.Sub.has hM ?_; decide))
    | (extract_lets +onlyGivenNames x; refine Within.cut (x := x) ?_ ?_; (on_goal 2 => (clear_value x; revert x; intro _ _)); (on_goal 1 => (unfold x; clear x)))
    | (extract_lets +onlyGivenNames x; refine Within.cut (x := x.1) ?_ ?_; (on_goal 2 => (clear_value x; revert x; intro _ _)); (on_goal 1 => (unfold x; clear x)))
    | (extract_lets +onlyGivenNames x; have _h : (_ : _) → _ := x; clear _h; subst x)
    | (extract_lets +onlyGivenNames x; clear_value x; revert x; intro _)
    | with_reducible refine State.orFree_within ?_ _ _
    | with_reducible refine State.combTrim_within ?_ ?_ _ _
    | split
    | (with_reducible refine Within.of_eq (by with_reducible assumption) ?_))

theorem State.combPhase_within {M : Foot} (hM : Foot.Sub 0xc20018e00000000000000000000000000000000000000e000000008300000000200e0018000000000000027f9000000000400000200898000000000000000000000000000000000003880100000 M) {s₀ s : State} (h_s : Within M s₀ s) (d : Nat) (c : Nat) (codes : List SliceCodes)  :
    Within M s₀ (State.combPhase s d c codes) := by
  unfold State.combPhase
  repeat' (first
    | with_reducible assumption
    | (refine Foot.Sub.has hM ?_; decide)
    | (refine Foot.Sub.trans ?_ hM; decide)
    | (extract_lets +onlyGivenNames x; refine Within.cut (x := x) ?_ ?_; (on_goal 2 => (clear_value x; revert x; intro _ _)); (on_goal 1 => (unfold x; clear x)))
    | (extract_lets +onlyGivenNames x; refine Within.cut (x := x.1) ?_ ?_; (on_goal 2 => (clear_value x; revert x; intro _ _)); (on_goal 1 => (unfold x; clear x)))
    | (extract_lets +onlyGivenNames x; clear_value x; revert x; intro _)
    | with_reducible refine State.wr_within ?_ _ _ _ ?_
    | with_reducible refine State.setLadder_within ?_ ?_ _ _ _
    | with_reducible refine State.combMeasure_within ?_ ?_ _ _ _
    | with_reducible refine State.combApply_within ?_ ?_ _ _ _ _
    | with_reducible refine State.syncCardAny_within ?_ ?_ _ _
    | with_reducible refine State.restartLoops_within ?_ ?_ _ _
    | with_reducible refine State.combStop_within ?_ ?_ _ _ _
    | with_reducible refine Within.on ?_ fun _ _ => ?_
    | with_reducible refine Within.each ?_ fun _ _ _ => ?_
    | with_reducible refine Within.ite ?_ ?_
    | with_reducible refine Within.ite_fst ?_ ?_
    | split
    | (with_reducible refine Within.of_eq (by with_reducible assumption) ?_)
    | (intro _))

theorem State.combEdges_within {M : Foot} (hM : Foot.Sub 0x800100000 M) {s₀ s : State} (h_s : Within M s₀ s) (d : Nat) (c : Nat)  :
    Within M s₀ (State.combEdges s d c) := by
  unfold State.combEdges
  repeat' (first
    | with_reducible assumption
    | (refine Foot.Sub.has hM ?_; decide)
    | (refine Foot.Sub.trans ?_ hM; decide)
    | with_reducible refine State.setLadder_within ?_ ?_ _ _ _
    | with_reducible refine Within.on ?_ fun _ _ => ?_
    | split
    | (with_reducible refine Within.of_eq (by with_reducible assumption) ?_)
    | (intro _))

end Sys2Proof.Machine
end

