-- ==== Sys2Proof/Laws/WakeOpsWithin.lean ====
section
/-!
SUPPORT. What each operation of Machine/WakeOps.lean may change (`Within`), and that it keeps the state sound.
-/

namespace Sys2Proof.Machine

set_option linter.all false

theorem State.startMode_within {M : Foot} (hM : Foot.Sub 0x10400000000000000000000000000000000000000000000000004000000000000000000000000000000000000000000000000000 M) {s₀ s : State} (h_s : Within M s₀ s) (target : Nat) (cause : Nat)  :
    Within M s₀ (State.startMode s target cause) := by
  unfold State.startMode
  repeat' (first
    | with_reducible assumption
    | (refine Foot.Sub.has hM ?_; decide)
    | (refine Foot.Sub.trans ?_ hM; decide)
    | (extract_lets +onlyGivenNames x; refine Within.cut (x := x) ?_ ?_; (on_goal 2 => (clear_value x; revert x; intro _ _)); (on_goal 1 => (unfold x; clear x)))
    | (extract_lets +onlyGivenNames x; refine Within.cut (x := x.1) ?_ ?_; (on_goal 2 => (clear_value x; revert x; intro _ _)); (on_goal 1 => (unfold x; clear x)))
    | (extract_lets +onlyGivenNames x; clear_value x; revert x; intro _)
    | with_reducible refine State.wr_within ?_ _ _ _ ?_
    | with_reducible refine Within.each ?_ fun _ _ _ => ?_
    | split
    | (with_reducible refine Within.of_eq (by with_reducible assumption) ?_))

theorem State.wakeCause_within {M : Foot} (hM : Foot.Sub 0x40000000000000000000000000000000000000000000000000000 M) {s₀ s : State} (h_s : Within M s₀ s) (mask : Nat) (unit : Nat) (die : Nat)  :
    Within M s₀ (State.wakeCause s mask unit die) := by
  unfold State.wakeCause
  repeat' (first
    | with_reducible assumption
    | (refine Foot.Sub.has hM ?_; decide)
    | (refine Foot.Sub.trans ?_ hM; decide)
    | (extract_lets +onlyGivenNames x; refine Within.cut (x := x) ?_ ?_; (on_goal 2 => (clear_value x; revert x; intro _ _)); (on_goal 1 => (unfold x; clear x)))
    | (extract_lets +onlyGivenNames x; refine Within.cut (x := x.1) ?_ ?_; (on_goal 2 => (clear_value x; revert x; intro _ _)); (on_goal 1 => (unfold x; clear x)))
    | (extract_lets +onlyGivenNames x; clear_value x; revert x; intro _)
    | with_reducible refine State.wr_within ?_ _ _ _ ?_
    | with_reducible refine Within.on ?_ fun _ _ => ?_
    | split
    | (with_reducible refine Within.of_eq (by with_reducible assumption) ?_)
    | (intro _))

theorem State.wakeBegin_within {M : Foot} (hM : Foot.Sub 0xc0003860000000000000000000000000000000000000020000031c830000000000000000000000000000027f900000000000c044000898000000000000000000000000000000000000000000000 M) {s₀ s : State} (h_s : Within M s₀ s) (mask : Nat) (unit : Nat) (die : Nat)  :
    Within M s₀ (State.wakeBegin s mask unit die) := by
  unfold State.wakeBegin
  repeat' (first
    | with_reducible assumption
    | (refine Foot.Sub.has hM ?_; decide)
    | (refine Foot.Sub.trans ?_ hM; decide)
    | (extract_lets +onlyGivenNames x; refine Within.cut (x := x) ?_ ?_; (on_goal 2 => (clear_value x; revert x; intro _ _)); (on_goal 1 => (unfold x; clear x)))
    | (extract_lets +onlyGivenNames x; refine Within.cut (x := x.1) ?_ ?_; (on_goal 2 => (clear_value x; revert x; intro _ _)); (on_goal 1 => (unfold x; clear x)))
    | (extract_lets +onlyGivenNames x; clear_value x; revert x; intro _)
    | with_reducible refine State.charge_within ?_ ?_ _ _ _
    | with_reducible refine State.wr_within ?_ _ _ _ ?_
    | with_reducible refine State.raisePkg_within ?_ ?_ _ _
    | with_reducible refine State.wakeCause_within ?_ ?_ _ _ _
    | with_reducible refine State.emit_within ?_ ?_ _
    | with_reducible refine State.startMode_within ?_ ?_ _ _
    | with_reducible refine Within.on ?_ fun _ _ => ?_
    | with_reducible refine Within.each ?_ fun _ _ _ => ?_
    | with_reducible refine Within.ite ?_ ?_
    | with_reducible refine Within.ite_fst ?_ ?_
    | split
    | (with_reducible refine Within.of_eq (by with_reducible assumption) ?_)
    | (intro _))

theorem State.wake_within {M : Foot} (hM : Foot.Sub 0xc000386000000000000000000000000000000000000002000003fc830000000000000000000000000000027f900000000000c044000898000000000000000000000000000000000000000000000 M) {s₀ s : State} (h_s : Within M s₀ s) (bit : Nat) (unit : Nat) (die : Nat)  :
    Within M s₀ (State.wake s bit unit die) := by
  unfold State.wake
  repeat' (first
    | with_reducible assumption
    | (refine Foot.Sub.has hM ?_; decide)
    | (refine Foot.Sub.trans ?_ hM; decide)
    | (extract_lets +onlyGivenNames x; refine Within.cut (x := x) ?_ ?_; (on_goal 2 => (clear_value x; revert x; intro _ _)); (on_goal 1 => (unfold x; clear x)))
    | (extract_lets +onlyGivenNames x; refine Within.cut (x := x.1) ?_ ?_; (on_goal 2 => (clear_value x; revert x; intro _ _)); (on_goal 1 => (unfold x; clear x)))
    | (extract_lets +onlyGivenNames x; clear_value x; revert x; intro _)
    | with_reducible refine State.wakeBegin_within ?_ ?_ _ _ _
    | with_reducible refine State.wakeCause_within ?_ ?_ _ _ _
    | with_reducible refine State.wr_within ?_ _ _ _ ?_
    | with_reducible refine Within.on ?_ fun _ _ => ?_
    | with_reducible refine Within.ite ?_ ?_
    | with_reducible refine Within.ite_fst ?_ ?_
    | split
    | (with_reducible refine Within.of_eq (by with_reducible assumption) ?_)
    | (intro _))

end Sys2Proof.Machine
end

