-- ==== Sys2Proof/Laws/CmpOpsWithin.lean ====
section
/-!
SUPPORT. What each operation of Machine/CmpOps.lean may change (`Within`), and that it keeps the state sound.
-/

namespace Sys2Proof.Machine

set_option linter.all false

theorem State.ovldTrip_within {M : Foot} (hM : Foot.Sub 0xe000186000000000000000000000000000000000000002000000008300500000000e0000000000000000027f9000000000000000000898000000000000000000000000000000000000000700000 M) {s₀ s : State} (h_s : Within M s₀ s) (d : Nat) (c : Nat) (lo : Nat)  :
    Within M s₀ (State.ovldTrip s d c lo) := by
  unfold State.ovldTrip
  repeat' (first
    | with_reducible assumption
    | (refine Foot.Sub.has hM ?_; decide)
    | (refine Foot.Sub.trans ?_ hM; decide)
    | (split <;> (refine Foot.Sub.has hM ?_; decide))
    | (extract_lets +onlyGivenNames x; refine Within.cut (x := x) ?_ ?_; (on_goal 2 => (clear_value x; revert x; intro _ _)); (on_goal 1 => (unfold x; clear x)))
    | (extract_lets +onlyGivenNames x; refine Within.cut (x := x.1) ?_ ?_; (on_goal 2 => (clear_value x; revert x; intro _ _)); (on_goal 1 => (unfold x; clear x)))
    | (extract_lets +onlyGivenNames x; clear_value x; revert x; intro _)
    | with_reducible refine State.wr_within ?_ _ _ _ ?_
    | with_reducible refine State.flag_within ?_ ?_ _ _ ?_
    | with_reducible refine State.count_within ?_ ?_ _ _ _ ?_
    | with_reducible refine State.openSpan_within ?_ ?_ _ _ _ _
    | with_reducible refine State.raise_within ?_ ?_ _ _ _
    | with_reducible refine State.combOverload_within ?_ ?_ _ _
    | with_reducible refine Within.on ?_ fun _ _ => ?_
    | with_reducible refine Within.ite ?_ ?_
    | with_reducible refine Within.ite_fst ?_ ?_
    | split
    | (with_reducible refine Within.of_eq (by with_reducible assumption) ?_)
    | (intro _))

theorem State.ovldClear_within {M : Foot} (hM : Foot.Sub 0x2000000000000000000000000000000000000000000000000000000000000000000000000000000000000000000200000 M) {s₀ s : State} (h_s : Within M s₀ s) (d : Nat) (c : Nat) (lo : Nat)  :
    Within M s₀ (State.ovldClear s d c lo) := by
  unfold State.ovldClear
  repeat' (first
    | with_reducible assumption
    | (refine Foot.Sub.has hM ?_; decide)
    | (refine Foot.Sub.trans ?_ hM; decide)
    | (split <;> (refine Foot.Sub.has hM ?_; decide))
    | with_reducible refine State.wr_within ?_ _ _ _ ?_
    | with_reducible refine Within.ite ?_ ?_
    | with_reducible refine Within.ite_fst ?_ ?_
    | split
    | (with_reducible refine Within.of_eq (by with_reducible assumption) ?_))

theorem State.ovldEnd_within {M : Foot} (hM : Foot.Sub 0xe00018600000000000000000000000000000000000000200000000830000000000000000000000000000027f9000000000000000000898000000000000000000000000000000000000000200000 M) {s₀ s : State} (h_s : Within M s₀ s) (d : Nat) (c : Nat)  :
    Within M s₀ (State.ovldEnd s d c) := by
  unfold State.ovldEnd
  repeat' (first
    | with_reducible assumption
    | (refine Foot.Sub.has hM ?_; decide)
    | (refine Foot.Sub.trans ?_ hM; decide)
    | (extract_lets +onlyGivenNames x; refine Within.cut (x := x) ?_ ?_; (on_goal 2 => (clear_value x; revert x; intro _ _)); (on_goal 1 => (unfold x; clear x)))
    | (extract_lets +onlyGivenNames x; refine Within.cut (x := x.1) ?_ ?_; (on_goal 2 => (clear_value x; revert x; intro _ _)); (on_goal 1 => (unfold x; clear x)))
    | (extract_lets +onlyGivenNames x; clear_value x; revert x; intro _)
    | with_reducible refine State.wr_within ?_ _ _ _ ?_
    | with_reducible refine State.closeSpan_within ?_ ?_ _ _ _ _
    | with_reducible refine State.raise_within ?_ ?_ _ _ _
    | with_reducible refine Within.on ?_ fun _ _ => ?_
    | split
    | (with_reducible refine Within.of_eq (by with_reducible assumption) ?_)
    | (intro _))

theorem State.syncWin_within {M : Foot} (hM : Foot.Sub 0xc00018600000000000000000000000000000000000000200000000830000000000000000000000000000027f9000000000000000000898800000000000000000000000000000000000000000000 M) {s₀ s : State} (h_s : Within M s₀ s) (d : Nat) (w : Nat)  :
    Within M s₀ (State.syncWin s d w) := by
  unfold State.syncWin
  repeat' (first
    | with_reducible assumption
    | (refine Foot.Sub.has hM ?_; decide)
    | (refine Foot.Sub.trans ?_ hM; decide)
    | (extract_lets +onlyGivenNames x; refine Within.cut (x := x) ?_ ?_; (on_goal 2 => (clear_value x; revert x; intro _ _)); (on_goal 1 => (unfold x; clear x)))
    | (extract_lets +onlyGivenNames x; refine Within.cut (x := x.1) ?_ ?_; (on_goal 2 => (clear_value x; revert x; intro _ _)); (on_goal 1 => (unfold x; clear x)))
    | (extract_lets +onlyGivenNames x; clear_value x; revert x; intro _)
    | with_reducible refine State.wr_within ?_ _ _ _ ?_
    | with_reducible refine State.flag_within ?_ ?_ _ _ ?_
    | with_reducible refine State.raise_within ?_ ?_ _ _ _
    | with_reducible refine Within.on ?_ fun _ _ => ?_
    | with_reducible refine Within.ite ?_ ?_
    | with_reducible refine Within.ite_fst ?_ ?_
    | split
    | (with_reducible refine Within.of_eq (by with_reducible assumption) ?_)
    | (intro _))

theorem State.syncUnitWin_within {M : Foot} (hM : Foot.Sub 0xc00018600000000000000000000000000000000000000200000000830000000000000000000000000000027f9000000000000000000898800000000000000000000000000000000000000000000 M) {s₀ s : State} (h_s : Within M s₀ s) (d : Nat) (u : Nat)  :
    Within M s₀ (State.syncUnitWin s d u) := by
  unfold State.syncUnitWin
  repeat' (first
    | with_reducible assumption
    | (refine Foot.Sub.has hM ?_; decide)
    | (refine Foot.Sub.trans ?_ hM; decide)
    | (extract_lets +onlyGivenNames x; refine Within.cut (x := x) ?_ ?_; (on_goal 2 => (clear_value x; revert x; intro _ _)); (on_goal 1 => (unfold x; clear x)))
    | (extract_lets +onlyGivenNames x; refine Within.cut (x := x.1) ?_ ?_; (on_goal 2 => (clear_value x; revert x; intro _ _)); (on_goal 1 => (unfold x; clear x)))
    | (extract_lets +onlyGivenNames x; clear_value x; revert x; intro _)
    | with_reducible refine State.syncWin_within ?_ ?_ _ _
    | split
    | (with_reducible refine Within.of_eq (by with_reducible assumption) ?_))

theorem State.cmpAssert_within {M : Foot} (hM : Foot.Sub 0xe000386000000000000000000000000000000000000002000003fc8300700000000e0000000000000000027f900000000000c0440008988c0000000000000000000000000000000000000700000 M) {s₀ s : State} (h_s : Within M s₀ s) (d : Nat) (u : Nat) (released : Bool)  :
    Within M s₀ (State.cmpAssert s d u released) := by
  unfold State.cmpAssert
  repeat' (first
    | with_reducible assumption
    | (refine Foot.Sub.has hM ?_; decide)
    | (refine Foot.Sub.trans ?_ hM; decide)
    | (extract_lets +onlyGivenNames x; refine Within.cut (x := x) ?_ ?_; (on_goal 2 => (clear_value x; revert x; intro _ _)); (on_goal 1 => (unfold x; clear x)))
    | (extract_lets +onlyGivenNames x; refine Within.cut (x := x.1) ?_ ?_; (on_goal 2 => (clear_value x; revert x; intro _ _)); (on_goal 1 => (unfold x; clear x)))
    | (extract_lets +onlyGivenNames x; clear_value x; revert x; intro _)
    | with_reducible refine State.wrBool_within ?_ _ _ _ ?_
    | with_reducible refine State.count_within ?_ ?_ _ _ _ ?_
    | with_reducible refine State.flag_within ?_ ?_ _ _ ?_
    | with_reducible refine State.raise_within ?_ ?_ _ _ _
    | with_reducible refine State.ovldTrip_within ?_ ?_ _ _ _
    | with_reducible refine State.ovldClear_within ?_ ?_ _ _ _
    | with_reducible refine State.syncUnitWin_within ?_ ?_ _ _
    | with_reducible refine State.wake_within ?_ ?_ _ _ _
    | with_reducible refine Within.on ?_ fun _ _ => ?_
    | with_reducible refine Within.ite ?_ ?_
    | with_reducible refine Within.ite_fst ?_ ?_
    | split
    | (with_reducible refine Within.of_eq (by with_reducible assumption) ?_)
    | (intro _))

theorem State.cmpEdge_within {M : Foot} (hM : Foot.Sub 0x50000000400000000000000000000000000000000000000000000000000000000000000000000000000000000000000000000000000000000818000000000000000000000000000000000000000 M) {s₀ s : State} (h_s : Within M s₀ s) (d : Nat) (u : Nat) (dt : Instant) (rising : Bool)  :
    Within M s₀ (State.cmpEdge s d u dt rising) := by
  unfold State.cmpEdge
  repeat' (first
    | with_reducible assumption
    | (refine Foot.Sub.has hM ?_; decide)
    | (refine Foot.Sub.trans ?_ hM; decide)
    | (split <;> (refine Foot.Sub.has hM ?_; decide))
    | (extract_lets +onlyGivenNames x; refine Within.cut (x := x) ?_ ?_; (on_goal 2 => (clear_value x; revert x; intro _ _)); (on_goal 1 => (unfold x; clear x)))
    | (extract_lets +onlyGivenNames x; refine Within.cut (x := x.1) ?_ ?_; (on_goal 2 => (clear_value x; revert x; intro _ _)); (on_goal 1 => (unfold x; clear x)))
    | (extract_lets +onlyGivenNames x; clear_value x; revert x; intro _)
    | with_reducible refine State.timOffer_within ?_ ?_ _ _ _ _ _
    | with_reducible refine State.arrive_within ?_ ?_ _
    | with_reducible refine Within.on ?_ fun _ _ => ?_
    | with_reducible refine Within.ite ?_ ?_
    | with_reducible refine Within.ite_fst ?_ ?_
    | split
    | (with_reducible refine Within.of_eq (by with_reducible assumption) ?_)
    | (intro _))

theorem State.cmpOut_within {M : Foot} (hM : Foot.Sub 0xf000386040000000000000000000000000000000000002000103fc8300700000000e0000000000000000027f900000000000c0440008988c0818000000000000000000000000000000000700000 M) {s₀ s : State} (h_s : Within M s₀ s) (d : Nat) (u : Nat) (dt : Instant) (high : Bool) (released : Bool)  :
    Within M s₀ (State.cmpOut s d u dt high released) := by
  unfold State.cmpOut
  repeat' (first
    | with_reducible assumption
    | (refine Foot.Sub.has hM ?_; decide)
    | (refine Foot.Sub.trans ?_ hM; decide)
    | (extract_lets +onlyGivenNames x; refine Within.cut (x := x) ?_ ?_; (on_goal 2 => (clear_value x; revert x; intro _ _)); (on_goal 1 => (unfold x; clear x)))
    | (extract_lets +onlyGivenNames x; refine Within.cut (x := x.1) ?_ ?_; (on_goal 2 => (clear_value x; revert x; intro _ _)); (on_goal 1 => (unfold x; clear x)))
    | (extract_lets +onlyGivenNames x; clear_value x; revert x; intro _)
    | with_reducible refine State.wrBool_within ?_ _ _ _ ?_
    | with_reducible refine State.cmpAssert_within ?_ ?_ _ _ _
    | with_reducible refine State.wr_within ?_ _ _ _ ?_
    | with_reducible refine State.cmpEdge_within ?_ ?_ _ _ _ _
    | with_reducible refine Within.on ?_ fun _ _ => ?_
    | split
    | (with_reducible refine Within.of_eq (by with_reducible assumption) ?_)
    | (intro _))

theorem State.cmpResolve_within {M : Foot} (hM : Foot.Sub 0xe000386000000000000000000000000000000000000002000003fc8300700000000e0000000000000000027f900000000000c0440008988c0000000000000000000000000000000000000700000 M) {s₀ s : State} (h_s : Within M s₀ s) (d : Nat) (u : Nat) (released : Bool)  :
    Within M s₀ (State.cmpResolve s d u released) := by
  unfold State.cmpResolve
  repeat' (first
    | with_reducible assumption
    | (refine Foot.Sub.has hM ?_; decide)
    | (refine Foot.Sub.trans ?_ hM; decide)
    | with_reducible refine State.wr_within ?_ _ _ _ ?_
    | with_reducible refine State.raise_within ?_ ?_ _ _ _
    | with_reducible refine State.cmpAssert_within ?_ ?_ _ _ _
    | split
    | (with_reducible refine Within.of_eq (by with_reducible assumption) ?_))

theorem State.cmpRelease_within {M : Foot} (hM : Foot.Sub 0xf000386040000000000000000000000000000000000002000103fc8300700000000e0000000000000000027f900000000000c0440008988c0818000000000000000000000000000000000700000 M) {s₀ s : State} (h_s : Within M s₀ s) (d : Nat) (u : Nat) (dt : Instant)  :
    Within M s₀ (State.cmpRelease s d u dt) := by
  unfold State.cmpRelease
  repeat' (first
    | with_reducible assumption
    | (refine Foot.Sub.has hM ?_; decide)
    | (refine Foot.Sub.trans ?_ hM; decide)
    | (split <;> (refine Foot.Sub.has hM ?_; decide))
    | (extract_lets +onlyGivenNames x; refine Within.cut (x := x) ?_ ?_; (on_goal 2 => (clear_value x; revert x; intro _ _)); (on_goal 1 => (unfold x; clear x)))
    | (extract_lets +onlyGivenNames x; refine Within.cut (x := x.1) ?_ ?_; (on_goal 2 => (clear_value x; revert x; intro _ _)); (on_goal 1 => (unfold x; clear x)))
    | (extract_lets +onlyGivenNames x; clear_value x; revert x; intro _)
    | with_reducible refine State.cmpResolve_within ?_ ?_ _ _ _
    | with_reducible refine State.cmpOut_within ?_ ?_ _ _ _ _ _
    | with_reducible refine Within.ite ?_ ?_
    | with_reducible refine Within.ite_fst ?_ ?_
    | split
    | (with_reducible refine Within.of_eq (by with_reducible assumption) ?_))

theorem State.cmpStart_within {M : Foot} (hM : Foot.Sub 0xe000386000000000000000000000000000000000000002000073fc8300700000000e0000000000000000027f900000000000c0440008988c0000000000000000000000000000000000000700000 M) {s₀ s : State} (h_s : Within M s₀ s) (d : Nat) (u : Nat)  :
    Within M s₀ (State.cmpStart s d u) := by
  unfold State.cmpStart
  repeat' (first
    | with_reducible assumption
    | (refine Foot.Sub.has hM ?_; decide)
    | (refine Foot.Sub.trans ?_ hM; decide)
    | (extract_lets +onlyGivenNames x; refine Within.cut (x := x) ?_ ?_; (on_goal 2 => (clear_value x; revert x; intro _ _)); (on_goal 1 => (unfold x; clear x)))
    | (extract_lets +onlyGivenNames x; refine Within.cut (x := x.1) ?_ ?_; (on_goal 2 => (clear_value x; revert x; intro _ _)); (on_goal 1 => (unfold x; clear x)))
    | (extract_lets +onlyGivenNames x; clear_value x; revert x; intro _)
    | with_reducible refine State.wr_within ?_ _ _ _ ?_
    | with_reducible refine State.cmpAssert_within ?_ ?_ _ _ _
    | with_reducible refine Within.ite ?_ ?_
    | with_reducible refine Within.ite_fst ?_ ?_
    | split
    | (with_reducible refine Within.of_eq (by with_reducible assumption) ?_))

theorem State.cmpPowerOff_within {M : Foot} (hM : Foot.Sub 0xc00018600000000000000000000000000000000000000200007000830020000000000000000000000000027f9000000000000000000898840000000000000000000000000000000000000200000 M) {s₀ s : State} (h_s : Within M s₀ s) (d : Nat) (u : Nat)  :
    Within M s₀ (State.cmpPowerOff s d u) := by
  unfold State.cmpPowerOff
  repeat' (first
    | with_reducible assumption
    | (refine Foot.Sub.has hM ?_; decide)
    | (refine Foot.Sub.trans ?_ hM; decide)
    | (extract_lets +onlyGivenNames x; refine Within.cut (x := x) ?_ ?_; (on_goal 2 => (clear_value x; revert x; intro _ _)); (on_goal 1 => (unfold x; clear x)))
    | (extract_lets +onlyGivenNames x; refine Within.cut (x := x.1) ?_ ?_; (on_goal 2 => (clear_value x; revert x; intro _ _)); (on_goal 1 => (unfold x; clear x)))
    | (extract_lets +onlyGivenNames x; clear_value x; revert x; intro _)
    | with_reducible refine State.wr_within ?_ _ _ _ ?_
    | with_reducible refine State.syncUnitWin_within ?_ ?_ _ _
    | with_reducible refine State.ovldClear_within ?_ ?_ _ _ _
    | with_reducible refine Within.on ?_ fun _ _ => ?_
    | split
    | (with_reducible refine Within.of_eq (by with_reducible assumption) ?_)
    | (intro _))

theorem State.cmpSees_within {M : Foot} (hM : Foot.Sub 0xf000386040000000000000000000000000000000000002000153fc8300700000000e0000000000000000027f900000000000c0440008989c0818000000000000000000000000000000000700000 M) {s₀ s : State} (h_s : Within M s₀ s) (d : Nat) (u : Nat) (at_ : Instant) (v : Int)  :
    Within M s₀ (State.cmpSees s d u at_ v) := by
  unfold State.cmpSees
  repeat' (first
    | with_reducible assumption
    | (refine Foot.Sub.has hM ?_; decide)
    | (refine Foot.Sub.trans ?_ hM; decide)
    | (split <;> (refine Foot.Sub.has hM ?_; decide))
    | (extract_lets +onlyGivenNames x; refine Within.cut (x := x) ?_ ?_; (on_goal 2 => (clear_value x; revert x; intro _ _)); (on_goal 1 => (unfold x; clear x)))
    | (extract_lets +onlyGivenNames x; refine Within.cut (x := x.1) ?_ ?_; (on_goal 2 => (clear_value x; revert x; intro _ _)); (on_goal 1 => (unfold x; clear x)))
    | (extract_lets +onlyGivenNames x; clear_value x; revert x; intro _)
    | with_reducible refine State.wr_within ?_ _ _ _ ?_
    | with_reducible refine State.wrBool_within ?_ _ _ _ ?_
    | with_reducible refine State.cmpAssert_within ?_ ?_ _ _ _
    | with_reducible refine State.count_within ?_ ?_ _ _ _ ?_
    | with_reducible refine State.cmpResolve_within ?_ ?_ _ _ _
    | with_reducible refine State.cmpOut_within ?_ ?_ _ _ _ _ _
    | with_reducible refine Within.ite ?_ ?_
    | with_reducible refine Within.ite_fst ?_ ?_
    | split
    | (with_reducible refine Within.of_eq (by with_reducible assumption) ?_))

theorem State.cmpSlow_within {M : Foot} (hM : Foot.Sub 0xc000186000000000000000000000000000000000000002000000008300000000000000000001011e4000027f9000000000000000000898000000000000000000000000000001000000000000000 M) {s₀ s : State} (h_s : Within M s₀ s) (d : Nat) (u : Nat) (back : Bool)  :
    Within M s₀ (State.cmpSlow s d u back) := by
  unfold State.cmpSlow
  repeat' (first
    | with_reducible assumption
    | (refine Foot.Sub.has hM ?_; decide)
    | (refine Foot.Sub.trans ?_ hM; decide)
    | (extract_lets +onlyGivenNames x; refine Within.cut (x := x) ?_ ?_; (on_goal 2 => (clear_value x; revert x; intro _ _)); (on_goal 1 => (unfold x; clear x)))
    | (extract_lets +onlyGivenNames x; refine Within.cut (x := x.1) ?_ ?_; (on_goal 2 => (clear_value x; revert x; intro _ _)); (on_goal 1 => (unfold x; clear x)))
    | (extract_lets +onlyGivenNames x; clear_value x; revert x; intro _)
    | with_reducible refine State.restartTerm_within ?_ ?_ _ _ _
    | with_reducible refine State.wr_within ?_ _ _ _ ?_
    | with_reducible refine State.stick_within ?_ ?_ _ _ _ _ _ ?_
    | with_reducible refine Within.on ?_ fun _ _ => ?_
    | with_reducible refine Within.each ?_ fun _ _ _ => ?_
    | with_reducible refine Within.ite ?_ ?_
    | with_reducible refine Within.ite_fst ?_ ?_
    | split
    | (with_reducible refine Within.of_eq (by with_reducible assumption) ?_)
    | (intro _))

theorem State.cmpMode_within {M : Foot} (hM : Foot.Sub 0xc000186000000000000000000000000000000000000002000080008300000000000000000001011e4000027f9000000000000000000898040000000000000000000000000001000000000000000 M) {s₀ s : State} (h_s : Within M s₀ s) (d : Nat) (u : Nat) (m : Nat) (vigil : Bool)  :
    Within M s₀ (State.cmpMode s d u m vigil) := by
  unfold State.cmpMode
  repeat' (first
    | with_reducible assumption
    | (refine Foot.Sub.has hM ?_; decide)
    | (refine Foot.Sub.trans ?_ hM; decide)
    | (extract_lets +onlyGivenNames x; refine Within.cut (x := x) ?_ ?_; (on_goal 2 => (clear_value x; revert x; intro _ _)); (on_goal 1 => (unfold x; clear x)))
    | (extract_lets +onlyGivenNames x; refine Within.cut (x := x.1) ?_ ?_; (on_goal 2 => (clear_value x; revert x; intro _ _)); (on_goal 1 => (unfold x; clear x)))
    | (extract_lets +onlyGivenNames x; clear_value x; revert x; intro _)
    | with_reducible refine State.wr_within ?_ _ _ _ ?_
    | with_reducible refine State.cmpSettle_within ?_ ?_ _ _ _ _
    | with_reducible refine State.raise_within ?_ ?_ _ _ _
    | with_reducible refine State.cmpSlow_within ?_ ?_ _ _ _
    | with_reducible refine Within.on ?_ fun _ _ => ?_
    | with_reducible refine Within.ite ?_ ?_
    | with_reducible refine Within.ite_fst ?_ ?_
    | split
    | (with_reducible refine Within.of_eq (by with_reducible assumption) ?_)
    | (intro _))

theorem State.cmpVigil_within {M : Foot} (hM : Foot.Sub 0xc0003860000000000000000000000000000000000000020000f3fc8300200000000000000001011e4000027f900000000000c044000898840000000000000000000000000001000000000200000 M) {s₀ s : State} (h_s : Within M s₀ s) (d : Nat)  :
    Within M s₀ (State.cmpVigil s d) := by
  unfold State.cmpVigil
  repeat' (first
    | with_reducible assumption
    | (refine Foot.Sub.has hM ?_; decide)
    | (refine Foot.Sub.trans ?_ hM; decide)
    | (extract_lets +onlyGivenNames x; refine Within.cut (x := x) ?_ ?_; (on_goal 2 => (clear_value x; revert x; intro _ _)); (on_goal 1 => (unfold x; clear x)))
    | (extract_lets +onlyGivenNames x; refine Within.cut (x := x.1) ?_ ?_; (on_goal 2 => (clear_value x; revert x; intro _ _)); (on_goal 1 => (unfold x; clear x)))
    | (extract_lets +onlyGivenNames x; clear_value x; revert x; intro _)
    | with_reducible refine State.cmpPowerOff_within ?_ ?_ _ _
    | with_reducible refine State.cmpMode_within ?_ ?_ _ _ _ _
    | with_reducible refine State.wake_within ?_ ?_ _ _ _
    | with_reducible refine Within.on ?_ fun _ _ => ?_
    | with_reducible refine Within.each ?_ fun _ _ _ => ?_
    | with_reducible refine Within.ite ?_ ?_
    | with_reducible refine Within.ite_fst ?_ ?_
    | split
    | (with_reducible refine Within.of_eq (by with_reducible assumption) ?_)
    | (intro _))

theorem State.cmpWakeUp_within {M : Foot} (hM : Foot.Sub 0xe0003860000000000000000000000000000000000000020000f3fc8300700000000e00000001011e4000027f900000000000c0440008988c0000000000000000000000000001000000000700000 M) {s₀ s : State} (h_s : Within M s₀ s) (d : Nat)  :
    Within M s₀ (State.cmpWakeUp s d) := by
  unfold State.cmpWakeUp
  repeat' (first
    | with_reducible assumption
    | (refine Foot.Sub.has hM ?_; decide)
    | (refine Foot.Sub.trans ?_ hM; decide)
    | (split <;> (refine Foot.Sub.has hM ?_; decide))
    | with_reducible refine State.cmpStart_within ?_ ?_ _ _
    | with_reducible refine State.cmpMode_within ?_ ?_ _ _ _ _
    | with_reducible refine Within.each ?_ fun _ _ _ => ?_
    | with_reducible refine Within.ite ?_ ?_
    | with_reducible refine Within.ite_fst ?_ ?_
    | split
    | (with_reducible refine Within.of_eq (by with_reducible assumption) ?_))

theorem State.cmpSettled_within {M : Foot} (hM : Foot.Sub 0xf000386040000000000000000000000000000000000002000103fc8300700000000e0000000000000000027f900000000000c0440008988c0818000000000000000000000000000000000700000 M) {s₀ s : State} (h_s : Within M s₀ s) (d : Nat) (u : Nat)  :
    Within M s₀ (State.cmpSettled s d u) := by
  unfold State.cmpSettled
  repeat' (first
    | with_reducible assumption
    | (refine Foot.Sub.has hM ?_; decide)
    | (refine Foot.Sub.trans ?_ hM; decide)
    | (extract_lets +onlyGivenNames x; refine Within.cut (x := x) ?_ ?_; (on_goal 2 => (clear_value x; revert x; intro _ _)); (on_goal 1 => (unfold x; clear x)))
    | (extract_lets +onlyGivenNames x; refine Within.cut (x := x.1) ?_ ?_; (on_goal 2 => (clear_value x; revert x; intro _ _)); (on_goal 1 => (unfold x; clear x)))
    | (extract_lets +onlyGivenNames x; clear_value x; revert x; intro _)
    | with_reducible refine State.wr_within ?_ _ _ _ ?_
    | with_reducible refine State.cmpRelease_within ?_ ?_ _ _ _
    | with_reducible refine State.wake_within ?_ ?_ _ _ _
    | with_reducible refine Within.on ?_ fun _ _ => ?_
    | with_reducible refine Within.ite ?_ ?_
    | with_reducible refine Within.ite_fst ?_ ?_
    | split
    | (with_reducible refine Within.of_eq (by with_reducible assumption) ?_)
    | (intro _))

theorem State.blankPulse_within {M : Foot} (hM : Foot.Sub 0x1000000000000000000000000000000000000000000000000000000000000040000000000000000000000000000000000000000000 M) {s₀ s : State} (h_s : Within M s₀ s) (d : Nat) (k : Nat) (t : Nat)  :
    Within M s₀ (State.blankPulse s d k t) := by
  unfold State.blankPulse
  repeat' (first
    | with_reducible assumption
    | (refine Foot.Sub.has hM ?_; decide)
    | (refine Foot.Sub.trans ?_ hM; decide)
    | (extract_lets +onlyGivenNames x; refine Within.cut (x := x) ?_ ?_; (on_goal 2 => (clear_value x; revert x; intro _ _)); (on_goal 1 => (unfold x; clear x)))
    | (extract_lets +onlyGivenNames x; refine Within.cut (x := x.1) ?_ ?_; (on_goal 2 => (clear_value x; revert x; intro _ _)); (on_goal 1 => (unfold x; clear x)))
    | (extract_lets +onlyGivenNames x; clear_value x; revert x; intro _)
    | with_reducible refine State.wr_within ?_ _ _ _ ?_
    | with_reducible refine Within.on ?_ fun _ _ => ?_
    | with_reducible refine Within.each ?_ fun _ _ _ => ?_
    | with_reducible refine Within.ite ?_ ?_
    | with_reducible refine Within.ite_fst ?_ ?_
    | split
    | (with_reducible refine Within.of_eq (by with_reducible assumption) ?_)
    | (intro _))

theorem State.blankClose_within {M : Foot} (hM : Foot.Sub 0xf000386040000000000000000000000000000000000002000103fc8300700000000e0000000000000000027f900000000000c0440008988c0818000000000000000000000000000000000700000 M) {s₀ s : State} (h_s : Within M s₀ s) (d : Nat) (u : Nat)  :
    Within M s₀ (State.blankClose s d u) := by
  unfold State.blankClose
  repeat' (first
    | with_reducible assumption
    | (refine Foot.Sub.has hM ?_; decide)
    | (refine Foot.Sub.trans ?_ hM; decide)
    | (extract_lets +onlyGivenNames x; refine Within.cut (x := x) ?_ ?_; (on_goal 2 => (clear_value x; revert x; intro _ _)); (on_goal 1 => (unfold x; clear x)))
    | (extract_lets +onlyGivenNames x; refine Within.cut (x := x.1) ?_ ?_; (on_goal 2 => (clear_value x; revert x; intro _ _)); (on_goal 1 => (unfold x; clear x)))
    | (extract_lets +onlyGivenNames x; clear_value x; revert x; intro _)
    | with_reducible refine State.wr_within ?_ _ _ _ ?_
    | with_reducible refine State.cmpRelease_within ?_ ?_ _ _ _
    | with_reducible refine Within.on ?_ fun _ _ => ?_
    | with_reducible refine Within.ite ?_ ?_
    | with_reducible refine Within.ite_fst ?_ ?_
    | split
    | (with_reducible refine Within.of_eq (by with_reducible assumption) ?_)
    | (intro _))

theorem State.cmpReject_within {M : Foot} (hM : Foot.Sub 0xc00018600000000000000000000000000000000000000200000000830000000000000000000000000000027f9000000000000000000898040000000000000000000000000000000000000000000 M) {s₀ s : State} (h_s : Within M s₀ s) (d : Nat) (u : Nat)  :
    Within M s₀ (State.cmpReject s d u) := by
  unfold State.cmpReject
  repeat' (first
    | with_reducible assumption
    | (refine Foot.Sub.has hM ?_; decide)
    | (refine Foot.Sub.trans ?_ hM; decide)
    | with_reducible refine State.stick_within ?_ ?_ _ _ _ _ _ ?_
    | split
    | (with_reducible refine Within.of_eq (by with_reducible assumption) ?_))

theorem State.writeCmpThresh_within {M : Foot} (hM : Foot.Sub 0xc00018600000000000000000000000000000000000000200008000830000000000000000000000000000027f9000000000000000000898850000000000000000000000000000000000000000000 M) {s₀ s : State} (h_s : Within M s₀ s) (d : Nat) (u : Nat) (v : Nat)  :
    Within M s₀ (State.writeCmpThresh d u v s).1 := by
  unfold State.writeCmpThresh
  repeat' (first
    | with_reducible assumption
    | (refine Foot.Sub.has hM ?_; decide)
    | (refine Foot.Sub.trans ?_ hM; decide)
    | (extract_lets +onlyGivenNames x; refine Within.cut (x := x) ?_ ?_; (on_goal 2 => (clear_value x; revert x; intro _ _)); (on_goal 1 => (unfold x; clear x)))
    | (extract_lets +onlyGivenNames x; refine Within.cut (x := x.1) ?_ ?_; (on_goal 2 => (clear_value x; revert x; intro _ _)); (on_goal 1 => (unfold x; clear x)))
    | (extract_lets +onlyGivenNames x; clear_value x; revert x; intro _)
    | with_reducible refine State.wr_within ?_ _ _ _ ?_
    | with_reducible refine State.cmpSettle_within ?_ ?_ _ _ _ _
    | with_reducible refine State.syncUnitWin_within ?_ ?_ _ _
    | with_reducible refine Within.on ?_ fun _ _ => ?_
    | split
    | (with_reducible refine Within.of_eq (by with_reducible assumption) ?_)
    | (intro _))

theorem State.writeCmpBlank_within {M : Foot} (hM : Foot.Sub 0x1000000000000000000000000000000000000000000000000000000000000020000000000000000000000000000000000000000000 M) {s₀ s : State} (h_s : Within M s₀ s) (d : Nat) (u : Nat) (v : Nat)  :
    Within M s₀ (State.writeCmpBlank d u v s).1 := by
  unfold State.writeCmpBlank
  repeat' (first
    | with_reducible assumption
    | (refine Foot.Sub.has hM ?_; decide)
    | (refine Foot.Sub.trans ?_ hM; decide)
    | (extract_lets +onlyGivenNames x; refine Within.cut (x := x) ?_ ?_; (on_goal 2 => (clear_value x; revert x; intro _ _)); (on_goal 1 => (unfold x; clear x)))
    | (extract_lets +onlyGivenNames x; refine Within.cut (x := x.1) ?_ ?_; (on_goal 2 => (clear_value x; revert x; intro _ _)); (on_goal 1 => (unfold x; clear x)))
    | (extract_lets +onlyGivenNames x; clear_value x; revert x; intro _)
    | with_reducible refine State.wr_within ?_ _ _ _ ?_
    | with_reducible refine Within.on ?_ fun _ _ => ?_
    | split
    | (with_reducible refine Within.of_eq (by with_reducible assumption) ?_)
    | (intro _))

theorem State.writeCmpCtrl_within {M : Foot} (hM : Foot.Sub 0xe0003860000000000000000000000000000000000000020000f3fc8300700000000e00000001011e4000027f900000000000c0440008988c8000000000000000000000000001000000000700000 M) {s₀ s : State} (h_s : Within M s₀ s) (d : Nat) (u : Nat) (v : Nat)  :
    Within M s₀ (State.writeCmpCtrl d u v s).1 := by
  unfold State.writeCmpCtrl
  repeat' (first
    | with_reducible assumption
    | (refine Foot.Sub.has hM ?_; decide)
    | (refine Foot.Sub.trans ?_ hM; decide)
    | (extract_lets +onlyGivenNames x; refine Within.cut (x := x) ?_ ?_; (on_goal 2 => (clear_value x; revert x; intro _ _)); (on_goal 1 => (unfold x; clear x)))
    | (extract_lets +onlyGivenNames x; refine Within.cut (x := x.1) ?_ ?_; (on_goal 2 => (clear_value x; revert x; intro _ _)); (on_goal 1 => (unfold x; clear x)))
    | (extract_lets +onlyGivenNames x; clear_value x; revert x; intro _)
    | with_reducible refine State.cmpReject_within ?_ ?_ _ _
    | with_reducible refine State.wr_within ?_ _ _ _ ?_
    | with_reducible refine State.cmpMode_within ?_ ?_ _ _ _ _
    | with_reducible refine State.wrBool_within ?_ _ _ _ ?_
    | with_reducible refine State.cmpStart_within ?_ ?_ _ _
    | with_reducible refine State.cmpPowerOff_within ?_ ?_ _ _
    | with_reducible refine Within.on ?_ fun _ _ => ?_
    | with_reducible refine Within.each ?_ fun _ _ _ => ?_
    | with_reducible refine Within.ite ?_ ?_
    | with_reducible refine Within.ite_fst ?_ ?_
    | split
    | (with_reducible refine Within.of_eq (by with_reducible assumption) ?_)
    | (intro _))

theorem State.ovldThresholds_within {M : Foot} (hM : Foot.Sub 0xc00018600000000000000000000000000000000000000200008000830000000000000000000000000000027f9000000000000000000898850000000000000000000000000000000000000000000 M) {s₀ s : State} (h_s : Within M s₀ s) (d : Nat) (c : Nat)  :
    Within M s₀ (State.ovldThresholds s d c) := by
  unfold State.ovldThresholds State.ovldThresholds.setPair
  exact State.writeCmpThresh_within (Foot.Sub.trans (by decide) hM) (State.writeCmpThresh_within (Foot.Sub.trans (by decide) hM) h_s _ _ _)
    _ _ _

theorem State.writeAtten_within {M : Foot} (hM : Foot.Sub 0xc00018600000000000000000000000000000000000000200008000830008000020000000000000000000027f9000000000000000000898850000000000000000000000000000000003000300000 M) {s₀ s : State} (h_s : Within M s₀ s) (d : Nat) (c : Nat) (v : Nat)  :
    Within M s₀ (State.writeAtten d c v s).1 := by
  unfold State.writeAtten
  repeat' (first
    | with_reducible assumption
    | (refine Foot.Sub.has hM ?_; decide)
    | (refine Foot.Sub.trans ?_ hM; decide)
    | (extract_lets +onlyGivenNames x; refine Within.cut (x := x) ?_ ?_; (on_goal 2 => (clear_value x; revert x; intro _ _)); (on_goal 1 => (unfold x; clear x)))
    | (extract_lets +onlyGivenNames x; refine Within.cut (x := x.1) ?_ ?_; (on_goal 2 => (clear_value x; revert x; intro _ _)); (on_goal 1 => (unfold x; clear x)))
    | (extract_lets +onlyGivenNames x; clear_value x; revert x; intro _)
    | with_reducible refine State.wr_within ?_ _ _ _ ?_
    | with_reducible refine State.flag_within ?_ ?_ _ _ ?_
    | with_reducible refine State.showGain_within ?_ ?_ _ _
    | with_reducible refine State.ovldThresholds_within ?_ ?_ _ _
    | with_reducible refine Within.each ?_ fun _ _ _ => ?_
    | with_reducible refine Within.ite ?_ ?_
    | with_reducible refine Within.ite_fst ?_ ?_
    | split
    | (with_reducible refine Within.of_eq (by with_reducible assumption) ?_))

theorem State.writeCnvCtrl_within {M : Foot} (hM : Foot.Sub 0xc00018600000000000000000000000000000000000000200008000830008000020000000000000000000027f9000000000000000000898850000000000000000000000000000000003000300000 M) {s₀ s : State} (h_s : Within M s₀ s) (d : Nat) (c : Nat) (v : Nat)  :
    Within M s₀ (State.writeCnvCtrl d c v s).1 := by
  unfold State.writeCnvCtrl
  repeat' (first
    | with_reducible assumption
    | (refine Foot.Sub.has hM ?_; decide)
    | (refine Foot.Sub.trans ?_ hM; decide)
    | with_reducible refine State.writeAtten_within ?_ ?_ _ _ _
    | with_reducible refine State.wr_within ?_ _ _ _ ?_
    | split
    | (with_reducible refine Within.of_eq (by with_reducible assumption) ?_))

end Sys2Proof.Machine
end

