-- ==== Sys2Proof/Laws/BobOpsWithin.lean ====
section
/-!
SUPPORT. What each operation of Machine/BobOps.lean may change (`Within`), and that it keeps the state sound.
-/

namespace Sys2Proof.Machine

set_option linter.all false

theorem State.bobPut_within {M : Foot} (hM : Foot.Sub 0x40080000000000000000000000000000000000000000000000000000000000000000000000000000000000000000000000000000000000000000000000000000000000000000000000000000000 M) {s₀ s : State} (h_s : Within M s₀ s) (unit : Nat) (state : Nat) (cause : Nat)  :
    Within M s₀ (State.bobPut s unit state cause) := by
  unfold State.bobPut
  repeat' (first
    | with_reducible assumption
    | (refine Foot.Sub.has hM ?_; decide)
    | (refine Foot.Sub.trans ?_ hM; decide)
    | (extract_lets +onlyGivenNames x; refine Within.cut (x := x) ?_ ?_; (on_goal 2 => (clear_value x; revert x; intro _ _)); (on_goal 1 => (unfold x; clear x)))
    | (extract_lets +onlyGivenNames x; refine Within.cut (x := x.1) ?_ ?_; (on_goal 2 => (clear_value x; revert x; intro _ _)); (on_goal 1 => (unfold x; clear x)))
    | (extract_lets +onlyGivenNames x; clear_value x; revert x; intro _)
    | with_reducible refine State.count_within ?_ ?_ _ _ _ ?_
    | with_reducible refine Within.ite ?_ ?_
    | with_reducible refine Within.ite_fst ?_ ?_
    | split
    | with_reducible refine Within.set_bobbin ?_ _ ?_
    | (with_reducible refine Within.of_eq (by with_reducible assumption) ?_))

theorem State.bobState_within {M : Foot} (hM : Foot.Sub 0x40080000000000000000000000000000000000000000000000000000000000000000000000000000000000000000000000000000000000000000000000000000000000000000000000000000000 M) {s₀ s : State} (h_s : Within M s₀ s) (unit : Nat) (state : Nat)  :
    Within M s₀ (State.bobState s unit state) := by
  unfold State.bobState
  repeat' (first
    | with_reducible assumption
    | (refine Foot.Sub.has hM ?_; decide)
    | (refine Foot.Sub.trans ?_ hM; decide)
    | (extract_lets +onlyGivenNames x; refine Within.cut (x := x) ?_ ?_; (on_goal 2 => (clear_value x; revert x; intro _ _)); (on_goal 1 => (unfold x; clear x)))
    | (extract_lets +onlyGivenNames x; refine Within.cut (x := x.1) ?_ ?_; (on_goal 2 => (clear_value x; revert x; intro _ _)); (on_goal 1 => (unfold x; clear x)))
    | (extract_lets +onlyGivenNames x; clear_value x; revert x; intro _)
    | with_reducible refine State.count_within ?_ ?_ _ _ _ ?_
    | with_reducible refine Within.ite ?_ ?_
    | with_reducible refine Within.ite_fst ?_ ?_
    | split
    | with_reducible refine Within.set_bobbin ?_ _ ?_
    | (with_reducible refine Within.of_eq (by with_reducible assumption) ?_))

theorem State.syncSpares_within {M : Foot} (hM : Foot.Sub 0x100000000000000000000000000000000000000000000000000200000 M) {s₀ s : State} (h_s : Within M s₀ s) (d : Nat)  :
    Within M s₀ (State.syncSpares s d) := by
  unfold State.syncSpares
  repeat' (first
    | with_reducible assumption
    | (refine Foot.Sub.has hM ?_; decide)
    | (refine Foot.Sub.trans ?_ hM; decide)
    | (split <;> (refine Foot.Sub.has hM ?_; decide))
    | (extract_lets +onlyGivenNames x; refine Within.cut (x := x) ?_ ?_; (on_goal 2 => (clear_value x; revert x; intro _ _)); (on_goal 1 => (unfold x; clear x)))
    | (extract_lets +onlyGivenNames x; refine Within.cut (x := x.1) ?_ ?_; (on_goal 2 => (clear_value x; revert x; intro _ _)); (on_goal 1 => (unfold x; clear x)))
    | (extract_lets +onlyGivenNames x; have _h : (_ : _) → _ := x; clear _h; subst x)
    | (extract_lets +onlyGivenNames x; clear_value x; revert x; intro _)
    | with_reducible refine State.wr_within ?_ _ _ _ ?_
    | with_reducible refine Within.foldl ?_ fun _ _ _ => ?_
    | with_reducible refine Within.foldl_fst ?_ fun _ _ _ => ?_
    | with_reducible refine Within.ite ?_ ?_
    | with_reducible refine Within.ite_fst ?_ ?_
    | split
    | (with_reducible refine Within.of_eq (by with_reducible assumption) ?_))

theorem State.spareUsed_within {M : Foot} (hM : Foot.Sub 0xc00018600000000000000000000000000000000000000200000000830000000000000000000000000000027f9000000000100000000898000000000000000000000000000000000000000200000 M) {s₀ s : State} (h_s : Within M s₀ s) (d : Nat) (kind : Nat) (spare : Nat)  :
    Within M s₀ (State.spareUsed s d kind spare) := by
  unfold State.spareUsed
  repeat' (first
    | with_reducible assumption
    | (refine Foot.Sub.has hM ?_; decide)
    | (refine Foot.Sub.trans ?_ hM; decide)
    | (extract_lets +onlyGivenNames x; refine Within.cut (x := x) ?_ ?_; (on_goal 2 => (clear_value x; revert x; intro _ _)); (on_goal 1 => (unfold x; clear x)))
    | (extract_lets +onlyGivenNames x; refine Within.cut (x := x.1) ?_ ?_; (on_goal 2 => (clear_value x; revert x; intro _ _)); (on_goal 1 => (unfold x; clear x)))
    | (extract_lets +onlyGivenNames x; clear_value x; revert x; intro _)
    | with_reducible refine State.syncSpares_within ?_ ?_ _
    | with_reducible refine State.raise_within ?_ ?_ _ _ _
    | with_reducible refine Within.on ?_ fun _ _ => ?_
    | split
    | (with_reducible refine Within.of_eq (by with_reducible assumption) ?_)
    | (intro _))

theorem State.setCmpSpare_within {M : Foot} (hM : Foot.Sub 0x1000000000000000000000000000000000000000000000 M) {s₀ s : State} (h_s : Within M s₀ s) (d : Nat) (n : Nat) (st : Nat) (u : Nat)  :
    Within M s₀ (State.setCmpSpare s d n st u) := by
  unfold State.setCmpSpare
  repeat' (first
    | with_reducible assumption
    | (refine Foot.Sub.has hM ?_; decide)
    | (refine Foot.Sub.trans ?_ hM; decide)
    | (split <;> (refine Foot.Sub.has hM ?_; decide))
    | with_reducible refine State.wr_within ?_ _ _ _ ?_
    | with_reducible refine Within.ite ?_ ?_
    | with_reducible refine Within.ite_fst ?_ ?_
    | split
    | (with_reducible refine Within.of_eq (by with_reducible assumption) ?_))

theorem State.retireSoon_within {M : Foot} (hM : Foot.Sub 0x100000000000000000000000000000000000000000000000000000000000000200000000000000000000000000000000000000000000000000000000000000000000000000000000000000000 M) {s₀ s : State} (h_s : Within M s₀ s) (u : Nat)  :
    Within M s₀ (State.retireSoon s u) := by
  unfold State.retireSoon
  repeat' (first
    | with_reducible assumption
    | (refine Foot.Sub.has hM ?_; decide)
    | (refine Foot.Sub.trans ?_ hM; decide)
    | (extract_lets +onlyGivenNames x; refine Within.cut (x := x) ?_ ?_; (on_goal 2 => (clear_value x; revert x; intro _ _)); (on_goal 1 => (unfold x; clear x)))
    | (extract_lets +onlyGivenNames x; refine Within.cut (x := x.1) ?_ ?_; (on_goal 2 => (clear_value x; revert x; intro _ _)); (on_goal 1 => (unfold x; clear x)))
    | (extract_lets +onlyGivenNames x; clear_value x; revert x; intro _)
    | with_reducible refine State.wr_within ?_ _ _ _ ?_
    | with_reducible refine Within.ite ?_ ?_
    | with_reducible refine Within.ite_fst ?_ ?_
    | split
    | with_reducible refine Within.set_retiring ?_ _ ?_
    | (with_reducible refine Within.of_eq (by with_reducible assumption) ?_))

theorem State.laneCheckDie_within {M : Foot} (hM : Foot.Sub 0x100000000000000000000000000000000000000000000000000000000000000200000000000000000000000000000000000000000000000000000000000000000000000000000000000000000 M) {s₀ s : State} (h_s : Within M s₀ s) (d : Nat)  :
    Within M s₀ (State.laneCheckDie s d) := by
  unfold State.laneCheckDie
  repeat' (first
    | with_reducible assumption
    | (refine Foot.Sub.has hM ?_; decide)
    | (refine Foot.Sub.trans ?_ hM; decide)
    | with_reducible refine State.retireSoon_within ?_ ?_ _
    | with_reducible refine Within.on ?_ fun _ _ => ?_
    | split
    | (with_reducible refine Within.of_eq (by with_reducible assumption) ?_)
    | (intro _))

theorem State.syncLanes_within {M : Foot} (hM : Foot.Sub 0xc010186000000000000000000000000000000000000002000000008300000000020000000001001e4000027f9000000000a00000000898000000000000000000000000000001000000000000000 M) {s₀ s : State} (h_s : Within M s₀ s) (d : Nat)  :
    Within M s₀ (State.syncLanes s d) := by
  unfold State.syncLanes
  repeat' (first
    | with_reducible assumption
    | (refine Foot.Sub.has hM ?_; decide)
    | (refine Foot.Sub.trans ?_ hM; decide)
    | (extract_lets +onlyGivenNames x; refine Within.cut (x := x) ?_ ?_; (on_goal 2 => (clear_value x; revert x; intro _ _)); (on_goal 1 => (unfold x; clear x)))
    | (extract_lets +onlyGivenNames x; refine Within.cut (x := x.1) ?_ ?_; (on_goal 2 => (clear_value x; revert x; intro _ _)); (on_goal 1 => (unfold x; clear x)))
    | (extract_lets +onlyGivenNames x; have _h : (_ : _) → _ := x; clear _h; subst x)
    | (extract_lets +onlyGivenNames x; clear_value x; revert x; intro _)
    | with_reducible refine State.count_within ?_ ?_ _ _ _ ?_
    | with_reducible refine State.wr_within ?_ _ _ _ ?_
    | with_reducible refine State.wrBool_within ?_ _ _ _ ?_
    | with_reducible refine State.syncXdie_within ?_ ?_ _
    | with_reducible refine State.laneCheckDie_within ?_ ?_ _
    | with_reducible refine Within.each ?_ fun _ _ _ => ?_
    | split
    | (with_reducible refine Within.of_eq (by with_reducible assumption) ?_))

theorem State.rtShow_within {M : Foot} (hM : Foot.Sub 0x400000000000000000000000000000000000000000000000000000000 M) {s₀ s : State} (h_s : Within M s₀ s) (d : Nat) (unit : Nat) (phase : Nat) (lost : Nat)  :
    Within M s₀ (State.rtShow s d unit phase lost) := by
  unfold State.rtShow
  repeat' (first
    | with_reducible assumption
    | (refine Foot.Sub.has hM ?_; decide)
    | (refine Foot.Sub.trans ?_ hM; decide)
    | with_reducible refine State.wr_within ?_ _ _ _ ?_
    | split
    | (with_reducible refine Within.of_eq (by with_reducible assumption) ?_))

theorem State.rtOver_within {M : Foot} (hM : Foot.Sub 0xc0061b600000000000000000000000000000000000000200000000830000000084000000000000000000027f900000001c400000200898000000000000000000000000000000000000000000000 M) {s₀ s : State} (h_s : Within M s₀ s) (d : Nat) (outcome : Nat) (status : Nat)  :
    Within M s₀ (State.rtOver s d outcome status) := by
  unfold State.rtOver
  repeat' (first
    | with_reducible assumption
    | (refine Foot.Sub.has hM ?_; decide)
    | (refine Foot.Sub.trans ?_ hM; decide)
    | (extract_lets +onlyGivenNames x; refine Within.cut (x := x) ?_ ?_; (on_goal 2 => (clear_value x; revert x; intro _ _)); (on_goal 1 => (unfold x; clear x)))
    | (extract_lets +onlyGivenNames x; refine Within.cut (x := x.1) ?_ ?_; (on_goal 2 => (clear_value x; revert x; intro _ _)); (on_goal 1 => (unfold x; clear x)))
    | (extract_lets +onlyGivenNames x; have _h : (_ : _) → _ := x; clear _h; subst x)
    | (extract_lets +onlyGivenNames x; clear_value x; revert x; intro _)
    | with_reducible refine State.rtShow_within ?_ ?_ _ _ _ _
    | with_reducible refine State.wr_within ?_ _ _ _ ?_
    | with_reducible refine State.syncMnt_within ?_ ?_
    | with_reducible refine State.raise_within ?_ ?_ _ _ _
    | with_reducible refine State.finishUnit_within ?_ ?_ _ _ _ _
    | split
    | with_reducible refine Within.set_running ?_ _ ?_
    | with_reducible refine Within.set_waiting ?_ _ ?_
    | with_reducible refine Within.set_claims ?_ _ _ ?_ ?_
    | (with_reducible refine Within.of_eq (by with_reducible assumption) ?_))

theorem State.rtReplaced_within {M : Foot} (hM : Foot.Sub 0xc1efbb600000000000000000000000000000000000000200008000830000000084000880000000000000067f900000001c53c000200898040000000000008000000000000000000008080200000 M) {s₀ s : State} (h_s : Within M s₀ s) (d : Nat) (kind : Nat) (spare : Nat)  :
    Within M s₀ (State.rtReplaced s d kind spare) := by
  unfold State.rtReplaced
  repeat' (first
    | with_reducible assumption
    | (refine Foot.Sub.has hM ?_; decide)
    | (refine Foot.Sub.trans ?_ hM; decide)
    | (extract_lets +onlyGivenNames x; refine Within.cut (x := x) ?_ ?_; (on_goal 2 => (clear_value x; revert x; intro _ _)); (on_goal 1 => (unfold x; clear x)))
    | (extract_lets +onlyGivenNames x; refine Within.cut (x := x.1) ?_ ?_; (on_goal 2 => (clear_value x; revert x; intro _ _)); (on_goal 1 => (unfold x; clear x)))
    | (extract_lets +onlyGivenNames x; clear_value x; revert x; intro _)
    | with_reducible refine State.bobState_within ?_ ?_ _ _
    | with_reducible refine State.spareUsed_within ?_ ?_ _ _ _
    | with_reducible refine State.rtOver_within ?_ ?_ _ _ _
    | with_reducible refine State.storeAsk_within ?_ ?_
    | split
    | (with_reducible refine Within.of_eq (by with_reducible assumption) ?_))

theorem State.rtFails_within {M : Foot} (hM : Foot.Sub 0xc00e1b600000000000000000000000000000000000000200000000830000000084000000000000000000027f900000001c500000200898000000000000000000000000000000000000000200000 M) {s₀ s : State} (h_s : Within M s₀ s) (d : Nat) (kind : Nat) (spare : Nat)  :
    Within M s₀ (State.rtFails s d kind spare) := by
  unfold State.rtFails
  repeat' (first
    | with_reducible assumption
    | (refine Foot.Sub.has hM ?_; decide)
    | (refine Foot.Sub.trans ?_ hM; decide)
    | (extract_lets +onlyGivenNames x; refine Within.cut (x := x) ?_ ?_; (on_goal 2 => (clear_value x; revert x; intro _ _)); (on_goal 1 => (unfold x; clear x)))
    | (extract_lets +onlyGivenNames x; refine Within.cut (x := x.1) ?_ ?_; (on_goal 2 => (clear_value x; revert x; intro _ _)); (on_goal 1 => (unfold x; clear x)))
    | (extract_lets +onlyGivenNames x; clear_value x; revert x; intro _)
    | with_reducible refine State.bobState_within ?_ ?_ _ _
    | with_reducible refine State.spareUsed_within ?_ ?_ _ _ _
    | with_reducible refine State.rtOver_within ?_ ?_ _ _ _
    | split
    | (with_reducible refine Within.of_eq (by with_reducible assumption) ?_))

theorem State.rtAbandon_within {M : Foot} (hM : Foot.Sub 0xc00f1b600000000000000000000000000000000000000200000000830000000084000000000000000000027f900000001e408000200899000000000000000000002000000000000000001000000 M) {s₀ s : State} (h_s : Within M s₀ s) (d : Nat)  :
    Within M s₀ (State.rtAbandon s d) := by
  unfold State.rtAbandon
  repeat' (first
    | with_reducible assumption
    | (refine Foot.Sub.has hM ?_; decide)
    | (refine Foot.Sub.trans ?_ hM; decide)
    | (extract_lets +onlyGivenNames x; refine Within.cut (x := x) ?_ ?_; (on_goal 2 => (clear_value x; revert x; intro _ _)); (on_goal 1 => (unfold x; clear x)))
    | (extract_lets +onlyGivenNames x; refine Within.cut (x := x.1) ?_ ?_; (on_goal 2 => (clear_value x; revert x; intro _ _)); (on_goal 1 => (unfold x; clear x)))
    | with_reducible refine State.wr_within ?_ _ _ _ ?_
    | with_reducible refine State.setCmpSpare_within ?_ ?_ _ _ _ _
    | with_reducible refine State.withdrawWith_within ?_ ?_ _ _
    | with_reducible refine State.bobState_within ?_ ?_ _ _
    | with_reducible refine State.rtOver_within ?_ ?_ _ _ _
    | with_reducible refine Within.on ?_ fun _ _ => ?_
    | with_reducible refine Within.ite ?_ ?_
    | with_reducible refine Within.ite_fst ?_ ?_
    | split
    | (with_reducible refine Within.of_eq (by with_reducible assumption) ?_)
    | (intro _))

theorem State.rtGranted_within {M : Foot} (hM : Foot.Sub 0x8000000000000000000000000000000000000002100008000001000000000000000000002000000000000000000200000 M) {s₀ s : State} (h_s : Within M s₀ s) (d : Nat)  :
    Within M s₀ (State.rtGranted s d) := by
  unfold State.rtGranted
  repeat' (first
    | with_reducible assumption
    | (refine Foot.Sub.has hM ?_; decide)
    | (refine Foot.Sub.trans ?_ hM; decide)
    | (extract_lets +onlyGivenNames x; refine Within.cut (x := x) ?_ ?_; (on_goal 2 => (clear_value x; revert x; intro _ _)); (on_goal 1 => (unfold x; clear x)))
    | (extract_lets +onlyGivenNames x; refine Within.cut (x := x.1) ?_ ?_; (on_goal 2 => (clear_value x; revert x; intro _ _)); (on_goal 1 => (unfold x; clear x)))
    | (extract_lets +onlyGivenNames x; clear_value x; revert x; intro _)
    | with_reducible refine State.wr_within ?_ _ _ _ ?_
    | with_reducible refine State.setCmpSpare_within ?_ ?_ _ _ _ _
    | with_reducible refine State.syncSpares_within ?_ ?_ _
    | with_reducible refine State.syncDomains_within ?_ ?_
    | with_reducible refine Within.ite ?_ ?_
    | with_reducible refine Within.ite_fst ?_ ?_
    | split
    | (with_reducible refine Within.of_eq (by with_reducible assumption) ?_))

theorem State.rtGo_within {M : Foot} (hM : Foot.Sub 0xc00e18600000000000000000000000000000000000000200000000838080000000000000000000000000027f900000001e500008000899000000000000000000002000000000000000000200000 M) {s₀ s : State} (h_s : Within M s₀ s) (u : Nat) (lost : Bool)  :
    Within M s₀ (State.rtGo s u lost) := by
  unfold State.rtGo
  repeat' (first
    | with_reducible assumption
    | (refine Foot.Sub.has hM ?_; decide)
    | (refine Foot.Sub.trans ?_ hM; decide)
    | (extract_lets +onlyGivenNames x; refine Within.cut (x := x) ?_ ?_; (on_goal 2 => (clear_value x; revert x; intro _ _)); (on_goal 1 => (unfold x; clear x)))
    | (extract_lets +onlyGivenNames x; refine Within.cut (x := x.1) ?_ ?_; (on_goal 2 => (clear_value x; revert x; intro _ _)); (on_goal 1 => (unfold x; clear x)))
    | (extract_lets +onlyGivenNames x; clear_value x; revert x; intro _)
    | with_reducible refine State.rtShow_within ?_ ?_ _ _ _ _
    | with_reducible refine State.bobState_within ?_ ?_ _ _
    | with_reducible refine State.raise_within ?_ ?_ _ _ _
    | with_reducible refine State.wr_within ?_ _ _ _ ?_
    | with_reducible refine State.claim_within ?_ ?_ _
    | with_reducible refine State.rtGranted_within ?_ ?_ _
    | with_reducible refine Within.on ?_ fun _ _ => ?_
    | with_reducible refine Within.ite ?_ ?_
    | with_reducible refine Within.ite_fst ?_ ?_
    | split
    | (with_reducible refine Within.of_eq (by with_reducible assumption) ?_)
    | (intro _))

theorem State.rtRequest_within {M : Foot} (hM : Foot.Sub 0xc18fb8600000000000000000000000000000000000000200008000838080000000000880000000000000067f900000001e53c008000899040000000000008000002000000000000000080200000 M) {s₀ s : State} (h_s : Within M s₀ s) (u : Nat) (lost : Bool) (auto : Bool) (cmd : Option (MbxHdr × Nat))  :
    Within M s₀ (State.rtRequest s u lost auto cmd).1 := by
  unfold State.rtRequest
  repeat' (first
    | with_reducible assumption
    | (refine Foot.Sub.has hM ?_; decide)
    | (refine Foot.Sub.trans ?_ hM; decide)
    | (extract_lets +onlyGivenNames x; refine Within.cut (x := x) ?_ ?_; (on_goal 2 => (clear_value x; revert x; intro _ _)); (on_goal 1 => (unfold x; clear x)))
    | (extract_lets +onlyGivenNames x; refine Within.cut (x := x.1) ?_ ?_; (on_goal 2 => (clear_value x; revert x; intro _ _)); (on_goal 1 => (unfold x; clear x)))
    | (extract_lets +onlyGivenNames x; clear_value x; revert x; intro _)
    | with_reducible refine State.harvest_within ?_ ?_ _ _ _ _ _ _ _
    | with_reducible refine State.rtGo_within ?_ ?_ _ _
    | with_reducible refine State.rtShow_within ?_ ?_ _ _ _ _
    | split
    | (with_reducible refine Within.of_eq (by with_reducible assumption) ?_))

theorem State.rethread_within {M : Foot} (hM : Foot.Sub 0xc18fb8600000000000000000000000000000000000000200008000838080000000000880000000000000067f900000001e53c008000899040000000000008000002000000000000000080200000 M) {s₀ s : State} (h_s : Within M s₀ s) (u : Nat) (cmd : Option (MbxHdr × Nat))  :
    Within M s₀ (State.rethread s u cmd).1 := by
  unfold State.rethread
  repeat' (first
    | with_reducible assumption
    | (refine Foot.Sub.has hM ?_; decide)
    | (refine Foot.Sub.trans ?_ hM; decide)
    | (extract_lets +onlyGivenNames x; refine Within.cut (x := x) ?_ ?_; (on_goal 2 => (clear_value x; revert x; intro _ _)); (on_goal 1 => (unfold x; clear x)))
    | (extract_lets +onlyGivenNames x; refine Within.cut (x := x.1) ?_ ?_; (on_goal 2 => (clear_value x; revert x; intro _ _)); (on_goal 1 => (unfold x; clear x)))
    | (extract_lets +onlyGivenNames x; clear_value x; revert x; intro _)
    | with_reducible refine State.bobPut_within ?_ ?_ _ _ _
    | with_reducible refine State.rtRequest_within ?_ ?_ _ _ _ _
    | with_reducible refine Within.ite ?_ ?_
    | with_reducible refine Within.ite_fst ?_ ?_
    | split
    | (with_reducible refine Within.of_eq (by with_reducible assumption) ?_))

theorem State.becomesWorn_within {M : Foot} (hM : Foot.Sub 0xc18fb8600000000000000000000000000000000000000200008000838080000000000880000000000000067f900000001e53c008000899040000000000008000002000000000000000080200000 M) {s₀ s : State} (h_s : Within M s₀ s) (u : Nat) (cause : Nat)  :
    Within M s₀ (State.becomesWorn s u cause) := by
  unfold State.becomesWorn
  repeat' (first
    | with_reducible assumption
    | (refine Foot.Sub.has hM ?_; decide)
    | (refine Foot.Sub.trans ?_ hM; decide)
    | (extract_lets +onlyGivenNames x; refine Within.cut (x := x) ?_ ?_; (on_goal 2 => (clear_value x; revert x; intro _ _)); (on_goal 1 => (unfold x; clear x)))
    | (extract_lets +onlyGivenNames x; refine Within.cut (x := x.1) ?_ ?_; (on_goal 2 => (clear_value x; revert x; intro _ _)); (on_goal 1 => (unfold x; clear x)))
    | (extract_lets +onlyGivenNames x; clear_value x; revert x; intro _)
    | with_reducible refine State.bobPut_within ?_ ?_ _ _ _
    | with_reducible refine State.raise_within ?_ ?_ _ _ _
    | with_reducible refine State.rtRequest_within ?_ ?_ _ _ _ _
    | with_reducible refine Within.on ?_ fun _ _ => ?_
    | split
    | (with_reducible refine Within.of_eq (by with_reducible assumption) ?_)
    | (intro _))

theorem State.spareLost_within {M : Foot} (hM : Foot.Sub 0xc00f1b600000000000000000000000000000000000000200000000830000000084000000000000000000027f900000001e508000200899000000000000000000002000000000000000001200000 M) {s₀ s : State} (h_s : Within M s₀ s) (u : Nat)  :
    Within M s₀ (State.spareLost s u) := by
  unfold State.spareLost
  repeat' (first
    | with_reducible assumption
    | (refine Foot.Sub.has hM ?_; decide)
    | (refine Foot.Sub.trans ?_ hM; decide)
    | (extract_lets +onlyGivenNames x; refine Within.cut (x := x) ?_ ?_; (on_goal 2 => (clear_value x; revert x; intro _ _)); (on_goal 1 => (unfold x; clear x)))
    | (extract_lets +onlyGivenNames x; refine Within.cut (x := x.1) ?_ ?_; (on_goal 2 => (clear_value x; revert x; intro _ _)); (on_goal 1 => (unfold x; clear x)))
    | (extract_lets +onlyGivenNames x; clear_value x; revert x; intro _)
    | with_reducible refine State.rtAbandon_within ?_ ?_ _
    | with_reducible refine State.wr_within ?_ _ _ _ ?_
    | with_reducible refine State.bobState_within ?_ ?_ _ _
    | with_reducible refine State.spareUsed_within ?_ ?_ _ _ _
    | with_reducible refine State.setCmpSpare_within ?_ ?_ _ _ _ _
    | with_reducible refine Within.on ?_ fun _ _ => ?_
    | split
    | (with_reducible refine Within.of_eq (by with_reducible assumption) ?_)
    | (intro _))

theorem State.becomesLost_within {M : Foot} (hM : Foot.Sub 0xc19fbb6000000000000000000000000000000000000002000080008380800000860008800001001e4000067f900000001ff3c008200899040000000000008000002000000001000000081200000 M) {s₀ s : State} (h_s : Within M s₀ s) (u : Nat) (cause : Nat)  :
    Within M s₀ (State.becomesLost s u cause) := by
  unfold State.becomesLost
  repeat' (first
    | with_reducible assumption
    | (refine Foot.Sub.has hM ?_; decide)
    | (refine Foot.Sub.trans ?_ hM; decide)
    | (extract_lets +onlyGivenNames x; refine Within.cut (x := x) ?_ ?_; (on_goal 2 => (clear_value x; revert x; intro _ _)); (on_goal 1 => (unfold x; clear x)))
    | (extract_lets +onlyGivenNames x; refine Within.cut (x := x.1) ?_ ?_; (on_goal 2 => (clear_value x; revert x; intro _ _)); (on_goal 1 => (unfold x; clear x)))
    | (extract_lets +onlyGivenNames x; clear_value x; revert x; intro _)
    | with_reducible refine State.bobPut_within ?_ ?_ _ _ _
    | with_reducible refine State.raise_within ?_ ?_ _ _ _
    | with_reducible refine State.wr_within ?_ _ _ _ ?_
    | with_reducible refine State.syncLanes_within ?_ ?_ _
    | with_reducible refine State.spareLost_within ?_ ?_ _
    | with_reducible refine State.rtAbandon_within ?_ ?_ _
    | with_reducible refine State.rtRequest_within ?_ ?_ _ _ _ _
    | with_reducible refine State.retireSoon_within ?_ ?_ _
    | with_reducible refine Within.on ?_ fun _ _ => ?_
    | with_reducible refine Within.ite ?_ ?_
    | with_reducible refine Within.ite_fst ?_ ?_
    | split
    | (with_reducible refine Within.of_eq (by with_reducible assumption) ?_)
    | (intro _))

theorem State.copyTrims_within {M : Foot} (hM : Foot.Sub 0xc00018600000000000000000000000000000000000000200000000830000000020000008000000000000027f9000000000000000000898000000000000000000000000000000000003000000000 M) {s₀ s : State} (h_s : Within M s₀ s) (d : Nat) (c : Nat) (x : Nat) (spare : Nat)  :
    Within M s₀ (State.copyTrims s d c x spare) := by
  unfold State.copyTrims
  repeat' (first
    | with_reducible assumption
    | (refine Foot.Sub.has hM ?_; decide)
    | (refine Foot.Sub.trans ?_ hM; decide)
    | (unfold State.trimField; split <;> (refine Foot.Sub.has hM ?_; decide))
    | (split <;> (refine Foot.Sub.has hM ?_; decide))
    | (extract_lets +onlyGivenNames x; refine Within.cut (x := x) ?_ ?_; (on_goal 2 => (clear_value x; revert x; intro _ _)); (on_goal 1 => (unfold x; clear x)))
    | (extract_lets +onlyGivenNames x; refine Within.cut (x := x.1) ?_ ?_; (on_goal 2 => (clear_value x; revert x; intro _ _)); (on_goal 1 => (unfold x; clear x)))
    | (extract_lets +onlyGivenNames x; clear_value x; revert x; intro _)
    | with_reducible refine State.wr_within ?_ _ _ _ ?_
    | with_reducible refine State.syncEdge_within ?_ ?_ _ _ _ _
    | with_reducible refine Within.each ?_ fun _ _ _ => ?_
    | split
    | (with_reducible refine Within.of_eq (by with_reducible assumption) ?_))

theorem State.rtSetup_within {M : Foot} (hM : Foot.Sub 0xc006186000000000000000000000000000000000000002000000008300000000a0000038000000000000027f900000001c500000000898000000000000000000000000000000000003001200000 M) {s₀ s : State} (h_s : Within M s₀ s) (d : Nat)  :
    Within M s₀ (State.rtSetup s d) := by
  unfold State.rtSetup
  repeat' (first
    | with_reducible assumption
    | (refine Foot.Sub.has hM ?_; decide)
    | (refine Foot.Sub.trans ?_ hM; decide)
    | (split <;> (refine Foot.Sub.has hM ?_; decide))
    | (extract_lets +onlyGivenNames x; refine Within.cut (x := x) ?_ ?_; (on_goal 2 => (clear_value x; revert x; intro _ _)); (on_goal 1 => (unfold x; clear x)))
    | (extract_lets +onlyGivenNames x; refine Within.cut (x := x.1) ?_ ?_; (on_goal 2 => (clear_value x; revert x; intro _ _)); (on_goal 1 => (unfold x; clear x)))
    | (extract_lets +onlyGivenNames x; clear_value x; revert x; intro _)
    | with_reducible refine State.wr_within ?_ _ _ _ ?_
    | with_reducible refine State.copyTrims_within ?_ ?_ _ _ _ _
    | with_reducible refine State.release_within ?_ ?_ _
    | with_reducible refine State.syncSpares_within ?_ ?_ _
    | with_reducible refine Within.on ?_ fun _ _ => ?_
    | with_reducible refine Within.each ?_ fun _ _ _ => ?_
    | with_reducible refine Within.ite ?_ ?_
    | with_reducible refine Within.ite_fst ?_ ?_
    | split
    | (with_reducible refine Within.of_eq (by with_reducible assumption) ?_)
    | (intro _))

theorem State.rtTrain_within {M : Foot} (hM : Foot.Sub 0xc00e1b600000000000000000000000000000000000000200000000830000000084000000000000000000027f900000001c500000200898000000000000000000000000000000000000001200000 M) {s₀ s : State} (h_s : Within M s₀ s) (d : Nat) (c : Nat)  :
    Within M s₀ (State.rtTrain s d c) := by
  unfold State.rtTrain
  repeat' (first
    | with_reducible assumption
    | (refine Foot.Sub.has hM ?_; decide)
    | (refine Foot.Sub.trans ?_ hM; decide)
    | (extract_lets +onlyGivenNames x; refine Within.cut (x := x) ?_ ?_; (on_goal 2 => (clear_value x; revert x; intro _ _)); (on_goal 1 => (unfold x; clear x)))
    | (extract_lets +onlyGivenNames x; refine Within.cut (x := x.1) ?_ ?_; (on_goal 2 => (clear_value x; revert x; intro _ _)); (on_goal 1 => (unfold x; clear x)))
    | (extract_lets +onlyGivenNames x; clear_value x; revert x; intro _)
    | with_reducible refine State.wr_within ?_ _ _ _ ?_
    | with_reducible refine State.rtFails_within ?_ ?_ _ _ _
    | with_reducible refine State.inc_within ?_ _ _ ?_
    | with_reducible refine State.raise_within ?_ ?_ _ _ _
    | with_reducible refine Within.on ?_ fun _ _ => ?_
    | with_reducible refine Within.ite ?_ ?_
    | with_reducible refine Within.ite_fst ?_ ?_
    | split
    | (with_reducible refine Within.of_eq (by with_reducible assumption) ?_)
    | (intro _))

theorem State.swapGranted_within {M : Foot} (hM : Foot.Sub 0x400000000000000000000000000000000000000000000000000000000000000000000000000000000000000000 M) {s₀ s : State} (h_s : Within M s₀ s) (d : Nat)  :
    Within M s₀ (State.swapGranted s d) := by
  unfold State.swapGranted
  repeat' (first
    | with_reducible assumption
    | (refine Foot.Sub.has hM ?_; decide)
    | (refine Foot.Sub.trans ?_ hM; decide)
    | with_reducible refine State.wr_within ?_ _ _ _ ?_
    | with_reducible refine Within.on ?_ fun _ _ => ?_
    | split
    | (with_reducible refine Within.of_eq (by with_reducible assumption) ?_)
    | (intro _))

theorem State.swapFix_within {M : Foot} (hM : Foot.Sub 0xc0061860000000000000000000000000000000000000020000000083000000000c000000000000000000027f900000001c000000000898000000000000000000000000000000000000000000000 M) {s₀ s : State} (h_s : Within M s₀ s) (d : Nat) (a : Nat)  :
    Within M s₀ (State.swapFix s d a) := by
  unfold State.swapFix
  repeat' (first
    | with_reducible assumption
    | (refine Foot.Sub.has hM ?_; decide)
    | (refine Foot.Sub.trans ?_ hM; decide)
    | (extract_lets +onlyGivenNames x; refine Within.cut (x := x) ?_ ?_; (on_goal 2 => (clear_value x; revert x; intro _ _)); (on_goal 1 => (unfold x; clear x)))
    | (extract_lets +onlyGivenNames x; refine Within.cut (x := x.1) ?_ ?_; (on_goal 2 => (clear_value x; revert x; intro _ _)); (on_goal 1 => (unfold x; clear x)))
    | (extract_lets +onlyGivenNames x; clear_value x; revert x; intro _)
    | with_reducible refine State.claim_within ?_ ?_ _
    | with_reducible refine State.swapGranted_within ?_ ?_ _
    | with_reducible refine State.wr_within ?_ _ _ _ ?_
    | with_reducible refine Within.on ?_ fun _ _ => ?_
    | with_reducible refine Within.ite ?_ ?_
    | with_reducible refine Within.ite_fst ?_ ?_
    | split
    | (with_reducible refine Within.of_eq (by with_reducible assumption) ?_)
    | (intro _))

theorem State.swapTick_within {M : Foot} (hM : Foot.Sub 0xc0061860000000000000000000000000000000000000020000000083000000000c000000000000000000027f900000001c400000000898000000000000000000000000000000000000000000000 M) {s₀ s : State} (h_s : Within M s₀ s) (d : Nat)  :
    Within M s₀ (State.swapTick s d) := by
  unfold State.swapTick
  repeat' (first
    | with_reducible assumption
    | (refine Foot.Sub.has hM ?_; decide)
    | (refine Foot.Sub.trans ?_ hM; decide)
    | (extract_lets +onlyGivenNames x; refine Within.cut (x := x) ?_ ?_; (on_goal 2 => (clear_value x; revert x; intro _ _)); (on_goal 1 => (unfold x; clear x)))
    | (extract_lets +onlyGivenNames x; refine Within.cut (x := x.1) ?_ ?_; (on_goal 2 => (clear_value x; revert x; intro _ _)); (on_goal 1 => (unfold x; clear x)))
    | (extract_lets +onlyGivenNames x; clear_value x; revert x; intro _)
    | with_reducible refine State.wr_within ?_ _ _ _ ?_
    | with_reducible refine State.swapFix_within ?_ ?_ _ _
    | with_reducible refine State.release_within ?_ ?_ _
    | with_reducible refine Within.on ?_ fun _ _ => ?_
    | with_reducible refine Within.ite ?_ ?_
    | with_reducible refine Within.ite_fst ?_ ?_
    | split
    | (with_reducible refine Within.of_eq (by with_reducible assumption) ?_)
    | (intro _))

theorem State.rtSwap_within {M : Foot} (hM : Foot.Sub 0xc1efbb601000000000000000000000000000000000000200008000830000000094000880000000000000067f900000001c53c000200898040000000000008000000000000000000008081200000 M) {s₀ s : State} (h_s : Within M s₀ s) (d : Nat)  :
    Within M s₀ (State.rtSwap s d) := by
  unfold State.rtSwap
  repeat' (first
    | with_reducible assumption
    | (refine Foot.Sub.has hM ?_; decide)
    | (refine Foot.Sub.trans ?_ hM; decide)
    | (extract_lets +onlyGivenNames x; refine Within.cut (x := x) ?_ ?_; (on_goal 2 => (clear_value x; revert x; intro _ _)); (on_goal 1 => (unfold x; clear x)))
    | (extract_lets +onlyGivenNames x; refine Within.cut (x := x.1) ?_ ?_; (on_goal 2 => (clear_value x; revert x; intro _ _)); (on_goal 1 => (unfold x; clear x)))
    | (extract_lets +onlyGivenNames x; clear_value x; revert x; intro _)
    | with_reducible refine State.wr_within ?_ _ _ _ ?_
    | with_reducible refine State.setAcq_within ?_ ?_ _ _ _
    | with_reducible refine State.rtReplaced_within ?_ ?_ _ _ _
    | with_reducible refine Within.on ?_ fun _ _ => ?_
    | with_reducible refine Within.ite ?_ ?_
    | with_reducible refine Within.ite_fst ?_ ?_
    | split
    | (with_reducible refine Within.of_eq (by with_reducible assumption) ?_)
    | (intro _))

theorem State.remapHold_within {M : Foot} (hM : Foot.Sub 0xc00618601000000000000000000000000000000000000200000000830000000000000000000000000200027f900000001c000000000898000000000000000000200040000000000000000000000 M) {s₀ s : State} (h_s : Within M s₀ s) (d : Nat) (h : Nat)  :
    Within M s₀ (State.remapHold s d h) := by
  unfold State.remapHold
  repeat' (first
    | with_reducible assumption
    | (refine Foot.Sub.has hM ?_; decide)
    | (refine Foot.Sub.trans ?_ hM; decide)
    | (extract_lets +onlyGivenNames x; refine Within.cut (x := x) ?_ ?_; (on_goal 2 => (clear_value x; revert x; intro _ _)); (on_goal 1 => (unfold x; clear x)))
    | (extract_lets +onlyGivenNames x; refine Within.cut (x := x.1) ?_ ?_; (on_goal 2 => (clear_value x; revert x; intro _ _)); (on_goal 1 => (unfold x; clear x)))
    | (extract_lets +onlyGivenNames x; clear_value x; revert x; intro _)
    | with_reducible refine State.claim_within ?_ ?_ _
    | with_reducible refine State.wr_within ?_ _ _ _ ?_
    | with_reducible refine State.raise_within ?_ ?_ _ _ _
    | with_reducible refine State.lcOpenGap_within ?_ ?_ _ _
    | with_reducible refine Within.on ?_ fun _ _ => ?_
    | with_reducible refine Within.ite ?_ ?_
    | with_reducible refine Within.ite_fst ?_ ?_
    | split
    | (with_reducible refine Within.of_eq (by with_reducible assumption) ?_)
    | (intro _))

theorem State.remapMap_within {M : Foot} (hM : Foot.Sub 0x3040000000000000000000000 M) {s₀ s : State} (h_s : Within M s₀ s) (d : Nat) (h : Nat)  :
    Within M s₀ (State.remapMap s d h) := by
  unfold State.remapMap
  repeat' (first
    | with_reducible assumption
    | (refine Foot.Sub.has hM ?_; decide)
    | (refine Foot.Sub.trans ?_ hM; decide)
    | (extract_lets +onlyGivenNames x; refine Within.cut (x := x) ?_ ?_; (on_goal 2 => (clear_value x; revert x; intro _ _)); (on_goal 1 => (unfold x; clear x)))
    | (extract_lets +onlyGivenNames x; refine Within.cut (x := x.1) ?_ ?_; (on_goal 2 => (clear_value x; revert x; intro _ _)); (on_goal 1 => (unfold x; clear x)))
    | (extract_lets +onlyGivenNames x; clear_value x; revert x; intro _)
    | with_reducible refine State.wr_within ?_ _ _ _ ?_
    | with_reducible refine Within.on ?_ fun _ _ => ?_
    | with_reducible refine Within.each ?_ fun _ _ _ => ?_
    | with_reducible refine Within.ite ?_ ?_
    | with_reducible refine Within.ite_fst ?_ ?_
    | split
    | (with_reducible refine Within.of_eq (by with_reducible assumption) ?_)
    | (intro _))

theorem State.remapEnd_within {M : Foot} (hM : Foot.Sub 0xc1efbb601a00000000000000000000000000000000000200008000830000000084000880000000000100067f900000001c53c000200898040000000000008000a83040000000000008080200000 M) {s₀ s : State} (h_s : Within M s₀ s) (d : Nat) (h : Nat)  :
    Within M s₀ (State.remapEnd s d h) := by
  unfold State.remapEnd
  repeat' (first
    | with_reducible assumption
    | (refine Foot.Sub.has hM ?_; decide)
    | (refine Foot.Sub.trans ?_ hM; decide)
    | (extract_lets +onlyGivenNames x; refine Within.cut (x := x) ?_ ?_; (on_goal 2 => (clear_value x; revert x; intro _ _)); (on_goal 1 => (unfold x; clear x)))
    | (extract_lets +onlyGivenNames x; refine Within.cut (x := x.1) ?_ ?_; (on_goal 2 => (clear_value x; revert x; intro _ _)); (on_goal 1 => (unfold x; clear x)))
    | (extract_lets +onlyGivenNames x; clear_value x; revert x; intro _)
    | with_reducible refine State.remapMap_within ?_ ?_ _ _
    | with_reducible refine State.wr_within ?_ _ _ _ ?_
    | with_reducible refine State.memRelease_within ?_ ?_ _ _
    | with_reducible refine State.raise_within ?_ ?_ _ _ _
    | with_reducible refine State.lcResume_within ?_ ?_ _ _ _ _
    | with_reducible refine State.closeGap_within ?_ ?_ _ _
    | with_reducible refine State.rtReplaced_within ?_ ?_ _ _ _
    | with_reducible refine Within.on ?_ fun _ _ => ?_
    | with_reducible refine Within.each ?_ fun _ _ _ => ?_
    | with_reducible refine Within.ite ?_ ?_
    | with_reducible refine Within.ite_fst ?_ ?_
    | split
    | (with_reducible refine Within.of_eq (by with_reducible assumption) ?_)
    | (intro _))

theorem State.granted_within {M : Foot} (hM : Foot.Sub 0xe166196010000000000000000000000000000000000002000000008340800000440e27b4000000000200027f900000001e10000800089900000000000000000020204000000000000a880300000 M) {s₀ s : State} (h_s : Within M s₀ s) (a : Activity)  :
    Within M s₀ (State.granted s a) := by
  unfold State.granted
  repeat' (first
    | with_reducible assumption
    | (refine Foot.Sub.has hM ?_; decide)
    | (refine Foot.Sub.trans ?_ hM; decide)
    | (extract_lets +onlyGivenNames x; refine Within.cut (x := x) ?_ ?_; (on_goal 2 => (clear_value x; revert x; intro _ _)); (on_goal 1 => (unfold x; clear x)))
    | (extract_lets +onlyGivenNames x; refine Within.cut (x := x.1) ?_ ?_; (on_goal 2 => (clear_value x; revert x; intro _ _)); (on_goal 1 => (unfold x; clear x)))
    | (extract_lets +onlyGivenNames x; clear_value x; revert x; intro _)
    | with_reducible refine State.cardUpdate_within ?_ ?_ _ _ _
    | with_reducible refine State.wr_within ?_ _ _ _ ?_
    | with_reducible refine State.beginInterval_within ?_ ?_ _ _
    | with_reducible refine State.release_within ?_ ?_ _
    | with_reducible refine State.combZero_within ?_ ?_ _ _
    | with_reducible refine State.storeStart_within ?_ ?_
    | with_reducible refine State.rtGranted_within ?_ ?_ _
    | with_reducible refine State.remapHold_within ?_ ?_ _ _
    | with_reducible refine State.swapGranted_within ?_ ?_ _
    | split
    | (with_reducible refine Within.of_eq (by with_reducible assumption) ?_))

theorem State.grantNext_within {M : Foot} (hM : Foot.Sub 0xe166196010000000000000000000000000000000000002000000008340800000440e27b4000000000200027f900000001e10000800089900000000000000000020204000000000000a880300000 M) {s₀ s : State} (h_s : Within M s₀ s)   :
    Within M s₀ (State.grantNext s) := by
  unfold State.grantNext
  repeat' (first
    | with_reducible assumption
    | (refine Foot.Sub.has hM ?_; decide)
    | (refine Foot.Sub.trans ?_ hM; decide)
    | (extract_lets +onlyGivenNames x; refine Within.cut (x := x) ?_ ?_; (on_goal 2 => (clear_value x; revert x; intro _ _)); (on_goal 1 => (unfold x; clear x)))
    | (extract_lets +onlyGivenNames x; refine Within.cut (x := x.1) ?_ ?_; (on_goal 2 => (clear_value x; revert x; intro _ _)); (on_goal 1 => (unfold x; clear x)))
    | (extract_lets +onlyGivenNames x; clear_value x; revert x; intro _)
    | with_reducible refine State.syncMnt_within ?_ ?_
    | with_reducible refine State.granted_within ?_ ?_ _
    | split
    | with_reducible refine Within.set_running ?_ _ ?_
    | with_reducible refine Within.set_waiting ?_ _ ?_
    | with_reducible refine Within.set_claims ?_ _ _ ?_ ?_
    | (with_reducible refine Within.of_eq (by with_reducible assumption) ?_))

theorem State.endSets_within {M : Foot} (hM : Foot.Sub 0xc00018681a00000000000000000000000000000000000200000000830000000010000000000000000100027f9000000000000000000898000000000000000000a80020200200000000000000000 M) {s₀ s : State} (h_s : Within M s₀ s) (d : Nat) (l : List Nat)  :
    Within M s₀ (State.endSets s d l) := by
  unfold State.endSets
  repeat' (first
    | with_reducible assumption
    | (refine Foot.Sub.has hM ?_; decide)
    | (refine Foot.Sub.trans ?_ hM; decide)
    | with_reducible refine State.endArm_within ?_ ?_ _ _ _
    | with_reducible refine Within.on ?_ fun _ _ => ?_
    | with_reducible refine Within.each ?_ fun _ _ _ => ?_
    | split
    | (with_reducible refine Within.of_eq (by with_reducible assumption) ?_)
    | (intro _))

theorem State.withdrawChannel_within {M : Foot} (hM : Foot.Sub 0xe3efbbe89e00000000000000000000000000000000000e000080008300000000940e0f90180000000100067ff00000001e63c000200899040000000000038068a8602020020000000a881300000 M) {s₀ s : State} (h_s : Within M s₀ s) (d : Nat) (c : Nat)  :
    Within M s₀ (State.withdrawChannel s d c) := by
  unfold State.withdrawChannel
  repeat' (first
    | with_reducible assumption
    | (refine Foot.Sub.has hM ?_; decide)
    | (refine Foot.Sub.trans ?_ hM; decide)
    | (split <;> (refine Foot.Sub.has hM ?_; decide))
    | (extract_lets +onlyGivenNames x; refine Within.cut (x := x) ?_ ?_; (on_goal 2 => (clear_value x; revert x; intro _ _)); (on_goal 1 => (unfold x; clear x)))
    | (extract_lets +onlyGivenNames x; refine Within.cut (x := x.1) ?_ ?_; (on_goal 2 => (clear_value x; revert x; intro _ _)); (on_goal 1 => (unfold x; clear x)))
    | (extract_lets +onlyGivenNames x; clear_value x; revert x; intro _)
    | with_reducible refine State.wr_within ?_ _ _ _ ?_
    | with_reducible refine State.endSets_within ?_ ?_ _ _
    | with_reducible refine State.accHalt_within ?_ ?_ _ _ _
    | with_reducible refine State.syncCard_within ?_ ?_
    | with_reducible refine State.combAbort_within ?_ ?_ _ _ _
    | with_reducible refine State.rtAbandon_within ?_ ?_ _
    | with_reducible refine State.withdrawWith_within ?_ ?_ _ _
    | with_reducible refine Within.on ?_ fun _ _ => ?_
    | with_reducible refine Within.ite ?_ ?_
    | with_reducible refine Within.ite_fst ?_ ?_
    | split
    | (with_reducible refine Within.of_eq (by with_reducible assumption) ?_)
    | (intro _))

theorem State.loseStack_within {M : Foot} (hM : Foot.Sub 0x8020000000000000000000000000000000000000000000000000000000000000000000000000000000000000000000000000000000000000000000000000000000000000000000000000 M) {s₀ s : State} (h_s : Within M s₀ s) (d : Nat) (h : Nat)  :
    Within M s₀ (State.loseStack s d h) := by
  unfold State.loseStack
  repeat' (first
    | with_reducible assumption
    | (refine Foot.Sub.has hM ?_; decide)
    | (refine Foot.Sub.trans ?_ hM; decide)
    | (extract_lets +onlyGivenNames x; refine Within.cut (x := x) ?_ ?_; (on_goal 2 => (clear_value x; revert x; intro _ _)); (on_goal 1 => (unfold x; clear x)))
    | (extract_lets +onlyGivenNames x; refine Within.cut (x := x.1) ?_ ?_; (on_goal 2 => (clear_value x; revert x; intro _ _)); (on_goal 1 => (unfold x; clear x)))
    | (extract_lets +onlyGivenNames x; clear_value x; revert x; intro _)
    | split
    | with_reducible refine Within.set_library ?_ _ ?_
    | with_reducible refine Within.set_memLibrary ?_ _ _ ?_ ?_
    | (with_reducible refine Within.of_eq (by with_reducible assumption) ?_))

theorem State.withdrawStack_within {M : Foot} (hM : Foot.Sub 0xe3efbbea9e00000000000000000000000000000000000e000080008300000000940e0f90180000000100067ff00000001e63c000200899040000000000038068a8602020020000000a881300000 M) {s₀ s : State} (h_s : Within M s₀ s) (d : Nat) (h : Nat)  :
    Within M s₀ (State.withdrawStack s d h) := by
  unfold State.withdrawStack
  repeat' (first
    | with_reducible assumption
    | (refine Foot.Sub.has hM ?_; decide)
    | (refine Foot.Sub.trans ?_ hM; decide)
    | (split <;> (refine Foot.Sub.has hM ?_; decide))
    | (extract_lets +onlyGivenNames x; refine Within.cut (x := x) ?_ ?_; (on_goal 2 => (clear_value x; revert x; intro _ _)); (on_goal 1 => (unfold x; clear x)))
    | (extract_lets +onlyGivenNames x; refine Within.cut (x := x.1) ?_ ?_; (on_goal 2 => (clear_value x; revert x; intro _ _)); (on_goal 1 => (unfold x; clear x)))
    | (extract_lets +onlyGivenNames x; clear_value x; revert x; intro _)
    | with_reducible refine State.wr_within ?_ _ _ _ ?_
    | with_reducible refine State.endSets_within ?_ ?_ _ _
    | with_reducible refine State.withdrawChannel_within ?_ ?_ _ _
    | with_reducible refine State.loseStack_within ?_ ?_ _ _
    | with_reducible refine Within.on ?_ fun _ _ => ?_
    | with_reducible refine Within.ite ?_ ?_
    | with_reducible refine Within.ite_fst ?_ ?_
    | split
    | with_reducible refine Within.set_pool ?_ _ ?_
    | (with_reducible refine Within.of_eq (by with_reducible assumption) ?_)
    | (intro _))

theorem State.withdrawPc_within {M : Foot} (hM : Foot.Sub 0xe3efbbea9e00000000000000000000000000000000000e000080008300000000940e0f90180000000100067ff00000001e63c000200899040000000000038068a870e020020000000a881300000 M) {s₀ s : State} (h_s : Within M s₀ s) (d : Nat) (h : Nat) (p : Nat)  :
    Within M s₀ (State.withdrawPc s d h p) := by
  unfold State.withdrawPc
  repeat' (first
    | with_reducible assumption
    | (refine Foot.Sub.has hM ?_; decide)
    | (refine Foot.Sub.trans ?_ hM; decide)
    | (extract_lets +onlyGivenNames x; refine Within.cut (x := x) ?_ ?_; (on_goal 2 => (clear_value x; revert x; intro _ _)); (on_goal 1 => (unfold x; clear x)))
    | (extract_lets +onlyGivenNames x; refine Within.cut (x := x.1) ?_ ?_; (on_goal 2 => (clear_value x; revert x; intro _ _)); (on_goal 1 => (unfold x; clear x)))
    | (extract_lets +onlyGivenNames x; clear_value x; revert x; intro _)
    | with_reducible refine State.wr_within ?_ _ _ _ ?_
    | with_reducible refine State.withdrawStack_within ?_ ?_ _ _
    | with_reducible refine State.gapRecord_within ?_ ?_ _ _ _ _ _ _ _
    | with_reducible refine State.endArm_within ?_ ?_ _ _ _
    | with_reducible refine State.loseStack_within ?_ ?_ _ _
    | with_reducible refine State.raise_within ?_ ?_ _ _ _
    | with_reducible refine Within.each ?_ fun _ _ _ => ?_
    | with_reducible refine Within.ite ?_ ?_
    | with_reducible refine Within.ite_fst ?_ ?_
    | split
    | (with_reducible refine Within.of_eq (by with_reducible assumption) ?_))

theorem State.withdrawDie_within {M : Foot} (hM : Foot.Sub 0xe3efbbe89e00000000000000000000000000000000000e000080008300000000940e0f901800000001000e7ff00004001e63c000200899040000000000038068a8602020020000000a881300000 M) {s₀ s : State} (h_s : Within M s₀ s) (d : Nat)  :
    Within M s₀ (State.withdrawDie s d) := by
  unfold State.withdrawDie
  repeat' (first
    | with_reducible assumption
    | (refine Foot.Sub.has hM ?_; decide)
    | (refine Foot.Sub.trans ?_ hM; decide)
    | (extract_lets +onlyGivenNames x; refine Within.cut (x := x) ?_ ?_; (on_goal 2 => (clear_value x; revert x; intro _ _)); (on_goal 1 => (unfold x; clear x)))
    | (extract_lets +onlyGivenNames x; refine Within.cut (x := x.1) ?_ ?_; (on_goal 2 => (clear_value x; revert x; intro _ _)); (on_goal 1 => (unfold x; clear x)))
    | (extract_lets +onlyGivenNames x; clear_value x; revert x; intro _)
    | with_reducible refine State.endSets_within ?_ ?_ _ _
    | with_reducible refine State.wr_within ?_ _ _ _ ?_
    | with_reducible refine State.accHalt_within ?_ ?_ _ _ _
    | with_reducible refine State.combAbort_within ?_ ?_ _ _ _
    | with_reducible refine State.syncCard_within ?_ ?_
    | with_reducible refine State.rtAbandon_within ?_ ?_ _
    | with_reducible refine Within.each ?_ fun _ _ _ => ?_
    | split
    | (with_reducible refine Within.of_eq (by with_reducible assumption) ?_))

theorem State.withdrawQueues_within {M : Foot} (hM : Foot.Sub 0xc00018e01000000000000000000000000000000000000200000000830800000000000000000000000000027f900000000000000000089c000000000000000001080000000000000000000000000 M) {s₀ s : State} (h_s : Within M s₀ s) (d : Nat) (b : Nat)  :
    Within M s₀ (State.withdrawQueues s d b) := by
  unfold State.withdrawQueues
  repeat' (first
    | with_reducible assumption
    | (refine Foot.Sub.has hM ?_; decide)
    | (refine Foot.Sub.trans ?_ hM; decide)
    | (extract_lets +onlyGivenNames x; refine Within.cut (x := x) ?_ ?_; (on_goal 2 => (clear_value x; revert x; intro _ _)); (on_goal 1 => (unfold x; clear x)))
    | (extract_lets +onlyGivenNames x; refine Within.cut (x := x.1) ?_ ?_; (on_goal 2 => (clear_value x; revert x; intro _ _)); (on_goal 1 => (unfold x; clear x)))
    | (extract_lets +onlyGivenNames x; clear_value x; revert x; intro _)
    | with_reducible refine State.queDrop_within ?_ ?_ _ _
    | with_reducible refine State.wr_within ?_ _ _ _ ?_
    | with_reducible refine Within.on ?_ fun _ _ => ?_
    | with_reducible refine Within.each ?_ fun _ _ _ => ?_
    | with_reducible refine Within.ite ?_ ?_
    | with_reducible refine Within.ite_fst ?_ ?_
    | split
    | (with_reducible refine Within.of_eq (by with_reducible assumption) ?_)
    | (intro _))

theorem State.withdrawUnit_within {M : Foot} (hM : Foot.Sub 0xe3ffbbea9e00000000000000000000000000000000000e00008000831c000000960e0f901801001e41000e7ff00004001ee3c00020089d840000000000038069a870e020020100000a881300000 M) {s₀ s : State} (h_s : Within M s₀ s) (u : Nat)  :
    Within M s₀ (State.withdrawUnit s u) := by
  unfold State.withdrawUnit
  repeat' (first
    | with_reducible assumption
    | (refine Foot.Sub.has hM ?_; decide)
    | (refine Foot.Sub.trans ?_ hM; decide)
    | (extract_lets +onlyGivenNames x; refine Within.cut (x := x) ?_ ?_; (on_goal 2 => (clear_value x; revert x; intro _ _)); (on_goal 1 => (unfold x; clear x)))
    | (extract_lets +onlyGivenNames x; refine Within.cut (x := x.1) ?_ ?_; (on_goal 2 => (clear_value x; revert x; intro _ _)); (on_goal 1 => (unfold x; clear x)))
    | (extract_lets +onlyGivenNames x; clear_value x; revert x; intro _)
    | with_reducible refine State.wr_within ?_ _ _ _ ?_
    | with_reducible refine State.withdrawChannel_within ?_ ?_ _ _
    | with_reducible refine State.withdrawPc_within ?_ ?_ _ _ _
    | with_reducible refine State.syncLanes_within ?_ ?_ _
    | with_reducible refine State.accHalt_within ?_ ?_ _ _ _
    | with_reducible refine State.withdrawQueues_within ?_ ?_ _ _
    | with_reducible refine State.withdrawStack_within ?_ ?_ _ _
    | with_reducible refine State.withdrawDie_within ?_ ?_ _
    | with_reducible refine Within.on ?_ fun _ _ => ?_
    | with_reducible refine Within.ite ?_ ?_
    | with_reducible refine Within.ite_fst ?_ ?_
    | split
    | (with_reducible refine Within.of_eq (by with_reducible assumption) ?_)
    | (intro _))

theorem State.retire_within {M : Foot} (hM : Foot.Sub 0xe3ffbbea9e00000000000000000000000000000000000e00008000831c000000960e0f901801001e41000e7ff00004001ee3c00820089d840000000000038069a870e020020100000a881300000 M) {s₀ s : State} (h_s : Within M s₀ s) (u : Nat)  :
    Within M s₀ (State.retire s u) := by
  unfold State.retire
  repeat' (first
    | with_reducible assumption
    | (refine Foot.Sub.has hM ?_; decide)
    | (refine Foot.Sub.trans ?_ hM; decide)
    | (split <;> (refine Foot.Sub.has hM ?_; decide))
    | (extract_lets +onlyGivenNames x; refine Within.cut (x := x) ?_ ?_; (on_goal 2 => (clear_value x; revert x; intro _ _)); (on_goal 1 => (unfold x; clear x)))
    | (extract_lets +onlyGivenNames x; refine Within.cut (x := x.1) ?_ ?_; (on_goal 2 => (clear_value x; revert x; intro _ _)); (on_goal 1 => (unfold x; clear x)))
    | (extract_lets +onlyGivenNames x; clear_value x; revert x; intro _)
    | with_reducible refine State.withdrawUnit_within ?_ ?_ _
    | with_reducible refine State.bobState_within ?_ ?_ _ _
    | with_reducible refine State.syncDomains_within ?_ ?_
    | with_reducible refine State.raise_within ?_ ?_ _ _ _
    | with_reducible refine State.storeAsk_within ?_ ?_
    | with_reducible refine Within.ite ?_ ?_
    | with_reducible refine Within.ite_fst ?_ ?_
    | split
    | with_reducible refine Within.set_retiring ?_ _ ?_
    | (with_reducible refine Within.of_eq (by with_reducible assumption) ?_))

theorem State.laneLoss_within {M : Foot} (hM : Foot.Sub 0xc19fbb6000000000000000000000000000000000000002000080008380800000860008800001001e4000067f900000001ff3c008200899040000000000008000002000000001000000081200000 M) {s₀ s : State} (h_s : Within M s₀ s) (d : Nat) (l : Nat)  :
    Within M s₀ (State.laneLoss s d l) := by
  unfold State.laneLoss
  repeat' (first
    | with_reducible assumption
    | (refine Foot.Sub.has hM ?_; decide)
    | (refine Foot.Sub.trans ?_ hM; decide)
    | with_reducible refine State.wr_within ?_ _ _ _ ?_
    | with_reducible refine State.syncLanes_within ?_ ?_ _
    | with_reducible refine State.bobPut_within ?_ ?_ _ _ _
    | with_reducible refine State.spareUsed_within ?_ ?_ _ _ _
    | with_reducible refine State.becomesLost_within ?_ ?_ _ _
    | with_reducible refine Within.ite ?_ ?_
    | with_reducible refine Within.ite_fst ?_ ?_
    | split
    | (with_reducible refine Within.of_eq (by with_reducible assumption) ?_))

theorem State.laneCheck_within {M : Foot} (hM : Foot.Sub 0xe1e7b96010000000000000000000000000000000000002000080008340800000440e2fb4000000000200067f900000001e13c00800089904000000000000800020204000000000000a880300000 M) {s₀ s : State} (h_s : Within M s₀ s) (d : Nat) (l : Nat)  :
    Within M s₀ (State.laneCheck s d l) := by
  unfold State.laneCheck
  repeat' (first
    | with_reducible assumption
    | (refine Foot.Sub.has hM ?_; decide)
    | (refine Foot.Sub.trans ?_ hM; decide)
    | (extract_lets +onlyGivenNames x; refine Within.cut (x := x) ?_ ?_; (on_goal 2 => (clear_value x; revert x; intro _ _)); (on_goal 1 => (unfold x; clear x)))
    | (extract_lets +onlyGivenNames x; refine Within.cut (x := x.1) ?_ ?_; (on_goal 2 => (clear_value x; revert x; intro _ _)); (on_goal 1 => (unfold x; clear x)))
    | (extract_lets +onlyGivenNames x; clear_value x; revert x; intro _)
    | with_reducible refine State.harvest_within ?_ ?_ _ _ _ _ _ _ _
    | with_reducible refine State.granted_within ?_ ?_ _
    | with_reducible refine State.claim_within ?_ ?_ _
    | with_reducible refine State.wr_within ?_ _ _ _ ?_
    | with_reducible refine Within.on ?_ fun _ _ => ?_
    | with_reducible refine Within.ite ?_ ?_
    | with_reducible refine Within.ite_fst ?_ ?_
    | split
    | (with_reducible refine Within.of_eq (by with_reducible assumption) ?_)
    | (intro _))

theorem State.retrainDone_within {M : Foot} (hM : Foot.Sub 0xc1ffb96000000000000000000000000000000000000002000080008300000000020008800001001e4000067f900000001db3c000000898040000000000008000000000000001000008080200000 M) {s₀ s : State} (h_s : Within M s₀ s) (d : Nat) (l : Nat) (margin : Nat)  :
    Within M s₀ (State.retrainDone s d l margin) := by
  unfold State.retrainDone
  repeat' (first
    | with_reducible assumption
    | (refine Foot.Sub.has hM ?_; decide)
    | (refine Foot.Sub.trans ?_ hM; decide)
    | (split <;> (refine Foot.Sub.has hM ?_; decide))
    | (extract_lets +onlyGivenNames x; refine Within.cut (x := x) ?_ ?_; (on_goal 2 => (clear_value x; revert x; intro _ _)); (on_goal 1 => (unfold x; clear x)))
    | (extract_lets +onlyGivenNames x; refine Within.cut (x := x.1) ?_ ?_; (on_goal 2 => (clear_value x; revert x; intro _ _)); (on_goal 1 => (unfold x; clear x)))
    | (extract_lets +onlyGivenNames x; clear_value x; revert x; intro _)
    | with_reducible refine State.wr_within ?_ _ _ _ ?_
    | with_reducible refine State.release_within ?_ ?_ _
    | with_reducible refine State.bobPut_within ?_ ?_ _ _ _
    | with_reducible refine State.raise_within ?_ ?_ _ _ _
    | with_reducible refine State.syncLanes_within ?_ ?_ _
    | with_reducible refine State.spareUsed_within ?_ ?_ _ _ _
    | with_reducible refine State.storeAsk_within ?_ ?_
    | with_reducible refine Within.ite ?_ ?_
    | with_reducible refine Within.ite_fst ?_ ?_
    | split
    | (with_reducible refine Within.of_eq (by with_reducible assumption) ?_))

theorem State.laneTrained_within {M : Foot} (hM : Foot.Sub 0xc1ffbb6000000000000000000000000000000000000002000080008380800000860008800001001e4000067f900000001ff3c008200899040000000000008000002000000001000008080200000 M) {s₀ s : State} (h_s : Within M s₀ s) (d : Nat) (l : Nat) (margin : Nat)  :
    Within M s₀ (State.laneTrained s d l margin) := by
  unfold State.laneTrained
  repeat' (first
    | with_reducible assumption
    | (refine Foot.Sub.has hM ?_; decide)
    | (refine Foot.Sub.trans ?_ hM; decide)
    | (extract_lets +onlyGivenNames x; refine Within.cut (x := x) ?_ ?_; (on_goal 2 => (clear_value x; revert x; intro _ _)); (on_goal 1 => (unfold x; clear x)))
    | (extract_lets +onlyGivenNames x; refine Within.cut (x := x.1) ?_ ?_; (on_goal 2 => (clear_value x; revert x; intro _ _)); (on_goal 1 => (unfold x; clear x)))
    | (extract_lets +onlyGivenNames x; clear_value x; revert x; intro _)
    | with_reducible refine State.wr_within ?_ _ _ _ ?_
    | with_reducible refine State.syncLanes_within ?_ ?_ _
    | with_reducible refine State.bobState_within ?_ ?_ _ _
    | with_reducible refine State.rtOver_within ?_ ?_ _ _ _
    | with_reducible refine State.rtRequest_within ?_ ?_ _ _ _ _
    | with_reducible refine State.retireSoon_within ?_ ?_ _
    | with_reducible refine State.rtReplaced_within ?_ ?_ _ _ _
    | with_reducible refine Within.on ?_ fun _ _ => ?_
    | with_reducible refine Within.ite ?_ ?_
    | with_reducible refine Within.ite_fst ?_ ?_
    | split
    | (with_reducible refine Within.of_eq (by with_reducible assumption) ?_)
    | (intro _))

theorem State.laneDone_within {M : Foot} (hM : Foot.Sub 0xc1ffbb6000000000000000000000000000000000000002000080008380800000860008800001001e4000067f900000001ff3c008200899040000000000008000002000000001000008080200000 M) {s₀ s : State} (h_s : Within M s₀ s) (d : Nat) (l : Nat) (margin : Nat)  :
    Within M s₀ (State.laneDone s d l margin) := by
  unfold State.laneDone
  repeat' (first
    | with_reducible assumption
    | (refine Foot.Sub.has hM ?_; decide)
    | (refine Foot.Sub.trans ?_ hM; decide)
    | with_reducible refine State.retrainDone_within ?_ ?_ _ _ _
    | with_reducible refine State.laneTrained_within ?_ ?_ _ _ _
    | with_reducible refine Within.ite ?_ ?_
    | with_reducible refine Within.ite_fst ?_ ?_
    | split
    | (with_reducible refine Within.of_eq (by with_reducible assumption) ?_))

theorem State.cmpSwapDone_within {M : Foot} (hM : Foot.Sub 0xe1efbb60000000000000000000000000000000000000020000f3fc8300700000840e0880000000000000067f900000001c53c0442008998c0000000000008000000000000000000008080700000 M) {s₀ s : State} (h_s : Within M s₀ s) (d : Nat) (u : Nat) (agrees : Bool)  :
    Within M s₀ (State.cmpSwapDone s d u agrees) := by
  unfold State.cmpSwapDone
  repeat' (first
    | with_reducible assumption
    | (refine Foot.Sub.has hM ?_; decide)
    | (refine Foot.Sub.trans ?_ hM; decide)
    | (extract_lets +onlyGivenNames x; refine Within.cut (x := x) ?_ ?_; (on_goal 2 => (clear_value x; revert x; intro _ _)); (on_goal 1 => (unfold x; clear x)))
    | (extract_lets +onlyGivenNames x; refine Within.cut (x := x.1) ?_ ?_; (on_goal 2 => (clear_value x; revert x; intro _ _)); (on_goal 1 => (unfold x; clear x)))
    | (extract_lets +onlyGivenNames x; clear_value x; revert x; intro _)
    | with_reducible refine State.setCmpSpare_within ?_ ?_ _ _ _ _
    | with_reducible refine State.rtReplaced_within ?_ ?_ _ _ _
    | with_reducible refine State.cmpStart_within ?_ ?_ _ _
    | with_reducible refine State.rtFails_within ?_ ?_ _ _ _
    | with_reducible refine Within.ite ?_ ?_
    | with_reducible refine Within.ite_fst ?_ ?_
    | split
    | (with_reducible refine Within.of_eq (by with_reducible assumption) ?_))

theorem State.cmpDaily_within {M : Foot} (hM : Foot.Sub 0xc19fbb6000000000000000000000000000000000000002000080008380800000860008800001001e4000067f900000001ff3c008200899040000000000008000002000000001000000081200000 M) {s₀ s : State} (h_s : Within M s₀ s) (d : Nat) (u : Nat) (steps : Nat) (switches : Bool)  :
    Within M s₀ (State.cmpDaily s d u steps switches) := by
  unfold State.cmpDaily
  repeat' (first
    | with_reducible assumption
    | (refine Foot.Sub.has hM ?_; decide)
    | (refine Foot.Sub.trans ?_ hM; decide)
    | with_reducible refine State.becomesLost_within ?_ ?_ _ _
    | with_reducible refine State.becomesWorn_within ?_ ?_ _ _
    | with_reducible refine Within.ite ?_ ?_
    | with_reducible refine Within.ite_fst ?_ ?_
    | split
    | (with_reducible refine Within.of_eq (by with_reducible assumption) ?_))

theorem State.sramDone_within {M : Foot} (hM : Foot.Sub 0xc1efbb600000000000000000000000000000000000000200008000830000000084000880000000000000067f900000001e53c000200898040000000000008000000000000000000008080200000 M) {s₀ s : State} (h_s : Within M s₀ s) (d : Nat)  :
    Within M s₀ (State.sramDone s d) := by
  unfold State.sramDone
  repeat' (first
    | with_reducible assumption
    | (refine Foot.Sub.has hM ?_; decide)
    | (refine Foot.Sub.trans ?_ hM; decide)
    | (extract_lets +onlyGivenNames x; refine Within.cut (x := x) ?_ ?_; (on_goal 2 => (clear_value x; revert x; intro _ _)); (on_goal 1 => (unfold x; clear x)))
    | (extract_lets +onlyGivenNames x; refine Within.cut (x := x.1) ?_ ?_; (on_goal 2 => (clear_value x; revert x; intro _ _)); (on_goal 1 => (unfold x; clear x)))
    | (extract_lets +onlyGivenNames x; clear_value x; revert x; intro _)
    | with_reducible refine State.wr_within ?_ _ _ _ ?_
    | with_reducible refine State.rtReplaced_within ?_ ?_ _ _ _
    | with_reducible refine Within.ite ?_ ?_
    | with_reducible refine Within.ite_fst ?_ ?_
    | split
    | (with_reducible refine Within.of_eq (by with_reducible assumption) ?_))

theorem State.pcCopied_within {M : Foot} (hM : Foot.Sub 0xc00618600000000000000000000000000000000000000200000000830080000000000000000000000000027f900000001c400000000898000000000000000000000000000000000000000000000 M) {s₀ s : State} (h_s : Within M s₀ s) (d : Nat) (h : Nat)  :
    Within M s₀ (State.pcCopied s d h) := by
  unfold State.pcCopied
  repeat' (first
    | with_reducible assumption
    | (refine Foot.Sub.has hM ?_; decide)
    | (refine Foot.Sub.trans ?_ hM; decide)
    | (extract_lets +onlyGivenNames x; refine Within.cut (x := x) ?_ ?_; (on_goal 2 => (clear_value x; revert x; intro _ _)); (on_goal 1 => (unfold x; clear x)))
    | (extract_lets +onlyGivenNames x; refine Within.cut (x := x.1) ?_ ?_; (on_goal 2 => (clear_value x; revert x; intro _ _)); (on_goal 1 => (unfold x; clear x)))
    | (extract_lets +onlyGivenNames x; clear_value x; revert x; intro _)
    | with_reducible refine State.release_within ?_ ?_ _
    | with_reducible refine State.wr_within ?_ _ _ _ ?_
    | with_reducible refine State.raise_within ?_ ?_ _ _ _
    | with_reducible refine Within.ite ?_ ?_
    | with_reducible refine Within.ite_fst ?_ ?_
    | split
    | (with_reducible refine Within.of_eq (by with_reducible assumption) ?_))

theorem State.scrubWord_within {M : Foot} (hM : Foot.Sub 0xc00018601a00000000000000000000000000000000000200000000830100000000000000000000000100027f9000000000000000000898000000000000000000884b00000000000000000000000 M) {s₀ s : State} (h_s : Within M s₀ s) (d : Nat) (h : Nat) (w : ReadWord)  :
    Within M s₀ (State.scrubWord s d h w) := by
  unfold State.scrubWord
  repeat' (first
    | with_reducible assumption
    | (refine Foot.Sub.has hM ?_; decide)
    | (refine Foot.Sub.trans ?_ hM; decide)
    | (extract_lets +onlyGivenNames x; refine Within.cut (x := x) ?_ ?_; (on_goal 2 => (clear_value x; revert x; intro _ _)); (on_goal 1 => (unfold x; clear x)))
    | (extract_lets +onlyGivenNames x; refine Within.cut (x := x.1) ?_ ?_; (on_goal 2 => (clear_value x; revert x; intro _ _)); (on_goal 1 => (unfold x; clear x)))
    | (extract_lets +onlyGivenNames x; clear_value x; revert x; intro _)
    | with_reducible refine State.foundBad_within ?_ ?_ _ _ _
    | with_reducible refine State.noteCorrected_within ?_ ?_ _ _ _ _
    | with_reducible refine State.count_within ?_ ?_ _ _ _ ?_
    | with_reducible refine State.incSat_within ?_ _ _ ?_
    | with_reducible refine Within.on ?_ fun _ _ => ?_
    | with_reducible refine Within.ite ?_ ?_
    | with_reducible refine Within.ite_fst ?_ ?_
    | split
    | (with_reducible refine Within.of_eq (by with_reducible assumption) ?_)
    | (intro _))

theorem State.scrubGrant_within {M : Foot} (hM : Foot.Sub 0xc00618601a00000000000000000000000000000000000200000000830300000000000000000000000100027f900000001c000000000898000000000000000000884f00000000000000000000000 M) {s₀ s : State} (h_s : Within M s₀ s) (d : Nat) (h : Nat) (n : Nat) (words : List ReadWord)  :
    Within M s₀ (State.scrubGrant s d h n words) := by
  unfold State.scrubGrant
  repeat' (first
    | with_reducible assumption
    | (refine Foot.Sub.has hM ?_; decide)
    | (refine Foot.Sub.trans ?_ hM; decide)
    | (extract_lets +onlyGivenNames x; refine Within.cut (x := x) ?_ ?_; (on_goal 2 => (clear_value x; revert x; intro _ _)); (on_goal 1 => (unfold x; clear x)))
    | (extract_lets +onlyGivenNames x; refine Within.cut (x := x.1) ?_ ?_; (on_goal 2 => (clear_value x; revert x; intro _ _)); (on_goal 1 => (unfold x; clear x)))
    | (extract_lets +onlyGivenNames x; clear_value x; revert x; intro _)
    | with_reducible refine State.claim_within ?_ ?_ _
    | with_reducible refine State.scrubWord_within ?_ ?_ _ _ _
    | with_reducible refine State.release_within ?_ ?_ _
    | with_reducible refine State.wr_within ?_ _ _ _ ?_
    | with_reducible refine State.incSat_within ?_ _ _ ?_
    | with_reducible refine State.raise_within ?_ ?_ _ _ _
    | with_reducible refine Within.each ?_ fun _ _ _ => ?_
    | with_reducible refine Within.ite ?_ ?_
    | with_reducible refine Within.ite_fst ?_ ?_
    | split
    | (with_reducible refine Within.of_eq (by with_reducible assumption) ?_))

end Sys2Proof.Machine
end

