-- ==== Sys2Proof/Laws/TimeOpsWithin.lean ====
section
/-!
SUPPORT. What each operation of Machine/TimeOps.lean may change (`Within`), and that it keeps the state sound.
-/

namespace Sys2Proof.Machine

set_option linter.all false

theorem State.ovenReady_within {M : Foot} (hM : Foot.Sub 0xc00018600000000000000000000000000000000000000200000000830000002000000000000000000000027f9000000000000000000898000000000000000000000000000000000000000000001 M) {s₀ s : State} (h_s : Within M s₀ s)   :
    Within M s₀ (State.ovenReady s) := by
  unfold State.ovenReady
  repeat' (first
    | with_reducible assumption
    | (refine Foot.Sub.has hM ?_; decide)
    | (refine Foot.Sub.trans ?_ hM; decide)
    | with_reducible refine State.wr_within ?_ _ _ _ ?_
    | with_reducible refine State.raisePkg_within ?_ ?_ _ _
    | with_reducible refine Within.ite ?_ ?_
    | with_reducible refine Within.ite_fst ?_ ?_
    | split
    | (with_reducible refine Within.of_eq (by with_reducible assumption) ?_))

theorem State.warmUp_within {M : Foot} (hM : Foot.Sub 0xc00018600000000000000000000000000000000000000200000000830000000000000000000000000000027f9000000000000000000898000000000000000000000000000000000000000000001 M) {s₀ s : State} (h_s : Within M s₀ s)   :
    Within M s₀ (State.warmUp s) := by
  unfold State.warmUp
  repeat' (first
    | with_reducible assumption
    | (refine Foot.Sub.has hM ?_; decide)
    | (refine Foot.Sub.trans ?_ hM; decide)
    | with_reducible refine State.wr_within ?_ _ _ _ ?_
    | with_reducible refine State.raisePkg_within ?_ ?_ _ _
    | with_reducible refine Within.on ?_ fun _ _ => ?_
    | split
    | (with_reducible refine Within.of_eq (by with_reducible assumption) ?_)
    | (intro _))

theorem State.syncAligned_within {M : Foot} (hM : Foot.Sub 0xc00018600000000000000000000000000000000000020200000000830000000000000000000000000000027f9000000200000000000898000000000000000000000000000000000000000000000 M) {s₀ s : State} (h_s : Within M s₀ s)   :
    Within M s₀ (State.syncAligned s) := by
  unfold State.syncAligned
  repeat' (first
    | with_reducible assumption
    | (refine Foot.Sub.has hM ?_; decide)
    | (refine Foot.Sub.trans ?_ hM; decide)
    | (extract_lets +onlyGivenNames x; refine Within.cut (x := x) ?_ ?_; (on_goal 2 => (clear_value x; revert x; intro _ _)); (on_goal 1 => (unfold x; clear x)))
    | (extract_lets +onlyGivenNames x; refine Within.cut (x := x.1) ?_ ?_; (on_goal 2 => (clear_value x; revert x; intro _ _)); (on_goal 1 => (unfold x; clear x)))
    | (extract_lets +onlyGivenNames x; clear_value x; revert x; intro _)
    | with_reducible refine State.wrBool_within ?_ _ _ _ ?_
    | with_reducible refine State.raisePkg_within ?_ ?_ _ _
    | with_reducible refine State.wr_within ?_ _ _ _ ?_
    | with_reducible refine Within.on ?_ fun _ _ => ?_
    | with_reducible refine Within.ite ?_ ?_
    | with_reducible refine Within.ite_fst ?_ ?_
    | split
    | (with_reducible refine Within.of_eq (by with_reducible assumption) ?_)
    | (intro _))

theorem State.setRef_within {M : Foot} (hM : Foot.Sub 0xc00018600000000000000000000000000000000000020200000000830000000000000000000000000000027f9000000200000000000898000000000000000000000000000000000000000000001 M) {s₀ s : State} (h_s : Within M s₀ s) (st : Nat)  :
    Within M s₀ (State.setRef s st) := by
  unfold State.setRef
  repeat' (first
    | with_reducible assumption
    | (refine Foot.Sub.has hM ?_; decide)
    | (refine Foot.Sub.trans ?_ hM; decide)
    | with_reducible refine State.wr_within ?_ _ _ _ ?_
    | with_reducible refine State.raisePkg_within ?_ ?_ _ _
    | with_reducible refine State.syncAligned_within ?_ ?_
    | with_reducible refine Within.ite ?_ ?_
    | with_reducible refine Within.ite_fst ?_ ?_
    | split
    | (with_reducible refine Within.of_eq (by with_reducible assumption) ?_))

theorem State.noteErr_within {M : Foot} (hM : Foot.Sub 0xc00018600000000000000000000000000000000000000200000000830000000c00000000000000000000027f9000000000000000000898000000000000000000000000000000000000000000005 M) {s₀ s : State} (h_s : Within M s₀ s) (err : Int)  :
    Within M s₀ (State.noteErr s err) := by
  unfold State.noteErr
  repeat' (first
    | with_reducible assumption
    | (refine Foot.Sub.has hM ?_; decide)
    | (refine Foot.Sub.trans ?_ hM; decide)
    | (extract_lets +onlyGivenNames x; refine Within.cut (x := x) ?_ ?_; (on_goal 2 => (clear_value x; revert x; intro _ _)); (on_goal 1 => (unfold x; clear x)))
    | (extract_lets +onlyGivenNames x; refine Within.cut (x := x.1) ?_ ?_; (on_goal 2 => (clear_value x; revert x; intro _ _)); (on_goal 1 => (unfold x; clear x)))
    | (extract_lets +onlyGivenNames x; clear_value x; revert x; intro _)
    | with_reducible refine State.wr_within ?_ _ _ _ ?_
    | with_reducible refine State.raisePkg_within ?_ ?_ _ _
    | with_reducible refine Within.on ?_ fun _ _ => ?_
    | with_reducible refine Within.ite ?_ ?_
    | with_reducible refine Within.ite_fst ?_ ?_
    | split
    | (with_reducible refine Within.of_eq (by with_reducible assumption) ?_)
    | (intro _))

theorem State.refSlew_within {M : Foot} (hM : Foot.Sub 0xc00018601000000000000000000000000000000000000200000000830000000000000000400000000000027f9000000000000000000898000000000000000001480000000000000000000000001 M) {s₀ s : State} (h_s : Within M s₀ s)   :
    Within M s₀ (State.refSlew s) := by
  unfold State.refSlew
  repeat' (first
    | with_reducible assumption
    | (refine Foot.Sub.has hM ?_; decide)
    | (refine Foot.Sub.trans ?_ hM; decide)
    | (split <;> (refine Foot.Sub.has hM ?_; decide))
    | (extract_lets +onlyGivenNames x; refine Within.cut (x := x) ?_ ?_; (on_goal 2 => (clear_value x; revert x; intro _ _)); (on_goal 1 => (unfold x; clear x)))
    | (extract_lets +onlyGivenNames x; refine Within.cut (x := x.1) ?_ ?_; (on_goal 2 => (clear_value x; revert x; intro _ _)); (on_goal 1 => (unfold x; clear x)))
    | (extract_lets +onlyGivenNames x; clear_value x; revert x; intro _)
    | with_reducible refine State.wr_within ?_ _ _ _ ?_
    | with_reducible refine State.mark_within ?_ ?_ _ _ _ _ _ _ _
    | with_reducible refine Within.each ?_ fun _ _ _ => ?_
    | with_reducible refine Within.ite ?_ ?_
    | with_reducible refine Within.ite_fst ?_ ?_
    | split
    | (with_reducible refine Within.of_eq (by with_reducible assumption) ?_))

theorem State.refJudge_within {M : Foot} (hM : Foot.Sub 0xc00018601000000000000000000000000000000000020200000000830000000c00000000400000000000027f9000000200000000000898000000000000000001480000000000000000000000005 M) {s₀ s : State} (h_s : Within M s₀ s) (err : Int)  :
    Within M s₀ (State.refJudge s err) := by
  unfold State.refJudge
  repeat' (first
    | with_reducible assumption
    | (refine Foot.Sub.has hM ?_; decide)
    | (refine Foot.Sub.trans ?_ hM; decide)
    | (extract_lets +onlyGivenNames x; refine Within.cut (x := x) ?_ ?_; (on_goal 2 => (clear_value x; revert x; intro _ _)); (on_goal 1 => (unfold x; clear x)))
    | (extract_lets +onlyGivenNames x; refine Within.cut (x := x.1) ?_ ?_; (on_goal 2 => (clear_value x; revert x; intro _ _)); (on_goal 1 => (unfold x; clear x)))
    | (extract_lets +onlyGivenNames x; clear_value x; revert x; intro _)
    | with_reducible refine State.noteErr_within ?_ ?_ _
    | with_reducible refine State.raisePkg_within ?_ ?_ _ _
    | with_reducible refine State.refSlew_within ?_ ?_
    | with_reducible refine State.wr_within ?_ _ _ _ ?_
    | with_reducible refine State.setRef_within ?_ ?_ _
    | with_reducible refine Within.ite ?_ ?_
    | with_reducible refine Within.ite_fst ?_ ?_
    | split
    | (with_reducible refine Within.of_eq (by with_reducible assumption) ?_))

theorem State.refEnter_within {M : Foot} (hM : Foot.Sub 0xc00018601000000000000000000000000000000000020200000000830000000d00000000400000000000027f9000000200000000000898000000000000000001480000000000000000000000005 M) {s₀ s : State} (h_s : Within M s₀ s) (edge : Instant)  :
    Within M s₀ (State.refEnter s edge) := by
  unfold State.refEnter
  repeat' (first
    | with_reducible assumption
    | (refine Foot.Sub.has hM ?_; decide)
    | (refine Foot.Sub.trans ?_ hM; decide)
    | (extract_lets +onlyGivenNames x; refine Within.cut (x := x) ?_ ?_; (on_goal 2 => (clear_value x; revert x; intro _ _)); (on_goal 1 => (unfold x; clear x)))
    | (extract_lets +onlyGivenNames x; refine Within.cut (x := x.1) ?_ ?_; (on_goal 2 => (clear_value x; revert x; intro _ _)); (on_goal 1 => (unfold x; clear x)))
    | (extract_lets +onlyGivenNames x; clear_value x; revert x; intro _)
    | with_reducible refine State.wr_within ?_ _ _ _ ?_
    | with_reducible refine State.noteErr_within ?_ ?_ _
    | with_reducible refine State.setRef_within ?_ ?_ _
    | with_reducible refine State.refJudge_within ?_ ?_ _
    | split
    | (with_reducible refine Within.of_eq (by with_reducible assumption) ?_))

theorem State.refQualified_within {M : Foot} (hM : Foot.Sub 0xc00018601000000000000000000000000000000000020200000000830000000f00000000400000000000027f9000000200000000000898000000000000000001480000000000000000000000005 M) {s₀ s : State} (h_s : Within M s₀ s) (edge : Instant)  :
    Within M s₀ (State.refQualified s edge) := by
  unfold State.refQualified
  repeat' (first
    | with_reducible assumption
    | (refine Foot.Sub.has hM ?_; decide)
    | (refine Foot.Sub.trans ?_ hM; decide)
    | (extract_lets +onlyGivenNames x; refine Within.cut (x := x) ?_ ?_; (on_goal 2 => (clear_value x; revert x; intro _ _)); (on_goal 1 => (unfold x; clear x)))
    | (extract_lets +onlyGivenNames x; refine Within.cut (x := x.1) ?_ ?_; (on_goal 2 => (clear_value x; revert x; intro _ _)); (on_goal 1 => (unfold x; clear x)))
    | (extract_lets +onlyGivenNames x; clear_value x; revert x; intro _)
    | with_reducible refine State.wr_within ?_ _ _ _ ?_
    | with_reducible refine State.refEnter_within ?_ ?_ _
    | with_reducible refine Within.on ?_ fun _ _ => ?_
    | with_reducible refine Within.ite ?_ ?_
    | with_reducible refine Within.ite_fst ?_ ?_
    | split
    | (with_reducible refine Within.of_eq (by with_reducible assumption) ?_)
    | (intro _))

theorem State.refWinter_within {M : Foot} (hM : Foot.Sub 0xc00018600000000000000000000000000000000000020200000000830000000400000000000000000000027f9000000200000000000898000000000000000000000000000000000000000000001 M) {s₀ s : State} (h_s : Within M s₀ s)   :
    Within M s₀ (State.refWinter s) := by
  unfold State.refWinter
  repeat' (first
    | with_reducible assumption
    | (refine Foot.Sub.has hM ?_; decide)
    | (refine Foot.Sub.trans ?_ hM; decide)
    | with_reducible refine State.wr_within ?_ _ _ _ ?_
    | with_reducible refine State.setRef_within ?_ ?_ _
    | with_reducible refine Within.ite ?_ ?_
    | with_reducible refine Within.ite_fst ?_ ?_
    | split
    | (with_reducible refine Within.of_eq (by with_reducible assumption) ?_))

theorem State.refLost_within {M : Foot} (hM : Foot.Sub 0xc00018600000000000000000000000000000000000030200000000830000000400000000000000000000027f9000000200000000000898000000000000000000000000000000000000000000001 M) {s₀ s : State} (h_s : Within M s₀ s)   :
    Within M s₀ (State.refLost s) := by
  unfold State.refLost
  repeat' (first
    | with_reducible assumption
    | (refine Foot.Sub.has hM ?_; decide)
    | (refine Foot.Sub.trans ?_ hM; decide)
    | (extract_lets +onlyGivenNames x; refine Within.cut (x := x) ?_ ?_; (on_goal 2 => (clear_value x; revert x; intro _ _)); (on_goal 1 => (unfold x; clear x)))
    | (extract_lets +onlyGivenNames x; refine Within.cut (x := x.1) ?_ ?_; (on_goal 2 => (clear_value x; revert x; intro _ _)); (on_goal 1 => (unfold x; clear x)))
    | (extract_lets +onlyGivenNames x; clear_value x; revert x; intro _)
    | with_reducible refine State.wr_within ?_ _ _ _ ?_
    | with_reducible refine State.refWinter_within ?_ ?_
    | with_reducible refine Within.ite ?_ ?_
    | with_reducible refine Within.ite_fst ?_ ?_
    | split
    | (with_reducible refine Within.of_eq (by with_reducible assumption) ?_))

theorem State.refOff_within {M : Foot} (hM : Foot.Sub 0xc00018600000000000000000000000000000000000020200000000830000000500000000000000000000027f9000000200000000000898000000000000000000000000000000000000000000001 M) {s₀ s : State} (h_s : Within M s₀ s)   :
    Within M s₀ (State.refOff s) := by
  unfold State.refOff
  repeat' (first
    | with_reducible assumption
    | (refine Foot.Sub.has hM ?_; decide)
    | (refine Foot.Sub.trans ?_ hM; decide)
    | with_reducible refine State.wr_within ?_ _ _ _ ?_
    | with_reducible refine State.setRef_within ?_ ?_ _
    | split
    | (with_reducible refine Within.of_eq (by with_reducible assumption) ?_))

theorem State.refResume_within {M : Foot} (hM : Foot.Sub 0xc00018601000000000000000000000000000000000020200000000830000000000000000400000000000027f9000000200000000000898000000000000000001480000000000000000000000001 M) {s₀ s : State} (h_s : Within M s₀ s) (how : Nat)  :
    Within M s₀ (State.refResume s how).1 := by
  unfold State.refResume
  repeat' (first
    | with_reducible assumption
    | (refine Foot.Sub.has hM ?_; decide)
    | (refine Foot.Sub.trans ?_ hM; decide)
    | (extract_lets +onlyGivenNames x; refine Within.cut (x := x) ?_ ?_; (on_goal 2 => (clear_value x; revert x; intro _ _)); (on_goal 1 => (unfold x; clear x)))
    | (extract_lets +onlyGivenNames x; refine Within.cut (x := x.1) ?_ ?_; (on_goal 2 => (clear_value x; revert x; intro _ _)); (on_goal 1 => (unfold x; clear x)))
    | (extract_lets +onlyGivenNames x; clear_value x; revert x; intro _)
    | with_reducible refine State.wr_within ?_ _ _ _ ?_
    | with_reducible refine State.setRef_within ?_ ?_ _
    | with_reducible refine State.raisePkg_within ?_ ?_ _ _
    | with_reducible refine State.refSlew_within ?_ ?_
    | with_reducible refine Within.ite ?_ ?_
    | with_reducible refine Within.ite_fst ?_ ?_
    | split
    | (with_reducible refine Within.of_eq (by with_reducible assumption) ?_))

theorem State.writeRefCtrl_within {M : Foot} (hM : Foot.Sub 0xc00018601000000000000000000000000000000000020200000000830000000d00000000400000000000027f9000000200000000000898000000000000000001480000000000000000000000007 M) {s₀ s : State} (h_s : Within M s₀ s) (v : Nat)  :
    Within M s₀ (State.writeRefCtrl v s).1 := by
  unfold State.writeRefCtrl
  repeat' (first
    | with_reducible assumption
    | (refine Foot.Sub.has hM ?_; decide)
    | (refine Foot.Sub.trans ?_ hM; decide)
    | (extract_lets +onlyGivenNames x; refine Within.cut (x := x) ?_ ?_; (on_goal 2 => (clear_value x; revert x; intro _ _)); (on_goal 1 => (unfold x; clear x)))
    | (extract_lets +onlyGivenNames x; refine Within.cut (x := x.1) ?_ ?_; (on_goal 2 => (clear_value x; revert x; intro _ _)); (on_goal 1 => (unfold x; clear x)))
    | (extract_lets +onlyGivenNames x; clear_value x; revert x; intro _)
    | with_reducible refine State.wr_within ?_ _ _ _ ?_
    | with_reducible refine State.refResume_within ?_ ?_ _
    | with_reducible refine State.refOff_within ?_ ?_
    | with_reducible refine State.refEnter_within ?_ ?_ _
    | with_reducible refine Within.on ?_ fun _ _ => ?_
    | with_reducible refine Within.ite ?_ ?_
    | with_reducible refine Within.ite_fst ?_ ?_
    | split
    | (with_reducible refine Within.of_eq (by with_reducible assumption) ?_)
    | (intro _))

theorem State.refMeasure_within {M : Foot} (hM : Foot.Sub 0xc00018600000000000000000000000000000000000000200000000830000000e00000000000000000000027f9000000000000000000898000000000000000000000000000000000000000000005 M) {s₀ s : State} (h_s : Within M s₀ s) (edge : Instant)  :
    Within M s₀ (State.refMeasure s edge) := by
  unfold State.refMeasure
  repeat' (first
    | with_reducible assumption
    | (refine Foot.Sub.has hM ?_; decide)
    | (refine Foot.Sub.trans ?_ hM; decide)
    | with_reducible refine State.wr_within ?_ _ _ _ ?_
    | with_reducible refine State.noteErr_within ?_ ?_ _
    | with_reducible refine Within.ite ?_ ?_
    | with_reducible refine Within.ite_fst ?_ ?_
    | split
    | (with_reducible refine Within.of_eq (by with_reducible assumption) ?_))

theorem State.pullUpdate_within {M : Foot} (hM : Foot.Sub 0xc00018600000000000000000000000000000000000000200000000830000001e00000000c00000000000027f900000000000000000089800000000000000000000000000000000000000000000d M) {s₀ s : State} (h_s : Within M s₀ s) (edge : Option Instant)  :
    Within M s₀ (State.pullUpdate s edge) := by
  unfold State.pullUpdate
  repeat' (first
    | with_reducible assumption
    | (refine Foot.Sub.has hM ?_; decide)
    | (refine Foot.Sub.trans ?_ hM; decide)
    | (extract_lets +onlyGivenNames x; refine Within.cut (x := x) ?_ ?_; (on_goal 2 => (clear_value x; revert x; intro _ _)); (on_goal 1 => (unfold x; clear x)))
    | (extract_lets +onlyGivenNames x; refine Within.cut (x := x.1) ?_ ?_; (on_goal 2 => (clear_value x; revert x; intro _ _)); (on_goal 1 => (unfold x; clear x)))
    | (extract_lets +onlyGivenNames x; clear_value x; revert x; intro _)
    | with_reducible refine State.wr_within ?_ _ _ _ ?_
    | with_reducible refine State.refMeasure_within ?_ ?_ _
    | with_reducible refine State.wrFree_within ?_ _ _ ?_
    | with_reducible refine Within.on ?_ fun _ _ => ?_
    | with_reducible refine Within.ite ?_ ?_
    | with_reducible refine Within.ite_fst ?_ ?_
    | split
    | (with_reducible refine Within.of_eq (by with_reducible assumption) ?_)
    | (intro _))

theorem State.ovenSave_within {M : Foot} (hM : Foot.Sub 0xc1e7b9600000000000000000000000000000000000000200008000830000000000000881000000000000067f900000001c03c000000898040000000000008000000000000000000008080000000 M) {s₀ s : State} (h_s : Within M s₀ s)   :
    Within M s₀ (State.ovenSave s) := by
  unfold State.ovenSave
  repeat' (first
    | with_reducible assumption
    | (refine Foot.Sub.has hM ?_; decide)
    | (refine Foot.Sub.trans ?_ hM; decide)
    | with_reducible refine State.wr_within ?_ _ _ _ ?_
    | with_reducible refine State.storeAsk_within ?_ ?_
    | with_reducible refine Within.on ?_ fun _ _ => ?_
    | split
    | (with_reducible refine Within.of_eq (by with_reducible assumption) ?_)
    | (intro _))

theorem State.thawLock_within {M : Foot} (hM : Foot.Sub 0xc00018600000000000000000000000000000000000020200000000830000000000000000000000000000027f9000000200000000000898000000000000000000000000000000000000000000001 M) {s₀ s : State} (h_s : Within M s₀ s)   :
    Within M s₀ (State.thawLock s) := by
  unfold State.thawLock
  repeat' (first
    | with_reducible assumption
    | (refine Foot.Sub.has hM ?_; decide)
    | (refine Foot.Sub.trans ?_ hM; decide)
    | with_reducible refine State.setRef_within ?_ ?_ _
    | with_reducible refine Within.on ?_ fun _ _ => ?_
    | split
    | (with_reducible refine Within.of_eq (by with_reducible assumption) ?_)
    | (intro _))

theorem State.slewDone_within {M : Foot} (hM : Foot.Sub 0xc00018600000000000000000000000000000000000000200000000830000000e00000000000000000000027f9000000000000000000898000000000000000000000000000000000000000000005 M) {s₀ s : State} (h_s : Within M s₀ s) (edge : Instant)  :
    Within M s₀ (State.slewDone s edge) := by
  unfold State.slewDone
  repeat' (first
    | with_reducible assumption
    | (refine Foot.Sub.has hM ?_; decide)
    | (refine Foot.Sub.trans ?_ hM; decide)
    | with_reducible refine State.refMeasure_within ?_ ?_ _
    | with_reducible refine Within.on ?_ fun _ _ => ?_
    | split
    | (with_reducible refine Within.of_eq (by with_reducible assumption) ?_)
    | (intro _))

theorem State.refitGo_within {M : Foot} (hM : Foot.Sub 0xc00618600000000000000000000000000000000000000200000000830000000000000004000000000000027f900000001c000000000898000000000000000000000000000000000000000000000 M) {s₀ s : State} (h_s : Within M s₀ s)   :
    Within M s₀ (State.refitGo s) := by
  unfold State.refitGo
  repeat' (first
    | with_reducible assumption
    | (refine Foot.Sub.has hM ?_; decide)
    | (refine Foot.Sub.trans ?_ hM; decide)
    | (extract_lets +onlyGivenNames x; refine Within.cut (x := x) ?_ ?_; (on_goal 2 => (clear_value x; revert x; intro _ _)); (on_goal 1 => (unfold x; clear x)))
    | (extract_lets +onlyGivenNames x; refine Within.cut (x := x.1) ?_ ?_; (on_goal 2 => (clear_value x; revert x; intro _ _)); (on_goal 1 => (unfold x; clear x)))
    | (extract_lets +onlyGivenNames x; clear_value x; revert x; intro _)
    | with_reducible refine State.claim_within ?_ ?_ _
    | with_reducible refine State.wr_within ?_ _ _ _ ?_
    | with_reducible refine Within.on ?_ fun _ _ => ?_
    | split
    | (with_reducible refine Within.of_eq (by with_reducible assumption) ?_)
    | (intro _))

theorem State.refitRequest_within {M : Foot} (hM : Foot.Sub 0xe1e7b96010000000000000000000000000000000000002000080008340800000440e2fb4000000000200067f900000001e13c00800089904000000000000800020204000000000000a880300000 M) {s₀ s : State} (h_s : Within M s₀ s)   :
    Within M s₀ (State.refitRequest s).1 := by
  unfold State.refitRequest
  repeat' (first
    | with_reducible assumption
    | (refine Foot.Sub.has hM ?_; decide)
    | (refine Foot.Sub.trans ?_ hM; decide)
    | (split <;> (refine Foot.Sub.has hM ?_; decide))
    | (extract_lets +onlyGivenNames x; refine Within.cut (x := x) ?_ ?_; (on_goal 2 => (clear_value x; revert x; intro _ _)); (on_goal 1 => (unfold x; clear x)))
    | (extract_lets +onlyGivenNames x; refine Within.cut (x := x.1) ?_ ?_; (on_goal 2 => (clear_value x; revert x; intro _ _)); (on_goal 1 => (unfold x; clear x)))
    | (extract_lets +onlyGivenNames x; clear_value x; revert x; intro _)
    | with_reducible refine State.raisePkg_within ?_ ?_ _ _
    | with_reducible refine State.harvest_within ?_ ?_ _ _ _ _ _ _ _
    | with_reducible refine State.granted_within ?_ ?_ _
    | with_reducible refine State.refitGo_within ?_ ?_
    | with_reducible refine Within.ite ?_ ?_
    | with_reducible refine Within.ite_fst ?_ ?_
    | split
    | (with_reducible refine Within.of_eq (by with_reducible assumption) ?_))

theorem State.refitPoint_within {M : Foot} (hM : Foot.Sub 0x800000000200000000000000000000000000000000000000000000000000000000000000000000000000000000000 M) {s₀ s : State} (h_s : Within M s₀ s) (offset : Int)  :
    Within M s₀ (State.refitPoint s offset) := by
  unfold State.refitPoint
  repeat' (first
    | with_reducible assumption
    | (refine Foot.Sub.has hM ?_; decide)
    | (refine Foot.Sub.trans ?_ hM; decide)
    | (extract_lets +onlyGivenNames x; refine Within.cut (x := x) ?_ ?_; (on_goal 2 => (clear_value x; revert x; intro _ _)); (on_goal 1 => (unfold x; clear x)))
    | (extract_lets +onlyGivenNames x; refine Within.cut (x := x.1) ?_ ?_; (on_goal 2 => (clear_value x; revert x; intro _ _)); (on_goal 1 => (unfold x; clear x)))
    | (extract_lets +onlyGivenNames x; clear_value x; revert x; intro _)
    | with_reducible refine State.wr_within ?_ _ _ _ ?_
    | with_reducible refine Within.each ?_ fun _ _ _ => ?_
    | with_reducible refine Within.ite ?_ ?_
    | with_reducible refine Within.ite_fst ?_ ?_
    | split
    | (with_reducible refine Within.of_eq (by with_reducible assumption) ?_))

theorem State.takeFit_within {M : Foot} (hM : Foot.Sub 0x18000000000000000000000000000000000000000000000000000000000000000000000000000000000000000000000 M) {s₀ s : State} (h_s : Within M s₀ s) (fit : Option (Int × Int))  :
    Within M s₀ (State.takeFit s fit) := by
  unfold State.takeFit
  repeat' (first
    | with_reducible assumption
    | (refine Foot.Sub.has hM ?_; decide)
    | (refine Foot.Sub.trans ?_ hM; decide)
    | (extract_lets +onlyGivenNames x; refine Within.cut (x := x) ?_ ?_; (on_goal 2 => (clear_value x; revert x; intro _ _)); (on_goal 1 => (unfold x; clear x)))
    | (extract_lets +onlyGivenNames x; refine Within.cut (x := x.1) ?_ ?_; (on_goal 2 => (clear_value x; revert x; intro _ _)); (on_goal 1 => (unfold x; clear x)))
    | (extract_lets +onlyGivenNames x; clear_value x; revert x; intro _)
    | with_reducible refine State.wr_within ?_ _ _ _ ?_
    | with_reducible refine State.wrFree_within ?_ _ _ ?_
    | split
    | (with_reducible refine Within.of_eq (by with_reducible assumption) ?_))

theorem State.refitEnd_within {M : Foot} (hM : Foot.Sub 0xc1e7b9600000000000000000000000000000000000000200008000830000188000000882000000000000067f900000001c03c000000898040000000000008000000000000000000008080000000 M) {s₀ s : State} (h_s : Within M s₀ s) (offset : Int)  :
    Within M s₀ (State.refitEnd s offset) := by
  unfold State.refitEnd
  repeat' (first
    | with_reducible assumption
    | (refine Foot.Sub.has hM ?_; decide)
    | (refine Foot.Sub.trans ?_ hM; decide)
    | with_reducible refine State.takeFit_within ?_ ?_ _
    | with_reducible refine State.refitPoint_within ?_ ?_ _
    | with_reducible refine State.release_within ?_ ?_ _
    | with_reducible refine State.storeAsk_within ?_ ?_
    | with_reducible refine State.raisePkg_within ?_ ?_ _ _
    | with_reducible refine Within.ite ?_ ?_
    | with_reducible refine Within.ite_fst ?_ ?_
    | split
    | (with_reducible refine Within.of_eq (by with_reducible assumption) ?_))

theorem State.setLock_within {M : Foot} (hM : Foot.Sub 0xe00018600000000000000000000000000000000000000200000000830000000000000000000000000000027f9000000000000000000898000000000000000000000000000000000000000000100 M) {s₀ s : State} (h_s : Within M s₀ s) (d : Nat) (v : Nat)  :
    Within M s₀ (State.setLock s d v) := by
  unfold State.setLock
  repeat' (first
    | with_reducible assumption
    | (refine Foot.Sub.has hM ?_; decide)
    | (refine Foot.Sub.trans ?_ hM; decide)
    | (extract_lets +onlyGivenNames x; refine Within.cut (x := x) ?_ ?_; (on_goal 2 => (clear_value x; revert x; intro _ _)); (on_goal 1 => (unfold x; clear x)))
    | (extract_lets +onlyGivenNames x; refine Within.cut (x := x.1) ?_ ?_; (on_goal 2 => (clear_value x; revert x; intro _ _)); (on_goal 1 => (unfold x; clear x)))
    | (extract_lets +onlyGivenNames x; clear_value x; revert x; intro _)
    | with_reducible refine State.closeSpan_within ?_ ?_ _ _ _ _
    | with_reducible refine State.openSpan_within ?_ ?_ _ _ _ _
    | with_reducible refine State.wr_within ?_ _ _ _ ?_
    | with_reducible refine State.raise_within ?_ ?_ _ _ _
    | with_reducible refine Within.ite ?_ ?_
    | with_reducible refine Within.ite_fst ?_ ?_
    | split
    | (with_reducible refine Within.of_eq (by with_reducible assumption) ?_))

theorem State.coastOver_within {M : Foot} (hM : Foot.Sub 0x20000000000000000000000000000000000000000000000000000000000000000000000000000000000000000000000000000000000000000000000000000000000000000000000000000000000 M) {s₀ s : State} (h_s : Within M s₀ s) (d : Nat)  :
    Within M s₀ (State.coastOver s d) := by
  unfold State.coastOver
  repeat' (first
    | with_reducible assumption
    | (refine Foot.Sub.has hM ?_; decide)
    | (refine Foot.Sub.trans ?_ hM; decide)
    | with_reducible refine State.closeSpan_within ?_ ?_ _ _ _ _
    | split
    | (with_reducible refine Within.of_eq (by with_reducible assumption) ?_))

theorem State.synLoss_within {M : Foot} (hM : Foot.Sub 0xe00018600000000000000000000000000000000000000200000000830000010000000000000000000000027f9000000000000000000898000000000000000000000000000000000000000000100 M) {s₀ s : State} (h_s : Within M s₀ s) (d : Nat)  :
    Within M s₀ (State.synLoss s d) := by
  unfold State.synLoss
  repeat' (first
    | with_reducible assumption
    | (refine Foot.Sub.has hM ?_; decide)
    | (refine Foot.Sub.trans ?_ hM; decide)
    | (extract_lets +onlyGivenNames x; refine Within.cut (x := x) ?_ ?_; (on_goal 2 => (clear_value x; revert x; intro _ _)); (on_goal 1 => (unfold x; clear x)))
    | (extract_lets +onlyGivenNames x; refine Within.cut (x := x.1) ?_ ?_; (on_goal 2 => (clear_value x; revert x; intro _ _)); (on_goal 1 => (unfold x; clear x)))
    | (extract_lets +onlyGivenNames x; clear_value x; revert x; intro _)
    | with_reducible refine State.openSpan_within ?_ ?_ _ _ _ _
    | with_reducible refine State.clkFrom_within ?_ ?_ _
    | with_reducible refine State.wr_within ?_ _ _ _ ?_
    | with_reducible refine State.setLock_within ?_ ?_ _ _
    | with_reducible refine Within.on ?_ fun _ _ => ?_
    | split
    | (with_reducible refine Within.of_eq (by with_reducible assumption) ?_)
    | (intro _))

theorem State.synDrift_within {M : Foot} (hM : Foot.Sub 0xe00018681a00000000000000000000000000000000000200000000830000000010000000000000000100027f9000000000000000000898000000000000000000a80020200200000000000000300 M) {s₀ s : State} (h_s : Within M s₀ s) (d : Nat) (drift : Int)  :
    Within M s₀ (State.synDrift s d drift) := by
  unfold State.synDrift
  repeat' (first
    | with_reducible assumption
    | (refine Foot.Sub.has hM ?_; decide)
    | (refine Foot.Sub.trans ?_ hM; decide)
    | (extract_lets +onlyGivenNames x; refine Within.cut (x := x) ?_ ?_; (on_goal 2 => (clear_value x; revert x; intro _ _)); (on_goal 1 => (unfold x; clear x)))
    | (extract_lets +onlyGivenNames x; refine Within.cut (x := x.1) ?_ ?_; (on_goal 2 => (clear_value x; revert x; intro _ _)); (on_goal 1 => (unfold x; clear x)))
    | (extract_lets +onlyGivenNames x; clear_value x; revert x; intro _)
    | with_reducible refine State.wr_within ?_ _ _ _ ?_
    | with_reducible refine State.coastOver_within ?_ ?_ _
    | with_reducible refine State.setLock_within ?_ ?_ _ _
    | with_reducible refine State.endArm_within ?_ ?_ _ _ _
    | with_reducible refine Within.on ?_ fun _ _ => ?_
    | with_reducible refine Within.each ?_ fun _ _ _ => ?_
    | with_reducible refine Within.ite ?_ ?_
    | with_reducible refine Within.ite_fst ?_ ?_
    | split
    | (with_reducible refine Within.of_eq (by with_reducible assumption) ?_)
    | (intro _))

theorem State.synRelock_within {M : Foot} (hM : Foot.Sub 0xe00018600000000000000000000000000000000000000200000000830000000000000000000000000000027f9000000000000000000898000000000000000000000000000000000000000000100 M) {s₀ s : State} (h_s : Within M s₀ s) (d : Nat)  :
    Within M s₀ (State.synRelock s d) := by
  unfold State.synRelock
  repeat' (first
    | with_reducible assumption
    | (refine Foot.Sub.has hM ?_; decide)
    | (refine Foot.Sub.trans ?_ hM; decide)
    | (extract_lets +onlyGivenNames x; refine Within.cut (x := x) ?_ ?_; (on_goal 2 => (clear_value x; revert x; intro _ _)); (on_goal 1 => (unfold x; clear x)))
    | (extract_lets +onlyGivenNames x; refine Within.cut (x := x.1) ?_ ?_; (on_goal 2 => (clear_value x; revert x; intro _ _)); (on_goal 1 => (unfold x; clear x)))
    | (extract_lets +onlyGivenNames x; clear_value x; revert x; intro _)
    | with_reducible refine State.coastOver_within ?_ ?_ _
    | with_reducible refine State.setLock_within ?_ ?_ _ _
    | with_reducible refine Within.on ?_ fun _ _ => ?_
    | split
    | (with_reducible refine Within.of_eq (by with_reducible assumption) ?_)
    | (intro _))

theorem State.synLock_within {M : Foot} (hM : Foot.Sub 0xe4001860000000000000000000000000000000000000020000000083000401000000000000000000001c727f9000000000000000000898000000000000000000000000000000024800000000300 M) {s₀ s : State} (h_s : Within M s₀ s) (d : Nat)  :
    Within M s₀ (State.synLock s d) := by
  unfold State.synLock
  repeat' (first
    | with_reducible assumption
    | (refine Foot.Sub.has hM ?_; decide)
    | (refine Foot.Sub.trans ?_ hM; decide)
    | (extract_lets +onlyGivenNames x; refine Within.cut (x := x) ?_ ?_; (on_goal 2 => (clear_value x; revert x; intro _ _)); (on_goal 1 => (unfold x; clear x)))
    | (extract_lets +onlyGivenNames x; refine Within.cut (x := x.1) ?_ ?_; (on_goal 2 => (clear_value x; revert x; intro _ _)); (on_goal 1 => (unfold x; clear x)))
    | (extract_lets +onlyGivenNames x; clear_value x; revert x; intro _)
    | with_reducible refine State.clkFrom_within ?_ ?_ _
    | with_reducible refine State.wr_within ?_ _ _ _ ?_
    | with_reducible refine State.setLock_within ?_ ?_ _ _
    | with_reducible refine State.rebase_within ?_ ?_ ?_ _ _
    | with_reducible refine State.restartCond_within ?_ ?_ _ _
    | with_reducible refine Within.on ?_ fun _ _ => ?_
    | with_reducible refine Within.each ?_ fun _ _ _ => ?_
    | split
    | (with_reducible refine Within.of_eq (by with_reducible assumption) ?_)
    | (intro _))

theorem State.synLocked_within {M : Foot} (hM : Foot.Sub 0xe4001860000000000000000000000000000000000000020000000083000401000000000000000000001c727f9000000000000000000898000000000000000000000000000000024800000000300 M) {s₀ s : State} (h_s : Within M s₀ s) (d : Nat)  :
    Within M s₀ (State.synLocked s d) := by
  unfold State.synLocked
  repeat' (first
    | with_reducible assumption
    | (refine Foot.Sub.has hM ?_; decide)
    | (refine Foot.Sub.trans ?_ hM; decide)
    | with_reducible refine State.synLock_within ?_ ?_ _
    | with_reducible refine Within.on ?_ fun _ _ => ?_
    | split
    | (with_reducible refine Within.of_eq (by with_reducible assumption) ?_)
    | (intro _))

theorem State.synFail_within {M : Foot} (hM : Foot.Sub 0x100000000000000000000000000000000000000000000000000000000400000200000000000000000000000000000000000000000000000000000000000000000000000000000000000000000 M) {s₀ s : State} (h_s : Within M s₀ s) (d : Nat)  :
    Within M s₀ (State.synFail s d) := by
  unfold State.synFail
  repeat' (first
    | with_reducible assumption
    | (refine Foot.Sub.has hM ?_; decide)
    | (refine Foot.Sub.trans ?_ hM; decide)
    | (extract_lets +onlyGivenNames x; refine Within.cut (x := x) ?_ ?_; (on_goal 2 => (clear_value x; revert x; intro _ _)); (on_goal 1 => (unfold x; clear x)))
    | (extract_lets +onlyGivenNames x; refine Within.cut (x := x.1) ?_ ?_; (on_goal 2 => (clear_value x; revert x; intro _ _)); (on_goal 1 => (unfold x; clear x)))
    | (extract_lets +onlyGivenNames x; clear_value x; revert x; intro _)
    | with_reducible refine State.wr_within ?_ _ _ _ ?_
    | with_reducible refine State.retireSoon_within ?_ ?_ _
    | with_reducible refine Within.ite ?_ ?_
    | with_reducible refine Within.ite_fst ?_ ?_
    | split
    | (with_reducible refine Within.of_eq (by with_reducible assumption) ?_))

theorem State.setOffset_within {M : Foot} (hM : Foot.Sub 0x400 M) {s₀ s : State} (h_s : Within M s₀ s) (d : Nat) (off : Int)  :
    Within M s₀ (State.setOffset s d off) := by
  unfold State.setOffset
  repeat' (first
    | with_reducible assumption
    | (refine Foot.Sub.has hM ?_; decide)
    | (refine Foot.Sub.trans ?_ hM; decide)
    | with_reducible refine State.wr_within ?_ _ _ _ ?_
    | split
    | (with_reducible refine Within.of_eq (by with_reducible assumption) ?_))

theorem State.rampStart_within {M : Foot} (hM : Foot.Sub 0x40000000000000000000000000000000000000000000000000000000000182000000000000000000000000000000000000000000000000000000000000000000000000000000000000000002100 M) {s₀ s : State} (h_s : Within M s₀ s) (d : Nat)  :
    Within M s₀ (State.rampStart s d).1 := by
  unfold State.rampStart
  repeat' (first
    | with_reducible assumption
    | (refine Foot.Sub.has hM ?_; decide)
    | (refine Foot.Sub.trans ?_ hM; decide)
    | (extract_lets +onlyGivenNames x; refine Within.cut (x := x) ?_ ?_; (on_goal 2 => (clear_value x; revert x; intro _ _)); (on_goal 1 => (unfold x; clear x)))
    | (extract_lets +onlyGivenNames x; refine Within.cut (x := x.1) ?_ ?_; (on_goal 2 => (clear_value x; revert x; intro _ _)); (on_goal 1 => (unfold x; clear x)))
    | (extract_lets +onlyGivenNames x; clear_value x; revert x; intro _)
    | with_reducible refine State.flag_within ?_ ?_ _ _ ?_
    | with_reducible refine State.wr_within ?_ _ _ _ ?_
    | with_reducible refine Within.each ?_ fun _ _ _ => ?_
    | with_reducible refine Within.ite ?_ ?_
    | with_reducible refine Within.ite_fst ?_ ?_
    | split
    | (with_reducible refine Within.of_eq (by with_reducible assumption) ?_))

theorem State.rampAbort_within {M : Foot} (hM : Foot.Sub 0xc00018600000000000000000000000000000000000000200000000830000000000000000000000000000027f9000000000000000000898000000000000000000000000000000000000000000500 M) {s₀ s : State} (h_s : Within M s₀ s) (d : Nat)  :
    Within M s₀ (State.rampAbort s d) := by
  unfold State.rampAbort
  repeat' (first
    | with_reducible assumption
    | (refine Foot.Sub.has hM ?_; decide)
    | (refine Foot.Sub.trans ?_ hM; decide)
    | (extract_lets +onlyGivenNames x; refine Within.cut (x := x) ?_ ?_; (on_goal 2 => (clear_value x; revert x; intro _ _)); (on_goal 1 => (unfold x; clear x)))
    | (extract_lets +onlyGivenNames x; refine Within.cut (x := x.1) ?_ ?_; (on_goal 2 => (clear_value x; revert x; intro _ _)); (on_goal 1 => (unfold x; clear x)))
    | (extract_lets +onlyGivenNames x; clear_value x; revert x; intro _)
    | with_reducible refine State.setOffset_within ?_ ?_ _ _
    | with_reducible refine State.wr_within ?_ _ _ _ ?_
    | with_reducible refine State.raise_within ?_ ?_ _ _ _
    | with_reducible refine Within.on ?_ fun _ _ => ?_
    | split
    | (with_reducible refine Within.of_eq (by with_reducible assumption) ?_)
    | (intro _))

theorem State.aliasProbe_within {M : Foot} (hM : Foot.Sub 0xc00018e00000000000000000000000000000000000000e00000000830000000000000000000000000000027f9000000000000000200898000000000000000000000000000000000000000002000 M) {s₀ s : State} (h_s : Within M s₀ s) (d : Nat) (c : Nat) (peaks : List (Nat × Nat))  :
    Within M s₀ (State.aliasProbe s d c peaks) := by
  unfold State.aliasProbe
  repeat' (first
    | with_reducible assumption
    | (refine Foot.Sub.has hM ?_; decide)
    | (refine Foot.Sub.trans ?_ hM; decide)
    | (extract_lets +onlyGivenNames x; refine Within.cut (x := x) ?_ ?_; (on_goal 2 => (clear_value x; revert x; intro _ _)); (on_goal 1 => (unfold x; clear x)))
    | (extract_lets +onlyGivenNames x; refine Within.cut (x := x.1) ?_ ?_; (on_goal 2 => (clear_value x; revert x; intro _ _)); (on_goal 1 => (unfold x; clear x)))
    | (extract_lets +onlyGivenNames x; clear_value x; revert x; intro _)
    | with_reducible refine State.take_within ?_ ?_ _ _
    | with_reducible refine State.wr_within ?_ _ _ _ ?_
    | with_reducible refine State.wrBool_within ?_ _ _ _ ?_
    | with_reducible refine State.raise_within ?_ ?_ _ _ _
    | with_reducible refine Within.on ?_ fun _ _ => ?_
    | with_reducible refine Within.ite ?_ ?_
    | with_reducible refine Within.ite_fst ?_ ?_
    | split
    | (with_reducible refine Within.of_eq (by with_reducible assumption) ?_)
    | (intro _))

theorem State.rampSegment_within {M : Foot} (hM : Foot.Sub 0xc00018e00000000000000000000000000000000000000e00000000830000820000000000000000000000027f9000000000000000200898000000000000000000000000000000000000000002500 M) {s₀ s : State} (h_s : Within M s₀ s) (d : Nat) (peaks : List (List (Nat × Nat)))  :
    Within M s₀ (State.rampSegment s d peaks) := by
  unfold State.rampSegment
  repeat' (first
    | with_reducible assumption
    | (refine Foot.Sub.has hM ?_; decide)
    | (refine Foot.Sub.trans ?_ hM; decide)
    | (extract_lets +onlyGivenNames x; refine Within.cut (x := x) ?_ ?_; (on_goal 2 => (clear_value x; revert x; intro _ _)); (on_goal 1 => (unfold x; clear x)))
    | (extract_lets +onlyGivenNames x; refine Within.cut (x := x.1) ?_ ?_; (on_goal 2 => (clear_value x; revert x; intro _ _)); (on_goal 1 => (unfold x; clear x)))
    | (extract_lets +onlyGivenNames x; have _h : (_ : _) → _ := x; clear _h; subst x)
    | with_reducible refine State.setOffset_within ?_ ?_ _ _
    | with_reducible refine State.aliasProbe_within ?_ ?_ _ _ _
    | with_reducible refine State.wr_within ?_ _ _ _ ?_
    | with_reducible refine State.raise_within ?_ ?_ _ _ _
    | with_reducible refine Within.each ?_ fun _ _ _ => ?_
    | with_reducible refine Within.ite ?_ ?_
    | with_reducible refine Within.ite_fst ?_ ?_
    | split
    | (with_reducible refine Within.of_eq (by with_reducible assumption) ?_))

theorem State.writeSynCtrl_within {M : Foot} (hM : Foot.Sub 0xe00018600000000000000000000000000000000000000200000000830001820000000000000000000000027f9000000000000000000898000000000000000000000000000000000000000002580 M) {s₀ s : State} (h_s : Within M s₀ s) (d : Nat) (v : Nat)  :
    Within M s₀ (State.writeSynCtrl d v s).1 := by
  unfold State.writeSynCtrl
  repeat' (first
    | with_reducible assumption
    | (refine Foot.Sub.has hM ?_; decide)
    | (refine Foot.Sub.trans ?_ hM; decide)
    | (extract_lets +onlyGivenNames x; refine Within.cut (x := x) ?_ ?_; (on_goal 2 => (clear_value x; revert x; intro _ _)); (on_goal 1 => (unfold x; clear x)))
    | (extract_lets +onlyGivenNames x; refine Within.cut (x := x.1) ?_ ?_; (on_goal 2 => (clear_value x; revert x; intro _ _)); (on_goal 1 => (unfold x; clear x)))
    | (extract_lets +onlyGivenNames x; clear_value x; revert x; intro _)
    | with_reducible refine State.flag_within ?_ ?_ _ _ ?_
    | with_reducible refine State.wr_within ?_ _ _ _ ?_
    | with_reducible refine State.setOffset_within ?_ ?_ _ _
    | with_reducible refine State.coastOver_within ?_ ?_ _
    | with_reducible refine State.setLock_within ?_ ?_ _ _
    | with_reducible refine State.rampStart_within ?_ ?_ _
    | with_reducible refine State.rampAbort_within ?_ ?_ _
    | with_reducible refine Within.on ?_ fun _ _ => ?_
    | with_reducible refine Within.ite ?_ ?_
    | with_reducible refine Within.ite_fst ?_ ?_
    | split
    | (with_reducible refine Within.of_eq (by with_reducible assumption) ?_)
    | (intro _))

theorem State.writeRamp_within {M : Foot} {s₀ s : State} (h_s : Within M s₀ s) (d : Nat) (f : Fld) (k : Nat) (v : Nat) (h_f : M.testBit f.reg.ctorIdx = true) :
    Within M s₀ (State.writeRamp d f k v s) := by
  unfold State.writeRamp
  repeat' (first
    | with_reducible assumption
    | with_reducible refine State.wr_within ?_ _ _ _ ?_
    | with_reducible refine Within.on ?_ fun _ _ => ?_
    | split
    | (with_reducible refine Within.of_eq (by with_reducible assumption) ?_)
    | (intro _))

theorem State.writeAuxCtrl_within {M : Foot} (hM : Foot.Sub 0x4000 M) {s₀ s : State} (h_s : Within M s₀ s) (d : Nat) (v : Nat)  :
    Within M s₀ (State.writeAuxCtrl d v s).1 := by
  unfold State.writeAuxCtrl
  repeat' (first
    | with_reducible assumption
    | (refine Foot.Sub.has hM ?_; decide)
    | (refine Foot.Sub.trans ?_ hM; decide)
    | (extract_lets +onlyGivenNames x; refine Within.cut (x := x) ?_ ?_; (on_goal 2 => (clear_value x; revert x; intro _ _)); (on_goal 1 => (unfold x; clear x)))
    | (extract_lets +onlyGivenNames x; refine Within.cut (x := x.1) ?_ ?_; (on_goal 2 => (clear_value x; revert x; intro _ _)); (on_goal 1 => (unfold x; clear x)))
    | (extract_lets +onlyGivenNames x; clear_value x; revert x; intro _)
    | with_reducible refine State.wr_within ?_ _ _ _ ?_
    | with_reducible refine Within.ite ?_ ?_
    | with_reducible refine Within.ite_fst ?_ ?_
    | split
    | (with_reducible refine Within.of_eq (by with_reducible assumption) ?_))

theorem State.auxLost_within {M : Foot} (hM : Foot.Sub 0xc00018600000000000000000000000000000000000000200000000830002000000000000000000000000027f9000000000000000000898000000000000000000000000000000000000000008000 M) {s₀ s : State} (h_s : Within M s₀ s) (d : Nat)  :
    Within M s₀ (State.auxLost s d) := by
  unfold State.auxLost
  repeat' (first
    | with_reducible assumption
    | (refine Foot.Sub.has hM ?_; decide)
    | (refine Foot.Sub.trans ?_ hM; decide)
    | with_reducible refine State.wr_within ?_ _ _ _ ?_
    | with_reducible refine State.raise_within ?_ ?_ _ _ _
    | with_reducible refine Within.on ?_ fun _ _ => ?_
    | split
    | (with_reducible refine Within.of_eq (by with_reducible assumption) ?_)
    | (intro _))

theorem State.auxCoastEnd_within {M : Foot} (hM : Foot.Sub 0xc000386000000000000000000000000000000000000002000003fc830000000000000000000000000000027f900000000000c044000898000000000000000000000000000000000000000008000 M) {s₀ s : State} (h_s : Within M s₀ s) (d : Nat)  :
    Within M s₀ (State.auxCoastEnd s d) := by
  unfold State.auxCoastEnd
  repeat' (first
    | with_reducible assumption
    | (refine Foot.Sub.has hM ?_; decide)
    | (refine Foot.Sub.trans ?_ hM; decide)
    | (extract_lets +onlyGivenNames x; refine Within.cut (x := x) ?_ ?_; (on_goal 2 => (clear_value x; revert x; intro _ _)); (on_goal 1 => (unfold x; clear x)))
    | (extract_lets +onlyGivenNames x; refine Within.cut (x := x.1) ?_ ?_; (on_goal 2 => (clear_value x; revert x; intro _ _)); (on_goal 1 => (unfold x; clear x)))
    | (extract_lets +onlyGivenNames x; clear_value x; revert x; intro _)
    | with_reducible refine State.wr_within ?_ _ _ _ ?_
    | with_reducible refine State.raise_within ?_ ?_ _ _ _
    | with_reducible refine State.wake_within ?_ ?_ _ _ _
    | with_reducible refine Within.on ?_ fun _ _ => ?_
    | with_reducible refine Within.each ?_ fun _ _ _ => ?_
    | split
    | (with_reducible refine Within.of_eq (by with_reducible assumption) ?_)
    | (intro _))

theorem State.auxLock_within {M : Foot} (hM : Foot.Sub 0xc00018600000000000000000000000000000000000000201000000830000000000000000000000000000027f9000000000000000000898000000000000000000000000000000000000000008000 M) {s₀ s : State} (h_s : Within M s₀ s) (d : Nat)  :
    Within M s₀ (State.auxLock s d) := by
  unfold State.auxLock
  repeat' (first
    | with_reducible assumption
    | (refine Foot.Sub.has hM ?_; decide)
    | (refine Foot.Sub.trans ?_ hM; decide)
    | (extract_lets +onlyGivenNames x; refine Within.cut (x := x) ?_ ?_; (on_goal 2 => (clear_value x; revert x; intro _ _)); (on_goal 1 => (unfold x; clear x)))
    | (extract_lets +onlyGivenNames x; refine Within.cut (x := x.1) ?_ ?_; (on_goal 2 => (clear_value x; revert x; intro _ _)); (on_goal 1 => (unfold x; clear x)))
    | (extract_lets +onlyGivenNames x; clear_value x; revert x; intro _)
    | with_reducible refine State.wr_within ?_ _ _ _ ?_
    | with_reducible refine State.raise_within ?_ ?_ _ _ _
    | with_reducible refine Within.on ?_ fun _ _ => ?_
    | with_reducible refine Within.each ?_ fun _ _ _ => ?_
    | split
    | (with_reducible refine Within.of_eq (by with_reducible assumption) ?_)
    | (intro _))

theorem State.writeCueWord_within {M : Foot} (hM : Foot.Sub 0x40000000000000000000000000000000000000000000000000000000000004000000000000000000000000000008000000000000000000000000000000000000000000000000000000000040000 M) {s₀ s : State} (h_s : Within M s₀ s) (d : Nat) (n : Nat) (w : Nat) (v : Nat)  :
    Within M s₀ (State.writeCueWord d n w v s) := by
  unfold State.writeCueWord
  repeat' (first
    | with_reducible assumption
    | (refine Foot.Sub.has hM ?_; decide)
    | (refine Foot.Sub.trans ?_ hM; decide)
    | (extract_lets +onlyGivenNames x; refine Within.cut (x := x) ?_ ?_; (on_goal 2 => (clear_value x; revert x; intro _ _)); (on_goal 1 => (unfold x; clear x)))
    | (extract_lets +onlyGivenNames x; refine Within.cut (x := x.1) ?_ ?_; (on_goal 2 => (clear_value x; revert x; intro _ _)); (on_goal 1 => (unfold x; clear x)))
    | (extract_lets +onlyGivenNames x; clear_value x; revert x; intro _)
    | with_reducible refine State.endCue_within ?_ ?_ _ _ _
    | with_reducible refine State.flag_within ?_ ?_ _ _ ?_
    | with_reducible refine State.wr_within ?_ _ _ _ ?_
    | with_reducible refine State.armCue_within ?_ ?_ _ _
    | with_reducible refine Within.on ?_ fun _ _ => ?_
    | with_reducible refine Within.ite ?_ ?_
    | with_reducible refine Within.ite_fst ?_ ?_
    | split
    | (with_reducible refine Within.of_eq (by with_reducible assumption) ?_)
    | (intro _))

theorem State.cueSnapshot_within {M : Foot} (hM : Foot.Sub 0x202000000000000000000000040080000000000000000 M) {s₀ s : State} (h_s : Within M s₀ s) (d : Nat) (param : Nat)  :
    Within M s₀ (State.cueSnapshot s d param) := by
  unfold State.cueSnapshot
  repeat' (first
    | with_reducible assumption
    | (refine Foot.Sub.has hM ?_; decide)
    | (refine Foot.Sub.trans ?_ hM; decide)
    | (extract_lets +onlyGivenNames x; refine Within.cut (x := x) ?_ ?_; (on_goal 2 => (clear_value x; revert x; intro _ _)); (on_goal 1 => (unfold x; clear x)))
    | (extract_lets +onlyGivenNames x; refine Within.cut (x := x.1) ?_ ?_; (on_goal 2 => (clear_value x; revert x; intro _ _)); (on_goal 1 => (unfold x; clear x)))
    | (extract_lets +onlyGivenNames x; clear_value x; revert x; intro _)
    | with_reducible refine State.wr_within ?_ _ _ _ ?_
    | with_reducible refine Within.on ?_ fun _ _ => ?_
    | with_reducible refine Within.each ?_ fun _ _ _ => ?_
    | split
    | (with_reducible refine Within.of_eq (by with_reducible assumption) ?_)
    | (intro _))

theorem State.cueAction_within {M : Foot} (hM : Foot.Sub 0xd187bb681a0000000000000000180000000000000000020000800083000182001000088003fe1f8c01cdc67f900000001c03c000200898242000000000008001f80038266280004800080002100 M) {s₀ s : State} (h_s : Within M s₀ s) (d : Nat) (n : Nat) (t : Instant)  :
    Within M s₀ (State.cueAction s d n t).1 := by
  unfold State.cueAction
  extract_lets target param onSet onChan
  have hset : ∀ g : State → Nat → State × Nat, (∀ a, Within M s₀ (g s a).1) → Within M s₀ (onSet g).1 := fun g hg => by
    simp only [onSet]; split
    · exact hg _
    · exact h_s
  have hchan : ∀ g : State → Nat → State, (∀ a, Within M s₀ (g s a)) → Within M s₀ (onChan g).1 := fun g hg => by
    simp only [onChan]; split
    · split
      · exact hg _
      · exact h_s
    · exact h_s
  clear_value onSet onChan
  split
  · exact hset _ fun a => State.requestArm_within (Foot.Sub.trans (by decide) hM) h_s _ _ _ _ _
  · exact hset _ fun a => State.requestStop_within (Foot.Sub.trans (by decide) hM) h_s _ _ _
  · exact hchan _ fun c => State.forceTrigger_within (Foot.Sub.trans (by decide) hM) h_s _ _ _ _
  · exact hchan _ fun c => State.firRequest_within (Foot.Sub.trans (by decide) hM) h_s _ _ _ _
  · exact State.rampStart_within (Foot.Sub.trans (by decide) hM) h_s _
  · exact State.cueSnapshot_within (Foot.Sub.trans (by decide) hM) h_s _ _
  · exact hchan _ fun c => State.mark_within (Foot.Sub.trans (by decide) hM) h_s _ _ _ _ _ _ _
  · split
    · exact h_s
    · split
      · exact h_s
      · exact State.emit_within (Foot.Sub.trans (by decide) hM) h_s _
  · exact h_s

theorem State.cueRun_within {M : Foot} (hM : Foot.Sub 0xd187bb681a0000000000000000180000000000000000020000800083000182001000088003fe1f8c01cdc67f900800001c03c000200898242000000000008001f800382662800048000800c2100 M) {s₀ s : State} (h_s : Within M s₀ s) (d : Nat) (n : Nat)  :
    Within M s₀ (State.cueRun s d n) := by
  unfold State.cueRun
  repeat' (first
    | with_reducible assumption
    | (refine Foot.Sub.has hM ?_; decide)
    | (refine Foot.Sub.trans ?_ hM; decide)
    | (split <;> (refine Foot.Sub.has hM ?_; decide))
    | (extract_lets +onlyGivenNames x; refine Within.cut (x := x) ?_ ?_; (on_goal 2 => (clear_value x; revert x; intro _ _)); (on_goal 1 => (unfold x; clear x)))
    | (extract_lets +onlyGivenNames x; refine Within.cut (x := x.1) ?_ ?_; (on_goal 2 => (clear_value x; revert x; intro _ _)); (on_goal 1 => (unfold x; clear x)))
    | (extract_lets +onlyGivenNames x; clear_value x; revert x; intro _)
    | with_reducible refine State.cueAction_within ?_ ?_ _ _ _
    | with_reducible refine State.wr_within ?_ _ _ _ ?_
    | with_reducible refine State.endCue_within ?_ ?_ _ _ _
    | with_reducible refine State.raise_within ?_ ?_ _ _ _
    | with_reducible refine State.count_within ?_ ?_ _ _ _ ?_
    | with_reducible refine Within.on ?_ fun _ _ => ?_
    | with_reducible refine Within.ite ?_ ?_
    | with_reducible refine Within.ite_fst ?_ ?_
    | split
    | (with_reducible refine Within.of_eq (by with_reducible assumption) ?_)
    | (intro _))

theorem State.cueExecute_within {M : Foot} (hM : Foot.Sub 0xd187bb681a0000000000000000180000000000000000020000800083000182001000088003fe1f8c01cdc67f900800001c03c000200898242000000000008001f800382662800048000800c2100 M) {s₀ s : State} (h_s : Within M s₀ s) (d : Nat) (n : Nat)  :
    Within M s₀ (State.cueExecute s d n) := by
  unfold State.cueExecute
  repeat' (first
    | with_reducible assumption
    | (refine Foot.Sub.has hM ?_; decide)
    | (refine Foot.Sub.trans ?_ hM; decide)
    | with_reducible refine State.cueRun_within ?_ ?_ _ _
    | with_reducible refine Within.each ?_ fun _ _ _ => ?_
    | with_reducible refine Within.ite ?_ ?_
    | with_reducible refine Within.ite_fst ?_ ?_
    | split
    | (with_reducible refine Within.of_eq (by with_reducible assumption) ?_))

theorem State.stepApply_within {M : Foot} (hM : Foot.Sub 0xc40018600180000000000000003000000000000000020200000000830000044c00000000000000000014127f9008000200000000000898000000000000000000000000000000000000000000075 M) {s₀ s : State} (h_s : Within M s₀ s)   :
    Within M s₀ (State.stepApply s) := by
  unfold State.stepApply
  repeat' (first
    | with_reducible assumption
    | (refine Foot.Sub.has hM ?_; decide)
    | (refine Foot.Sub.trans ?_ hM; decide)
    | (split <;> (refine Foot.Sub.has hM ?_; decide))
    | (extract_lets +onlyGivenNames x; refine Within.cut (x := x) ?_ ?_; (on_goal 2 => (clear_value x; revert x; intro _ _)); (on_goal 1 => (unfold x; clear x)))
    | (extract_lets +onlyGivenNames x; refine Within.cut (x := x.1) ?_ ?_; (on_goal 2 => (clear_value x; revert x; intro _ _)); (on_goal 1 => (unfold x; clear x)))
    | (extract_lets +onlyGivenNames x; clear_value x; revert x; intro _)
    | with_reducible refine State.wr_within ?_ _ _ _ ?_
    | with_reducible refine State.noteErr_within ?_ ?_ _
    | with_reducible refine State.raisePkg_within ?_ ?_ _ _
    | with_reducible refine State.rebase_within ?_ ?_ ?_ _ _
    | with_reducible refine Within.on ?_ fun _ _ => ?_
    | with_reducible refine Within.each ?_ fun _ _ _ => ?_
    | with_reducible refine Within.ite ?_ ?_
    | with_reducible refine Within.ite_fst ?_ ?_
    | split
    | with_reducible refine Within.set_dt ?_ _ ?_
    | with_reducible refine Within.set_dtPrev ?_ _ ?_
    | with_reducible refine Within.set_dts ?_ _ _ ?_ ?_
    | with_reducible refine Within.set_modeDts ?_ _ _ _ ?_ ?_ ?_
    | (with_reducible refine Within.of_eq (by with_reducible assumption) ?_)
    | (intro _))

end Sys2Proof.Machine
end

