-- ==== Sys2Proof/Laws/ModeOpsWithin.lean ====
section
/-!
SUPPORT. What each operation of Machine/ModeOps.lean may change (`Within`), and that it keeps the state sound.
-/

namespace Sys2Proof.Machine

set_option linter.all false

theorem State.requestMode_within {M : Foot} (hM : Foot.Sub 0xe1e7b96010000000000000000000000000000000000002000083fc8340800000440e2fb4000000000200067f900000001e13c04c00089904000000000000800020204000000000000a880300000 M) {s₀ s : State} (h_s : Within M s₀ s) (m : Mode) (cmd : Option (MbxHdr × Nat))  :
    Within M s₀ (State.requestMode s m cmd).1 := by
  unfold State.requestMode
  repeat' (first
    | with_reducible assumption
    | (refine Foot.Sub.has hM ?_; decide)
    | (refine Foot.Sub.trans ?_ hM; decide)
    | (extract_lets +onlyGivenNames x; refine Within.cut (x := x) ?_ ?_; (on_goal 2 => (clear_value x; revert x; intro _ _)); (on_goal 1 => (unfold x; clear x)))
    | (extract_lets +onlyGivenNames x; refine Within.cut (x := x.1) ?_ ?_; (on_goal 2 => (clear_value x; revert x; intro _ _)); (on_goal 1 => (unfold x; clear x)))
    | (extract_lets +onlyGivenNames x; clear_value x; revert x; intro _)
    | with_reducible refine State.wake_within ?_ ?_ _ _ _
    | with_reducible refine State.harvest_within ?_ ?_ _ _ _ _ _ _ _
    | with_reducible refine State.granted_within ?_ ?_ _
    | with_reducible refine State.startMode_within ?_ ?_ _ _
    | with_reducible refine Within.ite ?_ ?_
    | with_reducible refine Within.ite_fst ?_ ?_
    | split
    | (with_reducible refine Within.of_eq (by with_reducible assumption) ?_))

theorem State.leaveAcquiring_within {M : Foot} (hM : Foot.Sub 0xc40018689e00000000000000000000000000000000000200000000830000000010000000180000000108427ff000000000000000000898000000000000030068a84020200200024000000000000 M) {s₀ s : State} (h_s : Within M s₀ s)   :
    Within M s₀ (State.leaveAcquiring s) := by
  unfold State.leaveAcquiring
  repeat' (first
    | with_reducible assumption
    | (refine Foot.Sub.has hM ?_; decide)
    | (refine Foot.Sub.trans ?_ hM; decide)
    | (extract_lets +onlyGivenNames x; refine Within.cut (x := x) ?_ ?_; (on_goal 2 => (clear_value x; revert x; intro _ _)); (on_goal 1 => (unfold x; clear x)))
    | (extract_lets +onlyGivenNames x; refine Within.cut (x := x.1) ?_ ?_; (on_goal 2 => (clear_value x; revert x; intro _ _)); (on_goal 1 => (unfold x; clear x)))
    | (extract_lets +onlyGivenNames x; clear_value x; revert x; intro _)
    | with_reducible refine State.endArm_within ?_ ?_ _ _ _
    | with_reducible refine State.stopPipelines_within ?_ ?_ _
    | with_reducible refine State.accHalt_within ?_ ?_ _ _ _
    | with_reducible refine Within.on ?_ fun _ _ => ?_
    | with_reducible refine Within.each ?_ fun _ _ _ => ?_
    | split
    | (with_reducible refine Within.of_eq (by with_reducible assumption) ?_)
    | (intro _))

theorem State.setSplit_within {M : Foot} (hM : Foot.Sub 0x4000000 M) {s₀ s : State} (h_s : Within M s₀ s) (d : Nat) (on : Bool)  :
    Within M s₀ (State.setSplit s d on) := by
  unfold State.setSplit
  repeat' (first
    | with_reducible assumption
    | (refine Foot.Sub.has hM ?_; decide)
    | (refine Foot.Sub.trans ?_ hM; decide)
    | with_reducible refine State.wrBool_within ?_ _ _ _ ?_
    | with_reducible refine Within.on ?_ fun _ _ => ?_
    | split
    | (with_reducible refine Within.of_eq (by with_reducible assumption) ?_)
    | (intro _))

theorem State.enterAcquiring_within {M : Foot} (hM : Foot.Sub 0xc400186000000000000000000000000000000000000002000000008300000000000000000001001e4008727f9000000000000000000898000000000000000000000000000041424800000000000 M) {s₀ s : State} (h_s : Within M s₀ s)   :
    Within M s₀ (State.enterAcquiring s) := by
  unfold State.enterAcquiring
  repeat' (first
    | with_reducible assumption
    | (refine Foot.Sub.has hM ?_; decide)
    | (refine Foot.Sub.trans ?_ hM; decide)
    | with_reducible refine State.startPipelines_within ?_ ?_ _ _
    | with_reducible refine State.syncXdie_within ?_ ?_ _
    | with_reducible refine Within.each ?_ fun _ _ _ => ?_
    | split
    | (with_reducible refine Within.of_eq (by with_reducible assumption) ?_))

theorem State.endDeliveries_within {M : Foot} (hM : Foot.Sub 0xc0001b700000000000000000000000000000000000000200000000830000000000000000000000000000027f9000000000000000200898000000000000000000000000000000000000000000000 M) {s₀ s : State} (h_s : Within M s₀ s) (p : Delivery → Bool) (code : Nat)  :
    Within M s₀ (State.endDeliveries s p code) := by
  unfold State.endDeliveries
  repeat' (first
    | with_reducible assumption
    | (refine Foot.Sub.has hM ?_; decide)
    | (refine Foot.Sub.trans ?_ hM; decide)
    | (extract_lets +onlyGivenNames x; refine Within.cut (x := x) ?_ ?_; (on_goal 2 => (clear_value x; revert x; intro _ _)); (on_goal 1 => (unfold x; clear x)))
    | (extract_lets +onlyGivenNames x; refine Within.cut (x := x.1) ?_ ?_; (on_goal 2 => (clear_value x; revert x; intro _ _)); (on_goal 1 => (unfold x; clear x)))
    | (extract_lets +onlyGivenNames x; clear_value x; revert x; intro _)
    | with_reducible refine State.finish_within ?_ ?_ _ _ _
    | with_reducible refine Within.each ?_ fun _ _ _ => ?_
    | split
    | with_reducible refine Within.set_deliveries ?_ _ ?_
    | (with_reducible refine Within.of_eq (by with_reducible assumption) ?_))

theorem State.enterVigil_within {M : Foot} (hM : Foot.Sub 0xe0003b7ae20000000000000000000000000000000000020000f7fc8300200000000000000001011e40000a7ff00000000000c044200898845f1e000000020000000000000001000000000200100 M) {s₀ s : State} (h_s : Within M s₀ s)   :
    Within M s₀ (State.enterVigil s) := by
  unfold State.enterVigil
  repeat' (first
    | with_reducible assumption
    | (refine Foot.Sub.has hM ?_; decide)
    | (refine Foot.Sub.trans ?_ hM; decide)
    | (extract_lets +onlyGivenNames x; refine Within.cut (x := x) ?_ ?_; (on_goal 2 => (clear_value x; revert x; intro _ _)); (on_goal 1 => (unfold x; clear x)))
    | (extract_lets +onlyGivenNames x; refine Within.cut (x := x.1) ?_ ?_; (on_goal 2 => (clear_value x; revert x; intro _ _)); (on_goal 1 => (unfold x; clear x)))
    | (extract_lets +onlyGivenNames x; clear_value x; revert x; intro _)
    | with_reducible refine State.endDeliveries_within ?_ ?_ _ _
    | with_reducible refine State.timStopAll_within ?_ ?_ _
    | with_reducible refine State.cmpVigil_within ?_ ?_ _
    | with_reducible refine State.lgcStop_within ?_ ?_ _
    | with_reducible refine State.loseStack_within ?_ ?_ _ _
    | with_reducible refine State.accDomainOff_within ?_ ?_ _ _
    | with_reducible refine State.wr_within ?_ _ _ _ ?_
    | with_reducible refine State.setLock_within ?_ ?_ _ _
    | with_reducible refine State.wrFree_within ?_ _ _ ?_
    | with_reducible refine Within.each ?_ fun _ _ _ => ?_
    | split
    | with_reducible refine Within.set_pool ?_ _ ?_
    | (with_reducible refine Within.of_eq (by with_reducible assumption) ?_))

theorem State.leaveVigil_within {M : Foot} (hM : Foot.Sub 0xe4003860000000000000000000000000000000000000020002f3fc8300740500000e00000001011e4c1c727f900800000000c0440008988c0003000000000000000000000001024800000700300 M) {s₀ s : State} (h_s : Within M s₀ s)   :
    Within M s₀ (State.leaveVigil s) := by
  unfold State.leaveVigil
  repeat' (first
    | with_reducible assumption
    | (refine Foot.Sub.has hM ?_; decide)
    | (refine Foot.Sub.trans ?_ hM; decide)
    | (extract_lets +onlyGivenNames x; refine Within.cut (x := x) ?_ ?_; (on_goal 2 => (clear_value x; revert x; intro _ _)); (on_goal 1 => (unfold x; clear x)))
    | (extract_lets +onlyGivenNames x; refine Within.cut (x := x.1) ?_ ?_; (on_goal 2 => (clear_value x; revert x; intro _ _)); (on_goal 1 => (unfold x; clear x)))
    | (extract_lets +onlyGivenNames x; clear_value x; revert x; intro _)
    | with_reducible refine State.cmpWakeUp_within ?_ ?_ _
    | with_reducible refine State.lgcStart_within ?_ ?_ _
    | with_reducible refine State.synLock_within ?_ ?_ _
    | with_reducible refine State.wr_within ?_ _ _ _ ?_
    | with_reducible refine Within.on ?_ fun _ _ => ?_
    | with_reducible refine Within.each ?_ fun _ _ _ => ?_
    | split
    | (with_reducible refine Within.of_eq (by with_reducible assumption) ?_)
    | (intro _))

theorem State.heldWakes_within {M : Foot} (hM : Foot.Sub 0xc0003860000000000000000000000000000000000000020000033c830000000000000000000000000000027f900000000000c044000898000000000000000000000000000000000000000000000 M) {s₀ s : State} (h_s : Within M s₀ s)   :
    Within M s₀ (State.heldWakes s) := by
  unfold State.heldWakes
  repeat' (first
    | with_reducible assumption
    | (refine Foot.Sub.has hM ?_; decide)
    | (refine Foot.Sub.trans ?_ hM; decide)
    | with_reducible refine State.wr_within ?_ _ _ _ ?_
    | with_reducible refine State.wakeBegin_within ?_ ?_ _ _ _
    | with_reducible refine Within.on ?_ fun _ _ => ?_
    | split
    | (with_reducible refine Within.of_eq (by with_reducible assumption) ?_)
    | (intro _))

theorem State.splitDie_within {M : Foot} (hM : Foot.Sub 0xc00018600000000000000000000000000000000000000200000000830000000020000000000000000000027f9000000000000000000898000000000000000000000000000000000003004000000 M) {s₀ s : State} (h_s : Within M s₀ s) (d : Nat) (on : Bool)  :
    Within M s₀ (State.splitDie s d on) := by
  unfold State.splitDie
  repeat' (first
    | with_reducible assumption
    | (refine Foot.Sub.has hM ?_; decide)
    | (refine Foot.Sub.trans ?_ hM; decide)
    | with_reducible refine State.setSplit_within ?_ ?_ _ _
    | with_reducible refine State.showGain_within ?_ ?_ _ _
    | with_reducible refine Within.on ?_ fun _ _ => ?_
    | split
    | (with_reducible refine Within.of_eq (by with_reducible assumption) ?_)
    | (intro _))

theorem State.enterMode_within {M : Foot} (hM : Foot.Sub 0xe4003b7ae20000000000000000000000000000000000020002f7fc8300740500200e00000001011e4c1c7a7ff00800000000c0442008988c5f1f000000020000000000000041424803004700300 M) {s₀ s : State} (h_s : Within M s₀ s) (old : Mode) (m : Mode)  :
    Within M s₀ (State.enterMode s old m) := by
  unfold State.enterMode
  repeat' (first
    | with_reducible assumption
    | (refine Foot.Sub.has hM ?_; decide)
    | (refine Foot.Sub.trans ?_ hM; decide)
    | (extract_lets +onlyGivenNames x; refine Within.cut (x := x) ?_ ?_; (on_goal 2 => (clear_value x; revert x; intro _ _)); (on_goal 1 => (unfold x; clear x)))
    | (extract_lets +onlyGivenNames x; refine Within.cut (x := x.1) ?_ ?_; (on_goal 2 => (clear_value x; revert x; intro _ _)); (on_goal 1 => (unfold x; clear x)))
    | (extract_lets +onlyGivenNames x; clear_value x; revert x; intro _)
    | with_reducible refine State.leaveVigil_within ?_ ?_
    | with_reducible refine State.splitDie_within ?_ ?_ _ _
    | with_reducible refine State.enterVigil_within ?_ ?_
    | with_reducible refine State.timStopAll_within ?_ ?_ _
    | with_reducible refine State.enterAcquiring_within ?_ ?_
    | with_reducible refine Within.on ?_ fun _ _ => ?_
    | with_reducible refine Within.each ?_ fun _ _ _ => ?_
    | split
    | (with_reducible refine Within.of_eq (by with_reducible assumption) ?_)
    | (intro _))

theorem State.showMode_within {M : Foot} (hM : Foot.Sub 0x4000000000000000000000000000000000000000000000000000 M) {s₀ s : State} (h_s : Within M s₀ s) (m : Mode)  :
    Within M s₀ (State.showMode s m) := by
  unfold State.showMode
  repeat' (first
    | with_reducible assumption
    | (refine Foot.Sub.has hM ?_; decide)
    | (refine Foot.Sub.trans ?_ hM; decide)
    | with_reducible refine State.wr_within ?_ _ _ _ ?_
    | with_reducible refine Within.each ?_ fun _ _ _ => ?_
    | split
    | (with_reducible refine Within.of_eq (by with_reducible assumption) ?_))

theorem State.modeEvents_within {M : Foot} (hM : Foot.Sub 0xc0001b600000000000000000000000000000000000000200000008830000000000000000000000000000027f9000000000000000200898000000000000000000000000000000000000000000000 M) {s₀ s : State} (h_s : Within M s₀ s) (old : Mode) (m : Mode)  :
    Within M s₀ (State.modeEvents s old m) := by
  unfold State.modeEvents
  repeat' (first
    | with_reducible assumption
    | (refine Foot.Sub.has hM ?_; decide)
    | (refine Foot.Sub.trans ?_ hM; decide)
    | (extract_lets +onlyGivenNames x; refine Within.cut (x := x) ?_ ?_; (on_goal 2 => (clear_value x; revert x; intro _ _)); (on_goal 1 => (unfold x; clear x)))
    | (extract_lets +onlyGivenNames x; refine Within.cut (x := x.1) ?_ ?_; (on_goal 2 => (clear_value x; revert x; intro _ _)); (on_goal 1 => (unfold x; clear x)))
    | (extract_lets +onlyGivenNames x; clear_value x; revert x; intro _)
    | with_reducible refine State.raisePkg_within ?_ ?_ _ _
    | with_reducible refine State.wr_within ?_ _ _ _ ?_
    | with_reducible refine State.finishUnit_within ?_ ?_ _ _ _ _
    | with_reducible refine Within.on ?_ fun _ _ => ?_
    | split
    | (with_reducible refine Within.of_eq (by with_reducible assumption) ?_)
    | (intro _))

theorem State.modeDone_within {M : Foot} (hM : Foot.Sub 0xe5863bfafe100000000000000000000c4482980000030e0282f7fc8300740504300e0f901801011e4d1c7e7ff00800061c00c04c2008988c5f1f000000130068a84020200241424803084700301 M) {s₀ s : State} (h_s : Within M s₀ s)   :
    Within M s₀ (State.modeDone s) := by
  unfold State.modeDone
  repeat' (first
    | with_reducible assumption
    | (refine Foot.Sub.has hM ?_; decide)
    | (refine Foot.Sub.trans ?_ hM; decide)
    | (extract_lets +onlyGivenNames x; refine Within.cut (x := x) ?_ ?_; (on_goal 2 => (clear_value x; revert x; intro _ _)); (on_goal 1 => (unfold x; clear x)))
    | (extract_lets +onlyGivenNames x; refine Within.cut (x := x.1) ?_ ?_; (on_goal 2 => (clear_value x; revert x; intro _ _)); (on_goal 1 => (unfold x; clear x)))
    | (extract_lets +onlyGivenNames x; clear_value x; revert x; intro _)
    | with_reducible refine State.leaveAcquiring_within ?_ ?_
    | with_reducible refine State.showMode_within ?_ ?_ _
    | with_reducible refine State.commitAgain_within ?_ ?_ _
    | with_reducible refine State.enterMode_within ?_ ?_ _ _
    | with_reducible refine State.syncDomains_within ?_ ?_
    | with_reducible refine State.syncCard_within ?_ ?_
    | with_reducible refine State.syncScan_within ?_ ?_
    | with_reducible refine State.syncPorts_within ?_ ?_
    | with_reducible refine State.modeEvents_within ?_ ?_ _ _
    | with_reducible refine State.heldWakes_within ?_ ?_
    | with_reducible refine Within.on ?_ fun _ _ => ?_
    | with_reducible refine Within.ite ?_ ?_
    | with_reducible refine Within.ite_fst ?_ ?_
    | split
    | with_reducible refine Within.set_mode ?_ _ ?_
    | (with_reducible refine Within.of_eq (by with_reducible assumption) ?_)
    | (intro _))

theorem State.wakeTimer_within {M : Foot} (hM : Foot.Sub 0xc000386000000000000000000000000000000000000002000003fc830000000000000000000000000000027f900000000000c044000898000000000000000000000000000000000000000000000 M) {s₀ s : State} (h_s : Within M s₀ s)   :
    Within M s₀ (State.wakeTimer s) := by
  unfold State.wakeTimer
  repeat' (first
    | with_reducible assumption
    | (refine Foot.Sub.has hM ?_; decide)
    | (refine Foot.Sub.trans ?_ hM; decide)
    | with_reducible refine State.wake_within ?_ ?_ _ _ _
    | with_reducible refine Within.on ?_ fun _ _ => ?_
    | split
    | (with_reducible refine Within.of_eq (by with_reducible assumption) ?_)
    | (intro _))

theorem State.linkUp_within {M : Foot} (hM : Foot.Sub 0x20000000000000000000000000000000000000000000060000000000000000000000000000000008000000000000000000000000000000000000000000000000000000000000000000000 M) {s₀ s : State} (h_s : Within M s₀ s) (d : Nat)  :
    Within M s₀ (State.linkUp s d) := by
  unfold State.linkUp
  repeat' (first
    | with_reducible assumption
    | (refine Foot.Sub.has hM ?_; decide)
    | (refine Foot.Sub.trans ?_ hM; decide)
    | (extract_lets +onlyGivenNames x; refine Within.cut (x := x) ?_ ?_; (on_goal 2 => (clear_value x; revert x; intro _ _)); (on_goal 1 => (unfold x; clear x)))
    | (extract_lets +onlyGivenNames x; refine Within.cut (x := x.1) ?_ ?_; (on_goal 2 => (clear_value x; revert x; intro _ _)); (on_goal 1 => (unfold x; clear x)))
    | (extract_lets +onlyGivenNames x; clear_value x; revert x; intro _)
    | with_reducible refine State.emit_within ?_ ?_ _
    | with_reducible refine State.wr_within ?_ _ _ _ ?_
    | with_reducible refine Within.on ?_ fun _ _ => ?_
    | with_reducible refine Within.ite ?_ ?_
    | with_reducible refine Within.ite_fst ?_ ?_
    | split
    | (with_reducible refine Within.of_eq (by with_reducible assumption) ?_)
    | (intro _))

end Sys2Proof.Machine
end

