-- ==== Sys2Proof/Laws/PeriodOpsWithin.lean ====
section
/-!
SUPPORT. What each operation of Machine/PeriodOps.lean may change (`Within`), and that it keeps the state sound.
-/

namespace Sys2Proof.Machine

set_option linter.all false

theorem State.requestField_within {M : Foot} (hM : Foot.Sub 0xc18fbb6084000000000000000000000000000000000002000080008380800000840008803c0000000000067ff00000001e53c008200899040100000000028068006000200000000000080200000 M) {s₀ s : State} (h_s : Within M s₀ s) (r : Request) (code : Nat)  :
    Within M s₀ (State.requestField s r code) := by
  unfold State.requestField
  repeat' (first
    | with_reducible assumption
    | (refine Foot.Sub.has hM ?_; decide)
    | (refine Foot.Sub.trans ?_ hM; decide)
    | (extract_lets +onlyGivenNames x; refine Within.cut (x := x) ?_ ?_; (on_goal 2 => (clear_value x; revert x; intro _ _)); (on_goal 1 => (unfold x; clear x)))
    | (extract_lets +onlyGivenNames x; refine Within.cut (x := x.1) ?_ ?_; (on_goal 2 => (clear_value x; revert x; intro _ _)); (on_goal 1 => (unfold x; clear x)))
    | (extract_lets +onlyGivenNames x; clear_value x; revert x; intro _)
    | with_reducible refine State.wr_within ?_ _ _ _ ?_
    | with_reducible refine State.accStart_within ?_ ?_ _ _
    | with_reducible refine State.rethread_within ?_ ?_ _ _
    | with_reducible refine State.rtOver_within ?_ ?_ _ _ _
    | with_reducible refine Within.on ?_ fun _ _ => ?_
    | split
    | (with_reducible refine Within.of_eq (by with_reducible assumption) ?_)
    | (intro _))

theorem State.requestGo_within {M : Foot} (hM : Foot.Sub 0xe1efb9e8fe00000000000000001800000000000028000e0000810483c0800000101eff943fec178c0000067ff0000e001e53c00c200899045f1c000000028068f8602820020000000a880300000 M) {s₀ s : State} (h_s : Within M s₀ s) (r : Request)  :
    Within M s₀ (State.requestGo s r) := by
  unfold State.requestGo
  repeat' (first
    | with_reducible assumption
    | (refine Foot.Sub.has hM ?_; decide)
    | (refine Foot.Sub.trans ?_ hM; decide)
    | (extract_lets +onlyGivenNames x; refine Within.cut (x := x) ?_ ?_; (on_goal 2 => (clear_value x; revert x; intro _ _)); (on_goal 1 => (unfold x; clear x)))
    | (extract_lets +onlyGivenNames x; refine Within.cut (x := x.1) ?_ ?_; (on_goal 2 => (clear_value x; revert x; intro _ _)); (on_goal 1 => (unfold x; clear x)))
    | (extract_lets +onlyGivenNames x; clear_value x; revert x; intro _)
    | with_reducible refine State.startMode_within ?_ ?_ _ _
    | with_reducible refine State.wr_within ?_ _ _ _ ?_
    | with_reducible refine State.armEffect_within ?_ ?_ _ _ _ _
    | with_reducible refine State.accStart_within ?_ ?_ _ _
    | with_reducible refine State.timStart_within ?_ ?_ _ _ _
    | with_reducible refine State.combGo_within ?_ ?_ _ _ _
    | with_reducible refine State.rethread_within ?_ ?_ _ _
    | with_reducible refine State.rtGo_within ?_ ?_ _ _
    | with_reducible refine State.storeGo_within ?_ ?_
    | with_reducible refine State.refitGo_within ?_ ?_
    | with_reducible refine State.claim_within ?_ ?_ _
    | with_reducible refine State.testAdmitted_within ?_ ?_
    | with_reducible refine Within.on ?_ fun _ _ => ?_
    | with_reducible refine Within.ite ?_ ?_
    | with_reducible refine Within.ite_fst ?_ ?_
    | split
    | (with_reducible refine Within.of_eq (by with_reducible assumption) ?_)
    | (intro _))

theorem State.requestEnd_within {M : Foot} (hM : Foot.Sub 0xc0001b600000000000000000000000000000000000000200000000830000000000000000000000000000027f9000000000000000200898000000000000000000000000000000000000000000000 M) {s₀ s : State} (h_s : Within M s₀ s) (x : Deferred) (code : Nat)  :
    Within M s₀ (State.requestEnd s x code) := by
  unfold State.requestEnd
  repeat' (first
    | with_reducible assumption
    | (refine Foot.Sub.has hM ?_; decide)
    | (refine Foot.Sub.trans ?_ hM; decide)
    | (extract_lets +onlyGivenNames x; refine Within.cut (x := x) ?_ ?_; (on_goal 2 => (clear_value x; revert x; intro _ _)); (on_goal 1 => (unfold x; clear x)))
    | (extract_lets +onlyGivenNames x; refine Within.cut (x := x.1) ?_ ?_; (on_goal 2 => (clear_value x; revert x; intro _ _)); (on_goal 1 => (unfold x; clear x)))
    | (extract_lets +onlyGivenNames x; clear_value x; revert x; intro _)
    | with_reducible refine State.finish_within ?_ ?_ _ _ _
    | split
    | (with_reducible refine Within.of_eq (by with_reducible assumption) ?_))

theorem State.requestStarted_within {M : Foot} (hM : Foot.Sub 0xc0001b600000000000000000000000000000000000000200000000830000000000000000000000000000027f9000000000000000200898000000000000000000000000000000000000000000000 M) {s₀ s : State} (h_s : Within M s₀ s) (x : Deferred)  :
    Within M s₀ (State.requestStarted s x) := by
  unfold State.requestStarted
  repeat' (first
    | with_reducible assumption
    | (refine Foot.Sub.has hM ?_; decide)
    | (refine Foot.Sub.trans ?_ hM; decide)
    | (extract_lets +onlyGivenNames x; refine Within.cut (x := x) ?_ ?_; (on_goal 2 => (clear_value x; revert x; intro _ _)); (on_goal 1 => (unfold x; clear x)))
    | (extract_lets +onlyGivenNames x; refine Within.cut (x := x.1) ?_ ?_; (on_goal 2 => (clear_value x; revert x; intro _ _)); (on_goal 1 => (unfold x; clear x)))
    | (extract_lets +onlyGivenNames x; clear_value x; revert x; intro _)
    | with_reducible refine State.raise_within ?_ ?_ _ _ _
    | with_reducible refine State.finish_within ?_ ?_ _ _ _
    | with_reducible refine Within.ite ?_ ?_
    | with_reducible refine Within.ite_fst ?_ ?_
    | split
    | with_reducible refine Within.set_outstanding ?_ _ ?_
    | (with_reducible refine Within.of_eq (by with_reducible assumption) ?_))

theorem State.dropDeferred_within {M : Foot} (hM : Foot.Sub 0x10000000000000000000000000000000000000000000000000000000000000000000000000000000000000000000000008000000000000000000000000000000000000000000000000000000 M) {s₀ s : State} (h_s : Within M s₀ s) (x : Deferred)  :
    Within M s₀ (State.dropDeferred s x) := by
  unfold State.dropDeferred
  repeat' (first
    | with_reducible assumption
    | (refine Foot.Sub.has hM ?_; decide)
    | (refine Foot.Sub.trans ?_ hM; decide)
    | (extract_lets +onlyGivenNames x; refine Within.cut (x := x) ?_ ?_; (on_goal 2 => (clear_value x; revert x; intro _ _)); (on_goal 1 => (unfold x; clear x)))
    | (extract_lets +onlyGivenNames x; refine Within.cut (x := x.1) ?_ ?_; (on_goal 2 => (clear_value x; revert x; intro _ _)); (on_goal 1 => (unfold x; clear x)))
    | (extract_lets +onlyGivenNames x; clear_value x; revert x; intro _)
    | with_reducible refine State.syncDeferred_within ?_ ?_
    | split
    | with_reducible refine Within.set_deferred ?_ _ ?_
    | (with_reducible refine Within.of_eq (by with_reducible assumption) ?_))

theorem State.tryHead_within {M : Foot} (hM : Foot.Sub 0xe1efbbe8fe00000000000000001800000000000028000e0000810483c0800000941eff943fec178c0000067ff0000e001e53c00c200899045f1c000000028068f8602820020000080a880300000 M) {s₀ s : State} (h_s : Within M s₀ s) (x : Deferred)  :
    Within M s₀ (State.tryHead s x).1 := by
  unfold State.tryHead
  repeat' (first
    | with_reducible assumption
    | (refine Foot.Sub.has hM ?_; decide)
    | (refine Foot.Sub.trans ?_ hM; decide)
    | (extract_lets +onlyGivenNames x; refine Within.cut (x := x) ?_ ?_; (on_goal 2 => (clear_value x; revert x; intro _ _)); (on_goal 1 => (unfold x; clear x)))
    | (extract_lets +onlyGivenNames x; refine Within.cut (x := x.1) ?_ ?_; (on_goal 2 => (clear_value x; revert x; intro _ _)); (on_goal 1 => (unfold x; clear x)))
    | (extract_lets +onlyGivenNames x; clear_value x; revert x; intro _)
    | with_reducible refine State.dropDeferred_within ?_ ?_ _
    | with_reducible refine State.recordSeqCheck_within ?_ ?_ _ _ _
    | with_reducible refine State.requestField_within ?_ ?_ _ _
    | with_reducible refine State.requestEnd_within ?_ ?_ _ _
    | with_reducible refine State.charge_within ?_ ?_ _ _ _
    | with_reducible refine State.raisePkg_within ?_ ?_ _ _
    | with_reducible refine State.requestStarted_within ?_ ?_ _
    | with_reducible refine State.requestGo_within ?_ ?_ _
    | with_reducible refine Within.ite ?_ ?_
    | with_reducible refine Within.ite_fst ?_ ?_
    | split
    | (with_reducible refine Within.of_eq (by with_reducible assumption) ?_))

theorem State.tryQueues_within {M : Foot} (hM : Foot.Sub 0xe1efbbe8fe00000000000000001800000000000028000e0000810483c0800000941eff943fec178c0000067ff0000e001e53c00c200899045f1c000000028068f8602820020000080a880300000 M) {s₀ s : State} (h_s : Within M s₀ s) (d n : Nat) :
    Within M s₀ (State.tryQueues d n s) := by
  induction n generalizing s with
  | zero => exact h_s
  | succ n ih =>
    unfold State.tryQueues
    have head : ∀ (u : State) (o : Option Deferred), Within M s₀ u →
        Within M s₀ (match o with | some x => u.tryHead x | none => (u, false)).1 := fun u o hu => by
      cases o
      · exact hu
      · exact State.tryHead_within (Foot.Sub.trans (by decide) hM) hu _
    extract_lets r q
    split
    · exact ih (head _ _ (head _ _ h_s))
    · exact head _ _ (head _ _ h_s)

theorem State.tryDeferred_within {M : Foot} (hM : Foot.Sub 0xe1efbbe8fe00000000000000001800000000000028000e0000810483c0800000941eff943fec178c0000067ff0000e001e53c00c200899045f1c000000028068f8602820020000080a880300000 M) {s₀ s : State} (h_s : Within M s₀ s)   :
    Within M s₀ (State.tryDeferred s) := by
  unfold State.tryDeferred
  repeat' (first
    | with_reducible assumption
    | (refine Foot.Sub.has hM ?_; decide)
    | (refine Foot.Sub.trans ?_ hM; decide)
    | with_reducible refine State.tryQueues_within ?_ ?_ _ _
    | with_reducible refine Within.each ?_ fun _ _ _ => ?_
    | split
    | (with_reducible refine Within.of_eq (by with_reducible assumption) ?_))

theorem State.setShares_within {M : Foot} (hM : Foot.Sub 0x4000000000000000000000000000000000000000000000000000000 M) {s₀ s : State} (h_s : Within M s₀ s)   :
    Within M s₀ (State.setShares s) := by
  unfold State.setShares
  repeat' (first
    | with_reducible assumption
    | (refine Foot.Sub.has hM ?_; decide)
    | (refine Foot.Sub.trans ?_ hM; decide)
    | (extract_lets +onlyGivenNames x; refine Within.cut (x := x) ?_ ?_; (on_goal 2 => (clear_value x; revert x; intro _ _)); (on_goal 1 => (unfold x; clear x)))
    | (extract_lets +onlyGivenNames x; refine Within.cut (x := x.1) ?_ ?_; (on_goal 2 => (clear_value x; revert x; intro _ _)); (on_goal 1 => (unfold x; clear x)))
    | (extract_lets +onlyGivenNames x; clear_value x; revert x; intro _)
    | with_reducible refine State.wr_within ?_ _ _ _ ?_
    | with_reducible refine Within.each ?_ fun _ _ _ => ?_
    | split
    | (with_reducible refine Within.of_eq (by with_reducible assumption) ?_))

theorem State.setCommitted_within {M : Foot} (hM : Foot.Sub 0x2000000000000000000000000000000000000000000000000000000000000000000000000000000000000000000000002000000000000000000000000000000000000000000000000000000 M) {s₀ s : State} (h_s : Within M s₀ s)   :
    Within M s₀ (State.setCommitted s) := by
  unfold State.setCommitted
  repeat' (first
    | with_reducible assumption
    | (refine Foot.Sub.has hM ?_; decide)
    | (refine Foot.Sub.trans ?_ hM; decide)
    | (extract_lets +onlyGivenNames x; refine Within.cut (x := x) ?_ ?_; (on_goal 2 => (clear_value x; revert x; intro _ _)); (on_goal 1 => (unfold x; clear x)))
    | (extract_lets +onlyGivenNames x; refine Within.cut (x := x.1) ?_ ?_; (on_goal 2 => (clear_value x; revert x; intro _ _)); (on_goal 1 => (unfold x; clear x)))
    | (extract_lets +onlyGivenNames x; clear_value x; revert x; intro _)
    | with_reducible refine State.wr_within ?_ _ _ _ ?_
    | split
    | with_reducible refine Within.set_committed ?_ _ ?_
    | (with_reducible refine Within.of_eq (by with_reducible assumption) ?_))

theorem State.correctCost_within {M : Foot} (hM : Foot.Sub 0x400000000000000000000000000000000000000000000000000000000000000000 M) {s₀ s : State} (h_s : Within M s₀ s) (n : Nat) (measured : Nat)  :
    Within M s₀ (State.correctCost s n measured) := by
  unfold State.correctCost
  repeat' (first
    | with_reducible assumption
    | (refine Foot.Sub.has hM ?_; decide)
    | (refine Foot.Sub.trans ?_ hM; decide)
    | (extract_lets +onlyGivenNames x; refine Within.cut (x := x) ?_ ?_; (on_goal 2 => (clear_value x; revert x; intro _ _)); (on_goal 1 => (unfold x; clear x)))
    | (extract_lets +onlyGivenNames x; refine Within.cut (x := x.1) ?_ ?_; (on_goal 2 => (clear_value x; revert x; intro _ _)); (on_goal 1 => (unfold x; clear x)))
    | (extract_lets +onlyGivenNames x; clear_value x; revert x; intro _)
    | with_reducible refine State.wr_within ?_ _ _ _ ?_
    | with_reducible refine State.inc_within ?_ _ _ ?_
    | with_reducible refine Within.on ?_ fun _ _ => ?_
    | split
    | (with_reducible refine Within.of_eq (by with_reducible assumption) ?_)
    | (intro _))

theorem State.setOver_within {M : Foot} (hM : Foot.Sub 0xc00018600000000000000000000000000000000000000200000000830000000000000000000000000000027f9000000000008000000898000000000000000000000000000000000000000000000 M) {s₀ s : State} (h_s : Within M s₀ s) (cap : Bool) (budget : Bool)  :
    Within M s₀ (State.setOver s cap budget) := by
  unfold State.setOver
  repeat' (first
    | with_reducible assumption
    | (refine Foot.Sub.has hM ?_; decide)
    | (refine Foot.Sub.trans ?_ hM; decide)
    | with_reducible refine State.wr_within ?_ _ _ _ ?_
    | with_reducible refine State.raisePkg_within ?_ ?_ _ _
    | with_reducible refine Within.ite ?_ ?_
    | with_reducible refine Within.ite_fst ?_ ?_
    | split
    | (with_reducible refine Within.of_eq (by with_reducible assumption) ?_))

theorem State.periodEnd_within {M : Foot} (hM : Foot.Sub 0xc18698600000000000000000000000000000000000000200008000830000000000000f80000000000000067f900000001c00c000000898040000000000008000000000000000000000080000000 M) {s₀ s : State} (h_s : Within M s₀ s)   :
    Within M s₀ (State.periodEnd s) := by
  unfold State.periodEnd
  repeat' (first
    | with_reducible assumption
    | (refine Foot.Sub.has hM ?_; decide)
    | (refine Foot.Sub.trans ?_ hM; decide)
    | (extract_lets +onlyGivenNames x; refine Within.cut (x := x) ?_ ?_; (on_goal 2 => (clear_value x; revert x; intro _ _)); (on_goal 1 => (unfold x; clear x)))
    | (extract_lets +onlyGivenNames x; refine Within.cut (x := x.1) ?_ ?_; (on_goal 2 => (clear_value x; revert x; intro _ _)); (on_goal 1 => (unfold x; clear x)))
    | (extract_lets +onlyGivenNames x; clear_value x; revert x; intro _)
    | with_reducible refine State.derateUp_within ?_ ?_ _
    | with_reducible refine State.setOver_within ?_ ?_ _ _
    | with_reducible refine State.wr_within ?_ _ _ _ ?_
    | with_reducible refine State.derateDown_within ?_ ?_
    | with_reducible refine Within.on ?_ fun _ _ => ?_
    | with_reducible refine Within.ite ?_ ?_
    | with_reducible refine Within.ite_fst ?_ ?_
    | split
    | (with_reducible refine Within.of_eq (by with_reducible assumption) ?_)
    | (intro _))

theorem State.showMonitors_within {M : Foot} (hM : Foot.Sub 0xa00000000000000000000000000000000000000c0000000000000000000000000000000000000000000000000000000300200018000000000000000000000000000000000000000000000 M) {s₀ s : State} (h_s : Within M s₀ s) (rails : List (List Nat)) (temps : List (List Int))  :
    Within M s₀ (State.showMonitors s rails temps) := by
  unfold State.showMonitors
  repeat' (first
    | with_reducible assumption
    | (refine Foot.Sub.has hM ?_; decide)
    | (refine Foot.Sub.trans ?_ hM; decide)
    | (extract_lets +onlyGivenNames x; refine Within.cut (x := x) ?_ ?_; (on_goal 2 => (clear_value x; revert x; intro _ _)); (on_goal 1 => (unfold x; clear x)))
    | (extract_lets +onlyGivenNames x; refine Within.cut (x := x.1) ?_ ?_; (on_goal 2 => (clear_value x; revert x; intro _ _)); (on_goal 1 => (unfold x; clear x)))
    | (extract_lets +onlyGivenNames x; clear_value x; revert x; intro _)
    | with_reducible refine State.wr_within ?_ _ _ _ ?_
    | with_reducible refine State.take_within ?_ ?_ _ _
    | with_reducible refine Within.each ?_ fun _ _ _ => ?_
    | with_reducible refine Within.foldl ?_ fun _ _ _ => ?_
    | with_reducible refine Within.foldl_fst ?_ fun _ _ _ => ?_
    | split
    | (with_reducible refine Within.of_eq (by with_reducible assumption) ?_))

theorem State.harvestPeriod_within {M : Foot} (hM : Foot.Sub 0xe1effbe8fe00000000000000001800000000000028000e0000890483c0800000941eff943fec178c0000067ff4000e001e53e30c200899045f1c000000028068f8602820020000080a880300000 M) {s₀ s : State} (h_s : Within M s₀ s) (draw : Nat) (rails : List (List Nat)) (temps : List (List Int)) (corrections : List (Nat × Nat))  :
    Within M s₀ (State.harvestPeriod s draw rails temps corrections) := by
  unfold State.harvestPeriod
  repeat' (first
    | with_reducible assumption
    | (refine Foot.Sub.has hM ?_; decide)
    | (refine Foot.Sub.trans ?_ hM; decide)
    | (extract_lets +onlyGivenNames x; refine Within.cut (x := x) ?_ ?_; (on_goal 2 => (clear_value x; revert x; intro _ _)); (on_goal 1 => (unfold x; clear x)))
    | (extract_lets +onlyGivenNames x; refine Within.cut (x := x.1) ?_ ?_; (on_goal 2 => (clear_value x; revert x; intro _ _)); (on_goal 1 => (unfold x; clear x)))
    | (extract_lets +onlyGivenNames x; clear_value x; revert x; intro _)
    | with_reducible refine State.wr_within ?_ _ _ _ ?_
    | with_reducible refine State.showMonitors_within ?_ ?_ _ _
    | with_reducible refine State.take_within ?_ ?_ _ _
    | with_reducible refine State.setCommitted_within ?_ ?_
    | with_reducible refine State.correctCost_within ?_ ?_ _ _
    | with_reducible refine State.setShares_within ?_ ?_
    | with_reducible refine State.periodEnd_within ?_ ?_
    | with_reducible refine State.tryDeferred_within ?_ ?_
    | with_reducible refine Within.on ?_ fun _ _ => ?_
    | with_reducible refine Within.each ?_ fun _ _ _ => ?_
    | with_reducible refine Within.ite ?_ ?_
    | with_reducible refine Within.ite_fst ?_ ?_
    | split
    | with_reducible refine Within.set_periodDraws ?_ _ ?_
    | (with_reducible refine Within.of_eq (by with_reducible assumption) ?_)
    | (intro _))

theorem State.derateToFit_within {M : Foot} (hM : Foot.Sub 0xc18698600000000000000000000000000000000000000200008000830000000000000880000000000000067f900000001c00c000000898040000000000008000000000000000000000080000000 M) {s₀ s : State} (h_s : Within M s₀ s) (n used : Nat) :
    Within M s₀ (State.derateToFit n used s).1 := by
  induction n generalizing s used with
  | zero => exact h_s
  | succ n ih =>
    unfold State.derateToFit
    split
    · exact h_s
    · exact ih (State.derateUp_within (Foot.Sub.trans (by decide) hM) h_s _) _

theorem State.refuseDeferred_within {M : Foot} (hM : Foot.Sub 0xc18fbb6084000000000000000000000000000000000002000080008380800000840008803c0000000000067ff00000001e53c008200899040100000000028068006000200000000000080200000 M) {s₀ s : State} (h_s : Within M s₀ s)   :
    Within M s₀ (State.refuseDeferred s) := by
  unfold State.refuseDeferred
  repeat' (first
    | with_reducible assumption
    | (refine Foot.Sub.has hM ?_; decide)
    | (refine Foot.Sub.trans ?_ hM; decide)
    | (extract_lets +onlyGivenNames x; refine Within.cut (x := x) ?_ ?_; (on_goal 2 => (clear_value x; revert x; intro _ _)); (on_goal 1 => (unfold x; clear x)))
    | (extract_lets +onlyGivenNames x; refine Within.cut (x := x.1) ?_ ?_; (on_goal 2 => (clear_value x; revert x; intro _ _)); (on_goal 1 => (unfold x; clear x)))
    | (extract_lets +onlyGivenNames x; clear_value x; revert x; intro _)
    | with_reducible refine State.withdraw_within ?_ ?_ _
    | with_reducible refine State.harvestRefuse_within ?_ ?_ _ _ _ _
    | with_reducible refine State.requestField_within ?_ ?_ _ _
    | with_reducible refine State.requestEnd_within ?_ ?_ _ _
    | with_reducible refine Within.each ?_ fun _ _ _ => ?_
    | split
    | (with_reducible refine Within.of_eq (by with_reducible assumption) ?_))

theorem State.setAllowance_within {M : Foot} (hM : Foot.Sub 0xe1efbbe8fe00000000000000001800000000000028000e0000810483c0800000941eff943fec178c0000067ff0000e001e53fc0c200899045f1c000000028068f8602820020000080a880300000 M) {s₀ s : State} (h_s : Within M s₀ s) (policy : Nat) (cap : Nat) (budget : Nat)  :
    Within M s₀ (State.setAllowance s policy cap budget).1 := by
  unfold State.setAllowance
  repeat' (first
    | with_reducible assumption
    | (refine Foot.Sub.has hM ?_; decide)
    | (refine Foot.Sub.trans ?_ hM; decide)
    | (extract_lets +onlyGivenNames x; refine Within.cut (x := x) ?_ ?_; (on_goal 2 => (clear_value x; revert x; intro _ _)); (on_goal 1 => (unfold x; clear x)))
    | (extract_lets +onlyGivenNames x; refine Within.cut (x := x.1) ?_ ?_; (on_goal 2 => (clear_value x; revert x; intro _ _)); (on_goal 1 => (unfold x; clear x)))
    | (extract_lets +onlyGivenNames x; clear_value x; revert x; intro _)
    | with_reducible refine State.wr_within ?_ _ _ _ ?_
    | with_reducible refine State.setCommitted_within ?_ ?_
    | with_reducible refine State.setShares_within ?_ ?_
    | with_reducible refine State.derateToFit_within ?_ ?_ _ _
    | with_reducible refine State.setOver_within ?_ ?_ _ _
    | with_reducible refine State.refuseDeferred_within ?_ ?_
    | with_reducible refine State.tryDeferred_within ?_ ?_
    | with_reducible refine State.raisePkg_within ?_ ?_ _ _
    | with_reducible refine Within.on ?_ fun _ _ => ?_
    | split
    | (with_reducible refine Within.of_eq (by with_reducible assumption) ?_)
    | (intro _))

theorem State.thermalEnter_within {M : Foot} (hM : Foot.Sub 0xc18698600000000000000000000000000000000000000200008000830000000000000880000000000000067f900000001c00c080000898040000000000008000000000000000000000080000000 M) {s₀ s : State} (h_s : Within M s₀ s) (temp : Nat)  :
    Within M s₀ (State.thermalEnter s temp) := by
  unfold State.thermalEnter
  repeat' (first
    | with_reducible assumption
    | (refine Foot.Sub.has hM ?_; decide)
    | (refine Foot.Sub.trans ?_ hM; decide)
    | (extract_lets +onlyGivenNames x; refine Within.cut (x := x) ?_ ?_; (on_goal 2 => (clear_value x; revert x; intro _ _)); (on_goal 1 => (unfold x; clear x)))
    | (extract_lets +onlyGivenNames x; refine Within.cut (x := x.1) ?_ ?_; (on_goal 2 => (clear_value x; revert x; intro _ _)); (on_goal 1 => (unfold x; clear x)))
    | (extract_lets +onlyGivenNames x; clear_value x; revert x; intro _)
    | with_reducible refine State.wr_within ?_ _ _ _ ?_
    | with_reducible refine State.flag_within ?_ ?_ _ _ ?_
    | with_reducible refine State.raise_within ?_ ?_ _ _ _
    | with_reducible refine State.derateUp_within ?_ ?_ _
    | with_reducible refine Within.each ?_ fun _ _ _ => ?_
    | with_reducible refine Within.ite ?_ ?_
    | with_reducible refine Within.ite_fst ?_ ?_
    | split
    | (with_reducible refine Within.of_eq (by with_reducible assumption) ?_))

theorem State.thermalClear_within {M : Foot} (hM : Foot.Sub 0xc00018600000000000000000000000000000000000000200000000830000000000000000000000000000027f9000000000000080000898000000000000000000000000000000000000000000000 M) {s₀ s : State} (h_s : Within M s₀ s) (temp : Nat)  :
    Within M s₀ (State.thermalClear s temp) := by
  unfold State.thermalClear
  repeat' (first
    | with_reducible assumption
    | (refine Foot.Sub.has hM ?_; decide)
    | (refine Foot.Sub.trans ?_ hM; decide)
    | with_reducible refine State.wr_within ?_ _ _ _ ?_
    | with_reducible refine State.raise_within ?_ ?_ _ _ _
    | with_reducible refine Within.each ?_ fun _ _ _ => ?_
    | with_reducible refine Within.ite ?_ ?_
    | with_reducible refine Within.ite_fst ?_ ?_
    | split
    | (with_reducible refine Within.of_eq (by with_reducible assumption) ?_))

theorem State.restartScan_within {M : Foot} (hM : Foot.Sub 0xc00018600000000000000000000000000000000000000202800000830000000000000000000000000000027f9000000000000008000898000000000000100000000000000000000000000000000 M) {s₀ s : State} (h_s : Within M s₀ s)   :
    Within M s₀ (State.restartScan s) := by
  unfold State.restartScan
  repeat' (first
    | with_reducible assumption
    | (refine Foot.Sub.has hM ?_; decide)
    | (refine Foot.Sub.trans ?_ hM; decide)
    | with_reducible refine State.wr_within ?_ _ _ _ ?_
    | with_reducible refine State.setLink_within ?_ ?_ _ _ _
    | with_reducible refine State.syncScan_within ?_ ?_
    | with_reducible refine Within.each ?_ fun _ _ _ => ?_
    | split
    | (with_reducible refine Within.of_eq (by with_reducible assumption) ?_))

theorem State.failover_within {M : Foot} (hM : Foot.Sub 0xc0011b600020000000000000000000000000000000020202800000830000000400000000000000000000027f9004000200208008200898000000000000100000000000000000000000000000001 M) {s₀ s : State} (h_s : Within M s₀ s)   :
    Within M s₀ (State.failover s) := by
  unfold State.failover
  repeat' (first
    | with_reducible assumption
    | (refine Foot.Sub.has hM ?_; decide)
    | (refine Foot.Sub.trans ?_ hM; decide)
    | (extract_lets +onlyGivenNames x; refine Within.cut (x := x) ?_ ?_; (on_goal 2 => (clear_value x; revert x; intro _ _)); (on_goal 1 => (unfold x; clear x)))
    | (extract_lets +onlyGivenNames x; refine Within.cut (x := x.1) ?_ ?_; (on_goal 2 => (clear_value x; revert x; intro _ _)); (on_goal 1 => (unfold x; clear x)))
    | (extract_lets +onlyGivenNames x; clear_value x; revert x; intro _)
    | with_reducible refine State.wr_within ?_ _ _ _ ?_
    | with_reducible refine State.raisePkg_within ?_ ?_ _ _
    | with_reducible refine State.withdrawWith_within ?_ ?_ _ _
    | with_reducible refine State.refWinter_within ?_ ?_
    | with_reducible refine State.restartScan_within ?_ ?_
    | with_reducible refine Within.ite ?_ ?_
    | with_reducible refine Within.ite_fst ?_ ?_
    | split
    | with_reducible refine Within.set_control ?_ _ ?_
    | (with_reducible refine Within.of_eq (by with_reducible assumption) ?_))

end Sys2Proof.Machine
end

