-- ==== Sys2Proof/Laws/BootOpsWithin.lean ====
section
/-!
SUPPORT. What each operation of Machine/BootOps.lean may change (`Within`), and that it keeps the state sound.
-/

namespace Sys2Proof.Machine

set_option linter.all false

theorem State.packageReset_within {M : Foot} (hM : Foot.Sub 0x7ffdfffdfffb0000000000000003ffffffffffffefffffffffffffffffffffffffffffffffffffffffffffffffffffffffffffffffffffffffffffffffffffffffffffffffffffffffffffffffff M) {s₀ s : State} (h_s : Within M s₀ s) (cold : Bool) (cause : Nat)  :
    Within M s₀ (State.packageReset s cold cause) := by
  have hset : ∀ r : Reg, M.testBit r.ctorIdx = true ∨ keptAlways ⟨r, 0, []⟩ = true := fun r => by
    cases r <;> first | exact .inr rfl | exact .inl (hM.has (by decide))
  have hkeep : ∀ k : RegKey, M.testBit k.reg.ctorIdx = false → keptAlways k = true := fun k hk =>
    (hset k.reg).elim (fun h => by rw [h] at hk; cases hk) id
  have hr := hM.has (i := Reg.ctorIdx .BOOT_RESET_CAUSE) (by decide)
  unfold State.packageReset
  extract_lets seen asCold keep n1 n2
  refine Within.wr (Within.wr (Within.wr (h_s.trans ?_) _ _ _ hr) _ _ _ hr) _ _ _ (hM.has (i := Reg.ctorIdx .i_thermHold) (by decide))
  refine ⟨fun k hk => RegFile.get_filter _ _ _ fun _ => by simp [keep, hkeep k hk], fun p hp => ?_, rfl, List.prefix_refl _, Nat.le_refl _,
    fun z => ⟨RegFile.wf_filter z.regs _, rfl, rfl, rfl, rfl, rfl, z.flash⟩⟩
  have hpart : p = .now ∨ p = .out ∨ p = .flash := by
    cases p <;> first | exact absurd (hp.symm.trans (hM.has (by decide))) Bool.false_ne_true | simp
  rcases hpart with rfl | rfl | rfl <;> rfl

theorem State.thermalReset_within {M : Foot} (hM : Foot.Sub 0x7ffdfffdfffb0000000000000003ffffffffffffefffffffffffffffffffffffffffffffffffffffffffffffffffffffffffffffffffffffffffffffffffffffffffffffffffffffffffffffffff M) {s₀ s : State} (h_s : Within M s₀ s) (temp : Nat)  :
    Within M s₀ (State.thermalReset s temp) := by
  unfold State.thermalReset
  repeat' (first
    | with_reducible assumption
    | (refine Foot.Sub.has hM ?_; decide)
    | (refine Foot.Sub.trans ?_ hM; decide)
    | with_reducible refine State.packageReset_within ?_ ?_ _ _
    | with_reducible refine Within.on ?_ fun _ _ => ?_
    | split
    | (with_reducible refine Within.of_eq (by with_reducible assumption) ?_)
    | (intro _))

theorem State.thermalRelease_within {M : Foot} (hM : Foot.Sub 0x400000000000000000000000000000000000000000000000000000000000000000000000000000000000000000000000000000000000000000000 M) {s₀ s : State} (h_s : Within M s₀ s) (hottest : Nat)  :
    Within M s₀ (State.thermalRelease s hottest) := by
  unfold State.thermalRelease
  repeat' (first
    | with_reducible assumption
    | (refine Foot.Sub.has hM ?_; decide)
    | (refine Foot.Sub.trans ?_ hM; decide)
    | with_reducible refine State.wr_within ?_ _ _ _ ?_
    | with_reducible refine Within.on ?_ fun _ _ => ?_
    | split
    | (with_reducible refine Within.of_eq (by with_reducible assumption) ?_)
    | (intro _))

theorem State.writeBootCtrl_within {M : Foot} (hM : Foot.Sub 0x7ffdfffdfffb0000000000000003ffffffffffffefffffffffffffffffffffffffffffffffffffffffffffffffffffffffffffffffffffffffffffffffffffffffffffffffffffffffffffffffff M) {s₀ s : State} (h_s : Within M s₀ s) (v : Nat)  :
    Within M s₀ (State.writeBootCtrl v s) := by
  unfold State.writeBootCtrl
  repeat' (first
    | with_reducible assumption
    | (refine Foot.Sub.has hM ?_; decide)
    | (refine Foot.Sub.trans ?_ hM; decide)
    | with_reducible refine State.packageReset_within ?_ ?_ _ _
    | with_reducible refine Within.on ?_ fun _ _ => ?_
    | split
    | (with_reducible refine Within.of_eq (by with_reducible assumption) ?_)
    | (intro _))

theorem State.watchdog_within {M : Foot} (hM : Foot.Sub 0x7ffdfffdfffb0000000000000003ffffffffffffefffffffffffffffffffffffffffffffffffffffffffffffffffffffffffffffffffffffffffffffffffffffffffffffffffffffffffffffffff M) {s₀ s : State} (h_s : Within M s₀ s)   :
    Within M s₀ (State.watchdog s) := by
  unfold State.watchdog
  repeat' (first
    | with_reducible assumption
    | (refine Foot.Sub.has hM ?_; decide)
    | (refine Foot.Sub.trans ?_ hM; decide)
    | with_reducible refine State.packageReset_within ?_ ?_ _ _
    | with_reducible refine Within.on ?_ fun _ _ => ?_
    | split
    | (with_reducible refine Within.of_eq (by with_reducible assumption) ?_)
    | (intro _))

theorem State.resetRelease_within {M : Foot} (hM : Foot.Sub 0x200000000000000000000000000000000001860000000000000000000000000000000000000000000000000000100000000000000000000000000000000000000000000000000000000000000 M) {s₀ s : State} (h_s : Within M s₀ s) (mbit : Nat) (fast : Bool) (rev : Nat) (programmed : List (Nat × List Byte))  :
    Within M s₀ (State.resetRelease s mbit fast rev programmed) := by
  unfold State.resetRelease
  repeat' (first
    | with_reducible assumption
    | (refine Foot.Sub.has hM ?_; decide)
    | (refine Foot.Sub.trans ?_ hM; decide)
    | (extract_lets +onlyGivenNames x; refine Within.cut (x := x) ?_ ?_; (on_goal 2 => (clear_value x; revert x; intro _ _)); (on_goal 1 => (unfold x; clear x)))
    | (extract_lets +onlyGivenNames x; refine Within.cut (x := x.1) ?_ ?_; (on_goal 2 => (clear_value x; revert x; intro _ _)); (on_goal 1 => (unfold x; clear x)))
    | (extract_lets +onlyGivenNames x; clear_value x; revert x; intro _)
    | with_reducible refine State.wr_within ?_ _ _ _ ?_
    | with_reducible refine State.wrBool_within ?_ _ _ _ ?_
    | with_reducible refine State.flashStore_within ?_ ?_ _ _
    | with_reducible refine Within.each ?_ fun _ _ _ => ?_
    | with_reducible refine Within.ite ?_ ?_
    | with_reducible refine Within.ite_fst ?_ ?_
    | split
    | (with_reducible refine Within.of_eq (by with_reducible assumption) ?_))

theorem State.bootStops_within {M : Foot} (hM : Foot.Sub 0x20000000000000000000000000000000000000000000000000000000000000000000000000000000000000000000000000000000000000000000 M) {s₀ s : State} (h_s : Within M s₀ s)   :
    Within M s₀ (State.bootStops s) := by
  unfold State.bootStops
  repeat' (first
    | with_reducible assumption
    | (refine Foot.Sub.has hM ?_; decide)
    | (refine Foot.Sub.trans ?_ hM; decide)
    | with_reducible refine State.wr_within ?_ _ _ _ ?_
    | split
    | (with_reducible refine Within.of_eq (by with_reducible assumption) ?_))

theorem State.bootDirectory_within {M : Foot} (hM : Foot.Sub 0x120000000000000000000000000000000000000000000000000000100000000000000000000000000000000000000000000000000000000000000 M) {s₀ s : State} (h_s : Within M s₀ s)   :
    Within M s₀ (State.bootDirectory s) := by
  unfold State.bootDirectory
  repeat' (first
    | with_reducible assumption
    | (refine Foot.Sub.has hM ?_; decide)
    | (refine Foot.Sub.trans ?_ hM; decide)
    | (extract_lets +onlyGivenNames x; refine Within.cut (x := x) ?_ ?_; (on_goal 2 => (clear_value x; revert x; intro _ _)); (on_goal 1 => (unfold x; clear x)))
    | (extract_lets +onlyGivenNames x; refine Within.cut (x := x.1) ?_ ?_; (on_goal 2 => (clear_value x; revert x; intro _ _)); (on_goal 1 => (unfold x; clear x)))
    | (extract_lets +onlyGivenNames x; clear_value x; revert x; intro _)
    | with_reducible refine State.wr_within ?_ _ _ _ ?_
    | with_reducible refine State.wrBool_within ?_ _ _ _ ?_
    | with_reducible refine State.bootStops_within ?_ ?_
    | with_reducible refine Within.ite ?_ ?_
    | with_reducible refine Within.ite_fst ?_ ?_
    | split
    | (with_reducible refine Within.of_eq (by with_reducible assumption) ?_))

theorem State.bootRetire_within {M : Foot} (hM : Foot.Sub 0x2000000000000000000000000000280000000000000000000000000000000000000000000000000000140000200000000800000000000000000000000000000000000000000000000 M) {s₀ s : State} (h_s : Within M s₀ s) (d : Nat)  :
    Within M s₀ (State.bootRetire s d) := by
  unfold State.bootRetire
  repeat' (first
    | with_reducible assumption
    | (refine Foot.Sub.has hM ?_; decide)
    | (refine Foot.Sub.trans ?_ hM; decide)
    | (extract_lets +onlyGivenNames x; refine Within.cut (x := x) ?_ ?_; (on_goal 2 => (clear_value x; revert x; intro _ _)); (on_goal 1 => (unfold x; clear x)))
    | (extract_lets +onlyGivenNames x; refine Within.cut (x := x.1) ?_ ?_; (on_goal 2 => (clear_value x; revert x; intro _ _)); (on_goal 1 => (unfold x; clear x)))
    | (extract_lets +onlyGivenNames x; clear_value x; revert x; intro _)
    | with_reducible refine State.wr_within ?_ _ _ _ ?_
    | with_reducible refine Within.on ?_ fun _ _ => ?_
    | split
    | with_reducible refine Within.set_control ?_ _ ?_
    | (with_reducible refine Within.of_eq (by with_reducible assumption) ?_)
    | (intro _))

theorem State.selfCheck_within {M : Foot} (hM : Foot.Sub 0x20000000000000000000000000003a0000000000000000000000000000000000000000000000000000140000200000000800000000000000000000000000000000000000000000000 M) {s₀ s : State} (h_s : Within M s₀ s) (d : Nat) (pass : Bool)  :
    Within M s₀ (State.selfCheck s d pass) := by
  unfold State.selfCheck
  repeat' (first
    | with_reducible assumption
    | (refine Foot.Sub.has hM ?_; decide)
    | (refine Foot.Sub.trans ?_ hM; decide)
    | (extract_lets +onlyGivenNames x; refine Within.cut (x := x) ?_ ?_; (on_goal 2 => (clear_value x; revert x; intro _ _)); (on_goal 1 => (unfold x; clear x)))
    | (extract_lets +onlyGivenNames x; refine Within.cut (x := x.1) ?_ ?_; (on_goal 2 => (clear_value x; revert x; intro _ _)); (on_goal 1 => (unfold x; clear x)))
    | (extract_lets +onlyGivenNames x; clear_value x; revert x; intro _)
    | with_reducible refine State.wr_within ?_ _ _ _ ?_
    | with_reducible refine State.bootRetire_within ?_ ?_ _
    | with_reducible refine State.bootDirectory_within ?_ ?_
    | with_reducible refine State.bootStops_within ?_ ?_
    | with_reducible refine Within.ite ?_ ?_
    | with_reducible refine Within.ite_fst ?_ ?_
    | split
    | (with_reducible refine Within.of_eq (by with_reducible assumption) ?_))

theorem State.selfCheckTimeout_within {M : Foot} (hM : Foot.Sub 0x20000000000000000000000000003a0000000000000000000000000000000000000000000000000000140000200000000800000000000000000000000000000000000000000000000 M) {s₀ s : State} (h_s : Within M s₀ s)   :
    Within M s₀ (State.selfCheckTimeout s) := by
  unfold State.selfCheckTimeout
  repeat' (first
    | with_reducible assumption
    | (refine Foot.Sub.has hM ?_; decide)
    | (refine Foot.Sub.trans ?_ hM; decide)
    | (extract_lets +onlyGivenNames x; refine Within.cut (x := x) ?_ ?_; (on_goal 2 => (clear_value x; revert x; intro _ _)); (on_goal 1 => (unfold x; clear x)))
    | (extract_lets +onlyGivenNames x; refine Within.cut (x := x.1) ?_ ?_; (on_goal 2 => (clear_value x; revert x; intro _ _)); (on_goal 1 => (unfold x; clear x)))
    | (extract_lets +onlyGivenNames x; clear_value x; revert x; intro _)
    | with_reducible refine State.bootRetire_within ?_ ?_ _
    | with_reducible refine State.bootDirectory_within ?_ ?_
    | with_reducible refine State.bootStops_within ?_ ?_
    | with_reducible refine Within.ite ?_ ?_
    | with_reducible refine Within.ite_fst ?_ ?_
    | split
    | (with_reducible refine Within.of_eq (by with_reducible assumption) ?_))

theorem State.setImageState_within {M : Foot} (hM : Foot.Sub 0x100000000000000000000000000000000000000000000000000000000000000 M) {s₀ s : State} (h_s : Within M s₀ s) (k : Nat) (st : Nat)  :
    Within M s₀ (State.setImageState s k st) := by
  unfold State.setImageState
  repeat' (first
    | with_reducible assumption
    | (refine Foot.Sub.has hM ?_; decide)
    | (refine Foot.Sub.trans ?_ hM; decide)
    | (split <;> (refine Foot.Sub.has hM ?_; decide))
    | with_reducible refine State.wr_within ?_ _ _ _ ?_
    | with_reducible refine Within.ite ?_ ?_
    | with_reducible refine Within.ite_fst ?_ ?_
    | split
    | (with_reducible refine Within.of_eq (by with_reducible assumption) ?_))

theorem State.imageFails_within {M : Foot} (hM : Foot.Sub 0x120000000000000000000000000000000000000000000000000000100000000000000000000000000000000000000000000000000000000000000 M) {s₀ s : State} (h_s : Within M s₀ s) (blank : Bool)  :
    Within M s₀ (State.imageFails s blank) := by
  unfold State.imageFails
  repeat' (first
    | with_reducible assumption
    | (refine Foot.Sub.has hM ?_; decide)
    | (refine Foot.Sub.trans ?_ hM; decide)
    | (split <;> (refine Foot.Sub.has hM ?_; decide))
    | (extract_lets +onlyGivenNames x; refine Within.cut (x := x) ?_ ?_; (on_goal 2 => (clear_value x; revert x; intro _ _)); (on_goal 1 => (unfold x; clear x)))
    | (extract_lets +onlyGivenNames x; refine Within.cut (x := x.1) ?_ ?_; (on_goal 2 => (clear_value x; revert x; intro _ _)); (on_goal 1 => (unfold x; clear x)))
    | (extract_lets +onlyGivenNames x; clear_value x; revert x; intro _)
    | with_reducible refine State.setImageState_within ?_ ?_ _ _
    | with_reducible refine State.wr_within ?_ _ _ _ ?_
    | with_reducible refine State.bootStops_within ?_ ?_
    | with_reducible refine Within.ite ?_ ?_
    | with_reducible refine Within.ite_fst ?_ ?_
    | split
    | (with_reducible refine Within.of_eq (by with_reducible assumption) ?_))

theorem State.imageLoaded_within {M : Foot} (hM : Foot.Sub 0x30000000000120000000000000000000000000000000000000000000000000000100000000000000000000000000000000000000000000000000000000000000 M) {s₀ s : State} (h_s : Within M s₀ s) (digest : Bool)  :
    Within M s₀ (State.imageLoaded s digest) := by
  unfold State.imageLoaded
  repeat' (first
    | with_reducible assumption
    | (refine Foot.Sub.has hM ?_; decide)
    | (refine Foot.Sub.trans ?_ hM; decide)
    | (extract_lets +onlyGivenNames x; refine Within.cut (x := x) ?_ ?_; (on_goal 2 => (clear_value x; revert x; intro _ _)); (on_goal 1 => (unfold x; clear x)))
    | (extract_lets +onlyGivenNames x; refine Within.cut (x := x.1) ?_ ?_; (on_goal 2 => (clear_value x; revert x; intro _ _)); (on_goal 1 => (unfold x; clear x)))
    | (extract_lets +onlyGivenNames x; clear_value x; revert x; intro _)
    | with_reducible refine State.imageFails_within ?_ ?_ _
    | with_reducible refine State.wr_within ?_ _ _ _ ?_
    | with_reducible refine Within.ite ?_ ?_
    | with_reducible refine Within.ite_fst ?_ ?_
    | split
    | (with_reducible refine Within.of_eq (by with_reducible assumption) ?_))

theorem State.signatureChecked_within {M : Foot} (hM : Foot.Sub 0x120000000000000000000000000000000000000000000000000002100000000000000000000000000000000000000000000000000000000000000 M) {s₀ s : State} (h_s : Within M s₀ s) (ok : Bool)  :
    Within M s₀ (State.signatureChecked s ok) := by
  unfold State.signatureChecked
  repeat' (first
    | with_reducible assumption
    | (refine Foot.Sub.has hM ?_; decide)
    | (refine Foot.Sub.trans ?_ hM; decide)
    | (extract_lets +onlyGivenNames x; refine Within.cut (x := x) ?_ ?_; (on_goal 2 => (clear_value x; revert x; intro _ _)); (on_goal 1 => (unfold x; clear x)))
    | (extract_lets +onlyGivenNames x; refine Within.cut (x := x.1) ?_ ?_; (on_goal 2 => (clear_value x; revert x; intro _ _)); (on_goal 1 => (unfold x; clear x)))
    | (extract_lets +onlyGivenNames x; clear_value x; revert x; intro _)
    | with_reducible refine State.imageFails_within ?_ ?_ _
    | with_reducible refine State.setImageState_within ?_ ?_ _ _
    | with_reducible refine State.wr_within ?_ _ _ _ ?_
    | with_reducible refine State.wrBool_within ?_ _ _ _ ?_
    | with_reducible refine Within.ite ?_ ?_
    | with_reducible refine Within.ite_fst ?_ ?_
    | split
    | (with_reducible refine Within.of_eq (by with_reducible assumption) ?_))

theorem State.storeLoad_within {M : Foot} (hM : Foot.Sub 0xc0081860000000000000000000000000000000000000020000000083000078802020004bc00000000000027f900000000010000000089800000000000000000000000000000000001b001200008 M) {s₀ s : State} (h_s : Within M s₀ s)   :
    Within M s₀ (State.storeLoad s) := by
  unfold State.storeLoad
  repeat' (first
    | with_reducible assumption
    | (refine Foot.Sub.has hM ?_; decide)
    | (refine Foot.Sub.trans ?_ hM; decide)
    | (extract_lets +onlyGivenNames x; refine Within.cut (x := x) ?_ ?_; (on_goal 2 => (clear_value x; revert x; intro _ _)); (on_goal 1 => (unfold x; clear x)))
    | (extract_lets +onlyGivenNames x; refine Within.cut (x := x.1) ?_ ?_; (on_goal 2 => (clear_value x; revert x; intro _ _)); (on_goal 1 => (unfold x; clear x)))
    | (extract_lets +onlyGivenNames x; clear_value x; revert x; intro _)
    | with_reducible refine State.loadFactory_within ?_ ?_
    | with_reducible refine State.wr_within ?_ _ _ _ ?_
    | with_reducible refine State.loadImage_within ?_ ?_ _
    | with_reducible refine State.showTrims_within ?_ ?_ _ _
    | with_reducible refine State.syncSpares_within ?_ ?_ _
    | with_reducible refine State.flag_within ?_ ?_ _ _ ?_
    | with_reducible refine State.raisePkg_within ?_ ?_ _ _
    | with_reducible refine Within.on ?_ fun _ _ => ?_
    | with_reducible refine Within.each ?_ fun _ _ _ => ?_
    | with_reducible refine Within.ite ?_ ?_
    | with_reducible refine Within.ite_fst ?_ ?_
    | split
    | (with_reducible refine Within.of_eq (by with_reducible assumption) ?_)
    | (intro _))

theorem State.cmpRecord_within {M : Foot} (hM : Foot.Sub 0x100000000001000000000000000000000000000000000000000200000 M) {s₀ s : State} (h_s : Within M s₀ s) (d : Nat) (k : Nat)  :
    Within M s₀ (State.cmpRecord s d k) := by
  unfold State.cmpRecord
  repeat' (first
    | with_reducible assumption
    | (refine Foot.Sub.has hM ?_; decide)
    | (refine Foot.Sub.trans ?_ hM; decide)
    | (extract_lets +onlyGivenNames x; refine Within.cut (x := x) ?_ ?_; (on_goal 2 => (clear_value x; revert x; intro _ _)); (on_goal 1 => (unfold x; clear x)))
    | (extract_lets +onlyGivenNames x; refine Within.cut (x := x.1) ?_ ?_; (on_goal 2 => (clear_value x; revert x; intro _ _)); (on_goal 1 => (unfold x; clear x)))
    | (extract_lets +onlyGivenNames x; clear_value x; revert x; intro _)
    | with_reducible refine State.setCmpSpare_within ?_ ?_ _ _ _ _
    | with_reducible refine State.syncSpares_within ?_ ?_ _
    | split
    | (with_reducible refine Within.of_eq (by with_reducible assumption) ?_))

theorem State.applyRecord_within {M : Foot} (hM : Foot.Sub 0xe3ffbbea9e00000000000000000000000000000000000e00008000831c000000960e0f901801001e41000e7ff00004001ff3c00020089d840000000000038069a870e020020100000a881300000 M) {s₀ s : State} (h_s : Within M s₀ s) (r : BobRec)  :
    Within M s₀ (State.applyRecord s r) := by
  unfold State.applyRecord
  repeat' (first
    | with_reducible assumption
    | (refine Foot.Sub.has hM ?_; decide)
    | (refine Foot.Sub.trans ?_ hM; decide)
    | (extract_lets +onlyGivenNames x; refine Within.cut (x := x) ?_ ?_; (on_goal 2 => (clear_value x; revert x; intro _ _)); (on_goal 1 => (unfold x; clear x)))
    | (extract_lets +onlyGivenNames x; refine Within.cut (x := x.1) ?_ ?_; (on_goal 2 => (clear_value x; revert x; intro _ _)); (on_goal 1 => (unfold x; clear x)))
    | with_reducible refine State.withdrawUnit_within ?_ ?_ _
    | with_reducible refine State.wr_within ?_ _ _ _ ?_
    | with_reducible refine State.syncSpares_within ?_ ?_ _
    | with_reducible refine State.syncLanes_within ?_ ?_ _
    | with_reducible refine State.laneCheckDie_within ?_ ?_ _
    | with_reducible refine State.cmpRecord_within ?_ ?_ _ _
    | with_reducible refine State.setCmpSpare_within ?_ ?_ _ _ _ _
    | with_reducible refine Within.on ?_ fun _ _ => ?_
    | with_reducible refine Within.each ?_ fun _ _ _ => ?_
    | split
    | (with_reducible refine Within.of_eq (by with_reducible assumption) ?_)
    | (intro _))

theorem State.firmwareStart_within {M : Foot} (hM : Foot.Sub 0xe3ffbbea9e20000000000000000000000000000200000e00008000831c007880b62e0fdbd801001e41000e7ff00004001ff3c00020089d840000000000038069a870e020020100001b881300008 M) {s₀ s : State} (h_s : Within M s₀ s)   :
    Within M s₀ (State.firmwareStart s) := by
  unfold State.firmwareStart
  repeat' (first
    | with_reducible assumption
    | (refine Foot.Sub.has hM ?_; decide)
    | (refine Foot.Sub.trans ?_ hM; decide)
    | (extract_lets +onlyGivenNames x; refine Within.cut (x := x) ?_ ?_; (on_goal 2 => (clear_value x; revert x; intro _ _)); (on_goal 1 => (unfold x; clear x)))
    | (extract_lets +onlyGivenNames x; refine Within.cut (x := x.1) ?_ ?_; (on_goal 2 => (clear_value x; revert x; intro _ _)); (on_goal 1 => (unfold x; clear x)))
    | (extract_lets +onlyGivenNames x; clear_value x; revert x; intro _)
    | with_reducible refine State.storeLoad_within ?_ ?_
    | with_reducible refine State.bobState_within ?_ ?_ _ _
    | with_reducible refine State.applyRecord_within ?_ ?_ _
    | with_reducible refine State.raisePkg_within ?_ ?_ _ _
    | with_reducible refine State.wr_within ?_ _ _ _ ?_
    | with_reducible refine Within.on ?_ fun _ _ => ?_
    | with_reducible refine Within.each ?_ fun _ _ _ => ?_
    | with_reducible refine Within.ite ?_ ?_
    | with_reducible refine Within.ite_fst ?_ ?_
    | split
    | with_reducible refine Within.set_control ?_ _ ?_
    | (with_reducible refine Within.of_eq (by with_reducible assumption) ?_)
    | (intro _))

theorem State.pcFails_within {M : Foot} (hM : Foot.Sub 0xe3ffbbea9e00000000000000000000000000000000000e00008000831c000000960e0f901801001e41000e7ff00004001ff3c00020089d840000000000038069a870e020020100000a881300000 M) {s₀ s : State} (h_s : Within M s₀ s) (d : Nat) (h : Nat) (p : Nat)  :
    Within M s₀ (State.pcFails s d h p) := by
  unfold State.pcFails
  repeat' (first
    | with_reducible assumption
    | (refine Foot.Sub.has hM ?_; decide)
    | (refine Foot.Sub.trans ?_ hM; decide)
    | (extract_lets +onlyGivenNames x; refine Within.cut (x := x) ?_ ?_; (on_goal 2 => (clear_value x; revert x; intro _ _)); (on_goal 1 => (unfold x; clear x)))
    | (extract_lets +onlyGivenNames x; refine Within.cut (x := x.1) ?_ ?_; (on_goal 2 => (clear_value x; revert x; intro _ _)); (on_goal 1 => (unfold x; clear x)))
    | (extract_lets +onlyGivenNames x; clear_value x; revert x; intro _)
    | with_reducible refine State.raisePkg_within ?_ ?_ _ _
    | with_reducible refine State.wr_within ?_ _ _ _ ?_
    | with_reducible refine State.bobState_within ?_ ?_ _ _
    | with_reducible refine State.syncSpares_within ?_ ?_ _
    | with_reducible refine State.applyRecord_within ?_ ?_ _
    | with_reducible refine State.withdrawPc_within ?_ ?_ _ _ _
    | with_reducible refine Within.ite ?_ ?_
    | with_reducible refine Within.ite_fst ?_ ?_
    | split
    | (with_reducible refine Within.of_eq (by with_reducible assumption) ?_))

theorem State.stackFails_within {M : Foot} (hM : Foot.Sub 0xe3efbbea9e00000000000000000000000000000000000e000080008300000000940e0f90180000000100067ff00000001e63c000200899040000000000038068a8602020020000000a881300000 M) {s₀ s : State} (h_s : Within M s₀ s) (d : Nat) (h : Nat)  :
    Within M s₀ (State.stackFails s d h) := by
  unfold State.stackFails
  repeat' (first
    | with_reducible assumption
    | (refine Foot.Sub.has hM ?_; decide)
    | (refine Foot.Sub.trans ?_ hM; decide)
    | with_reducible refine State.withdrawStack_within ?_ ?_ _ _
    | with_reducible refine State.bobState_within ?_ ?_ _ _
    | with_reducible refine State.raisePkg_within ?_ ?_ _ _
    | split
    | (with_reducible refine Within.of_eq (by with_reducible assumption) ?_))

theorem State.hbmTrained_within {M : Foot} (hM : Foot.Sub 0xe3ffbbea9e00000000000000000000000000000200000e00008000831c000000960e0f901801001e41000e7ff00004001ff3c00020089d840000000000038069a870e020020100000a881300000 M) {s₀ s : State} (h_s : Within M s₀ s) (lost : List (Nat × Nat)) (pcs : List (Nat × Nat × Nat))  :
    Within M s₀ (State.hbmTrained s lost pcs) := by
  unfold State.hbmTrained
  repeat' (first
    | with_reducible assumption
    | (refine Foot.Sub.has hM ?_; decide)
    | (refine Foot.Sub.trans ?_ hM; decide)
    | (extract_lets +onlyGivenNames x; refine Within.cut (x := x) ?_ ?_; (on_goal 2 => (clear_value x; revert x; intro _ _)); (on_goal 1 => (unfold x; clear x)))
    | (extract_lets +onlyGivenNames x; refine Within.cut (x := x.1) ?_ ?_; (on_goal 2 => (clear_value x; revert x; intro _ _)); (on_goal 1 => (unfold x; clear x)))
    | (extract_lets +onlyGivenNames x; clear_value x; revert x; intro _)
    | with_reducible refine State.stackFails_within ?_ ?_ _ _
    | with_reducible refine State.wr_within ?_ _ _ _ ?_
    | with_reducible refine State.pcFails_within ?_ ?_ _ _ _
    | with_reducible refine Within.on ?_ fun _ _ => ?_
    | with_reducible refine Within.each ?_ fun _ _ _ => ?_
    | with_reducible refine Within.ite ?_ ?_
    | with_reducible refine Within.ite_fst ?_ ?_
    | split
    | (with_reducible refine Within.of_eq (by with_reducible assumption) ?_)
    | (intro _))

theorem State.tapReset_within {M : Foot} (hM : Foot.Sub 0x10000000000000000000000000000000000000000000000000000000000000000000000000000000000000000000000000000000000000000000 M) {s₀ s : State} (h_s : Within M s₀ s)   :
    Within M s₀ (State.tapReset s) := by
  unfold State.tapReset
  repeat' (first
    | with_reducible assumption
    | (refine Foot.Sub.has hM ?_; decide)
    | (refine Foot.Sub.trans ?_ hM; decide)
    | with_reducible refine State.wr_within ?_ _ _ _ ?_
    | split
    | (with_reducible refine Within.of_eq (by with_reducible assumption) ?_))

theorem State.tapLoad_within {M : Foot} (hM : Foot.Sub 0x10000000000000000000000000000000000000000000000000000000000000000000000000000000000000000000000000000000000000000000 M) {s₀ s : State} (h_s : Within M s₀ s) (d : Nat) (i : TapInstr)  :
    Within M s₀ (State.tapLoad s d i) := by
  unfold State.tapLoad
  repeat' (first
    | with_reducible assumption
    | (refine Foot.Sub.has hM ?_; decide)
    | (refine Foot.Sub.trans ?_ hM; decide)
    | (split <;> (refine Foot.Sub.has hM ?_; decide))
    | with_reducible refine State.wr_within ?_ _ _ _ ?_
    | with_reducible refine Within.on ?_ fun _ _ => ?_
    | with_reducible refine Within.ite ?_ ?_
    | with_reducible refine Within.ite_fst ?_ ?_
    | split
    | (with_reducible refine Within.of_eq (by with_reducible assumption) ?_)
    | (intro _))

theorem State.tapLeaveHold_within {M : Foot} (hM : Foot.Sub 0x10000000000000000000000000000000000000000000000000000000000000000000000000000000000000000000000000000000000000000000 M) {s₀ s : State} (h_s : Within M s₀ s)   :
    Within M s₀ (State.tapLeaveHold s) := by
  unfold State.tapLeaveHold
  repeat' (first
    | with_reducible assumption
    | (refine Foot.Sub.has hM ?_; decide)
    | (refine Foot.Sub.trans ?_ hM; decide)
    | with_reducible refine State.wr_within ?_ _ _ _ ?_
    | with_reducible refine Within.on ?_ fun _ _ => ?_
    | with_reducible refine Within.each ?_ fun _ _ _ => ?_
    | split
    | (with_reducible refine Within.of_eq (by with_reducible assumption) ?_)
    | (intro _))

theorem State.bootThresholds_within {M : Foot} (hM : Foot.Sub 0xc00018600000000000000000000000000000000000000200008000830000000000000000000000000000027f9000000000000000000898850000000000000000000000000000000000000000000 M) {s₀ s : State} (h_s : Within M s₀ s) (d : Nat)  :
    Within M s₀ (State.bootThresholds s d) := by
  unfold State.bootThresholds
  repeat' (first
    | with_reducible assumption
    | (refine Foot.Sub.has hM ?_; decide)
    | (refine Foot.Sub.trans ?_ hM; decide)
    | (extract_lets +onlyGivenNames x; refine Within.cut (x := x) ?_ ?_; (on_goal 2 => (clear_value x; revert x; intro _ _)); (on_goal 1 => (unfold x; clear x)))
    | (extract_lets +onlyGivenNames x; refine Within.cut (x := x.1) ?_ ?_; (on_goal 2 => (clear_value x; revert x; intro _ _)); (on_goal 1 => (unfold x; clear x)))
    | (extract_lets +onlyGivenNames x; clear_value x; revert x; intro _)
    | with_reducible refine State.wr_within ?_ _ _ _ ?_
    | with_reducible refine State.ovldThresholds_within ?_ ?_ _ _
    | with_reducible refine Within.each ?_ fun _ _ _ => ?_
    | split
    | (with_reducible refine Within.of_eq (by with_reducible assumption) ?_))

theorem State.factoryCurves_within {M : Foot} (hM : Foot.Sub 0x40000000000000000000000000000000000000000000000000000000000000000 M) {s₀ s : State} (h_s : Within M s₀ s) (d : Nat) (c : Nat)  :
    Within M s₀ (State.factoryCurves s d c) := by
  unfold State.factoryCurves
  repeat' (first
    | with_reducible assumption
    | (refine Foot.Sub.has hM ?_; decide)
    | (refine Foot.Sub.trans ?_ hM; decide)
    | with_reducible refine State.wr_within ?_ _ _ _ ?_
    | with_reducible refine Within.each ?_ fun _ _ _ => ?_
    | split
    | (with_reducible refine Within.of_eq (by with_reducible assumption) ?_))

theorem State.startDie_within {M : Foot} (hM : Foot.Sub 0xe4003860000000000000000000000000000000000000020002f3fc8300740100000e00000001011e4c1c727f904000000020c0440008988d0003000000000000000000000001024800000708300 M) {s₀ s : State} (h_s : Within M s₀ s) (d : Nat)  :
    Within M s₀ (State.startDie s d) := by
  unfold State.startDie
  repeat' (first
    | with_reducible assumption
    | (refine Foot.Sub.has hM ?_; decide)
    | (refine Foot.Sub.trans ?_ hM; decide)
    | (split <;> (refine Foot.Sub.has hM ?_; decide))
    | (extract_lets +onlyGivenNames x; refine Within.cut (x := x) ?_ ?_; (on_goal 2 => (clear_value x; revert x; intro _ _)); (on_goal 1 => (unfold x; clear x)))
    | (extract_lets +onlyGivenNames x; refine Within.cut (x := x.1) ?_ ?_; (on_goal 2 => (clear_value x; revert x; intro _ _)); (on_goal 1 => (unfold x; clear x)))
    | (extract_lets +onlyGivenNames x; have _h : (_ : _) → _ := x; clear _h; subst x)
    | (extract_lets +onlyGivenNames x; clear_value x; revert x; intro _)
    | with_reducible refine State.wrBool_within ?_ _ _ _ ?_
    | with_reducible refine State.factoryCurves_within ?_ ?_ _ _
    | with_reducible refine State.bootThresholds_within ?_ ?_ _
    | with_reducible refine State.cmpWakeUp_within ?_ ?_ _
    | with_reducible refine State.lgcStart_within ?_ ?_ _
    | with_reducible refine State.synLock_within ?_ ?_ _
    | with_reducible refine State.wr_within ?_ _ _ _ ?_
    | with_reducible refine Within.each ?_ fun _ _ _ => ?_
    | with_reducible refine Within.ite ?_ ?_
    | with_reducible refine Within.ite_fst ?_ ?_
    | split
    | (with_reducible refine Within.of_eq (by with_reducible assumption) ?_))

theorem State.bootReady_within {M : Foot} (hM : Foot.Sub 0xe5e7b9e001900000000000000000000c4482980300030e0282f3fc8300740104000e0f900001011e4c1c767f904480061c23c04c2008988d000300000010800000000000000102480a080708301 M) {s₀ s : State} (h_s : Within M s₀ s)   :
    Within M s₀ (State.bootReady s) := by
  unfold State.bootReady
  repeat' (first
    | with_reducible assumption
    | (refine Foot.Sub.has hM ?_; decide)
    | (refine Foot.Sub.trans ?_ hM; decide)
    | (extract_lets +onlyGivenNames x; refine Within.cut (x := x) ?_ ?_; (on_goal 2 => (clear_value x; revert x; intro _ _)); (on_goal 1 => (unfold x; clear x)))
    | (extract_lets +onlyGivenNames x; refine Within.cut (x := x.1) ?_ ?_; (on_goal 2 => (clear_value x; revert x; intro _ _)); (on_goal 1 => (unfold x; clear x)))
    | (extract_lets +onlyGivenNames x; clear_value x; revert x; intro _)
    | with_reducible refine State.wr_within ?_ _ _ _ ?_
    | with_reducible refine State.showMode_within ?_ ?_ _
    | with_reducible refine State.tapLeaveHold_within ?_ ?_
    | with_reducible refine State.wrBool_within ?_ _ _ _ ?_
    | with_reducible refine State.startDie_within ?_ ?_ _
    | with_reducible refine State.syncAligned_within ?_ ?_
    | with_reducible refine State.syncDomains_within ?_ ?_
    | with_reducible refine State.syncCard_within ?_ ?_
    | with_reducible refine State.syncScan_within ?_ ?_
    | with_reducible refine State.syncPorts_within ?_ ?_
    | with_reducible refine State.setShares_within ?_ ?_
    | with_reducible refine State.storeAsk_within ?_ ?_
    | with_reducible refine State.raisePkg_within ?_ ?_ _ _
    | with_reducible refine Within.on ?_ fun _ _ => ?_
    | with_reducible refine Within.each ?_ fun _ _ _ => ?_
    | with_reducible refine Within.ite ?_ ?_
    | with_reducible refine Within.ite_fst ?_ ?_
    | split
    | with_reducible refine Within.set_mode ?_ _ ?_
    | with_reducible refine Within.set_dt ?_ _ ?_
    | with_reducible refine Within.set_dtPrev ?_ _ ?_
    | with_reducible refine Within.set_dts ?_ _ _ ?_ ?_
    | with_reducible refine Within.set_modeDts ?_ _ _ _ ?_ ?_ ?_
    | (with_reducible refine Within.of_eq (by with_reducible assumption) ?_)
    | (intro _))

theorem State.dropDieRegs_within {M : Foot} {s₀ s : State} (h_s : Within M s₀ s) (d : Nat) (rs : List Reg)
    (h_rs : ∀ r ∈ rs, M.testBit r.ctorIdx = true) : Within M s₀ (State.dropDieRegs s d rs) := by
  unfold State.dropDieRegs
  refine Within.regsFilter h_s _ fun e he => ?_
  have : rs.contains e.1.reg = false := by
    simp only [List.contains_eq_mem, decide_eq_false_iff_not]
    intro c
    rw [h_rs _ c] at he
    cases he
  simp only [this, Bool.false_and, Bool.not_false]

theorem State.endpointReset_within {M : Foot} (hM : Foot.Sub 0xc0011bf010000000000000000000000000000200000002000000008300000000000000000000000000c00aff980000000000800031189c000000000000000001080000000000000000000000000 M) {s₀ s : State} (h_s : Within M s₀ s) (d : Nat) (cause : Fld) (linkStays : Bool) (h_cause : M.testBit cause.reg.ctorIdx = true) :
    Within M s₀ (State.endpointReset s d cause linkStays) := by
  unfold State.endpointReset
  split
  · exact h_s
  extract_lets s1 s2 routes s3 s4 s5 s6 s7 s8 s9 s10 s11
  have g1 : Within M s₀ s1 := Within.each h_s fun _ _ hu => State.queDrop_within (Foot.Sub.trans (by decide) hM) hu _ _
  have g2 : Within M s₀ s2 := State.dropDieRegs_within g1 _ _ (by simpa using
    ⟨hM.has (by decide), hM.has (by decide), hM.has (by decide), hM.has (by decide), hM.has (by decide), hM.has (by decide)⟩)
  have g3 : Within M s₀ s3 := Within.regsFilter g2 _ fun e he => by
    have : e.1.reg ≠ .EVC_ROUTE := fun c => by rw [c, hM.has (by decide)] at he; cases he
    simp [this]
  have g4 : Within M s₀ s4 := Within.each g3 fun _ _ hu => Within.on hu fun _ hv =>
    State.requestStop_within (Foot.Sub.trans (by decide) hM) hv _ _ _
  clear_value s1 s2 s3 s4
  have g5 : Within M s₀ s5 := Within.set_deferred (Within.set_outstanding (Within.set_taken g4
    (s4.taken.map fun (t : Taken) => if t.die = d then { t with dropped := true } else t) (hM.has (by decide)))
    (s4.outstanding.filter fun o => o.die != d) (hM.has (by decide)))
    (s4.deferred.map fun (x : Deferred) => if (x.cmd.map fun (p : MbxHdr × Nat) => p.1.die) = some d then { x with cmd := none } else x)
    (hM.has (by decide))
  clear_value s5
  have g6 : Within M s₀ s6 := Within.wr (State.syncMbx_within (Foot.Sub.trans (by decide) hM) g5 _) _ _ _
    (hM.has (i := Reg.ctorIdx .MBX_URG_STATUS) (by decide))
  have g7 : Within M s₀ s7 := State.wrBool_within g6 _ _ _ (hM.has (i := Reg.ctorIdx .i_fwJob) (by decide))
  clear_value s6 s7
  have g8 : Within M s₀ s8 := Within.set_deliveries g7 _ (hM.has (by decide))
  clear_value s8
  have g9 : Within M s₀ s9 := State.endDeliveries_within (Foot.Sub.trans (by decide) hM) g8 _ _
  have g10 : Within M s₀ s10 := Within.on g9 fun _ hu => Within.wr hu _ _ _ (hM.has (i := Reg.ctorIdx .i_linkL0) (by decide))
  clear_value s9 s10
  exact State.raise_within (Foot.Sub.trans (by decide) hM) (State.flag_within (Foot.Sub.trans (by decide) hM) g10 _ _ h_cause) _ _ _

end Sys2Proof.Machine
end

