-- ==== Sys2Proof/Laws/CardingWithin.lean ====
section
/-!
SUPPORT. What each operation of Machine/Carding.lean may change (`Within`), and that it keeps the state sound.
-/

namespace Sys2Proof.Machine

set_option linter.all false

theorem State.cardClaimed_within {M : Foot} (hM : Foot.Sub 0xc18e1b6000000000000000000000000000000000000002000000008300000000c40004b0000000000000027f900000001c500000200898000000000000000000000000000000000002381200000 M) {s₀ s : State} (h_s : Within M s₀ s) (d : Nat) (c : Nat) (slope : Nat)  :
    Within M s₀ (State.cardClaimed s d c slope) := by
  unfold State.cardClaimed
  repeat' (first
    | with_reducible assumption
    | (refine Foot.Sub.has hM ?_; decide)
    | (refine Foot.Sub.trans ?_ hM; decide)
    | (extract_lets +onlyGivenNames x; refine Within.cut (x := x) ?_ ?_; (on_goal 2 => (clear_value x; revert x; intro _ _)); (on_goal 1 => (unfold x; clear x)))
    | (extract_lets +onlyGivenNames x; refine Within.cut (x := x.1) ?_ ?_; (on_goal 2 => (clear_value x; revert x; intro _ _)); (on_goal 1 => (unfold x; clear x)))
    | (extract_lets +onlyGivenNames x; clear_value x; revert x; intro _)
    | with_reducible refine State.claim_within ?_ ?_ _
    | with_reducible refine State.cardUpdate_within ?_ ?_ _ _ _
    | with_reducible refine State.rtTrain_within ?_ ?_ _ _
    | with_reducible refine State.wr_within ?_ _ _ _ ?_
    | with_reducible refine State.discardInterval_within ?_ ?_ _ _
    | with_reducible refine Within.on ?_ fun _ _ => ?_
    | with_reducible refine Within.ite ?_ ?_
    | with_reducible refine Within.ite_fst ?_ ?_
    | split
    | (with_reducible refine Within.of_eq (by with_reducible assumption) ?_)
    | (intro _))

theorem State.cardStarves_within {M : Foot} (hM : Foot.Sub 0xc00018600000000000000000000000000000000000000200000000830000000000000000000000000000027f9000000000000000000898000000000000000000000000000000000000080000000 M) {s₀ s : State} (h_s : Within M s₀ s) (d : Nat) (c : Nat)  :
    Within M s₀ (State.cardStarves s d c) := by
  unfold State.cardStarves
  repeat' (first
    | with_reducible assumption
    | (refine Foot.Sub.has hM ?_; decide)
    | (refine Foot.Sub.trans ?_ hM; decide)
    | (extract_lets +onlyGivenNames x; refine Within.cut (x := x) ?_ ?_; (on_goal 2 => (clear_value x; revert x; intro _ _)); (on_goal 1 => (unfold x; clear x)))
    | (extract_lets +onlyGivenNames x; refine Within.cut (x := x.1) ?_ ?_; (on_goal 2 => (clear_value x; revert x; intro _ _)); (on_goal 1 => (unfold x; clear x)))
    | (extract_lets +onlyGivenNames x; clear_value x; revert x; intro _)
    | with_reducible refine State.wr_within ?_ _ _ _ ?_
    | with_reducible refine State.raise_within ?_ ?_ _ _ _
    | with_reducible refine Within.on ?_ fun _ _ => ?_
    | split
    | (with_reducible refine Within.of_eq (by with_reducible assumption) ?_)
    | (intro _))

theorem State.writeCombCmd_within {M : Foot} (hM : Foot.Sub 0xe3e7bb6000000000000000000000000000000000000002000080008300000000001e2880000000000000067f900000001c03c000200898040000000000008000000000000000000008c80300000 M) {s₀ s : State} (h_s : Within M s₀ s) (d : Nat) (c : Nat) (v : Nat)  :
    Within M s₀ (State.writeCombCmd d c v s) := by
  unfold State.writeCombCmd
  repeat' (first
    | with_reducible assumption
    | (refine Foot.Sub.has hM ?_; decide)
    | (refine Foot.Sub.trans ?_ hM; decide)
    | (extract_lets +onlyGivenNames x; refine Within.cut (x := x) ?_ ?_; (on_goal 2 => (clear_value x; revert x; intro _ _)); (on_goal 1 => (unfold x; clear x)))
    | (extract_lets +onlyGivenNames x; refine Within.cut (x := x.1) ?_ ?_; (on_goal 2 => (clear_value x; revert x; intro _ _)); (on_goal 1 => (unfold x; clear x)))
    | (extract_lets +onlyGivenNames x; clear_value x; revert x; intro _)
    | with_reducible refine State.wr_within ?_ _ _ _ ?_
    | with_reducible refine State.requestComb_within ?_ ?_ _ _ _ _ _ _
    | with_reducible refine State.combAbort_within ?_ ?_ _ _ _
    | with_reducible refine Within.on ?_ fun _ _ => ?_
    | split
    | (with_reducible refine Within.of_eq (by with_reducible assumption) ?_)
    | (intro _))

theorem State.combPhaseEnd_within {M : Foot} (hM : Foot.Sub 0xc20018e00000000000000000000000000000000000000e000000008300000000200e0018000000000000027f9000000000400000200898000000000000000000000000000000000003880100000 M) {s₀ s : State} (h_s : Within M s₀ s) (d : Nat) (c : Nat) (codes : List SliceCodes)  :
    Within M s₀ (State.combPhaseEnd s d c codes) := by
  unfold State.combPhaseEnd
  repeat' (first
    | with_reducible assumption
    | (refine Foot.Sub.has hM ?_; decide)
    | (refine Foot.Sub.trans ?_ hM; decide)
    | with_reducible refine State.combPhase_within ?_ ?_ _ _ _
    | with_reducible refine Within.on ?_ fun _ _ => ?_
    | split
    | (with_reducible refine Within.of_eq (by with_reducible assumption) ?_)
    | (intro _))

theorem State.combLast_within {M : Foot} (hM : Foot.Sub 0xe3e7bb600000000000000000000000000000000000000200008000830000000000040880000000000000067f900000001c03c000200898040000000000008000000000000000000008880300000 M) {s₀ s : State} (h_s : Within M s₀ s) (d : Nat) (c : Nat)  :
    Within M s₀ (State.combLast s d c) := by
  unfold State.combLast
  repeat' (first
    | with_reducible assumption
    | (refine Foot.Sub.has hM ?_; decide)
    | (refine Foot.Sub.trans ?_ hM; decide)
    | with_reducible refine State.combDone_within ?_ ?_ _ _ _
    | with_reducible refine Within.on ?_ fun _ _ => ?_
    | split
    | (with_reducible refine Within.of_eq (by with_reducible assumption) ?_)
    | (intro _))

end Sys2Proof.Machine
end

