-- ==== Sys2Proof/Laws/ConditionWithin.lean ====
section
/-!
SUPPORT. What each operation of Machine/Condition.lean may change (`Within`), and that it keeps the state sound.
-/

namespace Sys2Proof.Machine

set_option linter.all false

theorem State.writeCond_within {M : Foot} (hM : Foot.Sub 0xc4001860000000000000000000000000000000000000020000000083000000000000000000000000001df27f9000000000000000000898000000000000000000000000000000076e00000000000 M) {s₀ s : State} (h_s : Within M s₀ s) (d : Nat) (c : Nat) (r : Nat) (v : Nat)  :
    Within M s₀ (State.writeCond d c r v s).1 := by
  unfold State.writeCond
  repeat' (first
    | with_reducible assumption
    | (refine Foot.Sub.has hM ?_; decide)
    | (refine Foot.Sub.trans ?_ hM; decide)
    | (extract_lets +onlyGivenNames x; refine Within.cut (x := x) ?_ ?_; (on_goal 2 => (clear_value x; revert x; intro _ _)); (on_goal 1 => (unfold x; clear x)))
    | (extract_lets +onlyGivenNames x; refine Within.cut (x := x.1) ?_ ?_; (on_goal 2 => (clear_value x; revert x; intro _ _)); (on_goal 1 => (unfold x; clear x)))
    | (extract_lets +onlyGivenNames x; clear_value x; revert x; intro _)
    | with_reducible refine State.writeDecCtrl_within ?_ ?_ _ _ _
    | with_reducible refine State.writeDecRatio_within ?_ ?_ _ _ _
    | with_reducible refine State.writeFirCtrl_within ?_ ?_ _ _ _
    | with_reducible refine State.writeRsmCtrl_within ?_ ?_ _ _ _
    | with_reducible refine State.writeRsmRatio_within ?_ ?_ _ _ _
    | split
    | (with_reducible refine Within.of_eq (by with_reducible assumption) ?_))

end Sys2Proof.Machine
end

