-- ==== Sys2Proof/Laws/Word.lean ====
section
/-!
SUPPORT. Laws of bits and fields.
-/

namespace Sys2Proof

/-- Bits of a number as Nat.testBit has them. -/
theorem bitAt_eq_testBit (n i : Nat) : bitAt n i = n.testBit i := by
  rw [bitAt, Nat.testBit_eq_decide_div_mod_eq]
  by_cases h : n / 2 ^ i % 2 = 1
  · rw [h]; rfl
  · rw [decide_eq_false h]; exact beq_eq_false_iff_ne.2 h

/-- The bit that was set reads 1. -/
theorem bitAt_setBit_self (n i : Nat) : bitAt (setBit n i) i = true := by
  unfold setBit
  split
  · assumption
  · rename_i h
    rw [bitAt, Bool.not_eq_true, beq_eq_false_iff_ne] at h
    rw [bitAt, beq_iff_eq, Nat.add_div_right _ (by positivity)]
    omega

/-- Adding the weight of a clear bit keeps the bits above. -/
theorem testBit_add_two_pow {n j k : Nat} (h : n.testBit j = false) (hk : j < k) : (n + 2 ^ j).testBit k = n.testBit k := by
  have e : n = 2 ^ (j + 1) * (n / 2 ^ (j + 1)) + n % 2 ^ (j + 1) := (Nat.div_add_mod _ _).symm
  have hlt : n % 2 ^ (j + 1) < 2 ^ j := by
    rw [Nat.mod_pow_succ]
    rw [Nat.testBit_eq_decide_div_mod_eq] at h
    have : n / 2 ^ j % 2 = 0 := by simp at h; omega
    rw [this]
    simp only [Nat.mul_zero, Nat.add_zero]
    exact Nat.mod_lt _ (by positivity)
  have hp : 2 ^ (j + 1) = 2 ^ j * 2 := Nat.pow_succ 2 j
  have hl' : n % 2 ^ (j + 1) < 2 ^ (j + 1) := Nat.mod_lt _ (by positivity)
  have hl : n % 2 ^ (j + 1) + 2 ^ j < 2 ^ (j + 1) := by
    generalize n % 2 ^ (j + 1) = x at hlt
    omega
  conv_lhs => rw [e, Nat.add_assoc]
  conv_rhs => rw [e]
  obtain ⟨m, rfl⟩ : ∃ m, k = j + 1 + m := ⟨k - (j + 1), by omega⟩
  rw [Nat.testBit_two_pow_mul_add _ hl, Nat.testBit_two_pow_mul_add _ hl', if_neg (by omega), if_neg (by omega)]

/-- Setting a bit keeps each bit that is set. -/
theorem bitAt_setBit_mono {n i : Nat} (j : Nat) (h : bitAt n i = true) : bitAt (setBit n j) i = true := by
  unfold setBit
  split
  · exact h
  · rename_i hj
    rw [bitAt_eq_testBit] at h hj ⊢
    rw [Bool.not_eq_true] at hj
    by_cases e : i = j
    · subst e; rw [h] at hj; cases hj
    · rw [Nat.add_comm]
      rcases Nat.lt_or_gt_of_ne e with e | e
      · rw [Nat.testBit_two_pow_add_gt e]; exact h
      · rw [Nat.add_comm, testBit_add_two_pow hj e]; exact h

/-- Cutting to a width keeps the bits below it. -/
theorem bitAt_trunc {w i : Nat} (h : i < w) (n : Nat) : bitAt (trunc w n) i = bitAt n i := by
  rw [bitAt_eq_testBit, bitAt_eq_testBit, Nat.testBit_mod_two_pow]
  simp [h]

end Sys2Proof
end

