-- ==== Sys2Proof/Laws/Events.lean ====
section
/-!
SUPPORT. What raising an event does to the pending words (R321): it sets the source's bit and clears none, not even where its record meets
a full queue and raises QUE_OVERFLOW (R327).
-/

namespace Sys2Proof.Machine

/-- The pending words after a raise but for its records. -/
theorem State.noteRaise_pend {s : State} (hs : s.Sound) (d src payload : Nat) (jx : List Nat) :
    (s.noteRaise d src payload).rd F.EVC_PEND.PEND jx =
      if jx = [d, src / 32] then trunc 32 (setBit (s.rd F.EVC_PEND.PEND [d, src / 32]) (src % 32)) else s.rd F.EVC_PEND.PEND jx := by
  unfold State.noteRaise
  extract_lets s₁ s₂
  have h₁ := State.rd_wr hs.regs F.EVC_PEND.PEND F.EVC_PEND.PEND [d, src / 32] jx (setBit (s.rd F.EVC_PEND.PEND [d, src / 32]) (src % 32))
  simp only [true_and] at h₁
  rw [← h₁]
  let M : Foot := Foot.of [.i_raiseCount, .i_lastPayload, .i_heldOn, .i_heldTicks] [.fresh]
  have w : Within M (s.wr F.EVC_PEND.PEND [d, src / 32] (setBit (s.rd F.EVC_PEND.PEND [d, src / 32]) (src % 32)))
      (s₂.on (State.heldSource src && !s₂.isSet F.EVC_ROUTE.EN [d, src]) fun s =>
        (s.wr I.heldOn [d, src] 1).wr I.heldTicks [d, src] (s.blkOf d)) := by
    refine Within.on ?_ fun u hu => ?_
    · exact Within.wr (State.inc_within (Within.set_fresh (Within.refl _ _) _ (by decide +kernel)) _ _
        (by decide +kernel)) _ _ _ (by decide +kernel)
    · exact Within.wr (Within.wr hu _ _ _ (by decide +kernel)) _ _ _ (by decide +kernel)
  exact w.rd _ _ (by decide +kernel)

/-- Such a raise sets its own pending bit. -/
theorem State.noteRaise_pends {s : State} (hs : s.Sound) (d src payload : Nat) : (s.noteRaise d src payload).pends d src = true := by
  rw [State.pends, State.noteRaise_pend hs, if_pos rfl, bitAt_trunc (Nat.mod_lt _ (by decide)), bitAt_setBit_self]

/-- Such a raise clears no pending bit. -/
theorem State.noteRaise_keeps {s : State} (hs : s.Sound) (d src payload : Nat) {e x : Nat} (h : s.pends e x = true) :
    (s.noteRaise d src payload).pends e x = true := by
  rw [State.pends, State.noteRaise_pend hs]
  split
  · rename_i c
    rw [bitAt_trunc (Nat.mod_lt _ (by decide))]
    refine bitAt_setBit_mono _ ?_
    rw [← c]; exact h
  · exact h

theorem State.noteRaise_sound {s : State} (hs : s.Sound) (d src payload : Nat) : (s.noteRaise d src payload).Sound :=
  (State.noteRaise_within (M := 2 ^ 700 - 1) (by decide +kernel) (Within.refl _ s) d src payload).sound hs

/-- The firmware route leaves the pending words as they are. -/
theorem State.fwRoute_pends (s : State) (d src payload : Nat) (kind : State.EventKind) (e x : Nat) :
    (s.fwRoute d src payload kind).pends e x = s.pends e x := by
  have w : Within (Foot.of [.i_levelHeldFw] [.fwRecords]) s (s.fwRoute d src payload kind) :=
    State.fwRoute_within (by decide +kernel) (Within.refl _ _) _ _ _ _
  rw [State.pends, State.pends, w.rd _ _ (by decide +kernel)]

/-- Writing or dropping a record leaves the pending words as they are. -/
theorem State.putRecord_pends (s : State) (r : EventRec) (e x : Nat) : (s.putRecord r).1.pends e x = s.pends e x := by
  have w : Within (Foot.of [.QUE_STATUS, .QUE_PTR, .QUE_LOST, .MSIX_PBA, .i_levelHeld, .i_ovfBefore, .i_coalCount, .i_coalDeadline,
      .i_coalTimed, .i_coreAsleep, .i_coreWoke, .i_firedAt] [.out, .ringRecs, .coreReqs, .fresh]) s (s.putRecord r).1 :=
    State.putRecord_within (by decide +kernel) (Within.refl _ _) _
  rw [State.pends, State.pends, w.rd _ _ (by decide +kernel)]

theorem State.putRecord_sound {s : State} (hs : s.Sound) (r : EventRec) : (s.putRecord r).1.Sound :=
  (State.putRecord_within (M := 2 ^ 700 - 1) (by decide +kernel) (Within.refl _ s) r).sound hs

/-- The raise of QUE_OVERFLOW clears no pending bit. -/
theorem State.overflowRaise_keeps {s : State} (hs : s.Sound) (d q : Nat) (full : Bool) {e x : Nat} (h : s.pends e x = true) :
    (s.overflowRaise d q full).pends e x = true := by
  unfold State.overflowRaise
  extract_lets payload s₁ s₂
  rw [State.fwRoute_pends]
  have h₁ : s₁.pends e x = true := State.noteRaise_keeps hs _ _ _ h
  show State.pends (match s₁.hostRec d 200 (s₁.blkOf d) payload .edge with
    | some r => (s₁.putRecord r).1
    | none => s₁) e x = true
  split
  · rw [State.putRecord_pends]; exact h₁
  · exact h₁

/-- A record that is written or dropped clears no pending bit. -/
theorem State.placeRecord_keeps {s : State} (hs : s.Sound) (r : EventRec) {e x : Nat} (h : s.pends e x = true) :
    (s.placeRecord r).pends e x = true := by
  have h₁ : (s.putRecord r).1.pends e x = true := by rw [State.putRecord_pends]; exact h
  unfold State.placeRecord State.on
  extract_lets full p
  split
  · exact State.overflowRaise_keeps (State.putRecord_sound hs r) _ _ _ h₁
  · exact h₁

/-- The host route of a raise clears no pending bit. -/
theorem State.hostRoute_keeps {s : State} (hs : s.Sound) (d src ticks payload : Nat) (kind : State.EventKind) {e x : Nat}
    (h : s.pends e x = true) : (s.hostRoute d src ticks payload kind).pends e x = true := by
  unfold State.hostRoute
  split
  · exact h
  · rename_i r _
    split
    · have w : Within (Foot.of [.i_levelHeld] [.heldRecs]) s
          { s.wrBool I.levelHeld [d, src] (levelSource src) with heldRecs := s.heldRecs ++ [r] } :=
        Within.set_heldRecs (State.wrBool_within (Within.refl _ _) _ _ _ (by decide +kernel)) _ (by decide +kernel)
      rw [State.pends, w.rd _ _ (by decide +kernel)]
      exact h
    · exact State.placeRecord_keeps hs r h

/-- A raise, whatever its kind, sets its own pending bit. -/
theorem State.raiseKind_pends {s : State} (hs : s.Sound) (d src payload : Nat) (kind : State.EventKind) :
    (s.raiseKind d src payload kind).pends d src = true := by
  rw [State.raiseKind, State.fwRoute_pends]
  exact State.hostRoute_keeps (State.noteRaise_sound hs _ _ _) _ _ _ _ _ (State.noteRaise_pends hs _ _ _)

/-- A raise, whatever its kind, clears no pending bit. -/
theorem State.raiseKind_keeps {s : State} (hs : s.Sound) (d src payload : Nat) (kind : State.EventKind) {e x : Nat}
    (h : s.pends e x = true) : (s.raiseKind d src payload kind).pends e x = true := by
  rw [State.raiseKind, State.fwRoute_pends]
  exact State.hostRoute_keeps (State.noteRaise_sound hs _ _ _) _ _ _ _ _ (State.noteRaise_keeps hs _ _ _ h)

/-- Raising an event sets its pending bit (R321). -/
theorem State.raise_pends {s : State} (hs : s.Sound) (d src payload : Nat) : (s.raise d src payload).pends d src = true :=
  State.raiseKind_pends hs _ _ _ _

/-- Raising an event clears no pending bit. -/
theorem State.raise_keeps {s : State} (hs : s.Sound) (d src payload : Nat) {e x : Nat} (h : s.pends e x = true) :
    (s.raise d src payload).pends e x = true := State.raiseKind_keeps hs _ _ _ _ h

end Sys2Proof.Machine
end

