-- ==== Sys2Proof/Laws/LibOpsWithin.lean ====
section
/-!
SUPPORT. What each operation of Machine/LibOps.lean may change (`Within`), and that it keeps the state sound.
-/

namespace Sys2Proof.Machine

set_option linter.all false

theorem State.libAccept_within {M : Foot} (hM : Foot.Sub 0x870000000000000000000000000000000000000020000000080000000000000000000000000000002701000000000000000000018000000000000000000000000000000000000000000000 M) {s₀ s : State} (h_s : Within M s₀ s) (h : MbxHdr) (opcode : Nat) (d : Nat) (a : Nat) (q : Nat) (format : Nat) (segs : Nat) (chunks : List LibPart)  :
    Within M s₀ (State.libAccept s h opcode d a q format segs chunks).1 := by
  unfold State.libAccept
  repeat' (first
    | with_reducible assumption
    | (refine Foot.Sub.has hM ?_; decide)
    | (refine Foot.Sub.trans ?_ hM; decide)
    | (extract_lets +onlyGivenNames x; refine Within.cut (x := x) ?_ ?_; (on_goal 2 => (clear_value x; revert x; intro _ _)); (on_goal 1 => (unfold x; clear x)))
    | (extract_lets +onlyGivenNames x; refine Within.cut (x := x.1) ?_ ?_; (on_goal 2 => (clear_value x; revert x; intro _ _)); (on_goal 1 => (unfold x; clear x)))
    | (extract_lets +onlyGivenNames x; clear_value x; revert x; intro _)
    | with_reducible refine State.complete_within ?_ ?_ _ _ _ _ _ _
    | with_reducible refine Within.ite ?_ ?_
    | with_reducible refine Within.ite_fst ?_ ?_
    | split
    | with_reducible refine Within.set_deliveries ?_ _ ?_
    | (with_reducible refine Within.of_eq (by with_reducible assumption) ?_))

theorem State.libNamed_within {M : Foot} {s₀ s : State} (h_s : Within M s₀ s) (set : Nat) (d : Nat) (f : Nat → State × Reply) (h_f : ∀ n, Within M s₀ (f n).1) :
    Within M s₀ (State.libNamed s set d f).1 := by
  unfold State.libNamed
  repeat' (first
    | with_reducible assumption
    | (extract_lets +onlyGivenNames x; refine Within.cut (x := x) ?_ ?_; (on_goal 2 => (clear_value x; revert x; intro _ _)); (on_goal 1 => (unfold x; clear x)))
    | (extract_lets +onlyGivenNames x; refine Within.cut (x := x.1) ?_ ?_; (on_goal 2 => (clear_value x; revert x; intro _ _)); (on_goal 1 => (unfold x; clear x)))
    | (extract_lets +onlyGivenNames x; clear_value x; revert x; intro _)
    | with_reducible refine Within.ite ?_ ?_
    | with_reducible refine Within.ite_fst ?_ ?_
    | split
    | with_reducible apply h_f
    | (with_reducible refine Within.of_eq (by with_reducible assumption) ?_))

theorem State.libSegment_within {M : Foot} (hM : Foot.Sub 0x870000000000000000000000000000000000000020000000080000000000000000000000000000002701000000000000000000018000000000000000000000000000000000000000000000 M) {s₀ s : State} (h_s : Within M s₀ s) (h : MbxHdr) (set : Nat) (what : Nat) (q : Nat) (seq : Nat) (d : Nat)  :
    Within M s₀ (State.libSegment s h set what q seq d).1 := by
  unfold State.libSegment
  repeat' (first
    | with_reducible assumption
    | (refine Foot.Sub.has hM ?_; decide)
    | (refine Foot.Sub.trans ?_ hM; decide)
    | (extract_lets +onlyGivenNames x; refine Within.cut (x := x) ?_ ?_; (on_goal 2 => (clear_value x; revert x; intro _ _)); (on_goal 1 => (unfold x; clear x)))
    | (extract_lets +onlyGivenNames x; refine Within.cut (x := x.1) ?_ ?_; (on_goal 2 => (clear_value x; revert x; intro _ _)); (on_goal 1 => (unfold x; clear x)))
    | (extract_lets +onlyGivenNames x; clear_value x; revert x; intro _)
    | with_reducible refine State.libNamed_within ?_ _ _ _ ?_
    | with_reducible refine State.libAccept_within ?_ ?_ _ _ _ _ _ _ _ _
    | with_reducible refine Within.ite ?_ ?_
    | with_reducible refine Within.ite_fst ?_ ?_
    | split
    | (with_reducible refine Within.of_eq (by with_reducible assumption) ?_)
    | (intro _))

theorem State.libOverview_within {M : Foot} (hM : Foot.Sub 0x870000000000000000000000000000000000000020000000080000000000000000000000000000002701000000000000000000018000000000000000000000000000000000000000000000 M) {s₀ s : State} (h_s : Within M s₀ s) (h : MbxHdr) (set : Nat) (q : Nat) (points : Nat) (seq : Nat) (d : Nat)  :
    Within M s₀ (State.libOverview s h set q points seq d).1 := by
  unfold State.libOverview
  repeat' (first
    | with_reducible assumption
    | (refine Foot.Sub.has hM ?_; decide)
    | (refine Foot.Sub.trans ?_ hM; decide)
    | (extract_lets +onlyGivenNames x; refine Within.cut (x := x) ?_ ?_; (on_goal 2 => (clear_value x; revert x; intro _ _)); (on_goal 1 => (unfold x; clear x)))
    | (extract_lets +onlyGivenNames x; refine Within.cut (x := x.1) ?_ ?_; (on_goal 2 => (clear_value x; revert x; intro _ _)); (on_goal 1 => (unfold x; clear x)))
    | (extract_lets +onlyGivenNames x; clear_value x; revert x; intro _)
    | with_reducible refine State.libNamed_within ?_ _ _ _ ?_
    | with_reducible refine State.libAccept_within ?_ ?_ _ _ _ _ _ _ _ _
    | with_reducible refine Within.ite ?_ ?_
    | with_reducible refine Within.ite_fst ?_ ?_
    | split
    | (with_reducible refine Within.of_eq (by with_reducible assumption) ?_)
    | (intro _))

theorem State.libSpan_within {M : Foot} (hM : Foot.Sub 0x870000000000000000000000000000000000000020000000080000000000000000000000000000002701000000000000000000018000000000000000000000000000000000000000000000 M) {s₀ s : State} (h_s : Within M s₀ s) (h : MbxHdr) (set : Nat) (q : Nat) (lo : Nat) (hi : Nat) (d : Nat)  :
    Within M s₀ (State.libSpan s h set q lo hi d).1 := by
  unfold State.libSpan
  repeat' (first
    | with_reducible assumption
    | (refine Foot.Sub.has hM ?_; decide)
    | (refine Foot.Sub.trans ?_ hM; decide)
    | (extract_lets +onlyGivenNames x; refine Within.cut (x := x) ?_ ?_; (on_goal 2 => (clear_value x; revert x; intro _ _)); (on_goal 1 => (unfold x; clear x)))
    | (extract_lets +onlyGivenNames x; refine Within.cut (x := x.1) ?_ ?_; (on_goal 2 => (clear_value x; revert x; intro _ _)); (on_goal 1 => (unfold x; clear x)))
    | (extract_lets +onlyGivenNames x; clear_value x; revert x; intro _)
    | with_reducible refine State.libNamed_within ?_ _ _ _ ?_
    | with_reducible refine State.libAccept_within ?_ ?_ _ _ _ _ _ _ _ _
    | with_reducible refine Within.ite ?_ ?_
    | with_reducible refine Within.ite_fst ?_ ?_
    | split
    | (with_reducible refine Within.of_eq (by with_reducible assumption) ?_)
    | (intro _))

theorem State.libQuery_within {M : Foot} (hM : Foot.Sub 0x8e00000000000000000000000000000000000000e0000000080000000000000000000000000000002701000000000000000200018000000000000000000000000000000000000000000000 M) {s₀ s : State} (h_s : Within M s₀ s) (h : MbxHdr) (set : Nat) (term : Nat) (mask : Nat) (value : Nat) (most : Nat) (lo : Nat) (hi : Nat) (addr : Nat) (d : Nat)  :
    Within M s₀ (State.libQuery s h set term mask value most lo hi addr d).1 := by
  unfold State.libQuery
  repeat' (first
    | with_reducible assumption
    | (refine Foot.Sub.has hM ?_; decide)
    | (refine Foot.Sub.trans ?_ hM; decide)
    | (extract_lets +onlyGivenNames x; refine Within.cut (x := x) ?_ ?_; (on_goal 2 => (clear_value x; revert x; intro _ _)); (on_goal 1 => (unfold x; clear x)))
    | (extract_lets +onlyGivenNames x; refine Within.cut (x := x.1) ?_ ?_; (on_goal 2 => (clear_value x; revert x; intro _ _)); (on_goal 1 => (unfold x; clear x)))
    | (extract_lets +onlyGivenNames x; clear_value x; revert x; intro _)
    | with_reducible refine State.libNamed_within ?_ _ _ _ ?_
    | with_reducible refine State.take_within ?_ ?_ _ _
    | with_reducible refine State.emit_within ?_ ?_ _
    | with_reducible refine State.complete_within ?_ ?_ _ _ _ _ _ _
    | with_reducible refine Within.on ?_ fun _ _ => ?_
    | with_reducible refine Within.ite ?_ ?_
    | with_reducible refine Within.ite_fst ?_ ?_
    | split
    | (with_reducible refine Within.of_eq (by with_reducible assumption) ?_)
    | (intro _))

theorem State.libStatus_within {M : Foot} {s₀ s : State} (h_s : Within M s₀ s) (set : Nat) (d : Nat)  :
    Within M s₀ (State.libStatus s set d).1 := by
  unfold State.libStatus
  repeat' (first
    | with_reducible assumption
    | (extract_lets +onlyGivenNames x; refine Within.cut (x := x) ?_ ?_; (on_goal 2 => (clear_value x; revert x; intro _ _)); (on_goal 1 => (unfold x; clear x)))
    | (extract_lets +onlyGivenNames x; refine Within.cut (x := x.1) ?_ ?_; (on_goal 2 => (clear_value x; revert x; intro _ _)); (on_goal 1 => (unfold x; clear x)))
    | (extract_lets +onlyGivenNames x; clear_value x; revert x; intro _)
    | with_reducible refine State.libNamed_within ?_ _ _ _ ?_
    | split
    | (with_reducible refine Within.of_eq (by with_reducible assumption) ?_)
    | (intro _))

theorem State.libEnd_within {M : Foot} (hM : Foot.Sub 0xc0001b700000000000000000000000000000000000000200000000830000000000000000000000000000027f9000000000000000200898000000000000000000000000000000000000000000000 M) {s₀ s : State} (h_s : Within M s₀ s) (x : Delivery) (code : Nat)  :
    Within M s₀ (State.libEnd s x code) := by
  unfold State.libEnd
  repeat' (first
    | with_reducible assumption
    | (refine Foot.Sub.has hM ?_; decide)
    | (refine Foot.Sub.trans ?_ hM; decide)
    | (extract_lets +onlyGivenNames x; refine Within.cut (x := x) ?_ ?_; (on_goal 2 => (clear_value x; revert x; intro _ _)); (on_goal 1 => (unfold x; clear x)))
    | (extract_lets +onlyGivenNames x; refine Within.cut (x := x.1) ?_ ?_; (on_goal 2 => (clear_value x; revert x; intro _ _)); (on_goal 1 => (unfold x; clear x)))
    | (extract_lets +onlyGivenNames x; clear_value x; revert x; intro _)
    | with_reducible refine State.finish_within ?_ ?_ _ _ _
    | with_reducible refine Within.each ?_ fun _ _ _ => ?_
    | split
    | with_reducible refine Within.set_deliveries ?_ _ ?_
    | (with_reducible refine Within.of_eq (by with_reducible assumption) ?_))

theorem State.libDeliver_within {M : Foot} (hM : Foot.Sub 0x1c0001f700000000000000000000000000000000000000200000000830000000000000000000000000000027f9000000000000003e00898000000000000000000000000000000000000000000000 M) {s₀ s : State} (h_s : Within M s₀ s) (x : Delivery) (desc : DataDesc)  :
    Within M s₀ (State.libDeliver s x desc) := by
  unfold State.libDeliver
  repeat' (first
    | with_reducible assumption
    | (refine Foot.Sub.has hM ?_; decide)
    | (refine Foot.Sub.trans ?_ hM; decide)
    | (split <;> (refine Foot.Sub.has hM ?_; decide))
    | (extract_lets +onlyGivenNames x; refine Within.cut (x := x) ?_ ?_; (on_goal 2 => (clear_value x; revert x; intro _ _)); (on_goal 1 => (unfold x; clear x)))
    | (extract_lets +onlyGivenNames x; refine Within.cut (x := x.1) ?_ ?_; (on_goal 2 => (clear_value x; revert x; intro _ _)); (on_goal 1 => (unfold x; clear x)))
    | (extract_lets +onlyGivenNames x; clear_value x; revert x; intro _)
    | with_reducible refine State.rejectDesc_within ?_ ?_ _ _ _
    | with_reducible refine State.emit_within ?_ ?_ _
    | with_reducible refine State.complete_within ?_ ?_ _ _ _ _ _ _
    | with_reducible refine State.libEnd_within ?_ ?_ _ _
    | with_reducible refine Within.ite ?_ ?_
    | with_reducible refine Within.ite_fst ?_ ?_
    | split
    | with_reducible refine Within.set_deliveries ?_ _ ?_
    | (with_reducible refine Within.of_eq (by with_reducible assumption) ?_))

theorem State.ringDeliver_within {M : Foot} (hM : Foot.Sub 0x1c0001f701e00000000000000000000000000000000000200000000830000000000000000000000000100027f9000000000000003e00898000000000000000000a84300000000000000000000000 M) {s₀ s : State} (h_s : Within M s₀ s) (d : Nat) (q : Nat) (desc : DataDesc) (words : List ReadWord)  :
    Within M s₀ (State.ringDeliver s d q desc words) := by
  unfold State.ringDeliver
  repeat' (first
    | with_reducible assumption
    | (refine Foot.Sub.has hM ?_; decide)
    | (refine Foot.Sub.trans ?_ hM; decide)
    | (extract_lets +onlyGivenNames x; refine Within.cut (x := x) ?_ ?_; (on_goal 2 => (clear_value x; revert x; intro _ _)); (on_goal 1 => (unfold x; clear x)))
    | (extract_lets +onlyGivenNames x; refine Within.cut (x := x.1) ?_ ?_; (on_goal 2 => (clear_value x; revert x; intro _ _)); (on_goal 1 => (unfold x; clear x)))
    | (extract_lets +onlyGivenNames x; clear_value x; revert x; intro _)
    | with_reducible refine State.deliverRead_within ?_ ?_ _ _ _ ?_
    | with_reducible refine State.libDeliver_within ?_ ?_ _ _
    | with_reducible refine State.deliverChunk_within ?_ ?_ _ _ _ _
    | with_reducible refine Within.ite ?_ ?_
    | with_reducible refine Within.ite_fst ?_ ?_
    | split
    | (with_reducible refine Within.of_eq (by with_reducible assumption) ?_)
    | (intro _))

theorem State.libStart_within {M : Foot} (hM : Foot.Sub 0x10000000000000000000000000000000000000000000000000000000000000000000000000000000000000000000000000000000000000000000000000000000000000000000000000000 M) {s₀ s : State} (h_s : Within M s₀ s) (d : Nat)  :
    Within M s₀ (State.libStart s d) := by
  unfold State.libStart
  repeat' (first
    | with_reducible assumption
    | (refine Foot.Sub.has hM ?_; decide)
    | (refine Foot.Sub.trans ?_ hM; decide)
    | (extract_lets +onlyGivenNames x; refine Within.cut (x := x) ?_ ?_; (on_goal 2 => (clear_value x; revert x; intro _ _)); (on_goal 1 => (unfold x; clear x)))
    | (extract_lets +onlyGivenNames x; refine Within.cut (x := x.1) ?_ ?_; (on_goal 2 => (clear_value x; revert x; intro _ _)); (on_goal 1 => (unfold x; clear x)))
    | (extract_lets +onlyGivenNames x; clear_value x; revert x; intro _)
    | with_reducible refine Within.on ?_ fun _ _ => ?_
    | with_reducible refine Within.ite ?_ ?_
    | with_reducible refine Within.ite_fst ?_ ?_
    | split
    | with_reducible refine Within.set_deliveries ?_ _ ?_
    | (with_reducible refine Within.of_eq (by with_reducible assumption) ?_)
    | (intro _))

end Sys2Proof.Machine
end

