-- ==== Sys2Proof/Laws/RegOpsWithin.lean ====
section
/-!
SUPPORT. What each operation of Machine/RegOps.lean may change (`Within`), and that it keeps the state sound.
-/

namespace Sys2Proof.Machine

set_option linter.all false

theorem Reg.fields_reg (r : Reg) : ∀ i ∈ r.fields, i.fld.reg = r := by
  cases r <;> decide

/-- The fields that a write sets are the register's own. -/
theorem State.setFields_has {M : Foot} {r : Reg} (h : M.testBit r.ctorIdx = true) (s : State) (ix : List Nat) (w v : Nat) :
    ∀ e ∈ s.setFields r ix w v, M.testBit e.1.reg.ctorIdx = true := by
  intro e he
  unfold State.setFields at he
  obtain ⟨i, hi, rfl⟩ := List.mem_map.1 he
  rw [Reg.fields_reg r i (List.mem_filter.1 hi).1]
  exact h

theorem State.setFields_has3 {M : Foot} {r : Reg} (h : M.testBit r.ctorIdx = true) (s : State) (ix jx : List Nat) (w v : Nat) :
    ∀ e ∈ (s.setFields r ix w v).map fun (f : Fld × Nat) => (f.1, jx, f.2), M.testBit e.1.reg.ctorIdx = true := by
  intro e he
  obtain ⟨i, hi, rfl⟩ := List.mem_map.1 he
  exact State.setFields_has h s ix w v i hi

theorem State.clearFields_within {M : Foot} {s₀ s : State} (h_s : Within M s₀ s) (r : Reg) (ix : List Nat) (w : Nat) (v : Nat) (h_r : M.testBit r.ctorIdx = true) :
    Within M s₀ (State.clearFields s r ix w v) := by
  unfold State.clearFields
  refine Within.each_mem h_s fun u i hi hu => Within.wr hu _ _ _ ?_
  rw [Reg.fields_reg r i (List.mem_filter.1 hi).1]
  exact h_r

theorem State.plainWrite_within {M : Foot} {s₀ s : State} (h_s : Within M s₀ s) (r : Reg) (ix : List Nat) (w : Nat) (v : Nat) (h_r : M.testBit r.ctorIdx = true) :
    Within M s₀ (State.plainWrite s r ix w v).1 := State.clearFields_within (Within.each_mem h_s fun _ f hf hu => Within.on hu fun _ hu' =>
    Within.wr hu' _ _ _ (State.setFields_has h_r _ _ _ _ f hf)) _ _ _ _ h_r

theorem State.noStatus_within {M : Foot} {s₀ s : State} (h_s : Within M s₀ s)   :
    Within M s₀ (State.noStatus s).1 := by
  unfold State.noStatus
  repeat' (first
    | with_reducible assumption
    | split
    | (with_reducible refine Within.of_eq (by with_reducible assumption) ?_))

theorem State.writeStrCtrl_within {M : Foot} (hM : Foot.Sub 0x40000000000000000000000000000000000000000000000000000000000000000000000000000000000000000000000000000000000000000000000000000000090000200000000000000000000 M) {s₀ s : State} (h_s : Within M s₀ s) (d : Nat) (a : Nat) (v : Nat)  :
    Within M s₀ (State.writeStrCtrl d a v s).1 := by
  unfold State.writeStrCtrl
  split
  · exact State.writeSet_within (Foot.Sub.trans (by decide) hM) h_s _ _ _ _ (by simp)
  · exact State.plainWrite_within h_s _ _ _ _ (hM.has (by decide))

theorem State.accCmd_within {M : Foot} (hM : Foot.Sub 0xc187bb6084000000000000000000000000000000000002000080008300000000000008803c0000000000067ff00000001c03c000200898040000000000028068004000000000000000080000000 M) {s₀ s : State} (h_s : Within M s₀ s) (d : Nat) (c : Nat) (v : Nat) (cmd : Option (MbxHdr × Nat))  :
    Within M s₀ (State.accCmd s d c v cmd).1 := by
  unfold State.accCmd
  repeat' (first
    | with_reducible assumption
    | (refine Foot.Sub.has hM ?_; decide)
    | (refine Foot.Sub.trans ?_ hM; decide)
    | (extract_lets +onlyGivenNames x; refine Within.cut (x := x) ?_ ?_; (on_goal 2 => (clear_value x; revert x; intro _ _)); (on_goal 1 => (unfold x; clear x)))
    | (extract_lets +onlyGivenNames x; refine Within.cut (x := x.1) ?_ ?_; (on_goal 2 => (clear_value x; revert x; intro _ _)); (on_goal 1 => (unfold x; clear x)))
    | (extract_lets +onlyGivenNames x; clear_value x; revert x; intro _)
    | with_reducible refine State.requestAcc_within ?_ ?_ _ _ _
    | with_reducible refine State.requestAccStop_within ?_ ?_ _ _
    | with_reducible refine State.accRelease_within ?_ ?_ _ _
    | with_reducible refine State.accClear_within ?_ ?_ _ _
    | with_reducible refine Within.on ?_ fun _ _ => ?_
    | with_reducible refine Within.ite ?_ ?_
    | with_reducible refine Within.ite_fst ?_ ?_
    | split
    | (with_reducible refine Within.of_eq (by with_reducible assumption) ?_)
    | (intro _))

theorem State.writeTimEn_within {M : Foot} (hM : Foot.Sub 0xc187bb606000000000000000000000000000000000000200008000830000000000000880000000000000067f900000001c03c000200898045f1c000000008000000000000000000000080000000 M) {s₀ s : State} (h_s : Within M s₀ s) (d : Nat) (u : Nat) (v : Nat)  :
    Within M s₀ (State.writeTimEn d u v s).1 := by
  unfold State.writeTimEn
  repeat' (first
    | with_reducible assumption
    | (refine Foot.Sub.has hM ?_; decide)
    | (refine Foot.Sub.trans ?_ hM; decide)
    | (split <;> (refine Foot.Sub.has hM ?_; decide))
    | (extract_lets +onlyGivenNames x; refine Within.cut (x := x) ?_ ?_; (on_goal 2 => (clear_value x; revert x; intro _ _)); (on_goal 1 => (unfold x; clear x)))
    | (extract_lets +onlyGivenNames x; refine Within.cut (x := x.1) ?_ ?_; (on_goal 2 => (clear_value x; revert x; intro _ _)); (on_goal 1 => (unfold x; clear x)))
    | (extract_lets +onlyGivenNames x; clear_value x; revert x; intro _)
    | with_reducible refine State.writeTimCtrl_within ?_ ?_ _ _ _
    | with_reducible refine State.requestTim_within ?_ ?_ _ _ _
    | with_reducible refine State.requestTimStop_within ?_ ?_ _ _
    | with_reducible refine Within.ite ?_ ?_
    | with_reducible refine Within.ite_fst ?_ ?_
    | split
    | (with_reducible refine Within.of_eq (by with_reducible assumption) ?_))

theorem State.setReg_within {M : Foot} (hM : Foot.Sub 0x40000000000000000000000000000000000000000000000000000000000000000000000000000000000000000000000000000000000000000000000000000000080000200000000000000000000 M) {s₀ s : State} (h_s : Within M s₀ s) (r : Reg) (d : Nat) (a : Nat) (w : Nat) (v : Nat) (str : Bool) (h_r : M.testBit r.ctorIdx = true) :
    Within M s₀ (State.setReg s r d a w v str).1 := State.writeSet_within (Foot.Sub.trans (by decide) hM) h_s _ _ _ _ (State.setFields_has h_r _ _ _ _)

theorem State.seqReg_within {M : Foot} (hM : Foot.Sub 0xc00018600000000000000000000000000000000000000200000000830000000000000000000000000000027f9000000000000000000898000000000000000000000000000200000000000000000 M) {s₀ s : State} (h_s : Within M s₀ s) (r : Reg) (d : Nat) (q : Nat) (ix : List Nat) (w : Nat) (v : Nat) (h_r : M.testBit r.ctorIdx = true) :
    Within M s₀ (State.seqReg s r d q ix w v).1 := State.writeSeq_within (Foot.Sub.trans (by decide) hM) h_s _ _ _ (State.setFields_has3 h_r _ _ _ _ _)

theorem State.trgDieReg_within {M : Foot} (hM : Foot.Sub 0xc00018600000000000000000000000000000000000000200000000830000000000000000000000000000027f9000000000000000000898000000000000000000000000000001000000000000000 M) {s₀ s : State} (h_s : Within M s₀ s) (r : Reg) (d : Nat) (ix : List Nat) (v : Nat) (h_r : M.testBit r.ctorIdx = true) :
    Within M s₀ (State.trgDieReg s r d ix v).1 := State.writeTrgDie_within (Foot.Sub.trans (by decide) hM) h_s _ _ (State.setFields_has3 h_r _ _ _ _ _)

theorem State.writeUrgCmd_within {M : Foot} (hM : Foot.Sub 0x1c0001c600000000000000000000000000000000000000200000000830000000000000000000000000000027f9000000000000003d20898000000000000000000000000000000000000000000000 M) {s₀ s : State} (h_s : Within M s₀ s) (d : Nat) (k : Nat) (v : Nat)  :
    Within M s₀ (State.writeUrgCmd d k v s) := by
  unfold State.writeUrgCmd
  repeat' (first
    | with_reducible assumption
    | (refine Foot.Sub.has hM ?_; decide)
    | (refine Foot.Sub.trans ?_ hM; decide)
    | with_reducible refine State.urgentBusy_within ?_ ?_ _ _
    | with_reducible refine State.wr_within ?_ _ _ _ ?_
    | with_reducible refine Within.ite ?_ ?_
    | with_reducible refine Within.ite_fst ?_ ?_
    | split
    | (with_reducible refine Within.of_eq (by with_reducible assumption) ?_))

theorem State.writeMsix_within {M : Foot} (hM : Foot.Sub 0x20000000000000000000000000000000000000000000000000000000000000000000000000000000001800000000000000000000000000000000000000000000000000000000000000000 M) {s₀ s : State} (h_s : Within M s₀ s) (d : Nat) (k : Nat) (w : Nat) (v : Nat)  :
    Within M s₀ (State.writeMsix d k w v s) := by
  unfold State.writeMsix
  repeat' (first
    | with_reducible assumption
    | (refine Foot.Sub.has hM ?_; decide)
    | (refine Foot.Sub.trans ?_ hM; decide)
    | with_reducible refine State.plainWrite_within ?_ _ _ _ _ ?_
    | with_reducible refine State.msixSync_within ?_ ?_ _ _
    | split
    | (with_reducible refine Within.of_eq (by with_reducible assumption) ?_))

theorem State.writeTime_within {M : Foot} (hM : Foot.Sub 0xe3e7bbe01000000000000000000000000000000000020e00008000830009860d201e2f90400000000000067f900800021c03c00020089885000000000000800148000000000000000fc88377d87 M) {s₀ s : State} (h_s : Within M s₀ s) (d : Nat) (r : Reg) (j : List Nat)
    (w v : Nat) : ∀ p ∈ State.writeTime s d r j w v, Within M s₀ p.1 := by
  unfold State.writeTime
  extract_lets a
  clear_value a
  intro p hp
  split at hp <;> first | (cases hp; done) | (obtain rfl := Option.some.inj hp)
  all_goals repeat' (first
    | (refine State.setFields_has ?_ _ _ _ _)
    | with_reducible assumption
    | (refine Foot.Sub.has hM ?_; decide)
    | (refine Foot.Sub.trans ?_ hM; decide)
    | (extract_lets +onlyGivenNames x; refine Within.cut (x := x) ?_ ?_; (on_goal 2 => (clear_value x; revert x; intro _ _)); (on_goal 1 => (unfold x; clear x)))
    | (extract_lets +onlyGivenNames x; refine Within.cut (x := x.1) ?_ ?_; (on_goal 2 => (clear_value x; revert x; intro _ _)); (on_goal 1 => (unfold x; clear x)))
    | (extract_lets +onlyGivenNames x; clear_value x; revert x; intro _)
    | with_reducible refine State.writeRefCtrl_within ?_ ?_ _
    | with_reducible refine State.writeSynCtrl_within ?_ ?_ _ _
    | with_reducible refine State.writeRamp_within ?_ _ _ _ _ ?_
    | with_reducible refine State.noStatus_within ?_
    | with_reducible refine State.writeAuxCtrl_within ?_ ?_ _ _
    | with_reducible refine State.wr_within ?_ _ _ _ ?_
    | with_reducible refine State.writeCueWord_within ?_ ?_ _ _ _ _
    | with_reducible refine State.writeCnvCtrl_within ?_ ?_ _ _ _
    | with_reducible refine State.plainWrite_within ?_ _ _ _ _ ?_
    | with_reducible refine State.syncCard_within ?_ ?_
    | with_reducible refine State.writeCombCmd_within ?_ ?_ _ _ _
    | with_reducible refine State.storeRequest_within ?_ ?_ _ _
    | with_reducible refine Within.on ?_ fun _ _ => ?_
    | split
    | (with_reducible refine Within.of_eq (by with_reducible assumption) ?_)
    | (intro _))

theorem State.writeSignal_within {M : Foot} (hM : Foot.Sub 0xd40018681a0000000000000000000000000000000000020000000083000000001000000003ff199e411df27f9050000000000000000898000000000000000001e80030227f3f97ef60000000000 M) {s₀ s : State} (h_s : Within M s₀ s) (d : Nat) (r : Reg) (j : List Nat)
    (w v : Nat) : ∀ p ∈ State.writeSignal s d r j w v, Within M s₀ p.1 := by
  unfold State.writeSignal
  extract_lets a
  clear_value a
  intro p hp
  split at hp <;> first | (cases hp; done) | (obtain rfl := Option.some.inj hp)
  all_goals repeat' (first
    | (refine State.setFields_has ?_ _ _ _ _)
    | with_reducible assumption
    | (refine Foot.Sub.has hM ?_; decide)
    | (refine Foot.Sub.trans ?_ hM; decide)
    | (unfold State.setFields; split <;> (refine Foot.Sub.has hM ?_; decide))
    | (split <;> (refine Foot.Sub.has hM ?_; decide))
    | (extract_lets +onlyGivenNames x; refine Within.cut (x := x) ?_ ?_; (on_goal 2 => (clear_value x; revert x; intro _ _)); (on_goal 1 => (unfold x; clear x)))
    | (extract_lets +onlyGivenNames x; refine Within.cut (x := x.1) ?_ ?_; (on_goal 2 => (clear_value x; revert x; intro _ _)); (on_goal 1 => (unfold x; clear x)))
    | (extract_lets +onlyGivenNames x; clear_value x; revert x; intro _)
    | with_reducible refine State.writeEqCtrl_within ?_ ?_ _ _ _
    | with_reducible refine State.writeEqCoef_within ?_ ?_ _ _ _ _ _
    | with_reducible refine State.writeCond_within ?_ ?_ _ _ _ _
    | with_reducible refine State.writeFirCoef_within ?_ ?_ _ _ _ _ _
    | with_reducible refine State.trgDieReg_within ?_ ?_ _ _ _ _ ?_
    | with_reducible refine State.writeTerm_within ?_ ?_ _ _ _ ?_
    | with_reducible refine State.seqReg_within ?_ ?_ _ _ _ _ _ _ ?_
    | with_reducible refine State.writeCurve_within ?_ ?_ _ _ _ _ _
    | with_reducible refine State.forceTrigger_within ?_ ?_ _ _ _ _
    | with_reducible refine State.noStatus_within ?_
    | with_reducible refine Within.on ?_ fun _ _ => ?_
    | split
    | (with_reducible refine Within.of_eq (by with_reducible assumption) ?_)
    | (intro _))

theorem State.writeStore_within {M : Foot} (hM : Foot.Sub 0xc187bb689e000000000000000018000000000000000002000080008300000000100008803fec178c00c0067ff00000001c03c000200898040000000000029ffeff402ff80200000800080000000 M) {s₀ s : State} (h_s : Within M s₀ s) (d : Nat) (r : Reg) (j : List Nat)
    (w v : Nat) : ∀ p ∈ State.writeStore s d r j w v, Within M s₀ p.1 := by
  unfold State.writeStore
  extract_lets a
  clear_value a
  intro p hp
  split at hp <;> first | (cases hp; done) | (obtain rfl := Option.some.inj hp)
  all_goals repeat' (first
    | (refine State.setFields_has ?_ _ _ _ _)
    | with_reducible assumption
    | (refine Foot.Sub.has hM ?_; decide)
    | (refine Foot.Sub.trans ?_ hM; decide)
    | (unfold State.setFields; split <;> (refine Foot.Sub.has hM ?_; decide))
    | (split <;> (refine Foot.Sub.has hM ?_; decide))
    | (extract_lets +onlyGivenNames x; refine Within.cut (x := x) ?_ ?_; (on_goal 2 => (clear_value x; revert x; intro _ _)); (on_goal 1 => (unfold x; clear x)))
    | (extract_lets +onlyGivenNames x; refine Within.cut (x := x.1) ?_ ?_; (on_goal 2 => (clear_value x; revert x; intro _ _)); (on_goal 1 => (unfold x; clear x)))
    | (extract_lets +onlyGivenNames x; clear_value x; revert x; intro _)
    | with_reducible refine State.setReg_within ?_ ?_ _ _ _ _ _ _ ?_
    | with_reducible refine State.writeStrCtrl_within ?_ ?_ _ _ _
    | with_reducible refine State.flag_within ?_ ?_ _ _ ?_
    | with_reducible refine State.noStatus_within ?_
    | with_reducible refine State.requestArm_within ?_ ?_ _ _ _ _ _
    | with_reducible refine State.requestStop_within ?_ ?_ _ _ _
    | with_reducible refine State.writeAccCtrl_within ?_ ?_ _ _ _
    | with_reducible refine State.accCmd_within ?_ ?_ _ _ _ _
    | with_reducible refine State.writeAccCfg_within ?_ ?_ _ _ _ ?_
    | with_reducible refine Within.on ?_ fun _ _ => ?_
    | with_reducible refine Within.ite ?_ ?_
    | with_reducible refine Within.ite_fst ?_ ?_
    | split
    | (with_reducible refine Within.of_eq (by with_reducible assumption) ?_)
    | (intro _))

theorem State.writeInput_within {M : Foot} (hM : Foot.Sub 0xe187bb616000000000000000000000000000000000000202dff3fc8300700000000e08800001011e5400067f900000001c03c04c2008988fdfffa19040188000000000000001000000080700000 M) {s₀ s : State} (h_s : Within M s₀ s) (d : Nat) (r : Reg) (j : List Nat)
    (w v : Nat) : ∀ p ∈ State.writeInput s d r j w v, Within M s₀ p.1 := by
  unfold State.writeInput
  extract_lets a
  clear_value a
  intro p hp
  split at hp <;> first | (cases hp; done) | (obtain rfl := Option.some.inj hp)
  all_goals repeat' (first
    | (refine State.setFields_has ?_ _ _ _ _)
    | with_reducible assumption
    | (refine Foot.Sub.has hM ?_; decide)
    | (refine Foot.Sub.trans ?_ hM; decide)
    | (unfold State.setFields; split <;> (refine Foot.Sub.has hM ?_; decide))
    | (split <;> (refine Foot.Sub.has hM ?_; decide))
    | (extract_lets +onlyGivenNames x; refine Within.cut (x := x) ?_ ?_; (on_goal 2 => (clear_value x; revert x; intro _ _)); (on_goal 1 => (unfold x; clear x)))
    | (extract_lets +onlyGivenNames x; refine Within.cut (x := x.1) ?_ ?_; (on_goal 2 => (clear_value x; revert x; intro _ _)); (on_goal 1 => (unfold x; clear x)))
    | (extract_lets +onlyGivenNames x; clear_value x; revert x; intro _)
    | with_reducible refine State.writeScnCtrl_within ?_ ?_ _
    | with_reducible refine State.noStatus_within ?_
    | with_reducible refine State.applyTiming_within ?_ ?_
    | with_reducible refine State.writeFlip_within ?_ ?_ _ _ _
    | with_reducible refine State.writeLgcCfg_within ?_ ?_ _ _ _
    | with_reducible refine State.writeLgcCtrl_within ?_ ?_ _ _
    | with_reducible refine State.writeTimEn_within ?_ ?_ _ _ _
    | with_reducible refine State.writeTimCfg_within ?_ ?_ _ _ _ ?_
    | with_reducible refine State.writeTimCue_within ?_ ?_ _ _ _ _ _
    | with_reducible refine State.writeCmpCtrl_within ?_ ?_ _ _ _
    | with_reducible refine State.writeCmpThresh_within ?_ ?_ _ _ _
    | with_reducible refine State.writeCmpBlank_within ?_ ?_ _ _ _
    | with_reducible refine Within.on ?_ fun _ _ => ?_
    | split
    | (with_reducible refine Within.of_eq (by with_reducible assumption) ?_)
    | (intro _))

theorem State.writeHost_within {M : Foot} (hM : Foot.Sub 0x7ffdfffffffb0000000000000003ffffffffffffefffffffffffffffffffffffffffffffffffffffffffffffffffffffffffffffffffffffffffffffffffffffffffffffffffffffffffffffffff M) {s₀ s : State} (h_s : Within M s₀ s) (d : Nat) (r : Reg) (j : List Nat)
    (w v : Nat) : ∀ p ∈ State.writeHost s d r j w v, Within M s₀ p.1 := by
  unfold State.writeHost
  extract_lets a
  clear_value a
  intro p hp
  split at hp <;> first | (cases hp; done) | (obtain rfl := Option.some.inj hp)
  all_goals repeat' (first
    | (refine State.setFields_has ?_ _ _ _ _)
    | with_reducible assumption
    | (refine Foot.Sub.has hM ?_; decide)
    | (refine Foot.Sub.trans ?_ hM; decide)
    | (extract_lets +onlyGivenNames x; refine Within.cut (x := x) ?_ ?_; (on_goal 2 => (clear_value x; revert x; intro _ _)); (on_goal 1 => (unfold x; clear x)))
    | (extract_lets +onlyGivenNames x; refine Within.cut (x := x.1) ?_ ?_; (on_goal 2 => (clear_value x; revert x; intro _ _)); (on_goal 1 => (unfold x; clear x)))
    | (extract_lets +onlyGivenNames x; clear_value x; revert x; intro _)
    | with_reducible refine State.writeQueCfg_within ?_ ?_ _ _ _
    | with_reducible refine State.noStatus_within ?_
    | with_reducible refine State.writeQueAddr_within ?_ ?_ _ _ _ _ _ ?_
    | with_reducible refine State.writeQueIrq_within ?_ ?_ _ _ _
    | with_reducible refine State.doorbell_within ?_ ?_ _ _ _
    | with_reducible refine State.raiseKind_within ?_ ?_ _ _ _ _
    | with_reducible refine State.writeRoute_within ?_ ?_ _ _ _
    | with_reducible refine State.writeUrgCmd_within ?_ ?_ _ _ _
    | with_reducible refine State.urgentGo_within ?_ ?_ _ _
    | with_reducible refine State.writeMsix_within ?_ ?_ _ _ _ _
    | with_reducible refine State.writeSknCtrl_within ?_ ?_ _
    | with_reducible refine State.writeSknTrigSel_within ?_ ?_ _
    | with_reducible refine State.writeSknGterm_within ?_ ?_ _ _
    | with_reducible refine State.writeGseqCtrl_within ?_ ?_ _
    | with_reducible refine State.writeGseqHoldoff_within ?_ ?_ _
    | with_reducible refine State.writeGseqState_within ?_ ?_ _ _ _
    | with_reducible refine State.writeAtb_within ?_ ?_ _ _
    | with_reducible refine State.writeBootCtrl_within ?_ ?_ _
    | split
    | (with_reducible refine Within.of_eq (by with_reducible assumption) ?_))

theorem State.writeReg_within {M : Foot} (hM : Foot.Sub 0x7ffffffffffb0000000000000003ffffffffffffefffffffffffffffffffffffffffffffffffffffffffffffffffffffffffffffffffffffffffffffffffffffffffffffffffffffffffffffffff M) {s₀ s : State} (h_s : Within M s₀ s) (d : Nat) (r : Reg) (j : List Nat)
    (w v : Nat) (h_r : M.testBit r.ctorIdx = true) : Within M s₀ (State.writeReg d r j w v s).1 := by
  unfold State.writeReg
  split
  · rename_i p hp
    exact Within.orElse (State.writeTime_within (Foot.Sub.trans (by decide) hM) h_s _ _ _ _ _)
      (Within.orElse (State.writeSignal_within (Foot.Sub.trans (by decide) hM) h_s _ _ _ _ _)
        (Within.orElse (State.writeStore_within (Foot.Sub.trans (by decide) hM) h_s _ _ _ _ _)
          (Within.orElse (State.writeInput_within (Foot.Sub.trans (by decide) hM) h_s _ _ _ _ _)
            (State.writeHost_within (Foot.Sub.trans (by decide) hM) h_s _ _ _ _ _)))) p hp
  · exact State.plainWrite_within h_s _ _ _ _ h_r

theorem State.writeWordOf_within {M : Foot} (hM : Foot.Sub 0x7ffffffffffb0000000000000003ffffffffffffefffffffffffffffffffffffffffffffffffffffffffffffffffffffffffffffffffffffffffffffffffffffffffffffffffffffffffffffffff M) {s₀ s : State} (h_s : Within M s₀ s) (d : Nat) (r : Reg) (j : List Nat) (w : Nat) (v : Nat) (h_r : M.testBit r.ctorIdx = true) :
    Within M s₀ (State.writeWordOf d r j w v s) := by
  unfold State.writeWordOf
  split
  · exact State.nextBlockWrite_within (Foot.Sub.trans (by decide) hM) h_s _ _ fun u hu =>
      State.writeReg_within (Foot.Sub.trans (by decide) hM) hu _ _ _ _ _ h_r
  · exact State.writeReg_within (Foot.Sub.trans (by decide) hM) h_s _ _ _ _ _ h_r

/-- An offset names registers of BAR0 only. -/
theorem regAt_bar0 {off : Nat} {r : Reg} {j : List Nat} {w : Nat} (h : regAt off = some (r, j, w)) : r ∈ Reg.bar0 := by
  obtain ⟨x, hx, e⟩ := List.exists_of_findSome?_eq_some h
  obtain ⟨q, _, e⟩ := Option.map_eq_some_iff.1 e
  have : x = r := congrArg (fun z : Reg × List Nat × Nat => z.1) e
  exact this ▸ hx

theorem State.writeWord_within {M : Foot} (hM : Foot.Sub 0x7ffffffffffb0000000000000003ffffffffffffefffffffffffffffffffffffffffffffffffffffffffffffffffffffffffffffffffffffffffffffffffffffffffffffffffffffffffffffffff M) {s₀ s : State} (h_s : Within M s₀ s) (d : Nat) (off : Nat) (v : Nat)  :
    Within M s₀ (State.writeWord s d off v) := by
  unfold State.writeWord
  split
  · exact h_s
  · rename_i r j w hr
    have hm : ∀ r ∈ Reg.bar0, M.testBit r.ctorIdx = true := by
      have : Reg.bar0.all (fun r => Nat.testBit 0x7ffffffffffb0000000000000003ffffffffffffefffffffffffffffffffffffffffffffffffffffffffffffffffffffffffffffffffffffffffffffffffffffffffffffffffffffffffffffffff r.ctorIdx) = true := by decide +kernel
      exact fun r hr => hM.has (List.all_eq_true.1 this r hr)
    split
    · exact State.violation_within (Foot.Sub.trans (by decide) hM) h_s _ _ _ _
    split
    · exact State.privateWrite_within (Foot.Sub.trans (by decide) hM) h_s _ _
    split
    · exact h_s
    · exact State.writeWordOf_within (Foot.Sub.trans (by decide) hM) h_s _ _ _ _ _ (hm r (regAt_bar0 hr))

/-- A read clears fields of its own register only, and only those of access RC. -/
theorem State.clearRead_within {M : Foot} {s₀ s : State} (h_s : Within M s₀ s) (r : Reg) (ix : List Nat) (w : Nat)
    (h_r : r.fields.any (fun i => i.acc == .RC) = true → M.testBit r.ctorIdx = true) : Within M s₀ (State.clearRead s r ix w) := by
  unfold State.clearRead
  refine Within.each_mem h_s fun u i hi hu => Within.wr hu _ _ _ ?_
  obtain ⟨hm, hc⟩ := List.mem_filter.1 hi
  rw [Reg.fields_reg r i hm]
  exact h_r (List.any_eq_true.2 ⟨i, hm, ((Bool.and_eq_true _ _).mp hc).2⟩)

theorem State.beforeRead_within {M : Foot} (hM : Foot.Sub 0x8000000001000000000000000000000000000000000000000000000000000 M) {s₀ s : State} (h_s : Within M s₀ s) (d : Nat) (r : Reg) (j : List Nat)  :
    Within M s₀ (State.beforeRead s d r j) := by
  unfold State.beforeRead
  repeat' (first
    | with_reducible assumption
    | (refine Foot.Sub.has hM ?_; decide)
    | (refine Foot.Sub.trans ?_ hM; decide)
    | (extract_lets +onlyGivenNames x; refine Within.cut (x := x) ?_ ?_; (on_goal 2 => (clear_value x; revert x; intro _ _)); (on_goal 1 => (unfold x; clear x)))
    | (extract_lets +onlyGivenNames x; refine Within.cut (x := x.1) ?_ ?_; (on_goal 2 => (clear_value x; revert x; intro _ _)); (on_goal 1 => (unfold x; clear x)))
    | (extract_lets +onlyGivenNames x; clear_value x; revert x; intro _)
    | with_reducible refine State.wr_within ?_ _ _ _ ?_
    | split
    | (with_reducible refine Within.of_eq (by with_reducible assumption) ?_))

theorem State.afterRead_within {M : Foot} (hM : Foot.Sub 0x200000000000000000000000000000000000000000000000000000000000000000000000000000000000000000000000000000004100000000000000000000000000000000000000000 M) {s₀ s : State} (h_s : Within M s₀ s) (d : Nat) (r : Reg) (j : List Nat) (w : Nat)  :
    Within M s₀ (State.afterRead s d r j w) := by
  unfold State.afterRead
  repeat' (first
    | with_reducible assumption
    | (refine Foot.Sub.has hM ?_; decide)
    | (refine Foot.Sub.trans ?_ hM; decide)
    | with_reducible refine State.timPop_within ?_ ?_ _ _
    | with_reducible refine Within.on ?_ fun _ _ => ?_
    | split
    | (with_reducible refine Within.of_eq (by with_reducible assumption) ?_)
    | (intro _))

theorem State.readWord_within {M : Foot} (hM : Foot.Sub 0x200000000000000000000000000000000000000000000000000000000000000000000000000000000000008000030001000080184f0040000105000100091003c000081080300c80000 M) {s₀ s : State} (h_s : Within M s₀ s) (d : Nat) (off : Nat)  :
    Within M s₀ (State.readWord s d off).1 := by
  unfold State.readWord
  split
  · exact h_s
  · rename_i r j w hr
    have hm : ∀ r ∈ Reg.bar0, r.fields.any (fun i => i.acc == .RC) = true → M.testBit r.ctorIdx = true := by
      have : Reg.bar0.all (fun r => !(r.fields.any fun i => i.acc == .RC) || Nat.testBit 0x200000000000000000000000000000000000000000000000000000000000000000000000000000000000008000030001000080184f0040000105000100091003c000081080300c80000 r.ctorIdx) = true := by
        decide +kernel
      intro r hr hc
      have h := List.all_eq_true.1 this r hr
      rw [hc] at h
      exact hM.has h
    split
    · exact h_s
    split
    · exact h_s
    exact State.afterRead_within (Foot.Sub.trans (by decide) hM)
      (State.clearRead_within (State.beforeRead_within (Foot.Sub.trans (by decide) hM) h_s _ _ _) _ _ _ (hm r (regAt_bar0 hr))) _ _ _ _

theorem State.readBar0_within {M : Foot} (hM : Foot.Sub 0x1c0001c602000000000000000000000000000000000000200000000830000000000000000000000000000027f9000008000030003c00898184f0040000105000100091003c000081080300c80000 M) {s₀ s : State} (h_s : Within M s₀ s) (d : Nat) (off : Nat) (size : Nat)  :
    Within M s₀ (State.readBar0 s d off size) := by
  unfold State.readBar0
  repeat' (first
    | with_reducible assumption
    | (refine Foot.Sub.has hM ?_; decide)
    | (refine Foot.Sub.trans ?_ hM; decide)
    | (extract_lets +onlyGivenNames x; refine Within.cut (x := x) ?_ ?_; (on_goal 2 => (clear_value x; revert x; intro _ _)); (on_goal 1 => (unfold x; clear x)))
    | (extract_lets +onlyGivenNames x; refine Within.cut (x := x.1) ?_ ?_; (on_goal 2 => (clear_value x; revert x; intro _ _)); (on_goal 1 => (unfold x; clear x)))
    | (extract_lets +onlyGivenNames x; clear_value x; revert x; intro _)
    | with_reducible refine State.readWord_within ?_ ?_ _ _
    | with_reducible refine State.emit_within ?_ ?_ _
    | with_reducible refine State.violation_within ?_ ?_ _ _ _ _
    | with_reducible refine Within.ite ?_ ?_
    | with_reducible refine Within.ite_fst ?_ ?_
    | split
    | (with_reducible refine Within.of_eq (by with_reducible assumption) ?_))

theorem State.writeBar0_within {M : Foot} (hM : Foot.Sub 0x7ffffffffffb0000000000000003ffffffffffffefffffffffffffffffffffffffffffffffffffffffffffffffffffffffffffffffffffffffffffffffffffffffffffffffffffffffffffffffff M) {s₀ s : State} (h_s : Within M s₀ s) (d : Nat) (off : Nat) (size : Nat) (v : Nat)  :
    Within M s₀ (State.writeBar0 s d off size v) := by
  unfold State.writeBar0
  repeat' (first
    | with_reducible assumption
    | (refine Foot.Sub.has hM ?_; decide)
    | (refine Foot.Sub.trans ?_ hM; decide)
    | (extract_lets +onlyGivenNames x; refine Within.cut (x := x) ?_ ?_; (on_goal 2 => (clear_value x; revert x; intro _ _)); (on_goal 1 => (unfold x; clear x)))
    | (extract_lets +onlyGivenNames x; refine Within.cut (x := x.1) ?_ ?_; (on_goal 2 => (clear_value x; revert x; intro _ _)); (on_goal 1 => (unfold x; clear x)))
    | (extract_lets +onlyGivenNames x; clear_value x; revert x; intro _)
    | with_reducible refine State.writeWord_within ?_ ?_ _ _ _
    | with_reducible refine State.violation_within ?_ ?_ _ _ _ _
    | with_reducible refine Within.ite ?_ ?_
    | with_reducible refine Within.ite_fst ?_ ?_
    | split
    | (with_reducible refine Within.of_eq (by with_reducible assumption) ?_))

end Sys2Proof.Machine
end

