-- ==== Sys2Proof/Laws/MbxOpsWithin.lean ====
section
/-!
SUPPORT. What each operation of Machine/MbxOps.lean may change (`Within`), and that it keeps the state sound.
-/

namespace Sys2Proof.Machine

set_option linter.all false

theorem onChan_within {M : Foot} {s₀ s : State} (h_s : Within M s₀ s) (ch : Nat) (f : State → Nat → Nat → State × Reply) (d : Nat) (h_f : ∀ u n m, Within M s₀ u → Within M s₀ (f u n m).1) :
    Within M s₀ (onChan ch f s d).1 := by
  unfold onChan
  repeat' (first
    | with_reducible assumption
    | with_reducible refine Within.ite ?_ ?_
    | with_reducible refine Within.ite_fst ?_ ?_
    | split
    | with_reducible apply h_f
    | (with_reducible refine Within.of_eq (by with_reducible assumption) ?_))

theorem onSet_within {M : Foot} {s₀ s : State} (h_s : Within M s₀ s) (set : Nat) (f : State → Nat → Nat → State × Reply) (d : Nat) (h_f : ∀ u n m, Within M s₀ u → Within M s₀ (f u n m).1) :
    Within M s₀ (onSet set f s d).1 := by
  unfold onSet
  repeat' (first
    | with_reducible assumption
    | (extract_lets +onlyGivenNames x; refine Within.cut (x := x) ?_ ?_; (on_goal 2 => (clear_value x; revert x; intro _ _)); (on_goal 1 => (unfold x; clear x)))
    | (extract_lets +onlyGivenNames x; refine Within.cut (x := x.1) ?_ ?_; (on_goal 2 => (clear_value x; revert x; intro _ _)); (on_goal 1 => (unfold x; clear x)))
    | (extract_lets +onlyGivenNames x; clear_value x; revert x; intro _)
    | split
    | with_reducible apply h_f
    | (with_reducible refine Within.of_eq (by with_reducible assumption) ?_))

theorem onRange_within {M : Foot} {s₀ s : State} (h_s : Within M s₀ s) (ok : Bool) (f : State → Nat → State × Reply) (d : Nat) (h_f : ∀ u n, Within M s₀ u → Within M s₀ (f u n).1) :
    Within M s₀ (onRange ok f s d).1 := by
  unfold onRange
  repeat' (first
    | with_reducible assumption
    | with_reducible refine Within.ite ?_ ?_
    | with_reducible refine Within.ite_fst ?_ ?_
    | split
    | with_reducible apply h_f
    | (with_reducible refine Within.of_eq (by with_reducible assumption) ?_))

theorem State.answerWith_within {M : Foot} {s₀ s : State} (h_s : Within M s₀ s) (results : List Byte)  :
    Within M s₀ (State.answerWith s results).1 := by
  unfold State.answerWith
  repeat' (first
    | with_reducible assumption
    | split
    | (with_reducible refine Within.of_eq (by with_reducible assumption) ?_))

theorem State.answerCode_within {M : Foot} {s₀ : State} (r : State × Nat) (h_r : Within M s₀ r.1) : Within M s₀ (State.answerCode r).1 := h_r

theorem State.mbxMode_within {M : Foot} (hM : Foot.Sub 0xe1e7b96010000000000000000000000000000000000002000083fc8340800000440e2fb4000000000200067f900000001e13c04c00089904000000000000800020204000000000000a880300000 M) {s₀ s : State} (h_s : Within M s₀ s) (h : MbxHdr) (mode : Nat)  :
    Within M s₀ (State.mbxMode s h mode).1 := by
  have go : ∀ m, Within M s₀ (State.mbxMode.go s h m).1 := fun m => State.requestMode_within (Foot.Sub.trans (by decide) hM) h_s _ _
  unfold State.mbxMode
  split <;> first | exact go _ | exact h_s

theorem State.longResult_within {M : Foot} {s₀ s : State} (h_s : Within M s₀ s) (d : Nat) (tag : Nat)  :
    Within M s₀ (State.longResult s d tag).1 := by
  unfold State.longResult
  repeat' (first
    | with_reducible assumption
    | (extract_lets +onlyGivenNames x; refine Within.cut (x := x) ?_ ?_; (on_goal 2 => (clear_value x; revert x; intro _ _)); (on_goal 1 => (unfold x; clear x)))
    | (extract_lets +onlyGivenNames x; refine Within.cut (x := x.1) ?_ ?_; (on_goal 2 => (clear_value x; revert x; intro _ _)); (on_goal 1 => (unfold x; clear x)))
    | (extract_lets +onlyGivenNames x; clear_value x; revert x; intro _)
    | with_reducible refine State.answerWith_within ?_ _
    | with_reducible refine Within.ite ?_ ?_
    | with_reducible refine Within.ite_fst ?_ ?_
    | split
    | (with_reducible refine Within.of_eq (by with_reducible assumption) ?_))

theorem State.abortDeferred_within {M : Foot} (hM : Foot.Sub 0xc18fbb6284000000000000000000000000000000000002000080008380800000840008803c0000000000067ff00000001e53c008200899040100000000028068006000200000000000080200000 M) {s₀ s : State} (h_s : Within M s₀ s) (o : Outstanding)  :
    Within M s₀ (State.abortDeferred s o) := by
  unfold State.abortDeferred
  repeat' (first
    | with_reducible assumption
    | (refine Foot.Sub.has hM ?_; decide)
    | (refine Foot.Sub.trans ?_ hM; decide)
    | (extract_lets +onlyGivenNames x; refine Within.cut (x := x) ?_ ?_; (on_goal 2 => (clear_value x; revert x; intro _ _)); (on_goal 1 => (unfold x; clear x)))
    | (extract_lets +onlyGivenNames x; refine Within.cut (x := x.1) ?_ ?_; (on_goal 2 => (clear_value x; revert x; intro _ _)); (on_goal 1 => (unfold x; clear x)))
    | (extract_lets +onlyGivenNames x; clear_value x; revert x; intro _)
    | with_reducible refine State.finish_within ?_ ?_ _ _ _
    | with_reducible refine State.dropDeferred_within ?_ ?_ _
    | with_reducible refine State.rethread_within ?_ ?_ _ _
    | with_reducible refine State.requestField_within ?_ ?_ _ _
    | with_reducible refine State.requestEnd_within ?_ ?_ _ _
    | with_reducible refine Within.ite ?_ ?_
    | with_reducible refine Within.ite_fst ?_ ?_
    | split
    | with_reducible refine Within.set_pool ?_ _ ?_
    | (with_reducible refine Within.of_eq (by with_reducible assumption) ?_))

theorem State.mbxAbort_within {M : Foot} (hM : Foot.Sub 0xe3efbb7284000000000000000000000000000000000002000080008380800000840e08803c0000000000067ff00000001e53c008200899040100000000028068006000200000000008880300000 M) {s₀ s : State} (h_s : Within M s₀ s) (d : Nat) (tag : Nat)  :
    Within M s₀ (State.mbxAbort s d tag).1 := by
  unfold State.mbxAbort
  repeat' (first
    | with_reducible assumption
    | (refine Foot.Sub.has hM ?_; decide)
    | (refine Foot.Sub.trans ?_ hM; decide)
    | (extract_lets +onlyGivenNames x; refine Within.cut (x := x) ?_ ?_; (on_goal 2 => (clear_value x; revert x; intro _ _)); (on_goal 1 => (unfold x; clear x)))
    | (extract_lets +onlyGivenNames x; refine Within.cut (x := x.1) ?_ ?_; (on_goal 2 => (clear_value x; revert x; intro _ _)); (on_goal 1 => (unfold x; clear x)))
    | (extract_lets +onlyGivenNames x; clear_value x; revert x; intro _)
    | with_reducible refine State.abortDeferred_within ?_ ?_ _
    | with_reducible refine State.combAbort_within ?_ ?_ _ _ _
    | with_reducible refine State.libEnd_within ?_ ?_ _ _
    | with_reducible refine Within.ite ?_ ?_
    | with_reducible refine Within.ite_fst ?_ ?_
    | split
    | (with_reducible refine Within.of_eq (by with_reducible assumption) ?_))

theorem State.ringReset_within {M : Foot} (hM : Foot.Sub 0xc0001ce01000000000000000000000000000000000000200000000830000000000000000000000000000027f900000000000000100089c000000000000000001080000000000000000000000000 M) {s₀ s : State} (h_s : Within M s₀ s) (h : MbxHdr) (q : Nat) (d : Nat)  :
    Within M s₀ (State.ringReset s h q d).1 := by
  unfold State.ringReset
  repeat' (first
    | with_reducible assumption
    | (refine Foot.Sub.has hM ?_; decide)
    | (refine Foot.Sub.trans ?_ hM; decide)
    | (extract_lets +onlyGivenNames x; refine Within.cut (x := x) ?_ ?_; (on_goal 2 => (clear_value x; revert x; intro _ _)); (on_goal 1 => (unfold x; clear x)))
    | (extract_lets +onlyGivenNames x; refine Within.cut (x := x.1) ?_ ?_; (on_goal 2 => (clear_value x; revert x; intro _ _)); (on_goal 1 => (unfold x; clear x)))
    | (extract_lets +onlyGivenNames x; clear_value x; revert x; intro _)
    | with_reducible refine State.wr_within ?_ _ _ _ ?_
    | with_reducible refine State.queDrop_within ?_ ?_ _ _
    | with_reducible refine State.raise_within ?_ ?_ _ _ _
    | with_reducible refine Within.on ?_ fun _ _ => ?_
    | with_reducible refine Within.ite ?_ ?_
    | with_reducible refine Within.ite_fst ?_ ?_
    | split
    | with_reducible refine Within.set_violations ?_ _ ?_
    | (with_reducible refine Within.of_eq (by with_reducible assumption) ?_)
    | (intro _))

theorem State.vlogRead_within {M : Foot} (hM : Foot.Sub 0x40000020000000000000000000000000000000000000000000000000000000000000000000000000000000000000000000000000000000000000000000000000000000000000000000000000000 M) {s₀ s : State} (h_s : Within M s₀ s) (h : MbxHdr) (first : Nat) (count : Nat) (addr : Nat) (d : Nat)  :
    Within M s₀ (State.vlogRead s h first count addr d).1 := by
  unfold State.vlogRead
  repeat' (first
    | with_reducible assumption
    | (refine Foot.Sub.has hM ?_; decide)
    | (refine Foot.Sub.trans ?_ hM; decide)
    | (extract_lets +onlyGivenNames x; refine Within.cut (x := x) ?_ ?_; (on_goal 2 => (clear_value x; revert x; intro _ _)); (on_goal 1 => (unfold x; clear x)))
    | (extract_lets +onlyGivenNames x; refine Within.cut (x := x.1) ?_ ?_; (on_goal 2 => (clear_value x; revert x; intro _ _)); (on_goal 1 => (unfold x; clear x)))
    | (extract_lets +onlyGivenNames x; clear_value x; revert x; intro _)
    | with_reducible refine State.count_within ?_ ?_ _ _ _ ?_
    | with_reducible refine State.emit_within ?_ ?_ _
    | with_reducible refine State.answerWith_within ?_ _
    | split
    | (with_reducible refine Within.of_eq (by with_reducible assumption) ?_))

theorem State.cueSetAll_within {M : Foot} (hM : Foot.Sub 0xd187bb681a0000000000000000180000000000000000020000800083000186001000088003fe1f8c01cdc67f900800001c03c000200898242000000000008001f800382662800048000800c2100 M) {s₀ s : State} (h_s : Within M s₀ s) (n : Nat) (action : Nat) (state : Nat) (target : Nat) (flags : Nat) (frac : Nat) (param : Nat) (ticks : Nat) (d : Nat)  :
    Within M s₀ (State.cueSetAll s n action state target flags frac param ticks d).1 := by
  unfold State.cueSetAll
  repeat' (first
    | with_reducible assumption
    | (refine Foot.Sub.has hM ?_; decide)
    | (refine Foot.Sub.trans ?_ hM; decide)
    | (extract_lets +onlyGivenNames x; refine Within.cut (x := x) ?_ ?_; (on_goal 2 => (clear_value x; revert x; intro _ _)); (on_goal 1 => (unfold x; clear x)))
    | (extract_lets +onlyGivenNames x; refine Within.cut (x := x.1) ?_ ?_; (on_goal 2 => (clear_value x; revert x; intro _ _)); (on_goal 1 => (unfold x; clear x)))
    | (extract_lets +onlyGivenNames x; have _h : (_ : _) → _ := x; clear _h; subst x)
    | with_reducible refine State.answerWith_within ?_ _
    | with_reducible refine State.cueExecute_within ?_ ?_ _ _
    | with_reducible refine State.writeCueWord_within ?_ ?_ _ _ _ _
    | with_reducible refine Within.ite ?_ ?_
    | with_reducible refine Within.ite_fst ?_ ?_
    | split
    | (with_reducible refine Within.of_eq (by with_reducible assumption) ?_))

theorem State.mbxStore_within {M : Foot} (hM : Foot.Sub 0xc1e7b9600000000000000000000000000000000000000200008000830000000000000880000000000000067f900000001c03c000000898040000000000008000000000000000000008080000000 M) {s₀ s : State} (h_s : Within M s₀ s) (h : MbxHdr)  :
    Within M s₀ (State.mbxStore s h).1 := by
  unfold State.mbxStore
  repeat' (first
    | with_reducible assumption
    | (refine Foot.Sub.has hM ?_; decide)
    | (refine Foot.Sub.trans ?_ hM; decide)
    | (extract_lets +onlyGivenNames x; refine Within.cut (x := x) ?_ ?_; (on_goal 2 => (clear_value x; revert x; intro _ _)); (on_goal 1 => (unfold x; clear x)))
    | (extract_lets +onlyGivenNames x; refine Within.cut (x := x.1) ?_ ?_; (on_goal 2 => (clear_value x; revert x; intro _ _)); (on_goal 1 => (unfold x; clear x)))
    | (extract_lets +onlyGivenNames x; clear_value x; revert x; intro _)
    | with_reducible refine State.storeRequest_within ?_ ?_ _ _
    | split
    | (with_reducible refine Within.of_eq (by with_reducible assumption) ?_))

theorem State.trimRead_within {M : Foot} (hM : Foot.Sub 0x20000000000000000000000000000000000000000000000000000000000000000000000000000000000000000000000000000000000000000000000000000000000000000003000000000 M) {s₀ s : State} (h_s : Within M s₀ s) (h : MbxHdr) (addr : Nat) (d : Nat) (c : Nat)  :
    Within M s₀ (State.trimRead s h addr d c).1 := by
  unfold State.trimRead
  repeat' (first
    | with_reducible assumption
    | (refine Foot.Sub.has hM ?_; decide)
    | (refine Foot.Sub.trans ?_ hM; decide)
    | (extract_lets +onlyGivenNames x; refine Within.cut (x := x) ?_ ?_; (on_goal 2 => (clear_value x; revert x; intro _ _)); (on_goal 1 => (unfold x; clear x)))
    | (extract_lets +onlyGivenNames x; refine Within.cut (x := x.1) ?_ ?_; (on_goal 2 => (clear_value x; revert x; intro _ _)); (on_goal 1 => (unfold x; clear x)))
    | (extract_lets +onlyGivenNames x; have _h : (_ : _) → _ := x; clear _h; subst x)
    | (extract_lets +onlyGivenNames x; clear_value x; revert x; intro _)
    | with_reducible refine State.emit_within ?_ ?_ _
    | split
    | (with_reducible refine Within.of_eq (by with_reducible assumption) ?_))

theorem State.cfgRegs_within {M : Foot} (hM : Foot.Sub 0x7ffffffffffb0000000000000003ffffffffffffefffffffffffffffffffffffffffffffffffffffffffffffffffffffffffffffffffffffffffffffffffffffffffffffffffffffffffffffffff M) {s₀ s : State} (h_s : Within M s₀ s) (d : Nat)
    (l : List (Reg × List Nat × Nat)) (h_l : ∀ e ∈ l, M.testBit e.1.ctorIdx = true) : Within M s₀ (State.cfgRegs s d l).1 := by
  unfold State.cfgRegs
  refine State.cfgReply_within h_s _ _ fun g hg u hu => ?_
  obtain ⟨x, hx, rfl⟩ := List.mem_map.1 hg
  exact State.writeReg_within (Foot.Sub.trans (by decide) hM) hu _ _ _ _ _ (h_l x hx)

theorem State.mbxAccCmd_within {M : Foot} (hM : Foot.Sub 0xc187bb6084000000000000000000000000000000000002000080008300000000000008803c0000000000067ff00000001c03c00020089804000000000002806a004000000000000000080000000 M) {s₀ s : State} (h_s : Within M s₀ s) (h : MbxHdr) (v : Nat) (freeze : Nat) (d : Nat) (c : Nat)  :
    Within M s₀ (State.mbxAccCmd s h v freeze d c).1 := by
  unfold State.mbxAccCmd
  repeat' (first
    | with_reducible assumption
    | (refine Foot.Sub.has hM ?_; decide)
    | (refine Foot.Sub.trans ?_ hM; decide)
    | (extract_lets +onlyGivenNames x; refine Within.cut (x := x) ?_ ?_; (on_goal 2 => (clear_value x; revert x; intro _ _)); (on_goal 1 => (unfold x; clear x)))
    | (extract_lets +onlyGivenNames x; refine Within.cut (x := x.1) ?_ ?_; (on_goal 2 => (clear_value x; revert x; intro _ _)); (on_goal 1 => (unfold x; clear x)))
    | (extract_lets +onlyGivenNames x; clear_value x; revert x; intro _)
    | with_reducible refine State.accCmd_within ?_ ?_ _ _ _ _
    | with_reducible refine State.setFreeze_within ?_ ?_ _ _ _
    | with_reducible refine Within.on ?_ fun _ _ => ?_
    | with_reducible refine Within.ite ?_ ?_
    | with_reducible refine Within.ite_fst ?_ ?_
    | split
    | (with_reducible refine Within.of_eq (by with_reducible assumption) ?_)
    | (intro _))

theorem State.readAvg_within {M : Foot} (hM : Foot.Sub 0x860000000000000000000000000000000000000020000000080000000000000000000000000000002701000000000000000000018000000000000000000000000000000000000000000000 M) {s₀ s : State} (h_s : Within M s₀ s) (size : Nat) (addr : Nat) (d : Nat) (c : Nat)  :
    Within M s₀ (State.readAvg s size addr d c).1 := by
  unfold State.readAvg
  repeat' (first
    | with_reducible assumption
    | (refine Foot.Sub.has hM ?_; decide)
    | (refine Foot.Sub.trans ?_ hM; decide)
    | (extract_lets +onlyGivenNames x; refine Within.cut (x := x) ?_ ?_; (on_goal 2 => (clear_value x; revert x; intro _ _)); (on_goal 1 => (unfold x; clear x)))
    | (extract_lets +onlyGivenNames x; refine Within.cut (x := x.1) ?_ ?_; (on_goal 2 => (clear_value x; revert x; intro _ _)); (on_goal 1 => (unfold x; clear x)))
    | (extract_lets +onlyGivenNames x; clear_value x; revert x; intro _)
    | with_reducible refine State.emit_within ?_ ?_ _
    | with_reducible refine State.complete_within ?_ ?_ _ _ _ _ _ _
    | with_reducible refine Within.ite ?_ ?_
    | with_reducible refine Within.ite_fst ?_ ?_
    | split
    | (with_reducible refine Within.of_eq (by with_reducible assumption) ?_))

theorem State.readHist_within {M : Foot} (hM : Foot.Sub 0x860000000000000000000000000000000000000020000000080000000000000000000000000000002701000000000000000000018000000000000000000000000000000000000000000000 M) {s₀ s : State} (h_s : Within M s₀ s) (addr : Nat) (d : Nat) (c : Nat)  :
    Within M s₀ (State.readHist s addr d c).1 := by
  unfold State.readHist
  repeat' (first
    | with_reducible assumption
    | (refine Foot.Sub.has hM ?_; decide)
    | (refine Foot.Sub.trans ?_ hM; decide)
    | (extract_lets +onlyGivenNames x; refine Within.cut (x := x) ?_ ?_; (on_goal 2 => (clear_value x; revert x; intro _ _)); (on_goal 1 => (unfold x; clear x)))
    | (extract_lets +onlyGivenNames x; refine Within.cut (x := x.1) ?_ ?_; (on_goal 2 => (clear_value x; revert x; intro _ _)); (on_goal 1 => (unfold x; clear x)))
    | (extract_lets +onlyGivenNames x; clear_value x; revert x; intro _)
    | with_reducible refine State.emit_within ?_ ?_ _
    | with_reducible refine State.complete_within ?_ ?_ _ _ _ _ _ _
    | split
    | (with_reducible refine Within.of_eq (by with_reducible assumption) ?_))

theorem State.poolAlloc_within {M : Foot} (hM : Foot.Sub 0x2000000000000000000000000000000000000000000000000000000000000000000000000000000000000000000000000000000000000000000000000000000000000000000000000000 M) {s₀ s : State} (h_s : Within M s₀ s) (size : Nat) (d : Nat)  :
    Within M s₀ (State.poolAlloc s size d).1 := by
  unfold State.poolAlloc
  repeat' (first
    | with_reducible assumption
    | (refine Foot.Sub.has hM ?_; decide)
    | (refine Foot.Sub.trans ?_ hM; decide)
    | (extract_lets +onlyGivenNames x; refine Within.cut (x := x) ?_ ?_; (on_goal 2 => (clear_value x; revert x; intro _ _)); (on_goal 1 => (unfold x; clear x)))
    | (extract_lets +onlyGivenNames x; refine Within.cut (x := x.1) ?_ ?_; (on_goal 2 => (clear_value x; revert x; intro _ _)); (on_goal 1 => (unfold x; clear x)))
    | (extract_lets +onlyGivenNames x; clear_value x; revert x; intro _)
    | with_reducible refine State.useFree_within ?_
    | with_reducible refine State.answerWith_within ?_ _
    | with_reducible refine Within.ite ?_ ?_
    | with_reducible refine Within.ite_fst ?_ ?_
    | split
    | with_reducible refine Within.set_pool ?_ _ ?_
    | (with_reducible refine Within.of_eq (by with_reducible assumption) ?_))

theorem State.poolRelease_within {M : Foot} (hM : Foot.Sub 0x2000000000000000000000000000000000000000000000000000000000000000000000000000000000000000000000000000000000000000000000000000000000000000000000000000 M) {s₀ s : State} (h_s : Within M s₀ s) (off : Nat) (d : Nat)  :
    Within M s₀ (State.poolRelease s off d).1 := by
  unfold State.poolRelease
  repeat' (first
    | with_reducible assumption
    | (refine Foot.Sub.has hM ?_; decide)
    | (refine Foot.Sub.trans ?_ hM; decide)
    | (extract_lets +onlyGivenNames x; refine Within.cut (x := x) ?_ ?_; (on_goal 2 => (clear_value x; revert x; intro _ _)); (on_goal 1 => (unfold x; clear x)))
    | (extract_lets +onlyGivenNames x; refine Within.cut (x := x.1) ?_ ?_; (on_goal 2 => (clear_value x; revert x; intro _ _)); (on_goal 1 => (unfold x; clear x)))
    | (extract_lets +onlyGivenNames x; clear_value x; revert x; intro _)
    | with_reducible refine Within.ite ?_ ?_
    | with_reducible refine Within.ite_fst ?_ ?_
    | split
    | with_reducible refine Within.set_pool ?_ _ ?_
    | (with_reducible refine Within.of_eq (by with_reducible assumption) ?_))

theorem State.mbxDpcd_within {M : Foot} {s₀ s : State} (h_s : Within M s₀ s) (data : Option (List Byte)) (d : Nat)  :
    Within M s₀ (State.mbxDpcd s data d).1 := by
  unfold State.mbxDpcd
  repeat' (first
    | with_reducible assumption
    | (extract_lets +onlyGivenNames x; refine Within.cut (x := x) ?_ ?_; (on_goal 2 => (clear_value x; revert x; intro _ _)); (on_goal 1 => (unfold x; clear x)))
    | (extract_lets +onlyGivenNames x; refine Within.cut (x := x.1) ?_ ?_; (on_goal 2 => (clear_value x; revert x; intro _ _)); (on_goal 1 => (unfold x; clear x)))
    | (extract_lets +onlyGivenNames x; clear_value x; revert x; intro _)
    | with_reducible refine State.answerWith_within ?_ _
    | with_reducible refine Within.ite ?_ ?_
    | with_reducible refine Within.ite_fst ?_ ?_
    | split
    | (with_reducible refine Within.of_eq (by with_reducible assumption) ?_))

theorem State.mbxTimEn_within {M : Foot} (hM : Foot.Sub 0xc187bb606000000000000000000000000000000000000200008000830000000000000880000000000000067f900000001c03c000200898045f1c000000008000000000000000000000080000000 M) {s₀ s : State} (h_s : Within M s₀ s) (h : MbxHdr) (u : Nat) (en : Nat) (d : Nat)  :
    Within M s₀ (State.mbxTimEn s h u en d).1 := by
  unfold State.mbxTimEn
  repeat' (first
    | with_reducible assumption
    | (refine Foot.Sub.has hM ?_; decide)
    | (refine Foot.Sub.trans ?_ hM; decide)
    | (extract_lets +onlyGivenNames x; refine Within.cut (x := x) ?_ ?_; (on_goal 2 => (clear_value x; revert x; intro _ _)); (on_goal 1 => (unfold x; clear x)))
    | (extract_lets +onlyGivenNames x; refine Within.cut (x := x.1) ?_ ?_; (on_goal 2 => (clear_value x; revert x; intro _ _)); (on_goal 1 => (unfold x; clear x)))
    | (extract_lets +onlyGivenNames x; clear_value x; revert x; intro _)
    | with_reducible refine State.requestTim_within ?_ ?_ _ _ _
    | with_reducible refine State.requestTimStop_within ?_ ?_ _ _
    | with_reducible refine Within.ite ?_ ?_
    | with_reducible refine Within.ite_fst ?_ ?_
    | split
    | (with_reducible refine Within.of_eq (by with_reducible assumption) ?_))

theorem State.mbxTimRead_within {M : Foot} (hM : Foot.Sub 0x200000000000000000000000000000000000000000000000000000000000000000000000000000000000000000000000000000004100000000000000000000000000000000000000000 M) {s₀ s : State} (h_s : Within M s₀ s) (u : Nat) (d : Nat)  :
    Within M s₀ (State.mbxTimRead s u d).1 := by
  unfold State.mbxTimRead
  repeat' (first
    | with_reducible assumption
    | (refine Foot.Sub.has hM ?_; decide)
    | (refine Foot.Sub.trans ?_ hM; decide)
    | with_reducible refine State.timPop_within ?_ ?_ _ _
    | split
    | (with_reducible refine Within.of_eq (by with_reducible assumption) ?_))

theorem State.mbxAllow_within {M : Foot} (hM : Foot.Sub 0xe1efbbe8fe00000000000000001800000000000028000e0000810483c0800000941eff943fec178c0000067ff0000e001e53fc0c200899045f1c000000028068f8602820020000080a880300000 M) {s₀ s : State} (h_s : Within M s₀ s) (policy : Nat) (cap : Nat) (budget : Nat)  :
    Within M s₀ (State.mbxAllow s policy cap budget).1 := by
  unfold State.mbxAllow
  repeat' (first
    | with_reducible assumption
    | (refine Foot.Sub.has hM ?_; decide)
    | (refine Foot.Sub.trans ?_ hM; decide)
    | (extract_lets +onlyGivenNames x; refine Within.cut (x := x) ?_ ?_; (on_goal 2 => (clear_value x; revert x; intro _ _)); (on_goal 1 => (unfold x; clear x)))
    | (extract_lets +onlyGivenNames x; refine Within.cut (x := x.1) ?_ ?_; (on_goal 2 => (clear_value x; revert x; intro _ _)); (on_goal 1 => (unfold x; clear x)))
    | (extract_lets +onlyGivenNames x; clear_value x; revert x; intro _)
    | with_reducible refine State.setAllowance_within ?_ ?_ _ _ _
    | split
    | (with_reducible refine Within.of_eq (by with_reducible assumption) ?_))

theorem State.mbxMeasure_within {M : Foot} (hM : Foot.Sub 0x200000000000000000000000020000e0000000000000000000000000000000000000000000000000000000000000000000000000000000000000000000000000000000000000000000000 M) {s₀ s : State} (h_s : Within M s₀ s) (port : Nat) (ofs : Nat)  :
    Within M s₀ (State.mbxMeasure s port ofs).1 := by
  unfold State.mbxMeasure
  repeat' (first
    | with_reducible assumption
    | (refine Foot.Sub.has hM ?_; decide)
    | (refine Foot.Sub.trans ?_ hM; decide)
    | with_reducible refine State.echoSend_within ?_ ?_ _ _
    | with_reducible refine Within.ite ?_ ?_
    | with_reducible refine Within.ite_fst ?_ ?_
    | split
    | (with_reducible refine Within.of_eq (by with_reducible assumption) ?_))

theorem State.fwStage_within {M : Foot} (hM : Foot.Sub 0x200020000000000000000000000000000002000000000000000000000000000000000000000000000000000000000000000000000000000000000000000000000000000000000000000000000 M) {s₀ s : State} (h_s : Within M s₀ s) (offset : Nat) (length : Nat) (bytes : List Byte)  :
    Within M s₀ (State.fwStage s offset length bytes).1 := by
  unfold State.fwStage
  repeat' (first
    | with_reducible assumption
    | (refine Foot.Sub.has hM ?_; decide)
    | (refine Foot.Sub.trans ?_ hM; decide)
    | (extract_lets +onlyGivenNames x; refine Within.cut (x := x) ?_ ?_; (on_goal 2 => (clear_value x; revert x; intro _ _)); (on_goal 1 => (unfold x; clear x)))
    | (extract_lets +onlyGivenNames x; refine Within.cut (x := x.1) ?_ ?_; (on_goal 2 => (clear_value x; revert x; intro _ _)); (on_goal 1 => (unfold x; clear x)))
    | (extract_lets +onlyGivenNames x; clear_value x; revert x; intro _)
    | with_reducible refine State.flashErase_within ?_ ?_ _ _
    | with_reducible refine State.flashProgram_within ?_ ?_ _ _
    | with_reducible refine State.wr_within ?_ _ _ _ ?_
    | with_reducible refine Within.on ?_ fun _ _ => ?_
    | with_reducible refine Within.ite ?_ ?_
    | with_reducible refine Within.ite_fst ?_ ?_
    | split
    | (with_reducible refine Within.of_eq (by with_reducible assumption) ?_)
    | (intro _))

theorem State.fwVerify_within {M : Foot} (hM : Foot.Sub 0x2000000000000000000000000000000000000000000000000000000000000000000000000000000000000000000000000000000000000000000000 M) {s₀ s : State} (h_s : Within M s₀ s)   :
    Within M s₀ (State.fwVerify s).1 := by
  unfold State.fwVerify
  repeat' (first
    | with_reducible assumption
    | (refine Foot.Sub.has hM ?_; decide)
    | (refine Foot.Sub.trans ?_ hM; decide)
    | with_reducible refine State.wr_within ?_ _ _ _ ?_
    | split
    | (with_reducible refine Within.of_eq (by with_reducible assumption) ?_))

theorem State.fwSelect_within {M : Foot} (hM : Foot.Sub 0x200020000000000000000000000000000000000000000000000000000000000000000000000000000000000000100000000000000000000000000000000000000000000000000000000000000 M) {s₀ s : State} (h_s : Within M s₀ s) (image : Nat)  :
    Within M s₀ (State.fwSelect s image).1 := by
  unfold State.fwSelect
  repeat' (first
    | with_reducible assumption
    | (refine Foot.Sub.has hM ?_; decide)
    | (refine Foot.Sub.trans ?_ hM; decide)
    | (split <;> (refine Foot.Sub.has hM ?_; decide))
    | (extract_lets +onlyGivenNames x; refine Within.cut (x := x) ?_ ?_; (on_goal 2 => (clear_value x; revert x; intro _ _)); (on_goal 1 => (unfold x; clear x)))
    | (extract_lets +onlyGivenNames x; refine Within.cut (x := x.1) ?_ ?_; (on_goal 2 => (clear_value x; revert x; intro _ _)); (on_goal 1 => (unfold x; clear x)))
    | (extract_lets +onlyGivenNames x; clear_value x; revert x; intro _)
    | with_reducible refine State.flashErase_within ?_ ?_ _ _
    | with_reducible refine State.flashProgram_within ?_ ?_ _ _
    | with_reducible refine State.wr_within ?_ _ _ _ ?_
    | with_reducible refine Within.ite ?_ ?_
    | with_reducible refine Within.ite_fst ?_ ?_
    | split
    | (with_reducible refine Within.of_eq (by with_reducible assumption) ?_))

end Sys2Proof.Machine
end

