-- ==== Sys2Proof/Laws/TriggerWithin.lean ====
section
/-!
SUPPORT. What each operation of Machine/Trigger.lean may change (`Within`), and that it keeps the state sound.
-/

namespace Sys2Proof.Machine

set_option linter.all false

theorem State.channelSees_within {M : Foot} (hM : Foot.Sub 0xd80018600000000000000000000000000000000000000200000000830000000000000000000000000000027f90000000000000000008980000000000000000000000000000004a18c0000a00000 M) {s₀ s : State} (h_s : Within M s₀ s) (t : Instant) (x : ChanSample)  :
    Within M s₀ (State.channelSees s t x) := by
  unfold State.channelSees
  repeat' (first
    | with_reducible assumption
    | (refine Foot.Sub.has hM ?_; decide)
    | (refine Foot.Sub.trans ?_ hM; decide)
    | (extract_lets +onlyGivenNames x; refine Within.cut (x := x) ?_ ?_; (on_goal 2 => (clear_value x; revert x; intro _ _)); (on_goal 1 => (unfold x; clear x)))
    | (extract_lets +onlyGivenNames x; refine Within.cut (x := x.1) ?_ ?_; (on_goal 2 => (clear_value x; revert x; intro _ _)); (on_goal 1 => (unfold x; clear x)))
    | (extract_lets +onlyGivenNames x; clear_value x; revert x; intro _)
    | with_reducible refine State.runSeen_within ?_ ?_ _ _ _ _
    | with_reducible refine State.levelSees_within ?_ ?_ _ _ _ _ _
    | with_reducible refine State.arrive_within ?_ ?_ _
    | with_reducible refine Within.foldl ?_ fun _ _ _ => ?_
    | with_reducible refine Within.foldl_fst ?_ fun _ _ _ => ?_
    | with_reducible refine Within.ite ?_ ?_
    | with_reducible refine Within.ite_fst ?_ ?_
    | split
    | (with_reducible refine Within.of_eq (by with_reducible assumption) ?_))

theorem State.sampleSees_within {M : Foot} (hM : Foot.Sub 0xd80018600000000000000000000000000000000000000200000000830000000000000000000000000000027f90000000000000000008980000000000000000000000000000004a18c0000a00000 M) {s₀ s : State} (h_s : Within M s₀ s) (t : Instant) (xs : List ChanSample)  :
    Within M s₀ (State.sampleSees s t xs) := by
  unfold State.sampleSees
  repeat' (first
    | with_reducible assumption
    | (refine Foot.Sub.has hM ?_; decide)
    | (refine Foot.Sub.trans ?_ hM; decide)
    | with_reducible refine State.channelSees_within ?_ ?_ _ _
    | with_reducible refine Within.on ?_ fun _ _ => ?_
    | with_reducible refine Within.each ?_ fun _ _ _ => ?_
    | split
    | (with_reducible refine Within.of_eq (by with_reducible assumption) ?_)
    | (intro _))

theorem State.writeLevel_within {M : Foot} (hM : Foot.Sub 0x200000000000000 M) {s₀ s : State} (h_s : Within M s₀ s) (d : Nat) (c : Nat) (n : Nat) (v : Nat)  :
    Within M s₀ (State.writeLevel d c n v s).1 := by
  unfold State.writeLevel
  repeat' (first
    | with_reducible assumption
    | (refine Foot.Sub.has hM ?_; decide)
    | (refine Foot.Sub.trans ?_ hM; decide)
    | with_reducible refine State.wr_within ?_ _ _ _ ?_
    | split
    | (with_reducible refine Within.of_eq (by with_reducible assumption) ?_))

end Sys2Proof.Machine
end

