-- ==== Sys2Proof/Laws/WriteReg.lean ====
section
/-!
SUPPORT. What a write of one register may change, for the registers that configuration commands write (R350).
-/

namespace Sys2Proof.Machine

theorem State.writeReg_LGC_CH_CFG_within {M : Foot} (hM : Foot.Sub 0xc000186000000000000000000000000000000000000002001a0000830000000000000000000000000400027f9000000000000000000898000003200000000000000000000000000000000000000 M) {s₀ s : State} (h_s : Within M s₀ s) (d : Nat) (j : List Nat)
    (w v : Nat) : Within M s₀ (State.writeReg d .LGC_CH_CFG j w v s).1 := by
  show Within M s₀ ((State.writeLgcCfg d (j.getD 0 0) v s)).1
  repeat' (first
    | with_reducible assumption
    | (refine State.setFields_has ?_ _ _ _ _)
    | (refine Foot.Sub.has hM ?_; decide)
    | (refine Foot.Sub.trans ?_ hM; decide)
    | with_reducible refine State.writeLgcCfg_within ?_ ?_ _ _ _
    | split
    | with_reducible refine Within.set_ringRecs ?_ _ ?_
    | with_reducible refine Within.set_coreReqs ?_ _ ?_
    | with_reducible refine Within.set_fwRecords ?_ _ ?_
    | with_reducible refine Within.set_fresh ?_ _ ?_
    | with_reducible refine Within.set_heldRecs ?_ _ ?_
    | (with_reducible refine Within.of_eq (by with_reducible assumption) ?_))

theorem State.writeReg_LGC_CTRL_within {M : Foot} (hM : Foot.Sub 0x4000000000000000000000000000000100000000000000000000000000000000000800000000000000000000000000000000000000 M) {s₀ s : State} (h_s : Within M s₀ s) (d : Nat) (j : List Nat)
    (w v : Nat) : Within M s₀ (State.writeReg d .LGC_CTRL j w v s).1 := by
  show Within M s₀ ((State.writeLgcCtrl d v s)).1
  repeat' (first
    | with_reducible assumption
    | (refine State.setFields_has ?_ _ _ _ _)
    | (refine Foot.Sub.has hM ?_; decide)
    | (refine Foot.Sub.trans ?_ hM; decide)
    | with_reducible refine State.writeLgcCtrl_within ?_ ?_ _ _
    | split
    | (with_reducible refine Within.of_eq (by with_reducible assumption) ?_))

theorem State.writeReg_TIM_START_SRC_within {M : Foot} (hM : Foot.Sub 0xc00018606000000000000000000000000000000000000200000000830000000000000000000000000000027f9000000000000000000898005f18000000000000000000000000000000000000000 M) {s₀ s : State} (h_s : Within M s₀ s) (d : Nat) (j : List Nat)
    (w v : Nat) : Within M s₀ (State.writeReg d .TIM_START_SRC j w v s).1 := by
  show Within M s₀ ((State.writeTimCfg (s.setFields .TIM_START_SRC [d, (j.getD 0 0)] w v) d (j.getD 0 0) s)).1
  repeat' (first
    | with_reducible assumption
    | (refine State.setFields_has ?_ _ _ _ _)
    | (refine Foot.Sub.has hM ?_; decide)
    | (refine Foot.Sub.trans ?_ hM; decide)
    | (unfold State.setFields; split <;> (refine Foot.Sub.has hM ?_; decide))
    | (split <;> (refine Foot.Sub.has hM ?_; decide))
    | with_reducible refine State.writeTimCfg_within ?_ ?_ _ _ _ ?_
    | split
    | with_reducible refine Within.set_tims ?_ _ (by simp) ?_
    | with_reducible refine Within.set_timHeld ?_ _ ?_
    | with_reducible refine Within.set_ringRecs ?_ _ ?_
    | with_reducible refine Within.set_coreReqs ?_ _ ?_
    | with_reducible refine Within.set_fwRecords ?_ _ ?_
    | with_reducible refine Within.set_fresh ?_ _ ?_
    | with_reducible refine Within.set_heldRecs ?_ _ ?_
    | (with_reducible refine Within.of_eq (by with_reducible assumption) ?_))

theorem State.writeReg_TIM_STOP_SRC_within {M : Foot} (hM : Foot.Sub 0xc00018606000000000000000000000000000000000000200000000830000000000000000000000000000027f9000000000000000000898005f18000000000000000000000000000000000000000 M) {s₀ s : State} (h_s : Within M s₀ s) (d : Nat) (j : List Nat)
    (w v : Nat) : Within M s₀ (State.writeReg d .TIM_STOP_SRC j w v s).1 := by
  show Within M s₀ ((State.writeTimCfg (s.setFields .TIM_STOP_SRC [d, (j.getD 0 0)] w v) d (j.getD 0 0) s)).1
  repeat' (first
    | with_reducible assumption
    | (refine State.setFields_has ?_ _ _ _ _)
    | (refine Foot.Sub.has hM ?_; decide)
    | (refine Foot.Sub.trans ?_ hM; decide)
    | (unfold State.setFields; split <;> (refine Foot.Sub.has hM ?_; decide))
    | (split <;> (refine Foot.Sub.has hM ?_; decide))
    | with_reducible refine State.writeTimCfg_within ?_ ?_ _ _ _ ?_
    | split
    | with_reducible refine Within.set_tims ?_ _ (by simp) ?_
    | with_reducible refine Within.set_timHeld ?_ _ ?_
    | with_reducible refine Within.set_ringRecs ?_ _ ?_
    | with_reducible refine Within.set_coreReqs ?_ _ ?_
    | with_reducible refine Within.set_fwRecords ?_ _ ?_
    | with_reducible refine Within.set_fresh ?_ _ ?_
    | with_reducible refine Within.set_heldRecs ?_ _ ?_
    | (with_reducible refine Within.of_eq (by with_reducible assumption) ?_))

theorem State.writeReg_TIM_GATE_within {M : Foot} (hM : Foot.Sub 0xc00018606000000000000000000000000000000000000200000000830000000000000000000000000000027f9000000000000000000898005f38000000000000000000000000000000000000000 M) {s₀ s : State} (h_s : Within M s₀ s) (d : Nat) (j : List Nat)
    (w v : Nat) : Within M s₀ (State.writeReg d .TIM_GATE j w v s).1 := by
  show Within M s₀ ((State.writeTimCfg (s.setFields .TIM_GATE [d, (j.getD 0 0)] w v) d (j.getD 0 0) s)).1
  repeat' (first
    | with_reducible assumption
    | (refine State.setFields_has ?_ _ _ _ _)
    | (refine Foot.Sub.has hM ?_; decide)
    | (refine Foot.Sub.trans ?_ hM; decide)
    | (unfold State.setFields; split <;> (refine Foot.Sub.has hM ?_; decide))
    | (split <;> (refine Foot.Sub.has hM ?_; decide))
    | with_reducible refine State.writeTimCfg_within ?_ ?_ _ _ _ ?_
    | split
    | with_reducible refine Within.set_tims ?_ _ (by simp) ?_
    | with_reducible refine Within.set_timHeld ?_ _ ?_
    | with_reducible refine Within.set_ringRecs ?_ _ ?_
    | with_reducible refine Within.set_coreReqs ?_ _ ?_
    | with_reducible refine Within.set_fwRecords ?_ _ ?_
    | with_reducible refine Within.set_fresh ?_ _ ?_
    | with_reducible refine Within.set_heldRecs ?_ _ ?_
    | (with_reducible refine Within.of_eq (by with_reducible assumption) ?_))

theorem State.writeReg_TIM_N_within {M : Foot} (hM : Foot.Sub 0xc00018606000000000000000000000000000000000000200000000830000000000000000000000000000027f9000000000000000000898005f58000000000000000000000000000000000000000 M) {s₀ s : State} (h_s : Within M s₀ s) (d : Nat) (j : List Nat)
    (w v : Nat) : Within M s₀ (State.writeReg d .TIM_N j w v s).1 := by
  show Within M s₀ ((State.writeTimCfg (s.setFields .TIM_N [d, (j.getD 0 0)] w v) d (j.getD 0 0) s)).1
  repeat' (first
    | with_reducible assumption
    | (refine State.setFields_has ?_ _ _ _ _)
    | (refine Foot.Sub.has hM ?_; decide)
    | (refine Foot.Sub.trans ?_ hM; decide)
    | (unfold State.setFields; split <;> (refine Foot.Sub.has hM ?_; decide))
    | (split <;> (refine Foot.Sub.has hM ?_; decide))
    | with_reducible refine State.writeTimCfg_within ?_ ?_ _ _ _ ?_
    | split
    | with_reducible refine Within.set_tims ?_ _ (by simp) ?_
    | with_reducible refine Within.set_timHeld ?_ _ ?_
    | with_reducible refine Within.set_ringRecs ?_ _ ?_
    | with_reducible refine Within.set_coreReqs ?_ _ ?_
    | with_reducible refine Within.set_fwRecords ?_ _ ?_
    | with_reducible refine Within.set_fresh ?_ _ ?_
    | with_reducible refine Within.set_heldRecs ?_ _ ?_
    | (with_reducible refine Within.of_eq (by with_reducible assumption) ?_))

theorem State.writeReg_CMP_CTRL_within {M : Foot} (hM : Foot.Sub 0xe0003860000000000000000000000000000000000000020000f3fc8300700000000e00000001011e4000027f900000000000c0440008988c8000000000000000000000000001000000000700000 M) {s₀ s : State} (h_s : Within M s₀ s) (d : Nat) (j : List Nat)
    (w v : Nat) : Within M s₀ (State.writeReg d .CMP_CTRL j w v s).1 := by
  show Within M s₀ ((State.writeCmpCtrl d (j.getD 0 0) v s)).1
  repeat' (first
    | with_reducible assumption
    | (refine State.setFields_has ?_ _ _ _ _)
    | (refine Foot.Sub.has hM ?_; decide)
    | (refine Foot.Sub.trans ?_ hM; decide)
    | with_reducible refine State.writeCmpCtrl_within ?_ ?_ _ _ _
    | split
    | with_reducible refine Within.set_ringRecs ?_ _ ?_
    | with_reducible refine Within.set_coreReqs ?_ _ ?_
    | with_reducible refine Within.set_fwRecords ?_ _ ?_
    | with_reducible refine Within.set_committed ?_ _ ?_
    | with_reducible refine Within.set_spans ?_ _ ?_
    | with_reducible refine Within.set_fresh ?_ _ ?_
    | with_reducible refine Within.set_heldRecs ?_ _ ?_
    | (with_reducible refine Within.of_eq (by with_reducible assumption) ?_))

theorem State.writeReg_CMP_THRESH_within {M : Foot} (hM : Foot.Sub 0xc00018600000000000000000000000000000000000000200008000830000000000000000000000000000027f9000000000000000000898850000000000000000000000000000000000000000000 M) {s₀ s : State} (h_s : Within M s₀ s) (d : Nat) (j : List Nat)
    (w v : Nat) : Within M s₀ (State.writeReg d .CMP_THRESH j w v s).1 := by
  show Within M s₀ ((State.writeCmpThresh d (j.getD 0 0) v s)).1
  repeat' (first
    | with_reducible assumption
    | (refine State.setFields_has ?_ _ _ _ _)
    | (refine Foot.Sub.has hM ?_; decide)
    | (refine Foot.Sub.trans ?_ hM; decide)
    | with_reducible refine State.writeCmpThresh_within ?_ ?_ _ _ _
    | split
    | with_reducible refine Within.set_ringRecs ?_ _ ?_
    | with_reducible refine Within.set_coreReqs ?_ _ ?_
    | with_reducible refine Within.set_fwRecords ?_ _ ?_
    | with_reducible refine Within.set_fresh ?_ _ ?_
    | with_reducible refine Within.set_heldRecs ?_ _ ?_
    | (with_reducible refine Within.of_eq (by with_reducible assumption) ?_))

theorem State.writeReg_CMP_BLANK_within {M : Foot} (hM : Foot.Sub 0x1000000000000000000000000000000000000000000000000000000000000020000000000000000000000000000000000000000000 M) {s₀ s : State} (h_s : Within M s₀ s) (d : Nat) (j : List Nat)
    (w v : Nat) : Within M s₀ (State.writeReg d .CMP_BLANK j w v s).1 := by
  show Within M s₀ ((State.writeCmpBlank d (j.getD 0 0) v s)).1
  repeat' (first
    | with_reducible assumption
    | (refine State.setFields_has ?_ _ _ _ _)
    | (refine Foot.Sub.has hM ?_; decide)
    | (refine Foot.Sub.trans ?_ hM; decide)
    | with_reducible refine State.writeCmpBlank_within ?_ ?_ _ _ _
    | split
    | (with_reducible refine Within.of_eq (by with_reducible assumption) ?_))

theorem State.writeReg_SKN_CTRL_within {M : Foot} (hM : Foot.Sub 0xc000186400000000000000000000000ccce2980000030200000000830000000500000000000000000000027f90000006a0000000000898000000000000000000000000000000000000000000001 M) {s₀ s : State} (h_s : Within M s₀ s) (d : Nat) (j : List Nat)
    (w v : Nat) : Within M s₀ (State.writeReg d .SKN_CTRL j w v s).1 := by
  show Within M s₀ ((State.writeSknCtrl v s)).1
  repeat' (first
    | with_reducible assumption
    | (refine State.setFields_has ?_ _ _ _ _)
    | (refine Foot.Sub.has hM ?_; decide)
    | (refine Foot.Sub.trans ?_ hM; decide)
    | with_reducible refine State.writeSknCtrl_within ?_ ?_ _
    | split
    | with_reducible refine Within.set_summaries ?_ _ ?_
    | with_reducible refine Within.set_ringRecs ?_ _ ?_
    | with_reducible refine Within.set_coreReqs ?_ _ ?_
    | with_reducible refine Within.set_fwRecords ?_ _ ?_
    | with_reducible refine Within.set_fresh ?_ _ ?_
    | with_reducible refine Within.set_heldRecs ?_ _ ?_
    | (with_reducible refine Within.of_eq (by with_reducible assumption) ?_))

theorem State.writeReg_SKN_TRIG_SEL_within {M : Foot} (hM : Foot.Sub 0x40000000000000000000000000000000000000000000000000000000000000000000000000000000000000000000000240000000000000000000000000000000000000000000000000000000000 M) {s₀ s : State} (h_s : Within M s₀ s) (d : Nat) (j : List Nat)
    (w v : Nat) : Within M s₀ (State.writeReg d .SKN_TRIG_SEL j w v s).1 := by
  show Within M s₀ ((State.writeSknTrigSel v s)).1
  repeat' (first
    | with_reducible assumption
    | (refine State.setFields_has ?_ _ _ _ _)
    | (refine Foot.Sub.has hM ?_; decide)
    | (refine Foot.Sub.trans ?_ hM; decide)
    | with_reducible refine State.writeSknTrigSel_within ?_ ?_ _
    | split
    | with_reducible refine Within.set_fresh ?_ _ ?_
    | (with_reducible refine Within.of_eq (by with_reducible assumption) ?_))

theorem State.writeReg_SKN_GSEQ_CTRL_within {M : Foot} (hM : Foot.Sub 0x40000000000000000000000000000ff0000000000000000000000000000000000000000000000000000000000000000a80000000000000000000000000000000000000000000000000000000000 M) {s₀ s : State} (h_s : Within M s₀ s) (d : Nat) (j : List Nat)
    (w v : Nat) : Within M s₀ (State.writeReg d .SKN_GSEQ_CTRL j w v s).1 := by
  show Within M s₀ ((State.writeGseqCtrl v s)).1
  repeat' (first
    | with_reducible assumption
    | (refine State.setFields_has ?_ _ _ _ _)
    | (refine Foot.Sub.has hM ?_; decide)
    | (refine Foot.Sub.trans ?_ hM; decide)
    | with_reducible refine State.writeGseqCtrl_within ?_ ?_ _
    | split
    | with_reducible refine Within.set_fresh ?_ _ ?_
    | (with_reducible refine Within.of_eq (by with_reducible assumption) ?_))

theorem State.writeReg_SKN_GSEQ_HOLDOFF_within {M : Foot} (hM : Foot.Sub 0x40000000000000000000000000000000000000000000000000000000000000000000000000000000000000000000000300000000000000000000000000000000000000000000000000000000000 M) {s₀ s : State} (h_s : Within M s₀ s) (d : Nat) (j : List Nat)
    (w v : Nat) : Within M s₀ (State.writeReg d .SKN_GSEQ_HOLDOFF j w v s).1 := by
  show Within M s₀ ((State.writeGseqHoldoff v s)).1
  repeat' (first
    | with_reducible assumption
    | (refine State.setFields_has ?_ _ _ _ _)
    | (refine Foot.Sub.has hM ?_; decide)
    | (refine Foot.Sub.trans ?_ hM; decide)
    | with_reducible refine State.writeGseqHoldoff_within ?_ ?_ _
    | split
    | with_reducible refine Within.set_fresh ?_ _ ?_
    | (with_reducible refine Within.of_eq (by with_reducible assumption) ?_))

theorem State.writeReg_EQ_CTRL_within {M : Foot} (hM : Foot.Sub 0x40000000000000000000000000000000000000000000000000000000000000000000000000000000000000000000000000000000000000000000000000000000000000000000000060000000000 M) {s₀ s : State} (h_s : Within M s₀ s) (d : Nat) (j : List Nat)
    (w v : Nat) : Within M s₀ (State.writeReg d .EQ_CTRL j w v s).1 := by
  show Within M s₀ ((State.writeEqCtrl d (j.getD 0 0) v s)).1
  repeat' (first
    | with_reducible assumption
    | (refine State.setFields_has ?_ _ _ _ _)
    | (refine Foot.Sub.has hM ?_; decide)
    | (refine Foot.Sub.trans ?_ hM; decide)
    | with_reducible refine State.writeEqCtrl_within ?_ ?_ _ _ _
    | split
    | with_reducible refine Within.set_fresh ?_ _ ?_
    | (with_reducible refine Within.of_eq (by with_reducible assumption) ?_))

theorem State.writeReg_DEC_CTRL_within {M : Foot} (hM : Foot.Sub 0xc4001860000000000000000000000000000000000000020000000083000000000000000000000000001df27f9000000000000000000898000000000000000000000000000000076e00000000000 M) {s₀ s : State} (h_s : Within M s₀ s) (d : Nat) (j : List Nat)
    (w v : Nat) : Within M s₀ (State.writeReg d .DEC_CTRL j w v s).1 := by
  show Within M s₀ ((State.writeCond d (j.getD 0 0) 0 v s)).1
  repeat' (first
    | with_reducible assumption
    | (refine State.setFields_has ?_ _ _ _ _)
    | (refine Foot.Sub.has hM ?_; decide)
    | (refine Foot.Sub.trans ?_ hM; decide)
    | with_reducible refine State.writeCond_within ?_ ?_ _ _ _ _
    | split
    | with_reducible refine Within.set_ringRecs ?_ _ ?_
    | with_reducible refine Within.set_coreReqs ?_ _ ?_
    | with_reducible refine Within.set_fwRecords ?_ _ ?_
    | with_reducible refine Within.set_fades ?_ _ ?_
    | with_reducible refine Within.set_fresh ?_ _ ?_
    | with_reducible refine Within.set_heldRecs ?_ _ ?_
    | (with_reducible refine Within.of_eq (by with_reducible assumption) ?_))

theorem State.writeReg_DEC_RATIO_within {M : Foot} (hM : Foot.Sub 0xc4001860000000000000000000000000000000000000020000000083000000000000000000000000001df27f9000000000000000000898000000000000000000000000000000076e00000000000 M) {s₀ s : State} (h_s : Within M s₀ s) (d : Nat) (j : List Nat)
    (w v : Nat) : Within M s₀ (State.writeReg d .DEC_RATIO j w v s).1 := by
  show Within M s₀ ((State.writeCond d (j.getD 0 0) 1 v s)).1
  repeat' (first
    | with_reducible assumption
    | (refine State.setFields_has ?_ _ _ _ _)
    | (refine Foot.Sub.has hM ?_; decide)
    | (refine Foot.Sub.trans ?_ hM; decide)
    | with_reducible refine State.writeCond_within ?_ ?_ _ _ _ _
    | split
    | with_reducible refine Within.set_ringRecs ?_ _ ?_
    | with_reducible refine Within.set_coreReqs ?_ _ ?_
    | with_reducible refine Within.set_fwRecords ?_ _ ?_
    | with_reducible refine Within.set_fades ?_ _ ?_
    | with_reducible refine Within.set_fresh ?_ _ ?_
    | with_reducible refine Within.set_heldRecs ?_ _ ?_
    | (with_reducible refine Within.of_eq (by with_reducible assumption) ?_))

theorem State.writeReg_FIR_CTRL_within {M : Foot} (hM : Foot.Sub 0xc4001860000000000000000000000000000000000000020000000083000000000000000000000000001df27f9000000000000000000898000000000000000000000000000000076e00000000000 M) {s₀ s : State} (h_s : Within M s₀ s) (d : Nat) (j : List Nat)
    (w v : Nat) : Within M s₀ (State.writeReg d .FIR_CTRL j w v s).1 := by
  show Within M s₀ ((State.writeCond d (j.getD 0 0) 2 v s)).1
  repeat' (first
    | with_reducible assumption
    | (refine State.setFields_has ?_ _ _ _ _)
    | (refine Foot.Sub.has hM ?_; decide)
    | (refine Foot.Sub.trans ?_ hM; decide)
    | with_reducible refine State.writeCond_within ?_ ?_ _ _ _ _
    | split
    | with_reducible refine Within.set_ringRecs ?_ _ ?_
    | with_reducible refine Within.set_coreReqs ?_ _ ?_
    | with_reducible refine Within.set_fwRecords ?_ _ ?_
    | with_reducible refine Within.set_fades ?_ _ ?_
    | with_reducible refine Within.set_fresh ?_ _ ?_
    | with_reducible refine Within.set_heldRecs ?_ _ ?_
    | (with_reducible refine Within.of_eq (by with_reducible assumption) ?_))

theorem State.writeReg_TRG_LEVEL_within {M : Foot} (hM : Foot.Sub 0x200000000000000 M) {s₀ s : State} (h_s : Within M s₀ s) (d : Nat) (j : List Nat)
    (w v : Nat) : Within M s₀ (State.writeReg d .TRG_LEVEL j w v s).1 := State.plainWrite_within h_s _ _ _ _ (hM.has (by decide))

theorem State.writeReg_TRG_SEQ_CTRL_within {M : Foot} (hM : Foot.Sub 0xc00018600000000000000000000000000000000000000200000000830000000000000000000000000000027f9000000000000000000898000000000000000000000000000300000000000000000 M) {s₀ s : State} (h_s : Within M s₀ s) (d : Nat) (j : List Nat)
    (w v : Nat) : Within M s₀ (State.writeReg d .TRG_SEQ_CTRL j w v s).1 := by
  show Within M s₀ ((s.seqReg .TRG_SEQ_CTRL d (j.getD 0 0) [d, (j.getD 0 0)] w v)).1
  repeat' (first
    | with_reducible assumption
    | (refine State.setFields_has ?_ _ _ _ _)
    | (refine Foot.Sub.has hM ?_; decide)
    | (refine Foot.Sub.trans ?_ hM; decide)
    | with_reducible refine State.seqReg_within ?_ ?_ _ _ _ _ _ _ ?_
    | split
    | with_reducible refine Within.set_ringRecs ?_ _ ?_
    | with_reducible refine Within.set_coreReqs ?_ _ ?_
    | with_reducible refine Within.set_fwRecords ?_ _ ?_
    | with_reducible refine Within.set_fresh ?_ _ ?_
    | with_reducible refine Within.set_heldRecs ?_ _ ?_
    | (with_reducible refine Within.of_eq (by with_reducible assumption) ?_))

theorem State.writeReg_SEQ_STATE_within {M : Foot} (hM : Foot.Sub 0xc00018600000000000000000000000000000000000000200000000830000000000000000000000000000027f9010000000000000000898000000000000000000000000000200000000000000000 M) {s₀ s : State} (h_s : Within M s₀ s) (d : Nat) (j : List Nat)
    (w v : Nat) : Within M s₀ (State.writeReg d .SEQ_STATE j w v s).1 := by
  show Within M s₀ ((s.seqReg .SEQ_STATE d (j.getD 0 0) [d, (j.getD 0 0), j.getD 1 0] w v)).1
  repeat' (first
    | with_reducible assumption
    | (refine State.setFields_has ?_ _ _ _ _)
    | (refine Foot.Sub.has hM ?_; decide)
    | (refine Foot.Sub.trans ?_ hM; decide)
    | with_reducible refine State.seqReg_within ?_ ?_ _ _ _ _ _ _ ?_
    | split
    | with_reducible refine Within.set_ringRecs ?_ _ ?_
    | with_reducible refine Within.set_coreReqs ?_ _ ?_
    | with_reducible refine Within.set_fwRecords ?_ _ ?_
    | with_reducible refine Within.set_fresh ?_ _ ?_
    | with_reducible refine Within.set_heldRecs ?_ _ ?_
    | (with_reducible refine Within.of_eq (by with_reducible assumption) ?_))

theorem State.writeReg_TRG_AUTO_TIMEOUT_within {M : Foot} (hM : Foot.Sub 0xc00018600000000000000000000000000000000000000200000000830000000000000000000000000000027f9000000000000000000898000000000000000000000000000600000000000000000 M) {s₀ s : State} (h_s : Within M s₀ s) (d : Nat) (j : List Nat)
    (w v : Nat) : Within M s₀ (State.writeReg d .TRG_AUTO_TIMEOUT j w v s).1 := by
  show Within M s₀ ((s.seqReg .TRG_AUTO_TIMEOUT d (j.getD 0 0) [d, (j.getD 0 0)] w v)).1
  repeat' (first
    | with_reducible assumption
    | (refine State.setFields_has ?_ _ _ _ _)
    | (refine Foot.Sub.has hM ?_; decide)
    | (refine Foot.Sub.trans ?_ hM; decide)
    | with_reducible refine State.seqReg_within ?_ ?_ _ _ _ _ _ _ ?_
    | split
    | with_reducible refine Within.set_ringRecs ?_ _ ?_
    | with_reducible refine Within.set_coreReqs ?_ _ ?_
    | with_reducible refine Within.set_fwRecords ?_ _ ?_
    | with_reducible refine Within.set_fresh ?_ _ ?_
    | with_reducible refine Within.set_heldRecs ?_ _ ?_
    | (with_reducible refine Within.of_eq (by with_reducible assumption) ?_))

theorem State.writeReg_TRG_HOLDOFF_within {M : Foot} (hM : Foot.Sub 0xc00018600000000000000000000000000000000000000200000000830000000000000000000000000000027f9000000000000000000898000000000000000000000000000a00000000000000000 M) {s₀ s : State} (h_s : Within M s₀ s) (d : Nat) (j : List Nat)
    (w v : Nat) : Within M s₀ (State.writeReg d .TRG_HOLDOFF j w v s).1 := by
  show Within M s₀ ((s.seqReg .TRG_HOLDOFF d (j.getD 0 0) [d, (j.getD 0 0)] w v)).1
  repeat' (first
    | with_reducible assumption
    | (refine State.setFields_has ?_ _ _ _ _)
    | (refine Foot.Sub.has hM ?_; decide)
    | (refine Foot.Sub.trans ?_ hM; decide)
    | with_reducible refine State.seqReg_within ?_ ?_ _ _ _ _ _ _ ?_
    | split
    | with_reducible refine Within.set_ringRecs ?_ _ ?_
    | with_reducible refine Within.set_coreReqs ?_ _ ?_
    | with_reducible refine Within.set_fwRecords ?_ _ ?_
    | with_reducible refine Within.set_fresh ?_ _ ?_
    | with_reducible refine Within.set_heldRecs ?_ _ ?_
    | (with_reducible refine Within.of_eq (by with_reducible assumption) ?_))

theorem State.writeReg_TRG_CH_CFG_within {M : Foot} (hM : Foot.Sub 0xc00018600000000000000000000000000000000000000200000000830000000000000000000000000000027f9000000000000000000898000000000000000000000000000001100000000000000 M) {s₀ s : State} (h_s : Within M s₀ s) (d : Nat) (j : List Nat)
    (w v : Nat) : Within M s₀ (State.writeReg d .TRG_CH_CFG j w v s).1 := by
  show Within M s₀ ((s.trgDieReg .TRG_CH_CFG d [d, (j.getD 0 0)] v)).1
  repeat' (first
    | with_reducible assumption
    | (refine State.setFields_has ?_ _ _ _ _)
    | (refine Foot.Sub.has hM ?_; decide)
    | (refine Foot.Sub.trans ?_ hM; decide)
    | with_reducible refine State.trgDieReg_within ?_ ?_ _ _ _ _ ?_
    | split
    | with_reducible refine Within.set_ringRecs ?_ _ ?_
    | with_reducible refine Within.set_coreReqs ?_ _ ?_
    | with_reducible refine Within.set_fwRecords ?_ _ ?_
    | with_reducible refine Within.set_fresh ?_ _ ?_
    | with_reducible refine Within.set_heldRecs ?_ _ ?_
    | (with_reducible refine Within.of_eq (by with_reducible assumption) ?_))

theorem State.writeReg_TRG_CTRL_within {M : Foot} (hM : Foot.Sub 0xc00018600000000000000000000000000000000000000200000000830000000000000000000000000000027f9000000000000000000898000000000000000000000000000001800000000000000 M) {s₀ s : State} (h_s : Within M s₀ s) (d : Nat) (j : List Nat)
    (w v : Nat) : Within M s₀ (State.writeReg d .TRG_CTRL j w v s).1 := by
  show Within M s₀ ((s.trgDieReg .TRG_CTRL d [d] v)).1
  repeat' (first
    | with_reducible assumption
    | (refine State.setFields_has ?_ _ _ _ _)
    | (refine Foot.Sub.has hM ?_; decide)
    | (refine Foot.Sub.trans ?_ hM; decide)
    | with_reducible refine State.trgDieReg_within ?_ ?_ _ _ _ _ ?_
    | split
    | with_reducible refine Within.set_ringRecs ?_ _ ?_
    | with_reducible refine Within.set_coreReqs ?_ _ ?_
    | with_reducible refine Within.set_fwRecords ?_ _ ?_
    | with_reducible refine Within.set_fresh ?_ _ ?_
    | with_reducible refine Within.set_heldRecs ?_ _ ?_
    | (with_reducible refine Within.of_eq (by with_reducible assumption) ?_))

theorem State.writeReg_STR_CTRL_within {M : Foot} (hM : Foot.Sub 0x40000000000000000000000000000000000000000000000000000000000000000000000000000000000000000000000000000000000000000000000000000000090000200000000000000000000 M) {s₀ s : State} (h_s : Within M s₀ s) (d : Nat) (j : List Nat)
    (w v : Nat) : Within M s₀ (State.writeReg d .STR_CTRL j w v s).1 := by
  show Within M s₀ ((State.writeStrCtrl d (j.getD 0 0) v s)).1
  repeat' (first
    | with_reducible assumption
    | (refine State.setFields_has ?_ _ _ _ _)
    | (refine Foot.Sub.has hM ?_; decide)
    | (refine Foot.Sub.trans ?_ hM; decide)
    | with_reducible refine State.writeStrCtrl_within ?_ ?_ _ _ _
    | split
    | with_reducible refine Within.set_fresh ?_ _ ?_
    | (with_reducible refine Within.of_eq (by with_reducible assumption) ?_))

theorem State.writeReg_XTO_REF_CTRL_within {M : Foot} (hM : Foot.Sub 0xc00018601000000000000000000000000000000000020200000000830000000d00000000400000000000027f9000000200000000000898000000000000000001480000000000000000000000007 M) {s₀ s : State} (h_s : Within M s₀ s) (d : Nat) (j : List Nat)
    (w v : Nat) : Within M s₀ (State.writeReg d .XTO_REF_CTRL j w v s).1 := by
  show Within M s₀ ((State.writeRefCtrl v s)).1
  repeat' (first
    | with_reducible assumption
    | (refine State.setFields_has ?_ _ _ _ _)
    | (refine Foot.Sub.has hM ?_; decide)
    | (refine Foot.Sub.trans ?_ hM; decide)
    | with_reducible refine State.writeRefCtrl_within ?_ ?_ _
    | split
    | with_reducible refine Within.set_acq ?_ _ (by simp) ?_
    | with_reducible refine Within.set_ringRecs ?_ _ ?_
    | with_reducible refine Within.set_coreReqs ?_ _ ?_
    | with_reducible refine Within.set_fwRecords ?_ _ ?_
    | with_reducible refine Within.set_fresh ?_ _ ?_
    | with_reducible refine Within.set_heldRecs ?_ _ ?_
    | (with_reducible refine Within.of_eq (by with_reducible assumption) ?_))

theorem State.writeReg_SYN_CTRL_within {M : Foot} (hM : Foot.Sub 0xe00018600000000000000000000000000000000000000200000000830001820000000000000000000000027f9000000000000000000898000000000000000000000000000000000000000002580 M) {s₀ s : State} (h_s : Within M s₀ s) (d : Nat) (j : List Nat)
    (w v : Nat) : Within M s₀ (State.writeReg d .SYN_CTRL j w v s).1 := by
  show Within M s₀ ((State.writeSynCtrl d v s)).1
  repeat' (first
    | with_reducible assumption
    | (refine State.setFields_has ?_ _ _ _ _)
    | (refine Foot.Sub.has hM ?_; decide)
    | (refine Foot.Sub.trans ?_ hM; decide)
    | with_reducible refine State.writeSynCtrl_within ?_ ?_ _ _
    | split
    | with_reducible refine Within.set_ringRecs ?_ _ ?_
    | with_reducible refine Within.set_coreReqs ?_ _ ?_
    | with_reducible refine Within.set_fwRecords ?_ _ ?_
    | with_reducible refine Within.set_spans ?_ _ ?_
    | with_reducible refine Within.set_fresh ?_ _ ?_
    | with_reducible refine Within.set_heldRecs ?_ _ ?_
    | (with_reducible refine Within.of_eq (by with_reducible assumption) ?_))

theorem State.writeReg_AUX_CTRL_within {M : Foot} (hM : Foot.Sub 0x4000 M) {s₀ s : State} (h_s : Within M s₀ s) (d : Nat) (j : List Nat)
    (w v : Nat) : Within M s₀ (State.writeReg d .AUX_CTRL j w v s).1 := by
  show Within M s₀ ((State.writeAuxCtrl d v s)).1
  repeat' (first
    | with_reducible assumption
    | (refine State.setFields_has ?_ _ _ _ _)
    | (refine Foot.Sub.has hM ?_; decide)
    | (refine Foot.Sub.trans ?_ hM; decide)
    | with_reducible refine State.writeAuxCtrl_within ?_ ?_ _ _
    | split
    | (with_reducible refine Within.of_eq (by with_reducible assumption) ?_))

theorem State.writeReg_CRD_CTRL_within {M : Foot} (hM : Foot.Sub 0xc18618e00000000000000000000000000000000000000e00000000830000000000000f90000000000000067f900000001c000000200898000000000000000000000000000000000002088000000 M) {s₀ s : State} (h_s : Within M s₀ s) (d : Nat) (j : List Nat)
    (w v : Nat) : Within M s₀ (State.writeReg d .CRD_CTRL j w v s).1 := by
  show Within M s₀ (let p := s.plainWrite .CRD_CTRL [d, (j.getD 0 0)] 0 v; (p.1.syncCard, p.2)).1
  repeat' (first
    | with_reducible assumption
    | (refine State.setFields_has ?_ _ _ _ _)
    | (refine Foot.Sub.has hM ?_; decide)
    | (refine Foot.Sub.trans ?_ hM; decide)
    | (extract_lets +onlyGivenNames x; refine Within.cut (x := x) ?_ ?_; (on_goal 2 => (clear_value x; revert x; intro _ _)); (on_goal 1 => (unfold x; clear x)))
    | (extract_lets +onlyGivenNames x; refine Within.cut (x := x.1) ?_ ?_; (on_goal 2 => (clear_value x; revert x; intro _ _)); (on_goal 1 => (unfold x; clear x)))
    | (extract_lets +onlyGivenNames x; clear_value x; revert x; intro _)
    | with_reducible refine State.plainWrite_within ?_ _ _ _ _ ?_
    | with_reducible refine State.syncCard_within ?_ ?_
    | split
    | with_reducible refine Within.set_ringRecs ?_ _ ?_
    | with_reducible refine Within.set_taken ?_ _ ?_
    | with_reducible refine Within.set_coreReqs ?_ _ ?_
    | with_reducible refine Within.set_fwRecords ?_ _ ?_
    | with_reducible refine Within.set_running ?_ _ ?_
    | with_reducible refine Within.set_waiting ?_ _ ?_
    | with_reducible refine Within.set_cardErrs ?_ _ ?_
    | with_reducible refine Within.set_tapMoves ?_ _ ?_
    | with_reducible refine Within.set_fresh ?_ _ ?_
    | with_reducible refine Within.set_heldRecs ?_ _ ?_
    | (with_reducible refine Within.of_eq (by with_reducible assumption) ?_))

theorem State.writeReg_CRD_SUFF_within {M : Foot} (hM : Foot.Sub 0x10000000 M) {s₀ s : State} (h_s : Within M s₀ s) (d : Nat) (j : List Nat)
    (w v : Nat) : Within M s₀ (State.writeReg d .CRD_SUFF j w v s).1 := State.plainWrite_within h_s _ _ _ _ (hM.has (by decide))

theorem State.writeReg_CRD_TOL_within {M : Foot} (hM : Foot.Sub 0x20000000 M) {s₀ s : State} (h_s : Within M s₀ s) (d : Nat) (j : List Nat)
    (w v : Nat) : Within M s₀ (State.writeReg d .CRD_TOL j w v s).1 := State.plainWrite_within h_s _ _ _ _ (hM.has (by decide))

theorem State.writeReg_CRD_TIMEOUT_within {M : Foot} (hM : Foot.Sub 0x40000000 M) {s₀ s : State} (h_s : Within M s₀ s) (d : Nat) (j : List Nat)
    (w v : Nat) : Within M s₀ (State.writeReg d .CRD_TIMEOUT j w v s).1 := State.plainWrite_within h_s _ _ _ _ (hM.has (by decide))

theorem State.writeReg_ACC_HIST_X_ORIGIN_within {M : Foot} (hM : Foot.Sub 0xc00018600000000000000000000000000000000000000200000000830000000000000000000000000000027f9000000000000000000898000000000000000208000000000000000000000000000 M) {s₀ s : State} (h_s : Within M s₀ s) (d : Nat) (j : List Nat)
    (w v : Nat) : Within M s₀ (State.writeReg d .ACC_HIST_X_ORIGIN j w v s).1 := by
  show Within M s₀ ((State.writeAccCfg d (j.getD 0 0) (s.setFields .ACC_HIST_X_ORIGIN [d, (j.getD 0 0)] w v) s)).1
  repeat' (first
    | with_reducible assumption
    | (refine State.setFields_has ?_ _ _ _ _)
    | (refine Foot.Sub.has hM ?_; decide)
    | (refine Foot.Sub.trans ?_ hM; decide)
    | (unfold State.setFields; split <;> (refine Foot.Sub.has hM ?_; decide))
    | (split <;> (refine Foot.Sub.has hM ?_; decide))
    | with_reducible refine State.writeAccCfg_within ?_ ?_ _ _ _ ?_
    | split
    | with_reducible refine Within.set_ringRecs ?_ _ ?_
    | with_reducible refine Within.set_coreReqs ?_ _ ?_
    | with_reducible refine Within.set_fwRecords ?_ _ ?_
    | with_reducible refine Within.set_fresh ?_ _ ?_
    | with_reducible refine Within.set_heldRecs ?_ _ ?_
    | (with_reducible refine Within.of_eq (by with_reducible assumption) ?_))

theorem State.writeReg_ACC_HIST_X_STEP_within {M : Foot} (hM : Foot.Sub 0xc00018600000000000000000000000000000000000000200000000830000000000000000000000000000027f9000000000000000000898000000000000000408000000000000000000000000000 M) {s₀ s : State} (h_s : Within M s₀ s) (d : Nat) (j : List Nat)
    (w v : Nat) : Within M s₀ (State.writeReg d .ACC_HIST_X_STEP j w v s).1 := by
  show Within M s₀ ((State.writeAccCfg d (j.getD 0 0) (s.setFields .ACC_HIST_X_STEP [d, (j.getD 0 0)] w v) s)).1
  repeat' (first
    | with_reducible assumption
    | (refine State.setFields_has ?_ _ _ _ _)
    | (refine Foot.Sub.has hM ?_; decide)
    | (refine Foot.Sub.trans ?_ hM; decide)
    | (unfold State.setFields; split <;> (refine Foot.Sub.has hM ?_; decide))
    | (split <;> (refine Foot.Sub.has hM ?_; decide))
    | with_reducible refine State.writeAccCfg_within ?_ ?_ _ _ _ ?_
    | split
    | with_reducible refine Within.set_ringRecs ?_ _ ?_
    | with_reducible refine Within.set_coreReqs ?_ _ ?_
    | with_reducible refine Within.set_fwRecords ?_ _ ?_
    | with_reducible refine Within.set_fresh ?_ _ ?_
    | with_reducible refine Within.set_heldRecs ?_ _ ?_
    | (with_reducible refine Within.of_eq (by with_reducible assumption) ?_))

theorem State.writeReg_ACC_HIST_Y_within {M : Foot} (hM : Foot.Sub 0xc00018600000000000000000000000000000000000000200000000830000000000000000000000000000027f9000000000000000000898000000000000000808000000000000000000000000000 M) {s₀ s : State} (h_s : Within M s₀ s) (d : Nat) (j : List Nat)
    (w v : Nat) : Within M s₀ (State.writeReg d .ACC_HIST_Y j w v s).1 := by
  show Within M s₀ ((State.writeAccCfg d (j.getD 0 0) (s.setFields .ACC_HIST_Y [d, (j.getD 0 0)] w v) s)).1
  repeat' (first
    | with_reducible assumption
    | (refine State.setFields_has ?_ _ _ _ _)
    | (refine Foot.Sub.has hM ?_; decide)
    | (refine Foot.Sub.trans ?_ hM; decide)
    | (unfold State.setFields; split <;> (refine Foot.Sub.has hM ?_; decide))
    | (split <;> (refine Foot.Sub.has hM ?_; decide))
    | with_reducible refine State.writeAccCfg_within ?_ ?_ _ _ _ ?_
    | split
    | with_reducible refine Within.set_ringRecs ?_ _ ?_
    | with_reducible refine Within.set_coreReqs ?_ _ ?_
    | with_reducible refine Within.set_fwRecords ?_ _ ?_
    | with_reducible refine Within.set_fresh ?_ _ ?_
    | with_reducible refine Within.set_heldRecs ?_ _ ?_
    | (with_reducible refine Within.of_eq (by with_reducible assumption) ?_))

theorem State.writeReg_ACC_DECAY_within {M : Foot} (hM : Foot.Sub 0xc00018600000000000000000000000000000000000000200000000830000000000000000000000000000027f9000000000000000000898000000000000001008000000000000000000000000000 M) {s₀ s : State} (h_s : Within M s₀ s) (d : Nat) (j : List Nat)
    (w v : Nat) : Within M s₀ (State.writeReg d .ACC_DECAY j w v s).1 := by
  show Within M s₀ ((State.writeAccCfg d (j.getD 0 0) (s.setFields .ACC_DECAY [d, (j.getD 0 0)] w v) s)).1
  repeat' (first
    | with_reducible assumption
    | (refine State.setFields_has ?_ _ _ _ _)
    | (refine Foot.Sub.has hM ?_; decide)
    | (refine Foot.Sub.trans ?_ hM; decide)
    | (unfold State.setFields; split <;> (refine Foot.Sub.has hM ?_; decide))
    | (split <;> (refine Foot.Sub.has hM ?_; decide))
    | with_reducible refine State.writeAccCfg_within ?_ ?_ _ _ _ ?_
    | split
    | with_reducible refine Within.set_ringRecs ?_ _ ?_
    | with_reducible refine Within.set_coreReqs ?_ _ ?_
    | with_reducible refine Within.set_fwRecords ?_ _ ?_
    | with_reducible refine Within.set_fresh ?_ _ ?_
    | with_reducible refine Within.set_heldRecs ?_ _ ?_
    | (with_reducible refine Within.of_eq (by with_reducible assumption) ?_))

theorem State.writeReg_ACC_FRAME_PERIOD_within {M : Foot} (hM : Foot.Sub 0x2000000000000000000000000000000 M) {s₀ s : State} (h_s : Within M s₀ s) (d : Nat) (j : List Nat)
    (w v : Nat) : Within M s₀ (State.writeReg d .ACC_FRAME_PERIOD j w v s).1 := State.plainWrite_within h_s _ _ _ _ (hM.has (by decide))

theorem State.writeReg_ACC_EXCL_within {M : Foot} (hM : Foot.Sub 0x4000000000000000000000000000000 M) {s₀ s : State} (h_s : Within M s₀ s) (d : Nat) (j : List Nat)
    (w v : Nat) : Within M s₀ (State.writeReg d .ACC_EXCL j w v s).1 := State.plainWrite_within h_s _ _ _ _ (hM.has (by decide))

theorem State.writeReg_GSEQ_STATE_within {M : Foot} (hM : Foot.Sub 0x40000000000000000000000000000000000000000000000000000000000000000000000000000000000000000020000200000000000000000000000000000000000000000000000000000000000 M) {s₀ s : State} (h_s : Within M s₀ s) (d : Nat) (j : List Nat)
    (w v : Nat) : Within M s₀ (State.writeReg d .GSEQ_STATE j w v s).1 := by
  show Within M s₀ ((State.writeGseqState (j.getD 0 0) w v s)).1
  repeat' (first
    | with_reducible assumption
    | (refine State.setFields_has ?_ _ _ _ _)
    | (refine Foot.Sub.has hM ?_; decide)
    | (refine Foot.Sub.trans ?_ hM; decide)
    | with_reducible refine State.writeGseqState_within ?_ ?_ _ _ _
    | split
    | with_reducible refine Within.set_fresh ?_ _ ?_
    | (with_reducible refine Within.of_eq (by with_reducible assumption) ?_))

theorem State.writeReg_SKN_GTERM_within {M : Foot} (hM : Foot.Sub 0x40000000000000000000000000000000000000000000000000000000000000000000000000000000000000000000002200000000000000000000000000000000000000000000000000000000000 M) {s₀ s : State} (h_s : Within M s₀ s) (d : Nat) (j : List Nat)
    (w v : Nat) : Within M s₀ (State.writeReg d .SKN_GTERM j w v s).1 := by
  show Within M s₀ ((State.writeSknGterm (j.getD 0 0) v s)).1
  repeat' (first
    | with_reducible assumption
    | (refine State.setFields_has ?_ _ _ _ _)
    | (refine Foot.Sub.has hM ?_; decide)
    | (refine Foot.Sub.trans ?_ hM; decide)
    | with_reducible refine State.writeSknGterm_within ?_ ?_ _ _
    | split
    | with_reducible refine Within.set_fresh ?_ _ ?_
    | (with_reducible refine Within.of_eq (by with_reducible assumption) ?_))

/-- A configuration command writes each of its registers in turn. -/
theorem State.cfgRegs_within_of {M : Foot} {s₀ s : State} (h_s : Within M s₀ s) (d : Nat) (l : List (Reg × List Nat × Nat))
    (h_l : ∀ e ∈ l, ∀ u, Within M s₀ u → Within M s₀ (State.writeReg d e.1 e.2.1 0 e.2.2 u).1) : Within M s₀ (State.cfgRegs s d l).1 := by
  unfold State.cfgRegs
  refine State.cfgReply_within h_s _ _ fun g hg u hu => ?_
  obtain ⟨x, hx, rfl⟩ := List.mem_map.1 hg
  exact h_l x hx u hu

end Sys2Proof.Machine
end

