-- ==== Sys2Proof/Machine/Package.lean ====
section
/-!
DEFINITION. What the package shows from outside whatever it does: its ball grid (R461 to R465), its rails (R445, R466,
R468), the identity of its TAPs (R473) and of its PCIe
endpoints (R476).
-/

namespace Sys2Proof.Machine

-- Balls (R461 to R465) -------------------------------------------------------------------------------------------

/-- The distance of a row or column, 1 to 64, from the nearer edge. -/
def edgeDistance (k : Nat) : Nat := min (k - 1) (64 - k)

/-- The site in row `r` and column `c`, each 1 to 64, carries a ball: neither in a corner nor in the keying block (R462). -/
def ballSite (r c : Nat) : Bool :=
  4 < edgeDistance r + edgeDistance c && !(10 ≤ r && r ≤ 15 && 10 ≤ c && c ≤ 15)

/-- The die over which a column lies (R461). -/
def ballDie (c : Nat) : Nat := if c ≤ 32 then 0 else 1

/-- The ball groups and their balls (R463). -/
def ballGroups : List (String × Nat) :=
  [("VSS", 2615), ("VDD_CORE", 576), ("VDD_SRAM", 64), ("VDD_CNV", 96), ("VDD_TH", 32), ("VDD_SYN", 16), ("VDD_SER", 64), ("VDD_AON", 8),
    ("VDD_XTO", 8), ("VIO33", 16), ("HBM_1V1", 96), ("HBM_0V4", 48), ("HBM_1V8", 32), ("CH", 8)] ++
  [("LA", 64), ("LA_VREF", 4), ("EXT_TRIG", 2), ("REF_IN", 2), ("PCIe", 71), ("eDP", 22), ("Skein", 95), ("Boot flash", 6), ("JTAG", 5),
    ("Service", 5), ("RESET_N", 1), ("Core sense", 4), ("Reserved", 40)]

/-- The balls with fixed positions (R465): row and column. -/
def fixedBalls : List (String × Nat × Nat) :=
  [("EXT_TRIG_A", 3, 16), ("EXT_TRIG_B", 3, 49), ("CH0_P", 3, 22), ("CH0_N", 3, 24), ("CH1_P", 3, 28), ("CH1_N", 3, 30), ("CH2_P", 3, 36),
    ("CH2_N", 3, 38), ("CH3_P", 3, 42), ("CH3_N", 3, 44), ("PERST0_N", 60, 12), ("PERST1_N", 60, 53)] ++
  [("WAKE_N", 60, 32), ("RESET_N", 61, 30), ("REF_IN_P", 61, 34), ("REF_IN_N", 61, 35), ("SVC_TXD", 62, 30), ("SVC_RXD", 62, 31),
    ("ATB_GND", 62, 32), ("ATB0", 62, 33), ("ATB1", 62, 34)]

-- Rails (R445, R466, R468) ---------------------------------------------------------------------------------------

/-- A supply rail: nominal voltage in mV, tolerance in per cent, ripple in mV, largest current in mA (of each die for VDD_CORE), and the absolute
maximum in mV. -/
structure Rail where
  name : String
  nominal : Nat
  tolerance : Nat
  ripple : Nat
  current : Nat
  maximum : Nat
  deriving DecidableEq, Repr

/-- The rails and their limits (R466, R468), in the order of the points of the analogue test bus (R441). -/
def rails : List Rail :=
  [⟨"VDD_CORE", 750, 5, 15, 130000, 900⟩, ⟨"VDD_SRAM", 800, 5, 15, 20000, 950⟩, ⟨"VDD_CNV", 900, 5, 5, 24000, 1050⟩,
    ⟨"VDD_TH", 1800, 3, 3, 4000, 2100⟩, ⟨"VDD_SYN", 1200, 3, 2, 1500, 1400⟩, ⟨"VDD_SER", 850, 5, 10, 30000, 1050⟩,
    ⟨"VDD_AON", 800, 5, 20, 300, 950⟩, ⟨"VDD_XTO", 1800, 3, 10, 1700, 2100⟩, ⟨"VIO33", 3300, 5, 50, 300, 3900⟩,
    ⟨"HBM_1V1", 1100, 3, 10, 12000, 1300⟩, ⟨"HBM_0V4", 400, 5, 10, 8000, 600⟩, ⟨"HBM_1V8", 1800, 3, 20, 3000, 2100⟩]

/-- The steps in which the board brings up the rails (R445); RESET_N goes high after the last. -/
def railSteps : List (List String) :=
  [["VDD_AON", "VIO33"], ["VDD_XTO"], ["VDD_SRAM"], ["VDD_CORE", "VDD_SYN", "VDD_SER"], ["VDD_CNV", "VDD_TH"], ["HBM_1V8"], ["HBM_1V1"],
    ["HBM_0V4"]]

/-- A rail is up: at least 90% of nominal, mV (R445). -/
def Rail.up (r : Rail) (mv : Nat) : Bool := 9 * r.nominal ≤ 10 * mv

/-- A rail is within its tolerance, mV (R468). -/
def Rail.within (r : Rail) (mv : Nat) : Bool :=
  r.nominal * (100 - r.tolerance) ≤ 100 * mv && 100 * mv ≤ r.nominal * (100 + r.tolerance)

-- The TAPs (R473) ------------------------------------------------------------------------------------------------

/-- What IDCODE reads on a die. -/
def tapIdcode (d : Nat) : Nat := if d = 0 then 0xB04A0A6B else 0xB04A1A6B

/-- The data register that a scan of a die's TAP shifts, where the manual gives it: one bit for BYPASS, the identity for IDCODE. The one bit
that BYPASS captures is 0 as IEEE 1149.1 gives it. -/
def State.tapCapture (s : State) (d : Nat) : Option (Nat × Nat) :=
  match s.rd I.tapIr [d] with
  | 0 => some (1, 0)
  | 1 => some (32, tapIdcode d)
  | _ => none

-- PCIe identity (R476) -------------------------------------------------------------------------------------------

/-- The class code of the endpoints. -/
def pcieClass : Nat := 0x118000

/-- The device ID of a die's endpoint. -/
def pcieDevice (d : Nat) : Nat := if d = 0 then 0x4A60 else 0x4A61

/-- The revision ID of the endpoints. -/
def pcieRevision : Nat := 0xB0

/-- A word of the identity in the configuration space of a die's endpoint, at the offsets that PCI gives them: vendor and device ID, revision and
class code, subsystem IDs. PRESUMED: the offsets; the manual names the fields only. -/
def configWord (d off : Nat) : Option Nat :=
  match off with
  | 0x00 => some (Config.vendorId d % 2 ^ 16 + 2 ^ 16 * pcieDevice d)
  | 0x08 => some (pcieRevision + 2 ^ 8 * pcieClass)
  | 0x2C => some (Config.subsystemVendorId d % 2 ^ 16 + 2 ^ 16 * (Config.subsystemId d % 2 ^ 16))
  | _ => none

end Sys2Proof.Machine
end

