-- ==== Sys2Proof/WellFormed.lean ====
section
/-!
DEFINITION. Which commands are well formed: every operand is one that the hardware has, in the width that carries it.
A parameter of a mailbox command may hold any value of its width; its command judges it (R341, R352).
-/

namespace Sys2Proof

open Machine

/-- `x` is less than `n`. -/
def below (n x : Nat) : Bool := decide (x < n)

/-- `x` fits `w` bits. -/
def bits (w x : Nat) : Bool := decide (x < 2 ^ w)

/-- A mailbox ring exists (R308). -/
def Machine.MbxSource.wf : MbxSource → Bool
  | .ring m => m < 128
  | .urgent => true

/-- A header in the widths of R340. -/
def Machine.MbxHdr.wf (h : MbxHdr) : Bool := h.die < 2 && h.tag < 2 ^ 16 && h.dieField < 2 ^ 8 && h.src.wf

/-- `n` words of 32 bits, as the device reads them by DMA. -/
def wordList (n : Nat) (l : List Nat) : Bool := l.length == n && l.all fun w => decide (w < 2 ^ 32)

/-- The command is well formed. -/
def Instr.wf : Instr → Bool
  | .coldReset _ => true
  | .brownOutDetect => true
  | .bootCtrlWarmReset d v => below 2 d && bits 32 v
  | .watchdogExpiry => true
  | .thermalReset temp => bits 15 temp
  | .thermalResetRelease hottest => bits 15 hottest
  | .resetRelease mbit _ rev programmed => bits 32 mbit && bits 16 rev && programmed.all fun x => decide (x.1 + x.2.length ≤ 0x4000000)
  | .selfCheckReport d _ => below 2 d
  | .selfCheckTimeout => true
  | .imageLoadDone k _ => below 2 k
  | .signatureCheckDone _ => true
  | .firmwareStart => true
  | .hbmTrainingDone lost pcs => (lost.all fun x => below 2 x.1 && below 2 x.2) && (pcs.all fun x => below 2 x.1 && below 2 x.2.1 && below 32 x.2.2)
  | .bootReady => true
  | .endpointReset d _ => below 2 d
  | .functionLevelReset d => below 2 d
  | .modeTransitionDone => true
  | .vigilWakeTimer => true
  | .ovenReadyTimer => true
  | .warmTimer => true
  | .pullDacUpdate _ => true
  | .ovenTimeSave => true
  | .ageingRefitGateEnd _ => true
  | .refQualified _ => true
  | .refLost => true
  | .thawLockTimer => true
  | .slewDone _ => true
  | .dtStepApply => true
  | .xtoRefCtrlWrite d v => below 2 d && bits 32 v
  | .xtoRefResumeWrite d v => below 2 d && bits 32 v
  | .synLockLoss d => below 2 d
  | .synDriftMeasure d _ => below 2 d
  | .synRelock d => below 2 d
  | .synLocked d => below 2 d
  | .synModeWrite d v => below 2 d && bits 32 v
  | .synRampStart d v => below 2 d && bits 32 v
  | .synRampAbort d v => below 2 d && bits 32 v
  | .rampSegmentEnd d _ => below 2 d
  | .auxLossOfLock d => below 2 d
  | .auxCoastEnd d => below 2 d
  | .auxRelock d => below 2 d
  | .cueArm d n v => below 2 d && bits 32 v && below 256 n
  | .cueCancel d n v => below 2 d && bits 32 v && below 256 n
  | .cueExecute d n => below 2 d && below 256 n
  | .cldDtSnap d v => below 2 d && bits 32 v
  | .attenWrite d c v => below 2 d && below 2 c && bits 32 v
  | .attenSettled d c => below 2 d && below 2 c
  | .overloadTrip d c lo _ => below 2 d && below 2 c && below 2 lo
  | .overloadEpisodeEnd d c => below 2 d && below 2 c
  | .cardIntervalClose d c _ => below 2 d && below 2 c
  | .cardUpdateClaim d c slope => below 2 d && below 2 c && decide (0 < slope)
  | .cardStarved d c => below 2 d && below 2 c
  | .crdCombStart d c v => below 2 d && below 2 c && bits 32 v
  | .crdCombAbort d c v => below 2 d && below 2 c && bits 32 v
  | .combPhaseEnd d c _ => below 2 d && below 2 c
  | .combDone d c => below 2 d && below 2 c
  | .crdStoreWrite d v => below 2 d && bits 32 v
  | .storeWriteStart => true
  | .storeWriteComplete _ => true
  | .eqCtrlWrite d c v => below 2 d && below 2 c && bits 32 v
  | .eqCoefWrite d c b k v => below 2 d && below 2 c && bits 32 v && below 2 b && below 32 k
  | .firCoefWrite d c b k v => below 2 d && below 2 c && bits 32 v && below 2 b && below 256 k
  | .firCtrlSwap d c v => below 2 d && below 2 c && bits 32 v
  | .firFadeStart d c => below 2 d && below 2 c
  | .firFadeEnd d c => below 2 d && below 2 c
  | .condConfigWrite d c r v => below 2 d && below 2 c && bits 32 v && below 6 r
  | .condSettled d c => below 2 d && below 2 c
  | .levelCrossing _ xs => (xs.all fun x => below 4 x.chan && x.xs.length == 71)
  | .trgLevelWrite d c n v => below 2 d && below 2 c && bits 32 v && below 4 n
  | .termConfigWrite d t w v => below 2 d && bits 32 v && below 12 t && below 8 w
  | .timeoutTermExpiry d t => below 2 d && below 12 t
  | .withinDeadline d q => below 2 d && below 2 q
  | .autoTriggerDeadline d q => below 2 d && below 2 q
  | .deadTimeEnd d q => below 2 d && below 2 q
  | .holdoffTimeExpiry d q => below 2 d && below 2 q
  | .trgForceWrite d q v => below 2 d && bits 32 v && below 2 q
  | .acqCmdArm d a v => below 2 d && bits 32 v && below 3 a
  | .acqCmdStop d a v => below 2 d && bits 32 v && below 3 a
  | .acqStopCycle d a => below 2 d && below 3 a
  | .storedSampleCommit d a _ => below 2 d && below 3 a
  | .backpressureResume d a => below 2 d && below 3 a
  | .segmentRecordWrite d a => below 2 d && below 3 a
  | .chunkFlushTimeout d a => below 2 d && below 3 a
  | .chunkDelivery d q _ _ => below 2 d && below 2048 q
  | .markWrite d a => below 2 d && below 3 a
  | .gapRecordWrite d a => below 2 d && below 3 a
  | .scrubGrant d h _ _ _ => below 2 d && below 2 h
  | .remapHoldStart d h => below 2 d && below 2 h
  | .remapHoldEnd d h => below 2 d && below 2 h
  | .bar2Read d off n _ => below 2 d && off + n ≤ 2 ^ 28
  | .bar2Write d off bytes => below 2 d && off + bytes.length ≤ 2 ^ 28
  | .accEntryTake d c _ => below 2 d && below 2 c
  | .accCommitDone d c => below 2 d && below 2 c
  | .accCmdStart d c => below 2 d && below 2 c
  | .accCmdStop d c => below 2 d && below 2 c
  | .accCmdRelease d c => below 2 d && below 2 c
  | .accCmdClearHist d c => below 2 d && below 2 c
  | .accDecayBoundary d c => below 2 d && below 2 c
  | .vblankStart words => words.all fun w => below 2 w.1
  | .scnTimApply d v => below 2 d && bits 32 v
  | .scnOvlFlip d l v => below 2 d && bits 32 v && below 3 l
  | .lineUnderrun d l => below 2 d && below 3 l
  | .linkTrainingDone d attempt => below 2 d && ((attempt.map fun k => below 4 k).getD true)
  | .hpdChange d _ => below 2 d
  | .hpdIrq d _ => below 2 d
  | .logicInputChange d _ balls _ edges => below 2 d && balls.length == 16 && (edges.all fun e => below 16 e.chan)
  | .logicHoldoffEnd d i _ _ => below 2 d && below 16 i
  | .logicModeWrite d i v => below 2 d && bits 32 v && below 16 i
  | .logicThreshWrite d i v => below 2 d && bits 32 v && below 16 i
  | .timCtrlEnable d u v => below 2 d && bits 32 v && below 8 u
  | .timCtrlDisable d u v => below 2 d && bits 32 v && below 8 u
  | .timEventProcess d u => below 2 d && below 8 u
  | .timGateEnd d u => below 2 d && below 8 u
  | .timCueWrite d u e w v => below 2 d && bits 32 v && below 8 u && below 2 e && below 3 w
  | .timCueFire d u e => below 2 d && below 8 u && below 2 e
  | .timResRead d u => below 2 d && below 8 u
  | .comparatorTransition d u _ _ => below 2 d && below 12 u
  | .cmpSettlingEnd d u => below 2 d && below 12 u
  | .blankTimerPulse d k _ => below 2 d && below 2 k
  | .blankWindowClose d u => below 2 d && below 12 u
  | .cmpCtrlWrite d u w v => below 2 d && bits 32 v && below 12 u && below 3 w
  | .cmpSpareSwap d u _ => below 2 d && below 12 u
  | .queEnable d q v => below 2 d && bits 32 v && below 8192 q
  | .queDisable d q v => below 2 d && bits 32 v && below 8192 q
  | .doorbell d q v => below 2 d && bits 32 v && below 8192 q
  | .hostReadCompletion d layer q outcome => below 2 d && below 8192 q && below 3 outcome && ((layer.map fun l => below 3 l).getD true)
  | .evcRaise d v => below 2 d && bits 32 v
  | .coalesceDeadline d q => below 2 d && below 8192 q
  | .queIrqWrite d q v => below 2 d && bits 32 v && below 8192 q
  | .msixUnmask d vector => below 2 d && ((vector.map fun k => below 1024 k).getD true)
  | .evcRouteWrite d src v => below 2 d && bits 32 v && below 256 src
  | .distaffEntry k => below 4 k
  | .distaffExit k => below 4 k
  | .mbxUrgGo d v => below 2 d && bits 32 v
  | .answerDeadline d src => below 2 d && src.wf
  | .longCommandComplete d tag _ _ => below 2 d && bits 16 tag
  | .libDeliveryStart d => below 2 d
  | .unknownOpcodeCommand h opcode _ => h.wf && bits 16 opcode
  | .nop h => h.wf
  | .version h => h.wf
  | .modeSet h mode => h.wf && bits 8 mode
  | .modeGet h => h.wf
  | .longResult h tag => h.wf && bits 16 tag
  | .abort h tag => h.wf && bits 16 tag
  | .ringReset h q => h.wf && bits 16 q
  | .vlogRead h first count addr => h.wf && bits 8 first && bits 16 count && bits 64 addr
  | .dtGet h => h.wf
  | .refSet h v => h.wf && bits 32 v
  | .refResume h resume => h.wf && bits 8 resume
  | .refStatus h => h.wf
  | .synSet h v => h.wf && bits 32 v
  | .ramp h action => h.wf && bits 8 action
  | .cueSet h index action state target flags frac param ticks => h.wf && bits 8 index && bits 8 action && bits 8 state && bits 16 target && bits 16 flags && bits 16 frac && bits 32 param && bits 64 ticks
  | .auxSet h v => h.wf && bits 32 v
  | .chStatus h ch => h.wf && bits 8 ch
  | .attenSet h ch atten => h.wf && bits 8 ch && bits 8 atten
  | .ovldEvt h ch enable => h.wf && bits 8 ch && bits 8 enable
  | .sliceMap h ch => h.wf && bits 8 ch
  | .cardSet h ch ctrl suff tol timeout => h.wf && bits 8 ch && bits 32 ctrl && bits 32 suff && bits 32 tol && bits 32 timeout
  | .cardStatus h ch => h.wf && bits 8 ch
  | .combStart h ch allow store => h.wf && bits 8 ch && bits 8 allow && bits 8 store
  | .storeWrite h => h.wf
  | .storeStatus h => h.wf
  | .trimRead h ch addr => h.wf && bits 8 ch && bits 64 addr
  | .eqSet h ch v => h.wf && bits 8 ch && bits 32 v
  | .eqLoad h ch bank words => h.wf && bits 8 ch && bits 8 bank && wordList 32 words
  | .decSet h ch ctrl ratio fir => h.wf && bits 8 ch && bits 32 ctrl && bits 32 ratio && bits 32 fir
  | .firLoad h ch bank words => h.wf && bits 8 ch && bits 8 bank && wordList 256 words
  | .firSwap h ch bank => h.wf && bits 8 ch && bits 8 bank
  | .rsmSet h ch v ratio => h.wf && bits 8 ch && bits 32 v && bits 64 ratio
  | .condStatus h ch => h.wf && bits 8 ch
  | .levelSet h ch n v => h.wf && bits 8 ch && bits 8 n && bits 32 v
  | .termSet h t cfg t1 t2 ana log => h.wf && bits 8 t && bits 32 cfg && bits 64 t1 && bits 64 t2 && bits 32 ana && bits 32 log
  | .seqSet h q ctrl table timeout holdoff => h.wf && bits 8 q && bits 32 ctrl && bits 64 timeout && bits 64 holdoff && wordList 128 table
  | .curveLoad h ch e words => h.wf && bits 8 ch && bits 8 e && wordList 1024 words
  | .chRoute h ch v => h.wf && bits 8 ch && bits 32 v
  | .logicRoute h v => h.wf && bits 32 v
  | .force h q => h.wf && bits 8 q
  | .trigStatus h q => h.wf && bits 8 q
  | .acqSet h set disc wrap spill nseg segLen pre post spillMib dataQ markQ gapQ => h.wf && bits 8 set && bits 8 disc && bits 8 wrap && bits 8 spill && bits 32 nseg && bits 64 segLen && bits 64 pre && bits 64 post && bits 16 spillMib && bits 16 dataQ && bits 16 markQ && bits 16 gapQ
  | .strSet h set v => h.wf && bits 8 set && bits 32 v
  | .arm h set => h.wf && bits 8 set
  | .stop h set => h.wf && bits 8 set
  | .acqStatus h set => h.wf && bits 8 set
  | .memStatus h k => h.wf && bits 8 k
  | .libQuery h set term mask value most lo hi addr => h.wf && bits 8 set && bits 8 term && bits 16 mask && bits 16 value && bits 32 most && bits 64 lo && bits 64 hi && bits 64 addr
  | .libSegment h set what dataQ seq => h.wf && bits 8 set && bits 8 what && bits 16 dataQ && bits 64 seq
  | .libOverview h set dataQ points seq => h.wf && bits 8 set && bits 16 dataQ && bits 32 points && bits 64 seq
  | .libSpan h set dataQ lo hi => h.wf && bits 8 set && bits 16 dataQ && bits 64 lo && bits 64 hi
  | .libStatus h set => h.wf && bits 8 set
  | .accSetAvg h ch ctrl count len start => h.wf && bits 8 ch && bits 32 ctrl && bits 32 count && bits 32 len && bits 64 start
  | .accSetHist h ch y decay period origin step excl => h.wf && bits 8 ch && bits 32 y && bits 32 decay && bits 32 period && bits 64 origin && bits 64 step && bits 32 excl
  | .accCmd h ch v freeze => h.wf && bits 8 ch && bits 8 v && bits 8 freeze
  | .accReadAvg h ch size addr => h.wf && bits 8 ch && bits 32 size && bits 64 addr
  | .accReadHist h ch addr => h.wf && bits 8 ch && bits 64 addr
  | .poolAlloc h size => h.wf && bits 32 size
  | .poolRelease h offset => h.wf && bits 32 offset
  | .dpcd h write len addr sent _ => h.wf && bits 8 write && bits 8 len && bits 32 addr && sent.length == 16
  | .edidRead h block addr => h.wf && bits 8 block && bits 64 addr
  | .dispStatus h => h.wf
  | .lgcSet h i v => h.wf && bits 8 i && bits 32 v
  | .lgcMask h v => h.wf && bits 32 v
  | .timSet h u ctrl start stopSrc gate n => h.wf && bits 8 u && bits 32 ctrl && bits 32 start && bits 32 stopSrc && bits 32 gate && bits 32 n
  | .timEn h u en => h.wf && bits 8 u && bits 8 en
  | .timRead h u => h.wf && bits 8 u
  | .cmpSet h u ctrl thresh blank => h.wf && bits 8 u && bits 32 ctrl && bits 32 thresh && bits 32 blank
  | .cmpStatus h u => h.wf && bits 8 u
  | .allowanceSet h policy cap budget => h.wf && bits 8 policy && bits 32 cap && bits 32 budget
  | .ledger h => h.wf
  | .costRead h addr => h.wf && bits 64 addr
  | .wearRead h addr => h.wf && bits 64 addr
  | .rethread h unit => h.wf && bits 32 unit
  | .maintStatus h => h.wf
  | .skeinStatus h => h.wf
  | .skeinSet h ctrl sel gseq holdoff => h.wf && bits 32 ctrl && bits 32 sel && bits 32 gseq && bits 32 holdoff
  | .skeinMeasure h port ofs => h.wf && bits 8 port && ofs < 128 * 4096
  | .skeinUnfence h port => h.wf && bits 8 port
  | .diagSensors h => h.wf
  | .svcState h => h.wf
  | .fwStatus h => h.wf
  | .fwStage h offset length bytes => h.wf && bits 32 offset && bits 32 length && bytes.length == length
  | .fwVerify h => h.wf
  | .fwSelect h image => h.wf && bits 8 image
  | .flashInfo h => h.wf
  | .harvestPeriod draw rails temps corrections => bits 32 draw && (rails.length == 2 && rails.all fun r => r.length == 12) && (temps.length == 2 && temps.all fun t => t.length == 9) && (corrections.all fun x => below 20 x.1)
  | .thermalLimitEnter temp => bits 15 temp
  | .thermalLimitClear temp => bits 15 temp
  | .unitWorn u cause => bits 15 u && 1 ≤ cause && cause < 256
  | .unitLost u cause => bits 15 u && 1 ≤ cause && cause < 256
  | .maintClaimGrant => true
  | .rethreadSetup d => below 2 d
  | .rethreadSwap d => below 2 d
  | .pcCopyDone d h => below 2 d && below 2 h
  | .pcRemap d h => below 2 d && below 2 h
  | .spliceLaneCheck d l => below 2 d && below 28 l
  | .spliceLaneLoss d l => below 2 d && below 28 l
  | .comparatorDailyCheck d u _ _ => below 2 d && below 12 u
  | .retirement u => bits 15 u
  | .failover => true
  | .skeinPortTrained p => below 5 p
  | .joinReceive p bytes => below 5 p && bytes.length == 64
  | .joinAckReceive bytes => bytes.length == 64
  | .echoReqSend p ofs => below 5 p && ofs < 128 * 4096
  | .echoReqReceive bytes ofs _ => bytes.length == 64 && ofs < 128 * 4096
  | .echoRspReceive p bytes ofs => below 5 p && bytes.length == 64 && ofs < 128 * 4096
  | .alignSend p ofs => below 5 p && ofs < 128 * 4096
  | .alignReceive bytes ofs => bytes.length == 64 && ofs < 128 * 4096
  | .alignTimeout => true
  | .summaryReceive p bytes => below 5 p && bytes.length == 64
  | .summarySend period => period % 1024 == 0 && bits 64 period
  | .gseqEvaluate period => period % 1024 == 0 && bits 64 period
  | .broadcastSend period => period % 1024 == 0 && bits 64 period
  | .triggerFrameReceive bytes => bytes.length == 64
  | .idleFrameReceive bytes => bytes.length == 64
  | .broadcastDeadline period => period % 1024 == 0 && bits 64 period
  | .nakReceive p bytes => below 5 p && bytes.length == 64
  | .skeinSyncReceive ofs => ofs < 128 * 4096
  | .sknGseqRunWrite d v => below 2 d && bits 32 v
  | .consoleLine _ => true
  | .consoleHelp => true
  | .consoleVersion => true
  | .consoleStatus => true
  | .consoleSensors => true
  | .serviceEnter _ => true
  | .serviceExit => true
  | .consoleWake => true
  | .consoleTest n => 1 ≤ n && n ≤ 240
  | .consoleTestReading n _ => 1 ≤ n && n ≤ 240
  | .consoleAtb a point index => below 2 a && below 256 point && below 256 index
  | .consoleAtbOff a => below 2 a
  | .refit => true
  | .consoleBaud _ => true
  | .consoleEchoOn => true
  | .consoleEchoOff => true
  | .consoleUnlock response => ((response.map fun x => bits 32 x).getD true)
  | .consoleLock => true
  | .consoleUnknownCommand => true
  | .baudFallback => true
  | .unlockLockoutEnd => true
  | .testAdmissionTimeout => true
  | .testComplete result _ _ _ _ => below 5 result
  | .testTimeLimit => true
  | .testAbortChar => true
  | .meterReading _ => true
  | .meterWaitTimeout => true
  | .svcAtbWrite d v => below 2 d && bits 32 v
  | .registerWrite d off _ v => below 2 d && bits 26 off && (v.map fun v => bits 64 v).getD true
  | .pcieCompletionTimeout d layer q => below 2 d && below 8192 q && ((layer.map fun l => below 3 l).getD true)
  | .skeinLaneLost p => below 5 p
  | .spliceLaneRetrainDone d l margin => below 2 d && below 28 l && below 256 margin
  | .synLockAttemptFail d => below 2 d
  | .lcEscape d => below 2 d
  | .pcieLinkL0 d => below 2 d
  | .skeinEchoWaitTimeout p => below 5 p
  | .sramCopyDone d => below 2 d
  | .tapReset => true
  | .tapInstructionLoad d _ => below 2 d

end Sys2Proof
end

