-- ==== Sys2Proof/Tests/Slice0.lean ====
section
/-!
SUPPORT. Tests of the model, and witnesses for the hypotheses of the statements.
-/

namespace Sys2Proof.Tests

open Sys2Proof Sys2Proof.Machine

set_option maxRecDepth 8000
set_option linter.all false

-- States of small tests -------------------------------------------------------------------------------------------

/-- The state after reset, in a given mode and with some fields of registers at given values. -/
def in_mode (m : Mode) (l : List (Fld × List Nat × Nat)) : State :=
  { State.reset with mode := m, regs := (l.foldl (fun s x => s.wr x.1 x.2.1 x.2.2) State.reset).regs }

/-- READY, with the links of both endpoints in L0. -/
def up (l : List (Fld × List Nat × Nat)) : State := in_mode .ready ([(I.linkL0, [0], 1), (I.linkL0, [1], 1)] ++ l)

theorem fold_wf (l : List (Fld × List Nat × Nat)) (s : State) (h : s.regs.wf = true) :
    (l.foldl (fun s x => s.wr x.1 x.2.1 x.2.2) s).regs.wf = true := by
  induction l generalizing s with
  | nil => exact h
  | cons x l ih => exact ih _ (RegFile.wf_put h _ _)

/-- Such a state is sound. -/
theorem in_mode_wf (m : Mode) (l : List (Fld × List Nat × Nat)) : (in_mode m l).regs.wf = true := fold_wf l _ (by decide)
theorem up_wf (l : List (Fld × List Nat × Nat)) : (up l).regs.wf = true := in_mode_wf _ _

/-- The sets after reset, with one of them replaced. -/
def sets (i : Nat) (x : Acq) : List Acq := State.reset.acq.set i x

/-- A segment record and a mark of small tests. -/
def rec_seen : SegRec :=
  ⟨0, 0, ⟨0, 0, 0, 0, false, false, false, false, 0⟩, 0, 0, 0, 0, 0, 0, 0, 0, 0, 1024, 0, (4096, 1), 0, false, 0⟩

/-- A chunk of small tests. -/
def chunk_seen : Chunk := ⟨0, 0, 0, 0, 0, 2, 0, 0, 1, 0, []⟩

/-- An image A in the flash whose header is one that R453 allows, its other bytes 0. -/
def image_seen : List Host.Cell :=
  (List.range 512).map fun i => (0x100000 + i, ([0x57, 0x46, 0x56, 0x4D, 1, 0, 0xB0, 0, 1].getD i 0 : Byte))

/-- QUAD, with set 1 of die 1 free to be armed on sequencer 1. -/
def armable : State := in_mode .quad [(I.linkL0, [1], 1), (F.SYN_STATUS.LOCK, [1], 1), (F.CNV_STATUS.AVAILABLE, [1, 1], 1),
  (F.SEQ_STATE.ADV_MASK, [1, 1, 0], 1), (F.SEQ_STATE.NEXT, [1, 1, 0], 1), (F.SEQ_STATE.ENTRY, [1, 1, 1], 1),
  (F.TRG_TERM_CFG.LEVEL_B, [1, 0], 1), (F.HVS_SHARE.VALUE, [1, 0], 100000), (F.HVS_SHARE.VALUE, [1, 1], 100000),
  (F.STR_AUX_RINGS.MARK_Q, [1, 1], 7168), (F.STR_AUX_RINGS.GAP_Q, [1, 1], 7680), (F.ACC_CTRL.AVG_EN, [1, 1], 1), (F.MBX_URG_STATUS.BUSY, [1], 1)]

theorem armable_wf : armable.regs.wf = true := in_mode_wf _ _

/-- A unit with room, in which no event of the input came before, takes the one event held. -/
theorem takes_one {s : State} {v : TimEvent} (h : v.die < 2 ∧ v.u < 8 ∧ v.e < 2 ∧ s.timHeld = [v] ∧ s.timReady v = true)
    (g : (s.timOf v.die v.u).stopping = none ∧ (s.timOf v.die v.u).fifo.length < 32)
    (n : (if v.e = 0 then (s.timOf v.die v.u).lastStart else (s.timOf v.die v.u).lastStop) = none) : s.takesOne v := by
  refine And.intro h.1 (And.intro h.2.1 (And.intro h.2.2.1 (And.intro h.2.2.2.1 (And.intro h.2.2.2.2 (And.intro g.1 (And.intro (Or.inl g.2) fun l e => ?_))))))
  rw [n] at e
  cases e

/-- QUAD, with an urgent command waiting on die 1. -/
def asked (l : List (Fld × List Nat × Nat)) : State :=
  in_mode .quad ([(I.linkL0, [0], 1), (I.linkL0, [1], 1), (F.MBX_URG_STATUS.BUSY, [1], 1)] ++ l)

theorem asked_wf (l : List (Fld × List Nat × Nat)) : (asked l).regs.wf = true := in_mode_wf _ _

/-- The header of that command. -/
def ask : MbxHdr := ⟨1, .urgent, 65535, 0, false⟩

/-- A state whose service port is locked or not, whatever the OTP says. -/
def port (v : Nat) (s : State) : State := s.wr F.SVC_STATUS.LOCKED [] v

theorem port_wf (v : Nat) {s : State} (h : s.regs.wf = true) : (port v s).regs.wf = true := RegFile.wf_put h _ _

/-- Only that bit of such a state is new. -/
theorem port_rd {s : State} (h : s.regs.wf = true) (v : Nat) (f : Fld) (ix : List Nat) :
    (port v s).rd f ix = if f.reg = .SVC_STATUS ∧ f.lo = 0 ∧ ix = [] then trunc 1 v else s.rd f ix := State.rd_wr h _ _ _ _ _

/-- No cue comes before one where none of the others is due before it. -/
theorem cues_none {s : State} {d n : Nat} (h : (List.range 256).filter (fun m =>
    m != n && s.cueDue d m && (decide (s.cueDt d m < s.cueDt d n) || (s.cueDt d m == s.cueDt d n && decide (m < n)))) = []) :
    s.cuesBefore d n = [] := by
  unfold State.cuesBefore; rw [h]; exact List.mergeSort_nil

/-- The hypotheses of StepKeepsSound are met together by the state after reset. -/
theorem test_StepKeepsSound_met : ∃ t, State.reset.Sound ∧ step State.reset = .next t :=
  ⟨_, ⟨by decide, by decide, by decide, by decide, by decide, by decide, by decide⟩, rfl⟩

/-- The hypothesis of StepConsumesOneAndOnlyAddsOutput is met with a command waiting. -/
theorem test_StepConsumesOne_met : ∃ t, step { State.reset with pending := [.tapReset, .tapReset] } = .next t ∧ t.pending = [.tapReset] :=
  ⟨_, rfl, rfl⟩

/-- States and operands that meet the hypotheses of IdleStepPassesOneCycle. -/
theorem test_IdleStepPassesOneCycle_1 : ∃ s : State, s.Sound ∧ s.pending = [] ∧ s.mode.acquires = false ∧ s.booked = [] ∧ s.heldRecs =
    [] ∧ s.nextActs = [] ∧ s.offGrid 1 = false ∧ unitKind (s.rd F.BOB_ACTIVE.UNIT [1]) ≠ 1 ∧ s.rd I.cardSuff [1, 1] ≠ 3 ∧ s.combState 1
    1 ≠ 4 ∧ s.rd I.calOpen [1, 1] = 0 ∧ s.rd F.EQ_STATUS.ACTIVE_BANK [1, 1] = s.rd F.EQ_CTRL.BANK [1, 1] ∧ s.rd F.FIR_STATUS.FADING [1,
    1] = 0 ∧ (s.accOf 1 1).reading = none ∧ (s.accOf 1 1).passes = [] :=
  ⟨up [], ⟨up_wf [], by decide, by decide, by decide, by decide, by decide, by decide⟩, by decide⟩

theorem test_IdleStepPassesOneCycle_2 : ∃ s : State, s.Sound ∧ s.booked = [.baudFallback] ∧ s.mode.acquires = false ∧
    State.beforeEngines .baudFallback = false ∧ s.asksHarvest .baudFallback = false :=
  ⟨{ up [] with booked := [.baudFallback] }, ⟨up_wf [], by decide, by decide, by decide, by decide, by decide, by decide⟩, by decide⟩

/-- States and operands that meet the hypotheses of ResetCommandsTakeEffect. -/
theorem test_ResetCommandsTakeEffect_1 : ∃ s : State, s.Sound ∧ (Instr.coldReset true, 1) ∈ [(Instr.coldReset false, 0), (.coldReset
    true, 1), (.brownOutDetect, 2)] :=
  ⟨up [], ⟨up_wf [], by decide, by decide, by decide, by decide, by decide, by decide⟩, by decide⟩

theorem test_ResetCommandsTakeEffect_2 : ∃ s : State, s.Sound ∧ s.hostReach 1 = true ∧ s.dieRetired s.control = false ∧ slice 0x16A5C 0
    16 = 0x6A5C ∧ bitAt 0x16A5C 16 = true :=
  ⟨up [], ⟨up_wf [], by decide, by decide, by decide, by decide, by decide, by decide⟩, by decide⟩

theorem test_ResetCommandsTakeEffect_3 : ∃ s : State, s.Sound ∧ s.mode ≠ .hold ∧ (0x16A5B % 2 ^ 16 ≠ 0x6A5C ∧ bitAt 0x6A5C 16 = false)
    :=
  ⟨up [], ⟨up_wf [], by decide, by decide, by decide, by decide, by decide, by decide⟩, by decide⟩

/-- States and operands that meet the hypotheses of BootGoesStepByStep. -/
theorem test_BootGoesStepByStep_1 : ∃ s : State, s.Sound ∧ s.mode = .hold ∧ s.rd I.bootStep [] = 0 ∧ s.rd I.thermHold [] = 0 :=
  ⟨in_mode .hold [], ⟨in_mode_wf .hold [], by decide, by decide, by decide, by decide, by decide, by decide⟩, by decide⟩

theorem test_BootGoesStepByStep_2 : ∃ s : State, s.Sound ∧ s.rd I.bootStep [] = 1 ∧ s.rd I.bootSelf [0] = 0 ∧ s.rd I.bootSelf [1] = 0 ∧
    s.dieRetired 0 = false ∧ s.rd I.flashMbit [] = 512 :=
  ⟨in_mode .hold [(I.bootStep, [], 1), (I.flashMbit, [], 512)], ⟨in_mode_wf .hold [(I.bootStep, [], 1), (I.flashMbit, [], 512)], by decide, by decide, by decide, by decide, by decide, by decide⟩, by decide⟩

theorem test_BootGoesStepByStep_3 : ∃ s : State, s.Sound ∧ s.rd I.bootStep [] = 1 ∧ s.rd I.flashMbit [] ≠ 512 ∧ s.elapsed (s.rd I.bootAt
    []) 12500000 = true :=
  ⟨{ in_mode .hold [(I.bootStep, [], 1), (I.flashMbit, [], 256)] with now := 1600000000 }, ⟨in_mode_wf .hold [(I.bootStep, [], 1), (I.flashMbit, [], 256)], by decide, by decide, by decide, by decide, by decide, by decide⟩, by decide⟩

theorem test_BootGoesStepByStep_4 : ∃ s : State, s.Sound ∧ (s.rd I.bootStep [] = 2 ∨ s.rd I.bootStep [] = 4) ∧ headerBlank
    (s.imageHeader (s.rd I.bootImg [])) = true :=
  ⟨in_mode .hold [(I.bootStep, [], 4), (I.bootImg, [], 1)], ⟨in_mode_wf .hold [(I.bootStep, [], 4), (I.bootImg, [], 1)], by decide, by decide, by decide, by decide, by decide, by decide⟩, by decide⟩

theorem test_BootGoesStepByStep_5 : ∃ s : State, s.Sound ∧ (s.rd I.bootStep [] = 3 ∨ s.rd I.bootStep [] = 5) ∧ s.rd I.bootImg [] < 2 :=
  ⟨in_mode .hold [(I.bootStep, [], 3)], ⟨in_mode_wf .hold [(I.bootStep, [], 3)], by decide, by decide, by decide, by decide, by decide, by decide⟩, by decide⟩

theorem test_BootGoesStepByStep_6 : ∃ s : State, s.Sound ∧ (s.rd I.bootStep [] = 3 ∨ s.rd I.bootStep [] = 5) ∧ s.rd I.bootImg [] < 2 :=
  ⟨in_mode .hold [(I.bootStep, [], 5), (I.bootImg, [], 1)], ⟨in_mode_wf .hold [(I.bootStep, [], 5), (I.bootImg, [], 1)], by decide, by decide, by decide, by decide, by decide, by decide⟩, by decide⟩

theorem test_BootGoesStepByStep_7 : ∃ s : State, s.Sound ∧ s.rd I.bootStep [] = 6 :=
  ⟨in_mode .hold [(I.bootStep, [], 6)], ⟨in_mode_wf .hold [(I.bootStep, [], 6)], by decide, by decide, by decide, by decide, by decide, by decide⟩, by decide⟩

theorem test_BootGoesStepByStep_8 : ∃ s : State, s.Sound ∧ s.rd I.bootStep [] = 7 :=
  ⟨in_mode .hold [(I.bootStep, [], 7)], ⟨in_mode_wf .hold [(I.bootStep, [], 7)], by decide, by decide, by decide, by decide, by decide, by decide⟩, by decide⟩

theorem test_BootGoesStepByStep_9 : ∃ s : State, s.Sound ∧ s.rd I.bootStep [] = 8 ∧ s.control < 2 :=
  ⟨in_mode .hold [(I.bootStep, [], 8)], ⟨in_mode_wf .hold [(I.bootStep, [], 8)], by decide, by decide, by decide, by decide, by decide, by decide⟩, by decide⟩

theorem test_BootGoesStepByStep_10 : ∃ s : State, s.Sound ∧ s.rd I.bootStep [] = 2 ∧ headerOk (s.imageHeader (s.rd I.bootImg [])) = true
    ∧ headerBlank (s.imageHeader (s.rd I.bootImg [])) = false :=
  ⟨{ in_mode .hold [(I.bootStep, [], 2)] with flash := image_seen }, ⟨in_mode_wf .hold [(I.bootStep, [], 2)], by decide, by decide, by decide, by decide, by decide, by decide⟩, by decide⟩

theorem test_BootGoesStepByStep_11 : ∃ s : State, s.Sound ∧ s.rd I.bootImg [] ≠ 1 :=
  ⟨in_mode .hold [(I.bootStep, [], 2)], ⟨in_mode_wf .hold [(I.bootStep, [], 2)], by decide, by decide, by decide, by decide, by decide, by decide⟩, by decide⟩

/-- States and operands that meet the hypotheses of EndpointAndTestPortCommands. -/
theorem test_EndpointAndTestPortCommands_1 : ∃ s : State, s.Sound ∧ s.mode ≠ .hold ∧ s.dieRetired 1 = false :=
  ⟨up [], ⟨up_wf [], by decide, by decide, by decide, by decide, by decide, by decide⟩, by decide⟩

theorem test_EndpointAndTestPortCommands_2 : ∃ s : State, s.Sound ∧ s.mode = .hold :=
  ⟨in_mode .hold [], ⟨in_mode_wf .hold [], by decide, by decide, by decide, by decide, by decide, by decide⟩, by decide⟩

/-- States and operands that meet the hypotheses of OvenAndReferenceLoop. -/
theorem test_OvenAndReferenceLoop_1 : ∃ s : State, s.Sound ∧ s.rd F.XTO_STATUS.OVEN_READY [] = 0 :=
  ⟨up [], ⟨up_wf [], by decide, by decide, by decide, by decide, by decide, by decide⟩, by decide⟩

theorem test_OvenAndReferenceLoop_2 : ∃ s : State, s.Sound ∧ s.rd F.XTO_STATUS.OVEN_READY [] ≠ 0 ∧ s.rd F.XTO_STATUS.WARM [] = 0 ∧
    s.elapsed (s.rd I.ovenFirst []) (900 * 1250000000) = true :=
  ⟨{ up [(F.XTO_STATUS.OVEN_READY, [], 1)] with now := 144000000000000 }, ⟨up_wf [(F.XTO_STATUS.OVEN_READY, [], 1)], by decide, by decide, by decide, by decide, by decide, by decide⟩, by decide⟩

theorem test_OvenAndReferenceLoop_3 : ∃ s : State, s.Sound ∧ s.rd I.ovenSaved [] + 86400 ≤ s.rd I.ovenOn [] :=
  ⟨up [(I.ovenOn, [], 86400)], ⟨up_wf [(I.ovenOn, [], 86400)], by decide, by decide, by decide, by decide, by decide, by decide⟩, by decide⟩

theorem test_OvenAndReferenceLoop_4 : ∃ s : State, s.Sound ∧ s.runs .refit = true ∧ s.elapsed (s.rd I.refitAt []) (1000 * 1250000000) =
    true ∧ s.rd I.refitCount [] < 15 :=
  ⟨{ up [] with now := 160000000000000, running := [⟨.refit, 5, 0, []⟩] }, ⟨up_wf [], by decide, by decide, by decide, by decide, by decide, by decide⟩, by decide⟩

theorem test_OvenAndReferenceLoop_5 : ∃ s : State, s.Sound ∧ s.rd F.XTO_STATUS.REF_PRESENT [] = 0 ∧ s.skWorker = false ∧ s.refEnabled =
    true ∧ s.refState = 3 ∧ (s.phaseErr 0).natAbs ≤ 13107 :=
  ⟨up [(F.XTO_REF_CTRL.ENABLE, [], 1), (F.XTO_STATUS.REF_STATE, [], 3)], ⟨up_wf [(F.XTO_REF_CTRL.ENABLE, [], 1), (F.XTO_STATUS.REF_STATE, [], 3)], by decide, by decide, by decide, by decide, by decide, by decide⟩, by decide⟩

theorem test_OvenAndReferenceLoop_6 : ∃ s : State, s.Sound ∧ s.rd F.XTO_STATUS.REF_PRESENT [] = 0 ∧ s.skWorker = false ∧ s.refEnabled =
    true ∧ s.refState = 3 ∧ 13107 < (s.phaseErr 20000).natAbs ∧ s.rd F.XTO_REF_CTRL.POLICY [] = 2 :=
  ⟨up [(F.XTO_REF_CTRL.ENABLE, [], 1), (F.XTO_STATUS.REF_STATE, [], 3), (F.XTO_REF_CTRL.POLICY, [], 2)], ⟨up_wf [(F.XTO_REF_CTRL.ENABLE, [], 1), (F.XTO_STATUS.REF_STATE, [], 3), (F.XTO_REF_CTRL.POLICY, [], 2)], by decide, by decide, by decide, by decide, by decide, by decide⟩, by decide⟩

theorem test_OvenAndReferenceLoop_7 : ∃ s : State, s.Sound ∧ s.rd F.XTO_STATUS.REF_PRESENT [] = 0 ∧ s.skWorker = false ∧ s.refEnabled =
    true ∧ s.refState = 0 :=
  ⟨up [(F.XTO_REF_CTRL.ENABLE, [], 1)], ⟨up_wf [(F.XTO_REF_CTRL.ENABLE, [], 1)], by decide, by decide, by decide, by decide, by decide, by decide⟩, by decide⟩

theorem test_OvenAndReferenceLoop_8 : ∃ s : State, s.Sound ∧ s.rd F.XTO_STATUS.REF_PRESENT [] = 1 ∧ s.skWorker = false ∧ s.refState ≠ 0
    :=
  ⟨up [(F.XTO_STATUS.REF_PRESENT, [], 1), (F.XTO_STATUS.REF_STATE, [], 2)], ⟨up_wf [(F.XTO_STATUS.REF_PRESENT, [], 1), (F.XTO_STATUS.REF_STATE, [], 2)], by decide, by decide, by decide, by decide, by decide, by decide⟩, by decide⟩

theorem test_OvenAndReferenceLoop_9 : ∃ s : State, s.Sound ∧ s.refState = 1 ∧ s.rd I.inOn [] ≠ 0 ∧ s.rd F.XTO_STATUS.STEP_PENDING [] = 0
    ∧ s.rd F.XTO_STATUS.SLEWING [] = 0 ∧ s.elapsed (s.rd I.inSince []) 1250000000 = true :=
  ⟨{ up [(F.XTO_STATUS.REF_STATE, [], 1), (I.inOn, [], 1)] with now := 160000000000 }, ⟨up_wf [(F.XTO_STATUS.REF_STATE, [], 1), (I.inOn, [], 1)], by decide, by decide, by decide, by decide, by decide, by decide⟩, by decide⟩

theorem test_OvenAndReferenceLoop_10 : ∃ s : State, s.Sound ∧ s.rd F.XTO_STATUS.SLEWING [] = 1 ∧ s.skWorker = false ∧ (s.phaseErr
    0).natAbs ≤ 13107 :=
  ⟨up [(F.XTO_STATUS.SLEWING, [], 1)], ⟨up_wf [(F.XTO_STATUS.SLEWING, [], 1)], by decide, by decide, by decide, by decide, by decide, by decide⟩, by decide⟩

theorem test_OvenAndReferenceLoop_11 : ∃ s : State, s.Sound ∧ s.hostReach 1 = true ∧ s.dieRetired s.control = false ∧ s.skWorker = false
    ∧ s.rd F.XTO_REF_CTRL.ENABLE [] = 1 ∧ s.refState = 3 ∧ s.rd F.XTO_STATUS.HOLD_WAIT [] = 1 :=
  ⟨up [(F.XTO_REF_CTRL.ENABLE, [], 1), (F.XTO_STATUS.REF_STATE, [], 3), (F.XTO_STATUS.HOLD_WAIT, [], 1)], ⟨up_wf [(F.XTO_REF_CTRL.ENABLE, [], 1), (F.XTO_STATUS.REF_STATE, [], 3), (F.XTO_STATUS.HOLD_WAIT, [], 1)], by decide, by decide, by decide, by decide, by decide, by decide⟩, by decide⟩

theorem test_OvenAndReferenceLoop_12 : ∃ s : State, s.Sound ∧ s.elapsed (s.rd I.pullAt []) 1250000000 = true :=
  ⟨{ up [] with now := 160000000000 }, ⟨up_wf [], by decide, by decide, by decide, by decide, by decide, by decide⟩, by decide⟩

theorem test_OvenAndReferenceLoop_13 : ∃ s : State, s.Sound ∧ s.elapsed (s.rd I.pullAt []) 1250000000 = false :=
  ⟨up [], ⟨up_wf [], by decide, by decide, by decide, by decide, by decide, by decide⟩, by decide⟩

/-- States and operands that meet the hypotheses of SynAuxAndRamps. -/
theorem test_SynAuxAndRamps_1 : ∃ s : State, s.Sound ∧ s.rd F.SYN_STATUS.LOCK [1] = 1 :=
  ⟨up [(F.SYN_STATUS.LOCK, [1], 1)], ⟨up_wf [(F.SYN_STATUS.LOCK, [1], 1)], by decide, by decide, by decide, by decide, by decide, by decide⟩, by decide⟩

theorem test_SynAuxAndRamps_2 : ∃ s : State, s.Sound ∧ s.rd F.SYN_STATUS.LOCK [1] = 2 ∧ s.dieArmed 1 = false :=
  ⟨up [(F.SYN_STATUS.LOCK, [1], 2)], ⟨up_wf [(F.SYN_STATUS.LOCK, [1], 2)], by decide, by decide, by decide, by decide, by decide, by decide⟩, by decide⟩

theorem test_SynAuxAndRamps_3 : ∃ s : State, s.Sound ∧ s.rd F.SYN_STATUS.LOCK [0] = 0 ∧ s.domainOn 0 2 = true ∧ s.dieRetired 0 = false
    :=
  ⟨up [], ⟨up_wf [], by decide, by decide, by decide, by decide, by decide, by decide⟩, by decide⟩

theorem test_SynAuxAndRamps_4 : ∃ s : State, s.Sound ∧ s.hostReach 0 = true ∧ 1 % 2 = 1 - s.rd F.SYN_CTRL.MODE [0] ∧ s.rd
    F.SYN_CTRL.MODE [0] < 2 ∧ bitAt 1 1 = false ∧ bitAt 1 2 = false ∧ s.dieArmed 0 = false :=
  ⟨up [], ⟨up_wf [], by decide, by decide, by decide, by decide, by decide, by decide⟩, by decide⟩

theorem test_SynAuxAndRamps_5 : ∃ s : State, s.Sound ∧ s.hostReach 0 = true ∧ 1 % 2 = 1 - s.rd F.SYN_CTRL.MODE [0] ∧ s.dieArmed 0 = true
    :=
  ⟨in_mode .quad [(I.linkL0, [0], 1), (F.ACQ_STATUS.STATE, [0, 2], 1)], ⟨in_mode_wf .quad [(I.linkL0, [0], 1), (F.ACQ_STATUS.STATE, [0, 2], 1)], by decide, by decide, by decide, by decide, by decide, by decide⟩, by decide⟩

theorem test_SynAuxAndRamps_6 : ∃ s : State, s.Sound ∧ s.hostReach 0 = true ∧ 3 % 2 = s.rd F.SYN_CTRL.MODE [0] ∧ s.fractional 0 = true ∧
    s.rd F.SYN_STATUS.RAMP_ACTIVE [0] = 0 ∧ s.rampBad 0 0 = false :=
  ⟨up [(F.SYN_CTRL.MODE, [0], 1), (F.SYN_STATUS.MODE_ACTIVE, [0], 1), (F.SYN_STATUS.LOCK, [0], 1), (F.SYN_RAMP_DUR.DURATION, [0, 0], 1)], ⟨up_wf [(F.SYN_CTRL.MODE, [0], 1), (F.SYN_STATUS.MODE_ACTIVE, [0], 1), (F.SYN_STATUS.LOCK, [0], 1), (F.SYN_RAMP_DUR.DURATION, [0, 0], 1)], by decide, by decide, by decide, by decide, by decide, by decide⟩, by decide⟩

theorem test_SynAuxAndRamps_7 : ∃ s : State, s.Sound ∧ s.hostReach 0 = true ∧ 4 % 2 = s.rd F.SYN_CTRL.MODE [0] ∧ s.rd
    F.SYN_STATUS.RAMP_ACTIVE [0] = 1 ∧ s.rd F.SYN_STATUS.RAMP_SEG [0] < 64 ∧ s.rd F.SYN_CTRL.RAMP_LAST [0] < 64 ∧ s.rampDur 0 (s.rd
    F.SYN_STATUS.RAMP_SEG [0]) ≤ s.rampCycles 0 :=
  ⟨up [(F.SYN_STATUS.RAMP_ACTIVE, [0], 1), (F.SYN_STATUS.RAMP_SEG, [0], 63), (F.SYN_CTRL.RAMP_LAST, [0], 63), (F.SYN_RAMP_DUR.DURATION, [0, 63], 1), (I.synClk, [0], 128 * 4096 * 2 ^ 32)], ⟨up_wf [(F.SYN_STATUS.RAMP_ACTIVE, [0], 1), (F.SYN_STATUS.RAMP_SEG, [0], 63), (F.SYN_CTRL.RAMP_LAST, [0], 63), (F.SYN_RAMP_DUR.DURATION, [0, 63], 1), (I.synClk, [0], 128 * 4096 * 2 ^ 32)], by decide, by decide, by decide, by decide, by decide, by decide⟩, by decide⟩

theorem test_SynAuxAndRamps_8 : ∃ s : State, s.Sound ∧ s.rd F.AUX_STATUS.LOCKED [1] ≠ 0 ∧ s.rd F.AUX_STATUS.LOCKED [0] = 0 :=
  ⟨{ up [(F.AUX_STATUS.LOCKED, [1], 1)] with now := 0 }, ⟨up_wf [(F.AUX_STATUS.LOCKED, [1], 1)], by decide, by decide, by decide, by decide, by decide, by decide⟩, by decide⟩

theorem test_SynAuxAndRamps_9 : ∃ s : State, s.Sound ∧ s.rd F.AUX_STATUS.COAST [1] ≠ 0 ∧ s.elapsed (s.rd I.auxLoss [1]) 2500000 = true ∧
    s.dieRetired 0 = false ∧ s.dieRetired 1 = false :=
  ⟨{ up [(F.AUX_STATUS.COAST, [1], 1)] with now := 320000000 }, ⟨up_wf [(F.AUX_STATUS.COAST, [1], 1)], by decide, by decide, by decide, by decide, by decide, by decide⟩, by decide⟩

/-- States and operands that meet the hypotheses of CalendarCues. -/
theorem test_CalendarCues_1 : ∃ s : State, s.Sound ∧ s.hostReach 1 = true ∧ s.rd F.CUE.STATE [1, 255] ≠ 1 ∧ 16777216 / 2 ^ 24 % 256 = 1
    :=
  ⟨up [], ⟨up_wf [], by decide, by decide, by decide, by decide, by decide, by decide⟩, by decide⟩

theorem test_CalendarCues_2 : ∃ s : State, s.Sound ∧ s.hostReach 1 = true ∧ s.rd F.CUE.STATE [1, 255] = 1 ∧ 67108864 / 2 ^ 24 % 256 = 4
    ∧ s.cueDue 1 255 = false :=
  ⟨up [(F.CUE.STATE, [1, 255], 1), (F.CUE.DT_TICKS, [1, 255], 128)], ⟨up_wf [(F.CUE.STATE, [1, 255], 1), (F.CUE.DT_TICKS, [1, 255], 128)], by decide, by decide, by decide, by decide, by decide, by decide⟩, by decide⟩

theorem test_CalendarCues_3 : ∃ s : State, s.Sound ∧ s.hostReach 0 = true ∧ s.rd F.CUE.STATE [0, 0] = 1 ∧ s.cueDue 0 0 = true ∧
    s.cuesBefore 0 0 = [] ∧ s.rd F.CUE.ACTION [0, 0] = 0 :=
  ⟨up [(F.CUE.STATE, [0, 0], 1)], ⟨up_wf [(F.CUE.STATE, [0, 0], 1)], by decide, by decide, by decide, by decide, by decide, by decide⟩, ⟨by decide, by decide, by decide, cues_none (by decide), by decide⟩⟩

theorem test_CalendarCues_4 : ∃ s : State, s.Sound ∧ s.cueDue 1 0 = true ∧ s.cuesBefore 1 0 = [] ∧ s.rd F.CUE.ACTION [1, 0] = 8 ∧ 1 ≠
    s.control :=
  ⟨up [(F.CUE.STATE, [1, 0], 1), (F.CUE.ACTION, [1, 0], 8)], ⟨up_wf [(F.CUE.STATE, [1, 0], 1), (F.CUE.ACTION, [1, 0], 8)], by decide, by decide, by decide, by decide, by decide, by decide⟩, ⟨by decide, cues_none (by decide), by decide, by decide⟩⟩

theorem test_CalendarCues_5 : ∃ s : State, s.Sound ∧ s.cueDue 1 0 = true ∧ s.cuesBefore 1 0 = [] ∧ s.rd F.CUE.ACTION [1, 0] = 6 :=
  ⟨up [(F.CUE.STATE, [1, 0], 1), (F.CUE.ACTION, [1, 0], 6), (F.CUE.PARAM, [1, 0], 5)], ⟨up_wf [(F.CUE.STATE, [1, 0], 1), (F.CUE.ACTION, [1, 0], 6), (F.CUE.PARAM, [1, 0], 5)], by decide, by decide, by decide, by decide, by decide, by decide⟩, ⟨by decide, cues_none (by decide), by decide⟩⟩

/-- States and operands that meet the hypotheses of CardingCombingAndTheStore. -/
theorem test_CardingCombingAndTheStore_1 : ∃ s : State, s.Sound ∧ s.rd F.CRD_STATUS.STATE [0, 1] = 1 ∧ s.rd I.cardSuff [0, 1] = 0 ∧
    s.cardCycle 0 1 32 = true :=
  ⟨{ in_mode .quad [(F.CRD_STATUS.STATE, [0, 1], 1)] with now := 128 * (1250000 + 32) }, ⟨in_mode_wf .quad [(F.CRD_STATUS.STATE, [0, 1], 1)], by decide, by decide, by decide, by decide, by decide, by decide⟩, by decide⟩

theorem test_CardingCombingAndTheStore_2 : ∃ s : State, s.Sound ∧ s.rd F.CRD_STATUS.STATE [0, 1] = 1 ∧ s.cardErrs = [⟨0, 1, 0, [9]⟩] ∧
    s.cardCycle 0 1 64 = true ∧ s.claimGoes (s.cardClaim 0 1) = true ∧ s.rd I.cardSuff [0, 1] = 1 ∧ s.trained 0 1 0 = true ∧ bitAt (s.rd
    F.CRD_CTRL.LOOP_EN [0, 1]) 0 = true :=
  ⟨{ in_mode .quad [(F.CRD_STATUS.STATE, [0, 1], 1), (I.cardSuff, [0, 1], 1)] with now := 128 * (1250000 + 64), cardErrs := [⟨0, 1, 0, [9]⟩] }, ⟨in_mode_wf .quad [(F.CRD_STATUS.STATE, [0, 1], 1), (I.cardSuff, [0, 1], 1)], by decide, by decide, by decide, by decide, by decide, by decide⟩, by decide⟩

theorem test_CardingCombingAndTheStore_3 : ∃ s : State, s.Sound ∧ s.rd F.CRD_STATUS.STATE [0, 1] = 1 ∧ s.cardErrs = [⟨0, 1, 135, [0]⟩] ∧
    s.cardCycle 0 1 64 = true ∧ s.rd I.cardSuff [0, 1] = 2 ∧ ¬s.claimGoes (s.cardClaim 0 1) = true :=
  ⟨{ in_mode .quad [(F.CRD_STATUS.STATE, [0, 1], 1), (I.cardSuff, [0, 1], 2)] with now := 128 * (1250000 + 64), cardErrs := [⟨0, 1, 135, [0]⟩], running := [⟨.storeWrite, 4, 0, [0, 1, 2, 3, 4, 5, 6, 7, 8]⟩] }, ⟨in_mode_wf .quad [(F.CRD_STATUS.STATE, [0, 1], 1), (I.cardSuff, [0, 1], 2)], by decide, by decide, by decide, by decide, by decide, by decide⟩, by decide⟩

theorem test_CardingCombingAndTheStore_4 : ∃ s : State, s.Sound ∧ s.rd F.CRD_STATUS.STATE [0, 1] = 1 ∧ s.rd I.cardSuff [0, 1] = 3 ∧
    s.cardCycle 0 1 128 = true ∧ s.tapMoves = [⟨0, 1, 135, 3, false⟩] :=
  ⟨{ in_mode .quad [(F.CRD_STATUS.STATE, [0, 1], 1), (I.cardSuff, [0, 1], 3)] with now := 128 * (1250000 + 128), tapMoves := [⟨0, 1, 135, 3, false⟩] }, ⟨in_mode_wf .quad [(F.CRD_STATUS.STATE, [0, 1], 1), (I.cardSuff, [0, 1], 3)], by decide, by decide, by decide, by decide, by decide, by decide⟩, by decide⟩

theorem test_CardingCombingAndTheStore_5 : ∃ s : State, s.Sound ∧ (s.rd F.CRD_STATUS.STATE [0, 1] = 1 ∨ s.rd F.CRD_STATUS.STATE [0, 1] =
    2) ∧ s.rd F.CRD_STATUS.STARVED [0, 1] = 0 ∧ s.dueOn 0 (s.rd I.starveAt [0, 1]) = true :=
  ⟨{ in_mode .quad [(F.CRD_STATUS.STATE, [0, 1], 2)] with dt := 128 }, ⟨in_mode_wf .quad [(F.CRD_STATUS.STATE, [0, 1], 2)], by decide, by decide, by decide, by decide, by decide, by decide⟩, by decide⟩

theorem test_CardingCombingAndTheStore_6 : ∃ s : State, s.Sound ∧ s.hostReach 0 = true ∧ bitAt 1 0 = true ∧ bitAt 1 1 = false ∧
    s.combCheck 0 0 false (bitAt 1 2) ≠ 0 :=
  ⟨up [], ⟨up_wf [], by decide, by decide, by decide, by decide, by decide, by decide⟩, by decide⟩

theorem test_CardingCombingAndTheStore_7 : ∃ s : State, s.Sound ∧ s.hostReach 0 = true ∧ bitAt 2 0 = false ∧ bitAt 2 1 = true ∧ s.rd
    I.combEnding [0, 1] = 0 ∧ s.rd F.CRD_COMB_STATUS.STATE [0, 1] = 1 :=
  ⟨up [(F.CRD_COMB_STATUS.STATE, [0, 1], 1)], ⟨up_wf [(F.CRD_COMB_STATUS.STATE, [0, 1], 1)], by decide, by decide, by decide, by decide, by decide, by decide⟩, by decide⟩

theorem test_CardingCombingAndTheStore_8 : ∃ s : State, s.Sound ∧ s.hostReach 0 = true ∧ bitAt 2 0 = false ∧ bitAt 2 1 = true ∧ s.rd
    I.combEnding [0, 1] = 0 ∧ 2 ≤ s.rd F.CRD_COMB_STATUS.STATE [0, 1] :=
  ⟨up [(F.CRD_COMB_STATUS.STATE, [0, 1], 5)], ⟨up_wf [(F.CRD_COMB_STATUS.STATE, [0, 1], 5)], by decide, by decide, by decide, by decide, by decide, by decide⟩, by decide⟩

theorem test_CardingCombingAndTheStore_9 : ∃ s : State, s.Sound ∧ s.rd I.combEnding [0, 1] = 0 ∧ s.elapsed (s.rd I.combAt [0, 1])
    (s.combNext 0 1) = true ∧ s.rd F.CRD_COMB_STATUS.STATE [0, 1] = 3 ∧ s.rd F.CRD_COMB_STATUS.LEVEL [0, 1] = 15 :=
  ⟨{ in_mode .quad [(F.CRD_COMB_STATUS.STATE, [0, 1], 3), (F.CRD_COMB_STATUS.LEVEL, [0, 1], 15)] with now := 10 ^ 16 }, ⟨in_mode_wf .quad [(F.CRD_COMB_STATUS.STATE, [0, 1], 3), (F.CRD_COMB_STATUS.LEVEL, [0, 1], 15)], by decide, by decide, by decide, by decide, by decide, by decide⟩, by decide⟩

theorem test_CardingCombingAndTheStore_10 : ∃ s : State, s.Sound ∧ s.rd I.combEnding [0, 1] = 0 ∧ s.elapsed (s.rd I.combAt [0, 1])
    (s.combNext 0 1) = true ∧ s.rd F.CRD_COMB_STATUS.STATE [0, 1] = 2 :=
  ⟨{ in_mode .quad [(F.CRD_COMB_STATUS.STATE, [0, 1], 2)] with now := 10 ^ 16 }, ⟨in_mode_wf .quad [(F.CRD_COMB_STATUS.STATE, [0, 1], 2)], by decide, by decide, by decide, by decide, by decide, by decide⟩, by decide⟩

theorem test_CardingCombingAndTheStore_11 : ∃ s : State, s.Sound ∧ s.rd I.combEnding [0, 1] ≠ 0 ∧ s.elapsed (s.rd I.combOpen [0, 1]) 32
    = true :=
  ⟨{ in_mode .quad [(I.combEnding, [0, 1], 1)] with now := 4096 }, ⟨in_mode_wf .quad [(I.combEnding, [0, 1], 1)], by decide, by decide, by decide, by decide, by decide, by decide⟩, by decide⟩

theorem test_CardingCombingAndTheStore_12 : ∃ s : State, s.Sound ∧ s.hostReach 0 = true ∧ s.dieRetired s.control = false ∧ bitAt 1 0 =
    true ∧ s.rd F.CRD_STORE_STATUS.BUSY [] ≠ 0 ∧ s.rd F.PWR_STATUS.THERMAL [s.control] = 0 ∧ s.fits [0, 1] 0 (s.cost 13) = true :=
  ⟨up [(F.CRD_STORE_STATUS.BUSY, [], 1), (F.HVS_SHARE.VALUE, [0, 1], 100000)], ⟨up_wf [(F.CRD_STORE_STATUS.BUSY, [], 1), (F.HVS_SHARE.VALUE, [0, 1], 100000)], by decide, by decide, by decide, by decide, by decide, by decide⟩, by decide⟩

theorem test_CardingCombingAndTheStore_13 : ∃ s : State, s.Sound ∧ s.rd F.CRD_STORE_STATUS.PENDING [] ≠ 0 ∧ s.storeHeld = false ∧ s.runs
    .storeWrite = false ∧ s.waits .storeWrite = false ∧ s.claimGoes ⟨.storeWrite, 4, s.control, [8]⟩ = true ∧ s.bobbin.length ≤ 60000 :=
  ⟨up [(F.CRD_STORE_STATUS.PENDING, [], 1)], ⟨up_wf [(F.CRD_STORE_STATUS.PENDING, [], 1)], by decide, by decide, by decide, by decide, by decide, by decide⟩, by decide⟩

theorem test_CardingCombingAndTheStore_14 : ∃ s : State, s.Sound ∧ s.rd F.CRD_STORE_STATUS.BUSY [] ≠ 0 ∧ s.snapshot.length + 4 ≤ 0xFFFF0
    :=
  ⟨{ up [(F.CRD_STORE_STATUS.BUSY, [], 1)] with snapshot := List.replicate 64 0 }, ⟨up_wf [(F.CRD_STORE_STATUS.BUSY, [], 1)], by decide, by decide, by decide, by decide, by decide, by decide⟩, by decide⟩

/-- States and operands that meet the hypotheses of ConditioningRegistersAndFir. -/
theorem test_ConditioningRegistersAndFir_1 : ∃ s : State, s.Sound ∧ s.hostReach 1 = true ∧ (s.rd F.EQ_CTRL.BANK [1, 1] ≠ 3 % 2 ∨ s.rd
    F.EQ_CTRL.BYPASS [1, 1] ≠ 3 / 2 % 2) ∧ s.armed 1 1 = false ∧ s.closing = false :=
  ⟨up [], ⟨up_wf [], by decide, by decide, by decide, by decide, by decide, by decide⟩, by decide⟩

theorem test_ConditioningRegistersAndFir_2 : ∃ s : State, s.Sound ∧ s.hostReach 1 = true ∧ (s.rd F.EQ_CTRL.BANK [1, 1] ≠ 3 % 2 ∨ s.rd
    F.EQ_CTRL.BYPASS [1, 1] ≠ 3 / 2 % 2) ∧ s.armed 1 1 = true ∧ s.rd F.EQ_STATUS.ACTIVE_BANK [1, 1] = 0 :=
  ⟨in_mode .quad [(I.linkL0, [1], 1), (F.ACQ_STATUS.STATE, [1, 1], 1)], ⟨in_mode_wf .quad [(I.linkL0, [1], 1), (F.ACQ_STATUS.STATE, [1, 1], 1)], by decide, by decide, by decide, by decide, by decide, by decide⟩, by decide⟩

theorem test_ConditioningRegistersAndFir_3 : ∃ s : State, s.Sound ∧ s.inert 1 = false ∧ s.rd F.EQ_STATUS.ACTIVE_BANK [1, 1] ≠ s.rd
    F.EQ_CTRL.BANK [1, 1] ∧ ∀ f ∈ [F.EQ_STATUS.ACTIVE_BANK, F.EQ_STATUS.BYPASSED, F.EQ_CTRL.BANK, F.EQ_CTRL.BYPASS], s.rd f [1, 1] < 2
    :=
  ⟨in_mode .quad [(F.EQ_CTRL.BANK, [1, 1], 1)], ⟨in_mode_wf .quad [(F.EQ_CTRL.BANK, [1, 1], 1)], by decide, by decide, by decide, by decide, by decide, by decide⟩, by decide⟩

theorem test_ConditioningRegistersAndFir_4 : ∃ s : State, s.Sound ∧ s.hostReach 1 = true ∧ s.firRunning 1 1 = true ∧ s.rd
    F.FIR_STATUS.FADING [1, 1] ≠ 0 ∧ s.fadeBusy 1 1 = true ∧ 97 % 32 = s.rd F.FIR_CTRL.DECIM [1, 1] ∧ bitAt 97 5 = true ∧ s.inert 1 =
    false :=
  ⟨in_mode .quad [(I.linkL0, [1], 1), (F.DEC_CTRL.MODE, [1, 1], 3), (F.DEC_RATIO.RATIO, [1, 1], 8), (F.FIR_STATUS.FADING, [1, 1], 1)], ⟨in_mode_wf .quad [(I.linkL0, [1], 1), (F.DEC_CTRL.MODE, [1, 1], 3), (F.DEC_RATIO.RATIO, [1, 1], 8), (F.FIR_STATUS.FADING, [1, 1], 1)], by decide, by decide, by decide, by decide, by decide, by decide⟩, by decide⟩

theorem test_ConditioningRegistersAndFir_5 : ∃ s : State, s.Sound ∧ s.hostReach 1 = true ∧ 97 % 32 = s.rd F.FIR_CTRL.DECIM [1, 1] ∧
    bitAt 97 5 = true ∧ s.inert 1 = false ∧ s.fadeBusy 1 1 = false ∧ 97 / 64 % 2 ≠ s.rd F.FIR_STATUS.ACTIVE [1, 1] ∧ s.firRunning 1 1 =
    true :=
  ⟨in_mode .quad [(I.linkL0, [1], 1), (F.DEC_CTRL.MODE, [1, 1], 3), (F.DEC_RATIO.RATIO, [1, 1], 8)], ⟨in_mode_wf .quad [(I.linkL0, [1], 1), (F.DEC_CTRL.MODE, [1, 1], 3), (F.DEC_RATIO.RATIO, [1, 1], 8)], by decide, by decide, by decide, by decide, by decide, by decide⟩, by decide⟩

theorem test_ConditioningRegistersAndFir_6 : ∃ s : State, s.Sound ∧ s.hostReach 1 = true ∧ 97 % 32 = s.rd F.FIR_CTRL.DECIM [1, 1] ∧
    bitAt 97 5 = true ∧ s.inert 1 = false ∧ s.fadeBusy 1 1 = false ∧ 97 / 64 % 2 ≠ s.rd F.FIR_STATUS.ACTIVE [1, 1] ∧ s.firRunning 1 1 =
    false :=
  ⟨up [], ⟨up_wf [], by decide, by decide, by decide, by decide, by decide, by decide⟩, by decide⟩

theorem test_ConditioningRegistersAndFir_7 : ∃ s : State, s.Sound ∧ s.hostReach 1 = true ∧ s.armed 1 1 = true ∧ 31 % 32 ≠ s.rd
    F.FIR_CTRL.DECIM [1, 1] :=
  ⟨in_mode .quad [(I.linkL0, [1], 1), (F.ACQ_STATUS.STATE, [1, 1], 1)], ⟨in_mode_wf .quad [(I.linkL0, [1], 1), (F.ACQ_STATUS.STATE, [1, 1], 1)], by decide, by decide, by decide, by decide, by decide, by decide⟩, by decide⟩

theorem test_ConditioningRegistersAndFir_8 : ∃ s : State, s.Sound ∧ s.firRunning 1 1 = true ∧ s.fadeDue 1 1 = true ∧ s.rd
    F.FIR_STATUS.PENDING [1, 1] = 0 ∧ s.rd F.FIR_CTRL.FADE_LEN [1, 1] ≠ 0 ∧ s.rd F.FIR_CTRL.FADE_LEN [1, 1] < 2 ^ 16 :=
  ⟨{ in_mode .quad [(F.DEC_CTRL.MODE, [1, 1], 3), (F.DEC_RATIO.RATIO, [1, 1], 8), (I.fadeWait, [1, 1], 1), (F.FIR_CTRL.FADE_LEN, [1, 1], 65535)] with dt := 12800 }, ⟨in_mode_wf .quad [(F.DEC_CTRL.MODE, [1, 1], 3), (F.DEC_RATIO.RATIO, [1, 1], 8), (I.fadeWait, [1, 1], 1), (F.FIR_CTRL.FADE_LEN, [1, 1], 65535)], by decide, by decide, by decide, by decide, by decide, by decide⟩, by decide⟩

theorem test_ConditioningRegistersAndFir_9 : ∃ s : State, s.Sound ∧ s.fadeOver 1 1 = true ∧ s.rd F.FIR_STATUS.PENDING [1, 1] ≠ 0 ∧ s.rd
    F.FIR_STATUS.PENDING_BANK [1, 1] ≠ s.rd I.fadeTo [1, 1] ∧ s.rd F.FIR_CTRL.FADE_LEN [1, 1] ≠ 0 :=
  ⟨{ in_mode .quad [(F.DEC_RATIO.RATIO, [1, 1], 8), (F.FIR_STATUS.FADING, [1, 1], 1), (F.FIR_STATUS.PENDING, [1, 1], 1), (F.FIR_CTRL.FADE_LEN, [1, 1], 1), (I.fadeTo, [1, 1], 1), (I.fadeLen, [1, 1], 1)] with dt := 12800 }, ⟨in_mode_wf .quad [(F.DEC_RATIO.RATIO, [1, 1], 8), (F.FIR_STATUS.FADING, [1, 1], 1), (F.FIR_STATUS.PENDING, [1, 1], 1), (F.FIR_CTRL.FADE_LEN, [1, 1], 1), (I.fadeTo, [1, 1], 1), (I.fadeLen, [1, 1], 1)], by decide, by decide, by decide, by decide, by decide, by decide⟩, by decide⟩

theorem test_ConditioningRegistersAndFir_10 : ∃ s : State, s.Sound ∧ s.hostReach 1 = true ∧ 2 % 2 ^ F.DEC_RATIO.RATIO.width ≠ s.rd
    F.DEC_RATIO.RATIO [1, 1] ∧ s.armed 1 1 = false ∧ s.mode.acquires = true ∧ s.inert 1 = false :=
  ⟨in_mode .quad [(I.linkL0, [1], 1)], ⟨in_mode_wf .quad [(I.linkL0, [1], 1)], by decide, by decide, by decide, by decide, by decide, by decide⟩, by decide⟩

theorem test_ConditioningRegistersAndFir_11 : ∃ s : State, s.Sound ∧ s.hostReach 1 = true ∧ 5 % 2 ^ 32 ≠ s.rd F.RSM_RATIO.RATIO [1, 1] %
    2 ^ 32 ∧ s.rd F.RSM_RATIO.RATIO [1, 1] < 2 ^ 48 ∧ s.armed 1 1 = true :=
  ⟨in_mode .quad [(I.linkL0, [1], 1), (F.ACQ_STATUS.STATE, [1, 1], 1)], ⟨in_mode_wf .quad [(I.linkL0, [1], 1), (F.ACQ_STATUS.STATE, [1, 1], 1)], by decide, by decide, by decide, by decide, by decide, by decide⟩, by decide⟩

theorem test_ConditioningRegistersAndFir_12 : ∃ s : State, s.Sound ∧ s.mode.acquires = true ∧ s.settleDue 1 1 = true ∧ s.inert 1 = false
    :=
  ⟨in_mode .quad [(I.settleTimed, [1, 1], 1)], ⟨in_mode_wf .quad [(I.settleTimed, [1, 1], 1)], by decide, by decide, by decide, by decide, by decide, by decide⟩, by decide⟩

/-- States and operands that meet the hypotheses of AttenuatorOverloadComparators. -/
theorem test_AttenuatorOverloadComparators_1 : ∃ s : State, s.Sound ∧ s.hostReach 1 = true ∧ 0 % 8 = s.rd F.CNV_CTRL.ATTEN [1, 1] ∧ 7 %
    8 ≠ s.rd F.CNV_CTRL.ATTEN [1, 1] ∧ ¬(s.mode = .paired ∧ 1 = 1) ∧ s.armed 1 1 = false :=
  ⟨up [], ⟨up_wf [], by decide, by decide, by decide, by decide, by decide, by decide⟩, by decide⟩

theorem test_AttenuatorOverloadComparators_2 : ∃ s : State, s.Sound ∧ s.hostReach 1 = true ∧ 7 % 8 ≠ s.rd F.CNV_CTRL.ATTEN [1, 1] ∧
    ¬(s.mode = .paired ∧ 1 = 1) ∧ s.armed 1 1 = true :=
  ⟨in_mode .quad [(I.linkL0, [1], 1), (F.ACQ_STATUS.STATE, [1, 1], 1)], ⟨in_mode_wf .quad [(I.linkL0, [1], 1), (F.ACQ_STATUS.STATE, [1, 1], 1)], by decide, by decide, by decide, by decide, by decide, by decide⟩, by decide⟩

theorem test_AttenuatorOverloadComparators_3 : ∃ s : State, s.Sound ∧ s.rd F.CNV_STATUS.SETTLING [1, 1] ≠ 0 ∧ s.elapsed (s.rd I.settleAt
    [1, 1]) 2500 = true :=
  ⟨{ up [(F.CNV_STATUS.SETTLING, [1, 1], 1)] with now := 320000 }, ⟨up_wf [(F.CNV_STATUS.SETTLING, [1, 1], 1)], by decide, by decide, by decide, by decide, by decide, by decide⟩, by decide⟩

theorem test_AttenuatorOverloadComparators_4 : ∃ s : State, s.Sound ∧ s.rd F.CNV_STATUS.SETTLING [1, 1] ≠ 0 ∧ s.elapsed (s.rd I.settleAt
    [1, 1]) 2500 = false :=
  ⟨{ up [(F.CNV_STATUS.SETTLING, [1, 1], 1)] with now := 319999 }, ⟨up_wf [(F.CNV_STATUS.SETTLING, [1, 1], 1)], by decide, by decide, by decide, by decide, by decide, by decide⟩, by decide⟩

theorem test_AttenuatorOverloadComparators_5 : ∃ s : State, s.Sound ∧ s.rd I.cmpPower [1, 5] ≠ 0 ∧ s.rd I.cmpStart [1, 5] = 0 ∧ s.rd
    F.CMP_STATUS.SETTLING [1, 5] = 0 ∧ s.rd F.CMP_STATUS.BLANKING [1, 5] = 0 ∧ s.rd F.CMP_STATUS.UNRESOLVED [1, 5] = 0 ∧ s.rd I.cmpIn
    [1, 5] = 1 ∧ s.rd F.CMP_CTRL.POL [1, 5] = 1 ∧ s.rd F.CMP_STATUS.ASSERTED [1, 5] = 0 ∧ s.rd F.CNV_STATUS.OVLD_EPISODE [1, 1] = 0 ∧ 2
    * (-400000 : Int) < 500 * (2 * s.cmpThresh 1 5 - s.rd F.CMP_THRESH.HYST [1, 5]) ∧ s.closing = true :=
  ⟨{ in_mode .quad [(I.cmpPower, [1, 5], 1), (I.cmpIn, [1, 5], 1), (F.CMP_CTRL.POL, [1, 5], 1)] with closing := true }, ⟨in_mode_wf .quad [(I.cmpPower, [1, 5], 1), (I.cmpIn, [1, 5], 1), (F.CMP_CTRL.POL, [1, 5], 1)], by decide, by decide, by decide, by decide, by decide, by decide⟩, by decide⟩

theorem test_AttenuatorOverloadComparators_6 : ∃ s : State, s.Sound ∧ s.rd F.CNV_STATUS.OVLD_EPISODE [1, 1] = 1 ∧ s.rd
    F.CNV_STATUS.OVLD_HI [1, 1] = 0 ∧ s.rd F.CNV_STATUS.OVLD_LO [1, 1] = 0 ∧ s.elapsed (s.rd I.ovldClear [1, 1]) 64 = true :=
  ⟨{ in_mode .quad [(F.CNV_STATUS.OVLD_EPISODE, [1, 1], 1)] with now := 8192 }, ⟨in_mode_wf .quad [(F.CNV_STATUS.OVLD_EPISODE, [1, 1], 1)], by decide, by decide, by decide, by decide, by decide, by decide⟩, by decide⟩

theorem test_AttenuatorOverloadComparators_7 : ∃ s : State, s.Sound ∧ s.rd I.cmpPower [1, 11] ≠ 0 ∧ s.rd I.cmpStart [1, 11] = 0 ∧ s.rd
    I.cmpIn [1, 11] = 1 - 1 ∧ (2 * s.cmpThresh 1 11 + s.rd F.CMP_THRESH.HYST [1, 11]) * (State.cmpScale 11).2 ≤ 2 * ((400000000 : Int) -
    (State.cmpScale 11).1) ∧ s.rd F.CMP_STATUS.SETTLING [1, 11] = 0 ∧ s.rd F.CMP_STATUS.BLANKING [1, 11] = 0 ∧ s.rd
    F.CMP_STATUS.UNRESOLVED [1, 11] ≠ 0 :=
  ⟨in_mode .quad [(I.cmpPower, [1, 11], 1), (F.CMP_STATUS.UNRESOLVED, [1, 11], 1)], ⟨in_mode_wf .quad [(I.cmpPower, [1, 11], 1), (F.CMP_STATUS.UNRESOLVED, [1, 11], 1)], by decide, by decide, by decide, by decide, by decide, by decide⟩, by decide⟩

theorem test_AttenuatorOverloadComparators_8 : ∃ s : State, s.Sound ∧ s.rd I.cmpPower [1, 11] ≠ 0 ∧ s.rd I.cmpStart [1, 11] = 0 ∧ s.rd
    I.cmpIn [1, 11] = 1 - 1 ∧ (2 * s.cmpThresh 1 11 + s.rd F.CMP_THRESH.HYST [1, 11]) * (State.cmpScale 11).2 ≤ 2 * ((400000000 : Int) -
    (State.cmpScale 11).1) ∧ s.rd F.CMP_STATUS.SETTLING [1, 11] ≠ 0 ∧ s.rd F.CMP_BLANK_COUNT.COUNT [1, 11] + 1 < 2 ^ 32 ∧ s.dueOn 1
    (s.rd I.cmpSettleDt [1, 11]) = true :=
  ⟨in_mode .quad [(I.cmpPower, [1, 11], 1), (F.CMP_STATUS.SETTLING, [1, 11], 1)], ⟨in_mode_wf .quad [(I.cmpPower, [1, 11], 1), (F.CMP_STATUS.SETTLING, [1, 11], 1)], by decide, by decide, by decide, by decide, by decide, by decide⟩, by decide⟩

theorem test_AttenuatorOverloadComparators_9 : ∃ s : State, s.Sound ∧ s.rd I.cmpPower [1, 11] ≠ 0 ∧ s.rd I.cmpStart [1, 11] ≠ 0 ∧ (2 *
    s.cmpThresh 1 11 + s.rd F.CMP_THRESH.HYST [1, 11]) * (State.cmpScale 11).2 ≤ 2 * ((400000000 : Int) - (State.cmpScale 11).1) ∧ s.rd
    F.CMP_STATUS.BLANKING [1, 11] ≠ 0 ∧ s.dueOn 1 (s.rd I.cmpBlankDt [1, 11]) = true ∧ s.rd F.CMP_CTRL.BLANK_SRC [1, 11] ≠ 1 :=
  ⟨in_mode .quad [(I.cmpPower, [1, 11], 1), (I.cmpStart, [1, 11], 1), (F.CMP_STATUS.BLANKING, [1, 11], 1)], ⟨in_mode_wf .quad [(I.cmpPower, [1, 11], 1), (I.cmpStart, [1, 11], 1), (F.CMP_STATUS.BLANKING, [1, 11], 1)], by decide, by decide, by decide, by decide, by decide, by decide⟩, by decide⟩

theorem test_AttenuatorOverloadComparators_10 : ∃ s : State, s.Sound ∧ s.rd F.CMP_BLANK_TMR.PERIOD [1, 1] ≠ 0 ∧ s.dueOn 1 0 = true ∧ (0
    + 2 ^ 64 - 1024 * s.rd F.CMP_BLANK_TMR.OFFSET [1, 1]) % 2 ^ 64 % (1024 * s.rd F.CMP_BLANK_TMR.PERIOD [1, 1]) = 0 :=
  ⟨in_mode .quad [(F.CMP_BLANK_TMR.PERIOD, [1, 1], 1)], ⟨in_mode_wf .quad [(F.CMP_BLANK_TMR.PERIOD, [1, 1], 1)], by decide, by decide, by decide, by decide, by decide, by decide⟩, by decide⟩

theorem test_AttenuatorOverloadComparators_11 : ∃ s : State, s.Sound ∧ s.hostReach 1 = true ∧ s.rd F.CMP_SPARE_MAP.S0_STATE [1] = 1 ∧
    s.rd F.CMP_SPARE_MAP.S0_UNIT [1] = 11 :=
  ⟨up [(F.CMP_SPARE_MAP.S0_STATE, [1], 1), (F.CMP_SPARE_MAP.S0_UNIT, [1], 11)], ⟨up_wf [(F.CMP_SPARE_MAP.S0_STATE, [1], 1), (F.CMP_SPARE_MAP.S0_UNIT, [1], 11)], by decide, by decide, by decide, by decide, by decide, by decide⟩, by decide⟩

/-- States and operands that meet the hypotheses of LevelsTermsAndSequencers. -/
theorem test_LevelsTermsAndSequencers_1 : ∃ s : State, s.Sound ∧ s.mode.acquires = true ∧ s.calNow (3 / 2) (3 % 2) = false ∧ s.inert (3
    % 2) = false ∧ s.landsOn (3 / 2) (0 / 4096) = true ∧ s.rd F.TRG_LEVEL_STAT.STATE [3 / 2, 3 % 2, 3] ≤ 2 :=
  ⟨in_mode .quad [], ⟨in_mode_wf .quad [], by decide, by decide, by decide, by decide, by decide, by decide⟩, by decide⟩

theorem test_LevelsTermsAndSequencers_2 : ∃ s : State, s.Sound ∧ s.hostReach 1 = true ∧ s.seqArmed 1 0 = false ∧ s.seqArmed 1 1 = false
    ∧ 1 % 8 ≠ s.rd F.TRG_TERM_CFG.TYPE [1, 11] :=
  ⟨up [], ⟨up_wf [], by decide, by decide, by decide, by decide, by decide, by decide⟩, by decide⟩

theorem test_LevelsTermsAndSequencers_3 : ∃ s : State, s.Sound ∧ s.hostReach 1 = true ∧ s.seqArmed 1 1 = true ∧ bitAt (s.seqUsed 1 1) 11
    = true :=
  ⟨in_mode .quad [(I.linkL0, [1], 1), (F.ACQ_STATUS.STATE, [1, 1], 1), (F.SEQ_STATE.ADV_MASK, [1, 1, 0], 2048)], ⟨in_mode_wf .quad [(I.linkL0, [1], 1), (F.ACQ_STATUS.STATE, [1, 1], 1), (F.SEQ_STATE.ADV_MASK, [1, 1, 0], 2048)], by decide, by decide, by decide, by decide, by decide, by decide⟩, by decide⟩

theorem test_LevelsTermsAndSequencers_4 : ∃ s : State, s.Sound ∧ s.timeoutDeadline 1 11 = some 4096 ∧ s.dueOn 1 (4096 / 4096) = true :=
  ⟨in_mode .quad [(F.TRG_TERM_CFG.TYPE, [1, 11], 6), (F.TRG_TERM_T1.T1, [1, 11], 4096), (I.toutOn, [1, 11], 1)], ⟨in_mode_wf .quad [(F.TRG_TERM_CFG.TYPE, [1, 11], 6), (F.TRG_TERM_T1.T1, [1, 11], 4096), (I.toutOn, [1, 11], 1)], by decide, by decide, by decide, by decide, by decide, by decide⟩, by decide⟩

theorem test_LevelsTermsAndSequencers_5 : ∃ s : State, s.Sound ∧ s.timeoutDeadline 1 11 = some (4096 * 128) ∧ s.dueOn 1 (4096 * 128 /
    4096) = false :=
  ⟨in_mode .quad [(F.TRG_TERM_CFG.TYPE, [1, 11], 6), (F.TRG_TERM_T1.T1, [1, 11], 4096 * 128), (I.toutOn, [1, 11], 1)], ⟨in_mode_wf .quad [(F.TRG_TERM_CFG.TYPE, [1, 11], 6), (F.TRG_TERM_T1.T1, [1, 11], 4096 * 128), (I.toutOn, [1, 11], 1)], by decide, by decide, by decide, by decide, by decide, by decide⟩, by decide⟩

theorem test_LevelsTermsAndSequencers_6 : ∃ s : State, s.Sound ∧ s.rd F.TRG_SEQ_STATUS.PHASE [1, 1] = 1 ∧ instGe 0 (s.rd I.seqFrom [1,
    1]) = true ∧ bitAt (s.seqUsed 1 1) 11 = true ∧ s.rd F.SEQ_STATE.QUAL [1, 1, 0] = 0 ∧ bitAt (s.rd F.SEQ_STATE.ADV_MASK [1, 1, 0]) 11
    = true ∧ bitAt (s.rd F.SEQ_STATE.RST_MASK [1, 1, 0]) 11 = false ∧ s.rd F.SEQ_STATE.ENTRY [1, 1, s.rd F.SEQ_STATE.NEXT [1, 1, 0]] = 1
    :=
  ⟨in_mode .quad [(F.TRG_SEQ_STATUS.PHASE, [1, 1], 1), (F.SEQ_STATE.ADV_MASK, [1, 1, 0], 2048), (F.SEQ_STATE.NEXT, [1, 1, 0], 15), (F.SEQ_STATE.ENTRY, [1, 1, 15], 1)], ⟨in_mode_wf .quad [(F.TRG_SEQ_STATUS.PHASE, [1, 1], 1), (F.SEQ_STATE.ADV_MASK, [1, 1, 0], 2048), (F.SEQ_STATE.NEXT, [1, 1, 0], 15), (F.SEQ_STATE.ENTRY, [1, 1, 15], 1)], by decide, by decide, by decide, by decide, by decide, by decide⟩, by decide⟩

theorem test_LevelsTermsAndSequencers_7 : ∃ s : State, s.Sound ∧ (s.rd F.TRG_SEQ_STATUS.PHASE [1, 1] = 1 ∨ s.rd F.TRG_SEQ_STATUS.PHASE
    [1, 1] = 3) ∧ s.rd F.SEQ_STATE.QUAL [1, 1, 0] = 2 ∧ s.rd F.SEQ_STATE.RST_TO [1, 1, 0] < 16 ∧ s.withinLands 1 1 = some 0 ∧ 0 ≤
    s.blkNo 1 :=
  ⟨in_mode .quad [(F.TRG_SEQ_STATUS.PHASE, [1, 1], 3), (F.SEQ_STATE.QUAL, [1, 1, 0], 2), (F.SEQ_STATE.RST_TO, [1, 1, 0], 15)], ⟨in_mode_wf .quad [(F.TRG_SEQ_STATUS.PHASE, [1, 1], 3), (F.SEQ_STATE.QUAL, [1, 1, 0], 2), (F.SEQ_STATE.RST_TO, [1, 1, 0], 15)], by decide, by decide, by decide, by decide, by decide, by decide⟩, by decide⟩

theorem test_LevelsTermsAndSequencers_8 : ∃ s : State, s.Sound ∧ s.rd F.TRG_SEQ_STATUS.PHASE [1, 1] = 1 ∧ s.rd F.TRG_SEQ_CTRL.AUTO_EN
    [1, 1] ≠ 0 ∧ s.blkAt 1 (4096 * ((s.rd I.autoOrigin [1, 1] + s.rd F.TRG_AUTO_TIMEOUT.TICKS [1, 1]) % 2 ^ 64)) ≤ s.blkNo 1 :=
  ⟨in_mode .quad [(F.TRG_SEQ_STATUS.PHASE, [1, 1], 1), (F.TRG_SEQ_CTRL.AUTO_EN, [1, 1], 1), (F.TRG_AUTO_TIMEOUT.TICKS, [1, 1], 127)], ⟨in_mode_wf .quad [(F.TRG_SEQ_STATUS.PHASE, [1, 1], 1), (F.TRG_SEQ_CTRL.AUTO_EN, [1, 1], 1), (F.TRG_AUTO_TIMEOUT.TICKS, [1, 1], 127)], by decide, by decide, by decide, by decide, by decide, by decide⟩, by decide⟩

theorem test_LevelsTermsAndSequencers_9 : ∃ s : State, s.Sound ∧ s.rd F.TRG_SEQ_STATUS.PHASE [1, 1] = 2 ∧ s.rd I.deadBlk [1, 1] ≤
    s.blkNo 1 ∧ s.rd I.holdTimed [1, 1] ≠ 0 ∧ dtGe (s.rd I.holdEnd [1, 1]) (s.blkStart 1 (s.rd I.deadBlk [1, 1]) / 4096) = true :=
  ⟨in_mode .quad [(F.TRG_SEQ_STATUS.PHASE, [1, 1], 2), (I.holdTimed, [1, 1], 1)], ⟨in_mode_wf .quad [(F.TRG_SEQ_STATUS.PHASE, [1, 1], 2), (I.holdTimed, [1, 1], 1)], by decide, by decide, by decide, by decide, by decide, by decide⟩, by decide⟩

theorem test_LevelsTermsAndSequencers_10 : ∃ s : State, s.Sound ∧ s.holdLands 1 1 = some 0 ∧ 0 ≤ s.blkNo 1 :=
  ⟨in_mode .quad [(F.TRG_SEQ_STATUS.PHASE, [1, 1], 3), (I.holdTimed, [1, 1], 1)], ⟨in_mode_wf .quad [(F.TRG_SEQ_STATUS.PHASE, [1, 1], 3), (I.holdTimed, [1, 1], 1)], by decide, by decide, by decide, by decide, by decide, by decide⟩, by decide⟩

theorem test_LevelsTermsAndSequencers_11 : ∃ s : State, s.Sound ∧ s.hostReach 1 = true ∧ bitAt 1 0 = true ∧ s.closing = false ∧
    s.mode.acquires = true :=
  ⟨in_mode .quad [(I.linkL0, [1], 1)], ⟨in_mode_wf .quad [(I.linkL0, [1], 1)], by decide, by decide, by decide, by decide, by decide, by decide⟩, by decide⟩

theorem test_LevelsTermsAndSequencers_12 : ∃ s : State, s.Sound ∧ s.hostReach 1 = true ∧ bitAt 1 0 = true ∧ (s.closing = true ∨
    s.mode.acquires = false) ∧ (s.rd F.TRG_SEQ_STATUS.PHASE [1, 1] = 1 ∨ s.rd F.TRG_SEQ_STATUS.PHASE [1, 1] = 3) :=
  ⟨up [(F.TRG_SEQ_STATUS.PHASE, [1, 1], 3)], ⟨up_wf [(F.TRG_SEQ_STATUS.PHASE, [1, 1], 3)], by decide, by decide, by decide, by decide, by decide, by decide⟩, by decide⟩

theorem test_LevelsTermsAndSequencers_13 : ∃ s : State, s.Sound ∧ (s.rd F.TRG_SEQ_STATUS.PHASE [1, 1] = 0 ∨ s.rd F.TRG_SEQ_STATUS.PHASE
    [1, 1] = 2) ∧ s.rd F.TRG_FORCE_DROP_COUNT.COUNT [1, 1] + 1 < 2 ^ 32 :=
  ⟨up [(F.TRG_SEQ_STATUS.PHASE, [1, 1], 2)], ⟨up_wf [(F.TRG_SEQ_STATUS.PHASE, [1, 1], 2)], by decide, by decide, by decide, by decide, by decide, by decide⟩, by decide⟩

/-- States and operands that meet the hypotheses of ArmsStopsAndStoredSamples. -/
theorem test_ArmsStopsAndStoredSamples_1 : ∃ s : State, s.Sound ∧ s.hostReach 1 = true ∧ bitAt 3 0 = true ∧ bitAt 3 1 = true ∧ bitAt 4 0
    = false ∧ bitAt 4 1 = false ∧ s.armCheck 1 2 ≠ 0 :=
  ⟨up [], ⟨up_wf [], by decide, by decide, by decide, by decide, by decide, by decide⟩, by decide⟩

theorem test_ArmsStopsAndStoredSamples_2 : ∃ s : State, s.Sound ∧ s.hostReach 1 = true ∧ bitAt 1 0 = true ∧ bitAt 1 1 = false ∧
    s.armCheck 1 1 = 0 ∧ s.rd F.PWR_STATUS.THERMAL [1] = 0 ∧ s.fits [1] (s.armPower 1 1) 0 = true :=
  ⟨armable, ⟨armable_wf, by decide, by decide, by decide, by decide, by decide, by decide⟩, by decide⟩

theorem test_ArmsStopsAndStoredSamples_3 : ∃ s : State, s.Sound ∧ s.hostReach 1 = true ∧ bitAt 2 0 = false ∧ bitAt 2 1 = true ∧ s.rd
    F.ACQ_STATUS.STATE [1, 2] ≠ 0 ∧ (s.acqOf 1 2).stopAt = none :=
  ⟨in_mode .quad [(I.linkL0, [1], 1), (F.ACQ_STATUS.STATE, [1, 2], 1)], ⟨in_mode_wf .quad [(I.linkL0, [1], 1), (F.ACQ_STATUS.STATE, [1, 2], 1)], by decide, by decide, by decide, by decide, by decide, by decide⟩, by decide⟩

theorem test_ArmsStopsAndStoredSamples_4 : ∃ s : State, s.Sound ∧ s.rd F.ACQ_STATUS.STATE [1, 2] ≠ 0 ∧ s.stopReached 1 2 = true :=
  ⟨{ in_mode .quad [(F.ACQ_STATUS.STATE, [1, 2], 1)] with acq := sets 5 { Acq.idle with stopAt := some 0 } }, ⟨in_mode_wf .quad [(F.ACQ_STATUS.STATE, [1, 2], 1)], by decide, by decide, by decide, by decide, by decide, by decide⟩, by decide⟩

theorem test_ArmsStopsAndStoredSamples_5 : ∃ s : State, s.Sound ∧ s.mode.acquires = true ∧ s.inert 1 = false ∧ s.condConfig 1 1 = 0 ∧
    s.rd F.ACQ_STATUS.STATE [1, 1] = 1 ∧ s.rd F.RSM_CTRL.ENABLE [1, 1] = 0 ∧ s.commitBlk 1 1 (s.acqOf 1 1).next ≤ (s.blkNo 1 : Int) ∧
    s.commitWaits 1 1 = false ∧ s.calAt 1 1 (s.acqOf 1 1).next = false ∧ s.remapHolds 1 1 = false ∧ (s.acqOf 1 1).gap = none ∧ (s.acqOf
    1 1).markWait = [] ∧ (s.acqOf 1 1).seg.trig = none ∧ (s.acqOf 1 1).stopAt = none ∧ runHolds (-15) (List.replicate 32 0)
    ((s.samplesOf 1 1 (s.acqOf 1 1).next).1 - 15) ((s.samplesOf 1 1 (s.acqOf 1 1).next).2 + 16) = true ∧ s.rd F.DEC_CTRL.MODE [1, 1] = 0
    :=
  ⟨{ in_mode .quad [(F.ACQ_STATUS.STATE, [1, 1], 1), (F.DEC_CTRL.MODE, [1, 1], 0), (F.DEC_RATIO.RATIO, [1, 1], 1)] with dt := 12800 }, ⟨in_mode_wf .quad [(F.ACQ_STATUS.STATE, [1, 1], 1), (F.DEC_CTRL.MODE, [1, 1], 0), (F.DEC_RATIO.RATIO, [1, 1], 1)], by decide, by decide, by decide, by decide, by decide, by decide⟩, by decide⟩

theorem test_ArmsStopsAndStoredSamples_6 : ∃ s : State, s.Sound ∧ s.rd F.ACQ_STATUS.STATE [1, 2] ≠ 0 ∧ (s.acqOf 1 2).next ≤ 0 ∧ (s.acqOf
    1 2).stopAt = none ∧ (s.acqOf 1 2).seg.trig = none ∧ (s.acqOf 1 2).markWait = [] :=
  ⟨in_mode .quad [(F.ACQ_STATUS.STATE, [1, 2], 1)], ⟨in_mode_wf .quad [(F.ACQ_STATUS.STATE, [1, 2], 1)], by decide, by decide, by decide, by decide, by decide, by decide⟩, by decide⟩

theorem test_ArmsStopsAndStoredSamples_7 : ∃ s : State, s.Sound ∧ s.mode.acquires = true ∧ s.inert 1 = false ∧ s.condConfig 1 1 = 0 ∧
    (s.blkNo 1 : Int) < s.commitBlk 1 1 (s.runPos 1 1 0) :=
  ⟨in_mode .quad [(F.DEC_CTRL.MODE, [1, 1], 0), (F.DEC_RATIO.RATIO, [1, 1], 1)], ⟨in_mode_wf .quad [(F.DEC_CTRL.MODE, [1, 1], 0), (F.DEC_RATIO.RATIO, [1, 1], 1)], by decide, by decide, by decide, by decide, by decide, by decide⟩, by decide⟩

/-- States and operands that meet the hypotheses of RecordsChunksAndTheWindow. -/
theorem test_RecordsChunksAndTheWindow_1 : ∃ s : State, s.Sound ∧ s.mayResume 1 2 = true :=
  ⟨in_mode .quad [(F.ACQ_STATUS.STATE, [1, 2], 4), (F.STR_STATUS.BACKPRESSURE, [1, 2], 1)], ⟨in_mode_wf .quad [(F.ACQ_STATUS.STATE, [1, 2], 4), (F.STR_STATUS.BACKPRESSURE, [1, 2], 1)], by decide, by decide, by decide, by decide, by decide, by decide⟩, by decide⟩

theorem test_RecordsChunksAndTheWindow_2 : ∃ s : State, s.Sound ∧ (s.acqOf 1 1).recQueue = [rec_seen] ∧ s.elapsed (s.acqOf 1
    1).headSince 25 = true ∧ s.rd F.ACQ_STATUS.STATE [1, 1] ≠ 5 ∧ rec_seen.flags < 2 ^ 15 - 2 ^ 9 ∧ s.misread = [] ∧ s.stackHeld 1 (1 %
    2) = false ∧ s.stackHeld (s.segRecAddr 1 1 rec_seen.slot / 2 ^ 37) (s.segRecAddr 1 1 rec_seen.slot / 2 ^ 36 % 2) = false :=
  ⟨{ in_mode .quad [(F.ACQ_STATUS.STATE, [1, 1], 1)] with now := 3200, acq := sets 4 { Acq.idle with recQueue := [rec_seen] } }, ⟨in_mode_wf .quad [(F.ACQ_STATUS.STATE, [1, 1], 1)], by decide, by decide, by decide, by decide, by decide, by decide⟩, by decide⟩

theorem test_RecordsChunksAndTheWindow_3 : ∃ s : State, s.Sound ∧ s.rd F.STR_CTRL.FLUSH_US [1, 1] ≠ 0 ∧ (s.acqOf 1 1).buf.cur = some
    chunk_seen ∧ s.dueOn 1 (chunk_seen.opened + s.rd F.STR_CTRL.FLUSH_US [1, 1] * 160000) = true :=
  ⟨{ in_mode .quad [(F.STR_CTRL.FLUSH_US, [1, 1], 1)] with dt := 160000, acq := sets 4 { Acq.idle with buf := ⟨0, 0, some chunk_seen, [], 0, false, none⟩ } }, ⟨in_mode_wf .quad [(F.STR_CTRL.FLUSH_US, [1, 1], 1)], by decide, by decide, by decide, by decide, by decide, by decide⟩, by decide⟩

theorem test_RecordsChunksAndTheWindow_4 : ∃ s : State, s.Sound ∧ (s.acqOf 1 2).markWait = [⟨0, 1, 0, 0, 0, 0, true, 0, 0⟩] ∧ s.ringRoom
    1 (s.rd F.STR_AUX_RINGS.MARK_Q [1, 2]) = true :=
  ⟨{ in_mode .quad [(F.STR_AUX_RINGS.MARK_Q, [1, 2], 7679), (F.QUE_STATUS.STATE, [1, 7679], 1)] with acq := sets 5 { Acq.idle with markWait := [⟨0, 1, 0, 0, 0, 0, true, 0, 0⟩] } }, ⟨in_mode_wf .quad [(F.STR_AUX_RINGS.MARK_Q, [1, 2], 7679), (F.QUE_STATUS.STATE, [1, 7679], 1)], by decide, by decide, by decide, by decide, by decide, by decide⟩, by decide⟩

theorem test_RecordsChunksAndTheWindow_5 : ∃ s : State, s.Sound ∧ (s.acqOf 1 2).gapWait = [(0, [0#8])] ∧ s.ringRoom 1 (s.rd
    F.STR_AUX_RINGS.GAP_Q [1, 2]) = true :=
  ⟨{ in_mode .quad [(F.STR_AUX_RINGS.GAP_Q, [1, 2], 7935), (F.QUE_STATUS.STATE, [1, 7935], 1)] with acq := sets 5 { Acq.idle with gapWait := [(0, [0#8])] } }, ⟨in_mode_wf .quad [(F.STR_AUX_RINGS.GAP_Q, [1, 2], 7935), (F.QUE_STATUS.STATE, [1, 7935], 1)], by decide, by decide, by decide, by decide, by decide, by decide⟩, by decide⟩

theorem test_RecordsChunksAndTheWindow_6 : ∃ s : State, s.Sound ∧ s.hostReach 1 = true ∧ s.rd F.MEM_WIN.STACK [1] = 1 ∧ s.rd
    F.MEM_DEPTH.MIB [1, 1] * 2 ^ 20 + 288 * 2 ^ 20 ≤ s.rd F.MEM_WIN.BASE [1] * 2 ^ 20 + (2 ^ 20 - 1) ∧ s.rd F.MEM_WIN.BASE [1] * 2 ^ 20
    + (2 ^ 20 - 1) + 1 ≤ s.rd F.MEM_DEPTH.MIB [1, 1] * 2 ^ 20 + 288 * 2 ^ 20 + 128 * 2 ^ 20 ∧ s.stackHeld (((2 * 1 + 1) * 2 ^ 36 + (s.rd
    F.MEM_WIN.BASE [1] * 2 ^ 20 + (2 ^ 20 - 1))) / 2 ^ 37) (((2 * 1 + 1) * 2 ^ 36 + (s.rd F.MEM_WIN.BASE [1] * 2 ^ 20 + (2 ^ 20 - 1))) /
    2 ^ 36 % 2) = false :=
  ⟨up [(F.MEM_WIN.STACK, [1], 1), (F.MEM_WIN.BASE, [1], 14336 + 415)], ⟨up_wf [(F.MEM_WIN.STACK, [1], 1), (F.MEM_WIN.BASE, [1], 14336 + 415)], by decide, by decide, by decide, by decide, by decide, by decide⟩, by decide⟩

theorem test_RecordsChunksAndTheWindow_7 : ∃ s : State, s.Sound ∧ s.hostReach 0 = true ∧ s.rd F.MEM_WIN.STACK [0] ≠ 1 ∧ s.rd
    F.MBX_VLOG_TOTAL.COUNT [0] + 1 < 2 ^ 32 ∧ s.misread = [] ∧ (symbolErrors [(67, 255)]).length ≤ 2 ∧ symbolErrors [(67, 255)] = [(67,
    255)] :=
  ⟨up [], ⟨up_wf [], by decide, by decide, by decide, by decide, by decide, by decide⟩, by decide⟩

/-- States and operands that meet the hypotheses of AveragesAndHistograms. -/
theorem test_AveragesAndHistograms_1 : ∃ s : State, s.Sound ∧ (s.accOf 1 1).queue = [⟨0, 0, 0, []⟩] ∧ s.accMayTake 1 1 = true :=
  ⟨{ in_mode .quad [(F.ACC_STATUS.STATE, [1, 1], 1)] with acc := State.reset.acc.set 3 { AccEngine.idle with queue := [⟨0, 0, 0, []⟩] } }, ⟨in_mode_wf .quad [(F.ACC_STATUS.STATE, [1, 1], 1)], by decide, by decide, by decide, by decide, by decide, by decide⟩, by decide⟩

theorem test_AveragesAndHistograms_2 : ∃ s : State, s.Sound ∧ (s.accOf 1 1).reading = some ⟨⟨0, 0, 0, []⟩, ⟨[], false, [], none, none⟩,
    0, none, 0⟩ ∧ 0 ≤ s.now :=
  ⟨{ in_mode .quad [] with acc := State.reset.acc.set 3 { AccEngine.idle with reading := some ⟨⟨0, 0, 0, []⟩, ⟨[], false, [], none, none⟩, 0, none, 0⟩ } }, ⟨in_mode_wf .quad [], by decide, by decide, by decide, by decide, by decide, by decide⟩, by decide⟩

theorem test_AveragesAndHistograms_3 : ∃ s : State, s.Sound ∧ (s.accOf 1 1).reading = some ⟨⟨0, 0, 0, []⟩, ⟨[], false, [], none, none⟩,
    0, some true, 0⟩ ∧ 0 ≤ s.now ∧ s.rd F.ACC_STATUS.STATE [1, 1] = 1 ∧ s.rd F.ACC_CTRL.FREEZE [1, 1] = 0 ∧ (s.accOf 1 1).commit = none
    ∧ (s.accOf 1 1).stopping = none :=
  ⟨{ in_mode .quad [(F.ACC_STATUS.STATE, [1, 1], 1)] with acc := State.reset.acc.set 3 { AccEngine.idle with reading := some ⟨⟨0, 0, 0, []⟩, ⟨[], false, [], none, none⟩, 0, some true, 0⟩ } }, ⟨in_mode_wf .quad [(F.ACC_STATUS.STATE, [1, 1], 1)], by decide, by decide, by decide, by decide, by decide, by decide⟩, by decide⟩

theorem test_AveragesAndHistograms_4 : ∃ s : State, s.Sound ∧ (s.accOf 1 1).commit = some ⟨[5], false, [], none, some 0⟩ ∧ (s.accOf 1
    1).stopping = none ∧ s.rd F.ACC_AVG_DONE.DONE [1, 1] < 65536 ∧ 0 ≤ s.now ∧ s.rd F.ACC_AVG_COUNT.TARGET [1, 1] ≤ s.rd
    F.ACC_AVG_DONE.DONE [1, 1] + 1 :=
  ⟨{ in_mode .quad [(F.ACC_AVG_COUNT.TARGET, [1, 1], 1)] with acc := State.reset.acc.set 3 { AccEngine.idle with commit := some ⟨[5], false, [], none, some 0⟩ } }, ⟨in_mode_wf .quad [(F.ACC_AVG_COUNT.TARGET, [1, 1], 1)], by decide, by decide, by decide, by decide, by decide, by decide⟩, by decide⟩

theorem test_AveragesAndHistograms_5 : ∃ s : State, s.Sound ∧ (s.accOf 1 1).commit = some ⟨[], true, [(2047, ((0 : Nat) : Int), ((1023 :
    Nat) : Int))], some 0, none⟩ ∧ (s.accOf 1 1).stopping = none ∧ s.rd F.ACC_AVG_DONE.DONE [1, 1] < 65536 ∧ 0 ≤ s.now ∧ s.regs.all (fun
    e => e.1.reg != .HIST) = true :=
  ⟨{ in_mode .quad [] with acc := State.reset.acc.set 3 { AccEngine.idle with commit := some ⟨[], true, [(2047, 0, 1023)], some 0, none⟩ } }, ⟨in_mode_wf .quad [], by decide, by decide, by decide, by decide, by decide, by decide⟩, by decide⟩

theorem test_AveragesAndHistograms_6 : ∃ s : State, s.Sound ∧ s.hostReach 1 = true ∧ s.accCheck 1 1 ≠ 0 ∧ s.rd F.ACC_STATUS.STATE [1, 1]
    = 0 ∧ s.mode.acquires = false :=
  ⟨up [], ⟨up_wf [], by decide, by decide, by decide, by decide, by decide, by decide⟩, by decide⟩

theorem test_AveragesAndHistograms_7 : ∃ s : State, s.Sound ∧ s.hostReach 1 = true ∧ s.accCheck 1 1 = 0 ∧ s.rd F.PWR_STATUS.THERMAL [1]
    = 0 ∧ s.fits [1] (s.accCost (s.rd F.HVS_STATUS.LEVEL [])) 0 = true ∧ s.mode.acquires = true ∧ s.rd F.CNV_STATUS.AVAILABLE [1, 1] ≠ 0
    ∧ s.inert 1 = false ∧ s.rd I.engRetired [1, 1] = 0 ∧ s.rd F.ACC_CTRL.FREEZE [1, 1] = 0 ∧ (s.accOf 1 1).passes = [] :=
  ⟨armable, ⟨armable_wf, by decide, by decide, by decide, by decide, by decide, by decide⟩, by decide⟩

theorem test_AveragesAndHistograms_8 : ∃ s : State, s.Sound ∧ s.hostReach 1 = true ∧ s.rd F.ACC_STATUS.STATE [1, 1] = 2 ∧ s.rd
    F.ACC_CTRL.REPEAT [1, 1] ≠ 0 ∧ (s.accOf 1 1).commit = none :=
  ⟨up [(F.ACC_STATUS.STATE, [1, 1], 2), (F.ACC_CTRL.REPEAT, [1, 1], 1)], ⟨up_wf [(F.ACC_STATUS.STATE, [1, 1], 2), (F.ACC_CTRL.REPEAT, [1, 1], 1)], by decide, by decide, by decide, by decide, by decide, by decide⟩, by decide⟩

theorem test_AveragesAndHistograms_9 : ∃ s : State, s.Sound ∧ s.decayDue 1 1 = true ∧ s.rd F.ACC_CTRL.FREEZE [1, 1] = 0 ∧ (s.accOf 1
    1).passes = [] :=
  ⟨in_mode .quad [(F.ACC_STATUS.STATE, [1, 1], 1), (F.ACC_DECAY.DECAY_N, [1, 1], 1), (I.accFrames, [1, 1], 1)], ⟨in_mode_wf .quad [(F.ACC_STATUS.STATE, [1, 1], 1), (F.ACC_DECAY.DECAY_N, [1, 1], 1), (I.accFrames, [1, 1], 1)], by decide, by decide, by decide, by decide, by decide, by decide⟩, by decide⟩

theorem test_AveragesAndHistograms_10 : ∃ s : State, s.Sound ∧ (s.accOf 1 1).passes = [⟨some 8, 0, 0, 0⟩] ∧ (s.accOf 1 1).commit = none
    ∧ 0 ≤ s.now :=
  ⟨{ in_mode .quad [] with acc := State.reset.acc.set 3 { AccEngine.idle with passes := [⟨some 8, 0, 0, 0⟩] } }, ⟨in_mode_wf .quad [], by decide, by decide, by decide, by decide, by decide, by decide⟩, by decide⟩

/-- States and operands that meet the hypotheses of DisplayFramesLinksAndFlips. -/
theorem test_DisplayFramesLinksAndFlips_1 : ∃ s : State, s.Sound ∧ s.control < 2 ∧ s.rd F.SCN_STATUS.RUNNING [s.control] ≠ 0 ∧ s.rd
    F.SCN_STATUS.APPLY_PENDING [s.control] ≠ 0 ∧ s.rd F.SCN_CTRL.ENABLE [] < 2 ∧ s.rd F.SCN_CTRL.FRAME_EVT_EN [] = 1 ∧ (s.layerOf 1
    2).faulted = true ∧ (s.layerOf 1 2).pending = some ⟨0, 0, 4096, 1⟩ ∧ (s.layerOf 0 0).pending = none :=
  ⟨{ in_mode .quad [(F.SCN_STATUS.RUNNING, [0], 1), (F.SCN_STATUS.APPLY_PENDING, [0], 1), (F.SCN_CTRL.FRAME_EVT_EN, [], 1)] with layers := State.reset.layers.set 5 ⟨none, some ⟨0, 0, 4096, 1⟩, none, [], true⟩ }, ⟨in_mode_wf .quad [(F.SCN_STATUS.RUNNING, [0], 1), (F.SCN_STATUS.APPLY_PENDING, [0], 1), (F.SCN_CTRL.FRAME_EVT_EN, [], 1)], by decide, by decide, by decide, by decide, by decide, by decide⟩, by decide⟩

theorem test_DisplayFramesLinksAndFlips_2 : ∃ s : State, s.Sound ∧ s.hostReach 1 = true ∧ bitAt 1 0 = true ∧ s.shadowTiming.invalid =
    false ∧ (∀ g < 4, (s.window g).fits s.shadowTiming = true) ∧ (∀ e < 2, ∀ l < 3, s.rd F.SCN_OVL_CTRL.EN [e, l] = 0) ∧
    State.spliceFits s.window s.shadowTiming = true ∧ ∀ e < 2, 24 * s.shadowTiming.khz ≤ State.linkPayload (s.rd F.SCN_LINK_CFG.RATE
    [e]) (s.rd F.SCN_LINK_CFG.LANES [e]) :=
  ⟨up [], ⟨up_wf [], by decide, by decide, by decide, by decide, by decide, by decide⟩, by decide⟩

theorem test_DisplayFramesLinksAndFlips_3 : ∃ s : State, s.Sound ∧ s.hostReach 1 = true ∧ s.shadowTiming.invalid = true :=
  ⟨up [(F.SCN_TIM_H.HACTIVE, [], 0)], ⟨up_wf [(F.SCN_TIM_H.HACTIVE, [], 0)], by decide, by decide, by decide, by decide, by decide, by decide⟩, by decide⟩

theorem test_DisplayFramesLinksAndFlips_4 : ∃ s : State, s.Sound ∧ s.hostReach 1 = true ∧ bitAt 65535 16 = false ∧ bitAt 65536 16 = true
    ∧ s.flipOk 1 ⟨s.rd F.SCN_OVL_CTRL.SRC [1, 2], s.rd F.SCN_OVL_ADDR.ADDR [1, 2], s.rd F.SCN_OVL_STRIDE.STRIDE [1, 2], 65536 % 2 ^ 16⟩
    = true :=
  ⟨up [], ⟨up_wf [], by decide, by decide, by decide, by decide, by decide, by decide⟩, by decide⟩

theorem test_DisplayFramesLinksAndFlips_5 : ∃ s : State, s.Sound ∧ s.rd F.SCN_STATUS.RUNNING [1] ≠ 0 ∧ s.rd I.ovlAct [1, 2] ≠ 0 ∧ s.rd
    F.SCN_UNDERRUN_COUNT.COUNT [1] + 1 < 2 ^ 32 :=
  ⟨in_mode .quad [(F.SCN_STATUS.RUNNING, [1], 1), (I.ovlAct, [1, 2], 1)], ⟨in_mode_wf .quad [(F.SCN_STATUS.RUNNING, [1], 1), (I.ovlAct, [1, 2], 1)], by decide, by decide, by decide, by decide, by decide, by decide⟩, by decide⟩

theorem test_DisplayFramesLinksAndFlips_6 : ∃ s : State, s.Sound ∧ s.rd F.SCN_STATUS.LINK [1] = 1 ∧ (s.trainSettings 1)[0]? ≠ none :=
  ⟨up [(F.SCN_STATUS.LINK, [1], 1)], ⟨up_wf [(F.SCN_STATUS.LINK, [1], 1)], by decide, by decide, by decide, by decide, by decide, by decide⟩, by decide⟩

theorem test_DisplayFramesLinksAndFlips_7 : ∃ s : State, s.Sound ∧ s.rd F.SCN_STATUS.HPD [1] < 2 ∧ s.rd F.SCN_STATUS.HPD [1] ≠ b2n true
    ∧ s.rd F.SCN_STATUS.HPD [1] = b2n false :=
  ⟨up [], ⟨up_wf [], by decide, by decide, by decide, by decide, by decide, by decide⟩, by decide⟩

/-- States and operands that meet the hypotheses of LogicChannelsAndIntervals. -/
theorem test_LogicChannelsAndIntervals_1 : ∃ s : State, s.Sound ∧ s.rd F.LGC_STATUS.RUNNING [1] ≠ 0 ∧ bitAt (s.rd I.lgcStart [1]) 15 =
    true ∧ bitAt (s.rd I.lgcStart [1]) 0 = false ∧ bitAt (s.rd F.LGC_STATE.UNRESOLVED [1]) 0 = false ∧ s.rd I.lgcHold [1, 0] = 0 :=
  ⟨in_mode .quad [(F.LGC_STATUS.RUNNING, [1], 1), (I.lgcStart, [1], 32768)], ⟨in_mode_wf .quad [(F.LGC_STATUS.RUNNING, [1], 1), (I.lgcStart, [1], 32768)], by decide, by decide, by decide, by decide, by decide, by decide⟩, by decide⟩

theorem test_LogicChannelsAndIntervals_2 : ∃ s : State, s.Sound ∧ s.rd F.LGC_STATUS.RUNNING [1] ≠ 0 ∧ bitAt (s.rd I.lgcStart [1]) 15 =
    false ∧ bitAt (s.rd F.LGC_STATE.UNRESOLVED [1]) 15 = true ∧ s.rd I.lgcHold [1, 0] ≠ 0 ∧ instGe (4096 * 0) (s.rd I.lgcHold [1, 0]) =
    false ∧ instGe (4096 * 1) (s.rd I.lgcHold [1, 0]) = true ∧ bitAt (s.rd F.LGC_STATE.UNRESOLVED [1]) 0 = false :=
  ⟨in_mode .quad [(F.LGC_STATUS.RUNNING, [1], 1), (F.LGC_STATE.UNRESOLVED, [1], 32768), (I.lgcHold, [1, 0], 4096)], ⟨in_mode_wf .quad [(F.LGC_STATUS.RUNNING, [1], 1), (F.LGC_STATE.UNRESOLVED, [1], 32768), (I.lgcHold, [1, 0], 4096)], by decide, by decide, by decide, by decide, by decide, by decide⟩, by decide⟩

theorem test_LogicChannelsAndIntervals_3 : ∃ s : State, s.Sound ∧ s.hostReach 1 = true ∧ 1 % 2 ≠ s.rd F.LGC_CH_CFG.MODE [1, 15] ∧
    s.lgcInUse 1 15 = false ∧ -600 ≤ sval 11 (1200 / 2 % 2 ^ 11) ∧ sval 11 (1200 / 2 % 2 ^ 11) ≤ 600 :=
  ⟨up [], ⟨up_wf [], by decide, by decide, by decide, by decide, by decide, by decide⟩, by decide⟩

theorem test_LogicChannelsAndIntervals_4 : ∃ s : State, s.Sound ∧ dtGe s.dt (dtAdd (s.acqOf 1 2).lc.lastTick (2 ^ 47)) = true ∧ s.armed
    1 2 = true ∧ s.streaming 1 2 = false ∧ (s.acqOf 1 2).gap = none ∧ s.remapHolds 1 2 = false :=
  ⟨{ in_mode .quad [(F.ACQ_STATUS.STATE, [1, 2], 1)] with dt := 2 ^ 47 }, ⟨in_mode_wf .quad [(F.ACQ_STATUS.STATE, [1, 2], 1)], by decide, by decide, by decide, by decide, by decide, by decide⟩, by decide⟩

theorem test_LogicChannelsAndIntervals_5 : ∃ s : State, s.Sound ∧ s.hostReach 1 = true ∧ s.rd F.TIM_CTRL.EN [1, 7] = 0 ∧ s.mode = .ready
    ∧ (State.writeTimCtrl 1 7 1 s).1.timCheck 1 7 = 0 ∧ s.rd F.PWR_STATUS.THERMAL [1] = 0 ∧ (State.writeTimCtrl 1 7 1 s).1.fits [1]
    ((State.writeTimCtrl 1 7 1 s).1.cost 9) 0 = true :=
  ⟨up [(F.HVS_SHARE.VALUE, [1, 0], 100000), (F.HVS_SHARE.VALUE, [1, 1], 100000), (F.TIM_STOP_SRC.SRC, [1, 7], 17)], ⟨up_wf [(F.HVS_SHARE.VALUE, [1, 0], 100000), (F.HVS_SHARE.VALUE, [1, 1], 100000), (F.TIM_STOP_SRC.SRC, [1, 7], 17)], by decide, by decide, by decide, by decide, by decide, by decide⟩, by decide⟩

theorem test_LogicChannelsAndIntervals_6 : ∃ s : State, s.Sound ∧ s.hostReach 1 = true ∧ s.rd F.TIM_CTRL.EN [1, 7] = 0 ∧ ¬(s.mode =
    .ready ∨ s.mode.acquires = true) :=
  ⟨in_mode .vigil [(I.linkL0, [1], 1)], ⟨in_mode_wf .vigil [(I.linkL0, [1], 1)], by decide, by decide, by decide, by decide, by decide, by decide⟩, by decide⟩

theorem test_LogicChannelsAndIntervals_7 : ∃ s : State, s.Sound ∧ s.hostReach 1 = true ∧ s.rd F.TIM_CTRL.EN [1, 7] ≠ 0 ∧ (s.timOf 1
    7).stopping = none :=
  ⟨up [(F.TIM_CTRL.EN, [1, 7], 1), (F.TIM_CTRL.MODE, [1, 7], 3)], ⟨up_wf [(F.TIM_CTRL.EN, [1, 7], 1), (F.TIM_CTRL.MODE, [1, 7], 3)], by decide, by decide, by decide, by decide, by decide, by decide⟩, by decide⟩

theorem test_LogicChannelsAndIntervals_8 : ∃ s : State, s.Sound ∧ s.timReady ⟨1, 7, 1, 0, 1, 0⟩ = true ∧ (s.timOf 1 7).lastStop = some 0
    ∧ (s.timOf 1 7).stopping = none ∧ (s.timOf 1 7).fifo.length < 32 ∧ instSub 0 0 < s.timHoldoff ⟨1, 7, 1, 0, 1, 0⟩ ∧ s.rd
    F.TIM_SUPPRESS.COUNT [1, 7] + 1 < 2 ^ 32 :=
  ⟨{ up [] with timHeld := [⟨1, 7, 1, 0, 1, 0⟩], now := 10 ^ 6, tims := State.reset.tims.set 15 { Tim.idle with lastStop := some 0 } }, ⟨up_wf [], by decide, by decide, by decide, by decide, by decide, by decide⟩, by decide⟩

theorem test_LogicChannelsAndIntervals_9 : ∃ s : State, s.Sound ∧ s.takesOne ⟨1, 7, 1, 0, 1, 0⟩ ∧ s.rd F.TIM_CTRL.MODE [1, 7] = 0 ∧
    (s.timOf 1 7).opened = some (0, 0, 1) ∧ (s.timOf 1 7).fifo.length < 32 :=
  ⟨{ up [] with timHeld := [⟨1, 7, 1, 0, 1, 0⟩], now := 10 ^ 6, tims := State.reset.tims.set 15 { Tim.idle with opened := some (0, 0, 1) } }, ⟨up_wf [], by decide, by decide, by decide, by decide, by decide, by decide⟩, takes_one (by decide) (by decide) (by decide), by decide⟩

theorem test_LogicChannelsAndIntervals_10 : ∃ s : State, s.Sound ∧ s.takesOne ⟨1, 7, 0, 4096, 1, 0⟩ ∧ s.rd F.TIM_CTRL.MODE [1, 7] = 1 ∧
    (s.timOf 1 7).firstEdge = some 0 ∧ s.rd F.TIM_N.N [1, 7] ≤ (s.timOf 1 7).edges + 1 :=
  ⟨{ up [(F.TIM_CTRL.MODE, [1, 7], 1)] with timHeld := [⟨1, 7, 0, 4096, 1, 0⟩], now := 10 ^ 6, tims := State.reset.tims.set 15 { Tim.idle with firstEdge := some 0 } }, ⟨up_wf [(F.TIM_CTRL.MODE, [1, 7], 1)], by decide, by decide, by decide, by decide, by decide, by decide⟩, takes_one (by decide) (by decide) (by decide), by decide⟩

theorem test_LogicChannelsAndIntervals_11 : ∃ s : State, s.Sound ∧ s.takesOne ⟨1, 7, 1, 4096, 1, 0⟩ ∧ s.rd F.TIM_CTRL.MODE [1, 7] = 3 :=
  ⟨{ up [(F.TIM_CTRL.MODE, [1, 7], 3)] with timHeld := [⟨1, 7, 1, 4096, 1, 0⟩], now := 10 ^ 6 }, ⟨up_wf [(F.TIM_CTRL.MODE, [1, 7], 3)], by decide, by decide, by decide, by decide, by decide, by decide⟩, takes_one (by decide) (by decide) (by decide), by decide⟩

theorem test_LogicChannelsAndIntervals_12 : ∃ s : State, s.Sound ∧ s.timReady ⟨1, 7, 0, 0, 1, 0⟩ = true ∧ s.timReady ⟨1, 7, 1, 0, 1, 0⟩
    = true ∧ s.rd F.TIM_CTRL.MODE [1, 7] = 0 ∧ (s.timOf 1 7).opened = none ∧ (s.timOf 1 7).lastStart = none ∧ (s.timOf 1 7).lastStop =
    none :=
  ⟨{ up [] with timHeld := [⟨1, 7, 0, 0, 1, 0⟩, ⟨1, 7, 1, 0, 1, 0⟩], now := 10 ^ 6 }, ⟨up_wf [], by decide, by decide, by decide, by decide, by decide, by decide⟩, by decide⟩

theorem test_LogicChannelsAndIntervals_13 : ∃ s : State, s.Sound ∧ s.rd F.TIM_CTRL.EN [1, 7] ≠ 0 ∧ s.rd F.TIM_CTRL.MODE [1, 7] = 2 ∧
    s.dueOn 1 (dtAdd (s.timOf 1 7).gateStart (s.rd F.TIM_GATE.US [1, 7] * 160000)) = true ∧ s.timHeld = [] ∧ (s.timOf 1 7).edges < 2 :=
  ⟨{ up [(F.TIM_CTRL.EN, [1, 7], 1), (F.TIM_CTRL.MODE, [1, 7], 2), (F.TIM_GATE.US, [1, 7], 1)] with dt := 160000 }, ⟨up_wf [(F.TIM_CTRL.EN, [1, 7], 1), (F.TIM_CTRL.MODE, [1, 7], 2), (F.TIM_GATE.US, [1, 7], 1)], by decide, by decide, by decide, by decide, by decide, by decide⟩, by decide⟩

theorem test_LogicChannelsAndIntervals_14 : ∃ s : State, s.Sound ∧ s.hostReach 1 = true ∧ s.rd F.TIM_CUE.ARM [1, 7, 1] ≠ 0 ∧ s.dueOn 1
    (s.rd F.TIM_CUE.TICKS [1, 7, 1]) = true ∧ s.rd F.TIM_STOP_SRC.SRC [1, 7] = 0x50 ∧ s.inputUsed 1 7 1 = true ∧ s.rd F.TIM_CUE.ARM [1,
    7, 0] = 0 :=
  ⟨{ up [(F.TIM_CUE.ARM, [1, 7, 1], 1), (F.TIM_CTRL.EN, [1, 7], 1), (F.TIM_STOP_SRC.SRC, [1, 7], 80)] with dt := 0 }, ⟨up_wf [(F.TIM_CUE.ARM, [1, 7, 1], 1), (F.TIM_CTRL.EN, [1, 7], 1), (F.TIM_STOP_SRC.SRC, [1, 7], 80)], by decide, by decide, by decide, by decide, by decide, by decide⟩, by decide⟩

theorem test_LogicChannelsAndIntervals_15 : ∃ s : State, s.Sound ∧ (s.timOf 1 7).stopping = some (0, 0) ∧ 0 + 128 * 107 ≤ s.now ∧
    s.timHeld = [] ∧ (s.timOf 1 7).fifo.length < 32 ∧ s.rd F.TIM_CTRL.MODE [1, 7] = 3 :=
  ⟨{ up [(F.TIM_CTRL.MODE, [1, 7], 3)] with now := 10 ^ 6, tims := State.reset.tims.set 15 { Tim.idle with stopping := some (0, 0) } }, ⟨up_wf [(F.TIM_CTRL.MODE, [1, 7], 3)], by decide, by decide, by decide, by decide, by decide, by decide⟩, by decide⟩

/-- States and operands that meet the hypotheses of QueuesEventsAndInterrupts. -/
theorem test_QueuesEventsAndInterrupts_1 : ∃ s : State, s.Sound ∧ s.hostReach 1 = true ∧ queueKind 8191 = 6 :=
  ⟨up [], ⟨up_wf [], by decide, by decide, by decide, by decide, by decide, by decide⟩, by decide⟩

theorem test_QueuesEventsAndInterrupts_2 : ∃ s : State, s.Sound ∧ s.hostReach 1 = true ∧ queueKind 7167 ≠ 6 ∧ bitAt 144 4 = true ∧ s.rd
    F.QUE_CFG.ENABLE [1, 7167] = 0 ∧ s.rd F.QUE_STATUS.STATE [1, 7167] = 0 ∧ s.rd F.QUE_BASE.BASE [1, 7167] % 4096 = 0 ∧ 4 ≤ 144 / 32 %
    32 ∧ s.rd F.QUE_WB.ADDR [1, 7167] % 8 = 0 ∧ s.rd F.QUE_IRQ.TARGET [1, 7167] = 0 ∧ s.rd I.bankRetired [1, 7167 / 1024] = 0 :=
  ⟨up [], ⟨up_wf [], by decide, by decide, by decide, by decide, by decide, by decide⟩, by decide⟩

theorem test_QueuesEventsAndInterrupts_3 : ∃ s : State, s.Sound ∧ s.hostReach 1 = true ∧ bitAt 0 4 = false ∧ s.rd F.QUE_CFG.ENABLE [1,
    7167] ≠ 0 ∧ s.rd F.QUE_STATUS.STATE [1, 7167] ≠ 3 ∧ (s.setUses 1 7167 || s.libUses 1 7167 || s.cqUsed 1 7167) = false ∧ s.ringRecs =
    [] :=
  ⟨up [(F.QUE_CFG.ENABLE, [1, 7167], 1), (F.QUE_STATUS.STATE, [1, 7167], 1)], ⟨up_wf [(F.QUE_CFG.ENABLE, [1, 7167], 1), (F.QUE_STATUS.STATE, [1, 7167], 1)], by decide, by decide, by decide, by decide, by decide, by decide⟩, by decide⟩

theorem test_QueuesEventsAndInterrupts_4 : ∃ s : State, s.Sound ∧ s.hostReach 1 = true ∧ queueKind 8063 = 5 ∧ s.rd F.QUE_STATUS.STATE
    [1, 8063] = 1 ∧ 15 % 2 ^ 16 < 2 ^ s.rd F.QUE_CFG.LOG2_SIZE [1, 8063] :=
  ⟨up [(F.QUE_STATUS.STATE, [1, 8063], 1)], ⟨up_wf [(F.QUE_STATUS.STATE, [1, 8063], 1)], by decide, by decide, by decide, by decide, by decide, by decide⟩, by decide⟩

theorem test_QueuesEventsAndInterrupts_5 : ∃ s : State, s.Sound ∧ s.canFill 1 0 = true ∧ queueKind (s.cqOf 1 0) = 1 ∧ s.libOn 1 0 = none
    ∧ s.chunkSet 1 0 = some 0 ∧ (s.acqOf 1 0).buf.closed = chunk_seen :: [] ∧ s.chunkBlocked 1 0 chunk_seen = false ∧ s.misread = [] ∧
    State.descMalformed ⟨0, 65536, 0, 0⟩ (2 ^ s.rd F.STR_CTRL.CHUNK_LOG2 [1, 0]) = false ∧ State.descMalformed ⟨0, 65535, 0, 0⟩ (2 ^
    s.rd F.STR_CTRL.CHUNK_LOG2 [1, 0]) = true :=
  ⟨{ in_mode .quad [(F.QUE_STATUS.STATE, [1, 0], 1), (F.QUE_PTR.TAIL, [1, 0], 1), (F.QUE_CFG.CQ, [1, 0], 6143), (F.QUE_STATUS.STATE, [1, 6143], 1)] with acq := sets 3 { Acq.idle with buf := ⟨0, 0, none, [chunk_seen], 0, false, none⟩ } }, ⟨in_mode_wf .quad [(F.QUE_STATUS.STATE, [1, 0], 1), (F.QUE_PTR.TAIL, [1, 0], 1), (F.QUE_CFG.CQ, [1, 0], 6143), (F.QUE_STATUS.STATE, [1, 6143], 1)], by decide, by decide, by decide, by decide, by decide, by decide⟩, by decide⟩

theorem test_QueuesEventsAndInterrupts_6 : ∃ s : State, s.Sound ∧ queueKind 4095 = 0 ∧ s.rd F.QUE_STATUS.STATE [1, 4095] = 1 ∧ s.rd
    F.SCN_STATUS.RUNNING [1] ≠ 0 ∧ (s.layerOf 1 2).shown = some ⟨0, 0, 4096, 1⟩ :=
  ⟨{ in_mode .quad [(F.SCN_STATUS.RUNNING, [1], 1), (F.QUE_STATUS.STATE, [1, 4095], 1)] with layers := State.reset.layers.set 5 ⟨some ⟨0, 0, 4096, 1⟩, none, none, [], false⟩ }, ⟨in_mode_wf .quad [(F.SCN_STATUS.RUNNING, [1], 1), (F.QUE_STATUS.STATE, [1, 4095], 1)], by decide, by decide, by decide, by decide, by decide, by decide⟩, by decide⟩

theorem test_QueuesEventsAndInterrupts_7 : ∃ s : State, s.Sound ∧ s.hostReach 1 = true ∧ queueKind (s.rd F.EVC_ROUTE.QUEUE [1, 202]) = 2
    ∧ s.rd F.EVC_ROUTE.EN [1, 202] ≠ 0 ∧ s.rd I.levelHeld [1, 202] = 0 ∧ s.rd F.QUE_STATUS.STATE [1, s.rd F.EVC_ROUTE.QUEUE [1, 202]] =
    1 ∧ s.ringFull 1 (s.rd F.EVC_ROUTE.QUEUE [1, 202]) = false :=
  ⟨up [(F.EVC_ROUTE.EN, [1, 202], 1), (F.QUE_STATUS.STATE, [1, 6144], 1)], ⟨up_wf [(F.EVC_ROUTE.EN, [1, 202], 1), (F.QUE_STATUS.STATE, [1, 6144], 1)], by decide, by decide, by decide, by decide, by decide, by decide⟩, by decide⟩

theorem test_QueuesEventsAndInterrupts_8 : ∃ s : State, s.Sound ∧ s.hostReach 1 = true ∧ s.coalDue 1 6144 = true ∧ s.coalLands 1 6144 =
    true ∧ s.rd F.QUE_IRQ.TARGET [1, 6144] = 0 ∧ s.rd F.MSIX.MASKED [1, s.rd F.QUE_IRQ.VECTOR [1, 6144]] ≠ 0 :=
  ⟨{ up [(F.QUE_STATUS.IRQ_STATE, [1, 6144], 1), (I.coalTimed, [1, 6144], 1), (I.coalDeadline, [1, 6144], 1), (F.QUE_IRQ.VECTOR, [1, 6144], 1023)] with dt := 128 }, ⟨up_wf [(F.QUE_STATUS.IRQ_STATE, [1, 6144], 1), (I.coalTimed, [1, 6144], 1), (I.coalDeadline, [1, 6144], 1), (F.QUE_IRQ.VECTOR, [1, 6144], 1023)], by decide, by decide, by decide, by decide, by decide, by decide⟩, by decide⟩

theorem test_QueuesEventsAndInterrupts_9 : ∃ s : State, s.Sound ∧ s.hostReach 1 = true ∧ s.rd I.msixFuncMask [1] = 0 ∧ bitAt (s.rd
    F.MSIX_PBA.PEND [1, 1023 / 32]) (1023 % 32) = true :=
  ⟨up [(F.MSIX_PBA.PEND, [1, 31], 2 ^ 31)], ⟨up_wf [(F.MSIX_PBA.PEND, [1, 31], 2 ^ 31)], by decide, by decide, by decide, by decide, by decide, by decide⟩, by decide⟩

theorem test_QueuesEventsAndInterrupts_10 : ∃ s : State, s.Sound ∧ s.rd I.coreAsleep [3] = 0 ∧ s.rd I.coreWoke [3] = 0 ∧ s.rd
    I.coreLevel [3] ≤ 15 ∧ s.rd I.coreReq [3] = 0 ∧ s.rd I.coreOut [3] = 0 :=
  ⟨{ up [] with coreReqs := [⟨3, 0, 6144⟩, ⟨3, 15, 6145⟩] }, ⟨up_wf [], by decide, by decide, by decide, by decide, by decide, by decide⟩, by decide⟩

theorem test_QueuesEventsAndInterrupts_11 : ∃ s : State, s.Sound ∧ s.rd I.coreReq [3] ≠ 0 ∧ s.now < s.rd I.coreAt [3] + 128 * 11 :=
  ⟨{ up [(I.coreReq, [3], 1)] with coreReqs := [⟨3, 0, 6144⟩, ⟨3, 15, 6145⟩] }, ⟨up_wf [(I.coreReq, [3], 1)], by decide, by decide, by decide, by decide, by decide, by decide⟩, by decide⟩

theorem test_QueuesEventsAndInterrupts_12 : ∃ s : State, s.Sound ∧ s.rd I.coreDepth [3] ≠ 0 ∧ s.rd I.coreDepth [3] < 2 ^ 8 ∧ s.rd
    I.coreStack [3, s.rd I.coreDepth [3] - 1] ≤ 15 :=
  ⟨{ up [(I.coreDepth, [3], 1)] with coreReqs := [⟨3, 15, 6144⟩] }, ⟨up_wf [(I.coreDepth, [3], 1)], by decide, by decide, by decide, by decide, by decide, by decide⟩, by decide⟩

theorem test_QueuesEventsAndInterrupts_13 : ∃ s : State, s.Sound ∧ s.hostReach 1 = true ∧ s.rd F.MBX_URG_STATUS.BUSY [1] = 0 ∧ bitAt 1 0
    = true :=
  ⟨up [], ⟨up_wf [], by decide, by decide, by decide, by decide, by decide, by decide⟩, by decide⟩

theorem test_QueuesEventsAndInterrupts_14 : ∃ s : State, s.Sound ∧ s.hostReach 1 = true ∧ s.rd F.MBX_URG_STATUS.BUSY [1] ≠ 0 ∧
    (s.taken.find? fun y => y.die == 1 && y.src == .urgent) = some ⟨1, .urgent, 5, 0, 0, 0, 0, false⟩ ∧ s.elapsed 0 2500000 = true ∧
    s.elapsesNow 0 2500000 = true :=
  ⟨{ asked [] with taken := [⟨1, .urgent, 5, 0, 0, 0, 0, false⟩], now := 320000000 }, ⟨asked_wf [], by decide, by decide, by decide, by decide, by decide, by decide⟩, by decide⟩

theorem test_QueuesEventsAndInterrupts_15 : ∃ s : State, s.Sound ∧ (s.outstanding.find? fun o => o.die == 1 && o.tag == 5 &&
    !o.converted && !o.deferred) = some ⟨1, .urgent, 5, 0x0E02, false, false, false, 0, none⟩ :=
  ⟨{ up [] with outstanding := [⟨1, .urgent, 5, 0x0E02, false, false, false, 0, none⟩] }, ⟨up_wf [], by decide, by decide, by decide, by decide, by decide, by decide⟩, by decide⟩

theorem test_QueuesEventsAndInterrupts_16 : ∃ s : State, s.Sound ∧ (s.deliveries.find? fun x => x.die == 1 && !x.running) = some ⟨1, 2,
    1, 5, 0x0701, 0, false, 0, [], 0, 0, 0⟩ ∧ s.libRunning 1 < 4 :=
  ⟨{ up [] with deliveries := [⟨1, 2, 1, 5, 0x0701, 0, false, 0, [], 0, 0, 0⟩] }, ⟨up_wf [], by decide, by decide, by decide, by decide, by decide, by decide⟩, by decide⟩

theorem test_QueuesEventsAndInterrupts_17 : ∃ s : State, s.Sound ∧ s.canTake ask = true :=
  ⟨asked [], ⟨asked_wf [], by decide, by decide, by decide, by decide, by decide, by decide⟩, by decide⟩

/-- States and operands that meet the hypotheses of MailboxAccumulateDisplayLogic. -/
theorem test_MailboxAccumulateDisplayLogic_1 : ∃ s : State, s.Sound ∧ s.takesNow ask ∧ s.dieRetired (3 / 2) = false ∧ State.imageOk
    .ACC_CTRL 15 = true ∧ State.imageOk .ACC_AVG_COUNT 16 = true ∧ State.imageOk .ACC_AVG_LEN 1024 = true ∧ s.rd F.ACC_STATUS.STATE [3 /
    2, 3 % 2] = 0 :=
  ⟨asked [], ⟨asked_wf [], by decide, by decide, by decide, by decide, by decide, by decide⟩, by unfold State.takesNow State.takesFresh; decide⟩

theorem test_MailboxAccumulateDisplayLogic_2 : ∃ s : State, s.Sound ∧ s.takesNow ask ∧ s.dieRetired (3 / 2) = false ∧ s.rd
    F.ACC_STATUS.STATE [3 / 2, 3 % 2] ≠ 0 ∧ 1 % 2 ≠ s.rd F.ACC_CTRL.AVG_EN [3 / 2, 3 % 2] :=
  ⟨asked [(F.ACC_STATUS.STATE, [1, 1], 1)], ⟨asked_wf [(F.ACC_STATUS.STATE, [1, 1], 1)], by decide, by decide, by decide, by decide, by decide, by decide⟩, by unfold State.takesNow State.takesFresh; decide⟩

theorem test_MailboxAccumulateDisplayLogic_3 : ∃ s : State, s.Sound ∧ s.takesNow ask ∧ State.imageOk .ACC_HIST_Y 4227072 = true ∧
    State.imageOk .ACC_DECAY 65536 = true ∧ State.imageOk .ACC_FRAME_PERIOD 16667 = true ∧ State.imageOk .ACC_EXCL 0 = true :=
  ⟨asked [], ⟨asked_wf [], by decide, by decide, by decide, by decide, by decide, by decide⟩, by unfold State.takesNow State.takesFresh; decide⟩

theorem test_MailboxAccumulateDisplayLogic_4 : ∃ s : State, s.Sound ∧ s.takesNow ask ∧ s.accCheck 1 1 ≠ 0 ∧ s.accCheck 1 1 ≠ 1 ∧
    s.accCheck 1 1 ≠ 2 :=
  ⟨asked [], ⟨asked_wf [], by decide, by decide, by decide, by decide, by decide, by decide⟩, by unfold State.takesNow State.takesFresh; decide⟩

theorem test_MailboxAccumulateDisplayLogic_5 : ∃ s : State, s.Sound ∧ s.takesNow ask ∧ s.hasRoom ask.die ∧ s.rd F.ACC_STATUS.STATE [1,
    1] = 2 ∧ 64 + 2 * s.rd F.ACC_AVG_LEN.LEN [1, 1] ≤ 2112 :=
  ⟨asked [(F.ACC_STATUS.STATE, [1, 1], 2)], ⟨asked_wf [(F.ACC_STATUS.STATE, [1, 1], 2)], by decide, by decide, by decide, by decide, by decide, by decide⟩, by unfold State.takesNow State.takesFresh State.hasRoom; decide⟩

theorem test_MailboxAccumulateDisplayLogic_6 : ∃ s : State, s.Sound ∧ s.takesNow ask ∧ (s.pool.find? fun p => p.die == ask.die && p.off
    == 0) = some ⟨1, 0, 65536, false⟩ ∧ s.poolShown ⟨1, 0, 65536, false⟩ = false ∧ s.poolLeaving ⟨1, 0, 65536, false⟩ = false :=
  ⟨{ asked [] with pool := [⟨1, 0, 65536, false⟩] }, ⟨asked_wf [], by decide, by decide, by decide, by decide, by decide, by decide⟩, by unfold State.takesNow State.takesFresh; decide⟩

theorem test_MailboxAccumulateDisplayLogic_7 : ∃ s : State, s.Sound ∧ s.takesNow ask ∧ (s.pool.find? fun p => p.die == ask.die && p.off
    == 65536) = none :=
  ⟨{ asked [] with pool := [⟨1, 0, 134217728, false⟩] }, ⟨asked_wf [], by decide, by decide, by decide, by decide, by decide, by decide⟩, by unfold State.takesNow State.takesFresh; decide⟩

theorem test_MailboxAccumulateDisplayLogic_8 : ∃ s : State, s.Sound ∧ s.takesNow ask ∧ s.rd F.SCN_STATUS.HPD [ask.die] ≠ 0 ∧ s.rd
    F.SCN_STATUS.LINK [ask.die] ≠ 3 ∧ s.hasRoom ask.die :=
  ⟨asked [(F.SCN_STATUS.HPD, [1], 1)], ⟨asked_wf [(F.SCN_STATUS.HPD, [1], 1)], by decide, by decide, by decide, by decide, by decide, by decide⟩, by unfold State.takesNow State.takesFresh State.hasRoom; decide⟩

theorem test_MailboxAccumulateDisplayLogic_9 : ∃ s : State, s.Sound ∧ s.takesNow ask ∧ State.imageOk .LGC_CH_CFG 81921 = true ∧ sval 11
    (81921 / 2 % 2 ^ 11) ≤ 600 ∧ 81921 / 2 ^ 12 % 2 ^ 7 ≤ 100 ∧ s.lgcInUse ask.die 15 = false ∧ State.imageOk .LGC_CTRL 65535 = true :=
  ⟨asked [], ⟨asked_wf [], by decide, by decide, by decide, by decide, by decide, by decide⟩, by unfold State.takesNow State.takesFresh; decide⟩

theorem test_MailboxAccumulateDisplayLogic_10 : ∃ s : State, s.Sound ∧ s.takesNow ask ∧ bitAt 2 0 = false ∧ State.imageOk .TIM_CTRL 2 =
    true ∧ State.imageOk .TIM_START_SRC 16 = true ∧ State.imageOk .TIM_STOP_SRC 17 = true ∧ State.imageOk .TIM_GATE 1000 = true ∧
    State.imageOk .TIM_N 1 = true ∧ s.rd F.TIM_CTRL.EN [ask.die, 7] = 0 :=
  ⟨asked [], ⟨asked_wf [], by decide, by decide, by decide, by decide, by decide, by decide⟩, by unfold State.takesNow State.takesFresh; decide⟩

theorem test_MailboxAccumulateDisplayLogic_11 : ∃ s : State, s.Sound ∧ s.takesNow ask ∧ s.rd F.TIM_CTRL.EN [1, 7] = 0 ∧ s.timCheck 1 7 =
    0 ∧ s.rd F.PWR_STATUS.THERMAL [1] = 0 ∧ s.fits [1] (s.cost 9) 0 = true :=
  ⟨asked [(F.TIM_STOP_SRC.SRC, [1, 7], 17), (F.HVS_SHARE.VALUE, [1, 0], 100000), (F.HVS_SHARE.VALUE, [1, 1], 100000)], ⟨asked_wf [(F.TIM_STOP_SRC.SRC, [1, 7], 17), (F.HVS_SHARE.VALUE, [1, 0], 100000), (F.HVS_SHARE.VALUE, [1, 1], 100000)], by decide, by decide, by decide, by decide, by decide, by decide⟩, by unfold State.takesNow State.takesFresh; decide⟩

theorem test_MailboxAccumulateDisplayLogic_12 : ∃ s : State, s.Sound ∧ s.takesNow ask ∧ State.imageOk .CMP_CTRL 1 = true ∧ State.imageOk
    .CMP_THRESH 4096 = true ∧ State.imageOk .CMP_BLANK 1 = true ∧ s.cmpSelRejected ask.die 11 (1 / 2 ^ 10 % 16) = false :=
  ⟨asked [], ⟨asked_wf [], by decide, by decide, by decide, by decide, by decide, by decide⟩, by unfold State.takesNow State.takesFresh; decide⟩

theorem test_MailboxAccumulateDisplayLogic_13 : ∃ s : State, s.Sound ∧ s.takesNow ask ∧ s.mode.acquires = true ∧ s.rd
    F.CNV_STATUS.AVAILABLE [1, 1] ≠ 0 ∧ ¬(s.paired = true ∧ 1 = 1) ∧ s.rd I.engRetired [1, 1] = 0 ∧ s.rd F.ACC_CTRL.FREEZE [1, 1] = 0 :=
  ⟨asked [(F.CNV_STATUS.AVAILABLE, [1, 1], 1)], ⟨asked_wf [(F.CNV_STATUS.AVAILABLE, [1, 1], 1)], by decide, by decide, by decide, by decide, by decide, by decide⟩, by unfold State.takesNow State.takesFresh; decide⟩

theorem test_MailboxAccumulateDisplayLogic_14 : ∃ s : State, s.Sound ∧ s.takesNow ask ∧ s.rd F.ACC_STATUS.STATE [1, 1] ≠ 0 ∧ (s.accOf 1
    1).commit = none ∧ s.rd F.BOB_RETIRED.POOL [ask.die] ≠ 0 ∧ s.rd F.ACC_CTRL.FREEZE [1, 1] ≠ 0 :=
  ⟨asked [(F.ACC_STATUS.STATE, [1, 1], 1), (F.BOB_RETIRED.POOL, [1], 1), (F.ACC_CTRL.FREEZE, [1, 1], 1)], ⟨asked_wf [(F.ACC_STATUS.STATE, [1, 1], 1), (F.BOB_RETIRED.POOL, [1], 1), (F.ACC_CTRL.FREEZE, [1, 1], 1)], by decide, by decide, by decide, by decide, by decide, by decide⟩, by unfold State.takesNow State.takesFresh; decide⟩

/-- States and operands that meet the hypotheses of MailboxEnergyEnduranceSkeinFirmware. -/
theorem test_MailboxEnergyEnduranceSkeinFirmware_1 : ∃ s : State, s.Sound ∧ s.takesNow ask ∧ (2 ≤ 2 ∧ 3000 ≤ 3000 ∧ 165000 ≤ 165000) ∧
    ¬(2999 ≥ 3000) :=
  ⟨asked [], ⟨asked_wf [], by decide, by decide, by decide, by decide, by decide, by decide⟩, by unfold State.takesNow State.takesFresh; decide⟩

theorem test_MailboxEnergyEnduranceSkeinFirmware_2 : ∃ s : State, s.Sound ∧ s.takesNow ask ∧ s.hasRoom ask.die ∧ s.rtCheck 0 ≠ 0 ∧
    s.rtCheck 0 ≠ 2 :=
  ⟨asked [(F.HVS_SHARE.VALUE, [1, 1], 100000)], ⟨asked_wf [(F.HVS_SHARE.VALUE, [1, 1], 100000)], by decide, by decide, by decide, by decide, by decide, by decide⟩, by unfold State.takesNow State.takesFresh State.hasRoom; decide⟩

theorem test_MailboxEnergyEnduranceSkeinFirmware_3 : ∃ s : State, s.Sound ∧ s.takesNow ask ∧ State.imageOk .SKN_CTRL 1 = true ∧
    State.imageOk .SKN_TRIG_SEL 1 = true ∧ State.imageOk .SKN_GSEQ_CTRL 1 = true ∧ State.imageOk .SKN_GSEQ_HOLDOFF 1 = true ∧
    s.skSetsArmed = false ∧ s.anyArmed = false ∧ s.rd F.SKN_GSEQ_CTRL.RUN [] = 0 ∧ 1 % 4 ≠ 3 ∧ bitAt 1 4 = false :=
  ⟨asked [], ⟨asked_wf [], by decide, by decide, by decide, by decide, by decide, by decide⟩, by unfold State.takesNow State.takesFresh; decide⟩

theorem test_MailboxEnergyEnduranceSkeinFirmware_4 : ∃ s : State, s.Sound ∧ s.takesNow ask ∧ s.hasRoom ask.die ∧ s.rd
    F.SKN_PORT_STATUS.STATE [4] = 3 ∧ s.rd F.SKN_PORT_STATUS.STATE [1] = 0 :=
  ⟨asked [(F.SKN_PORT_STATUS.STATE, [4], 3)], ⟨asked_wf [(F.SKN_PORT_STATUS.STATE, [4], 3)], by decide, by decide, by decide, by decide, by decide, by decide⟩, by unfold State.takesNow State.takesFresh State.hasRoom; decide⟩

theorem test_MailboxEnergyEnduranceSkeinFirmware_5 : ∃ s : State, s.Sound ∧ s.takesNow ask ∧ s.hasRoom ask.die ∧ 0x800000 < 1 + 0x800000
    ∧ 0 + 0x800000 ≤ 0x800000 :=
  ⟨asked [], ⟨asked_wf [], by decide, by decide, by decide, by decide, by decide, by decide⟩, by unfold State.takesNow State.takesFresh State.hasRoom; decide⟩

theorem test_MailboxEnergyEnduranceSkeinFirmware_6 : ∃ s : State, s.Sound ∧ s.takesNow ask ∧ 1 ≠ s.rd F.BOOT_STATUS.IMAGE [] ∧ s.rd (if
    1 = 0 then F.BOOT_STATUS.A_STATE else F.BOOT_STATUS.B_STATE) [] = 1 :=
  ⟨asked [(F.BOOT_STATUS.B_STATE, [], 1)], ⟨asked_wf [(F.BOOT_STATUS.B_STATE, [], 1)], by decide, by decide, by decide, by decide, by decide, by decide⟩, by unfold State.takesNow State.takesFresh; decide⟩

theorem test_MailboxEnergyEnduranceSkeinFirmware_7 : ∃ s : State, s.Sound ∧ s.takesNow ask ∧ 1 ≠ s.rd F.BOOT_STATUS.IMAGE [] ∧ ¬(s.rd
    (if 1 = 0 then F.BOOT_STATUS.A_STATE else F.BOOT_STATUS.B_STATE) [] = 1) :=
  ⟨asked [], ⟨asked_wf [], by decide, by decide, by decide, by decide, by decide, by decide⟩, by unfold State.takesNow State.takesFresh; decide⟩

/-- States and operands that meet the hypotheses of MailboxConditioningAndTrigger. -/
theorem test_MailboxConditioningAndTrigger_1 : ∃ s : State, s.Sound ∧ s.takesNow ask ∧ s.dieRetired (3 / 2) = false ∧ State.imageOk
    .EQ_CTRL 3 = true ∧ s.armed 1 1 = false ∧ s.firRunning 1 1 = false :=
  ⟨asked [], ⟨asked_wf [], by decide, by decide, by decide, by decide, by decide, by decide⟩, by unfold State.takesNow State.takesFresh; decide⟩

theorem test_MailboxConditioningAndTrigger_2 : ∃ s : State, s.Sound ∧ s.takesNow ask ∧ s.armed 1 1 = true ∧ s.rd F.EQ_CTRL.BANK [1, 1] ≠
    3 % 2 ∧ s.rd F.EQ_STATUS.ACTIVE_BANK [1, 1] = 0 ∧ 1 % 4 ≠ s.rd F.DEC_CTRL.MODE [1, 1] ∧ 1 % 2 ≠ s.rd F.RSM_CTRL.ENABLE [1, 1] :=
  ⟨asked [(F.ACQ_STATUS.STATE, [1, 1], 1)], ⟨asked_wf [(F.ACQ_STATUS.STATE, [1, 1], 1)], by decide, by decide, by decide, by decide, by decide, by decide⟩, by unfold State.takesNow State.takesFresh; decide⟩

theorem test_MailboxConditioningAndTrigger_3 : ∃ s : State, s.Sound ∧ s.takesNow ask ∧ s.firRunning 1 1 = true ∧ s.rd
    F.FIR_STATUS.FADING [1, 1] ≠ 0 ∧ s.fadeBusy 1 1 = true ∧ s.inert 1 = false :=
  ⟨asked [(F.DEC_CTRL.MODE, [1, 1], 3), (F.DEC_RATIO.RATIO, [1, 1], 8), (F.FIR_STATUS.FADING, [1, 1], 1)], ⟨asked_wf [(F.DEC_CTRL.MODE, [1, 1], 3), (F.DEC_RATIO.RATIO, [1, 1], 8), (F.FIR_STATUS.FADING, [1, 1], 1)], by decide, by decide, by decide, by decide, by decide, by decide⟩, by unfold State.takesNow State.takesFresh; decide⟩

theorem test_MailboxConditioningAndTrigger_4 : ∃ s : State, s.Sound ∧ s.takesNow ask ∧ bitAt 1 5 = false ∧ bitAt 33 5 = true ∧
    State.imageOk .DEC_CTRL 1 = true ∧ State.imageOk .DEC_RATIO 1 = true ∧ State.imageOk .FIR_CTRL 1 = true ∧ s.fadeBusy 1 1 = false ∧ 1
    ≠ s.rd F.FIR_STATUS.ACTIVE [1, 1] ∧ s.firRunning 1 1 = false ∧ State.imageOk .RSM_CTRL 1 = true :=
  ⟨asked [], ⟨asked_wf [], by decide, by decide, by decide, by decide, by decide, by decide⟩, by unfold State.takesNow State.takesFresh; decide⟩

theorem test_MailboxConditioningAndTrigger_5 : ∃ s : State, s.Sound ∧ s.takesNow ask ∧ State.imageOk .TRG_LEVEL 16777215 = true ∧
    State.imageOk .TRG_TERM_CFG 1 = true ∧ State.imageOk .TRG_PAT_ANA 0 = true ∧ State.imageOk .TRG_PAT_LOG 0 = true ∧ s.seqArmed
    ask.die 0 = false ∧ s.seqArmed ask.die 1 = false :=
  ⟨asked [], ⟨asked_wf [], by decide, by decide, by decide, by decide, by decide, by decide⟩, by unfold State.takesNow State.takesFresh; decide⟩

theorem test_MailboxConditioningAndTrigger_6 : ∃ s : State, s.Sound ∧ s.takesNow ask ∧ s.seqArmed ask.die 1 = true ∧ bitAt (s.seqUsed
    ask.die 1) 11 = true ∧ s.seqArmed 1 (s.seqOf 1 1) = true ∧ s.anySeqArmed = true :=
  ⟨asked [(F.ACQ_STATUS.STATE, [1, 1], 1), (F.SEQ_STATE.ADV_MASK, [1, 1, 0], 2048)], ⟨asked_wf [(F.ACQ_STATUS.STATE, [1, 1], 1), (F.SEQ_STATE.ADV_MASK, [1, 1, 0], 2048)], by decide, by decide, by decide, by decide, by decide, by decide⟩, by unfold State.takesNow State.takesFresh; decide⟩

theorem test_MailboxConditioningAndTrigger_7 : ∃ s : State, s.Sound ∧ s.takesNow ask ∧ State.imageOk .TRG_SEQ_CTRL 1 = true ∧ s.seqArmed
    ask.die 1 = false ∧ s.seqArmed 1 (s.seqOf 1 1) = false ∧ State.imageOk .TRG_CH_CFG 1 = true ∧ State.imageOk .TRG_CTRL 1 = true ∧
    s.anySeqArmed = false :=
  ⟨asked [], ⟨asked_wf [], by decide, by decide, by decide, by decide, by decide, by decide⟩, by unfold State.takesNow State.takesFresh; decide⟩

theorem test_MailboxConditioningAndTrigger_8 : ∃ s : State, s.Sound ∧ s.takesNow ask ∧ s.rd F.TRG_SEQ_STATUS.PHASE [ask.die, 1] = 1 ∧
    s.closing = false ∧ s.mode.acquires = true ∧ s.rd F.TRG_SEQ_STATUS.PHASE [ask.die, 0] = 0 :=
  ⟨asked [(F.TRG_SEQ_STATUS.PHASE, [1, 1], 1), (F.TRG_SEQ_CTRL.AUTO_EN, [1, 1], 0)], ⟨asked_wf [(F.TRG_SEQ_STATUS.PHASE, [1, 1], 1), (F.TRG_SEQ_CTRL.AUTO_EN, [1, 1], 0)], by decide, by decide, by decide, by decide, by decide, by decide⟩, by unfold State.takesNow State.takesFresh; decide⟩

theorem test_MailboxConditioningAndTrigger_9 : ∃ s : State, s.Sound ∧ s.takesNow ask ∧ s.rd F.TRG_SEQ_STATUS.PHASE [ask.die, 1] = 1 ∧
    s.closing = true ∧ s.rd F.TRG_SEQ_STATUS.PHASE [ask.die, 0] = 0 :=
  ⟨{ asked [(F.TRG_SEQ_STATUS.PHASE, [1, 1], 1), (F.TRG_SEQ_CTRL.AUTO_EN, [1, 1], 0)] with closing := true }, ⟨asked_wf [(F.TRG_SEQ_STATUS.PHASE, [1, 1], 1), (F.TRG_SEQ_CTRL.AUTO_EN, [1, 1], 0)], by decide, by decide, by decide, by decide, by decide, by decide⟩, by unfold State.takesNow State.takesFresh; decide⟩

/-- States and operands that meet the hypotheses of MailboxAcquisitionAndLibrary. -/
theorem test_MailboxAcquisitionAndLibrary_1 : ∃ s : State, s.Sound ∧ s.takesNow ask ∧ State.setIndex 3 = some 1 ∧ s.dieRetired (3 / 2) =
    false ∧ s.armed 1 1 = false ∧ State.imageOk .STR_CTRL (22 + 32 * 90) = true :=
  ⟨asked [], ⟨asked_wf [], by decide, by decide, by decide, by decide, by decide, by decide⟩, by unfold State.takesNow State.takesFresh; decide⟩

theorem test_MailboxAcquisitionAndLibrary_2 : ∃ s : State, s.Sound ∧ s.takesNow ask ∧ State.setIndex 16 = some 2 ∧ s.armed ask.die 2 =
    true ∧ s.rd F.ACQ_STATUS.STATE [1, 2] ≠ 0 ∧ (s.acqOf 1 2).stopAt = none ∧ s.armCheck 1 2 ≠ 0 ∧ s.armCheck 1 2 ≠ 2 :=
  ⟨asked [(F.ACQ_STATUS.STATE, [1, 2], 1)], ⟨asked_wf [(F.ACQ_STATUS.STATE, [1, 2], 1)], by decide, by decide, by decide, by decide, by decide, by decide⟩, by unfold State.takesNow State.takesFresh; decide⟩

theorem test_MailboxAcquisitionAndLibrary_3 : ∃ s : State, s.Sound ∧ s.takesNow ask ∧ State.setIndex 3 = some 1 ∧ s.armCheck 1 1 = 0 ∧
    s.rd F.PWR_STATUS.THERMAL [1] = 0 ∧ s.fits [1] (s.armPower 1 1) 0 = true :=
  ⟨armable, ⟨armable_wf, by decide, by decide, by decide, by decide, by decide, by decide⟩, by unfold State.takesNow State.takesFresh; decide⟩

theorem test_MailboxAcquisitionAndLibrary_4 : ∃ s : State, s.Sound ∧ s.takesNow ask ∧ s.hasRoom ask.die ∧ State.setIndex 3 = some 1 ∧
    s.rd I.libArmed [1, 1] ≠ 0 ∧ ((s.libOf 1 1).find? fun e => e.recd.seq == 0) = some ⟨1, 1, rec_seen, 0, 0, 0⟩ ∧ s.libRing 1 0 = 0 ∧
    s.libRing 1 4096 ≠ 0 ∧ s.libRing 1 4096 ≠ 1 ∧ s.libRing 1 4096 ≠ 2 ∧ ((s.libOf 1 1).find? fun e => e.recd.seq == 1) = none :=
  ⟨{ asked [(I.libArmed, [1, 1], 1)] with library := [⟨1, 1, rec_seen, 0, 0, 0⟩] }, ⟨asked_wf [(I.libArmed, [1, 1], 1)], by decide, by decide, by decide, by decide, by decide, by decide⟩, by unfold State.takesNow State.takesFresh State.hasRoom; decide⟩

theorem test_MailboxAcquisitionAndLibrary_5 : ∃ s : State, s.Sound ∧ s.takesNow ask ∧ s.hasRoom ask.die ∧ State.setIndex 3 = some 1 ∧
    s.rd I.libArmed [1, 1] = 0 :=
  ⟨asked [], ⟨asked_wf [], by decide, by decide, by decide, by decide, by decide, by decide⟩, by unfold State.takesNow State.takesFresh State.hasRoom; decide⟩

/-- States and operands that meet the hypotheses of MailboxSystemAndTime. -/
theorem test_MailboxSystemAndTime_1 : ∃ s : State, s.Sound ∧ s.takesFresh ask ∧ (s.outstanding.filter fun o => o.die == ask.die && o.tag
    == 0) = [] ∧ (s.kept.filter fun k => k.die == ask.die && k.tag == 0).getLast? = none :=
  ⟨asked [], ⟨asked_wf [], by decide, by decide, by decide, by decide, by decide, by decide⟩, by unfold State.takesFresh; decide⟩

theorem test_MailboxSystemAndTime_2 : ∃ s : State, s.Sound ∧ s.takesFresh ask ∧ (s.kept.filter fun k => k.die == ask.die && k.tag ==
    0).getLast? = some ⟨1, 0, 0x0211, []⟩ :=
  ⟨{ asked [] with kept := [⟨1, 0, 0x0211, []⟩] }, ⟨asked_wf [], by decide, by decide, by decide, by decide, by decide, by decide⟩, by unfold State.takesFresh; decide⟩

theorem test_MailboxSystemAndTime_3 : ∃ s : State, s.Sound ∧ s.takesFresh ask ∧ (s.outstanding.filter fun o => o.die == ask.die && o.tag
    == 0) ≠ [] :=
  ⟨{ asked [] with outstanding := [⟨1, .urgent, 0, 0x0302, false, false, false, 3, none⟩] }, ⟨asked_wf [], by decide, by decide, by decide, by decide, by decide, by decide⟩, by unfold State.takesFresh; decide⟩

theorem test_MailboxSystemAndTime_4 : ∃ s : State, s.Sound ∧ s.takesFresh ask ∧ s.rd F.QUE_STATUS.STATE [ask.die, 8063] = 3 ∧ ask.src ≠
    .ring (8063 - 7936) :=
  ⟨asked [(F.QUE_STATUS.STATE, [1, 8063], 3)], ⟨asked_wf [(F.QUE_STATUS.STATE, [1, 8063], 3)], by decide, by decide, by decide, by decide, by decide, by decide⟩, by unfold State.takesFresh; decide⟩

theorem test_MailboxSystemAndTime_5 : ∃ s : State, s.Sound ∧ s.takesFresh ask ∧ s.mode ≠ .service ∧ s.modeCheck .quad ≠ 0 :=
  ⟨asked [], ⟨asked_wf [], by decide, by decide, by decide, by decide, by decide, by decide⟩, by unfold State.takesFresh; decide⟩

theorem test_MailboxSystemAndTime_6 : ∃ s : State, s.Sound ∧ s.takesFresh ask ∧ s.mode ≠ .service ∧ s.modeCheck .vigil = 0 ∧ s.hasRoom
    ask.die ∧ s.rd F.PWR_STATUS.THERMAL [s.control] = 0 ∧ s.fits [0, 1] (s.modePower .vigil) 0 = true :=
  ⟨{ asked [(F.CNV_STATUS.AVAILABLE, [0, 0], 1), (F.CNV_STATUS.AVAILABLE, [0, 1], 1), (F.CNV_STATUS.AVAILABLE, [1, 0], 1), (F.CNV_STATUS.AVAILABLE, [1, 1], 1), (F.SYN_STATUS.LOCK, [0], 1), (F.SYN_STATUS.LOCK, [1], 1)] with mode := .ready }, ⟨asked_wf [(F.CNV_STATUS.AVAILABLE, [0, 0], 1), (F.CNV_STATUS.AVAILABLE, [0, 1], 1), (F.CNV_STATUS.AVAILABLE, [1, 0], 1), (F.CNV_STATUS.AVAILABLE, [1, 1], 1), (F.SYN_STATUS.LOCK, [0], 1), (F.SYN_STATUS.LOCK, [1], 1)], by decide, by decide, by decide, by decide, by decide, by decide⟩, by unfold State.takesFresh State.hasRoom; decide⟩

theorem test_MailboxSystemAndTime_7 : ∃ s : State, s.Sound ∧ s.takesNow ask ∧ s.rd F.CRD_COMB_STATUS.STATE [1, 1] = 0 ∧
    (s.outstanding.find? fun o => o.die == ask.die && o.tag == 0) = some ⟨1, .urgent, 0, 0x0302, false, false, false, 3, none⟩ :=
  ⟨{ asked [] with outstanding := [⟨1, .urgent, 0, 0x0302, false, false, false, 3, none⟩], taken := [] }, ⟨asked_wf [], by decide, by decide, by decide, by decide, by decide, by decide⟩, by unfold State.takesNow State.takesFresh; decide⟩

theorem test_MailboxSystemAndTime_8 : ∃ s : State, s.Sound ∧ s.takesNow ask ∧ s.rd F.CRD_COMB_STATUS.STATE [3 / 2, 3 % 2] = 1 ∧ s.rd
    I.combEnding [3 / 2, 3 % 2] = 0 :=
  ⟨{ asked [(F.CRD_COMB_STATUS.STATE, [1, 1], 1)] with outstanding := [⟨1, .urgent, 0, 0x0302, false, false, false, 3, none⟩] }, ⟨asked_wf [(F.CRD_COMB_STATUS.STATE, [1, 1], 1)], by decide, by decide, by decide, by decide, by decide, by decide⟩, by unfold State.takesNow State.takesFresh; decide⟩

theorem test_MailboxSystemAndTime_9 : ∃ s : State, s.Sound ∧ s.takesNow ask ∧ (s.outstanding.find? fun o => o.die == ask.die && o.tag ==
    0) = some ⟨1, .urgent, 0, 0x0806, false, false, true, 0, none⟩ :=
  ⟨{ asked [] with outstanding := [⟨1, .urgent, 0, 0x0806, false, false, true, 0, none⟩] }, ⟨asked_wf [], by decide, by decide, by decide, by decide, by decide, by decide⟩, by unfold State.takesNow State.takesFresh; decide⟩

theorem test_MailboxSystemAndTime_10 : ∃ s : State, s.Sound ∧ s.takesNow ask ∧ (s.deliveries.find? fun x => x.cmdDie == ask.die && x.tag
    == 0 && x.opcode == 0x0701) = some ⟨1, 2, 1, 0, 0x0701, 0, false, 0, [], 0, 0, 0⟩ :=
  ⟨{ asked [] with outstanding := [⟨1, .urgent, 0, 0x0701, false, false, false, 0, none⟩], deliveries := [⟨1, 2, 1, 0, 0x0701, 0, false, 0, [], 0, 0, 0⟩] }, ⟨asked_wf [], by decide, by decide, by decide, by decide, by decide, by decide⟩, by unfold State.takesNow State.takesFresh; decide⟩

theorem test_MailboxSystemAndTime_11 : ∃ s : State, s.Sound ∧ s.takesNow ask ∧ s.refState = 3 ∧ s.rd F.XTO_STATUS.HOLD_WAIT [] = 1 :=
  ⟨asked [(F.XTO_STATUS.REF_STATE, [], 3), (F.XTO_STATUS.HOLD_WAIT, [], 1)], ⟨asked_wf [(F.XTO_STATUS.REF_STATE, [], 3), (F.XTO_STATUS.HOLD_WAIT, [], 1)], by decide, by decide, by decide, by decide, by decide, by decide⟩, by unfold State.takesNow State.takesFresh; decide⟩

theorem test_MailboxSystemAndTime_12 : ∃ s : State, s.Sound ∧ s.takesNow ask ∧ 7 % 8 / 2 ≠ 0 ∧ 9 % 8 / 2 = 0 ∧ State.imageOk .SYN_CTRL 9
    = true ∧ s.dieArmed ask.die = false ∧ s.fractional ask.die = false ∧ s.refState ≠ 3 :=
  ⟨asked [], ⟨asked_wf [], by decide, by decide, by decide, by decide, by decide, by decide⟩, by unfold State.takesNow State.takesFresh; decide⟩

theorem test_MailboxSystemAndTime_13 : ∃ s : State, s.Sound ∧ s.takesNow ask ∧ s.rd F.CUE.STATE [ask.die, 255] = 1 ∧ s.cueDue ask.die
    255 = false ∧ s.rd F.CUE.STATE [ask.die, 0] ≠ 1 :=
  ⟨asked [(F.CUE.STATE, [1, 255], 1), (F.CUE.DT_TICKS, [1, 255], 128)], ⟨asked_wf [(F.CUE.STATE, [1, 255], 1), (F.CUE.DT_TICKS, [1, 255], 128)], by decide, by decide, by decide, by decide, by decide, by decide⟩, by unfold State.takesNow State.takesFresh; decide⟩

theorem test_MailboxSystemAndTime_14 : ∃ s : State, s.Sound ∧ s.takesFresh ask ∧ lateCommand (.storeWrite ask) = some (ask, 0x0303) ∧
    s.closing = true :=
  ⟨{ asked [] with closing := true }, ⟨asked_wf [], by decide, by decide, by decide, by decide, by decide, by decide⟩, by unfold State.takesFresh; decide⟩

/-- States and operands that meet the hypotheses of MailboxConvertersAndCalibration. -/
theorem test_MailboxConvertersAndCalibration_1 : ∃ s : State, s.Sound ∧ s.takesNow ask ∧ s.dieRetired (3 / 2) = false ∧ s.armed 1 1 =
    false ∧ 7 ≠ s.rd F.CNV_CTRL.ATTEN [1, 1] ∧ s.mode ≠ .paired :=
  ⟨asked [], ⟨asked_wf [], by decide, by decide, by decide, by decide, by decide, by decide⟩, by unfold State.takesNow State.takesFresh; decide⟩

theorem test_MailboxConvertersAndCalibration_2 : ∃ s : State, s.Sound ∧ s.takesNow ask ∧ s.armed 1 1 = true ∧ 7 ≠ s.rd F.CNV_CTRL.ATTEN
    [1, 1] ∧ s.mode ≠ .paired :=
  ⟨asked [(F.ACQ_STATUS.STATE, [1, 1], 1)], ⟨asked_wf [(F.ACQ_STATUS.STATE, [1, 1], 1)], by decide, by decide, by decide, by decide, by decide, by decide⟩, by unfold State.takesNow State.takesFresh; decide⟩

theorem test_MailboxConvertersAndCalibration_3 : ∃ s : State, s.Sound ∧ s.takesNow ask ∧ (100000 * 32 < 2 ^ 22 ∧ 8 * 2 ^ 20 < 2 ^ 24 ∧
    60000 < 2 ^ 16) ∧ s.combCheck 1 1 false (0 == 1) ≠ 0 :=
  ⟨asked [], ⟨asked_wf [], by decide, by decide, by decide, by decide, by decide, by decide⟩, by unfold State.takesNow State.takesFresh; decide⟩

theorem test_MailboxConvertersAndCalibration_4 : ∃ s : State, s.Sound ∧ s.takesNow ask ∧ s.hasRoom ask.die ∧ s.combCheck 1 1 false (1 ==
    1) = 0 ∧ s.rd F.PWR_STATUS.THERMAL [1] = 0 ∧ s.fits [1] 0 (s.cost 12) = true ∧ s.claimGoes (s.combClaim 1 1) = true :=
  ⟨asked [(F.CNV_STATUS.AVAILABLE, [1, 1], 1), (F.XTO_STATUS.OVEN_READY, [], 1), (F.SYN_STATUS.LOCK, [1], 1), (F.HVS_SHARE.VALUE, [1, 1], 100000)], ⟨asked_wf [(F.CNV_STATUS.AVAILABLE, [1, 1], 1), (F.XTO_STATUS.OVEN_READY, [], 1), (F.SYN_STATUS.LOCK, [1], 1), (F.HVS_SHARE.VALUE, [1, 1], 100000)], by decide, by decide, by decide, by decide, by decide, by decide⟩, by unfold State.takesNow State.takesFresh State.hasRoom; decide⟩

theorem test_MailboxConvertersAndCalibration_5 : ∃ s : State, s.Sound ∧ s.takesNow ask ∧ s.hasRoom ask.die ∧ s.rd
    F.CRD_STORE_STATUS.PENDING [] = 0 ∧ s.rd F.PWR_STATUS.THERMAL [s.control] = 0 ∧ s.fits [0, 1] 0 (s.cost 13) = true ∧ s.storeHeld =
    false ∧ s.waits .storeWrite = false ∧ s.claimGoes ⟨.storeWrite, 4, s.control, [8]⟩ = true :=
  ⟨asked [(F.HVS_SHARE.VALUE, [1, 1], 100000)], ⟨asked_wf [(F.HVS_SHARE.VALUE, [1, 1], 100000)], by decide, by decide, by decide, by decide, by decide, by decide⟩, by unfold State.takesNow State.takesFresh State.hasRoom; decide⟩

theorem test_MailboxConvertersAndCalibration_6 : ∃ s : State, s.Sound ∧ s.takesNow ask ∧ s.hasRoom ask.die ∧ s.rd
    F.CRD_STORE_STATUS.PENDING [] ≠ 0 :=
  ⟨asked [(F.CRD_STORE_STATUS.PENDING, [], 1)], ⟨asked_wf [(F.CRD_STORE_STATUS.PENDING, [], 1)], by decide, by decide, by decide, by decide, by decide, by decide⟩, by unfold State.takesNow State.takesFresh State.hasRoom; decide⟩

/-- States and operands that meet the hypotheses of ModesHarvestAndFailover. -/
theorem test_ModesHarvestAndFailover_1 : ∃ s : State, s.Sound ∧ s.inTransition = true ∧ Mode.ofCode s.modeTarget = some .ready ∧
    s.mode.acquires = true :=
  ⟨in_mode .quad [(F.PWR_MODE.TRANSITION, [0], 1), (F.PWR_MODE.TRANSITION, [1], 1), (F.PWR_MODE.TARGET, [0], 3), (F.PWR_MODE.TARGET, [1], 3)], ⟨in_mode_wf .quad [(F.PWR_MODE.TRANSITION, [0], 1), (F.PWR_MODE.TRANSITION, [1], 1), (F.PWR_MODE.TARGET, [0], 3), (F.PWR_MODE.TARGET, [1], 3)], by decide, by decide, by decide, by decide, by decide, by decide⟩, by decide⟩

theorem test_ModesHarvestAndFailover_2 : ∃ s : State, s.Sound ∧ s.inTransition = false ∧ s.mode ≠ .hold ∧ s.dieRetired 1 = false ∧ s.rd
    F.PWR_STATUS.THERMAL [0] = 0 :=
  ⟨up [], ⟨up_wf [], by decide, by decide, by decide, by decide, by decide, by decide⟩, by decide⟩

theorem test_ModesHarvestAndFailover_3 : ∃ s : State, s.Sound ∧ s.mode = .vigil ∧ s.inTransition = false ∧ s.rd F.PWR_WAKE_CTRL.TIMER_EN
    [] ≠ 0 ∧ s.due (s.rd F.PWR_WAKE_DT.TICKS []) = true :=
  ⟨in_mode .vigil [(F.PWR_WAKE_CTRL.TIMER_EN, [], 1)], ⟨in_mode_wf .vigil [(F.PWR_WAKE_CTRL.TIMER_EN, [], 1)], by decide, by decide, by decide, by decide, by decide, by decide⟩, by decide⟩

theorem test_ModesHarvestAndFailover_4 : ∃ s : State, s.Sound ∧ s.mode ≠ .hold ∧ s.dt / 160000000 ≠ s.rd I.periodNo [] ∧
    s.committed.length ≤ 1 ∧ s.rd F.HVS_CAP.MW [] < 165001 ∧ s.rd F.HVS_STATUS.LEVEL [] < 11 :=
  ⟨{ up [] with dt := 160000000 }, ⟨up_wf [], by decide, by decide, by decide, by decide, by decide, by decide⟩, by decide⟩

theorem test_ModesHarvestAndFailover_5 : ∃ s : State, s.Sound ∧ s.rd F.PWR_STATUS.THERMAL [0] ≠ 0 ∧ s.dt / 160000000 = s.rd I.periodNo
    [] :=
  ⟨up [(F.PWR_STATUS.THERMAL, [0], 1)], ⟨up_wf [(F.PWR_STATUS.THERMAL, [0], 1)], by decide, by decide, by decide, by decide, by decide, by decide⟩, by decide⟩

theorem test_ModesHarvestAndFailover_6 : ∃ s : State, s.Sound ∧ s.control = 0 ∧ s.dieRetired 0 = true :=
  ⟨up [(F.BOB_RETIRED.OTHER_DIE, [1], 1)], ⟨up_wf [(F.BOB_RETIRED.OTHER_DIE, [1], 1)], by decide, by decide, by decide, by decide, by decide, by decide⟩, by decide⟩

theorem test_ModesHarvestAndFailover_7 : ∃ s : State, s.Sound ∧ s.mode ≠ .hold ∧ s.dieRetired 1 = false ∧ s.rd I.wakePin [1] ≠ 0 :=
  ⟨up [(I.wakePin, [1], 1)], ⟨up_wf [(I.wakePin, [1], 1)], by decide, by decide, by decide, by decide, by decide, by decide⟩, by decide⟩

/-- States and operands that meet the hypotheses of WearRethreadingAndRetirement. -/
theorem test_WearRethreadingAndRetirement_1 : ∃ s : State, s.Sound ∧ s.bobRetired (sliceUnit 1 1 135) = false ∧ s.wearHolds (sliceUnit 1
    1 135) 4 = true ∧ s.rd F.PWR_STATUS.THERMAL [1] = 0 ∧ s.rd F.BOB_CTRL.AUTO_EN [] = 1 :=
  ⟨up [(F.HVS_SHARE.VALUE, [1, 1], 100000)], ⟨up_wf [(F.HVS_SHARE.VALUE, [1, 1], 100000)], by decide, by decide, by decide, by decide, by decide, by decide⟩, by decide⟩

theorem test_WearRethreadingAndRetirement_2 : ∃ s : State, s.Sound ∧ s.bobRetired (sliceUnit 1 1 135) = false ∧ s.wearHolds (sliceUnit 1
    1 135) 4 = true ∧ s.rd F.BOB_CTRL.AUTO_EN [] = 0 :=
  ⟨up [(F.BOB_CTRL.AUTO_EN, [], 0)], ⟨up_wf [(F.BOB_CTRL.AUTO_EN, [], 0)], by decide, by decide, by decide, by decide, by decide, by decide⟩, by decide⟩

theorem test_WearRethreadingAndRetirement_3 : ∃ s : State, s.Sound ∧ s.runs (.rethreadSetup 1 (s.rd F.BOB_ACTIVE.UNIT [1])) = true ∧
    s.elapsed (s.rd I.bobAt [1]) 128 = true ∧ unitIndex (s.rd F.BOB_ACTIVE.UNIT [1]) < 16 ∧ s.rd F.BOB_ACTIVE.LOST [1] = 0 :=
  ⟨{ up [(I.bobAt, [1], 0)] with now := 16384, running := [⟨.rethreadSetup 1 0, 1, 1, []⟩] }, ⟨up_wf [(I.bobAt, [1], 0)], by decide, by decide, by decide, by decide, by decide, by decide⟩, by decide⟩

theorem test_WearRethreadingAndRetirement_4 : ∃ s : State, s.Sound ∧ s.runs (.rethreadSetup 1 (s.rd F.BOB_ACTIVE.UNIT [1])) = false :=
  ⟨up [], ⟨up_wf [], by decide, by decide, by decide, by decide, by decide, by decide⟩, by decide⟩

theorem test_WearRethreadingAndRetirement_5 : ∃ s : State, s.Sound ∧ State.nextGrant [] s.waiting s = some ⟨.storeWrite, 4, 0, [8]⟩ ∧
    s.rd I.svcTestWait [] ≠ 3 :=
  ⟨{ up [] with waiting := [⟨.storeWrite, 4, 0, [8]⟩] }, ⟨up_wf [], by decide, by decide, by decide, by decide, by decide, by decide⟩, by decide⟩

theorem test_WearRethreadingAndRetirement_6 : ∃ s : State, s.Sound ∧ s.rd F.MEM_STATUS.REMAP_ACTIVE [1, 1] = 1 :=
  ⟨up [(F.MEM_STATUS.REMAP_ACTIVE, [1, 1], 1)], ⟨up_wf [(F.MEM_STATUS.REMAP_ACTIVE, [1, 1], 1)], by decide, by decide, by decide, by decide, by decide, by decide⟩, by decide⟩

theorem test_WearRethreadingAndRetirement_7 : ∃ s : State, s.Sound ∧ s.elapsed (s.rd I.remapHold [1, 1]) 1024 = true ∧ s.rd
    F.BOB_SPL_MARGIN.STATE [1, 27] < 4 :=
  ⟨{ up [] with now := 131072 }, ⟨up_wf [], by decide, by decide, by decide, by decide, by decide, by decide⟩, by decide⟩

theorem test_WearRethreadingAndRetirement_8 : ∃ s : State, s.Sound ∧ s.runs (.spliceRetrain 1 27) = true :=
  ⟨{ up [] with running := [⟨.spliceRetrain 1 27, 3, 1, [9]⟩] }, ⟨up_wf [], by decide, by decide, by decide, by decide, by decide, by decide⟩, by decide⟩

theorem test_WearRethreadingAndRetirement_9 : ∃ s : State, s.Sound ∧ (s.cmpIdle 1).isSome = true ∧ s.rd I.cmpRetired [1, 11] = 0 :=
  ⟨up [], ⟨up_wf [], by decide, by decide, by decide, by decide, by decide, by decide⟩, by decide⟩

theorem test_WearRethreadingAndRetirement_10 : ∃ s : State, s.Sound ∧ s.runs (.scrub 1 1) = false ∧ s.waits (.scrub 1 1) = false ∧
    s.claimGoes ⟨.scrub 1 1, 5, 1, [4 + 1]⟩ = true ∧ s.domainOn 1 (29 + 1) = true ∧ s.rd I.scrubPos [1, 1] = 64 * 0 ∧ 64 * (0 + 1) <
    guardedBytes (s.workingPcs 1 1) ∧ (symbolErrors [(0, 1)]).length = 1 ∧ (symbolErrors [(0, 1), (5, 2), (67, 3)]).length = 3 ∧ s.rd
    F.MEM_SCRUB_STATUS.PASSES [1, 1] + 1 < 2 ^ 24 :=
  ⟨in_mode .quad [], ⟨in_mode_wf .quad [], by decide, by decide, by decide, by decide, by decide, by decide⟩, by decide⟩

theorem test_WearRethreadingAndRetirement_11 : ∃ s : State, s.Sound ∧ sliceUnit 1 1 135 ∈ s.retiring ∧ s.rd I.retireAt [sliceUnit 1 1
    135] < s.now :=
  ⟨{ up [] with retiring := [sliceUnit 1 1 135], now := 128 }, ⟨up_wf [], by decide, by decide, by decide, by decide, by decide, by decide⟩, by decide⟩

theorem test_WearRethreadingAndRetirement_12 : ∃ s : State, s.Sound ∧ s.bobRetired (sliceUnit 1 1 134) = false ∧ s.rd F.BOB_CTRL.AUTO_EN
    [] = 1 ∧ s.rtCheck (sliceUnit 1 1 134) = 0 ∧ s.fits [1] 0 (s.rtEnergy (sliceUnit 1 1 134)) = false ∧ unitKind (sliceUnit 1 1 134) ≠
    3 ∧ s.isSpare (sliceUnit 1 1 134) = false ∧ s.unitGone (sliceUnit 1 1 134) = false ∧ s.unitInvalid (sliceUnit 1 1 134) = false ∧
    s.unitSpare (sliceUnit 1 1 134) = true :=
  ⟨up [], ⟨up_wf [], by decide, by decide, by decide, by decide, by decide, by decide⟩, by decide⟩

theorem test_WearRethreadingAndRetirement_13 : ∃ s : State, s.Sound ∧ s.rtCheck (sliceUnit 1 1 0) = 0 ∧ s.fits [1] 0 (s.rtEnergy
    (sliceUnit 1 1 0)) = true ∧ s.unitSpare (sliceUnit 1 1 0) = true :=
  ⟨up [(F.HVS_SHARE.VALUE, [1, 1], 100000)], ⟨up_wf [(F.HVS_SHARE.VALUE, [1, 1], 100000)], by decide, by decide, by decide, by decide, by decide, by decide⟩, by decide⟩

theorem test_WearRethreadingAndRetirement_14 : ∃ s : State, s.Sound ∧ unitKind (s.rd F.BOB_ACTIVE.UNIT [1]) = 1 ∧ s.rd I.swapBlk [1] ≠ 0
    ∧ s.rd I.swapBlk [1] ≤ s.blkNo 1 + 1 ∧ s.runs (.rethreadSwap 1 (s.rd F.BOB_ACTIVE.UNIT [1])) = true :=
  ⟨{ up [(F.BOB_ACTIVE.UNIT, [1], sliceUnit 1 1 134), (F.BOB_ACTIVE.PHASE, [1], 5), (I.swapBlk, [1], 1)] with running := [⟨.rethreadSwap 1 (sliceUnit 1 1 134), 1, 1, [1]⟩] }, ⟨up_wf [(F.BOB_ACTIVE.UNIT, [1], sliceUnit 1 1 134), (F.BOB_ACTIVE.PHASE, [1], 5), (I.swapBlk, [1], 1)], by decide, by decide, by decide, by decide, by decide, by decide⟩, by decide⟩

theorem test_WearRethreadingAndRetirement_15 : ∃ s : State, s.Sound ∧ unitKind (s.rd F.BOB_ACTIVE.UNIT [1]) = 1 ∧ s.rtPhase 1 = 4 ∧ s.rd
    I.swapBlk [1] = 0 ∧ s.waits (.rethreadSwap 1 (s.rd F.BOB_ACTIVE.UNIT [1])) = false ∧ s.armed 1 (s.swapSet (unitSide (s.rd
    F.BOB_ACTIVE.UNIT [1]))) = false ∧ s.claimGoes (s.swapClaim 1) = true :=
  ⟨up [(F.BOB_ACTIVE.UNIT, [1], sliceUnit 1 1 134), (F.BOB_ACTIVE.PHASE, [1], 4)], ⟨up_wf [(F.BOB_ACTIVE.UNIT, [1], sliceUnit 1 1 134), (F.BOB_ACTIVE.PHASE, [1], 4)], by decide, by decide, by decide, by decide, by decide, by decide⟩, by decide⟩

theorem test_WearRethreadingAndRetirement_16 : ∃ s : State, s.Sound ∧ unitKind (s.rd F.BOB_ACTIVE.UNIT [1]) = 1 ∧ s.rtPhase 1 = 5 ∧
    s.claimGoes (s.swapClaim 1) = false ∧ s.runs (.rethreadSwap 1 (s.rd F.BOB_ACTIVE.UNIT [1])) = false :=
  ⟨{ up [(F.BOB_ACTIVE.UNIT, [1], sliceUnit 1 1 134), (F.BOB_ACTIVE.PHASE, [1], 5)] with running := [⟨.scrub 0 0, 5, 1, [1]⟩] }, ⟨up_wf [(F.BOB_ACTIVE.UNIT, [1], sliceUnit 1 1 134), (F.BOB_ACTIVE.PHASE, [1], 5)], by decide, by decide, by decide, by decide, by decide, by decide⟩, by decide⟩

theorem test_WearRethreadingAndRetirement_17 : ∃ s : State, s.Sound ∧ unitKind (s.rd F.BOB_ACTIVE.UNIT [1]) = 5 ∧ s.rd F.BOB_SRAM.STATE
    [1, unitLane (s.rd F.BOB_ACTIVE.UNIT [1])] = 1 :=
  ⟨up [(F.BOB_ACTIVE.UNIT, [1], unitCode 5 1 0 3 0), (F.BOB_SRAM.STATE, [1, 3], 1)], ⟨up_wf [(F.BOB_ACTIVE.UNIT, [1], unitCode 5 1 0 3 0), (F.BOB_SRAM.STATE, [1, 3], 1)], by decide, by decide, by decide, by decide, by decide, by decide⟩, by decide⟩

theorem test_WearRethreadingAndRetirement_18 : ∃ s : State, s.Sound ∧ unitKind (s.rd F.BOB_ACTIVE.UNIT [1]) = 2 ∧ unitSide (s.rd
    F.BOB_ACTIVE.UNIT [1]) = 1 ∧ s.runs (.pcCopy 1 1 (unitIndex (s.rd F.BOB_ACTIVE.UNIT [1]))) = true :=
  ⟨{ up [(F.BOB_ACTIVE.UNIT, [1], unitCode 2 1 1 0 30)] with running := [⟨.pcCopy 1 1 30, 1, 1, [5]⟩] }, ⟨up_wf [(F.BOB_ACTIVE.UNIT, [1], unitCode 2 1 1 0 30)], by decide, by decide, by decide, by decide, by decide, by decide⟩, by decide⟩

theorem test_WearRethreadingAndRetirement_19 : ∃ s : State, s.Sound ∧ unitKind (s.rd F.BOB_ACTIVE.UNIT [1]) = 2 ∧ s.rtPhase 1 = 5 ∧ s.rd
    F.MEM_STATUS.REMAP_ACTIVE [1, 1] = 0 ∧ s.remapHere 1 1 = true ∧ s.waits (.pcRemap 1 1 30) = false ∧ s.claimGoes ⟨.pcRemap 1 1 30, 1,
    1, [4 + 1]⟩ = true :=
  ⟨up [(F.BOB_ACTIVE.UNIT, [1], unitCode 2 1 1 0 30), (F.BOB_ACTIVE.PHASE, [1], 5)], ⟨up_wf [(F.BOB_ACTIVE.UNIT, [1], unitCode 2 1 1 0 30), (F.BOB_ACTIVE.PHASE, [1], 5)], by decide, by decide, by decide, by decide, by decide, by decide⟩, by decide⟩

theorem test_WearRethreadingAndRetirement_20 : ∃ s : State, s.Sound ∧ unitKind (s.rd F.BOB_ACTIVE.UNIT [1]) = 2 ∧ s.rd
    F.MEM_PC_STAT.STATE [1, 1, 30] ≠ 3 ∧ s.pcIn 1 1 2 = some 31 :=
  ⟨up [(F.BOB_ACTIVE.UNIT, [1], unitCode 2 1 1 0 30), (F.MEM_STATUS.REMAP_ACTIVE, [1, 1], 1), (F.MEM_PC_STAT.STATE, [1, 1, 31], 2)], ⟨up_wf [(F.BOB_ACTIVE.UNIT, [1], unitCode 2 1 1 0 30), (F.MEM_STATUS.REMAP_ACTIVE, [1, 1], 1), (F.MEM_PC_STAT.STATE, [1, 1, 31], 2)], by decide, by decide, by decide, by decide, by decide, by decide⟩, by decide⟩

theorem test_WearRethreadingAndRetirement_21 : ∃ s : State, s.Sound ∧ (s.spareLane 1).isNone = false ∧ s.rd F.BOB_SPL_MARGIN.STATE [1,
    27] = 3 :=
  ⟨up [(F.BOB_SPL_MARGIN.STATE, [1, 27], 3)], ⟨up_wf [(F.BOB_SPL_MARGIN.STATE, [1, 27], 3)], by decide, by decide, by decide, by decide, by decide, by decide⟩, by decide⟩

theorem test_WearRethreadingAndRetirement_22 : ∃ s : State, s.Sound ∧ s.rd F.PWR_STATUS.THERMAL [1] = 0 ∧ (s.spareLane 1).isSome = true
    ∧ s.rd F.BOB_SPL_MARGIN.STATE [1, 0] = 0 ∧ s.waits (.spliceRetrain 1 0) = false ∧ s.fits [1] 0 (s.cost 17) = true ∧ s.claimGoes
    ⟨.spliceRetrain 1 0, 3, 1, [9]⟩ = true :=
  ⟨up [(F.HVS_SHARE.VALUE, [1, 1], 100000)], ⟨up_wf [(F.HVS_SHARE.VALUE, [1, 1], 100000)], by decide, by decide, by decide, by decide, by decide, by decide⟩, by decide⟩

theorem test_WearRethreadingAndRetirement_23 : ∃ s : State, s.Sound ∧ s.rd I.scrubPos [1, 1] ≠ 64 * 3 :=
  ⟨up [], ⟨up_wf [], by decide, by decide, by decide, by decide, by decide, by decide⟩, by decide⟩

/-- States and operands that meet the hypotheses of SkeinPortsFramesAndGlobalTriggers. -/
theorem test_SkeinPortsFramesAndGlobalTriggers_1 : ∃ s : State, s.Sound ∧ s.portState 4 = 1 ∧ s.portState 0 ≠ 1 :=
  ⟨up [(F.SKN_PORT_STATUS.STATE, [4], 1)], ⟨up_wf [(F.SKN_PORT_STATUS.STATE, [4], 1)], by decide, by decide, by decide, by decide, by decide, by decide⟩, by decide⟩

theorem test_SkeinPortsFramesAndGlobalTriggers_2 : ∃ s : State, s.Sound ∧ s.portState 0 = 3 ∧ s.portState 4 = 2 ∧ s.frameReason 4 [] ≠ 0
    :=
  ⟨up [(F.SKN_PORT_STATUS.STATE, [0], 3), (F.SKN_PORT_STATUS.STATE, [4], 2)], ⟨up_wf [(F.SKN_PORT_STATUS.STATE, [0], 3), (F.SKN_PORT_STATUS.STATE, [4], 2)], by decide, by decide, by decide, by decide, by decide, by decide⟩, by decide⟩

theorem test_SkeinPortsFramesAndGlobalTriggers_3 : ∃ s : State, s.Sound ∧ s.portState 1 = 3 ∧ s.frameReason 1 (frameOf fJoinAck []) = 2
    ∧ 63 ≤ s.rd I.skViolN [1] ∧ dtSub s.blk (s.rd I.skViol [1, (s.rd I.skViolPos [1] + 1) % 64]) < State.oneSecond :=
  ⟨up [(F.SKN_PORT_STATUS.STATE, [1], 3), (I.skViolN, [1], 63)], ⟨up_wf [(F.SKN_PORT_STATUS.STATE, [1], 3), (I.skViolN, [1], 63)], by decide, by decide, by decide, by decide, by decide, by decide⟩, by decide⟩

theorem test_SkeinPortsFramesAndGlobalTriggers_4 : ∃ s : State, s.Sound ∧ s.portState 4 = 2 ∧ s.frameReason 4 (frameOf fJoin [(48, 8,
    65)]) = 0 ∧ frameType (frameOf fJoin [(48, 8, 65)]) = fJoin ∧ s.skManager = true ∧ 64 < s.workersBelow + frameBits (frameOf fJoin
    [(48, 8, 65)]) / 2 ^ 48 % 256 ∧ s.rd I.skEchoN [4] < 64 :=
  ⟨up [(F.SKN_CTRL.ROLE, [], 1), (F.SKN_PORT_STATUS.STATE, [4], 2)], ⟨up_wf [(F.SKN_CTRL.ROLE, [], 1), (F.SKN_PORT_STATUS.STATE, [4], 2)], by decide, by decide, by decide, by decide, by decide, by decide⟩, by decide⟩

theorem test_SkeinPortsFramesAndGlobalTriggers_5 : ∃ s : State, s.Sound ∧ s.portState 1 = 2 ∧ s.frameReason 1 (frameOf fJoin [(48, 8,
    64)]) = 0 ∧ s.skManager = true ∧ s.workersBelow + 64 ≤ 64 ∧ 64 ≤ s.rd I.skEchoN [1] ∧ 4096 * s.rd F.SKN_PORT_LAT.TICKS [1] + s.rd
    F.SKN_PORT_LAT.FRAC [1] ≤ 4096 * 38400 :=
  ⟨up [(F.SKN_CTRL.ROLE, [], 1), (F.SKN_PORT_STATUS.STATE, [1], 2), (I.skEchoN, [1], 64)], ⟨up_wf [(F.SKN_CTRL.ROLE, [], 1), (F.SKN_PORT_STATUS.STATE, [1], 2), (I.skEchoN, [1], 64)], by decide, by decide, by decide, by decide, by decide, by decide⟩, by decide⟩

theorem test_SkeinPortsFramesAndGlobalTriggers_6 : ∃ s : State, s.Sound ∧ s.portState 1 = 3 ∧ s.frameReason 1 (frameOf fEchoRsp [(32,
    32, 7)]) = 0 ∧ frameType (frameOf fEchoRsp [(32, 32, 7)]) = fEchoRsp ∧ s.rd I.skEchoWait [1] = 1 ∧ frameBits (frameOf fEchoRsp [(32,
    32, 7)]) / 2 ^ 32 % 2 ^ 32 = s.rd I.skEchoId [1] ∧ s.rd I.skEchoN [1] = 0 ∧ s.rd I.skEchoPos [1] = 0 :=
  ⟨up [(F.SKN_PORT_STATUS.STATE, [1], 3), (I.skEchoWait, [1], 1), (I.skEchoId, [1], 7)], ⟨up_wf [(F.SKN_PORT_STATUS.STATE, [1], 3), (I.skEchoWait, [1], 1), (I.skEchoId, [1], 7)], by decide, by decide, by decide, by decide, by decide, by decide⟩, by decide⟩

theorem test_SkeinPortsFramesAndGlobalTriggers_7 : ∃ s : State, s.Sound ∧ s.portState 0 = 2 ∧ s.frameReason 0 (frameOf fNak []) = 0 ∧
    frameType (frameOf fNak []) = fNak ∧ s.frameReason 0 (frameOf fEchoReq [(32, 32, 9)]) = 0 ∧ frameType (frameOf fEchoReq [(32, 32,
    9)]) = fEchoReq :=
  ⟨up [(F.SKN_PORT_STATUS.STATE, [0], 2)], ⟨up_wf [(F.SKN_PORT_STATUS.STATE, [0], 2)], by decide, by decide, by decide, by decide, by decide, by decide⟩, by decide⟩

theorem test_SkeinPortsFramesAndGlobalTriggers_8 : ∃ s : State, s.Sound ∧ s.portState 0 = 2 ∧ s.frameReason 0 (frameOf fJoinAck [(32, 8,
    1)]) = 0 ∧ frameType (frameOf fJoinAck [(32, 8, 1)]) = fJoinAck ∧ bitAt (frameBits (frameOf fJoinAck [(32, 8, 1)])) 40 = false ∧ 64
    ≤ s.rd I.skEchoN [0] ∧ s.portMay 0 = true :=
  ⟨up [(F.SKN_CTRL.ROLE, [], 2), (F.SKN_CTRL.PORT_EN, [], 1), (F.SKN_PORT_STATUS.STATE, [0], 2), (I.skEchoN, [0], 64)], ⟨up_wf [(F.SKN_CTRL.ROLE, [], 2), (F.SKN_CTRL.PORT_EN, [], 1), (F.SKN_PORT_STATUS.STATE, [0], 2), (I.skEchoN, [0], 64)], by decide, by decide, by decide, by decide, by decide, by decide⟩, by decide⟩

theorem test_SkeinPortsFramesAndGlobalTriggers_9 : ∃ s : State, s.Sound ∧ s.frameReason 0 (frameOf fJoinAck [(40, 1, 1)]) = 0 ∧ bitAt
    (frameBits (frameOf fJoinAck [(40, 1, 1)])) 40 = true ∧ s.rd I.skEchoN [0] < 64 :=
  ⟨up [(F.SKN_PORT_STATUS.STATE, [0], 2)], ⟨up_wf [(F.SKN_PORT_STATUS.STATE, [0], 2)], by decide, by decide, by decide, by decide, by decide, by decide⟩, by decide⟩

theorem test_SkeinPortsFramesAndGlobalTriggers_10 : ∃ s : State, s.Sound ∧ s.portState 1 = 2 ∧ s.rd I.skEchoAt [1] = 0 ∧ s.portState 4 =
    3 ∧ s.blk % 1600000 = 0 :=
  ⟨up [(F.SKN_PORT_STATUS.STATE, [1], 2), (F.SKN_PORT_STATUS.STATE, [4], 3)], ⟨up_wf [(F.SKN_PORT_STATUS.STATE, [1], 2), (F.SKN_PORT_STATUS.STATE, [4], 3)], by decide, by decide, by decide, by decide, by decide, by decide⟩, by decide⟩

theorem test_SkeinPortsFramesAndGlobalTriggers_11 : ∃ s : State, s.Sound ∧ s.portState 0 = 3 ∧ s.frameReason 0 (frameOf fAlign [(160,
    64, 38401), (240, 1, 1)]) = 0 ∧ frameType (frameOf fAlign []) = fAlign ∧ bitAt (frameBits (frameOf fAlign [(160, 64, 38401), (240,
    1, 1)])) 240 = true ∧ 4096 * 38400 < 4096 * (frameBits (frameOf fAlign [(160, 64, 38401), (240, 1, 1)]) / 2 ^ 160 % 2 ^ 64) :=
  ⟨up [(F.SKN_PORT_STATUS.STATE, [0], 3)], ⟨up_wf [(F.SKN_PORT_STATUS.STATE, [0], 3)], by decide, by decide, by decide, by decide, by decide, by decide⟩, by decide⟩

theorem test_SkeinPortsFramesAndGlobalTriggers_12 : ∃ s : State, s.Sound ∧ s.frameReason 0 (frameOf fAlign [(160, 64, 38400), (240, 1,
    1)]) = 0 ∧ bitAt (frameBits (frameOf fAlign [(160, 64, 38400), (240, 1, 1)])) 240 = true ∧ s.rd I.skErrN [] + 1 < 1000 ∧
    s.frameReason 0 (frameOf fAlign []) = 0 ∧ bitAt (frameBits (frameOf fAlign [])) 240 = false :=
  ⟨up [(F.SKN_PORT_STATUS.STATE, [0], 3)], ⟨up_wf [(F.SKN_PORT_STATUS.STATE, [0], 3)], by decide, by decide, by decide, by decide, by decide, by decide⟩, by decide⟩

theorem test_SkeinPortsFramesAndGlobalTriggers_13 : ∃ s : State, s.Sound ∧ s.portState 0 = 3 ∧ s.elapsed (s.rd I.skAlign []) 125000 =
    true ∧ s.rd F.XTO_STATUS.REF_PRESENT [] = 1 ∧ s.refState ≠ 0 :=
  ⟨{ up [(F.SKN_PORT_STATUS.STATE, [0], 3), (F.XTO_STATUS.REF_PRESENT, [], 1), (F.XTO_STATUS.REF_STATE, [], 2)] with now := 16000000 }, ⟨up_wf [(F.SKN_PORT_STATUS.STATE, [0], 3), (F.XTO_STATUS.REF_PRESENT, [], 1), (F.XTO_STATUS.REF_STATE, [], 2)], by decide, by decide, by decide, by decide, by decide, by decide⟩, by decide⟩

theorem test_SkeinPortsFramesAndGlobalTriggers_14 : ∃ s : State, s.Sound ∧ s.portState 4 = 3 ∧ s.frameReason 4 (frameOf fSummary [(64,
    64, 1024)]) = 0 ∧ frameType (frameOf fSummary [(64, 64, 1024)]) = fSummary ∧ afterMark (s.rd I.skSent []) 1024 = true ∧ s.due
    (s.summaryTime 1024) = false :=
  ⟨up [(F.SKN_PORT_STATUS.STATE, [4], 3)], ⟨up_wf [(F.SKN_PORT_STATUS.STATE, [4], 3)], by decide, by decide, by decide, by decide, by decide, by decide⟩, by decide⟩

theorem test_SkeinPortsFramesAndGlobalTriggers_15 : ∃ s : State, s.Sound ∧ s.frameReason 4 (frameOf fSummary [(64, 64, 1024)]) = 0 ∧
    afterMark (s.rd I.skSent []) (frameBits (frameOf fSummary [(64, 64, 1024)]) / 2 ^ 64 % 2 ^ 64) = false :=
  ⟨up [(F.SKN_PORT_STATUS.STATE, [4], 3), (I.skSent, [], markAt 2048)], ⟨up_wf [(F.SKN_PORT_STATUS.STATE, [4], 3), (I.skSent, [], markAt 2048)], by decide, by decide, by decide, by decide, by decide, by decide⟩, by decide⟩

theorem test_SkeinPortsFramesAndGlobalTriggers_16 : ∃ s : State, s.Sound ∧ s.skWorker = true ∧ afterMark (s.rd I.skSent []) 1024 = true
    ∧ s.lands (s.summaryTime 1024) = false ∧ s.due (s.summaryTime 1024) = true ∧ s.portState 0 = 3 :=
  ⟨{ up [(F.SKN_CTRL.ROLE, [], 2), (F.SKN_PORT_STATUS.STATE, [0], 3)] with dt := 2 ^ 20, dtPrev := 2 ^ 20 }, ⟨up_wf [(F.SKN_CTRL.ROLE, [], 2), (F.SKN_PORT_STATUS.STATE, [0], 3)], by decide, by decide, by decide, by decide, by decide, by decide⟩, by decide⟩

theorem test_SkeinPortsFramesAndGlobalTriggers_17 : ∃ s : State, s.Sound ∧ s.skManager = true ∧ afterMark (s.rd I.skSent []) 0 = true ∧
    s.due (dtAdd 0 125440) = true ∧ s.lands (dtAdd 0 125440) = false ∧ s.rd F.SKN_GSEQ_CTRL.RUN [] = 1 ∧ s.rd I.gsDead [] ≠ 0 :=
  ⟨{ up [(F.SKN_CTRL.ROLE, [], 1), (F.SKN_GSEQ_CTRL.RUN, [], 1), (I.gsDead, [], 2)] with dt := 130048, dtPrev := 130048 }, ⟨up_wf [(F.SKN_CTRL.ROLE, [], 1), (F.SKN_GSEQ_CTRL.RUN, [], 1), (I.gsDead, [], 2)], by decide, by decide, by decide, by decide, by decide, by decide⟩, by decide⟩

theorem test_SkeinPortsFramesAndGlobalTriggers_18 : ∃ s : State, s.Sound ∧ s.skManager = true ∧ s.rd F.SKN_GSEQ_CTRL.RUN [] = 0 ∧
    afterMark (s.rd I.skBcast []) 0 = true ∧ s.due (dtAdd 0 140800) = true ∧ s.rd I.gtOn [0] = 0 :=
  ⟨{ up [(F.SKN_CTRL.ROLE, [], 1)] with dt := 140800 }, ⟨up_wf [(F.SKN_CTRL.ROLE, [], 1)], by decide, by decide, by decide, by decide, by decide, by decide⟩, by decide⟩

theorem test_SkeinPortsFramesAndGlobalTriggers_19 : ∃ s : State, s.Sound ∧ s.skManager = true ∧ s.due (dtAdd 1024 140800) = true ∧ s.rd
    I.gtOn [1024 / 1024 % 32] ≠ 0 ∧ 4 ∈ s.portsBelow :=
  ⟨{ up [(F.SKN_CTRL.ROLE, [], 1), (F.SKN_PORT_STATUS.STATE, [4], 3), (I.gtOn, [1], 1)] with dt := 141824 }, ⟨up_wf [(F.SKN_CTRL.ROLE, [], 1), (F.SKN_PORT_STATUS.STATE, [4], 3), (I.gtOn, [1], 1)], by decide, by decide, by decide, by decide, by decide, by decide⟩, by decide⟩

theorem test_SkeinPortsFramesAndGlobalTriggers_20 : ∃ s : State, s.Sound ∧ s.portState 0 = 3 ∧ s.frameReason 0 (frameOf fTrigger []) = 0
    ∧ frameType (frameOf fTrigger []) = fTrigger ∧ s.frameReason 0 (frameOf fIdle []) = 0 ∧ frameType (frameOf fIdle []) = fIdle ∧ s.due
    (s.broadcastTime 0) = false ∧ s.rd F.SKN_CTRL.GTRIG_EVT_EN [] = 1 :=
  ⟨{ up [(F.SKN_PORT_STATUS.STATE, [0], 3), (F.SKN_CTRL.GTRIG_EVT_EN, [], 1)] with dt := 0 }, ⟨up_wf [(F.SKN_PORT_STATUS.STATE, [0], 3), (F.SKN_CTRL.GTRIG_EVT_EN, [], 1)], by decide, by decide, by decide, by decide, by decide, by decide⟩, by decide⟩

theorem test_SkeinPortsFramesAndGlobalTriggers_21 : ∃ s : State, s.Sound ∧ s.portState 0 = 3 ∧ s.due (s.broadcastTime 0) = true ∧
    s.lands (s.broadcastTime 0) = false ∧ afterMark (s.rd I.skBcast []) 0 = true ∧ s.rd I.skMiss [] + 1 < 1024 :=
  ⟨{ up [(F.SKN_PORT_STATUS.STATE, [0], 3)] with dt := 2 ^ 20, dtPrev := 2 ^ 20 }, ⟨up_wf [(F.SKN_PORT_STATUS.STATE, [0], 3)], by decide, by decide, by decide, by decide, by decide, by decide⟩, by decide⟩

theorem test_SkeinPortsFramesAndGlobalTriggers_22 : ∃ s : State, s.Sound ∧ s.skWorker = true ∧ s.mode ≠ .hold ∧ s.mode ≠ .vigil :=
  ⟨up [(F.SKN_CTRL.ROLE, [], 2)], ⟨up_wf [(F.SKN_CTRL.ROLE, [], 2)], by decide, by decide, by decide, by decide, by decide, by decide⟩, by decide⟩

theorem test_SkeinPortsFramesAndGlobalTriggers_23 : ∃ s : State, s.Sound ∧ s.hostReach 1 = true ∧ s.dieRetired s.control = false ∧ s.rd
    F.SKN_GSEQ_CTRL.RUN [] = 1 :=
  ⟨up [(F.SKN_GSEQ_CTRL.RUN, [], 1)], ⟨up_wf [(F.SKN_GSEQ_CTRL.RUN, [], 1)], by decide, by decide, by decide, by decide, by decide, by decide⟩, by decide⟩

theorem test_SkeinPortsFramesAndGlobalTriggers_24 : ∃ s : State, s.Sound ∧ s.hostReach 0 = true ∧ s.rd F.SKN_GSEQ_CTRL.RUN [] = 0 ∧
    bitAt 17 4 = true ∧ 17 % 16 = s.rd F.SKN_GSEQ_CTRL.LAST [] ∧ s.skManager = true ∧ s.gseqCheck = 0 :=
  ⟨up [(F.SKN_CTRL.ROLE, [], 1), (F.SKN_GSEQ_CTRL.LAST, [], 1), (F.GSEQ_STATE.ADV_MASK, [0], 1), (F.GSEQ_STATE.NEXT, [0], 1), (F.GSEQ_STATE.ENTRY, [1], 1)], ⟨up_wf [(F.SKN_CTRL.ROLE, [], 1), (F.SKN_GSEQ_CTRL.LAST, [], 1), (F.GSEQ_STATE.ADV_MASK, [0], 1), (F.GSEQ_STATE.NEXT, [0], 1), (F.GSEQ_STATE.ENTRY, [1], 1)], by decide, by decide, by decide, by decide, by decide, by decide⟩, by decide⟩

theorem test_SkeinPortsFramesAndGlobalTriggers_25 : ∃ s : State, s.Sound ∧ (s.skManager = true ∧ afterMark (s.rd I.skSent []) 0 = true ∧
    s.due (dtAdd 0 125440) = true ∧ s.lands (dtAdd 0 125440) = false ∧ s.rd F.SKN_GSEQ_CTRL.RUN [] = 1 ∧ s.rd I.gsDead [] = 0 ∧
    s.gseqDeadline 0 = none) ∧ s.gseqFires ⟨0, 1, List.replicate 16 0, [], []⟩ = [⟨0, 0, false⟩] ∧ (State.seqPick (s.rd
    F.GSEQ_STATE.ADV_MASK [0]) (s.rd F.GSEQ_STATE.RST_MASK [0]) (s.rd F.GSEQ_STATE.QUAL [0]) (s.rd F.GSEQ_STATE.QUAL_VALUE [0]) (s.rd
    I.gsEntry []) [⟨0, 0, false⟩] (s.rd I.gsCount []) false).1 = some ⟨0, 0, false⟩ ∧ bitAt (s.rd F.GSEQ_STATE.RST_MASK [0]) 0 = false ∧
    s.rd F.GSEQ_STATE.ENTRY [1] = 1 ∧ s.rd I.gsHold [] = 0 :=
  ⟨{ up [(F.SKN_CTRL.ROLE, [], 1), (F.SKN_GSEQ_CTRL.RUN, [], 1), (F.GSEQ_STATE.ADV_MASK, [0], 1), (F.GSEQ_STATE.NEXT, [0], 1), (F.GSEQ_STATE.ENTRY, [1], 1)] with dt := 130048, dtPrev := 130048 }, ⟨up_wf [(F.SKN_CTRL.ROLE, [], 1), (F.SKN_GSEQ_CTRL.RUN, [], 1), (F.GSEQ_STATE.ADV_MASK, [0], 1), (F.GSEQ_STATE.NEXT, [0], 1), (F.GSEQ_STATE.ENTRY, [1], 1)], by decide, by decide, by decide, by decide, by decide, by decide⟩, ⟨by decide, by unfold State.gseqFires; rw [show ((List.range 16).filter _) = [0] from by decide]; exact List.mergeSort_singleton _, by decide⟩⟩

theorem test_SkeinPortsFramesAndGlobalTriggers_26 : ∃ s : State, s.Sound ∧ s.closing = false ∧ s.lands (dtAdd 15360 125440) = true :=
  ⟨{ up [(F.SKN_CTRL.ROLE, [], 1)] with dt := 140800 }, ⟨up_wf [(F.SKN_CTRL.ROLE, [], 1)], by decide, by decide, by decide, by decide, by decide, by decide⟩, by decide⟩

theorem test_SkeinPortsFramesAndGlobalTriggers_27 : ∃ s : State, s.Sound ∧ s.portState 0 = 2 ∧ s.frameReason 0 (frameOf fAlign [(160,
    64, 38401), (240, 1, 1)]) = 0 :=
  ⟨up [(F.SKN_PORT_STATUS.STATE, [0], 2)], ⟨up_wf [(F.SKN_PORT_STATUS.STATE, [0], 2)], by decide, by decide, by decide, by decide, by decide, by decide⟩, by decide⟩

/-- States and operands that meet the hypotheses of ConsoleOfTheServicePort. -/
theorem test_ConsoleOfTheServicePort_1 : ∃ s : State, s.Sound ∧ s.mode = .hold :=
  ⟨in_mode .hold [(I.bootStep, [], 1)], ⟨in_mode_wf .hold [(I.bootStep, [], 1)], by decide, by decide, by decide, by decide, by decide, by decide⟩, by decide⟩

theorem test_ConsoleOfTheServicePort_2 : ∃ s : State, s.Sound ∧ s.mode ≠ .hold ∧ s.rd F.SVC_STATUS.LOCKED [] = 1 ∧ State.atbWhenLocked
    0x20 = false ∧ State.atbWhenLocked 0x19 = true ∧ s.dieRetired 1 = false ∧ s.atbOk 1 0x17 0 = true ∧ s.atbOk 1 0x0C 0 = false :=
  ⟨port 1 (up []), ⟨port_wf 1 (up_wf []), by decide, by decide, by decide, by decide, by decide, by decide⟩, by simp only [State.dieRetired, State.atbOk, State.isSet, port_rd (up_wf [])]; decide⟩

theorem test_ConsoleOfTheServicePort_3 : ∃ s : State, s.Sound ∧ s.rd F.SVC_STATUS.LOCKED [] = 0 ∧ s.inTransition = false ∧ s.mode ≠
    .service ∧ s.mode.acquires = false ∧ s.combAnywhere = false ∧ s.testRuns = false ∧ s.dieRetired 1 = false :=
  ⟨port 0 (up []), ⟨port_wf 0 (up_wf []), by decide, by decide, by decide, by decide, by decide, by decide⟩, by simp only [State.inTransition, State.dieRetired, State.combAnywhere, State.combState, State.testRuns, State.isSet, port_rd (up_wf [])]; decide⟩

theorem test_ConsoleOfTheServicePort_4 : ∃ s : State, s.Sound ∧ s.mode.acquires = true ∧ s.inTransition = false ∧ s.combAnywhere = false
    :=
  ⟨port 0 (in_mode .quad []), ⟨port_wf 0 (in_mode_wf .quad []), by decide, by decide, by decide, by decide, by decide, by decide⟩, by simp only [State.inTransition, State.combAnywhere, State.combState, State.isSet, port_rd (in_mode_wf .quad [])]; decide⟩

theorem test_ConsoleOfTheServicePort_5 : ∃ s : State, s.Sound ∧ s.mode = .service ∧ s.inTransition = false ∧ s.testRuns = false :=
  ⟨port 0 (in_mode .service []), ⟨port_wf 0 (in_mode_wf .service []), by decide, by decide, by decide, by decide, by decide, by decide⟩, by simp only [State.inTransition, State.testRuns, State.isSet, port_rd (in_mode_wf .service [])]; decide⟩

theorem test_ConsoleOfTheServicePort_6 : ∃ s : State, s.Sound ∧ s.rd F.XTO_STATUS.REF_PRESENT [] = 1 ∧ s.refEnabled = false ∧ s.rd
    F.PWR_STATUS.THERMAL [s.control] = 0 ∧ s.claimGoes ⟨.refit, 6, s.control, [10]⟩ = true :=
  ⟨port 0 (up [(F.XTO_STATUS.REF_PRESENT, [], 1), (F.XTO_REF_CTRL.ENABLE, [], 0), (F.HVS_CAP.MW, [], 200000), (F.HVS_BUDGET.MJ, [], 4000000000)]), ⟨port_wf 0 (up_wf [(F.XTO_STATUS.REF_PRESENT, [], 1), (F.XTO_REF_CTRL.ENABLE, [], 0), (F.HVS_CAP.MW, [], 200000), (F.HVS_BUDGET.MJ, [], 4000000000)]), by decide, by decide, by decide, by decide, by decide, by decide⟩, by simp only [State.refEnabled, State.skWorker, State.claimGoes, State.claimFree, State.groupFree, State.isSet, port_rd (up_wf [(F.XTO_STATUS.REF_PRESENT, [], 1), (F.XTO_REF_CTRL.ENABLE, [], 0), (F.HVS_CAP.MW, [], 200000), (F.HVS_BUDGET.MJ, [], 4000000000)])]; decide⟩

theorem test_ConsoleOfTheServicePort_7 : ∃ s : State, s.Sound ∧ s.rd F.SVC_STATUS.LOCKED [] = 0 ∧ s.rd F.XTO_STATUS.REF_PRESENT [] = 0
    :=
  ⟨port 0 (up []), ⟨port_wf 0 (up_wf []), by decide, by decide, by decide, by decide, by decide, by decide⟩, by simp only [State.isSet, port_rd (up_wf [])]; decide⟩

theorem test_ConsoleOfTheServicePort_8 : ∃ s : State, s.Sound ∧ [115200, 230400, 460800, 921600, 1000000, 2000000, 3000000][6]? = some
    3000000 :=
  ⟨up [], ⟨up_wf [], by decide, by decide, by decide, by decide, by decide, by decide⟩, by decide⟩

theorem test_ConsoleOfTheServicePort_9 : ∃ s : State, s.Sound ∧ s.rd F.SVC_STATUS.LOCKOUT [] = 0 ∧ s.rd I.svcChalOn [] = 1 ∧ s.elapsed
    (s.rd I.svcChalAt []) (120 * 1250000000) = false ∧ s.rd I.svcWrongN [] = 0 :=
  ⟨up [(I.svcChalOn, [], 1)], ⟨up_wf [(I.svcChalOn, [], 1)], by decide, by decide, by decide, by decide, by decide, by decide⟩, by decide⟩

theorem test_ConsoleOfTheServicePort_10 : ∃ s : State, s.Sound ∧ s.rd I.svcWrongN [] = 2 ∧ (∀ k : Nat, k < 2 → s.elapsed (s.rd
    I.svcWrongAt [k]) (600 * 1250000000) = false) :=
  ⟨up [(I.svcChalOn, [], 1), (I.svcWrongN, [], 2)], ⟨up_wf [(I.svcChalOn, [], 1), (I.svcWrongN, [], 2)], by decide, by decide, by decide, by decide, by decide, by decide⟩, by decide⟩

theorem test_ConsoleOfTheServicePort_11 : ∃ s : State, s.Sound ∧ s.rd F.SVC_STATUS.LOCKOUT [] = 1 ∧ s.elapsed (s.rd I.svcLockAt []) (60
    * 1250000000) = true ∧ s.rd I.svcBaudWait [] = 1 ∧ s.elapsed (s.rd I.svcBaudAt []) (10 * 1250000000) = true :=
  ⟨{ up [(F.SVC_STATUS.LOCKOUT, [], 1), (I.svcBaudWait, [], 1)] with now := 128 * 60 * 1250000000 }, ⟨up_wf [(F.SVC_STATUS.LOCKOUT, [], 1), (I.svcBaudWait, [], 1)], by decide, by decide, by decide, by decide, by decide, by decide⟩, by decide⟩

theorem test_ConsoleOfTheServicePort_12 : ∃ s : State, s.Sound ∧ s.rd F.SVC_STATUS.LOCKOUT [] = 0 ∧ s.rd I.svcChalOn [] = 1 ∧ s.elapsed
    (s.rd I.svcChalAt []) (120 * 1250000000) = false ∧ ∃ r : Nat, r ≠ s.unlockAnswer :=
  ⟨up [(I.svcChalOn, [], 1)], ⟨up_wf [(I.svcChalOn, [], 1)], by decide, by decide, by decide, by decide, by decide, by decide⟩, ⟨by decide, by decide, by decide, _, Nat.succ_ne_self _⟩⟩

/-- States and operands that meet the hypotheses of ServiceTests. -/
theorem test_ServiceTests_1 : ∃ s : State, s.Sound ∧ s.rd F.SVC_STATUS.LOCKED [] ≠ 0 ∧ s.testRuns = false ∧ s.testAllowed 29 = false ∧
    testKind 29 ≠ .P ∧ testKind 57 = .P :=
  ⟨port 1 (in_mode .hold [(I.bootStep, [], 1)]), ⟨port_wf 1 (in_mode_wf .hold [(I.bootStep, [], 1)]), by decide, by decide, by decide, by decide, by decide, by decide⟩, by simp only [State.testRuns, State.testAllowed, State.dieRetired, State.isSet, port_rd (in_mode_wf .hold [(I.bootStep, [], 1)])]; decide⟩

theorem test_ServiceTests_2 : ∃ s : State, s.Sound ∧ s.rd F.SVC_STATUS.LOCKED [] = 0 ∧ s.testRuns = false ∧ testKind 60 = .P ∧
    s.testAllowed 1 = true ∧ s.testLacks 1 = false ∧ testKind 1 ≠ .S ∧ s.meterSteps 1 ≠ [] :=
  ⟨port 0 (up []), ⟨port_wf 0 (up_wf []), by decide, by decide, by decide, by decide, by decide, by decide⟩, by simp only [State.testRuns, State.testAllowed, State.testLacks, State.dieRetired, State.isSet, port_rd (up_wf [])]; decide⟩

theorem test_ServiceTests_3 : ∃ s : State, s.Sound ∧ s.testRuns = false ∧ s.testAllowed 46 = true ∧ s.testLacks 46 = true :=
  ⟨up [(F.XTO_STATUS.OVEN_READY, [], 0)], ⟨up_wf [(F.XTO_STATUS.OVEN_READY, [], 0)], by decide, by decide, by decide, by decide, by decide, by decide⟩, by decide⟩

theorem test_ServiceTests_4 : ∃ s : State, s.Sound ∧ s.testAllowed 142 = true ∧ s.testLacks 142 = false ∧ testKind 142 = .S ∧ s.fits [0,
    1] (s.testCost 142).1 (s.testCost 142).2 = false :=
  ⟨port 0 (in_mode .service [(F.CNV_STATUS.AVAILABLE, [0, 1], 1)]), ⟨port_wf 0 (in_mode_wf .service [(F.CNV_STATUS.AVAILABLE, [0, 1], 1)]), by decide, by decide, by decide, by decide, by decide, by decide⟩, by simp only [State.testAllowed, State.testLacks, State.isSet, State.fits, State.shareMw, State.shareMj, State.dieRetired, State.testCost, State.cost, port_rd (in_mode_wf .service [(F.CNV_STATUS.AVAILABLE, [0, 1], 1)])]; decide⟩

theorem test_ServiceTests_5 : ∃ s : State, s.Sound ∧ s.testRuns = true ∧ s.testSteps = true ∧ (s.testJudged (s.rd F.SVC_STATUS.TEST_NUM
    [])).isSome = true :=
  ⟨up [(F.SVC_STATUS.TEST_RUN, [], 1), (F.SVC_STATUS.TEST_NUM, [], 230)], ⟨up_wf [(F.SVC_STATUS.TEST_RUN, [], 1), (F.SVC_STATUS.TEST_NUM, [], 230)], by decide, by decide, by decide, by decide, by decide, by decide⟩, by decide⟩

theorem test_ServiceTests_6 : ∃ s : State, s.Sound ∧ s.testSteps = true ∧ s.rd F.SVC_STATUS.TEST_NUM [] ≠ 240 ∧ s.testJudged (s.rd
    F.SVC_STATUS.TEST_NUM []) = none :=
  ⟨up [(F.SVC_STATUS.TEST_RUN, [], 1), (F.SVC_STATUS.TEST_NUM, [], 48)], ⟨up_wf [(F.SVC_STATUS.TEST_RUN, [], 1), (F.SVC_STATUS.TEST_NUM, [], 48)], by decide, by decide, by decide, by decide, by decide, by decide⟩, by decide⟩

theorem test_ServiceTests_7 : ∃ s : State, s.Sound ∧ s.testSteps = true ∧ s.rd F.SVC_STATUS.TEST_NUM [] = 240 :=
  ⟨up [(F.SVC_STATUS.TEST_RUN, [], 1), (F.SVC_STATUS.TEST_NUM, [], 240)], ⟨up_wf [(F.SVC_STATUS.TEST_RUN, [], 1), (F.SVC_STATUS.TEST_NUM, [], 240)], by decide, by decide, by decide, by decide, by decide, by decide⟩, by decide⟩

theorem test_ServiceTests_8 : ∃ s : State, s.Sound ∧ s.testSteps = false ∧ s.testRuns = false :=
  ⟨up [], ⟨up_wf [], by decide, by decide, by decide, by decide, by decide, by decide⟩, by decide⟩

theorem test_ServiceTests_9 : ∃ s : State, s.Sound ∧ s.testRuns = true ∧ s.rd I.svcTestWait [] = 2 ∧ (s.meterSteps 47)[s.rd I.svcMeterN
    []]? = some ⟨0x19, 0, 97000, 103000⟩ ∧ (s.meterSteps 47)[1]? ≠ none ∧ s.elapsed (s.rd I.svcMeterAt []) (300 * 1250000000) = true ∧
    s.elapsed (s.rd I.svcTestAt []) (600 * 1250000000) = true ∧ s.rd I.testDone [] ≠ s.now + 1 :=
  ⟨{ up [(F.SVC_STATUS.TEST_RUN, [], 1), (F.SVC_STATUS.TEST_NUM, [], 47), (I.svcTestWait, [], 2)] with now := 128 * 600 * 1250000000 }, ⟨up_wf [(F.SVC_STATUS.TEST_RUN, [], 1), (F.SVC_STATUS.TEST_NUM, [], 47), (I.svcTestWait, [], 2)], by decide, by decide, by decide, by decide, by decide, by decide⟩, by decide⟩

theorem test_ServiceTests_10 : ∃ s : State, s.Sound ∧ s.testRuns = true ∧ (s.meterSteps 47)[s.rd I.svcMeterN []]? = some ⟨0x19, 0,
    1097000, 1103000⟩ ∧ (s.meterSteps 47)[2 + 1]? = none ∧ State.measuresItself 47 = false :=
  ⟨up [(F.SVC_STATUS.TEST_RUN, [], 1), (F.SVC_STATUS.TEST_NUM, [], 47), (I.svcTestWait, [], 2), (I.svcMeterN, [], 2)], ⟨up_wf [(F.SVC_STATUS.TEST_RUN, [], 1), (F.SVC_STATUS.TEST_NUM, [], 47), (I.svcTestWait, [], 2), (I.svcMeterN, [], 2)], by decide, by decide, by decide, by decide, by decide, by decide⟩, by decide⟩

theorem test_ServiceTests_11 : ∃ s : State, s.Sound ∧ s.testRuns = true ∧ s.rd I.svcTestWait [] = 1 ∧ s.elapsed (s.rd I.svcTestAt [])
    (10 * 1250000000) = true :=
  ⟨{ up [(F.SVC_STATUS.TEST_RUN, [], 1), (I.svcTestWait, [], 1)] with now := 128 * 10 * 1250000000 }, ⟨up_wf [(F.SVC_STATUS.TEST_RUN, [], 1), (I.svcTestWait, [], 1)], by decide, by decide, by decide, by decide, by decide, by decide⟩, by decide⟩

theorem test_ServiceTests_12 : ∃ s : State, s.Sound ∧ s.hostReach 1 = true ∧ s.mode = .service :=
  ⟨in_mode .service [(I.linkL0, [1], 1)], ⟨in_mode_wf .service [(I.linkL0, [1], 1)], by decide, by decide, by decide, by decide, by decide, by decide⟩, by decide⟩

theorem test_ServiceTests_13 : ∃ s : State, s.Sound ∧ s.rd I.atbBy [1] ≠ s.now + 1 ∧ s.freshOf F.SVC_ATB.REJECT [1] = 0 ∧ s.hostReach 1
    = true ∧ s.mode ≠ .service ∧ s.atbOk 1 0x21 135 = true ∧ s.atbOk 1 0x21 136 = false :=
  ⟨up [], ⟨up_wf [], by decide, by decide, by decide, by decide, by decide, by decide⟩, by decide⟩

/-- States and operands that meet the hypotheses of RegisterWritesAndTheTimeStep. -/
theorem test_RegisterWritesAndTheTimeStep_1 : ∃ s : State, s.Sound ∧ s.hostReach 1 = false :=
  ⟨in_mode .hold [], ⟨in_mode_wf .hold [], by decide, by decide, by decide, by decide, by decide, by decide⟩, by decide⟩

theorem test_RegisterWritesAndTheTimeStep_2 : ∃ s : State, s.Sound ∧ s.hostReach 1 = true ∧ regAt 0x3FFFFFC = none :=
  ⟨up [], ⟨up_wf [], by decide, by decide, by decide, by decide, by decide, by decide⟩, by decide⟩

theorem test_RegisterWritesAndTheTimeStep_3 : ∃ s : State, s.Sound ∧ s.hostReach 1 = true ∧ s.dieRetired s.control = false ∧ regAt
    0x30004 = some (.XTO_REF_CTRL, [], 0) ∧ regAt 262144 = some (.SYN_CTRL, [], 0) ∧ regAt 4522000 = some (.SVC_ATB, [], 0) ∧ regAt
    1900608 = some (.EVC_RAISE, [], 0) :=
  ⟨up [], ⟨up_wf [], by decide, by decide, by decide, by decide, by decide, by decide⟩, by decide⟩

theorem test_RegisterWritesAndTheTimeStep_4 : ∃ s : State, s.Sound ∧ s.hostReach 0 = true ∧ regAt (31457280 + 32 * 255 + 8) = some
    (.CUE, [255], 2) :=
  ⟨up [], ⟨up_wf [], by decide, by decide, by decide, by decide, by decide, by decide⟩, by decide⟩

theorem test_RegisterWritesAndTheTimeStep_5 : ∃ s : State, s.Sound ∧ s.hostReach 1 = true ∧ s.dieRetired s.control = true ∧ regAt
    0x30004 = some (.XTO_REF_CTRL, [], 0) ∧ Reg.XTO_REF_CTRL.perPackage = true ∧ Reg.XTO_REF_CTRL.mirrored = false :=
  ⟨up [(F.BOB_RETIRED.OTHER_DIE, [1], 1)], ⟨up_wf [(F.BOB_RETIRED.OTHER_DIE, [1], 1)], by decide, by decide, by decide, by decide, by decide, by decide⟩, by decide⟩

theorem test_RegisterWritesAndTheTimeStep_6 : ∃ s : State, s.Sound ∧ s.rd F.XTO_STATUS.STEP_PENDING [] ≠ 0 ∧ s.rd
    F.XTO_STATUS.REF_PRESENT [] ≠ 0 ∧ s.anyArmed = false :=
  ⟨up [(F.XTO_STATUS.STEP_PENDING, [], 1), (F.XTO_STATUS.REF_PRESENT, [], 1)], ⟨up_wf [(F.XTO_STATUS.STEP_PENDING, [], 1), (F.XTO_STATUS.REF_PRESENT, [], 1)], by decide, by decide, by decide, by decide, by decide, by decide⟩, by decide⟩

theorem test_RegisterWritesAndTheTimeStep_7 : ∃ s : State, s.Sound ∧ s.rd F.XTO_STATUS.STEP_PENDING [] = 0 :=
  ⟨up [], ⟨up_wf [], by decide, by decide, by decide, by decide, by decide, by decide⟩, by decide⟩

theorem test_RegisterWritesAndTheTimeStep_8 : ∃ s : State, s.Sound ∧ s.hostReach 1 = true ∧ s.dieRetired s.control = false ∧ regAt
    0x30004 = some (.XTO_REF_CTRL, [], 0) ∧ Reg.XTO_REF_CTRL ∉ [Reg.HIST, .ACCUM, .COST, .TIM_RES, .MBX_RING_STAT, .SKN_PORT_VIOL] :=
  ⟨up [], ⟨up_wf [], by decide, by decide, by decide, by decide, by decide, by decide⟩, by decide⟩

theorem test_RegisterWritesAndTheTimeStep_9 : ∃ s : State, s.Sound ∧ s.hostReach 1 = true ∧ s.closing = true :=
  ⟨{ up [] with closing := true }, ⟨up_wf [], by decide, by decide, by decide, by decide, by decide, by decide⟩, by decide⟩

/-- States and operands that meet the hypotheses of PendingAndMaskRegisters. -/
theorem test_PendingAndMaskRegisters_1 : ∃ s : State, s.Sound ∧ s.hostReach 1 = true ∧ regAt (0x1D0000 + 28) = some (.EVC_PEND, [7], 0)
    ∧ regAt 0x1D0020 = some (.EVC_MASK, [0], 0) ∧ s.freshOf F.EVC_PEND.PEND [1, 7] = 0 ∧ s.closing = false :=
  ⟨up [], ⟨up_wf [], by decide, by decide, by decide, by decide, by decide, by decide⟩, by decide⟩

theorem test_PendingAndMaskRegisters_2 : ∃ s : State, s.Sound ∧ s.hostReach 1 = true ∧ regAt 0x1D0020 = some (.EVC_MASK, [0], 0) ∧
    s.closing = true :=
  ⟨{ up [] with closing := true }, ⟨up_wf [], by decide, by decide, by decide, by decide, by decide, by decide⟩, by decide⟩

/-- States and operands that meet the hypotheses of TestBusSelection. -/
theorem test_TestBusSelection_1 : ∃ s : State, s.Sound ∧ s.hostReach 1 = true ∧ s.mode = .service :=
  ⟨in_mode .service [(I.linkL0, [1], 1)], ⟨in_mode_wf .service [(I.linkL0, [1], 1)], by decide, by decide, by decide, by decide, by decide, by decide⟩, by decide⟩

theorem test_TestBusSelection_2 : ∃ s : State, s.Sound ∧ s.hostReach 0 = true ∧ s.mode ≠ .service ∧ s.rd F.SVC_STATUS.LOCKED [] = 0 ∧
    s.atbOk 0 (0x0D30 % 256) (0x0D30 / 256 % 256) = true :=
  ⟨port 0 (up []), ⟨port_wf 0 (up_wf []), by decide, by decide, by decide, by decide, by decide, by decide⟩, by simp only [State.hostReach, State.atbOk, State.dieRetired, State.isSet, port_rd (up_wf [])]; decide⟩

theorem test_TestBusSelection_3 : ∃ s : State, s.Sound ∧ s.hostReach 1 = true ∧ State.atbWhenLocked 0xF1 = true ∧ s.atbOk 1 0xF1 0 =
    true :=
  ⟨port 1 (up []), ⟨port_wf 1 (up_wf []), by decide, by decide, by decide, by decide, by decide, by decide⟩, by simp only [State.hostReach, State.atbOk, State.dieRetired, State.isSet, port_rd (up_wf [])]; decide⟩

theorem test_TestBusSelection_4 : ∃ s : State, s.Sound ∧ s.now + 1 < 2 ^ I.atbBy.width ∧ s.rd I.atbBy [0] ≠ s.now + 1 ∧ s.mode ≠
    .service :=
  ⟨up [], ⟨up_wf [], by decide, by decide, by decide, by decide, by decide, by decide⟩, by decide⟩

/-- States and operands that meet the hypotheses of RingReset. -/
theorem test_RingReset_1 : ∃ s : State, s.Sound ∧ s.takesFresh ask ∧ s.rd F.QUE_STATUS.STATE [ask.die, 8063] = 3 ∧ ask.src ≠ .ring (8063
    - 7936) ∧ s.hostReach ask.die = true :=
  ⟨asked [(F.QUE_STATUS.STATE, [1, 8063], 3)], ⟨asked_wf [(F.QUE_STATUS.STATE, [1, 8063], 3)], by decide, by decide, by decide, by decide, by decide, by decide⟩, by unfold State.takesFresh; decide⟩

theorem test_RingReset_2 : ∃ s : State, s.Sound ∧ s.takesFresh ask ∧ s.rd F.QUE_STATUS.STATE [ask.die, 7936] ≠ 3 :=
  ⟨asked [], ⟨asked_wf [], by decide, by decide, by decide, by decide, by decide, by decide⟩, by unfold State.takesFresh; decide⟩

/-- States and operands that meet the hypotheses of LossCancelsTheStep. -/
theorem test_LossCancelsTheStep_1 : ∃ s : State, s.Sound ∧ s.rd F.XTO_STATUS.STEP_PENDING [] ≠ 0 ∧ s.rd F.XTO_STATUS.REF_PRESENT [] ≠ 0
    ∧ s.rd F.XTO_STATUS.REF_STATE [] ≠ 0 :=
  ⟨up [(F.XTO_STATUS.STEP_PENDING, [], 1), (F.XTO_STATUS.REF_PRESENT, [], 1), (F.XTO_STATUS.REF_STATE, [], 1)], ⟨up_wf [(F.XTO_STATUS.STEP_PENDING, [], 1), (F.XTO_STATUS.REF_PRESENT, [], 1), (F.XTO_STATUS.REF_STATE, [], 1)], by decide, by decide, by decide, by decide, by decide, by decide⟩, by decide⟩

theorem test_LossCancelsTheStep_2 : ∃ s : State, s.Sound ∧ s.rd F.SKN_PORT_STATUS.STATE [0] = 3 ∧ s.elapsed (s.rd I.skAlign []) 125000 =
    true :=
  ⟨{ up [(F.XTO_STATUS.STEP_PENDING, [], 1), (F.XTO_STATUS.REF_PRESENT, [], 1), (F.XTO_STATUS.REF_STATE, [], 1), (F.SKN_PORT_STATUS.STATE, [0], 3)] with now := 16000000 }, ⟨up_wf [(F.XTO_STATUS.STEP_PENDING, [], 1), (F.XTO_STATUS.REF_PRESENT, [], 1), (F.XTO_STATUS.REF_STATE, [], 1), (F.SKN_PORT_STATUS.STATE, [0], 3)], by decide, by decide, by decide, by decide, by decide, by decide⟩, by decide⟩

/-- States and operands that meet the hypotheses of RampEndings. -/
theorem test_RampEndings_1 : ∃ s : State, s.Sound ∧ s.rd F.SYN_STATUS.RAMP_ACTIVE [1] = 1 ∧ s.rd F.SYN_STATUS.RAMP_SEG [1] = s.rd
    F.SYN_CTRL.RAMP_LAST [1] ∧ s.rampDur 1 7 ≤ s.rampCycles 1 ∧ s.rd F.SYN_CTRL.RAMP_REPEAT [1] ≠ 0 :=
  ⟨{ up [(F.SYN_STATUS.RAMP_ACTIVE, [1], 1), (F.SYN_STATUS.RAMP_SEG, [1], 7), (F.SYN_CTRL.RAMP_LAST, [1], 7), (F.SYN_CTRL.RAMP_REPEAT, [1], 1), (I.synClk, [1], State.clkBlock)] with now := 128 }, ⟨up_wf [(F.SYN_STATUS.RAMP_ACTIVE, [1], 1), (F.SYN_STATUS.RAMP_SEG, [1], 7), (F.SYN_CTRL.RAMP_LAST, [1], 7), (F.SYN_CTRL.RAMP_REPEAT, [1], 1), (I.synClk, [1], State.clkBlock)], by decide, by decide, by decide, by decide, by decide, by decide⟩, by decide⟩

theorem test_RampEndings_2 : ∃ s : State, s.Sound ∧ s.rampDur 0 0 ≤ s.rampCycles 0 ∧ s.rd F.SYN_CTRL.RAMP_LAST [0] = 0 ∧ s.rd
    F.SYN_CTRL.RAMP_REPEAT [0] = 0 :=
  ⟨up [(F.SYN_STATUS.RAMP_ACTIVE, [0], 1), (F.SYN_RAMP_DUR.DURATION, [0, 0], 0)], ⟨up_wf [(F.SYN_STATUS.RAMP_ACTIVE, [0], 1), (F.SYN_RAMP_DUR.DURATION, [0, 0], 0)], by decide, by decide, by decide, by decide, by decide, by decide⟩, by decide⟩

theorem test_RampEndings_3 : ∃ s : State, s.Sound ∧ s.hostReach 1 = true ∧ 5 % 2 = s.rd F.SYN_CTRL.MODE [1] ∧ bitAt 5 1 = false ∧ bitAt
    5 2 = true ∧ s.rd F.SYN_STATUS.RAMP_ACTIVE [1] = 1 :=
  ⟨up [(F.SYN_STATUS.RAMP_ACTIVE, [1], 1), (F.SYN_CTRL.MODE, [1], 1)], ⟨up_wf [(F.SYN_STATUS.RAMP_ACTIVE, [1], 1), (F.SYN_CTRL.MODE, [1], 1)], by decide, by decide, by decide, by decide, by decide, by decide⟩, by decide⟩

theorem test_RampEndings_4 : ∃ s : State, s.Sound ∧ s.hostReach 0 = true ∧ s.rd F.SYN_STATUS.RAMP_ACTIVE [0] = 1 ∧ regAt (0x40100 + 63 *
    8) = some (.SYN_RAMP_END, [63], 0) ∧ regAt 0x40104 = some (.SYN_RAMP_DUR, [0], 0) :=
  ⟨up [(F.SYN_STATUS.RAMP_ACTIVE, [0], 1)], ⟨up_wf [(F.SYN_STATUS.RAMP_ACTIVE, [0], 1)], by decide, by decide, by decide, by decide, by decide, by decide⟩, by decide⟩

/-- A state and operands that meet a hypothesis of FrameAccumulation. -/
theorem test_FrameAccumulation : ∃ s s' : State, s.Sound ∧ exec (.accCommitDone 1 1) s = .next s' :=
  ⟨up [], _, ⟨up_wf [], by decide, by decide, by decide, by decide, by decide, by decide⟩, rfl⟩

/-- A state and operands that meet a hypothesis of FrameAcquisition. -/
theorem test_FrameAcquisition : ∃ s s' : State, s.Sound ∧ exec (.acqCmdArm 1 2 0) s = .next s' :=
  ⟨up [], _, ⟨up_wf [], by decide, by decide, by decide, by decide, by decide, by decide⟩, rfl⟩

/-- A state and operands that meet a hypothesis of FrameBoot. -/
theorem test_FrameBoot : ∃ s s' : State, s.Sound ∧ exec (.brownOutDetect) s = .next s' :=
  ⟨up [], _, ⟨up_wf [], by decide, by decide, by decide, by decide, by decide, by decide⟩, rfl⟩

/-- A state and operands that meet a hypothesis of FrameCarding. -/
theorem test_FrameCarding : ∃ s s' : State, s.Sound ∧ exec (.cardUpdateClaim 1 1 1) s = .next s' :=
  ⟨up [], _, ⟨up_wf [], by decide, by decide, by decide, by decide, by decide, by decide⟩, rfl⟩

/-- A state and operands that meet a hypothesis of FrameComparators. -/
theorem test_FrameComparators : ∃ s s' : State, s.Sound ∧ exec (.attenWrite 1 1 63) s = .next s' :=
  ⟨up [], _, ⟨up_wf [], by decide, by decide, by decide, by decide, by decide, by decide⟩, rfl⟩

/-- A state and operands that meet a hypothesis of FrameConditioning. -/
theorem test_FrameConditioning : ∃ s s' : State, s.Sound ∧ exec (.eqCtrlWrite 1 1 3) s = .next s' :=
  ⟨up [], _, ⟨up_wf [], by decide, by decide, by decide, by decide, by decide, by decide⟩, rfl⟩

/-- A state and operands that meet a hypothesis of FrameDisplay. -/
theorem test_FrameDisplay : ∃ s s' : State, s.Sound ∧ exec (.vblankStart []) s = .next s' :=
  ⟨up [], _, ⟨up_wf [], by decide, by decide, by decide, by decide, by decide, by decide⟩, rfl⟩

/-- A state and operands that meet a hypothesis of FrameEndurance. -/
theorem test_FrameEndurance : ∃ s s' : State, s.Sound ∧ exec (.unitWorn 0 0) s = .next s' :=
  ⟨up [], _, ⟨up_wf [], by decide, by decide, by decide, by decide, by decide, by decide⟩, rfl⟩

/-- A state and operands that meet a hypothesis of FrameLogic. -/
theorem test_FrameLogic : ∃ s s' : State, s.Sound ∧ exec (.logicInputChange 1 0 [] (0, 0) []) s = .next s' :=
  ⟨up [], _, ⟨up_wf [], by decide, by decide, by decide, by decide, by decide, by decide⟩, rfl⟩

/-- A state and operands that meet a hypothesis of FrameRegisterWrite. -/
theorem test_FrameRegisterWrite : ∃ s s' : State, s.Sound ∧ exec (.registerWrite 1 0x30004 4 (some 0)) s = .next s' :=
  ⟨up [], _, ⟨up_wf [], by decide, by decide, by decide, by decide, by decide, by decide⟩, rfl⟩

/-- A state and operands that meet a hypothesis of FrameTrigger. -/
theorem test_FrameTrigger : ∃ s s' : State, s.Sound ∧ exec (.levelCrossing 0 []) s = .next s' :=
  ⟨up [], _, ⟨up_wf [], by decide, by decide, by decide, by decide, by decide, by decide⟩, rfl⟩

/-- A state and operands that meet a hypothesis of FrameMailboxBlocks. -/
theorem test_FrameMailboxBlocks : ∃ s s' : State, s.Sound ∧ exec (.accSetAvg ask 1 1 1 1 0) s = .next s' :=
  ⟨up [], _, ⟨up_wf [], by decide, by decide, by decide, by decide, by decide, by decide⟩, rfl⟩

/-- A state and operands that meet a hypothesis of FrameMailboxSignal. -/
theorem test_FrameMailboxSignal : ∃ s s' : State, s.Sound ∧ exec (.eqSet ask 1 1) s = .next s' :=
  ⟨up [], _, ⟨up_wf [], by decide, by decide, by decide, by decide, by decide, by decide⟩, rfl⟩

/-- A state and operands that meet a hypothesis of FrameMailboxSystem. -/
theorem test_FrameMailboxSystem : ∃ s s' : State, s.Sound ∧ exec (.nop ask) s = .next s' :=
  ⟨up [], _, ⟨up_wf [], by decide, by decide, by decide, by decide, by decide, by decide⟩, rfl⟩

/-- A state and operands that meet a hypothesis of FramePower. -/
theorem test_FramePower : ∃ s s' : State, s.Sound ∧ exec (.modeTransitionDone) s = .next s' :=
  ⟨up [], _, ⟨up_wf [], by decide, by decide, by decide, by decide, by decide, by decide⟩, rfl⟩

/-- A state and operands that meet a hypothesis of FrameQueues. -/
theorem test_FrameQueues : ∃ s s' : State, s.Sound ∧ exec (.queEnable 1 8191 1) s = .next s' :=
  ⟨up [], _, ⟨up_wf [], by decide, by decide, by decide, by decide, by decide, by decide⟩, rfl⟩

/-- A state and operands that meet a hypothesis of FrameService. -/
theorem test_FrameService : ∃ s s' : State, s.Sound ∧ exec (.consoleHelp) s = .next s' :=
  ⟨up [], _, ⟨up_wf [], by decide, by decide, by decide, by decide, by decide, by decide⟩, rfl⟩

/-- A state and operands that meet a hypothesis of FrameSkein. -/
theorem test_FrameSkein : ∃ s s' : State, s.Sound ∧ exec (.skeinPortTrained 4) s = .next s' :=
  ⟨up [], _, ⟨up_wf [], by decide, by decide, by decide, by decide, by decide, by decide⟩, rfl⟩

/-- A state and operands that meet a hypothesis of FrameTimeBase. -/
theorem test_FrameTimeBase : ∃ s s' : State, s.Sound ∧ exec (.ovenReadyTimer) s = .next s' :=
  ⟨up [], _, ⟨up_wf [], by decide, by decide, by decide, by decide, by decide, by decide⟩, rfl⟩

-- Ill-formed commands -----------------------------------------------------------------------------------------------

/-- A die, a channel, a set or a unit that the hardware has not. -/
theorem test_wf_index : ∀ i ∈ [Instr.synLockLoss 2, .attenSettled 0 2, .overloadTrip 0 0 2 (0, 0), .acqStopCycle 0 3, .levelCrossing 0 [⟨4, List.replicate 71 0⟩],
    .withinDeadline 0 2, .timeoutTermExpiry 0 12, .timGateEnd 0 8, .cmpSettlingEnd 0 12, .logicHoldoffEnd 0 16 0 ⟨[], [], 0, 0⟩, .cueExecute 0 256,
    .coalesceDeadline 0 8192, .distaffEntry 4, .skeinPortTrained 5, .spliceLaneLoss 0 28], i.wf = false := by decide

/-- A word wider than its register, and an index beyond a register array. -/
theorem test_wf_words : ∀ i ∈ [Instr.synModeWrite 0 (2 ^ 32), .registerWrite 0 (2 ^ 26) 4 (some 0), .registerWrite 0 0 8 (some (2 ^ 64)), .eqCoefWrite 0 0 0 32 0,
    .firCoefWrite 0 0 0 256 0, .termConfigWrite 0 0 8 0, .condConfigWrite 0 0 6 0, .trgLevelWrite 0 0 4 0, .cmpCtrlWrite 0 0 3 0,
    .timCueWrite 0 0 2 0 0, .evcRouteWrite 0 256 0, .msixUnmask 0 (some 1024)], i.wf = false := by decide

/-- A mailbox header: a die, a tag, a die field or a ring that there is not. -/
theorem test_wf_header : ∀ i ∈ [Instr.nop ⟨2, .urgent, 0, 0, false⟩, .nop ⟨0, .urgent, 65536, 0, false⟩, .nop ⟨0, .urgent, 0, 256, false⟩,
    .nop ⟨0, .ring 128, 0, 0, false⟩, .answerDeadline 0 (.ring 128), .longCommandComplete 0 65536 1 []], i.wf = false := by decide

/-- A mailbox parameter wider than its place, and a buffer that is too short or whose words are too wide. -/
theorem test_wf_params : ∀ i ∈ [Instr.modeSet ask 256, .ringReset ask 65536, .refSet ask (2 ^ 32), .libQuery ask 0 0 0 0 0 (2 ^ 64) 0 0, .eqLoad ask 0 0 [],
    .eqLoad ask 0 0 (List.replicate 32 (2 ^ 32)), .fwStage ask 0 1 [], .skeinMeasure ask 0 524288], i.wf = false := by decide

/-- A range beyond BAR2, tables of the wrong size, a cause of wear that is 0, and a frame that is not
64 bytes. -/
theorem test_wf_lengths : ∀ i ∈ [Instr.bar2Read 0 (2 ^ 28) 1 [], .bar2Write 0 (2 ^ 28) [0], .harvestPeriod 0 [] [] [],
    .unitWorn 0 0, .unitLost 0 256, .retirement 32768, .joinAckReceive [], .nakReceive 0 [], .echoReqReceive [] 0 0, .summarySend 1,
    .gseqEvaluate (2 ^ 64), .skeinSyncReceive 524288, .thermalReset 32768, .cardUpdateClaim 0 0 0, .imageLoadDone 2 true], i.wf = false := by decide

/-- A console argument out of its range. -/
theorem test_wf_console : ∀ i ∈ [Instr.consoleTest 0, .consoleTest 241, .consoleTestReading 0 0, .consoleAtb 2 0 0, .consoleAtb 0 256 0, .consoleAtb 0 0 256,
    .consoleUnlock (some (2 ^ 32)), .testComplete 5 0 0 [] []], i.wf = false := by decide

/-- Commands at the ends of their ranges are well formed. -/
theorem test_wf_bounds : ∀ i ∈ [Instr.cueExecute 1 255, .coalesceDeadline 1 8191, .nop ⟨1, .ring 127, 65535, 255, true⟩, .consoleTest 240,
    .summarySend (2 ^ 64 - 1024), .bar2Write 1 (2 ^ 28 - 1) [255], .spliceLaneLoss 1 27, .unitWorn 32767 255], i.wf = true := by decide

-- Worked cases of the manual ------------------------------------------------------------------------------------------

/-- S16 values −190 and 8,322 are the codes −3 and 130, and a block of them begins with the bytes 0xFD, 0x0B and a low half of 0x2 (the
worked case of P10 packing). -/
theorem test_p10_packing : p10Code (-190) = -3 ∧ p10Code 8322 = 130 ∧ (p10Group [0x3FD, 0x082]).take 3 = [0xFD, 0x0B, 0x02] := by decide

/-- The words that the worked case of the register chapter gives: CRD_TRIM of slice 109, and the context and doorbell of queue 6,150. -/
theorem test_register_addresses : regAt 0xA05B4 = some (.CRD_TRIM, [0, 109], 0) ∧ regAt 0x260180 = some (.QUE_BASE, [6150], 0) ∧
    regAt 0x360180 = some (.DBL, [6150], 0) := by decide

/-- Three samples of a ramp fill rows 599 to 624 of column 1,023 (the worked case of the phase histogram). -/
theorem test_histogram_column : (mergeColumns (runColumns 4096 (-32768) 64 [(4188160, 4800), (4192256, 6400), (4196352, 8000)])).find? (·.1 == 1023) =
    some (1023, 599, 624) := by decide

/-- A deadline at DT 3,360,000,000 lands in the cycle that handles the block that begins there. -/
theorem test_deadline_lands : ({ in_mode .quad [] with dt := 3360000000 }).lands 3360000000 = true ∧
    ({ in_mode .quad [] with dt := 3359999872 }).lands 3360000000 = false := by decide

/-- A stop 39,240 fraction units before its start, SIGNED: the result is negative (the worked case of the interval units). -/
theorem test_signed_interval : ((((up [(F.TIM_CTRL.SIGNED, [0, 2], 1)]).timInterval 0 2 1 (4096 * 3999999990 + 3000) 4).timInterval 0 2 0
    (4096 * 4000000000 + 1280) 256).timOf 0 2).fifo.map (fun r => (r.value, r.first)) = [(-39240, 4096 * 4000000000 + 1280)] := by decide

/-- A 70 GHz tone that moves by 16 MHz under +100 ppm is a 90 GHz tone of zone 1 (the worked case of the alias probe). -/
theorem test_alias : (fun s : State => (s.rd F.SYN_ALIAS.SUSPECT [0, 0], s.rd F.SYN_ALIAS.ZONE [0, 0], s.rd F.SYN_ALIAS.SIGN [0, 0],
    s.rd F.SYN_ALIAS.EST_MHZ [0, 0])) ((in_mode .quad [(F.SYN_CTRL.ALIAS_EN, [0], 1), (F.SYN_OFFSET.OFFSET, [0], 3276800)]).aliasProbe 0 0
    [(70000000000, 70016000000)]) = (1, 1, 1, 90000) := by decide

/-- The response of the worked case of the mailbox: bytes 0 to 7, 16 and 63. -/
theorem test_response_bytes : (responseBytes 0x0201 0x0031 0 2 0 1 [1]).take 8 = [1, 2, 0x31, 0, 0, 0, 2, 0] ∧
    (responseBytes 0x0201 0x0031 0 2 0 1 [1])[16]? = some 1 ∧ (responseBytes 0x0201 0x0031 0 2 0 1 [1])[63]? = some 0x80 := by decide

/-- A start that costs 6,000 mW against shares of 1,000 mW and 3,500 mJ is admitted at level 3 for 750 mW (the worked case of Harvest). -/
theorem test_derated_start : (fun r : State × Verdict => (r.1.rd F.HVS_SHARE.VALUE [0, 0], r.1.rd F.HVS_SHARE.VALUE [0, 1], r.1.rd F.HVS_STATUS.LEVEL [],
    r.1.rd F.ACC_STATUS.STATE [0, 0], r.1.rd F.ACC_RATE_CAP.MIN_CYCLES [1, 1])) (((in_mode .quad [(F.CNV_STATUS.AVAILABLE, [0, 0], 1),
    (F.ACC_CTRL.AVG_EN, [0, 0], 1), (F.HVS_ALLOW.POLICY, [], 1), (F.HVS_SHARE.VALUE, [0, 0], 1000), (F.HVS_SHARE.VALUE, [0, 1], 3500),
    (F.HVS_SHARE.VALUE, [1, 0], 1000), (F.HVS_SHARE.VALUE, [1, 1], 3500)]).requestAcc 0 0 none)) = (250, 2750, 3, 1, 2000) := by decide

end Sys2Proof.Tests
end

section
/-!
PROOFS. A core cycle of a package with nothing under way (R15, R38, R41).
-/

namespace Sys2Proof.Machine

namespace State

/-- Nothing of the machine's own is under way on channel `c` of die `d`: no interval before its tap moves, no edge phase, no end of test blocks,
no change of the equaliser, no fade, no acquisition being read, no histogram pass. -/
structure ChannelIdle (s : State) (d c : Nat) : Prop where
  card : s.rd I.cardSuff [d, c] ≠ 3
  comb : s.combState d c ≠ 4
  tail : s.rd I.calOpen [d, c] = 0
  bank : s.rd F.EQ_STATUS.ACTIVE_BANK [d, c] = s.rd F.EQ_CTRL.BANK [d, c]
  bypass : s.rd F.EQ_STATUS.BYPASSED [d, c] = s.rd F.EQ_CTRL.BYPASS [d, c]
  fade : s.rd F.FIR_STATUS.FADING [d, c] = 0
  reading : (s.accOf d c).reading = none
  passes : (s.accOf d c).passes = []

/-- Nothing of the machine's own is under way on die `d`: its sample clock keeps to DT or stands, and no rethreading awaits its swap. -/
structure DieIdle (s : State) (d : Nat) : Prop where
  clock : s.offGrid d = false ∨ s.mode = .hold ∨ s.mode = .vigil
  rethread : unitKind (s.rd F.BOB_ACTIVE.UNIT [d]) ≠ 1 ∨ s.rtPhase d ≠ 4 ∧ s.rtPhase d ≠ 5
  channel : ∀ c < 2, s.ChannelIdle d c

/-- An operation over the four channels that leaves each as it is leaves the state as it is. -/
theorem each_channels_eq_self {s : State} {f : State → Nat × Nat → State} (h : ∀ d < 2, ∀ c < 2, f s (d, c) = s) :
    s.each [(0, 0), (0, 1), (1, 0), (1, 1)] f = s := by
  simp only [each_cons, each_nil]
  rw [h 0 (by decide) 0 (by decide), h 0 (by decide) 1 (by decide), h 1 (by decide) 0 (by decide), h 1 (by decide) 1 (by decide)]

-- What a core cycle leaves of an idle channel ------------------------------------------------------------------------

theorem cardMoves_of_idle {s : State} {d c : Nat} (h : s.ChannelIdle d c) : s.cardMoves d c = s := if_pos (.inl h.card)

theorem combEdges_of_idle {s : State} {d c : Nat} (h : s.ChannelIdle d c) : s.combEdges d c = s := by
  unfold combEdges
  rw [beq_false_of_ne h.comb]
  rfl

theorem calTail_of_idle {s : State} {d c : Nat} (h : s.ChannelIdle d c) : s.calTail d c = s := by
  unfold calTail isSet
  rw [h.tail]
  rfl

theorem eqTick_of_idle {s : State} {d c : Nat} (h : s.ChannelIdle d c) : s.eqTick d c = s := by
  refine if_pos ?_
  rw [h.bank, h.bypass, beq_self_eq_true, Bool.or_true]

theorem fadePos_of_idle {s : State} {d c : Nat} (h : s.ChannelIdle d c) : s.fadePos d c = s := by
  unfold fadePos isSet
  rw [h.fade]
  rfl

theorem accTick_of_idle {s : State} {d c : Nat} (h : s.ChannelIdle d c) : s.accTick d c = s := by
  have again : s.accAgain d c = s := by simp only [accAgain, h.reading]
  have pass : s.accPassDone d c = s := by simp only [accPassDone, h.passes]
  have decided : s.accDecide d c = s := by simp only [accDecide, h.reading]
  rw [accTick, again, pass, decided]

-- What a core cycle leaves of an idle package ------------------------------------------------------------------------

theorem calTick_of_idle {s : State} (h : ∀ d < 2, s.DieIdle d) : s.calTick = s :=
  each_channels_eq_self fun d hd c hc => by
    have ch := (h d hd).channel c hc
    simp only [cardMoves_of_idle ch, combEdges_of_idle ch, calTail_of_idle ch]

theorem condTick_of_idle {s : State} (h : ∀ d < 2, s.DieIdle d) : s.condTick = s :=
  each_channels_eq_self fun d hd c hc => by
    have ch := (h d hd).channel c hc
    simp only [eqTick_of_idle ch, fadePos_of_idle ch]

theorem accTicks_of_idle {s : State} (h : ∀ d < 2, s.DieIdle d) : s.accTicks = s :=
  each_channels_eq_self fun d hd c hc => accTick_of_idle ((h d hd).channel c hc)

theorem swapTick_of_idle {s : State} {d : Nat} (h : s.DieIdle d) : s.swapTick d = s :=
  if_pos h.rethread

theorem swapTicks_of_idle {s : State} (h : ∀ d < 2, s.DieIdle d) : s.swapTicks = s := by
  simp only [swapTicks, each_cons, each_nil]
  rw [swapTick_of_idle (h 0 (by decide)), swapTick_of_idle (h 1 (by decide))]

theorem clkTick_of_idle {s : State} {d : Nat} (h : s.DieIdle d) : s.clkTick d = s := by
  refine if_pos ?_
  rcases h.clock with h | h | h <;> simp [h]

theorem engineTick_of_not_acquires {s : State} (h : s.mode.acquires = false) : s.engineTick = s := by
  rw [engineTick, h]
  rfl

theorem engineBlock_of_not_acquires {s : State} (h : s.mode.acquires = false) (d : Nat) : s.engineBlock d = s := by
  rw [engineBlock, h]
  rfl

theorem engineCycle_of_not_acquires {s : State} (h : s.mode.acquires = false) : s.engineCycle = { s with arrivals := [] } := by
  unfold engineCycle
  rw [engineBlock_of_not_acquires h 0, engineBlock_of_not_acquires h 1]

theorem flushHeld_of_none {s : State} (h : s.heldRecs = []) : s.flushHeld = s := by
  rw [flushHeld, h, each_nil, ← h]

theorem runNextActs_of_none {s : State} (h : s.nextActs = []) : s.runNextActs = s := by
  rw [runNextActs, h, each_nil, ← h]

/-- Time alone passes where every sample clock keeps to DT or stands. -/
theorem tick_of_idle {s : State} (h : ∀ d < 2, s.DieIdle d) : s.tick = { s with
    now := s.now + (if s.mode = .vigil then 1600 else 128), dtPrev := s.dt,
    dt := if s.mode = .hold then s.dt else dtAdd s.dt (if s.mode = .vigil then 1600 else 128), fresh := [] } := by
  rw [tick, clkTick_of_idle (h 0 (by decide)), clkTick_of_idle (h 1 (by decide))]

-- The end of a core cycle --------------------------------------------------------------------------------------------

/-- With no moment to act the cycle is no longer closing. -/
theorem runAll_nil (s : State) : s.runAll [] = { s with closing := false } := rfl

/-- The moments that still wait as a cycle ends act, in the order of their ranks. -/
def runLate (s : State) : State := { s with booked := [] }.runAll (s.booked.mergeSort fun a b => decide (lateRank a ≤ lateRank b))

/-- Outside the acquiring modes, where no moment waits for the inputs or for Harvest, the end of a cycle is that of the moments that wait, with
the arrivals taken (R38, R41). -/
theorem endCycle_of_not_acquires {s : State} (hm : s.mode.acquires = false) (hh : s.heldRecs = [])
    (hb : ∀ c ∈ s.booked, beforeEngines c = false ∧ s.asksHarvest c = false) :
    s.endCycle = { s with arrivals := [], closing := false }.runLate := by
  let u : State := { s with closing := false }
  have inputs : s.booked.filter beforeEngines = [] := List.filter_eq_nil_iff.2 fun c hc => by simp [(hb c hc).1]
  have others : s.booked.filter (fun c => !beforeEngines c) = s.booked := List.filter_eq_self.2 fun c hc => by simp [(hb c hc).1]
  have asks : u.booked.filter u.asksHarvest = [] := List.filter_eq_nil_iff.2 fun c hc => by
    rw [show u.asksHarvest c = false from (hb c hc).2]; decide
  have rest : u.booked.filter (fun c => !u.asksHarvest c) = u.booked := List.filter_eq_self.2 fun c hc => by
    rw [show u.asksHarvest c = false from (hb c hc).2]; rfl
  simp only [endCycle, inputs, others, runAll_nil]
  show ({ u with booked := u.booked.filter fun c => !u.asksHarvest c }.runAll
      ((u.booked.filter u.asksHarvest).mergeSort fun a b => decide (askRank a ≤ askRank b))).engineCycle.flushHeld.runLate = _
  rw [asks, rest, List.mergeSort_nil, runAll_nil, engineCycle_of_not_acquires (show u.mode.acquires = false from hm)]
  exact congrArg runLate (flushHeld_of_none (s := { u with arrivals := [] }) hh)

/-- With no moment that waits nothing acts. -/
theorem runLate_of_none {s : State} (h : s.booked = []) : s.runLate = { s with closing := false } := by
  rw [runLate, h, List.mergeSort_nil, runAll_nil, ← h]

/-- A moment that waits alone acts as the cycle closes. -/
theorem runLate_of_one {s t : State} {c : Instr} (h : s.booked = [c]) (e : exec c { s with booked := [], closing := true } = .next t) :
    s.runLate = { t with closing := false } := by
  have act : State.runBooked { s with booked := [], closing := true } c = t := by rw [runBooked, e]
  rw [runLate, h, List.mergeSort_singleton]
  show { State.runBooked { s with booked := [], closing := true } c with closing := false } = _
  rw [act]

/-- Whether a die is idle shows in the registers, the mode and the engines. -/
theorem DieIdle.of_same {s t : State} {d : Nat} (h : s.DieIdle d) (hr : t.regs = s.regs) (hm : t.mode = s.mode) (ha : t.acc = s.acc) :
    t.DieIdle d := by
  cases s; cases t
  subst hr hm ha
  exact ⟨h.clock, h.rethread, fun c hc => let i := h.channel c hc; ⟨i.card, i.comb, i.tail, i.bank, i.bypass, i.fade, i.reading, i.passes⟩⟩

/-- The state after a core cycle in which time alone passes (R15, R41): the clocks move on, and the notes of the cycle go. -/
def afterIdleCycle (s : State) : State :=
  { s with now := s.now + (if s.mode = .vigil then 1600 else 128), dtPrev := s.dt
           dt := if s.mode = .hold then s.dt else dtAdd s.dt (if s.mode = .vigil then 1600 else 128)
           fresh := [], arrivals := [], closing := false }

/-- In a package with nothing under way time alone passes. -/
theorem cycle_of_idle {s : State} (hm : s.mode.acquires = false) (hb : s.booked = []) (hh : s.heldRecs = []) (hn : s.nextActs = [])
    (hi : ∀ d < 2, s.DieIdle d) : s.cycle = s.afterIdleCycle := by
  let u : State := { s with arrivals := [], closing := false }
  have ended : s.endCycle = u := (endCycle_of_not_acquires hm hh (by simp [hb])).trans (runLate_of_none (s := u) hb)
  have idle : ∀ d < 2, u.DieIdle d := fun d hd => (hi d hd).of_same rfl rfl rfl
  have flushed : u.flushHeld = u := flushHeld_of_none hh
  have ticked : u.tick = s.afterIdleCycle := tick_of_idle idle
  have idle' : ∀ d < 2, s.afterIdleCycle.DieIdle d := fun d hd => (hi d hd).of_same rfl rfl rfl
  rw [cycle, ended, calTick_of_idle idle, swapTicks_of_idle idle, flushed, ticked, runNextActs_of_none (s := s.afterIdleCycle) hn,
    condTick_of_idle idle', engineTick_of_not_acquires (s := s.afterIdleCycle) hm, accTicks_of_idle idle']

/-- Such a cycle changes the clocks and its own notes only. -/
theorem afterIdleCycle_frame (s : State) : Frame [] [[.now, .dt, .dtPrev, .fresh, .arrivals, .closing]] s s.afterIdleCycle := by
  refine ⟨fun _ _ => rfl, fun p hp => ?_, rfl⟩
  cases p
  case mem => exact fun _ => rfl
  case now | dt | dtPrev | fresh | arrivals | closing => exact absurd (by decide) hp
  all_goals rfl

end State

/-- Settles O2: with nothing under way a cycle leaves everything but the clocks and its own notes, and one moment that waits acts at its end. -/
theorem idleStepPassesOneCycle : Obligations.IdleStepPassesOneCycle := by
  unfold Obligations.IdleStepPassesOneCycle
  have idleStep : ∀ s : State, s.pending = [] → step s = .next s.cycle := fun s hs => by rw [step, hs]
  refine ⟨idleStep, fun s hs hm hb hh hn hi => ?_, fun c s u hb hh hm hc ha hx => ?_⟩
  · have idle : ∀ d < 2, s.DieIdle d := fun d hd =>
      have ⟨clock, rethread, channel⟩ := hi d hd
      ⟨clock, rethread, fun c hc =>
        have ⟨card, comb, tail, bank, bypass, fade, reading, passes⟩ := channel c hc
        ⟨card, comb, tail, bank, bypass, fade, reading, passes⟩⟩
    exact ⟨s.afterIdleCycle, by rw [idleStep s hs, State.cycle_of_idle hm hb hh hn idle], s.afterIdleCycle_frame, rfl, rfl, rfl, rfl, rfl,
      rfl, rfl⟩
  · exact (State.endCycle_of_not_acquires hm hh (by simp [hb, hc, ha])).trans
      (State.runLate_of_one (s := { s with arrivals := [], closing := false }) hb hx)

end Sys2Proof.Machine
end

section
/-!
PROOFS. The cold and the warm reset of the package, and the commands that make them (R9, R384, R446, R447, R449).
-/

namespace Sys2Proof.Machine

/-- A command completes with what holds of the state that its operation gives. -/
theorem completes_of_eq {c : Instr} {s u t : State} {P : State → Prop} (run : exec c s = .next u) (e : u = t) (h : P t) : Completes c s P :=
  ⟨t, e ▸ run, h⟩

/-- A one-bit field holds a truth value as it is. -/
theorem trunc_one_b2n (b : Bool) : trunc 1 (b2n b) = b2n b := by cases b <;> rfl

namespace State

/-- The entries of the registers that a reset of the package keeps (R9, R447, R473). -/
def resetKeeps (cold : Bool) (k : RegKey) : Bool := keptAlways k || (!cold && (keptWarm k || keptOven k))

/-- The two registers that a reset writes of itself hold no RWS field and nothing of the oven (R447). -/
theorem not_kept_of_written {k : RegKey} (h : k.reg ∈ [Reg.BOOT_RESET_CAUSE, .i_thermHold]) : keptWarm k = false ∧ keptOven k = false := by
  have noRws : ∀ r ∈ [Reg.BOOT_RESET_CAUSE, .i_thermHold], ∀ f ∈ r.fields, f.acc ≠ .RWS := by decide
  have noOven : ∀ r ∈ [Reg.BOOT_RESET_CAUSE, .i_thermHold], r ∉ [Reg.XTO_STATUS, .i_ovenOn, .i_ovenSaved, .i_ovenFirst] := by decide
  constructor
  · exact List.any_eq_false.2 fun f hf => by simp [noRws _ h f hf]
  · have := noOven _ h
    simp only [List.mem_cons, List.not_mem_nil, or_false, not_or] at this
    simp [keptOven, this]

/-- A reset leaves what it keeps, and every other register at its reset value, but for the two that it writes. -/
theorem packageReset_get (s : State) (cold : Bool) (cause : Nat) {k : RegKey} (hk : k.reg ∉ [Reg.BOOT_RESET_CAUSE, .i_thermHold]) :
    (s.packageReset cold cause).regs.get k = if resetKeeps cold k then s.regs.get k else k.reset := by
  simp only [List.mem_cons, List.not_mem_nil, or_false, not_or] at hk
  unfold packageReset wrBool
  extract_lets seen asCold keep start n m
  rw [get_wr_of_reg hk.2, get_wr_of_reg hk.1, get_wr_of_reg hk.1]
  cases h : resetKeeps cold k
  · exact RegFile.get_filter_drop _ _ k fun _ => h
  · exact RegFile.get_filter _ _ k fun _ => h

/-- The two registers that a reset writes: its cause, whether it was cold, and whether the thermal hold stands (R384, R446). -/
theorem packageReset_shows {s : State} (hs : s.Sound) (cold : Bool) {cause : Nat} (hc : cause < 6) :
    bitAt ((s.packageReset cold cause).rd F.BOOT_RESET_CAUSE.CAUSE []) cause = true ∧
      (s.packageReset cold cause).rd F.BOOT_RESET_CAUSE.COLD [] = b2n (cold || (s.booting && s.isSet F.BOOT_RESET_CAUSE.COLD [])) ∧
      (s.packageReset cold cause).rd I.thermHold [] = b2n (cause == causeThermal || (!cold && s.isSet I.thermHold [])) := by
  unfold packageReset wrBool
  extract_lets seen asCold keep start n m
  have wf : n.regs.wf = true := RegFile.wf_filter hs.regs _
  have wf' : m.regs.wf = true := wr_regs_wf (wr_regs_wf wf _ _ _) _ _ _
  refine ⟨?_, ?_, ?_⟩
  · rw [rd_wr_of_reg (by decide), rd_wr_of_lo (by decide), rd_wr_self wf, bitAt_trunc hc, bitAt_setBit_self]
  · rw [rd_wr_of_reg (by decide), rd_wr_self (wr_regs_wf wf _ _ _), trunc_one_b2n]
  · rw [rd_wr_self wf', trunc_one_b2n]

/-- A cold reset puts the package into HOLD and leaves nothing but what no reset changes (R446). -/
theorem coldReset_effect {s : State} (hs : s.Sound) {cause : Nat} (hc : cause < 6) :
    let t := s.packageReset true cause
    t.mode = .hold ∧ t.dt = 0 ∧ t.flash = s.flash ∧
      bitAt (t.rd F.BOOT_RESET_CAUSE.CAUSE []) cause = true ∧ t.rd F.BOOT_RESET_CAUSE.COLD [] = 1 ∧
      ∀ k : RegKey, keptAlways k = false → k.reg ∉ [.BOOT_RESET_CAUSE, .i_thermHold] → t.regs.get k = k.reset := by
  obtain ⟨shown, isCold, _⟩ := packageReset_shows hs true hc
  refine ⟨rfl, rfl, rfl, shown, isCold, fun k ha hk => ?_⟩
  rw [packageReset_get s true cause hk, resetKeeps, ha]
  rfl

/-- A warm reset puts the package into HOLD and keeps the RWS fields, the oven's state and the oven-on time (R447). -/
theorem warmReset_effect {s : State} (hs : s.Sound) {cause : Nat} (hc : cause < 6) :
    let t := s.packageReset false cause
    t.mode = .hold ∧ t.dt = 0 ∧ t.flash = s.flash ∧
      bitAt (t.rd F.BOOT_RESET_CAUSE.CAUSE []) cause = true ∧ (t.rd I.thermHold [] = 1 ↔ cause = 4 ∨ s.rd I.thermHold [] ≠ 0) ∧
      (∀ k : RegKey, keptWarm k = true ∨ keptOven k = true → t.regs.get k = s.regs.get k) ∧
      ∀ k : RegKey, keptWarm k = false → keptOven k = false → keptAlways k = false →
        k.reg ∉ [.BOOT_RESET_CAUSE, .i_thermHold] → t.regs.get k = k.reset := by
  obtain ⟨shown, _, held⟩ := packageReset_shows hs false hc
  refine ⟨rfl, rfl, rfl, shown, ?_, fun k hk => ?_, fun k hw ho ha hk => ?_⟩
  · rw [held]
    simp [b2n, isSet, causeThermal, or_iff_not_imp_left]
  · have other : k.reg ∉ [Reg.BOOT_RESET_CAUSE, .i_thermHold] := fun h => by
      obtain ⟨hw, ho⟩ := not_kept_of_written h
      simp [hw, ho] at hk
    rw [packageReset_get s false cause other, if_pos]
    rcases hk with hk | hk <;> simp [resetKeeps, hk]
  · rw [packageReset_get s false cause hk, resetKeeps, hw, ho, ha]
    rfl

-- When each command resets the package ---------------------------------------------------------------------------------

theorem on_of_false {b : Bool} (h : b = false) (s : State) (f : State → State) : s.on b f = s := by rw [h, on_false]

theorem on_of_true {b : Bool} (h : b = true) (s : State) (f : State → State) : s.on b f = f s := by rw [h, on_true]

theorem bootCtrl_keyed {s : State} {d v : Nat} (reach : s.hostReach d = true) (works : s.dieRetired s.control = false)
    (key : slice v 0 16 = 0x6A5C) (warm : bitAt v 16 = true) :
    s.packageWrite d (writeBootCtrl v) = s.packageReset false causeBootCtrl := by
  rw [packageWrite, hostWrite, on_of_true reach, on_of_true (by rw [works]; rfl), writeBootCtrl, on_of_true (by rw [key, warm]; rfl)]

theorem bootCtrl_unkeyed {s : State} {d v : Nat} (h : slice v 0 16 ≠ 0x6A5C ∨ bitAt v 16 = false) :
    s.packageWrite d (writeBootCtrl v) = s := by
  have ignored : writeBootCtrl v s = s := on_of_false (by rcases h with h | h <;> simp [h]) s _
  unfold packageWrite hostWrite on
  simp only [ignored, ite_self]

theorem thermalReset_hot {s : State} {temp : Nat} (h : 125 * 16 ≤ temp) : s.thermalReset temp = s.packageReset false causeThermal :=
  on_of_true (decide_eq_true h) s _

theorem thermalReset_cool {s : State} {temp : Nat} (h : temp < 125 * 16) : s.thermalReset temp = s :=
  on_of_false (decide_eq_false (Nat.not_le.2 h)) s _

theorem thermalRelease_cool {s : State} {hottest : Nat} (h : hottest < 95 * 16) : s.thermalRelease hottest = s.wr I.thermHold [] 0 :=
  on_of_true (decide_eq_true h) s _

theorem thermalRelease_hot {s : State} {hottest : Nat} (h : 95 * 16 ≤ hottest) : s.thermalRelease hottest = s :=
  on_of_false (decide_eq_false (Nat.not_lt.2 h)) s _

theorem watchdog_running {s : State} (h : s.mode ≠ .hold) : s.watchdog = s.packageReset false causeWatchdog :=
  on_of_true (by rw [Bool.or_eq_true]; exact .inl (bne_iff_ne.2 h)) s _

end State

/-- Settles O8: the five resets are the cold or the warm reset of the package with their cause; a write without the key, and a reading on the
other side of its limit, act on nothing. -/
theorem resetCommandsTakeEffect : Obligations.ResetCommandsTakeEffect := by
  unfold Obligations.ResetCommandsTakeEffect
  refine ⟨fun c src s hs hc => ?cold, fun c src s hs hc => ?warm, fun d v s h => ?unkeyed, fun temp s h => ?cool,
    fun hottest s hs h => ?released, fun hottest s h => ?hot⟩
  case cold =>
    simp only [List.mem_cons, Prod.mk.injEq, List.not_mem_nil, or_false] at hc
    obtain ⟨rfl, rfl⟩ | ⟨rfl, rfl⟩ | ⟨rfl, rfl⟩ := hc <;> exact completes_of_eq rfl rfl (State.coldReset_effect hs (by decide))
  case warm =>
    obtain ⟨d, v, rfl, rfl, reach, works, key, warm⟩ | ⟨temp, rfl, rfl, hot⟩ | ⟨rfl, rfl, runs⟩ := hc
    · exact completes_of_eq rfl (State.bootCtrl_keyed reach works key warm) (State.warmReset_effect hs (by decide))
    · exact completes_of_eq rfl (State.thermalReset_hot hot) (State.warmReset_effect hs (by decide))
    · exact completes_of_eq rfl (State.watchdog_running runs) (State.warmReset_effect hs (by decide))
  case unkeyed => exact completes_of_eq rfl (State.bootCtrl_unkeyed h) rfl
  case cool => exact completes_of_eq rfl (State.thermalReset_cool h) rfl
  case released => exact completes_of_eq rfl (State.thermalRelease_cool h) (State.rd_wr_self hs.regs _ _ _)
  case hot => exact completes_of_eq rfl (State.thermalRelease_hot h) rfl

end Sys2Proof.Machine
end

section
/-!
PROOFS. The frame of the commands of the time base.
-/

namespace Sys2Proof.Machine

/-- A command frames its change by what the operation it calls may change. -/
theorem frame_of_exec {c : Instr} {s s' t : State} {rs : List (List Reg)} {ps : List (List Part)} (h : exec c s = .next s')
    (e : exec c s = .next t) (w : Within (Foot.of rs.flatten ps.flatten) s t) : Frame rs ps s s' := by
  rw [e] at h
  injection h with h
  exact h ▸ w.frame

/-- Settles O60: each command calls one operation of the time base, and what that operation may change lies within the lists. -/
theorem frameTimeBase : Obligations.FrameTimeBase := by
  unfold Obligations.FrameTimeBase
  refine ⟨fun s _ h => ?ovenReadyTimer, fun s _ h => ?warmTimer, fun edge s _ h => ?pullDacUpdate, fun s _ h => ?ovenTimeSave,
    fun offset s _ h => ?ageingRefitGateEnd, fun edge s _ h => ?refQualified, fun s _ h => ?refLost, fun s _ h => ?thawLockTimer,
    fun edge s _ h => ?slewDone, fun s _ h => ?dtStepApply, fun d v s _ h => ?xtoRefCtrlWrite, fun d v s _ h => ?xtoRefResumeWrite,
    fun d s _ h => ?synLockLoss, fun d drift s _ h => ?synDriftMeasure, fun d s _ h => ?synRelock, fun d s _ h => ?synLocked,
    fun d s _ h => ?synLockAttemptFail, fun d v s _ h => ?synModeWrite, fun d v s _ h => ?synRampStart, fun d v s _ h => ?synRampAbort,
    fun d peaks s _ h => ?rampSegmentEnd, fun d s _ h => ?auxLossOfLock, fun d s _ h => ?auxCoastEnd, fun d s _ h => ?auxRelock,
    fun d n v s _ h => ?cueArm, fun d n v s _ h => ?cueCancel, fun d n s _ h => ?cueExecute, fun d v s _ h => ?cldDtSnap⟩
  case ovenReadyTimer => exact frame_of_exec h rfl (State.ovenReady_within (by decide +kernel) (.refl _ s))
  case warmTimer => exact frame_of_exec h rfl (State.warmUp_within (by decide +kernel) (.refl _ s))
  case pullDacUpdate => exact frame_of_exec h rfl (State.pullUpdate_within (by decide +kernel) (.refl _ s) edge)
  case ovenTimeSave => exact frame_of_exec h rfl (State.ovenSave_within (by decide +kernel) (.refl _ s))
  case ageingRefitGateEnd => exact frame_of_exec h rfl (State.refitEnd_within (by decide +kernel) (.refl _ s) offset)
  case refQualified => exact frame_of_exec h rfl (State.refQualified_within (by decide +kernel) (.refl _ s) edge)
  case refLost =>
    exact frame_of_exec h rfl (Within.on (.refl _ s) fun _ hu => State.refLost_within (by decide +kernel) hu)
  case thawLockTimer => exact frame_of_exec h rfl (State.thawLock_within (by decide +kernel) (.refl _ s))
  case slewDone => exact frame_of_exec h rfl (State.slewDone_within (by decide +kernel) (.refl _ s) edge)
  case dtStepApply => exact frame_of_exec h rfl (State.stepApply_within (by decide +kernel) (.refl _ s))
  case xtoRefCtrlWrite | xtoRefResumeWrite =>
    exact frame_of_exec h rfl (State.packageWrite_within (.refl _ s) d _ fun _ hu => State.writeRefCtrl_within (by decide +kernel) hu v)
  case synLockLoss => exact frame_of_exec h rfl (State.synLoss_within (by decide +kernel) (.refl _ s) d)
  case synDriftMeasure => exact frame_of_exec h rfl (State.synDrift_within (by decide +kernel) (.refl _ s) d drift)
  case synRelock => exact frame_of_exec h rfl (State.synRelock_within (by decide +kernel) (.refl _ s) d)
  case synLocked => exact frame_of_exec h rfl (State.synLocked_within (by decide +kernel) (.refl _ s) d)
  case synLockAttemptFail => exact frame_of_exec h rfl (State.synFail_within (by decide +kernel) (.refl _ s) d)
  case synModeWrite | synRampStart | synRampAbort =>
    exact frame_of_exec h rfl (State.hostStatus_within (.refl _ s) d _ fun _ hu => State.writeSynCtrl_within (by decide +kernel) hu d v)
  case rampSegmentEnd => exact frame_of_exec h rfl (State.rampSegment_within (by decide +kernel) (.refl _ s) d peaks)
  case auxLossOfLock => exact frame_of_exec h rfl (State.auxLost_within (by decide +kernel) (.refl _ s) d)
  case auxCoastEnd => exact frame_of_exec h rfl (State.auxCoastEnd_within (by decide +kernel) (.refl _ s) d)
  case auxRelock => exact frame_of_exec h rfl (State.auxLock_within (by decide +kernel) (.refl _ s) d)
  case cueArm | cueCancel =>
    exact frame_of_exec h rfl (State.hostWrite_within (.refl _ s) d _ fun _ hu => State.writeCueWord_within (by decide +kernel) hu d n 2 v)
  case cueExecute =>
    exact frame_of_exec h rfl (Within.on (.refl _ s) fun _ hu => State.atEnd_within (by decide +kernel) hu true _ _ fun _ hv =>
      State.cueExecute_within (by decide +kernel) hv d n)
  case cldDtSnap =>
    exact frame_of_exec h rfl (State.hostWrite_within (.refl _ s) d _ fun _ hu => Within.on hu fun _ hv =>
      Within.wr hv _ _ _ (by decide +kernel))

end Sys2Proof.Machine
end

section
/-!
PROOFS. Two statements that a concrete state of the model refutes.
-/

namespace Sys2Proof.Machine

/-- Refutes O4: the comparators of the overload pairs and of the window monitors (here unit 2, OVL_C0_HI) are enabled at reset, as R288 has it;
the list says of the EN of every unit that it is 0. -/
theorem not_resetValues : ¬ Obligations.ResetValues := by
  unfold Obligations.ResetValues
  intro h
  obtain ⟨_, _, _, _, _, _, _, _, _, _, _, _, _, fields, _⟩ := h
  have off : State.reset.rd F.CMP_CTRL.EN [0, 2] = 0 := fields [0, 2] (F.CMP_CTRL.EN, 0) (by decide)
  have on : State.reset.rd F.CMP_CTRL.EN [0, 2] = 1 := rfl
  omega

namespace State

/-- A sound state, reached by host software, in which the count of late cues, and what the hardware added to it in this cycle, stand one above the
greatest value of the count's 32 bits: soundness bounds no value by the width of its field. -/
def overfullCount : State :=
  { State.reset with
    mode := .ready
    regs := [(⟨.CLD_LATE_COUNT, 0, [0]⟩, 2 ^ 32), (⟨.i_linkL0, 0, [0]⟩, 1)]
    fresh := [(⟨.CLD_LATE_COUNT, 0, [0]⟩, 2 ^ 32)] }

theorem overfullCount_sound : overfullCount.Sound :=
  ⟨by decide, rfl, rfl, rfl, rfl, rfl, rfl⟩

theorem overfullCount_reached : overfullCount.hostReach 0 = true := by decide

theorem lateCount_at : regAt 0x60018 = some (.CLD_LATE_COUNT, [], 0) := by decide

end State

/-- Refutes O35: a read leaves in a field that it clears the lesser of the count and of what the hardware added, cut to the field's width; the
statement leaves it uncut, and where both are 2 ^ 32 in a field of 32 bits the read leaves 0. -/
theorem not_registerWritesAndTheTimeStep : ¬ Obligations.RegisterWritesAndTheTimeStep := by
  unfold Obligations.RegisterWritesAndTheTimeStep
  rintro ⟨_, _, reads, _⟩
  obtain ⟨_, word⟩ := reads 0 0x60018 State.overfullCount State.overfullCount_sound State.overfullCount_reached rfl
  obtain ⟨_, read⟩ := word .CLD_LATE_COUNT [] 0 State.lateCount_at
  obtain ⟨t, ht, _, left⟩ := read (.inl rfl) (by decide)
  have kept : t.rd F.CLD_LATE_COUNT.COUNT [0] = 2 ^ 32 := left ⟨F.CLD_LATE_COUNT.COUNT, .RC, 0⟩ (by decide) rfl
  have cleared : ∀ u, exec (.registerWrite 0 0x60018 4 none) State.overfullCount = .next u → u.rd F.CLD_LATE_COUNT.COUNT [0] = 0 := by
    intro u hu
    injection hu with hu
    subst hu
    decide +kernel
  rw [cleared t ht] at kept
  exact absurd kept (by decide)

end Sys2Proof.Machine
end

section
/-!
PROOFS. Reads after writes, raises and other shared operations, as the proofs about single commands use them (R7, R10, R321).
-/

namespace Sys2Proof.Machine

-- One proof at a time: proofs elaborated side by side ask for more memory than a compile of the whole text may take.
set_option Elab.async false

/-- What a frame leaves alone reads as before. -/
theorem Frame.rd {rs : List (List Reg)} {ps : List (List Part)} {s t : State} (h : Frame rs ps s t) {f : Fld} (hf : f.reg ∉ rs.flatten)
    (ix : List Nat) : t.rd f ix = s.rd f ix := h.regs _ hf

namespace State

/-- A write keeps the state sound. -/
theorem Sound.wr {s : State} (h : s.Sound) {f : Fld} {ix : List Nat} {v : Nat} : (s.wr f ix v).Sound :=
  ⟨wr_regs_wf h.regs f ix v, h.mem, h.acq, h.tims, h.acc, h.layers, h.flash⟩

/-- A field reads the written value where it fits. -/
theorem rd_wr_self_of_lt {s : State} (h : s.Sound) (f : Fld) (ix : List Nat) {v : Nat} (hv : v < 2 ^ f.width) : (s.wr f ix v).rd f ix = v :=
  (rd_wr_self h.regs f ix v).trans (Nat.mod_eq_of_lt hv)

/-- A raise changes the event registers only (R321 to R330). -/
theorem raise_frame (s : State) (d src payload : Nat) : Frame [Reg.ofEvents] [Part.ofEvents] s (s.raise d src payload) :=
  (raise_within (by decide +kernel) (Within.refl _ s) d src payload).frame

theorem raise_sound {s : State} (hs : s.Sound) (d src payload : Nat) : (s.raise d src payload).Sound :=
  (raise_within (M := 2 ^ 700 - 1) (by decide +kernel) (Within.refl _ s) d src payload).sound hs

/-- A field that no event touches reads as before a raise. -/
theorem raise_rd {f : Fld} (hf : f.reg ∉ Reg.ofEvents) (s : State) (d src payload : Nat) (ix : List Nat) :
    (s.raise d src payload).rd f ix = s.rd f ix := (s.raise_frame d src payload).rd (by simpa using hf) ix

@[simp] theorem raise_mode (s : State) (d src payload : Nat) : (s.raise d src payload).mode = s.mode :=
  (s.raise_frame d src payload).parts .mode (by decide)

@[simp] theorem raise_control (s : State) (d src payload : Nat) : (s.raise d src payload).control = s.control :=
  (s.raise_frame d src payload).parts .control (by decide)

/-- A write outside the pending words leaves them. -/
theorem wr_pends {f : Fld} (hf : f.reg ≠ .EVC_PEND) (s : State) (ix : List Nat) (v d src : Nat) : (s.wr f ix v).pends d src = s.pends d src := by
  rw [pends, pends, rd_wr_of_reg (Ne.symm hf)]

end State

end Sys2Proof.Machine
end

section
/-!
PROOFS. The Calendar (R40, R66 to R71): a cue is armed, cancelled, executed; DT is captured.
-/

namespace Sys2Proof.Machine

-- One proof at a time: proofs elaborated side by side ask for more memory than a compile of the whole text may take.
set_option Elab.async false

/-- The registers that the block handled follows from beside the mode and DT: those of SYN and of the sample clock (R40, R59 to R62). -/
def Reg.ofClock : List Reg :=
  [.SYN_STATUS, .SYN_RAMP_DUR, .SYN_RAMP_END, .SYN_OFFSET, .SYN_DRIFT, .i_synClk, .i_rampStart, .i_rampFrom, .i_dtFrac]

namespace State

/-- The block handled is the same where the mode, DT and the clock's registers are. -/
theorem blkOf_congr {s t : State} (hm : t.mode = s.mode) (hd : t.dt = s.dt) (hr : ∀ k : RegKey, k.reg ∈ Reg.ofClock → t.regs.get k = s.regs.get k)
    (d : Nat) : t.blkOf d = s.blkOf d := by
  have same : ∀ {f : Fld}, f.reg ∈ Reg.ofClock → ∀ ix, t.rd f ix = s.rd f ix := fun hf _ => hr _ hf
  have sets : ∀ {f : Fld}, f.reg ∈ Reg.ofClock → ∀ ix, t.isSet f ix = s.isSet f ix := fun hf ix => congrArg (· != 0) (same hf ix)
  have grid : t.offGrid d = s.offGrid d := by simp (disch := decide) only [offGrid, fractional, sets, same]
  have offset : t.offsetNow d = s.offsetNow d := by simp (disch := decide) only [offsetNow, rampCycles, sets, same]
  have rate : t.clkRate d = s.clkRate d := by
    unfold clkRate fractional
    rw [offset, same (by decide), same (by decide), sets (by decide)]
  have inst : ∀ c, t.instOf d c = s.instOf d c := fun c => by simp (disch := decide) only [instOf, grid, rate, dtInst, hd, same]
  simp (disch := decide) only [blkOf, blkSpan, grid, inst, blk, hm, hd, same]

theorem blkOf_wr {f : Fld} (hf : f.reg ∉ Reg.ofClock) (s : State) (ix : List Nat) (v d : Nat) : (s.wr f ix v).blkOf d = s.blkOf d :=
  blkOf_congr (wr_mode ..) (wr_dt ..) (fun _ hk => get_wr_of_reg (fun e => hf (e ▸ hk)) s ix v) d

-- Arming and cancelling (R66) ----------------------------------------------------------------------------------------

/-- What an armed cue and the count of its die show (R66, R67). -/
theorem armCue_shows {s : State} (hs : s.Sound) (d n : Nat) :
    let t := s.armCue d n
    t.rd F.CUE.STATE [d, n] = 1 ∧ t.rd F.CUE.STEPPED [d, n] = 0 ∧
      t.rd F.CUE.LATE [d, n] = b2n (!dtGe (s.rd F.CUE.DT_TICKS [d, n]) (s.blkOf d)) ∧
      t.rd F.CLD_STATUS.PENDING [d] = (s.rd F.CLD_STATUS.PENDING [d] + 1) % 512 ∧
      ∀ f : Fld, f.reg = .CUE → f.lo ∉ [F.CUE.STATE.lo, F.CUE.STEPPED.lo, F.CUE.LATE.lo] → t.rd f [d, n] = s.rd f [d, n] := by
  simp (disch := decide) only [armCue, inc, wrBool, rd_wr_of_reg, rd_wr_of_lo, rd_wr_self hs.regs, rd_wr_self hs.wr.regs, rd_wr_self hs.wr.wr.regs,
    rd_wr_self hs.wr.wr.wr.wr.regs]
  refine ⟨rfl, rfl, trunc_one_b2n _, rfl, fun f hf hl => ?_⟩
  simp only [List.mem_cons, List.not_mem_nil, or_false, not_or] at hl
  obtain ⟨h₁, h₂, h₃⟩ := hl
  rw [rd_wr_of_reg (by rw [hf]; decide), rd_wr_of_reg (by rw [hf]; decide), rd_wr_of_lo h₃, rd_wr_of_lo h₂, rd_wr_of_lo h₁]

/-- Writing STATE 1 to a cue that is not PENDING takes fraction and action from the word and arms it (R66). -/
theorem writeCueWord_arms {s : State} {d n v : Nat} (hp : s.rd F.CUE.STATE [d, n] ≠ 1) (hv : v / 2 ^ 24 % 256 = 1) :
    writeCueWord d n 2 v s = ((s.wr F.CUE.DT_FRAC [d, n] (slice v 0 12)).wr F.CUE.ACTION [d, n] (slice v 16 8)).armCue d n := by
  have asked : (slice v 24 8 == 1) = true := by simpa [slice] using hv
  simp only [writeCueWord, if_neg hp, asked, on_true]

/-- Writing STATE 4 to a PENDING cue that does not execute in this cycle ends it as cancelled (R66). -/
theorem writeCueWord_cancels {s : State} {d n v : Nat} (hp : s.rd F.CUE.STATE [d, n] = 1) (hv : v / 2 ^ 24 % 256 = 4)
    (hd : s.cueDue d n = false) : writeCueWord d n 2 v s = s.endCue d n 4 := by
  have asked : (slice v 24 8 == 4) = true := by simpa [slice] using hv
  simp only [writeCueWord, if_pos hp, asked, hd, Bool.not_false, Bool.and_true, if_true, on_true]

/-- A PENDING cue that executes in this cycle takes no write of that word (R66, R67). -/
theorem writeCueWord_of_due {s : State} {d n v : Nat} (hp : s.rd F.CUE.STATE [d, n] = 1) (hd : s.cueDue d n = true) :
    writeCueWord d n 2 v s = s := by
  simp only [writeCueWord, if_pos hp, hd, Bool.not_true, Bool.and_false, if_true, on_false]

/-- A cue that leaves PENDING shows its new state, and the count of its die falls (R66, R70). -/
theorem endCue_shows {s : State} (hs : s.Sound) (d n : Nat) {state : Nat} (h : state < 256) :
    (s.endCue d n state).rd F.CUE.STATE [d, n] = state ∧
      (s.endCue d n state).rd F.CLD_STATUS.PENDING [d] = (s.rd F.CLD_STATUS.PENDING [d] - 1) % 512 := by
  unfold endCue
  refine ⟨?_, rd_wr_self hs.wr.regs _ _ _⟩
  rw [rd_wr_of_reg (by decide), rd_wr_self_of_lt hs _ _ h]

theorem endCue_sound {s : State} (hs : s.Sound) (d n state : Nat) : (s.endCue d n state).Sound := hs.wr.wr

-- Execution (R67 to R70) ---------------------------------------------------------------------------------------------

/-- How the execution of a late cue ends: CLD_LATE_COUNT and its event (R70). -/
def noteLate (s : State) (d : Nat) (late : Bool) : State := s.on late fun s => (s.count F.CLD_LATE_COUNT.COUNT [d] 1).raise d 35 0

theorem noteLate_frame (s : State) (d : Nat) (late : Bool) :
    Frame [[.CLD_LATE_COUNT], Reg.ofEvents] [Part.ofEvents] s (s.noteLate d late) := by
  refine Within.frame (Within.on (.refl _ s) fun u hu => ?_)
  exact raise_within (by decide +kernel) (count_within (by decide +kernel) hu _ _ _ (by decide +kernel)) _ _ _

theorem noteLate_keeps {s : State} (hs : s.Sound) (d : Nat) (late : Bool) {e x : Nat} (h : s.pends e x = true) :
    (s.noteLate d late).pends e x = true := by
  cases late
  · exact h
  · have sound : (s.count F.CLD_LATE_COUNT.COUNT [d] 1).Sound :=
      (count_within (M := 2 ^ 700 - 1) (by decide +kernel) (.refl _ s) _ _ _ (by decide +kernel)).sound hs
    have counted : (s.count F.CLD_LATE_COUNT.COUNT [d] 1).pends e x = true := (wr_pends (by decide) s [d] _ e x).trans h
    exact raise_keeps sound d 35 0 counted

/-- The instant that a due cue takes: its own, or the first tick of the block where it is late, stepped or past (R67). -/
def cueInstant (s : State) (d n : Nat) : Instant :=
  if s.isSet F.CUE.LATE [d, n] || s.isSet F.CUE.STEPPED [d, n] || !s.landsOn d (s.rd F.CUE.DT_TICKS [d, n]) then 4096 * s.blkOf d
  else s.cueDt d n

/-- A due cue whose action fails with a code (R69, R70). -/
theorem cueRun_of_fails {s : State} {d n code : Nat} (hd : s.cueDue d n = true) (hc : code ≠ 0)
    (ha : s.cueAction d n (s.cueInstant d n) = (s, code)) :
    s.cueRun d n = (((s.wr F.CUE.STATUS [d, n] code).endCue d n 3).raise d 36 0).noteLate d (s.isSet F.CUE.LATE [d, n]) := by
  unfold cueInstant at ha
  simp only [cueRun, hd, Bool.not_true, Bool.false_eq_true, if_false, ha, if_neg hc]
  rfl

/-- Such a cue is FAILED with the code, and CLD_CUE_FAILED is pending. -/
theorem cueRun_failed {s : State} (hs : s.Sound) {d n code : Nat} (hd : s.cueDue d n = true) (hc : code ≠ 0) (hw : code < 2 ^ 32)
    (ha : s.cueAction d n (s.cueInstant d n) = (s, code)) :
    (s.cueRun d n).rd F.CUE.STATE [d, n] = 3 ∧ (s.cueRun d n).rd F.CUE.STATUS [d, n] = code ∧ (s.cueRun d n).pends d 36 = true := by
  rw [cueRun_of_fails hd hc ha]
  have ended : ((s.wr F.CUE.STATUS [d, n] code).endCue d n 3).Sound := endCue_sound hs.wr d n 3
  have tail := noteLate_frame (((s.wr F.CUE.STATUS [d, n] code).endCue d n 3).raise d 36 0) d (s.isSet F.CUE.LATE [d, n])
  refine ⟨?_, ?_, noteLate_keeps (raise_sound ended d 36 0) _ _ (raise_pends ended d 36 0)⟩
  · rw [tail.rd (by decide), raise_rd (by decide), (endCue_shows hs.wr d n (by decide)).1]
  · rw [tail.rd (by decide), raise_rd (by decide), endCue, rd_wr_of_reg (by decide), rd_wr_of_lo (by decide), rd_wr_self_of_lt hs _ _ hw]

/-- The events of a cue that is done change the event registers and the count of late cues only. -/
theorem cueDoneEvents_frame (s : State) (d : Nat) (notify late : Bool) :
    Frame [[.CLD_LATE_COUNT], Reg.ofEvents] [Part.ofEvents] s ((s.on notify fun v => v.raise d 34 0).noteLate d late) := by
  have notified := Within.on (.refl (Foot.of [[.CLD_LATE_COUNT], Reg.ofEvents].flatten [Part.ofEvents].flatten) s) (b := notify)
    fun v hv => raise_within (by decide +kernel) hv d 34 0
  exact (Within.on notified fun v hv =>
    raise_within (by decide +kernel) (count_within (by decide +kernel) hv _ _ _ (by decide +kernel)) d 35 0).frame

/-- A due cue whose action is done (R67, R70). -/
theorem cueRun_of_done {s u : State} {d n : Nat} (hd : s.cueDue d n = true) (ha : s.cueAction d n (s.cueInstant d n) = (u, 0)) :
    s.cueRun d n = (((u.wr F.CUE.EXEC_TICK [d, n] (s.blkOf d)).endCue d n 2).on (s.isSet F.CUE.NOTIFY [d, n]) fun v =>
      v.raise d 34 0).noteLate d (s.isSet F.CUE.LATE [d, n]) := by
  unfold cueInstant at ha
  simp only [cueRun, hd, Bool.not_true, Bool.false_eq_true, if_false, ha, if_true]
  rfl

/-- Such a cue is DONE at the block handled; registers of other blocks are as the action left them. -/
theorem cueRun_done {s u : State} (hu : u.Sound) {d n : Nat} (hd : s.cueDue d n = true) (ha : s.cueAction d n (s.cueInstant d n) = (u, 0)) :
    (s.cueRun d n).rd F.CUE.STATE [d, n] = 2 ∧ (s.cueRun d n).rd F.CUE.EXEC_TICK [d, n] = s.blkOf d % 2 ^ 64 ∧
      ∀ f : Fld, f.reg ∉ [[.CUE, .CLD_STATUS, .CLD_LATE_COUNT], Reg.ofEvents].flatten → ∀ ix, (s.cueRun d n).rd f ix = u.rd f ix := by
  have events := cueDoneEvents_frame ((u.wr F.CUE.EXEC_TICK [d, n] (s.blkOf d)).endCue d n 2) d (s.isSet F.CUE.NOTIFY [d, n])
    (s.isSet F.CUE.LATE [d, n])
  rw [← cueRun_of_done hd ha] at events
  refine ⟨?_, ?_, fun f hf ix => ?_⟩
  · rw [events.rd (by decide), (endCue_shows hu.wr d n (by decide)).1]
  · rw [events.rd (by decide), endCue, rd_wr_of_reg (by decide), rd_wr_of_lo (by decide), rd_wr_self hu.regs]
  · simp only [List.flatten_cons, List.flatten_nil, List.append_nil, List.cons_append, List.nil_append, List.mem_cons, not_or] at hf
    obtain ⟨hcue, hstatus, hrest⟩ := hf
    rw [events.rd (by simpa using hrest), endCue, rd_wr_of_reg hstatus, rd_wr_of_reg hcue, rd_wr_of_reg hcue]

/-- A cue that comes first among those due executes alone (R67). -/
theorem cueExecute_of_first {s : State} {d n : Nat} (hd : s.cueDue d n = true) (hb : s.cuesBefore d n = []) : s.cueExecute d n = s.cueRun d n := by
  simp only [cueExecute, hd, hb, Bool.not_true, Bool.false_eq_true, if_false, each_nil]

-- SNAPSHOT (R68) -----------------------------------------------------------------------------------------------------

/-- A copy of a counter field into another register, index by index below a count. -/
def copyEach (s : State) (d k : Nat) (dst src : Fld) : State := s.each (List.range k) fun s u => s.wr dst [d, u] (s.rd src [d, u])

theorem copyEach_succ (s : State) (d k : Nat) (dst src : Fld) :
    s.copyEach d (k + 1) dst src = (s.copyEach d k dst src).wr dst [d, k] ((s.copyEach d k dst src).rd src [d, k]) := by
  simp only [copyEach, each, List.range_succ, List.foldl_append, List.foldl_cons, List.foldl_nil]

/-- Such a copy leaves other registers, keeps the state sound, and shows each counter below the count. -/
theorem copyEach_shows {s : State} (hs : s.Sound) (d : Nat) {dst src : Fld} (h : src.reg ≠ dst.reg) (k : Nat) :
    (s.copyEach d k dst src).Sound ∧ (∀ f : Fld, f.reg ≠ dst.reg → ∀ ix, (s.copyEach d k dst src).rd f ix = s.rd f ix) ∧
      ∀ u, (s.copyEach d k dst src).rd dst [d, u] = if u < k then trunc dst.width (s.rd src [d, u]) else s.rd dst [d, u] := by
  induction k with
  | zero => exact ⟨hs, fun _ _ _ => rfl, fun _ => rfl⟩
  | succ k ih =>
    obtain ⟨sound, others, shown⟩ := ih
    rw [copyEach_succ]
    refine ⟨sound.wr, fun f hf ix => (rd_wr_of_reg hf ..).trans (others f hf ix), fun u => ?_⟩
    rw [others src h]
    by_cases e : u = k
    · rw [e, rd_wr_self sound.regs, if_pos (Nat.lt_succ_self k)]
    · rw [rd_wr_of_ix (by simpa using e), shown u]
      simp only [Nat.lt_succ_iff_lt_or_eq, e, or_false]

/-- The snapshot as three copies, each where its bit selects it (R68). -/
theorem cueSnapshot_eq (s : State) (d param : Nat) : s.cueSnapshot d param =
    ((s.on (bitAt param 0) fun s => s.copyEach d 8 F.TIM_SNAP.COUNT F.TIM_TOTAL.COUNT).on (bitAt param 1) fun s =>
      (s.copyEach d 12 F.TRG_TERM_SNAP.COUNT F.TRG_TERM_COUNT.COUNT).copyEach d 2 F.TRG_TRIG_SNAP.COUNT I.trigTotal).on (bitAt param 2) fun s =>
        s.copyEach d 12 F.CMP_SNAP.COUNT F.CMP_COUNT.COUNT := rfl

/-- A snapshot keeps the state sound; a selected counter block is copied, one not selected stays. -/
theorem cueSnapshot_shows {s : State} (hs : s.Sound) (d param : Nat) :
    (s.cueSnapshot d param).Sound ∧
      (∀ u < 8, (s.cueSnapshot d param).rd F.TIM_SNAP.COUNT [d, u] =
        if bitAt param 0 then s.rd F.TIM_TOTAL.COUNT [d, u] % 2 ^ 64 else s.rd F.TIM_SNAP.COUNT [d, u]) ∧
      ∀ u < 12, (s.cueSnapshot d param).rd F.CMP_SNAP.COUNT [d, u] =
        if bitAt param 2 then s.rd F.CMP_COUNT.COUNT [d, u] % 2 ^ 32 else s.rd F.CMP_SNAP.COUNT [d, u] := by
  rw [cueSnapshot_eq]
  set a := s.on (bitAt param 0) fun s => s.copyEach d 8 F.TIM_SNAP.COUNT F.TIM_TOTAL.COUNT with ha
  have first : a.Sound ∧ (∀ f : Fld, f.reg ≠ .TIM_SNAP → ∀ ix, a.rd f ix = s.rd f ix) ∧ ∀ u < 8, a.rd F.TIM_SNAP.COUNT [d, u] =
      if bitAt param 0 then s.rd F.TIM_TOTAL.COUNT [d, u] % 2 ^ 64 else s.rd F.TIM_SNAP.COUNT [d, u] := by
    rw [ha]
    obtain ⟨sound, others, shown⟩ := copyEach_shows hs d (dst := F.TIM_SNAP.COUNT) (src := F.TIM_TOTAL.COUNT) (by decide) 8
    cases bitAt param 0
    · exact ⟨hs, fun _ _ _ => rfl, fun _ _ => rfl⟩
    · exact ⟨sound, others, fun u hu => (shown u).trans (if_pos hu)⟩
  set b := a.on (bitAt param 1) fun s => (s.copyEach d 12 F.TRG_TERM_SNAP.COUNT F.TRG_TERM_COUNT.COUNT).copyEach d 2 F.TRG_TRIG_SNAP.COUNT I.trigTotal
    with hb
  have second : b.Sound ∧ ∀ f : Fld, f.reg ≠ .TRG_TERM_SNAP → f.reg ≠ .TRG_TRIG_SNAP → ∀ ix, b.rd f ix = a.rd f ix := by
    rw [hb]
    obtain ⟨sound, others, -⟩ := copyEach_shows first.1 d (dst := F.TRG_TERM_SNAP.COUNT) (src := F.TRG_TERM_COUNT.COUNT) (by decide) 12
    obtain ⟨sound₂, others₂, -⟩ := copyEach_shows sound d (dst := F.TRG_TRIG_SNAP.COUNT) (src := I.trigTotal) (by decide) 2
    cases bitAt param 1
    · exact ⟨first.1, fun _ _ _ _ => rfl⟩
    · exact ⟨sound₂, fun f h₁ h₂ ix => (others₂ f h₂ ix).trans (others f h₁ ix)⟩
  obtain ⟨aSound, aOthers, aShown⟩ := first
  obtain ⟨bSound, bOthers⟩ := second
  obtain ⟨sound, others, shown⟩ := copyEach_shows bSound d (dst := F.CMP_SNAP.COUNT) (src := F.CMP_COUNT.COUNT) (by decide) 12
  have timed : ∀ u < 8, b.rd F.TIM_SNAP.COUNT [d, u] =
      if bitAt param 0 then s.rd F.TIM_TOTAL.COUNT [d, u] % 2 ^ 64 else s.rd F.TIM_SNAP.COUNT [d, u] := fun u hu =>
    (bOthers _ (by decide) (by decide) _).trans (aShown u hu)
  have still : ∀ f : Fld, f.reg ∉ [Reg.TIM_SNAP, .TRG_TERM_SNAP, .TRG_TRIG_SNAP] → ∀ ix, b.rd f ix = s.rd f ix := fun f hf ix => by
    simp only [List.mem_cons, List.not_mem_nil, or_false, not_or] at hf
    exact (bOthers f hf.2.1 hf.2.2 ix).trans (aOthers f hf.1 ix)
  cases bitAt param 2
  · exact ⟨bSound, timed, fun u _ => still _ (by decide) _⟩
  · refine ⟨sound, fun u hu => (others _ (by decide) _).trans (timed u hu), fun u hu => (shown u).trans ?_⟩
    rw [if_pos hu, still _ (by decide)]
    rfl

/-- A reserved action fails with 0x0100 (R69). -/
theorem cueAction_of_reserved {s : State} {d n : Nat} (h : s.rd F.CUE.ACTION [d, n] = 0 ∨ 8 < s.rd F.CUE.ACTION [d, n]) (t : Instant) :
    s.cueAction d n t = (s, 0x0100) := by
  obtain h | h := h
  · simp only [cueAction, h]
  · obtain ⟨k, e⟩ := Nat.exists_eq_add_of_lt h
    have reserved : s.rd F.CUE.ACTION [d, n] = k + 9 := by omega
    simp only [cueAction, reserved]

/-- SKEIN_SYNC fails with 0x0101 on the die without the control role (R68). -/
theorem cueAction_of_skeinSync {s : State} {d n : Nat} (h : s.rd F.CUE.ACTION [d, n] = 8) (hc : d ≠ s.control) (t : Instant) :
    s.cueAction d n t = (s, 0x0101) := by
  simp only [cueAction, h, ne_eq, hc, not_false_eq_true, true_or, if_true]

/-- SNAPSHOT (R68). -/
theorem cueAction_of_snapshot {s : State} {d n : Nat} (h : s.rd F.CUE.ACTION [d, n] = 6) (t : Instant) :
    s.cueAction d n t = (s.cueSnapshot d (s.rd F.CUE.PARAM [d, n]), 0) := by
  simp only [cueAction, h]

-- The commands -------------------------------------------------------------------------------------------------------

/-- A host write that reaches the die acts. -/
theorem hostWrite_of_reach {s : State} {d : Nat} (h : s.hostReach d = true) (f : State → State) : s.hostWrite d f = f s := by
  rw [hostWrite, h, on_true]

end State

/-- What the command does: a due cue waits for the end of its cycle. -/
theorem exec_cueExecute (d n : Nat) (s : State) :
    exec (.cueExecute d n) s = .next (s.on (s.cueDue d n) fun s => s.atEnd true (.cueExecute d n) fun s => s.cueExecute d n) := rfl

/-- A due cue waits for the end of its cycle; there it executes, alone where no cue comes before it (R38, R67). -/
theorem cueExecute_atEnd {s : State} {d n : Nat} {P : State → Prop} (hd : s.cueDue d n = true) (hb : s.cuesBefore d n = [])
    (h : P (s.cueRun d n)) : CompletesAtEnd (.cueExecute d n) s P := by
  have run : exec (.cueExecute d n) s = .next (if !s.closing then s.book (.cueExecute d n) else s.cueRun d n) := by
    rw [exec_cueExecute, hd, State.on_true, State.atEnd, State.cueExecute_of_first hd hb, Bool.true_and]
  refine ⟨fun waits => completes_of_eq run ?_ rfl, fun ends => completes_of_eq run ?_ h⟩
  · rw [waits, Bool.not_false, if_pos rfl]
  · rw [ends, Bool.not_true, if_neg Bool.false_ne_true]

/-- Settles O13, from what arming, ending and running a cue show: each command's case is one of these operations, and the case of a due
cue turns on its being first among the cues of the cycle. -/
theorem calendarCues : Obligations.CalendarCues := by
  unfold Obligations.CalendarCues
  refine ⟨fun d n v s hs reach => ⟨fun hp hv => ?arm, fun hp hv hd => ?cancel, fun hp hd => ?executes, fun hv => ?snap⟩,
    fun d n s hs hd hb => ⟨fun ha => ?reserved, fun ha hc => ?sync, fun ha => ?snapshot⟩, fun d n s hd => ?idle⟩
  case arm =>
    refine completes_of_eq rfl ((State.hostWrite_of_reach reach _).trans (State.writeCueWord_arms hp hv)) ?_
    obtain ⟨state, stepped, late, pending, rest⟩ :=
      State.armCue_shows (s := (s.wr F.CUE.DT_FRAC [d, n] (slice v 0 12)).wr F.CUE.ACTION [d, n] (slice v 16 8)) hs.wr.wr d n
    refine ⟨state, ?_, ?_, stepped, late.trans ?_, pending.trans ?_⟩
    · rw [rest _ rfl (by decide), State.rd_wr_of_lo (by decide), State.rd_wr_self hs.regs]
      simp [slice, trunc]
    · rw [rest _ rfl (by decide), State.rd_wr_self hs.wr.regs]
      simp [slice, trunc]
    · rw [State.blkOf_wr (by decide), State.blkOf_wr (by decide), State.rd_wr_of_lo (by decide), State.rd_wr_of_lo (by decide)]
    · rw [State.rd_wr_of_reg (by decide), State.rd_wr_of_reg (by decide)]
  case cancel =>
    exact completes_of_eq rfl ((State.hostWrite_of_reach reach _).trans (State.writeCueWord_cancels hp hv hd)) (State.endCue_shows hs d n (by decide))
  case executes =>
    exact completes_of_eq rfl ((State.hostWrite_of_reach reach _).trans (State.writeCueWord_of_due hp hd)) rfl
  case snap =>
    refine completes_of_eq rfl ((State.hostWrite_of_reach reach _).trans (by rw [hv, State.on_true])) (State.rd_wr_self hs.regs _ _ _)
  case reserved => exact cueExecute_atEnd hd hb (State.cueRun_failed hs hd (by decide) (by decide) (State.cueAction_of_reserved ha _))
  case sync => exact cueExecute_atEnd hd hb (State.cueRun_failed hs hd (by decide) (by decide) (State.cueAction_of_skeinSync ha hc _))
  case snapshot =>
    obtain ⟨sound, timed, compared⟩ := State.cueSnapshot_shows hs d (s.rd F.CUE.PARAM [d, n])
    obtain ⟨state, tick, rest⟩ := State.cueRun_done sound hd (State.cueAction_of_snapshot ha _)
    refine cueExecute_atEnd hd hb ⟨state, tick, fun u hu => ?_, fun u hu => ?_⟩
    · rw [rest _ (by decide), timed u hu]
    · rw [rest _ (by decide), compared u hu]
  case idle => exact completes_of_eq rfl (by rw [hd, State.on_false]) rfl

end Sys2Proof.Machine
end

section
/-!
PROOFS. The console of the service port (R426 to R434, R441).
-/

namespace Sys2Proof.Machine

-- One proof at a time: proofs elaborated side by side ask for more memory than a compile of the whole text may take.
set_option Elab.async false

namespace State

-- Answers (R428, R429) -----------------------------------------------------------------------------------------------

/-- What follows an answer: CR LF and the prompt of the mode (R429). -/
def prompt (s : State) : List Byte := crlf ++ (if s.mode = .hold then ascii "MV4-ROM> " else ascii "MV4> ")

/-- The answer of a command given in the first state stands in the output of the second. -/
def Answers (s : State) (text : List Byte) (t : State) : Prop := Output.uart (text ++ s.prompt) ∈ t.out

/-- The text of an error answer: its code and the code's name (R429). -/
def errText (code : Nat) : List Byte := ascii "ERR 0x" ++ hexPad 4 code ++ ascii " " ++ ascii (codeName code)

theorem consoleLine_answers {s u : State} (h : u.mode = s.mode) (text : List Byte) : s.Answers text (u.consoleLine text) := by
  simp only [Answers, prompt, consoleLine, print, emit, h, List.append_assoc, List.mem_append, List.mem_singleton, or_true]

theorem consoleOk_answers {s u : State} (h : u.mode = s.mode) (text : List Byte) : s.Answers (ascii "OK" ++ text) (u.consoleOk text) :=
  consoleLine_answers h _

theorem consoleErr_answers {s u : State} (h : u.mode = s.mode) (code : Nat) : s.Answers (errText code) (u.consoleErr code) :=
  consoleLine_answers h _

/-- An output keeps the state sound. -/
theorem Sound.emit {s : State} (h : s.Sound) (o : Output) : (s.emit o).Sound := ⟨h.regs, h.mem, h.acq, h.tims, h.acc, h.layers, h.flash⟩

theorem Answers.wr {s t : State} {text : List Byte} (h : s.Answers text t) (f : Fld) (ix : List Nat) (v : Nat) : s.Answers text (t.wr f ix v) := h

/-- An answer changes no register. -/
@[simp] theorem consoleOk_rd (s : State) (text : List Byte) (f : Fld) (ix : List Nat) : (s.consoleOk text).rd f ix = s.rd f ix := rfl

@[simp] theorem consoleErr_rd (s : State) (code : Nat) (f : Fld) (ix : List Nat) : (s.consoleErr code).rd f ix = s.rd f ix := rfl

-- A command arrives (R430, R431, R433) -------------------------------------------------------------------------------

/-- The state once a complete line has arrived: a new rate is confirmed (R431). -/
def heard (s : State) : State := s.wr I.svcBaudWait [] 0

theorem heard_rd {f : Fld} (h : f.reg ≠ .i_svcBaudWait) (s : State) (ix : List Nat) : s.heard.rd f ix = s.rd f ix := rd_wr_of_reg h ..

theorem heard_isSet {f : Fld} (h : f.reg ≠ .i_svcBaudWait) (s : State) (ix : List Nat) : s.heard.isSet f ix = s.isSet f ix :=
  congrArg (· != 0) (heard_rd h s ix)

theorem Sound.heard {s : State} (hs : s.Sound) : s.heard.Sound := hs.wr

@[simp] theorem heard_mode (s : State) : s.heard.mode = s.mode := rfl

@[simp] theorem heard_control (s : State) : s.heard.control = s.control := rfl

/-- The boot ROM refuses a command that it does not know (R430). -/
theorem console_of_rom {s : State} (h : s.mode = .hold) (whenLocked : Bool) (f : State → State) :
    s.console false whenLocked f = s.heard.consoleErr 0x0400 := if_pos ⟨h, rfl⟩

/-- A locked port refuses a command that R433 does not permit. -/
theorem console_of_locked {s : State} {inRom : Bool} (hr : s.mode = .hold → inRom = true) (hl : s.rd F.SVC_STATUS.LOCKED [] = 1)
    (f : State → State) : s.console inRom false f = s.heard.consoleErr 0x0241 := by
  have locked : s.heard.svcLocked = true := (heard_isSet (by decide) s []).trans (by rw [isSet, hl]; rfl)
  refine (if_neg fun h => ?_).trans (if_pos ⟨locked, rfl⟩)
  simp [hr h.1] at h

/-- Else the command acts. -/
theorem console_acts {s : State} {inRom whenLocked : Bool} (hr : s.mode = .hold → inRom = true)
    (hl : whenLocked = true ∨ s.rd F.SVC_STATUS.LOCKED [] = 0) (f : State → State) : s.console inRom whenLocked f = f s.heard := by
  refine (if_neg fun h => ?_).trans (if_neg fun h => ?_)
  · simp [hr h.1] at h
  · obtain ⟨locked, closed⟩ := h
    have locked := (heard_isSet (by decide) s []).symm.trans locked
    obtain e | e := hl
    · simp [e] at closed
    · simp [isSet, e] at locked

/-- A refusal of the console: the answer, and no register but the one that a line touches. -/
theorem refused_shows {s : State} (code : Nat) : s.Answers (errText code) (s.heard.consoleErr code) ∧
    ∀ k : RegKey, k.reg ≠ .i_svcBaudWait → (s.heard.consoleErr code).regs.get k = s.regs.get k :=
  ⟨consoleErr_answers rfl code, fun _ hk => get_wr_of_reg hk s [] 0⟩

end State

/-- A console command completes where the console lets it act. -/
theorem completes_console {c : Instr} {s : State} {P : State → Prop} {inRom whenLocked : Bool} {f : State → State}
    (run : exec c s = .next (s.console inRom whenLocked f)) (hr : s.mode = .hold → inRom = true)
    (hl : whenLocked = true ∨ s.rd F.SVC_STATUS.LOCKED [] = 0) (h : P (f s.heard)) : Completes c s P :=
  completes_of_eq run (State.console_acts hr hl f) h

namespace State

-- What an answer reads -----------------------------------------------------------------------------------------------

theorem versionBytes_heard (s : State) (d : Nat) : s.heard.versionBytes d = s.versionBytes d := by
  simp (disch := decide) only [versionBytes, heard_rd]
  rfl

theorem statusText_heard (s : State) : s.heard.statusText = s.statusText := by
  simp (disch := decide) only [statusText, heard_rd, heard_isSet]
  rfl

theorem sensorText_heard (s : State) : s.heard.sensorText = s.sensorText := by
  simp (disch := decide) only [sensorText, heard_rd]

theorem unlockAnswer_heard (s : State) : s.heard.unlockAnswer = s.unlockAnswer := by
  simp (disch := decide) only [unlockAnswer, heard_rd]
  rfl

theorem dieRetired_heard (s : State) (d : Nat) : s.heard.dieRetired d = s.dieRetired d := heard_isSet (by decide) s _

theorem inTransition_heard (s : State) : s.heard.inTransition = s.inTransition := heard_isSet (by decide) s _

theorem testRuns_heard (s : State) : s.heard.testRuns = s.testRuns := heard_isSet (by decide) s _

theorem combAnywhere_heard (s : State) : s.heard.combAnywhere = s.combAnywhere := by
  simp (disch := decide) only [combAnywhere, combState, heard_rd]

theorem cost_heard (s : State) (n : Nat) : s.heard.cost n = s.cost n := heard_rd (by decide) s _

theorem fits_heard (s : State) (dies : List Nat) (dp : Int) (e : Nat) : s.heard.fits dies dp e = s.fits dies dp e := by
  have share : ∀ d k, s.heard.rd F.HVS_SHARE.VALUE [d, k] = s.rd F.HVS_SHARE.VALUE [d, k] := fun _ _ => heard_rd (by decide) s _
  have mw : s.heard.shareMw dies = s.shareMw dies := by simp only [shareMw, share]
  have mj : s.heard.shareMj dies = s.shareMj dies := by simp only [shareMj, share]
  rw [fits, fits, mw, mj]

theorem refEnabled_heard (s : State) : s.heard.refEnabled = s.refEnabled := by
  simp (disch := decide) only [refEnabled, skWorker, heard_rd, heard_isSet]


-- A line, and its rate (R428, R430, R431) ----------------------------------------------------------------------------

/-- Characters that neither end a line nor take one back each add one to it. -/
theorem lineLength_of_plain {chars : List Byte} (h : ∀ x ∈ chars, x ∉ [(0x08 : Byte), 0x7F, 0x0A, 0x0D]) (n : Nat) :
    chars.foldl (fun (acc : Nat) c => if c = 0x08 ∨ c = 0x7F then acc - 1 else if c = 0x0A ∨ c = 0x0D then acc else acc + 1) n =
      n + chars.length := by
  induction chars generalizing n with
  | nil => rfl
  | cons c cs ih =>
    have plain := h c (List.mem_cons_self ..)
    simp only [List.mem_cons, List.not_mem_nil, or_false, not_or] at plain
    obtain ⟨h₁, h₂, h₃, h₄⟩ := plain
    rw [List.foldl_cons, if_neg (not_or.2 ⟨h₁, h₂⟩), if_neg (not_or.2 ⟨h₃, h₄⟩), ih fun x hx => h x (List.mem_cons_of_mem c hx),
      List.length_cons]
    omega

/-- A line of such characters: its echo, its confirmation of a rate, and the answer to one that is too long. -/
theorem lineIn_shows {s : State} (hs : s.Sound) {chars : List Byte} (h : ∀ x ∈ chars, x ∉ [(0x08 : Byte), 0x7F, 0x0A, 0x0D]) :
    (255 < chars.length → s.Answers (errText 0x0100) (s.lineIn chars)) ∧
      (s.rd I.svcEcho [] ≠ 0 → Output.uart chars ∈ (s.lineIn chars).out) ∧ (s.lineIn chars).rd I.svcBaudWait [] = 0 := by
  set e := s.on (s.isSet I.svcEcho []) fun s => s.print chars with he
  have eq : s.lineIn chars = e.heard.on (decide (255 < chars.length)) fun s => s.consoleErr 0x0100 := by
    rw [lineIn, lineLength_of_plain h, Nat.zero_add]
    rfl
  have mode : e.mode = s.mode := by rw [he]; cases s.isSet I.svcEcho [] <;> rfl
  have regs : e.regs = s.regs := by rw [he]; cases s.isSet I.svcEcho [] <;> rfl
  have echoed : s.rd I.svcEcho [] ≠ 0 → Output.uart chars ∈ e.out := fun on => by
    have asked : s.isSet I.svcEcho [] = true := bne_iff_ne.2 on
    rw [he, asked]
    exact List.mem_append_right _ (List.mem_singleton_self _)
  have waits : e.heard.rd I.svcBaudWait [] = 0 := rd_wr_self (s := e) (regs ▸ hs.regs) _ _ _
  rw [eq]
  refine ⟨fun long => ?_, fun on => ?_, ?_⟩
  · rw [decide_eq_true long, on_true]
    exact consoleErr_answers (u := e.heard) mode _
  · cases decide (255 < chars.length)
    · exact echoed on
    · exact List.mem_append_left _ (echoed on)
  · cases decide (255 < chars.length)
    · exact waits
    · exact waits

/-- A rate outside the seven is refused (R430). -/
theorem setBaud_of_unknown (s : State) {rate : Nat} (h : rate ∉ baudRates) : s.setBaud rate = s.consoleErr 0x0100 := by
  have none : baudRates.findIdx? (· == rate) = none := List.findIdx?_eq_none_iff.2 fun x hx => beq_eq_false_iff_ne.2 fun e => h (e ▸ hx)
  rw [setBaud, none]

/-- The seven rates differ. -/
theorem baudRates_distinct : ∀ k : Fin baudRates.length, baudRates.findIdx? (· == baudRates.get k) = some k.val := by decide

/-- One of the seven rates holds after its answer (R430, R431). -/
theorem setBaud_of_known (s : State) {k rate : Nat} (h : baudRates[k]? = some rate) :
    s.setBaud rate = (((s.consoleOk []).wr F.SVC_STATUS.BAUD [] k).wr I.svcBaudWait [] 1).wr I.svcBaudAt [] s.now := by
  obtain ⟨hk, e⟩ := List.getElem?_eq_some_iff.1 h
  have found : baudRates.findIdx? (· == rate) = some k := e ▸ baudRates_distinct ⟨k, hk⟩
  rw [setBaud, found]

/-- What it then shows. -/
theorem setBaud_shows {s u : State} (hu : u.Sound) (hm : u.mode = s.mode) {k rate : Nat} (h : baudRates[k]? = some rate) :
    s.Answers (ascii "OK" ++ []) (u.setBaud rate) ∧ (u.setBaud rate).rd F.SVC_STATUS.BAUD [] = k ∧ (u.setBaud rate).rd I.svcBaudWait [] = 1 := by
  have hk : k < 7 := (List.getElem?_eq_some_iff.1 h).1
  have sound : (u.consoleOk []).Sound := hu.emit _
  rw [setBaud_of_known u h]
  refine ⟨((consoleOk_answers hm []).wr _ _ _).wr _ _ _ |>.wr _ _ _, ?_, ?_⟩
  · rw [rd_wr_of_reg (by decide), rd_wr_of_reg (by decide), rd_wr_self_of_lt sound _ _ (hk.trans (by decide))]
  · rw [rd_wr_of_reg (by decide), rd_wr_self_of_lt sound.wr _ _ (by decide)]

-- The lock (R433, R434) ----------------------------------------------------------------------------------------------

/-- A package service's raise is pending on the die with the control role (R72, R444). -/
theorem raisePkg_pends {s : State} (hs : s.Sound) (src payload : Nat) : (s.raisePkg src payload).pends s.control src = true := raise_pends hs _ _ _

@[simp] theorem raisePkg_mode (s : State) (src payload : Nat) : (s.raisePkg src payload).mode = s.mode := raise_mode ..

theorem raisePkg_sound {s : State} (hs : s.Sound) (src payload : Nat) : (s.raisePkg src payload).Sound := raise_sound hs _ _ _

/-- A change of the lock is the only thing that its event comes with. -/
theorem lockEvent_rd {f : Fld} (hf : f.reg ∉ Reg.ofEvents) (s : State) (ix : List Nat) : s.lockEvent.rd f ix = s.rd f ix := raise_rd hf s _ _ _ ix

@[simp] theorem lockEvent_mode (s : State) : s.lockEvent.mode = s.mode := raise_mode ..

/-- SVC_LOCK is pending after a change of the lock (R434). -/
theorem lockEvent_pends {s : State} (hs : s.Sound) : s.lockEvent.pends s.control 250 = true := raise_pends hs _ _ _

@[simp] theorem setLocked_mode (s : State) (v : Nat) : (s.setLocked v).mode = s.mode := by
  unfold setLocked
  split
  · rfl
  · exact lockEvent_mode _

/-- LOCKED shows what it is set to. -/
theorem setLocked_shows {s : State} (hs : s.Sound) {v : Nat} (hv : v < 2) : (s.setLocked v).rd F.SVC_STATUS.LOCKED [] = v := by
  unfold setLocked
  split
  case isTrue h => exact h
  case isFalse => rw [lockEvent_rd (by decide), rd_wr_self_of_lt hs _ _ hv]

theorem setLocked_rd {f : Fld} (hf : f.reg ∉ .SVC_STATUS :: Reg.ofEvents) (s : State) (v : Nat) (ix : List Nat) :
    (s.setLocked v).rd f ix = s.rd f ix := by
  obtain ⟨hstatus, hevents⟩ := not_or.1 (mt List.mem_cons.2 hf)
  unfold setLocked
  split
  · rfl
  · rw [lockEvent_rd hevents, rd_wr_of_reg hstatus]

/-- LOCK locks a port whose maker locks it (R433). -/
theorem lockPort_shows {s u : State} (hu : u.Sound) (hm : u.mode = s.mode) : s.Answers (ascii "OK" ++ []) u.lockPort ∧
    u.lockPort.rd F.SVC_STATUS.LOCKED [] = if Config.lockEnable % 2 = 1 then 1 else u.rd F.SVC_STATUS.LOCKED [] := by
  unfold lockPort
  by_cases h : Config.lockEnable % 2 = 1
  · rw [h, if_pos rfl]
    exact ⟨consoleOk_answers ((setLocked_mode u 1).trans hm) [], setLocked_shows hu (by decide)⟩
  · rw [beq_false_of_ne h, if_neg h]
    exact ⟨consoleOk_answers hm [], rfl⟩

/-- What a wrong answer counts as (R434): the earlier ones within 10 minutes. -/
def recentWrong (s : State) : List Nat :=
  ((List.range (s.rd I.svcWrongN [])).map fun k => s.rd I.svcWrongAt [k]).filter fun t => !s.elapsed t (600 * secondCycles)

/-- One of fewer than three within 10 minutes is recorded. -/
theorem wrongAnswer_of_few {s : State} (h : s.recentWrong.length < 2) : s.wrongAnswer =
    (s.each (s.recentWrong ++ [s.now]).zipIdx fun s x => s.wr I.svcWrongAt [x.2] x.1).wr I.svcWrongN [] (s.recentWrong.length + 1) := by
  have few : (s.recentWrong ++ [s.now]).length < 3 := by rw [List.length_append]; exact Nat.succ_lt_succ h
  have count : (s.recentWrong ++ [s.now]).length = s.recentWrong.length + 1 := by simp
  exact (if_pos few).trans (by rw [← count]; rfl)

/-- The third suspends UNLOCK. -/
theorem wrongAnswer_of_third {s : State} (h : 2 ≤ s.recentWrong.length) : s.wrongAnswer =
    (((s.wr I.svcWrongN [] 0).wr I.svcLockAt [] s.now).wr F.SVC_STATUS.LOCKOUT [] 1).lockEvent := by
  have third : ¬(s.recentWrong ++ [s.now]).length < 3 := by rw [List.length_append]; exact Nat.not_lt.2 (Nat.succ_le_succ h)
  exact if_neg third

end State

/-- The footprint of all registers and parts but those of two lists: what an operation keeps is read off it. -/
def Foot.without (rs : List Reg) (ps : List Part) : Foot := (2 ^ 700 - 1) ^^^ Foot.of rs ps

namespace State

/-- The challenge stands and its answer comes in time (R434). -/
def challengeOpen (s : State) : Bool := s.isSet I.svcChalOn [] && !s.elapsed (s.rd I.svcChalAt []) (120 * secondCycles)

theorem challengeOpen_heard (s : State) : s.heard.challengeOpen = s.challengeOpen := by
  rw [challengeOpen, heard_isSet (by decide), heard_rd (by decide)]
  rfl

theorem wrFree_sound {s : State} (hs : s.Sound) {f : Fld} {ix : List Nat} : (s.wrFree f ix).Sound := by
  have h : (s.wr f ix s.freeVal).Sound := hs.wr
  exact ⟨h.regs, h.mem, h.acq, h.tims, h.acc, h.layers, h.flash⟩

/-- UNLOCK with a response, while it is not suspended. -/
theorem unlock_of_response {s : State} (h : s.rd F.SVC_STATUS.LOCKOUT [] = 0) (r : Nat) : s.unlock (some r) =
    if s.challengeOpen && r == s.unlockAnswer then ((s.wr I.svcChalOn [] 0).setLocked 0).consoleOk []
    else ((s.wr I.svcChalOn [] 0).on s.challengeOpen fun s => s.wrongAnswer).consoleErr 0x0241 := by
  have runs : s.isSet F.SVC_STATUS.LOCKOUT [] = false := by rw [isSet, h]; rfl
  rw [unlock, runs, if_neg Bool.false_ne_true]
  rfl

/-- UNLOCK without a response gives a challenge. -/
theorem unlock_of_none {s : State} (h : s.rd F.SVC_STATUS.LOCKOUT [] = 0) : s.unlock none =
    let t := ((s.wrFree I.svcChal []).wr I.svcChalOn [] 1).wr I.svcChalAt [] s.now
    t.consoleOk (ascii " CHALLENGE " ++ hexPad 8 (t.rd I.svcChal [])) := by
  have runs : s.isSet F.SVC_STATUS.LOCKOUT [] = false := by rw [isSet, h]; rfl
  rw [unlock, runs, if_neg Bool.false_ne_true]

/-- UNLOCK is suspended. -/
theorem unlock_of_lockout {s : State} (h : s.rd F.SVC_STATUS.LOCKOUT [] = 1) (r : Option Nat) : s.unlock r = s.consoleErr 0x0243 := by
  have holds : s.isSet F.SVC_STATUS.LOCKOUT [] = true := by rw [isSet, h]; rfl
  rw [unlock.eq_def, holds, if_pos rfl]

/-- One of the first two wrong answers is only recorded, with their number. -/
theorem wrongAnswer_of_few_shows {s : State} (hs : s.Sound) (h : s.recentWrong.length < 2) :
    s.wrongAnswer.rd I.svcWrongN [] = s.recentWrong.length + 1 ∧
      ∀ f : Fld, f.reg ∉ [Reg.i_svcWrongN, .i_svcWrongAt] → ∀ ix, s.wrongAnswer.rd f ix = s.rd f ix := by
  have recorded := Within.each (M := Foot.of [.i_svcWrongAt] []) (l := (s.recentWrong ++ [s.now]).zipIdx)
    (f := fun s x => s.wr I.svcWrongAt [x.2] x.1) (.refl _ s) fun u x hu => hu.wr _ _ _ (by decide +kernel)
  rw [wrongAnswer_of_few h]
  refine ⟨rd_wr_self_of_lt (recorded.sound hs) _ _ ?_, fun f hf ix => ?_⟩
  · exact (Nat.succ_lt_succ h).trans (by decide)
  · simp only [List.mem_cons, List.not_mem_nil, or_false, not_or] at hf
    rw [rd_wr_of_reg hf.1]
    exact (Within.frame (rs := [[.i_svcWrongAt]]) (ps := []) recorded).rd (by simpa using hf.2) ix

/-- The third suspends UNLOCK, and SVC_LOCK is pending. -/
theorem wrongAnswer_of_third_shows {s : State} (hs : s.Sound) (h : 2 ≤ s.recentWrong.length) :
    s.wrongAnswer.rd F.SVC_STATUS.LOCKOUT [] = 1 ∧ s.wrongAnswer.pends s.control 250 = true ∧
      s.wrongAnswer.rd F.SVC_STATUS.LOCKED [] = s.rd F.SVC_STATUS.LOCKED [] := by
  rw [wrongAnswer_of_third h]
  refine ⟨?_, lockEvent_pends hs.wr.wr.wr, ?_⟩
  · rw [lockEvent_rd (by decide), rd_wr_self_of_lt hs.wr.wr _ _ (by decide)]
  · rw [lockEvent_rd (by decide), rd_wr_of_lo (by decide), rd_wr_of_reg (by decide), rd_wr_of_reg (by decide)]

theorem wrongAnswer_locked {s : State} (hs : s.Sound) : s.wrongAnswer.rd F.SVC_STATUS.LOCKED [] = s.rd F.SVC_STATUS.LOCKED [] := by
  by_cases h : s.recentWrong.length < 2
  · exact (wrongAnswer_of_few_shows hs h).2 _ (by decide) _
  · exact (wrongAnswer_of_third_shows hs (Nat.le_of_not_lt h)).2.2

/-- A wrong answer leaves the challenge as it is. -/
theorem wrongAnswer_chalOn (s : State) : s.wrongAnswer.rd I.svcChalOn [] = s.rd I.svcChalOn [] :=
  (wrongAnswer_within (M := Foot.without [.i_svcChalOn] []) (by decide +kernel) (.refl _ s)).rd _ _ (by decide +kernel)

/-- An answer uses up the challenge; LOCKED is cleared by a right one in time, and stays else. -/
theorem unlock_of_response_shows {s : State} (hs : s.Sound) (h : s.rd F.SVC_STATUS.LOCKOUT [] = 0) (r : Nat) :
    (s.unlock (some r)).rd I.svcChalOn [] = 0 ∧ (s.unlock (some r)).rd F.SVC_STATUS.LOCKED [] =
      if s.challengeOpen && r == s.unlockAnswer then 0 else s.rd F.SVC_STATUS.LOCKED [] := by
  rw [unlock_of_response h]
  have used : (s.wr I.svcChalOn [] 0).rd I.svcChalOn [] = 0 := rd_wr_self_of_lt hs _ _ (by decide)
  cases s.challengeOpen && r == s.unlockAnswer
  case true =>
    rw [if_pos rfl, if_pos rfl, consoleOk_rd, consoleOk_rd]
    exact ⟨(setLocked_rd (by decide) _ _ _).trans used, setLocked_shows hs.wr (by decide)⟩
  case false =>
    have locked : (s.wr I.svcChalOn [] 0).rd F.SVC_STATUS.LOCKED [] = s.rd F.SVC_STATUS.LOCKED [] := rd_wr_of_reg (by decide) ..
    rw [if_neg Bool.false_ne_true, if_neg Bool.false_ne_true, consoleErr_rd, consoleErr_rd]
    cases s.challengeOpen
    · rw [on_false]
      exact ⟨used, locked⟩
    · rw [on_true]
      exact ⟨(wrongAnswer_chalOn _).trans used, (wrongAnswer_locked hs.wr).trans locked⟩

/-- A wrong answer in time is recorded. -/
theorem unlock_of_wrong {s : State} (h : s.rd F.SVC_STATUS.LOCKOUT [] = 0) (open_ : s.challengeOpen = true) {r : Nat} (hr : r ≠ s.unlockAnswer) :
    s.unlock (some r) = ((s.wr I.svcChalOn [] 0).wrongAnswer).consoleErr 0x0241 := by
  rw [unlock_of_response h, open_, beq_false_of_ne hr, on_true]
  rfl

/-- The lockout ends after its 60 s (R434). -/
theorem lockoutEnd_shows {s : State} (hs : s.Sound) (h : s.rd F.SVC_STATUS.LOCKOUT [] = 1)
    (ht : s.elapsed (s.rd I.svcLockAt []) (60 * secondCycles) = true) :
    s.lockoutEnd.rd F.SVC_STATUS.LOCKOUT [] = 0 ∧ s.lockoutEnd.pends s.control 250 = true := by
  have due : (s.isSet F.SVC_STATUS.LOCKOUT [] && s.elapsed (s.rd I.svcLockAt []) (60 * secondCycles)) = true := by rw [ht, isSet, h]; rfl
  rw [lockoutEnd, due, on_true]
  exact ⟨(lockEvent_rd (by decide) _ _).trans (rd_wr_self_of_lt hs _ _ (by decide)), lockEvent_pends hs.wr⟩

/-- The new rate falls back after its 10 s (R431). -/
theorem baudFallback_shows {s : State} (hs : s.Sound) (h : s.rd I.svcBaudWait [] = 1)
    (ht : s.elapsed (s.rd I.svcBaudAt []) (10 * secondCycles) = true) :
    s.baudFallback.rd F.SVC_STATUS.BAUD [] = 0 ∧ s.baudFallback.rd I.svcBaudWait [] = 0 := by
  have due : (s.isSet I.svcBaudWait [] && s.elapsed (s.rd I.svcBaudAt []) (10 * secondCycles)) = true := by rw [ht, isSet, h]; rfl
  rw [baudFallback, due, on_true]
  exact ⟨(rd_wr_of_reg (by decide) ..).trans (rd_wr_self_of_lt hs _ _ (by decide)), rd_wr_self_of_lt hs.wr _ _ (by decide)⟩

-- The analogue test bus (R441) ---------------------------------------------------------------------------------------

theorem consoleAtb_of_noOutput (s : State) {a : Nat} (h : 2 ≤ a) (point index : Nat) : s.consoleAtb a point index = s.consoleErr 0x0100 := if_pos h

theorem consoleAtb_of_retired {s : State} {a : Nat} (h : a < 2) (hr : s.dieRetired a = true) (point index : Nat) :
    s.consoleAtb a point index = s.consoleErr 0x020A := (if_neg (Nat.not_le.2 h)).trans (if_pos hr)

theorem consoleAtb_of_noPoint {s : State} {a : Nat} (h : a < 2) (hr : s.dieRetired a = false) {point index : Nat}
    (hp : s.atbOk a point index = false) : s.consoleAtb a point index = s.consoleErr 0x0100 := by
  rw [consoleAtb, if_neg (Nat.not_le.2 h), hr, hp, if_neg Bool.false_ne_true, if_neg Bool.false_ne_true]

/-- A point that an output can carry has a code and an index of one byte each. -/
theorem lt_of_atbOk {s : State} {a point index : Nat} (h : s.atbOk a point index = true) : point < 256 ∧ index < 256 := by
  simp only [atbOk] at h
  split_ifs at h <;> simp only [Bool.and_eq_true, Bool.or_eq_true, beq_iff_eq, decide_eq_true_eq] at * <;> omega

/-- A listed point is routed (R441). -/
theorem consoleAtb_routes {s u : State} (hu : u.Sound) (hm : u.mode = s.mode) {a point index : Nat} (h : a < 2) (hr : u.dieRetired a = false)
    (hp : u.atbOk a point index = true) : s.Answers (ascii "OK" ++ []) (u.consoleAtb a point index) ∧
      (u.consoleAtb a point index).rd F.SVC_ATB.POINT [a] = point ∧ (u.consoleAtb a point index).rd F.SVC_ATB.INDEX [a] = index := by
  obtain ⟨hpoint, hindex⟩ := lt_of_atbOk hp
  have routed : u.consoleAtb a point index = ((u.setAtb a point index).wr I.atbBy [a] (u.now + 1)).consoleOk [] := by
    rw [consoleAtb, if_neg (Nat.not_le.2 h), hr, hp, if_neg Bool.false_ne_true, if_pos rfl]
  rw [routed]
  refine ⟨consoleOk_answers hm [], ?_, ?_⟩
  · rw [consoleOk_rd, rd_wr_of_reg (by decide), setAtb, rd_wr_of_lo (by decide), rd_wr_self_of_lt hu _ _ hpoint]
  · rw [consoleOk_rd, rd_wr_of_reg (by decide), setAtb, rd_wr_self_of_lt hu.wr _ _ hindex]


-- Transitions of the mode (R34, R374) --------------------------------------------------------------------------------

/-- A transition that begins shows its target on both dies (R34). -/
theorem startMode_shows {s : State} (hs : s.Sound) {target : Nat} (ht : target < 8) (cause : Nat) {d : Nat} (hd : d < 2) :
    (s.startMode target cause).rd F.PWR_MODE.TRANSITION [d] = 1 ∧ (s.startMode target cause).rd F.PWR_MODE.TARGET [d] = target := by
  simp only [startMode, each_cons, each_nil]
  set u := (s.wr I.modeMw [] _).wr I.modeCause [] cause with hu
  have sound : u.Sound := hs.wr.wr
  have hd : d = 0 ∨ d = 1 := by omega
  rcases hd with rfl | rfl
  · refine ⟨?_, ?_⟩
    · rw [rd_wr_of_ix (by decide), rd_wr_of_ix (by decide), rd_wr_of_lo (by decide), rd_wr_self_of_lt sound _ _ (by decide)]
    · rw [rd_wr_of_ix (by decide), rd_wr_of_ix (by decide), rd_wr_self_of_lt sound.wr _ _ ht]
  · refine ⟨?_, rd_wr_self_of_lt sound.wr.wr.wr _ _ ht⟩
    rw [rd_wr_of_lo (by decide), rd_wr_self_of_lt sound.wr.wr _ _ (by decide)]

theorem startMode_mode (s : State) (target cause : Nat) : (s.startMode target cause).mode = s.mode :=
  (startMode_within (M := Foot.without [] [.mode]) (by decide +kernel) (.refl _ s) target cause).parts .mode (by decide +kernel)

/-- Where the mode acquires, every channel stops as by a host stop command at the next block (R35). -/
def stopChannels (s : State) : State :=
  s.on s.mode.acquires fun s => s.each [0, 1] fun s d => s.each [0, 1, 2] fun s a => s.requestStop d a (4096 * s.nextBlk d)

theorem stopChannels_within (s : State) : Within (Foot.without [] [.mode]) s s.stopChannels :=
  Within.on (.refl _ s) fun _ h => Within.each h fun _ _ h => Within.each h fun _ _ h => requestStop_within (by decide +kernel) h _ _ _

/-- SERVICE ENTER that goes (R35, R113): the channels that run are stopped, and the transition begins. -/
theorem serviceEnter_goes {s : State} {force : Bool} (ht : s.inTransition = false) (hc : s.combAnywhere = false) (hh : s.mode ≠ .hold)
    (hs : s.mode ≠ .service) (ha : s.mode.acquires = false ∨ force = true) :
    s.serviceEnter force = ((s.stopChannels.wrBool I.svcForced [] force).startMode 2 2).consoleOk [] := by
  have may : ¬(s.mode = .hold ∨ s.mode = .service ∨ (s.mode.acquires = true ∧ (!force) = true)) := by
    rintro (h | h | ⟨h, h'⟩)
    · exact hh h
    · exact hs h
    · obtain e | e := ha
      · rw [e] at h; cases h
      · rw [e] at h'; cases h'
  rw [serviceEnter, ht, hc, if_neg Bool.false_ne_true, if_neg Bool.false_ne_true, if_neg may]
  rfl

/-- What it then shows. -/
theorem serviceEnter_shows {s u : State} (hu : u.Sound) (hm : u.mode = s.mode) {force : Bool} (ht : u.inTransition = false)
    (hc : u.combAnywhere = false) (hh : u.mode ≠ .hold) (hs : u.mode ≠ .service) (ha : u.mode.acquires = false ∨ force = true) :
    s.Answers (ascii "OK" ++ []) (u.serviceEnter force) ∧ ∀ d : Nat, d < 2 →
      (u.serviceEnter force).rd F.PWR_MODE.TRANSITION [d] = 1 ∧ (u.serviceEnter force).rd F.PWR_MODE.TARGET [d] = 2 := by
  have mode : (u.stopChannels.wrBool I.svcForced [] force).mode = u.mode := u.stopChannels_within.parts .mode (by decide +kernel)
  have sound : (u.stopChannels.wrBool I.svcForced [] force).Sound := (u.stopChannels_within.sound hu).wr
  rw [serviceEnter_goes ht hc hh hs ha]
  refine ⟨consoleOk_answers ((startMode_mode ..).trans (mode.trans hm)) [], fun d hd => ?_⟩
  rw [consoleOk_rd, consoleOk_rd]
  exact startMode_shows sound (by decide) 2 hd

/-- SERVICE EXIT that goes (R35, R432). -/
theorem serviceExit_shows {s u : State} (hu : u.Sound) (hm : u.mode = s.mode) (hc : u.combAnywhere = false) (ht : u.testRuns = false)
    (hi : u.inTransition = false) (hs : u.mode = .service) :
    s.Answers (ascii "OK" ++ []) u.serviceExit ∧ ∀ d : Nat, d < 2 →
      u.serviceExit.rd F.PWR_MODE.TRANSITION [d] = 1 ∧ u.serviceExit.rd F.PWR_MODE.TARGET [d] = 3 := by
  have goes : u.serviceExit = (u.startMode 3 2).consoleOk [] := by
    rw [serviceExit, hc, ht, hi, if_neg Bool.false_ne_true, if_neg Bool.false_ne_true, if_neg Bool.false_ne_true, if_neg (not_not.2 hs)]
  rw [goes]
  refine ⟨consoleOk_answers ((startMode_mode ..).trans hm) [], fun d hd => ?_⟩
  rw [consoleOk_rd, consoleOk_rd]
  exact startMode_shows hu (by decide) 2 hd

/-- What a wake draws: its transition at the shares' cost, and OVER where they do not hold it (R374, R377). -/
def wakeCharged (s : State) : State :=
  let dp : Int := (s.modeCost .ready : Int) - s.modeCost .vigil
  let t := s.charge [0, 1] dp (s.cost 18)
  if s.fits [0, 1] dp (s.cost 18) then t
  else (t.wr F.HVS_STATUS.OVER [] 1).raisePkg 13 (t.rd F.HVS_STATUS.LEVEL [] + 2 ^ 4 * b2n (decide ((s.shareMw [0, 1] : Int) < dp))
    + 2 ^ 5 * b2n (decide ((s.shareMj [0, 1] : Int) < dp + s.cost 18)))

/-- WAKE# is asserted towards the links that sleep (R374). -/
def wakePins (s : State) : State :=
  s.each [0, 1] fun s d =>
    s.on (s.isSet F.PWR_WAKE_CTRL.WAKE_PIN_EN [] && s.isSet I.linkDeep [d] && !s.isSet I.linkL0 [d]) fun s =>
      (s.emit (.pin d pinWake false)).wr I.wakePin [d] 1

theorem wakeBegin_eq (s : State) (mask unit die : Nat) : s.wakeBegin mask unit die =
    (((s.wakeCharged.wakeCause mask unit die).wr I.wakeOn [] 1).wr I.wakeAt [] s.wakeCharged.now).wakePins.startMode 3 1 := rfl

theorem wakePins_within {M : Foot} (hM : Foot.Sub (Foot.of [.i_wakePin] [.out]) M) {s₀ s : State} (h : Within M s₀ s) :
    Within M s₀ s.wakePins :=
  Within.each h fun _ _ h => Within.on h fun _ h => (h.emit _ (hM.has (by decide))).wr _ _ _ (hM.has (by decide))

/-- The causes that PWR_WAKE_CAUSE then shows (R374). -/
theorem wakeCause_shows {s : State} (hs : s.Sound) (mask unit die : Nat) : (s.wakeCause mask unit die).rd F.PWR_WAKE_CAUSE.CAUSE [] = mask % 16 := by
  have cause : ((s.wr F.PWR_WAKE_CAUSE.CAUSE [] (mask % 16)).wr F.PWR_WAKE_CAUSE.AUX_LOSS [] (slice mask 9 1)).rd F.PWR_WAKE_CAUSE.CAUSE [] =
      mask % 16 := by
    have fits : mask % 16 < 2 ^ F.PWR_WAKE_CAUSE.CAUSE.width := Nat.mod_lt mask (by decide)
    rw [rd_wr_of_lo (by decide), rd_wr_self_of_lt hs _ _ fits]
  unfold wakeCause
  cases bitAt mask 0
  · exact cause
  · rw [on_true, rd_wr_of_lo (by decide), rd_wr_of_lo (by decide), cause]

/-- A wake that begins (R374): VIGIL to READY on both dies, with its causes. -/
theorem wakeBegin_shows {s : State} (hs : s.Sound) (mask unit die : Nat) :
    (s.wakeBegin mask unit die).rd F.PWR_WAKE_CAUSE.CAUSE [] = mask % 16 ∧ ∀ d : Nat, d < 2 →
      (s.wakeBegin mask unit die).rd F.PWR_MODE.TRANSITION [d] = 1 ∧ (s.wakeBegin mask unit die).rd F.PWR_MODE.TARGET [d] = 3 := by
  have charged : s.wakeCharged.Sound := by
    have draws := charge_within (M := Foot.without [] []) (by decide +kernel) (.refl _ s) [0, 1]
      ((s.modeCost .ready : Int) - s.modeCost .vigil) (s.cost 18)
    exact (Within.ite draws (raisePkg_within (by decide +kernel) (draws.wr _ _ _ (by decide +kernel)) _ _)).sound hs
  have caused := (wakeCause_within (M := Foot.without [] []) (by decide +kernel) (.refl _ _) mask unit die).sound charged
  have pins := wakePins_within (M := Foot.without [.PWR_WAKE_CAUSE] []) (by decide +kernel)
    (.refl _ (((s.wakeCharged.wakeCause mask unit die).wr I.wakeOn [] 1).wr I.wakeAt [] s.wakeCharged.now))
  rw [wakeBegin_eq]
  refine ⟨?_, fun d hd => startMode_shows (pins.sound caused.wr.wr) (by decide) 1 hd⟩
  rw [(startMode_within (M := Foot.without [.PWR_WAKE_CAUSE] []) (by decide +kernel) (.refl _ _) 3 1).rd _ _ (by decide +kernel),
    pins.rd _ _ (by decide +kernel), rd_wr_of_reg (by decide), rd_wr_of_reg (by decide), wakeCause_shows charged]

/-- WAKE answers OK; in VIGIL it begins the transition (R374, R430). -/
theorem wake_of_vigil {s : State} (hm : s.mode = .vigil) (ht : s.inTransition = false) (bit unit die : Nat) :
    s.wake bit unit die = s.wakeBegin (2 ^ bit) unit die := by
  rw [wake, if_pos hm, ht, Bool.not_false, if_pos rfl]

-- The ageing refit (R45, R405) ---------------------------------------------------------------------------------------

theorem refitRequest_refused {s : State} (h : s.rd F.XTO_STATUS.REF_PRESENT [] = 0 ∨ s.refEnabled = true) :
    s.refitRequest = (s.raisePkg 29 0, false) := by
  have refused : (!s.isSet F.XTO_STATUS.REF_PRESENT [] || s.refEnabled) = true := by
    obtain h | h := h
    · rw [isSet, h]; rfl
    · rw [h, Bool.or_true]
  rw [refitRequest, refused, if_pos rfl]

/-- Else the request goes to Harvest. -/
theorem refitRequest_asked {s : State} (hp : s.rd F.XTO_STATUS.REF_PRESENT [] = 1) (he : s.refEnabled = false) : s.refitRequest =
    let r := s.harvest s.control [0, 1] (fun _ => 0) (s.cost 14) .refit true none
    (if r.2 = .granted then r.1.refitGo else r.1, true) := by
  have asked : (!s.isSet F.XTO_STATUS.REF_PRESENT [] || s.refEnabled) = false := by rw [isSet, hp, he]; rfl
  rw [refitRequest, asked, if_neg Bool.false_ne_true]

/-- A claim that goes runs. -/
theorem claim_runs {s : State} {c : Claim} (h : s.claimGoes c = true) : (s.claim c).runs c.act = true := by
  have kept : (s.claim c).running = s.running ++ [c] := by
    rw [claim, if_pos h]
    exact (syncMnt_within (M := Foot.without [] [.running]) (by decide +kernel) (.refl _ _)).parts .running (by decide +kernel)
  rw [runs, kept, List.any_append, List.any_cons, beq_self_eq_true, Bool.true_or, Bool.or_true]

/-- A granted refit whose group is free runs. -/
theorem refitGo_runs {s : State} (h : s.claimGoes ⟨.refit, 6, s.control, [10]⟩ = true) : s.refitGo.runs .refit = true := by
  have on := claim_runs h
  rw [refitGo, on, on_true]
  exact on

/-- An admitted refit whose group is free runs. -/
theorem refitRequest_runs {s : State} (hp : s.rd F.XTO_STATUS.REF_PRESENT [] = 1) (he : s.refEnabled = false)
    (ht : s.rd F.PWR_STATUS.THERMAL [s.control] = 0) (hf : s.fits [0, 1] 0 (s.cost 14) = true)
    (hg : s.claimGoes ⟨.refit, 6, s.control, [10]⟩ = true) : s.refitRequest.1.runs .refit = true := by
  have cool : s.isSet F.PWR_STATUS.THERMAL [s.control] = false := by rw [isSet, ht]; rfl
  have granted : s.harvest s.control [0, 1] (fun _ => 0) (s.cost 14) .refit true none = (s.charge [0, 1] 0 (s.cost 14), .granted) := by
    rw [harvest, cool, if_neg Bool.false_ne_true, if_pos hf]
  have kept := charge_within (M := Foot.without [] [.control, .running, .waiting]) (by decide +kernel) (.refl _ s) [0, 1] 0 (s.cost 14)
  have goes : (s.charge [0, 1] 0 (s.cost 14)).claimGoes ⟨.refit, 6, (s.charge [0, 1] 0 (s.cost 14)).control, [10]⟩ = true := by
    have control : (s.charge [0, 1] 0 (s.cost 14)).control = s.control := kept.parts .control (by decide +kernel)
    have running : (s.charge [0, 1] 0 (s.cost 14)).running = s.running := kept.parts .running (by decide +kernel)
    have waiting : (s.charge [0, 1] 0 (s.cost 14)).waiting = s.waiting := kept.parts .waiting (by decide +kernel)
    simpa only [claimGoes, claimFree, groupFree, control, running, waiting] using hg
  rw [refitRequest_asked hp he, granted]
  exact refitGo_runs goes

theorem refitRequest_mode (s : State) : s.refitRequest.1.mode = s.mode :=
  (refitRequest_within (M := Foot.without [] [.mode]) (by decide +kernel) (.refl _ s)).parts .mode (by decide +kernel)

theorem wake_mode (s : State) (bit unit die : Nat) : (s.wake bit unit die).mode = s.mode :=
  (wake_within (M := Foot.without [] [.mode]) (by decide +kernel) (.refl _ s) bit unit die).parts .mode (by decide +kernel)

end State

-- The commands -------------------------------------------------------------------------------------------------------

/-- SERVICE ENTER, SERVICE EXIT, WAKE and REFIT are neither in the boot ROM nor permitted by a locked port (R430, R433). -/
theorem exec_of_guarded {f : Bool} {c : Instr} (h : c ∈ [Instr.serviceEnter f, .serviceExit, .consoleWake, .refit]) :
    ∃ g : State → State, ∀ s, exec c s = .next (s.console false false g) := by
  simp only [List.mem_cons, List.not_mem_nil, or_false] at h
  rcases h with rfl | rfl | rfl | rfl
  · exact ⟨_, fun _ => rfl⟩
  · exact ⟨_, fun _ => rfl⟩
  · exact ⟨_, fun _ => rfl⟩
  · exact ⟨_, fun _ => rfl⟩

/-- Those and SENSORS and LOCK are not in the boot ROM (R430). -/
theorem exec_of_notInRom {f : Bool} {c : Instr}
    (h : c ∈ [Instr.consoleSensors, .serviceEnter f, .serviceExit, .consoleWake, .refit, .consoleLock]) :
    ∃ (whenLocked : Bool) (g : State → State), ∀ s, exec c s = .next (s.console false whenLocked g) := by
  simp only [List.mem_cons, List.not_mem_nil, or_false] at h
  rcases h with rfl | rfl | rfl | rfl | rfl | rfl
  · exact ⟨_, _, fun _ => rfl⟩
  · exact ⟨_, _, fun _ => rfl⟩
  · exact ⟨_, _, fun _ => rfl⟩
  · exact ⟨_, _, fun _ => rfl⟩
  · exact ⟨_, _, fun _ => rfl⟩
  · exact ⟨_, _, fun _ => rfl⟩

section
variable {s : State}

/-- HELP, VERSION, STATUS and SENSORS answer what R430 lists. -/
theorem console_lists (s : State) :
    Completes .consoleHelp s (s.Answers (ascii "OK" ++ State.helpText)) ∧
      Completes .consoleVersion s (s.Answers (ascii "OK" ++ (ascii " " ++ (s.versionBytes s.control).flatMap fun b => hexPad 2 b.toNat))) ∧
      Completes .consoleStatus s (s.Answers (ascii "OK" ++ s.statusText)) ∧
      (s.mode ≠ .hold → Completes .consoleSensors s (s.Answers (ascii "OK" ++ s.sensorText))) := by
  refine ⟨completes_console rfl (fun _ => rfl) (.inl rfl) (State.consoleOk_answers rfl _), completes_console rfl (fun _ => rfl) (.inl rfl) ?_,
    completes_console rfl (fun _ => rfl) (.inl rfl) ?_, fun h => completes_console rfl (fun h' => absurd h' h) (.inl rfl) ?_⟩
  · rw [State.versionBytes_heard]
    exact State.consoleOk_answers rfl _
  · rw [State.statusText_heard]
    exact State.consoleOk_answers rfl _
  · rw [State.sensorText_heard]
    exact State.consoleOk_answers rfl _

/-- ECHO sets the echo (R430). -/
theorem console_echo (hs : s.Sound) :
    Completes .consoleEchoOn s (fun t => s.Answers (ascii "OK" ++ []) t ∧ t.rd I.svcEcho [] = 1) ∧
      Completes .consoleEchoOff s (fun t => s.Answers (ascii "OK" ++ []) t ∧ t.rd I.svcEcho [] = 0) := by
  refine ⟨completes_console rfl (fun _ => rfl) (.inl rfl) ⟨State.consoleOk_answers rfl [], ?_⟩,
    completes_console rfl (fun _ => rfl) (.inl rfl) ⟨State.consoleOk_answers rfl [], ?_⟩⟩
  · rw [State.consoleOk_rd, State.rd_wr_self_of_lt hs.heard _ _ (by decide)]
  · rw [State.consoleOk_rd, State.rd_wr_self_of_lt hs.heard _ _ (by decide)]

/-- ATB selects a point that R441 lists, where the lock permits it (R430, R433). -/
theorem console_atb (hs : s.Sound) (a point index : Nat) :
    (s.rd F.SVC_STATUS.LOCKED [] = 1 → State.atbWhenLocked point = false →
        Completes (.consoleAtb a point index) s (s.Answers (State.errText 0x0241))) ∧
      (s.rd F.SVC_STATUS.LOCKED [] = 0 ∨ State.atbWhenLocked point = true →
        (2 ≤ a → Completes (.consoleAtb a point index) s (s.Answers (State.errText 0x0100))) ∧
        (a < 2 → s.dieRetired a = true → Completes (.consoleAtb a point index) s (s.Answers (State.errText 0x020A))) ∧
        (a < 2 → s.dieRetired a = false → s.atbOk a point index = false →
          Completes (.consoleAtb a point index) s (s.Answers (State.errText 0x0100))) ∧
        (a < 2 → s.dieRetired a = false → s.atbOk a point index = true → Completes (.consoleAtb a point index) s fun t =>
          s.Answers (ascii "OK" ++ []) t ∧ t.rd F.SVC_ATB.POINT [a] = point ∧ t.rd F.SVC_ATB.INDEX [a] = index)) ∧
      (s.rd F.SVC_STATUS.LOCKED [] = 0 → a < 2 → s.dieRetired a = false → Completes (.consoleAtbOff a) s fun t =>
        s.Answers (ascii "OK" ++ []) t ∧ t.rd F.SVC_ATB.POINT [a] = 0xFF ∧ t.rd F.SVC_ATB.INDEX [a] = 0) := by
  have atb : exec (.consoleAtb a point index) s = .next (s.console true (State.atbWhenLocked point) fun s => s.consoleAtb a point index) := rfl
  have works : ∀ {b}, s.dieRetired a = b → s.heard.dieRetired a = b := fun h => (State.dieRetired_heard s a).trans h
  refine ⟨fun hl hp => ?locked, fun hl => ⟨fun ha => ?noOutput, fun ha hr => ?retired, fun ha hr hp => ?noPoint, fun ha hr hp => ?routed⟩,
    fun hl ha hr => ?off⟩
  case locked =>
    rw [hp] at atb
    exact completes_of_eq atb (State.console_of_locked (fun _ => rfl) hl _) (State.consoleErr_answers rfl _)
  case noOutput =>
    refine completes_console atb (fun _ => rfl) hl.symm ?_
    rw [State.consoleAtb_of_noOutput _ ha]
    exact State.consoleErr_answers rfl _
  case retired =>
    refine completes_console atb (fun _ => rfl) hl.symm ?_
    rw [State.consoleAtb_of_retired ha (works hr)]
    exact State.consoleErr_answers rfl _
  case noPoint =>
    refine completes_console atb (fun _ => rfl) hl.symm ?_
    rw [State.consoleAtb_of_noPoint ha (works hr) hp]
    exact State.consoleErr_answers rfl _
  case routed => exact completes_console atb (fun _ => rfl) hl.symm (State.consoleAtb_routes hs.heard rfl ha (works hr) hp)
  case off => exact completes_console rfl (fun _ => rfl) (.inr hl) (State.consoleAtb_routes hs.heard rfl ha (works hr) rfl)

/-- SERVICE ENTER and EXIT begin their transitions, or answer the code of R35. -/
theorem console_service (hs : s.Sound) (f : Bool) (hm : s.mode ≠ .hold) (hl : s.rd F.SVC_STATUS.LOCKED [] = 0) :
    (s.inTransition = true → Completes (.serviceEnter f) s (s.Answers (State.errText 0x0225))) ∧
      (s.inTransition = false → s.combAnywhere = true → Completes (.serviceEnter f) s (s.Answers (State.errText 0x0214))) ∧
      (s.inTransition = false → s.combAnywhere = false → s.mode = .service ∨ s.mode.acquires = true ∧ f = false →
        Completes (.serviceEnter f) s (s.Answers (State.errText 0x0200))) ∧
      (s.inTransition = false → s.combAnywhere = false → s.mode ≠ .service → s.mode.acquires = false ∨ f = true →
        Completes (.serviceEnter f) s fun t => s.Answers (ascii "OK" ++ []) t ∧
          ∀ d : Nat, d < 2 → t.rd F.PWR_MODE.TRANSITION [d] = 1 ∧ t.rd F.PWR_MODE.TARGET [d] = 2) ∧
      (s.combAnywhere = true → Completes .serviceExit s (s.Answers (State.errText 0x0214))) ∧
      (s.combAnywhere = false → s.testRuns = true → Completes .serviceExit s (s.Answers (State.errText 0x0240))) ∧
      (s.combAnywhere = false → s.testRuns = false → s.inTransition = true → Completes .serviceExit s (s.Answers (State.errText 0x0225))) ∧
      (s.combAnywhere = false → s.testRuns = false → s.inTransition = false → s.mode ≠ .service →
        Completes .serviceExit s (s.Answers (State.errText 0x0200))) ∧
      (s.combAnywhere = false → s.testRuns = false → s.inTransition = false → s.mode = .service →
        Completes .serviceExit s fun t => s.Answers (ascii "OK" ++ []) t ∧
          ∀ d : Nat, d < 2 → t.rd F.PWR_MODE.TRANSITION [d] = 1 ∧ t.rd F.PWR_MODE.TARGET [d] = 3) := by
  have enter : ∀ {P}, P (s.heard.serviceEnter f) → Completes (.serviceEnter f) s P :=
    completes_console (f := fun s => s.serviceEnter f) rfl (fun h => absurd h hm) (.inr hl)
  have leave : ∀ {P}, P s.heard.serviceExit → Completes .serviceExit s P :=
    completes_console (f := State.serviceExit) rfl (fun h => absurd h hm) (.inr hl)
  have errs : ∀ {t code}, t = s.heard.consoleErr code → s.Answers (State.errText code) t := fun e => e ▸ State.consoleErr_answers rfl _
  rw [← State.inTransition_heard, ← State.combAnywhere_heard, ← State.testRuns_heard]
  refine ⟨fun ht => enter (errs ?_), fun ht hc => enter (errs ?_), fun ht hc hb => enter (errs ?_), fun ht hc hb ha => enter ?_,
    fun hc => leave (errs ?_), fun hc hr => leave (errs ?_), fun hc hr ht => leave (errs ?_), fun hc hr ht hb => leave (errs ?_),
    fun hc hr ht hb => leave ?_⟩
  · rw [State.serviceEnter, ht, if_pos rfl]
  · rw [State.serviceEnter, ht, hc, if_neg Bool.false_ne_true, if_pos rfl]
  · have runs : s.heard.mode = .hold ∨ s.heard.mode = .service ∨ (s.heard.mode.acquires = true ∧ (!f) = true) :=
      .inr (hb.imp id fun ⟨ha, hf⟩ => ⟨ha, by rw [hf]; rfl⟩)
    rw [State.serviceEnter, ht, hc, if_neg Bool.false_ne_true, if_neg Bool.false_ne_true, if_pos runs]
  · exact State.serviceEnter_shows hs.heard rfl ht hc hm hb ha
  · rw [State.serviceExit, hc, if_pos rfl]
  · rw [State.serviceExit, hc, hr, if_neg Bool.false_ne_true, if_pos rfl]
  · rw [State.serviceExit, hc, hr, ht, if_neg Bool.false_ne_true, if_neg Bool.false_ne_true, if_pos rfl]
  · rw [State.serviceExit, hc, hr, ht, if_neg Bool.false_ne_true, if_neg Bool.false_ne_true, if_neg Bool.false_ne_true, State.heard_mode,
      if_pos hb]
  · exact State.serviceExit_shows hs.heard rfl hc hr ht hb

namespace State

/-- REFIT with its answer. -/
def refitAnswered (s : State) : State := if s.refitRequest.2 then s.refitRequest.1.consoleOk [] else s.refitRequest.1.consoleErr 0x0100

theorem consoleErr_pends (s : State) (code d src : Nat) : (s.consoleErr code).pends d src = s.pends d src := rfl

theorem consoleOk_runs (s : State) (text : List Byte) (a : Activity) : (s.consoleOk text).runs a = s.runs a := rfl

end State

/-- WAKE answers OK, and in VIGIL begins the way to READY; REFIT needs a reference and an idle loop (R45, R374, R430). -/
theorem console_wakeAndRefit (hs : s.Sound) (hm : s.mode ≠ .hold) (hl : s.rd F.SVC_STATUS.LOCKED [] = 0) :
    (Completes .consoleWake s fun t => s.Answers (ascii "OK" ++ []) t ∧ (s.mode = .vigil → s.inTransition = false →
        t.rd F.PWR_WAKE_CAUSE.CAUSE [] = 8 ∧ ∀ d : Nat, d < 2 → t.rd F.PWR_MODE.TRANSITION [d] = 1 ∧ t.rd F.PWR_MODE.TARGET [d] = 3)) ∧
      (s.rd F.XTO_STATUS.REF_PRESENT [] = 0 ∨ s.refEnabled = true → Completes .refit s fun t =>
        s.Answers (State.errText 0x0100) t ∧ t.pends s.control 29 = true) ∧
      (s.rd F.XTO_STATUS.REF_PRESENT [] = 1 → s.refEnabled = false → Completes .refit s fun t => s.Answers (ascii "OK" ++ []) t ∧
        (s.rd F.PWR_STATUS.THERMAL [s.control] = 0 → s.fits [0, 1] 0 (s.cost 14) = true →
          s.claimGoes ⟨.refit, 6, s.control, [10]⟩ = true → t.runs .refit = true)) := by
  have refit : ∀ {P}, P s.heard.refitAnswered → Completes .refit s P :=
    completes_console (f := State.refitAnswered) rfl (fun h => absurd h hm) (.inr hl)
  refine ⟨completes_console rfl (fun h => absurd h hm) (.inr hl) ⟨State.consoleOk_answers (State.wake_mode ..) [], fun hv ht => ?_⟩,
    fun h => refit ?_, fun hp he => refit ?_⟩
  · rw [State.wake_of_vigil (s := s.heard) hv ((State.inTransition_heard s).trans ht)]
    simp only [State.consoleOk_rd]
    exact State.wakeBegin_shows hs.heard (2 ^ 3) 0 0
  · rw [← State.heard_rd (by decide) s, ← State.refEnabled_heard] at h
    rw [State.refitAnswered, State.refitRequest_refused h, if_neg Bool.false_ne_true]
    rw [State.consoleErr_pends, ← State.heard_control s]
    constructor
    · exact State.consoleErr_answers (State.raisePkg_mode s.heard 29 0) _
    · exact State.raisePkg_pends hs.heard 29 0
  · rw [← State.heard_rd (by decide) s] at hp
    rw [← State.refEnabled_heard] at he
    have asked : s.heard.refitRequest.2 = true := by rw [State.refitRequest_asked hp he]
    rw [State.refitAnswered, asked, if_pos rfl]
    refine ⟨State.consoleOk_answers (State.refitRequest_mode _) [], fun ht hf hg =>
      (State.consoleOk_runs ..).trans (State.refitRequest_runs hp he ?_ ?_ hg)⟩
    · exact (State.heard_rd (by decide) s _).trans ht
    · rw [State.fits_heard, State.cost_heard]
      exact hf

end

/-- UNLOCK (R434): its challenge, a response, a wrong one in time, and its suspension. -/
theorem console_unlock {s : State} (hs : s.Sound) (r : Nat) :
    (s.rd F.SVC_STATUS.LOCKOUT [] = 0 → Completes (.consoleUnlock none) s fun t => t.rd I.svcChalOn [] = 1 ∧
      ∃ b : List Byte, Output.uart (ascii "OK" ++ (ascii " CHALLENGE " ++ hexPad 8 (t.rd I.svcChal [])) ++ b) ∈ t.out) ∧
    (s.rd F.SVC_STATUS.LOCKOUT [] = 0 → Completes (.consoleUnlock (some r)) s fun t => t.rd I.svcChalOn [] = 0 ∧
      t.rd F.SVC_STATUS.LOCKED [] = if s.challengeOpen && r == s.unlockAnswer then 0 else s.rd F.SVC_STATUS.LOCKED []) ∧
    (s.rd F.SVC_STATUS.LOCKOUT [] = 0 → s.challengeOpen = true → r ≠ s.unlockAnswer →
      (s.rd I.svcWrongN [] = 0 → Completes (.consoleUnlock (some r)) s fun t => t.rd I.svcWrongN [] = 1 ∧ t.rd F.SVC_STATUS.LOCKOUT [] = 0) ∧
      (s.rd I.svcWrongN [] = 2 → (∀ k : Nat, k < 2 → s.elapsed (s.rd I.svcWrongAt [k]) (600 * State.secondCycles) = false) →
        Completes (.consoleUnlock (some r)) s fun t => t.rd F.SVC_STATUS.LOCKOUT [] = 1 ∧ t.pends s.control 250 = true)) ∧
    (s.rd F.SVC_STATUS.LOCKOUT [] = 1 → Completes (.consoleUnlock (some r)) s fun t =>
      t.rd F.SVC_STATUS.LOCKED [] = s.rd F.SVC_STATUS.LOCKED [] ∧ t.rd F.SVC_STATUS.LOCKOUT [] = 1) := by
  have unlocks : ∀ {r P}, P (s.heard.unlock r) → Completes (.consoleUnlock r) s P := fun {r _} =>
    completes_console (f := fun s => s.unlock r) rfl (fun _ => rfl) (.inl rfl)
  have lockout : s.heard.rd F.SVC_STATUS.LOCKOUT [] = s.rd F.SVC_STATUS.LOCKOUT [] := State.heard_rd (by decide) s _
  have locked : s.heard.rd F.SVC_STATUS.LOCKED [] = s.rd F.SVC_STATUS.LOCKED [] := State.heard_rd (by decide) s _
  have opened := State.challengeOpen_heard s
  have answer := State.unlockAnswer_heard s
  rw [← lockout, ← locked, ← opened, ← answer]
  refine ⟨fun h => unlocks ?challenge, fun h => unlocks ?response, fun h ho hr => ⟨fun hn => unlocks ?first, fun hn ht => unlocks ?third⟩,
    fun h => unlocks ?suspended⟩
  case challenge =>
    rw [State.unlock_of_none h]
    refine ⟨?_, s.heard.prompt, State.consoleOk_answers rfl _⟩
    rw [State.consoleOk_rd, State.rd_wr_of_reg (by decide), State.rd_wr_self_of_lt (State.wrFree_sound hs.heard) _ _ (by decide)]
  case response => exact State.unlock_of_response_shows hs.heard h r
  case first =>
    have none : (s.heard.wr I.svcChalOn [] 0).recentWrong = [] := by
      have count : (s.heard.wr I.svcChalOn [] 0).rd I.svcWrongN [] = 0 := by
        rw [State.rd_wr_of_reg (by decide), State.heard_rd (by decide), hn]
      rw [State.recentWrong, count]
      rfl
    obtain ⟨count, rest⟩ := State.wrongAnswer_of_few_shows hs.heard.wr (by rw [none]; decide)
    rw [State.unlock_of_wrong h ho hr, State.consoleErr_rd, State.consoleErr_rd, count, none, rest _ (by decide), State.rd_wr_of_reg (by decide)]
    exact ⟨rfl, h⟩
  case third =>
    have two : 2 ≤ (s.heard.wr I.svcChalOn [] 0).recentWrong.length := by
      have count : (s.heard.wr I.svcChalOn [] 0).rd I.svcWrongN [] = 2 := by
        rw [State.rd_wr_of_reg (by decide), State.heard_rd (by decide), hn]
      have still : ∀ k, (s.heard.wr I.svcChalOn [] 0).rd I.svcWrongAt [k] = s.rd I.svcWrongAt [k] := fun k => by
        rw [State.rd_wr_of_reg (by decide), State.heard_rd (by decide)]
      have recent : ∀ k < 2, (!(s.heard.wr I.svcChalOn [] 0).elapsed (s.rd I.svcWrongAt [k]) (600 * State.secondCycles)) = true := fun k hk =>
        congrArg not (ht k hk)
      simp [State.recentWrong, count, still, List.range_succ, recent 0, recent 1]
    obtain ⟨suspended, pends, -⟩ := State.wrongAnswer_of_third_shows hs.heard.wr two
    rw [State.unlock_of_wrong h ho hr, State.consoleErr_rd, State.consoleErr_pends]
    exact ⟨suspended, pends⟩
  case suspended =>
    rw [State.unlock_of_lockout h, State.consoleErr_rd, State.consoleErr_rd]
    exact ⟨rfl, h⟩

theorem State.challengeOpen_iff (s : State) : s.challengeOpen = true ↔
    s.rd I.svcChalOn [] ≠ 0 ∧ s.elapsed (s.rd I.svcChalAt []) (120 * State.secondCycles) = false := by
  rw [challengeOpen, Bool.and_eq_true, Bool.not_eq_true']
  exact and_congr_left' bne_iff_ne

/-- BAUD_FALLBACK and UNLOCK_LOCKOUT_END act once their waits are over, and change nothing where none runs (R431, R434). -/
theorem console_waits {s : State} (hs : s.Sound) :
    (s.rd I.svcBaudWait [] = 1 → s.elapsed (s.rd I.svcBaudAt []) (10 * State.secondCycles) = true → Completes .baudFallback s fun t =>
      t.rd F.SVC_STATUS.BAUD [] = 0 ∧ t.rd I.svcBaudWait [] = 0) ∧
    (s.rd I.svcBaudWait [] = 0 → Completes .baudFallback s fun t => t = s) ∧
    (s.rd F.SVC_STATUS.LOCKOUT [] = 1 → s.elapsed (s.rd I.svcLockAt []) (60 * State.secondCycles) = true → Completes .unlockLockoutEnd s fun t =>
      t.rd F.SVC_STATUS.LOCKOUT [] = 0 ∧ t.pends s.control 250 = true) ∧
    (s.rd F.SVC_STATUS.LOCKOUT [] = 0 → Completes .unlockLockoutEnd s fun t => t = s) := by
  refine ⟨fun h ht => ⟨_, rfl, State.baudFallback_shows hs h ht⟩, fun h => completes_of_eq rfl ?_ rfl,
    fun h ht => ⟨_, rfl, State.lockoutEnd_shows hs h ht⟩, fun h => completes_of_eq rfl ?_ rfl⟩
  · have off : s.isSet I.svcBaudWait [] = false := by rw [State.isSet, h]; rfl
    rw [State.baudFallback, off, Bool.false_and, State.on_false]
  · have off : s.isSet F.SVC_STATUS.LOCKOUT [] = false := by rw [State.isSet, h]; rfl
    rw [State.lockoutEnd, off, Bool.false_and, State.on_false]

/-- Settles O33, from what each command of the console shows once the console lets it act: it acts where neither the boot ROM nor the lock
refuses it, on the state in which its line was heard. -/
theorem consoleOfTheServicePort : Obligations.ConsoleOfTheServicePort := by
  unfold Obligations.ConsoleOfTheServicePort
  refine ⟨fun f s hs => ?commands, fun r s hs => ?unlock, fun s hs => console_waits hs⟩
  case commands =>
    obtain ⟨help, version, status, sensors⟩ := console_lists s
    obtain ⟨echoOn, echoOff⟩ := console_echo hs
    intro prompt ok err
    refine ⟨fun c hm hc => ?rom, fun c hm hl hc => ?locked, help, version, status, sensors, ?unknown, echoOn, echoOff,
      fun chars hp => ⟨_, rfl, State.lineIn_shows hs hp⟩, fun rate hr => ?noRate, fun k rate hr => ?rate, fun hm => ?lock,
      fun a point index => console_atb hs a point index, fun hm hl => ?service⟩
    case rom =>
      obtain ⟨whenLocked, g, run⟩ := exec_of_notInRom hc
      exact completes_of_eq (run s) (State.console_of_rom hm whenLocked g) (State.refused_shows _)
    case locked =>
      obtain ⟨g, run⟩ := exec_of_guarded hc
      exact completes_of_eq (run s) (State.console_of_locked (fun h => absurd h hm) hl g) (State.refused_shows _)
    case unknown => exact completes_console rfl (fun _ => rfl) (.inl rfl) (State.consoleErr_answers rfl _)
    case noRate =>
      refine completes_console (f := fun s => s.setBaud rate) rfl (fun _ => rfl) (.inl rfl) ?_
      rw [State.setBaud_of_unknown _ hr]
      exact State.consoleErr_answers rfl _
    case rate =>
      exact completes_console (f := fun s => s.setBaud rate) rfl (fun _ => rfl) (.inl rfl) (State.setBaud_shows hs.heard rfl hr)
    case lock =>
      have shown := State.lockPort_shows (s := s) hs.heard rfl
      rw [State.heard_rd (by decide)] at shown
      exact completes_console (f := State.lockPort) rfl (fun h => absurd h hm) (.inl rfl) shown
    case service =>
      obtain ⟨e₁, e₂, e₃, e₄, x₁, x₂, x₃, x₄, x₅⟩ := console_service hs f hm hl
      exact ⟨e₁, e₂, e₃, e₄, x₁, x₂, x₃, x₄, x₅, console_wakeAndRefit hs hm hl⟩
  case unlock =>
    obtain ⟨challenge, response, wrong, suspended⟩ := console_unlock hs r
    refine ⟨challenge, fun h => ?_, fun h ⟨on, time⟩ hr => wrong h (s.challengeOpen_iff.2 ⟨by rw [on]; decide, time⟩) hr, suspended⟩
    obtain ⟨t, run, used, locked⟩ := response h
    refine ⟨t, run, used, locked.trans (if_congr ?_ rfl rfl)⟩
    rw [Bool.and_eq_true, beq_iff_eq, s.challengeOpen_iff, and_assoc]

end Sys2Proof.Machine
end

section
/-!
PROOFS. The boot sequence (R118, R162, R451 to R458): the flash, the self-check, the images, the store, HBM training, READY.
-/

namespace Sys2Proof.Machine

-- One proof at a time: proofs elaborated side by side ask for more memory than a compile of the whole text may take.
set_option Elab.async false

namespace State

-- The flash (R451) ---------------------------------------------------------------------------------------------------

/-- The byte written reads back. -/
theorem flashGet_flashPut_self {s : State} (h : Flash.wf s.flash = true) (a : Nat) (b : Byte) : (s.flashPut a b).flashGet a = b := by
  simp only [Flash.wf, Bool.and_eq_true] at h
  unfold flashPut flashGet
  by_cases hb : b = 255
  · rw [if_pos hb, sparseGet_put_none _ natLt_tri natLt_irr natLt_trans _ _ h.1, hb]
    rfl
  · rw [if_neg hb, sparseGet_put_self _ natLt_irr]
    rfl

/-- Every other byte reads as before. -/
theorem flashGet_flashPut_of_ne {a a' : Nat} (h : a' ≠ a) (s : State) (b : Byte) : (s.flashPut a b).flashGet a' = s.flashGet a' := by
  unfold flashPut flashGet
  rw [sparseGet_put_of_ne _ natLt_tri h]

/-- The bytes of a list stored from an offset on, counted from `k`: each reads back, and every byte outside reads as before. -/
theorem flashGet_store (l : List Byte) (a k : Nat) {s : State} (h : Flash.wf s.flash = true) :
    let t := (l.zipIdx k).foldl (fun s p => s.flashPut (a + p.2) p.1) s
    (∀ i, (hi : i < l.length) → t.flashGet (a + (k + i)) = l[i]) ∧
      ∀ x, (x < a + k ∨ a + k + l.length ≤ x) → t.flashGet x = s.flashGet x := by
  induction l generalizing k s with
  | nil => exact ⟨fun i hi => absurd hi (Nat.not_lt_zero i), fun _ _ => rfl⟩
  | cons b l ih =>
    obtain ⟨stored, others⟩ := ih (k + 1) (s := s.flashPut (a + k) b) (Flash.wf_put h _ _)
    refine ⟨fun i hi => ?_, fun x hx => ?_⟩
    · cases i with
      | zero => exact (others _ (by omega)).trans (flashGet_flashPut_self h _ _)
      | succ i =>
        have e : a + (k + (i + 1)) = a + (k + 1 + i) := by omega
        rw [e]
        exact stored i (Nat.lt_of_succ_lt_succ hi)
    · rw [List.length_cons] at hx
      exact (others x (by omega)).trans (flashGet_flashPut_of_ne (by omega) s b)

/-- What the board programs is what the flash then holds, and it leaves the rest (R451). -/
theorem flashStore_shows {s : State} (h : Flash.wf s.flash = true) (a : Nat) (l : List Byte) :
    (s.flashStore a l).flashBytes a l.length = l ∧ ∀ x, (x < a ∨ a + l.length ≤ x) → (s.flashStore a l).flashGet x = s.flashGet x := by
  obtain ⟨stored, others⟩ := flashGet_store l a 0 h
  refine ⟨List.ext_getElem (by simp [flashBytes]) fun i h₁ h₂ => ?_, fun x hx => others x (by omega)⟩
  have read : (s.flashStore a l).flashGet (a + (0 + i)) = l[i] := stored i h₂
  rw [Nat.zero_add] at read
  simpa only [flashBytes, List.getElem_map, List.getElem_range] using read

theorem flashStore_regs (s : State) (a : Nat) (l : List Byte) : (s.flashStore a l).regs = s.regs := by
  unfold flashStore
  exact List.foldlRecOn (motive := fun t : State => t.regs = s.regs) _ _ rfl fun _ ht _ _ => ht

-- Release and self-check (R451, R452, R455) --------------------------------------------------------------------------

/-- The release of reset starts the boot (R449, R451). -/
theorem resetRelease_shows {s : State} (hs : s.Sound) (hm : s.mode = .hold) (hb : s.rd I.bootStep [] = 0) (hh : s.rd I.thermHold [] = 0)
    (mbit rev off : Nat) (fast : Bool) (bytes : List Byte) :
    let t := s.resetRelease mbit fast rev [(off, bytes)]
    t.rd I.bootStep [] = 1 ∧ t.rd F.BOOT_STATUS.SFDP_OK [] = b2n fast ∧
      t.flashBytes off bytes.length = bytes ∧ ∀ a, a < off ∨ off + bytes.length ≤ a → t.flashGet a = s.flashGet a := by
  have cool : s.isSet I.thermHold [] = false := by rw [isSet, hh]; rfl
  have waits : ¬(s.mode ≠ .hold ∨ s.rd I.bootStep [] ≠ 0 ∨ s.isSet I.thermHold [] = true) := by simp [hm, hb, cool]
  have eq : s.resetRelease mbit fast rev [(off, bytes)] = (((((s.wr I.bootStep [] 1).wr I.bootAt [] s.now).wr I.flashMbit [] mbit).wr
      I.sfdpRev [] rev).wrBool F.BOOT_STATUS.SFDP_OK [] fast).flashStore off bytes := if_neg waits
  have reads : ∀ (u : State) (f : Fld) (ix : List Nat), (u.flashStore off bytes).rd f ix = u.rd f ix := fun u f ix => by
    rw [rd_def, flashStore_regs, rd_def]
  rw [eq]
  obtain ⟨stored, others⟩ := flashStore_shows (s := ((((s.wr I.bootStep [] 1).wr I.bootAt [] s.now).wr I.flashMbit [] mbit).wr
      I.sfdpRev [] rev).wrBool F.BOOT_STATUS.SFDP_OK [] fast) hs.flash off bytes
  refine ⟨?_, ?_, stored, others⟩
  · rw [reads, wrBool, rd_wr_of_reg (by decide), rd_wr_of_reg (by decide), rd_wr_of_reg (by decide), rd_wr_of_reg (by decide),
      rd_wr_self_of_lt hs _ _ (by decide)]
  · rw [reads, wrBool, rd_wr_self hs.wr.wr.wr.wr.regs]
    exact trunc_one_b2n fast

/-- What the directory names as the next image; 0 where no copy of it is in force (R452). -/
def dirChoice (s : State) : Nat := match s.dirInForce with | some k => s.dirNext k | none => 0

theorem dirChoice_lt (s : State) : s.dirChoice < 2 := by
  unfold dirChoice
  split
  · exact Nat.mod_lt _ (by decide)
  · decide

/-- The directory's choice shows (R452). -/
def dirShown (s : State) : State := (s.wr F.BOOT_STATUS.NEXT [] s.dirChoice).wr F.BOOT_STATUS.DIR_DEFAULT [] (b2n s.dirInForce.isNone)

theorem dirShown_rd {f : Fld} (hf : f.reg ≠ .BOOT_STATUS) (s : State) (ix : List Nat) : s.dirShown.rd f ix = s.rd f ix := by
  rw [dirShown, rd_wr_of_reg hf, rd_wr_of_reg hf]

theorem Sound.dirShown {s : State} (hs : s.Sound) : s.dirShown.Sound := hs.wr.wr

theorem bootDirectory_eq (s : State) : s.bootDirectory =
    if s.dirShown.rd I.flashMbit [] ≠ 512 then ((s.dirShown.wr F.BOOT_STATUS.A_STATE [] 2).wr F.BOOT_STATUS.B_STATE [] 2).wr I.bootStep [] 10
    else (s.dirShown.wr I.bootImg [] s.dirChoice).wr I.bootStep [] 2 := rfl

/-- The directory of a flash of 512 Mbit gives NEXT (R451, R452). -/
theorem bootDirectory_of_flash {s : State} (hs : s.Sound) (h : s.rd I.flashMbit [] = 512) :
    s.bootDirectory.rd I.bootStep [] = 2 ∧ s.bootDirectory.rd F.BOOT_STATUS.NEXT [] = s.dirChoice ∧
      s.bootDirectory.rd F.BOOT_STATUS.DIR_DEFAULT [] = b2n s.dirInForce.isNone := by
  have fits : s.dirChoice < 2 ^ F.BOOT_STATUS.NEXT.width := s.dirChoice_lt
  have mbit : s.dirShown.rd I.flashMbit [] = 512 := (dirShown_rd (by decide) s []).trans h
  rw [bootDirectory_eq, if_neg (not_not.2 mbit)]
  refine ⟨rd_wr_self_of_lt hs.dirShown.wr _ _ (by decide), ?_, ?_⟩
  · rw [rd_wr_of_reg (by decide), rd_wr_of_reg (by decide), dirShown, rd_wr_of_lo (by decide), rd_wr_self_of_lt hs _ _ fits]
  · rw [rd_wr_of_reg (by decide), rd_wr_of_reg (by decide), dirShown, rd_wr_self hs.wr.regs]
    exact trunc_one_b2n _

/-- Of another density both images are invalid, and the package stays in HOLD (R451). -/
theorem bootDirectory_of_otherFlash {s : State} (hs : s.Sound) (h : s.rd I.flashMbit [] ≠ 512) :
    s.bootDirectory.mode = s.mode ∧ s.bootDirectory.rd I.bootStep [] = 10 ∧
      s.bootDirectory.rd F.BOOT_STATUS.A_STATE [] = 2 ∧ s.bootDirectory.rd F.BOOT_STATUS.B_STATE [] = 2 := by
  have mbit : s.dirShown.rd I.flashMbit [] ≠ 512 := fun e => h ((dirShown_rd (by decide) s []).symm.trans e)
  rw [bootDirectory_eq, if_pos mbit]
  refine ⟨rfl, rd_wr_self_of_lt hs.dirShown.wr.wr _ _ (by decide), ?_, ?_⟩
  · rw [rd_wr_of_reg (by decide), rd_wr_of_lo (by decide), rd_wr_self_of_lt hs.dirShown _ _ (by decide)]
  · rw [rd_wr_of_reg (by decide), rd_wr_self_of_lt hs.dirShown.wr _ _ (by decide)]

/-- The report that die 0 passes takes the boot to the directory (R455). -/
theorem selfCheck_passes {s : State} (hs : s.Sound) (hb : s.rd I.bootStep [] = 1) (h0 : s.rd I.bootSelf [0] = 0) (hr : s.dieRetired 0 = false) :
    s.selfCheck 0 true = (s.wr I.bootSelf [0] 1).bootDirectory := by
  have open_ : s.isSet I.bootSelf [0] = false := by rw [isSet, h0]; rfl
  have goes : ¬(2 ≤ 0 ∨ s.rd I.bootStep [] = 0 ∨ 9 ≤ s.rd I.bootStep [] ∨ s.isSet I.bootSelf [0] = true ∨ s.dieRetired 0 = true) := by
    simp [hb, open_, hr]
  have step : ¬(s.wr I.bootSelf [0] 1).rd I.bootStep [] ≠ 1 := by rw [rd_wr_of_reg (by decide), hb]; decide
  have passed : (s.wr I.bootSelf [0] 1).rd I.bootSelf [0] = 1 := rd_wr_self_of_lt hs _ _ (by decide)
  rw [selfCheck, if_neg goes, if_pos rfl, if_neg step, if_pos passed]

/-- Die 0 retires: die 1 takes the control role and boots, with BOB_FAILOVER pending (R403, R455). -/
theorem bootRetire_zero (s : State) : s.bootRetire 0 =
    let t := ({ ((s.wr I.bootSelf [0] 2).wr F.BOB_RETIRED.OTHER_DIE [1] 1).wr F.SVC_ATB.POINT [0] 0xFF with control := 1 }.wr
      F.BOOT_STATUS.BOOT_DIE [] 1).wr I.bootFault [] 1
    t.wr F.EVC_PEND.PEND [1, 7] (setBit (t.rd F.EVC_PEND.PEND [1, 7]) 4) := rfl

theorem bootRetire_zero_shows {s : State} (hs : s.Sound) : (s.bootRetire 0).Sound ∧ (s.bootRetire 0).dieRetired 0 = true ∧
    (s.bootRetire 0).control = 1 ∧ (s.bootRetire 0).rd F.BOOT_STATUS.BOOT_DIE [] = 1 ∧ (s.bootRetire 0).pends 1 228 = true ∧
    (s.bootRetire 0).rd I.bootSelf [0] = 2 := by
  set u := ((s.wr I.bootSelf [0] 2).wr F.BOB_RETIRED.OTHER_DIE [1] 1).wr F.SVC_ATB.POINT [0] 0xFF with hu
  have sound : Sound { u with control := 1 } := by
    have h : u.Sound := hs.wr.wr.wr
    exact ⟨h.regs, h.mem, h.acq, h.tims, h.acc, h.layers, h.flash⟩
  have reads : ∀ (f : Fld) (ix : List Nat), rd { u with control := 1 } f ix = u.rd f ix := fun _ _ => rfl
  rw [bootRetire_zero]
  refine ⟨sound.wr.wr.wr, ?_, rfl, ?_, ?_, ?_⟩
  · have retired : u.rd F.BOB_RETIRED.OTHER_DIE [1] = 1 := by
      rw [hu, rd_wr_of_reg (by decide), rd_wr_self_of_lt hs.wr _ _ (by decide)]
    refine bne_iff_ne.2 ?_
    rw [otherDie, rd_wr_of_reg (by decide), rd_wr_of_reg (by decide), rd_wr_of_reg (by decide), reads, retired]
    decide
  · rw [rd_wr_of_reg (by decide), rd_wr_of_reg (by decide), rd_wr_self_of_lt sound _ _ (by decide)]
  · rw [pends, rd_wr_self sound.wr.wr.regs]
    exact (bitAt_trunc (by decide) _).trans (bitAt_setBit_self _ _)
  · rw [rd_wr_of_reg (by decide), rd_wr_of_reg (by decide), rd_wr_of_reg (by decide), reads, hu, rd_wr_of_reg (by decide),
      rd_wr_of_reg (by decide), rd_wr_self_of_lt hs _ _ (by decide)]

/-- The report of die 1 stands. -/
theorem bootRetire_zero_other (s : State) : (s.bootRetire 0).rd I.bootSelf [1] = s.rd I.bootSelf [1] := by
  have reads : ∀ (u : State) (f : Fld) (ix : List Nat), rd { u with control := 1 } f ix = u.rd f ix := fun _ _ _ => rfl
  rw [bootRetire_zero, rd_wr_of_reg (by decide), rd_wr_of_reg (by decide), rd_wr_of_reg (by decide), reads, rd_wr_of_reg (by decide),
    rd_wr_of_reg (by decide), rd_wr_of_ix (by decide)]


/-- The report that die 0 fails, or none of it in its 10 ms, retires it; nothing more happens while die 1 has not reported (R455). -/
theorem selfCheck_fails {s : State} (hs : s.Sound) (hb : s.rd I.bootStep [] = 1) (h0 : s.rd I.bootSelf [0] = 0) (h1 : s.rd I.bootSelf [1] = 0)
    (hr : s.dieRetired 0 = false) : s.selfCheck 0 false = s.bootRetire 0 := by
  have open_ : s.isSet I.bootSelf [0] = false := by rw [isSet, h0]; rfl
  have goes : ¬(2 ≤ 0 ∨ s.rd I.bootStep [] = 0 ∨ 9 ≤ s.rd I.bootStep [] ∨ s.isSet I.bootSelf [0] = true ∨ s.dieRetired 0 = true) := by
    simp [hb, open_, hr]
  have self0 : (s.bootRetire 0).rd I.bootSelf [0] = 2 := (bootRetire_zero_shows hs).2.2.2.2.2
  have self1 : (s.bootRetire 0).rd I.bootSelf [1] = 0 := (bootRetire_zero_other s).trans h1
  rw [selfCheck, if_neg goes, if_neg Bool.false_ne_true]
  dsimp only
  rw [self0, self1]
  split <;> rfl

theorem selfCheckTimeout_acts {s : State} (hb : s.rd I.bootStep [] = 1) (h0 : s.rd I.bootSelf [0] = 0) (h1 : s.rd I.bootSelf [1] = 0)
    (ht : s.elapsed (s.rd I.bootAt []) 12500000 = true) : s.selfCheckTimeout = s.bootRetire 0 := by
  have open_ : s.isSet I.bootSelf [0] = false := by rw [isSet, h0]; rfl
  have goes : ¬(s.rd I.bootStep [] ≠ 1 ∨ s.isSet I.bootSelf [0] = true ∨ (!s.elapsed (s.rd I.bootAt []) 12500000) = true) := by
    simp [hb, open_, ht]
  have self1 : (s.bootRetire 0).rd I.bootSelf [1] = 0 := (bootRetire_zero_other s).trans h1
  rw [selfCheckTimeout, if_neg goes]
  dsimp only
  rw [self1]
  rfl

-- Images (R453, R454) ------------------------------------------------------------------------------------------------

/-- The field of BOOT_STATUS that shows an image's state. -/
def imageField (k : Nat) : Fld := if k = 0 then F.BOOT_STATUS.A_STATE else F.BOOT_STATUS.B_STATE

theorem imageField_eq (k : Nat) : imageField k = F.BOOT_STATUS.A_STATE ∨ imageField k = F.BOOT_STATUS.B_STATE := by
  unfold imageField
  split
  · exact .inl rfl
  · exact .inr rfl

theorem imageField_reg (k : Nat) : (imageField k).reg = .BOOT_STATUS := by
  obtain h | h := imageField_eq k <;> rw [h]

/-- The other fields of BOOT_STATUS lie elsewhere. -/
theorem imageField_lo {f : Fld} (ha : f.lo ≠ F.BOOT_STATUS.A_STATE.lo) (hb : f.lo ≠ F.BOOT_STATUS.B_STATE.lo) (k : Nat) :
    f.lo ≠ (imageField k).lo := by
  obtain h | h := imageField_eq k <;> rw [h] <;> assumption

theorem imageField_width (k : Nat) : (imageField k).width = 2 := by
  obtain h | h := imageField_eq k <;> rw [h]

theorem setImageState_eq (s : State) (k st : Nat) : s.setImageState k st = s.wr (imageField k) [] st := rfl

theorem setImageState_shows {s : State} (hs : s.Sound) (k : Nat) {st : Nat} (h : st < 4) : (s.setImageState k st).rd (imageField k) [] = st :=
  rd_wr_self_of_lt hs (imageField k) [] (by rw [imageField_width]; exact h)

/-- A write outside BOOT_STATUS leaves the states of the images. -/
theorem imageField_wr {f : Fld} (hf : .BOOT_STATUS ≠ f.reg) (s : State) (k : Nat) (ix : List Nat) (v : Nat) :
    (s.wr f ix v).rd (imageField k) [] = s.rd (imageField k) [] := rd_wr_of_reg (by rw [imageField_reg]; exact hf) ..

/-- An image that is not to be run shows so; the other is tried once (R454). -/
theorem imageFails_shows {s : State} (hs : s.Sound) (blank : Bool) :
    (s.imageFails blank).rd (imageField (s.rd I.bootImg [])) [] = (if blank then 0 else 2) ∧
      (s.imageFails blank).rd I.bootStep [] = if s.rd I.bootStep [] < 4 then 4 else 10 := by
  have st : (if blank then 0 else 2) < 4 := by cases blank <;> decide
  have sound : (s.setImageState (s.rd I.bootImg []) (if blank then 0 else 2)).Sound := hs.wr
  have shown := setImageState_shows hs (s.rd I.bootImg []) st
  have step : (s.setImageState (s.rd I.bootImg []) (if blank then 0 else 2)).rd I.bootStep [] = s.rd I.bootStep [] :=
    rd_wr_of_reg (by change _ ≠ (imageField _).reg; rw [imageField_reg]; decide) ..
  simp only [imageFails, step]
  split
  · refine ⟨?_, rd_wr_self_of_lt sound.wr _ _ (by decide)⟩
    rw [imageField_wr (by decide), imageField_wr (by decide), shown]
  · refine ⟨?_, rd_wr_self_of_lt sound _ _ (by decide)⟩
    rw [bootStops, imageField_wr (by decide), shown]

/-- An image with a good header and digest goes to its signature check (R453, R454). -/
theorem imageLoaded_of_good {s : State} (hs : s.Sound) (hb : s.rd I.bootStep [] = 2 ∨ s.rd I.bootStep [] = 4)
    (hok : headerOk (s.imageHeader (s.rd I.bootImg [])) = true) (hblank : headerBlank (s.imageHeader (s.rd I.bootImg [])) = false) :
    (s.imageLoaded true).rd I.bootStep [] = s.rd I.bootStep [] + 1 ∧
      (s.imageLoaded true).rd I.imgVersion [s.rd I.bootImg []] = headerField (s.imageHeader (s.rd I.bootImg [])) 16 4 % 2 ^ 32 := by
  have due : ¬(s.rd I.bootStep [] ≠ 2 ∧ s.rd I.bootStep [] ≠ 4) := by omega
  simp only [imageLoaded, if_neg due, hok, hblank, Bool.not_true, Bool.or_false, Bool.false_eq_true, if_false]
  have step : ((s.wr I.imgVersion [s.rd I.bootImg []] (headerField (s.imageHeader (s.rd I.bootImg [])) 16 4)).wr I.imgBuild [s.rd I.bootImg []]
      (headerField (s.imageHeader (s.rd I.bootImg [])) 20 4)).rd I.bootStep [] = s.rd I.bootStep [] := by
    rw [rd_wr_of_reg (by decide), rd_wr_of_reg (by decide)]
  refine ⟨?_, ?_⟩
  · have fits : s.rd I.bootStep [] + 1 < 2 ^ I.bootStep.width := lt_of_le_of_lt (by omega : s.rd I.bootStep [] + 1 ≤ 5) (by decide)
    rw [step, rd_wr_self_of_lt hs.wr.wr _ _ fits]
  · rw [rd_wr_of_reg (by decide), rd_wr_of_reg (by decide), rd_wr_self hs.regs]

/-- One with a blank or bad header, or a body of another digest, is not run. -/
theorem imageLoaded_of_bad {s : State} (hb : s.rd I.bootStep [] = 2 ∨ s.rd I.bootStep [] = 4) {digest : Bool}
    (h : headerBlank (s.imageHeader (s.rd I.bootImg [])) = true ∨ headerOk (s.imageHeader (s.rd I.bootImg [])) = false ∨ digest = false) :
    s.imageLoaded digest = s.imageFails (headerBlank (s.imageHeader (s.rd I.bootImg []))) := by
  have due : ¬(s.rd I.bootStep [] ≠ 2 ∧ s.rd I.bootStep [] ≠ 4) := by omega
  have bad : (headerBlank (s.imageHeader (s.rd I.bootImg [])) || !headerOk (s.imageHeader (s.rd I.bootImg [])) || !digest) = true := by
    obtain h | h | h := h
    · rw [h, Bool.true_or, Bool.true_or]
    · rw [h, Bool.not_false, Bool.or_true, Bool.true_or]
    · rw [h, Bool.not_false, Bool.or_true]
  rw [imageLoaded, if_neg due]
  exact if_pos bad

/-- A verified image is the one that runs (R453, R454). -/
theorem signatureChecked_shows {s : State} (hs : s.Sound) (hb : s.rd I.bootStep [] = 3 ∨ s.rd I.bootStep [] = 5) {k : Nat}
    (hk : s.rd I.bootImg [] = k) (h2 : k < 2) :
    let t := s.signatureChecked true
    t.rd I.bootStep [] = 6 ∧ t.rd (imageField k) [] = 1 ∧ t.rd F.BOOT_STATUS.IMAGE [] = k ∧
      t.rd F.BOOT_IMG_VER.VERSION [k] = s.rd I.imgVersion [k] % 2 ^ 32 ∧ t.rd F.BOOT_STATUS.FALLBACK [] = b2n (k != s.rd F.BOOT_STATUS.NEXT []) := by
  have due : ¬(s.rd I.bootStep [] ≠ 3 ∧ s.rd I.bootStep [] ≠ 5) := by omega
  set u := ((s.setImageState k 1).wr F.BOOT_IMG_VER.VERSION [k] (s.rd I.imgVersion [k])).wr F.BOOT_STATUS.IMAGE [] k with hu
  have eq : s.signatureChecked true = (u.wr F.BOOT_STATUS.FALLBACK [] (b2n (k != u.rd F.BOOT_STATUS.NEXT []))).wr I.bootStep [] 6 := by
    rw [hu, ← hk]
    rw [signatureChecked, if_neg due, Bool.not_true, if_neg Bool.false_ne_true]
    rfl
  have sound : (s.setImageState k 1).Sound := hs.wr
  have soundU : u.Sound := sound.wr.wr
  have next : u.rd F.BOOT_STATUS.NEXT [] = s.rd F.BOOT_STATUS.NEXT [] := by
    rw [hu, rd_wr_of_lo (by decide), rd_wr_of_reg (by decide), setImageState_eq, rd_wr_of_lo (imageField_lo (by decide) (by decide) k)]
  have image : (u.wr F.BOOT_STATUS.FALLBACK [] (b2n (k != u.rd F.BOOT_STATUS.NEXT []))).rd (imageField k) [] = 1 := by
    rw [rd_wr_of_lo (imageField_lo (f := F.BOOT_STATUS.FALLBACK) (by decide) (by decide) k).symm, hu,
      rd_wr_of_lo (imageField_lo (f := F.BOOT_STATUS.IMAGE) (by decide) (by decide) k).symm, imageField_wr (by decide),
      setImageState_shows hs k (by decide)]
  rw [eq]
  refine ⟨rd_wr_self_of_lt soundU.wr _ _ (by decide), (imageField_wr (by decide) ..).trans image, ?_, ?_, ?_⟩
  · rw [rd_wr_of_reg (by decide), rd_wr_of_lo (by decide), hu, rd_wr_self_of_lt sound.wr _ _ h2]
  · rw [rd_wr_of_reg (by decide), rd_wr_of_reg (by decide), hu, rd_wr_of_reg (by decide), rd_wr_self sound.regs]
  · rw [rd_wr_of_reg (by decide), rd_wr_self soundU.regs, next]
    exact trunc_one_b2n _

/-- A signature that does not hold (R454). -/
theorem signatureChecked_fails {s : State} (hb : s.rd I.bootStep [] = 3 ∨ s.rd I.bootStep [] = 5) :
    s.signatureChecked false = s.imageFails false := by
  have due : ¬(s.rd I.bootStep [] ≠ 3 ∧ s.rd I.bootStep [] ≠ 5) := by omega
  rw [signatureChecked, if_neg due, Bool.not_false, if_pos rfl]


-- The store and HBM training (R118, R455, R457) ----------------------------------------------------------------------

theorem storeSource_lt (s : State) : s.storeSource < 4 := by
  unfold storeSource
  split
  · split <;> decide
  · decide
  · decide
  · decide

/-- The VALID slot of the higher generation, slot A where they are equal; else the OTP (R118). -/
theorem storeSource_eq (s : State) : s.storeSource =
    if s.slotValid 0 = true ∧ (s.slotValid 1 = true → s.slotGen 1 ≤ s.slotGen 0) then 0 else if s.slotValid 1 = true then 1 else 2 := by
  unfold storeSource
  cases s.slotValid 0 <;> cases s.slotValid 1
  · rfl
  · rfl
  · rfl
  · by_cases h : s.slotGen 0 < s.slotGen 1
    · simp [h]
    · simp [h, Nat.le_of_not_lt h]

/-- The load of the store, up to the selected slot. -/
def storeTaken (s : State) : State :=
  let src := s.storeSource
  let oven := s.rd I.ovenOn []
  let warm := !s.isSet F.BOOT_RESET_CAUSE.COLD [] && src != 2
  let t := if src = 2 then s.loadFactory.wr F.CRD_STORE_GEN.GEN [] 0 else (s.loadImage src).wr F.CRD_STORE_GEN.GEN [] (s.slotGen src)
  let t := if warm then t.wr I.ovenOn [] oven else t.wr I.ovenSaved [] (t.rd I.ovenOn [])
  t.each [0, 1] fun s d => (s.each [0, 1] fun s c => s.showTrims d c).syncSpares d

/-- What the load shows and raises beside the slot (R118, R121). -/
def storeTold (s t : State) (pull : Nat) : State :=
  let t := (t.wr F.CRD_STORE_STATUS.SOURCE [] s.storeSource).wr F.XTO_PULL.PULL [] pull
  let t := (t.wr F.CRD_STORE_STATUS.A_STATE [] (s.slotState 0)).wr F.CRD_STORE_STATUS.B_STATE [] (s.slotState 1)
  let torn := b2n (s.slotState 0 == 2) + 2 * b2n (s.slotState 1 == 2)
  (t.on (torn != 0) fun s => (s.flag F.CRD_STORE_STATUS.TORN []).raisePkg 53 torn).raisePkg 54 s.storeSource

theorem storeLoad_eq (s : State) : s.storeLoad = s.storeTold (s.storeTaken.wr I.storeSlot [] s.storeSource) s.storeTaken.pullCode := rfl

theorem storeTaken_within (s : State) : Within (Foot.without [] []) s s.storeTaken := by
  unfold storeTaken
  refine Within.each (Within.ite ?_ ?_) fun _ _ h => syncSpares_within (by decide +kernel)
    (Within.each h fun _ _ h => showTrims_within (by decide +kernel) h _ _) _
  · exact (Within.ite ((loadFactory_within (by decide +kernel) (.refl _ s)).wr _ _ _ (by decide +kernel))
      ((loadImage_within (by decide +kernel) (.refl _ s) _).wr _ _ _ (by decide +kernel))).wr _ _ _ (by decide +kernel)
  · exact (Within.ite ((loadFactory_within (by decide +kernel) (.refl _ s)).wr _ _ _ (by decide +kernel))
      ((loadImage_within (by decide +kernel) (.refl _ s) _).wr _ _ _ (by decide +kernel))).wr _ _ _ (by decide +kernel)

theorem storeTold_within (s t : State) (pull : Nat) : Within (Foot.without [.i_storeSlot] []) t (s.storeTold t pull) := by
  have shown := ((((Within.refl (Foot.without [.i_storeSlot] []) t).wr F.CRD_STORE_STATUS.SOURCE [] s.storeSource (by decide +kernel)).wr
    F.XTO_PULL.PULL [] pull (by decide +kernel)).wr F.CRD_STORE_STATUS.A_STATE [] (s.slotState 0) (by decide +kernel)).wr
      F.CRD_STORE_STATUS.B_STATE [] (s.slotState 1) (by decide +kernel)
  refine raisePkg_within (by decide +kernel) (Within.on shown fun _ h => ?_) _ _
  exact raisePkg_within (by decide +kernel) (flag_within (by decide +kernel) h _ _ (by decide +kernel)) _ _

/-- The load leaves the slot it selected (R118). -/
theorem storeLoad_slot {s : State} (hs : s.Sound) : s.storeLoad.Sound ∧ s.storeLoad.rd I.storeSlot [] = s.storeSource := by
  have taken : s.storeTaken.Sound := s.storeTaken_within.sound hs
  have told := storeTold_within s (s.storeTaken.wr I.storeSlot [] s.storeSource) s.storeTaken.pullCode
  rw [storeLoad_eq]
  exact ⟨told.sound taken.wr, (told.rd _ _ (by decide +kernel)).trans (rd_wr_self_of_lt taken _ _ s.storeSource_lt)⟩

/-- What firmware does once the store is loaded (R406, R455). -/
def recordsApplied (s : State) : State :=
  let s := s.on (s.isSet I.bootFault []) fun s => s.bobState (unitCode 8 0 0 0 0) 4
  let s := s.on (s.rd I.bootSelf [1] == 2) fun s => s.bobState (unitCode 8 1 0 0 0) 4
  let s := s.each (s.bobbin.filter (·.state == 5) ++ s.bobbin.filter (·.state != 5)) fun s r => s.applyRecord r
  s.on (s.dieRetired 0 && s.control == 0) fun s => { s with control := 1 }.raisePkg 228 1

theorem recordsApplied_within (s : State) : Within (Foot.without [.i_storeSlot] []) s s.recordsApplied := by
  unfold recordsApplied
  extract_lets a b c
  have ha : Within (Foot.without [.i_storeSlot] []) s a := Within.on (.refl _ s) fun _ h => bobState_within (by decide +kernel) h _ _
  have hb : Within (Foot.without [.i_storeSlot] []) s b := Within.on ha fun _ h => bobState_within (by decide +kernel) h _ _
  have hc : Within (Foot.without [.i_storeSlot] []) s c := Within.each hb fun _ _ h => applyRecord_within (by decide +kernel) h _
  exact Within.on hc fun _ h => raisePkg_within (by decide +kernel) (Within.set_control h 1 (by decide +kernel)) _ _

/-- Firmware starts with the slot of R118 (R455). -/
theorem firmwareStart_shows {s : State} (hs : s.Sound) (hb : s.rd I.bootStep [] = 6) :
    s.firmwareStart.rd I.bootStep [] = 7 ∧ s.firmwareStart.rd I.storeSlot [] = s.storeSource := by
  obtain ⟨loaded, slot⟩ := storeLoad_slot hs
  have applied := s.storeLoad.recordsApplied_within
  have eq : s.firmwareStart = s.storeLoad.recordsApplied.wr I.bootStep [] 7 := if_neg (not_not.2 hb)
  rw [eq]
  refine ⟨rd_wr_self_of_lt (applied.sound loaded) _ _ (by decide), ?_⟩
  rw [rd_wr_of_reg (by decide), applied.rd _ _ (by decide +kernel), slot]

/-- One stack of HBM training (R457). -/
def stackTrained (lost : List (Nat × Nat)) (pcs : List (Nat × Nat × Nat)) (s : State) (x : Nat × Nat) : State :=
  s.on (!s.dieRetired x.1) fun s =>
    if lost.contains x then s.stackFails x.1 x.2
    else
      (s.wr F.MEM_STATUS.TRAINED [x.1, x.2] 1).each
        ((pcs.filter fun p => p.1 == x.1 && p.2.1 == x.2 && decide (p.2.2 < 32)).map (·.2.2)) fun s p => s.pcFails x.1 x.2 p

theorem hbmTrained_eq {s : State} (hb : s.rd I.bootStep [] = 7) (lost : List (Nat × Nat)) (pcs : List (Nat × Nat × Nat)) :
    s.hbmTrained lost pcs = (s.each [(0, 0), (0, 1), (1, 0), (1, 1)] (stackTrained lost pcs)).wr I.bootStep [] 8 := if_neg (not_not.2 hb)

theorem stackTrained_within {s₀ s : State} (h : Within (Foot.without [] []) s₀ s) (lost : List (Nat × Nat)) (pcs : List (Nat × Nat × Nat))
    (x : Nat × Nat) : Within (Foot.without [] []) s₀ (stackTrained lost pcs s x) := by
  unfold stackTrained
  refine Within.on h fun v h => Within.ite ?_ ?_
  · exact stackFails_within (by decide +kernel) h _ _
  · exact Within.each (h.wr _ _ _ (by decide +kernel)) fun _ _ h => pcFails_within (by decide +kernel) h _ _ _

theorem stackTrained_sound {s : State} (hs : s.Sound) (lost : List (Nat × Nat)) (pcs : List (Nat × Nat × Nat)) (l : List (Nat × Nat)) :
    (s.each l (stackTrained lost pcs)).Sound := by
  have all : Within (Foot.without [] []) s (s.each l (stackTrained lost pcs)) := Within.each (.refl _ s) fun _ x h => stackTrained_within h lost pcs x
  exact all.sound hs

theorem hbmTrained_step {s : State} (hs : s.Sound) (hb : s.rd I.bootStep [] = 7) (lost : List (Nat × Nat)) (pcs : List (Nat × Nat × Nat)) :
    (s.hbmTrained lost pcs).rd I.bootStep [] = 8 := by
  rw [hbmTrained_eq hb]
  exact rd_wr_self_of_lt (stackTrained_sound hs ..) _ _ (by decide)

/-- Where nothing fails, the stack of a working die shows TRAINED, and nothing else changes. -/
theorem stackTrained_nil (s : State) (x : Nat × Nat) :
    stackTrained [] [] s x = s.on (!s.dieRetired x.1) fun s => s.wr F.MEM_STATUS.TRAINED [x.1, x.2] 1 := rfl

/-- Over a list of stacks: each on a working die is TRAINED. -/
theorem stacksTrained_shows (l : List (Nat × Nat)) {s : State} (hs : s.Sound) :
    (∀ e, (s.each l (stackTrained [] [])).dieRetired e = s.dieRetired e) ∧
      ∀ d h, s.dieRetired d = false → (d, h) ∈ l ∨ s.rd F.MEM_STATUS.TRAINED [d, h] = 1 →
        (s.each l (stackTrained [] [])).rd F.MEM_STATUS.TRAINED [d, h] = 1 := by
  induction l generalizing s with
  | nil => exact ⟨fun _ => rfl, fun d h _ hm => hm.resolve_left List.not_mem_nil⟩
  | cons x l ih =>
    rw [each_cons]
    have retired : ∀ e, (stackTrained [] [] s x).dieRetired e = s.dieRetired e := fun e => by
      rw [stackTrained_nil]
      cases s.dieRetired x.1
      · exact congrArg (· != 0) (rd_wr_of_reg (by decide) ..)
      · rfl
    have sound : (stackTrained [] [] s x).Sound := stackTrained_sound hs [] [] [x]
    obtain ⟨still, trained⟩ := ih sound
    refine ⟨fun e => (still e).trans (retired e), fun d h hd hm => trained d h ((retired d).trans hd) ?_⟩
    by_cases e : (d, h) = x
    · refine .inr ?_
      rw [stackTrained_nil, ← e, hd, Bool.not_false, on_true, rd_wr_self_of_lt hs _ _ (by decide)]
    · refine hm.imp (fun hm => (List.mem_cons.1 hm).resolve_left e) fun one => ?_
      rw [stackTrained_nil]
      cases s.dieRetired x.1
      · exact (rd_wr_of_ix (fun e' => e (by injection e' with a b; injection b with b; exact Prod.ext a b)) ..).trans one
      · exact one

/-- HBM training in which nothing fails (R457). -/
theorem hbmTrained_nil {s : State} (hs : s.Sound) (hb : s.rd I.bootStep [] = 7) {d h : Nat} (hd : d < 2) (hh : h < 2)
    (hr : s.dieRetired d = false) : (s.hbmTrained [] []).rd F.MEM_STATUS.TRAINED [d, h] = 1 := by
  have mem : (d, h) ∈ [(0, 0), (0, 1), (1, 0), (1, 1)] := by
    have hd : d = 0 ∨ d = 1 := by omega
    have hh : h = 0 ∨ h = 1 := by omega
    rcases hd with rfl | rfl <;> rcases hh with rfl | rfl <;> decide
  rw [hbmTrained_eq hb, rd_wr_of_reg (by decide)]
  exact (stacksTrained_shows _ hs).2 d h hr (.inl mem)


-- READY (R162, R456, R458) -------------------------------------------------------------------------------------------

/-- Entries of a field written one after another from a list, at indices that differ: each shows its value, any other reads as before. -/
theorem each_wr_shows {α : Type} (f : Fld) (g : α → List Nat) (v : α → Nat) (inj : ∀ x y, g x = g y → x = y) (l : List α) {s : State}
    (hs : s.Sound) : let t := s.each l fun s x => s.wr f (g x) (v x)
    t.Sound ∧ (∀ x ∈ l, t.rd f (g x) = trunc f.width (v x)) ∧ ∀ jx, (∀ x ∈ l, jx ≠ g x) → t.rd f jx = s.rd f jx := by
  induction l generalizing s with
  | nil => exact ⟨hs, fun _ hx => absurd hx List.not_mem_nil, fun _ _ => rfl⟩
  | cons x l ih =>
    obtain ⟨sound, shown, others⟩ := ih (s := s.wr f (g x) (v x)) hs.wr
    refine ⟨sound, fun y hy => ?_, fun jx hj => ?_⟩
    · by_cases hl : y ∈ l
      · exact shown y hl
      · obtain rfl := (List.mem_cons.1 hy).resolve_right hl
        exact (others _ fun z hz e => hl (by rwa [inj y z e])).trans (rd_wr_self hs.regs _ _ _)
    · exact (others jx fun z hz => hj z (List.mem_cons_of_mem x hz)).trans (rd_wr_of_ix (hj x (List.mem_cons_self ..)) ..)

/-- The points of a die's timing curves: channel, edge and index. -/
def curvePoints : List (Nat × Nat × Nat) := [0, 1].flatMap fun c => [0, 1].flatMap fun e => (List.range 1024).map fun i => (c, e, i)

theorem mem_curvePoints {c e i : Nat} (hc : c < 2) (he : e < 2) (hi : i < 1024) : (c, e, i) ∈ curvePoints := by
  have two : ∀ n < 2, n ∈ [0, 1] := by decide
  exact List.mem_flatMap.2 ⟨c, two c hc, List.mem_flatMap.2 ⟨e, two e he, List.mem_map_of_mem (List.mem_range.2 hi)⟩⟩

/-- The curves of a die are written point by point (R162). -/
theorem factoryCurves_eq (s : State) (d : Nat) : (s.each [0, 1] fun s c => s.factoryCurves d c) =
    s.each curvePoints fun s x => s.wr F.TRG_CURVE.FRAC [d, x.1, x.2.1, x.2.2] (Config.factoryCurve d x.1 x.2.1 x.2.2) := by
  simp only [factoryCurves, each, curvePoints, List.foldl_flatMap, List.foldl_map]

/-- The availability of a die's channels at boot (R458). -/
def startChannels (s : State) (d : Nat) : State :=
  s.each [0, 1] fun t c => t.wrBool F.CNV_STATUS.AVAILABLE [d, c] (!s.isSet (if c = 0 then F.BOB_RETIRED.C0 else F.BOB_RETIRED.C1) [d])

/-- What starts after the curves (R458). -/
def startUnits (s : State) (d : Nat) : State := ((((s.bootThresholds d).cmpWakeUp d).lgcStart d).synLock d).wr F.AUX_STATUS.LOCKED [d] 1

theorem startDie_eq (s : State) (d : Nat) : s.startDie d = ((s.startChannels d).each [0, 1] fun s c => s.factoryCurves d c).startUnits d := rfl

/-- What the start of a die leaves alone of what READY shows. -/
def bootKept : Foot := Foot.without [.TRG_CURVE, .BOB_RETIRED, .i_bootStep, .BOOT_TIME] [.mode, .dt, .control]

theorem startChannels_within (s : State) (d : Nat) : Within bootKept s (s.startChannels d) :=
  Within.each (.refl _ s) fun _ _ h => h.wr _ _ _ (by decide +kernel)

theorem startUnits_within (s : State) (d : Nat) : Within bootKept s (s.startUnits d) :=
  (synLock_within (by decide +kernel) (lgcStart_within (by decide +kernel) (cmpWakeUp_within (by decide +kernel)
    (bootThresholds_within (by decide +kernel) (.refl _ s) d) d) d) d).wr _ _ _ (by decide +kernel)

/-- The start of a die gives its timing curves their factory values, leaves those of the other, and keeps what READY shows. -/
theorem startDie_shows {s : State} (hs : s.Sound) (d : Nat) :
    Within (Foot.without [.BOB_RETIRED, .i_bootStep, .BOOT_TIME] [.mode, .dt, .control]) s (s.startDie d) ∧
      (∀ c e i, c < 2 → e < 2 → i < 1024 → (s.startDie d).rd F.TRG_CURVE.FRAC [d, c, e, i] = Config.factoryCurve d c e i % 1024) ∧
      ∀ x c e i, x ≠ d → (s.startDie d).rd F.TRG_CURVE.FRAC [x, c, e, i] = s.rd F.TRG_CURVE.FRAC [x, c, e, i] := by
  have channels := s.startChannels_within d
  have curves := each_wr_shows F.TRG_CURVE.FRAC (fun x : Nat × Nat × Nat => [d, x.1, x.2.1, x.2.2]) (fun x => Config.factoryCurve d x.1 x.2.1 x.2.2)
    (fun x y e => by simp only [List.cons.injEq, and_true, true_and] at e; exact Prod.ext e.1 (Prod.ext e.2.1 e.2.2)) curvePoints
    (channels.sound hs)
  have written : Within (Foot.of [.TRG_CURVE] []) (s.startChannels d) ((s.startChannels d).each curvePoints fun s x =>
      s.wr F.TRG_CURVE.FRAC [d, x.1, x.2.1, x.2.2] (Config.factoryCurve d x.1 x.2.1 x.2.2)) :=
    Within.each (.refl _ _) fun _ _ h => h.wr _ _ _ (by decide +kernel)
  obtain ⟨-, shown, others⟩ := curves
  rw [startDie_eq, factoryCurves_eq]
  set u := (s.startChannels d).each curvePoints fun s x => s.wr F.TRG_CURVE.FRAC [d, x.1, x.2.1, x.2.2] (Config.factoryCurve d x.1 x.2.1 x.2.2)
  have units := u.startUnits_within d
  refine ⟨((channels.mono (by decide +kernel)).trans (written.mono (by decide +kernel))).trans (units.mono (by decide +kernel)),
    fun c e i hc he hi => ?_, fun x c e i hx => ?_⟩
  · rw [units.rd _ _ (by decide +kernel)]
    exact shown (c, e, i) (mem_curvePoints hc he hi)
  · rw [units.rd _ _ (by decide +kernel), others _ (fun y _ e => hx (by injection e)), channels.rd _ _ (by decide +kernel)]

/-- A die is retired where its neighbour's report says so. -/
theorem dieRetired_congr {s t : State} {d : Nat} (h : t.rd F.BOB_RETIRED.OTHER_DIE [otherDie d] = s.rd F.BOB_RETIRED.OTHER_DIE [otherDie d]) :
    t.dieRetired d = s.dieRetired d := by
  rw [dieRetired, dieRetired, isSet, isSet, h]

/-- The start of a die that works, with the control role shown (R403, R458). -/
def bootDie (s : State) (d : Nat) : State :=
  let s := (s.wrBool F.TOP_ID.CONTROL [d] (d == s.control)).wrBool F.BOB_RETIRED.CONTROL [d] (d == s.control)
  s.on (!s.dieRetired d) fun s => s.startDie d

theorem bootDie_shows {s : State} (hs : s.Sound) (d : Nat) :
    Within (Foot.without [.i_bootStep, .BOOT_TIME] [.mode, .dt, .control]) s (s.bootDie d) ∧
      (∀ e, (s.bootDie d).dieRetired e = s.dieRetired e) ∧
      (∀ c e i, s.dieRetired d = false → c < 2 → e < 2 → i < 1024 →
        (s.bootDie d).rd F.TRG_CURVE.FRAC [d, c, e, i] = Config.factoryCurve d c e i % 1024) ∧
      ∀ x c e i, x ≠ d → (s.bootDie d).rd F.TRG_CURVE.FRAC [x, c, e, i] = s.rd F.TRG_CURVE.FRAC [x, c, e, i] := by
  set u := (s.wrBool F.TOP_ID.CONTROL [d] (d == s.control)).wrBool F.BOB_RETIRED.CONTROL [d] (d == s.control) with hu
  have roles : Within (Foot.without [.i_bootStep, .BOOT_TIME] [.mode, .dt, .control]) s u :=
    ((Within.refl _ s).wr _ _ _ (by decide +kernel)).wr _ _ _ (by decide +kernel)
  have retired : ∀ e, u.dieRetired e = s.dieRetired e := fun e => by
    refine dieRetired_congr ?_
    rw [hu, wrBool, wrBool, rd_wr_of_lo (by decide), rd_wr_of_reg (by decide)]
  have curves : ∀ ix, u.rd F.TRG_CURVE.FRAC ix = s.rd F.TRG_CURVE.FRAC ix := fun ix => by
    rw [hu, wrBool, wrBool, rd_wr_of_reg (by decide), rd_wr_of_reg (by decide)]
  have eq : s.bootDie d = u.on (!u.dieRetired d) fun s => s.startDie d := rfl
  obtain ⟨starts, shown, others⟩ := startDie_shows (roles.sound hs) d
  rw [eq]
  cases hd : u.dieRetired d
  · refine ⟨roles.trans (starts.mono (by decide +kernel)), fun e => ?_, fun c e i _ => shown c e i,
      fun x c e i hx => (others x c e i hx).trans (curves _)⟩
    exact (dieRetired_congr (starts.rd _ _ (by decide +kernel))).trans (retired e)
  · refine ⟨roles, retired, fun c e i works => ?_, fun x c e i _ => curves _⟩
    rw [← retired d, hd] at works
    cases works

/-- READY is entered from boot, before its dies start (R456, R458). -/
def bootEntered (s : State) : State :=
  ((({ s with mode := .ready, dt := 0, dtPrev := 0 }.wr I.bootStep [] 9).wr F.BOOT_TIME.MS [] ((s.now - s.rd I.bootAt []) / 160000000)).showMode
    .ready).tapLeaveHold

/-- What READY brings beside the dies (R458, R460). -/
def bootTold (s : State) : State :=
  let s := (s.wr F.SKN_STATUS.ROLE_ACT [] (s.rd F.SKN_CTRL.ROLE [])).syncAligned
  let s := s.syncDomains.syncCard.syncScan.syncPorts.setShares
  let s := s.on (s.isSet I.bootFault []) fun s => s.storeAsk
  (s.raisePkg 8 3).raisePkg 9 0

/-- The payload of BOOT_DONE (R460). -/
def bootDone (s : State) : Nat :=
  s.rd F.BOOT_STATUS.IMAGE [] + 2 * s.rd F.BOOT_STATUS.FALLBACK [] + 4 * s.rd F.BOOT_RESET_CAUSE.COLD [] + 16 * s.rd F.BOOT_RESET_CAUSE.CAUSE []

theorem bootReady_eq {s : State} (h : s.rd I.bootStep [] = 8) :
    s.bootReady = (s.bootEntered.each [0, 1] bootDie).bootTold.raisePkg 252 (s.bootEntered.each [0, 1] bootDie).bootTold.bootDone := by
  rw [bootReady, if_neg (not_not.2 h)]
  rfl

theorem bootTold_within (s : State) :
    Within (Foot.without [.TRG_CURVE, .i_bootStep, .BOOT_TIME] [.mode, .dt, .control]) s s.bootTold := by
  unfold bootTold
  extract_lets a b c
  have ha : Within (Foot.without [.TRG_CURVE, .i_bootStep, .BOOT_TIME] [.mode, .dt, .control]) s a :=
    syncAligned_within (by decide +kernel) ((Within.refl _ s).wr _ _ _ (by decide +kernel))
  have hb : Within (Foot.without [.TRG_CURVE, .i_bootStep, .BOOT_TIME] [.mode, .dt, .control]) s b :=
    setShares_within (by decide +kernel) (syncPorts_within (by decide +kernel) (syncScan_within (by decide +kernel)
      (syncCard_within (by decide +kernel) (syncDomains_within (by decide +kernel) ha))))
  have hc : Within (Foot.without [.TRG_CURVE, .i_bootStep, .BOOT_TIME] [.mode, .dt, .control]) s c :=
    Within.on hb fun _ h => storeAsk_within (by decide +kernel) h
  exact raisePkg_within (by decide +kernel) (raisePkg_within (by decide +kernel) hc _ _) _ _

/-- What holds as READY is entered. -/
theorem bootEntered_shows {s : State} (hs : s.Sound) : s.bootEntered.Sound ∧ s.bootEntered.mode = .ready ∧ s.bootEntered.dt = 0 ∧
    s.bootEntered.control = s.control ∧ s.bootEntered.rd I.bootStep [] = 9 ∧
    s.bootEntered.rd F.BOOT_TIME.MS [] = (s.now - s.rd I.bootAt []) / 160000000 % 2 ^ 16 ∧ ∀ e, s.bootEntered.dieRetired e = s.dieRetired e := by
  set u : State := { s with mode := .ready, dt := 0, dtPrev := 0 } with hu
  have sound : u.Sound := ⟨hs.regs, hs.mem, hs.acq, hs.tims, hs.acc, hs.layers, hs.flash⟩
  set v := (u.wr I.bootStep [] 9).wr F.BOOT_TIME.MS [] ((s.now - s.rd I.bootAt []) / 160000000) with hv
  have shown : Within (Foot.of [.PWR_MODE, .i_tapIr] []) v s.bootEntered :=
    tapLeaveHold_within (by decide +kernel) (showMode_within (by decide +kernel) (.refl _ v) .ready)
  refine ⟨shown.sound sound.wr.wr, shown.parts .mode (by decide +kernel), shown.parts .dt (by decide +kernel),
    shown.parts .control (by decide +kernel), ?_, ?_, fun e => ?_⟩
  · rw [shown.rd _ _ (by decide +kernel), hv, rd_wr_of_reg (by decide), rd_wr_self_of_lt sound _ _ (by decide)]
  · rw [shown.rd _ _ (by decide +kernel), hv, rd_wr_self sound.wr.regs]
  · refine dieRetired_congr ?_
    rw [shown.rd _ _ (by decide +kernel), hv, rd_wr_of_reg (by decide), rd_wr_of_reg (by decide)]
    rfl

/-- Both dies' starts: what READY shows stays, and the curves of each working die have their factory values. -/
theorem bothDies_show {s : State} (hs : s.Sound) :
    Within (Foot.without [.i_bootStep, .BOOT_TIME] [.mode, .dt, .control]) s (s.each [0, 1] bootDie) ∧
      ∀ d c e i, d < 2 → c < 2 → e < 2 → i < 1024 → s.dieRetired d = false →
        (s.each [0, 1] bootDie).rd F.TRG_CURVE.FRAC [d, c, e, i] = Config.factoryCurve d c e i % 1024 := by
  obtain ⟨within₀, retired₀, shown₀, -⟩ := bootDie_shows hs 0
  obtain ⟨within₁, -, shown₁, others₁⟩ := bootDie_shows (within₀.sound hs) 1
  rw [each_cons, each_cons, each_nil]
  refine ⟨within₀.trans within₁, fun d c e i hd hc he hi works => ?_⟩
  have hd : d = 0 ∨ d = 1 := by omega
  rcases hd with rfl | rfl
  · rw [others₁ 0 c e i (by decide), shown₀ c e i works hc he hi]
  · exact shown₁ c e i ((retired₀ 1).trans works) hc he hi

/-- READY (R456, R458). -/
theorem bootReady_shows {s : State} (hs : s.Sound) (h : s.rd I.bootStep [] = 8) :
    s.bootReady.mode = .ready ∧ s.bootReady.dt = 0 ∧ s.bootReady.rd I.bootStep [] = 9 ∧
      s.bootReady.rd F.BOOT_TIME.MS [] = (s.now - s.rd I.bootAt []) / 160000000 % 2 ^ 16 ∧ s.bootReady.pends s.control 252 = true ∧
      ∀ d c e i : Nat, d < 2 → c < 2 → e < 2 → i < 1024 → s.dieRetired d = false →
        s.bootReady.rd F.TRG_CURVE.FRAC [d, c, e, i] = Config.factoryCurve d c e i % 1024 := by
  obtain ⟨sound, mode, dt, control, step, ms, retired⟩ := bootEntered_shows hs
  obtain ⟨dies, curves⟩ := bothDies_show sound
  have told := (s.bootEntered.each [0, 1] bootDie).bootTold_within
  have toldSound := told.sound (dies.sound sound)
  have same := dies.trans (told.mono (N := Foot.without [.i_bootStep, .BOOT_TIME] [.mode, .dt, .control]) (by decide +kernel))
  have control' : (s.bootEntered.each [0, 1] bootDie).bootTold.control = s.control := (same.parts .control (by decide +kernel)).trans control
  have dt' : (s.bootEntered.each [0, 1] bootDie).bootTold.dt = s.bootEntered.dt := same.parts .dt (by decide +kernel)
  have mode' : (s.bootEntered.each [0, 1] bootDie).bootTold.mode = s.bootEntered.mode := same.parts .mode (by decide +kernel)
  rw [bootReady_eq h]
  refine ⟨(raisePkg_mode ..).trans (mode'.trans mode), ?_, ?_, ?_, ?_, fun d c e i hd hc he hi works => ?_⟩
  · exact ((raise_frame ..).parts .dt (by decide)).trans (dt'.trans dt)
  · rw [raisePkg, raise_rd (by decide), same.rd _ _ (by decide +kernel), step]
  · rw [raisePkg, raise_rd (by decide), same.rd _ _ (by decide +kernel), ms]
  · rw [← control']
    exact raisePkg_pends toldSound _ _
  · rw [raisePkg, raise_rd (by decide), told.rd _ _ (by decide +kernel), curves d c e i hd hc he hi ((retired d).trans works)]

end State

/-- IMAGE_LOAD_DONE acts for the image being tried. -/
theorem exec_imageLoadDone (k : Nat) (digest : Bool) (s : State) :
    exec (.imageLoadDone k digest) s = .next (s.on (s.rd I.bootImg [] == k) fun s => s.imageLoaded digest) := rfl

/-- Settles O9, command by command: each command's operation is due in its step of the boot, and what it shows there is read off it. -/
theorem bootGoesStepByStep : Obligations.BootGoesStepByStep := by
  unfold Obligations.BootGoesStepByStep
  refine ⟨fun mbit rev off fast bytes s hs hm hb hh => ⟨_, rfl, State.resetRelease_shows hs hm hb hh mbit rev off fast bytes⟩,
    fun s hs hb h0 hr => ⟨fun hf => ?flash, fun hf => ?otherFlash⟩, fun s hs hb h0 h1 hr => ⟨?fails, fun ht => ?timeout⟩,
    fun k digest s hs hk => ?otherImage, fun digest s hs hb => ⟨fun hok hblank hd => ?loaded, fun hbad => ?notLoaded⟩,
    fun s hs hb hk => ⟨⟨_, rfl, State.signatureChecked_shows hs hb rfl hk⟩, ?unsigned⟩, fun s hs hb => ?firmware,
    fun lost pcs s hs hb => ⟨⟨_, rfl, State.hbmTrained_step hs hb lost pcs⟩, ⟨_, rfl, State.hbmTrained_step hs hb [] [], fun d h hd hh hr =>
      State.hbmTrained_nil hs hb hd hh hr⟩⟩, fun s hs hb _ => ⟨_, rfl, State.bootReady_shows hs hb⟩⟩
  case flash =>
    refine completes_of_eq rfl (State.selfCheck_passes hs hb h0 hr) ?_
    exact State.bootDirectory_of_flash hs.wr ((State.rd_wr_of_reg (by decide) ..).trans hf)
  case otherFlash =>
    refine completes_of_eq rfl (State.selfCheck_passes hs hb h0 hr) ?_
    exact State.bootDirectory_of_otherFlash hs.wr fun e => hf ((State.rd_wr_of_reg (by decide) ..).symm.trans e)
  case fails =>
    obtain ⟨-, retired, control, die, pends, -⟩ := State.bootRetire_zero_shows hs
    exact completes_of_eq rfl (State.selfCheck_fails hs hb h0 h1 hr) ⟨retired, control, die, pends⟩
  case timeout =>
    obtain ⟨-, retired, control, die, pends, -⟩ := State.bootRetire_zero_shows hs
    exact completes_of_eq rfl (State.selfCheckTimeout_acts hb h0 h1 ht) ⟨retired, control, die, pends⟩
  case otherImage =>
    refine completes_of_eq (exec_imageLoadDone k digest s) ?_ rfl
    rw [beq_false_of_ne hk, State.on_false]
  case loaded =>
    subst hd
    refine completes_of_eq (exec_imageLoadDone _ true s) ?_ (State.imageLoaded_of_good hs hb hok hblank)
    rw [beq_self_eq_true, State.on_true]
  case notLoaded =>
    obtain ⟨shown, step⟩ := State.imageFails_shows hs (headerBlank (s.imageHeader (s.rd I.bootImg [])))
    refine completes_of_eq (exec_imageLoadDone _ digest s) ?_ ⟨shown, step.trans ?_⟩
    · rw [beq_self_eq_true, State.on_true, State.imageLoaded_of_bad hb hbad]
    · obtain h | h := hb <;> rw [h] <;> rfl
  case unsigned =>
    obtain ⟨shown, step⟩ := State.imageFails_shows hs false
    refine completes_of_eq rfl (State.signatureChecked_fails hb) ⟨shown, step.trans ?_⟩
    obtain h | h := hb <;> rw [h] <;> rfl
  case firmware =>
    obtain ⟨step, slot⟩ := State.firmwareStart_shows hs hb
    exact ⟨_, rfl, step, slot.trans s.storeSource_eq⟩

end Sys2Proof.Machine
end

section
/-!
PROOFS. What operations of several blocks keep (R321, R380): pending bits that are set stay set, and the derating level stays. The
deferred queues of Harvest reach most of them (R381).
-/

namespace Sys2Proof.Machine

-- One proof at a time: proofs elaborated side by side ask for more memory than a compile of the whole text may take.
set_option Elab.async false

/-- The footprint of everything but the pending words and the register with the derating level. -/
def Foot.quiet : Foot := Foot.without [.EVC_PEND, .HVS_STATUS] []

/-- From `s` to `t` a sound state stays sound, a pending bit that is set stays set, and the derating level is the same. -/
structure Keeps (s t : State) : Prop where
  sound : s.Sound → t.Sound
  pends : s.Sound → ∀ d src, s.pends d src = true → t.pends d src = true
  level : t.rd F.HVS_STATUS.LEVEL [] = s.rd F.HVS_STATUS.LEVEL []

namespace Keeps

theorem refl (s : State) : Keeps s s := ⟨id, fun _ _ _ h => h, rfl⟩

theorem trans {s t u : State} (h : Keeps s t) (k : Keeps t u) : Keeps s u :=
  ⟨fun hs => k.sound (h.sound hs), fun hs d src hp => k.pends (h.sound hs) d src (h.pends hs d src hp), k.level.trans h.level⟩

/-- An operation that changes neither the pending words nor HVS_STATUS. -/
theorem of_within {s t : State} (w : Within Foot.quiet s t) : Keeps s t := by
  refine ⟨w.sound, fun _ d src hp => ?_, w.rd _ _ (by decide +kernel)⟩
  rw [State.pends, w.rd _ _ (by decide +kernel)]
  exact hp

section
variable {s₀ s : State} (h : Keeps s₀ s)
include h

theorem within {t : State} (w : Within Foot.quiet s t) : Keeps s₀ t := h.trans (of_within w)

theorem wr {f : Fld} (hp : f.reg ≠ .EVC_PEND) (hl : f.reg ≠ .HVS_STATUS ∨ f.lo ≠ F.HVS_STATUS.LEVEL.lo) (ix : List Nat) (v : Nat) :
    Keeps s₀ (s.wr f ix v) := by
  refine h.trans ⟨fun hs => hs.wr, fun _ d src hs => (State.wr_pends hp ..).trans hs, ?_⟩
  obtain hl | hl := hl
  · exact State.rd_wr_of_reg (Ne.symm hl) ..
  · exact State.rd_wr_of_lo (Ne.symm hl) ..

/-- A write of a register that is neither of the two. -/
theorem put {f : Fld} (hf : f.reg ∉ [Reg.EVC_PEND, .HVS_STATUS]) (ix : List Nat) (v : Nat) : Keeps s₀ (s.wr f ix v) := by
  simp only [List.mem_cons, List.not_mem_nil, or_false, not_or] at hf
  exact h.wr hf.1 (.inl hf.2) ix v

theorem raise (d src payload : Nat) : Keeps s₀ (s.raise d src payload) :=
  h.trans ⟨fun hs => State.raise_sound hs _ _ _, fun hs _ _ hp => State.raise_keeps hs d src payload hp, State.raise_rd (by decide) ..⟩

theorem raisePkg (src payload : Nat) : Keeps s₀ (s.raisePkg src payload) := h.raise ..

theorem on {f : State → State} (b : Bool) (hf : ∀ u, Keeps s₀ u → Keeps s₀ (f u)) : Keeps s₀ (s.on b f) := by
  cases b
  · exact h
  · exact hf _ h

theorem each {α : Type} (l : List α) {f : State → α → State} (hf : ∀ u x, Keeps s₀ u → Keeps s₀ (f u x)) : Keeps s₀ (s.each l f) := by
  unfold State.each
  induction l generalizing s with
  | nil => exact h
  | cons x l ih => exact ih (hf s x h)

end

theorem ite {s₀ a b : State} {c : Prop} [Decidable c] (ha : Keeps s₀ a) (hb : Keeps s₀ b) : Keeps s₀ (if c then a else b) := by
  split
  · exact ha
  · exact hb

end Keeps

namespace State

variable {s₀ s : State} (h : Keeps s₀ s)
include h

-- Claims, the mailbox and the deferred queues (R363, R381, R404) -----------------------------------------------------

theorem claim_keeps (c : Claim) : Keeps s₀ (s.claim c) := by
  unfold claim
  refine Keeps.ite (h.within ?_) ((h.within ?_).raise ..)
  · exact syncMnt_within (by decide +kernel) (Within.set_running (.refl _ s) _ (by decide +kernel))
  · exact syncMnt_within (by decide +kernel) (Within.set_waiting (.refl _ s) _ (by decide +kernel))

theorem finish_keeps (o : Outstanding) (status : Nat) (results : List Byte) : Keeps s₀ (s.finish o status results) := by
  unfold finish
  refine (h.within ?_).raise ..
  exact keep_within (by decide +kernel) (syncMbx_within (by decide +kernel) (Within.set_outstanding (.refl _ s) _ (by decide +kernel)) _) _

theorem finishUnit_keeps (opcode unit status : Nat) (results : List Byte) : Keeps s₀ (s.finishUnit opcode unit status results) :=
  h.each _ fun _ o h => finish_keeps h o status results

theorem syncDeferred_keeps : Keeps s₀ s.syncDeferred := (h.wr (by decide) (by decide) _ _).wr (by decide) (by decide) _ _

/-- The queues change, and the fields that show them. -/
theorem setDeferred_keeps (l : List Deferred) : Keeps s₀ ({ s with deferred := l }.syncDeferred) :=
  syncDeferred_keeps (h.within (Within.set_deferred (.refl _ s) l (by decide +kernel)))

theorem dropDeferred_keeps (x : Deferred) : Keeps s₀ (s.dropDeferred x) := setDeferred_keeps h _

theorem withdraw_keeps (p : Deferred → Bool) : Keeps s₀ (s.withdraw p) := setDeferred_keeps h _

theorem withdrawWith_keeps (code : Nat) (p : Deferred → Bool) : Keeps s₀ (s.withdrawWith code p) := by
  unfold withdrawWith
  refine (withdraw_keeps h p).each _ fun u x hu => ?_
  split
  · exact hu
  · split
    · exact finish_keeps hu _ _ _
    · exact hu

theorem requestEnd_keeps (x : Deferred) (code : Nat) : Keeps s₀ (s.requestEnd x code) := by
  unfold requestEnd
  split
  · exact finish_keeps h _ _ _
  · exact h

theorem requestStarted_keeps (x : Deferred) : Keeps s₀ (s.requestStarted x) := by
  unfold requestStarted
  split
  · exact h
  · rename_i p _
    have told := h.raise p.1.die 217 (p.1.tag + 2 ^ 16 * p.2)
    dsimp only
    split
    · exact told
    · split
      · exact told.within (Within.set_outstanding (.refl _ _) _ (by decide +kernel))
      · exact finish_keeps told _ _ _

-- Converters, Carding and Combing (R94, R108, R367) ------------------------------------------------------------------

theorem setCalSw_keeps (d c v : Nat) : Keeps s₀ (s.setCalSw d c v) := by
  unfold setCalSw
  exact Keeps.ite h ((h.put (by decide) _ _).raise ..)

theorem clearStarved_keeps (d c : Nat) : Keeps s₀ (s.clearStarved d c) :=
  h.on _ fun _ h => (h.put (by decide) _ _).raise ..

theorem cardOff_keeps (d c : Nat) : Keeps s₀ (s.cardOff d c) := by
  unfold cardOff
  extract_lets run t
  have ht : Keeps s₀ t := h.on _ fun _ h => h.put (by decide) _ _
  exact (clearStarved_keeps (ht.put (by decide) _ _) d c).within (cardDrop_within (by decide +kernel) (.refl _ _) d c)

theorem syncCard_keeps : Keeps s₀ s.syncCard := by
  unfold syncCard
  refine h.each _ fun u d hu => hu.each _ fun u c hu => Keeps.ite (hu.on _ fun v hv => ?_) (hu.on _ fun v hv => cardOff_keeps hv d c)
  exact hv.within (cardStart_within (by decide +kernel) (.refl _ v) d c)

theorem setTestDomains_keeps (f : Nat → List Nat) : Keeps s₀ (s.setTestDomains f) := by
  have marked : Keeps s₀ (s.each [0, 1] fun s d => s.wr I.testDom [d] ((f d).foldl setBit 0)) := h.each _ fun _ _ h => h.put (by decide) _ _
  exact syncCard_keeps (marked.within (syncDomains_within (by decide +kernel) (.refl _ _)))

theorem combStop_keeps (d c code : Nat) : Keeps s₀ (s.combStop d c code) := by
  unfold combStop
  exact (((h.each _ fun _ x h => setCalSw_keeps h d x 0).put (by decide) _ _).put (by decide) _ _).put (by decide) _ _

theorem calBegins_keeps (d c : Nat) (f : Fld) (hf : f.reg = .CNV_STATUS) : Keeps s₀ (s.calBegins d c f) :=
  h.within (calBegins_within (by decide +kernel) (.refl _ s) d c f (by rw [hf]; decide +kernel))

theorem combZero_keeps (d c : Nat) : Keeps s₀ (s.combZero d c) := by
  unfold combZero
  extract_lets a b
  have ha : Keeps s₀ a := h.each _ fun _ x h => setCalSw_keeps (calBegins_keeps h d x _ rfl) d x 1
  have hl := (ha.put (f := F.CRD_COMB_STATUS.STATE) (by decide) [d, c] 2).within (setLadder_within (by decide +kernel) (.refl _ _) d c 0)
  have hb : Keeps s₀ b := (hl.put (by decide) _ _).put (by decide) _ _
  exact hb.on _ fun _ h => combStop_keeps h d c _

theorem combGo_keeps (d c : Nat) (store : Bool) : Keeps s₀ (s.combGo d c store) := by
  unfold combGo
  exact (claim_keeps ((h.put (by decide) _ _).put (by decide) _ _) _).on _ fun _ h => combZero_keeps h d c

-- Rethreading, the store and the refit (R45, R117, R394) -------------------------------------------------------------

theorem rtOver_keeps (d outcome status : Nat) : Keeps s₀ (s.rtOver d outcome status) := by
  unfold rtOver
  extract_lets u a mine b
  have ha : Keeps s₀ a := ((h.within (rtShow_within (by decide +kernel) (.refl _ s) d 0 0 0)).put (by decide) _ _).put (by decide) _ _
  have claims : Within Foot.quiet a { a with running := a.running.filter fun c => !mine c.act, waiting := a.waiting.filter fun c => !mine c.act } :=
    Within.set_waiting (Within.set_running (.refl Foot.quiet a) (a.running.filter fun c => !mine c.act) (by decide +kernel))
      (a.waiting.filter fun c => !mine c.act) (by decide +kernel)
  have hb : Keeps s₀ b := ha.within (syncMnt_within (by decide +kernel) claims)
  exact finishUnit_keeps (hb.raise ..) _ _ _ _

theorem rtGo_keeps (u : Nat) (lost : Bool) : Keeps s₀ (s.rtGo u lost) := by
  unfold rtGo
  extract_lets d phase c a b e
  have ha : Keeps s₀ a := (h.within (bobState_within (by decide +kernel) (rtShow_within (by decide +kernel) (.refl _ s) _ _ _ _) _ _)).raise ..
  have hb : Keeps s₀ b := ha.on _ fun v hv => by
    split
    · exact hv.put (by decide) _ _
    · exact hv
  have he : Keeps s₀ e := claim_keeps hb c
  exact he.on _ fun v hv => hv.within (rtGranted_within (by decide +kernel) (.refl _ v) d)

theorem storeGo_keeps : Keeps s₀ s.storeGo := by
  unfold storeGo
  refine Keeps.ite (h.put (by decide) _ _) ((claim_keeps h _).on _ fun v hv => ?_)
  exact hv.within (storeStart_within (by decide +kernel) (.refl _ v))

theorem refitGo_keeps : Keeps s₀ s.refitGo := by
  unfold refitGo
  exact (claim_keeps h _).on _ fun _ hv => hv.put (by decide) _ _

-- Acquisition and accumulation (R176, R200) --------------------------------------------------------------------------

theorem armEffect_keeps (d a : Nat) (dt : Instant) (cause : Nat) : Keeps s₀ (s.armEffect d a dt cause) := by
  unfold armEffect
  extract_lets first s₁ s₂ s₃ s₄ s₅ s₆ s₇ s₈ s₉
  have h₁ : Keeps s₀ s₁ := h.within (setAcq_within (by decide +kernel) (.refl _ s) _ _ _)
  have h₂ : Keeps s₀ s₂ := h₁.within (Within.set_library (.refl _ s₁) _ (by decide +kernel))
  have h₃ : Keeps s₀ s₃ := (h₂.on _ fun _ h => h.put (by decide) _ _).put (by decide) _ _
  have h₄ : Keeps s₀ s₄ := (((h₃.put (by decide) _ _).put (by decide) _ _).put (by decide) _ _).put (by decide) _ _
  have h₅ : Keeps s₀ s₅ := h₄.within (syncFill_within (by decide +kernel) (.refl _ s₄) d a)
  have h₆ : Keeps s₀ s₆ := h₅.on _ fun _ h => (h.put (by decide) _ _).raise ..
  have h₇ : Keeps s₀ s₇ := Keeps.ite ((h₆.put (by decide) _ _).on _ fun v h => h.within (lcOpenChunk_within (by decide +kernel) (.refl _ v) d))
    (h₆.within (openSeg_within (by decide +kernel) (.refl _ s₆) _ _ _ _ _))
  have h₈ : Keeps s₀ s₈ := h₇.raise ..
  have h₉ : Keeps s₀ s₉ := h₈.on _ fun v h => h.within (seqArm_within (by decide +kernel) (.refl _ v) _ _ _)
  exact h₉.on _ fun v h => h.within (stopAt_within (by decide +kernel) (.refl _ v) _ _ _)

theorem accEnter_keeps (d c st cause : Nat) : Keeps s₀ (s.accEnter d c st cause) := by
  unfold accEnter
  exact Keeps.ite h (((h.within (accNote_within (by decide +kernel) (.refl _ s) d c)).put (by decide) _ _).raise ..)

theorem accStart_keeps (d c : Nat) : Keeps s₀ (s.accStart d c) := by
  unfold accStart
  extract_lets engine a b e
  have ha : Keeps s₀ a := h.within (clearSums_within (by decide +kernel) (setAcc_within (by decide +kernel) (.refl _ s) _ _ _) d c)
  have hb : Keeps s₀ b := ha.on _ fun v h => h.within (clearHist_within (by decide +kernel) (.refl _ v) d c)
  have he : Keeps s₀ e := ((hb.put (by decide) _ _).put (by decide) _ _).put (by decide) _ _
  exact (accEnter_keeps (he.put (by decide) _ _) d c 1 0).within (syncFrozen_within (by decide +kernel) (.refl _ _) d c)

-- Time-interval units (R287) -----------------------------------------------------------------------------------------

theorem stick_keeps (f : Fld) (hf : f.reg ∉ [Reg.EVC_PEND, .HVS_STATUS]) (ix : List Nat) (d src payload : Nat) :
    Keeps s₀ (s.stick f ix d src payload) := by
  have fresh : ∀ {t}, Keeps s₀ t → ∀ v, Keeps s₀ (t.noteFresh f ix v) := fun ht v => ht.within (Within.set_fresh (.refl _ _) _ (by decide +kernel))
  exact Keeps.ite (fresh h 1) ((fresh (h.put hf ix 1) 1).raise ..)

theorem setTim_keeps (d u : Nat) (t : Tim) : Keeps s₀ (s.setTim d u t) := h.within (setTim_within (by decide +kernel) (.refl _ s) d u t)

theorem syncTim_keeps (d u : Nat) : Keeps s₀ (s.syncTim d u) := h.within (syncTim_within (by decide +kernel) (.refl _ s) d u)

theorem timResult_keeps (d u : Nat) (first last : Instant) (value : Int) (count step : Nat) (neg none : Bool) :
    Keeps s₀ (s.timResult d u first last value count step neg none) := by
  unfold timResult
  extract_lets t under ovr v a b r shown
  refine Keeps.ite (stick_keeps (setTim_keeps h d u _) _ (by decide) _ _ _ _) ?_
  have hs : Keeps s₀ shown := syncTim_keeps (setTim_keeps h d u _) d u
  exact hs.on _ fun _ h => h.raise ..

theorem timInterval_keeps (d u e : Nat) (dt : Instant) (step : Nat) : Keeps s₀ (s.timInterval d u e dt step) := by
  unfold timInterval
  extract_lets t signed ignored
  have none : Keeps s₀ ignored := h.within (count_within (by decide +kernel) (.refl _ s) _ _ _ (by split <;> decide +kernel))
  split
  · exact Keeps.ite none (syncTim_keeps (setTim_keeps h d u _) d u)
  · exact Keeps.ite none (syncTim_keeps (timResult_keeps (setTim_keeps h d u _) ..) d u)

theorem timPeriod_keeps (d u : Nat) (dt : Instant) (step : Nat) : Keeps s₀ (s.timPeriod d u dt step) := by
  unfold timPeriod
  dsimp only
  split
  · exact syncTim_keeps (setTim_keeps h d u _) d u
  · exact Keeps.ite (setTim_keeps h d u _) (syncTim_keeps (timResult_keeps (setTim_keeps h d u _) ..) d u)

theorem timTotal_keeps (d u e : Nat) (dt : Instant) : Keeps s₀ (s.timTotal d u e dt) := by
  unfold timTotal
  refine Keeps.ite (h.within (inc_within (.refl _ s) _ _ (by decide +kernel))) ?_
  exact syncTim_keeps ((timResult_keeps (setTim_keeps h d u _) ..).put (by decide) _ _) d u

theorem timEvent_keeps (v : TimEvent) : Keeps s₀ (s.timEvent v) := by
  unfold timEvent
  extract_lets d u t hold last w
  refine Keeps.ite (h.within (count_within (by decide +kernel) (.refl _ s) _ _ _ (by decide +kernel))) ?_
  have noted : Keeps s₀ w := setTim_keeps h d u _
  split
  · exact timInterval_keeps noted ..
  · exact timPeriod_keeps noted ..
  · exact noted.within (timGateEdge_within (by decide +kernel) (.refl _ w) _ _ _ _)
  · exact timTotal_keeps noted ..

theorem timTake_keeps (d u : Nat) (p : TimEvent → Bool) : Keeps s₀ (s.timTake d u p) := by
  unfold timTake
  exact (h.within (Within.set_timHeld (.refl _ s) _ (by decide +kernel))).each _ fun _ v h => timEvent_keeps h v

theorem timFinish_keeps (d u : Nat) : Keeps s₀ (s.timFinish d u) := by
  unfold timFinish
  split
  · exact h
  · extract_lets a open_ b t
    have ha : Keeps s₀ a := timTake_keeps h d u _
    have hb : Keeps s₀ b := ha.on _ fun _ h => timTotal_keeps h ..
    exact (syncTim_keeps (setTim_keeps hb d u _) d u).put (by decide) _ _

theorem timStart_keeps (d u tick : Nat) : Keeps s₀ (s.timStart d u tick) := by
  unfold timStart
  extract_lets a t idle b
  have ha : Keeps s₀ a := timFinish_keeps h d u
  have hb : Keeps s₀ b := setTim_keeps ha d u _
  exact syncTim_keeps (((hb.put (by decide) _ _).put (by decide) _ _).put (by decide) _ _) d u

-- Service tests (R436 to R440) ---------------------------------------------------------------------------------------

theorem ladderOff_keeps (n : Nat) : Keeps s₀ (s.ladderOff n) := by
  unfold ladderOff
  exact h.each _ fun _ c h => ((setCalSw_keeps h _ c 0).put (by decide) _ _).put (by decide) _ _

theorem ladderOn_keeps (n : Nat) : Keeps s₀ (s.ladderOn n) := by
  unfold ladderOn
  refine h.each _ fun v c hv => ?_
  extract_lets w
  have hw : Keeps s₀ w := calBegins_keeps (hv.put (by decide) _ _) _ _ _ (by split <;> rfl)
  exact (setCalSw_keeps hw _ c 1).put (by decide) _ _

theorem testEnd_keeps (result locus unit : Nat) (reading : List Byte) : Keeps s₀ (s.testEnd result locus unit reading) := by
  unfold testEnd
  extract_lets n began s₁ s₂ s₃ s₄ s₅ s₆ s₇ s₈
  have h₁ : Keeps s₀ s₁ := h.on _ fun _ h => setTestDomains_keeps (ladderOff_keeps h n) _
  have h₂ : Keeps s₀ s₂ := h₁.on _ fun v h => h.within (loseStack_within (by decide +kernel) (.refl _ v) _ _)
  have h₃ : Keeps s₀ s₃ := h₂.on _ fun v h => h.within (clearHist_within (by decide +kernel) (.refl _ v) _ _)
  have h₄ : Keeps s₀ s₄ := withdraw_keeps (h₃.within (release_within (by decide +kernel) (.refl _ s₃) _)) _
  have h₅ : Keeps s₀ s₅ := h₄.each _ fun v d h => h.within (setAtb_within (by decide +kernel) (.refl _ v) _ _ _)
  have h₆ : Keeps s₀ s₆ := (((h₅.put (by decide) _ _).put (by decide) _ _).put (by decide) _ _).put (by decide) _ _
  have h₇ : Keeps s₀ s₇ := (h₆.put (by decide) _ _).put (by decide) _ _
  have h₈ : Keeps s₀ s₈ := h₇.within (consoleLine_within (by decide +kernel) (.refl _ s₇) _)
  exact h₈.raise ..

theorem testComb_keeps (d c : Nat) : Keeps s₀ (s.testComb d c) := by
  unfold testComb
  split
  · exact combGo_keeps h d c false
  · exact testEnd_keeps h ..
  · exact testEnd_keeps h ..

theorem testBegin_keeps : Keeps s₀ s.testBegin := by
  unfold testBegin
  extract_lets n t
  have ht : Keeps s₀ t := ladderOn_keeps (setTestDomains_keeps (h.put (by decide) _ _) _) n
  refine Keeps.ite (testComb_keeps ht _ _) ?_
  split
  · exact ht
  · exact ht.within (meterAsk_within (by decide +kernel) (.refl _ t) _)

theorem testAdmitted_keeps : Keeps s₀ s.testAdmitted := by
  unfold testAdmitted
  split
  · exact testBegin_keeps h
  · exact (claim_keeps (h.put (by decide) _ _) _).on _ fun _ h => testBegin_keeps h

-- Deferred requests (R381) -------------------------------------------------------------------------------------------

theorem requestField_keeps (r : Request) (code : Nat) : Keeps s₀ (s.requestField r code) := by
  unfold requestField
  split
  · exact h.put (by decide) _ _
  · exact h.put (by decide) _ _
  · exact h.put (by decide) _ _
  · exact h.on _ fun _ h => rtOver_keeps h ..
  · exact h

theorem requestGo_keeps (r : Request) : Keeps s₀ (s.requestGo r) := by
  unfold requestGo
  split
  case h_1 => exact h.within (startMode_within (by decide +kernel) (.refl _ s) _ _)
  case h_2 => exact armEffect_keeps (h.put (by decide) _ _) ..
  case h_3 => exact accStart_keeps h ..
  case h_4 => exact Keeps.ite h (timStart_keeps h ..)
  case h_5 => exact combGo_keeps h ..
  case h_6 => exact rtGo_keeps h ..
  case h_7 => exact storeGo_keeps h
  case h_8 => exact refitGo_keeps h
  case h_9 => exact (claim_keeps h _).on _ fun _ h => h.put (by decide) _ _
  case h_10 => exact testAdmitted_keeps h

theorem tryHead_keeps (x : Deferred) : Keeps s₀ (s.tryHead x).1 := by
  unfold tryHead
  extract_lets c dies k dropped checked admitted
  split
  · exact h
  · have hd : Keeps s₀ dropped := dropDeferred_keeps h x
    have hc : Keeps s₀ checked := by
      unfold checked
      split
      · exact hd.within (recordSeqCheck_within (by decide +kernel) (.refl _ dropped) _ _ _)
      · exact hd
    split
    · exact requestEnd_keeps (requestField_keeps hc _ _) _ _
    · have ha : Keeps s₀ admitted := (hc.within (charge_within (by decide +kernel) (.refl _ checked) _ _ _)).raise ..
      exact requestGo_keeps (requestStarted_keeps ha x) _

theorem tryQueues_keeps (d n : Nat) : Keeps s₀ (tryQueues d n s) := by
  induction n generalizing s with
  | zero => exact h
  | succ n ih =>
    have head : ∀ {t : State} (maint : Bool), Keeps s₀ t →
        Keeps s₀ (match t.deferredHead d maint with | some x => t.tryHead x | none => (t, false)).1 := fun maint ht => by
      split
      · exact tryHead_keeps ht _
      · exact ht
    exact Keeps.ite (ih (head true (head false h))) (head true (head false h))

theorem tryDeferred_keeps : Keeps s₀ s.tryDeferred := h.each _ fun _ d h => tryQueues_keeps h d _

end State
end Sys2Proof.Machine
end

section
/-!
PROOFS. The Harvest period, derating, the thermal limit and failover (R376, R380, R383, R384, R386, R403).
-/

namespace Sys2Proof.Machine

-- One proof at a time: proofs elaborated side by side ask for more memory than a compile of the whole text may take.
set_option Elab.async false

namespace State

-- Derating (R380) ----------------------------------------------------------------------------------------------------

/-- A step of derating on one die keeps the level itself. -/
theorem derateStep_keeps {s₀ s : State} (h : Keeps s₀ s) (k d : Nat) : Keeps s₀ (s.derateStep k d).1 := by
  unfold derateStep
  split
  · exact h.each _ fun _ _ h => h.put (by decide) _ _
  · split
    · dsimp only
      split
      · exact h.within (suspendCard_within (by decide +kernel) (.refl _ s) _ _)
      · exact h
    · refine List.foldlRecOn (motive := fun p : State × Nat => Keeps s₀ p.1) _ _ h fun p hp u _ => ?_
      dsimp only
      split
      · exact (((hp.within (cmpSettle_within (by decide +kernel) (.refl _ _) _ _ _ _)).put (by decide) _ _).put (by decide) _ _).raise ..
      · exact hp

/-- Both dies take the step of a level (R380). -/
def deratedBoth (s : State) (k : Nat) : State := ((s.derateStep k 0).1.derateStep k 1).1

/-- The power that the step of a level saves on a die. -/
def derateSaves (s : State) (k d : Nat) : Nat := if d = 0 then (s.derateStep k 0).2 else ((s.derateStep k 0).1.derateStep k 1).2

/-- The shares of a die gain what derating saves. -/
def derateShared (s : State) (d save : Nat) : State :=
  { (s.addSat F.HVS_SHARE.VALUE [d, 0] save).addSat F.HVS_SHARE.VALUE [d, 1] save with deratedAt := s.now }

theorem derateUp_eq (s : State) (d : Nat) : s.derateUp d =
    (((s.deratedBoth (s.rd F.HVS_STATUS.LEVEL [] + 1)).wr F.HVS_STATUS.LEVEL [] (s.rd F.HVS_STATUS.LEVEL [] + 1)).derateShared d
      (s.derateSaves (s.rd F.HVS_STATUS.LEVEL [] + 1) d)).raisePkg 12 (s.rd F.HVS_STATUS.LEVEL [] + 1) := rfl

theorem derateShared_within (s : State) (d save : Nat) : Within Foot.quiet s (s.derateShared d save) :=
  Within.set_deratedAt (addSat_within (addSat_within (.refl _ s) _ _ _ (by decide +kernel)) _ _ _ (by decide +kernel)) _ (by decide +kernel)

theorem derateShared_control (s : State) (d save : Nat) : (s.derateShared d save).control = s.control := rfl

/-- Derating goes up by one, with HVS_DERATE (R380, R387); bits that are pending stay. -/
theorem derateUp_shows {s : State} (hs : s.Sound) (h : s.rd F.HVS_STATUS.LEVEL [] < 15) (d : Nat) :
    (s.derateUp d).Sound ∧ (s.derateUp d).rd F.HVS_STATUS.LEVEL [] = s.rd F.HVS_STATUS.LEVEL [] + 1 ∧ (s.derateUp d).pends s.control 12 = true ∧
      ∀ e src, s.pends e src = true → (s.derateUp d).pends e src = true := by
  set k := s.rd F.HVS_STATUS.LEVEL [] + 1 with hk
  have both : Keeps s (s.deratedBoth k) := derateStep_keeps (derateStep_keeps (.refl s) k 0) k 1
  have still : Within (Foot.without [] [.control]) s (s.deratedBoth k) :=
    derateStep_within (by decide +kernel) (derateStep_within (by decide +kernel) (.refl _ s) k 0) k 1
  have shared := ((s.deratedBoth k).wr F.HVS_STATUS.LEVEL [] k).derateShared_within d (s.derateSaves k d)
  have soundBoth := both.sound hs
  have sound := shared.sound soundBoth.wr
  have control : (((s.deratedBoth k).wr F.HVS_STATUS.LEVEL [] k).derateShared d (s.derateSaves k d)).control = s.control :=
    (derateShared_control ..).trans ((still.wr F.HVS_STATUS.LEVEL [] k (by decide +kernel)).parts .control (by decide +kernel))
  have level : ((s.deratedBoth k).wr F.HVS_STATUS.LEVEL [] k).rd F.HVS_STATUS.LEVEL [] = k :=
    rd_wr_self_of_lt soundBoth _ _ (lt_of_le_of_lt (by omega : k ≤ 15) (by decide))
  rw [derateUp_eq, ← hk]
  refine ⟨raise_sound sound _ _ _, ?_, ?_, fun e src hp => raise_keeps sound _ _ _ ?_⟩
  · rw [raisePkg, raise_rd (by decide), (Keeps.of_within shared).level, level]
  · rw [← control]
    exact raisePkg_pends sound _ _
  · exact (Keeps.of_within shared).pends soundBoth.wr e src ((wr_pends (by decide) ..).trans (both.pends hs e src hp))

/-- Derating goes up once for each entry of a list. -/
def derateUps (s : State) (l : List Nat) : State := s.each l fun s _ => s.derateUp s.control

theorem derateUps_cons (s : State) (x : Nat) (l : List Nat) : s.derateUps (x :: l) = (s.derateUp s.control).derateUps l := each_cons ..

/-- Derating that goes up a number of times (R384). -/
theorem derateUps_show (l : List Nat) {s : State} (hs : s.Sound) (h : l ≠ [] → s.rd F.HVS_STATUS.LEVEL [] + l.length ≤ 15) :
    (s.derateUps l).rd F.HVS_STATUS.LEVEL [] = s.rd F.HVS_STATUS.LEVEL [] + l.length ∧
      ∀ e src, s.pends e src = true → (s.derateUps l).pends e src = true := by
  induction l generalizing s with
  | nil => exact ⟨rfl, fun _ _ hp => hp⟩
  | cons x l ih =>
    have room : ∀ {v n : Nat}, v + (n + 1) ≤ 15 → v < 15 ∧ v + 1 + n ≤ 15 := fun h => ⟨by omega, by omega⟩
    obtain ⟨below, rest⟩ := room (h (List.cons_ne_nil x l))
    obtain ⟨sound, level, -, pends⟩ := derateUp_shows hs below s.control
    obtain ⟨levels, keeps⟩ := ih sound fun _ => by rw [level]; exact rest
    rw [derateUps_cons]
    refine ⟨?_, fun e src hp => keeps e src (pends e src hp)⟩
    rw [levels, level, List.length_cons, Nat.add_assoc, Nat.add_comm 1]

-- The Harvest period (R376, R386) ------------------------------------------------------------------------------------

/-- The monitors of a die are shown (R376). -/
def showDie (rails : List (List Nat)) (temps : List (List Int)) (s : State) (d : Nat) : State :=
  let t := temps.getD d []
  let s := s.each (List.range 12) fun s r => s.wr F.PWR_RAIL.MW [d, r] ((rails.getD d []).getD r 0)
  let s := s.each (List.range 8) fun s k => s.wr F.PWR_TEMP.TEMP [d, k] (sfield 16 (t.getD k 0))
  s.wr F.PWR_TEMP.TEMP [d, 8] (sfield 16 ((t.take 8).foldl max (t.getD 0 0)))

theorem showMonitors_eq (s : State) (rails : List (List Nat)) (temps : List (List Int)) :
    s.showMonitors rails temps = showDie rails temps (showDie rails temps s 0) 1 := rfl

theorem showMonitors_only (s : State) (rails : List (List Nat)) (temps : List (List Int)) :
    Within (Foot.of [.PWR_RAIL, .PWR_TEMP] []) s (s.showMonitors rails temps) := by
  have die : ∀ {t}, Within (Foot.of [.PWR_RAIL, .PWR_TEMP] []) s t → ∀ d, Within (Foot.of [.PWR_RAIL, .PWR_TEMP] []) s (showDie rails temps t d) :=
    fun ht d => (Within.each (Within.each ht fun _ _ h => h.wr _ _ _ (by decide +kernel)) fun _ _ h => h.wr _ _ _ (by decide +kernel)).wr _ _ _
      (by decide +kernel)
  exact die (die (.refl _ s) 0) 1

theorem sfield_lt (w : Nat) (z : Int) : sfield w z < 2 ^ w := by
  have pos : (0 : Int) < ((2 ^ w : Nat) : Int) := by exact_mod_cast Nat.two_pow_pos w
  have lt := Int.emod_lt_of_pos z pos
  have nonneg := Int.emod_nonneg z (ne_of_gt pos)
  unfold sfield
  omega

/-- What a die shows of its own monitors, and of the other die's. -/
theorem showDie_shows {s : State} (hs : s.Sound) (rails : List (List Nat)) (temps : List (List Int)) (d : Nat) :
    (showDie rails temps s d).Sound ∧
      (∀ r < 12, (showDie rails temps s d).rd F.PWR_RAIL.MW [d, r] = (rails.getD d []).getD r 0 % 2 ^ 24) ∧
      (∀ k < 8, (showDie rails temps s d).rd F.PWR_TEMP.TEMP [d, k] = sfield 16 ((temps.getD d []).getD k 0)) ∧
      ∀ e r, e ≠ d → (showDie rails temps s d).rd F.PWR_RAIL.MW [e, r] = s.rd F.PWR_RAIL.MW [e, r] ∧
        (showDie rails temps s d).rd F.PWR_TEMP.TEMP [e, r] = s.rd F.PWR_TEMP.TEMP [e, r] := by
  have inj : ∀ x y : Nat, [d, x] = [d, y] → x = y := fun x y e => by simpa using e
  unfold showDie
  extract_lets t a b
  obtain ⟨soundA, railA, othersA⟩ :=
    each_wr_shows F.PWR_RAIL.MW (fun r => [d, r]) (fun r => (rails.getD d []).getD r 0) inj (List.range 12) hs
  obtain ⟨soundB, tempB, othersB⟩ :=
    each_wr_shows F.PWR_TEMP.TEMP (fun k => [d, k]) (fun k => sfield 16 (t.getD k 0)) inj (List.range 8) soundA
  have rails_ : Within (Foot.of [.PWR_RAIL] []) s a := Within.each (.refl _ s) fun _ _ h => h.wr _ _ _ (by decide +kernel)
  have temps_ : Within (Foot.of [.PWR_TEMP] []) a b := Within.each (.refl _ a) fun _ _ h => h.wr _ _ _ (by decide +kernel)
  refine ⟨soundB.wr, fun r hr => ?_, fun k hk => ?_, fun e r he => ⟨?_, ?_⟩⟩
  · rw [rd_wr_of_reg (by decide), temps_.rd _ _ (by decide +kernel)]
    exact railA r (List.mem_range.2 hr)
  · rw [rd_wr_of_ix (by simpa using (Nat.ne_of_lt hk))]
    exact (tempB k (List.mem_range.2 hk)).trans (Nat.mod_eq_of_lt (sfield_lt 16 _))
  · rw [rd_wr_of_reg (by decide), temps_.rd _ _ (by decide +kernel)]
    exact othersA _ fun _ _ e' => he (by injection e')
  · rw [rd_wr_of_ix (fun e' => he (by injection e'))]
    exact (othersB _ fun _ _ e' => he (by injection e')).trans (rails_.rd _ _ (by decide +kernel))

/-- The rails and temperatures of both dies (R376). -/
theorem showMonitors_shows {s : State} (hs : s.Sound) (rails : List (List Nat)) (temps : List (List Int)) {d : Nat} (hd : d < 2) :
    (∀ r < 12, (s.showMonitors rails temps).rd F.PWR_RAIL.MW [d, r] = (rails.getD d []).getD r 0 % 2 ^ 24) ∧
      ∀ k < 8, (s.showMonitors rails temps).rd F.PWR_TEMP.TEMP [d, k] = sfield 16 ((temps.getD d []).getD k 0) := by
  obtain ⟨sound, rail, temp, -⟩ := showDie_shows hs rails temps 0
  obtain ⟨-, rail', temp', others⟩ := showDie_shows sound rails temps 1
  rw [showMonitors_eq]
  have hd : d = 0 ∨ d = 1 := by omega
  rcases hd with rfl | rfl
  · exact ⟨fun r hr => (others 0 r (by decide)).1.trans (rail r hr), fun k hk => (others 0 k (by decide)).2.trans (temp k hk)⟩
  · exact ⟨rail', temp'⟩

/-- The draw of a period joins those kept, with their mean (R376). -/
def drawNoted (s : State) (draw : Nat) : State :=
  ({ s with periodDraws := (draw :: s.periodDraws).take 1000 }.wr F.HVS_LEDGER.VALUE [0] draw).wr F.HVS_LEDGER.VALUE [2]
    (((draw :: s.periodDraws).take 1000).sum / 1000)

theorem drawNoted_shows {s : State} (hs : s.Sound) {draw : Nat} (hd : draw < 2 ^ 32) :
    (s.drawNoted draw).rd F.HVS_LEDGER.VALUE [0] = draw ∧ (s.drawNoted draw).periodDraws = (draw :: s.periodDraws).take 1000 ∧
      (s.drawNoted draw).rd F.HVS_LEDGER.VALUE [2] = ((draw :: s.periodDraws).take 1000).sum / 1000 % 2 ^ 32 ∧
      Within (Foot.of [.HVS_LEDGER] [.periodDraws]) s (s.drawNoted draw) := by
  have noted := Within.set_periodDraws (.refl (Foot.of [.HVS_LEDGER] [.periodDraws]) s) ((draw :: s.periodDraws).take 1000) (by decide +kernel)
  have sound := noted.sound hs
  unfold drawNoted
  refine ⟨?_, rfl, rd_wr_self sound.wr.regs _ _ _, (noted.wr _ _ _ (by decide +kernel)).wr _ _ _ (by decide +kernel)⟩
  rw [rd_wr_of_ix (by decide), rd_wr_self_of_lt sound _ _ hd]

/-- The committed power is entry 1 of the ledger alone (R376). -/
theorem setCommitted_rd (s : State) {k : Nat} (hk : k ≠ 1) : s.setCommitted.rd F.HVS_LEDGER.VALUE [k] = s.rd F.HVS_LEDGER.VALUE [k] := by
  unfold setCommitted
  rw [rd_wr_of_ix (by simpa using hk)]
  rfl

/-- A period as it opens the next: monitors, draws and ledger (R376). -/
def periodOpened (s : State) (draw : Nat) (rails : List (List Nat)) (temps : List (List Int)) : State :=
  (((s.wr I.periodNo [] (s.dt / 160000000)).showMonitors rails temps).drawNoted draw).setCommitted

/-- What the rest of a period brings: shares, derating, deferred requests (R376, R380, R381). -/
def periodClosed (s : State) : State := s.setShares.periodEnd.tryDeferred

theorem harvestPeriod_eq {s : State} (hm : s.mode ≠ .hold) (hp : s.dt / 160000000 ≠ s.rd I.periodNo []) (draw : Nat) (rails : List (List Nat))
    (temps : List (List Int)) (fixes : List (Nat × Nat)) : s.harvestPeriod draw rails temps fixes =
      ((s.periodOpened draw rails temps).on (decide (s.committed.length ≤ 1)) fun s =>
        s.each fixes fun s x => s.correctCost x.1 x.2).periodClosed := by
  have due : ¬(s.mode = .hold ∨ s.dt / 160000000 = s.rd I.periodNo []) := not_or.2 ⟨hm, hp⟩
  rw [harvestPeriod, if_neg due]
  rfl

theorem harvestPeriod_idle {s : State} (h : s.mode = .hold ∨ s.dt / 160000000 = s.rd I.periodNo []) (draw : Nat) (rails : List (List Nat))
    (temps : List (List Int)) (fixes : List (Nat × Nat)) : s.harvestPeriod draw rails temps fixes = s := if_pos h

theorem periodClosed_within (s : State) : Within (Foot.without [.HVS_LEDGER, .PWR_RAIL, .PWR_TEMP, .COST] [.periodDraws]) s s.periodClosed :=
  tryDeferred_within (by decide +kernel) (periodEnd_within (by decide +kernel) (setShares_within (by decide +kernel) (.refl _ s)))

/-- A corrected entry (R386). -/
theorem correctCost_shows {s : State} (hs : s.Sound) {n : Nat} (hn : n < 20) (measured : Nat) :
    ((s.correctCost n measured).rd F.COST.VALUE [n] : Int) = max ((s.rd F.COST.FACTORY [n] / 2 : Nat) : Int)
      (min ((2 * s.rd F.COST.FACTORY [n] : Nat) : Int)
        ((s.rd F.COST.VALUE [n] : Int) + ((measured : Int) - s.rd F.COST.VALUE [n]) / 8)) % 2 ^ 32 := by
  unfold correctCost
  extract_lets v f new
  have nonneg : 0 ≤ max ((f / 2 : Nat) : Int) (min ((2 * f : Nat) : Int) new) := le_max_of_le_left (Int.natCast_nonneg _)
  rw [decide_eq_true hn, on_true, inc, rd_wr_of_lo (by decide), rd_wr_self hs.regs, Int.natCast_mod, Int.toNat_of_nonneg nonneg]
  rfl

/-- The opened period shows the draw, its mean over the last 1,000, and what the monitors measured (R376). -/
theorem periodOpened_shows {s : State} (hs : s.Sound) {draw : Nat} (hd : draw < 2 ^ 32) (rails : List (List Nat)) (temps : List (List Int)) :
    let t := s.periodOpened draw rails temps
    t.rd F.HVS_LEDGER.VALUE [0] = draw ∧ t.periodDraws = (draw :: s.periodDraws).take 1000 ∧
      t.rd F.HVS_LEDGER.VALUE [2] = ((draw :: s.periodDraws).take 1000).sum / 1000 % 2 ^ 32 ∧
      (∀ d r : Nat, d < 2 → r < 12 → t.rd F.PWR_RAIL.MW [d, r] = (rails.getD d []).getD r 0 % 2 ^ 24) ∧
      (∀ d k : Nat, d < 2 → k < 8 → t.rd F.PWR_TEMP.TEMP [d, k] = sfield 16 ((temps.getD d []).getD k 0)) ∧
      Within (Foot.of [.i_periodNo, .PWR_RAIL, .PWR_TEMP, .HVS_LEDGER] [.periodDraws, .committed]) s t := by
  intro t
  have numbered : (s.wr I.periodNo [] (s.dt / 160000000)).Sound := hs.wr
  have monitors := showMonitors_only (s.wr I.periodNo [] (s.dt / 160000000)) rails temps
  have measured := fun {d} (hd : d < 2) => showMonitors_shows numbered rails temps hd
  set a := (s.wr I.periodNo [] (s.dt / 160000000)).showMonitors rails temps
  have draws : a.periodDraws = s.periodDraws := monitors.parts .periodDraws (by decide +kernel)
  obtain ⟨now, kept, mean, noted⟩ := drawNoted_shows (monitors.sound numbered) hd
  have committed : Within (Foot.of [.HVS_LEDGER] [.committed]) (a.drawNoted draw) t := setCommitted_within (by decide +kernel) (.refl _ _)
  have shown : ∀ {f : Fld} {ix}, (Foot.of [.HVS_LEDGER] [.committed]).testBit f.reg.ctorIdx = false →
      (Foot.of [.HVS_LEDGER] [.periodDraws]).testBit f.reg.ctorIdx = false → t.rd f ix = a.rd f ix := fun h₁ h₂ =>
    (committed.rd _ _ h₁).trans (noted.rd _ _ h₂)
  rw [draws] at kept mean
  refine ⟨(setCommitted_rd _ (by decide)).trans now, (committed.parts .periodDraws (by decide +kernel)).trans kept,
    (setCommitted_rd _ (by decide)).trans mean, fun d r hd hr => ?_, fun d k hd hk => ?_, ?_⟩
  · exact (shown (by decide +kernel) (by decide +kernel)).trans ((measured hd).1 r hr)
  · exact (shown (by decide +kernel) (by decide +kernel)).trans ((measured hd).2 k hk)
  · exact ((((Within.refl _ s).wr _ _ _ (by decide +kernel)).trans (monitors.mono (by decide +kernel))).trans
      (noted.mono (by decide +kernel))).trans (committed.mono (by decide +kernel))

/-- A draw above the cap raises derating by one where it is below 11 (R380, R383). -/
theorem periodEnd_of_overCap {s : State} (h : s.rd F.HVS_CAP.MW [] < s.rd F.HVS_LEDGER.VALUE [0]) (hl : s.rd F.HVS_STATUS.LEVEL [] < 11) :
    s.periodEnd = s.derateUp s.control := by
  have exceeds : (s.overCap || s.overBudget) = true := by rw [overCap, decide_eq_true h, Bool.true_or]
  rw [periodEnd]
  dsimp only
  rw [exceeds, if_pos rfl, if_pos hl]

/-- The level that a period leaves, and HVS_DERATE pending, where the draw exceeds the cap. -/
theorem periodClosed_derates {s : State} (hs : s.Sound) (h : s.rd F.HVS_CAP.MW [] < s.rd F.HVS_LEDGER.VALUE [0])
    (hl : s.rd F.HVS_STATUS.LEVEL [] < 11) :
    s.periodClosed.rd F.HVS_STATUS.LEVEL [] = s.rd F.HVS_STATUS.LEVEL [] + 1 ∧ s.periodClosed.pends s.control 12 = true := by
  have shares : Within (Foot.of [.HVS_SHARE] []) s s.setShares := setShares_within (by decide +kernel) (.refl _ s)
  have level : s.setShares.rd F.HVS_STATUS.LEVEL [] = s.rd F.HVS_STATUS.LEVEL [] := shares.rd _ _ (by decide +kernel)
  have control : s.setShares.control = s.control := shares.parts .control (by decide +kernel)
  have exceeds : s.setShares.periodEnd = s.setShares.derateUp s.setShares.control := periodEnd_of_overCap
    (by rwa [shares.rd _ _ (by decide +kernel), shares.rd _ _ (by decide +kernel)]) (by rwa [level])
  obtain ⟨sound, up, pends, -⟩ := derateUp_shows (shares.sound hs) (by omega : s.setShares.rd F.HVS_STATUS.LEVEL [] < 15) s.setShares.control
  have rest := tryDeferred_keeps (.refl (s.setShares.derateUp s.setShares.control))
  rw [periodClosed, exceeds, ← control, ← level]
  exact ⟨rest.level.trans up, rest.pends sound _ _ pends⟩

/-- The costs that a period corrects, where no second admission took effect in its 10 ms (R386). -/
def costsCorrected (s : State) (single : Bool) (fixes : List (Nat × Nat)) : State :=
  s.on single fun s => s.each fixes fun s x => s.correctCost x.1 x.2

theorem costsCorrected_within (s : State) (single : Bool) (fixes : List (Nat × Nat)) :
    Within (Foot.of [.COST] []) s (s.costsCorrected single fixes) :=
  Within.on (.refl _ s) fun _ h => Within.each h fun _ x h => correctCost_within (by decide +kernel) h x.1 x.2

theorem costsCorrected_nil (s : State) (single : Bool) : s.costsCorrected single [] = s := by cases single <;> rfl

/-- What a Harvest period shows (R376, R380, R383, R386). -/
theorem harvestPeriod_shows {s : State} (hs : s.Sound) (hm : s.mode ≠ .hold) (hp : s.dt / 160000000 ≠ s.rd I.periodNo []) {draw : Nat}
    (hd : draw < 2 ^ 32) (rails : List (List Nat)) (temps : List (List Int)) (fixes : List (Nat × Nat)) :
    let t := s.harvestPeriod draw rails temps fixes
    t.rd F.HVS_LEDGER.VALUE [0] = draw ∧ t.periodDraws = (draw :: s.periodDraws).take 1000 ∧
      t.rd F.HVS_LEDGER.VALUE [2] = ((draw :: s.periodDraws).take 1000).sum / 1000 % 2 ^ 32 ∧
      (∀ d r : Nat, d < 2 → r < 12 → t.rd F.PWR_RAIL.MW [d, r] = (rails.getD d []).getD r 0 % 2 ^ 24) ∧
      (∀ d k : Nat, d < 2 → k < 8 → t.rd F.PWR_TEMP.TEMP [d, k] = sfield 16 ((temps.getD d []).getD k 0)) ∧
      (∀ n new : Nat, fixes = [(n, new)] → n < 20 → s.committed.length ≤ 1 → (t.rd F.COST.VALUE [n] : Int) =
        max ((s.rd F.COST.FACTORY [n] / 2 : Nat) : Int) (min ((2 * s.rd F.COST.FACTORY [n] : Nat) : Int)
          ((s.rd F.COST.VALUE [n] : Int) + ((new : Int) - s.rd F.COST.VALUE [n]) / 8)) % 2 ^ 32) ∧
      (fixes = [] → s.rd F.HVS_CAP.MW [] < draw → s.rd F.HVS_STATUS.LEVEL [] < 11 →
        t.rd F.HVS_STATUS.LEVEL [] = s.rd F.HVS_STATUS.LEVEL [] + 1 ∧ t.pends s.control 12 = true) := by
  obtain ⟨now, draws, mean, rail, temp, opened⟩ := periodOpened_shows hs hd rails temps
  have corrected := (s.periodOpened draw rails temps).costsCorrected_within (decide (s.committed.length ≤ 1)) fixes
  have closed := ((s.periodOpened draw rails temps).costsCorrected (decide (s.committed.length ≤ 1)) fixes).periodClosed_within
  have eq : s.harvestPeriod draw rails temps fixes =
      ((s.periodOpened draw rails temps).costsCorrected (decide (s.committed.length ≤ 1)) fixes).periodClosed := harvestPeriod_eq hm hp ..
  rw [eq]
  refine ⟨?_, ?_, ?_, fun d r hd hr => ?_, fun d k hd hk => ?_, fun n new hf hn single => ?_, fun hf cap level => ?_⟩
  · rw [closed.rd _ _ (by decide +kernel), corrected.rd _ _ (by decide +kernel), now]
  · exact (closed.parts .periodDraws (by decide +kernel)).trans ((corrected.parts .periodDraws (by decide +kernel)).trans draws)
  · rw [closed.rd _ _ (by decide +kernel), corrected.rd _ _ (by decide +kernel), mean]
  · rw [closed.rd _ _ (by decide +kernel), corrected.rd _ _ (by decide +kernel), rail d r hd hr]
  · rw [closed.rd _ _ (by decide +kernel), corrected.rd _ _ (by decide +kernel), temp d k hd hk]
  · have one : (s.periodOpened draw rails temps).costsCorrected (decide (s.committed.length ≤ 1)) fixes =
        (s.periodOpened draw rails temps).correctCost n new := by
      rw [hf, decide_eq_true single]
      rfl
    rw [closed.rd _ _ (by decide +kernel), one, correctCost_shows (opened.sound hs) hn, opened.rd _ _ (by decide +kernel),
      opened.rd _ _ (by decide +kernel)]
  · rw [hf, costsCorrected_nil]
    have cap' : (s.periodOpened draw rails temps).rd F.HVS_CAP.MW [] = s.rd F.HVS_CAP.MW [] := opened.rd _ _ (by decide +kernel)
    have level' : (s.periodOpened draw rails temps).rd F.HVS_STATUS.LEVEL [] = s.rd F.HVS_STATUS.LEVEL [] := opened.rd _ _ (by decide +kernel)
    have control' : (s.periodOpened draw rails temps).control = s.control := opened.parts .control (by decide +kernel)
    rw [← level', ← control']
    exact periodClosed_derates (opened.sound hs) (by rwa [cap', now]) (by rwa [level'])

-- The thermal limit (R384) -------------------------------------------------------------------------------------------

/-- The limit shows on a die, with its event (R384). -/
def limitShown (temp : Nat) (s : State) (d : Nat) : State :=
  ((s.wr F.PWR_STATUS.THERMAL [d] 1).flag F.PWR_STATUS.THERMAL_SEEN [d]).raise d 10 (1 + 2 ^ 16 * temp)

theorem thermalEnter_eq {s : State} {temp : Nat} (ht : 1760 ≤ temp) (hm : s.mode ≠ .hold) (h : s.rd F.PWR_STATUS.THERMAL [0] = 0) :
    s.thermalEnter temp = (s.each [0, 1] (limitShown temp)).derateUps
      (List.range (11 - (s.each [0, 1] (limitShown temp)).rd F.HVS_STATUS.LEVEL [])) := by
  have cool : s.isSet F.PWR_STATUS.THERMAL [0] = false := by rw [isSet, h]; rfl
  have due : ¬(temp < 1760 ∨ s.isSet F.PWR_STATUS.THERMAL [0] = true ∨ s.mode = .hold) := by
    rw [cool]
    simp only [Bool.false_eq_true, hm, or_false]
    exact Nat.not_lt.2 ht
  rw [thermalEnter, if_neg due]
  delta limitShown
  rfl

theorem limitShown_keeps {s₀ s : State} (h : Keeps s₀ s) (temp d : Nat) : Keeps s₀ (limitShown temp s d) :=
  ((h.put (by decide) _ _).within (flag_within (by decide +kernel) (.refl _ _) _ _ (by decide +kernel))).raise ..

/-- The limit as a die shows it, and the other die's fields. -/
theorem limitShown_shows {s : State} (hs : s.Sound) (temp d : Nat) :
    (limitShown temp s d).rd F.PWR_STATUS.THERMAL [d] = 1 ∧ (limitShown temp s d).rd F.PWR_STATUS.THERMAL_SEEN [d] = 1 ∧
      (limitShown temp s d).pends d 10 = true ∧ ∀ f : Fld, f.reg = .PWR_STATUS → ∀ e, e ≠ d → (limitShown temp s d).rd f [e] = s.rd f [e] := by
  have flagged : ∀ f ix, ((s.wr F.PWR_STATUS.THERMAL [d] 1).flag F.PWR_STATUS.THERMAL_SEEN [d]).rd f ix =
      ((s.wr F.PWR_STATUS.THERMAL [d] 1).wr F.PWR_STATUS.THERMAL_SEEN [d] 1).rd f ix := fun _ _ => rfl
  have sound : ((s.wr F.PWR_STATUS.THERMAL [d] 1).flag F.PWR_STATUS.THERMAL_SEEN [d]).Sound :=
    (flag_within (M := Foot.quiet) (by decide +kernel) (.refl _ _) _ _ (by decide +kernel)).sound hs.wr
  unfold limitShown
  refine ⟨?_, ?_, raise_pends sound _ _ _, fun f hf e he => ?_⟩
  · rw [raise_rd (by decide), flagged, rd_wr_of_lo (by decide), rd_wr_self_of_lt hs _ _ (by decide)]
  · rw [raise_rd (by decide), flagged, rd_wr_self_of_lt hs.wr _ _ (by decide)]
  · rw [raise_rd (by rw [hf]; decide), flagged, rd_wr_of_ix (by simpa using he), rd_wr_of_ix (by simpa using he)]

/-- The limit is entered with derating at level 11 (R384). -/
theorem thermalEnter_shows {s : State} (hs : s.Sound) {temp : Nat} (ht : 1760 ≤ temp) (hm : s.mode ≠ .hold) (h : s.rd F.PWR_STATUS.THERMAL [0] = 0) :
    (s.rd F.HVS_STATUS.LEVEL [] ≤ 11 → (s.thermalEnter temp).rd F.HVS_STATUS.LEVEL [] = 11) ∧
      ∀ d : Nat, d < 2 → (s.thermalEnter temp).rd F.PWR_STATUS.THERMAL [d] = 1 ∧ (s.thermalEnter temp).rd F.PWR_STATUS.THERMAL_SEEN [d] = 1 ∧
        (s.thermalEnter temp).pends d 10 = true := by
  have first := limitShown_keeps (.refl s) temp 0
  have second := limitShown_keeps (.refl (limitShown temp s 0)) temp 1
  obtain ⟨thermal₀, seen₀, pends₀, -⟩ := limitShown_shows hs temp 0
  obtain ⟨thermal₁, seen₁, pends₁, others₁⟩ := limitShown_shows (first.sound hs) temp 1
  have both : s.each [0, 1] (limitShown temp) = limitShown temp (limitShown temp s 0) 1 := by rw [each_cons, each_cons, each_nil]
  have eq := thermalEnter_eq ht hm h
  rw [both] at eq
  generalize limitShown temp (limitShown temp s 0) 1 = u at *
  have sound : u.Sound := second.sound (first.sound hs)
  have level : u.rd F.HVS_STATUS.LEVEL [] = s.rd F.HVS_STATUS.LEVEL [] := second.level.trans first.level
  have derated : Within (Foot.without [.PWR_STATUS] []) u (s.thermalEnter temp) := by
    rw [eq]
    exact Within.each (.refl _ u) fun _ _ h => derateUp_within (by decide +kernel) h _
  have steps : ∀ {v : Nat}, List.range (11 - v) ≠ [] → v + (List.range (11 - v)).length ≤ 15 := fun {v} h => by
    rw [List.length_range]
    have some : 11 - v ≠ 0 := fun e => h (by rw [e, List.range_zero])
    omega
  obtain ⟨levels, keeps⟩ := derateUps_show (List.range (11 - u.rd F.HVS_STATUS.LEVEL [])) sound steps
  rw [← eq] at levels keeps
  refine ⟨fun hl => ?_, fun d hd => ?_⟩
  · rw [levels, List.length_range, level, Nat.add_sub_cancel' hl]
  have hd : d = 0 ∨ d = 1 := by omega
  rcases hd with rfl | rfl
  · refine ⟨?_, ?_, keeps 0 10 (second.pends (first.sound hs) 0 10 pends₀)⟩
    · rw [derated.rd _ _ (by decide +kernel), others₁ _ rfl 0 (by decide), thermal₀]
    · rw [derated.rd _ _ (by decide +kernel), others₁ _ rfl 0 (by decide), seen₀]
  · refine ⟨?_, ?_, keeps 1 10 pends₁⟩
    · rw [derated.rd _ _ (by decide +kernel), thermal₁]
    · rw [derated.rd _ _ (by decide +kernel), seen₁]

theorem thermalEnter_cool {s : State} {temp : Nat} (h : temp < 1760) : s.thermalEnter temp = s := if_pos (.inl h)

theorem thermalClear_hot {s : State} {temp : Nat} (h : 1600 ≤ temp) : s.thermalClear temp = s := if_pos (.inl h)

/-- The limit is left below 100 °C (R384). -/
theorem thermalClear_shows {s : State} (hs : s.Sound) {temp : Nat} (ht : temp < 1600) (h : s.rd F.PWR_STATUS.THERMAL [0] ≠ 0) {d : Nat} (hd : d < 2) :
    (s.thermalClear temp).rd F.PWR_STATUS.THERMAL [d] = 0 ∧ (s.thermalClear temp).pends d 10 = true := by
  have hot : s.isSet F.PWR_STATUS.THERMAL [0] = true := bne_iff_ne.2 h
  have due : ¬(1600 ≤ temp ∨ (!s.isSet F.PWR_STATUS.THERMAL [0]) = true) := by
    rw [hot]
    simp only [Bool.not_true, Bool.false_eq_true, or_false]
    exact Nat.not_le.2 ht
  rw [thermalClear, if_neg due, each_cons, each_cons, each_nil]
  have sound₀ : ((s.wr F.PWR_STATUS.THERMAL [0] 0).raise 0 10 (2 ^ 16 * temp)).Sound := raise_sound hs.wr _ _ _
  have pends₀ : ((s.wr F.PWR_STATUS.THERMAL [0] 0).raise 0 10 (2 ^ 16 * temp)).pends 0 10 = true := raise_pends hs.wr _ _ _
  have hd : d = 0 ∨ d = 1 := by omega
  rcases hd with rfl | rfl
  · refine ⟨?_, raise_keeps sound₀.wr _ _ _ ((wr_pends (by decide) ..).trans pends₀)⟩
    rw [raise_rd (by decide), rd_wr_of_ix (by decide), raise_rd (by decide), rd_wr_self_of_lt hs _ _ (by decide)]
  · refine ⟨?_, raise_pends sound₀.wr _ _ _⟩
    rw [raise_rd (by decide), rd_wr_self_of_lt sound₀ _ _ (by decide)]

-- Failover (R403) ----------------------------------------------------------------------------------------------------

theorem syncAligned_keeps {s₀ s : State} (h : Keeps s₀ s) : Keeps s₀ s.syncAligned := by
  unfold syncAligned
  exact Keeps.ite h (((h.put (by decide) _ _).raise ..).put (by decide) _ _)

theorem setRef_keeps {s₀ s : State} (h : Keeps s₀ s) (st : Nat) : Keeps s₀ (s.setRef st) := by
  unfold setRef
  exact Keeps.ite h (syncAligned_keeps ((h.put (by decide) _ _).raise ..))

theorem refWinter_keeps {s₀ s : State} (h : Keeps s₀ s) : Keeps s₀ s.refWinter := by
  unfold refWinter
  exact Keeps.ite h (setRef_keeps ((((h.put (by decide) _ _).put (by decide) _ _).put (by decide) _ _).put (by decide) _ _) 3)

theorem setLink_keeps {s₀ s : State} (h : Keeps s₀ s) (d v : Nat) (fallback : Bool) : Keeps s₀ (s.setLink d v fallback) := by
  unfold setLink
  exact Keeps.ite h ((h.put (by decide) _ _).raise ..)

theorem syncScan_keeps {s₀ s : State} (h : Keeps s₀ s) : Keeps s₀ s.syncScan := by
  have domains : ∀ {t}, Keeps s₀ t → Keeps s₀ t.syncDomains := fun ht => ht.within (syncDomains_within (by decide +kernel) (.refl _ _))
  unfold syncScan
  extract_lets run armed
  refine Keeps.ite h (Keeps.ite (domains (h.each _ fun _ d h => setLink_keeps (h.put (by decide) _ _) d 0 false)) (domains ?_))
  have ha : Keeps s₀ armed := (h.put (by decide) _ _).put (by decide) _ _
  exact ha.each _ fun _ d h => setLink_keeps ((h.put (by decide) _ _).put (by decide) _ _) d 1 false

theorem restartScan_keeps {s₀ s : State} (h : Keeps s₀ s) : Keeps s₀ s.restartScan := by
  unfold restartScan
  exact syncScan_keeps (h.each _ fun _ d h => setLink_keeps (h.put (by decide) _ _) d 0 false)

/-- A loop that is on goes to WINTER (R48, R49). -/
theorem refWinter_state {s : State} (hs : s.Sound) (h : s.refState ≠ 0) : s.refWinter.refState = 3 := by
  rw [refWinter, if_neg h]
  set u := (((s.wr F.XTO_STATUS.SLEWING [] 0).wr F.XTO_STATUS.STEP_PENDING [] 0).wr F.XTO_STATUS.HOLD_WAIT [] 0).wr I.inOn [] 0
  have sound : u.Sound := hs.wr.wr.wr.wr
  rw [setRef]
  split
  case isTrue e => exact e
  case isFalse =>
    have aligned : Within (Foot.without [.XTO_STATUS] []) ((u.wr F.XTO_STATUS.REF_STATE [] 3).raisePkg 25 0)
        ((u.wr F.XTO_STATUS.REF_STATE [] 3).raisePkg 25 0).syncAligned := syncAligned_within (by decide +kernel) (.refl _ _)
    rw [refState, aligned.rd _ _ (by decide +kernel), raisePkg, raise_rd (by decide), rd_wr_self_of_lt sound _ _ (by decide)]

/-- The control role passes to die 1 (R403). -/
def roleTaken (s : State) : State :=
  (((({ s with control := 1 }.wr F.TOP_ID.CONTROL [0] 0).wr F.TOP_ID.CONTROL [1] 1).wr F.BOB_RETIRED.CONTROL [0] 0).wr F.BOB_RETIRED.CONTROL [1]
    1).raisePkg 228 1

theorem failover_eq {s : State} (hc : s.control = 0) (hr : s.dieRetired 0 = true) :
    s.failover = (s.roleTaken.withdrawWith 0x020A fun x => x.die == 0).refWinter.restartScan := by
  have due : ¬(s.control ≠ 0 ∨ (!s.dieRetired 0) = true) := by simp [hc, hr]
  rw [failover, if_neg due]
  rfl

theorem failover_idle {s : State} (h : s.control ≠ 0 ∨ s.dieRetired 0 = false) : s.failover = s :=
  if_pos (h.imp_right fun e => by rw [e]; rfl)

theorem roleTaken_shows {s : State} (hs : s.Sound) : s.roleTaken.Sound ∧ s.roleTaken.control = 1 ∧ s.roleTaken.rd F.TOP_ID.CONTROL [0] = 0 ∧
    s.roleTaken.rd F.TOP_ID.CONTROL [1] = 1 ∧ s.roleTaken.pends 1 228 = true ∧ s.roleTaken.refState = s.refState := by
  have sound : Sound { s with control := 1 } := ⟨hs.regs, hs.mem, hs.acq, hs.tims, hs.acc, hs.layers, hs.flash⟩
  unfold roleTaken
  refine ⟨raise_sound sound.wr.wr.wr.wr _ _ _, raise_control .., ?_, ?_, raisePkg_pends sound.wr.wr.wr.wr _ _, ?_⟩
  · rw [raisePkg, raise_rd (by decide), rd_wr_of_reg (by decide), rd_wr_of_reg (by decide), rd_wr_of_ix (by decide),
      rd_wr_self_of_lt sound _ _ (by decide)]
  · rw [raisePkg, raise_rd (by decide), rd_wr_of_reg (by decide), rd_wr_of_reg (by decide), rd_wr_self_of_lt sound.wr _ _ (by decide)]
  · rw [refState, raisePkg, raise_rd (by decide), rd_wr_of_reg (by decide), rd_wr_of_reg (by decide), rd_wr_of_reg (by decide),
      rd_wr_of_reg (by decide)]
    rfl

/-- Withdrawn requests leave the queues (R403). -/
theorem withdrawWith_deferred (s : State) (code : Nat) (p : Deferred → Bool) : ∀ x ∈ (s.withdrawWith code p).deferred, p x = false := by
  have queues : (s.withdraw p).deferred = s.deferred.filter fun x => !p x := rfl
  have told : Within (Foot.without [] [.deferred]) (s.withdraw p) (s.withdrawWith code p) := by
    unfold withdrawWith
    refine Within.each (.refl _ _) fun u x hu => ?_
    split
    · exact hu
    · split
      · exact finish_within (by decide +kernel) hu _ _ _
      · exact hu
  have same : (s.withdrawWith code p).deferred = s.deferred.filter fun x => !p x := (told.parts .deferred (by decide +kernel)).trans queues
  intro x hx
  rw [same, List.mem_filter] at hx
  exact Bool.not_eq_true' _ ▸ hx.2

/-- Die 1 has the control role once die 0 is retired, with the loop in WINTER and no request of die 0 (R403). -/
theorem failover_shows {s : State} (hs : s.Sound) (hc : s.control = 0) (hr : s.dieRetired 0 = true) :
    s.failover.control = 1 ∧ s.failover.rd F.TOP_ID.CONTROL [0] = 0 ∧ s.failover.rd F.TOP_ID.CONTROL [1] = 1 ∧ s.failover.pends 1 228 = true ∧
      (s.refState ≠ 0 → s.failover.refState = 3) ∧ ∀ x ∈ s.failover.deferred, x.die ≠ 0 := by
  obtain ⟨sound, control, lost, taken, pends, loop⟩ := roleTaken_shows hs
  have gone := s.roleTaken.withdrawWith_deferred 0x020A fun x => x.die == 0
  have withdrawn := withdrawWith_keeps (.refl s.roleTaken) 0x020A fun x => x.die == 0
  have withdraws : Within (Foot.without [.TOP_ID, .XTO_STATUS] [.control]) s.roleTaken (s.roleTaken.withdrawWith 0x020A fun x => x.die == 0) :=
    withdrawWith_within (by decide +kernel) (.refl _ _) _ _
  rw [failover_eq hc hr]
  generalize s.roleTaken.withdrawWith 0x020A (fun x => x.die == 0) = u at *
  have winter := refWinter_keeps (.refl u)
  have winters : Within (Foot.without [.TOP_ID] [.control, .deferred]) u u.refWinter := refWinter_within (by decide +kernel) (.refl _ u)
  have restart := restartScan_keeps (.refl u.refWinter)
  have restarts : Within (Foot.without [.TOP_ID, .XTO_STATUS] [.control, .deferred]) u.refWinter u.refWinter.restartScan :=
    restartScan_within (by decide +kernel) (.refl _ _)
  have still := ((withdraws.mono (N := Foot.without [.TOP_ID] [.control]) (by decide +kernel)).trans (winters.mono (by decide +kernel))).trans
    (restarts.mono (by decide +kernel))
  refine ⟨(still.parts .control (by decide +kernel)).trans control, ?_, ?_, ?_, fun on => ?_, fun x hx => ?_⟩
  · rw [still.rd _ _ (by decide +kernel), lost]
  · rw [still.rd _ _ (by decide +kernel), taken]
  · exact ((withdrawn.trans winter).trans restart).pends sound 1 228 pends
  · rw [refState, restarts.rd _ _ (by decide +kernel)]
    refine refWinter_state (withdrawn.sound sound) fun e => on ?_
    rw [← loop, ← e, refState, refState, withdraws.rd _ _ (by decide +kernel)]
  · have queues : u.refWinter.restartScan.deferred = u.deferred :=
      (restarts.parts .deferred (by decide +kernel)).trans (winters.parts .deferred (by decide +kernel))
    exact beq_eq_false_iff_ne.1 (gone x (queues ▸ hx))

end State
end Sys2Proof.Machine
end

section
/-!
PROOFS. Wakes, links and mode transitions (R34, R35, R80, R369, R374), and all of the commands of this family together.
-/

namespace Sys2Proof.Machine

-- One proof at a time: proofs elaborated side by side ask for more memory than a compile of the whole text may take.
set_option Elab.async false

namespace State

-- Wakes and links (R374) ---------------------------------------------------------------------------------------------

/-- The wake timer asserts where it is on and due. -/
theorem wakeTimer_of_due {s : State} (hm : s.mode = .vigil) (ht : s.inTransition = false) (he : s.rd F.PWR_WAKE_CTRL.TIMER_EN [] ≠ 0)
    (hd : s.due (s.rd F.PWR_WAKE_DT.TICKS []) = true) : s.wakeTimer = s.wakeBegin (2 ^ 1) 0 0 := by
  have enabled : s.isSet F.PWR_WAKE_CTRL.TIMER_EN [] = true := bne_iff_ne.2 he
  rw [wakeTimer, enabled, hd, Bool.and_true, on_true, wake_of_vigil hm ht]

theorem wakeTimer_idle {s : State} (h : s.rd F.PWR_WAKE_CTRL.TIMER_EN [] = 0 ∨ s.due (s.rd F.PWR_WAKE_DT.TICKS []) = false) : s.wakeTimer = s := by
  have off : (s.isSet F.PWR_WAKE_CTRL.TIMER_EN [] && s.due (s.rd F.PWR_WAKE_DT.TICKS [])) = false := by
    obtain h | h := h
    · rw [isSet, h]; rfl
    · rw [h, Bool.and_false]
  rw [wakeTimer, off, on_false]

/-- WAKE# of a die is released where it is asserted. -/
def wakeReleased (s : State) (d : Nat) : State :=
  s.on (s.isSet I.wakePin [d]) fun s => (s.emit (.pin d pinWake true)).wr I.wakePin [d] 0

theorem linkUp_eq {s : State} {d : Nat} (hm : s.mode ≠ .hold) (hr : s.dieRetired d = false) :
    s.linkUp d = ((s.wakeReleased d).wr I.linkL0 [d] 1).wr I.linkDeep [d] 0 := by
  have up : ¬(s.mode = .hold ∨ s.dieRetired d = true) := by simp [hm, hr]
  rw [linkUp, if_neg up]
  rfl

theorem wakeReleased_shows {s : State} (hs : s.Sound) (d : Nat) : (s.wakeReleased d).Sound ∧
    (s.rd I.wakePin [d] ≠ 0 → (s.wakeReleased d).rd I.wakePin [d] = 0 ∧ Output.pin d pinWake true ∈ (s.wakeReleased d).out) ∧
      (s.rd I.wakePin [d] = 0 → (s.wakeReleased d).out = s.out) := by
  unfold wakeReleased
  cases h : s.isSet I.wakePin [d]
  · have low : s.rd I.wakePin [d] = 0 := bne_eq_false_iff_eq.1 h
    exact ⟨hs, fun e => absurd low e, fun _ => rfl⟩
  · have high : s.rd I.wakePin [d] ≠ 0 := bne_iff_ne.1 h
    have sound : (s.emit (.pin d pinWake true)).Sound := (Within.emit (M := Foot.of [] [.out]) (.refl _ s) _ (by decide +kernel)).sound hs
    refine ⟨sound.wr, fun _ => ⟨rd_wr_self_of_lt sound _ _ (by decide), ?_⟩, fun e => absurd e high⟩
    exact List.mem_append_right _ (List.mem_singleton.2 rfl)

/-- A link in L0 is shown, and its die's WAKE# is released. -/
theorem linkUp_shows {s : State} (hs : s.Sound) {d : Nat} (hm : s.mode ≠ .hold) (hr : s.dieRetired d = false) :
    (s.linkUp d).rd I.linkL0 [d] = 1 ∧ (s.linkUp d).rd I.linkDeep [d] = 0 ∧
      (s.rd I.wakePin [d] ≠ 0 → (s.linkUp d).rd I.wakePin [d] = 0 ∧ Output.pin d pinWake true ∈ (s.linkUp d).out) ∧
      (s.rd I.wakePin [d] = 0 → (s.linkUp d).out = s.out) := by
  obtain ⟨sound, released, quiet⟩ := wakeReleased_shows hs d
  rw [linkUp_eq hm hr]
  have out : (((s.wakeReleased d).wr I.linkL0 [d] 1).wr I.linkDeep [d] 0).out = (s.wakeReleased d).out := rfl
  rw [out]
  refine ⟨?_, rd_wr_self_of_lt sound.wr _ _ (by decide), fun h => ⟨?_, (released h).2⟩, quiet⟩
  · rw [rd_wr_of_reg (by decide), rd_wr_self_of_lt sound _ _ (by decide)]
  · rw [rd_wr_of_reg (by decide), rd_wr_of_reg (by decide), (released h).1]

theorem wakeCharged_keeps {s₀ s : State} (h : Keeps s₀ s) : Keeps s₀ s.wakeCharged := by
  unfold wakeCharged
  extract_lets dp t
  have ht : Keeps s₀ t := h.within (charge_within (by decide +kernel) (.refl _ s) ..)
  exact Keeps.ite ht ((ht.wr (by decide) (.inr (by decide)) _ _).raisePkg _ _)

theorem wakeBegin_keeps {s₀ s : State} (h : Keeps s₀ s) (mask unit die : Nat) : Keeps s₀ (s.wakeBegin mask unit die) := by
  rw [wakeBegin_eq]
  have caused : Keeps s₀ (s.wakeCharged.wakeCause mask unit die) :=
    (wakeCharged_keeps h).within (wakeCause_within (by decide +kernel) (.refl _ _) ..)
  have pins := ((caused.put (f := I.wakeOn) (by decide) [] 1).put (f := I.wakeAt) (by decide) [] s.wakeCharged.now).within
    (wakePins_within (by decide +kernel) (.refl _ _))
  exact pins.within (startMode_within (by decide +kernel) (.refl _ _) 3 1)

theorem heldWakes_keeps {s₀ s : State} (h : Keeps s₀ s) : Keeps s₀ s.heldWakes :=
  h.on _ fun _ h => wakeBegin_keeps (h.put (by decide) _ _) ..

end State

-- Sets that end (R35, R196, R369) ------------------------------------------------------------------------------------

/-- From `s` to `t` a sound state stays sound, and a set that is IDLE stays IDLE. -/
structure Idles (s t : State) : Prop where
  sound : s.Sound → t.Sound
  idle : ∀ ix, s.rd F.ACQ_STATUS.STATE ix = 0 → t.rd F.ACQ_STATUS.STATE ix = 0

namespace Idles

theorem refl (s : State) : Idles s s := ⟨id, fun _ h => h⟩

theorem trans {s t u : State} (h : Idles s t) (k : Idles t u) : Idles s u := ⟨fun hs => k.sound (h.sound hs), fun ix e => k.idle ix (h.idle ix e)⟩

theorem of_within {s t : State} (w : Within (Foot.without [.ACQ_STATUS] []) s t) : Idles s t :=
  ⟨w.sound, fun _ h => (w.rd _ _ (by decide +kernel)).trans h⟩

/-- Each step ends its sets, and none arms one: the sets of all steps are IDLE. -/
theorem each {α : Type} {f : State → α → State} {P : α → List Nat → Prop} (step : ∀ u x, u.Sound → Idles u (f u x))
    (ends : ∀ u x ix, u.Sound → P x ix → (f u x).rd F.ACQ_STATUS.STATE ix = 0) (l : List α) {s : State} (hs : s.Sound) :
    Idles s (s.each l f) ∧ ∀ x ∈ l, ∀ ix, P x ix → (s.each l f).rd F.ACQ_STATUS.STATE ix = 0 := by
  induction l generalizing s with
  | nil => exact ⟨.refl s, fun _ hx => absurd hx List.not_mem_nil⟩
  | cons x l ih =>
    have first := step s x hs
    obtain ⟨rest, later⟩ := ih (first.sound hs)
    rw [State.each_cons]
    refine ⟨first.trans rest, fun y hy ix hp => ?_⟩
    obtain rfl | hy := List.mem_cons.1 hy
    · exact rest.idle ix (ends s y ix hs hp)
    · exact later y hy ix hp

end Idles

namespace State

/-- A set's machine goes to IDLE, and no other's. -/
theorem idleSet_idles {s : State} (hs : s.Sound) (d a cause : Nat) :
    Idles s (s.idleSet d a cause) ∧ (s.idleSet d a cause).rd F.ACQ_STATUS.STATE [d, a] = 0 := by
  unfold idleSet
  extract_lets u b x idx c v y g w
  have hu : Within (Foot.without [.ACQ_STATUS] []) s u := closeGap_within (by decide +kernel) (.refl _ s) d a
  have hv : Within (Foot.without [.ACQ_STATUS] []) s v := by
    unfold v
    split
    · exact setBuf_within (by decide +kernel) hu ..
    · exact hu
  have hw : Within (Foot.without [.ACQ_STATUS] []) s w := setAcq_within (by decide +kernel) hv ..
  have last : Within (Foot.without [.ACQ_STATUS] []) (w.wr F.ACQ_STATUS.STATE [d, a] 0)
      (((w.wr F.ACQ_STATUS.STATE [d, a] 0).raiseAcqState d a cause).seqDisarm d) :=
    seqDisarm_within (by decide +kernel) (raiseAcqState_within (by decide +kernel) (.refl _ _) ..) d
  have ended : (w.wr F.ACQ_STATUS.STATE [d, a] 0).rd F.ACQ_STATUS.STATE [d, a] = 0 := rd_wr_self_of_lt (hw.sound hs) _ _ (by decide)
  refine ⟨⟨fun hs => last.sound (hw.sound hs).wr, fun ix e => ?_⟩, (last.rd _ _ (by decide +kernel)).trans ended⟩
  rw [last.rd _ _ (by decide +kernel)]
  by_cases hix : ix = [d, a]
  · rw [hix, ended]
  · rw [rd_wr_of_ix hix, hw.rd _ _ (by decide +kernel), e]

/-- The last segment of a set leaves the set's machine alone. -/
theorem completeSeg_last_within (s : State) (d a extra : Nat) : Within (Foot.without [.ACQ_STATUS] []) s (s.completeSeg d a extra true) := by
  unfold completeSeg
  extract_lets u x
  have hu : Within (Foot.without [.ACQ_STATUS] []) s u := Within.on (.refl _ s) fun _ h => lcTrim_within (by decide +kernel) h d
  split
  · exact hu
  · extract_lets v r w y g z
    have hv : Within (Foot.without [.ACQ_STATUS] []) s v := by
      unfold v
      split
      · exact gapRecord_within (by decide +kernel) hu ..
      · exact hu
    have hw : Within (Foot.without [.ACQ_STATUS] []) s w :=
      Within.on hv fun _ h => raise_within (by decide +kernel) (closeChunk_within (by decide +kernel) h d a) ..
    rw [if_pos rfl]
    exact setAcq_within (by decide +kernel) hw ..

/-- A set that ends is IDLE, and no set is armed by it (R196). -/
theorem endSet_idles {s : State} (hs : s.Sound) (d a cause : Nat) :
    Idles s (s.endSet d a cause) ∧ (s.endSet d a cause).rd F.ACQ_STATUS.STATE [d, a] = 0 := by
  unfold endSet
  split
  case isTrue h =>
    have idle : s.armed d a = false := by simpa using h
    exact ⟨.refl s, bne_eq_false_iff_eq.1 idle⟩
  case isFalse =>
    extract_lets lost u x post v
    have hu : Within (Foot.without [.ACQ_STATUS] []) s u := closeGap_within (by decide +kernel) (.refl _ s) d a
    have hv : Within (Foot.without [.ACQ_STATUS] []) s v := by
      unfold v
      split
      · extract_lets held w
        have hw : Within (Foot.without [.ACQ_STATUS] []) s w := Within.on hu fun _ h => gapRecord_within (by decide +kernel) h ..
        exact hw.trans (completeSeg_last_within w ..)
      · exact Within.on hu fun _ h => gapRecord_within (by decide +kernel) h ..
    obtain ⟨idles, ended⟩ := idleSet_idles (hv.sound hs) d a cause
    exact ⟨(Idles.of_within hv).trans idles, ended⟩

/-- Every set of a die ends as its pipelines stop (R35). -/
theorem dieLeaves_idles {s : State} (hs : s.Sound) (d : Nat) :
    let t := ((s.each [0, 1, 2] fun s a => s.on (s.armed d a) fun s => s.endArm d a 1).stopPipelines d).each [0, 1] fun s c => s.accHalt d c 2
    Idles s t ∧ ∀ ix, (∃ a < 3, ix = [d, a]) → t.rd F.ACQ_STATUS.STATE ix = 0 := by
  have set : ∀ (u : State) (a : Nat), u.Sound → Idles u (u.on (u.armed d a) fun s => s.endArm d a 1) ∧
      (u.on (u.armed d a) fun s => s.endArm d a 1).rd F.ACQ_STATUS.STATE [d, a] = 0 := fun u a hu => by
    cases h : u.armed d a
    · exact ⟨.refl u, bne_eq_false_iff_eq.1 h⟩
    · exact endSet_idles hu d a 1
  obtain ⟨sets, ended⟩ := Idles.each (P := fun a ix => ix = [d, a]) (fun u a hu => (set u a hu).1)
    (fun u a ix hu e => e ▸ (set u a hu).2) [0, 1, 2] hs
  intro t
  have rest : Idles _ t := .of_within (Within.each (stopPipelines_within (by decide +kernel) (.refl _ _) d) fun _ _ h =>
    accHalt_within (by decide +kernel) h ..)
  refine ⟨sets.trans rest, ?_⟩
  rintro ix ⟨a, ha, rfl⟩
  have three : ∀ a < 3, a ∈ [0, 1, 2] := by decide
  exact rest.idle _ (ended a (three a ha) _ rfl)

/-- Every set ends as an acquiring mode is left (R369). -/
theorem leaveAcquiring_idles {s : State} (hs : s.Sound) {d a : Nat} (hd : d < 2) (ha : a < 3) :
    s.leaveAcquiring.rd F.ACQ_STATUS.STATE [d, a] = 0 := by
  have two : ∀ d < 2, d ∈ [0, 1] := by decide
  exact (Idles.each (fun u d hu => (dieLeaves_idles hu d).1) (fun u d ix hu => (dieLeaves_idles hu d).2 ix) [0, 1] hs).2 d (two d hd) _
    ⟨a, ha, rfl⟩

end State

-- The mode in force (R34, R369) --------------------------------------------------------------------------------------

/-- The state is sound, `m` is its mode, and PWR_MODE of both dies shows it; no transition is under way but where a wake left VIGIL. -/
structure ModeShown (m : Mode) (s : State) : Prop where
  sound : s.Sound
  mode : s.mode = m
  code : ∀ d < 2, s.rd F.PWR_MODE.MODE [d] = m.code
  stays : m ≠ .vigil → ∀ d < 2, s.rd F.PWR_MODE.TRANSITION [d] = 0

/-- The footprint of everything but the mode and what shows it. -/
def Foot.modeless : Foot := Foot.without [.PWR_MODE] [.mode]

namespace ModeShown

section
variable {m : Mode} {s : State} (h : ModeShown m s)
include h

theorem within {t : State} (w : Within Foot.modeless s t) : ModeShown m t where
  sound := w.sound h.sound
  mode := (w.parts .mode (by decide +kernel)).trans h.mode
  code d hd := (w.rd _ _ (by decide +kernel)).trans (h.code d hd)
  stays hm d hd := (w.rd _ _ (by decide +kernel)).trans (h.stays hm d hd)

theorem wr {f : Fld} (hf : f.reg ≠ .PWR_MODE) (ix : List Nat) (v : Nat) : ModeShown m (s.wr f ix v) where
  sound := h.sound.wr
  mode := h.mode
  code d hd := (State.rd_wr_of_reg (Ne.symm hf) ..).trans (h.code d hd)
  stays hm d hd := (State.rd_wr_of_reg (Ne.symm hf) ..).trans (h.stays hm d hd)

theorem on {f : State → State} (b : Bool) (hf : b = true → ModeShown m (f s)) : ModeShown m (s.on b f) := by
  cases b
  · exact h
  · exact hf rfl

theorem each {α : Type} (l : List α) {f : State → α → State} (hf : ∀ u x, ModeShown m u → ModeShown m (f u x)) : ModeShown m (s.each l f) := by
  unfold State.each
  induction l generalizing s with
  | nil => exact h
  | cons x l ih => exact ih (hf s x h)

end

end ModeShown

namespace State

/-- A wake out of VIGIL starts a transition and leaves the mode. -/
theorem wakeBegin_modeShown {s : State} (h : ModeShown .vigil s) (mask unit die : Nat) : ModeShown .vigil (s.wakeBegin mask unit die) := by
  have charged : Within Foot.modeless s s.wakeCharged := by
    have draws : Within Foot.modeless s (s.charge [0, 1] ((s.modeCost .ready : Int) - s.modeCost .vigil) (s.cost 18)) :=
      charge_within (by decide +kernel) (.refl _ s) ..
    exact Within.ite draws (raisePkg_within (by decide +kernel) (draws.wr _ _ _ (by decide +kernel)) _ _)
  have caused : Within Foot.modeless s (((s.wakeCharged.wakeCause mask unit die).wr I.wakeOn [] 1).wr I.wakeAt [] s.wakeCharged.now) :=
    ((wakeCause_within (by decide +kernel) charged ..).wr _ _ _ (by decide +kernel)).wr _ _ _ (by decide +kernel)
  have ready := h.within (wakePins_within (by decide +kernel) caused)
  rw [wakeBegin_eq, startMode]
  refine (ready.within ((Within.refl _ _).wr I.modeMw _ _ (by decide +kernel))).wr (f := I.modeCause) (by decide) _ _ |>.each _ fun u d hu => ?_
  refine ⟨hu.sound.wr.wr, hu.mode, fun e he => ?_, fun hm => absurd rfl hm⟩
  rw [rd_wr_of_lo (by decide), rd_wr_of_lo (by decide), hu.code e he]

/-- A wake source begins a wake in VIGIL only. -/
theorem wake_modeShown {m : Mode} {s : State} (h : ModeShown m s) (bit unit die : Nat) : ModeShown m (s.wake bit unit die) := by
  unfold wake
  split
  case isTrue hm =>
    obtain rfl : m = .vigil := h.mode.symm.trans hm
    split
    · exact wakeBegin_modeShown h ..
    · exact h.on _ fun _ => h.within (wakeCause_within (by decide +kernel) (.refl _ s) ..)
  case isFalse =>
    refine h.on _ fun _ => ?_
    have held := h.wr (f := I.wakeHeld) (by decide) [] (setBit (s.rd I.wakeHeld []) bit)
    exact held.on _ fun _ => (held.wr (f := I.wakeUnit) (by decide) _ _).wr (f := I.wakeDie) (by decide) _ _

theorem cmpAssert_modeShown {m : Mode} {s : State} (h : ModeShown m s) (d u : Nat) (released : Bool) : ModeShown m (s.cmpAssert d u released) := by
  unfold cmpAssert
  extract_lets asserted was a b c e t
  have ha : Within Foot.modeless s a := (Within.refl _ s).wr _ _ _ (by decide +kernel)
  have hb : Within Foot.modeless s b := Within.on ha fun _ h =>
    flag_within (by decide +kernel) (count_within (by decide +kernel) h _ _ _ (by decide +kernel)) _ _ (by decide +kernel)
  have hc : Within Foot.modeless s c := Within.on hb fun _ h => raise_within (by decide +kernel) h ..
  have he : Within Foot.modeless s e := Within.on hc fun _ h =>
    Within.ite (ovldTrip_within (by decide +kernel) h ..) (ovldClear_within (by decide +kernel) h ..)
  have ht := h.within (syncUnitWin_within (by decide +kernel) he d u)
  exact ht.on _ fun _ => wake_modeShown ht ..

theorem cmpStart_modeShown {m : Mode} {s : State} (h : ModeShown m s) (d u : Nat) : ModeShown m (s.cmpStart d u) := by
  unfold cmpStart
  split
  · exact h
  · extract_lets a b
    have hb : Within Foot.modeless s b := (((((((Within.refl _ s).wr I.cmpPower _ _ (by decide +kernel)).wr I.cmpStart _ _ (by decide +kernel)).wr
      I.cmpIn _ _ (by decide +kernel)).wr F.CMP_STATUS.OUT _ _ (by decide +kernel)).wr F.CMP_STATUS.UNRESOLVED _ _ (by decide +kernel)).wr
      F.CMP_STATUS.SETTLING _ _ (by decide +kernel)).wr F.CMP_STATUS.BLANKING _ _ (by decide +kernel)
    exact cmpAssert_modeShown (h.within (hb.wr F.CMP_STATUS.MODE_ACT _ _ (by decide +kernel))) ..

theorem cmpWakeUp_modeShown {m : Mode} {s : State} (h : ModeShown m s) (d : Nat) : ModeShown m (s.cmpWakeUp d) := by
  refine h.each _ fun v u hv => ?_
  split
  · exact cmpStart_modeShown hv d u
  · exact hv.within (cmpMode_within (by decide +kernel) (.refl _ v) ..)

theorem cmpVigil_modeShown {m : Mode} {s : State} (h : ModeShown m s) (d : Nat) : ModeShown m (s.cmpVigil d) := by
  refine h.each _ fun v u hv => ?_
  dsimp only
  split
  · exact hv
  · split
    · exact hv.within (cmpPowerOff_within (by decide +kernel) (.refl _ v) ..)
    · have ready := hv.within (cmpMode_within (by decide +kernel) (.refl _ v) d u (v.rd F.CMP_CTRL.VIGIL_MODE [d, cmpLead u]) true)
      exact ready.on _ fun _ => wake_modeShown ready ..

theorem leaveVigil_modeShown {m : Mode} {s : State} (h : ModeShown m s) : ModeShown m s.leaveVigil := by
  refine h.each _ fun u d hu => ?_
  have clocked := (cmpWakeUp_modeShown hu d).within (Within.on (b := !u.dieRetired d)
    (lgcStart_within (by decide +kernel) (.refl _ _) d) fun _ h => synLock_within (by decide +kernel) h d)
  exact clocked.within (Within.each (.refl _ _) fun _ _ h => Within.on h fun _ h =>
    (h.wr _ _ _ (by decide +kernel)).wr _ _ _ (by decide +kernel))

theorem enterVigil_modeShown {m : Mode} {s : State} (h : ModeShown m s) : ModeShown m s.enterVigil := by
  unfold enterVigil
  extract_lets a b c
  have ha : ModeShown m a := h.within (endDeliveries_within (by decide +kernel) (.refl _ s) ..)
  have hb : ModeShown m b := ha.each _ fun u d hu => by
    have stopped := cmpVigil_modeShown (hu.within (timStopAll_within (by decide +kernel) (.refl _ u) d)) d
    refine stopped.within (setLock_within (by decide +kernel) (Within.wr (Within.each (lgcStop_within (by decide +kernel) (.refl _ _) d)
      fun _ _ h => ?_) _ _ _ (by decide +kernel)) ..)
    exact accDomainOff_within (by decide +kernel) (loseStack_within (by decide +kernel) h ..) ..
  have hc : ModeShown m c := hb.within (Within.set_pool (.refl _ b) _ (by decide +kernel))
  exact hc.within (Within.each (.refl _ c) fun _ _ h => wrFree_within (h.wr _ _ _ (by decide +kernel)) _ _ (by decide +kernel))

theorem splitDies_within (s : State) (split : Bool) : Within Foot.modeless s (s.each [0, 1] fun s d => s.splitDie d split) :=
  Within.each (.refl _ s) fun _ _ h => splitDie_within (by decide +kernel) h ..

/-- What a mode gains keeps it in force. -/
theorem enterMode_modeShown {m : Mode} {s : State} (h : ModeShown m s) (old : Mode) : ModeShown m (s.enterMode old m) := by
  unfold enterMode
  extract_lets a b
  have ha : ModeShown m a := h.on _ fun _ => leaveVigil_modeShown h
  have hb : ModeShown m b := ha.on _ fun _ => ha.within (splitDies_within a false)
  cases m with
  | vigil => exact enterVigil_modeShown hb
  | service => exact hb.within (Within.each (.refl _ b) fun _ _ h => timStopAll_within (by decide +kernel) h _)
  | quad => exact hb.within (enterAcquiring_within (by decide +kernel) (.refl _ b))
  | paired => exact hb.within (enterAcquiring_within (by decide +kernel) (splitDies_within b true))
  | ready => exact hb
  | hold => exact hb

theorem heldWakes_modeShown {s : State} (h : ModeShown .vigil s) : ModeShown .vigil s.heldWakes :=
  h.on _ fun _ => wakeBegin_modeShown (h.wr (f := I.wakeHeld) (by decide) _ _) ..

theorem showMode_modeShown {m : Mode} {s : State} (hs : s.Sound) (hm : s.mode = m) : ModeShown m (s.showMode m) := by
  have fits : m.code < 2 ^ F.PWR_MODE.MODE.width := by cases m <;> decide
  rw [showMode, each_cons, each_cons, each_nil]
  refine ⟨hs.wr.wr.wr.wr, hm, fun d hd => ?_, fun _ d hd => ?_⟩
  all_goals
    have hd : d = 0 ∨ d = 1 := by omega
    rcases hd with rfl | rfl
  · rw [rd_wr_of_ix (by decide), rd_wr_of_ix (by decide), rd_wr_of_lo (by decide), rd_wr_self_of_lt hs _ _ fits]
  · rw [rd_wr_of_lo (by decide), rd_wr_self_of_lt hs.wr.wr _ _ fits]
  · rw [rd_wr_of_ix (by decide), rd_wr_of_ix (by decide), rd_wr_self_of_lt hs.wr _ _ (by decide)]
  · rw [rd_wr_self_of_lt hs.wr.wr.wr _ _ (by decide)]

-- A transition that is done (R369) -----------------------------------------------------------------------------------

/-- The new mode is in force and shown; what it gains comes after (R34, R376). -/
def modeTaken (s : State) (m : Mode) : State :=
  let s := { s.on s.mode.acquires fun s => s.leaveAcquiring with mode := m }.showMode m
  s.on (s.isSet I.modeMw []) fun s => s.commitAgain (s.rd I.modeMw [])

/-- What the new mode gains. -/
def modeEntered (s : State) (old m : Mode) : State := (s.enterMode old m).syncDomains.syncCard.syncScan.syncPorts

theorem modeDone_eq {s : State} {m : Mode} (ht : s.inTransition = true) (hm : Mode.ofCode s.modeTarget = some m) :
    s.modeDone = (((s.modeTaken m).modeEntered s.mode m).modeEvents s.mode m).on (m == .vigil) fun s => s.heldWakes := by
  rw [modeDone, ht, if_pos rfl, hm]
  rfl

theorem modeDone_idle {s : State} (ht : s.inTransition = false) : s.modeDone = s := by
  rw [modeDone, ht, if_neg Bool.false_ne_true]

theorem modeTaken_shows {s : State} (hs : s.Sound) (m : Mode) : ModeShown m (s.modeTaken m) ∧ (s.modeTaken m).control = s.control ∧
    ∀ d a, d < 2 → a < 3 → s.mode.acquires = true → (s.modeTaken m).rd F.ACQ_STATUS.STATE [d, a] = 0 := by
  set u := s.on s.mode.acquires fun s => s.leaveAcquiring with hu
  set v : State := { u with mode := m } with hv
  have left : Within (Foot.without [] [.control]) s u := Within.on (.refl _ s) fun _ h => leaveAcquiring_within (by decide +kernel) h
  have leftSound := left.sound hs
  have sound : v.Sound := ⟨leftSound.regs, leftSound.mem, leftSound.acq, leftSound.tims, leftSound.acc, leftSound.layers, leftSound.flash⟩
  have eq : s.modeTaken m = (v.showMode m).on ((v.showMode m).isSet I.modeMw []) fun s => s.commitAgain (s.rd I.modeMw []) := rfl
  have commits : Within (Foot.of [] [.committed]) (v.showMode m) (s.modeTaken m) := by
    rw [eq]
    exact Within.on (.refl _ _) fun _ h => commitAgain_within (by decide +kernel) h _
  have shows : Within (Foot.of [.PWR_MODE] []) v (v.showMode m) := showMode_within (by decide +kernel) (.refl _ v) m
  refine ⟨(showMode_modeShown sound rfl).within (commits.mono (by decide +kernel)), ?_, fun d a hd ha acquires => ?_⟩
  · exact (commits.parts .control (by decide +kernel)).trans ((shows.parts .control (by decide +kernel)).trans
      (left.parts .control (by decide +kernel)))
  · have idle : u.rd F.ACQ_STATUS.STATE [d, a] = 0 := by
      rw [hu, acquires, on_true]
      exact leaveAcquiring_idles hs hd ha
    rw [commits.rd _ _ (by decide +kernel), shows.rd _ _ (by decide +kernel), ← idle]
    rfl

theorem modeEntered_modeShown {m : Mode} {s : State} (h : ModeShown m s) (old : Mode) : ModeShown m (s.modeEntered old m) :=
  (enterMode_modeShown h old).within (syncPorts_within (by decide +kernel) (syncScan_within (by decide +kernel)
    (syncCard_within (by decide +kernel) (syncDomains_within (by decide +kernel) (.refl _ _)))))

/-- What the new mode gains arms no set. -/
theorem modeEntered_within (s : State) (old m : Mode) : Within (Foot.without [.ACQ_STATUS] [.control]) s (s.modeEntered old m) :=
  syncPorts_within (by decide +kernel) (syncScan_within (by decide +kernel) (syncCard_within (by decide +kernel)
    (syncDomains_within (by decide +kernel) (enterMode_within (by decide +kernel) (.refl _ s) old m))))

/-- The events of a transition, and the wakes held, arm no set, and leave the splitters. -/
theorem modeTold_within (s : State) (old m : Mode) :
    Within (Foot.without [.ACQ_STATUS, .CNV_DIE_STATUS] [.control]) s ((s.modeEvents old m).on (m == .vigil) fun s => s.heldWakes) :=
  Within.on (modeEvents_within (by decide +kernel) (.refl _ s) old m) fun _ h => heldWakes_within (by decide +kernel) h

/-- PWR_MODE is raised as a mode takes effect, and stays pending (R370). -/
theorem modeEvents_pends {s : State} (hs : s.Sound) (old m : Mode) :
    ((s.modeEvents old m).on (m == .vigil) fun s => s.heldWakes).pends s.control 8 = true := by
  have raised : (s.raisePkg 8 (m.code + 2 ^ 3 * old.code + 2 ^ 8 * s.rd I.modeCause [])).pends s.control 8 = true := raisePkg_pends hs _ _
  refine Keeps.pends ?_ (raisePkg_sound hs 8 (m.code + 2 ^ 3 * old.code + 2 ^ 8 * s.rd I.modeCause [])) _ _ raised
  refine Keeps.on ?_ _ fun _ h => heldWakes_keeps h
  unfold modeEvents
  extract_lets a b c e
  have hb : Keeps a b := (Keeps.refl a).on _ fun _ h => h.raisePkg ..
  have hc : Keeps a c := hb.on _ fun _ h => h.raisePkg ..
  have he : Keeps a e := hc.on _ fun _ h => (h.put (by decide) _ _).raisePkg ..
  exact finishUnit_keeps he ..

/-- The splitter of a die follows (R80). -/
theorem splitDie_shows {s : State} (hs : s.Sound) (d : Nat) : (s.splitDie d true).rd F.CNV_DIE_STATUS.SPLIT [d] = 1 ∧
    ∀ e, e ≠ d → (s.splitDie d true).rd F.CNV_DIE_STATUS.SPLIT [e] = s.rd F.CNV_DIE_STATUS.SPLIT [e] := by
  have gains : Within (Foot.without [.CNV_DIE_STATUS] []) (s.setSplit d true) (s.splitDie d true) :=
    showGain_within (by decide +kernel) (.refl _ _) ..
  refine ⟨?_, fun e he => ?_⟩
  all_goals rw [gains.rd _ _ (by decide +kernel), setSplit, wrBool, wrBool, wrBool]
  · rw [rd_wr_of_lo (by decide), rd_wr_of_lo (by decide), rd_wr_self_of_lt hs _ _ (by decide)]
    rfl
  · have hix : [e] ≠ [d] := by simpa using he
    rw [rd_wr_of_ix hix, rd_wr_of_ix hix, rd_wr_of_ix hix]

/-- Both splitters show PAIRED as it is entered. -/
theorem modeEntered_splits {s : State} (hs : s.Sound) (old : Mode) {d : Nat} (hd : d < 2) :
    (s.modeEntered old .paired).rd F.CNV_DIE_STATUS.SPLIT [d] = 1 := by
  set u := (s.on (old == .vigil) fun s => s.leaveVigil).on (old == .paired && Mode.paired != .paired) fun s =>
    s.each [0, 1] fun s d => s.splitDie d false
  have left : Within (Foot.without [] []) s u := Within.on (Within.on (.refl _ s) fun _ h => leaveVigil_within (by decide +kernel) h)
    fun _ h => Within.each h fun _ _ h => splitDie_within (by decide +kernel) h ..
  have eq : s.enterMode old .paired = ((u.splitDie 0 true).splitDie 1 true).enterAcquiring := by
    rw [enterMode, each_cons, each_cons, each_nil]
  have rest : Within (Foot.without [.CNV_DIE_STATUS] []) ((u.splitDie 0 true).splitDie 1 true) (s.modeEntered old .paired) := by
    rw [modeEntered, eq]
    exact syncPorts_within (by decide +kernel) (syncScan_within (by decide +kernel) (syncCard_within (by decide +kernel)
      (syncDomains_within (by decide +kernel) (enterAcquiring_within (by decide +kernel) (.refl _ _)))))
  have first : (u.splitDie 0 true).Sound := (splitDie_within (M := Foot.without [] []) (by decide +kernel) (.refl _ u) 0 true).sound (left.sound hs)
  rw [rest.rd _ _ (by decide +kernel)]
  have hd : d = 0 ∨ d = 1 := by omega
  rcases hd with rfl | rfl
  · rw [(splitDie_shows first 1).2 0 (by decide), (splitDie_shows (left.sound hs) 0).1]
  · exact (splitDie_shows first 1).1

/-- A transition that is done (R34, R35, R80, R369). -/
theorem modeDone_shows {s : State} (hs : s.Sound) {m : Mode} (ht : s.inTransition = true) (hm : Mode.ofCode s.modeTarget = some m) :
    s.modeDone.mode = m ∧ s.modeDone.pends s.control 8 = true ∧ ∀ d : Nat, d < 2 → s.modeDone.rd F.PWR_MODE.MODE [d] = m.code ∧
      (m ≠ .vigil → s.modeDone.rd F.PWR_MODE.TRANSITION [d] = 0) ∧ (m = .paired → s.modeDone.rd F.CNV_DIE_STATUS.SPLIT [d] = 1) ∧
      ∀ a : Nat, a < 3 → s.mode.acquires = true → s.modeDone.rd F.ACQ_STATUS.STATE [d, a] = 0 := by
  obtain ⟨taken, control, idle⟩ := modeTaken_shows hs m
  have enters := (s.modeTaken m).modeEntered_within s.mode m
  have shown := modeEntered_modeShown taken s.mode
  have split : ∀ {d}, d < 2 → m = .paired → ((s.modeTaken m).modeEntered s.mode m).rd F.CNV_DIE_STATUS.SPLIT [d] = 1 := by
    rintro d hd rfl
    exact modeEntered_splits taken.sound s.mode hd
  have control' : ((s.modeTaken m).modeEntered s.mode m).control = s.control := (enters.parts .control (by decide +kernel)).trans control
  rw [modeDone_eq ht hm]
  generalize (s.modeTaken m).modeEntered s.mode m = u at *
  have told := u.modeTold_within s.mode m
  have last : ModeShown m ((u.modeEvents s.mode m).on (m == .vigil) fun s => s.heldWakes) := by
    have events := shown.within (modeEvents_within (by decide +kernel) (.refl _ u) s.mode m)
    refine events.on _ fun e => ?_
    obtain rfl : m = .vigil := by simpa using e
    exact heldWakes_modeShown events
  refine ⟨last.mode, control' ▸ modeEvents_pends shown.sound s.mode m, fun d hd => ⟨last.code d hd, fun h => last.stays h d hd, fun h => ?_,
    fun a ha acquires => ?_⟩⟩
  · rw [told.rd _ _ (by decide +kernel), split hd h]
  · rw [told.rd _ _ (by decide +kernel), enters.rd _ _ (by decide +kernel), idle d a hd ha acquires]

end State

/-- What the command does: a period waits for the end of its cycle. -/
theorem exec_harvestPeriod (draw : Nat) (rails : List (List Nat)) (temps : List (List Int)) (fixes : List (Nat × Nat)) (s : State) :
    exec (.harvestPeriod draw rails temps fixes) s =
      .next (if !s.closing then s.book (.harvestPeriod draw rails temps fixes) else s.harvestPeriod draw rails temps fixes) := rfl

/-- A period waits for the end of its cycle; there it acts (R38, R376). -/
theorem harvestPeriod_atEnd {draw : Nat} {rails : List (List Nat)} {temps : List (List Int)} {fixes : List (Nat × Nat)} {s : State}
    {P : State → Prop} (h : P (s.harvestPeriod draw rails temps fixes)) : CompletesAtEnd (.harvestPeriod draw rails temps fixes) s P := by
  have run := exec_harvestPeriod draw rails temps fixes s
  refine ⟨fun waits => completes_of_eq run ?_ rfl, fun ends => completes_of_eq run ?_ h⟩
  · rw [waits, Bool.not_false, if_pos rfl]
  · rw [ends, Bool.not_true, if_neg Bool.false_ne_true]

/-- Settles O30, command by command: each is one operation of the power and mode blocks, and what it shows is read off it. -/
theorem modesHarvestAndFailover : Obligations.ModesHarvestAndFailover := by
  unfold Obligations.ModesHarvestAndFailover
  refine ⟨fun m s hs ht hm => ⟨_, rfl, State.modeDone_shows hs ht hm⟩, fun s _ ht => ⟨_, rfl, State.modeDone_idle ht⟩,
    fun s hs => ⟨fun hm ht he hd => ?timer, fun h => ⟨_, rfl, State.wakeTimer_idle h⟩⟩,
    fun d s hs hm hr => ⟨_, rfl, State.linkUp_shows hs hm hr⟩,
    fun draw rails temps fixes s hs hm hp hd => harvestPeriod_atEnd (State.harvestPeriod_shows hs hm hp hd rails temps fixes),
    fun draw rails temps fixes s _ h => harvestPeriod_atEnd (State.harvestPeriod_idle h ..),
    fun temp s hs => ⟨fun ht hm hc => ⟨_, rfl, State.thermalEnter_shows hs ht hm hc⟩, fun ht => ⟨_, rfl, State.thermalEnter_cool ht⟩,
      fun ht hh => ⟨_, rfl, fun d hd => State.thermalClear_shows hs ht hh hd⟩, fun ht => ⟨_, rfl, State.thermalClear_hot ht⟩⟩,
    fun s hs => ⟨fun hc hr => ⟨_, rfl, State.failover_shows hs hc hr⟩, fun h => ⟨_, rfl, State.failover_idle h⟩⟩⟩
  case timer => exact completes_of_eq rfl (State.wakeTimer_of_due hm ht he hd) (State.wakeBegin_shows hs (2 ^ 1) 0 0)

end Sys2Proof.Machine
end

section
/-!
PROOFS. The frame of the commands of skein and synchronisation.
-/

namespace Sys2Proof.Machine

/-- What a frame that arrives may change: what every arrival may (R423, R424), and what the frame of the type awaited does. -/
theorem frame_of_frameIn {c : Instr} {s s' : State} {rs : List (List Reg)} {ps : List (List Part)} {p type : Nat} {bytes : List Byte}
    {f : State → Nat → State} (h : exec c s = .next s') (e : exec c s = .next (s.frameIn p bytes type f))
    (arrival : Foot.Sub 0xc000186000000000000000000000000c449f980000030200000000830000000400000000000000000000027f9000008600000000000898000000000000000000000000000000000000000000001
      (Foot.of rs.flatten ps.flatten))
    (taken : ∀ u v, Within (Foot.of rs.flatten ps.flatten) s u → Within (Foot.of rs.flatten ps.flatten) s (f u v)) : Frame rs ps s s' :=
  frame_of_exec h e (State.frameIn_within arrival (.refl _ s) p bytes type f taken)

/-- Settles O59: each command calls one operation of Skein, the commands of a frame through its arrival, and what that operation may
change lies within the lists. -/
theorem frameSkein : Obligations.FrameSkein := by
  unfold Obligations.FrameSkein
  refine ⟨fun p s _ h => ?skeinPortTrained, fun p bytes s _ h => ?joinReceive, fun bytes s _ h => ?joinAckReceive,
    fun p ofs s _ h => ?echoReqSend, fun bytes ofs turn s _ h => ?echoReqReceive, fun p bytes ofs s _ h => ?echoRspReceive,
    fun p ofs s _ h => ?alignSend, fun bytes ofs s _ h => ?alignReceive, fun s _ h => ?alignTimeout, fun p bytes s _ h => ?summaryReceive,
    fun period s _ h => ?summarySend, fun period s _ h => ?gseqEvaluate, fun period s _ h => ?broadcastSend,
    fun bytes s _ h => ?triggerFrameReceive, fun bytes s _ h => ?idleFrameReceive, fun period s _ h => ?broadcastDeadline,
    fun p bytes s _ h => ?nakReceive, fun ofs s _ h => ?skeinSyncReceive, fun d v s _ h => ?sknGseqRunWrite,
    fun p s _ h => ?skeinLaneLost, fun p s _ h => ?skeinEchoWaitTimeout⟩
  case skeinPortTrained => exact frame_of_exec h rfl (State.portTrained_within (by decide +kernel) (.refl _ s) p)
  case joinReceive =>
    exact frame_of_frameIn h rfl (by decide +kernel) fun _ v hu => State.joinIn_within (by decide +kernel) hu p v
  case joinAckReceive =>
    exact frame_of_frameIn h rfl (by decide +kernel) fun _ v hu => State.joinAck_within (by decide +kernel) hu v
  case echoReqSend => exact frame_of_exec h rfl (State.echoDue_within (by decide +kernel) (.refl _ s) p ofs)
  case echoReqReceive =>
    exact frame_of_frameIn h rfl (by decide +kernel) fun _ v hu => State.echoReply_within (by decide +kernel) hu v ofs turn
  case echoRspReceive =>
    exact frame_of_frameIn h rfl (by decide +kernel) fun _ v hu => State.echoIn_within (by decide +kernel) hu p v ofs
  case alignSend => exact frame_of_exec h rfl (State.alignSend_within (by decide +kernel) (.refl _ s) p ofs)
  case alignReceive =>
    exact frame_of_frameIn h rfl (by decide +kernel) fun _ v hu => State.alignIn_within (by decide +kernel) hu v ofs
  case alignTimeout => exact frame_of_exec h rfl (State.alignTimeout_within (by decide +kernel) (.refl _ s))
  case summaryReceive =>
    exact frame_of_frameIn h rfl (by decide +kernel) fun _ v hu => State.summaryIn_within (by decide +kernel) hu p v
  case summarySend =>
    exact frame_of_exec h rfl (State.atEnd_within (by decide +kernel) (.refl _ s) _ _ _ fun _ hu =>
      State.summarySend_within (by decide +kernel) hu period)
  case gseqEvaluate =>
    exact frame_of_exec h rfl (State.atEnd_within (by decide +kernel) (.refl _ s) _ _ _ fun _ hu =>
      State.gseqEvaluate_within (by decide +kernel) hu period)
  case broadcastSend => exact frame_of_exec h rfl (State.broadcast_within (by decide +kernel) (.refl _ s) period)
  case triggerFrameReceive =>
    exact frame_of_frameIn h rfl (by decide +kernel) fun _ v hu => State.broadcastIn_within (by decide +kernel) hu v bytes _ fun _ hw =>
      State.takeTrigger_within (by decide +kernel) hw v
  case idleFrameReceive =>
    exact frame_of_frameIn h rfl (by decide +kernel) fun _ v hu => State.broadcastIn_within (by decide +kernel) hu v bytes _ fun _ hw => hw
  case broadcastDeadline =>
    exact frame_of_exec h rfl (State.atEnd_within (by decide +kernel) (.refl _ s) _ _ _ fun _ hu =>
      State.broadcastMissed_within (by decide +kernel) hu period)
  case nakReceive =>
    exact frame_of_frameIn h rfl (by decide +kernel) fun _ _ hu => State.flag_within (by decide +kernel) hu _ _ (by decide +kernel)
  case skeinSyncReceive => exact frame_of_exec h rfl (State.syncIn_within (by decide +kernel) (.refl _ s) ofs)
  case sknGseqRunWrite =>
    exact frame_of_exec h rfl (State.packageWrite_within (.refl _ s) d _ fun _ hu => State.writeGseqCtrl_within (by decide +kernel) hu v)
  case skeinLaneLost => exact frame_of_exec h rfl (State.skLaneLost_within (by decide +kernel) (.refl _ s) p)
  case skeinEchoWaitTimeout =>
    exact frame_of_exec h rfl (State.atEnd_within (by decide +kernel) (.refl _ s) _ _ _ fun _ hu =>
      State.echoTimeout_within (by decide +kernel) hu p)

end Sys2Proof.Machine
end

section
/-!
PROOFS. The ramp of SYN (R60, R61): its last segment, its abort, and its write-protected registers.
-/

namespace Sys2Proof.Machine

namespace State

-- The end of the last segment ------------------------------------------------------------------------------------------

/-- A segment has ended: its end offset is held and the alias probes of both channels are done (R61, R63). -/
def rampHeld (s : State) (d : Nat) (peaks : List (List (Nat × Nat))) : State :=
  (s.setOffset d (s.rampEnd d (s.rd F.SYN_STATUS.RAMP_SEG [d]))).each [0, 1] fun s c => s.aliasProbe d c (peaks.getD c [])

/-- The registers of a ramp's run. -/
def rampRegs : List Reg := [.SYN_CTRL, .SYN_STATUS, .SYN_RAMP_DUR, .i_rampFrom, .i_rampStart]

/-- The alias probes leave the offset and the ramp's run (R63). -/
theorem rampHeld_within (s : State) (d : Nat) (peaks : List (List (Nat × Nat))) :
    Within (Foot.without (.SYN_OFFSET :: rampRegs) []) (s.setOffset d (s.rampEnd d (s.rd F.SYN_STATUS.RAMP_SEG [d]))) (s.rampHeld d peaks) :=
  Within.each (.refl _ _) fun _ c hu => aliasProbe_within (by decide +kernel) hu d c _

theorem rampHeld_sound {s : State} (hs : s.Sound) (d : Nat) (peaks : List (List (Nat × Nat))) : (s.rampHeld d peaks).Sound :=
  (s.rampHeld_within d peaks).sound hs.wr

/-- The ramp's run is as it was before the segment ended. -/
theorem rampHeld_rd {f : Fld} (hf : f.reg ∈ rampRegs) (s : State) (d : Nat) (peaks : List (List (Nat × Nat))) (ix : List Nat) :
    (s.rampHeld d peaks).rd f ix = s.rd f ix := by
  have kept : ∀ r ∈ rampRegs, (Foot.without (.SYN_OFFSET :: rampRegs) []).testBit r.ctorIdx = false ∧ r ≠ .SYN_OFFSET := by decide +kernel
  obtain ⟨hprobe, hoff⟩ := kept _ hf
  exact ((s.rampHeld_within d peaks).rd f ix hprobe).trans (rd_wr_of_reg hoff s _ _ _)

/-- The end offset of the segment is held (R61). -/
theorem rampHeld_offset {s : State} (hs : s.Sound) (d : Nat) (peaks : List (List (Nat × Nat))) :
    (s.rampHeld d peaks).rd F.SYN_OFFSET.OFFSET [d] = sfield 24 (s.rampEnd d (s.rd F.SYN_STATUS.RAMP_SEG [d])) :=
  ((s.rampHeld_within d peaks).rd F.SYN_OFFSET.OFFSET [d] (by decide +kernel)).trans (rd_wr_self_of_lt hs F.SYN_OFFSET.OFFSET [d] (sfield_lt 24 _))

/-- Segment 0 starts again where the segment before it ended in time and in offset (R61). -/
def rampAgain (s : State) (d dur : Nat) : State :=
  ((s.wr F.SYN_STATUS.RAMP_SEG [d] 0).wr I.rampFrom [d] (s.rd F.SYN_OFFSET.OFFSET [d])).wr I.rampStart [d] (s.rd I.rampStart [d] + clkBlock * dur)

/-- A ramp ends, with SYN_RAMP (R61). -/
def rampOver (s : State) (d : Nat) : State := (s.wr F.SYN_STATUS.RAMP_ACTIVE [d] 0).raise d 31 0

theorem rampOver_rd {f : Fld} (hf : f.reg ∉ Reg.SYN_STATUS :: Reg.ofEvents) (s : State) (d : Nat) (ix : List Nat) :
    (s.rampOver d).rd f ix = s.rd f ix := by
  obtain ⟨hstat, hrest⟩ := not_or.mp (mt List.mem_cons.mpr hf)
  exact (raise_rd hrest ..).trans (rd_wr_of_reg hstat s _ _ _)

theorem rampOver_shows {s : State} (hs : s.Sound) (d : Nat) : (s.rampOver d).rd F.SYN_STATUS.RAMP_ACTIVE [d] = 0 ∧ (s.rampOver d).pends d 31 = true :=
  ⟨(raise_rd (by decide) ..).trans (rd_wr_self hs.regs ..), raise_pends hs.wr ..⟩

/-- At the end of the last segment the ramp goes back to segment 0 or ends (R61). -/
theorem rampSegment_of_last {s : State} {d : Nat} (active : s.rd F.SYN_STATUS.RAMP_ACTIVE [d] = 1)
    (last : s.rd F.SYN_STATUS.RAMP_SEG [d] = s.rd F.SYN_CTRL.RAMP_LAST [d])
    (ended : s.rampDur d (s.rd F.SYN_STATUS.RAMP_SEG [d]) ≤ s.rampCycles d) (peaks : List (List (Nat × Nat))) :
    s.rampSegment d peaks = if s.isSet F.SYN_CTRL.RAMP_REPEAT [d] then (s.rampHeld d peaks).rampAgain d (s.rampDur d (s.rd F.SYN_STATUS.RAMP_SEG [d]))
      else (s.rampHeld d peaks).rampOver d := by
  have keeps : ∀ {f : Fld}, f.reg ∈ rampRegs → ∀ ix, (s.rampHeld d peaks).rd f ix = s.rd f ix :=
    fun hf ix => rampHeld_rd hf s d peaks ix
  have go : (!s.isSet F.SYN_STATUS.RAMP_ACTIVE [d] || decide (s.rampCycles d < s.rampDur d (s.rd F.SYN_STATUS.RAMP_SEG [d]))) = false := by
    simp [isSet, active, ended]
  have ends : ¬ s.rd F.SYN_STATUS.RAMP_SEG [d] < (s.rampHeld d peaks).rd F.SYN_CTRL.RAMP_LAST [d] := by
    rw [keeps (by decide), last]; exact Nat.lt_irrefl _
  have repeats : (s.rampHeld d peaks).isSet F.SYN_CTRL.RAMP_REPEAT [d] = s.isSet F.SYN_CTRL.RAMP_REPEAT [d] := by
    rw [isSet, keeps (by decide), isSet]
  have lasts : (s.rampHeld d peaks).rampDur d (s.rd F.SYN_STATUS.RAMP_SEG [d]) = s.rampDur d (s.rd F.SYN_STATUS.RAMP_SEG [d]) := keeps (by decide) _
  unfold rampSegment
  rw [if_neg (by rw [go]; exact Bool.false_ne_true)]
  refine (if_neg ends).trans ?_
  rw [← repeats, ← lasts]
  rfl

theorem rampSegment_shows {s : State} {d : Nat} (hs : s.Sound) (active : s.rd F.SYN_STATUS.RAMP_ACTIVE [d] = 1)
    (last : s.rd F.SYN_STATUS.RAMP_SEG [d] = s.rd F.SYN_CTRL.RAMP_LAST [d])
    (ended : s.rampDur d (s.rd F.SYN_STATUS.RAMP_SEG [d]) ≤ s.rampCycles d) (peaks : List (List (Nat × Nat))) :
    let k := s.rd F.SYN_STATUS.RAMP_SEG [d]
    let final := sfield 24 (s.rampEnd d k)
    let t := s.rampSegment d peaks
    t.rd F.SYN_OFFSET.OFFSET [d] = final ∧
      (s.rd F.SYN_CTRL.RAMP_REPEAT [d] ≠ 0 → t.rd F.SYN_STATUS.RAMP_ACTIVE [d] = 1 ∧ t.rd F.SYN_STATUS.RAMP_SEG [d] = 0 ∧
        t.rd I.rampFrom [d] = final ∧ t.rd I.rampStart [d] = (s.rd I.rampStart [d] + clkBlock * s.rampDur d k) % 2 ^ I.rampStart.width) ∧
      (s.rd F.SYN_CTRL.RAMP_REPEAT [d] = 0 → t.rd F.SYN_STATUS.RAMP_ACTIVE [d] = 0 ∧ t.pends d 31 = true) := by
  intro k final t
  have held := rampHeld_sound hs d peaks
  have off := rampHeld_offset hs d peaks
  by_cases again : s.rd F.SYN_CTRL.RAMP_REPEAT [d] = 0
  · have e : t = (s.rampHeld d peaks).rampOver d := (rampSegment_of_last active last ended peaks).trans (if_neg (by simp [isSet, again]))
    rw [e]
    exact ⟨(rampOver_rd (by decide) ..).trans off, fun h => absurd again h, fun _ => rampOver_shows held d⟩
  · have e : t = (s.rampHeld d peaks).rampAgain d (s.rampDur d k) := (rampSegment_of_last active last ended peaks).trans (if_pos (by simpa [isSet] using again))
    have stays : (s.rampHeld d peaks).rd F.SYN_STATUS.RAMP_ACTIVE [d] = 1 := (rampHeld_rd (by decide) ..).trans active
    have began : (s.rampHeld d peaks).rd I.rampStart [d] = s.rd I.rampStart [d] := rampHeld_rd (by decide) ..
    rw [e, rampAgain, off, began]
    refine ⟨?offset, fun _ => ⟨?active, ?segment, ?start, rd_wr_self held.wr.wr.regs ..⟩, fun h => absurd h again⟩
    case offset => rw [rd_wr_of_reg (by decide), rd_wr_of_reg (by decide), rd_wr_of_reg (by decide), off]
    case active => rw [rd_wr_of_reg (by decide), rd_wr_of_reg (by decide), rd_wr_of_lo (by decide), stays]
    case segment => rw [rd_wr_of_reg (by decide), rd_wr_of_reg (by decide), rd_wr_self held.regs]; rfl
    case start => rw [rd_wr_of_reg (by decide)]; exact rd_wr_self_of_lt held.wr I.rampFrom [d] (sfield_lt 24 _)

-- The abort ------------------------------------------------------------------------------------------------------------

/-- The offset that a ramp has reached lies between the two ends of its segment, in proportion to the cycles gone by (R60). -/
theorem offsetNow_of_active {s : State} {d : Nat} (active : s.isSet F.SYN_STATUS.RAMP_ACTIVE [d] = true) :
    let k := s.rd F.SYN_STATUS.RAMP_SEG [d]
    let start := sval 24 (s.rd I.rampFrom [d])
    let n := min (max 1 (s.rampDur d k)) (s.rampCycles d)
    (s.offsetNow d).1 / (max 1 (s.offsetNow d).2 : Nat) = start + (s.rampEnd d k - start) * (n : Nat) / (max 1 (s.rampDur d k) : Nat) := by
  intro k start n
  have whole : max 1 (max 1 (s.rampDur d k)) = max 1 (s.rampDur d k) := by omega
  have pos : ((max 1 (s.rampDur d k) : Nat) : Int) ≠ 0 := by omega
  have e : s.offsetNow d = (start * (max 1 (s.rampDur d k) : Nat) + (s.rampEnd d k - start) * (n : Nat), max 1 (s.rampDur d k)) := by
    rw [offsetNow, if_pos active]; rfl
  rw [e]
  show _ / ((max 1 (max 1 (s.rampDur d k)) : Nat) : Int) = _
  rw [whole, Int.add_comm, Int.add_mul_ediv_right _ _ pos, Int.add_comm]

/-- An abort holds the offset reached and ends the ramp, with SYN_RAMP (R61). -/
theorem rampAbort_shows {s : State} {d : Nat} (hs : s.Sound) (active : s.rd F.SYN_STATUS.RAMP_ACTIVE [d] = 1) :
    let k := s.rd F.SYN_STATUS.RAMP_SEG [d]
    let start := sval 24 (s.rd I.rampFrom [d])
    let n := min (max 1 (s.rampDur d k)) (s.rampCycles d)
    (s.rampAbort d).rd F.SYN_STATUS.RAMP_ACTIVE [d] = 0 ∧ (s.rampAbort d).pends d 31 = true ∧
      (s.rampAbort d).rd F.SYN_OFFSET.OFFSET [d] = sfield 24 (start + (s.rampEnd d k - start) * (n : Nat) / (max 1 (s.rampDur d k) : Nat)) := by
  intro k start n
  have set : s.isSet F.SYN_STATUS.RAMP_ACTIVE [d] = true := by simp [isSet, active]
  have e : s.rampAbort d = (s.setOffset d (start + (s.rampEnd d k - start) * (n : Nat) / (max 1 (s.rampDur d k) : Nat))).rampOver d := by
    rw [rampAbort, on_of_true set]; exact congrArg (fun o => (s.setOffset d o).rampOver d) (offsetNow_of_active set)
  obtain ⟨stops, pends⟩ := rampOver_shows (s := s.setOffset d _) hs.wr d
  rw [e]
  exact ⟨stops, pends, (rampOver_rd (by decide) ..).trans (rd_wr_self_of_lt hs F.SYN_OFFSET.OFFSET [d] (sfield_lt 24 _))⟩

/-- The settings of the ramp, as a write of SYN_CTRL that leaves the mode takes them. -/
def rampSettings (d v : Nat) (s : State) : State :=
  ((s.wr F.SYN_CTRL.RAMP_REPEAT [d] (slice v 3 1)).wr F.SYN_CTRL.RAMP_LAST [d] (slice v 4 6)).wr F.SYN_CTRL.ALIAS_EN [d] (slice v 10 2)

theorem rampSettings_rd {f : Fld} (hf : f.reg ≠ .SYN_CTRL) (d v : Nat) (s : State) (ix : List Nat) : (rampSettings d v s).rd f ix = s.rd f ix := by
  rw [rampSettings, rd_wr_of_reg hf, rd_wr_of_reg hf, rd_wr_of_reg hf]

/-- A write that leaves the mode takes the settings, then starts and aborts as its bits say (R59 to R61). -/
theorem writeSynCtrl_of_same_mode {s : State} {d v : Nat} (same : slice v 0 1 = s.rd F.SYN_CTRL.MODE [d]) :
    let r := if bitAt v 1 then (rampSettings d v s).rampStart d else (rampSettings d v s, 0)
    writeSynCtrl d v s = (r.1.on (bitAt v 2) fun s => s.rampAbort d, r.2) := by
  have change : (slice v 0 1 != s.rd F.SYN_CTRL.MODE [d]) = false := by simp [same]
  rw [writeSynCtrl, change, Bool.false_and, if_neg Bool.false_ne_true]
  rfl

-- The registers that a ramp protects -----------------------------------------------------------------------------------

/-- A write of a segment's end or duration does nothing while a ramp is active (R61). -/
theorem writeRamp_of_active {s : State} {d : Nat} (active : s.rd F.SYN_STATUS.RAMP_ACTIVE [d] = 1) (f : Fld) (k v : Nat) :
    writeRamp d f k v s = s := by
  rw [writeRamp, isSet, active]; rfl

/-- A write of an aligned word of a plain register of a die goes by its register's rules. -/
theorem writeBar0_of_regAt {s : State} {r : Reg} {off w : Nat} {j : List Nat} (aligned : off % 4 = 0) (at_ : regAt off = some (r, j, w))
    (window : ¬(r = .HIST ∨ r = .ACCUM)) (queue : r.ofQueue = false) (package : r.perPackage = false) (next : r.fromNextBlock = false) (d v : Nat) :
    s.writeBar0 d off 4 v = (writeReg d r j w v s).1 := by
  simp [writeBar0, writeWord, writeWordOf, aligned, at_, window, queue, package, next]

theorem writeBar0_of_ramp {s : State} {d off j w : Nat} (active : s.rd F.SYN_STATUS.RAMP_ACTIVE [d] = 1) (aligned : off % 4 = 0)
    (at_ : regAt off = some (.SYN_RAMP_END, [j], w) ∨ regAt off = some (.SYN_RAMP_DUR, [j], w)) (v : Nat) : s.writeBar0 d off 4 v = s := by
  rcases at_ with at_ | at_
  · exact (writeBar0_of_regAt aligned at_ (by decide) rfl rfl rfl d v).trans (writeRamp_of_active active F.SYN_RAMP_END.END_OFFSET j v)
  · exact (writeBar0_of_regAt aligned at_ (by decide) rfl rfl rfl d v).trans (writeRamp_of_active active F.SYN_RAMP_DUR.DURATION j v)

end State

/-- An abort that a write of SYN_CTRL brings acts on the ramp as it stands: the settings taken before it are none of the ramp's run (R61). -/
theorem synRampAbort_shows {s : State} {d v : Nat} (hs : s.Sound) (reach : s.hostReach d = true) (same : v % 2 = s.rd F.SYN_CTRL.MODE [d])
    (start : bitAt v 1 = false) (abort : bitAt v 2 = true) (active : s.rd F.SYN_STATUS.RAMP_ACTIVE [d] = 1) :
    let k := s.rd F.SYN_STATUS.RAMP_SEG [d]
    let start := sval 24 (s.rd I.rampFrom [d])
    let n := min (max 1 (s.rampDur d k)) (s.rampCycles d)
    Completes (.synRampAbort d v) s fun t => t.rd F.SYN_STATUS.RAMP_ACTIVE [d] = 0 ∧ t.pends d 31 = true ∧
      t.rd F.SYN_OFFSET.OFFSET [d] = sfield 24 (start + (s.rampEnd d k - start) * (n : Nat) / (max 1 (s.rampDur d k) : Nat)) := by
  have bit0 : slice v 0 1 = s.rd F.SYN_CTRL.MODE [d] := by simpa [slice] using same
  have run : s.hostStatus d (State.writeSynCtrl d v) = (State.rampSettings d v s).rampAbort d := by
    rw [State.hostStatus, State.hostWrite_of_reach reach, State.writeSynCtrl_of_same_mode bit0, start, abort]; rfl
  have keeps : ∀ {f : Fld}, f.reg ≠ .SYN_CTRL → ∀ ix, (State.rampSettings d v s).rd f ix = s.rd f ix :=
    fun hf ix => State.rampSettings_rd hf d v s ix
  have shows := State.rampAbort_shows (s := State.rampSettings d v s) (d := d) hs.wr.wr.wr ((keeps (by decide) _).trans active)
  simp only [State.rampEnd, State.rampDur, State.rampCycles, keeps (f := F.SYN_STATUS.RAMP_SEG) (by decide), keeps (f := I.rampFrom) (by decide),
    keeps (f := I.rampStart) (by decide), keeps (f := I.synClk) (by decide), keeps (f := F.SYN_RAMP_END.END_OFFSET) (by decide),
    keeps (f := F.SYN_RAMP_DUR.DURATION) (by decide)] at shows
  exact completes_of_eq rfl run shows

/-- Settles O41: the end of the last segment, the abort and the protected registers, each from the lemma of its operation. -/
theorem rampEndings : Obligations.RampEndings := by
  unfold Obligations.RampEndings
  refine ⟨fun d peaks s hs active last ended => ⟨_, rfl, State.rampSegment_shows hs active last ended peaks⟩,
    fun d v s hs reach same start abort active => synRampAbort_shows hs reach same start abort active,
    fun d off j w v s _ reach active aligned at_ => completes_of_eq rfl ?_ rfl⟩
  show s.hostWrite d _ = s
  rw [State.hostWrite_of_reach reach, State.writeBar0_of_ramp active aligned at_]

end Sys2Proof.Machine
end

section
/-!
PROOFS. The mailbox (R342, R344 to R348): a command that is taken leaves what commands ask about; a carried-out command is answered.
-/

namespace Sys2Proof.Machine

-- One proof at a time: proofs elaborated side by side ask for more memory than a compile of the whole text may take.
set_option Elab.async false

namespace State

-- Taking a command (R345) ---------------------------------------------------------------------------------------------------

/-- The registers that taking a command may change: where its ring stands, the command count, and the turns. -/
def takeRegs : List Reg := [.QUE_STATUS, .QUE_PTR, .MBX_STATUS, .i_mbxTook, .i_mbxTurn]

theorem take_frame (s : State) (h : MbxHdr) (op : Nat) : Frame [takeRegs] [[.out, .taken]] s (s.take h op).1 :=
  (take_within (by decide +kernel) (.refl _ s) h op).frame

theorem take_sound {s : State} (hs : s.Sound) (h : MbxHdr) (op : Nat) : (s.take h op).1.Sound :=
  (take_within (M := 2 ^ 700 - 1) (by decide +kernel) (.refl _ s) h op).sound hs

theorem take_rd {f : Fld} (hf : f.reg ∉ takeRegs) (s : State) (h : MbxHdr) (op : Nat) (ix : List Nat) :
    (s.take h op).1.rd f ix = s.rd f ix := (s.take_frame h op).rd (by simpa using hf) ix

theorem take_isSet {f : Fld} (hf : f.reg ∉ takeRegs) (s : State) (h : MbxHdr) (op : Nat) (ix : List Nat) :
    (s.take h op).1.isSet f ix = s.isSet f ix := congrArg (· != 0) (take_rd hf s h op ix)

@[simp] theorem take_mode (s : State) (h : MbxHdr) (op : Nat) : (s.take h op).1.mode = s.mode := (s.take_frame h op).parts .mode (by decide)

@[simp] theorem take_control (s : State) (h : MbxHdr) (op : Nat) : (s.take h op).1.control = s.control :=
  (s.take_frame h op).parts .control (by decide)

@[simp] theorem take_dt (s : State) (h : MbxHdr) (op : Nat) : (s.take h op).1.dt = s.dt := (s.take_frame h op).parts .dt (by decide)

@[simp] theorem take_outstanding (s : State) (h : MbxHdr) (op : Nat) : (s.take h op).1.outstanding = s.outstanding :=
  (s.take_frame h op).parts .outstanding (by decide)

@[simp] theorem take_closing (s : State) (h : MbxHdr) (op : Nat) : (s.take h op).1.closing = s.closing :=
  (s.take_frame h op).parts .closing (by decide)

/-- A device that moves its own index on changes no queue's state. -/
theorem advanceOwn_queState (s : State) (d q : Nat) (ix : List Nat) :
    (s.advanceOwn d q).rd F.QUE_STATUS.STATE ix = s.rd F.QUE_STATUS.STATE ix := by
  have index : ∀ {c : Prop} [Decidable c] v, (s.wr (if c then F.QUE_PTR.HEAD else F.QUE_PTR.TAIL) [d, q] v).rd F.QUE_STATUS.STATE ix =
      s.rd F.QUE_STATUS.STATE ix := fun v => by split <;> exact rd_wr_of_reg (by decide) ..
  have phase : ∀ (u : State) b v, (u.on b fun u => u.wrBool F.QUE_STATUS.PHASE [d, q] v).rd F.QUE_STATUS.STATE ix = u.rd F.QUE_STATUS.STATE ix :=
    fun u b v => by cases b; exacts [rfl, rd_wr_of_lo (by decide) ..]
  have writes : ∀ (u : State) n, (u.writeBack d q n).rd F.QUE_STATUS.STATE ix = u.rd F.QUE_STATUS.STATE ix := fun u n => by
    unfold writeBack; cases u.isSet F.QUE_WB.ADDR [d, q] <;> rfl
  exact ((writes _ _).trans (phase _ _ _)).trans (index _)

/-- A ring's state stays: taking a command moves only its index and phase. -/
theorem take_queState (s : State) (h : MbxHdr) (op : Nat) (ix : List Nat) :
    (s.take h op).1.rd F.QUE_STATUS.STATE ix = s.rd F.QUE_STATUS.STATE ix := by
  have counts : ∀ (u : State) d, (u.syncMbx d).rd F.QUE_STATUS.STATE ix = u.rd F.QUE_STATUS.STATE ix := fun u d => by
    rw [syncMbx, rd_wr_of_reg (by decide), rd_wr_of_reg (by decide)]
  obtain ⟨die, src, tag, dieField, takeOnly⟩ := h
  cases src with
  | urgent => exact (counts _ _).trans (rd_wr_of_reg (by decide) ..)
  | ring m => exact ((advanceOwn_queState ..).trans (counts _ _)).trans ((rd_wr_of_reg (by decide) ..).trans (rd_wr_of_reg (by decide) ..))

/-- The record of the command that is taken. -/
theorem take_record (s : State) (h : MbxHdr) (op : Nat) : ∃ i p, (s.take h op).2 = ⟨h.die, h.src, h.tag, op, i, p, s.now, false⟩ := by
  obtain ⟨die, src, tag, dieField, takeOnly⟩ := h
  cases src with
  | urgent => exact ⟨_, _, rfl⟩
  | ring m => exact ⟨_, _, rfl⟩

/-- The command taken is the last in progress. -/
theorem take_taken (s : State) (h : MbxHdr) (op : Nat) : (s.take h op).1.taken = s.taken ++ [(s.take h op).2] := by
  obtain ⟨die, src, tag, dieField, takeOnly⟩ := h
  cases src with
  | urgent => rfl
  | ring m => exact (advanceOwn_within (M := Foot.of [.QUE_STATUS, .QUE_PTR] [.out]) (by decide +kernel) (.refl _ _) ..).parts .taken (by decide +kernel)

-- A command that is taken and carried out at once (R345 to R349) ----------------------------------------------------------------

/-- A tag that is free names no command that firmware still has to carry out. -/
theorem convertedOf_of_free {s : State} {h : MbxHdr} (free : s.tagOutstanding h.die h.tag = false) (op : Nat) : s.convertedOf h op = none := by
  obtain ⟨-, out⟩ := Bool.or_eq_false_iff.mp free
  refine List.find?_eq_none.mpr fun o ho hit => List.any_eq_false.mp out o ho ?_
  simp only [Bool.and_eq_true] at hit ⊢
  obtain ⟨⟨⟨⟨-, die⟩, -⟩, tag⟩, -⟩ := hit
  exact ⟨die, tag⟩

/-- A tag that is free names no command in progress. -/
theorem takenOf_of_free {s : State} {h : MbxHdr} (free : s.tagOutstanding h.die h.tag = false) (op : Nat) : s.takenOf h op = none := by
  obtain ⟨inProgress, -⟩ := Bool.or_eq_false_iff.mp free
  refine List.find?_eq_none.mpr fun t ht hit => List.any_eq_false.mp inProgress t ht ?_
  simp only [Bool.and_eq_true] at hit ⊢
  obtain ⟨⟨⟨die, -⟩, tag⟩, -⟩ := hit
  exact ⟨die, tag⟩

/-- A command that the engine takes now is carried out from the state in which it is taken. -/
theorem mbx_of_takesFresh {s : State} {h : MbxHdr} (fresh : s.takesFresh h) (op : Nat) (k : CmdKind) (c : Concern)
    (body : State → Nat → State × Reply) : s.mbx h op k c body = (s.take h op).1.mbxCarry h k c body (s.take h op).2 := by
  obtain ⟨can, free, whole, unnamed⟩ := fresh
  simp [mbx, unnamed, convertedOf_of_free free, takenOf_of_free free, can, free, whole]

theorem not_retired_of_canTake {s : State} {h : MbxHdr} (can : s.canTake h = true) : s.dieRetired h.die = false := by
  simp only [canTake, Bool.and_eq_true, Bool.not_eq_true'] at can
  obtain ⟨⟨⟨⟨⟨-, works⟩, -⟩, -⟩, -⟩, -⟩ := can
  exact works

theorem take_dieRetired (s : State) (h : MbxHdr) (op d : Nat) : (s.take h op).1.dieRetired d = s.dieRetired d := take_isSet (by decide) ..

/-- A command without a DIE field concerns the die that took it (R344). -/
theorem concernDie_byField {s : State} {h : MbxHdr} (fresh : s.takesFresh h) (op : Nat) : (s.take h op).1.concernDie h .byField = .ok h.die := by
  obtain ⟨can, -, -, unnamed⟩ := fresh
  simp [concernDie, unnamed, take_dieRetired, not_retired_of_canTake can]

/-- A package service concerns the control die (R344). -/
theorem concernDie_package (s : State) (h : MbxHdr) (op : Nat) : (s.take h op).1.concernDie h .package = .ok s.control := by
  rw [concernDie, take_control]

/-- In a mode that does not refuse its kind, and where a long command finds room, the command's work is done (R347, R348, R372). -/
theorem carryOut_of_allowed {s : State} {k : CmdKind} {d target : Nat} {body : State → Nat → State × Reply}
    (service : k.conf = false ∨ s.mode ≠ .service) (vigil : k.inVigil = true ∨ s.mode ≠ .vigil)
    (room : (body s target).2.status ≠ 1 ∧ (body s target).2.status ≠ 2 ∨ s.hasRoom d) : s.carryOut d true k target body = body s target := by
  have hs : ¬(k.conf = true ∧ s.mode = .service) := by rcases service with h | h <;> simp [h]
  have hv : ¬((¬k.inVigil = true) ∧ s.mode = .vigil) := by rcases vigil with h | h <;> simp [h]
  have hr : ¬((true = true) ∧ ((body s target).2.status = 1 ∨ (body s target).2.status = 2) ∧
      256 ≤ (s.outstanding.filter fun o => o.die == d && !o.late).length) := by
    rintro ⟨-, long, full⟩
    rcases room with ⟨h1, h2⟩ | room
    · exact long.elim h1 h2
    · exact Nat.lt_irrefl _ (Nat.lt_of_lt_of_le room full)
  rw [carryOut, if_neg hs, if_neg hv]
  exact if_neg hr

end State
end Sys2Proof.Machine
end

section
/-!
PROOFS. The response of a mailbox command (R342, R343, R348, R351): what it shows and what it leaves.
-/

namespace Sys2Proof.Machine

-- One proof at a time: proofs elaborated side by side ask for more memory than a compile of the whole text may take.
set_option Elab.async false

-- Little-endian bytes (R5) ------------------------------------------------------------------------------------------------------

theorem ofLe_lt (l : List Byte) : ofLe l < 256 ^ l.length := by
  induction l with
  | nil => exact Nat.one_pos
  | cons b l ih =>
    have := b.isLt
    rw [ofLe, List.length_cons, Nat.pow_succ]
    omega

/-- A list is filled up with zeros where it is shorter. -/
theorem padTo_eq (n : Nat) (l : List Byte) : padTo n l = l.take n ++ List.replicate (n - l.length) 0 := by
  rw [padTo, List.take_append, List.take_replicate, Nat.min_eq_left (Nat.sub_le ..)]

/-- The results of a response end before its last byte, which an urgent command leaves 0 (R342). -/
theorem padTo_response (results : List Byte) : padTo 47 results ++ le 1 0 = padTo 48 (results.take 47) := by
  have room : 48 - min 47 results.length = (47 - results.length) + 1 := by omega
  rw [padTo_eq, padTo_eq, List.take_take, List.length_take, room, List.replicate_succ', List.append_assoc]
  rfl

-- The words of a response (R342)

/-- The first word holds the opcode and the tag. -/
theorem responseBytes_first (op tag status flags ticks phase : Nat) (results : List Byte) :
    ofLe (((responseBytes op tag status flags ticks phase results).drop (4 * 0)).take 4) = op % 2 ^ 16 + 2 ^ 16 * (tag % 2 ^ 16) := by
  have bytes : ((responseBytes op tag status flags ticks phase results).drop (4 * 0)).take 4 =
      [BitVec.ofNat 8 op, BitVec.ofNat 8 (op / 256), BitVec.ofNat 8 tag, BitVec.ofNat 8 (tag / 256)] := by simp [responseBytes, le]
  rw [bytes]
  simp only [ofLe, BitVec.toNat_ofNat]
  omega

/-- The second word holds the status. -/
theorem responseBytes_second (op tag status flags ticks phase : Nat) (results : List Byte) :
    ofLe (((responseBytes op tag status flags ticks phase results).drop (4 * 1)).take 4) % 2 ^ 16 = status % 2 ^ 16 := by
  have bytes : ((responseBytes op tag status flags ticks phase results).drop (4 * 1)).take 4 =
      [BitVec.ofNat 8 status, BitVec.ofNat 8 (status / 256), BitVec.ofNat 8 flags, 0] := by simp [responseBytes, le]
  rw [bytes]
  simp only [ofLe, BitVec.toNat_ofNat]
  omega

/-- From byte 16 on the results stand. -/
theorem responseBytes_results (op tag status flags ticks : Nat) (results : List Byte) :
    (responseBytes op tag status flags ticks 0 results).drop 16 = padTo 48 (results.take 47) := by
  rw [← padTo_response]
  simp [responseBytes, le]

/-- A register outside a footprint given by a list reads as before. -/
theorem Within.rd_of {rs : List Reg} {ps : List Part} {s t : State} (w : Within (Foot.of rs ps) s t) {f : Fld} (hf : f.reg ∉ rs) (ix : List Nat) :
    t.rd f ix = s.rd f ix :=
  (Within.frame (rs := [rs]) (ps := [ps]) (by simpa using w)).rd (by simpa using hf) ix

namespace State

-- The urgent mailbox shows the response (R351) --------------------------------------------------------------------------------

/-- A flag is the bit written; what it notes for reads of this cycle is no register. -/
theorem flag_rd (s : State) (f : Fld) (ix : List Nat) (g : Fld) (jx : List Nat) : (s.flag f ix).rd g jx = (s.wr f ix 1).rd g jx := rfl

theorem Sound.flag {s : State} (hs : s.Sound) (f : Fld) (ix : List Nat) : (s.flag f ix).Sound :=
  ⟨hs.wr.regs, hs.mem, hs.acq, hs.tims, hs.acc, hs.layers, hs.flash⟩

theorem writeUrgent_shows {s : State} (hs : s.Sound) (d : Nat) (bytes : List Byte) {k : Nat} (hk : k < 16) :
    (s.writeUrgent d bytes).rd F.MBX_URG_RSP.WORD [d, k] = ofLe ((bytes.drop (4 * k)).take 4) := by
  have four : ofLe ((bytes.drop (4 * k)).take 4) < 2 ^ 32 :=
    Nat.lt_of_lt_of_le (ofLe_lt _) (Nat.pow_le_pow_right (n := 256) (by decide) (List.length_take_le 4 _))
  obtain ⟨-, shown, -⟩ := each_wr_shows F.MBX_URG_RSP.WORD (fun k : Nat => [d, k]) (fun k => ofLe ((bytes.drop (4 * k)).take 4))
    (by simp) (List.range 16) hs
  exact (shown k (List.mem_range.mpr hk)).trans (Nat.mod_eq_of_lt four)

theorem writeUrgent_sound {s : State} (hs : s.Sound) (d : Nat) (bytes : List Byte) : (s.writeUrgent d bytes).Sound :=
  (Within.each (M := Foot.of [.MBX_URG_RSP] []) (.refl _ s) fun _ _ hu => hu.wr _ _ _ (by decide +kernel)).sound hs

/-- The command is no longer in progress (R345). -/
def handedBack (s : State) (t : Taken) : State :=
  { s with taken := s.taken.filter fun x => !(x.die == t.die && x.src == t.src && x.tag == t.tag) }.syncMbx t.die

theorem handedBack_within (s : State) (t : Taken) : Within (Foot.of [.MBX_STATUS] [.taken]) s (s.handedBack t) :=
  syncMbx_within (by decide +kernel) (Within.set_taken (.refl _ s) _ (by decide +kernel)) _

/-- The response of an urgent command in its registers, with MBX_URG_DONE (R351). -/
def urgentReply (s : State) (t : Taken) (status flags : Nat) (results : List Byte) : State :=
  let s := s.writeUrgent t.die (responseBytes t.opcode t.tag status flags (s.blkOf t.die) 0 results)
  ((s.wr F.MBX_URG_STATUS.BUSY [t.die] 0).flag F.MBX_URG_STATUS.DONE [t.die]).raise t.die 218 (t.tag + 2 ^ 16 * status)

/-- The response of a command of a ring, in host memory (R342). -/
def ringReply (s : State) (m : Nat) (t : Taken) (status flags : Nat) (results : List Byte) : State :=
  let q := 7936 + m
  s.on (s.isSet F.QUE_STATUS.STATE [t.die, q]) fun s =>
    let s := s.emit (.mem t.die (s.rd F.QUE_AUX.ADDR [t.die, q] + 64 * t.index)
      (responseBytes t.opcode t.tag status flags (s.blkOf t.die) t.phase results))
    { s with ringRecs := s.ringRecs ++ [RingRec.mk t.die q t.index none true s.now] }.countRecord t.die q (s.blkOf t.die)

theorem respondWith_urgent {s : State} {t : Taken} (kept : t.dropped = false) (src : t.src = .urgent) (status flags : Nat)
    (results : List Byte) : s.respondWith t status flags results = (s.handedBack t).urgentReply t status flags results := by
  obtain ⟨_, _, _, _, _, _, _, _⟩ := t
  obtain rfl := kept
  obtain rfl := src
  simp only [respondWith, urgentReply, handedBack, Bool.false_eq_true, if_false]

theorem respondWith_ring {s : State} {t : Taken} {m : Nat} (kept : t.dropped = false) (src : t.src = .ring m) (status flags : Nat)
    (results : List Byte) : s.respondWith t status flags results = (s.handedBack t).ringReply m t status flags results := by
  obtain ⟨_, _, _, _, _, _, _, _⟩ := t
  obtain rfl := kept
  obtain rfl := src
  rfl

/-- The registers and parts that a response may change beside the command's place among those in progress. -/
def replyRegs : List Reg := [.MBX_URG_RSP, .MBX_URG_STATUS] ++ Reg.ofEvents

theorem urgentReply_within (s : State) (t : Taken) (status flags : Nat) (results : List Byte) :
    Within (Foot.of replyRegs Part.ofEvents) s (s.urgentReply t status flags results) := by
  have words : Within (Foot.of replyRegs Part.ofEvents) s
      (s.writeUrgent t.die (responseBytes t.opcode t.tag status flags (s.blkOf t.die) 0 results)) :=
    Within.each (.refl _ s) fun _ _ hu => hu.wr _ _ _ (by decide +kernel)
  exact raise_within (by decide +kernel) (flag_within (by decide +kernel) (words.wr _ _ _ (by decide +kernel)) _ _ (by decide +kernel)) _ _ _

theorem ringReply_within (s : State) (m : Nat) (t : Taken) (status flags : Nat) (results : List Byte) :
    Within (Foot.of replyRegs Part.ofEvents) s (s.ringReply m t status flags results) :=
  (Within.refl _ s).on fun _ hu => countRecord_within (by decide +kernel) (Within.set_ringRecs (hu.emit _ (by decide +kernel)) _ (by decide +kernel)) _ _ _

theorem respondWith_reply_within {s : State} {t : Taken} (kept : t.dropped = false) (status flags : Nat) (results : List Byte) :
    Within (Foot.of replyRegs Part.ofEvents) (s.handedBack t) (s.respondWith t status flags results) := by
  cases src : t.src with
  | urgent => rw [respondWith_urgent kept src]; exact urgentReply_within ..
  | ring m => rw [respondWith_ring kept src]; exact ringReply_within ..

/-- What the registers of the urgent mailbox show once an urgent command has its response (R342, R351). -/
theorem urgentReply_shows {s : State} (hs : s.Sound) (t : Taken) (status flags : Nat) (results : List Byte) :
    let u := s.urgentReply t status flags results
    u.rd F.MBX_URG_STATUS.BUSY [t.die] = 0 ∧ u.rd F.MBX_URG_STATUS.DONE [t.die] = 1 ∧
      u.rd F.MBX_URG_RSP.WORD [t.die, 0] = t.opcode % 2 ^ 16 + 2 ^ 16 * (t.tag % 2 ^ 16) ∧
      u.rd F.MBX_URG_RSP.WORD [t.die, 1] % 2 ^ 16 = status % 2 ^ 16 ∧
      (∀ j : Nat, j < 12 → u.rd F.MBX_URG_RSP.WORD [t.die, 4 + j] = ofLe (((padTo 48 (results.take 47)).drop (4 * j)).take 4)) ∧
      u.pends t.die 218 = true := by
  let bytes : List Byte := responseBytes t.opcode t.tag status flags (s.blkOf t.die) 0 results
  let w : State := s.writeUrgent t.die bytes
  let v : State := (w.wr F.MBX_URG_STATUS.BUSY [t.die] 0).flag F.MBX_URG_STATUS.DONE [t.die]
  have sound : w.Sound := writeUrgent_sound hs ..
  have quiet : ∀ {f : Fld}, f.reg ∉ Reg.ofEvents → ∀ ix, (v.raise t.die 218 (t.tag + 2 ^ 16 * status)).rd f ix = v.rd f ix :=
    fun hf ix => raise_rd hf ..
  have word : ∀ k < 16, v.rd F.MBX_URG_RSP.WORD [t.die, k] = ofLe ((bytes.drop (4 * k)).take 4) := fun k hk => by
    rw [flag_rd, rd_wr_of_reg (by decide), rd_wr_of_reg (by decide)]
    exact writeUrgent_shows hs _ _ hk
  show let u := v.raise t.die 218 (t.tag + 2 ^ 16 * status); _
  intro u
  refine ⟨(quiet (by decide) _).trans ?busy, (quiet (by decide) _).trans ?done, (quiet (by decide) _).trans ?first, ?second,
    fun j hj => (quiet (by decide) _).trans ?results, raise_pends (sound.wr.flag _ _) ..⟩
  case busy => rw [flag_rd, rd_wr_of_lo (by decide), rd_wr_self sound.regs]; rfl
  case done => rw [flag_rd, rd_wr_self sound.wr.regs]; rfl
  case first => exact (word 0 (by decide)).trans (responseBytes_first ..)
  case second => exact (congrArg (· % 2 ^ 16) ((quiet (by decide) _).trans (word 1 (by decide)))).trans (responseBytes_second ..)
  case results => rw [word _ (by omega), show 4 * (4 + j) = 16 + 4 * j by omega, ← List.drop_drop, responseBytes_results]

theorem urgentReply_keeps (s : State) (t : Taken) (status flags : Nat) (results : List Byte) :
    Keeps s (s.urgentReply t status flags results) := by
  have words : Keeps s (s.writeUrgent t.die (responseBytes t.opcode t.tag status flags (s.blkOf t.die) 0 results)) :=
    (Keeps.refl s).each _ fun _ _ h => h.put (by decide) _ _
  exact ((words.put (by decide) _ _).within (flag_within (by decide +kernel) (.refl _ _) _ _ (by decide +kernel))).raise ..

theorem ringReply_keeps (s : State) (m : Nat) (t : Taken) (status flags : Nat) (results : List Byte) :
    Keeps s (s.ringReply m t status flags results) :=
  (Keeps.refl s).on _ fun u h => h.within
    (countRecord_within (by decide +kernel) (Within.set_ringRecs ((Within.refl _ u).emit _ (by decide +kernel)) _ (by decide +kernel)) _ _ _)

theorem respondWith_keeps (s : State) {t : Taken} (kept : t.dropped = false) (status flags : Nat) (results : List Byte) :
    Keeps s (s.respondWith t status flags results) := by
  have back : Keeps s (s.handedBack t) := .of_within ((s.handedBack_within t).mono (by decide +kernel))
  cases src : t.src with
  | urgent => rw [respondWith_urgent kept src]; exact back.trans (urgentReply_keeps ..)
  | ring m => rw [respondWith_ring kept src]; exact back.trans (ringReply_keeps ..)

-- The answer (R342, R346, R348) ------------------------------------------------------------------------------------------------

/-- A reply that is not a long command's leaves the response alone. -/
theorem answer_of_short {s : State} {r : Reply} (accepted : r.status ≠ 1) (deferred : r.status ≠ 2) (t : Taken) (fwd : Bool) :
    s.answer t fwd r = s.respond t r.status (2 * b2n fwd + 8 * b2n r.derated) r.results := by
  rw [answer]
  exact on_of_false (by simp [accepted, deferred]) _ _

/-- The command of a reply stands among the outstanding ones. -/
def standing (s : State) (t : Taken) (r : Reply) : State :=
  { s with outstanding := s.outstanding ++ [Outstanding.mk t.die t.src t.tag t.opcode false false (r.status == 2) r.unit r.done] }.syncMbx t.die

theorem standing_within (s : State) (t : Taken) (r : Reply) : Within (Foot.of [.MBX_STATUS] [.outstanding]) s (s.standing t r) :=
  syncMbx_within (by decide +kernel) (Within.set_outstanding (.refl _ s) _ (by decide +kernel)) _

/-- A reply of a long command leaves it outstanding beside the response (R348). -/
theorem answer_of_long {s : State} {r : Reply} (long : r.status = 1 ∨ r.status = 2) (t : Taken) (fwd : Bool) :
    s.answer t fwd r = (s.respond t r.status (2 * b2n fwd + 8 * b2n r.derated) r.results).standing t r := by
  rw [answer]
  exact on_of_true (by rcases long with h | h <;> simp [h]) _ _

/-- What an answer may change. -/
def answerRegs : List Reg := .MBX_STATUS :: replyRegs

theorem respond_reply_within (s : State) {t : Taken} (kept : t.dropped = false) (status flags : Nat) (results : List Byte) :
    Within (Foot.of answerRegs (.taken :: Part.ofEvents)) s (s.respond t status flags results) :=
  ((s.handedBack_within t).mono (by decide +kernel)).trans ((respondWith_reply_within kept ..).mono (by decide +kernel))

theorem answer_reply_within (s : State) {t : Taken} (kept : t.dropped = false) (fwd : Bool) (r : Reply) :
    Within (Foot.of answerRegs (.taken :: .outstanding :: Part.ofEvents)) s (s.answer t fwd r) :=
  ((s.respond_reply_within kept ..).mono (by decide +kernel)).on fun u hu => hu.trans ((standing_within u t r).mono (by decide +kernel))

theorem answer_keeps (s : State) {t : Taken} (kept : t.dropped = false) (fwd : Bool) (r : Reply) : Keeps s (s.answer t fwd r) :=
  (respondWith_keeps s kept ..).on _ fun u hu => hu.within ((standing_within u t r).mono (by decide +kernel))

/-- A short command leaves the outstanding ones. -/
theorem answer_outstanding_of_short (s : State) {t : Taken} (kept : t.dropped = false) (fwd : Bool) {r : Reply} (accepted : r.status ≠ 1)
    (deferred : r.status ≠ 2) : (s.answer t fwd r).outstanding = s.outstanding := by
  rw [answer_of_short accepted deferred]
  exact (s.respond_reply_within kept ..).parts .outstanding (by decide +kernel)

/-- A long command is outstanding. -/
theorem mem_answer_outstanding (s : State) (t : Taken) (fwd : Bool) {r : Reply} (long : r.status = 1 ∨ r.status = 2) :
    ⟨t.die, t.src, t.tag, t.opcode, false, false, r.status == 2, r.unit, r.done⟩ ∈ (s.answer t fwd r).outstanding := by
  rw [answer_of_long long]
  exact List.mem_append_right _ (List.mem_singleton_self _)

/-- The response alone makes a command answered. -/
theorem respond_answered {s : State} (hs : s.Sound) (h : MbxHdr) (op i p now status flags : Nat) (results : List Byte) :
    (s.respond ⟨h.die, h.src, h.tag, op, i, p, now, false⟩ status flags results).answered h op status results := by
  generalize ht : (⟨h.die, h.src, h.tag, op, i, p, now, false⟩ : Taken) = t
  have kept : t.dropped = false := by rw [← ht]
  refine ⟨fun x hx die src tag => ?gone, fun urgent => ?shown⟩
  case gone =>
    have list : (s.respond t status flags results).taken = s.taken.filter fun x => !(x.die == t.die && x.src == t.src && x.tag == t.tag) :=
      (respondWith_reply_within kept status _ results).parts .taken (by decide +kernel)
    rw [list, List.mem_filter] at hx
    simp [← ht, die, src, tag] at hx
  case shown =>
    have sound : (s.handedBack t).Sound := (s.handedBack_within t).sound hs
    have shows := urgentReply_shows sound t status (flags + b2n (s.elapsesNow t.takenAt 2500000)) results
    rw [← respondWith_urgent kept (by rw [← ht]; exact urgent)] at shows
    rw [← ht] at shows ⊢
    exact shows

/-- A standing command changes nothing of its response. -/
theorem standing_answered {s : State} {h : MbxHdr} {op status : Nat} {results : List Byte} (done : s.answered h op status results) (t : Taken)
    (r : Reply) : (s.standing t r).answered h op status results := by
  obtain ⟨gone, shown⟩ := done
  have w := standing_within s t r
  have rd : ∀ f : Fld, f.reg ∉ [Reg.MBX_STATUS] → ∀ ix, (s.standing t r).rd f ix = s.rd f ix := fun f hf ix => w.rd_of hf ix
  have taken : (s.standing t r).taken = s.taken := w.parts .taken (by decide +kernel)
  refine ⟨taken ▸ gone, fun urgent => ?_⟩
  rw [pends]
  simp only [rd F.MBX_URG_STATUS.BUSY (by decide), rd F.MBX_URG_STATUS.DONE (by decide), rd F.MBX_URG_RSP.WORD (by decide),
    rd F.EVC_PEND.PEND (by decide)]
  exact shown urgent

/-- An answer makes its command answered (R342, R351). -/
theorem answer_answered {s : State} (hs : s.Sound) (h : MbxHdr) (op i p now : Nat) (fwd : Bool) (r : Reply) :
    (s.answer ⟨h.die, h.src, h.tag, op, i, p, now, false⟩ fwd r).answered h op r.status r.results := by
  by_cases long : r.status = 1 ∨ r.status = 2
  · rw [answer_of_long long]
    exact standing_answered (respond_answered hs ..) _ r
  · obtain ⟨accepted, deferred⟩ := not_or.mp long
    rw [answer_of_short accepted deferred]
    exact respond_answered hs ..

end State
end Sys2Proof.Machine
end

section
/-!
PROOFS. A mailbox command that the engine takes now: its work, seen from the state in which it came (R344 to R348, R372).
-/

namespace Sys2Proof.Machine

-- One proof at a time: proofs elaborated side by side ask for more memory than a compile of the whole text may take.
set_option Elab.async false

/-- From `s`, in which a command's work is done, to `t`: the command is answered with `r`, and nothing changes but what an answer changes. -/
structure Replied (s t : State) (h : MbxHdr) (op : Nat) (r : Reply) : Prop where
  answered : t.answered h op r.status r.results
  frame : Frame [State.answerRegs] [.taken :: .outstanding :: Part.ofEvents] s t
  pends : ∀ d src, s.pends d src = true → t.pends d src = true
  out : s.out <+: t.out
  short : r.status ≠ 1 → r.status ≠ 2 → t.outstanding = s.outstanding
  long : r.status = 1 ∨ r.status = 2 → ⟨h.die, h.src, h.tag, op, false, false, r.status == 2, r.unit, r.done⟩ ∈ t.outstanding

/-- What no answer touches reads as before. -/
theorem Replied.rd {s t : State} {h : MbxHdr} {op : Nat} {r : Reply} (done : Replied s t h op r) {f : Fld} (hf : f.reg ∉ State.answerRegs)
    (ix : List Nat) : t.rd f ix = s.rd f ix := done.frame.rd (by simpa using hf) ix

namespace State

/-- The answer of a command that was taken. -/
theorem answer_replied {s : State} (hs : s.Sound) (h : MbxHdr) (op i p now : Nat) (fwd : Bool) (r : Reply) :
    Replied s (s.answer ⟨h.die, h.src, h.tag, op, i, p, now, false⟩ fwd r) h op r where
  answered := answer_answered hs ..
  frame := Within.frame (rs := [answerRegs]) (ps := [.taken :: .outstanding :: Part.ofEvents]) (by simpa using answer_reply_within s rfl fwd r)
  pends := (answer_keeps s rfl fwd r).pends hs
  out := (answer_reply_within s rfl fwd r).out
  short := answer_outstanding_of_short s rfl fwd
  long := mem_answer_outstanding s _ fwd

end State

/-- A command that the engine takes now does its work on the state in which it is taken, and is answered. -/
theorem completes_of_carried {c : Instr} {s : State} {h : MbxHdr} {op : Nat} {k : CmdKind} {con : Concern} {body : State → Nat → State × Reply}
    {target : Nat} {P : State → Prop} (run : exec c s = .next (s.mbx h op k con body)) (fresh : s.takesFresh h)
    (concern : (s.take h op).1.concernDie h con = .ok target) (service : k.conf = false ∨ s.mode ≠ .service)
    (vigil : k.inVigil = true ∨ s.mode ≠ .vigil) (v : State) (r : Reply) (works : body (s.take h op).1 target = (v, r))
    (room : r.status ≠ 1 ∧ r.status ≠ 2 ∨ s.hasRoom h.die) (sound : v.Sound) (shows : ∀ t, Replied v t h op r → P t) :
    Completes c s P := by
  obtain ⟨i, p, record⟩ := s.take_record h op
  have carried : (s.take h op).1.carryOut h.die true k target body = (v, r) := by
    rw [State.carryOut_of_allowed (by simpa using service) (by simpa using vigil) (by simpa [works, State.hasRoom] using room), works]
  refine completes_of_eq run ?_ (shows _ (State.answer_replied sound h op i p s.now (target != h.die) r))
  rw [State.mbx_of_takesFresh fresh, State.mbxCarry, concern]
  show ((s.take h op).1.carryOut h.die true k target body).1.answer (s.take h op).2 (target != h.die)
    ((s.take h op).1.carryOut h.die true k target body).2 = _
  rw [carried, record]

/-- A command whose parameters lie in their ranges does its work. -/
theorem onRange_of_true {ok : Bool} (h : ok = true) (f : State → Nat → State × Reply) (s : State) (d : Nat) : onRange ok f s d = f s d := if_pos h

theorem onRange_of_false {ok : Bool} (h : ok = false) (f : State → Nat → State × Reply) (s : State) (d : Nat) :
    onRange ok f s d = (s, .code 0x0100) := if_neg (by simp [h])

/-- OK is no status of a long command. -/
theorem ok_short : (0 : Nat) ≠ 1 ∧ (0 : Nat) ≠ 2 := by decide

/-- A command that only asks is answered from the state in which it is taken. -/
theorem completes_of_asked {c : Instr} {s : State} {h : MbxHdr} {op : Nat} {k : CmdKind} {con : Concern} {body : State → Nat → State × Reply}
    {target : Nat} (hs : s.Sound) (run : exec c s = .next (s.mbx h op k con body)) (fresh : s.takesFresh h)
    (concern : (s.take h op).1.concernDie h con = .ok target) (service : k.conf = false ∨ s.mode ≠ .service)
    (vigil : k.inVigil = true ∨ s.mode ≠ .vigil) {r : Reply} (works : body (s.take h op).1 target = ((s.take h op).1, r))
    (short : r.status ≠ 1 ∧ r.status ≠ 2) : Completes c s fun t => t.answered h op r.status r.results :=
  completes_of_carried run fresh concern service vigil _ r works (.inl short) (State.take_sound hs h op) fun _ done => done.answered

namespace State

/-- In the modes in which every kind of command is carried out no kind is refused (R347, R372). -/
theorem takesNow_modes {s : State} {h : MbxHdr} (now : s.takesNow h) : s.mode ≠ .service ∧ s.mode ≠ .vigil := by
  obtain ⟨-, mode⟩ := now
  rcases mode with ready | acquires
  · simp [ready]
  · constructor <;> intro e <;> rw [e] at acquires <;> exact Bool.false_ne_true acquires

/-- A register whose fields read as before has its image as before. -/
theorem image_congr {s t : State} {r : Reg} {ix : List Nat} (own : ∀ i ∈ r.fields, i.fld.reg = r)
    (same : ∀ f : Fld, f.reg = r → t.rd f ix = s.rd f ix) : t.image r ix = s.image r ix :=
  congrArg List.sum (List.map_congr_left fun i hi => by rw [same i.fld (own i hi)])

-- What taking a command leaves of what queries show -----------------------------------------------------------------------------

theorem take_image {r : Reg} (own : ∀ i ∈ r.fields, i.fld.reg = r) (hr : r ∉ takeRegs) (s : State) (h : MbxHdr) (op : Nat) (ix : List Nat) :
    (s.take h op).1.image r ix = s.image r ix := image_congr own fun _ e => take_rd (e ▸ hr) ..

theorem take_versionBytes (s : State) (h : MbxHdr) (op d : Nat) : (s.take h op).1.versionBytes d = s.versionBytes d := by
  simp (disch := decide) only [versionBytes, take_rd, take_control]

theorem take_refStatus (s : State) (h : MbxHdr) (op : Nat) : (s.take h op).1.refStatus = s.refStatus := by
  simp (disch := decide) only [refStatus, regBytes, take_image]

theorem take_blk (s : State) (h : MbxHdr) (op : Nat) : (s.take h op).1.blk = s.blk := congrArg (· / 128 * 128) (s.take_dt h op)

/-- MODE_GET shows the mode, the channels that are available, and the retired dies (R353). -/
theorem take_modeBytes (s : State) (h : MbxHdr) (op : Nat) : (s.take h op).1.modeBytes = le 1 s.mode.code ++
    le 1 (s.rd F.CNV_STATUS.AVAILABLE [0, 0] + 2 * s.rd F.CNV_STATUS.AVAILABLE [0, 1] + 4 * s.rd F.CNV_STATUS.AVAILABLE [1, 0] +
      8 * s.rd F.CNV_STATUS.AVAILABLE [1, 1]) ++ le 1 (b2n (s.dieRetired 0) + 2 * b2n (s.dieRetired 1)) := by
  have channels : (List.range 4).map (fun g => 2 ^ g * s.rd F.CNV_STATUS.AVAILABLE [g / 2, g % 2]) =
      [1 * s.rd F.CNV_STATUS.AVAILABLE [0, 0], 2 * s.rd F.CNV_STATUS.AVAILABLE [0, 1], 4 * s.rd F.CNV_STATUS.AVAILABLE [1, 0],
        8 * s.rd F.CNV_STATUS.AVAILABLE [1, 1]] := rfl
  simp (disch := decide) only [modeBytes, take_rd, take_mode, take_dieRetired, channels, List.sum_cons, List.sum_nil]
  congr 3
  omega

end State

end Sys2Proof.Machine
end

section
/-!
PROOFS. The mailbox commands of the system group that ask, and RING_RESET (R348, R353, R362, R365).
-/

namespace Sys2Proof.Machine

-- One proof at a time: proofs elaborated side by side ask for more memory than a compile of the whole text may take.
set_option Elab.async false

/-- NOP, VERSION, MODE_GET, DT_GET and REF_STATUS answer what they name (R353, R354). -/
theorem queries_answer {h : MbxHdr} {s : State} (hs : s.Sound) (fresh : s.takesFresh h) :
    Completes (.nop h) s (fun t => t.answered h 0x0000 0 []) ∧
    Completes (.version h) s (fun t => t.answered h 0x0001 0 (s.versionBytes h.die)) ∧
    Completes (.modeGet h) s (fun t => t.answered h 0x0003 0 (le 1 s.mode.code ++
      le 1 (s.rd F.CNV_STATUS.AVAILABLE [0, 0] + 2 * s.rd F.CNV_STATUS.AVAILABLE [0, 1] + 4 * s.rd F.CNV_STATUS.AVAILABLE [1, 0] +
        8 * s.rd F.CNV_STATUS.AVAILABLE [1, 1]) ++ le 1 (b2n (s.dieRetired 0) + 2 * b2n (s.dieRetired 1)))) ∧
    Completes (.dtGet h) s (fun t => t.answered h 0x0100 0 (le 8 (s.dt / 128 * 128))) ∧
    Completes (.refStatus h) s fun t => t.answered h 0x0103 0 s.refStatus := by
  have byField := fun op => State.concernDie_byField fresh op
  have package := fun op => s.concernDie_package h op
  refine ⟨completes_of_asked hs rfl fresh (byField _) (.inl rfl) (.inl rfl) (r := .code 0) rfl ok_short,
    completes_of_asked hs rfl fresh (byField _) (.inl rfl) (.inl rfl) (r := .ok (s.versionBytes h.die)) ?version ok_short,
    completes_of_asked hs rfl fresh (package _) (.inl rfl) (.inl rfl) (r := .ok _) ?modeGet ok_short,
    completes_of_asked hs rfl fresh (package _) (.inl rfl) (.inl rfl) (r := .ok (le 8 s.blk)) ?dtGet ok_short,
    completes_of_asked hs rfl fresh (package _) (.inl rfl) (.inl rfl) (r := .ok s.refStatus) ?refStatus ok_short⟩
  case version => rw [State.take_versionBytes]; rfl
  case modeGet => rw [State.take_modeBytes]; rfl
  case dtGet => rw [State.take_blk]; rfl
  case refStatus => rw [State.take_refStatus]; rfl

-- LONG_RESULT (R348) ----------------------------------------------------------------------------------------------------------------

namespace State

theorem longResult_of_outstanding {s : State} {d tag : Nat} (out : (s.outstanding.filter fun o => o.die == d && o.tag == tag) ≠ []) :
    s.longResult d tag = (s, .ok (le 4 0)) := by
  have any : (s.outstanding.any fun o => o.die == d && o.tag == tag) = true := by
    obtain ⟨o, ho⟩ := List.exists_mem_of_ne_nil _ out
    obtain ⟨mem, hit⟩ := List.mem_filter.mp ho
    exact List.any_eq_true.mpr ⟨o, mem, hit⟩
  rw [longResult, any]
  rfl

/-- A tag that is not outstanding answers from what is kept. -/
theorem longResult_of_finished {s : State} {d tag : Nat} (out : (s.outstanding.filter fun o => o.die == d && o.tag == tag) = []) :
    (∀ k : Kept, (s.kept.filter fun k => k.die == d && k.tag == tag).getLast? = some k →
      s.longResult d tag = (s, .ok (le 2 1 ++ le 2 k.status ++ le 4 0 ++ k.results))) ∧
    ((s.kept.filter fun k => k.die == d && k.tag == tag).getLast? = none → s.longResult d tag = (s, .code 0x0102)) := by
  have any : (s.outstanding.any fun o => o.die == d && o.tag == tag) = false :=
    List.any_eq_false.mpr fun o ho => List.filter_eq_nil_iff.mp out o ho
  refine ⟨fun k kept => ?_, fun kept => ?_⟩
  all_goals
    rw [longResult, any, kept]
    rfl

end State

theorem longResult_answers {h : MbxHdr} {tag : Nat} {s : State} (hs : s.Sound) (fresh : s.takesFresh h) :
    let out := s.outstanding.filter fun o => o.die == h.die && o.tag == tag
    let kept := (s.kept.filter fun k => k.die == h.die && k.tag == tag).getLast?
    (out ≠ [] → Completes (.longResult h tag) s fun t => t.answered h 0x0004 0 (le 4 0)) ∧
    (∀ k : Kept, out = [] → kept = some k → Completes (.longResult h tag) s fun t =>
      t.answered h 0x0004 0 (le 2 1 ++ le 2 k.status ++ le 4 0 ++ k.results)) ∧
    (out = [] → kept = none → Completes (.longResult h tag) s fun t => t.answered h 0x0004 0x0102 []) := by
  intro out kept
  have outTaken : ((s.take h 0x0004).1.outstanding.filter fun o => o.die == h.die && o.tag == tag) = out := by rw [State.take_outstanding]
  have keptTaken : ((s.take h 0x0004).1.kept.filter fun k => k.die == h.die && k.tag == tag).getLast? = kept := by
    rw [show (s.take h 0x0004).1.kept = s.kept from (s.take_frame h 0x0004).parts .kept (by decide)]
  have asked : ∀ {r : Reply}, (s.take h 0x0004).1.longResult h.die tag = ((s.take h 0x0004).1, r) → r.status ≠ 1 ∧ r.status ≠ 2 →
      Completes (.longResult h tag) s fun t => t.answered h 0x0004 r.status r.results :=
    fun works short => completes_of_asked hs rfl fresh (State.concernDie_byField fresh _) (.inl rfl) (.inl rfl) works short
  refine ⟨fun standing => asked (r := .ok _) (State.longResult_of_outstanding (outTaken ▸ standing)) (by decide),
    fun k gone found => asked (r := .ok _) ((State.longResult_of_finished (outTaken.trans gone)).1 k (keptTaken.trans found)) ok_short,
    fun gone lost => asked (r := .code 0x0102) ((State.longResult_of_finished (outTaken.trans gone)).2 (keptTaken.trans lost)) (by decide)⟩

-- VLOG_READ (R362) ------------------------------------------------------------------------------------------------------------------

/-- A byte with zeros behind it. -/
theorem le_one_append_zeros (v n : Nat) : le 1 v ++ le n 0 = le (n + 1) (v % 256) := by
  have byte : BitVec.ofNat 8 v = BitVec.ofNat 8 (v % 256) := BitVec.eq_of_toNat_eq (by simp)
  have rest : v % 256 / 256 = 0 := by omega
  rw [show le (n + 1) (v % 256) = BitVec.ofNat 8 (v % 256) :: le n (v % 256 / 256) from rfl, rest, ← byte]
  rfl

theorem vlogRead_answers {h : MbxHdr} {first count addr : Nat} {s : State} (hs : s.Sound) (fresh : s.takesFresh h) :
    (1 ≤ count → count ≤ 256 → Completes (.vlogRead h first count addr) s fun t =>
      t.answered h 0x0007 0 (le 4 (s.rd F.MBX_VLOG_NEXT.NEXT [h.die] % 256) ++ le 4 (s.rd F.MBX_VLOG_TOTAL.COUNT [h.die])) ∧
      Output.mem h.die addr ((List.range count).flatMap fun i => (List.range 4).flatMap fun w =>
        le 4 (s.rd F.MBX_VLOG.WORD [h.die, (first + i) % 256, w])) ∈ t.out) ∧
    (count = 0 ∨ 256 < count → Completes (.vlogRead h first count addr) s fun t => t.answered h 0x0007 0x0100 []) := by
  have concern := State.concernDie_byField fresh 0x0007
  refine ⟨fun low high => ?reads, fun range => ?refused⟩
  case refused =>
    have out : (decide (1 ≤ count) && decide (count ≤ 256)) = false := by simp; omega
    exact completes_of_asked hs rfl fresh concern (.inl rfl) (.inl rfl) (r := .code 0x0100) (onRange_of_false out ..) (by decide)
  case reads =>
    have ok : (decide (1 ≤ count) && decide (count ≤ 256)) = true := by simp; omega
    have rd : ∀ {f : Fld}, f.reg ∉ State.takeRegs → ∀ ix, (s.take h 0x0007).1.rd f ix = s.rd f ix := fun hf ix => State.take_rd hf ..
    refine completes_of_carried rfl fresh concern (.inl rfl) (.inl rfl) _ _
      (onRange_of_true (by simp [low, high]) ..) (.inl ok_short) ?sound fun t done => ⟨?answered, done.out.subset ?log⟩
    case sound => exact (State.emit_within (M := 2 ^ 700 - 1) (by decide +kernel) (.refl _ _) _).sound (State.take_sound hs h _)
    case answered =>
      have bytes := congrArg (· ++ le 4 (s.rd F.MBX_VLOG_TOTAL.COUNT [h.die])) (le_one_append_zeros (s.rd F.MBX_VLOG_NEXT.NEXT [h.die]) 3)
      have answered := done.answered
      simp only [rd (f := F.MBX_VLOG_NEXT.NEXT) (by decide), rd (f := F.MBX_VLOG_TOTAL.COUNT) (by decide)] at answered
      exact bytes ▸ answered
    case log =>
      simp only [wordBytes, List.flatMap_map, rd (f := F.MBX_VLOG.WORD) (by decide)]
      exact List.mem_append_right _ (List.mem_singleton_self _)

-- RING_RESET (R365) -----------------------------------------------------------------------------------------------------------------

theorem queueKind_eq_five (q : Nat) : queueKind q = 5 ↔ 7936 ≤ q ∧ q < 8064 := by
  unfold queueKind
  split_ifs <;> simp <;> omega

namespace State

/-- A queue that is dropped is not enabled. -/
theorem queDrop_enable {s : State} (hs : s.Sound) (d q : Nat) : (s.queDrop d q).rd F.QUE_CFG.ENABLE [d, q] = 0 := by
  have w : Within (Foot.without [.QUE_CFG] []) (s.wr F.QUE_CFG.ENABLE [d, q] 0) (s.queDrop d q) := by
    unfold queDrop
    refine dropWaiting_within (by decide +kernel) (Within.each (Within.set_ringTaken ?_ _ _ (by decide +kernel) (by decide +kernel)) fun u r hu => ?_) d q
    · exact (((((Within.refl _ _).wr _ _ _ (by decide +kernel)).wr _ _ _ (by decide +kernel)).wr _ _ _ (by decide +kernel)).wr _ _ _
        (by decide +kernel)).wr _ _ _ (by decide +kernel)
    · split
      · exact hu.wr _ _ _ (by decide +kernel)
      · exact hu
  exact (w.rd _ _ (by decide +kernel)).trans (rd_wr_self hs.regs ..)

/-- The violations of a mailbox ring are forgotten (R365). -/
def ringForgiven (s : State) (d q : Nat) : State :=
  ({ s with violations := s.violations.filter fun v => !(v.die == d && v.ring == q) }.wr F.MBX_RING_STAT.RECENT [d, q - 7936] 0).wr
    F.MBX_RING_STAT.TOTAL [d, q - 7936] 0

theorem ringForgiven_shows {s : State} (hs : s.Sound) (d q : Nat) : (s.ringForgiven d q).Sound ∧
    (s.ringForgiven d q).rd F.MBX_RING_STAT.RECENT [d, q - 7936] = 0 ∧ (s.ringForgiven d q).rd F.MBX_RING_STAT.TOTAL [d, q - 7936] = 0 := by
  have forgotten : State.Sound { s with violations := s.violations.filter fun v => !(v.die == d && v.ring == q) } :=
    ⟨hs.regs, hs.mem, hs.acq, hs.tims, hs.acc, hs.layers, hs.flash⟩
  exact ⟨forgotten.wr.wr, (rd_wr_of_lo (by decide) ..).trans (rd_wr_self forgotten.regs ..), rd_wr_self forgotten.wr.regs ..⟩

/-- A quarantined ring of another source is dropped, with an event (R365). -/
theorem ringReset_of_quarantined {s : State} {h : MbxHdr} {q d : Nat} (ring : queueKind q = 5) (quarantined : s.rd F.QUE_STATUS.STATE [d, q] = 3)
    (src : h.src ≠ .ring (q - 7936)) : s.ringReset h q d = (((s.ringForgiven d q).queDrop d q).raise d 203 q, .code 0) := by
  have still : ((s.ringForgiven d q).rd F.QUE_STATUS.STATE [d, q] == 3) = true := by
    rw [ringForgiven, rd_wr_of_reg (by decide), rd_wr_of_reg (by decide)]
    exact beq_iff_eq.mpr quarantined
  rw [ringReset, if_neg (by simp [ring]), if_neg (by simp [src])]
  exact congrArg (·, Reply.code 0) (on_of_true still _ _)

end State

theorem ringReset_answers {h : MbxHdr} {q : Nat} {s : State} (hs : s.Sound) (fresh : s.takesFresh h) :
    (q < 7936 ∨ 8064 ≤ q → Completes (.ringReset h q) s fun t => t.answered h 0x0006 0x0100 []) ∧
    (7936 ≤ q → q < 8064 → s.rd F.QUE_STATUS.STATE [h.die, q] = 3 → h.src ≠ .ring (q - 7936) → Completes (.ringReset h q) s fun t =>
      t.answered h 0x0006 0 [] ∧ t.rd F.QUE_CFG.ENABLE [h.die, q] = 0 ∧ t.rd F.MBX_RING_STAT.RECENT [h.die, q - 7936] = 0 ∧
      t.rd F.MBX_RING_STAT.TOTAL [h.die, q - 7936] = 0 ∧ ∀ v ∈ t.violations, v.die = h.die → v.ring ≠ q) := by
  have concern := State.concernDie_byField fresh 0x0006
  refine ⟨fun range => ?other, fun low high quarantined src => ?quarantined⟩
  case other =>
    have kind : queueKind q ≠ 5 := fun e => by have := (queueKind_eq_five q).mp e; omega
    exact completes_of_asked hs rfl fresh concern (.inl rfl) (.inl rfl) (r := .code 0x0100) (if_pos kind) (by decide)
  case quarantined =>
    generalize hu : (s.take h 0x0006).1 = u at concern
    have sound : u.Sound := hu ▸ State.take_sound hs h _
    have works := State.ringReset_of_quarantined (s := u) (h := h) ((queueKind_eq_five q).mpr ⟨low, high⟩)
      (hu ▸ (State.take_queState ..).trans quarantined) src
    obtain ⟨forgiven, noRecent, noTotal⟩ := State.ringForgiven_shows sound h.die q
    have dropped : Within (Foot.without [.MBX_RING_STAT] [.violations]) (u.ringForgiven h.die q)
        (((u.ringForgiven h.die q).queDrop h.die q).raise h.die 203 q) :=
      State.raise_within (by decide +kernel) (State.queDrop_within (by decide +kernel) (.refl _ _) _ _) _ _ _
    refine completes_of_carried rfl fresh (hu ▸ concern) (.inl rfl) (.inl rfl)
      (((u.ringForgiven h.die q).queDrop h.die q).raise h.die 203 q) (.code 0) (hu ▸ works) (.inl ok_short) (dropped.sound forgiven)
      fun t done => ⟨done.answered, ?enable, ?recent, ?total, ?violations⟩
    case enable => exact (done.rd (by decide) _).trans ((State.raise_rd (by decide) ..).trans (State.queDrop_enable forgiven ..))
    case recent => exact (done.rd (by decide) _).trans ((dropped.rd _ _ (by decide +kernel)).trans noRecent)
    case total => exact (done.rd (by decide) _).trans ((dropped.rd _ _ (by decide +kernel)).trans noTotal)
    case violations =>
      intro v hv die ring
      have list := (done.frame.parts .violations (by decide)).trans (dropped.parts .violations (by decide +kernel))
      rw [list] at hv
      have := (List.mem_filter.mp hv).2
      simp [die, ring] at this

end Sys2Proof.Machine
end

section
/-!
PROOFS. Mailbox commands that are carried out as their core cycle ends (R38, R41, R350), and MODE_SET (R353, R370, R374).
-/

namespace Sys2Proof.Machine

-- One proof at a time: proofs elaborated side by side ask for more memory than a compile of the whole text may take.
set_option Elab.async false

namespace State

/-- What is taken does not tell whether it is carried out at once. -/
theorem take_takeOnly (s : State) (h : MbxHdr) (op : Nat) : s.take { h with takeOnly := true } op = s.take h op := by
  obtain ⟨die, src, tag, dieField, takeOnly⟩ := h
  cases src <;> rfl

/-- The command that is taken stands among those in progress. -/
theorem takenOf_take {s : State} {h : MbxHdr} (fresh : s.takesFresh h) (op : Nat) : (s.take h op).1.takenOf h op = some (s.take h op).2 := by
  obtain ⟨-, free, -, -⟩ := fresh
  obtain ⟨i, p, record⟩ := s.take_record h op
  have before : s.taken.find? (fun t => t.die == h.die && t.src == h.src && t.tag == h.tag && t.opcode == op) = none := takenOf_of_free free op
  rw [takenOf, take_taken, List.find?_append, before, record]
  simp

/-- A command that is only taken waits among those in progress. -/
theorem mbx_of_takeOnly {s : State} {h : MbxHdr} (can : s.canTake h = true) (free : s.tagOutstanding h.die h.tag = false)
    (unnamed : h.dieField = 0) (only : h.takeOnly = true) (op : Nat) (k : CmdKind) (con : Concern) (body : State → Nat → State × Reply) :
    s.mbx h op k con body = (s.take h op).1 := by
  simp [mbx, unnamed, convertedOf_of_free free, takenOf_of_free free, can, free, only]

/-- A command whose cycle is open is taken, and waits for the end of its cycle. -/
theorem mbxAtEnd_of_open {s : State} {h : MbxHdr} (fresh : s.takesFresh h) (opens : s.closing = false) (op : Nat) (c : Instr) (k : CmdKind)
    (con : Concern) (body : State → Nat → State × Reply) : s.mbxAtEnd h op c k con body = (s.take h op).1.book c := by
  have taken := takenOf_take fresh op
  obtain ⟨can, free, whole, unnamed⟩ := fresh
  have begun : (s.on (s.convertedOf h op).isNone fun s => s.mbx { h with takeOnly := true } op k con body) = (s.take h op).1 := by
    rw [convertedOf_of_free free op, ← take_takeOnly]
    exact mbx_of_takeOnly (h := { h with takeOnly := true }) can free unnamed rfl ..
  simp only [mbxAtEnd, opens, Bool.false_eq_true, if_false, begun]
  exact on_of_true (by simp [taken, whole]) _ _

theorem mbxAtEnd_of_closing {s : State} (closes : s.closing = true) (h : MbxHdr) (op : Nat) (c : Instr) (k : CmdKind)
    (con : Concern) (body : State → Nat → State × Reply) : s.mbxAtEnd h op c k con body = s.mbx h op k con body := if_pos closes

/-- As its cycle ends a command does the same whether it was taken before or is taken there (R350). -/
theorem mbxAtEnd_take {s : State} {h : MbxHdr} (fresh : s.takesFresh h) (closes : s.closing = true) (op : Nat) (c : Instr) (k : CmdKind)
    (con : Concern) (body : State → Nat → State × Reply) : (s.take h op).1.mbxAtEnd h op c k con body = s.mbxAtEnd h op c k con body := by
  rw [mbxAtEnd_of_closing ((s.take_closing h op).trans closes), mbxAtEnd_of_closing closes, mbx_of_takesFresh fresh]
  have taken := takenOf_take fresh op
  obtain ⟨-, free, whole, unnamed⟩ := fresh
  have converted : (s.take h op).1.convertedOf h op = none := by
    rw [convertedOf, take_outstanding]; exact convertedOf_of_free free op
  simp [mbx, converted, taken, whole, unnamed]

end State

/-- What each late command runs. -/
theorem lateCommand_runs {c : Instr} {h : MbxHdr} {op : Nat} (late : lateCommand c = some (h, op)) :
    ∃ k con body, ∀ s, exec c s = .next (s.mbxAtEnd h op c k con body) := by
  unfold lateCommand at late
  split at late <;> cases late
  all_goals exact ⟨_, _, _, fun _ => rfl⟩

/-- A late command is taken at once, and as its cycle ends it does its work on the state in which it is taken, and is answered. -/
theorem commandAtEnd_of_carried {c : Instr} {s : State} {h : MbxHdr} {op : Nat} {k : CmdKind} {con : Concern} {body : State → Nat → State × Reply}
    {target : Nat} {P : State → Prop} (run : exec c s = .next (s.mbxAtEnd h op c k con body)) (fresh : s.takesFresh h)
    (concern : (s.take h op).1.concernDie h con = .ok target) (service : k.conf = false ∨ s.mode ≠ .service)
    (vigil : k.inVigil = true ∨ s.mode ≠ .vigil) (v : State) (r : Reply) (works : body (s.take h op).1 target = (v, r))
    (room : r.status ≠ 1 ∧ r.status ≠ 2 ∨ s.hasRoom h.die) (sound : v.Sound) (shows : ∀ t, Replied v t h op r → P t) :
    CommandAtEnd c h op s P :=
  ⟨fun opens => completes_of_eq run (State.mbxAtEnd_of_open fresh opens ..) rfl,
    fun closes => completes_of_carried (run.trans (congrArg _ (State.mbxAtEnd_of_closing closes ..))) fresh concern service vigil v r works room
      sound shows⟩

-- MODE_SET (R353, R370) ---------------------------------------------------------------------------------------------------------------

namespace State

/-- No check of a mode command answers with a status of a long command. -/
theorem modeCheck_short (s : State) (m : Mode) : s.modeCheck m ≠ 1 ∧ s.modeCheck m ≠ 2 := by
  unfold modeCheck
  repeat' split
  all_goals decide

theorem not_inTransition_of_modeCheck {s : State} {m : Mode} (ok : s.modeCheck m = 0) : s.inTransition = false := by
  by_contra under
  unfold modeCheck at ok
  rw [if_pos (by simpa using under)] at ok
  exact absurd ok (by decide)

theorem take_armed (s : State) (h : MbxHdr) (op d : Nat) : (s.take h op).1.armed d = s.armed d := funext fun _ => take_isSet (by decide) ..

theorem take_dieArmed (s : State) (h : MbxHdr) (op d : Nat) : (s.take h op).1.dieArmed d = s.dieArmed d := by
  rw [dieArmed, take_armed, dieArmed]

theorem take_modeCheck (s : State) (h : MbxHdr) (op : Nat) (m : Mode) : (s.take h op).1.modeCheck m = s.modeCheck m := by
  have transition : (s.take h op).1.inTransition = s.inTransition := by
    simp (disch := decide) only [inTransition, take_control, take_isSet]
  have comb : (s.take h op).1.combAnywhere = s.combAnywhere := by simp (disch := decide) only [combAnywhere, combState, take_rd]
  have armed : (s.take h op).1.anyArmed = s.anyArmed := by simp only [anyArmed, take_dieArmed]
  have flash : (s.take h op).1.flashBusy = s.flashBusy := by simp (disch := decide) only [flashBusy, take_isSet]
  unfold modeCheck
  rw [take_mode, transition, comb, armed, flash]

theorem take_modePower (s : State) (h : MbxHdr) (op : Nat) (m : Mode) : (s.take h op).1.modePower m = s.modePower m := by
  simp (disch := decide) only [modePower, modeCost, cost, take_mode, take_rd]

theorem take_fits (s : State) (h : MbxHdr) (op : Nat) (dies : List Nat) (dp : Int) (e : Nat) :
    (s.take h op).1.fits dies dp e = s.fits dies dp e := by
  have mw : (s.take h op).1.shareMw dies = s.shareMw dies := by simp (disch := decide) only [shareMw, take_rd]
  have mj : (s.take h op).1.shareMj dies = s.shareMj dies := by simp (disch := decide) only [shareMj, take_rd]
  rw [fits, mw, mj, fits]

theorem requestMode_of_refused {s : State} {m : Mode} (check : s.modeCheck m ≠ 0) (cmd : Option (MbxHdr × Nat)) :
    s.requestMode m cmd = (s, ⟨s.modeCheck m, false⟩) := if_pos check

theorem requestMode_of_vigil {s : State} {m : Mode} (check : s.modeCheck m = 0) (vigil : s.mode = .vigil) (cmd : Option (MbxHdr × Nat)) :
    s.requestMode m cmd = (s.wakeBegin 4 0 0, ⟨0, false⟩) := by
  rw [requestMode, if_neg (not_not.mpr check), if_pos vigil, wake_of_vigil vigil (not_inTransition_of_modeCheck check)]
  rfl

theorem requestMode_of_fits {s : State} {m : Mode} (check : s.modeCheck m = 0) (awake : s.mode ≠ .vigil)
    (cool : s.rd F.PWR_STATUS.THERMAL [s.control] = 0) (fits : s.fits [0, 1] (s.modePower m) 0 = true) (cmd : Option (MbxHdr × Nat)) :
    s.requestMode m cmd = ((s.charge [0, 1] (s.modePower m) 0).startMode m.code 0, ⟨0, false⟩) := by
  have granted : s.harvest s.control [0, 1] (fun s => s.modePower m) 0 (.mode m) false cmd = (s.charge [0, 1] (s.modePower m) 0, .granted) := by
    have hot : s.isSet F.PWR_STATUS.THERMAL [s.control] = false := by simp [isSet, cool]
    rw [harvest, hot, if_neg Bool.false_ne_true, if_pos fits]
  rw [requestMode, if_neg (not_not.mpr check), if_neg awake, granted]

/-- The modes that MODE_SET names. -/
theorem mbxMode_of_named {mode : Nat} {m : Mode} (named : (mode, m) ∈ [(0, Mode.ready), (1, Mode.quad), (2, Mode.paired), (3, Mode.vigil)])
    (s : State) (h : MbxHdr) :
    s.mbxMode h mode = ((s.requestMode m (some (h, 0x0002))).1, verdictLong (s.requestMode m (some (h, 0x0002))).2 m.code) := by
  simp only [List.mem_cons, Prod.mk.injEq, List.not_mem_nil, or_false] at named
  obtain ⟨rfl, rfl⟩ | ⟨rfl, rfl⟩ | ⟨rfl, rfl⟩ | ⟨rfl, rfl⟩ := named
  all_goals rfl

theorem mbxMode_of_other {mode : Nat} (other : 3 < mode) (s : State) (h : MbxHdr) : s.mbxMode h mode = (s, .code 0x0100) := by
  obtain ⟨n, rfl⟩ : ∃ n, mode = n + 4 := ⟨mode - 4, by omega⟩
  rfl

end State

theorem modeSet_answers {h : MbxHdr} {mode : Nat} {m : Mode} {s : State} (hs : s.Sound) (fresh : s.takesFresh h) (unlocked : s.mode ≠ .service) :
    (3 < mode → CommandAtEnd (.modeSet h mode) h 0x0002 s fun t => t.answered h 0x0002 0x0100 []) ∧
    ((mode, m) ∈ [(0, Mode.ready), (1, Mode.quad), (2, Mode.paired), (3, Mode.vigil)] →
      (s.modeCheck m ≠ 0 → CommandAtEnd (.modeSet h mode) h 0x0002 s fun t => t.answered h 0x0002 (s.modeCheck m) [] ∧
        ∀ k : RegKey, k.reg = .PWR_MODE → t.regs.get k = s.regs.get k) ∧
      (s.modeCheck m = 0 → s.hasRoom h.die →
        (s.mode ≠ .vigil → s.rd F.PWR_STATUS.THERMAL [s.control] = 0 → s.fits [0, 1] (s.modePower m) 0 = true →
          CommandAtEnd (.modeSet h mode) h 0x0002 s fun t => t.answered h 0x0002 1 [] ∧
            (∀ d : Nat, d < 2 → t.rd F.PWR_MODE.TRANSITION [d] = 1 ∧ t.rd F.PWR_MODE.TARGET [d] = m.code) ∧
            ⟨h.die, h.src, h.tag, 0x0002, false, false, false, m.code, none⟩ ∈ t.outstanding) ∧
        (s.mode = .vigil → CommandAtEnd (.modeSet h mode) h 0x0002 s fun t => t.answered h 0x0002 1 [] ∧
          ∀ d : Nat, d < 2 → t.rd F.PWR_MODE.TRANSITION [d] = 1 ∧ t.rd F.PWR_MODE.TARGET [d] = 3))) := by
  have carried := fun P v r => commandAtEnd_of_carried (c := .modeSet h mode) (P := P) (v := v) (r := r) rfl fresh
    (s.concernDie_package h 0x0002) (.inr unlocked) (.inl rfl)
  have sound := State.take_sound hs h 0x0002
  have check : (s.take h 0x0002).1.modeCheck m = s.modeCheck m := State.take_modeCheck ..
  have power : (s.take h 0x0002).1.modePower m = s.modePower m := State.take_modePower ..
  have named := fun list => State.mbxMode_of_named (mode := mode) (m := m) list (s.take h 0x0002).1 h
  refine ⟨fun other => ?other, fun list => ⟨fun refused => ?refused, fun ok room => ⟨fun awake cool fits => ?fits, fun vigil => ?vigil⟩⟩⟩
  case other =>
    exact carried _ _ (.code 0x0100) (State.mbxMode_of_other other ..) (.inl (by decide)) sound fun _ done => done.answered
  case refused =>
    obtain ⟨accepted, deferred⟩ := s.modeCheck_short m
    have verdict : State.verdictLong ⟨s.modeCheck m, false⟩ m.code = .code (s.modeCheck m) := by
      rw [State.verdictLong, if_neg refused, if_neg deferred]
    refine carried _ _ (.code (s.modeCheck m)) ?_ (.inl ⟨accepted, deferred⟩) sound fun t done => ⟨done.answered, fun k hk => ?_⟩
    · rw [named list, State.requestMode_of_refused (by rwa [check]), check, verdict]
    · exact (done.frame.regs k (by rw [hk]; decide)).trans ((s.take_frame h _).regs k (by rw [hk]; decide))
  case fits =>
    have begun := State.requestMode_of_fits (s := (s.take h 0x0002).1) (check.trans ok) (by rwa [State.take_mode])
      (by rwa [State.take_control, State.take_rd (by decide)]) (by rwa [power, State.take_fits]) (some (h, 0x0002))
    have charged : ((s.take h 0x0002).1.charge [0, 1] ((s.take h 0x0002).1.modePower m) 0).Sound :=
      (State.charge_within (M := 2 ^ 700 - 1) (by decide +kernel) (.refl _ _) ..).sound sound
    have code : m.code < 8 := by cases m <;> decide
    refine carried _ (((s.take h 0x0002).1.charge [0, 1] ((s.take h 0x0002).1.modePower m) 0).startMode m.code 0)
      (.accepted m.code false) ?_ (.inr room)
      ((State.startMode_within (M := 2 ^ 700 - 1) (by decide +kernel) (.refl _ _) ..).sound charged)
      fun t done => ⟨done.answered, fun d hd => ?_, done.long (.inl rfl)⟩
    · rw [named list, begun]; rfl
    · rw [done.rd (by decide), done.rd (by decide)]
      exact State.startMode_shows charged code 0 hd
  case vigil =>
    have begun := State.requestMode_of_vigil (s := (s.take h 0x0002).1) (check.trans ok) ((s.take_mode h _).trans vigil) (some (h, 0x0002))
    refine carried _ ((s.take h 0x0002).1.wakeBegin 4 0 0) (.accepted m.code false) ?_ (.inr room)
      ((State.wakeBegin_within (M := 2 ^ 700 - 1) (by decide +kernel) (.refl _ _) ..).sound sound)
      fun t done => ⟨done.answered, fun d hd => ?_⟩
    · rw [named list, begun]; rfl
    · rw [done.rd (by decide), done.rd (by decide)]
      exact (State.wakeBegin_shows sound 4 0 0).2 d hd

end Sys2Proof.Machine
end

section
/-!
PROOFS. ABORT (R348, R353, R361): a deferred command, a Combing run that waits, a delivery.
-/

namespace Sys2Proof.Machine

-- One proof at a time: proofs elaborated side by side ask for more memory than a compile of the whole text may take.
set_option Elab.async false

namespace State

-- An outstanding command finishes (R348) ---------------------------------------------------------------------------------------

/-- The command is outstanding no longer, and its final status is kept. -/
theorem finish_shows (s : State) (o : Outstanding) (status : Nat) (results : List Byte) :
    (s.finish o status results).outstanding = s.outstanding.filter (fun x => !(x.die == o.die && x.tag == o.tag)) ∧
      ⟨o.die, o.tag, status, results⟩ ∈ (s.finish o status results).kept := by
  unfold finish
  refine ⟨(raise_frame ..).parts .outstanding (by decide), ?_⟩
  rw [(raise_frame ..).parts .kept (by decide)]
  refine List.mem_append_right _ ?_
  rw [List.drop_append_of_le_length (by omega)]
  exact List.mem_append_right _ (List.mem_singleton_self _)

-- Combing (R112) ----------------------------------------------------------------------------------------------------------------

/-- A run that waits ends at once with its result. -/
theorem combAbort_of_waiting {s : State} {d c : Nat} (waits : s.rd F.CRD_COMB_STATUS.STATE [d, c] = 1) (stays : s.rd I.combEnding [d, c] = 0)
    (code : Nat) : s.combAbort d c code = s.combDone d c code := by
  simp [combAbort, combState, isSet, waits, stays]

/-- The buffers of a pool release that is withdrawn stay (R353). -/
def releaseWithdrawn (s : State) (unit : Nat) : State :=
  { s with pool := s.pool.map fun (p : PoolBuf) => if poolUnit p = unit then { p with released := false } else p }

theorem releaseWithdrawn_sound {s : State} (hs : s.Sound) (unit : Nat) : (s.releaseWithdrawn unit).Sound :=
  ⟨hs.regs, hs.mem, hs.acq, hs.tims, hs.acc, hs.layers, hs.flash⟩

/-- COMB_DONE shows the result of the run (R112). -/
theorem combDone_shows {s : State} (hs : s.Sound) (d c : Nat) {code : Nat} (hc : code < 2 ^ 16) :
    (s.combDone d c code).rd F.CRD_COMB_STATUS.STATE [d, c] = 0 ∧ (s.combDone d c code).rd F.CRD_COMB_STATUS.RESULT [d, c] = code := by
  let a := (s.each (s.arraysOf c) fun s x => s.calEnds d x).combDrop d c
  let b := ((a.wr F.CRD_COMB_STATUS.STATE [d, c] 0).wr F.CRD_COMB_STATUS.RESULT [d, c] code).wr I.combEnding [d, c] 0
  have sound : a.Sound :=
    (combDrop_within (M := 2 ^ 700 - 1) (by decide +kernel) (Within.each (.refl _ s) fun _ _ hu => calEnds_within (by decide +kernel) hu _ _) _ _).sound hs
  let l := b.each (b.arraysOf c) fun s x => s.wr F.CNV_CTRL.LADDER_SEL [d, x] 0
  have ladder : Within (Foot.of [.CNV_CTRL] []) b l := Within.each (.refl _ b) fun _ _ hu => hu.wr _ _ _ (by decide +kernel)
  have rest : Within (Foot.without [.CRD_COMB_STATUS] []) (b.setLadder d c 0) (s.combDone d c code) := by
    unfold combDone
    exact Within.on (finishUnit_within (by decide +kernel)
      (raise_within (by decide +kernel) (release_within (by decide +kernel) (.refl _ _) _) _ _ _) _ _ _ _) fun _ hu => storeAsk_within (by decide +kernel) hu
  have level : ∀ {f : Fld}, f.reg = .CRD_COMB_STATUS → f.lo ≠ F.CRD_COMB_STATUS.LEVEL.lo →
      (s.combDone d c code).rd f [d, c] = b.rd f [d, c] := fun hr hl =>
    (rest.rd _ _ (by rw [hr]; decide +kernel)).trans ((rd_wr_of_lo hl ..).trans (ladder.rd _ _ (by rw [hr]; decide +kernel)))
  refine ⟨(level rfl (by decide)).trans ?_, (level rfl (by decide)).trans ?_⟩
  · exact (rd_wr_of_reg (by decide) ..).trans ((rd_wr_of_lo (by decide) ..).trans (rd_wr_self sound.regs ..))
  · exact (rd_wr_of_reg (by decide) ..).trans (rd_wr_self_of_lt sound.wr _ _ hc)

-- Deliveries (R361) -------------------------------------------------------------------------------------------------------------

/-- A delivery that ends is gone. -/
theorem not_mem_libEnd (s : State) (x : Delivery) (code : Nat) : x ∉ (s.libEnd x code).deliveries := by
  have w : Within (Foot.without [] [.deliveries]) { s with deliveries := s.deliveries.filter fun y => !(y.die == x.die && y.queue == x.queue) }
      (s.libEnd x code) := Within.each (.refl _ _) fun _ _ hu => finish_within (by decide +kernel) hu _ _ _
  rw [w.parts .deliveries (by decide +kernel)]
  simp

end State

-- ABORT (R353) ------------------------------------------------------------------------------------------------------------------

theorem abort_answers {h : MbxHdr} {tag : Nat} {s : State} (hs : s.Sound) (now : s.takesNow h) :
    let found := s.outstanding.find? fun o => o.die == h.die && o.tag == tag
    (found = none → Completes (.abort h tag) s fun t => t.answered h 0x0005 0x0102 []) ∧
    (∀ o : Outstanding, found = some o → o.deferred = true → o.opcode = 0x0806 → Completes (.abort h tag) s fun t =>
      t.answered h 0x0005 0 [] ∧ ⟨h.die, tag, 0x0203, []⟩ ∈ t.kept ∧ ∀ x ∈ t.outstanding, x.die = h.die → x.tag ≠ tag) ∧
    (∀ o : Outstanding, found = some o → o.deferred = false → o.opcode = 0x0302 → o.converted = false → o.unit < 4 →
      s.rd F.CRD_COMB_STATUS.STATE [o.unit / 2, o.unit % 2] = 1 → s.rd I.combEnding [o.unit / 2, o.unit % 2] = 0 →
      Completes (.abort h tag) s fun t => t.answered h 0x0005 0 [] ∧ t.rd F.CRD_COMB_STATUS.STATE [o.unit / 2, o.unit % 2] = 0 ∧
        t.rd F.CRD_COMB_STATUS.RESULT [o.unit / 2, o.unit % 2] = 0x0211) ∧
    (∀ o : Outstanding, found = some o → o.deferred = false → o.opcode ≠ 0x0302 →
      let sent := s.deliveries.find? fun x => x.cmdDie == h.die && x.tag == tag && x.opcode == o.opcode
      (∀ x : Delivery, sent = some x → Completes (.abort h tag) s fun t => t.answered h 0x0005 0 [] ∧ x ∉ t.deliveries) ∧
      (sent = none → Completes (.abort h tag) s fun t => t.answered h 0x0005 0x0202 [] ∧ t.outstanding = s.outstanding)) := by
  intro found
  obtain ⟨notService, notVigil⟩ := State.takesNow_modes now
  obtain ⟨fresh, -⟩ := now
  have carried := fun P v r => completes_of_carried (c := .abort h tag) (P := P) (v := v) (r := r) rfl fresh
    (State.concernDie_byField fresh 0x0005) (.inr notService) (.inr notVigil)
  have sound := State.take_sound hs h 0x0005
  have sought : (s.take h 0x0005).1.outstanding.find? (fun o => o.die == h.die && o.tag == tag) = found := by rw [State.take_outstanding]
  have sentTaken : (s.take h 0x0005).1.deliveries = s.deliveries := (s.take_frame h 0x0005).parts .deliveries (by decide)
  refine ⟨fun unknown => ?unknown, fun o this deferred pool => ?deferred, fun o this runs comb first _ waits stays => ?comb,
    fun o this runs other => ⟨fun x sent => ?delivery, fun unsent => ?other⟩⟩
  case unknown =>
    exact carried _ _ (.code 0x0102) (by rw [State.mbxAbort, sought, unknown]) (.inl (by decide)) sound fun _ done => done.answered
  case deferred =>
    have hit := List.find?_some this
    simp only [Bool.and_eq_true, beq_iff_eq] at hit
    obtain ⟨die, tag_⟩ := hit
    have withdrawn := State.releaseWithdrawn_sound sound o.unit
    have works : (s.take h 0x0005).1.abortDeferred o = ((s.take h 0x0005).1.releaseWithdrawn o.unit).finish o 0x0203 [] := if_pos pool
    obtain ⟨list, kept⟩ := ((s.take h 0x0005).1.releaseWithdrawn o.unit).finish_shows o 0x0203 []
    refine carried _ (((s.take h 0x0005).1.releaseWithdrawn o.unit).finish o 0x0203 []) (.code 0) ?_ (.inl ok_short)
      ((State.finish_keeps (.refl _) ..).sound withdrawn)
      fun t done => ⟨done.answered, ?_, fun x hx xdie xtag => ?_⟩
    · rw [State.mbxAbort, sought, this]
      simp [deferred, works]
    · rw [done.frame.parts .kept (by decide), ← die, ← tag_]
      exact kept
    · rw [done.short (by decide) (by decide), list] at hx
      have := (List.mem_filter.mp hx).2
      simp [die, tag_, xdie, xtag] at this
  case comb =>
    refine carried _ ((s.take h 0x0005).1.combDone (o.unit / 2) (o.unit % 2) 0x0211) (.code 0) ?_ (.inl ok_short)
      ((State.combDone_within (M := 2 ^ 700 - 1) (by decide +kernel) (.refl _ _) ..).sound sound)
      fun t done => ⟨done.answered, ?_, ?_⟩
    · rw [State.mbxAbort, sought, this]
      simp [runs, comb, first,
        State.combAbort_of_waiting ((State.take_rd (by decide) ..).trans waits) ((State.take_rd (by decide) ..).trans stays)]
    · exact (done.rd (by decide) _).trans (State.combDone_shows sound _ _ (by decide)).1
    · exact (done.rd (by decide) _).trans (State.combDone_shows sound _ _ (by decide)).2
  case delivery =>
    refine carried _ ((s.take h 0x0005).1.libEnd x 0x0203) (.code 0) ?_ (.inl ok_short)
      ((State.libEnd_within (M := 2 ^ 700 - 1) (by decide +kernel) (.refl _ _) ..).sound sound)
      fun t done => ⟨done.answered, ?_⟩
    · rw [State.mbxAbort, sought, this]
      simp [runs, other, sentTaken, sent]
    · rw [done.frame.parts .deliveries (by decide)]
      exact State.not_mem_libEnd _ x _
  case other =>
    refine carried _ (s.take h 0x0005).1 (.code 0x0202) ?_ (.inl (by decide)) sound
      fun t done => ⟨done.answered, (done.short (by decide) (by decide)).trans (State.take_outstanding ..)⟩
    rw [State.mbxAbort, sought, this]
    simp [runs, other, sentTaken, unsent]

end Sys2Proof.Machine
end

section
/-!
PROOFS. The mailbox commands of the reference loop (R48, R350, R354): REF_SET and REF_RESUME.
-/

namespace Sys2Proof.Machine

-- One proof at a time: proofs elaborated side by side ask for more memory than a compile of the whole text may take.
set_option Elab.async false

namespace State

-- Configuration commands of one register (R350) ------------------------------------------------------------------------------

/-- An image with a reserved field that is not 0 is refused. -/
theorem cfgRegs_of_reserved {r : Reg} {v : Nat} (bad : imageOk r v = false) (s : State) (d : Nat) (j : List Nat) :
    s.cfgRegs d [(r, j, v)] = (s, .code 0x0100) := by
  simp [cfgRegs, cfgReply, bad]

/-- An image without one is written; the reply counts the write where it is accepted. -/
theorem cfgRegs_of_ok {r : Reg} {v : Nat} (ok : imageOk r v = true) {s u : State} {d code : Nat} {j : List Nat}
    (written : writeReg d r j 0 v s = (u, code)) :
    s.cfgRegs d [(r, j, v)] = (u, ⟨code, le 1 (if code = 0 then 1 else 0), false, 0, none⟩) := by
  by_cases accepted : code = 0
  · subst accepted
    simp [cfgRegs, cfgReply, cfgSeq, ok, written]
  · simp [cfgRegs, cfgReply, cfgSeq, ok, written, accepted]

/-- A register whose fields fill its low bits takes every image that fits them. -/
theorem imageOk_iff_lt {r : Reg} {n : Nat} (mask : regMask r = 2 ^ n - 1) (v : Nat) : imageOk r v = true ↔ v < 2 ^ n := by
  have low : Nat.land v (regMask r) = v % 2 ^ n := by rw [mask]; exact Nat.and_two_pow_sub_one_eq_mod v n
  rw [imageOk, low, beq_iff_eq]
  exact ⟨fun e => e ▸ Nat.mod_lt _ (Nat.two_pow_pos n), Nat.mod_eq_of_lt⟩

-- Marks keep the pending bits (R210, R211) ----------------------------------------------------------------------------------------

section
variable {s₀ s : State} (h : Keeps s₀ s)
include h

theorem loseMark_keeps (d a : Nat) : Keeps s₀ (s.loseMark d a) :=
  stick_keeps ((h.within (inc_within (.refl _ s) _ _ (by decide +kernel))).within
    (count_within (by decide +kernel) (.refl _ _) _ _ _ (by decide +kernel))) _ (by decide) _ _ _ _

theorem placeMark_keeps (d a : Nat) (m : WaitMark) (inGap : Bool) (position : Nat) (segment : Bool) :
    Keeps s₀ (s.placeMark d a m inGap position segment) := by
  unfold placeMark
  refine Keeps.ite (loseMark_keeps h d a) (h.within ?_)
  exact drainMarks_within (by decide +kernel) (syncMarks_within (by decide +kernel) (setAcq_within (by decide +kernel)
    (inc_within (.refl _ s) _ _ (by decide +kernel)) _ _ _) _ _) _ _ _

theorem mark_keeps (d a kind : Nat) (dt : Instant) (flags terms payload : Nat) : Keeps s₀ (s.mark d a kind dt flags terms payload) := by
  unfold mark
  refine Keeps.ite h (Keeps.ite (Keeps.ite (placeMark_keeps h ..) ?_) (h.within (setAcq_within (by decide +kernel) (.refl _ s) _ _ _)))
  split
  · exact placeMark_keeps h ..
  · exact placeMark_keeps h ..

theorem refSlew_keeps : Keeps s₀ s.refSlew :=
  ((h.put (by decide) _ _).put (by decide) _ _).each _ fun _ _ h => h.each _ fun _ _ h => mark_keeps h ..

end

-- The loop's state (R48, R72) -----------------------------------------------------------------------------------------------------

/-- The loop goes to the state that is set. -/
theorem setRef_state {s : State} (hs : s.Sound) {st : Nat} (hst : st < 8) : (s.setRef st).refState = st := by
  rw [setRef]
  split
  case isTrue e => exact e
  case isFalse =>
    have aligned : Within (Foot.without [.XTO_STATUS] []) ((s.wr F.XTO_STATUS.REF_STATE [] st).raisePkg 25 0)
        ((s.wr F.XTO_STATUS.REF_STATE [] st).raisePkg 25 0).syncAligned := syncAligned_within (by decide +kernel) (.refl _ _)
    rw [refState, aligned.rd _ _ (by decide +kernel), raisePkg, raise_rd (by decide), rd_wr_self_of_lt hs _ _ hst]

/-- Another field of XTO_STATUS reads as before. -/
theorem setRef_rd {f : Fld} (hr : f.reg = .XTO_STATUS) (hl : f.lo ≠ F.XTO_STATUS.REF_STATE.lo) (s : State) (st : Nat) (ix : List Nat) :
    (s.setRef st).rd f ix = s.rd f ix := by
  rw [setRef]
  split
  case isTrue => rfl
  case isFalse =>
    have aligned : Within (Foot.without [.XTO_STATUS] []) ((s.wr F.XTO_STATUS.REF_STATE [] st).raisePkg 25 0)
        ((s.wr F.XTO_STATUS.REF_STATE [] st).raisePkg 25 0).syncAligned := syncAligned_within (by decide +kernel) (.refl _ _)
    rw [aligned.rd _ _ (by rw [hr]; decide +kernel), raisePkg, raise_rd (by rw [hr]; decide), rd_wr_of_lo hl]

-- RESUME (R48) --------------------------------------------------------------------------------------------------------------------

/-- The loop leaves WINTER with XTO_PHASE_JUMP. -/
def refGoes (s : State) : State := ((s.wr F.XTO_STATUS.HOLD_WAIT [] 0).setRef 1).raisePkg 26 0

theorem refGoes_shows {s : State} (hs : s.Sound) : s.refGoes.Sound ∧ s.refGoes.refState = 1 ∧ s.refGoes.pends s.control 26 = true ∧
    s.refGoes.rd F.XTO_STATUS.HOLD_WAIT [] = 0 := by
  have sound : ((s.wr F.XTO_STATUS.HOLD_WAIT [] 0).setRef 1).Sound := (setRef_keeps (.refl _) 1).sound hs.wr
  have control : ((s.wr F.XTO_STATUS.HOLD_WAIT [] 0).setRef 1).control = s.control :=
    (setRef_within (M := Foot.without [] [.control]) (by decide +kernel) (.refl _ _) 1).parts .control (by decide +kernel)
  refine ⟨raise_sound sound .., (raise_rd (by decide) ..).trans (setRef_state hs.wr (by decide)), ?_, ?_⟩
  · rw [← control]
    exact raise_pends sound ..
  · exact (raise_rd (by decide) ..).trans ((setRef_rd rfl (by decide) ..).trans (rd_wr_self hs.regs ..))

theorem refResume_of_running {s : State} (runs : s.refState ≠ 3 ∨ s.rd F.XTO_STATUS.HOLD_WAIT [] = 0) (how : Nat) :
    s.refResume how = (s, 0x0204) := by
  refine if_neg fun ⟨winter, waits⟩ => ?_
  obtain h | h := runs
  · exact h winter
  · simp [isSet, h] at waits

/-- A status command's answer. -/
theorem answerCode_eq (s : State) (code : Nat) : answerCode (s, code) = (s, .code code) := rfl

/-- A loop that waits goes on by SLEW or by STEP. -/
theorem refResume_of_waiting {s : State} (winter : s.refState = 3) (waits : s.rd F.XTO_STATUS.HOLD_WAIT [] = 1) :
    s.refResume 1 = (s.refGoes.refSlew, 0) ∧ s.refResume 2 = (s.refGoes.wr F.XTO_STATUS.STEP_PENDING [] 1, 0) := by
  have held : s.isSet F.XTO_STATUS.HOLD_WAIT [] = true := by simp [isSet, waits]
  exact ⟨if_pos ⟨winter, held⟩, if_pos ⟨winter, held⟩⟩

/-- A slew shows itself, and leaves the loop's state (R50). -/
theorem refSlew_shows {s : State} (hs : s.Sound) : s.refSlew.rd F.XTO_STATUS.SLEWING [] = 1 ∧
    ∀ f : Fld, f.reg = .XTO_STATUS → f.lo ≠ F.XTO_STATUS.SLEWING.lo → s.refSlew.rd f [] = s.rd f [] := by
  let u : State := (s.wr F.XTO_STATUS.SLEWING [] 1).wr I.loopCorr []
    (sfield 25 (sval 25 (s.rd I.loopCorr []) + (if s.heldErr < 0 then 2096 else -2096)))
  have marks : Within (Foot.without [.XTO_STATUS] []) u s.refSlew :=
    Within.each (.refl _ _) fun _ _ hu => Within.each hu fun _ _ hu => mark_within (by decide +kernel) hu ..
  refine ⟨?_, fun f hr hl => ?_⟩
  · exact (marks.rd _ _ (by decide +kernel)).trans ((rd_wr_of_reg (by decide) ..).trans (rd_wr_self hs.regs ..))
  · exact (marks.rd _ _ (by rw [hr]; decide +kernel)).trans ((rd_wr_of_reg (by rw [hr]; decide) ..).trans (rd_wr_of_lo hl ..))

-- XTO_REF_CTRL (R48) ----------------------------------------------------------------------------------------------------------------

/-- The fields of XTO_REF_CTRL take what is written; POLICY 3 leaves POLICY, with 0x0100. -/
theorem writeRefCtrl_shows {s : State} (hs : s.Sound) (v : Nat) :
    (writeRefCtrl v s).2 = (if v / 4 % 4 = 3 then 0x0100 else 0) ∧ (writeRefCtrl v s).1.Sound ∧
      (writeRefCtrl v s).1.rd F.XTO_REF_CTRL.ENABLE [] = v % 2 ∧ (writeRefCtrl v s).1.rd F.XTO_REF_CTRL.REF_FREQ [] = v / 2 % 2 ∧
      (writeRefCtrl v s).1.rd F.XTO_REF_CTRL.POLICY [] = if v / 4 % 4 = 3 then s.rd F.XTO_REF_CTRL.POLICY [] else v / 4 % 4 := by
  let a : State := (s.wr F.XTO_REF_CTRL.ENABLE [] (slice v 0 1)).wr F.XTO_REF_CTRL.REF_FREQ [] (slice v 1 1)
  let b : State := a.on (slice v 2 2 != 3) fun s => s.wr F.XTO_REF_CTRL.POLICY [] (slice v 2 2)
  have loop : Within (Foot.without [.XTO_REF_CTRL] []) b (writeRefCtrl v s).1 := by
    have resumed := (Within.refl (Foot.without [.XTO_REF_CTRL] []) b).on (b := slice v 4 2 == 1 || slice v 4 2 == 2)
      (f := fun s => (s.refResume (slice v 4 2)).1) fun _ hu => refResume_within (by decide +kernel) hu _
    exact Within.ite (refOff_within (by decide +kernel) resumed) (resumed.on fun _ hu => refEnter_within (by decide +kernel) hu _)
  have policy : b.Sound ∧ b.rd F.XTO_REF_CTRL.POLICY [] = (if v / 4 % 4 = 3 then s.rd F.XTO_REF_CTRL.POLICY [] else v / 4 % 4) ∧
      ∀ f : Fld, f.lo ≠ F.XTO_REF_CTRL.POLICY.lo → b.rd f [] = a.rd f [] := by
    by_cases reserved : v / 4 % 4 = 3
    · have e : b = a := on_of_false (by simp [slice, reserved]) _ _
      rw [e, if_pos reserved]
      exact ⟨hs.wr.wr, (rd_wr_of_lo (by decide) ..).trans (rd_wr_of_lo (by decide) ..), fun _ _ => rfl⟩
    · have e : b = a.wr F.XTO_REF_CTRL.POLICY [] (slice v 2 2) := on_of_true (by simp [slice, reserved]) _ _
      rw [e, if_neg reserved]
      exact ⟨hs.wr.wr.wr, rd_wr_self_of_lt hs.wr.wr _ _ (Nat.mod_lt _ (by decide)), fun _ hl => rd_wr_of_lo hl ..⟩
  obtain ⟨sound, policy, others⟩ := policy
  have rd : ∀ f : Fld, f.reg = .XTO_REF_CTRL → (writeRefCtrl v s).1.rd f [] = b.rd f [] := fun f hr => loop.rd _ _ (by rw [hr]; decide +kernel)
  refine ⟨rfl, loop.sound sound, (rd _ rfl).trans ((others _ (by decide)).trans ?_), (rd _ rfl).trans ((others _ (by decide)).trans ?_),
    (rd _ rfl).trans policy⟩
  · refine (rd_wr_of_lo (by decide) ..).trans ((rd_wr_self hs.regs ..).trans ?_)
    simp [trunc, slice]
  · refine (rd_wr_self hs.wr.regs ..).trans ?_
    simp [trunc, slice]

end State

-- REF_SET and REF_RESUME (R354) -------------------------------------------------------------------------------------------------------

theorem refSet_answers {h : MbxHdr} {v : Nat} {s : State} (hs : s.Sound) (now : s.takesNow h) :
    (64 ≤ v → Completes (.refSet h v) s fun t => t.answered h 0x0101 0x0100 [] ∧ t.image .XTO_REF_CTRL [] = s.image .XTO_REF_CTRL []) ∧
    (v < 64 → Completes (.refSet h v) s fun t =>
      t.answered h 0x0101 (if v / 4 % 4 = 3 then 0x0100 else 0) (le 1 (if v / 4 % 4 = 3 then 0 else 1)) ∧
      t.rd F.XTO_REF_CTRL.ENABLE [] = v % 2 ∧ t.rd F.XTO_REF_CTRL.REF_FREQ [] = v / 2 % 2 ∧
      t.rd F.XTO_REF_CTRL.POLICY [] = if v / 4 % 4 = 3 then s.rd F.XTO_REF_CTRL.POLICY [] else v / 4 % 4) := by
  obtain ⟨notService, notVigil⟩ := State.takesNow_modes now
  obtain ⟨fresh, -⟩ := now
  have carried := fun P v' r => completes_of_carried (c := .refSet h v) (P := P) (v := v') (r := r) rfl fresh
    (s.concernDie_package h 0x0101) (.inr notService) (.inr notVigil)
  have sound := State.take_sound hs h 0x0101
  have mask : State.imageOk .XTO_REF_CTRL v = true ↔ v < 64 := State.imageOk_iff_lt (n := 6) (by decide) v
  refine ⟨fun high => ?reserved, fun low => ?written⟩
  case reserved =>
    have bad : State.imageOk .XTO_REF_CTRL v = false := Bool.eq_false_iff.mpr fun e => by have := mask.mp e; omega
    refine carried _ _ (.code 0x0100) (State.cfgRegs_of_reserved bad ..) (.inl (by decide)) sound fun t done => ⟨done.answered, ?_⟩
    exact (State.image_congr (by decide) fun f hr => done.rd (by rw [hr]; decide) []).trans (State.take_image (by decide) (by decide) ..)
  case written =>
    obtain ⟨status, written, enable, freq, policy⟩ := State.writeRefCtrl_shows sound v
    have reply := State.cfgRegs_of_ok (mask.mpr low) (s := (s.take h 0x0101).1) (d := s.control) (j := [])
      (show _ = ((State.writeRefCtrl v (s.take h 0x0101).1).1, if v / 4 % 4 = 3 then 0x0100 else 0) from Prod.ext rfl status)
    refine carried _ _ _ reply (.inl ?_) written fun t done => ⟨?_, ?_, ?_, ?_⟩
    · show (if v / 4 % 4 = 3 then 0x0100 else 0) ≠ 1 ∧ (if v / 4 % 4 = 3 then 0x0100 else 0) ≠ 2
      split <;> decide
    · have answered := done.answered
      by_cases reserved : v / 4 % 4 = 3
      · simpa [reserved] using answered
      · simpa [reserved] using answered
    · exact (done.rd (by decide) _).trans enable
    · exact (done.rd (by decide) _).trans freq
    · rw [done.rd (by decide), policy, State.take_rd (by decide)]

theorem refResume_answers {h : MbxHdr} {resume : Nat} {s : State} (hs : s.Sound) (now : s.takesNow h) :
    (resume = 1 ∨ resume = 2 → s.refState ≠ 3 ∨ s.rd F.XTO_STATUS.HOLD_WAIT [] = 0 → Completes (.refResume h resume) s fun t =>
      t.answered h 0x0102 0x0204 [] ∧ t.refState = s.refState) ∧
    (resume = 0 ∨ 2 < resume → Completes (.refResume h resume) s fun t => t.answered h 0x0102 0x0100 []) ∧
    (s.refState = 3 → s.rd F.XTO_STATUS.HOLD_WAIT [] = 1 →
      (resume = 1 → Completes (.refResume h resume) s fun t => t.answered h 0x0102 0 [] ∧ t.refState = 1 ∧ t.pends s.control 26 = true ∧
        t.rd F.XTO_STATUS.SLEWING [] = 1 ∧ t.rd F.XTO_STATUS.HOLD_WAIT [] = 0) ∧
      (resume = 2 → Completes (.refResume h resume) s fun t => t.answered h 0x0102 0 [] ∧ t.refState = 1 ∧ t.pends s.control 26 = true ∧
        t.rd F.XTO_STATUS.STEP_PENDING [] = 1 ∧ t.rd F.XTO_STATUS.HOLD_WAIT [] = 0)) := by
  obtain ⟨notService, notVigil⟩ := State.takesNow_modes now
  obtain ⟨fresh, -⟩ := now
  have carried := fun P v r => completes_of_carried (c := .refResume h resume) (P := P) (v := v) (r := r) rfl fresh
    (s.concernDie_package h 0x0102) (.inr notService) (.inr notVigil)
  have sound := State.take_sound hs h 0x0102
  have stateTaken : (s.take h 0x0102).1.refState = s.refState := State.take_rd (by decide) ..
  have waitTaken : (s.take h 0x0102).1.rd F.XTO_STATUS.HOLD_WAIT [] = s.rd F.XTO_STATUS.HOLD_WAIT [] := State.take_rd (by decide) ..
  obtain ⟨gone, state, pends, waits⟩ := State.refGoes_shows sound
  rw [State.take_control] at pends
  refine ⟨fun range runs => ?running, fun range => ?range, fun winter held => ⟨?slew, ?step⟩⟩
  case running =>
    have ok : (resume == 1 || resume == 2) = true := by simpa using range
    refine carried _ _ (.code 0x0204) ?_ (.inl (by decide)) sound fun t done => ⟨done.answered, (done.rd (by decide) _).trans stateTaken⟩
    rw [onRange_of_true ok, State.refResume_of_running (by rwa [stateTaken, waitTaken])]; rfl
  case range =>
    have out : (resume == 1 || resume == 2) = false := by simp; omega
    exact carried _ _ (.code 0x0100) (onRange_of_false out ..) (.inl (by decide)) sound fun _ done => done.answered
  case slew =>
    rintro rfl
    obtain ⟨slew, -⟩ := State.refResume_of_waiting (stateTaken.trans winter) (waitTaken.trans held)
    obtain ⟨slewing, others⟩ := State.refSlew_shows gone
    refine carried _ (s.take h 0x0102).1.refGoes.refSlew (.code 0)
      (by rw [onRange_of_true (ok := 1 == 1 || 1 == 2) rfl, slew, State.answerCode_eq]) (.inl ok_short)
      ((State.refSlew_keeps (.refl _)).sound gone)
      fun t done => ⟨done.answered, ?_, done.pends _ _ ((State.refSlew_keeps (.refl _)).pends gone _ _ pends), ?_, ?_⟩
    · exact (done.rd (by decide) _).trans ((others _ rfl (by decide)).trans state)
    · exact (done.rd (by decide) _).trans slewing
    · exact (done.rd (by decide) _).trans ((others _ rfl (by decide)).trans waits)
  case step =>
    rintro rfl
    obtain ⟨-, step⟩ := State.refResume_of_waiting (stateTaken.trans winter) (waitTaken.trans held)
    refine carried _ ((s.take h 0x0102).1.refGoes.wr F.XTO_STATUS.STEP_PENDING [] 1) (.code 0)
      (by rw [onRange_of_true (ok := 2 == 1 || 2 == 2) rfl, step, State.answerCode_eq]) (.inl ok_short) gone.wr
      fun t done => ⟨done.answered, ?_, done.pends _ _ ((State.wr_pends (by decide) ..).trans pends), ?_, ?_⟩
    · exact (done.rd (by decide) _).trans ((State.rd_wr_of_lo (by decide) ..).trans state)
    · exact (done.rd (by decide) _).trans (State.rd_wr_self gone.regs ..)
    · exact (done.rd (by decide) _).trans ((State.rd_wr_of_lo (by decide) ..).trans waits)

end Sys2Proof.Machine
end

section
/-!
PROOFS. The mailbox commands of SYN and AUX (R59 to R61, R64, R354): SYN_SET, RAMP and AUX_SET.
-/

namespace Sys2Proof.Machine

-- One proof at a time: proofs elaborated side by side ask for more memory than a compile of the whole text may take.
set_option Elab.async false

namespace State

-- SYN_CTRL (R59, R61) ----------------------------------------------------------------------------------------------------------------

/-- A change of the mode while a channel is armed is refused as a whole (R59). -/
theorem writeSynCtrl_of_armed {s : State} {d v : Nat} (change : v % 2 ≠ s.rd F.SYN_CTRL.MODE [d]) (armed : s.dieArmed d = true) :
    writeSynCtrl d v s = (s.flag F.SYN_STATUS.MODE_REJECT [d], 0x0212) := by
  refine if_pos ?_
  simpa [slice, armed] using change

/-- The mode of SYN changes: the offset is 0, no ramp is active, and SYN locks again (R59). -/
def modeChanged (d v : Nat) (s : State) : State :=
  let s := ((s.setOffset d 0).wr F.SYN_CTRL.MODE [d] (slice v 0 1)).wr F.SYN_STATUS.RAMP_ACTIVE [d] 0
  ((s.coastOver d).wr F.SYN_STATUS.PHASE_DET [d] 0).setLock d 0

/-- A write that changes the mode with no channel armed, and neither starts nor aborts a ramp. -/
theorem writeSynCtrl_of_change {s : State} {d v : Nat} (change : v % 2 ≠ s.rd F.SYN_CTRL.MODE [d]) (free : s.dieArmed d = false)
    (start : bitAt v 1 = false) (abort : bitAt v 2 = false) : writeSynCtrl d v s = (modeChanged d v (rampSettings d v s), 0) := by
  have asked : (slice v 0 1 != s.rd F.SYN_CTRL.MODE [d]) = true := by simpa [slice] using change
  rw [writeSynCtrl, asked, free, Bool.and_false, if_neg Bool.false_ne_true, start, abort]
  rfl

/-- The fields of SYN_CTRL that a write sets beside the mode. -/
theorem rampSettings_shows {s : State} (hs : s.Sound) (d v : Nat) : (rampSettings d v s).Sound ∧
    (rampSettings d v s).rd F.SYN_CTRL.MODE [d] = s.rd F.SYN_CTRL.MODE [d] ∧ (rampSettings d v s).rd F.SYN_CTRL.RAMP_REPEAT [d] = v / 8 % 2 ∧
    (rampSettings d v s).rd F.SYN_CTRL.RAMP_LAST [d] = v / 16 % 64 ∧ (rampSettings d v s).rd F.SYN_CTRL.ALIAS_EN [d] = v / 1024 % 4 := by
  refine ⟨hs.wr.wr.wr, ?_, ?_, ?_, ?_⟩
  · exact (rd_wr_of_lo (by decide) ..).trans ((rd_wr_of_lo (by decide) ..).trans (rd_wr_of_lo (by decide) ..))
  · exact (rd_wr_of_lo (by decide) ..).trans ((rd_wr_of_lo (by decide) ..).trans (rd_wr_self_of_lt hs _ _ (Nat.mod_lt _ (by decide))))
  · exact (rd_wr_of_lo (by decide) ..).trans (rd_wr_self_of_lt hs.wr _ _ (Nat.mod_lt _ (by decide)))
  · exact rd_wr_self_of_lt hs.wr.wr _ _ (Nat.mod_lt _ (by decide))

theorem modeChanged_shows {s : State} (hs : s.Sound) (d v : Nat) : (modeChanged d v s).Sound ∧ (modeChanged d v s).rd F.SYN_CTRL.MODE [d] = v % 2 ∧
    ∀ f : Fld, f.reg = .SYN_CTRL → f.lo ≠ F.SYN_CTRL.MODE.lo → (modeChanged d v s).rd f [d] = s.rd f [d] := by
  have locks : Within (Foot.without [.SYN_CTRL] []) ((s.setOffset d 0).wr F.SYN_CTRL.MODE [d] (slice v 0 1)) (modeChanged d v s) :=
    setLock_within (by decide +kernel) (Within.wr (coastOver_within (by decide +kernel) (Within.wr (.refl _ _) _ _ _ (by decide +kernel)) _) _ _ _
      (by decide +kernel)) _ _
  have sound : (s.setOffset d 0).Sound := hs.wr
  refine ⟨locks.sound sound.wr, ?_, fun f hr hl => ?_⟩
  · refine (locks.rd _ _ (by decide +kernel)).trans ((rd_wr_self sound.regs ..).trans ?_)
    simp [trunc, slice]
  · exact (locks.rd _ _ (by rw [hr]; decide +kernel)).trans ((rd_wr_of_lo hl ..).trans (rd_wr_of_reg (by rw [hr]; decide) ..))

/-- A write that is not refused and neither starts nor aborts a ramp sets the fields it names. -/
theorem writeSynCtrl_shows {s : State} (hs : s.Sound) {d v : Nat} (start : bitAt v 1 = false) (abort : bitAt v 2 = false)
    (free : v % 2 = s.rd F.SYN_CTRL.MODE [d] ∨ s.dieArmed d = false) : ∃ t, writeSynCtrl d v s = (t, 0) ∧ t.Sound ∧
      t.rd F.SYN_CTRL.MODE [d] = v % 2 ∧ t.rd F.SYN_CTRL.RAMP_REPEAT [d] = v / 8 % 2 ∧ t.rd F.SYN_CTRL.RAMP_LAST [d] = v / 16 % 64 ∧
      t.rd F.SYN_CTRL.ALIAS_EN [d] = v / 1024 % 4 := by
  obtain ⟨sound, mode, again, last, aliasEn⟩ := rampSettings_shows hs d v
  by_cases same : v % 2 = s.rd F.SYN_CTRL.MODE [d]
  · refine ⟨rampSettings d v s, ?_, sound, mode.trans same.symm, again, last, aliasEn⟩
    rw [writeSynCtrl_of_same_mode (by simpa [slice] using same), start, abort]; rfl
  · obtain ⟨changed, new, others⟩ := modeChanged_shows sound d v
    exact ⟨_, writeSynCtrl_of_change same (free.resolve_left same) start abort, changed, new, (others _ rfl (by decide)).trans again,
      (others _ rfl (by decide)).trans last, (others _ rfl (by decide)).trans aliasEn⟩

-- RAMP (R60, R61) --------------------------------------------------------------------------------------------------------------------

/-- What refuses the start of a ramp (R60): integer mode, a ramp that is active, a segment out of its limits. -/
def rampRefused (s : State) (d : Nat) : Prop :=
  s.fractional d = false ∨ s.rd F.SYN_STATUS.RAMP_ACTIVE [d] ≠ 0 ∨ ∃ k : Nat, k ≤ s.rd F.SYN_CTRL.RAMP_LAST [d] ∧ s.rampBad d k = true

theorem rampRefused_iff (s : State) (d : Nat) : s.rampRefused d ↔
    (!s.fractional d || s.isSet F.SYN_STATUS.RAMP_ACTIVE [d] || (List.range (s.rd F.SYN_CTRL.RAMP_LAST [d] + 1)).any (s.rampBad d)) = true := by
  simp [rampRefused, isSet, or_assoc]

theorem rampStart_of_refused {s : State} {d : Nat} (refused : s.rampRefused d) : s.rampStart d = (s.flag F.SYN_STATUS.RAMP_REJECT [d], 0x0205) :=
  if_pos ((s.rampRefused_iff d).mp refused)

/-- A ramp begins at its segment 0 (R60). -/
theorem rampStart_shows {s : State} (hs : s.Sound) {d : Nat} (allowed : ¬s.rampRefused d) : ∃ t, s.rampStart d = (t, 0) ∧ t.Sound ∧
    t.rd F.SYN_STATUS.RAMP_ACTIVE [d] = 1 ∧ t.rd F.SYN_STATUS.RAMP_SEG [d] = 0 := by
  let a : State := (s.wr F.SYN_STATUS.RAMP_ACTIVE [d] 1).wr F.SYN_STATUS.RAMP_SEG [d] 0
  refine ⟨_, if_neg fun h => allowed ((s.rampRefused_iff d).mpr h), ?_⟩
  have rest : Within (Foot.without [.SYN_STATUS] []) a (s.rampStart d).1 := by
    rw [rampStart, if_neg fun h => allowed ((s.rampRefused_iff d).mpr h)]
    exact Within.each ((((Within.refl _ a).wr _ _ _ (by decide +kernel)).wr _ _ _ (by decide +kernel)).wr _ _ _ (by decide +kernel))
      fun _ _ hu => hu.wr _ _ _ (by decide +kernel)
  rw [rampStart, if_neg fun h => allowed ((s.rampRefused_iff d).mpr h)] at rest
  exact ⟨rest.sound hs.wr.wr, (rest.rd _ _ (by decide +kernel)).trans ((rd_wr_of_lo (by decide) ..).trans (rd_wr_self hs.regs ..)),
    (rest.rd _ _ (by decide +kernel)).trans (rd_wr_self hs.wr.regs ..)⟩

/-- After an abort no ramp is active. -/
theorem rampAbort_inactive {s : State} (hs : s.Sound) (d : Nat) : (s.rampAbort d).Sound ∧ (s.rampAbort d).rd F.SYN_STATUS.RAMP_ACTIVE [d] = 0 := by
  refine ⟨(rampAbort_within (M := 2 ^ 700 - 1) (by decide +kernel) (.refl _ s) d).sound hs, ?_⟩
  by_cases active : s.isSet F.SYN_STATUS.RAMP_ACTIVE [d] = true
  · rw [rampAbort, on_of_true active]
    exact (raise_rd (by decide) ..).trans (rd_wr_self (Sound.wr hs).regs ..)
  · rw [rampAbort, on_of_false (by simpa using active)]
    simpa [isSet] using active

theorem take_rampBad (s : State) (h : MbxHdr) (op d k : Nat) : (s.take h op).1.rampBad d k = s.rampBad d k := by
  have ends : ∀ k, (s.take h op).1.rampEnd d k = s.rampEnd d k := fun _ => congrArg (sval 24) (take_rd (by decide) ..)
  have dur : (s.take h op).1.rampDur d k = s.rampDur d k := take_rd (by decide) ..
  have offset : (s.take h op).1.offsetOf d = s.offsetOf d := congrArg (sval 24) (take_rd (by decide) ..)
  unfold rampBad
  rw [ends k, ends (k - 1), dur, offset]

theorem take_rampRefused (s : State) (h : MbxHdr) (op d : Nat) : (s.take h op).1.rampRefused d ↔ s.rampRefused d := by
  simp (disch := decide) only [rampRefused, fractional, take_rampBad, take_rd, take_isSet]

-- AUX_CTRL (R64) ---------------------------------------------------------------------------------------------------------------------

/-- A depth above 50 makes the write ignored. -/
theorem writeAuxCtrl_of_deep {d v : Nat} (fits : v < 256) (deep : 50 < v / 4) (s : State) : writeAuxCtrl d v s = (s, 0x0100) :=
  if_pos (by simp only [slice]; omega)

/-- The depth is written, and a mode that is not reserved. -/
theorem writeAuxCtrl_shows {s : State} (hs : s.Sound) {d v : Nat} (fits : v < 256) (shallow : v / 4 ≤ 50) :
    ∃ t, writeAuxCtrl d v s = (t, if v % 4 = 3 then 0x0100 else 0) ∧ t.Sound ∧ t.rd F.AUX_CTRL.SPREAD_DEPTH [d] = v / 4 ∧
      t.rd F.AUX_CTRL.SPREAD_MODE [d] = if v % 4 = 3 then s.rd F.AUX_CTRL.SPREAD_MODE [d] else v % 4 := by
  have depth : slice v 2 6 = v / 4 := by simp only [slice]; omega
  have mode : slice v 0 2 = v % 4 := by simp [slice]
  have written : (s.wr F.AUX_CTRL.SPREAD_DEPTH [d] (v / 4)).rd F.AUX_CTRL.SPREAD_DEPTH [d] = v / 4 :=
    rd_wr_self_of_lt hs _ _ (show v / 4 < 2 ^ 6 by omega)
  unfold writeAuxCtrl
  rw [depth, mode, if_neg (by omega)]
  by_cases reserved : v % 4 = 3
  · have kept : (s.wr F.AUX_CTRL.SPREAD_DEPTH [d] (v / 4)).rd F.AUX_CTRL.SPREAD_MODE [d] = s.rd F.AUX_CTRL.SPREAD_MODE [d] :=
      rd_wr_of_lo (by decide) ..
    simp only [if_pos reserved]
    exact ⟨_, rfl, hs.wr, written, kept⟩
  · have both : ((s.wr F.AUX_CTRL.SPREAD_DEPTH [d] (v / 4)).wr F.AUX_CTRL.SPREAD_MODE [d] (v % 4)).rd F.AUX_CTRL.SPREAD_MODE [d] = v % 4 :=
      rd_wr_self_of_lt hs.wr _ _ (Nat.mod_lt _ (by decide))
    have stays : ((s.wr F.AUX_CTRL.SPREAD_DEPTH [d] (v / 4)).wr F.AUX_CTRL.SPREAD_MODE [d] (v % 4)).rd F.AUX_CTRL.SPREAD_DEPTH [d] = v / 4 :=
      (rd_wr_of_lo (by decide) ..).trans written
    simp only [if_neg reserved]
    exact ⟨_, rfl, hs.wr.wr, stays, both⟩

end State

-- SYN_SET, RAMP and AUX_SET (R354) ---------------------------------------------------------------------------------------------------------

theorem synSet_answers {h : MbxHdr} {v : Nat} {s : State} (hs : s.Sound) (now : s.takesNow h) :
    let d := h.die
    (v % 8 / 2 ≠ 0 → Completes (.synSet h v) s fun t => t.answered h 0x0104 0x0100 [] ∧ t.image .SYN_CTRL [d] = s.image .SYN_CTRL [d]) ∧
    (v % 8 / 2 = 0 → State.imageOk .SYN_CTRL v = true →
      (v % 2 ≠ s.rd F.SYN_CTRL.MODE [d] → s.dieArmed d = true → Completes (.synSet h v) s fun t => t.answered h 0x0104 0x0212 (le 1 0) ∧
        t.rd F.SYN_STATUS.MODE_REJECT [d] = 1 ∧ t.image .SYN_CTRL [d] = s.image .SYN_CTRL [d]) ∧
      (v % 2 = s.rd F.SYN_CTRL.MODE [d] ∨ s.dieArmed d = false → Completes (.synSet h v) s fun t => t.answered h 0x0104 0 (le 1 1) ∧
        t.rd F.SYN_CTRL.MODE [d] = v % 2 ∧ t.rd F.SYN_CTRL.RAMP_REPEAT [d] = v / 8 % 2 ∧ t.rd F.SYN_CTRL.RAMP_LAST [d] = v / 16 % 64 ∧
        t.rd F.SYN_CTRL.ALIAS_EN [d] = v / 1024 % 4)) := by
  intro d
  obtain ⟨notService, notVigil⟩ := State.takesNow_modes now
  obtain ⟨fresh, -⟩ := now
  have carried := fun P v' r => completes_of_carried (c := .synSet h v) (P := P) (v := v') (r := r) rfl fresh
    (State.concernDie_byField fresh 0x0104) (.inr notService) (.inr notVigil)
  have sound := State.take_sound hs h 0x0104
  have mode : (s.take h 0x0104).1.rd F.SYN_CTRL.MODE [d] = s.rd F.SYN_CTRL.MODE [d] := State.take_rd (by decide) ..
  have kept : (s.take h 0x0104).1.image .SYN_CTRL [d] = s.image .SYN_CTRL [d] := State.take_image (by decide) (by decide) ..
  refine ⟨fun commands => ?refused, fun plain ok => ⟨fun change armed => ?armed, fun free => ?written⟩⟩
  case refused =>
    have bad : (slice v 1 2 == 0) = false := by simp only [slice, beq_eq_false_iff_ne]; omega
    refine carried _ _ (.code 0x0100) (onRange_of_false bad ..) (.inl (by decide)) sound fun t done => ⟨done.answered, ?_⟩
    exact (State.image_congr (by decide) fun f hr => done.rd (by rw [hr]; decide) [d]).trans kept
  case armed =>
    have good : (slice v 1 2 == 0) = true := by simp only [slice, beq_iff_eq]; omega
    have refused := State.writeSynCtrl_of_armed (s := (s.take h 0x0104).1) (d := d) (v := v) (by rwa [mode]) (by rwa [State.take_dieArmed])
    refine carried _ _ _ ((onRange_of_true good ..).trans (State.cfgRegs_of_ok ok refused)) (.inl (by decide)) (sound.flag _ _)
      fun t done => ⟨done.answered, ?_, ?_⟩
    · exact (done.rd (by decide) _).trans (State.rd_wr_self sound.regs ..)
    · refine (State.image_congr (by decide) fun f hr => ?_).trans kept
      exact (done.rd (by rw [hr]; decide) [d]).trans (State.rd_wr_of_reg (by rw [hr]; decide) ..)
  case written =>
    have good : (slice v 1 2 == 0) = true := by simp only [slice, beq_iff_eq]; omega
    have start : bitAt v 1 = false := by simp [bitAt]; omega
    have abort : bitAt v 2 = false := by simp [bitAt]; omega
    obtain ⟨u, written, usound, new, again, last, aliasEn⟩ := State.writeSynCtrl_shows sound (d := d) start abort (by rwa [mode, State.take_dieArmed])
    exact carried _ u _ ((onRange_of_true good ..).trans (State.cfgRegs_of_ok ok written)) (.inl ok_short) usound
      fun t done => ⟨done.answered, (done.rd (by decide) _).trans new, (done.rd (by decide) _).trans again, (done.rd (by decide) _).trans last,
        (done.rd (by decide) _).trans aliasEn⟩

theorem ramp_answers {h : MbxHdr} {action : Nat} {s : State} (hs : s.Sound) (now : s.takesNow h) :
    let d := h.die
    (action = 0 → s.rampRefused d → Completes (.ramp h action) s fun t => t.answered h 0x0105 0x0205 [] ∧ t.rd F.SYN_STATUS.RAMP_REJECT [d] = 1 ∧
      t.rd F.SYN_STATUS.RAMP_ACTIVE [d] = s.rd F.SYN_STATUS.RAMP_ACTIVE [d]) ∧
    (action = 0 → ¬s.rampRefused d → Completes (.ramp h action) s fun t => t.answered h 0x0105 0 [] ∧ t.rd F.SYN_STATUS.RAMP_ACTIVE [d] = 1 ∧
      t.rd F.SYN_STATUS.RAMP_SEG [d] = 0) ∧
    (action = 1 → Completes (.ramp h action) s fun t => t.answered h 0x0105 0 [] ∧ t.rd F.SYN_STATUS.RAMP_ACTIVE [d] = 0) ∧
    (1 < action → Completes (.ramp h action) s fun t => t.answered h 0x0105 0x0100 []) := by
  intro d
  obtain ⟨notService, notVigil⟩ := State.takesNow_modes now
  obtain ⟨fresh, -⟩ := now
  have carried := fun P v r => completes_of_carried (c := .ramp h action) (P := P) (v := v) (r := r) rfl fresh
    (State.concernDie_byField fresh 0x0105) (.inr notService) (.inr notVigil)
  have sound := State.take_sound hs h 0x0105
  refine ⟨?refused, ?started, ?aborted, fun range => ?range⟩
  case refused =>
    rintro rfl refused
    have flagged := State.rampStart_of_refused ((s.take_rampRefused h 0x0105 d).mpr refused)
    refine carried _ ((s.take h 0x0105).1.flag F.SYN_STATUS.RAMP_REJECT [d]) (.code 0x0205) ?_ (.inl (by decide)) (sound.flag _ _)
      fun t done => ⟨done.answered, ?_, ?_⟩
    · rw [onRange_of_true (by decide), if_pos rfl, flagged, State.answerCode_eq]
    · exact (done.rd (by decide) _).trans (State.rd_wr_self sound.regs ..)
    · exact (done.rd (by decide) _).trans ((State.rd_wr_of_lo (by decide) ..).trans (State.take_rd (by decide) ..))
  case started =>
    rintro rfl allowed
    obtain ⟨u, started, usound, active, seg⟩ := State.rampStart_shows sound (mt (s.take_rampRefused h 0x0105 d).mp allowed)
    refine carried _ u (.code 0) ?_ (.inl ok_short) usound
      fun t done => ⟨done.answered, (done.rd (by decide) _).trans active, (done.rd (by decide) _).trans seg⟩
    rw [onRange_of_true (by decide), if_pos rfl, started, State.answerCode_eq]
  case aborted =>
    rintro rfl
    obtain ⟨usound, ended⟩ := State.rampAbort_inactive sound d
    refine carried _ ((s.take h 0x0105).1.rampAbort d) (.code 0) ?_ (.inl ok_short) usound
      fun t done => ⟨done.answered, (done.rd (by decide) _).trans ended⟩
    rw [onRange_of_true (by decide), if_neg (by decide), State.answerCode_eq]
  case range =>
    have out : decide (action ≤ 1) = false := by simpa using range
    exact carried _ _ (.code 0x0100) (onRange_of_false out ..) (.inl (by decide)) sound fun _ done => done.answered

theorem auxSet_answers {h : MbxHdr} {v : Nat} {s : State} (hs : s.Sound) (now : s.takesNow h) (fits : v < 256) :
    let d := h.die
    (50 < v / 4 → Completes (.auxSet h v) s fun t => t.answered h 0x0107 0x0100 (le 1 0) ∧ t.image .AUX_CTRL [d] = s.image .AUX_CTRL [d]) ∧
    (v / 4 ≤ 50 → Completes (.auxSet h v) s fun t => t.rd F.AUX_CTRL.SPREAD_DEPTH [d] = v / 4 ∧
      t.answered h 0x0107 (if v % 4 = 3 then 0x0100 else 0) (le 1 (if v % 4 = 3 then 0 else 1)) ∧
      t.rd F.AUX_CTRL.SPREAD_MODE [d] = if v % 4 = 3 then s.rd F.AUX_CTRL.SPREAD_MODE [d] else v % 4) := by
  intro d
  obtain ⟨notService, notVigil⟩ := State.takesNow_modes now
  obtain ⟨fresh, -⟩ := now
  have carried := fun P v' r => completes_of_carried (c := .auxSet h v) (P := P) (v := v') (r := r) rfl fresh
    (State.concernDie_byField fresh 0x0107) (.inr notService) (.inr notVigil)
  have sound := State.take_sound hs h 0x0107
  have ok : State.imageOk .AUX_CTRL v = true := (State.imageOk_iff_lt (n := 8) (by decide) v).mpr fits
  refine ⟨fun deep => ?deep, fun shallow => ?written⟩
  case deep =>
    have ignored := State.writeAuxCtrl_of_deep (d := d) fits deep (s.take h 0x0107).1
    refine carried _ _ _ (State.cfgRegs_of_ok ok ignored) (.inl (by decide)) sound fun t done => ⟨done.answered, ?_⟩
    exact (State.image_congr (by decide) fun f hr => done.rd (by rw [hr]; decide) [d]).trans (State.take_image (by decide) (by decide) ..)
  case written =>
    obtain ⟨u, written, usound, depth, mode⟩ := State.writeAuxCtrl_shows sound (d := d) fits shallow
    refine carried _ u _ (State.cfgRegs_of_ok ok written) (.inl ?_) usound fun t done => ⟨(done.rd (by decide) _).trans depth, ?_, ?_⟩
    · show (if v % 4 = 3 then 0x0100 else 0) ≠ 1 ∧ (if v % 4 = 3 then 0x0100 else 0) ≠ 2
      split <;> decide
    · have answered := done.answered
      by_cases reserved : v % 4 = 3
      · simpa [reserved] using answered
      · simpa [reserved] using answered
    · rw [done.rd (by decide), mode, State.take_rd (by decide)]

end Sys2Proof.Machine
end

section
/-!
PROOFS. CUE_SET (R66, R354): a cue armed, cancelled or refused by the mailbox.
-/

namespace Sys2Proof.Machine

-- One proof at a time: proofs elaborated side by side ask for more memory than a compile of the whole text may take.
set_option Elab.async false

namespace State

-- What taking a command leaves of the clock (R30, R40, R62) -----------------------------------------------------------------------

theorem take_blkOf (s : State) (h : MbxHdr) (op d : Nat) : (s.take h op).1.blkOf d = s.blkOf d :=
  blkOf_congr (take_mode ..) (take_dt ..)
    (fun k hk => (s.take_frame h op).regs k fun e => absurd hk ((by decide : ∀ r ∈ [takeRegs].flatten, r ∉ Reg.ofClock) _ e)) d

theorem take_nextBlk (s : State) (h : MbxHdr) (op d : Nat) : (s.take h op).1.nextBlk d = s.nextBlk d := by
  have grid : (s.take h op).1.offGrid d = s.offGrid d := by simp (disch := decide) only [offGrid, fractional, take_isSet, take_rd]
  have offset : (s.take h op).1.offsetNow d = s.offsetNow d := by simp (disch := decide) only [offsetNow, rampCycles, take_isSet, take_rd]
  have rate : (s.take h op).1.clkRate d = s.clkRate d := by
    unfold clkRate fractional
    rw [offset, take_rd (by decide), take_rd (by decide), take_isSet (by decide)]
  have inst : ∀ c, (s.take h op).1.instOf d c = s.instOf d c := fun c => by
    simp (disch := decide) only [instOf, grid, rate, dtInst, take_dt, take_rd]
  simp (disch := decide) only [nextBlk, blkSpan, grid, inst, take_blk, take_mode, take_rd]

theorem take_dueOn (s : State) (h : MbxHdr) (op d t : Nat) : (s.take h op).1.dueOn d t = s.dueOn d t := by
  have before : (s.take h op).1.dtPrev = s.dtPrev := (s.take_frame h op).parts .dtPrev (by decide)
  simp only [dueOn, landsOn, take_mode, take_blkOf, take_nextBlk, take_dt, before]

theorem take_cueDue (s : State) (h : MbxHdr) (op d n : Nat) : (s.take h op).1.cueDue d n = s.cueDue d n := by
  have now : (s.take h op).1.now = s.now := (s.take_frame h op).parts .now (by decide)
  simp (disch := decide) only [cueDue, take_rd, take_isSet, take_dueOn, now]

-- The words of a cue (R66) ------------------------------------------------------------------------------------------------------------

/-- A number of 64 bits is written in two words. -/
theorem putWord_putWord {v : Nat} (hv : v < 2 ^ 64) (old : Nat) :
    trunc 64 (putWord (trunc 64 (putWord old 0 v)) 1 (v / 2 ^ 32)) = v := by
  simp only [trunc, putWord, slice]
  omega

/-- The third word of a cue that CUE_SET makes: fraction, action and state. -/
def cueWord2 (frac action state : Nat) : Nat := frac + 2 ^ 16 * action + 2 ^ 24 * state

theorem cueWord2_state {frac action : Nat} (hf : frac < 2 ^ 16) (ha : action < 256) {state : Nat} (hs : state < 256) :
    cueWord2 frac action state / 2 ^ 24 % 256 = state := by
  simp only [cueWord2]
  omega

/-- A PENDING cue is not armed again (R66). -/
theorem cueSetAll_of_pending {s : State} {d n : Nat} (pending : s.rd F.CUE.STATE [d, n] = 1) (action target flags frac param ticks : Nat) :
    s.cueSetAll n action 1 target flags frac param ticks d = (s, .code 0x022A) := by
  rw [cueSetAll, if_pos pending, if_pos rfl]

/-- A PENDING cue that does not execute in this cycle is cancelled. -/
theorem cueSetAll_of_cancelled {s : State} {d n action frac : Nat} (pending : s.rd F.CUE.STATE [d, n] = 1) (waits : s.cueDue d n = false)
    (hf : frac < 2 ^ 16) (ha : action < 256) (target flags param ticks : Nat) :
    s.cueSetAll n action 4 target flags frac param ticks d = (s.endCue d n 4).answerWith (le 1 ((s.endCue d n 4).rd F.CUE.STATE [d, n])) := by
  have cancels := writeCueWord_cancels pending (cueWord2_state hf ha (state := 4) (by decide)) waits
  rw [cueSetAll, if_pos pending, if_neg (by decide), waits, if_neg Bool.false_ne_true]
  exact congrArg (fun u : State => u.answerWith (le 1 (u.rd F.CUE.STATE [d, n]))) cancels

theorem Sound.armCue {s : State} (hs : s.Sound) {d n : Nat} : (s.armCue d n).Sound := hs.wr.wr.wr.wr.wr

/-- The fields of a cue as CUE_SET writes them before it arms the cue. -/
def cueLoaded (s : State) (d n action target flags frac param ticks : Nat) : State :=
  let s := s.wr F.CUE.DT_TICKS [d, n] (putWord (s.rd F.CUE.DT_TICKS [d, n]) 0 ticks)
  let s := s.wr F.CUE.DT_TICKS [d, n] (putWord (s.rd F.CUE.DT_TICKS [d, n]) 1 (ticks / 2 ^ 32))
  let s := ((s.wr F.CUE.TARGET [d, n] (slice (target + 2 ^ 16 * flags) 0 16)).wr F.CUE.NOTIFY [d, n] (slice (target + 2 ^ 16 * flags) 24 1)).wr
    F.CUE.PARAM [d, n] param
  (s.wr F.CUE.DT_FRAC [d, n] (slice (cueWord2 frac action 1) 0 12)).wr F.CUE.ACTION [d, n] (slice (cueWord2 frac action 1) 16 8)

/-- A cue that is not PENDING takes its fields, and is armed. -/
theorem cueSetAll_of_idle {s : State} {d n action frac : Nat} (idle : s.rd F.CUE.STATE [d, n] ≠ 1) (hf : frac < 2 ^ 16) (ha : action < 256)
    (target flags param ticks : Nat) : s.cueSetAll n action 1 target flags frac param ticks d =
      ((s.cueLoaded d n action target flags frac param ticks).armCue d n).answerWith
        (le 1 (((s.cueLoaded d n action target flags frac param ticks).armCue d n).rd F.CUE.STATE [d, n])) := by
  let a : State := s.wr F.CUE.DT_TICKS [d, n] (putWord (s.rd F.CUE.DT_TICKS [d, n]) 0 ticks)
  let b : State := a.wr F.CUE.DT_TICKS [d, n] (putWord (a.rd F.CUE.DT_TICKS [d, n]) 1 (ticks / 2 ^ 32))
  let e : State := (b.wr F.CUE.TARGET [d, n] (slice (target + 2 ^ 16 * flags) 0 16)).wr F.CUE.NOTIFY [d, n]
    (slice (target + 2 ^ 16 * flags) 24 1)
  have still : ∀ {u : State} {f : Fld} {v : Nat}, f.lo ≠ F.CUE.STATE.lo → u.rd F.CUE.STATE [d, n] ≠ 1 → (u.wr f [d, n] v).rd F.CUE.STATE [d, n] ≠ 1 :=
    fun hl hu => by rwa [rd_wr_of_lo (Ne.symm hl)]
  have ha' : a.rd F.CUE.STATE [d, n] ≠ 1 := still (by decide) idle
  have hb : b.rd F.CUE.STATE [d, n] ≠ 1 := still (by decide) ha'
  have he : e.rd F.CUE.STATE [d, n] ≠ 1 := still (by decide) (still (by decide) hb)
  have word0 : writeCueWord d n 0 ticks s = a := if_neg idle
  have word1 : writeCueWord d n 1 (ticks / 2 ^ 32) a = b := if_neg ha'
  have word3 : writeCueWord d n 3 (target + 2 ^ 16 * flags) b = e := if_neg hb
  have word4 : writeCueWord d n 4 param e = e.wr F.CUE.PARAM [d, n] param := if_neg he
  have word2 := writeCueWord_arms (still (v := param) (f := F.CUE.PARAM) (by decide) he) (cueWord2_state hf ha (state := 1) (by decide))
  have words : writeCueWord d n 2 (cueWord2 frac action 1) (writeCueWord d n 4 param (writeCueWord d n 3 (target + 2 ^ 16 * flags)
      (writeCueWord d n 1 (ticks / 2 ^ 32) (writeCueWord d n 0 ticks s)))) = (s.cueLoaded d n action target flags frac param ticks).armCue d n := by
    rw [word0, word1, word3, word4, word2]
    rfl
  rw [cueSetAll, if_neg idle]
  exact congrArg (fun u : State => u.answerWith (le 1 (u.rd F.CUE.STATE [d, n]))) words

/-- The fields of the cue that is armed. -/
theorem cueLoaded_shows {s : State} (hs : s.Sound) {action target flags frac param ticks : Nat} (hf : frac < 2 ^ 16) (ha : action < 256)
    (ht : target < 2 ^ 16) (hp : param < 2 ^ 32) (hk : ticks < 2 ^ 64) (d n : Nat) :
    let t := s.cueLoaded d n action target flags frac param ticks
    t.Sound ∧ t.rd F.CUE.DT_TICKS [d, n] = ticks ∧ t.rd F.CUE.DT_FRAC [d, n] = frac % 4096 ∧ t.rd F.CUE.ACTION [d, n] = action ∧
      t.rd F.CUE.TARGET [d, n] = target ∧ t.rd F.CUE.NOTIFY [d, n] = flags / 256 % 2 ∧ t.rd F.CUE.PARAM [d, n] = param ∧
      t.blkOf d = s.blkOf d := by
  have h1 : (s.wr F.CUE.DT_TICKS [d, n] (putWord (s.rd F.CUE.DT_TICKS [d, n]) 0 ticks)).Sound := hs.wr
  simp (disch := decide) only [cueLoaded, rd_wr_of_lo, blkOf_wr, rd_wr_self hs.regs, rd_wr_self h1.regs, rd_wr_self h1.wr.regs,
    rd_wr_self h1.wr.wr.regs, rd_wr_self h1.wr.wr.wr.regs, rd_wr_self h1.wr.wr.wr.wr.regs, rd_wr_self h1.wr.wr.wr.wr.wr.regs]
  refine ⟨h1.wr.wr.wr.wr.wr.wr, putWord_putWord hk _, ?_, ?_, ?_, ?_, Nat.mod_eq_of_lt hp, trivial⟩
  all_goals
    simp only [trunc, slice, cueWord2]
    omega

end State

theorem cueSet_answers {h : MbxHdr} {n action state target flags frac param ticks : Nat} {s : State} (hs : s.Sound) (now : s.takesNow h)
    (ha : action < 256) (ht : target < 2 ^ 16) (hf : frac < 2 ^ 16) (hp : param < 2 ^ 32) (hk : ticks < 2 ^ 64) :
    let d := h.die
    let c : Instr := .cueSet h n action state target flags frac param ticks
    (256 ≤ n ∨ state ≠ 1 ∧ state ≠ 4 → Completes c s fun t => t.answered h 0x0106 0x0100 []) ∧
    (n < 256 → state = 1 → s.rd F.CUE.STATE [d, n] = 1 → Completes c s fun t => t.answered h 0x0106 0x022A [] ∧
      t.image .CUE [d, n] = s.image .CUE [d, n]) ∧
    (n < 256 → state = 4 → s.rd F.CUE.STATE [d, n] = 1 → s.cueDue d n = false → Completes c s fun t => t.answered h 0x0106 0 (le 1 4) ∧
      t.rd F.CUE.STATE [d, n] = 4 ∧ t.rd F.CUE.DT_TICKS [d, n] = s.rd F.CUE.DT_TICKS [d, n]) ∧
    (n < 256 → state = 1 → s.rd F.CUE.STATE [d, n] ≠ 1 → Completes c s fun t => t.answered h 0x0106 0 (le 1 1) ∧
      t.rd F.CUE.STATE [d, n] = 1 ∧ t.rd F.CUE.DT_TICKS [d, n] = ticks ∧ t.rd F.CUE.DT_FRAC [d, n] = frac % 4096 ∧
      t.rd F.CUE.ACTION [d, n] = action ∧ t.rd F.CUE.TARGET [d, n] = target ∧ t.rd F.CUE.NOTIFY [d, n] = flags / 256 % 2 ∧
      t.rd F.CUE.PARAM [d, n] = param ∧ t.rd F.CUE.LATE [d, n] = b2n (!dtGe ticks (s.blkOf d))) := by
  intro d c
  obtain ⟨notService, notVigil⟩ := State.takesNow_modes now
  obtain ⟨fresh, -⟩ := now
  have carried := fun P v r => completes_of_carried (c := c) (P := P) (v := v) (r := r) rfl fresh
    (State.concernDie_byField fresh 0x0106) (.inr notService) (.inr notVigil)
  have sound := State.take_sound hs h 0x0106
  have taken : (s.take h 0x0106).1.rd F.CUE.STATE [d, n] = s.rd F.CUE.STATE [d, n] := State.take_rd (by decide) ..
  refine ⟨fun range => ?range, fun low => ?pending, fun low => ?cancelled, fun low => ?armed⟩
  case range =>
    have out : (decide (n < 256) && (state == 1 || state == 4)) = false := by simp; omega
    exact carried _ _ (.code 0x0100) (onRange_of_false out ..) (.inl (by decide)) sound fun _ done => done.answered
  case pending =>
    rintro rfl pending
    refine carried _ _ (.code 0x022A) ((onRange_of_true (by simp [low]) ..).trans (State.cueSetAll_of_pending (taken.trans pending) ..))
      (.inl (by decide)) sound fun t done => ⟨done.answered, ?_⟩
    exact (State.image_congr (by decide) fun f hr => done.rd (by rw [hr]; decide) [d, n]).trans (State.take_image (by decide) (by decide) ..)
  case cancelled =>
    rintro rfl pending waits
    have ends := State.cueSetAll_of_cancelled (taken.trans pending) ((s.take_cueDue h 0x0106 d n).trans waits) hf ha target flags param ticks
    obtain ⟨shown, -⟩ := State.endCue_shows sound d n (state := 4) (by decide)
    rw [shown] at ends
    refine carried _ ((s.take h 0x0106).1.endCue d n 4) (.ok (le 1 4)) ((onRange_of_true (by simp [low]) ..).trans ends) (.inl ok_short)
      (State.endCue_sound sound ..) fun t done => ⟨done.answered, (done.rd (by decide) _).trans shown, ?_⟩
    exact (done.rd (by decide) _).trans ((State.rd_wr_of_reg (by decide) ..).trans ((State.rd_wr_of_lo (by decide) ..).trans (State.take_rd (by decide) ..)))
  case armed =>
    rintro rfl idle
    have arms := State.cueSetAll_of_idle (s := (s.take h 0x0106).1) (by rwa [taken]) hf ha target flags param ticks
    obtain ⟨loaded, hticks, hfrac, haction, htarget, hnotify, hparam, hblk⟩ :=
      State.cueLoaded_shows sound hf ha ht hp hk d n (flags := flags) (action := action)
    obtain ⟨shown, -, late, -, others⟩ := State.armCue_shows loaded d n
    rw [shown] at arms
    refine carried _ (((s.take h 0x0106).1.cueLoaded d n action target flags frac param ticks).armCue d n) (.ok (le 1 1))
      ((onRange_of_true (by simp [low]) ..).trans arms) (.inl ok_short) loaded.armCue fun t done => ?_
    have rd : ∀ f : Fld, f.reg = .CUE → f.lo ∉ [F.CUE.STATE.lo, F.CUE.STEPPED.lo, F.CUE.LATE.lo] → ∀ {v},
        ((s.take h 0x0106).1.cueLoaded d n action target flags frac param ticks).rd f [d, n] = v → t.rd f [d, n] = v :=
      fun f hr hl v hv => (done.rd (by rw [hr]; decide) _).trans ((others f hr hl).trans hv)
    refine ⟨done.answered, (done.rd (by decide) _).trans shown, rd _ rfl (by decide) hticks, rd _ rfl (by decide) hfrac, rd _ rfl (by decide) haction,
      rd _ rfl (by decide) htarget, rd _ rfl (by decide) hnotify, rd _ rfl (by decide) hparam, ?_⟩
    rw [done.rd (by decide), late, hticks, hblk, State.take_blkOf]

end Sys2Proof.Machine
end

section
/-!
PROOFS. The mailbox commands of the system and time groups (R353, R354, R365), put together.
-/

namespace Sys2Proof.Machine

/-- Settles O28: each command is taken, does its work on the state in which it is taken, and is answered; a late one does so as its
cycle ends. -/
theorem mailboxSystemAndTime : Obligations.MailboxSystemAndTime := by
  unfold Obligations.MailboxSystemAndTime
  refine ⟨fun h s hs fresh => queries_answer hs fresh, fun h tag s hs fresh => longResult_answers hs fresh,
    fun h first count addr q s hs fresh => ?logs,
    fun h mode m s hs fresh unlocked => modeSet_answers hs fresh unlocked, fun h tag s hs now => abort_answers hs now,
    fun h v resume s hs now => ?reference, fun h v action s hs now => ?synth,
    fun h n action state target flags frac param ticks s hs now ha ht _ hf hp hk => cueSet_answers hs now ha ht hf hp hk,
    fun h v s hs now fits => auxSet_answers hs now fits, fun c h op s late fresh closes => ?late⟩
  case logs =>
    obtain ⟨reads, range⟩ := vlogRead_answers (first := first) (count := count) (addr := addr) hs fresh
    exact ⟨reads, range, ringReset_answers hs fresh⟩
  case reference =>
    obtain ⟨reserved, written⟩ := refSet_answers (v := v) hs now
    exact ⟨reserved, written, refResume_answers hs now⟩
  case synth =>
    obtain ⟨commands, plain⟩ := synSet_answers (v := v) hs now
    obtain ⟨refused, started, aborted, range⟩ := ramp_answers (action := action) hs now
    exact ⟨commands, plain, ⟨refused, started⟩, aborted, range⟩
  case late =>
    obtain ⟨k, con, body, runs⟩ := lateCommand_runs late
    rw [runs, runs, State.mbxAtEnd_take fresh closes]

end Sys2Proof.Machine
end

section
/-!
PROOFS. The mailbox commands of the converter and calibration groups (R354) that name a global channel: those that ask, ATTEN_SET, OVLD_EVT.
-/

namespace Sys2Proof.Machine

-- One proof at a time: proofs elaborated side by side ask for more memory than a compile of the whole text may take.
set_option Elab.async false

namespace State

-- The die and the channel that a command names (R344) ---------------------------------------------------------------------------

/-- A command on a channel of a die in service concerns that die. -/
theorem concernDie_channel {s : State} {h : MbxHdr} {ch : Nat} (fresh : s.takesFresh h) (hch : ch < 4) (works : s.dieRetired (ch / 2) = false)
    (op : Nat) : (s.take h op).1.concernDie h (chanConcern ch) = .ok (ch / 2) := by
  obtain ⟨-, -, -, unnamed⟩ := fresh
  simp [chanConcern, hch, concernDie, unnamed, take_dieRetired, works]

/-- A number above 3 names no channel: the command concerns the die that took it. -/
theorem concernDie_noChannel {s : State} {h : MbxHdr} {ch : Nat} (fresh : s.takesFresh h) (hch : 4 ≤ ch) (op : Nat) :
    (s.take h op).1.concernDie h (chanConcern ch) = .ok h.die := by
  rw [chanConcern, if_neg (Nat.not_lt.mpr hch)]
  exact concernDie_byField fresh op

theorem take_regBytes {r : Reg} (own : ∀ i ∈ r.fields, i.fld.reg = r) (hr : r ∉ takeRegs) (s : State) (h : MbxHdr) (op : Nat) (ix : List Nat) :
    (s.take h op).1.regBytes r ix = s.regBytes r ix := congrArg (le 4) (take_image own hr ..)

end State

/-- A command on a channel does its work on it. -/
theorem onChan_of_lt {ch : Nat} (hch : ch < 4) (f : State → Nat → Nat → State × Reply) (s : State) (d : Nat) :
    onChan ch f s d = f s d (ch % 2) := if_pos hch

theorem onChan_of_ge {ch : Nat} (hch : 4 ≤ ch) (f : State → Nat → Nat → State × Reply) (s : State) (d : Nat) :
    onChan ch f s d = (s, .code 0x0100) := if_neg (Nat.not_lt.mpr hch)

-- The commands that ask (R354) ----------------------------------------------------------------------------------------------------

/-- CH_STATUS, SLICE_MAP, CARD_STATUS and STORE_STATUS answer the registers they name; TRIM_READ writes them to host memory. -/
theorem channelQueries_answer {h : MbxHdr} {ch addr : Nat} {s : State} (hs : s.Sound) (fresh : s.takesFresh h) (hch : ch < 4)
    (works : s.dieRetired (ch / 2) = false) :
    let d := ch / 2
    let c := ch % 2
    Completes (.chStatus h ch) s (fun t => t.answered h 0x0200 0 (s.regBytes .CNV_STATUS [d, c] ++ s.regBytes .CNV_DIE_STATUS [d])) ∧
    Completes (.sliceMap h ch) s (fun t =>
      t.answered h 0x0203 0 ((List.range 8).flatMap fun g => s.regBytes .CNV_SLICE_MAP [d, c, g])) ∧
    Completes (.cardStatus h ch) s (fun t => t.answered h 0x0301 0 (s.regBytes .CRD_STATUS [d, c])) ∧
    Completes (.storeStatus h) s (fun t => t.answered h 0x0304 0 (s.regBytes .CRD_STORE_STATUS [] ++ s.regBytes .CRD_STORE_GEN [])) ∧
    Completes (.trimRead h ch addr) s fun t => t.answered h 0x0305 0 [] ∧
      Output.mem h.die addr (((List.range 136).flatMap fun i => s.regBytes .CRD_TRIM [d, c, i]) ++
        (List.range 136).flatMap fun i => s.regBytes .CRD_SLICE_STAT [d, c, i]) ∈ t.out := by
  intro d c
  have concern := State.concernDie_channel fresh hch works
  have bytes : ∀ {op : Nat} {r : Reg} {ix : List Nat}, (∀ i ∈ r.fields, i.fld.reg = r) → r ∉ State.takeRegs →
      (s.take h op).1.regBytes r ix = s.regBytes r ix := fun own hr => State.take_regBytes own hr ..
  have asked : ∀ {q : Instr} {op : Nat} {f : State → Nat → Nat → State × Reply} {l : List Byte},
      exec q s = .next (s.mbx h op kindQ (chanConcern ch) (onChan ch f)) → f (s.take h op).1 d c = ((s.take h op).1, .ok l) →
      Completes q s fun t => t.answered h op 0 l := fun run reply =>
    completes_of_asked hs run fresh (concern _) (.inl rfl) (.inl rfl) (r := .ok _) ((onChan_of_lt hch ..).trans reply) ok_short
  refine ⟨asked rfl ?status, asked rfl ?map, asked rfl ?card, ?store, ?trim⟩
  case status => rw [State.answerWith, bytes (by decide) (by decide), bytes (by decide) (by decide)]
  case map => simp only [State.answerWith, bytes (r := .CNV_SLICE_MAP) (by decide) (by decide)]
  case card => rw [State.answerWith, bytes (by decide) (by decide)]
  case store =>
    refine completes_of_asked hs rfl fresh (s.concernDie_package h _) (.inl rfl) (.inl rfl) (r := .ok _) ?_ ok_short
    rw [State.answerWith, bytes (by decide) (by decide), bytes (by decide) (by decide)]
  case trim =>
    have reply := onChan_of_lt hch (fun s d c => s.trimRead h addr d c) (s.take h 0x0305).1 d
    simp only [State.trimRead, bytes (r := .CRD_TRIM) (by decide) (by decide), bytes (r := .CRD_SLICE_STAT) (by decide) (by decide)] at reply
    exact completes_of_carried rfl fresh (concern _) (.inl rfl) (.inl rfl) _ (.code 0) reply (.inl ok_short)
      ((State.take_sound hs h _).emit _) fun t done =>
        ⟨done.answered, done.out.subset (List.mem_append_right _ (List.mem_singleton_self _))⟩

-- The attenuator and the overload thresholds (R76, R81, R289) ------------------------------------------------------------------------

namespace State

/-- A write of THRESH and HYST sets the two fields and shows SETTLING where the unit is powered; other units keep theirs. -/
theorem writeCmpThresh_shows {s : State} (hs : s.Sound) (d u v : Nat) :
    let t := (writeCmpThresh d u v s).1
    t.Sound ∧ t.rd F.CMP_THRESH.THRESH [d, u] = v % 4096 ∧ t.rd F.CMP_THRESH.HYST [d, u] = v / 4096 % 64 ∧
      (s.rd I.cmpPower [d, u] ≠ 0 → t.rd F.CMP_STATUS.SETTLING [d, u] = 1) ∧
      ∀ (f : Fld) (w : Nat), f.reg = .CMP_THRESH → w ≠ u → t.rd f [d, w] = s.rd f [d, w] := by
  intro t
  let a : State := (s.wr F.CMP_THRESH.THRESH [d, u] (slice v 0 12)).wr F.CMP_THRESH.HYST [d, u] (slice v 12 6)
  let m : Nat := a.rd F.CMP_STATUS.MODE_ACT [d, u]
  let b : State := a.on (a.isSet I.cmpPower [d, u]) fun s => s.cmpSettle d u m m
  have settles : Within (Foot.without [.CMP_THRESH] []) a b := (Within.refl _ a).on fun _ hu => cmpSettle_within (by decide +kernel) hu ..
  have window : Within (Foot.without [.CMP_THRESH, .CMP_STATUS] []) b t := syncUnitWin_within (by decide +kernel) (.refl _ b) ..
  have sound : a.Sound := hs.wr.wr
  have kept : ∀ f : Fld, f.reg = .CMP_THRESH → ∀ w, t.rd f [d, w] = a.rd f [d, w] := fun f hf w =>
    (window.rd _ _ (by rw [hf]; decide +kernel)).trans (settles.rd _ _ (by rw [hf]; decide +kernel))
  refine ⟨window.sound (settles.sound sound), (kept _ rfl u).trans ?_, (kept _ rfl u).trans ?_, fun powered => ?_, fun f w hf hw => (kept f hf w).trans ?_⟩
  · rw [rd_wr_of_lo (by decide), rd_wr_self hs.regs]
    simp [slice, trunc]
  · rw [rd_wr_self hs.wr.regs]
    simp [slice, trunc]
  · have on : a.isSet I.cmpPower [d, u] = true := by
      rw [isSet, rd_wr_of_reg (by decide), rd_wr_of_reg (by decide)]
      exact bne_iff_ne.mpr powered
    have e : b = a.cmpSettle d u m m := on_of_true on ..
    rw [window.rd _ _ (by decide +kernel), e]
    exact (rd_wr_of_reg (by decide) ..).trans (rd_wr_self sound.regs ..)
  · have ne : [d, w] ≠ [d, u] := by simpa using hw
    rw [rd_wr_of_ix ne, rd_wr_of_ix ne]

/-- The thresholds of a channel's overload pair are those of its ATTEN, with HYST 4 (R289). -/
theorem ovldThresholds_shows {s : State} (hs : s.Sound) (d c : Nat) :
    let t := s.ovldThresholds d c
    let v := ovldThresh (s.rd F.CNV_CTRL.ATTEN [d, c])
    t.Sound ∧ t.rd F.CMP_THRESH.THRESH [d, 2 + 2 * c] = v ∧ t.rd F.CMP_THRESH.THRESH [d, 3 + 2 * c] = 4096 - v ∧
      t.rd F.CMP_THRESH.HYST [d, 2 + 2 * c] = 4 ∧ t.rd F.CMP_THRESH.HYST [d, 3 + 2 * c] = 4 := by
  intro t v
  have range : 0 < v ∧ v < 4096 := by
    have all : ∀ a, 0 < ovldThresh a ∧ ovldThresh a < 4096 := fun a => by unfold ovldThresh; split <;> decide
    exact all _
  obtain ⟨upper, high, hystHigh, -, -⟩ := writeCmpThresh_shows hs d (2 + 2 * c) (v + 2 ^ 12 * 4)
  obtain ⟨sound, low, hystLow, -, others⟩ := writeCmpThresh_shows upper d (3 + 2 * c) (4096 - v + 2 ^ 12 * 4)
  have ne : 2 + 2 * c ≠ 3 + 2 * c := by omega
  exact ⟨sound, (others _ _ rfl ne).trans (high.trans (by omega)), low.trans (by omega), (others _ _ rfl ne).trans (hystHigh.trans (by omega)),
    hystLow.trans (by omega)⟩

/-- The attenuator takes a setting and settles (R76): the gain taps and the overload thresholds follow it. -/
def attenActs (d c v : Nat) (s : State) : State :=
  let s := ((s.wr F.CNV_CTRL.ATTEN [d, c] v).wr F.CNV_STATUS.SETTLING [d, c] 1).wr I.settleAt [d, c] s.now
  (s.each (s.arraysOf c) fun s x => s.showGain d x).ovldThresholds d c

theorem writeAtten_of_same {s : State} {d c v : Nat} (same : v = s.rd F.CNV_CTRL.ATTEN [d, c]) : writeAtten d c v s = (s, 0) := if_pos same

/-- The second channel of a pair only stores its setting. -/
theorem writeAtten_of_stored {s : State} {d c v : Nat} (change : v ≠ s.rd F.CNV_CTRL.ATTEN [d, c]) (second : s.mode = .paired ∧ c = 1) :
    writeAtten d c v s = (s.wr F.CNV_CTRL.ATTEN [d, c] v, 0) := by
  rw [writeAtten, if_neg change, if_pos (by simpa using second)]

theorem writeAtten_of_armed {s : State} {d c v : Nat} (change : v ≠ s.rd F.CNV_CTRL.ATTEN [d, c]) (own : ¬(s.mode = .paired ∧ c = 1))
    (armed : s.armed d c = true) : writeAtten d c v s = (s.flag F.CNV_STATUS.ATTEN_REJECT [d, c], 0x0212) := by
  rw [writeAtten, if_neg change, if_neg (by simpa using own), if_pos armed]

theorem writeAtten_of_idle {s : State} {d c v : Nat} (change : v ≠ s.rd F.CNV_CTRL.ATTEN [d, c]) (own : ¬(s.mode = .paired ∧ c = 1))
    (idle : s.armed d c = false) : writeAtten d c v s = (attenActs d c v s, 0) := by
  rw [writeAtten, if_neg change, if_neg (by simpa using own), if_neg (by simp [idle])]
  rfl

/-- A setting that acts is shown with SETTLING and the thresholds of R289. -/
theorem attenActs_shows {s : State} (hs : s.Sound) (d c : Nat) {v : Nat} (hv : v < 8) :
    let t := attenActs d c v s
    t.Sound ∧ t.rd F.CNV_CTRL.ATTEN [d, c] = v ∧ t.rd F.CNV_STATUS.SETTLING [d, c] = 1 ∧
      t.rd F.CMP_THRESH.THRESH [d, 2 + 2 * c] = ovldThresh v ∧ t.rd F.CMP_THRESH.THRESH [d, 3 + 2 * c] = 4096 - ovldThresh v ∧
      t.rd F.CMP_THRESH.HYST [d, 2 + 2 * c] = 4 ∧ t.rd F.CMP_THRESH.HYST [d, 3 + 2 * c] = 4 := by
  intro t
  let a : State := ((s.wr F.CNV_CTRL.ATTEN [d, c] v).wr F.CNV_STATUS.SETTLING [d, c] 1).wr I.settleAt [d, c] s.now
  let b : State := a.each (a.arraysOf c) fun s x => s.showGain d x
  have gains : Within (Foot.without [.CNV_CTRL, .CNV_STATUS] []) a b := .each (.refl _ a) fun _ _ hu => showGain_within (by decide +kernel) hu ..
  have thresholds : Within (Foot.without [.CNV_CTRL, .CNV_STATUS] []) b t := ovldThresholds_within (by decide +kernel) (.refl _ b) ..
  have atten : b.rd F.CNV_CTRL.ATTEN [d, c] = v := (gains.rd _ _ (by decide +kernel)).trans
    ((rd_wr_of_reg (by decide) ..).trans ((rd_wr_of_reg (by decide) ..).trans (rd_wr_self_of_lt hs _ _ hv)))
  have settling : b.rd F.CNV_STATUS.SETTLING [d, c] = 1 := (gains.rd _ _ (by decide +kernel)).trans
    ((rd_wr_of_reg (by decide) ..).trans (rd_wr_self hs.wr.regs ..))
  obtain ⟨sound, shown⟩ := ovldThresholds_shows (gains.sound hs.wr.wr.wr) d c
  rw [atten] at shown
  exact ⟨sound, (thresholds.rd _ _ (by decide +kernel)).trans atten, (thresholds.rd _ _ (by decide +kernel)).trans settling, shown⟩

end State

-- ATTEN_SET and OVLD_EVT (R354) -------------------------------------------------------------------------------------------------------

namespace State

/-- The reply of a configuration command with one write. -/
theorem cfgReply_one {w : State → State × Nat} {s u : State} {code : Nat} (written : w s = (u, code)) :
    cfgReply [] [w] s = (u, ⟨code, le 1 (if code = 0 then 1 else 0), false, 0, none⟩) := by
  by_cases accepted : code = 0
  · subst accepted
    simp [cfgReply, cfgSeq, written]
  · simp [cfgReply, cfgSeq, written, accepted]

/-- A setting of a channel that is not armed is taken, and a change starts settling, but for the second channel of a pair. -/
theorem writeAtten_shows {s : State} (hs : s.Sound) {d c v : Nat} (hv : v < 8) (idle : s.armed d c = false) :
    ∃ t, writeAtten d c v s = (t, 0) ∧ t.Sound ∧ t.rd F.CNV_CTRL.ATTEN [d, c] = v ∧
      (v ≠ s.rd F.CNV_CTRL.ATTEN [d, c] → s.mode ≠ .paired → t.rd F.CNV_STATUS.SETTLING [d, c] = 1) := by
  by_cases change : v = s.rd F.CNV_CTRL.ATTEN [d, c]
  · exact ⟨s, writeAtten_of_same change, hs, change.symm, fun h => absurd change h⟩
  · by_cases second : s.mode = .paired ∧ c = 1
    · exact ⟨_, writeAtten_of_stored change second, hs.wr, rd_wr_self_of_lt hs _ _ hv, fun _ own => absurd second.1 own⟩
    · obtain ⟨sound, atten, settling, -⟩ := attenActs_shows hs d c hv
      exact ⟨_, writeAtten_of_idle change second idle, sound, atten, fun _ _ => settling⟩

end State

theorem attenSet_answers {h : MbxHdr} {ch atten enable : Nat} {s : State} (hs : s.Sound) (now : s.takesNow h) :
    (7 < atten → ch < 4 → s.dieRetired (ch / 2) = false → Completes (.attenSet h ch atten) s fun t => t.answered h 0x0201 0x0100 []) ∧
    (4 ≤ ch → Completes (.attenSet h ch atten) s (fun t => t.answered h 0x0201 0x0100 []) ∧
      Completes (.ovldEvt h ch enable) s fun t => t.answered h 0x0202 0x0100 []) ∧
    (ch < 4 → s.dieRetired (ch / 2) = false →
      let d := ch / 2
      let c := ch % 2
      (atten ≤ 7 → s.armed d c = false → Completes (.attenSet h ch atten) s fun t => t.answered h 0x0201 0 (le 1 1) ∧
        t.rd F.CNV_CTRL.ATTEN [d, c] = atten ∧
        (atten ≠ s.rd F.CNV_CTRL.ATTEN [d, c] → s.mode ≠ .paired → t.rd F.CNV_STATUS.SETTLING [d, c] = 1)) ∧
      (atten ≤ 7 → s.armed d c = true → s.mode ≠ .paired → atten ≠ s.rd F.CNV_CTRL.ATTEN [d, c] →
        Completes (.attenSet h ch atten) s fun t => t.answered h 0x0201 0x0212 (le 1 0) ∧ t.rd F.CNV_STATUS.ATTEN_REJECT [d, c] = 1 ∧
          t.rd F.CNV_CTRL.ATTEN [d, c] = s.rd F.CNV_CTRL.ATTEN [d, c]) ∧
      (enable ≤ 1 → Completes (.ovldEvt h ch enable) s fun t => t.answered h 0x0202 0 (le 1 1) ∧
        t.rd F.CNV_CTRL.OVLD_EVT_EN [d, c] = enable) ∧
      (1 < enable → Completes (.ovldEvt h ch enable) s fun t => t.answered h 0x0202 0x0100 [])) := by
  obtain ⟨notService, notVigil⟩ := State.takesNow_modes now
  obtain ⟨fresh, -⟩ := now
  have sound := State.take_sound hs h
  have refused : ∀ {q : Instr} {op target : Nat} {f : State → Nat → State × Reply},
      exec q s = .next (s.mbx h op kindC (chanConcern ch) f) → (s.take h op).1.concernDie h (chanConcern ch) = .ok target →
      f (s.take h op).1 target = ((s.take h op).1, .code 0x0100) → Completes q s fun t => t.answered h op 0x0100 [] :=
    fun run concern works => completes_of_asked hs run fresh concern (.inr notService) (.inr notVigil) (r := .code 0x0100) works (by decide)
  have outside : ∀ {ok : Bool} (f : State → Nat → Nat → State × Reply), ok = false ∨ 4 ≤ ch → ∀ (u : State) d,
      onRange ok (onChan ch f) u d = (u, .code 0x0100) := fun {ok} f out u d => by
    cases ok
    · exact onRange_of_false rfl ..
    · exact (onRange_of_true rfl ..).trans (onChan_of_ge (out.resolve_left (by decide)) ..)
  refine ⟨fun high hch works => ?range, fun hch => ⟨?noChannel, ?noChannelEvent⟩, fun hch works => ?channel⟩
  case range => exact refused rfl (State.concernDie_channel fresh hch works _) (outside _ (.inl (decide_eq_false (by omega))) _ _)
  case noChannel => exact refused rfl (State.concernDie_noChannel fresh hch _) (outside _ (.inr hch) _ _)
  case noChannelEvent => exact refused rfl (State.concernDie_noChannel fresh hch _) (outside _ (.inr hch) _ _)
  case channel =>
    intro d c
    have concern := State.concernDie_channel fresh hch works
    have armedTaken : (s.take h 0x0201).1.armed d c = s.armed d c := congrFun (State.take_armed ..) c
    have attenTaken : (s.take h 0x0201).1.rd F.CNV_CTRL.ATTEN [d, c] = s.rd F.CNV_CTRL.ATTEN [d, c] := State.take_rd (by decide) ..
    have inside : ∀ {ok : Bool} (f : State → Nat → Nat → State × Reply), ok = true → ∀ u : State, onRange ok (onChan ch f) u d = f u d c :=
      fun f ok u => (onRange_of_true ok ..).trans (onChan_of_lt hch ..)
    refine ⟨fun low idle => ?set, fun low armed own change => ?armed, fun low => ?event, fun high => ?eventRange⟩
    case set =>
      obtain ⟨u, written, usound, atten, settling⟩ := State.writeAtten_shows (sound 0x0201) (Nat.lt_succ_of_le low) (armedTaken.trans idle)
      refine completes_of_carried rfl fresh (concern _) (.inr notService) (.inr notVigil) u _
        ((inside _ (by simp; omega) _).trans (State.cfgReply_one written)) (.inl ok_short) usound
        fun t done => ⟨done.answered, (done.rd (by decide) _).trans atten, fun change own => (done.rd (by decide) _).trans (settling ?_ ?_)⟩
      · rwa [attenTaken]
      · rwa [State.take_mode]
    case armed =>
      have written := State.writeAtten_of_armed (s := (s.take h 0x0201).1) (d := d) (c := c) (by rwa [attenTaken])
        (by rw [State.take_mode]; exact fun p => own p.1) (armedTaken.trans armed)
      refine completes_of_carried rfl fresh (concern _) (.inr notService) (.inr notVigil) _ _
        ((inside _ (by simp; omega) _).trans (State.cfgReply_one written)) (.inl (by decide)) ((sound _).flag _ _)
        fun t done => ⟨done.answered, (done.rd (by decide) _).trans (State.rd_wr_self (sound _).regs ..),
          (done.rd (by decide) _).trans ((State.rd_wr_of_reg (by decide) ..).trans attenTaken)⟩
    case event =>
      refine completes_of_carried rfl fresh (concern _) (.inr notService) (.inr notVigil) _ _
        ((inside _ (by simpa using low) _).trans (State.cfgReply_one (u := (s.take h 0x0202).1.wr F.CNV_CTRL.OVLD_EVT_EN [d, c] enable) rfl))
        (.inl ok_short) (sound _).wr
        fun t done => ⟨done.answered, (done.rd (by decide) _).trans (State.rd_wr_self_of_lt (sound _) _ _ ?_)⟩
      exact Nat.lt_succ_of_le low
    case eventRange => exact refused rfl (concern _) (outside _ (.inl (by simpa using high)) _ _)

end Sys2Proof.Machine
end

section
/-!
PROOFS. A write that acts by the access codes alone (R7).
-/

namespace Sys2Proof.Machine

-- One proof at a time: proofs elaborated side by side ask for more memory than a compile of the whole text may take.
set_option Elab.async false

/-- The low bits of a number whose low word is replaced are those of the new word. -/
theorem slice_putWord_zero {k w : Nat} (h : k + w ≤ 32) (old v : Nat) : slice (putWord old 0 v) k w = slice v k w := by
  have split : putWord old 0 v = 2 ^ 32 * (old / 2 ^ 32) + v % 2 ^ 32 := by
    simp only [putWord, slice, Nat.mul_zero, Nat.pow_zero, Nat.div_one, Nat.mul_one]
    omega
  rw [split]
  refine Nat.eq_of_testBit_eq fun i => ?_
  simp only [slice, Nat.testBit_mod_two_pow, Nat.testBit_div_two_pow]
  by_cases hi : i < w
  · rw [Nat.testBit_two_pow_mul_add _ (Nat.mod_lt _ (by decide)), if_pos (by omega), Nat.testBit_mod_two_pow, decide_eq_true (show i + k < 32 by omega),
      Bool.true_and]
  · simp [hi]

/-- A field within the first word of its register takes the bits written there. -/
theorem fieldWord_zero {f : Fld} (h : f.lo + f.width ≤ 32) (lo : f.lo < 32) (old v : Nat) : fieldWord old f 0 v = slice v f.lo f.width := by
  have k : f.lo % 32 = f.lo := Nat.mod_eq_of_lt lo
  simp only [fieldWord, k, Nat.zero_sub]
  exact slice_putWord_zero h ..

/-- The fields of a register of one word that a write alone sets: all of them, and each where the write puts it. -/
structure PlainWord (r : Reg) : Prop where
  own : ∀ i ∈ r.fields, i.fld.reg = r
  acc : ∀ i ∈ r.fields, i.acc = .RW
  bits : ∀ i ∈ r.fields, 0 < i.fld.width ∧ i.fld.lo + i.fld.width ≤ 32
  apart : (r.fields.map fun i => i.fld.lo).Nodup
  level : r ≠ .EVC_PEND

namespace State

/-- What a write leaves in a field of such a register: its bits, where they are in its range. -/
def written (s : State) (ix : List Nat) (v : Nat) (f : Fld) : Nat :=
  if fieldOk f (slice v f.lo f.width) then slice v f.lo f.width else s.rd f ix

/-- Fields that lie apart are written one after another, each where its value is in its range. -/
theorem each_field_shows (ix : List Nat) (v : Nat) (l : List FldInfo) (apart : (l.map fun i => i.fld.lo).Nodup) {s : State} (hs : s.Sound) :
    let t := s.each l fun s i => s.on (fieldOk i.fld (slice v i.fld.lo i.fld.width)) fun s => s.wr i.fld ix (slice v i.fld.lo i.fld.width)
    t.Sound ∧ (∀ i ∈ l, t.rd i.fld ix = s.written ix v i.fld) ∧ ∀ f : Fld, (∀ i ∈ l, f.lo ≠ i.fld.lo) → t.rd f ix = s.rd f ix := by
  induction l generalizing s with
  | nil => exact ⟨hs, fun _ hi => absurd hi List.not_mem_nil, fun _ _ => rfl⟩
  | cons i l ih =>
    obtain ⟨head, tail⟩ := List.nodup_cons.mp apart
    let f := i.fld
    let a : State := s.on (fieldOk f (slice v f.lo f.width)) fun s => s.wr f ix (slice v f.lo f.width)
    have first : a.Sound ∧ a.rd f ix = s.written ix v f ∧ ∀ g : Fld, g.lo ≠ f.lo → a.rd g ix = s.rd g ix := by
      by_cases ok : fieldOk f (slice v f.lo f.width) = true
      · have e : a = s.wr f ix (slice v f.lo f.width) := on_of_true ok ..
        rw [e, written, if_pos ok]
        exact ⟨hs.wr, rd_wr_self_of_lt hs _ _ (Nat.mod_lt _ (Nat.two_pow_pos _)), fun g hg => rd_wr_of_lo hg ..⟩
      · have e : a = s := on_of_false (by simpa using ok) ..
        rw [e, written, if_neg ok]
        exact ⟨hs, rfl, fun _ _ => rfl⟩
    obtain ⟨asound, shown, others⟩ := first
    obtain ⟨sound, rest, kept⟩ := ih tail asound
    have ne : ∀ j ∈ l, f.lo ≠ j.fld.lo := fun j hj e => head (List.mem_map.mpr ⟨j, hj, e.symm⟩)
    refine ⟨sound, fun j hj => ?_, fun g hg => ?_⟩
    · rcases List.mem_cons.mp hj with rfl | hl
      · exact (kept _ ne).trans shown
      · refine (rest j hl).trans ?_
        rw [written, written, others _ (ne j hl).symm]
    · exact (kept _ fun j hj => hg j (List.mem_cons_of_mem _ hj)).trans (others _ (hg i (List.mem_cons_self ..)))

/-- A write of a register of one word sets its fields, but for those out of their ranges; with one of these it is answered 0x0100 (R7). -/
theorem plainWrite_shows {r : Reg} (word : PlainWord r) {s : State} (hs : s.Sound) (ix : List Nat) (v : Nat) :
    ∃ t, s.plainWrite r ix 0 v = (t, if (r.fields.all fun i => fieldOk i.fld (slice v i.fld.lo i.fld.width)) then 0 else 0x0100) ∧ t.Sound ∧
      ∀ i ∈ r.fields, t.rd i.fld ix = s.written ix v i.fld := by
  have values : s.setFields r ix 0 v = r.fields.map fun i => (i.fld, slice v i.fld.lo i.fld.width) := by
    have all : r.fields.filter (fun i => inWord i.fld 0 && (i.acc == .RW || i.acc == .RWS)) = r.fields := List.filter_eq_self.mpr fun i hi => by
      have := word.bits i hi
      simp only [inWord, word.acc i hi, beq_self_eq_true, Bool.true_or, Bool.and_true, Bool.and_eq_true, decide_eq_true_eq]
      omega
    rw [setFields, all]
    exact List.map_congr_left fun i hi => by
      have := word.bits i hi
      rw [fieldWord_zero (by omega) (by omega)]
  have none : ∀ u : State, u.clearFields r ix 0 v = u := fun u => by
    have empty : r.fields.filter (fun i => inWord i.fld 0 && i.acc == .W1C) = [] := List.filter_eq_nil_iff.mpr fun i hi => by
      rw [word.acc i hi, show (Access.RW == Access.W1C) = false from rfl, Bool.and_false]
      decide
    rw [clearFields, empty, each_nil]
  obtain ⟨sound, shown, -⟩ := each_field_shows ix v r.fields word.apart hs
  refine ⟨_, ?_, sound, shown⟩
  simp only [plainWrite, values, none, each, List.foldl_map, List.all_map, Function.comp_def, Prod.mk.injEq, and_true]
  refine List.foldl_ext _ _ _ fun u i hi => ?_
  have own : i.fld.reg ≠ .EVC_PEND := word.own i hi ▸ word.level
  simp only [afterWrite, if_neg own]

end State
end Sys2Proof.Machine
end

section
/-!
PROOFS. A register that a write fills (R7, R350), and CARD_SET (R103, R106, R354).
-/

namespace Sys2Proof.Machine

-- One proof at a time: proofs elaborated side by side ask for more memory than a compile of the whole text may take.
set_option Elab.async false

namespace State

/-- The fields of a list lie one behind the other from bit `a` to bit `n`. -/
def packed (n : Nat) : Nat → List FldInfo → Bool
  | a, [] => a == n
  | a, i :: l => i.fld.lo == a && packed n (a + i.fld.width) l

/-- Fields that lie one behind the other make up the word they were cut from. -/
theorem sum_slices_of_packed (v : Nat) {n : Nat} {l : List FldInfo} {a : Nat} (h : packed n a l = true) :
    slice v 0 a + (l.map fun i => slice v i.fld.lo i.fld.width * 2 ^ i.fld.lo).sum = slice v 0 n := by
  induction l generalizing a with
  | nil =>
    obtain rfl : a = n := by simpa [packed] using h
    rfl
  | cons i l ih =>
    obtain ⟨lo, rest⟩ : i.fld.lo = a ∧ packed n (a + i.fld.width) l = true := by simpa [packed] using h
    have next : slice v 0 a + slice v a i.fld.width * 2 ^ a = slice v 0 (a + i.fld.width) := by
      simp only [slice, Nat.pow_zero, Nat.div_one, Nat.pow_add]
      rw [Nat.mod_mul, Nat.mul_comm]
    rw [List.map_cons, List.sum_cons, lo, ← Nat.add_assoc, next, ih rest]

/-- With every field in its range, a register whose fields fill its low bits shows the word written. -/
theorem plainWrite_image {r : Reg} (word : PlainWord r) {n : Nat} (fill : packed n 0 r.fields = true) {s : State} (hs : s.Sound) (ix : List Nat)
    {v : Nat} (fits : v < 2 ^ n) (ok : (r.fields.all fun i => fieldOk i.fld (slice v i.fld.lo i.fld.width)) = true) :
    ∃ t, s.plainWrite r ix 0 v = (t, 0) ∧ t.Sound ∧ t.image r ix = v := by
  obtain ⟨t, run, sound, shown⟩ := plainWrite_shows word hs ix v
  rw [if_pos ok] at run
  refine ⟨t, run, sound, ?_⟩
  calc t.image r ix
    _ = (r.fields.map fun i => slice v i.fld.lo i.fld.width * 2 ^ i.fld.lo).sum :=
      congrArg List.sum (List.map_congr_left fun i hi => by rw [shown i hi, written, if_pos (List.all_eq_true.mp ok i hi)])
    _ = slice v 0 0 + (r.fields.map fun i => slice v i.fld.lo i.fld.width * 2 ^ i.fld.lo).sum := by simp [slice, Nat.mod_one]
    _ = slice v 0 n := sum_slices_of_packed v fill
    _ = v := by rw [slice, Nat.pow_zero, Nat.div_one, Nat.mod_eq_of_lt fits]

/-- The image of another register stays. -/
theorem plainWrite_other {r q : Reg} (own : ∀ i ∈ q.fields, i.fld.reg = q) (ne : q ≠ r) {s t : State} {ix : List Nat} {w v code : Nat}
    (run : s.plainWrite r ix w v = (t, code)) (jx : List Nat) : t.image q jx = s.image q jx := by
  have only : Within (Foot.of [r] []) s t := .of_eq run (plainWrite_within (.refl _ s) _ _ _ _ (by simp [Foot.of]))
  exact image_congr own fun f hf => only.rd_of (by simpa [hf] using ne) jx

/-- A configuration write that is accepted is counted, and the next follows. -/
theorem cfgSeq_of_accepted {w : State → State × Nat} {s u : State} (written : w s = (u, 0)) (ws : List (State → State × Nat)) (n : Nat) :
    cfgSeq (w :: ws) s n = cfgSeq ws u (n + 1) := by
  rw [cfgSeq, written]
  exact if_pos rfl

/-- One that is not accepted ends the command. -/
theorem cfgSeq_of_refused {w : State → State × Nat} {s u : State} {code : Nat} (written : w s = (u, code)) (refused : code ≠ 0)
    (ws : List (State → State × Nat)) (n : Nat) : cfgSeq (w :: ws) s n = (u, n, code) := by
  rw [cfgSeq, written]
  exact if_neg refused

-- CARD_SET (R350, R354) ---------------------------------------------------------------------------------------------------------------

theorem plainWord_crdCtrl : PlainWord .CRD_CTRL := ⟨by decide, by decide, by decide, by decide, by decide⟩

theorem plainWord_crdSuff : PlainWord .CRD_SUFF := ⟨by decide, by decide, by decide, by decide, by decide⟩

theorem plainWord_crdTol : PlainWord .CRD_TOL := ⟨by decide, by decide, by decide, by decide, by decide⟩

theorem plainWord_crdTimeout : PlainWord .CRD_TIMEOUT := ⟨by decide, by decide, by decide, by decide, by decide⟩

/-- The four images of CARD_SET. -/
def cardImages (c ctrl suff tol timeout : Nat) : List (Reg × List Nat × Nat) :=
  [(.CRD_CTRL, [c], ctrl), (.CRD_SUFF, [c], suff), (.CRD_TOL, [c], tol), (.CRD_TIMEOUT, [c], timeout)]

/-- Images that fit their registers have no reserved field. -/
theorem cardImages_ok {ctrl suff tol timeout : Nat} (hc : ctrl < 2 ^ 22) (hs : suff < 2 ^ 24) (ht : tol < 2 ^ 32) (ho : timeout < 2 ^ 16) (c : Nat) :
    ((cardImages c ctrl suff tol timeout).map fun x => (x.1, x.2.2)).all (fun i => imageOk i.1 i.2) = true := by
  simp [cardImages, (imageOk_iff_lt (r := .CRD_CTRL) (n := 22) (by decide) ctrl).mpr hc,
    (imageOk_iff_lt (r := .CRD_SUFF) (n := 24) (by decide) suff).mpr hs, (imageOk_iff_lt (r := .CRD_TOL) (n := 32) (by decide) tol).mpr ht,
    (imageOk_iff_lt (r := .CRD_TIMEOUT) (n := 16) (by decide) timeout).mpr ho]

-- The ranges of the fields, register by register (R103, R106)

theorem crdCtrl_inRange {v : Nat} (_fits : v < 2 ^ 22) (interval : 100 ≤ v / 32 ∧ v / 32 ≤ 100000) :
    (Reg.CRD_CTRL.fields.all fun i => fieldOk i.fld (slice v i.fld.lo i.fld.width)) = true := by
  have field : slice v 5 17 = v / 32 := Nat.mod_eq_of_lt (by omega)
  show ((decide (100 ≤ slice v 5 17) && decide (slice v 5 17 ≤ 100000)) && true) = true
  simpa [field] using interval

theorem crdSuff_inRange {v : Nat} (_fits : v < 2 ^ 24) (ratio : 2 ≤ v / 2 ^ 20 ∧ v / 2 ^ 20 ≤ 8) :
    (Reg.CRD_SUFF.fields.all fun i => fieldOk i.fld (slice v i.fld.lo i.fld.width)) = true := by
  have field : slice v 20 4 = v / 2 ^ 20 := Nat.mod_eq_of_lt (by omega)
  show ((decide (2 ≤ slice v 20 4) && decide (slice v 20 4 ≤ 8)) && true) = true
  simpa [field] using ratio

theorem crdTol_inRange {v : Nat} (fits : v < 2 ^ 32) (ofs : 2 ≤ v % 256) (gain : 3 ≤ v / 2 ^ 8 % 256) (skew : 10 ≤ v / 2 ^ 16 % 256)
    (bw : 13 ≤ v / 2 ^ 24) : (Reg.CRD_TOL.fields.all fun i => fieldOk i.fld (slice v i.fld.lo i.fld.width)) = true := by
  have low : slice v 0 8 = v % 256 := by simp [slice]
  have top : slice v 24 8 = v / 2 ^ 24 := Nat.mod_eq_of_lt (by omega)
  show (decide (2 ≤ slice v 0 8) && (decide (3 ≤ slice v 8 8) && (decide (10 ≤ slice v 16 8) && (decide (13 ≤ slice v 24 8) && true)))) = true
  rw [low, top, decide_eq_true ofs, decide_eq_true (show 3 ≤ slice v 8 8 from gain), decide_eq_true (show 10 ≤ slice v 16 8 from skew),
    decide_eq_true bw]
  rfl

theorem crdTimeout_inRange {v : Nat} (fits : v < 2 ^ 16) (out : 100 ≤ v ∧ v ≤ 60000) :
    (Reg.CRD_TIMEOUT.fields.all fun i => fieldOk i.fld (slice v i.fld.lo i.fld.width)) = true := by
  have field : slice v 0 16 = v := by rw [slice, Nat.pow_zero, Nat.div_one, Nat.mod_eq_of_lt fits]
  show ((decide (100 ≤ slice v 0 16) && decide (slice v 0 16 ≤ 60000)) && true) = true
  simpa [field] using out

/-- The first write of CARD_SET: Carding follows ENABLE. -/
theorem writeCrdCtrl_eq {s a : State} {d c v code : Nat} (run : s.plainWrite .CRD_CTRL [d, c] 0 v = (a, code)) :
    writeReg d .CRD_CTRL [c] 0 v s = (a.syncCard, code) := by
  show ((s.plainWrite .CRD_CTRL [d, c] 0 v).1.syncCard, (s.plainWrite .CRD_CTRL [d, c] 0 v).2) = _
  rw [run]

/-- CARD_SET with every field in its range writes its four images. -/
theorem cardSet_writes {s : State} (hs : s.Sound) {d c ctrl suff tol timeout : Nat} (hctrl : ctrl < 2 ^ 22) (hsuff : suff < 2 ^ 24)
    (htol : tol < 2 ^ 32) (htimeout : timeout < 2 ^ 16) (interval : 100 ≤ ctrl / 32 ∧ ctrl / 32 ≤ 100000)
    (ratio : 2 ≤ suff / 2 ^ 20 ∧ suff / 2 ^ 20 ≤ 8) (ofs : 2 ≤ tol % 256) (gain : 3 ≤ tol / 2 ^ 8 % 256) (skew : 10 ≤ tol / 2 ^ 16 % 256)
    (bw : 13 ≤ tol / 2 ^ 24) (out : 100 ≤ timeout ∧ timeout ≤ 60000) :
    ∃ t, s.cfgRegs d (cardImages c ctrl suff tol timeout) = (t, .ok (le 1 4)) ∧ t.Sound ∧ t.image .CRD_CTRL [d, c] = ctrl ∧
      t.image .CRD_SUFF [d, c] = suff ∧ t.image .CRD_TOL [d, c] = tol ∧ t.image .CRD_TIMEOUT [d, c] = timeout := by
  obtain ⟨a, runA, soundA, imageA⟩ := plainWrite_image plainWord_crdCtrl (n := 22) (by decide) hs [d, c] hctrl (crdCtrl_inRange hctrl interval)
  have carding : Within (Foot.without [.CRD_CTRL] []) a a.syncCard := syncCard_within (by decide +kernel) (.refl _ a)
  obtain ⟨b, runB, soundB, imageB⟩ := plainWrite_image plainWord_crdSuff (n := 24) (by decide) (carding.sound soundA) [d, c] hsuff (crdSuff_inRange hsuff ratio)
  obtain ⟨e, runE, soundE, imageE⟩ := plainWrite_image plainWord_crdTol (n := 32) (by decide) soundB [d, c] htol (crdTol_inRange htol ofs gain skew bw)
  obtain ⟨t, runT, soundT, imageT⟩ := plainWrite_image plainWord_crdTimeout (n := 16) (by decide) soundE [d, c] htimeout (crdTimeout_inRange htimeout out)
  refine ⟨t, ?_, soundT, ?_, ?_, ?_, ?_⟩
  · rw [cfgRegs, cfgReply, if_pos (cardImages_ok hctrl hsuff htol htimeout c)]
    simp only [cardImages, List.map_cons, List.map_nil]
    rw [cfgSeq_of_accepted (writeCrdCtrl_eq runA), cfgSeq_of_accepted (show writeReg d .CRD_SUFF [c] 0 suff _ = _ from runB),
      cfgSeq_of_accepted (show writeReg d .CRD_TOL [c] 0 tol _ = _ from runE),
      cfgSeq_of_accepted (show writeReg d .CRD_TIMEOUT [c] 0 timeout _ = _ from runT)]
    rfl
  · have kept : a.syncCard.image .CRD_CTRL [d, c] = a.image .CRD_CTRL [d, c] :=
      image_congr (by decide) fun f hf => carding.rd _ _ (by rw [hf]; decide +kernel)
    rw [plainWrite_other (by decide) (by decide) runT, plainWrite_other (by decide) (by decide) runE, plainWrite_other (by decide) (by decide) runB,
      kept, imageA]
  · rw [plainWrite_other (by decide) (by decide) runT, plainWrite_other (by decide) (by decide) runE, imageB]
  · rw [plainWrite_other (by decide) (by decide) runT, imageE]
  · rw [imageT]

/-- An interval out of its range ends CARD_SET at its first write, which leaves INTERVAL. -/
theorem cardSet_of_badInterval {s : State} (hs : s.Sound) {d c ctrl suff tol timeout : Nat} (hctrl : ctrl < 2 ^ 22) (hsuff : suff < 2 ^ 24)
    (htol : tol < 2 ^ 32) (htimeout : timeout < 2 ^ 16) (interval : ctrl / 32 < 100 ∨ 100000 < ctrl / 32) :
    ∃ t, s.cfgRegs d (cardImages c ctrl suff tol timeout) = (t, ⟨0x0100, le 1 0, false, 0, none⟩) ∧ t.Sound ∧
      t.rd F.CRD_CTRL.INTERVAL [d, c] = s.rd F.CRD_CTRL.INTERVAL [d, c] ∧ t.image .CRD_SUFF [d, c] = s.image .CRD_SUFF [d, c] := by
  obtain ⟨a, run, sound, shown⟩ := plainWrite_shows plainWord_crdCtrl hs [d, c] ctrl
  have bad : fieldOk F.CRD_CTRL.INTERVAL (slice ctrl 5 17) = false := by
    have field : slice ctrl 5 17 = ctrl / 32 := Nat.mod_eq_of_lt (by omega)
    show (decide (100 ≤ slice ctrl 5 17) && decide (slice ctrl 5 17 ≤ 100000)) = false
    rw [field]
    simpa [imp_iff_not_or] using interval
  have refused : (Reg.CRD_CTRL.fields.all fun i => fieldOk i.fld (slice ctrl i.fld.lo i.fld.width)) = false :=
    List.all_eq_false.mpr ⟨⟨F.CRD_CTRL.INTERVAL, .RW, 1000⟩, by decide, by simpa using bad⟩
  rw [refused, if_neg Bool.false_ne_true] at run
  have carding : Within (Foot.without [.CRD_CTRL, .CRD_SUFF] []) a a.syncCard := syncCard_within (by decide +kernel) (.refl _ a)
  refine ⟨a.syncCard, ?_, carding.sound sound, ?_, ?_⟩
  · rw [cfgRegs, cfgReply, if_pos (cardImages_ok hctrl hsuff htol htimeout c)]
    simp only [cardImages, List.map_cons, List.map_nil]
    rw [cfgSeq_of_refused (writeCrdCtrl_eq run) (by decide)]
  · have kept := shown ⟨F.CRD_CTRL.INTERVAL, .RW, 1000⟩ (by decide)
    rw [written, bad, if_neg Bool.false_ne_true] at kept
    exact (carding.rd _ _ (by decide +kernel)).trans kept
  · exact (image_congr (by decide) fun f hf => carding.rd _ _ (by rw [hf]; decide +kernel)).trans (plainWrite_other (by decide) (by decide) run _)

end State

theorem cardSet_answers {h : MbxHdr} {ch ctrl suff tol timeout : Nat} {s : State} (hs : s.Sound) (now : s.takesNow h) (hch : ch < 4)
    (works : s.dieRetired (ch / 2) = false) (hctrl : ctrl < 2 ^ 22) (hsuff : suff < 2 ^ 24) (htol : tol < 2 ^ 32) (htimeout : timeout < 2 ^ 16) :
    let d := ch / 2
    let c := ch % 2
    let card : Instr := .cardSet h ch ctrl suff tol timeout
    let interval := ctrl / 32
    (100 ≤ interval → interval ≤ 100000 → 2 ≤ suff / 2 ^ 20 → suff / 2 ^ 20 ≤ 8 → 2 ≤ tol % 256 → 3 ≤ tol / 2 ^ 8 % 256 →
      10 ≤ tol / 2 ^ 16 % 256 → 13 ≤ tol / 2 ^ 24 → 100 ≤ timeout → timeout ≤ 60000 → Completes card s fun t =>
        t.answered h 0x0300 0 (le 1 4) ∧ t.image .CRD_CTRL [d, c] = ctrl ∧ t.image .CRD_SUFF [d, c] = suff ∧
        t.image .CRD_TOL [d, c] = tol ∧ t.image .CRD_TIMEOUT [d, c] = timeout) ∧
    (interval < 100 ∨ 100000 < interval → Completes card s fun t => t.answered h 0x0300 0x0100 (le 1 0) ∧
      t.rd F.CRD_CTRL.INTERVAL [d, c] = s.rd F.CRD_CTRL.INTERVAL [d, c] ∧ t.image .CRD_SUFF [d, c] = s.image .CRD_SUFF [d, c]) := by
  intro d c card interval
  obtain ⟨notService, notVigil⟩ := State.takesNow_modes now
  obtain ⟨fresh, -⟩ := now
  have sound := State.take_sound hs h 0x0300
  have carried := fun P v r works' => completes_of_carried (c := card) (P := P) (v := v) (r := r) rfl fresh
    (State.concernDie_channel fresh hch works 0x0300) (.inr notService) (.inr notVigil)
    ((onChan_of_lt hch (fun s d c => s.cfgRegs d (State.cardImages c ctrl suff tol timeout)) _ _).trans works')
  have image : ∀ {u t : State} {r : Reg} {op : Reply} {v : Nat}, Replied u t h 0x0300 op → (∀ i ∈ r.fields, i.fld.reg = r) → r ∉ State.answerRegs →
      u.image r [d, c] = v → t.image r [d, c] = v := fun done own hr e =>
    (State.image_congr own fun f hf => done.rd (by rw [hf]; exact hr) _).trans e
  refine ⟨fun i₁ i₂ r₁ r₂ ofs gain skew bw o₁ o₂ => ?written, fun range => ?refused⟩
  case written =>
    obtain ⟨u, run, usound, hc, hf, ht, ho⟩ :=
      State.cardSet_writes sound (d := d) (c := c) hctrl hsuff htol htimeout ⟨i₁, i₂⟩ ⟨r₁, r₂⟩ ofs gain skew bw ⟨o₁, o₂⟩
    exact carried _ u _ run (.inl ok_short) usound fun t done => ⟨done.answered, image done (by decide) (by decide) hc,
      image done (by decide) (by decide) hf, image done (by decide) (by decide) ht, image done (by decide) (by decide) ho⟩
  case refused =>
    obtain ⟨u, run, usound, kept, suffKept⟩ := State.cardSet_of_badInterval sound (d := d) (c := c) hctrl hsuff htol htimeout range
    refine carried _ u _ run (.inl (by decide)) usound fun t done => ⟨done.answered, ?_, ?_⟩
    · exact (done.rd (by decide) _).trans (kept.trans (State.take_rd (by decide) ..))
    · exact image done (by decide) (by decide) (suffKept.trans (State.take_image (by decide) (by decide) ..))

end Sys2Proof.Machine
end

section
/-!
PROOFS. The mailbox commands that start Combing and write the calibration store (R108, R109, R116, R117, R350, R354).
-/

namespace Sys2Proof.Machine

-- One proof at a time: proofs elaborated side by side ask for more memory than a compile of the whole text may take.
set_option Elab.async false

namespace State

-- One entry among many ------------------------------------------------------------------------------------------------------------

/-- What one entry of a list makes true and every entry leaves true, in states with an invariant, is true in the end. -/
theorem each_of_mem {α : Type} {Q P : State → Prop} {f : State → α → State} {l : List α} {x : α} (hx : x ∈ l)
    (makes : ∀ u : State, Q u → P (f u x)) (keeps : ∀ (u : State) y, Q u → P u → P (f u y)) (inv : ∀ (u : State) y, Q u → Q (f u y))
    {s : State} (hs : Q s) : P (s.each l f) := by
  have stays : ∀ (l : List α) {u : State}, Q u → P u → P (u.each l f) := fun l => by
    induction l with
    | nil => exact fun _ h => h
    | cons y l ih => exact fun hu h => ih (inv _ y hu) (keeps _ y hu h)
  induction l generalizing s with
  | nil => exact absurd hx List.not_mem_nil
  | cons y l ih =>
    rcases List.mem_cons.mp hx with rfl | hl
    · exact stays l (inv _ _ hs) (makes _ hs)
    · exact ih hl (inv _ _ hs)

/-- Entries of a field leave the other fields of its register. -/
theorem rd_each_wr_of_lo {α : Type} {f g : Fld} (h : g.lo ≠ f.lo) (s : State) (l : List α) (jx : α → List Nat) (v : α → Nat) (ix : List Nat) :
    (s.each l fun s x => s.wr f (jx x) (v x)).rd g ix = s.rd g ix := by
  induction l generalizing s with
  | nil => rfl
  | cons x l ih => exact (ih _).trans (rd_wr_of_lo h ..)

-- A Combing run (R108, R109) --------------------------------------------------------------------------------------------------------

/-- CAL_SW shows what it is set to. -/
theorem setCalSw_shows {s : State} (hs : s.Sound) (d c : Nat) {v : Nat} (hv : v < 2) : (s.setCalSw d c v).rd F.CNV_CTRL.CAL_SW [d, c] = v := by
  unfold setCalSw
  split
  · assumption
  · exact (raise_rd (by decide) ..).trans (rd_wr_self_of_lt hs _ _ hv)

/-- The switch of another channel stays. -/
theorem setCalSw_other {s : State} {d c x : Nat} (ne : c ≠ x) (v : Nat) :
    (s.setCalSw d x v).rd F.CNV_CTRL.CAL_SW [d, c] = s.rd F.CNV_CTRL.CAL_SW [d, c] := by
  unfold setCalSw
  split
  · rfl
  · exact (raise_rd (by decide) ..).trans (rd_wr_of_ix (by simpa using ne) ..)

/-- A channel works with its own array. -/
theorem mem_arraysOf {c : Nat} (hc : c < 2) (s : State) : c ∈ s.arraysOf c := by
  unfold arraysOf
  split
  · have : c = 0 ∨ c = 1 := by omega
    simpa using this
  · exact List.mem_singleton_self c

/-- An array begins its calibration blocks, its switch closed (R85, R109). -/
def calOpens (d : Nat) (s : State) (x : Nat) : State := (s.calBegins d x F.CNV_STATUS.CAL_ACTIVE).setCalSw d x 1

theorem calOpens_within (d : Nat) (s : State) (x : Nat) :
    Within (Foot.of (.CNV_CTRL :: .CNV_STATUS :: Reg.ofEvents) (.spans :: Part.ofEvents)) s (calOpens d s x) :=
  setCalSw_within (by decide +kernel) (calBegins_within (by decide +kernel) (.refl _ s) d x _ (by decide +kernel)) d x 1

theorem calOpens_sound {s : State} (hs : s.Sound) (d x : Nat) : (calOpens d s x).Sound := (calOpens_within d s x).sound hs

/-- The calibration blocks of a set of arrays close the switch of each, and open no episode. -/
theorem calOpens_shows {s : State} (hs : s.Sound) {d c : Nat} {l : List Nat} (hc : c ∈ l) (quiet : s.rd F.CNV_STATUS.OVLD_EPISODE [d, c] = 0) :
    (s.each l (calOpens d)).Sound ∧ (s.each l (calOpens d)).rd F.CNV_CTRL.CAL_SW [d, c] = 1 ∧
      (s.each l (calOpens d)).rd F.CNV_STATUS.OVLD_EPISODE [d, c] = 0 := by
  have begins : ∀ (u : State) x, u.Sound → (u.calBegins d x F.CNV_STATUS.CAL_ACTIVE).Sound := fun u x hu =>
    (calBegins_within (M := 2 ^ 700 - 1) (by decide +kernel) (.refl _ u) d x _ (by decide +kernel)).sound hu
  have episode : ∀ (u : State) x, (calOpens d u x).rd F.CNV_STATUS.OVLD_EPISODE [d, c] = u.rd F.CNV_STATUS.OVLD_EPISODE [d, c] := fun u x => by
    have opens : Within (Foot.without [.CNV_STATUS] []) (u.calBegins d x F.CNV_STATUS.CAL_ACTIVE) (calOpens d u x) :=
      setCalSw_within (by decide +kernel) (.refl _ _) ..
    have span : Within (Foot.without [.CNV_STATUS] []) (u.wr F.CNV_STATUS.CAL_ACTIVE [d, x] 1) (u.calBegins d x F.CNV_STATUS.CAL_ACTIVE) :=
      openSpan_within (by decide +kernel) (.refl _ _) ..
    exact (opens.rd _ _ (by decide +kernel)).trans ((span.rd _ _ (by decide +kernel)).trans (rd_wr_of_lo (by decide) ..))
  refine ⟨(Within.each (M := 2 ^ 700 - 1) (.refl _ s) fun u x hu => hu.trans ((calOpens_within d u x).mono (by decide +kernel))).sound hs,
    each_of_mem (Q := State.Sound) (P := fun u => u.rd F.CNV_CTRL.CAL_SW [d, c] = 1) hc ?closes ?stays (fun u x hu => calOpens_sound hu d x) hs, ?quiet⟩
  case closes => exact fun u hu => setCalSw_shows (begins u c hu) d c (by decide)
  case stays =>
    intro u x hu closed
    by_cases own : c = x
    · exact own ▸ setCalSw_shows (begins u c hu) d c (by decide)
    · refine (setCalSw_other own 1).trans (Eq.trans ?_ closed)
      exact (calBegins_within (M := Foot.without [.CNV_CTRL] []) (by decide +kernel) (.refl _ u) d x _ (by decide +kernel)).rd _ _ (by decide +kernel)
  case quiet =>
    clear hc
    induction l generalizing s with
    | nil => exact quiet
    | cons x l ih => exact ih (calOpens_sound hs d x) ((episode s x).trans quiet)

/-- Cycle 0 of a run that no episode meets: SETTLE, with CAL_SW closed (R109). -/
theorem combZero_shows {s : State} (hs : s.Sound) {d c : Nat} (hc : c < 2) (quiet : s.rd F.CNV_STATUS.OVLD_EPISODE [d, c] = 0) :
    (s.combZero d c).Sound ∧ (s.combZero d c).rd F.CRD_COMB_STATUS.STATE [d, c] = 2 ∧ (s.combZero d c).rd F.CNV_CTRL.CAL_SW [d, c] = 1 := by
  let a : State := s.each (s.arraysOf c) (calOpens d)
  let b : State := a.wr F.CRD_COMB_STATUS.STATE [d, c] 2
  let l : State := b.each (b.arraysOf c) fun s x => s.wr F.CNV_CTRL.LADDER_SEL [d, x] 0
  let z : State := ((l.wr F.CRD_COMB_STATUS.LEVEL [d, c] 0).wr I.combAt [d, c] a.now).wr I.combEnding [d, c] 0
  obtain ⟨sound, closed, still⟩ := calOpens_shows hs (mem_arraysOf hc s) quiet
  have ladder : Within (Foot.of [.CNV_CTRL] []) b l := .each (.refl _ b) fun _ _ hu => hu.wr _ _ _ (by decide +kernel)
  have episode : z.isSet F.CNV_STATUS.OVLD_EPISODE [d, c] = false := by
    have e : z.rd F.CNV_STATUS.OVLD_EPISODE [d, c] = a.rd F.CNV_STATUS.OVLD_EPISODE [d, c] :=
      (rd_wr_of_reg (by decide) ..).trans ((rd_wr_of_reg (by decide) ..).trans ((rd_wr_of_reg (by decide) ..).trans
        ((ladder.rd _ _ (by decide +kernel)).trans (rd_wr_of_reg (by decide) ..))))
    rw [isSet, e, still]
    rfl
  have run : s.combZero d c = z := on_of_false episode z fun u => u.combStop d c 0x0210
  rw [run]
  refine ⟨(ladder.sound sound.wr).wr.wr.wr, ?_, ?_⟩
  · exact (rd_wr_of_reg (by decide) ..).trans ((rd_wr_of_reg (by decide) ..).trans ((rd_wr_of_lo (by decide) ..).trans
      ((ladder.rd _ _ (by decide +kernel)).trans (rd_wr_self sound.regs ..))))
  · exact (rd_wr_of_reg (by decide) ..).trans ((rd_wr_of_reg (by decide) ..).trans ((rd_wr_of_reg (by decide) ..).trans
      ((rd_each_wr_of_lo (by decide) ..).trans ((rd_wr_of_reg (by decide) ..).trans closed))))

/-- A write of a register claims nothing. -/
theorem goes_wr {s : State} {x : Claim} (goes : s.claimGoes x = true) {f : Fld} {ix : List Nat} {v : Nat} : (s.wr f ix v).claimGoes x = true := by
  simpa only [claimGoes, claimFree, groupFree, wr_running, wr_waiting] using goes

/-- A run whose groups are free begins at once (R109, R405). -/
theorem combGo_shows {s : State} (hs : s.Sound) {d c : Nat} (hc : c < 2) (quiet : s.rd F.CNV_STATUS.OVLD_EPISODE [d, c] = 0)
    (goes : s.claimGoes (s.combClaim d c) = true) (store : Bool) :
    (s.combGo d c store).Sound ∧ (s.combGo d c store).rd F.CRD_COMB_STATUS.STATE [d, c] = 2 ∧ (s.combGo d c store).rd F.CNV_CTRL.CAL_SW [d, c] = 1 := by
  let a : State := (s.wr F.CRD_COMB_STATUS.STATE [d, c] 1).wrBool I.combStore [d, c] store
  have free : a.claimGoes (s.combClaim d c) = true := goes_wr (goes_wr goes)
  have runs : (a.claim (s.combClaim d c)).runs (s.combClaim d c).act = true := claim_runs free
  have claims : Within (Foot.without [.CNV_STATUS] []) a (a.claim (s.combClaim d c)) := claim_within (by decide +kernel) (.refl _ a) _
  have e : s.combGo d c store = (a.claim (s.combClaim d c)).combZero d c :=
    on_of_true runs (a.claim (s.combClaim d c)) fun u => u.combZero d c
  rw [e]
  exact combZero_shows (claims.sound hs.wr.wr) hc
    ((claims.rd _ _ (by decide +kernel)).trans ((rd_wr_of_reg (by decide) ..).trans ((rd_wr_of_reg (by decide) ..).trans quiet)))

-- The start command (R108) ------------------------------------------------------------------------------------------------------------

/-- No check of a start answers with a status of a long command. -/
theorem combCheck_short (s : State) (d c : Nat) (test allow : Bool) : s.combCheck d c test allow ≠ 1 ∧ s.combCheck d c test allow ≠ 2 := by
  unfold combCheck
  repeat' split
  all_goals decide

/-- A start that is not refused meets no overload episode. -/
theorem no_episode_of_combCheck {s : State} {d c : Nat} {test allow : Bool} (ok : s.combCheck d c test allow = 0) :
    s.rd F.CNV_STATUS.OVLD_EPISODE [d, c] = 0 := by
  by_contra episode
  have on : s.isSet F.CNV_STATUS.OVLD_EPISODE [d, c] = true := bne_iff_ne.mpr episode
  simp only [combCheck, on, if_true] at ok
  split_ifs at ok

theorem take_combCheck (s : State) (h : MbxHdr) (op d c : Nat) (test allow : Bool) :
    (s.take h op).1.combCheck d c test allow = s.combCheck d c test allow := by
  have state : (s.take h op).1.combState d c = s.combState d c := take_rd (by decide) ..
  unfold combCheck
  rw [state, take_mode, take_armed, paired, take_mode, take_isSet (f := F.CNV_STATUS.AVAILABLE) (by decide),
    take_isSet (f := F.CNV_STATUS.OVLD_EPISODE) (by decide)]

theorem requestComb_of_refused {s : State} {d c : Nat} {test allow : Bool} (check : s.combCheck d c test allow ≠ 0) (store : Bool)
    (cmd : Option (MbxHdr × Nat)) : s.requestComb d c test allow store cmd = (s, ⟨s.combCheck d c test allow, false⟩) := if_pos check

/-- A request that fits Harvest's shares is granted (R378). -/
theorem harvest_of_fits {s : State} {d e : Nat} {dies : List Nat} (cool : s.rd F.PWR_STATUS.THERMAL [d] = 0) (fits : s.fits dies 0 e = true)
    (r : Request) (maint : Bool) (cmd : Option (MbxHdr × Nat)) :
    s.harvest d dies (fun _ => 0) e r maint cmd = (s.charge dies 0 e, .granted) := by
  have hot : s.isSet F.PWR_STATUS.THERMAL [d] = false := by simp [isSet, cool]
  rw [harvest, hot, if_neg Bool.false_ne_true, if_pos fits]

theorem requestComb_of_fits {s : State} {d c : Nat} {test allow : Bool} (check : s.combCheck d c test allow = 0)
    (cool : s.rd F.PWR_STATUS.THERMAL [d] = 0) (fits : s.fits [d] 0 (s.cost 12) = true) (store : Bool) (cmd : Option (MbxHdr × Nat)) :
    s.requestComb d c test allow store cmd = ((s.charge [d] 0 (s.cost 12)).combGo d c store, ⟨0, false⟩) := by
  rw [requestComb, if_neg (not_not.mpr check), harvest_of_fits cool fits]

/-- What Harvest charges claims nothing. -/
theorem charge_claimGoes (s : State) (dies : List Nat) (dp : Int) (e : Nat) (c : Claim) : (s.charge dies dp e).claimGoes c = s.claimGoes c := by
  have kept := charge_within (M := Foot.without [] [.running, .waiting]) (by decide +kernel) (.refl _ s) dies dp e
  have running : (s.charge dies dp e).running = s.running := kept.parts .running (by decide +kernel)
  have waiting : (s.charge dies dp e).waiting = s.waiting := kept.parts .waiting (by decide +kernel)
  simp only [claimGoes, claimFree, groupFree, running, waiting]

theorem charge_sound {s : State} (hs : s.Sound) (dies : List Nat) (dp : Int) (e : Nat) : (s.charge dies dp e).Sound :=
  (charge_within (M := 2 ^ 700 - 1) (by decide +kernel) (.refl _ s) dies dp e).sound hs

theorem charge_rd {f : Fld} (hf : f.reg ≠ .HVS_SHARE) (s : State) (dies : List Nat) (dp : Int) (e : Nat) (ix : List Nat) :
    (s.charge dies dp e).rd f ix = s.rd f ix :=
  (charge_within (M := Foot.of [.HVS_SHARE] [.committed]) (by decide +kernel) (.refl _ s) dies dp e).rd_of (by simpa using hf) ix

theorem take_claimGoes (s : State) (h : MbxHdr) (op : Nat) (c : Claim) : (s.take h op).1.claimGoes c = s.claimGoes c := by
  have running : (s.take h op).1.running = s.running := (s.take_frame h op).parts .running (by decide)
  have waiting : (s.take h op).1.waiting = s.waiting := (s.take_frame h op).parts .waiting (by decide)
  simp only [claimGoes, claimFree, groupFree, running, waiting]

/-- The claim of a run depends on the mode alone. -/
theorem combClaim_congr {s t : State} (mode : t.mode = s.mode) (d c : Nat) : t.combClaim d c = s.combClaim d c := by
  simp only [combClaim, arraysOf, mode]

theorem take_cost (s : State) (h : MbxHdr) (op n : Nat) : (s.take h op).1.cost n = s.cost n := take_rd (by decide) ..

end State

theorem combStart_answers {h : MbxHdr} {ch allow store : Nat} {s : State} (hs : s.Sound) (now : s.takesNow h) (hch : ch < 4)
    (works : s.dieRetired (ch / 2) = false) (hallow : allow ≤ 1) (hstore : store ≤ 1) :
    let d := ch / 2
    let c := ch % 2
    let check := s.combCheck d c false (allow == 1)
    (check ≠ 0 → CommandAtEnd (.combStart h ch allow store) h 0x0302 s fun t => t.answered h 0x0302 check [] ∧
      t.rd F.CRD_COMB_STATUS.STATE [d, c] = s.rd F.CRD_COMB_STATUS.STATE [d, c]) ∧
    (check = 0 → s.hasRoom h.die → s.rd F.PWR_STATUS.THERMAL [d] = 0 → s.fits [d] 0 (s.cost 12) = true → s.claimGoes (s.combClaim d c) = true →
      CommandAtEnd (.combStart h ch allow store) h 0x0302 s fun t => t.answered h 0x0302 1 [] ∧ t.rd F.CRD_COMB_STATUS.STATE [d, c] = 2 ∧
        t.rd F.CNV_CTRL.CAL_SW [d, c] = 1 ∧ ⟨h.die, h.src, h.tag, 0x0302, false, false, false, ch, none⟩ ∈ t.outstanding) := by
  intro d c check
  obtain ⟨notService, notVigil⟩ := State.takesNow_modes now
  obtain ⟨fresh, -⟩ := now
  have hc : c < 2 := Nat.mod_lt _ (by decide)
  have unit : 2 * d + c = ch := by omega
  have sound := State.take_sound hs h 0x0302
  have checkTaken : (s.take h 0x0302).1.combCheck d c false (allow == 1) = check := State.take_combCheck ..
  have carried := fun P v r works' => commandAtEnd_of_carried (c := .combStart h ch allow store) (P := P) (v := v) (r := r) rfl fresh
    (State.concernDie_channel fresh hch works 0x0302) (.inr notService) (.inr notVigil)
    ((onRange_of_true (by simp [hallow, hstore]) ..).trans ((onChan_of_lt hch ..).trans works'))
  refine ⟨fun refused => ?refused, fun ok room cool fits goes => ?accepted⟩
  case refused =>
    obtain ⟨accepted, deferred⟩ := s.combCheck_short d c false (allow == 1)
    have verdict : State.verdictLong ⟨check, false⟩ (2 * d + c) = .code check := by rw [State.verdictLong, if_neg refused, if_neg deferred]
    refine carried _ (s.take h 0x0302).1 (.code check) ?_ (.inl ⟨accepted, deferred⟩) sound
      fun t done => ⟨done.answered, (done.rd (by decide) _).trans (State.take_rd (by decide) ..)⟩
    rw [State.requestComb_of_refused (by rwa [checkTaken]), checkTaken]
    exact congrArg _ verdict
  case accepted =>
    have request := State.requestComb_of_fits (s := (s.take h 0x0302).1) (checkTaken.trans ok) ((State.take_rd (by decide) ..).trans cool)
      (by rwa [State.take_cost, State.take_fits]) (store == 1) (some (h, 0x0302))
    generalize hu : (s.take h 0x0302).1.charge [d] 0 ((s.take h 0x0302).1.cost 12) = u at request
    have mode : u.mode = s.mode := by
      rw [← hu, ← State.take_mode s h 0x0302]
      exact (State.charge_within (M := Foot.without [] [.mode]) (by decide +kernel) (.refl _ _) ..).parts .mode (by decide +kernel)
    have quiet : u.rd F.CNV_STATUS.OVLD_EPISODE [d, c] = 0 := by
      rw [← hu, State.charge_rd (by decide), State.take_rd (by decide)]
      exact State.no_episode_of_combCheck ok
    obtain ⟨usound, run, closed⟩ := State.combGo_shows (hu ▸ State.charge_sound sound ..) hc quiet
      (by rw [State.combClaim_congr mode, ← hu, State.charge_claimGoes, State.take_claimGoes]; exact goes) (store == 1)
    refine carried _ (u.combGo d c (store == 1)) (.accepted ch false) ?_ (.inr room) usound
      fun t done => ⟨done.answered, (done.rd (by decide) _).trans run, (done.rd (by decide) _).trans closed, done.long (.inl rfl)⟩
    rw [request, unit]
    rfl

-- The calibration store (R116, R117) --------------------------------------------------------------------------------------------------

namespace State

/-- What tells whether a store write must wait reads as before where these registers and parts do. -/
theorem storeHeld_congr {s t : State} (mode : t.mode = s.mode) (now : t.now = s.now) (control : t.control = s.control)
    (same : ∀ f ∈ [F.CRD_STORE_STATUS.BUSY, I.storeCommitted, I.storeCommitAt, F.PWR_MODE.TRANSITION, F.PWR_MODE.TARGET],
      ∀ ix, t.rd f ix = s.rd f ix) : t.storeHeld = s.storeHeld := by
  simp only [storeHeld, elapsed, isSet, mode, now, control, same F.CRD_STORE_STATUS.BUSY (by simp), same I.storeCommitted (by simp),
    same I.storeCommitAt (by simp), same F.PWR_MODE.TRANSITION (by simp), same F.PWR_MODE.TARGET (by simp)]

theorem take_storeHeld (s : State) (h : MbxHdr) (op : Nat) : (s.take h op).1.storeHeld = s.storeHeld :=
  storeHeld_congr (take_mode ..) ((s.take_frame h op).parts .now (by decide)) (take_control ..)
    fun _ hf ix => take_rd ((by decide : ∀ f ∈ [F.CRD_STORE_STATUS.BUSY, I.storeCommitted, I.storeCommitAt, F.PWR_MODE.TRANSITION,
      F.PWR_MODE.TARGET], f.reg ∉ takeRegs) _ hf) ..

theorem charge_storeHeld (s : State) (dies : List Nat) (dp : Int) (e : Nat) : (s.charge dies dp e).storeHeld = s.storeHeld := by
  have kept := charge_within (M := Foot.without [] [.mode, .now, .control]) (by decide +kernel) (.refl _ s) dies dp e
  exact storeHeld_congr (kept.parts .mode (by decide +kernel)) (kept.parts .now (by decide +kernel)) (kept.parts .control (by decide +kernel))
    fun _ hf ix => charge_rd ((by decide : ∀ f ∈ [F.CRD_STORE_STATUS.BUSY, I.storeCommitted, I.storeCommitAt, F.PWR_MODE.TRANSITION,
      F.PWR_MODE.TARGET], f.reg ≠ .HVS_SHARE) _ hf) ..

theorem charge_waits (s : State) (dies : List Nat) (dp : Int) (e : Nat) (a : Activity) : (s.charge dies dp e).waits a = s.waits a := by
  have waiting : (s.charge dies dp e).waiting = s.waiting :=
    (charge_within (M := Foot.without [] [.waiting]) (by decide +kernel) (.refl _ s) dies dp e).parts .waiting (by decide +kernel)
  rw [waits, waiting, waits]

theorem take_waits (s : State) (h : MbxHdr) (op : Nat) (a : Activity) : (s.take h op).1.waits a = s.waits a := by
  have waiting : (s.take h op).1.waiting = s.waiting := (s.take_frame h op).parts .waiting (by decide)
  rw [waits, waiting, waits]

@[simp] theorem charge_control (s : State) (dies : List Nat) (dp : Int) (e : Nat) : (s.charge dies dp e).control = s.control :=
  (charge_within (M := Foot.without [] [.control]) (by decide +kernel) (.refl _ s) dies dp e).parts .control (by decide +kernel)

/-- A pending write serves the request (R117). -/
theorem storeRequest_of_pending {s : State} (pending : s.rd F.CRD_STORE_STATUS.PENDING [] ≠ 0) (fw : Bool) (cmd : Option (MbxHdr × Nat)) :
    s.storeRequest fw cmd = (s, ⟨0, false⟩) := if_pos (bne_iff_ne.mpr pending)

theorem storeRequest_of_fits {s : State} (none : s.rd F.CRD_STORE_STATUS.PENDING [] = 0) (cool : s.rd F.PWR_STATUS.THERMAL [s.control] = 0)
    (fits : s.fits [0, 1] 0 (s.cost 13) = true) (fw : Bool) (cmd : Option (MbxHdr × Nat)) :
    s.storeRequest fw cmd = ((s.charge [0, 1] 0 (s.cost 13)).storeGo, ⟨0, false⟩) := by
  rw [storeRequest, if_neg (by simp [isSet, none]), harvest_of_fits cool fits]

/-- While the store is held, an admitted write is pending. -/
theorem storeGo_of_held {s : State} (held : s.storeHeld = true) : s.storeGo = s.wr F.CRD_STORE_STATUS.PENDING [] 1 := by
  rw [storeGo, held, Bool.true_or, if_pos rfl]

/-- A write whose flash is free starts at once. -/
theorem storeGo_of_free {s : State} (free : s.storeHeld = false) (first : s.waits .storeWrite = false)
    (goes : s.claimGoes ⟨.storeWrite, 4, s.control, [8]⟩ = true) : s.storeGo = (s.claim ⟨.storeWrite, 4, s.control, [8]⟩).storeStart := by
  rw [storeGo, free, first, if_neg (by decide)]
  exact on_of_true (claim_runs goes) _ _

/-- A write as it starts, before BUSY shows it (R116): the snapshot, and the slot with header and payload. -/
def storeProgrammed (s : State) : State :=
  let asked := s.outstanding.map fun (o : Outstanding) => if o.opcode = 0x0303 ∧ !o.deferred then { o with unit := 1 } else o
  ({ s with snapshot := s.storeBody, outstanding := asked }.flashErase (slotBase s.storeTarget) 0x100000).flashProgram (slotBase s.storeTarget)
    s.storeBody

theorem storeStart_eq (s : State) : s.storeStart = (s.storeProgrammed.wr F.CRD_STORE_STATUS.BUSY [] 1).wr F.CRD_STORE_STATUS.PENDING [] 0 := rfl

theorem storeProgrammed_sound {s : State} (hs : s.Sound) : s.storeProgrammed.Sound := by
  unfold storeProgrammed
  refine (flashProgram_within (M := 2 ^ 700 - 1) (by decide +kernel) (flashErase_within (by decide +kernel) (.refl _ _) _ _) _ _).sound ?_
  exact ⟨hs.regs, hs.mem, hs.acq, hs.tims, hs.acc, hs.layers, hs.flash⟩

theorem storeStart_shows {s : State} (hs : s.Sound) :
    s.storeStart.Sound ∧ s.storeStart.rd F.CRD_STORE_STATUS.BUSY [] = 1 ∧ s.storeStart.rd F.CRD_STORE_STATUS.PENDING [] = 0 := by
  have sound := storeProgrammed_sound hs
  rw [storeStart_eq]
  exact ⟨sound.wr.wr, (rd_wr_of_lo (by decide) ..).trans (rd_wr_self sound.regs ..), rd_wr_self sound.wr.regs ..⟩

end State

theorem storeWrite_answers {h : MbxHdr} {s : State} (hs : s.Sound) (now : s.takesNow h) (room : s.hasRoom h.die) :
    (s.rd F.CRD_STORE_STATUS.PENDING [] ≠ 0 → CommandAtEnd (.storeWrite h) h 0x0303 s fun t => t.answered h 0x0303 1 [] ∧
      t.rd F.CRD_STORE_STATUS.BUSY [] = s.rd F.CRD_STORE_STATUS.BUSY [] ∧
      ⟨h.die, h.src, h.tag, 0x0303, false, false, false, 0, none⟩ ∈ t.outstanding) ∧
    (s.rd F.CRD_STORE_STATUS.PENDING [] = 0 → s.rd F.PWR_STATUS.THERMAL [s.control] = 0 → s.fits [0, 1] 0 (s.cost 13) = true →
      (s.storeHeld = true → CommandAtEnd (.storeWrite h) h 0x0303 s fun t => t.answered h 0x0303 1 [] ∧ t.rd F.CRD_STORE_STATUS.PENDING [] = 1) ∧
      (s.storeHeld = false → s.waits .storeWrite = false → s.claimGoes ⟨.storeWrite, 4, s.control, [8]⟩ = true →
        CommandAtEnd (.storeWrite h) h 0x0303 s fun t => t.answered h 0x0303 1 [] ∧ t.rd F.CRD_STORE_STATUS.BUSY [] = 1 ∧
          t.rd F.CRD_STORE_STATUS.PENDING [] = 0 ∧ ⟨h.die, h.src, h.tag, 0x0303, false, false, false, 1, none⟩ ∈ t.outstanding)) := by
  obtain ⟨notService, notVigil⟩ := State.takesNow_modes now
  obtain ⟨fresh, -⟩ := now
  have sound := State.take_sound hs h 0x0303
  have carried := fun P v r => commandAtEnd_of_carried (c := .storeWrite h) (P := P) (v := v) (r := r) rfl fresh
    (s.concernDie_package h 0x0303) (.inr notService) (.inr notVigil)
  have accepted : ∀ {u v : State} {n : Nat}, u.storeRequest false (some (h, 0x0303)) = (v, ⟨0, false⟩) → b2n (!v.isSet F.CRD_STORE_STATUS.PENDING []) = n →
      u.mbxStore h = (v, .accepted n false) := fun request unit => by
    rw [State.mbxStore, request, ← unit]
    rfl
  have pendingTaken : (s.take h 0x0303).1.rd F.CRD_STORE_STATUS.PENDING [] = s.rd F.CRD_STORE_STATUS.PENDING [] := State.take_rd (by decide) ..
  refine ⟨fun pending => ?joins, fun none cool fits => ?asked⟩
  case joins =>
    have request := State.storeRequest_of_pending (s := (s.take h 0x0303).1) (by rwa [pendingTaken]) false (some (h, 0x0303))
    exact carried _ _ (.accepted 0 false) (accepted request (by simp [State.isSet, pendingTaken, pending])) (.inr room) sound
      fun t done => ⟨done.answered, (done.rd (by decide) _).trans (State.take_rd (by decide) ..), done.long (.inl rfl)⟩
  case asked =>
    have request := State.storeRequest_of_fits (s := (s.take h 0x0303).1) (pendingTaken.trans none)
      (by rwa [State.take_control, State.take_rd (by decide)]) (by rwa [State.take_cost, State.take_fits]) false (some (h, 0x0303))
    generalize hu : (s.take h 0x0303).1.charge [0, 1] 0 ((s.take h 0x0303).1.cost 13) = u at request
    have usound : u.Sound := hu ▸ State.charge_sound sound ..
    have held : u.storeHeld = s.storeHeld := by rw [← hu, State.charge_storeHeld, State.take_storeHeld]
    refine ⟨fun holds => ?held, fun free first goes => ?starts⟩
    case held =>
      rw [State.storeGo_of_held (held.trans holds)] at request
      exact carried _ _ (.accepted _ false) (accepted request rfl) (.inr room) usound.wr
        fun t done => ⟨done.answered, (done.rd (by decide) _).trans (State.rd_wr_self usound.regs ..)⟩
    case starts =>
      have control : u.control = s.control := by rw [← hu, State.charge_control, State.take_control]
      have same : ∀ x, u.claimGoes x = s.claimGoes x := fun x => by rw [← hu, State.charge_claimGoes, State.take_claimGoes]
      rw [State.storeGo_of_free (held.trans free) (by rw [← hu, State.charge_waits, State.take_waits]; exact first)
        (by rw [control, same]; exact goes)] at request
      have claimed := (State.claim_within (M := 2 ^ 700 - 1) (by decide +kernel) (.refl _ u) ⟨.storeWrite, 4, u.control, [8]⟩).sound usound
      obtain ⟨vsound, busy, done'⟩ := State.storeStart_shows claimed
      exact carried _ _ (.accepted 1 false) (accepted request (by simp [State.isSet, done'])) (.inr room) vsound
        fun t done => ⟨done.answered, (done.rd (by decide) _).trans busy, (done.rd (by decide) _).trans done', done.long (.inl rfl)⟩

/-- Settles O29: each command is taken, does its work on the state in which it is taken, and is answered; COMB_START and STORE_WRITE do so as
their cycle ends. -/
theorem mailboxConvertersAndCalibration : Obligations.MailboxConvertersAndCalibration := by
  unfold Obligations.MailboxConvertersAndCalibration
  exact ⟨fun h ch addr s hs fresh hch works => channelQueries_answer hs fresh hch works,
    fun h ch atten enable s hs now => attenSet_answers hs now,
    fun h ch ctrl suff tol timeout s hs now hch works hctrl hsuff htol htimeout => cardSet_answers hs now hch works hctrl hsuff htol htimeout,
    fun h ch allow store s hs now hch works hallow hstore => combStart_answers hs now hch works hallow hstore,
    fun h s hs now room => storeWrite_answers hs now room⟩

end Sys2Proof.Machine
end

section
/-!
PROOFS. The assertion of a comparator (R81, R82, R290 to R295): which fields of a unit an output that moves changes, and what it keeps.
-/

namespace Sys2Proof.Machine

-- One proof at a time: proofs elaborated side by side ask for more memory than a compile of the whole text may take.
set_option Elab.async false

/-- A command that waits for the end of its core cycle does its work there. -/
theorem completesAtEnd_of_atEnd {c : Instr} {s : State} {f : State → State} {P : State → Prop} (run : exec c s = .next (s.atEnd true c f))
    (work : P (f s)) : CompletesAtEnd c s P := by
  refine ⟨fun opens => completes_of_eq run ?_ rfl, fun closes => completes_of_eq run ?_ work⟩
  · rw [State.atEnd, opens]; rfl
  · rw [State.atEnd, closes]; rfl

namespace State

/-- An episode opens: its bit, the sticky bit and the count, its start, what it has seen, and its span (R82). -/
def ovldOpens (s : State) (d c lo : Nat) : State :=
  let s := ((s.wr F.CNV_STATUS.OVLD_EPISODE [d, c] 1).flag F.CNV_STATUS.OVLD_STICKY [d, c]).count F.CNV_OVLD_COUNT.COUNT [d, c] 1
  ((s.wr I.ovldStart [d, c] s.now).wr I.ovldSeen [d, c] (2 ^ lo)).openSpan .overload d c (s.blkOf d)

-- What the parts of an assertion keep (R321) ------------------------------------------------------------------------------------

section
variable {s₀ s : State} (h : Keeps s₀ s)
include h

theorem flag_keeps {f : Fld} (hf : f.reg ∉ [Reg.EVC_PEND, .HVS_STATUS]) (ix : List Nat) : Keeps s₀ (s.flag f ix) :=
  (h.put hf ix 1).within (Within.set_fresh (.refl _ _) _ (by decide +kernel))

theorem count_keeps {f : Fld} (hf : f.reg ∉ [Reg.EVC_PEND, .HVS_STATUS]) (ix : List Nat) (n : Nat) : Keeps s₀ (s.count f ix n) :=
  (h.put hf ix _).within (Within.set_fresh (.refl _ _) _ (by decide +kernel))

theorem combOverload_keeps (d c : Nat) : Keeps s₀ (s.combOverload d c) := h.on _ fun _ h => combStop_keeps h _ _ _

theorem syncUnitWin_keeps (d u : Nat) : Keeps s₀ (s.syncUnitWin d u) := by
  unfold syncUnitWin
  split
  · unfold syncWin
    exact Keeps.ite h ((flag_keeps (h.put (by decide) _ _) (by decide) _).on _ fun _ h => h.raise ..)
  · exact h

theorem wakeCause_keeps (mask unit die : Nat) : Keeps s₀ (s.wakeCause mask unit die) :=
  h.within (wakeCause_within (by decide +kernel) (.refl _ s) mask unit die)

theorem wake_keeps (bit unit die : Nat) : Keeps s₀ (s.wake bit unit die) := by
  unfold wake
  refine Keeps.ite (Keeps.ite (wakeBegin_keeps h ..) (h.on _ fun _ h => wakeCause_keeps h ..)) (h.on _ fun _ h => ?_)
  exact (h.put (by decide) _ _).on _ fun _ h => (h.put (by decide) _ _).put (by decide) _ _

theorem ovldOpens_keeps (d c lo : Nat) : Keeps s₀ (s.ovldOpens d c lo) :=
  (((count_keeps (flag_keeps (h.put (by decide) _ _) (by decide) _) (by decide) _ _).put (by decide) _ _).put (by decide) _ _).within
    (openSpan_within (by decide +kernel) (.refl _ _) ..)

theorem ovldTrip_keeps (d c lo : Nat) : Keeps s₀ (s.ovldTrip d c lo) := by
  have sticky : Keeps s₀ (s.wr (if lo = 0 then F.CNV_STATUS.OVLD_HI else F.CNV_STATUS.OVLD_LO) [d, c] 1) := h.put (by split <;> decide) _ _
  exact Keeps.ite (sticky.put (by decide) _ _) (combOverload_keeps (Keeps.on (ovldOpens_keeps sticky d c lo) _ fun _ h => h.raise ..) d c)

theorem ovldClear_keeps (d c lo : Nat) : Keeps s₀ (s.ovldClear d c lo) := (h.put (by split <;> decide) _ _).put (by decide) _ _

theorem cmpAssert_keeps (d u : Nat) (released : Bool) : Keeps s₀ (s.cmpAssert d u released) := by
  unfold cmpAssert
  refine Keeps.on (syncUnitWin_keeps (Keeps.on (Keeps.on (Keeps.on (h.put (by decide) _ _) _ fun _ h => ?_) _ fun _ h => h.raise ..) _
    fun _ h => ?_) d u) _ fun _ h => wake_keeps h ..
  · exact flag_keeps (count_keeps h (by decide) _ _) (by decide) _
  · exact Keeps.ite (ovldTrip_keeps h ..) (ovldClear_keeps h ..)

end

-- The fields of a unit ------------------------------------------------------------------------------------------------------------

/-- The unit's output says asserted (R291). -/
def cmpAsserts (s : State) (d u : Nat) : Bool := !s.isSet F.CMP_STATUS.UNRESOLVED [d, u] && s.rd F.CMP_STATUS.OUT [d, u] != s.rd F.CMP_CTRL.POL [d, u]

/-- ASSERTED takes its value; a new assertion is counted and sets its sticky bit (R291). -/
def assertShown (s : State) (d u : Nat) : State :=
  (s.wrBool F.CMP_STATUS.ASSERTED [d, u] (s.cmpAsserts d u)).on (s.cmpAsserts d u && !s.isSet F.CMP_STATUS.ASSERTED [d, u]) fun s =>
    (s.count F.CMP_COUNT.COUNT [d, u] 1).flag F.CMP_STATUS.ASSERT_STICKY [d, u]

/-- The event of a change, and the trip or the clearing of an overload comparator (R81, R291). -/
def assertTold (s : State) (d u : Nat) (a was released : Bool) : State :=
  let s := s.on (a != was && s.isSet F.CMP_CTRL.EVT_EN [d, u]) fun s => s.raise d 184 (u + 2 ^ 4 * b2n a + 2 ^ 5 * b2n released)
  s.on (a != was && 2 ≤ u && u ≤ 5) fun s =>
    if a then s.ovldTrip d ((u - 2) / 2) (u % 2) else s.ovldClear d ((u - 2) / 2) (u % 2)

/-- The window follows, and an assertion wakes the device (R292, R295). -/
def assertEnds (s : State) (d u : Nat) (was : Bool) : State :=
  let s := s.syncUnitWin d u
  s.on (!was && s.cmpWakes d u && !s.isSet F.CMP_STATUS.SETTLING [d, u]) fun s => s.wake 0 u d

theorem cmpAssert_eq (s : State) (d u : Nat) (released : Bool) : s.cmpAssert d u released =
    ((s.assertShown d u).assertTold d u (s.cmpAsserts d u) (s.isSet F.CMP_STATUS.ASSERTED [d, u]) released).assertEnds d u
      (s.isSet F.CMP_STATUS.ASSERTED [d, u]) := rfl

/-- The registers of a unit and of a channel that the end of an assertion leaves. -/
def unitRegs : List Reg := [.CMP_STATUS, .CMP_CTRL, .CMP_THRESH, .CMP_BLANK, .i_cmpIn, .i_cmpStart, .i_cmpPower, .i_cmpBlankDt]

theorem assertTold_within (s : State) (d u : Nat) (a was released : Bool) : Within (Foot.without unitRegs []) s (s.assertTold d u a was released) :=
  ((Within.refl _ s).on fun _ hu => raise_within (by decide +kernel) hu ..).on fun _ hu =>
    .ite (ovldTrip_within (by decide +kernel) hu ..) (ovldClear_within (by decide +kernel) hu ..)

theorem assertEnds_within (s : State) (d u : Nat) (was : Bool) :
    Within (Foot.without (.CNV_STATUS :: .CNV_OVLD_COUNT :: unitRegs) []) s (s.assertEnds d u was) :=
  (syncUnitWin_within (by decide +kernel) (.refl _ s) d u).on fun _ hu => wake_within (by decide +kernel) hu ..

/-- An assertion changes of the registers of the unit only ASSERTED and its sticky bit. -/
theorem cmpAssert_rd {f : Fld} (hf : f.reg ∈ unitRegs) (hl : f.reg = .CMP_STATUS → f.lo ≠ F.CMP_STATUS.ASSERTED.lo ∧ f.lo ≠ F.CMP_STATUS.ASSERT_STICKY.lo)
    (s : State) (d u : Nat) (released : Bool) (ix : List Nat) : (s.cmpAssert d u released).rd f ix = s.rd f ix := by
  have bit : ∀ {M : Foot} (l : List Reg), f.reg ∈ l → (∀ r ∈ l, M.testBit r.ctorIdx = false) → M.testBit f.reg.ctorIdx = false :=
    fun l hl all => all _ hl
  have other : ∀ (t : State) {g : Fld} {jx v}, g.reg = .CMP_STATUS → g.lo = F.CMP_STATUS.ASSERTED.lo ∨ g.lo = F.CMP_STATUS.ASSERT_STICKY.lo →
      (t.wr g jx v).rd f ix = t.rd f ix := fun t g jx v hg lo => by
    by_cases own : f.reg = .CMP_STATUS
    · obtain ⟨h1, h2⟩ := hl own
      refine rd_wr_of_lo ?_ ..
      rcases lo with e | e <;> rw [e] <;> assumption
    · exact rd_wr_of_reg (by rwa [hg]) ..
  have shown : (s.assertShown d u).rd f ix = s.rd f ix := by
    have count : ∀ t : State, ((t.count F.CMP_COUNT.COUNT [d, u] 1).flag F.CMP_STATUS.ASSERT_STICKY [d, u]).rd f ix = t.rd f ix := fun t =>
      (other _ rfl (.inr rfl)).trans (rd_wr_of_reg (fun e => absurd hf (by rw [e]; decide)) ..)
    have bitWritten := other s (g := F.CMP_STATUS.ASSERTED) (jx := [d, u]) (v := b2n (s.cmpAsserts d u)) rfl (.inl rfl)
    rw [assertShown]
    cases s.cmpAsserts d u && !s.isSet F.CMP_STATUS.ASSERTED [d, u]
    · exact bitWritten
    · exact (count _).trans bitWritten
  rw [cmpAssert_eq, (assertEnds_within ..).rd _ _ (bit unitRegs hf (by decide +kernel)), (assertTold_within ..).rd _ _ (bit unitRegs hf (by decide +kernel)),
    shown]

end State
end Sys2Proof.Machine
end

section
/-!
PROOFS. The output of a comparator (R289 to R298): what it shows as an input moves it, and as a settling or a window ends.
-/

namespace Sys2Proof.Machine

-- One proof at a time: proofs elaborated side by side ask for more memory than a compile of the whole text may take.
set_option Elab.async false

namespace State

-- OUT changes (R290, R294) -------------------------------------------------------------------------------------------------------

/-- The fields of a unit that no change of its output changes. -/
def stays (f : Fld) : Bool :=
  unitRegs.contains f.reg && f.reg != .i_cmpBlankDt &&
    (f.reg != .CMP_STATUS ||
      !([F.CMP_STATUS.OUT.lo, F.CMP_STATUS.ASSERTED.lo, F.CMP_STATUS.ASSERT_STICKY.lo, F.CMP_STATUS.BLANKING.lo] : List Nat).contains f.lo)

theorem stays_iff (f : Fld) : stays f = true ↔ f.reg ∈ unitRegs ∧ f.reg ≠ .i_cmpBlankDt ∧
    (f.reg = .CMP_STATUS → f.lo ≠ F.CMP_STATUS.OUT.lo ∧ f.lo ≠ F.CMP_STATUS.ASSERTED.lo ∧ f.lo ≠ F.CMP_STATUS.ASSERT_STICKY.lo ∧
      f.lo ≠ F.CMP_STATUS.BLANKING.lo) := by
  simp [stays, imp_iff_not_or, and_assoc]

/-- An edge reaches the time-interval units and the terms; the unit keeps its registers. -/
theorem cmpEdge_unit (s : State) (d u : Nat) (dt : Instant) (rising : Bool) :
    Within (Foot.without ([.CNV_STATUS, .CNV_OVLD_COUNT, .EVC_PEND, .HVS_STATUS] ++ unitRegs) []) s (s.cmpEdge d u dt rising) :=
  cmpEdge_within (by decide +kernel) (.refl _ s) ..

/-- An edge that passes opens the window of BLANK_SRC = 1 (R297). -/
def outBlanks (s : State) (d u : Nat) (dt : Instant) : State :=
  s.on (s.rd F.CMP_CTRL.BLANK_SRC [d, u] == 1 && s.isSet F.CMP_BLANK.LEN [d, u]) fun s =>
    (s.wr F.CMP_STATUS.BLANKING [d, u] 1).wr I.cmpBlankDt [d, u] (dtAdd (dt / 4096) (1024 * s.rd F.CMP_BLANK.LEN [d, u]))

theorem cmpOut_eq (s : State) (d u : Nat) (dt : Instant) (high released : Bool) : s.cmpOut d u dt high released =
    ((((s.wrBool F.CMP_STATUS.OUT [d, u] high).cmpAssert d u released).outBlanks d u dt).cmpEdge d u dt high) := rfl

theorem outBlanks_within (s : State) (d u : Nat) (dt : Instant) : Within (Foot.of [.CMP_STATUS, .i_cmpBlankDt] []) s (s.outBlanks d u dt) :=
  (Within.refl _ s).on fun _ hu => (hu.wr _ _ _ (by decide +kernel)).wr _ _ _ (by decide +kernel)

theorem outBlanks_rd {f : Fld} (hr : f.reg ≠ .i_cmpBlankDt) (hl : f.reg = .CMP_STATUS → f.lo ≠ F.CMP_STATUS.BLANKING.lo) (s : State) (d u : Nat)
    (dt : Instant) (ix : List Nat) : (s.outBlanks d u dt).rd f ix = s.rd f ix := by
  unfold outBlanks
  cases s.rd F.CMP_CTRL.BLANK_SRC [d, u] == 1 && s.isSet F.CMP_BLANK.LEN [d, u]
  · rfl
  · refine (rd_wr_of_reg hr ..).trans ?_
    by_cases own : f.reg = .CMP_STATUS
    · exact rd_wr_of_lo (hl own) ..
    · exact rd_wr_of_reg own ..

/-- Without BLANK_SRC = 1 no window opens. -/
theorem outBlanks_of_other {s : State} {d u : Nat} (other : s.rd F.CMP_CTRL.BLANK_SRC [d, u] ≠ 1) (dt : Instant) : s.outBlanks d u dt = s :=
  on_of_false (by simp [other]) ..

/-- Neither the window nor the edge touches what an assertion shows of a channel, or OUT. -/
theorem outTail_rd {f : Fld} (hf : f.reg ∈ [Reg.CNV_STATUS, .CNV_OVLD_COUNT] ++ unitRegs) (hr : f.reg ≠ .i_cmpBlankDt)
    (hl : f.reg = .CMP_STATUS → f.lo ≠ F.CMP_STATUS.BLANKING.lo) (s : State) (d u : Nat) (dt : Instant) (rising : Bool) (ix : List Nat) :
    ((s.outBlanks d u dt).cmpEdge d u dt rising).rd f ix = s.rd f ix :=
  ((cmpEdge_unit ..).rd _ _
    ((by decide +kernel : ∀ r ∈ [Reg.CNV_STATUS, .CNV_OVLD_COUNT] ++ unitRegs, (Foot.without ([.CNV_STATUS, .CNV_OVLD_COUNT, .EVC_PEND, .HVS_STATUS] ++
      unitRegs) []).testBit r.ctorIdx = false) _ hf)).trans (outBlanks_rd hr hl ..)

/-- OUT of a unit that changes shows its level; a window may open; the other fields of the unit stay. -/
theorem cmpOut_shows {s : State} (hs : s.Sound) (d u : Nat) (dt : Instant) (high released : Bool) :
    let t := s.cmpOut d u dt high released
    t.rd F.CMP_STATUS.OUT [d, u] = b2n high ∧ (∀ f : Fld, stays f = true → ∀ ix, t.rd f ix = s.rd f ix) ∧
      (s.rd F.CMP_CTRL.BLANK_SRC [d, u] ≠ 1 → t.rd F.CMP_STATUS.BLANKING [d, u] = s.rd F.CMP_STATUS.BLANKING [d, u]) := by
  intro t
  have asserted : ∀ {f : Fld}, f.reg ∈ unitRegs →
      (f.reg = .CMP_STATUS → f.lo ≠ F.CMP_STATUS.ASSERTED.lo ∧ f.lo ≠ F.CMP_STATUS.ASSERT_STICKY.lo) → ∀ ix,
      ((s.wrBool F.CMP_STATUS.OUT [d, u] high).cmpAssert d u released).rd f ix = (s.wrBool F.CMP_STATUS.OUT [d, u] high).rd f ix :=
    fun hf hl ix => cmpAssert_rd hf hl ..
  refine ⟨?out, fun f hf ix => ?rest, fun other => ?blanking⟩
  case out =>
    rw [show t = _ from cmpOut_eq .., outTail_rd (by decide) (by decide) (by decide), asserted (by decide) (by decide)]
    exact (rd_wr_self hs.regs ..).trans (trunc_one_b2n high)
  case rest =>
    obtain ⟨unit, window, field⟩ := (stays_iff f).mp hf
    rw [show t = _ from cmpOut_eq .., outTail_rd (List.mem_append_right _ unit) window (fun e => (field e).2.2.2),
      asserted unit fun e => ⟨(field e).2.1, (field e).2.2.1⟩]
    by_cases own : f.reg = .CMP_STATUS
    · exact rd_wr_of_lo (field own).1 ..
    · exact rd_wr_of_reg own ..
  case blanking =>
    have same : ((s.wrBool F.CMP_STATUS.OUT [d, u] high).cmpAssert d u released).rd F.CMP_CTRL.BLANK_SRC [d, u] = s.rd F.CMP_CTRL.BLANK_SRC [d, u] :=
      (asserted (by decide) (by decide) _).trans (rd_wr_of_reg (by decide) ..)
    rw [show t = _ from cmpOut_eq .., outBlanks_of_other (by rwa [same]), (cmpEdge_unit ..).rd _ _ (by decide +kernel),
      asserted (by decide) (by decide)]
    exact rd_wr_of_lo (by decide) ..

-- An unresolved unit resolves (R290) ----------------------------------------------------------------------------------------------

theorem cmpResolve_shows {s : State} (hs : s.Sound) (d u : Nat) (released : Bool) :
    let t := s.cmpResolve d u released
    t.Sound ∧ t.rd F.CMP_STATUS.OUT [d, u] = 1 ∧ t.rd F.CMP_STATUS.UNRESOLVED [d, u] = 0 ∧ t.pends d 186 = true ∧
      ∀ f : Fld, f.reg ∈ unitRegs → (f.reg = .CMP_STATUS → f.lo = F.CMP_STATUS.SETTLING.lo ∨ f.lo = F.CMP_STATUS.BLANKING.lo) → ∀ ix,
        t.rd f ix = s.rd f ix := by
  intro t
  let a : State := (s.wr F.CMP_STATUS.OUT [d, u] 1).wr F.CMP_STATUS.UNRESOLVED [d, u] 0
  have raised : (a.raise d 186 u).Sound := raise_sound hs.wr.wr ..
  have kept := cmpAssert_keeps (.refl (a.raise d 186 u)) d u released
  have asserted : ∀ {f : Fld}, f.reg ∈ unitRegs →
      (f.reg = .CMP_STATUS → f.lo ≠ F.CMP_STATUS.ASSERTED.lo ∧ f.lo ≠ F.CMP_STATUS.ASSERT_STICKY.lo) → ∀ ix, t.rd f ix = a.rd f ix :=
    fun hf hl ix => (cmpAssert_rd hf hl ..).trans (raise_rd ((by decide : ∀ r ∈ unitRegs, r ∉ Reg.ofEvents) _ hf) ..)
  refine ⟨kept.sound raised, (asserted (by decide) (by decide) _).trans ?_, (asserted (by decide) (by decide) _).trans (rd_wr_self hs.wr.regs ..),
    kept.pends raised _ _ (raise_pends hs.wr.wr ..), fun f hf hl ix => (asserted hf ?_ _).trans ?_⟩
  · exact (rd_wr_of_lo (by decide) ..).trans (rd_wr_self hs.regs ..)
  · exact fun e => by rcases hl e with h | h <;> rw [h] <;> decide
  · by_cases own : f.reg = .CMP_STATUS
    · have ne : f.lo ≠ F.CMP_STATUS.UNRESOLVED.lo ∧ f.lo ≠ F.CMP_STATUS.OUT.lo := by rcases hl own with h | h <;> rw [h] <;> decide
      exact (rd_wr_of_lo ne.1 ..).trans (rd_wr_of_lo ne.2 ..)
    · exact (rd_wr_of_reg own ..).trans (rd_wr_of_reg own ..)

-- A settling or a window ends (R293, R298) ----------------------------------------------------------------------------------------

/-- A field of one bit that holds 0 or 1 shows whether it is set. -/
theorem b2n_isSet {s : State} {f : Fld} {ix : List Nat} (small : s.rd f ix < 2) : b2n (s.isSet f ix) = s.rd f ix := by
  have : s.rd f ix = 0 ∨ s.rd f ix = 1 := by omega
  rcases this with h | h <;> simp [isSet, h]

/-- OUT of a resolved unit takes the comparator's present value. -/
theorem cmpRelease_out {s : State} (hs : s.Sound) {d u : Nat} (resolved : s.rd F.CMP_STATUS.UNRESOLVED [d, u] = 0) (hin : s.rd I.cmpIn [d, u] < 2)
    (hout : s.rd F.CMP_STATUS.OUT [d, u] < 2) (dt : Instant) : (s.cmpRelease d u dt).rd F.CMP_STATUS.OUT [d, u] = s.rd I.cmpIn [d, u] := by
  rw [cmpRelease, if_neg (by simp [isSet, resolved])]
  split
  · next same => rw [← b2n_isSet hin, ← b2n_isSet hout, same]
  · exact (cmpOut_shows hs d u dt _ true).1.trans (b2n_isSet hin)

/-- What the release of OUT leaves: SETTLING, and BLANKING but where the edge opens a window. -/
theorem cmpRelease_rest {s : State} (hs : s.Sound) (d u : Nat) (dt : Instant) :
    (s.cmpRelease d u dt).rd F.CMP_STATUS.SETTLING [d, u] = s.rd F.CMP_STATUS.SETTLING [d, u] ∧
      (s.rd F.CMP_CTRL.BLANK_SRC [d, u] ≠ 1 → (s.cmpRelease d u dt).rd F.CMP_STATUS.BLANKING [d, u] = s.rd F.CMP_STATUS.BLANKING [d, u]) := by
  unfold cmpRelease
  obtain ⟨-, -, -, -, resolved⟩ := cmpResolve_shows hs d u true
  obtain ⟨-, out, blanking⟩ := cmpOut_shows hs d u dt (s.isSet I.cmpIn [d, u]) true
  dsimp only
  split
  · split
    · exact ⟨resolved _ (by decide) (fun _ => .inl rfl) _, fun _ => resolved _ (by decide) (fun _ => .inr rfl) _⟩
    · exact ⟨rfl, fun _ => rfl⟩
  · split
    · exact ⟨rfl, fun _ => rfl⟩
    · exact ⟨out _ (by decide) _, blanking⟩

theorem cmpSettled_shows {s : State} (hs : s.Sound) {d u : Nat} (settling : s.rd F.CMP_STATUS.SETTLING [d, u] ≠ 0)
    (due : s.dueOn d (s.rd I.cmpSettleDt [d, u]) = true) :
    (s.cmpSettled d u).rd F.CMP_STATUS.SETTLING [d, u] = 0 ∧
      (s.rd F.CMP_STATUS.BLANKING [d, u] = 0 → s.rd F.CMP_STATUS.UNRESOLVED [d, u] = 0 → s.rd I.cmpIn [d, u] < 2 →
        s.rd F.CMP_STATUS.OUT [d, u] < 2 → (s.cmpSettled d u).rd F.CMP_STATUS.OUT [d, u] = s.rd I.cmpIn [d, u]) := by
  let a : State := s.wr F.CMP_STATUS.SETTLING [d, u] 0
  let b : State := a.on (!a.isSet F.CMP_STATUS.BLANKING [d, u]) fun s => s.cmpRelease d u (4096 * s.rd I.cmpSettleDt [d, u])
  have run : s.cmpSettled d u = b.on (b.cmpWakes d u) fun s => s.wake 0 u d := if_neg (by simp [isSet, settling, due])
  have wakes : Within (Foot.without [.CMP_STATUS] []) b (s.cmpSettled d u) := by
    rw [run]
    exact (Within.refl _ b).on fun _ hu => wake_within (by decide +kernel) hu ..
  have sound : a.Sound := hs.wr
  refine ⟨(wakes.rd _ _ (by decide +kernel)).trans ?_, fun open_ resolved hin hout => (wakes.rd _ _ (by decide +kernel)).trans ?_⟩
  · have zero : a.rd F.CMP_STATUS.SETTLING [d, u] = 0 := rd_wr_self hs.regs ..
    show (a.on _ _).rd _ _ = 0
    cases a.isSet F.CMP_STATUS.BLANKING [d, u]
    · exact (cmpRelease_rest sound d u _).1.trans zero
    · exact zero
  · have closed : (!a.isSet F.CMP_STATUS.BLANKING [d, u]) = true := by
      rw [isSet, rd_wr_of_lo (by decide), open_]; rfl
    have value : a.rd I.cmpIn [d, u] = s.rd I.cmpIn [d, u] := rd_wr_of_reg (by decide) ..
    rw [show b = _ from on_of_true closed .., cmpRelease_out sound ((rd_wr_of_lo (by decide) ..).trans resolved) (by rwa [value])
      (by rwa [show a.rd F.CMP_STATUS.OUT [d, u] = s.rd F.CMP_STATUS.OUT [d, u] from rd_wr_of_lo (by decide) ..]), value]

theorem blankClose_shows {s : State} (hs : s.Sound) {d u : Nat} (blanking : s.rd F.CMP_STATUS.BLANKING [d, u] ≠ 0)
    (due : s.dueOn d (s.rd I.cmpBlankDt [d, u]) = true) :
    (s.rd F.CMP_CTRL.BLANK_SRC [d, u] ≠ 1 → (s.blankClose d u).rd F.CMP_STATUS.BLANKING [d, u] = 0) ∧
      (s.rd F.CMP_STATUS.SETTLING [d, u] = 0 → s.rd F.CMP_STATUS.UNRESOLVED [d, u] = 0 → s.rd I.cmpIn [d, u] < 2 →
        s.rd F.CMP_STATUS.OUT [d, u] < 2 → (s.blankClose d u).rd F.CMP_STATUS.OUT [d, u] = s.rd I.cmpIn [d, u]) := by
  let a : State := s.wr F.CMP_STATUS.BLANKING [d, u] 0
  have run : s.blankClose d u = a.on (!a.isSet F.CMP_STATUS.SETTLING [d, u]) fun s => s.cmpRelease d u (4096 * s.rd I.cmpBlankDt [d, u]) :=
    if_neg (by simp [isSet, blanking, due])
  have sound : a.Sound := hs.wr
  rw [run]
  refine ⟨fun other => ?_, fun settled resolved hin hout => ?_⟩
  · have zero : a.rd F.CMP_STATUS.BLANKING [d, u] = 0 := rd_wr_self hs.regs ..
    cases a.isSet F.CMP_STATUS.SETTLING [d, u]
    · exact ((cmpRelease_rest sound d u _).2 (by rwa [rd_wr_of_reg (by decide)])).trans zero
    · exact zero
  · have done : (!a.isSet F.CMP_STATUS.SETTLING [d, u]) = true := by
      rw [isSet, rd_wr_of_lo (by decide), settled]; rfl
    have value : a.rd I.cmpIn [d, u] = s.rd I.cmpIn [d, u] := rd_wr_of_reg (by decide) ..
    rw [on_of_true done, cmpRelease_out sound ((rd_wr_of_lo (by decide) ..).trans resolved) (by rwa [value])
      (by rwa [show a.rd F.CMP_STATUS.OUT [d, u] = s.rd F.CMP_STATUS.OUT [d, u] from rd_wr_of_lo (by decide) ..]), value]

end State
end Sys2Proof.Machine
end

section
/-!
PROOFS. An input of a comparator (R81, R82, R289, R290, R298): what the unit does with a value, and the overload episode that a trip opens.
-/

namespace Sys2Proof.Machine

-- One proof at a time: proofs elaborated side by side ask for more memory than a compile of the whole text may take.
set_option Elab.async false

namespace State

-- Where a value lies (R289) -----------------------------------------------------------------------------------------------------

/-- The value is at or above U. -/
abbrev reachesU (s : State) (d u : Nat) (v : Int) : Prop :=
  (2 * s.cmpThresh d u + s.rd F.CMP_THRESH.HYST [d, u]) * (cmpScale u).2 ≤ 2 * (v - (cmpScale u).1)

/-- The value is below D. -/
abbrev belowD (s : State) (d u : Nat) (v : Int) : Prop :=
  2 * (v - (cmpScale u).1) < (2 * s.cmpThresh d u - s.rd F.CMP_THRESH.HYST [d, u]) * (cmpScale u).2

theorem cmpLevel_between {s : State} {d u : Nat} {v : Int} (high : ¬s.reachesU d u v) (low : ¬s.belowD d u v) : s.cmpLevel d u v = 2 := by
  rw [cmpLevel, if_neg high]
  exact if_neg low

theorem cmpLevel_outside {s : State} {d u : Nat} {v : Int} (outside : s.reachesU d u v ∨ s.belowD d u v) :
    s.cmpLevel d u v = b2n (decide (s.reachesU d u v)) := by
  by_cases high : s.reachesU d u v
  · rw [cmpLevel, decide_eq_true high]
    exact if_pos high
  · rw [cmpLevel, decide_eq_false high, if_neg high]
    exact if_pos (outside.resolve_left high)

-- What the comparator does with it (R290, R294, R298) ---------------------------------------------------------------------------

/-- The level of a value outside the hysteresis is 1 or 0. -/
theorem level_eq_one (b : Bool) : (b2n b == 1) = b := by cases b <;> rfl

theorem level_ne_two (b : Bool) : b2n b ≠ 2 := by cases b <;> decide

/-- A value between D and U only ends the start of a unit. -/
theorem cmpSees_between {s : State} (hs : s.Sound) {d u : Nat} {at_ : Instant} {v : Int} (powered : s.rd I.cmpPower [d, u] ≠ 0)
    (level : s.cmpLevel d u v = 2) : (s.cmpSees d u at_ v).rd I.cmpStart [d, u] = 0 ∧
      ∀ f : Fld, f.reg = .CMP_STATUS → (s.cmpSees d u at_ v).rd f [d, u] = s.rd f [d, u] := by
  have on : s.isSet I.cmpPower [d, u] = true := bne_iff_ne.mpr powered
  by_cases starts : s.rd I.cmpStart [d, u] = 0
  · have run : s.cmpSees d u at_ v = s := by simp [cmpSees, level, isSet, starts]
    rw [run]
    exact ⟨starts, fun _ _ => rfl⟩
  · have run : s.cmpSees d u at_ v = (s.wr I.cmpStart [d, u] 0).wrBool I.cmpIn [d, u] false := by
      have starting : s.isSet I.cmpStart [d, u] = true := bne_iff_ne.mpr starts
      simp [cmpSees, on, level, starting]
    rw [run]
    exact ⟨(rd_wr_of_reg (by decide) ..).trans (rd_wr_self hs.regs ..),
      fun f hf => (rd_wr_of_reg (by rw [hf]; decide) ..).trans (rd_wr_of_reg (by rw [hf]; decide) ..)⟩

/-- The first value outside the hysteresis decides a unit that starts. -/
theorem cmpSees_starts {s : State} (hs : s.Sound) {d u : Nat} {at_ : Instant} {v : Int} {b : Bool} (powered : s.rd I.cmpPower [d, u] ≠ 0)
    (level : s.cmpLevel d u v = b2n b) (starts : s.rd I.cmpStart [d, u] ≠ 0) : (s.cmpSees d u at_ v).rd I.cmpStart [d, u] = 0 ∧
      (s.cmpSees d u at_ v).rd F.CMP_STATUS.OUT [d, u] = b2n b ∧ (s.cmpSees d u at_ v).rd F.CMP_STATUS.UNRESOLVED [d, u] = 0 := by
  let a : State := (s.wr I.cmpStart [d, u] 0).wrBool I.cmpIn [d, u] b
  let e : State := (a.wrBool F.CMP_STATUS.OUT [d, u] b).wr F.CMP_STATUS.UNRESOLVED [d, u] 0
  have on : s.isSet I.cmpPower [d, u] = true := bne_iff_ne.mpr powered
  have starting : s.isSet I.cmpStart [d, u] = true := bne_iff_ne.mpr starts
  have run : s.cmpSees d u at_ v = e.cmpAssert d u false := by
    simp only [cmpSees, on, level, starting, level_eq_one, level_ne_two, Bool.not_true, Bool.false_eq_true, if_false, if_true]
    rfl
  have ha : a.Sound := hs.wr.wr
  have hb : (a.wrBool F.CMP_STATUS.OUT [d, u] b).Sound := ha.wr
  rw [run]
  refine ⟨(cmpAssert_rd (by decide) (by decide) ..).trans ?_, (cmpAssert_rd (by decide) (by decide) ..).trans ?_,
    (cmpAssert_rd (by decide) (by decide) ..).trans (rd_wr_self hb.regs ..)⟩
  · exact (rd_wr_of_reg (by decide) ..).trans ((rd_wr_of_reg (by decide) ..).trans ((rd_wr_of_reg (by decide) ..).trans (rd_wr_self hs.regs ..)))
  · exact (rd_wr_of_lo (by decide) ..).trans ((rd_wr_self ha.regs ..).trans (trunc_one_b2n b))

/-- A transition of the comparator of a unit that runs: its new level is noted, and the unit acts on it. -/
theorem cmpSees_moves {s : State} {d u : Nat} {at_ : Instant} {v : Int} {b : Bool} (powered : s.rd I.cmpPower [d, u] ≠ 0)
    (level : s.cmpLevel d u v = b2n b) (runs : s.rd I.cmpStart [d, u] = 0) (moves : s.rd I.cmpIn [d, u] = 1 - b2n b) :
    s.cmpSees d u at_ v =
      let a := s.wrBool I.cmpIn [d, u] b
      if a.isSet F.CMP_STATUS.SETTLING [d, u] || a.isSet F.CMP_STATUS.BLANKING [d, u] then a.count F.CMP_BLANK_COUNT.COUNT [d, u] 1
      else if a.isSet F.CMP_STATUS.UNRESOLVED [d, u] then (if b2n b = 1 then a.cmpResolve d u false else a)
      else a.cmpOut d u (instSub (at_ / 256 * 256) (4096 * cmpResponse (a.rd F.CMP_STATUS.MODE_ACT [d, u]))) b false := by
  have on : s.isSet I.cmpPower [d, u] = true := bne_iff_ne.mpr powered
  have running : s.isSet I.cmpStart [d, u] = false := by rw [isSet, runs]; rfl
  have changes : ¬(b2n b = 2 ∨ b = s.isSet I.cmpIn [d, u]) := by rw [isSet, moves]; cases b <;> decide
  simp only [cmpSees, on, level, running, level_eq_one, Bool.not_true, Bool.false_eq_true, if_false, if_neg changes]

/-- What the transition notes leaves the rest of the unit. -/
theorem noted_rd {f : Fld} (hf : f.reg ≠ .i_cmpIn) (s : State) (d u : Nat) (b : Bool) (ix : List Nat) :
    (s.wrBool I.cmpIn [d, u] b).rd f ix = s.rd f ix := rd_wr_of_reg hf ..

/-- During settling or blanking a transition is counted and OUT is held. -/
theorem cmpSees_held {s : State} (hs : s.Sound) {d u : Nat} {at_ : Instant} {v : Int} {b : Bool} (powered : s.rd I.cmpPower [d, u] ≠ 0)
    (level : s.cmpLevel d u v = b2n b) (runs : s.rd I.cmpStart [d, u] = 0) (moves : s.rd I.cmpIn [d, u] = 1 - b2n b)
    (held : s.rd F.CMP_STATUS.SETTLING [d, u] ≠ 0 ∨ s.rd F.CMP_STATUS.BLANKING [d, u] ≠ 0)
    (room : s.rd F.CMP_BLANK_COUNT.COUNT [d, u] + 1 < 2 ^ 32) :
    let t := s.cmpSees d u at_ v
    t.rd F.CMP_BLANK_COUNT.COUNT [d, u] = s.rd F.CMP_BLANK_COUNT.COUNT [d, u] + 1 ∧ t.rd I.cmpIn [d, u] = b2n b ∧
      t.rd F.CMP_STATUS.OUT [d, u] = s.rd F.CMP_STATUS.OUT [d, u] := by
  let a : State := s.wrBool I.cmpIn [d, u] b
  have holds : (a.isSet F.CMP_STATUS.SETTLING [d, u] || a.isSet F.CMP_STATUS.BLANKING [d, u]) = true := by
    rw [isSet, isSet, noted_rd (by decide), noted_rd (by decide)]
    simpa using held
  have run : s.cmpSees d u at_ v = a.count F.CMP_BLANK_COUNT.COUNT [d, u] 1 := (cmpSees_moves powered level runs moves).trans (if_pos holds)
  have count : a.rd F.CMP_BLANK_COUNT.COUNT [d, u] = s.rd F.CMP_BLANK_COUNT.COUNT [d, u] := noted_rd (by decide) ..
  have sound : a.Sound := hs.wr
  intro t
  rw [show t = _ from run]
  refine ⟨?_, (rd_wr_of_reg (by decide) ..).trans ((rd_wr_self hs.regs ..).trans (trunc_one_b2n b)),
    (rd_wr_of_reg (by decide) ..).trans (noted_rd (by decide) ..)⟩
  have short : min (a.rd F.CMP_BLANK_COUNT.COUNT [d, u] + 1) (2 ^ 32 - 1) = s.rd F.CMP_BLANK_COUNT.COUNT [d, u] + 1 := by rw [count]; omega
  refine (rd_wr_self sound.regs ..).trans ?_
  show min (a.rd F.CMP_BLANK_COUNT.COUNT [d, u] + 1) (2 ^ 32 - 1) % 2 ^ 32 = _
  rw [short]
  exact Nat.mod_eq_of_lt room

/-- Else a unit that is resolved follows. -/
theorem cmpSees_follows {s : State} {d u : Nat} {at_ : Instant} {v : Int} {b : Bool} (powered : s.rd I.cmpPower [d, u] ≠ 0)
    (level : s.cmpLevel d u v = b2n b) (runs : s.rd I.cmpStart [d, u] = 0) (moves : s.rd I.cmpIn [d, u] = 1 - b2n b)
    (settled : s.rd F.CMP_STATUS.SETTLING [d, u] = 0) (open_ : s.rd F.CMP_STATUS.BLANKING [d, u] = 0)
    (resolved : s.rd F.CMP_STATUS.UNRESOLVED [d, u] = 0) :
    ∃ dt, s.cmpSees d u at_ v = (s.wrBool I.cmpIn [d, u] b).cmpOut d u dt b false := by
  refine ⟨instSub (at_ / 256 * 256) (4096 * cmpResponse ((s.wrBool I.cmpIn [d, u] b).rd F.CMP_STATUS.MODE_ACT [d, u])),
    (cmpSees_moves powered level runs moves).trans ?_⟩
  have field : ∀ f : Fld, f.reg = .CMP_STATUS → s.rd f [d, u] = 0 → (s.wrBool I.cmpIn [d, u] b).isSet f [d, u] = false := fun f hf zero => by
    rw [isSet, noted_rd (by rw [hf]; decide), zero]; rfl
  simp only [field F.CMP_STATUS.SETTLING rfl settled, field F.CMP_STATUS.BLANKING rfl open_, field F.CMP_STATUS.UNRESOLVED rfl resolved,
    Bool.or_self, Bool.false_eq_true, if_false]

/-- And a unit that is unresolved resolves at a rise to U. -/
theorem cmpSees_resolves {s : State} {d u : Nat} {at_ : Instant} {v : Int} (powered : s.rd I.cmpPower [d, u] ≠ 0)
    (level : s.cmpLevel d u v = 1) (runs : s.rd I.cmpStart [d, u] = 0) (moves : s.rd I.cmpIn [d, u] = 0)
    (settled : s.rd F.CMP_STATUS.SETTLING [d, u] = 0) (open_ : s.rd F.CMP_STATUS.BLANKING [d, u] = 0)
    (unresolved : s.rd F.CMP_STATUS.UNRESOLVED [d, u] ≠ 0) : s.cmpSees d u at_ v = (s.wrBool I.cmpIn [d, u] true).cmpResolve d u false := by
  refine (cmpSees_moves (b := true) powered level runs moves).trans ?_
  have field : ∀ f : Fld, f.reg = .CMP_STATUS → (s.wrBool I.cmpIn [d, u] true).rd f [d, u] = s.rd f [d, u] := fun f hf =>
    noted_rd (by rw [hf]; decide) ..
  have held : ((s.wrBool I.cmpIn [d, u] true).isSet F.CMP_STATUS.SETTLING [d, u] || (s.wrBool I.cmpIn [d, u] true).isSet F.CMP_STATUS.BLANKING [d, u])
      = false := by
    rw [isSet, isSet, field _ rfl, field _ rfl, settled, open_]; rfl
  have waits : (s.wrBool I.cmpIn [d, u] true).isSet F.CMP_STATUS.UNRESOLVED [d, u] = true := by
    rw [isSet, field _ rfl]
    exact bne_iff_ne.mpr unresolved
  simp only [held, waits, Bool.false_eq_true, if_false, if_true]
  rfl

-- An overload episode (R81, R82) ----------------------------------------------------------------------------------------------------

/-- The bit of a channel's pair that a comparator shows. -/
def pairBit (lo : Nat) : Fld := if lo = 0 then F.CNV_STATUS.OVLD_HI else F.CNV_STATUS.OVLD_LO

theorem pairBit_reg (lo : Nat) : (pairBit lo).reg = .CNV_STATUS := by unfold pairBit; split <;> rfl

theorem pairBit_width (lo : Nat) : (pairBit lo).width = 1 := by unfold pairBit; split <;> rfl

theorem pairBit_ne {f : Fld} (h0 : f.lo ≠ F.CNV_STATUS.OVLD_HI.lo) (h1 : f.lo ≠ F.CNV_STATUS.OVLD_LO.lo) (lo : Nat) : f.lo ≠ (pairBit lo).lo := by
  unfold pairBit; split <;> assumption

/-- A trip of a pair that was clear opens an episode: its bit, the sticky bit, the count, and its event where enabled. -/
theorem ovldTrip_shows {s : State} (hs : s.Sound) {d c lo : Nat} (clear : s.rd F.CNV_STATUS.OVLD_EPISODE [d, c] = 0) :
    let t := s.ovldTrip d c lo
    t.rd F.CNV_STATUS.OVLD_EPISODE [d, c] = 1 ∧ t.rd F.CNV_STATUS.OVLD_STICKY [d, c] = 1 ∧ t.rd (pairBit lo) [d, c] = 1 ∧
      (s.rd F.CNV_OVLD_COUNT.COUNT [d, c] + 1 < 2 ^ 32 → t.rd F.CNV_OVLD_COUNT.COUNT [d, c] = s.rd F.CNV_OVLD_COUNT.COUNT [d, c] + 1) ∧
      (s.rd F.CNV_CTRL.OVLD_EVT_EN [d, c] ≠ 0 → t.pends d (40 + c) = true) := by
  intro t
  let a : State := s.wr (pairBit lo) [d, c] 1
  let e : State := (a.wr F.CNV_STATUS.OVLD_EPISODE [d, c] 1).flag F.CNV_STATUS.OVLD_STICKY [d, c]
  let o : State := a.ovldOpens d c lo
  let r : State := o.on (o.isSet F.CNV_CTRL.OVLD_EVT_EN [d, c]) fun s => s.raise d (40 + c) (2 ^ lo)
  have ha : a.Sound := hs.wr
  have he : e.Sound := Sound.flag ha.wr _ _
  have still : a.rd F.CNV_STATUS.OVLD_EPISODE [d, c] = 0 := (rd_wr_of_lo (pairBit_ne (by decide) (by decide) lo) ..).trans clear
  have run : t = r.combOverload d c := by
    show (if a.isSet F.CNV_STATUS.OVLD_EPISODE [d, c] then _ else _) = _
    rw [if_neg (by simp [isSet, still])]
    rfl
  have opened : Within (Foot.without [.CNV_STATUS, .CNV_OVLD_COUNT, .CNV_CTRL] []) (e.count F.CNV_OVLD_COUNT.COUNT [d, c] 1) o :=
    openSpan_within (by decide +kernel) (((Within.refl _ _).wr _ _ _ (by decide +kernel)).wr _ _ _ (by decide +kernel)) ..
  have rest : Within (Foot.without [.CNV_STATUS, .CNV_OVLD_COUNT] []) o t := by
    rw [run]
    exact combOverload_within (by decide +kernel) ((Within.refl _ o).on fun _ hu => raise_within (by decide +kernel) hu ..) ..
  have status : ∀ {f : Fld}, f.reg = .CNV_STATUS → ∀ ix, t.rd f ix = e.rd f ix := fun hf ix =>
    (rest.rd _ _ (by rw [hf]; decide +kernel)).trans ((opened.rd _ _ (by rw [hf]; decide +kernel)).trans (rd_wr_of_reg (by rw [hf]; decide) ..))
  refine ⟨(status rfl _).trans ?_, (status rfl _).trans (rd_wr_self ha.wr.regs ..), (status (pairBit_reg lo) _).trans ?_, fun room => ?_, fun enabled => ?_⟩
  · exact (rd_wr_of_lo (by decide) ..).trans (rd_wr_self ha.regs ..)
  · refine (rd_wr_of_lo (pairBit_ne (f := F.CNV_STATUS.OVLD_STICKY) (by decide) (by decide) lo).symm ..).trans
      ((rd_wr_of_lo (pairBit_ne (f := F.CNV_STATUS.OVLD_EPISODE) (by decide) (by decide) lo).symm ..).trans ?_)
    rw [rd_wr_self hs.regs, pairBit_width]
    rfl
  · have before : e.rd F.CNV_OVLD_COUNT.COUNT [d, c] = s.rd F.CNV_OVLD_COUNT.COUNT [d, c] :=
      (rd_wr_of_reg (by decide) ..).trans ((rd_wr_of_reg (by decide) ..).trans (rd_wr_of_reg (by rw [pairBit_reg]; decide) ..))
    have short : min (e.rd F.CNV_OVLD_COUNT.COUNT [d, c] + 1) (2 ^ 32 - 1) = s.rd F.CNV_OVLD_COUNT.COUNT [d, c] + 1 := by rw [before]; omega
    rw [rest.rd _ _ (by decide +kernel), opened.rd _ _ (by decide +kernel)]
    refine (rd_wr_self he.regs ..).trans ?_
    show min (e.rd F.CNV_OVLD_COUNT.COUNT [d, c] + 1) (2 ^ 32 - 1) % 2 ^ 32 = _
    rw [short]
    exact Nat.mod_eq_of_lt room
  · have sound : o.Sound := (ovldOpens_keeps (.refl a) d c lo).sound ha
    have control : o.rd F.CNV_CTRL.OVLD_EVT_EN [d, c] = s.rd F.CNV_CTRL.OVLD_EVT_EN [d, c] :=
      (opened.rd _ _ (by decide +kernel)).trans ((rd_wr_of_reg (by decide) ..).trans ((rd_wr_of_reg (by decide) ..).trans
        ((rd_wr_of_reg (by decide) ..).trans (rd_wr_of_reg (by rw [pairBit_reg]; decide) ..))))
    have fires : r = o.raise d (40 + c) (2 ^ lo) := on_of_true (by rw [isSet, control]; exact bne_iff_ne.mpr enabled) ..
    rw [run, fires]
    exact (combOverload_keeps (.refl _) d c).pends (raise_sound sound ..) _ _ (raise_pends sound ..)

/-- An overload comparator that asserts trips its pair. -/
theorem assertTold_trips {s : State} {d c lo : Nat} (hlo : lo < 2) (hc : c < 2) (released : Bool) :
    s.assertTold d (2 + 2 * c + lo) true false released =
      (s.on (s.isSet F.CMP_CTRL.EVT_EN [d, 2 + 2 * c + lo]) fun s =>
        s.raise d 184 (2 + 2 * c + lo + 2 ^ 4 * b2n true + 2 ^ 5 * b2n released)).ovldTrip d c lo := by
  have channel : (2 + 2 * c + lo - 2) / 2 = c := by omega
  have side : (2 + 2 * c + lo) % 2 = lo := by omega
  have pair : (decide (2 ≤ 2 + 2 * c + lo) && decide (2 + 2 * c + lo ≤ 5)) = true := by simp; omega
  simp only [assertTold, channel, side, Bool.and_assoc, pair]
  rfl

end State
end Sys2Proof.Machine
end

section
/-!
PROOFS. The attenuator, overload episodes, comparators and their spares (R76, R81, R82, R289 to R301), command by command.
-/

namespace Sys2Proof.Machine

-- One proof at a time: proofs elaborated side by side ask for more memory than a compile of the whole text may take.
set_option Elab.async false

-- The attenuator (R76) ------------------------------------------------------------------------------------------------------------

theorem exec_attenWrite {d : Nat} {s : State} (reach : s.hostReach d = true) (c v : Nat) :
    exec (.attenWrite d c v) s = .next (State.writeAtten d c (v % 8) (s.wr F.CNV_CTRL.OVLD_EVT_EN [d, c] (v / 256 % 2))).1 := by
  have low : slice v 0 3 = v % 8 := by simp [slice]
  rw [← low]
  exact congrArg Host.Outcome.next (State.hostWrite_of_reach reach _)

theorem attenWrite_completes {d c v : Nat} {s : State} (hs : s.Sound) (reach : s.hostReach d = true) :
    (v % 8 = s.rd F.CNV_CTRL.ATTEN [d, c] ∨ s.mode = .paired ∧ c = 1 → Completes (.attenWrite d c v) s fun t =>
      t.rd F.CNV_CTRL.ATTEN [d, c] = v % 8 ∧ t.rd F.CNV_CTRL.OVLD_EVT_EN [d, c] = v / 256 % 2 ∧
      ∀ k : RegKey, k.reg ≠ .CNV_CTRL → t.regs.get k = s.regs.get k) ∧
    (v % 8 ≠ s.rd F.CNV_CTRL.ATTEN [d, c] → ¬(s.mode = .paired ∧ c = 1) →
      (s.armed d c = true → Completes (.attenWrite d c v) s fun t => t.rd F.CNV_STATUS.ATTEN_REJECT [d, c] = 1 ∧
        t.rd F.CNV_CTRL.ATTEN [d, c] = s.rd F.CNV_CTRL.ATTEN [d, c] ∧
        t.rd F.CNV_STATUS.SETTLING [d, c] = s.rd F.CNV_STATUS.SETTLING [d, c]) ∧
      (s.armed d c = false → Completes (.attenWrite d c v) s fun t => t.rd F.CNV_CTRL.ATTEN [d, c] = v % 8 ∧
        t.rd F.CNV_STATUS.SETTLING [d, c] = 1 ∧ t.rd F.CMP_THRESH.THRESH [d, 2 + 2 * c] = ovldThresh (v % 8) ∧
        t.rd F.CMP_THRESH.THRESH [d, 3 + 2 * c] = 4096 - ovldThresh (v % 8) ∧ t.rd F.CMP_THRESH.HYST [d, 2 + 2 * c] = 4 ∧
        t.rd F.CMP_THRESH.HYST [d, 3 + 2 * c] = 4)) := by
  let a : State := s.wr F.CNV_CTRL.OVLD_EVT_EN [d, c] (v / 256 % 2)
  have sound : a.Sound := hs.wr
  have small : v % 8 < 8 := Nat.mod_lt _ (by decide)
  have atten : a.rd F.CNV_CTRL.ATTEN [d, c] = s.rd F.CNV_CTRL.ATTEN [d, c] := State.rd_wr_of_lo (by decide) ..
  have event : a.rd F.CNV_CTRL.OVLD_EVT_EN [d, c] = v / 256 % 2 := State.rd_wr_self_of_lt hs _ _ (Nat.mod_lt _ (by decide))
  have armed : a.armed d c = s.armed d c := congrArg (· != 0) (State.rd_wr_of_reg (by decide) ..)
  have run := exec_attenWrite reach c v
  refine ⟨fun stored => ?stored, fun change own => ⟨fun busy => ?armed, fun idle => ?acts⟩⟩
  case stored =>
    by_cases same : v % 8 = s.rd F.CNV_CTRL.ATTEN [d, c]
    · refine completes_of_eq run (congrArg Prod.fst (State.writeAtten_of_same (s := a) (same.trans atten.symm)))
        ⟨atten.trans same.symm, event, fun k hk => State.get_wr_of_reg hk ..⟩
    · refine completes_of_eq run (congrArg Prod.fst (State.writeAtten_of_stored (s := a) (by rwa [atten]) (stored.resolve_left same)))
        ⟨State.rd_wr_self_of_lt sound _ _ small, (State.rd_wr_of_lo (by decide) ..).trans event, fun k hk => ?_⟩
      exact (State.get_wr_of_reg hk ..).trans (State.get_wr_of_reg hk ..)
  case armed =>
    refine completes_of_eq run (congrArg Prod.fst (State.writeAtten_of_armed (s := a) (by rwa [atten]) own (armed.trans busy))) ⟨?_, ?_, ?_⟩
    · exact State.rd_wr_self sound.regs ..
    · exact (State.rd_wr_of_reg (by decide) ..).trans atten
    · exact (State.rd_wr_of_lo (by decide) ..).trans (State.rd_wr_of_reg (by decide) ..)
  case acts =>
    obtain ⟨-, shown⟩ := State.attenActs_shows sound d c small
    exact completes_of_eq run (congrArg Prod.fst (State.writeAtten_of_idle (s := a) (by rwa [atten]) own (armed.trans idle))) shown

theorem attenSettled_completes {d c : Nat} {s : State} (hs : s.Sound) (settling : s.rd F.CNV_STATUS.SETTLING [d, c] ≠ 0) :
    (s.elapsed (s.rd I.settleAt [d, c]) 2500 = true → Completes (.attenSettled d c) s fun t =>
      t.rd F.CNV_STATUS.SETTLING [d, c] = 0 ∧ t.pends d 42 = true) ∧
    (s.elapsed (s.rd I.settleAt [d, c]) 2500 = false → Completes (.attenSettled d c) s fun t => t = s) := by
  have set : s.isSet F.CNV_STATUS.SETTLING [d, c] = true := bne_iff_ne.mpr settling
  refine ⟨fun passed => completes_of_eq rfl (State.on_of_true (by rw [set, passed]; rfl) ..) ⟨?_, State.raise_pends hs.wr ..⟩,
    fun runs => completes_of_eq rfl (State.on_of_false (by rw [set, runs]; rfl) ..) rfl⟩
  exact (State.raise_rd (by decide) ..).trans (State.rd_wr_self hs.regs ..)

-- Overload episodes (R81, R82) ------------------------------------------------------------------------------------------------------

namespace State

/-- An output that asserts an overload comparator of a pair that was clear opens an episode. -/
theorem cmpOut_trips {s : State} (hs : s.Sound) {d c lo u : Nat} (hc : c < 2) (hlo : lo < 2) (hu : u = 2 + 2 * c + lo) (dt : Instant)
    (b released : Bool) (asserts : (s.wrBool F.CMP_STATUS.OUT [d, u] b).cmpAsserts d u = true)
    (was : s.rd F.CMP_STATUS.ASSERTED [d, u] = 0) (clear : s.rd F.CNV_STATUS.OVLD_EPISODE [d, c] = 0) :
    let t := s.cmpOut d u dt b released
    t.rd F.CNV_STATUS.OVLD_EPISODE [d, c] = 1 ∧ t.rd F.CNV_STATUS.OVLD_STICKY [d, c] = 1 ∧ t.rd (pairBit lo) [d, c] = 1 ∧
      (s.rd F.CNV_OVLD_COUNT.COUNT [d, c] + 1 < 2 ^ 32 → t.rd F.CNV_OVLD_COUNT.COUNT [d, c] = s.rd F.CNV_OVLD_COUNT.COUNT [d, c] + 1) ∧
      (s.rd F.CNV_CTRL.OVLD_EVT_EN [d, c] ≠ 0 → t.pends d (40 + c) = true) := by
  intro t
  let a : State := s.wrBool F.CMP_STATUS.OUT [d, u] b
  let e : State := a.assertShown d u
  let r : State := e.on (e.isSet F.CMP_CTRL.EVT_EN [d, u]) fun s => s.raise d 184 (u + 2 ^ 4 * b2n true + 2 ^ 5 * b2n released)
  let x : State := r.ovldTrip d c lo
  have notYet : a.isSet F.CMP_STATUS.ASSERTED [d, u] = false :=
    congrArg (· != 0) ((rd_wr_of_lo (by decide) ..).trans was)
  have told : e.assertTold d u true false released = x := by
    subst hu
    exact assertTold_trips hlo hc released
  have run : t = ((x.assertEnds d u false).outBlanks d u dt).cmpEdge d u dt b := by
    rw [show t = _ from cmpOut_eq .., cmpAssert_eq, asserts, notYet, told]
  have shown : Within (Foot.of [.CMP_STATUS, .CMP_COUNT] [.fresh]) s e := by
    refine Within.on ((Within.refl _ s).wr _ _ _ (by decide +kernel) |>.wr _ _ _ (by decide +kernel)) fun v hv => ?_
    exact flag_within (by decide +kernel) (count_within (by decide +kernel) hv _ _ _ (by decide +kernel)) _ _ (by decide +kernel)
  have before : ∀ f : Fld, f.reg ∉ Reg.ofEvents → f.reg ∉ [Reg.CMP_STATUS, .CMP_COUNT] → r.rd f [d, c] = s.rd f [d, c] := fun f hf hg => by
    refine Eq.trans ?_ (shown.rd_of hg _)
    show (e.on _ _).rd f [d, c] = _
    cases e.isSet F.CMP_CTRL.EVT_EN [d, u]
    · rfl
    · exact raise_rd hf ..
  have rsound : r.Sound := ((Keeps.refl e).on _ fun _ h => h.raise ..).sound (shown.sound hs)
  have after : ∀ f : Fld, f.reg = .CNV_STATUS ∨ f.reg = .CNV_OVLD_COUNT → t.rd f [d, c] = x.rd f [d, c] := fun f hf => by
    have mem : f.reg ∈ [Reg.CNV_STATUS, .CNV_OVLD_COUNT] ++ unitRegs := by rcases hf with h | h <;> rw [h] <;> decide
    rw [run, outTail_rd mem (by rcases hf with h | h <;> rw [h] <;> decide)
      (fun e => by rcases hf with h | h <;> rw [h] at e <;> exact absurd e (by decide))]
    exact (assertEnds_within ..).rd _ _ (by rcases hf with h | h <;> rw [h] <;> decide +kernel)
  have kept : Keeps x t := by
    rw [run]
    refine Keeps.within (Keeps.within (Keeps.on (syncUnitWin_keeps (.refl x) d u) _ fun _ h => wake_keeps h ..)
      ((outBlanks_within ..).mono (by decide +kernel))) ((cmpEdge_unit ..).mono (by decide +kernel))
  obtain ⟨episode, sticky, bit, count, event⟩ := ovldTrip_shows rsound (lo := lo) ((before _ (by decide) (by decide)).trans clear)
  have xsound : x.Sound := (ovldTrip_keeps (.refl r) d c lo).sound rsound
  rw [before F.CNV_OVLD_COUNT.COUNT (by decide) (by decide)] at count
  rw [before F.CNV_CTRL.OVLD_EVT_EN (by decide) (by decide)] at event
  exact ⟨(after _ (.inl rfl)).trans episode, (after _ (.inl rfl)).trans sticky, (after _ (.inl (pairBit_reg lo))).trans bit,
    fun room => (after _ (.inr rfl)).trans (count room), fun enabled => kept.pends xsound _ _ (event enabled)⟩

end State

theorem overloadTrip_completes {d c lo : Nat} {at_ : Instant} {v : Int} {s : State} (hs : s.Sound) (hc : c < 2) (hlo : lo < 2) :
    let u := 2 + 2 * c + lo
    s.rd I.cmpPower [d, u] ≠ 0 → s.rd I.cmpStart [d, u] = 0 → s.rd F.CMP_STATUS.SETTLING [d, u] = 0 → s.rd F.CMP_STATUS.BLANKING [d, u] = 0 →
    s.rd F.CMP_STATUS.UNRESOLVED [d, u] = 0 → s.rd I.cmpIn [d, u] = lo → s.rd F.CMP_CTRL.POL [d, u] = lo →
    s.rd F.CMP_STATUS.ASSERTED [d, u] = 0 → s.rd F.CNV_STATUS.OVLD_EPISODE [d, c] = 0 →
    (if lo = 0 then 500 * (2 * s.cmpThresh d u + s.rd F.CMP_THRESH.HYST [d, u]) ≤ 2 * v
      else 2 * v < 500 * (2 * s.cmpThresh d u - s.rd F.CMP_THRESH.HYST [d, u])) →
    CompletesAtEnd (.overloadTrip d c lo (at_, v)) s fun t => t.rd F.CNV_STATUS.OVLD_EPISODE [d, c] = 1 ∧ t.rd F.CNV_STATUS.OVLD_STICKY [d, c] = 1 ∧
      t.rd (if lo = 0 then F.CNV_STATUS.OVLD_HI else F.CNV_STATUS.OVLD_LO) [d, c] = 1 ∧
      (s.rd F.CNV_OVLD_COUNT.COUNT [d, c] + 1 < 2 ^ 32 → t.rd F.CNV_OVLD_COUNT.COUNT [d, c] = s.rd F.CNV_OVLD_COUNT.COUNT [d, c] + 1) ∧
      (s.rd F.CNV_CTRL.OVLD_EVT_EN [d, c] ≠ 0 → t.pends d (40 + c) = true) := by
  intro u powered runs settled open_ resolved input pol was clear beyond
  have level : s.cmpLevel d u v = b2n (lo == 0) := by
    have scale : State.cmpScale u = (0, 500) := by rw [State.cmpScale, if_neg (by omega), if_pos (by omega)]
    have hyst : (0 : Int) ≤ s.rd F.CMP_THRESH.HYST [d, u] := Int.natCast_nonneg _
    by_cases first : lo = 0
    · have high : s.reachesU d u v := by rw [State.reachesU, scale]; rw [if_pos first] at beyond; simp only; omega
      rw [State.cmpLevel_outside (.inl high), decide_eq_true high, first]
      rfl
    · rw [if_neg first] at beyond
      have low : s.belowD d u v := by rw [State.belowD, scale]; simp only; omega
      have high : ¬s.reachesU d u v := by rw [State.reachesU, scale]; simp only; omega
      rw [State.cmpLevel_outside (.inr low), decide_eq_false high, beq_eq_false_iff_ne.mpr first]
  have moves : s.rd I.cmpIn [d, u] = 1 - b2n (lo == 0) := by
    rw [input]
    have : lo = 0 ∨ lo = 1 := by omega
    rcases this with h | h <;> rw [h] <;> rfl
  obtain ⟨dt, follows⟩ := State.cmpSees_follows (at_ := at_) powered level runs moves settled open_ resolved
  refine completesAtEnd_of_atEnd rfl ?_
  let a : State := s.wrBool I.cmpIn [d, u] (lo == 0)
  have noted : ∀ {f : Fld} {ix : List Nat}, f.reg ≠ .i_cmpIn → a.rd f ix = s.rd f ix := fun hf => State.noted_rd hf ..
  have asound : a.Sound := hs.wr
  have asserts : (a.wrBool F.CMP_STATUS.OUT [d, u] (lo == 0)).cmpAsserts d u = true := by
    have out : (a.wrBool F.CMP_STATUS.OUT [d, u] (lo == 0)).rd F.CMP_STATUS.OUT [d, u] = b2n (lo == 0) :=
      (State.rd_wr_self asound.regs ..).trans (trunc_one_b2n _)
    have control : (a.wrBool F.CMP_STATUS.OUT [d, u] (lo == 0)).rd F.CMP_CTRL.POL [d, u] = lo :=
      (State.rd_wr_of_reg (by decide) ..).trans ((noted (by decide)).trans pol)
    have known : (a.wrBool F.CMP_STATUS.OUT [d, u] (lo == 0)).rd F.CMP_STATUS.UNRESOLVED [d, u] = 0 :=
      (State.rd_wr_of_lo (by decide) ..).trans ((noted (by decide)).trans resolved)
    have side : lo = 0 ∨ lo = 1 := by omega
    rw [State.cmpAsserts, State.isSet, known, out, control]
    rcases side with h | h <;> rw [h] <;> rfl
  have shown := State.cmpOut_trips asound hc hlo rfl dt (lo == 0) false asserts ((noted (by decide)).trans was) ((noted (by decide)).trans clear)
  rw [State.on_of_true (by simp [hc, hlo])]
  show _ ∧ _
  rw [show s.cmpSees d (2 + 2 * c + lo) (at_, v).1 (at_, v).2 = a.cmpOut d u dt (lo == 0) false from follows]
  simp only [noted (f := F.CNV_OVLD_COUNT.COUNT) (by decide), noted (f := F.CNV_CTRL.OVLD_EVT_EN) (by decide)] at shown
  exact shown

theorem overloadEpisodeEnd_completes {d c : Nat} {s : State} (hs : s.Sound) (episode : s.rd F.CNV_STATUS.OVLD_EPISODE [d, c] = 1)
    (upper : s.rd F.CNV_STATUS.OVLD_HI [d, c] = 0) (lower : s.rd F.CNV_STATUS.OVLD_LO [d, c] = 0) :
    (s.elapsed (s.rd I.ovldClear [d, c]) 64 = true → Completes (.overloadEpisodeEnd d c) s fun t =>
      t.rd F.CNV_STATUS.OVLD_EPISODE [d, c] = 0 ∧ (s.rd F.CNV_CTRL.OVLD_EVT_EN [d, c] ≠ 0 → t.pends d (40 + c) = true)) ∧
    (s.elapsed (s.rd I.ovldClear [d, c]) 64 = false → Completes (.overloadEpisodeEnd d c) s fun t => t = s) := by
  have ends : s.ovldOver d c = s.elapsed (s.rd I.ovldClear [d, c]) 64 := by simp [State.ovldOver, State.isSet, episode, upper, lower]
  refine ⟨fun elapsed => completes_of_eq rfl (State.on_of_true (ends.trans elapsed) ..) ?_,
    fun waits => completes_of_eq rfl (State.on_of_false (ends.trans waits) ..) rfl⟩
  let a : State := s.wr F.CNV_STATUS.OVLD_EPISODE [d, c] 0
  let e : State := a.closeSpan .overload d c (s.blkOf d)
  have closed : Within (Foot.of [] [.spans]) a e := State.closeSpan_within (by decide +kernel) (.refl _ a) ..
  have zero : e.rd F.CNV_STATUS.OVLD_EPISODE [d, c] = 0 := (closed.rd_of (by decide) _).trans (State.rd_wr_self hs.regs ..)
  have esound : e.Sound := closed.sound hs.wr
  have run : s.ovldEnd d c = e.on (s.isSet F.CNV_CTRL.OVLD_EVT_EN [d, c]) fun x => x.raise d (40 + c)
      (x.ovldSeen d c + 2 ^ 8 + 2 ^ 16 * min 65535 ((s.now - s.rd I.ovldStart [d, c]) / 160000)) := rfl
  rw [run]
  refine ⟨?_, fun enabled => ?_⟩
  · cases s.isSet F.CNV_CTRL.OVLD_EVT_EN [d, c]
    · exact zero
    · exact (State.raise_rd (by decide) ..).trans zero
  · rw [State.on_of_true (show s.isSet F.CNV_CTRL.OVLD_EVT_EN [d, c] = true from bne_iff_ne.mpr enabled)]
    exact State.raise_pends esound ..

-- Inputs of a comparator (R289, R290, R298) -------------------------------------------------------------------------------------------

/-- A value that a unit watches acts as its core cycle ends. -/
theorem comparator_sees {d u : Nat} {at_ : Instant} {v : Int} {s : State} {P : State → Prop} (hu : u < 12) (h : P (s.cmpSees d u at_ v)) :
    CompletesAtEnd (.comparatorTransition d u at_ v) s P :=
  completesAtEnd_of_atEnd rfl (by rw [State.on_of_true (decide_eq_true hu)]; exact h)

theorem comparatorTransition_completes {d u : Nat} {at_ : Instant} {v : Int} {s : State} (hs : s.Sound) (hu : u < 12)
    (powered : s.rd I.cmpPower [d, u] ≠ 0) :
    let step := (State.cmpScale u).2
    let x := 2 * (v - (State.cmpScale u).1)
    let high := (2 * s.cmpThresh d u + s.rd F.CMP_THRESH.HYST [d, u]) * step ≤ x
    let low := x < (2 * s.cmpThresh d u - s.rd F.CMP_THRESH.HYST [d, u]) * step
    let level := if high then 1 else 0
    (¬high → ¬low → CompletesAtEnd (.comparatorTransition d u at_ v) s fun t => t.rd I.cmpStart [d, u] = 0 ∧
      t.rd F.CMP_STATUS.OUT [d, u] = s.rd F.CMP_STATUS.OUT [d, u] ∧
      t.rd F.CMP_STATUS.UNRESOLVED [d, u] = s.rd F.CMP_STATUS.UNRESOLVED [d, u]) ∧
    (high ∨ low → s.rd I.cmpStart [d, u] ≠ 0 → CompletesAtEnd (.comparatorTransition d u at_ v) s fun t => t.rd I.cmpStart [d, u] = 0 ∧
      t.rd F.CMP_STATUS.OUT [d, u] = level ∧ t.rd F.CMP_STATUS.UNRESOLVED [d, u] = 0) ∧
    (high ∨ low → s.rd I.cmpStart [d, u] = 0 → s.rd I.cmpIn [d, u] = 1 - level →
      (s.rd F.CMP_STATUS.SETTLING [d, u] ≠ 0 ∨ s.rd F.CMP_STATUS.BLANKING [d, u] ≠ 0 → s.rd F.CMP_BLANK_COUNT.COUNT [d, u] + 1 < 2 ^ 32 →
        CompletesAtEnd (.comparatorTransition d u at_ v) s fun t =>
          t.rd F.CMP_BLANK_COUNT.COUNT [d, u] = s.rd F.CMP_BLANK_COUNT.COUNT [d, u] + 1 ∧ t.rd I.cmpIn [d, u] = level ∧
          t.rd F.CMP_STATUS.OUT [d, u] = s.rd F.CMP_STATUS.OUT [d, u]) ∧
      (s.rd F.CMP_STATUS.SETTLING [d, u] = 0 → s.rd F.CMP_STATUS.BLANKING [d, u] = 0 →
        (s.rd F.CMP_STATUS.UNRESOLVED [d, u] = 0 → CompletesAtEnd (.comparatorTransition d u at_ v) s fun t =>
          t.rd F.CMP_STATUS.OUT [d, u] = level ∧ t.rd I.cmpIn [d, u] = level) ∧
        (s.rd F.CMP_STATUS.UNRESOLVED [d, u] ≠ 0 → high → CompletesAtEnd (.comparatorTransition d u at_ v) s fun t =>
          t.rd F.CMP_STATUS.OUT [d, u] = 1 ∧ t.rd F.CMP_STATUS.UNRESOLVED [d, u] = 0 ∧ t.pends d 186 = true))) := by
  intro step x high low level
  have bit : level = b2n (decide (s.reachesU d u v)) := by
    show (if s.reachesU d u v then 1 else 0) = b2n (decide (s.reachesU d u v))
    by_cases h : s.reachesU d u v <;> simp [h]
  refine ⟨fun notHigh notLow => ?between, fun outside starts => ?starts, fun outside runs moves => ⟨fun held room => ?held, fun settled open_ =>
    ⟨fun resolved => ?follows, fun unresolved isHigh => ?resolves⟩⟩⟩
  case between =>
    obtain ⟨started, fields⟩ := State.cmpSees_between hs (at_ := at_) powered (State.cmpLevel_between notHigh notLow)
    exact comparator_sees hu ⟨started, fields _ rfl, fields _ rfl⟩
  case starts =>
    rw [bit]
    exact comparator_sees hu (State.cmpSees_starts hs powered (State.cmpLevel_outside outside) starts)
  case held =>
    rw [bit] at moves ⊢
    exact comparator_sees hu (State.cmpSees_held hs powered (State.cmpLevel_outside outside) runs moves held room)
  case follows =>
    rw [bit] at moves ⊢
    obtain ⟨dt, run⟩ := State.cmpSees_follows (at_ := at_) powered (State.cmpLevel_outside outside) runs moves settled open_ resolved
    refine comparator_sees hu ?_
    obtain ⟨out, rest, -⟩ := State.cmpOut_shows (s := s.wrBool I.cmpIn [d, u] (decide (s.reachesU d u v))) hs.wr d u dt
      (decide (s.reachesU d u v)) false
    rw [run]
    exact ⟨out, (rest I.cmpIn (by decide) _).trans ((State.rd_wr_self hs.regs ..).trans (trunc_one_b2n _))⟩
  case resolves =>
    have one : level = 1 := if_pos isHigh
    rw [one] at moves
    have run := State.cmpSees_resolves (at_ := at_) powered ((State.cmpLevel_outside outside).trans (bit.symm.trans one)) runs moves settled open_ unresolved
    obtain ⟨-, out, resolved, pends, -⟩ := State.cmpResolve_shows (s := s.wrBool I.cmpIn [d, u] true) hs.wr d u false
    refine comparator_sees hu ?_
    rw [run]
    exact ⟨out, resolved, pends⟩

-- Blanking timers (R297) ----------------------------------------------------------------------------------------------------------------

namespace State

/-- A unit that uses a timer, powered and with a window of some length. -/
def timerOpens (s : State) (d k u : Nat) : Bool :=
  s.isSet I.cmpPower [d, u] && s.rd F.CMP_CTRL.BLANK_SRC [d, u] == 2 + k && s.isSet F.CMP_BLANK.LEN [d, u]

/-- The window of a unit opens at a tick of its timer. -/
def windowOpens (d k t : Nat) (s : State) (u : Nat) : State :=
  s.on (s.timerOpens d k u) fun s =>
    (s.wr F.CMP_STATUS.BLANKING [d, u] 1).wr I.cmpBlankDt [d, u] (dtAdd t (1024 * s.rd F.CMP_BLANK.LEN [d, u]))

/-- Windows that open leave what tells which unit uses the timer. -/
theorem windowOpens_within (d k t : Nat) (s : State) (u : Nat) : Within (Foot.of [.CMP_STATUS, .i_cmpBlankDt] []) s (windowOpens d k t s u) :=
  (Within.refl _ s).on fun _ hu => (hu.wr _ _ _ (by decide +kernel)).wr _ _ _ (by decide +kernel)

/-- A unit that uses the timer shows its window. -/
theorem windowOpens_shows {s : State} (hs : s.Sound) {d k t u : Nat} (uses : s.timerOpens d k u = true) :
    (windowOpens d k t s u).rd F.CMP_STATUS.BLANKING [d, u] = 1 ∧
      (windowOpens d k t s u).rd I.cmpBlankDt [d, u] = (t + 1024 * s.rd F.CMP_BLANK.LEN [d, u]) % 2 ^ 64 := by
  rw [windowOpens, on_of_true uses]
  exact ⟨(rd_wr_of_reg (by decide) ..).trans (rd_wr_self hs.regs ..), rd_wr_self_of_lt (Sound.wr hs) _ _ (Nat.mod_lt _ (by decide))⟩

/-- The window of another unit stays. -/
theorem windowOpens_other {s : State} {d u x : Nat} (ne : u ≠ x) (k t : Nat) (f : Fld) : (windowOpens d k t s x).rd f [d, u] = s.rd f [d, u] := by
  have ix : [d, u] ≠ [d, x] := by simpa using ne
  unfold windowOpens
  cases s.timerOpens d k x
  · rfl
  · exact (rd_wr_of_ix ix ..).trans (rd_wr_of_ix ix ..)

end State

theorem blankTimerPulse_completes {d k t₀ : Nat} {s : State} (hs : s.Sound) (period : s.rd F.CMP_BLANK_TMR.PERIOD [d, k] ≠ 0)
    (due : s.dueOn d t₀ = true)
    (phase : (t₀ + 2 ^ 64 - 1024 * s.rd F.CMP_BLANK_TMR.OFFSET [d, k]) % 2 ^ 64 % (1024 * s.rd F.CMP_BLANK_TMR.PERIOD [d, k]) = 0) :
    Completes (.blankTimerPulse d k t₀) s fun t => ∀ u < 12, s.rd I.cmpPower [d, u] ≠ 0 → s.rd F.CMP_CTRL.BLANK_SRC [d, u] = 2 + k →
      s.rd F.CMP_BLANK.LEN [d, u] ≠ 0 → t.rd F.CMP_STATUS.BLANKING [d, u] = 1 ∧
        t.rd I.cmpBlankDt [d, u] = (t₀ + 1024 * s.rd F.CMP_BLANK.LEN [d, u]) % 2 ^ 64 := by
  have run : s.blankPulse d k t₀ = s.each (List.range 12) (State.windowOpens d k t₀) := by
    refine if_neg ?_
    rintro (none | early | off)
    · exact period (by omega)
    · simp [due] at early
    · exact off phase
  refine completes_of_eq rfl run fun u hu powered src len => ?_
  let same (v : State) : Prop := v.Sound ∧ Within (Foot.of [.CMP_STATUS, .i_cmpBlankDt] []) s v
  have uses : ∀ v, same v → v.timerOpens d k u = true := fun v ⟨_, w⟩ => by
    simp only [State.timerOpens, State.isSet, w.rd_of (f := I.cmpPower) (by decide), w.rd_of (f := F.CMP_CTRL.BLANK_SRC) (by decide),
      w.rd_of (f := F.CMP_BLANK.LEN) (by decide), src]
    simp [powered, len]
  refine State.each_of_mem (Q := same) (P := fun v => v.rd F.CMP_STATUS.BLANKING [d, u] = 1 ∧
    v.rd I.cmpBlankDt [d, u] = (t₀ + 1024 * s.rd F.CMP_BLANK.LEN [d, u]) % 2 ^ 64) (List.mem_range.mpr hu) ?opens ?stays ?keeps ⟨hs, .refl _ s⟩
  case opens =>
    intro v hv
    have shown := State.windowOpens_shows (t := t₀) hv.1 (uses v hv)
    rwa [hv.2.rd_of (f := F.CMP_BLANK.LEN) (by decide)] at shown
  case stays =>
    intro v y hv shown
    by_cases own : u = y
    · subst own
      have again := State.windowOpens_shows (t := t₀) hv.1 (uses v hv)
      rwa [hv.2.rd_of (f := F.CMP_BLANK.LEN) (by decide)] at again
    · rwa [State.windowOpens_other own, State.windowOpens_other own]
  case keeps =>
    intro v y ⟨sound, w⟩
    exact ⟨(State.windowOpens_within ..).sound sound, w.trans (State.windowOpens_within ..)⟩

-- A spare in shadow (R300) --------------------------------------------------------------------------------------------------------------

theorem cmpSpareSwap_completes {d u : Nat} {agrees : Bool} {s : State} (hs : s.Sound) (hu : u < 12) (shadow : s.rd F.CMP_SPARE_MAP.S0_STATE [d] = 1)
    (unit : s.rd F.CMP_SPARE_MAP.S0_UNIT [d] = u) : Completes (.cmpSpareSwap d u agrees) s fun t =>
      t.rd F.CMP_SPARE_MAP.S0_STATE [d] = (if agrees then 2 else 3) ∧ t.rd F.CMP_SPARE_MAP.S0_UNIT [d] = u := by
  have found : s.cmpShadow d u = some 0 := by
    have first : (s.cmpSpareState d 0 == 1 && s.cmpSpareUnit d 0 == u) = true := by
      rw [State.cmpSpareState, State.cmpSpareUnit, if_pos rfl, if_pos rfl, shadow, unit]
      simp
    simp only [State.cmpShadow, List.find?_cons, first]
  let set (st : Nat) : State := (s.wr F.CMP_SPARE_MAP.S0_STATE [d] st).wr F.CMP_SPARE_MAP.S0_UNIT [d] u
  have shown : ∀ st < 4, (set st).rd F.CMP_SPARE_MAP.S0_STATE [d] = st ∧ (set st).rd F.CMP_SPARE_MAP.S0_UNIT [d] = u := fun st hst =>
    ⟨(State.rd_wr_of_lo (by decide) ..).trans (State.rd_wr_self_of_lt hs _ _ hst),
      State.rd_wr_self_of_lt hs.wr _ _ (show u < 2 ^ 4 by omega)⟩
  have run : s.cmpSwapDone d u agrees = if agrees then (set 2).rtReplaced d 4 (unitCode 4 d 0 0 12)
      else ((set 3).cmpStart d u).rtFails d 4 (unitCode 4 d 0 0 12) := by
    rw [State.cmpSwapDone, found]
    rfl
  refine completes_of_eq rfl run ?_
  cases agrees
  · have rest : Within (Foot.without [.CMP_SPARE_MAP] []) (set 3) (((set 3).cmpStart d u).rtFails d 4 (unitCode 4 d 0 0 12)) :=
      State.rtFails_within (by decide +kernel) (State.cmpStart_within (by decide +kernel) (.refl _ _) ..) ..
    obtain ⟨st, un⟩ := shown 3 (by decide)
    exact ⟨(rest.rd _ _ (by decide +kernel)).trans st, (rest.rd _ _ (by decide +kernel)).trans un⟩
  · have rest : Within (Foot.without [.CMP_SPARE_MAP] []) (set 2) ((set 2).rtReplaced d 4 (unitCode 4 d 0 0 12)) :=
      State.rtReplaced_within (by decide +kernel) (.refl _ _) ..
    obtain ⟨st, un⟩ := shown 2 (by decide)
    exact ⟨(rest.rd _ _ (by decide +kernel)).trans st, (rest.rd _ _ (by decide +kernel)).trans un⟩

end Sys2Proof.Machine
end

section
/-!
PROOFS. The registers of a comparator (R301), and the statement of the converter's analogue side put together.
-/

namespace Sys2Proof.Machine

-- One proof at a time: proofs elaborated side by side ask for more memory than a compile of the whole text may take.
set_option Elab.async false

namespace State

-- CMP_CTRL (R301): the steps of a write -------------------------------------------------------------------------------------------

/-- A rejected write of the lower unit of a pair: VIGIL_MODE and WAKE_EN follow the upper unit. -/
def ctrlBadVigil (u v : Nat) : Bool := cmpLead u != u && slice v 3 2 != 0

def ctrlBadWake (u v : Nat) : Bool := cmpLead u != u && bitAt v 7

/-- The comparators of the overload pairs are never disabled. -/
def ctrlBadEnable (u v : Nat) : Bool := 2 ≤ u && u ≤ 5 && !bitAt v 0

/-- A field of the write is not accepted. -/
def ctrlBad (s : State) (d u v : Nat) : Bool :=
  s.cmpSelRejected d u (slice v 10 4) || ctrlBadVigil u v || ctrlBadWake u v || ctrlBadEnable u v

/-- The rejection is shown, and the plain fields are written. -/
def ctrlFields (d u v : Nat) (s : State) : State :=
  let s := s.on (s.ctrlBad d u v) fun s => s.cmpReject d u
  let s := s.on (!ctrlBadVigil u v) fun s => s.wr F.CMP_CTRL.VIGIL_MODE [d, u] (slice v 3 2)
  let s := s.on (!ctrlBadWake u v) fun s => s.wr F.CMP_CTRL.WAKE_EN [d, u] (slice v 7 1)
  (s.wr F.CMP_CTRL.EVT_EN [d, u] (slice v 6 1)).wr F.CMP_CTRL.BLANK_SRC [d, u] (slice v 8 2)

/-- MODE is written, and a unit that runs takes a new mode. -/
def ctrlMode (d u v : Nat) (s : State) : State :=
  let a := s.wr F.CMP_CTRL.MODE [d, u] (slice v 1 2)
  a.on (slice v 1 2 != s.rd F.CMP_CTRL.MODE [d, u] && a.isSet I.cmpPower [d, u] && a.mode != .vigil) fun s =>
    if s.isSet F.CMP_STATUS.DERATED [d, u] && slice v 1 2 < s.rd F.CMP_STATUS.MODE_ACT [d, u] then s
    else (s.wr F.CMP_STATUS.DERATED [d, u] 0).cmpMode d u (slice v 1 2) false

/-- EN changes where it may: the unit starts, or is powered down. -/
def ctrlEnable (d u v : Nat) (s : State) : State :=
  s.on (!ctrlBadEnable u v && bitAt v 0 != s.isSet F.CMP_CTRL.EN [d, u]) fun s =>
    let s := s.wrBool F.CMP_CTRL.EN [d, u] (bitAt v 0)
    if bitAt v 0 then s.on (s.mode != .hold && s.mode != .vigil) fun s => s.cmpStart d u else s.cmpPowerOff d u

/-- SEL changes where it may: both units of the window start anew. -/
def ctrlSelect (d u v : Nat) (bad : Bool) (s : State) : State :=
  s.on (!bad && slice v 10 4 != s.rd F.CMP_CTRL.SEL [d, u]) fun s =>
    (s.wr F.CMP_CTRL.SEL [d, u] (slice v 10 4)).each [u, u + 1] fun s x => s.on (s.isSet I.cmpPower [d, x]) fun s => s.cmpStart d x

theorem writeCmpCtrl_eq (d u v : Nat) (s : State) : (writeCmpCtrl d u v s).1 =
    ctrlSelect d u v (s.cmpSelRejected d u (slice v 10 4)) (ctrlEnable d u v (ctrlMode d u v (ctrlFields d u v s))) := rfl

-- What each step shows

theorem ctrlFields_shows {s : State} (hs : s.Sound) (d u v : Nat) :
    let t := ctrlFields d u v s
    t.Sound ∧ t.rd F.CMP_CTRL.EVT_EN [d, u] = v / 64 % 2 ∧ t.rd F.CMP_CTRL.BLANK_SRC [d, u] = v / 256 % 4 ∧
      t.rd F.CMP_CTRL.POL [d, u] = s.rd F.CMP_CTRL.POL [d, u] ∧ t.rd F.CMP_CTRL.EN [d, u] = s.rd F.CMP_CTRL.EN [d, u] ∧
      t.rd F.CMP_CTRL.SEL [d, u] = s.rd F.CMP_CTRL.SEL [d, u] ∧ (s.ctrlBad d u v = true → t.rd F.CMP_STATUS.CFG_REJECT [d, u] ≠ 0) := by
  intro t
  let a : State := s.on (s.ctrlBad d u v) fun s => s.cmpReject d u
  let b : State := a.on (!ctrlBadVigil u v) fun s => s.wr F.CMP_CTRL.VIGIL_MODE [d, u] (slice v 3 2)
  let e : State := b.on (!ctrlBadWake u v) fun s => s.wr F.CMP_CTRL.WAKE_EN [d, u] (slice v 7 1)
  have rejected : Within (Foot.without [.CMP_CTRL] []) s a := (Within.refl _ s).on fun _ hu => cmpReject_within (by decide +kernel) hu ..
  have written : Within (Foot.of [.CMP_CTRL] []) a t :=
    ((((Within.refl _ a).on fun _ hu => hu.wr _ _ _ (by decide +kernel)).on fun _ hu => hu.wr _ _ _ (by decide +kernel)).wr _ _ _
      (by decide +kernel)).wr _ _ _ (by decide +kernel)
  have plain : ∀ {f : Fld}, f.reg = .CMP_CTRL → f.lo ≠ F.CMP_CTRL.VIGIL_MODE.lo → f.lo ≠ F.CMP_CTRL.WAKE_EN.lo →
      e.rd f [d, u] = s.rd f [d, u] := fun {f} hr h1 h2 => by
    have third : e.rd f [d, u] = b.rd f [d, u] := by
      show (b.on _ _).rd f [d, u] = _
      cases !ctrlBadWake u v
      · rfl
      · exact rd_wr_of_lo h2 ..
    have second : b.rd f [d, u] = a.rd f [d, u] := by
      show (a.on _ _).rd f [d, u] = _
      cases !ctrlBadVigil u v
      · rfl
      · exact rd_wr_of_lo h1 ..
    exact third.trans (second.trans (rejected.rd _ _ (by rw [hr]; decide +kernel)))
  have kept : ∀ {f : Fld}, f.reg = .CMP_CTRL → f.lo ∉ [F.CMP_CTRL.VIGIL_MODE.lo, F.CMP_CTRL.WAKE_EN.lo, F.CMP_CTRL.EVT_EN.lo, F.CMP_CTRL.BLANK_SRC.lo] →
      t.rd f [d, u] = s.rd f [d, u] := fun hr hl => by
    simp only [List.mem_cons, List.not_mem_nil, or_false, not_or] at hl
    obtain ⟨h1, h2, h3, h4⟩ := hl
    exact (rd_wr_of_lo h4 ..).trans ((rd_wr_of_lo h3 ..).trans (plain hr h1 h2))
  have esound : e.Sound := by
    have toE : Within (Foot.of [.CMP_CTRL] []) a e :=
      ((Within.refl _ a).on fun _ hu => hu.wr _ _ _ (by decide +kernel)).on fun _ hu => hu.wr _ _ _ (by decide +kernel)
    exact toE.sound (rejected.sound hs)
  refine ⟨esound.wr.wr, ?_, ?_, kept rfl (by decide), kept rfl (by decide), kept rfl (by decide), fun bad => ?_⟩
  · exact (rd_wr_of_lo (by decide) ..).trans (rd_wr_self_of_lt esound _ _ (Nat.mod_lt _ (by decide)))
  · exact rd_wr_self_of_lt esound.wr _ _ (Nat.mod_lt _ (by decide))
  · rw [written.rd_of (by decide)]
    show (s.on (s.ctrlBad d u v) _).rd _ _ ≠ 0
    rw [on_of_true bad, cmpReject, stick]
    split
    · next already => exact bne_iff_ne.mp already
    · rw [raise_rd (by decide), flag_rd, rd_wr_self hs.regs]
      decide

theorem ctrlMode_shows {s : State} (hs : s.Sound) (d u v : Nat) :
    let t := ctrlMode d u v s
    t.Sound ∧ t.rd F.CMP_CTRL.MODE [d, u] = v / 2 % 4 ∧ (∀ f : Fld, f.reg = .CMP_CTRL → f.lo ≠ F.CMP_CTRL.MODE.lo → t.rd f [d, u] = s.rd f [d, u]) ∧
      t.rd F.CMP_STATUS.CFG_REJECT [d, u] = s.rd F.CMP_STATUS.CFG_REJECT [d, u] := by
  intro t
  let a : State := s.wr F.CMP_CTRL.MODE [d, u] (slice v 1 2)
  have modes : Within (Foot.without [.CMP_CTRL] []) a t := (Within.refl _ a).on fun _ hu =>
    .ite hu (cmpMode_within (by decide +kernel) (hu.wr _ _ _ (by decide +kernel)) ..)
  refine ⟨modes.sound hs.wr, ?_, fun f hr hl => (modes.rd _ _ (by rw [hr]; decide +kernel)).trans (rd_wr_of_lo hl ..), ?_⟩
  · exact (modes.rd _ _ (by decide +kernel)).trans (rd_wr_self_of_lt hs _ _ (Nat.mod_lt _ (by decide)))
  · have moved : ∀ x : State, (x.cmpMode d u (slice v 1 2) false).rd F.CMP_STATUS.CFG_REJECT [d, u] = x.rd F.CMP_STATUS.CFG_REJECT [d, u] := fun x => by
      unfold cmpMode
      dsimp only
      split
      · rfl
      · let y : State := (x.wr F.CMP_STATUS.MODE_ACT [d, u] (slice v 1 2)).cmpSettle d u (x.rd F.CMP_STATUS.MODE_ACT [d, u]) (slice v 1 2)
        have settled : y.rd F.CMP_STATUS.CFG_REJECT [d, u] = x.rd F.CMP_STATUS.CFG_REJECT [d, u] :=
          (rd_wr_of_reg (by decide) ..).trans ((rd_wr_of_lo (by decide) ..).trans (rd_wr_of_lo (by decide) ..))
        refine Eq.trans (Within.rd (M := Foot.without [.CMP_STATUS] []) ?_ _ _ (by decide +kernel)) settled
        have raised := raise_within (M := Foot.without [.CMP_STATUS] []) (by decide +kernel) (.refl _ y)
        exact .ite (cmpSlow_within (by decide +kernel) (raised ..) ..) ((raised ..).on fun _ hu => cmpSlow_within (by decide +kernel) hu ..)
    have start : a.rd F.CMP_STATUS.CFG_REJECT [d, u] = s.rd F.CMP_STATUS.CFG_REJECT [d, u] := rd_wr_of_reg (by decide) ..
    show (a.on _ _).rd _ _ = _
    generalize (slice v 1 2 != s.rd F.CMP_CTRL.MODE [d, u] && a.isSet I.cmpPower [d, u] && a.mode != .vigil) = changes
    cases changes
    · exact start
    · rw [on_true]
      split
      · exact start
      · exact (moved _).trans ((rd_wr_of_lo (by decide) ..).trans start)

theorem ctrlEnable_shows {s : State} (hs : s.Sound) (d u v : Nat) :
    let t := ctrlEnable d u v s
    t.Sound ∧ (∀ f : Fld, f.reg = .CMP_CTRL → f.lo ≠ F.CMP_CTRL.EN.lo → t.rd f [d, u] = s.rd f [d, u]) ∧
      (ctrlBadEnable u v = true → t = s) ∧ (ctrlBadEnable u v = false → s.rd F.CMP_CTRL.EN [d, u] < 2 → t.rd F.CMP_CTRL.EN [d, u] = v % 2) := by
  intro t
  have bit : b2n (bitAt v 0) = v % 2 := by
    have : v % 2 = 0 ∨ v % 2 = 1 := by omega
    rcases this with h | h <;> simp [bitAt, h]
  let a : State := s.wrBool F.CMP_CTRL.EN [d, u] (bitAt v 0)
  have powers : Within (Foot.without [.CMP_CTRL] []) a
      (if bitAt v 0 then a.on (a.mode != .hold && a.mode != .vigil) fun s => s.cmpStart d u else a.cmpPowerOff d u) :=
    .ite ((Within.refl _ a).on fun _ hu => cmpStart_within (by decide +kernel) hu ..) (cmpPowerOff_within (by decide +kernel) (.refl _ a) ..)
  by_cases changes : (!ctrlBadEnable u v && bitAt v 0 != s.isSet F.CMP_CTRL.EN [d, u]) = true
  · have run : t = if bitAt v 0 then a.on (a.mode != .hold && a.mode != .vigil) fun s => s.cmpStart d u else a.cmpPowerOff d u := on_of_true changes ..
    rw [run]
    refine ⟨powers.sound hs.wr, fun f hr hl => (powers.rd _ _ (by rw [hr]; decide +kernel)).trans (rd_wr_of_lo hl ..), fun bad => ?_, fun _ _ => ?_⟩
    · simp [bad] at changes
    · exact (powers.rd _ _ (by decide +kernel)).trans ((rd_wr_self hs.regs ..).trans ((trunc_one_b2n _).trans bit))
  · have run : t = s := on_of_false (by simpa using changes) ..
    rw [run]
    refine ⟨hs, fun _ _ _ => rfl, fun _ => rfl, fun good small => ?_⟩
    have same : bitAt v 0 = s.isSet F.CMP_CTRL.EN [d, u] := by simpa [good] using changes
    rw [← b2n_isSet small, ← same, bit]

theorem ctrlSelect_shows (s : State) (d u v : Nat) (bad : Bool) :
    let t := ctrlSelect d u v bad s
    (∀ f : Fld, f.reg = .CMP_CTRL → f.lo ≠ F.CMP_CTRL.SEL.lo → t.rd f [d, u] = s.rd f [d, u]) ∧
      (slice v 10 4 = s.rd F.CMP_CTRL.SEL [d, u] ∨ bad = true → t = s) := by
  intro t
  refine ⟨fun f hr hl => ?_, fun same => on_of_false ?_ ..⟩
  · show (s.on _ _).rd _ _ = _
    generalize (!bad && slice v 10 4 != s.rd F.CMP_CTRL.SEL [d, u]) = changes
    cases changes
    · rfl
    · rw [on_true]
      have starts : Within (Foot.without [.CMP_CTRL] []) (s.wr F.CMP_CTRL.SEL [d, u] (slice v 10 4))
          ((s.wr F.CMP_CTRL.SEL [d, u] (slice v 10 4)).each [u, u + 1] fun s x => s.on (s.isSet I.cmpPower [d, x]) fun s => s.cmpStart d x) :=
        .each (.refl _ _) fun _ _ hu => hu.on fun _ hw => cmpStart_within (by decide +kernel) hw ..
      exact (starts.rd _ _ (by rw [hr]; decide +kernel)).trans (rd_wr_of_lo hl ..)
  · rcases same with h | h <;> simp [h]

end State

-- The writes (R301) ---------------------------------------------------------------------------------------------------------------------

theorem cmpCtrlWrite_completes {d u v : Nat} {s : State} (hs : s.Sound) (reach : s.hostReach d = true) :
    Completes (.cmpCtrlWrite d u 0 v) s fun t => t.rd F.CMP_CTRL.MODE [d, u] = v / 2 % 4 ∧ t.rd F.CMP_CTRL.EVT_EN [d, u] = v / 64 % 2 ∧
      t.rd F.CMP_CTRL.BLANK_SRC [d, u] = v / 256 % 4 ∧ t.rd F.CMP_CTRL.POL [d, u] = s.rd F.CMP_CTRL.POL [d, u] ∧
      (2 ≤ u → u ≤ 5 → v % 2 = 0 → t.rd F.CMP_CTRL.EN [d, u] = s.rd F.CMP_CTRL.EN [d, u] ∧ t.rd F.CMP_STATUS.CFG_REJECT [d, u] ≠ 0) ∧
      ((u < 2 ∨ 5 < u) → s.rd F.CMP_CTRL.EN [d, u] < 2 → t.rd F.CMP_CTRL.EN [d, u] = v % 2) := by
  obtain ⟨sound₁, event, source, pol₁, en₁, sel₁, reject₁⟩ := State.ctrlFields_shows hs d u v
  obtain ⟨sound₂, mode, keeps₂, reject₂⟩ := State.ctrlMode_shows sound₁ d u v
  obtain ⟨sound₃, keeps₃, refused, enabled⟩ := State.ctrlEnable_shows sound₂ d u v
  obtain ⟨keeps₄, same⟩ := State.ctrlSelect_shows (State.ctrlEnable d u v (State.ctrlMode d u v (State.ctrlFields d u v s))) d u v (s.cmpSelRejected d u (slice v 10 4))
  have plain : ∀ f : Fld, f.reg = .CMP_CTRL → f.lo ∉ [F.CMP_CTRL.MODE.lo, F.CMP_CTRL.EN.lo, F.CMP_CTRL.SEL.lo] →
      (State.writeCmpCtrl d u v s).1.rd f [d, u] = (State.ctrlFields d u v s).rd f [d, u] := fun f hr hl => by
    simp only [List.mem_cons, List.not_mem_nil, or_false, not_or] at hl
    obtain ⟨h1, h2, h3⟩ := hl
    rw [State.writeCmpCtrl_eq, keeps₄ f hr h3, keeps₃ f hr h2, keeps₂ f hr h1]
  refine completes_of_eq rfl (State.hostWrite_of_reach reach _) ⟨?mode, (plain _ rfl (by decide)).trans event, (plain _ rfl (by decide)).trans source,
    (plain _ rfl (by decide)).trans pol₁, fun low high off => ⟨?stays, ?reject⟩, fun other small => ?en⟩
  case mode =>
    show (State.writeCmpCtrl d u v s).1.rd F.CMP_CTRL.MODE [d, u] = _
    rw [State.writeCmpCtrl_eq, keeps₄ _ rfl (by decide), keeps₃ _ rfl (by decide), mode]
  case stays =>
    have bad : State.ctrlBadEnable u v = true := by simp [State.ctrlBadEnable, bitAt, low, high, off]
    show (State.writeCmpCtrl d u v s).1.rd F.CMP_CTRL.EN [d, u] = _
    rw [State.writeCmpCtrl_eq, keeps₄ _ rfl (by decide), refused bad, keeps₂ _ rfl (by decide), en₁]
  case reject =>
    have bad : State.ctrlBadEnable u v = true := by simp [State.ctrlBadEnable, bitAt, low, high, off]
    have selected : slice v 10 4 = s.rd F.CMP_CTRL.SEL [d, u] ∨ s.cmpSelRejected d u (slice v 10 4) = true := by
      rw [State.cmpSelRejected, if_neg (by omega), if_neg (by omega)]
      by_cases h : slice v 10 4 = s.rd F.CMP_CTRL.SEL [d, u] <;> simp [h]
    have still : (State.ctrlEnable d u v (State.ctrlMode d u v (State.ctrlFields d u v s))).rd F.CMP_CTRL.SEL [d, u] = s.rd F.CMP_CTRL.SEL [d, u] := by
      rw [keeps₃ _ rfl (by decide), keeps₂ _ rfl (by decide), sel₁]
    show (State.writeCmpCtrl d u v s).1.rd F.CMP_STATUS.CFG_REJECT [d, u] ≠ 0
    rw [State.writeCmpCtrl_eq, same (by rwa [still]), refused bad, reject₂]
    exact reject₁ (by simp [State.ctrlBad, bad])
  case en =>
    have good : State.ctrlBadEnable u v = false := by
      simp only [State.ctrlBadEnable, Bool.and_eq_false_iff, decide_eq_false_iff_not]
      omega
    show (State.writeCmpCtrl d u v s).1.rd F.CMP_CTRL.EN [d, u] = _
    rw [State.writeCmpCtrl_eq, keeps₄ _ rfl (by decide)]
    exact enabled good (by rwa [keeps₂ _ rfl (by decide), en₁])

theorem cmpThreshWrite_completes {d u v : Nat} {s : State} (hs : s.Sound) (reach : s.hostReach d = true) :
    Completes (.cmpCtrlWrite d u 1 v) s fun t => t.rd F.CMP_THRESH.THRESH [d, u] = v % 4096 ∧ t.rd F.CMP_THRESH.HYST [d, u] = v / 4096 % 64 ∧
      (s.rd I.cmpPower [d, u] ≠ 0 → t.rd F.CMP_STATUS.SETTLING [d, u] = 1) := by
  obtain ⟨-, thresh, hyst, settling, -⟩ := State.writeCmpThresh_shows hs d u v
  exact completes_of_eq rfl (State.hostWrite_of_reach reach _) ⟨thresh, hyst, settling⟩

theorem cmpBlankWrite_completes {d u v : Nat} {s : State} (hs : s.Sound) (reach : s.hostReach d = true) :
    Completes (.cmpCtrlWrite d u 2 v) s fun t => t.rd F.CMP_BLANK.LEN [d, u] = v % 2 ^ 16 := by
  refine completes_of_eq rfl (State.hostWrite_of_reach reach _) ?_
  let a : State := s.wr F.CMP_BLANK.LEN [d, u] (slice v 0 16)
  have ends : Within (Foot.of [.i_cmpBlankDt] []) a (State.writeCmpBlank d u v s).1 := (Within.refl _ a).on fun _ hu => hu.wr _ _ _ (by decide +kernel)
  refine (ends.rd_of (by decide) _).trans ((State.rd_wr_self hs.regs ..).trans ?_)
  simp [slice, trunc]

/-- Settles O16: a write of ATTEN, an input of a comparator, the end of a settling or a window, a pulse of a timer and a write of a
comparator's registers each act as their operation says; the parts they do not name stay by what the operations can change. -/
theorem attenuatorOverloadComparators : Obligations.AttenuatorOverloadComparators := by
  unfold Obligations.AttenuatorOverloadComparators
  refine ⟨fun d c v s hs reach => attenWrite_completes hs reach, fun d c s hs settling => attenSettled_completes hs settling,
    fun d c lo at_ v s hs hc hlo => overloadTrip_completes hs hc hlo,
    fun d c s hs episode upper lower => overloadEpisodeEnd_completes hs episode upper lower,
    fun d u at_ v s hs hu powered => comparatorTransition_completes hs hu powered, fun d u s hs _ => ⟨fun settling due => ?settled, fun blanking due => ?closed⟩,
    fun d k t₀ s hs period due phase => blankTimerPulse_completes hs period due phase,
    fun d u v s hs reach _ => ⟨cmpCtrlWrite_completes hs reach, cmpThreshWrite_completes hs reach, cmpBlankWrite_completes hs reach⟩,
    fun d u agrees s hs hu shadow unit => cmpSpareSwap_completes hs hu shadow unit⟩
  case settled => exact completes_of_eq rfl rfl (State.cmpSettled_shows hs settling due)
  case closed => exact completes_of_eq rfl rfl (State.blankClose_shows hs blanking due)

end Sys2Proof.Machine
end

section
/-!
PROOFS. The state of a time-interval unit (R273 to R286): what an update of a unit, the registers that show it, and a result change.
-/

namespace Sys2Proof.Machine

-- One proof at a time: proofs elaborated side by side ask for more memory than a compile of the whole text may take.
set_option Elab.async false

/-- A list written to successive indices of a field, from an index on. -/
theorem each_zipIdx_wr (f : Fld) (g : Nat → List Nat) (inj : ∀ x y, g x = g y → x = y) (l : List Nat) (n : Nat) {s : State} (hs : s.Sound) :
    let t := s.each (l.zipIdx n) fun s x => s.wr f (g x.2) x.1
    (∀ (k : Nat) (h : k < l.length), t.rd f (g (n + k)) = trunc f.width l[k]) ∧ ∀ m < n, t.rd f (g m) = s.rd f (g m) := by
  induction l generalizing n s with
  | nil => exact ⟨fun k h => absurd h (Nat.not_lt_zero k), fun _ _ => rfl⟩
  | cons x l ih =>
    obtain ⟨shown, others⟩ := ih (n + 1) (s := s.wr f (g n) x) hs.wr
    refine ⟨fun k h => ?_, fun m hm => (others m (Nat.lt_succ_of_lt hm)).trans (State.rd_wr_of_ix (fun e => Nat.ne_of_lt hm (inj _ _ e)) ..)⟩
    cases k with
    | zero => exact (others n (Nat.lt_succ_self n)).trans (State.rd_wr_self hs.regs ..)
    | succ k =>
      have next := shown k (Nat.lt_of_succ_lt_succ h)
      rwa [Nat.add_right_comm] at next

namespace State

-- A unit replaced -------------------------------------------------------------------------------------------------------------------

theorem timOf_congr {s t : State} (h : t.tims = s.tims) (d u : Nat) : t.timOf d u = s.timOf d u := congrArg (·.getD (8 * d + u) Tim.idle) h

/-- The unit replaced is the one that reads. -/
theorem timOf_setTim {s : State} (hs : s.Sound) {d u : Nat} (hd : d < 2) (hu : u < 8) (z : Tim) : (s.setTim d u z).timOf d u = z := by
  have place : 8 * d + u < (s.tims.set (8 * d + u) z).length := by
    rw [List.length_set, hs.tims]
    omega
  rw [timOf, setTim, List.getD_eq_getElem _ _ place, List.getElem_set_self]

theorem setTim_sound {s : State} (hs : s.Sound) (d u : Nat) (z : Tim) : (s.setTim d u z).Sound :=
  (setTim_within (M := 2 ^ 700 - 1) (by decide +kernel) (.refl _ s) d u z).sound hs

@[simp] theorem setTim_rd (s : State) (d u : Nat) (z : Tim) (f : Fld) (ix : List Nat) : (s.setTim d u z).rd f ix = s.rd f ix := rfl

@[simp] theorem setTim_isSet (s : State) (d u : Nat) (z : Tim) (f : Fld) (ix : List Nat) : (s.setTim d u z).isSet f ix = s.isSet f ix := rfl

-- The registers that show a unit ------------------------------------------------------------------------------------------------------

theorem syncTim_only (s : State) (d u : Nat) : Within (Foot.of [.TIM_RES, .TIM_STATUS] []) s (s.syncTim d u) :=
  syncTim_within (by decide +kernel) (.refl _ s) d u

theorem syncTim_sound {s : State} (hs : s.Sound) (d u : Nat) : (s.syncTim d u).Sound := (s.syncTim_only d u).sound hs

@[simp] theorem syncTim_timHeld (s : State) (d u : Nat) : (s.syncTim d u).timHeld = s.timHeld := (s.syncTim_only d u).parts .timHeld (by decide +kernel)

@[simp] theorem syncTim_timOf (s : State) (d u e v : Nat) : (s.syncTim d u).timOf e v = s.timOf e v :=
  timOf_congr ((s.syncTim_only d u).parts .tims (by decide +kernel)) e v

theorem syncTim_rd {f : Fld} (hf : f.reg ∉ [Reg.TIM_RES, .TIM_STATUS]) (s : State) (d u : Nat) (ix : List Nat) :
    (s.syncTim d u).rd f ix = s.rd f ix := (s.syncTim_only d u).rd_of hf ix

/-- The eight words of the result at the head of a FIFO; an empty FIFO shows zeros (R286). -/
def headWords (l : List TimResult) : List Nat := (l.head?.map TimResult.words).getD (List.replicate 8 0)

theorem headWords_length (l : List TimResult) : (headWords l).length = 8 := by cases l <;> rfl

/-- The words of the head are written. -/
def wordsShown (s : State) (d u : Nat) : State :=
  s.each (headWords (s.timOf d u).fifo).zipIdx fun s w => s.wr F.TIM_RES.WORD [d, u, w.2] w.1

/-- A unit has a measurement open (R284). -/
def timOpen (s : State) (d u : Nat) : Bool :=
  (s.timOf d u).opened.isSome || ((s.timOf d u).firstEdge.isSome && s.rd F.TIM_CTRL.MODE [d, u] != 3)

theorem wordsShown_only (s : State) (d u : Nat) : Within (Foot.of [.TIM_RES] []) s (s.wordsShown d u) :=
  (Within.refl _ s).each fun _ _ hu => hu.wr _ _ _ (by decide +kernel)

theorem syncTim_eq (s : State) (d u : Nat) : s.syncTim d u =
    ((s.wordsShown d u).wr F.TIM_STATUS.FIFO_LEVEL [d, u] (s.timOf d u).fifo.length).wr F.TIM_STATUS.OPEN [d, u] (b2n (s.timOpen d u)) := by
  have mode : (s.wordsShown d u).rd F.TIM_CTRL.MODE [d, u] = s.rd F.TIM_CTRL.MODE [d, u] := (s.wordsShown_only d u).rd_of (by decide) _
  rw [timOpen, ← mode]
  rfl

theorem syncTim_level {s : State} (hs : s.Sound) (d u : Nat) :
    (s.syncTim d u).rd F.TIM_STATUS.FIFO_LEVEL [d, u] = (s.timOf d u).fifo.length % 64 := by
  rw [syncTim_eq, rd_wr_of_lo (by decide)]
  exact rd_wr_self ((s.wordsShown_only d u).sound hs).regs ..

theorem syncTim_open {s : State} (hs : s.Sound) (d u : Nat) : (s.syncTim d u).rd F.TIM_STATUS.OPEN [d, u] = b2n (s.timOpen d u) := by
  rw [syncTim_eq, rd_wr_self (((s.wordsShown_only d u).sound hs).wr).regs]
  exact trunc_one_b2n _

/-- The other fields of TIM_STATUS stay. -/
theorem syncTim_status {f : Fld} (hr : f.reg ≠ .TIM_RES) (hl : f.lo ≠ F.TIM_STATUS.FIFO_LEVEL.lo) (ho : f.lo ≠ F.TIM_STATUS.OPEN.lo) (s : State)
    (d u : Nat) (ix : List Nat) : (s.syncTim d u).rd f ix = s.rd f ix := by
  rw [syncTim_eq, rd_wr_of_lo ho, rd_wr_of_lo hl]
  exact (s.wordsShown_only d u).rd_of (by simpa using hr) ix

theorem syncTim_word {s : State} (hs : s.Sound) (d u : Nat) {w : Nat} (hw : w < 8) :
    (s.syncTim d u).rd F.TIM_RES.WORD [d, u, w] = (headWords (s.timOf d u).fifo).getD w 0 % 2 ^ 32 := by
  have place : w < (headWords (s.timOf d u).fifo).length := by rwa [headWords_length]
  have shown : (s.wordsShown d u).rd F.TIM_RES.WORD [d, u, w] = (headWords (s.timOf d u).fifo)[w] % 2 ^ 32 := by
    have written := (each_zipIdx_wr F.TIM_RES.WORD (fun w => [d, u, w]) (by simp) (headWords (s.timOf d u).fifo) 0 hs).1 w place
    rwa [Nat.zero_add] at written
  rw [syncTim_eq, rd_wr_of_reg (by decide), rd_wr_of_reg (by decide), shown, List.getD_eq_getElem _ _ place]

-- Sticky bits and counts --------------------------------------------------------------------------------------------------------------

/-- A sticky bit is set, and its event raised where it was not (R325). -/
theorem stick_shows {s : State} (hs : s.Sound) {f : Fld} (hf : f.reg ∉ Reg.ofEvents) (hw : 1 < 2 ^ f.width) (ix : List Nat) (d src payload : Nat) :
    (s.stick f ix d src payload).rd f ix ≠ 0 ∧ (s.rd f ix = 0 → (s.stick f ix d src payload).pends d src = true) := by
  unfold stick
  split
  next already =>
    have set : s.rd f ix ≠ 0 := by simpa [isSet] using already
    exact ⟨set, fun clear => absurd clear set⟩
  next =>
    refine ⟨?_, fun _ => raise_pends (hs.flag f ix) d src payload⟩
    rw [raise_rd hf, flag_rd, rd_wr_self_of_lt hs _ _ hw]
    exact Nat.one_ne_zero

/-- A count below its end goes up by one. -/
theorem count_one {s : State} (hs : s.Sound) (f : Fld) (ix : List Nat) (room : s.rd f ix + 1 < 2 ^ f.width) :
    (s.count f ix 1).rd f ix = s.rd f ix + 1 := by
  show (s.wr f ix (min (s.rd f ix + 1) (2 ^ f.width - 1))).rd f ix = _
  rw [Nat.min_eq_left (Nat.le_sub_one_of_lt room), rd_wr_self_of_lt hs f ix room]

@[simp] theorem wr_timOf (s : State) (f : Fld) (ix : List Nat) (v d u : Nat) : (s.wr f ix v).timOf d u = s.timOf d u := rfl

@[simp] theorem count_timOf (s : State) (f : Fld) (ix : List Nat) (n d u : Nat) : (s.count f ix n).timOf d u = s.timOf d u := rfl

@[simp] theorem count_timHeld (s : State) (f : Fld) (ix : List Nat) (n : Nat) : (s.count f ix n).timHeld = s.timHeld := rfl

-- A result (R280, R286) -----------------------------------------------------------------------------------------------------------------

theorem timResult_only (s : State) (d u : Nat) (first last : Instant) (value : Int) (count step : Nat) (neg none : Bool) :
    Within (Foot.of ([.TIM_RES, .TIM_STATUS] ++ Reg.ofEvents) (.tims :: Part.ofEvents)) s (s.timResult d u first last value count step neg none) :=
  timResult_within (by decide +kernel) (.refl _ s) ..

@[simp] theorem raise_timOf (s : State) (d src payload e v : Nat) : (s.raise d src payload).timOf e v = s.timOf e v :=
  timOf_congr ((s.raise_frame d src payload).parts .tims (by decide)) e v

theorem on_raise_timOf (s : State) (b : Bool) (d src payload e v : Nat) :
    (s.on b fun s => s.raise d src payload).timOf e v = s.timOf e v := by
  cases b
  · rfl
  · exact raise_timOf ..

@[simp] theorem stick_timOf (s : State) (f : Fld) (ix : List Nat) (d src payload e v : Nat) : (s.stick f ix d src payload).timOf e v = s.timOf e v := by
  unfold stick
  split
  · rfl
  · rw [raise_timOf]
    rfl

theorem timFlagBits_neg (under neg ovr none coast step lost : Bool) : bitAt (timFlagBits under neg ovr none coast step lost) 1 = neg := by
  revert under neg ovr none coast step lost
  decide

theorem timFlagBits_none (under neg ovr none coast step lost : Bool) : bitAt (timFlagBits under neg ovr none coast step lost) 3 = none := by
  revert under neg ovr none coast step lost
  decide

/-- A result that finds the FIFO full is lost. -/
theorem timResult_full {s : State} (hs : s.Sound) {d u : Nat} (hd : d < 2) (hu : u < 8) (full : 32 ≤ (s.timOf d u).fifo.length)
    (first last : Instant) (value : Int) (count step : Nat) (neg none : Bool) :
    let t := s.timResult d u first last value count step neg none
    t.timOf d u = { s.timOf d u with lost := true, seq := (s.timOf d u).seq + 1 } ∧ t.rd F.TIM_STATUS.FIFO_OVF [d, u] ≠ 0 ∧
      (s.rd F.TIM_STATUS.FIFO_OVF [d, u] = 0 → t.pends d 180 = true) := by
  intro t
  have run : t = (s.setTim d u { s.timOf d u with lost := true, seq := (s.timOf d u).seq + 1 }).stick F.TIM_STATUS.FIFO_OVF [d, u] d 180 u :=
    if_pos full
  rw [run]
  refine ⟨?_, stick_shows (setTim_sound hs d u _) (by decide) (by decide) ..⟩
  rw [stick_timOf, timOf_setTim hs hd hu]

/-- A result enters a FIFO that has room. -/
theorem timResult_room {s : State} (hs : s.Sound) {d u : Nat} (hd : d < 2) (hu : u < 8) (room : (s.timOf d u).fifo.length < 32)
    (first last : Instant) (value : Int) (count step : Nat) (neg none : Bool) :
    ∃ r : TimResult, (s.timResult d u first last value count step neg none).timOf d u =
        { s.timOf d u with fifo := (s.timOf d u).fifo ++ [r], lost := false, seq := (s.timOf d u).seq + 1 } ∧
      r.first = first ∧ r.count = count ∧ (none = false → r.value = spanValue value step) ∧
      (none = true → r.value = satInt 64 value) ∧ bitAt r.flags 1 = neg ∧ bitAt r.flags 3 = none := by
  unfold timResult
  extract_lets z under ovr v a b r entered
  rw [if_neg (Nat.not_le.mpr room)]
  refine ⟨r, ?_, rfl, rfl, fun has => ?_, fun lacks => ?_, timFlagBits_neg .., timFlagBits_none ..⟩
  · have shown : entered.timOf d u = { z with fifo := z.fifo ++ [r], lost := false, seq := z.seq + 1 } := by
      rw [syncTim_timOf, timOf_setTim hs hd hu]
    exact (on_raise_timOf ..).trans shown
  · show (if (!none && decide (value.natAbs < step)) then 0 else satInt 64 value) = _
    simp [has, spanValue]
  · show (if (!_ && decide (value.natAbs < step)) then 0 else satInt 64 value) = _
    simp [lacks]

end State

end Sys2Proof.Machine
end

section
/-!
PROOFS. The measurements of a time-interval unit (R277 to R283): what one event does in each mode.
-/

namespace Sys2Proof.Machine

-- One proof at a time: proofs elaborated side by side ask for more memory than a compile of the whole text may take.
set_option Elab.async false

namespace State

section
variable {s : State} (hs : s.Sound) {d u : Nat} (hd : d < 2) (hu : u < 8)
include hs hd hu

-- A result of a unit that was changed just before -----------------------------------------------------------------------------------

/-- A result written after a change of the unit, shown in the registers: the FIFO has room. -/
theorem result_room {z : Tim} (room : z.fifo.length < 32) (first last : Instant) (value : Int) (count step : Nat) (neg none : Bool) :
    ∃ r : TimResult, (((s.setTim d u z).timResult d u first last value count step neg none).syncTim d u).timOf d u =
        { z with fifo := z.fifo ++ [r], lost := false, seq := z.seq + 1 } ∧ r.first = first ∧ r.count = count ∧
      (none = false → r.value = spanValue value step) ∧ (none = true → r.value = satInt 64 value) ∧ bitAt r.flags 1 = neg ∧ bitAt r.flags 3 = none := by
  have unit := timOf_setTim hs hd hu z
  obtain ⟨r, entered, rest⟩ := timResult_room (setTim_sound hs d u z) hd hu (by rwa [unit]) first last value count step neg none
  exact ⟨r, by rw [syncTim_timOf, entered, unit], rest⟩

/-- The same with a full FIFO: the result is lost. -/
theorem result_full {z : Tim} (full : 32 ≤ z.fifo.length) (first last : Instant) (value : Int) (count step : Nat) (neg none : Bool) :
    let t := ((s.setTim d u z).timResult d u first last value count step neg none).syncTim d u
    t.timOf d u = { z with lost := true, seq := z.seq + 1 } ∧ t.rd F.TIM_STATUS.FIFO_OVF [d, u] ≠ 0 ∧
      (s.rd F.TIM_STATUS.FIFO_OVF [d, u] = 0 → t.pends d 180 = true) := by
  intro t
  have unit := timOf_setTim hs hd hu z
  have sound := setTim_sound hs d u z
  obtain ⟨lost, flagged, told⟩ := timResult_full sound hd hu (by rwa [unit]) first last value count step neg none
  refine ⟨by rw [syncTim_timOf, lost, unit], ?_, fun clear => ?_⟩
  · rwa [syncTim_status (by decide) (by decide) (by decide)]
  · exact (syncTim_keeps (Keeps.refl _) d u).pends ((timResult_only ..).sound sound) d 180 (told clear)

/-- With or without room a result leaves the disable of its unit. -/
theorem result_stopping (z : Tim) (first last : Instant) (value : Int) (count step : Nat) (neg none : Bool) :
    (((s.setTim d u z).timResult d u first last value count step neg none).timOf d u).stopping = z.stopping := by
  have unit := timOf_setTim hs hd hu z
  have sound := setTim_sound hs d u z
  rcases Nat.lt_or_ge z.fifo.length 32 with room | full
  · obtain ⟨r, entered, -⟩ := timResult_room sound hd hu (by rwa [unit]) first last value count step neg none
    rw [entered, unit]
  · rw [(timResult_full sound hd hu (by rwa [unit]) first last value count step neg none).1, unit]

-- INTERVAL (R278, R279) ---------------------------------------------------------------------------------------------------------------

omit hs hd hu in
theorem timInterval_of_first {e : Nat} (idle : (s.timOf d u).opened = none) (opens : e = 0 ∨ s.rd F.TIM_CTRL.SIGNED [d, u] ≠ 0) (dt : Instant)
    (step : Nat) : s.timInterval d u e dt step = (s.setTim d u { s.timOf d u with opened := some (e, dt, step) }).syncTim d u := by
  unfold timInterval
  dsimp only
  rw [idle]
  refine if_neg fun h => ?_
  obtain ⟨rfl, unsigned⟩ := h
  simp [isSet] at unsigned opens
  exact opens unsigned

omit hs hd hu in
theorem timInterval_of_stray (idle : (s.timOf d u).opened = none) (unsigned : s.rd F.TIM_CTRL.SIGNED [d, u] = 0) (dt : Instant) (step : Nat) :
    s.timInterval d u 1 dt step = s.count F.TIM_IGN_STOP.COUNT [d, u] 1 := by
  unfold timInterval
  dsimp only
  rw [idle]
  exact if_pos ⟨rfl, by simp [isSet, unsigned]⟩

omit hs hd hu in
theorem timInterval_of_again {dt₀ : Instant} {k₀ : Nat} (started : (s.timOf d u).opened = some (0, dt₀, k₀)) (dt : Instant) (step : Nat) :
    s.timInterval d u 0 dt step = s.count F.TIM_IGN_START.COUNT [d, u] 1 := by
  unfold timInterval
  dsimp only
  rw [started]
  exact if_pos rfl

omit hs hd hu in
/-- The event of the other input closes the measurement. -/
theorem timInterval_of_other {e e₀ : Nat} {dt₀ : Instant} {k₀ : Nat} (started : (s.timOf d u).opened = some (e₀, dt₀, k₀)) (other : e ≠ e₀)
    (dt : Instant) (step : Nat) :
    let start := if e₀ = 0 then dt₀ else dt
    let stop := if e₀ = 0 then dt else dt₀
    s.timInterval d u e dt step = ((s.setTim d u { s.timOf d u with opened := none }).timResult d u start stop (instDiff stop start) 0
      (max step k₀) (e₀ == 1) false).syncTim d u := by
  intro start stop
  unfold timInterval
  dsimp only
  rw [started]
  exact if_neg other

theorem timInterval_stopping (e : Nat) (dt : Instant) (step : Nat) :
    ((s.timInterval d u e dt step).timOf d u).stopping = (s.timOf d u).stopping := by
  unfold timInterval
  dsimp only
  split
  · split
    · rw [count_timOf]
    · rw [syncTim_timOf, timOf_setTim hs hd hu]
  · split
    · rw [count_timOf]
    · rw [syncTim_timOf, result_stopping hs hd hu]

-- PERIOD (R281) -----------------------------------------------------------------------------------------------------------------------

omit hs hd hu in
theorem timPeriod_of_first (idle : (s.timOf d u).firstEdge = none) (dt : Instant) (step : Nat) :
    s.timPeriod d u dt step = (s.setTim d u { s.timOf d u with firstEdge := some dt, edges := 0, step }).syncTim d u := by
  unfold timPeriod
  dsimp only
  rw [idle]

omit hs hd hu in
theorem timPeriod_of_inner {f : Instant} (started : (s.timOf d u).firstEdge = some f) (inner : (s.timOf d u).edges + 1 < s.rd F.TIM_N.N [d, u])
    (dt : Instant) (step : Nat) : s.timPeriod d u dt step =
      s.setTim d u { s.timOf d u with edges := (s.timOf d u).edges + 1, step := max step (s.timOf d u).step } := by
  unfold timPeriod
  dsimp only
  rw [started]
  exact if_pos inner

omit hs hd hu in
theorem timPeriod_of_last {f : Instant} (started : (s.timOf d u).firstEdge = some f) (last : s.rd F.TIM_N.N [d, u] ≤ (s.timOf d u).edges + 1)
    (dt : Instant) (step : Nat) : s.timPeriod d u dt step =
      ((s.setTim d u { s.timOf d u with firstEdge := none, edges := 0 }).timResult d u f dt (instSub dt f) (s.rd F.TIM_N.N [d, u])
        (max step (s.timOf d u).step) false false).syncTim d u := by
  unfold timPeriod
  dsimp only
  rw [started]
  exact if_neg (Nat.not_lt.mpr last)

theorem timPeriod_stopping (dt : Instant) (step : Nat) : ((s.timPeriod d u dt step).timOf d u).stopping = (s.timOf d u).stopping := by
  unfold timPeriod
  dsimp only
  split
  · rw [syncTim_timOf, timOf_setTim hs hd hu]
  · split
    · rw [timOf_setTim hs hd hu]
    · rw [syncTim_timOf, result_stopping hs hd hu]

-- FREQUENCY and TOTALIZE (R282, R283) -----------------------------------------------------------------------------------------------------

theorem timGateEdge_timOf (dt : Instant) (step : Nat) : (s.timGateEdge d u dt step).timOf d u =
    { s.timOf d u with firstEdge := some ((s.timOf d u).firstEdge.getD dt), lastEdge := some dt, edges := (s.timOf d u).edges + 1,
                       step := max step (s.timOf d u).step } := by
  rw [timGateEdge, syncTim_timOf, timOf_setTim hs hd hu]

omit hs hd hu in
theorem timTotal_of_start (dt : Instant) : s.timTotal d u 0 dt = s.inc F.TIM_TOTAL.COUNT [d, u] := if_pos rfl

/-- The instant from which a TOTALIZE result counts. -/
def totalFrom (z : Tim) : Instant := z.firstEdge.getD (4096 * z.enabledAt)

omit hs hd hu in
theorem timTotal_of_stop {e : Nat} (stop : e ≠ 0) (dt : Instant) : s.timTotal d u e dt =
    (((s.setTim d u { s.timOf d u with firstEdge := some dt }).timResult d u (totalFrom (s.timOf d u)) dt (instSub dt (totalFrom (s.timOf d u)))
      (s.rd F.TIM_TOTAL.COUNT [d, u]) 0 false false).wr F.TIM_TOTAL.COUNT [d, u] 0).syncTim d u := if_neg stop

/-- A stop writes the count and starts it again at 0. -/
theorem timTotal_room (room : (s.timOf d u).fifo.length < 32) (dt : Instant) :
    let z := s.timOf d u
    let t := s.timTotal d u 1 dt
    t.rd F.TIM_TOTAL.COUNT [d, u] = 0 ∧ ∃ r : TimResult,
      t.timOf d u = { z with firstEdge := some dt, fifo := z.fifo ++ [r], lost := false, seq := z.seq + 1 } ∧
      r.count = s.rd F.TIM_TOTAL.COUNT [d, u] ∧ r.first = totalFrom z ∧ r.value = spanValue (instSub dt (totalFrom z)) 0 := by
  intro z t
  have unit := timOf_setTim hs hd hu { z with firstEdge := some dt }
  have sound := setTim_sound hs d u { z with firstEdge := some dt }
  obtain ⟨r, entered, first, count, value, -⟩ := timResult_room sound hd hu (by rw [unit]; exact room) (totalFrom z) dt (instSub dt (totalFrom z))
    (s.rd F.TIM_TOTAL.COUNT [d, u]) 0 false false
  have run : t = _ := timTotal_of_stop Nat.one_ne_zero dt
  rw [run]
  refine ⟨?_, r, ?_, count, first, value rfl⟩
  · rw [syncTim_rd (by decide), rd_wr_self ((timResult_only ..).sound sound).regs]
    exact Nat.zero_mod _
  · rw [syncTim_timOf, wr_timOf, entered, unit]

theorem timTotal_stopping (e : Nat) (dt : Instant) : ((s.timTotal d u e dt).timOf d u).stopping = (s.timOf d u).stopping := by
  by_cases start : e = 0
  · rw [start, timTotal_of_start]
    rfl
  · rw [timTotal_of_stop start, syncTim_timOf]
    exact result_stopping hs hd hu _ _ _ _ _ _ _ _

end

end State

end Sys2Proof.Machine
end

section
/-!
PROOFS. The events that a time-interval unit holds (R274 to R283): their order, their hold-off, and what a unit does with each.
-/

namespace Sys2Proof.Machine

-- One proof at a time: proofs elaborated side by side ask for more memory than a compile of the whole text may take.
set_option Elab.async false

namespace State

-- One event (R277) ------------------------------------------------------------------------------------------------------------------------

/-- The instant that the hold-off of an event's input counts from. -/
def lastOf (z : Tim) (e : Nat) : Option Instant := if e = 0 then z.lastStart else z.lastStop

/-- The unit after it noted an event of input e. -/
def marked (z : Tim) (e : Nat) (dt : Instant) : Tim := if e = 0 then { z with lastStart := some dt } else { z with lastStop := some dt }

@[simp] theorem marked_opened (z : Tim) (e : Nat) (dt : Instant) : (marked z e dt).opened = z.opened := by unfold marked; split <;> rfl
@[simp] theorem marked_fifo (z : Tim) (e : Nat) (dt : Instant) : (marked z e dt).fifo = z.fifo := by unfold marked; split <;> rfl
@[simp] theorem marked_firstEdge (z : Tim) (e : Nat) (dt : Instant) : (marked z e dt).firstEdge = z.firstEdge := by unfold marked; split <;> rfl
@[simp] theorem marked_edges (z : Tim) (e : Nat) (dt : Instant) : (marked z e dt).edges = z.edges := by unfold marked; split <;> rfl
@[simp] theorem marked_step (z : Tim) (e : Nat) (dt : Instant) : (marked z e dt).step = z.step := by unfold marked; split <;> rfl
@[simp] theorem marked_enabledAt (z : Tim) (e : Nat) (dt : Instant) : (marked z e dt).enabledAt = z.enabledAt := by unfold marked; split <;> rfl
@[simp] theorem marked_stopping (z : Tim) (e : Nat) (dt : Instant) : (marked z e dt).stopping = z.stopping := by unfold marked; split <;> rfl

/-- The state after the unit noted the event. -/
def timNoted (s : State) (v : TimEvent) : State := s.setTim v.die v.u (marked (s.timOf v.die v.u) v.e v.dt)

/-- The hold-off of the event's input is over (R277). -/
def offHold (s : State) (v : TimEvent) : Prop := ∀ l, lastOf (s.timOf v.die v.u) v.e = some l → s.timHoldoff v ≤ instSub v.dt l

theorem timNoted_sound {s : State} (hs : s.Sound) (v : TimEvent) : (s.timNoted v).Sound := setTim_sound hs ..

theorem timNoted_timOf {s : State} (hs : s.Sound) {v : TimEvent} (hd : v.die < 2) (hu : v.u < 8) :
    (s.timNoted v).timOf v.die v.u = marked (s.timOf v.die v.u) v.e v.dt := timOf_setTim hs hd hu _

@[simp] theorem timNoted_rd (s : State) (v : TimEvent) (f : Fld) (ix : List Nat) : (s.timNoted v).rd f ix = s.rd f ix := rfl

@[simp] theorem timNoted_timHeld (s : State) (v : TimEvent) : (s.timNoted v).timHeld = s.timHeld := rfl

/-- The event comes within the hold-off of its input. -/
def suppresses (s : State) (v : TimEvent) : Bool := ((lastOf (s.timOf v.die v.u) v.e).map fun l => decide (instSub v.dt l < s.timHoldoff v)).getD false

theorem suppresses_of_held {s : State} {v : TimEvent} {l : Instant} (last : lastOf (s.timOf v.die v.u) v.e = some l)
    (held : instSub v.dt l < s.timHoldoff v) : s.suppresses v = true := by
  rw [suppresses, last, Option.map_some, Option.getD_some]
  exact decide_eq_true held

theorem suppresses_of_off {s : State} {v : TimEvent} (off : s.offHold v) : s.suppresses v = false := by
  rw [suppresses]
  cases last : lastOf (s.timOf v.die v.u) v.e with
  | none => rfl
  | some l =>
    rw [Option.map_some, Option.getD_some]
    exact decide_eq_false (Nat.not_lt.mpr (off l last))

/-- The measurement of the unit's mode takes the event. -/
def measured (s : State) (v : TimEvent) : State :=
  match s.rd F.TIM_CTRL.MODE [v.die, v.u] with
  | 0 => s.timInterval v.die v.u v.e v.dt v.step
  | 1 => s.timPeriod v.die v.u v.dt v.step
  | 2 => s.timGateEdge v.die v.u v.dt v.step
  | _ => s.timTotal v.die v.u v.e v.dt

theorem timEvent_eq (s : State) (v : TimEvent) :
    s.timEvent v = if s.suppresses v then s.count F.TIM_SUPPRESS.COUNT [v.die, v.u] 1 else (s.timNoted v).measured v := rfl

/-- An event within the hold-off of its input is counted and no more. -/
theorem timEvent_suppressed {s : State} {v : TimEvent} {l : Instant} (last : lastOf (s.timOf v.die v.u) v.e = some l)
    (held : instSub v.dt l < s.timHoldoff v) : s.timEvent v = s.count F.TIM_SUPPRESS.COUNT [v.die, v.u] 1 := by
  rw [timEvent_eq, if_pos (suppresses_of_held last held)]

/-- Any other event is noted and goes to the measurement of the mode. -/
theorem timEvent_passes {s : State} {v : TimEvent} (off : s.offHold v) : s.timEvent v = (s.timNoted v).measured v := by
  rw [timEvent_eq, suppresses_of_off off]
  rfl

theorem measured_interval {s : State} {v : TimEvent} (mode : s.rd F.TIM_CTRL.MODE [v.die, v.u] = 0) :
    s.measured v = s.timInterval v.die v.u v.e v.dt v.step := by
  simp only [measured, mode]

theorem measured_period {s : State} {v : TimEvent} (mode : s.rd F.TIM_CTRL.MODE [v.die, v.u] = 1) :
    s.measured v = s.timPeriod v.die v.u v.dt v.step := by
  simp only [measured, mode]

theorem measured_gate {s : State} {v : TimEvent} (mode : s.rd F.TIM_CTRL.MODE [v.die, v.u] = 2) :
    s.measured v = s.timGateEdge v.die v.u v.dt v.step := by
  simp only [measured, mode]

theorem measured_total {s : State} {v : TimEvent} (mode : s.rd F.TIM_CTRL.MODE [v.die, v.u] = 3) :
    s.measured v = s.timTotal v.die v.u v.e v.dt := by
  simp only [measured, mode]

theorem measured_stopping {s : State} (hs : s.Sound) {v : TimEvent} (hd : v.die < 2) (hu : v.u < 8) :
    ((s.measured v).timOf v.die v.u).stopping = (s.timOf v.die v.u).stopping := by
  unfold measured
  split
  · exact timInterval_stopping hs hd hu ..
  · exact timPeriod_stopping hs hd hu ..
  · rw [timGateEdge_timOf hs hd hu]
  · exact timTotal_stopping hs hd hu ..

theorem timEvent_only (s : State) (v : TimEvent) : Within (Foot.without [] [.timHeld]) s (s.timEvent v) :=
  timEvent_within (by decide +kernel) (.refl _ s) v

theorem timEvent_timHeld (s : State) (v : TimEvent) : (s.timEvent v).timHeld = s.timHeld := (s.timEvent_only v).parts .timHeld (by decide +kernel)

/-- An event leaves the disable of its unit. -/
theorem timEvent_stopping {s : State} (hs : s.Sound) {v : TimEvent} (hd : v.die < 2) (hu : v.u < 8) :
    ((s.timEvent v).timOf v.die v.u).stopping = (s.timOf v.die v.u).stopping := by
  rw [timEvent_eq]
  split
  · rw [count_timOf]
  · rw [measured_stopping (timNoted_sound hs v) hd hu, timNoted_timOf hs hd hu, marked_stopping]

-- The events held (R274) --------------------------------------------------------------------------------------------------------------------

/-- The state with no event held. -/
def emptied (s : State) : State := { s with timHeld := [] }

theorem emptied_sound {s : State} (hs : s.Sound) : s.emptied.Sound := ⟨hs.regs, hs.mem, hs.acq, hs.tims, hs.acc, hs.layers, hs.flash⟩

@[simp] theorem emptied_rd (s : State) (f : Fld) (ix : List Nat) : s.emptied.rd f ix = s.rd f ix := rfl

@[simp] theorem emptied_timOf (s : State) (d u : Nat) : s.emptied.timOf d u = s.timOf d u := rfl

@[simp] theorem emptied_timHeld (s : State) : s.emptied.timHeld = [] := rfl

/-- A unit with no event to take stays as it is. -/
theorem timTake_of_none {s : State} {d u : Nat} {p : TimEvent → Bool} (idle : ∀ v ∈ s.timHeld, ¬(v.die = d ∧ v.u = u ∧ p v = true)) :
    s.timTake d u p = s := by
  have mine : ∀ v ∈ s.timHeld, (v.die == d && v.u == u && p v) = false := fun v hv => by
    have := idle v hv
    simp only [not_and] at this
    by_contra take
    simp only [Bool.not_eq_false, Bool.and_eq_true, beq_iff_eq] at take
    exact this take.1.1 take.1.2 take.2
  have kept : (s.timHeld.filter fun v => !(v.die == d && v.u == u && p v)) = s.timHeld :=
    List.filter_eq_self.mpr fun v hv => by rw [mine v hv]; rfl
  have none : (s.timHeld.filter fun v => v.die == d && v.u == u && p v) = [] := List.filter_eq_nil_iff.mpr fun v hv => by simp [mine v hv]
  unfold timTake
  dsimp only
  rw [kept, none, List.mergeSort_nil]
  rfl

/-- One event held, which the unit takes. -/
theorem timTake_of_one {s : State} {v : TimEvent} {p : TimEvent → Bool} (held : s.timHeld = [v]) (ready : p v = true) :
    s.timTake v.die v.u p = s.emptied.timEvent v := by
  have kept : ([v].filter fun x => !(x.die == v.die && x.u == v.u && p x)) = [] := List.filter_eq_nil_iff.mpr (by simp [ready])
  have mine : ([v].filter fun x => x.die == v.die && x.u == v.u && p x) = [v] := List.filter_eq_self.mpr (by simp [ready])
  unfold timTake
  dsimp only
  rw [held, kept, mine, List.mergeSort_singleton]
  rfl

/-- On a circle of even length at most one of two different points lies within half a turn of the other. -/
theorem half_turn_antisymm {m a b : Nat} (ha : a < 2 * m) (hb : b < 2 * m) (h : (a + 2 * m - b % (2 * m)) % (2 * m) < m)
    (h' : (b + 2 * m - a % (2 * m)) % (2 * m) < m) : a = b := by
  have ahead : ∀ {x y : Nat}, x < y → y < 2 * m → (x + 2 * m - y % (2 * m)) % (2 * m) = x + 2 * m - y ∧
      (y + 2 * m - x % (2 * m)) % (2 * m) = y - x := fun {x y} less small => by
    rw [Nat.mod_eq_of_lt small, Nat.mod_eq_of_lt (less.trans small)]
    refine ⟨Nat.mod_eq_of_lt (by omega), ?_⟩
    rw [show y + 2 * m - x = y - x + 2 * m by omega, Nat.add_mod_right]
    exact Nat.mod_eq_of_lt (by omega)
  rcases Nat.lt_trichotomy a b with less | same | less
  · have := ahead less hb
    omega
  · exact same
  · have := ahead less ha
    omega

/-- Two instants of which each is not before the other are one. -/
theorem instGe_antisymm {a b : Instant} (ha : a < 2 ^ 76) (hb : b < 2 ^ 76) (h : instGe a b = true) (h' : instGe b a = true) : a = b := by
  have turn : (2 ^ 76 : Nat) = 2 * 2 ^ 75 := by decide
  simp only [instGe, instSub, turn, decide_eq_true_eq] at ha hb h h'
  exact half_turn_antisymm ha hb h h'

/-- A start before a stop that is not earlier (R274). -/
theorem timOrder_of_pair {a b : TimEvent} (start : a.e = 0) (stop : b.e = 1) (ha : a.dt < 2 ^ 76) (hb : b.dt < 2 ^ 76)
    (later : instGe b.dt a.dt = true) : timOrder a b = true ∧ timOrder b a = false := by
  unfold timOrder
  by_cases same : a.dt = b.dt
  · simp [same, start, stop]
  · rw [if_neg same, if_neg (Ne.symm same)]
    refine ⟨later, ?_⟩
    by_contra earlier
    exact same (instGe_antisymm ha hb (by simpa using earlier) later)

theorem sort_pair {a b : TimEvent} (first : timOrder a b = true) (other : timOrder b a = false) :
    [a, b].mergeSort timOrder = [a, b] ∧ [b, a].mergeSort timOrder = [a, b] := by
  constructor <;> simp [List.mergeSort, List.MergeSort.Internal.splitInTwo, first, other]

/-- A start and a stop held, whichever came in first: the start is processed before the stop. -/
theorem timTake_of_pair {s : State} {a b : TimEvent} {p : TimEvent → Bool} (held : s.timHeld = [a, b] ∨ s.timHeld = [b, a]) (die : b.die = a.die)
    (unit : b.u = a.u) (order : timOrder a b = true ∧ timOrder b a = false) (readyA : p a = true) (readyB : p b = true) :
    s.timTake a.die a.u p = (s.emptied.timEvent a).timEvent b := by
  obtain ⟨first, second⟩ := sort_pair order.1 order.2
  have run : ∀ l, s.timHeld = l → (∀ x ∈ l, x = a ∨ x = b) → l.mergeSort timOrder = [a, b] →
      s.timTake a.die a.u p = (s.emptied.timEvent a).timEvent b := fun l hl among sorted => by
    have mine : ∀ x ∈ l, (x.die == a.die && x.u == a.u && p x) = true := fun x hx => by
      rcases among x hx with rfl | rfl
      · simp [readyA]
      · simp [readyB, die, unit]
    have kept : (l.filter fun x => !(x.die == a.die && x.u == a.u && p x)) = [] := List.filter_eq_nil_iff.mpr fun x hx => by simp [mine x hx]
    have all : (l.filter fun x => x.die == a.die && x.u == a.u && p x) = l := List.filter_eq_self.mpr mine
    unfold timTake
    dsimp only
    rw [hl, kept, all, sorted]
    rfl
  rcases held with h | h
  · exact run _ h (by simp) first
  · exact run _ h (by simp) second

-- The end of a disabled unit (R276, R283, R284) ----------------------------------------------------------------------------------------------

/-- A unit that is disabled and has no event left: its FIFO stays, or takes the final result of TOTALIZE. -/
theorem timFinish_drained {s : State} (hs : s.Sound) {d u tick start : Nat} (hd : d < 2) (hu : u < 8)
    (stops : (s.timOf d u).stopping = some (tick, start)) (idle : ∀ e ∈ s.timHeld, ¬(e.die = d ∧ e.u = u))
    (room : (s.timOf d u).fifo.length < 32) :
    let z := s.timOf d u
    let t := s.timFinish d u
    (t.timOf d u).stopping = none ∧ (t.timOf d u).opened = none ∧ t.rd F.TIM_STATUS.OPEN [d, u] = s.rd F.TIM_STATUS.OPEN [d, u] % 2 ∧
      (s.rd F.TIM_CTRL.MODE [d, u] ≠ 3 → (t.timOf d u).fifo = z.fifo) ∧
      (s.rd F.TIM_CTRL.MODE [d, u] = 3 → ∃ r : TimResult, (t.timOf d u).fifo = z.fifo ++ [r] ∧ r.count = s.rd F.TIM_TOTAL.COUNT [d, u] ∧
        r.first = totalFrom z ∧ r.value = spanValue (instSub (4096 * tick) r.first) 0) := by
  intro z t
  let a : State := s.on (s.rd F.TIM_CTRL.MODE [d, u] == 3) fun s => s.timTotal d u 1 (4096 * tick)
  have taken : s.timTake d u (fun _ => true) = s := timTake_of_none fun v hv h => idle v hv ⟨h.1, h.2.1⟩
  have sound : a.Sound := ((Within.refl (2 ^ 700 - 1) s).on fun _ hu => timTotal_within (by decide +kernel) hu ..).sound hs
  have run : t = ((a.setTim d u { Tim.idle with fifo := (a.timOf d u).fifo, seq := (a.timOf d u).seq, lost := (a.timOf d u).lost }).syncTim d u).wr
      F.TIM_STATUS.OPEN [d, u] (s.rd F.TIM_STATUS.OPEN [d, u]) := by
    show s.timFinish d u = _
    unfold timFinish
    rw [stops]
    dsimp only
    rw [taken]
  have unit : t.timOf d u = { Tim.idle with fifo := (a.timOf d u).fifo, seq := (a.timOf d u).seq, lost := (a.timOf d u).lost } := by
    rw [run, wr_timOf, syncTim_timOf, timOf_setTim sound hd hu]
  refine ⟨by rw [unit]; rfl, by rw [unit]; rfl, ?_, fun other => ?_, fun total => ?_⟩
  · rw [run]
    exact rd_wr_self (syncTim_sound (setTim_sound sound d u _) d u).regs ..
  · rw [unit]
    have same : a = s := on_of_false (by simpa using other) ..
    rw [same]
  · have ends : a = s.timTotal d u 1 (4096 * tick) := on_of_true (by simpa using total) ..
    obtain ⟨-, r, entered, count, first, value⟩ := timTotal_room hs hd hu room (4096 * tick)
    refine ⟨r, ?_, count, first, first ▸ value⟩
    rw [unit, ends, entered]

end State

end Sys2Proof.Machine
end

section
/-!
PROOFS. What the processing of a unit's events completes with, and the end of a gate (R274 to R284).
-/

namespace Sys2Proof.Machine

-- One proof at a time: proofs elaborated side by side ask for more memory than a compile of the whole text may take.
set_option Elab.async false

namespace State

/-- A unit that is not being disabled has nothing to drain. -/
theorem timDrained_of_runs {s : State} {d u : Nat} (runs : (s.timOf d u).stopping = none) : s.timDrained d u = false := by
  rw [timDrained, runs]
  rfl

/-- A unit with one event held processes that event and no more. -/
theorem timProcess_of_one {s : State} (hs : s.Sound) {v : TimEvent} (hd : v.die < 2) (hu : v.u < 8) (held : s.timHeld = [v])
    (ready : s.timReady v = true) (runs : (s.timOf v.die v.u).stopping = none) : s.timProcess v.die v.u = s.emptied.timEvent v := by
  unfold timProcess
  dsimp only
  rw [timTake_of_one held ready]
  refine on_of_false (timDrained_of_runs ?_) ..
  rw [timEvent_stopping (emptied_sound hs) hd hu, emptied_timOf, runs]

end State

open State

/-- A command of a unit acts at once while the FIFO has room, else as its core cycle ends (R38, R286). -/
theorem completes_of_lands {c : Instr} {d u : Nat} {s : State} {f : State → State} {P : State → Prop}
    (run : exec c s = .next (s.atEnd (s.timFull d u) c f)) (lands : (s.timOf d u).fifo.length < 32 ∨ s.closing = true) (done : P (f s)) :
    Completes c s P := by
  refine completes_of_eq run ?_ done
  refine if_neg ?_
  rcases lands with room | closing
  · simp [timFull, room]
  · simp [closing]

theorem full_waits {c : Instr} {d u : Nat} {s : State} (kind : c = .timEventProcess d u ∨ c = .timGateEnd d u)
    (full : 32 ≤ (s.timOf d u).fifo.length) (runs : s.closing = false) : Completes c s fun t => t = s.book c := by
  have waits : (s.timFull d u && !s.closing) = true := by simp [timFull, full, runs]
  rcases kind with rfl | rfl
  · exact ⟨_, congrArg Host.Outcome.next (if_pos waits), rfl⟩
  · exact ⟨_, congrArg Host.Outcome.next (if_pos waits), rfl⟩

/-- The one event that a unit takes: it is measured, and none is left. -/
theorem timEventProcess_takes {v : TimEvent} {s : State} (hs : s.Sound) (one : s.takesOne v) {P : State → Prop}
    (done : P (s.emptied.timEvent v)) : Completes (.timEventProcess v.die v.u) s P := by
  obtain ⟨hd, hu, -, held, ready, runs, lands, -⟩ := one
  exact completes_of_lands rfl lands (by rwa [timProcess_of_one hs hd hu held ready runs])

theorem timEventProcess_idle {d u : Nat} {s : State} (idle : ∀ v ∈ s.timHeld, ¬(v.die = d ∧ v.u = u ∧ s.timReady v = true))
    (runs : (s.timOf d u).stopping = none) (lands : (s.timOf d u).fifo.length < 32 ∨ s.closing = true) :
    Completes (.timEventProcess d u) s fun t => t = s := by
  refine completes_of_lands rfl lands ?_
  unfold timProcess
  dsimp only
  rw [timTake_of_none idle]
  exact on_of_false (timDrained_of_runs runs) ..

theorem timEventProcess_drains {d u tick start : Nat} {s : State} (hs : s.Sound) (hd : d < 2) (hu : u < 8)
    (stops : (s.timOf d u).stopping = some (tick, start)) (past : start + 128 * 107 ≤ s.now) (idle : ∀ e ∈ s.timHeld, ¬(e.die = d ∧ e.u = u))
    (room : (s.timOf d u).fifo.length < 32) :
    let z := s.timOf d u
    Completes (.timEventProcess d u) s fun t => (t.timOf d u).stopping = none ∧ (t.timOf d u).opened = none ∧
      t.rd F.TIM_STATUS.OPEN [d, u] = s.rd F.TIM_STATUS.OPEN [d, u] % 2 ∧
      (s.rd F.TIM_CTRL.MODE [d, u] ≠ 3 → (t.timOf d u).fifo = z.fifo) ∧
      (s.rd F.TIM_CTRL.MODE [d, u] = 3 → ∃ r : TimResult, (t.timOf d u).fifo = z.fifo ++ [r] ∧
        r.count = s.rd F.TIM_TOTAL.COUNT [d, u] ∧ r.first = z.firstEdge.getD (4096 * z.enabledAt) ∧
        r.value = spanValue (instSub (4096 * tick) r.first) 0) := by
  intro z
  refine completes_of_lands rfl (.inl room) ?_
  have drained : s.timDrained d u = true := by
    rw [timDrained, stops]
    exact decide_eq_true past
  have run : s.timProcess d u = s.timFinish d u := by
    unfold timProcess
    dsimp only
    rw [timTake_of_none fun v hv h => idle v hv ⟨h.1, h.2.1⟩]
    exact on_of_true drained ..
  rw [run]
  exact timFinish_drained hs hd hu stops idle room

theorem timEventProcess_suppresses {v : TimEvent} {l : Instant} {s : State} (hs : s.Sound) (hd : v.die < 2) (hu : v.u < 8)
    (held : s.timHeld = [v]) (ready : s.timReady v = true)
    (last : (if v.e = 0 then (s.timOf v.die v.u).lastStart else (s.timOf v.die v.u).lastStop) = some l) (within : instSub v.dt l < s.timHoldoff v)
    (runs : (s.timOf v.die v.u).stopping = none) (lands : (s.timOf v.die v.u).fifo.length < 32 ∨ s.closing = true)
    (room : s.rd F.TIM_SUPPRESS.COUNT [v.die, v.u] + 1 < 2 ^ 32) :
    Completes (.timEventProcess v.die v.u) s fun t => t.timHeld = [] ∧
      t.rd F.TIM_SUPPRESS.COUNT [v.die, v.u] = s.rd F.TIM_SUPPRESS.COUNT [v.die, v.u] + 1 ∧ t.timOf v.die v.u = s.timOf v.die v.u := by
  refine completes_of_lands rfl lands ?_
  rw [timProcess_of_one hs hd hu held ready runs, timEvent_suppressed (s := s.emptied) last within]
  exact ⟨rfl, count_one (emptied_sound hs) F.TIM_SUPPRESS.COUNT _ room, rfl⟩

/-- The hold-off of the one event a unit takes is over. -/
theorem takesOne_off {v : TimEvent} {s : State} (one : s.takesOne v) : s.emptied.offHold v := by
  obtain ⟨-, -, -, -, -, -, -, off⟩ := one
  exact off

theorem timEventProcess_interval {v : TimEvent} {s : State} (hs : s.Sound) (one : s.takesOne v) (mode : s.rd F.TIM_CTRL.MODE [v.die, v.u] = 0) :
    let d := v.die
    let u := v.u
    let z := s.timOf d u
    Completes (.timEventProcess d u) s fun t => t.timHeld = [] ∧
      (z.opened = none → v.e = 0 ∨ s.rd F.TIM_CTRL.SIGNED [d, u] ≠ 0 → (t.timOf d u).opened = some (v.e, v.dt, v.step) ∧
        t.rd F.TIM_STATUS.OPEN [d, u] = 1 ∧ (t.timOf d u).fifo = z.fifo) ∧
      (z.opened = none → v.e = 1 → s.rd F.TIM_CTRL.SIGNED [d, u] = 0 → s.rd F.TIM_IGN_STOP.COUNT [d, u] + 1 < 2 ^ 32 →
        (t.timOf d u).opened = none ∧ t.rd F.TIM_IGN_STOP.COUNT [d, u] = s.rd F.TIM_IGN_STOP.COUNT [d, u] + 1) ∧
      (∀ (dt0 : Instant) (k0 : Nat), z.opened = some (0, dt0, k0) → v.e = 0 → s.rd F.TIM_IGN_START.COUNT [d, u] + 1 < 2 ^ 32 →
        (t.timOf d u).opened = some (0, dt0, k0) ∧ t.rd F.TIM_IGN_START.COUNT [d, u] = s.rd F.TIM_IGN_START.COUNT [d, u] + 1) ∧
      (∀ (dt0 : Instant) (k0 : Nat), z.opened = some (0, dt0, k0) → v.e = 1 → z.fifo.length < 32 → (t.timOf d u).opened = none ∧
        ∃ r : TimResult, (t.timOf d u).fifo = z.fifo ++ [r] ∧ r.count = 0 ∧ r.first = dt0 ∧ bitAt r.flags 1 = false ∧
          r.value = spanValue (instDiff v.dt dt0) (max v.step k0)) ∧
      (∀ (dt0 : Instant) (k0 : Nat), z.opened = some (1, dt0, k0) → v.e = 0 → z.fifo.length < 32 → (t.timOf d u).opened = none ∧
        ∃ r : TimResult, (t.timOf d u).fifo = z.fifo ++ [r] ∧ r.count = 0 ∧ r.first = v.dt ∧ bitAt r.flags 1 = true ∧
          r.value = spanValue (instDiff dt0 v.dt) (max v.step k0)) ∧
      (∀ (dt0 : Instant) (k0 : Nat), z.opened = some (1 - v.e, dt0, k0) → 32 ≤ z.fifo.length → (t.timOf d u).fifo = z.fifo ∧
        (t.timOf d u).lost = true ∧ t.rd F.TIM_STATUS.FIFO_OVF [d, u] ≠ 0 ∧
        (s.rd F.TIM_STATUS.FIFO_OVF [d, u] = 0 → t.pends d 180 = true)) := by
  intro d u z
  refine timEventProcess_takes hs one ?_
  obtain ⟨hd, hu, he, -⟩ := id one
  let n : State := s.emptied.timNoted v
  have sound : n.Sound := timNoted_sound (emptied_sound hs) v
  have unit : n.timOf d u = marked z v.e v.dt := timNoted_timOf (emptied_sound hs) hd hu
  have opened : (n.timOf d u).opened = z.opened := by rw [unit, marked_opened]
  have fifo : (n.timOf d u).fifo = z.fifo := by rw [unit, marked_fifo]
  have run : s.emptied.timEvent v = n.timInterval d u v.e v.dt v.step := (timEvent_passes (takesOne_off one)).trans (measured_interval mode)
  refine ⟨timEvent_timHeld .., ?_⟩
  rw [run]
  refine ⟨fun idle first => ?_, fun idle stop unsigned below => ?_, fun dt0 k0 started start below => ?_, fun dt0 k0 started stop room => ?_,
    fun dt0 k0 started start room => ?_, fun dt0 k0 started full => ?_⟩
  · rw [timInterval_of_first (opened.trans idle) first]
    have set := timOf_setTim sound hd hu { n.timOf d u with opened := some (v.e, v.dt, v.step) }
    refine ⟨by rw [syncTim_timOf, set], ?_, by rw [syncTim_timOf, set, ← fifo]⟩
    rw [syncTim_open (setTim_sound sound d u _), timOpen, set]
    rfl
  · rw [stop, timInterval_of_stray (opened.trans idle) unsigned]
    exact ⟨opened.trans idle, count_one sound F.TIM_IGN_STOP.COUNT _ below⟩
  · rw [start, timInterval_of_again (opened.trans started)]
    exact ⟨opened.trans started, count_one sound F.TIM_IGN_START.COUNT _ below⟩
  · rw [timInterval_of_other (opened.trans started) (by rw [stop]; decide)]
    obtain ⟨r, entered, first, count, value, -, neg, -⟩ := result_room sound hd hu (z := { n.timOf d u with opened := none })
      (by rw [fifo]; exact room) dt0 v.dt (instDiff v.dt dt0) 0 (max v.step k0) (0 == 1) false
    exact ⟨congrArg Tim.opened entered, r, (congrArg Tim.fifo entered).trans (congrArg (· ++ [r]) fifo), count, first, neg, value rfl⟩
  · rw [timInterval_of_other (opened.trans started) (by rw [start]; decide)]
    obtain ⟨r, entered, first, count, value, -, neg, -⟩ := result_room sound hd hu (z := { n.timOf d u with opened := none })
      (by rw [fifo]; exact room) v.dt dt0 (instDiff dt0 v.dt) 0 (max v.step k0) (1 == 1) false
    exact ⟨congrArg Tim.opened entered, r, (congrArg Tim.fifo entered).trans (congrArg (· ++ [r]) fifo), count, first, neg, value rfl⟩
  · rw [timInterval_of_other (opened.trans started) (by omega)]
    obtain ⟨lost, flagged, told⟩ := result_full sound hd hu (z := { n.timOf d u with opened := none }) (by rw [fifo]; exact full)
      (if 1 - v.e = 0 then dt0 else v.dt) (if 1 - v.e = 0 then v.dt else dt0)
      (instDiff (if 1 - v.e = 0 then v.dt else dt0) (if 1 - v.e = 0 then dt0 else v.dt)) 0 (max v.step k0) (1 - v.e == 1) false
    exact ⟨(congrArg Tim.fifo lost).trans fifo, congrArg Tim.lost lost, flagged, told⟩

theorem timEventProcess_period {v : TimEvent} {s : State} (hs : s.Sound) (one : s.takesOne v) (mode : s.rd F.TIM_CTRL.MODE [v.die, v.u] = 1) :
    let d := v.die
    let u := v.u
    let z := s.timOf d u
    Completes (.timEventProcess d u) s fun t => t.timHeld = [] ∧
      (z.firstEdge = none → (t.timOf d u).firstEdge = some v.dt ∧ (t.timOf d u).edges = 0) ∧
      (∀ f : Instant, z.firstEdge = some f → z.edges + 1 < s.rd F.TIM_N.N [d, u] →
        (t.timOf d u).firstEdge = some f ∧ (t.timOf d u).edges = z.edges + 1 ∧ (t.timOf d u).fifo = z.fifo) ∧
      (∀ f : Instant, z.firstEdge = some f → s.rd F.TIM_N.N [d, u] ≤ z.edges + 1 → z.fifo.length < 32 →
        (t.timOf d u).firstEdge = none ∧ ∃ r : TimResult, (t.timOf d u).fifo = z.fifo ++ [r] ∧ r.first = f ∧
          r.count = s.rd F.TIM_N.N [d, u] ∧ r.value = spanValue (instSub v.dt f) (max v.step z.step)) := by
  intro d u z
  refine timEventProcess_takes hs one ?_
  obtain ⟨hd, hu, -⟩ := id one
  let n : State := s.emptied.timNoted v
  have sound : n.Sound := timNoted_sound (emptied_sound hs) v
  have unit : n.timOf d u = marked z v.e v.dt := timNoted_timOf (emptied_sound hs) hd hu
  have firstEdge : (n.timOf d u).firstEdge = z.firstEdge := by rw [unit, marked_firstEdge]
  have edges : (n.timOf d u).edges = z.edges := by rw [unit, marked_edges]
  have step : (n.timOf d u).step = z.step := by rw [unit, marked_step]
  have fifo : (n.timOf d u).fifo = z.fifo := by rw [unit, marked_fifo]
  have run : s.emptied.timEvent v = n.timPeriod d u v.dt v.step := (timEvent_passes (takesOne_off one)).trans (measured_period mode)
  refine ⟨timEvent_timHeld .., ?_⟩
  rw [run]
  refine ⟨fun idle => ?_, fun f started inner => ?_, fun f started last room => ?_⟩
  · rw [timPeriod_of_first (firstEdge.trans idle), syncTim_timOf, timOf_setTim sound hd hu]
    exact ⟨rfl, rfl⟩
  · rw [timPeriod_of_inner (firstEdge.trans started) (by rw [edges]; exact inner), timOf_setTim sound hd hu]
    exact ⟨firstEdge.trans started, congrArg (· + 1) edges, fifo⟩
  · rw [timPeriod_of_last (firstEdge.trans started) (by rw [edges]; exact last), step]
    obtain ⟨r, entered, first, count, value, -⟩ := result_room sound hd hu (z := { n.timOf d u with firstEdge := none, edges := 0 })
      (by rw [fifo]; exact room) f v.dt (instSub v.dt f) (n.rd F.TIM_N.N [d, u]) (max v.step z.step) false false
    exact ⟨congrArg Tim.firstEdge entered, r, (congrArg Tim.fifo entered).trans (congrArg (· ++ [r]) fifo), first, count, value rfl⟩

theorem timEventProcess_counts {v : TimEvent} {s : State} (hs : s.Sound) (one : s.takesOne v) :
    let d := v.die
    let u := v.u
    let z := s.timOf d u
    Completes (.timEventProcess d u) s fun t => t.timHeld = [] ∧
      (s.rd F.TIM_CTRL.MODE [d, u] = 2 → (t.timOf d u).edges = z.edges + 1 ∧
        (t.timOf d u).firstEdge = some (z.firstEdge.getD v.dt) ∧ (t.timOf d u).lastEdge = some v.dt) ∧
      (s.rd F.TIM_CTRL.MODE [d, u] = 3 → v.e = 0 → (t.timOf d u).fifo = z.fifo ∧
        t.rd F.TIM_TOTAL.COUNT [d, u] = (s.rd F.TIM_TOTAL.COUNT [d, u] + 1) % 2 ^ 64) ∧
      (s.rd F.TIM_CTRL.MODE [d, u] = 3 → v.e = 1 → z.fifo.length < 32 → t.rd F.TIM_TOTAL.COUNT [d, u] = 0 ∧
        (t.timOf d u).firstEdge = some v.dt ∧ ∃ r : TimResult, (t.timOf d u).fifo = z.fifo ++ [r] ∧
          r.count = s.rd F.TIM_TOTAL.COUNT [d, u] ∧ r.first = z.firstEdge.getD (4096 * z.enabledAt)) := by
  intro d u z
  refine timEventProcess_takes hs one ?_
  obtain ⟨hd, hu, -⟩ := id one
  let n : State := s.emptied.timNoted v
  have sound : n.Sound := timNoted_sound (emptied_sound hs) v
  have unit : n.timOf d u = marked z v.e v.dt := timNoted_timOf (emptied_sound hs) hd hu
  have firstEdge : (n.timOf d u).firstEdge = z.firstEdge := by rw [unit, marked_firstEdge]
  have enabledAt : (n.timOf d u).enabledAt = z.enabledAt := by rw [unit, marked_enabledAt]
  have edges : (n.timOf d u).edges = z.edges := by rw [unit, marked_edges]
  have fifo : (n.timOf d u).fifo = z.fifo := by rw [unit, marked_fifo]
  have passes : s.emptied.timEvent v = n.measured v := timEvent_passes (takesOne_off one)
  refine ⟨timEvent_timHeld .., fun mode => ?_, fun mode start => ?_, fun mode stop room => ?_⟩
  · rw [passes, measured_gate (s := n) mode, timGateEdge_timOf sound hd hu, firstEdge, edges]
    exact ⟨rfl, rfl, rfl⟩
  · rw [passes, measured_total (s := n) mode, start, timTotal_of_start]
    exact ⟨fifo, rd_wr_self sound.regs F.TIM_TOTAL.COUNT [d, u] _⟩
  · obtain ⟨restarted, r, entered, count, first, -⟩ := timTotal_room sound hd hu (by rw [fifo]; exact room) v.dt
    rw [passes, measured_total (s := n) mode, stop]
    refine ⟨restarted, congrArg Tim.firstEdge entered, r, (congrArg Tim.fifo entered).trans (congrArg (· ++ [r]) fifo), count, ?_⟩
    rw [first, totalFrom, firstEdge, enabledAt]

/-- A start and a stop that are both held: the start opens the interval that the stop closes (R274, R278). -/
theorem timEventProcess_orders {a b : TimEvent} {s : State} (hs : s.Sound) (hd : a.die < 2) (hu : a.u < 8) (die : b.die = a.die) (unit : b.u = a.u)
    (start : a.e = 0) (stop : b.e = 1) (ha : a.dt < 2 ^ 76) (hb : b.dt < 2 ^ 76) (later : instGe b.dt a.dt = true)
    (held : s.timHeld = [a, b] ∨ s.timHeld = [b, a]) (readyA : s.timReady a = true) (readyB : s.timReady b = true)
    (mode : s.rd F.TIM_CTRL.MODE [a.die, a.u] = 0) :
    let z := s.timOf a.die a.u
    z.opened = none → z.lastStart = none → z.lastStop = none → z.stopping = none → z.fifo.length < 32 →
    Completes (.timEventProcess a.die a.u) s fun t => t.timHeld = [] ∧ (t.timOf a.die a.u).opened = none ∧
      ∃ r : TimResult, (t.timOf a.die a.u).fifo = z.fifo ++ [r] ∧ r.first = a.dt ∧
        r.value = spanValue (instDiff b.dt a.dt) (max b.step a.step) := by
  intro z idle noStart noStop runs room
  refine completes_of_lands rfl (.inl room) ?_
  have empty := emptied_sound hs
  let n : State := s.emptied.timNoted a
  have nSound : n.Sound := timNoted_sound empty a
  have nUnit : n.timOf a.die a.u = { z with lastStart := some a.dt } := by
    rw [timNoted_timOf empty hd hu, marked, if_pos start]
    rfl
  -- The start opens a measurement.
  let m : State := s.emptied.timEvent a
  have opens : m = (n.setTim a.die a.u { n.timOf a.die a.u with opened := some (0, a.dt, a.step) }).syncTim a.die a.u := by
    have off : s.emptied.offHold a := fun l last => by
      rw [lastOf, if_pos start] at last
      exact absurd (noStart.symm.trans last) (by simp)
    show s.emptied.timEvent a = _
    rw [timEvent_passes off, measured_interval (s := n) mode, start, timInterval_of_first (by rw [nUnit]; exact idle) (.inl rfl)]
  have mSound : m.Sound := (timEvent_only _ a).sound empty
  have mUnit : m.timOf a.die a.u = { z with lastStart := some a.dt, opened := some (0, a.dt, a.step) } := by
    rw [opens, syncTim_timOf, timOf_setTim nSound hd hu, nUnit]
  have mMode : m.rd F.TIM_CTRL.MODE [a.die, a.u] = 0 := by
    rw [opens, syncTim_rd (by decide)]
    exact mode
  -- The stop closes it.
  let k : State := m.timNoted b
  have kUnit : k.timOf a.die a.u = { z with lastStart := some a.dt, lastStop := some b.dt, opened := some (0, a.dt, a.step) } := by
    have noted := timNoted_timOf mSound (v := b) (by omega) (by omega)
    rw [die, unit, mUnit, marked, if_neg (by rw [stop]; decide)] at noted
    exact noted
  have off : m.offHold b := fun l last => by
    rw [lastOf, if_neg (by rw [stop]; decide), die, unit, mUnit] at last
    exact absurd (noStop.symm.trans last) (by simp)
  have closes : m.timEvent b = k.timInterval a.die a.u 1 b.dt b.step := by
    rw [timEvent_passes off, measured_interval (s := k) (by rw [die, unit]; exact mMode), die, unit, stop]
  have whole : s.timProcess a.die a.u = m.timEvent b := by
    unfold timProcess
    dsimp only
    rw [timTake_of_pair held die unit (timOrder_of_pair start stop ha hb later) readyA readyB]
    refine on_of_false (timDrained_of_runs ?_) ..
    have kept := timEvent_stopping mSound (v := b) (by omega) (by omega)
    rw [die, unit, mUnit] at kept
    exact kept.trans runs
  rw [whole]
  refine ⟨?_, ?_⟩
  · rw [timEvent_timHeld, timEvent_timHeld]
    rfl
  · have fifo : (k.timOf a.die a.u).fifo = z.fifo := by rw [kUnit]
    rw [closes, timInterval_of_other (congrArg Tim.opened kUnit) (by decide)]
    obtain ⟨r, entered, first, -, value, -⟩ := result_room (timNoted_sound mSound b) hd hu (z := { k.timOf a.die a.u with opened := none })
      (by rw [kUnit]; exact room) a.dt b.dt (instDiff b.dt a.dt) 0 (max b.step a.step) (0 == 1) false
    exact ⟨congrArg Tim.opened entered, r, (congrArg Tim.fifo entered).trans (congrArg (· ++ [r]) fifo), first, value rfl⟩

/-- The end of a gate (R282): COUNT = n - 1 with the interval from the first edge to the last, or a result without one. -/
theorem timGateEnd_completes {d u : Nat} {s : State} (hs : s.Sound) (hd : d < 2) (hu : u < 8) :
    let z := s.timOf d u
    let e := dtAdd z.gateStart (s.rd F.TIM_GATE.US [d, u] * 160000)
    let runs := s.rd F.TIM_CTRL.EN [d, u] ≠ 0 ∧ s.rd F.TIM_CTRL.MODE [d, u] = 2 ∧ s.dueOn d e = true
    (¬runs → z.fifo.length < 32 ∨ s.closing = true → Completes (.timGateEnd d u) s fun t => t = s) ∧
    (runs → (∀ v ∈ s.timHeld, v.die = d → v.u = u → instGe v.dt (4096 * e) = true) → z.fifo.length < 32 →
      Completes (.timGateEnd d u) s fun t => (t.timOf d u).gateStart = e ∧ (t.timOf d u).edges = 0 ∧ t.timHeld = s.timHeld ∧
        ∃ r : TimResult, (t.timOf d u).fifo = z.fifo ++ [r] ∧
          (z.edges < 2 → r.count = 0 ∧ r.value = 0 ∧ bitAt r.flags 3 = true) ∧
          (∀ x y : Instant, 2 ≤ z.edges → z.firstEdge = some x → z.lastEdge = some y → r.count = z.edges - 1 ∧ r.first = x ∧
            bitAt r.flags 3 = false ∧ r.value = spanValue (instSub y x) z.step)) := by
  intro z e runs
  have test : (!s.isSet F.TIM_CTRL.EN [d, u] || s.rd F.TIM_CTRL.MODE [d, u] != 2 || !s.dueOn d e) = true ↔ ¬runs := by
    simp only [runs, isSet, Bool.or_eq_true, Bool.not_eq_true', bne_eq_false_iff_eq, bne_iff_ne, ne_eq]
    rw [← Bool.not_eq_true]
    tauto
  refine ⟨fun waits lands => ?_, fun goes later room => ?_⟩
  · exact completes_of_lands rfl lands (if_pos (test.mpr waits))
  · refine completes_of_lands rfl (.inl room) ?_
    let last := z.lastEdge.getD (z.firstEdge.getD (4096 * z.gateStart))
    let first := z.firstEdge.getD (4096 * z.gateStart)
    let few : Bool := z.edges < 2
    let next : Tim := { z with firstEdge := none, lastEdge := none, edges := 0, step := 0, gateStart := e }
    have none : s.timTake d u (fun v => !instGe v.dt (4096 * e)) = s :=
      timTake_of_none fun v hv h => by simp [later v hv h.1 h.2.1] at h
    have run : s.timGateEnd d u = ((s.setTim d u next).timResult d u first last (if z.edges < 2 then 0 else (instSub last first : Nat))
        (if z.edges < 2 then 0 else z.edges - 1) z.step false few).syncTim d u := by
      unfold timGateEnd
      dsimp only
      rw [show s.gateEnd d u = e from rfl, if_neg fun h => test.mp h goes]
      show ((State.setTim (s.timTake d u fun v => !instGe v.dt (4096 * e)) d u _).timResult _ _ _ _ _ _ _ _ _).syncTim d u = _
      rw [none]
    rw [run]
    obtain ⟨r, entered, start, count, value, noValue, -, flag⟩ := result_room hs hd hu (z := next) room first last
      (if z.edges < 2 then 0 else (instSub last first : Nat)) (if z.edges < 2 then 0 else z.edges - 1) z.step false few
    refine ⟨congrArg Tim.gateStart entered, congrArg Tim.edges entered, ?_, r, congrArg Tim.fifo entered, fun below => ?_,
      fun x y enough hx hy => ?_⟩
    · rw [syncTim_timHeld]
      exact (timResult_only ..).parts .timHeld (by decide +kernel)
    · rw [if_pos below] at count noValue
      exact ⟨count, noValue (decide_eq_true below), flag.trans (decide_eq_true below)⟩
    · have many : ¬z.edges < 2 := Nat.not_lt.mpr enough
      have hfirst : first = x := by simp only [first, hx, Option.getD_some]
      have hlast : last = y := by simp only [last, hy, Option.getD_some]
      rw [if_neg many] at count value
      rw [hfirst, hlast] at value
      exact ⟨count, start.trans hfirst, flag.trans (decide_eq_false many), value (decide_eq_false many)⟩

end Sys2Proof.Machine
end

section
/-!
PROOFS. The enable and the disable of a time-interval unit, its cues, and the read of its FIFO (R275, R276, R286).
-/

namespace Sys2Proof.Machine

-- One proof at a time: proofs elaborated side by side ask for more memory than a compile of the whole text may take.
set_option Elab.async false

/-- The footprint of everything but what the block handled follows from. -/
def Foot.clock : Foot := Foot.without Reg.ofClock [.mode, .dt]

/-- The footprint of everything but what the enable checks, the admission and the clock read beside TIM_CTRL. -/
def Foot.enabling : Foot := Foot.without ([.TIM_START_SRC, .TIM_STOP_SRC, .TIM_N, .TIM_GATE, .PWR_STATUS] ++ Reg.ofClock) [.mode, .dt, .now, .closing]

/-- The footprint of everything but that and TIM_CTRL. -/
def Foot.settings : Foot := Foot.without ([.TIM_CTRL, .TIM_START_SRC, .TIM_STOP_SRC, .TIM_N, .TIM_GATE, .PWR_STATUS] ++ Reg.ofClock)
  [.mode, .dt, .now, .closing]

namespace State

-- The block that comes next (R40) ---------------------------------------------------------------------------------------------------------

theorem nextBlk_congr {s t : State} (hm : t.mode = s.mode) (hd : t.dt = s.dt) (hr : ∀ k : RegKey, k.reg ∈ Reg.ofClock → t.regs.get k = s.regs.get k)
    (d : Nat) : t.nextBlk d = s.nextBlk d := by
  have same : ∀ {f : Fld}, f.reg ∈ Reg.ofClock → ∀ ix, t.rd f ix = s.rd f ix := fun hf _ => hr _ hf
  have sets : ∀ {f : Fld}, f.reg ∈ Reg.ofClock → ∀ ix, t.isSet f ix = s.isSet f ix := fun hf ix => congrArg (· != 0) (same hf ix)
  have grid : t.offGrid d = s.offGrid d := by simp (disch := decide) only [offGrid, fractional, sets, same]
  have offset : t.offsetNow d = s.offsetNow d := by simp (disch := decide) only [offsetNow, rampCycles, sets, same]
  have rate : t.clkRate d = s.clkRate d := by
    unfold clkRate fractional
    rw [offset, same (by decide), same (by decide), sets (by decide)]
  have inst : ∀ c, t.instOf d c = s.instOf d c := fun c => by simp (disch := decide) only [instOf, grid, rate, dtInst, hd, same]
  simp (disch := decide) only [nextBlk, blkSpan, grid, inst, blk, hm, hd, same]

/-- An operation that leaves the clock leaves the block handled and the next one. -/
theorem blocks_of_within {s t : State} (w : Within Foot.clock s t) (d : Nat) : t.blkOf d = s.blkOf d ∧ t.nextBlk d = s.nextBlk d := by
  have mode : t.mode = s.mode := w.parts .mode (by decide +kernel)
  have dt : t.dt = s.dt := w.parts .dt (by decide +kernel)
  have regs : ∀ k : RegKey, k.reg ∈ Reg.ofClock → t.regs.get k = s.regs.get k := fun k hk => w.regs k (by
    generalize k.reg = r at hk
    revert r
    decide +kernel)
  exact ⟨blkOf_congr mode dt regs d, nextBlk_congr mode dt regs d⟩

-- The fields of TIM_CTRL but EN (R276) ---------------------------------------------------------------------------------------------------

theorem timEvent_settings {s₀ s : State} (h : Within Foot.settings s₀ s) (v : TimEvent) : Within Foot.settings s₀ (s.timEvent v) := by
  rw [timEvent_eq]
  have noted : Within Foot.settings s₀ (s.timNoted v) := setTim_within (by decide +kernel) h ..
  refine .ite (count_within (by decide +kernel) h _ _ _ (by decide +kernel)) ?_
  unfold measured
  split
  · exact timInterval_within (by decide +kernel) noted ..
  · exact timPeriod_within (by decide +kernel) noted ..
  · exact timGateEdge_within (by decide +kernel) noted ..
  · exact timTotal_within (by decide +kernel) noted ..

theorem timTake_settings {s₀ s : State} (h : Within Foot.settings s₀ s) (d u : Nat) (p : TimEvent → Bool) :
    Within Foot.settings s₀ (s.timTake d u p) := by
  unfold timTake
  exact (Within.set_timHeld h _ (by decide +kernel)).each fun _ v hu => timEvent_settings hu v

theorem timFinish_only (s : State) (d u : Nat) : Within Foot.settings s (s.timFinish d u) := by
  unfold timFinish
  split
  · exact .refl _ s
  next tick _ _ =>
    have taken := timTake_settings (.refl _ s) d u fun _ => true
    have ended := Within.on (b := (s.timTake d u fun _ => true).rd F.TIM_CTRL.MODE [d, u] == 3) (f := fun s => s.timTotal d u 1 (4096 * tick))
      taken fun _ hu => timTotal_within (by decide +kernel) hu ..
    exact (syncTim_within (by decide +kernel) (setTim_within (by decide +kernel) ended ..) ..).wr _ _ _ (by decide +kernel)

theorem timFinish_of_runs {s : State} {d u : Nat} (runs : (s.timOf d u).stopping = none) : s.timFinish d u = s := by
  unfold timFinish
  rw [runs]

/-- After its last events a unit is not being disabled any more. -/
theorem timFinish_stopping {s : State} (hs : s.Sound) {d u : Nat} (hd : d < 2) (hu : u < 8) : ((s.timFinish d u).timOf d u).stopping = none := by
  cases stops : (s.timOf d u).stopping with
  | none => rw [timFinish_of_runs stops, stops]
  | some p =>
    unfold timFinish
    rw [stops]
    dsimp only
    rw [wr_timOf, syncTim_timOf, timOf_setTim ?_ hd hu]
    · rfl
    · refine (Within.on (M := 2 ^ 700 - 1) (.refl _ _) fun _ hw => timTotal_within (by decide +kernel) hw ..).sound ?_
      exact (timTake_within (M := 2 ^ 700 - 1) (by decide +kernel) (.refl _ s) ..).sound hs

/-- RES_EVT_EN is written in any case. -/
def ctrlTold (d u v : Nat) (s : State) : State := (s.timFinish d u).wr F.TIM_CTRL.RES_EVT_EN [d, u] (slice v 4 1)

theorem ctrlTold_sound {s : State} (hs : s.Sound) (d u v : Nat) : (ctrlTold d u v s).Sound := Sound.wr ((s.timFinish_only d u).sound hs)

theorem ctrlTold_ctrl {f : Fld} (hr : f.reg = .TIM_CTRL) (hl : f.lo ≠ F.TIM_CTRL.RES_EVT_EN.lo) (s : State) (d u v : Nat) (ix : List Nat) :
    (ctrlTold d u v s).rd f ix = s.rd f ix :=
  (rd_wr_of_lo hl ..).trans ((s.timFinish_only d u).rd _ _ (by rw [hr]; decide +kernel))

theorem ctrlTold_event {s : State} (hs : s.Sound) (d u v : Nat) : (ctrlTold d u v s).rd F.TIM_CTRL.RES_EVT_EN [d, u] = v / 16 % 2 :=
  rd_wr_self_of_lt ((s.timFinish_only d u).sound hs) _ _ (Nat.mod_lt _ (by decide))

@[simp] theorem ctrlTold_timOf (s : State) (d u v e k : Nat) : (ctrlTold d u v s).timOf e k = (s.timFinish d u).timOf e k := rfl

/-- While the unit is enabled no other field is written: MODE and SIGNED as they are, or the write is ignored. -/
theorem writeTimCtrl_of_enabled {s : State} {d u v : Nat} (enabled : s.rd F.TIM_CTRL.EN [d, u] ≠ 0) :
    (writeTimCtrl d u v s).1 = if s.rd F.TIM_CTRL.MODE [d, u] = slice v 1 2 ∧ s.rd F.TIM_CTRL.SIGNED [d, u] = slice v 3 1 then ctrlTold d u v s
      else (ctrlTold d u v s).flag F.TIM_STATUS.CFG_REJECT [d, u] := by
  have set : (ctrlTold d u v s).isSet F.TIM_CTRL.EN [d, u] = true := by
    rw [isSet, ctrlTold_ctrl rfl (by decide)]
    exact bne_iff_ne.mpr enabled
  have mode := ctrlTold_ctrl (f := F.TIM_CTRL.MODE) rfl (by decide) s d u v [d, u]
  have sign := ctrlTold_ctrl (f := F.TIM_CTRL.SIGNED) rfl (by decide) s d u v [d, u]
  unfold writeTimCtrl
  extract_lets a
  rw [if_pos (show a.isSet F.TIM_CTRL.EN [d, u] = true from set), show a.rd F.TIM_CTRL.MODE [d, u] = _ from mode,
    show a.rd F.TIM_CTRL.SIGNED [d, u] = _ from sign]
  split <;> rfl

/-- The fields of a unit that is not enabled. -/
theorem writeTimCtrl_of_disabled {s : State} {d u v : Nat} (disabled : s.rd F.TIM_CTRL.EN [d, u] = 0) :
    (writeTimCtrl d u v s).1 = ((ctrlTold d u v s).wr F.TIM_CTRL.MODE [d, u] (slice v 1 2)).wr F.TIM_CTRL.SIGNED [d, u] (slice v 3 1) := by
  have clear : (ctrlTold d u v s).isSet F.TIM_CTRL.EN [d, u] = false := by
    rw [isSet, ctrlTold_ctrl rfl (by decide), disabled]
    rfl
  unfold writeTimCtrl
  extract_lets a
  rw [if_neg (by rw [show a.isSet F.TIM_CTRL.EN [d, u] = false from clear]; decide)]
  rfl

/-- What the write shows of a unit that is not enabled. -/
theorem ctrlWritten_shows {s : State} (hs : s.Sound) {d u : Nat} (v : Nat) (disabled : s.rd F.TIM_CTRL.EN [d, u] = 0) :
    let t := (writeTimCtrl d u v s).1
    t.Sound ∧ t.rd F.TIM_CTRL.EN [d, u] = 0 ∧ t.rd F.TIM_CTRL.MODE [d, u] = v / 2 % 4 ∧ t.rd F.TIM_CTRL.SIGNED [d, u] = v / 8 % 2 ∧
      t.rd F.TIM_CTRL.RES_EVT_EN [d, u] = v / 16 % 2 ∧ t.timOf d u = (s.timFinish d u).timOf d u := by
  intro t
  have run : t = ((ctrlTold d u v s).wr F.TIM_CTRL.MODE [d, u] (slice v 1 2)).wr F.TIM_CTRL.SIGNED [d, u] (slice v 3 1) :=
    writeTimCtrl_of_disabled disabled
  have told := ctrlTold_sound hs d u v
  rw [run]
  refine ⟨told.wr.wr, ?_, ?_, ?_, ?_, rfl⟩
  · rw [rd_wr_of_lo (by decide), rd_wr_of_lo (by decide), ctrlTold_ctrl rfl (by decide), disabled]
  · rw [rd_wr_of_lo (by decide), rd_wr_self told.regs]
    exact Nat.mod_mod _ _
  · rw [rd_wr_self told.wr.regs]
    exact Nat.mod_mod _ _
  · rw [rd_wr_of_lo (by decide), rd_wr_of_lo (by decide), ctrlTold_event hs]

/-- The write leaves what the enable checks and the admission read beside TIM_CTRL. -/
theorem writeTimCtrl_only (s : State) (d u v : Nat) : Within Foot.enabling s (writeTimCtrl d u v s).1 := by
  have told : Within Foot.enabling s (ctrlTold d u v s) := ((s.timFinish_only d u).mono (by decide +kernel)).wr _ _ _ (by decide +kernel)
  by_cases disabled : s.rd F.TIM_CTRL.EN [d, u] = 0
  · rw [writeTimCtrl_of_disabled disabled]
    exact (told.wr _ _ _ (by decide +kernel)).wr _ _ _ (by decide +kernel)
  · rw [writeTimCtrl_of_enabled disabled]
    exact .ite told (flag_within (by decide +kernel) told _ _ (by decide +kernel))

-- The enable checks (R276) -------------------------------------------------------------------------------------------------------------------

/-- A source that a start input may name and that no spare replaces. -/
def freeSource (x : Nat) : Prop := 0x10 ≤ x ∧ x ≤ 0x1F ∨ 0x22 ≤ x ∧ x ≤ 0x2B ∨ 0x40 ≤ x ∧ x ≤ 0x4B ∨ x = 0x50

theorem freeSource_known {x : Nat} (h : freeSource x) : timSrcReserved x false = false ∧ x ≠ 0x20 ∧ x ≠ 0x21 := by
  unfold freeSource at h
  refine ⟨?_, by omega, by omega⟩
  simp only [timSrcReserved, Bool.not_eq_false', Bool.or_eq_true, Bool.and_eq_true, decide_eq_true_eq, beq_iff_eq, Bool.false_eq_true]
  omega

section
variable {s : State} {d u : Nat}

theorem timCheck_of_mode (idle : ¬(s.mode = .ready ∨ s.mode.acquires = true)) : s.timCheck d u = 0x0220 := by
  unfold timCheck
  exact if_pos (by simpa using idle)

variable (may : s.mode = .ready ∨ s.mode.acquires = true)
include may

theorem timCheck_of_reserved (reserved : timSrcReserved (s.rd F.TIM_START_SRC.SRC [d, u]) false = true) : s.timCheck d u = 0x01A0 := by
  unfold timCheck
  extract_lets m gate stop retired
  rw [if_neg (by rcases may with h | h <;> simp [h]), if_pos (by simp [reserved])]

theorem timCheck_of_noStop (mode : s.rd F.TIM_CTRL.MODE [d, u] = 0) (stop : s.rd F.TIM_STOP_SRC.SRC [d, u] = 0xFF) : s.timCheck d u = 0x01A0 := by
  unfold timCheck
  extract_lets m gate x retired
  have none : timSrcReserved x false = true := by
    rw [show x = 0xFF from stop]
    decide
  rw [if_neg (by rcases may with h | h <;> simp [h]), if_pos (by simp [none, show m = 0 from mode])]

variable (good : freeSource (s.rd F.TIM_START_SRC.SRC [d, u]))
include good

/-- The checks of a mode without a stop input go on to its count and its gate. -/
theorem timCheck_of_source {k : Nat} (mode : s.rd F.TIM_CTRL.MODE [d, u] = k) (single : k = 1 ∨ k = 2) : s.timCheck d u =
    if ((k == 1 && !s.isSet F.TIM_N.N [d, u]) || (k == 2 && !(decide (1 ≤ s.rd F.TIM_GATE.US [d, u]) && decide (s.rd F.TIM_GATE.US [d, u] ≤ 100000000))))
    then 0x01A1 else 0 := by
  obtain ⟨known, notA, notB⟩ := freeSource_known good
  unfold timCheck
  extract_lets m gate stop retired
  have free : retired (s.rd F.TIM_START_SRC.SRC [d, u]) = false := by simp [retired, notA, notB]
  rw [if_neg (by rcases may with h | h <;> simp [h]), if_neg (by rcases single with h | h <;> simp [free, known, show m = k from mode, h]), show m = k from mode]

theorem timCheck_of_noCount (mode : s.rd F.TIM_CTRL.MODE [d, u] = 1) (zero : s.rd F.TIM_N.N [d, u] = 0) : s.timCheck d u = 0x01A1 := by
  rw [timCheck_of_source may good mode (.inl rfl)]
  exact if_pos (by simp [isSet, zero])

theorem timCheck_of_noGate (mode : s.rd F.TIM_CTRL.MODE [d, u] = 2) (outside : s.rd F.TIM_GATE.US [d, u] = 0 ∨ 100000000 < s.rd F.TIM_GATE.US [d, u]) :
    s.timCheck d u = 0x01A1 := by
  rw [timCheck_of_source may good mode (.inr rfl)]
  refine if_pos ?_
  rcases outside with h | h
  · simp [h]
  · simp [Nat.not_le.mpr h]

end

-- The request (R276, R376) -----------------------------------------------------------------------------------------------------------------------

theorem requestTim_of_enabled {s : State} {d u : Nat} (enabled : s.rd F.TIM_CTRL.EN [d, u] ≠ 0) (cmd : Option (MbxHdr × Nat)) :
    (s.requestTim d u cmd).1 = s := by
  unfold requestTim
  rw [if_pos (by simpa [isSet] using enabled)]

/-- A failed check leaves EN and shows its code. -/
theorem requestTim_of_refused {s : State} (hs : s.Sound) {d u k : Nat} (disabled : s.rd F.TIM_CTRL.EN [d, u] = 0) (check : s.timCheck d u = k)
    (fails : k ≠ 0) (small : k < 2 ^ 16) (cmd : Option (MbxHdr × Nat)) :
    (s.requestTim d u cmd).1.rd F.TIM_CTRL.EN [d, u] = 0 ∧ (s.requestTim d u cmd).1.rd F.TIM_STATUS.EN_CHECK [d, u] = k := by
  have run : (s.requestTim d u cmd).1 = s.wr F.TIM_STATUS.EN_CHECK [d, u] k := by
    unfold requestTim
    rw [if_neg (by simp [isSet, disabled]), check]
    dsimp only
    rw [if_pos fails]
  rw [run]
  exact ⟨(rd_wr_of_reg (by decide) ..).trans disabled, rd_wr_self_of_lt hs _ _ small⟩

/-- An admission that fits the shares is granted and charged, at whatever rate it draws (R376). -/
theorem harvest_of_room {s : State} {d e : Nat} {dies : List Nat} {dp : State → Int} (cool : s.rd F.PWR_STATUS.THERMAL [d] = 0)
    (fits : s.fits dies (dp s) e = true) (r : Request) (maint : Bool) (cmd : Option (MbxHdr × Nat)) :
    s.harvest d dies dp e r maint cmd = (s.charge dies (dp s) e, .granted) := by
  have hot : s.isSet F.PWR_STATUS.THERMAL [d] = false := by simp [isSet, cool]
  rw [harvest, hot, if_neg Bool.false_ne_true, if_pos fits]

/-- What the admission charges leaves the units and the clock. -/
theorem charge_units (s : State) (dies : List Nat) (dp : Int) (e : Nat) :
    Within (Foot.without Reg.ofClock [.mode, .dt, .tims]) s (s.charge dies dp e) := charge_within (by decide +kernel) (.refl _ s) ..

theorem requestTim_of_granted {s : State} {d u : Nat} (disabled : s.rd F.TIM_CTRL.EN [d, u] = 0) (check : s.timCheck d u = 0)
    (cool : s.rd F.PWR_STATUS.THERMAL [d] = 0) (fits : s.fits [d] (s.cost 9) 0 = true) (cmd : Option (MbxHdr × Nat)) :
    (s.requestTim d u cmd).1 = (s.charge [d] (s.cost 9) 0).timStart d u ((s.charge [d] (s.cost 9) 0).nextBlk d) := by
  unfold requestTim
  rw [if_neg (by simp [isSet, disabled]), check]
  dsimp only
  rw [if_neg (by decide), harvest_of_room (dp := fun s => (s.cost 9 : Int)) cool fits]

/-- A unit that starts: its FIFO stays, its count starts at 0, and nothing is open (R276). -/
theorem timStart_shows {s : State} (hs : s.Sound) {d u : Nat} (hd : d < 2) (hu : u < 8) (runs : (s.timOf d u).stopping = none) (tick : Nat) :
    let t := s.timStart d u tick
    t.rd F.TIM_CTRL.EN [d, u] = 1 ∧ t.rd F.TIM_STATUS.EN_CHECK [d, u] = 0 ∧ t.rd F.TIM_TOTAL.COUNT [d, u] = 0 ∧
      t.timOf d u = { Tim.idle with enabledAt := tick, gateStart := tick, fifo := (s.timOf d u).fifo } ∧
      (∀ f : Fld, f.reg = .TIM_CTRL → f.lo ≠ F.TIM_CTRL.EN.lo → t.rd f [d, u] = s.rd f [d, u]) := by
  intro t
  let a : State := s.setTim d u { Tim.idle with enabledAt := tick, gateStart := tick, fifo := (s.timOf d u).fifo }
  have sound : a.Sound := setTim_sound hs ..
  have run : t = (((a.wr F.TIM_CTRL.EN [d, u] 1).wr F.TIM_TOTAL.COUNT [d, u] 0).wr F.TIM_STATUS.EN_CHECK [d, u] 0).syncTim d u := by
    show s.timStart d u tick = _
    unfold timStart
    dsimp only
    rw [timFinish_of_runs runs]
  rw [run]
  refine ⟨?_, ?_, ?_, ?_, fun f hr hl => ?_⟩
  · rw [syncTim_rd (by decide), rd_wr_of_reg (by decide), rd_wr_of_reg (by decide), rd_wr_self_of_lt sound _ _ (by decide)]
  · rw [syncTim_status (by decide) (by decide) (by decide), rd_wr_self sound.wr.wr.regs]
    exact Nat.zero_mod _
  · rw [syncTim_rd (by decide), rd_wr_of_reg (by decide), rd_wr_self sound.wr.regs]
    exact Nat.zero_mod _
  · rw [syncTim_timOf, wr_timOf, wr_timOf, wr_timOf]
    exact timOf_setTim hs hd hu _
  · rw [syncTim_rd (by rw [hr]; decide), rd_wr_of_reg (by rw [hr]; decide), rd_wr_of_reg (by rw [hr]; decide), rd_wr_of_lo hl]
    rfl

/-- The request leaves every field of TIM_CTRL but EN. -/
theorem requestTim_ctrl {s : State} (hs : s.Sound) {d u : Nat} (hd : d < 2) (hu : u < 8) (runs : (s.timOf d u).stopping = none) {f : Fld}
    (hr : f.reg = .TIM_CTRL) (hl : f.lo ≠ F.TIM_CTRL.EN.lo) (cmd : Option (MbxHdr × Nat)) :
    (s.requestTim d u cmd).1.rd f [d, u] = s.rd f [d, u] := by
  unfold requestTim
  split
  · rfl
  dsimp only
  split
  · exact rd_wr_of_reg (by rw [hr]; decide) ..
  let h := s.harvest d [d] (fun s => (s.cost 9 : Int)) 0 (.timEnable d u) false cmd
  have decided : Within (Foot.without [.TIM_CTRL] [.tims]) s h.1 := harvest_within (by decide +kernel) (.refl _ s) ..
  have same : h.1.rd f [d, u] = s.rd f [d, u] := decided.rd _ _ (by rw [hr]; decide +kernel)
  have noted : ∀ k, (h.1.wr F.TIM_STATUS.EN_CHECK [d, u] k).rd f [d, u] = s.rd f [d, u] := fun k =>
    (rd_wr_of_reg (by rw [hr]; decide) ..).trans same
  have starts : (h.1.timStart d u (h.1.nextBlk d)).rd f [d, u] = s.rd f [d, u] := by
    obtain ⟨-, -, -, -, others⟩ := timStart_shows (decided.sound hs) hd hu
      ((congrArg Tim.stopping (timOf_congr (decided.parts .tims (by decide +kernel)) d u)).trans runs) (h.1.nextBlk d)
    exact (others f hr hl).trans same
  split
  · exact starts
  · exact starts
  · exact noted _
  · exact noted _

end State

end Sys2Proof.Machine
end

section
/-!
PROOFS. What the commands that enable, disable, cue and read a time-interval unit complete with (R275, R276, R286).
-/

namespace Sys2Proof.Machine

-- One proof at a time: proofs elaborated side by side ask for more memory than a compile of the whole text may take.
set_option Elab.async false

open State

-- Enable (R276) ----------------------------------------------------------------------------------------------------------------------------

theorem timCtrlEnable_of_enabled {d u v : Nat} {s : State} (hs : s.Sound) (reach : s.hostReach d = true) (enable : v % 2 = 1)
    (enabled : s.rd F.TIM_CTRL.EN [d, u] ≠ 0) : Completes (.timCtrlEnable d u v) s fun t =>
      t.rd F.TIM_CTRL.EN [d, u] = s.rd F.TIM_CTRL.EN [d, u] ∧ t.rd F.TIM_CTRL.MODE [d, u] = s.rd F.TIM_CTRL.MODE [d, u] ∧
      t.rd F.TIM_CTRL.RES_EVT_EN [d, u] = v / 16 % 2 ∧ (v / 2 % 4 ≠ s.rd F.TIM_CTRL.MODE [d, u] → t.rd F.TIM_STATUS.CFG_REJECT [d, u] = 1) := by
  let a : State := ctrlTold d u v s
  let w : State := (writeTimCtrl d u v s).1
  have sound : a.Sound := ctrlTold_sound hs d u v
  have ctrl : ∀ f : Fld, f.reg = .TIM_CTRL → w.rd f [d, u] = a.rd f [d, u] := fun f hr => by
    show (writeTimCtrl d u v s).1.rd f [d, u] = _
    rw [writeTimCtrl_of_enabled enabled]
    split
    · rfl
    · rw [flag_rd, rd_wr_of_reg (by rw [hr]; decide)]
  have en : w.rd F.TIM_CTRL.EN [d, u] = s.rd F.TIM_CTRL.EN [d, u] := (ctrl _ rfl).trans (ctrlTold_ctrl rfl (by decide) ..)
  have run : exec (.timCtrlEnable d u v) s = .next w := by
    refine congrArg Host.Outcome.next ((hostWrite_of_reach reach _).trans ?_)
    exact (on_of_true (by simp [bitAt, enable]) w _).trans (requestTim_of_enabled (by rw [en]; exact enabled) none)
  refine ⟨w, run, en, (ctrl _ rfl).trans (ctrlTold_ctrl rfl (by decide) ..), (ctrl _ rfl).trans (ctrlTold_event hs d u v), fun change => ?_⟩
  show (writeTimCtrl d u v s).1.rd F.TIM_STATUS.CFG_REJECT [d, u] = 1
  rw [writeTimCtrl_of_enabled enabled, if_neg fun same => change same.1.symm, flag_rd]
  exact rd_wr_self_of_lt sound _ _ (by decide)

theorem timCtrlEnable_of_disabled {d u v : Nat} {s : State} (hs : s.Sound) (hd : d < 2) (hu : u < 8) (reach : s.hostReach d = true)
    (enable : v % 2 = 1) (disabled : s.rd F.TIM_CTRL.EN [d, u] = 0) :
    let m := v / 2 % 4
    let src := s.rd F.TIM_START_SRC.SRC [d, u]
    let stop := s.rd F.TIM_STOP_SRC.SRC [d, u]
    let mayRun := s.mode = .ready ∨ s.mode.acquires = true
    let s' := (State.writeTimCtrl d u v s).1
    Completes (.timCtrlEnable d u v) s fun t => t.rd F.TIM_CTRL.MODE [d, u] = m ∧
      t.rd F.TIM_CTRL.SIGNED [d, u] = v / 8 % 2 ∧ t.rd F.TIM_CTRL.RES_EVT_EN [d, u] = v / 16 % 2 ∧
      (¬mayRun → t.rd F.TIM_CTRL.EN [d, u] = 0 ∧ t.rd F.TIM_STATUS.EN_CHECK [d, u] = 0x0220) ∧
      (mayRun → State.timSrcReserved src false = true → t.rd F.TIM_CTRL.EN [d, u] = 0 ∧ t.rd F.TIM_STATUS.EN_CHECK [d, u] = 0x01A0) ∧
      (mayRun → freeSource src → m = 0 → stop = 0xFF → t.rd F.TIM_CTRL.EN [d, u] = 0 ∧ t.rd F.TIM_STATUS.EN_CHECK [d, u] = 0x01A0) ∧
      (mayRun → freeSource src → m = 1 → s.rd F.TIM_N.N [d, u] = 0 → t.rd F.TIM_CTRL.EN [d, u] = 0 ∧
        t.rd F.TIM_STATUS.EN_CHECK [d, u] = 0x01A1) ∧
      (mayRun → freeSource src → m = 2 → s.rd F.TIM_GATE.US [d, u] = 0 ∨ 100000000 < s.rd F.TIM_GATE.US [d, u] →
        t.rd F.TIM_CTRL.EN [d, u] = 0 ∧ t.rd F.TIM_STATUS.EN_CHECK [d, u] = 0x01A1) ∧
      (s'.timCheck d u = 0 → s.rd F.PWR_STATUS.THERMAL [d] = 0 → s'.fits [d] (s'.cost 9) 0 = true →
        t.rd F.TIM_CTRL.EN [d, u] = 1 ∧ t.rd F.TIM_STATUS.EN_CHECK [d, u] = 0 ∧ t.rd F.TIM_TOTAL.COUNT [d, u] = 0 ∧
        (t.timOf d u).enabledAt = s.nextBlk d ∧ (t.timOf d u).opened = none ∧
        (t.timOf d u).fifo = ((s.timFinish d u).timOf d u).fifo) := by
  intro m src stop mayRun s'
  obtain ⟨sound, en, mode, signed, event, unit⟩ := ctrlWritten_shows hs v disabled
  have only := writeTimCtrl_only s d u v
  have modes : s'.mode = s.mode := only.parts .mode (by decide +kernel)
  have kept : ∀ f : Fld, f.reg ∈ [Reg.TIM_START_SRC, .TIM_STOP_SRC, .TIM_N, .TIM_GATE, .PWR_STATUS] → ∀ ix, s'.rd f ix = s.rd f ix :=
    fun f hf ix => only.rd f ix (by
      generalize f.reg = r at hf
      revert r
      decide +kernel)
  have run : exec (.timCtrlEnable d u v) s = .next (s'.requestTim d u none).1 :=
    congrArg Host.Outcome.next ((hostWrite_of_reach reach _).trans (on_of_true (by simp [bitAt, enable]) s' _))
  -- The request leaves the other fields of TIM_CTRL: it only sets EN.
  have others : ∀ f : Fld, f.reg = .TIM_CTRL → f.lo ≠ F.TIM_CTRL.EN.lo → (s'.requestTim d u none).1.rd f [d, u] = s'.rd f [d, u] := fun f hr hl =>
    requestTim_ctrl sound hd hu (by rw [unit]; exact timFinish_stopping hs hd hu) hr hl none
  have refused : ∀ k, k ≠ 0 → k < 2 ^ 16 → s'.timCheck d u = k → (s'.requestTim d u none).1.rd F.TIM_CTRL.EN [d, u] = 0 ∧
      (s'.requestTim d u none).1.rd F.TIM_STATUS.EN_CHECK [d, u] = k := fun k fails small check =>
    requestTim_of_refused sound en check fails small none
  have src' : s'.rd F.TIM_START_SRC.SRC [d, u] = src := kept _ (by decide) _
  refine ⟨_, run, (others _ rfl (by decide)).trans mode, (others _ rfl (by decide)).trans signed, (others _ rfl (by decide)).trans event,
    fun idle => ?_, fun may reserved => ?_, fun may good hm none => ?_, fun may good hm zero => ?_, fun may good hm outside => ?_,
    fun check cool fits => ?_⟩
  · exact refused _ (by decide) (by decide) (timCheck_of_mode (by rw [modes]; exact idle))
  · exact refused _ (by decide) (by decide) (timCheck_of_reserved (by rw [modes]; exact may) (by rw [src']; exact reserved))
  · exact refused _ (by decide) (by decide) (timCheck_of_noStop (by rw [modes]; exact may) (mode.trans hm) ((kept _ (by decide) _).trans none))
  · exact refused _ (by decide) (by decide)
      (timCheck_of_noCount (by rw [modes]; exact may) (by rw [src']; exact good) (mode.trans hm) ((kept _ (by decide) _).trans zero))
  · exact refused _ (by decide) (by decide)
      (timCheck_of_noGate (by rw [modes]; exact may) (by rw [src']; exact good) (mode.trans hm) (by rw [kept _ (by decide)]; exact outside))
  · have granted := requestTim_of_granted en check ((kept _ (by decide) _).trans cool) fits none
    let c : State := s'.charge [d] (s'.cost 9) 0
    have charged := charge_units s' [d] (s'.cost 9) 0
    have units : c.timOf d u = (s.timFinish d u).timOf d u := (timOf_congr (charged.parts .tims (by decide +kernel)) d u).trans unit
    have tick : c.nextBlk d = s.nextBlk d :=
      (blocks_of_within (charged.mono (by decide +kernel)) d).2.trans (blocks_of_within (only.mono (by decide +kernel)) d).2
    obtain ⟨one, zero, count, starts, -⟩ := timStart_shows (charged.sound sound) hd hu (by rw [units]; exact timFinish_stopping hs hd hu) (c.nextBlk d)
    rw [granted]
    refine ⟨one, zero, count, ?_, ?_, ?_⟩
    · rw [starts, tick]
    · rw [starts]
      rfl
    · rw [starts, units]

-- Disable (R276) ---------------------------------------------------------------------------------------------------------------------------

/-- A request for a stop withdraws what waits, and leaves the unit and its registers otherwise. -/
theorem withdrawWith_units (s : State) (code : Nat) (p : Deferred → Bool) :
    Within (Foot.without [.TIM_CTRL, .TIM_STATUS] [.tims, .timHeld]) s (s.withdrawWith code p) := withdrawWith_within (by decide +kernel) (.refl _ s) ..

theorem timCtrlDisable_of_disabled {d u v : Nat} {s : State} (hs : s.Sound) (reach : s.hostReach d = true) (disable : v % 2 = 0)
    (disabled : s.rd F.TIM_CTRL.EN [d, u] = 0) : Completes (.timCtrlDisable d u v) s fun t => t.rd F.TIM_CTRL.EN [d, u] = 0 ∧
      t.rd F.TIM_CTRL.MODE [d, u] = v / 2 % 4 ∧ t.rd F.TIM_CTRL.SIGNED [d, u] = v / 8 % 2 := by
  let w : State := (writeTimCtrl d u v s).1
  obtain ⟨-, en, mode, signed, -⟩ := ctrlWritten_shows hs v disabled
  have stop : w.timStop d u (w.nextBlk d) = w := if_pos (by simp [w, isSet, en])
  have run : exec (.timCtrlDisable d u v) s = .next (w.withdrawWith 0x0203 fun x => x.req == .timEnable d u) := by
    refine congrArg Host.Outcome.next ((hostWrite_of_reach reach _).trans ((on_of_true (by simp [bitAt, disable]) w _).trans ?_))
    rw [requestTimStop, stop]
  have kept : ∀ f : Fld, f.reg = .TIM_CTRL → (w.withdrawWith 0x0203 fun x => x.req == .timEnable d u).rd f [d, u] = w.rd f [d, u] := fun f hr =>
    (withdrawWith_units ..).rd _ _ (by rw [hr]; decide +kernel)
  exact ⟨_, run, (kept _ rfl).trans en, (kept _ rfl).trans mode, (kept _ rfl).trans signed⟩

theorem timCtrlDisable_of_enabled {d u v : Nat} {s : State} (hs : s.Sound) (hd : d < 2) (hu : u < 8) (reach : s.hostReach d = true)
    (disable : v % 2 = 0) (enabled : s.rd F.TIM_CTRL.EN [d, u] ≠ 0) (runs : (s.timOf d u).stopping = none) :
    Completes (.timCtrlDisable d u v) s fun t => t.rd F.TIM_CTRL.EN [d, u] = 0 ∧
      t.rd F.TIM_STATUS.OPEN [d, u] = s.rd F.TIM_STATUS.OPEN [d, u] ∧
      t.timOf d u = { s.timOf d u with stopping := some (s.nextBlk d, s.now) } ∧
      ∀ e : TimEvent, e ∈ t.timHeld ↔ e ∈ s.timHeld ∧ ¬(e.die = d ∧ e.u = u ∧ instGe e.dt (4096 * s.nextBlk d) = true) := by
  let w : State := (writeTimCtrl d u v s).1
  have told : ctrlTold d u v s = s.wr F.TIM_CTRL.RES_EVT_EN [d, u] (slice v 4 1) := by
    rw [ctrlTold, timFinish_of_runs runs]
  have cases : w = s.wr F.TIM_CTRL.RES_EVT_EN [d, u] (slice v 4 1) ∨
      w = (s.wr F.TIM_CTRL.RES_EVT_EN [d, u] (slice v 4 1)).flag F.TIM_STATUS.CFG_REJECT [d, u] := by
    show (writeTimCtrl d u v s).1 = _ ∨ (writeTimCtrl d u v s).1 = _
    rw [writeTimCtrl_of_enabled enabled, told]
    split
    · exact .inl rfl
    · exact .inr rfl
  have only : Within (Foot.of [.TIM_CTRL, .TIM_STATUS] [.fresh]) s w := by
    have first : Within (Foot.of [.TIM_CTRL, .TIM_STATUS] [.fresh]) s (s.wr F.TIM_CTRL.RES_EVT_EN [d, u] (slice v 4 1)) :=
      (Within.refl _ s).wr _ _ _ (by decide +kernel)
    rcases cases with h | h <;> rw [h]
    · exact first
    · exact flag_within (by decide +kernel) first _ _ (by decide +kernel)
  have sound : w.Sound := only.sound hs
  have en : w.rd F.TIM_CTRL.EN [d, u] = s.rd F.TIM_CTRL.EN [d, u] := by
    rcases cases with h | h <;> rw [h]
    · exact rd_wr_of_lo (by decide) ..
    · exact (rd_wr_of_reg (by decide) ..).trans (rd_wr_of_lo (by decide) ..)
  have open_ : w.rd F.TIM_STATUS.OPEN [d, u] = s.rd F.TIM_STATUS.OPEN [d, u] := by
    rcases cases with h | h <;> rw [h]
    · exact rd_wr_of_reg (by decide) ..
    · exact (rd_wr_of_lo (by decide) ..).trans (rd_wr_of_reg (by decide) ..)
  have unit : w.timOf d u = s.timOf d u := timOf_congr (only.parts .tims (by decide +kernel)) d u
  have held : w.timHeld = s.timHeld := only.parts .timHeld (by decide +kernel)
  have now : w.now = s.now := only.parts .now (by decide +kernel)
  have tick : w.nextBlk d = s.nextBlk d := (blocks_of_within (only.mono (by decide +kernel)) d).2
  -- The unit is told to stop.
  let rest := s.timHeld.filter fun e => !(e.die == d && e.u == u && instGe e.dt (4096 * s.nextBlk d))
  let a : State := { w with timHeld := rest }
  let b : State := (a.setTim d u { s.timOf d u with stopping := some (s.nextBlk d, s.now) }).wr F.TIM_CTRL.EN [d, u] 0
  have aSound : a.Sound := ⟨sound.regs, sound.mem, sound.acq, sound.tims, sound.acc, sound.layers, sound.flash⟩
  have stop : w.timStop d u (w.nextBlk d) = b := by
    unfold timStop
    rw [if_neg (by simp [isSet, en, enabled]), tick, held]
    show (a.setTim d u { w.timOf d u with stopping := some (s.nextBlk d, w.now) }).wr F.TIM_CTRL.EN [d, u] 0 = b
    rw [unit, now]
  have run : exec (.timCtrlDisable d u v) s = .next (b.withdrawWith 0x0203 fun x => x.req == .timEnable d u) := by
    refine congrArg Host.Outcome.next ((hostWrite_of_reach reach _).trans ((on_of_true (by simp [bitAt, disable]) w _).trans ?_))
    rw [requestTimStop, stop]
  have kept := withdrawWith_units b 0x0203 fun x => x.req == .timEnable d u
  refine ⟨_, run, ?_, ?_, ?_, fun e => ?_⟩
  · rw [kept.rd _ _ (by decide +kernel), rd_wr_self (setTim_sound aSound d u _).regs]
    exact Nat.zero_mod _
  · rw [kept.rd _ _ (by decide +kernel), rd_wr_of_reg (by decide)]
    exact open_
  · rw [timOf_congr (kept.parts .tims (by decide +kernel)), wr_timOf, timOf_setTim aSound hd hu]
  · rw [show _ = b.timHeld from kept.parts .timHeld (by decide +kernel)]
    show e ∈ s.timHeld.filter _ ↔ _
    rw [List.mem_filter]
    simp only [Bool.not_eq_true', Bool.and_eq_false_iff, beq_eq_false_iff_ne, not_and, Bool.not_eq_true]
    refine and_congr_right fun _ => ?_
    tauto

-- Cues (R275) ------------------------------------------------------------------------------------------------------------------------------

/-- A word of the ticks replaced: the lower and the upper 32 bits. -/
theorem low_replaced (r v : Nat) : (r - slice r (32 * 0) 32 * 2 ^ (32 * 0) + v % 2 ^ 32 * 2 ^ (32 * 0)) % 2 ^ 64 % 2 ^ 32 = v % 2 ^ 32 := by
  simp only [slice, Nat.mul_zero, Nat.pow_zero, Nat.div_one, Nat.mul_one]
  omega

theorem high_replaced (r v : Nat) : (r - slice r (32 * 1) 32 * 2 ^ (32 * 1) + v % 2 ^ 32 * 2 ^ (32 * 1)) % 2 ^ 64 / 2 ^ 32 = v % 2 ^ 32 := by
  simp only [slice, Nat.mul_one]
  omega

/-- A cleared sticky bit that no event of the cycle set again reads 0. -/
theorem cleared_reads_zero {s : State} (hs : s.Sound) {f : Fld} (hw : f.width = 1) {ix : List Nat} (old : s.freshOf f ix = 0) :
    (s.clear1 f ix true).rd f ix = 0 := by
  show (s.wr f ix (s.w1cLeft f ix 1)).rd f ix = 0
  have left : s.w1cLeft f ix 1 = s.rd f ix - s.rd f ix % 2 := by
    rw [w1cLeft, old]
    show (s.rd f ix - (s.rd f ix &&& 1)) ||| (s.rd f ix &&& 0) = _
    rw [Nat.and_zero, Nat.or_zero, Nat.and_one_is_mod]
  rw [rd_wr_self hs.regs, left, hw, trunc, Nat.pow_one]
  omega

section
variable {d u e : Nat} {s : State} (hs : s.Sound) (reach : s.hostReach d = true)
include hs reach

theorem timCueWrite_of_armed (armed : s.rd F.TIM_CUE.ARM [d, u, e] ≠ 0) (v : Nat) :
    (∀ w : Nat, w < 2 → Completes (.timCueWrite d u e w v) s fun t => t = s) ∧
    (bitAt v 16 = false → Completes (.timCueWrite d u e 2 v) s fun t => t.rd F.TIM_CUE.ARM [d, u, e] = 0 ∧
      t.rd F.TIM_CUE.FRAC [d, u, e] = s.rd F.TIM_CUE.FRAC [d, u, e]) := by
  have set : s.isSet F.TIM_CUE.ARM [d, u, e] = true := bne_iff_ne.mpr armed
  refine ⟨fun w hw => completes_of_eq rfl (hostWrite_of_reach reach _) ?_, fun cancel => completes_of_eq rfl (hostWrite_of_reach reach _) ?_⟩
  · unfold writeTimCue
    extract_lets old
    rw [if_pos hw, show old = true from set]
    rfl
  · unfold writeTimCue
    extract_lets old a b
    rw [if_neg (by decide), if_pos (show old = true from set), on_of_true (by rw [cancel]; rfl)]
    have kept : a = s := on_of_false (by rw [show old = true from set]; rfl) ..
    have left : b.Sound ∧ b.rd F.TIM_CUE.FRAC [d, u, e] = s.rd F.TIM_CUE.FRAC [d, u, e] := by
      show (a.on (bitAt v 17) _).Sound ∧ (a.on (bitAt v 17) _).rd F.TIM_CUE.FRAC [d, u, e] = _
      rw [kept]
      cases bitAt v 17
      · exact ⟨hs, rfl⟩
      · exact ⟨hs.wr, rd_wr_of_lo (by decide) ..⟩
    exact ⟨(rd_wr_self left.1.regs ..).trans (Nat.zero_mod _), (rd_wr_of_lo (by decide) ..).trans left.2⟩

/-- FRAC is written, and LATE cleared where the write says so. -/
def cueNoted (d u e v : Nat) (s : State) : State := (s.wr F.TIM_CUE.FRAC [d, u, e] (slice v 0 12)).clear1 F.TIM_CUE.LATE [d, u, e] (bitAt v 17)

omit reach in
theorem cueNoted_shows (v : Nat) : let t := cueNoted d u e v s
    t.Sound ∧ t.rd F.TIM_CUE.FRAC [d, u, e] = v % 2 ^ 12 ∧ t.rd F.TIM_CUE.ARM [d, u, e] = s.rd F.TIM_CUE.ARM [d, u, e] ∧
      t.rd F.TIM_CUE.TICKS [d, u, e] = s.rd F.TIM_CUE.TICKS [d, u, e] ∧
      (bitAt v 17 = true → s.freshOf F.TIM_CUE.LATE [d, u, e] = 0 → t.rd F.TIM_CUE.LATE [d, u, e] = 0) ∧ t.blkOf d = s.blkOf d := by
  intro t
  have frac : (s.wr F.TIM_CUE.FRAC [d, u, e] (slice v 0 12)).rd F.TIM_CUE.FRAC [d, u, e] = v % 2 ^ 12 := by
    rw [rd_wr_self hs.regs, slice, Nat.pow_zero, Nat.div_one]
    exact Nat.mod_mod _ _
  have blk : (s.wr F.TIM_CUE.FRAC [d, u, e] (slice v 0 12)).blkOf d = s.blkOf d := blkOf_wr (by decide) ..
  by_cases clears : bitAt v 17 = true
  · have run : t = (s.wr F.TIM_CUE.FRAC [d, u, e] (slice v 0 12)).clear1 F.TIM_CUE.LATE [d, u, e] true := by
      show cueNoted d u e v s = _
      rw [cueNoted, clears]
    rw [run]
    exact ⟨Sound.wr hs.wr, (rd_wr_of_lo (by decide) ..).trans frac, (rd_wr_of_lo (by decide) ..).trans (rd_wr_of_lo (by decide) ..),
      (rd_wr_of_lo (by decide) ..).trans (rd_wr_of_lo (by decide) ..), fun _ old => cleared_reads_zero hs.wr rfl old, (blkOf_wr (by decide) ..).trans blk⟩
  · have run : t = s.wr F.TIM_CUE.FRAC [d, u, e] (slice v 0 12) := if_neg clears
    rw [run]
    exact ⟨hs.wr, frac, rd_wr_of_lo (by decide) .., rd_wr_of_lo (by decide) .., fun h => absurd h clears, blk⟩

omit hs reach in
/-- A word of the ticks of a cue that is not armed. -/
theorem writeTimCue_ticks (clear : s.isSet F.TIM_CUE.ARM [d, u, e] = false) {w : Nat} (hw : w < 2) (v : Nat) :
    writeTimCue d u e w v s = s.wr F.TIM_CUE.TICKS [d, u, e] (s.rd F.TIM_CUE.TICKS [d, u, e] -
      slice (s.rd F.TIM_CUE.TICKS [d, u, e]) (32 * w) 32 * 2 ^ (32 * w) + v % 2 ^ 32 * 2 ^ (32 * w)) := by
  unfold writeTimCue
  extract_lets old
  rw [if_pos hw, show old = false from clear, Bool.not_false, on_true]

omit reach in
theorem ticks_written (x : Nat) : (s.wr F.TIM_CUE.TICKS [d, u, e] x).rd F.TIM_CUE.TICKS [d, u, e] = x % 2 ^ 64 := rd_wr_self hs.regs ..

theorem timCueWrite_ticks (free : s.rd F.TIM_CUE.ARM [d, u, e] = 0) (v : Nat) :
    (Completes (.timCueWrite d u e 0 v) s fun t => t.rd F.TIM_CUE.TICKS [d, u, e] % 2 ^ 32 = v % 2 ^ 32) ∧
    (Completes (.timCueWrite d u e 1 v) s fun t => t.rd F.TIM_CUE.TICKS [d, u, e] / 2 ^ 32 = v % 2 ^ 32) := by
  have clear : s.isSet F.TIM_CUE.ARM [d, u, e] = false := by simp [isSet, free]
  refine ⟨completes_of_eq rfl ((hostWrite_of_reach reach _).trans (writeTimCue_ticks clear (by decide) v)) ?_,
    completes_of_eq rfl ((hostWrite_of_reach reach _).trans (writeTimCue_ticks clear (by decide) v)) ?_⟩
  · rw [ticks_written hs]
    exact low_replaced ..
  · rw [ticks_written hs]
    exact high_replaced ..

theorem timCueWrite_word2 (free : s.rd F.TIM_CUE.ARM [d, u, e] = 0) (v : Nat) :
    let ticks := s.rd F.TIM_CUE.TICKS [d, u, e]
    Completes (.timCueWrite d u e 2 v) s fun t => t.rd F.TIM_CUE.FRAC [d, u, e] = v % 2 ^ 12 ∧
      (bitAt v 16 = true → dtGe ticks (s.blkOf d) = true → t.rd F.TIM_CUE.ARM [d, u, e] = 1) ∧
      (bitAt v 16 = true → dtGe ticks (s.blkOf d) = false → t.rd F.TIM_CUE.ARM [d, u, e] = 0 ∧
        t.rd F.TIM_CUE.LATE [d, u, e] = 1 ∧ t.pends d 181 = true) ∧
      (bitAt v 16 = false → t.rd F.TIM_CUE.ARM [d, u, e] = 0 ∧
        (bitAt v 17 = true → s.freshOf F.TIM_CUE.LATE [d, u, e] = 0 → t.rd F.TIM_CUE.LATE [d, u, e] = 0)) := by
  intro ticks
  have clear : s.isSet F.TIM_CUE.ARM [d, u, e] = false := by simp [isSet, free]
  let b : State := cueNoted d u e v s
  obtain ⟨sound, frac, arm, same, late, blk⟩ := cueNoted_shows hs (d := d) (u := u) (e := e) v
  have run : writeTimCue d u e 2 v s = b.on (bitAt v 16) fun s => s.timCueArm d u e := by
    unfold writeTimCue
    extract_lets old a c
    rw [if_neg (by decide), if_neg (by rw [show old = false from clear]; decide)]
    have write : a = s.wr F.TIM_CUE.FRAC [d, u, e] (slice v 0 12) := on_of_true (by rw [show old = false from clear]; rfl) ..
    show State.on (clear1 a F.TIM_CUE.LATE [d, u, e] (bitAt v 17)) _ _ = _
    rw [write]
    rfl
  have judged : ∀ x, dtGe ticks (s.blkOf d) = x → dtGe (b.rd F.TIM_CUE.TICKS [d, u, e]) (b.blkOf d) = x := fun x h => by rw [same, blk]; exact h
  have arms : dtGe ticks (s.blkOf d) = true → b.timCueArm d u e = b.wr F.TIM_CUE.ARM [d, u, e] 1 := fun h => if_pos (judged _ h)
  have misses : dtGe ticks (s.blkOf d) = false → b.timCueArm d u e = (b.flag F.TIM_CUE.LATE [d, u, e]).raise d 181 (u + 2 ^ 3 * e) := fun h =>
    if_neg (by rw [judged _ h]; decide)
  refine completes_of_eq rfl ((hostWrite_of_reach reach _).trans run) ⟨?_, fun asks soon => ?_, fun asks past => ?_, fun plain => ?_⟩
  · by_cases asks : bitAt v 16 = true
    · rw [asks, on_true]
      by_cases soon : dtGe ticks (s.blkOf d) = true
      · rw [arms soon, rd_wr_of_lo (by decide), frac]
      · rw [misses (Bool.not_eq_true _ ▸ soon), raise_rd (by decide), flag_rd, rd_wr_of_lo (by decide), frac]
    · rw [on_of_false (Bool.not_eq_true _ ▸ asks), frac]
  · rw [asks, on_true, arms soon]
    exact rd_wr_self_of_lt sound _ _ (by decide)
  · rw [asks, on_true, misses past]
    refine ⟨?_, ?_, raise_pends (sound.flag _ _) ..⟩
    · rw [raise_rd (by decide), flag_rd, rd_wr_of_lo (by decide), arm, free]
    · rw [raise_rd (by decide), flag_rd]
      exact rd_wr_self_of_lt sound _ _ (by decide)
  · rw [plain, on_false]
    exact ⟨arm.trans free, late⟩

end

theorem timCueFire_completes {d u e : Nat} {s : State} :
    let ticks := s.rd F.TIM_CUE.TICKS [d, u, e]
    let dt := 4096 * ticks + s.rd F.TIM_CUE.FRAC [d, u, e]
    let src := s.rd (if e = 0 then F.TIM_START_SRC.SRC else F.TIM_STOP_SRC.SRC) [d, u]
    s.Sound → (s.rd F.TIM_CUE.ARM [d, u, e] = 0 ∨ s.dueOn d ticks = false → Completes (.timCueFire d u e) s fun t => t = s) ∧
    (s.rd F.TIM_CUE.ARM [d, u, e] ≠ 0 → s.dueOn d ticks = true → Completes (.timCueFire d u e) s fun t => t.rd F.TIM_CUE.ARM [d, u, e] = 0 ∧
      (src = 0x50 → s.rd F.TIM_CTRL.EN [d, u] ≠ 0 → s.inputUsed d u e = true → instGe dt (4096 * (s.timOf d u).enabledAt) = true →
        (∀ v ∈ s.timHeld, v.since ≠ s.now) → t.timHeld = s.timHeld ++ [⟨d, u, e, dt, 1, s.now⟩]) ∧
      (src ≠ 0x50 → t.timHeld = s.timHeld)) := by
  intro ticks dt src hs
  refine ⟨fun rests => ⟨_, rfl, if_pos ?_⟩, fun armed due => ?_⟩
  · show (!(s.rd F.TIM_CUE.ARM [d, u, e] != 0) || !s.dueOn d ticks) = true
    rcases rests with h | h <;> simp [h]
  let a : State := s.wr F.TIM_CUE.ARM [d, u, e] 0
  have named : a.rd (if e = 0 then F.TIM_START_SRC.SRC else F.TIM_STOP_SRC.SRC) [d, u] = src := by
    refine rd_wr_of_reg ?_ ..
    split <;> decide
  have enabled : a.isSet F.TIM_CTRL.EN [d, u] = s.isSet F.TIM_CTRL.EN [d, u] := congrArg (· != 0) (rd_wr_of_reg (by decide) ..)
  have used : a.inputUsed d u e = s.inputUsed d u e := by
    unfold inputUsed
    rw [rd_wr_of_reg (by decide), rd_wr_of_reg (by decide)]
  have hold : a.timHold d u e (4096 * ticks + a.rd F.TIM_CUE.FRAC [d, u, e]) 1 = a.timHold d u e dt 1 := by
    rw [rd_wr_of_lo (by decide)]
  have run : s.timCueFire d u e = a.on (src == 0x50 && s.isSet F.TIM_CTRL.EN [d, u] && s.inputUsed d u e) fun s => s.timHold d u e (4096 * ticks +
      s.rd F.TIM_CUE.FRAC [d, u, e]) 1 := by
    have live : (!s.isSet F.TIM_CUE.ARM [d, u, e] || !s.dueOn d ticks) = false := by simp [isSet, armed, due]
    unfold timCueFire
    dsimp only
    rw [if_neg (by rw [live]; decide)]
    show a.on (a.rd (if e = 0 then F.TIM_START_SRC.SRC else F.TIM_STOP_SRC.SRC) [d, u] == 0x50 && a.isSet F.TIM_CTRL.EN [d, u] &&
      a.inputUsed d u e) _ = _
    rw [named, enabled, used]
  have only : Within (Foot.without [.TIM_CUE] []) a (a.timHold d u e dt 1) := timHold_within (by decide +kernel) (.refl _ a) ..
  have clear : a.rd F.TIM_CUE.ARM [d, u, e] = 0 := (rd_wr_self hs.regs ..).trans (Nat.zero_mod _)
  refine completes_of_eq rfl run ⟨?_, fun cue on_ uses after fresh => ?_, fun other => ?_⟩
  · cases src == 0x50 && s.isSet F.TIM_CTRL.EN [d, u] && s.inputUsed d u e
    · exact clear
    · rw [on_true, hold, only.rd _ _ (by decide +kernel), clear]
  · rw [on_of_true (by simp [cue, isSet, on_, uses]), hold]
    have none : (a.timHeld.filter fun v => v.die == d && v.u == u && v.since == a.now) = [] :=
      List.filter_eq_nil_iff.mpr fun v hv => by simp [fresh v hv, a]
    unfold timHold
    rw [if_neg (by rw [show a.timOf d u = s.timOf d u from rfl, after]; decide), none]
    rfl
  · rw [on_of_false (by simp [other])]
    rfl

-- The FIFO (R286) ----------------------------------------------------------------------------------------------------------------------------

theorem timResRead_completes {d u : Nat} {s : State} (hs : s.Sound) (hd : d < 2) (hu : u < 8) (reach : s.hostReach d = true) :
    let rest := (s.timOf d u).fifo.drop 1
    Completes (.timResRead d u) s fun t => t.out = s.out ++ [.readData d (le 4 (s.rd F.TIM_RES.WORD [d, u, 7]))] ∧
      (t.timOf d u).fifo = rest ∧ t.rd F.TIM_STATUS.FIFO_LEVEL [d, u] = rest.length % 64 ∧
      (rest = [] → ∀ w : Nat, w < 8 → t.rd F.TIM_RES.WORD [d, u, w] = 0) ∧
      ∀ (r : TimResult) (l : List TimResult), rest = r :: l → ∀ w : Nat, w < 8 → t.rd F.TIM_RES.WORD [d, u, w] = r.words.getD w 0 % 2 ^ 32 := by
  intro rest
  let a : State := s.emit (.readData d (le 4 (s.rd F.TIM_RES.WORD [d, u, 7])))
  let b : State := a.setTim d u { s.timOf d u with fifo := rest }
  have aSound : a.Sound := hs.emit _
  have sound : b.Sound := setTim_sound aSound ..
  have fifo : (b.timOf d u).fifo = rest := congrArg Tim.fifo (timOf_setTim aSound hd hu _)
  have run : exec (.timResRead d u) s = .next (b.syncTim d u) := congrArg Host.Outcome.next (hostWrite_of_reach reach _)
  refine ⟨_, run, (b.syncTim_only d u).parts .out (by decide +kernel), ?_, ?_, fun empty w hw => ?_, fun r l more w hw => ?_⟩
  · rw [syncTim_timOf, fifo]
  · rw [syncTim_level sound, fifo]
  · rw [syncTim_word sound d u hw, fifo, empty]
    have zeros : ∀ k : Fin 8, (headWords []).getD k.val 0 % 2 ^ 32 = 0 := by decide
    exact zeros ⟨w, hw⟩
  · rw [syncTim_word sound d u hw, fifo, more]
    rfl

end Sys2Proof.Machine
end

section
/-!
PROOFS. What the steps of a set keep (R199 to R218, R321): the pending bits that are set.
-/

namespace Sys2Proof.Machine

-- One proof at a time: proofs elaborated side by side ask for more memory than a compile of the whole text may take.
set_option Elab.async false

namespace State

section
variable {s₀ s : State} (h : Keeps s₀ s)
include h

theorem setAcq_keeps (d a : Nat) (x : Acq) : Keeps s₀ (s.setAcq d a x) := h.within (setAcq_within (by decide +kernel) (.refl _ s) _ _ _)

theorem closeChunk_keeps (d a : Nat) : Keeps s₀ (s.closeChunk d a) := h.within (closeChunk_within (by decide +kernel) (.refl _ s) _ _)

-- Gap records (R214 to R216) ---------------------------------------------------------------------------------------------------------

theorem logGap_keeps (d a cause first len : Nat) (bytes : List Byte) : Keeps s₀ (s.logGap d a cause first len bytes) := by
  unfold logGap
  extract_lets l n x seq s₁ s₂ s₃ s₄
  have h₁ : Keeps s₀ s₁ := (h.within (memWrite_within (by decide +kernel) (.refl _ s) _ _)).within (inc_within (.refl _ _) _ _ (by decide +kernel))
  have h₃ : Keeps s₀ s₃ := setAcq_keeps (h₁.within (inc_within (.refl _ s₁) _ _ (by decide +kernel))) _ _ _
  have h₄ : Keeps s₀ s₄ := h₃.each _ fun _ _ h => h.on _ fun _ h => stick_keeps h _ (by decide) _ _ _ _
  exact h₄.within (drainGaps_within (by decide +kernel) (.refl _ s₄) _ _ _)

theorem gapRecord_keeps (d a cause first len refNo flags : Nat) : Keeps s₀ (s.gapRecord d a cause first len refNo flags) :=
  h.each _ fun _ _ h => logGap_keeps h ..

theorem closeGap_keeps (d a : Nat) : Keeps s₀ (s.closeGap d a) := by
  unfold closeGap
  dsimp only
  split
  · exact h
  · exact (gapRecord_keeps (setAcq_keeps h _ _ _) ..).within (setBuf_within (by decide +kernel) (.refl _ _) _ _ _)

theorem lcTrim_keeps (d : Nat) : Keeps s₀ (s.lcTrim d) := by
  unfold lcTrim
  dsimp only
  split
  · exact Keeps.ite (setAcq_keeps (gapRecord_keeps h ..) _ _ _) h
  · exact h

-- Segments (R198 to R201) --------------------------------------------------------------------------------------------------------------

theorem settleMarks_keeps (d a pos : Nat) (inGap : Bool) (index : Nat) : Keeps s₀ (s.settleMarks d a pos inGap index) := by
  unfold settleMarks
  exact (setAcq_keeps h _ _ _).each _ fun _ _ h => Keeps.ite (placeMark_keeps h ..) (Keeps.ite (placeMark_keeps h ..) (placeMark_keeps h ..))

theorem idleSet_keeps (d a cause : Nat) : Keeps s₀ (s.idleSet d a cause) := by
  unfold idleSet
  extract_lets s₁ b y idx c s₂ x seg s₃
  have h₁ : Keeps s₀ s₁ := closeGap_keeps h d a
  have h₂ : Keeps s₀ s₂ := Keeps.ite (h₁.within (setBuf_within (by decide +kernel) (.refl _ s₁) _ _ _)) h₁
  have h₃ : Keeps s₀ s₃ := setAcq_keeps h₂ _ _ _
  exact ((h₃.put (by decide) _ _).raise ..).within (seqDisarm_within (by decide +kernel) (.refl _ _) _)

theorem completeSeg_keeps (d a extra : Nat) (last : Bool) : Keeps s₀ (s.completeSeg d a extra last) := by
  unfold completeSeg
  extract_lets s₁ x
  have h₁ : Keeps s₀ s₁ := h.on _ fun _ h => lcTrim_keeps h _
  split
  · exact h₁
  extract_lets s₂ r s₃ y seg s₄
  have h₂ : Keeps s₀ s₂ := by
    simp only [s₂]
    split
    · exact gapRecord_keeps h₁ ..
    · exact h₁
  have h₃ : Keeps s₀ s₃ := h₂.on _ fun _ h => (closeChunk_keeps h _ _).raise ..
  have h₄ : Keeps s₀ s₄ := setAcq_keeps h₃ _ _ _
  refine Keeps.ite h₄ (Keeps.ite (idleSet_keeps h₄ _ _ _) (Keeps.ite ((setAcq_keeps h₄ _ _ _).put (by decide) _ _) (h₄.within ?_)))
  exact openSeg_within (by decide +kernel) (.refl _ s₄) ..

theorem beginSpill_keeps (d a : Nat) : Keeps s₀ (s.beginSpill d a) := by
  unfold beginSpill
  exact placeMark_keeps (((setAcq_keeps h _ _ _).put (by decide) _ _).raise ..) ..

theorem advanceSeg_keeps (d a : Nat) : Keeps s₀ (s.advanceSeg d a) := by
  unfold advanceSeg
  dsimp only
  split
  · exact h
  · refine Keeps.ite (Keeps.ite ?_ (completeSeg_keeps h ..)) (Keeps.ite (completeSeg_keeps h ..) h)
    exact Keeps.ite (beginSpill_keeps (h.on _ fun _ h => gapRecord_keeps h ..) _ _) (completeSeg_keeps (h.on _ fun _ h => gapRecord_keeps h ..) ..)

-- Logic records (R89, R217, R218) ----------------------------------------------------------------------------------------------------------

theorem setBackpressure_keeps (d a v : Nat) : Keeps s₀ (s.setBackpressure d a v) := (h.put (by decide) _ _).raise ..

theorem lcOpenGap_keeps (d cause : Nat) : Keeps s₀ (s.lcOpenGap d cause) := by
  unfold lcOpenGap
  exact Keeps.ite h (setAcq_keeps (closeChunk_keeps h _ _) _ _ _)

theorem lcPass_keeps (d tick : Nat) : Keeps s₀ (s.lcPass d tick) := by
  unfold lcPass
  exact Keeps.ite h (advanceSeg_keeps ((setAcq_keeps (settleMarks_keeps h ..) _ _ _).put (by decide) _ _) _ _)

theorem lcStreamRecord_keeps (d tick : Nat) (ws : List Nat) : Keeps s₀ (s.lcStreamRecord d tick ws) := by
  unfold lcStreamRecord
  refine Keeps.ite h (Keeps.ite (lcOpenGap_keeps (setBackpressure_keeps h ..) _ _) ?_)
  have chunked := h.on (decide (s.chunkRoom d 2 < ((((s.acqOf d 2).buf.cur.map fun c => c.count).getD 0) + ws.length))) fun _ h => closeChunk_keeps h d 2
  refine (chunked.within (lcOpenChunk_within (by decide +kernel) (.refl _ _) _)).each _ fun u _ h => ?_
  exact h.within (bufAppend_within (by decide +kernel) (.refl _ u) ..)

theorem lcRecord_keeps (d tick state mask : Nat) : Keeps s₀ (s.lcRecord d tick state mask) := by
  unfold lcRecord
  extract_lets s₁ s₂ x ws s₃ y
  have h₁ : Keeps s₀ s₁ := lcPass_keeps h _ _
  have h₂ : Keeps s₀ s₂ := h₁.on _ fun _ h => lcOpenGap_keeps h _ _
  have h₃ : Keeps s₀ s₃ := Keeps.ite (lcStreamRecord_keeps h₂ ..) (h₂.within (lcSlotRecord_within (by decide +kernel) (.refl _ s₂) ..))
  exact Keeps.ite h₂ (Keeps.ite h₃ (setAcq_keeps h₃ _ _ _))

end

end State

end Sys2Proof.Machine
end

section
/-!
PROOFS. The logic sample (R262 to R268): bits set and cleared, and one channel at a time.
-/

namespace Sys2Proof

-- One proof at a time: proofs elaborated side by side ask for more memory than a compile of the whole text may take.
set_option Elab.async false

-- Bits ------------------------------------------------------------------------------------------------------------------------------------

theorem bitAt_setBit_other {n i j : Nat} (ne : j ≠ i) : bitAt (setBit n i) j = bitAt n j := by
  unfold setBit
  split
  · rfl
  · rename_i clear
    rw [bitAt_eq_testBit, Bool.not_eq_true] at clear
    rw [bitAt_eq_testBit, bitAt_eq_testBit]
    rcases Nat.lt_or_gt_of_ne ne with below | above
    · rw [Nat.add_comm, Nat.testBit_two_pow_add_gt below]
    · exact testBit_add_two_pow clear above

/-- A number with a bit set is one with the bit clear, and the bit set in it. -/
theorem setBit_clrBit {n i : Nat} (set : bitAt n i = true) : bitAt (n - 2 ^ i) i = false ∧ setBit (n - 2 ^ i) i = n := by
  have odd : n / 2 ^ i % 2 = 1 := by simpa [bitAt] using set
  have some : 2 ^ i ≤ n := by
    by_contra small
    rw [Nat.div_eq_of_lt (Nat.lt_of_not_le small)] at odd
    exact absurd odd (by decide)
  have less : (n - 2 ^ i) / 2 ^ i = n / 2 ^ i - 1 := by
    have := Nat.sub_mul_div n (2 ^ i) 1
    rwa [Nat.mul_one] at this
  have clear : bitAt (n - 2 ^ i) i = false := by
    rw [bitAt, less, beq_eq_false_iff_ne]
    omega
  exact ⟨clear, by rw [setBit, if_neg (by simp [clear]), Nat.sub_add_cancel some]⟩

theorem bitAt_clrBit_self (n i : Nat) : bitAt (clrBit n i) i = false := by
  unfold clrBit
  split
  · rename_i set
    exact (setBit_clrBit set).1
  · simpa using ‹¬bitAt n i = true›

theorem bitAt_clrBit_other {n i j : Nat} (ne : j ≠ i) : bitAt (clrBit n i) j = bitAt n j := by
  unfold clrBit
  split
  · rename_i set
    have := bitAt_setBit_other (n := n - 2 ^ i) ne
    rw [(setBit_clrBit set).2] at this
    exact this.symm
  · rfl

theorem bitAt_putBit_self (n i : Nat) (b : Bool) : bitAt (putBit n i b) i = b := by
  cases b
  · exact bitAt_clrBit_self n i
  · exact bitAt_setBit_self n i

theorem bitAt_putBit_other {n i j : Nat} (ne : j ≠ i) (b : Bool) : bitAt (putBit n i b) j = bitAt n j := by
  cases b
  · exact bitAt_clrBit_other ne
  · exact bitAt_setBit_other ne

/-- Bits put one after another: each reads as put, and the others stay. -/
theorem bitAt_putBits (f : Nat → Bool) (l : List Nat) (n i : Nat) :
    bitAt (l.foldl (fun n i => putBit n i (f i)) n) i = if i ∈ l then f i else bitAt n i := by
  induction l generalizing n with
  | nil => rfl
  | cons x l ih =>
    rw [List.foldl_cons, ih]
    by_cases inside : i ∈ l
    · rw [if_pos inside, if_pos (List.mem_cons_of_mem _ inside)]
    · rw [if_neg inside]
      by_cases here : i = x
      · rw [here, if_pos List.mem_cons_self, bitAt_putBit_self]
      · rw [if_neg (by simp [here, inside]), bitAt_putBit_other here]

namespace Machine.State

theorem lgcBits_bit (f : Nat → Bool) {i : Nat} (hi : i < 16) : bitAt (lgcBits f) i = f i := by
  rw [lgcBits, bitAt_putBits, if_pos (List.mem_range.mpr hi)]

-- What a channel shows ------------------------------------------------------------------------------------------------------------------------

/-- The bits of one channel, and its hold-off, are the same in two states. -/
structure SameChannel (d i : Nat) (s t : State) : Prop where
  state : bitAt (t.rd F.LGC_STATE.STATE [d]) i = bitAt (s.rd F.LGC_STATE.STATE [d]) i
  unresolved : bitAt (t.rd F.LGC_STATE.UNRESOLVED [d]) i = bitAt (s.rd F.LGC_STATE.UNRESOLVED [d]) i
  starts : bitAt (t.rd I.lgcStart [d]) i = bitAt (s.rd I.lgcStart [d]) i
  hold : t.rd I.lgcHold [d, i] = s.rd I.lgcHold [d, i]

theorem SameChannel.refl (d i : Nat) (s : State) : SameChannel d i s s := ⟨rfl, rfl, rfl, rfl⟩

theorem SameChannel.trans {d i : Nat} {s t u : State} (h : SameChannel d i s t) (k : SameChannel d i t u) : SameChannel d i s u :=
  ⟨k.state.trans h.state, k.unresolved.trans h.unresolved, k.starts.trans h.starts, k.hold.trans h.hold⟩

/-- An operation that leaves the registers of the channels. -/
theorem SameChannel.of_within {s t : State} (w : Within (Foot.without [.LGC_STATE, .i_lgcStart, .i_lgcHold] []) s t) (d i : Nat) : SameChannel d i s t :=
  ⟨by rw [w.rd _ _ (by decide +kernel)], by rw [w.rd _ _ (by decide +kernel)], by rw [w.rd _ _ (by decide +kernel)], w.rd _ _ (by decide +kernel)⟩

section
variable {s : State} (hs : s.Sound) (d : Nat) {i : Nat} (hi : i < 16)
include hs

theorem lgcPut_sound (i : Nat) (high unres : Bool) : (s.lgcPut d i high unres).Sound := Sound.wr hs.wr

include hi in
theorem lgcPut_state (j : Nat) (high unres : Bool) :
    bitAt ((s.lgcPut d j high unres).rd F.LGC_STATE.STATE [d]) i = bitAt (putBit (s.rd F.LGC_STATE.STATE [d]) j high) i := by
  rw [lgcPut, rd_wr_of_lo (by decide), rd_wr_self hs.regs]
  exact bitAt_trunc (w := 16) hi _

include hi in
theorem lgcPut_unresolved (j : Nat) (high unres : Bool) :
    bitAt ((s.lgcPut d j high unres).rd F.LGC_STATE.UNRESOLVED [d]) i = bitAt (putBit (s.rd F.LGC_STATE.UNRESOLVED [d]) j unres) i := by
  rw [lgcPut, rd_wr_self (Sound.wr hs).regs]
  exact bitAt_trunc (w := 16) hi _

include hi in
/-- The state of a channel, written. -/
theorem lgcPut_shows (high unres : Bool) : bitAt ((s.lgcPut d i high unres).rd F.LGC_STATE.STATE [d]) i = high ∧
    bitAt ((s.lgcPut d i high unres).rd F.LGC_STATE.UNRESOLVED [d]) i = unres := by
  rw [lgcPut_state hs d hi, lgcPut_unresolved hs d hi, bitAt_putBit_self, bitAt_putBit_self]
  exact ⟨rfl, rfl⟩

include hi in
/-- Another channel stays. -/
theorem lgcPut_other {j : Nat} (ne : i ≠ j) (high unres : Bool) : SameChannel d i s (s.lgcPut d j high unres) := by
  refine ⟨?_, ?_, ?_, ?_⟩
  · rw [lgcPut_state hs d hi, bitAt_putBit_other ne]
  · rw [lgcPut_unresolved hs d hi, bitAt_putBit_other ne]
  · rw [lgcPut, rd_wr_of_reg (by decide), rd_wr_of_reg (by decide)]
  · rw [lgcPut, rd_wr_of_reg (by decide), rd_wr_of_reg (by decide)]

omit hs in
/-- The hold-off that a change starts touches no bit. -/
theorem lgcChanged_bits (j t : Nat) {f : Fld} (hf : f.reg ≠ .i_lgcHold) (ix : List Nat) : (s.lgcChanged d j t).rd f ix = s.rd f ix :=
  rd_wr_of_reg hf ..

omit hs in
theorem lgcChanged_other {j : Nat} (ne : i ≠ j) (t : Nat) : SameChannel d i s (s.lgcChanged d j t) := by
  refine ⟨?_, ?_, ?_, ?_⟩
  · rw [lgcChanged_bits d j t (by decide)]
  · rw [lgcChanged_bits d j t (by decide)]
  · rw [lgcChanged_bits d j t (by decide)]
  · exact rd_wr_of_ix (by simpa using ne) ..

end

-- One channel at a sample (R266 to R268) ---------------------------------------------------------------------------------------------------------

/-- A channel that is not sampled stays. -/
theorem lgcChannel_other {s : State} (hs : s.Sound) (d t : Nat) (high low : Bool) {i j : Nat} (hi : i < 16) (ne : i ≠ j) :
    SameChannel d i s (s.lgcChannel d t high low j).1 := by
  unfold lgcChannel
  split
  · have start : SameChannel d i s (s.wr I.lgcStart [d] (clrBit (s.rd I.lgcStart [d]) j)) := by
      refine ⟨?_, ?_, ?_, ?_⟩
      · rw [rd_wr_of_reg (by decide)]
      · rw [rd_wr_of_reg (by decide)]
      · rw [rd_wr_self hs.regs, bitAt_trunc (w := 16) hi, bitAt_clrBit_other ne]
      · rw [rd_wr_of_reg (by decide)]
    exact start.trans (lgcPut_other hs.wr d hi ne ..)
  split
  · split
    · refine ((lgcPut_other hs d hi ne true false).trans (lgcChanged_other d ne t)).trans (.of_within ?_ d i)
      exact raise_within (by decide +kernel) (.refl _ _) ..
    · exact .refl d i s
  split
  · exact .refl d i s
  · exact (lgcPut_other hs d hi ne high false).trans (lgcChanged_other d ne t)

theorem lgcChannel_sound {s : State} (hs : s.Sound) (d t : Nat) (high low : Bool) (i : Nat) : (s.lgcChannel d t high low i).1.Sound :=
  (lgcChannel_within (M := 2 ^ 700 - 1) (by decide +kernel) (.refl _ s) d t high low i).sound hs

theorem lgcChannel_keeps {s₀ s : State} (h : Keeps s₀ s) (d t : Nat) (high low : Bool) (i : Nat) : Keeps s₀ (s.lgcChannel d t high low i).1 := by
  have put : ∀ {u : State}, Keeps s₀ u → ∀ a b, Keeps s₀ (u.lgcPut d i a b) := fun hu a b => (hu.put (by decide) _ _).put (by decide) _ _
  unfold lgcChannel
  split
  · exact put (h.put (by decide) _ _) _ _
  split
  · split
    · exact ((put h _ _).put (by decide) _ _).raise ..
    · exact h
  split
  · exact h
  · exact (put h _ _).put (by decide) _ _

section
variable {s : State} (hs : s.Sound) (d t : Nat) (high low : Bool) {i : Nat} (hi : i < 16)
include hs hi

theorem lgcChannel_starts (starts : bitAt (s.rd I.lgcStart [d]) i = true) :
    let u := (s.lgcChannel d t high low i).1
    bitAt (u.rd F.LGC_STATE.STATE [d]) i = high ∧ bitAt (u.rd F.LGC_STATE.UNRESOLVED [d]) i = (!high && !low) ∧
      bitAt (u.rd I.lgcStart [d]) i = false := by
  intro u
  have run : u = (s.wr I.lgcStart [d] (clrBit (s.rd I.lgcStart [d]) i)).lgcPut d i high (!high && !low) := by
    show (s.lgcChannel d t high low i).1 = _
    rw [lgcChannel, if_pos starts]
  rw [run]
  obtain ⟨state, unresolved⟩ := lgcPut_shows (Sound.wr hs (f := I.lgcStart) (ix := [d])) d hi high (!high && !low)
  refine ⟨state, unresolved, ?_⟩
  rw [lgcPut, rd_wr_of_reg (by decide), rd_wr_of_reg (by decide), rd_wr_self hs.regs, bitAt_trunc (w := 16) hi, bitAt_clrBit_self]

variable (runs : bitAt (s.rd I.lgcStart [d]) i = false)
include runs

theorem lgcChannel_resolves (unres : bitAt (s.rd F.LGC_STATE.UNRESOLVED [d]) i = true) :
    let u := (s.lgcChannel d t high low i).1
    (high = true → bitAt (u.rd F.LGC_STATE.STATE [d]) i = true ∧ bitAt (u.rd F.LGC_STATE.UNRESOLVED [d]) i = false ∧ u.pends d 168 = true) ∧
      (high = false → u = s) := by
  intro u
  have first : ¬bitAt (s.rd I.lgcStart [d]) i = true := by simp [runs]
  constructor
  · intro rises
    have run : u = ((s.lgcPut d i true false).lgcChanged d i t).raise d 168
        (i + 2 ^ 16 * ((s.lgcPut d i true false).lgcChanged d i t).rd F.LGC_STATE.UNRESOLVED [d]) := by
      show (s.lgcChannel d t high low i).1 = _
      rw [lgcChannel, if_neg first, if_pos (show s.lgcUnresolved d i = true from unres), if_pos rises]
    have sound : ((s.lgcPut d i true false).lgcChanged d i t).Sound := Sound.wr (lgcPut_sound hs d i true false)
    obtain ⟨state, unresolved⟩ := lgcPut_shows hs d hi true false
    rw [run]
    refine ⟨?_, ?_, raise_pends sound ..⟩
    · rw [raise_rd (by decide), lgcChanged_bits d i t (by decide), state]
    · rw [raise_rd (by decide), lgcChanged_bits d i t (by decide), unresolved]
  · intro stays
    show (s.lgcChannel d t high low i).1 = s
    rw [lgcChannel, if_neg first, if_pos (show s.lgcUnresolved d i = true from unres), if_neg (by simp [stays])]

theorem lgcChannel_follows (resolved : bitAt (s.rd F.LGC_STATE.UNRESOLVED [d]) i = false) :
    let u := (s.lgcChannel d t high low i).1
    bitAt (u.rd F.LGC_STATE.UNRESOLVED [d]) i = false ∧
      bitAt (u.rd F.LGC_STATE.STATE [d]) i = if s.lgcHeld d i t then bitAt (s.rd F.LGC_STATE.STATE [d]) i else high := by
  intro u
  have first : ¬bitAt (s.rd I.lgcStart [d]) i = true := by simp [runs]
  have second : ¬s.lgcUnresolved d i = true := by simp [lgcUnresolved, resolved]
  by_cases stays : (s.lgcHeld d i t || bitAt (s.rd F.LGC_STATE.STATE [d]) i == high) = true
  · have run : u = s := by
      show (s.lgcChannel d t high low i).1 = s
      rw [lgcChannel, if_neg first, if_neg second, if_pos stays]
    rw [run]
    refine ⟨resolved, ?_⟩
    split
    · rfl
    · next free => simpa [free] using stays
  · have run : u = (s.lgcPut d i high false).lgcChanged d i t := by
      show (s.lgcChannel d t high low i).1 = _
      rw [lgcChannel, if_neg first, if_neg second, if_neg stays]
    have free : s.lgcHeld d i t = false := by
      by_contra held
      exact stays (by simp [held])
    obtain ⟨state, unresolved⟩ := lgcPut_shows hs d hi high false
    rw [run, free, lgcChanged_bits d i t (by decide), lgcChanged_bits d i t (by decide)]
    exact ⟨unresolved, state⟩

end

-- The logic sample (R262 to R268) ---------------------------------------------------------------------------------------------------------------

/-- All channels meet the sample, in order. -/
def channelsSampled (s : State) (d t high low : Nat) (l : List Nat) : State :=
  s.each l fun s i => (s.lgcChannel d t (bitAt high i) (bitAt low i) i).1

theorem channelsSampled_sound {s : State} (hs : s.Sound) (d t high low : Nat) (l : List Nat) : (s.channelsSampled d t high low l).Sound :=
  ((Within.refl (2 ^ 700 - 1) s).each fun _ _ hu => lgcChannel_within (by decide +kernel) hu ..).sound hs

/-- A channel that is not among those sampled stays. -/
theorem channelsSampled_other {s : State} (hs : s.Sound) (d t high low : Nat) {l : List Nat} {i : Nat} (hi : i < 16) (out : i ∉ l) :
    SameChannel d i s (s.channelsSampled d t high low l) := by
  induction l generalizing s with
  | nil => exact .refl d i s
  | cons j l ih =>
    rw [List.mem_cons, not_or] at out
    exact (lgcChannel_other hs d t _ _ hi out.1).trans (ih (lgcChannel_sound hs ..) out.2)

/-- What each channel meets: the state in which its turn comes shows it as before, and after its turn it stays. -/
theorem channelsSampled_turn {s : State} (hs : s.Sound) (d t high low : Nat) {i : Nat} (hi : i < 16) :
    ∃ u : State, u.Sound ∧ SameChannel d i s u ∧
      SameChannel d i (u.lgcChannel d t (bitAt high i) (bitAt low i) i).1 (s.channelsSampled d t high low (List.range 16)) ∧
      Keeps (u.lgcChannel d t (bitAt high i) (bitAt low i) i).1 (s.channelsSampled d t high low (List.range 16)) := by
  obtain ⟨before, after, whole⟩ := List.append_of_mem (List.mem_range.mpr hi)
  have once : (before ++ i :: after).Nodup := whole ▸ List.nodup_range
  rw [List.nodup_middle, List.nodup_cons, List.mem_append, not_or] at once
  let u : State := s.channelsSampled d t high low before
  have sound : u.Sound := channelsSampled_sound hs ..
  have run : s.channelsSampled d t high low (List.range 16) =
      (u.lgcChannel d t (bitAt high i) (bitAt low i) i).1.channelsSampled d t high low after := by
    rw [whole]
    exact List.foldl_append
  rw [run]
  refine ⟨u, sound, channelsSampled_other hs d t high low hi once.1.1, ?_, ?_⟩
  · exact channelsSampled_other (lgcChannel_sound sound ..) d t high low hi once.1.2
  · exact (Keeps.refl _).each _ fun _ _ h => lgcChannel_keeps h ..

/-- The comparators of the sample: their transitions, and what they show. -/
def comparatorsSeen (s : State) (d : Nat) (edges : List LogicEdge) (high : Nat) : State :=
  (s.each edges fun s x => s.lgcEdge d x).wr I.lgcComp [d] high

/-- The footprint of everything but the bits and the hold-offs of the logic channels. -/
def channelFoot : Foot := Foot.without [.LGC_STATE, .i_lgcStart, .i_lgcHold] []

/-- A sample is the comparators', then each channel's; a record of the change and the arrivals leave the channels. -/
theorem logicSample_runs {s : State} {d : Nat} (runs : s.rd F.LGC_STATUS.RUNNING [d] ≠ 0) (t : Nat) (pins : LogicPins) (edges : List LogicEdge) :
    let high := lgcBits (s.lgcOutput d pins edges)
    let low := lgcBits fun i => decide (s.lgcLevel d i pins < s.lgcLower d i)
    let c := (s.comparatorsSeen d edges high).channelsSampled d t high low (List.range 16)
    Within channelFoot c (s.logicSample d t pins edges) ∧ Keeps c (s.logicSample d t pins edges) := by
  intro high low c
  have fold : ∀ (l : List Nat) (a : State × List Crossing), (l.foldl (fun (a : State × List Crossing) i =>
      let c := a.1.lgcChannel d t (bitAt high i) (bitAt low i) i
      (c.1, a.2 ++ c.2)) a).1 = a.1.channelsSampled d t high low l := fun l => by
    induction l with
    | nil => exact fun _ => rfl
    | cons x l ih => exact fun a => ih _
  unfold logicSample
  rw [if_neg (by simp [lgcRuns, isSet, runs])]
  extract_lets s₁ before r s₂ after mask changed s₃
  have sampled : c = s₂ := (fold (List.range 16) (s₁, [])).symm
  have start : Within channelFoot c s₂ := by rw [← sampled]; exact .refl _ c
  have same : Keeps c s₂ := by rw [← sampled]; exact .refl c
  have recorded : Within channelFoot c s₃ := start.on fun _ hu => lcRecord_within (by decide +kernel) hu ..
  have kept : Keeps c s₃ := same.on _ fun _ h => lcRecord_keeps h ..
  exact ⟨recorded.on fun _ hu => arrive_within (by decide +kernel) hu _, kept.on _ fun v h => h.within (arrive_within (by decide +kernel) (.refl _ v) _)⟩

/-- What a sample does to one channel: its turn at a state that shows it as before. -/
theorem logicSample_turn {s : State} (hs : s.Sound) {d i : Nat} (hi : i < 16) (runs : s.rd F.LGC_STATUS.RUNNING [d] ≠ 0) (t : Nat) (pins : LogicPins)
    (edges : List LogicEdge) :
    let high := s.lgcOutput d pins edges i
    let low := decide (s.lgcLevel d i pins < s.lgcLower d i)
    ∃ u : State, u.Sound ∧ SameChannel d i s u ∧ SameChannel d i (u.lgcChannel d t high low i).1 (s.logicSample d t pins edges) ∧
      Keeps (u.lgcChannel d t high low i).1 (s.logicSample d t pins edges) := by
  intro high low
  obtain ⟨only, told⟩ := logicSample_runs runs t pins edges
  have seen : Within (Foot.without [.LGC_STATE, .i_lgcStart, .i_lgcHold] []) s (s.comparatorsSeen d edges (lgcBits (s.lgcOutput d pins edges))) :=
    ((Within.refl _ s).each fun _ _ hu => lgcEdge_within (by decide +kernel) hu ..).wr _ _ _ (by decide +kernel)
  obtain ⟨u, sound, same, after, kept⟩ := channelsSampled_turn (seen.sound hs) d t (lgcBits (s.lgcOutput d pins edges))
    (lgcBits fun i => decide (s.lgcLevel d i pins < s.lgcLower d i)) hi
  rw [lgcBits_bit _ hi, lgcBits_bit _ hi] at after kept
  exact ⟨u, sound, (SameChannel.of_within seen d i).trans same, after.trans (.of_within only d i), kept.trans told⟩

/-- A held channel reads the same where its hold-off does. -/
theorem lgcHeld_congr {s t : State} {d i : Nat} (h : t.rd I.lgcHold [d, i] = s.rd I.lgcHold [d, i]) (tick : Nat) : t.lgcHeld d i tick = s.lgcHeld d i tick := by
  rw [lgcHeld, lgcHeld, isSet, isSet, h]

end Machine.State

open Machine Machine.State

namespace Machine

theorem logicInputChange_completes {d t₀ : Nat} {balls : List (Int × Int)} {refs : Int × Int} {edges : List LogicEdge} {s : State} (hs : s.Sound) :
    let pins := LogicPins.of balls refs
    (s.rd F.LGC_STATUS.RUNNING [d] = 0 → Completes (.logicInputChange d t₀ balls refs edges) s fun t => t = s) ∧
    (s.rd F.LGC_STATUS.RUNNING [d] ≠ 0 → Completes (.logicInputChange d t₀ balls refs edges) s fun t => ∀ i : Nat, i < 16 →
      let high := s.lgcOutput d pins edges i
      let low := decide (s.lgcLevel d i pins < s.lgcLower d i)
      (s.lgcUpper d i ≤ s.lgcLevel d i pins → high = true) ∧
      (s.lgcLevel d i pins < min (s.lgcLower d i) (s.lgcUpper d i) → high = false ∧ low = true) ∧
      let was := bitAt (s.rd F.LGC_STATE.STATE [d]) i
      let unres := bitAt (s.rd F.LGC_STATE.UNRESOLVED [d]) i
      let now := bitAt (t.rd F.LGC_STATE.STATE [d]) i
      let unresNow := bitAt (t.rd F.LGC_STATE.UNRESOLVED [d]) i
      (bitAt (s.rd I.lgcStart [d]) i = true → now = high ∧ unresNow = (!high && !low) ∧
        bitAt (t.rd I.lgcStart [d]) i = false) ∧
      (bitAt (s.rd I.lgcStart [d]) i = false → unres = true →
        (high = true → now = true ∧ unresNow = false ∧ t.pends d 168 = true) ∧
        (high = false → now = was ∧ unresNow = true)) ∧
      (bitAt (s.rd I.lgcStart [d]) i = false → unres = false →
        (s.rd I.lgcHold [d, i] ≠ 0 → instGe (4096 * t₀) (s.rd I.lgcHold [d, i]) = false → now = was ∧ unresNow = false) ∧
        (s.rd I.lgcHold [d, i] = 0 ∨ instGe (4096 * t₀) (s.rd I.lgcHold [d, i]) = true → now = high ∧ unresNow = false))) := by
  intro pins
  refine ⟨fun stopped => ⟨_, rfl, if_pos (by simp [lgcRuns, isSet, stopped])⟩, fun runs => ⟨_, rfl, fun i hi => ?_⟩⟩
  intro high low
  refine ⟨fun above => ?_, fun below => ?_, ?_⟩
  · show (decide (s.lgcUpper d i ≤ s.lgcLevel d i pins) || _) = true
    rw [decide_eq_true above, Bool.true_or]
  · obtain ⟨lower, upper⟩ := lt_min_iff.mp below
    refine ⟨?_, decide_eq_true lower⟩
    show (decide (s.lgcUpper d i ≤ s.lgcLevel d i pins) || (!decide (s.lgcLevel d i pins < s.lgcLower d i) && _)) = false
    rw [decide_eq_true lower, decide_eq_false (Int.not_le.mpr upper)]
    rfl
  intro was unres now unresNow
  obtain ⟨u, sound, same, after, kept⟩ := logicSample_turn hs hi runs t₀ pins edges
  have waits : s.lgcHeld d i t₀ = u.lgcHeld d i t₀ := (lgcHeld_congr same.hold t₀).symm
  refine ⟨fun starts => ?_, fun started unresolved => ⟨fun rises => ?_, fun low => ?_⟩, fun started resolved => ?_⟩
  · obtain ⟨state, unr, ended⟩ := lgcChannel_starts sound d t₀ high low hi (same.starts.trans starts)
    exact ⟨after.state.trans state, after.unresolved.trans unr, after.starts.trans ended⟩
  · obtain ⟨state, unr, told⟩ := (lgcChannel_resolves sound d t₀ high low hi (same.starts.trans started) (same.unresolved.trans unresolved)).1 rises
    exact ⟨after.state.trans state, after.unresolved.trans unr, kept.pends (lgcChannel_sound sound ..) d 168 told⟩
  · have stays := (lgcChannel_resolves sound d t₀ high (decide (s.lgcLevel d i pins < s.lgcLower d i)) hi (same.starts.trans started)
      (same.unresolved.trans unresolved)).2 low
    rw [stays] at after
    exact ⟨after.state.trans same.state, (after.unresolved.trans same.unresolved).trans unresolved⟩
  · obtain ⟨unr, state⟩ := lgcChannel_follows sound d t₀ high low hi (same.starts.trans started) (same.unresolved.trans resolved)
    rw [← waits] at state
    refine ⟨fun held ahead => ⟨?_, after.unresolved.trans unr⟩, fun free => ⟨?_, after.unresolved.trans unr⟩⟩
    · rw [if_pos (by simp [lgcHeld, isSet, held, ahead])] at state
      exact (after.state.trans state).trans same.state
    · rw [if_neg (by rcases free with h | h <;> simp [lgcHeld, isSet, h])] at state
      exact after.state.trans state

theorem logicHoldoffEnd_completes {d i t₀ : Nat} {pins : LogicPins} {s : State} (hs : s.Sound) (hi : i < 16)
    (runs : s.rd F.LGC_STATUS.RUNNING [d] ≠ 0) (held : s.rd I.lgcHold [d, i] ≠ 0) :
    (instGe (4096 * t₀) (s.rd I.lgcHold [d, i]) = true → bitAt (s.rd I.lgcStart [d]) i = false → bitAt (s.rd F.LGC_STATE.UNRESOLVED [d]) i = false →
      Completes (.logicHoldoffEnd d i t₀ pins) s fun t => bitAt (t.rd F.LGC_STATE.STATE [d]) i = s.lgcOutput d pins [] i) ∧
    (instGe (4096 * t₀) (s.rd I.lgcHold [d, i]) = false → Completes (.logicHoldoffEnd d i t₀ pins) s fun t => t = s) := by
  constructor
  · intro past started resolved
    have free : s.lgcHeld d i t₀ = false := by simp [lgcHeld, past]
    obtain ⟨u, sound, same, after, -⟩ := logicSample_turn hs hi runs t₀ pins []
    obtain ⟨-, state⟩ := lgcChannel_follows sound d t₀ (s.lgcOutput d pins [] i) (decide (s.lgcLevel d i pins < s.lgcLower d i)) hi
      (same.starts.trans started) (same.unresolved.trans resolved)
    rw [lgcHeld_congr same.hold, free] at state
    refine completes_of_eq rfl (on_of_true ?_ s _) (after.state.trans state)
    simp [isSet, held, free]
  · intro ahead
    exact completes_of_eq rfl (on_of_false (by simp [lgcHeld, isSet, ahead]) s _) rfl

end Machine

end Sys2Proof
end

section
/-!
PROOFS. Writes of a logic channel's configuration, the ESCAPE of the logic records (R89, R263, R265, R268), and the statement of the logic
channels and the time-interval units put together.
-/

namespace Sys2Proof.Machine

-- One proof at a time: proofs elaborated side by side ask for more memory than a compile of the whole text may take.
set_option Elab.async false

namespace State

-- LGC_CH_CFG (R263, R265, R268): the steps of a write -----------------------------------------------------------------------------------

/-- The write asks for another MODE. -/
def lgcNewMode (s : State) (d i v : Nat) : Bool := slice v 0 1 != s.rd F.LGC_CH_CFG.MODE [d, i]

/-- It asks so of a channel in use. -/
def lgcModeUsed (s : State) (d i v : Nat) : Bool := s.lgcNewMode d i v && s.lgcInUse d i

/-- THRESH or HYST is out of its range. -/
def lgcBadRange (v : Nat) : Bool := sval 11 (slice v 1 11) < -600 || 600 < sval 11 (slice v 1 11) || 100 < slice v 12 7

/-- MODE is written and the channel starts again. -/
def lgcRemode (d i v : Nat) (changes : Bool) (s : State) : State :=
  s.on changes fun s => (s.wr F.LGC_CH_CFG.MODE [d, i] (slice v 0 1)).wr I.lgcStart [d] (setBit (s.rd I.lgcStart [d]) i) |>.lgcPut d i false true
    |>.wr I.lgcHold [d, i] 0

/-- THRESH and HYST are written. -/
def lgcRelevel (d i v : Nat) (good : Bool) (s : State) : State :=
  s.on good fun s => (s.wr F.LGC_CH_CFG.THRESH [d, i] (slice v 1 11)).wr F.LGC_CH_CFG.HYST [d, i] (slice v 12 7)

/-- HOLDOFF is written, in force from the next block on. -/
def lgcRehold (d i v : Nat) (s : State) : State :=
  s.on (slice v 19 6 ≤ 50) fun s =>
    ((s.wr I.lgcOff [d, i] (s.lgcHoldoff d i (s.blkOf d))).wr I.lgcOffAt [d, i] (s.nextBlk d)).wr F.LGC_CH_CFG.HOLDOFF [d, i] (slice v 19 6)

theorem writeLgcCfg_eq (d i v : Nat) (s : State) : writeLgcCfg d i v s =
    (lgcRehold d i v (lgcRelevel d i v (!lgcBadRange v) (lgcRemode d i v (s.lgcNewMode d i v && !s.lgcModeUsed d i v)
      (s.on (s.lgcModeUsed d i v || lgcBadRange v) fun s => s.lgcReject d i))),
      if s.lgcModeUsed d i v then 0x0212 else if lgcBadRange v || 50 < slice v 19 6 then 0x0100 else 0) := rfl

-- What each step shows

theorem lgcReject_shows {s : State} (hs : s.Sound) (d i : Nat) (b : Bool) :
    let t := s.on b fun s => s.lgcReject d i
    t.Sound ∧ (∀ f : Fld, f.reg ∉ .LGC_STATUS :: Reg.ofEvents → ∀ ix, t.rd f ix = s.rd f ix) ∧
      (b = true → t.rd F.LGC_STATUS.CFG_REJECT [d] ≠ 0 ∧ (s.rd F.LGC_STATUS.CFG_REJECT [d] = 0 → t.pends d 169 = true)) := by
  intro t
  have only : Within (Foot.of (.LGC_STATUS :: Reg.ofEvents) (.fresh :: Part.ofEvents)) s t :=
    (Within.refl _ s).on fun _ hu => lgcReject_within (by decide +kernel) hu ..
  refine ⟨only.sound hs, fun f hf ix => only.rd_of hf ix, fun rejects => ?_⟩
  rw [show t = s.lgcReject d i from on_of_true rejects ..]
  exact stick_shows hs (by decide) (by decide) ..

theorem lgcRemode_only (d i v : Nat) (b : Bool) (s : State) :
    Within (Foot.of [.LGC_CH_CFG, .i_lgcStart, .LGC_STATE, .i_lgcHold] []) s (lgcRemode d i v b s) :=
  (Within.refl _ s).on fun _ hu => (lgcPut_within (by decide +kernel) ((hu.wr _ _ _ (by decide +kernel)).wr _ _ _ (by decide +kernel)) ..).wr _ _ _
    (by decide +kernel)

theorem lgcRemode_cfg {f : Fld} (hr : f.reg = .LGC_CH_CFG) (hl : f.lo ≠ F.LGC_CH_CFG.MODE.lo) (d i v : Nat) (b : Bool) (s : State) (ix : List Nat) :
    (lgcRemode d i v b s).rd f ix = s.rd f ix := by
  have e : ∀ {r : Reg}, r ≠ .LGC_CH_CFG → f.reg ≠ r := fun h => hr ▸ h.symm
  cases b
  · rfl
  · rw [lgcRemode, on_true, rd_wr_of_reg (e (by decide)), lgcPut, rd_wr_of_reg (e (by decide)), rd_wr_of_reg (e (by decide)),
      rd_wr_of_reg (e (by decide)), rd_wr_of_lo hl]

theorem lgcRemode_changes {s : State} (hs : s.Sound) (d v : Nat) {i : Nat} (hi : i < 16) :
    let t := lgcRemode d i v true s
    t.rd F.LGC_CH_CFG.MODE [d, i] = v % 2 ∧ bitAt (t.rd I.lgcStart [d]) i = true ∧ bitAt (t.rd F.LGC_STATE.STATE [d]) i = false := by
  intro t
  let a : State := (s.wr F.LGC_CH_CFG.MODE [d, i] (slice v 0 1)).wr I.lgcStart [d] (setBit (s.rd I.lgcStart [d]) i)
  have run : t = (a.lgcPut d i false true).wr I.lgcHold [d, i] 0 := rfl
  have sound : a.Sound := Sound.wr hs.wr
  rw [run, rd_wr_of_reg (by decide), rd_wr_of_reg (by decide), rd_wr_of_reg (by decide)]
  refine ⟨?_, ?_, (lgcPut_shows sound d hi false true).1⟩
  · rw [lgcPut, rd_wr_of_reg (by decide), rd_wr_of_reg (by decide), rd_wr_of_reg (by decide), rd_wr_self hs.regs, slice, Nat.pow_zero, Nat.div_one]
    exact Nat.mod_mod _ _
  · rw [lgcPut, rd_wr_of_reg (by decide), rd_wr_of_reg (by decide), rd_wr_self (Sound.wr hs).regs, bitAt_trunc (w := 16) hi, bitAt_setBit_self]

theorem lgcRelevel_only (d i v : Nat) (b : Bool) (s : State) : Within (Foot.of [.LGC_CH_CFG] []) s (lgcRelevel d i v b s) :=
  (Within.refl _ s).on fun _ hu => (hu.wr _ _ _ (by decide +kernel)).wr _ _ _ (by decide +kernel)

theorem lgcRelevel_other {f : Fld} (ht : f.lo ≠ F.LGC_CH_CFG.THRESH.lo) (hh : f.lo ≠ F.LGC_CH_CFG.HYST.lo) (d i v : Nat) (b : Bool) (s : State)
    (ix : List Nat) : (lgcRelevel d i v b s).rd f ix = s.rd f ix := by
  cases b
  · rfl
  · rw [lgcRelevel, on_true, rd_wr_of_lo hh, rd_wr_of_lo ht]

theorem lgcRelevel_shows {s : State} (hs : s.Sound) (d i v : Nat) : let t := lgcRelevel d i v true s
    t.rd F.LGC_CH_CFG.THRESH [d, i] = v / 2 % 2 ^ 11 ∧ t.rd F.LGC_CH_CFG.HYST [d, i] = v / 2 ^ 12 % 2 ^ 7 := by
  intro t
  rw [show t = (s.wr F.LGC_CH_CFG.THRESH [d, i] (slice v 1 11)).wr F.LGC_CH_CFG.HYST [d, i] (slice v 12 7) from rfl]
  constructor
  · rw [rd_wr_of_lo (by decide), rd_wr_self hs.regs]
    exact Nat.mod_mod _ _
  · rw [rd_wr_self (Sound.wr hs).regs]
    exact Nat.mod_mod _ _

theorem lgcRehold_only (d i v : Nat) (s : State) : Within (Foot.of [.LGC_CH_CFG, .i_lgcOff, .i_lgcOffAt] []) s (lgcRehold d i v s) :=
  (Within.refl _ s).on fun _ hu => ((hu.wr _ _ _ (by decide +kernel)).wr _ _ _ (by decide +kernel)).wr _ _ _ (by decide +kernel)

theorem lgcRehold_other {f : Fld} (hr : f.reg = .LGC_CH_CFG) (hl : f.lo ≠ F.LGC_CH_CFG.HOLDOFF.lo) (d i v : Nat) (s : State) (ix : List Nat) :
    (lgcRehold d i v s).rd f ix = s.rd f ix := by
  have e : ∀ {r : Reg}, r ≠ .LGC_CH_CFG → f.reg ≠ r := fun h => hr ▸ h.symm
  unfold lgcRehold
  cases decide (slice v 19 6 ≤ 50)
  · rfl
  · rw [on_true, rd_wr_of_lo hl, rd_wr_of_reg (e (by decide)), rd_wr_of_reg (e (by decide))]

theorem lgcRehold_shows {s : State} (hs : s.Sound) (d i v : Nat) : (lgcRehold d i v s).rd F.LGC_CH_CFG.HOLDOFF [d, i] =
    if v / 2 ^ 19 % 2 ^ 6 ≤ 50 then v / 2 ^ 19 % 2 ^ 6 else s.rd F.LGC_CH_CFG.HOLDOFF [d, i] := by
  have field : slice v 19 6 = v / 2 ^ 19 % 2 ^ 6 := rfl
  by_cases small : v / 2 ^ 19 % 2 ^ 6 ≤ 50
  · rw [if_pos small, lgcRehold, on_of_true (by rw [field]; exact decide_eq_true small), rd_wr_self (Sound.wr hs.wr).regs]
    exact Nat.mod_mod _ _
  · rw [if_neg small, lgcRehold, on_of_false (by rw [field]; exact decide_eq_false small)]

/-- A write that answers a code acts at once, any other as its core cycle ends (R263, R265). -/
theorem nextBlockWrite_completes {c : Instr} {d : Nat} {f : State → State × Nat} {s : State} {P : State → Prop} (reach : s.hostReach d = true)
    (run : exec c s = .next (s.hostWrite d fun s => s.nextBlockWrite c f)) (done : P (f s).1) :
    ((f s).2 ≠ 0 → Completes c s P) ∧ ((f s).2 = 0 → CompletesAtEnd c s P) := by
  have whole : exec c s = .next (s.nextBlockWrite c f) := run.trans (congrArg Host.Outcome.next (hostWrite_of_reach reach _))
  refine ⟨fun refused => completes_of_eq whole (if_pos (by simp [refused])) done,
    fun accepted => ⟨fun runs => completes_of_eq whole (if_neg (by simp [runs, accepted])) rfl, fun ends => completes_of_eq whole (if_pos (by simp [ends])) done⟩⟩

end State

open State

theorem logicCfgWrite_completes {c : Instr} {d i v : Nat} {s : State} (hs : s.Sound) (reach : s.hostReach d = true) (hi : i < 16)
    (kind : c = .logicModeWrite d i v ∨ c = .logicThreshWrite d i v) :
    let th := sval 11 (v / 2 % 2 ^ 11)
    let inRange := -600 ≤ th ∧ th ≤ 600 ∧ v / 2 ^ 12 % 2 ^ 7 ≤ 100
    let refused := (v % 2 ≠ s.rd F.LGC_CH_CFG.MODE [d, i] ∧ s.lgcInUse d i = true) ∨ ¬inRange ∨ 50 < v / 2 ^ 19 % 2 ^ 6
    let after (t : State) :=
      (v % 2 = s.rd F.LGC_CH_CFG.MODE [d, i] → t.rd F.LGC_CH_CFG.MODE [d, i] = v % 2 ∧
        t.rd I.lgcStart [d] = s.rd I.lgcStart [d] ∧ t.rd F.LGC_STATE.STATE [d] = s.rd F.LGC_STATE.STATE [d]) ∧
      (v % 2 ≠ s.rd F.LGC_CH_CFG.MODE [d, i] → s.lgcInUse d i = true →
        t.rd F.LGC_CH_CFG.MODE [d, i] = s.rd F.LGC_CH_CFG.MODE [d, i] ∧ t.rd F.LGC_STATUS.CFG_REJECT [d] ≠ 0 ∧
        (s.rd F.LGC_STATUS.CFG_REJECT [d] = 0 → t.pends d 169 = true)) ∧
      (v % 2 ≠ s.rd F.LGC_CH_CFG.MODE [d, i] → s.lgcInUse d i = false → t.rd F.LGC_CH_CFG.MODE [d, i] = v % 2 ∧
        bitAt (t.rd I.lgcStart [d]) i = true ∧ bitAt (t.rd F.LGC_STATE.STATE [d]) i = false) ∧
      (inRange → t.rd F.LGC_CH_CFG.THRESH [d, i] = v / 2 % 2 ^ 11 ∧ t.rd F.LGC_CH_CFG.HYST [d, i] = v / 2 ^ 12 % 2 ^ 7) ∧
      (¬inRange → t.rd F.LGC_CH_CFG.THRESH [d, i] = s.rd F.LGC_CH_CFG.THRESH [d, i] ∧
        t.rd F.LGC_CH_CFG.HYST [d, i] = s.rd F.LGC_CH_CFG.HYST [d, i] ∧ t.rd F.LGC_STATUS.CFG_REJECT [d] ≠ 0) ∧
      t.rd F.LGC_CH_CFG.HOLDOFF [d, i] = if v / 2 ^ 19 % 2 ^ 6 ≤ 50 then v / 2 ^ 19 % 2 ^ 6 else s.rd F.LGC_CH_CFG.HOLDOFF [d, i]
    (refused → Completes c s after) ∧ (¬refused → CompletesAtEnd c s after) := by
  intro th inRange refused after
  have low : slice v 0 1 = v % 2 := by simp [slice]
  have mode : s.lgcNewMode d i v = true ↔ v % 2 ≠ s.rd F.LGC_CH_CFG.MODE [d, i] := by rw [lgcNewMode, low, bne_iff_ne]
  have range : lgcBadRange v = false ↔ inRange := by
    have third : slice v 1 11 = v / 2 % 2 ^ 11 := by simp [slice]
    have fourth : slice v 12 7 = v / 2 ^ 12 % 2 ^ 7 := rfl
    rw [lgcBadRange, third, fourth, Bool.or_eq_false_iff, Bool.or_eq_false_iff, decide_eq_false_iff_not, decide_eq_false_iff_not,
      decide_eq_false_iff_not, Int.not_lt, Int.not_lt, Nat.not_lt, and_assoc]
  -- The steps of the write.
  let used := s.lgcModeUsed d i v
  let a : State := s.on (used || lgcBadRange v) fun s => s.lgcReject d i
  let b : State := lgcRemode d i v (s.lgcNewMode d i v && !used) a
  let e : State := lgcRelevel d i v (!lgcBadRange v) b
  let t : State := lgcRehold d i v e
  have run : (writeLgcCfg d i v s).1 = t := rfl
  obtain ⟨aSound, aRest, rejects⟩ := lgcReject_shows hs d i (used || lgcBadRange v)
  have bOnly := lgcRemode_only d i v (s.lgcNewMode d i v && !used) a
  have bSound : b.Sound := bOnly.sound aSound
  have eOnly := lgcRelevel_only d i v (!lgcBadRange v) b
  have eSound : e.Sound := eOnly.sound bSound
  have tOnly := lgcRehold_only d i v e
  have flagged : (used || lgcBadRange v) = true → t.rd F.LGC_STATUS.CFG_REJECT [d] ≠ 0 ∧ (s.rd F.LGC_STATUS.CFG_REJECT [d] = 0 → t.pends d 169 = true) := by
    intro bad
    have later : Within (Foot.of [.LGC_CH_CFG, .i_lgcStart, .LGC_STATE, .i_lgcHold, .i_lgcOff, .i_lgcOffAt] []) a t :=
      ((bOnly.mono (by decide +kernel)).trans (eOnly.mono (by decide +kernel))).trans (tOnly.mono (by decide +kernel))
    rw [later.rd _ _ (by decide +kernel), State.pends, later.rd _ _ (by decide +kernel)]
    exact rejects bad
  have modeOf : t.rd F.LGC_CH_CFG.MODE [d, i] = b.rd F.LGC_CH_CFG.MODE [d, i] :=
    (lgcRehold_other rfl (by decide) ..).trans (lgcRelevel_other (by decide) (by decide) ..)
  have startOf : t.rd I.lgcStart [d] = b.rd I.lgcStart [d] := (tOnly.rd _ _ (by decide +kernel)).trans (eOnly.rd _ _ (by decide +kernel))
  have stateOf : t.rd F.LGC_STATE.STATE [d] = b.rd F.LGC_STATE.STATE [d] := (tOnly.rd _ _ (by decide +kernel)).trans (eOnly.rd _ _ (by decide +kernel))
  have shown : after t := by
    refine ⟨fun same => ?_, fun change uses => ?_, fun change free => ?_, fun inside => ?_, fun outside => ?_, ?_⟩
    · have none : s.lgcNewMode d i v = false := by
        by_contra h
        exact mode.mp (by simpa using h) same
      have stays : b = a := on_of_false (by simp [none]) ..
      rw [modeOf, startOf, stateOf, stays]
      exact ⟨(aRest _ (by decide) _).trans same.symm, aRest _ (by decide) _, aRest _ (by decide) _⟩
    · have uses' : used = true := Bool.and_eq_true_iff.mpr ⟨mode.mpr change, uses⟩
      have stays : b = a := on_of_false (by simp [uses']) ..
      obtain ⟨reject, told⟩ := flagged (by simp [uses'])
      exact ⟨by rw [modeOf, stays]; exact aRest _ (by decide) _, reject, told⟩
    · have free' : used = false := by simp [used, lgcModeUsed, free]
      have changes : b = lgcRemode d i v true a := by
        show lgcRemode d i v (s.lgcNewMode d i v && !used) a = _
        rw [mode.mpr change, free']
        rfl
      rw [modeOf, startOf, stateOf, changes]
      exact lgcRemode_changes aSound d v hi
    · have good : e = lgcRelevel d i v true b := by
        show lgcRelevel d i v (!lgcBadRange v) b = _
        rw [range.mpr inside]
        rfl
      rw [show t.rd F.LGC_CH_CFG.THRESH [d, i] = e.rd F.LGC_CH_CFG.THRESH [d, i] from lgcRehold_other rfl (by decide) ..,
        show t.rd F.LGC_CH_CFG.HYST [d, i] = e.rd F.LGC_CH_CFG.HYST [d, i] from lgcRehold_other rfl (by decide) .., good]
      exact lgcRelevel_shows bSound d i v
    · have bad : lgcBadRange v = true := by
        by_contra h
        exact outside (range.mp (by simpa using h))
      have stays : e = b := on_of_false (by simp [bad]) ..
      have kept : ∀ f : Fld, f.reg = .LGC_CH_CFG → f.lo ≠ F.LGC_CH_CFG.MODE.lo → f.lo ≠ F.LGC_CH_CFG.HOLDOFF.lo → t.rd f [d, i] = s.rd f [d, i] :=
        fun f hr hm hh => by
          rw [show t.rd f [d, i] = e.rd f [d, i] from lgcRehold_other hr hh .., stays]
          exact (lgcRemode_cfg hr hm ..).trans (aRest f (by rw [hr]; decide) _)
      exact ⟨kept _ rfl (by decide) (by decide), kept _ rfl (by decide) (by decide), (flagged (by simp [bad])).1⟩
    · have before : e.rd F.LGC_CH_CFG.HOLDOFF [d, i] = s.rd F.LGC_CH_CFG.HOLDOFF [d, i] :=
        (lgcRelevel_other (by decide) (by decide) ..).trans ((lgcRemode_cfg rfl (by decide) ..).trans (aRest _ (by decide) _))
      rw [← before]
      exact lgcRehold_shows eSound d i v
  have code : (writeLgcCfg d i v s).2 ≠ 0 ↔ refused := by
    rw [writeLgcCfg_eq]
    show (if s.lgcModeUsed d i v = true then 0x0212 else if (lgcBadRange v || decide (50 < slice v 19 6)) = true then 0x0100 else 0) ≠ 0 ↔ _
    have uses : s.lgcModeUsed d i v = true ↔ v % 2 ≠ s.rd F.LGC_CH_CFG.MODE [d, i] ∧ s.lgcInUse d i = true := by
      rw [lgcModeUsed, Bool.and_eq_true_iff, mode]
    have bad : (lgcBadRange v || decide (50 < slice v 19 6)) = true ↔ ¬inRange ∨ 50 < v / 2 ^ 19 % 2 ^ 6 := by
      rw [Bool.or_eq_true, decide_eq_true_eq, ← range, Bool.not_eq_false]
      rfl
    by_cases first : s.lgcModeUsed d i v = true
    · rw [if_pos first]
      exact iff_of_true (by decide) (.inl (uses.mp first))
    · rw [if_neg first]
      by_cases second : (lgcBadRange v || decide (50 < slice v 19 6)) = true
      · rw [if_pos second]
        exact iff_of_true (by decide) (.inr (bad.mp second))
      · rw [if_neg second]
        exact iff_of_false (by decide) fun h => h.elim (fun h => first (uses.mpr h)) fun h => second (bad.mpr h)
  have acts : exec c s = .next (s.hostWrite d fun s => s.nextBlockWrite c (writeLgcCfg d i v)) := by rcases kind with rfl | rfl <;> rfl
  obtain ⟨now, later⟩ := nextBlockWrite_completes (P := after) reach acts (run ▸ shown)
  exact ⟨fun h => now (code.mpr h), fun h => later (not_not.mp fun bad => h (code.mp bad))⟩

-- An ESCAPE (R89) ------------------------------------------------------------------------------------------------------------------------

namespace State

theorem acqOf_congr {s t : State} (h : t.acq = s.acq) (d a : Nat) : t.acqOf d a = s.acqOf d a := congrArg (·.getD (3 * d + a) Acq.idle) h

/-- The set replaced is the one that reads. -/
theorem acqOf_setAcq {s : State} (hs : s.Sound) {d a : Nat} (hd : d < 2) (ha : a < 3) (x : Acq) : (s.setAcq d a x).acqOf d a = x := by
  have place : 3 * d + a < (s.acq.set (3 * d + a) x).length := by
    rw [List.length_set, hs.acq]
    omega
  rw [acqOf, setAcq, List.getD_eq_getElem _ _ place, List.getElem_set_self]

theorem setAcq_sound {s : State} (hs : s.Sound) (d a : Nat) (x : Acq) : (s.setAcq d a x).Sound :=
  (setAcq_within (M := 2 ^ 700 - 1) (by decide +kernel) (.refl _ s) d a x).sound hs

theorem writeSample_only (s : State) (d a base n bits v : Nat) : Within (Foot.of [] [.mem]) s (s.writeSample d a base n bits v) :=
  writeSample_within (by decide +kernel) (.refl _ s) ..

section
variable {s : State} (hs : s.Sound) {d : Nat} (hd : d < 2) (none : (s.acqOf d 2).gap = none)
include hs hd none

/-- Words into a slot open no gap. -/
theorem lcSlotWords_gap (ws : List Nat) : (s.lcSlotWords d ws).Sound ∧ ((s.lcSlotWords d ws).acqOf d 2).gap = Option.none := by
  unfold lcSlotWords
  dsimp only
  generalize max 1 (s.rd F.ACQ_SEG_LEN.LEN [d, 2]) = len
  induction ws generalizing s with
  | nil => exact ⟨hs, none⟩
  | cons v ws ih =>
    have sound : (s.writeSample d 2 ((s.acqOf d 2).seg.slot * len * 8) ((s.acqOf d 2).lc.words % len) 64 v).Sound := (writeSample_only ..).sound hs
    refine ih (setAcq_sound sound ..) ?_
    rw [acqOf_setAcq sound hd (by decide)]
    exact none

/-- A record of a slot opens no gap. -/
theorem lcSlotRecord_gap (tick : Nat) (ws : List Nat) : (s.lcSlotRecord d tick ws).Sound ∧ ((s.lcSlotRecord d tick ws).acqOf d 2).gap = Option.none := by
  unfold lcSlotRecord
  dsimp only
  split
  · exact ⟨hs, none⟩
  split
  · exact lcSlotWords_gap hs hd none ws
  split
  · exact ⟨setAcq_sound hs .., by rw [acqOf_setAcq hs hd (by decide)]; exact none⟩
  · have begun : (s.lcOpenRun d).Sound ∧ ((s.lcOpenRun d).acqOf d 2).gap = Option.none := by
      unfold lcOpenRun
      refine lcSlotWords_gap (setAcq_sound hs ..) hd ?_ _
      rw [acqOf_setAcq hs hd (by decide)]
      exact none
    exact lcSlotWords_gap begun.1 hd begun.2 ws

end

end State

theorem lcEscape_completes {d : Nat} {s : State} (hs : s.Sound) (hd : d < 2)
    (due : dtGe s.dt (dtAdd (s.acqOf d 2).lc.lastTick (2 ^ 47)) = true) (armed : s.armed d 2 = true) (slots : s.streaming d 2 = false)
    (none : (s.acqOf d 2).gap = none) (free : s.remapHolds d 2 = false) : Completes (.lcEscape d) s fun t =>
      (t.acqOf d 2).lc.lastTick = dtAdd (s.acqOf d 2).lc.lastTick (2 ^ 47) := by
  let tick := dtAdd (s.acqOf d 2).lc.lastTick (2 ^ 47)
  let a : State := s.lcSlotRecord d tick [lcControl 3]
  obtain ⟨sound, empty⟩ := lcSlotRecord_gap hs hd none tick [lcControl 3]
  have run : s.lcEscape d = a.setAcq d 2 { a.acqOf d 2 with lc := { (a.acqOf d 2).lc with lastTick := tick } } := by
    unfold lcEscape
    dsimp only
    rw [if_neg (by simp [armed, none, free]), slots, if_neg Bool.false_ne_true]
    exact if_neg (by rw [show (s.lcSlotRecord d tick [lcControl 3]).acqOf d 2 = a.acqOf d 2 from rfl, empty]; decide)
  refine completes_of_eq (congrArg Host.Outcome.next (on_of_true due s _)) run ?_
  rw [acqOf_setAcq sound hd (by decide)]

/-- Settles O22: a logic sample goes channel by channel, each of which touches its own bits only; a write of a channel goes field by field;
and an event of a time-interval unit is noted and then goes to the measurement of the unit's mode. -/
theorem logicChannelsAndIntervals : Obligations.LogicChannelsAndIntervals := by
  unfold Obligations.LogicChannelsAndIntervals
  refine ⟨fun d t₀ balls refs edges s hs => logicInputChange_completes hs,
    fun d i t₀ pins s hs hi runs held => logicHoldoffEnd_completes hs hi runs held,
    fun c d i v s hs reach hi kind => logicCfgWrite_completes hs reach hi kind,
    fun d s hs hd due armed slots none free => lcEscape_completes hs hd due armed slots none free,
    fun d u v s hs hd hu reach enable => ⟨timCtrlEnable_of_enabled hs reach enable, timCtrlEnable_of_disabled hs hd hu reach enable⟩,
    fun d u v s hs hd hu reach disable => ⟨timCtrlDisable_of_disabled hs reach disable, timCtrlDisable_of_enabled hs hd hu reach disable⟩,
    fun d u tick start s hs hd hu stops past idle room => timEventProcess_drains hs hd hu stops past idle room,
    fun c d u s kind full runs => full_waits kind full runs,
    fun d u s _ idle runs lands => timEventProcess_idle idle runs lands,
    fun v l s hs hd hu held ready last within runs lands room => timEventProcess_suppresses hs hd hu held ready last within runs lands room,
    fun v s hs one mode => timEventProcess_interval hs one mode, fun v s hs one mode => timEventProcess_period hs one mode,
    fun v s hs one => timEventProcess_counts hs one,
    fun a b s hs hd hu die unit start stop ha hb later held readyA readyB mode =>
      timEventProcess_orders hs hd hu die unit start stop ha hb later held readyA readyB mode,
    fun d u s hs hd hu => timGateEnd_completes hs hd hu,
    fun d u e v s hs reach => ⟨fun free => ?_, fun armed => timCueWrite_of_armed hs reach armed v⟩,
    fun d u e s hs _ _ _ => timCueFire_completes hs, fun d u s hs hd hu reach => timResRead_completes hs hd hu reach⟩
  exact ⟨(timCueWrite_ticks hs reach free v).1, (timCueWrite_ticks hs reach free v).2, timCueWrite_word2 hs reach free v⟩

end Sys2Proof.Machine
end

section
/-!
PROOFS. Writes of ACQ_CMD that start and stop a set, and the stop cycle (R193, R196).
-/

namespace Sys2Proof.Machine

-- One proof at a time: proofs elaborated side by side ask for more memory than a compile of the whole text may take.
set_option Elab.async false

namespace State

/-- A hardware flag changes no register but its own field. -/
theorem flag_get_of_ne {f : Fld} {ix : List Nat} {k : RegKey} (h : k ≠ ⟨f.reg, f.lo, ix⟩) (s : State) :
    (s.flag f ix).regs.get k = s.regs.get k := RegFile.get_put_of_ne h ..

/-- A write of ACQ_CMD that host software gets through does what its bits say (R193). -/
theorem acqCmd_of_reach {s : State} {d : Nat} (reach : s.hostReach d = true) (a v : Nat) (f : State → State) :
    s.acqCmd d a v f = if bitAt v 0 && bitAt v 1 then s.flag F.ACQ_STATUS.CMD_REJECT [d, a] else f s := hostWrite_of_reach reach _

theorem acqCmd_of_both {s : State} {d v : Nat} (reach : s.hostReach d = true) (arm : bitAt v 0 = true) (stop : bitAt v 1 = true) (a : Nat)
    (f : State → State) : s.acqCmd d a v f = s.flag F.ACQ_STATUS.CMD_REJECT [d, a] := by
  rw [acqCmd_of_reach reach, arm, stop]
  rfl

theorem acqCmd_of_noArm {s : State} {d v : Nat} (reach : s.hostReach d = true) (arm : bitAt v 0 = false) (a : Nat) (f : State → State) :
    s.acqCmd d a v f = f s := by
  rw [acqCmd_of_reach reach, arm]
  rfl

theorem acqCmd_of_noStop {s : State} {d v : Nat} (reach : s.hostReach d = true) (stop : bitAt v 1 = false) (a : Nat) (f : State → State) :
    s.acqCmd d a v f = f s := by
  rw [acqCmd_of_reach reach, stop, Bool.and_false]
  rfl

/-- ACQ_CMD with both bits shows CMD_REJECT and does nothing else (R193). -/
theorem cmdReject_shows {s : State} (hs : s.Sound) (d a : Nat) :
    let t := s.flag F.ACQ_STATUS.CMD_REJECT [d, a]
    t.rd F.ACQ_STATUS.CMD_REJECT [d, a] = 1 ∧ ∀ k : RegKey, k ≠ ⟨.ACQ_STATUS, F.ACQ_STATUS.CMD_REJECT.lo, [d, a]⟩ → t.regs.get k = s.regs.get k :=
  ⟨rd_wr_self_of_lt hs _ _ (by decide), fun _ h => flag_get_of_ne h s⟩

-- A stop (R196, R381) ------------------------------------------------------------------------------------------------------------------

/-- What a stop withdraws leaves the sets. -/
theorem withdrawWith_sets (s : State) (code : Nat) (p : Deferred → Bool) :
    Within (Foot.without [.ACQ_STATUS, .i_stopAsked] [.acq]) s (s.withdrawWith code p) := withdrawWith_within (by decide +kernel) (.refl _ s) ..

/-- A stop of an armed set fixes its stop instant once (R196). -/
theorem requestStop_of_armed {s : State} (hs : s.Sound) {d a : Nat} (hd : d < 2) (ha : a < 3) (armed : s.rd F.ACQ_STATUS.STATE [d, a] ≠ 0)
    (runs : (s.acqOf d a).stopAt = none) (dt : Instant) :
    ((s.requestStop d a dt).acqOf d a).stopAt = some dt ∧
      (s.requestStop d a dt).rd F.ACQ_STATUS.STATE [d, a] = s.rd F.ACQ_STATUS.STATE [d, a] := by
  have on : s.armed d a = true := bne_iff_ne.2 armed
  have run : s.requestStop d a dt =
      (s.setAcq d a { s.acqOf d a with stopAt := some dt }).withdrawWith 0x0203 fun x => x.req == .arm d a := by
    rw [requestStop, if_pos on, stopAt, if_pos ⟨on, runs⟩]
  have kept := withdrawWith_sets (s.setAcq d a { s.acqOf d a with stopAt := some dt }) 0x0203 fun x => x.req == .arm d a
  rw [run]
  refine ⟨?_, kept.rd _ _ (by decide +kernel)⟩
  rw [acqOf_congr (kept.parts .acq (by decide +kernel)), acqOf_setAcq hs hd ha]

/-- A stop of an IDLE set is noted for an arm of the same core cycle (R193). -/
theorem requestStop_of_idle {s : State} (hs : s.Sound) {d a : Nat} (idle : s.rd F.ACQ_STATUS.STATE [d, a] = 0) (dt : Instant) :
    (s.requestStop d a dt).acq = s.acq ∧ (s.requestStop d a dt).rd I.stopAsked [d, a] = (s.now + 1) % 2 ^ 128 := by
  have off : ¬s.armed d a = true := by simp [armed, isSet, idle]
  let u : State := (s.wr I.stopAsked [d, a] (s.now + 1)).wr I.stopAt [d, a] dt
  have run : s.requestStop d a dt = u.withdrawWith 0x0203 fun x => x.req == .arm d a := by rw [requestStop, if_neg off]
  have kept := withdrawWith_sets u 0x0203 fun x => x.req == .arm d a
  rw [run]
  refine ⟨kept.parts .acq (by decide +kernel), ?_⟩
  rw [kept.rd _ _ (by decide +kernel), rd_wr_of_reg (by decide), rd_wr_self hs.regs]

-- The stop cycle (R196) ----------------------------------------------------------------------------------------------------------------

/-- A set that ends raises ACQ_STATE (R220). -/
theorem idleSet_pends {s : State} (hs : s.Sound) (d a cause : Nat) : (s.idleSet d a cause).pends d 121 = true := by
  unfold idleSet
  extract_lets u b x idx c v y g w
  have hv : Within (2 ^ 700 - 1) s v := by
    have hu : Within (2 ^ 700 - 1) s u := closeGap_within (by decide +kernel) (.refl _ s) d a
    unfold v
    split
    · exact setBuf_within (by decide +kernel) hu ..
    · exact hu
  have sound : (w.wr F.ACQ_STATUS.STATE [d, a] 0).Sound := (setAcq_sound (hv.sound hs) ..).wr
  have raised : ((w.wr F.ACQ_STATUS.STATE [d, a] 0).raiseAcqState d a cause).pends d 121 = true := raise_pends sound ..
  have last : Within Foot.quiet _ (((w.wr F.ACQ_STATUS.STATE [d, a] 0).raiseAcqState d a cause).seqDisarm d) :=
    seqDisarm_within (by decide +kernel) (.refl _ _) d
  exact (Keeps.of_within last).pends (raise_sound sound ..) _ _ raised

/-- An armed set that ends raises ACQ_STATE (R196, R220). -/
theorem endSet_pends {s : State} (hs : s.Sound) {d a : Nat} (armed : s.rd F.ACQ_STATUS.STATE [d, a] ≠ 0) (cause : Nat) :
    (s.endSet d a cause).pends d 121 = true := by
  have on : s.armed d a = true := bne_iff_ne.2 armed
  unfold endSet
  rw [if_neg (by simp [on])]
  extract_lets lost u x post v
  have hu : Keeps s u := closeGap_keeps (.refl s) d a
  have hv : Keeps s v := by
    unfold v
    split
    · exact completeSeg_keeps (hu.on _ fun _ h => gapRecord_keeps h ..) ..
    · exact hu.on _ fun _ h => gapRecord_keeps h ..
  exact idleSet_pends (hv.sound hs) ..

end State

/-- The stop cycle of a set (R196). -/
theorem acqStopCycle_ends {s : State} (hs : s.Sound) (d a : Nat) :
    (s.rd F.ACQ_STATUS.STATE [d, a] ≠ 0 → s.stopReached d a = true → Completes (.acqStopCycle d a) s fun t =>
      t.rd F.ACQ_STATUS.STATE [d, a] = 0 ∧ t.pends d 121 = true) ∧
    (s.stopReached d a = false → Completes (.acqStopCycle d a) s fun t => t = s) :=
  ⟨fun armed reached => completes_of_eq rfl (State.on_of_true reached ..) ⟨(State.endSet_idles hs d a 1).2, State.endSet_pends hs armed 1⟩,
    fun early => completes_of_eq rfl (State.on_of_false early ..) rfl⟩

section
variable {d a v : Nat} {s : State} (hs : s.Sound) (reach : s.hostReach d = true)
include hs reach

/-- ACQ_CMD with both bits (R193). -/
theorem acqCmd_rejected (arm : bitAt v 0 = true) (stop : bitAt v 1 = true) :
    Completes (.acqCmdArm d a v) s (fun t => t.rd F.ACQ_STATUS.CMD_REJECT [d, a] = 1 ∧
      ∀ k : RegKey, k ≠ ⟨.ACQ_STATUS, F.ACQ_STATUS.CMD_REJECT.lo, [d, a]⟩ → t.regs.get k = s.regs.get k) ∧
    Completes (.acqCmdStop d a v) s fun t => t.rd F.ACQ_STATUS.CMD_REJECT [d, a] = 1 ∧
      ∀ k : RegKey, k ≠ ⟨.ACQ_STATUS, F.ACQ_STATUS.CMD_REJECT.lo, [d, a]⟩ → t.regs.get k = s.regs.get k :=
  ⟨completes_of_eq rfl (State.acqCmd_of_both reach arm stop ..) (State.cmdReject_shows hs d a),
    completes_of_eq rfl (State.acqCmd_of_both reach arm stop ..) (State.cmdReject_shows hs d a)⟩

omit hs in
/-- ACQ_CMD with neither bit (R193). -/
theorem acqCmd_idle (arm : bitAt v 0 = false) (stop : bitAt v 1 = false) :
    Completes (.acqCmdArm d a v) s (fun t => t = s) ∧ Completes (.acqCmdStop d a v) s fun t => t = s :=
  ⟨completes_of_eq rfl ((State.acqCmd_of_noArm reach arm ..).trans (State.on_of_false arm ..)) rfl,
    completes_of_eq rfl ((State.acqCmd_of_noArm reach arm ..).trans (State.on_of_false stop ..)) rfl⟩

/-- ACQ_CMD with STOP alone (R193, R196). -/
theorem acqCmdStop_stops (hd : d < 2) (ha : a < 3) (arm : bitAt v 0 = false) (stop : bitAt v 1 = true) :
    (s.rd F.ACQ_STATUS.STATE [d, a] ≠ 0 → (s.acqOf d a).stopAt = none → Completes (.acqCmdStop d a v) s fun t =>
      (t.acqOf d a).stopAt = some (4096 * s.nextBlk d) ∧ t.rd F.ACQ_STATUS.STATE [d, a] = s.rd F.ACQ_STATUS.STATE [d, a]) ∧
    (s.rd F.ACQ_STATUS.STATE [d, a] = 0 → Completes (.acqCmdStop d a v) s fun t => t.acq = s.acq ∧
      t.rd I.stopAsked [d, a] = (s.now + 1) % 2 ^ 128) := by
  have run : (s.acqCmd d a v fun s => s.on (bitAt v 1) fun s => s.requestStop d a (4096 * s.nextBlk d)) =
      s.requestStop d a (4096 * s.nextBlk d) := (State.acqCmd_of_noArm reach arm ..).trans (State.on_of_true stop ..)
  exact ⟨fun armed runs => completes_of_eq rfl run (State.requestStop_of_armed hs hd ha armed runs _),
    fun idle => completes_of_eq rfl run (State.requestStop_of_idle hs idle _)⟩

end

end Sys2Proof.Machine
end

section
/-!
PROOFS. What the output grid of a set follows from, and the arm of a set (R131, R142, R193, R194, R198, R377).
-/

namespace Sys2Proof.Machine

-- One proof at a time: proofs elaborated side by side ask for more memory than a compile of the whole text may take.
set_option Elab.async false

-- The output grid (R131, R142, R192) -----------------------------------------------------------------------------------------------------

/-- The registers that the output grid of a set follows from beside the mode and DT: the clock's, and the ratios of stages 7 and 8. -/
def Reg.ofGrid : List Reg := Reg.ofClock ++ [.DEC_CTRL, .DEC_RATIO, .FIR_CTRL, .RSM_CTRL, .RSM_RATIO]

/-- Two states have the same mode, clock and output grids. -/
structure SameGrid (s t : State) : Prop where
  mode : t.mode = s.mode
  dt : t.dt = s.dt
  regs : ∀ f : Fld, f.reg ∈ Reg.ofGrid → ∀ ix, t.rd f ix = s.rd f ix

namespace SameGrid

theorem of_within {rs : List Reg} {ps : List Part} {s t : State} (w : Within (Foot.of rs ps) s t) (apart : ∀ r ∈ Reg.ofGrid, r ∉ rs)
    (mode : t.mode = s.mode) (dt : t.dt = s.dt) : SameGrid s t := ⟨mode, dt, fun _ hf ix => w.rd_of (apart _ hf) ix⟩

variable {s t : State} (g : SameGrid s t)
include g

theorem isSet (f : Fld) (hf : f.reg ∈ Reg.ofGrid) (ix : List Nat) : t.isSet f ix = s.isSet f ix := congrArg (· != 0) (g.regs f hf ix)

theorem decimation (d c : Nat) : t.decimation d c = s.decimation d c := by
  simp (disch := decide) only [State.decimation, g.regs]

theorem format (d a : Nat) : t.format d a = s.format d a := by
  unfold State.format
  rw [g.isSet _ (by decide), g.regs _ (by decide)]

theorem clkStep (d a : Nat) : t.clkStep d a = s.clkStep d a := by
  have step : t.gridStep d a = s.gridStep d a := by
    unfold State.gridStep State.paired
    rw [g.decimation, g.mode]
  unfold State.clkStep
  rw [step, g.isSet _ (by decide), g.regs _ (by decide)]

theorem fractional (d : Nat) : t.fractional d = s.fractional d := by
  simp (disch := decide) only [State.fractional, g.isSet]

theorem offGrid (d : Nat) : t.offGrid d = s.offGrid d := by
  simp (disch := decide) only [State.offGrid, g.fractional, g.regs]

theorem clkRate (d : Nat) : t.clkRate d = s.clkRate d := by
  have offset : t.offsetNow d = s.offsetNow d := by simp (disch := decide) only [State.offsetNow, State.rampCycles, g.isSet, g.regs]
  unfold State.clkRate
  rw [offset, g.fractional, g.regs _ (by decide), g.regs _ (by decide)]

theorem gridPeriod (d a : Nat) : t.gridPeriod d a = s.gridPeriod d a := by
  unfold State.gridPeriod
  rw [g.clkStep, g.offGrid, g.clkRate]

theorem instOf (d clk : Nat) : t.instOf d clk = s.instOf d clk := by
  have now : t.dtInst = s.dtInst := by simp (disch := decide) only [State.dtInst, g.dt, g.regs]
  unfold State.instOf
  rw [g.offGrid, g.clkRate, now, g.regs _ (by decide)]

theorem gridDtOf (d a pos : Nat) : t.gridDtOf d a pos = s.gridDtOf d a pos := by
  unfold State.gridDtOf
  rw [g.clkStep]
  dsimp only
  rw [g.instOf]

/-- The power of an arm follows from the grid, from ACQ_CTRL and from the costs (R377). -/
theorem armPower (ctrl : ∀ f : Fld, f.reg = .ACQ_CTRL → ∀ ix, t.rd f ix = s.rd f ix) (costs : ∀ f : Fld, f.reg = .COST → ∀ ix, t.rd f ix = s.rd f ix)
    (d a : Nat) : t.armPower d a = s.armPower d a := by
  have set : ∀ f : Fld, f.reg = .ACQ_CTRL → ∀ ix, t.isSet f ix = s.isSet f ix := fun f hf ix => congrArg (· != 0) (ctrl f hf ix)
  have cost : ∀ n, t.cost n = s.cost n := fun n => costs _ rfl _
  have flows : (t.streaming d a || t.isSet F.ACQ_CTRL.SPILL [d, a]) = (s.streaming d a || s.isSet F.ACQ_CTRL.SPILL [d, a]) := by
    rw [State.streaming, State.streaming, set _ rfl, set _ rfl]
  unfold State.armPower
  rw [g.gridPeriod, g.format, flows, cost, cost]

end SameGrid

namespace State

-- The effect of an arm (R193, R197, R198) ------------------------------------------------------------------------------------------------

/-- The set's buffers and counts start afresh. -/
def armReset (s : State) (d a : Nat) (dt : Instant) : State :=
  let s := s.setAcq d a (s.armedAcq d a (s.gridAtOrAfter d a dt))
  let s := { s with library := s.library.filter fun e => !(e.die == d && e.set == a) }
  let s := (s.on (!s.streaming d a) fun s => s.wr I.libArmed [d, a] 1).wr I.libStepped [d, a] 0
  (((s.wr F.ACQ_SEG_COUNT.COUNT [d, a] 0).wr F.STR_INDEX.INDEX [d, a] 0).wr F.STR_MARK_SEQ.SEQ [d, a] 0).wr F.STR_GAP_SEQ.SEQ [d, a] 0

/-- STR_FILL and BACKPRESSURE follow. -/
def armFilled (s : State) (d a : Nat) : State :=
  let s := s.syncFill d a
  s.on (s.isSet F.STR_STATUS.BACKPRESSURE [d, a]) fun s => s.setBackpressure d a 0

/-- The set's machine enters PRE or STREAM. -/
def armEnters (s : State) (d a first : Nat) : State :=
  if s.streaming d a then (s.wr F.ACQ_STATUS.STATE [d, a] 4).on (a == 2) fun s => s.lcOpenChunk d else s.openSeg d a 0 0 first

/-- The set's sequencer is armed, and a stop of the same core cycle acts. -/
def armFollows (s : State) (d a : Nat) (dt : Instant) : State :=
  let s := s.on (!s.skeinSelected d a) fun s => s.seqArm d (s.seqOf d a) dt
  s.on (s.rd I.stopAsked [d, a] == s.now + 1) fun s => s.stopAt d a (s.rd I.stopAt [d, a])

theorem armEffect_eq (s : State) (d a : Nat) (dt : Instant) (cause : Nat) : s.armEffect d a dt cause =
    ((((s.armReset d a dt).armFilled d a).armEnters d a (s.gridAtOrAfter d a dt)).raiseAcqState d a cause).armFollows d a dt := rfl

/-- The registers of a set that its arm restarts. -/
def Reg.restarted : List Reg := [.ACQ_SEG_COUNT, .STR_INDEX, .STR_MARK_SEQ, .STR_GAP_SEQ]

theorem armReset_only (s : State) (d a : Nat) (dt : Instant) :
    Within (Foot.of (.i_libArmed :: .i_libStepped :: Reg.restarted) [.acq, .library]) s (s.armReset d a dt) := by
  unfold armReset
  extract_lets s₁ s₂ s₃
  have h₁ : Within (Foot.of (.i_libArmed :: .i_libStepped :: Reg.restarted) [.acq, .library]) s s₁ := setAcq_within (by decide +kernel) (.refl _ s) ..
  have h₂ : Within (Foot.of (.i_libArmed :: .i_libStepped :: Reg.restarted) [.acq, .library]) s s₂ := Within.set_library h₁ _ (by decide +kernel)
  have h₃ : Within (Foot.of (.i_libArmed :: .i_libStepped :: Reg.restarted) [.acq, .library]) s s₃ :=
    (h₂.on fun _ h => h.wr _ _ _ (by decide +kernel)).wr _ _ _ (by decide +kernel)
  exact (((h₃.wr _ _ _ (by decide +kernel)).wr _ _ _ (by decide +kernel)).wr _ _ _ (by decide +kernel)).wr _ _ _ (by decide +kernel)

theorem armReset_shows {s : State} (hs : s.Sound) (d a : Nat) (dt : Instant) :
    (s.armReset d a dt).rd F.ACQ_SEG_COUNT.COUNT [d, a] = 0 ∧ (s.armReset d a dt).rd F.STR_INDEX.INDEX [d, a] = 0 ∧
      (s.armReset d a dt).rd F.STR_MARK_SEQ.SEQ [d, a] = 0 ∧ (s.armReset d a dt).rd F.STR_GAP_SEQ.SEQ [d, a] = 0 := by
  unfold armReset
  extract_lets s₁ s₂ s₃
  have h₃ : s₃.Sound := by
    have h₁ : s₁.Sound := setAcq_sound hs ..
    have h₂ : s₂.Sound := ⟨h₁.regs, h₁.mem, h₁.acq, h₁.tims, h₁.acc, h₁.layers, h₁.flash⟩
    have on : (s₂.on (!s₂.streaming d a) fun s => s.wr I.libArmed [d, a] 1).Sound := by
      unfold State.on
      split
      · exact h₂.wr
      · exact h₂
    exact on.wr
  refine ⟨?_, ?_, ?_, ?_⟩
  · rw [rd_wr_of_reg (by decide), rd_wr_of_reg (by decide), rd_wr_of_reg (by decide), rd_wr_self_of_lt h₃ _ _ (by decide)]
  · rw [rd_wr_of_reg (by decide), rd_wr_of_reg (by decide), rd_wr_self_of_lt (Sound.wr h₃) _ _ (by decide)]
  · rw [rd_wr_of_reg (by decide), rd_wr_self_of_lt (Sound.wr (Sound.wr h₃)) _ _ (by decide)]
  · rw [rd_wr_self_of_lt (Sound.wr (Sound.wr (Sound.wr h₃))) _ _ (by decide)]

theorem armFilled_only (s : State) (d a : Nat) :
    Within (Foot.of (.STR_FILL :: .STR_STATUS :: Reg.ofEvents) Part.ofEvents) s (s.armFilled d a) :=
  (syncFill_within (by decide +kernel) (.refl _ s) d a).on fun _ h => setBackpressure_within (by decide +kernel) h ..

/-- A segment that opens puts the set's machine into PRE, and leaves the other fields of ACQ_STATUS (R198). -/
theorem openSeg_shows {s : State} (hs : s.Sound) (d a slot seq o : Nat) :
    (s.openSeg d a slot seq o).rd F.ACQ_STATUS.STATE [d, a] = 1 ∧
      (s.openSeg d a slot seq o).rd F.ACQ_STATUS.ARM_CHECK [d, a] = s.rd F.ACQ_STATUS.ARM_CHECK [d, a] := by
  unfold openSeg
  extract_lets x src g y s₁ s₂ s₃ s₄
  have h₁ : Within (Foot.without [.ACQ_STATUS] []) s s₁ := setAcq_within (by decide +kernel) (.refl _ s) ..
  have h₂ : Within (Foot.without [.ACQ_STATUS] []) s s₂ := h₁.on fun _ h => lcOpenRun_within (by decide +kernel) h d
  have h₃ : Within (Foot.without [.ACQ_STATUS] []) s s₃ :=
    h₂.on fun _ h => (setAcq_within (by decide +kernel) h ..).wr _ _ _ (by decide +kernel)
  have h₄ : Within (Foot.without [.ACQ_STATUS] []) s s₄ := Within.set_library h₃ _ (by decide +kernel)
  have h₅ : Within (Foot.without [.ACQ_STATUS] []) s ((s₄.clearValid d a slot).wr F.ACQ_OPEN_SLOT.SLOT [d, a] slot) :=
    (clearValid_within (by decide +kernel) h₄ ..).wr _ _ _ (by decide +kernel)
  exact ⟨rd_wr_self_of_lt (h₅.sound hs) _ _ (by decide), (rd_wr_of_lo (by decide) ..).trans (h₅.rd _ _ (by decide +kernel))⟩

theorem armEnters_only (s : State) (d a first : Nat) :
    Within (Foot.without (.ACQ_CTRL :: Reg.restarted) []) s (s.armEnters d a first) := by
  refine .ite ?_ (openSeg_within (by decide +kernel) (.refl _ s) ..)
  exact ((Within.refl _ s).wr _ _ _ (by decide +kernel)).on fun _ h => lcOpenChunk_within (by decide +kernel) h d

/-- The set's machine enters PRE, or STREAM (R198). -/
theorem armEnters_shows {s : State} (hs : s.Sound) (d a first : Nat) :
    (s.armEnters d a first).rd F.ACQ_STATUS.STATE [d, a] = (if s.rd F.ACQ_CTRL.DISC [d, a] = 0 then 1 else 4) ∧
      (s.armEnters d a first).rd F.ACQ_STATUS.ARM_CHECK [d, a] = s.rd F.ACQ_STATUS.ARM_CHECK [d, a] := by
  by_cases segments : s.rd F.ACQ_CTRL.DISC [d, a] = 0
  · have off : ¬s.streaming d a = true := by simp [streaming, isSet, segments]
    rw [armEnters, if_neg off, if_pos segments]
    exact openSeg_shows hs ..
  · have on : s.streaming d a = true := bne_iff_ne.2 segments
    rw [armEnters, if_pos on, if_neg segments]
    have rest : Within (Foot.without [.ACQ_STATUS] []) (s.wr F.ACQ_STATUS.STATE [d, a] 4)
        ((s.wr F.ACQ_STATUS.STATE [d, a] 4).on (a == 2) fun s => s.lcOpenChunk d) :=
      (Within.refl _ _).on fun _ h => lcOpenChunk_within (by decide +kernel) h d
    exact ⟨(rest.rd _ _ (by decide +kernel)).trans (rd_wr_self_of_lt hs _ _ (by decide)),
      (rest.rd _ _ (by decide +kernel)).trans (rd_wr_of_lo (by decide) ..)⟩

/-- What follows an arm leaves the set's registers and every pending bit. -/
theorem armFollows_only (s : State) (d a : Nat) (dt : Instant) :
    Within (Foot.without ([.ACQ_STATUS, .EVC_PEND, .HVS_STATUS] ++ Reg.restarted) []) s (s.armFollows d a dt) :=
  ((Within.refl _ s).on fun _ h => seqArm_within (by decide +kernel) h ..).on fun _ h => stopAt_within (by decide +kernel) h ..

end State

end Sys2Proof.Machine
end

section
/-!
PROOFS. The arm that ACQ_CMD asks for: its checks, its admission and its effect (R193, R194, R198).
-/

namespace Sys2Proof.Machine

-- One proof at a time: proofs elaborated side by side ask for more memory than a compile of the whole text may take.
set_option Elab.async false

namespace State

/-- What an arm leaves shown: its counts at 0, its machine in PRE or STREAM, ACQ_STATE pending (R193, R198, R220). -/
theorem armEffect_shows {s : State} (hs : s.Sound) (d a : Nat) (dt : Instant) (cause : Nat) :
    let t := s.armEffect d a dt cause
    t.rd F.ACQ_STATUS.ARM_CHECK [d, a] = s.rd F.ACQ_STATUS.ARM_CHECK [d, a] ∧
      t.rd F.ACQ_STATUS.STATE [d, a] = (if s.rd F.ACQ_CTRL.DISC [d, a] = 0 then 1 else 4) ∧
      t.rd F.ACQ_SEG_COUNT.COUNT [d, a] = 0 ∧ t.rd F.STR_INDEX.INDEX [d, a] = 0 ∧ t.rd F.STR_MARK_SEQ.SEQ [d, a] = 0 ∧
      t.rd F.STR_GAP_SEQ.SEQ [d, a] = 0 ∧ t.pends d 121 = true := by
  intro t
  let r := s.armReset d a dt
  let f := r.armFilled d a
  let e := f.armEnters d a (s.gridAtOrAfter d a dt)
  have run : t = (e.raiseAcqState d a cause).armFollows d a dt := armEffect_eq ..
  have reset : Within _ s r := armReset_only s d a dt
  have filled : Within _ r f := armFilled_only r d a
  have enters : Within _ f e := armEnters_only f d a _
  have follows : Within _ (e.raiseAcqState d a cause) t := armFollows_only _ d a dt
  have rSound : r.Sound := reset.sound hs
  have fSound : f.Sound := filled.sound rSound
  have eSound : e.Sound := enters.sound fSound
  have raised : ∀ g : Fld, g.reg ∉ Reg.ofEvents → (e.raiseAcqState d a cause).rd g [d, a] = e.rd g [d, a] := fun g hg => raise_rd hg ..
  obtain ⟨count, index, marks, gaps⟩ := armReset_shows hs d a dt
  obtain ⟨state, check⟩ := armEnters_shows fSound d a (s.gridAtOrAfter d a dt)
  have disc : f.rd F.ACQ_CTRL.DISC [d, a] = s.rd F.ACQ_CTRL.DISC [d, a] := (filled.rd_of (by decide) _).trans (reset.rd_of (by decide) _)
  refine ⟨?_, ?_, ?_, ?_, ?_, ?_, ?_⟩
  · rw [follows.rd _ _ (by decide +kernel), raised _ (by decide), check, filled.rd_of (by decide), reset.rd_of (by decide)]
  · rw [follows.rd _ _ (by decide +kernel), raised _ (by decide), state, disc]
  · rw [follows.rd _ _ (by decide +kernel), raised _ (by decide), enters.rd _ _ (by decide +kernel), filled.rd_of (by decide), count]
  · rw [follows.rd _ _ (by decide +kernel), raised _ (by decide), enters.rd _ _ (by decide +kernel), filled.rd_of (by decide), index]
  · rw [follows.rd _ _ (by decide +kernel), raised _ (by decide), enters.rd _ _ (by decide +kernel), filled.rd_of (by decide), marks]
  · rw [follows.rd _ _ (by decide +kernel), raised _ (by decide), enters.rd _ _ (by decide +kernel), filled.rd_of (by decide), gaps]
  · exact (Keeps.of_within (follows.mono (by decide +kernel))).pends (raise_sound eSound ..) _ _ (raise_pends eSound ..)

theorem recordSeqCheck_only (s : State) (d a code : Nat) : Within (Foot.of [.DEC_STATUS, .TRG_SEQ_STATUS] []) s (s.recordSeqCheck d a code) :=
  recordSeqCheck_within (by decide +kernel) (.refl _ s) ..

/-- An arm whose checks fail records its code and leaves the set's machine (R194). -/
theorem requestArm_of_check {s : State} (hs : s.Sound) {d a : Nat} (fails : s.armCheck d a ≠ 0) (dt : Instant) (cue : Bool)
    (cmd : Option (MbxHdr × Nat)) :
    (s.requestArm d a dt cue cmd).1.rd F.ACQ_STATUS.ARM_CHECK [d, a] = s.armCheck d a % 2 ^ 16 ∧
      (s.requestArm d a dt cue cmd).1.rd F.ACQ_STATUS.STATE [d, a] = s.rd F.ACQ_STATUS.STATE [d, a] := by
  have told := recordSeqCheck_only s d a (s.armCheck d a)
  unfold requestArm
  dsimp only
  rw [if_pos fails]
  exact ⟨rd_wr_self (told.sound hs).regs .., (rd_wr_of_lo (by decide) ..).trans (told.rd_of (by decide) _)⟩

/-- An arm that the checks and the shares let through takes effect (R193, R194, R377). -/
theorem requestArm_of_room {s : State} {d a : Nat} (check : s.armCheck d a = 0) (cool : s.rd F.PWR_STATUS.THERMAL [d] = 0)
    (fits : s.fits [d] (s.armPower d a) 0 = true) (dt : Instant) (cmd : Option (MbxHdr × Nat)) :
    (s.requestArm d a dt false cmd).1 =
      (((s.recordSeqCheck d a 0).charge [d] (s.armPower d a) 0).wr F.ACQ_STATUS.ARM_CHECK [d, a] 0).armEffect d a dt 0 := by
  let u : State := s.recordSeqCheck d a 0
  have told : Within _ s u := recordSeqCheck_only s d a 0
  have grid : SameGrid s u := .of_within told (by decide) (told.parts .mode (by decide +kernel)) (told.parts .dt (by decide +kernel))
  have power : u.armPower d a = s.armPower d a :=
    grid.armPower (fun f hf ix => told.rd_of (by rw [hf]; decide) ix) (fun f hf ix => told.rd_of (by rw [hf]; decide) ix) d a
  have cool' : u.rd F.PWR_STATUS.THERMAL [d] = 0 := (told.rd_of (by decide) _).trans cool
  have fits' : u.fits [d] (u.armPower d a) 0 = true := by
    rw [power, ← fits]
    unfold State.fits shareMw shareMj
    simp only [told.rd_of (f := F.HVS_SHARE.VALUE) (by decide)]
  have granted : u.harvestArm d a false cmd = (u.charge [d] (s.armPower d a) 0, .granted) := by
    rw [harvestArm, if_neg (by simp), harvest_of_room (dp := fun s => (s.armPower d a : Int)) cool' fits', power]
  unfold requestArm
  rw [check]
  dsimp only
  rw [if_neg (by decide), granted]

end State

section
variable {d a v : Nat} {s : State} (hs : s.Sound) (reach : s.hostReach d = true) (arm : bitAt v 0 = true) (stop : bitAt v 1 = false)
include hs reach arm stop

/-- ACQ_CMD with ARM alone (R193, R194). -/
theorem acqCmdArm_arms :
    (s.armCheck d a ≠ 0 → Completes (.acqCmdArm d a v) s fun t =>
      t.rd F.ACQ_STATUS.ARM_CHECK [d, a] = s.armCheck d a % 2 ^ 16 ∧ t.rd F.ACQ_STATUS.STATE [d, a] = s.rd F.ACQ_STATUS.STATE [d, a]) ∧
    (s.armCheck d a = 0 → s.rd F.PWR_STATUS.THERMAL [d] = 0 → s.fits [d] (s.armPower d a) 0 = true →
      Completes (.acqCmdArm d a v) s fun t => t.rd F.ACQ_STATUS.ARM_CHECK [d, a] = 0 ∧
        t.rd F.ACQ_STATUS.STATE [d, a] = (if s.rd F.ACQ_CTRL.DISC [d, a] = 0 then 1 else 4) ∧ t.rd F.ACQ_SEG_COUNT.COUNT [d, a] = 0 ∧
        t.rd F.STR_INDEX.INDEX [d, a] = 0 ∧ t.rd F.STR_MARK_SEQ.SEQ [d, a] = 0 ∧ t.rd F.STR_GAP_SEQ.SEQ [d, a] = 0 ∧
        t.pends d 121 = true) := by
  have run : (s.acqCmd d a v fun s => s.on (bitAt v 0) fun s => (s.requestArm d a (4096 * s.nextBlk d) false none).1) =
      (s.requestArm d a (4096 * s.nextBlk d) false none).1 := (State.acqCmd_of_noStop reach stop ..).trans (State.on_of_true arm ..)
  refine ⟨fun fails => completes_of_eq rfl run (State.requestArm_of_check hs fails ..), fun check cool fits => ?_⟩
  let c : State := (s.recordSeqCheck d a 0).charge [d] (s.armPower d a) 0
  have told := State.recordSeqCheck_only s d a 0
  have sound : c.Sound := State.charge_sound (told.sound hs) ..
  have disc : (c.wr F.ACQ_STATUS.ARM_CHECK [d, a] 0).rd F.ACQ_CTRL.DISC [d, a] = s.rd F.ACQ_CTRL.DISC [d, a] := by
    rw [State.rd_wr_of_reg (by decide), State.charge_rd (by decide), told.rd_of (by decide)]
  obtain ⟨kept, state, rest⟩ := State.armEffect_shows (State.Sound.wr sound) d a (4096 * s.nextBlk d) 0
  refine completes_of_eq rfl (run.trans (State.requestArm_of_room check cool fits ..)) ⟨?_, ?_, rest⟩
  · exact kept.trans (State.rd_wr_self_of_lt sound _ _ (by decide))
  · rw [state, disc]

end

end Sys2Proof.Machine
end

section
/-!
PROOFS. Commits that no mark waits for and no trigger follows: the tick of the logic set, and a sample that comes too early (R191, R198, R210).
-/

namespace Sys2Proof.Machine

-- One proof at a time: proofs elaborated side by side ask for more memory than a compile of the whole text may take.
set_option Elab.async false

namespace State

/-- Without marks that wait nothing is fixed (R210). -/
theorem settleMarks_of_none {s : State} {d a : Nat} (none : (s.acqOf d a).markWait = []) (pos : Nat) (inGap : Bool) (index : Nat) :
    s.settleMarks d a pos inGap index = s.setAcq d a (s.acqOf d a) := by
  have same : { s.acqOf d a with markWait := [] } = s.acqOf d a := by rw [← none]
  unfold settleMarks
  dsimp only
  rw [none, List.filter_nil, List.filter_nil, same]
  rfl

/-- Without a trigger the segment machine stays (R198). -/
theorem advanceSeg_of_none {s : State} {d a : Nat} (none : (s.acqOf d a).seg.trig = none) : s.advanceSeg d a = s := by
  unfold advanceSeg
  dsimp only
  rw [none]

/-- Without a stop instant every position is stored (R196). -/
theorem beforeStop_of_none {s : State} {d a : Nat} (runs : (s.acqOf d a).stopAt = none) (pos : Nat) : s.beforeStop d a pos = true := by
  unfold beforeStop
  rw [runs]

/-- The logic set passes a tick (R198). -/
theorem lcPass_shows {s : State} (hs : s.Sound) {d k : Nat} (hd : d < 2) (armed : s.rd F.ACQ_STATUS.STATE [d, 2] ≠ 0)
    (ahead : (s.acqOf d 2).next ≤ k) (runs : (s.acqOf d 2).stopAt = none) (trig : (s.acqOf d 2).seg.trig = none)
    (marks : (s.acqOf d 2).markWait = []) :
    ((s.lcPass d k).acqOf d 2).next = k + 1 ∧ (s.lcPass d k).rd F.STR_INDEX.INDEX [d, 2] = (k + 1) % 2 ^ 64 ∧
      ∀ z, (s.lcPass d k).memGet z = s.memGet z := by
  have on : s.armed d 2 = true := bne_iff_ne.2 armed
  let u : State := s.setAcq d 2 (s.acqOf d 2)
  let w : State := (u.setAcq d 2 { s.acqOf d 2 with next := k + 1 }).wr F.STR_INDEX.INDEX [d, 2] (k + 1)
  have uSound : u.Sound := setAcq_sound hs ..
  have own : u.acqOf d 2 = s.acqOf d 2 := acqOf_setAcq hs hd (by decide) _
  have now : w.acqOf d 2 = { s.acqOf d 2 with next := k + 1 } := acqOf_setAcq uSound hd (by decide) _
  have run : s.lcPass d k = w := by
    have passes : ¬(!s.armed d 2 || decide (k < (s.acqOf d 2).next) || !s.beforeStop d 2 k) = true := by
      rw [on, beforeStop_of_none runs, decide_eq_false (Nat.not_lt.2 ahead)]
      decide
    unfold lcPass
    dsimp only
    rw [if_neg passes, settleMarks_of_none marks, own]
    exact advanceSeg_of_none (by rw [now]; exact trig)
  rw [run]
  exact ⟨by rw [now], rd_wr_self (setAcq_sound uSound ..).regs .., fun _ => rfl⟩

end State

/-- A logic tick moves the position of the logic set on (R198). -/
theorem logicTick_passes {s : State} (hs : s.Sound) {d k : Nat} (hd : d < 2) (armed : s.rd F.ACQ_STATUS.STATE [d, 2] ≠ 0)
    (ahead : (s.acqOf d 2).next ≤ k) (runs : (s.acqOf d 2).stopAt = none) (trig : (s.acqOf d 2).seg.trig = none)
    (marks : (s.acqOf d 2).markWait = []) :
    Completes (.storedSampleCommit d 2 (.logicTick k)) s fun t => (t.acqOf d 2).next = k + 1 ∧
      t.rd F.STR_INDEX.INDEX [d, 2] = (k + 1) % 2 ^ 64 ∧ ∀ z, t.memGet z = s.memGet z :=
  completes_of_eq rfl (State.on_of_true rfl ..) (State.lcPass_shows hs hd armed ahead runs trig marks)

/-- A channel that samples: an acquiring mode, a channel with an effect of its own, a valid configuration (R123, R145). -/
theorem not_quiet {s : State} {d a : Nat} (ha : a < 2) (acquires : s.mode.acquires = true) (live : s.inert a = false) (valid : s.condConfig d a = 0) :
    ¬(2 ≤ a ∨ !s.mode.acquires ∨ s.inert a ∨ s.condConfig d a ≠ 0) := by
  simp [acquires, live, valid, ha]

/-- A sample does nothing before the cycle in which it leaves the staging buffer (R191). -/
theorem storedSample_early {s : State} {d a : Nat} {first : Int} {xs : List Int} (ha : a < 2) (acquires : s.mode.acquires = true)
    (live : s.inert a = false) (valid : s.condConfig d a = 0) (early : (s.blkNo d : Int) < s.commitBlk d a (s.runPos d a first)) :
    Completes (.storedSampleCommit d a (.codes first xs)) s fun t => t = s := by
  have run : execStoredSampleCommit d a (.codes first xs) s = .next s := by
    unfold execStoredSampleCommit
    dsimp only
    rw [if_neg (not_quiet ha acquires live valid), if_pos early]
  exact ⟨s, run, rfl⟩

end Sys2Proof.Machine
end

section
/-!
PROOFS. A stored sample in memory: the bits of two bytes, and no others (R86, R87, R183, R184).
-/

namespace Sys2Proof

-- One proof at a time: proofs elaborated side by side ask for more memory than a compile of the whole text may take.
set_option Elab.async false

/-- A number with the `w` bits from bit `lo` replaced. -/
def withSlice (n lo w v : Nat) : Nat := n - slice n lo w * 2 ^ lo + v % 2 ^ w * 2 ^ lo

/-- The bits below stay, those above stay, and those between are the new ones. -/
theorem withSlice_eq (n lo w v : Nat) :
    withSlice n lo w v = n % 2 ^ lo + v % 2 ^ w * 2 ^ lo + n / 2 ^ (lo + w) * 2 ^ (lo + w) := by
  have split : n = n % 2 ^ lo + slice n lo w * 2 ^ lo + n / 2 ^ (lo + w) * 2 ^ (lo + w) := by
    calc n = n % 2 ^ lo + 2 ^ lo * (n / 2 ^ lo) := (Nat.mod_add_div ..).symm
      _ = n % 2 ^ lo + 2 ^ lo * (n / 2 ^ lo % 2 ^ w + 2 ^ w * (n / 2 ^ lo / 2 ^ w)) := by rw [Nat.mod_add_div (n / 2 ^ lo), Nat.mod_add_div]
      _ = _ := by rw [slice, Nat.div_div_eq_div_mul, ← Nat.pow_add, Nat.mul_add, ← Nat.mul_assoc, ← Nat.pow_add, ← Nat.add_assoc,
        Nat.mul_comm (2 ^ lo), Nat.mul_comm (2 ^ (lo + w))]
  rw [withSlice]
  omega

/-- A number of `m` bits with some of them replaced has `m` bits. -/
theorem withSlice_lt {n lo w m : Nat} (hn : n < 2 ^ m) (fits : lo + w ≤ m) (v : Nat) : withSlice n lo w v < 2 ^ m := by
  have low : n % 2 ^ lo + v % 2 ^ w * 2 ^ lo < 2 ^ (lo + w) := by
    have below : n % 2 ^ lo < 2 ^ lo := Nat.mod_lt _ (Nat.two_pow_pos _)
    have between : v % 2 ^ w + 1 ≤ 2 ^ w := Nat.mod_lt _ (Nat.two_pow_pos _)
    calc n % 2 ^ lo + v % 2 ^ w * 2 ^ lo < (v % 2 ^ w + 1) * 2 ^ lo := by rw [Nat.add_one_mul]; omega
      _ ≤ 2 ^ w * 2 ^ lo := Nat.mul_le_mul_right _ between
      _ = 2 ^ (lo + w) := by rw [← Nat.pow_add, Nat.add_comm]
  have high : n / 2 ^ (lo + w) + 1 ≤ 2 ^ (m - (lo + w)) :=
    Nat.div_lt_of_lt_mul (by rw [← Nat.pow_add, Nat.add_sub_cancel' fits]; exact hn)
  calc withSlice n lo w v = n % 2 ^ lo + v % 2 ^ w * 2 ^ lo + n / 2 ^ (lo + w) * 2 ^ (lo + w) := withSlice_eq ..
    _ < (n / 2 ^ (lo + w) + 1) * 2 ^ (lo + w) := by rw [Nat.add_one_mul]; omega
    _ ≤ 2 ^ (m - (lo + w)) * 2 ^ (lo + w) := Nat.mul_le_mul_right _ high
    _ = 2 ^ m := by rw [← Nat.pow_add, Nat.sub_add_cancel fits]

namespace Machine.State

/-- Two bytes of memory side by side, as one number (R5). -/
def memTwo (s : State) (p q : Nat) : Nat := (s.memGet p).toNat + 256 * (s.memGet q).toNat

theorem memTwo_lt (s : State) (p q : Nat) : s.memTwo p q < 2 ^ 16 := by
  have low := (s.memGet p).isLt
  have high := (s.memGet q).isLt
  rw [memTwo]
  omega

/-- Two bytes written read as the number written, and every other byte as before. -/
theorem memPut_two {s : State} (hs : s.Sound) {p q : Nat} (apart : p ≠ q) {n : Nat} (hn : n < 2 ^ 16) :
    let t := (s.memPut p (BitVec.ofNat 8 n)).memPut q (BitVec.ofNat 8 (n / 256))
    t.memTwo p q = n ∧ ∀ z, z ≠ p → z ≠ q → t.memGet z = s.memGet z := by
  intro t
  have first : t.memGet p = BitVec.ofNat 8 n := (memGet_memPut_of_ne apart ..).trans (memGet_memPut_self hs.mem ..)
  have second : t.memGet q = BitVec.ofNat 8 (n / 256) := memGet_memPut_self (Memory.wf_put hs.mem ..) ..
  refine ⟨?_, fun z hp hq => (memGet_memPut_of_ne hq ..).trans (memGet_memPut_of_ne hp ..)⟩
  rw [memTwo, first, second, BitVec.toNat_ofNat, BitVec.toNat_ofNat]
  omega

/-- Offsets of a set's record space that follow each other lie at different addresses (R183, R184). -/
theorem recordAddr_succ_ne (s : State) {a : Nat} (ha : a < 2) (d off : Nat) : s.recordAddr d a off ≠ s.recordAddr d a (off + 1) := by
  have analogue : ¬a = 2 := by omega
  unfold recordAddr memAddr
  rw [if_neg analogue, if_neg analogue]
  by_cases paired : s.paired = true
  · rw [if_pos paired, if_pos paired]
    omega
  · rw [if_neg paired, if_neg paired]
    omega

/-- A stored sample that lies in two bytes: its bits there are the word's, the other bits and bytes are as before (R86, R87). -/
theorem writeSample_two {s : State} (hs : s.Sound) {a : Nat} (ha : a < 2) (d base n v : Nat) {bits : Nat} (fits : n * bits % 8 + bits ≤ 16)
    (wide : 8 < n * bits % 8 + bits) :
    let p := s.recordAddr d a (base + n * bits / 8)
    let q := s.recordAddr d a (base + n * bits / 8 + 1)
    (s.writeSample d a base n bits v).memTwo p q = withSlice (s.memTwo p q) (n * bits % 8) bits v ∧
      ∀ z, z ≠ p → z ≠ q → (s.writeSample d a base n bits v).memGet z = s.memGet z := by
  intro p q
  have two : (n * bits % 8 + bits + 7) / 8 = 2 := by omega
  have old : ofLe [s.memGet p, s.memGet q] = s.memTwo p q := rfl
  have run : s.writeSample d a base n bits v =
      (s.memPut p (BitVec.ofNat 8 (withSlice (s.memTwo p q) (n * bits % 8) bits v))).memPut q
        (BitVec.ofNat 8 (withSlice (s.memTwo p q) (n * bits % 8) bits v / 256)) := by
    unfold writeSample
    dsimp only
    rw [two]
    rfl
  rw [run]
  exact memPut_two hs (recordAddr_succ_ne s ha d _) (withSlice_lt (memTwo_lt ..) fits v)

end Machine.State

end Sys2Proof
end

section
/-!
PROOFS. What a run of codes counts leaves what stages 4 to 7 and the commit read (R75, R82, R125, R127, R131 to R138).
-/

namespace Sys2Proof.Machine

-- One proof at a time: proofs elaborated side by side ask for more memory than a compile of the whole text may take.
set_option Elab.async false

/-- The registers that counting clips and saturations may change (R82, R125). -/
def Reg.ofCounts : List Reg :=
  [.CNV_CLIP_COUNT, .CNV_STATUS, .EQ_SAT_COUNT, .EQ_STATUS, .DEC_SAT_COUNT, .DEC_STATUS, .RSM_SAT_COUNT, .RSM_STATUS] ++ Reg.ofEvents

/-- From `s` to `t` clips and saturations are counted, and nothing else: of EQ_STATUS the sticky bit alone may change. -/
structure Counts (s t : State) : Prop where
  only : Within (Foot.of Reg.ofCounts (.counted :: .fresh :: Part.ofEvents)) s t
  eq : ∀ f : Fld, f.reg = .EQ_STATUS → f.lo ≠ F.EQ_STATUS.SAT_STICKY.lo → ∀ ix, t.rd f ix = s.rd f ix

namespace Counts

theorem refl (s : State) : Counts s s := ⟨.refl _ s, fun _ _ _ _ => rfl⟩

theorem trans {s t u : State} (h : Counts s t) (k : Counts t u) : Counts s u :=
  ⟨h.only.trans k.only, fun f hr hl ix => (k.eq f hr hl ix).trans (h.eq f hr hl ix)⟩

/-- A step that leaves EQ_STATUS. -/
theorem of_within {s t : State} (only : Within (Foot.of Reg.ofCounts (.counted :: .fresh :: Part.ofEvents)) s t)
    (eq : Within (Foot.without [.EQ_STATUS] []) s t) : Counts s t :=
  ⟨only, fun f hr _ ix => eq.rd f ix (by rw [hr]; decide +kernel)⟩

theorem each {α : Type} {f : State → α → State} (step : ∀ u x, Counts u (f u x)) (l : List α) (s : State) : Counts s (s.each l f) := by
  induction l generalizing s with
  | nil => exact .refl s
  | cons x l ih => exact (step s x).trans (ih _)

end Counts

namespace State

theorem countBlock_counts (s : State) (d c stage block : Nat) : Counts s (s.countBlock d c stage block) := by
  have only : Within (Foot.of Reg.ofCounts (.counted :: .fresh :: Part.ofEvents)) s (s.countBlock d c stage block) :=
    countBlock_within (by decide +kernel) (.refl _ s) ..
  refine ⟨only, fun f hr hl ix => ?_⟩
  have apart : ∀ r : Reg, r ≠ .EQ_STATUS → f.reg ≠ r := fun r h e => h (e.symm.trans hr)
  have counted : ∀ (u : State) (g : Fld) (n : Nat), g.reg ≠ .EQ_STATUS → (u.count g [d, c] n).rd f ix = u.rd f ix := fun u g n hg =>
    rd_wr_of_reg (apart _ hg) ..
  have stuck : ∀ (u : State) (g : Fld) (src payload : Nat), f.reg ≠ g.reg ∨ f.lo ≠ g.lo → (u.stick g [d, c] d src payload).rd f ix = u.rd f ix := by
    intro u g src payload h
    unfold stick
    split
    · rfl
    · rw [raise_rd (by rw [hr]; decide), flag_rd]
      obtain h | h := h
      · exact rd_wr_of_reg h ..
      · exact rd_wr_of_lo h ..
  unfold countBlock
  dsimp only
  split
  · rfl
  · split
    · exact (flag_rd ..).trans ((rd_wr_of_reg (apart _ (by decide)) ..).trans (counted _ _ _ (by decide)))
    · exact (stuck _ _ _ _ (.inr hl)).trans (counted _ _ _ (by decide))
    · exact (stuck _ _ _ _ (.inl (apart _ (by decide)))).trans (counted _ _ _ (by decide))
    · exact (stuck _ _ _ _ (.inl (apart _ (by decide)))).trans (counted _ _ _ (by decide))

theorem countSamples_counts (s : State) (d c stage : Nat) (ns : List Int) : Counts s (s.countSamples d c stage ns) :=
  Counts.each (fun u b => u.countBlock_counts d c stage b) ..

theorem runSeen_counts (s : State) (d c : Nat) (first : Int) (xs : List Int) : Counts s (s.runSeen d c first xs) :=
  (countSamples_counts ..).trans (countSamples_counts ..)

end State

-- What stays the same ------------------------------------------------------------------------------------------------------------------------

namespace Counts

variable {s t : State} (h : Counts s t)
include h

theorem mode : t.mode = s.mode := h.only.parts .mode (by decide +kernel)

theorem acq : t.acq = s.acq := h.only.parts .acq (by decide +kernel)

theorem fades : t.fades = s.fades := h.only.parts .fades (by decide +kernel)

theorem spans : t.spans = s.spans := h.only.parts .spans (by decide +kernel)

theorem mem (a : Nat) : t.memGet a = s.memGet a := h.only.parts .mem (by decide +kernel) a

theorem grid : SameGrid s t := .of_within h.only (by decide) h.mode (h.only.parts .dt (by decide +kernel))

theorem rd {f : Fld} (hf : f.reg ∉ Reg.ofCounts) (ix : List Nat) : t.rd f ix = s.rd f ix := h.only.rd_of hf ix

theorem sliceAt (d c p : Nat) : t.sliceAt d c p = s.sliceAt d c p := by
  simp (disch := decide) only [State.sliceAt, State.paired, h.mode, h.rd]

theorem stage4 (d c : Nat) (first : Int) (codes : List Int) : t.stage4 d c first codes = s.stage4 d c first codes := by
  simp (disch := decide) only [State.stage4, State.trimmed, State.blockLen, State.paired, h.mode, h.sliceAt, h.rd]

theorem eqAt (d c : Nat) (n : Int) : t.eqAt d c n = s.eqAt d c n := by
  unfold State.eqAt State.isSet
  rw [h.rd (by decide), h.rd (by decide), h.eq _ rfl (by decide), h.eq _ rfl (by decide)]

/-- Stage 5 gives the same values (R127). -/
theorem stage5 (d c : Nat) (first : Int) (xs : List Int) (n : Int) : t.stage5 d c first xs n = s.stage5 d c first xs n := by
  have taps : ∀ b, t.eqTaps d c b = s.eqTaps d c b := fun b => by simp (disch := decide) only [State.eqTaps, h.rd]
  unfold State.stage5
  dsimp only
  rw [h.stage4, h.eqAt, taps]

theorem fadeAtOutput (d c m : Nat) : t.fadeAtOutput d c m = s.fadeAtOutput d c m := by
  unfold State.fadeAtOutput State.fadesOf
  rw [h.fades, h.rd (by decide)]

/-- Stage 7 gives the same values (R131 to R138). -/
theorem stage7 (d c m : Nat) (y : Int → Int) : t.stage7 d c m y = s.stage7 d c m y := by
  have taps : ∀ b, t.firTaps d c b = s.firTaps d c b := fun b => by simp (disch := decide) only [State.firTaps, h.rd]
  have inputs : t.firInputs d c m y = s.firInputs d c m y := by simp (disch := decide) only [State.firInputs, h.rd]
  have fir : ∀ u, t.firOutput d c m u = s.firOutput d c m u := fun u => by
    unfold State.firOutput
    dsimp only
    rw [h.fadeAtOutput, taps, taps]
  unfold State.stage7
  rw [h.rd (by decide), h.rd (by decide), fir, inputs, h.grid.decimation]

theorem samplesOf (d c pos : Nat) : t.samplesOf d c pos = s.samplesOf d c pos := by
  have outputs : t.outputsOf d c pos = s.outputsOf d c pos := by
    unfold State.outputsOf State.isSet
    rw [h.rd (by decide), h.rd (by decide)]
  have span : t.stage7Span d c = s.stage7Span d c := by
    unfold State.stage7Span
    rw [h.rd (by decide), h.rd (by decide)]
  unfold State.samplesOf
  rw [outputs, span, h.grid.decimation]

theorem calAt (d a pos : Nat) : t.calAt d a pos = s.calAt d a pos := by
  unfold State.calAt State.spanMeets
  rw [h.grid.gridDtOf, h.spans]

theorem remapHolds (d a : Nat) : t.remapHolds d a = s.remapHolds d a := by
  simp (disch := decide) only [State.remapHolds, State.stackHeld, State.paired, State.isSet, h.mode, h.rd]

theorem recordAddr (d a off : Nat) : t.recordAddr d a off = s.recordAddr d a off := by
  simp (disch := decide) only [State.recordAddr, State.depth, State.paired, h.mode, h.rd]

end Counts

end Sys2Proof.Machine
end

section
/-!
PROOFS. A stored sample commits into the open slot: the position, the word and its place in memory (R86, R87, R191, R198).
-/

namespace Sys2Proof.Machine

-- One proof at a time: proofs elaborated side by side ask for more memory than a compile of the whole text may take.
set_option Elab.async false

namespace State

/-- The word of a sample of 10 or 16 bits, from its stage 7 value (R86, R87). -/
def plainWord (format : Nat) (z : Int) : Nat := if format = 0 then sfield 10 (p10Code (satInt 16 z)) else sfield 16 (satInt 16 z)

theorem isSet_of_zero {s : State} {f : Fld} {ix : List Nat} (h : s.rd f ix = 0) : s.isSet f ix = false := by
  rw [isSet, h]
  rfl

/-- Without the resampler a position stored with one value has the word of its stage 7 output (R131 to R134). -/
theorem sampleWord_of_plain {s : State} {d a pos : Nat} {first : Int} {xs : List Int} (direct : s.rd F.RSM_CTRL.ENABLE [d, a] = 0)
    (single : s.format d a ≠ 2) (holds : runHolds first xs ((s.samplesOf d a pos).1 - 15) ((s.samplesOf d a pos).2 + 16) = true) :
    ∃ w, Counts s w ∧ s.sampleWord d a pos first xs =
      (w, some (plainWord (s.format d a) (s.stage7 d a pos fun i => (s.stage5 d a first xs i).1))) := by
  unfold sampleWord
  extract_lets n need y ys o ms sat w z at_ v
  have counts : Counts s w := countSamples_counts ..
  have off : ¬w.isSet F.RSM_CTRL.ENABLE [d, a] = true := by
    rw [isSet_of_zero ((counts.rd (by decide) _).trans direct)]
    decide
  refine ⟨w, counts, ?_⟩
  rw [if_neg (by rw [holds]; decide), if_neg single, if_neg off, counts.grid.format, plainWord, ← counts.stage7]

theorem closeGap_of_none {s : State} {d a : Nat} (none : (s.acqOf d a).gap = none) : s.closeGap d a = s := by
  unfold closeGap
  dsimp only
  rw [none]

/-- A sample that commits into a slot with no gap, mark or trigger to see to is written, and the next position follows (R198). -/
theorem commitSlot_of_plain {s : State} (hs : s.Sound) {d a : Nat} (hd : d < 2) (ha : a < 2) (gap : (s.acqOf d a).gap = none)
    (marks : (s.acqOf d a).markWait = []) (trig : (s.acqOf d a).seg.trig = none) (v : Nat) :
    let x := s.acqOf d a
    let len := max 1 (s.rd F.ACQ_SEG_LEN.LEN [d, a])
    let bits := formatBits (s.format d a)
    ((s.commitSlot d a v).acqOf d a).next = x.next + 1 ∧
      ∀ z, (s.commitSlot d a v).memGet z = (s.writeSample d a (x.seg.slot * len * bits / 8) ((x.next - x.seg.o) % len) bits v).memGet z := by
  intro x len bits
  let u : State := s.writeSample d a (x.seg.slot * len * bits / 8) ((x.next - x.seg.o) % len) bits v
  have wrote : Within _ s u := writeSample_only ..
  have uSound : u.Sound := wrote.sound hs
  have own : u.acqOf d a = x := acqOf_congr (wrote.parts .acq (by decide +kernel)) d a
  let w : State := u.setAcq d a x
  have wSound : w.Sound := setAcq_sound uSound ..
  have kept : w.acqOf d a = x := acqOf_setAcq uSound hd (by omega) x
  have moved : (w.setAcq d a { x with next := x.next + 1 }).acqOf d a = { x with next := x.next + 1 } := acqOf_setAcq wSound hd (by omega) _
  have run : s.commitSlot d a v = w.setAcq d a { x with next := x.next + 1 } := by
    have settled : u.settleMarks d a x.next false 0 = w := by rw [settleMarks_of_none (by rw [own]; exact marks), own]
    unfold commitSlot
    rw [closeGap_of_none gap]
    show ((u.settleMarks d a x.next false 0).setAcq d a
      { (u.settleMarks d a x.next false 0).acqOf d a with next := x.next + 1 }).advanceSeg d a = _
    rw [settled, kept]
    exact advanceSeg_of_none (by rw [moved]; exact trig)
  rw [run]
  exact ⟨by rw [moved], fun _ => rfl⟩

/-- A sample that nothing drops, of a set in PRE, commits into the open slot (R198). -/
theorem commitSample_of_pre {s : State} {d a : Nat} (pre : s.rd F.ACQ_STATUS.STATE [d, a] = 1) (runs : (s.acqOf d a).stopAt = none)
    (cal : s.calAt d a (s.acqOf d a).next = false) (free : s.remapHolds d a = false) (v : Nat) : s.commitSample d a v = s.commitSlot d a v := by
  have on : s.armed d a = true := by simp [armed, isSet, pre]
  have state : s.acqState d a = 1 := pre
  unfold commitSample
  rw [if_neg (by rw [on, beforeStop_of_none runs]; decide), if_neg (by rw [cal]; decide), if_neg (by rw [free]; decide), state]
  rfl

end State

/-- What a stored sample of a set in PRE comes to: codes are counted, and its word commits into the open slot (R191, R198). -/
theorem storedSample_commits {d a : Nat} {first : Int} {xs : List Int} {s : State} (ha : a < 2) (acquires : s.mode.acquires = true)
    (live : s.inert a = false) (valid : s.condConfig d a = 0) (pre : s.rd F.ACQ_STATUS.STATE [d, a] = 1) (direct : s.rd F.RSM_CTRL.ENABLE [d, a] = 0)
    (due : s.commitBlk d a (s.acqOf d a).next ≤ (s.blkNo d : Int)) (now : s.commitWaits d a = false)
    (cal : s.calAt d a (s.acqOf d a).next = false) (free : s.remapHolds d a = false) (runs : (s.acqOf d a).stopAt = none)
    (single : s.format d a ≠ 2)
    (holds : runHolds first xs ((s.samplesOf d a (s.acqOf d a).next).1 - 15) ((s.samplesOf d a (s.acqOf d a).next).2 + 16) = true) :
    ∃ w, Counts s w ∧ exec (.storedSampleCommit d a (.codes first xs)) s = .next (w.commitSlot d a
      (State.plainWord (s.format d a) (s.stage7 d a (s.acqOf d a).next fun i => (s.stage5 d a first xs i).1))) := by
  have pos : s.runPos d a first = (s.acqOf d a).next := if_pos (bne_iff_ne.2 (by rw [pre]; decide))
  have seen := State.runSeen_counts s d a first xs
  let u : State := s.runSeen d a first xs
  obtain ⟨w, more, word⟩ := State.sampleWord_of_plain (s := u) (pos := (s.acqOf d a).next) (first := first) (xs := xs)
    ((seen.rd (by decide) _).trans direct) (by rw [seen.grid.format]; exact single) (by rw [seen.samplesOf]; exact holds)
  have same : (fun i => (u.stage5 d a first xs i).1) = fun i => (s.stage5 d a first xs i).1 := funext fun i => by rw [seen.stage5]
  rw [seen.grid.format, seen.stage7, same] at word
  have counts : Counts s w := seen.trans more
  have own : w.acqOf d a = s.acqOf d a := State.acqOf_congr counts.acq d a
  refine ⟨w, counts, ?_⟩
  show execStoredSampleCommit d a (.codes first xs) s = _
  unfold execStoredSampleCommit
  dsimp only
  rw [if_neg (not_quiet ha acquires live valid), pos, if_neg (Int.not_lt.2 due), if_neg (by rw [now]; decide), word]
  dsimp only
  rw [State.commitSample_of_pre ((counts.rd (by decide) _).trans pre) (by rw [own]; exact runs) (by rw [own, counts.calAt]; exact cal)
    (by rw [counts.remapHolds]; exact free)]

end Sys2Proof.Machine
end

section
/-!
PROOFS. What a stored sample stores, to the bit (R86, R87, R198); the statement of arms, stops and stored samples put together.
-/

namespace Sys2Proof.Machine

-- One proof at a time: proofs elaborated side by side ask for more memory than a compile of the whole text may take.
set_option Elab.async false

namespace State

theorem memTwo_congr {s t : State} (h : ∀ z, t.memGet z = s.memGet z) (p q : Nat) : t.memTwo p q = s.memTwo p q := by
  rw [memTwo, memTwo, h, h]

/-- SAMPLE decimation without the resampler stores P10 (R29). -/
theorem format_of_sample {s : State} {d a : Nat} (ha : a < 2) (direct : s.rd F.RSM_CTRL.ENABLE [d, a] = 0) (mode : s.rd F.DEC_CTRL.MODE [d, a] = 0) :
    s.format d a = 0 := by
  unfold format
  rw [if_neg (by omega), if_neg (by rw [isSet_of_zero direct]; decide), mode]
  rfl

/-- HIRES and FIR store S16 (R29). -/
theorem format_of_filtered {s : State} {d a : Nat} (ha : a < 2) (direct : s.rd F.RSM_CTRL.ENABLE [d, a] = 0)
    (mode : s.rd F.DEC_CTRL.MODE [d, a] ∈ [2, 3]) : s.format d a = 1 := by
  unfold format
  rw [if_neg (by omega), if_neg (by rw [isSet_of_zero direct]; decide)]
  obtain h | h := List.mem_pair.1 mode
  · rw [h]
    rfl
  · rw [h]
    rfl

/-- SAMPLE decimation passes a value of stage 5 on (R131). -/
theorem stage7_of_sample {s : State} {d a : Nat} (mode : s.rd F.DEC_CTRL.MODE [d, a] = 0) (pos : Nat) (y : Int → Int) :
    s.stage7 d a pos y = y (pos * s.decimation d a : Nat) := by
  unfold stage7
  rw [mode]
  rfl

/-- The width and the word of a sample in SAMPLE, HIRES and FIR mode without the resampler; its bits lie in two bytes (R29, R86, R87). -/
theorem format_of_direct {s : State} {d a bits word pos : Nat} {y : Int → Int} (ha : a < 2) (direct : s.rd F.RSM_CTRL.ENABLE [d, a] = 0)
    (stored : s.rd F.DEC_CTRL.MODE [d, a] = 0 ∧ bits = 10 ∧ word = sfield 10 (p10Code (satInt 16 (y (pos * s.decimation d a : Nat)))) ∨
      s.rd F.DEC_CTRL.MODE [d, a] ∈ [2, 3] ∧ bits = 16 ∧ word = sfield 16 (satInt 16 (s.stage7 d a pos y))) :
    s.format d a ≠ 2 ∧ formatBits (s.format d a) = bits ∧ plainWord (s.format d a) (s.stage7 d a pos y) = word ∧ word < 2 ^ bits ∧
      ∀ k, k * bits % 8 + bits ≤ 16 ∧ 8 < k * bits % 8 + bits := by
  obtain ⟨mode, rfl, rfl⟩ | ⟨mode, rfl, rfl⟩ := stored
  · rw [format_of_sample ha direct mode, stage7_of_sample mode]
    exact ⟨by decide, rfl, if_pos rfl, sfield_lt .., fun k => by omega⟩
  · rw [format_of_filtered ha direct mode]
    exact ⟨by decide, rfl, if_neg (by decide), sfield_lt .., fun k => by omega⟩

end State

/-- A stored sample of a set in PRE that commits: exactly its bits of two bytes change, and the next position follows (R86, R87, R198). -/
theorem storedSample_shows {d a bits word : Nat} {first : Int} {xs : List Int} {s : State} (hs : s.Sound) (hd : d < 2) (ha : a < 2)
    (acquires : s.mode.acquires = true) (live : s.inert a = false) (valid : s.condConfig d a = 0) (pre : s.rd F.ACQ_STATUS.STATE [d, a] = 1)
    (direct : s.rd F.RSM_CTRL.ENABLE [d, a] = 0) (due : s.commitBlk d a (s.acqOf d a).next ≤ (s.blkNo d : Int))
    (now : s.commitWaits d a = false) (cal : s.calAt d a (s.acqOf d a).next = false) (free : s.remapHolds d a = false)
    (gap : (s.acqOf d a).gap = none) (marks : (s.acqOf d a).markWait = []) (trig : (s.acqOf d a).seg.trig = none)
    (runs : (s.acqOf d a).stopAt = none)
    (holds : runHolds first xs ((s.samplesOf d a (s.acqOf d a).next).1 - 15) ((s.samplesOf d a (s.acqOf d a).next).2 + 16) = true)
    (stored : s.rd F.DEC_CTRL.MODE [d, a] = 0 ∧ bits = 10 ∧
        word = sfield 10 (p10Code (satInt 16 (s.stage5 d a first xs ((s.acqOf d a).next * s.decimation d a : Nat)).1)) ∨
      s.rd F.DEC_CTRL.MODE [d, a] ∈ [2, 3] ∧ bits = 16 ∧
        word = sfield 16 (satInt 16 (s.stage7 d a (s.acqOf d a).next fun i => (s.stage5 d a first xs i).1))) :
    let y := s.acqOf d a
    let len := max 1 (s.rd F.ACQ_SEG_LEN.LEN [d, a])
    let n := (y.next - y.seg.o) % len * bits
    let lo := n % 8
    let p := s.recordAddr d a (y.seg.slot * len * bits / 8 + n / 8)
    let q := s.recordAddr d a (y.seg.slot * len * bits / 8 + n / 8 + 1)
    Completes (.storedSampleCommit d a (.codes first xs)) s fun t => (t.acqOf d a).next = y.next + 1 ∧
      t.memTwo p q = s.memTwo p q % 2 ^ lo + word * 2 ^ lo + s.memTwo p q / 2 ^ (lo + bits) * 2 ^ (lo + bits) ∧
      ∀ z, z ≠ p → z ≠ q → t.memGet z = s.memGet z := by
  intro y len n lo p q
  obtain ⟨single, width, value, small, place⟩ := State.format_of_direct (y := fun i => (s.stage5 d a first xs i).1) ha direct stored
  obtain ⟨w, counts, run⟩ := storedSample_commits ha acquires live valid pre direct due now cal free runs single holds
  rw [value] at run
  have own : w.acqOf d a = y := State.acqOf_congr counts.acq d a
  have sound : w.Sound := counts.only.sound hs
  obtain ⟨next, mem⟩ := State.commitSlot_of_plain sound hd ha (by rw [own]; exact gap) (by rw [own]; exact marks) (by rw [own]; exact trig) word
  rw [own, counts.rd (by decide), counts.grid.format, width] at mem
  obtain ⟨fits, wide⟩ := place ((y.next - y.seg.o) % len)
  obtain ⟨two, others⟩ := State.writeSample_two sound ha d (y.seg.slot * len * bits / 8) ((y.next - y.seg.o) % len) word fits wide
  rw [counts.recordAddr, counts.recordAddr] at two others
  refine ⟨_, run, ?_, ?_, fun z hp hq => ?_⟩
  · rw [next, own]
  · rw [State.memTwo_congr mem, two, withSlice_eq, Nat.mod_eq_of_lt small, State.memTwo_congr counts.mem]
  · rw [mem, others z hp hq, counts.mem]

/-- Settles O18: ACQ_CMD by its bits, the arm through its checks, its admission and its effect, the stop, the stop cycle, and a stored sample
by its word and the two bytes that hold it. -/
theorem armsStopsAndStoredSamples : Obligations.ArmsStopsAndStoredSamples := by
  unfold Obligations.ArmsStopsAndStoredSamples
  refine ⟨fun d a v s hs reach hd ha => ⟨fun arm stop => acqCmd_rejected hs reach arm stop, fun arm stop => acqCmd_idle reach arm stop,
      fun arm stop => acqCmdArm_arms hs reach arm stop, fun arm stop => acqCmdStop_stops hs reach hd ha arm stop⟩,
    fun d a s hs => acqStopCycle_ends hs d a, ?_, fun d a first xs s _ ha acquires live valid early => storedSample_early ha acquires live valid early,
    fun d k s hs hd armed ahead runs trig marks => logicTick_passes hs hd armed ahead runs trig marks⟩
  intro d a bits word first xs s hs hd ha acquires live valid pre direct y stage5 due now cal free gap marks trig runs holds stored
  exact storedSample_shows hs hd ha acquires live valid pre direct due now cal free gap marks trig runs holds stored

end Sys2Proof.Machine
end
